-- ==== Sys2Proof/Word.lean ====
section
/-! DEFINITION. The word types of the part and their plainest arithmetic. -/
namespace Sys2Proof

/-- A register word (R495 to R497: every register is one aligned 32-bit word). -/
abbrev Word := BitVec 32

/-- A 64-bit word of flash, SRAM and descriptors. -/
abbrev DWord := BitVec 64

/-- One byte. -/
abbrev Byte := BitVec 8

/-- The word a natural number spells, modulo 2^32. -/
abbrev Word.ofNat (n : Nat) : Word := BitVec.ofNat 32 n

end Sys2Proof
end

