-- ==== Sys2Proof/Syntax.lean ====
section
/-! DEFINITION. The commands of the part: one constructor per row of spec/opcode_table.json, with the row's operands and,
for an event of the world outside or of a clock, what that event brings. -/
namespace Sys2Proof

/-- The two parts (R1). -/
inductive Variant where
  | ln7740 | ln7720
  deriving DecidableEq, Repr

/-- The masters of internal accesses (R19). No master issues 15 (R20). -/
inductive Master where
  | cc0 | cc1 | cc2 | cc3 | sup | leng | hostin | hdma | cdma | xlt | scrb | sec | flc | evr | dbg
  deriving DecidableEq, Repr

/-- The number of a master (R19). -/
def Master.id : Master → Nat
  | .cc0 => 0 | .cc1 => 1 | .cc2 => 2 | .cc3 => 3 | .sup => 4 | .leng => 5 | .hostin => 6 | .hdma => 7
  | .cdma => 8 | .xlt => 9 | .scrb => 10 | .sec => 11 | .flc => 12 | .evr => 13 | .dbg => 14

/-- One conversion of the servo ADC's 32 channels (R156): the codes of the SVIN inputs, and of the alternate inputs of
channels 28 to 31, not yet saturated. A command that brings samples brings those converted since the last one, oldest
first. -/
structure ServoSample where
  sv : List Int
  alt : List Int
  deriving DecidableEq, Repr

/-- One sample a read lane keeps (R60 to R69): the ADC sample with its converter's corrections, in LSB; the tentative
detector's decision (true mark); the timing error of its phase detector in 1/64 of a sample period; how many ticks ago its
delay line let it go. -/
structure RawSample where
  x : Int
  a : Bool
  eps : Int
  age : Nat
  deriving DecidableEq, Repr

/-- What a tick boundary brings from outside (R154, R159, R224, R227, R243, R244): the rest of the tick's servo samples; the
WINH sources that are out of their windows now; the three shunt codes at a valley; VIN in mV; the stage sensor in °C; SPD_CMD's measurement as a fraction (denominator 0: none);
mortar words that an upset hits, by physical word, with the mask of flipped bits and whether the cells are faulty; trace
channels whose sample SRAM does not take in this tick; the current each bridge of the head measures, in ACT_BR_IMEAS units;
clocks the channel DMA stalled on SRAM. -/
structure TickIn where
  sadc : List ServoSample
  winh : Nat
  shunts : List Int
  vin : Nat
  temp : Nat
  spd : Nat × Nat
  upsets : List (Nat × Nat × Bool)
  stalls : List Nat
  imeas : List Int
  dmaStalls : Nat
  deriving DecidableEq, Repr


/-- What the load sequence brings (R53, R361, R402, R480): its result, the groove address words read for the disc information
(layer, spiral, the consecutive words, none where one could not be decoded), the groups of the
metadata bricks that could be read (strip 0, META sectors in order), and for each OPEN brick the first blank group found
by the frontier search. -/
structure LoadIn where
  result : Nat
  words : List (Nat × Nat × List (Option Nat))
  groups : List (Nat × List (List Nat))
  frontier : List (Nat × Nat)
  deriving DecidableEq, Repr

/-- A core's access to memory (R410): a load, a fetch, a store of a value, a load-reserve, a store-conditional, an atomic
operation (0 swap, 1 add, 2 xor, 3 and, 4 or, 5 min, 6 max, 7 minu, 8 maxu). -/
inductive CoreAccess where
  | load | fetch | store (v : Nat) | lr | sc (v : Nat) | amo (op v : Nat)
  deriving DecidableEq, Repr


/-- Every step of the part (spec/opcode_table.json). Numbers of units (lane, bridge, axis, bank, queue) are plain
numbers; WellFormed says which exist. -/
inductive Instr where
  /-- REGISTER_WRITE (R497): A master writes a register that has no row of its own; width, lock, access code and range checks apply and an illegal value is refused whole. -/
  | registerWrite (m : Master) (a : Nat) (size : Nat) (v : Word)
  /-- RC_REGISTER_READ (R501): A core or DBG reads an RC register such as ERR_INFO or a counter, which clears it; a BAR2 read does not. -/
  | rcRegisterRead (m : Master) (a : Nat)
  /-- LATCHING_LOW_WORD_READ (R497): Reading the low word of a two-word value latches its high word for the reading master. -/
  | latchingLowWordRead (m : Master) (a : Nat)
  /-- UNMAPPED_ACCESS (R495): An access to an unmapped internal address ends with an error response and SYS code 0x2102. -/
  | unmappedAccess (m : Master) (a : Nat)
  /-- CTRL_SRST (R499): Writing CTRL.SRST returns the block's sequencers, status, counters and interrupt state to reset and abandons its work. -/
  | ctrlSrst (m : Master) (p : Nat) (v : Word)
  /-- CTRL_FREEZE (R499): DBG writes CTRL.FREEZE, which stops the block's sequencers and holds the WSG write gate low. -/
  | ctrlFreeze (m : Master) (p : Nat) (v : Word)
  /-- PAGE_LOCK (R502): Writing 0xA5 to a page's LOCK register locks its RW registers until a reset that resets the page. -/
  | pageLock (m : Master) (p : Nat) (v : Word)
  /-- VIN_RISE (R268): VIN rises past 5.8 V, releasing the under-voltage lockout and starting the rails in order. -/
  | vinRise
  /-- RAILS_IN_REGULATION (R268): The rail start delays end, PGOOD rises and the power-on reset is released. -/
  | railsInRegulation
  /-- POWER_ON_RESET_RELEASE (R477): On release of a power-on or pin reset, the option shadow loads, SRAM is zeroed, SEC derives the identity key and FLC scans intents. -/
  | powerOnResetRelease (macFail : Nat)
  /-- BOOT_ROM_BOOT (R461): When the reset steps have ended the boot ROM selects a slot, verifies and copies it, writes FLC_BOOT, enables watchdog 4, records power-on and jumps to ENTRY. -/
  | bootRomBoot
  /-- RAIL_OUT_OF_REGULATION (R269): A rail stays more than 10 % off for 10 µs; PGOOD drops and Linnath is held in power-on reset with rails off. -/
  | railOutOfRegulation (rail : Nat)
  /-- RAIL_RESTART (R269): After 10 ms off the rails restart from step 2, or stay off after three failed restarts. -/
  | railRestart
  /-- UVLO_FALL (R269): VIN falls below 5.5 V and the lockout switches every rail and power stage off. -/
  | uvloFall
  /-- PIN_RESET (R481): RESET_N held low for 1 µs gives a pin reset that resets everything but keeps the rails. -/
  | pinReset
  /-- SYSTEM_PLL_LOSS (R504): The system PLL loses lock for 10 µs and causes a power-on reset. -/
  | systemPllLoss
  /-- CHANNEL_PLL_LOSS (R504): A channel PLL loses lock, its lane goes out of lock and CLKERR is set. -/
  | channelPllLoss (l : Nat)
  /-- WARM_RESET (R482): A warm-reset cause enters the safe state, drains L2, resets the cores and data path, reloads options, rescans flash and boots the running slot. -/
  | warmReset (cause : Nat)
  /-- WDT_WRST (R482): SUP writes WDT_WRST and requests a warm reset with cause 3. -/
  | wdtWrst (m : Master) (v : Word)
  /-- LOCKSTEP_MISMATCH (R409): The supervisor comparators differ, giving safe state cause 3 and a warm reset with cause 2. -/
  | lockstepMismatch
  /-- WDT_KICK (R486): Master w writes WDT_KICK; the right key restarts stage 1 from T1, any other value counts as a bad kick. -/
  | wdtKick (m : Master) (w : Nat) (v : Word)
  /-- WDT_STAGE1_EXPIRY (R486): A watchdog's stage 1 count reaches 0, sets ST1 and starts stage 2 from T2. -/
  | wdtStage1Expiry (w : Nat)
  /-- WDT_STAGE2_EXPIRY (R486): Stage 2 ends: watchdog w isolates command core w, or watchdog 4 causes a warm reset with cause 1. -/
  | wdtStage2Expiry (w : Nat)
  /-- WDT_REJOIN (R487): SUP writes WDT_REJOIN to release an isolated core into the boot ROM, which jumps to WDT_REJOINPC. -/
  | wdtRejoin (m : Master) (v : Word)
  /-- WDT_WCOUNT_CLEAR (R484): 60 s pass with no warm reset and WCOUNT returns to 0. -/
  | wdtWcountClear
  /-- IRQ_CLAIM_READ (R494): A hart reads IRQ_CLAIM and claims its highest-priority pending routed source. -/
  | irqClaimRead (m : Master) (h : Nat)
  /-- IRQ_COMPLETE (R494): A hart writes a claimed source number back to IRQ_CLAIM, completing it. -/
  | irqComplete (m : Master) (h : Nat) (v : Word)
  /-- MTIMECMP_WRITE (R504): A write to SYS_MTIMECMP_HI makes the pending compare value of a hart take effect. -/
  | mtimecmpWrite (m : Master) (h : Nat) (v : Word)
  /-- MTIME_COMPARE_MATCH (R504): mtime reaches a hart's compare value and raises its timer interrupt. -/
  | mtimeCompareMatch (h : Nat)
  /-- TICK_BOUNDARY (R190): At each tick boundary the exchange phase moves trace, swap, SADC, status, route, batch and glide words, then LENG runs the due programs. -/
  | tickBoundary (x : TickIn)
  /-- TICK_SUP_ACK (R192): Firmware writes TICK_SUP_ACK, acknowledging the outstanding supervisor tick. -/
  | tickSupAck (m : Master) (v : Word)
  /-- TICK_OVERRUN (R209): LENG has not finished the compute phase by clock 499; the next exchange runs only step 1 and the next tick computes nothing. -/
  | tickOverrun (p : Nat)
  /-- LENG_STOP (R212): LENG reads an uncorrectable word or a computation has not ended by the second boundary; outputs hold and safe state cause 6 follows. -/
  | lengStop (word : Nat)
  /-- LENG_RESTART (R212): Writing LENG_CMD.RESTART checks every enabled program in turn. -/
  | lengRestart (m : Master) (v : Word)
  /-- LENG_RESTART_CHECK_DONE (R212): The RESTART check ends; LENG runs again if all passed, else failing programs are disabled and LENG stays stopped. -/
  | lengRestartCheckDone
  /-- MORTAR_THIRD_PORT_WRITE (R193): A master writes a mortar word through the third port; forbidden writes are dropped with WDROP. -/
  | mortarThirdPortWrite (m : Master) (a : Nat) (size : Nat) (v : Word)
  /-- MORTAR_THIRD_PORT_READ (R193): A master reads mortar through the third port; an uncorrectable word returns raw data with code 0x0D07. -/
  | mortarThirdPortRead (m : Master) (a : Nat) (size : Nat)
  /-- LENG_PROG_ENABLE (R202): Writing LENG_PROG_CFG.EN from 0 to 1 starts a check of the program. -/
  | lengProgEnable (m : Master) (p : Nat) (v : Word)
  /-- LENG_PROG_CHECK_DONE (R202): A program check ends with LOADDONE, or EN returns to 0 with LOADERR. -/
  | lengProgCheckDone (p : Nat)
  /-- LENG_PROG_DISABLE (R203): Writing EN to 0 stops the program from the next tick boundary. -/
  | lengProgDisable (m : Master) (p : Nat) (v : Word)
  /-- LENG_UPD_GO (R204): Writing LENG_UPD_CTRL.GO schedules a batch update for the next full exchange. -/
  | lengUpdGo (m : Master) (v : Word)
  /-- LENG_SHADOW_READY (R206): Writing LENG_SHADOW.READY = 1 starts the shadow check. -/
  | lengShadowReady (m : Master) (v : Word)
  /-- LENG_SHADOW_CHECK_DONE (R206): The shadow check ends; READY reads 1 or LOADERR reports the cause. -/
  | lengShadowCheckDone
  /-- LENG_SHADOW_SWAPNOW (R207): Writing SWAPNOW requests a swap at the next exchange. -/
  | lengShadowSwapnow (m : Master) (v : Word)
  /-- LENG_SHADOW_UNREADY (R208): Writing UNREADY clears READY unless a swapping sequence runs. -/
  | lengShadowUnready (m : Master) (v : Word)
  /-- LENG_EXT_ENABLE (R213): Enabling an external set-point route is checked and the route writes from the next exchange. -/
  | lengExtEnable (m : Master) (r : Nat) (v : Word)
  /-- TRC_CH_ENABLE (R214): Enabling a trace channel is checked, clears its head and arms it. -/
  | trcChEnable (m : Master) (c : Nat) (v : Word)
  /-- TRC_GTRIG (R216): Writing TRC_GTRIG triggers the named channels by software. -/
  | trcGtrig (m : Master) (v : Word)
  /-- TRC_CH_DONE (R216): A triggered channel has written POST samples, sets DONE and stops. -/
  | trcChDone (c : Nat)
  /-- LINK_ZONE_REACHED (R67): A lane reaches a link zone: pending PGA, OSR, pass plan and spare exchange take effect and acquisition starts from the armed count. -/
  | linkZoneReached (l : Nat) (g : Nat) (rate : Nat) (rx : List RawSample)
  /-- ACQ_MARKER_WINDOW_EXPIRY (R68): No preamble end matches in its window; ACQF is set and S0 is searched at ±36 bits. -/
  | acqMarkerWindowExpiry (l : Nat) (rx : List RawSample) (skew : Nat)
  /-- FRAME_SYNC (R70): At each predicted sync the lane searches the expected sync, accepts it or flywheels, and numbers the frame's payload. -/
  | frameSync (l : Nat) (rx : List RawSample) (skew : Nat)
  /-- LANE_RATE_OUT_OF_RANGE (R64): OSR × f leaves 0.38–1.60 GS/s within a group; the lane sets RATE and sends the rest as erased. -/
  | laneRateOutOfRange (l : Nat) (rate : Nat)
  /-- ADC_SPARE_SWAP (R58): The rotation period expires and the spare replaces the active converter of the next slot, deferred during acquisition or re-acquisition. -/
  | adcSpareSwap (l : Nat) (ofs : Int) (gain : Int) (skew : Int)
  /-- TILE_RELEASE (R76): Every lane in service has delivered a tile's 256 samples and DSK releases it to DET. -/
  | tileRelease (psa : Nat) (pos : Nat) (tile : Nat)
  /-- DSK_LATE_RELEASE (R77): The earliest lane is SKEWMAX bits past a missing sample; DSK releases the tile with the missing samples as ERA. -/
  | dskLateRelease (psa : Nat) (pos : Nat) (tile : Nat)
  /-- DET_ROUND (R94): A detection round runs passes A and B over a position, demaps and pre-erases sectors with too many weight-0 samples. -/
  | detRound (slot : Nat)
  /-- LDPC_CODEWORD_LOAD (R95): A codeword takes an LDPC slot, evicting the newest recovery codeword if a foreground one finds none. -/
  | ldpcCodewordLoad (kind : Nat) (psa : Nat) (spiral : Nat) (pos : Nat)
  /-- LDPC_DECODE_SET (R93): A core finishes a set of iterations on a codeword, checks the syndrome and sector check and makes the sector final when due. -/
  | ldpcDecodeSet (core : Nat)
  /-- LDPC_CORE_RETIRE (R98): A core finds an internal memory error, retires and its codeword restarts on another core. -/
  | ldpcCoreRetire (core : Nat)
  /-- DET_ARM (R102): Writing DET_ARM_TAG commits a group read arm, reserving 8 strip slots or refusing with ARMREF. -/
  | detArm (m : Master) (tag : Word)
  /-- STRIP_DECODE (R103): All 64 sectors of a strip are final and STRP erasure-decodes it or sends it to the retry ladder. -/
  | stripDecode (psa : Nat)
  /-- RETRY_LADDER_RUNG (R108): A rung of the retry ladder ends; the strip is decoded again and the next enabled rung starts or the strip is delivered or unrecovered. -/
  | retryLadderRung (psa : Nat)
  /-- LADDER_TMAX_EXPIRY (R110): TMAX expires; the running step finishes, no further step starts and the strip is unrecovered. -/
  | ladderTmaxExpiry (psa : Nat)
  /-- STRP_SLOT_RELEASE (R102): Firmware writes STRP_RSA_REL to release strip slots after taking the data. -/
  | strpSlotRelease (m : Master) (v : Word)
  /-- WENC_ARM (R119): Writing WENC_ARM_TAG commits a write arm after checking it whole, or refuses it with ARMREF. -/
  | wencArm (m : Master) (tag : Word)
  /-- WENC_PARITY_DONE (R120): WENC has computed the strip parity of all 8 strips into the slot. -/
  | wencParityDone
  /-- WENC_PASS_START (R123): The position reaches link-zone bit 256 with a confirmed count and WENC starts the pass, building and emitting sectors. -/
  | wencPassStart (tfs : Nat)
  /-- WENC_PASS_END (R125): A pass ends after its postamble; WENC sets PASSDONE and waits for PASSGO. -/
  | wencPassEnd
  /-- WENC_PASSGO (R125): Firmware writes WENC_PASSGO to start the next pass. -/
  | wencPassgo (m : Master) (v : Word)
  /-- WENC_PASSWAIT_EXPIRY (R125): No PASSGO arrives within PASSWAIT revolutions and the group is VOID with cause 4. -/
  | wencPasswaitExpiry
  /-- WENC_STARTREV_EXPIRY (R123): The start cannot be met within STARTREV revolutions; the group is NOTSTARTED or VOID with cause 5. -/
  | wencStartrevExpiry
  /-- WENC_ABORT (R141): Writing WENC_ARM_CTRL.ABORT ends the oldest arm NOTSTARTED, or voids a running pass at the next sector boundary. -/
  | wencAbort (m : Master) (v : Word) (atLastBit : Bool)
  /-- WENC_STG_RELEASE (R117): Firmware releases staging slots through WENC_STG_REL unless an arm refers to them. -/
  | wencStgRelease (m : Master) (v : Word)
  /-- WSG_LOAD (R128): Setting WSG_LOAD_CTRL.GO starts a strategy set load from SRAM, or refuses it with LOADREF. -/
  | wsgLoad (m : Master) (v : Word)
  /-- WSG_LOAD_DONE (R128): A strategy set load ends, LOADDONE is set and a full set counts as loaded. -/
  | wsgLoadDone
  /-- DRAW_VERDICT (R137): The last pass has ended and all DRAW sectors are final; DRAW gives the group verdict and writes its record. -/
  | drawVerdict
  /-- DRAW_VQ_CONS_WRITE (R141): Firmware advances the verdict ring consumer index and DRAW writes records it held for lack of room. -/
  | drawVqConsWrite (m : Master) (v : Word)
  /-- WINH_TRIP (R146): A WINH source meets its trip condition; LWI rises within 150 ns and a running pass is VOID with cause 1. -/
  | winhTrip (srcs : Nat) (late : Bool)
  /-- WINH_FORCE (R154): Writing WINH_FORCE trips WINH by software, latched as bit 16. -/
  | winhForce (m : Master) (v : Word) (late : Bool)
  /-- WINH_LATCH_CLEAR (R148): Writing 1 to WINH_LATCH bits clears those whose source is in window and refuses the rest. -/
  | winhLatchClear (m : Master) (v : Word) (out : Nat)
  /-- HDL_FRAME (R133): A head control frame completes, sending a loop or FIFO command and receiving the previous status. -/
  | hdlFrame (status : Word)
  /-- HDL_CMD_WRITE (R155): Firmware writes HDL_CMD into the FIFO, dropped with OVF when full. -/
  | hdlCmdWrite (m : Master) (v : Word)
  /-- HDL_RSP_READ (R155): Reading HDL_RSP returns and removes the oldest response. -/
  | hdlRspRead (m : Master)
  /-- GROOVE_CROSSING (R160): The groove counter counts a TE crossing that passes the sum test and updates SADC_GVEL. -/
  | grooveCrossing (x : List ServoSample)
  /-- GA_WORD (R50): A groove address word ends on the followed spiral and FMT decodes it against the predicted count. -/
  | gaWord (cells : List (List Bool)) (rate : Nat)
  /-- GA_POSITION_LOSS (R182): 16 undecodable GA words in a row drop the write gate and set GALOST. -/
  | gaPositionLoss
  /-- WOBBLE_LOCK_LOSS (R505): The wobble PLL loses lock and FMT sets WOBLOSS. -/
  | wobbleLockLoss
  /-- FMT_DI_CAPTURE (R505): Setting FMT_DI_CTRL.GO starts capturing the disc information from AUX bytes. -/
  | fmtDiCapture (m : Master) (v : Word)
  /-- FMT_DI_CAPTURE_DONE (R505): All 512 DI bytes are held; FMT checks DICRC and sets DONE and DIDONE. -/
  | fmtDiCaptureDone
  /-- ACT_JMP_GO_JUMP (R172): Setting ACT_JMP_CTRL.GO in jump mode starts a kick on the axis, or is refused. -/
  | actJmpGoJump (m : Master) (v : Word)
  /-- ACT_JMP_GO_SWEEP (R173): Setting GO in sweep mode drives the focus bridge to LIM.LO and holds it. -/
  | actJmpGoSweep (m : Master) (v : Word)
  /-- ACT_SWEEP_HOLD_END (R173): The 5 ms hold at LIM.LO ends and the sweep ramp starts. -/
  | actSweepHoldEnd
  /-- ACT_KICK_END (R172): KICK.TICKS ends and the bridge coasts at B. -/
  | actKickEnd
  /-- ACT_BRAKE_START (R172): The brake condition is met and the bridge carries the brake current. -/
  | actBrakeStart (x : List ServoSample)
  /-- ACT_BRAKE_END (R172): BRAKE.TICKS ends and the bridge carries B until capture. -/
  | actBrakeEnd
  /-- ACT_CAPTURE (R172): The capture conditions hold and the bridge is returned to LENG at the next tick boundary, with any shadow swap. -/
  | actCapture (x : List ServoSample)
  /-- ACT_SETTLE_DONE (R172): The error stays in the settle window for SETTLE.TICKS and the sequencer reports DONE. -/
  | actSettleDone
  /-- ACT_SWEEP_FAIL (R173): The ramp reaches LIM.HI before capture; STATE becomes TIMEOUT and the bridge returns to LIM.LO. -/
  | actSweepFail
  /-- ACT_JMP_TIMEOUT (R175): ACT_JMP_TMO expires before DONE; focus takes the safe state, tracking returns in SEEK. -/
  | actJmpTimeout
  /-- ACT_JMP_ABORT (R175): Writing ACT_JMP_CTRL.ABORT ends the sequence with STATE ABORTED. -/
  | actJmpAbort (m : Master) (v : Word) (atCapture : Bool)
  /-- OFF_TRACK (R182): abs(TE) exceeds OFFTH for OFFN ticks and OFFTRK is set. -/
  | offTrack
  /-- SHOCK_DETECTED (R182): A shock sample or SHKD_N sets SRV_STAT.SHOCK for 4,096 ticks. -/
  | shockDetected (digital : Bool) (x : List ServoSample)
  /-- SHOCK_END (R182): 4,096 ticks pass with no shock and SRV_STAT.SHOCK clears. -/
  | shockEnd
  /-- FOCUS_LOSS (R182): SUM1 stays below SUMLO for N ticks and the servo enters the safe state with cause 5. -/
  | focusLoss
  /-- ACT_SAFE_ENTER (R184): Firmware writes ACT_SAFE.ENTER and the servo enters the safe state with cause 2, dropping the write gate and holding focus. -/
  | actSafeEnter (m : Master) (v : Word)
  /-- ACT_SAFE_EXIT (R185): Firmware writes ACT_SAFE.EXIT; with no cause pending the bridges return to LENG, else refused. -/
  | actSafeExit (m : Master) (v : Word)
  /-- SAFE_OVERRUN_WINDOW_CLEAR (R183): 1,024 ticks pass without an overrun and safe-state cause 1 no longer holds. -/
  | safeOverrunWindowClear
  /-- BRIDGE_FAULT (R189): A voice-coil bridge over-current, over-temperature or open load switches it off and enters safe state cause 4. -/
  | bridgeFault (b : Nat) (bits : Nat)
  /-- ACT_BRIDGE_ENABLE (R300): A BREN bit goes from 0 to 1 and the bridge drives 0 A while its offset is measured. -/
  | actBridgeEnable (m : Master) (v : Word)
  /-- BRIDGE_OFFSET_DONE (R300): The 4 ms offset measurement ends and the bridge takes its source. -/
  | bridgeOffsetDone (b : Nat) (ofs : Int)
  /-- SPN_MODE_OFF (R238): Writing SPN_MODE.MODE = OFF opens the switches as the present state allows. -/
  | spnModeOff (m : Master)
  /-- SPN_MODE_RUN (R234): Writing MODE = RUN in OFF starts MEASURE, or acts as R238 states in other states. -/
  | spnModeRun (m : Master)
  /-- SPN_MODE_BRAKE (R239): Writing MODE = BRAKE drives the speed target to 0 and regenerates. -/
  | spnModeBrake (m : Master)
  /-- SPN_MODE_ZEROV (R240): Writing MODE = ZEROV turns the low sides on and brakes without returning energy. -/
  | spnModeZerov (m : Master)
  /-- SPN_MEASURE_END (R234): The 5 ms MEASURE ends and SPN goes to ALIGN, SYNC or ZEROV by the back-EMF. -/
  | spnMeasureEnd (speed : Int) (angle : Nat) (emf : Nat)
  /-- SPN_ALIGN_END (R235): TALIGN ends and SPN enters RAMP. -/
  | spnAlignEnd
  /-- SPN_LOCK (R235): The observer agrees with FANG for LOCKN runs and SPN enters SYNC. -/
  | spnLock
  /-- SPN_SYNC_END (R235): The 1 ms SYNC hold ends; SPN enters RUN and sets RUNNING. -/
  | spnSyncEnd
  /-- SPN_RAMP_TIMEOUT (R236): RAMPTMO expires before lock and SPN enters FAULT with cause 3. -/
  | spnRampTimeout
  /-- SPN_ZEROV_TIMEOUT (R236): ZVMAX expires in a backward stop and SPN enters FAULT with cause 5. -/
  | spnZerovTimeout
  /-- SPN_LOCK_LOSS (R237): The observer loses lock for 64 runs; SPN opens the switches and re-enters MEASURE, or FAULT on a second loss. -/
  | spnLockLoss
  /-- SPN_BRAKE_TO_ZEROV (R239): OMEGA falls below RAMPSPD in BRAKE and SPN enters ZEROV. -/
  | spnBrakeToZerov
  /-- SPN_STOP (R240): The phase-current envelope stays below 50 mA for 50 ms; SPN enters OFF or continues a backward start. -/
  | spnStop
  /-- SPN_NOLOOP (R231): 4 periods pass without new VD and VQ; SPN sets NOLOOP and runs on open-loop. -/
  | spnNoloop
  /-- SPN_VLIM_CLEAR (R231): The demand stays below 0.98 VMAX for 16 periods and VLIM clears. -/
  | spnVlimClear
  /-- SPN_OVER_CURRENT (R243): A shunt exceeds IOC; all switches open for the period, with FAULT after 4 trips in 16 periods. -/
  | spnOverCurrent
  /-- SPN_OVER_TEMP (R243): The stage sensor exceeds 135 °C and SPN enters FAULT with cause 2. -/
  | spnOverTemp (temp : Nat)
  /-- SPDCMD_NOSIG (R244): In frequency mode no rising edge for 1 s sets x to 0 and NOSIG. -/
  | spdcmdNosig
  /-- STP_PUSH (R254): Writing STP_Q_PUSH checks and queues a move for a group, or refuses it with PUSHREF. -/
  | stpPush (m : Master) (g : Nat) (v : Word)
  /-- STP_MOVE_END (R257): A queued move ends; DONETAG and MOVEDONE are set and the next move starts or QEMPTY is set. -/
  | stpMoveEnd (g : Nat)
  /-- STP_STOP (R258): STP_CMD.STOP flushes a group's queue and decelerates it to standstill. -/
  | stpStop (m : Master) (v : Word)
  /-- STP_PARK (R260): Park is called; each masked axis flushes, decelerates and moves alone to its park position. -/
  | stpPark (m : Master) (v : Word)
  /-- STP_PARK_DONE (R260): Every parked axis has arrived; PARKDONE is set and the axes become OFF at IHOLD. -/
  | stpParkDone
  /-- STP_BRIDGE_FAULT (R261): A stepper bridge fault switches off its axis, which becomes OFF, and stops the group. -/
  | stpBridgeFault (a : Nat) (bits : Nat)
  /-- STP_TABLE_LOAD (R249): Setting STP_TLOAD_CTRL.GO loads table 1 from SRAM, or refuses with TABREF. -/
  | stpTableLoad (m : Master) (v : Word)
  /-- STP_TABLE_LOAD_DONE (R249): The table load ends and GO reads 0. -/
  | stpTableLoadDone
  /-- STP_HOLD_CURRENT (R262): THOLD ms at standstill pass and the axis current falls to IHOLD. -/
  | stpHoldCurrent (a : Nat)
  /-- STP_AX_POS_WRITE (R250): A write to STP_AX_POS at standstill sets P and adjusts PHOFS so the field does not move. -/
  | stpAxPosWrite (m : Master) (a : Nat) (v : Word)
  /-- STP_AX_MODE_WRITE (R253): A MODE write is taken only at standstill and for the allowed axis. -/
  | stpAxModeWrite (m : Master) (a : Nat) (v : Word)
  /-- VIN_OV1 (R271): VIN reaches OV1; BRKG goes high and OVSTATE becomes CHOP, or ZVBRK without a chopper. -/
  | vinOv1 (vin : Nat)
  /-- CHOPPER_WINDOW_END (R272): 200 µs after BRKG rises PWR judges the chopper, and on a fault forces ZEROV and drops the write gate. -/
  | chopperWindowEnd (vin : Nat) (fall : Nat) (code : Int)
  /-- VIN_CHOP_END (R271): VIN falls to OV1 − BHYS and BRKG goes low. -/
  | vinChopEnd
  /-- VIN_OV2 (R274): VIN reaches OV2; all spindle switches open, SPN enters OFF and OVSTATE becomes OVOPEN. -/
  | vinOv2
  /-- PWR_CLR_CHOPFLT (R275): Writing PWR_CLR.CHOPFLT below OV1 − BHYS returns OVSTATE to NORMAL. -/
  | pwrClrChopflt (m : Master) (v : Word)
  /-- PWR_CLR_OVOPEN (R275): Writing PWR_CLR.OVOPEN below OV1 − BHYS returns OVSTATE to NORMAL. -/
  | pwrClrOvopen (m : Master) (v : Word)
  /-- PWR_CLR_LGIDLE (R282): Writing PWR_CLR.LGIDLE in RECOVERED returns LGSTATE to IDLE. -/
  | pwrClrLgidle (m : Master) (v : Word)
  /-- V5OUT_OVERCURRENT (R267): V5OUT exceeds 450 mA for 50 µs and switches off with RAILFLT. -/
  | v5outOvercurrent
  /-- VIN_LOSS (R277): VIN stays below VLOSS for TLOSS with hold-up armed; the last-gasp sequence trips WINH, stops fetching, requests HOLDUP and stops the data path. -/
  | vinLoss (late : Bool)
  /-- PWR_LG_DONE (R277): The last-gasp task writes PWR_LG.DONE; LGDONE is set and park is called as policy allows. -/
  | pwrLgDone (m : Master) (v : Word)
  /-- LG_TIMEOUT (R279): LGMAX expires without DONE; LGLATE is set and the sequence goes on as if DONE were written. -/
  | lgTimeout
  /-- HOLDUP_END (R277): Park is done or OMEGA falls below RAMPSPD; HOLDUP ends, SPN enters ZEROV and LGSTATE becomes COAST. -/
  | holdupEnd
  /-- VIN_RECOVERED (R281): VIN stands above VLOSS + 0.5 V for 10 ms after a loss; HOLDUP ends and LGSTATE becomes RECOVERED. -/
  | vinRecovered
  /-- CAL_MG_ARM (R291): Writing CAL_MG_CFG.EN = 1 arms a glide channel on a mortar word, or is refused. -/
  | calMgArm (m : Master) (k : Nat) (v : Word)
  /-- CAL_MG_TGT_WRITE (R291): Writing CAL_MG_TGT on an armed channel starts a glide at the next exchange. -/
  | calMgTgtWrite (m : Master) (k : Nat) (v : Word)
  /-- GLIDE_TARGET_WRITE (R288): A write to a glided target register redirects or starts the glide, or applies at once where R289 allows. -/
  | glideTargetWrite (m : Master) (a : Nat) (v : Word) (lost : Bool)
  /-- CAL_TRIG_ADCSTAT (R296): CAL_TRIG.ADCSTAT starts a statistics calibration run on a lane. -/
  | calTrigAdcstat (m : Master) (v : Word)
  /-- CAL_ADCSTAT_DONE (R296): A statistics run completes and writes converter targets, choosing the spare when rotation is off. -/
  | calAdcstatDone (l : Nat) (meas : List (Int × Int × Int))
  /-- CAL_ADCSTAT_TIMEOUT (R296): A statistics run is not complete within 2^(SLOG+4) sample times and ends with ADCFAIL. -/
  | calAdcstatTimeout (l : Nat)
  /-- CAL_TRIG_SHOFS (R299): CAL_TRIG.SHOFS requests a shunt offset measurement at the next OFF. -/
  | calTrigShofs (m : Master) (v : Word)
  /-- SHUNT_OFFSET_DONE (R299): 1,024 valley samples per leg are taken in OFF and the shunt offset targets apply. -/
  | shuntOffsetDone (ofs : List Int)
  /-- SHUNT_GAIN_INJECTION (R299): Every 1,024th period CAL injects 0.8 FS into one leg and after 64 injections writes its gain target. -/
  | shuntGainInjection (leg : Nat) (code : Int)
  /-- CAL_TRIG_BROFS (R300): CAL_TRIG.BROFS starts the bridge offset measurements. -/
  | calTrigBrofs (m : Master) (v : Word)
  /-- CAL_TRIG_LINK (R301): CAL_TRIG.LINK requests a link-skew calibration, run when LWI is high and no arm is held. -/
  | calTrigLink (m : Master) (v : Word)
  /-- CAL_LINK_DONE (R301): The link-skew loopback run ends and CAL_LINK holds the pair trims. -/
  | calLinkDone (trims : List Int)
  /-- SADC_REFCONV_WINDOW_END (R298): The reference converter ends its 2^16-sample window on a channel, updates its targets and moves on. -/
  | sadcRefconvWindowEnd (diff : Int) (swept : Nat) (slope : Int)
  /-- CALREF_CHECK (R294): Once per second CAL compares CALREF with the bandgap and sets or clears REFFLT. -/
  | calrefCheck (mv : Nat)
  /-- CAL_TEMP_CHANGE (R301): Temperature moves by TDELTA and triggers link-skew and, under REFFLT, statistics runs. -/
  | calTempChange
  /-- CAL_SWP_GO (R302): Setting CAL_SWP_CTRL.GO starts a sweep, or is refused. -/
  | calSwpGo (m : Master) (v : Word)
  /-- CAL_SWP_MOVE_DONE (R302): A sweep's move to its next point ends and settling starts. -/
  | calSwpMoveDone
  /-- CAL_SWP_PERIOD_END (R302): An RF quality period of a sweep ends and its RFQ word is summed or the sweep fits and ends. -/
  | calSwpPeriodEnd
  /-- CAL_SWP_ABORT (R304): Writing ABORT, loss of TRACK, safe state, shock or a glide end aborts the sweep. -/
  | calSwpAbort (m : Master) (v : Word) (cause : Nat)
  /-- PCIE_LINK_UP (R327): The link comes up and Linnath leaves any removal policy state. -/
  | pcieLinkUp (speed : Nat) (width : Nat)
  /-- PERST_ASSERT (R326): PERST# is asserted; the endpoint is reset and HQ and translation abandon commands. -/
  | perstAssert
  /-- PERST_DEASSERT (R326): PERST# is deasserted; configuration becomes ready and a pending activation gives a warm reset with cause 5. -/
  | perstDeassert
  /-- SURPRISE_REMOVAL (R327): The link goes DL_Down without warning; tags time out and commands are abandoned. -/
  | surpriseRemoval
  /-- SURPRISE_POLICY_TIMEOUT (R327): No link after DELAY seconds and the removal policy is applied. -/
  | surprisePolicyTimeout
  /-- PCIE_CONFIG_WRITE (R312): The host writes a configuration register with no row of its own. -/
  | pcieConfigWrite (off : Nat) (bytes : List Nat)
  /-- PCIE_BME_CLEAR (R324): Bus Master Enable is cleared; Linnath issues nothing and holds its requests. -/
  | pcieBmeClear (v : Word)
  /-- PCIE_BME_SET (R324): Bus Master Enable is set; marked reads are reissued and held writes released. -/
  | pcieBmeSet (v : Word)
  /-- INITIATE_FLR (R325): The host writes Initiate Function Level Reset; Linnath stops issuing and drains tags. -/
  | initiateFlr (v : Word)
  /-- FLR_DRAIN_TIMEOUT (R325): At 90 ms the tags still outstanding are quarantined and TIMEDOUT is set. -/
  | flrDrainTimeout
  /-- FLR_DRAIN_DONE (R325): The tags have drained; commands are abandoned, atomic units resolved and function state reset. -/
  | flrDrainDone
  /-- PCIE_D3HOT_ENTRY (R330): PowerState is written to D3hot and bus mastering stops as at BME clear. -/
  | pcieD3hotEntry (v : Word)
  /-- PCIE_D0_ENTRY (R330): PowerState is written back to D0 with all state kept. -/
  | pcieD0Entry (v : Word)
  /-- PME_TURN_OFF (R330): On PME_Turn_Off Linnath answers PME_TO_Ack and enters L2. -/
  | pmeTurnOff
  /-- PCIE_L0S_ENTRY (R328): The transmitter has been idle for L0SIDLE and enters L0s. -/
  | pcieL0sEntry
  /-- PCIE_L1_REQUEST (R328): The link has been idle for L1IDLE and Linnath requests L1 and its substates. -/
  | pcieL1Request
  /-- PCIE_L1_EXIT (R328): A doorbell or waiting request brings the link back to L0. -/
  | pcieL1Exit
  /-- LTR_CONDITION_CHANGE (R329): The latency condition changes and Linnath sends an LTR message. -/
  | ltrConditionChange
  /-- LTR_IDLE_TIMER (R329): 1 ms passes with no command and the idle latency applies. -/
  | ltrIdleTimer
  /-- BAR_MEMORY_WRITE (R316): The host writes BAR0 or BAR2 outside any own row; illegal sizes are dropped with Completer Abort. -/
  | barMemoryWrite (bar : Nat) (off : Nat) (bytes : List Nat)
  /-- BAR_MEMORY_READ_ABORT (R316): A BAR read longer than 8 bytes or crossing a block is completed with Completer Abort. -/
  | barMemoryReadAbort (bar : Nat) (off : Nat) (n : Nat)
  /-- BAR2_READ (R317): The host reads a mirrored page as HOSTIN with no side effect, substituting an all-ones value and setting UNLK_B2SUB. -/
  | bar2Read (off : Nat) (n : Nat)
  /-- BAR2_WRITE (R317): The host writes a mirrored page, applied as HOSTIN within the unlock scope or dropped and recorded. -/
  | bar2Write (off : Nat) (bytes : List Nat)
  /-- UNLK_NEWCHAL (R318): Writing UNLK_CTRL.NEWCHAL makes SEC draw a fresh unlock challenge. -/
  | unlkNewchal (v : Word)
  /-- UNLK_SUBMIT (R318): Writing UNLK_CTRL.SUBMIT makes SEC check the owner key and verify the unlock signature. -/
  | unlkSubmit (v : Word)
  /-- UNLK_VERIFY_DONE (R318): Unlock verification ends with UNLOCKED or a failure result, recorded with the scope. -/
  | unlkVerifyDone
  /-- UNLK_RELOCK (R318): Writing UNLK_CTRL.RELOCK ends the BAR2 unlock. -/
  | unlkRelock (v : Word)
  /-- UNLK_EXPIRY (R318): UNLK_DUR expires and BAR2 locks again. -/
  | unlkExpiry
  /-- SQ_TAIL_DOORBELL (R369): The host writes a submission queue tail doorbell, checked against the queue. -/
  | sqTailDoorbell (y : Nat) (v : Word)
  /-- CQ_HEAD_DOORBELL (R369): The host writes a completion queue head doorbell, releasing room for held completions. -/
  | cqHeadDoorbell (y : Nat) (v : Word)
  /-- DMA_READ_COMPLETION (R323): A completion arrives for a read request and is accepted, or dropped as unexpected, or treated as a timeout if poisoned. -/
  | dmaReadCompletion (tag : Nat) (status : Nat) (poison : Bool) (bytes : List Nat)
  /-- PCIE_COMPLETION_TIMEOUT (R322): A read request times out; the tag is quarantined and the request retried or failed. -/
  | pcieCompletionTimeout (tag : Nat)
  /-- TAG_QUARANTINE_END (R322): A quarantined tag's 4 × timeout ends and it returns to the pool. -/
  | tagQuarantineEnd (tag : Nat)
  /-- PCIE_PROTOCOL_ERROR (R331): A malformed, poisoned or unsupported TLP arrives and is answered and reported as R331 states. -/
  | pcieProtocolError (kind : Nat)
  /-- CC_ENABLE (R336): CC.EN goes from 0 to 1; HQ checks the admin setup and sets RDY or CFS. -/
  | ccEnable (v : Word)
  /-- CONTROLLER_RESET (R9): CC.EN is cleared and outstanding commands are abandoned with no completion. -/
  | controllerReset (v : Word)
  /-- CC_SHUTDOWN_NORMAL (R338): CC.SHN = 01b stops fetching, runs commands to completion, checkpoints and sets SHST. -/
  | ccShutdownNormal (v : Word)
  /-- CC_SHUTDOWN_ABRUPT (R338): CC.SHN = 10b abandons commands, commits the journal and sets SHST. -/
  | ccShutdownAbrupt (v : Word)
  /-- SQ_FETCH (R340): HQ arbitration grants a queue and reads up to 2^AB entries in one request. -/
  | sqFetch
  /-- SQ_ENTRIES_ARRIVE (R341): The whole read of a grant arrives and HQ numbers and accepts the entries into contexts. -/
  | sqEntriesArrive (grant : Nat)
  /-- CMD_DELETE_IO_SQ (R350): Delete I/O Submission Queue aborts unlatched commands of the queue and completes after them. -/
  | cmdDeleteIoSq (seq : Nat)
  /-- CMD_CREATE_IO_SQ (R339): Create I/O Submission Queue is checked and creates the queue. -/
  | cmdCreateIoSq (seq : Nat)
  /-- CMD_GET_LOG_PAGE (R365): Get Log Page returns a supported page, drawing a recorder challenge when LSP bit 0 is set on page 0xC0. -/
  | cmdGetLogPage (seq : Nat)
  /-- CMD_DELETE_IO_CQ (R339): Delete I/O Completion Queue deletes it unless submission queues remain. -/
  | cmdDeleteIoCq (seq : Nat)
  /-- CMD_CREATE_IO_CQ (R339): Create I/O Completion Queue is checked and creates the queue. -/
  | cmdCreateIoCq (seq : Nat)
  /-- CMD_IDENTIFY (R355): Identify returns the controller or namespace data for a supported CNS. -/
  | cmdIdentify (seq : Nat)
  /-- CMD_ABORT (R349): Abort looks up SQID and CID and aborts the target before its latch. -/
  | cmdAbort (seq : Nat)
  /-- CMD_SET_FEATURES (R357): Set Features applies a supported feature or completes with an error. -/
  | cmdSetFeatures (seq : Nat)
  /-- CMD_GET_FEATURES (R357): Get Features returns a supported feature value. -/
  | cmdGetFeatures (seq : Nat)
  /-- CMD_ASYNC_EVENT_REQUEST (R358): An Asynchronous Event Request waits for an event, up to 8 outstanding. -/
  | cmdAsyncEventRequest (seq : Nat)
  /-- CMD_FIRMWARE_IMAGE_DOWNLOAD (R450): Firmware Image Download erases and programs whole sectors of the inactive slot. -/
  | cmdFirmwareImageDownload (seq : Nat)
  /-- CMD_FIRMWARE_COMMIT (R450): Firmware Commit verifies the image and writes COMMIT and ACTIVATE records as CA states. -/
  | cmdFirmwareCommit (seq : Nat)
  /-- CMD_KEEP_ALIVE (R356): Keep Alive restarts the keep-alive timer. -/
  | cmdKeepAlive (seq : Nat)
  /-- KATO_EXPIRY (R357): The keep-alive timer expires; Linnath records it and reports the vendor event without resetting. -/
  | katoExpiry
  /-- CMD_DISC_LOAD (R480): Disc Control LOAD spins up, reads the disc information, acquires focus, mounts and calibrates. -/
  | cmdDiscLoad (seq : Nat) (x : Option LoadIn)
  /-- CMD_DISC_SPIN (R361): Disc Control SPIN stops the spindle or caps the buffer-fill speed. -/
  | cmdDiscSpin (seq : Nat)
  /-- CMD_DISC_UNLOAD (R361): Disc Control UNLOAD waits for earlier I/O, checkpoints, stops the spindle and parks. -/
  | cmdDiscUnload (seq : Nat)
  /-- CMD_DISC_PREPARE_FLIP (R361): Disc Control PREPARE FLIP unloads and keeps the side's calibration results. -/
  | cmdDiscPrepareFlip (seq : Nat)
  /-- CMD_ATTESTATION_REPORT (R362): Attestation Report returns the signed 4,096-byte report for a nonce. -/
  | cmdAttestationReport (seq : Nat)
  /-- CMD_RECORDER_CLEAR (R363): Recorder Clear passes the owner token to SEC and clears the recorder or completes with Token Rejected. -/
  | cmdRecorderClear (seq : Nat)
  /-- CMD_MEDIA_VERIFY (R364): Media Verify starts background patrol reads over an LBA range, a brick or the side. -/
  | cmdMediaVerify (seq : Nat)
  /-- CMD_MEDIA_VERIFY_STOP (R364): Media Verify with SCOPE 3 stops the running verify. -/
  | cmdMediaVerifyStop (seq : Nat)
  /-- MEDIA_VERIFY_DONE (R364): A verify ends and raises its asynchronous event. -/
  | mediaVerifyDone
  /-- CMD_FLUSH (R344): Flush arms partial groups and completes once every earlier modifying command has latched. -/
  | cmdFlush (seq : Nat)
  /-- CMD_WRITE (R381): Write fetches its data into the stream's staging and latches when every group holding it is ACCEPTED. -/
  | cmdWrite (seq : Nat)
  /-- CMD_READ (R378): Read takes its map snapshot after ordering, arms group reads and returns data, zeros or Unrecovered Read Error. -/
  | cmdRead (seq : Nat)
  /-- CMD_COMPARE (R356): Compare reads as Read and completes with its comparison result. -/
  | cmdCompare (seq : Nat)
  /-- CMD_WRITE_ZEROES (R384): Write Zeroes commits a ZERO map unit, deallocating with DEAC. -/
  | cmdWriteZeroes (seq : Nat)
  /-- CMD_DATASET_MANAGEMENT (R384): Dataset Management with AD commits one FREE record per range. -/
  | cmdDatasetManagement (seq : Nat)
  /-- JOURNAL_UNIT_DURABLE (R384): The last record of a unit is programmed in both copies and the unit is durable. -/
  | journalUnitDurable
  /-- POWER_STATE_SAFE_POINT (R353): A power state entry reaches its next safe point and goes on, or returns on an arriving command. -/
  | powerStateSafePoint
  /-- APST_TRANSITION (R354): The idle time of the APST table expires and an autonomous power state entry starts. -/
  | apstTransition
  /-- STAGING_FILL_TIMEOUT (R381): FILLT ms pass since a group's first block was staged and the group is armed with grout. -/
  | stagingFillTimeout (k : Nat)
  /-- XLT_CKPT_GO (R399): Firmware writes XLT_CKPT.GO to start a checkpoint. -/
  | xltCkptGo (m : Master) (v : Word)
  /-- XLT_CKPT_INTERVAL (R399): XLT_CKPT.INT seconds pass with a unit committed and a checkpoint starts. -/
  | xltCkptInterval
  /-- XLT_LOOKUP (R377): XLT_LK_CTRL.GO looks up a block and returns its context or hole. -/
  | xltLookup (m : Master) (v : Word)
  /-- MERGE_WAIT_TIMEOUT (R403): A reservation waits MERGET without room and the command completes with Capacity Exceeded. -/
  | mergeWaitTimeout (seq : Nat)
  /-- SNAPSHOT_UNPIN (R379): A reading command latches, fails or is abandoned and its brick pins are removed, starting a due reset. -/
  | snapshotUnpin (seq : Nat)
  /-- MEDM_RST_GO (R393): Firmware writes MEDM_RST.GO to reset a permitted brick. -/
  | medmRstGo (m : Master) (v : Word)
  /-- BRICK_RESET_SEGMENT_DONE (R393): A reset segment of 16 groups ends and is checked; a failure retires the brick, the last segment commits FREE. -/
  | brickResetSegmentDone (good : Bool)
  /-- CORE_MEMORY_ACCESS (R410): A core load, store or fetch is served under the range attributes, access tables and memory codes. -/
  | coreMemoryAccess (h : Nat) (k : CoreAccess) (a : Nat) (n : Nat) (l2err : Nat)
  /-- CBO_CLEAN (R411): cbo.clean writes back one line from the issuing core's L1 and L2. -/
  | cboClean (h : Nat) (a : Nat)
  /-- CBO_INVAL (R411): cbo.inval invalidates one line in the issuing core's L1 and L2. -/
  | cboInval (h : Nat) (a : Nat)
  /-- CBO_FLUSH (R411): cbo.flush cleans and invalidates one line. -/
  | cboFlush (h : Nat) (a : Nat)
  /-- CBO_ZERO (R408): cbo.zero zeroes a line on the LN7740 and raises an illegal-instruction exception on the LN7720. -/
  | cboZero (h : Nat) (a : Nat)
  /-- FENCE_I (R411): fence.i makes the core's instruction fetches see its earlier stores. -/
  | fenceI (h : Nat)
  /-- LNL1OP_WRITE (R413): Writing CSR lnl1op invalidates the core's L1I or L1D, stalling until done. -/
  | lnl1opWrite (h : Nat) (v : Word)
  /-- SCRUB_LINE (R423): The scrubber reads the next SRAM line, corrects and writes back, and checks page syndromes. -/
  | scrubLine (upsets : List (Nat × Nat))
  /-- MEMC_PAGE_PROTECT_START (R417): Writing 1 to a MEMC_PPROT bit starts computing the page code of a region. -/
  | memcPageProtectStart (m : Master) (hi : Bool) (v : Word)
  /-- MEMC_PAGE_PROTECT_DONE (R417): The page code of a region is computed and PPDONE is set. -/
  | memcPageProtectDone
  /-- L2C_MOP_CLEAN (R427): L2C_MOP.GO with OP 1 writes back dirty lines of a range or set and way. -/
  | l2cMopClean (m : Master) (v : Word)
  /-- L2C_MOP_INVALIDATE (R427): L2C_MOP.GO with OP 2 drops lines without write-back. -/
  | l2cMopInvalidate (m : Master) (v : Word)
  /-- L2C_MOP_CLEAN_INVALIDATE (R427): L2C_MOP.GO with OP 3 writes back and drops lines. -/
  | l2cMopCleanInvalidate (m : Master) (v : Word)
  /-- L2C_MOP_ZERO (R427): L2C_MOP.GO with OP 4 allocates and zeroes lines of an SRAM range on the LN7740. -/
  | l2cMopZero (m : Master) (v : Word)
  /-- L2C_MOP_DONE (R427): A maintenance operation ends, MSTAT holds its counts and MDONE is set. -/
  | l2cMopDone
  /-- L2C_DRAIN (R429): Writing L2C_CTRL.EN = 0 writes back every dirty line and invalidates L2. -/
  | l2cDrain (m : Master) (v : Word)
  /-- L2C_DRAIN_DONE (R429): The drain ends, EN reads 0 and DRAINED is set. -/
  | l2cDrainDone
  /-- FLC_PROGRAM (R441): FLC_B_CMD.GO with PROGRAM checks and starts programming up to 32 words of a row. -/
  | flcProgram (m : Master) (b : Nat) (self : Bool)
  /-- FLC_ERASE (R441): FLC_B_CMD.GO with ERASE records an intent and starts erasing a sector. -/
  | flcErase (m : Master) (b : Nat) (self : Bool)
  /-- FLC_SUSPEND (R444): FLC_B_CMD.GO with SUSPEND suspends a running erase once MINRUN has passed. -/
  | flcSuspend (m : Master) (b : Nat)
  /-- FLC_RESUME (R444): FLC_B_CMD.GO with RESUME resumes a suspended erase. -/
  | flcResume (m : Master) (b : Nat)
  /-- FLC_PROGRAM_DONE (R441): A program ends with RESULT 0 or VERIFY and sets DONEA or DONEB. -/
  | flcProgramDone (b : Nat) (good : Bool)
  /-- FLC_ERASE_DONE (R445): An erase ends and its intent is closed, good or bad, switching intent sectors when due. -/
  | flcEraseDone (b : Nat) (good : Bool)
  /-- FLC_SUSPEND_DONE (R444): The erase is suspended and SUSP is set. -/
  | flcSuspendDone (b : Nat)
  /-- FLASH_READ (R443): A master reads flash, waiting while the bank programs or erases, with error responses for torn or erasing words. -/
  | flashRead (m : Master) (a : Nat) (n : Nat) (errs : List (Nat × Bool))
  /-- FLC_RESET_SCAN (R445): At a reset or SRST FLC scans the intent sectors and re-erases every open intent. -/
  | flcResetScan
  /-- FLC_SCAN_DONE (R445): The reset scan ends, SCAN clears and SCANDONE is set. -/
  | flcScanDone
  /-- OPT_PROGRAM (R453): OPT_CMD.PROG from SUP with AUTH programs a word of the next free update block. -/
  | optProgram (m : Master)
  /-- OPT_PROGRAM_DONE (R453): An option program ends, PROGDONE is set and a CRC word clears AUTH. -/
  | optProgramDone
  /-- OPT_LOCKDBG (R453): OPT_CMD.LOCKDBG from SUP programs the debug lock word to zeros. -/
  | optLockdbg (m : Master)
  /-- OPT_AUTH_SET (R453): SEC writes OPT_AUTH.AUTH after a successful AUTHOPT. -/
  | optAuthSet (m : Master) (v : Word)
  /-- OPT_AUTH_EXPIRY (R453): 10 s after it was set AUTH clears. -/
  | optAuthExpiry
  /-- SEC_HASH (R475): SEC_CMD.GO with HASH hashes SEC_LEN bytes at SEC_BUF. -/
  | secHash (m : Master)
  /-- SEC_VERIFY (R475): SEC_CMD.GO with VERIFY checks an ML-DSA-65 signature. -/
  | secVerify (m : Master)
  /-- SEC_ATTEST (R463): SEC_CMD.GO with ATTEST computes MEAS and writes the signed report. -/
  | secAttest (m : Master)
  /-- SEC_NEWCHAL_1 (R459): SEC_CMD.GO with NEWCHAL slot 1 draws a recorder clear challenge. -/
  | secNewchal1 (m : Master)
  /-- SEC_NEWCHAL_2 (R459): SEC_CMD.GO with NEWCHAL slot 2 draws an option update challenge. -/
  | secNewchal2 (m : Master)
  /-- SEC_CLEAR (R472): SEC_CMD.GO with CLEAR checks the owner token and has EVR clear the recorder. -/
  | secClear (m : Master)
  /-- SEC_AUTHOPT (R464): SEC_CMD.GO with AUTHOPT verifies an owner-signed update and sets OPT_AUTH. -/
  | secAuthopt (m : Master)
  /-- SEC_OP_DONE (R475): A SEC operation ends with its result and DONE or FAIL. -/
  | secOpDone
  /-- SEC_CHALLENGE_EXPIRY (R459): 60 s after being drawn a challenge expires. -/
  | secChallengeExpiry (k : Nat)
  /-- EVR_REPORT_INTAKE (R467): A block report enters the intake queue, stamped with TIME and SEQ, or is lost when full. -/
  | evrReportIntake
  /-- EVR_WR_GO (R467): Firmware sets EVR_WR.GO to write a firmware record from EVR_WR_SRC. -/
  | evrWrGo (m : Master)
  /-- EVR_CAPTURE (R471): A capture writes every unmarked pre-failure ring entry to flash with CAPT set. -/
  | evrCapture (m : Master)
  /-- EVR_CAPTURE_DONE (R471): The capture ends, CAPTURING clears and CAPDONE is set. -/
  | evrCaptureDone
  /-- EVR_RECORD_FLASHED (R468): A record reaches flash in the permanent area or ring, opening ring sectors and writing a loss record when room returns. -/
  | evrRecordFlashed
  /-- EVR_CLEAR_DONE (R472): The background erase of cleared ring sectors ends and CLEARDONE is set. -/
  | evrClearDone
  /-- GPIO_EDGE (R506): A filtered GPIO input changes in the selected direction and sets its IRQ_RAW bit. -/
  | gpioEdge (n : Nat) (level : Bool)
  /-- GPIO_SET (R506): Writing GPIO_SET sets the named GPIO_OUT bits. -/
  | gpioSet (m : Master) (v : Word)
  /-- GPIO_CLR (R506): Writing GPIO_CLR clears the named GPIO_OUT bits. -/
  | gpioClr (m : Master) (v : Word)
  /-- TSNS_CONVERSION (R507): Once per ms TSNS converts every sensor and raises HOT, CRIT, COOL or SENSFAIL. -/
  | tsnsConversion (t : List Int)
  /-- DEBUG_ATTACH (R508): A debugger attaches to the debug port and the attach is recorded. -/
  | debugAttach
  /-- DEBUG_DETACH (R508): A debugger detaches and the detach is recorded. -/
  | debugDetach
  /-- DEBUG_HALT (R508): A hart is halted; with HALTGATE the write gate drops and with WDTPAUSE its watchdog pauses. -/
  | debugHalt (h : Nat)
  /-- DEBUG_RESUME (R508): The debugger resumes a halted hart; with no hart halted the HALTGATE hold on the WSG write gate lifts and a WDTPAUSE-paused watchdog runs again. -/
  | debugResume (h : Nat)
  /-- CRYSTAL_OUT_OF_TOLERANCE (R523): The crystal runs beyond ±100 ppm, so SYS_CLK.XTALOK goes to 0 and SYS ERR_INFO takes code 0x2105. -/
  | crystalOutOfTolerance
  /-- SADC_BOOT_TRIM_DONE (R298): At boot with SADC_CFG.RUN at 0, each channel ends its 2^12 samples of the SVREF and SVREF ± 0.750 V levels, and its trim targets apply at once. -/
  | sadcBootTrimDone (trims : List (Int × Int))
  deriving DecidableEq, Repr

end Sys2Proof
end

