-- ==== Sys2Proof/Decode.lean ====
section
/-! DEFINITION. The command that a word of the opcode table spells: no row of spec/opcode_table.json gives bits, so no word
spells one (the part takes commands, it decodes no instruction). -/
namespace Sys2Proof

/-- The command spelled by a word of the table's bits. -/
def decodeTableWord (_nbits _w : Nat) : Option Instr := none

end Sys2Proof
end

