-- ==== Sys2Proof/Machine/Disc.lean ====
section
/-! DEFINITION. The Vrelori Archive Disc as data (R22 to R56): checks, scrambler, both codes, modulation, the bond
interleave, addresses, the groove address word and the disc information. -/
namespace Sys2Proof.Machine

/-! ## Bits and bytes -/

/-- The bits of a number, most significant first. -/
def bitsBE : Nat → Nat → List Bool
  | 0, _ => []
  | n + 1, v => v.testBit n :: bitsBE n v

/-- The number a list of bits spells, first bit most significant. -/
def natBE (bs : List Bool) : Nat := bs.foldl (fun a b => 2 * a + b.toNat) 0

/-- The bits of a list of bytes in recording order, each byte most significant bit first (R29). -/
def byteBits (bs : List Nat) : List Bool := bs.flatMap (bitsBE 8)

/-- Bytes of a number, most significant first (R30). -/
def bytesBE : Nat → Nat → List Nat
  | 0, _ => []
  | n + 1, v => v / 256 ^ n % 256 :: bytesBE n v

/-- The number a list of bytes spells, first byte most significant. -/
def beNat (bs : List Nat) : Nat := bs.foldl (fun a b => 256 * a + b % 256) 0

/-- Cuts a list into pieces of `n`; `fuel` bounds the number of pieces. -/
def chunks {α : Type} (n : Nat) : Nat → List α → List (List α)
  | 0, _ => []
  | f + 1, l => if l.isEmpty then [] else l.take n :: chunks n f (l.drop n)

/-- Groups bits into bytes, most significant bit first. -/
def bitsToBytes (bs : List Bool) : List Nat := (chunks 8 bs.length bs).map natBE

/-- The same element so many times. -/
def rep {α : Type} (n : Nat) (l : List α) : List α := (List.replicate n l).flatten

/-! ## Checks -/

/-- One bit of a CRC taken most significant bit first. -/
def crcBit (w poly : Nat) (r : Nat) (b : Bool) : Nat :=
  let r' := r * 2 % 2 ^ w
  if (r.testBit (w - 1)) != b then r' ^^^ poly else r'

/-- A CRC that is not reflected. -/
def crcBE (w poly init : Nat) (bs : List Nat) : Nat := (byteBits bs).foldl (crcBit w poly) init

/-- HCRC, the header check (R32). -/
def crc16 (bs : List Nat) : Nat := crcBE 16 0x1021 0xFFFF bs

/-- The sector check (R33). -/
def crc64 (bs : List Nat) : Nat := crcBE 64 0x42F0E1EBA9EA3693 (2 ^ 64 - 1) bs ^^^ (2 ^ 64 - 1)

/-- One bit of a reflected CRC-32C. -/
def crc32cBit (r : Nat) : Nat := if r % 2 = 1 then (r / 2) ^^^ 0x82F63B78 else r / 2

/-- CRC-32C (R51, R465). -/
def crc32c (bs : List Nat) : Nat :=
  bs.foldl (fun r b => Nat.rec (r ^^^ (b % 256)) (fun _ x => crc32cBit x) 8) 0xFFFFFFFF ^^^ 0xFFFFFFFF

/-! ## Scrambler -/

/-- Output of the shift register from a state, so many bits (R34). -/
def scrambleBits : Nat → Nat → List Bool
  | 0, _ => []
  | n + 1, s => s.testBit 14 :: scrambleBits n (s * 2 % 32768 + ((s.testBit 14) != (s.testBit 13)).toNat)

/-- The seed of a sector (R34). -/
def scrambleSeed (psa sidx : Nat) : Nat := 0x4000 ||| (psa % 256 * 64) ||| (sidx % 64)

/-- Scrambles or descrambles the user field (R34). -/
def scramble (psa sidx : Nat) (user : List Nat) : List Nat :=
  bitsToBytes (List.zipWith (· != ·) (byteBits user) (scrambleBits 32768 (scrambleSeed psa sidx)))

/-! ## Sector header and place -/

/-- A sector header (R30). -/
structure SectorHeader where
  fmt : Nat
  sidx : Nat
  psa : Nat
  stype : Nat
  media : Bool
  rstcnt : Nat
  lba : Nat
  lbav : Bool
  ufirst : Bool
  ulast : Bool
  rplc : Bool
  seq : Nat
  ucnt : Nat
  deriving DecidableEq, Repr

/-- Bytes 0 to 21 of a header (R30). -/
def SectorHeader.body (h : SectorHeader) : List Nat :=
  [h.fmt % 256] ++ bytesBE 4 (h.sidx % 64 * 2 ^ 26 + h.psa % 2 ^ 25) ++ [h.stype % 16 * 16 + h.media.toNat * 8] ++
  bytesBE 2 h.rstcnt ++ bytesBE 5 h.lba ++
  [h.lbav.toNat * 128 + h.ufirst.toNat * 64 + h.ulast.toNat * 32 + h.rplc.toNat * 16] ++
  bytesBE 6 h.seq ++ bytesBE 2 h.ucnt

/-- The 24 bytes of a header, HCRC last (R30, R32). -/
def SectorHeader.bytes (h : SectorHeader) : List Nat := h.body ++ bytesBE 2 (crc16 h.body)

/-- Reads a header from its bytes. -/
def SectorHeader.ofBytes (b : List Nat) : SectorHeader :=
  let n := fun (o l : Nat) => beNat ((b.drop o).take l)
  { fmt := n 0 1, sidx := n 1 4 / 2 ^ 26, psa := n 1 4 % 2 ^ 25, stype := n 5 1 / 16, media := (n 5 1).testBit 3,
    rstcnt := n 6 2, lba := n 8 5, lbav := (n 13 1).testBit 7, ufirst := (n 13 1).testBit 6,
    ulast := (n 13 1).testBit 5, rplc := (n 13 1).testBit 4, seq := n 14 6, ucnt := n 20 2 }

/-- Fields of a PSA (R44). -/
def psaSide (p : Nat) : Nat := p / 2 ^ 24 % 2
def psaLayer (p : Nat) : Nat := p / 2 ^ 20 % 16
def psaBrick (p : Nat) : Nat := p / 2 ^ 10 % 1024
def psaStrip (p : Nat) : Nat := p % 1024
/-- The PSA of a strip (R44). -/
def psaOf (side layer brick strip : Nat) : Nat := side * 2 ^ 24 + layer * 2 ^ 20 + brick * 2 ^ 10 + strip
/-- The bond group of a strip within its brick. -/
def groupOf (p : Nat) : Nat := psaStrip p / 8

/-- Where sector `i` of group strip `g` lies: spiral and position (R39). -/
def placeOf (g i : Nat) : Nat × Nat := (i % 4, 8 * (i / 4) + (g + 2 * (i % 4)) % 8)

/-- The group strip and sector index at a spiral and position (R39). -/
def sectorAt (q p : Nat) : Nat × Nat := ((p % 8 + 8 - 2 * q % 8) % 8, 4 * (p / 8) + q)

/-! ## LDPC code -/

/-- The row of the nonzero block `t` of information column `j` (R36). -/
def ldpcRow (t j : Nat) : Nat := 7 * t + (j + t * (j / 7)) % 7

/-- The shift of the block at row `r`, information column `j` (R36). -/
def ldpcShift (r j : Nat) : Nat := ((r + 1) * (j + 5) ^ 2 + 17 * r) % 192

/-- A block of shift `s` applied to a segment: row a takes position (a + s) mod 192 (R36). -/
def ldpcBlock (s : Nat) (x : BitVec 192) : BitVec 192 := x.rotateRight s

/-- A segment of 192 bits, first bit at position 0. -/
def segOf (bs : List Bool) : BitVec 192 := BitVec.ofNat 192 (natBE bs.reverse)

/-- The bits of a segment, position 0 first. -/
def segBits (x : BitVec 192) : List Bool := (bitsBE 192 x.toNat).reverse

/-- Sum of the information blocks of row `r` (R37); the columns come with their numbers. -/
def ldpcRowSum (r : Nat) : List (BitVec 192) → Nat → BitVec 192
  | [], _ => 0
  | x :: t, j => (if ldpcRow (r / 7) j = r then ldpcBlock (ldpcShift r j) x else 0) ^^^ ldpcRowSum r t (j + 1)

/-- The parity segments from row `r` on, with the running sum of the rows before (R37). -/
def ldpcParityFrom (info : List (BitVec 192)) : Nat → Nat → BitVec 192 → List (BitVec 192)
  | 0, _, _ => []
  | n + 1, r, acc => let p := ldpcRowSum r info 0 ^^^ acc; p :: ldpcParityFrom info n (r + 1) p

/-- The 28 parity segments of 172 information segments (R37). -/
def ldpcParity (info : List (BitVec 192)) : List (BitVec 192) := ldpcParityFrom info 28 0 0

/-- A word of 38,400 bits is a codeword: its parity segments are those its information segments give (R36, R37). -/
def ldpcOk (bits : List Bool) : Bool :=
  let segs := (chunks 192 200 bits).map segOf
  decide (segs.length = 200) && segs.drop 172 == ldpcParity (segs.take 172)

/-- The coded bits of a sector with this header and user field at this place (R33 to R36). -/
def sectorCodeword (hdr user : List Nat) (psa sidx : Nat) : List Bool :=
  let info := byteBits (hdr ++ scramble psa sidx user ++ bytesBE 8 (crc64 (hdr ++ user)))
  info ++ (ldpcParity ((chunks 192 172 info).map segOf)).flatMap segBits

/-! ## Reed-Solomon codes -/

/-- Product in GF(2^m) with the given field polynomial, from the top bit of `b` down. -/
def gfMulN (m poly a : Nat) : Nat → Nat → Nat
  | 0, _ => 0
  | n + 1, b =>
    let hi := gfMulN m poly a n (b / 2)
    let sh := if hi.testBit (m - 1) then (hi * 2) ^^^ poly else hi * 2
    if b % 2 = 1 then sh ^^^ a else sh

/-- Product in GF(2^m). -/
def gfMul (m poly a b : Nat) : Nat := gfMulN m poly a m b

/-- Power in GF(2^m). -/
def gfPow (m poly a : Nat) : Nat → Nat
  | 0 => 1
  | n + 1 => gfMul m poly a (gfPow m poly a n)

/-- Inverse in GF(2^m): a^(2^m - 2); 0 of 0. -/
def gfInv (m poly a : Nat) : Nat :=
  let rec go : Nat → Nat → Nat → Nat
    | 0, _, acc => acc
    | n + 1, sq, acc => let sq' := gfMul m poly sq sq; go n sq' (gfMul m poly acc sq')
  go (m - 1) a 1

/-- A field: width and polynomial. -/
structure GF where
  m : Nat
  poly : Nat

/-- GF(2^8) of the strip parity (R38). -/
def gfStrip : GF := ⟨8, 0x11D⟩
/-- GF(2^4) of the groove address (R49). -/
def gfGroove : GF := ⟨4, 0x13⟩

def GF.mul (f : GF) (a b : Nat) : Nat := gfMul f.m f.poly a b
def GF.pow (f : GF) (n : Nat) : Nat := gfPow f.m f.poly 2 n
def GF.inv (f : GF) (a : Nat) : Nat := gfInv f.m f.poly a

/-- Value of a polynomial (highest coefficient first) at a point. -/
def GF.eval (f : GF) (p : List Nat) (x : Nat) : Nat := p.foldl (fun a c => f.mul a x ^^^ c) 0

/-- Product of polynomials, lowest coefficient first. -/
def GF.polyMul (f : GF) : List Nat → List Nat → List Nat
  | [], _ => []
  | a :: t, q => 
    let rest := 0 :: f.polyMul t q
    let head := q.map (f.mul a)
    let n := max head.length rest.length
    (List.range n).map (fun i => head.getD i 0 ^^^ rest.getD i 0)

/-- Syndromes of a received word (first symbol the highest coefficient): its values at α^0 on. -/
def GF.syndromes (f : GF) (np : Nat) (w : List Nat) : List Nat := (List.range np).map (fun j => f.eval w (f.pow j))

/-- Remainder after division by the generator (x − α^0)…(x − α^(np−1)), highest coefficient first. -/
def GF.parity (f : GF) (np : Nat) (data : List Nat) : List Nat :=
  let g := (List.range np).foldl (fun p j => f.polyMul p [f.pow j, 1]) [1]
  let gh := (g.take np).reverse
  data.foldl (fun r d =>
    let fb := d ^^^ r.headD 0
    List.zipWith (· ^^^ ·) (r.drop 1 ++ [0]) (gh.map (f.mul fb))) (List.replicate np 0)

/-- One step of Berlekamp-Massey over the syndromes: discrepancy, connection polynomial, its previous value, length. -/
structure BM where
  c : List Nat
  b : List Nat
  l : Nat
  deriving DecidableEq, Repr

/-- Discrepancy of the connection polynomial at syndrome `n`. -/
def GF.disc (f : GF) (c : List Nat) (syn : List Nat) (n : Nat) : Nat :=
  (List.range c.length).foldl (fun a i => if i ≤ n then a ^^^ f.mul (c.getD i 0) (syn.getD (n - i) 0) else a) 0

/-- Sum of two polynomials, lowest coefficient first. -/
def polyAdd (p q : List Nat) : List Nat :=
  (List.range (max p.length q.length)).map (fun i => p.getD i 0 ^^^ q.getD i 0)

/-- Errors and erasures locator: starts from the erasure locator and takes the syndromes from number `rho` on. -/
def GF.locator (f : GF) (syn : List Nat) (era : List Nat) : BM :=
  let rho := era.length
  let gamma := era.foldl (fun p x => f.polyMul p [1, x]) [1]
  ((List.range (syn.length - rho)).map (· + rho)).foldl (fun s n =>
    let d := f.disc s.c syn n
    let xb := 0 :: s.b
    if d = 0 then { s with b := xb }
    else
      let c' := polyAdd s.c (xb.map (f.mul d))
      if 2 * s.l ≤ n + rho then { c := c', b := s.c.map (f.mul (f.inv d)), l := n + rho + 1 - s.l }
      else { s with c := c', b := xb }) ⟨gamma, gamma, rho⟩

/-- Highest power with a nonzero coefficient. -/
def polyDeg (p : List Nat) : Nat := (List.range p.length).foldl (fun a i => if p.getD i 0 ≠ 0 then i else a) 0

/-- Value of a polynomial given lowest coefficient first. -/
def GF.evalLow (f : GF) (p : List Nat) (x : Nat) : Nat := f.eval p.reverse x

/-- Corrects a word of `n` symbols with `np` parity symbols and erased positions, or answers none where the word lies
outside 2 × errors + erasures ≤ np (R38, R49, R109). Position i is the coefficient of x^(n−1−i). -/
def GF.decode (f : GF) (np : Nat) (era : List Nat) (w : List Nat) : Option (List Nat) :=
  let n := w.length
  let syn := f.syndromes np w
  if syn.all (· == 0) then some w
  else if era.length > np then none
  else
    let s := f.locator syn (era.map (fun i => f.pow (n - 1 - i)))
    let lam := s.c
    let deg := polyDeg lam
    let roots := (List.range n).filter (fun i => f.evalLow lam (f.inv (f.pow (n - 1 - i))) == 0)
    if deg ≠ roots.length ∨ 2 * deg > np + era.length then none
    else
      let om := (f.polyMul syn lam).take np
      let dlam := (List.range (deg + 1)).map (fun i => if i % 2 = 0 then lam.getD (i + 1) 0 else 0)
      let w' := (List.range n).map (fun i =>
        if roots.contains i then
          let x := f.pow (n - 1 - i)
          let xi := f.inv x
          w.getD i 0 ^^^ f.mul x (f.mul (f.evalLow om xi) (f.inv (f.evalLow dlam xi)))
        else w.getD i 0)
      if (f.syndromes np w').all (· == 0) then some w' else none

/-- Strip parity: the eight parity bytes of one byte position of the 56 data sectors (R38). -/
def stripParityColumn (data : List Nat) : List Nat := gfStrip.parity 8 data

/-! ## Modulation -/

/-- Base table of the modulation code (R26), by the data pair as a number. -/
def modBase : Nat → List Bool
  | 0 => [true, false, true] | 1 => [true, false, false] | 2 => [false, false, true] | _ => [false, true, false]

/-- Substitution table (R26). -/
def modSubst : Nat → Nat → List Bool
  | 0, 0 => [true, false, false, false, false, false]
  | 0, _ => [true, false, true, false, false, false]
  | _, 0 => [false, true, false, false, false, false]
  | _, _ => [false, false, true, false, false, false]

/-- Encodes data pairs; the last pair is never substituted (R27). -/
def modPairs : List Nat → List Bool
  | [] => []
  | [d] => modBase d
  | d :: e :: t =>
    if (d = 0 ∨ d = 2) ∧ (e = 0 ∨ e = 1) then modSubst d e ++ modPairs t else modBase d ++ modPairs (e :: t)

/-- The 1,440 channel bits of a frame's 960 payload bits (R27). -/
def modFrame (bits : List Bool) : List Bool := modPairs ((chunks 2 480 bits).map natBE)

/-- Sync of a frame with its DC-control bit (R25). -/
def syncField (first : Bool) (x : Bool) : List Bool :=
  bitsBE 32 ((if first then 0x40100520 else 0x40100490) + 4 * x.toNat)

/-- Running digital sum and NRZI level after channel bits (R28): level true is mark. -/
def runSum : List Bool → Int × Bool → Int × Bool
  | [], a => a
  | b :: t, (sum, lvl) => let l := lvl != b; runSum t (if l then sum + 1 else sum - 1, l)

/-- One frame with the X that leaves the smaller magnitude of running sum; 0 on a tie (R28). -/
def emitFrame (first : Bool) (payload : List Bool) (st : Int × Bool) : List Bool × (Int × Bool) :=
  let m := modFrame payload
  let f0 := syncField first false ++ m
  let f1 := syncField first true ++ m
  let s0 := runSum f0 st
  let s1 := runSum f1 st
  if s1.1.natAbs < s0.1.natAbs then (f1, s1) else (f0, s0)

/-- The frames of a sector from its codeword bits. -/
def emitFrames : List (List Bool) → Bool → (Int × Bool) → List Bool × (Int × Bool)
  | [], _, st => ([], st)
  | p :: t, first, st =>
    let (f, st') := emitFrame first p st
    let (r, st'') := emitFrames t false st'
    (f ++ r, st'')

/-- The 58,880 channel bits of one sector (R25, R29). -/
def emitSector (codeword : List Bool) (st : Int × Bool) : List Bool × (Int × Bool) :=
  emitFrames (chunks 960 40 codeword) true st

/-- Link-zone bits 256 to 2,303: preamble tone and preamble end (R40). -/
def preambleBits : List Bool := rep 496 [true, false, false, false] ++ bitsBE 32 0x49249249 ++ bitsBE 32 0x49249249

/-- The postamble: link-zone bits 0 to 255 of the next group (R40). -/
def postambleBits : List Bool := rep 64 [false, true, false, false]

/-- The sectors of one spiral's share in order. -/
def emitSectors : List (List Bool) → (Int × Bool) → List Bool
  | [], _ => []
  | c :: t, st => let (f, st') := emitSector c st; f ++ emitSectors t st'

/-- What a pass records on one spiral: preamble, sectors, postamble (R28, R41). -/
def shareBits (codewords : List (List Bool)) : List Bool :=
  preambleBits ++ emitSectors codewords (runSum preambleBits (0, false)) ++ postambleBits

/-! ## Groove address -/

/-- Fields of a groove address word (R49). -/
structure GaWord where
  side : Nat
  layer : Nat
  brick : Nat
  group : Nat
  pos : Nat
  spiral : Nat
  aux : Nat
  deriving DecidableEq, Repr

/-- The word's 40 information bits (R49). -/
def GaWord.bits (w : GaWord) : Nat :=
  w.side * 2 ^ 39 + w.layer * 2 ^ 35 + w.brick * 2 ^ 25 + w.group * 2 ^ 18 + w.pos * 2 ^ 11 + w.spiral * 2 ^ 9 + w.aux

/-- Reads a groove address word (R49). -/
def GaWord.ofBits (n : Nat) : GaWord :=
  ⟨n / 2 ^ 39 % 2, n / 2 ^ 35 % 16, n / 2 ^ 25 % 1024, n / 2 ^ 18 % 128, n / 2 ^ 11 % 128, n / 2 ^ 9 % 4, n % 256⟩

/-- Decodes 14 received symbols; corrects up to 2 (R49). -/
def gaDecode (sym : List Nat) : Option Nat :=
  (gfGroove.decode 4 [] sym).map (fun w => (w.take 10).foldl (fun a s => 16 * a + s) 0)

/-- A cell of a groove address word (R48). -/
inductive GaCell where
  | zero | one | sync | plain
  deriving DecidableEq, Repr

/-- A cell's ten wobble periods: true where the phase is inverted (R48). -/
def GaCell.periods : GaCell → List Bool
  | .zero => [true, true, false, false, false, false, false, false, false, false]
  | .one => [false, false, false, false, true, true, false, false, false, false]
  | .sync => [true, true, true, true, false, false, false, false, false, false]
  | .plain => List.replicate 10 false

/-- Periods of a received cell that differ from a kind's. -/
def GaCell.distance (p : List Bool) (c : GaCell) : Nat := ((p.zip c.periods).filter (fun q => q.1 != q.2)).length

/-- The kind, of some, that a received cell is nearest to; the first of equals (R48; DESIGN CHOICE, log 115). -/
def GaCell.nearest (l : List GaCell) (p : List Bool) : GaCell :=
  l.foldl (fun b c => if c.distance p < b.distance p then c else b) (l.headD .plain)

/-- Word sync (R48). -/
def gaSync : List GaCell := [.sync, .sync, .one, .zero, .one, .one, .zero, .zero]

/-- The 92 cells of a word of 14 symbols (R48). -/
def gaCells (sym : List Nat) : List (List Bool) :=
  (gaSync ++ (sym.flatMap (bitsBE 4)).map (fun (b : Bool) => if b then GaCell.one else GaCell.zero) ++ List.replicate 28 GaCell.plain).map GaCell.periods

/-- The 14 symbols of 92 received cells, where their first eight read as word sync (R48). -/
def gaSymbols (cells : List (List Bool)) : Option (List Nat) :=
  if (cells.take 8).map (GaCell.nearest [.plain, .zero, .one, .sync]) = gaSync then
    some ((chunks 4 14 (((cells.drop 8).take 56).map (fun p => GaCell.nearest [.zero, .one] p == .one))).map natBE)
  else none

/-- The word that follows along a spiral, its AUX aside: position, then group, then brick (R40, R45, R50). -/
def gaNext (n : Nat) : Nat :=
  let w := GaWord.ofBits n
  let lin := (w.brick * 128 + w.group) * 128 + w.pos + 1
  ({ w with brick := lin / 16384 % 1024, group := lin / 128 % 128, pos := lin % 128, aux := 0 } : GaWord).bits

/-- A word with AUX and the reserved bit left out, for comparison with a prediction. -/
def gaPlace (n : Nat) : Nat := n / 512 * 512

/-- The DI byte number an AUX byte carries (R49). -/
def gaAuxIndex (n : Nat) : Nat := let w := GaWord.ofBits n; (128 * w.group + w.pos) % 512

/-! ## Disc information -/

/-- A big-endian field of the disc information. -/
def diField (di : List Nat) (o l : Nat) : Nat := beNat ((di.drop o).take l)
def diMtype (di : List Nat) : Nat := diField di 5 1
def diSide (di : List Nat) : Nat := diField di 6 1
def diBitlen (di : List Nat) : Nat := diField di 12 2
def diNbrick (di : List Nat) (l : Nat) : Nat := diField di (20 + 2 * l) 2
def diNspare (di : List Nat) (l : Nat) : Nat := diField di (44 + l) 1
def diRstrate (di : List Nat) : Nat := diField di 56 2
def diUuid (di : List Nat) : List Nat := (di.drop 58).take 16

/-- DICRC matches (R51, R52). -/
def diCrcOk (di : List Nat) : Bool := decide (di.length = 512) && crc32c (di.take 508) == diField di 508 4

/-- The last brick of a layer ends within the band (R24, R52): x × b × 0.80 µm ≤ π (58² − 24²) mm², the right side
times 10^12 / 0.8 rounded down, b in pm. -/
def bandOk (bricks bitlen : Nat) : Bool := decide (bricks * 964984832 * bitlen ≤ 10948450397760429)

/-- The checks of R52; `gaSide` is the SIDE bit of the words the DI was read from. -/
def diOk (di : List Nat) (gaSide : Nat) : Bool :=
  diCrcOk di && diField di 0 4 == 0x56524144 && diField di 4 1 == 1 && (diMtype di == 1 || diMtype di == 2) &&
  diField di 7 1 == 12 && diField di 8 1 == 4 && diField di 9 1 == 2 && diField di 10 1 == 2 &&
  decide (39000 ≤ diBitlen di) && decide (diBitlen di ≤ 40000) && diField di 14 2 == 24000 && diField di 16 2 == 58000 &&
  (List.range 12).all (fun l =>
    decide (diNbrick di l ≤ 288) && decide (8 ≤ diNspare di l) &&
    decide (diNspare di l + 2 + (if l = 0 then 3 else 1) ≤ diNbrick di l) && bandOk (diNbrick di l) (diBitlen di)) &&
  diSide di == gaSide

/-- A copy of the DI from groove address words (R51, R53): where they bring all 512 bytes, and the side the words name. -/
def diCopy (ws : List (Option Nat)) : Option (List Nat × Nat) :=
  let got := ws.filterMap id
  let put := fun (di : List (Option Nat)) (w : Nat) =>
    let k := gaAuxIndex w
    if (di.getD k none).isSome then di else di.set k (some (GaWord.ofBits w).aux)
  let di := got.foldl put (List.replicate 512 none)
  if di.all (·.isSome) then some (di.map (·.getD 0), (GaWord.ofBits (got.headD 0)).side) else none

/-- The copies of the DI in the words of a spiral, of which 1,024 count: the first, the second, and the two together (R53;
DESIGN CHOICE, log 116). -/
def diCopies (ws : List (Option Nat)) : List (List Nat × Nat) :=
  [ws.take 512, (ws.drop 512).take 512, ws.take 1024].filterMap diCopy

/-- What the search for the disc information ends with (R53): one accepted, refused, or nothing found. -/
inductive DiFound where
  | accepted (di : List Nat) | refused (di : List Nat) | nothing
  deriving DecidableEq, Repr

/-- The search over the words read of each layer and spiral: L0 first, the next layers in turn while none passes R52; two
that pass and differ refuse the disc (R21, R53). -/
def findDi (words : List (Nat × Nat × List (Option Nat))) : DiFound :=
  let copies := fun (l : Nat) => (words.filter (fun q => q.1 == l)).flatMap (fun q => diCopies q.2.2)
  let passes := (List.range 12).map (fun l => (copies l).filter (fun c => diOk c.1 c.2))
  match (passes.find? (fun l => !l.isEmpty)).getD [] with
  | c :: t => if t.all (fun x => x.1 == c.1) then .accepted c.1 else .refused c.1
  | [] => match (List.range 12).flatMap copies with
    | c :: _ => .refused c.1
    | [] => .nothing

/-- Data bricks of a layer (R55). -/
def diDataBricks (di : List Nat) (l : Nat) : Nat := diNbrick di l - 2 - diNspare di l - (if l = 0 then 2 else 0)

/-- User capacity of a side in bytes (R55). -/
def diCapacity (di : List Nat) : Nat := 234881024 * ((List.range 12).map (diDataBricks di)).sum

end Sys2Proof.Machine
end

