-- ==== Sys2Proof/Config.lean ====
section
/-! DEFINITION. What the spec leaves open: constants without a body, so that nothing can be proved of their values. Each
takes a number that the step reads from the state's counter `fresh`, or the operands the value depends on. -/
namespace Sys2Proof.Config


/-- Working words s8 to s15 of an OBSERVER stage: R228 does not define their contents (DESIGN CHOICE). -/
opaque obsWork : Nat → Word

/-- The observer's angle error when its back-EMF magnitude and its floor c7 are both 0: R228 states no quotient there
(DESIGN CHOICE). -/
opaque obsErr : Nat → Word

/-- Whether SPN's own sine of an angle of 2^32 per cycle, in 2^-31, is the step above the exact value or the one below it (R231
gives no rounding; DESIGN CHOICE). -/
opaque spnSinUp : Nat → Bool

/-- Registers of the ND210 for its levels: channel, then 0 bias, 1 erase, 2 peak, 3 cooling (R134 names no addresses; DESIGN
CHOICE). -/
opaque levelAddr : Nat → Nat → Nat
/-- WSG's mode-change command by medium: R134 gives neither register nor encoding (DESIGN CHOICE). -/
opaque modeCmd : Bool → Word
/-- The mean monitor signal that WSG expects during a pass: R167 gives no formula for it (DESIGN CHOICE). -/
opaque wsgMean : Nat → Word

/-- Whether a result of the read path that falls between two steps of its format takes the upper one: the quantity (0
equaliser output, 1 channel-bit LLR, 2 symbol LLR, 3 coded-bit LLR, 4 check-to-variable message) or of a write level (5), numerator and denominator
(R65, R92, R126: the spec gives no rounding; DESIGN CHOICE). -/
opaque roundUp : Nat → Int → Nat → Bool
/-- Whether DET's tanh(L / 2) of a magnitude in 0.25, in 2^-15, is the step above the exact value (R88; DESIGN CHOICE). -/
opaque tanhUp : Nat → Bool
/-- Level at the start of a frame's payload on a remembered neighbour (R106: the spec names no source of its polarity;
DESIGN CHOICE). -/
opaque rememberedPol : Nat → Bool
/-- Binary places of the RF quality word (R169 gives no unit; DESIGN CHOICE). -/
opaque rfqShift : Nat
/-- CODE of the record of a refused disc: R21 names no code (DESIGN CHOICE). -/
opaque discRefusedCode : Nat
/-- CODE of the record that warns of a layer without test groups: R47 leaves the warning to a chapter that names none (DESIGN CHOICE). -/
opaque testsUsedUpCode : Nat
/-- CODE of the record of a misplaced sector: R35 names no code (DESIGN CHOICE). -/
opaque misplacedCode : Nat
/-- What CAL_SWP_RES.FRAC holds for a fitted +128, which its signed 8 bits cannot hold (R303, R310; DESIGN CHOICE). -/
opaque sweepFracTop : Nat
/-- CODE of the record of an OVSTATE change that has no ERR_INFO code of its own: R275 names none (DESIGN CHOICE). -/
opaque ovStateCode : Nat
/-- How many words of a program were complete when a reset or a failure cut it short (R440; DESIGN CHOICE). -/
opaque cutWords : Nat → Nat
/-- Bytes returned with the error response of a torn or uncorrectable flash word (R439; DESIGN CHOICE). -/
opaque badFlashByte : Nat → Byte
/-- SHAKE256 with 256 bits of output: R457 names FIPS 202 and does not state the function (PRESUMED). -/
opaque shake256 : List Nat → BitVec 256
/-- ML-DSA-65: public key by seed and index, signature by seed, message and index, and verification of key, message,
signature: R457 names FIPS 204 and does not state them (PRESUMED). -/
opaque mldsaPkByte : List Nat → Nat → Byte
opaque mldsaSigByte : List Nat → List Nat → Nat → Byte
opaque mldsaVerify : List Nat → List Nat → List Nat → Bool

/-- Bytes of a metadata brick's descriptor sector, by role, disc UUID, generation of its first checkpoint and index: R46
names the fields and gives no layout (DESIGN CHOICE). -/
opaque descByte : Nat → List Nat → Nat → Nat → Byte
/-- CODE of the record of journal sectors of another disc that are dropped: R402 names none (DESIGN CHOICE). -/
opaque droppedJournalCode : Nat
/-- Header fields that a rebuilt header and a copy of a sector whose header was not read take (R30, R38; DESIGN CHOICE): SEQ;
UCNT, UFIRST, ULAST, RPLC. -/
opaque lostSeq : Nat → Nat
opaque lostUnit : Nat → Nat

/-- Bytes of the SMART log that the spec gives no contents (R396, R507; DESIGN CHOICE), by read and index. -/
opaque smartByte : Nat → Nat → Byte
/-- Characters of the serial number by device number and index: R355 names the source and not the form (DESIGN CHOICE). -/
opaque serialByte : Nat → Nat → Byte

/-- Results of a layer in the calibration store, whose layout is drive firmware's (R368, R438; DESIGN CHOICE). -/
opaque layerResult : Nat → Nat → Nat → BitVec 32

/-- CODE of the records of a debugger's attach and detach: R508 names none (DESIGN CHOICE). -/
opaque debugRecordCode : Nat → Nat
/-- What cells of an option word hold whose program a reset cut short: bits that kept their old value (R451; DESIGN CHOICE). -/
opaque cutOption : Nat → BitVec 64
/-- LTSSM state codes by state: 0 Detect, 1 L0, 2 L0s, 3 L1, 4 L2 (R333 names the field and no codes; DESIGN CHOICE). -/
opaque ltssm : Nat → Nat
/-- CODE of the host link's records that have no ERR_INFO code: 0 a function-level reset, 1 an unlock SUBMIT, from 2 on the
protocol errors of R331 by kind (R318, R325, R331, R466; DESIGN CHOICE). -/
opaque linkRecordCode : Nat → Nat
/-- A word of the AER Header Log: the header of the TLP is not part of any command (R314; DESIGN CHOICE). -/
opaque aerHeader : Nat → BitVec 32
/-- The L1 way, of those a line may take, that a fill replaces, by fill (R411 gives no policy; DESIGN CHOICE). -/
opaque l1Victim : Nat → Nat
/-- Bytes of the boot ROM (R495 places it; its contents are not given; DESIGN CHOICE). -/
opaque romByte : Nat → Byte
/-- TICK_PH, the clock within the tick, at a read: the model's time goes by ticks (R218; DESIGN CHOICE). -/
opaque tickPhase : Nat → Nat

end Sys2Proof.Config
end

