-- ==== Sys2Proof/Machine/Regs.lean ====
section
/-! DEFINITION. The byte address of every register, under the name the spec gives it (R495, R496: page p stands at
0x4000_0000 + p * 0x1000; the offsets are those of each block's register table). An array takes its index; a register of
the four read lanes takes the lane first. -/
namespace Sys2Proof.Machine.Reg
/-- Page of SYS (R496). -/
abbrev pSYS : Nat := 0x00
/-- Page of TICK (R496). -/
abbrev pTICK : Nat := 0x01
/-- Page of PWR (R496). -/
abbrev pPWR : Nat := 0x02
/-- Page of SPN (R496). -/
abbrev pSPN : Nat := 0x03
/-- Page of STP (R496). -/
abbrev pSTP : Nat := 0x04
/-- Page of ACT (R496). -/
abbrev pACT : Nat := 0x05
/-- Page of SADC (R496). -/
abbrev pSADC : Nat := 0x06
/-- Page of LENG (R496). -/
abbrev pLENG : Nat := 0x07
/-- Page of TRC (R496). -/
abbrev pTRC : Nat := 0x08
/-- Page of WINH (R496). -/
abbrev pWINH : Nat := 0x09
/-- Page of RFL (R496). -/
abbrev pRFL : Nat := 0x0A
/-- Page of DSK (R496). -/
abbrev pDSK : Nat := 0x0E
/-- Page of DET (R496). -/
abbrev pDET : Nat := 0x0F
/-- Page of LDPC (R496). -/
abbrev pLDPC : Nat := 0x10
/-- Page of STRP (R496). -/
abbrev pSTRP : Nat := 0x11
/-- Page of WENC (R496). -/
abbrev pWENC : Nat := 0x12
/-- Page of WSG (R496). -/
abbrev pWSG : Nat := 0x13
/-- Page of DRAW (R496). -/
abbrev pDRAW : Nat := 0x14
/-- Page of CAL (R496). -/
abbrev pCAL : Nat := 0x15
/-- Page of FMT (R496). -/
abbrev pFMT : Nat := 0x16
/-- Page of XLT (R496). -/
abbrev pXLT : Nat := 0x17
/-- Page of MEDM (R496). -/
abbrev pMEDM : Nat := 0x18
/-- Page of HQ (R496). -/
abbrev pHQ : Nat := 0x19
/-- Page of PCIE (R496). -/
abbrev pPCIE : Nat := 0x1A
/-- Page of DMA (R496). -/
abbrev pDMA : Nat := 0x1B
/-- Page of MEMC (R496). -/
abbrev pMEMC : Nat := 0x1C
/-- Page of L2C (R496). -/
abbrev pL2C : Nat := 0x1D
/-- Page of ACL (R496). -/
abbrev pACL : Nat := 0x1E
/-- Page of FLC (R496). -/
abbrev pFLC : Nat := 0x1F
/-- Page of OPT (R496). -/
abbrev pOPT : Nat := 0x20
/-- Page of SEC (R496). -/
abbrev pSEC : Nat := 0x21
/-- Page of EVR (R496). -/
abbrev pEVR : Nat := 0x22
/-- Page of WDT (R496). -/
abbrev pWDT : Nat := 0x23
/-- Page of IRQ (R496). -/
abbrev pIRQ : Nat := 0x24
/-- Page of GPIO (R496). -/
abbrev pGPIO : Nat := 0x25
/-- Page of TSNS (R496). -/
abbrev pTSNS : Nat := 0x26
/-- Page of DBG (R496). -/
abbrev pDBG : Nat := 0x27
/-- Page of HDL (R496). -/
abbrev pHDL : Nat := 0x28
/-- First byte of register page p (R495). -/
abbrev pageBase (p : Nat) : Nat := 0x40000000 + 0x1000 * p
/-- ID of page p, common layout (R498). -/
abbrev ID (p : Nat) : Nat := 0x40000000 + 0x1000 * p + 0
/-- CTRL of page p, common layout (R498). -/
abbrev CTRL (p : Nat) : Nat := 0x40000000 + 0x1000 * p + 4
/-- STAT of page p, common layout (R498). -/
abbrev STAT (p : Nat) : Nat := 0x40000000 + 0x1000 * p + 8
/-- IRQ_RAW of page p, common layout (R498). -/
abbrev IRQ_RAW (p : Nat) : Nat := 0x40000000 + 0x1000 * p + 12
/-- IRQ_EN of page p, common layout (R498). -/
abbrev IRQ_EN (p : Nat) : Nat := 0x40000000 + 0x1000 * p + 16
/-- IRQ_STAT of page p, common layout (R498). -/
abbrev IRQ_STAT (p : Nat) : Nat := 0x40000000 + 0x1000 * p + 20
/-- ERR_INFO of page p, common layout (R498). -/
abbrev ERR_INFO (p : Nat) : Nat := 0x40000000 + 0x1000 * p + 24
/-- LOCK of page p, common layout (R498). -/
abbrev LOCK (p : Nat) : Nat := 0x40000000 + 0x1000 * p + 28
abbrev RFL_MODE (l : Nat) : Nat := 0x4000A040 + 0x1000 * l
abbrev RFL_AFE (l : Nat) : Nat := 0x4000A044 + 0x1000 * l
abbrev RFL_AGC (l : Nat) : Nat := 0x4000A048 + 0x1000 * l
abbrev RFL_AGC_STAT (l : Nat) : Nat := 0x4000A04C + 0x1000 * l
abbrev RFL_ADC_CTRL (l : Nat) : Nat := 0x4000A050 + 0x1000 * l
abbrev RFL_ADC_STAT (l : Nat) : Nat := 0x4000A054 + 0x1000 * l
abbrev RFL_EQ_CTRL (l : Nat) : Nat := 0x4000A058 + 0x1000 * l
abbrev RFL_EQ_TGT (l : Nat) : Nat := 0x4000A05C + 0x1000 * l
abbrev RFL_TR_CTRL (l : Nat) : Nat := 0x4000A060 + 0x1000 * l
abbrev RFL_TR_STAT (l : Nat) : Nat := 0x4000A064 + 0x1000 * l
abbrev RFL_SYNC_CTRL (l : Nat) : Nat := 0x4000A068 + 0x1000 * l
abbrev RFL_SYNC_STAT (l : Nat) : Nat := 0x4000A06C + 0x1000 * l
abbrev RFL_SYNC_CNT (l : Nat) : Nat := 0x4000A070 + 0x1000 * l
abbrev RFL_POS (l : Nat) : Nat := 0x4000A074 + 0x1000 * l
abbrev RFL_RATE (l : Nat) : Nat := 0x4000A078 + 0x1000 * l
abbrev RFL_EQ_TAP (l : Nat) (k : Nat) : Nat := 0x4000A080 + 0x1000 * l + 4 * k
abbrev RFL_SUB_STAT (l : Nat) (k : Nat) : Nat := 0x4000A0C0 + 0x1000 * l + 64 * k
abbrev RFL_SUB_OFS (l : Nat) (k : Nat) : Nat := 0x4000A0C4 + 0x1000 * l + 64 * k
abbrev RFL_SUB_OFS_TGT (l : Nat) (k : Nat) : Nat := 0x4000A0C8 + 0x1000 * l + 64 * k
abbrev RFL_SUB_GAIN (l : Nat) (k : Nat) : Nat := 0x4000A0CC + 0x1000 * l + 64 * k
abbrev RFL_SUB_GAIN_TGT (l : Nat) (k : Nat) : Nat := 0x4000A0D0 + 0x1000 * l + 64 * k
abbrev RFL_SUB_SKEW (l : Nat) (k : Nat) : Nat := 0x4000A0D4 + 0x1000 * l + 64 * k
abbrev RFL_SUB_SKEW_TGT (l : Nat) (k : Nat) : Nat := 0x4000A0D8 + 0x1000 * l + 64 * k
abbrev DSK_CFG : Nat := 0x4000E040
abbrev DSK_RING_BASE : Nat := 0x4000E044
abbrev DSK_RING_SLOTS : Nat := 0x4000E048
abbrev DSK_RING_STAT : Nat := 0x4000E04C
abbrev DSK_TILES : Nat := 0x4000E050
abbrev DSK_LANEACT : Nat := 0x4000E054
abbrev DSK_LANE_SKEW (k : Nat) : Nat := 0x4000E080 + 64 * k
abbrev DSK_LANE_LATE (k : Nat) : Nat := 0x4000E084 + 64 * k
abbrev DET_CFG : Nat := 0x4000F040
abbrev DET_XT_CTRL : Nat := 0x4000F044
abbrev DET_WS_BASE : Nat := 0x4000F048
abbrev DET_WS_SLOTS : Nat := 0x4000F04C
abbrev DET_WS_STAT : Nat := 0x4000F050
abbrev DET_HINT : Nat := 0x4000F054
abbrev DET_HINT_ENV : Nat := 0x4000F058
abbrev DET_HINT_TE : Nat := 0x4000F05C
abbrev DET_HINT_FE : Nat := 0x4000F060
abbrev DET_HINTW0 : Nat := 0x4000F064
abbrev DET_HINTW1 : Nat := 0x4000F068
abbrev DET_PASS : Nat := 0x4000F06C
abbrev DET_RETRY : Nat := 0x4000F070
abbrev DET_RCQ_BASE : Nat := 0x4000F074
abbrev DET_RCQ_CTRL : Nat := 0x4000F078
abbrev DET_RCQ_PROD : Nat := 0x4000F07C
abbrev DET_RCQ_CONS : Nat := 0x4000F080
abbrev DET_CNT : Nat := 0x4000F084
abbrev DET_ARM_PSA : Nat := 0x4000F08C
abbrev DET_ARM_CTRL : Nat := 0x4000F090
abbrev DET_ARM_TAG : Nat := 0x4000F094
abbrev DET_XT_IN (k : Nat) : Nat := 0x4000F0C0 + 64 * k
abbrev DET_XT_OUT (k : Nat) : Nat := 0x4000F0C4 + 64 * k
abbrev DET_XT_VAR (k : Nat) : Nat := 0x4000F0C8 + 64 * k
abbrev LDPC_CFG : Nat := 0x40010040
abbrev LDPC_SCHED : Nat := 0x40010044
abbrev LDPC_SLOTS : Nat := 0x40010048
abbrev LDPC_CNT_OK : Nat := 0x4001004C
abbrev LDPC_CNT_FAIL : Nat := 0x40010050
abbrev LDPC_ITSUM : Nat := 0x40010054
abbrev LDPC_CORE_STAT (k : Nat) : Nat := 0x40010080 + 64 * k
abbrev LDPC_CORE_ERR (k : Nat) : Nat := 0x40010084 + 64 * k
abbrev STRP_CTRL : Nat := 0x40011040
abbrev STRP_RSA_BASE : Nat := 0x40011044
abbrev STRP_RSA_SLOTS : Nat := 0x40011048
abbrev STRP_RSA_STAT : Nat := 0x4001104C
abbrev STRP_RSA_REL : Nat := 0x40011050
abbrev STRP_CNT : Nat := 0x40011054
abbrev STRP_MIS : Nat := 0x40011058
abbrev WENC_CFG : Nat := 0x40012040
abbrev WENC_STG_BASE : Nat := 0x40012044
abbrev WENC_STG_SLOTS : Nat := 0x40012048
abbrev WENC_STG_REL : Nat := 0x4001204C
abbrev WENC_ARM_PSA : Nat := 0x40012050
abbrev WENC_ARM_DESC : Nat := 0x40012054
abbrev WENC_ARM_CTRL : Nat := 0x40012058
abbrev WENC_ARM_RST : Nat := 0x4001205C
abbrev WENC_ARM_TAG : Nat := 0x40012060
abbrev WENC_PASSGO : Nat := 0x40012064
abbrev WENC_POS : Nat := 0x40012068
abbrev WENC_CNT : Nat := 0x4001206C
abbrev WSG_CFG : Nat := 0x40013040
abbrev WSG_LOAD_SRC : Nat := 0x40013044
abbrev WSG_LOAD_CTRL : Nat := 0x40013048
abbrev WSG_TRIM : Nat := 0x4001304C
abbrev WSG_OPC : Nat := 0x40013050
abbrev WSG_LAYERSTAT : Nat := 0x40013054
abbrev WSG_CNT : Nat := 0x40013058
abbrev DRAW_CFG : Nat := 0x40014040
abbrev DRAW_BERV : Nat := 0x40014044
abbrev DRAW_VQ_BASE : Nat := 0x40014048
abbrev DRAW_VQ_CTRL : Nat := 0x4001404C
abbrev DRAW_VQ_PROD : Nat := 0x40014050
abbrev DRAW_VQ_CONS : Nat := 0x40014054
abbrev DRAW_OPC_RES : Nat := 0x40014058
abbrev DRAW_CNT : Nat := 0x4001405C
abbrev DRAW_OPC_ERR (k : Nat) : Nat := 0x40014080 + 4 * k
abbrev WINH_SRC : Nat := 0x40009040
abbrev WINH_LATCH : Nat := 0x40009044
abbrev WINH_FORCE : Nat := 0x40009048
abbrev WINH_CNT : Nat := 0x4000904C
abbrev WINH_SHKD : Nat := 0x40009050
abbrev WINH_ACMP_CFG (k : Nat) : Nat := 0x40009080 + 64 * k
abbrev WINH_ACMP_THR (k : Nat) : Nat := 0x40009084 + 64 * k
abbrev WINH_DCHK_CFG (k : Nat) : Nat := 0x40009200 + 64 * k
abbrev WINH_DCHK_THR (k : Nat) : Nat := 0x40009204 + 64 * k
abbrev HDL_CFG : Nat := 0x40028040
abbrev HDL_CMD : Nat := 0x40028044
abbrev HDL_RSP : Nat := 0x40028048
abbrev HDL_FIFO : Nat := 0x4002804C
abbrev HDL_CNT : Nat := 0x40028050
abbrev SADC_CFG : Nat := 0x40006040
abbrev SADC_OVR : Nat := 0x40006044
abbrev SADC_GCNT_CFG : Nat := 0x40006048
abbrev SADC_GCNT : Nat := 0x4000604C
abbrev SADC_GVEL : Nat := 0x40006050
abbrev SADC_CH_CFG (k : Nat) : Nat := 0x40006080 + 64 * k
abbrev SADC_CH_OFS (k : Nat) : Nat := 0x40006084 + 64 * k
abbrev SADC_CH_OFS_TGT (k : Nat) : Nat := 0x40006088 + 64 * k
abbrev SADC_CH_GAIN (k : Nat) : Nat := 0x4000608C + 64 * k
abbrev SADC_CH_GAIN_TGT (k : Nat) : Nat := 0x40006090 + 64 * k
abbrev SADC_CH_VAL (k : Nat) : Nat := 0x40006094 + 64 * k
abbrev ACT_CFG : Nat := 0x40005040
abbrev ACT_SAFE : Nat := 0x40005044
abbrev ACT_MON_FOC : Nat := 0x40005048
abbrev ACT_MON_TRK : Nat := 0x4000504C
abbrev ACT_MON_SHK : Nat := 0x40005050
abbrev ACT_JMP_CTRL : Nat := 0x40005054
abbrev ACT_JMP_KICK : Nat := 0x40005058
abbrev ACT_JMP_BRAKE : Nat := 0x4000505C
abbrev ACT_JMP_CAP : Nat := 0x40005060
abbrev ACT_JMP_SWEEP : Nat := 0x40005064
abbrev ACT_JMP_LIM : Nat := 0x40005068
abbrev ACT_JMP_TMO : Nat := 0x4000506C
abbrev ACT_JMP_STAT : Nat := 0x40005070
abbrev ACT_SETTLE : Nat := 0x40005074
abbrev ACT_BR_CFG (k : Nat) : Nat := 0x40005080 + 64 * k
abbrev ACT_BR_FW (k : Nat) : Nat := 0x40005084 + 64 * k
abbrev ACT_BR_OUT (k : Nat) : Nat := 0x40005088 + 64 * k
abbrev ACT_BR_IMEAS (k : Nat) : Nat := 0x4000508C + 64 * k
abbrev ACT_BR_OFS (k : Nat) : Nat := 0x40005090 + 64 * k
abbrev ACT_BR_OFS_TGT (k : Nat) : Nat := 0x40005094 + 64 * k
abbrev ACT_BR_STAT (k : Nat) : Nat := 0x40005098 + 64 * k
abbrev TICK_CNT_LO : Nat := 0x40001040
abbrev TICK_CNT_HI : Nat := 0x40001044
abbrev TICK_SUP : Nat := 0x40001048
abbrev TICK_SUP_ACK : Nat := 0x4000104C
abbrev TICK_LATE : Nat := 0x40001050
abbrev TICK_PH : Nat := 0x40001054
abbrev LENG_CFG : Nat := 0x40007040
abbrev LENG_CYC : Nat := 0x40007044
abbrev LENG_CYCPK : Nat := 0x40007048
abbrev LENG_OVR : Nat := 0x4000704C
abbrev LENG_OVR_TICK : Nat := 0x40007050
abbrev LENG_SHADOW : Nat := 0x40007054
abbrev LENG_LOADERR : Nat := 0x40007058
abbrev LENG_CMD : Nat := 0x4000705C
abbrev LENG_FHOLD : Nat := 0x40007060
abbrev LENG_MERR : Nat := 0x40007064
abbrev LENG_UPD_CTRL : Nat := 0x40007068
abbrev LENG_UPD_ADDR (k : Nat) : Nat := 0x40007080 + 4 * k
abbrev LENG_UPD_DATA (k : Nat) : Nat := 0x400070C0 + 4 * k
abbrev LENG_EXT_CFG (k : Nat) : Nat := 0x40007100 + 64 * k
abbrev LENG_EXT_SCALE (k : Nat) : Nat := 0x40007104 + 64 * k
abbrev LENG_EXT_OFS (k : Nat) : Nat := 0x40007108 + 64 * k
abbrev LENG_EXT_SLEW (k : Nat) : Nat := 0x4000710C + 64 * k
abbrev LENG_PROG_CFG (k : Nat) : Nat := 0x40007200 + 64 * k
abbrev LENG_PROG_REG (k : Nat) : Nat := 0x40007204 + 64 * k
abbrev LENG_PROG_CYC (k : Nat) : Nat := 0x40007208 + 64 * k
abbrev TRC_GTRIG : Nat := 0x40008040
abbrev TRC_DONE : Nat := 0x40008044
abbrev TRC_CH_CFG (k : Nat) : Nat := 0x40008080 + 64 * k
abbrev TRC_CH_BASE (k : Nat) : Nat := 0x40008084 + 64 * k
abbrev TRC_CH_SIZE (k : Nat) : Nat := 0x40008088 + 64 * k
abbrev TRC_CH_TRIG (k : Nat) : Nat := 0x4000808C + 64 * k
abbrev TRC_CH_THR (k : Nat) : Nat := 0x40008090 + 64 * k
abbrev TRC_CH_POST (k : Nat) : Nat := 0x40008094 + 64 * k
abbrev SPN_MODE : Nat := 0x40003040
abbrev SPN_MOTOR : Nat := 0x40003044
abbrev SPN_PWM : Nat := 0x40003048
abbrev SPN_SHUNT : Nat := 0x4000304C
abbrev SPN_VLIM : Nat := 0x40003050
abbrev SPN_ILIM : Nat := 0x40003054
abbrev SPN_SPD : Nat := 0x40003058
abbrev SPN_RAMP : Nat := 0x4000305C
abbrev SPN_ALIGN : Nat := 0x40003060
abbrev SPN_OLR : Nat := 0x40003064
abbrev SPN_SYNC : Nat := 0x40003068
abbrev SPN_FLY : Nat := 0x4000306C
abbrev SPN_ZV : Nat := 0x40003070
abbrev SPN_OC : Nat := 0x40003074
abbrev SPN_REGEN : Nat := 0x40003078
abbrev SPN_OBS : Nat := 0x4000307C
abbrev SPN_SPDCMD_CFG : Nat := 0x40003080
abbrev SPN_SPDCMD_VAL : Nat := 0x40003084
abbrev SPN_ANG_OFS : Nat := 0x40003088
abbrev SPN_ANG_EPOCH : Nat := 0x4000308C
abbrev SPN_MEAS : Nat := 0x40003090
abbrev SPN_FLYRES : Nat := 0x40003094
abbrev SPN_CNT : Nat := 0x40003098
abbrev SPN_FAULT : Nat := 0x4000309C
abbrev SPN_SH_OFS (k : Nat) : Nat := 0x400030C0 + 64 * k
abbrev SPN_SH_OFS_TGT (k : Nat) : Nat := 0x400030C4 + 64 * k
abbrev SPN_SH_GAIN (k : Nat) : Nat := 0x400030C8 + 64 * k
abbrev SPN_SH_GAIN_TGT (k : Nat) : Nat := 0x400030CC + 64 * k
abbrev SPN_SH_RAW (k : Nat) : Nat := 0x400030D0 + 64 * k
abbrev STP_CMD : Nat := 0x40004040
abbrev STP_PARK : Nat := 0x40004044
abbrev STP_TLOAD_SRC : Nat := 0x40004048
abbrev STP_TLOAD_CTRL : Nat := 0x4000404C
abbrev STP_Q_D0 (k : Nat) : Nat := 0x40004080 + 64 * k
abbrev STP_Q_D1 (k : Nat) : Nat := 0x40004084 + 64 * k
abbrev STP_Q_D2 (k : Nat) : Nat := 0x40004088 + 64 * k
abbrev STP_Q_V (k : Nat) : Nat := 0x4000408C + 64 * k
abbrev STP_Q_A (k : Nat) : Nat := 0x40004090 + 64 * k
abbrev STP_Q_J (k : Nat) : Nat := 0x40004094 + 64 * k
abbrev STP_Q_CTRL (k : Nat) : Nat := 0x40004098 + 64 * k
abbrev STP_Q_PUSH (k : Nat) : Nat := 0x4000409C + 64 * k
abbrev STP_Q_STAT (k : Nat) : Nat := 0x400040A0 + 64 * k
abbrev STP_AX_CFG (k : Nat) : Nat := 0x40004100 + 64 * k
abbrev STP_AX_POS (k : Nat) : Nat := 0x40004104 + 64 * k
abbrev STP_AX_VEL (k : Nat) : Nat := 0x40004108 + 64 * k
abbrev STP_AX_LMIN (k : Nat) : Nat := 0x4000410C + 64 * k
abbrev STP_AX_LMAX (k : Nat) : Nat := 0x40004110 + 64 * k
abbrev STP_AX_VMAX (k : Nat) : Nat := 0x40004114 + 64 * k
abbrev STP_AX_AMAX (k : Nat) : Nat := 0x40004118 + 64 * k
abbrev STP_AX_CUR (k : Nat) : Nat := 0x4000411C + 64 * k
abbrev STP_AX_HOLD (k : Nat) : Nat := 0x40004120 + 64 * k
abbrev STP_AX_VFS (k : Nat) : Nat := 0x40004124 + 64 * k
abbrev STP_AX_TBASE (k : Nat) : Nat := 0x40004128 + 64 * k
abbrev STP_AX_PARKPOS (k : Nat) : Nat := 0x4000412C + 64 * k
abbrev STP_AX_VJMP (k : Nat) : Nat := 0x40004130 + 64 * k
abbrev STP_AX_ADDR (k : Nat) : Nat := 0x40004134 + 64 * k
abbrev STP_AX_FLT (k : Nat) : Nat := 0x40004138 + 64 * k
abbrev PWR_VIN : Nat := 0x40002040
abbrev PWR_OV : Nat := 0x40002044
abbrev PWR_BRK : Nat := 0x40002048
abbrev PWR_HU : Nat := 0x4000204C
abbrev PWR_HUK : Nat := 0x40002050
abbrev PWR_LG : Nat := 0x40002054
abbrev PWR_RAIL : Nat := 0x40002058
abbrev PWR_CLR : Nat := 0x4000205C
abbrev PWR_CNT : Nat := 0x40002060
abbrev CAL_CFG : Nat := 0x40015040
abbrev CAL_TRIG : Nat := 0x40015044
abbrev CAL_RUN : Nat := 0x40015048
abbrev CAL_REF : Nat := 0x4001504C
abbrev CAL_ADCSTAT : Nat := 0x40015050
abbrev CAL_GSTAT : Nat := 0x40015054
abbrev CAL_CNT : Nat := 0x40015058
abbrev CAL_SLOPE (k : Nat) : Nat := 0x40015060 + 4 * k
abbrev CAL_SWP_CFG : Nat := 0x40015070
abbrev CAL_SWP_START : Nat := 0x40015074
abbrev CAL_SWP_STEP : Nat := 0x40015078
abbrev CAL_SWP_CTRL : Nat := 0x4001507C
abbrev CAL_SWP_RES : Nat := 0x40015080
abbrev CAL_SWP_MET (k : Nat) : Nat := 0x400150C0 + 4 * k
abbrev CAL_RETRY : Nat := 0x40015100
abbrev CAL_LINK : Nat := 0x40015140
abbrev CAL_MG_CFG (k : Nat) : Nat := 0x40015180 + 64 * k
abbrev CAL_MG_TGT (k : Nat) : Nat := 0x40015184 + 64 * k
abbrev CAL_MG_SLOPE (k : Nat) : Nat := 0x40015188 + 64 * k
abbrev CAL_MG_STAT (k : Nat) : Nat := 0x4001518C + 64 * k
abbrev PCIE_LINK : Nat := 0x4001A040
abbrev PCIE_ASPM : Nat := 0x4001A044
abbrev PCIE_LTR : Nat := 0x4001A048
abbrev PCIE_CTO : Nat := 0x4001A04C
abbrev PCIE_TAGS : Nat := 0x4001A050
abbrev PCIE_FLR : Nat := 0x4001A054
abbrev PCIE_SURP : Nat := 0x4001A058
abbrev PCIE_CNT0 : Nat := 0x4001A05C
abbrev PCIE_CNT1 : Nat := 0x4001A060
abbrev PCIE_B2 : Nat := 0x4001A064
abbrev PCIE_IDS : Nat := 0x4001A068
abbrev DMA_CFG : Nat := 0x4001B040
abbrev DMA_STAT : Nat := 0x4001B044
abbrev DMA_RDBYTES : Nat := 0x4001B048
abbrev DMA_WRBYTES : Nat := 0x4001B04C
abbrev DMA_REISSUE : Nat := 0x4001B050
abbrev DMA_FAILADDR_LO : Nat := 0x4001B054
abbrev DMA_FAILADDR_HI : Nat := 0x4001B058
abbrev DMA_CDMA : Nat := 0x4001B05C
abbrev HQ_CTRL : Nat := 0x40019040
abbrev HQ_CTX : Nat := 0x40019044
abbrev HQ_CTXPK : Nat := 0x40019048
abbrev HQ_SEQ_LO : Nat := 0x4001904C
abbrev HQ_SEQ_HI : Nat := 0x40019050
abbrev HQ_STALL : Nat := 0x40019054
abbrev HQ_PS : Nat := 0x40019058
abbrev HQ_AE : Nat := 0x4001905C
abbrev HQ_ACC : Nat := 0x40019060
abbrev HQ_CMP : Nat := 0x40019064
abbrev HQ_ABT : Nat := 0x40019068
abbrev HQ_VIOL : Nat := 0x4001906C
abbrev HQ_SQPTR (k : Nat) : Nat := 0x40019100 + 4 * k
abbrev HQ_CQPTR (k : Nat) : Nat := 0x40019300 + 4 * k
abbrev HQ_QCFG (k : Nat) : Nat := 0x40019500 + 4 * k
abbrev XLT_CFG : Nat := 0x40017040
abbrev XLT_TBL_BASE : Nat := 0x40017044
abbrev XLT_IDX_BASE : Nat := 0x40017048
abbrev XLT_LEAF : Nat := 0x4001704C
abbrev XLT_MERGE : Nat := 0x40017050
abbrev XLT_NSZE : Nat := 0x40017054
abbrev XLT_NUSE : Nat := 0x40017058
abbrev XLT_NCAP : Nat := 0x4001705C
abbrev XLT_JRNL : Nat := 0x40017060
abbrev XLT_JSN : Nat := 0x40017064
abbrev XLT_CKPT : Nat := 0x40017068
abbrev XLT_CKPT_GEN : Nat := 0x4001706C
abbrev XLT_SEQRES_LO : Nat := 0x40017070
abbrev XLT_SEQRES_HI : Nat := 0x40017074
abbrev XLT_CNT : Nat := 0x40017078
abbrev XLT_LK_LBA_LO : Nat := 0x40017080
abbrev XLT_LK_LBA_HI : Nat := 0x40017084
abbrev XLT_LK_CTRL : Nat := 0x40017088
abbrev XLT_LK_CTX (k : Nat) : Nat := 0x40017090 + 4 * k
abbrev MEDM_GC : Nat := 0x40018040
abbrev MEDM_WL : Nat := 0x40018044
abbrev MEDM_RET : Nat := 0x40018048
abbrev MEDM_BT_BASE : Nat := 0x4001804C
abbrev MEDM_POOL : Nat := 0x40018050
abbrev MEDM_WEAR : Nat := 0x40018054
abbrev MEDM_JOB : Nat := 0x40018058
abbrev MEDM_RST : Nat := 0x4001805C
abbrev MEDM_CNT : Nat := 0x40018060
abbrev MEMC_CFG : Nat := 0x4001C040
abbrev MEMC_PPROT_LO : Nat := 0x4001C044
abbrev MEMC_PPROT_HI : Nat := 0x4001C048
abbrev MEMC_PPSTAT : Nat := 0x4001C04C
abbrev MEMC_SCRUB : Nat := 0x4001C050
abbrev MEMC_SCRUB_POS : Nat := 0x4001C054
abbrev MEMC_SCRUB_PASS : Nat := 0x4001C058
abbrev MEMC_CECNT : Nat := 0x4001C05C
abbrev MEMC_UECNT : Nat := 0x4001C060
abbrev MEMC_ERRADDR : Nat := 0x4001C064
abbrev MEMC_ERRSRC : Nat := 0x4001C068
abbrev MEMC_MACFAIL : Nat := 0x4001C06C
abbrev MEMC_INJ_ADDR : Nat := 0x4001C070
abbrev MEMC_INJ : Nat := 0x4001C074
abbrev MEMC_MIR_CFG (k : Nat) : Nat := 0x4001C080 + 64 * k
abbrev MEMC_MIR_PRI (k : Nat) : Nat := 0x4001C084 + 64 * k
abbrev MEMC_MIR_SEC (k : Nat) : Nat := 0x4001C088 + 64 * k
abbrev MEMC_MIR_SIZE (k : Nat) : Nat := 0x4001C08C + 64 * k
abbrev L2C_CTRL : Nat := 0x4001D040
abbrev L2C_CFG : Nat := 0x4001D044
abbrev L2C_LOCK : Nat := 0x4001D048
abbrev L2C_ALLOC : Nat := 0x4001D04C
abbrev L2C_MOP : Nat := 0x4001D050
abbrev L2C_MSTART : Nat := 0x4001D054
abbrev L2C_MEND : Nat := 0x4001D058
abbrev L2C_MSW : Nat := 0x4001D05C
abbrev L2C_MSTAT : Nat := 0x4001D060
abbrev L2C_HIT : Nat := 0x4001D064
abbrev L2C_MISS : Nat := 0x4001D068
abbrev L2C_ECC : Nat := 0x4001D06C
abbrev ACL_CNT : Nat := 0x4001E040
abbrev ACL_LOGIDX : Nat := 0x4001E044
abbrev ACL_LOG_ADDR (k : Nat) : Nat := 0x4001E080 + 4 * k
abbrev ACL_LOG_SRC (k : Nat) : Nat := 0x4001E0C0 + 4 * k
abbrev ACL_SRAM_BASE (k : Nat) : Nat := 0x4001E100 + 64 * k
abbrev ACL_SRAM_LIMIT (k : Nat) : Nat := 0x4001E104 + 64 * k
abbrev ACL_SRAM_RW (k : Nat) : Nat := 0x4001E108 + 64 * k
abbrev ACL_SRAM_X (k : Nat) : Nat := 0x4001E10C + 64 * k
abbrev ACL_FLASH_BASE (k : Nat) : Nat := 0x4001E300 + 64 * k
abbrev ACL_FLASH_LIMIT (k : Nat) : Nat := 0x4001E304 + 64 * k
abbrev ACL_FLASH_RW (k : Nat) : Nat := 0x4001E308 + 64 * k
abbrev ACL_FLASH_X (k : Nat) : Nat := 0x4001E30C + 64 * k
abbrev ACL_MORT_BASE (k : Nat) : Nat := 0x4001E500 + 64 * k
abbrev ACL_MORT_LIMIT (k : Nat) : Nat := 0x4001E504 + 64 * k
abbrev ACL_MORT_RW (k : Nat) : Nat := 0x4001E508 + 64 * k
abbrev ACL_MORT_X (k : Nat) : Nat := 0x4001E50C + 64 * k
abbrev ACL_PAGE (k : Nat) : Nat := 0x4001E600 + 4 * k
abbrev FLC_CFG : Nat := 0x4001F040
abbrev FLC_ESEQ : Nat := 0x4001F044
abbrev FLC_SCAN : Nat := 0x4001F048
abbrev FLC_BOOT : Nat := 0x4001F04C
abbrev FLC_ECC : Nat := 0x4001F050
abbrev FLC_ERRADDR : Nat := 0x4001F054
abbrev FLC_B_ADDR (k : Nat) : Nat := 0x4001F080 + 64 * k
abbrev FLC_B_SRC (k : Nat) : Nat := 0x4001F084 + 64 * k
abbrev FLC_B_CNT (k : Nat) : Nat := 0x4001F088 + 64 * k
abbrev FLC_B_CMD (k : Nat) : Nat := 0x4001F08C + 64 * k
abbrev FLC_B_STAT (k : Nat) : Nat := 0x4001F090 + 64 * k
abbrev FLC_B_SUSP (k : Nat) : Nat := 0x4001F094 + 64 * k
abbrev FLC_B_LAST (k : Nat) : Nat := 0x4001F098 + 64 * k
abbrev FLC_B_ERASES (k : Nat) : Nat := 0x4001F09C + 64 * k
abbrev OPT_SEL : Nat := 0x40020040
abbrev OPT_BAD : Nat := 0x40020044
abbrev OPT_WADDR : Nat := 0x40020048
abbrev OPT_WDATA_LO : Nat := 0x4002004C
abbrev OPT_WDATA_HI : Nat := 0x40020050
abbrev OPT_CMD : Nat := 0x40020054
abbrev OPT_AUTH : Nat := 0x40020058
abbrev OPT_RES : Nat := 0x4002005C
abbrev SEC_CMD : Nat := 0x40021040
abbrev SEC_RES : Nat := 0x40021044
abbrev SEC_BUF : Nat := 0x40021048
abbrev SEC_LEN : Nat := 0x4002104C
abbrev SEC_ROMVER : Nat := 0x40021050
abbrev SEC_OUT (k : Nat) : Nat := 0x40021060 + 4 * k
abbrev SEC_MEAS (k : Nat) : Nat := 0x40021080 + 4 * k
abbrev SEC_IMGDIG (k : Nat) : Nat := 0x400210A0 + 4 * k
abbrev SEC_NONCE (k : Nat) : Nat := 0x400210C0 + 4 * k
abbrev SEC_CHAL (k : Nat) : Nat := 0x400210E0 + 4 * k
abbrev SEC_CHAL2 (k : Nat) : Nat := 0x40021100 + 4 * k
abbrev SEC_IDPK (k : Nat) : Nat := 0x40021800 + 4 * k
abbrev EVR_CFG : Nat := 0x40022040
abbrev EVR_SEQ : Nat := 0x40022044
abbrev EVR_POC : Nat := 0x40022048
abbrev EVR_CLRCNT : Nat := 0x4002204C
abbrev EVR_NPERM : Nat := 0x40022050
abbrev EVR_NCIRC : Nat := 0x40022054
abbrev EVR_FIRST : Nat := 0x40022058
abbrev EVR_WPOS : Nat := 0x4002205C
abbrev EVR_PFR_BASE : Nat := 0x40022060
abbrev EVR_PFR_STAT : Nat := 0x40022064
abbrev EVR_WR_SRC : Nat := 0x40022068
abbrev EVR_WR : Nat := 0x4002206C
abbrev EVR_CNT : Nat := 0x40022070
abbrev EVR_TIME_LO : Nat := 0x40022074
abbrev EVR_TIME_HI : Nat := 0x40022078
abbrev WDT_RST : Nat := 0x40023040
abbrev WDT_ISO : Nat := 0x40023044
abbrev WDT_REJOIN : Nat := 0x40023048
abbrev WDT_REJOINPC : Nat := 0x4002304C
abbrev WDT_WRST : Nat := 0x40023050
abbrev WDT_CFG (k : Nat) : Nat := 0x40023080 + 64 * k
abbrev WDT_TIME (k : Nat) : Nat := 0x40023084 + 64 * k
abbrev WDT_KICK (k : Nat) : Nat := 0x40023088 + 64 * k
abbrev WDT_STAT (k : Nat) : Nat := 0x4002308C + 64 * k
abbrev IRQ_PEND_LO : Nat := 0x40024040
abbrev IRQ_PEND_HI : Nat := 0x40024044
abbrev IRQ_ROUTE (k : Nat) : Nat := 0x40024080 + 4 * k
abbrev IRQ_THR (k : Nat) : Nat := 0x40024200 + 64 * k
abbrev IRQ_CLAIM (k : Nat) : Nat := 0x40024204 + 64 * k
abbrev IRQ_HSTAT (k : Nat) : Nat := 0x40024208 + 64 * k
abbrev SYS_CHIPID : Nat := 0x40000040
abbrev SYS_CLK : Nat := 0x40000044
abbrev SYS_MTIME_LO : Nat := 0x40000048
abbrev SYS_MTIME_HI : Nat := 0x4000004C
abbrev SYS_MSIP : Nat := 0x40000050
abbrev SYS_FAULTN : Nat := 0x40000054
abbrev SYS_SCRATCH (k : Nat) : Nat := 0x40000060 + 4 * k
abbrev SYS_MTIMECMP_LO (k : Nat) : Nat := 0x40000080 + 64 * k
abbrev SYS_MTIMECMP_HI (k : Nat) : Nat := 0x40000084 + 64 * k
abbrev FMT_CFG : Nat := 0x40016040
abbrev FMT_GA_LO : Nat := 0x40016044
abbrev FMT_GA_HI : Nat := 0x40016048
abbrev FMT_GASTAT : Nat := 0x4001604C
abbrev FMT_WOB : Nat := 0x40016050
abbrev FMT_DI_BASE : Nat := 0x40016054
abbrev FMT_DI_CTRL : Nat := 0x40016058
abbrev FMT_DI_STAT : Nat := 0x4001605C
abbrev GPIO_IN : Nat := 0x40025040
abbrev GPIO_OUT : Nat := 0x40025044
abbrev GPIO_SET : Nat := 0x40025048
abbrev GPIO_CLR : Nat := 0x4002504C
abbrev GPIO_OE : Nat := 0x40025050
abbrev GPIO_OD : Nat := 0x40025054
abbrev GPIO_PULL : Nat := 0x40025058
abbrev GPIO_PCFG (k : Nat) : Nat := 0x40025080 + 4 * k
abbrev TSNS_CFG : Nat := 0x40026040
abbrev TSNS_MAX : Nat := 0x40026044
abbrev TSNS_PEAK : Nat := 0x40026048
abbrev TSNS_T (k : Nat) : Nat := 0x40026080 + 4 * k
abbrev DBG_STAT : Nat := 0x40027040
abbrev DBG_CFG : Nat := 0x40027044
abbrev DBG_CNT : Nat := 0x40027048
end Sys2Proof.Machine.Reg
end

