-- ==== Sys2Proof/Machine/RegTable.lean ====
section
/-! DEFINITION. The register tables of the spec as data: for each register of a page its offset, its access code, its
reset value on each variant, the bits a write reaches by their own access codes, and the legal range of each field that
has one (R14, R495 to R508 and the register tables of each block's chapter). -/
namespace Sys2Proof.Machine

/-- Access codes of the register tables (R17, R18). -/
inductive Access where
  | ro | rw | wo | w1c | w1s | rwo | rc | rwh
  deriving DecidableEq, Repr

/-- The legal range of one field: low bit, width, whether it is signed, least and greatest value. -/
structure FieldRange where
  lo : Nat
  width : Nat
  signed : Bool
  min : Int
  max : Int
  deriving DecidableEq, Repr

/-- One row of a register table: offset within the page, number of array elements and their stride, access code, reset
value on the LN7740 and on the LN7720, the bits that take a written value, those cleared by a written 1, those where a
written 1 acts, and the ranges R14 checks. -/
structure RegDesc where
  off : Nat
  n : Nat
  stride : Nat
  acc : Access
  reset40 : Nat
  reset20 : Nat
  rwMask : Nat
  w1cMask : Nat
  w1sMask : Nat
  ranges : List FieldRange
  deriving DecidableEq, Repr

/-- Own registers of SYS, page 0x00. -/
def regTableSYS : List RegDesc :=
  [⟨0x040, 1, 4, .ro, 0x77400101, 0x77200101, 0x0, 0x0, 0x0, []⟩,  -- SYS_CHIPID
   ⟨0x044, 1, 4, .ro, 0x3, 0x3, 0x0, 0x0, 0x0, []⟩,  -- SYS_CLK
   ⟨0x048, 1, 4, .ro, 0x0, 0x0, 0x0, 0x0, 0x0, []⟩,  -- SYS_MTIME_LO
   ⟨0x04C, 1, 4, .ro, 0x0, 0x0, 0x0, 0x0, 0x0, []⟩,  -- SYS_MTIME_HI
   ⟨0x050, 1, 4, .rw, 0x0, 0x0, 0x1F, 0x0, 0x0, []⟩,  -- SYS_MSIP
   ⟨0x054, 1, 4, .rw, 0x2, 0x2, 0x3, 0x0, 0x0, []⟩,  -- SYS_FAULTN
   ⟨0x060, 4, 4, .rw, 0x0, 0x0, 0xFFFFFFFF, 0x0, 0x0, []⟩,  -- SYS_SCRATCH
   ⟨0x080, 5, 64, .rw, 0xFFFFFFFF, 0xFFFFFFFF, 0xFFFFFFFF, 0x0, 0x0, []⟩,  -- SYS_MTIMECMP_LO
   ⟨0x084, 5, 64, .rw, 0x7FFFFFFF, 0x7FFFFFFF, 0x7FFFFFFF, 0x0, 0x0, []⟩]  -- SYS_MTIMECMP_HI

/-- Own registers of TICK, page 0x01. -/
def regTableTICK : List RegDesc :=
  [⟨0x040, 1, 4, .ro, 0x0, 0x0, 0x0, 0x0, 0x0, []⟩,  -- TICK_CNT_LO
   ⟨0x044, 1, 4, .ro, 0x0, 0x0, 0x0, 0x0, 0x0, []⟩,  -- TICK_CNT_HI
   ⟨0x048, 1, 4, .rw, 0x4, 0x4, 0x3FF000F, 0x0, 0x0, [⟨0, 4, false, 0, 10⟩]⟩,  -- TICK_SUP
   ⟨0x04C, 1, 4, .w1s, 0x0, 0x0, 0x0, 0x0, 0x1, []⟩,  -- TICK_SUP_ACK
   ⟨0x050, 1, 4, .rc, 0x0, 0x0, 0x0, 0x0, 0x0, []⟩,  -- TICK_LATE
   ⟨0x054, 1, 4, .ro, 0x0, 0x0, 0x0, 0x0, 0x0, []⟩]  -- TICK_PH

/-- Own registers of PWR, page 0x02. -/
def regTablePWR : List RegDesc :=
  [⟨0x040, 1, 4, .ro, 0x0, 0x0, 0x0, 0x0, 0x0, []⟩,  -- PWR_VIN
   ⟨0x044, 1, 4, .rw, 0x4B4A8, 0x4B4A8, 0xFFFFF, 0x0, 0x0, [⟨0, 8, false, 28, 176⟩, ⟨16, 4, false, 1, 15⟩]⟩,  -- PWR_OV
   ⟨0x048, 1, 4, .rw, 0x0, 0x0, 0xFFF1F03, 0x0, 0x0, []⟩,  -- PWR_BRK
   ⟨0x04C, 1, 4, .rw, 0x14202804, 0x14202804, 0xFFFFFF0D, 0x0, 0x0, [⟨2, 2, false, 0, 2⟩, ⟨8, 8, false, 28, 152⟩, ⟨16, 8, false, 26, 150⟩, ⟨24, 8, false, 1, 255⟩]⟩,  -- PWR_HU
   ⟨0x050, 1, 4, .rw, 0x5DC07D0, 0x5DC07D0, 0xFFFFFFF, 0x0, 0x0, [⟨0, 16, false, 100, 10000⟩, ⟨16, 12, false, 100, 3000⟩]⟩,  -- PWR_HUK
   ⟨0x054, 1, 4, .rwh, 0x64, 0x64, 0xFF, 0x0, 0x100, [⟨0, 8, false, 10, 255⟩]⟩,  -- PWR_LG
   ⟨0x058, 1, 4, .rwh, 0x10F00, 0x10F00, 0x1, 0x0, 0x0, []⟩,  -- PWR_RAIL
   ⟨0x05C, 1, 4, .w1s, 0x0, 0x0, 0x0, 0x0, 0x7, []⟩,  -- PWR_CLR
   ⟨0x060, 1, 4, .rc, 0x0, 0x0, 0x0, 0x0, 0x0, []⟩]  -- PWR_CNT

/-- Own registers of SPN, page 0x03. -/
def regTableSPN : List RegDesc :=
  [⟨0x040, 1, 4, .rw, 0x0, 0x0, 0x7, 0x0, 0x0, [⟨0, 3, false, 0, 3⟩]⟩,  -- SPN_MODE
   ⟨0x044, 1, 4, .rw, 0x4, 0x4, 0x1F, 0x0, 0x0, [⟨0, 4, false, 1, 8⟩]⟩,  -- SPN_MOTOR
   ⟨0x048, 1, 4, .rw, 0x6A0, 0x6A0, 0x7FF, 0x0, 0x0, [⟨0, 9, false, 20, 320⟩]⟩,  -- SPN_PWM
   ⟨0x04C, 1, 4, .rw, 0x32020828, 0x32020828, 0xFF03FFFF, 0x0, 0x0, [⟨0, 8, false, 8, 200⟩, ⟨8, 8, false, 4, 40⟩, ⟨24, 8, false, 10, 200⟩]⟩,  -- SPN_SHUNT
   ⟨0x050, 1, 4, .rw, 0x8F6, 0x8F6, 0xFFF, 0x0, 0x0, [⟨0, 8, false, 128, 250⟩, ⟨8, 4, false, 1, 15⟩]⟩,  -- SPN_VLIM
   ⟨0x054, 1, 4, .rw, 0x5DC0BB8, 0x5DC0BB8, 0xFFF0FFF, 0x0, 0x0, [⟨0, 12, false, 100, 3000⟩, ⟨16, 12, false, 100, 1500⟩]⟩,  -- SPN_ILIM
   ⟨0x058, 1, 4, .rw, 0x882710, 0x882710, 0xFFF3FFF, 0x0, 0x0, [⟨0, 14, false, 1500, 10000⟩]⟩,  -- SPN_SPD
   ⟨0x05C, 1, 4, .rw, 0x13880E10, 0x13880E10, 0x3FFF3FFF, 0x0, 0x0, [⟨0, 14, false, 100, 10000⟩, ⟨16, 14, false, 100, 10000⟩]⟩,  -- SPN_RAMP
   ⟨0x060, 1, 4, .rw, 0x6403E8, 0x6403E8, 0xFF0FFF, 0x0, 0x0, [⟨0, 12, false, 100, 3000⟩, ⟨16, 8, false, 30, 255⟩]⟩,  -- SPN_ALIGN
   ⟨0x064, 1, 4, .rw, 0xC8324B0, 0xC8324B0, 0xFFFFFFFF, 0x0, 0x0, [⟨0, 12, false, 100, 3000⟩, ⟨12, 10, false, 20, 200⟩, ⟨22, 10, false, 5, 100⟩]⟩,  -- SPN_OLR
   ⟨0x068, 1, 4, .rw, 0x3E81E20, 0x3E81E20, 0xFFFFFFF, 0x0, 0x0, [⟨0, 8, false, 8, 255⟩, ⟨8, 8, false, 5, 45⟩, ⟨16, 12, false, 100, 4000⟩]⟩,  -- SPN_SYNC
   ⟨0x06C, 1, 4, .rw, 0x64012C, 0x64012C, 0x3FF03FF, 0x0, 0x0, [⟨0, 10, false, 100, 1000⟩, ⟨16, 10, false, 20, 1000⟩]⟩,  -- SPN_FLY
   ⟨0x070, 1, 4, .rw, 0xC809C4, 0xC809C4, 0xFFF0FFF, 0x0, 0x0, [⟨0, 12, false, 100, 3000⟩, ⟨16, 12, false, 1, 600⟩]⟩,  -- SPN_ZV
   ⟨0x074, 1, 4, .rw, 0xD48, 0xD48, 0xFFF, 0x0, 0x0, [⟨0, 12, false, 500, 3600⟩]⟩,  -- SPN_OC
   ⟨0x078, 1, 4, .rw, 0xA6A000, 0xA6A000, 0xFFFF01, 0x0, 0x0, []⟩,  -- SPN_REGEN
   ⟨0x07C, 1, 4, .rw, 0x1AF0180, 0x1AF0180, 0xFFF0FFF, 0x0, 0x0, []⟩,  -- SPN_OBS
   ⟨0x080, 1, 4, .rw, 0x2710040, 0x2710040, 0xFFFFF0F3, 0x0, 0x0, [⟨4, 4, false, 0, 10⟩, ⟨12, 20, false, 1, 1000000⟩]⟩,  -- SPN_SPDCMD_CFG
   ⟨0x084, 1, 4, .ro, 0x0, 0x0, 0x0, 0x0, 0x0, []⟩,  -- SPN_SPDCMD_VAL
   ⟨0x088, 1, 4, .rw, 0x0, 0x0, 0xFFFF, 0x0, 0x0, []⟩,  -- SPN_ANG_OFS
   ⟨0x08C, 1, 4, .ro, 0x0, 0x0, 0x0, 0x0, 0x0, []⟩,  -- SPN_ANG_EPOCH
   ⟨0x090, 1, 4, .ro, 0x0, 0x0, 0x0, 0x0, 0x0, []⟩,  -- SPN_MEAS
   ⟨0x094, 1, 4, .ro, 0x0, 0x0, 0x0, 0x0, 0x0, []⟩,  -- SPN_FLYRES
   ⟨0x098, 1, 4, .rc, 0x0, 0x0, 0x0, 0x0, 0x0, []⟩,  -- SPN_CNT
   ⟨0x09C, 1, 4, .ro, 0x0, 0x0, 0x0, 0x0, 0x0, []⟩,  -- SPN_FAULT
   ⟨0x0C0, 3, 64, .ro, 0x0, 0x0, 0x0, 0x0, 0x0, []⟩,  -- SPN_SH_OFS
   ⟨0x0C4, 3, 64, .rwh, 0x0, 0x0, 0xFFF, 0x0, 0x0, []⟩,  -- SPN_SH_OFS_TGT
   ⟨0x0C8, 3, 64, .ro, 0x0, 0x0, 0x0, 0x0, 0x0, []⟩,  -- SPN_SH_GAIN
   ⟨0x0CC, 3, 64, .rwh, 0x0, 0x0, 0xFFF, 0x0, 0x0, []⟩,  -- SPN_SH_GAIN_TGT
   ⟨0x0D0, 3, 64, .ro, 0x0, 0x0, 0x0, 0x0, 0x0, []⟩]  -- SPN_SH_RAW

/-- Own registers of STP, page 0x04. -/
def regTableSTP : List RegDesc :=
  [⟨0x040, 1, 4, .w1s, 0x0, 0x0, 0x0, 0x0, 0x103, []⟩,  -- STP_CMD
   ⟨0x044, 1, 4, .rw, 0x1380001, 0x1380001, 0xFFF0007, 0x0, 0x0, [⟨16, 12, false, 1, 4000⟩]⟩,  -- STP_PARK
   ⟨0x048, 1, 4, .rw, 0x0, 0x0, 0xFFFFFFFF, 0x0, 0x0, []⟩,  -- STP_TLOAD_SRC
   ⟨0x04C, 1, 4, .w1s, 0x0, 0x0, 0x0, 0x0, 0x80000000, []⟩,  -- STP_TLOAD_CTRL
   ⟨0x080, 2, 64, .rw, 0x0, 0x0, 0xFFFFFF, 0x0, 0x0, []⟩,  -- STP_Q_D0
   ⟨0x084, 2, 64, .rw, 0x0, 0x0, 0xFFFFFF, 0x0, 0x0, []⟩,  -- STP_Q_D1
   ⟨0x088, 2, 64, .rw, 0x0, 0x0, 0xFFFFFF, 0x0, 0x0, []⟩,  -- STP_Q_D2
   ⟨0x08C, 2, 64, .rw, 0x0, 0x0, 0x7FFFF, 0x0, 0x0, []⟩,  -- STP_Q_V
   ⟨0x090, 2, 64, .rw, 0x0, 0x0, 0xFFFF, 0x0, 0x0, []⟩,  -- STP_Q_A
   ⟨0x094, 2, 64, .rw, 0x0, 0x0, 0xFFFF, 0x0, 0x0, []⟩,  -- STP_Q_J
   ⟨0x098, 2, 64, .rw, 0x0, 0x0, 0xFF0F, 0x0, 0x0, []⟩,  -- STP_Q_CTRL
   ⟨0x09C, 2, 64, .wo, 0x0, 0x0, 0x0, 0x0, 0x1, []⟩,  -- STP_Q_PUSH
   ⟨0x0A0, 2, 64, .ro, 0x0, 0x0, 0x0, 0x0, 0x0, []⟩,  -- STP_Q_STAT
   ⟨0x100, 3, 64, .rw, 0x0, 0x0, 0x73, 0x0, 0x0, []⟩,  -- STP_AX_CFG
   ⟨0x104, 3, 64, .rwh, 0x0, 0x0, 0xFFFFFFF, 0x0, 0x0, []⟩,  -- STP_AX_POS
   ⟨0x108, 3, 64, .ro, 0x0, 0x0, 0x0, 0x0, 0x0, []⟩,  -- STP_AX_VEL
   ⟨0x10C, 3, 64, .rw, 0x8000000, 0x8000000, 0xFFFFFFF, 0x0, 0x0, []⟩,  -- STP_AX_LMIN
   ⟨0x110, 3, 64, .rw, 0x7FFFFFF, 0x7FFFFFF, 0xFFFFFFF, 0x0, 0x0, []⟩,  -- STP_AX_LMAX
   ⟨0x114, 3, 64, .rw, 0x9C40, 0x9C40, 0x7FFFF, 0x0, 0x0, [⟨0, 19, false, 1, 400000⟩]⟩,  -- STP_AX_VMAX
   ⟨0x118, 3, 64, .rw, 0x320, 0x320, 0xFFFF, 0x0, 0x0, [⟨0, 16, false, 1, 50000⟩]⟩,  -- STP_AX_AMAX
   ⟨0x11C, 3, 64, .rw, 0xC80190, 0xC80190, 0x7FF07FF, 0x0, 0x0, [⟨0, 11, false, 10, 1200⟩]⟩,  -- STP_AX_CUR
   ⟨0x120, 3, 64, .rw, 0x6400C8, 0x6400C8, 0xFFF07FF, 0x0, 0x0, [⟨0, 11, false, 10, 1200⟩]⟩,  -- STP_AX_HOLD
   ⟨0x124, 3, 64, .rw, 0x0, 0x0, 0x7FFFF, 0x0, 0x0, [⟨0, 19, false, 0, 400000⟩]⟩,  -- STP_AX_VFS
   ⟨0x128, 3, 64, .rw, 0x0, 0x0, 0xFFFFFFF, 0x0, 0x0, []⟩,  -- STP_AX_TBASE
   ⟨0x12C, 3, 64, .rw, 0x0, 0x0, 0xFFFFFFF, 0x0, 0x0, []⟩,  -- STP_AX_PARKPOS
   ⟨0x130, 3, 64, .rw, 0x3E8, 0x3E8, 0x7FFFF, 0x0, 0x0, [⟨0, 19, false, 0, 400000⟩]⟩,  -- STP_AX_VJMP
   ⟨0x134, 3, 64, .ro, 0x0, 0x0, 0x0, 0x0, 0x0, []⟩,  -- STP_AX_ADDR
   ⟨0x138, 3, 64, .w1c, 0x0, 0x0, 0x0, 0x7, 0x0, []⟩]  -- STP_AX_FLT

/-- Own registers of ACT, page 0x05. -/
def regTableACT : List RegDesc :=
  [⟨0x040, 1, 4, .rw, 0x0, 0x0, 0xF, 0x0, 0x0, []⟩,  -- ACT_CFG
   ⟨0x044, 1, 4, .rwh, 0x0, 0x0, 0x0, 0x0, 0x3, []⟩,  -- ACT_SAFE
   ⟨0x048, 1, 4, .rw, 0x200100, 0x200100, 0x80FF0FFF, 0x0, 0x0, [⟨0, 12, false, 1, 2047⟩, ⟨16, 8, false, 1, 255⟩]⟩,  -- ACT_MON_FOC
   ⟨0x04C, 1, 4, .rw, 0x8019A, 0x8019A, 0x80FF0FFF, 0x0, 0x0, [⟨0, 12, false, 1, 2047⟩, ⟨16, 8, false, 1, 255⟩]⟩,  -- ACT_MON_TRK
   ⟨0x050, 1, 4, .rw, 0x400, 0x400, 0x80000FFF, 0x0, 0x0, [⟨0, 12, false, 1, 2047⟩]⟩,  -- ACT_MON_SHK
   ⟨0x054, 1, 4, .rwh, 0x0, 0x0, 0xF1E, 0x0, 0x80000001, []⟩,  -- ACT_JMP_CTRL
   ⟨0x058, 1, 4, .rw, 0x301333, 0x301333, 0xFFFFFFF, 0x0, 0x0, [⟨0, 16, false, 1, 32767⟩, ⟨16, 12, false, 1, 4095⟩]⟩,  -- ACT_JMP_KICK
   ⟨0x05C, 1, 4, .rw, 0x301333, 0x301333, 0xFFFFFFF, 0x0, 0x0, [⟨0, 16, false, 1, 32767⟩, ⟨16, 12, false, 1, 4095⟩]⟩,  -- ACT_JMP_BRAKE
   ⟨0x060, 1, 4, .rw, 0x800200, 0x800200, 0xFFF0FFF, 0x0, 0x0, [⟨0, 12, false, 1, 2047⟩, ⟨16, 12, false, 1, 2047⟩]⟩,  -- ACT_JMP_CAP
   ⟨0x064, 1, 4, .rw, 0x15, 0x15, 0xFFFF, 0x0, 0x0, [⟨0, 16, false, 1, 65535⟩]⟩,  -- ACT_JMP_SWEEP
   ⟨0x068, 1, 4, .rw, 0x3333CCCD, 0x3333CCCD, 0xFFFFFFFF, 0x0, 0x0, []⟩,  -- ACT_JMP_LIM
   ⟨0x06C, 1, 4, .rw, 0xC350, 0xC350, 0xFFFF, 0x0, 0x0, [⟨0, 16, false, 1, 65535⟩]⟩,  -- ACT_JMP_TMO
   ⟨0x070, 1, 4, .ro, 0x0, 0x0, 0x0, 0x0, 0x0, []⟩,  -- ACT_JMP_STAT
   ⟨0x074, 1, 4, .rw, 0x800100, 0x800100, 0xFFF0FFF, 0x0, 0x0, [⟨0, 12, false, 1, 4095⟩, ⟨16, 12, false, 1, 2047⟩]⟩,  -- ACT_SETTLE
   ⟨0x080, 4, 64, .rw, 0x2, 0x2, 0x13, 0x0, 0x0, [⟨0, 2, false, 0, 2⟩]⟩,  -- ACT_BR_CFG
   ⟨0x084, 4, 64, .rw, 0x0, 0x0, 0xFFFF, 0x0, 0x0, []⟩,  -- ACT_BR_FW
   ⟨0x088, 4, 64, .ro, 0x0, 0x0, 0x0, 0x0, 0x0, []⟩,  -- ACT_BR_OUT
   ⟨0x08C, 4, 64, .ro, 0x0, 0x0, 0x0, 0x0, 0x0, []⟩,  -- ACT_BR_IMEAS
   ⟨0x090, 4, 64, .ro, 0x0, 0x0, 0x0, 0x0, 0x0, []⟩,  -- ACT_BR_OFS
   ⟨0x094, 4, 64, .rwh, 0x0, 0x0, 0xFFF, 0x0, 0x0, []⟩,  -- ACT_BR_OFS_TGT
   ⟨0x098, 4, 64, .w1c, 0x0, 0x0, 0x0, 0x7, 0x0, []⟩]  -- ACT_BR_STAT

/-- Own registers of SADC, page 0x06. -/
def regTableSADC : List RegDesc :=
  [⟨0x040, 1, 4, .rw, 0x1, 0x1, 0xF0000001, 0x0, 0x0, []⟩,  -- SADC_CFG
   ⟨0x044, 1, 4, .rc, 0x0, 0x0, 0x0, 0x0, 0x0, []⟩,  -- SADC_OVR
   ⟨0x048, 1, 4, .rw, 0x1000105, 0x1000105, 0xFFF1F1F, 0x0, 0x0, [⟨0, 5, false, 4, 7⟩, ⟨8, 5, false, 0, 3⟩, ⟨16, 12, false, 16, 1024⟩]⟩,  -- SADC_GCNT_CFG
   ⟨0x04C, 1, 4, .rwh, 0x0, 0x0, 0xFFFFFF, 0x0, 0x0, []⟩,  -- SADC_GCNT
   ⟨0x050, 1, 4, .ro, 0xFFFF, 0xFFFF, 0x0, 0x0, 0x0, []⟩,  -- SADC_GVEL
   ⟨0x080, 32, 64, .rw, 0x0, 0x0, 0x13, 0x0, 0x0, [⟨0, 2, false, 0, 2⟩]⟩,  -- SADC_CH_CFG
   ⟨0x084, 32, 64, .ro, 0x0, 0x0, 0x0, 0x0, 0x0, []⟩,  -- SADC_CH_OFS
   ⟨0x088, 32, 64, .rwh, 0x0, 0x0, 0xFFF, 0x0, 0x0, []⟩,  -- SADC_CH_OFS_TGT
   ⟨0x08C, 32, 64, .ro, 0x0, 0x0, 0x0, 0x0, 0x0, []⟩,  -- SADC_CH_GAIN
   ⟨0x090, 32, 64, .rwh, 0x0, 0x0, 0xFFF, 0x0, 0x0, []⟩,  -- SADC_CH_GAIN_TGT
   ⟨0x094, 32, 64, .ro, 0x0, 0x0, 0x0, 0x0, 0x0, []⟩]  -- SADC_CH_VAL

/-- Own registers of LENG, page 0x07. -/
def regTableLENG : List RegDesc :=
  [⟨0x040, 1, 4, .rw, 0x1B8, 0x1B8, 0x1FF, 0x0, 0x0, [⟨0, 9, false, 1, 476⟩]⟩,  -- LENG_CFG
   ⟨0x044, 1, 4, .ro, 0x0, 0x0, 0x0, 0x0, 0x0, []⟩,  -- LENG_CYC
   ⟨0x048, 1, 4, .rc, 0x0, 0x0, 0x0, 0x0, 0x0, []⟩,  -- LENG_CYCPK
   ⟨0x04C, 1, 4, .rc, 0x0, 0x0, 0x0, 0x0, 0x0, []⟩,  -- LENG_OVR
   ⟨0x050, 1, 4, .ro, 0x0, 0x0, 0x0, 0x0, 0x0, []⟩,  -- LENG_OVR_TICK
   ⟨0x054, 1, 4, .rwh, 0x0, 0x0, 0x1, 0x0, 0x6, []⟩,  -- LENG_SHADOW
   ⟨0x058, 1, 4, .ro, 0x0, 0x0, 0x0, 0x0, 0x0, []⟩,  -- LENG_LOADERR
   ⟨0x05C, 1, 4, .w1s, 0x0, 0x0, 0x0, 0x0, 0x1, []⟩,  -- LENG_CMD
   ⟨0x060, 1, 4, .rw, 0x41F, 0x41F, 0xFFF, 0x0, 0x0, []⟩,  -- LENG_FHOLD
   ⟨0x064, 1, 4, .rc, 0x0, 0x0, 0x0, 0x0, 0x0, []⟩,  -- LENG_MERR
   ⟨0x068, 1, 4, .rwh, 0x0, 0x0, 0x1F, 0x0, 0x80000000, []⟩,  -- LENG_UPD_CTRL
   ⟨0x080, 16, 4, .rw, 0x0, 0x0, 0xFFF, 0x0, 0x0, []⟩,  -- LENG_UPD_ADDR
   ⟨0x0C0, 16, 4, .rw, 0x0, 0x0, 0xFFFFFFFF, 0x0, 0x0, []⟩,  -- LENG_UPD_DATA
   ⟨0x100, 2, 64, .rw, 0x0, 0x0, 0xFFF00F3, 0x0, 0x0, []⟩,  -- LENG_EXT_CFG
   ⟨0x104, 2, 64, .rw, 0x0, 0x0, 0xFFFFFFFF, 0x0, 0x0, []⟩,  -- LENG_EXT_SCALE
   ⟨0x108, 2, 64, .rw, 0x0, 0x0, 0xFFFFFFFF, 0x0, 0x0, []⟩,  -- LENG_EXT_OFS
   ⟨0x10C, 2, 64, .rw, 0x0, 0x0, 0x7FFFFFFF, 0x0, 0x0, []⟩,  -- LENG_EXT_SLEW
   ⟨0x200, 16, 64, .rw, 0x0, 0x0, 0x3FFF7FF1, 0x0, 0x0, []⟩,  -- LENG_PROG_CFG
   ⟨0x204, 16, 64, .rw, 0x0, 0x0, 0xFFF0FFF, 0x0, 0x0, []⟩,  -- LENG_PROG_REG
   ⟨0x208, 16, 64, .ro, 0x0, 0x0, 0x0, 0x0, 0x0, []⟩]  -- LENG_PROG_CYC

/-- Own registers of TRC, page 0x08. -/
def regTableTRC : List RegDesc :=
  [⟨0x040, 1, 4, .w1s, 0x0, 0x0, 0x0, 0x0, 0xFF, []⟩,  -- TRC_GTRIG
   ⟨0x044, 1, 4, .ro, 0x0, 0x0, 0x0, 0x0, 0x0, []⟩,  -- TRC_DONE
   ⟨0x080, 8, 64, .rw, 0x0, 0x0, 0xFFF00F3, 0x0, 0x0, [⟨4, 4, false, 0, 14⟩]⟩,  -- TRC_CH_CFG
   ⟨0x084, 8, 64, .rw, 0x0, 0x0, 0xFFFFFFFF, 0x0, 0x0, []⟩,  -- TRC_CH_BASE
   ⟨0x088, 8, 64, .rw, 0xC, 0xC, 0x1F, 0x0, 0x0, [⟨0, 5, false, 12, 20⟩]⟩,  -- TRC_CH_SIZE
   ⟨0x08C, 8, 64, .rw, 0x0, 0x0, 0x17, 0x0, 0x0, [⟨0, 3, false, 0, 5⟩]⟩,  -- TRC_CH_TRIG
   ⟨0x090, 8, 64, .rw, 0x0, 0x0, 0xFFFFFFFF, 0x0, 0x0, []⟩,  -- TRC_CH_THR
   ⟨0x094, 8, 64, .rw, 0x0, 0x0, 0x3FFFF, 0x0, 0x0, []⟩]  -- TRC_CH_POST

/-- Own registers of WINH, page 0x09. -/
def regTableWINH : List RegDesc :=
  [⟨0x040, 1, 4, .ro, 0x0, 0x0, 0x0, 0x0, 0x0, []⟩,  -- WINH_SRC
   ⟨0x044, 1, 4, .w1c, 0x0, 0x0, 0x0, 0xFFFFFFFF, 0x0, []⟩,  -- WINH_LATCH
   ⟨0x048, 1, 4, .w1s, 0x0, 0x0, 0x0, 0x0, 0x1, []⟩,  -- WINH_FORCE
   ⟨0x04C, 1, 4, .rc, 0x0, 0x0, 0x0, 0x0, 0x0, []⟩,  -- WINH_CNT
   ⟨0x050, 1, 4, .rw, 0x20, 0x20, 0xF1, 0x0, 0x0, [⟨4, 4, false, 0, 8⟩]⟩,  -- WINH_SHKD
   ⟨0x080, 4, 64, .rw, 0x20, 0x20, 0x1FF1, 0x0, 0x0, [⟨4, 4, false, 0, 8⟩]⟩,  -- WINH_ACMP_CFG[0-3]
   ⟨0x180, 1, 64, .rw, 0x21, 0x21, 0x1FF1, 0x0, 0x0, [⟨4, 4, false, 0, 8⟩]⟩,  -- WINH_ACMP_CFG[4-4]
   ⟨0x084, 3, 64, .rw, 0x4040, 0x4040, 0xFFFF, 0x0, 0x0, []⟩,  -- WINH_ACMP_THR[0-2]
   ⟨0x144, 1, 64, .rw, 0x32C8, 0x32C8, 0xFFFF, 0x0, 0x0, []⟩,  -- WINH_ACMP_THR[3-3]
   ⟨0x184, 1, 64, .rw, 0x18A8, 0x18A8, 0xFFFF, 0x0, 0x0, []⟩,  -- WINH_ACMP_THR[4-4]
   ⟨0x200, 8, 64, .rw, 0x0, 0x0, 0x1F31, 0x0, 0x0, []⟩,  -- WINH_DCHK_CFG
   ⟨0x204, 8, 64, .rw, 0x80007FF, 0x80007FF, 0xFFF0FFF, 0x0, 0x0, []⟩]  -- WINH_DCHK_THR

/-- Own registers of RFL, page 0x0A. -/
def regTableRFL : List RegDesc :=
  [⟨0x040, 1, 4, .rw, 0x0, 0x0, 0xF33, 0x0, 0x0, [⟨8, 4, false, 0, 8⟩]⟩,  -- RFL_MODE
   ⟨0x044, 1, 4, .rw, 0x118, 0x118, 0x33F, 0x0, 0x0, [⟨0, 6, false, 0, 48⟩]⟩,  -- RFL_AFE
   ⟨0x048, 1, 4, .rw, 0xA61, 0xA61, 0x7F0FF1, 0x0, 0x0, [⟨4, 4, false, 2, 12⟩, ⟨8, 4, false, 4, 15⟩]⟩,  -- RFL_AGC
   ⟨0x04C, 1, 4, .ro, 0x400, 0x400, 0x0, 0x0, 0x0, []⟩,  -- RFL_AGC_STAT
   ⟨0x050, 1, 4, .rw, 0x11001, 0x11001, 0x11F01, 0x0, 0x0, [⟨8, 5, false, 14, 20⟩]⟩,  -- RFL_ADC_CTRL
   ⟨0x054, 1, 4, .ro, 0x8, 0x8, 0x0, 0x0, 0x0, []⟩,  -- RFL_ADC_STAT
   ⟨0x058, 1, 4, .rw, 0xC01, 0xC01, 0x11F01, 0x0, 0x0, [⟨8, 5, false, 8, 20⟩]⟩,  -- RFL_EQ_CTRL
   ⟨0x05C, 1, 4, .rw, 0x10202010, 0x10202010, 0xFFFFFFFF, 0x0, 0x0, [⟨0, 8, true, 1, 127⟩]⟩,  -- RFL_EQ_TGT
   ⟨0x060, 1, 4, .rw, 0xE0A74, 0xE0A74, 0x1F1FFF, 0x0, 0x0, [⟨0, 4, false, 2, 10⟩, ⟨4, 4, false, 2, 10⟩, ⟨8, 5, false, 6, 18⟩, ⟨16, 5, false, 6, 18⟩]⟩,  -- RFL_TR_CTRL
   ⟨0x064, 1, 4, .ro, 0x0, 0x0, 0x0, 0x0, 0x0, []⟩,  -- RFL_TR_STAT
   ⟨0x068, 1, 4, .rw, 0x6112, 0x6112, 0xF177, 0x0, 0x0, [⟨0, 3, false, 0, 4⟩, ⟨4, 3, false, 0, 4⟩, ⟨12, 4, false, 0, 12⟩]⟩,  -- RFL_SYNC_CTRL
   ⟨0x06C, 1, 4, .ro, 0x0, 0x0, 0x0, 0x0, 0x0, []⟩,  -- RFL_SYNC_STAT
   ⟨0x070, 1, 4, .rc, 0x0, 0x0, 0x0, 0x0, 0x0, []⟩,  -- RFL_SYNC_CNT
   ⟨0x074, 1, 4, .ro, 0x0, 0x0, 0x0, 0x0, 0x0, []⟩,  -- RFL_POS
   ⟨0x078, 1, 4, .ro, 0x0, 0x0, 0x0, 0x0, 0x0, []⟩,  -- RFL_RATE
   ⟨0x080, 7, 4, .rwh, 0x0, 0x0, 0xFFFF, 0x0, 0x0, []⟩,  -- RFL_EQ_TAP[0-6]
   ⟨0x09C, 1, 4, .rwh, 0x1000, 0x1000, 0xFFFF, 0x0, 0x0, []⟩,  -- RFL_EQ_TAP[7-7]
   ⟨0x0A0, 7, 4, .rwh, 0x0, 0x0, 0xFFFF, 0x0, 0x0, []⟩,  -- RFL_EQ_TAP[8-14]
   ⟨0x0C0, 1, 64, .ro, 0x0, 0x0, 0x0, 0x0, 0x0, []⟩,  -- RFL_SUB_STAT[0-0]
   ⟨0x100, 1, 64, .ro, 0x10, 0x10, 0x0, 0x0, 0x0, []⟩,  -- RFL_SUB_STAT[1-1]
   ⟨0x140, 1, 64, .ro, 0x20, 0x20, 0x0, 0x0, 0x0, []⟩,  -- RFL_SUB_STAT[2-2]
   ⟨0x180, 1, 64, .ro, 0x30, 0x30, 0x0, 0x0, 0x0, []⟩,  -- RFL_SUB_STAT[3-3]
   ⟨0x1C0, 1, 64, .ro, 0x40, 0x40, 0x0, 0x0, 0x0, []⟩,  -- RFL_SUB_STAT[4-4]
   ⟨0x200, 1, 64, .ro, 0x50, 0x50, 0x0, 0x0, 0x0, []⟩,  -- RFL_SUB_STAT[5-5]
   ⟨0x240, 1, 64, .ro, 0x60, 0x60, 0x0, 0x0, 0x0, []⟩,  -- RFL_SUB_STAT[6-6]
   ⟨0x280, 1, 64, .ro, 0x70, 0x70, 0x0, 0x0, 0x0, []⟩,  -- RFL_SUB_STAT[7-7]
   ⟨0x2C0, 1, 64, .ro, 0x1, 0x1, 0x0, 0x0, 0x0, []⟩,  -- RFL_SUB_STAT[8-8]
   ⟨0x0C4, 9, 64, .ro, 0x0, 0x0, 0x0, 0x0, 0x0, []⟩,  -- RFL_SUB_OFS
   ⟨0x0C8, 9, 64, .rwh, 0x0, 0x0, 0xFFF, 0x0, 0x0, []⟩,  -- RFL_SUB_OFS_TGT
   ⟨0x0CC, 9, 64, .ro, 0x0, 0x0, 0x0, 0x0, 0x0, []⟩]  -- RFL_SUB_GAIN
  ++
  [⟨0x0D0, 9, 64, .rwh, 0x0, 0x0, 0xFFF, 0x0, 0x0, []⟩,  -- RFL_SUB_GAIN_TGT
   ⟨0x0D4, 9, 64, .ro, 0x0, 0x0, 0x0, 0x0, 0x0, []⟩,  -- RFL_SUB_SKEW
   ⟨0x0D8, 9, 64, .rwh, 0x0, 0x0, 0xFFF, 0x0, 0x0, []⟩]  -- RFL_SUB_SKEW_TGT

/-- Own registers of DSK, page 0x0E. -/
def regTableDSK : List RegDesc :=
  [⟨0x040, 1, 4, .rw, 0x300000F, 0x3000003, 0x7FF000F, 0x0, 0x0, [⟨16, 11, false, 64, 1024⟩]⟩,  -- DSK_CFG
   ⟨0x044, 1, 4, .rw, 0x0, 0x0, 0xFFFFFFFF, 0x0, 0x0, []⟩,  -- DSK_RING_BASE
   ⟨0x048, 1, 4, .rw, 0x0, 0x0, 0xF, 0x0, 0x0, [⟨0, 4, false, 0, 8⟩]⟩,  -- DSK_RING_SLOTS
   ⟨0x04C, 1, 4, .ro, 0x0, 0x0, 0x0, 0x0, 0x0, []⟩,  -- DSK_RING_STAT
   ⟨0x050, 1, 4, .ro, 0x0, 0x0, 0x0, 0x0, 0x0, []⟩,  -- DSK_TILES
   ⟨0x054, 1, 4, .ro, 0x0, 0x0, 0x0, 0x0, 0x0, []⟩,  -- DSK_LANEACT
   ⟨0x080, 4, 64, .ro, 0x0, 0x0, 0x0, 0x0, 0x0, []⟩,  -- DSK_LANE_SKEW
   ⟨0x084, 4, 64, .rc, 0x0, 0x0, 0x0, 0x0, 0x0, []⟩]  -- DSK_LANE_LATE

/-- Own registers of DET, page 0x0F. -/
def regTableDET : List RegDesc :=
  [⟨0x040, 1, 4, .rw, 0x3684, 0x3684, 0x3FFF, 0x0, 0x0, [⟨0, 4, false, 1, 8⟩, ⟨4, 4, false, 1, 8⟩, ⟨8, 4, false, 0, 8⟩]⟩,  -- DET_CFG
   ⟨0x044, 1, 4, .rw, 0x200E01, 0x200E01, 0xFF1F01, 0x0, 0x0, [⟨8, 5, false, 8, 20⟩]⟩,  -- DET_XT_CTRL
   ⟨0x048, 1, 4, .rw, 0x0, 0x0, 0xFFFFFFFF, 0x0, 0x0, []⟩,  -- DET_WS_BASE
   ⟨0x04C, 1, 4, .rw, 0x0, 0x0, 0x7, 0x0, 0x0, [⟨0, 3, false, 0, 4⟩]⟩,  -- DET_WS_SLOTS
   ⟨0x050, 1, 4, .ro, 0x0, 0x0, 0x0, 0x0, 0x0, []⟩,  -- DET_WS_STAT
   ⟨0x054, 1, 4, .rw, 0xA1001, 0xA1001, 0x1F7F03, 0x0, 0x0, [⟨8, 7, false, 1, 64⟩, ⟨16, 5, false, 6, 16⟩]⟩,  -- DET_HINT
   ⟨0x058, 1, 4, .rw, 0x66C0, 0x66C0, 0xFFFF, 0x0, 0x0, []⟩,  -- DET_HINT_ENV
   ⟨0x05C, 1, 4, .rw, 0x4000200, 0x4000200, 0xFFF0FFF, 0x0, 0x0, []⟩,  -- DET_HINT_TE
   ⟨0x060, 1, 4, .rw, 0x6000300, 0x6000300, 0xFFF0FFF, 0x0, 0x0, []⟩,  -- DET_HINT_FE
   ⟨0x064, 1, 4, .rw, 0x1122448, 0x1122448, 0xFFFFFFFF, 0x0, 0x0, [⟨0, 4, false, 0, 8⟩, ⟨4, 4, false, 0, 8⟩, ⟨8, 4, false, 0, 8⟩, ⟨12, 4, false, 0, 8⟩, ⟨16, 4, false, 0, 8⟩, ⟨20, 4, false, 0, 8⟩, ⟨24, 4, false, 0, 8⟩, ⟨28, 4, false, 0, 8⟩]⟩,  -- DET_HINTW0
   ⟨0x068, 1, 4, .rw, 0x0, 0x0, 0xFFFFFFFF, 0x0, 0x0, [⟨0, 4, false, 0, 8⟩, ⟨4, 4, false, 0, 8⟩, ⟨8, 4, false, 0, 8⟩, ⟨12, 4, false, 0, 8⟩, ⟨16, 4, false, 0, 8⟩, ⟨20, 4, false, 0, 8⟩, ⟨24, 4, false, 0, 8⟩, ⟨28, 4, false, 0, 8⟩]⟩,  -- DET_HINTW1
   ⟨0x06C, 1, 4, .rw, 0xFFE4, 0x33E4, 0xFFFF, 0x0, 0x0, []⟩,  -- DET_PASS
   ⟨0x070, 1, 4, .rw, 0x1F01012C, 0x1F01012C, 0x1F070FFF, 0x0, 0x0, [⟨16, 3, false, 0, 4⟩]⟩,  -- DET_RETRY
   ⟨0x074, 1, 4, .rw, 0x0, 0x0, 0xFFFFFFFF, 0x0, 0x0, []⟩,  -- DET_RCQ_BASE
   ⟨0x078, 1, 4, .rw, 0x8, 0x8, 0xF, 0x0, 0x0, [⟨0, 4, false, 4, 12⟩]⟩,  -- DET_RCQ_CTRL
   ⟨0x07C, 1, 4, .ro, 0x0, 0x0, 0x0, 0x0, 0x0, []⟩,  -- DET_RCQ_PROD
   ⟨0x080, 1, 4, .rw, 0x0, 0x0, 0x1FFF, 0x0, 0x0, []⟩,  -- DET_RCQ_CONS
   ⟨0x084, 1, 4, .rc, 0x0, 0x0, 0x0, 0x0, 0x0, []⟩,  -- DET_CNT
   ⟨0x08C, 1, 4, .rw, 0x0, 0x0, 0x1FFFFFF, 0x0, 0x0, []⟩,  -- DET_ARM_PSA
   ⟨0x090, 1, 4, .rw, 0xFF, 0xFF, 0x1FF, 0x0, 0x0, []⟩,  -- DET_ARM_CTRL
   ⟨0x094, 1, 4, .wo, 0x0, 0x0, 0x0, 0x0, 0xFFFFFFFF, []⟩,  -- DET_ARM_TAG
   ⟨0x0C0, 4, 64, .rwh, 0x0, 0x0, 0xFFFFFF, 0x0, 0x0, []⟩,  -- DET_XT_IN
   ⟨0x0C4, 4, 64, .rwh, 0x0, 0x0, 0xFFFFFF, 0x0, 0x0, []⟩,  -- DET_XT_OUT
   ⟨0x0C8, 4, 64, .ro, 0x0, 0x0, 0x0, 0x0, 0x0, []⟩]  -- DET_XT_VAR

/-- Own registers of LDPC, page 0x10. -/
def regTableLDPC : List RegDesc :=
  [⟨0x040, 1, 4, .rw, 0x8400618, 0x8400618, 0x1F7F1F7F, 0x0, 0x0, [⟨0, 7, false, 1, 64⟩, ⟨8, 5, false, 1, 16⟩, ⟨16, 7, false, 1, 64⟩, ⟨24, 5, false, 1, 16⟩]⟩,  -- LDPC_CFG
   ⟨0x044, 1, 4, .rw, 0x3F0C10, 0x3F0C10, 0x3F1F3F, 0x0, 0x0, [⟨0, 6, false, 0, 48⟩, ⟨8, 5, false, 8, 16⟩]⟩,  -- LDPC_SCHED
   ⟨0x048, 1, 4, .ro, 0x0, 0x0, 0x0, 0x0, 0x0, []⟩,  -- LDPC_SLOTS
   ⟨0x04C, 1, 4, .rc, 0x0, 0x0, 0x0, 0x0, 0x0, []⟩,  -- LDPC_CNT_OK
   ⟨0x050, 1, 4, .rc, 0x0, 0x0, 0x0, 0x0, 0x0, []⟩,  -- LDPC_CNT_FAIL
   ⟨0x054, 1, 4, .rc, 0x0, 0x0, 0x0, 0x0, 0x0, []⟩,  -- LDPC_ITSUM
   ⟨0x080, 6, 64, .ro, 0x0, 0x0, 0x0, 0x0, 0x0, []⟩,  -- LDPC_CORE_STAT
   ⟨0x084, 6, 64, .rc, 0x0, 0x0, 0x0, 0x0, 0x0, []⟩]  -- LDPC_CORE_ERR

/-- Own registers of STRP, page 0x11. -/
def regTableSTRP : List RegDesc :=
  [⟨0x040, 1, 4, .rw, 0x88502, 0x88502, 0x7FFF03, 0x0, 0x0, [⟨8, 4, false, 1, 8⟩, ⟨12, 4, false, 1, 8⟩]⟩,  -- STRP_CTRL
   ⟨0x044, 1, 4, .rw, 0x0, 0x0, 0xFFFFFFFF, 0x0, 0x0, []⟩,  -- STRP_RSA_BASE
   ⟨0x048, 1, 4, .rw, 0x0, 0x0, 0x1F, 0x0, 0x0, [⟨0, 5, false, 0, 16⟩]⟩,  -- STRP_RSA_SLOTS
   ⟨0x04C, 1, 4, .ro, 0x0, 0x0, 0x0, 0x0, 0x0, []⟩,  -- STRP_RSA_STAT
   ⟨0x050, 1, 4, .wo, 0x0, 0x0, 0x0, 0x0, 0xFFFF, []⟩,  -- STRP_RSA_REL
   ⟨0x054, 1, 4, .rc, 0x0, 0x0, 0x0, 0x0, 0x0, []⟩,  -- STRP_CNT
   ⟨0x058, 1, 4, .rc, 0x0, 0x0, 0x0, 0x0, 0x0, []⟩]  -- STRP_MIS

/-- Own registers of WENC, page 0x12. -/
def regTableWENC : List RegDesc :=
  [⟨0x040, 1, 4, .rw, 0x30804, 0x30804, 0xF0F0F, 0x0, 0x0, [⟨0, 4, false, 1, 15⟩, ⟨8, 4, false, 1, 15⟩, ⟨16, 4, false, 1, 15⟩]⟩,  -- WENC_CFG
   ⟨0x044, 1, 4, .rw, 0x0, 0x0, 0xFFFFFFFF, 0x0, 0x0, []⟩,  -- WENC_STG_BASE
   ⟨0x048, 1, 4, .rw, 0x0, 0x0, 0x7, 0x0, 0x0, [⟨0, 3, false, 0, 4⟩]⟩,  -- WENC_STG_SLOTS
   ⟨0x04C, 1, 4, .wo, 0x0, 0x0, 0x0, 0x0, 0xF, []⟩,  -- WENC_STG_REL
   ⟨0x050, 1, 4, .rw, 0x0, 0x0, 0x1FFFFFF, 0x0, 0x0, []⟩,  -- WENC_ARM_PSA
   ⟨0x054, 1, 4, .rw, 0x0, 0x0, 0xFFFFFFFF, 0x0, 0x0, []⟩,  -- WENC_ARM_DESC
   ⟨0x058, 1, 4, .rw, 0x30, 0x10, 0x37F, 0x0, 0x80000000, [⟨2, 2, false, 0, 2⟩]⟩,  -- WENC_ARM_CTRL
   ⟨0x05C, 1, 4, .rw, 0x0, 0x0, 0xFFFF, 0x0, 0x0, []⟩,  -- WENC_ARM_RST
   ⟨0x060, 1, 4, .wo, 0x0, 0x0, 0x0, 0x0, 0xFFFFFFFF, []⟩,  -- WENC_ARM_TAG
   ⟨0x064, 1, 4, .wo, 0x0, 0x0, 0x0, 0x0, 0xFFFFFFFF, []⟩,  -- WENC_PASSGO
   ⟨0x068, 1, 4, .ro, 0x0, 0x0, 0x0, 0x0, 0x0, []⟩,  -- WENC_POS
   ⟨0x06C, 1, 4, .rc, 0x0, 0x0, 0x0, 0x0, 0x0, []⟩]  -- WENC_CNT

/-- Own registers of WSG, page 0x13. -/
def regTableWSG : List RegDesc :=
  [⟨0x040, 1, 4, .rw, 0x1206, 0x1202, 0xFF07, 0x0, 0x0, [⟨8, 8, false, 10, 40⟩]⟩,  -- WSG_CFG
   ⟨0x044, 1, 4, .rw, 0x0, 0x0, 0xFFFFFFFF, 0x0, 0x0, []⟩,  -- WSG_LOAD_SRC
   ⟨0x048, 1, 4, .rw, 0x0, 0x0, 0x3F3F0F, 0x0, 0x80000000, [⟨8, 6, false, 0, 39⟩]⟩,  -- WSG_LOAD_CTRL
   ⟨0x04C, 1, 4, .rw, 0x8080, 0x8080, 0xFFFF, 0x0, 0x0, [⟨0, 8, false, 64, 192⟩, ⟨8, 8, false, 64, 192⟩]⟩,  -- WSG_TRIM
   ⟨0x050, 1, 4, .rw, 0xAB3, 0xAB3, 0xFFFF, 0x0, 0x0, [⟨0, 8, false, 128, 255⟩, ⟨8, 8, false, 1, 16⟩]⟩,  -- WSG_OPC
   ⟨0x054, 1, 4, .ro, 0x0, 0x0, 0x0, 0x0, 0x0, []⟩,  -- WSG_LAYERSTAT
   ⟨0x058, 1, 4, .rc, 0x0, 0x0, 0x0, 0x0, 0x0, []⟩]  -- WSG_CNT

/-- Own registers of DRAW, page 0x14. -/
def regTableDRAW : List RegDesc :=
  [⟨0x040, 1, 4, .rw, 0x1208, 0x1208, 0xFF1F, 0x0, 0x0, [⟨0, 5, false, 1, 24⟩, ⟨8, 4, false, 0, 8⟩, ⟨12, 4, false, 0, 8⟩]⟩,  -- DRAW_CFG
   ⟨0x044, 1, 4, .rw, 0x60, 0x60, 0xFFFF, 0x0, 0x0, [⟨0, 16, false, 1, 4096⟩]⟩,  -- DRAW_BERV
   ⟨0x048, 1, 4, .rw, 0x0, 0x0, 0xFFFFFFFF, 0x0, 0x0, []⟩,  -- DRAW_VQ_BASE
   ⟨0x04C, 1, 4, .rw, 0x6, 0x6, 0xF, 0x0, 0x0, [⟨0, 4, false, 4, 10⟩]⟩,  -- DRAW_VQ_CTRL
   ⟨0x050, 1, 4, .ro, 0x0, 0x0, 0x0, 0x0, 0x0, []⟩,  -- DRAW_VQ_PROD
   ⟨0x054, 1, 4, .rw, 0x0, 0x0, 0x7FF, 0x0, 0x0, []⟩,  -- DRAW_VQ_CONS
   ⟨0x058, 1, 4, .ro, 0x0, 0x0, 0x0, 0x0, 0x0, []⟩,  -- DRAW_OPC_RES
   ⟨0x05C, 1, 4, .rc, 0x0, 0x0, 0x0, 0x0, 0x0, []⟩,  -- DRAW_CNT
   ⟨0x080, 16, 4, .ro, 0x0, 0x0, 0x0, 0x0, 0x0, []⟩]  -- DRAW_OPC_ERR

/-- Own registers of CAL, page 0x15. -/
def regTableCAL : List RegDesc :=
  [⟨0x040, 1, 4, .rw, 0x1080E, 0x1080E, 0x10F0E, 0x0, 0x0, [⟨8, 4, false, 1, 15⟩]⟩,  -- CAL_CFG
   ⟨0x044, 1, 4, .w1s, 0x0, 0x0, 0x0, 0x0, 0x7F, []⟩,  -- CAL_TRIG
   ⟨0x048, 1, 4, .ro, 0x0, 0x0, 0x0, 0x0, 0x0, []⟩,  -- CAL_RUN
   ⟨0x04C, 1, 4, .ro, 0x0, 0x0, 0x0, 0x0, 0x0, []⟩,  -- CAL_REF
   ⟨0x050, 1, 4, .rw, 0x14, 0x14, 0x1F, 0x0, 0x0, [⟨0, 5, false, 16, 24⟩]⟩,  -- CAL_ADCSTAT
   ⟨0x054, 1, 4, .ro, 0x0, 0x0, 0x0, 0x0, 0x0, []⟩,  -- CAL_GSTAT
   ⟨0x058, 1, 4, .rc, 0x0, 0x0, 0x0, 0x0, 0x0, []⟩,  -- CAL_CNT
   ⟨0x060, 1, 4, .rw, 0x100010, 0x100010, 0xFFFFFFFF, 0x0, 0x0, [⟨0, 16, false, 1, 65535⟩, ⟨16, 16, false, 1, 65535⟩]⟩,  -- CAL_SLOPE[0-0]
   ⟨0x064, 1, 4, .rw, 0x10010, 0x10010, 0xFFFFFFFF, 0x0, 0x0, [⟨0, 16, false, 1, 65535⟩, ⟨16, 16, false, 1, 65535⟩]⟩,  -- CAL_SLOPE[1-1]
   ⟨0x068, 1, 4, .rw, 0x100001, 0x100001, 0xFFFFFFFF, 0x0, 0x0, [⟨0, 16, false, 1, 65535⟩, ⟨16, 16, false, 1, 65535⟩]⟩,  -- CAL_SLOPE[2-2]
   ⟨0x06C, 1, 4, .rw, 0x40004, 0x40004, 0xFFFFFFFF, 0x0, 0x0, [⟨0, 16, false, 1, 65535⟩, ⟨16, 16, false, 1, 65535⟩]⟩,  -- CAL_SLOPE[3-3]
   ⟨0x070, 1, 4, .rw, 0x410700, 0x410700, 0xFF1FF3, 0x0, 0x0, [⟨0, 2, false, 0, 1⟩, ⟨4, 4, false, 0, 9⟩, ⟨8, 5, false, 3, 16⟩, ⟨20, 4, false, 1, 15⟩]⟩,  -- CAL_SWP_CFG
   ⟨0x074, 1, 4, .rw, 0x0, 0x0, 0xFFFFFFFF, 0x0, 0x0, []⟩,  -- CAL_SWP_START
   ⟨0x078, 1, 4, .rw, 0x1, 0x1, 0xFFFFFFFF, 0x0, 0x0, []⟩,  -- CAL_SWP_STEP
   ⟨0x07C, 1, 4, .rwh, 0x0, 0x0, 0x2, 0x0, 0x80000001, []⟩,  -- CAL_SWP_CTRL
   ⟨0x080, 1, 4, .ro, 0x0, 0x0, 0x0, 0x0, 0x0, []⟩,  -- CAL_SWP_RES
   ⟨0x0C0, 16, 4, .ro, 0x0, 0x0, 0x0, 0x0, 0x0, []⟩,  -- CAL_SWP_MET
   ⟨0x100, 1, 4, .rw, 0x400028, 0x400028, 0xFFF0FFF, 0x0, 0x0, [⟨0, 12, false, 1, 1024⟩, ⟨16, 12, false, 1, 2048⟩]⟩,  -- CAL_RETRY
   ⟨0x140, 1, 4, .rwh, 0x0, 0x0, 0x7F7F7F7F, 0x0, 0x0, [⟨0, 7, true, (-63), 63⟩, ⟨8, 7, true, (-63), 63⟩, ⟨16, 7, true, (-63), 63⟩, ⟨24, 7, true, (-63), 63⟩]⟩,  -- CAL_LINK
   ⟨0x180, 10, 64, .rw, 0x0, 0x0, 0xFFF0001, 0x0, 0x0, []⟩,  -- CAL_MG_CFG
   ⟨0x184, 10, 64, .rw, 0x0, 0x0, 0xFFFFFFFF, 0x0, 0x0, []⟩,  -- CAL_MG_TGT
   ⟨0x188, 10, 64, .rw, 0x500, 0x500, 0x7FFFFFFF, 0x0, 0x0, [⟨0, 31, false, 1, 2147483647⟩]⟩,  -- CAL_MG_SLOPE
   ⟨0x18C, 10, 64, .ro, 0x0, 0x0, 0x0, 0x0, 0x0, []⟩]  -- CAL_MG_STAT

/-- Own registers of FMT, page 0x16. -/
def regTableFMT : List RegDesc :=
  [⟨0x040, 1, 4, .rw, 0x1, 0x1, 0x3, 0x0, 0x0, []⟩,  -- FMT_CFG
   ⟨0x044, 1, 4, .ro, 0x0, 0x0, 0x0, 0x0, 0x0, []⟩,  -- FMT_GA_LO
   ⟨0x048, 1, 4, .ro, 0x0, 0x0, 0x0, 0x0, 0x0, []⟩,  -- FMT_GA_HI
   ⟨0x04C, 1, 4, .ro, 0x0, 0x0, 0x0, 0x0, 0x0, []⟩,  -- FMT_GASTAT
   ⟨0x050, 1, 4, .ro, 0x0, 0x0, 0x0, 0x0, 0x0, []⟩,  -- FMT_WOB
   ⟨0x054, 1, 4, .rw, 0x0, 0x0, 0xFFFFFFFF, 0x0, 0x0, []⟩,  -- FMT_DI_BASE
   ⟨0x058, 1, 4, .rwh, 0x0, 0x0, 0x0, 0x0, 0x1, []⟩,  -- FMT_DI_CTRL
   ⟨0x05C, 1, 4, .ro, 0x0, 0x0, 0x0, 0x0, 0x0, []⟩]  -- FMT_DI_STAT

/-- Own registers of XLT, page 0x17. -/
def regTableXLT : List RegDesc :=
  [⟨0x040, 1, 4, .rw, 0x212, 0x212, 0xFF33, 0x0, 0x0, [⟨0, 2, false, 1, 3⟩, ⟨8, 8, false, 1, 255⟩]⟩,  -- XLT_CFG
   ⟨0x044, 1, 4, .rw, 0x0, 0x0, 0xFFFFFFFF, 0x0, 0x0, []⟩,  -- XLT_TBL_BASE
   ⟨0x048, 1, 4, .rw, 0x0, 0x0, 0xFFFFFFFF, 0x0, 0x0, []⟩,  -- XLT_IDX_BASE
   ⟨0x04C, 1, 4, .ro, 0x0, 0x0, 0x0, 0x0, 0x0, []⟩,  -- XLT_LEAF
   ⟨0x050, 1, 4, .rw, 0x140040, 0x140040, 0xFFFFFF, 0x0, 0x0, [⟨0, 16, false, 8, 4096⟩, ⟨16, 8, false, 1, 255⟩]⟩,  -- XLT_MERGE
   ⟨0x054, 1, 4, .ro, 0x0, 0x0, 0x0, 0x0, 0x0, []⟩,  -- XLT_NSZE
   ⟨0x058, 1, 4, .ro, 0x0, 0x0, 0x0, 0x0, 0x0, []⟩,  -- XLT_NUSE
   ⟨0x05C, 1, 4, .ro, 0x0, 0x0, 0x0, 0x0, 0x0, []⟩,  -- XLT_NCAP
   ⟨0x060, 1, 4, .ro, 0x0, 0x0, 0x0, 0x0, 0x0, []⟩,  -- XLT_JRNL
   ⟨0x064, 1, 4, .ro, 0x0, 0x0, 0x0, 0x0, 0x0, []⟩,  -- XLT_JSN
   ⟨0x068, 1, 4, .rwh, 0x258, 0x258, 0x2FFFF, 0x0, 0x10000, [⟨0, 16, false, 10, 65535⟩]⟩,  -- XLT_CKPT
   ⟨0x06C, 1, 4, .ro, 0x0, 0x0, 0x0, 0x0, 0x0, []⟩,  -- XLT_CKPT_GEN
   ⟨0x070, 1, 4, .ro, 0x0, 0x0, 0x0, 0x0, 0x0, []⟩,  -- XLT_SEQRES_LO
   ⟨0x074, 1, 4, .ro, 0x0, 0x0, 0x0, 0x0, 0x0, []⟩,  -- XLT_SEQRES_HI
   ⟨0x078, 1, 4, .rc, 0x0, 0x0, 0x0, 0x0, 0x0, []⟩,  -- XLT_CNT
   ⟨0x080, 1, 4, .rw, 0x0, 0x0, 0xFFFFFFFF, 0x0, 0x0, []⟩,  -- XLT_LK_LBA_LO
   ⟨0x084, 1, 4, .rw, 0x0, 0x0, 0xFF, 0x0, 0x0, []⟩,  -- XLT_LK_LBA_HI
   ⟨0x088, 1, 4, .rwh, 0x0, 0x0, 0x0, 0x0, 0x1, []⟩,  -- XLT_LK_CTRL
   ⟨0x090, 4, 4, .ro, 0x0, 0x0, 0x0, 0x0, 0x0, []⟩]  -- XLT_LK_CTX

/-- Own registers of MEDM, page 0x18. -/
def regTableMEDM : List RegDesc :=
  [⟨0x040, 1, 4, .rw, 0x19020804, 0x19020804, 0xFFFFFFFF, 0x0, 0x0, [⟨0, 8, false, 2, 64⟩, ⟨8, 8, false, 3, 128⟩, ⟨16, 8, false, 1, 32⟩, ⟨24, 8, false, 5, 100⟩]⟩,  -- MEDM_GC
   ⟨0x044, 1, 4, .rw, 0x101F4, 0x101F4, 0x1FFFF, 0x0, 0x0, [⟨0, 16, false, 50, 5000⟩]⟩,  -- MEDM_WL
   ⟨0x048, 1, 4, .rw, 0x408, 0x408, 0xF0F, 0x0, 0x0, [⟨0, 4, false, 2, 15⟩, ⟨8, 4, false, 1, 15⟩]⟩,  -- MEDM_RET
   ⟨0x04C, 1, 4, .rw, 0x0, 0x0, 0xFFFFFFFF, 0x0, 0x0, []⟩,  -- MEDM_BT_BASE
   ⟨0x050, 1, 4, .ro, 0x0, 0x0, 0x0, 0x0, 0x0, []⟩,  -- MEDM_POOL
   ⟨0x054, 1, 4, .ro, 0x0, 0x0, 0x0, 0x0, 0x0, []⟩,  -- MEDM_WEAR
   ⟨0x058, 1, 4, .ro, 0x0, 0x0, 0x0, 0x0, 0x0, []⟩,  -- MEDM_JOB
   ⟨0x05C, 1, 4, .rwh, 0x0, 0x0, 0x3FFF, 0x0, 0x80000000, []⟩,  -- MEDM_RST
   ⟨0x060, 1, 4, .rc, 0x0, 0x0, 0x0, 0x0, 0x0, []⟩]  -- MEDM_CNT

/-- Own registers of HQ, page 0x19. -/
def regTableHQ : List RegDesc :=
  [⟨0x040, 1, 4, .rwh, 0x4000, 0x4000, 0xFF01, 0x0, 0x0, [⟨8, 8, false, 1, 255⟩]⟩,  -- HQ_CTRL
   ⟨0x044, 1, 4, .ro, 0x0, 0x0, 0x0, 0x0, 0x0, []⟩,  -- HQ_CTX
   ⟨0x048, 1, 4, .rc, 0x0, 0x0, 0x0, 0x0, 0x0, []⟩,  -- HQ_CTXPK
   ⟨0x04C, 1, 4, .rwh, 0x0, 0x0, 0xFFFFFFFF, 0x0, 0x0, []⟩,  -- HQ_SEQ_LO
   ⟨0x050, 1, 4, .rwh, 0x0, 0x0, 0xFFFF, 0x0, 0x0, []⟩,  -- HQ_SEQ_HI
   ⟨0x054, 1, 4, .ro, 0x2, 0x2, 0x0, 0x0, 0x0, []⟩,  -- HQ_STALL
   ⟨0x058, 1, 4, .ro, 0x0, 0x0, 0x0, 0x0, 0x0, []⟩,  -- HQ_PS
   ⟨0x05C, 1, 4, .ro, 0x0, 0x0, 0x0, 0x0, 0x0, []⟩,  -- HQ_AE
   ⟨0x060, 1, 4, .rc, 0x0, 0x0, 0x0, 0x0, 0x0, []⟩,  -- HQ_ACC
   ⟨0x064, 1, 4, .rc, 0x0, 0x0, 0x0, 0x0, 0x0, []⟩,  -- HQ_CMP
   ⟨0x068, 1, 4, .rc, 0x0, 0x0, 0x0, 0x0, 0x0, []⟩,  -- HQ_ABT
   ⟨0x06C, 1, 4, .rc, 0x0, 0x0, 0x0, 0x0, 0x0, []⟩,  -- HQ_VIOL
   ⟨0x100, 65, 4, .ro, 0x0, 0x0, 0x0, 0x0, 0x0, []⟩,  -- HQ_SQPTR
   ⟨0x300, 65, 4, .ro, 0x0, 0x0, 0x0, 0x0, 0x0, []⟩,  -- HQ_CQPTR
   ⟨0x500, 65, 4, .ro, 0x0, 0x0, 0x0, 0x0, 0x0, []⟩]  -- HQ_QCFG

/-- Own registers of PCIE, page 0x1A. -/
def regTablePCIE : List RegDesc :=
  [⟨0x040, 1, 4, .ro, 0x0, 0x0, 0x0, 0x0, 0x0, []⟩,  -- PCIE_LINK
   ⟨0x044, 1, 4, .rw, 0x2008, 0x2008, 0xFFFFFF, 0x0, 0x0, [⟨0, 8, false, 1, 54⟩, ⟨8, 16, false, 8, 10000⟩]⟩,  -- PCIE_ASPM
   ⟨0x048, 1, 4, .rw, 0x400028, 0x400028, 0xFFFFFFFF, 0x0, 0x0, [⟨0, 16, false, 1, 65535⟩, ⟨16, 16, false, 1, 65535⟩]⟩,  -- PCIE_LTR
   ⟨0x04C, 1, 4, .ro, 0xC350, 0xC350, 0x0, 0x0, 0x0, []⟩,  -- PCIE_CTO
   ⟨0x050, 1, 4, .ro, 0x0, 0x0, 0x0, 0x0, 0x0, []⟩,  -- PCIE_TAGS
   ⟨0x054, 1, 4, .ro, 0x0, 0x0, 0x0, 0x0, 0x0, []⟩,  -- PCIE_FLR
   ⟨0x058, 1, 4, .rw, 0x1E01, 0x1E01, 0xFF03, 0x0, 0x0, [⟨0, 2, false, 0, 2⟩, ⟨8, 8, false, 1, 255⟩]⟩,  -- PCIE_SURP
   ⟨0x05C, 1, 4, .rc, 0x0, 0x0, 0x0, 0x0, 0x0, []⟩,  -- PCIE_CNT0
   ⟨0x060, 1, 4, .rc, 0x0, 0x0, 0x0, 0x0, 0x0, []⟩,  -- PCIE_CNT1
   ⟨0x064, 1, 4, .ro, 0x0, 0x0, 0x0, 0x0, 0x0, []⟩,  -- PCIE_B2
   ⟨0x068, 1, 4, .ro, 0x0, 0x0, 0x0, 0x0, 0x0, []⟩]  -- PCIE_IDS

/-- Own registers of DMA, page 0x1B. -/
def regTableDMA : List RegDesc :=
  [⟨0x040, 1, 4, .rw, 0x10300, 0x10300, 0x103FF, 0x0, 0x0, [⟨0, 10, false, 1, 768⟩]⟩,  -- DMA_CFG
   ⟨0x044, 1, 4, .ro, 0x0, 0x0, 0x0, 0x0, 0x0, []⟩,  -- DMA_STAT
   ⟨0x048, 1, 4, .rc, 0x0, 0x0, 0x0, 0x0, 0x0, []⟩,  -- DMA_RDBYTES
   ⟨0x04C, 1, 4, .rc, 0x0, 0x0, 0x0, 0x0, 0x0, []⟩,  -- DMA_WRBYTES
   ⟨0x050, 1, 4, .rc, 0x0, 0x0, 0x0, 0x0, 0x0, []⟩,  -- DMA_REISSUE
   ⟨0x054, 1, 4, .ro, 0x0, 0x0, 0x0, 0x0, 0x0, []⟩,  -- DMA_FAILADDR_LO
   ⟨0x058, 1, 4, .ro, 0x0, 0x0, 0x0, 0x0, 0x0, []⟩,  -- DMA_FAILADDR_HI
   ⟨0x05C, 1, 4, .rc, 0x0, 0x0, 0x0, 0x0, 0x0, []⟩]  -- DMA_CDMA

/-- Own registers of MEMC, page 0x1C. -/
def regTableMEMC : List RegDesc :=
  [⟨0x040, 1, 4, .rw, 0x401, 0x401, 0xF01, 0x0, 0x0, [⟨8, 4, false, 1, 15⟩]⟩,  -- MEMC_CFG
   ⟨0x044, 1, 4, .rw, 0x0, 0x0, 0xFFFFFFFF, 0x0, 0x0, []⟩,  -- MEMC_PPROT_LO
   ⟨0x048, 1, 4, .rw, 0x0, 0x0, 0xFF, 0x0, 0x0, []⟩,  -- MEMC_PPROT_HI
   ⟨0x04C, 1, 4, .ro, 0x0, 0x0, 0x0, 0x0, 0x0, []⟩,  -- MEMC_PPSTAT
   ⟨0x050, 1, 4, .rw, 0xA1, 0xA1, 0xF1, 0x0, 0x0, []⟩,  -- MEMC_SCRUB
   ⟨0x054, 1, 4, .ro, 0x10000000, 0x10000000, 0x0, 0x0, 0x0, []⟩,  -- MEMC_SCRUB_POS
   ⟨0x058, 1, 4, .rc, 0x0, 0x0, 0x0, 0x0, 0x0, []⟩,  -- MEMC_SCRUB_PASS
   ⟨0x05C, 1, 4, .rc, 0x0, 0x0, 0x0, 0x0, 0x0, []⟩,  -- MEMC_CECNT
   ⟨0x060, 1, 4, .rc, 0x0, 0x0, 0x0, 0x0, 0x0, []⟩,  -- MEMC_UECNT
   ⟨0x064, 1, 4, .ro, 0x0, 0x0, 0x0, 0x0, 0x0, []⟩,  -- MEMC_ERRADDR
   ⟨0x068, 1, 4, .ro, 0x0, 0x0, 0x0, 0x0, 0x0, []⟩,  -- MEMC_ERRSRC
   ⟨0x06C, 1, 4, .ro, 0x0, 0x0, 0x0, 0x0, 0x0, []⟩,  -- MEMC_MACFAIL
   ⟨0x070, 1, 4, .rw, 0x0, 0x0, 0xFFFFFFF8, 0x0, 0x0, []⟩,  -- MEMC_INJ_ADDR
   ⟨0x074, 1, 4, .rwh, 0x7F7F, 0x7F7F, 0x17F7F, 0x0, 0x0, []⟩,  -- MEMC_INJ
   ⟨0x080, 4, 64, .rw, 0x0, 0x0, 0x1, 0x0, 0x0, []⟩,  -- MEMC_MIR_CFG
   ⟨0x084, 4, 64, .rw, 0x0, 0x0, 0xFFFFF000, 0x0, 0x0, []⟩,  -- MEMC_MIR_PRI
   ⟨0x088, 4, 64, .rw, 0x0, 0x0, 0xFFFFF000, 0x0, 0x0, []⟩,  -- MEMC_MIR_SEC
   ⟨0x08C, 4, 64, .rw, 0x0, 0x0, 0xFFF, 0x0, 0x0, [⟨0, 12, false, 1, 1024⟩]⟩]  -- MEMC_MIR_SIZE

/-- Own registers of L2C, page 0x1D. -/
def regTableL2C : List RegDesc :=
  [⟨0x040, 1, 4, .rwh, 0x0, 0x0, 0x1, 0x0, 0x0, []⟩,  -- L2C_CTRL
   ⟨0x044, 1, 4, .ro, 0x1F0400, 0xF0200, 0x0, 0x0, 0x0, []⟩,  -- L2C_CFG
   ⟨0x048, 1, 4, .rw, 0x0, 0x0, 0xFFFF, 0x0, 0x0, []⟩,  -- L2C_LOCK
   ⟨0x04C, 1, 4, .rw, 0xFFFF, 0xFFFF, 0xFFFF, 0x0, 0x0, []⟩,  -- L2C_ALLOC
   ⟨0x050, 1, 4, .rwh, 0x0, 0x0, 0x37, 0x0, 0x80000000, []⟩,  -- L2C_MOP
   ⟨0x054, 1, 4, .rw, 0x0, 0x0, 0xFFFFFFFF, 0x0, 0x0, []⟩,  -- L2C_MSTART
   ⟨0x058, 1, 4, .rw, 0x0, 0x0, 0xFFFFFFFF, 0x0, 0x0, []⟩,  -- L2C_MEND
   ⟨0x05C, 1, 4, .rw, 0x0, 0x0, 0x800F03FF, 0x0, 0x0, []⟩,  -- L2C_MSW
   ⟨0x060, 1, 4, .ro, 0x0, 0x0, 0x0, 0x0, 0x0, []⟩,  -- L2C_MSTAT
   ⟨0x064, 1, 4, .rc, 0x0, 0x0, 0x0, 0x0, 0x0, []⟩,  -- L2C_HIT
   ⟨0x068, 1, 4, .rc, 0x0, 0x0, 0x0, 0x0, 0x0, []⟩,  -- L2C_MISS
   ⟨0x06C, 1, 4, .rc, 0x0, 0x0, 0x0, 0x0, 0x0, []⟩]  -- L2C_ECC

/-- Own registers of ACL, page 0x1E. -/
def regTableACL : List RegDesc :=
  [⟨0x040, 1, 4, .rc, 0x0, 0x0, 0x0, 0x0, 0x0, []⟩,  -- ACL_CNT
   ⟨0x044, 1, 4, .ro, 0x0, 0x0, 0x0, 0x0, 0x0, []⟩,  -- ACL_LOGIDX
   ⟨0x080, 8, 4, .ro, 0x0, 0x0, 0x0, 0x0, 0x0, []⟩,  -- ACL_LOG_ADDR
   ⟨0x0C0, 8, 4, .ro, 0x0, 0x0, 0x0, 0x0, 0x0, []⟩,  -- ACL_LOG_SRC
   ⟨0x100, 1, 64, .rw, 0x10000001, 0x10000001, 0xFFFFF001, 0x0, 0x0, []⟩,  -- ACL_SRAM_BASE[0-0]
   ⟨0x140, 7, 64, .rw, 0x0, 0x0, 0xFFFFF001, 0x0, 0x0, []⟩,  -- ACL_SRAM_BASE[1-7]
   ⟨0x104, 1, 64, .rw, 0x127FF000, 0x127FF000, 0xFFFFF000, 0x0, 0x0, []⟩,  -- ACL_SRAM_LIMIT[0-0]
   ⟨0x144, 7, 64, .rw, 0x0, 0x0, 0xFFFFF000, 0x0, 0x0, []⟩,  -- ACL_SRAM_LIMIT[1-7]
   ⟨0x108, 1, 64, .rw, 0x40104010, 0x40104010, 0x7FFF7FFF, 0x0, 0x0, []⟩,  -- ACL_SRAM_RW[0-0]
   ⟨0x148, 7, 64, .rw, 0x0, 0x0, 0x7FFF7FFF, 0x0, 0x0, []⟩,  -- ACL_SRAM_RW[1-7]
   ⟨0x10C, 1, 64, .rw, 0x10, 0x10, 0x7FFF, 0x0, 0x0, []⟩,  -- ACL_SRAM_X[0-0]
   ⟨0x14C, 7, 64, .rw, 0x0, 0x0, 0x7FFF, 0x0, 0x0, []⟩,  -- ACL_SRAM_X[1-7]
   ⟨0x300, 1, 64, .rw, 0x8000001, 0x8000001, 0xFFFFF001, 0x0, 0x0, []⟩,  -- ACL_FLASH_BASE[0-0]
   ⟨0x340, 7, 64, .rw, 0x0, 0x0, 0xFFFFF001, 0x0, 0x0, []⟩,  -- ACL_FLASH_BASE[1-7]
   ⟨0x304, 1, 64, .rw, 0x87FF000, 0x87FF000, 0xFFFFF000, 0x0, 0x0, []⟩,  -- ACL_FLASH_LIMIT[0-0]
   ⟨0x344, 7, 64, .rw, 0x0, 0x0, 0xFFFFF000, 0x0, 0x0, []⟩,  -- ACL_FLASH_LIMIT[1-7]
   ⟨0x308, 1, 64, .rw, 0x40104010, 0x40104010, 0x7FFF7FFF, 0x0, 0x0, []⟩,  -- ACL_FLASH_RW[0-0]
   ⟨0x348, 7, 64, .rw, 0x0, 0x0, 0x7FFF7FFF, 0x0, 0x0, []⟩,  -- ACL_FLASH_RW[1-7]
   ⟨0x30C, 1, 64, .rw, 0x10, 0x10, 0x7FFF, 0x0, 0x0, []⟩,  -- ACL_FLASH_X[0-0]
   ⟨0x34C, 7, 64, .rw, 0x0, 0x0, 0x7FFF, 0x0, 0x0, []⟩,  -- ACL_FLASH_X[1-7]
   ⟨0x500, 1, 64, .rw, 0x20000001, 0x20000001, 0xFFFFF001, 0x0, 0x0, []⟩,  -- ACL_MORT_BASE[0-0]
   ⟨0x540, 3, 64, .rw, 0x0, 0x0, 0xFFFFF001, 0x0, 0x0, []⟩,  -- ACL_MORT_BASE[1-3]
   ⟨0x504, 1, 64, .rw, 0x20002000, 0x20002000, 0xFFFFF000, 0x0, 0x0, []⟩,  -- ACL_MORT_LIMIT[0-0]
   ⟨0x544, 3, 64, .rw, 0x0, 0x0, 0xFFFFF000, 0x0, 0x0, []⟩,  -- ACL_MORT_LIMIT[1-3]
   ⟨0x508, 1, 64, .rw, 0x40104010, 0x40104010, 0x7FFF7FFF, 0x0, 0x0, []⟩,  -- ACL_MORT_RW[0-0]
   ⟨0x548, 3, 64, .rw, 0x0, 0x0, 0x7FFF7FFF, 0x0, 0x0, []⟩,  -- ACL_MORT_RW[1-3]
   ⟨0x50C, 4, 64, .rw, 0x0, 0x0, 0x0, 0x0, 0x0, []⟩,  -- ACL_MORT_X
   ⟨0x600, 41, 4, .rw, 0x40107FFF, 0x40107FFF, 0x7FFF7FFF, 0x0, 0x0, []⟩]  -- ACL_PAGE

/-- Own registers of FLC, page 0x1F. -/
def regTableFLC : List RegDesc :=
  [⟨0x040, 1, 4, .rw, 0xC8, 0xC8, 0x3FF, 0x0, 0x0, [⟨0, 10, false, 50, 1000⟩]⟩,  -- FLC_CFG
   ⟨0x044, 1, 4, .ro, 0x0, 0x0, 0x0, 0x0, 0x0, []⟩,  -- FLC_ESEQ
   ⟨0x048, 1, 4, .ro, 0x0, 0x0, 0x0, 0x0, 0x0, []⟩,  -- FLC_SCAN
   ⟨0x04C, 1, 4, .rwo, 0x0, 0x0, 0xFFFF0003, 0x0, 0x0, []⟩,  -- FLC_BOOT
   ⟨0x050, 1, 4, .rc, 0x0, 0x0, 0x0, 0x0, 0x0, []⟩,  -- FLC_ECC
   ⟨0x054, 1, 4, .ro, 0x0, 0x0, 0x0, 0x0, 0x0, []⟩,  -- FLC_ERRADDR
   ⟨0x080, 2, 64, .rw, 0x0, 0x0, 0xFFFFFFFF, 0x0, 0x0, []⟩,  -- FLC_B_ADDR
   ⟨0x084, 2, 64, .rw, 0x0, 0x0, 0xFFFFFFFF, 0x0, 0x0, []⟩,  -- FLC_B_SRC
   ⟨0x088, 2, 64, .rw, 0x0, 0x0, 0x3F, 0x0, 0x0, []⟩,  -- FLC_B_CNT
   ⟨0x08C, 2, 64, .rwh, 0x0, 0x0, 0x7, 0x0, 0x80000000, []⟩,  -- FLC_B_CMD
   ⟨0x090, 2, 64, .ro, 0x0, 0x0, 0x0, 0x0, 0x0, []⟩,  -- FLC_B_STAT
   ⟨0x094, 2, 64, .ro, 0x0, 0x0, 0x0, 0x0, 0x0, []⟩,  -- FLC_B_SUSP
   ⟨0x098, 2, 64, .ro, 0x0, 0x0, 0x0, 0x0, 0x0, []⟩,  -- FLC_B_LAST
   ⟨0x09C, 2, 64, .rc, 0x0, 0x0, 0x0, 0x0, 0x0, []⟩]  -- FLC_B_ERASES

/-- Own registers of OPT, page 0x20. -/
def regTableOPT : List RegDesc :=
  [⟨0x040, 1, 4, .ro, 0x0, 0x0, 0x0, 0x0, 0x0, []⟩,  -- OPT_SEL
   ⟨0x044, 1, 4, .ro, 0x0, 0x0, 0x0, 0x0, 0x0, []⟩,  -- OPT_BAD
   ⟨0x048, 1, 4, .rw, 0x0, 0x0, 0x1FF, 0x0, 0x0, [⟨0, 9, false, 64, 511⟩]⟩,  -- OPT_WADDR
   ⟨0x04C, 1, 4, .rw, 0xFFFFFFFF, 0xFFFFFFFF, 0xFFFFFFFF, 0x0, 0x0, []⟩,  -- OPT_WDATA_LO
   ⟨0x050, 1, 4, .rw, 0xFFFFFFFF, 0xFFFFFFFF, 0xFFFFFFFF, 0x0, 0x0, []⟩,  -- OPT_WDATA_HI
   ⟨0x054, 1, 4, .w1s, 0x0, 0x0, 0x0, 0x0, 0x101, []⟩,  -- OPT_CMD
   ⟨0x058, 1, 4, .w1s, 0x0, 0x0, 0x0, 0x0, 0x1, []⟩,  -- OPT_AUTH
   ⟨0x05C, 1, 4, .ro, 0x0, 0x0, 0x0, 0x0, 0x0, []⟩]  -- OPT_RES

/-- Own registers of SEC, page 0x21. -/
def regTableSEC : List RegDesc :=
  [⟨0x040, 1, 4, .rwh, 0x0, 0x0, 0xF, 0x0, 0x80000000, []⟩,  -- SEC_CMD
   ⟨0x044, 1, 4, .ro, 0x0, 0x0, 0x0, 0x0, 0x0, []⟩,  -- SEC_RES
   ⟨0x048, 1, 4, .rw, 0x0, 0x0, 0xFFFFFFFF, 0x0, 0x0, []⟩,  -- SEC_BUF
   ⟨0x04C, 1, 4, .rw, 0x0, 0x0, 0xFFFF, 0x0, 0x0, []⟩,  -- SEC_LEN
   ⟨0x050, 1, 4, .ro, 0x0, 0x0, 0x0, 0x0, 0x0, []⟩,  -- SEC_ROMVER
   ⟨0x060, 8, 4, .ro, 0x0, 0x0, 0x0, 0x0, 0x0, []⟩,  -- SEC_OUT
   ⟨0x080, 8, 4, .ro, 0x0, 0x0, 0x0, 0x0, 0x0, []⟩,  -- SEC_MEAS
   ⟨0x0A0, 8, 4, .ro, 0x0, 0x0, 0x0, 0x0, 0x0, []⟩,  -- SEC_IMGDIG
   ⟨0x0C0, 4, 4, .rw, 0x0, 0x0, 0xFFFFFFFF, 0x0, 0x0, []⟩,  -- SEC_NONCE
   ⟨0x0E0, 8, 4, .ro, 0x0, 0x0, 0x0, 0x0, 0x0, []⟩,  -- SEC_CHAL
   ⟨0x100, 8, 4, .ro, 0x0, 0x0, 0x0, 0x0, 0x0, []⟩,  -- SEC_CHAL2
   ⟨0x800, 488, 4, .ro, 0x0, 0x0, 0x0, 0x0, 0x0, []⟩]  -- SEC_IDPK

/-- Own registers of EVR, page 0x22. -/
def regTableEVR : List RegDesc :=
  [⟨0x040, 1, 4, .rw, 0x152, 0x152, 0x377, 0x0, 0x0, [⟨0, 3, false, 0, 5⟩, ⟨4, 3, false, 0, 6⟩]⟩,  -- EVR_CFG
   ⟨0x044, 1, 4, .ro, 0x0, 0x0, 0x0, 0x0, 0x0, []⟩,  -- EVR_SEQ
   ⟨0x048, 1, 4, .ro, 0x0, 0x0, 0x0, 0x0, 0x0, []⟩,  -- EVR_POC
   ⟨0x04C, 1, 4, .ro, 0x0, 0x0, 0x0, 0x0, 0x0, []⟩,  -- EVR_CLRCNT
   ⟨0x050, 1, 4, .ro, 0x0, 0x0, 0x0, 0x0, 0x0, []⟩,  -- EVR_NPERM
   ⟨0x054, 1, 4, .ro, 0x0, 0x0, 0x0, 0x0, 0x0, []⟩,  -- EVR_NCIRC
   ⟨0x058, 1, 4, .ro, 0x0, 0x0, 0x0, 0x0, 0x0, []⟩,  -- EVR_FIRST
   ⟨0x05C, 1, 4, .ro, 0x0, 0x0, 0x0, 0x0, 0x0, []⟩,  -- EVR_WPOS
   ⟨0x060, 1, 4, .rw, 0x0, 0x0, 0xFFFFFFFF, 0x0, 0x0, []⟩,  -- EVR_PFR_BASE
   ⟨0x064, 1, 4, .ro, 0x0, 0x0, 0x0, 0x0, 0x0, []⟩,  -- EVR_PFR_STAT
   ⟨0x068, 1, 4, .rw, 0x0, 0x0, 0xFFFFFFFF, 0x0, 0x0, []⟩,  -- EVR_WR_SRC
   ⟨0x06C, 1, 4, .w1s, 0x0, 0x0, 0x0, 0x0, 0x101, []⟩,  -- EVR_WR
   ⟨0x070, 1, 4, .rc, 0x0, 0x0, 0x0, 0x0, 0x0, []⟩,  -- EVR_CNT
   ⟨0x074, 1, 4, .ro, 0x0, 0x0, 0x0, 0x0, 0x0, []⟩,  -- EVR_TIME_LO
   ⟨0x078, 1, 4, .ro, 0x0, 0x0, 0x0, 0x0, 0x0, []⟩]  -- EVR_TIME_HI

/-- Own registers of WDT, page 0x23. -/
def regTableWDT : List RegDesc :=
  [⟨0x040, 1, 4, .ro, 0x0, 0x0, 0x0, 0x0, 0x0, []⟩,  -- WDT_RST
   ⟨0x044, 1, 4, .ro, 0x0, 0x0, 0x0, 0x0, 0x0, []⟩,  -- WDT_ISO
   ⟨0x048, 1, 4, .w1s, 0x0, 0x0, 0x0, 0x0, 0xF, []⟩,  -- WDT_REJOIN
   ⟨0x04C, 1, 4, .rw, 0x0, 0x0, 0xFFFFFFFC, 0x0, 0x0, []⟩,  -- WDT_REJOINPC
   ⟨0x050, 1, 4, .w1s, 0x0, 0x0, 0x0, 0x0, 0x1, []⟩,  -- WDT_WRST
   ⟨0x080, 5, 64, .rw, 0x0, 0x0, 0x1, 0x0, 0x0, []⟩,  -- WDT_CFG
   ⟨0x084, 4, 64, .rw, 0x320032, 0x320032, 0xFFFFFFFF, 0x0, 0x0, [⟨0, 16, false, 1, 65535⟩, ⟨16, 16, false, 1, 65535⟩]⟩,  -- WDT_TIME[0-3]
   ⟨0x184, 1, 64, .rw, 0xA000A, 0xA000A, 0xFFFFFFFF, 0x0, 0x0, [⟨0, 16, false, 1, 65535⟩, ⟨16, 16, false, 1, 65535⟩]⟩,  -- WDT_TIME[4-4]
   ⟨0x088, 5, 64, .wo, 0x0, 0x0, 0x0, 0x0, 0xFFFFFFFF, []⟩,  -- WDT_KICK
   ⟨0x08C, 5, 64, .ro, 0x0, 0x0, 0x0, 0x0, 0x0, []⟩]  -- WDT_STAT

/-- Own registers of IRQ, page 0x24. -/
def regTableIRQ : List RegDesc :=
  [⟨0x040, 1, 4, .ro, 0x0, 0x0, 0x0, 0x0, 0x0, []⟩,  -- IRQ_PEND_LO
   ⟨0x044, 1, 4, .ro, 0x0, 0x0, 0x0, 0x0, 0x0, []⟩,  -- IRQ_PEND_HI
   ⟨0x080, 41, 4, .rw, 0x110, 0x110, 0x71F, 0x0, 0x0, []⟩,  -- IRQ_ROUTE
   ⟨0x200, 5, 64, .rw, 0x0, 0x0, 0x7, 0x0, 0x0, []⟩,  -- IRQ_THR
   ⟨0x204, 5, 64, .rwh, 0x0, 0x0, 0x3F, 0x0, 0x0, []⟩,  -- IRQ_CLAIM
   ⟨0x208, 5, 64, .ro, 0x0, 0x0, 0x0, 0x0, 0x0, []⟩]  -- IRQ_HSTAT

/-- Own registers of GPIO, page 0x25. -/
def regTableGPIO : List RegDesc :=
  [⟨0x040, 1, 4, .ro, 0x0, 0x0, 0x0, 0x0, 0x0, []⟩,  -- GPIO_IN
   ⟨0x044, 1, 4, .rw, 0x0, 0x0, 0xFFFF, 0x0, 0x0, []⟩,  -- GPIO_OUT
   ⟨0x048, 1, 4, .wo, 0x0, 0x0, 0x0, 0x0, 0xFFFF, []⟩,  -- GPIO_SET
   ⟨0x04C, 1, 4, .wo, 0x0, 0x0, 0x0, 0x0, 0xFFFF, []⟩,  -- GPIO_CLR
   ⟨0x050, 1, 4, .rw, 0x0, 0x0, 0xFFFF, 0x0, 0x0, []⟩,  -- GPIO_OE
   ⟨0x054, 1, 4, .rw, 0x0, 0x0, 0xFFFF, 0x0, 0x0, []⟩,  -- GPIO_OD
   ⟨0x058, 1, 4, .rw, 0x55555555, 0x55555555, 0xFFFFFFFF, 0x0, 0x0, [⟨0, 2, false, 0, 2⟩, ⟨2, 2, false, 0, 2⟩, ⟨4, 2, false, 0, 2⟩, ⟨6, 2, false, 0, 2⟩, ⟨8, 2, false, 0, 2⟩, ⟨10, 2, false, 0, 2⟩, ⟨12, 2, false, 0, 2⟩, ⟨14, 2, false, 0, 2⟩, ⟨16, 2, false, 0, 2⟩, ⟨18, 2, false, 0, 2⟩, ⟨20, 2, false, 0, 2⟩, ⟨22, 2, false, 0, 2⟩, ⟨24, 2, false, 0, 2⟩, ⟨26, 2, false, 0, 2⟩, ⟨28, 2, false, 0, 2⟩, ⟨30, 2, false, 0, 2⟩]⟩,  -- GPIO_PULL
   ⟨0x080, 16, 4, .rw, 0x0, 0x0, 0xF3, 0x0, 0x0, []⟩]  -- GPIO_PCFG

/-- Own registers of TSNS, page 0x26. -/
def regTableTSNS : List RegDesc :=
  [⟨0x040, 1, 4, .rw, 0x695F00, 0x695F00, 0xFFFF00, 0x0, 0x0, [⟨8, 8, false, 40, 125⟩, ⟨16, 8, false, 40, 125⟩]⟩,  -- TSNS_CFG
   ⟨0x044, 1, 4, .ro, 0x0, 0x0, 0x0, 0x0, 0x0, []⟩,  -- TSNS_MAX
   ⟨0x048, 1, 4, .rc, 0x0, 0x0, 0x0, 0x0, 0x0, []⟩,  -- TSNS_PEAK
   ⟨0x080, 6, 4, .ro, 0x0, 0x0, 0x0, 0x0, 0x0, []⟩]  -- TSNS_T

/-- Own registers of DBG, page 0x27. -/
def regTableDBG : List RegDesc :=
  [⟨0x040, 1, 4, .ro, 0x0, 0x0, 0x0, 0x0, 0x0, []⟩,  -- DBG_STAT
   ⟨0x044, 1, 4, .rw, 0x3, 0x3, 0x7, 0x0, 0x0, []⟩,  -- DBG_CFG
   ⟨0x048, 1, 4, .rc, 0x0, 0x0, 0x0, 0x0, 0x0, []⟩]  -- DBG_CNT

/-- Own registers of HDL, page 0x28. -/
def regTableHDL : List RegDesc :=
  [⟨0x040, 1, 4, .rwh, 0x0, 0x0, 0x7F7F03, 0x0, 0x0, []⟩,  -- HDL_CFG
   ⟨0x044, 1, 4, .wo, 0x0, 0x0, 0x0, 0x0, 0xFF00FFFF, []⟩,  -- HDL_CMD
   ⟨0x048, 1, 4, .rc, 0x0, 0x0, 0x0, 0x0, 0x0, []⟩,  -- HDL_RSP
   ⟨0x04C, 1, 4, .ro, 0x0, 0x0, 0x0, 0x0, 0x0, []⟩,  -- HDL_FIFO
   ⟨0x050, 1, 4, .rc, 0x0, 0x0, 0x0, 0x0, 0x0, []⟩]  -- HDL_CNT

/-- The own registers of each page (R496); the four read lanes share one table. -/
def pageTable (p : Nat) : List RegDesc :=
  match p with
  | 0x00 => regTableSYS
  | 0x01 => regTableTICK
  | 0x02 => regTablePWR
  | 0x03 => regTableSPN
  | 0x04 => regTableSTP
  | 0x05 => regTableACT
  | 0x06 => regTableSADC
  | 0x07 => regTableLENG
  | 0x08 => regTableTRC
  | 0x09 => regTableWINH
  | 0x0A => regTableRFL
  | 0x0B => regTableRFL
  | 0x0C => regTableRFL
  | 0x0D => regTableRFL
  | 0x0E => regTableDSK
  | 0x0F => regTableDET
  | 0x10 => regTableLDPC
  | 0x11 => regTableSTRP
  | 0x12 => regTableWENC
  | 0x13 => regTableWSG
  | 0x14 => regTableDRAW
  | 0x15 => regTableCAL
  | 0x16 => regTableFMT
  | 0x17 => regTableXLT
  | 0x18 => regTableMEDM
  | 0x19 => regTableHQ
  | 0x1A => regTablePCIE
  | 0x1B => regTableDMA
  | 0x1C => regTableMEMC
  | 0x1D => regTableL2C
  | 0x1E => regTableACL
  | 0x1F => regTableFLC
  | 0x20 => regTableOPT
  | 0x21 => regTableSEC
  | 0x22 => regTableEVR
  | 0x23 => regTableWDT
  | 0x24 => regTableIRQ
  | 0x25 => regTableGPIO
  | 0x26 => regTableTSNS
  | 0x27 => regTableDBG
  | 0x28 => regTableHDL
  | _ => []

/-- The interrupt bits each page defines (IRQ_RAW, IRQ_EN and IRQ_STAT hold these bits only). -/
def irqMask (p : Nat) : Nat :=
  match p with
  | 0x00 => 0x1
  | 0x01 => 0x3
  | 0x02 => 0xFF
  | 0x03 => 0x1FF
  | 0x04 => 0x7F
  | 0x05 => 0xFF
  | 0x06 => 0x1
  | 0x07 => 0x7F
  | 0x08 => 0x7
  | 0x09 => 0x3
  | 0x0A => 0x7F
  | 0x0B => 0x7F
  | 0x0C => 0x7F
  | 0x0D => 0x7F
  | 0x0E => 0xF
  | 0x0F => 0x7F
  | 0x10 => 0x7
  | 0x11 => 0x7
  | 0x12 => 0x1F
  | 0x13 => 0xF
  | 0x14 => 0xF
  | 0x15 => 0x3F
  | 0x16 => 0x7
  | 0x17 => 0x3F
  | 0x18 => 0x3F
  | 0x19 => 0x3F
  | 0x1A => 0x3FF
  | 0x1B => 0x3
  | 0x1C => 0xF
  | 0x1D => 0x7
  | 0x1E => 0x1
  | 0x1F => 0x7F
  | 0x20 => 0x7
  | 0x21 => 0x3
  | 0x22 => 0x3F
  | 0x23 => 0x11F
  | 0x24 => 0x1
  | 0x25 => 0xFFFF
  | 0x26 => 0xF
  | 0x27 => 0x3
  | 0x28 => 0xF
  | _ => 0

end Sys2Proof.Machine
end

