-- ==== Sys2Proof/Machine/SMap.lean ====
section
/-! DEFINITION. Sparse storage in one canonical form: a list of (key, value) pairs with strictly rising keys and no value
equal to what an unlisted key reads as. The register file, SRAM, the option area, flash and mortar are kept so. -/
namespace Sys2Proof.Machine

/-- The value at key `a`; an unlisted key reads as `d a`. -/
def SMap.get {β : Type} (d : Nat → β) : List (Nat × β) → Nat → β
  | [], a => d a
  | (k, v) :: t, a => if k = a then v else SMap.get d t a

/-- The list without key `a`. -/
def SMap.erase {β : Type} : List (Nat × β) → Nat → List (Nat × β)
  | [], _ => []
  | (k, v) :: t, a => if k = a then SMap.erase t a else (k, v) :: SMap.erase t a

/-- Puts (a, v) before the first greater key. -/
def SMap.insert {β : Type} : List (Nat × β) → Nat → β → List (Nat × β)
  | [], a, v => [(a, v)]
  | (k, w) :: t, a, v => if a < k then (a, v) :: (k, w) :: t else (k, w) :: SMap.insert t a v

/-- Writes `v` at `a`; writing what an unlisted key reads as removes the entry. -/
def SMap.set {β : Type} [DecidableEq β] (d : Nat → β) (m : List (Nat × β)) (a : Nat) (v : β) : List (Nat × β) :=
  if v = d a then SMap.erase m a else SMap.insert (SMap.erase m a) a v

/-- The list without the keys that `p` holds of: they read as unlisted again. -/
def SMap.drop {β : Type} (p : Nat → Bool) : List (Nat × β) → List (Nat × β)
  | [] => []
  | (k, v) :: t => if p k then SMap.drop p t else (k, v) :: SMap.drop p t

/-- Keys rise strictly from `lo` on and no listed value equals the unlisted one. -/
def SMap.wfFrom {β : Type} [DecidableEq β] (d : Nat → β) : Nat → List (Nat × β) → Bool
  | _, [] => true
  | lo, (k, v) :: t => decide (lo ≤ k) && !decide (v = d k) && SMap.wfFrom d (k + 1) t

/-- The canonical form. -/
def SMap.wf {β : Type} [DecidableEq β] (d : Nat → β) (m : List (Nat × β)) : Bool := SMap.wfFrom d 0 m

/-- The canonical form of any list; of two entries with one key the first counts. -/
def SMap.canon {β : Type} [DecidableEq β] (d : Nat → β) : List (Nat × β) → List (Nat × β)
  | [] => []
  | (k, v) :: t => SMap.set d (SMap.canon d t) k v

/-- A list that is in canonical form as it is, any other brought into it. -/
def SMap.tidy {β : Type} [DecidableEq β] (d : Nat → β) (m : List (Nat × β)) : List (Nat × β) :=
  if SMap.wf d m then m else SMap.canon d m

end Sys2Proof.Machine
end

