-- ==== Sys2Proof/Machine/State.lean ====
section
/-! DEFINITION. The state of the part as plain data: the register file, the storage behind it, and for each block the
state its chapter gives it beyond its registers; the queue of commands that wait; the state after reset. -/
namespace Sys2Proof.Machine

/-- No command of this part stops the machine: every row of the table has an effect the spec gives, so this type has one
constructor that nothing raises (safe: it adds no behaviour). -/
inductive Fault where
  /-- Raised by no command. -/
  | none
  deriving DecidableEq, Repr

/-- Why a command has no meaning. -/
inductive Refusal where
  /-- Raised by an arm of `exec` whose meaning is not written yet (safe: nothing can be proved of such a command). -/
  | notModelled (mnemonic : String)
  deriving DecidableEq, Repr

/-- A report on its way to the event recorder (R466, R531): bytes 16 to 59 of its record are `data`, then zeros. -/
structure Report where
  code : Nat
  master : Nat
  hw : Bool
  sev : Nat
  data : List Nat
  deriving DecidableEq, Repr

/-- What the last register or memory read returned, and whether it ended with an error response. -/
structure Resp where
  data : Nat
  err : Bool
  deriving DecidableEq, Repr

/-- One line of a cache: its line address (byte address / 64) and its 64 bytes. -/
structure CacheLine where
  line : Nat
  data : BitVec 512
  deriving DecidableEq, Repr

/-- Where start-up stands (R268, R477, R482): rails off, rails starting, held in reset, reset released, boot ROM
verifying, firmware running, recovery mode. -/
inductive BootPhase where
  | off | railsStarting | held | released | ready | running | recovery
  deriving DecidableEq, Repr

/-- Supply and start-up state beyond the registers (R268, R269, R482, R483). -/
structure Boot where
  phase : BootPhase
  /-- Rail restarts in a row that failed (R269). -/
  restarts : Nat
  /-- The rail whose failure is recorded once a restart has succeeded (R269). -/
  failedRail : Option Nat
  /-- A warm reset runs, from its step 1 to ENTRY (R482). -/
  warm : Bool
  /-- A PERST# deassertion that asks for cause 5 waits for ENTRY (R482). -/
  heldCause5 : Bool
  /-- RESET_N low at this release: pin reset (R481). -/
  pin : Bool
  /-- A HOT event stands that COOL has not ended (R507). -/
  hot : Bool
  /-- Tick at which each watchdog's COUNT last stood as its register shows (R486, R493). -/
  wdtTick : List Nat
  /-- Tick of the last warm reset (R484). -/
  warmAt : Nat
  deriving DecidableEq, Repr

/-- What a hart holds beyond its CSRs (R408 to R413, R487, R504). -/
structure Hart where
  /-- The core runs (released from reset, not isolated). -/
  run : Bool
  /-- Where it begins or began when last released. -/
  entry : Nat
  halted : Bool
  /-- Reservation of a load-reserved, by line address (R408). -/
  reservation : Option Nat
  /-- Compare value in force; MTIMECMP_LO acts only with MTIMECMP_HI (R504). -/
  mtimecmp : Nat
  /-- Timer interrupt taken (R504). -/
  timerIrq : Bool
  /-- Last exception or machine check the core took: cause code of R408's table and address. -/
  trap : Option (Nat × Nat)
  /-- Lines held by L1I and by L1D (R411). -/
  l1i : List CacheLine
  l1d : List CacheLine
  /-- Interrupt sources the hart has claimed and not completed (R494). -/
  claimed : List Nat
  deriving DecidableEq, Repr

/-- Supply state beyond the registers (R271 to R282). -/
structure Pwr where
  /-- BRKG output. -/
  brkg : Bool
  /-- The chopper was judged faulty and stays off until CHOPFLT is cleared (R273). -/
  faulty : Bool
  /-- VIN in mV when BRKG rose, while the 200 µs judging window runs (R272). -/
  chopWin : Option Nat
  /-- Tick at which the loss was declared (R277). -/
  lossTick : Option Nat
  /-- VIN stood above VLOSS + 0.5 V for 10 ms after the loss, waiting for DONE (R281). -/
  recoverPend : Bool
  /-- HOLDUP is requested; SPN answers at its next exchange (R242, R277). -/
  holdupReq : Bool
  /-- Park called by the last-gasp sequence has started (R277, R281). -/
  parkCalled : Bool
  /-- Ticks in a row with VIN below VLOSS, and with VIN above VLOSS + 0.5 V (R276, R281). -/
  under : Nat
  above : Nat
  /-- A late last-gasp sequence, which the recorder notes at the next mount (R279). -/
  lateNote : Bool
  deriving DecidableEq, Repr

/-- A trace channel beyond its registers and its head in mortar (R214 to R217). -/
structure TraceCh where
  /-- Samples still to write after the trigger. -/
  post : Nat
  /-- The previous sample, for an edge. -/
  prev : Option Int
  /-- Samples that SRAM has not yet taken: address and value, oldest first. -/
  buf : List (Nat × Nat)
  deriving DecidableEq, Repr

/-- An enabled program with the fields it was checked with (R201 to R203). -/
structure Prog where
  prog : Nat
  nstage : Nat
  div : Nat
  phase : Nat
  base : Nat
  limit : Nat
  clocks : Nat
  /-- EN was written 0: it stops at the next boundary. -/
  stopping : Bool
  deriving DecidableEq, Repr

/-- A computation that has not ended at the last clock of its tick (R209): COND of its tick, the program under way with its
stages left, their first descriptor and the result passed on, the programs after it, the clocks used. -/
structure LengRest where
  cond : Nat
  prog : Nat
  left : Nat
  addr : Nat
  prev : Int
  after : List Prog
  clk : Nat
  deriving DecidableEq, Repr

/-- A check that LENG runs (R202, R206, R212). -/
inductive LengCheck where
  | prog (p : Nat) | shadow | restart
  deriving DecidableEq, Repr

/-- Mortar and the loop engine beyond the registers (R190 to R212). -/
structure Leng where
  /-- Mortar by physical word: bank F from 0, X from 1,024, Y from 2,048; unlisted words are 0. -/
  words : List (Nat × Word)
  /-- Damaged words: physical word, mask of wrong bits of data [31:0] and check [38:32], whether the cells are faulty. -/
  faults : List (Nat × Nat × Bool)
  /-- Words 0x028 to 0x02F, 0x070 and 0x071 as their consumers hold them, and as stages wrote them since (R191). -/
  out : List Word
  outNew : List Word
  /-- A stage wrote VD or VQ since the last boundary that exchanged (R231). -/
  vdqNew : Bool
  /-- The focus hold word as last copied to ACT (R196). -/
  fhold : Word
  progs : List Prog
  check : Option LengCheck
  /-- ACT asks for a swap at the next boundary (R181). -/
  actSwap : Bool
  /-- The computation of the present tick ran over its 476 clocks: the program it ran over in. -/
  overran : Option Nat
  /-- The rest of a computation that overran (R209). -/
  rest : Option LengRest
  /-- Clocks that corrections in the present exchange stalled LENG for (R194). -/
  stall : Nat
  /-- Entries of the batch update that waits to land (R204). -/
  upd : List (Nat × Word)
  /-- The next boundary runs step 1 only, and its tick computes nothing (R209). -/
  late : Bool
  /-- Ticks of the last three overruns, newest first; the last window recorded; overruns since that record. -/
  ovrTicks : List Nat
  ovrWin : Option Nat
  ovrSince : Nat
  trace : List TraceCh
  /-- A supervisor tick is outstanding (R192). -/
  supOut : Bool
  deriving DecidableEq, Repr

/-- How one frame of a sector was found (R70 to R74): its number, whether a sync was accepted, at which offset and
distance, the flags its samples carry, and the tentative decisions of its 1,488 stored samples (R79, R88). -/
structure FrameRec where
  frame : Nat
  accepted : Bool
  offset : Int
  dist : Nat
  flyw : Bool
  era : Bool
  dec : List Bool
  deriving DecidableEq, Repr

/-- A frame that a lane has delivered to DSK (R76, R78): its number, its 1,440 sample words, their tentative decisions and
the polarity its sync ended with (R88). -/
structure PayFrame where
  group : Nat
  pos : Nat
  frame : Nat
  words : List Nat
  dec : List Bool
  pol : Bool
  deriving DecidableEq, Repr

/-- A sample a lane holds: as it came in, with the servo hint of its tick (R78). -/
structure LaneSample where
  x : Int
  a : Bool
  eps : Int
  hint : Nat
  deriving DecidableEq, Repr

/-- A read lane beyond its registers (R57 to R80). -/
structure Lane where
  /-- PGA code and high-pass corner in force (R57). -/
  pga : Nat
  hpf : Nat
  /-- Slot the next rotation step takes over (R58). -/
  nextSlot : Nat
  /-- A swap that fell due during acquisition or re-acquisition, with the spare's measurement (R59). -/
  swapDue : Option (Int × Int × Int)
  /-- Active converters that retire at their next turn as spare (R61). -/
  retirePend : List Nat
  /-- The converter a statistics run made the spare, exchanged at the next link zone (R297). -/
  sparePick : Option Nat
  /-- The preamble end was found (R67). -/
  marker : Bool
  /-- Searches left in re-acquisition (R72). -/
  reacqLeft : Nat
  /-- The lane locked in the present group; groups in a row out of lock (R80). -/
  locked : Bool
  outRun : Nat
  /-- A reset of the lane since its FAULT: the next clean acquisition returns it to service (R80). -/
  faultCleared : Bool
  /-- The first acquisition since reset or SRST is yet to come: it starts a statistics run (R293). -/
  firstAcq : Bool
  /-- Frames of the present sector (R74). -/
  frames : List FrameRec
  /-- Group the lane reads; position and frame expected next (R67 to R70). -/
  group : Nat
  expect : Nat × Nat
  /-- Samples from 40 bits before the predicted sync on (R70). -/
  buf : List LaneSample
  /-- The last 14 equaliser inputs in 2^-10 and the last three decisions, newest first (R65). -/
  xs : List Int
  dec : List Bool
  /-- The last 8 sample words; the frame whose last stored samples are still to come: group, position, frame, offset (R79). -/
  last8 : List Nat
  prev : Option (Nat × Nat × Nat × Int)
  /-- Fractions of the AGC gain in 2^-15 and of the taps in 2^-31 (R57, R65). -/
  gainFrac : Nat
  tapFrac : List Nat
  /-- Sampling phase in 2^-10 of 1/64 period; frequency integrator in 2^-18 of 0.1 ppm (R69). -/
  phase : Nat
  freq : Int
  /-- Samples left at the acquisition gains (R67, R72). -/
  fast : Nat
  /-- The rate left its range: the rest of the group goes out erased (R64). -/
  stopped : Bool
  /-- Frames that DSK holds of the lane (R76). -/
  pay : List PayFrame
  deriving DecidableEq, Repr

/-- Whose codeword a decoder slot holds (R95, R96). -/
inductive CwKind where
  | fg | draw | recovery
  deriving DecidableEq, Repr

/-- A lane's part of the pass plan (R104, R121): the spiral it reads, counted from spiral 0 of the group outward; whether DET
uses it; whether its sectors are decoded. -/
structure LanePlan where
  spiral : Int
  used : Bool
  decode : Bool
  deriving DecidableEq, Repr

/-- What DET holds of one lane at a sector position (R86 to R92). -/
structure LaneSoft where
  /-- Spiral it reads, and whether DET uses it in this pass. -/
  spiral : Int
  used : Bool
  /-- For whom its sector is decoded; none where it only serves its neighbours. -/
  kind : Option CwKind
  /-- Tentative decisions and polarity of each frame (R88). -/
  dec : List (List Bool)
  pol : List Bool
  /-- Symbol LLRs of the last pass, and priors on the channel bits, per frame, in 0.25 (R88, R92). -/
  sym : List (List Int)
  prior : List (List Int)
  /-- Coded-bit LLRs of the last round in 0.5, and whether they wait to be loaded (R92, R95). -/
  coded : List Int
  due : Bool
  /-- Hard decisions on the coded bits in round 1 (R136); the place that a matching header named early (R32). -/
  hard : List Bool
  ident : Option (Nat × Nat)
  /-- Rounds run; the sector is final in this pass. -/
  rounds : Nat
  fin : Bool
  /-- Header and user field of a GOOD sector (R89). -/
  known : Option (List Nat × List Nat)
  deriving DecidableEq, Repr

/-- A stored sector position of the deskew ring (R79): slot, group, position, the frames of each lane, what recovery from
the stored samples holds, and whether DET has released the position. -/
structure RingSlot where
  slot : Nat
  group : Nat
  pos : Nat
  frames : List (Nat × List FrameRec)
  lanes : List LaneSoft
  released : Bool
  deriving DecidableEq, Repr

/-- A working slot of DET (R86, R87). -/
structure WorkSlot where
  slot : Nat
  psa : Nat
  pos : Nat
  /-- Tiles stored. -/
  tiles : Nat
  /-- Samples of weight 0 and samples with a nonzero HINT or FLYW, per lane (R86, R100). -/
  w0 : List Nat
  hinted : List Nat
  lanes : List LaneSoft
  deriving DecidableEq, Repr

/-- The final state of a sector (R93). -/
inductive SectorFinal where
  | good | falseconv | noconv | cut | preerased | misplaced | badtype
  deriving DecidableEq, Repr

/-- A strip of an armed group (R103 to R111). -/
structure StripRead where
  /-- Final state per sector index, none while not final. -/
  fins : List (Option SectorFinal)
  /-- Sectors lost only with a lost lane (R107). -/
  laneLostSectors : List Nat
  /-- Rung being run, 0 in the foreground; within a re-read the step of it: 0 the read, then rungs 1 to 3; re-reads of
  rungs 4 and 5 done. -/
  rung : Nat
  sub : Nat
  /-- Sectors not GOOD when the step began. -/
  stepEras : Nat
  highest : Nat
  rereads : Nat
  /-- Tick at which the strip failed in rung 0 (R110). -/
  failTick : Option Nat
  tmaxHit : Bool
  withdrawn : Bool
  /-- Delivered (true) or unrecovered (false). -/
  ended : Option Bool
  eras0 : Nat
  errMax : Nat
  comb : Bool
  slip : Bool
  hinted : Bool
  itMax : Nat
  cls : Nat
  /-- Delivered by an erasure decode with nothing left to check (R103, R111). -/
  noMargin : Bool
  deriving DecidableEq, Repr

/-- A group read armed or in decoding (R102). -/
structure GroupRead where
  psa : Nat
  tag : Nat
  wanted : Nat
  patrol : Bool
  laneLost : Bool
  /-- Strip slot of each of the 8 strips; released ones. -/
  slots : List Nat
  released : List Nat
  strips : List StripRead
  /-- Headers of GOOD sectors: strip, index, 24 bytes (R106). -/
  headers : List (Nat × Nat × List Nat)
  /-- Headers rebuilt with their sectors (R38, R103). -/
  rebuilt : List (Nat × Nat × List Nat)
  /-- A lane's rate left its range while it read the group: it is read again (R64). -/
  again : Bool
  /-- Coded-bit LLRs of failed sectors, of the earlier reads and of the present one, to be added to a later read's (R105,
  R108), and their posteriors (R109): strip, index, values. -/
  saved : List (Nat × Nat × List Int)
  cur : List (Nat × Nat × List Int)
  soft : List (Nat × Nat × List Int)
  deriving DecidableEq, Repr

/-- A codeword slot of LDPC (R95). -/
structure Codeword where
  slot : Nat
  kind : CwKind
  psa : Nat
  spiral : Nat
  pos : Nat
  /-- Iterations used; core that decodes it; a set is due. -/
  iters : Nat
  core : Option Nat
  due : Bool
  /-- Order of loading. -/
  age : Nat
  /-- Coded-bit LLRs and extrinsics by base column, and messages by base row and block (R92, R95). -/
  llr : List (List Int)
  ext : List (List Int)
  msgs : List (List (List Int))
  deriving DecidableEq, Repr

/-- The read data path beyond its registers. -/
structure ReadPath where
  lanes : List Lane
  ring : List RingSlot
  /-- The last position DSK judged for storing (R79). -/
  ringSeen : Option (Nat × Nat)
  /-- The pass plan in force, per lane (R104, R121). -/
  plan : List LanePlan
  /-- Tile that DSK releases next: group, position, tile (R76, R77). -/
  tiles : Option (Nat × Nat × Nat)
  /-- Squared equaliser errors and their number in the present RF quality period (R169). -/
  rfq : Nat × Nat
  /-- Fractions of the crosstalk taps in 2^-20, per lane inward then outward (R91). -/
  xtFrac : List (List Nat)
  /-- Where word 0x089 glides for rung 5, and the collimator offset that rung 5 holds in TBASE (R306). -/
  dfo : Option Int
  dsa : Int
  /-- Raw hint codes of the last 128 ticks per lane, newest first; running mean of the sum times 2^16 per lane (R99). -/
  hintRaw : List (List Nat)
  hintMean : List Nat
  work : List WorkSlot
  groups : List GroupRead
  /-- Codewords in decoder slots, and evicted recovery codewords that wait (R95). -/
  cws : List Codeword
  evicted : List Codeword
  ageNext : Nat
  /-- Recovery records that XLT has yet to take (R397). -/
  toXlt : List (List Nat)
  deriving DecidableEq, Repr

/-- A write arm (R118 to R125). -/
structure Arm where
  psa : Nat
  desc : Nat
  slot : Nat
  order : Nat
  chan : Nat
  test : Bool
  rpln : Nat
  rst : Nat
  tag : Nat
  /-- Strip parity is written (R120). -/
  parity : Bool
  /-- Passes completed; offset of the last or running pass; offsets of the passes still to run, the running one first;
  a pass runs; PASSGO given. -/
  passes : Nat
  off : Int
  offs : List Int
  running : Bool
  go : Bool
  /-- The running pass: tick of its start, channel-bit period in fs, steps of a power sweep begun (R143, R151). -/
  t0 : Nat
  tfs : Nat
  step : Nat
  /-- The descriptor table of an arm that XLT commits; empty: it is read from SRAM at `desc`. -/
  tbl : List Nat
  deriving DecidableEq, Repr

/-- One sector as written: its header and user field. -/
structure WrittenSector where
  psa : Nat
  sidx : Nat
  hdr : List Nat
  user : List Nat
  deriving DecidableEq, Repr

/-- What a pass records on one spiral: channel, spiral, sectors by position, channel bits on the link (R120, R130). -/
structure ShareOut where
  chan : Nat
  spiral : Nat
  sectors : List WrittenSector
  bits : List Bool
  deriving DecidableEq, Repr

/-- The grade of a DRAW sector (R136). -/
inductive Grade where
  | verified | weak | failed
  deriving DecidableEq, Repr

/-- One graded sector: strip PSA, index, grade, raw error count. -/
structure Graded where
  psa : Nat
  sidx : Nat
  grade : Grade
  raw : Nat
  deriving DecidableEq, Repr

/-- A verdict as XLT takes it (R138, R382, R397): slot, group, verdict, cause, strips with WEAK or FAILED sectors, whether
XLT made the arm. -/
structure VerdictIn where
  slot : Nat
  psa : Nat
  verdict : Nat
  cause : Nat
  weak : Nat
  own : Bool
  deriving DecidableEq, Repr

/-- The write path beyond its registers (R117 to R149). -/
structure WritePath where
  arms : List Arm
  /-- Staging slots an arm has named and firmware has not released (R117). -/
  held : List Nat
  /-- The preceding group and the offset its last pass ran at (R122). -/
  lastPsa : Option Nat
  lastOff : Int
  /-- What the running pass emits (R120), and what earlier passes of the running group wrote. -/
  emit : List ShareOut
  written : List WrittenSector
  /-- Write gate of WSG (R131). -/
  gate : Bool
  /-- Words of each layer's set loaded since MEDIA last changed, 40 bits per layer (R128). -/
  setMask : List Nat
  /-- Words of the load that runs (R128). -/
  loadBuf : List Word
  /-- Layer and first word of that load, as they stood at GO. -/
  loadAt : Nat × Nat
  /-- DRAW: sectors graded of the group, records held for lack of room (R136, R141). -/
  graded : List Graded
  heldRecs : List (List Nat)
  /-- Arms that wait for their verdict: all passes done (R137). -/
  verdictArms : List Arm
  /-- Verdicts that XLT has yet to take. -/
  toXlt : List VerdictIn
  /-- HDL: firmware commands that wait, commands of WSG ahead of them, responses, slot, what the last frame carried. -/
  fifo : List Word
  wsgCmds : List Word
  rsp : List Word
  hdlSlot : Nat
  lastCmd : Option Word
  lastFromFifo : Bool
  /-- NBRICK per layer of the disc loaded, for R119. -/
  nbrick : List Nat
  deriving DecidableEq, Repr

/-- SPN beyond its registers (R222 to R244). Currents, voltages and SETEFF are signals of 2^31; SETEFF is kept in 1/3,125 of
a step. Vectors are (α, β); duties are in 1/8,000. -/
structure Spn where
  /-- Tick at which the present state was entered. -/
  since : Nat
  setEff : Int
  /-- SETEFF stays as it stood from a lock loss to RUN (R237). -/
  keep : Bool
  /-- Last demand: VD, VQ, the angle it is applied at, Δθe; periods in a row without a new one; a new one came in this
  period (R231). -/
  vd : Int
  vq : Int
  ang : Nat
  dth : Int
  age : Nat
  got : Bool
  /-- Current last delivered, vectors of the last, the present and the next period, duties of the last, the present and
  the next period (R223 to R227). -/
  cur : Int × Int
  vPrev : Int × Int
  vCur : Int × Int
  vNext : Int × Int
  dPrev : List Int
  dCur : List Int
  dNext : List Int
  /-- The last sample was skipped or reconstructed; skipped samples in a row; the vector of the next and of the present period
  is capped (R225, R226). -/
  pred : Bool
  recon : Bool
  skips : Nat
  capNext : Bool
  cap : Bool
  vlim : Bool
  ilim : Bool
  /-- Filtered ID² + IQ² in 2^-62 with 16 fraction bits; the lower limit holds (R233). -/
  mean : Nat
  lower : Bool
  /-- Forward wraps of THETA modulo the pole pairs, THETA as last seen, ticks since the last run of P7 (R229). -/
  wraps : Nat
  theta : Nat
  runAge : Nat
  /-- IQREF held in SYNC (R234, R235). -/
  syncIq : Int
  /-- ZEROV was entered from a backward start (R234, R236). -/
  zvBack : Bool
  /-- Runs of P7 in a row that meet the lock condition, and that miss it (R235, R237); periods in a row whose demand lies below
  0.98 VMAX (R231), and in ZEROV with every phase current below 50 mA (R240). -/
  lockRun : Nat
  lostRun : Nat
  calm : Nat
  lowRun : Nat
  /-- VIN of the last 32 ticks in mV, newest first (R227). -/
  vins : List Nat
  /-- Tick of the last lock loss (R237). -/
  lossTick : Option Nat
  /-- PWM periods of the last over-current trips; the period in which the switches stay off (R243). -/
  trips : List Nat
  offPeriod : Option Nat
  /-- SPD_CMD's value before and after its filter, in 2^-31 (R244). -/
  spdIn : Nat
  spdFil : Nat
  deriving DecidableEq, Repr

/-- A move of a stepper group's queue (R254). -/
structure StepMove where
  d : List Int
  v : Nat
  a : Nat
  j : Nat
  scurve : Bool
  blend : Bool
  ihome : Bool
  irq : Bool
  tag : Nat
  deriving DecidableEq, Repr

/-- A piece of a path profile: its duration in seconds, and jerk and acceleration at its start (R256). -/
structure Segment where
  t : Rat
  j : Rat
  a : Rat
  deriving DecidableEq, Repr

/-- The move a group runs (R255 to R258): where each axis began, path length, entry and exit speed, profile, ticks run. -/
structure StepRun where
  move : StepMove
  start : List Int
  len : Nat
  /-- Path acceleration limit, fixed as the move starts (R255). -/
  acc : Rat
  vin : Rat
  vout : Rat
  segs : List Segment
  ticks : Nat
  /-- Seconds of the path that lay before the boundary at which it was taken up: the move before ended within a tick. -/
  lead : Rat
  /-- The group stops along the path (R258). -/
  stop : Bool
  deriving DecidableEq, Repr

/-- A stepper group. -/
structure StepGroup where
  queue : List StepMove
  run : Option StepRun
  deriving DecidableEq, Repr

/-- The current of an axis (R262): both bridges off, IRUN, IHOME of the last move, or IHOLD. -/
inductive CoilSel where
  | off
  | run
  | home
  | hold
  deriving DecidableEq, Repr

/-- Where an axis is in a park (R260): none, decelerating, moving to its park position, holding there; set to OFF by park
with its bridges at IHOLD (R252). -/
inductive ParkStep where
  | none
  | slow
  | go
  | there
  | held
  deriving DecidableEq, Repr

/-- A stepper axis (R250 to R262): position and velocity with 24 fraction bits. -/
structure StepAxis where
  pos : Int
  vel : Int
  phofs : Nat
  sel : CoilSel
  /-- Tick in which it last moved. -/
  rest : Nat
  park : ParkStep
  /-- Target kept while the servo is in the safe state (R259). -/
  heldTgt : Option Int
  /-- Its demand or target lies beyond a limit (R252). -/
  limited : Bool
  deriving DecidableEq, Repr

/-- An axis after reset. -/
def StepAxis.reset : StepAxis := ⟨0, 0, 0, .off, 0, .none, none, false⟩

/-- STP beyond its registers. -/
structure Steppers where
  axes : List StepAxis
  groups : List StepGroup
  table1 : List Nat
  loadBuf : List Nat
  deriving DecidableEq, Repr

/-- Who drives a voice-coil bridge (R170, R172, R184, R185). -/
inductive BridgeCtl where
  | leng | seq | safe | hold
  deriving DecidableEq, Repr

/-- The groove counter (R160): the last TE sample, the side of the last excursion beyond the band (1, -1, 0 none), the age
of the last zero sample in quarters of 20 ns with its sum test, the running mean of the sum in 2^-20 of 1/16 code. -/
structure Groove where
  te : Int
  side : Int
  zero : Option (Nat × Bool)
  mean : Int
  deriving DecidableEq, Repr

/-- The servo beyond its registers. -/
structure Servo where
  /-- The last 32 trimmed samples of each channel in 1/16 code, newest first; the last code of each channel; samples taken
  since the last boundary (R159). -/
  hist : List (List Int)
  raw : List Int
  taken : Nat
  groove : Groove
  /-- S-curves (R172): the sign of a first lobe that waits for its opposite, 0 none; of the excursion FE1 is in. -/
  lobe : Int
  excur : Int
  /-- Ticks in a row off track, below the focus-loss level, inside the settle window (R172, R182). -/
  offRun : Nat
  lossRun : Nat
  setRun : Nat
  /-- A fault switched the focus bridge off and focus has not been acquired since (R189). -/
  focusLost : Bool
  /-- Who drives bridges 0 to 3. -/
  ctl : List BridgeCtl
  /-- Focus hold value that ACT latched (R184, R211). -/
  latched : Int
  /-- Set-point of the axis bridge in the clock of GO (R172). -/
  base : Int
  /-- Ramp current of a sweep in 2^-24 of range (R173). -/
  ramp : Int
  /-- Captured: the bridge returns at the next boundary that exchanges (R172, R211). -/
  returnDue : Bool
  /-- The brake has started (R172). -/
  braking : Bool
  /-- Tick at which a shock last held (R171). -/
  shockTick : Option Nat
  /-- Interval of the last two counted crossings, and age of the last one in quarters of 20 ns (R160). -/
  lastInt : Nat
  age : Nat
  /-- Causes that have arrived during the present safe state (R183). -/
  arrived : List Nat
  /-- Bridges that drive 0 A while their offset is measured (R300). -/
  meas : List Nat
  deriving DecidableEq, Repr

/-- FMT beyond its registers (R50, R505): the word predicted next, the word that would follow one that differed, and the
disc information captured so far with a mask of the bytes held. -/
structure Fmt where
  pred : Option Nat
  cand : Option Nat
  di : List Nat
  diMask : Nat
  deriving DecidableEq, Repr

/-- A mortar glide channel (R291, R292): it glides; it has yet to take its start; the value CAL last wrote. -/
structure MortarGlide where
  run : Bool
  start : Bool
  last : Word
  deriving DecidableEq, Repr

/-- Where a sweep stands (R302, R303). -/
inductive SweepPhase where
  | idle | moving | edge | settle | dwell | returning
  deriving DecidableEq, Repr

/-- CAL beyond its registers (R287 to R304). -/
structure Cal where
  /-- Fraction of an active value in 1/256, by address of its active register; 0 where unlisted (R288). -/
  frac : List (Nat × Nat)
  glides : List MortarGlide
  phase : SweepPhase
  point : Nat
  /-- Periods left to settle or dwell; sum so far; swept value before GO. -/
  left : Nat
  sum : Nat
  before : Int
  /-- Reference checks in a row within range while REFFLT is set (R294). -/
  refGood : Nat
  /-- Channel the reference converter works on (R298). -/
  refCh : Nat
  /-- Injections taken and their sum, per leg (R299). -/
  inj : List (Nat × Int)
  deriving DecidableEq, Repr

/-- What a read of host memory serves (R319): the entries of a grant, a PRP list of a command, data of a command. -/
inductive ReadFor where
  | sqe (grant : Nat) | prp (seq : Nat) | data (seq : Nat)
  deriving DecidableEq, Repr

/-- A read request of HDMA (R319 to R324): host address, bytes, what it serves and at which offset, its tag while it is
outstanding, the bytes that have arrived, attempts that failed, whether its data was discarded and it waits for
re-issue. -/
structure HostReq where
  addr : Nat
  len : Nat
  what : ReadFor
  off : Nat
  tag : Option Nat
  got : List Nat
  tries : Nat
  marked : Bool
  deriving DecidableEq, Repr

/-- What Linnath sends to the host (R319, R320, R329, R330): data with its Relaxed Ordering bit, a completion entry, an MSI-X
message, a message by name with its contents. -/
inductive Out where
  | data (addr : Nat) (bytes : List Nat) (ro : Bool)
  | cqe (addr : Nat) (bytes : List Nat)
  | msix (addr data : Nat)
  | ltr (snoop : Nat) (noSnoop : Nat)
  | pme | wake | pmeToAck
  deriving DecidableEq, Repr

/-- The endpoint beyond its registers (R311 to R331). -/
structure Pcie where
  reads : List HostReq
  /-- Quarantined tags; true: by a function-level reset, without AER report (R325). -/
  quar : List (Nat × Bool)
  /-- Writes of data that wait while nothing may be issued (R324). -/
  held : List Out
  /-- What was sent, oldest first. -/
  out : List Out
  /-- Tick of an FLR's step 1 (R325). -/
  flrTick : Nat
  /-- A removal policy was applied, from this power state (R327). -/
  policy : Option Nat
  /-- No command for 1 ms (R329). -/
  ltrIdle : Bool
  /-- The unlock mailbox verifies: the result it will give (R318). -/
  unlk : Option Nat
  /-- Tick at which the unlock in force ends (R318). -/
  unlkEnd : Nat
  /-- The scope, 64 bits, and the duration in s that the SUBMIT in work or in force was signed for (R318). -/
  unlkScope : Nat
  unlkDur : Nat
  /-- Bytes read from and written to the host that do not yet fill a unit of 256 (R334). -/
  rdRem : Nat
  wrRem : Nat
  deriving DecidableEq, Repr

/-- A submission queue (R339). -/
structure Sq where
  id : Nat
  base : Nat
  size : Nat
  prio : Nat
  cqid : Nat
  deriving DecidableEq, Repr

/-- A completion queue (R339): its phase bit is the one the next entry takes. -/
structure Cq where
  id : Nat
  base : Nat
  size : Nat
  iv : Nat
  ien : Bool
  phase : Bool
  deriving DecidableEq, Repr

/-- A grant whose entries are being read (R340, R341): first slot, entries, bytes that have arrived by offset. -/
structure Grant where
  id : Nat
  sqid : Nat
  first : Nat
  n : Nat
  got : List (Nat × List Nat)
  deriving DecidableEq, Repr

/-- Where a command in a context stands (R342, R346): accepted, its data or its turn awaited, latched with a commit under
way, its completion ready. -/
inductive CmdPhase where
  | accepted | running | latched | done
  deriving DecidableEq, Repr

/-- A run of blocks a reading command serves (R377, R378): first block, blocks, extent state (0 stands for a hole), strip
and data index of the first block. -/
structure Piece where
  lba : Nat
  len : Nat
  st : Nat
  psa : Nat
  ssec : Nat
  deriving DecidableEq, Repr

/-- A command context (R342). -/
structure Ctx where
  seq : Nat
  sqid : Nat
  cqid : Nat
  cid : Nat
  /-- The 16 words of the entry. -/
  dws : List Word
  phase : CmdPhase
  /-- Status (SCT times 256 plus SC, DNR as bit 14), result word, first block affected. -/
  status : Nat
  dw0 : Nat
  errLba : Nat
  /-- Data pages, once the PRP list has been read in full (R347); list pages yet to come. -/
  pages : List Nat
  prpNext : Option Nat
  /-- Data received of the host, by offset, where it is not staged (R350, R363). -/
  buf : List (Nat × List Nat)
  /-- The map snapshot of a reading command, bricks pinned, blocks delivered (R379). -/
  snap : Option (List Piece)
  pins : List Nat
  sent : List Nat
  /-- Heat and GEN a modifying command writes with (R380); blocks placed: block, strip, sector index. -/
  heat : Nat
  gen : Nat
  placed : List (Nat × Nat × Nat)
  /-- The command waits for merging to make room, and since which tick (R403). -/
  mergeWait : Bool
  mergeAt : Nat
  /-- A corrupt context holds the command (R375). -/
  heldBy : Option Nat
  /-- Step reached by a command that runs in steps (R361, R450). -/
  step : Nat
  deriving DecidableEq, Repr

/-- A log entry of the Error Information page (R347). -/
structure ErrEntry where
  count : Nat
  sqid : Nat
  cid : Nat
  status : Nat
  lba : Nat
  deriving DecidableEq, Repr

/-- A Media Verify (R364, R367): ID, state (0 none, 1 running, 2 done, 3 stopped), strips still to read, strips in all,
verified, of class 2 or 3. -/
structure Verify where
  id : Nat
  st : Nat
  todo : List Nat
  total : Nat
  strips : Nat
  found : Nat
  deriving DecidableEq, Repr

/-- The command queues beyond their registers (R335 to R370). -/
structure HostQueues where
  sqs : List Sq
  cqs : List Cq
  grants : List Grant
  grantNext : Nat
  /-- Last queue served; credits of the three weighted classes (R340). -/
  last : Nat
  credits : List Nat
  ctx : List Ctx
  /-- Asynchronous events that are masked, and those that wait for a request, oldest first: 256 times the row of R358 plus the
  information. -/
  masked : List Nat
  waiting : List Nat
  /-- Ticks at which the last command that counts as outstanding ended (R354) and the keep-alive timer was restarted (R357). -/
  idleAt : Nat
  katoAt : Nat
  /-- Features set, by identifier; the table of feature 0x0C. -/
  feats : List (Nat × Word)
  apst : List Nat
  errLog : List ErrEntry
  errCount : Nat
  /-- Tick of the last recorded violation per kind (R369). -/
  viol : List (Nat × Nat)
  ioMade : Bool
  /-- The last operational power state; a command ends an entry at its next safe point (R353). -/
  oper : Nat
  wanted : Bool
  /-- An upload of firmware has begun since the last commit or reset (R449). -/
  download : Bool
  verify : Verify
  /-- Spindle cap of Disc Control SPIN, 0 none (R361). -/
  spinCap : Nat
  /-- SPIN stopped the spindle: the next I/O command spins it up (R361). -/
  spinOff : Bool
  /-- A shutdown runs: 0 none, 1 commands run to completion, 2 its checkpoint runs (R338). -/
  shut : Nat
  deriving DecidableEq, Repr

/-- A data position of a staging slot (R381): index in the group, logical block, the command or none, whether it is the
first and the last block of its atomic unit, blocks of the unit, whether its data is staged, and for a copy its source
strip and data index (R385). `seqv` is the number its header carries (R30), `heat` and `gen` are the extent's. -/
structure XItem where
  d : Nat
  lba : Nat
  seq : Option Nat
  seqv : Nat
  ufirst : Bool
  ulast : Bool
  ucnt : Nat
  staged : Bool
  src : Option (Nat × Nat)
  heat : Nat
  gen : Nat
  deriving DecidableEq, Repr

/-- What a staging slot holds: data of a stream (0 hot, 1 cold), or a part of a checkpoint or a metadata
brick's descriptor, by sector type (3 META, 5 DESC). -/
inductive SlotKind where
  | stream (k : Nat) | ckpt (stype : Nat)
  deriving DecidableEq, Repr

/-- A slot of a checkpoint. -/
def SlotKind.isCkpt : SlotKind → Bool
  | .ckpt _ => true
  | .stream _ => false

/-- Where a staging slot stands (R381, R382): being filled, waiting to be armed, armed. -/
inductive SlotPhase where
  | filling | waiting | armed
  deriving DecidableEq, Repr

/-- A staging slot that XLT fills (R381, R382). -/
structure XSlot where
  slot : Nat
  kind : SlotKind
  phase : SlotPhase
  /-- Data positions taken. -/
  used : Nat
  items : List XItem
  /-- Brick by number in the brick table and group, once armed. -/
  brick : Option Nat
  group : Nat
  rpln : Nat
  rplc : Bool
  /-- Bricks that took four arms of the slot; times its group ended NOTSTARTED. -/
  bricks : List Nat
  nostart : Nat
  /-- Tick at which its first block was given a place (R381). -/
  since : Nat
  deriving DecidableEq, Repr

/-- What a journal unit belongs to, and so what its durability brings about (R384 to R387). -/
inductive UnitFor where
  | host (seq : Nat) | brick (n st : Nat) | copy | ckpt | seqres (mark : Nat)
  deriving DecidableEq, Repr

/-- The unit reserves numbers (R387): it belongs to the drive, not to a disc. -/
def UnitFor.isSeqres : UnitFor → Bool
  | .seqres _ => true
  | .host _ | .brick _ _ | .copy | .ckpt => false

/-- A unit of the intent journal that is not durable yet (R384): its tag, what it belongs to, its records' bytes 0, 1, 4 to 9
and 16 to 59 still without JSN, whether they were given to FLC. -/
structure JUnit where
  tag : Nat
  what : UnitFor
  recs : List (List Nat)
  given : Bool
  deriving DecidableEq, Repr

/-- A journal sector in use: number 0 to 63, the JSN of its last record (R386). -/
structure JSector where
  sec : Nat
  last : Nat
  deriving DecidableEq, Repr

/-- The intent journal (R383 to R387). -/
structure Journal where
  units : List JUnit
  tagNext : Nat
  jsn : Nat
  held : List JSector
  /-- Next record of the last sector held, 1 to 64. -/
  next : Nat
  /-- Sectors that are not blank. -/
  dirty : List Nat
  deriving DecidableEq, Repr

/-- A checkpoint that runs (R399, R400): generation, whether it is full, META sectors still to stage, groups not yet
accepted, its start (strip 0 of its first group), the first record it does not cover, whether it was asked for as CLEAN,
whether a group of it used up its four arms, so that it moves to another brick, and how many bricks it has lost so (R139). -/
structure Ckpt where
  gen : Nat
  /-- Brick it goes to, by number in the brick table. -/
  brick : Nat
  full : Bool
  sectors : List (List Nat)
  left : Nat
  psa : Nat
  jsn : Nat
  clean : Bool
  moves : Bool
  tries : Nat
  deriving DecidableEq, Repr

/-- A background job of MEDM (R390 to R397, R403): kind as in MEDM_JOB, brick, blocks still to copy (block, strip, data
index), destination groups committed. -/
structure Job where
  kind : Nat
  brick : Nat
  todo : List (Nat × Nat × Nat)
  groups : Nat
  deriving DecidableEq, Repr

/-- A brick reset that runs (R393): brick, segments done, whether firmware asked for it, whether a segment runs now. -/
structure ResetJob where
  brick : Nat
  segs : Nat
  fw : Bool
  running : Bool
  deriving DecidableEq, Repr

/-- Translation and media management beyond their registers and their tables in SRAM (R372 to R404). -/
structure Xlt where
  /-- OPEN brick of the hot and of the cold stream, by number in the brick table. -/
  openBrick : List (Option Nat)
  slots : List XSlot
  jr : Journal
  /-- Leaves changed since the last checkpoint, by FIRST; last full checkpoint's start, deltas since it, next start,
  generation of the last checkpoint. -/
  changed : List Nat
  base : Nat
  deltas : Nat
  nextPsa : Nat
  gen : Nat
  ckpt : Option Ckpt
  /-- A unit was committed since the last checkpoint (R399). -/
  dirty : Bool
  /-- Tick at which the last checkpoint started or the side was mounted (R399). -/
  ckptAt : Nat
  job : Option Job
  reset : Option ResetJob
  /-- Garbage collection goes on until the FREE bricks pass GCHIGH (R390). -/
  gc : Bool
  /-- Strips queued for refresh, true where ahead of garbage collection (R397); bricks to be emptied for retirement
  (R395). -/
  refresh : List (Nat × Bool)
  retire : List Nat
  /-- Class-2 and class-3 strips found, by brick: the counts log page 0xC1 reports apart (R389). -/
  cls2 : List Nat
  cls3 : List Nat
  /-- Pins whose command latched, failed or was abandoned (R379): command, bricks. -/
  unpin : List (Nat × List Nat)
  /-- UUID, side and parameters of the mounted side: 16 bytes, side, RW, RSTRATE, spares held at manufacture. -/
  uuid : List Nat
  side : Nat
  rw : Bool
  rstRate : Nat
  spares0 : Nat
  /-- A warm reset has reset XLT with a side mounted: it goes on once its table bases are set again (R343, R482). -/
  remount : Bool
  /-- Layers of a VAD-WO side whose test groups are used up (R47). -/
  noTests : List Nat
  deriving DecidableEq, Repr

/-- One line of L2 (R424, R425): set, way, line address, whether dirty, its words (0 to 7) that are
uncorrectable. -/
structure L2Line where
  set : Nat
  way : Nat
  line : Nat
  dirty : Bool
  bad : List Nat
  data : BitVec 512
  deriving DecidableEq, Repr

/-- The SRAM codes, the access tables' log and L2 beyond the registers (R415 to R433). -/
structure MemSys where
  /-- Uncorrectable words: byte address of the 64-bit word and the mask of flipped bits; `mem` holds what was stored
  (R415, R419). -/
  ueWords : List (Nat × Nat)
  /-- Words with one wrong bit, by byte address (R415). -/
  ceWords : List Nat
  /-- Regions whose page code is being computed (R417). -/
  ppPending : List Nat
  /-- Regions whose page code is complete (R417). -/
  ppDone : List Nat
  /-- Uncorrectable words a macro returned within the present second, per macro (R421). -/
  macUe : List (Nat × Nat)
  /-- Tick of the last refusal recorded per master (R432). -/
  aclRec : List (Nat × Nat)
  l2 : List L2Line
  /-- Round-robin pointers that are not 0, per set (R425). -/
  l2rr : List (Nat × Nat)
  /-- A maintenance operation runs (R427); a drain runs (R429). -/
  mopRun : Bool
  drain : Bool
  deriving DecidableEq, Repr

/-- What the cells of a flash word hold (R439, R440): all erased; programmed once; programmed twice; data programmed and
no state bit (torn); a program cut short that no check matches. -/
inductive FlashWord where
  | erased | once (d : BitVec 64) | twice (d : BitVec 64) | torn | spoilt
  deriving DecidableEq, Repr

/-- A program or erase asked of FLC (R441): the port that asks (0 registers, 1 XLT, 2 EVR), whether it is an erase, its
byte offset from 0x0800_0000, the words of a program, and the asker's own tag. -/
structure FlashReq where
  port : Nat
  erase : Bool
  addr : Nat
  words : List (BitVec 64)
  tag : Nat
  deriving DecidableEq, Repr

/-- An operation of a bank: what was asked, the tick it started at, the word index of its intent (R445). -/
structure FlashOp where
  req : FlashReq
  start : Nat
  slot : Nat
  /-- Tick of its start or last resume (R442). -/
  since : Nat
  deriving DecidableEq, Repr

/-- A flash bank (R438 to R446). -/
structure FlashBank where
  /-- The running operation and the suspended erase (R444). -/
  op : Option FlashOp
  susp : Option FlashOp
  /-- A SUSPEND was accepted and has not taken effect; EVR asked for it, so EVR resumes the erase (R444, R467). -/
  suspReq : Bool
  auto : Bool
  /-- Requests of the internal ports that wait, oldest first (R441). -/
  waiting : List FlashReq
  /-- Bad sectors of the bank, by number within the bank; the bank has failed; ticks of its last uncorrectable reads
  (R446). -/
  bad : List Nat
  failed : Bool
  ueTicks : List Nat
  /-- Erase count; which of the two intent sectors is active (R445). -/
  eseq : Nat
  active : Nat
  deriving DecidableEq, Repr

/-- The scan of the intent sectors after a reset (R445). -/
inductive ScanPhase where
  | due | running | done
  deriving DecidableEq, Repr

/-- A read of flash that waits for its bank: master, address, bytes, and the words the read finds wrong (true:
uncorrectable) (R443). -/
structure FlashRead where
  master : Master
  addr : Nat
  len : Nat
  errs : List (Nat × Bool)
  deriving DecidableEq, Repr

/-- Embedded flash beyond FLC's registers. -/
structure Flash where
  /-- Words by number from 0x0800_0000; unlisted ones are erased. -/
  words : List (Nat × FlashWord)
  /-- Sectors whose erase a reset cut short, by number from 0x0800_0000. -/
  half : List Nat
  banks : List FlashBank
  scan : ScanPhase
  reads : List FlashRead
  /-- Requests of the internal ports that ended: port, tag, whether they verified. -/
  ended : List (Nat × Nat × Bool)
  deriving DecidableEq, Repr

/-- A word of the option area: its contents and how often it was programmed. -/
structure OptWord where
  v : BitVec 64
  n : Nat
  deriving DecidableEq, Repr

/-- The option area beyond OPT's registers (R451 to R453). -/
structure Opt where
  /-- Words; unlisted ones are erased. -/
  words : List (Nat × OptWord)
  /-- The shadow, as loaded at the last reset. -/
  shadow : List (Nat × BitVec 64)
  /-- The word being programmed and its new contents. -/
  prog : Option (Nat × BitVec 64)
  /-- Block and digest that SEC authorised (R464). -/
  auth : Option (Nat × BitVec 256)
  /-- Tick at which AUTH was set (R453). -/
  authAt : Nat
  deriving DecidableEq, Repr

/-- A record that EVR has stamped and that waits for flash (R465, R467): sequence number, severity, its 60 bytes before
the check or the ring entry that holds them, whether a capture takes it. -/
structure EvRec where
  seq : Nat
  sev : Nat
  body : List Nat
  ring : Option Nat
  capt : Bool
  deriving DecidableEq, Repr

/-- An entry of the pre-failure ring (R471): slot, sequence number, severity, where its record reached flash (0 nowhere,
1 the permanent area, 2 a ring). -/
structure PfrEntry where
  slot : Nat
  seq : Nat
  sev : Nat
  loc : Nat
  deriving DecidableEq, Repr

/-- A ring sector that holds records: its number in the ring, records in it, first and last sequence number (R469). -/
structure RingSec where
  sec : Nat
  n : Nat
  first : Nat
  last : Nat
  deriving DecidableEq, Repr

/-- The event recorder beyond its registers (R465 to R473). -/
structure Evr where
  /-- Reports of the blocks that EVR has not taken in yet. -/
  outbox : List Report
  /-- Records for flash, oldest first (R467). -/
  queue : List EvRec
  /-- Where the first of them is being programmed: (0, slot) of the permanent area or (1, ring sector). -/
  issued : Option (Nat × Nat)
  /-- Records that have yet to enter the pre-failure ring, for lack of rights (R467). -/
  ringWait : List EvRec
  /-- Reports lost since the last 0x1E12 record (R467). -/
  lost : Nat
  /-- A firmware record that waits: its writer, and its bytes once they could be read (R467). -/
  fw : Option (Master × Option (List Nat))
  /-- Entries of the pre-failure ring, and the base they stand at. -/
  pfr : List PfrEntry
  pfrBase : Nat
  /-- Ring sectors that hold records, oldest first; WRAP of the last header (R469). -/
  held : List RingSec
  wrap : Nat
  /-- The next record opens a new sector (R472). -/
  openNew : Bool
  /-- Next word of the clear-count log, 0 to 1,023 (R472). -/
  clrPos : Nat
  /-- Ring sectors that are not held and not blank: to be erased once EVR has its rights (R473). -/
  stale : List Nat
  /-- A clear that a reset cut before its new sector was opened: the count it makes (R473). -/
  clrBoot : Option Nat
  deriving DecidableEq, Repr

/-- An operation SEC runs for its register interface (R475): its code, the result, step, and what it delivers. -/
structure SecOp where
  op : Nat
  res : Nat
  step : Nat
  out : List Nat
  deriving DecidableEq, Repr

/-- A challenge slot (R459): the challenge, the tick it was drawn at, none once spent. -/
structure Challenge where
  bytes : List Nat
  drawn : Option Nat
  deriving DecidableEq, Repr

/-- SEC beyond its registers (R457 to R464). -/
structure Sec where
  run : Option SecOp
  /-- Slots 0 BAR2 unlock, 1 recorder clear, 2 option update. -/
  chal : List Challenge
  /-- Challenges drawn since reset. -/
  ctr : Nat
  /-- Owner-clear record whose programming a CLEAR waits for (R472). -/
  waitSeq : Option Nat
  /-- GEN and FWREV of the booted image (R463). -/
  gen : Nat
  fwrev : List Nat
  deriving DecidableEq, Repr


/-- The state of the part. `regs` holds every register by its byte address (see Machine/Regs.lean; the configuration
space, BAR0, the BAR2 mailbox and the core CSRs stand above 2^32); an unlisted one reads as its reset value. -/
structure State where
  /-- Which of the two parts this is (R1); no command changes it. -/
  variant : Variant
  regs : List (Nat × Word)
  /-- STAT and IRQ_RAW of the data path's pages as the supervisor last got them, at a tick boundary (R4). -/
  supStat : List (Nat × Word)
  /-- Write-once registers already written (R18). -/
  rwoDone : List Nat
  /-- Read-only registers a write to which was recorded, with the tick of the record (R18). -/
  roRecs : List (Nat × Nat)
  /-- Latched high words per master and register (R497). -/
  latches : List (Nat × Nat × Word)
  resp : Resp
  /-- SRAM, supervisor memory: byte address and byte; unlisted bytes read 0. -/
  mem : List Host.Cell
  /-- The model's own counter of free values taken so far (never the spec's). -/
  fresh : Nat
  /-- Ticks since power-on reset was released (R4, R504). -/
  ticks : Nat
  boot : Boot
  /-- Harts 0 to 3 (command cores) and 4 (supervisor pair). -/
  harts : List Hart
  pwr : Pwr
  leng : Leng
  rd : ReadPath
  wenc : WritePath
  spn : Spn
  stp : Steppers
  fmt : Fmt
  sv : Servo
  cal : Cal
  pcie : Pcie
  hq : HostQueues
  xlt : Xlt
  ms : MemSys
  flash : Flash
  opt : Opt
  evr : Evr
  sec : Sec
  /-- The commands that wait, first in, first out. -/
  pending : List Instr
  deriving DecidableEq, Repr

/-- The machine right after power-on reset is released (R477, R498): rails up, every register at its reset value. FLC's
scan is due (R445); OPT_SEL, the subsystem IDs and SEC's identity-key bit hold what the option area of a part as
manufactured gives (R312, R452, R458); EVR's positions are those of blank flash (R469). -/
def State.reset : State where
  variant := .ln7740
  regs := [(0x4001A068, 0xFFFFFFFF#32), (0x4001F008, 0x402#32), (0x40020040, 0x3F3#32), (0x40021008, 0x102#32),
           (0x40022058, 0x08750040#32), (0x4002205C, 0x08750040#32), (0x20000002C, 0xFFFFFFFF#32),
           (0x20000014C, 0xFFFFFFFF#32), (0x200000150, 0xFFFFFFFF#32)]
  supStat := []
  rwoDone := []
  roRecs := []
  latches := []
  resp := ⟨0, false⟩
  mem := []
  fresh := 0
  ticks := 0
  boot := ⟨.released, 0, none, false, false, false, false, [0, 0, 0, 0, 0], 0⟩
  harts := List.replicate 5 ⟨false, 0, false, none, 0x7FFFFFFFFFFFFFFF, false, none, [], [], []⟩
  pwr := ⟨false, false, none, none, false, false, false, 0, 0, false⟩
  leng := { words := [], faults := [], out := List.replicate 10 0#32, outNew := List.replicate 10 0#32, vdqNew := false, fhold := 0#32,
            progs := [], check := none, actSwap := false, overran := none, rest := none, stall := 0, upd := [], late := false, ovrTicks := [], ovrWin := none,
            ovrSince := 0, trace := List.replicate 8 ⟨0, none, []⟩, supOut := false }
  rd := { lanes := List.replicate 4
            { pga := 24, hpf := 1, nextSlot := 0, swapDue := none, retirePend := [], sparePick := none, marker := false,
              reacqLeft := 0, locked := false, outRun := 0, faultCleared := false, firstAcq := true, frames := [], group := 0,
              expect := (128, 0), buf := [], xs := [], dec := [], last8 := [], prev := none, gainFrac := 0, tapFrac := [],
              phase := 0, freq := 0, fast := 0, stopped := false, pay := [] },
          ring := [], ringSeen := none,
          plan := [⟨0, true, true⟩, ⟨1, true, true⟩, ⟨2, true, true⟩, ⟨3, true, true⟩], tiles := none, rfq := (0, 0),
          xtFrac := List.replicate 4 (List.replicate 6 0), dfo := none, dsa := 0,
          hintRaw := [[], [], [], []], hintMean := [0, 0, 0, 0], work := [],
          groups := [], cws := [], evicted := [], ageNext := 0, toXlt := [] }
  wenc := { arms := [], held := [], lastPsa := none, lastOff := 0, emit := [], written := [], gate := false,
            setMask := List.replicate 12 0, loadBuf := [], loadAt := (0, 0), graded := [], heldRecs := [], verdictArms := [], toXlt := [], fifo := [], wsgCmds := [],
            rsp := [], hdlSlot := 0, lastCmd := none, lastFromFifo := false, nbrick := [] }
  spn := { since := 0, setEff := 0, keep := false, vd := 0, vq := 0, ang := 0, dth := 0, age := 0, got := false, cur := (0, 0),
           vPrev := (0, 0), vCur := (0, 0), vNext := (0, 0), dPrev := [0, 0, 0], dCur := [0, 0, 0], dNext := [0, 0, 0],
           pred := false, recon := false, skips := 0, capNext := false, cap := false, vlim := false, ilim := false, mean := 0, lower := false,
           wraps := 0, theta := 0, runAge := 0, syncIq := 0, zvBack := false, lockRun := 0, lostRun := 0,
           calm := 0, lowRun := 0, vins := [], lossTick := none, trips := [],
           offPeriod := none, spdIn := 0, spdFil := 0 }
  stp := { axes := List.replicate 3 StepAxis.reset, groups := List.replicate 2 ⟨[], none⟩,
           table1 := List.replicate 257 0, loadBuf := [] }
  fmt := { pred := none, cand := none, di := List.replicate 512 0, diMask := 0 }
  sv := { hist := List.replicate 32 [], raw := List.replicate 32 0, taken := 0, groove := ⟨0, 0, none, 0⟩, lobe := 0, excur := 0,
          offRun := 0, lossRun := 0, setRun := 0, focusLost := false, ctl := List.replicate 4 .leng, latched := 0, base := 0, ramp := 0, returnDue := false, braking := false,
          shockTick := none, lastInt := 65535, age := 262140, arrived := [], meas := [] }
  cal := { frac := [], glides := List.replicate 10 ⟨false, false, 0#32⟩, phase := .idle, point := 0, left := 0, sum := 0,
           before := 0, refGood := 0, refCh := 0, inj := List.replicate 3 (0, 0) }
  pcie := { reads := [], quar := [], held := [], out := [], flrTick := 0, policy := none, ltrIdle := false, unlk := none, unlkEnd := 0,
            unlkScope := 0, unlkDur := 0, rdRem := 0, wrRem := 0 }
  hq := { sqs := [], cqs := [], grants := [], grantNext := 0, last := 0, credits := [0, 0, 0], ctx := [], masked := [], waiting := [], idleAt := 0, katoAt := 0, feats := [],
          apst := [], errLog := [], errCount := 0, viol := [], ioMade := false, oper := 0, wanted := false, download := false,
          verify := ⟨0, 0, [], 0, 0, 0⟩, spinCap := 0, spinOff := false, shut := 0 }
  xlt := { openBrick := [none, none], slots := [], jr := ⟨[], 1, 0, [], 64, []⟩, changed := [], base := 0, deltas := 0, nextPsa := 0,
           gen := 0, ckpt := none, dirty := false, ckptAt := 0, job := none, reset := none, gc := false, refresh := [], retire := [], cls2 := [], cls3 := [], unpin := [],
           uuid := List.replicate 16 0, side := 0, rw := false, rstRate := 0, spares0 := 0, remount := false, noTests := [] }
  ms := ⟨[], [], [], [], [], [], [], [], false, false⟩
  flash := { words := [], half := [],
             banks := List.replicate 2 ⟨none, none, false, false, [], [], false, [], 0, 0⟩,
             scan := .due, reads := [], ended := [] }
  opt := { words := [(0, ⟨0x4C4E4F500001FFFF#64, 1⟩), (63, ⟨0xFFFFFFFF5548B715#64, 1⟩)],
           shadow := [(0, 0x4C4E4F500001FFFF#64), (63, 0xFFFFFFFF5548B715#64)], prog := none, auth := none, authAt := 0 }
  evr := { outbox := [], queue := [], issued := none, ringWait := [], lost := 0, fw := none, pfr := [], pfrBase := 0, held := [],
           wrap := 0, openNew := false, clrPos := 0, stale := [], clrBoot := none }
  sec := { run := none, chal := List.replicate 3 ⟨List.replicate 32 0, none⟩, ctr := 0, waitSeq := none, gen := 0,
           fwrev := List.replicate 8 0 }
  pending := []

end Sys2Proof.Machine
end

