-- ==== Sys2Proof/Machine/Ops.lean ====
section
/-! DEFINITION. The named operations over the register file, the storage and the reports that every block shares. -/
namespace Sys2Proof.Machine

/-! ## Register file -/

/-- A register page stands at this address (R495, R496). -/
def isPage (a : Nat) : Bool := decide (0x40000000 ≤ a) && decide (a < 0x40029000)

/-- The page an address lies in (R495). -/
def pageOf (a : Nat) : Nat := (a - 0x40000000) / 0x1000

/-- The row of a list of descriptors an offset falls under. -/
def findDesc : List RegDesc → Nat → Option RegDesc
  | [], _ => none
  | d :: t, off =>
    if d.off ≤ off ∧ (off - d.off) % d.stride = 0 ∧ (off - d.off) / d.stride < d.n then some d else findDesc t off

/-- The descriptor of the own register at an address, none where the page defines none. -/
def descOf (a : Nat) : Option RegDesc := if isPage a then findDesc (pageTable (pageOf a)) (a % 0x1000) else none

/-- The register instances the LN7720 lacks: read lanes 2 and 3 and what serves only them (R1, R2). -/
def absentOn20 (a : Nat) : Bool :=
  let p := pageOf a
  let off := a % 0x1000
  (isPage a) && ((p == 0x0C || p == 0x0D) ||
    (p == 0x0E && decide (0x100 ≤ off) && decide (off < 0x180)) ||
    (p == 0x0F && decide (0x140 ≤ off) && decide (off < 0x1C0)))

/-- An access to a part that this variant lacks (R2). -/
def absentPart (v : Variant) (a : Nat) : Bool := v == .ln7720 && absentOn20 a

/-- Reset values outside the register pages: BAR0 (CAP, VS, R335), configuration space (R312, R313, R314), core CSRs. -/
def hostReset (v : Variant) (a : Nat) : Word :=
  match a with
  | 0x100000000 => 0x01030FFF#32
  | 0x100000004 => 0x00000020#32
  | 0x100000008 => 0x00020000#32
  | 0x200000000 => if v = .ln7740 then 0x77401F6C#32 else 0x77201F6C#32
  | 0x200000004 => 0x00100000#32
  | 0x200000008 => 0x01080201#32
  | 0x200000034 => 0x00000040#32
  | 0x200000010 => 0x00000004#32
  | 0x200000018 => 0x00000004#32
  | 0x20000003C => 0x00000100#32
  | 0x200000040 => 0xC8035001#32
  | 0x200000044 => 0x00000008#32
  | 0x200000050 => 0x00406011#32
  | 0x200000054 => 0x00002000#32
  | 0x200000058 => 0x00003000#32
  | 0x200000060 => 0x00020010#32
  | 0x200000064 => 0x10008D22#32
  | 0x200000068 => 0x00002910#32
  | 0x20000006C => 0x00064C25#32
  | 0x200000084 => 0x0003080F#32
  | 0x20000008C => 0x0000003E#32
  | 0x200000090 => 0x00000005#32
  | 0x200000100 => 0x14820001#32
  | 0x200000108 => 0x00400000#32
  | 0x20000010C => 0x00462030#32
  | 0x200000114 => 0x00006000#32
  | 0x200000148 => 0x15810003#32
  | 0x200000158 => 0x16010018#32
  | 0x200000160 => 0x1701001E#32
  | 0x200000164 => 0x00211E1F#32
  | 0x20000016C => 0x00000028#32
  | 0x200000170 => 0x18810019#32
  | 0x200000188 => 0x19810025#32
  | 0x20000018C => 0x80000001#32
  | 0x200000198 => 0x1C810026#32
  | 0x2000001C8 => 0x1F81002A#32
  | 0x2000001F8 => 0x00010027#32
  | 0x200000200 => 0x00009C38#32
  | 0x200000204 => 0x00009C38#32
  | _ => if 0x100002000 ≤ a ∧ a < 0x100002410 ∧ a % 16 = 12 then 1#32 else 0#32

/-- What a register holds after reset (R498 and the block's table); an absent part holds its ID and 0 elsewhere (R2). -/
def regReset (v : Variant) (a : Nat) : Word :=
  if isPage a then
    let p := pageOf a
    let off := a % 0x1000
    if off = 0 then Word.ofNat (0x4C000100 + p * 0x10000)
    else if absentPart v a then 0#32
    else if off = 4 then (if p = 1 then 1#32 else 0#32)
    else if off = 8 then 2#32
    else match findDesc (pageTable p) off with
      | some d => Word.ofNat (match v with | .ln7740 => d.reset40 | .ln7720 => d.reset20)
      | none => 0#32
  else hostReset v a

/-- The contents of a register. -/
def State.reg (s : State) (a : Nat) : Word := SMap.get (regReset s.variant) s.regs a

/-- The state with a register's contents replaced. -/
def State.setReg (s : State) (a : Nat) (w : Word) : State :=
  { s with regs := SMap.set (regReset s.variant) s.regs a w }

/-- Bits [lo+w-1:lo] of a word. -/
def fieldOf (x : Word) (lo w : Nat) : Nat := x.toNat / 2 ^ lo % 2 ^ w

/-- A two's complement number of width `w`. -/
def signedOf (w n : Nat) : Int := if n < 2 ^ (w - 1) then (n : Int) else (n : Int) - (2 ^ w : Nat)

/-- The bits of an integer in width `w`. -/
def bitsOf (w : Nat) (i : Int) : Nat := (i % ((2 ^ w : Nat) : Int)).toNat

/-- A word with bits [lo+w-1:lo] replaced. -/
def putField (x : Word) (lo w v : Nat) : Word :=
  Word.ofNat (x.toNat % 2 ^ lo + (v % 2 ^ w) * 2 ^ lo + x.toNat / 2 ^ (lo + w) * 2 ^ (lo + w))

/-- A field of a register as a number. -/
def State.fld (s : State) (a lo w : Nat) : Nat := fieldOf (s.reg a) lo w

/-- A field of a register as a signed number. -/
def State.sfld (s : State) (a lo w : Nat) : Int := signedOf w (s.fld a lo w)

/-- A bit of a register. -/
def State.bit (s : State) (a i : Nat) : Bool := s.fld a i 1 == 1

/-- Writes a field of a register. -/
def State.setFld (s : State) (a lo w v : Nat) : State := s.setReg a (putField (s.reg a) lo w v)

/-- Writes a signed field of a register. -/
def State.setSfld (s : State) (a lo w : Nat) (v : Int) : State := s.setFld a lo w (bitsOf w v)

/-- Writes a bit of a register. -/
def State.setBit (s : State) (a i : Nat) (b : Bool) : State := s.setFld a i 1 b.toNat

/-- Adds to a counter field that saturates at its largest value. -/
def State.addSat (s : State) (a lo w n : Nat) : State := s.setFld a lo w (min (s.fld a lo w + n) (2 ^ w - 1))

/-- Adds to a counter field modulo its width. -/
def State.addMod (s : State) (a lo w n : Nat) : State := s.setFld a lo w (s.fld a lo w + n)

/-- Puts the registers that `p` holds of back to their reset values. -/
def State.dropRegs (s : State) (p : Nat → Bool) : State := { s with regs := SMap.drop p s.regs }

/-! ## Interrupts, errors, reports -/

/-- R500: IRQ_STAT takes IRQ_STAT or (IRQ_RAW and IRQ_EN). -/
def State.settleIrq (s : State) (p : Nat) : State :=
  s.setReg (Reg.IRQ_STAT p) (s.reg (Reg.IRQ_STAT p) ||| (s.reg (Reg.IRQ_RAW p) &&& s.reg (Reg.IRQ_EN p)))

/-- An event sets bits of a page's IRQ_RAW (R500). -/
def State.raiseMask (s : State) (p mask : Nat) : State :=
  (s.setReg (Reg.IRQ_RAW p) (s.reg (Reg.IRQ_RAW p) ||| Word.ofNat mask)).settleIrq p

/-- An event sets one bit of a page's IRQ_RAW (R500). -/
def State.raise (s : State) (p bit : Nat) : State := s.raiseMask p (2 ^ bit)

/-- An error is reported in ERR_INFO: the first one's code and source stay, the count saturates (R501). -/
def State.err (s : State) (p code src : Nat) : State :=
  let a := Reg.ERR_INFO p
  if s.fld a 24 8 = 0 then s.setReg a (Word.ofNat (code % 65536 + src % 256 * 65536 + 16777216))
  else s.addSat a 24 8 1

/-- Severity of a block report by its code (R466). -/
def reportSev (code : Nat) : Nat :=
  if code % 256 = 1 then 1
  else if code ∈ [0x0006, 0x0302, 0x0B03, 0x0B04, 0x0D04, 0x1606, 0x1802, 0x1803, 0x1B05] then 5
  else if 0x0F02 ≤ code ∧ code ≤ 0x0F06 then 5
  else if 0x1102 ≤ code ∧ code ≤ 0x1105 then 5
  else 3

/-- The bytes of a number, least significant first. -/
def bytesLE : Nat → Nat → List Nat
  | 0, _ => []
  | n + 1, v => v % 256 :: bytesLE n (v / 256)

/-- A block's report to the event recorder: its code, the block's ERR_INFO as it stands, then the quantities of the
reporting rule, 32-bit ones in one word (R466, R531). -/
def State.report (s : State) (p code master : Nat) (qty : List Nat) : State :=
  { s with evr := { s.evr with outbox := s.evr.outbox ++
      [⟨code, master, true, reportSev code, bytesLE 4 (s.reg (Reg.ERR_INFO p)).toNat ++ qty.flatMap (bytesLE 4)⟩] } }

/-- A quantity wider than 32 bits takes two words, low word first (R531). -/
def twoWords (v : Nat) : List Nat := [v % 4294967296, v / 4294967296]

/-- The high byte of a page's error codes: its refused-write code ends in 01. -/
def errBase (p : Nat) : Nat :=
  match p with
  | 0x00 => 0x2100 | 0x01 => 0x0C00 | 0x02 => 0x1100 | 0x03 => 0x0F00 | 0x04 => 0x1000 | 0x05 => 0x0B00
  | 0x06 => 0x0A00 | 0x07 => 0x0D00 | 0x08 => 0x0E00 | 0x09 => 0x0800 | 0x0A => 0x0000 | 0x0B => 0x0000
  | 0x0C => 0x0000 | 0x0D => 0x0000 | 0x0E => 0x0100 | 0x0F => 0x0200 | 0x10 => 0x0300 | 0x11 => 0x0400
  | 0x12 => 0x0500 | 0x13 => 0x0600 | 0x14 => 0x0700 | 0x15 => 0x1200 | 0x16 => 0x2500 | 0x17 => 0x1600
  | 0x18 => 0x1700 | 0x19 => 0x1500 | 0x1A => 0x1300 | 0x1B => 0x1400 | 0x1C => 0x1800 | 0x1D => 0x1900
  | 0x1E => 0x1A00 | 0x1F => 0x1B00 | 0x20 => 0x1C00 | 0x21 => 0x1D00 | 0x22 => 0x1E00 | 0x23 => 0x1F00
  | 0x24 => 0x2000 | 0x25 => 0x2200 | 0x26 => 0x2300 | 0x27 => 0x2400 | 0x28 => 0x0900 | _ => 0

/-- A write is refused with the page's code xx01 and the writing master's ID (R14, R502). -/
def State.refuse (s : State) (p : Nat) (m : Master) : State := s.err p (errBase p + 1) m.id

/-- A page's sequencers are frozen (R499). -/
def State.frozen (s : State) (p : Nat) : Bool := s.bit (Reg.CTRL p) 2

/-- A command of a frozen block has no effect: its sequencers and counters stand still (R499). -/
def State.unlessFrozen (s : State) (p : Nat) (f : State → State) : State := if s.frozen p then s else f s

/-! ## Byte storage -/

/-- SRAM (R495). -/
def inSram (a : Nat) : Bool := decide (0x10000000 ≤ a) && decide (a < 0x12800000)

/-- A range of bytes wholly inside SRAM. -/
def sramRange (a n : Nat) : Bool := decide (0x10000000 ≤ a) && decide (a + n ≤ 0x12800000)

/-- An SRAM or supervisor memory byte that nothing has written reads 0: MEMC zeroes SRAM at reset (R422). -/
def memByte (_ : Nat) : Byte := 0#8

/-- One byte of SRAM or supervisor memory. -/
def State.byte (s : State) (a : Nat) : Byte := SMap.get memByte s.mem a

/-- Writes one byte. -/
def State.setByte (s : State) (a : Nat) (b : Byte) : State := { s with mem := SMap.set memByte s.mem a b }

/-- `n` bytes from `a` on. -/
def State.bytes (s : State) (a : Nat) : Nat → List Nat
  | 0 => []
  | n + 1 => (s.byte a).toNat :: s.bytes (a + 1) n

/-- Writes bytes from `a` on. -/
def State.setBytes (s : State) (a : Nat) : List Nat → State
  | [] => s
  | b :: t => (s.setByte a (BitVec.ofNat 8 b)).setBytes (a + 1) t

/-- The number a list of bytes spells, least significant first. -/
def leNat : List Nat → Nat
  | [] => 0
  | b :: t => b % 256 + 256 * leNat t

/-- A little-endian number of `n` bytes in memory. -/
def State.load (s : State) (a n : Nat) : Nat := leNat (s.bytes a n)

/-- Stores a little-endian number of `n` bytes. -/
def State.store (s : State) (a n v : Nat) : State := s.setBytes a (bytesLE n v)

/-! ## Other storages -/

/-- An unlisted mortar word is 0 (R194). -/
def mortWord (_ : Nat) : Word := 0#32

/-- An unlisted flash word is erased. -/
def flashErased (_ : Nat) : FlashWord := .erased

/-- An unlisted option word is erased. -/
def optErased (_ : Nat) : OptWord := ⟨BitVec.allOnes 64, 0⟩
/-- An unlisted shadow word reads ones. -/
def shadowOnes (_ : Nat) : BitVec 64 := BitVec.allOnes 64

/-! ## Time -/

/-- Microseconds since power-on reset was released (R465): 625 ns a tick. -/
def State.timeUs (s : State) : Nat := s.ticks * 5 / 8

/-- mtime: counts at 25 MHz from the release of power-on reset (R504). -/
def State.mtime (s : State) : Nat := s.ticks * 125 / 8 % 2 ^ 63

/-- Ticks of one second (R4). -/
def ticksPerSecond : Nat := 1600000

/-! ## What a command leaves -/

/-- The registers that hold for ever what they hold at reset: every page's ID (R498) and the parts a variant lacks (R2). -/
def hardWired (v : Variant) (a : Nat) : Bool := isPage a && (a % 0x1000 == 0 || absentPart v a)

/-- The register file in canonical form, without entries for hard-wired registers. -/
def tidyRegs (v : Variant) (m : List (Nat × Word)) : List (Nat × Word) :=
  SMap.tidy (regReset v) (SMap.drop (hardWired v) m)

/-- Every sparse storage of the state in its canonical form. -/
def State.tidy (s : State) : State :=
  { s with
    regs := tidyRegs s.variant s.regs
    mem := SMap.tidy memByte s.mem
    leng := { s.leng with words := SMap.tidy mortWord s.leng.words }
    flash := { s.flash with words := SMap.tidy flashErased s.flash.words }
    opt := { s.opt with words := SMap.tidy optErased s.opt.words, shadow := SMap.tidy shadowOnes s.opt.shadow } }

/-- The outcome of a command on `s` whose effect is `t`: the next state. No command changes which part this is or the queue
of commands that wait, and every storage is in canonical form. -/
def done (s t : State) : Host.Outcome State Fault Refusal := .next { t with variant := s.variant, pending := s.pending }.tidy

end Sys2Proof.Machine
end

