-- ==== Sys2Proof/Machine/Acl.lean ====
section
/-! DEFINITION. The access tables (R430 to R433): which access a master may make, and what a refusal leaves. -/
namespace Sys2Proof.Machine

/-- What an access does. -/
inductive AccKind where
  | read | write | exec
  deriving DecidableEq, Repr

/-- The code of an access kind in ACL_LOG (R432). -/
def AccKind.code : AccKind → Nat
  | .read => 0 | .write => 1 | .exec => 2

/-- DBG's rights read 0 while the debug lock of the option area is set (R431), and it has no access to the system bus unless
DBG_CFG.SYSBUS allows it (R508). -/
def dbgMasked (s : State) (m : Master) : Bool := m == .dbg && (s.bit Reg.OPT_SEL 12 || !s.bit Reg.DBG_CFG 2)

/-- Whether one enabled window holds the address and grants the access (R430, R431). -/
def windowGrants (s : State) (tbl k : Nat) (m : Master) (a : Nat) (x : AccKind) : Bool :=
  let b := tbl + 0x40 * k
  s.bit b 0 && decide (s.fld b 12 20 ≤ a / 4096) && decide (a / 4096 ≤ s.fld (b + 4) 12 20) &&
  match x with
  | .read => s.bit (b + 8) m.id
  | .write => s.bit (b + 8) (16 + m.id)
  | .exec => s.bit (b + 12) m.id

/-- The rights at an address are the union of its windows' (R430). -/
def windowsGrant (s : State) (tbl n : Nat) (m : Master) (a : Nat) (x : AccKind) : Bool :=
  !dbgMasked s m && (List.range n).any (fun k => windowGrants s tbl k m a x)

/-- SRAM windows. -/
def sramGrants (s : State) (m : Master) (a : Nat) (x : AccKind) : Bool :=
  windowsGrant s (Reg.ACL_SRAM_BASE 0) 8 m a x

/-- Flash windows. -/
def flashGrants (s : State) (m : Master) (a : Nat) (x : AccKind) : Bool :=
  windowsGrant s (Reg.ACL_FLASH_BASE 0) 8 m a x

/-- Mortar windows, third port. -/
def mortarGrants (s : State) (m : Master) (a : Nat) (x : AccKind) : Bool :=
  windowsGrant s (Reg.ACL_MORT_BASE 0) 4 m a x

/-- The page mask: W in [31:16], R in [15:0] (R431). -/
def pageGrants (s : State) (m : Master) (p : Nat) (x : AccKind) : Bool :=
  !dbgMasked s m && match x with
    | .read => s.bit (Reg.ACL_PAGE p) m.id
    | .write => s.bit (Reg.ACL_PAGE p) (16 + m.id)
    | .exec => false

/-- The tick stored for a key of an association list. -/
def lastTick (l : List (Nat × Nat)) (k : Nat) : Option Nat := (l.find? (fun p => p.1 == k)).map (·.2)

/-- At most one record a second per key: none yet, or a second has passed. -/
def secondPassed (l : List (Nat × Nat)) (k now : Nat) : Bool :=
  match lastTick l k with
  | none => true
  | some t => decide (t + ticksPerSecond ≤ now)

/-- The association list with one key's tick replaced. -/
def setTick (l : List (Nat × Nat)) (k now : Nat) : List (Nat × Nat) := (k, now) :: l.filter (fun p => p.1 != k)

/-- R432: a refused access is logged, counted, and recorded at most once per second per master. -/
def aclRefuse (s : State) (m : Master) (a target : Nat) (x : AccKind) : State :=
  let i := s.fld Reg.ACL_LOGIDX 0 3
  let s := (s.err 0x1E 0x1A02 m.id).raise 0x1E 0
  let s := s.setReg (Reg.ACL_LOG_ADDR i) (Word.ofNat a)
  let s := s.setReg (Reg.ACL_LOG_SRC i) (Word.ofNat (m.id + target * 16 + x.code * 64))
  let s := s.setFld Reg.ACL_LOGIDX 0 3 (i + 1)
  let s := s.addSat Reg.ACL_CNT 0 16 1
  if secondPassed s.ms.aclRec m.id s.ticks then
    { s.report 0x1E 0x1A02 m.id [] with ms := { s.ms with aclRec := setTick s.ms.aclRec m.id s.ticks } }
  else s

end Sys2Proof.Machine
end

