-- ==== Sys2Proof/Machine/Bus.lean ====
section
/-! DEFINITION. SRAM as a master sees it: access tables, word checks, mirrors, failed macros, injection (R415 to R421,
R430 to R432). -/
namespace Sys2Proof.Machine

/-- The macro an SRAM address lies in: ten of 4 MiB (R421). -/
def macroOf (a : Nat) : Nat := (a - 0x10000000) / 0x400000

/-- The macro of an address has failed (R421). -/
def macroFailed (s : State) (a : Nat) : Bool := s.bit Reg.MEMC_MACFAIL (macroOf a)

/-- Mirror instance `k` is enabled and its primary (or secondary) range holds the address (R420). -/
def mirrorHolds (s : State) (k base a : Nat) : Bool :=
  let b := (s.reg base).toNat / 4096 * 4096
  s.bit (Reg.MEMC_MIR_CFG k) 0 && decide (b ≤ a) && decide (a < b + s.fld (Reg.MEMC_MIR_SIZE k) 0 12 * 4096)

/-- The copy of a primary address in its mirror's secondary range (R420). -/
def mirrorOf (s : State) (a : Nat) : Option Nat :=
  (List.range 4).findSome? (fun k =>
    if mirrorHolds s k (Reg.MEMC_MIR_PRI k) a then
      some (a - (s.reg (Reg.MEMC_MIR_PRI k)).toNat / 4096 * 4096 + (s.reg (Reg.MEMC_MIR_SEC k)).toNat / 4096 * 4096)
    else none)

/-- An address of an enabled mirror's secondary range (R420). -/
def inSecondary (s : State) (a : Nat) : Bool :=
  (List.range 4).any (fun k => mirrorHolds s k (Reg.MEMC_MIR_SEC k) a)

/-- The flipped bits of a word, 0 where it is sound. -/
def ueMask (s : State) (w : Nat) : Nat := ((s.ms.ueWords.find? (fun p => p.1 == w)).map (·.2)).getD 0

/-- The word is uncorrectable by its own check (R415). -/
def isUe (s : State) (w : Nat) : Bool := s.ms.ueWords.any (fun p => p.1 == w)

/-- The 1 MiB region of an SRAM address. -/
def regionOf (a : Nat) : Nat := (a - 0x10000000) / 0x100000

/-- The page code repairs the word: its region's code is complete and its page has at most four flagged words (R416). -/
def pageRepairs (s : State) (w : Nat) : Bool :=
  s.ms.ppDone.contains (regionOf w) &&
  decide ((s.ms.ueWords.filter (fun p => p.1 / 4096 == w / 4096)).length ≤ 4)

/-- The state with words taken off the uncorrectable list. -/
def dropUe (s : State) (p : Nat → Bool) : State :=
  { s with ms := { s.ms with ueWords := s.ms.ueWords.filter (fun q => !p q.1) } }

/-- R421: a macro fails. -/
def failMacro (s : State) (k : Nat) : State :=
  let s := ((s.setBit Reg.MEMC_MACFAIL k true).raise 0x1C 2).err 0x1C 0x1803 k
  s.report 0x1C 0x1803 k []

/-- R419, R421: MEMC could not repair a word it read for a master. -/
def noteUe (s : State) (m : Master) (w : Nat) : State :=
  let s := ((s.setReg Reg.MEMC_ERRADDR (Word.ofNat w)).setReg Reg.MEMC_ERRSRC (Word.ofNat m.id)).addSat Reg.MEMC_UECNT 0 16 1
  let s := (s.raise 0x1C 1).err 0x1C 0x1802 m.id
  let s := s.report 0x1C 0x1802 m.id []
  let k := macroOf w
  let ue := (k, s.ticks) :: s.ms.macUe.filter (fun p => decide (s.ticks < p.2 + ticksPerSecond))
  let s := { s with ms := { s.ms with macUe := ue } }
  if s.fld Reg.MEMC_CFG 8 4 ≤ (ue.filter (fun p => p.1 == k)).length ∧ !macroFailed s w then failMacro s k else s

/-- A single-bit error is corrected and counted, and written back where WB is 1 (R415). -/
def correctWord (s : State) (w : Nat) : State :=
  let s := (s.addSat Reg.MEMC_CECNT 0 16 1).raise 0x1C 0
  if s.bit Reg.MEMC_CFG 0 then { s with ms := { s.ms with ceWords := s.ms.ceWords.filter (· != w) } } else s

/-- A copy of eight bytes from one word to another. -/
def copyWord (s : State) (src dst : Nat) : State := s.setBytes dst (s.bytes src 8)

/-- What MEMC does as it reads one aligned word for a master: whether the response is an error (R415, R416, R419 to
R421). -/
def readWord (s : State) (m : Master) (w : Nat) : Bool × State :=
  if macroFailed s w then
    match mirrorOf s w with
    | some w' => if isUe s w' then (true, noteUe s m w') else (false, s)
    | none => (true, s)
  else if isUe s w then
    match mirrorOf s w with
    | some w' =>
      if !isUe s w' && !macroFailed s w' then (false, dropUe (copyWord s w' w) (· == w))
      else if pageRepairs s w then (false, dropUe ((s.addSat Reg.MEMC_CECNT 16 16 1).raise 0x1C 0) (fun x => x / 4096 == w / 4096))
      else (true, noteUe s m w)
    | none =>
      if pageRepairs s w then (false, dropUe ((s.addSat Reg.MEMC_CECNT 16 16 1).raise 0x1C 0) (fun x => x / 4096 == w / 4096))
      else (true, noteUe s m w)
  else if s.ms.ceWords.contains w then (false, correctWord s w)
  else (false, s)

/-- The aligned words a range touches. -/
def wordsOf (a n : Nat) : List Nat := (List.range ((a + n + 7) / 8 - a / 8)).map (fun i => (a / 8 + i) * 8)

/-- Reads every word of a range: whether any answered with an error. -/
def readWords (m : Master) : List Nat → State → Bool × State
  | [], s => (false, s)
  | w :: t, s =>
    let r := readWord s m w
    let q := readWords m t r.2
    (r.1 || q.1, q.2)

/-- One byte as it is returned: raw where its word is uncorrectable, from the surviving copy or 0 where its macro has
failed (R419, R421). -/
def returnedByte (s : State) (b : Nat) : Nat :=
  if macroFailed s b then
    match mirrorOf s b with
    | some b' => (s.byte b').toNat
    | none => 0
  else (s.byte b).toNat ^^^ (ueMask s (b / 8 * 8) / 256 ^ (b % 8) % 256)

/-- A master reads SRAM: the bytes, whether the response is an error, and the state after. A refused read returns 0
with no error (R432). -/
def memRead (s : State) (m : Master) (a n : Nat) : List Nat × Bool × State :=
  if !sramGrants s m a .read then (List.replicate n 0, false, aclRefuse s m a 0 .read)
  else
    let r := readWords m (wordsOf a n) s
    ((List.range n).map (fun i => returnedByte r.2 (a + i)), r.1, r.2)

/-- R435: an armed injection flips bits of the word at its next write. -/
def injectAt (s : State) (w : Nat) : State :=
  if s.bit Reg.MEMC_INJ 16 ∧ (s.reg Reg.MEMC_INJ_ADDR).toNat / 8 * 8 = w then
    let x := s.fld Reg.MEMC_INJ 0 7
    let y := s.fld Reg.MEMC_INJ 8 7
    let bits := if x = y then [] else [x, y].filter (fun b => decide (b < 72))
    let s := s.setBit Reg.MEMC_INJ 16 false
    match bits with
    | [] => s
    | [_] => { s with ms := { s.ms with ceWords := w :: s.ms.ceWords.filter (· != w) } }
    | _ => { s with ms := { s.ms with
        ueWords := (w, (bits.map (fun b => 2 ^ b)).sum) :: s.ms.ueWords.filter (fun p => p.1 != w) } }
  else s

/-- A write of bytes that lie in one aligned word, to one copy. A whole word replaces its check; a narrower write to an
uncorrectable word is not made (R418, R419). -/
def writeWordCopy (s : State) (m : Master) (a : Nat) (bs : List Nat) : State :=
  let w := a / 8 * 8
  if macroFailed s w then s
  else if bs.length = 8 then
    let s := dropUe (s.setBytes a bs) (· == w)
    injectAt { s with ms := { s.ms with ceWords := s.ms.ceWords.filter (· != w) } } w
  else
    let r := readWord s m w
    if r.1 then r.2 else
      let s := r.2.setBytes a bs
      injectAt { s with ms := { s.ms with ceWords := s.ms.ceWords.filter (· != w) } } w

/-- A write within one aligned word: both copies of a mirror; a write to a secondary range is dropped (R420). -/
def writeWord (s : State) (m : Master) (a : Nat) (bs : List Nat) : State :=
  if inSecondary s a then s.err 0x1C 0x1804 m.id
  else match mirrorOf s a with
    | some a' => writeWordCopy (writeWordCopy s m a bs) m a' bs
    | none => writeWordCopy s m a bs

/-- Splits bytes at word bounds and writes them; `fuel` bounds the words. -/
def writeWords (m : Master) : Nat → Nat → List Nat → State → State
  | 0, _, _, s => s
  | f + 1, a, bs, s =>
    if bs.isEmpty then s
    else
      let k := 8 - a % 8
      writeWords m f (a + k) (bs.drop k) (writeWord s m a (bs.take k))

/-- A master writes SRAM; a refused write is dropped (R432). -/
def memWrite (s : State) (m : Master) (a : Nat) (bs : List Nat) : State :=
  if !sramGrants s m a .write then aclRefuse s m a 0 .write
  else writeWords m (bs.length + 1) a bs s

end Sys2Proof.Machine
end

