-- ==== Sys2Proof/Machine/MortOps.lean ====
section
/-! DEFINITION. Mortar words, their checks, and the heads and triggers of the trace channels (R193 to R195, R214 to
R217). -/
namespace Sys2Proof.Machine

/-- Replaces the loop engine's own state. -/
def State.setL (s : State) (l : Leng) : State := { s with leng := l }

/-- Bank Y is live (R219). -/
def bankY (s : State) : Bool := s.bit Reg.LENG_SHADOW 16

/-- The physical word a mortar address names: bank F, the live one of X and Y, the shadow (R193's table). -/
def mortPhys (s : State) (a : Nat) : Nat :=
  if a < 0x400 then a
  else if a < 0x800 then (if bankY s then 2048 else 1024) + (a - 0x400)
  else (if bankY s then 1024 else 2048) + (a - 0x800)

/-- The stored contents of a mortar word. -/
def State.mort (s : State) (a : Nat) : Word := SMap.get mortWord s.leng.words (mortPhys s a)

/-- Wrong bits of a word: none where it is sound. -/
def mortMask (s : State) (a : Nat) : Nat :=
  ((s.leng.faults.find? (fun f => f.1 == mortPhys s a)).map (·.2.1)).getD 0

/-- Number of set bits of a 39-bit mask. -/
def popcount39 (m : Nat) : Nat := ((List.range 39).filter (fun i => m.testBit i)).length

/-- A word that needs correction, or that is uncorrectable (R194). -/
def mortCe (s : State) (a : Nat) : Bool := popcount39 (mortMask s a) == 1
def mortUe (s : State) (a : Nat) : Bool := decide (2 ≤ popcount39 (mortMask s a))

/-- Writes a mortar word with a fresh check: a transient error is gone, a faulty cell stays (R194). -/
def State.setMort (s : State) (a : Nat) (v : Word) : State :=
  let p := mortPhys s a
  s.setL { s.leng with
    words := SMap.set mortWord s.leng.words p v
    faults := s.leng.faults.filter (fun f => f.1 != p || f.2.2) }

/-- The word is the target of an enabled route: every other write to it is dropped (R213). -/
def routeOwns (s : State) (a : Nat) : Bool :=
  (List.range 2).any (fun r => s.bit (Reg.LENG_EXT_CFG r) 0 && s.fld (Reg.LENG_EXT_CFG r) 16 12 == a)

/-- A write of a mortar word by any writer but a route (R213). -/
def State.putMort (s : State) (a : Nat) (v : Word) : State := if routeOwns s a then s else s.setMort a v

/-- A mortar word as a signed number. -/
def State.mortInt (s : State) (a : Nat) : Int := signedOf 32 (s.mort a).toNat

/-- A signed number as a mortar word, saturated to 32 bits. -/
def sat32 (x : Int) : Int := max (-2147483648) (min 2147483647 x)

/-- The word of a signed number. -/
def wordOfInt (x : Int) : Word := Word.ofNat (bitsOf 32 x)

/-- The present tick's count, low word (R195). -/
def tickw (s : State) : Word := Word.ofNat s.ticks

/-! ## Trace -/

/-- A word of a channel's head (R215). -/
def trcHead (c k : Nat) : Nat := 0x40 + 4 * c + k

/-- A trace channel is enabled. -/
def trcOn (s : State) (c : Nat) : Bool := s.bit (Reg.TRC_CH_CFG c) 0

/-- A flag of a channel's head: 0 ARMED, 1 TRIGGERED, 2 DONE (R215). -/
def trcFlag (s : State) (c i : Nat) : Bool := fieldOf (s.mort (trcHead c 3)) i 1 == 1

/-- Replaces a trace channel's own state. -/
def State.setTrc (s : State) (c : Nat) (t : TraceCh) : State := s.setL { s.leng with trace := s.leng.trace.set c t }

/-- A channel's own state. -/
def State.trc (s : State) (c : Nat) : TraceCh := s.leng.trace.getD c ⟨0, none, []⟩

/-- A channel ends: DONE is set and it stops (R216). -/
def trcEnd (s : State) (c : Nat) : State :=
  let s := s.setMort (trcHead c 3) (s.mort (trcHead c 3) ||| 4#32)
  (s.setBit Reg.TRC_DONE c true).raise 0x08 1

/-- Samples a channel has written, as its head counts them. -/
def trcWidx (s : State) (c : Nat) : Nat := (s.mort (trcHead c 0)).toNat

/-- One channel triggers (R216): its trigger sample is the one just captured where `got` holds, else the next it captures;
POST more follow. -/
def trcTrigger1 (s : State) (c : Nat) (got : Bool) : State :=
  if trcOn s c && trcFlag s c 0 && !trcFlag s c 1 then
    let s := s.setMort (trcHead c 1) (Word.ofNat (if got then trcWidx s c + 4294967295 else trcWidx s c))
    let s := s.setMort (trcHead c 2) (tickw s)
    let s := (s.setMort (trcHead c 3) (s.mort (trcHead c 3) ||| 2#32)).raise 0x08 0
    let post := s.fld (Reg.TRC_CH_POST c) 0 18
    s.setTrc c { s.trc c with post := if got then post else post + 1 }
  else s

/-- A channel triggers and with it, where it is linked, every linked channel (R216); `got` are the channels that have
captured a sample at this boundary. -/
def trcTrigger (got : List Nat) (s : State) (c : Nat) : State :=
  let linked := s.bit (Reg.TRC_CH_CFG c) 1 && trcOn s c && trcFlag s c 0 && !trcFlag s c 1
  let s := trcTrigger1 s c (got.contains c)
  if linked then
    ((List.range 8).filter (fun k => k != c && s.bit (Reg.TRC_CH_CFG k) 1)).foldl (fun s k => trcTrigger1 s k (got.contains k)) s
  else s

/-- An event triggers the channels whose source it is: 2 WINH trip, 3 safe state, 4 overrun, 5 swap (R216). -/
def trcEvent (s : State) (src : Nat) : State :=
  ((List.range 8).filter (fun c => s.fld (Reg.TRC_CH_TRIG c) 0 3 == src)).foldl (trcTrigger []) s

end Sys2Proof.Machine
end

