-- ==== Sys2Proof/Machine/LengStage.lean ====
section
/-! DEFINITION. The stages of the loop engine (R197 to R200, R228): descriptors, the arithmetic, one stage's run. -/
namespace Sys2Proof.Machine

/-- Page of LENG. -/
abbrev pgLENG : Nat := 0x07

/-- A stage descriptor (R197). -/
structure StageDesc where
  ty : Nat
  cmode : Nat
  inA : Nat
  out : Nat
  cmask : Nat
  inB : Nat
  inC : Nat
  ffidx : Nat
  selsh : Nat
  pbase : Nat
  ff : Nat
  d3 : Word
  deriving DecidableEq, Repr

/-- The fields of the four words of a descriptor. -/
def StageDesc.ofWords (d0 d1 d2 d3 : Word) : StageDesc where
  ty := fieldOf d0 28 4
  cmode := fieldOf d0 26 2
  inA := fieldOf d0 12 12
  out := fieldOf d0 0 12
  cmask := fieldOf d1 24 8
  inB := fieldOf d1 12 12
  inC := fieldOf d1 0 12
  ffidx := fieldOf d2 28 4
  selsh := fieldOf d2 24 4
  pbase := fieldOf d2 12 12
  ff := fieldOf d2 0 12
  d3 := d3

/-- Coefficients, states and clocks of a stage type (R199). -/
def stageCoefs (ty : Nat) : Nat := [1, 3, 3, 3, 5, 4, 2, 2, 2, 8].getD ty 0
def stageStates (ty : Nat) : Nat := [0, 0, 1, 2, 4, 4, 0, 1, 0, 16].getD ty 0
def stageBase (ty : Nat) : Nat := [4, 5, 6, 6, 8, 8, 4, 5, 4, 28].getD ty 0

/-- Words of a stage's parameter block (R199). -/
def stageWords (ty : Nat) : Nat := stageCoefs ty + stageStates ty

/-- The stage has a feed-forward word (R197). -/
def StageDesc.hasFf (d : StageDesc) : Bool := !(d.ffidx == 0 && d.ff == 0xFFF)

/-- Clocks of a stage: a direct feed-forward adds 1, an indexed one 2 (R199). -/
def StageDesc.clocks (d : StageDesc) : Nat :=
  stageBase d.ty + (if d.hasFf then (if d.ffidx = 0 then 1 else 2) else 0)

/-- Inputs that a type uses: A, B, C (R199, R228). -/
def StageDesc.inputs (d : StageDesc) : List Nat :=
  match d.ty with
  | 1 => [d.inA, d.inB, d.inC]
  | 2 => [d.inA, d.inB]
  | 8 => [d.inA, d.inB, d.inC]
  | 9 => [d.inA, d.inA + 1, d.inB, d.inB + 1]
  | _ => [d.inA]

/-! ## Arithmetic -/

/-- The accumulator's unit 2^-46 rounded to a signal (R200). -/
def rndA (a : Int) : Int := (a + 16384) / 32768

/-- A signal's product with coefficient slot `i` in the accumulator's unit; discarded bits are floored (R200). -/
def coefMul (d : StageDesc) (c : List Int) (i : Nat) (x : Int) : Int :=
  x * c.getD i 0 / ((2 ^ (16 - fieldOf d.d3 (4 * i) 4) : Nat) : Int)

/-- A number held between two limits. -/
def clampInt (lo hi x : Int) : Int := max lo (min hi x)

/-- Result before feed-forward, not yet saturated, and new states of the types GAIN to SELECT (R199). -/
def stageFormula (d : StageDesc) (c st : List Int) (a b x : Int) : Int × List Int :=
  let p := coefMul d c
  let k := fun i => c.getD i 0
  let z := fun i => st.getD i 0
  match d.ty with
  | 0 => (rndA (p 0 a), [])
  | 1 => (rndA (p 0 a + p 1 b + p 2 x), [])
  | 2 =>
    let lim := max (k 2) 0 * 32768
    let i := sat32 (rndA (clampInt (-lim) lim (z 0 * 32768 + p 1 (a - b))))
    (rndA (p 0 (a - b) + i * 32768), [i])
  | 3 =>
    let y := rndA (p 0 a + p 1 (z 0) - p 2 (z 1))
    (y, [a, sat32 y])
  | 4 =>
    let y := rndA (p 0 a + p 1 (z 0) + p 2 (z 1) - p 3 (z 2) - p 4 (z 3))
    (y, [a, z 0, sat32 y, z 2])
  | 5 =>
    let y := rndA (p 0 a + p 1 (z 0) + p 0 (z 1) - p 2 (z 2) - p 3 (z 3))
    (y, [a, z 0, sat32 y, z 2])
  | 6 => (clampInt (k 1) (k 0) a, [])
  | 7 =>
    let y := z 0 + clampInt (-(k 1)) (k 0) (a - z 0)
    (y, [sat32 y])
  | 8 => (rndA (if (bitsOf 32 x).testBit d.selsh then p 1 b else p 0 a), [])
  | _ => (0, [])

/-! ## Reading as LENG reads -/

/-- LENG at work on a tick: the state, the clocks used with stalls, the uncorrectable word that stopped it (R194, R212). -/
structure LRun where
  s : State
  clk : Nat
  stop : Option Nat

/-- LENG reads a word: a correction stalls it for 4 clocks and is counted, an uncorrectable word stops it (R194). -/
def LRun.rd (r : LRun) (a : Nat) : Int × LRun :=
  if r.stop.isSome then (0, r)
  else if mortUe r.s a then (0, { r with stop := some a })
  else if mortCe r.s a then
    let s := ((r.s.addSat Reg.LENG_MERR 0 16 1).setFld Reg.LENG_MERR 16 12 a).raise pgLENG 5
    (r.s.mortInt a, { r with s := s, clk := r.clk + 4 })
  else (r.s.mortInt a, r)

/-- LENG reads words in turn. -/
def LRun.rds : LRun → List Nat → List Int × LRun
  | r, [] => ([], r)
  | r, a :: t =>
    let x := r.rd a
    let q := x.2.rds t
    (x.1 :: q.1, q.2)

/-- An input of a stage: 0xFFE the previous stage's result, 0xFFF zero. -/
def LRun.input (r : LRun) (prev : Int) (a : Nat) : Int × LRun :=
  if a = 0xFFE then (prev, r) else if a = 0xFFF then (0, r) else r.rd a

/-- A written word goes to its consumer: output words and the spindle's VD and VQ (R191, R231), the focus hold word (R196). -/
def copyOut (s : State) (a : Nat) (w : Word) : State :=
  let i := if 0x28 ≤ a ∧ a < 0x30 then some (a - 0x28) else if a = 0x70 then some 8 else if a = 0x71 then some 9 else none
  let s := match i with
    | some i => s.setL { s.leng with outNew := s.leng.outNew.set i w, vdqNew := s.leng.vdqNew || decide (8 ≤ i) }
    | none => s
  if s.fld Reg.LENG_FHOLD 0 12 = a then s.setL { s.leng with fhold := w } else s

/-- A stage writes a word, a result or a state: its consumers take a copy; 0xFFF stores nothing and a route's target keeps
its value (R191, R195, R196, R213). -/
def storeWord (s : State) (a : Nat) (v : Int) : State :=
  if a = 0xFFF ∨ routeOwns s a then s else copyOut (s.setMort a (wordOfInt v)) a (wordOfInt v)

/-- Stores words in turn from one on. -/
def storeStates : State → Nat → List Int → State
  | s, _, [] => s
  | s, a, v :: t => storeStates (storeWord s a v) (a + 1) t

/-! ## The observer -/

/-- Sine and cosine of an angle from a 512-word table with linear interpolation, rounded (R228). -/
def LRun.sincos (r : LRun) (tab ang : Nat) : Int × Int × LRun :=
  let k := ang / 8388608 % 512
  let f : Int := ang % 8388608
  let w := fun i => tab + (k + i) % 512
  let q := r.rds [w 0, w 1, w 128, w 129]
  let lin := fun i j => (q.1.getD i 0 * 8388608 + (q.1.getD j 0 - q.1.getD i 0) * f + 4194304) / 8388608
  (sat32 (lin 0 1), sat32 (lin 2 3), q.2)

/-- The exact square root rounded to the nearest step, a half step up (R228). -/
def sqrtRound (x : Nat) : Nat := let r := Nat.sqrt x; if r * r + r < x then r + 1 else r

/-- The exact quotient rounded, a half step up, saturated to ±1; a quotient of 0 by 0 is `free` (R228). -/
def divRound (n : Int) (m : Int) (free : Int) : Int :=
  if m ≤ 0 then free else sat32 ((2 * n + m) / (2 * m))

/-- An angle modulo 2^32. -/
def wrap32 (x : Int) : Int := x % 4294967296

/-- What one run of the observer gives (R228): THETA, OMEGA, ID, IQ and the states s0 to s7. -/
structure ObsOut where
  outs : List Int
  states : List Int

/-- One run of an OBSERVER stage (R228). -/
def observerRun (r : LRun) (d : StageDesc) (c st : List Int) (va0 : List Int) (free : Int) : ObsOut × LRun :=
  let p := coefMul d c
  let z := fun i => st.getD i 0
  let fl := r.rds [0x65, 0x67]
  let flags := bitsOf 32 (fl.1.getD 0 0)
  let fang := bitsOf 32 (fl.1.getD 1 0)
  let st1 := fun a => sat32 (rndA a)
  let ia := if flags.testBit 0 then z 0 else va0.getD 0 0
  let ib := if flags.testBit 0 then z 1 else va0.getD 1 0
  let va := va0.getD 2 0
  let vb := va0.getD 3 0
  let ra := sat32 (ia - z 0)
  let rb := sat32 (ib - z 1)
  let ea := st1 (z 2 * 32768 + p 3 ra)
  let eb := st1 (z 3 * 32768 + p 3 rb)
  let iah := st1 (ia * 32768 + p 0 (va - ea) - p 1 ia + p 2 ra)
  let ibh := st1 (ib * 32768 + p 0 (vb - eb) - p 1 ib + p 2 rb)
  let mag : Int := sat32 (sqrtRound (ea * ea + eb * eb).toNat)
  let th0 := bitsOf 32 (z 4)
  let sc := fl.2.sincos d.inC th0
  let err := divRound (-(ea * sc.2.1 + eb * sc.1)) (max mag (c.getD 7 0)) free
  let dth := st1 (z 5 * 32768 + p 5 err)
  let th := (wrap32 (rndA (th0 * 32768 + dth * 32768 + p 4 err))).toNat
  let use := if flags.testBit 4 then fang else th
  let su := sc.2.2.sincos d.inC use
  let omega := st1 (p 6 dth)
  let id := sat32 ((ia * su.2.1 + ib * su.1 + 1073741824) / 2147483648)
  let iq := sat32 ((-ia * su.1 + ib * su.2.1 + 1073741824) / 2147483648)
  (⟨[use, omega, id, iq], [iah, ibh, ea, eb, th, dth, err, mag]⟩, su.2.2)

/-! ## One stage -/

/-- The free values of an observer run: eight working words s8 to s15 (R228). -/
def obsWorking (s : State) : List Int := (List.range 8).map (fun i => signedOf 32 (Config.obsWork (s.fresh + i)).toNat)

/-- Runs a stage whose CMODE acts as `act` (0 none) with its result `y` before feed-forward, and the new states; gives the
stored result (R198, R199). -/
def finishStage (r : LRun) (d : StageDesc) (act : Nat) (ff y : Int) (new : List Int) : Int × LRun :=
  let v := if act = 3 then 0 else sat32 (y + ff)
  let new := if act = 3 then List.replicate (stageStates d.ty) 0 else new
  let s := if act = 1 then r.s else storeStates r.s (d.pbase + stageCoefs d.ty) new
  (v, { r with s := storeWord s d.out v })

/-- Runs one stage: what it passes on as 0xFFE (R198). HOLD computes and writes nothing. -/
def runStage (r : LRun) (cond : Nat) (prev : Int) (d : StageDesc) : Int × LRun :=
  let act := if cond &&& d.cmask ≠ 0 then d.cmode else 0
  let r := { r with clk := r.clk + d.clocks }
  if act = 2 then r.input 0 d.out
  else
    let c := r.rds ((List.range (stageCoefs d.ty)).map (d.pbase + ·))
    let z := c.2.rds ((List.range (min 8 (stageStates d.ty))).map (d.pbase + stageCoefs d.ty + ·))
    let a := z.2.input prev d.inA
    if d.ty = 9 then
      let a1 := a.2.input prev (d.inA + 1)
      let b := a1.2.input prev d.inB
      let b1 := b.2.input prev (d.inB + 1)
      let free := signedOf 32 (Config.obsErr b1.2.s.fresh).toNat
      let o := observerRun b1.2 d c.1 z.1 [a.1, a1.1, b.1, b1.1] free
      if o.2.stop.isSome then (0, o.2)
      else
        let s := o.2.s
        let work := obsWorking { s with fresh := s.fresh + 1 }
        let s := { s with fresh := s.fresh + 9 }
        let outs := if act = 3 then [0, 0, 0, 0] else o.1.outs
        let new := if act = 3 then List.replicate 16 0 else o.1.states ++ work
        let s := if act = 1 then s else storeStates s (d.pbase + 8) new
        let s := storeStates s d.out outs
        (outs.getD 0 0, { o.2 with s := s })
    else
      let b := if d.inputs.length ≥ 2 then a.2.input prev d.inB else (0, a.2)
      let x := if d.inputs.length ≥ 3 then b.2.input prev d.inC else (0, b.2)
      let f :=
        if !d.hasFf then ((0 : Int), x.2)
        else if d.ffidx = 0 then x.2.input prev d.ff
        else
          let ang := x.2.rd 0x25
          ang.2.rd (d.ff + bitsOf 32 ang.1 / 2 ^ (32 - d.ffidx))
      if f.2.stop.isSome then (0, f.2)
      else
        let y := stageFormula d c.1 z.1 a.1 b.1 x.1
        finishStage f.2 d act f.1 y.1 y.2

/-- A stage's descriptor, read as one aligned quad. -/
def LRun.desc (r : LRun) (a : Nat) : StageDesc × LRun :=
  let w := r.rds [a, a + 1, a + 2, a + 3]
  let g := fun i => wordOfInt (w.1.getD i 0)
  (StageDesc.ofWords (g 0) (g 1) (g 2) (g 3), w.2)

/-- Runs the stages of a program in order (R198); a stop ends the run, and so does a stage that would not end within `lim`
clocks: what is left is given with its first descriptor and the result passed to it (R209). -/
def runStages (cond lim : Nat) : Nat → Nat → Int → LRun → (Nat × Nat × Int) × LRun
  | 0, a, prev, r => ((0, a, prev), r)
  | n + 1, a, prev, r =>
    if lim ≤ r.clk then ((n + 1, a, prev), r)
    else
      let d := r.desc a
      if d.2.stop.isSome then ((n + 1, a, prev), d.2)
      else
        let q := runStage d.2 cond prev d.1
        if q.2.stop.isSome then ((n + 1, a, prev), q.2)
        else if lim < q.2.clk then ((n + 1, a, prev), r)
        else runStages cond lim n (a + 4) q.1 q.2

end Sys2Proof.Machine
end

