-- ==== Sys2Proof/Machine/StepOps.lean ====
section
/-! DEFINITION. Stepper motion (R247 to R262): path profiles, joints, follow and target motion, stop and park. -/
namespace Sys2Proof.Machine

/-- Page of STP. -/
abbrev pgSTP : Nat := 0x04

/-- Replaces the steppers' own state. -/
def State.setSt (s : State) (x : Steppers) : State := { s with stp := x }

/-- One second is this many ticks; a tick in seconds. -/
def tickSec : Rat := 1 / 1600000

/-- Unit of positions and velocities: 24 fraction bits (R251). -/
def fracUnit : Nat := 2 ^ 24

/-- Square root of a non-negative rational, rounded down at 24 fraction bits. -/
def ratSqrt (x : Rat) : Rat := (Nat.sqrt (x * (2 ^ 48 : Nat)).floor.toNat : Rat) / (2 ^ 24 : Nat)

/-! ## Axes -/

/-- An axis. -/
def State.axis (s : State) (a : Nat) : StepAxis := s.stp.axes.getD a StepAxis.reset
/-- A group. -/
def State.grp (s : State) (g : Nat) : StepGroup := s.stp.groups.getD g ⟨[], none⟩
/-- Replaces a group. -/
def State.setGrp (s : State) (g : Nat) (x : StepGroup) : State := s.setSt { s.stp with groups := s.stp.groups.set g x }

/-- Mode, group and limits of an axis. -/
def axMode (s : State) (a : Nat) : Nat := s.fld (Reg.STP_AX_CFG a) 0 2
def axGrp (s : State) (a : Nat) : Nat := s.fld (Reg.STP_AX_CFG a) 4 1
def axMin (s : State) (a : Nat) : Int := s.sfld (Reg.STP_AX_LMIN a) 0 28
def axMax (s : State) (a : Nat) : Int := s.sfld (Reg.STP_AX_LMAX a) 0 28
def axVmax (s : State) (a : Nat) : Nat := s.fld (Reg.STP_AX_VMAX a) 0 19
def axAmax (s : State) (a : Nat) : Nat := s.fld (Reg.STP_AX_AMAX a) 0 16 * 1000

/-- Replaces an axis; its position, velocity and address registers follow (R250). -/
def State.setAxis (s : State) (a : Nat) (x : StepAxis) : State :=
  let s := s.setSt { s.stp with axes := s.stp.axes.set a x }
  let p := x.pos / (fracUnit : Int)
  let s := s.setReg (Reg.STP_AX_POS a) (Word.ofNat (bitsOf 28 p))
  let s := s.setReg (Reg.STP_AX_VEL a) (Word.ofNat (bitsOf 20 (x.vel / (fracUnit : Int))))
  s.setReg (Reg.STP_AX_ADDR a) (Word.ofNat (((p + x.phofs) % 1024).toNat))

/-- An axis in whole microsteps. -/
def axP (s : State) (a : Nat) : Int := (s.axis a).pos / (fracUnit : Int)

/-- The axis is at standstill: velocity 0, and in QUEUE its group's queue is empty and idle (R253). -/
def standstill (s : State) (a : Nat) : Bool :=
  let g := s.grp (axGrp s a)
  (s.axis a).vel == 0 && (axMode s a != 1 || (g.queue.isEmpty && g.run.isNone))

/-- The demand or the target of an axis comes to lie beyond a limit, or within again: LIMIT is set as it comes to (R252). -/
def limitIf (s : State) (a : Nat) (b : Bool) : State :=
  let x := s.axis a
  let s := if b && !x.limited then (s.raise pgSTP 2).err pgSTP 0x1003 a else s
  s.setAxis a { x with limited := b }

/-- The axis is in QUEUE and belongs to the group (R252). -/
def inGroup (s : State) (g a : Nat) : Bool := axMode s a == 1 && axGrp s a == g

/-- A number of microsteps in 24 fraction bits. -/
def toUnits (n : Int) : Int := n * (fracUnit : Int)

/-- A position that does not leave the limits: an axis outside them never goes further out (R251). -/
def bounded (s : State) (a : Nat) (now next : Int) : Int :=
  max (min (toUnits (axMin s a)) now) (min (max (toUnits (axMax s a)) now) next)

/-- Moves an axis in a tick to a position, with a velocity; one held back at a limit stands (R251). -/
def moveAxis (s : State) (a : Nat) (v : Int) (pos : Int) : State :=
  let x := s.axis a
  let p := bounded s a x.pos pos
  let v := if p = pos then v else 0
  s.setAxis a { x with pos := p, vel := v, rest := if x.vel = 0 ∧ v = 0 ∧ p = x.pos then x.rest else s.ticks }

/-- The current an axis carries from now on. -/
def setSel (s : State) (a : Nat) (c : CoilSel) : State :=
  let x := s.axis a
  if x.sel = c then s else s.setAxis a { x with sel := c }

/-- Current while an axis moves: IRUN (R262). -/
def runCurrent (s : State) (a : Nat) : State := if (s.axis a).vel = 0 then s else setSel s a .run

/-! ## Coil currents -/

/-- Table 0: 1,023 times the sine of k / 256 of a quarter turn, rounded (R248). -/
def quarterTable : List Nat :=
  [0, 6, 13, 19, 25, 31, 38, 44, 50, 56, 63, 69, 75, 82, 88, 94, 100, 107, 113, 119, 125, 131, 138, 144, 150, 156, 163, 169, 175, 181, 187, 193] ++
  [200, 206, 212, 218, 224, 230, 236, 242, 249, 255, 261, 267, 273, 279, 285, 291, 297, 303, 309, 315, 321, 327, 333, 339, 345, 351, 356, 362, 368, 374, 380, 386] ++
  [391, 397, 403, 409, 415, 420, 426, 432, 437, 443, 449, 454, 460, 466, 471, 477, 482, 488, 493, 499, 504, 510, 515, 521, 526, 531, 537, 542, 547, 553, 558, 563] ++
  [568, 574, 579, 584, 589, 594, 599, 604, 609, 614, 619, 624, 629, 634, 639, 644, 649, 654, 659, 663, 668, 673, 678, 682, 687, 692, 696, 701, 705, 710, 714, 719] ++
  [723, 728, 732, 737, 741, 745, 750, 754, 758, 762, 766, 771, 775, 779, 783, 787, 791, 795, 799, 803, 806, 810, 814, 818, 822, 825, 829, 833, 836, 840, 844, 847] ++
  [851, 854, 858, 861, 864, 868, 871, 874, 877, 881, 884, 887, 890, 893, 896, 899, 902, 905, 908, 911, 914, 917, 919, 922, 925, 927, 930, 933, 935, 938, 940, 943] ++
  [945, 948, 950, 952, 954, 957, 959, 961, 963, 965, 967, 969, 971, 973, 975, 977, 979, 981, 983, 984, 986, 988, 989, 991, 992, 994, 995, 997, 998, 999, 1001, 1002] ++
  [1003, 1005, 1006, 1007, 1008, 1009, 1010, 1011, 1012, 1013, 1014, 1015, 1015, 1016, 1017, 1017, 1018, 1019, 1019, 1020, 1020, 1021, 1021, 1021, 1022, 1022, 1022, 1023, 1023, 1023, 1023, 1023] ++
  [1023]

/-- S(a) of a table (R248). -/
def sineAt (q : List Nat) (a : Nat) : Int :=
  let m := a / 256 % 4
  let k := a % 256
  let v : Int := q.getD (if m % 2 = 0 then k else 256 - k) 0
  if m < 2 then v else -v

/-- The table an axis uses. -/
def axTable (s : State) (a : Nat) : List Nat := if s.bit (Reg.STP_AX_CFG a) 6 then s.stp.table1 else quarterTable

/-- The current of an axis in mA (R262): a bridge that a fault switched off carries none until firmware clears it (R261). -/
def axCurrent (s : State) (a : Nat) : Nat :=
  if s.reg (Reg.STP_AX_FLT a) ≠ 0#32 then 0
  else match (s.axis a).sel with
    | .off => 0
    | .run => s.fld (Reg.STP_AX_CUR a) 0 11
    | .home => s.fld (Reg.STP_AX_HOLD a) 0 11
    | .hold => s.fld (Reg.STP_AX_CUR a) 16 11

/-- Coil currents of an axis in 1/1,023 mA: bridge A and bridge B (R248). -/
def coilCurrents (s : State) (a : Nat) : Int × Int :=
  let q := axTable s a
  let i : Int := axCurrent s a
  let ad := s.fld (Reg.STP_AX_ADDR a) 0 10
  let ib := i * sineAt q (ad + 256)
  (i * sineAt q ad, if s.bit (Reg.STP_AX_CFG a) 5 then -ib else ib)

/-! ## Profiles -/

/-- Length of a move: its longest axis (R255). -/
def moveLen (m : StepMove) : Nat := m.d.foldl (fun n d => max n d.natAbs) 0

/-- u of an axis in a move. -/
def moveU (m : StepMove) (a : Nat) : Rat := (m.d.getD a 0 : Rat) / (moveLen m : Rat)

/-- Path speed, acceleration and jerk after lowering (R255); J is lowered by A's factor. -/
def pathLimits (s : State) (m : StepMove) : Rat × Rat × Rat :=
  let us := (List.range 3).filter (fun a => m.d.getD a 0 != 0)
  let v := us.foldl (fun x a => min x ((axVmax s a : Rat) / |moveU m a|)) (m.v : Rat)
  let a0 : Rat := (m.a * 1000 : Nat)
  let acc := us.foldl (fun x a => min x ((axAmax s a : Rat) / |moveU m a|)) a0
  (v, acc, (m.j * 1000000 : Nat) * acc / a0)

/-- A change of speed at acceleration `acc`, with jerk `j` where the profile is an S-curve (R256). -/
def rampSegs (scurve : Bool) (va vb acc j : Rat) : List Segment :=
  let dv := |vb - va|
  let sg : Rat := if va ≤ vb then 1 else -1
  if dv = 0 then []
  else if !scurve then [⟨dv / acc, 0, sg * acc⟩]
  else
    let a := if acc * acc ≤ dv * j then acc else ratSqrt (dv * j)
    if a = 0 then [⟨0, 0, 0⟩]
    else
      let tj := a / j
      let tc := dv / a - tj
      [⟨tj, sg * j, 0⟩, ⟨tc, 0, sg * a⟩, ⟨tj, -(sg * j), sg * a⟩]

/-- Time and distance of a change of speed. -/
def segsTime (l : List Segment) : Rat := l.foldl (fun t g => t + g.t) 0
def rampDist (scurve : Bool) (va vb acc j : Rat) : Rat := (va + vb) / 2 * segsTime (rampSegs scurve va vb acc j)

/-- The greatest peak speed at which both ramps fit the length, by bisection. -/
def peakSpeed (scurve : Bool) (va vb acc j len : Rat) : Nat → Rat → Rat → Rat
  | 0, lo, _ => lo
  | n + 1, lo, hi =>
    let m := (lo + hi) / 2
    if rampDist scurve va m acc j + rampDist scurve m vb acc j ≤ len then peakSpeed scurve va vb acc j len n m hi
    else peakSpeed scurve va vb acc j len n lo m

/-- Exit speed of a path: the one asked for, or the fastest that its length lets it reach (R256). -/
def exitSpeed (scurve : Bool) (va vb acc j len : Rat) : Rat :=
  if rampDist scurve va (max va vb) acc j + rampDist scurve (max va vb) vb acc j ≤ len then vb
  else if vb ≤ va then vb
  else peakSpeed scurve va vb acc j len 40 va vb

/-- The whole profile of a path (R256): full, or with the cruise speed lowered until it fits. An S-curve entered too fast to
end within the path decelerates with no jerk limit. -/
def profile (scurve : Bool) (va vb v acc j len : Rat) : List Segment :=
  let fits := fun (c : Bool) (p : Rat) => decide (rampDist c va p acc j + rampDist c p vb acc j ≤ len)
  let sc := scurve && fits true (max va vb)
  let p := if fits sc v then v else peakSpeed sc va vb acc j len 40 (max va vb) v
  let rest := len - (rampDist sc va p acc j + rampDist sc p vb acc j)
  rampSegs sc va p acc j ++ (if 0 < p ∧ 0 < rest then [⟨rest / p, 0, 0⟩] else []) ++ rampSegs sc p vb acc j

/-- Path position and speed a time after the start. -/
def pathAt : List Segment → Rat → Rat → Rat → Rat × Rat
  | [], _, s, v => (s, v)
  | g :: l, t, s, v =>
    let d := min t g.t
    let s' := s + v * d + g.a * d * d / 2 + g.j * d * d * d / 6
    let v' := v + g.a * d + g.j * d * d / 2
    if t ≤ g.t then (s', v') else pathAt l (t - g.t) s' v'

/-- Speed at the joint of a move with the next one queued (R257). -/
def jointSpeed (s : State) (m : StepMove) (next : Option StepMove) : Rat :=
  match next with
  | none => 0
  | some n =>
    if !m.blend then 0
    else
      let l := pathLimits s m
      let k := pathLimits s n
      let v := min (min l.1 k.1) (ratSqrt (2 * k.2.1 * (moveLen n : Rat)))
      (List.range 3).foldl (fun x a =>
        let du := |moveU m a - moveU n a|
        if du = 0 then x else min x ((s.fld (Reg.STP_AX_VJMP a) 0 19 : Rat) / du)) v

/-- The level and run bits of a group's status register (R265). -/
def groupRegs (s : State) (g : Nat) : State :=
  let x := s.grp g
  (s.setFld (Reg.STP_Q_STAT g) 0 5 x.queue.length).setBit (Reg.STP_Q_STAT g) 8 x.run.isSome

/-- A number at 24 fraction bits, rounded down. -/
def toFrac (x : Rat) : Int := (x * (fracUnit : Rat)).floor

/-- Path position and speed of a run at the boundary it has come to. -/
def runAt (r : StepRun) : Rat × Rat := pathAt r.segs ((r.ticks : Rat) * tickSec + r.lead) 0 r.vin

/-- The run of a group has come to its end. -/
def runEnded (r : StepRun) : Bool := decide (segsTime r.segs ≤ (r.ticks : Rat) * tickSec + r.lead)

/-- Puts the axes of a group where its path is (R255). -/
def placeGroup (s : State) (g : Nat) (r : StepRun) (p v : Rat) : State :=
  (List.range 3).foldl (fun s a =>
    let d := r.move.d.getD a 0
    if d = 0 ∨ !inGroup s g a then s
    else
      let u : Rat := (d : Rat) / (r.len : Rat)
      setSel (moveAxis s a (toFrac (u * v)) (r.start.getD a 0 + toFrac (u * p))) a (if r.move.ihome then .home else .run)) s

/-- Puts the axes of a group where its run has come to. -/
def placeRun (s : State) (g : Nat) (r : StepRun) : State :=
  let pv := runAt r
  let last := runEnded r
  placeGroup s g r (if r.stop then pv.1 else min pv.1 (r.len : Rat)) (if last then r.vout else pv.2)

/-- The oldest queued move starts at an entry speed, some seconds after its own start (R255 to R257). -/
def startMove (s : State) (g : Nat) (vin lead : Rat) : State :=
  let x := s.grp g
  match x.queue with
  | [] => s
  | m :: t =>
    let l := pathLimits s m
    let len : Rat := (moveLen m : Rat)
    let vout := exitSpeed m.scurve vin (jointSpeed s m t.head?) l.2.1 l.2.2 len
    let run : StepRun := { move := m, start := (List.range 3).map (fun a => (s.axis a).pos), len := moveLen m, acc := l.2.1,
                           vin := vin, vout := vout, segs := profile m.scurve vin vout l.1 l.2.1 l.2.2 len, ticks := 0,
                           lead := lead, stop := false }
    groupRegs (s.setGrp g ⟨t, some run⟩) g

/-- A group has come to rest; QEMPTY is set where its queue is empty (R257, R258). -/
def groupRest (s : State) (g : Nat) : State :=
  let x := s.grp g
  let s := groupRegs (s.setGrp g { x with run := none }) g
  if x.queue.isEmpty then s.raise pgSTP 1 else s

/-- A move has run its path: it reports, and the next one goes on from its end (R257). -/
def moveEnd (g : Nat) (s : State) : State :=
  match (s.grp g).run with
  | none => s
  | some r =>
    if !runEnded r ∨ r.stop then s
    else
      let s := placeGroup s g r (r.len : Rat) r.vout
      let s := if r.move.irq then (s.setFld (Reg.STP_Q_STAT g) 16 8 r.move.tag).raise pgSTP 0 else s
      if (s.grp g).queue.isEmpty then groupRest s g
      else startMove s g r.vout ((r.ticks : Rat) * tickSec + r.lead - segsTime r.segs)

/-- One tick of a group (R251, R255, R258): a move whose end nothing has reported by the next boundary ends there, a queued
one starts unless the last gasp halts the axes. -/
def groupTick (halted : Bool) (s : State) (g : Nat) : State :=
  let s := moveEnd g s
  let s := if (s.grp g).run.isNone && !halted then startMove s g 0 0 else s
  match (s.grp g).run with
  | none => s
  | some r =>
    let r := { r with ticks := r.ticks + 1 }
    let s := placeRun (s.setGrp g { s.grp g with run := some r }) g r
    if r.stop && runEnded r then groupRest s g else s

/-- A group stops (R258): a move that has come to its end counts as done, the queue is flushed, and the group decelerates along
its path at the path acceleration, with no jerk limit. -/
def groupStop (s : State) (g : Nat) : State :=
  let s := moveEnd g s
  let x := s.grp g
  match x.run with
  | none => if x.queue.isEmpty then s else groupRest (s.setGrp g ⟨[], none⟩) g
  | some r =>
    if r.stop then groupRegs (s.setGrp g { x with queue := [] }) g
    else
      let v := (runAt r).2
      let r' : StepRun := { r with start := (List.range 3).map (fun a => (s.axis a).pos), vin := v, vout := 0, ticks := 0,
                                   lead := 0, stop := true, segs := rampSegs false v 0 r.acc 0 }
      groupRegs (s.setGrp g ⟨[], some r'⟩) g

/-! ## Motion of one axis -/

/-- Velocity of an axis a tick later, in 24 fraction bits: towards `want` by at most AMAX in a tick. -/
def slewVel (amax : Nat) (now want : Int) : Int :=
  let step : Int := (amax * fracUnit / 1600000 : Nat)
  if now < want then min want (now + step) else max want (now - step)

/-- Fastest approach speed at a distance in 24 fraction bits that AMAX can still stop. -/
def approachVel (amax : Nat) (dist : Int) : Int := toFrac (ratSqrt (2 * (amax : Rat) * ((dist.toNat : Rat) / (fracUnit : Rat))))

/-- An axis seeks a target position within a speed limit, time-optimally (R252, R260); it has arrived when the rest of the way
and its velocity are below what a tick can resolve. -/
def seekTick (s : State) (a : Nat) (tgt : Int) (vlim : Nat) : State :=
  let x := s.axis a
  let t := toUnits tgt
  let d := t - x.pos
  let lim := toUnits vlim
  let want := if 0 ≤ d then min lim (approachVel (axAmax s a) d) else -(min lim (approachVel (axAmax s a) (-d)))
  let v := slewVel (axAmax s a) x.vel want
  let p := x.pos + v / 1600000
  let near := (decide (0 ≤ d) && decide (t ≤ p)) || (decide (d < 0) && decide (p ≤ t)) || decide (d.natAbs < 256)
  let slow := decide (v.natAbs ≤ 4 * max 1600000 (axAmax s a * fracUnit / 1600000))
  runCurrent (if near && slow then moveAxis s a 0 t else moveAxis s a v p) a

/-- An axis decelerates at AMAX and holds (R259, R260). -/
def haltTick (s : State) (a : Nat) : State :=
  let x := s.axis a
  if x.vel = 0 then s
  else
    let v := slewVel (axAmax s a) x.vel 0
    runCurrent (moveAxis s a v (x.pos + v / 1600000)) a

/-- A last-gasp sequence runs: LGSTATE CRITICAL, PARK or COAST (R277, R286). -/
def stpHalted (s : State) : Bool := let n := s.fld (Reg.STAT 0x02) 12 3; n == 1 || n == 2 || n == 3

/-- An axis that the last-gasp sequence halts; at rest it holds at IHOLD (R277). -/
def lastGaspTick (s : State) (a : Nat) : State :=
  let s := if (s.grp (axGrp s a)).run.isSome && axMode s a == 1 then s else haltTick s a
  if (s.axis a).vel = 0 ∧ axMode s a ≠ 0 then setSel s a .hold else s

/-- FOLLOW: velocity demand from word 0x02E within VMAX and AMAX, braking so as to stop at a limit (R251, R252). -/
def followTick (s : State) (a : Nat) (word : Word) : State :=
  let x := s.axis a
  let vmax := toUnits (axVmax s a)
  let dem := signedOf 32 word.toNat * (s.fld (Reg.STP_AX_VFS a) 0 19 : Int) * (fracUnit : Int) / 2147483648
  let dem := max (-vmax) (min vmax dem)
  let hi := toUnits (axMax s a)
  let lo := toUnits (axMin s a)
  let want := max (-(approachVel (axAmax s a) (x.pos - lo))) (min (approachVel (axAmax s a) (hi - x.pos)) dem)
  let v := slewVel (axAmax s a) x.vel want
  let p := x.pos + v / 1600000
  let hit := (decide (hi ≤ p) && decide (0 < dem)) || (decide (p ≤ lo) && decide (dem < 0))
  limitIf (runCurrent (moveAxis s a (if hit then 0 else v) p) a) a hit

/-- TARGET: position STP_AX_TBASE + (word 0x02F >> 16), clamped to the limits (R252). -/
def targetOf (s : State) (a : Nat) (word : Word) : Int := s.sfld (Reg.STP_AX_TBASE a) 0 28 + signedOf 32 word.toNat / 65536

/-- One tick of the target mode: a target beyond a limit is clamped to it (R252). -/
def targetTick (s : State) (a : Nat) (raw : Int) : State :=
  let t := max (axMin s a) (min (axMax s a) raw)
  seekTick (limitIf s a (decide (raw ≠ t))) a t (axVmax s a)

/-- One tick of an axis that parks (R260, steps 2 to 4). -/
def parkTick (s : State) (a : Nat) : State :=
  let x := s.axis a
  let tgt := s.sfld (Reg.STP_AX_PARKPOS a) 0 28
  match x.park with
  | .slow => if x.vel = 0 then s.setAxis a { x with park := .go } else haltTick s a
  | .go =>
    let s := seekTick s a tgt (min (s.fld Reg.STP_PARK 16 12 * 100) (axVmax s a))
    if (s.axis a).vel = 0 ∧ (s.axis a).pos = toUnits tgt then s.setAxis a { s.axis a with park := .there } else s
  | _ => s

/-- The axis takes part in a park that runs (R260). -/
def axParks (s : State) (a : Nat) : Bool := (s.axis a).park = .slow || (s.axis a).park = .go || (s.axis a).park = .there

/-- One tick of an axis outside its group's path; `safe` says that SRV_STAT.SAFE is 1 (R251, R252, R259, R260). An axis in QUEUE
whose group has dropped its path decelerates at AMAX. -/
def axisTick (s : State) (safe : Bool) (out : List Word) (a : Nat) : State :=
  if axParks s a then parkTick s a
  else if stpHalted s then lastGaspTick s a
  else match axMode s a with
    | 1 => if (s.grp (axGrp s a)).run.isSome then s else haltTick s a
    | 2 => if safe then haltTick s a else followTick s a (out.getD 6 0#32)
    | 3 =>
      if safe then (match (s.axis a).heldTgt with
        | some t => targetTick s a t
        | none => haltTick s a)
      else targetTick s a (targetOf s a (out.getD 7 0#32))
    | _ => s

/-- An axis that has stood for THOLD ms and 1 ms more carries IHOLD (R262). -/
def holdTick (s : State) (a : Nat) : State :=
  let x := s.axis a
  if x.vel = 0 ∧ (x.sel = .run ∨ x.sel = .home) ∧ x.rest + (s.fld (Reg.STP_AX_HOLD a) 16 12 + 1) * 1600 ≤ s.ticks then
    setSel s a .hold else s

/-- Park ends: the parked axes are OFF and their bridges stay at IHOLD (R252, R260). -/
def parkDone (s : State) : State :=
  if s.bit (Reg.STAT pgSTP) 8 ∧ (List.range 3).all (fun a => !axParks s a || (s.axis a).park = .there) = true then
    let s := (List.range 3).foldl (fun s a =>
      if axParks s a then
        (s.setFld (Reg.STP_AX_CFG a) 0 2 0).setAxis a { s.axis a with park := .held, sel := .hold }
      else s) s
    (s.setBit (Reg.STAT pgSTP) 8 false).raise pgSTP 4
  else s

/-- STP's motion update at a tick boundary (R251). A park whose axes had all arrived by the boundary before ends here at the
latest. -/
def stpTick (s : State) : State :=
  let safe := s.bit Reg.ACT_SAFE 8
  let s := parkDone s
  let s := (List.range 2).foldl (groupTick (stpHalted s)) s
  (List.range 3).foldl (fun s a => holdTick (axisTick s safe s.leng.out a) a) s

/-! ## Safe state and park -/

/-- STP as the servo enters the safe state (R184, R259). -/
def stpSafeEnter (s : State) : State :=
  let s := if axMode s 0 = 1 then groupStop s (axGrp s 0) else s
  if axMode s 1 = 3 then s.setAxis 1 { s.axis 1 with heldTgt := some (targetOf s 1 (s.leng.out.getD 7 0#32)) } else s

/-- STP as the safe state ends. -/
def stpSafeExit (s : State) : State := s.setAxis 1 { s.axis 1 with heldTgt := none }

/-- An axis begins to park: its group is flushed and drops its path, its mortar word no longer counts (R260). -/
def parkAxis (s : State) (a : Nat) : State :=
  let g := axGrp s a
  let s := if axMode s a = 1 then groupRegs (s.setGrp g ⟨[], none⟩) g else s
  let x := s.axis a
  s.setAxis a { x with park := if x.vel = 0 then .go else .slow, sel := .run, limited := false }

/-- Park starts (R260). -/
def parkStart (s : State) : State :=
  if s.bit (Reg.STAT pgSTP) 8 then s
  else
    let axes := (List.range 3).filter (fun a => s.bit Reg.STP_PARK a && s.reg (Reg.STP_AX_FLT a) == 0#32)
    if axes.isEmpty then s.raise pgSTP 4 else (axes.foldl parkAxis s).setBit (Reg.STAT pgSTP) 8 true

end Sys2Proof.Machine
end

