-- ==== Sys2Proof/Machine/Soft.lean ====
section
/-! DEFINITION. Soft information of the read path (R26, R27, R36, R88 to R94): the detector's trellis, the demapper, the
decoder's iterations. -/
namespace Sys2Proof.Machine

/-! ## Formats -/

/-- A value held between −m and m (R92: every narrowing saturates). -/
def satMag (m v : Int) : Int := max (-m) (min m v)

/-- A quotient in whole steps; which of two neighbouring steps the quantity `kind` takes is open (R65, R92). -/
def stepOf (kind : Nat) (num : Int) (den : Nat) : Int :=
  num / (den : Int) + (if num % (den : Int) = 0 then 0 else ((Config.roundUp kind num den).toNat : Int))

/-- The largest of some metrics; a path that does not exist lies below all others. -/
def noPath : Int := -1152921504606846976
def bestMetric (l : List Int) : Int := l.foldl max noPath

/-! ## Detector (R88) -/

/-- One sample as the trellis takes it: the sample, its weight in 1/64, the neighbours' share in 2^-15, the noise variance in
2^-30 sample², the prior on its channel bit in 0.25. -/
structure DetSample where
  y : Int
  w : Nat
  m : Int
  v : Nat
  lam : Int
  deriving DecidableEq, Repr

/-- ±1 of a symbol. -/
def symSign (a : Bool) : Int := if a then 1 else -1

/-- The ideal sample of a branch: target taps T0 to T3 over the new symbol and the state's three, newest in bit 0 (R65). -/
def idealLevel (t : List Int) (st : Nat) (a : Bool) : Int :=
  t.getD 0 0 * symSign a + t.getD 1 0 * symSign (st.testBit 0) + t.getD 2 0 * symSign (st.testBit 1) + t.getD 3 0 * symSign (st.testBit 2)

/-- Metric of a branch in 2^-16 (R88, R100): the code lets no two changes follow each other (d = 1); the sample's term counts
by its weight, a change by the prior. -/
def branchMetric (t : List Int) (x : DetSample) (st : Nat) (a : Bool) : Int :=
  let p := st.testBit 0
  if (a != p) && (p != st.testBit 1) then noPath
  else
    let d := 32768 * (x.y - idealLevel t st a) - x.m
    let term := (x.w : Int) * d * d * 65536 / ((128 * x.v : Nat) : Int)
    (if a != p then 0 - x.lam * 16384 else 0) - term

/-- Forward metrics after a sample. -/
def forwardStep (t : List Int) (x : DetSample) (al : List Int) : List Int :=
  (List.range 8).map (fun n => max (al.getD (n / 2) noPath + branchMetric t x (n / 2) (n.testBit 0))
    (al.getD (n / 2 + 4) noPath + branchMetric t x (n / 2 + 4) (n.testBit 0)))

/-- Backward metrics before a sample. -/
def backwardStep (t : List Int) (x : DetSample) (be : List Int) : List Int :=
  (List.range 8).map (fun st => max (branchMetric t x st false + be.getD (2 * st % 8) noPath)
    (branchMetric t x st true + be.getD ((2 * st + 1) % 8) noPath))

/-- Forward metrics before each sample. -/
def forwards (t : List Int) : List DetSample → List Int → List (List Int)
  | [], _ => []
  | x :: r, al => al :: forwards t r (forwardStep t x al)

/-- Backward metrics before each sample and, last, after the last: every end is allowed. -/
def backwards (t : List Int) : List DetSample → List (List Int)
  | [] => [List.replicate 8 0]
  | x :: r => let b := backwards t r; backwardStep t x (b.headD []) :: b

/-- The best metric over the branches of a sample that satisfy `p` (state, new symbol). -/
def bestBranch (t : List Int) (x : DetSample) (al be : List Int) (p : Nat → Bool → Bool) : Int :=
  bestMetric ((List.range 8).flatMap (fun st => [false, true].filterMap (fun a =>
    if p st a then some (al.getD st noPath + branchMetric t x st a + be.getD ((2 * st + a.toNat) % 8) noPath) else none)))

/-- Channel-bit and symbol LLR of each sample of a frame whose sync ended with `pol` (R88, R92): 7 bits, 0.25; a sample of
weight 0 gives no channel-bit LLR (R100). -/
def detectFrame (t : List Int) (xs : List DetSample) (pol : Bool) : List (Int × Int) :=
  let start := (List.range 8).map (fun st => if st = (if pol then 7 else 0) then 0 else noPath)
  let q := fun (k : Nat) (d : Int) => satMag 63 (stepOf k d 16384)
  (xs.zip ((forwards t xs start).zip ((backwards t xs).drop 1))).map (fun z =>
    let best := bestBranch t z.1 z.2.1 z.2.2
    (if z.1.w = 0 then 0 else q 1 (best (fun st a => a == st.testBit 0) - best (fun st a => a != st.testBit 0)),
     q 2 (best (fun _ a => a) - best (fun _ a => !a))))

/-- tanh(k / 8) in 2^-15, rounded down, for k = 0 to 63. -/
def tanhTable : List Nat := [0, 4074, 8025, 11742, 15142, 18173, 20812, 23065, 24955, 26519, 27796, 28830, 29659, 30321, 30846,
  31262, 31589, 31846, 32047, 32205, 32329, 32425, 32501, 32560, 32605, 32641, 32669, 32691, 32708, 32721, 32731, 32739] ++
  [32746, 32750, 32754, 32757, 32759, 32761, 32763, 32764, 32765, 32765, 32766, 32766, 32766] ++ List.replicate 19 32767

/-- Expected symbol tanh(L / 2) in 2^-15 of an LLR in 0.25 (R88). -/
def softSymbol (l : Int) : Int :=
  let k := min l.natAbs 63
  let m : Int := if k = 0 then 0 else (tanhTable.getD k 0 + (Config.tanhUp k).toNat : Nat)
  if l < 0 then -m else m

/-! ## Demapper (R26, R27) -/

/-- One step of a parse of a frame's chunks: the state after it (0 free, 1 after 00 or 10 by the base table, 2 within a
substitution), the chunk, the data pair of its place, and the next place's where it substitutes both. -/
structure Parse where
  dst : Nat
  chunk : List Bool
  here : List Bool
  next : List Bool
  deriving DecidableEq, Repr

/-- The steps R27 allows in a state; the last pair is never substituted. -/
def parseSteps (st : Nat) (last : Bool) : List Parse :=
  if st = 2 then [⟨0, [false, false, false], [], []⟩]
  else
    let ds := if st = 1 then [2, 3] else [0, 1, 2, 3]
    ds.map (fun d => ⟨if d % 2 = 0 then 1 else 0, modBase d, bitsBE 2 d, []⟩) ++
    (if last then [] else (ds.filter (fun d => d % 2 = 0)).flatMap (fun d =>
      [0, 1].map (fun e => ⟨2, (modSubst d e).take 3, bitsBE 2 d, bitsBE 2 e⟩)))

/-- What a place of a frame brings: LLRs of its chunk, priors of its pair and of the next, and whether it is the last. -/
structure Place where
  chunk : List Int
  here : List Int
  next : List Int
  last : Bool
  deriving DecidableEq, Repr

/-- Sum of the LLRs whose bits are 1. -/
def onesCost (l : List Int) (b : List Bool) : Int := ((l.zip b).map (fun q => if q.2 then q.1 else 0)).sum

/-- Metric of a step. -/
def stepMetric (p : Place) (x : Parse) : Int := -(onesCost p.chunk x.chunk + onesCost p.here x.here + onesCost p.next x.next)

/-- Metrics after a place, and before it. -/
def parseForward (p : Place) (al : List Int) : List Int :=
  (List.range 3).map (fun d => bestMetric ((List.range 3).flatMap (fun st =>
    ((parseSteps st p.last).filter (fun x => x.dst == d)).map (fun x => al.getD st noPath + stepMetric p x))))
def parseBackward (p : Place) (be : List Int) : List Int :=
  (List.range 3).map (fun st => bestMetric ((parseSteps st p.last).map (fun x => stepMetric p x + be.getD x.dst noPath)))

def parseForwards : List Place → List Int → List (List Int)
  | [], _ => []
  | p :: t, al => al :: parseForwards t (parseForward p al)
def parseBackwards : List Place → List (List Int)
  | [] => [[0, 0, noPath]]
  | p :: t => let b := parseBackwards t; parseBackward p (b.headD []) :: b

/-- Every step at each place with the metric of the best parse through it. -/
def parseAll (ps : List Place) : List (List (Parse × Int)) :=
  (ps.zip ((parseForwards ps [0, noPath, noPath]).zip ((parseBackwards ps).drop 1))).map (fun z =>
    (List.range 3).flatMap (fun st => (parseSteps st z.1.last).map (fun x =>
      (x, z.2.1.getD st noPath + stepMetric z.1 x + z.2.2.getD x.dst noPath))))

/-- LLR of bit k of words with metrics: best with 0 less best with 1. -/
def wordLlr (l : List (List Bool × Int)) (k : Nat) : Int :=
  bestMetric ((l.filter (fun q => q.1[k]? == some false)).map (·.2)) - bestMetric ((l.filter (fun q => q.1[k]? == some true)).map (·.2))

/-- The places of a frame from channel-bit LLRs and coded-bit priors, in 0.25. -/
def placesOf (chan : List Int) (data : List Int) : List Place :=
  let ds := chunks 2 480 data
  ((chunks 3 480 chan).zip (ds.zip (ds.drop 1 ++ [[]]))).zipIdx.map (fun q => ⟨q.1.1, q.1.2.1, q.1.2.2, q.2 == 479⟩)

/-- LLRs of a frame's 960 coded bits, 6 bits in 0.5, from its channel-bit LLRs (R92). -/
def demapFrame (chan : List Int) : List Int :=
  let all := parseAll (placesOf chan (List.replicate 960 0))
  (all.zip ([] :: all)).flatMap (fun z =>
    let l := z.1.map (fun q => (q.1.here, q.2)) ++ z.2.map (fun q => (q.1.next, q.2))
    [satMag 31 (stepOf 3 (wordLlr l 0) 2), satMag 31 (stepOf 3 (wordLlr l 1) 2)])

/-- Priors on a frame's 1,440 channel bits in 0.25, from extrinsics of its coded bits in 0.5 (R88, R92). -/
def priorFrame (ext : List Int) : List Int :=
  (parseAll (placesOf (List.replicate 1440 0) (ext.map (2 * ·)))).flatMap (fun s =>
    let l := s.map (fun q => (q.1.chunk, q.2))
    (List.range 3).map (fun k => satMag 63 (wordLlr l k)))

/-! ## Demodulator (R27) -/

/-- The pair a chunk is by the base table, and the two pairs it is before 000. -/
def baseOf (c : List Bool) : Option Nat := (List.range 4).find? (fun d => modBase d == c)
def substOf (c : List Bool) : Option (Nat × Nat) :=
  [(0, 0), (0, 1), (2, 0), (2, 1)].find? (fun q => (modSubst q.1 q.2).take 3 == c)

/-- The data pairs of chunks up to one that no table holds (R27): a chunk followed by 000 by the substitution table. -/
def demodPairs : List (List Bool) → List Nat
  | [] => []
  | [c] => match baseOf c with
    | some d => [d]
    | none => []
  | c :: z :: t =>
    if z = [false, false, false] then match substOf c with
      | some q => q.1 :: q.2 :: demodPairs t
      | none => []
    else match baseOf c with
      | some d => d :: demodPairs (z :: t)
      | none => []

/-- The place a frame 0 names, where HCRC of its header matches on hard decisions (R32). -/
def earlyHeader (chan : List Bool) : Option (Nat × Nat) :=
  let b := bitsToBytes (((demodPairs (chunks 3 480 chan)).flatMap (bitsBE 2)).take 192)
  if b.length = 24 ∧ crc16 (b.take 22) = beNat (b.drop 22) then
    let h := SectorHeader.ofBytes b
    some (h.psa, h.sidx)
  else none

/-- The symbols of a frame's payload of coded bits after a sync that ended with `pol` (R27, R89). -/
def nrziLevels : List Bool → Bool → List Bool
  | [], _ => []
  | b :: t, l => (l != b) :: nrziLevels t (l != b)
def frameSymbols (bits : List Bool) (pol : Bool) : List Bool := nrziLevels (modFrame bits) pol

/-! ## Decoder (R36, R93) -/

/-- Row a of a block of shift s takes position a + s. -/
def rotSeg (s : Nat) (l : List Int) : List Int := l.drop s ++ l.take s

/-- Nonzero blocks of a base row: base column and shift (R36). -/
def rowBlocks (r : Nat) : List (Nat × Nat) :=
  ((List.range 172).filter (fun j => ldpcRow (r / 7) j == r)).map (fun j => (j, ldpcShift r j)) ++
  (if r = 0 then [] else [(171 + r, 0)]) ++ [(172 + r, 0)]

/-- Sign product, least and second least magnitude of a check's inputs. -/
def checkAdd (t : Bool × Nat × Nat) (v : Int) : Bool × Nat × Nat :=
  let m := v.natAbs
  (t.1 != decide (v < 0), min t.2.1 m, if m < t.2.1 then t.2.1 else min t.2.2 m)

/-- Message of a check to the variable that brought v: normalised min-sum, 5 bits sign and magnitude (R92, R93). -/
def checkMessage (norm : Nat) (t : Bool × Nat × Nat) (v : Int) : Int :=
  let mag := if v.natAbs = t.2.1 then t.2.2 else t.2.1
  let m := satMag 15 (stepOf 4 ((mag * norm : Nat) : Int) 16)
  if t.1 != decide (v < 0) then -m else m

/-- One layer: posteriors by base column, messages of the row's blocks (R93). -/
def layerStep (norm r : Nat) (post : List (List Int)) (ms : List (List Int)) : List (List Int) × List (List Int) :=
  let bl := rowBlocks r
  let q := (bl.zip ms).map (fun x => List.zipWith (· - ·) (rotSeg x.1.2 (post.getD x.1.1 [])) x.2)
  let acc := q.foldl (fun a row => List.zipWith checkAdd a row) (List.replicate 192 (false, 1000, 1000))
  let ms' := q.map (fun row => List.zipWith (checkMessage norm) acc row)
  ((bl.zip (q.zip ms')).foldl (fun p x =>
    p.set x.1.1 (rotSeg (192 - x.1.2) (List.zipWith (fun a b => satMag 127 (a + b)) x.2.1 x.2.2))) post, ms')

/-- One iteration over the 28 base rows. -/
def iterateOnce (norm : Nat) (q : List (List Int) × List (List (List Int))) : List (List Int) × List (List (List Int)) :=
  (List.range 28).foldl (fun q r => let o := layerStep norm r q.1 (q.2.getD r []); (o.1, q.2.set r o.2)) q

/-- Hard decisions of posteriors: 1 where negative (R92). -/
def hardBits (post : List (List Int)) : List Bool := post.flatten.map (fun v => decide (v < 0))

/-- Up to n iterations, the syndrome checked after each (R93): the posteriors and messages, the iterations, whether it
converged. -/
def decodeIters (norm : Nat) : Nat → List (List Int) × List (List (List Int)) → Nat →
    (List (List Int) × List (List (List Int))) × Nat × Bool
  | 0, q, u => (q, u, false)
  | n + 1, q, u =>
    let q := iterateOnce norm q
    if ldpcOk (hardBits q.1) then (q, u + 1, true) else decodeIters norm n q (u + 1)

/-- Messages of a codeword not yet decoded. -/
def noMessages : List (List (List Int)) := (List.range 28).map (fun r => (rowBlocks r).map (fun _ => List.replicate 192 0))

/-- Posteriors that a slot's LLRs and messages give (R92). -/
def postOf (llr : List (List Int)) (msgs : List (List (List Int))) : List (List Int) :=
  let sum := (List.range 28).foldl (fun p r => ((rowBlocks r).zip (msgs.getD r [])).foldl (fun p x =>
    p.set x.1.1 (List.zipWith (· + ·) (p.getD x.1.1 []) (rotSeg (192 - x.1.2) x.2))) p) llr
  sum.map (fun c => c.map (satMag 127))

/-- Extrinsics: posteriors less the LLRs that came in, 6 bits (R92). -/
def extrinsics (post llr : List (List Int)) : List (List Int) :=
  List.zipWith (fun a b => List.zipWith (fun x y => satMag 31 (x - y)) a b) post llr

/-- A codeword's values by base column. -/
def segments (l : List Int) : List (List Int) := chunks 192 200 l

/-- The coded-bit LLRs of two reads added (R105, R108). -/
def addLlrs (a b : List Int) : List Int := List.zipWith (fun x y => satMag 31 (x + y)) a b

end Sys2Proof.Machine
end

