-- ==== Sys2Proof/Machine/WriteOps.lean ====
section
/-! DEFINITION. The write path's shared operations (R117 to R149): arms, passes, what a pass writes, verdict records, the
write gate. -/
namespace Sys2Proof.Machine

/-- Pages of the write path. -/
abbrev pgWINH : Nat := 0x09
abbrev pgWENC : Nat := 0x12
abbrev pgWSG : Nat := 0x13
abbrev pgDRAW : Nat := 0x14
abbrev pgHDL : Nat := 0x28

/-- Replaces the write path's own state. -/
def State.setW (s : State) (w : WritePath) : State := { s with wenc := w }

/-! ## Channels and passes -/

/-- A write channel (0 A, 1 B) is in service: enabled, its trailing lane (0 or 2) active (R142). -/
def chanInService (s : State) (c : Nat) : Bool := s.bit Reg.WSG_CFG (1 + c) && s.bit Reg.DSK_LANEACT (2 * c)

/-- The array offsets a choice of channels takes, in increasing order (R121). -/
def passOffsets (chan : Nat) : List Int :=
  if chan = 3 then [0, 1] else if chan = 1 then [0, 1, 2, 3] else [-2, -1, 0, 1]

/-- The order of the passes (R122). An automatic order that takes up an offset goes on with the others in increasing
order from there, or in decreasing order where it was the last. -/
def passOrder (a : Arm) (lastPsa : Option Nat) (lastOff : Int) : List Int :=
  let l := passOffsets a.chan
  if a.test ∨ a.order = 1 then l
  else if a.order = 2 then l.reverse
  else if lastPsa.map (· + 8) = some a.psa ∧ l.contains lastOff then
    (if l.getLast? = some lastOff then l.reverse else lastOff :: l.filter (· != lastOff))
  else l

/-- Spiral a channel writes at an array offset: W0 or W2 (R121). -/
def passSpiral (c : Nat) (off : Int) : Nat := ((off + 2 * (c : Int)) % 4).toNat

/-- Channels of an arm. -/
def armChans (a : Arm) : List Nat := (if a.chan % 2 = 1 then [0] else []) ++ (if a.chan / 2 % 2 = 1 then [1] else [])

/-- The arm whose pass runs. -/
def runningArm (s : State) : Option Arm := match s.wenc.arms with
  | a :: _ => if a.running then some a else none
  | [] => none

/-- Lanes that a running pass puts into DRAW mode, and those it makes their neighbours (R121). -/
def drawLanes (s : State) : List Nat := match runningArm s with
  | some a => (armChans a).map (2 * ·)
  | none => []

/-- A lane's mode in force: 2 DRAW and 3 XTALK during a pass, else RFL_MODE (R121). -/
def laneMode (s : State) (l : Nat) : Nat :=
  match runningArm s with
  | some a =>
    if (armChans a).contains (l / 2) && l % 2 == 0 then 2
    else 3
  | none => s.fld (Reg.RFL_MODE l) 0 2

/-! ## What is written -/

/-- One entry of a descriptor table (R118). -/
structure SectorDesc where
  lba : Nat
  stype : Nat
  lbav : Bool
  ufirst : Bool
  ulast : Bool
  rplc : Bool
  seq : Nat
  ucnt : Nat
  deriving DecidableEq, Repr

/-- Reads an entry from its 16 bytes. -/
def SectorDesc.ofBytes (b : List Nat) : SectorDesc :=
  let f := b.getD 5 0
  { lba := leNat (b.take 5), stype := f / 16 % 16, lbav := f.testBit 3, ufirst := f.testBit 2, ulast := f.testBit 1,
    rplc := f.testBit 0, seq := leNat ((b.drop 6).take 6), ucnt := leNat ((b.drop 12).take 2) }

/-- The entry of group strip g and sector i (R118) in a table's bytes. -/
def descEntry (tbl : List Nat) (g i : Nat) : SectorDesc := SectorDesc.ofBytes ((tbl.drop ((56 * g + i) * 16)).take 16)

/-- R119: the conditions on one entry. -/
def entryOk (test : Bool) (d : SectorDesc) : Bool :=
  (d.stype == 0 || d.stype == 2 || d.stype == 3 || d.stype == 4 || d.stype == 5) &&
  (d.lbav == (d.stype == 0)) &&
  (if d.stype = 0 then decide (1 ≤ d.ucnt) && decide (d.ucnt ≤ 256)
   else d.lba == 0 && d.seq == 0 && d.ucnt == 0) &&
  (d.stype != 4 || test)

/-- Address of sector i of group strip g in a staging slot (R117). -/
def stagingAddr (s : State) (slot g i : Nat) : Nat :=
  (s.reg Reg.WENC_STG_BASE).toNat + slot * 0x200000 + g * 0x40000 + i * 4096

/-- The user field written for a sector: zeros for GROUT and TEST, else the slot's (R42, R120). -/
def userField (s : State) (a : Arm) (tbl : List Nat) (g i : Nat) : List Nat :=
  let d := descEntry tbl g i
  if i < 56 ∧ (d.stype = 2 ∨ d.stype = 4) then List.replicate 4096 0
  else s.bytes (stagingAddr s a.slot g i) 4096

/-- The header of a sector (R30, R120). -/
def sectorHeader (s : State) (a : Arm) (tbl : List Nat) (g i : Nat) : SectorHeader :=
  let d := descEntry tbl g i
  let media := s.bit Reg.WSG_CFG 0
  if i < 56 then
    { fmt := 1, sidx := i, psa := a.psa + g, stype := d.stype, media := media, rstcnt := a.rst, lba := d.lba,
      lbav := d.lbav, ufirst := d.ufirst, ulast := d.ulast, rplc := d.rplc, seq := d.seq, ucnt := d.ucnt }
  else
    { fmt := 1, sidx := i, psa := a.psa + g, stype := 1, media := media, rstcnt := a.rst, lba := 0,
      lbav := false, ufirst := false, ulast := false, rplc := false, seq := 0, ucnt := 0 }

/-- The descriptor table of an arm. -/
def armTable (s : State) (a : Arm) : List Nat := if a.tbl.isEmpty then s.bytes a.desc 7168 else a.tbl

/-- R119: an arm with this descriptor table is not refused. -/
def armOk (s : State) (a : Arm) (tbl : List Nat) : Bool :=
  a.psa % 8 == 0 && decide (psaLayer a.psa ≤ 11) && decide (psaBrick a.psa < s.wenc.nbrick.getD (psaLayer a.psa) 0) &&
  (List.range 448).all (fun i => entryOk a.test (descEntry tbl (i / 56) (i % 56))) &&
  (!a.test || decide (psaBrick a.psa ≤ 1)) &&
  decide (a.slot < s.fld Reg.WENC_STG_SLOTS 0 3) && !s.wenc.arms.any (fun b => b.slot == a.slot) &&
  a.chan != 0 && (armChans a).all (chanInService s) && s.bit Reg.WSG_LAYERSTAT (psaLayer a.psa) &&
  s.bit (Reg.WINH_ACMP_CFG 2) 0 && (armChans a).all (fun c => s.bit (Reg.WINH_ACMP_CFG c) 0) &&
  decide (s.wenc.arms.length < 2) && !s.bit Reg.CAL_RUN 6

/-- Test groups of the arm's layer are used up on a VAD-WO side: the last result of the calibration is kept (R47, R143). -/
def keepsResult (s : State) (a : Arm) : Bool := s.xlt.noTests.contains (psaLayer a.psa)

/-- The arm takes its place (R119, R143). -/
def putArm (s : State) (a : Arm) : State :=
  let s := s.setW { s.wenc with arms := s.wenc.arms ++ [a], held := a.slot :: s.wenc.held.filter (· != a.slot) }
  if a.test ∧ !keepsResult s a then s.setBit Reg.DRAW_OPC_RES 16 false else s

/-- The sectors of one spiral's share in order of position (R39, R120). -/
def spiralSectors (s : State) (a : Arm) (q : Nat) : List WrittenSector :=
  let tbl := armTable s a
  (List.range 128).map (fun p =>
    let gi := sectorAt q p
    ⟨a.psa + gi.1, gi.2, (sectorHeader s a tbl gi.1 gi.2).bytes, userField s a tbl gi.1 gi.2⟩)

/-- What a channel writes in a pass at an offset (R40, R120, R121). -/
def shareOut (s : State) (a : Arm) (off : Int) (c : Nat) : ShareOut :=
  let q := passSpiral c off
  let secs := spiralSectors s a q
  ⟨c, q, secs, shareBits (secs.map (fun w => sectorCodeword w.hdr w.user w.psa w.sidx))⟩

/-! ## Verdict records -/

/-- Records the verdict ring holds (R153). -/
def vqSize (s : State) : Nat := 2 ^ s.fld Reg.DRAW_VQ_CTRL 0 4

/-- Records in the ring: indices count modulo twice its size. -/
def vqLevel (s : State) : Nat :=
  (s.fld Reg.DRAW_VQ_PROD 0 11 + 2 * vqSize s - s.fld Reg.DRAW_VQ_CONS 0 11 % (2 * vqSize s)) % (2 * vqSize s)

/-- Stores a record at the producer index. -/
def vqStore (s : State) (rec : List Nat) : State :=
  let i := s.fld Reg.DRAW_VQ_PROD 0 11
  let s := memWrite s .cdma ((s.reg Reg.DRAW_VQ_BASE).toNat + i % vqSize s * 32) rec
  s.setFld Reg.DRAW_VQ_PROD 0 11 ((i + 1) % (2 * vqSize s))

/-- DRAW writes a verdict record, or holds it while the ring is full (R141). -/
def vqPut (s : State) (rec : List Nat) : State :=
  if s.wenc.heldRecs.isEmpty ∧ vqLevel s < vqSize s then vqStore s rec
  else (s.setW { s.wenc with heldRecs := s.wenc.heldRecs ++ [rec] }).raise pgDRAW 2

/-- Sectors graded of the group at a PSA. -/
def gradedOf (s : State) (psa : Nat) : List Graded := s.wenc.graded.filter (fun g => g.psa / 8 == psa / 8)

/-- How many sectors of a strip have a grade. -/
def gradeCount (l : List Graded) (psa : Nat) (g : Grade) : Nat :=
  (l.filter (fun x => x.psa == psa && x.grade == g)).length

/-- The 32 bytes of a verdict record (R140). -/
def verdictRecord (s : State) (a : Arm) (verdict cause : Nat) : List Nat :=
  let l := gradedOf s a.psa
  bytesLE 4 a.psa ++ [verdict * 16 + cause, a.rpln * 64 + a.passes % 8 * 8] ++
  bytesLE 2 (l.foldl (fun m g => max m g.raw) 0) ++
  (List.range 8).map (fun g => gradeCount l (a.psa + g) .weak) ++
  (List.range 8).map (fun g => gradeCount l (a.psa + g) .failed) ++
  bytesLE 4 a.tag ++ [0, 0, 0, 0]

/-- Writes an arm's verdict and forgets its grades; DRAW raises VERDICT. -/
def giveVerdict (s : State) (a : Arm) (verdict cause : Nat) : State :=
  let l := gradedOf s a.psa
  let weak := ((List.range 8).filter (fun g =>
    0 < gradeCount l (a.psa + g) .weak + gradeCount l (a.psa + g) .failed)).length
  let s := (vqPut s (verdictRecord s a verdict cause)).raise pgDRAW 0
  let s := s.setW { s.wenc with toXlt := s.wenc.toXlt ++ [⟨a.slot, a.psa, verdict, cause, weak, !a.tbl.isEmpty⟩] }
  s.setW { s.wenc with graded := s.wenc.graded.filter (fun g => g.psa / 8 != a.psa / 8) }

/-! ## Where a pass stands (R40, R151) -/

/-- Position of the running pass: by the bits written since link-zone bit 256. -/
def passPos (s : State) (a : Arm) : Nat :=
  min 127 ((256 + (s.ticks - a.t0) * 625000000 / max 1 a.tfs - 2304) / 58880)

/-- WENC_POS while a pass runs. -/
def posWord (s : State) (a : Arm) : Word :=
  Word.ofNat (passPos s a + groupOf a.psa * 256 + (a.passes + 1) * 65536 + bitsOf 4 a.off * 1048576)

/-! ## Laser levels (R126, R127, R134, R143) -/

/-- A strategy word of a layer's set (R127). -/
def wsgWord (s : State) (layer k : Nat) : Word := s.reg (0x500000000 + layer * 0x100 + 4 * k)

/-- Peak of a channel in 0.01 mW times 2^15: PEAK, TRIM in 1/128, and the step's factor in 1/256 (R126, R143, R152). -/
def peakScaled (s : State) (layer c factor : Nat) : Nat := fieldOf (wsgWord s layer 36) 0 16 * s.fld Reg.WSG_TRIM (8 * c) 8 * factor

/-- The commands that set a channel's levels, in the FIFO's form: bias, on VAD-RW erase, peak, cooling (R126, R134). Of two
neighbouring values an open one is taken, and one beyond 16 bits is held at their end (DESIGN CHOICE, log 120). -/
def levelSet (s : State) (layer factor c : Nat) : List Word :=
  let p := peakScaled s layer c factor
  let w36 := wsgWord s layer 36
  let cmd := fun (kind frac : Nat) =>
    Word.ofNat (Config.levelAddr c kind % 128 * 2 ^ 24 + (min 65535 (stepOf 5 ((p * frac : Nat) : Int) (32768 * 256))).toNat)
  [cmd 0 (fieldOf w36 16 8)] ++ (if s.bit Reg.WSG_CFG 0 then [cmd 1 (fieldOf w36 24 8)] else []) ++
    [cmd 2 256, cmd 3 (fieldOf (wsgWord s layer 37) 0 8)]

/-- WSG puts commands ahead of the firmware's in HDL's FIFO (R134). -/
def wsgSend (s : State) (l : List Word) : State :=
  let s := s.setW { s.wenc with wsgCmds := s.wenc.wsgCmds ++ l }
  s.setFld Reg.HDL_FIFO 0 5 (min 16 (s.wenc.fifo.length + s.wenc.wsgCmds.length))

/-- The levels of a pass's channels; step k of a power sweep has its factor (R126, R143). -/
def passLevels (s : State) (a : Arm) (k : Nat) : State :=
  let f := if a.test then s.fld Reg.WSG_OPC 0 8 + k * s.fld Reg.WSG_OPC 8 8 else 256
  wsgSend s ((armChans a).flatMap (levelSet s (psaLayer a.psa) f))

/-- A tick of a running pass: WENC_POS follows, and before position 8k of a test group step k's levels go out (R143, R151). -/
def passTick (s : State) : State :=
  match s.wenc.arms with
  | [] => s
  | a :: t =>
    if !a.running then s
    else
      let s := s.setReg Reg.WENC_POS (posWord s a)
      if a.test ∧ a.step < 15 ∧ 8 * (a.step + 1) ≤ passPos s a + 1 then
        passLevels (s.setW { s.wenc with arms := { a with step := a.step + 1 } :: t }) a (a.step + 1)
      else s

/-! ## Grading -/

/-- DRAW grades a final sector (R136, R153). -/
def drawGrade (s : State) (psa sidx : Nat) (good equal : Bool) (iters raw : Nat) : State :=
  let g : Grade :=
    if !(good && equal) then .failed
    else if iters ≤ s.fld Reg.DRAW_CFG 0 5 ∧ raw ≤ s.fld Reg.DRAW_BERV 0 16 then .verified
    else .weak
  let old := s.wenc.graded.filter (fun x => !(x.psa == psa && x.sidx == sidx))
  let s := s.setW { s.wenc with graded := old ++ [⟨psa, sidx, g, raw⟩] }
  match g with
  | .verified => s.addSat Reg.DRAW_CNT 0 12 1
  | .weak => s.addSat Reg.DRAW_CNT 12 10 1
  | .failed => s.addSat Reg.DRAW_CNT 22 10 1

/-- The sectors of a channel of the running pass from a position on that have no grade yet are graded FAILED (R136, R142,
R147). -/
def failShare (s : State) (a : Arm) (from_ c : Nat) : State :=
  (List.range 128).foldl (fun s p =>
    let gi := sectorAt (passSpiral c a.off) p
    if from_ ≤ p ∧ !s.wenc.graded.any (fun x => x.psa == a.psa + gi.1 && x.sidx == gi.2) then
      drawGrade s (a.psa + gi.1) gi.2 false false 0 0
    else s) s

/-- The stretch that write inhibit cuts off the running pass is graded FAILED (R136, R147). -/
def failRest (s : State) : State := match runningArm s with
  | some a => (armChans a).foldl (fun s c => failShare s a (passPos s a) c) s
  | none => s

/-- The position registers of an idle encoder. -/
def posIdle (s : State) : State := s.setReg Reg.WENC_POS 0#32

/-- The front arm ends VOID with a cause (R45, R140); the next group's order counts from the pass it stopped in (R122). -/
def voidFront (s : State) (cause : Nat) : State :=
  match s.wenc.arms with
  | [] => s
  | a :: t =>
    let s := s.setW { s.wenc with arms := t, lastPsa := some a.psa, lastOff := a.off, emit := [] }
    let s := ((posIdle s).addSat Reg.WENC_CNT 16 8 1).raise pgWENC 3
    giveVerdict (s.err pgWENC 0x0503 cause) a 3 cause

/-- An arm ends NOTSTARTED (R123, R124). -/
def notStarted (s : State) (a : Arm) : State :=
  let s := (s.addSat Reg.WENC_CNT 24 8 1).raise pgWENC 4
  giveVerdict (s.err pgWENC 0x0504 0) a 4 0

/-- The same brick, and a later group of it (R124). -/
def laterSameBrick (a b : Arm) : Bool := a.psa / 1024 == b.psa / 1024 && decide (groupOf a.psa < groupOf b.psa)

/-- The front arm ends NOTSTARTED, and with it every held arm for a later group of the same brick (R124). -/
def notStartedFront (s : State) : State :=
  match s.wenc.arms with
  | [] => s
  | a :: t =>
    let dead := t.filter (laterSameBrick a)
    let s := posIdle (s.setW { s.wenc with arms := t.filter (fun b => !laterSameBrick a b) })
    dead.foldl notStarted (notStarted s a)

/-! ## The write gate -/

/-- The WSG write gate drops; a pass it cuts leaves its group VOID (R131, R149). -/
def dropGate (s : State) (cause : Nat) : State :=
  if s.wenc.gate then
    let s := ((s.setW { s.wenc with gate := false }).addSat Reg.WSG_CNT 16 16 1).raise pgWSG 3
    if (runningArm s).isSome then voidFront (failRest s) cause else s
  else s

/-- LWI is high while WINH has tripped or the gate is low (R131). -/
def lwi (s : State) : Bool := s.reg Reg.WINH_LATCH != 0#32 || !s.wenc.gate

/-- Sources of WINH that are enabled (R144). -/
def winhEnabled (s : State) : Nat :=
  ((List.range 5).map (fun k => if s.bit (Reg.WINH_ACMP_CFG k) 0 then 2 ^ k else 0)).sum +
  (if s.bit Reg.WINH_SHKD 0 then 32 else 0) +
  ((List.range 8).map (fun k => if s.bit (Reg.WINH_DCHK_CFG k) 0 then 2 ^ (8 + k) else 0)).sum

/-- The lowest set bit of a source mask. -/
def lowBit (m : Nat) : Nat := ((List.range 17).find? (fun i => m.testBit i)).getD 0

/-- WINH trips on sources that leave their windows (R144, R147); `late` says that the last channel bit of position 127 of
the running pass is out, so that the pass stands. -/
def winhTrip (s : State) (srcs : Nat) (late : Bool) : State :=
  if srcs = 0 then s
  else
    let s := s.setReg Reg.WINH_LATCH (s.reg Reg.WINH_LATCH ||| Word.ofNat srcs)
    let s := ((s.addSat Reg.WINH_CNT 0 16 1).err pgWINH 0x0802 (lowBit srcs)).raise pgWINH 0
    let s := trcEvent (s.report pgWINH 0x0802 15 []) 2
    if late then s
    else match runningArm s with
      | some _ => voidFront (failRest (s.setW { s.wenc with gate := false })) 1
      | none => s

/-! ## A lost lane (R142) -/

/-- A trailing lane enters FAULT during a pass: the channel's remaining sectors are FAILED and the group is VOID with cause
7 (R142). -/
def writeChannelLost (s : State) (lane : Nat) : State :=
  match runningArm s with
  | some a => if lane % 2 = 0 ∧ (armChans a).contains (lane / 2) then
      voidFront (failShare (s.setW { s.wenc with gate := false }) a 0 (lane / 2)) 7
    else s
  | none => s

/-! ## Edges on a write link -/

/-- Lengths of the runs of one level: level of the first run, and the runs, from NRZI bits. -/
def nrziRuns : List Bool → Bool → Nat → List (Bool × Nat)
  | [], lvl, n => if n = 0 then [] else [(lvl, n)]
  | b :: t, lvl, n => if b then (if n = 0 then nrziRuns t (!lvl) 1 else (lvl, n) :: nrziRuns t (!lvl) 1)
                      else nrziRuns t lvl (n + 1)

/-- Rising and falling edges of one mark on pair 0, and the two of pair 1, in 1/64 T (R127, R130). -/
def markEdges (word : Nat → Word) (start : Int) (n prev next : Nat) : List Int × List Int :=
  let mc := min n 5 - 2
  let e := word (9 * mc + 3 * (min prev 4 - 2) + (min next 4 - 2))
  let w37 := word 37
  let dtop := signedOf 8 (fieldOf e 0 8)
  let wtop : Int := fieldOf e 8 8
  let dcl := signedOf 8 (fieldOf e 16 8)
  let wlp : Int := fieldOf e 24 8
  let dmp := signedOf 8 (fieldOf w37 8 8)
  let wmp : Int := fieldOf w37 16 8
  let top := [start + dtop, start + dtop + wtop]
  let multi := (List.range (n - 2)).flatMap (fun i =>
    let p : Int := start + 64 * ((i : Int) + 1) + dmp
    [p, p + (if i + 3 = n then wlp else wmp)])
  (top ++ multi, [start + dtop + wtop / 2, start + 64 * (n : Int) + dcl])

/-- The edges of both pairs over a run list; the space before the first mark and after the last counts as long. -/
def linkEdges (word : Nat → Word) : List (Bool × Nat) → Int → Nat → List Int × List Int
  | [], _, _ => ([], [])
  | (lvl, n) :: t, at0, prev =>
    let rest := linkEdges word t (at0 + 64 * (n : Int)) n
    if lvl then
      let nx := match t with
        | (_, k) :: _ => k
        | [] => 4
      let m := markEdges word at0 n prev nx
      (m.1 ++ rest.1, m.2 ++ rest.2)
    else rest

/-- How many edges fall closer than the least spacing after the one before, which may itself have been delayed (R129).
Positions and spacing are in 1/64 fs. -/
def clampCount (minGap : Int) : List Int → Option Int → Nat
  | [], _ => 0
  | e :: t, none => clampCount minGap t (some e)
  | e :: t, some p => if e < p + minGap then clampCount minGap t (some (p + minGap)) + 1 else clampCount minGap t (some e)

/-- Edges WSG delays on the link of one share; `tfs` is the channel-bit period in fs. -/
def shareClamps (s : State) (layer tfs : Nat) (o : ShareOut) : Nat :=
  let e := linkEdges (wsgWord s layer) (nrziRuns o.bits false 0) 0 4
  let gap : Int := s.fld Reg.WSG_CFG 8 8 * 10000 * 64
  clampCount gap (e.1.map (· * (tfs : Int))) none + clampCount gap (e.2.map (· * (tfs : Int))) none

end Sys2Proof.Machine
end

