-- ==== Sys2Proof/Machine/ServoOps.lean ====
section
/-! DEFINITION. The servo's shared operations (R159, R163, R170 to R185): bridges, sequencer, safe state. -/
namespace Sys2Proof.Machine

/-- Pages of the servo. -/
abbrev pgACT : Nat := 0x05
abbrev pgSADC : Nat := 0x06
abbrev pgFMT : Nat := 0x16

/-- Replaces the servo's own state. -/
def State.setSv (s : State) (x : Servo) : State := { s with sv := x }

/-- Who drives a bridge. -/
def bridgeCtl (s : State) (b : Nat) : BridgeCtl := s.sv.ctl.getD b .leng
/-- Changes who drives a bridge. -/
def State.setCtl (s : State) (b : Nat) (c : BridgeCtl) : State := s.setSv { s.sv with ctl := s.sv.ctl.set b c }

/-- A last-gasp sequence runs: LGSTATE CRITICAL, PARK or COAST, until VIN has recovered (R277, R281, R286). -/
def lgRuns (s : State) : Bool := let n := s.fld (Reg.STAT 0x02) 12 3; n == 1 || n == 2 || n == 3

/-- A bridge may carry current: enabled, no fault, not measuring its offset, not forced to 0 A by the last gasp (R170,
R189, R277, R300). -/
def bridgeLive (s : State) (b : Nat) : Bool :=
  s.bit Reg.ACT_CFG b && s.reg (Reg.ACT_BR_STAT b) == 0#32 && !s.sv.meas.contains b && !lgRuns s

/-- A set-point saturated to 16 signed bits. -/
def sat16 (x : Int) : Int := max (-32768) (min 32767 x)

/-- A bridge's set-point as ACT drives it: 0 A where it may carry none (R170). -/
def drive (s : State) (b : Nat) (x : Int) : State :=
  s.setReg (Reg.ACT_BR_OUT b) (Word.ofNat (bitsOf 16 (if bridgeLive s b then sat16 x else 0)))

/-- The set-point a bridge carries. -/
def bridgeOut (s : State) (b : Nat) : Int := s.sfld (Reg.ACT_BR_OUT b) 0 16

/-- The source of a bridge under LENG: its output word's top half, or ACT_BR_FW (R170). -/
def bridgeSource (s : State) (b : Nat) : Int :=
  if s.bit (Reg.ACT_BR_CFG b) 4 then s.sfld (Reg.ACT_BR_FW b) 0 16
  else signedOf 32 (s.leng.out.getD b 0#32).toNat / 65536

/-- The sequencer runs a sequence. -/
def seqRuns (s : State) : Bool := s.bit Reg.ACT_JMP_CTRL 0
/-- Axis of the sequence: 0 focus, 1 tracking. -/
def seqAxis (s : State) : Nat := s.fld Reg.ACT_JMP_CTRL 2 1
/-- Sweep mode. -/
def seqSweep (s : State) : Bool := s.bit Reg.ACT_JMP_CTRL 1
/-- Sign of DIR. -/
def seqSign (s : State) : Int := if s.bit Reg.ACT_JMP_CTRL 3 then -1 else 1
/-- The sequencer's state. -/
def seqState (s : State) : Nat := s.fld Reg.ACT_JMP_STAT 0 3
/-- Sets the sequencer's state. -/
def State.setSeq (s : State) (st : Nat) : State := s.setFld Reg.ACT_JMP_STAT 0 3 st

/-- A sequence ends with a state (R172 to R175). -/
def seqEnd (s : State) (st : Nat) : State :=
  ((s.setBit Reg.ACT_JMP_CTRL 0 false).setSeq st).setSv { s.sv with returnDue := false, braking := false }

/-- A sequence that is to swap the shadow runs (R207, R208). -/
def swapSeqRuns (s : State) : Bool := seqRuns s && s.bit Reg.ACT_JMP_CTRL 4

/-- The focus hold word's value for the bridge (R184, R196). -/
def holdValue (s : State) : Int := signedOf 32 s.leng.fhold.toNat / 65536

/-- A cause whose exit condition needs waiting for (R183). -/
def causeWaits (c : Nat) : Bool := c == 1 || c == 3 || c == 4 || c == 6

/-- The servo enters the safe state with a cause, or counts a further cause (R183, R184). -/
def enterSafe (s : State) (cause : Nat) : State :=
  let arrive := fun (s : State) =>
    let s := s.err pgACT 0x0B03 cause
    if causeWaits cause then s.setBit Reg.ACT_SAFE (15 + cause) true else s
  if s.bit Reg.ACT_SAFE 8 then arrive s
  else
    let s := dropGate s 2
    let s := ((s.setBit Reg.ACT_SAFE 8 true).setFld Reg.ACT_SAFE 12 4 cause).setBit (Reg.STAT pgACT) 8 true
    let s := (arrive s).raise pgACT 4
    let s := trcEvent (s.report pgACT 0x0B03 15 []) 3
    let s := if seqRuns s then seqEnd s 7 else s
    let s := s.setL { s.leng with actSwap := false }
    let s := s.setSv { s.sv with latched := holdValue s, ctl := List.replicate 4 .safe }
    stpSafeEnter (drive (drive s 0 s.sv.latched) 1 0)

/-- A safe-state cause's exit condition comes to hold (R184). -/
def causeCleared (s : State) (cause : Nat) : State := s.setBit Reg.ACT_SAFE (15 + cause) false

/-- SRV_MODE's TMODE (R164, R195). -/
def tmode (s : State) : Nat := fieldOf (s.mort 0x80) 0 2

/-- ACT forces TMODE to SEEK as it gives the tracking bridge back (R175). -/
def forceSeek (s : State) : State := s.putMort 0x80 (putField (s.mort 0x80) 0 2 1)

/-- A sequence ends before DONE, with no swap (R181): focus takes the safe state, tracking returns in SEEK (R175). -/
def seqBreak (s : State) (st : Nat) : State :=
  let s := s.setL { s.leng with actSwap := false }
  if seqAxis s = 0 then
    let s := enterSafe (seqEnd s st) 5
    (s.setSeq st).raise pgACT 1
  else
    ((forceSeek (seqEnd s st)).setCtl 1 .leng).raise pgACT 1

/-- SRV_STAT (R171). -/
def srvStat (s : State) : Nat :=
  (if bridgeCtl s 0 = .seq then 1 else 0) + (if bridgeCtl s 1 = .seq then 2 else 0) +
  (if s.bit Reg.ACT_SAFE 8 then 4 else 0) +
  (match s.sv.shockTick with
    | some t => if s.ticks ≤ t + 4096 then 8 else 0
    | none => 0) +
  (if s.wenc.gate then 16 else 0)

/-- The sweep's ramp one tick on (R173). -/
def sweepTick (s : State) : State :=
  if seqRuns s ∧ seqSweep s ∧ seqState s = 2 ∧ bridgeCtl s 0 = .seq ∧ s.sv.returnDue = false then
    let r := min (s.sv.ramp + (s.fld Reg.ACT_JMP_SWEEP 0 16 : Int)) (s.sfld Reg.ACT_JMP_LIM 16 16 * 512)
    drive (s.setSv { s.sv with ramp := r }) 0 (r / 512)
  else s

/-- What a bridge carries when nothing moves it: in the safe state and in the hold after it the focus bridge carries the
latched hold value (R184, R185). -/
def redrive (s : State) (b : Nat) : State :=
  if b = 0 ∧ (bridgeCtl s 0 = .safe ∨ bridgeCtl s 0 = .hold) then drive s 0 s.sv.latched
  else if bridgeCtl s b = .leng then drive s b (bridgeSource s b) else drive s b (bridgeOut s b)

/-- The bridges at a boundary that exchanges: a captured bridge returns, and each under LENG takes its source (R170 to
R172, R191). -/
def bridgesTick (s : State) : State :=
  let s := if s.sv.returnDue then (s.setCtl (seqAxis s) .leng).setSv { s.sv with
      returnDue := false, ctl := s.sv.ctl.set (seqAxis s) .leng } else s
  (List.range 4).foldl redrive s

/-- A focus bridge whose return falls due at a boundary with an overrun is driven at the hold word (R211). -/
def bridgeLate (s : State) : State :=
  if s.sv.returnDue ∧ seqAxis s = 0 then drive (s.setSv { s.sv with latched := holdValue s }) 0 (holdValue s) else s

/-! ## Servo ADC -/

/-- Channels without a connection on the LN7720 (R157). -/
def channelAbsent (s : State) (k : Nat) : Bool := s.variant == .ln7720 && [2, 3, 6, 7, 10, 11, 13, 15].contains k

/-- A code saturated to 12 signed bits. -/
def sat12 (c : Int) : Int := max (-2048) (min 2047 c)

/-- A trimmed sample in 1/16 code (R159). -/
def trimmed (s : State) (k : Nat) (code : Int) : Int :=
  let g := s.sfld (Reg.SADC_CH_GAIN k) 0 12
  let o := s.sfld (Reg.SADC_CH_OFS k) 0 12
  let v := (code * (8192 + g) * 16 + o * 2 * 8192 + 4096) / 8192
  let v := if s.bit (Reg.SADC_CH_CFG k) 4 then -v else v
  max (-32768) (min 32767 v)

/-- The samples DEC selects, out of those whose conversion has ended, newest first (R159). -/
def selectSamples (dec : Nat) (l : List Int) : List Int := l.take (if dec = 0 then 32 else if dec = 1 then 8 else 1)

/-- The code channel k converts (R156, R157): its alternate input where ALT selects it, 0 on a channel without a
connection; saturated. -/
def channelCode (s : State) (x : ServoSample) (k : Nat) : Int :=
  sat12 (if channelAbsent s k then 0 else if 28 ≤ k ∧ s.bit Reg.SADC_CFG k then x.alt.getD (k - 28) 0 else x.sv.getD k 0)

/-- One channel's tick value, the mean of the samples DEC selects (R159, R187); nothing before the first sample. -/
def sadcChannel (s : State) (toMortar : Bool) (k : Nat) : State :=
  let sel := selectSamples (s.fld (Reg.SADC_CH_CFG k) 0 2) (s.sv.hist.getD k [])
  if sel.isEmpty then s
  else
    let v := sel.sum * 65536 / (sel.length : Int)
    let s := s.setReg (Reg.SADC_CH_VAL k) (Word.ofNat (bitsOf 16 (v / 65536) + bitsOf 12 (s.sv.raw.getD k 0) * 65536))
    if toMortar then s.setMort k (Word.ofNat (bitsOf 32 v)) else s

/-- SADC converts (R159, R187). -/
def sadcRuns (s : State) : Bool := s.bit Reg.SADC_CFG 0

/-- The tick values of all channels (R159); nothing while RUN is 0 or the page is frozen. -/
def sadcTick (s : State) (toMortar : Bool) : State :=
  if sadcRuns s ∧ s.frozen pgSADC = false then (List.range 32).foldl (fun s k => sadcChannel s toMortar k) s else s

/-- The tick value of a channel in 1/16 code (R187). -/
def tickVal (s : State) (k : Nat) : Int := s.sfld (Reg.SADC_CH_VAL k) 0 16

/-- SADC_GVEL.INT (R160): the greater of the last crossing interval and the time since the last counted crossing. -/
def gvel (s : State) : Nat := min 65535 (max s.sv.lastInt (s.sv.age / 4))

/-- The crossing interval grows with the time since the last counted crossing, 31.25 units of 20 ns in a tick without
samples (R160). -/
def gvelTick (s : State) : State :=
  if s.frozen pgSADC then s
  else
    let s := if s.sv.taken = 0 then s.setSv { s.sv with age := min (s.sv.age + 125) 262140 } else s
    s.setFld Reg.SADC_GVEL 0 16 (gvel s)

/-! ## Monitors -/

/-- The TE channel of the groove counter and of the tracking axis (R160, R532). -/
def techCh (s : State) : Nat := s.fld Reg.SADC_GCNT_CFG 0 5

/-- The magnitude of a signal in 1/16 code lies beyond a threshold in codes (R532). -/
def beyond (x : Int) (th : Nat) : Bool := decide (th * 16 < x.natAbs)

/-- Ticks in a row of the off-track monitor, of the focus-loss monitor and of the settle window, on tick values (R172, R182,
R532). -/
def monTick (s : State) : State :=
  let count := fun (c : Bool) (n : Nat) => if c then n + 1 else 0
  let off := s.bit Reg.ACT_MON_TRK 31 && beyond (tickVal s (techCh s)) (s.fld Reg.ACT_MON_TRK 0 12)
  let low := s.bit Reg.ACT_MON_FOC 31 && decide (tickVal s 1 < (s.fld Reg.ACT_MON_FOC 0 12 : Int) * 16)
  let e := tickVal s (if seqAxis s = 0 then 9 else techCh s)
  let inWin := seqRuns s && seqState s == 4 && !s.sv.returnDue && !beyond e (s.fld Reg.ACT_SETTLE 16 12)
  s.setSv { s.sv with
    offRun := count off s.sv.offRun
    lossRun := count low s.sv.lossRun
    setRun := count inWin s.sv.setRun }

/-! ## The sequencer on samples (R172, R173, R532) -/

/-- The brake condition is met, in the coast or in the kick (R172). -/
def brakeStart (s : State) : State :=
  if seqRuns s ∧ !seqSweep s ∧ (seqState s = 1 ∨ seqState s = 2) then
    let s := (s.setSeq 3).setSv { s.sv with braking := true }
    drive s (seqAxis s) (s.sv.base - seqSign s * (s.fld Reg.ACT_JMP_BRAKE 0 16 : Int))
  else s

/-- Capture (R172, R173, R181): the bridge returns at the next boundary, with any swap; after a sweep the focus integrator is
preloaded with the sweep current. -/
def seqCapture (s : State) : State :=
  if seqRuns s ∧ ((seqSweep s = true ∧ seqState s = 2) ∨ (seqSweep s = false ∧ seqState s = 3)) then
    let s := if seqSweep s then s.putMort (s.fld Reg.LENG_FHOLD 0 12) (Word.ofNat (bitsOf 32 (bridgeOut s 0 * 65536))) else s
    let s := (s.setSeq 4).setSv { s.sv with returnDue := true, setRun := 0 }
    if s.bit Reg.ACT_JMP_CTRL 4 then s.setL { s.leng with actSwap := true } else s
  else s

/-- Grooves or S-curves the sequence counts to, and has counted (R172, R188). -/
def seqCount (s : State) : Nat := s.fld Reg.ACT_JMP_CTRL 8 4
def seqCounted (s : State) : Nat := s.fld Reg.ACT_JMP_STAT 4 4
/-- One more is counted. -/
def seqTally (s : State) : State := s.setFld Reg.ACT_JMP_STAT 4 4 (min 15 (seqCounted s + 1))

/-- A crossing of the hysteresis band whose zero sample passed the sum test is a groove centre (R160): the counter and the
interval take it, and a tracking sequence that moves its way counts it (R172). -/
def grooveCounted (outward : Bool) (zeroAge : Nat) (s : State) : State :=
  let n := s.sfld Reg.SADC_GCNT 0 24 + (if outward then 1 else -1)
  let gap := min 65535 ((s.sv.age - zeroAge) / 4)
  let s := (s.setSfld Reg.SADC_GCNT 0 24 n).setSv { s.sv with lastInt := gap, age := zeroAge }
  let s := s.setBit Reg.SADC_GVEL 16 outward
  if seqRuns s ∧ seqAxis s = 1 ∧ seqState s ≤ 3 ∧ outward = !s.bit Reg.ACT_JMP_CTRL 3 then seqTally s else s

/-- A crossing that fails the sum test is a land: after COUNT - 1 groove centres a tracking jump brakes there (R172). -/
def landCrossed (s : State) : State :=
  if seqAxis s = 1 ∧ seqCount s ≤ seqCounted s + 1 then brakeStart s else s

/-- The running mean of SUMCH with one more sample, in 2^-20 of 1/16 code (R160). -/
def grooveMean (g : Groove) (sum : Int) : Int := g.mean + (sum * 1048576 - g.mean) / 32768

/-- TE's last zero sample seen from a sample of TECH and SUMCH: its age in quarters of 20 ns and its sum test (R160). -/
def grooveZero (g : Groove) (te sum : Int) : Option (Nat × Bool) :=
  let passed := (decide (g.te < 0) && decide (0 ≤ te)) || (decide (0 < g.te) && decide (te ≤ 0))
  if passed then some (0, decide (grooveMean g sum < sum * 1048576)) else g.zero.map (fun z => (z.1 + 4, z.2))

/-- The side of the hysteresis band a sample of TECH lies beyond: 1 above, -1 below, 0 within (R160). -/
def grooveSide (s : State) (te : Int) : Int :=
  let band : Int := s.fld Reg.SADC_GCNT_CFG 16 12 * 16
  if band < te then 1 else if te < -band then -1 else 0

/-- The groove counter holds a sample of TECH and of SUMCH (R160). -/
def grooveTaken (te sum : Int) (s : State) : State :=
  let g := s.sv.groove
  s.setSv { s.sv with
    groove := ⟨te, if grooveSide s te = 0 then g.side else grooveSide s te, grooveZero g te sum, grooveMean g sum⟩
    age := min (s.sv.age + 4) 262140 }

/-- The groove counter takes a sample of TECH and of SUMCH (R160). -/
def grooveSample (te sum : Int) (s : State) : State :=
  let u := grooveTaken te sum s
  if grooveSide s te ≠ 0 ∧ s.sv.groove.side = -grooveSide s te then
    match grooveZero s.sv.groove te sum with
    | some (a, true) => grooveCounted (grooveSide s te == 1) a u
    | some (_, false) => landCrossed u
    | none => u
  else u

/-- SUM1 exceeds CAPSUM (R172). -/
def sumCaptures (s : State) (sum : Int) : Bool := decide ((s.fld Reg.ACT_JMP_CAP 0 12 : Int) * 16 < sum)

/-- A focus sequence counts S-curves: a jump from GO to capture, a sweep in its ramp (R172, R173). -/
def countsCurves (s : State) : Bool :=
  seqRuns s && seqAxis s == 0 && (if seqSweep s then seqState s == 2 else decide (seqState s ≤ 3))

/-- A lobe of sign `g` begins: the opposite of a first lobe ends an S-curve, else it is a first lobe; the first lobe of the
COUNT-th S-curve starts a jump's brake (R172). -/
def lobeBegins (g : Int) (s : State) : State :=
  if s.sv.lobe = -g then seqTally (s.setSv { s.sv with lobe := 0, excur := g })
  else
    let s := s.setSv { s.sv with lobe := g, excur := g }
    if seqCount s ≤ seqCounted s + 1 then brakeStart s else s

/-- A focus sequence takes a sample of FE1 and SUM1 (R172): SUM1 at CAPSUM or below ends every lobe. -/
def curveSample (fe sum : Int) (s : State) : State :=
  if !countsCurves s then s
  else if !sumCaptures s sum then s.setSv { s.sv with lobe := 0, excur := 0 }
  else
    let g : Int := if beyond fe (s.fld Reg.ACT_JMP_CAP 16 12) then (if 0 < fe then 1 else -1) else 0
    if g ≠ 0 ∧ g ≠ s.sv.excur then lobeBegins g s else s.setSv { s.sv with excur := g }

/-- The axis may capture at a sample of its error and of SUM1 (R172, R173): a jump whose brake has started, tracking only
below 0.20 µm per 50 µs; a sweep once the first lobe of its COUNT-th S-curve has begun. -/
def capturesAt (s : State) (e sum : Int) : Bool :=
  seqRuns s && !beyond e (s.fld Reg.ACT_JMP_CAP 16 12) && sumCaptures s sum &&
  (if seqSweep s then
    seqState s == 2 && decide (seqCount s ≤ seqCounted s + 1) && (s.sv.lobe != 0 || decide (seqCount s ≤ seqCounted s))
  else seqState s == 3 && (seqAxis s == 0 || decide (2500 ≤ gvel s)))

/-- A shock (R171, R182): SHOCK stands for 4,096 ticks. -/
def shockHits (s : State) : State := (s.setSv { s.sv with shockTick := some s.ticks }).raise pgACT 6

/-- ACT takes the trimmed samples of one conversion (R172, R173, R182, R532). -/
def actSample (was : State) (v : Nat → Int) (s : State) : State :=
  let s := curveSample (v 9) (v 1) s
  let s := if seqState was = seqState s ∧ capturesAt s (if seqAxis s = 0 then v 9 else v (techCh s)) (v 1) then seqCapture s else s
  if s.bit Reg.ACT_MON_SHK 31 && beyond (v 30) (s.fld Reg.ACT_MON_SHK 0 12) then shockHits s else s

/-- Overrange of a conversion (R159): each channel whose code is at an end of the range. -/
def overrange (l : List Int) (s : State) : State :=
  ((List.range 32).filter (fun k => l.getD k 0 == -2048 || l.getD k 0 == 2047)).foldl
    (fun s k => ((s.setBit Reg.SADC_OVR k true).raise pgSADC 0).err pgSADC 0x0A02 k) s

/-- The trimmed sample of channel k in one conversion (R159). -/
def sampleVal (s : State) (x : ServoSample) (k : Nat) : Int := trimmed s k (channelCode s x k)

/-- The samples of TECH and of SUMCH in one conversion (R160). -/
def teSample (s : State) (x : ServoSample) : Int := sampleVal s x (techCh s)
def sumSample (s : State) (x : ServoSample) : Int := sampleVal s x (s.fld Reg.SADC_GCNT_CFG 8 5)

/-- SADC holds one conversion: the last 32 trimmed samples of each channel, and its overrange (R159). -/
def sampleHeld (s : State) (x : ServoSample) : State :=
  let codes := (List.range 32).map (channelCode s x)
  overrange codes (s.setSv { s.sv with
    hist := List.zipWith (fun h k => (sampleVal s x k :: h).take 32) s.sv.hist (List.range 32), raw := codes
    taken := s.sv.taken + 1 })

/-- SADC and its groove counter take one conversion (R159, R160). -/
def sampleTaken (s : State) (x : ServoSample) : State :=
  if s.frozen pgSADC then sampleHeld s x else grooveSample (teSample s x) (sumSample s x) (sampleHeld s x)

/-- One conversion of all channels (R159, R160, R532): trimmed samples go to the tick values, the groove counter and ACT. -/
def sampleStep (s : State) (x : ServoSample) : State :=
  if !sadcRuns s then s else actSample s (sampleVal s x) (sampleTaken s x)

/-- Conversions in turn; SADC_GVEL follows (R160). -/
def feed (x : List ServoSample) (s : State) : State :=
  let s := x.foldl sampleStep s
  if s.frozen pgSADC then s else s.setFld Reg.SADC_GVEL 0 16 (gvel s)

end Sys2Proof.Machine
end

