-- ==== Sys2Proof/Machine/LengOps.lean ====
section
/-! DEFINITION. The loop engine's programs, checks, routes, batches and trace captures (R192, R195, R201 to R217). -/
namespace Sys2Proof.Machine

/-- Page of TRC. -/
abbrev pgTRC : Nat := 0x08

/-! ## Programs and checks -/

/-- Program p's EN bit. -/
def progEn (s : State) (p : Nat) : Bool := s.bit (Reg.LENG_PROG_CFG p) 0
/-- First word and last word of a program's region. -/
def progBase (s : State) (p : Nat) : Nat := s.fld (Reg.LENG_PROG_REG p) 0 12
def progLimit (s : State) (p : Nat) : Nat := s.fld (Reg.LENG_PROG_REG p) 16 12
/-- Its stage count, divider and phase as the register holds them. -/
def progNstage (s : State) (p : Nat) : Nat := s.fld (Reg.LENG_PROG_CFG p) 8 7
def progDiv (s : State) (p : Nat) : Nat := s.fld (Reg.LENG_PROG_CFG p) 4 4
def progPhase (s : State) (p : Nat) : Nat := s.fld (Reg.LENG_PROG_CFG p) 16 14

/-- A descriptor word of an enabled program (R193, R202). -/
def descWord (s : State) (a : Nat) : Bool :=
  (List.range 16).any (fun p => progEn s p && decide (progBase s p ≤ a) && decide (a < progBase s p + 4 * progNstage s p))

/-- A word that a stage may write (R202, reason 5). -/
def outWritable (s : State) (a : Nat) : Bool :=
  ((decide (0x28 ≤ a) && decide (a < 0x30)) || (decide (0x60 ≤ a) && decide (a < 0x800))) && !descWord s a

/-- LENG is stopped (R212). -/
def lengStopped (s : State) : Bool := s.bit (Reg.STAT pgLENG) 8

/-- The address a check reads: the staged set of the swap half lies in the shadow (R206). -/
def checkAddr (shadow : Bool) (a : Nat) : Nat := if shadow && decide (0x400 ≤ a) && decide (a < 0x800) then a + 0x400 else a

/-- An input address that is never valid (R202, reason 4). -/
def badInput (first : Bool) (a : Nat) : Bool :=
  (decide (0x800 ≤ a) && decide (a ≤ 0xFFD)) || decide (0xFFF < a) || (first && a == 0xFFE)

/-- A run of words inside one live half. -/
def inLiveHalf (a n : Nat) : Bool := decide (a + n ≤ 0x800) && decide (a / 0x400 = (a + n - 1) / 0x400)

/-- Reasons 4, 5 and 7 of a stage, 0 where there is none (R202). -/
def stageWiring (s : State) (first : Bool) (d : StageDesc) : Nat :=
  let ins := d.inputs ++ (if d.hasFf ∧ d.ffidx = 0 ∧ d.ty ≠ 9 then [d.ff] else [])
  let outs := if d.ty = 9 then [d.out, d.out + 1, d.out + 2, d.out + 3] else [d.out]
  if ins.any (badInput first) || (d.ty == 9 && !inLiveHalf d.inC 512) then 4
  else if (d.ty == 9 && d.out % 4 != 0) || outs.any (fun o => !(outWritable s o || (o == 0xFFF && d.cmode != 2))) then 5
  else if decide (10 ≤ d.ffidx) || (d.ty == 9 && d.hasFf) || (d.ffidx != 0 && !inLiveHalf d.ff (2 ^ d.ffidx)) then 7
  else 0

/-- The threshold slots of a type that must be 0 or more, and those only free of a shift (R199, R228). -/
def thresholdSlots (ty : Nat) : List (Nat × Bool) :=
  match ty with
  | 2 => [(2, true)]
  | 6 => [(0, false), (1, false)]
  | 7 => [(0, true), (1, true)]
  | 9 => [(7, false)]
  | _ => []

/-- The thresholds, given as values of their slots in turn, break R199 (reason 6). -/
def thresholdsBad (d : StageDesc) (vals : List Int) : Bool :=
  ((thresholdSlots d.ty).zip vals).any (fun q => fieldOf d.d3 (4 * q.1.1) 4 != 0 || (q.1.2 && decide (q.2 < 0))) ||
  (d.ty == 6 && decide (vals.getD 0 0 < vals.getD 1 0))

/-- Checks stage `i` of a region: the reason it is refused for, 0 for none, and its clocks (R202). -/
def checkStage (r : LRun) (shadow : Bool) (base limit i : Nat) : Nat × Nat × LRun :=
  let a := base + 4 * i
  if limit < a + 3 then (2, 0, r)
  else
    let d := r.desc (checkAddr shadow a)
    if d.2.stop.isSome then (10, 0, d.2)
    else if 10 ≤ d.1.ty then (3, 0, d.2)
    else if d.1.pbase < base ∨ limit + 1 < d.1.pbase + stageWords d.1.ty then (2, 0, d.2)
    else
      let t := d.2.rds ((thresholdSlots d.1.ty).map (fun q => checkAddr shadow (d.1.pbase + q.1)))
      let w := stageWiring d.2.s (i == 0) d.1
      if t.2.stop.isSome then (10, 0, t.2)
      else if w = 4 ∨ w = 5 then (w, 0, t.2)
      else if thresholdsBad d.1 t.1 then (6, 0, t.2)
      else (w, d.1.clocks, t.2)

/-- Checks the stages from `i` on, `n` of them: reason, stage and the clocks of all. -/
def checkStages (shadow : Bool) (base limit : Nat) : Nat → Nat → Nat → LRun → (Nat × Nat × Nat) × LRun
  | 0, i, clk, r => ((0, i, clk), r)
  | n + 1, i, clk, r =>
    let q := checkStage r shadow base limit i
    if q.1 ≠ 0 then ((q.1, i, clk), q.2.2) else checkStages shadow base limit n (i + 1) (clk + q.2.1) q.2.2

/-- Clocks of the worst tick of a set of programs (R199, R202): due together where their phases agree. -/
def worstTick (l : List Prog) : Nat :=
  let due := fun (p q : Prog) => decide (q.div ≤ p.div) && p.phase % 2 ^ q.div == q.phase
  l.foldl (fun m p => max m (2 + ((l.filter (due p)).map (·.clocks)).sum)) 0

/-- Checks a program against what its registers hold (R202): reason, stage, and the program as it would run. -/
def checkProg (s : State) (shadow : Bool) (p : Nat) : Nat × Nat × Prog × State :=
  let g : Prog := ⟨p, progNstage s p, progDiv s p, progPhase s p, progBase s p, progLimit s p, 0, false⟩
  let overlap := (List.range 16).any (fun q => q != p && progEn s q && decide (progBase s q ≤ g.limit) && decide (g.base ≤ progLimit s q))
  if g.nstage = 0 ∨ 64 < g.nstage ∨ 14 < g.div ∨ 2 ^ g.div ≤ g.phase then (8, 0, g, s)
  else if g.base % 4 ≠ 0 ∨ g.limit < g.base ∨ !inLiveHalf g.base (g.limit + 1 - g.base) ∨ overlap then (1, 0, g, s)
  else
    let q := checkStages shadow g.base g.limit g.nstage 0 2 ⟨s, 0, none⟩
    (q.1.1, q.1.2.1, { g with clocks := q.1.2.2 }, q.2.s)

/-- The enabled programs with one replaced or added, in increasing number. -/
def withProg (l : List Prog) (g : Prog) : List Prog :=
  l.filter (fun q => decide (q.prog < g.prog)) ++ [g] ++ l.filter (fun q => decide (g.prog < q.prog))

/-- LENG_CYC.WORST follows the enabled set. -/
def setWorst (s : State) : State :=
  s.setFld Reg.LENG_CYC 16 9 (worstTick (s.leng.progs.filter (fun q => !q.stopping)))

/-- A check has failed (R202). -/
def checkFailed (s : State) (reason p stage : Nat) : State :=
  let s := s.setReg Reg.LENG_LOADERR (Word.ofNat (reason % 16 + p % 16 * 256 + stage % 64 * 4096))
  (s.raise pgLENG 2).err pgLENG 0x0D03 p

/-- STAT.BUSY of LENG while a check runs. -/
def setCheck (s : State) (c : Option LengCheck) : State :=
  (s.setL { s.leng with check := c }).setBit (Reg.STAT pgLENG) 0 c.isSome

/-- The programs LENG is to go on running, with their clocks as checked. -/
def setProgs (s : State) (l : List Prog) : State := setWorst (s.setL { s.leng with progs := l })

/-- Drops a program whose check failed. -/
def dropProg (s : State) (p : Nat) : State :=
  setProgs (s.setBit (Reg.LENG_PROG_CFG p) 0 false) (s.leng.progs.filter (fun q => q.prog != p))

/-! ## Stop and overrun -/

/-- LENG stops (R212); `word` is the word it could not read, if it was one. -/
def lengStop (s : State) (word : Option Nat) : State :=
  if lengStopped s then s
  else
    let s := ((s.setBit (Reg.STAT pgLENG) 8 true).raise pgLENG 1).err pgLENG 0x0D04 0
    let s := s.report pgLENG 0x0D04 5 (match word with
      | some a => [a]
      | none => [])
    let s := s.setL { s.leng with overran := none, rest := none, late := false }
    enterSafe s 6

/-- The computation of tick `k` overran in program `p` (R209, R210). -/
def overrun (s : State) (k p : Nat) : State :=
  let s := ((s.addSat Reg.LENG_OVR 0 16 1).setReg Reg.LENG_OVR_TICK (Word.ofNat k)).raise pgLENG 0
  let s := s.err pgLENG 0x0D02 p
  let win := k % 2 ^ 32 / 1024
  let n := s.leng.ovrSince + 1
  let s :=
    if s.leng.ovrWin = some win then s.setL { s.leng with ovrSince := n }
    else
      let s := s.report pgLENG 0x0D02 5 [n]
      s.setL { s.leng with ovrWin := some win, ovrSince := 0 }
  let s := trcEvent s 4
  let third := s.leng.ovrTicks[2]?
  let s := s.setL { s.leng with ovrTicks := (k :: s.leng.ovrTicks).take 3, overran := none, late := true }
  match third with
  | some t => if k < t + 1024 then enterSafe s 1 else s
  | none => s

/-! ## Trace capture -/

/-- Samples a ring holds. -/
def trcN (s : State) (c : Nat) : Nat := 2 ^ s.fld (Reg.TRC_CH_SIZE c) 0 5 / 4

/-- Drains a channel's buffer into SRAM as master 5 (R214). -/
def trcDrain (s : State) (c : Nat) : State :=
  let t := s.trc c
  let s := t.buf.foldl (fun s q => memWrite s .leng q.1 (bytesLE 4 q.2)) s
  s.setTrc c { t with buf := [] }

/-- A channel's sample falls due at this boundary (R214, R216): it is enabled, not done, and where it has triggered, samples
of its POST are left. -/
def trcDue (s : State) (c : Nat) : Bool :=
  trcOn s c && !trcFlag s c 2 && s.ticks % 2 ^ s.fld (Reg.TRC_CH_CFG c) 4 4 == 0 && !(trcFlag s c 1 && (s.trc c).post == 0)

/-- A sample crosses the channel's threshold in its direction (R216). -/
def trcCross (s : State) (c : Nat) (v : Int) : Bool :=
  let thr := signedOf 32 (s.reg (Reg.TRC_CH_THR c)).toNat
  s.fld (Reg.TRC_CH_TRIG c) 0 3 == 1 && match (s.trc c).prev with
    | some p => if s.bit (Reg.TRC_CH_TRIG c) 4 then decide (thr < p) && decide (v ≤ thr) else decide (p < thr) && decide (thr ≤ v)
    | none => false

/-- A channel whose sample is due takes it, or loses it to a full buffer (R214, R217). The first of the lists gains it where
it took a sample, the second where that sample crossed its threshold. -/
def trcCapture (q : List Nat × List Nat × State) (c : Nat) : List Nat × List Nat × State :=
  let s := q.2.2
  if !trcDue s c then q
  else
    let t := s.trc c
    if 16 ≤ t.buf.length then
      let h := trcHead c 3
      let s := s.setMort h (putField (s.mort h) 16 16 (min 65535 (fieldOf (s.mort h) 16 16 + 1)))
      (q.1, q.2.1, (s.raise pgTRC 2).err pgTRC 0x0E02 c)
    else
      let w := s.mort (s.fld (Reg.TRC_CH_CFG c) 16 12)
      let v := signedOf 32 w.toNat
      let i := trcWidx s c
      let a := (s.reg (Reg.TRC_CH_BASE c)).toNat + 4 * (i % trcN s c)
      let post := if trcFlag s c 1 then t.post - 1 else t.post
      let s' := (s.setMort (trcHead c 0) (Word.ofNat (i + 1))).setTrc c ⟨post, some v, t.buf ++ [(a, w.toNat)]⟩
      (q.1 ++ [c], if trcCross s c v then q.2.1 ++ [c] else q.2.1, s')

/-- Step 1 of the exchange (R190, R214 to R217): buffers drain where SRAM accepts, the channels due capture, and those whose
sample crossed their threshold trigger. -/
def trcTick (s : State) (stalls : List Nat) : State :=
  if s.frozen pgTRC then s
  else
    let open_ := (List.range 8).filter (fun c => !stalls.contains c)
    let q := (List.range 8).foldl trcCapture ([], [], open_.foldl trcDrain s)
    open_.foldl trcDrain (q.2.1.foldl (trcTrigger q.1) q.2.2)

/-! ## Exchange steps -/

/-- Step 2: a pending swap takes effect (R207). -/
def lengSwap (s : State) : State :=
  let s := s.setL { s.leng with actSwap := false }
  let n := s.fld Reg.LENG_SHADOW 8 8
  let y := bankY s
  let s := s.setReg Reg.LENG_SHADOW (Word.ofNat ((n + 1) % 256 * 256 + (if y then 0 else 65536)))
  let s := (s.setBit (Reg.STAT pgLENG) 9 false).raise pgLENG 4
  let s := trcEvent s 5
  let re := fun (g : Prog) => if 0x400 ≤ g.base then
      { g with clocks := (checkStages false g.base g.limit g.nstage 0 2 ⟨s, 0, none⟩).1.2.2 } else g
  let l := s.leng.progs.map re
  setProgs (l.foldl (fun s g => s.setReg (Reg.LENG_PROG_CYC g.prog) (Word.ofNat (min g.clocks 255))) s) l

/-- A swap is pending: ACT asked for it or firmware wrote SWAPNOW (R207). -/
def swapPending (s : State) : Bool := s.leng.actSwap || s.bit Reg.LENG_SHADOW 2

/-- LENG reads a word in the exchange, with the stall and the stop that a reading of LENG brings (R194): its value, none where
the word stops LENG. -/
def exchangeRead (s : State) (a : Nat) : Option Int × State :=
  let r := (⟨s, 0, none⟩ : LRun).rd a
  match r.2.stop with
  | some w => (none, lengStop r.2.s (some w))
  | none => (some r.1, r.2.s.setL { r.2.s.leng with stall := r.2.s.leng.stall + r.2.clk })

/-- COND (R195): SRV_STAT's flags, SRV_MODE as LENG reads it, and whether no lane is in TRACK. -/
def condTick (s : State) : State :=
  let tracking := (List.range 4).any (fun l => s.fld (Reg.STAT (0x0A + l)) 8 3 == 3)
  let q := exchangeRead s 0x80
  match q.1 with
  | some x =>
    let md := bitsOf 2 x
    q.2.setMort 0x20 (Word.ofNat (srvStat s % 32 + (if md = 1 then 32 else 0) + (if md = 2 then 64 else 0) +
      (if tracking then 0 else 128)))
  | none => q.2

/-- The value a route computes from its source (R200, R213). -/
def routeValue (s : State) (r : Nat) (x : Int) : Int :=
  let c := signedOf 32 (s.reg (Reg.LENG_EXT_SCALE r)).toNat
  let o := signedOf 32 (s.reg (Reg.LENG_EXT_OFS r)).toNat
  sat32 (rndA (x * c / ((2 ^ (16 - s.fld (Reg.LENG_EXT_CFG r) 4 4) : Nat) : Int) + o * 32768))

/-- Step 4: an external route writes its target (R213). The target's old value is read where SLEW needs it. -/
def routeTick (s : State) (r : Nat) : State :=
  if !s.bit (Reg.LENG_EXT_CFG r) 0 then s
  else
    let t := s.fld (Reg.LENG_EXT_CFG r) 16 12
    let sl : Int := s.fld (Reg.LENG_EXT_SLEW r) 0 31
    let x := exchangeRead s (if s.bit (Reg.LENG_EXT_CFG r) 1 then 0x24 else 0x1F)
    let old := if sl = 0 then (some 0, x.2) else exchangeRead x.2 t
    match x.1, old.1 with
    | some x, some o =>
      let v := routeValue s r x
      let w := wordOfInt (if sl = 0 then v else clampInt (o - sl) (o + sl) v)
      old.2.setMort t w
    | _, _ => old.2

/-- Step 5: the entries of a batch update land (R204). -/
def batchTick (s : State) : State :=
  if s.bit Reg.LENG_UPD_CTRL 31 then
    let s := s.leng.upd.foldl (fun s q => s.putMort q.1 q.2) s
    (s.setL { s.leng with upd := [] }).setBit Reg.LENG_UPD_CTRL 31 false
  else s

/-- The supervisor tick (R192). -/
def supTick (s : State) : State :=
  if s.ticks % 2 ^ s.fld Reg.TICK_SUP 0 4 = s.fld Reg.TICK_SUP 16 10 then
    let s := if s.leng.supOut then ((s.addSat Reg.TICK_LATE 0 16 1).raise 0x01 1).err 0x01 0x0C02 0 else s
    (s.setL { s.leng with supOut := true }).raise 0x01 0
  else s

/-- The programs due in a tick, in increasing number (R201). -/
def dueProgs (s : State) : List Prog := s.leng.progs.filter (fun g => s.ticks % 2 ^ g.div == g.phase)

/-- Runs programs in turn until `lim` clocks are used: the run, and what is left of it (R198, R199, R209). -/
def runProgs (cond lim : Nat) : List Prog → LRun → LRun × Option LengRest
  | [], r => (r, none)
  | g :: t, r =>
    let q := runStages cond lim g.nstage g.base 0 { r with clk := r.clk + 2 }
    if q.2.stop.isSome then (q.2, none)
    else if q.1.1 = 0 then runProgs cond lim t q.2
    else (q.2, some ⟨cond, g.prog, q.1.1, q.1.2.1, q.1.2.2, t, q.2.clk⟩)

/-- Goes on with a computation that overran, its clocks stalled by 4 more, until `lim` (R209). -/
def resumeProgs (lim : Nat) (x : LengRest) (s : State) : LRun × Option LengRest :=
  let q := runStages x.cond lim x.left x.addr x.prev ⟨s, x.clk + 4, none⟩
  if q.2.stop.isSome then (q.2, none)
  else if q.1.1 = 0 then runProgs x.cond lim x.after q.2
  else (q.2, some { x with left := q.1.1, addr := q.1.2.1, prev := q.1.2.2, clk := q.2.clk })

/-- What a run of LENG leaves: a stop at an uncorrectable word, its clocks once it has ended, or the rest that is still to
run (R209, R212, R219). -/
def endRun (q : LRun × Option LengRest) : State :=
  match q.1.stop, q.2 with
  | some a, _ => lengStop q.1.s (some a)
  | none, some x => q.1.s.setL { q.1.s.leng with rest := some x, overran := some x.prog }
  | none, none =>
    let s := q.1.s.setL { q.1.s.leng with rest := none, overran := none }
    let s := s.setFld Reg.LENG_CYC 0 9 (min q.1.clk 511)
    s.setFld Reg.LENG_CYCPK 0 10 (max (s.fld Reg.LENG_CYCPK 0 10) (min q.1.clk 1023))

/-- The compute phase of a tick (R190, R199, R209). -/
def compute (s : State) : State :=
  let s := if s.leng.progs.any (·.stopping) then setProgs s (s.leng.progs.filter (fun g => !g.stopping)) else s
  if lengStopped s then s
  else
    let due := dueProgs s
    if due.isEmpty then s.setFld Reg.LENG_CYC 0 9 0
    else endRun (runProgs (s.mort 0x20).toNat 476 due ⟨s, 2 + s.leng.stall, none⟩)

/-- The rest of a computation, in the tick after the one it overran (R209): its overrun has been counted. -/
def computeLate (s : State) : State :=
  match s.leng.rest with
  | some x =>
    let t := endRun (resumeProgs 976 x s)
    t.setL { t.leng with overran := none }
  | none => s

/-- A computation has not ended by the second boundary after it began: LENG stops and its consumers keep what they hold
(R209, R212). -/
def stopUnended (s : State) : State :=
  if s.leng.rest.isSome ∧ s.leng.late = false then lengStop (s.setL { s.leng with outNew := s.leng.out, vdqNew := false }) none else s

end Sys2Proof.Machine
end

