-- ==== Sys2Proof/Machine/RegRules.lean ====
section
/-! DEFINITION. When a written register value is legal: the ranges of the field tables and the conditions of the rules that
refuse a write (R14 and R81, R113, R150, R186, R220, R245, R264, R285, R309, R332, R370, R405, R434, R454, R474, R492,
R503), and the bits that cannot be set. -/
namespace Sys2Proof.Machine

/-- A field's range holds in a word (R14). -/
def rangeOk (x : Word) (r : FieldRange) : Bool :=
  let n := fieldOf x r.lo r.width
  let v : Int := if r.signed then signedOf r.width n else n
  decide (r.min ≤ v) && decide (v ≤ r.max)

/-- A base register of SRAM slots: aligned, inside SRAM, with all its slots (R83, R114, R116, R151). -/
def slotsOk (base align slots size : Nat) : Bool :=
  decide (base % align = 0) && sramRange base (max (slots * size) 1)

/-- A pointer into SRAM with an alignment. -/
def ptrOk (a align n : Nat) : Bool := decide (a % align = 0) && sramRange a n

/-- Live mortar words: the fixed half and the live bank (R195, R191). -/
def liveWord (a : Nat) : Bool := decide (a < 0x800)

/-- A state of the sequencers of ACT: a sequence runs while GO reads 1. -/
def actSeqRuns (s : State) : Bool := s.bit Reg.ACT_JMP_CTRL 0

/-- The legal sense range FS / RSH, 4.0 to 16.0 A: full scale 50, 100, 200, 400 mV over RSH mΩ (R246). -/
def senseOk (x : Word) : Bool :=
  let fs := 50 * 2 ^ fieldOf x 16 2
  let r := fieldOf x 24 8
  decide (4 * r ≤ fs) && decide (fs ≤ 16 * r)

/-- SPN state (R246). -/
def spnState (s : State) : Nat := s.fld (Reg.STAT 3) 8 4
/-- Over-voltage state of PWR (R286). -/
def ovState (s : State) : Nat := s.fld (Reg.STAT 2) 8 3
/-- Last-gasp state of PWR (R286). -/
def lgState (s : State) : Nat := s.fld (Reg.STAT 2) 12 3

/-- The window of an access table is legal: inside the target, LIMIT not below BASE (R431, R434). -/
def aclWindowOk (base limit : Word) (lo hi : Nat) : Bool :=
  let b := fieldOf base 12 20
  let l := fieldOf limit 12 20
  decide (lo / 4096 ≤ b) && decide (b ≤ l) && decide (l ≤ hi / 4096)

/-- A write of a window's BASE or LIMIT word is checked where it leaves the window enabled (R431). -/
def aclOk (s : State) (tbl lo hi a : Nat) (new : Word) : Bool :=
  let w := (a - tbl) / 0x40
  let b := tbl + 0x40 * w
  if a = b then (if fieldOf new 0 1 = 1 then aclWindowOk new (s.reg (b + 4)) lo hi else true)
  else if a = b + 4 then (if s.bit b 0 then aclWindowOk (s.reg b) new lo hi else true)
  else true

/-- A mirror instance breaks no condition of R420: granules in different macros, inside SRAM, ranges of equal size that
do not overlap. -/
def mirrorOk (pri sec pages : Nat) : Bool :=
  sramRange pri (pages * 4096) && sramRange sec (pages * 4096) &&
  decide ((pri - 0x10000000) / 0x400000 ≠ (sec - 0x10000000) / 0x400000) &&
  decide ((pri - 0x10000000) / 0x400000 = (pri + pages * 4096 - 1 - 0x10000000) / 0x400000) &&
  decide ((sec - 0x10000000) / 0x400000 = (sec + pages * 4096 - 1 - 0x10000000) / 0x400000)

/-- Some way stays both unlocked and allowed (R425). -/
def wayLeft (lock alloc : Word) : Bool := (List.range 16).any (fun w => fieldOf lock w 1 == 0 && fieldOf alloc w 1 == 1)

/-- The conditions of the read path's registers (R81, R113). -/
def crossRead (s : State) (a : Nat) (new : Word) : Bool :=
  let f := fieldOf new
  if a = Reg.DSK_RING_BASE then s.fld Reg.DSK_RING_STAT 0 4 == 0 && slotsOk new.toNat 0x80000 (s.fld Reg.DSK_RING_SLOTS 0 4) 0x80000
  else if a = Reg.DSK_RING_SLOTS then f 0 4 = 0 || slotsOk (s.reg Reg.DSK_RING_BASE).toNat 0x80000 (f 0 4) 0x80000
  else if a = Reg.DET_WS_BASE then
    s.fld Reg.DET_WS_STAT 0 3 == 0 && slotsOk new.toNat 0x80000 (s.fld Reg.DET_WS_SLOTS 0 3) 0x80000
  else if a = Reg.DET_WS_SLOTS then
    s.fld Reg.DET_WS_STAT 0 3 == 0 && (f 0 3 == 0 || slotsOk (s.reg Reg.DET_WS_BASE).toNat 0x80000 (f 0 3) 0x80000)
  else if a = Reg.DET_HINT_ENV then decide (f 8 8 < f 0 8)
  else if a = Reg.DET_HINT_TE || a = Reg.DET_HINT_FE then decide (f 0 12 < f 16 12)
  else if a = Reg.DET_PASS then (new >>> 12) &&& 0xF#32 &&& ~~~(new >>> 8) == 0#32
  else if a = Reg.DET_RCQ_BASE then ptrOk new.toNat 4096 1
  else if a = Reg.DET_ARM_PSA then f 0 3 == 0
  else if a = Reg.DET_ARM_CTRL then f 0 8 != 0
  else if a = Reg.LDPC_SCHED then f 16 6 != 0
  else if a = Reg.STRP_CTRL then decide (f 8 4 ≤ f 12 4)
  else if a = Reg.STRP_RSA_BASE then
    s.fld Reg.STRP_RSA_STAT 0 5 == 0 && slotsOk new.toNat 0x40000 (s.fld Reg.STRP_RSA_SLOTS 0 5) 0x40000
  else if a = Reg.STRP_RSA_SLOTS then
    s.fld Reg.STRP_RSA_STAT 0 5 == 0 && (f 0 5 == 0 || slotsOk (s.reg Reg.STRP_RSA_BASE).toNat 0x40000 (f 0 5) 0x40000)
  else if (List.range 4).any (fun l => a == Reg.RFL_MODE l) then
    f 0 2 != 3 || f 4 2 != (a - Reg.RFL_MODE 0) / 0x1000
  else true

/-- The conditions of the write path's registers (R150, R154). -/
def crossWrite (s : State) (a : Nat) (new : Word) : Bool :=
  let f := fieldOf new
  if a = Reg.WENC_STG_BASE then
    s.wenc.held == [] && slotsOk new.toNat 0x200000 (s.fld Reg.WENC_STG_SLOTS 0 3) 0x200000
  else if a = Reg.WENC_STG_SLOTS then
    s.wenc.held == [] && (f 0 3 == 0 || slotsOk (s.reg Reg.WENC_STG_BASE).toNat 0x200000 (f 0 3) 0x200000)
  else if a = Reg.WENC_ARM_RST then s.bit Reg.WSG_CFG 0 || f 0 16 == 0
  else if a = Reg.WENC_ARM_DESC then ptrOk new.toNat 16 7168
  else if a = Reg.WSG_LOAD_SRC then ptrOk new.toNat 4 1
  else if a = Reg.WSG_OPC then decide (f 0 8 + 15 * f 8 8 ≤ 384)
  else if a = Reg.DRAW_CFG then decide (f 12 4 ≤ f 8 4)
  else if a = Reg.DRAW_VQ_BASE || a = Reg.DRAW_VQ_CTRL then
    s.reg Reg.DRAW_VQ_PROD == s.reg Reg.DRAW_VQ_CONS && s.wenc.arms.isEmpty &&
      (a == Reg.DRAW_VQ_CTRL || ptrOk new.toNat 4096 1)
  else if a = Reg.WINH_ACMP_THR 4 then decide (f 8 8 < f 0 8)
  else if (List.range 8).any (fun k => a == Reg.WINH_DCHK_THR k) then
    decide (signedOf 12 (f 16 12) < signedOf 12 (f 0 12))
  else true

/-- The conditions of the servo, motor and supply registers (R186, R220, R245, R264, R285, R309). -/
def crossServo (s : State) (a : Nat) (new : Word) : Bool :=
  let f := fieldOf new
  if a ∈ [Reg.ACT_JMP_KICK, Reg.ACT_JMP_BRAKE, Reg.ACT_JMP_CAP, Reg.ACT_JMP_SWEEP, Reg.ACT_JMP_TMO] then !actSeqRuns s
  else if a = Reg.ACT_JMP_LIM then !actSeqRuns s && decide (signedOf 16 (f 0 16) < signedOf 16 (f 16 16))
  else if a = Reg.TICK_SUP then decide (f 16 10 < 2 ^ f 0 4)
  else if a = Reg.LENG_CFG then decide (worstTick (s.leng.progs.filter (fun q => !q.stopping)) ≤ f 0 9)
  else if a = Reg.LENG_FHOLD then liveWord (f 0 12)
  else if a = Reg.SPN_MOTOR then spnState s == 0
  else if a = Reg.SPN_SHUNT then spnState s == 0 && senseOk new
  else if a = Reg.SPN_OBS then spnState s == 0 && liveWord (f 0 12) && liveWord (f 16 12)
  else if a = Reg.SPN_ILIM then decide (f 16 12 ≤ f 0 12)
  else if a = Reg.SPN_SPD then liveWord (f 16 12)
  else if a = Reg.SPN_REGEN then decide (f 8 8 < f 16 8) && decide (f 16 8 ≤ 180)
  else if a = Reg.STP_TLOAD_SRC then ptrOk new.toNat 4 516
  else if (List.range 3).any (fun k => a == Reg.STP_AX_CUR k) then decide (f 16 11 ≤ f 0 11)
  else if (List.range 3).any (fun k => a == Reg.STP_AX_LMIN k) then
    let k := (a - Reg.STP_AX_LMIN 0) / 0x40
    let lo := signedOf 28 (f 0 28)
    decide (lo < s.sfld (Reg.STP_AX_LMAX k) 0 28) && decide (lo ≤ s.sfld (Reg.STP_AX_PARKPOS k) 0 28)
  else if (List.range 3).any (fun k => a == Reg.STP_AX_LMAX k) then
    let k := (a - Reg.STP_AX_LMAX 0) / 0x40
    let hi := signedOf 28 (f 0 28)
    decide (s.sfld (Reg.STP_AX_LMIN k) 0 28 < hi) && decide (s.sfld (Reg.STP_AX_PARKPOS k) 0 28 ≤ hi)
  else if (List.range 3).any (fun k => a == Reg.STP_AX_PARKPOS k) then
    let k := (a - Reg.STP_AX_PARKPOS 0) / 0x40
    let p := signedOf 28 (f 0 28)
    decide (s.sfld (Reg.STP_AX_LMIN k) 0 28 ≤ p) && decide (p ≤ s.sfld (Reg.STP_AX_LMAX k) 0 28)
  else if (List.range 3).any (fun k => a == Reg.STP_AX_POS k) then standstill s ((a - Reg.STP_AX_POS 0) / 0x40)
  else if (List.range 3).any (fun k => a == Reg.STP_AX_CFG k) then
    let k := (a - Reg.STP_AX_CFG 0) / 0x40
    let md := axMode s k
    (f 0 2 == md || standstill s k) && (f 0 2 != 2 || k == 0) && (f 0 2 != 3 || k == 1) &&
    (md == 0 || (f 4 1 == axGrp s k && f 6 1 == s.fld a 6 1))
  else if a = Reg.STP_AX_VFS 1 || a = Reg.STP_AX_VFS 2 then f 0 19 == 0
  else if a = Reg.PWR_OV then
    ovState s == 0 && decide (f 0 8 + 4 ≤ f 8 8) && decide (f 8 8 ≤ 184)
  else if a = Reg.PWR_BRK then
    ovState s == 0 && (f 1 1 == 0 ||
      (decide (18 ≤ f 8 5) && decide (f 8 5 ≤ 27) && decide (1 ≤ f 16 12) && decide (f 16 12 ≤ 2047)))
  else if a = Reg.PWR_HU then
    lgState s == 0 && (f 0 1 == 0 ||
      (decide (f 16 8 + 2 ≤ f 8 8) && decide (25 * f 8 8 + 50 < s.fld Reg.PWR_VIN 0 13)))
  else if a = Reg.PWR_HUK then lgState s == 0
  else if a = Reg.PWR_LG then lgState s == 0 || f 0 8 == s.fld Reg.PWR_LG 0 8
  else if a = Reg.CAL_SWP_CFG || a = Reg.CAL_SWP_START then !s.bit Reg.CAL_SWP_CTRL 0
  else if a = Reg.CAL_SWP_STEP then !s.bit Reg.CAL_SWP_CTRL 0 && new != 0#32
  else true

/-- Ring of a trace channel: base and size in bytes. -/
def trcRing (s : State) (c : Nat) : Nat × Nat := ((s.reg (Reg.TRC_CH_BASE c)).toNat, 2 ^ s.fld (Reg.TRC_CH_SIZE c) 0 5)

/-- R214: a channel may be enabled with a configuration word. -/
def trcEnableOk (s : State) (c : Nat) (new : Word) : Bool :=
  let others := (List.range 8).filter (fun k => k != c && trcOn s k)
  let r := trcRing s c
  decide ((others.map (fun k => 2 ^ (14 - s.fld (Reg.TRC_CH_CFG k) 4 4))).sum + 2 ^ (14 - fieldOf new 4 4) ≤ 4 * 2 ^ 14) &&
  decide ((others.map (fun k => (trcRing s k).2)).sum + r.2 ≤ 0x100000) &&
  sramRange r.1 r.2 &&
  others.all (fun k => let q := trcRing s k; decide (r.1 + r.2 ≤ q.1) || decide (q.1 + q.2 ≤ r.1)) &&
  decide (fieldOf new 16 12 < 0xC00) && decide (s.fld (Reg.TRC_CH_POST c) 0 18 < r.2 / 4)

/-- R213: a route may be enabled with a configuration word. -/
def routeEnableOk (s : State) (r : Nat) (new : Word) : Bool :=
  let t := fieldOf new 16 12
  outWritable s t &&
  !(s.bit (Reg.LENG_EXT_CFG (1 - r)) 0 && s.fld (Reg.LENG_EXT_CFG (1 - r)) 16 12 == t) &&
  (fieldOf new 1 1 == 1 || s.bit Reg.SADC_CFG 31)

/-- The conditions of the loop engine's and the trace unit's registers (R203, R213, R214, R220). -/
def crossLeng (s : State) (a : Nat) (new : Word) : Bool :=
  let f := fieldOf new
  if (List.range 16).any (fun p => a == Reg.LENG_PROG_CFG p) then
    if s.bit a 0 then f 0 1 == 0 else f 0 1 == 0 || s.leng.check == none
  else if (List.range 16).any (fun p => a == Reg.LENG_PROG_REG p) then !s.bit (a - 4) 0
  else if (List.range 2).any (fun r => a == Reg.LENG_EXT_CFG r) then
    f 0 1 == 0 || routeEnableOk s ((a - Reg.LENG_EXT_CFG 0) / 0x40) new
  else if (List.range 8).any (fun c => a == Reg.TRC_CH_CFG c) then
    if s.bit a 0 then f 0 1 == 0 else f 0 1 == 0 || trcEnableOk s ((a - Reg.TRC_CH_CFG 0) / 0x40) new
  else if decide (Reg.TRC_CH_CFG 0 ≤ a) && decide (a < Reg.TRC_CH_CFG 8) then
    !s.bit (Reg.TRC_CH_CFG ((a - Reg.TRC_CH_CFG 0) / 0x40)) 0 && (a % 0x40 != 4 || new.toNat % 4096 == 0)
  else true

/-- Registers of an axis or a queue (R264). -/
def stpAxisOrQueue (a : Nat) : Bool := decide (Reg.STP_Q_D0 0 ≤ a) && decide (a < 0x400041C0)

/-- The conditions of the host side's, translation's and platform's registers (R370, R405, R434, R454, R474, R492, R503). -/
def crossPlatform (s : State) (m : Master) (a : Nat) (new : Word) : Bool :=
  let f := fieldOf new
  if a = Reg.HQ_CTRL then !s.bit Reg.HQ_CTRL 0 || f 8 8 == s.fld Reg.HQ_CTRL 8 8
  else if a = Reg.HQ_SEQ_LO || a = Reg.HQ_SEQ_HI then
    !s.bit Reg.HQ_CTRL 0 &&
      let lo := if a = Reg.HQ_SEQ_LO then new.toNat else (s.reg Reg.HQ_SEQ_LO).toNat
      let hi := if a = Reg.HQ_SEQ_HI then f 0 16 else s.fld Reg.HQ_SEQ_HI 0 16
      s.hq.ctx.all (fun c => decide ((hi * 2 ^ 32 + lo + 2 ^ 48 - c.seq) % 2 ^ 48 < 2 ^ 47))
  else if a = Reg.XLT_TBL_BASE then !s.bit (Reg.STAT 0x17) 8 && ptrOk new.toNat 0x100000 0x1000000
  else if a = Reg.XLT_IDX_BASE then !s.bit (Reg.STAT 0x17) 8 && ptrOk new.toNat 0x80000 1
  else if a = Reg.MEDM_BT_BASE then !s.bit (Reg.STAT 0x17) 8 && ptrOk new.toNat 4096 0x10000
  else if a = Reg.MEDM_GC then decide (f 16 8 < f 0 8) && decide (f 0 8 < f 8 8)
  else if a = Reg.L2C_LOCK then wayLeft new (s.reg Reg.L2C_ALLOC)
  else if a = Reg.L2C_ALLOC then wayLeft (s.reg Reg.L2C_LOCK) new
  else if a = Reg.L2C_MSW then decide (f 0 10 < s.fld Reg.L2C_CFG 0 11)
  else if a = Reg.MEMC_INJ_ADDR then inSram new.toNat
  else if decide (Reg.MEMC_MIR_CFG 0 ≤ a) && decide (a < Reg.MEMC_MIR_CFG 4) then
    let b := Reg.MEMC_MIR_CFG 0 + (a - Reg.MEMC_MIR_CFG 0) / 0x40 * 0x40
    let pri := (s.reg (b + 4)).toNat
    let sec := (s.reg (b + 8)).toNat
    if s.bit b 0 then a = b
    else if a = b && f 0 1 == 1 then mirrorOk pri sec (s.fld (b + 12) 0 12) else true
  else if decide (Reg.ACL_SRAM_BASE 0 ≤ a) && decide (a < Reg.ACL_SRAM_BASE 8) then
    aclOk s (Reg.ACL_SRAM_BASE 0) 0x10000000 0x127FFFFF a new
  else if decide (Reg.ACL_FLASH_BASE 0 ≤ a) && decide (a < Reg.ACL_FLASH_BASE 8) then
    aclOk s (Reg.ACL_FLASH_BASE 0) 0x08000000 0x087FFFFF a new
  else if decide (Reg.ACL_MORT_BASE 0 ≤ a) && decide (a < Reg.ACL_MORT_BASE 4) then
    aclOk s (Reg.ACL_MORT_BASE 0) 0x20000000 0x20002FFF a new
  else if (List.range 2).any (fun b => a == Reg.FLC_B_ADDR b || a == Reg.FLC_B_SRC b || a == Reg.FLC_B_CNT b) then
    let b := (a - Reg.FLC_B_ADDR 0) / 0x40
    !s.bit (Reg.FLC_B_CMD b) 31 && (a != Reg.FLC_B_SRC b || new.toNat % 8 == 0)
  else if a = Reg.SEC_BUF then ptrOk new.toNat 8 1
  else if a = Reg.EVR_CFG then f 9 1 == 0 || s.reg Reg.EVR_PFR_BASE != 0#32
  else if a = Reg.EVR_PFR_BASE then !s.bit Reg.EVR_CFG 9 && (new == 0#32 || ptrOk new.toNat 4096 16384)
  else if a = Reg.EVR_WR_SRC then ptrOk new.toNat 8 48
  else if a = Reg.WDT_REJOINPC then m == .sup && ptrOk new.toNat 4 4
  else if (List.range 5).any (fun w => a == Reg.WDT_CFG w || a == Reg.WDT_TIME w) then
    !s.bit (Reg.WDT_CFG ((a - Reg.WDT_CFG 0) / 0x40)) 0
  else if a = Reg.TSNS_CFG then decide (f 8 8 < f 16 8)
  else if a = Reg.FMT_CFG then s.bit Reg.DSK_LANEACT (f 0 2)
  else if a = Reg.FMT_DI_BASE then ptrOk new.toNat 512 512
  else true

/-- Every condition beyond the single fields' ranges. -/
def crossOk (s : State) (m : Master) (a : Nat) (new : Word) : Bool :=
  crossRead s a new && crossWrite s a new && crossServo s a new && crossLeng s a new && crossPlatform s m a new &&
  !(stpAxisOrQueue a && s.bit (Reg.STAT 4) 8)

/-- Lanes that exist and that the option area enables (R2, R452). -/
def lanesThere (s : State) : Nat :=
  (if s.variant = .ln7720 then 3 else 15) &&& s.fld Reg.OPT_SEL 4 4

/-- Bits that read 0 and cannot be set: lanes, channels and cores that are absent or out of service, DBG's rights under the
debug lock, LENON in FAULT (R2, R135, R431, R487). -/
def maskNew (s : State) (a : Nat) (new : Word) : Word :=
  let off20 := s.variant == .ln7720
  if a = Reg.DSK_CFG then new &&& Word.ofNat (0xFFFFFFF0 + lanesThere s)
  else if a = Reg.DET_PASS then (if off20 then new &&& 0xFFFF33FF#32 else new)
  else if a = Reg.CAL_TRIG then (if off20 then new &&& 0xFFFFFFF3#32 else new)
  else if a = Reg.WENC_ARM_CTRL then (if off20 then new &&& 0xFFFFFFDF#32 else new)
  else if a = Reg.WSG_CFG then (if off20 then new &&& 0xFFFFFFFB#32 else new)
  else if a = Reg.HDL_CFG then (if s.bit Reg.HDL_FIFO 24 then new &&& 0xFFFFFFFE#32 else new)
  else if a = Reg.WINH_ACMP_CFG 3 || a = Reg.WINH_ACMP_CFG 4 then new &&& 0xFFFFE0FF#32
  else if decide (Reg.IRQ_ROUTE 0 ≤ a) && decide (a ≤ Reg.IRQ_ROUTE 0x28) then
    new &&& ~~~(s.reg Reg.WDT_ISO &&& 0xF#32)
  else if decide (Reg.ACL_PAGE 0 ≤ a) && decide (a ≤ Reg.ACL_PAGE 0x28) then
    (if s.bit Reg.OPT_SEL 12 then new &&& 0xBFFFBFFF#32 else new)
  else if decide (Reg.ACL_SRAM_BASE 0 ≤ a) && decide (a < Reg.ACL_PAGE 0) then
    (if s.bit Reg.OPT_SEL 12 && a % 0x40 == 8 then new &&& 0xBFFFBFFF#32
     else if s.bit Reg.OPT_SEL 12 && a % 0x40 == 12 then new &&& 0xFFFFBFFF#32 else new)
  else new

end Sys2Proof.Machine
end

