-- ==== Sys2Proof/Machine/RegAccess.lean ====
section
/-! DEFINITION. Register accesses (R2, R14, R17, R18, R431, R495 to R502): what a write by a master does before the block
acts on it, and what a read answers. -/
namespace Sys2Proof.Machine

/-- What becomes of a register write. -/
inductive WriteVerdict where
  /-- The page mask of the access table refuses it (R431). -/
  | denied
  /-- Narrow or misaligned: dropped (R497). -/
  | badSize
  /-- To a part the variant lacks (R2). -/
  | absent
  /-- Ignored without a trace: undefined offset, spent RWO register (R18, R497). -/
  | ignored
  /-- To an RO or RC register: ignored and recorded (R18). -/
  | readOnly
  /-- Refused whole with the page's code xx01 (R14, R502). -/
  | refused
  /-- Takes effect: the register's new contents. -/
  | take (new : Word)
  deriving DecidableEq, Repr

/-- The page is locked (R502). -/
def State.locked (s : State) (p : Nat) : Bool := s.reg (Reg.LOCK p) == 0xA5#32

/-- The judgement of an own register's write by its table row (R14, R18, R502). -/
def judgeOwn (s : State) (m : Master) (a : Nat) (v : Word) (d : RegDesc) : WriteVerdict :=
  let old := s.reg a
  let rw := BitVec.ofNat 32 d.rwMask
  let cand := maskNew s a ((old &&& ~~~rw) ||| (v &&& rw))
  if d.acc = .ro ∨ d.acc = .rc then .readOnly
  else if d.acc = .rwo ∧ s.rwoDone.contains a then .ignored
  else if d.acc = .rw ∧ s.locked (pageOf a) then .refused
  else if !(d.ranges.all (rangeOk cand)) then .refused
  else if !crossOk s m a cand then .refused
  else .take (cand &&& ~~~(v &&& BitVec.ofNat 32 d.w1cMask))

/-- The judgement of a common register's write (R498 to R502); CTRL is judged apart. -/
def judgeCommon (s : State) (p off : Nat) (v : Word) : WriteVerdict :=
  let msk := Word.ofNat (irqMask p)
  if off = 0x00 ∨ off = 0x08 ∨ off = 0x18 then .readOnly
  else if off = 0x0C then .take (s.reg (Reg.IRQ_RAW p) &&& ~~~v)
  else if off = 0x10 then (if s.locked p then .refused else .take (v &&& msk))
  else if off = 0x14 then .take (s.reg (Reg.IRQ_STAT p) &&& ~~~v)
  else if off = 0x1C then (if v = 0xA5#32 ∧ !s.locked p then .take v else .ignored)
  else .ignored

/-- The judgement of a write of any register but CTRL (R2, R14, R18, R431, R497, R502). -/
def judgeWrite (s : State) (m : Master) (a size : Nat) (v : Word) : WriteVerdict :=
  if !pageGrants s m (pageOf a) .write then .denied
  else if size ≠ 4 ∨ a % 4 ≠ 0 then .badSize
  else if absentPart s.variant a then .absent
  else if a % 0x1000 < 0x40 then judgeCommon s (pageOf a) (a % 0x1000) v
  else match descOf a with
    | none => .ignored
    | some d => judgeOwn s m a v d

/-- R18: the event recorder's own record of a write to a read-only register, at most one a second per register. -/
def recordReadOnly (s : State) (m : Master) (a : Nat) (v : Word) : State :=
  if secondPassed s.roRecs a s.ticks then
    { s with
      roRecs := setTick s.roRecs a s.ticks
      evr := { s.evr with outbox := s.evr.outbox ++
        [⟨0x1E11, m.id, false, 1, bytesLE 4 a ++ bytesLE 4 v.toNat ++ bytesLE 4 4⟩] } }
  else s

/-- What a write leaves when it takes no effect. -/
def writeDropped (s : State) (m : Master) (a : Nat) (v : Word) : WriteVerdict → State
  | .denied => aclRefuse s m a 2 .write
  | .badSize => s.err 0 0x2103 m.id
  | .absent => s.err 0 0x2104 m.id
  | .readOnly => recordReadOnly s m a v
  | .refused => s.refuse (pageOf a) m
  | _ => s

/-- The register takes its new contents; an RWO register counts as written (R18); IRQ_STAT follows (R500); high words
latched of it are no longer what it holds (R497). -/
def State.putReg (s : State) (a : Nat) (new : Word) : State :=
  let s := { s.setReg a new with latches := s.latches.filter (fun q => q.2.1 != a) }
  let s := match descOf a with
    | some d => if d.acc = .rwo then { s with rwoDone := a :: s.rwoDone.filter (· != a) } else s
    | none => s
  if a % 0x1000 = 0x10 ∨ a % 0x1000 = 0x14 then s.settleIrq (pageOf a) else s

/-- A master writes a register; where the write takes effect the block acts on it by `eff`. -/
def regWrite (s : State) (m : Master) (a size : Nat) (v : Word) (eff : State → State) : State :=
  match judgeWrite s m a size v with
  | .take new => eff (s.putReg a new)
  | w => writeDropped s m a v w

/-- A write that its block refuses whole unless `ok` holds of the written bits (R14). -/
def regWriteIf (s : State) (m : Master) (a size : Nat) (v : Word) (ok : Bool) (eff : State → State) : State :=
  match judgeWrite s m a size v with
  | .take new => if ok then eff (s.putReg a new) else s.refuse (pageOf a) m
  | w => writeDropped s m a v w

/-! ## Reads -/

/-- STAT as it reads: ERR follows ERR_INFO's count (R501), LENG's SWAPPEND any swap that is pending (R207, R219). -/
def statNow (s : State) (p : Nat) : Word :=
  let w := putField (s.reg (Reg.STAT p)) 2 1 (if s.fld (Reg.ERR_INFO p) 24 8 = 0 then 0 else 1)
  if p = pgLENG then putField w 9 1 (swapPending s).toNat else w

/-- A master reads a page: a refused read returns 0 with no error (R431, R432); else `f` answers. -/
def regReadBy (s : State) (m : Master) (a : Nat) (f : State → Word × State) : State :=
  if !pageGrants s m (pageOf a) .read then { aclRefuse s m a 2 .read with resp := ⟨0, false⟩ }
  else
    let r := f s
    { r.2 with resp := ⟨r.1.toNat, false⟩ }

/-! ## What the data path passes to the supervisor (R4) -/

/-- The pages of the data path: read lanes to DRAW. -/
def dataPages : List Nat := (List.range 11).map (· + 0x0A)

/-- At a tick boundary the data path passes its status to the supervisor (R4). -/
def passStatus (s : State) : State :=
  { s with supStat := dataPages.flatMap (fun p => [(Reg.STAT p, statNow s p), (Reg.IRQ_RAW p, s.reg (Reg.IRQ_RAW p))]) }

/-- A word of the data path's status as the supervisor has it. -/
def supWord (s : State) (a : Nat) : Word := ((s.supStat.find? (fun q => q.1 == a)).map (·.2)).getD (regReset s.variant a)

/-- A register as a master sees it: the supervisor sees STAT and interrupts of the data path as of the last tick boundary (R4). -/
def seenBy (s : State) (m : Master) (a : Nat) (w : Word) : Word :=
  if m = .sup ∧ isPage a ∧ dataPages.contains (pageOf a) then
    if a % 0x1000 = 0x08 then supWord s a
    else if a % 0x1000 = 0x0C ∨ a % 0x1000 = 0x14 then w &&& supWord s (Reg.IRQ_RAW (pageOf a))
    else w
  else w

/-- The page's interrupt source is pending for hart `h`, of which 4 is the supervisor (R4, R494, R500). -/
def sourcePending (s : State) (h p : Nat) : Bool :=
  seenBy s (if h = 4 then .sup else .cc0) (Reg.IRQ_STAT p) (s.reg (Reg.IRQ_STAT p)) != 0#32

end Sys2Proof.Machine
end

