-- ==== Sys2Proof/Machine/FlashOps.lean ====
section
/-! DEFINITION. Embedded flash (R438 to R446, R454, R455): words and their two programs, banks, requests of the register
interface and of the internal ports, intents, bank failure. Addresses here are byte offsets from 0x0800_0000. -/
namespace Sys2Proof.Machine

/-- Page of FLC. -/
abbrev pgFLC : Nat := 0x1F

/-- First byte of the flash window (R495). -/
def flashBase : Nat := 0x08000000

/-- A flash word by number. -/
def State.fw (s : State) (w : Nat) : FlashWord := SMap.get flashErased s.flash.words w

/-- Replaces FLC's own state. -/
def State.setFlash (s : State) (x : Flash) : State := { s with flash := x }

/-- The state with a flash word replaced. -/
def State.setFw (s : State) (w : Nat) (x : FlashWord) : State :=
  s.setFlash { s.flash with words := SMap.set flashErased s.flash.words w x }

/-- The words of a sector become erased. -/
def State.eraseSector (s : State) (sec : Nat) : State :=
  s.setFlash { s.flash with words := SMap.drop (fun w => w / 512 == sec) s.flash.words,
                            half := s.flash.half.filter (· != sec) }

/-- A bank. -/
def State.bank (s : State) (b : Nat) : FlashBank :=
  s.flash.banks.getD b ⟨none, none, false, false, [], [], false, [], 0, 0⟩

/-- Replaces a bank. -/
def State.setBank (s : State) (b : Nat) (x : FlashBank) : State :=
  s.setFlash { s.flash with banks := s.flash.banks.set b x }

/-- Bank of an offset (R438). -/
def bankOf (off : Nat) : Nat := off / 0x400000
/-- Sector of an offset within its bank (R438). -/
def sectorIn (off : Nat) : Nat := off % 0x400000 / 4096
/-- Sector by number from 0x0800_0000. -/
def sectorAbs (b sec : Nat) : Nat := b * 1024 + sec

/-- The data of a word that decodes without an error, by its state bits (R439). -/
def FlashWord.data : FlashWord → Option (BitVec 64)
  | .erased => some (BitVec.allOnes 64)
  | .once d => some d
  | .twice d => some d
  | .torn => none
  | .spoilt => none

/-- The erase, running or suspended, of a bank: its sector within the bank (R443). -/
def erasing (k : FlashBank) : List Nat :=
  let of := fun (o : Option FlashOp) => match o with
    | some o => if o.req.erase then [sectorIn o.req.addr] else []
    | none => []
  of k.op ++ of k.susp

/-- What a read finds in word `w` (R439, R443): none stands for an error response. -/
def flashLook (s : State) (w : Nat) : Option (BitVec 64) :=
  let off := w * 8
  if s.flash.half.contains (off / 4096) ∨ sectorIn off ∈ erasing (s.bank (bankOf off)) then none else (s.fw w).data

/-- The bank has a program or an erase running, or its sectors are being erased again by the scan (R443, R445). -/
def bankBusy (s : State) (b : Nat) : Bool := (s.bank b).op.isSome || s.flash.scan == .running

/-! ## Intents -/

/-- The word of an intent (R445). -/
def intentWord (sec eseq : Nat) (opn good : Bool) : BitVec 64 :=
  BitVec.ofNat 64 (0xE5 * 2 ^ 56 + opn.toNat * 2 ^ 55 + good.toNat * 2 ^ 54 + 0xFFF * 2 ^ 42 + sec % 1024 * 2 ^ 32 + eseq % 2 ^ 32)

/-- First word number of intent sector `i` of a bank (R438). -/
def intentBase (b i : Nat) : Nat := sectorAbs b (0x3FE + i) * 512

/-- A readable intent of a word: sector, count, open (R445). -/
def intentOf (x : FlashWord) : Option (Nat × Nat × Bool) :=
  match x with
  | .erased => none
  | x => match x.data with
    | some d => if d.toNat / 2 ^ 56 = 0xE5 then some (d.toNat / 2 ^ 32 % 1024, d.toNat % 2 ^ 32, d.toNat.testBit 55) else none
    | none => none

/-- The intents of an intent sector, by word index. -/
def intentsIn (s : State) (b i : Nat) : List (Nat × Nat × Nat × Bool) :=
  (List.range 512).filterMap (fun k => (intentOf (s.fw (intentBase b i + k))).map (fun r => (k, r)))

/-- First erased word of an intent sector, 512 where there is none. -/
def intentFree (s : State) (b i : Nat) : Nat :=
  ((List.range 512).find? (fun k => s.fw (intentBase b i + k) == .erased)).getD 512

/-- The sector holds an open intent (R441, R445). -/
def openIntent (s : State) (b sec : Nat) : Bool :=
  (intentsIn s b (s.bank b).active).any (fun r => r.2.1 == sec && r.2.2.2)

/-- The second program of an intent: OPEN cleared, GOOD cleared after a failure (R445). -/
def closeIntent (s : State) (w : Nat) (good : Bool) : State :=
  match intentOf (s.fw w) with
  | some (sec, eseq, _) => s.setFw w (.twice (intentWord sec eseq false good))
  | none => s

/-- Appends the intent of an erase to the active intent sector: its word number, and the state (R445). -/
def openIntentFor (s : State) (b sec : Nat) : Nat × State :=
  let k := s.bank b
  let w := intentBase b k.active + intentFree s b k.active
  let e := (k.eseq + 1) % 2 ^ 32
  let s := (s.setFw w (.once (intentWord sec e true true))).setBank b { k with eseq := e }
  (w, s.setFld Reg.FLC_ESEQ (16 * b) 16 e)

/-- One word is left in the active intent sector: it records the erase of the other one, which is erased and becomes
active (R445). -/
def switchIntent (s : State) (b : Nat) : State :=
  let k := s.bank b
  if intentFree s b k.active = 511 ∧ k.susp.isNone then
    let other := 1 - k.active
    let r := openIntentFor s b (0x3FE + other)
    let s := closeIntent (r.2.eraseSector (sectorAbs b (0x3FE + other))) r.1 true
    (s.setBank b { s.bank b with active := other }).addMod (Reg.FLC_B_ERASES b) 0 32 1
  else s

/-! ## Registers of a bank -/

/-- RESULT of the last command (R441). -/
def setResult (s : State) (b n : Nat) : State := s.setFld (Reg.FLC_B_STAT b) 8 4 n

/-- STATE, SUSP, PORT, NBAD, the suspended sector and GO follow the bank (R455). -/
def syncBank (s : State) (b : Nat) : State :=
  let k := s.bank b
  let st := match k.op with
    | none => 0
    | some o => if o.req.erase then 2 else if k.susp.isSome then 3 else 1
  let port := match k.op with | some o => o.req.port | none => 0
  let a := Reg.FLC_B_STAT b
  let s := (((s.setFld a 0 2 st).setBit a 4 k.susp.isSome).setFld a 12 2 port).setFld a 16 8 k.bad.length
  let s := s.setReg (Reg.FLC_B_SUSP b) (match k.susp with
    | some o => Word.ofNat (flashBase + o.req.addr / 4096 * 4096) | none => 0#32)
  s.setBit (Reg.FLC_B_CMD b) 31 (match k.op with | some o => o.req.port == 0 | none => false)

/-- A command is refused (R441). -/
def flcRefuse (s : State) (m : Master) (b res : Nat) : State :=
  ((setResult s b res).raise pgFLC 2).err pgFLC 0x1B02 m.id

/-! ## Checks (R440, R441) -/

/-- The result with which one word of a program is refused, 0 for none (R440). -/
def wordVerdict (x : FlashWord) (w : BitVec 64) : Nat :=
  match x with
  | .erased => 0
  | .once d => if w &&& ~~~d = 0 then 0 else 4
  | _ => 3

/-- PROG_LIMIT before PROG_RISE over all words of a program (R441). -/
def wordsVerdict (s : State) (off : Nat) (ws : List (BitVec 64)) : Nat :=
  let rs := (List.range ws.length).map (fun i => wordVerdict (s.fw (off / 8 + i)) (ws.getD i 0))
  if rs.contains 3 then 3 else if rs.contains 4 then 4 else 0

/-- A program of `n` words, or an erase, at this offset keeps R441's ranges. -/
def flcRange (b : Nat) (erase : Bool) (off n : Nat) : Bool :=
  decide (off < 0x800000) && bankOf off == b &&
  (if erase then off % 4096 == 0
   else off % 8 == 0 && decide (1 ≤ n) && decide (n ≤ 32) && decide (off % 256 + 8 * n ≤ 256))

/-- The result of the checks of a program or an erase, in R441's order, 0 where it may run. `src` is whether the source
lies in SRAM and FLC may read it; `self` whether the command was fetched from the same bank. -/
def flcVerdict (s : State) (m : Master) (b : Nat) (erase : Bool) (off : Nat) (ws : List (BitVec 64)) (inRange src self : Bool) :
    Nat :=
  let k := s.bank b
  let sec := sectorIn off
  if k.failed then 13
  else if !inRange then 6
  else if 0x3FE ≤ sec then 14
  else if !flashGrants s m (flashBase + off) .write || !src then 5
  else if self && !s.bit (Reg.CTRL pgFLC) 8 then 2
  else if k.op.isSome || s.flash.scan != .done || (erase && k.susp.isSome) then 1
  else if !erase && (match k.susp with | some o => sectorIn o.req.addr == sec | none => false) then 7
  else if openIntent s b sec then 10
  else if k.bad.contains sec then 11
  else if erase then 0 else wordsVerdict s off ws

/-! ## Operations -/

/-- A program or an erase starts (R441, R445). -/
def flcStart (s : State) (b : Nat) (r : FlashReq) : State :=
  let s :=
    if r.erase then
      let q := openIntentFor s b (sectorIn r.addr)
      q.2.setBank b { q.2.bank b with op := some ⟨r, s.ticks, q.1, s.ticks⟩ }
    else s.setBank b { s.bank b with op := some ⟨r, s.ticks, 0, s.ticks⟩ }
  syncBank s b

/-- The master an internal port stands for. -/
def portMaster (p : Nat) : Master := if p = 1 then .xlt else if p = 2 then .evr else .sup

/-- The suspended erase of a bank runs on (R444). -/
def eraseRuns (s : State) (b : Nat) : State :=
  let k := s.bank b
  syncBank (s.setBank b { k with op := k.susp.map (fun o => { o with since := s.ticks }), susp := none, auto := false }) b

/-- A suspended erase that EVR suspended for a record of its own runs on once no program waits (R444, R467). -/
def autoResume (s : State) (b : Nat) : State :=
  let k := s.bank b
  if k.op.isNone ∧ k.auto ∧ k.susp.isSome ∧ (k.waiting.filter (fun r => !r.erase)).isEmpty then
    eraseRuns s b
  else s

/-- EVR suspends its own erase where a program of its own waits for it (R467). -/
def autoSuspend (s : State) (b : Nat) : State :=
  let k := s.bank b
  match k.op with
  | some o =>
    if o.req.erase ∧ o.req.port = 2 ∧ !k.suspReq ∧ k.waiting.any (fun r => r.port == 2 && !r.erase) then
      s.setBank b { k with suspReq := true, auto := true }
    else s
  | none => s

/-- The waiting request that goes next: XLT before EVR, oldest first, an erase only where none is suspended (R441,
R444); then what drive firmware asked for a command, strictly in order. -/
def nextReq (k : FlashBank) : Option FlashReq :=
  let can := fun (p : Nat) (r : FlashReq) => r.port == p && (!r.erase || k.susp.isNone)
  match k.waiting.find? (can 1) with
  | some r => some r
  | none => match k.waiting.find? (can 2) with
    | some r => some r
    | none => match k.waiting.find? (fun r => r.port == 0) with
      | some r => if can 0 r then some r else none
      | none => none

/-- An internal request leaves the waiting list. -/
def dropReq (k : FlashBank) (r : FlashReq) : FlashBank := { k with waiting := k.waiting.erase r }

/-- Internal requests issue while the bank is free; one that a check refuses ends unverified (R441). -/
def pumpBank (b : Nat) : Nat → State → State
  | 0, s => s
  | n + 1, s =>
    let k := s.bank b
    if k.op.isSome ∨ s.flash.scan ≠ .done then s
    else match nextReq k with
      | none => s
      | some r =>
        let s := s.setBank b (dropReq k r)
        let v := flcVerdict s (portMaster r.port) b r.erase r.addr r.words (flcRange b r.erase r.addr r.words.length) true false
        if v = 0 then flcStart s b r
        else
          let s := flcRefuse s (portMaster r.port) b v
          pumpBank b n (s.setFlash { s.flash with ended := s.flash.ended ++ [(r.port, r.tag, false)] })

/-- The bank goes on with what waits. -/
def flcPump (s : State) (b : Nat) : State :=
  autoResume (autoSuspend (pumpBank b (s.bank b).waiting.length s) b) b

/-- XLT or EVR asks for a program or an erase (R441). -/
def flcRequest (s : State) (r : FlashReq) : State :=
  let b := bankOf r.addr
  let k := s.bank b
  flcPump (s.setBank b { k with waiting := k.waiting ++ [r] }) b

/-- Requests of a port with a tag that `p` holds of still run or wait. -/
def flcOutstanding (s : State) (port : Nat) (p : Nat → Bool) : Bool :=
  s.flash.banks.any (fun k =>
    k.waiting.any (fun r => r.port == port && p r.tag) ||
    (match k.op with | some o => o.req.port == port && p o.req.tag | none => false) ||
    (match k.susp with | some o => o.req.port == port && p o.req.tag | none => false))

/-- A program's words reach the cells (R440). -/
def programWords : Nat → List (BitVec 64) → State → State
  | _, [], s => s
  | w, x :: t, s =>
    let y := match s.fw w with
      | .erased => FlashWord.once x
      | .once d => .twice (d &&& x)
      | y => y
    programWords (w + 1) t (s.setFw w y)

/-- A program that is cut short: some words complete, the next torn or left without a matching check, the rest as they
were (R440). -/
def cutProgram (s : State) (r : FlashReq) : State :=
  let n := Config.cutWords s.fresh % (r.words.length + 1)
  let s := { s with fresh := s.fresh + 1 }
  let w := r.addr / 8
  let s := programWords w (r.words.take n) s
  if n < r.words.length then
    s.setFw (w + n) (match s.fw (w + n) with | .erased => .torn | _ => .spoilt)
  else s

/-- The fallback of the event recorder is due: a 0x1E14 record with FLC's ERR_INFO and the write position in bank B (R470,
R531). -/
def evrFallback (s : State) : State :=
  if s.bit (Reg.STAT 0x22) 8 then s
  else
    let rec14 : Report := ⟨0x1E14, 15, false, 5,
      bytesLE 4 (s.reg (Reg.ERR_INFO pgFLC)).toNat ++ bytesLE 4 (s.reg Reg.EVR_WPOS).toNat⟩
    let s := { s with evr := { s.evr with
      outbox := s.evr.outbox ++ [rec14], held := [], issued := none
      pfr := s.evr.pfr.map (fun (e : PfrEntry) => if e.loc = 2 then { e with loc := 0 } else e) } }
    let s := s.setFlash { s.flash with ended := s.flash.ended.filter (fun e => e.1 != 2) }
    (s.setBit (Reg.STAT 0x22) 8 true).raise 0x22 4

/-- A bank fails (R446); copy and ring in it go on in the other bank (R10, R386, R470). -/
def failBank (s : State) (b : Nat) : State :=
  if (s.bank b).failed then s
  else
    let s := s.setBank b { s.bank b with failed := true }
    let s := ((s.setBit (Reg.STAT pgFLC) (8 + b) true).raise pgFLC 5).err pgFLC 0x1B05 b
    let s := (s.report pgFLC 0x1B05 b []).setBit Reg.XLT_JRNL (8 + b) false
    let s := flcPump s b
    if b = 1 then evrFallback s else s

/-- An uncorrectable or torn word was read (R439, R446). -/
def flashUe (s : State) (m : Master) (w : Nat) : State :=
  let s := ((s.addSat Reg.FLC_ECC 16 16 1).raise pgFLC 4).setReg Reg.FLC_ERRADDR (Word.ofNat (flashBase + w * 8))
  let s := (s.err pgFLC 0x1B03 m.id).report pgFLC 0x1B03 m.id [flashBase + w * 8]
  let b := bankOf (w * 8)
  let k := s.bank b
  let ue := s.ticks :: k.ueTicks.filter (fun t => decide (s.ticks < t + ticksPerSecond))
  let s := s.setBank b { k with ueTicks := ue }
  if 4 ≤ ue.length then failBank s b else s

/-- Reads words for a master; `errs` are the words found wrong, true where two or more bits are. -/
def flashWords (m : Master) (errs : List (Nat × Bool)) : List Nat → State → List Nat × Bool × State
  | [], s => ([], false, s)
  | w :: t, s =>
    let bad := (errs.find? (fun e => e.1 == w)).map (·.2)
    let look := if bad = some true then none else flashLook s w
    let cell := match look with
      | some d => bytesLE 8 d.toNat
      | none => (List.range 8).map (fun i => (Config.badFlashByte (w * 8 + i)).toNat)
    let s := match look with
      | some _ => if bad = some false then (s.addSat Reg.FLC_ECC 0 16 1).raise pgFLC 3 else s
      | none => flashUe s m w
    let q := flashWords m errs t s
    (cell ++ q.1, look.isNone || q.2.1, q.2.2)

/-- A read of a bank that is free: bytes, error, state (R439, R443, R446). -/
def flashServe (s : State) (m : Master) (a n : Nat) (errs : List (Nat × Bool)) : List Nat × Bool × State :=
  let off := a - flashBase
  if (s.bank (bankOf off)).failed then ((List.range n).map (fun i => (Config.badFlashByte (off + i)).toNat), true, s)
  else
    let r := flashWords m errs ((List.range ((off + n + 7) / 8 - off / 8)).map (fun i => off / 8 + i)) s
    ((r.1.drop (off % 8)).take n, r.2.1, r.2.2)

/-- A master reads flash: refused by the access table, kept waiting, or served (R430, R432, R443). -/
def flashRead (s : State) (m : Master) (a n : Nat) (errs : List (Nat × Bool)) (x : AccKind) : State :=
  if !flashGrants s m a x then { aclRefuse s m a 1 x with resp := ⟨0, x == .exec⟩ }
  else if bankBusy s (bankOf (a - flashBase)) ∧ !(s.bank (bankOf (a - flashBase))).failed then
    s.setFlash { s.flash with reads := s.flash.reads ++ [⟨m, a, n, errs⟩] }
  else
    let r := flashServe s m a n errs
    { r.2.2 with resp := ⟨leNat r.1, r.2.1⟩ }

/-- Reads that waited proceed, in order (R443). -/
def serveReads : List FlashRead → State → State
  | [], s => s
  | r :: t, s =>
    let q := flashServe s r.master r.addr r.len r.errs
    serveReads t { q.2.2 with resp := ⟨leNat q.1, q.2.1⟩ }

/-- The reads of a bank that waited proceed unless it is busy still. -/
def releaseReads (s : State) (b : Nat) : State :=
  if bankBusy s b then s
  else
    let mine := fun (r : FlashRead) => bankOf (r.addr - flashBase) == b
    let rs := s.flash.reads.filter mine
    serveReads rs (s.setFlash { s.flash with reads := s.flash.reads.filter (fun r => !mine r) })

/-- The end of an operation (R441, R446): interrupt, RESULT, duration, the asker told. -/
def flcEnd (s : State) (b : Nat) (o : FlashOp) (good : Bool) : State :=
  let s := setResult (s.raise pgFLC b) b (if good then 0 else 12)
  let s := s.setFld (Reg.FLC_B_LAST b) 0 20 ((s.ticks - o.start) * 5 / 8)
  let s := if good then s else s.err pgFLC 0x1B04 (portMaster o.req.port).id
  if o.req.port = 0 then s
  else s.setFlash { s.flash with ended := s.flash.ended ++ [(o.req.port, o.req.tag, good)] }

/-- The bank goes on after an operation: waiting requests first, then waiting reads. -/
def flcGoOn (s : State) (b : Nat) : State := releaseReads (flcPump (syncBank s b) b) b

/-- The running program of a bank ends (R441, R446). -/
def programDone (b : Nat) (good : Bool) (s : State) : State :=
  match (s.bank b).op with
  | some o =>
    if o.req.erase then s
    else
      let s := if good then programWords (o.req.addr / 8) o.req.words s else cutProgram s o.req
      flcGoOn (flcEnd (s.setBank b { s.bank b with op := none }) b o good) b
  | none => s

/-- The running erase of a bank ends (R445, R446). -/
def eraseDone (b : Nat) (good : Bool) (s : State) : State :=
  match (s.bank b).op with
  | some o =>
    if !o.req.erase then s
    else
      let sec := sectorIn o.req.addr
      let s := if good then s.eraseSector (sectorAbs b sec) else s
      let s := (closeIntent s o.slot good).addMod (Reg.FLC_B_ERASES b) 0 32 1
      let k := s.bank b
      let s := s.setBank b { k with
        op := none, suspReq := false, auto := false
        bad := if good then k.bad else sec :: k.bad.filter (· != sec) }
      let s := flcEnd s b o good
      let s := switchIntent s b
      let s := if 4 ≤ (s.bank b).bad.length then failBank s b else s
      flcGoOn s b
  | none => s

/-- A SUSPEND takes effect once the erase has run MINRUN µs since its start or last resume (R442, R444). -/
def suspendDone (b : Nat) (s : State) : State :=
  let k := s.bank b
  match k.op with
  | some o =>
    if o.req.erase ∧ k.suspReq ∧ 8 * s.fld Reg.FLC_CFG 0 10 ≤ 5 * (s.ticks - o.since) then
      flcGoOn (setResult (s.setBank b { k with op := none, susp := some o, suspReq := false }) b 0) b
    else s
  | none => s

/-- A reset reaches FLC, or SRST (R444, R445): operations are abandoned, and the scan is due. -/
def flcAbandon (s : State) (b : Nat) : State :=
  let k := s.bank b
  let secs := (erasing k).map (sectorAbs b)
  let s := match k.op with
    | some o => if o.req.erase then s else cutProgram s o.req
    | none => s
  let s := s.setFlash { s.flash with half := secs ++ s.flash.half }
  syncBank (s.setBank b { s.bank b with op := none, susp := none, suspReq := false, auto := false, waiting := [] }) b

/-- FLC as a reset leaves it. -/
def flcReset (s : State) : State :=
  let s := flcAbandon (flcAbandon s 0) 1
  (s.setFlash { s.flash with scan := .due, reads := [], ended := [] }).setBit (Reg.STAT pgFLC) 10 true

/-- The highest count an intent sector holds. -/
def highEseq (s : State) (b i : Nat) : Nat := ((intentsIn s b i).map (fun r => r.2.2.1)).foldl max 0

/-- The scan begins: the active intent sector of a bank (R445). A full sector's successor is the other one. -/
def scanBank (s : State) (b : Nat) : State :=
  let hi := if highEseq s b 0 < highEseq s b 1 then 1 else 0
  let k := s.bank b
  let act := if intentFree s b hi = 512 then 1 - hi else hi
  (s.setBank b { k with active := act, eseq := max k.eseq (highEseq s b hi) }).setFld Reg.FLC_ESEQ (16 * b) 16
    (max k.eseq (highEseq s b hi))

/-- Erases again the sectors of open intents and closes them, counting (R445). -/
def reErase (b : Nat) : List (Nat × Nat × Bool) → Nat → State → Nat × State
  | [], n, s => (n, s)
  | (w, sec, opn) :: t, n, s =>
    if opn then
      reErase b t (n + 1) ((closeIntent (s.eraseSector (sectorAbs b sec)) w true).addMod (Reg.FLC_B_ERASES b) 0 32 1)
    else reErase b t n s

/-- The intents of both sectors of a bank: word, sector, open. Those of a sector that a last word of the other opens an
erase of are ignored (R445). -/
def scanList (s : State) (b : Nat) : List (Nat × Nat × Bool) :=
  let of := fun (i : Nat) =>
    let dying := (intentsIn s b (1 - i)).any (fun r => r.1 == 511 && r.2.1 == 0x3FE + i && r.2.2.2)
    if dying then [] else (intentsIn s b i).map (fun r => (intentBase b i + r.1, r.2.1, r.2.2.2))
  of 0 ++ of 1

end Sys2Proof.Machine
end

