-- ==== Sys2Proof/Machine/CalOps.lean ====
section
/-! DEFINITION. Glides of registers and of mortar words (R287 to R292). -/
namespace Sys2Proof.Machine

/-- Page of CAL. -/
abbrev pgCAL : Nat := 0x15

/-- Replaces CAL's own state. -/
def State.setCal (s : State) (x : Cal) : State := { s with cal := x }

/-- A glided quantity: its class, the address of its active register (its target stands at +4) and its owner's number. -/
structure Glided where
  cls : Nat
  act : Nat
  owner : Nat
  sub : Nat
  deriving DecidableEq, Repr

/-- Every glided register (R287). -/
def glidedList : List Glided :=
  (List.range 4).flatMap (fun l => (List.range 9).flatMap (fun k =>
    [⟨0, Reg.RFL_SUB_OFS l k, l, k⟩, ⟨1, Reg.RFL_SUB_GAIN l k, l, k⟩, ⟨2, Reg.RFL_SUB_SKEW l k, l, k⟩])) ++
  (List.range 32).flatMap (fun k => [⟨3, Reg.SADC_CH_OFS k, k, 0⟩, ⟨4, Reg.SADC_CH_GAIN k, k, 0⟩]) ++
  (List.range 4).map (fun b => ⟨5, Reg.ACT_BR_OFS b, b, 0⟩) ++
  (List.range 3).flatMap (fun k => [⟨6, Reg.SPN_SH_OFS k, k, 0⟩, ⟨7, Reg.SPN_SH_GAIN k, k, 0⟩])

/-- The glided quantity whose target register this is. -/
def glidedOfTarget (a : Nat) : Option Glided := glidedList.find? (fun g => g.act + 4 == a)

/-- A new target becomes active at once (R289, R60). -/
def glideAtOnce (s : State) (g : Glided) : Bool :=
  if g.cls ≤ 2 then s.fld (Reg.RFL_SUB_STAT g.owner g.sub) 0 2 != 0 || s.fld (Reg.RFL_MODE g.owner) 0 2 == 0
  else if g.cls ≤ 4 then !s.bit Reg.SADC_CFG 0
  else if g.cls = 5 then !s.bit Reg.ACT_CFG g.owner
  else s.fld (Reg.STAT 3) 8 4 == 0

/-- The fraction of an active value. -/
def glideFrac (s : State) (act : Nat) : Nat := ((s.cal.frac.find? (fun p => p.1 == act)).map (·.2)).getD 0

/-- Sets an active value, given in 1/256. -/
def setActive (s : State) (act : Nat) (v : Int) : State :=
  let s := s.setReg act (Word.ofNat (bitsOf 12 (v / 256)))
  let f := (v % 256).toNat
  let rest := s.cal.frac.filter (fun p => p.1 != act)
  s.setCal { s.cal with frac := if f = 0 then rest else (act, f) :: rest }

/-- An active value in 1/256. -/
def activeOf (s : State) (act : Nat) : Int := s.sfld act 0 12 * 256 + (glideFrac s act : Int)

/-- The slope of a class in 1/256 per tick (R287). -/
def classSlope (s : State) (c : Nat) : Int := s.fld (Reg.CAL_SLOPE (c / 2)) (16 * (c % 2)) 16

/-- A new target: active at once where R289 allows it; else its glide goes on from where the active value stands. -/
def targetWritten (s : State) (g : Glided) : State :=
  if glideAtOnce s g then setActive s g.act (s.sfld (g.act + 4) 0 12 * 256) else s

/-- CAL writes a target (R290). -/
def calTarget (s : State) (g : Glided) (v : Int) : State :=
  targetWritten (s.setReg (g.act + 4) (Word.ofNat (bitsOf 12 (max (-2048) (min 2047 v))))) g

/-- A glide of the quantity runs: its active value is not its target. -/
def glideRuns (s : State) (g : Glided) : Bool := activeOf s g.act != s.sfld (g.act + 4) 0 12 * 256

/-- One tick of one glide (R288). -/
def glideStep (s : State) (g : Glided) : State :=
  let a := activeOf s g.act
  let t := s.sfld (g.act + 4) 0 12 * 256
  if a = t then s
  else
    let sl := classSlope s g.cls
    if (t - a).natAbs ≤ sl.toNat then setActive s g.act t
    else setActive s g.act (if a < t then a + sl else a - sl)

/-- Register glides of a tick, and the classes that have one running (R288). -/
def glidesTick (s : State) : State :=
  if s.frozen pgCAL then s
  else
    let s := glidedList.foldl glideStep s
    let run := glidedList.foldl (fun n g => if glideRuns s g then n ||| 2 ^ g.cls else n) 0
    s.setReg Reg.CAL_GSTAT (Word.ofNat run)

/-! ## Mortar glides -/

/-- A glide channel. -/
def mgOf (s : State) (k : Nat) : MortarGlide := s.cal.glides.getD k ⟨false, false, 0#32⟩
/-- Replaces a glide channel. -/
def State.setMg (s : State) (k : Nat) (x : MortarGlide) : State := s.setCal { s.cal with glides := s.cal.glides.set k x }
/-- The word of a channel. -/
def mgAddr (s : State) (k : Nat) : Nat := s.fld (Reg.CAL_MG_CFG k) 16 12

/-- A glide ends before its target (R292): cause 1 overwritten, 2 swap, 3 disabled. -/
def mgEndEarly (s : State) (k cause : Nat) : State :=
  let s := s.setMg k ⟨false, false, 0#32⟩
  let s := s.setReg (Reg.CAL_MG_STAT k) (Word.ofNat (cause * 16))
  (s.raise pgCAL 1).err pgCAL 0x1203 k

/-- A glide towards CAL_MG_TGT is to start at the next exchange (R291). -/
def mgStart (s : State) (k : Nat) : State :=
  (s.setMg k ⟨true, !(mgOf s k).run || (mgOf s k).start, (mgOf s k).last⟩).setReg (Reg.CAL_MG_STAT k) 1#32

/-- Before step 4: a glided word found changed ends its glide (R292). -/
def mgCheck (s : State) (k : Nat) : State :=
  let g := mgOf s k
  if g.run && !g.start && s.mort (mgAddr s k) != g.last then mgEndEarly s k 1 else s

/-- Step 6: a glide writes its word (R291). -/
def mgStep (s : State) (k : Nat) : State :=
  let g := mgOf s k
  if !g.run then s
  else
    let cur := signedOf 32 (s.mort (mgAddr s k)).toNat
    let cur := if g.start then cur else signedOf 32 g.last.toNat
    let tgt := signedOf 32 (s.reg (Reg.CAL_MG_TGT k)).toNat
    let sl : Int := s.fld (Reg.CAL_MG_SLOPE k) 0 31
    if (tgt - cur).natAbs ≤ sl.toNat then
      let s := (s.putMort (mgAddr s k) (Word.ofNat (bitsOf 32 tgt))).setMg k ⟨false, false, 0#32⟩
      (s.setReg (Reg.CAL_MG_STAT k) 2#32).raise pgCAL 0
    else
      let v := Word.ofNat (bitsOf 32 (if cur < tgt then cur + sl else cur - sl))
      (s.putMort (mgAddr s k) v).setMg k ⟨true, false, v⟩

/-- A swap ends every glide on the swap half (R207, R292). -/
def mgSwap (s : State) : State :=
  (List.range 10).foldl (fun s k =>
    if (mgOf s k).run && decide (0x400 ≤ mgAddr s k) && decide (mgAddr s k < 0x800) then mgEndEarly s k 2 else s) s

/-! ## Rung 5 (R306) -/

/-- Focus offset, in word 0x089's unit, and collimator offset that the retry ladder asks for: by the re-reads that the first
strip on rung 5 has done; 0 outside rung 5 (R108, R306). -/
def rungOptics (s : State) : Int × Int :=
  match (s.rd.groups.flatMap (·.strips)).find? (fun t => t.rung == 5 && t.ended.isNone) with
  | none => (0, 0)
  | some t =>
    let f : Int := s.fld Reg.CAL_RETRY 0 12 * 1048576
    let a : Int := s.fld Reg.CAL_RETRY 16 12
    [(f, 0), (-f, 0), (0, a), (0, -a)].getD t.rereads (0, -a)

/-- Word 0x089 glides towards the focus offset of rung 5, DFO in one period of the optimiser (R306). -/
def retryFocus (s : State) (goal : Int) : State :=
  if s.rd.dfo = none ∧ goal = 0 then s
  else
    let cur := s.mortInt 0x89
    let sl : Int := s.fld Reg.CAL_RETRY 0 12 * 256
    let v := if (goal - cur).natAbs ≤ sl.toNat then goal else if cur < goal then cur + sl else cur - sl
    let s := if v = cur then s else s.putMort 0x89 (Word.ofNat (bitsOf 32 v))
    { s with rd := { s.rd with dfo := if goal = 0 ∧ v = goal then none else some goal } }

/-- The collimator's target moves by the offset of rung 5 (R306). -/
def retryCollimator (s : State) (goal : Int) : State :=
  if goal = s.rd.dsa then s
  else
    let s := s.setFld (Reg.STP_AX_TBASE 1) 0 28 (bitsOf 28 (s.sfld (Reg.STP_AX_TBASE 1) 0 28 + goal - s.rd.dsa))
    { s with rd := { s.rd with dsa := goal } }

/-- The moves of rung 5 in a tick. -/
def retryGlide (s : State) : State :=
  let o := rungOptics s
  retryCollimator (retryFocus s o.1) o.2

end Sys2Proof.Machine
end

