-- ==== Sys2Proof/Machine/Write.lean ====
section
/-! DEFINITION. The meanings of the write path's commands: WENC, WSG, DRAW and WINH (R117 to R154). -/
namespace Sys2Proof.Machine

/-! ## Effects of register writes -/

/-- Something holds the write gate low or keeps WENC from a pass: a frozen page, the servo's safe state, a halted hart under
HALTGATE, OVSTATE ZVBRK, the last gasp (R149, R273, R277). -/
def gateBarred (s : State) : Bool :=
  (List.range 0x29).any s.frozen || s.bit Reg.ACT_SAFE 8 || ovState s == 2 || lgRuns s || (s.bit Reg.DBG_CFG 1 && s.harts.any (·.halted))

/-- WENC_ARM_TAG commits the arm that the other registers describe (R119, R120), but none while a link-skew run
is pending (R301). -/
def armCommit (tag : Word) (s : State) : State :=
  let psa := s.fld Reg.WENC_ARM_PSA 0 25
  let desc := (s.reg Reg.WENC_ARM_DESC).toNat
  let slot := s.fld Reg.WENC_ARM_CTRL 0 2
  let chan := s.fld Reg.WENC_ARM_CTRL 4 2
  let test := s.bit Reg.WENC_ARM_CTRL 6
  let a : Arm := { psa := psa, desc := desc, slot := slot, order := s.fld Reg.WENC_ARM_CTRL 2 2, chan := chan, test := test,
                   rpln := s.fld Reg.WENC_ARM_CTRL 8 2, rst := s.fld Reg.WENC_ARM_RST 0 16, tag := tag.toNat,
                   parity := false, passes := 0, off := 0, offs := [], running := false, go := false, t0 := 0, tfs := 0, step := 0, tbl := [] }
  let rd := memRead s .cdma desc 7168
  let tbl := rd.1
  let s := rd.2.2
  if armOk s a tbl then putArm s a
  else (s.raise pgWENC 0).err pgWENC 0x0502 0

/-- WENC_PASSGO lets the next pass of the front arm start (R125). -/
def passGo (s : State) : State :=
  match s.wenc.arms with
  | a :: t => if a.passes > 0 ∧ !a.running then s.setW { s.wenc with arms := { a with go := true } :: t } else s
  | [] => s

/-- WENC_ARM_CTRL.ABORT aborts the oldest arm (R141); an abort in the clock of the last bit of the last pass has no
effect. -/
def abortArm (atLastBit : Bool) (s : State) : State :=
  match s.wenc.arms with
  | [] => s
  | a :: _ =>
    if a.running then
      if atLastBit ∧ a.offs.length = 1 then s else dropGate s 6
    else if a.passes = 0 then notStartedFront s
    else voidFront s 6

/-- WENC_STG_REL returns slots to firmware; a slot that an arm refers to is not released (R117). -/
def releaseSlots (v : Word) (s : State) : State :=
  s.setW { s.wenc with held := s.wenc.held.filter (fun k => fieldOf v k 1 == 0 || s.wenc.arms.any (fun a => a.slot == k)) }

/-- The fields of strategy word `k` lie in their ranges (R127). -/
def wsgFieldOk (k : Nat) (w : Word) : Bool :=
  if k < 36 then fieldOf w 8 8 != 0 && (decide (k < 9) || fieldOf w 24 8 != 0)
  else if k = 36 then fieldOf w 24 8 != 0 && fieldOf w 16 8 != 0 && fieldOf w 0 16 != 0
  else if k = 37 then fieldOf w 16 8 != 0
  else true

/-- The edges of a mark of n bits by entry `k` rise strictly (R128). -/
def markRises (word : Nat → Word) (k n : Nat) : Bool :=
  let e := word k
  let w37 := word 37
  let dtop := signedOf 8 (fieldOf e 0 8)
  let dcl := signedOf 8 (fieldOf e 16 8)
  let wlp : Int := fieldOf e 24 8
  let dmp := signedOf 8 (fieldOf w37 8 8)
  let wmp : Int := fieldOf w37 16 8
  let topEnd := dtop + (fieldOf e 8 8 : Int)
  if n = 2 then decide (topEnd < 128 + dcl)
  else
    decide (topEnd < 64 + dmp) &&
    (List.range (n - 3)).all (fun _ => decide (wmp < 64)) &&
    decide (64 * ((n : Int) - 2) + dmp + wlp < 64 * (n : Int) + dcl)

/-- The mark lengths of a class: 2, 3, 4, or 5 to 8 (R127). -/
def classMarks (mc : Nat) : List Nat := if mc < 3 then [mc + 2] else [5, 6, 7, 8]

/-- No loaded mark and space pair puts its edges out of order (R128). -/
def wsgOrderOk (word : Nat → Word) (loaded : Nat → Bool) : Bool :=
  let ks := (List.range 36).filter loaded
  ks.all (fun k =>
    ((!loaded 37 && decide (9 ≤ k)) || (classMarks (k / 9)).all (markRises word k)) &&
    ks.all (fun k' => k % 3 != k' / 3 % 3 ||
      decide (signedOf 8 (fieldOf (word k) 16 8) < 64 * ((k % 3 : Nat) + 2 : Int) + signedOf 8 (fieldOf (word k') 0 8))))

/-- The words of a number of bytes, four to each. -/
def wordsLE : Nat → List Nat → List Word
  | 0, _ => []
  | n + 1, b => Word.ofNat (leNat (b.take 4)) :: wordsLE n (b.drop 4)

/-- WSG_LOAD_CTRL.GO (R128): checks the load whole and starts it, or refuses it. -/
def wsgLoadGo (v : Word) (s : State) : State :=
  if fieldOf v 31 1 = 0 ∨ s.bit Reg.WSG_LOAD_CTRL 31 then s
  else
    let layer := s.fld Reg.WSG_LOAD_CTRL 0 4
    let first := s.fld Reg.WSG_LOAD_CTRL 8 6
    let count := s.fld Reg.WSG_LOAD_CTRL 16 6
    let refuse := fun (s : State) => (s.raise pgWSG 1).err pgWSG 0x0602 0
    if count = 0 ∨ 40 < first + count ∨ 11 < layer ∨ s.wenc.arms.any (fun a => psaLayer a.psa == layer) then refuse s
    else
      let r := memRead s .cdma (s.reg Reg.WSG_LOAD_SRC).toNat (4 * count)
      let s := r.2.2
      let ws := wordsLE count r.1
      let word := fun k => if first ≤ k ∧ k < first + count then ws.getD (k - first) 0#32 else wsgWord s layer k
      let mask := s.wenc.setMask.getD layer 0
      let loaded := fun k => mask.testBit k || (decide (first ≤ k) && decide (k < first + count))
      if r.2.1 then refuse s
      else if (List.range count).all (fun i => wsgFieldOk (first + i) (ws.getD i 0#32)) && wsgOrderOk word loaded then
        (s.setW { s.wenc with loadBuf := ws, loadAt := (layer, first) }).setBit Reg.WSG_LOAD_CTRL 31 true
      else refuse s

/-- Writes words into a layer's set. -/
def putSet (layer : Nat) : List Word → Nat → State → State
  | [], _, s => s
  | w :: t, k, s => putSet layer t (k + 1) (s.setReg (0x500000000 + layer * 0x100 + 4 * k) w)

/-- WSG_CFG.MEDIA was written: every set counts as not loaded, and the ND210 changes its mode (R128, R134, R152). -/
def wsgMediaWrite (s : State) : State :=
  let s := (s.setW { s.wenc with setMask := List.replicate 12 0 }).setReg Reg.WSG_LAYERSTAT 0#32
  wsgSend s [Config.modeCmd (s.bit Reg.WSG_CFG 0)]

/-- DRAW takes held records into the ring while it has room (R141). -/
def vqDrain : Nat → State → State
  | 0, s => s
  | f + 1, s =>
    match s.wenc.heldRecs with
    | [] => s
    | r :: t => if vqLevel s < vqSize s then vqDrain f (vqStore (s.setW { s.wenc with heldRecs := t }) r) else s

/-- R148: a latch bit clears only while its source is inside its window; bit 16 is outside while VIN is lost (R281). -/
def winhClear (v out : Word) (s : State) : State :=
  let out := if lgRuns s then out ||| 65536#32 else out;
  let held := v &&& out &&& s.reg Reg.WINH_LATCH
  let s := s.setReg Reg.WINH_SRC (out &&& 0xFFFF#32)
  let s := s.setReg Reg.WINH_LATCH (s.reg Reg.WINH_LATCH &&& ~~~(v &&& ~~~held))
  if held = 0#32 then s else (s.raise pgWINH 1).err pgWINH 0x0803 0

/-! ## Commands -/

/-- WENC_ARM. -/
def execWencArm (m : Master) (tag : Word) (s : State) : Host.Outcome State Fault Refusal :=
  done s (regWrite s m Reg.WENC_ARM_TAG 4 tag (fun s => s.unlessFrozen pgWENC (armCommit tag)))

/-- Parity bytes of one byte position of strip g's 56 data sectors, as eight sectors take them. -/
def parityColumns (data : List (List Nat)) : List (List Nat) :=
  (List.range 4096).map (fun b => stripParityColumn (data.map (fun u => u.getD b 0)))

/-- Writes the parity sectors of the strips into the slot (R38, R120). -/
def writeParity (a : Arm) (tbl : List Nat) : List Nat → State → State
  | [], s => s
  | g :: t, s =>
    let cols := parityColumns ((List.range 56).map (userField s a tbl g))
    writeParity a tbl t ((List.range 8).foldl (fun s j =>
      memWrite s .cdma (stagingAddr s a.slot g (56 + j)) (cols.map (fun c => c.getD j 0))) s)

/-- WENC_PARITY_DONE: the parity of the oldest arm that lacks it stands in its slot (R120). -/
def execWencParityDone (s : State) : Host.Outcome State Fault Refusal :=
  done s (s.unlessFrozen pgWENC (fun s =>
    match s.wenc.arms.find? (fun a => !a.parity) with
    | none => s
    | some a =>
      let s := writeParity a (armTable s a) (List.range 8) s
      s.setW { s.wenc with arms := s.wenc.arms.map (fun b => if b.slot == a.slot then { b with parity := true } else b) }))

/-- The wobble-derived position stands before the group, and its count has been confirmed by 8 words in a row (R50, R123). -/
def gaAtStart (s : State) (a : Arm) : Bool :=
  decide (8 ≤ s.fld Reg.FMT_GASTAT 0 8) && (match s.fmt.pred with
    | some w =>
      let g := GaWord.ofBits w
      g.layer == psaLayer a.psa && g.brick == psaBrick a.psa && g.group == groupOf a.psa && g.pos == 0
    | none => false)

/-- The front arm may start its next pass now (R120, R123, R125, R141, R142, R148, R149). -/
def mayStart (s : State) (a : Arm) : Bool :=
  !a.running && a.parity && gaAtStart s a && s.reg Reg.WINH_LATCH == 0#32 && !gateBarred s && (armChans a).all (chanInService s) &&
  !((s.xlt.reset.map (·.running)).getD false) && (if a.passes = 0 then s.wenc.heldRecs.isEmpty else a.go)

/-- The pass of the front arm starts (R121 to R123, R129, R131, R143). -/
def startPass (tfs : Nat) (s : State) : State :=
  match s.wenc.arms with
  | [] => s
  | a :: t =>
    if !mayStart s a then s
    else
      let offs := if a.passes = 0 then passOrder a s.wenc.lastPsa s.wenc.lastOff else a.offs
      let off := offs.headD 0
      let a := { a with offs := offs, off := off, running := true, go := false, t0 := s.ticks, tfs := tfs, step := 0 }
      let out := (armChans a).map (shareOut s a off)
      let clamps := (out.map (shareClamps s (psaLayer a.psa) tfs)).sum
      let s := s.setW { s.wenc with
        arms := a :: t, emit := out, gate := true,
        written := (if a.passes = 0 then s.wenc.written.filter (fun w => w.psa / 8 != a.psa / 8) else s.wenc.written) ++
          out.flatMap (·.sectors) }
      let s := s.setReg Reg.WENC_POS (posWord s a)
      let s := if clamps = 0 then s else (s.addSat Reg.WSG_CNT 0 16 clamps).raise pgWSG 2
      let s := if clamps = 0 then s else s.err pgWSG 0x0603 0
      passLevels s a 0

/-- WENC_PASS_START; `tfs` is the channel-bit period of the pass in fs. -/
def execWencPassStart (tfs : Nat) (s : State) : Host.Outcome State Fault Refusal :=
  done s (s.unlessFrozen pgWENC (startPass tfs))

/-- The running pass ends with its last postamble bit (R125, R131). -/
def endPass (s : State) : State :=
  match s.wenc.arms with
  | [] => s
  | a :: t =>
    if !a.running then s
    else
      let a := { a with running := false, passes := a.passes + 1, offs := a.offs.drop 1 }
      let s := (posIdle (s.setW { s.wenc with gate := false, emit := [] })).raise pgWENC 1
      if a.offs.isEmpty then
        let s := s.setW { s.wenc with arms := t, verdictArms := s.wenc.verdictArms ++ [a], lastPsa := some a.psa, lastOff := a.off }
        (s.addSat Reg.WENC_CNT 0 16 1).raise pgWENC 2
      else s.setW { s.wenc with arms := a :: t }

/-- WENC_PASS_END. -/
def execWencPassEnd (s : State) : Host.Outcome State Fault Refusal := done s (s.unlessFrozen pgWENC endPass)

/-- WENC_PASSGO. -/
def execWencPassgo (m : Master) (v : Word) (s : State) : Host.Outcome State Fault Refusal :=
  done s (regWrite s m Reg.WENC_PASSGO 4 v (fun s => s.unlessFrozen pgWENC passGo))

/-- The front arm waits between two passes. -/
def betweenPasses (s : State) : Bool := match s.wenc.arms with
  | a :: _ => decide (a.passes > 0) && !a.running
  | [] => false

/-- No PASSGO came in time (R125), or WINH's latch stands (R147); a PASSGO written in the clock of the expiry came in time
(R13). -/
def passWaitExpiry (s : State) : State :=
  match s.wenc.arms with
  | a :: _ => if betweenPasses s ∧ (!a.go ∨ s.reg Reg.WINH_LATCH ≠ 0#32) then voidFront s 4 else s
  | [] => s

/-- WENC_PASSWAIT_EXPIRY. -/
def execWencPasswaitExpiry (s : State) : Host.Outcome State Fault Refusal := done s (s.unlessFrozen pgWENC passWaitExpiry)

/-- The start was missed in every revolution tried (R123). -/
def startRevExpiry (s : State) : State :=
  match s.wenc.arms with
  | a :: _ => if a.running then s else if a.passes = 0 then notStartedFront s else voidFront s 5
  | [] => s

/-- WENC_STARTREV_EXPIRY. -/
def execWencStartrevExpiry (s : State) : Host.Outcome State Fault Refusal := done s (s.unlessFrozen pgWENC startRevExpiry)

/-- The effect of a write of WENC_ARM_CTRL. -/
def armCtrlEffect (v : Word) (atLastBit : Bool) (s : State) : State :=
  if fieldOf v 31 1 = 1 then s.unlessFrozen pgWENC (abortArm atLastBit) else s

/-- WENC_ABORT. -/
def execWencAbort (m : Master) (v : Word) (atLastBit : Bool) (s : State) : Host.Outcome State Fault Refusal :=
  done s (regWrite s m Reg.WENC_ARM_CTRL 4 v (armCtrlEffect v atLastBit))

/-- WENC_STG_RELEASE. -/
def execWencStgRelease (m : Master) (v : Word) (s : State) : Host.Outcome State Fault Refusal :=
  done s (regWrite s m Reg.WENC_STG_REL 4 v (releaseSlots v))

/-- WSG_LOAD. -/
def execWsgLoad (m : Master) (v : Word) (s : State) : Host.Outcome State Fault Refusal :=
  done s (regWrite s m Reg.WSG_LOAD_CTRL 4 v (fun s => s.unlessFrozen pgWSG (wsgLoadGo v)))

/-- The load ends: its words stand in the set, which counts as loaded once all 40 do (R128). -/
def loadDone (s : State) : State :=
  if s.bit Reg.WSG_LOAD_CTRL 31 then
    let layer := s.wenc.loadAt.1
    let first := s.wenc.loadAt.2
    let ws := s.wenc.loadBuf
    let s := putSet layer ws first s
    let mask := s.wenc.setMask.getD layer 0 ||| (2 ^ ws.length - 1) * 2 ^ first
    let s := s.setW { s.wenc with setMask := s.wenc.setMask.set layer mask, loadBuf := [] }
    let s := s.setBit Reg.WSG_LAYERSTAT layer (mask == 2 ^ 40 - 1)
    (s.setBit Reg.WSG_LOAD_CTRL 31 false).raise pgWSG 0
  else s

/-- WSG_LOAD_DONE. -/
def execWsgLoadDone (s : State) : Host.Outcome State Fault Refusal := done s (s.unlessFrozen pgWSG loadDone)

/-- Raw errors of step k of a test group: positions 8k + 1 to 8k + 7 of the spirals its last pass wrote (R143). -/
def opcSum (l : List Graded) (a : Arm) (k : Nat) : Nat :=
  let qs := (armChans a).map (fun c => passSpiral c a.off)
  (l.filter (fun g =>
    let pl := placeOf (g.psa % 8) g.sidx
    qs.contains pl.1 && pl.2 / 8 == k && pl.2 % 8 != 0)).foldl (fun n g => n + g.raw) 0

/-- DRAW stores the sums, KMIN and KTH of a power sweep (R143). -/
def opcResult (s : State) (a : Arm) : State :=
  let l := gradedOf s a.psa
  let e := (List.range 16).map (fun k => min (opcSum l a k) 0xFFFFFFFF)
  let emin := e.foldl min 0xFFFFFFFF
  let kmin := ((List.range 16).find? (fun k => e.getD k 0 == emin)).getD 0
  let kth := ((List.range 16).find? (fun k => decide (e.getD k 0 ≤ 2 * emin + 16))).getD 0
  let s := (List.range 16).foldl (fun s k => s.setReg (Reg.DRAW_OPC_ERR k) (Word.ofNat (e.getD k 0))) s
  (s.setReg Reg.DRAW_OPC_RES (Word.ofNat (kmin + kth * 256 + 65536))).raise pgDRAW 3

/-- A strip passes (R137). -/
def stripPasses (s : State) (l : List Graded) (psa : Nat) : Bool :=
  let w := gradeCount l psa .weak
  let f := gradeCount l psa .failed
  decide (w + f ≤ s.fld Reg.DRAW_CFG 8 4) && decide (f ≤ s.fld Reg.DRAW_CFG 12 4)

/-- DRAW gives the verdict of the oldest group whose passes are done, once its 512 sectors are graded (R137). -/
def drawVerdict (s : State) : State :=
  match s.wenc.verdictArms with
  | [] => s
  | a :: t =>
    let l := gradedOf s a.psa
    if l.length < 512 then s
    else
      let s := s.setW { s.wenc with verdictArms := t }
      if a.test then giveVerdict (if keepsResult s a then s else opcResult s a) a 5 0
      else if (List.range 8).all (fun g => stripPasses s l (a.psa + g)) then giveVerdict s a 1 0
      else giveVerdict ((s.raise pgDRAW 1).err pgDRAW 0x0702 0) a 2 0

/-- DRAW_VQ_CONS_WRITE. -/
def execDrawVqConsWrite (m : Master) (v : Word) (s : State) : Host.Outcome State Fault Refusal :=
  done s (regWrite s m Reg.DRAW_VQ_CONS 4 v (vqDrain 2))

/-- WINH_TRIP: enabled sources leave their windows for their filter or persistence time. -/
def execWinhTrip (srcs : Nat) (late : Bool) (s : State) : Host.Outcome State Fault Refusal :=
  let act := srcs &&& winhEnabled s
  done s (winhTrip (s.setReg Reg.WINH_SRC (s.reg Reg.WINH_SRC ||| Word.ofNat (srcs % 65536))) act late)

/-- WINH_FORCE: a software trip (R154). -/
def execWinhForce (m : Master) (v : Word) (late : Bool) (s : State) : Host.Outcome State Fault Refusal :=
  done s (regWrite s m Reg.WINH_FORCE 4 v (fun s => if fieldOf v 0 1 = 1 then winhTrip s 65536 late else s))

/-- WINH_LATCH_CLEAR; `out` is the mask of sources out of their windows at the write. WINH_LATCH holds what R148 leaves. -/
def execWinhLatchClear (m : Master) (v : Word) (out : Nat) (s : State) : Host.Outcome State Fault Refusal :=
  let s' := regWrite s m Reg.WINH_LATCH 4 v (fun t =>
    winhClear v (Word.ofNat (out % 65536)) (t.setReg Reg.WINH_LATCH (s.reg Reg.WINH_LATCH)))
  done s s'

end Sys2Proof.Machine
end

