-- ==== Sys2Proof/Machine/ReadOps.lean ====
section
/-! DEFINITION. The read path's shared operations (R57 to R116): lanes, converters, slots, sectors becoming final, strips
and their ladder. -/
namespace Sys2Proof.Machine

/-- Pages of the read path. -/
abbrev pgRFL (l : Nat) : Nat := 0x0A + l
abbrev pgDSK : Nat := 0x0E
abbrev pgDET : Nat := 0x0F
abbrev pgLDPC : Nat := 0x10
abbrev pgSTRP : Nat := 0x11

/-- Replaces the read path's own state. -/
def State.setRd (s : State) (x : ReadPath) : State := { s with rd := x }

/-- A lane that does not exist: an empty one. -/
def noLane : Lane :=
  { pga := 24, hpf := 1, nextSlot := 0, swapDue := none, retirePend := [], sparePick := none, marker := false,
    reacqLeft := 0, locked := false, outRun := 0, faultCleared := false, firstAcq := true, frames := [], group := 0,
    expect := (128, 0), buf := [], xs := [], dec := [], last8 := [], prev := none, gainFrac := 0, tapFrac := [],
    phase := 0, freq := 0, fast := 0, stopped := false, pay := [] }

/-- A lane's own state. -/
def State.lane (s : State) (l : Nat) : Lane := s.rd.lanes.getD l noLane
/-- Replaces a lane's own state. -/
def State.setLane (s : State) (l : Nat) (x : Lane) : State := s.setRd { s.rd with lanes := s.rd.lanes.set l x }

/-- LSTATE: 0 OFF, 1 ARMED, 2 ACQ, 3 TRACK, 4 REACQ, 5 OUT, 6 FAULT. -/
def lstate (s : State) (l : Nat) : Nat := s.fld (Reg.STAT (pgRFL l)) 8 3
/-- A lane enters a state; both fields that show it follow. -/
def State.setLstate (s : State) (l st : Nat) : State :=
  (s.setFld (Reg.STAT (pgRFL l)) 8 3 st).setFld (Reg.RFL_SYNC_STAT l) 20 3 st

/-! ## Pass plan (R104, R121) -/

/-- The plan DET_PASS gives: spiral, use and decode of each lane. -/
def firmwarePlan (s : State) : List LanePlan :=
  (List.range 4).map (fun l => ⟨(s.fld Reg.DET_PASS (2 * l) 2 : Nat), s.bit Reg.DET_PASS (8 + l), s.bit Reg.DET_PASS (12 + l)⟩)

/-- The plan of a running write pass: lane l reads the spiral l steps from the array's offset; every lane serves, only DRAW
lanes are decoded (R121). -/
def writePlan (a : Arm) : List LanePlan :=
  (List.range 4).map (fun l => ⟨a.off + (l : Int), true, (armChans a).any (fun c => 2 * c == l)⟩)

/-- The plan that the next link zone puts in force. -/
def nextPlan (s : State) : List LanePlan := match runningArm s with
  | some a => writePlan a
  | none => firmwarePlan s

/-- A lane's plan. -/
def lanePlan (s : State) (l : Nat) : LanePlan := s.rd.plan.getD l ⟨0, false, false⟩

/-- The spiral a lane reads in the present pass; one outside 0 to 3 lies outside the group (R104). -/
def laneSpiral (s : State) (l : Nat) : Int := (lanePlan s l).spiral

/-- A spiral of the group. -/
def spiralNo (q : Int) : Option Nat := if 0 ≤ q ∧ q < 4 then some q.toNat else none

/-- The lane whose clock, phase and numbering an XTALK lane takes: RFL_MODE.XREF, in a write pass the lane of its channel
(R75, R121). -/
def laneRef (s : State) (l : Nat) : Nat := match runningArm s with
  | some a => if a.chan = 1 then 0 else if a.chan = 2 then 2 else l / 2 * 2
  | none => s.fld (Reg.RFL_MODE l) 4 2

/-! ## Groups -/

/-- Groups that are still being read (R102). -/
def groupOpen (g : GroupRead) : Bool := g.strips.any (fun t => t.fins.any (·.isNone))

/-- DET holds every tile of a position of a group: what becomes of its lanes later does not touch it. -/
def wholeStored (s : State) (psa pos : Nat) : Bool :=
  s.rd.work.any (fun w => w.psa / 8 == psa / 8 && w.pos == pos && decide (225 ≤ w.tiles))

/-- R107: a group that loses a lane is LANELOST; the sectors not yet final on the lane's spiral wait for another pass. -/
def loseLane (s : State) (l : Nat) (g : GroupRead) : GroupRead :=
  if !groupOpen g || g.psa / 8 % 128 != (s.lane l).group || decide (128 ≤ (s.lane l).expect.1) then g
  else match spiralNo (laneSpiral s l) with
    | none => g
    | some q => { g with laneLost := true, strips := g.strips.zipIdx.map (fun x =>
        { x.1 with laneLostSectors := x.1.laneLostSectors ++ (List.range 64).filter (fun i => i % 4 == q &&
            (x.1.fins.getD i none).isNone && !x.1.laneLostSectors.contains i && !wholeStored s g.psa (placeOf x.2 i).2) }) }

/-- A lane has left DSK_LANEACT: the group it reads is LANELOST (R107). -/
def laneLeft (s : State) (l : Nat) : State :=
  let gs := s.rd.groups.map (loseLane s l)
  if gs = s.rd.groups then s else (s.setRd { s.rd with groups := gs }).raise pgDET 4

/-! ## Slots and lanes in service -/

/-- DSK_LANEACT: LANEEN less the lanes in FAULT, while DSK is enabled (R84); a lane reset after its FAULT returns with its
next clean acquisition (R80). -/
def laneActUpdate (s : State) : State :=
  let en := if s.bit (Reg.CTRL pgDSK) 0 then s.fld Reg.DSK_CFG 0 4 &&& lanesThere s else 0
  let act := ((List.range 4).map (fun l => if en.testBit l && lstate s l != 6 && !(s.lane l).faultCleared then 2 ^ l else 0)).sum
  let gone := (List.range 4).filter (fun l => s.bit Reg.DSK_LANEACT l && !act.testBit l)
  gone.foldl laneLeft (s.setReg Reg.DSK_LANEACT (Word.ofNat act))

/-- A lane in service (R84). -/
def laneActive (s : State) (l : Nat) : Bool := s.bit Reg.DSK_LANEACT l

/-- Strip slots that armed groups hold (R102). -/
def heldStripSlots (s : State) : List Nat :=
  s.rd.groups.flatMap (fun g => g.slots.filter (fun k => !g.released.contains k))

/-- The counts of held and free slots and of codewords follow the state (R84, R87, R95, R102). -/
def readCounts (s : State) : State :=
  let pair := fun (held total at2 : Nat) => Word.ofNat (held + (total - held) * 2 ^ at2)
  let s := s.setReg Reg.DSK_RING_STAT (pair s.rd.ring.length (s.fld Reg.DSK_RING_SLOTS 0 4) 8)
  let s := s.setReg Reg.DET_WS_STAT (pair s.rd.work.length (s.fld Reg.DET_WS_SLOTS 0 3) 8)
  let s := s.setReg Reg.STRP_RSA_STAT (pair (heldStripSlots s).length (s.fld Reg.STRP_RSA_SLOTS 0 5) 8)
  let rc := (s.rd.cws.filter (fun c => c.kind == .recovery)).length
  let s := s.setFld Reg.LDPC_SLOTS 0 7 (s.rd.cws.length - rc)
  s.setFld Reg.LDPC_SLOTS 8 7 rc

/-! ## Converters -/

/-- ROLE of converter k: 0 active, 1 spare, 2 retired. -/
def subRole (s : State) (l k : Nat) : Nat := s.fld (Reg.RFL_SUB_STAT l k) 0 2

/-- The spare of a lane, none while it has none (R83). -/
def spareOf (s : State) (l : Nat) : Option Nat :=
  let k := s.fld (Reg.RFL_ADC_STAT l) 0 4
  if k < 9 then some k else none

/-- The active converter of a slot. -/
def slotConverter (s : State) (l slot : Nat) : Option Nat :=
  (List.range 9).find? (fun k => subRole s l k == 0 && s.fld (Reg.RFL_SUB_STAT l k) 4 3 == slot)

/-- A lane enters FAULT (R80, R107, R142). -/
def laneFault (s : State) (l : Nat) : State :=
  if lstate s l = 6 then s
  else
    let s := ((s.setLstate l 6).raise (pgRFL l) 6).err (pgRFL l) 0x0006 l
    let s := (laneActUpdate (s.report (pgRFL l) 0x0006 15 [])).raise pgDSK 3
    let s := s.setLane l { s.lane l with faultCleared := false, outRun := 0, locked := false, stopped := false }
    writeChannelLost s l

/-- Converter k is retired now; a lane with two retired has fewer than 8 good ones (R61). -/
def retireNow (l : Nat) (s : State) (k : Nat) : State :=
  let s := if spareOf s l = some k then s.setFld (Reg.RFL_ADC_STAT l) 0 4 15 else s
  let s := (s.setReg (Reg.RFL_SUB_STAT l k) 2#32).setBit (Reg.RFL_ADC_STAT l) (4 + k) true
  if 2 ≤ popcount39 (s.fld (Reg.RFL_ADC_STAT l) 4 9) then laneFault s l else s

/-- Converters that wait for a turn as spare that no longer comes are retired where they stand. -/
def retirePending (s : State) (l : Nat) : State :=
  if (spareOf s l).isSome then s
  else
    let x := s.lane l
    x.retirePend.foldl (retireNow l) (s.setLane l { x with retirePend := [] })

/-- A converter found beyond its corrections' range (R61): the spare is retired at once, an active one at its next turn. A
lane that has no spare left rotates no more, so that there is no next turn: its converter is retired at once (DESIGN
CHOICE, log 110). -/
def retireConverter (s : State) (l k : Nat) : State :=
  if subRole s l k = 2 then s
  else
    let s := ((s.raise (pgRFL l) 3).err (pgRFL l) 0x0002 k).report (pgRFL l) 0x0002 15 []
    if spareOf s l = some k ∨ spareOf s l = none then retirePending (retireNow l s k) l
    else
      let x := s.lane l
      s.setLane l { x with retirePend := k :: x.retirePend.filter (· != k) }

/-- A correction that does not fit its 12-bit field (R61). -/
def beyondField (v : Int) : Bool := decide (v < -2048) || decide (2047 < v)

/-- The glided quantity of a converter: 0 offset, 1 gain, 2 skew. -/
def subGlided (l k c : Nat) : Glided :=
  ⟨c, if c = 0 then Reg.RFL_SUB_OFS l k else if c = 1 then Reg.RFL_SUB_GAIN l k else Reg.RFL_SUB_SKEW l k, l, k⟩

/-- A quotient rounded to the nearest number, halves away from zero; the divisor is positive. -/
def roundQuot (n d : Int) : Int := if 0 ≤ n then (2 * n + d) / (2 * d) else -((-2 * n + d) / (2 * d))

/-- Targets that a converter's turn as spare gives (R295): `m` holds the sum of its codes at level 0 and the difference of its
sums at the levels ±0.5 of full scale, ±64 codes, over the third of 3/4 of the turn that each level takes, and the measured skew
correction. -/
def spareTargets (s : State) (l : Nat) (m : Int × Int × Int) : Int × Int × Int :=
  let n : Int := (2 ^ (s.fld (Reg.RFL_ADC_CTRL l) 8 5 - 2) : Nat)
  let g := if m.2.1 ≤ 0 then 2048 else roundQuot (16384 * 128 * n) m.2.1 - 16384
  (-(roundQuot (64 * m.1 * (16384 + g)) (16384 * n)), g, m.2.2)

/-- CAL writes the targets of a converter that lie in their fields; `traced` says whether those traced to CALREF may be
written (R293 to R296). -/
def writeSubTargets (s : State) (l k : Nat) (traced : Bool) (ofs gain skew : Int) : State :=
  let s := if traced then calTarget (calTarget s (subGlided l k 0) ofs) (subGlided l k 1) gain else s
  calTarget s (subGlided l k 2) skew

/-- The spare takes a slot over: the converter there becomes the spare, or is retired where that is pending (R58, R61). -/
def swapInto (s : State) (l slot : Nat) : State :=
  match spareOf s l, slotConverter s l slot with
  | some sp, some k =>
    let s := s.setReg (Reg.RFL_SUB_STAT l sp) (Word.ofNat (slot * 16))
    let s := (s.setReg (Reg.RFL_SUB_STAT l k) 1#32).setFld (Reg.RFL_ADC_STAT l) 0 4 k
    let s := s.addMod (Reg.RFL_ADC_STAT l) 16 8 1
    let x := s.lane l
    if x.retirePend.contains k then
      retirePending (retireNow l (s.setLane l { x with retirePend := x.retirePend.filter (· != k) }) k) l
    else s
  | _, _ => s

/-- The spare's turn has shown it beyond its corrections' range (R61, R295). -/
def spareBad (s : State) (l : Nat) (meas : Int × Int × Int) : Bool :=
  let t := spareTargets s l meas
  s.bit (Reg.RFL_ADC_CTRL l) 16 &&
    ((!s.bit (Reg.STAT pgCAL) 8 && (beyondField t.1 || beyondField t.2.1)) || beyondField t.2.2)

/-- A rotation step: the spare's turn ends with its measurement, then it takes the next slot over (R58, R61, R295). -/
def rotateSpare (s : State) (l : Nat) (meas : Int × Int × Int) : State :=
  match spareOf s l with
  | none => s
  | some sp =>
    if spareBad s l meas then retireConverter s l sp
    else
      let t := spareTargets s l meas
      let s := if s.bit (Reg.RFL_ADC_CTRL l) 16 then writeSubTargets s l sp (!s.bit (Reg.STAT pgCAL) 8) t.1 t.2.1 t.2.2 else s
      let x := s.lane l
      let s := swapInto s l x.nextSlot
      s.setLane l { s.lane l with nextSlot := (x.nextSlot + 1) % 8 }

/-- A swap that fell due meanwhile is made (R59). -/
def runDueSwap (s : State) (l : Nat) : State :=
  match (s.lane l).swapDue with
  | some m => rotateSpare (s.setLane l { s.lane l with swapDue := none }) l m
  | none => s

/-! ## Sectors becoming final -/

/-- The group a strip belongs to. -/
def groupRead (s : State) (psa : Nat) : Option GroupRead := s.rd.groups.find? (fun g => g.psa / 8 == psa / 8)

/-- Changes the group a PSA lies in. -/
def mapGroup (s : State) (psa : Nat) (f : GroupRead → GroupRead) : State :=
  s.setRd { s.rd with groups := s.rd.groups.map (fun g => if g.psa / 8 = psa / 8 then f g else g) }

/-- Changes one strip of a group. -/
def mapStrip (s : State) (psa : Nat) (f : StripRead → StripRead) : State :=
  mapGroup s psa (fun g => { g with strips := g.strips.zipIdx.map (fun q => if q.2 = psa % 8 then f q.1 else q.1) })

/-- A strip's state. -/
def stripRead (s : State) (psa : Nat) : Option StripRead := (groupRead s psa).bind (fun g => g.strips[psa % 8]?)

/-- Address of sector i of a strip in its strip slot. -/
def stripSlotAddr (s : State) (g : GroupRead) (psa i : Nat) : Nat :=
  (s.reg Reg.STRP_RSA_BASE).toNat + g.slots.getD (psa % 8) 0 * 0x40000 + i * 4096

/-- A working slot's position is decided: all its tiles are in and every sector that this pass decodes is final (R87). -/
def workDone (s : State) (w : WorkSlot) : Bool :=
  decide (225 ≤ w.tiles) && w.lanes.all (fun x => x.fin || x.kind.isNone || (decide (x.kind = some .fg) && (groupRead s w.psa).isNone))

/-- A ring slot still serves a strip: a sector of its position is not GOOD and its strip has not ended (R79). -/
def ringNeeded (s : State) (r : RingSlot) : Bool :=
  s.rd.groups.any (fun g => g.psa / 8 % 128 == r.group && (List.range 4).any (fun q =>
    let gi := sectorAt q r.pos
    match g.strips[gi.1]? with
    | some t => t.ended.isNone && t.fins.getD gi.2 none != some .good
    | none => false))

/-- DET gives a working slot up: the ring slot of its position serves recovery alone from now on (R79, R87). -/
def dropWork (s : State) (gone : WorkSlot → Bool) : State :=
  let hit := s.rd.work.filter gone
  s.setRd { s.rd with
    work := s.rd.work.filter (fun w => !gone w)
    ring := s.rd.ring.map (fun r => if hit.any (fun w => w.psa / 8 % 128 == r.group && w.pos == r.pos) then { r with released := true } else r) }

/-- Releases what no longer serves. -/
def releaseSlotsDone (s : State) : State :=
  let s := dropWork s (workDone s)
  readCounts (s.setRd { s.rd with ring := s.rd.ring.filter (fun r => !r.released || ringNeeded s r) })

/-- A sector becomes final, or better (R93, R105): a GOOD one stays GOOD; one that was read waits for no other lane. -/
def setFinal (s : State) (psa i : Nat) (f : SectorFinal) : State :=
  mapStrip s psa (fun t =>
    if t.fins.getD i none = some .good then t
    else { t with fins := t.fins.set i (some f), laneLostSectors := t.laneLostSectors.filter (· != i) })

/-- Changes what DET holds of a lane for a codeword's sector (R87, R105): in a working slot, or, for recovery, in a ring
slot. -/
def mapSoft (s : State) (k : CwKind) (psa spiral pos : Nat) (f : LaneSoft → LaneSoft) : State :=
  let on := fun (l : List LaneSoft) => l.map (fun x => if x.spiral = (spiral : Int) ∧ x.kind = some k then f x else x)
  if k = .recovery then
    s.setRd { s.rd with ring := s.rd.ring.map (fun r => if r.group = psa / 8 % 128 ∧ r.pos = pos then { r with lanes := on r.lanes } else r) }
  else
    s.setRd { s.rd with work := s.rd.work.map (fun w => if w.psa / 8 = psa / 8 ∧ w.pos = pos then { w with lanes := on w.lanes } else w) }

/-- What was written at a sector of a running or graded pass, as DRAW holds it (R120, R136). -/
def writtenAt (s : State) (psa i : Nat) : Option WrittenSector :=
  ((s.wenc.emit.flatMap (·.sectors)) ++ s.wenc.written).find? (fun w => w.psa == psa && w.sidx == i)

/-- What the sector check says of a word that a core or a search decoded (R31 to R35, R93). -/
def judgeSector (bytes : List Nat) (psa i : Nat) : Option SectorFinal :=
  if !ldpcOk (byteBits bytes) then none
  else
    let hdr := bytes.take 24
    let user := scramble psa i ((bytes.drop 24).take 4096)
    let h := SectorHeader.ofBytes hdr
    if crc64 (hdr ++ user) ≠ beNat ((bytes.drop 4120).take 8) then some .falseconv
    else if h.psa ≠ psa ∨ h.sidx ≠ i then some .misplaced
    else if 6 ≤ h.stype then some .badtype
    else some .good

/-- The user field of a decoded word. -/
def decodedUser (bytes : List Nat) (psa i : Nat) : List Nat := scramble psa i ((bytes.drop 24).take 4096)

/-- R35: a misplaced sector is recorded with both addresses. -/
def reportMisplaced (s : State) (bytes : List Nat) (psa i : Nat) : State :=
  let h := SectorHeader.ofBytes (bytes.take 24)
  s.report pgDET Config.misplacedCode 15 [psa + i * 2 ^ 26, h.psa + h.sidx * 2 ^ 26]

/-- A sector of an armed group is final by a decoded word (R93): a GOOD one's user field goes to its strip slot, its
header is kept (R106). -/
def finishSector (s : State) (bytes : List Nat) (psa i iters : Nat) (f : SectorFinal) : State :=
  let s := setFinal s psa i f
  match f with
  | .good =>
    let s := (s.addMod Reg.LDPC_CNT_OK 0 32 1).addSat Reg.LDPC_ITSUM 0 24 iters
    let s := match groupRead s psa with
      | some g => memWrite s .cdma (stripSlotAddr s g psa i) (decodedUser bytes psa i)
      | none => s
    let s := mapGroup s psa (fun g => { g with
      headers := g.headers.filter (fun h => !(h.1 == psa % 8 && h.2.1 == i)) ++ [(psa % 8, i, bytes.take 24)] })
    mapStrip s psa (fun t => { t with itMax := max t.itMax iters })
  | .falseconv => ((s.addSat Reg.LDPC_CNT_FAIL 16 16 1).raise pgLDPC 0).err pgLDPC 0x0303 0
  | .noconv => s.addSat Reg.LDPC_CNT_FAIL 0 16 1
  | .misplaced => reportMisplaced s bytes psa i
  | _ => s

/-! ## Recovery records -/

/-- Records the recovery ring holds (R114). -/
def rcqSize (s : State) : Nat := 2 ^ s.fld Reg.DET_RCQ_CTRL 0 4
def rcqLevel (s : State) : Nat :=
  (s.fld Reg.DET_RCQ_PROD 0 13 + 2 * rcqSize s - s.fld Reg.DET_RCQ_CONS 0 13 % (2 * rcqSize s)) % (2 * rcqSize s)

/-- Sectors of a strip that are not GOOD. -/
def stripErasures (t : StripRead) : List Nat := (List.range 64).filter (fun i => t.fins.getD i none != some .good)

/-- The 16 bytes of a recovery record (R111). -/
def recoveryRecord (s : State) (g : GroupRead) (psa : Nat) (t : StripRead) (fail : Bool) : List Nat :=
  let time := match t.failTick with
    | some f => min 65535 ((s.ticks - f) / 160)
    | none => 0
  bytesLE 4 (psa % 2 ^ 25) ++ [fail.toNat * 128 + t.cls % 8 * 16 + t.highest % 16, t.eras0 % 128, t.errMax % 16,
    t.comb.toNat * 16 + t.slip.toNat * 8 + t.hinted.toNat * 4 + g.laneLost.toNat * 2 + t.noMargin.toNat] ++
  bytesLE 2 (min 65535 t.itMax) ++ bytesLE 2 time ++ bytesLE 4 g.tag

/-- DET writes a recovery record, or drops it while the ring is full (R111, R112). -/
def putRecovery (s : State) (rec : List Nat) : State :=
  if rcqLevel s < rcqSize s then
    let i := s.fld Reg.DET_RCQ_PROD 0 13
    let s := memWrite s .cdma ((s.reg Reg.DET_RCQ_BASE).toNat + i % rcqSize s * 16) rec
    let s := s.setRd { s.rd with toXlt := s.rd.toXlt ++ [rec] }
    (s.setFld Reg.DET_RCQ_PROD 0 13 ((i + 1) % (2 * rcqSize s))).raise pgDET 2
  else ((s.addSat Reg.DET_CNT 8 8 1).raise pgDET 3).err pgDET 0x0203 0

/-- A strip ends, delivered or not, with a class (R108 to R112). -/
def endStrip (s : State) (psa : Nat) (ok : Bool) (cls : Nat) : State :=
  let s := mapStrip s psa (fun t => { t with ended := some ok, cls := cls })
  match groupRead s psa, stripRead s psa with
  | some g, some t =>
    let rcd := recoveryRecord s g psa t (!ok)
    let s := if !ok || g.patrol || decide (s.fld Reg.DET_RETRY 16 3 ≤ cls) then putRecovery s rcd else s
    let s :=
      if ok then s
      else
        let s := ((s.raise pgDET 5).err pgDET 0x0204 0).raise pgSTRP 0
        let s := s.addSat Reg.STRP_CNT 16 16 1
        s.report pgDET 0x0204 15 ((chunks 4 4 rcd).map leNat)
    releaseSlotsDone s
  | _, _ => s

/-! ## Giving up -/

/-- A lane that reads nothing: what it held of a group is gone. -/
def Lane.idle (x : Lane) : Lane :=
  { x with marker := false, reacqLeft := 0, frames := [], locked := false, expect := (128, 0), buf := [], xs := [], dec := [],
           last8 := [], prev := none, fast := 0, stopped := false, pay := [] }

/-- A core is idle, unless it has retired (R98, R115). -/
def coreIdle (s : State) (core : Nat) : State :=
  let s := if s.fld (Reg.LDPC_CORE_STAT core) 0 2 = 2 then s else s.setReg (Reg.LDPC_CORE_STAT core) 0#32
  s.setBit Reg.LDPC_SLOTS (16 + core) false

/-- What DET has of a sector is to be loaded once more: its codeword is gone from the decoder. -/
def LaneSoft.reload (x : LaneSoft) : LaneSoft := if x.fin || x.coded.isEmpty then x else { x with due := true }

/-- LDPC gives up every codeword; the sectors DET still works on are loaded again. -/
def clearPool (s : State) : State :=
  let s := s.setRd { s.rd with
    cws := [], evicted := []
    work := s.rd.work.map (fun w => { w with lanes := w.lanes.map LaneSoft.reload })
    ring := s.rd.ring.map (fun r => { r with lanes := r.lanes.map LaneSoft.reload }) }
  (List.range 6).foldl coreIdle s

/-- The read path stops and abandons its work: lanes go OFF, arms, slots and codewords are gone (R277, R482, R499). -/
def readAbandon (s : State) : State :=
  let s := (List.range 4).foldl (fun s l => if lstate s l = 6 then s else
    (s.setLstate l 0).setLane l { (s.lane l).idle with swapDue := none }) s
  readCounts (clearPool (s.setRd { s.rd with ring := [], ringSeen := none, work := [], groups := [], tiles := none }))

/-- WENC stops and abandons its work: a group of which a pass has started is VOID, the other arms end NOTSTARTED (R277, R499). -/
def wencAbandon (s : State) : State :=
  let s := dropGate s 2
  let s := match s.wenc.arms with
    | a :: _ => if a.passes = 0 ∧ !a.running then s else voidFront s 2
    | [] => s
  let s := s.wenc.arms.foldl notStarted (s.setW { s.wenc with arms := [] })
  s.setW { s.wenc with emit := [] }

/-- DRAW stops and abandons its work: the groups it has not judged are VOID, so that their commands go on (R7, R277, R499). -/
def drawAbandon (s : State) : State :=
  let s := s.wenc.verdictArms.foldl (fun s a => giveVerdict s a 3 2) (s.setW { s.wenc with verdictArms := [] })
  s.setW { s.wenc with graded := [] }

/-- The write path stops and abandons its work (R277, R482). -/
def writeAbandon (s : State) : State := drawAbandon (wencAbandon s)

/-- A strip of a group just armed. -/
def freshStrip : StripRead :=
  ⟨List.replicate 64 none, [], 0, 0, 0, 0, 0, none, false, false, none, 0, 0, false, false, false, 0, 0, false⟩

/-- Strip slots that no group holds (R102). -/
def freeStripSlots (s : State) : List Nat :=
  (List.range (s.fld Reg.STRP_RSA_SLOTS 0 5)).filter (fun k => !(heldStripSlots s).contains k)

/-- A group is armed for reading: eight strip slots are reserved (R102). -/
def readArm (s : State) (psa tag wanted : Nat) (patrol : Bool) : State :=
  let g : GroupRead := {
    psa := psa, tag := tag, wanted := wanted, patrol := patrol, laneLost := false, slots := (freeStripSlots s).take 8, released := [],
    strips := List.replicate 8 freshStrip, headers := [], rebuilt := [], again := false, saved := [], cur := [], soft := [] }
  readCounts (s.setRd { s.rd with groups := s.rd.groups ++ [g] })

/-- A read arm is not refused (R102). -/
def readArmOk (s : State) : Bool := decide (s.rd.groups.length < 2) && decide (8 ≤ (freeStripSlots s).length)

/-- Strip slots of a group become free again (R102). -/
def releaseStrips (s : State) (free : Nat → Bool) : State :=
  let gs := s.rd.groups.map (fun g => { g with released := g.released ++ g.slots.filter (fun k => free k && !g.released.contains k) })
  releaseSlotsDone (s.setRd { s.rd with groups := gs.filter (fun g => decide (g.released.length < 8)) })

end Sys2Proof.Machine
end

