-- ==== Sys2Proof/Machine/HqOps.lean ====
section
/-! DEFINITION. The host side's shared operations (R319 to R324, R337 to R347, R351, R358): requests of host memory,
what is sent to the host, contexts, completions, asynchronous events. -/
namespace Sys2Proof.Machine

abbrev pgXLT : Nat := 0x17
abbrev pgMEDM : Nat := 0x18
abbrev pgHQ : Nat := 0x19
abbrev pgPCIE : Nat := 0x1A
abbrev pgDMA : Nat := 0x1B

/-- BAR0, configuration space and the unlock mailbox as addresses of the register file. -/
abbrev bar0 (off : Nat) : Nat := 0x100000000 + off
abbrev cfgReg (off : Nat) : Nat := 0x200000000 + off
abbrev mbx (off : Nat) : Nat := 0x300000000 + off

/-- CSTS (R335). -/
abbrev aCSTS : Nat := bar0 0x1C
/-- CC (R335). -/
abbrev aCC : Nat := bar0 0x14

/-- Replaces the endpoint's own state. -/
def State.setPcie (s : State) (x : Pcie) : State := { s with pcie := x }
/-- Replaces HQ's own state. -/
def State.setHq (s : State) (x : HostQueues) : State := { s with hq := x }

/-- Bus Master Enable (R312). -/
def busMaster (s : State) : Bool := s.bit (cfgReg 0x04) 2
/-- PowerState is D3hot (R314, R330). -/
def inD3 (s : State) : Bool := s.fld (cfgReg 0x44) 0 2 == 3
/-- Linnath may issue requests, writes and messages: the link is up, and nothing of R324, R325, R326, R330 or R482 holds. -/
def mayIssue (s : State) : Bool :=
  s.fld Reg.PCIE_LINK 0 3 != 0 && busMaster s && !inD3 s && s.fld Reg.PCIE_FLR 0 2 == 0 && !s.bit Reg.PCIE_LINK 24 && !s.boot.warm
/-- CSTS.CFS (R337). -/
def cfs (s : State) : Bool := s.bit aCSTS 1

/-- The link's power state and the LTSSM code that goes with it: 0 L0, 1 L0s, 2 to 4 L1, 5 L2 or down. -/
def setLpm (s : State) (lpm code : Nat) : State :=
  (s.setFld Reg.PCIE_LINK 16 3 lpm).setFld Reg.PCIE_LINK 8 6 (Config.ltssm code)

/-- A link that is up leaves its power-saving state (R328). -/
def linkWake (s : State) : State :=
  let l := s.fld Reg.PCIE_LINK 16 3
  if 1 ≤ l ∧ l ≤ 4 then setLpm s 0 1 else s

/-! ## Errors to the host (R322, R323, R331) -/

/-- AER: an uncorrectable error's status bit, taken as advisory non-fatal where `adv` holds. The first error takes the First
Error Pointer and the Header Log; the header itself is not an operand of any command (DESIGN CHOICE). -/
def aerLog (s : State) (b : Nat) (adv : Bool) : State :=
  let s := if s.reg (cfgReg 0x104) ≠ 0#32 then s else
    let s := s.setFld (cfgReg 0x118) 0 5 b
    let s := (List.range 4).foldl (fun s i => s.setReg (cfgReg (0x11C + 4 * i)) (Config.aerHeader (s.fresh + i))) s
    { s with fresh := s.fresh + 4 }
  let s := (s.setBit (cfgReg 0x104) b true).raise pgPCIE 8
  if adv then s.setBit (cfgReg 0x110) 13 true else s

/-! ## Requests of host memory -/

/-- Bytes of a request (R319): Max_Read_Request_Size. -/
def mrrs (s : State) : Nat := 128 * 2 ^ s.fld (cfgReg 0x68) 12 3
/-- Max_Payload_Size in force, at most 512 (R311, R319). -/
def maxPayload (s : State) : Nat := min 512 (128 * 2 ^ s.fld (cfgReg 0x68) 5 3)

/-- Pieces of a transfer: offset and length, none over `most` bytes or across a 4 KiB boundary (R319). -/
def splitXfer (most addr : Nat) : Nat → Nat → Nat → List (Nat × Nat)
  | 0, _, _ => []
  | f + 1, off, n =>
    if n = 0 then []
    else
      let a := addr + off
      let k := min n (min most (4096 - a % 4096))
      (off, k) :: splitXfer most addr f (off + k) (n - k)

/-- The tag pool of the present mode (R319). -/
def tagPool (s : State) : Nat × Nat :=
  let p := if s.bit (cfgReg 0x88) 12 then (0x100, 768) else if s.bit (cfgReg 0x68) 8 then (0, 256) else (0, 32)
  (p.1, min p.2 (s.fld Reg.DMA_CFG 0 10))

/-- Tags outstanding. -/
def tagsOut (s : State) : List Nat := s.pcie.reads.filterMap (·.tag)

/-- A tag the pool has free, the lowest (R319, R322). -/
def freeTag (s : State) : Option Nat :=
  let p := tagPool s
  let used := tagsOut s ++ s.pcie.quar.map (·.1)
  (List.range p.2).findSome? (fun i => if used.contains (p.1 + i) then none else some (p.1 + i))

/-- PCIE_TAGS, DMA_STAT and the HELD interrupt follow (R333, R334). -/
def syncDma (s : State) : State :=
  let s := (s.setFld Reg.PCIE_TAGS 0 10 (tagsOut s).length).setFld Reg.PCIE_TAGS 16 10 s.pcie.quar.length
  s.setFld Reg.DMA_STAT 0 10 (tagsOut s).length

/-- A request as it is issued: none is longer than Max_Read_Request_Size, which may have changed since it was made (R319). -/
def cutRead (s : State) (r : HostReq) : List HostReq :=
  (splitXfer (mrrs s) r.addr (r.len + 1) 0 r.len).map (fun (p : Nat × Nat) =>
    { r with addr := r.addr + p.1, off := r.off + p.1, len := p.2 })

/-- Gives tags to the requests that have none, oldest first, marked ones before the others (R319, R324); `fuel` bounds the
requests. -/
def issueAll : Nat → State → State
  | 0, s => s
  | n + 1, s =>
    if !mayIssue s then s
    else
      let i? := match s.pcie.reads.findIdx? (fun r => r.tag.isNone && r.marked) with
        | some i => some i
        | none => s.pcie.reads.findIdx? (fun r => r.tag.isNone)
      match i?, freeTag s with
      | some i, some t =>
        let rs := s.pcie.reads
        let new := ((rs[i]?).map (cutRead s)).getD []
        let new := new.modify 0 (fun r => { r with tag := some t, marked := false })
        issueAll n (linkWake (s.setPcie { s.pcie with reads := rs.take i ++ new ++ rs.drop (i + 1) }))
      | _, _ => s

/-- Requests that may be issued are. -/
def issueReads (s : State) : State := syncDma (issueAll (33 * s.pcie.reads.length + 1) s)

/-- Asks for `n` bytes of host memory from `addr` on (R319). -/
def hostRead (s : State) (what : ReadFor) (addr off n : Nat) : State :=
  let ps := splitXfer (mrrs s) addr (n + 1) 0 n
  let rs := ps.map (fun (p : Nat × Nat) => (⟨addr + p.1, p.2, what, off + p.1, none, [], 0, false⟩ : HostReq))
  issueReads (s.setPcie { s.pcie with reads := s.pcie.reads ++ rs })

/-! ## What is sent to the host -/

/-- Something is sent; the link comes back to L0 for it (R328). -/
def emitOut (s : State) (o : Out) : State :=
  let s := linkWake s
  s.setPcie { s.pcie with out := s.pcie.out ++ [o] }

/-- A write of data, sent or held in order (R319, R320, R324). -/
def sendData (s : State) (addr : Nat) (bs : List Nat) : State :=
  let ro := s.bit (cfgReg 0x68) 4 && s.bit Reg.DMA_CFG 16
  let os := (splitXfer (maxPayload s) addr (bs.length + 1) 0 bs.length).map (fun (p : Nat × Nat) =>
    Out.data (addr + p.1) ((bs.drop p.1).take p.2) ro)
  let n := s.pcie.wrRem + bs.length
  let s := (s.addMod Reg.DMA_WRBYTES 0 32 (n / 256)).setPcie { s.pcie with wrRem := n % 256 }
  if mayIssue s then (linkWake s).setPcie { s.pcie with out := s.pcie.out ++ os }
  else s.setPcie { s.pcie with held := s.pcie.held ++ os }

/-- Bytes at an offset of a command's data pages: the pieces by page (R347). -/
def pagePieces (pages : List Nat) : Nat → Nat → Nat → List (Nat × Nat × Nat)
  | 0, _, _ => []
  | f + 1, off, n =>
    match pages with
    | [] => []
    | p :: t =>
      let room := 4096 - p % 4096
      if n = 0 then []
      else if off < room then
        let k := min n (room - off)
        (p + off, 0, k) :: (pagePieces t f 0 (n - k)).map (fun q => (q.1, q.2.1 + k, q.2.2))
      else pagePieces t f (off - room) n

/-- Sends bytes to a command's data pages at an offset. -/
def sendPages (s : State) (pages : List Nat) (off : Nat) (bs : List Nat) : State :=
  (pagePieces pages (pages.length + 1) off bs.length).foldl (fun s (p : Nat × Nat × Nat) => sendData s p.1 ((bs.drop p.2.1).take p.2.2)) s

/-- Reads a command's data pages from the host. -/
def fetchPages (s : State) (what : ReadFor) (pages : List Nat) (off n : Nat) : State :=
  (pagePieces pages (pages.length + 1) 0 n).foldl (fun s (p : Nat × Nat × Nat) => hostRead s what p.1 (off + p.2.1) p.2.2) s

/-- An interrupt of a vector (R319, R324): sent where MSI-X is enabled and nothing masks it, else its pending bit is set. -/
def sendMsix (s : State) (v : Nat) : State :=
  let e := bar0 (0x2000 + 16 * v)
  if !s.bit (cfgReg 0x50) 31 then s
  else if mayIssue s ∧ !s.bit (cfgReg 0x50) 30 ∧ !s.bit (e + 12) 0 then
    let s := s.setBit (bar0 (0x3000 + 4 * (v / 32))) (v % 32) false
    emitOut s (.msix ((s.reg e).toNat + (s.reg (e + 4)).toNat * 2 ^ 32) (s.reg (e + 8)).toNat)
  else s.setBit (bar0 (0x3000 + 4 * (v / 32))) (v % 32) true

/-- Pending vectors that nothing holds any longer are sent. -/
def sendPendingMsix (s : State) : State :=
  (List.range 65).foldl (fun s v => if s.bit (bar0 (0x3000 + 4 * (v / 32))) (v % 32) then sendMsix s v else s) s

/-! ## Contexts -/

/-- The context of a command. -/
def State.ctx (s : State) (seq : Nat) : Option Ctx := s.hq.ctx.find? (fun c => c.seq == seq)

/-- Changes a context. -/
def State.updCtx (s : State) (seq : Nat) (f : Ctx → Ctx) : State :=
  s.setHq { s.hq with ctx := s.hq.ctx.map (fun c => if c.seq = seq then f c else c) }

/-- Word `i` of an entry. -/
def Ctx.dw (c : Ctx) (i : Nat) : Word := c.dws.getD i 0#32
/-- Opcode. -/
def Ctx.opc (c : Ctx) : Nat := fieldOf (c.dw 0) 0 8
/-- Field of a word of the entry. -/
def Ctx.f (c : Ctx) (i lo w : Nat) : Nat := fieldOf (c.dw i) lo w
/-- A 64-bit number of two words. -/
def Ctx.quad (c : Ctx) (i : Nat) : Nat := (c.dw i).toNat + (c.dw (i + 1)).toNat * 2 ^ 32
/-- Queue 0 is the admin queue. -/
def Ctx.admin (c : Ctx) : Bool := c.sqid == 0
/-- First block and number of blocks of a Write, Read, Compare or Write Zeroes. -/
def Ctx.slba (c : Ctx) : Nat := c.quad 10
def Ctx.nlb (c : Ctx) : Nat := c.f 12 0 16 + 1

/-- No command is outstanding; an Asynchronous Event Request does not count as one (R354). -/
def idle (s : State) : Bool := s.hq.ctx.all (fun c => c.admin && c.opc == 0x0C)

/-- Commands leave their contexts: from here on HQ is idle where it was not (R354). -/
def dropCtx (s : State) (keep : Ctx → Bool) : State :=
  let was := idle s
  let s := s.setHq { s.hq with ctx := s.hq.ctx.filter keep }
  if idle s ∧ !was then s.setHq { s.hq with idleAt := s.ticks } else s

/-- HQ_CTX follows the contexts (R371). -/
def syncCtx (s : State) : State :=
  let n := s.hq.ctx.length
  let s := s.setFld Reg.HQ_CTX 0 14 n
  let s := if s.fld Reg.HQ_CTXPK 0 14 < n then s.setFld Reg.HQ_CTXPK 0 14 n else s
  s.setBit Reg.HQ_STALL 0 (decide (8192 - s.fld Reg.HQ_CTRL 8 8 ≤ n))

/-- HQ sets CFS: it fetches and posts nothing more (R337). -/
def setCfs (s : State) : State :=
  if cfs s then s
  else
    let s := ((s.setBit aCSTS 1 true).setBit Reg.HQ_CTRL 0 false).setBit Reg.HQ_STALL 1 true
    let s := ((s.setBit Reg.HQ_STALL 3 true).raise pgHQ 0).err pgHQ 0x1503 15
    s.report pgHQ 0x1503 15 []

/-- An entry of the Error Information log (R347). -/
def logError (s : State) (c : Ctx) (status lba : Nat) : State :=
  let e : ErrEntry := ⟨s.hq.errCount + 1, c.sqid, c.cid, status, lba⟩
  s.setHq { s.hq with errLog := (e :: s.hq.errLog).take 64, errCount := s.hq.errCount + 1 }

/-- Status codes (R347): SCT times 256 plus SC, with DNR in bit 14. -/
def stOk : Nat := 0
def stOpcode : Nat := 0x4001
def stField : Nat := 0x4002
def stCidConflict : Nat := 0x4003
def stDataXfer : Nat := 0x0004
def stAborted : Nat := 0x0007
def stSqDeleted : Nat := 0x0008
def stNamespace : Nat := 0x400B
def stSequence : Nat := 0x000C
def stPrpOffset : Nat := 0x4013
def stWriteProt : Nat := 0x4020
def stLbaRange : Nat := 0x4080
def stCapacity : Nat := 0x4081
def stNotReady : Nat := 0x0082
def stWriteFault : Nat := 0x0280
def stUnrecovered : Nat := 0x0281
def stCompare : Nat := 0x4285
def stDiscRefused : Nat := 0x47C0
def stFocus : Nat := 0x07C1
def stVerifyRuns : Nat := 0x07C2
def stToken : Nat := 0x47C3
def stDiscPresent : Nat := 0x47C4

/-- A completion queue. -/
def State.cq (s : State) (id : Nat) : Option Cq := s.hq.cqs.find? (fun q => q.id == id)
/-- A submission queue. -/
def State.sq (s : State) (id : Nat) : Option Sq := s.hq.sqs.find? (fun q => q.id == id)

/-- A completion queue has room (R351). -/
def cqRoom (s : State) (q : Cq) : Bool :=
  (s.fld (Reg.HQ_CQPTR q.id) 0 12 + 1) % q.size != s.fld (Reg.HQ_CQPTR q.id) 16 12

/-- The 16 bytes of a completion entry. -/
def cqeBytes (s : State) (c : Ctx) (phase : Bool) : List Nat :=
  bytesLE 4 c.dw0 ++ bytesLE 4 0 ++ bytesLE 2 (s.fld (Reg.HQ_SQPTR c.sqid) 0 12) ++ bytesLE 2 c.sqid ++
    bytesLE 2 c.cid ++ bytesLE 2 (c.status * 2 + phase.toNat)

/-- The entry goes to host memory and the context is free, in one step; the interrupt follows (R342). -/
def postOne (s : State) (c : Ctx) (q : Cq) : State :=
  let t := s.fld (Reg.HQ_CQPTR q.id) 0 12
  let s := emitOut s (.cqe (q.base + 16 * t) (cqeBytes s c q.phase))
  let t' := (t + 1) % q.size
  let s := s.setFld (Reg.HQ_CQPTR q.id) 0 12 t'
  let s := dropCtx s (fun d => d.seq != c.seq)
  let s := s.setHq { s.hq with
    cqs := s.hq.cqs.map (fun x => if x.id = q.id ∧ t' = 0 then { x with phase := !x.phase } else x) }
  let s := syncCtx (s.addMod Reg.HQ_CMP 0 32 1)
  if q.ien then sendMsix s q.iv else s

/-- Completions that are ready are posted where they may be; the others stay in their contexts (R324, R337, R351). -/
def postDone : List Ctx → State → State
  | [], s => s
  | c :: t, s =>
    if c.phase ≠ .done ∨ cfs s ∨ !mayIssue s then postDone t s
    else match s.cq c.cqid with
      | some q => postDone t (if cqRoom s q then postOne s c q else s)
      | none => postDone t s

/-- A Delete I/O Submission Queue that has been checked (step 1) ends once no command of its queue is left (R350). -/
def deleteWaits (s : State) (c : Ctx) : Bool :=
  c.admin && c.opc == 0x00 && c.phase == .running && c.step == 1 && s.hq.ctx.all (fun d => d.sqid != c.f 10 0 16 || d.seq == c.seq)

/-- Posts what can be posted; queues being deleted go; HELD is counted (R350, R351). -/
def postAll : Nat → State → State
  | 0, s => s
  | n + 1, s =>
    let s := postDone s.hq.ctx s
    match s.hq.ctx.find? (deleteWaits s) with
    | some d =>
      let id := d.f 10 0 16
      let s := s.setHq { s.hq with sqs := s.hq.sqs.filter (fun q => q.id != id) }
      let s := (s.setReg (Reg.HQ_SQPTR id) 0#32).setFld (Reg.HQ_QCFG id) 0 1 0
      postAll n (s.updCtx d.seq (fun c => { c with phase := .done }))
    | none =>
      let held := (s.hq.ctx.filter (fun c => c.phase == .done)).length
      let more := s.fld Reg.HQ_CTX 16 14 < held
      let s := s.setFld Reg.HQ_CTX 16 14 held
      if more && !cfs s && mayIssue s then (s.raise pgHQ 5).err pgHQ 0x1504 15 else s

/-- Completions go out. -/
def postReady (s : State) : State := postAll 66 s

/-- A command's completion is ready with a status and a result (R347). -/
def finish (s : State) (seq status dw0 lba : Nat) : State :=
  match s.ctx seq with
  | none => s
  | some c =>
    if c.phase = .done then s
    else
      let s := if status = 0 then s else logError s c status lba
      let s := s.updCtx seq (fun c => { c with phase := .done, status := status, dw0 := dw0, errLba := lba })
      postReady s

/-! ## Asynchronous events (R358) -/

/-- Type, information and log page of a row of R358; the critical warnings have two informations. -/
def aeResult (row info : Nat) : Nat :=
  let r := match row with
    | 0 => (0, 0x00, 0x01) | 1 => (0, 0x01, 0x01) | 2 => (1, info, 0x02) | 3 => (1, 0x01, 0x02) | 4 => (2, 0x00, 0x04)
    | 5 => (2, 0x01, 0x03) | 6 => (7, 0x00, 0xC1) | 7 => (7, 0x01, 0xC0) | _ => (7, 0x02, 0xC0)
  r.1 + r.2.1 * 256 + r.2.2 * 65536

/-- An outstanding Asynchronous Event Request. -/
def openAer (s : State) : Option Ctx := s.hq.ctx.find? (fun c => c.admin && c.opc == 0x0C && c.phase == .running)

/-- A readiness change or a critical warning in D3hot (R330): PME_Status, and where PME_En is 1 a PM_PME message, or WAKE#
with the link in L2. -/
def pmeNote (s : State) (row : Nat) : State :=
  if !inD3 s ∨ !([2, 3, 4].contains row) then s
  else
    let s := s.setBit (cfgReg 0x44) 15 true
    if s.bit (cfgReg 0x44) 8 then emitOut s (if s.fld Reg.PCIE_LINK 16 3 = 5 then .wake else .pme) else s

/-- An event goes to a request, and is masked until its log page has been read (R358). -/
def reportEvent (s : State) (c : Ctx) (key : Nat) : State :=
  finish (s.setHq { s.hq with masked := key :: s.hq.masked }) c.seq stOk (aeResult (key / 256) (key % 256)) 0

/-- The events that wait, as HQ_AE shows them (R371). -/
def setWaiting (s : State) (l : List Nat) : State :=
  let s := s.setHq { s.hq with waiting := l }
  (List.range 9).foldl (fun s r => s.setBit Reg.HQ_AE r (l.any (fun k => k / 256 == r))) s

/-- An event is reported, or waits for a request; one of the same type and information is masked, or waits already (R330, R358). -/
def asyncEvent (s : State) (row info : Nat) : State :=
  let s := pmeNote s row
  let key := 256 * row + info
  if s.hq.masked.contains key ∨ s.hq.waiting.contains key then s
  else match openAer s with
    | some c => reportEvent s c key
    | none => setWaiting s (s.hq.waiting ++ [key])

/-! ## Order (R344) and latches (R346) -/

/-- Write, Write Zeroes, and Dataset Management with deallocation are modifying commands. -/
def Ctx.modifying (c : Ctx) : Bool :=
  !c.admin && (c.opc == 0x01 || c.opc == 0x08 || (c.opc == 0x09 && c.f 11 2 1 == 1))
/-- Read and Compare are reading commands. -/
def Ctx.reading (c : Ctx) : Bool := !c.admin && (c.opc == 0x02 || c.opc == 0x05)

/-- The ranges of a Dataset Management command, once its data has arrived: first block and blocks. -/
def dsmRanges (c : Ctx) : List (Nat × Nat) :=
  (List.range (c.f 10 0 8 + 1)).filterMap (fun i =>
    let bs := c.buf.flatMap (fun p => (List.range p.2.length).map (fun k => (p.1 + k, p.2.getD k 0)))
    let g := fun (o n : Nat) => leNat ((List.range n).map (fun k => ((bs.find? (fun q => q.1 == 16 * i + o + k)).map (·.2)).getD 0))
    if (bs.find? (fun q => q.1 == 16 * i)).isSome then some (g 8 8, g 4 4) else none)

/-- The blocks a command names. -/
def Ctx.ranges (c : Ctx) : List (Nat × Nat) := if c.opc = 0x09 then dsmRanges c else [(c.slba, c.nlb)]

/-- Two ranges share a block. -/
def rangesMeet (a b : List (Nat × Nat)) : Bool :=
  a.any (fun x => b.any (fun y => decide (x.1 < y.1 + y.2) && decide (y.1 < x.1 + x.2)))

/-- Two commands overlap; a Dataset Management command whose ranges have not arrived may overlap any (R344). -/
def overlap (a b : Ctx) : Bool :=
  (a.opc == 0x09 && (dsmRanges a).length != a.f 10 0 8 + 1) || (b.opc == 0x09 && (dsmRanges b).length != b.f 10 0 8 + 1) ||
    rangesMeet a.ranges b.ranges

/-- A number is earlier by R6. -/
def seqBefore (a b : Nat) : Bool := a != b && decide ((b + 2 ^ 48 - a) % 2 ^ 48 < 2 ^ 47)

/-- A modifying command whose map update is neither made nor given up. -/
def Ctx.pendingMod (c : Ctx) : Bool := c.modifying && (c.phase == .accepted || c.phase == .running)

/-- Strips of a snapshot's placed pieces. -/
def pieceStrips (p : Piece) : List Nat :=
  if p.st = 1 ∨ p.st = 3 then (List.range ((p.ssec + p.len + 55) / 56)).map (fun i => p.psa + i) else []

/-- The strips a reading command still waits for. -/
def ctxStrips (c : Ctx) : List Nat := (c.snap.getD []).flatMap pieceStrips

/-- A reading command's pins are due to go (R379). -/
def dropSnapshot (s : State) (c : Ctx) : State :=
  let s := if c.pins.isEmpty then s else { s with xlt := { s.xlt with unpin := s.xlt.unpin ++ [(c.seq, c.pins)] } }
  s.updCtx c.seq (fun c => { c with snap := none, pins := [] })

/-- A requester withdraws its read: the ladders of its strips end where nobody else waits for them (R110). -/
def withdrawRead (s : State) (c : Ctx) : State :=
  (ctxStrips c).foldl (fun s p => mapStrip s p (fun t => { t with withdrawn := true })) s

/-- A placed copy becomes dead space (R382). -/
def orphan (s : State) (seq : Nat) : State :=
  { s with xlt := { s.xlt with slots := s.xlt.slots.map (fun x =>
      { x with items := x.items.map (fun i => if i.seq = some seq then { i with seq := none, staged := true } else i) }) } }

/-- Reads of host memory for a command are given up: those without a tag go; what the others bring is discarded. -/
def dropReads (s : State) (seq : Nat) : State :=
  let mine := fun (r : HostReq) => decide (r.what = .prp seq) || decide (r.what = .data seq)
  syncDma (s.setPcie { s.pcie with reads := s.pcie.reads.filter (fun r => !mine r || r.tag.isSome) })

/-- A command ends before its latch: its unit stays all old (R8, R349). -/
def endCmd (s : State) (seq status dw0 lba : Nat) : State :=
  match s.ctx seq with
  | none => s
  | some c =>
    let s := dropReads (orphan (dropSnapshot s c) seq) seq
    finish s seq status dw0 lba

/-- A command fails or is given up before its latch, and its read with it (R8, R110, R349). -/
def failCmd (s : State) (seq status dw0 lba : Nat) : State :=
  match s.ctx seq with
  | none => s
  | some c => endCmd (withdrawRead s c) seq status dw0 lba

/-- Every command is abandoned with no completion (R9, R325). -/
def abandonAll (s : State) : State :=
  let s := s.hq.ctx.foldl (fun s c =>
    let s := dropReads (dropSnapshot (withdrawRead s c) c) c.seq
    if c.phase = .latched then s else orphan s c.seq) s
  let s := dropCtx s (fun _ => false)
  syncCtx ((s.setHq { s.hq with grants := [], credits := [0, 0, 0] }).setFld Reg.HQ_CTX 16 14 0)

/-- R369: a violation is counted, and recorded at most once a second per kind. -/
def hostViolation (s : State) (kind : Nat) : State :=
  let s := s.addSat Reg.HQ_VIOL (8 * kind) 8 1
  if secondPassed s.hq.viol kind s.ticks then
    (s.setHq { s.hq with viol := setTick s.hq.viol kind s.ticks }).report pgHQ 0x1502 15 [kind]
  else s

end Sys2Proof.Machine
end

