-- ==== Sys2Proof/Machine/Opt.lean ====
section
/-! DEFINITION. The option area (R451 to R454, R456) and the meanings of OPT's commands. -/
namespace Sys2Proof.Machine

/-- Page of OPT. -/
abbrev pgOPT : Nat := 0x20

/-- A word of the option area. -/
def State.optWord (s : State) (w : Nat) : OptWord := SMap.get optErased s.opt.words w
/-- A word of the shadow (R452). -/
def State.shadow (s : State) (w : Nat) : BitVec 64 := SMap.get shadowOnes s.opt.shadow w
/-- Replaces OPT's own state. -/
def State.setOpt (s : State) (x : Opt) : State := { s with opt := x }

/-- The bytes of option words, little-endian. -/
def optBytes (f : Nat → BitVec 64) (w n : Nat) : List Nat := (List.range n).flatMap (fun i => bytesLE 8 (f (w + i)).toNat)

/-- The CRC in the low half of a block's last word fits (R451). -/
def optCrcOk (f : Nat → BitVec 64) (w n : Nat) : Bool := crc32c (optBytes f w n) == (f (if w = 0 then 63 else w + n)).toNat % 2 ^ 32

/-- An update block's magic word is programmed (R451, R453). -/
def blockUsed (f : Nat → BitVec 64) (k : Nat) : Bool := f (64 * k) != BitVec.allOnes 64
/-- Its magic and CRC are good (R452). -/
def blockGood (f : Nat → BitVec 64) (k : Nat) : Bool :=
  (f (64 * k)).toNat / 2 ^ 32 == 0x4C4E5550 && optCrcOk f (64 * k) 63

/-- The update block in force, 0 for none (R452). -/
def blockInForce (f : Nat → BitVec 64) : Nat := ([7, 6, 5, 4, 3, 2, 1].find? (blockGood f)).getD 0

/-- The next free block, 8 where there is none (R453). -/
def nextFreeBlock (f : Nat → BitVec 64) : Nat := ([7, 6, 5, 4, 3, 2, 1].find? (blockUsed f)).getD 0 + 1

/-- The word of an update block, or ones where none is in force. -/
def forceWord (f : Nat → BitVec 64) (i : Nat) : BitVec 64 :=
  if blockInForce f = 0 then BitVec.allOnes 64 else f (64 * blockInForce f + i)

/-- The owner-key hash in force, 32 bytes, all ones for none (R451). -/
def ownerHash (f : Nat → BitVec 64) : List Nat := (List.range 4).flatMap (fun i => bytesLE 8 (forceWord f (2 + i)).toNat)

/-- An owner is enrolled. -/
def ownerThere (f : Nat → BitVec 64) : Bool := ownerHash f != List.replicate 32 255

/-- OPT_SEL as the option area gives it (R452, R456). -/
def optSel (v : Variant) (f : Nat → BitVec 64) : Word :=
  let sel := (forceWord f 1).toNat % 4
  let lanes := (f 4).toNat % 16 &&& (forceWord f 1).toNat / 16 % 16
  let chs := (f 4).toNat / 16 % 4 &&& (forceWord f 1).toNat / 256 % 4
  let lanes := if v = .ln7720 then lanes &&& 3 else lanes
  let chs := if v = .ln7720 then chs &&& 1 else chs
  Word.ofNat ((if sel = 0 then 3 else sel) + lanes * 16 + chs * 256 + (f 62 != BitVec.allOnes 64).toNat * 4096 +
    (ownerThere f).toNat * 8192 + blockInForce f * 65536)

/-- The shadow loads at a reset (R452): decoded values, bad blocks, subsystem IDs (R312); AUTH clears (R453). -/
def optLoad (s : State) : State :=
  let s := s.setOpt { s.opt with
    shadow := (s.opt.words.filterMap (fun p => if p.2.v = BitVec.allOnes 64 then none else some (p.1, p.2.v)))
    prog := none, auth := none }
  let f := s.shadow
  let bad := ([1, 2, 3, 4, 5, 6, 7].filter (fun k => blockUsed f k && !optCrcOk f (64 * k) 63)).map (fun k => 2 ^ k)
  let s := (s.setReg Reg.OPT_SEL (optSel s.variant f)).setReg Reg.OPT_BAD (Word.ofNat bad.sum)
  let s := if bad = [] then s else (s.err pgOPT 0x1C03 15).raise pgOPT 2
  let s := (s.setBit (Reg.STAT pgOPT) 9 false).setReg Reg.OPT_AUTH 0#32
  let ids := Word.ofNat (f 2).toNat
  let s := (s.setReg Reg.PCIE_IDS ids).setReg 0x20000002C ids
  let s := (s.setReg 0x20000014C (Word.ofNat (f 1).toNat)).setReg 0x200000150 (Word.ofNat ((f 1).toNat / 2 ^ 32))
  if optCrcOk f 0 62 then s.setBit (Reg.STAT pgOPT) 8 false
  else (s.setBit (Reg.STAT pgOPT) 8 true).err pgOPT 0x1C04 15

/-- A refused option command (R454). -/
def optRefuse (s : State) (m : Master) (res : Nat) : State :=
  ((s.setFld Reg.OPT_RES 0 4 res).err pgOPT 0x1C02 m.id).raise pgOPT 1

/-- The result of the checks of a program of word `w` (R440, R453, R464). -/
def optVerdict (s : State) (m : Master) (w : Nat) (x : BitVec 64) : Nat :=
  let f := fun i => (s.optWord i).v
  let o := s.optWord w
  if s.opt.prog.isSome then 1
  else if m ≠ .sup then 7
  else if !s.bit (Reg.STAT pgOPT) 9 then 2
  else match s.opt.auth with
    | none => 2
    | some (k, dig) =>
      if 7 < k then 6
      else if w / 64 ≠ k then 3
      else if w % 64 = 63 ∧ Config.shake256 (optBytes f (64 * k) 63) ≠ dig then 2
      else if 2 ≤ o.n then 4
      else if o.n = 1 ∧ x &&& ~~~o.v ≠ 0 then 5
      else 0

/-- OPT_CMD.PROG (R453). -/
def optProgram (m : Master) (s : State) : State :=
  let w := s.fld Reg.OPT_WADDR 0 9
  let x := BitVec.ofNat 64 ((s.reg Reg.OPT_WDATA_LO).toNat + (s.reg Reg.OPT_WDATA_HI).toNat * 2 ^ 32)
  let v := optVerdict s m w x
  if v = 0 then (s.setOpt { s.opt with prog := some (w, x) }).setBit Reg.OPT_CMD 0 true else optRefuse s m v

/-- OPT_CMD.LOCKDBG (R453). -/
def optLockdbg (m : Master) (s : State) : State :=
  if s.opt.prog.isSome then optRefuse s m 1
  else if m ≠ .sup then optRefuse s m 7
  else if 2 ≤ (s.optWord 62).n then optRefuse s m 4
  else s.setOpt { s.opt with prog := some (62, 0#64) }

/-- A write of OPT_CMD (R453). -/
def optCmdWrite (m : Master) (v : Word) (s : State) : State :=
  let run := s.bit Reg.OPT_CMD 0
  regWrite s m Reg.OPT_CMD 4 v (fun s =>
    let s := s.setBit Reg.OPT_CMD 0 run
    let s := if fieldOf v 0 1 = 1 then optProgram m s else s
    if fieldOf v 8 1 = 1 then optLockdbg m s else s)

/-- OPT_PROGRAM. -/
def execOptProgram (m : Master) (s : State) : Host.Outcome State Fault Refusal := done s (optCmdWrite m 1#32 s)
/-- OPT_LOCKDBG. -/
def execOptLockdbg (m : Master) (s : State) : Host.Outcome State Fault Refusal := done s (optCmdWrite m 0x100#32 s)

/-- AUTH clears (R453). -/
def authClear (s : State) : State :=
  ((s.setOpt { s.opt with auth := none }).setBit (Reg.STAT pgOPT) 9 false).setReg Reg.OPT_AUTH 0#32

/-- An option program ends (R453). -/
def optProgramDone (s : State) : State :=
  match s.opt.prog with
  | some (w, x) =>
    let o := s.optWord w
    let s := s.setOpt { s.opt with words := SMap.set optErased s.opt.words w ⟨o.v &&& x, o.n + 1⟩, prog := none }
    let s := ((s.setBit Reg.OPT_CMD 0 false).setFld Reg.OPT_RES 0 4 0).raise pgOPT 0
    if 64 ≤ w ∧ w % 64 = 63 then authClear s else s
  | none => s

/-- OPT_PROGRAM_DONE. -/
def execOptProgramDone (s : State) : Host.Outcome State Fault Refusal := done s (optProgramDone s)

/-- A write of OPT_AUTH: by SEC alone, and only after an AUTHOPT that succeeded (R453, R454, R464). -/
def authWrite (m : Master) (v : Word) (s : State) : State :=
  regWriteIf s m Reg.OPT_AUTH 4 v (m == .sec) (fun s =>
    if fieldOf v 0 1 = 1 ∧ s.opt.auth.isSome then ((s.setOpt { s.opt with authAt := s.ticks }).setBit (Reg.STAT pgOPT) 9 true).setReg Reg.OPT_AUTH 1#32 else s)

/-- OPT_AUTH_SET. -/
def execOptAuthSet (m : Master) (v : Word) (s : State) : Host.Outcome State Fault Refusal := done s (authWrite m v s)

/-- 10 s after it was set (R453). -/
def authExpire (s : State) : State :=
  if s.bit (Reg.STAT pgOPT) 9 ∧ s.opt.authAt + 10 * ticksPerSecond ≤ s.ticks then authClear s else s

/-- OPT_AUTH_EXPIRY. -/
def execOptAuthExpiry (s : State) : Host.Outcome State Fault Refusal := done s (authExpire s)

end Sys2Proof.Machine
end

