-- ==== Sys2Proof/Machine/EvrOps.lean ====
section
/-! DEFINITION. The event recorder's shared operations (R465 to R473): stamping, the pre-failure ring, the way to flash,
captures, clearing, and what a reset leaves. -/
namespace Sys2Proof.Machine

/-- Page of EVR. -/
abbrev pgEVR : Nat := 0x22

/-- Replaces EVR's own state. -/
def State.setEvr (s : State) (x : Evr) : State := { s with evr := x }

/-- EVR goes on in the fallback ring (R470). -/
def inFallback (s : State) : Bool := s.bit (Reg.STAT pgEVR) 8
/-- A capture runs (R471). -/
def capturing (s : State) : Bool := s.bit (Reg.STAT pgEVR) 10

/-- First byte offset of the ring in use and its sectors (R468, R470). -/
def ringBase (s : State) : Nat := if inFallback s then 0x390000 else 0x750000
def ringSectors (s : State) : Nat := if inFallback s then 104 else 144
/-- Records the ring in use reports at most (R469, R470). -/
def ringReport (s : State) : Nat := if inFallback s then 6426 else 8192

/-- Byte offset of a ring sector. -/
def ringSectorOff (s : State) (sec : Nat) : Nat := ringBase s + sec * 4096

/-- A list of bytes as flash words. -/
def flashWordsOf (bs : List Nat) : List (BitVec 64) := (chunks 8 (bs.length + 1) bs).map (fun b => BitVec.ofNat 64 (leNat b))

/-- NCIRC, FIRST and WPOS follow the sectors held (R469, R476). -/
def syncRing (s : State) : State :=
  let h := s.evr.held
  let total := (h.map (·.n)).sum
  let cap := ringReport s
  let s := s.setFld Reg.EVR_NCIRC 0 14 (min total cap)
  let wpos := match h.getLast? with
    | some x => if x.n < 63 ∧ !s.evr.openNew then ringSectorOff s x.sec + 64 * (x.n + 1)
                else ringSectorOff s ((x.sec + 1) % ringSectors s) + 64
    | none => ringSectorOff s 0 + 64
  let first := (h.foldl (fun (acc : Nat × Option Nat) x =>
    match acc.2 with
    | some a => (0, some a)
    | none => if acc.1 < x.n then (0, some (ringSectorOff s x.sec + 64 * (acc.1 + 1))) else (acc.1 - x.n, none)) (total - cap, none)).2
  let s := s.setReg Reg.EVR_WPOS (Word.ofNat (flashBase + wpos))
  s.setReg Reg.EVR_FIRST (Word.ofNat (flashBase + (first.getD wpos)))

/-- UNMARKED follows the ring's marks (R471, R476). -/
def syncPfr (s : State) : State :=
  s.setFld Reg.EVR_PFR_STAT 8 9 (s.evr.pfr.filter (fun e => e.loc == 0)).length

/-! ## Stamping and the pre-failure ring -/

/-- Bytes 0 to 59 of a record (R465): stamped now with the next sequence number. -/
def stamped (s : State) (code master sev : Nat) (hw : Bool) (payload : List Nat) : List Nat :=
  bytesLE 8 (s.fld Reg.EVR_POC 0 16 * 2 ^ 48 + s.timeUs % 2 ^ 48) ++ bytesLE 4 (s.reg Reg.EVR_SEQ).toNat ++ bytesLE 2 code ++
    [hw.toNat * 16 + master % 16, sev % 8] ++ (payload ++ List.replicate 44 0).take 44

/-- The capture bit of a record's bytes (R465). -/
def withCapt (b : List Nat) : List Nat := b.set 15 (b.getD 15 0 % 64 + 64)

/-- EVR may read its ring (R467). -/
def ringRights (s : State) : Bool := sramGrants s .evr (s.reg Reg.EVR_PFR_BASE).toNat .read

/-- A record enters the pre-failure ring in rotation (R471). -/
def ringPut (s : State) (r : EvRec) : State :=
  let base := (s.reg Reg.EVR_PFR_BASE).toNat
  let slot := s.fld Reg.EVR_PFR_STAT 0 8
  let s := writeWords .evr 9 (base + 64 * slot) (r.body ++ bytesLE 4 (crc32c r.body)) s
  let s := s.setEvr { s.evr with
    pfrBase := base
    pfr := s.evr.pfr.filter (fun e => e.slot != slot) ++ [⟨slot, r.seq, r.sev, 0⟩]
    queue := s.evr.queue.map (fun q => if q.ring = some slot ∧ q.body.isEmpty then { q with ring := none } else q) }
  syncPfr (s.setFld Reg.EVR_PFR_STAT 0 8 (slot + 1))

/-- Records that waited for rights enter the ring. -/
def ringCatchUp : List EvRec → State → State
  | [], s => s
  | r :: t, s => ringCatchUp t (ringPut s r)

/-- Every record enters the ring while it is enabled, once EVR has its rights (R467, R471). -/
def toRing (s : State) (r : EvRec) : State :=
  if s.bit Reg.EVR_CFG 9 then
    if ringRights s then ringPut s r else s.setEvr { s.evr with ringWait := s.evr.ringWait ++ [r] }
  else s

/-! ## The way to flash -/

/-- A sector holds nothing. -/
def sectorBlank (s : State) (off : Nat) : Bool := !s.flash.words.any (fun p => p.1 / 512 == off / 4096)

/-- The ring sector that is opened next: the one after the last held, else the first that is blank. -/
def ringNext (s : State) : Nat :=
  match s.evr.held.getLast? with
  | some x => (x.sec + 1) % ringSectors s
  | none => ((List.range (ringSectors s)).find? (fun k => sectorBlank s (ringSectorOff s k))).getD 0

/-- The record that goes next has its place chosen: (0, slot) of the permanent area, (1, ring sector); true where the
sector must be opened first (R468, R469, R470, R472). -/
def nextPlace (s : State) : (Nat × Nat) × Bool :=
  let np := s.fld Reg.EVR_NPERM 0 11
  if np < 1024 ∧ !inFallback s then ((0, np), false)
  else match s.evr.held.getLast? with
    | none => ((1, ringNext s), true)
    | some x => if x.n < 63 ∧ !s.evr.openNew then ((1, x.sec), false) else ((1, ringNext s), true)

/-- Flash rights for what a record's way takes (R430, R467). -/
def placeRights (s : State) (p : Nat × Nat) : Bool :=
  let ok := fun (off : Nat) => flashGrants s .evr (flashBase + off) .write
  if p.1 = 0 then ok (0x740000 + 64 * p.2) && ok (0x380000 + 64 * p.2) else ok (ringSectorOff s p.2)

/-- The 64 bytes of a ring sector's header (R469). -/
def sectorHead (s : State) : List Nat :=
  let b := [0x4C, 0x4E, 0x45, 0x56, 0x52, 0x53, 0x45, 0x43] ++ bytesLE 4 (s.reg Reg.EVR_CLRCNT).toNat ++ bytesLE 4 (s.evr.wrap + 1) ++
    bytesLE 2 (s.fld Reg.EVR_POC 0 16) ++ List.replicate 42 0
  b ++ bytesLE 4 (crc32c b)

/-- EVR asks FLC for a program (tags 1 permanent, 2 duplicate, 3 ring, 4 header, 6 clear count) or an erase (5 ring ahead, 7
cleared sector). -/
def evrProgram (s : State) (off : Nat) (bs : List Nat) (tag : Nat) : State := flcRequest s ⟨2, false, off, flashWordsOf bs, tag⟩
def evrErase (s : State) (off tag : Nat) : State := flcRequest s ⟨2, true, off, [], tag⟩

/-- Opens a ring sector: its header is programmed; the oldest sector goes, so that two stay erased ahead (R469). -/
def openRing (s : State) (sec : Nat) : State :=
  let s := evrProgram s (ringSectorOff s sec) (sectorHead s) 4
  let held := s.evr.held.filter (fun x => x.sec != sec) ++ [⟨sec, 0, 0, 0⟩]
  let drop := held.length - (ringSectors s - 2)
  let old := held.take drop
  let s := s.setEvr { s.evr with held := held.drop drop, wrap := s.evr.wrap + 1, openNew := false }
  syncRing (old.foldl (fun s x => evrErase s (ringSectorOff s x.sec) 5) s)

/-- The bytes of a queued record, read from the ring where it stands there. -/
def recBytes (s : State) (r : EvRec) : List Nat :=
  let b := match r.body, r.ring with
    | [], some k => s.bytes (s.evr.pfrBase + 64 * k) 60
    | b, _ => b
  if r.capt then withCapt b else b

/-- The first record for flash is given to FLC, once EVR has the rights and nothing of EVR is under way (R467, R468). -/
def evrIssue (s : State) : State :=
  match s.evr.issued, s.evr.queue with
  | none, r :: _ =>
    let p := nextPlace s
    let readable := !r.body.isEmpty || sramGrants s .evr s.evr.pfrBase .read
    if placeRights s p.1 ∧ readable then
      let b := recBytes s r
      let b := b ++ bytesLE 4 (crc32c b)
      let s := s.setEvr { s.evr with issued := some p.1 }
      if p.1.1 = 0 then evrProgram (evrProgram s (0x740000 + 64 * p.1.2) b 1) (0x380000 + 64 * p.1.2) b 2
      else
        let s := if p.2 then openRing s p.1.2 else s
        let n := ((s.evr.held.find? (fun x => x.sec == p.1.2)).map (·.n)).getD 0
        evrProgram s (ringSectorOff s p.1.2 + 64 * (n + 1)) b 3
    else s
  | _, _ => s

/-- EVR goes on: ring entries that waited for rights, then the next record (R467). -/
def evrPump (s : State) : State :=
  let s := if s.bit Reg.EVR_CFG 9 ∧ ringRights s ∧ !s.evr.ringWait.isEmpty then
      let w := s.evr.ringWait
      ringCatchUp w (s.setEvr { s.evr with ringWait := [] })
    else s
  evrIssue s

/-! ## Captures -/

/-- Puts a record into a list in order of sequence number. -/
def bySeq (r : EvRec) : List EvRec → List EvRec
  | [] => [r]
  | q :: t => if r.seq < q.seq then r :: q :: t else q :: bySeq r t

/-- A capture starts: every unmarked entry of the ring goes to flash in order, marked CAPT (R471). -/
def captureStart (s : State) : State :=
  if capturing s then s
  else
    let busy := s.evr.issued.isSome
    let head := if busy then s.evr.queue.take 1 else []
    let rest := if busy then s.evr.queue.drop 1 else s.evr.queue
    let inRing := fun (q : EvRec) => s.evr.pfr.any (fun e => e.seq == q.seq && e.loc == 0)
    let rest := rest.map (fun q => if inRing q then { q with capt := true } else q)
    let have_ := (head ++ rest).map (·.seq)
    let more := (s.evr.pfr.filter (fun e => e.loc == 0 && !have_.contains e.seq)).map
      (fun e => (⟨e.seq, e.sev, [], some e.slot, true⟩ : EvRec))
    let s := s.setEvr { s.evr with queue := head ++ (more.foldl (fun l r => bySeq r l) rest) }
    evrPump (s.setBit (Reg.STAT pgEVR) 10 true)

/-! ## Intake -/

/-- Records in the intake queue: those no capture has taken (R467). -/
def intakeLen (s : State) : Nat := (s.evr.queue.filter (fun q => !q.capt)).length + s.evr.ringWait.length

/-- A record is stamped and goes its ways: the ring, flash from FLMIN on or while a capture runs, a capture from severity 5
on (R465, R467, R471). -/
def takeRecord (s : State) (code master sev : Nat) (hw : Bool) (payload : List Nat) : State :=
  let r : EvRec := ⟨(s.reg Reg.EVR_SEQ).toNat, sev, stamped s code master sev hw payload, none, false⟩
  let s := s.addMod Reg.EVR_SEQ 0 32 1
  let s := toRing s r
  let ringed := s.evr.pfr.any (fun e => e.seq == r.seq)
  let s :=
    if s.fld Reg.EVR_CFG 0 3 ≤ sev ∨ (capturing s ∧ ringed) then
      s.setEvr { s.evr with queue := s.evr.queue ++ [{ r with capt := capturing s && ringed }] }
    else s
  let s := if 5 ≤ sev ∧ s.bit Reg.EVR_CFG 8 then captureStart s else s
  evrPump s

/-- A report enters the intake queue, or is lost (R467). -/
def intake (s : State) (r : Report) : State :=
  if 64 ≤ intakeLen s then
    ((s.setEvr { s.evr with lost := s.evr.lost + 1 }).addSat Reg.EVR_CNT 0 16 1 |>.raise pgEVR 1).err pgEVR 0x1E02 r.master
  else takeRecord s r.code r.master r.sev r.hw r.data

/-- Room has returned: the record of what was lost, then a firmware record that waited (R467). -/
def evrRoom (s : State) : State :=
  let s := if s.evr.lost ≠ 0 ∧ intakeLen s < 64 then
      let n := s.evr.lost
      takeRecord (s.setEvr { s.evr with lost := 0 }) 0x1E12 15 3 false (bytesLE 4 n ++ [0])
    else s
  match s.evr.fw with
  | some (m, some b) =>
    if intakeLen s < 64 then
      let s := (s.setEvr { s.evr with fw := none }).setBit Reg.EVR_WR 0 false
      takeRecord s (leNat (b.take 2)) m.id (b.getD 2 0) false (b.drop 4)
    else s
  | _ => s

/-- Bytes of a firmware record that R467 accepts. -/
def fwRecordOk (b : List Nat) : Bool := decide (0x8000 ≤ leNat (b.take 2)) && decide (b.getD 2 0 ≤ 6)

/-- EVR may read the firmware record (R430, R467). -/
def fwRights (s : State) : Bool :=
  let a := (s.reg Reg.EVR_WR_SRC).toNat
  sramGrants s .evr a .read && sramGrants s .evr (a + 47) .read

/-- A firmware record that waited for rights is fetched; one that breaks R467 is refused (R467, R476). -/
def fwFetch (s : State) : State :=
  match s.evr.fw with
  | some (m, none) =>
    if fwRights s then
      let r := memRead s .evr (s.reg Reg.EVR_WR_SRC).toNat 48
      let s := r.2.2
      if fwRecordOk r.1 then evrRoom (s.setEvr { s.evr with fw := some (m, some r.1) })
      else ((s.setEvr { s.evr with fw := none }).setBit Reg.EVR_WR 0 false).refuse pgEVR m
    else s
  | _ => s

/-! ## A record reaches flash -/

/-- The record under way has reached flash or failed to: counts, marks, interrupts, the next one (R467, R468, R471, R476). -/
def recordFlashed (s : State) : State :=
  let tags := fun (t : Nat) => decide (1 ≤ t) && decide (t ≤ 4)
  match s.evr.issued, s.evr.queue with
  | some p, r :: t =>
    if flcOutstanding s 2 tags then s
    else
      let ok := s.flash.ended.any (fun e => e.1 == 2 && decide (1 ≤ e.2.1) && decide (e.2.1 ≤ 3) && e.2.2)
      let s := s.setFlash { s.flash with ended := s.flash.ended.filter (fun e => !(e.1 == 2 && tags e.2.1)) }
      let s := s.setEvr { s.evr with issued := none }
      let s :=
        if p.1 = 0 then (if inFallback s then s else s.setFld Reg.EVR_NPERM 0 11 (p.2 + 1))
        else syncRing (s.setEvr { s.evr with held := s.evr.held.map (fun (x : RingSec) =>
          if x.sec = p.2 then { x with n := x.n + 1, first := if x.n = 0 then r.seq else x.first, last := r.seq } else x) })
      if ok then
        let s := s.setEvr { s.evr with queue := t, pfr := s.evr.pfr.map (fun e => if e.seq = r.seq then { e with loc := p.1 + 1 } else e) }
        let s := syncPfr s
        let s := if s.fld Reg.EVR_CFG 4 3 ≤ r.sev then s.raise pgEVR 0 else s
        let s := if 5 ≤ r.sev then asyncEvent (s.raise pgEVR 5) 8 0 else s
        evrPump (evrRoom s)
      else evrPump (s.addSat Reg.EVR_CNT 16 16 1)
  | _, _ => s

/-! ## Clearing -/

/-- Steps 3 to 5 of a clear (R472, R473): a new sector, the 0x1E13 record, the erase of the others. -/
def clearFinish (s : State) (old new : Nat) (owner : List Nat) (atBoot : Bool) : State :=
  let h := s.evr.held.filter (fun x => 0 < x.n)
  let first := (h.head?.map (·.first)).getD 0
  let last := (h.getLast?.map (·.last)).getD 0
  let count := (h.map (·.n)).sum
  let gone := s.evr.held
  let s := s.setReg Reg.EVR_CLRCNT (Word.ofNat new)
  let sec := ringNext s
  let s := s.setEvr { s.evr with held := [] }
  let s := openRing s sec
  let s := takeRecord s 0x1E13 15 2 false
    (bytesLE 4 old ++ bytesLE 4 new ++ bytesLE 4 first ++ bytesLE 4 last ++ bytesLE 4 count ++ owner.take 16 ++ [atBoot.toNat])
  let s := gone.foldl (fun s x => evrErase s (ringSectorOff s x.sec) 7) s
  if gone.isEmpty then s else s.setBit (Reg.STAT pgEVR) 9 true

/-- What a reset left to be done, once EVR has its rights: sectors to be erased, and steps 3 to 5 of a clear (R467, R473). -/
def evrTidy (s : State) : State :=
  let ok := fun (k : Nat) => flashGrants s .evr (flashBase + ringSectorOff s k) .write
  let s := if s.evr.stale.isEmpty ∨ !s.evr.stale.all ok then s
    else
      let tag := if s.bit (Reg.STAT pgEVR) 9 then 7 else 5
      s.evr.stale.foldl (fun s k => evrErase s (ringSectorOff s k) tag) (s.setEvr { s.evr with stale := [] })
  match s.evr.clrBoot with
  | some new =>
    if ok (ringNext s) then clearFinish (s.setEvr { s.evr with clrBoot := none }) (new - 1) new (ownerHash s.shadow) true else s
  | none => s

/-- EVR looks at its rights again, in the clock after a write of the access tables (R467). -/
def evrRights (s : State) : State := evrPump (fwFetch (evrTidy s))

/-- EVR's part of a clear that SEC has passed (R472): the clear-count log, the unmarked entries below, steps 3 to 5. -/
def clearRun (s : State) (owner : List Nat) : State :=
  let old := (s.reg Reg.EVR_CLRCNT).toNat
  let pos := s.evr.clrPos
  let s := if pos = 512 then evrErase s 0x3FB000 6 else if pos = 1024 then evrErase s 0x3FA000 6 else s
  let pos := pos % 1024
  let s := flcRequest s ⟨2, false, 0x3FA000 + 8 * pos, [BitVec.ofNat 64 (0xFFFFFFFF00000000 + (old + 1) % 2 ^ 32)], 6⟩
  let s := s.setEvr { s.evr with
    clrPos := pos + 1
    pfr := s.evr.pfr.filter (fun e => e.loc != 0)
    queue := (if s.evr.issued.isSome then s.evr.queue.take 1 else []) ++
      (if s.evr.issued.isSome then s.evr.queue.drop 1 else s.evr.queue).filter (fun q => !q.body.isEmpty) }
  clearFinish (syncPfr s) old (old + 1) owner false

/-! ## Resets -/

/-- Where the flash areas stand, read from flash (R465, R469): permanent records, the ring's sectors, the highest POC and
sequence number, WRAP, the clear counts of log and headers. -/
structure EvrFound where
  perm : Nat
  held : List RingSec
  wrap : Nat
  seq : Option Nat
  poc : Option Nat
  clrLog : Nat
  clrHead : Nat
  clrPos : Nat
  bad : Nat
  /-- Sequence number of the newest 0x1E13 record, 0 for none (R473). -/
  cleared : Nat

/-- The 64 bytes at an offset, none where a word of them does not read. -/
def slotBytes (s : State) (off : Nat) : Option (List Nat) :=
  ((List.range 8).mapM (fun i => (flashLook s (off / 8 + i)))).map (fun ws => ws.flatMap (fun w => bytesLE 8 w.toNat))

/-- A slot that holds nothing. -/
def slotErased (s : State) (off : Nat) : Bool := (List.range 8).all (fun i => s.fw (off / 8 + i) == .erased)

/-- A slot whose contents pass their CRC (R465, R469). -/
def slotGood (s : State) (off : Nat) : Option (List Nat) :=
  match slotBytes s off with
  | some b => if leNat (b.drop 60) = crc32c (b.take 60) then some b else none
  | none => none

/-- One ring sector: its WRAP, clear count and records, none where its header is not valid (R469). -/
def ringSecFound (s : State) (sec : Nat) : Option (Nat × Nat × RingSec × Nat) :=
  let off := ringSectorOff s sec
  match slotGood s off with
  | some h =>
    if h.take 8 = [0x4C, 0x4E, 0x45, 0x56, 0x52, 0x53, 0x45, 0x43] then
      let used := ((List.range 63).filter (fun i => !slotErased s (off + 64 * (i + 1)))).length
      let recs := (List.range used).filterMap (fun i => slotGood s (off + 64 * (i + 1)))
      let q := recs.map (fun b => leNat ((b.drop 8).take 4))
      some (leNat ((h.drop 12).take 4), leNat ((h.drop 8).take 4), ⟨sec, used, q.head?.getD 0, q.getLast?.getD 0⟩, used - recs.length)
    else none
  | none => none

/-- Puts a found sector into a list in order of WRAP. -/
def byWrap (x : Nat × Nat × RingSec × Nat) : List (Nat × Nat × RingSec × Nat) → List (Nat × Nat × RingSec × Nat)
  | [] => [x]
  | y :: t => if x.1 < y.1 then x :: y :: t else y :: byWrap x t

/-- What EVR finds in flash at a power-on (R465, R469, R473). -/
def evrFind (s : State) : EvrFound :=
  let permOff := if inFallback s then 0x380000 else 0x740000
  let used := (((List.range 1024).find? (fun i => slotErased s (permOff + 64 * i))).getD 1024)
  let perm := (List.range used).filterMap (fun i => slotGood s (permOff + 64 * i))
  let secs := ((List.range (ringSectors s)).filterMap (ringSecFound s)).foldl (fun l x => byWrap x l) []
  let recs := perm ++ secs.flatMap (fun (x : Nat × Nat × RingSec × Nat) => (List.range x.2.2.1.n).filterMap (fun i => slotGood s (ringSectorOff s x.2.2.1.sec + 64 * (i + 1))))
  let mx := fun (l : List Nat) => if l.isEmpty then none else some (l.foldl max 0)
  let log := (List.range 1024).filterMap (fun i => match s.fw (0x3FA000 / 8 + i) with
    | .once d => some (i, d.toNat % 2 ^ 32) | _ => none)
  { perm := used, held := secs.map (fun (x : Nat × Nat × RingSec × Nat) => x.2.2.1), wrap := (secs.getLast?.map (fun (x : Nat × Nat × RingSec × Nat) => x.1)).getD 0
    seq := mx (recs.map (fun b => leNat ((b.drop 8).take 4))), poc := mx (recs.map (fun b => leNat ((b.drop 6).take 2)))
    clrLog := (log.map (·.2)).foldl max 0, clrHead := (secs.map (fun (x : Nat × Nat × RingSec × Nat) => x.2.1)).foldl max 0
    clrPos := ((log.filter (fun x => x.2 == (log.map (·.2)).foldl max 0)).getLast?.map (fun x => x.1 + 1)).getD 0
    bad := (secs.map (fun (x : Nat × Nat × RingSec × Nat) => x.2.2.2)).sum
    cleared := ((recs.filter (fun b => leNat ((b.drop 12).take 2) == 0x1E13)).map (fun b => leNat ((b.drop 8).take 4))).foldl max 0 }

/-- Ring sectors that hold something and are not held. -/
def staleSectors (s : State) : List Nat :=
  (List.range (ringSectors s)).filter (fun k => !sectorBlank s (ringSectorOff s k) && !s.evr.held.any (fun x => x.sec == k))

/-- EVR after a power-on or pin reset (R465, R469): positions and numbers from flash. A pin reset keeps POC's rule. -/
def evrPowerOn (s : State) : State :=
  let s := s.setEvr { outbox := s.evr.outbox, queue := [], issued := none, ringWait := [], lost := 0, fw := none, pfr := [],
                      pfrBase := 0, held := [], wrap := 0, openNew := false, clrPos := 0, stale := [], clrBoot := none }
  let s := if (s.bank 1).failed then s.setBit (Reg.STAT pgEVR) 8 true else s
  let f := evrFind s
  -- sectors whose records all precede the newest clear record are erased and reported no more (R473)
  let keep := f.held.filter (fun x => x.n == 0 || decide (f.cleared ≤ x.last))
  let s := s.setEvr { s.evr with held := keep, wrap := f.wrap, clrPos := f.clrPos, clrBoot := if f.clrHead < f.clrLog then some f.clrLog else none }
  let s := s.setEvr { s.evr with stale := staleSectors s }
  let s := s.setBit (Reg.STAT pgEVR) 9 (decide (keep.length < f.held.length))
  let s := s.setReg Reg.EVR_SEQ (Word.ofNat (match f.seq with | some n => n + 1 | none => 0))
  let s := s.setReg Reg.EVR_POC (Word.ofNat (match f.poc with | some n => (n + 1) % 65536 | none => 0))
  let s := (s.setReg Reg.EVR_CLRCNT (Word.ofNat (max f.clrHead f.clrLog))).setFld Reg.EVR_NPERM 0 11 f.perm
  syncRing (s.addSat Reg.EVR_CNT 16 16 f.bad)

/-- What a warm reset or SRST of the page abandons (R467); the record under way leaves a bad slot where flash was reset
with it. -/
def evrAbandon (s : State) : State :=
  let inRing := fun (q : EvRec) => s.evr.pfr.any (fun e => e.seq == q.seq)
  let lost := (s.evr.queue.filter (fun q => !inRing q)).length + s.evr.ringWait.length + s.evr.fw.isSome.toNat + s.evr.lost
  let s := match s.evr.issued with
    | some p =>
      let s := s.addSat Reg.EVR_CNT 16 16 1
      if p.1 = 0 then s.setFld Reg.EVR_NPERM 0 11 (p.2 + 1)
      else s.setEvr { s.evr with held := s.evr.held.map (fun (x : RingSec) => if x.sec = p.2 then { x with n := x.n + 1 } else x) }
    | none => s
  let s := s.setEvr { s.evr with queue := [], issued := none, ringWait := [], lost := 0, fw := none }
  let s := s.setFlash { s.flash with
    ended := s.flash.ended.filter (fun e => e.1 != 2)
    banks := s.flash.banks.map (fun (k : FlashBank) => { k with waiting := k.waiting.filter (fun (r : FlashReq) => r.port != 2) }) }
  -- a sector whose header was not programmed is opened anew; where a clear had opened it, the clear is completed (R473)
  let opens := s.flash.banks.any (fun k => (k.op.map (fun o => o.req.port == 2 && o.req.tag == 4)).getD false)
  let torn := match s.evr.held.getLast? with
    | some x => !opens && (slotGood s (ringSectorOff s x.sec)).isNone
    | none => false
  let s := if torn then s.setEvr { s.evr with
      held := s.evr.held.dropLast, clrBoot := if s.bit (Reg.STAT pgEVR) 9 then some (s.reg Reg.EVR_CLRCNT).toNat else none } else s
  let s := s.setEvr { s.evr with stale := staleSectors s }
  let s := syncRing ((s.setBit Reg.EVR_WR 0 false).setBit (Reg.STAT pgEVR) 10 false)
  if lost = 0 then s else takeRecord s 0x1E12 15 3 false (bytesLE 4 lost ++ [1])

end Sys2Proof.Machine
end

