-- ==== Sys2Proof/Machine/Evr.lean ====
section
/-! DEFINITION. The meanings of EVR's commands (R467 to R476). -/
namespace Sys2Proof.Machine

/-- EVR takes the oldest report in (R467). -/
def reportIntake (s : State) : State :=
  match s.evr.outbox with
  | [] => s
  | r :: t => intake (evrRoom (evrTidy (s.setEvr { s.evr with outbox := t }))) r

/-- EVR_REPORT_INTAKE. -/
def execEvrReportIntake (s : State) : Host.Outcome State Fault Refusal := done s (reportIntake s)

/-- EVR_WR's two bits (R467, R471, R476). -/
def wrEffect (m : Master) (v : Word) (s : State) : State :=
  let s := if fieldOf v 0 1 = 1 then fwFetch ((s.setEvr { s.evr with fw := some (m, none) }).setBit Reg.EVR_WR 0 true) else s
  if fieldOf v 8 1 = 1 ∧ s.bit Reg.EVR_CFG 8 then captureStart s else s

/-- A write of EVR_WR: refused while a firmware record is pending, or where the record breaks R467 (R476). -/
def wrWrite (m : Master) (v : Word) (s : State) : State :=
  let go := fieldOf v 0 1 == 1
  let b := s.bytes (s.reg Reg.EVR_WR_SRC).toNat 48
  regWriteIf s m Reg.EVR_WR 4 v (!go || (s.evr.fw.isNone && (!fwRights s || fwRecordOk b))) (wrEffect m v)

/-- EVR_WR_GO. -/
def execEvrWrGo (m : Master) (s : State) : Host.Outcome State Fault Refusal := done s (wrWrite m 1#32 s)
/-- EVR_CAPTURE. -/
def execEvrCapture (m : Master) (s : State) : Host.Outcome State Fault Refusal := done s (wrWrite m 0x100#32 s)

/-- The capture ends: none of its records is left, and no report waits to join it (R471). -/
def captureDone (s : State) : State :=
  if capturing s ∧ !s.evr.queue.any (·.capt) ∧ s.evr.outbox = [] then (s.setBit (Reg.STAT pgEVR) 10 false).raise pgEVR 2 else s

/-- EVR_CAPTURE_DONE. -/
def execEvrCaptureDone (s : State) : Host.Outcome State Fault Refusal := done s (captureDone s)

/-- EVR_RECORD_FLASHED (R467, R468, R469). -/
def execEvrRecordFlashed (s : State) : Host.Outcome State Fault Refusal := done s (recordFlashed s)

/-- The erases of a clear have ended (R472). -/
def clearDone (s : State) : State :=
  if s.bit (Reg.STAT pgEVR) 9 ∧ s.evr.stale.isEmpty ∧ s.evr.clrBoot.isNone ∧ !flcOutstanding s 2 (· == 7) then
    let s := s.setFlash { s.flash with ended := s.flash.ended.filter (fun e => !(e.1 == 2 && e.2.1 == 7)) }
    (s.setBit (Reg.STAT pgEVR) 9 false).raise pgEVR 3
  else s

/-- EVR_CLEAR_DONE. -/
def execEvrClearDone (s : State) : Host.Outcome State Fault Refusal := done s (clearDone s)

end Sys2Proof.Machine
end

