-- ==== Sys2Proof/Machine/Flash.lean ====
section
/-! DEFINITION. The meanings of FLC's commands (R441 to R446). -/
namespace Sys2Proof.Machine

/-- A program by the register interface: words read from SRAM before any cell changes (R441). -/
def flcProgram (m : Master) (b : Nat) (self : Bool) (s : State) : State :=
  let a := (s.reg (Reg.FLC_B_ADDR b)).toNat
  let src := (s.reg (Reg.FLC_B_SRC b)).toNat
  let n := s.fld (Reg.FLC_B_CNT b) 0 6
  let off := a - flashBase
  let rng := decide (flashBase ≤ a) && flcRange b false off n && sramRange src (8 * n)
  let okSrc := sramGrants s .flc src .read && sramGrants s .flc (src + 8 * n - 1) .read
  let raw := (List.range n).map (fun i => BitVec.ofNat 64 (s.load (src + 8 * i) 8))
  let v := flcVerdict s m b false off raw rng okSrc self
  if v = 0 then
    let q := memRead s .flc src (8 * n)
    let ws := (List.range n).map (fun i => BitVec.ofNat 64 (leNat ((q.1.drop (8 * i)).take 8)))
    flcStart q.2.2 b ⟨0, false, off, ws, 0⟩
  else
    let s := if v = 5 then
        (if flashGrants s m a .write then aclRefuse s .flc src 0 .read else aclRefuse s m a 1 .write)
      else s
    flcRefuse s m b v

/-- An erase by the register interface (R441, R445). -/
def flcErase (m : Master) (b : Nat) (self : Bool) (s : State) : State :=
  let a := (s.reg (Reg.FLC_B_ADDR b)).toNat
  let off := a - flashBase
  let v := flcVerdict s m b true off [] (decide (flashBase ≤ a) && flcRange b true off 0) true self
  if v = 0 then flcStart s b ⟨0, true, off, [], 0⟩
  else flcRefuse (if v = 5 then aclRefuse s m a 1 .write else s) m b v

/-- SUSPEND (R441, R444). -/
def flcSuspend (m : Master) (b : Nat) (s : State) : State :=
  let k := s.bank b
  if k.failed then flcRefuse s m b 13
  else match k.op with
    | some o => if o.req.erase then s.setBank b { k with suspReq := true, auto := false } else flcRefuse s m b 8
    | none => flcRefuse s m b 8

/-- RESUME (R441, R444). -/
def flcResume (m : Master) (b : Nat) (s : State) : State :=
  let k := s.bank b
  if k.failed then flcRefuse s m b 13
  else if k.susp.isNone ∨ k.op.isSome then flcRefuse s m b 9
  else setResult (eraseRuns s b) b 0

/-- GO with an operation (R441). -/
def flcGo (m : Master) (b op : Nat) (self : Bool) (s : State) : State :=
  if op = 1 then flcProgram m b self s else if op = 2 then flcErase m b self s
  else if op = 3 then flcSuspend m b s else flcResume m b s

/-- A write of FLC_B_CMD; `self` whether its instruction was fetched from the bank. GO with another operation is refused
(R454, R455). -/
def flcCmdWrite (m : Master) (b : Nat) (v : Word) (self : Bool) (s : State) : State :=
  let go := fieldOf v 31 1 == 1
  let op := fieldOf v 0 3
  let busy := s.bit (Reg.FLC_B_CMD b) 31
  regWriteIf s m (Reg.FLC_B_CMD b) 4 v (!go || (decide (1 ≤ op) && decide (op ≤ 4))) (fun s =>
    let s := s.setBit (Reg.FLC_B_CMD b) 31 busy
    if go then flcGo m b op self s else s)

/-- The word that issues an operation. -/
def flcGoWord (op : Nat) : Word := Word.ofNat (0x80000000 + op)

/-- FLC_PROGRAM (R441). -/
def execFlcProgram (m : Master) (b : Nat) (self : Bool) (s : State) : Host.Outcome State Fault Refusal :=
  done s (flcCmdWrite m b (flcGoWord 1) self s)
/-- FLC_ERASE (R441, R445). -/
def execFlcErase (m : Master) (b : Nat) (self : Bool) (s : State) : Host.Outcome State Fault Refusal :=
  done s (flcCmdWrite m b (flcGoWord 2) self s)
/-- FLC_SUSPEND (R444). -/
def execFlcSuspend (m : Master) (b : Nat) (s : State) : Host.Outcome State Fault Refusal :=
  done s (flcCmdWrite m b (flcGoWord 3) false s)
/-- FLC_RESUME (R444). -/
def execFlcResume (m : Master) (b : Nat) (s : State) : Host.Outcome State Fault Refusal :=
  done s (flcCmdWrite m b (flcGoWord 4) false s)
/-- FLC_PROGRAM_DONE: a program ends, verified or not (R441, R446). -/
def execFlcProgramDone (b : Nat) (good : Bool) (s : State) : Host.Outcome State Fault Refusal := done s (programDone b good s)
/-- FLC_ERASE_DONE (R445, R446). -/
def execFlcEraseDone (b : Nat) (good : Bool) (s : State) : Host.Outcome State Fault Refusal := done s (eraseDone b good s)
/-- FLC_SUSPEND_DONE (R444). -/
def execFlcSuspendDone (b : Nat) (s : State) : Host.Outcome State Fault Refusal := done s (suspendDone b s)
/-- FLASH_READ (R439, R443). -/
def execFlashRead (m : Master) (a n : Nat) (errs : List (Nat × Bool)) (s : State) : Host.Outcome State Fault Refusal :=
  done s (flashRead s m a n errs .read)

/-- The scan starts (R445). -/
def resetScan (s : State) : State :=
  if s.flash.scan = .due then
    let s := scanBank (scanBank s 0) 1
    s.setFlash { s.flash with scan := .running }
  else s

/-- FLC_RESET_SCAN. -/
def execFlcResetScan (s : State) : Host.Outcome State Fault Refusal := done s (resetScan s)

/-- The scan ends: open intents are closed, their sectors erased (R445). -/
def scanDone (s : State) : State :=
  if s.flash.scan = .running then
    let q0 := reErase 0 (scanList s 0) 0 s
    let q1 := reErase 1 (scanList q0.2 1) q0.1 q0.2
    let s := scanBank (scanBank q1.2 0) 1
    let s := (s.setFld Reg.FLC_SCAN 0 4 q1.1).setBit (Reg.STAT pgFLC) 10 false
    let s := (s.setFlash { s.flash with scan := .done }).raise pgFLC 6
    flcGoOn (flcGoOn s 0) 1
  else s

/-- FLC_SCAN_DONE. -/
def execFlcScanDone (s : State) : Host.Outcome State Fault Refusal := done s (scanDone s)

end Sys2Proof.Machine
end

