-- ==== Sys2Proof/Machine/XltMap.lean ====
section
/-! DEFINITION. The extent table (R373 to R377, R384, R385) and the brick table (R388, R389) as XLT keeps them in SRAM. -/
namespace Sys2Proof.Machine

/-- Replaces XLT's own state. -/
def State.setXlt (s : State) (x : Xlt) : State := { s with xlt := x }

/-- A disc is mounted (R406). -/
def mounted (s : State) : Bool := s.bit (Reg.STAT pgXLT) 8
/-- The namespace is write-protected (R359, R396). -/
def writeProt (s : State) : Bool := s.bit (Reg.STAT pgMEDM) 8

/-! ## Extent contexts (R373 to R375) -/

/-- An extent context: first block, blocks, strip and data index of the first block, state (1 MAPPED, 2 ZERO, 3 MOVE, 4
UNREC), heat, host writes. -/
structure Ext where
  start : Nat
  len : Nat
  psa : Nat
  ssec : Nat
  st : Nat
  heat : Nat
  gen : Nat
  deriving DecidableEq, Repr

/-- The 128 bits of a context with a CHK field. -/
def Ext.bits (e : Ext) (chk : Nat) : Nat :=
  e.start % 2 ^ 40 * 2 ^ 88 + e.len % 2 ^ 20 * 2 ^ 68 + e.psa % 2 ^ 25 * 2 ^ 43 + e.ssec % 64 * 2 ^ 37 + e.st % 16 * 2 ^ 33 +
    e.heat % 4 * 2 ^ 31 + e.gen % 4096 * 2 ^ 19 + chk % 256 * 2 ^ 11

/-- CHK of 128 bits whose CHK field is 0: bytes 15 down to 0 (R375). -/
def extChk (n : Nat) : Nat := crcBE 8 0x07 0xFF (bytesBE 16 n)

/-- The number a context is stored as. -/
def Ext.word (e : Ext) : Nat := e.bits (extChk (e.bits 0))

/-- The context of an unused slot. -/
def freeExt : Ext := ⟨0, 0, 0, 0, 0, 0, 0⟩

/-- Reads a context: none where CHK fails or STATE is reserved (R375). -/
def Ext.ofWord (n : Nat) : Option Ext :=
  let e : Ext := ⟨n / 2 ^ 88, n / 2 ^ 68 % 2 ^ 20, n / 2 ^ 43 % 2 ^ 25, n / 2 ^ 37 % 64, n / 2 ^ 33 % 16, n / 2 ^ 31 % 4, n / 2 ^ 19 % 4096⟩
  let chk := n / 2 ^ 11 % 256
  if chk = extChk (n - chk * 2 ^ 11) ∧ e.st ≤ 4 then some e else none

/-- MAPPED, MOVE or UNREC: the extent has a place (R374). -/
def placedSt (st : Nat) : Bool := st == 1 || st == 3 || st == 4

/-- A place as one number: strip times 56 plus data index (R374). -/
def placeNo (psa ssec : Nat) : Nat := psa * 56 + ssec

/-- The part of an extent from block `a` on, `n` blocks (R374). -/
def Ext.sub (e : Ext) (a n : Nat) : Ext :=
  if placedSt e.st then
    let d := e.ssec + (a - e.start)
    { e with start := a, len := n, psa := e.psa + d / 56, ssec := d % 56 }
  else { e with start := a, len := n }

/-- What is left of an extent outside blocks `a` to `b` − 1. -/
def Ext.cut (e : Ext) (a b : Nat) : List Ext :=
  let fin := e.start + e.len
  if fin ≤ a ∨ b ≤ e.start then [e]
  else (if e.start < a then [e.sub e.start (a - e.start)] else []) ++ (if b < fin then [e.sub b (fin - b)] else [])

/-- The part of an extent inside blocks `a` to `b` − 1. -/
def Ext.clip (e : Ext) (a b : Nat) : List Ext :=
  let lo := max a e.start
  let hi := min b (e.start + e.len)
  if lo < hi then [e.sub lo (hi - lo)] else []

/-- Two extents become one (R377). -/
def extMerge (x y : Ext) : Option Ext :=
  let ok := x.st == y.st && x.start + x.len == y.start &&
    (if placedSt x.st then placeNo x.psa x.ssec + x.len == placeNo y.psa y.ssec && x.psa / 1024 == y.psa / 1024 &&
        decide (x.len + y.len ≤ 57344)
     else decide (x.len + y.len ≤ 1048575))
  if ok then some { x with len := x.len + y.len, heat := max x.heat y.heat, gen := max x.gen y.gen } else none

/-- Puts a new extent into a sorted list that leaves room for it, merging it with its neighbours (R376, R377). -/
def extInsert (e : Ext) (l : List Ext) : List Ext :=
  let before := l.filter (fun x => decide (x.start < e.start))
  let after := l.filter (fun x => decide (e.start < x.start))
  let (before, e) := match before.getLast? with
    | some p => match extMerge p e with | some m => (before.dropLast, m) | none => (before, e)
    | none => (before, e)
  match after with
  | q :: t => match extMerge e q with | some m => before ++ m :: t | none => before ++ e :: after
  | [] => before ++ [e]

/-! ## Leaves and index (R376) -/

/-- An index entry: first block, leaf, extents held. -/
structure IdxEnt where
  first : Nat
  leaf : Nat
  held : Nat
  deriving DecidableEq, Repr

/-- The index as it stands. -/
def readIndex (s : State) : List IdxEnt × State :=
  let n := s.fld Reg.XLT_LEAF 0 17
  if n = 0 then ([], s)
  else
    let r := memRead s .xlt (s.reg Reg.XLT_IDX_BASE).toNat (8 * n)
    ((List.range n).map (fun i =>
      let w := leNat ((r.1.drop (8 * i)).take 8)
      ⟨w % 2 ^ 40, w / 2 ^ 40 % 65536, w / 2 ^ 56 % 32⟩), r.2.2)

/-- Bytes of an index entry. -/
def IdxEnt.bytes (e : IdxEnt) : List Nat := bytesLE 8 (e.first % 2 ^ 40 + e.leaf % 65536 * 2 ^ 40 + e.held % 32 * 2 ^ 56)

/-- Stores the index and the number of leaves in use. -/
def writeIndex (s : State) (l : List IdxEnt) : State :=
  let s := memWrite s .xlt (s.reg Reg.XLT_IDX_BASE).toNat (l.flatMap IdxEnt.bytes)
  s.setFld Reg.XLT_LEAF 0 17 l.length

/-- The extents of a leaf, none where one of its contexts is corrupt or cannot be read (R375, R419). -/
def readLeaf (s : State) (leaf : Nat) : Option (List Ext) × State :=
  let r := memRead s .xlt ((s.reg Reg.XLT_TBL_BASE).toNat + 256 * leaf) 256
  let es := (List.range 16).map (fun i => Ext.ofWord (leNat ((r.1.drop (16 * i)).take 16)))
  (if r.2.1 ∨ es.any (·.isNone) then none else some ((es.filterMap id).filter (fun e => e.st != 0)), r.2.2)

/-- Stores the extents of a leaf in its first slots (R376). -/
def writeLeaf (s : State) (leaf : Nat) (l : List Ext) : State :=
  memWrite s .xlt ((s.reg Reg.XLT_TBL_BASE).toNat + 256 * leaf)
    ((l ++ List.replicate (16 - l.length) freeExt).flatMap (fun e => bytesLE 16 e.word))

/-- A leaf no index entry names: the lowest. -/
def freeLeaf (l : List IdxEnt) : Nat := ((List.range 65536).find? (fun k => !l.any (fun e => e.leaf == k))).getD 0

/-- The leaf whose range holds a block: position in the index. -/
def leafAt (l : List IdxEnt) (lba : Nat) : Nat := (l.filter (fun e => decide (e.first ≤ lba))).length - 1

/-- First block after a leaf's range. -/
def leafEnd (l : List IdxEnt) (i : Nat) : Nat := match l[i + 1]? with | some e => e.first | none => 2 ^ 40

/-- Positions of the leaves that a range of blocks touches. -/
def leavesOf (l : List IdxEnt) (a n : Nat) : List Nat :=
  if l.isEmpty ∨ n = 0 then [] else
  let lo := leafAt l a
  (List.range (leafAt l (a + n - 1) + 1 - lo)).map (fun i => lo + i)

/-- R375: a corrupt context is reported. -/
def reportCorrupt (s : State) (leaf : Nat) : State :=
  let s := ((s.raise pgXLT 1).err pgXLT 0x1602 15).addSat Reg.XLT_CNT 16 8 1
  s.report pgXLT 0x1602 15 [leaf]

/-- A lookup (R377): the extents in a range, cut to it, or the leaf that is corrupt. -/
def lookupIn (l : List IdxEnt) (a n : Nat) : List Nat → State → (List Ext × Option Nat) × State
  | [], s => (([], none), s)
  | i :: t, s =>
    let leaf := ((l[i]?).map (·.leaf)).getD 0
    let r := readLeaf s leaf
    match r.1 with
    | none => (([], some leaf), reportCorrupt r.2 leaf)
    | some es =>
      let q := lookupIn l a n t r.2
      ((es.flatMap (fun e => e.clip a (a + n)) ++ q.1.1, q.1.2), q.2)

/-- The extents in a range of blocks. -/
def lookup (s : State) (a n : Nat) : (List Ext × Option Nat) × State :=
  let r := readIndex s
  lookupIn r.1 a n (leavesOf r.1 a n) r.2

/-- Pieces of a range: extents and the holes between them (R377). -/
def piecesOf (a n : Nat) : List Ext → List Piece
  | [] => if n = 0 then [] else [⟨a, n, 0, 0, 0⟩]
  | e :: t =>
    let gap := e.start - a
    (if gap = 0 then [] else [⟨a, gap, 0, 0, 0⟩]) ++ ⟨e.start, e.len, e.st, e.psa, e.ssec⟩ :: piecesOf (e.start + e.len) (n - gap - e.len) t

/-! ## The brick table (R388, R389) -/

/-- A brick record. -/
structure Brick where
  layer : Nat
  brick : Nat
  st : Nat
  rej : Nat
  rst : Nat
  front : Nat
  stream : Nat
  valid : Nat
  unrec : Nat
  cls1 : Nat
  cls23 : Nat
  pins : Nat
  deriving DecidableEq, Repr

/-- Bricks of the side. -/
def brickCount (s : State) : Nat := s.wenc.nbrick.sum

/-- The layer and brick of a number in the brick table: layer by layer (R389). -/
def brickAt (l : List Nat) (n : Nat) : Nat → Nat × Nat
  | lay => match l with
    | [] => (lay, n)
    | k :: t => if n < k then (lay, n) else brickAt t (n - k) (lay + 1)

/-- The number in the brick table of a strip's brick. -/
def brickNo (s : State) (psa : Nat) : Nat := (s.wenc.nbrick.take (psaLayer psa)).sum + psaBrick psa

/-- Strip 0 of group `g` of a brick, on the side mounted. -/
def groupPsa (s : State) (n g : Nat) : Nat :=
  let b := brickAt s.wenc.nbrick n 0
  psaOf s.xlt.side b.1 b.2 (8 * g)

/-- Address of a brick record. -/
def brickAddr (s : State) (n : Nat) : Nat := (s.reg Reg.MEDM_BT_BASE).toNat + 16 * n

/-- A brick record from its 16 bytes. -/
def Brick.ofBytes (b : List Nat) : Brick :=
  let f := fun (o n : Nat) => leNat ((b.drop o).take n)
  ⟨f 0 2 / 1024 % 16, f 0 2 % 1024, f 2 1, f 3 1 % 16, f 4 2, f 6 1, f 7 1 % 4, f 8 3, f 11 1, f 12 2, f 14 1, f 15 1⟩

/-- The 16 bytes of a brick record. -/
def Brick.bytes (b : Brick) : List Nat :=
  bytesLE 2 (b.layer % 16 * 1024 + b.brick % 1024) ++ [b.st % 256, b.rej % 16] ++ bytesLE 2 b.rst ++ [b.front % 256, b.stream % 4] ++
    bytesLE 3 b.valid ++ [b.unrec % 256] ++ bytesLE 2 b.cls1 ++ [b.cls23 % 256, b.pins % 256]

/-- A brick of the table. -/
def State.brick (s : State) (n : Nat) : Brick := Brick.ofBytes (s.bytes (brickAddr s n) 16)

/-- Stores a brick record. -/
def State.setBrick (s : State) (n : Nat) (b : Brick) : State := memWrite s .xlt (brickAddr s n) b.bytes

/-- Changes a brick record. -/
def State.updBrick (s : State) (n : Nat) (f : Brick → Brick) : State := s.setBrick n (f (s.brick n))

/-- Bricks 0 and 1 of a layer are test bricks, and so on (R47, R388): the numbers of the bricks in a state. -/
def bricksIn (s : State) (st : Nat) : List Nat := (List.range (brickCount s)).filter (fun n => (s.brick n).st == st)

/-- MEDM_POOL and MEDM_WEAR follow the table (R407). -/
def syncPool (s : State) : State :=
  let s := (s.setFld Reg.MEDM_POOL 0 12 (bricksIn s 0).length).setFld Reg.MEDM_POOL 16 12 (bricksIn s 7).length
  let w := (bricksIn s 0 ++ bricksIn s 1 ++ bricksIn s 2).map (fun n => (s.brick n).rst)
  match w with
  | [] => s
  | x :: t => (s.setFld Reg.MEDM_WEAR 0 14 (t.foldl min x)).setFld Reg.MEDM_WEAR 16 14 (t.foldl max x)

/-- Blocks of placed extents leave or enter their bricks (R389). -/
def addValid (s : State) (l : List Ext) (enter : Bool) : State :=
  l.foldl (fun s e =>
    if placedSt e.st then
      s.updBrick (brickNo s e.psa) (fun b => { b with valid := if enter then b.valid + e.len else b.valid - e.len })
    else s) s

/-! ## Changes of the map -/

/-- Takes the leaf's new extents: split where they are more than 16 (R376). -/
def storeLeaf (s : State) (l : List IdxEnt) (i : Nat) (es : List Ext) : List IdxEnt × State :=
  match l[i]? with
  | none => (l, s)
  | some x =>
    if es.length ≤ 16 then (l.set i { x with held := es.length }, writeLeaf s x.leaf es)
    else
      let lo := es.take (es.length - 8)
      let hi := es.drop (es.length - 8)
      let k := freeLeaf l
      let fst := (hi.head?.map (·.start)).getD x.first
      (l.take i ++ [{ x with held := lo.length }, ⟨fst, k, hi.length⟩] ++ l.drop (i + 1), writeLeaf (writeLeaf s x.leaf lo) k hi)

/-- Merges a leaf with the one after it where both hold 8 extents or fewer together (R376). -/
def mergeLeaves (s : State) (l : List IdxEnt) (i : Nat) : List IdxEnt × State :=
  match l[i]?, l[i + 1]? with
  | some x, some y =>
    if x.held + y.held ≤ 8 then
      let r := readLeaf s x.leaf
      let q := readLeaf r.2 y.leaf
      match r.1, q.1 with
      | some a, some b => (l.take i ++ [{ x with held := a.length + b.length }] ++ l.drop (i + 2), writeLeaf q.2 x.leaf (a ++ b))
      | _, _ => (l, q.2)
    else (l, s)
  | _, _ => (l, s)

/-- Sets or frees a range in the leaves at these positions, the last first. -/
def setIn (a n : Nat) (new : Option Ext) : List Nat → List IdxEnt → State → List IdxEnt × State
  | [], l, s => (l, s)
  | i :: t, l, s =>
    let lo := max a ((l[i]?.map (·.first)).getD 0)
    let hi := min (a + n) (leafEnd l i)
    let r := readLeaf s ((l[i]?.map (·.leaf)).getD 0)
    match r.1 with
    | none => setIn a n new t l r.2
    | some es =>
      let gone := es.flatMap (fun e => e.clip lo hi)
      let kept := es.flatMap (fun e => e.cut lo hi)
      let s := addValid r.2 gone false
      let s := s.setReg Reg.XLT_NUSE (Word.ofNat ((s.reg Reg.XLT_NUSE).toNat - (gone.map (·.len)).sum))
      let (es, s) := match new with
        | some e =>
          let x := e.sub lo (hi - lo)
          let s := addValid s [x] true
          (extInsert x kept, s.setReg Reg.XLT_NUSE (Word.ofNat ((s.reg Reg.XLT_NUSE).toNat + x.len)))
        | none => (kept, s)
      let r := storeLeaf s l i es
      let m := mergeLeaves r.2 r.1 i
      let m := if i = 0 then m else mergeLeaves m.2 m.1 (i - 1)
      setIn a n new t m.1 m.2

/-- Free leaves are few: CTXLOW (R403). -/
def checkLeaves (s : State) : State :=
  if 65536 - s.fld Reg.XLT_LEAF 0 17 < s.fld Reg.XLT_MERGE 0 16 ∧ mounted s then s.raise pgXLT 0 else s

/-- Sets a range to an extent, or to a hole (R376, R377, R384). -/
def setRange (s : State) (a n : Nat) (new : Option Ext) : State :=
  let r := readIndex s
  let is := leavesOf r.1 a n
  let firsts := is.filterMap (fun i => (r.1[i]?).map (·.first))
  let q := setIn a n new is.reverse r.1 r.2
  let s := writeIndex q.2 q.1
  let firsts := firsts ++ (q.1.map (·.first)).filter (fun f => !r.1.any (fun e => e.first == f))
  checkLeaves (s.setXlt { s.xlt with changed := s.xlt.changed ++ firsts.filter (fun f => !s.xlt.changed.contains f) })

/-- Sets several extents in turn. -/
def setAll (l : List Ext) (s : State) : State := l.foldl (fun s e => setRange s e.start e.len (some e)) s

/-- A COND piece changes only the blocks that still point to its source place (R385). -/
def setCond (s : State) (e : Ext) (srcPsa srcSsec : Nat) : State :=
  let r := lookup s e.start e.len
  let here := r.1.1.filter (fun x => placedSt x.st && placeNo x.psa x.ssec == placeNo srcPsa srcSsec + (x.start - e.start))
  setAll (here.map (fun x => { e.sub x.start x.len with heat := e.heat, gen := x.gen })) r.2

end Sys2Proof.Machine
end

