-- ==== Sys2Proof/Machine/Journal.lean ====
section
/-! DEFINITION. The intent journal (R383 to R387): units and records, their two copies in flash, sectors held, release,
replay. -/
namespace Sys2Proof.Machine

/-- Replaces the journal's state. -/
def State.setJr (s : State) (x : Journal) : State := s.setXlt { s.xlt with jr := x }

/-- Bytes 0 to 59 of a record whose JSN is still 0 (R383). -/
def recHead (type : Nat) (host cond : Bool) (nrec idx seq : Nat) (body src : List Nat) : List Nat :=
  [type, host.toNat * 2 + cond.toNat, nrec, idx] ++ bytesLE 6 seq ++ bytesLE 6 0 ++ (body ++ List.replicate 16 0).take 16 ++
    (src ++ List.replicate 4 0).take 4 ++ List.replicate 24 0

/-- A record with its JSN and CRC (R383). -/
def recFull (b : List Nat) (jsn : Nat) : List Nat :=
  let b := b.take 10 ++ bytesLE 6 jsn ++ b.drop 16
  b ++ bytesLE 4 (crc32c b)

/-- Number of the last sector held. -/
def jrLast (s : State) : Option JSector := s.xlt.jr.held.getLast?

/-- Byte offset of a record in copy `b` (R438). -/
def jrOff (b sec rec_ : Nat) : Nat := (if b = 0 then 0x300000 else 0x700000) + sec * 4096 + 64 * rec_

/-- A record goes to both copies, or the one that is left (R384, R386). -/
def jrProgram (s : State) (sec rec_ tag : Nat) (b : List Nat) : State :=
  let ws := flashWordsOf b
  let put := fun (s : State) (k : Nat) => if (s.bank k).failed then s else flcRequest s ⟨1, false, jrOff k sec rec_, ws, tag⟩
  put (put s 0) 1

/-- Erases a journal sector in both copies, ahead of its use (R386). -/
def jrErase (s : State) (sec : Nat) : State :=
  let put := fun (s : State) (k : Nat) => if (s.bank k).failed then s else flcRequest s ⟨1, true, jrOff k sec 0, [], 0⟩
  let s := put (put s 0) 1
  s.setJr { s.xlt.jr with dirty := s.xlt.jr.dirty.filter (· != sec) }

/-- A sector of another disc that is dropped is recorded (R402). -/
def jrForeign (s : State) (sec : Nat) : State :=
  match slotGood s (jrOff 0 sec 0) with
  | some h => if h.headD 0 = 0xF ∧ (h.drop 16).take 16 ≠ s.xlt.uuid then s.report pgXLT Config.droppedJournalCode 15 [sec] else s
  | none => s

/-- HELD, the copies in service and the next JSN follow the journal (R406). -/
def syncJrnl (s : State) : State :=
  let s := (s.setBit Reg.XLT_JRNL 8 (!(s.bank 0).failed)).setBit Reg.XLT_JRNL 9 (!(s.bank 1).failed)
  (s.setFld Reg.XLT_JRNL 0 7 s.xlt.jr.held.length).setReg Reg.XLT_JSN (Word.ofNat s.xlt.jr.jsn)

/-- Opens the next sector: its HDR record, and the erase of the sector two ahead (R386). -/
def jrOpen (s : State) (tag : Nat) : State :=
  let sec := match jrLast s with | some x => (x.sec + 1) % 64 | none => 0
  let s := if s.xlt.jr.dirty.contains sec then jrErase (jrForeign s sec) sec else s
  let hdr := recHead 0xF false false 1 0 0 s.xlt.uuid []
  let s := s.setJr { s.xlt.jr with held := s.xlt.jr.held ++ [⟨sec, s.xlt.jr.jsn⟩], next := 1, dirty := sec :: s.xlt.jr.dirty.filter (· != sec) }
  let s := jrProgram s sec 0 tag (recFull hdr s.xlt.jr.jsn)
  let ahead := (sec + 2) % 64
  if s.xlt.jr.dirty.contains ahead ∧ !s.xlt.jr.held.any (fun x => x.sec == ahead) then jrErase s ahead else s

/-- Programs records one after another (R386). -/
def jrRecords (tag : Nat) : List (List Nat) → State → State
  | [], s => s
  | b :: t, s =>
    let s := if s.xlt.jr.held.isEmpty ∨ 64 ≤ s.xlt.jr.next then jrOpen s tag else s
    match jrLast s with
    | none => s
    | some x =>
      let j := s.xlt.jr.jsn
      let s := jrProgram s x.sec s.xlt.jr.next tag (recFull b j)
      let held := s.xlt.jr.held.dropLast ++ [{ x with last := j }]
      jrRecords tag t (s.setJr { s.xlt.jr with jsn := (j + 1) % 2 ^ 48, next := s.xlt.jr.next + 1, held := held })

/-- Room for a unit without a 63rd sector (R386). -/
def jrRoom (s : State) (n : Nat) : Bool :=
  decide (s.xlt.jr.held.length < 62) || decide (s.xlt.jr.next + n ≤ 64)

/-- Units are given to FLC in order; at 62 sectors they wait (R384, R386). -/
def jrGive : Nat → State → State
  | 0, s => s
  | f + 1, s =>
    match s.xlt.jr.units.find? (fun u => !u.given) with
    | none => s
    | some u =>
      if jrRoom s u.recs.length then
        let s := s.setJr { s.xlt.jr with units := s.xlt.jr.units.map (fun x => if x.tag = u.tag then { x with given := true } else x) }
        jrGive f (jrRecords u.tag u.recs s)
      else if s.bit (Reg.IRQ_RAW pgXLT) 2 then s else (s.raise pgXLT 2).err pgXLT 0x1603 15

/-- A program of a unit failed: once nothing of the journal is under way, the units not yet durable are programmed again, in
their order and in a new sector (R384). -/
def jrRetry (s : State) : State :=
  let bad := fun (u : JUnit) => u.given && s.flash.ended.any (fun e => e.1 == 1 && e.2.1 == u.tag && !e.2.2)
  if s.xlt.jr.units.any bad ∧ !flcOutstanding s 1 (fun _ => true) then
    let s := s.setFlash { s.flash with ended := s.flash.ended.filter (fun e => e.1 != 1) }
    s.setJr { s.xlt.jr with next := 64, units := s.xlt.jr.units.map (fun (u : JUnit) => { u with given := false }) }
  else s

/-- The journal goes on. -/
def jrPump (s : State) : State := let s := jrRetry s; syncJrnl (jrGive (s.xlt.jr.units.length + 1) s)

/-- Commits a unit (R384). -/
def commitUnit (s : State) (what : UnitFor) (recs : List (List Nat)) : State :=
  let j := s.xlt.jr
  let s := s.setXlt { s.xlt with jr := { j with units := j.units ++ [⟨j.tagNext, what, recs, false⟩], tagNext := j.tagNext + 1 }, dirty := true }
  jrPump s

/-- A BRICK unit (R383, R389): the record with PINS 0 and the new state. -/
def commitBrick (s : State) (n st : Nat) : State :=
  let b := s.brick n
  commitUnit s (.brick n st) [recHead 3 false false 1 0 0 ({ b with st := st, pins := 0 }).bytes []]

/-- Releases the sectors whose records all precede a JSN (R386, R399). -/
def jrRelease (s : State) (jsn : Nat) : State :=
  let keep := s.xlt.jr.held.filter (fun x => decide (jsn ≤ x.last) || some x == jrLast s)
  jrPump (s.setJr { s.xlt.jr with held := keep })

/-- The unit whose last record is programmed in both copies, or in the one that is left (R384). -/
def unitDurable (s : State) : Option JUnit :=
  match s.xlt.jr.units with
  | u :: _ =>
    if u.given && !flcOutstanding s 1 (· == u.tag) && !s.flash.ended.any (fun e => e.1 == 1 && e.2.1 == u.tag && !e.2.2) &&
      !((s.bank 0).failed && (s.bank 1).failed) then some u else none
  | [] => none

/-- The last reserved mark (R387). -/
def seqMark (s : State) : Nat := (s.reg Reg.XLT_SEQRES_LO).toNat + s.fld Reg.XLT_SEQRES_HI 0 16 * 2 ^ 32

/-- XLT_SEQRES takes a mark. -/
def setMark (s : State) (m : Nat) : State :=
  (s.setReg Reg.XLT_SEQRES_LO (Word.ofNat (m % 2 ^ 32))).setReg Reg.XLT_SEQRES_HI (Word.ofNat (m / 2 ^ 32 % 65536))

/-- A mark found in the journal or in a checkpoint counts where it lies after the present one (R6, R387). -/
def noteMark (s : State) (m : Nat) : State := if seqMark s = 0 ∨ seqBefore (seqMark s) m then setMark s m else s

/-- When the next acceptance number reaches the mark, a SEQRES record with the mark plus 2^20 is committed (R387). -/
def seqReserve (s : State) : State :=
  let next := (s.reg Reg.HQ_SEQ_LO).toNat + s.fld Reg.HQ_SEQ_HI 0 16 * 2 ^ 32
  let waits := s.xlt.jr.units.any (·.what.isSeqres)
  if !waits ∧ !seqBefore next (seqMark s) then
    let m := (seqMark s + 2 ^ 20) % 2 ^ 48
    commitUnit s (.seqres m) [recHead 5 false false 1 0 0 (bytesLE 6 m) []]
  else s

/-! ## Replay -/

/-- A record of the journal from whichever copy reads with a good CRC (R386). -/
def jrRead (s : State) (sec rec_ : Nat) : Option (List Nat) :=
  let from_ := fun (k : Nat) => if (s.bank k).failed then none else slotGood s (jrOff k sec rec_)
  match from_ 0 with
  | some b => some b
  | none => from_ 1

/-- The records of a sector in order, up to the first that is bad or blank in both copies (R386). -/
def jrSector (s : State) (sec : Nat) : Nat → Nat → List (List Nat)
  | 0, _ => []
  | f + 1, k => match jrRead s sec k with
    | some b => b :: jrSector s sec f (k + 1)
    | none => []

/-- JSN of a record. -/
def recJsn (b : List Nat) : Nat := leNat ((b.drop 10).take 6)

/-- Puts a sector's records into a list in order of JSN. -/
def byJsn (x : Nat × List (List Nat)) : List (Nat × List (List Nat)) → List (Nat × List (List Nat))
  | [] => [x]
  | y :: t => if recJsn (x.2.headD []) < recJsn (y.2.headD []) then x :: y :: t else y :: byJsn x t

/-- The sectors of the journal that hold something, in order: number and data records; of one disc where asked (R386,
R402). -/
def jrFind (s : State) : List (Nat × List Nat × List (List Nat)) :=
  let secs := (List.range 64).filterMap (fun k => match jrRead s k 0 with
    | some h => if h.headD 0 = 0xF then some (k, h :: jrSector s k 63 1) else none
    | none => none)
  (secs.foldl (fun l x => byJsn x l) []).map (fun x => (x.1, ((x.2.headD []).drop 16).take 16, x.2.drop 1))

/-- The whole units of a list of records, in order: a unit with a missing record is discarded (R384). -/
def jrUnits : Nat → List (List Nat) → List (List (List Nat))
  | 0, _ => []
  | f + 1, l => match l with
    | [] => []
    | b :: _ =>
      let n := b.getD 2 0
      let u := l.take n
      if b.getD 3 0 = 0 ∧ 1 ≤ n ∧ u.length = n ∧ (List.range n).all (fun i => (u.getD i []).getD 3 0 == i) then
        u :: jrUnits f (l.drop n)
      else jrUnits f (l.drop 1)

/-- Applies one record at replay (R384, R385). -/
def jrApply (s : State) (b : List Nat) : State :=
  let body := (b.drop 16).take 16
  let w := leNat body
  match b.headD 0 with
  | 1 => match Ext.ofWord w with
    | some e =>
      if b.getD 1 0 % 2 = 1 then
        let src := leNat ((b.drop 32).take 4)
        setCond s e (src % 2 ^ 25) (src / 2 ^ 25 % 64)
      else setRange s e.start e.len (some e)
    | none => s
  | 2 => setRange s (w / 2 ^ 88) (w / 2 ^ 68 % 2 ^ 20) none
  | 3 =>
    let k := Brick.ofBytes body
    let n := (s.wenc.nbrick.take k.layer).sum + k.brick
    s.setBrick n { k with valid := (s.brick n).valid }
  | 5 => noteMark s (leNat (body.take 6))
  | _ => s

/-- The sectors that are not blank. -/
def jrDirty (s : State) : List Nat := (List.range 64).filter (fun k => (List.range 64).any (fun r => (jrRead s k r).isSome))

/-- The journal holds these sectors: it goes on after the last of them, with numbers above every one found (R383, R386). -/
def jrHold (s : State) (l : List (Nat × List Nat × List (List Nat))) : State :=
  let lastOf := fun (x : Nat × List Nat × List (List Nat)) => ((x.2.2.getLast?).map recJsn).getD 0
  let next := (l.getLast?.map (fun x => x.2.2.length + 1)).getD 64
  s.setJr { s.xlt.jr with
    held := l.map (fun x => (⟨x.1, lastOf x⟩ : JSector)), next := next, dirty := jrDirty s
    jsn := l.foldl (fun m x => if x.2.2.isEmpty then m else max m ((lastOf x + 1) % 2 ^ 48)) s.xlt.jr.jsn }

/-- What the drive finds in its journal at start-up: the last mark, whatever disc the sectors belong to, and where the journal
goes on (R6, R387). -/
def journalScan (s : State) : State :=
  let all := jrFind s
  let s := (all.flatMap (·.2.2)).foldl (fun s b => if b.headD 0 = 5 then noteMark s (leNat ((b.drop 16).take 6)) else s) s
  syncJrnl (jrHold s all)

end Sys2Proof.Machine
end

