-- ==== Sys2Proof/Machine/XltPlace.lean ====
section
/-! DEFINITION. Placement (R380 to R382, R403, R404), verdicts as XLT takes them, latches and commits of host commands
(R344, R346, R384). -/
namespace Sys2Proof.Machine

/-- An ERR_INFO code of XLT with its interrupt, and its count in XLT_CNT where it has one (R406). -/
def xltFault (s : State) (irq code : Nat) (cnt : Option Nat) : State :=
  let s := (s.raise pgXLT irq).err pgXLT code 15
  match cnt with
  | some lo => s.addSat Reg.XLT_CNT lo 8 1
  | none => s

/-! ## Staging slots (R381) -/

/-- A staging slot lies in a macro that has failed (R489). -/
def stagingLost (s : State) (k : Nat) : Bool :=
  macroFailed s (stagingAddr s k 0 0) || macroFailed s (stagingAddr s k 0 0 + 0x1FFFFF)

/-- Staging slots that neither XLT nor an arm holds, in sound memory (R489). -/
def freeStaging (s : State) : List Nat :=
  (List.range (s.fld Reg.WENC_STG_SLOTS 0 3)).filter (fun k =>
    !stagingLost s k && !s.xlt.slots.any (fun x => x.slot == k) && !s.wenc.held.contains k && !s.wenc.arms.any (fun a => a.slot == k))

/-- The slot a stream fills. -/
def fillSlot (s : State) (k : Nat) : Option XSlot :=
  s.xlt.slots.find? (fun x => x.kind == .stream k && x.phase == .filling)

/-- Data positions a stream can take now. -/
def roomFor (s : State) (k : Nat) : Nat :=
  ((fillSlot s k).map (fun x => 448 - x.used)).getD 0 + 448 * (freeStaging s).length

/-- Changes a staging slot XLT fills. -/
def updSlot (s : State) (k : Nat) (f : XSlot → XSlot) : State :=
  s.setXlt { s.xlt with slots := s.xlt.slots.map (fun x => if x.slot = k then f x else x) }

/-- A slot that begins to fill. -/
def freshSlot (now k : Nat) (kind : SlotKind) : XSlot := ⟨k, kind, .filling, 0, [], none, 0, 0, false, [], 0, now⟩

/-- Opens a slot for a stream or a checkpoint: the lowest that is free. -/
def openSlot (s : State) (kind : SlotKind) : State :=
  match (freeStaging s).head? with
  | some k => s.setXlt { s.xlt with slots := s.xlt.slots ++ [freshSlot s.ticks k kind] }
  | none => s

/-- Puts a block at a stream's next data position (R381). -/
def placeItem (k : Nat) (s : State) (it : XItem) : State :=
  let s := if (fillSlot s k).isSome then s else openSlot s (.stream k)
  match fillSlot s k with
  | some x => updSlot s x.slot (fun y => { y with
      used := y.used + 1, items := y.items ++ [{ it with d := y.used }], phase := if y.used + 1 = 448 then .waiting else .filling })
  | none => s

/-- Address of a data position in its staging slot. -/
def itemAddr (s : State) (slot d : Nat) : Nat := stagingAddr s slot (d / 56) (d % 56)

/-- Data of a block arrives (R12, R381): it goes to the block's place in staging. -/
def stageData (s : State) (seq lba off : Nat) (bs : List Nat) : State :=
  match s.xlt.slots.findSome? (fun x => (x.items.find? (fun i => i.seq == some seq && i.lba == lba)).map (fun i => (x.slot, i.d))) with
  | some q => memWrite s .hdma (itemAddr s q.1 q.2 + off) bs
  | none => s

/-- Blocks whose data is all there count as staged. -/
def markStaged (s : State) (seq slba : Nat) : State :=
  let due := s.pcie.reads.flatMap (fun r => if r.what = .data seq then [slba + r.off / 4096, slba + (r.off + r.len - 1) / 4096] else [])
  s.setXlt { s.xlt with slots := s.xlt.slots.map (fun x => { x with
    items := x.items.map (fun i => if i.seq = some seq ∧ !due.contains i.lba then { i with staged := true } else i) }) }

/-! ## Streams and bricks (R380) -/

/-- The brick of a list that a stream opens: the hot stream the least worn, the cold stream the most worn; the lowest layer
and brick on a tie. -/
def pickBrick (s : State) (hot : Bool) (l : List Nat) : Option Nat :=
  l.foldl (fun b n => match b with
    | none => some n
    | some m => if (if hot then (s.brick n).rst < (s.brick m).rst else (s.brick m).rst < (s.brick n).rst) then some n else some m) none

/-- A stream's slot may open a brick: above GCRSV any, at GCRSV or fewer one that holds a copy; on VAD-WO while one is FREE
(R390, R396, R398). -/
def mayOpen (s : State) (x : XSlot) : Bool :=
  let free := (bricksIn s 0).length
  if s.xlt.rw then decide (s.fld Reg.MEDM_GC 16 8 < free) || (decide (0 < free) && x.items.any (fun i => i.src.isSome))
  else decide (0 < free)

/-- A stream opens a FREE brick, and the opening is journaled (R380, R388). -/
def openBrick (s : State) (k n : Nat) : State :=
  let s := s.updBrick n (fun b => { b with st := 1, stream := k, rej := 0 })
  syncPool (commitBrick (s.setXlt { s.xlt with openBrick := s.xlt.openBrick.set k (some n) }) n 1)

/-- The OPEN brick with room that a stream has, other than some: its present one first (R380, R382). -/
def streamBrick (s : State) (k : Nat) (but : List Nat) : Option Nat :=
  let good := fun (n : Nat) => decide ((s.brick n).st = 1) && decide ((s.brick n).front < 128) && !but.contains n
  match s.xlt.openBrick.getD k none with
  | some n => if good n then some n else (bricksIn s 1).find? (fun m => good m && (s.brick m).stream == k)
  | none => (bricksIn s 1).find? (fun m => good m && (s.brick m).stream == k)

/-- A brick leaves OPEN as FULL (R381, R395). -/
def brickFull (s : State) (n : Nat) : State :=
  let s := s.updBrick n (fun b => { b with st := 2, stream := 2 })
  s.setXlt { s.xlt with openBrick := s.xlt.openBrick.map (fun o => if o = some n then none else o) }

/-- A retirement condition holds for a brick (R395). -/
def mustRetire (s : State) (n : Nat) : Bool :=
  let b := s.brick n
  decide (s.fld Reg.MEDM_RET 0 4 ≤ b.rej) || decide (s.fld Reg.MEDM_RET 8 4 ≤ b.unrec + s.xlt.cls3.count n)

/-- A brick that meets a condition is queued for retirement; an OPEN one becomes FULL at once (R395). -/
def checkRetire (s : State) (n : Nat) : State :=
  let st := (s.brick n).st
  if mustRetire s n ∧ (st = 1 ∨ st = 2) ∧ !s.xlt.retire.contains n then
    let s := if st = 1 then brickFull s n else s
    s.setXlt { s.xlt with retire := s.xlt.retire ++ [n] }
  else s

/-! ## Arming (R381, R382, R393) -/

/-- Bytes of a descriptor (R118). -/
def descBytes (stype lba : Nat) (lbav uf ul rp : Bool) (seq ucnt : Nat) : List Nat :=
  bytesLE 5 lba ++ [stype * 16 + lbav.toNat * 8 + uf.toNat * 4 + ul.toNat * 2 + rp.toNat] ++ bytesLE 6 seq ++ bytesLE 2 ucnt ++ [0, 0]

/-- The descriptor table of a slot: DATA or META where a position is taken, GROUT elsewhere (R381, R400). -/
def slotTable (x : XSlot) : List Nat :=
  (List.range 448).flatMap (fun d =>
    match x.kind with
    | .ckpt st => if d < x.used then descBytes st 0 false false false false 0 0 else descBytes 2 0 false false false false 0 0
    | .stream _ => match x.items.find? (fun i => i.d == d) with
      | some i => descBytes 0 i.lba true i.ufirst i.ulast x.rplc i.seqv i.ucnt
      | none => descBytes 2 0 false false false false 0 0)

/-- The arm of a slot for a brick's next group. -/
def slotArm (s : State) (x : XSlot) (n : Nat) : Arm :=
  let b := s.brick n
  { psa := groupPsa s n b.front, desc := 0, slot := x.slot, order := 0,
    chan := (chanInService s 0).toNat + 2 * (chanInService s 1).toNat, test := false, rpln := x.rpln, rst := b.rst, tag := x.slot,
    parity := false, passes := 0, off := 0, offs := [], running := false, go := false, t0 := 0, tfs := 0, step := 0, tbl := slotTable x }

/-- The next brick of a stream for a slot, with the state in which the stream has opened it: none that took four arms of the
slot. A brick that such a slot leaves stays OPEN for later groups (R382). -/
def nextBrick (s : State) (x : XSlot) (k : Nat) : Option Nat × State :=
  match streamBrick s k x.bricks with
  | some n => (some n, s)
  | none =>
    if mayOpen s x then
      match pickBrick s (k == 0) (bricksIn s 0) with
      | some n =>
        let old := streamBrick s k []
        let s := openBrick s k n
        (some n, if old.isSome then s.setXlt { s.xlt with openBrick := s.xlt.openBrick.set k old } else s)
      | none => (none, s)
    else (none, s)

/-- The brick a waiting slot goes to: its own while that takes groups, else the stream's next one. -/
def slotBrick (s : State) (x : XSlot) : Option Nat × State :=
  let own := x.brick.filter (fun n =>
    let b := s.brick n
    decide (b.front < 128) && (b.st == 1 || b.st == 9 || b.st == 10))
  match own, x.kind with
  | some n, _ => (some n, s)
  | none, .stream k => nextBrick s x k
  | none, .ckpt _ => (none, s)

/-- Arms a waiting slot, where WENC takes the arm and no reset segment runs (R119, R381, R393). -/
def armSlot (s : State) (x : XSlot) : State :=
  let r := slotBrick s x
  match r.1 with
  | none => r.2
  | some n =>
    let s := r.2
    -- RPLN counts within the present brick (R139)
    let rpln := if x.brick = some n then x.rpln else 0
    let a := slotArm s { x with rpln := rpln } n
    if armOk s a a.tbl then
      let g := (s.brick n).front
      let s := putArm s a
      let s := updSlot s x.slot (fun y => { y with phase := .armed, brick := some n, group := g, rpln := rpln })
      let s := s.updBrick n (fun b => { b with front := g + 1 })
      if g + 1 = 128 ∧ (s.brick n).st = 1 then brickFull s n else s
    else s

/-- A reset segment runs (R393). -/
def resetRuns (s : State) : Bool := (s.xlt.reset.map (·.running)).getD false

/-- Arms the waiting slots in their order, none before an earlier one of its stream; `stuck` are the streams that wait (R381). -/
def armFrom : List XSlot → List SlotKind → State → State
  | [], _, s => s
  | x :: t, stuck, s =>
    if x.phase ≠ .waiting ∨ stuck.contains x.kind then armFrom t stuck s
    else if resetRuns s ∨ 2 ≤ s.wenc.arms.length then s
    else
      let u := if x.items.all (·.staged) then armSlot s x else s
      if u.xlt.slots.any (fun y => y.slot == x.slot && y.phase == .armed) then armFrom t stuck u else armFrom t (x.kind :: stuck) u

/-- Waiting slots are armed. -/
def armWaiting (s : State) : State := armFrom s.xlt.slots [] s

/-! ## Verdicts (R138, R139, R382, R397) -/

/-- A slot is free again. -/
def dropSlot (s : State) (k : Nat) : State :=
  let s := s.setXlt { s.xlt with slots := s.xlt.slots.filter (fun x => x.slot != k) }
  s.setW { s.wenc with held := s.wenc.held.filter (· != k) }

/-- A copied block as one COND piece, its source with it. -/
structure CondPiece where
  e : Ext
  src : Nat
  deriving DecidableEq, Repr

/-- Adds a copied block to the pieces before it (R384, R385). -/
def addCond (s0psa : Nat) (l : List CondPiece) (i : XItem) : List CondPiece :=
  match i.src with
  | none => l
  | some q =>
    let p := s0psa + i.d / 56
    let x : CondPiece := ⟨⟨i.lba, 1, p, i.d % 56, 1, i.heat, i.gen⟩, placeNo q.1 q.2⟩
    match l.getLast? with
    | some y =>
      if y.src + y.e.len = x.src ∧ y.src / 56 / 1024 = x.src / 56 / 1024 then
        match extMerge y.e x.e with
        | some m => l.dropLast ++ [{ y with e := m }]
        | none => l ++ [x]
      else l ++ [x]
    | none => l ++ [x]

/-- The record of a COND piece (R383). -/
def condRecord (n i : Nat) (p : CondPiece) : List Nat :=
  recHead 1 false true n i 0 (bytesLE 16 p.e.word) (bytesLE 4 (p.src % 56 * 2 ^ 25 + p.src / 56 % 2 ^ 25))

/-- The copies of an accepted group are committed, at most 255 pieces to a unit, and applied (R384, R385, R391). -/
def commitCopies (s : State) (psa : Nat) (l : List XItem) : State :=
  (chunks 255 2 (l.foldl (addCond psa) [])).foldl (fun s ps =>
    if ps.isEmpty then s
    else
      let s := commitUnit s .copy (ps.zipIdx.map (fun q => condRecord ps.length q.2 q.1))
      ps.foldl (fun s (p : CondPiece) => setCond s p.e (p.src / 56) (p.src % 56)) s) s

/-- A group is ACCEPTED: its blocks are placed (R138, R346). -/
def slotAccepted (s : State) (x : XSlot) (psa : Nat) : State :=
  let s := x.items.foldl (fun s i => match i.seq with
    | some q => s.updCtx q (fun c => { c with placed := c.placed ++ [(i.lba, psa + i.d / 56, i.d % 56)] })
    | none => s) s
  let s := commitCopies s psa x.items
  let s := if x.items.any (·.src.isSome) then s.setXlt { s.xlt with job := s.xlt.job.map (fun j => { j with groups := j.groups + 1 }) } else s
  let s := match x.kind with
    | .ckpt _ => s.setXlt { s.xlt with ckpt := s.xlt.ckpt.map (fun c => { c with left := c.left - 1 }) }
    | .stream _ => s
  dropSlot s x.slot

/-- A slot used up its four arms in each of 3 bricks: Write Fault for each command in it (R382). -/
def slotGivenUp (s : State) (x : XSlot) : State :=
  let s := xltFault s 4 0x1605 (some 0)
  let s := x.items.foldl (fun s i => match i.seq with
    | some q => failCmd s q stWriteFault 0 i.lba
    | none => s) s
  dropSlot s x.slot

/-- A group of a checkpoint used up its four arms in a brick: the checkpoint is to go to another brick, as a whole (R139). What of
it is not armed yet is dropped. -/
def ckptMoves (s : State) : State :=
  let s := s.setXlt { s.xlt with ckpt := s.xlt.ckpt.map (fun c => { c with moves := true, sectors := [] }) }
  (s.xlt.slots.filter (fun x => x.kind.isCkpt && x.phase != .armed)).foldl (fun s x => dropSlot s x.slot) s

/-- A group is REJECTED or VOID (R139, R382). -/
def slotRejected (s : State) (x : XSlot) (v : VerdictIn) : State :=
  match x.brick with
  | none => s
  | some n =>
    let counted := v.verdict == 2 || !(v.cause == 1 || v.cause == 4 || v.cause == 6)
    let s := if counted then s.updBrick n (fun b => { b with rej := min 15 (b.rej + 1) }) else s
    let s := checkRetire s n
    if x.rpln < 3 then updSlot s x.slot (fun y => { y with phase := .waiting, rpln := y.rpln + 1, rplc := true })
    else match x.kind with
      | .ckpt _ => ckptMoves (dropSlot s x.slot)
      | .stream _ =>
        if x.bricks.length + 1 = 3 then slotGivenUp s x
        else updSlot s x.slot (fun y => { y with phase := .waiting, rpln := 0, rplc := true, bricks := n :: y.bricks, brick := none })

/-- A group ended NOTSTARTED: FRONT goes back to it; the third time the brick is FULL there (R381),
and a checkpoint moves to another brick. -/
def slotNotStarted (s : State) (x : XSlot) : State :=
  match x.brick with
  | none => s
  | some n =>
    let s := s.updBrick n (fun b => { b with front := min b.front x.group, st := if b.front = 128 ∧ b.st = 2 then 1 else b.st })
    let k := x.nostart + 1
    if k = 3 ∧ x.kind.isCkpt then ckptMoves (dropSlot s x.slot)
    else if k = 3 then
      let s := commitBrick (brickFull s n) n 2
      updSlot s x.slot (fun y => { y with phase := .waiting, nostart := 0, brick := none })
    else updSlot s x.slot (fun y => { y with phase := .waiting, nostart := k })

/-- Both test bricks of a layer are used up (R47). -/
def testsUsed (s : State) (layer : Nat) : Bool :=
  let n := (s.wenc.nbrick.take layer).sum
  [n, n + 1].all (fun k => decide ((s.brick k).st = 8) && decide ((s.brick k).front = 128))

/-- A group of a test brick is used: FRONT moves past it. With the last one of a VAD-WO layer XLT warns by a record (R47; its code is
the model's, log 122). -/
def testUsed (s : State) (psa : Nat) : State :=
  let n := brickNo s psa
  let lay := psaLayer psa
  if (s.brick n).st ≠ 8 then s
  else
    let s := s.updBrick n (fun b => { b with front := min 128 (max b.front (groupOf psa + 1)) })
    if !s.xlt.rw ∧ testsUsed s lay ∧ !s.xlt.noTests.contains lay then
      (s.setXlt { s.xlt with noTests := lay :: s.xlt.noTests }).report pgDRAW Config.testsUsedUpCode 15 [lay]
    else s

/-- XLT takes a verdict (R47, R382, R397). -/
def takeVerdict (s : State) (v : VerdictIn) : State :=
  let s := if v.verdict ≠ 4 ∧ mounted s then testUsed s v.psa else s
  let s := if v.verdict = 1 ∧ mounted s then s.updBrick (brickNo s v.psa) (fun b => { b with cls1 := min 65535 (b.cls1 + v.weak) }) else s
  if !v.own then s
  else match s.xlt.slots.find? (fun x => x.slot == v.slot && x.phase == .armed) with
    | none => s
    | some x =>
      if x.kind.isCkpt ∧ (s.xlt.ckpt.map (·.moves)).getD false then dropSlot s x.slot
      else if v.verdict = 1 then slotAccepted s x v.psa
      else if v.verdict = 2 ∨ v.verdict = 3 then slotRejected s x v
      else slotNotStarted s x

/-- XLT takes the verdicts DRAW has given. -/
def takeVerdicts (s : State) : State :=
  let l := s.wenc.toXlt
  l.foldl takeVerdict (s.setW { s.wenc with toXlt := [] })

/-! ## Latches and commits of host commands (R344, R346, R384) -/

/-- The placed pieces of a Write, in order of block (R384). -/
def placedExts (c : Ctx) : List Ext :=
  (List.range c.nlb).foldl (fun l i =>
    match c.placed.find? (fun p => p.1 == c.slba + i) with
    | none => l
    | some p =>
      let x : Ext := ⟨p.1, 1, p.2.1, p.2.2, 1, c.heat, c.gen⟩
      match l.getLast? with
      | some y => match extMerge y x with
        | some m => l.dropLast ++ [m]
        | none => l ++ [x]
      | none => l ++ [x]) []

/-- A range in pieces a record can name (R373, R384). -/
def longRange (a n : Nat) : List (Nat × Nat) :=
  (List.range ((n + 1048574) / 1048575)).map (fun i => (a + 1048575 * i, min 1048575 (n - 1048575 * i)))

/-- What a host command's unit sets: ranges with their new extent, or none for a hole (R384). -/
def unitRanges (c : Ctx) : List (Nat × Nat × Option Ext) :=
  if c.opc = 0x01 then (placedExts c).map (fun e => (e.start, e.len, some e))
  else if c.opc = 0x08 then
    if c.f 12 25 1 = 1 then [(c.slba, c.nlb, none)] else [(c.slba, c.nlb, some ⟨c.slba, c.nlb, 0, 0, 2, c.heat, c.gen⟩)]
  else (dsmRanges c).flatMap (fun r => (longRange r.1 r.2).map (fun q => (q.1, q.2, none)))

/-- The record of a range (R383). -/
def rangeRecord (seq n i : Nat) (r : Nat × Nat × Option Ext) : List Nat :=
  match r.2.2 with
  | some e => recHead 1 true false n i seq (bytesLE 16 e.word) []
  | none => recHead 2 true false n i seq (bytesLE 16 (r.1 % 2 ^ 40 * 2 ^ 88 + r.2.1 % 2 ^ 20 * 2 ^ 68)) []

/-- Commits a latched command: its unit enters the journal and the map changes (R346, R384). -/
def commitHost (s : State) (c : Ctx) : State :=
  let rs := unitRanges c
  let us := chunks 255 (rs.length / 255 + 1) rs
  let s := (us.filter (fun u => !u.isEmpty)).zipIdx.foldl (fun s q =>
    commitUnit s (if q.2 + 1 = (us.filter (fun u => !u.isEmpty)).length then .host c.seq else .copy)
      (q.1.zipIdx.map (fun r => rangeRecord c.seq q.1.length r.2 r.1))) s
  rs.foldl (fun s r => setRange s r.1 r.2.1 r.2.2) s

/-- A unit of a command is in the journal. -/
def unitWaits (s : State) (seq : Nat) : Bool := s.xlt.jr.units.any (fun u => decide (u.what = .host seq))

/-- A command latched whose unit is not yet committed. -/
def Ctx.uncommitted (s : State) (c : Ctx) : Bool := c.modifying && c.phase == .latched && !unitWaits s c.seq

/-- An earlier overlapping modifying command has neither committed nor failed (R344). -/
def blockedBy (s : State) (c : Ctx) : Bool :=
  s.hq.ctx.any (fun e => seqBefore e.seq c.seq && (e.pendingMod || e.uncommitted s) && overlap e c)

/-- A latched command whose turn has come is committed; a command with no range to change is done (R344, R356). -/
def commitOne (s : State) (seq : Nat) : State :=
  match s.ctx seq with
  | some c =>
    if c.uncommitted s ∧ !blockedBy s c then
      if (unitRanges c).isEmpty then finish s seq stOk 0 0 else commitHost s c
    else s
  | none => s

/-- Latched commands are committed in the order of their numbers (R344, R491). -/
def commitLatched (s : State) : State := (s.hq.ctx.map (·.seq)).foldl commitOne s

/-- A Write whose blocks all lie in ACCEPTED groups latches (R346). -/
def latchWrite (c : Ctx) : Ctx :=
  if !c.admin ∧ c.opc = 0x01 ∧ c.phase = .running ∧ c.placed.length = c.nlb then { c with phase := .latched } else c

/-- Writes that are placed latch. -/
def latchWrites (s : State) : State := s.setHq { s.hq with ctx := s.hq.ctx.map latchWrite }

/-! ## Placing a modifying command (R380, R381, R403, R404) -/

/-- Contexts a command's unit may need: pieces plus 2 (R403). -/
def contextsNeeded (s : State) (a n : Nat) : Nat := (lookup s a n).1.1.length + 2

/-- Modifying commands that hold a reservation: placed or latched, not committed (R403). -/
def reserved (s : State) : Nat :=
  (s.hq.ctx.filter (fun c => c.uncommitted s || (c.modifying && c.phase == .running && !c.placed.isEmpty) ||
    s.xlt.slots.any (fun x => x.items.any (fun i => i.seq == some c.seq)))).length

/-- A reservation succeeds: one free leaf for each command that holds one, and contexts (R403). -/
def canReserve (s : State) (a n : Nat) : Bool :=
  let free := 65536 - s.fld Reg.XLT_LEAF 0 17
  decide (reserved s < free) && decide (contextsNeeded s a n ≤ 16 * (free - reserved s))

/-- Heat and GEN of a modifying command (R373, R380). -/
def heatOf (s : State) (l : List Ext) : Nat × Nat :=
  let p := l.filter (fun e => placedSt e.st)
  let h := match p with
    | [] => s.fld Reg.XLT_CFG 4 2
    | _ => min 3 (p.foldl (fun m e => max m e.heat) 0 + 1)
  (h, min 4095 (l.foldl (fun m e => max m e.gen) 0 + 1))

/-- The stream of a heat (R380). -/
def streamOf (s : State) (h : Nat) : Nat := if s.fld Reg.XLT_CFG 0 2 ≤ h then 0 else 1

/-- The stream's next group needs another brick. -/
def needsBrick (s : State) (k : Nat) : Bool :=
  let waiting := (s.xlt.slots.filter (fun x => x.kind == .stream k && x.phase != .armed)).length
  match streamBrick s k [] with
  | some n => decide (128 ≤ (s.brick n).front + waiting)
  | none => true

/-- No space can be freed (R404). -/
def capacityGone (s : State) (k : Nat) : Bool :=
  needsBrick s k && (if s.xlt.rw then
    decide ((bricksIn s 0).length ≤ s.fld Reg.MEDM_GC 16 8) && !(bricksIn s 2).any (fun n => decide ((s.brick n).valid ≤ 56896))
  else (bricksIn s 0).isEmpty)

/-- A write completes with Capacity Exceeded, with nothing placed (R403, R404). -/
def capacityFail (s : State) (seq lba : Nat) : State :=
  failCmd (xltFault s 5 0x1604 (some 8)) seq stCapacity 0 lba

/-- A Write has been given places. -/
def hasPlaces (s : State) (c : Ctx) : Bool :=
  !c.placed.isEmpty || s.xlt.slots.any (fun x => x.items.any (fun i => i.seq == some c.seq))

/-- A command waits to be placed or, without data to place, to take its latch. -/
def wantsPlace (s : State) (c : Ctx) : Bool :=
  c.modifying && c.phase == .running && !hasPlaces s c &&
    (if c.opc = 0x01 then c.prpNext.isNone && decide (c.nlb * 4096 ≤ (c.pages.map (fun p => 4096 - p % 4096)).sum)
     else if c.opc = 0x09 then (dsmRanges c).length == c.f 10 0 8 + 1 && !s.pcie.reads.any (fun r => decide (r.what = .data c.seq)) else true)

/-- The blocks of a Write as positions of a group (R381). -/
def writeItems (c : Ctx) : List XItem :=
  (List.range c.nlb).map (fun i => ⟨0, c.slba + i, some c.seq, c.seq, i == 0, i + 1 == c.nlb, c.nlb, false, none, 0, 0⟩)

/-- Places one command; true where later ones may be placed too (R381, R403, R404). -/
def placeOne (s : State) (c : Ctx) : State × Bool :=
  let rs := c.ranges
  let r := rs.foldl (fun (x : (List Ext × Option Nat) × State) q =>
    let y := lookup x.2 q.1 q.2
    ((x.1.1 ++ y.1.1, x.1.2 <|> y.1.2), y.2)) (([], none), s)
  match r.1.2 with
  | some leaf => (if c.heldBy = some leaf then s else r.2.updCtx c.seq (fun c => { c with heldBy := some leaf }), true)
  | none =>
    let s := s.updCtx c.seq (fun c => { c with heldBy := none })
    if !rs.all (fun q => canReserve s q.1 q.2) then
      ((s.updCtx c.seq (fun c => if c.mergeWait then c else { c with mergeWait := true, mergeAt := s.ticks })), true)
    else
      let h := heatOf s r.1.1
      let set := fun (c : Ctx) => { c with heat := h.1, gen := h.2, mergeWait := false }
      if c.opc = 0x01 then
        let k := streamOf s h.1
        if capacityGone s k then (capacityFail s c.seq c.slba, true)
        else if roomFor s k < c.nlb then (s, false)
        else
          let s := (writeItems c).foldl (placeItem k) (s.updCtx c.seq set)
          (fetchPages s (.data c.seq) c.pages 0 (c.nlb * 4096), true)
      else (s.updCtx c.seq (fun c => { set c with phase := .latched }), true)

/-- Places the commands in the order of acceptance: none before an earlier Write that is not yet placed, unless that waits
for merging or for a leaf (R381). -/
def placeAll : List Nat → State → State
  | [], s => s
  | q :: t, s =>
    match s.ctx q with
    | none => placeAll t s
    | some c =>
      if wantsPlace s c then
        let r := placeOne s c
        if r.2 then placeAll t r.1 else r.1
      else if c.modifying ∧ c.opc = 0x01 ∧ (c.phase = .accepted ∨ (c.phase = .running ∧ !hasPlaces s c)) then s
      else placeAll t s

/-- Commands that wait are placed. -/
def placeCommands (s : State) : State := placeAll (s.hq.ctx.map (·.seq)) s

/-- A stream's partly filled slot is to be armed (R381). -/
def closeSlot (s : State) (k : Nat) : State :=
  match fillSlot s k with
  | some x => updSlot s x.slot (fun y => { y with phase := .waiting })
  | none => s

end Sys2Proof.Machine
end

