-- ==== Sys2Proof/Machine/Medm.lean ====
section
/-! DEFINITION. Reads that XLT and MEDM arm for commands, jobs and verifies (R379), recovery classes and refresh (R397),
garbage collection, wear levelling and merging (R390, R391, R394, R403), resets (R393), retirement (R395, R396). -/
namespace Sys2Proof.Machine

/-! ## Group reads (R102, R379) -/

/-- Tags of the read arms of XLT: foreground, and patrol for a verify (R112, R364). -/
def ownTag : Nat := 2 ^ 32
def patrolTag : Nat := 2 ^ 32 + 1

/-- Strip of a block of a piece or an extent. -/
def stripOf (psa ssec k : Nat) : Nat := psa + (ssec + k) / 56

/-- Blocks of a snapshot that come from the disc and are not delivered yet: block, strip, sector index (R379). -/
def dueBlocks (c : Ctx) : List (Nat × Nat × Nat) :=
  if c.phase ≠ .running then [] else
  (c.snap.getD []).flatMap (fun p =>
    if p.st = 1 ∨ p.st = 3 then
      (List.range p.len).filterMap (fun k =>
        if c.sent.contains (p.lba + k) then none else some (p.lba + k, stripOf p.psa p.ssec k, (p.ssec + k) % 56))
    else [])

/-- Strips some command or job waits for. -/
def foreStrips (s : State) : List Nat :=
  s.hq.ctx.flatMap (fun c => (dueBlocks c).map (·.2.1)) ++ ((s.xlt.job.map (·.todo)).getD []).map (·.2.1)

/-- Strips a running verify still reads, the next group of them (R364). -/
def verifyStrips (s : State) : List Nat := if s.hq.verify.st = 1 then
    let l := s.hq.verify.todo
    l.filter (fun p => p / 8 == l.headD 0 / 8)
  else []

/-- Mask of the strips of a group in a list. -/
def stripMask (g : Nat) (l : List Nat) : Nat := ((List.range 8).map (fun i => if l.contains (8 * g + i) then 2 ^ i else 0)).sum

/-- Arms a group read for the strips of a list, one group at a time, unless one is armed for it already (R379). -/
def armReads (tag : Nat) (patrol : Bool) : List Nat → State → State
  | [], s => s
  | p :: t, s =>
    if s.rd.groups.any (fun g => g.psa / 8 == p / 8) ∨ !readArmOk s then armReads tag patrol t s
    else armReads tag patrol t (readArm s (p / 8 * 8) tag (stripMask (p / 8) (p :: t)) patrol)

/-- A group of XLT serves nothing any longer: every wanted strip has ended, or nobody waits for it and it is not on the
ladder, which goes on to its end (R110). -/
def groupServed (s : State) (g : GroupRead) : Bool :=
  let due := if g.tag = patrolTag then verifyStrips s else foreStrips s
  (List.range 8).all (fun i => !g.wanted.testBit i || ((g.strips.getD i freshStrip).ended).isSome ||
    (!due.contains (g.psa + i) && (g.strips.getD i freshStrip).rung == 0))

/-- XLT's groups that have served go, and their strip slots are free again. -/
def dropServed (s : State) : State :=
  s.rd.groups.foldl (fun s g =>
    if (g.tag = ownTag ∨ g.tag = patrolTag) ∧ groupServed s g then releaseStrips s (fun k => g.slots.contains k) else s) s

/-- A block of an armed group (R93, R379): not there yet, unrecovered, uncorrectable in memory (R419), or its bytes. -/
inductive BlockRead where
  | waits | lost | again | here (bytes : List Nat)
  deriving DecidableEq, Repr

/-- What an armed group holds of a block. -/
def readBlock (s : State) (psa i : Nat) : BlockRead :=
  match groupRead s psa, stripRead s psa with
  | some g, some t =>
    if g.tag = ownTag ∧ g.wanted.testBit (psa % 8) then
      if t.fins.getD i none = some .good ∨ t.ended = some true then
        let r := memRead s .cdma (stripSlotAddr s g psa i) 4096
        if r.2.1 then .again else .here r.1
      else if t.ended = some false then .lost else .waits
    else .waits
  | _, _ => .waits

/-- A block whose bytes are uncorrectable in memory: MEMC reports it, and its group is read again from the disc (R419). -/
def readAnew (s : State) (psa i : Nat) : State :=
  match groupRead s psa with
  | some g =>
    let s := (memRead s .cdma (stripSlotAddr s g psa i) 4096).2.2
    releaseStrips s (fun k => g.slots.contains k)
  | none => s

/-! ## Extents by place -/

/-- The placed extents of the table with a block in `n` places from `lo` on. -/
def extentsAt (s : State) (lo n : Nat) : List Ext :=
  ((lookup s 0 (2 ^ 40)).1.1).filter (fun e => placedSt e.st && decide (placeNo e.psa e.ssec < lo + n) &&
    decide (lo < placeNo e.psa e.ssec + e.len))

/-- The parts of the placed extents inside places `lo` to `lo + n` − 1. -/
def partsAt (s : State) (lo n : Nat) : List Ext :=
  (extentsAt s lo n).flatMap (fun e =>
    let p := placeNo e.psa e.ssec
    e.clip (e.start + (lo - p)) (e.start + min e.len (lo + n - p)))

/-- Extents take another state by a unit of MAP records (R379, R384, R397). -/
def markExts (s : State) (l : List Ext) (st : Nat) : State :=
  let l := (l.filter (fun e => e.st != st && e.st != 4)).map (fun e => { e with st := st })
  (chunks 255 (l.length / 255 + 1) l).foldl (fun s es =>
    if es.isEmpty then s
    else setAll es (commitUnit s .copy (es.zipIdx.map (fun q => recHead 1 false false es.length q.2 0 (bytesLE 16 q.1.word) [])))) s

/-- What becomes of the blocks of a strip that was left unrecovered: UNREC where rung 5 ran with every rung enabled and
TMAX did not end the ladder, else MOVE (R379). -/
def lostState (s : State) (t : StripRead) : Nat :=
  if t.highest = 5 ∧ !t.tmaxHit ∧ (List.range 5).all (fun k => s.bit Reg.DET_RETRY (24 + k)) then 4 else 3

/-- The blocks of an unrecovered strip that were not GOOD change state (R379). -/
def markLost (s : State) (psa : Nat) : State :=
  match stripRead s psa with
  | some t =>
    let is := (stripErasures t).filter (fun i => decide (i < 56))
    markExts s (is.flatMap (fun i => partsAt s (placeNo psa i) 1)) (lostState s t)
  | none => s

/-! ## Recovery records (R397) -/

/-- A strip of class 2 or 3: its extents become MOVE and it is queued for refresh (R397). -/
def refreshStrip (s : State) (psa : Nat) (first : Bool) : State :=
  let s := markExts s (partsAt s (placeNo psa 0) 56) 3
  if s.xlt.refresh.contains (psa, first) then s else s.setXlt { s.xlt with refresh := s.xlt.refresh ++ [(psa, first)] }

/-- XLT takes a recovery record (R111, R397); a verify counts it (R367). -/
def takeRecovery (s : State) (rcd : List Nat) : State :=
  let psa := leNat (rcd.take 4) % 2 ^ 25
  let b4 := rcd.getD 4 0
  let fail := b4.testBit 7
  let cls := b4 / 16 % 8
  let noMargin := (rcd.getD 7 0).testBit 0
  if !mounted s then s
  else
    let n := brickNo s psa
    let s := if fail ∨ 2 ≤ cls then s.setHq { s.hq with verify := { s.hq.verify with
      found := s.hq.verify.found + (if s.hq.verify.st = 1 ∧ s.hq.verify.todo.contains psa then 1 else 0) } } else s
    if fail ∨ noMargin ∨ cls = 3 then
      let s := s.updBrick n (fun b => { b with cls23 := min 255 (b.cls23 + 1), unrec := if fail then min 255 (b.unrec + 1) else b.unrec })
      let s := if fail then markLost s psa else s.setXlt { s.xlt with cls3 := n :: s.xlt.cls3 }
      checkRetire (refreshStrip s psa true) n
    else if cls = 2 then
      let s := s.updBrick n (fun b => { b with cls23 := min 255 (b.cls23 + 1) })
      refreshStrip (s.setXlt { s.xlt with cls2 := n :: s.xlt.cls2 }) psa false
    else if cls = 1 then s.updBrick n (fun b => { b with cls1 := min 65535 (b.cls1 + 1) })
    else s

/-- XLT takes the recovery records DET has written. -/
def takeRecoveries (s : State) : State :=
  let l := s.rd.toXlt
  l.foldl takeRecovery (s.setRd { s.rd with toXlt := [] })

/-! ## Jobs (R390, R391, R394, R397, R403) -/

/-- Blocks of extents that can be copied: block, strip, data index. -/
def copyList (l : List Ext) : List (Nat × Nat × Nat) :=
  (l.filter (fun e => e.st == 1 || e.st == 3)).flatMap (fun e =>
    (List.range e.len).map (fun k => (e.start + k, stripOf e.psa e.ssec k, (e.ssec + k) % 56)))

/-- MEDM_JOB follows the running job or reset (R407). -/
def syncJob (s : State) : State :=
  match s.xlt.job, s.xlt.reset with
  | some j, _ =>
    let b := s.brick j.brick
    s.setReg Reg.MEDM_JOB (Word.ofNat (j.kind + b.layer * 16 + b.brick * 256 + j.groups % 32 * 1048576))
  | none, some r =>
    let b := s.brick r.brick
    s.setReg Reg.MEDM_JOB (Word.ofNat (5 + b.layer * 16 + b.brick * 256 + r.segs % 32 * 1048576))
  | none, none => s.setReg Reg.MEDM_JOB 0#32

/-- A job begins. -/
def startJob (s : State) (kind n : Nat) (todo : List (Nat × Nat × Nat)) : State :=
  s.setXlt { s.xlt with job := some ⟨kind, n, todo, 0⟩ }

/-- Places of a brick (R374). -/
def brickPlaces (s : State) (n : Nat) : List Ext := partsAt s (placeNo (groupPsa s n 0) 0) 57344

/-- A brick holds an extent that cannot be copied (R378). -/
def holdsUnrec (s : State) (n : Nat) : Bool := (brickPlaces s n).any (fun e => e.st == 4)

/-- The brick with the least key, the earlier on a tie. -/
def leastBy (f : Nat → Nat × Nat) (l : List Nat) : Option Nat :=
  l.foldl (fun b n => match b with
    | none => some n
    | some m => if (f n).1 < (f m).1 ∨ ((f n).1 = (f m).1 ∧ (f n).2 < (f m).2) then some n else some m) none

/-- The victim of garbage collection: the FULL brick with the least VALID, then the lower RSTCNT, layer and brick (R390). -/
def gcVictim (s : State) : Option Nat :=
  leastBy (fun n => ((s.brick n).valid, (s.brick n).rst)) ((bricksIn s 2).filter (fun n => decide ((s.brick n).valid < 57344) && !holdsUnrec s n))

/-- The victim becomes COLLECT and its blocks are to be copied (R391). -/
def collect (s : State) (kind n : Nat) : State :=
  let s := s.updBrick n (fun b => { b with st := 3 })
  startJob s kind n (copyList (brickPlaces s n))

/-- Garbage collection starts at GCLOW and goes on until the FREE bricks pass GCHIGH (R390). -/
def gcJudge (s : State) : State :=
  let free := (bricksIn s 0).length
  if !s.xlt.rw ∨ !mounted s then s.setXlt { s.xlt with gc := false }
  else if s.xlt.gc then s.setXlt { s.xlt with gc := decide (free ≤ s.fld Reg.MEDM_GC 8 8) }
  else if free ≤ s.fld Reg.MEDM_GC 0 8 then (s.setXlt { s.xlt with gc := true }).raise pgMEDM 0
  else s

/-- The wear-levelling victim (R394). -/
def wearVictim (s : State) : Option Nat :=
  let w := (bricksIn s 0 ++ bricksIn s 1 ++ bricksIn s 2).map (fun n => (s.brick n).rst)
  let spread := w.foldl max 0 - w.foldl min (w.headD 0)
  if s.bit Reg.MEDM_WL 16 ∧ s.fld Reg.MEDM_WL 0 16 < spread ∧ s.fld Reg.MEDM_GC 16 8 < (bricksIn s 0).length then
    leastBy (fun n => ((s.brick n).rst, 0)) ((bricksIn s 2).filter (fun n => !holdsUnrec s n))
  else none

/-- The leaf with the most extents per block covered (R403), as its blocks. -/
def mergeLeaf (s : State) : List (Nat × Nat × Nat) :=
  let l := (readIndex s).1
  let c := (l.zipIdx.map (fun q => (q.1, leafEnd l q.2 - q.1.first))).filter (fun q => decide (2 ≤ q.1.held))
  match c.foldl (fun b q => match b with
      | none => some q
      | some m => if m.1.held * q.2 < q.1.held * m.2 then some q else some m) (none : Option (IdxEnt × Nat)) with
  | some q => copyList (((readLeaf s q.1.leaf).1).getD [])
  | none => []

/-- Merging is due (R403). -/
def mergeDue (s : State) : Bool := decide (65536 - s.fld Reg.XLT_LEAF 0 17 < s.fld Reg.XLT_MERGE 0 16)

/-- Strips queued for refresh whose extents can be copied. -/
def refreshBlocks (s : State) (psa : Nat) : List (Nat × Nat × Nat) := copyList (partsAt s (placeNo psa 0) 56)

/-- The next refresh of a class; strips that hold nothing leave the queue. -/
def refreshNext (s : State) (first : Bool) : Option (Nat × List (Nat × Nat × Nat)) :=
  (s.xlt.refresh.filter (fun q => q.2 == first)).findSome? (fun q =>
    let l := refreshBlocks s q.1
    if l.isEmpty then none else some (q.1, l))

/-- The next job (R391, R394, R395, R397, R403): strips of class 3 and bricks to be retired, garbage collection, merging,
wear levelling, strips of class 2. -/
def nextJob (s : State) : State :=
  if s.xlt.job.isSome ∨ !mounted s then s
  else
    match refreshNext s true with
    | some q => startJob (s.setXlt { s.xlt with refresh := s.xlt.refresh.filter (· != (q.1, true)) }) 3 (brickNo s q.1) q.2
    | none =>
      match s.xlt.retire.find? (fun n => decide ((s.brick n).st = 2) && !(copyList (brickPlaces s n)).isEmpty) with
      | some n => startJob s 3 n (copyList (brickPlaces s n))
      | none =>
        match (if s.xlt.gc then gcVictim s else none) with
        | some n => collect s 1 n
        | none =>
          if mergeDue s ∧ !(mergeLeaf s).isEmpty then startJob s 4 0 (mergeLeaf s)
          else match (if s.xlt.rw then wearVictim s else none) with
            | some n => collect s 2 n
            | none => match refreshNext s false with
              | some q => startJob (s.setXlt { s.xlt with refresh := s.xlt.refresh.filter (· != (q.1, false)) }) 3 (brickNo s q.1) q.2
              | none => s.setXlt { s.xlt with refresh := s.xlt.refresh.filter (fun q => !(refreshBlocks s q.1).isEmpty) }

/-- The header of a lost sector (R38): from its place, PSA, index, medium, brick resets and sector type; from the translation
layer, the block it holds. SEQ, RPLC and the unit's fields stand in neither (DESIGN CHOICE, log 118). -/
def rebuildHeader (s : State) (psa i : Nat) : SectorHeader :=
  let lost := fun (n : Nat) => Config.lostUnit (s.fresh * 4096 + i * 4 + n)
  let b := psaBrick psa
  let base : SectorHeader := {
    fmt := 1, sidx := i, psa := psa, media := s.bit Reg.WSG_CFG 0, rstcnt := (s.brick (brickNo s psa)).rst, lba := 0, lbav := false,
    stype := if 56 ≤ i then 1 else if b < 2 then 4 else if psaLayer psa = 0 ∧ b < 4 then 3 else 2,
    ufirst := false, ulast := false, rplc := false, seq := 0, ucnt := 0 }
  match (if i < 56 then (partsAt s (placeNo psa i) 1).head? else none) with
  | some e => { base with
      stype := 0, lba := e.start, lbav := true, seq := Config.lostSeq (s.fresh * 64 + i) % 2 ^ 48
      ufirst := lost 0 % 2 == 1, ulast := lost 1 % 2 == 1, rplc := lost 2 % 2 == 1, ucnt := lost 3 % 256 + 1 }
  | none => base

/-- The header a copy keeps: SEQ, first and last of its unit, blocks of the unit; where the source sector was lost, the
rebuilt one's (R30, R38, R106). -/
def copyHeader (s : State) (psa i : Nat) : SectorHeader :=
  match (groupRead s psa).bind (fun g => (g.headers ++ g.rebuilt).find? (fun h => h.1 == psa % 8 && h.2.1 == i)) with
  | some h => SectorHeader.ofBytes h.2.2
  | none => rebuildHeader s psa i

/-- A block of a job is staged in the cold stream (R380, R391). -/
def stageCopy (s : State) (b : Nat × Nat × Nat) (bytes : List Nat) : State :=
  let e := (lookup s b.1 1).1.1.headD freeExt
  let h := copyHeader s b.2.1 b.2.2
  let s := { s with fresh := s.fresh + 1 }
  let it : XItem := ⟨0, b.1, none, h.seq, h.ufirst, h.ulast, h.ucnt, true, some (b.2.1, b.2.2), e.heat - 1, e.gen⟩
  let s := placeItem 1 s it
  match s.xlt.slots.findSome? (fun x => (x.items.find? (fun i => i.src == it.src && i.lba == it.lba)).map (fun i => (x.slot, i.d))) with
  | some q => memWrite s .xlt (itemAddr s q.1 q.2) bytes
  | none => s

/-- Takes what has been read of a job's blocks; an unrecovered one is left where it is. -/
def jobBlock (s : State) (b : Nat × Nat × Nat) : State :=
  match s.xlt.job with
  | none => s
  | some j =>
    match readBlock s b.2.1 b.2.2 with
    | .waits => s
    | .again => readAnew s b.2.1 b.2.2
    | .lost => s.setXlt { s.xlt with job := some { j with todo := j.todo.filter (· != b) } }
    | .here bytes =>
      if roomFor s 1 = 0 then s
      else stageCopy (s.setXlt { s.xlt with job := some { j with todo := j.todo.filter (· != b) } }) b bytes

/-- Copies that are not committed durably (R391, steps 2 and 3). -/
def copiesOpen (s : State) : Bool :=
  s.xlt.slots.any (fun x => x.items.any (fun i => i.src.isSome)) || s.xlt.jr.units.any (fun u => decide (u.what = .copy))

/-- A job ends: a victim becomes PENDRST once nothing points into it (R391). -/
def endJob (s : State) : State :=
  match s.xlt.job with
  | none => s
  | some j =>
    if !j.todo.isEmpty ∨ copiesOpen s then s
    else
      let s := s.setXlt { s.xlt with job := none }
      if j.kind = 1 ∨ j.kind = 2 then
        if (s.brick j.brick).valid = 0 then commitBrick s j.brick 4 else s.updBrick j.brick (fun b => { b with st := 2 })
      else s

/-- The job goes on as far as its reads have brought it. -/
def runJob (s : State) : State := syncJob (endJob (((s.xlt.job.map (·.todo)).getD []).foldl jobBlock s))

/-! ## Resets, retirement, spares (R393, R395, R396) -/

/-- The namespace becomes write-protected (R359, R396). -/
def protectNs (s : State) : State :=
  if writeProt s then s
  else
    let s := ((s.setBit (Reg.STAT pgMEDM) 8 true).raise pgMEDM 4).err pgMEDM 0x1704 15
    asyncEvent (asyncEvent (s.report pgMEDM 0x1704 15 []) 2 0x00) 4 0

/-- The unit that retires a brick is committed (R395). -/
def retireBrick (s : State) (n : Nat) : State :=
  commitBrick (s.setXlt { s.xlt with retire := s.xlt.retire.filter (· != n) }) n 6

/-- Retiring units wait in the journal. -/
def brickUnit (s : State) (n : Nat) : Bool := s.xlt.jr.units.any (fun u => match u.what with | .brick m _ => m == n | _ => false)

/-- Distance of two layers. -/
def layerGap (a b : Nat) : Nat := if a ≤ b then b - a else a - b

/-- The spare that replaces a brick: of its layer, else of the layer nearest in number, the lower on a tie (R396). -/
def spareFor (s : State) (n : Nat) : Option Nat :=
  let l := (s.brick n).layer
  leastBy (fun m => (layerGap (s.brick m).layer l * 2 + (if l < (s.brick m).layer then 1 else 0), 0))
    ((bricksIn s 7).filter (fun m => !brickUnit s m))

/-- Spares are few: Available Spare below 10 % (R396). -/
def spareCheck (s : State) : State :=
  if 100 * (bricksIn s 7).length < 10 * s.xlt.spares0 then asyncEvent (s.raise pgMEDM 5) 2 0x02 else s

/-- A brick is RETIRED and a spare takes its place (R395, R396). -/
def brickRetired (s : State) (n : Nat) : State :=
  let s := s.updBrick n (fun b => { b with st := 6, stream := 2 })
  let s := ((s.raise pgMEDM 3).err pgMEDM 0x1703 15).addSat Reg.MEDM_CNT 16 8 1
  let s := s.report pgMEDM 0x1703 15 [n]
  match spareFor s n with
  | some m => commitBrick s m 0
  | none => protectNs s

/-- Empty bricks queued for retirement are retired (R395). -/
def retireEmpty (s : State) : State :=
  s.xlt.retire.foldl (fun s n =>
    let b := s.brick n
    if b.st = 2 ∧ (brickPlaces s n).isEmpty ∧ b.pins = 0 ∧ !brickUnit s n then retireBrick s n else s) s

/-- A reset of a brick begins (R393). -/
def beginReset (s : State) (n : Nat) (fw : Bool) : State :=
  let s := if (s.brick n).st = 4 then s.updBrick n (fun b => { b with st := 5 }) else s
  s.setXlt { s.xlt with reset := some ⟨n, 0, fw, false⟩ }

/-- The test brick to be reset: of a layer whose two are used up the older, which has the fewer resets, brick 0 on a tie (R47). -/
def testDue (s : State) : Option Nat :=
  ((List.range 12).find? (testsUsed s)).map (fun l =>
    let n := (s.wenc.nbrick.take l).sum
    if (s.brick (n + 1)).rst < (s.brick n).rst then n + 1 else n)

/-- Resets that are due: PENDRST bricks without pins, or retirement at RSTRATE, and used-up test bricks (R47); a segment starts while no arm waits (R391,
R393, R395). -/
def runResets (s : State) : State :=
  let s := if s.xlt.reset.isSome ∨ !s.xlt.rw ∨ !mounted s then s
    else match (bricksIn s 4).find? (fun n => (s.brick n).pins == 0 && !brickUnit s n) with
      | some n => if s.xlt.rstRate ≤ (s.brick n).rst then retireBrick s n else beginReset s n false
      | none => match testDue s with
        | some n => beginReset s n false
        | none => s
  match s.xlt.reset with
  | some r =>
    if !r.running ∧ s.wenc.arms.isEmpty ∧ !s.xlt.slots.any (fun x => x.phase == .waiting && x.items.all (·.staged)) then
      s.setXlt { s.xlt with reset := some { r with running := true } }
    else s
  | none => s

/-- A segment of a reset ends; a failed check retires the brick, the eighth commits it (R391, R393). -/
def segmentDone (good : Bool) (s : State) : State :=
  match s.xlt.reset with
  | none => s
  | some r =>
    if !r.running then s
    else if !good then
      let s := ((s.raise pgMEDM 2).err pgMEDM 0x1702 15).addSat Reg.MEDM_CNT 24 8 1
      let s := s.setXlt { s.xlt with reset := none }
      retireBrick (if r.fw then s.setBit Reg.MEDM_RST 31 false else s) r.brick
    else if r.segs + 1 < 8 then s.setXlt { s.xlt with reset := some { r with segs := r.segs + 1, running := false } }
    else
      let s := (s.setXlt { s.xlt with reset := none }).addSat Reg.MEDM_CNT 0 16 1
      let s := (if r.fw then s.setBit Reg.MEDM_RST 31 false else s).raise pgMEDM 1
      let s := s.updBrick r.brick (fun b => { b with rst := b.rst + 1, front := 0, rej := 0, unrec := 0, cls1 := 0, cls23 := 0, stream := 2 })
      let s := s.setXlt { s.xlt with cls2 := s.xlt.cls2.filter (· != r.brick), cls3 := s.xlt.cls3.filter (· != r.brick) }
      if (s.brick r.brick).st = 5 then commitBrick s r.brick 0 else s

/-- A BRICK unit is durable: the states that wait for it take effect (R388, R391). -/
def brickDurable (s : State) (n st : Nat) : State :=
  syncPool (
    if st = 6 then brickRetired s n
    else if st = 4 ∨ st = 0 then spareCheck (s.updBrick n (fun b => { b with st := st, stream := 2 }))
    else s)

end Sys2Proof.Machine
end

