-- ==== Sys2Proof/Machine/Ckpt.lean ====
section
/-! DEFINITION. Checkpoints (R399 to R401) and mount (R52, R372, R402). -/
namespace Sys2Proof.Machine

/-! ## What a checkpoint holds (R400) -/

/-- Fills a list of bytes up with zeros. -/
def padTo (n : Nat) (l : List Nat) : List Nat := (l ++ List.replicate (n - l.length) 0).take n

/-- A leaf entry of a checkpoint: its index entry and its 256 bytes. -/
def ckptLeaf (s : State) (e : IdxEnt) : List Nat × List Nat :=
  (e.bytes, s.bytes ((s.reg Reg.XLT_TBL_BASE).toNat + 256 * e.leaf) 256)

/-- Sectors of leaves: 15 index entries and the leaves they name. -/
def leafSectors (l : List (List Nat × List Nat)) : List (List Nat) :=
  (chunks 15 (l.length / 15 + 1) l).filterMap (fun g =>
    if g.isEmpty then none else some (padTo 4096 (padTo 120 (g.flatMap (·.1)) ++ g.flatMap (·.2))))

/-- Sectors of the brick table: 256 records each, PINS 0. -/
def brickSectors (s : State) : List (List Nat) :=
  (chunks 256 (brickCount s / 256 + 1) (List.range (brickCount s))).filterMap (fun g =>
    if g.isEmpty then none else some (padTo 4096 (g.flatMap (fun n => ({ s.brick n with pins := 0 }).bytes))))

/-- The leaves a checkpoint takes: all, or those changed since the last one, with an entry of 0 extents for a leaf range that
is gone. -/
def ckptLeaves (s : State) (full : Bool) : List (List Nat × List Nat) :=
  let l := (readIndex s).1
  if full then l.map (ckptLeaf s)
  else
    (l.filter (fun e => s.xlt.changed.contains e.first)).map (ckptLeaf s) ++
    (s.xlt.changed.filter (fun f => !l.any (fun e => e.first == f))).map (fun f => ((⟨f, 0, 0⟩ : IdxEnt).bytes, List.replicate 256 0))

/-- The header sector (R400). -/
def ckptHeader (s : State) (gen : Nat) (full clean : Bool) (ndelta nleaf next base : Nat) : List Nat :=
  let h := [0x4C, 0x4E, 0x43, 0x4B, 0x50, 0x54, 0x30, 0x31] ++ bytesLE 8 gen ++ [(!full).toNat, clean.toNat] ++ bytesLE 2 ndelta ++
    s.xlt.uuid ++ bytesLE 6 (seqMark s) ++ bytesLE 6 s.xlt.jr.jsn ++ bytesLE 4 nleaf ++ bytesLE 4 (brickCount s) ++ bytesLE 4 next ++
    bytesLE 4 base
  let h := padTo 4092 h
  h ++ bytesLE 4 (crc32c h)

/-- Bond groups that a number of sectors takes. -/
def groupsFor (n : Nat) : Nat := (n + 447) / 448

/-! ## Where a checkpoint goes (R401) -/

/-- Metadata bricks A and B are bricks 2 and 3 of L0 (R43). -/
def metaBricks : List Nat := [2, 3]

/-- The brick checkpoints append to. -/
def ckptBrick (s : State) : Nat := if s.xlt.nextPsa = 0 then 2 else brickNo s s.xlt.nextPsa

/-- Groups a brick has left for a checkpoint; a blank metadata brick takes its descriptor first (R46). -/
def ckptRoom (s : State) (n : Nat) : Nat :=
  let b := s.brick n
  if b.front = 0 ∧ b.st = 9 then 127 else 128 - b.front

/-- The last FREE brick, for a checkpoint on VAD-WO (R401). -/
def overflowBrick (s : State) : Option Nat := (bricksIn s 0).getLast?

/-- The brick for a checkpoint of so many groups, none where it fits nowhere; true where it must be full and the brick
reset first (R401). -/
def ckptTarget (s : State) (groups : Nat) : Option (Nat × Bool) :=
  let cur := ckptBrick s
  if groups ≤ ckptRoom s cur then some (cur, false)
  else if s.xlt.rw then some (if cur = 2 then 3 else 2, true)
  else if cur = 2 then some (3, false)
  else match overflowBrick s with
    | some n => if (bricksIn s 10).length < 8 then some (n, false) else none
    | none => none

/-- Every write channel of the part has lost its trailing lane: nothing more is written (R10, R142). -/
def writingEnded (s : State) : Bool :=
  (if s.variant = .ln7720 then [0] else [0, 2]).all (fun l => lstate s l == 6)

/-- A checkpoint starts (R399, R401); `clean` where nothing is to be committed after it (R400), `tries` the bricks it has lost. -/
def startCkptAt (s : State) (clean : Bool) (tries : Nat) : State :=
  if s.xlt.ckpt.isSome ∨ !mounted s ∨ writingEnded s then s
  else
    let full := s.bit Reg.XLT_CKPT 17 || decide (15 ≤ s.xlt.deltas) || s.xlt.base == 0
    let bs := brickSectors s
    let size := fun (f : Bool) => 1 + bs.length + (leafSectors (ckptLeaves s f)).length
    let t := ckptTarget s (groupsFor (size full))
    -- a delta that does not fit becomes a full checkpoint in the other brick
    let full := full || (t.map (·.2)).getD false || ((t.map (fun q => q.1 != ckptBrick s)).getD false)
    match (if full then ckptTarget s (groupsFor (size true)) else t) with
    | none => protectNs s
    | some q =>
      let b := s.brick q.1
      let s := if b.st = 0 then syncPool (commitBrick (s.updBrick q.1 (fun b => { b with st := 10, stream := 2 })) q.1 10) else s
      let front := if q.2 ∨ (b.front = 0 ∧ b.st = 9) then 1 else b.front
      let psa := groupPsa s q.1 front
      let ls := leafSectors (ckptLeaves s full)
      let next := groupPsa s q.1 (front + groupsFor (1 + bs.length + ls.length))
      let hd := ckptHeader s (s.xlt.gen + 1) full (clean && s.xlt.jr.units.isEmpty) (if full then 0 else s.xlt.deltas + 1)
        (ckptLeaves s full).length next (if full then 0 else s.xlt.base)
      let s := if q.2 then beginReset s q.1 false else s
      let s := s.setXlt { s.xlt with
        ckpt := some ⟨s.xlt.gen + 1, q.1, full, hd :: (bs ++ ls), 0, psa, s.xlt.jr.jsn, clean, false, tries⟩
        changed := [], dirty := false, ckptAt := s.ticks, deltas := if full then 0 else s.xlt.deltas + 1
        base := if full then psa else s.xlt.base, nextPsa := next }
      let s := (s.setBit Reg.XLT_CKPT 16 true).setBit Reg.XLT_CKPT 17 false
      s.setFld Reg.XLT_CKPT 24 3 1

/-- A checkpoint starts. -/
def startCkpt (s : State) (clean : Bool) : State := startCkptAt s clean 0

/-- A checkpoint has no brick left to go to: XLT reports a write fault, and the namespace is write-protected (R382, R401). -/
def ckptGivenUp (s : State) : State := protectNs (xltFault s 4 0x1605 (some 0))

/-- A checkpoint that used up its arms in a brick leaves it full and starts again as a full one in the next (R139, R401). On
VAD-RW there is one other brick, on VAD-WO it is tried in three. -/
def ckptMoved (s : State) (c : Ckpt) : State :=
  let s := s.updBrick c.brick (fun b => { b with front := 128 })
  let s := s.setXlt { s.xlt with ckpt := none, base := 0, dirty := true }
  let s := (s.setBit Reg.XLT_CKPT 16 false).setFld Reg.XLT_CKPT 24 3 0
  if c.tries + 1 < (if s.xlt.rw then 2 else 3) then startCkptAt (s.setBit Reg.XLT_CKPT 17 true) c.clean (c.tries + 1) else ckptGivenUp s

/-- Puts META sectors into a staging slot. -/
def stageSectors (slot : Nat) : List (List Nat × Nat) → State → State
  | [], s => s
  | q :: t, s => stageSectors slot t (memWrite s .xlt (itemAddr s slot q.2) q.1)

/-- The descriptor of a blank metadata brick (R46). -/
def descSector (s : State) (n gen : Nat) : List Nat :=
  (List.range 4096).map (fun i => (Config.descByte (n - 2) s.xlt.uuid gen i).toNat)

/-- Gives a slot to a checkpoint's next sectors. -/
def giveSlot (s : State) (n stype : Nat) (secs : List (List Nat)) : State :=
  match (freeStaging s).head? with
  | none => s
  | some k =>
    let s := openSlot s (.ckpt stype)
    let s := stageSectors k secs.zipIdx s
    updSlot s k (fun x => { x with used := secs.length, phase := .waiting, brick := some n })

/-- A checkpoint goes on: its brick is reset and described first, then its groups are staged, then its CKPT unit is committed
once every group is ACCEPTED (R399, R401). -/
def runCkpt (s : State) : State :=
  match s.xlt.ckpt with
  | none => s
  | some c =>
    let slots := s.xlt.slots.filter (·.kind.isCkpt)
    let b := s.brick c.brick
    if (s.xlt.reset.map (fun r => r.brick == c.brick)).getD false then s
    else if c.moves then (if slots.isEmpty then ckptMoved s c else s)
    else if !c.sectors.isEmpty then
      -- one group after the other, so that they lie on the disc in their order
      if (freeStaging s).isEmpty ∨ !slots.isEmpty then s
      else if b.st = 9 ∧ b.front = 0 then giveSlot s c.brick 5 [descSector s c.brick c.gen]
      else
        let s := (giveSlot s c.brick 3 (c.sectors.take 448)).setFld Reg.XLT_CKPT 24 3 2
        s.setXlt { s.xlt with ckpt := some { c with sectors := c.sectors.drop 448, left := c.left + 1 } }
    else if slots.isEmpty ∧ s.fld Reg.XLT_CKPT 24 3 = 2 then
      let s := s.setFld Reg.XLT_CKPT 24 3 3
      commitUnit s .ckpt [recHead 4 false false 1 0 0 (bytesLE 8 c.gen ++ bytesLE 4 c.psa ++ [(!c.full).toNat]) []]
    else s

/-- The CKPT unit is durable: the sectors it covers are released (R386, R399). -/
def ckptDurable (s : State) : State :=
  match s.xlt.ckpt with
  | none => s
  | some c =>
    let s := s.setXlt { s.xlt with ckpt := none, gen := c.gen }
    let s := ((s.setReg Reg.XLT_CKPT_GEN (Word.ofNat c.gen)).setBit Reg.XLT_CKPT 16 false).setFld Reg.XLT_CKPT 24 3 0
    (jrRelease s c.jsn).raise pgXLT 3

/-- At 48 sectors held a checkpoint starts (R386, R399). -/
def ckptDue (s : State) : State := if 48 ≤ s.xlt.jr.held.length then startCkpt s false else s

/-! ## When staging memory or the last write channel is lost (R10, R489) -/

/-- Writing has ended: the namespace is write-protected, accepted Writes that have not latched complete with Write Fault, jobs and a
checkpoint that would write are given up (R7, R10). -/
def endWriting (s : State) : State :=
  if !writingEnded s then s
  else
    let s := protectNs s
    let s := (s.hq.ctx.filter (fun c => !c.admin && c.opc == 0x01 && (c.phase == .accepted || c.phase == .running))).foldl
      (fun s c => failCmd s c.seq stWriteFault 0 c.slba) s
    let s := (s.setBit Reg.XLT_CKPT 16 false).setFld Reg.XLT_CKPT 24 3 0
    s.setXlt { s.xlt with
      slots := s.xlt.slots.filter (·.phase == .armed), job := none, gc := false, ckpt := none, base := if s.xlt.ckpt.isSome then 0 else s.xlt.base }

/-- Words of a slot's staged blocks that nothing can correct (R419). -/
def badWords (s : State) (x : XSlot) : List Nat :=
  let ds := match x.kind with
    | .ckpt _ => List.range x.used
    | .stream _ => (x.items.filter (fun (i : XItem) => i.staged)).map (fun (i : XItem) => i.d)
  (s.ms.ueWords.map (·.1)).filter (fun w =>
    ds.any (fun d => decide (itemAddr s x.slot d ≤ w) && decide (w < itemAddr s x.slot d + 4096)) && (readWord s .cdma w).1)

/-- A staging slot has lost data: its macro has failed, or a word of it is uncorrectable (R419, R489). -/
def slotLost (s : State) (k : Nat) : Bool :=
  stagingLost s k || s.xlt.slots.any (fun x => x.slot == k && !(badWords s x).isEmpty)

/-- Arms whose staging slot is lost end: NOTSTARTED before their first pass, VOID after it (R141). -/
def abortLost (s : State) : State :=
  let gone := fun (a : Arm) => slotLost s a.slot
  let s := match s.wenc.arms with
    | a :: _ =>
      if gone a && a.running then dropGate s 6
      else if gone a && decide (0 < a.passes) then voidFront s 6
      else s
    | [] => s
  let dead := s.wenc.arms.filter gone
  dead.foldl notStarted (s.setW { s.wenc with arms := s.wenc.arms.filter (fun a => !gone a) })

/-- A Write whose staged data is lost has no place any more: its data is fetched again and placed anew (R12, R490). What of it is
written or armed becomes dead space. -/
def unplace (s : State) (seq : Nat) : State :=
  let s := dropReads s seq
  let s := s.updCtx seq (fun c => { c with placed := [] })
  s.setXlt { s.xlt with slots := s.xlt.slots.map (fun x => { x with
    items := x.items.map (fun i => if i.seq = some seq then { i with seq := none, staged := true } else i) }) }

/-- Staging slots that have lost data are given up: the Writes in them are placed anew, copies are made again by a later job, and a
checkpoint starts again (R12, R419, R489). -/
def restage (s : State) : State :=
  let bad := fun (s : State) => s.xlt.slots.filter (fun x => slotLost s x.slot)
  if (bad s).isEmpty ∧ !s.wenc.arms.any (fun a => stagingLost s a.slot) then s
  else
    let s := abortLost s
    let s := takeVerdicts s
    let gone := (bad s).filter (·.phase != .armed)
    let s := (readWords .cdma (gone.flatMap (badWords s)) s).2
    let s := (gone.flatMap (fun x => x.items.filterMap (·.seq))).eraseDups.foldl unplace s
    let s := gone.foldl (fun s x => dropSlot s x.slot) s
    let s := if gone.any (fun x => x.items.any (·.src.isSome)) then s.setXlt { s.xlt with job := none } else s
    match s.xlt.ckpt with
    | some c =>
      if gone.any (·.kind.isCkpt) then
        let s := s.setXlt { s.xlt with ckpt := none, base := 0, dirty := true, slots := s.xlt.slots.filter (fun x => !x.kind.isCkpt) }
        startCkptAt ((s.setBit Reg.XLT_CKPT 16 false).setFld Reg.XLT_CKPT 24 3 0) c.clean c.tries
      else s
    | none => s

/-! ## Mount (R402) -/

/-- NBRICK and NSPARE per layer (R51). -/
def diBricks (di : List Nat) : List Nat := (List.range 12).map (diNbrick di)
def diSpares (di : List Nat) : List Nat := (List.range 12).map (diNspare di)

/-- Data bricks of the side (R43, R55). -/
def dataBricks (nb ns : List Nat) : Nat := ((nb.zip ns).map (fun q => q.1 - q.2 - 2)).sum - 2

/-- NSZE (R372). -/
def nszeOf (rw : Bool) (d : Nat) : Nat := if rw then 57344 * (d - max 16 ((d + 63) / 64)) else 57344 * (d - 8)

/-- The state a brick has on a blank side by its position (R43, R388). -/
def blankState (nb ns : List Nat) (layer brick : Nat) : Nat :=
  if brick < 2 then 8
  else if layer = 0 ∧ brick < 4 then 9
  else if nb.getD layer 0 - ns.getD layer 0 ≤ brick then 7
  else 0

/-- A checkpoint found: strip 0 of its first group, its header, the sectors after it. -/
structure CkptFound where
  psa : Nat
  hdr : List Nat
  body : List (List Nat)
  deriving DecidableEq, Repr

/-- A sector is a checkpoint header of this disc (R400). -/
def headerOk (uuid h : List Nat) : Bool :=
  h.length == 4096 && h.take 8 == [0x4C, 0x4E, 0x43, 0x4B, 0x50, 0x54, 0x30, 0x31] && leNat (h.drop 4092) == crc32c (h.take 4092) &&
    (h.drop 20).take 16 == uuid

/-- The checkpoints among the groups read: the groups after a header go with it (R400, R402). -/
def findCkpts (uuid : List Nat) : List (Nat × List (List Nat)) → List CkptFound
  | [] => []
  | g :: t =>
    let rest := findCkpts uuid t
    let h := g.2.headD []
    if headerOk uuid h then ⟨g.1, h, (g.2.drop 1) ++ (t.takeWhile (fun q => !headerOk uuid (q.2.headD []))).flatMap (·.2)⟩ :: rest
    else rest

/-- Fields of a header. -/
def CkptFound.gen (c : CkptFound) : Nat := leNat ((c.hdr.drop 8).take 8)
def CkptFound.kind (c : CkptFound) : Nat := c.hdr.getD 16 0
def CkptFound.field (c : CkptFound) (o n : Nat) : Nat := leNat ((c.hdr.drop o).take n)

/-- Every sector the header counts was read: brick records and leaves (R8, R11, R400). -/
def CkptFound.complete (c : CkptFound) : Bool := decide ((c.field 52 4 + 255) / 256 + (c.field 48 4 + 14) / 15 ≤ c.body.length)

/-- The checkpoints that give the state of one, oldest first: the full one and its deltas (R402). -/
def ckptChain (l : List CkptFound) (c : CkptFound) : List CkptFound :=
  if c.kind = 0 then [c]
  else match l.find? (fun q => q.kind == 0 && q.psa == c.field 60 4) with
    | some b => b :: (List.range (c.gen - b.gen)).filterMap (fun i => l.find? (fun q => q.kind == 1 && q.gen == b.gen + 1 + i))
    | none => []

/-- None of the checkpoints that a state is built from is lacking. -/
def chainWhole (l : List CkptFound) (c : CkptFound) : Bool :=
  match ckptChain l c with
  | [] => false
  | b :: t => t.length == c.gen - b.gen

/-- The last checkpoint, that of the highest generation of which all was written (R8, R402). -/
def lastCkpt (l : List CkptFound) : Option CkptFound :=
  (l.filter (chainWhole l)).foldl (fun b c => match b with
    | none => some c
    | some m => if m.gen < c.gen then some c else some m) none

/-- Leaves of a checkpoint: first block, extents held, the leaf's bytes (R400). -/
def ckptEntries (c : CkptFound) : List (Nat × Nat × List Nat) :=
  let nb := (c.field 52 4 + 255) / 256
  let es := (c.body.drop nb).flatMap (fun sec =>
    (List.range 15).map (fun i =>
      let w := leNat ((sec.drop (8 * i)).take 8)
      (w % 2 ^ 40, w / 2 ^ 56 % 32, (sec.drop (120 + 256 * i)).take 256)))
  es.take (c.field 48 4)

/-- Brick records of a checkpoint. -/
def ckptRecords (c : CkptFound) : List Brick :=
  (List.range (c.field 52 4)).map (fun n => Brick.ofBytes ((((c.body.getD (n / 256) []).drop (16 * (n % 256))).take 16)))

/-- The leaves after one more checkpoint of the chain, in order of first block. -/
def applyLeaves (l : List (Nat × List Nat)) (c : CkptFound) : List (Nat × List Nat) :=
  let es := ckptEntries c
  let put := fun (l : List (Nat × List Nat)) (e : Nat × Nat × List Nat) =>
    let l := l.filter (fun x => x.1 != e.1)
    if e.2.1 = 0 ∧ e.1 ≠ 0 then l
    else l.filter (fun x => decide (x.1 < e.1)) ++ [(e.1, e.2.2)] ++ l.filter (fun x => decide (e.1 < x.1))
  es.foldl put (if c.kind = 0 then [] else l)

/-- Bytes of an empty leaf. -/
def emptyLeaf : List Nat := (List.replicate 16 freeExt).flatMap (fun e => bytesLE 16 e.word)

/-- Extents held by a leaf's bytes. -/
def leafHeld (b : List Nat) : Nat :=
  ((List.range 16).filter (fun i => leNat ((b.drop (16 * i)).take 16) / 2 ^ 33 % 16 != 0)).length

/-- Stores the table a mount starts from (R376). -/
def storeTable (s : State) (l : List (Nat × List Nat)) : State :=
  let l := if l.any (fun x => x.1 == 0) then l else (0, emptyLeaf) :: l
  let s := l.zipIdx.foldl (fun s q => memWrite s .xlt ((s.reg Reg.XLT_TBL_BASE).toNat + 256 * q.2) q.1.2) s
  writeIndex s (l.zipIdx.map (fun q => ⟨q.1.1, q.2, leafHeld q.1.2⟩))

/-- VALID of every brick from the extents, and NUSE (R372, R389, R402). -/
def recount (s : State) : State :=
  let es := (lookup s 0 (2 ^ 40)).1.1
  let s := (List.range (brickCount s)).foldl (fun s n => s.updBrick n (fun b => { b with valid := 0, pins := 0 })) s
  let s := addValid s es true
  s.setReg Reg.XLT_NUSE (Word.ofNat (es.map (·.len)).sum)

/-- NCAP (R372): on VAD-WO, NUSE and the blocks FREE and OPEN bricks still take. -/
def syncCap (s : State) : State :=
  let nsze := (s.reg Reg.XLT_NSZE).toNat
  if s.xlt.rw ∨ !mounted s then s.setReg Reg.XLT_NCAP (Word.ofNat nsze)
  else
    let room := ((bricksIn s 0 ++ bricksIn s 1).map (fun n => 448 * (128 - (s.brick n).front))).sum
    s.setReg Reg.XLT_NCAP (Word.ofNat (min nsze ((s.reg Reg.XLT_NUSE).toNat + room)))

/-- Replays the journal's units of this disc from a JSN on (R386, R402). The sectors held are those from the disc's first on;
the last one written stays, as the journal goes on there. -/
def replay (s : State) (jsn : Nat) : State :=
  let mine := (jrFind s).filter (fun x => x.2.1 == s.xlt.uuid)
  let recs := mine.flatMap (·.2.2)
  let us := (jrUnits (recs.length + 1) recs).filter (fun u => decide (jsn ≤ recJsn (u.headD [])))
  let s := (us.flatMap id).foldl jrApply s
  let own := s.xlt.jr.held.dropWhile (fun x => !mine.any (fun y => y.1 == x.sec))
  let held := if own.isEmpty then s.xlt.jr.held.drop (s.xlt.jr.held.length - 1) else own
  s.setJr { s.xlt.jr with held := held, jsn := max s.xlt.jr.jsn jsn }

/-- The frontier search moves FRONT past every group found recorded (R402). -/
def applyFrontier (s : State) (f : List (Nat × Nat)) : State :=
  (bricksIn s 1).foldl (fun s n =>
    let g := ((f.find? (fun q => q.1 == n)).map (·.2)).getD 0
    let b := s.brick n
    let front := min 128 (max b.front g)
    let s := s.updBrick n (fun b => { b with front := front })
    if front = 128 then brickFull s n
    else if b.stream < 2 then s.setXlt { s.xlt with openBrick := s.xlt.openBrick.set b.stream (some n) } else s) s

/-- Mounts the side from its disc information and what was read of it (R402). -/
def mountSide (s : State) (di : List Nat) (i : LoadIn) : State :=
  let nb := diBricks di
  let ns := diSpares di
  let rw := diField di 5 1 == 2
  let uuid := (di.drop 58).take 16
  let s := s.setW { s.wenc with nbrick := nb }
  let s := s.setXlt { s.xlt with
    openBrick := [none, none], slots := [], changed := [], deltas := 0, base := 0, nextPsa := 0, ckpt := none, dirty := false, ckptAt := s.ticks,
    job := none, reset := none, gc := false, refresh := [], retire := [], cls2 := [], cls3 := [], unpin := [], uuid := uuid,
    side := diField di 6 1, rw := rw, rstRate := diField di 56 2, spares0 := ns.sum,
    jr := { s.xlt.jr with units := s.xlt.jr.units.filter (·.what.isSeqres) } }
  let found := (findCkpts uuid i.groups).filter (·.complete)
  let c := lastCkpt found
  let chain := match c with | some c => ckptChain found c | none => []
  let blank := (List.range nb.sum).map (fun n => let q := brickAt nb n 0; (⟨q.1, q.2, blankState nb ns q.1 q.2, 0, 0, 0, 2, 0, 0, 0, 0, 0⟩ : Brick))
  let recs := match c with | some c => ckptRecords c | none => blank
  let s := recs.zipIdx.foldl (fun s q => s.setBrick q.2 q.1) s
  let s := storeTable s (chain.foldl applyLeaves [])
  let s := match c with
    | some c =>
      let next := c.field 56 4
      let s := s.setXlt { s.xlt with gen := c.gen, nextPsa := next, base := if c.kind = 0 then c.psa else c.field 60 4, deltas := c.field 18 2 }
      -- the metadata brick's FRONT at the checkpoint does not count the checkpoint's own groups
      s.updBrick (brickNo s c.psa) (fun b => { b with front := max b.front (groupOf next) })
    | none => s
  -- no group that is recorded is written again, be it of a checkpoint that was cut short (R45)
  let s := i.groups.foldl (fun s g =>
    let n := brickNo s g.1
    if metaBricks.contains n ∨ (s.brick n).st = 10 then s.updBrick n (fun b => { b with front := min 128 (max b.front (groupOf g.1 + 1)) }) else s) s
  let s := match c with | some c => noteMark s (c.field 36 6) | none => s
  let jsn := match c with | some c => c.field 42 6 | none => 0
  let had := ((jrFind s).any (fun x => x.2.1 == uuid))
  let s := replay s jsn
  let s := applyFrontier s i.frontier
  let s := (bricksIn s 3).foldl (fun s n => s.updBrick n (fun b => { b with st := 2 })) s
  let s := (bricksIn s 5).foldl (fun s n => s.updBrick n (fun b => { b with st := 4 })) s
  let s := recount s
  let s := s.setXlt { s.xlt with noTests := if rw then [] else (List.range 12).filter (testsUsed s) }
  let s := match c with
    | some c =>
      if !(c.hdr.getD 17 0).testBit 0 ∧ !had then
        let s := (s.err pgXLT 0x1606 15).addSat Reg.XLT_CNT 24 8 1
        s.report pgXLT 0x1606 15 []
      else s
    | none => s
  let d := dataBricks nb ns
  let s := s.setReg Reg.XLT_NSZE (Word.ofNat (nszeOf rw d))
  let s := (s.setReg Reg.XLT_CKPT_GEN (Word.ofNat s.xlt.gen)).setBit (Reg.STAT pgXLT) 8 true
  let s := syncCap (syncPool (syncJrnl s))
  let usable := (bricksIn s 0 ++ bricksIn s 1 ++ bricksIn s 2 ++ bricksIn s 4).length + (bricksIn s 10).length
  let s := (s.setBit (Reg.STAT pgMEDM) 8 false)
  let s := if s.pwr.lateNote then { (s.report 0x02 0x1105 15 []) with pwr := { s.pwr with lateNote := false } } else s
  if usable < d then protectNs s else s

/-- The side is no longer mounted (R361, R406). -/
def unmount (s : State) : State :=
  let s := (s.setBit (Reg.STAT pgXLT) 8 false).setBit (Reg.STAT pgMEDM) 8 false
  let s := ((s.setReg Reg.XLT_NSZE 0#32).setReg Reg.XLT_NUSE 0#32).setReg Reg.XLT_NCAP 0#32
  s.setXlt { s.xlt with openBrick := [none, none], slots := [], job := none, reset := none, gc := false, refresh := [], retire := [] }

end Sys2Proof.Machine
end

