-- ==== Sys2Proof/Machine/SpnOps.lean ====
section
/-! DEFINITION. The spindle's own work at each tick: shunt samples, duties, the words it exchanges with the loop engine
(R222 to R233, R239 to R244). -/
namespace Sys2Proof.Machine

/-- Page of SPN. -/
abbrev pgSPN : Nat := 0x03

/-- Replaces the spindle's own state. -/
def State.setSpn (s : State) (x : Spn) : State := { s with spn := x }

/-- Pole pairs (R246). -/
def polePairs (s : State) : Nat := max 1 (s.fld Reg.SPN_MOTOR 0 4)

/-- SPN enters a state (R245); PWR's STAT shows HOLDUP (R286). -/
def spnEnter (s : State) (st : Nat) : State :=
  ((s.setFld (Reg.STAT pgSPN) 8 4 st).setBit (Reg.STAT 0x02) 15 (st == 8)).setSpn { s.spn with since := s.ticks, lockRun := 0, lostRun := 0, lowRun := 0 }

/-- A current in mA as a signal, 1.0 = 4.0 A; a speed in rpm, 1.0 = 16,384 rpm; a voltage in mV, 1.0 = 64 V (R227). -/
def sigMA (x : Int) : Int := x * 2147483648 / 4000
def sigRpm (x : Int) : Int := x * 131072
def sigMV (x : Int) : Int := x * 2147483648 / 64000

/-- States in which the current loops drive the stage; states with all switches open (R238 to R243). -/
def spnDriven (st : Nat) : Bool := decide (2 ≤ st) && decide (st ≤ 8) && st != 7
def spnOpen (s : State) : Bool :=
  let st := spnState s
  st == 0 || st == 1 || st == 9 || s.spn.offPeriod == some (s.ticks / 32)

/-! ## Shunts -/

/-- A trimmed shunt sample in 1/16 code. -/
def shuntTrim (s : State) (k : Nat) (code : Int) : Int :=
  let g := s.sfld (Reg.SPN_SH_GAIN k) 0 12
  let o := s.sfld (Reg.SPN_SH_OFS k) 0 12
  max (-32768) (min 32767 ((code * (8192 + g) * 16 + o * 2 * 8192 + 4096) / 8192))

/-- A trimmed sample as a current: the sense full scale is FS / RSH (R222, R227). -/
def shuntCurrent (s : State) (v16 : Int) : Int :=
  v16 * ((50 * 2 ^ s.fld Reg.SPN_SHUNT 16 2 : Nat) : Int) * 2147483648 / ((16 * 2048 * 4 * max 1 (s.fld Reg.SPN_SHUNT 24 8) : Nat) : Int)

/-- A leg's sample is valid (R224); duties and times in 1.25 ns. -/
def legValid (s : State) (dPrev dNew : Int) : Bool :=
  decide ((s.fld Reg.SPN_SHUNT 0 8 * 20 : Int) ≤ 8000 - dPrev - (s.fld Reg.SPN_PWM 0 9 : Int)) &&
  decide ((s.fld Reg.SPN_SHUNT 8 8 * 20 : Int) ≤ 8000 - dNew)

/-- Amplitude-invariant α and β of two phase currents, the third being minus their sum. -/
def clarke (u v : Int) : Int × Int := (u, (u + 2 * v) * 1239850262 / 2147483648)

/-- The valley's samples: legs U, V and W as wired (R224 to R226). -/
def sampleShunts (s : State) (codes : List Int) : State :=
  let c := fun k => sat12 (codes.getD k 0)
  let wire := if s.bit Reg.SPN_MOTOR 4 then [0, 2, 1] else [0, 1, 2]
  let ok := fun k => legValid s (s.spn.dPrev.getD k 0) (s.spn.dCur.getD k 0)
  let i := fun k => shuntCurrent s (shuntTrim s k (c k))
  let valid := (List.range 3).filter ok
  let s := (List.range 3).foldl (fun s k => s.setFld (Reg.SPN_SH_RAW k) 0 12 (bitsOf 12 (c k))) s
  let phase := fun k => wire.getD k 0
  if valid.length = 3 then
    let sum := sat12 (c 0 + c 1 + c 2)
    let s := (List.range 3).foldl (fun s k => s.setFld (Reg.SPN_SH_RAW k) 16 12 (bitsOf 12 sum)) s
    let u := i (phase 0)
    let v := i (phase 1)
    let w := i (phase 2)
    s.setSpn { s.spn with cur := ((2 * u - v - w) / 3, (v - w) * 1239850262 / 2147483648), pred := false, recon := false, skips := 0 }
  else if valid.length = 2 then
    let of := fun p => if ok (phase p) then i (phase p)
      else -((List.range 3).filter (fun q => q != p)).foldl (fun t q => t + i (phase q)) 0
    s.setSpn { s.spn with cur := clarke (of 0) (of 1), pred := false, recon := true, skips := 0 }
  else
    (s.addSat Reg.SPN_CNT 0 16 1).setSpn { s.spn with pred := true, recon := false, skips := s.spn.skips + 1 }

/-! ## Voltage vector and duties -/

/-- Sum of a sine's series in 2^-62, from its term number k on. -/
def sineTerms (x2 : Int) : Nat → Nat → Int → Int
  | 0, _, _ => 0
  | n + 1, k, t => t + sineTerms x2 n (k + 1) (-(t * x2 / 4611686018427387904) / (((2 * k + 2) * (2 * k + 3) : Nat) : Int))

/-- The sine of an angle of 2^32 per cycle in 2^-31, rounded down; its last step is `spnSinUp`'s (R231). The constant is
π / 2 in 2^-61. -/
def spnSin (a : Nat) : Int :=
  let a := a % 4294967296
  let q := a / 1073741824
  let r := if q % 2 = 0 then a % 1073741824 else 1073741824 - a % 1073741824
  let x : Int := (r * 3622009729038561421 / 536870912 : Nat)
  let m := sineTerms (x * x / 4611686018427387904) 14 0 x / 2147483648
  if r = 0 then 0
  else if r = 1073741824 then (if q < 2 then 2147483647 else -2147483648)
  else (if q < 2 then m else -m - 1) + ((Config.spnSinUp a).toNat : Int)

/-- The cosine. -/
def spnCos (a : Nat) : Int := spnSin (a + 1073741824)

/-- VMAX as a signal: MMAX / 256 × VBUS / √3 (R231). -/
def vMax (s : State) : Int := s.mortInt 0x64 * (s.fld Reg.SPN_VLIM 0 8 : Int) * 1239850262 / (256 * 2147483648)

/-- The magnitude of a vector, rounded down. -/
def magnitude (v : Int × Int) : Int := Nat.sqrt (v.1 * v.1 + v.2 * v.2).toNat

/-- SFLAGS.VLIM is set (R231): the interrupt rises once. -/
def setVlim (s : State) : State :=
  if s.spn.vlim then s
  else ((s.setSpn { s.spn with vlim := true }).setBit (Reg.STAT pgSPN) 12 true).raise pgSPN 2

/-- Phase voltages of a vector. -/
def phases (v : Int × Int) : List Int :=
  let b := v.2 * 1859775393 / 2147483648
  [v.1, -v.1 / 2 + b, -v.1 / 2 - b]

/-- Phase order as wired (R246). -/
def wired (s : State) (l : List Int) : List Int :=
  if s.bit Reg.SPN_MOTOR 4 then [l.getD 0 0, l.getD 2 0, l.getD 1 0] else l

/-- Dead-time compensation of each leg in 1/8,000, by the sign of its phase current (R223). -/
def deadComp (s : State) : List Int :=
  let dt : Int := s.fld Reg.SPN_PWM 0 9 / 2
  if s.bit Reg.SPN_PWM 9 then (wired s (phases s.spn.cur)).map (fun i => if 0 < i then dt else if i < 0 then -dt else 0) else [0, 0, 0]

/-- Duties of a vector in 1/8,000, centred so that the largest and the smallest sum to 1 (R223). -/
def dutiesOf (s : State) (v : Int × Int) : List Int :=
  let vb := max 1 (s.mortInt 0x64)
  let p := phases v
  let hi := p.foldl max (p.headD 0)
  let lo := p.foldl min (p.headD 0)
  wired s (p.map (fun x => max 0 (min 8000 (4000 + Int.tdiv ((2 * x - hi - lo) * 4000) vb))))

/-- Duties with their dead times compensated. -/
def driven (s : State) (d : List Int) : List Int := List.zipWith (fun x c => max 0 (min 8000 (x + c))) d (deadComp s)

/-- The second-highest of three. -/
def secondHighest (d : List Int) : Int :=
  let hi := d.foldl max 0
  let lo := d.foldl min 8000
  d.foldl (· + ·) 0 - hi - lo

/-- The largest duty that R224 allows a leg whose sample is to be valid at both ends of its period. -/
def dutyLimit (s : State) : Int :=
  min (8000 - (s.fld Reg.SPN_SHUNT 0 8 * 20 : Int) - (s.fld Reg.SPN_PWM 0 9 : Int)) (8000 - (s.fld Reg.SPN_SHUNT 8 8 * 20 : Int))

/-- R226: the vector scaled down so that the second-highest leg's duty comes within R224; no vector takes it below one half. -/
def capVector (s : State) (v : Int × Int) : Int × Int :=
  let d2 := secondHighest (dutiesOf s v)
  let lim := dutyLimit s
  if d2 ≤ lim ∨ d2 ≤ 4000 then v
  else if lim ≤ 4000 then (0, 0)
  else (Int.tdiv (v.1 * (lim - 4000)) (d2 - 4000), Int.tdiv (v.2 * (lim - 4000)) (d2 - 4000))

/-- R226: what the scaled vector still leaves above the limit is taken off all three duties alike. -/
def capDuties (s : State) (d : List Int) : List Int :=
  let off := max 0 (secondHighest d - dutyLimit s)
  d.map (fun x => max 0 (x - off))

/-- SPN forms the next period's vector and duties from its last demand (R226, R231). -/
def formVector (s : State) : State :=
  if spnOpen s ∨ spnState s = 7 then s.setSpn { s.spn with vNext := (0, 0), dNext := [0, 0, 0], capNext := false, calm := s.spn.calm + 1 }
  else
    let a := (wrap32 ((s.spn.ang : Int) + (if s.bit Reg.SPN_PWM 10 then 3 * s.spn.dth / 2 else 0))).toNat
    let sn := spnSin a
    let cs := spnCos a
    let v := ((s.spn.vd * cs - s.spn.vq * sn) / 2147483648, (s.spn.vd * sn + s.spn.vq * cs) / 2147483648)
    let m := magnitude (s.spn.vd, s.spn.vq)
    let big := decide (vMax s < m)
    let v := if big then (Int.tdiv (v.1 * vMax s) m, Int.tdiv (v.2 * vMax s) m) else v
    let s := s.setSpn { s.spn with calm := if decide (m * 100 < vMax s * 98) then s.spn.calm + 1 else 0 }
    let s := if big then setVlim s else s
    let cap := decide (s.fld Reg.SPN_VLIM 8 4 ≤ s.spn.skips)
    let v := if cap then capVector s v else v
    let d := driven s (dutiesOf s v)
    s.setSpn { s.spn with vNext := v, dNext := if cap then capDuties s d else d, capNext := cap,
                          skips := if cap then 0 else s.spn.skips }

/-- Runs of P7 in a row that meet the lock condition of R235, and that miss R237's. -/
def lockJudge (s : State) : State :=
  let pb := s.fld Reg.SPN_OBS 0 12
  let deg := s.fld Reg.SPN_SYNC 8 8
  let d := signedOf 32 ((s.mort (pb + 12) - s.mort 0x67).toNat)
  let mag := s.mortInt (pb + 15)
  let c7 := s.mortInt (pb + 7)
  let lock := decide (d.natAbs * 360 ≤ deg * 4294967296) && decide (c7 ≤ mag)
  let lost := decide (spnSin (2 * deg * 4294967296 / 360) < (s.mortInt (pb + 14)).natAbs) || decide (mag * 2 < c7)
  s.setSpn { s.spn with
    lockRun := if lock then s.spn.lockRun + 1 else 0
    lostRun := if lost then s.spn.lostRun + 1 else 0 }

/-- The demand that P7 wrote is taken (R230, R231). -/
def takeDemand (s : State) : State :=
  let pb := s.fld Reg.SPN_OBS 0 12
  let s := s.setSpn { s.spn with
    vd := signedOf 32 (s.leng.out.getD 8 0#32).toNat, vq := signedOf 32 (s.leng.out.getD 9 0#32).toNat,
    ang := (s.mort 0x68).toNat, dth := s.mortInt (pb + 13), age := 0, got := true }
  formVector (lockJudge s)

/-- The peak of the three phase currents as last delivered. -/
def phasePeak (s : State) : Nat := ((phases s.spn.cur).map Int.natAbs).foldl max 0

/-- ZEROV at a valley (R240): the switches open for the rest of the period where a phase current reaches IZV; periods with
every phase current below 50 mA count towards the stop. -/
def zerovValley (s : State) : State :=
  if spnState s ≠ 7 then s
  else
    let pk : Int := phasePeak s
    let s := if sigMA (s.fld Reg.SPN_ZV 0 12 : Int) ≤ pk then s.setSpn { s.spn with offPeriod := some (s.ticks / 32) } else s
    s.setSpn { s.spn with lowRun := if pk < sigMA 50 then s.spn.lowRun + 1 else 0 }

/-- A valley: new duties take effect, a period without a new demand advances the last one, the shunts are sampled. -/
def valley (s : State) (codes : List Int) : State :=
  let s := if s.spn.got then s
    else formVector (s.setSpn { s.spn with age := s.spn.age + 1, ang := (wrap32 ((s.spn.ang : Int) + s.spn.dth)).toNat })
  let x := s.spn
  let s := s.setSpn { x with got := false, vPrev := x.vCur, vCur := x.vNext, dPrev := x.dCur, dCur := x.dNext, cap := x.capNext }
  let s := s.setBit (Reg.STAT pgSPN) 12 (s.spn.vlim || s.spn.cap)
  zerovValley (sampleShunts s codes)

/-! ## Words -/

/-- FANG: 0 in ALIGN; in RAMP the angle of a speed that rises at RAMPACC to RAMPSPD (R235). -/
def fangWord (s : State) : Nat :=
  if spnState s = 3 then
    let t : Rat := (s.ticks - s.spn.since : Nat) * tickSec
    let acc : Rat := (s.fld Reg.SPN_OLR 22 10 * 100 : Nat) / 60
    let top : Rat := (s.fld Reg.SPN_OLR 12 10 * 10 : Nat) / 60
    let tr := top / acc
    let rev : Rat := if t < tr then acc * t * t / 2 else acc * tr * tr / 2 + top * (t - tr)
    (rev * (polePairs s : Rat) * (4294967296 : Rat)).floor.toNat % 4294967296
  else 0

/-- IDREF: the alignment current rises over 20 ms (R235); 0 in every other state. -/
def idref (s : State) : Int :=
  if spnState s = 2 then
    sigMA (s.fld Reg.SPN_ALIGN 0 12 : Int) * (min (s.ticks - s.spn.since) 32000 : Nat) / 32000
  else 0

/-- The current limit in force (R233). -/
def iLim (s : State) : Int := sigMA (if s.spn.lower then s.fld Reg.SPN_ILIM 16 12 else s.fld Reg.SPN_ILIM 0 12)

/-- R241: a negative current is scaled down between VRLO and VRHI. -/
def regenScale (s : State) (i : Int) : Int :=
  if s.bit Reg.SPN_REGEN 0 ∧ i < 0 then
    let lo := sigMV (s.fld Reg.SPN_REGEN 8 8 * 250 : Nat)
    let hi := sigMV (s.fld Reg.SPN_REGEN 16 8 * 250 : Nat)
    let vb := s.mortInt 0x64
    if vb ≤ lo then i else if hi ≤ vb then 0 else i * (hi - vb) / (hi - lo)
  else i

/-- IQREF (R233 to R235, R241, R242). -/
def iqref (s : State) : Int :=
  let st := spnState s
  if st = 3 then sigMA (s.fld Reg.SPN_OLR 0 12 : Int)
  else if st = 4 then s.spn.syncIq
  else if st = 8 then
    let mv := (s.fld Reg.PWR_HU 16 8 * 250 : Int) - s.mortInt 0x64 * 64000 / 2147483648
    let i := clampInt 0 (sigMA (s.fld Reg.PWR_HUK 16 12 : Int)) (sigMA ((s.fld Reg.PWR_HUK 0 16 : Int) * mv / 1000));
    -i
  else regenScale s (clampInt (-(iLim s)) (iLim s) (s.mortInt 0x6D))

/-- SETEFF one exchange on (R232, R239). -/
def setEffTick (s : State) : State :=
  if s.spn.keep then s
  else
    let set := max 0 (s.mortInt (s.fld Reg.SPN_SPD 16 12))
    let tgt : Int := if spnState s = 6 then 0 else min set (sigRpm (s.fld Reg.SPN_SPD 0 14 : Int))
    let t := tgt * 3125
    let x := s.spn.setEff
    let up : Int := s.fld Reg.SPN_RAMP 0 14 * 256
    let down : Int := s.fld Reg.SPN_RAMP 16 14 * 256
    let x := if x < t then min t (x + up) else max t (x - down)
    let x := if s.spn.vlim || s.spn.cap then min x (max 0 (s.mortInt 0x69) * 3125) else x
    s.setSpn { s.spn with setEff := x }

/-- The current's mean with a time constant of 1 s, and which limit holds (R233). -/
def currentMean (s : State) : State :=
  let d := s.mortInt 0x6A
  let q := s.mortInt 0x6B
  let x : Int := (d * d + q * q) * 65536
  let m : Int := s.spn.mean
  let m := m + (x - m) / 1600000
  let c := sigMA (s.fld Reg.SPN_ILIM 16 12 : Int)
  let c2 := c * c * 65536
  let low := decide (c2 < m) || (s.spn.lower && decide (c2 * 9 ≤ m * 10))
  s.setSpn { s.spn with mean := m.toNat, lower := low }

/-- SPN writes IQREF by the clamp of R233: not in RAMP, SYNC or HOLDUP. -/
def iqClamped (s : State) : Bool := spnState s != 3 && spnState s != 4 && spnState s != 8

/-- ILIM follows the clamp of R233; its interrupt rises once. -/
def ilimTick (s : State) : State :=
  let on := iqClamped s && decide (iLim s < (s.mortInt 0x6D).natAbs)
  let up := on && !s.spn.ilim
  let s := (s.setSpn { s.spn with ilim := on }).setBit (Reg.STAT pgSPN) 13 on
  if up then s.raise pgSPN 3 else s

/-- SFLAGS (R227). -/
def sflags (s : State) : Nat :=
  s.spn.pred.toNat + 2 * s.spn.recon.toNat + 4 * (s.spn.vlim || s.spn.cap).toNat + 8 * s.spn.ilim.toNat +
  16 * (spnState s == 2 || spnState s == 3).toNat + 32 * (s.ticks % 32 == 3).toNat + 256 * spnState s

/-- ANG (R229). -/
def angTick (s : State) : State :=
  let th := (s.mort 0x68).toNat
  let x := s.spn
  let fwd := (th + 4294967296 - x.theta) % 4294967296
  let w := if decide (fwd < 2147483648) && decide (th < x.theta) then (x.wraps + 1) % polePairs s else x.wraps % polePairs s
  let age := if s.leng.vdqNew then 0 else x.runAge + 1
  let s := s.setSpn { x with theta := th, wraps := w, runAge := age }
  let dth := s.mortInt (s.fld Reg.SPN_OBS 0 12 + 13)
  let a := ((w * 4294967296 + th : Nat) : Int) / (polePairs s : Int) + (age : Int) * dth / (32 * polePairs s : Int) +
    (s.fld Reg.SPN_ANG_OFS 0 16 * 65536 : Int)
  s.putMort 0x25 (wordOfInt a)

/-- SPD_CMD's value (R244): once a PWM period its filter takes the last measurement in. -/
def spdTick (s : State) (num den : Nat) : State :=
  let md := s.fld Reg.SPN_SPDCMD_CFG 0 2
  let full := 2147483648
  let x :=
    if md = 0 then 0
    else if den = 0 then (if s.bit Reg.SPN_SPDCMD_VAL 31 then 0 else s.spn.spdIn)
    else min full (if md = 3 then num * full / (den * max 1 (s.fld Reg.SPN_SPDCMD_CFG 12 20)) else num * full / den)
  let s := if den = 0 then s else s.setBit Reg.SPN_SPDCMD_VAL 31 false
  let tc := s.fld Reg.SPN_SPDCMD_CFG 4 4
  let y := s.spn.spdFil
  let y := if s.ticks % 32 = 0 then ((y : Int) + ((x : Int) - (y : Int)) / ((2 ^ tc : Nat) : Int)).toNat else y
  let s := s.setSpn { s.spn with spdIn := x, spdFil := y }
  (s.setFld Reg.SPN_SPDCMD_VAL 0 16 (min 65535 (y / 32768))).setMort 0x24 (Word.ofNat (min 0x7FFFFFFF y))

/-- Words that SPN writes in step 3 of a full exchange (R227, R229 to R235). -/
def spnWords (s : State) : State :=
  let s := setEffTick (ilimTick (currentMean s))
  let s := if s.ticks % 32 = 3 then
      (((s.putMort 0x60 (wordOfInt s.spn.cur.1)).putMort 0x61 (wordOfInt s.spn.cur.2)).putMort 0x62
        (wordOfInt (sat32 s.spn.vPrev.1))).putMort 0x63 (wordOfInt (sat32 s.spn.vPrev.2))
    else s
  let s := (s.putMort 0x65 (Word.ofNat (sflags s))).putMort 0x66 (wordOfInt (sat32 (s.spn.setEff / 3125)))
  let s := (s.putMort 0x67 (Word.ofNat (fangWord s))).putMort 0x6C (wordOfInt (sat32 (idref s)))
  let s := s.putMort 0x6E (wordOfInt (sat32 (iqref s)))
  let s := angTick s
  s.setFld Reg.SPN_MEAS 0 16 (bitsOf 16 (s.mortInt 0x69 / 131072))

/-- VBUS: the mean of VIN over the last 32 ticks, in every exchange and in SPN_MEAS (R227). -/
def vbusTick (s : State) (toMortar : Bool) (mv : Nat) : State :=
  let l := (mv :: s.spn.vins).take 32
  let s := s.setSpn { s.spn with vins := l }
  let s := s.setFld Reg.SPN_MEAS 16 16 (min 65535 (l.sum / (10 * l.length)))
  if toMortar then s.putMort 0x64 (wordOfInt (sat32 ((l.sum : Int) * 2147483648 / (64000 * l.length : Nat)))) else s

end Sys2Proof.Machine
end

