-- ==== Sys2Proof/Machine/Spindle.lean ====
section
/-! DEFINITION. The meanings of the spindle's commands (R234 to R244). -/
namespace Sys2Proof.Machine

/-! ## Modes -/

/-- The cause of a fault has gone: the stage sensor below 120 °C for cause 2 (R243). -/
def faultGone (s : State) : Bool := s.fld Reg.SPN_FAULT 0 3 != 2 || decide (s.fld Reg.SPN_FAULT 8 8 < 120)

/-- What a write of MODE does by the present state (R238): none where it is refused, 15 where the state stays, else the
state entered. -/
def modeAction (s : State) (md : Nat) : Option Nat :=
  let st := spnState s
  if st = 8 then none
  else if st = 9 then (if md = 0 ∧ faultGone s then some 0 else none)
  else if (md = 1 ∨ md = 2) ∧ (ovState s = 2 ∨ ovState s = 3) then none
  else if md = 0 then (if st = 0 then some 15 else some 0)
  else if md = 1 then (if st = 0 ∨ st = 7 then some 1 else if st = 6 then some 5 else some 15)
  else if md = 2 then (if 1 ≤ st ∧ st ≤ 3 then some 7 else if st = 4 ∨ st = 5 then some 6 else some 15)
  else if md = 3 then (if st = 7 then some 15 else some 7)
  else none

/-- Takes what a mode write asks for: a fault's cause is left with FAULT; a SETEFF kept for a restart moves again, from its
value (R237, R238). -/
def modeEnter (act : Nat) (s : State) : State :=
  if act = 15 then s
  else
    let s := s.setSpn { s.spn with keep := false, zvBack := false }
    let s := if act = 0 then s.setFld Reg.SPN_FAULT 0 3 0 else s
    spnEnter s act

/-- A write of SPN_MODE (R238, R245, R275). -/
def spnModeWrite (m : Master) (v : Word) (s : State) : State :=
  match modeAction s (fieldOf v 0 3) with
  | some act => regWrite s m Reg.SPN_MODE 4 v (modeEnter act)
  | none => regWriteIf s m Reg.SPN_MODE 4 v false id

/-- SPN_MODE_OFF (R238). -/
def execSpnModeOff (m : Master) (s : State) : Host.Outcome State Fault Refusal := done s (spnModeWrite m 0#32 s)
/-- SPN_MODE_RUN (R234, R238). -/
def execSpnModeRun (m : Master) (s : State) : Host.Outcome State Fault Refusal := done s (spnModeWrite m 1#32 s)
/-- SPN_MODE_BRAKE (R238, R239). -/
def execSpnModeBrake (m : Master) (s : State) : Host.Outcome State Fault Refusal := done s (spnModeWrite m 2#32 s)
/-- SPN_MODE_ZEROV (R238, R240). -/
def execSpnModeZerov (m : Master) (s : State) : Host.Outcome State Fault Refusal := done s (spnModeWrite m 3#32 s)

/-- PWR forces ZEROV as a mode write would, without a write of MODE (R273). -/
def forceZerov (s : State) : State :=
  match modeAction s 3 with
  | some act => modeEnter act s
  | none => s

/-! ## Faults -/

/-- SPN enters FAULT (R243): all switches open, the cause reported and recorded. -/
def spnFault (s : State) (cause : Nat) : State :=
  if spnState s = 9 then s
  else
    let s := (spnEnter (s.setFld Reg.SPN_FAULT 0 3 cause) 9).setSpn { s.spn with since := s.ticks, keep := false, zvBack := false }
    let s := (s.raise pgSPN 6).err pgSPN (0x0F01 + cause) 0
    s.report pgSPN (0x0F01 + cause) 15 []

/-! ## Starting -/

/-- The zero of ANG changes at an entry of SYNC or ALIGN (R229). -/
def newAngZero (s : State) : State :=
  (s.addMod Reg.SPN_ANG_EPOCH 0 16 1).setSpn { s.spn with wraps := 0, theta := (s.mort 0x68).toNat }

/-- Electrical angle of one run of P7 at a speed in rpm (R234). -/
def runAngle (s : State) (rpm : Int) : Int := rpm * (polePairs s : Int) * 4294967296 / 3000000

/-- MEASURE ends with a speed in rpm, an electrical angle and the back-EMF's phase peak in µV: below 20 mV counts as
standstill (R234). -/
def measureEnd (speed : Int) (angle emf : Nat) (s : State) : State :=
  if spnState s = 1 then
    let still := decide (emf < 20000)
    let fwd := s.fld Reg.SPN_FLY 0 10
    let rev := s.fld Reg.SPN_FLY 16 10
    let dec := if still then 0 else if 0 < speed then (if (fwd : Int) < speed then 1 else 0) else if (rev : Int) < -speed then 2 else 3
    let s := s.setReg Reg.SPN_FLYRES (Word.ofNat (bitsOf 16 (clampInt (-32768) 32767 speed) + dec * 65536))
    if dec = 1 then
      let pb := s.fld Reg.SPN_OBS 0 12
      let s := (s.putMort (pb + 12) (Word.ofNat angle)).putMort (pb + 13) (wordOfInt (runAngle s speed))
      spnEnter (newAngZero (s.setSpn { s.spn with syncIq := 0 })) 4
    else if dec = 2 then spnEnter (s.setSpn { s.spn with zvBack := true }) 7
    else spnEnter (newAngZero s) 2
  else s

/-- SPN_MEASURE_END: the 5 ms of MEASURE are over (R234, R235). -/
def execSpnMeasureEnd (speed : Int) (angle emf : Nat) (s : State) : Host.Outcome State Fault Refusal :=
  done s (if s.spn.since + 8000 ≤ s.ticks then measureEnd speed angle emf s else s)

/-- SPN_ALIGN_END (R235): TALIGN is over, the ramp begins. -/
def execSpnAlignEnd (s : State) : Host.Outcome State Fault Refusal := done s (if spnState s = 2 ∧ s.spn.since + s.fld Reg.SPN_ALIGN 16 8 * 1600 ≤ s.ticks then spnEnter s 3 else s)

/-- The observer has locked for LOCKN runs: SYNC holds IRAMP (R235). -/
def spnLock (s : State) : State :=
  if spnState s = 3 ∧ s.fld Reg.SPN_SYNC 0 8 ≤ s.spn.lockRun then spnEnter (newAngZero (s.setSpn { s.spn with syncIq := sigMA (s.fld Reg.SPN_OLR 0 12 : Int) })) 4 else s

/-- SPN_LOCK (R235). -/
def execSpnLock (s : State) : Host.Outcome State Fault Refusal := done s (spnLock s)

/-- SYNC ends in RUN: the speed integrator takes IQREF, SETEFF starts from OMEGA unless it was kept (R235, R237). -/
def syncEnd (s : State) : State :=
  if spnState s = 4 then
    let s := s.putMort (s.fld Reg.SPN_OBS 16 12) (wordOfInt s.spn.syncIq)
    let s := if s.spn.keep then s else s.setSpn { s.spn with setEff := s.mortInt 0x69 * 3125 }
    (spnEnter (s.setSpn { s.spn with keep := false }) 5).raise pgSPN 0
  else s

/-- SPN_SYNC_END: IQREF has held IRAMP for 1 ms (R235). -/
def execSpnSyncEnd (s : State) : Host.Outcome State Fault Refusal :=
  done s (if s.spn.since + 1600 ≤ s.ticks then syncEnd s else s)

/-- SPN_RAMP_TIMEOUT (R236). -/
def execSpnRampTimeout (s : State) : Host.Outcome State Fault Refusal := done s (if spnState s = 3 ∧ s.spn.since + s.fld Reg.SPN_SYNC 16 12 * 1600 ≤ s.ticks then spnFault s 3 else s)

/-- SPN_ZEROV_TIMEOUT (R236). -/
def execSpnZerovTimeout (s : State) : Host.Outcome State Fault Refusal :=
  done s (if spnState s = 7 ∧ s.spn.zvBack ∧ s.spn.since + s.fld Reg.SPN_ZV 16 12 * 160000 ≤ s.ticks then spnFault s 5 else s)

/-- The observer has lost lock for 64 runs: MEASURE with SETEFF kept, or FAULT at a second loss within 1 s (R237). -/
def lockLoss (s : State) : State :=
  if (spnState s = 5 ∨ spnState s = 6) ∧ 64 ≤ s.spn.lostRun then
    let again := match s.spn.lossTick with
      | some t => decide (s.ticks < t + ticksPerSecond)
      | none => false
    let s := ((s.addSat Reg.SPN_CNT 24 8 1).raise pgSPN 4).setSpn { s.spn with lossTick := some s.ticks }
    if again then spnFault s 4 else spnEnter (s.setSpn { s.spn with keep := true }) 1
  else s

/-- SPN_LOCK_LOSS (R237). -/
def execSpnLockLoss (s : State) : Host.Outcome State Fault Refusal := done s (lockLoss s)

/-! ## Braking -/

/-- SPN_BRAKE_TO_ZEROV: OMEGA has fallen below RAMPSPD (R239). -/
def execSpnBrakeToZerov (s : State) : Host.Outcome State Fault Refusal :=
  done s (if spnState s = 6 ∧ s.mortInt 0x69 < sigRpm (s.fld Reg.SPN_OLR 12 10 * 10 : Nat) then spnEnter (s.setSpn { s.spn with zvBack := false }) 7 else s)

/-- The stop condition of ZEROV holds, currents below 50 mA for 50 ms: OFF, or ALIGN after a backward start (R234, R240). -/
def spnStop (s : State) : State :=
  if spnState s = 7 ∧ 2500 ≤ s.spn.lowRun then
    if s.spn.zvBack then spnEnter (newAngZero (s.setSpn { s.spn with zvBack := false })) 2
    else (spnEnter s 0).raise pgSPN 1
  else s

/-- SPN_STOP (R240). -/
def execSpnStop (s : State) : Host.Outcome State Fault Refusal := done s (spnStop s)

/-! ## Limits and trips -/

/-- SPN_NOLOOP: no results of P7 for 4 periods (R231). -/
def execSpnNoloop (s : State) : Host.Outcome State Fault Refusal :=
  done s (if 4 ≤ s.spn.age then (s.raise pgSPN 8).err pgSPN 0x0F07 0 else s)

/-- SPN_VLIM_CLEAR: the demand stayed below 0.98 VMAX for 16 periods (R231). -/
def execSpnVlimClear (s : State) : Host.Outcome State Fault Refusal :=
  done s (if 16 ≤ s.spn.calm then (s.setSpn { s.spn with vlim := false }).setBit (Reg.STAT pgSPN) 12 s.spn.cap else s)

/-- An over-current trip: the switches stay off for the period; the fourth within 16 periods is a fault (R243). -/
def overCurrent (s : State) : State :=
  let p := s.ticks / 32
  let s := (s.addSat Reg.SPN_CNT 16 8 1).raise pgSPN 5
  let l := (p :: s.spn.trips).filter (fun q => decide (p < q + 16))
  let s := s.setSpn { s.spn with trips := l, offPeriod := some p }
  if 4 ≤ l.length then spnFault (s.setSpn { s.spn with trips := [] }) 1 else s

/-- SPN_OVER_CURRENT (R243). -/
def execSpnOverCurrent (s : State) : Host.Outcome State Fault Refusal := done s (overCurrent s)

/-- SPN_OVER_TEMP: the stage sensor reads above 135 °C (R243). -/
def execSpnOverTemp (temp : Nat) (s : State) : Host.Outcome State Fault Refusal :=
  done s (let t := s.setFld Reg.SPN_FAULT 8 8 (min 200 temp); if 135 < temp then spnFault t 2 else t)

/-- No rising edge of SPD_CMD for 1 s in frequency mode (R244). -/
def spdNosig (s : State) : State :=
  if s.fld Reg.SPN_SPDCMD_CFG 0 2 = 3 then
    ((s.setSpn { s.spn with spdIn := 0 }).setBit Reg.SPN_SPDCMD_VAL 31 true).raise pgSPN 7
  else s

/-- SPDCMD_NOSIG (R244). -/
def execSpdcmdNosig (s : State) : Host.Outcome State Fault Refusal := done s (spdNosig s)

end Sys2Proof.Machine
end

