-- ==== Sys2Proof/Machine/Steppers.lean ====
section
/-! DEFINITION. The meanings of the stepper commands (R249, R250, R253 to R262). -/
namespace Sys2Proof.Machine

/-! ## Effects of register writes -/

/-- The move that a group's registers describe. -/
def moveOf (s : State) (g : Nat) : StepMove :=
  { d := [s.sfld (Reg.STP_Q_D0 g) 0 24, s.sfld (Reg.STP_Q_D1 g) 0 24, s.sfld (Reg.STP_Q_D2 g) 0 24],
    v := s.fld (Reg.STP_Q_V g) 0 19, a := s.fld (Reg.STP_Q_A g) 0 16, j := s.fld (Reg.STP_Q_J g) 0 16,
    scurve := s.bit (Reg.STP_Q_CTRL g) 0, blend := s.bit (Reg.STP_Q_CTRL g) 1, ihome := s.bit (Reg.STP_Q_CTRL g) 2,
    irq := s.bit (Reg.STP_Q_CTRL g) 3, tag := s.fld (Reg.STP_Q_CTRL g) 8 8 }

/-- Where an axis stands when the moves queued in its group have ended, in microsteps. -/
def endPosition (s : State) (g a : Nat) : Int :=
  let x := s.grp g
  let b := match x.run with
    | some r => if r.stop then axP s a else (r.start.getD a 0 + toUnits (r.move.d.getD a 0)) / (fracUnit : Int)
    | none => axP s a
  x.queue.foldl (fun p m => p + m.d.getD a 0) b

/-- The first failed check of a push, in the order of R254; 0 where none fails. -/
def pushCheck (s : State) (g : Nat) (m : StepMove) : Nat :=
  if 16 ≤ (s.grp g).queue.length then 1
  else if m.d.all (· == 0) then 2
  else if (List.range 3).any (fun a => m.d.getD a 0 != 0 && !inGroup s g a) then 3
  else if m.v = 0 ∨ 400000 < m.v ∨ m.a = 0 ∨ 50000 < m.a ∨ (m.j = 0 ∧ m.scurve = true) then 4
  else if (List.range 3).any (fun a => inGroup s g a &&
      (let p := endPosition s g a + m.d.getD a 0; decide (p < axMin s a) || decide (axMax s a < p))) then 5
  else 0

/-- STP_Q_PUSH commits a move (R254). -/
def stpPush (g : Nat) (v : Word) (s : State) : State :=
  if fieldOf v 0 1 = 0 ∨ s.bit (Reg.STAT pgSTP) 8 then s
  else
    let m := moveOf s g
    let c := pushCheck s g m
    if c = 0 then
      let x := s.grp g
      groupRegs (s.setGrp g { x with queue := x.queue ++ [m] }) g
    else ((s.setFld (Reg.STP_Q_STAT g) 24 4 c).raise pgSTP 5).err pgSTP 0x1002 c

/-- STP_CMD: stop of a group, park (R258, R260). -/
def stpCmd (v : Word) (s : State) : State :=
  let s := if fieldOf v 0 1 = 1 then groupStop s 0 else s
  let s := if fieldOf v 1 1 = 1 then groupStop s 1 else s
  if fieldOf v 8 1 = 1 then parkStart s else s

/-- The halfwords of a number of bytes. -/
def halfwords : Nat → List Nat → List Nat
  | 0, _ => []
  | n + 1, b => leNat (b.take 2) :: halfwords n (b.drop 2)

/-- Each number is at least the one before. -/
def nonDecreasing : List Nat → Bool
  | a :: b :: t => decide (a ≤ b) && nonDecreasing (b :: t)
  | _ => true

/-- STP_TLOAD_CTRL.GO (R249): the load is checked whole, and started or refused. -/
def tableLoadGo (v : Word) (s : State) : State :=
  if fieldOf v 31 1 = 0 ∨ s.bit Reg.STP_TLOAD_CTRL 31 then s
  else
    let r := memRead s .cdma (s.reg Reg.STP_TLOAD_SRC).toNat 516
    let s := r.2.2
    let q := halfwords 257 r.1
    let busy := (List.range 3).any (fun a => s.bit (Reg.STP_AX_CFG a) 6 && axMode s a != 0)
    if busy ∨ r.2.1 = true ∨ q.headD 1 ≠ 0 ∨ !nonDecreasing q ∨ q.any (fun x => decide (1023 < x)) then
      (s.raise pgSTP 6).err pgSTP 0x1005 0
    else (s.setSt { s.stp with loadBuf := q }).setBit Reg.STP_TLOAD_CTRL 31 true

/-- STP_AX_POS: the counter moves, the table address stays (R250). -/
def axPosWritten (a : Nat) (v : Word) (s : State) : State :=
  let x := s.axis a
  let ad : Int := ((axP s a + x.phofs) % 1024)
  let p := signedOf 28 (fieldOf v 0 28)
  s.setAxis a { x with pos := toUnits p, phofs := ((ad - p) % 1024).toNat }

/-- STP_AX_CFG or STP_AX_CUR written: a parked axis no longer holds IHOLD in OFF (R252). -/
def axUnpark (a : Nat) (s : State) : State :=
  let x := s.axis a
  if x.park = .held then s.setAxis a { x with park := .none, sel := if axMode s a = 0 then .off else x.sel } else s

/-- STP_AX_CFG: an axis put to OFF has no current; one put into use carries IRUN until its hold time is over (R252, R262). -/
def axModeWritten (a : Nat) (oldMode : Nat) (s : State) : State :=
  let s := axUnpark a s
  if axMode s a = oldMode then s
  else s.setAxis a { s.axis a with sel := if axMode s a = 0 then .off else .run, rest := s.ticks, limited := false }

/-! ## Commands -/

/-- STP_PUSH: group `g`'s STP_Q_PUSH is written. -/
def execStpPush (m : Master) (g : Nat) (v : Word) (s : State) : Host.Outcome State Fault Refusal :=
  done s (regWrite s m (Reg.STP_Q_PUSH g) 4 v (stpPush g v))

/-- STP_MOVE_END. -/
def execStpMoveEnd (g : Nat) (s : State) : Host.Outcome State Fault Refusal := done s (moveEnd g s)

/-- STP_STOP: STP_CMD written with the stop bits of the groups. -/
def execStpStop (m : Master) (v : Word) (s : State) : Host.Outcome State Fault Refusal :=
  done s (regWrite s m Reg.STP_CMD 4 v (stpCmd v))

/-- STP_PARK: STP_CMD written with PARK. -/
def execStpPark (m : Master) (v : Word) (s : State) : Host.Outcome State Fault Refusal :=
  done s (regWrite s m Reg.STP_CMD 4 v (stpCmd v))

/-- STP_PARK_DONE. -/
def execStpParkDone (s : State) : Host.Outcome State Fault Refusal := done s (parkDone s)

/-- A bridge fault switches an axis off and stops the others of its group (R261). -/
def stpBridgeFault (a bits : Nat) (s : State) : State :=
  let g := axGrp s a
  let s := if axMode s a = 1 then groupStop s g else s
  let s := s.setReg (Reg.STP_AX_FLT a) (s.reg (Reg.STP_AX_FLT a) ||| Word.ofNat (bits % 8))
  let s := s.setFld (Reg.STP_AX_CFG a) 0 2 0
  let s := s.setAxis a { s.axis a with vel := 0, sel := .off, park := .none, limited := false }
  (s.raise pgSTP 3).err pgSTP 0x1004 a

/-- STP_BRIDGE_FAULT: over-current 1, over-temperature 2, open load 4 on axis `a`. -/
def execStpBridgeFault (a bits : Nat) (s : State) : Host.Outcome State Fault Refusal := done s (stpBridgeFault a bits s)

/-- STP_TABLE_LOAD. -/
def execStpTableLoad (m : Master) (v : Word) (s : State) : Host.Outcome State Fault Refusal :=
  done s (regWrite s m Reg.STP_TLOAD_CTRL 4 v (tableLoadGo v))

/-- The load ends: table 1 holds the entries (R249). -/
def tableLoadDone (s : State) : State :=
  if s.bit Reg.STP_TLOAD_CTRL 31 then
    (s.setSt { s.stp with table1 := s.stp.loadBuf, loadBuf := [] }).setBit Reg.STP_TLOAD_CTRL 31 false
  else s

/-- STP_TABLE_LOAD_DONE. -/
def execStpTableLoadDone (s : State) : Host.Outcome State Fault Refusal := done s (tableLoadDone s)

/-- THOLD ms at standstill have passed: the current of the axis falls to IHOLD (R262). -/
def holdCurrent (a : Nat) (s : State) : State :=
  let x := s.axis a
  if x.vel = 0 ∧ (x.sel = .run ∨ x.sel = .home) ∧ x.rest + s.fld (Reg.STP_AX_HOLD a) 16 12 * 1600 ≤ s.ticks then
    setSel s a .hold else s

/-- STP_HOLD_CURRENT. -/
def execStpHoldCurrent (a : Nat) (s : State) : Host.Outcome State Fault Refusal := done s (holdCurrent a s)

/-- STP_AX_POS_WRITE. -/
def execStpAxPosWrite (m : Master) (a : Nat) (v : Word) (s : State) : Host.Outcome State Fault Refusal :=
  done s (regWrite s m (Reg.STP_AX_POS a) 4 v (fun t => axPosWritten a v (t.setReg (Reg.STP_AX_POS a) (s.reg (Reg.STP_AX_POS a)))))

/-- STP_AX_MODE_WRITE: STP_AX_CFG of axis `a` is written. -/
def execStpAxModeWrite (m : Master) (a : Nat) (v : Word) (s : State) : Host.Outcome State Fault Refusal :=
  done s (regWrite s m (Reg.STP_AX_CFG a) 4 v (axModeWritten a (axMode s a)))

end Sys2Proof.Machine
end

