-- ==== Sys2Proof/Machine/HqIo.lean ====
section
/-! DEFINITION. How HQ takes up commands and moves their data: checks (R347, R348, R356), PRPs (R347), snapshots and the data of
reading commands (R344, R345, R377 to R379), Flush (R344), UNLOAD and shutdown (R338, R361). -/
namespace Sys2Proof.Machine

/-! ## Checks (R14, R347, R356) -/

/-- Reserved bits of an entry by queue kind and opcode: word and mask (R347, R360; the layouts are those of NVM Express). -/
def reservedBits (admin : Bool) (op : Nat) : List (Nat × Nat) :=
  let all := [(0, 0x3C00)]
  let tail := fun (i : Nat) => (List.range (16 - i)).map (fun k => (i + k, 0xFFFFFFFF))
  all ++
  (if admin then
    if op = 0x00 ∨ op = 0x04 then [(10, 0xFFFF0000)] ++ tail 11
    else if op = 0x01 then [(11, 0xFFF8)] ++ tail 13
    else if op = 0x05 then [(11, 0xFFFC)] ++ tail 12
    else if op = 0x08 then tail 11
    else if op = 0xC1 then [(10, 0xFFFFFFF0)] ++ tail 12
    else if op = 0xC2 then [(11, 0xFFFFFFFF)]
    else if op = 0xC3 then tail 11
    else if op = 0xC4 then [(10, 0xFFFFFFFC)] ++ tail 14
    else []
  else if op = 0x00 then tail 10
  else if op = 0x01 then [(12, 0x03FF0000), (13, 0xFFFFFF00)]
  else if op = 0x02 ∨ op = 0x05 then [(12, 0x03FF0000), (13, 0xFFFFFF00)]
  else if op = 0x08 then [(12, 0x01FF0000)]
  else if op = 0x09 then [(10, 0xFFFFFF00), (11, 0xFFFFFFF8)] ++ tail 12
  else [])

/-- Reserved bits that the ACTION of a Disc Control or the SCOPE of a Media Verify leaves unused (R361, R364). -/
def reservedMore (c : Ctx) : List (Nat × Nat) :=
  if !c.admin then []
  else if c.opc = 0xC1 then (if c.f 10 0 4 = 1 then [(11, 0xFFFFC000)] else if c.f 10 0 4 ≤ 3 then [(11, 0xFFFFFFFF)] else [])
  else if c.opc = 0xC4 then
    (match c.f 10 0 2 with
    | 0 => []
    | 1 => [(11, 0xFFFFC000), (12, 0xFFFFFFFF), (13, 0xFFFFFFFF)]
    | _ => [(11, 0xFFFFFFFF), (12, 0xFFFFFFFF), (13, 0xFFFFFFFF)])
  else []

/-- A reserved field of an entry is nonzero. -/
def reservedSet (c : Ctx) : Bool :=
  (reservedBits c.admin c.opc ++ reservedMore c).any (fun q => (c.dw q.1 &&& Word.ofNat q.2) != 0#32)

/-- Fused operation, PSDT or PRINFO nonzero (R347). -/
def formBad (c : Ctx) : Bool :=
  c.f 0 8 2 != 0 || c.f 0 14 2 != 0 || (!c.admin && (c.opc == 1 || c.opc == 2 || c.opc == 5 || c.opc == 8) && c.f 12 26 4 != 0)

/-- The namespace field is one the command may name (R347, R356, R360). -/
def nsidOk (c : Ctx) : Bool :=
  let n := (c.dw 1).toNat
  if c.admin then (if 0xC1 ≤ c.opc ∧ c.opc ≤ 0xC4 then n == 0 || n == 1 else true)
  else n == 1 || (c.opc == 0x00 && n == 0xFFFFFFFF)

/-- An opcode of R356. -/
def opcodeKnown (c : Ctx) : Bool :=
  if c.admin then [0x00, 0x01, 0x02, 0x04, 0x05, 0x06, 0x08, 0x09, 0x0A, 0x0C, 0x10, 0x11, 0x18, 0xC1, 0xC2, 0xC3, 0xC4].contains c.opc
  else [0x00, 0x01, 0x02, 0x05, 0x08, 0x09].contains c.opc

/-- An I/O command waits for an UNLOAD with a lower number, its namespace is not there (R359, R361), or a fault of the focus
bridge leaves the disc out of focus (R189). -/
def notReady (s : State) (c : Ctx) : Bool :=
  !mounted s || s.sv.focusLost || s.hq.ctx.any (fun d => d.admin && d.opc == 0xC1 && (d.f 10 0 4 == 2 || d.f 10 0 4 == 3) && d.phase == .running && seqBefore d.seq c.seq)

/-- Bytes of data a command moves. -/
def dataBytes (c : Ctx) : Nat :=
  if c.admin then
    if c.opc = 0x02 then 4 * (c.f 10 16 16 + c.f 11 0 16 * 65536 + 1)
    else if c.opc = 0x06 then 4096
    else if c.opc = 0x11 then 4 * ((c.dw 10).toNat + 1)
    else if c.opc = 0xC2 then 4096
    else if c.opc = 0xC3 then 8192
    else if (c.opc = 0x09 ∨ c.opc = 0x0A) ∧ c.f 10 0 8 = 0x0C then 256
    else 0
  else if c.opc = 0x01 ∨ c.opc = 0x02 ∨ c.opc = 0x05 then 4096 * c.nlb
  else if c.opc = 0x09 then 16 * (c.f 10 0 8 + 1)
  else 0

/-- What is wrong with an entry, if anything: a transfer beyond MDTS is an Invalid Field (R14, R347, R353, R359). -/
def entryFault (s : State) (c : Ctx) : Option Nat :=
  if s.boot.phase = .recovery ∧ !c.admin then some stNotReady
  else if s.boot.phase = .recovery ∧ !([0x02, 0x06, 0x08, 0x10, 0x11].contains c.opc) then some stOpcode
  else if !opcodeKnown c then some stOpcode
  else if reservedSet c ∨ formBad c then some stField
  else if !nsidOk c then some stNamespace
  else if c.admin then (if 0x100000 < dataBytes c then some stField else none)
  else if notReady s c then some stNotReady
  else if c.opc = 0x00 then none
  else if c.modifying ∧ writeProt s then some stWriteProt
  else if c.opc = 0x09 then none
  else if 256 < c.nlb then some stField
  else if (s.reg Reg.XLT_NSZE).toNat < c.slba + c.nlb then some stLbaRange
  else none

/-- A command is answered with a status at once; a reserved field set is a violation (R347, R369). -/
def refuseEntry (s : State) (c : Ctx) (st : Nat) : State :=
  let s := if st = stField ∧ reservedSet c then hostViolation s 1 else s
  finish s c.seq st 0 (if c.admin then 0 else c.slba)

/-! ## PRPs (R347) -/

/-- Bytes the known pages hold. -/
def pagesHold (c : Ctx) : Nat := (c.pages.map (fun p => 4096 - p % 4096)).sum

/-- The whole PRP list has been read (R347). -/
def prpReady (c : Ctx) : Bool := c.prpNext.isNone && decide (dataBytes c ≤ pagesHold c)

/-- Asks for a page of a PRP list: as many entries as are needed, or all up to the page's end. -/
def fetchList (s : State) (seq addr need : Nat) : State :=
  let n := min (8 * need) (4096 - addr % 4096)
  hostRead (s.updCtx seq (fun c => { c with prpNext := some addr, buf := [] })) (.prp seq) addr 0 n

/-- The pages a command names: PRP1, and PRP2 as a page or a list (R347). -/
def startPrp (s : State) (c : Ctx) : State :=
  let n := dataBytes c
  let p1 := c.quad 6
  let p2 := c.quad 8
  let first := 4096 - p1 % 4096
  if n = 0 then s
  else if n ≤ first then s.updCtx c.seq (fun c => { c with pages := [p1] })
  else if n ≤ first + 4096 then
    if p2 % 4096 ≠ 0 then finish s c.seq stPrpOffset 0 0
    else if p2 = 0 then finish s c.seq stDataXfer 0 0
    else s.updCtx c.seq (fun c => { c with pages := [p1, p2] })
  else if p2 = 0 then finish s c.seq stDataXfer 0 0
  else fetchList (s.updCtx c.seq (fun c => { c with pages := [p1] })) c.seq p2 ((n - first + 4095) / 4096)

/-- Bytes a buffer holds from offset 0 on, in order. -/
def bufBytes (b : List (Nat × List Nat)) (n : Nat) : List Nat :=
  (List.range n).map (fun i => ((b.find? (fun q => decide (q.1 ≤ i) && decide (i < q.1 + q.2.length))).map (fun q => q.2.getD (i - q.1) 0)).getD 0)

/-- Requests of a kind are on their way or wait for a tag. -/
def awaits (s : State) (w : ReadFor) : Bool := s.pcie.reads.any (fun r => decide (r.what = w))

/-- A page of a PRP list has arrived (R347). -/
def listArrived (s : State) (c : Ctx) (addr : Nat) : State :=
  let n := dataBytes c
  let need := (n - pagesHold c + 4095) / 4096
  let room := (4096 - addr % 4096) / 8
  let k := min need room
  let es := (List.range k).map (fun i => leNat (((bufBytes c.buf (8 * k)).drop (8 * i)).take 8))
  let chained := decide (room < need)
  let data := if chained then es.dropLast else es
  if data.any (fun e => e == 0) then finish s c.seq stDataXfer 0 0
  else if data.any (fun e => e % 4096 != 0) then finish s c.seq stPrpOffset 0 0
  else
    let s := s.updCtx c.seq (fun c => { c with pages := c.pages ++ data, prpNext := none, buf := [] })
    if chained then
      match es.getLast? with
      | some l => if l = 0 then finish s c.seq stDataXfer 0 0
        else if l % 4096 ≠ 0 then finish s c.seq stPrpOffset 0 0
        else fetchList s c.seq l (need - data.length)
      | none => s
    else s

/-- PRP lists go on where a page of theirs has arrived. -/
def runPrp (s : State) (seq : Nat) : State :=
  match s.ctx seq with
  | some c => match c.prpNext with
    | some a => if c.phase = .running ∧ !awaits s (.prp seq) then listArrived s c a else s
    | none => s
  | none => s

/-! ## Reading commands (R344, R345, R377 to R379) -/

/-- A reading command is finished or fails by what it read: its pins are due to go (R379). -/
def endRead (s : State) (seq st lba : Nat) : State := endCmd s seq st 0 lba

/-- A reading command takes its map snapshot; its bricks are pinned (R344, R378, R379). -/
def takeSnapshot (s : State) (c : Ctx) : State :=
  if blockedBy s c then s
  else
    let r := lookup s c.slba c.nlb
    match r.1.2 with
    | some leaf => if c.heldBy = some leaf then s else r.2.updCtx c.seq (fun c => { c with heldBy := some leaf })
    | none =>
      let ps := piecesOf c.slba c.nlb r.1.1
      match ps.find? (fun p => p.st == 4) with
      | some p => finish s c.seq stUnrecovered 0 p.lba
      | none =>
        let bs := ((ps.filter (fun p => p.st == 1 || p.st == 3)).map (fun p => brickNo s p.psa)).eraseDups
        let s := bs.foldl (fun s n => s.updBrick n (fun b => { b with pins := min 255 (b.pins + 1) })) s
        let s := s.updCtx c.seq (fun c => { c with snap := some ps, pins := bs, heldBy := none })
        if c.opc = 0x05 then fetchPages s (.data c.seq) c.pages 0 (4096 * c.nlb) else s

/-- One block is given to a command: sent, or compared with the host's data once that is there (R346, R378). -/
def giveBlock (s : State) (c : Ctx) (lba : Nat) (bytes : List Nat) : State :=
  let off := 4096 * (lba - c.slba)
  let note := fun (s : State) => s.updCtx c.seq (fun c => { c with sent := lba :: c.sent })
  if c.opc = 0x02 then note (sendPages s c.pages off bytes)
  else if awaits s (.data c.seq) then s
  else if (bufBytes c.buf (4096 * c.nlb)).drop off |>.take 4096 |> (· == bytes) then note s
  else endRead s c.seq stCompare lba

/-- Blocks of holes and ZERO extents (R378). -/
def zeroBlocks (c : Ctx) : List Nat :=
  (c.snap.getD []).flatMap (fun p => if p.st = 0 ∨ p.st = 2 then ((List.range p.len).map (fun k => p.lba + k)).filter (fun b => !c.sent.contains b) else [])

/-- A command still runs. -/
def stillRuns (s : State) (seq : Nat) : Option Ctx := (s.ctx seq).bind (fun c => if c.phase = .running then some c else none)

/-- Gives a command what the read path has of its blocks (R379). -/
def serveBlock (seq : Nat) (s : State) (b : Nat × Nat × Nat) : State :=
  match stillRuns s seq with
  | none => s
  | some c => match readBlock s b.2.1 b.2.2 with
    | .waits => s
    | .again => readAnew s b.2.1 b.2.2
    | .lost => endRead s seq stUnrecovered b.1
    | .here bytes => giveBlock s c b.1 bytes

/-- A reading command goes on: snapshot, blocks, latch (R346). -/
def runReader (s : State) (seq : Nat) : State :=
  match stillRuns s seq with
  | none => s
  | some c =>
    if !c.reading ∨ !prpReady c then s
    else
      let s := if c.snap.isNone then takeSnapshot s c else s
      match stillRuns s seq with
      | none => s
      | some c =>
        if c.snap.isNone then s
        else
          let s := (zeroBlocks c).foldl (fun s b => match stillRuns s seq with
            | some c => giveBlock s c b (List.replicate 4096 0)
            | none => s) s
          let s := match stillRuns s seq with
            | some c => (dueBlocks c).foldl (serveBlock seq) s
            | none => s
          match stillRuns s seq with
          | some c => if c.snap.isSome ∧ c.nlb ≤ c.sent.length then endRead s seq stOk 0 else s
          | none => s

/-! ## Flush (R344, R381) -/

/-- Earlier modifying commands that have neither latched nor failed. -/
def earlierMods (s : State) (seq : Nat) : List Ctx := s.hq.ctx.filter (fun e => e.pendingMod && seqBefore e.seq seq)

/-- Partly filled slots that hold blocks of commands before a number are closed (R381). -/
def closeFor (s : State) (seq : Nat) : State :=
  [0, 1].foldl (fun s k => match fillSlot s k with
    | some x => if x.items.any (fun i => match i.seq with | some q => seqBefore q seq | none => false) then closeSlot s k else s
    | none => s) s

/-- A Flush arms what it needs and completes once every earlier modifying command has latched or failed (R344). -/
def runFlush (s : State) (seq : Nat) : State :=
  match stillRuns s seq with
  | none => s
  | some c =>
    if c.admin ∨ c.opc ≠ 0x00 then s
    else
      let s := closeFor s seq
      if (earlierMods s seq).isEmpty then finish s seq stOk 0 0 else s

/-! ## Dataset Management (R356, R384) -/

/-- The ranges of a Dataset Management command arrive: each lies within the namespace; with AD = 0 it has no effect (R356). -/
def runDsm (s : State) (seq : Nat) : State :=
  match stillRuns s seq with
  | none => s
  | some c =>
    if c.admin ∨ c.opc ≠ 0x09 ∨ !prpReady c then s
    else if c.step = 0 then
      fetchPages (s.updCtx seq (fun c => { c with step := 1 })) (.data seq) c.pages 0 (dataBytes c)
    else if awaits s (.data seq) then s
    else if (dsmRanges c).any (fun r => decide ((s.reg Reg.XLT_NSZE).toNat < r.1 + r.2)) then finish s seq stLbaRange 0 0
    else if c.f 11 2 1 = 0 then finish s seq stOk 0 0
    else s

/-! ## Units that are durable (R346, R384, R387, R399) -/

/-- The oldest unit is durable: what it belongs to goes on. -/
def journalDurable (s : State) : State :=
  match unitDurable s with
  | none => s
  | some u =>
    let s := s.setJr { s.xlt.jr with units := s.xlt.jr.units.drop 1 }
    let s := s.setFlash { s.flash with ended := s.flash.ended.filter (fun e => e.1 != 1 || decide (u.tag < e.2.1)) }
    match u.what with
    | .host q => finish s q stOk 0 0
    | .brick n st => brickDurable s n st
    | .copy => s
    | .ckpt => ckptDurable s
    | .seqres m => setMark s m

/-! ## UNLOAD and shutdown (R338, R361) -/

/-- The drive firmware stops the spindle through BRAKE and parks the axes (R238, R263, R361). -/
def stopDrive (s : State) : State := stpCmd 256#32 (spnModeWrite .sup 2#32 s)

/-- UNLOAD and PREPARE FLIP: earlier I/O ends, the partly filled groups are armed, a checkpoint is written, then the spindle
stops and the axes park (R361). -/
def runUnload (s : State) (seq : Nat) : State :=
  match stillRuns s seq with
  | none => s
  | some c =>
    if !c.admin ∨ c.opc ≠ 0xC1 ∨ (c.f 10 0 4 ≠ 2 ∧ c.f 10 0 4 ≠ 3) then s
    else if c.step = 0 then
      let s := closeFor s seq
      if s.hq.ctx.any (fun d => !d.admin && seqBefore d.seq seq && (d.phase == .accepted || d.phase == .running || d.phase == .latched)) ∨
          s.xlt.ckpt.isSome then s
      else
        let s := startCkpt s true
        s.updCtx seq (fun c => { c with step := 1 })
    else if s.xlt.ckpt.isSome then s
    else
      let s := unmount s
      let s := stopDrive s
      asyncEvent (finish s seq stOk 0 0) 4 0
/-- A normal shutdown ends once every command has run and its checkpoint is written; an abrupt one once the journal is
committed (R338). -/
def runShutdown (s : State) : State :=
  if s.hq.shut = 1 then
    let s := [0, 1].foldl closeSlot s
    if s.hq.ctx.any (fun c => c.phase != .done && !(c.admin && c.opc == 0x0C)) ∨ s.xlt.ckpt.isSome then s
    else
      let s := startCkpt s true
      s.setHq { s.hq with shut := 2 }
  else if (s.hq.shut = 2 ∧ s.xlt.ckpt.isNone) ∨ (s.hq.shut = 3 ∧ s.xlt.jr.units.isEmpty) then
    (s.setHq { s.hq with shut := 4 }).setFld aCSTS 2 2 2
  else s

end Sys2Proof.Machine
end

