-- ==== Sys2Proof/Machine/SecOps.lean ====
section
/-! DEFINITION. SEC's shared operations (R457 to R464, R472): keys, challenges, the attestation report, tokens. -/
namespace Sys2Proof.Machine

/-- Page of SEC. -/
abbrev pgSEC : Nat := 0x21

/-- Replaces SEC's own state. -/
def State.setSec (s : State) (x : Sec) : State := { s with sec := x }

/-- The bytes of an ASCII string. -/
def asciiBytes (t : String) : List Nat := t.toList.map (·.toNat)

/-- SHAKE256-256, byte 0 first (R457). -/
def hash256 (bs : List Nat) : List Nat := bytesLE 32 (Config.shake256 bs).toNat

/-- The device seed: option words 9 to 12, which SEC alone reads (R452, R458). -/
def deviceSeed (s : State) : List Nat := optBytes s.shadow 9 4
/-- The device serial number (R451). -/
def serial (s : State) : List Nat := bytesLE 8 (s.shadow 1).toNat
/-- ξ, from which the identity key pair is derived (R458). -/
def idSeed (s : State) : List Nat := hash256 (asciiBytes "LNTHIDK1" ++ deviceSeed s)
/-- The identity key is present (R458). -/
def idKey (s : State) : Bool := s.bit (Reg.STAT pgSEC) 8
/-- The identity public key, 1,952 bytes (R457, R458). -/
def idPk (s : State) : List Nat :=
  if idKey s then (List.range 1952).map (fun i => (Config.mldsaPkByte (idSeed s) i).toNat) else List.replicate 1952 0
/-- A signature by the identity key, 3,309 bytes. -/
def idSign (s : State) (msg : List Nat) : List Nat :=
  (List.range 3309).map (fun i => (Config.mldsaSigByte (idSeed s) msg i).toNat)

/-- The identity key is derived unless the factory block is bad (R458). -/
def deriveKey (s : State) : State := s.setBit (Reg.STAT pgSEC) 8 (!s.bit (Reg.STAT pgOPT) 8)

/-! ## Challenges -/

/-- A challenge as it would be drawn now (R459). -/
def challengeNow (s : State) : List Nat :=
  hash256 (asciiBytes "LNTHCHAL" ++ deviceSeed s ++ bytesLE 2 (s.fld Reg.EVR_POC 0 16) ++ bytesLE 8 s.sec.ctr ++ bytesLE 6 (s.ticks % 2 ^ 48))

/-- A slot's challenge is void. -/
def voidChallenge (s : State) (k : Nat) : State :=
  s.setSec { s.sec with chal := s.sec.chal.set k ⟨(s.sec.chal.getD k ⟨[], none⟩).bytes, none⟩ }

/-- Draws a challenge into a slot; the old one is void (R459). -/
def drawChallenge (s : State) (k : Nat) : List Nat × State :=
  let c := challengeNow s
  (c, s.setSec { s.sec with ctr := (s.sec.ctr + 1) % 2 ^ 64, chal := s.sec.chal.set k ⟨c, some s.ticks⟩ })

/-- The challenge of a slot is the given one, unspent and at most 60 s old (R459). -/
def challengeGood (s : State) (k : Nat) (c : List Nat) : Bool :=
  match s.sec.chal.getD k ⟨[], none⟩ with
  | ⟨b, some t⟩ => b == c && decide (s.ticks ≤ t + 60 * ticksPerSecond)
  | ⟨_, none⟩ => false

/-- Registers that hold a string of bytes, word by word. -/
def putWords (a : Nat) : Nat → List Nat → State → State
  | 0, _, s => s
  | n + 1, bs, s => putWords (a + 4) n (bs.drop 4) (s.setReg a (Word.ofNat (leNat (bs.take 4))))

/-- The bytes of `n` registers from `a` on. -/
def regBytes (s : State) (a n : Nat) : List Nat := (List.range n).flatMap (fun i => bytesLE 4 (s.reg (a + 4 * i)).toNat)

/-! ## Attestation -/

/-- OPTDIG (R462). -/
def optDig (s : State) : List Nat :=
  let f := s.shadow
  hash256 (optBytes f 0 9 ++ optBytes f 62 2 ++ optBytes (fun i => forceWord f i) 0 64)

/-- LOOPDIG: the programs with EN set, their registers and descriptor quads (R462). -/
def loopDig (s : State) : List Nat :=
  hash256 ((List.range 16).flatMap (fun p =>
    if s.bit (Reg.LENG_PROG_CFG p) 0 then
      let q := s.leng.progs.find? (fun x => x.prog == p)
      let n := ((q.map (·.nstage)).getD 0)
      let b := ((q.map (·.base)).getD 0)
      bytesLE 4 p ++ bytesLE 4 (s.reg (Reg.LENG_PROG_CFG p)).toNat ++ bytesLE 4 (s.reg (Reg.LENG_PROG_REG p)).toNat ++
        (List.range (4 * n)).flatMap (fun i => bytesLE 4 (s.mort (b + i)).toNat)
    else []))

/-- IMGDIG (R462). -/
def imgDig (s : State) : List Nat := regBytes s (Reg.SEC_IMGDIG 0) 8

/-- MEAS (R462). -/
def measNow (s : State) : List Nat :=
  hash256 (asciiBytes "LNTHMEAS" ++ bytesLE 4 (s.reg Reg.SEC_ROMVER).toNat ++ imgDig s ++ optDig s ++ loopDig s)

/-- Bytes 0 to 767 of the attestation report (R463). -/
def attestBody (s : State) (nonce : List Nat) : List Nat :=
  let flags := s.fld Reg.OPT_SEL 12 1 + 2 * s.fld Reg.OPT_SEL 13 1 + 4 * s.fld Reg.FLC_BOOT 0 1 + 8 * s.fld Reg.FLC_BOOT 1 1 +
    (if s.variant = .ln7720 then 16 else 0)
  asciiBytes "LNATTEST" ++ bytesLE 2 1 ++ bytesLE 2 flags ++ bytesLE 4 (s.reg Reg.SEC_ROMVER).toNat ++ serial s ++
    (nonce ++ List.replicate 16 0).take 16 ++ bytesLE 8 (s.fld Reg.EVR_POC 0 16 * 2 ^ 48 + s.timeUs % 2 ^ 48) ++
    bytesLE 4 (s.reg Reg.EVR_SEQ).toNat ++ bytesLE 4 (s.reg Reg.EVR_CLRCNT).toNat ++ bytesLE 4 s.sec.gen ++ bytesLE 4 0 ++
    measNow s ++ imgDig s ++ optDig s ++ loopDig s ++ ownerHash s.shadow ++ hash256 (idPk s) ++ s.sec.fwrev ++ List.replicate 504 0

/-- The 4,096-byte report (R463). -/
def attestReport (s : State) (nonce : List Nat) : List Nat :=
  let b := attestBody s nonce
  b ++ idSign s b ++ List.replicate 19 0

/-! ## Tokens -/

/-- Public key and signature of a token's buffer (R363, R464). -/
def tokenPk (b : List Nat) : List Nat := (b.drop 40).take 1952
def tokenSig (b : List Nat) : List Nat := (b.drop 1992).take 3309

/-- The step of R472 at which a clear token fails, 0 where it passes. -/
def clearStep (s : State) (b : List Nat) : Nat :=
  let c := b.take 32
  let n := leNat ((b.drop 32).take 4)
  if hash256 (tokenPk b) ≠ ownerHash s.shadow then 1
  else if !challengeGood s 1 c then 2
  else if n ≠ (s.reg Reg.EVR_CLRCNT).toNat then 3
  else if !Config.mldsaVerify (tokenPk b) (asciiBytes "LNTHEVRC" ++ c ++ serial s ++ bytesLE 4 n) (tokenSig b) then 4
  else 0

/-- SEC_RES.RESULT of a failed step (R475). -/
def stepResult (n : Nat) : Nat := match n with | 0 => 0 | 1 => 2 | 2 => 4 | 3 => 5 | _ => 3

/-- A clear operation: the challenge is spent; on success EVR acts, on failure a record is written (R459, R472). The step
that failed, and the state. -/
def runClear (s : State) (b : List Nat) : Nat × State :=
  let n := clearStep s b
  let s := voidChallenge s 1
  if n = 0 then
    let s := clearRun s (ownerHash s.shadow)
    (0, s.setSec { s.sec with waitSeq := some (((s.reg Reg.EVR_SEQ).toNat + 2 ^ 32 - 1) % 2 ^ 32) })
  else (n, ((s.err pgSEC 0x1D02 15).report pgSEC 0x1D02 15 [n]))

/-- The record of the last clear has reached flash, so that CLEAR completes (R472). -/
def clearWritten (s : State) : Bool :=
  match s.sec.waitSeq with
  | some q => !s.evr.queue.any (fun r => r.seq == q)
  | none => true

/-- The result of an option update's checks (R464): block number, key, challenge, signature. -/
def authResult (s : State) (b : List Nat) : Nat :=
  let k := leNat ((b.drop 32).take 4)
  let key := if ownerThere s.shadow then ownerHash s.shadow else optBytes s.shadow 5 4
  if k ≠ nextFreeBlock (fun i => (s.optWord i).v) ∨ 7 < k then 6
  else if hash256 (tokenPk b) ≠ key then 2
  else match s.sec.chal.getD 2 ⟨[], none⟩ with
    | ⟨c, _⟩ =>
      if !challengeGood s 2 c then 4
      else if !Config.mldsaVerify (tokenPk b)
          (asciiBytes "LNTHOPTA" ++ c ++ serial s ++ bytesLE 4 k ++ b.take 32) (tokenSig b) then 3
      else 0

/-! ## SRAM -/

/-- SEC reads its operands: none where the access tables refuse a page of them or a word answers with an error (R432,
R419). -/
def secRead (s : State) (a n : Nat) : Option (List Nat) × State :=
  match (List.range (n / 4096 + 2)).find? (fun i => decide (i * 4096 < n + 4095) && !sramGrants s .sec (min (a + i * 4096) (a + n - 1)) .read) with
  | some i => (none, aclRefuse s .sec (min (a + i * 4096) (a + n - 1)) 0 .read)
  | none =>
    let r := memRead s .sec a n
    (if r.2.1 then none else some r.1, r.2.2)

end Sys2Proof.Machine
end

