-- ==== Sys2Proof/Machine/Image.lean ====
section
/-! DEFINITION. Firmware images and slot logs (R438, R447 to R450, R460, R461). Offsets count from 0x0800_0000. -/
namespace Sys2Proof.Machine

/-! ## Slot logs (R447) -/

/-- Byte offset of log sector `i` of a slot (R438). -/
def logSector (slot i : Nat) : Nat := (if slot = 0 then 0x3FC000 else 0x7FC000) + 4096 * i
/-- Byte offset of a slot's image (R438). -/
def slotBase (slot : Nat) : Nat := if slot = 0 then 0 else 0x400000

/-- Words of a log sector that are not erased. -/
def logUsed (s : State) (slot i : Nat) : Nat :=
  ((List.range 512).filter (fun k => s.fw (logSector slot i / 8 + k) != .erased)).length

/-- Records of a log sector; one that reads torn or uncorrectable is ignored. -/
def logSectorRecs (s : State) (slot i : Nat) : List Nat :=
  (List.range (logUsed s slot i)).filterMap (fun k => (flashLook s (logSector slot i / 8 + k)).map (·.toNat))

/-- The records of a slot's log in order: a full sector comes before the one that was started after it. -/
def slotLog (s : State) (slot : Nat) : List Nat :=
  if logUsed s slot 1 = 512 then logSectorRecs s slot 1 ++ logSectorRecs s slot 0
  else logSectorRecs s slot 0 ++ logSectorRecs s slot 1

/-- TYPE of a record. -/
def recType (w : Nat) : Nat := w / 2 ^ 60
/-- The last COMMIT of a log. -/
def lastCommit (l : List Nat) : Option Nat := (l.filter (fun w => recType w == 2)).getLast?
/-- A slot is committed (R448). -/
def committed (s : State) (slot : Nat) : Bool :=
  ((slotLog s slot).filter (fun w => recType w == 1 || recType w == 2)).getLast?.map recType == some 2
/-- GEN of a slot (R448). -/
def slotGen (s : State) (slot : Nat) : Nat :=
  (((slotLog s slot).filter (fun w => recType w == 3)).getLast?.map (· % 2 ^ 32)).getD 0

/-- The three records (R447): reserved bits stay erased. -/
def recInvalid : BitVec 64 := BitVec.ofNat 64 0x1FFFFFFFFFFFFFFF
def recCommit (len digest : Nat) : BitVec 64 := BitVec.ofNat 64 (2 * 2 ^ 60 + 0xFFFF * 2 ^ 44 + len % 4096 * 2 ^ 32 + digest % 2 ^ 32)
def recActivate (gen : Nat) : BitVec 64 := BitVec.ofNat 64 (3 * 2 ^ 60 + 0xFFFFFFF * 2 ^ 32 + gen % 2 ^ 32)

/-- Drive firmware asks FLC for a program or an erase on behalf of a command. -/
def fwProgram (s : State) (off tag : Nat) (ws : List (BitVec 64)) : State := flcRequest s ⟨0, false, off, ws, tag⟩
def fwErase (s : State) (off tag : Nat) : State := flcRequest s ⟨0, true, off, [], tag⟩

/-- Words one after another from a word number on, in programs that stay in one row. -/
def fwWords (tag : Nat) : List (BitVec 64) → Nat → State → State
  | [], _, s => s
  | w :: t, k, s => fwWords tag t (k + 1) (fwProgram s (8 * k) tag [w])

/-- Appends records to a slot's log; a full sector is followed by the other one, begun with copies of the last COMMIT and
ACTIVATE, and is then erased (R447). -/
def logAppend (s : State) (slot tag : Nat) (rs : List (BitVec 64)) : State :=
  let u0 := logUsed s slot 0
  let u1 := logUsed s slot 1
  let a := if u0 = 512 ∧ u1 < 512 then 1 else if u1 = 512 then 0 else if u0 = 0 ∧ u1 ≠ 0 then 1 else 0
  let used := if a = 0 then u0 else u1
  let other := if a = 0 then u1 else u0
  let full := decide (512 < used + rs.length)
  if !full ∧ ¬(used = 0 ∧ other = 512) then fwWords tag rs (logSector slot a / 8 + used) s
  else
    let n := if full then 1 - a else a
    let l := slotLog s slot
    let copies := ((lastCommit l).toList ++ ((l.filter (fun w => recType w == 3)).getLast?).toList).map (BitVec.ofNat 64)
    let s := if full ∧ other ≠ 0 then fwErase s (logSector slot n) tag else s
    fwErase (fwWords tag (copies ++ rs) (logSector slot n / 8) s) (logSector slot (1 - n)) tag

/-! ## Images (R460, R461) -/

/-- Bytes of flash, none where a word reads with an error. -/
def flashData (s : State) (off n : Nat) : Option (List Nat) :=
  ((List.range ((n + 7) / 8)).mapM (fun i => flashLook s (off / 8 + i))).map (fun ws => (ws.flatMap (fun w => bytesLE 8 w.toNat)).take n)

/-- A little-endian field of an image header. -/
def hdrField (h : List Nat) (o n : Nat) : Nat := leNat ((h.drop o).take n)

/-- Step 2 of R461. -/
def imageForm (s : State) (h : List Nat) : Bool :=
  let len := hdrField h 8 2
  let load := hdrField h 12 4
  let body := hdrField h 28 4
  let entry := hdrField h 16 4
  h.take 6 == [0x4C, 0x4E, 0x46, 0x57, 0x01, 0x00] && decide (3 ≤ len) && decide (len ≤ 768) && decide (1 ≤ body) &&
    decide (body ≤ len * 4096 - 8192) && load % 4096 == 0 && sramRange load body && decide (load ≤ entry) && decide (entry < load + body) &&
    (hdrField h 6 2).testBit (if s.variant = .ln7740 then 0 else 1)

/-- The step of R461 from 2 on at which a slot's image fails, 0 where it is good. -/
def imageStep (s : State) (slot : Nat) : Nat :=
  match flashData s (slotBase slot) 8192 with
  | none => 2
  | some h =>
    if !imageForm s h then 2
    else if hash256 ((h.drop 96).take 1952) ≠ optBytes s.shadow 5 4 then 3
    else if !Config.mldsaVerify ((h.drop 96).take 1952) (h.take 2048) ((h.drop 2048).take 3309) then 4
    else match flashData s (slotBase slot + 8192) (hdrField h 28 4) with
      | none => 5
      | some b => if hash256 b = (h.drop 32).take 32 then 0 else 5

/-- Header of a slot's image. -/
def imageHeader (s : State) (slot : Nat) : List Nat := (flashData s (slotBase slot) 8192).getD []

end Sys2Proof.Machine
end

