-- ==== Sys2Proof/Machine/HqAdmin.lean ====
section
/-! DEFINITION. The admin commands (R339, R349, R350, R352 to R368, R450): queues, log pages, Identify, Abort, features, events,
firmware, vendor commands. -/
namespace Sys2Proof.Machine

/-! ## Pages of bytes -/

/-- A page of zeros with strings of bytes put at offsets. -/
def pageOfBytes (n : Nat) (l : List (Nat × List Nat)) : List Nat :=
  (List.range n).map (fun i =>
    match l.find? (fun q => decide (q.1 ≤ i) && decide (i < q.1 + q.2.length)) with
    | some q => q.2.getD (i - q.1) 0
    | none => 0)

/-- A string in a field of n characters, filled up with blanks. -/
def asciiField (n : Nat) (t : String) : List Nat := (asciiBytes t ++ List.replicate n 32).take n

/-- Kelvin of a reading in 0.125 °C. -/
def kelvin (t : Int) : Nat := (273 + t / 8).toNat

/-! ## Identify (R352, R355) -/

/-- Power state descriptors: maximum power in 0.01 W, non-operational, entry and exit latency in µs (R352). -/
def powerStates : List (Nat × Bool × Nat × Nat) :=
  [(1400, false, 0, 0), (800, false, 1200000, 1700000), (300, true, 3000000, 3500000), (90, true, 3200000, 3600000),
   (25, true, 3500000, 4000000)]

/-- The controller data structure (R355, R450); fields that the spec does not list are 0. -/
def identifyController (s : State) : List Nat :=
  let sn := (List.range 20).map (fun i => (Config.serialByte (s.shadow 1).toNat i).toNat)
  pageOfBytes 4096 ([(0, bytesLE 2 0x1F6C), (2, bytesLE 2 (s.fld Reg.PCIE_IDS 0 16)), (4, sn),
    (24, asciiField 40 (if s.variant = .ln7740 then "Plynko LN7740" else "Plynko LN7720")), (64, (s.sec.fwrev ++ List.replicate 8 32).take 8),
    (77, [8]), (78, [0, 0]), (80, bytesLE 4 0x00020000), (84, bytesLE 4 4000000), (88, bytesLE 4 10000000), (256, bytesLE 2 4),
    (258, [15, 7, 4, 6, 63, 4]), (265, [1]), (266, bytesLE 2 368), (268, bytesLE 2 378), (319, [1]), (320, bytesLE 2 1), (512, [0x66, 0x44]),
    (514, bytesLE 2 8192), (516, bytesLE 4 1), (520, bytesLE 2 0x000D), (525, [0]), (526, bytesLE 2 255), (528, bytesLE 2 255),
    (532, [0, 0]), (536, [0, 0, 0, 0])] ++
    powerStates.zipIdx.map (fun q => (2048 + 32 * q.2, bytesLE 2 q.1.1 ++ [0, q.1.2.1.toNat * 2] ++ bytesLE 4 q.1.2.2.1 ++ bytesLE 4 q.1.2.2.2)))

/-- The namespace data structure (R355). -/
def identifyNamespace (s : State) : List Nat :=
  let n := fun (a : Nat) => if mounted s then bytesLE 8 (s.reg a).toNat else List.replicate 8 0
  pageOfBytes 4096 [(0, n Reg.XLT_NSZE), (8, n Reg.XLT_NCAP), (16, n Reg.XLT_NUSE), (25, [0]), (33, [0x09]), (128, [0, 0, 12, 2])]

/-- Identify (R355): the data, or a status. -/
def identify (s : State) (c : Ctx) : Except Nat (List Nat) :=
  let cns := c.f 10 0 8
  let ns := (c.dw 1).toNat
  if cns = 0 then (if ns = 1 ∨ ns = 0xFFFFFFFF then .ok (identifyNamespace s) else .error stNamespace)
  else if cns = 1 then .ok (identifyController s)
  else if cns = 2 then .ok (pageOfBytes 4096 [(0, if ns < 1 then bytesLE 4 1 else [])])
  else if cns = 3 then (if ns = 1 then .ok (pageOfBytes 4096 []) else .error stNamespace)
  else .error stField

/-! ## Log pages (R356, R365 to R368, R396, R450, R507) -/

/-- Rows of R358 whose log page this is. -/
def pageRows (lid : Nat) : List Nat :=
  match lid with
  | 0x01 => [0, 1] | 0x02 => [2, 3] | 0x03 => [5] | 0x04 => [4] | 0xC0 => [7, 8] | 0xC1 => [6] | _ => []

/-- The Error Information page: 64 entries, newest first (R347). -/
def errorPage (s : State) : List Nat :=
  (s.hq.errLog.take 64).flatMap (fun e => pageOfBytes 64 [(0, bytesLE 8 e.count), (8, bytesLE 2 e.sqid), (10, bytesLE 2 e.cid),
    (12, bytesLE 2 (e.status * 2)), (16, bytesLE 8 e.lba), (24, bytesLE 4 1)]) ++ List.replicate (4096 - 64 * (s.hq.errLog.take 64).length) 0

/-- Spares left in percent of those held at manufacture (R396). -/
def availableSpare (s : State) : Nat := if s.xlt.spares0 = 0 then 100 else 100 * (bricksIn s 7).length / s.xlt.spares0

/-- Percentage Used (R396). -/
def percentUsed (s : State) : Nat :=
  if s.xlt.rw then (if s.xlt.rstRate = 0 then 0 else min 255 (100 * s.fld Reg.MEDM_WEAR 16 14 / s.xlt.rstRate))
  else
    let d := (List.range (brickCount s)).filter (fun n => let t := (s.brick n).st; t != 7 && t != 8 && t != 9)
    if d.isEmpty then 0 else min 255 (100 * (d.map (fun n => (s.brick n).front)).sum / (128 * d.length))

/-- Key of a stored feature: the selector of features that are kept several times. -/
def featKey (c : Ctx) : Nat :=
  let fid := c.f 10 0 8
  fid + (if fid = 4 then c.f 11 16 6 * 256 else if fid = 9 then c.f 11 0 16 * 256 else 0)

/-- A feature as set, else its default: R340 for Arbitration, R357 for Number of Queues, WCTEMP for the composite
temperature's threshold. -/
def feature (s : State) (key : Nat) : Word :=
  match s.hq.feats.find? (fun q => q.1 == key) with
  | some q => q.2
  | none =>
    if key = 1 then 3#32 else if key = 4 then 368#32 else if key % 256 = 4 then (if key / 4096 % 4 = 0 then 0xFFFF#32 else 0#32)
    else if key % 256 = 9 then Word.ofNat (key / 256) else if key = 7 then 0x003F003F#32 else 0#32

/-- A temperature stands at or beyond its threshold: `sel` 0 is the composite temperature, 1 to 6 are sensors 0 to 5
(R357, R507). -/
def tempOut (s : State) (sel : Nat) : Bool :=
  let k := kelvin (s.sfld (if sel = 0 then Reg.TSNS_MAX else Reg.TSNS_T (sel - 1)) 0 12)
  decide (fieldOf (feature s (4 + 256 * sel)) 0 16 ≤ k) || decide (k ≤ fieldOf (feature s (4 + 4096 + 256 * sel)) 0 16)

/-- The SMART page (R359, R396, R507); the other bytes are free. -/
def smartPage (s : State) : List Nat :=
  let warn := (if availableSpare s < 10 ∧ mounted s then 1 else 0) + (if (List.range 7).any (tempOut s) then 2 else 0) + (if writeProt s then 8 else 0)
  let t := fun (a : Nat) => bytesLE 2 (kelvin (s.sfld a 0 12))
  let free := (List.range 512).map (fun i => (Config.smartByte s.fresh i).toNat)
  (List.range 512).map (fun i =>
    match ([(0, [warn]), (1, t Reg.TSNS_MAX), (3, [availableSpare s, 10, percentUsed s]),
      (200, (List.range 6).flatMap (fun k => t (Reg.TSNS_T k)))] : List (Nat × List Nat)).find? (fun q => decide (q.1 ≤ i) && decide (i < q.1 + q.2.length)) with
    | some q => q.2.getD (i - q.1) 0
    | none => free.getD i 0)

/-- The Firmware Slot page: revisions of the committed slots; AFI names the one with the highest GEN (R450). -/
def fwSlotPage (s : State) : List Nat :=
  let rev := fun (k : Nat) => if committed s k then ((imageHeader s k).drop 20).take 8 else List.replicate 8 0
  let best := if committed s 1 ∧ (!committed s 0 ∨ slotGen s 0 < slotGen s 1) then 2 else 1
  pageOfBytes 512 [(0, [best]), (8, rev 0), (16, rev 1)]

/-- The Commands Supported page: bit 0 of a command's word. -/
def supportedPage : List Nat :=
  pageOfBytes 4096 (([0x00, 0x01, 0x02, 0x04, 0x05, 0x06, 0x08, 0x09, 0x0A, 0x0C, 0x10, 0x11, 0x18, 0xC1, 0xC2, 0xC3, 0xC4].map (fun o => (4 * o, [1]))) ++
    ([0x00, 0x01, 0x02, 0x05, 0x08, 0x09].map (fun o => (1024 + 4 * o, [1]))))

/-- The bytes of a ring or permanent record in flash; a bad slot is left out. -/
def eventRecords (s : State) : List (List Nat) × List (List Nat) :=
  let permOff := if inFallback s then 0x380000 else 0x740000
  let perm := (List.range (s.fld Reg.EVR_NPERM 0 11)).map (fun i => (slotBytes s (permOff + 64 * i)).getD (List.replicate 64 0))
  let circ := s.evr.held.flatMap (fun h => (List.range h.n).filterMap (fun i => slotGood s (ringSectorOff s h.sec + 64 * (i + 1))))
  (perm, circ.drop (circ.length - min circ.length (ringReport s)))

/-- Page 0xC0 (R366); `chal` is the new challenge or empty. -/
def eventsPage (s : State) (chal : List Nat) : List Nat :=
  let r := eventRecords s
  let sq := fun (b : List Nat) => (b.drop 8).take 4
  bytesLE 4 r.1.length ++ bytesLE 4 r.2.length ++ ((r.2.head?.map sq).getD [0, 0, 0, 0]) ++ ((r.2.getLast?.map sq).getD [0, 0, 0, 0]) ++
    bytesLE 4 (s.reg Reg.EVR_CLRCNT).toNat ++ [0, 0, 0, 0] ++ bytesLE 8 (s.fld Reg.EVR_POC 0 16 * 2 ^ 48 + s.timeUs % 2 ^ 48) ++
    (chal ++ List.replicate 32 0).take 32 ++ r.1.flatMap id ++ r.2.flatMap id

/-- ROLE of a brick (R43, R367). -/
def brickRole (b : Brick) : Nat := if b.st = 6 then 4 else if b.st = 8 then 1 else if b.st = 9 then 2 else if b.st = 7 then 3 else 0

/-- Page 0xC1 (R367). -/
def bricksPage (s : State) : List Nat :=
  let n := if mounted s then brickCount s else 0
  let v := s.hq.verify
  let prog := if v.total = 0 then 0 else 10000 * (v.total - v.todo.length) / v.total
  bytesLE 2 n ++ [if mounted s then (if s.xlt.rw then 2 else 1) else 0, s.xlt.side] ++ s.xlt.uuid ++ bytesLE 2 v.id ++ [v.st, 0] ++
    bytesLE 2 prog ++ bytesLE 8 v.strips ++ bytesLE 4 v.found ++ List.replicate 26 0 ++
    (List.range n).flatMap (fun k =>
      let b := s.brick k
      bytesLE 2 (b.layer * 1024 + b.brick) ++ [b.st, brickRole b] ++ bytesLE 2 b.rst ++ [b.front, 0] ++ bytesLE 2 b.cls1 ++
        bytesLE 2 (s.xlt.cls2.count k) ++ bytesLE 2 (s.xlt.cls3.count k) ++ bytesLE 2 b.unrec)

/-- An entry of page 0xC2 (R368). -/
def calEntry (kind page loc : Nat) (active target : Int) (cls state : Nat) : List Nat :=
  [kind, page] ++ bytesLE 2 loc ++ bytesLE 4 (bitsOf 32 active) ++ bytesLE 4 (bitsOf 32 target) ++ [cls, state] ++ [0, 0]

/-- Entry of a glided register (R287, R368). -/
def glidedEntry (s : State) (g : Glided) : List Nat :=
  let page := pageOf g.act
  let gl := glideRuns s g
  let auto := if g.cls ≤ 2 then s.bit (Reg.RFL_ADC_CTRL g.owner) 16
    else if g.cls ≤ 4 then s.bit Reg.CAL_CFG 1 else if g.cls = 7 then s.bit Reg.CAL_CFG 2 else false
  let ret := g.cls ≤ 2 && subRole s g.owner g.sub == 2
  calEntry 0 page (g.act % 4096) (s.sfld g.act 0 12) (s.sfld (g.act + 4) 0 12) g.cls (gl.toNat + 2 * auto.toNat + 4 * ret.toNat + 8)

/-- Entry of a mortar glide channel (R291, R368). -/
def mgEntry (s : State) (k : Nat) : List Nat :=
  let a := s.fld (Reg.CAL_MG_CFG k) 16 12
  calEntry 1 0 a (s.mort a).toInt (s.reg (Reg.CAL_MG_TGT k)).toInt 0xFF ((s.bit (Reg.CAL_MG_STAT k) 0).toNat + 8)

/-- Entry of a layer's result: the calibration store's layout is drive firmware's, so its values are free (R368, R438). -/
def layerEntry (s : State) (l k : Nat) : List Nat :=
  let v := (Config.layerResult s.fresh l k).toInt
  calEntry 2 l k v v 0xFF (8 * ((Config.layerResult s.fresh l (k + 5)).toNat % 2))

/-- Page 0xC2 (R368). -/
def calPage (s : State) : List Nat :=
  let lanes := if s.variant = .ln7740 then 4 else 2
  let gs := (glidedList.filter (fun g => decide (2 < g.cls) || decide (g.owner < lanes))).map (glidedEntry s)
  let es := gs ++ (List.range 10).map (mgEntry s) ++ (List.range 12).flatMap (fun l => (List.range 5).map (layerEntry s l))
  bytesLE 2 es.length ++ bytesLE 2 (s.fld Reg.CAL_REF 0 16) ++ [(s.bit (Reg.STAT pgCAL) 8).toNat] ++ List.replicate 11 0 ++ es.flatMap id

/-- A command's log page: its bytes, or a status (R356, R365). -/
def logPage (s : State) (c : Ctx) : Except Nat (List Nat × State) :=
  let lid := c.f 10 0 8
  let lpo := c.quad 12
  let len := dataBytes c
  let own := fun (l : List Nat) (s : State) =>
    if lpo % 4 ≠ 0 ∨ l.length < lpo + len then Except.error stField else Except.ok ((l.drop lpo).take len, s)
  let std := fun (l : List Nat) (s : State) => Except.ok ((l.drop lpo ++ List.replicate len 0).take len, s)
  if s.boot.phase = .recovery ∧ lid ≠ 1 ∧ lid ≠ 3 ∧ lid ≠ 0xC0 then .error 0x4109
  else match lid with
    | 0x01 => std (errorPage s) s
    | 0x02 => std (smartPage s) { s with fresh := s.fresh + 1 }
    | 0x03 => std (fwSlotPage s) s
    | 0x04 => std (pageOfBytes 4096 (if s.hq.masked.contains (256 * 4) then [(0, bytesLE 4 1)] else [])) s
    | 0x05 => std supportedPage s
    | 0xC0 =>
      if c.f 10 8 1 = 1 then
        let r := drawChallenge s 1
        own (eventsPage r.2 r.1) r.2
      else own (eventsPage s []) s
    | 0xC1 => own (bricksPage s) s
    | 0xC2 => own (calPage s) s
    | _ => .error 0x4109

/-! ## Queues (R336, R339, R350) -/

/-- Create I/O Completion Queue. -/
def createCq (s : State) (c : Ctx) : State :=
  let id := c.f 10 0 16
  let size := c.f 10 16 16 + 1
  let iv := c.f 11 16 16
  let st :=
    if s.fld aCC 16 4 ≠ 6 ∨ s.fld aCC 20 4 ≠ 4 then stField
    else if id = 0 ∨ 64 < id ∨ (s.cq id).isSome then 0x4101
    else if size < 2 ∨ 4096 < size then 0x4102
    else if c.f 11 0 1 = 0 then stField
    else if 64 < iv then 0x4108
    else stOk
  if st ≠ stOk then finish s c.seq st 0 0
  else
    let s := s.setHq { s.hq with cqs := s.hq.cqs ++ [⟨id, c.quad 6, size, iv, c.f 11 1 1 == 1, true⟩], ioMade := true }
    let s := s.setReg (Reg.HQ_CQPTR id) 0#32
    let s := (s.setBit (Reg.HQ_QCFG id) 1 true).setFld (Reg.HQ_QCFG id) 16 7 iv
    finish s c.seq stOk 0 0

/-- Create I/O Submission Queue. -/
def createSq (s : State) (c : Ctx) : State :=
  let id := c.f 10 0 16
  let size := c.f 10 16 16 + 1
  let cqid := c.f 11 16 16
  let st :=
    if s.fld aCC 16 4 ≠ 6 ∨ s.fld aCC 20 4 ≠ 4 then stField
    else if id = 0 ∨ 64 < id ∨ (s.sq id).isSome then 0x4101
    else if size < 2 ∨ 4096 < size then 0x4102
    else if c.f 11 0 1 = 0 then stField
    else if cqid = 0 ∨ (s.cq cqid).isNone then 0x4100
    else stOk
  if st ≠ stOk then finish s c.seq st 0 0
  else
    let prio := c.f 11 1 2
    let s := s.setHq { s.hq with sqs := s.hq.sqs ++ [⟨id, c.quad 6, size, prio, cqid⟩], ioMade := true }
    let s := s.setReg (Reg.HQ_SQPTR id) 0#32
    let s := ((s.setBit (Reg.HQ_QCFG id) 0 true).setFld (Reg.HQ_QCFG id) 2 2 prio).setFld (Reg.HQ_QCFG id) 8 7 cqid
    finish s c.seq stOk 0 0

/-- Delete I/O Completion Queue. -/
def deleteCq (s : State) (c : Ctx) : State :=
  let id := c.f 10 0 16
  if id = 0 ∨ (s.cq id).isNone then finish s c.seq 0x4101 0 0
  else if s.hq.sqs.any (fun q => q.cqid == id) then finish s c.seq 0x410C 0 0
  else
    let s := s.setHq { s.hq with cqs := s.hq.cqs.filter (fun q => q.id != id) }
    let s := (s.setReg (Reg.HQ_CQPTR id) 0#32).setBit (Reg.HQ_QCFG id) 1 false
    finish (s.setFld (Reg.HQ_QCFG id) 16 7 0) c.seq stOk 0 0

/-- A command that an Abort or a queue's deletion still reaches: before its latch (R346, R349). -/
def beforeLatch (c : Ctx) : Bool :=
  (c.phase == .accepted || c.phase == .running) && (!c.admin || c.opc == 0x0C)

/-- Delete I/O Submission Queue: commands before their latch are aborted; the Delete ends after the last one (R350). -/
def deleteSq (s : State) (c : Ctx) : State :=
  let id := c.f 10 0 16
  if id = 0 ∨ (s.sq id).isNone then finish s c.seq 0x4101 0 0
  else
    let hit := s.hq.ctx.filter (fun d => d.sqid == id && beforeLatch d)
    let s := s.updCtx c.seq (fun c => { c with step := 1 })
    postReady (hit.foldl (fun s d => failCmd s d.seq stSqDeleted 0 0) s)

/-! ## Abort (R349) -/

/-- Abort looks SQID and CID up among the contexts. -/
def abortCmd (s : State) (c : Ctx) : State :=
  let hit := s.hq.ctx.find? (fun d => d.sqid == c.f 10 0 16 && d.cid == c.f 10 16 16 && d.seq != c.seq)
  if 16 < (s.hq.ctx.filter (fun d => d.admin && d.opc == 0x08 && d.phase != .done)).length then finish s c.seq 0x0103 0 0
  else match hit with
    | some d =>
      if beforeLatch d then
        let s := (failCmd s d.seq stAborted 0 0).addSat Reg.HQ_ABT 0 16 1
        finish s c.seq stOk 0 0
      else finish (s.addSat Reg.HQ_ABT 16 16 1) c.seq stOk 1 0
    | none => finish (s.addSat Reg.HQ_ABT 16 16 1) c.seq stOk 1 0

/-! ## Power states (R352 to R354) -/

/-- An operational state. -/
def operational (p : Nat) : Bool := decide (p ≤ 1)

/-- The cores run again after PS4: all but the isolated ones (R352, R487). -/
def coresOn (s : State) : State :=
  { s with harts := s.harts.zipIdx.map (fun q => if q.2 < 4 ∧ s.bit Reg.WDT_ISO q.2 then q.1 else { q.1 with run := true }) }

/-- A power state is asked for: an operational one holds at once, the others are entered by steps; a new target redirects a
running entry at its next safe point (R353, R354). -/
def psRequest (s : State) (t : Nat) : State :=
  if s.bit Reg.HQ_PS 8 then s.setFld Reg.HQ_PS 4 3 t
  else if operational t then
    let s := if s.fld Reg.HQ_PS 0 3 = 4 then coresOn s else s
    let s := ((s.setFld Reg.HQ_PS 0 3 t).setFld Reg.HQ_PS 4 3 t).setFld Reg.HQ_PS 9 3 0
    (s.setHq { s.hq with oper := t, wanted := false }).raise pgHQ 3
  else if s.fld Reg.HQ_PS 0 3 = t then s
  else (((s.setFld Reg.HQ_PS 4 3 t).setBit Reg.HQ_PS 8 true).setFld Reg.HQ_PS 9 3 0).setHq { s.hq with wanted := false }

/-- A command that needs the drive ends an entry at its next safe point, or a non-operational state (R353). -/
def psWake (s : State) : State :=
  if s.bit Reg.HQ_PS 8 then s.setHq { s.hq with wanted := true }
  else if operational (s.fld Reg.HQ_PS 0 3) then s
  else
    let s := psRequest s s.hq.oper
    if spnState s = 6 then spnModeWrite .sup 1#32 s else s

/-- The first I/O command after SPIN stopped the spindle spins it up (R361). -/
def spinWake (s : State) : State :=
  if s.hq.spinOff then spnModeWrite .sup 1#32 (s.setHq { s.hq with spinOff := false }) else s

/-! ## Features (R357) -/

/-- The features of R357. -/
def featKnown (fid : Nat) : Bool := [1, 2, 4, 7, 8, 9, 11, 12, 15].contains fid

/-- The keep-alive timer starts again (R356, R357). -/
def katoRestart (s : State) : State := s.setHq { s.hq with katoAt := s.ticks }

/-- Set Features, with its data where it has some (R357). -/
def setFeature (s : State) (c : Ctx) (data : List Nat) : State :=
  let fid := c.f 10 0 8
  let v := c.dw 11
  let keep := fun (s : State) (v : Word) => s.setHq { s.hq with feats := (featKey c, v) :: s.hq.feats.filter (fun q => q.1 != featKey c) }
  if c.f 10 31 1 = 1 then finish s c.seq 0x410D 0 0
  else if !featKnown fid then finish s c.seq stField 0 0
  else if fid = 2 then
    if 4 < fieldOf v 0 5 then finish s c.seq stField 0 0 else finish (psRequest (keep s v) (fieldOf v 0 5)) c.seq stOk 0 0
  else if fid = 7 then
    if s.hq.ioMade then finish s c.seq stSequence 0 0 else finish s c.seq stOk 0x003F003F 0
  else if fid = 12 then finish ((keep s v).setHq { (keep s v).hq with apst := data }) c.seq stOk 0 0
  else if fid = 15 then finish (katoRestart (keep s (Word.ofNat ((v.toNat + 99) / 100 * 100)))) c.seq stOk 0 0
  else finish (keep s v) c.seq stOk 0 0

/-- Get Features (R357). -/
def getFeature (s : State) (c : Ctx) : State :=
  let fid := c.f 10 0 8
  if !featKnown fid then finish s c.seq stField 0 0
  else
    let v := if fid = 2 then Word.ofNat (s.fld Reg.HQ_PS 4 3) else feature s (featKey c)
    let s := if fid = 12 then sendPages s c.pages 0 ((s.hq.apst ++ List.replicate 256 0).take 256) else s
    finish s c.seq stOk v.toNat 0

/-! ## Asynchronous Event Request (R351, R358) -/

/-- An Asynchronous Event Request is outstanding, or takes an event that waits. -/
def asyncRequest (s : State) (c : Ctx) : State :=
  if 8 < (s.hq.ctx.filter (fun d => d.admin && d.opc == 0x0C && d.phase == .running)).length then finish s c.seq 0x0105 0 0
  else match s.hq.waiting with
    | k :: t => reportEvent (setWaiting s t) c k
    | [] => s

/-! ## Firmware (R449, R450) -/

/-- The slot that runs, and the other. -/
def runningSlot (s : State) : Nat := s.fld Reg.FLC_BOOT 0 1

/-- Tag of the flash requests of a command. -/
def fwTag (seq : Nat) : Nat := 2 ^ 60 + seq

/-- Firmware Image Download: its checks, then its data, then whole sectors (R449, R450). -/
def fwDownload (s : State) (c : Ctx) : State :=
  let ofst := 4 * (c.dw 11).toNat
  let n := dataBytes c
  let slot := 1 - runningSlot s
  if ofst % 4096 ≠ 0 ∨ n % 4096 ≠ 0 ∨ 0x300000 < ofst + n then finish s c.seq stField 0 0
  else if c.step = 0 then fetchPages (s.updCtx c.seq (fun c => { c with step := 1 })) (.data c.seq) c.pages 0 n
  else if c.step = 1 then
    if awaits s (.data c.seq) then s
    else
      let data := bufBytes c.buf n
      let s := s.updCtx c.seq (fun c => { c with step := 2, buf := [] })
      let s := if s.hq.download then s else logAppend (s.setHq { s.hq with download := true }) slot (fwTag c.seq) [recInvalid]
      (List.range (n / 4096)).foldl (fun s i =>
        let off := slotBase slot + ofst + 4096 * i
        fwWords (fwTag c.seq) (flashWordsOf ((data.drop (4096 * i)).take 4096)) (off / 8) (fwErase s off (fwTag c.seq))) s
  else if flcOutstanding s 0 (· == fwTag c.seq) then s
  else finish s c.seq stOk 0 0

/-- Firmware Commit (R449, R450). -/
def fwCommit (s : State) (c : Ctx) : State :=
  let fs := c.f 10 0 3
  let ca := c.f 10 3 3
  let run := runningSlot s
  let slot := if fs = 0 then 1 - run else fs - 1
  let gen := max (slotGen s 0) (slotGen s 1) + 1
  if c.step = 0 then
    if 3 ≤ ca then finish s c.seq stField 0 0
    else if 2 < fs ∨ (slot = run ∧ ca < 2) ∨ (s.bank slot).failed then finish s c.seq 0x4106 0 0
    else if ca = 2 then
      if committed s slot then logAppend (s.updCtx c.seq (fun c => { c with step := 2 })) slot (fwTag c.seq) [recActivate gen]
      else finish s c.seq 0x4107 0 0
    else if imageStep s slot ≠ 0 then finish s c.seq 0x4107 0 0
    else
      let h := imageHeader s slot
      let rc := recCommit (hdrField h 8 2) (hdrField h 32 4)
      let s := s.setHq { s.hq with download := false }
      logAppend (s.updCtx c.seq (fun c => { c with step := if ca = 0 then 1 else 2 })) slot (fwTag c.seq)
        (if ca = 0 then [rc] else [rc, recActivate gen])
  else if flcOutstanding s 0 (· == fwTag c.seq) then s
  else finish s c.seq (if c.step = 1 then stOk else 0x010B) 0 0

/-! ## Vendor commands (R360 to R364) -/

/-- Attestation Report (R362). -/
def attestCmd (s : State) (c : Ctx) : State :=
  if (c.dw 10).toNat ≠ 1023 then finish s c.seq stField 0 0
  else
    let nonce := (List.range 4).flatMap (fun i => bytesLE 4 (c.dw (12 + i)).toNat)
    finish (sendPages s c.pages 0 (attestReport s nonce)) c.seq stOk 0 0

/-- Recorder Clear: the token goes to SEC; CLEAR completes after its record is written (R363, R472). -/
def clearCmd (s : State) (c : Ctx) : State :=
  if (c.dw 10).toNat ≠ 2047 then finish s c.seq stField 0 0
  else if c.step = 0 then fetchPages (s.updCtx c.seq (fun c => { c with step := 1 })) (.data c.seq) c.pages 0 8192
  else if c.step = 1 then
    if awaits s (.data c.seq) then s
    else
      let r := runClear s (bufBytes c.buf 8192)
      if r.1 = 0 then r.2.updCtx c.seq (fun c => { c with step := 2, buf := [] })
      else finish r.2 c.seq stToken (match r.1 with | 1 => 1 | 2 => 3 | 3 => 4 | _ => 2) 0
  else if clearWritten s then finish s c.seq stOk 0 0
  else s

/-- The strips of a Media Verify with data: an LBA range, a brick, the side (R364). -/
def verifyRange (s : State) (c : Ctx) : Except Nat (List Nat) :=
  let strips := fun (l : List Ext) => ((l.filter (fun e => placedSt e.st && e.st != 4)).flatMap (fun e => pieceStrips ⟨e.start, e.len, 1, e.psa, e.ssec⟩)).eraseDups
  match c.f 10 0 2 with
  | 0 =>
    let a := c.quad 11
    let n := (c.dw 13).toNat + 1
    if (s.reg Reg.XLT_NSZE).toNat < a + n then .error stLbaRange else .ok (strips (lookup s a n).1.1)
  | 1 =>
    let l := c.f 11 10 4
    let b := c.f 11 0 10
    if 11 < l ∨ s.wenc.nbrick.getD l 0 ≤ b then .error stField
    else .ok (strips (brickPlaces s ((s.wenc.nbrick.take l).sum + b)))
  | _ => .ok (strips (lookup s 0 (2 ^ 40)).1.1)

/-- Media Verify starts, or stops the running one (R364). -/
def verifyCmd (s : State) (c : Ctx) : State :=
  let v := s.hq.verify
  if c.f 10 0 2 = 3 then
    finish (s.setHq { s.hq with verify := if v.st = 1 then { v with st := 3, todo := [] } else v }) c.seq stOk v.id 0
  else if !mounted s then finish s c.seq stNotReady 0 0
  else if v.st = 1 then finish s c.seq stVerifyRuns 0 0
  else match verifyRange s c with
    | .error st => finish s c.seq st 0 0
    | .ok l =>
      let id := v.id % 65535 + 1
      finish (s.setHq { s.hq with verify := ⟨id, 1, l, l.length, 0, 0⟩ }) c.seq stOk id 0

/-- Disc Control SPIN (R361): 0 stops the spindle, another value caps the buffer-fill output. -/
def spinCmd (s : State) (c : Ctx) : State :=
  let rpm := c.f 11 0 14
  if rpm ≠ 0 ∧ (rpm < 1500 ∨ 10000 < rpm) then finish s c.seq stField 0 0
  else
    let s := if rpm = 0 then spnModeWrite .sup 2#32 (s.setHq { s.hq with spinOff := true })
      else s.setHq { s.hq with spinCap := rpm }
    finish s c.seq stOk 0 0

/-- A running admin command goes on. -/
def runAdmin (s : State) (seq : Nat) : State :=
  match stillRuns s seq with
  | none => s
  | some c =>
    if !c.admin then s
    else if c.opc = 0x00 ∨ c.opc = 0x0C ∨ (c.opc = 0xC1 ∧ c.f 10 0 4 ≠ 1) then s
    else if !prpReady c then s
    else match c.opc with
      | 0x01 => createSq s c
      | 0x02 => match logPage s c with
        | .error st => finish s seq st 0 0
        | .ok r =>
          let s := sendPages r.2 c.pages 0 r.1
          let rows := pageRows (c.f 10 0 8)
          let s := if c.f 10 15 1 = 0 then s.setHq { s.hq with masked := s.hq.masked.filter (fun k => !rows.contains (k / 256)) } else s
          finish s seq stOk 0 0
      | 0x04 => deleteCq s c
      | 0x05 => createCq s c
      | 0x06 => match identify s c with
        | .error st => finish s seq st 0 0
        | .ok b => finish (sendPages s c.pages 0 b) seq stOk 0 0
      | 0x08 => abortCmd s c
      | 0x09 =>
        if c.f 10 0 8 = 0x0C ∧ c.f 10 31 1 = 0 then
          if c.step = 0 then fetchPages (s.updCtx seq (fun c => { c with step := 1 })) (.data seq) c.pages 0 256
          else if awaits s (.data seq) then s
          else setFeature s c (bufBytes c.buf 256)
        else setFeature s c []
      | 0x0A => getFeature s c
      | 0x10 => fwCommit s c
      | 0x11 => fwDownload s c
      | 0x18 => finish (katoRestart s) seq stOk 0 0
      | 0xC1 => spinCmd s c
      | 0xC2 => attestCmd s c
      | 0xC3 => clearCmd s c
      | 0xC4 => verifyCmd s c
      | _ => s

end Sys2Proof.Machine
end

