-- ==== Sys2Proof/Machine/HqPump.lean ====
section
/-! DEFINITION. The step that lets whatever waits in HQ, XLT and MEDM go on. -/
namespace Sys2Proof.Machine

/-! ## Everything that waits goes on -/

/-- Fetching is stopped for a reason; HQ_STALL shows which (R351, R371). -/
def syncStall (s : State) : State :=
  let s := s.setBit Reg.HQ_STALL 1 (!s.bit Reg.HQ_CTRL 0)
  let s := s.setBit Reg.HQ_STALL 2 (!busMaster s)
  let s := s.setBit Reg.HQ_STALL 3 (cfs s)
  s.setBit Reg.HQ_STALL 4 (s.hq.shut != 0)

/-- XLT and MEDM run: not while a warm reset or the last gasp holds them (R277, R482). -/
def xltRuns (s : State) : Bool := mounted s && !s.boot.warm && s.boot.phase != .recovery && !s.frozen pgXLT

/-- Strips a verify has read leave its list (R364, R367). -/
def runVerify (s : State) : State :=
  let v := s.hq.verify
  if v.st ≠ 1 then s
  else
    let done := v.todo.filter (fun p => match groupRead s p with
      | some g => g.tag == patrolTag && g.wanted.testBit (p % 8) && (((g.strips.getD (p % 8) freshStrip).ended).isSome)
      | none => false)
    s.setHq { s.hq with verify := { v with todo := v.todo.filter (fun p => !done.contains p), strips := v.strips + done.length } }

/-- Translation, media management and the running commands go on as far as they can. -/
def pumpOnce (s : State) : State :=
  let qs := s.hq.ctx.map (·.seq)
  let s := qs.foldl runAdmin (qs.foldl runPrp s)
  let s := if xltRuns s then
      let s := restage (endWriting (takeRecoveries (takeVerdicts s)))
      let s := s.hq.ctx.foldl (fun s c => if c.modifying then markStaged s c.seq c.slba else s) s
      let s := qs.foldl runDsm s
      let s := placeCommands s
      let s := commitLatched (latchWrites s)
      let s := qs.foldl runFlush s
      let s := qs.foldl runReader s
      let s := qs.foldl runUnload s
      let s := runJob s
      let s := if s.frozen pgMEDM then s else runResets (retireEmpty (nextJob (gcJudge s)))
      let s := runCkpt (ckptDue s)
      let s := armWaiting s
      let s := dropServed (runVerify s)
      let s := armReads ownTag false (foreStrips s) s
      let s := if s.rd.groups.isEmpty then armReads patrolTag true (verifyStrips s) s else s
      syncCap (jrPump s)
    else if s.boot.warm ∨ s.boot.phase = .recovery then s else jrPump s
  syncStall (postReady (runShutdown s))

/-- What has come about lets further things come about: three rounds. -/
def pump (s : State) : State := pumpOnce (pumpOnce (pumpOnce s))

end Sys2Proof.Machine
end

