-- ==== Sys2Proof/Machine/Mem.lean ====
section
/-! DEFINITION. The memory system (R411, R415 to R429): page code, scrubber, the L2 cache and its maintenance, the L1 caches. -/
namespace Sys2Proof.Machine

abbrev pgMEMC : Nat := 0x1C
abbrev pgL2C : Nat := 0x1D

/-- Replaces the memory system's own state. -/
def State.setMs (s : State) (x : MemSys) : State := { s with ms := x }

/-! ## Page code (R416, R417) -/

/-- MEMC_PPSTAT follows the regions whose code is being computed (R417, R435). -/
def syncPp (s : State) : State :=
  match s.ms.ppPending with
  | [] => (s.setFld Reg.MEMC_PPSTAT 0 1 0).setFld Reg.MEMC_PPSTAT 16 6 0
  | r :: _ => (s.setFld Reg.MEMC_PPSTAT 0 1 1).setFld Reg.MEMC_PPSTAT 16 6 r

/-- The regions that MEMC_PPROT names. -/
def ppNamed (s : State) : List Nat :=
  (List.range 40).filter (fun r => if r < 32 then s.bit Reg.MEMC_PPROT_LO r else s.bit Reg.MEMC_PPROT_HI (r - 32))

/-- MEMC_PPROT was written: regions newly named wait for their code, others lose it at once (R417). -/
def ppChanged (s : State) : State :=
  let now := ppNamed s
  let pend := s.ms.ppPending.filter now.contains
  let done := s.ms.ppDone.filter now.contains
  let new := now.filter (fun r => !pend.contains r && !done.contains r)
  syncPp (s.setMs { s.ms with ppPending := pend ++ new, ppDone := done })

/-- MEMC_PAGE_PROTECT_START (R417). -/
def execMemcPageProtectStart (m : Master) (hi : Bool) (v : Word) (s : State) : Host.Outcome State Fault Refusal :=
  done s (regWrite s m (if hi then Reg.MEMC_PPROT_HI else Reg.MEMC_PPROT_LO) 4 v ppChanged)

/-- A word that is uncorrectable when its page's code is computed is coded as it reads: the code can give back that only. -/
def settleUe (r : Nat) : List (Nat × Nat) → State → State
  | [], s => s
  | q :: t, s =>
    settleUe r t (if regionOf q.1 = r then s.setBytes q.1 ((List.range 8).map (fun i => (s.byte (q.1 + i)).toNat ^^^ (q.2 / 256 ^ i % 256))) else s)

/-- The code of a region is computed (R417). -/
def ppDone (s : State) : State :=
  match s.ms.ppPending with
  | [] => s
  | r :: t =>
    let s := settleUe r s.ms.ueWords s
    let s := s.setMs { s.ms with ppPending := t, ppDone := s.ms.ppDone ++ [r],
                                 ueWords := s.ms.ueWords.map (fun q => if regionOf q.1 = r then (q.1, 0) else q) }
    (syncPp s).raise pgMEMC 3
/-- MEMC_PAGE_PROTECT_DONE (R417). -/
def execMemcPageProtectDone (s : State) : Host.Outcome State Fault Refusal := done s (ppDone s)

/-! ## The scrubber (R423) -/

/-- Bits of a word flip: one is correctable, more are not (R415). -/
def upset (s : State) (w mask : Nat) : State :=
  let n := ((List.range 72).filter (fun i => mask.testBit i)).length
  if n = 0 then s
  else if n = 1 ∧ !isUe s w ∧ !s.ms.ceWords.contains w then s.setMs { s.ms with ceWords := w :: s.ms.ceWords }
  else s.setMs { s.ms with ceWords := s.ms.ceWords.filter (· != w),
                           ueWords := (w, ueMask s w ^^^ mask % 2 ^ 64) :: s.ms.ueWords.filter (fun q => q.1 != w) }

/-- The scrubber reads the next line; `upsets` are the flips that struck it since it was last read: word of the line and
flipped bits (R415, R416, R423). -/
def scrubLine (upsets : List (Nat × Nat)) (s : State) : State :=
  if !s.bit Reg.MEMC_SCRUB 0 ∨ s.fld Reg.HQ_PS 0 3 = 4 then s
  else
    let p := (s.reg Reg.MEMC_SCRUB_POS).toNat / 64 * 64
    let s := upsets.foldl (fun s q => if q.1 < 8 then upset s (p + 8 * q.1) q.2 else s) s
    let s := if macroFailed s p then s else (readWords .scrb (wordsOf p 64) s).2
    let next := p + 64
    if next < 0x12800000 then s.setReg Reg.MEMC_SCRUB_POS (Word.ofNat next)
    else (s.setReg Reg.MEMC_SCRUB_POS 0x10000000#32).addSat Reg.MEMC_SCRUB_PASS 0 16 1
/-- SCRUB_LINE (R423). -/
def execScrubLine (upsets : List (Nat × Nat)) (s : State) : Host.Outcome State Fault Refusal := done s (scrubLine upsets s)

/-! ## L2: lines (R424, R425) -/

/-- The boot ROM (R495). -/
def inRom (a : Nat) : Bool := decide (a < 0x10000)
/-- The supervisor's tightly coupled memory (R495). -/
def inTcm (a : Nat) : Bool := decide (0x1000000 ≤ a) && decide (a < 0x1040000)
/-- Flash (R495). -/
def inFlash (a : Nat) : Bool := decide (0x8000000 ≤ a) && decide (a < 0x8800000)
/-- The ranges that L2 serves (R410, R424). -/
def cacheable (a : Nat) : Bool := inRom a || inFlash a || inSram a

/-- Set index of a line by its byte address (R424). -/
def l2Set (v : Variant) (a : Nat) : Nat :=
  match v with
  | .ln7740 => (a / 2 ^ 6 % 1024) ^^^ (a / 2 ^ 16 % 1024) ^^^ (a / 2 ^ 26 % 64)
  | .ln7720 => (a / 2 ^ 6 % 512) ^^^ (a / 2 ^ 15 % 512) ^^^ (a / 2 ^ 24 % 256)

/-- L2 is enabled (R429). -/
def l2On (s : State) : Bool := s.bit Reg.L2C_CTRL 0

/-- The line of an address, if L2 holds it. -/
def l2Find (s : State) (line : Nat) : Option L2Line := s.ms.l2.find? (fun l => l.line == line)

/-- Bytes of a line's data. -/
def lineBytes (d : BitVec 512) : List Nat := bytesLE 64 d.toNat
/-- Data of 64 bytes. -/
def lineData (bs : List Nat) : BitVec 512 := BitVec.ofNat 512 (leNat bs)

/-- Replaces the line that stands in the same set and way. -/
def l2Put (s : State) (l : L2Line) : State :=
  s.setMs { s.ms with l2 := l :: s.ms.l2.filter (fun x => !(x.set == l.set && x.way == l.way)) }
/-- A line leaves L2. -/
def l2Drop (s : State) (line : Nat) : State := s.setMs { s.ms with l2 := s.ms.l2.filter (fun x => x.line != line) }

/-- Words of a line go to SRAM; an uncorrectable one is stored with an uncorrectable check (R426). -/
def writeBackWords (l : L2Line) : List Nat → State → State
  | [], s => s
  | i :: t, s =>
    let w := l.line * 64 + 8 * i
    let s := writeWord s .sup w (((lineBytes l.data).drop (8 * i)).take 8)
    writeBackWords l t (if l.bad.contains i then s.setMs { s.ms with ueWords := (w, 3) :: s.ms.ueWords.filter (fun q => q.1 != w) } else s)

/-- A dirty line is written back and clean (R425 to R427). -/
def l2Clean (s : State) (l : L2Line) : State :=
  if l.dirty then l2Put (writeBackWords l (List.range 8) s) { l with dirty := false } else s

/-- The way a miss takes: from the set's pointer on, the first that is unlocked and allowed (R425). -/
def l2Way (s : State) (set : Nat) : Nat :=
  let p := ((s.ms.l2rr.find? (fun q => q.1 == set)).map (·.2)).getD 0
  (((List.range 16).map (fun i => (p + i) % 16)).find? (fun w => !s.bit Reg.L2C_LOCK w && s.bit Reg.L2C_ALLOC w)).getD p

/-- A line takes a way of its set: the victim is written back where dirty, the pointer goes on (R425). -/
def l2Allocate (s : State) (line : Nat) (dirty : Bool) (d : BitVec 512) : State :=
  let set := l2Set s.variant (line * 64)
  let w := l2Way s set
  let s := match s.ms.l2.find? (fun x => x.set == set && x.way == w) with
    | some v => l2Clean s v
    | none => s
  let s := l2Put s ⟨set, w, line, dirty, [], d⟩
  let next := (w + 1) % 16
  s.setMs { s.ms with l2rr := (if next = 0 then [] else [(set, next)]) ++ s.ms.l2rr.filter (fun q => q.1 != set) }

/-- A line as the memory below L2 gives it: its bytes, the words that answered with an error, the state after (R419, R443). -/
def belowLine (s : State) (m : Master) (line : Nat) : List Nat × List Nat × State :=
  let a := line * 64
  if inRom a then ((List.range 64).map (fun i => (Config.romByte (a + i)).toNat), [], s)
  else if inFlash a then
    let r := flashServe s m a 64 []
    (r.1, if r.2.1 then List.range 8 else [], r.2.2)
  else
    let r := (List.range 8).foldl (fun (acc : List Nat × State) i =>
      let q := readWord acc.2 m (a + 8 * i)
      (if q.1 then acc.1 ++ [i] else acc.1, q.2)) ([], s)
    ((List.range 64).map (fun i => returnedByte r.2 (a + i)), r.1, r.2)

/-- A line through L2, or from below it where L2 is off; `l2err` says what L2 finds in the word `w` of a line it holds: 1 a
corrected bit, 2 an uncorrectable word (R424 to R426, R429). -/
def l2Line (s : State) (m : Master) (line w l2err : Nat) : List Nat × List Nat × State :=
  if !l2On s then belowLine s m line
  else
    let fill := fun (s : State) =>
      let s := s.addMod Reg.L2C_MISS 0 32 1
      let r := belowLine s m line
      (r.1, r.2.1, if r.2.1.isEmpty then l2Allocate r.2.2 line false (lineData r.1) else r.2.2)
    match l2Find s line with
    | none => fill s
    | some l =>
      if l2err = 2 ∧ !l.dirty then fill (l2Drop (s.addSat Reg.L2C_ECC 16 16 1) line)
      else
        let s := s.addMod Reg.L2C_HIT 0 32 1
        let s := if l2err = 1 then s.addSat Reg.L2C_ECC 0 16 1 else s
        if l2err = 2 then
          let l := { l with bad := w :: l.bad.filter (· != w) }
          let s := ((s.addSat Reg.L2C_ECC 16 16 1).raise pgL2C 2).err pgL2C 0x1903 m.id
          (lineBytes l.data, l.bad, l2Put s l)
        else (lineBytes l.data, l.bad, s)

/-- Bytes within one line are stored: into L2, which takes the line on a miss, or straight to memory (R418, R425, R429).
True where the word they go to cannot be completed. -/
def l2Store (s : State) (m : Master) (a : Nat) (bs : List Nat) (l2err : Nat) : Bool × State :=
  let line := a / 64
  let w := a % 64 / 8
  let direct := fun (s : State) =>
    let bad := bs.length < 8 && (isUe s (a / 8 * 8) && !pageRepairs s (a / 8 * 8) && (mirrorOf s (a / 8 * 8)).isNone)
    (bad, writeWord s m a bs)
  if !l2On s then direct s
  else
    let r := l2Line s m line w l2err
    match l2Find r.2.2 line with
    | none => direct r.2.2
    | some l =>
      if l.bad.contains w ∧ bs.length < 8 then (true, r.2.2)
      else
        let d := (List.range 64).map (fun i => if a % 64 ≤ i ∧ i < a % 64 + bs.length then bs.getD (i - a % 64) 0 else (lineBytes l.data).getD i 0)
        (false, l2Put r.2.2 { l with data := lineData d, dirty := true, bad := l.bad.filter (· != w) })

/-! ## Maintenance and drain (R427 to R429) -/

/-- The lines of MSTART to MEND. -/
def mopFirst (s : State) : Nat := (s.reg Reg.L2C_MSTART).toNat / 64
def mopLast (s : State) : Nat := (s.reg Reg.L2C_MEND).toNat / 64

/-- A GO is refused (R427). -/
def mopRefused (s : State) (op : Nat) (sw : Bool) : Bool :=
  let f := mopFirst s * 64
  let l := mopLast s * 64
  s.ms.mopRun || s.ms.drain || op == 0 || decide (4 < op) || (sw && op == 4) ||
  (!sw && (decide (l < f) || !((inRom f && inRom l) || (inFlash f && inFlash l) || (inSram f && inSram l)))) ||
  (op == 4 && (!(inSram f && inSram l) || !l2On s))

/-- A way is locked (R425). -/
def wayLocked (s : State) (l : L2Line) : Bool := s.bit Reg.L2C_LOCK l.way

/-- One line is written back and counted. -/
def mopClean (s : State) (l : L2Line) : State :=
  if l.dirty then (l2Clean s l).addSat Reg.L2C_MSTAT 0 16 1 else s

/-- One line is dropped, unless it is locked and locked lines are skipped (R427). -/
def mopDrop (skip : Bool) (s : State) (l : L2Line) : State :=
  if skip ∧ wayLocked s l then s.addSat Reg.L2C_MSTAT 16 16 1 else l2Drop s l.line

/-- What an operation does to one line (R427). -/
def mopLine (op : Nat) (skip : Bool) (s : State) (l : L2Line) : State :=
  match op with
  | 1 => mopClean s l
  | 2 => mopDrop skip s l
  | _ => mopDrop skip (mopClean s l) l

/-- Zeroes `n` lines from `line` on: in place, or allocated without a fetch (R427). -/
def mopZero : Nat → Nat → State → State
  | 0, _, s => s
  | n + 1, line, s =>
    mopZero n (line + 1) (match l2Find s line with
      | some l => l2Put s { l with data := 0#512, dirty := true, bad := [] }
      | none => l2Allocate s line true 0#512)

/-- The lines an operation names: those held in the range, the one at L2C_MSW, or all. -/
def mopNamed (s : State) (sw : Bool) : List L2Line :=
  if !sw then s.ms.l2.filter (fun l => decide (mopFirst s ≤ l.line) && decide (l.line ≤ mopLast s))
  else if s.bit Reg.L2C_MSW 31 then s.ms.l2
  else s.ms.l2.filter (fun l => l.set == s.fld Reg.L2C_MSW 0 10 && l.way == s.fld Reg.L2C_MSW 16 4)

/-- L2C_MOP was written (R3, R427): with GO the operation treats its lines; it counts as running until L2C_MOP_DONE. -/
def mopGo (m : Master) (v : Word) (s : State) : State :=
  if fieldOf v 31 1 = 0 then s
  else
    let op := fieldOf v 0 3
    let sw := fieldOf v 4 1 == 1
    if mopRefused s op sw ∨ (op = 4 ∧ s.variant = .ln7720) then s.err pgL2C 0x1902 m.id
    else
      let s := ((s.setReg Reg.L2C_MSTAT 0#32).setBit Reg.L2C_MOP 31 true).setBit (Reg.STAT pgL2C) 9 true
      let s := s.setMs { s.ms with mopRun := true }
      if op = 4 then mopZero (mopLast s + 1 - mopFirst s) (mopFirst s) s
      else (mopNamed s sw).foldl (mopLine op (!sw && fieldOf v 5 1 == 0)) s

/-- L2C_MOP_CLEAN (R427): a write of L2C_MOP. -/
def execL2cMopClean (m : Master) (v : Word) (s : State) : Host.Outcome State Fault Refusal := done s (regWrite s m Reg.L2C_MOP 4 v (mopGo m v))
/-- L2C_MOP_INVALIDATE (R427): a write of L2C_MOP. -/
def execL2cMopInvalidate (m : Master) (v : Word) (s : State) : Host.Outcome State Fault Refusal := done s (regWrite s m Reg.L2C_MOP 4 v (mopGo m v))
/-- L2C_MOP_CLEAN_INVALIDATE (R427): a write of L2C_MOP. -/
def execL2cMopCleanInvalidate (m : Master) (v : Word) (s : State) : Host.Outcome State Fault Refusal := done s (regWrite s m Reg.L2C_MOP 4 v (mopGo m v))
/-- L2C_MOP_ZERO (R3, R427): a write of L2C_MOP. -/
def execL2cMopZero (m : Master) (v : Word) (s : State) : Host.Outcome State Fault Refusal := done s (regWrite s m Reg.L2C_MOP 4 v (mopGo m v))

/-- The operation ends (R427). -/
def mopDone (s : State) : State :=
  if !s.ms.mopRun then s
  else (((s.setMs { s.ms with mopRun := false }).setBit Reg.L2C_MOP 31 false).setBit (Reg.STAT pgL2C) 9 false).raise pgL2C 0
/-- L2C_MOP_DONE (R427). -/
def execL2cMopDone (s : State) : Host.Outcome State Fault Refusal := done s (mopDone s)

/-- Every dirty line is written back, then every line dropped (R429). -/
def l2Flush (s : State) : State :=
  let s := s.ms.l2.foldl l2Clean s
  s.setMs { s.ms with l2 := [] }

/-- L2C_CTRL was written; `was` is EN before (R429). EN reads 1 until a drain ends. -/
def l2CtrlEff (was : Bool) (s : State) : State :=
  if was ∧ !l2On s ∧ !s.ms.drain then
    let s := (s.setBit Reg.L2C_CTRL 0 true).setBit (Reg.STAT pgL2C) 8 true
    (l2Flush s).setMs { (l2Flush s).ms with drain := true }
  else if s.ms.drain then s.setBit Reg.L2C_CTRL 0 true
  else s

/-- L2C_DRAIN (R429): a write of L2C_CTRL. -/
def execL2cDrain (m : Master) (v : Word) (s : State) : Host.Outcome State Fault Refusal :=
  done s (regWrite s m Reg.L2C_CTRL 4 v (l2CtrlEff (l2On s)))

/-- The drain ends (R429). -/
def drainDone (s : State) : State :=
  if !s.ms.drain then s
  else (((s.setMs { s.ms with drain := false }).setBit Reg.L2C_CTRL 0 false).setBit (Reg.STAT pgL2C) 8 false).raise pgL2C 1
/-- L2C_DRAIN_DONE (R429). -/
def execL2cDrainDone (s : State) : Host.Outcome State Fault Refusal := done s (drainDone s)

/-! ## L1 (R411, R413) -/

/-- A hart. -/
def State.hart (s : State) (h : Nat) : Hart := s.harts.getD h ⟨false, 0, false, none, 0, false, none, [], [], []⟩
/-- Replaces a hart. -/
def State.updHart (s : State) (h : Nat) (f : Hart → Hart) : State := { s with harts := s.harts.modify h f }

/-- The master ID of a hart (R408). -/
def hartMaster (h : Nat) : Master := match h with | 0 => .cc0 | 1 => .cc1 | 2 => .cc2 | 3 => .cc3 | _ => .sup

/-- A CSR of a hart (R413). -/
abbrev csr (h n : Nat) : Nat := 0x400000000 + h * 0x1000 + n

/-- A hart's L1I or L1D is enabled: command cores only (R413). -/
def l1iOn (s : State) (h : Nat) : Bool := decide (h < 4) && s.bit (csr h 0x7C0) 0
def l1dOn (s : State) (h : Nat) : Bool := decide (h < 4) && s.bit (csr h 0x7C0) 1

/-- A line joins an L1 of 512 lines; which line a full cache gives up is open (R408, R411). -/
def l1Add (k : Nat) (l : CacheLine) (c : List CacheLine) : List CacheLine :=
  let c := c.filter (fun x => x.line != l.line)
  l :: (if c.length < 512 then c else c.eraseIdx (k % 512))

/-- A store by a hart: its own L1D line takes it, the other L1Ds drop theirs (R411). -/
def l1Store (h a : Nat) (bs : List Nat) (s : State) : State :=
  { s with harts := s.harts.zipIdx.map (fun q =>
      if q.2 = h then { q.1 with l1d := q.1.l1d.map (fun c => if c.line = a / 64 then
          { c with data := lineData ((List.range 64).map (fun i => if a % 64 ≤ i ∧ i < a % 64 + bs.length then bs.getD (i - a % 64) 0 else (lineBytes c.data).getD i 0)) } else c) }
      else { q.1 with l1d := q.1.l1d.filter (fun c => c.line != a / 64) }) }

/-- Reservations on a line end, but the hart's own (R408, R410). -/
def breakRes (h line : Nat) (s : State) : State :=
  { s with harts := s.harts.zipIdx.map (fun q => if q.2 ≠ h ∧ q.1.reservation = some line then { q.1 with reservation := none } else q.1) }

/-- FENCE_I (R411): the hart's fetches see its earlier stores. -/
def fenceI (h : Nat) (s : State) : State := s.updHart h (fun x => { x with l1i := [] })
/-- FENCE_I (R411). -/
def execFenceI (h : Nat) (s : State) : Host.Outcome State Fault Refusal := done s (fenceI h s)

/-- lnl1op (R413): bit 0 invalidates L1I, bit 1 L1D. -/
def l1Op (h : Nat) (v : Word) (s : State) : State :=
  s.updHart h (fun x => { x with l1i := if fieldOf v 0 1 = 1 then [] else x.l1i, l1d := if fieldOf v 1 1 = 1 then [] else x.l1d })
/-- LNL1OP_WRITE (R413). -/
def execLnl1opWrite (h : Nat) (v : Word) (s : State) : Host.Outcome State Fault Refusal := done s (l1Op h v s)

/-! ## Traps of a core and cache block operations (R408, R410, R411, R413) -/

/-- A hart takes an exception: its cause code and address. -/
def coreTrap (h cause a : Nat) (s : State) : State := s.updHart h (fun x => { x with trap := some (cause, a) })

/-- An access fault: lnberr holds the address, lnbsrc the kind (R413). -/
def coreFault (h cause kind a : Nat) (s : State) : State :=
  coreTrap h cause a ((s.setReg (csr h 0x7C2) (Word.ofNat a)).setReg (csr h 0x7C3) (Word.ofNat kind))

/-- The command cores have the cache block operations; the supervisor raises an illegal-instruction exception (R408). -/
def cboHart (h : Nat) (f : State → State) (s : State) : State := if h < 4 then f s else coreTrap h 2 0 s

/-- The issuing core's L1 loses a line. -/
def l1Forget (h line : Nat) (s : State) : State :=
  s.updHart h (fun x => { x with l1i := x.l1i.filter (fun c => c.line != line), l1d := x.l1d.filter (fun c => c.line != line) })

/-- cbo.clean: L1D is write-through, so L2's line alone is written back (R411). -/
def cboClean (a : Nat) (s : State) : State :=
  match l2Find s (a / 64) with
  | some l => l2Clean s l
  | none => s
/-- cbo.inval (R411). -/
def cboInval (h a : Nat) (s : State) : State := l2Drop (l1Forget h (a / 64) s) (a / 64)
/-- cbo.flush (R411). -/
def cboFlush (h a : Nat) (s : State) : State := cboInval h a (cboClean a s)

/-- CBO_CLEAN (R411). -/
def execCboClean (h a : Nat) (s : State) : Host.Outcome State Fault Refusal := done s (cboHart h (cboClean a) s)
/-- CBO_INVAL (R411). -/
def execCboInval (h a : Nat) (s : State) : Host.Outcome State Fault Refusal := done s (cboHart h (cboInval h a) s)
/-- CBO_FLUSH (R411). -/
def execCboFlush (h a : Nat) (s : State) : Host.Outcome State Fault Refusal := done s (cboHart h (cboFlush h a) s)

/-- cbo.zero (R408, R411, R432): a line of SRAM is zeroed; the LN7720 has no such instruction. -/
def cboZero (h a : Nat) (s : State) : State :=
  let l := a / 64 * 64
  if s.variant = .ln7720 then coreTrap h 2 0 s
  else if !inSram l then coreFault h 7 (if inRom l ∨ inFlash l then 3 else 0) l s
  else if !sramGrants s (hartMaster h) l .write then aclRefuse s (hartMaster h) l 0 .write
  else
    let s := breakRes h (l / 64) (l1Store h l (List.replicate 64 0) s)
    if l2On s then mopZero 1 (l / 64) s
    else writeWords (hartMaster h) 9 l (List.replicate 64 0) s
/-- CBO_ZERO (R408). -/
def execCboZero (h a : Nat) (s : State) : Host.Outcome State Fault Refusal := done s (cboHart h (cboZero h a) s)

end Sys2Proof.Machine
end

