-- ==== Sys2Proof/Machine/Tick.lean ====
section
/-! DEFINITION. The tick boundary (R4, R99, R190 to R195, R209, R211): the exchange, the compute phase and the work each
block does once a tick. -/
namespace Sys2Proof.Machine

/-! ## Hints -/

/-- Raw hint code of a read spot from the trimmed samples of a tick, in 1/16 code (R99, R159). -/
def hintCode (s : State) (mean : Nat) (sum te fe : List Int) : Nat :=
  let below := fun (th : Nat) => sum.any (fun x => decide (x * 256 * 65536 < (th : Int) * (mean : Int)))
  let past := fun (l : List Int) (th : Nat) => l.any (fun x => decide (16 * th < x.natAbs))
  let env := below (s.fld Reg.DET_HINT_ENV 0 8)
  let te1 := past te (s.fld Reg.DET_HINT_TE 0 12)
  let fe1 := past fe (s.fld Reg.DET_HINT_FE 0 12)
  let sev := below (s.fld Reg.DET_HINT_ENV 8 8) || past te (s.fld Reg.DET_HINT_TE 16 12) || past fe (s.fld Reg.DET_HINT_FE 16 12)
  8 * sev.toNat + 4 * env.toNat + 2 * te1.toNat + fe1.toNat

/-- The hint generator of one lane over the samples taken in the tick that ends; its mean does not follow ticks whose code is
nonzero (R99). -/
def hintLane (s : State) (l : Nat) : State :=
  let ch := fun k => (s.sv.hist.getD k []).take s.sv.taken
  let sum := ch l
  let mean := s.rd.hintMean.getD l 0
  let c := hintCode s mean sum (ch (4 + l)) (ch (8 + l))
  let avg : Int := if sum.isEmpty then 0 else sum.sum * 65536 / (sum.length : Int)
  let mean' := if c = 0 ∧ !sum.isEmpty then
    ((mean : Int) + (avg - mean) / ((2 ^ s.fld Reg.DET_HINT 16 5 : Nat) : Int)).toNat else mean
  { s with rd := { s.rd with
      hintMean := s.rd.hintMean.set l mean'
      hintRaw := s.rd.hintRaw.set l ((c :: s.rd.hintRaw.getD l []).take 128) } }

/-- Hint codes of a tick; a frozen DET keeps them. -/
def hintTick (s : State) : State := if s.frozen 0x0F then s else (List.range 4).foldl hintLane s

/-! ## Clocks -/

/-- Upsets of mortar words (R194). -/
def upsetMort (s : State) (u : Nat × Nat × Bool) : State :=
  let old := ((s.leng.faults.find? (fun f => f.1 == u.1)).map (·.2)).getD (0, false)
  let rest := s.leng.faults.filter (fun f => f.1 != u.1)
  s.setL { s.leng with faults := rest ++ [(u.1, (old.1 ||| u.2.1) % 2 ^ 39, old.2 || u.2.2)] }

/-- What PWR, SPN, ACT's bridges, WINH and the channel DMA measure or count in a tick (R286, R245, R188, R154, R334). -/
def supplyTick (s : State) (i : TickIn) : State :=
  let s := s.setFld Reg.PWR_VIN 0 13 (min 8191 (i.vin / 10))
  let loss := 250 * s.fld Reg.PWR_HU 8 8
  let s := { s with pwr := { s.pwr with
    under := if i.vin < loss then s.pwr.under + 1 else 0
    above := if loss + 500 < i.vin then s.pwr.above + 1 else 0 } }
  let s := (List.range 4).foldl (fun s b => s.setReg (Reg.ACT_BR_IMEAS b) (Word.ofNat (bitsOf 16 (i.imeas.getD b 0)))) s
  let s := if s.frozen 0x1B then s else s.addSat Reg.DMA_CDMA 0 16 i.dmaStalls
  let s := s.setReg Reg.WINH_SRC (Word.ofNat (i.winh % 65536))
  s.setFld Reg.SPN_FAULT 8 8 (min 200 i.temp)

/-- RF quality word: mean squared equaliser error of the period that ends, over the samples that counted; a period without any
leaves the word (R169). -/
def rfqTick (s : State) : State :=
  if s.ticks % 4096 ≠ 0 then s
  else
    let q := s.rd.rfq
    let s := { s with rd := { s.rd with rfq := (0, 0) } }
    if q.2 = 0 then s else s.setMort 0x23 (Word.ofNat (min 0xFFFFFFFF (q.1 * 2 ^ Config.rfqShift / q.2)))

/-! ## The exchange -/

/-- What every block does at a boundary whether the exchange runs or not (R209). -/
def blockTicks (s : State) : State :=
  let s := passTick (hintTick (monTick (gvelTick (stpTick (glidesTick (sweepTick s))))))
  s.setSv { s.sv with taken := 0 }

/-- A PWM valley falls on this boundary (R223). -/
def valleyTick (s : State) (i : TickIn) : State := if s.ticks % 32 = 0 then valley s i.shunts else s

/-- SPN answers PWR's request for HOLDUP: it enters it from SYNC, RUN or BRAKE, else refuses (R242, R277). -/
def holdupTick (s : State) : State :=
  if s.pwr.holdupReq then
    let s := { s with pwr := { s.pwr with holdupReq := false } }
    if spnState s = 4 ∨ spnState s = 5 ∨ spnState s = 6 then spnEnter s 8 else s
  else s

/-- Step 3: words of ACT, TICK, WSG, SPN and the read lanes, then COND (R190, R195). -/
def hardwareWords (s : State) (i : TickIn) : State :=
  let s := (s.setMort 0x21 (Word.ofNat (srvStat s))).setMort 0x22 (tickw s)
  let s := rfqTick s
  let s := if (runningArm s).isSome then { s.setMort 0x26 (Config.wsgMean s.fresh) with fresh := s.fresh + 1 }
    else s.setMort 0x26 (s.mort 0x86)
  let s := spnWords (spdTick (vbusTick s true i.vin) i.spd.1 i.spd.2)
  condTick (s.setL { s.leng with vdqNew := false, stall := 0 })

/-- A boundary at which the exchange runs in full (R190, R191). -/
def fullBoundary (s : State) (i : TickIn) : State :=
  let s := s.setL { s.leng with out := s.leng.outNew }
  let s := trcTick s i.stalls
  let s := if swapPending s then mgSwap (lengSwap s) else s
  let s := bridgesTick s
  let s := sadcTick s true
  let s := if s.leng.vdqNew then takeDemand s else s
  let s := hardwareWords (holdupTick (valleyTick s i)) i
  let s := if s.frozen pgCAL then s else (List.range 10).foldl mgCheck s
  let s := batchTick (routeTick (routeTick s 0) 1)
  let s := if s.frozen pgCAL then s else retryGlide ((List.range 10).foldl mgStep s)
  compute (blockTicks s)

/-- A boundary after an overrun: step 1 only; LENG ends the computation that overran (R209, R211). -/
def lateBoundary (s : State) (i : TickIn) : State :=
  let s := bridgeLate (trcTick s i.stalls)
  let s := vbusTick (valleyTick (sadcTick s false) i) false i.vin
  let s := computeLate (blockTicks s)
  s.setL { s.leng with late := false }

/-- One tick boundary: the tick that ends brings the rest of its samples, the count advances, the exchange runs, LENG computes
(R190), and the data path passes its status to the supervisor (R4). -/
def tickBoundary (i : TickIn) (s : State) : State :=
  let s := feed i.sadc s
  let s := { s with ticks := s.ticks + 1 }
  let s := supplyTick (i.upsets.foldl upsetMort s) i
  let s := match s.leng.overran with
    | some p => overrun s (s.ticks - 1) p
    | none => stopUnended s
  passStatus (supTick (if s.leng.late then lateBoundary s i else fullBoundary s i))

end Sys2Proof.Machine
end

