-- ==== Sys2Proof/Machine/Hq.lean ====
section
/-! DEFINITION. The meanings of the command queues' and translation's commands (R335 to R407). -/
namespace Sys2Proof.Machine

/-! ## Doorbells (R335, R369) -/

/-- Entries of a submission queue that are posted and not fetched. -/
def sqWaiting (s : State) (q : Sq) : Nat :=
  (s.fld (Reg.HQ_SQPTR q.id) 16 12 + q.size - s.fld (Reg.HQ_SQPTR q.id) 0 12) % q.size

/-- A doorbell violation (R358, R369, R371). -/
def doorbellBad (s : State) (row : Nat) : State :=
  let s := (s.raise pgHQ 1).err pgHQ 0x1502 15
  asyncEvent (hostViolation s 0) row 0

/-- The controller takes doorbells. -/
def ready (s : State) : Bool := s.bit aCSTS 0

/-- A submission queue tail doorbell (R369). -/
def sqDoorbell (y : Nat) (v : Word) (s : State) : State :=
  if !ready s then s
  else match s.sq y with
    | none => doorbellBad s 0
    | some q =>
      if q.size ≤ fieldOf v 0 16 then doorbellBad s 1
      else pump (s.setFld (Reg.HQ_SQPTR y) 16 12 (fieldOf v 0 16))

/-- A completion queue head doorbell: the head may not pass the entries posted (R369). -/
def cqDoorbell (y : Nat) (v : Word) (s : State) : State :=
  if !ready s then s
  else match s.cq y with
    | none => doorbellBad s 0
    | some q =>
      let h := s.fld (Reg.HQ_CQPTR y) 16 12
      let t := s.fld (Reg.HQ_CQPTR y) 0 12
      let n := fieldOf v 0 16
      if q.size ≤ n ∨ (t + q.size - h) % q.size < (n + q.size - h) % q.size then doorbellBad s 1
      else pump (s.setFld (Reg.HQ_CQPTR y) 16 12 n)

/-- SQ_TAIL_DOORBELL (R369). -/
def execSqTailDoorbell (y : Nat) (v : Word) (s : State) : Host.Outcome State Fault Refusal := done s (sqDoorbell y v s)
/-- CQ_HEAD_DOORBELL (R369). -/
def execCqHeadDoorbell (y : Nat) (v : Word) (s : State) : Host.Outcome State Fault Refusal := done s (cqDoorbell y v s)

/-! ## Arbitration and acceptance (R340, R341, R351, R387) -/

/-- HQ may fetch (R324, R337, R338, R351, R371). -/
def mayFetch (s : State) : Bool :=
  ready s && !cfs s && s.bit Reg.HQ_CTRL 0 && mayIssue s && s.hq.shut == 0 && decide (s.hq.ctx.length < 8192) && !s.frozen pgHQ

/-- Contexts a queue may still take (R351). -/
def ctxRoom (s : State) (admin : Bool) : Nat :=
  let used := s.hq.ctx.length + (s.hq.grants.map (·.n)).sum
  (if admin then 8192 else 8192 - s.fld Reg.HQ_CTRL 8 8) - used

/-- Queues that hold entries and have a context. -/
def hasWork (s : State) : List Sq := s.hq.sqs.filter (fun q => decide (0 < sqWaiting s q) && decide (0 < ctxRoom s (q.id == 0)))

/-- The queue after the last one served, in round robin. -/
def nextInTurn (last : Nat) (l : List Sq) : Option Sq :=
  match leastId (l.filter (fun q => decide (last < q.id))) with
  | some q => some q
  | none => leastId l
where
  /-- The queue with the lowest number. -/
  leastId (l : List Sq) : Option Sq := l.foldl (fun b q => match b with
    | none => some q
    | some m => if q.id < m.id then some q else some m) none

/-- The queue a grant goes to, and the credits of the weighted classes left (R340). -/
def arbitrate (s : State) : Option Sq × List Nat :=
  let l := hasWork s
  let cr := s.hq.credits
  if s.fld aCC 11 3 = 0 then (nextInTurn s.hq.last l, cr)
  else match l.find? (fun q => q.id == 0) with
    | some q => (some q, cr)
    | none =>
      match nextInTurn s.hq.last (l.filter (fun q => q.prio == 0)) with
      | some q => (some q, cr)
      | none =>
        let w := feature s 1
        let full := [fieldOf w 24 8 + 1, fieldOf w 16 8 + 1, fieldOf w 8 8 + 1]
        let cls := fun (i : Nat) => l.filter (fun q => q.prio == i + 1)
        let pick := fun (cr : List Nat) => (List.range 3).find? (fun i => decide (0 < cr.getD i 0) && !(cls i).isEmpty)
        match pick cr with
        | some i => (nextInTurn s.hq.last (cls i), cr.set i (cr.getD i 0 - 1))
        | none => match pick full with
          | some i => (nextInTurn s.hq.last (cls i), full.set i (full.getD i 0 - 1))
          | none => (none, cr)

/-- A grant: up to 2^AB entries of one queue are read in one request (R340, R341). -/
def fetchGrant (s : State) : State :=
  if !mayFetch s then s
  else
    let r := arbitrate s
    match r.1 with
    | none => s
    | some q =>
      let ab := fieldOf (feature s 1) 0 3
      let avail := min (sqWaiting s q) (ctxRoom s (q.id == 0))
      let n := if ab = 7 then avail else min avail (2 ^ ab)
      let h := s.fld (Reg.HQ_SQPTR q.id) 0 12
      let g := s.hq.grantNext
      let s := s.setHq { s.hq with grants := s.hq.grants ++ [⟨g, q.id, h, n, []⟩], grantNext := g + 1, last := q.id, credits := r.2 }
      let s := s.setFld (Reg.HQ_SQPTR q.id) 0 12 ((h + n) % q.size)
      let k := min n (q.size - h)
      let s := hostRead s (.sqe g) (q.base + 64 * h) 0 (64 * k)
      if k < n then hostRead s (.sqe g) q.base (64 * k) (64 * (n - k)) else s

/-- SQ_FETCH (R340). -/
def execSqFetch (s : State) : Host.Outcome State Fault Refusal := done s (fetchGrant s)

/-- The next acceptance number (R6). -/
def seqNext (s : State) : Nat := (s.reg Reg.HQ_SEQ_LO).toNat + s.fld Reg.HQ_SEQ_HI 0 16 * 2 ^ 32

/-- The number goes on (R6). -/
def seqAdvance (s : State) : State :=
  let n := (seqNext s + 1) % 2 ^ 48
  (s.setReg Reg.HQ_SEQ_LO (Word.ofNat (n % 2 ^ 32))).setFld Reg.HQ_SEQ_HI 0 16 (n / 2 ^ 32)

/-- A context that has just been accepted. -/
def freshCtx (seq sqid cqid : Nat) (dws : List Word) : Ctx :=
  { seq := seq, sqid := sqid, cqid := cqid, cid := fieldOf (dws.getD 0 0#32) 16 16, dws := dws, phase := .accepted, status := 0, dw0 := 0,
    errLba := 0, pages := [], prpNext := none, buf := [], snap := none, pins := [], sent := [], heat := 0, gen := 0, placed := [],
    mergeWait := false, mergeAt := 0, heldBy := none, step := 0 }

/-- An entry that no row of the command set takes up: its opcode or its ACTION is not one (R347, R361). -/
def unknownEntry (c : Ctx) : Option Nat :=
  if !opcodeKnown c then some stOpcode
  else if c.admin ∧ c.opc = 0xC1 ∧ 3 < c.f 10 0 4 then some stField
  else none

/-- An entry is numbered and accepted (R6, R341, R347, R353). -/
def acceptEntry (sqid cqid : Nat) (s : State) (dws : List Word) : State :=
  let c := freshCtx (seqNext s) sqid cqid dws
  let dup := s.hq.ctx.any (fun d => d.sqid == sqid && d.cid == c.cid)
  let s := seqAdvance (s.setHq { s.hq with ctx := s.hq.ctx ++ [c] })
  let s := syncCtx (s.addMod Reg.HQ_ACC 0 32 1)
  let s := if s.bit Reg.HQ_STALL 0 then s.raise pgHQ 2 else s
  let s := if !c.admin ∨ c.opc = 0xC1 ∨ c.opc = 0xC4 then psWake s else s
  let s := if c.admin then s else spinWake s
  if dup then finish (hostViolation s 2) c.seq stCidConflict 0 0
  else match unknownEntry c with
    | some st => finish s c.seq st 0 0
    | none => s

/-- The whole read of the oldest grant has arrived: its entries are accepted in slot order (R341). -/
def acceptGrant (gid : Nat) (s : State) : State :=
  match s.hq.grants with
  | [] => s
  | g :: t =>
    if g.id ≠ gid ∨ awaits s (.sqe gid) ∨ cfs s then s
    else
      let b := bufBytes g.got (64 * g.n)
      let cqid := ((s.sq g.sqid).map (·.cqid)).getD 0
      let s := s.setHq { s.hq with grants := t }
      let es := (List.range g.n).map (fun i => (List.range 16).map (fun k => Word.ofNat (leNat ((b.drop (64 * i + 4 * k)).take 4))))
      let s := if (s.sq g.sqid).isSome then es.foldl (acceptEntry g.sqid cqid) s else s
      pump (seqReserve s)

/-- SQ_ENTRIES_ARRIVE (R341). -/
def execSqEntriesArrive (grant : Nat) (s : State) : Host.Outcome State Fault Refusal := done s (acceptGrant grant s)

/-! ## Taking up a command -/

/-- A warm reset, the last gasp or a fatal status holds every command (R277, R337, R482). -/
def heldUp (s : State) : Bool := s.boot.warm || lgRuns s || cfs s

/-- A command is taken up: checked, its PRPs followed, then whatever can go on goes on (R347). -/
def takeUp (mine : Ctx → Bool) (seq : Nat) (s : State) : State :=
  match s.ctx seq with
  | none => s
  | some c =>
    if !mine c ∨ heldUp s then s
    else if c.phase = .running then pump s
    else if c.phase ≠ .accepted then s
    else match entryFault s c with
      | some st => pump (refuseEntry s c st)
      | none => pump (startPrp (s.updCtx seq (fun c => { c with phase := .running })) c)

/-- The same, with a first effect of its own. -/
def takeUpWith (mine : Ctx → Bool) (f : State → Ctx → State) (seq : Nat) (s : State) : State :=
  match s.ctx seq with
  | none => s
  | some c =>
    let t := takeUp mine seq s
    if mine c ∧ c.phase = .accepted then
      match stillRuns t seq with
      | some d => pump (f t d)
      | none => t
    else t

/-- An admin command of an opcode. -/
def isAdmin (op : Nat) (c : Ctx) : Bool := c.admin && c.opc == op
/-- An I/O command of an opcode. -/
def isIo (op : Nat) (c : Ctx) : Bool := !c.admin && c.opc == op
/-- A Disc Control of an ACTION. -/
def isDisc (a : Nat) (c : Ctx) : Bool := isAdmin 0xC1 c && c.f 10 0 4 == a

/-- CMD_DELETE_IO_SQ (R350). -/
def execCmdDeleteIoSq (seq : Nat) (s : State) : Host.Outcome State Fault Refusal := done s (takeUpWith (isAdmin 0x00) deleteSq seq s)
/-- CMD_CREATE_IO_SQ (R339). -/
def execCmdCreateIoSq (seq : Nat) (s : State) : Host.Outcome State Fault Refusal := done s (takeUp (isAdmin 0x01) seq s)
/-- CMD_GET_LOG_PAGE (R365). -/
def execCmdGetLogPage (seq : Nat) (s : State) : Host.Outcome State Fault Refusal := done s (takeUp (isAdmin 0x02) seq s)
/-- CMD_DELETE_IO_CQ (R339). -/
def execCmdDeleteIoCq (seq : Nat) (s : State) : Host.Outcome State Fault Refusal := done s (takeUp (isAdmin 0x04) seq s)
/-- CMD_CREATE_IO_CQ (R339). -/
def execCmdCreateIoCq (seq : Nat) (s : State) : Host.Outcome State Fault Refusal := done s (takeUp (isAdmin 0x05) seq s)
/-- CMD_IDENTIFY (R355). -/
def execCmdIdentify (seq : Nat) (s : State) : Host.Outcome State Fault Refusal := done s (takeUp (isAdmin 0x06) seq s)
/-- CMD_ABORT (R349). -/
def execCmdAbort (seq : Nat) (s : State) : Host.Outcome State Fault Refusal := done s (takeUp (isAdmin 0x08) seq s)
/-- CMD_SET_FEATURES (R357). -/
def execCmdSetFeatures (seq : Nat) (s : State) : Host.Outcome State Fault Refusal := done s (takeUp (isAdmin 0x09) seq s)
/-- CMD_GET_FEATURES (R357). -/
def execCmdGetFeatures (seq : Nat) (s : State) : Host.Outcome State Fault Refusal := done s (takeUp (isAdmin 0x0A) seq s)
/-- CMD_ASYNC_EVENT_REQUEST (R358). -/
def execCmdAsyncEventRequest (seq : Nat) (s : State) : Host.Outcome State Fault Refusal := done s (takeUpWith (isAdmin 0x0C) asyncRequest seq s)
/-- CMD_FIRMWARE_IMAGE_DOWNLOAD (R450). -/
def execCmdFirmwareImageDownload (seq : Nat) (s : State) : Host.Outcome State Fault Refusal := done s (takeUp (isAdmin 0x11) seq s)
/-- CMD_FIRMWARE_COMMIT (R450). -/
def execCmdFirmwareCommit (seq : Nat) (s : State) : Host.Outcome State Fault Refusal := done s (takeUp (isAdmin 0x10) seq s)
/-- CMD_KEEP_ALIVE (R356): the timer's end is a command of its own. -/
def execCmdKeepAlive (seq : Nat) (s : State) : Host.Outcome State Fault Refusal := done s (takeUp (isAdmin 0x18) seq s)
/-- CMD_ATTESTATION_REPORT (R362). -/
def execCmdAttestationReport (seq : Nat) (s : State) : Host.Outcome State Fault Refusal := done s (takeUp (isAdmin 0xC2) seq s)
/-- CMD_RECORDER_CLEAR (R363). -/
def execCmdRecorderClear (seq : Nat) (s : State) : Host.Outcome State Fault Refusal := done s (takeUp (isAdmin 0xC3) seq s)
/-- CMD_MEDIA_VERIFY (R364). -/
def execCmdMediaVerify (seq : Nat) (s : State) : Host.Outcome State Fault Refusal :=
  done s (takeUp (fun c => isAdmin 0xC4 c && c.f 10 0 2 != 3) seq s)
/-- CMD_MEDIA_VERIFY_STOP (R364). -/
def execCmdMediaVerifyStop (seq : Nat) (s : State) : Host.Outcome State Fault Refusal :=
  done s (takeUp (fun c => isAdmin 0xC4 c && c.f 10 0 2 == 3) seq s)
/-- CMD_FLUSH (R344). -/
def execCmdFlush (seq : Nat) (s : State) : Host.Outcome State Fault Refusal := done s (takeUp (isIo 0x00) seq s)
/-- CMD_WRITE (R346, R381). -/
def execCmdWrite (seq : Nat) (s : State) : Host.Outcome State Fault Refusal := done s (takeUp (isIo 0x01) seq s)
/-- CMD_READ (R378, R379). -/
def execCmdRead (seq : Nat) (s : State) : Host.Outcome State Fault Refusal := done s (takeUp (isIo 0x02) seq s)
/-- CMD_COMPARE (R346, R356). -/
def execCmdCompare (seq : Nat) (s : State) : Host.Outcome State Fault Refusal := done s (takeUp (isIo 0x05) seq s)
/-- CMD_WRITE_ZEROES (R384). -/
def execCmdWriteZeroes (seq : Nat) (s : State) : Host.Outcome State Fault Refusal := done s (takeUp (isIo 0x08) seq s)
/-- CMD_DATASET_MANAGEMENT (R384). -/
def execCmdDatasetManagement (seq : Nat) (s : State) : Host.Outcome State Fault Refusal := done s (takeUp (isIo 0x09) seq s)

/-! ## Disc Control (R361, R480) -/

/-- The load sequence ends (R53, R361, R402, R480): with no disc, with focus or the disc information not found, with a disc
refused, which is recorded (R21), or with the side mounted. -/
def loadEnds (i : LoadIn) (s : State) (c : Ctx) : State :=
  let dw := fun (res : Nat) (di : List Nat) => res + diMtype di % 256 * 256 + diSide di % 2 * 65536
  let finds := finish (asyncEvent s 4 0) c.seq
  if i.result = 4 then finds stNotReady 4 0
  else match findDi i.words with
    | .nothing => if i.result = 3 then finds stFocus 3 0 else finds stDiscRefused 2 0
    | .refused di => finish (asyncEvent (s.report pgHQ Config.discRefusedCode 15 []) 4 0) c.seq stDiscRefused (dw 1 di) 0
    | .accepted di =>
      if i.result = 3 then finds stFocus (dw 3 di) 0 else finish (asyncEvent (mountSide s di i) 4 0) c.seq stOk (dw 0 di) 0

/-- LOAD: with a disc loaded it completes with Disc Present; else the sequence runs, and ends with what it brings. -/
def discLoad (i : Option LoadIn) (s : State) (c : Ctx) : State :=
  if mounted s then finish s c.seq stDiscPresent 0 0
  else match i with
    | some x => loadEnds x s c
    | none => s

/-- CMD_DISC_LOAD (R361, R480). -/
def execCmdDiscLoad (seq : Nat) (i : Option LoadIn) (s : State) : Host.Outcome State Fault Refusal :=
  let u := takeUp (isDisc 0) seq s
  done s (match stillRuns u seq with
    | some c => if isDisc 0 c ∧ !heldUp s then pump (discLoad i u c) else u
    | none => u)

/-- UNLOAD or PREPARE FLIP with no disc loaded (R347). -/
def discGone (s : State) (c : Ctx) : State := if mounted s then s else finish s c.seq stNotReady 0 0

/-- CMD_DISC_SPIN (R361). -/
def execCmdDiscSpin (seq : Nat) (s : State) : Host.Outcome State Fault Refusal := done s (takeUp (isDisc 1) seq s)
/-- CMD_DISC_UNLOAD (R361). -/
def execCmdDiscUnload (seq : Nat) (s : State) : Host.Outcome State Fault Refusal := done s (takeUpWith (isDisc 2) discGone seq s)
/-- CMD_DISC_PREPARE_FLIP (R361). -/
def execCmdDiscPrepareFlip (seq : Nat) (s : State) : Host.Outcome State Fault Refusal := done s (takeUpWith (isDisc 3) discGone seq s)

/-! ## Timers and background ends -/

/-- KATO_EXPIRY: the time of feature 0x0F, in ms, has passed since the timer was last restarted. It is recorded and reported,
with no reset (R357); the timer then starts again (DESIGN CHOICE). -/
def katoExpiry (s : State) : State :=
  if feature s 15 = 0#32 ∨ !ready s ∨ s.ticks < s.hq.katoAt + 1600 * (feature s 15).toNat then s
  else asyncEvent (((s.raise pgHQ 4).err pgHQ 0x1505 15).report pgHQ 0x1505 15 [] |> katoRestart) 7 0
/-- KATO_EXPIRY (R357). -/
def execKatoExpiry (s : State) : Host.Outcome State Fault Refusal := done s (katoExpiry s)

/-- A verify has read every strip: its event (R364). -/
def verifyDone (s : State) : State :=
  let s := runVerify s
  if s.hq.verify.st = 1 ∧ s.hq.verify.todo.isEmpty then asyncEvent (s.setHq { s.hq with verify := { s.hq.verify with st := 2 } }) 6 0 else s
/-- MEDIA_VERIFY_DONE (R364). -/
def execMediaVerifyDone (s : State) : Host.Outcome State Fault Refusal := done s (verifyDone s)

/-- JOURNAL_UNIT_DURABLE (R384). -/
def execJournalUnitDurable (s : State) : Host.Outcome State Fault Refusal := done s (pump (journalDurable s))

/-! ## Power states (R353, R354) -/

/-- Steps of an entry by its target (R352, R353). -/
def psSteps (t : Nat) : Nat := if t = 2 then 3 else if t = 3 then 4 else 5

/-- The deepest link state enabled, for a power state that asks for L1.2 (R328): ASPM L1.2, L1.1, L1, L0s or L0. -/
def deepestLink (s : State) : Nat :=
  let l1ss := s.fld (cfgReg 0x168) 0 4
  let aspm := s.fld (cfgReg 0x70) 0 2
  if aspm / 2 % 2 = 1 then (if l1ss.testBit 2 then 4 else if l1ss.testBit 3 then 3 else 2)
  else if aspm % 2 = 1 then 1 else 0

/-- What an entry does on its way to a safe point (R353). -/
def psDoStep (s : State) (n : Nat) : State :=
  match n with
  | 1 => spnModeWrite .sup 2#32 s
  | 2 => s
  | 3 => s.setFld Reg.ACT_CFG 0 4 0
  | 4 => if 4 < s.fld Reg.PCIE_LINK 16 3 then s
    else let l := deepestLink s
      setLpm s l (if l = 0 then 1 else if l = 1 then 2 else 3)
  | _ =>
    -- L2 is drained before the cores go off (R429)
    let s := if l2On s then drainDone (l2CtrlEff true (s.setBit Reg.L2C_CTRL 0 false)) else s
    { s with harts := s.harts.map (fun h => { h with run := false, reservation := none, l1i := [], l1d := [] }) }

/-- An entry reaches its next safe point: a command that arrived ends it there, else it goes on (R353). -/
def safePoint (s : State) : State :=
  if !s.bit Reg.HQ_PS 8 then s
  else
    let t := s.fld Reg.HQ_PS 4 3
    let back := s.hq.wanted || operational t
    if back then
      let p := if s.hq.wanted then s.hq.oper else t
      let s := ((s.setFld Reg.HQ_PS 0 3 p).setFld Reg.HQ_PS 4 3 p).setBit Reg.HQ_PS 8 false
      let s := (s.setFld Reg.HQ_PS 9 3 0).setHq { s.hq with wanted := false, oper := p }
      let s := if spnState s = 6 then spnModeWrite .sup 1#32 s else s
      s.raise pgHQ 3
    else
      let n := s.fld Reg.HQ_PS 9 3 + 1
      let s := (psDoStep s n).setFld Reg.HQ_PS 9 3 n
      if psSteps t ≤ n then ((s.setFld Reg.HQ_PS 0 3 t).setBit Reg.HQ_PS 8 false).raise pgHQ 3 else s
/-- POWER_STATE_SAFE_POINT (R353). -/
def execPowerStateSafePoint (s : State) : Host.Outcome State Fault Refusal := done s (safePoint s)

/-- The idle time of the table's entry for the present state has passed with no command outstanding (R354). -/
def apstGo (s : State) : State :=
  let e := leNat ((s.hq.apst.drop (8 * s.fld Reg.HQ_PS 0 3)).take 8)
  if fieldOf (feature s 12) 0 1 = 1 ∧ !s.bit Reg.HQ_PS 8 ∧ e / 256 % 2 ^ 24 ≠ 0 ∧
      idle s ∧ s.hq.idleAt + 1600 * (e / 256 % 2 ^ 24) ≤ s.ticks ∧ e / 8 % 32 ≤ 4 then
    psRequest s (e / 8 % 32)
  else s
/-- APST_TRANSITION (R354). -/
def execApstTransition (s : State) : Host.Outcome State Fault Refusal := done s (apstGo s)

/-! ## Translation and media management -/

/-- FILLT ms have passed since the first block of a stream's group was given its place (R381). -/
def fillTimeout (k : Nat) (s : State) : State :=
  match fillSlot s k with
  | some x => if x.since + 1600 * s.fld Reg.XLT_CFG 8 8 ≤ s.ticks then pump (closeSlot s k) else s
  | none => s
/-- STAGING_FILL_TIMEOUT (R381). -/
def execStagingFillTimeout (k : Nat) (s : State) : Host.Outcome State Fault Refusal := done s (fillTimeout k s)

/-- XLT_CKPT.GO and INT, FULL (R399, R405, R406): GO while a checkpoint runs is refused. -/
def ckptWrite (v : Word) (s : State) : State := if fieldOf v 16 1 = 1 then pump (startCkpt s false) else s

/-- XLT_CKPT_GO (R399). -/
def execXltCkptGo (m : Master) (v : Word) (s : State) : Host.Outcome State Fault Refusal :=
  done s (regWriteIf s m Reg.XLT_CKPT 4 v (!(fieldOf v 16 1 == 1 && s.xlt.ckpt.isSome)) (ckptWrite v))

/-- XLT_CKPT_INTERVAL: INT seconds since the last checkpoint, with some unit committed (R399). -/
def ckptInterval (s : State) : State :=
  if s.xlt.dirty ∧ s.xlt.ckptAt + 1600000 * s.fld Reg.XLT_CKPT 0 16 ≤ s.ticks then pump (startCkpt s false) else s
/-- XLT_CKPT_INTERVAL (R399). -/
def execXltCkptInterval (s : State) : Host.Outcome State Fault Refusal := done s (ckptInterval s)

/-- XLT_LK_CTRL.GO looks a block up (R377, R406). -/
def lookupGo (v : Word) (s : State) : State :=
  if fieldOf v 0 1 = 0 then s
  else
    let lba := (s.reg Reg.XLT_LK_LBA_LO).toNat + s.fld Reg.XLT_LK_LBA_HI 0 8 * 2 ^ 32
    let put := fun (s : State) (n : Nat) => (List.range 4).foldl (fun s i => s.setReg (Reg.XLT_LK_CTX i) (Word.ofNat (n / 2 ^ (32 * i) % 2 ^ 32))) s
    if !mounted s then s.setReg Reg.XLT_LK_CTRL 0x300#32
    else
      let r := readIndex s
      match leavesOf r.1 lba 1 with
      | i :: _ =>
        let q := readLeaf r.2 (((r.1[i]?).map (·.leaf)).getD 0)
        match q.1 with
        | none => (reportCorrupt q.2 (((r.1[i]?).map (·.leaf)).getD 0)).setReg Reg.XLT_LK_CTRL 0x200#32
        | some es => match es.find? (fun e => decide (e.start ≤ lba) && decide (lba < e.start + e.len)) with
          | some e => (put q.2 e.word).setReg Reg.XLT_LK_CTRL 0x100#32
          | none => (put q.2 0).setReg Reg.XLT_LK_CTRL 0#32
      | [] => (put r.2 0).setReg Reg.XLT_LK_CTRL 0#32

/-- XLT_LOOKUP (R377). -/
def execXltLookup (m : Master) (v : Word) (s : State) : Host.Outcome State Fault Refusal :=
  done s (regWrite s m Reg.XLT_LK_CTRL 4 v (lookupGo v))

/-- A command that waits for merging has waited MERGET without room (R403). -/
def mergeTimeout (seq : Nat) (s : State) : State :=
  match s.ctx seq with
  | some c => if c.mergeWait ∧ c.mergeAt + 160000 * s.fld Reg.XLT_MERGE 16 8 ≤ s.ticks ∧ wantsPlace s c ∧ !c.ranges.all (fun q => canReserve s q.1 q.2) then pump (capacityFail s seq c.slba) else pump s
  | none => s
/-- MERGE_WAIT_TIMEOUT (R403). -/
def execMergeWaitTimeout (seq : Nat) (s : State) : Host.Outcome State Fault Refusal := done s (mergeTimeout seq s)

/-- The pins of a reading command that has latched, failed or been abandoned go; a reset that waited may start (R379, R391). -/
def unpin (seq : Nat) (s : State) : State :=
  match s.xlt.unpin.find? (fun u => u.1 == seq) with
  | none => s
  | some u =>
    let s := s.setXlt { s.xlt with unpin := s.xlt.unpin.filter (fun w => w.1 != seq) }
    pump (u.2.foldl (fun s n => s.updBrick n (fun b => { b with pins := b.pins - 1 })) s)
/-- SNAPSHOT_UNPIN (R379). -/
def execSnapshotUnpin (seq : Nat) (s : State) : Host.Outcome State Fault Refusal := done s (unpin seq s)

/-- The brick a MEDM_RST write names, by number in the brick table; none where it does not exist. -/
def rstBrick (s : State) (v : Word) : Option Nat :=
  let l := fieldOf v 0 4
  let b := fieldOf v 4 10
  if b < s.wenc.nbrick.getD l 0 then some ((s.wenc.nbrick.take l).sum + b) else none

/-- R393, R405: firmware may reset a PENDRST or META brick, or a used-up test brick of a VAD-RW side; a brick with pins or under
reset is not one it allows. -/
def rstAllowed (s : State) (v : Word) : Bool :=
  match rstBrick s v with
  | none => false
  | some n =>
    let b := s.brick n
    mounted s && s.xlt.rw && s.xlt.reset.isNone && b.pins == 0 && (b.st == 4 || b.st == 9 || (b.st == 8 && b.front == 128))

/-- The effect of MEDM_RST.GO. -/
def rstGo (v : Word) (s : State) : State :=
  if fieldOf v 31 1 = 0 then s
  else match rstBrick s v with
    | some n => pump (beginReset (s.setBit Reg.MEDM_RST 31 true) n true)
    | none => s

/-- MEDM_RST_GO (R393). -/
def execMedmRstGo (m : Master) (v : Word) (s : State) : Host.Outcome State Fault Refusal :=
  done s (regWriteIf s m Reg.MEDM_RST 4 v (fieldOf v 31 1 == 0 || rstAllowed s v) (rstGo v))

/-- BRICK_RESET_SEGMENT_DONE (R393). -/
def execBrickResetSegmentDone (good : Bool) (s : State) : Host.Outcome State Fault Refusal := done s (pump (syncPool (segmentDone good s)))

/-! ## Rows of other blocks after which translation goes on -/

/-- TICK_BOUNDARY (R190): HQ, XLT and MEDM take up what other blocks have given them. -/
def execTickBoundary (i : TickIn) (s : State) : Host.Outcome State Fault Refusal := done s (pump (tickBoundary i s))

/-- DRAW_VERDICT (R137): XLT takes the verdict (R382). -/
def execDrawVerdict (s : State) : Host.Outcome State Fault Refusal := done s (s.unlessFrozen pgDRAW (fun s => pump (drawVerdict s)))

end Sys2Proof.Machine
end

