-- ==== Sys2Proof/Machine/Power.lean ====
section
/-! DEFINITION. The meanings of PWR's commands: the over-voltage ladder and the last-gasp sequence (R266 to R286). -/
namespace Sys2Proof.Machine

/-- Page of PWR. -/
abbrev pgPWR : Nat := 0x02

/-- Replaces PWR's own state. -/
def State.setPwr (s : State) (x : Pwr) : State := { s with pwr := x }

/-- LGSTATE (R286). -/
def State.setLg (s : State) (n : Nat) : State := s.setFld (Reg.STAT pgPWR) 12 3 n

/-- An event of PWR that is counted and recorded: interrupt bit, code, low bit of its count in PWR_CNT (R286). -/
def pwrEvent (s : State) (irq code cnt : Nat) : State :=
  (((s.raise pgPWR irq).err pgPWR code 15).addSat Reg.PWR_CNT cnt 8 1).report pgPWR code 15 []

/-! ## The over-voltage ladder -/

/-- OVSTATE changes; the change is recorded (R275). -/
def setOv (s : State) (n : Nat) : State :=
  if ovState s = n then s else (s.setFld (Reg.STAT pgPWR) 8 3 n).report pgPWR Config.ovStateCode 15 []

/-- OVSTATE changes as part of an event that has a record of its own. -/
def setOvQuiet (s : State) (n : Nat) : State := s.setFld (Reg.STAT pgPWR) 8 3 n

/-- BRKG goes low. -/
def brkgLow (s : State) : State := s.setPwr { s.pwr with brkg := false, chopWin := none }

/-- Braking that returns nothing: ZEROV, gate dropped, OVSTATE ZVBRK; with the spindle open in OVOPEN that state stays
(R273, R274). -/
def zeroBrake (s : State) (quiet : Bool) : State :=
  let s := brkgLow s
  let s := if ovState s = 3 then s
    else
      let s := forceZerov s
      if quiet then setOvQuiet s 2 else setOv s 2
  dropGate s 2

/-- VIN, in mV, reaches OV1 (R271, R273). -/
def vinOv1 (vin : Nat) (s : State) : State :=
  let s := (s.raise pgPWR 0).addSat Reg.PWR_CNT 0 8 1
  if s.bit Reg.PWR_BRK 0 ∧ !s.pwr.faulty then
    if s.pwr.brkg then s
    else
      let s := s.setPwr { s.pwr with brkg := true, chopWin := some vin }
      if ovState s = 0 then setOv s 1 else s
  else zeroBrake s false

/-- VIN_OV1: the mean of 4 samples has risen to `vin` mV (R270). -/
def execVinOv1 (vin : Nat) (s : State) : Host.Outcome State Fault Refusal :=
  done s (if 250 * s.fld Reg.PWR_OV 0 8 ≤ vin then vinOv1 vin (s.setFld Reg.PWR_VIN 0 13 (min 8191 (vin / 10))) else s)

/-- 200 µs after BRKG rose: VIN now, its greatest fall from its peak, and the greatest code of channel PWR_BRK.CH within
the window (R272, R273). -/
def chopperWindow (vin fall : Nat) (code : Int) (s : State) : State :=
  match s.pwr.chopWin with
  | some v =>
    let seen := if s.bit Reg.PWR_BRK 1 then decide ((s.fld Reg.PWR_BRK 16 12 : Int) < code) else decide (100 ≤ fall)
    let s := s.setPwr { s.pwr with chopWin := none }
    if v + 200 < vin ∨ !seen then
      let s := s.setPwr { s.pwr with faulty := true }
      zeroBrake (pwrEvent s 1 0x1102 8) true
    else s
  | none => s

/-- CHOPPER_WINDOW_END. -/
def execChopperWindowEnd (vin fall : Nat) (code : Int) (s : State) : Host.Outcome State Fault Refusal :=
  done s (chopperWindow vin fall code s)

/-- VIN is at or below OV1 − BHYS, in 10 mV (R275). -/
def vinLow (s : State) : Bool :=
  decide (s.fld Reg.PWR_VIN 0 13 + 25 * s.fld Reg.PWR_OV 16 4 ≤ 25 * s.fld Reg.PWR_OV 0 8)

/-- VIN falls to OV1 − BHYS (R271). -/
def vinChopEnd (s : State) : State :=
  let s := brkgLow s
  if ovState s = 1 then setOv s 0 else s

/-- VIN_CHOP_END: VIN as measured is at or below OV1 − BHYS. -/
def execVinChopEnd (s : State) : Host.Outcome State Fault Refusal := done s (if vinLow s then vinChopEnd s else s)

/-- VIN reaches OV2: every spindle switch opens (R274). -/
def vinOv2 (s : State) : State :=
  let s := spnEnter (s.setSpn { s.spn with keep := false, zvBack := false }) 0
  pwrEvent (setOvQuiet (dropGate s 2) 3) 2 0x1103 16

/-- VIN_OV2. -/
def execVinOv2 (s : State) : Host.Outcome State Fault Refusal := done s (vinOv2 s)

/-- R275, R282, R285: the clears a word asks for are all allowed. -/
def clrOk (s : State) (v : Word) : Bool :=
  (fieldOf v 0 2 == 0 || vinLow s) && (fieldOf v 2 1 == 0 || lgState s == 4)

/-- PWR_CLR written (R275, R282). -/
def clrEffect (v : Word) (s : State) : State :=
  let s := if fieldOf v 0 1 = 1 then s.setPwr { s.pwr with faulty := false } else s
  let s := if fieldOf v 0 2 ≠ 0 ∧ (ovState s = 2 ∨ ovState s = 3) then setOv s 0 else s
  if fieldOf v 2 1 = 1 then (s.setLg 0).setBit Reg.PWR_LG 8 false else s

/-- A write of PWR_CLR. -/
def clrWrite (m : Master) (v : Word) (s : State) : State := regWriteIf s m Reg.PWR_CLR 4 v (clrOk s v) (clrEffect v)

/-- PWR_CLR_CHOPFLT (R275). -/
def execPwrClrChopflt (m : Master) (v : Word) (s : State) : Host.Outcome State Fault Refusal := done s (clrWrite m v s)
/-- PWR_CLR_OVOPEN (R275). -/
def execPwrClrOvopen (m : Master) (v : Word) (s : State) : Host.Outcome State Fault Refusal := done s (clrWrite m v s)
/-- PWR_CLR_LGIDLE (R282). -/
def execPwrClrLgidle (m : Master) (v : Word) (s : State) : Host.Outcome State Fault Refusal := done s (clrWrite m v s)

/-- V5OUT carried more than 450 mA for 50 µs: the switch opens (R267). -/
def v5outOver (s : State) : State :=
  if s.bit Reg.PWR_RAIL 0 ∧ !s.bit Reg.PWR_RAIL 12 then ((s.setBit Reg.PWR_RAIL 12 true).raise pgPWR 7).err pgPWR 0x1106 15 else s

/-- V5OUT_OVERCURRENT. -/
def execV5outOvercurrent (s : State) : Host.Outcome State Fault Refusal := done s (v5outOver s)

/-! ## The last gasp -/

/-- The axes of the stepper groups halt (R277). -/
def axesHalt (s : State) : State := groupStop (groupStop s 0) 1

/-- VIN is declared lost: steps 2 to 4 of the sequence (R277). -/
def vinLoss (late : Bool) (s : State) : State :=
  if s.bit Reg.PWR_HU 0 ∧ (lgState s = 0 ∨ lgState s = 4) then
    let s := winhTrip s 65536 late
    let s := vinChopEnd s
    let s := pwrEvent (s.setBit Reg.HQ_CTRL 0 false) 3 0x1104 24
    let s := (s.setLg 1).setPwr { s.pwr with lossTick := some s.ticks, recoverPend := false, parkCalled := false, holdupReq := true }
    let s := (s.setBit Reg.HDL_CFG 0 false).setBit Reg.PWR_LG 8 false
    let s := writeAbandon (readAbandon s)
    let s := captureStart s
    axesHalt ((List.range 4).foldl (fun s b => drive s b 0) s)
  else s

/-- VIN has stood below VLOSS for TLOSS µs, a tick being 0.625 µs (R276). -/
def vinIsLost (s : State) : Bool := decide (s.fld Reg.PWR_HU 24 8 * 8 ≤ (s.pwr.under + 1) * 5)

/-- VIN_LOSS; `late` says that a running pass has its last channel bit of position 127 out (R147). -/
def execVinLoss (late : Bool) (s : State) : Host.Outcome State Fault Refusal := done s (if vinIsLost s then vinLoss late s else s)

/-- PWR leaves HOLDUP for RUN, with SETEFF starting from OMEGA (R281). -/
def holdupLeave (s : State) : State :=
  let s := s.setPwr { s.pwr with holdupReq := false }
  if spnState s = 8 then spnEnter (s.setSpn { s.spn with setEff := s.mortInt 0x69 * 3125 }) 5 else s

/-- LGSTATE becomes RECOVERED (R281, R282). -/
def lgRecovered (s : State) : State := ((s.setLg 4).setPwr { s.pwr with recoverPend := false }).raise pgPWR 6

/-- The park policy allows a park (R278). -/
def parkAllowed (s : State) : Bool :=
  s.fld Reg.PWR_HU 2 2 == 2 || (s.fld Reg.PWR_HU 2 2 == 1 && spnState s == 8)

/-- Step 6: the last-gasp task is done, or its time is over (R277 to R279, R281). -/
def lgDone (s : State) : State :=
  if lgState s = 1 then
    let ms := (s.ticks - s.pwr.lossTick.getD s.ticks) / 1600
    let s := ((s.setBit Reg.PWR_LG 8 true).setFld Reg.PWR_LG 16 9 (min 511 ms)).raise pgPWR 4
    if s.pwr.recoverPend then lgRecovered (holdupLeave s)
    else
      let s := if parkAllowed s then parkStart (s.setPwr { s.pwr with parkCalled := true }) else s
      s.setLg 2
  else s

/-- PWR_LG written (R277): DONE counts in CRITICAL. -/
def lgEffect (v : Word) (s : State) : State := if fieldOf v 8 1 = 1 then lgDone s else s

/-- PWR_LG_DONE. -/
def execPwrLgDone (m : Master) (v : Word) (s : State) : Host.Outcome State Fault Refusal :=
  done s (regWrite s m Reg.PWR_LG 4 v (lgEffect v))

/-- LGMAX expires with no DONE (R279); the recorder notes it at the next mount. -/
def lgTimeout (s : State) : State :=
  if lgState s = 1 ∧ s.pwr.lossTick.getD s.ticks + s.fld Reg.PWR_LG 0 8 * 1600 ≤ s.ticks then lgDone (((s.raise pgPWR 5).err pgPWR 0x1105 15).setPwr { s.pwr with lateNote := true }) else s

/-- LG_TIMEOUT. -/
def execLgTimeout (s : State) : Host.Outcome State Fault Refusal := done s (lgTimeout s)

/-- OMEGA lies below RAMPSPD. -/
def belowRampSpd (s : State) : Bool := decide (s.mortInt 0x69 < sigRpm (s.fld Reg.SPN_OLR 12 10 * 10 : Nat))

/-- Step 7: park is done or the disc is slow; HOLDUP ends in ZEROV (R277). -/
def holdupEnd (s : State) : State :=
  if lgState s = 2 ∧ ((s.pwr.parkCalled ∧ !s.bit (Reg.STAT pgSTP) 8) ∨ belowRampSpd s) then
    let s := s.setPwr { s.pwr with holdupReq := false }
    let s := if spnState s = 8 then spnEnter (s.setSpn { s.spn with zvBack := false }) 7 else s
    s.setLg 3
  else s

/-- HOLDUP_END. -/
def execHoldupEnd (s : State) : Host.Outcome State Fault Refusal := done s (holdupEnd s)

/-- PWR writes MODE = RUN to SPN (R282). -/
def pwrRun (s : State) : State :=
  match modeAction s 1 with
  | some act => modeEnter act (s.setFld Reg.SPN_MODE 0 3 1)
  | none => s

/-- VIN is back: before DONE the sequence goes on to it, after it the spindle runs again (R281, R282). -/
def vinRecovered (s : State) : State :=
  let n := lgState s
  if n = 1 then s.setPwr { s.pwr with recoverPend := true }
  else if n = 2 ∨ n = 3 then lgRecovered (pwrRun (holdupLeave s))
  else s

/-- VIN_RECOVERED: VIN has stood above VLOSS + 0.5 V for 10 ms (R281). -/
def execVinRecovered (s : State) : Host.Outcome State Fault Refusal :=
  done s (if 16000 ≤ s.pwr.above + 1 then vinRecovered s else s)

end Sys2Proof.Machine
end

