-- ==== Sys2Proof/Machine/Servo.lean ====
section
/-! DEFINITION. The meanings of the servo's commands: groove counter, groove addresses, jump sequencer, monitors, safe state,
bridges (R50, R160, R172 to R189, R505). -/
namespace Sys2Proof.Machine

/-! ## Groove counter and groove addresses -/

/-- GROOVE_CROSSING: the samples up to the one that completes a TE crossing (R160). -/
def execGrooveCrossing (x : List ServoSample) (s : State) : Host.Outcome State Fault Refusal := done s (feed x s)

/-- Replaces FMT's own state. -/
def State.setFmt (s : State) (x : Fmt) : State := { s with fmt := x }

/-- A capturing FMT stores the AUX byte of an accepted word (R505). -/
def takeAux (s : State) (w : Nat) : State :=
  if s.bit Reg.FMT_DI_CTRL 0 then
    let i := gaAuxIndex w
    let b := (GaWord.ofBits w).aux
    let s := memWrite s .cdma ((s.reg Reg.FMT_DI_BASE).toNat + i) [b]
    let s := s.setFmt { s.fmt with di := s.fmt.di.set i b, diMask := s.fmt.diMask ||| 2 ^ i }
    s.setFld Reg.FMT_DI_STAT 8 10 ((List.range 512).filter (fun k => s.fmt.diMask.testBit k)).length
  else s

/-- A word is accepted: it is the count from now on. -/
def gaAccept (s : State) (w conf : Nat) : State :=
  let s := (s.setReg Reg.FMT_GA_LO (Word.ofNat w)).setReg Reg.FMT_GA_HI (Word.ofNat (w / 2 ^ 32))
  let s := (s.setFld Reg.FMT_GASTAT 0 8 (min 255 conf)).setFld Reg.FMT_GASTAT 8 8 0
  takeAux (s.setFmt { s.fmt with pred := some (gaNext w), cand := none }) w

/-- GA_WORD: 92 received cells and the wobble rate in 10 Hz (R48 to R50, R505). -/
def gaWord (cells : List (List Bool)) (rate : Nat) (s : State) : State :=
  let s := (s.setFld Reg.FMT_WOB 0 22 rate).setBit Reg.FMT_GASTAT 16 true
  match (gaSymbols cells).bind gaDecode with
  | none =>
    let s := (s.setFld Reg.FMT_GASTAT 0 8 0).addSat Reg.FMT_GASTAT 8 8 1
    s.setFmt { s.fmt with pred := s.fmt.pred.map gaNext, cand := none }
  | some w =>
    let agrees := fun (o : Option Nat) => match o with
      | some p => gaPlace p == gaPlace w
      | none => false
    if agrees s.fmt.pred then gaAccept s w (s.fld Reg.FMT_GASTAT 0 8 + 1)
    else if agrees s.fmt.cand then
      let s := if s.fmt.pred.isSome then s.raise pgFMT 1 else s
      gaAccept s w 1
    else
      let s := (s.setFld Reg.FMT_GASTAT 0 8 0).setFld Reg.FMT_GASTAT 8 8 0
      s.setFmt { s.fmt with pred := s.fmt.pred.map gaNext, cand := some (gaNext w) }

/-- GA_WORD. -/
def execGaWord (cells : List (List Bool)) (rate : Nat) (s : State) : Host.Outcome State Fault Refusal :=
  done s (s.unlessFrozen pgFMT (gaWord cells rate))

/-- Loss of position: the 16th undecodable word in a row has ended (R182, R505). -/
def gaPositionLoss (s : State) : State :=
  if 16 ≤ s.fld Reg.FMT_GASTAT 8 8 then (dropGate s 2).raise pgACT 7 else s

/-- GA_POSITION_LOSS. -/
def execGaPositionLoss (s : State) : Host.Outcome State Fault Refusal := done s (gaPositionLoss s)

/-- WOBBLE_LOCK_LOSS (R505). -/
def execWobbleLockLoss (s : State) : Host.Outcome State Fault Refusal :=
  done s (s.unlessFrozen pgFMT (fun s => ((s.setBit Reg.FMT_GASTAT 16 false).raise pgFMT 2).err pgFMT 0x2502 0))

/-- FMT_DI_CTRL.GO (R505). -/
def diCaptureGo (m : Master) (v : Word) (s : State) : State :=
  if fieldOf v 0 1 = 0 then s
  else if s.bit Reg.FMT_DI_CTRL 0 ∨ s.reg Reg.FMT_DI_BASE = 0#32 then s.refuse pgFMT m
  else ((s.setBit Reg.FMT_DI_CTRL 0 true).setReg Reg.FMT_DI_STAT 0#32).setFmt
    { s.fmt with di := List.replicate 512 0, diMask := 0 }

/-- FMT_DI_CAPTURE. -/
def execFmtDiCapture (m : Master) (v : Word) (s : State) : Host.Outcome State Fault Refusal :=
  done s (regWrite s m Reg.FMT_DI_CTRL 4 v (diCaptureGo m v))

/-- All 512 bytes are held (R505); a disc information that passes R52 gives WENC the layers' brick counts (R119). -/
def diCaptureDone (s : State) : State :=
  if s.bit Reg.FMT_DI_CTRL 0 ∧ s.fmt.diMask = 2 ^ 512 - 1 then
    let ok := diCrcOk s.fmt.di
    let s := (s.setBit Reg.FMT_DI_CTRL 0 false).setFld Reg.FMT_DI_STAT 0 2 (1 + 2 * ok.toNat)
    let s := s.raise pgFMT 0
    if diOk s.fmt.di (fieldOf (s.reg Reg.FMT_GA_HI) 7 1) then
      s.setW { s.wenc with nbrick := (List.range 12).map (diNbrick s.fmt.di) }
    else s
  else s

/-- FMT_DI_CAPTURE_DONE. -/
def execFmtDiCaptureDone (s : State) : Host.Outcome State Fault Refusal := done s (s.unlessFrozen pgFMT diCaptureDone)

/-! ## Jump sequencer -/

/-- GO is refused (R174). -/
def goRefused (s : State) : Bool :=
  let ax := seqAxis s
  seqRuns s || seqCount s == 0 || !s.bit Reg.ACT_CFG ax || s.bit Reg.ACT_SAFE 8 ||
  (seqSweep s && ax == 1) || (!seqSweep s && ax == 1 && bridgeCtl s 0 != .leng) ||
  (s.bit Reg.ACT_JMP_CTRL 4 && !s.bit Reg.LENG_SHADOW 0)

/-- A sequence starts (R172, R173). -/
def seqGo (s : State) : State :=
  if goRefused s then s.err pgACT 0x0B05 0
  else
    let ax := seqAxis s
    let b := bridgeOut s ax
    let s := (s.setBit Reg.ACT_JMP_CTRL 0 true).setReg Reg.ACT_JMP_STAT 1#32
    let lo := s.sfld Reg.ACT_JMP_LIM 0 16
    let s := s.setSv { s.sv with base := b, ramp := lo * 512, returnDue := false, braking := false, lobe := 0, excur := 0, ctl := s.sv.ctl.set ax .seq }
    if seqSweep s then drive s 0 lo
    else drive s ax (b + seqSign s * (s.fld Reg.ACT_JMP_KICK 0 16 : Int))

/-- ABORT (R175); one in the cycle of capture has no effect. -/
def seqAbort (atCapture : Bool) (s : State) : State := if seqRuns s ∧ !atCapture then seqBreak s 7 else s

/-- A write of ACT_JMP_CTRL: the fields of a running sequence keep their values (R174), GO and ABORT act. -/
def jmpCtrlEffect (old v : Word) (atCapture : Bool) (s : State) : State :=
  if fieldOf old 0 1 = 1 then
    let s := s.setReg Reg.ACT_JMP_CTRL old
    let s := if fieldOf v 31 1 = 1 then seqAbort atCapture s else s
    if fieldOf v 0 1 = 1 then s.err pgACT 0x0B05 0 else s
  else if fieldOf v 0 1 = 1 then seqGo s else s

/-- A write of ACT_JMP_CTRL by a master. -/
def jmpCtrlWrite (m : Master) (v : Word) (atCapture : Bool) (s : State) : State :=
  regWrite s m Reg.ACT_JMP_CTRL 4 v (jmpCtrlEffect (s.reg Reg.ACT_JMP_CTRL) v atCapture)

/-- ACT_JMP_GO_JUMP. -/
def execActJmpGoJump (m : Master) (v : Word) (s : State) : Host.Outcome State Fault Refusal := done s (jmpCtrlWrite m v false s)

/-- ACT_JMP_GO_SWEEP. -/
def execActJmpGoSweep (m : Master) (v : Word) (s : State) : Host.Outcome State Fault Refusal := done s (jmpCtrlWrite m v false s)

/-- The 5 ms hold at LIM.LO ends (R173). -/
def sweepHoldEnd (s : State) : State := if seqRuns s ∧ seqSweep s ∧ seqState s = 1 then s.setSeq 2 else s

/-- ACT_SWEEP_HOLD_END. -/
def execActSweepHoldEnd (s : State) : Host.Outcome State Fault Refusal := done s (sweepHoldEnd s)

/-- The kick ends; the bridge coasts at B (R172). -/
def kickEnd (s : State) : State :=
  if seqRuns s ∧ !seqSweep s ∧ seqState s = 1 then drive (s.setSeq 2) (seqAxis s) s.sv.base else s

/-- ACT_KICK_END. -/
def execActKickEnd (s : State) : Host.Outcome State Fault Refusal := done s (kickEnd s)

/-- ACT_BRAKE_START: the samples up to the one that meets the brake condition (R172). -/
def execActBrakeStart (x : List ServoSample) (s : State) : Host.Outcome State Fault Refusal := done s (feed x s)

/-- The brake ends; the bridge carries B until capture (R172). -/
def brakeEnd (s : State) : State := if seqRuns s ∧ seqState s = 3 then drive s (seqAxis s) s.sv.base else s

/-- ACT_BRAKE_END. -/
def execActBrakeEnd (s : State) : Host.Outcome State Fault Refusal := done s (brakeEnd s)

/-- ACT_CAPTURE: the samples up to the one that meets the capture conditions (R172, R173). -/
def execActCapture (x : List ServoSample) (s : State) : Host.Outcome State Fault Refusal := done s (feed x s)

/-- A loaded disc becomes ready or not by its focus; a change of readiness is an event (R189, R358). -/
def setFocusLost (s : State) (v : Bool) : State :=
  if s.sv.focusLost = v then s
  else
    let s := s.setSv { s.sv with focusLost := v }
    if mounted s then asyncEvent s 4 0 else s

/-- The error has stayed in the settle window for SETTLE.TICKS ticks (R172); a focus sequence that ends so with no fault has
acquired focus (R176, R189). -/
def settleDone (s : State) : State :=
  if seqRuns s ∧ seqState s = 4 ∧ s.sv.returnDue = false ∧ s.fld Reg.ACT_SETTLE 0 12 ≤ s.sv.setRun then
    let s := if seqAxis s = 0 ∧ s.reg (Reg.ACT_BR_STAT 0) = 0#32 then setFocusLost s false else s
    (seqEnd s 5).raise pgACT 0
  else s

/-- ACT_SETTLE_DONE. -/
def execActSettleDone (s : State) : Host.Outcome State Fault Refusal := done s (settleDone s)

/-- The ramp reached LIM.HI: the bridge stays at LIM.LO under the sequencer (R173). -/
def sweepFail (s : State) : State :=
  if seqRuns s ∧ seqSweep s ∧ seqState s = 2 ∧ s.sfld Reg.ACT_JMP_LIM 16 16 * 512 ≤ s.sv.ramp then
    let s := drive (seqEnd s 6) 0 (s.sfld Reg.ACT_JMP_LIM 0 16)
    (s.raise pgACT 1).err pgACT 0x0B02 0
  else s

/-- ACT_SWEEP_FAIL. -/
def execActSweepFail (s : State) : Host.Outcome State Fault Refusal := done s (sweepFail s)

/-- ACT_JMP_TMO expires (R175). -/
def seqTimeout (s : State) : State := if seqRuns s then seqBreak (s.err pgACT 0x0B02 (seqAxis s)) 6 else s

/-- ACT_JMP_TIMEOUT. -/
def execActJmpTimeout (s : State) : Host.Outcome State Fault Refusal := done s (seqTimeout s)

/-- ACT_JMP_ABORT; `atCapture` says that the write comes in the cycle of capture. -/
def execActJmpAbort (m : Master) (v : Word) (atCapture : Bool) (s : State) : Host.Outcome State Fault Refusal :=
  done s (jmpCtrlWrite m v atCapture s)

/-! ## Monitors -/

/-- OFF_TRACK: abs(TE) has stood above OFFTH for OFFN ticks (R182). -/
def execOffTrack (s : State) : Host.Outcome State Fault Refusal :=
  done s (if s.bit Reg.ACT_MON_TRK 31 && decide (s.fld Reg.ACT_MON_TRK 16 8 ≤ s.sv.offRun) then s.raise pgACT 3 else s)

/-- SHOCK_DETECTED: the samples up to one of channel 30 above SHKTH, or SHKD_N low, which counts when WINH_SHKD.EN is 1
(R182). -/
def execShockDetected (digital : Bool) (x : List ServoSample) (s : State) : Host.Outcome State Fault Refusal :=
  let s' := feed x s
  done s (if digital && s'.bit Reg.ACT_MON_SHK 31 && s'.bit Reg.WINH_SHKD 0 then shockHits s' else s')

/-- SHOCK_END: 4,096 ticks have passed without a shock (R171, R182). -/
def execShockEnd (s : State) : Host.Outcome State Fault Refusal :=
  done s (match s.sv.shockTick with
    | some t => if t + 4096 ≤ s.ticks then s.setSv { s.sv with shockTick := none } else s
    | none => s)

/-- FOCUS_LOSS: SUM1 has stood below SUMLO for N ticks (R182). -/
def execFocusLoss (s : State) : Host.Outcome State Fault Refusal :=
  done s (if s.bit Reg.ACT_MON_FOC 31 && decide (s.fld Reg.ACT_MON_FOC 16 8 ≤ s.sv.lossRun) then enterSafe (s.raise pgACT 2) 5 else s)

/-! ## Safe state and bridges -/

/-- The servo leaves the safe state; the focus bridge goes back only with SUM1 above SUMLO (R185). -/
def exitSafe (s : State) : State :=
  let sum := decide ((s.fld Reg.ACT_MON_FOC 0 12 : Int) * 16 < tickVal s 1)
  let s := (s.setReg Reg.ACT_SAFE 0#32).setBit (Reg.STAT pgACT) 8 false
  let s := s.setSv { s.sv with ctl := [if sum then .leng else .hold, .leng, .leng, .leng] }
  stpSafeExit s

/-- A write of ACT_SAFE (R184, R185). -/
def safeEffect (v : Word) (s : State) : State :=
  let s := if fieldOf v 0 1 = 1 then enterSafe s 2 else s
  if fieldOf v 1 1 = 1 ∧ s.bit Reg.ACT_SAFE 8 then
    (if s.fld Reg.ACT_SAFE 16 6 = 0 then exitSafe s else s.err pgACT 0x0B01 0)
  else s

/-- ACT_SAFE_ENTER. -/
def execActSafeEnter (m : Master) (v : Word) (s : State) : Host.Outcome State Fault Refusal :=
  done s (regWrite s m Reg.ACT_SAFE 4 v (safeEffect v))

/-- ACT_SAFE_EXIT. -/
def execActSafeExit (m : Master) (v : Word) (s : State) : Host.Outcome State Fault Refusal :=
  done s (regWrite s m Reg.ACT_SAFE 4 v (safeEffect v))

/-- SAFE_OVERRUN_WINDOW_CLEAR (R183). -/
def execSafeOverrunWindowClear (s : State) : Host.Outcome State Fault Refusal := done s (causeCleared s 1)

/-- A bridge is switched off: over-current 1, over-temperature 2, open load 4 (R189). -/
def bridgeFault (b bits : Nat) (s : State) : State :=
  let s := s.setReg (Reg.ACT_BR_STAT b) (s.reg (Reg.ACT_BR_STAT b) ||| Word.ofNat (bits % 8))
  let s := if b = 0 then setFocusLost s true else s
  let s := drive ((s.raise pgACT 5).err pgACT 0x0B04 b) b 0
  enterSafe s 4

/-- BRIDGE_FAULT. -/
def execBridgeFault (b bits : Nat) (s : State) : Host.Outcome State Fault Refusal := done s (bridgeFault b bits s)

/-- ACT_BR_STAT written: once no bridge reports a fault, cause 4 holds no longer (R183). -/
def brStatEffect (s : State) : State :=
  if (List.range 4).all (fun b => s.reg (Reg.ACT_BR_STAT b) == 0#32) then causeCleared s 4 else s

/-- ACT_CFG written: a bridge enabled drives 0 A while CAL measures its offset (R300); clearing bit 0 frees a focus bridge
that a failed sweep left with the sequencer (R173). -/
def actCfgEffect (old : Word) (s : State) : State :=
  let rose := (List.range 4).filter (fun b => fieldOf old b 1 == 0 && s.bit Reg.ACT_CFG b)
  let s := s.setSv { s.sv with meas := s.sv.meas.filter (fun b => s.bit Reg.ACT_CFG b && !rose.contains b) ++ rose }
  let s := if fieldOf old 0 1 = 1 ∧ !s.bit Reg.ACT_CFG 0 ∧ bridgeCtl s 0 = .seq ∧ !seqRuns s then s.setCtl 0 .leng else s
  (List.range 4).foldl (fun s b => if bridgeCtl s b = .leng then drive s b (bridgeOut s b) else redrive s b) s

/-- ACT_BRIDGE_ENABLE. -/
def execActBridgeEnable (m : Master) (v : Word) (s : State) : Host.Outcome State Fault Refusal :=
  done s (regWrite s m Reg.ACT_CFG 4 v (actCfgEffect (s.reg Reg.ACT_CFG)))

end Sys2Proof.Machine
end

