-- ==== Sys2Proof/Machine/Lane.lean ====
section
/-! DEFINITION. A read lane's signal path (R57, R65 to R69, R78) and the servo hints its samples carry (R99, R100). -/
namespace Sys2Proof.Machine

/-! ## Hints (R99, R100) -/

/-- Hint code of a sample that the lane's delay line let go `age` ticks ago: the OR of the raw codes of SPREAD ticks on each
side of the tick in which it was taken, 2 + SPREAD ticks before (R99). -/
def hintOf (s : State) (l age : Nat) : Nat :=
  let sp := s.fld Reg.DET_HINT 0 2
  (((s.rd.hintRaw.getD l []).drop (2 + age)).take (2 * sp + 1)).foldl (· ||| ·) 0

/-- Weight of a hint code, 0 to 8 (R100). -/
def hintWeight (s : State) (c : Nat) : Nat :=
  if c < 8 then s.fld Reg.DET_HINTW0 (4 * c) 4 else s.fld Reg.DET_HINTW1 (4 * (c - 8)) 4

/-- A sample word (R78): an ERA sample has its value at 0. -/
def sampleWord (era flyw : Bool) (hint : Nat) (y : Int) : Nat :=
  (if era then 0x8000 else 0) + (if flyw then 0x4000 else 0) + hint % 16 * 1024 + (if era then 0 else bitsOf 10 y)

/-- Weight of a sample word in 1/64 (R100). -/
def wordWeight (s : State) (w : Nat) : Nat :=
  if w.testBit 15 then 0 else hintWeight s (w / 1024 % 16) * (if w.testBit 14 then s.fld Reg.DET_CFG 8 4 else 8)

/-- A nonzero HINT or FLYW (R86). -/
def sampleHinted (w : Nat) : Bool := w.testBit 14 || w / 1024 % 16 != 0

/-- Samples as a lane takes them in. -/
def takeIn (s : State) (l : Nat) (rx : List RawSample) : List LaneSample := rx.map (fun r => ⟨r.x, r.a, r.eps, hintOf s l r.age⟩)

/-! ## Loops (R57, R65, R66, R69) -/

/-- How a lane's loops run over some samples: AGC 0 held, 1 on the tone, 2 on decisions; timing 0 held, 1 at the acquisition
gains, 2 at the tracking gains; the taps adapt. -/
structure LoopMode where
  agc : Nat
  timing : Nat
  adapt : Bool

/-- A lane's loops: equaliser inputs in 2^-10 and decisions, newest first; gain in 2^-15; taps in 2^-31; sampling phase,
frequency; samples left at the acquisition gains; the frequency limit was reached; sum of output magnitudes; squared errors of
samples of weight 8 and their number. -/
structure Loop where
  xs : List Int
  dec : List Bool
  gain : Int
  taps : List Int
  phase : Nat
  freq : Int
  fast : Nat
  fsat : Bool
  mags : Nat
  err : Nat × Nat

/-- The loops as registers and lane hold them. -/
def loopOf (s : State) (l : Nat) : Loop :=
  let x := s.lane l
  { xs := x.xs, dec := x.dec, gain := s.fld (Reg.RFL_AGC_STAT l) 0 12 * 32768 + (x.gainFrac : Int),
    taps := (List.range 15).map (fun k => s.sfld (Reg.RFL_EQ_TAP l k) 0 16 * 2147483648 + (x.tapFrac.getD k 0 : Int)),
    phase := x.phase, freq := x.freq, fast := x.fast, fsat := false, mags := 0, err := (0, 0) }

/-- Target taps T0 to T3 (R65). -/
def targetTaps (s : State) (l : Nat) : List Int := (List.range 4).map (fun k => s.sfld (Reg.RFL_EQ_TGT l) (8 * k) 8)

/-- The ideal sample over the last four decisions, newest first (R65). -/
def idealSample (t : List Int) (dec : List Bool) : Int := ((t.zip dec).map (fun q => q.1 * symSign q.2)).sum

/-- Tap updates of a sample in 2^-31 (R65): tap 7 stays, taps 6 and 8 take the mean of their two. -/
def tapUpdate (mu : Nat) (e : Int) (xs : List Int) (taps : List Int) : List Int :=
  let u := fun k => e * xs.getD k 0 * 2 ^ (21 - mu)
  taps.zipIdx.map (fun q =>
    let d := if q.2 = 7 then 0 else if q.2 = 6 ∨ q.2 = 8 then (u 6 + u 8) / 2 else u q.2
    clampInt (-32768 * 2147483648) (32768 * 2147483648 - 1) (q.1 - d))

/-- One sample through the lane: AGC, equaliser, error, updates; the equaliser's output (R57, R65, R66, R69). -/
def loopStep (s : State) (l : Nat) (m : LoopMode) (r : LaneSample) (q : Loop) : Loop × Int :=
  let xs := ((r.x * (q.gain / 32768)) :: q.xs).take 15
  let dec := (r.a :: q.dec).take 4
  let y := clampInt (-512) 511 (stepOf 0 ((q.taps.zip xs).map (fun z => z.1 / 2147483648 * z.2)).sum 4194304)
  let d := idealSample (targetTaps s l) dec
  let e := y - d
  let tgt : Int := let v := s.fld (Reg.RFL_AGC l) 16 7; if v = 0 then 2 * (targetTaps s l).getD 1 0 else v
  let step : Int := if !s.bit (Reg.RFL_AGC l) 0 then 0
    else if m.agc = 1 then ((y.natAbs : Int) - tgt) * 2 ^ (15 - s.fld (Reg.RFL_AGC l) 4 4)
    else if m.agc = 2 then e * d * 2 ^ (15 - s.fld (Reg.RFL_AGC l) 8 4) else 0
  let acq := m.timing == 1 || q.fast != 0
  let kp := s.fld (Reg.RFL_TR_CTRL l) (if acq then 0 else 4) 4
  let ki := s.fld (Reg.RFL_TR_CTRL l) (if acq then 8 else 16) 5
  let fr := q.freq + r.eps * 156250 * 2 ^ (18 - ki)
  let lim : Int := 20000 * 262144
  let w := hintWeight s r.hint
  ({ xs := xs.take 14, dec := dec.take 3, gain := clampInt (512 * 32768) (2048 * 32768) (q.gain - step),
     taps := if m.adapt && r.hint == 0 then tapUpdate (s.fld (Reg.RFL_EQ_CTRL l) 8 5) e xs q.taps else q.taps,
     phase := if m.timing = 0 then q.phase else (((q.phase : Int) + r.eps * 2 ^ (10 - kp)) % 65536).toNat,
     freq := if m.timing = 0 then q.freq else clampInt (-lim) lim fr,
     fast := q.fast - 1, fsat := q.fsat || (m.timing != 0 && decide (lim ≤ (fr.natAbs : Int))), mags := q.mags + y.natAbs,
     err := if w = 8 then (q.err.1 + e.natAbs ^ 2, q.err.2 + 1) else q.err }, y)

/-- Samples in their order through the lane. -/
def runLoop (s : State) (l : Nat) (m : LoopMode) : List LaneSample → Loop → Loop × List Int
  | [], q => (q, [])
  | r :: t, q =>
    let a := loopStep s l m r q
    let b := runLoop s l m t a.1
    (b.1, a.2 :: b.2)

/-- Registers and lane take the loops' state; at its limit the frequency sets FSAT (R69, R83). -/
def putLoop (s : State) (l : Nat) (q : Loop) : State :=
  let s := s.setFld (Reg.RFL_AGC_STAT l) 0 12 (q.gain / 32768).toNat
  let s := (List.range 15).foldl (fun s k => s.setFld (Reg.RFL_EQ_TAP l k) 0 16 (bitsOf 16 (q.taps.getD k 0 / 2147483648))) s
  let s := s.setFld (Reg.RFL_TR_STAT l) 0 16 (bitsOf 16 (q.freq / 262144))
  let s := s.setFld (Reg.RFL_TR_STAT l) 16 6 (q.phase / 1024 % 64)
  let s := s.setLane l { s.lane l with
    xs := q.xs, dec := q.dec, gainFrac := (q.gain % 32768).toNat, tapFrac := q.taps.map (fun t => (t % 2147483648).toNat),
    phase := q.phase, freq := q.freq, fast := q.fast }
  if q.fsat then ((s.setBit (Reg.RFL_TR_STAT l) 24 true).raise (pgRFL l) 5).err (pgRFL l) 0x0005 l else s

/-! ## Zero-phase start (R67) -/

/-- A quarter wave in 2^-15, 512 steps to the cycle. -/
def quarterWave : List Nat := [0, 402, 804, 1206, 1608, 2009, 2411, 2811, 3212, 3612, 4011, 4410, 4808, 5205, 5602, 5998, 6393,
  6787, 7180, 7571, 7962, 8351, 8740, 9127, 9512, 9896, 10279, 10660, 11039, 11417, 11793, 12167, 12540] ++
  [12910, 13279, 13646, 14010, 14373, 14733, 15091, 15447, 15800, 16151, 16500, 16846, 17190, 17531, 17869, 18205, 18538,
  18868, 19195, 19520, 19841, 20160, 20475, 20788, 21097, 21403, 21706, 22006, 22302, 22595, 22884, 23170, 23453] ++
  [23732, 24008, 24279, 24548, 24812, 25073, 25330, 25583, 25833, 26078, 26320, 26557, 26791, 27020, 27246, 27467, 27684,
  27897, 28106, 28311, 28511, 28707, 28899, 29086, 29269, 29448, 29622, 29792, 29957, 30118, 30274, 30425, 30572] ++
  [30715, 30853, 30986, 31114, 31238, 31357, 31471, 31581, 31686, 31786, 31881, 31972, 32058, 32138, 32214, 32286, 32352,
  32413, 32470, 32522, 32568, 32610, 32647, 32679, 32706, 32729, 32746, 32758, 32766, 32768]

/-- Sine of k of 512 steps. -/
def tabSin (k : Nat) : Int :=
  let r := k % 512
  let q := fun i => (quarterWave.getD i 0 : Int)
  if r ≤ 128 then q r else if r ≤ 256 then q (256 - r) else if r ≤ 384 then -q (r - 256) else -q (512 - r)

/-- The tone's phase over 64 samples, in 1/64 of a sample period: the one of 512 that correlates best with one cycle in 8
bits (R67). -/
def tonePhase (ys : List Int) : Nat :=
  let c := (ys.zipIdx.map (fun q => q.1 * tabSin (64 * q.2 + 128))).sum
  let t := (ys.zipIdx.map (fun q => q.1 * tabSin (64 * q.2))).sum
  ((List.range 512).foldl (fun (b : Int × Nat) p =>
    let v := c * tabSin (p + 128) + t * tabSin p
    if b.1 < v then (v, p) else b) (c * tabSin 128, 0)).2

end Sys2Proof.Machine
end

