-- ==== Sys2Proof/Machine/Read.lean ====
section
/-! DEFINITION. The meanings of the read lanes' and the deskew block's commands (R57 to R80). -/
namespace Sys2Proof.Machine

/-- The lane is present on this part (R2). -/
def lanePresent (s : State) (l : Nat) : Bool := decide (l < if s.variant = .ln7720 then 2 else 4)

/-! ## Sync search -/

/-- Channel bits of a lane's samples from the second on: a bit is 1 where the decision changes. -/
def rxBits (b : List LaneSample) : List Bool := (b.zip (b.drop 1)).map (fun q => q.1.a != q.2.a)

/-- Bit errors between two bit strings of the length of the first. -/
def bitDistance (a b : List Bool) : Nat := ((a.zip b).filter (fun q => q.1 != q.2)).length + (a.length - b.length)

/-- Bit distance of a sync field without its X bit: the lesser of the two forms (R70). -/
def syncDistance (first : Bool) (w : List Bool) : Nat :=
  min (bitDistance (syncField first false) w) (bitDistance (syncField first true) w)

/-- A candidate is better: smaller distance, then nearer the prediction, then earlier (R70). -/
def betterSync (a b : Int × Nat) : Bool :=
  decide (a.2 < b.2) || (a.2 == b.2 && (decide (a.1.natAbs < b.1.natAbs) || (a.1.natAbs == b.1.natAbs && decide (a.1 < b.1))))

/-- The best of the candidates within `th` errors. -/
def bestSync (th : Nat) (c : List (Int × Nat)) : Option (Int × Nat) :=
  (c.filter (fun q => decide (q.2 ≤ th))).foldl (fun b q => match b with
    | none => some q
    | some p => if betterSync q p then some q else some p) none

/-- The accepted offset and distance of a sync within ±w bits, at most `th` errors; `rx` begins w bits before the
prediction (R70). -/
def syncSearch (first : Bool) (w th : Nat) (rx : List Bool) : Option (Int × Nat) :=
  bestSync th ((List.range (2 * w + 1)).map (fun (j : Nat) => ((j : Int) - (w : Int), syncDistance first ((rx.drop j).take 32))))

/-- The preamble end, twice (R67). -/
def markerBits : List Bool := bitsBE 32 0x49249249 ++ bitsBE 32 0x49249249

/-- Offset at which the preamble end lies within ±32 bits of bit 2,240 with at most MARKD errors, the best where several
match; `rx` begins at bit 2,208 (R67). -/
def markerSearch (s : State) (l : Nat) (rx : List Bool) : Option Int :=
  (bestSync (s.fld (Reg.RFL_SYNC_CTRL l) 12 4)
    ((List.range 65).map (fun (j : Nat) => ((j : Int) - 32, bitDistance markerBits ((rx.drop j).take 64))))).map (·.1)

/-- The bits of a lane's window that begins w bits before the predicted sync. -/
def laneWindow (x : Lane) (w : Nat) : List Bool := (rxBits x.buf).drop (39 - w)

/-! ## Link zone -/

/-- The OSR a lane takes for a channel rate in 100 kb/s (R62, R63). -/
def chooseOsr (s : State) (l rate : Nat) : Nat :=
  let fixed := s.fld (Reg.RFL_MODE l) 8 4
  let cur := s.fld (Reg.RFL_RATE l) 16 4
  if fixed ≠ 0 then fixed
  else if cur ≠ 0 ∧ 4000 ≤ cur * rate ∧ cur * rate ≤ 15500 then cur
  else ((List.range 9).find? (fun o => decide (1 ≤ o) && decide (4200 ≤ o * rate))).getD 8

/-- The words of samples the lane took in, their values given. -/
def laneWords (era flyw : Bool) (b : List LaneSample) (ys : List Int) : List Nat :=
  (b.zip ys).map (fun q => sampleWord era flyw q.1.hint q.2)

/-- Steps 2 to 6 of an acquisition over the samples of link-zone bits 320 on (R67): AGC on the tone for 256 bits, the phase
from 64, 512 bits at the acquisition gains, the rest up to the preamble's end at the tracking gains. -/
def runPreamble (l n : Nat) (b : List LaneSample) (s : State) : State :=
  let q := { loopOf s l with xs := [], dec := [], freq := 0, fast := 0 }
  let a := runLoop s l ⟨1, 0, false⟩ (b.take 256) q
  let z := runLoop s l ⟨0, 0, false⟩ ((b.drop 256).take 64) a.1
  let c := runLoop s l ⟨0, 1, false⟩ ((b.drop 320).take 512) { z.1 with phase := tonePhase z.2 % 64 * 1024 }
  let d := runLoop s l ⟨0, 2, false⟩ ((b.drop 832).take (n - 832)) c.1
  let s := putLoop s l d.1
  let s := s.setFld (Reg.RFL_AGC_STAT l) 16 8 (min 255 (a.1.mags / 256))
  let w := laneWords false false (b.take n) (a.2 ++ z.2 ++ c.2 ++ d.2)
  s.setLane l { s.lane l with last8 := w.drop (w.length - 8) }

/-- Acquisition begins and runs to the preamble's end (R67): rate, loops, counters, the search for the marker. -/
def beginAcq (l g rate : Nat) (rx : List RawSample) (s : State) : State :=
  let st := lstate s l
  let x := s.lane l
  let s := s.setBit Reg.SYS_CLK (4 + l) true
  let s := s.setReg (Reg.RFL_RATE l) (Word.ofNat (rate % 65536 + chooseOsr s l rate * 65536))
  let s := s.setReg (Reg.RFL_TR_STAT l) (putField (putField (s.reg (Reg.RFL_TR_STAT l)) 0 16 0) 24 1 0)
  let s := s.setReg (Reg.RFL_POS l) (Word.ofNat (g % 128 * 65536))
  let s := s.setFld (Reg.RFL_SYNC_STAT l) 0 2 0
  let b := takeIn s l rx
  let m := markerSearch s l ((rxBits b).drop 1887)
  let n := (1984 + m.getD 0).toNat
  let s := s.setLane l { x.idle with
    group := g % 128, expect := (0, 0), marker := m.isSome, buf := b.drop (n - 40), pay := x.pay, outRun := if st = 5 then x.outRun else 0 }
  runPreamble l n b (s.setLstate l 2)

/-- A group whose reading a lane broke off begins anew: what is not GOOD is open again (R64). -/
def readAgain (s : State) (g : Nat) : State :=
  s.setRd { s.rd with groups := s.rd.groups.map (fun r =>
    if r.again && r.psa / 8 % 128 == g then
      { r with again := false, strips := r.strips.map (fun t => if t.ended.isSome then t
          else { t with fins := t.fins.map (fun f => if f = some .good then f else none) }) }
    else r) }

/-- A lane reaches link-zone bit 0 of group g (R57, R63, R67, R75, R104, R121, R297); one that is OFF, as the last gasp leaves
it, does not acquire (R277). -/
def linkZone (l g rate : Nat) (rx : List RawSample) (s : State) : State :=
  let x := s.lane l
  let s := s.setLane l { x with pga := s.fld (Reg.RFL_AFE l) 0 6, hpf := s.fld (Reg.RFL_AFE l) 8 2, sparePick := none, stopped := false }
  let s := readAgain (s.setRd { s.rd with plan := nextPlan s }) (g % 128)
  let s := match x.sparePick with
    | some k => if subRole s l k = 0 then swapInto s l (s.fld (Reg.RFL_SUB_STAT l k) 4 3) else s
    | none => s
  let md := laneMode s l
  if md = 0 ∨ lstate s l = 6 ∨ lgRuns s ∨ (lstate s l = 0 ∧ (runningArm s).isNone ∧ md ≠ 3) then s
  else if md = 3 then s.setLane l { (s.lane l).idle with group := g % 128, pay := x.pay }
  else beginAcq l g rate rx s

/-- LINK_ZONE_REACHED (R67). -/
def execLinkZoneReached (l g rate : Nat) (rx : List RawSample) (s : State) : Host.Outcome State Fault Refusal :=
  done s (if lanePresent s l then s.unlessFrozen (pgRFL l) (linkZone l g rate rx) else s)

/-! ## Frames -/

/-- The frame after (position, frame) of a group (R70). -/
def nextFrame (p : Nat × Nat) : Nat × Nat := if p.2 < 39 then (p.1, p.2 + 1) else (p.1 + 1, 0)

/-- Another lane in service locked in the present group (R80): it had its lock at the moment this lane goes out; one that
has gone out or stopped since it locked does not count (DESIGN CHOICE, log 111). -/
def otherLocked (s : State) (l : Nat) : Bool :=
  (List.range 4).any (fun k => k != l && laneActive s k && (s.lane k).locked)

/-- The lane is out of lock for the rest of the group (R73, R80). -/
def goOut (s : State) (l : Nat) : State :=
  let s := (s.setLstate l 5).raise (pgRFL l) 2
  let run := if otherLocked s l then (s.lane l).outRun + 1 else 0
  let s := runDueSwap (s.setLane l { s.lane l with outRun := run, locked := false }) l
  if 8 ≤ run then laneFault s l else s

/-- The lane enters re-acquisition: four searches, 512 bits at the acquisition gains (R68, R72). -/
def goReacq (s : State) (l : Nat) : State :=
  let s := ((s.setLstate l 4).raise (pgRFL l) 1).addSat (Reg.RFL_SYNC_CNT l) 8 8 1
  s.setLane l { s.lane l with reacqLeft := 4, marker := false, fast := 512 }

/-- A sync is accepted: miss run 0, tracking and its gains (R70 to R72); a lane reset after FAULT returns to service with a
clean acquisition (R80), and a first acquisition starts a statistics run (R293). -/
def acceptSync (s : State) (l : Nat) (o : Int) (d : Nat) : State :=
  let was := lstate s l
  let x := s.lane l
  let clean := was == 2 && x.marker && x.expect == (0, 0)
  let s := s.setReg (Reg.RFL_SYNC_STAT l) (Word.ofNat (bitsOf 7 o * 16 + d % 32 * 4096))
  let s := (s.setLane l { x with locked := true, marker := false, fast := 0, faultCleared := x.faultCleared && !clean }).setLstate l 3
  let s := if x.faultCleared && clean then laneActUpdate s else s
  let s := if x.firstAcq then (s.setLane l { s.lane l with firstAcq := false }).setBit Reg.CAL_RUN l true else s
  if was = 2 ∨ was = 4 then runDueSwap s l else s

/-- DSK notes the skew of a lane at S0 of sector 0 (R77, R84). -/
def noteSkew (s : State) (l skew : Nat) : State :=
  let a := Reg.DSK_LANE_SKEW l
  let s := (s.setFld a 0 11 (min skew 2047)).setFld a 16 11 (max (s.fld a 16 11) (min skew 2047))
  if s.fld Reg.DSK_CFG 16 11 < skew then (s.raise pgDSK 0).err pgDSK 0x0102 l else s

/-- What recovery holds of a lane before it has decoded anything. -/
def freshSoft : LaneSoft :=
  { spiral := 0, used := false, kind := none, dec := List.replicate 40 [], pol := List.replicate 40 false, sym := [], prior := [],
    coded := [], due := false, hard := [], ident := none, rounds := 0, fin := false, known := none }

/-- DSK stores a new sector position in a free slot (R79); samples of an earlier read of it give way. -/
def ringStore (s : State) (g pos : Nat) : State :=
  if s.rd.ringSeen = some (g, pos) then s
  else
    let s := s.setRd { s.rd with ringSeen := some (g, pos), ring := s.rd.ring.filter (fun r => !(r.group == g && r.pos == pos)) }
    let n := s.fld Reg.DSK_RING_SLOTS 0 4
    if n = 0 then s
    else match (List.range n).find? (fun k => !s.rd.ring.any (fun r => r.slot == k)) with
      | some k => readCounts (s.setRd { s.rd with
          ring := s.rd.ring ++ [⟨k, g, pos, [], (List.range 4).map (fun l => { freshSoft with spiral := laneSpiral s l }), false⟩] })
      | none => (s.raise pgDSK 2).err pgDSK 0x0103 0

/-- Address of the stored samples of a frame: 1,488 words each, by lane and frame (R79). -/
def ringFrameAddr (s : State) (slot l f : Nat) : Nat :=
  (s.reg Reg.DSK_RING_BASE).toNat + slot * 0x80000 + (l * 40 + f) * 2976

/-- Writes sample words of a frame into its ring slot from word `from_` on. -/
def ringWrite (s : State) (l g pos f from_ : Nat) (w : List Nat) : State :=
  match s.rd.ring.find? (fun r => r.group == g && r.pos == pos && !r.released) with
  | some r => if w.isEmpty then s else memWrite s .cdma (ringFrameAddr s r.slot l f + 2 * from_) (w.flatMap (bytesLE 2))
  | none => s

/-- The ring takes a frame's words, from 8 before its predicted sync to 8 after its payload's predicted end: the last of them
come with the next frame (R79). -/
def ringFrame (s : State) (l g pos f : Nat) (full : List Nat) : State :=
  let s := match (s.lane l).prev with
    | some (pg, pp, pf, o) => ringWrite s l pg pp pf (1480 + o).toNat ((full.drop 8).take (8 - o).toNat)
    | none => s
  ringWrite s l g pos f 0 (full.take 1488)

/-- A frame has passed the lane: its samples run through the loops, go to DSK and into the ring; the counter goes on (R65 to
R71, R76 to R79). -/
def passFrame (s : State) (l g pos f : Nat) (acc : Bool) (o : Int) (d : Nat) (flyw era : Bool) : State :=
  let x := s.lane l
  let st := lstate s l
  let n := (1472 + o).toNat
  let b := (x.buf.drop 40).take n
  let ad := s.bit (Reg.RFL_EQ_CTRL l) 0 && !s.bit (Reg.RFL_EQ_CTRL l) 16 && st == 3 && !flyw && !era
  let live := st == 2 || st == 3 || st == 4
  let r := runLoop s l (if live then ⟨2, 2, ad⟩ else ⟨0, 0, false⟩) b (loopOf s l)
  let s := putLoop s l r.1
  let s := if st = 3 ∧ !flyw ∧ !era then s.setRd { s.rd with rfq := (s.rd.rfq.1 + r.1.err.1, s.rd.rfq.2 + r.1.err.2) } else s
  let full := List.replicate (8 - x.last8.length) 0x8000 ++ x.last8 ++ laneWords era flyw b r.2
  let s := ringFrame s l g pos f full
  let dec := ((x.buf.drop 32).take 1488).map (·.a)
  let y := s.lane l
  let frames := (if f = 0 then [] else y.frames) ++ [⟨f, acc, o, d, flyw, era, dec⟩]
  let at0 := (40 + o).toNat
  let pay : PayFrame := ⟨g, pos, f, (full.drop at0).take 1440, (dec.drop at0).take 1440, dec.getD (at0 - 1) false⟩
  let s := s.setLane l { y with
    frames := frames, buf := y.buf.drop n, last8 := full.drop (full.length - 8), prev := some (g, pos, f, o),
    expect := nextFrame x.expect, pay := if laneActive s l then y.pay ++ [pay] else y.pay }
  s.setRd { s.rd with ring := s.rd.ring.map (fun r =>
    if r.group = g ∧ r.pos = pos then { r with frames := r.frames.filter (fun q => q.1 != l) ++ [(l, frames)] } else r) }

/-- A sync is missed: the flywheel, and re-acquisition at the third in a row (R71, R72). -/
def missSync (s : State) (l : Nat) : State :=
  let n := s.fld (Reg.RFL_SYNC_STAT l) 0 2 + 1
  let s := (s.setFld (Reg.RFL_SYNC_STAT l) 0 2 (min n 3)).addSat (Reg.RFL_SYNC_CNT l) 0 8 1
  if 3 ≤ n then goReacq s l else s

/-- One predicted sync of a lane and its frame (R68 to R73). -/
def syncStep (l : Nat) (s : State) : State :=
  let x := s.lane l
  let st := lstate s l
  let p := x.expect
  let found := fun (s : State) (q : Int × Nat) => passFrame (acceptSync s l q.1 q.2) l x.group p.1 p.2 true q.1 q.2 false false
  let lost := fun (s : State) (flyw era : Bool) => passFrame s l x.group p.1 p.2 false 0 0 flyw era
  if st = 4 then
    match syncSearch (p.2 == 0) 16 (s.fld (Reg.RFL_SYNC_CTRL l) 4 3) (laneWindow x 16) with
    | some q => found s q
    | none =>
      let s := lost (s.setLane l { x with reacqLeft := x.reacqLeft - 1 }) false true
      if x.reacqLeft ≤ 1 then goOut s l else s
  else if st = 5 then lost s false true
  else
    match syncSearch (p.2 == 0) 4 (s.fld (Reg.RFL_SYNC_CTRL l) 0 3) (laneWindow x 4) with
    | some q => found s q
    | none => missSync (lost s true false) l

/-- The last frame of the group has passed: the lane waits for the next link zone. -/
def groupPassed (s : State) (l : Nat) : State :=
  if 128 ≤ (s.lane l).expect.1 ∧ (lstate s l = 2 ∨ lstate s l = 3 ∨ lstate s l = 4) then s.setLstate l 1 else s

/-- A predicted sync of a lane that acquires, tracks or has lost track; during acquisition only once the preamble end has been
found (R67). -/
def trackedFrame (l skew : Nat) (s : State) : State :=
  let x := s.lane l
  let st := lstate s l
  if x.expect.1 < 128 ∧ ((st = 2 ∧ (x.marker ∨ x.expect ≠ (0, 0))) ∨ st = 3 ∨ st = 4 ∨ st = 5) then
    let s := s.setReg (Reg.RFL_POS l) (Word.ofNat (x.expect.2 + x.expect.1 * 256 + x.group * 65536))
    let s := if x.expect.2 = 0 then ringStore s x.group x.expect.1 else s
    let s := syncStep l s
    let s := if x.expect = (0, 0) ∧ lstate s l = 3 then noteSkew s l skew else s
    groupPassed s l
  else s

/-- A frame of an XTALK lane: rate, phase and numbering of its reference lane, no search, no flag; erased while the reference
is off or out of lock (R75). -/
def crosstalkFrame (l : Nat) (s : State) : State :=
  let k := laneRef s l
  let pos := s.reg (Reg.RFL_POS k)
  let tr := s.fld (Reg.RFL_TR_STAT k) 0 22
  let s := (s.setReg (Reg.RFL_POS l) pos).setReg (Reg.RFL_RATE l) (s.reg (Reg.RFL_RATE k))
  let st := lstate s k
  let s := passFrame s l (fieldOf pos 16 7) (fieldOf pos 8 7) (fieldOf pos 0 6) false 0 0 false (st == 0 || st == 5 || st == 6)
  s.setFld (Reg.RFL_TR_STAT l) 0 22 tr

/-- A frame's samples have come in. -/
def frameSync (l : Nat) (rx : List RawSample) (skew : Nat) (s : State) : State :=
  let s := s.setLane l { s.lane l with buf := (s.lane l).buf ++ takeIn s l rx }
  if lstate s l = 6 then s
  else if laneMode s l = 3 then crosstalkFrame l s
  else trackedFrame l skew s

/-- FRAME_SYNC (R70); `rx` brings the samples up to 40 bits after the predicted end of the frame. -/
def execFrameSync (l : Nat) (rx : List RawSample) (skew : Nat) (s : State) : Host.Outcome State Fault Refusal :=
  done s (if lanePresent s l then s.unlessFrozen (pgRFL l) (frameSync l rx skew) else s)

/-- No preamble end within its window: S0 is searched at ±36 bits (R68). -/
def markerExpiry (l : Nat) (rx : List RawSample) (skew : Nat) (s : State) : State :=
  let x := s.lane l
  if lstate s l = 2 ∧ !x.marker ∧ x.expect = (0, 0) then
    let x := { x with buf := x.buf ++ takeIn s l rx }
    let s := (((s.setLane l x).raise (pgRFL l) 0).err (pgRFL l) 0x0003 l)
    let s := ringStore s x.group 0
    match syncSearch true 36 (s.fld (Reg.RFL_SYNC_CTRL l) 4 3) (laneWindow x 36) with
    | some q => noteSkew (passFrame (acceptSync s l q.1 q.2) l x.group 0 0 true q.1 q.2 false false) l skew
    | none => goReacq (passFrame s l x.group 0 0 false 0 0 false true) l
  else s

/-- ACQ_MARKER_WINDOW_EXPIRY (R68); `rx` brings the samples up to 40 bits after frame 0. -/
def execAcqMarkerWindowExpiry (l : Nat) (rx : List RawSample) (skew : Nat) (s : State) : Host.Outcome State Fault Refusal :=
  done s (if lanePresent s l then s.unlessFrozen (pgRFL l) (markerExpiry l rx skew) else s)

/-- The channel rate leaves the range a lane works in, 0.38 to 1.60 GS/s at its OSR: it stops and waits for the next link
zone; the rest of the group goes out erased and the group is read again (R64). -/
def rateOut (l rate : Nat) (s : State) : State :=
  let st := lstate s l
  let x := s.lane l
  let f := s.fld (Reg.RFL_RATE l) 16 4 * rate
  if (st = 2 ∨ st = 3 ∨ st = 4 ∨ st = 5) ∧ x.expect.1 < 128 ∧ (f < 3800 ∨ 16000 < f) then
    let s := s.setFld (Reg.RFL_RATE l) 0 16 rate
    let s := ((s.raise (pgRFL l) 4).err (pgRFL l) 0x0004 l).setLane l { x.idle with pay := x.pay, stopped := true }
    let s := s.setRd { s.rd with groups := s.rd.groups.map (fun g => if g.psa / 8 % 128 = x.group then { g with again := true } else g) }
    s.setLstate l 1
  else s

/-- LANE_RATE_OUT_OF_RANGE (R64). -/
def execLaneRateOutOfRange (l rate : Nat) (s : State) : Host.Outcome State Fault Refusal :=
  done s (if lanePresent s l then s.unlessFrozen (pgRFL l) (rateOut l rate) else s)

/-! ## Converters -/

/-- The rotation period expires; during acquisition and re-acquisition the swap waits (R58, R59). -/
def spareSwap (l : Nat) (ofs gain skew : Int) (s : State) : State :=
  if !s.bit (Reg.RFL_ADC_CTRL l) 0 then s
  else if lstate s l = 2 ∨ lstate s l = 4 then s.setLane l { s.lane l with swapDue := some (ofs, gain, skew) }
  else rotateSpare s l (ofs, gain, skew)

/-- ADC_SPARE_SWAP (R58). -/
def execAdcSpareSwap (l : Nat) (ofs gain skew : Int) (s : State) : Host.Outcome State Fault Refusal :=
  done s (if lanePresent s l then s.unlessFrozen (pgRFL l) (spareSwap l ofs gain skew) else s)

/-! ## Tiles (R76 to R79, R86, R87) -/

/-- The sample words of a tile that DSK holds of a lane, none where the lane has not delivered one; one that is not in
service, or that stopped within the group, sends erased samples (R64, R76, R80). -/
def laneTile (s : State) (l g pos tile : Nat) : List (Option Nat) :=
  let x := s.lane l
  if !laneActive s l then List.replicate 256 (some 0x8000)
  else
    let at0 := 256 * tile
    let part := fun (f : Nat) => match x.pay.find? (fun p => p.group == g && p.pos == pos && p.frame == f) with
      | some p => (List.range 1440).map (fun i => some (p.words.getD i 0x8000))
      | none => List.replicate 1440 (if x.stopped then some 0x8000 else none)
    ((part (at0 / 1440) ++ part (at0 / 1440 + 1)).drop (at0 % 1440)).take 256

/-- The tile is the next one DSK releases: each once and in order (R76, R77). -/
def tileNext (s : State) (g pos tile : Nat) : Bool := match s.rd.tiles with
  | some (g', p', t') => if g' = g ∧ p' = pos ∧ t' < 225 then t' == tile else tile == 0
  | none => tile == 0

/-- Each sector of a position that this pass decodes and that is not final becomes final with the cause CUT (R87, R136). -/
def cutPosition (s : State) (w : WorkSlot) : State :=
  (w.lanes.filter (fun x => !x.fin)).foldl (fun s x => match x.kind, spiralNo x.spiral with
    | some .fg, some q =>
      let gi := sectorAt q w.pos
      setFinal s (w.psa / 8 * 8 + gi.1) gi.2 .cut
    | some .draw, some q =>
      let gi := sectorAt q w.pos
      drawGrade s (w.psa / 8 * 8 + gi.1) gi.2 false false 0 0
    | _, _ => s) s

/-- Codewords of a position that DET gives up leave the decoder. -/
def dropCodewords (s : State) (psa pos : Nat) : State :=
  let gone := fun (c : Codeword) => c.kind != .recovery && c.psa / 8 == psa / 8 && c.pos == pos
  let cores := (s.rd.cws.filter gone).filterMap (·.core)
  cores.foldl coreIdle (s.setRd { s.rd with cws := s.rd.cws.filter (fun c => !gone c) })

/-- Header and user field of a sector of an armed group that is GOOD (R89, R106). -/
def knownSector (s : State) (psa q pos : Nat) : Option (List Nat × List Nat) :=
  let gi := sectorAt q pos
  let p := psa / 8 * 8 + gi.1
  match groupRead s p with
  | some g => (g.headers.find? (fun h => h.1 == gi.1 && h.2.1 == gi.2)).map (fun h => (h.2.2, s.bytes (stripSlotAddr s g p gi.2) 4096))
  | none => none

/-- For whom a lane's sector at a position is decoded: DRAW where the lane verifies a written group, a read group that still
needs it, nobody else; an XTALK lane serves its neighbours only (R105, R112, R136). -/
def softKind (s : State) (psa pos l : Nat) : Option CwKind :=
  match spiralNo (laneSpiral s l) with
  | none => none
  | some q =>
    let gi := sectorAt q pos
    let p := psa / 8 * 8 + gi.1
    if !(lanePlan s l).decode || !laneActive s l || laneMode s l == 3 then none
    else if laneMode s l == 2 && (writtenAt s p gi.2).isSome then some .draw
    else match stripRead s p with
      | some t => if t.fins.getD gi.2 none != some .good && t.ended.isNone then some .fg else none
      | none => none

/-- What DET holds of a lane when its position takes a slot. -/
def startSoft (s : State) (psa pos l : Nat) : LaneSoft :=
  let q := laneSpiral s l
  { freshSoft with spiral := q, used := (lanePlan s l).used && laneActive s l, kind := softKind s psa pos l,
                   known := (spiralNo q).bind (fun q => knownSector s psa q pos) }

/-- A sector is read anew: the LLRs of its last read join those of the reads before (R105, R108). -/
def joinReads (s : State) (psa pos : Nat) (x : LaneSoft) : State :=
  match x.kind, spiralNo x.spiral with
  | some .fg, some q =>
    let gi := sectorAt q pos
    mapGroup s psa (fun g => match g.cur.find? (fun c => c.1 == gi.1 && c.2.1 == gi.2) with
      | none => g
      | some c =>
        let old := (g.saved.find? (fun o => o.1 == gi.1 && o.2.1 == gi.2)).map (·.2.2)
        let rest := fun (l : List (Nat × Nat × List Int)) => l.filter (fun o => !(o.1 == gi.1 && o.2.1 == gi.2))
        { g with cur := rest g.cur, saved := rest g.saved ++ [(gi.1, gi.2, match old with
            | some o => addLlrs o c.2.2
            | none => c.2.2)] })
  | _, _ => s

/-- A working slot for a position whose first tile is released: a free one, or the oldest position's, which is cut (R87). -/
def takeWorkSlot (s : State) (psa pos : Nat) : State :=
  if s.rd.work.any (fun w => w.psa / 8 == psa / 8 && w.pos == pos) then s
  else
    let lanes := (List.range 4).map (startSoft s psa pos)
    let s := lanes.foldl (fun s x => joinReads s psa pos x) s
    let fresh := fun (k : Nat) => (⟨k, psa / 8 * 8, pos, 0, [0, 0, 0, 0], [0, 0, 0, 0], lanes⟩ : WorkSlot)
    match (List.range (s.fld Reg.DET_WS_SLOTS 0 3)).find? (fun k => !s.rd.work.any (fun w => w.slot == k)) with
    | some k => readCounts (s.setRd { s.rd with work := s.rd.work ++ [fresh k] })
    | none => match s.rd.work with
      | [] => s
      | o :: _ =>
        let s := dropCodewords (cutPosition s o) o.psa o.pos
        let s := ((s.addSat Reg.DET_CNT 0 8 1).raise pgDET 0).err pgDET 0x0202 0
        let s := dropWork s (fun w => w.slot == o.slot)
        releaseSlotsDone (s.setRd { s.rd with work := s.rd.work ++ [fresh o.slot] })

/-- The tentative decisions and polarities of the frames a tile touches (R88). -/
def tileDecisions (s : State) (g pos tile l : Nat) (x : LaneSoft) : LaneSoft :=
  [256 * tile / 1440, (256 * tile + 255) / 1440].foldl (fun x f =>
    match (s.lane l).pay.find? (fun p => p.group == g && p.pos == pos && p.frame == f) with
    | some p => { x with dec := x.dec.set f p.dec, pol := x.pol.set f p.pol }
    | none => x) x

/-- DET stores a tile in its position's working slot (R86, R87). -/
def storeTile (s : State) (psa pos tile : Nat) (ws : List (List Nat)) : State :=
  if s.fld Reg.DET_WS_SLOTS 0 3 = 0 ∨ s.frozen pgDET then s
  else
    let s := if tile = 0 then takeWorkSlot s psa pos else s
    match s.rd.work.find? (fun w => w.psa / 8 == psa / 8 && w.pos == pos) with
    | none => s
    | some w =>
      let base := (s.reg Reg.DET_WS_BASE).toNat + w.slot * 0x80000
      let zero := ws.map (fun l => (l.filter (fun v => wordWeight s v == 0)).length)
      let hint := ws.map (fun l => (l.filter sampleHinted).length)
      let lanes := w.lanes.zipIdx.map (fun q => tileDecisions s (psa / 8 % 128) pos tile q.2 q.1)
      let s := memWrite s .cdma (base + 2048 * tile) (ws.flatMap (fun l => l.flatMap (bytesLE 2)))
      let s := memWrite s .cdma (base + 460800 + 16 * tile) ((zero.zip hint).flatMap (fun q => bytesLE 4 (q.1 + q.2 * 65536)))
      let w := { w with tiles := tile + 1, lanes := lanes, w0 := (w.w0.zip zero).map (fun q => q.1 + q.2),
                        hinted := (w.hinted.zip hint).map (fun q => q.1 + q.2) }
      releaseSlotsDone (s.setRd { s.rd with work := s.rd.work.map (fun x => if x.slot = w.slot then w else x) })

/-- DSK releases a tile, the missing samples erased (R76, R77, R78): counted, stored by DET, and what lies before it is
dropped. -/
def releaseTile (s : State) (psa pos tile : Nat) : State :=
  let g := psa / 8 % 128
  let ws := (List.range 4).map (fun l => (laneTile s l g pos tile).map (·.getD 0x8000))
  let s := storeTile (s.addMod Reg.DSK_TILES 0 24 1) psa pos tile ws
  let keep := fun (p : PayFrame) => p.group == g && (decide (pos < p.pos) || (p.pos == pos && decide (256 * (tile + 1) < 1440 * (p.frame + 1))))
  let s := (List.range 4).foldl (fun s l => s.setLane l { s.lane l with pay := (s.lane l).pay.filter keep }) s
  s.setRd { s.rd with tiles := some (g, pos, tile + 1) }

/-- Lanes in service that have not delivered every sample of a tile. -/
def lanesMissing (s : State) (g pos tile : Nat) : List Nat :=
  (List.range 4).filter (fun l => (laneTile s l g pos tile).any (·.isNone))

/-- A tile is released to DET once every lane in service has delivered it (R76). -/
def tileRelease (psa pos tile : Nat) (s : State) : State :=
  let g := psa / 8 % 128
  if tileNext s g pos tile ∧ (lanesMissing s g pos tile).isEmpty then releaseTile s psa pos tile else s

/-- TILE_RELEASE (R76). -/
def execTileRelease (psa pos tile : Nat) (s : State) : Host.Outcome State Fault Refusal :=
  done s (s.unlessFrozen pgDSK (tileRelease psa pos tile))

/-- Channel bits of a group that a lane has delivered to DSK. -/
def laneProgress (s : State) (l g : Nat) : Nat :=
  ((s.lane l).pay.filter (fun p => p.group == g)).foldl (fun m p => max m ((p.pos * 40 + p.frame + 1) * 1472)) 0

/-- The earliest lane is SKEWMAX bits past a sample that a lane has not delivered (R77). -/
def lateDue (s : State) (l g pos tile : Nat) : Bool :=
  let i := 256 * tile + ((laneTile s l g pos tile).takeWhile (·.isSome)).length
  let bit := (pos * 40 + i / 1440) * 1472 + 32 + i % 1440
  (List.range 4).any (fun k => laneActive s k && decide (bit + s.fld Reg.DSK_CFG 16 11 ≤ laneProgress s k g))

/-- A tile is released without the lanes that lag too far: each is counted (R77). -/
def lateRelease (psa pos tile : Nat) (s : State) : State :=
  let g := psa / 8 % 128
  let late := lanesMissing s g pos tile
  if tileNext s g pos tile ∧ late.any (fun l => lateDue s l g pos tile) then
    (releaseTile (late.foldl (fun s l => s.addSat (Reg.DSK_LANE_LATE l) 0 16 1) s) psa pos tile).raise pgDSK 1
  else s

/-- DSK_LATE_RELEASE (R77). -/
def execDskLateRelease (psa pos tile : Nat) (s : State) : Host.Outcome State Fault Refusal :=
  done s (s.unlessFrozen pgDSK (lateRelease psa pos tile))

end Sys2Proof.Machine
end

