-- ==== Sys2Proof/Machine/Cal.lean ====
section
/-! DEFINITION. The meanings of CAL's commands: glides, calibrations, the reference check and sweeps (R287 to R310). -/
namespace Sys2Proof.Machine

/-! ## Mortar glides -/

/-- The words the stages of the enabled programs write (R291, R304). -/
def stageOut (s : State) (a : Nat) : Bool :=
  (List.range 16).any (fun p => progEn s p && (List.range (progNstage s p)).any (fun i =>
    let d0 := s.mort (progBase s p + 4 * i)
    let o := fieldOf d0 0 12
    o == a || (fieldOf d0 28 4 == 9 && decide (o ≤ a) && decide (a < o + 4))))

/-- R291: channel k may be armed with a configuration word. -/
def mgArmOk (s : State) (k : Nat) (v : Word) : Bool :=
  let a := fieldOf v 16 12
  liveWord a && decide (0x60 ≤ a) && !descWord s a && !stageOut s a && !routeOwns s a &&
  !(List.range 10).any (fun j => j != k && s.bit (Reg.CAL_MG_CFG j) 0 && mgAddr s j == a)

/-- CAL_MG_CFG written: a glide of a channel disarmed or armed on another word ends (R291, R292). -/
def mgCfgEffect (k : Nat) (old : Word) (s : State) : State :=
  if fieldOf old 0 1 = 1 ∧ (mgOf s k).run ∧ (!s.bit (Reg.CAL_MG_CFG k) 0 ∨ fieldOf old 16 12 ≠ mgAddr s k) then mgEndEarly s k 3
  else if fieldOf old 0 1 = 0 ∧ s.bit (Reg.CAL_MG_CFG k) 0 then s.setReg (Reg.CAL_MG_STAT k) 0#32
  else s

/-- A write of CAL_MG_CFG. -/
def mgCfgWrite (m : Master) (k : Nat) (v : Word) (s : State) : State :=
  regWriteIf s m (Reg.CAL_MG_CFG k) 4 v (fieldOf v 0 1 == 0 || mgArmOk s k v) (mgCfgEffect k (s.reg (Reg.CAL_MG_CFG k)))

/-- CAL_MG_ARM (R291). -/
def execCalMgArm (m : Master) (k : Nat) (v : Word) (s : State) : Host.Outcome State Fault Refusal := done s (mgCfgWrite m (k % 10) v s)

/-- CAL_MG_TGT written on an armed channel starts or redirects its glide (R291). -/
def mgTgtEffect (k : Nat) (s : State) : State := if s.bit (Reg.CAL_MG_CFG k) 0 then mgStart s k else s

/-- CAL_MG_TGT_WRITE (R291). -/
def execCalMgTgtWrite (m : Master) (k : Nat) (v : Word) (s : State) : Host.Outcome State Fault Refusal :=
  done s (regWrite s m (Reg.CAL_MG_TGT (k % 10)) 4 v (mgTgtEffect (k % 10)))

/-! ## Glided registers -/

/-- A master writes a target register; `lost` says that CAL writes the same one in this clock, so that CAL's write stands
(R290). -/
def targetWrite (m : Master) (a : Nat) (v : Word) (lost : Bool) (s : State) : State :=
  match glidedOfTarget a with
  | some g =>
    if lost then regWriteIf s m a 4 v true (fun s' => (s'.setReg a (s.reg a)).addSat Reg.CAL_CNT 0 16 1)
    else regWrite s m a 4 v (fun s' => targetWritten s' g)
  | none => s

/-- GLIDE_TARGET_WRITE (R288 to R290). -/
def execGlideTargetWrite (m : Master) (a : Nat) (v : Word) (lost : Bool) (s : State) : Host.Outcome State Fault Refusal :=
  done s (targetWrite m a v lost s)

/-! ## Runs -/

/-- A bit of CAL_RUN.PEND: lanes 0 to 3, 4 shunt offset, 5 bridge offsets, 6 link skew (R310). -/
def runPending (s : State) (i : Nat) : Bool := s.bit Reg.CAL_RUN i

/-- A run ends (R310). -/
def runEnd (s : State) (i : Nat) : State := (s.setBit Reg.CAL_RUN i false).raise pgCAL 4

/-- Statistics runs start on lanes (R293, R294, R296). -/
def statStart (s : State) (lanes : Nat) : State :=
  (List.range 4).foldl (fun s l => if lanes.testBit l then (s.setBit Reg.CAL_RUN l true).setBit Reg.CAL_RUN (8 + l) false else s) s

/-- CAL_TRIG written (R296, R299 to R301, R310): absent lanes have no bit; bridges that are measured drive 0 A. -/
def calTrig (v : Word) (s : State) : State :=
  let s := statStart s (fieldOf v 0 4 &&& lanesPresent s)
  let s := if fieldOf v 4 1 = 1 then s.setBit Reg.CAL_RUN 4 true else s
  let s := if fieldOf v 5 1 = 1 then
      let on := (List.range 4).filter (fun b => s.bit Reg.ACT_CFG b)
      let s := s.setBit Reg.CAL_RUN 5 (!on.isEmpty)
      let s := s.setSv { s.sv with meas := on }
      (List.range 4).foldl (fun s b => drive s b (bridgeOut s b)) s
    else s
  if fieldOf v 6 1 = 1 then s.setBit Reg.CAL_RUN 6 true else s
where
  /-- Lanes this part has (R2). -/
  lanesPresent (s : State) : Nat := if s.variant = .ln7720 then 3 else 15

/-- A write of CAL_TRIG. -/
def calTrigWrite (m : Master) (v : Word) (s : State) : State := regWrite s m Reg.CAL_TRIG 4 v (calTrig v)

/-- CAL_TRIG_ADCSTAT (R296). -/
def execCalTrigAdcstat (m : Master) (v : Word) (s : State) : Host.Outcome State Fault Refusal := done s (calTrigWrite m v s)
/-- CAL_TRIG_SHOFS (R299). -/
def execCalTrigShofs (m : Master) (v : Word) (s : State) : Host.Outcome State Fault Refusal := done s (calTrigWrite m v s)
/-- CAL_TRIG_BROFS (R300). -/
def execCalTrigBrofs (m : Master) (v : Word) (s : State) : Host.Outcome State Fault Refusal := done s (calTrigWrite m v s)
/-- CAL_TRIG_LINK (R301). -/
def execCalTrigLink (m : Master) (v : Word) (s : State) : Host.Outcome State Fault Refusal := done s (calTrigWrite m v s)

/-- REFFLT: no target from a measurement traced to CALREF is written (R294). -/
def refFault (s : State) : Bool := s.bit (Reg.STAT pgCAL) 8

/-- The largest of a correction's three parts. -/
def largest (x : Int × Int × Int) : Nat := max x.1.natAbs (max x.2.1.natAbs x.2.2.natAbs)

/-- The slot whose correction is largest, the lowest on a tie (R297). -/
def worstSlot (l : List (Int × Int × Int)) : Option Nat :=
  ((l.zipIdx.foldl (fun (b : Option ((Int × Int × Int) × Nat)) q => match b with
    | none => some q
    | some p => if largest p.1 < largest q.1 then some q else some p) none)).map (·.2)

/-- Targets of the statistics method (R296): each slot's mean and mean magnitude are brought to those of all its slots. A slot
brings the sum and the sum of magnitudes of its 2^SLOG samples, and the skew correction that its correlations with the slots
before and after it give. -/
def statTargets (s : State) (l : Nat) (meas : List (Int × Int × Int)) (slot : Nat) : Int × Int × Int :=
  let q := meas.take 8
  let n : Int := q.length
  let x := q.getD slot (0, 0, 0)
  match slotConverter s l slot with
  | some k =>
    let o := s.sfld (Reg.RFL_SUB_OFS l k) 0 12
    let g := s.sfld (Reg.RFL_SUB_GAIN l k) 0 12
    let sum := (q.map (·.1)).sum
    let mag := (q.map (·.2.1)).sum
    (o + roundQuot (64 * (sum - n * x.1)) (n * (2 ^ s.fld Reg.CAL_ADCSTAT 0 5 : Nat)),
     if x.2.1 ≤ 0 then g else roundQuot ((16384 + g) * mag) (n * x.2.1) - 16384, x.2.2)
  | none => (0, 0, 0)

/-- The statistics run of lane l ends (R296, R297, R61). -/
def adcstatDone (l : Nat) (meas : List (Int × Int × Int)) (s : State) : State :=
  if l < 4 ∧ runPending s l then
    let pick := if s.bit (Reg.RFL_ADC_CTRL l) 0 then none else (worstSlot ((List.range meas.length).map (statTargets s l meas))).bind (slotConverter s l)
    let s := ((List.range (min 8 meas.length)).map (statTargets s l meas)).zipIdx.foldl (fun s q => match slotConverter s l q.2 with
      | some k =>
        if beyondField q.1.1 || beyondField q.1.2.1 || beyondField q.1.2.2 then retireConverter s l k
        else writeSubTargets s l k true q.1.1 q.1.2.1 q.1.2.2
      | none => s) s
    let s := match pick with
      | some k => s.setLane l { s.lane l with sparePick := some k }
      | none => s
    runEnd s l
  else s

/-- CAL_ADCSTAT_DONE (R296, R297). -/
def execCalAdcstatDone (l : Nat) (meas : List (Int × Int × Int)) (s : State) : Host.Outcome State Fault Refusal :=
  done s (s.unlessFrozen pgCAL (adcstatDone l meas))

/-- A statistics run was not complete in time (R296). -/
def adcstatTimeout (l : Nat) (s : State) : State :=
  if l < 4 ∧ runPending s l then runEnd (s.setBit Reg.CAL_RUN (8 + l) true) l else s

/-- CAL_ADCSTAT_TIMEOUT (R296). -/
def execCalAdcstatTimeout (l : Nat) (s : State) : Host.Outcome State Fault Refusal := done s (s.unlessFrozen pgCAL (adcstatTimeout l))

/-- A shunt's offset and gain as glided quantities. -/
def shuntGlided (c k : Nat) : Glided := ⟨c, if c = 6 then Reg.SPN_SH_OFS k else Reg.SPN_SH_GAIN k, k, 0⟩

/-- The offset of a leg whose 1,024 valley codes in OFF have this sum, in 1/8 code (R299). -/
def shuntOffset (s : State) (k : Nat) (sum : Int) : Int :=
  -(roundQuot (8 * sum * (8192 + s.sfld (Reg.SPN_SH_GAIN k) 0 12)) (1024 * 8192))

/-- The valley samples of all legs are taken: SPN has stood in OFF for 10 ms and 1,024 periods (R299). -/
def shuntOffsetDone (sums : List Int) (s : State) : State :=
  if spnState s = 0 ∧ s.spn.since + 48768 ≤ s.ticks then
    runEnd ((List.range 3).foldl (fun s k => calTarget s (shuntGlided 6 k) (shuntOffset s k (sums.getD k 0))) s) 4
  else s

/-- SHUNT_OFFSET_DONE (R299). -/
def execShuntOffsetDone (ofs : List Int) (s : State) : Host.Outcome State Fault Refusal :=
  done s (s.unlessFrozen pgCAL (shuntOffsetDone ofs))

/-- The gain correction that makes 64 codes of sum `sum` read 0.8 of full scale, 1,638.4 codes, in 2^-13 (R299). -/
def shuntGainTarget (sum : Int) : Int :=
  if sum ≤ 0 then 2047 else clampInt (-2048) 2047 ((8192 * 1048576 + 5 * sum) / (10 * sum) - 8192)

/-- An injection into one leg; the 64th gives a gain target (R299). -/
def shuntInjection (leg : Nat) (code : Int) (s : State) : State :=
  if spnDriven (spnState s) ∧ s.bit Reg.CAL_CFG 2 ∧ leg < 3 then
    let p := s.cal.inj.getD leg (0, 0)
    let n := p.1 + 1
    let sum := p.2 + sat12 code
    if n < 64 then s.setCal { s.cal with inj := s.cal.inj.set leg (n, sum) }
    else
      let s := s.setCal { s.cal with inj := s.cal.inj.set leg (0, 0) }
      if refFault s then s else calTarget s (shuntGlided 7 leg) (shuntGainTarget sum)
  else s

/-- SHUNT_GAIN_INJECTION (R299). -/
def execShuntGainInjection (leg : Nat) (code : Int) (s : State) : Host.Outcome State Fault Refusal :=
  done s (s.unlessFrozen pgCAL (shuntInjection leg code))

/-- A bridge's offset is measured: its target applies at once and the bridge takes its source again (R293, R300). -/
def bridgeOffsetDone (b : Nat) (ofs : Int) (s : State) : State :=
  if s.sv.meas.contains b then
    let o := max (-2048) (min 2047 ofs)
    let s := setActive (s.setReg (Reg.ACT_BR_OFS b + 4) (Word.ofNat (bitsOf 12 o))) (Reg.ACT_BR_OFS b) (o * 256)
    let s := s.setSv { s.sv with meas := s.sv.meas.filter (· != b) }
    if s.sv.meas.isEmpty then runEnd s 5 else s
  else s

/-- BRIDGE_OFFSET_DONE (R300). -/
def execBridgeOffsetDone (b : Nat) (ofs : Int) (s : State) : Host.Outcome State Fault Refusal :=
  done s (s.unlessFrozen pgCAL (bridgeOffsetDone b ofs))

/-- The link-skew run ends: it runs only while LWI is high and WENC holds no arm (R301). -/
def calLinkDone (trims : List Int) (s : State) : State :=
  if runPending s 6 ∧ lwi s ∧ s.wenc.arms.isEmpty then
    let t := fun (k : Nat) => bitsOf 7 (clampInt (-63) 63 (trims.getD k 0))
    runEnd (s.setReg Reg.CAL_LINK (Word.ofNat (t 0 + t 1 * 256 + t 2 * 65536 + t 3 * 16777216))) 6
  else s

/-- CAL_LINK_DONE (R301). -/
def execCalLinkDone (trims : List Int) (s : State) : Host.Outcome State Fault Refusal :=
  done s (s.unlessFrozen pgCAL (calLinkDone trims))

/-- A servo ADC channel's offset and gain as glided quantities. -/
def sadcGlided (c k : Nat) : Glided := ⟨c, if c = 3 then Reg.SADC_CH_OFS k else Reg.SADC_CH_GAIN k, k, 0⟩

/-- The reference converter ends its window of 2^16 pairs on a channel (R298): `diff` is the sum of its codes less the sum of the
channel's trimmed ones, `swept` the codes that the input has swept, `slope` the regression's gain in 2^-16. -/
def refconvEnd (diff : Int) (swept : Nat) (slope : Int) (s : State) : State :=
  if s.bit Reg.CAL_CFG 1 then
    let k := s.cal.refCh
    let s := if refFault s then s
      else
        let s := calTarget s (sadcGlided 3 k) (s.sfld (Reg.SADC_CH_OFS k) 0 12 + roundQuot (8 * diff) 65536)
        if 512 ≤ swept then
          calTarget s (sadcGlided 4 k) (roundQuot ((8192 + s.sfld (Reg.SADC_CH_GAIN k) 0 12) * slope) 65536 - 8192)
        else s
    s.setCal { s.cal with refCh := (k + 1) % 32 }
  else s

/-- SADC_REFCONV_WINDOW_END (R298). -/
def execSadcRefconvWindowEnd (diff : Int) (swept : Nat) (slope : Int) (s : State) : Host.Outcome State Fault Refusal :=
  done s (s.unlessFrozen pgCAL (refconvEnd diff swept slope))

/-- The trim that a channel's boot measurement gives (R298): `x` holds the sum of its 2^12 codes at SVREF and the difference of
its sums at SVREF ± 0.750 V, ±1,500 codes. -/
def bootTrimOf (x : Int × Int) : Int × Int :=
  let g := if x.2 ≤ 0 then 2047 else clampInt (-2048) 2047 (roundQuot (8192 * 3000 * 4096) x.2 - 8192)
  (-(roundQuot (8 * x.1 * (8192 + g)) (4096 * 8192)), g)

/-- The boot trim of every channel while RUN is 0 (R298). -/
def bootTrim (sums : List (Int × Int)) (s : State) : State :=
  if !s.bit Reg.SADC_CFG 0 ∧ !refFault s then
    (sums.take 32).zipIdx.foldl (fun s q =>
      let t := bootTrimOf q.1
      calTarget (calTarget s (sadcGlided 3 q.2) t.1) (sadcGlided 4 q.2) t.2) s
  else s

/-- SADC_BOOT_TRIM_DONE (R298). -/
def execSadcBootTrimDone (sums : List (Int × Int)) (s : State) : Host.Outcome State Fault Refusal :=
  done s (s.unlessFrozen pgCAL (bootTrim sums))

/-! ## The reference -/

/-- The second's comparison of CALREF, in 100 µV, with the bandgap (R294). -/
def calrefCheck (mv : Nat) (s : State) : State :=
  if s.bit Reg.CAL_CFG 16 then
    let s := s.setReg Reg.CAL_REF (Word.ofNat (min mv 65535))
    if mv < 12250 ∨ 12750 < mv then
      let was := refFault s
      let s := ((s.setBit (Reg.STAT pgCAL) 8 true).raise pgCAL 3).err pgCAL 0x1202 15
      let s := (s.report pgCAL 0x1202 15 []).setCal { s.cal with refGood := 0 }
      if was then s else statStart s (s.fld Reg.DSK_LANEACT 0 4)
    else if refFault s then
      if 9 ≤ s.cal.refGood then (s.setBit (Reg.STAT pgCAL) 8 false).setCal { s.cal with refGood := 0 }
      else s.setCal { s.cal with refGood := s.cal.refGood + 1 }
    else s
  else s

/-- CALREF_CHECK (R294). -/
def execCalrefCheck (mv : Nat) (s : State) : Host.Outcome State Fault Refusal := done s (s.unlessFrozen pgCAL (calrefCheck mv))

/-- The temperature has moved by TDELTA (R294, R301). -/
def tempChange (s : State) : State :=
  let s := s.raise pgCAL 5
  let s := if s.bit Reg.CAL_CFG 3 then s.setBit Reg.CAL_RUN 6 true else s
  if refFault s then statStart s (s.fld Reg.DSK_LANEACT 0 4) else s

/-- CAL_TEMP_CHANGE (R294, R301). -/
def execCalTempChange (s : State) : Host.Outcome State Fault Refusal := done s (s.unlessFrozen pgCAL tempChange)

/-! ## Sweeps -/

/-- Kind, channel, points, start and step of a sweep. -/
def swpKind (s : State) : Nat := s.fld Reg.CAL_SWP_CFG 0 2
def swpCh (s : State) : Nat := s.fld Reg.CAL_SWP_CFG 4 4
def swpN (s : State) : Nat := s.fld Reg.CAL_SWP_CFG 8 5
def swpStart (s : State) : Int := s.sfld Reg.CAL_SWP_START 0 32
def swpStep (s : State) : Int := s.sfld Reg.CAL_SWP_STEP 0 32

/-- GO reads 1 while a sweep runs (R310). -/
def swpRuns (s : State) : Bool := s.bit Reg.CAL_SWP_CTRL 0

/-- Bits of the swept quantity: a mortar word, or STP_AX_TBASE. -/
def swpWidth (s : State) : Nat := if swpKind s = 0 then 32 else 28

/-- R304: a sweep may start. -/
def swpGoOk (s : State) : Bool :=
  let last := swpStart s + ((swpN s : Int) - 1) * swpStep s
  let lim : Int := (2 ^ (swpWidth s - 1) : Nat)
  !swpRuns s && decide (3 ≤ swpN s) && decide (swpN s ≤ 16) && swpStep s != 0 &&
  (if swpKind s = 0 then s.bit (Reg.CAL_MG_CFG (swpCh s)) 0 else axMode s 1 == 3 && !stageOut s 0x2F) &&
  decide (-lim ≤ min (swpStart s) last) && decide (max (swpStart s) last < lim)

/-- CAL sends the swept quantity to a value: a glide, or TBASE (R302). A disarmed channel moves nothing. -/
def swpMove (s : State) (x : Int) : State :=
  if swpKind s = 0 then
    if s.bit (Reg.CAL_MG_CFG (swpCh s)) 0 then
      mgStart (s.setReg (Reg.CAL_MG_TGT (swpCh s)) (Word.ofNat (bitsOf 32 x))) (swpCh s)
    else s
  else s.setFld (Reg.STP_AX_TBASE 1) 0 28 (bitsOf 28 x)

/-- The swept quantity as it stands. -/
def swpValue (s : State) : Int :=
  if swpKind s = 0 then s.mortInt (mgAddr s (swpCh s)) else s.sfld (Reg.STP_AX_TBASE 1) 0 28

/-- A sweep starts with the move to its first point (R302). -/
def swpGo (s : State) : State :=
  let s := (List.range 16).foldl (fun s k => s.setReg (Reg.CAL_SWP_MET k) 0#32) (s.setReg Reg.CAL_SWP_RES 0#32)
  let s := s.setCal { s.cal with phase := .moving, point := 0, left := 0, sum := 0, before := swpValue s }
  swpMove (s.setBit Reg.CAL_SWP_CTRL 0 true) (swpStart s)

/-- A sweep aborts: the value goes back to what it was before GO (R303, R304). -/
def swpAbort (cause : Nat) (s : State) : State :=
  let s := (s.setFld Reg.CAL_SWP_RES 20 3 cause).err pgCAL 0x1204 cause
  let s := s.setCal { s.cal with phase := .returning }
  swpMove s s.cal.before

/-- CAL_SWP_CTRL written (R302, R304). -/
def swpCtrlEffect (v : Word) (s : State) : State :=
  let s := if fieldOf v 31 1 = 1 ∧ swpRuns s ∧ s.cal.phase ≠ .returning then swpAbort 5 s else s
  if fieldOf v 0 1 = 1 then swpGo s else s

/-- A write of CAL_SWP_CTRL. -/
def swpCtrlWrite (m : Master) (v : Word) (s : State) : State :=
  regWriteIf s m Reg.CAL_SWP_CTRL 4 v (fieldOf v 0 1 == 0 || swpGoOk s) (swpCtrlEffect v)

/-- CAL_SWP_GO (R302, R304). -/
def execCalSwpGo (m : Master) (v : Word) (s : State) : Host.Outcome State Fault Refusal := done s (swpCtrlWrite m v s)

/-- A hardware cause of R304 holds: 1 no lane in TRACK, 2 safe state, 3 shock, all in a settle or dwell period; 4 the glide
of a move ended early. -/
def swpCauseHolds (s : State) (cause : Nat) : Bool :=
  let counting := s.cal.phase == .settle || s.cal.phase == .dwell
  match cause with
  | 1 => counting && (s.mort 0x20).toNat.testBit 7
  | 2 => counting && (srvStat s).testBit 2
  | 3 => counting && (srvStat s).testBit 3
  | 4 => s.cal.phase == .moving && swpKind s == 0 && !(mgOf s (swpCh s)).run && s.fld (Reg.CAL_MG_STAT (swpCh s)) 4 3 != 0
  | _ => false

/-- The sweep's move is over: its glide has ended, or the axis stands still (R302). -/
def swpMoved (s : State) : Bool := if swpKind s = 0 then !(mgOf s (swpCh s)).run else standstill s 1

/-- A move of a sweep ends (R302, R303): the point waits for the next period to begin, or the sweep is over. -/
def swpMoveDone (s : State) : State :=
  if swpRuns s ∧ swpCauseHolds s 4 then swpAbort 4 s
  else if swpRuns s ∧ swpMoved s then
    match s.cal.phase with
    | .moving => s.setCal { s.cal with phase := .edge }
    | .returning => ((s.setCal { s.cal with phase := .idle }).setBit Reg.CAL_SWP_CTRL 0 false).raise pgCAL 2
    | _ => s
  else s

/-- CAL_SWP_MOVE_DONE (R302). -/
def execCalSwpMoveDone (s : State) : Host.Outcome State Fault Refusal := done s (s.unlessFrozen pgCAL swpMoveDone)

/-- The point with the least sum, the lowest on a tie (R303). -/
def swpMin (s : State) : Nat :=
  (List.range (swpN s)).foldl (fun b i => if (s.reg (Reg.CAL_SWP_MET i)).toNat < (s.reg (Reg.CAL_SWP_MET b)).toNat then i else b) 0

/-- FRAC at an inner minimum (R303). -/
def swpFrac (s : State) (i : Nat) : Int :=
  let m := fun k => ((s.reg (Reg.CAL_SWP_MET k)).toNat : Int)
  clampInt (-128) 128 (roundQuot (256 * (m (i - 1) - m (i + 1))) (2 * (m (i - 1) - 2 * m i + m (i + 1))))

/-- The fit at the end of a sweep (R303). -/
def swpFit (s : State) : State :=
  let i := swpMin s
  let s := s.setCal { s.cal with phase := .returning }
  if 0 < i ∧ i + 1 < swpN s then
    let f := swpFrac s i
    let code := if f = 128 then Config.sweepFracTop % 256 else bitsOf 8 f
    let s := s.setReg Reg.CAL_SWP_RES (Word.ofNat (i + code * 256 + 65536))
    swpMove s (if s.bit Reg.CAL_SWP_CTRL 1 then swpStart s + (i : Int) * swpStep s + roundQuot (f * swpStep s) 256 else s.cal.before)
  else swpMove (s.setReg Reg.CAL_SWP_RES (Word.ofNat (i + 131072))) s.cal.before

/-- Settling begins, or dwelling where SETTLE is 0 (R302). -/
def swpSettle (s : State) : State :=
  let n := s.fld Reg.CAL_SWP_CFG 16 4
  if n = 0 then s.setCal { s.cal with phase := .dwell, left := s.fld Reg.CAL_SWP_CFG 20 4, sum := 0 }
  else s.setCal { s.cal with phase := .settle, left := n, sum := 0 }

/-- One dwell period's RFQ word is added; the last one of a point ends it (R302, R303). -/
def swpDwell (s : State) : State :=
  let sum := min 4294967295 (s.cal.sum + (s.mort 0x23).toNat / 16)
  let s := s.setReg (Reg.CAL_SWP_MET s.cal.point) (Word.ofNat sum)
  if 1 < s.cal.left then s.setCal { s.cal with left := s.cal.left - 1, sum := sum }
  else if s.cal.point + 1 < swpN s then
    let p := s.cal.point + 1
    swpMove (s.setCal { s.cal with phase := .moving, point := p, left := 0, sum := 0 }) (swpStart s + (p : Int) * swpStep s)
  else swpFit s

/-- An RF quality period ends; its word stands in mortar word 0x023 (R195, R302). -/
def swpPeriodEnd (s : State) : State :=
  if swpRuns s then
    match [1, 2, 3].find? (swpCauseHolds s) with
    | some c => swpAbort c s
    | none =>
    match s.cal.phase with
    | .edge => swpSettle s
    | .settle =>
      if 1 < s.cal.left then s.setCal { s.cal with left := s.cal.left - 1 }
      else s.setCal { s.cal with phase := .dwell, left := s.fld Reg.CAL_SWP_CFG 20 4, sum := 0 }
    | .dwell => swpDwell s
    | _ => s
  else s

/-- CAL_SWP_PERIOD_END (R302, R303). -/
def execCalSwpPeriodEnd (s : State) : Host.Outcome State Fault Refusal := done s (s.unlessFrozen pgCAL swpPeriodEnd)

/-- CAL_SWP_ABORT (R304): cause 5 is firmware's write of CAL_SWP_CTRL, the others are hardware's. -/
def execCalSwpAbort (m : Master) (v : Word) (cause : Nat) (s : State) : Host.Outcome State Fault Refusal :=
  done s (if cause = 5 then swpCtrlWrite m v s
    else if swpRuns s ∧ swpCauseHolds s cause then s.unlessFrozen pgCAL (swpAbort cause) else s)

end Sys2Proof.Machine
end

