-- ==== Sys2Proof/Machine/Pool.lean ====
section
/-! DEFINITION. The decoder pool (R92 to R98, R115): codeword slots, cores, what becomes of a decoded sector. -/
namespace Sys2Proof.Machine

/-! ## Slots and cores (R95, R96) -/

/-- The codeword loaded for a sector. -/
def findCw (s : State) (k : CwKind) (psa spiral pos : Nat) : Option Codeword :=
  s.rd.cws.find? (fun c => c.kind == k && c.psa / 8 == psa / 8 && c.spiral == spiral && c.pos == pos)

/-- Changes the codeword of a slot. -/
def mapCw (s : State) (slot : Nat) (f : Codeword → Codeword) : State :=
  s.setRd { s.rd with cws := s.rd.cws.map (fun c => if c.slot = slot then f c else c) }

/-- A free codeword slot (R95). -/
def freeCwSlot (s : State) : Option Nat := (List.range 64).find? (fun k => !s.rd.cws.any (fun c => c.slot == k))

/-- Codewords of recovery in the pool (R95). -/
def recoveryHeld (s : State) : Nat := (s.rd.cws.filter (fun c => c.kind == .recovery)).length

/-- The recovery codeword loaded most recently. -/
def lastRecovery (s : State) : Option Codeword :=
  (s.rd.cws.filter (fun c => c.kind == .recovery)).foldl (fun b c => match b with
    | none => some c
    | some x => if x.age < c.age then some c else some x) none

/-- Place of a codeword in the order in which cores take work (R96): foreground by the age of its position, then DRAW, then
recovery, each by age. -/
def cwRank (s : State) (c : Codeword) : Nat × Nat × Nat :=
  match c.kind with
  | .fg => (0, (s.rd.work.findIdx? (fun w => w.psa / 8 == c.psa / 8 && w.pos == c.pos)).getD 4, c.age)
  | .draw => (1, 0, c.age)
  | .recovery => (2, 0, c.age)

/-- A rank comes before another. -/
def rankBefore (a b : Nat × Nat × Nat) : Bool :=
  decide (a.1 < b.1) || (a.1 == b.1 && (decide (a.2.1 < b.2.1) || (a.2.1 == b.2.1 && decide (a.2.2 < b.2.2))))

/-- The codeword that a free core takes next (R96). -/
def nextWork (s : State) : Option Codeword :=
  (s.rd.cws.filter (fun c => c.due && c.core.isNone)).foldl (fun b c => match b with
    | none => some c
    | some x => if rankBefore (cwRank s c) (cwRank s x) then some c else some x) none

/-- A core in service that decodes nothing (R96, R98). -/
def freeCore (s : State) : Option Nat :=
  (List.range 6).find? (fun k => s.bit Reg.LDPC_SCHED (16 + k) && s.fld (Reg.LDPC_CORE_STAT k) 0 2 == 0)

/-- A free core takes the next work. -/
def assignOne (s : State) : State :=
  match freeCore s, nextWork s with
  | some k, some c =>
    let s := mapCw s c.slot (fun c => { c with core := some k, due := false })
    (s.setReg (Reg.LDPC_CORE_STAT k) (Word.ofNat (1 + c.slot * 256))).setBit Reg.LDPC_SLOTS (16 + k) true
  | _, _ => s

/-- Free cores take work; counts follow (R96, R115). -/
def assignCores (s : State) : State :=
  readCounts (assignOne (assignOne (assignOne (assignOne (assignOne (assignOne s))))))

/-- A codeword is decoded again from its start (R95, R98). -/
def Codeword.restart (c : Codeword) : Codeword :=
  { c with iters := 0, core := none, due := true, msgs := noMessages, ext := segments (List.replicate 38400 0) }

/-- Evicted recovery codewords come back as slots free, the oldest first (R95). -/
def refillPool : Nat → State → State
  | 0, s => s
  | n + 1, s => match s.rd.evicted, freeCwSlot s with
    | c :: t, some k =>
      if recoveryHeld s < s.fld Reg.LDPC_SCHED 0 6 then
        refillPool n (s.setRd { s.rd with cws := s.rd.cws ++ [{ c.restart with slot := k, age := s.rd.ageNext }],
                                          evicted := t, ageNext := s.rd.ageNext + 1 })
      else s
    | _, _ => s

/-- The pool goes on after a slot or a core became free. -/
def poolGoes (s : State) : State := assignCores (refillPool 64 s)

/-- A codeword leaves its slot. -/
def freeCw (s : State) (c : Codeword) : State :=
  let s := match c.core with
    | some k => coreIdle s k
    | none => s
  s.setRd { s.rd with cws := s.rd.cws.filter (fun x => x.slot != c.slot) }

/-! ## Loading (R95) -/

/-- What DET holds of a codeword's sector. -/
def softOf (s : State) (k : CwKind) (psa spiral pos : Nat) : Option LaneSoft :=
  let at_ := fun (l : List LaneSoft) => l.find? (fun x => x.spiral == (spiral : Int) && decide (x.kind = some k))
  if k = .recovery then (s.rd.ring.find? (fun r => r.group == psa / 8 % 128 && r.pos == pos)).bind (fun r => at_ r.lanes)
  else (s.rd.work.find? (fun w => w.psa / 8 == psa / 8 && w.pos == pos)).bind (fun w => at_ w.lanes)

/-- Coded-bit LLRs of a sector: this round's, with those of earlier reads added (R105, R108). -/
def loadLlrs (s : State) (k : CwKind) (psa spiral pos : Nat) (x : LaneSoft) : List Int :=
  let gi := sectorAt spiral pos
  if k = .draw then x.coded
  else match (groupRead s psa).bind (fun g => g.saved.find? (fun o => o.1 == gi.1 && o.2.1 == gi.2)) with
    | some o => addLlrs x.coded o.2.2
    | none => x.coded

/-- Re-reads were combined in a sector's strip (R111). -/
def noteCombined (s : State) (psa spiral pos : Nat) : State :=
  let gi := sectorAt spiral pos
  match (groupRead s psa).bind (fun g => g.saved.find? (fun o => o.1 == gi.1 && o.2.1 == gi.2)) with
  | some _ => mapStrip s (psa / 8 * 8 + gi.1) (fun t => { t with comb := true })
  | none => s

/-- A codeword takes a slot, or, in a later round, its new LLRs (R95). -/
def putCw (s : State) (slot : Nat) (k : CwKind) (psa spiral pos : Nat) (llr : List Int) : State :=
  s.setRd { s.rd with
    cws := s.rd.cws ++ [{ slot := slot, kind := k, psa := psa / 8 * 8, spiral := spiral, pos := pos, iters := 0, core := none, due := true,
                          age := s.rd.ageNext, llr := segments llr, ext := segments (List.replicate 38400 0), msgs := noMessages }]
    ageNext := s.rd.ageNext + 1 }

/-- A round's LLRs of a sector are loaded (R95): recovery waits within RCMAX; foreground and DRAW evict the newest recovery
codeword where no slot is free, and wait where there is none to evict (DESIGN CHOICE, log 112). -/
def cwLoad (k : CwKind) (psa spiral pos : Nat) (s : State) : State :=
  match softOf s k psa spiral pos with
  | none => s
  | some x =>
    if !x.due ∨ x.fin then s
    else
      let llr := loadLlrs s k psa spiral pos x
      let took := fun (s : State) =>
        let s := mapSoft s k psa spiral pos (fun x => { x with due := false })
        assignCores (if k = .draw then s else noteCombined s psa spiral pos)
      match findCw s k psa spiral pos with
      | some c => took (mapCw s c.slot (fun c => { c with llr := segments llr, due := true }))
      | none =>
        if k = .recovery ∧ s.fld Reg.LDPC_SCHED 0 6 ≤ recoveryHeld s then s
        else match freeCwSlot s with
          | some slot => took (putCw s slot k psa spiral pos llr)
          | none =>
            if k = .recovery then s
            else match lastRecovery s with
              | none => s
              | some c =>
                let s := (freeCw s c).raise pgLDPC 2
                let s := s.setRd { s.rd with evicted := s.rd.evicted ++ [c.restart] }
                took (putCw s c.slot k psa spiral pos llr)

/-- LDPC_CODEWORD_LOAD (R95); kind 0 foreground, 1 DRAW, 2 recovery. -/
def execLdpcCodewordLoad (kind psa spiral pos : Nat) (s : State) : Host.Outcome State Fault Refusal :=
  done s (s.unlessFrozen pgLDPC (cwLoad (if kind = 0 then .fg else if kind = 1 then .draw else .recovery) psa spiral pos))

/-! ## Results (R93, R94, R136) -/

/-- Rounds, iterations in all and iterations per round of a kind of work (R94). -/
def roundLimit (s : State) (k : CwKind) : Nat := if k = .recovery then s.fld Reg.DET_CFG 4 4 else s.fld Reg.DET_CFG 0 4
def iterPerRound (s : State) (k : CwKind) : Nat := if k = .recovery then s.fld Reg.LDPC_CFG 24 5 else s.fld Reg.LDPC_CFG 8 5
def iterLimit (s : State) (k : CwKind) : Nat :=
  min (if k = .recovery then s.fld Reg.LDPC_CFG 16 7 else s.fld Reg.LDPC_CFG 0 7) (iterPerRound s k * roundLimit s k)

/-- Raw errors of a DRAW sector: coded bits whose hard decision in round 1 differs from the bits written (R136). -/
def rawErrors (w : WrittenSector) (hard : List Bool) : Nat :=
  (((sectorCodeword w.hdr w.user w.psa w.sidx).zip hard).filter (fun q => q.1 != q.2)).length

/-- A DRAW sector is final: graded by its state, its equality with what was written, iterations and raw errors (R136); a
misplaced one is recorded (R35). -/
def drawFinal (s : State) (bytes : List Nat) (psa i iters : Nat) (hard : List Bool) (f : SectorFinal) : State :=
  let s := if f = .misplaced then reportMisplaced s bytes psa i else s
  match writtenAt s psa i with
  | some w => drawGrade s psa i (f == .good) (w.hdr == bytes.take 24 && w.user == decodedUser bytes psa i) iters (rawErrors w hard)
  | none => drawGrade s psa i (f == .good) false iters 0

/-- What later reads and rung 3 need of a failed sector is kept: its LLRs and its posteriors (R105, R108, R109). -/
def keepFailed (s : State) (psa i : Nat) (llr post : List Int) : State :=
  mapGroup s psa (fun g =>
    let rest := fun (l : List (Nat × Nat × List Int)) => l.filter (fun o => !(o.1 == psa % 8 && o.2.1 == i))
    { g with cur := rest g.cur ++ [(psa % 8, i, llr)], soft := rest g.soft ++ [(psa % 8, i, post)] })

/-- A codeword has become final (R93): its slot frees, its sector takes the state. -/
def cwFinal (s : State) (c : Codeword) (f : SectorFinal) (bytes : List Nat) (iters : Nat) (post : List Int) : State :=
  let gi := sectorAt c.spiral c.pos
  let psa := c.psa / 8 * 8 + gi.1
  let x := softOf s c.kind c.psa c.spiral c.pos
  let known := if f = .good then some (bytes.take 24, decodedUser bytes psa gi.2) else none
  let s := mapSoft (freeCw s c) c.kind c.psa c.spiral c.pos (fun x => { x with fin := true, due := false, known := known })
  let s := if c.kind = .draw then drawFinal s bytes psa gi.2 iters ((x.map (·.hard)).getD []) f
    else
      let s := finishSector s bytes psa gi.2 iters f
      if f = .good then s else keepFailed s psa gi.2 ((x.map (·.coded)).getD []) post
  poolGoes (releaseSlotsDone s)

/-- What a set of iterations makes of a codeword: posteriors and messages, the iterations it ran and whether the syndrome is
zero (R93, R94). -/
def setRun (s : State) (c : Codeword) : (List (List Int) × List (List (List Int))) × Nat × Bool :=
  decodeIters (s.fld Reg.LDPC_SCHED 8 5) (min (iterPerRound s c.kind) (iterLimit s c.kind - c.iters)) (postOf c.llr c.msgs, c.msgs) 0

/-- Strip and index of a codeword's sector. -/
def cwSector (c : Codeword) : Nat × Nat := (c.psa / 8 * 8 + (sectorAt c.spiral c.pos).1, (sectorAt c.spiral c.pos).2)

/-- What the sector check says of a codeword after its set. -/
def setJudged (s : State) (c : Codeword) : Option SectorFinal :=
  judgeSector (bitsToBytes (hardBits (setRun s c).1.1)) (cwSector c).1 (cwSector c).2

/-- Its limits of iterations or rounds are reached (R94). -/
def setSpent (s : State) (c : Codeword) : Bool :=
  decide (iterLimit s c.kind ≤ c.iters + (setRun s c).2.1) ||
  decide (roundLimit s c.kind ≤ ((softOf s c.kind c.psa c.spiral c.pos).map (·.rounds)).getD 0)

/-- A core ends its set of iterations (R93, R94, R96): the word is final once its syndrome is zero or its limits are reached;
else its extrinsics go back to the detector. -/
def decodeSet (core : Nat) (s : State) : State :=
  match s.rd.cws.find? (fun c => c.core == some core) with
  | none => s
  | some c =>
    let r := setRun s c
    let used := c.iters + r.2.1
    let bytes := bitsToBytes (hardBits r.1.1)
    match setJudged s c with
    | some f => cwFinal s c f bytes used r.1.1.flatten
    | none =>
      if setSpent s c then cwFinal s c .noconv bytes used r.1.1.flatten
      else
        let ext := extrinsics r.1.1 c.llr
        let s := mapCw s c.slot (fun c => { c with iters := used, core := none, msgs := r.1.2, ext := ext })
        let s := mapSoft s c.kind c.psa c.spiral c.pos (fun x => { x with prior := (chunks 960 40 ext.flatten).map priorFrame })
        poolGoes (coreIdle s core)

/-- LDPC_DECODE_SET (R93). -/
def execLdpcDecodeSet (core : Nat) (s : State) : Host.Outcome State Fault Refusal := done s (s.unlessFrozen pgLDPC (decodeSet core))

/-- A core's memory check fails: it retires, and the codeword it holds is decoded again from its start on another (R98). -/
def coreRetire (core : Nat) (s : State) : State :=
  if 6 ≤ core ∨ s.fld (Reg.LDPC_CORE_STAT core) 0 2 = 2 then s
  else
    let s := coreIdle s core
    let s := (s.setReg (Reg.LDPC_CORE_STAT core) 2#32).addSat (Reg.LDPC_CORE_ERR core) 0 8 1
    let s := ((s.setBit Reg.LDPC_SCHED (16 + core) false).raise pgLDPC 1).err pgLDPC 0x0302 core
    let s := s.report pgLDPC 0x0302 15 []
    assignCores (s.setRd { s.rd with cws := s.rd.cws.map (fun c => if c.core = some core then c.restart else c) })

/-- LDPC_CORE_RETIRE (R98). -/
def execLdpcCoreRetire (core : Nat) (s : State) : Host.Outcome State Fault Refusal := done s (s.unlessFrozen pgLDPC (coreRetire core))

end Sys2Proof.Machine
end

