-- ==== Sys2Proof/Machine/Detect.lean ====
section
/-! DEFINITION. The two-dimensional detector (R88 to R91, R94, R100, R106): rounds over a sector position, crosstalk
adaptation, known and remembered neighbours, pre-erasure. -/
namespace Sys2Proof.Machine

/-! ## What a round works on -/

/-- A position as DET works on it: the group's first strip, the position, what it holds of each lane, and the sample words of
each lane's frames. -/
structure DetInput where
  psa : Nat
  pos : Nat
  lanes : List LaneSoft
  words : List (List (List Nat))

/-- An empty lane. -/
def noSoft : LaneSoft := freshSoft

def DetInput.lane (d : DetInput) (l : Nat) : LaneSoft := d.lanes.getD l noSoft
def DetInput.frame (d : DetInput) (l f : Nat) : List Nat := (d.words.getD l []).getD f []

/-- Sample words of a lane in a working slot, by frame (R86). -/
def workWords (s : State) (w : WorkSlot) (l : Nat) : List (List Nat) :=
  let base := (s.reg Reg.DET_WS_BASE).toNat + w.slot * 0x80000 + 512 * l
  let all := (List.range 225).flatMap (fun t => (chunks 2 256 (s.bytes (base + 2048 * t) 512)).map leNat)
  chunks 1440 40 all

/-- The payload of a stored frame, moved by `slip` bits (R74, R79); what the ring does not hold is erased. -/
def ringPayload (s : State) (r : RingSlot) (l : Nat) (f : FrameRec) (slip : Int) : List Nat :=
  let all := (chunks 2 1488 (s.bytes (ringFrameAddr s r.slot l f.frame) 2976)).map leNat
  let at0 := 40 + f.offset + slip
  (List.range 1440).map (fun i => if at0 + (i : Int) < 0 then 0x8000 else all.getD (at0 + (i : Int)).toNat 0x8000)

/-- The frames of a lane in a ring slot. -/
def ringFrames (r : RingSlot) (l : Nat) : List FrameRec := ((r.frames.find? (fun q => q.1 == l)).map (·.2)).getD []

/-- Sample words of a lane in a ring slot, by frame, one frame moved (R74). -/
def ringWords (s : State) (r : RingSlot) (l : Nat) (move : Option (Nat × Int)) : List (List Nat) :=
  (List.range 40).map (fun k => match (ringFrames r l).find? (fun f => f.frame == k) with
    | some f => ringPayload s r l f (match move with
        | some m => if m.1 = k then m.2 else 0
        | none => 0)
    | none => List.replicate 1440 0x8000)

/-- Tentative decisions and polarities of a lane in a ring slot, one frame moved (R88). -/
def ringDecisions (r : RingSlot) (l : Nat) (move : Option (Nat × Int)) (x : LaneSoft) : LaneSoft :=
  (ringFrames r l).foldl (fun x f =>
    let slip := match move with
      | some m => if m.1 = f.frame then m.2 else 0
      | none => 0
    let at0 := (40 + f.offset + slip).toNat
    { x with dec := x.dec.set f.frame ((f.dec.drop at0).take 1440), pol := x.pol.set f.frame (f.dec.getD (at0 - 1) false) }) x

/-! ## Neighbours (R88 to R90, R106) -/

/-- A neighbour's symbols as a lane's detector takes them: for each frame the level before it and the expected symbols in
2^-15; exact ones leave no uncertainty; whose sample words weigh on adaptation. -/
structure Neighbour where
  frames : List (Int × List Int)
  lane : Option Nat

/-- Exact symbols of a sector that is known, after syncs of the given polarity (R27, R29, R89). -/
def exactFrames (hdr user : List Nat) (psa i : Nat) (pol : List Bool) : List (Int × List Int) :=
  (chunks 960 40 (sectorCodeword hdr user psa i)).zipIdx.map (fun q =>
    let p := pol.getD q.2 false
    (32768 * symSign p, (frameSymbols q.1 p).map (fun a => 32768 * symSign a)))

/-- A lane's sector counts as known (R89). -/
def isKnown (s : State) (x : LaneSoft) : Bool := s.bit Reg.DET_CFG 13 && x.known.isSome && (spiralNo x.spiral).isSome

/-- What a lane's symbols are expected to be: exact where its sector is known; else from its tentative decisions (`hard`) or
the LLRs of its last pass (R88, R89). -/
def laneSymbols (s : State) (d : DetInput) (hard : Bool) (l : Nat) : List (Int × List Int) :=
  let x := d.lane l
  match (if isKnown s x then x.known else none), spiralNo x.spiral with
  | some k, some q =>
    let gi := sectorAt q d.pos
    exactFrames k.1 k.2 (d.psa / 8 * 8 + gi.1) gi.2 x.pol
  | _, _ => (List.range 40).map (fun f => (32768 * symSign (x.pol.getD f false),
      if hard then (x.dec.getD f []).map (fun a => 32768 * symSign a) else (x.sym.getD f []).map softSymbol))

/-- The neighbour of lane l one spiral inward or outward: a lane that DET uses, a remembered sector, or none that is read
(R88, R90, R106). -/
def neighbourOf (s : State) (d : DetInput) (syms : List (List (Int × List Int))) (l : Nat) (outward : Bool) : Option Neighbour :=
  let q := (d.lane l).spiral + (if outward then 1 else -1)
  match (List.range 4).find? (fun k => (d.lane k).used && (d.lane k).spiral == q) with
  | some k => some ⟨syms.getD k [], some k⟩
  | none => match spiralNo q with
    | none => none
    | some n => match (if s.bit Reg.DET_CFG 13 then knownSector s d.psa n d.pos else none) with
      | some k =>
        let gi := sectorAt n d.pos
        some ⟨exactFrames k.1 k.2 (d.psa / 8 * 8 + gi.1) gi.2 ((List.range 40).map (fun f => Config.rememberedPol (((d.psa / 8 * 8 + gi.1) * 64 + gi.2) * 40 + f))), none⟩
      | none => none

/-- The three crosstalk taps of a side, m = −1, 0, +1 (R88, R114). -/
def xtTaps (s : State) (l : Nat) (outward : Bool) : List Int :=
  (List.range 3).map (fun m => s.sfld (if outward then Reg.DET_XT_OUT l else Reg.DET_XT_IN l) (8 * m) 8)

/-- The symbols of a frame from the one before it to the one after it; a sync begins with no change. -/
def padFrame (f : Int × List Int) : List Int := f.1 :: f.2 ++ [f.2.getLast?.getD 0]

/-- A side's share of sample n in 2^-15 and what remains uncertain in 2^-30 (R88). -/
def sideShare (x : List Int) (p : List Int) (n : Nat) : Int × Nat :=
  (List.range 3).foldl (fun a m =>
    let t := p.getD (n + m) 0
    let c := x.getD m 0
    (a.1 + c * t, a.2 + (c * c * (1073741824 - t * t)).toNat)) (0, 0)

/-- The samples of a frame as the trellis takes them (R88, R90, R100). -/
def frameSamples (s : State) (d : DetInput) (l f : Nat) (ns : List (Bool × Option Neighbour)) : List DetSample :=
  let xten := s.bit Reg.DET_CFG 12
  let edges := if xten then (ns.filter (fun n => n.2.isNone)).length else 0
  let var0 := (s.fld (Reg.DET_XT_VAR l) 0 16 + edges * s.fld Reg.DET_XT_CTRL 16 8) * 67108864
  let sides := if xten then ns.filterMap (fun n => n.2.map (fun b => (xtTaps s l n.1, padFrame (b.frames.getD f (0, []))))) else []
  (d.frame l f).zipIdx.map (fun q =>
    let sh := sides.foldl (fun a z => let v := sideShare z.1 z.2 q.2; (a.1 + v.1, a.2 + v.2)) ((0 : Int), 0)
    ⟨signedOf 10 (q.1 % 1024), wordWeight s q.1, sh.1, max 67108864 (var0 + sh.2), ((d.lane l).prior.getD f []).getD q.2 0⟩)

/-! ## Passes and rounds -/

/-- One detection pass over a position (R88): channel-bit and symbol LLRs per lane and frame; a lane whose sector is known
needs none. -/
def detPass (s : State) (d : DetInput) (hard : Bool) : List (List (List (Int × Int))) :=
  let syms := (List.range 4).map (laneSymbols s d hard)
  (List.range 4).map (fun l =>
    if !(d.lane l).used || isKnown s (d.lane l) then []
    else
      let ns := [false, true].map (fun o => (o, neighbourOf s d syms l o))
      (List.range 40).map (fun f => detectFrame (targetTaps s l) (frameSamples s d l f ns) ((d.lane l).pol.getD f false)))

/-- The lanes with the symbol LLRs of a pass. -/
def withSymbols (d : DetInput) (p : List (List (List (Int × Int)))) : DetInput :=
  { d with lanes := d.lanes.zipIdx.map (fun q =>
      let r := p.getD q.2 []
      if r.isEmpty then q.1 else { q.1 with sym := r.map (fun f => f.map (·.2)) }) }

/-- A round of detection: pass A on the last round's symbols, in round 1 on the tentative decisions, pass B on pass A's
(R88). -/
def detBoth (s : State) (d : DetInput) (first : Bool) : DetInput × List (List (List (Int × Int))) :=
  let a := withSymbols d (detPass s d first)
  let p := detPass s a false
  (withSymbols a p, p)

/-- Coded-bit LLRs of a lane from the channel-bit LLRs of its frames (R92). -/
def demapLane (r : List (List (Int × Int))) : List Int := r.flatMap (fun f => demapFrame (f.map (·.1)))

/-! ## Crosstalk adaptation (R91) -/

/-- Where adaptation of a lane stands: six taps in 2^-20, inward first; sum of squared errors and samples counted. -/
structure XtRun where
  taps : List Int
  sq : Nat
  n : Nat

/-- One sample of adaptation: the model error over the lane's own symbols and its neighbours', and each tap's step. -/
def xtStep (mu : Nat) (adapt : Bool) (own : Int) (a : List Int) (y : Int) (q : XtRun) : XtRun :=
  let e := own + ((q.taps.zip a).map (fun z => z.1 / 1048576 * z.2)).sum - y
  { taps := if adapt then (q.taps.zip a).map (fun z => clampInt (-128 * 1048576) (128 * 1048576 - 1) (z.1 - e * z.2 * 2 ^ (20 - mu)))
      else q.taps,
    sq := q.sq + e.natAbs ^ 2, n := q.n + 1 }

/-- ±1 of an expected symbol, 0 where there is none. -/
def signSym (t : Int) : Int := if t < 0 then -1 else 1

/-- Adaptation over a frame: a sample of either lane that weighs less than 8 pauses it (R91). -/
def xtFrame (s : State) (d : DetInput) (l f : Nat) (adapt : Bool) (ns : List (Option Neighbour)) (q : XtRun) : XtRun :=
  let x := d.lane l
  let own := symSign (x.pol.getD f false)
  let mine := List.replicate 3 own ++ (x.sym.getD f []).map signSym
  let t := targetTaps s l
  let pads := ns.map (fun b => b.map (fun b => padFrame (b.frames.getD f (0, []))))
  let full := fun (k n : Nat) => wordWeight s ((d.frame k f).getD n 0x8000) == 64
  (List.range 1440).foldl (fun q n =>
    if full l n && ns.all (fun b => match b.bind (·.lane) with | some k => full k n | none => true) then
      let ideal := (List.range 4).foldl (fun v k => v + t.getD k 0 * mine.getD (n + 3 - k) 0) (0 : Int)
      let a := pads.flatMap (fun p => match p with
        | some p => (List.range 3).map (fun m => signSym (p.getD (n + m) 0))
        | none => [0, 0, 0])
      xtStep (s.fld Reg.DET_XT_CTRL 8 5) adapt ideal a (signedOf 10 ((d.frame l f).getD n 0 % 1024)) q
    else q) q

/-- The X taps and the noise variance of a lane after a round (R91): VAR is the mean squared model error over the samples that
do not pause. -/
def adaptXt (s : State) (d : DetInput) (syms : List (List (Int × List Int))) (l : Nat) : State :=
  if !(d.lane l).used || isKnown s (d.lane l) || !s.bit Reg.DET_CFG 12 then s
  else
    let ns := [false, true].map (neighbourOf s d syms l)
    let fr := s.rd.xtFrac.getD l []
    let old := (xtTaps s l false ++ xtTaps s l true).zipIdx.map (fun q => q.1 * 1048576 + (fr.getD q.2 0 : Int))
    let q := (List.range 40).foldl (fun q f => xtFrame s d l f (s.bit Reg.DET_XT_CTRL 0) ns q) ⟨old, 0, 0⟩
    let word := fun (i : Nat) => Word.ofNat (((List.range 3).map (fun m => bitsOf 8 (q.taps.getD (3 * i + m) 0 / 1048576) * 2 ^ (8 * m))).sum)
    let s := (s.setReg (Reg.DET_XT_IN l) (word 0)).setReg (Reg.DET_XT_OUT l) (word 1)
    let s := s.setRd { s.rd with xtFrac := s.rd.xtFrac.set l (q.taps.map (fun t => (t % 1048576).toNat)) }
    if q.n = 0 then s else s.setFld (Reg.DET_XT_VAR l) 0 16 (min 65535 (16 * q.sq / q.n))

/-- Adaptation after a round; it pauses where no sector of the position is known after round 2 (R91). -/
def adaptAll (s : State) (d : DetInput) (round : Nat) : State :=
  if 2 < round ∧ !d.lanes.any (fun x => x.known.isSome) then s
  else
    let syms := (List.range 4).map (laneSymbols s d false)
    (List.range 4).foldl (fun s l => adaptXt s d syms l) s

/-! ## A round (R94) -/

/-- A lane's sector is still to be decoded. -/
def LaneSoft.open_ (x : LaneSoft) : Bool := x.kind.isSome && !x.fin

/-- A lane may run its next round: it has rounds left, and the set of its last round has ended. -/
def roundReady (s : State) (psa pos : Nat) (x : LaneSoft) : Bool :=
  match x.kind, spiralNo x.spiral with
  | some k, some q => decide (x.rounds < roundLimit s k) && !x.due &&
      (x.rounds == 0 || (match findCw s k psa q pos with
        | some c => !c.due && c.core.isNone
        | none => false))
  | _, _ => true

/-- In its first round a sector whose share of weight-0 samples reaches PREER / 64 is PREERASED (R100); one of a group being
verified counts as FAILED (R136). -/
def preErased (s : State) (d : DetInput) (l : Nat) : Bool :=
  let w0 := ((List.range 40).map (fun f => ((d.frame l f).filter (fun v => wordWeight s v == 0)).length)).sum
  decide (s.fld Reg.DET_HINT 8 7 * 57600 ≤ w0 * 64)

/-- What pre-erasure does to the sector of a lane. -/
def preErase (s : State) (psa pos : Nat) (x : LaneSoft) : State :=
  match x.kind, spiralNo x.spiral with
  | some k, some q =>
    let gi := sectorAt q pos
    let p := psa / 8 * 8 + gi.1
    let s := (s.addSat Reg.DET_CNT 16 16 1).raise pgDET 1
    match k with
    | .fg => setFinal s p gi.2 .preerased
    | .draw => drawGrade s p gi.2 false false 0 0
    | .recovery => s
  | _, _ => s

/-- Some sector of a lane had hinted samples (R111). -/
def noteHinted (s : State) (psa pos : Nat) (d : DetInput) (l : Nat) : State :=
  match (d.lane l).kind, spiralNo (d.lane l).spiral with
  | some .fg, some q =>
    if (d.words.getD l []).any (fun f => f.any sampleHinted) then
      mapStrip s (psa / 8 * 8 + (sectorAt q pos).1) (fun t => { t with hinted := true })
    else s
  | _, _ => s

/-- The lanes after a round: LLRs for those whose sector is open, hard decisions and early place in round 1 (R32, R136). -/
def roundLanes (s : State) (d : DetInput) (p : List (List (List (Int × Int)))) : List LaneSoft :=
  d.lanes.zipIdx.map (fun z =>
    let x := z.1
    if !x.open_ then x
    else if x.rounds = 0 && preErased s d z.2 then { x with rounds := 1, fin := true }
    else
      let r := p.getD z.2 []
      let coded := demapLane r
      let x := { x with rounds := x.rounds + 1, coded := coded, due := true }
      if x.rounds = 1 then
        { x with hard := coded.map (fun v => decide (v < 0)), ident := earlyHeader ((r.headD []).map (fun v => decide (v.1 < 0))) }
      else x)

/-- One round over a position: passes A and B, demapping, pre-erasure, adaptation (R94). Answers the lanes as they stand. -/
def oneRound (s : State) (d : DetInput) : State × List LaneSoft :=
  let round := (d.lanes.foldl (fun m x => max m x.rounds) 0) + 1
  let s := if round = 1 then (List.range 4).foldl (fun s l => noteHinted s d.psa d.pos d l) s else s
  let b := detBoth s d (round == 1)
  let lanes := roundLanes s b.1 b.2
  let s := (d.lanes.zip lanes).foldl (fun s z => if z.1.open_ && z.2.fin then preErase s d.psa d.pos z.2 else s) s
  (adaptAll s b.1 round, lanes)

/-- One round of detection over the position of a working slot, or, from 8 on, of a slot of the deskew ring on which recovery
works (R88 to R91, R94, R100, R108). -/
def detRound (slot : Nat) (s : State) : State :=
  if slot < 8 then match s.rd.work.find? (fun w => w.slot == slot) with
    | none => s
    | some w =>
      if w.tiles < 225 ∨ !w.lanes.any LaneSoft.open_ ∨ !(w.lanes.filter LaneSoft.open_).all (roundReady s w.psa w.pos) then s
      else
        let r := oneRound s ⟨w.psa, w.pos, w.lanes, (List.range 4).map (workWords s w)⟩
        releaseSlotsDone (r.1.setRd { r.1.rd with work := r.1.rd.work.map (fun x => if x.slot = slot then { x with lanes := r.2 } else x) })
  else match s.rd.ring.find? (fun r => r.slot == slot - 8) with
    | none => s
    | some r => match s.rd.groups.find? (fun g => g.psa / 8 % 128 == r.group) with
      | none => s
      | some g =>
        if !r.lanes.any LaneSoft.open_ ∨ !(r.lanes.filter LaneSoft.open_).all (roundReady s g.psa r.pos) then s
        else
          let lanes := r.lanes.zipIdx.map (fun q => ringDecisions r q.2 none q.1)
          let o := oneRound s ⟨g.psa, r.pos, lanes, (List.range 4).map (fun l => ringWords s r l none)⟩
          o.1.setRd { o.1.rd with ring := o.1.rd.ring.map (fun x => if x.slot = slot - 8 then { x with lanes := o.2 } else x) }

/-- DET_ROUND (R94). DET, LDPC and STRP carry their commands out whatever CTRL.EN holds (DESIGN CHOICE, log 113). -/
def execDetRound (slot : Nat) (s : State) : Host.Outcome State Fault Refusal := done s (s.unlessFrozen pgDET (detRound slot))

/-! ## Arming (R102) -/

/-- DET_ARM_TAG commits an arm. Where both refusals apply, code 0x0404 is given; ERR_INFO names no source for either (DESIGN
CHOICE, log 114). -/
def detArm (tag : Word) (s : State) : State :=
  if 2 ≤ s.rd.groups.length then (s.raise pgDET 6).err pgSTRP 0x0404 0
  else if (freeStripSlots s).length < 8 then ((s.raise pgDET 6).raise pgSTRP 2).err pgSTRP 0x0402 0
  else readArm s (s.fld Reg.DET_ARM_PSA 0 25) tag.toNat (s.fld Reg.DET_ARM_CTRL 0 8) (s.bit Reg.DET_ARM_CTRL 8)

/-- DET_ARM (R102). -/
def execDetArm (m : Master) (tag : Word) (s : State) : Host.Outcome State Fault Refusal :=
  done s (regWrite s m Reg.DET_ARM_TAG 4 tag (detArm tag))

/-- STRP_RSA_REL releases slots; a group whose eight are released no longer counts (R102). -/
def slotRelease (v : Word) (s : State) : State := releaseStrips s (fun k => fieldOf v k 1 == 1)

/-- STRP_SLOT_RELEASE (R102). -/
def execStrpSlotRelease (m : Master) (v : Word) (s : State) : Host.Outcome State Fault Refusal :=
  done s (regWrite s m Reg.STRP_RSA_REL 4 v (slotRelease v))

end Sys2Proof.Machine
end

