-- ==== Sys2Proof/Machine/Hdl.lean ====
section
/-! DEFINITION. The meanings of the head control link's commands (R133 to R135, R155). -/
namespace Sys2Proof.Machine

/-- The link stands in FAULT (R135). -/
def hdlFault (s : State) : Bool := s.bit Reg.HDL_FIFO 24

/-- CRC-8 of the top three bytes of a frame (R133). -/
def hdlCrc (w : Word) : Nat := crcBE 8 0x07 0x00 [fieldOf w 24 8, fieldOf w 16 8, fieldOf w 8 8]

/-- A frame carries a good CRC. -/
def hdlGood (w : Word) : Bool := hdlCrc w == fieldOf w 0 8

/-- A command frame of read flag, register address and data (R133). -/
def hdlFrame (rd addr data : Nat) : Word :=
  let w := Word.ofNat (rd % 2 * 2 ^ 31 + addr % 128 * 2 ^ 24 + data % 65536 * 256)
  w + Word.ofNat (hdlCrc w)

/-- Levels of the FIFO and of the responses (R155). -/
def hdlLevels (s : State) : State :=
  (s.setFld Reg.HDL_FIFO 0 5 (min 16 (s.wenc.fifo.length + s.wenc.wsgCmds.length))).setFld Reg.HDL_FIFO 8 5 s.wenc.rsp.length

/-- The next command of the FIFO, WSG's and repeated ones first (R134, R135). -/
def hdlTake (s : State) : Option Word × State :=
  match s.wenc.wsgCmds, s.wenc.fifo with
  | c :: t, _ => (some c, s.setW { s.wenc with wsgCmds := t })
  | [], c :: t => (some c, s.setW { s.wenc with fifo := t })
  | [], [] => (none, s)

/-- The link faults (R135). -/
def hdlFail (s : State) : State :=
  let s := dropGate (s.setBit Reg.HDL_CFG 0 false) 3
  ((s.setBit Reg.HDL_FIFO 24 true).raise pgHDL 1).err pgHDL 0x0903 15

/-- The status of the frame before answers it: a response to a read, a repeat of a FIFO command after a bad CRC (R135). -/
def hdlStatus (s : State) (last : Option Word) (fromFifo : Bool) (status : Word) : State :=
  if hdlGood status then
    let s := s.setFld Reg.HDL_FIFO 16 5 0
    match last with
    | some c =>
      if fromFifo ∧ fieldOf c 31 1 = 1 then
        if s.wenc.rsp.length < 16 then
          let r := Word.ofNat (2 ^ 31 + fieldOf c 24 7 * 2 ^ 24 + fieldOf status 24 8 * 65536 + fieldOf status 8 16)
          (s.setW { s.wenc with rsp := s.wenc.rsp ++ [r] }).raise pgHDL 2
        else s
      else s
    | none => s
  else
    let s := ((s.addSat Reg.HDL_CNT 0 16 1).raise pgHDL 0).err pgHDL 0x0902 15
    let n := s.fld Reg.HDL_FIFO 16 5 + 1
    let s := s.setFld Reg.HDL_FIFO 16 5 (min n 16)
    let s := match last with
      | some c =>
        if fromFifo then (s.setW { s.wenc with wsgCmds := c :: s.wenc.wsgCmds }).addSat Reg.HDL_CNT 16 16 1 else s
      | none => s
    if 16 ≤ n then hdlFail s else s

/-- What a slot sends: the loops in slots 0 and 1 while LPCEN is 1, else the FIFO; the frame, whether it came from the
FIFO, and the state (R134, R167). -/
def hdlSend (s : State) : Option Word × Bool × State :=
  let k := s.wenc.hdlSlot
  if s.bit Reg.HDL_CFG 1 ∧ k < 2 then
    let v := (s.leng.out.getD (4 + k) 0#32).toNat / 65536
    (some (hdlFrame 0 (s.fld Reg.HDL_CFG (8 + 8 * k) 7) v), false, s)
  else
    let r := hdlTake s
    (r.1.map (fun c => hdlFrame (fieldOf c 31 1) (fieldOf c 24 7) (fieldOf c 0 16)), true, r.2)

/-- The FIFO's form of a frame: read flag, address, data in [15:0] (R155). -/
def hdlCommandOf (w : Word) : Word := Word.ofNat (fieldOf w 24 8 * 2 ^ 24 + fieldOf w 8 16)

/-- One frame: it carries a slot's command out and the status of the frame before in. A link in FAULT sends nothing
(R133 to R135). -/
def hdlFrameStep (status : Word) (s : State) : State :=
  if hdlFault s then s
  else
    let last := s.wenc.lastCmd
    let ff := s.wenc.lastFromFifo
    let r := hdlSend s
    let s := r.2.2
    let s := hdlStatus s (last.map hdlCommandOf) ff status
    hdlLevels (s.setW { s.wenc with lastCmd := r.1, lastFromFifo := r.2.1, hdlSlot := (s.wenc.hdlSlot + 1) % 3 })

/-- The status that arrives: a head whose supply V5OUT has switched off on over-current answers no good frame (R267). -/
def hdlStatusIn (s : State) (status : Word) : Word := if s.bit Reg.PWR_RAIL 12 then 0x000000FF#32 else status

/-- HDL_FRAME (R133). -/
def execHdlFrame (status : Word) (s : State) : Host.Outcome State Fault Refusal :=
  done s (s.unlessFrozen pgHDL (hdlFrameStep (hdlStatusIn s status)))

/-- HDL_CMD takes a command into the FIFO, or drops it where it holds 16 (R155). -/
def hdlPush (v : Word) (s : State) : State :=
  if s.wenc.fifo.length + s.wenc.wsgCmds.length < 16 then hdlLevels (s.setW { s.wenc with fifo := s.wenc.fifo ++ [v &&& 0xFF00FFFF#32] })
  else (s.raise pgHDL 3).err pgHDL 0x0904 15

/-- HDL_CMD_WRITE (R155). -/
def execHdlCmdWrite (m : Master) (v : Word) (s : State) : Host.Outcome State Fault Refusal :=
  done s (regWrite s m Reg.HDL_CMD 4 v (fun s' => hdlPush v (s'.setReg Reg.HDL_CMD 0#32)))

/-- HDL_RSP answers the oldest response and removes it, but not for the host (R155, R317). -/
def hdlPop (m : Master) (s : State) : Word × State :=
  match s.wenc.rsp with
  | [] => (0#32, s)
  | r :: t => (r, if m = .hostin then s else hdlLevels (s.setW { s.wenc with rsp := t }))

/-- HDL_RSP_READ (R155). -/
def execHdlRspRead (m : Master) (s : State) : Host.Outcome State Fault Refusal :=
  done s (regReadBy s m Reg.HDL_RSP (hdlPop m))

end Sys2Proof.Machine
end

