-- ==== Sys2Proof/Machine/Leng.lean ====
section
/-! DEFINITION. The meanings of the commands of TICK, LENG, TRC and mortar's third port (R192 to R217). -/
namespace Sys2Proof.Machine

/-! ## Tick -/

/-- TICK_SUP_ACK acknowledges the supervisor tick outstanding (R192). -/
def supAck (v : Word) (s : State) : State := if fieldOf v 0 1 = 1 then s.setL { s.leng with supOut := false } else s

/-- TICK_SUP_ACK (R192). -/
def execTickSupAck (m : Master) (v : Word) (s : State) : Host.Outcome State Fault Refusal :=
  done s (regWrite s m Reg.TICK_SUP_ACK 4 v (supAck v))

/-- TICK_OVERRUN: the computation of the present tick has not ended at its last clock, in program p (R209, R210). -/
def execTickOverrun (p : Nat) (s : State) : Host.Outcome State Fault Refusal :=
  done s (if lengStopped s then s else overrun s s.ticks p)

/-- LENG_STOP: LENG reads an uncorrectable word (R212). -/
def execLengStop (word : Nat) (s : State) : Host.Outcome State Fault Refusal := done s (lengStop s (some word))

/-! ## Checks -/

/-- The enabled programs, in increasing number. -/
def enabledProgs (s : State) : List Nat := (List.range 16).filter (progEn s)

/-- LENG_CMD.RESTART begins the check of every enabled program (R212). -/
def restartGo (v : Word) (s : State) : State := if fieldOf v 0 1 = 1 then setCheck s (some .restart) else s

/-- A write of LENG_CMD. -/
def lengCmdWrite (m : Master) (v : Word) (s : State) : State :=
  regWriteIf s m Reg.LENG_CMD 4 v (fieldOf v 0 1 == 0 || s.leng.check.isNone) (restartGo v)

/-- LENG_RESTART (R212). -/
def execLengRestart (m : Master) (v : Word) (s : State) : Host.Outcome State Fault Refusal := done s (lengCmdWrite m v s)

/-- Installs a program that passed its check, or says that the worst tick is too long (R202, reason 9). -/
def installProg (s : State) (g : Prog) : Nat × State :=
  let l := withProg (s.leng.progs.filter (fun q => !q.stopping)) g
  if s.fld Reg.LENG_CFG 0 9 < worstTick l then (9, s)
  else (0, (setProgs s l).setReg (Reg.LENG_PROG_CYC g.prog) (Word.ofNat (min g.clocks 255)))

/-- One program of a RESTART check: a failing one loses EN; the first failure is reported (R212). -/
def restartOne (acc : Bool × State) (p : Nat) : Bool × State :=
  let q := checkProg acc.2 false p
  let s := q.2.2.2
  let r := if q.1 = 0 then installProg s q.2.2.1 else (q.1, s)
  if r.1 = 0 then (acc.1, r.2)
  else
    let s := dropProg r.2 p
    (true, if acc.1 then s else checkFailed s r.1 p q.2.1)

/-- LENG_RESTART_CHECK_DONE: LENG runs again where every program passed (R212). -/
def restartDone (s : State) : State :=
  if s.leng.check = some .restart then
    let q := (enabledProgs s).foldl restartOne (false, setCheck s none)
    if q.1 then q.2 else causeCleared (q.2.setBit (Reg.STAT pgLENG) 8 false) 6
  else s

/-- LENG_RESTART_CHECK_DONE (R212). -/
def execLengRestartCheckDone (s : State) : Host.Outcome State Fault Refusal := done s (restartDone s)

/-- LENG_PROG_CFG has been written: an enabling write begins the check, a disabling one stops the program at the next
boundary (R202, R203). -/
def progCfgEffect (p : Nat) (oldEn : Bool) (s : State) : State :=
  if !oldEn && progEn s p then setCheck s (some (.prog p))
  else if oldEn && !progEn s p then
    s.setL { s.leng with progs := s.leng.progs.map (fun g => if g.prog = p then { g with stopping := true } else g) }
  else s

/-- A write of LENG_PROG_CFG. -/
def progCfgWrite (m : Master) (p : Nat) (v : Word) (s : State) : State :=
  regWrite s m (Reg.LENG_PROG_CFG p) 4 v (progCfgEffect p (progEn s p))

/-- LENG_PROG_ENABLE (R202). -/
def execLengProgEnable (m : Master) (p : Nat) (v : Word) (s : State) : Host.Outcome State Fault Refusal :=
  done s (progCfgWrite m p v s)

/-- LENG_PROG_DISABLE (R203). -/
def execLengProgDisable (m : Master) (p : Nat) (v : Word) (s : State) : Host.Outcome State Fault Refusal :=
  done s (progCfgWrite m p v s)

/-- The check of program p ends (R202). A program whose EN was cleared meanwhile is left out. -/
def progCheckDone (p : Nat) (s : State) : State :=
  if s.leng.check = some (.prog p) then
    let s := setCheck s none
    if !progEn s p then s
    else
      let q := checkProg s false p
      let r := if q.1 = 0 then installProg q.2.2.2 q.2.2.1 else (q.1, q.2.2.2)
      if r.1 = 0 then r.2.raise pgLENG 3
      else checkFailed (r.2.setBit (Reg.LENG_PROG_CFG p) 0 false) r.1 p q.2.1
  else s

/-- LENG_PROG_CHECK_DONE (R202). -/
def execLengProgCheckDone (p : Nat) (s : State) : Host.Outcome State Fault Refusal := done s (progCheckDone p s)

/-! ## Third port, batch update, shadow -/

/-- LENG_SHADOW.READY, CHK. -/
def shadowReady (s : State) : Bool := s.bit Reg.LENG_SHADOW 0
def shadowChk (s : State) : Bool := s.bit Reg.LENG_SHADOW 3

/-- The third port may write the word (R193, R213). -/
def thirdOk (s : State) (a : Nat) : Bool :=
  decide (0x60 ≤ a) && decide (a < 0xC00) && !descWord s a && !routeOwns s a &&
  !(decide (0x800 ≤ a) && (shadowReady s || shadowChk s))

/-- A write through the third port at a byte address (R193, R430). -/
def thirdWrite (m : Master) (a size : Nat) (v : Word) (s : State) : State :=
  if !mortarGrants s m a .write then aclRefuse s m a 3 .write
  else
    let w := (a - 0x20000000) / 4
    if size ≠ 4 ∨ a % 4 ≠ 0 ∨ !thirdOk s w then (s.raise pgLENG 6).err pgLENG 0x0D05 m.id
    else s.setMort w v

/-- MORTAR_THIRD_PORT_WRITE (R193). -/
def execMortarThirdPortWrite (m : Master) (a size : Nat) (v : Word) (s : State) : Host.Outcome State Fault Refusal :=
  done s (thirdWrite m a size v s)

/-- A mortar word as the third port returns it: an uncorrectable one raw (R194). -/
def thirdWord (s : State) (w : Nat) : Nat :=
  if 0xC00 ≤ w then 0
  else if mortUe s w then (s.mort w).toNat ^^^ (mortMask s w % 4294967296) else (s.mort w).toNat

/-- A read through the third port at a byte address (R193, R194). -/
def thirdRead (m : Master) (a size : Nat) (s : State) : State :=
  if !mortarGrants s m a .read then { aclRefuse s m a 3 .read with resp := ⟨0, false⟩ }
  else
    let off := a - 0x20000000
    let ws := (List.range ((off + size + 3) / 4 - off / 4)).map (off / 4 + ·)
    let bs := ws.flatMap (fun w => bytesLE 4 (thirdWord s w))
    let s := if ws.any (fun w => decide (w < 0xC00) && mortUe s w) then s.err pgLENG 0x0D07 m.id else s
    { s with resp := ⟨leNat ((bs.drop (off % 4)).take size), false⟩ }

/-- MORTAR_THIRD_PORT_READ (R193). -/
def execMortarThirdPortRead (m : Master) (a size : Nat) (s : State) : Host.Outcome State Fault Refusal :=
  done s (thirdRead m a size s)

/-- LENG_UPD_CTRL.GO may be taken: 1 to 16 entries, none pending, all writable (R204). -/
def updOk (s : State) (v : Word) : Bool :=
  let n := fieldOf v 0 5
  fieldOf v 31 1 == 0 ||
    (decide (1 ≤ n) && decide (n ≤ 16) && !s.bit Reg.LENG_UPD_CTRL 31 &&
      (List.range n).all (fun i => thirdOk s (s.fld (Reg.LENG_UPD_ADDR i) 0 12)))

/-- GO takes the entries 0 to COUNT - 1 as they stand; a batch that waits keeps its GO (R204). -/
def updEffect (v : Word) (s : State) : State :=
  if fieldOf v 31 1 = 1 then
    let l := (List.range (fieldOf v 0 5)).map (fun i => (s.fld (Reg.LENG_UPD_ADDR i) 0 12, s.reg (Reg.LENG_UPD_DATA i)))
    (s.setL { s.leng with upd := l }).setBit Reg.LENG_UPD_CTRL 31 true
  else s

/-- A write of LENG_UPD_CTRL. -/
def updWrite (m : Master) (v : Word) (s : State) : State :=
  regWriteIf s m Reg.LENG_UPD_CTRL 4 v (updOk s v) (updEffect v)

/-- LENG_UPD_GO (R204). -/
def execLengUpdGo (m : Master) (v : Word) (s : State) : Host.Outcome State Fault Refusal := done s (updWrite m v s)

/-- No bit written to LENG_SHADOW is refused (R202, R207, R208). -/
def shadowOk (s : State) (v : Word) : Bool :=
  (fieldOf v 0 1 == 0 || shadowReady s || s.leng.check.isNone) &&
  (fieldOf v 1 1 == 0 || !swapSeqRuns s) &&
  (fieldOf v 2 1 == 0 || (shadowReady s && !swapSeqRuns s))

/-- LENG_SHADOW's bits act: READY begins the check, SWAPNOW asks for the swap, UNREADY clears READY (R206 to R208). -/
def shadowEffect (old v : Word) (s : State) : State :=
  let s := s.setReg Reg.LENG_SHADOW old
  let s := if fieldOf v 0 1 = 1 ∧ !shadowReady s then
      (setCheck s (some .shadow)).setBit Reg.LENG_SHADOW 3 true else s
  let s := if fieldOf v 2 1 = 1 then (s.setBit Reg.LENG_SHADOW 2 true).setBit (Reg.STAT pgLENG) 9 true else s
  if fieldOf v 1 1 = 1 then s.setBit Reg.LENG_SHADOW 0 false else s

/-- A write of LENG_SHADOW. -/
def shadowWrite (m : Master) (v : Word) (s : State) : State :=
  regWriteIf s m Reg.LENG_SHADOW 4 v (shadowOk s v) (shadowEffect (s.reg Reg.LENG_SHADOW) v)

/-- LENG_SHADOW_READY (R206). -/
def execLengShadowReady (m : Master) (v : Word) (s : State) : Host.Outcome State Fault Refusal := done s (shadowWrite m v s)
/-- LENG_SHADOW_SWAPNOW (R207). -/
def execLengShadowSwapnow (m : Master) (v : Word) (s : State) : Host.Outcome State Fault Refusal := done s (shadowWrite m v s)
/-- LENG_SHADOW_UNREADY (R208). -/
def execLengShadowUnready (m : Master) (v : Word) (s : State) : Host.Outcome State Fault Refusal := done s (shadowWrite m v s)

/-- Checks the staged programs in turn: the first reason, program and stage, and the programs as staged (R206). -/
def checkShadow : List Nat → State → List Prog → (Nat × Nat × Nat) × List Prog × State
  | [], s, l => ((0, 0, 0), l, s)
  | p :: t, s, l =>
    let q := checkProg s true p
    if q.1 ≠ 0 then ((q.1, p, q.2.1), l, q.2.2.2) else checkShadow t q.2.2.2 (withProg l q.2.2.1)

/-- What the shadow check finds: the first reason, program and stage, reason 0 for none, and the state it leaves (R202, R206). -/
def shadowFinds (s : State) : (Nat × Nat × Nat) × State :=
  let s := (setCheck s none).setBit Reg.LENG_SHADOW 3 false
  let ps := (enabledProgs s).filter (fun p => decide (0x400 ≤ progBase s p))
  let q := checkShadow ps s (s.leng.progs.filter (fun g => !g.stopping))
  (if q.1.1 = 0 ∧ s.fld Reg.LENG_CFG 0 9 < worstTick q.2.1 then (9, ps.headD 0, 0) else q.1, q.2.2)

/-- The shadow check ends (R206). -/
def shadowCheckDone (s : State) : State :=
  if s.leng.check = some .shadow then
    let q := shadowFinds s
    if q.1.1 = 0 then q.2.setBit Reg.LENG_SHADOW 0 true else checkFailed q.2 q.1.1 q.1.2.1 q.1.2.2
  else s

/-- LENG_SHADOW_CHECK_DONE (R206). -/
def execLengShadowCheckDone (s : State) : Host.Outcome State Fault Refusal := done s (shadowCheckDone s)

/-- LENG_EXT_ENABLE (R213). -/
def execLengExtEnable (m : Master) (r : Nat) (v : Word) (s : State) : Host.Outcome State Fault Refusal :=
  done s (regWrite s m (Reg.LENG_EXT_CFG r) 4 v id)

/-- CTRL.SRST of the LENG page (R194). -/
def lengSrst (s : State) : State :=
  let s := match s.leng.check with
    | some (.prog p) => s.setBit (Reg.LENG_PROG_CFG p) 0 false
    | some .shadow => s.setBit Reg.LENG_SHADOW 3 false
    | _ => s
  let s := setCheck (s.setL { s.leng with upd := [] }) none
  let s := s.setBit Reg.LENG_UPD_CTRL 31 false
  let back := [Reg.LENG_CYC, Reg.LENG_CYCPK, Reg.LENG_OVR, Reg.LENG_MERR, Reg.IRQ_RAW pgLENG, Reg.IRQ_STAT pgLENG, Reg.ERR_INFO pgLENG]
  s.dropRegs back.contains

/-! ## Trace -/

/-- Enabling a channel clears its head and arms it (R215). -/
def trcCfgEffect (c : Nat) (oldEn : Bool) (s : State) : State :=
  if !oldEn && trcOn s c then
    let s := (((s.setMort (trcHead c 0) 0#32).setMort (trcHead c 1) 0#32).setMort (trcHead c 2) 0#32).setMort (trcHead c 3) 1#32
    (s.setBit Reg.TRC_DONE c false).setTrc c ⟨0, none, []⟩
  else s

/-- A write of TRC_CH_CFG. -/
def trcCfgWrite (m : Master) (c : Nat) (v : Word) (s : State) : State :=
  regWrite s m (Reg.TRC_CH_CFG c) 4 v (trcCfgEffect c (trcOn s c))

/-- TRC_CH_ENABLE (R214). -/
def execTrcChEnable (m : Master) (c : Nat) (v : Word) (s : State) : Host.Outcome State Fault Refusal :=
  done s (trcCfgWrite m c v s)

/-- TRC_GTRIG triggers the channels named (R216). -/
def trcSoft (v : Word) (s : State) : State :=
  ((List.range 8).filter (fun c => fieldOf v c 1 == 1)).foldl (trcTrigger []) s

/-- TRC_GTRIG (R216). -/
def execTrcGtrig (m : Master) (v : Word) (s : State) : Host.Outcome State Fault Refusal :=
  done s (regWrite s m Reg.TRC_GTRIG 4 v (trcSoft v))

/-- A triggered channel has written its POST samples (R216). -/
def trcDone (c : Nat) (s : State) : State :=
  if trcFlag s c 1 && !trcFlag s c 2 && (s.trc c).post == 0 then trcEnd s c else s

/-- TRC_CH_DONE (R216). -/
def execTrcChDone (c : Nat) (s : State) : Host.Outcome State Fault Refusal := done s (s.unlessFrozen pgTRC (trcDone c))

end Sys2Proof.Machine
end

