-- ==== Sys2Proof/Machine/Pcie.lean ====
section
/-! DEFINITION. The PCI Express endpoint (R311 to R334): link, configuration space, bus mastering, function-level reset,
removal, link power, completions and errors; the controller registers CC and CSTS (R335 to R338). -/
namespace Sys2Proof.Machine

/-! ## Link (R328, R333) -/

/-- The link goes down: to Detect, or to L2 (code 4). -/
def linkDown (s : State) (code : Nat) : State :=
  let s := if s.fld Reg.PCIE_LINK 0 3 = 0 then s else (s.raise pgPCIE 1).addSat Reg.PCIE_CNT1 24 8 1
  let s := (s.setFld Reg.PCIE_LINK 0 3 0).setFld Reg.PCIE_LINK 4 2 0
  let s := (s.setFld (cfgReg 0x70) 16 4 0).setFld (cfgReg 0x70) 20 6 0
  (setLpm s 5 code).setBit (Reg.STAT pgPCIE) 8 false

/-- WAKE# (R330): asserted in L2 while a PME is signalled and enabled; released when the link reaches L0. -/
def wakeAsserted (s : State) : Bool := s.fld Reg.PCIE_LINK 16 3 == 5 && s.bit (cfgReg 0x44) 15 && s.bit (cfgReg 0x44) 8

/-- An interrupt of the pin-based scheme is pending and unmasked (R312, R335): a completion queue with interrupts enabled holds
entries the host has not passed. -/
def pinPending (s : State) : Bool :=
  !s.bit (cfgReg 0x50) 31 && !s.bit (bar0 0x0C) 0 &&
    s.hq.cqs.any (fun q => q.ien && s.fld (Reg.HQ_CQPTR q.id) 0 12 != s.fld (Reg.HQ_CQPTR q.id) 16 12)

/-- INTA (R312). -/
def intaAsserted (s : State) : Bool := pinPending s && !s.bit (cfgReg 0x04) 10

/-! ## What a loss of the link or the function ends (R318, R325) -/

/-- STATE of the BAR2 unlock: 0 LOCKED, 1 CHALLENGED, 2 VERIFYING, 3 UNLOCKED (R318). -/
def unlkState (s : State) : Nat := s.fld (mbx 0x24) 0 2

/-- Sets STATE in the mailbox and in PCIE_B2. -/
def setUnlk (s : State) (n : Nat) : State := (s.setFld (mbx 0x24) 0 2 n).setFld Reg.PCIE_B2 0 2 n

/-- The unlock ends, and one that is asked for is given up (R318). -/
def unlkEnds (s : State) : State := (setUnlk s 0).setPcie { s.pcie with unlk := none, unlkEnd := 0 }

/-- Commands, fetches and data on its way to the host are given up; reads with a tag run out (R9, R325). -/
def abandonHost (s : State) : State :=
  let s := abandonAll s
  syncDma (s.setPcie { s.pcie with reads := s.pcie.reads.filter (fun r => r.tag.isSome), held := [] })

/-- The queues and what NVM Express resets with them (R9, R339, R357): the features return to their defaults. -/
def clearQueues (s : State) : State :=
  let s := s.setHq { s.hq with sqs := [], cqs := [], grants := [], last := 0, credits := [0, 0, 0], masked := [], waiting := [], feats := [], apst := [],
                               ioMade := false, download := false, shut := 0 }
  let s := s.dropRegs (fun a => (decide (Reg.HQ_SQPTR 0 ≤ a) && decide (a ≤ Reg.HQ_SQPTR 64)) ||
    (decide (Reg.HQ_CQPTR 0 ≤ a) && decide (a ≤ Reg.HQ_CQPTR 64)) || (decide (Reg.HQ_QCFG 0 ≤ a) && decide (a ≤ Reg.HQ_QCFG 64)))
  s.setReg Reg.HQ_AE 0#32

/-- A controller reset (R9, R337): commands are abandoned, RDY, CFS and SHST go to 0. CC, AQA, ASQ and ACQ keep their contents
(PRESUMED, as NVM Express has it). -/
def controllerReset (s : State) : State :=
  let s := clearQueues (abandonHost s)
  syncStall ((s.setReg aCSTS 0#32).setReg (bar0 0x0C) 0#32)

/-- Configuration registers a function reset keeps (R325): link settings, sticky AER bits, and the identity that the option
area gives. -/
def cfgKept (a : Nat) : Bool :=
  [0x2C, 0x70, 0x90, 0x104, 0x108, 0x10C, 0x110, 0x114, 0x118, 0x11C, 0x120, 0x124, 0x128, 0x14C, 0x150].contains (a - 0x200000000)

/-- Step 4 of R325: configuration, NVM Express registers, MSI-X table and the BAR2 unlock. -/
def functionReset (s : State) : State :=
  let s := clearQueues s
  let s := s.dropRegs (fun a => (decide (0x100000000 ≤ a) && decide (a < 0x200000000)) ||
    (decide (0x200000000 ≤ a) && decide (a < 0x300000000) && !cfgKept a))
  let s := (s.setBit (Reg.STAT pgPCIE) 9 false).setReg Reg.PCIE_CTO 50000#32
  let s := (s.setBit Reg.DMA_STAT 16 false).setBit (Reg.STAT pgDMA) 8 false
  syncStall (unlkEnds s)

/-! ## Completion timeout (R321, R322) -/

/-- The completion timeout in µs by its encoding (R321). -/
def ctoUs (v : Nat) : Nat :=
  match v with
  | 1 => 100 | 2 => 10000 | 5 => 55000 | 6 => 210000 | 9 => 900000 | 10 => 3500000 | 13 => 13000000 | 14 => 64000000 | _ => 50000

/-- What asked for a read still waits for it. -/
def readWanted (s : State) (r : HostReq) : Bool :=
  match r.what with
  | .sqe g => s.hq.grants.any (fun x => x.id == g)
  | .prp q => (s.ctx q).isSome
  | .data q => (s.ctx q).isSome

/-- Data is not kept while Linnath may issue nothing: by Bus Master Enable, D3hot or a warm reset; after an FLR's step 1 the
read is not re-issued either (R324, R325, R330, R482). -/
def discarding (s : State) : Bool := !mayIssue s

/-- Replaces the read that holds a tag. -/
def State.updRead (s : State) (tag : Nat) (f : HostReq → HostReq) : State :=
  s.setPcie { s.pcie with reads := s.pcie.reads.map (fun r => if r.tag = some tag then f r else r) }

/-- The read that holds a tag is gone. -/
def State.dropRead (s : State) (tag : Nat) : State :=
  s.setPcie { s.pcie with reads := s.pcie.reads.filter (fun r => r.tag != some tag) }

/-- The data of a tag is discarded and the tag free: the read waits for re-issue, unless an FLR runs (R324, R325). -/
def discardTag (s : State) (tag : Nat) : State :=
  if s.fld Reg.PCIE_FLR 0 2 = 0 then syncDma (s.updRead tag (fun r => { r with tag := none, got := [], marked := true }))
  else syncDma (s.dropRead tag)

/-- A request has failed its third attempt (R322, R337). -/
def requestFailed (s : State) (r : HostReq) : State :=
  let s := ((s.raise pgDMA 1).addSat Reg.PCIE_CNT1 16 8 1).err pgDMA 0x1402 15
  let s := (s.setReg Reg.DMA_FAILADDR_LO (Word.ofNat r.addr)).setReg Reg.DMA_FAILADDR_HI (Word.ofNat (r.addr / 2 ^ 32))
  let s := s.err pgPCIE 0x1306 15
  match r.what with
  | .sqe _ => setCfs s
  | .prp q => failCmd s q stDataXfer 0 0
  | .data q => failCmd s q stDataXfer 0 0

/-- A request times out, or counts as having done so (R322, R323). -/
def requestTimeout (s : State) (tag : Nat) (r : HostReq) : State :=
  let s := ((aerLog s 14 true).addSat Reg.PCIE_CNT0 0 8 1).raise pgPCIE 6
  let s := s.err pgPCIE 0x1302 15
  let s := s.report pgPCIE 0x1302 15 (tag :: twoWords r.addr)
  let s := s.setPcie { s.pcie with quar := s.pcie.quar ++ [(tag, false)] }
  if !readWanted s r then issueReads (s.dropRead tag)
  else if 2 ≤ r.tries then issueReads (requestFailed (s.dropRead tag) r)
  else
    let s := s.updRead tag (fun r => { r with tag := none, got := [], tries := r.tries + 1, marked := true })
    issueReads (s.addSat Reg.DMA_REISSUE 16 16 1)

/-- The timer of a tag runs out: while nothing may be issued the tag frees without retry or report (R324). -/
def completionTimeout (tag : Nat) (s : State) : State :=
  match s.pcie.reads.find? (fun r => r.tag == some tag) with
  | none => s
  | some r => if discarding s then discardTag s tag else pump (requestTimeout s tag r)

/-- PCIE_COMPLETION_TIMEOUT (R322). -/
def execPcieCompletionTimeout (tag : Nat) (s : State) : Host.Outcome State Fault Refusal := done s (completionTimeout tag s)

/-- The quarantine of a tag ends (R322, R325). -/
def quarantineEnd (tag : Nat) (s : State) : State :=
  issueReads (s.setPcie { s.pcie with quar := s.pcie.quar.filter (fun q => q.1 != tag) })
/-- TAG_QUARANTINE_END (R322). -/
def execTagQuarantineEnd (tag : Nat) (s : State) : Host.Outcome State Fault Refusal := done s (quarantineEnd tag s)

/-! ## Completions (R323) -/

/-- Bytes of write data, by the blocks they fall in. -/
def stageRun (seq slba : Nat) : Nat → Nat → List Nat → State → State
  | 0, _, _, s => s
  | f + 1, off, bs, s =>
    if bs.isEmpty then s
    else
      let k := 4096 - off % 4096
      stageRun seq slba f (off + k) (bs.drop k) (stageData s seq (slba + off / 4096) (off % 4096) (bs.take k))

/-- Data has arrived whole: entries of a grant, a page of a PRP list, data of a command (R341, R347, R350). -/
def deliver (s : State) (r : HostReq) (bs : List Nat) : State :=
  match r.what with
  | .sqe g => s.setHq { s.hq with grants := s.hq.grants.map (fun x => if x.id = g then { x with got := x.got ++ [(r.off, bs)] } else x) }
  | .prp q => s.updCtx q (fun c => { c with buf := c.buf ++ [(r.off, bs)] })
  | .data q =>
    match s.ctx q with
    | none => s
    | some c =>
      if !c.admin ∧ c.opc = 0x01 then stageRun q c.slba (bs.length + 1) r.off bs s
      else s.updCtx q (fun c => { c with buf := c.buf ++ [(r.off, bs)] })

/-- A completion that nothing waits for (R323); after an FLR's quarantine it is recorded only (R325). -/
def unexpectedCompletion (s : State) (tag : Nat) : State :=
  if s.pcie.quar.contains (tag, true) then s.report pgPCIE 0x1303 15 []
  else
    let s := ((aerLog s 16 true).addSat Reg.PCIE_CNT0 8 8 1).raise pgPCIE 7
    (s.err pgPCIE 0x1303 15).report pgPCIE 0x1303 15 []

/-- A completion arrives: status 0 Successful Completion, 1 Unsupported Request, 2 Request Retry, 4 Completer Abort (R323,
R324). -/
def completion (tag status : Nat) (poison : Bool) (bytes : List Nat) (s : State) : State :=
  match s.pcie.reads.find? (fun r => r.tag == some tag) with
  | none => unexpectedCompletion s tag
  | some r =>
    if status = 2 then s
    else if discarding s then discardTag s tag
    else if poison ∨ status ≠ 0 then
      pump (requestTimeout (if poison then s.addSat Reg.PCIE_CNT0 16 8 1 else s) tag r)
    else
      let got := r.got ++ bytes
      if got.length < r.len then s.updRead tag (fun r => { r with got := got })
      else
        let n := s.pcie.rdRem + r.len
        let s := ((s.dropRead tag).addMod Reg.DMA_RDBYTES 0 32 (n / 256)).setPcie { (s.dropRead tag).pcie with rdRem := n % 256 }
        pump (issueReads (deliver s r (got.take r.len)))

/-- DMA_READ_COMPLETION (R323). -/
def execDmaReadCompletion (tag status : Nat) (poison : Bool) (bytes : List Nat) (s : State) : Host.Outcome State Fault Refusal :=
  done s (completion tag status poison bytes s)

/-! ## Bus mastering (R324, R330) -/

/-- Linnath issues nothing further; HELD shows it (R324, R334). -/
def holdHost (s : State) : State :=
  syncStall (((s.setBit Reg.DMA_STAT 16 true).setBit (Reg.STAT pgDMA) 8 true).raise pgDMA 0)

/-- Linnath issues again: marked reads first, then what was held, in order (R324). -/
def releaseHost (s : State) : State :=
  if !mayIssue s then s
  else
    let n := (s.pcie.reads.filter (fun r => r.marked && r.tag.isNone)).length
    let s := (s.setBit Reg.DMA_STAT 16 false).setBit (Reg.STAT pgDMA) 8 false
    let s := issueReads (s.addSat Reg.DMA_REISSUE 0 16 n)
    let held := s.pcie.held
    let s := held.foldl emitOut (s.setPcie { s.pcie with held := [] })
    pump (sendPendingMsix s)

/-- Bus Master Enable is cleared (R324). -/
def bmeCleared (s : State) : State := holdHost ((s.setBit (Reg.STAT pgPCIE) 9 false).raise pgPCIE 4)
/-- Bus Master Enable is set (R324). -/
def bmeSet (s : State) : State := releaseHost ((s.setBit (Reg.STAT pgPCIE) 9 true).raise pgPCIE 5)

/-! ## Function-level reset (R325) -/

/-- Step 1 of an FLR; a second one during the sequence has no effect. -/
def flrStart (s : State) : State :=
  if s.fld Reg.PCIE_FLR 0 2 ≠ 0 then s
  else
    let s := ((s.setFld Reg.PCIE_FLR 0 2 1).setBit Reg.PCIE_FLR 24 false).setBit Reg.HQ_CTRL 0 false
    let s := ((s.setBit Reg.DMA_STAT 17 true).setBit (Reg.STAT pgDMA) 9 true).raise pgPCIE 3
    syncStall ((s.addSat Reg.PCIE_CNT1 8 8 1).setPcie { s.pcie with flrTick := s.ticks })

/-- Every outstanding tag is quarantined and its read gone; `flr` where late completions are recorded only. -/
def quarantineAll (s : State) (flr : Bool) : State :=
  syncDma (s.setPcie { s.pcie with reads := s.pcie.reads.filter (fun r => r.tag.isNone), quar := s.pcie.quar ++ (tagsOut s).map (fun t => (t, flr)) })

/-- 90 ms after step 1 (R325). -/
def flrTimeout (s : State) : State :=
  if s.fld Reg.PCIE_FLR 0 2 ≠ 1 then s
  else if (tagsOut s).isEmpty then s
  else (quarantineAll s true).setBit Reg.PCIE_FLR 24 true

/-- Steps 3 to 5 (R325), once no tag is outstanding: commands abandoned, function state reset, the wait recorded. -/
def flrFinish (s : State) : State :=
  if s.fld Reg.PCIE_FLR 0 2 ≠ 1 ∨ !(tagsOut s).isEmpty then s
  else
    let w := min 65535 ((s.ticks - s.pcie.flrTick) * 5 / 8 / 100)
    let s := functionReset (abandonHost s)
    let s := ((s.setFld Reg.PCIE_FLR 0 2 0).setFld Reg.PCIE_FLR 8 16 w).setBit Reg.DMA_STAT 17 false
    let s := s.setBit (Reg.STAT pgDMA) 9 false
    pump (s.report pgPCIE (Config.linkRecordCode 0) 15 [w])

/-- FLR_DRAIN_TIMEOUT (R325). -/
def execFlrDrainTimeout (s : State) : Host.Outcome State Fault Refusal := done s (flrTimeout s)
/-- FLR_DRAIN_DONE (R325). -/
def execFlrDrainDone (s : State) : Host.Outcome State Fault Refusal := done s (flrFinish s)

/-! ## PERST# and removal (R326, R327) -/

/-- PERST# is asserted (R326): steps 1 to 4 of R325 without waiting for tags. -/
def perstAssert (s : State) : State :=
  let s := (linkDown s 0).setBit Reg.PCIE_LINK 24 true
  let s := functionReset (abandonHost (s.setBit Reg.HQ_CTRL 0 false))
  let s := syncDma (s.setPcie { s.pcie with reads := [], policy := none })
  pump (((s.setFld Reg.PCIE_FLR 0 2 0).setBit Reg.DMA_STAT 17 false).setBit (Reg.STAT pgDMA) 9 false)
/-- PERST_ASSERT (R326). -/
def execPerstAssert (s : State) : Host.Outcome State Fault Refusal := done s (perstAssert s)

/-- A surprise removal (R327). -/
def surprise (s : State) : State :=
  if s.fld Reg.PCIE_LINK 0 3 = 0 ∨ s.bit Reg.PCIE_LINK 24 then s
  else
    let n := (tagsOut s).length
    let s := (quarantineAll s false).addSat Reg.PCIE_CNT0 0 8 n
    let s := functionReset (abandonHost (linkDown s 0))
    let s := ((s.setFld Reg.PCIE_FLR 0 2 0).setBit Reg.DMA_STAT 17 false).setBit (Reg.STAT pgDMA) 9 false
    let s := ((s.raise pgPCIE 2).addSat Reg.PCIE_CNT1 0 8 1).err pgPCIE 0x1305 15
    pump (s.report pgPCIE 0x1305 15 [])
/-- SURPRISE_REMOVAL (R327). -/
def execSurpriseRemoval (s : State) : Host.Outcome State Fault Refusal := done s (surprise s)

/-- No link after DELAY seconds: the policy is applied (R327). -/
def applyPolicy (s : State) : State :=
  let p := s.fld Reg.PCIE_SURP 0 2
  if s.fld Reg.PCIE_LINK 0 3 ≠ 0 ∨ p = 0 ∨ s.pcie.policy.isSome then s
  else
    let t := if p = 1 then 2 else 4
    let now := s.fld Reg.HQ_PS 0 3
    let s := s.setPcie { s.pcie with policy := some now }
    if t ≤ now then s
    else
      let s := (if p = 1 then [1, 2, 3] else [1, 2, 3, 4, 5]).foldl psDoStep s
      ((s.setFld Reg.HQ_PS 0 3 t).setFld Reg.HQ_PS 4 3 t).setBit Reg.HQ_PS 8 false
/-- SURPRISE_POLICY_TIMEOUT (R327). -/
def execSurprisePolicyTimeout (s : State) : Host.Outcome State Fault Refusal := done s (applyPolicy s)

/-- Linnath returns to the power state it had before the policy (R327). -/
def leavePolicy (s : State) : State :=
  match s.pcie.policy with
  | none => s
  | some p =>
    let s := s.setPcie { s.pcie with policy := none }
    let s := if s.fld Reg.HQ_PS 0 3 = 4 ∧ p ≠ 4 then coresOn s else s
    let s := (s.setFld Reg.HQ_PS 0 3 p).setFld Reg.HQ_PS 4 3 p
    if operational p ∧ spnState s = 6 then spnModeWrite .sup 1#32 s else s

/-- The link comes up (R327, R333): rate 1 to 5, width 1 (×1) or 2 (×2). -/
def linkUp (speed width : Nat) (s : State) : State :=
  if s.bit Reg.PCIE_LINK 24 then s
  else
    let s := (s.setFld Reg.PCIE_LINK 0 3 speed).setFld Reg.PCIE_LINK 4 2 width
    let s := (s.setFld (cfgReg 0x70) 16 4 speed).setFld (cfgReg 0x70) 20 6 width
    releaseHost (pump (leavePolicy (((setLpm s 0 1).setBit (Reg.STAT pgPCIE) 8 true).raise pgPCIE 0)))
/-- PCIE_LINK_UP (R327). -/
def execPcieLinkUp (speed width : Nat) (s : State) : Host.Outcome State Fault Refusal := done s (linkUp speed width s)

/-! ## Configuration space (R312 to R314, R326) -/

/-- Writable bits and write-one-to-clear bits of a configuration word. -/
def cfgMask (off : Nat) : Nat × Nat :=
  match off with
  | 0x04 => (0x0546, 0xF9000000)
  | 0x0C => (0xFF, 0)
  | 0x10 => (0xFFFF0000, 0)
  | 0x14 => (0xFFFFFFFF, 0)
  | 0x18 => (0xFFFC0000, 0)
  | 0x1C => (0xFFFFFFFF, 0)
  | 0x3C => (0xFF, 0)
  | 0x44 => (0x0103, 0x8000)
  | 0x50 => (0xC0000000, 0)
  | 0x68 => (0x79FF, 0xF0000)
  | 0x70 => (0x1CB, 0)
  | 0x88 => (0x140F, 0)
  | 0x90 => (0x1F, 0)
  | 0x104 => (0, 0x0457F030)
  | 0x108 => (0x0457F030, 0)
  | 0x10C => (0x0457F030, 0)
  | 0x110 => (0, 0x71C1)
  | 0x114 => (0x71C1, 0)
  | 0x15C => (0x1FFF1FFF, 0)
  | 0x168 => (0xE3FF000F, 0)
  | 0x16C => (0xFB, 0)
  | 0x200 => (0xFF7F, 0)
  | 0x204 => (0xFF7F, 0)
  | _ => (0, 0)

/-- A word with some of its bytes replaced. -/
def mergeBytes (x : Word) (lo : Nat) (bs : List Nat) : Word :=
  Word.ofNat (leNat ((List.range 4).map (fun i => if lo ≤ i ∧ i < lo + bs.length then bs.getD (i - lo) 0 else x.toNat / 256 ^ i % 256)))

/-- Bits of a word that bytes from `lo` on cover. -/
def bytesMask (lo n : Nat) : Word :=
  Word.ofNat (leNat ((List.range 4).map (fun i => if lo ≤ i ∧ i < lo + n then 255 else 0)))

/-- The new contents of a configuration word; a write of D1 or D2 leaves PowerState (R314). -/
def cfgNew (s : State) (off lo : Nat) (bs : List Nat) : Word :=
  let old := s.reg (cfgReg off)
  let m := cfgMask off
  let v := mergeBytes old lo bs
  let w := (old &&& ~~~(Word.ofNat m.1)) ||| (v &&& Word.ofNat m.1)
  let w := w &&& ~~~(v &&& bytesMask lo bs.length &&& Word.ofNat m.2)
  if off = 0x44 ∧ (fieldOf v 0 2 = 1 ∨ fieldOf v 0 2 = 2) then putField w 0 2 (fieldOf old 0 2) else w

/-- Configuration requests are answered with Request Retry Status (R325, R326). -/
def cfgRetry (s : State) : Bool := s.bit Reg.PCIE_LINK 24 || s.fld Reg.PCIE_FLR 0 2 != 0

/-- A write of the host that is dropped and recorded: one a second per register (R18, R317). -/
def recordDropped (s : State) (a n : Nat) (v : Nat) : State :=
  if secondPassed s.roRecs a s.ticks then
    { s with
      roRecs := setTick s.roRecs a s.ticks
      evr := { s.evr with outbox := s.evr.outbox ++
        [⟨0x1E11, Master.hostin.id, false, 1, bytesLE 4 a ++ bytesLE 4 v ++ bytesLE 4 n⟩] } }
  else s

/-- A configuration word that R312 or R313 lists. -/
def cfgListed (w : Nat) : Bool :=
  [0x00, 0x04, 0x08, 0x0C, 0x10, 0x14, 0x18, 0x1C, 0x20, 0x24, 0x2C, 0x30, 0x34, 0x3C].contains w ||
  ([(0x40, 0x48), (0x50, 0x5C), (0x60, 0x9C), (0x100, 0x154), (0x158, 0x194), (0x198, 0x208)] : List (Nat × Nat)).any
    (fun q => decide (q.1 ≤ w) && decide (w < q.2))

/-- A configuration write that touches read-only bytes alone (R18, R331). -/
def cfgReadOnly (w lo n : Nat) : Bool :=
  cfgListed w && (Word.ofNat ((cfgMask w).1 ||| (cfgMask w).2) &&& bytesMask lo n) == 0#32

/-- A configuration write within one word, and what follows from it: Bus Master Enable, PowerState, the completion timeout,
interrupts unmasked, an FLR (R321, R324, R325, R330). -/
def cfgWrite (off : Nat) (bs : List Nat) (s : State) : State :=
  if cfgRetry s ∨ 4096 ≤ off then s
  else
    let w := off / 4 * 4
    let old := s.reg (cfgReg w)
    let new := cfgNew s w (off % 4) (bs.take (4 - off % 4))
    let s1 := s.setReg (cfgReg w) new
    if cfgReadOnly w (off % 4) bs.length then recordDropped s (cfgReg w) bs.length (leNat (bs.take 4))
    else if w = 0x04 then
      if fieldOf old 2 1 = 1 ∧ fieldOf new 2 1 = 0 then bmeCleared s1
      else if fieldOf old 2 1 = 0 ∧ fieldOf new 2 1 = 1 then bmeSet s1
      else s1
    else if w = 0x44 then
      if fieldOf old 0 2 ≠ 3 ∧ fieldOf new 0 2 = 3 then holdHost s1
      else if fieldOf old 0 2 = 3 ∧ fieldOf new 0 2 ≠ 3 then releaseHost s1
      else s1
    else if w = 0x50 then pump (sendPendingMsix s1)
    else if w = 0x68 then
      if fieldOf (mergeBytes 0#32 (off % 4) bs) 15 1 = 1 then flrStart s1 else issueReads s1
    else if w = 0x88 then issueReads (s1.setReg Reg.PCIE_CTO (Word.ofNat (ctoUs (fieldOf new 0 4))))
    else s1

/-- PCIE_CONFIG_WRITE (R312, R314). -/
def execPcieConfigWrite (off : Nat) (bytes : List Nat) (s : State) : Host.Outcome State Fault Refusal := done s (cfgWrite off bytes s)
/-- PCIE_BME_CLEAR (R324): a write of the Command register. -/
def execPcieBmeClear (v : Word) (s : State) : Host.Outcome State Fault Refusal := done s (cfgWrite 0x04 (bytesLE 2 v.toNat) s)
/-- PCIE_BME_SET (R324): a write of the Command register. -/
def execPcieBmeSet (v : Word) (s : State) : Host.Outcome State Fault Refusal := done s (cfgWrite 0x04 (bytesLE 2 v.toNat) s)
/-- INITIATE_FLR (R325): a write of Device Control. -/
def execInitiateFlr (v : Word) (s : State) : Host.Outcome State Fault Refusal := done s (cfgWrite 0x68 (bytesLE 2 v.toNat) s)
/-- PCIE_D3HOT_ENTRY (R330): a write of the power management status and control register. -/
def execPcieD3hotEntry (v : Word) (s : State) : Host.Outcome State Fault Refusal := done s (cfgWrite 0x44 (bytesLE 2 v.toNat) s)
/-- PCIE_D0_ENTRY (R330): a write of the power management status and control register. -/
def execPcieD0Entry (v : Word) (s : State) : Host.Outcome State Fault Refusal := done s (cfgWrite 0x44 (bytesLE 2 v.toNat) s)

/-! ## Link power and latency (R328 to R330) -/

/-- PME_Turn_Off: the answer goes out and the link enters L2 (R330). -/
def pmeTurnOff (s : State) : State := linkDown (emitOut s .pmeToAck) 4
/-- PME_TURN_OFF (R330). -/
def execPmeTurnOff (s : State) : Host.Outcome State Fault Refusal := done s (pmeTurnOff s)

/-- The transmitter has had nothing to send for L0SIDLE (R328). -/
def l0sEntry (s : State) : State :=
  if s.bit (cfgReg 0x70) 0 ∧ s.bit (Reg.STAT pgPCIE) 8 ∧ s.fld Reg.PCIE_LINK 16 3 = 0 then setLpm s 1 2 else s
/-- PCIE_L0S_ENTRY (R328). -/
def execPcieL0sEntry (s : State) : Host.Outcome State Fault Refusal := done s (l0sEntry s)

/-- Nothing hinders L1 (R328). -/
def l1Quiet (s : State) : Bool :=
  (tagsOut s).isEmpty && s.pcie.held.isEmpty && s.reg (bar0 0x3000) == 0#32 && s.reg (bar0 0x3004) == 0#32 && s.reg (bar0 0x3008) == 0#32

/-- The link has been idle for L1IDLE: L1, and the substate the control register permits (R328). -/
def l1Request (s : State) : State :=
  if s.bit (cfgReg 0x70) 1 ∧ s.bit (Reg.STAT pgPCIE) 8 ∧ s.fld Reg.PCIE_LINK 16 3 ≤ 1 ∧ l1Quiet s then setLpm s (deepestLink s) 3 else s
/-- PCIE_L1_REQUEST (R328). -/
def execPcieL1Request (s : State) : Host.Outcome State Fault Refusal := done s (l1Request s)
/-- PCIE_L1_EXIT (R328). -/
def execPcieL1Exit (s : State) : Host.Outcome State Fault Refusal := done s (linkWake s)

/-- A command is outstanding; an Asynchronous Event Request that waits is none. -/
def cmdsOutstanding (s : State) : Bool := s.hq.ctx.any (fun c => !(c.admin && c.opc == 0x0C))

/-- A latency the host allows, in ns: value and scale (R329). -/
def hostLatency (s : State) (lo : Nat) : Nat := s.fld (cfgReg 0x15C) lo 10 * 2 ^ (5 * s.fld (cfgReg 0x15C) (lo + 10) 3)

/-- The latency that the present condition asks for, in ns (R329). -/
def ltrNow (s : State) : Nat :=
  if 3 ≤ s.fld Reg.HQ_PS 0 3 then 10000000
  else if s.pcie.ltrIdle then s.fld Reg.PCIE_LTR 16 16 * 32000
  else s.fld Reg.PCIE_LTR 0 16 * 1000

/-- An LTR message (R329). -/
def sendLtr (s : State) : State :=
  if s.bit (cfgReg 0x88) 10 then emitOut s (.ltr (min (ltrNow s) (hostLatency s 0)) (min (ltrNow s) (hostLatency s 16))) else s

/-- The condition changes (R329). -/
def ltrChange (s : State) : State :=
  sendLtr (if cmdsOutstanding s then s.setPcie { s.pcie with ltrIdle := false } else s)
/-- LTR_CONDITION_CHANGE (R329). -/
def execLtrConditionChange (s : State) : Host.Outcome State Fault Refusal := done s (ltrChange s)
/-- 1 ms without a command (R329). -/
def ltrTimer (s : State) : State := if cmdsOutstanding s then s else sendLtr (s.setPcie { s.pcie with ltrIdle := true })
/-- LTR_IDLE_TIMER (R329). -/
def execLtrIdleTimer (s : State) : Host.Outcome State Fault Refusal := done s (ltrTimer s)

/-! ## Protocol errors (R331) -/

/-- A correctable error's status bit. -/
def aerCorr (s : State) (b : Nat) : State := (s.setBit (cfgReg 0x110) b true).raise pgPCIE 8

/-- What arrives, by kind: 0 malformed TLP; 1 bad DLLP, 2 bad TLP, 3 replay timeout, 4 replay rollover, 5 receiver error;
6 poisoned write to a BAR; 7 a request R331 does not support; 8 an access outside R316; 9 a completion without a request. -/
def protocolError (kind : Nat) (s : State) : State :=
  let rec_ := fun (s : State) => s.report pgPCIE (Config.linkRecordCode (2 + kind)) 15 []
  match kind with
  | 0 => (((aerLog s 18 false).addSat Reg.PCIE_CNT0 24 8 1).err pgPCIE 0x1304 15).report pgPCIE 0x1304 15 []
  | 1 => rec_ (aerCorr s 7)
  | 2 => rec_ (aerCorr s 6)
  | 3 => rec_ (aerCorr s 12)
  | 4 => rec_ (aerCorr s 8)
  | 5 => rec_ (aerCorr s 0)
  | 6 => rec_ ((aerLog s 12 true).addSat Reg.PCIE_CNT0 16 8 1)
  | 7 => rec_ (aerLog s 20 false)
  | 8 => rec_ (aerLog s 15 false)
  | 9 => unexpectedCompletion s 0x400
  | _ => s
/-- PCIE_PROTOCOL_ERROR (R331). -/
def execPcieProtocolError (kind : Nat) (s : State) : Host.Outcome State Fault Refusal := done s (protocolError kind s)

/-! ## CC (R336 to R338) -/

/-- ASQ and ACQ. -/
def adminBase (s : State) (off : Nat) : Nat := (s.reg (bar0 off)).toNat + (s.reg (bar0 (off + 4))).toNat * 2 ^ 32

/-- The enable check (R336). -/
def enableOk (s : State) : Bool :=
  s.fld aCC 4 3 == 0 && s.fld aCC 7 4 == 0 && decide (s.fld aCC 11 3 ≤ 1) &&
  decide (1 ≤ s.fld (bar0 0x24) 0 12) && decide (1 ≤ s.fld (bar0 0x24) 16 12) &&
  adminBase s 0x28 != 0 && adminBase s 0x30 != 0 && adminBase s 0x28 % 4096 == 0 && adminBase s 0x30 % 4096 == 0

/-- CC.EN goes from 0 to 1 (R336, R339): the admin queues exist and RDY is 1, or CFS is set. -/
def enableCtrl (s : State) : State :=
  if !enableOk s then setCfs s
  else
    let s := s.setHq { s.hq with
      sqs := [⟨0, adminBase s 0x28, s.fld (bar0 0x24) 0 12 + 1, 0, 0⟩]
      cqs := [⟨0, adminBase s 0x30, s.fld (bar0 0x24) 16 12 + 1, 0, true, true⟩] }
    let s := (s.setReg (Reg.HQ_SQPTR 0) 0#32).setReg (Reg.HQ_CQPTR 0) 0#32
    (s.setReg (Reg.HQ_QCFG 0) 3#32).setBit aCSTS 0 true

/-- CC.SHN is written 01b (R338). -/
def shutNormal (s : State) : State :=
  if s.hq.shut ≠ 0 then s else pump ((s.setHq { s.hq with shut := 1 }).setFld aCSTS 2 2 1)
/-- CC.SHN is written 10b (R9, R338). -/
def shutAbrupt (s : State) : State :=
  if 3 ≤ s.hq.shut then s else pump (((abandonHost s).setHq { (abandonHost s).hq with shut := 3 }).setFld aCSTS 2 2 1)

/-- A write of CC: EN, then SHN (R9, R336 to R338). -/
def ccWrite (v : Word) (s : State) : State :=
  let old := s.reg aCC
  let s1 := s.setReg aCC (v &&& 0x00FFFFF1#32)
  if fieldOf old 0 1 = 1 ∧ fieldOf v 0 1 = 0 then pump (controllerReset s1)
  else
    let s2 := if fieldOf old 0 1 = 0 ∧ fieldOf v 0 1 = 1 then syncStall (enableCtrl s1) else s1
    if fieldOf v 14 2 = 1 ∧ fieldOf v 0 1 = 1 then shutNormal s2
    else if fieldOf v 14 2 = 2 ∧ fieldOf v 0 1 = 1 then shutAbrupt s2
    else s2

/-- CC_ENABLE (R336): a write of CC. -/
def execCcEnable (v : Word) (s : State) : Host.Outcome State Fault Refusal := done s (ccWrite v s)
/-- CONTROLLER_RESET (R9): a write of CC. -/
def execControllerReset (v : Word) (s : State) : Host.Outcome State Fault Refusal := done s (ccWrite v s)
/-- CC_SHUTDOWN_NORMAL (R338): a write of CC. -/
def execCcShutdownNormal (v : Word) (s : State) : Host.Outcome State Fault Refusal := done s (ccWrite v s)
/-- CC_SHUTDOWN_ABRUPT (R338): a write of CC. -/
def execCcShutdownAbrupt (v : Word) (s : State) : Host.Outcome State Fault Refusal := done s (ccWrite v s)

/-! ## The unlock mailbox (R318) -/

/-- A challenge holds a word of all ones. -/
def onesWord (c : List Nat) : Bool := (List.range 8).any (fun i => (c.drop (4 * i)).take 4 == [255, 255, 255, 255])

/-- Draws until no word is all ones (R318); `fuel` bounds the draws. -/
def drawUnlock : Nat → State → List Nat × State
  | 0, s => drawChallenge s 0
  | f + 1, s =>
    let r := drawChallenge s 0
    if onesWord r.1 then drawUnlock f r.2 else r

/-- NEWCHAL (R318). -/
def newChal (s : State) : State :=
  let r := drawUnlock 255 s
  (setUnlk (putWords (mbx 0) 8 r.1 r.2) 1).setPcie { r.2.pcie with unlk := none }

/-- The result SUBMIT leads to (R318): range, key, challenge, signature. -/
def unlockResult (s : State) : Nat :=
  let dur := s.fld (mbx 0x28) 0 12
  let pk := regBytes s (mbx 0x100) 488
  let sig := (regBytes s (mbx 0x900) 828).take 3309
  let chal := regBytes s (mbx 0) 8
  let msg := asciiBytes "LNTHUNLK" ++ chal ++ serial s ++ regBytes s (mbx 0x30) 2 ++ regBytes s (mbx 0x28) 1
  if dur < 1 ∨ 3600 < dur then 5
  else if hash256 pk ≠ ownerHash s.shadow then 2
  else if !challengeGood s 0 chal then 4
  else if !Config.mldsaVerify pk msg sig then 3
  else 1

/-- SUBMIT (R318): the challenge is spent, and verification runs; scope and duration are those of the signed message. -/
def unlkSubmit (s : State) : State :=
  if unlkState s = 2 then s
  else
    let n := unlockResult s
    let s := voidChallenge s 0
    (setUnlk s 2).setPcie { s.pcie with
      unlk := some n, unlkScope := (s.reg (mbx 0x30)).toNat + (s.reg (mbx 0x34)).toNat * 2 ^ 32, unlkDur := s.fld (mbx 0x28) 0 12 }

/-- Verification ends (R318): recorded with the scope. -/
def unlkDone (s : State) : State :=
  match s.pcie.unlk with
  | none => s
  | some n =>
    let s := s.setFld (mbx 0x24) 8 4 n
    let s := s.setPcie { s.pcie with unlk := none, unlkEnd := if n = 1 then s.ticks + s.pcie.unlkDur * ticksPerSecond else 0 }
    let s := if n = 1 then (setUnlk s 3).raise pgPCIE 9 else setUnlk s 0
    s.report pgPCIE (Config.linkRecordCode 1) 15 (twoWords s.pcie.unlkScope)

/-- A write of UNLK_CTRL (R318). -/
def unlkCtrl (v : Word) (s : State) : State :=
  let s := if fieldOf v 0 1 = 1 then newChal s else s
  let s := if fieldOf v 1 1 = 1 then unlkSubmit s else s
  if fieldOf v 2 1 = 1 ∧ unlkState s = 3 then unlkEnds s else s

/-- UNLK_DUR has expired (R318). -/
def unlkExpire (s : State) : State := if unlkState s = 3 ∧ s.pcie.unlkEnd ≤ s.ticks then unlkEnds s else s

/-- Seconds left of the unlock (R318, R333). -/
def unlkLeft (s : State) : Nat :=
  if unlkState s = 3 then min 4095 ((s.pcie.unlkEnd - s.ticks + ticksPerSecond - 1) / ticksPerSecond) else 0

/-- UNLK_NEWCHAL (R318). -/
def execUnlkNewchal (v : Word) (s : State) : Host.Outcome State Fault Refusal := done s (unlkCtrl v s)
/-- UNLK_SUBMIT (R318). -/
def execUnlkSubmit (v : Word) (s : State) : Host.Outcome State Fault Refusal := done s (unlkCtrl v s)
/-- UNLK_RELOCK (R318). -/
def execUnlkRelock (v : Word) (s : State) : Host.Outcome State Fault Refusal := done s (unlkCtrl v s)
/-- UNLK_VERIFY_DONE (R318). -/
def execUnlkVerifyDone (s : State) : Host.Outcome State Fault Refusal := done s (unlkDone s)
/-- UNLK_EXPIRY (R318). -/
def execUnlkExpiry (s : State) : Host.Outcome State Fault Refusal := done s (unlkExpire s)

end Sys2Proof.Machine
end

