-- ==== Sys2Proof/Machine/Reset.lean ====
section
/-! DEFINITION. Rails, resets, the boot ROM, watchdogs and core isolation (R268, R269, R477 to R487). -/
namespace Sys2Proof.Machine

abbrev pgSYS : Nat := 0x00
abbrev pgWDT : Nat := 0x23
abbrev pgIRQ : Nat := 0x24
abbrev pgDBG : Nat := 0x27

/-- Replaces the start-up state. -/
def State.setBoot (s : State) (x : Boot) : State := { s with boot := x }
/-- Start-up stands at a phase. -/
def State.setPhase (s : State) (p : BootPhase) : State := s.setBoot { s.boot with phase := p }

/-! ## Watchdogs (R486, R493) -/

/-- Core `w` is isolated (R487). -/
def isolated (s : State) (w : Nat) : Bool := decide (w < 4) && s.bit Reg.WDT_ISO w
/-- STAGE of a watchdog. -/
def wdtStage (s : State) (w : Nat) : Nat := s.fld (Reg.WDT_STAT w) 16 2
/-- A watchdog pauses while its hart is halted under WDTPAUSE (R508), and while its page is frozen (R499). -/
def wdtPaused (s : State) (w : Nat) : Bool := s.frozen pgWDT || (s.bit Reg.DBG_CFG 0 && (s.hart w).halted)

/-- Milliseconds left in the present stage (R493): the count stands from the tick it was set at. -/
def wdtCount (s : State) (w : Nat) : Nat :=
  let c := s.fld (Reg.WDT_STAT w) 0 16
  if wdtPaused s w ∨ (wdtStage s w ≠ 1 ∧ wdtStage s w ≠ 2) then c else c - (s.ticks - s.boot.wdtTick.getD w 0) / 1600

/-- A watchdog's count is set, from now on. -/
def setWdtCount (s : State) (w n : Nat) : State :=
  (s.setFld (Reg.WDT_STAT w) 0 16 n).setBoot { s.boot with wdtTick := s.boot.wdtTick.set w s.ticks }

/-- A watchdog starts a stage with a count. -/
def wdtEnter (s : State) (w stage n : Nat) : State := setWdtCount (s.setFld (Reg.WDT_STAT w) 16 2 stage) w n
/-- Stage 1 from T1 (R486). -/
def wdtStart (s : State) (w : Nat) : State := wdtEnter s w 1 (s.fld (Reg.WDT_TIME w) 0 16)

/-- WDT_CFG was written: a watchdog that is enabled starts stage 1 (R486). -/
def wdtCfgEff (w : Nat) (was : Bool) (s : State) : State := if !was ∧ s.bit (Reg.WDT_CFG w) 0 then wdtStart s w else s

/-! ## Isolation (R487, R494) -/

/-- The harts a source is routed to: isolated cores read 0; a route that names only such goes to SUP (R487, R494). -/
def irqRoute (s : State) (p : Nat) : Nat :=
  let raw := s.fld (Reg.IRQ_ROUTE p) 0 5
  let live := raw &&& (31 - s.fld Reg.WDT_ISO 0 4)
  if raw ≠ 0 ∧ live = 0 then 16 else live

/-- A source's route names only isolated cores (R494). -/
def routeLost (s : State) (p : Nat) : Bool :=
  let raw := s.fld (Reg.IRQ_ROUTE p) 0 5
  raw != 0 && (raw &&& (31 - s.fld Reg.WDT_ISO 0 4)) == 0

/-- The CSRs of a hart. -/
def csrOf (h a : Nat) : Bool := decide (0x400000000 + h * 0x1000 ≤ a) && decide (a < 0x400001000 + h * 0x1000)

/-- A command core is isolated (R487): it is held in reset; a source that is left with no other core goes to SUP. -/
def isolate (s : State) (w : Nat) : State :=
  let before := (List.range 0x29).filter (routeLost s)
  let s := s.updHart w (fun h => { h with run := false, halted := false, reservation := none, trap := none, l1i := [], l1d := [], claimed := [] })
  let s := (s.dropRegs (csrOf w)).setBit Reg.DBG_STAT (8 + w) false
  let s := ((s.setBit Reg.WDT_ISO w true).raise pgWDT 8).err pgWDT 0x1F03 w
  let s := s.report pgWDT 0x1F03 15 []
  let lost := (List.range 0x29).filter (fun p => routeLost s p && !before.contains p)
  lost.foldl (fun s p => (s.raise pgIRQ 0).err pgIRQ 0x2002 p) s

/-! ## Option shadow and keys at a reset (R452, R453) -/

/-- An option word whose program a reset cuts short keeps some of its bits; which is open. -/
def optCut (s : State) : State :=
  match s.opt.prog with
  | none => s
  | some p =>
    let o := s.optWord p.1
    let v := o.v &&& (p.2 ||| Config.cutOption s.fresh)
    { s.setOpt { s.opt with words := SMap.set optErased s.opt.words p.1 ⟨v, o.n + 1⟩, prog := none } with fresh := s.fresh + 1 }

/-- The shadow is loaded, DBG_STAT shows the lock, SEC derives its key (R452, R458, R508). -/
def optReload (s : State) : State :=
  let s := optLoad (optCut s)
  deriveKey (s.setBit Reg.DBG_STAT 1 (s.bit Reg.OPT_SEL 12))

/-! ## Power-on and pin reset (R269, R477, R481) -/

/-- Everything but flash, the option area, the variant, the commands that wait and, at a pin reset, the time is as at reset;
what flash was doing is cut short (R440, R444, R481). -/
def coldState (s : State) (phase : BootPhase) (pin : Bool) : State :=
  let s := optCut (flcReset s)
  { State.reset with
    variant := s.variant
    flash := { s.flash with reads := [], ended := [], scan := .due }
    opt := s.opt
    pwr := { State.reset.pwr with lateNote := s.pwr.lateNote }
    fresh := s.fresh
    resp := s.resp
    pending := s.pending
    ticks := if pin then s.ticks else 0
    boot := { State.reset.boot with phase := phase, pin := pin, restarts := s.boot.restarts, failedRail := s.boot.failedRail }
    regs := if pin then SMap.set (regReset s.variant) State.reset.regs Reg.EVR_POC (s.reg Reg.EVR_POC) else State.reset.regs }

/-- Bank status follows what the banks are (R446). -/
def syncFlc (s : State) : State :=
  let s := syncBank (syncBank s 0) 1
  let s := (s.setBit (Reg.STAT pgFLC) 8 (s.bank 0).failed).setBit (Reg.STAT pgFLC) 9 (s.bank 1).failed
  s.setBit (Reg.STAT pgFLC) 10 (s.flash.scan != .done)

/-- A power-on or pin reset is released (R422, R477): the option shadow, zeroed SRAM, the macro self-test, the identity key;
the scan is due, and a link-skew run is asked for (R301). -/
def resetRelease (macFail : Nat) (s : State) : State :=
  if s.boot.phase ≠ .held then s
  else
    let pin := s.boot.pin
    let rail := s.boot.failedRail
    let poc := s.reg Reg.EVR_POC
    let s := coldState s .released pin
    let s := s.setBoot { s.boot with failedRail := none }
    let s := syncFlc (optReload s)
    let s := evrPowerOn s
    let s := if pin then s.setReg Reg.EVR_POC poc else s
    let s := s.setFld Reg.WDT_RST 0 2 (if pin then 1 else 0)
    let s := s.setBit Reg.CAL_RUN 6 true
    let s := match rail with
      | some r => ((s.raise 0x02 7).err 0x02 0x1106 r).report 0x02 0x1106 15 [r]
      | none => s
    (List.range 10).foldl (fun s k => if macFail.testBit k then failMacro s k else s) s
/-- POWER_ON_RESET_RELEASE (R477). -/
def execPowerOnResetRelease (macFail : Nat) (s : State) : Host.Outcome State Fault Refusal := done s (resetRelease macFail s)

/-- VIN rises past 5.8 V (R268). -/
def vinRise (s : State) : State := if s.boot.phase = .off ∧ s.boot.restarts = 0 ∧ s.boot.failedRail = none then s.setPhase .railsStarting else s
/-- VIN_RISE (R268). -/
def execVinRise (s : State) : Host.Outcome State Fault Refusal := done s (vinRise s)

/-- All rails are in regulation: PGOOD rises (R268, R269). -/
def railsUp (s : State) : State :=
  if s.boot.phase ≠ .railsStarting then s
  else
    let s := (s.setFld Reg.PWR_RAIL 8 4 15).setBit Reg.PWR_RAIL 16 true
    s.setBoot { s.boot with phase := .held, restarts := 0 }
/-- RAILS_IN_REGULATION (R268). -/
def execRailsInRegulation (s : State) : Host.Outcome State Fault Refusal := done s (railsUp s)

/-- Rails off: PGOOD low, everything in power-on reset. -/
def railsOff (s : State) : State :=
  let s := coldState s .off false
  (s.setFld Reg.PWR_RAIL 8 4 0).setBit Reg.PWR_RAIL 16 false

/-- A rail is out of regulation (R269): 0 V5, 1 VANA, 2 VIO, 3 VCORE. A restart that fails counts. -/
def railOut (rail : Nat) (s : State) : State :=
  if s.boot.phase = .off then s
  else
    let n := if s.boot.phase = .railsStarting ∧ s.boot.failedRail.isSome then s.boot.restarts + 1 else s.boot.restarts
    let s := railsOff s
    s.setBoot { s.boot with restarts := n, failedRail := some rail }
/-- RAIL_OUT_OF_REGULATION (R269). -/
def execRailOutOfRegulation (rail : Nat) (s : State) : Host.Outcome State Fault Refusal := done s (railOut rail s)

/-- After 10 ms off the rails restart, but not after three restarts in a row that failed (R269). -/
def railRestart (s : State) : State :=
  if s.boot.phase = .off ∧ s.boot.failedRail.isSome ∧ s.boot.restarts < 3 then s.setPhase .railsStarting else s
/-- RAIL_RESTART (R269). -/
def execRailRestart (s : State) : Host.Outcome State Fault Refusal := done s (railRestart s)

/-- VIN falls below 5.5 V: every rail and power stage is off (R269). -/
def uvloFall (s : State) : State :=
  let s := railsOff s
  s.setBoot { s.boot with restarts := 0, failedRail := none }
/-- UVLO_FALL (R269). -/
def execUvloFall (s : State) : Host.Outcome State Fault Refusal := done s (uvloFall s)

/-- RESET_N low for 1 µs: everything is reset, the rails stay (R481). -/
def pinReset (s : State) : State :=
  if s.boot.phase = .off ∨ s.boot.phase = .railsStarting then s else coldState s .held true
/-- PIN_RESET (R481). -/
def execPinReset (s : State) : Host.Outcome State Fault Refusal := done s (pinReset s)

/-- The system PLL has lost lock for 10 µs: a power-on reset (R504). -/
def pllLoss (s : State) : State :=
  if s.boot.phase = .off ∨ s.boot.phase = .railsStarting then s else coldState s .held false
/-- SYSTEM_PLL_LOSS (R504). -/
def execSystemPllLoss (s : State) : Host.Outcome State Fault Refusal := done s (pllLoss s)

/-! ## Warm reset (R482, R490) -/

/-- Pages that a warm reset returns to their reset values in full: read and write data path, L2C, FLC, SEC, IRQ (R482). -/
def warmPage (p : Nat) : Bool :=
  [0x0A, 0x0B, 0x0C, 0x0D, 0x0E, 0x0F, 0x10, 0x11, 0x12, 0x13, 0x14, 0x1D, 0x1F, 0x21, 0x24].contains p

/-- Registers of XLT and MEDM that show the mounted side, whose tables in SRAM survive (R481, R482). -/
def xltKept (a : Nat) : Bool :=
  [Reg.XLT_LEAF, Reg.XLT_NSZE, Reg.XLT_NUSE, Reg.XLT_NCAP, Reg.XLT_JRNL, Reg.XLT_JSN, Reg.XLT_CKPT_GEN, Reg.XLT_SEQRES_LO,
    Reg.XLT_SEQRES_HI, Reg.MEDM_POOL, Reg.MEDM_WEAR, Reg.STAT pgMEDM].contains a

/-- Registers of the WDT page a warm reset keeps; those of an isolated core's watchdog too (R482, R487). -/
def wdtKept (s : State) (a : Nat) : Bool :=
  [Reg.WDT_RST, Reg.WDT_ISO, Reg.WDT_REJOINPC].contains a ||
    (List.range 4).any (fun w => isolated s w && decide (Reg.WDT_CFG w ≤ a) && decide (a < Reg.WDT_CFG w + 0x40))

/-- A register that a warm reset resets: of these blocks, the level sets of WSG, and the cores' CSRs (R482). -/
def warmDrops (s : State) (a : Nat) : Bool :=
  if isPage a then
    let p := pageOf a
    warmPage p || ((p == pgXLT || p == pgMEDM) && !xltKept a) || (p == pgWDT && !wdtKept s a)
  else decide (0x400000000 ≤ a)

/-- A command after an internal reset (R490): what is done, what has its unit committed, a request that waits for an event and
a clear that SEC has carried out (R7, R472) stay; all else begins again. -/
def requeue (s : State) (c : Ctx) : Ctx :=
  let unit := s.xlt.jr.units.any (fun u => decide (u.what = .host c.seq))
  if c.phase = .done ∨ (c.phase = .latched ∧ unit) ∨ (c.admin ∧ c.opc = 0x0C) ∨ (c.admin ∧ c.opc = 0xC3 ∧ c.step = 2) then c
  else { freshCtx c.seq c.sqid c.cqid c.dws with cid := c.cid }

/-- XLT and MEDM as a reset leaves them: slots, jobs, a running checkpoint and brick resets are gone; units of the journal
mirror that are not durable are programmed again (R386, R482, R490). -/
def xltWarm (s : State) : State :=
  let x := s.xlt
  let pins := s.hq.ctx.filterMap (fun c => if c.pins.isEmpty then none else some (c.seq, c.pins))
  let s := { s with xlt := { x with
    slots := [], job := none, reset := none, gc := false, refresh := [], retire := [], ckpt := none
    base := if x.ckpt.isSome then 0 else x.base, dirty := x.dirty || x.ckpt.isSome
    unpin := x.unpin ++ pins
    remount := x.remount || mounted s
    jr := { x.jr with units := x.jr.units.map (fun (u : JUnit) => { u with given := false }) } } }
  syncCtx (s.setHq { s.hq with ctx := s.hq.ctx.map (requeue s) })

/-- Steps 1 to 5 of a warm reset (R482). -/
def warmSteps (cause : Nat) (s : State) : State :=
  -- step 1: the safe state, the write gate, fetching, WDT_RST
  let s := dropGate (enterSafe s (if cause = 2 then 3 else 2)) 2
  let s := s.setBit Reg.HQ_CTRL 0 false
  let s := ((s.setFld Reg.WDT_RST 0 2 2).setFld Reg.WDT_RST 4 3 cause).addSat Reg.WDT_RST 16 8 1
  let s := (s.setFld Reg.DBG_STAT 8 5 0).setBoot { s.boot with warmAt := s.ticks }
  -- step 2: L2 drained
  let s := l2Flush s
  -- step 3: the blocks named there
  let s := writeAbandon (readAbandon s)
  let s := xltWarm (unlkEnds s)
  let s := flcReset s
  let s := evrAbandon s
  let old := s
  let s := { s.dropRegs (warmDrops s) with rwoDone := s.rwoDone.filter (fun a => !warmPage (pageOf a) && pageOf a != pgXLT && pageOf a != pgMEDM && pageOf a != pgWDT) }
  let s := { s with
    harts := s.harts.map (fun (h : Hart) => { h with run := false, halted := false, reservation := none, trap := none, l1i := [], l1d := [], claimed := [] })
    rd := State.reset.rd
    wenc := { State.reset.wenc with nbrick := old.wenc.nbrick, fifo := old.wenc.fifo, wsgCmds := old.wenc.wsgCmds, rsp := old.wenc.rsp
                                    hdlSlot := old.wenc.hdlSlot, lastCmd := old.wenc.lastCmd, lastFromFifo := old.wenc.lastFromFifo }
    ms := { s.ms with l2 := [], l2rr := [], mopRun := false, drain := false }
    sec := { State.reset.sec with gen := old.sec.gen, fwrev := old.sec.fwrev }
    boot := { s.boot with warm := true } }
  -- steps 4 and 5: the option shadow, the key, and the scan that is due
  syncFlc (optReload s)

/-- A warm reset's cause arrives: during a warm reset only cause 5 is kept, for ENTRY (R482). -/
def warmReset (cause : Nat) (s : State) : State :=
  if s.boot.warm then (if cause = 5 then s.setBoot { s.boot with heldCause5 := true } else s)
  else if s.boot.phase = .running ∨ s.boot.phase = .recovery then warmSteps cause s
  else s

/-- WARM_RESET (R482). -/
def execWarmReset (cause : Nat) (s : State) : Host.Outcome State Fault Refusal := done s (warmReset cause s)
/-- LOCKSTEP_MISMATCH (R409, R482). -/
def execLockstepMismatch (s : State) : Host.Outcome State Fault Refusal := done s (warmReset 2 s)
/-- WDT_WRST (R482, R492): SUP asks for a warm reset with cause 3. -/
def wrstEff (v : Word) (s : State) : State := if fieldOf v 0 1 = 1 then warmReset 3 s else s
/-- WDT_WRST (R482, R492). -/
def execWdtWrst (m : Master) (v : Word) (s : State) : Host.Outcome State Fault Refusal :=
  done s (regWriteIf s m Reg.WDT_WRST 4 v (m == .sup) (wrstEff v))

/-- 60 s without a warm reset (R484). -/
def wcountClear (s : State) : State :=
  if s.boot.warmAt + 60 * ticksPerSecond ≤ s.ticks then s.setFld Reg.WDT_RST 16 8 0 else s
/-- WDT_WCOUNT_CLEAR (R484). -/
def execWdtWcountClear (s : State) : Host.Outcome State Fault Refusal := done s (wcountClear s)

/-- A committed slot's generation is above the running one's (R483). -/
def newerSlot (s : State) : Bool := [0, 1].any (fun k => committed s k && decide (s.sec.gen < slotGen s k))

/-- PERST# is deasserted (R326, R482, R483). -/
def perstDeassert (s : State) : State :=
  if !s.bit Reg.PCIE_LINK 24 then s
  else
    let s := s.setBit Reg.PCIE_LINK 24 false
    if s.boot.warm then warmReset 5 s
    else if s.boot.phase = .running ∧ newerSlot s then warmReset 5 s
    else s
/-- PERST_DEASSERT (R326). -/
def execPerstDeassert (s : State) : Host.Outcome State Fault Refusal := done s (perstDeassert s)

/-! ## The boot ROM (R448, R461, R478, R483 to R485) -/

/-- The slots to try by R448. -/
def coldSlots (s : State) : List Nat :=
  let sel := s.fld Reg.OPT_SEL 0 2
  let l := if sel = 2 then [0] else if sel = 1 then [1] else if slotGen s 0 < slotGen s 1 then [1, 0] else [0, 1]
  let l := if sel = 3 ∧ !committed s 0 then [1] else if sel = 3 ∧ !committed s 1 then [0] else l
  l.filter (committed s)

/-- The slots to try at a warm reset: the one of the last power-on or pin reset, then the other committed one; cause 5
chooses by R448 (R483). -/
def bootSlots (s : State) : List Nat :=
  if !s.boot.warm ∨ s.fld Reg.WDT_RST 4 3 = 5 then coldSlots s
  else
    let k := s.fld Reg.WDT_RST 8 1
    k :: [1 - k].filter (committed s)

/-- The LOAD range of a slot's image touches a failed macro (R483). -/
def loadFailed (s : State) (k : Nat) : Bool :=
  let h := imageHeader s k
  let a := hdrField h 12 4
  let n := hdrField h 28 4
  sramRange a n && decide (1 ≤ n) && (List.range 10).any (fun m => s.bit Reg.MEMC_MACFAIL m && decide (macroOf a ≤ m) && decide (m ≤ macroOf (a + n - 1)))

/-- The step of R461 at which a slot's image fails, 0 where it is good. -/
def bootStep (s : State) (k : Nat) : Nat :=
  if s.bit (Reg.STAT pgOPT) 8 then 1
  else
    let n := imageStep s k
    if n = 0 ∧ loadFailed s k then 5 else n

/-- Tries slots in order; refusals are recorded (R461). At a warm reset a slot that only touches a failed macro is passed over. -/
def trySlots : List Nat → State → Option Nat × State
  | [], s => (none, s)
  | k :: t, s =>
    let n := bootStep s k
    if n = 0 then (some k, s)
    else if s.boot.warm ∧ n = 5 ∧ loadFailed s k ∧ imageStep s k = 0 then trySlots t s
    else trySlots t ((s.err pgSEC 0x1D03 15).report pgSEC 0x1D03 15 [k, n])

/-- The body is copied to LOAD (R461). -/
def copyBody (s : State) (k : Nat) : State :=
  let h := imageHeader s k
  writeWords .sup (hdrField h 28 4 + 1) (hdrField h 12 4) ((flashData s (slotBase k + 8192) (hdrField h 28 4)).getD []) s

/-- The power-on record 0x1E10 (R478, R531). -/
def bootRecord (s : State) (slot : Nat) (recov : Bool) : State :=
  takeRecord s 0x1E10 15 2 false ([s.fld Reg.WDT_RST 0 2, s.fld Reg.WDT_RST 4 3, slot, recov.toNat] ++
    bytesLE 4 (s.reg Reg.SEC_ROMVER).toNat ++ bytesLE 4 s.sec.gen ++ s.sec.fwrev)

/-- At ENTRY of a warm reset: its code is recorded, a capture runs, marked reads are issued again and held data goes out
(R324, R471, R482, R493). -/
def warmEntry (s : State) : State :=
  let s := (s.err pgWDT 0x1F04 15).report pgWDT 0x1F04 15 [s.fld Reg.WDT_RST 4 3]
  pump (seqReserve (releaseHost s))

/-- FLC_BOOT takes what the boot ROM writes, once (R461). -/
def putFlcBoot (w : Word) (s : State) : State :=
  { s.setReg Reg.FLC_BOOT w with rwoDone := Reg.FLC_BOOT :: s.rwoDone.filter (· != Reg.FLC_BOOT) }

/-- Body, generation, digest and FLC_BOOT of the image that runs (R461). -/
def installImage (k : Nat) (s : State) : State :=
  let h := imageHeader s k
  let gen := slotGen s k
  let t := copyBody s k
  putFlcBoot (Word.ofNat (k + gen % 65536 * 65536))
    (putWords (Reg.SEC_IMGDIG 0) 8 ((h.drop 32).take 32) (t.setSec { t.sec with gen := gen, fwrev := (h.drop 20).take 8 }))

/-- The supervisor is out of reset, so safe-state cause 3 holds no longer (R183); its watchdog starts, 0x1E10 is recorded, and
a boot after any reset but power-on captures (R461, R471). -/
def bootNotes (slot : Nat) (recov : Bool) (s : State) : State :=
  let s := causeCleared s 3
  let s := if s.boot.warm then s else journalScan s
  let s := evrRights (bootRecord (wdtStart (s.setBit (Reg.WDT_CFG 4) 0 true) 4) slot recov)
  if s.fld Reg.WDT_RST 0 2 ≠ 0 then captureStart s else s

/-- Every core that is not isolated begins at the entry (R461, R487). -/
def runHarts (entry : Nat) (s : State) : State :=
  let go (q : Hart × Nat) : Hart := if isolated s q.2 then q.1 else { q.1 with run := true, entry := entry }
  { s with harts := s.harts.zipIdx.map go }

/-- The boot ends in a phase; a held cause 5 and a warm reset's ENTRY are seen to (R482). -/
def bootEnd (ph : BootPhase) (s : State) : State :=
  let t := s.setBoot { s.boot with phase := ph, warm := false, heldCause5 := false }
  if s.boot.warm then warmEntry t else t

/-- The jump to ENTRY (R461, R478, R482). -/
def bootEntry (k : Nat) (s : State) : State :=
  let t := installImage k s
  let t := if s.boot.warm then t else t.setFld Reg.WDT_RST 8 1 k
  let t := bootEnd .running (runHarts (hdrField (imageHeader s k) 16 4) (bootNotes k false t))
  if s.boot.heldCause5 ∧ newerSlot t then warmReset 5 t else t

/-- Recovery mode (R484, R485): FLC_BOOT.RECOV, the spindle through BRAKE. -/
def bootRecovery (s : State) : State :=
  let t := bootNotes 0 true (putFlcBoot 2#32 s)
  let t := t.setBoot { t.boot with phase := .recovery, warm := false, heldCause5 := false }
  let t := spnModeWrite .sup 2#32 t
  if s.boot.warm then warmEntry t else t

/-- The boot ROM runs once the steps of a reset have ended, the scan among them (R445, R461, R477, R482). -/
def bootRom (s : State) : State :=
  if s.flash.scan ≠ .done ∨ (!s.boot.warm ∧ s.boot.phase ≠ .released) then s
  else if s.boot.warm ∧ 4 ≤ s.fld Reg.WDT_RST 16 8 then bootRecovery s
  else
    let r := trySlots (bootSlots s) s
    match r.1 with
    | some k => bootEntry k r.2
    | none => bootRecovery r.2
/-- BOOT_ROM_BOOT (R461). -/
def execBootRomBoot (s : State) : Host.Outcome State Fault Refusal := done s (bootRom s)

/-- XLT's table bases are set again after a warm reset: the side is mounted as before, and waiting work goes on (R343, R490). -/
def remount (s : State) : State :=
  if s.xlt.remount ∧ !s.boot.warm ∧ s.reg Reg.XLT_TBL_BASE ≠ 0#32 ∧ s.reg Reg.XLT_IDX_BASE ≠ 0#32 ∧ s.reg Reg.MEDM_BT_BASE ≠ 0#32 then
    let s := (s.setXlt { s.xlt with remount := false }).setBit (Reg.STAT pgXLT) 8 true
    let s := (bricksIn s 3).foldl (fun s n => s.updBrick n (fun b => { b with st := 2 })) s
    let s := (bricksIn s 5).foldl (fun s n => s.updBrick n (fun b => { b with st := 4 })) s
    pump s
  else s

/-! ## Watchdog commands (R486, R487) -/

/-- A kick by its own master (R486). -/
def kickEff (m : Master) (w : Nat) (v : Word) (s : State) : State :=
  if m.id ≠ w then s
  else if v = 0xA5C3#32 then (if wdtStage s w = 1 ∨ wdtStage s w = 2 then wdtStart s w else s)
  else (s.addSat (Reg.WDT_STAT w) 24 8 1).err pgWDT 0x1F05 m.id
/-- WDT_KICK (R486). -/
def execWdtKick (m : Master) (w : Nat) (v : Word) (s : State) : Host.Outcome State Fault Refusal :=
  done s (regWrite s m (Reg.WDT_KICK w) 4 v (kickEff m w v))

/-- Stage 1 ends when its count has reached 0 (R486). -/
def stage1End (w : Nat) (s : State) : State :=
  if wdtStage s w ≠ 1 ∨ wdtPaused s w ∨ wdtCount s w ≠ 0 then s
  else ((wdtEnter s w 2 (s.fld (Reg.WDT_TIME w) 16 16)).raise pgWDT w).err pgWDT 0x1F02 w
/-- WDT_STAGE1_EXPIRY (R486). -/
def execWdtStage1Expiry (w : Nat) (s : State) : Host.Outcome State Fault Refusal := done s (s.unlessFrozen pgWDT (stage1End w))

/-- Stage 2 ends when its count has reached 0: isolation, or for the supervisor a warm reset (R486). -/
def stage2End (w : Nat) (s : State) : State :=
  if wdtStage s w ≠ 2 ∨ wdtPaused s w ∨ wdtCount s w ≠ 0 then s
  else
    let s := wdtEnter s w 3 0
    if w < 4 then isolate s w else warmReset 1 s
/-- WDT_STAGE2_EXPIRY (R486). -/
def execWdtStage2Expiry (w : Nat) (s : State) : Host.Outcome State Fault Refusal := done s (s.unlessFrozen pgWDT (stage2End w))

/-- An isolated core joins again at WDT_REJOINPC (R487). -/
def rejoin (s : State) (w : Nat) : State :=
  let s := s.setBit Reg.WDT_ISO w false
  let s := s.updHart w (fun h => { h with run := true, entry := (s.reg Reg.WDT_REJOINPC).toNat })
  if s.bit (Reg.WDT_CFG w) 0 then wdtStart s w else wdtEnter s w 0 0

/-- The cores a write of WDT_REJOIN names. -/
def rejoinCores (v : Word) : List Nat := (List.range 4).filter (fun w => fieldOf v w 1 == 1)
/-- A write of WDT_REJOIN is taken: by SUP, for isolated cores only (R487, R492). -/
def rejoinOk (s : State) (m : Master) (v : Word) : Bool := m == .sup && (rejoinCores v).all (isolated s)
/-- WDT_REJOIN (R487). -/
def rejoinEff (v : Word) (s : State) : State := (rejoinCores v).foldl rejoin s
/-- WDT_REJOIN (R487). -/
def execWdtRejoin (m : Master) (v : Word) (s : State) : Host.Outcome State Fault Refusal :=
  done s (regWriteIf s m Reg.WDT_REJOIN 4 v (rejoinOk s m v) (rejoinEff v))

end Sys2Proof.Machine
end

