-- ==== Sys2Proof/Machine/Platform.lean ====
section
/-! DEFINITION. Interrupts, the machine timer, GPIO, temperature sensors, the debug port and the clocks (R494, R504, R506 to
R508, R523). -/
namespace Sys2Proof.Machine

abbrev pgGPIO : Nat := 0x25
abbrev pgTSNS : Nat := 0x26

/-! ## Interrupts (R494) -/

/-- A source is pending for hart `h` and unclaimed. -/
def sourceFree (s : State) (h p : Nat) : Bool := sourcePending s h p && !s.harts.any (fun (h : Hart) => h.claimed.contains p)
/-- PRIO of a source. -/
def irqPrio (s : State) (p : Nat) : Nat := s.fld (Reg.IRQ_ROUTE p) 8 3
/-- A source is routed to hart `h`. -/
def routedTo (s : State) (h p : Nat) : Bool := fieldOf (Word.ofNat (irqRoute s p)) h 1 == 1

/-- The source a claim by hart `h` takes: highest priority, the lower number on a tie. -/
def claimPick (s : State) (h : Nat) : Option Nat :=
  let cand := (List.range 0x29).filter (fun p => sourceFree s h p && routedTo s h p && irqPrio s p != 0)
  let top := cand.foldl (fun m p => max m (irqPrio s p)) 0
  cand.find? (fun p => irqPrio s p == top)

/-- IRQ_HSTAT.EIP of hart `h`: the machine external interrupt (R412). -/
def eip (s : State) (h : Nat) : Bool :=
  (List.range 0x29).any (fun p => sourceFree s h p && routedTo s h p && decide (s.fld (Reg.IRQ_THR h) 0 3 < irqPrio s p))

/-- A read of IRQ_CLAIM. -/
def claim (h : Nat) (s : State) : Word × State :=
  match claimPick s h with
  | some p => (Word.ofNat (p + 1), s.updHart h (fun (x : Hart) => { x with claimed := p :: x.claimed }))
  | none => (0#32, s)

/-- IRQ_CLAIM_READ (R494). -/
def execIrqClaimRead (m : Master) (h : Nat) (s : State) : Host.Outcome State Fault Refusal :=
  done s (regReadBy s m (Reg.IRQ_CLAIM h) (claim h))

/-- A completion: the number written leaves the hart's claims; the register holds nothing of its own. -/
def completeEff (h : Nat) (v : Word) (s : State) : State :=
  let s := s.setReg (Reg.IRQ_CLAIM h) 0#32
  if fieldOf v 0 6 = 0 then s
  else s.updHart h (fun (x : Hart) => { x with claimed := x.claimed.filter (· != fieldOf v 0 6 - 1) })

/-- IRQ_COMPLETE (R494). -/
def execIrqComplete (m : Master) (h : Nat) (v : Word) (s : State) : Host.Outcome State Fault Refusal :=
  done s (regWrite s m (Reg.IRQ_CLAIM h) 4 v (completeEff h v))

/-- IRQ_PEND_LO and IRQ_PEND_HI: the sources as they stand. -/
def pendWord (s : State) (base n : Nat) : Word :=
  Word.ofNat (((List.range n).filter (fun k => sourcePending s 0 (base + k))).foldl (fun a k => a + 2 ^ k) 0)

/-- IRQ_HSTAT of a hart: the source it last claimed and still holds, and EIP. -/
def hstatWord (s : State) (h : Nat) : Word :=
  Word.ofNat ((match (s.hart h).claimed with | p :: _ => p + 1 | [] => 0) + (if eip s h then 256 else 0))

/-! ## Machine timer (R412, R504) -/

/-- A write of SYS_MTIMECMP_HI puts both halves into force. -/
def mtimecmpEff (h : Nat) (s : State) : State :=
  let c := (s.reg (Reg.SYS_MTIMECMP_LO h)).toNat + s.fld (Reg.SYS_MTIMECMP_HI h) 0 31 * 2 ^ 32
  s.updHart h (fun (x : Hart) => { x with mtimecmp := c, timerIrq := decide (c ≤ s.mtime) })

/-- MTIMECMP_WRITE (R504). -/
def execMtimecmpWrite (m : Master) (h : Nat) (v : Word) (s : State) : Host.Outcome State Fault Refusal :=
  done s (regWrite s m (Reg.SYS_MTIMECMP_HI h) 4 v (mtimecmpEff h))

/-- MTIME_COMPARE_MATCH (R504): mtime reaches the compare value before the next tick. -/
def mtimeMatch (h : Nat) (s : State) : State :=
  if (s.hart h).mtimecmp ≤ (s.ticks + 1) * 125 / 8 then s.updHart h (fun (x : Hart) => { x with timerIrq := true }) else s
/-- MTIME_COMPARE_MATCH (R504). -/
def execMtimeCompareMatch (h : Nat) (s : State) : Host.Outcome State Fault Refusal := done s (mtimeMatch h s)

/-! ## Clocks (R504, R523) -/

/-- A channel PLL loses lock: its lane goes out of lock and CLKERR is set (R73, R504). -/
def channelPllLoss (l : Nat) (s : State) : State :=
  if !lanePresent s l then s
  else
    let s := ((s.setBit Reg.SYS_CLK (4 + l) false).raise pgSYS 0).err pgSYS 0x2105 l
    if lstate s l = 2 ∨ lstate s l = 3 ∨ lstate s l = 4 then goOut s l else s
/-- CHANNEL_PLL_LOSS (R504). -/
def execChannelPllLoss (l : Nat) (s : State) : Host.Outcome State Fault Refusal := done s (channelPllLoss l s)

/-- CRYSTAL_OUT_OF_TOLERANCE (R523). -/
def execCrystalOutOfTolerance (s : State) : Host.Outcome State Fault Refusal :=
  done s ((s.setBit Reg.SYS_CLK 0 false).err pgSYS 0x2105 15)

/-- FAULT_N is low (R504): by ASSERT, or under AUTO in the safe state, in recovery mode or on a fatal status. -/
def faultNLow (s : State) : Bool :=
  s.bit Reg.SYS_FAULTN 0 || (s.bit Reg.SYS_FAULTN 1 && (s.bit Reg.ACT_SAFE 8 || s.bit Reg.FLC_BOOT 1 || s.bit aCSTS 1))

/-! ## GPIO (R506) -/

/-- The filtered input of pin `n` takes a level. -/
def gpioEdge (n : Nat) (level : Bool) (s : State) : State :=
  if 16 ≤ n ∨ s.bit Reg.GPIO_IN n = level then s
  else
    let s := s.setBit Reg.GPIO_IN n level
    if s.bit (Reg.GPIO_PCFG n) (if level then 0 else 1) then s.raise pgGPIO n else s
/-- GPIO_EDGE (R506). -/
def execGpioEdge (n : Nat) (level : Bool) (s : State) : Host.Outcome State Fault Refusal := done s (s.unlessFrozen pgGPIO (gpioEdge n level))

/-- GPIO_SET acts on GPIO_OUT. -/
def gpioSetEff (v : Word) (s : State) : State := s.setReg Reg.GPIO_OUT (s.reg Reg.GPIO_OUT ||| (v &&& 0xFFFF#32))
/-- GPIO_CLR acts on GPIO_OUT. -/
def gpioClrEff (v : Word) (s : State) : State := s.setReg Reg.GPIO_OUT (s.reg Reg.GPIO_OUT &&& ~~~v)
/-- GPIO_SET (R506). -/
def execGpioSet (m : Master) (v : Word) (s : State) : Host.Outcome State Fault Refusal := done s (regWrite s m Reg.GPIO_SET 4 v (gpioSetEff v))
/-- GPIO_CLR (R506). -/
def execGpioClr (m : Master) (v : Word) (s : State) : Host.Outcome State Fault Refusal := done s (regWrite s m Reg.GPIO_CLR 4 v (gpioClrEff v))

/-! ## Temperature (R507) -/

/-- A reading in 0.125 °C lies in −40 to 150 °C. -/
def tempValid (t : Int) : Bool := decide (-320 ≤ t) && decide (t ≤ 1200)

/-- One sensor's reading: T and VALID, or SENSFAIL. -/
def sensorRead (s : State) (k : Nat) (t : Int) : State :=
  let s := s.setReg (Reg.TSNS_T k) (Word.ofNat (bitsOf 12 t + (if tempValid t then 32768 else 0)))
  if tempValid t then s else (s.raise pgTSNS 3).err pgTSNS 0x2302 k

/-- The sensor with the highest valid reading, the lower number on a tie. -/
def hottest (t : List Int) : Option (Nat × Int) :=
  (t.zipIdx.filter (fun q => tempValid q.1)).foldl (fun b q => match b with
    | some x => if x.2 < q.1 then some (q.2, q.1) else some x
    | none => some (q.2, q.1)) none

/-- HOT, CRIT and COOL, from the maximum before and after, in 0.125 °C. -/
def tempEvents (s : State) (old new : Int) : State :=
  let hot : Int := s.fld Reg.TSNS_CFG 8 8 * 8
  let crit : Int := s.fld Reg.TSNS_CFG 16 8 * 8
  let s := if old ≤ hot ∧ hot < new then (s.raise pgTSNS 0).setBoot { s.boot with hot := true } else s
  let s := if old ≤ crit ∧ crit < new then s.raise pgTSNS 1 else s
  if s.boot.hot ∧ new ≤ hot - 16 then (s.raise pgTSNS 2).setBoot { s.boot with hot := false } else s

/-- The readings of all six sensors are taken. -/
def tsnsConvert (t : List Int) (s : State) : State :=
  let t := (t ++ List.replicate 6 0).take 6
  let was := (List.range 7).map (tempOut s)
  let s := t.zipIdx.foldl (fun s q => sensorRead s q.2 q.1) s
  let s := match hottest t with
    | none => s
    | some b =>
      let old := s.sfld Reg.TSNS_MAX 0 12
      let s := s.setReg Reg.TSNS_MAX (Word.ofNat (bitsOf 12 b.2 + b.1 * 65536))
      let s := if s.sfld Reg.TSNS_PEAK 0 12 < b.2 then s.setReg Reg.TSNS_PEAK (Word.ofNat (bitsOf 12 b.2)) else s
      tempEvents s old b.2
  if (List.range 7).any (fun k => tempOut s k && !was.getD k false) then asyncEvent s 3 1 else s

/-- TSNS_CONVERSION (R507): the readings of sensors 0 to 5 in 0.125 °C. -/
def execTsnsConversion (t : List Int) (s : State) : Host.Outcome State Fault Refusal := done s (s.unlessFrozen pgTSNS (tsnsConvert t))

/-! ## Debug port (R508) -/

/-- A debugger takes the port, or leaves it; both are recorded. -/
def attach (s : State) : State :=
  let s := ((s.setBit Reg.DBG_STAT 0 true).addSat Reg.DBG_CNT 0 16 1).raise pgDBG 0
  s.report pgDBG (Config.debugRecordCode 0) 14 []
/-- A debugger leaves the port. -/
def detach (s : State) : State :=
  ((s.setBit Reg.DBG_STAT 0 false).raise pgDBG 1).report pgDBG (Config.debugRecordCode 1) 14 []
/-- DEBUG_ATTACH (R508). -/
def execDebugAttach (s : State) : Host.Outcome State Fault Refusal := done s (if s.bit Reg.DBG_STAT 0 then s else attach s)
/-- DEBUG_DETACH (R508). -/
def execDebugDetach (s : State) : Host.Outcome State Fault Refusal := done s (if s.bit Reg.DBG_STAT 0 then detach s else s)

/-- The counts of all watchdogs stand as `old` has them, from now on (R493, R508). -/
def keepCounts (old s : State) : State :=
  (List.range 5).foldl (fun s w => if s.fld (Reg.WDT_STAT w) 0 16 = 0 then s else setWdtCount s w (wdtCount old w)) s

/-- A hart halts or runs on. -/
def setHalted (h : Nat) (b : Bool) (s : State) : State :=
  keepCounts s ((s.updHart h (fun (x : Hart) => { x with halted := b })).setBit Reg.DBG_STAT (8 + h) b)

/-- A halted hart holds the write gate low under HALTGATE (R149, R508). -/
def haltGate (s : State) : State := if s.bit Reg.DBG_CFG 1 && s.harts.any (·.halted) then dropGate s 2 else s

/-- The debug module halts a hart; while the debug lock is set the port serves only IDCODE and BYPASS. -/
def debugHalt (h : Nat) (s : State) : State := if s.bit Reg.OPT_SEL 12 ∨ 5 ≤ h ∨ isolated s h then s else haltGate (setHalted h true s)
/-- The debug module resumes a hart. -/
def debugResume (h : Nat) (s : State) : State := if s.bit Reg.OPT_SEL 12 ∨ 5 ≤ h then s else setHalted h false s
/-- DEBUG_HALT (R508). -/
def execDebugHalt (h : Nat) (s : State) : Host.Outcome State Fault Refusal := done s (debugHalt h s)
/-- DEBUG_RESUME (R508). -/
def execDebugResume (h : Nat) (s : State) : Host.Outcome State Fault Refusal := done s (debugResume h s)

end Sys2Proof.Machine
end

