-- ==== Sys2Proof/Machine/Sec.lean ====
section
/-! DEFINITION. The meanings of SEC's commands (R459, R463, R464, R472, R475). -/
namespace Sys2Proof.Machine

/-- Bytes of operands an operation reads at SEC_BUF (R475). -/
def secOperands (s : State) (op : Nat) : Nat :=
  if op = 1 then s.fld Reg.SEC_LEN 0 16 else if op = 2 then 5264 + s.fld Reg.SEC_LEN 0 16 else if op = 5 ∨ op = 6 then 5301 else 0

/-- The fields of an operation are in range (R475). -/
def secFields (s : State) (op : Nat) : Bool :=
  let n := s.fld Reg.SEC_LEN 0 16
  (if op = 1 then decide (1 ≤ n) else if op = 2 then decide (1 ≤ n) && decide (n ≤ 4096) else if op = 3 then idKey s else true) &&
    sramRange (s.reg Reg.SEC_BUF).toNat (max 1 (if op = 3 then 4096 else secOperands s op)) || op == 4 || op == 7

/-- An operation starts: result, step and output are settled now and given at its end (R459, R475). -/
def secStart (op : Nat) (s : State) : State :=
  let s := s.setBit Reg.SEC_CMD 31 true
  let put := fun (s : State) (o : SecOp) => s.setSec { s.sec with run := some o }
  if !secFields s op then
    let s := if op = 5 then voidChallenge s 1 else if op = 6 then voidChallenge s 2 else s
    put s ⟨op, 6, 0, []⟩
  else if op = 3 then put s ⟨op, 0, 0, measNow s ++ attestReport s (regBytes s (Reg.SEC_NONCE 0) 4)⟩
  else if op = 4 then let r := drawChallenge s 1; put r.2 ⟨op, 0, 0, r.1⟩
  else if op = 7 then let r := drawChallenge s 2; put r.2 ⟨op, 0, 0, r.1⟩
  else
    let r := secRead s (s.reg Reg.SEC_BUF).toNat (secOperands s op)
    match r.1 with
    | none =>
      let s := if op = 5 then voidChallenge r.2 1 else if op = 6 then voidChallenge r.2 2 else r.2
      put (s.err pgSEC 0x1D04 Master.sec.id) ⟨op, 8, 0, []⟩
    | some b =>
      let s := r.2
      if op = 1 then put s ⟨op, 0, 0, hash256 b⟩
      else if op = 2 then
        let ok := Config.mldsaVerify (b.take 1952) (b.drop 5264) ((b.drop 1952).take 3309)
        put (if ok then s else s.err pgSEC 0x1D02 15) ⟨op, if ok then 0 else 3, 0, []⟩
      else if op = 5 then
        let q := runClear s b
        put q.2 ⟨op, stepResult q.1, q.1, []⟩
      else
        let res := authResult s b
        let s := voidChallenge s 2
        put (if res = 0 ∨ res = 6 then s else s.err pgSEC 0x1D02 15) ⟨op, res, 0, b.take 36⟩

/-- A write of SEC_CMD: GO with an operation outside 1 to 7, or while one runs, is refused; the latter reports BUSY (R475,
R476). -/
def secCmdWrite (m : Master) (v : Word) (s : State) : State :=
  let go := fieldOf v 31 1 == 1
  let op := fieldOf v 0 4
  let busy := s.bit Reg.SEC_CMD 31
  let was := s.reg Reg.SEC_CMD
  let r := regWriteIf s m Reg.SEC_CMD 4 v (!go || (decide (1 ≤ op) && decide (op ≤ 7) && !busy))
    (fun s => let s := s.setBit Reg.SEC_CMD 31 busy; if go then secStart op s else s)
  if go ∧ busy ∧ judgeWrite s m Reg.SEC_CMD 4 v ≠ .denied then (r.setReg Reg.SEC_CMD was).setFld Reg.SEC_RES 0 4 1 else r

/-- The word that starts an operation. -/
def secGoWord (op : Nat) : Word := Word.ofNat (0x80000000 + op)

/-- SEC_HASH (R475). -/
def execSecHash (m : Master) (s : State) : Host.Outcome State Fault Refusal := done s (secCmdWrite m (secGoWord 1) s)
/-- SEC_VERIFY (R475). -/
def execSecVerify (m : Master) (s : State) : Host.Outcome State Fault Refusal := done s (secCmdWrite m (secGoWord 2) s)
/-- SEC_ATTEST (R463). -/
def execSecAttest (m : Master) (s : State) : Host.Outcome State Fault Refusal := done s (secCmdWrite m (secGoWord 3) s)
/-- SEC_NEWCHAL_1 (R459). -/
def execSecNewchal1 (m : Master) (s : State) : Host.Outcome State Fault Refusal := done s (secCmdWrite m (secGoWord 4) s)
/-- SEC_CLEAR (R472). -/
def execSecClear (m : Master) (s : State) : Host.Outcome State Fault Refusal := done s (secCmdWrite m (secGoWord 5) s)
/-- SEC_AUTHOPT (R464). -/
def execSecAuthopt (m : Master) (s : State) : Host.Outcome State Fault Refusal := done s (secCmdWrite m (secGoWord 6) s)
/-- SEC_NEWCHAL_2 (R459). -/
def execSecNewchal2 (m : Master) (s : State) : Host.Outcome State Fault Refusal := done s (secCmdWrite m (secGoWord 7) s)

/-- What an operation delivers at its end (R459, R462, R463, R464). -/
def secDeliver (s : State) (o : SecOp) : Nat × State :=
  if o.res ≠ 0 then (o.res, s)
  else if o.op = 1 then (0, putWords (Reg.SEC_OUT 0) 8 o.out s)
  else if o.op = 3 then
    let a := (s.reg Reg.SEC_BUF).toNat
    let s := putWords (Reg.SEC_MEAS 0) 8 o.out s
    if sramGrants s .sec a .write && sramGrants s .sec (a + 4095) .write then (0, writeWords .sec 514 a (o.out.drop 32) s)
    else (8, (aclRefuse s .sec a 0 .write).err pgSEC 0x1D04 Master.sec.id)
  else if o.op = 4 then (0, putWords (Reg.SEC_CHAL 0) 8 o.out s)
  else if o.op = 7 then (0, putWords (Reg.SEC_CHAL2 0) 8 o.out s)
  else if o.op = 6 then
    let s := s.setOpt { s.opt with auth := some (leNat (o.out.drop 32), BitVec.ofNat 256 (leNat (o.out.take 32))) }
    (0, authWrite .sec 1#32 s)
  else (0, s)

/-- An operation ends (R475); a clear only once its record stands in flash (R472). -/
def secDone (s : State) : State :=
  match s.sec.run with
  | none => s
  | some o =>
    if o.op = 5 ∧ o.res = 0 ∧ !clearWritten s then s
    else
      let r := secDeliver (s.setSec { s.sec with run := none, waitSeq := if o.op = 5 then none else s.sec.waitSeq }) o
      let s := (r.2.setFld Reg.SEC_RES 0 4 r.1).setFld Reg.SEC_RES 8 4 o.step
      (s.setBit Reg.SEC_CMD 31 false).raise pgSEC (if r.1 = 0 then 0 else 1)

/-- SEC_OP_DONE. -/
def execSecOpDone (s : State) : Host.Outcome State Fault Refusal := done s (secDone s)

/-- A challenge older than 60 s is void; an operation that starts in the clock in which it expires is in time (R13, R459). -/
def challengeExpire (k : Nat) (s : State) : State :=
  match (s.sec.chal.getD k ⟨[], none⟩).drawn with
  | some t => if t + 60 * ticksPerSecond < s.ticks then voidChallenge s k else s
  | none => s
/-- SEC_CHALLENGE_EXPIRY: slot `k` (R459). -/
def execSecChallengeExpiry (k : Nat) (s : State) : Host.Outcome State Fault Refusal := done s (challengeExpire k s)

end Sys2Proof.Machine
end

