-- ==== Sys2Proof/Machine/RegRead.lean ====
section
/-! DEFINITION. What a read of a register page answers and does (R2, R317, R432, R495, R497, R501). -/
namespace Sys2Proof.Machine

/-- TICK_CNT (R218): ticks since power-on reset was released, 48 bits. -/
def tickCnt (s : State) : Nat := s.ticks % 2 ^ 48

/-- The low or high word of a number. -/
def halfOf (hi : Bool) (n : Nat) : Word := Word.ofNat (if hi then n / 2 ^ 32 else n % 2 ^ 32)

/-- Registers of the clocks and of the platform whose contents follow other state (R218, R431, R465, R487, R494, R504,
R508). -/
def livePlatform (s : State) (a : Nat) : Option Word :=
  if a = Reg.SYS_MTIME_LO then some (halfOf false s.mtime)
  else if a = Reg.SYS_MTIME_HI then some (halfOf true s.mtime)
  else if a = Reg.TICK_CNT_LO then some (halfOf false (tickCnt s))
  else if a = Reg.TICK_CNT_HI then some (halfOf true (tickCnt s))
  else if a = Reg.TICK_PH then some (Word.ofNat (Config.tickPhase s.fresh % 500))
  else if a = Reg.EVR_TIME_LO then some (halfOf false s.timeUs)
  else if a = Reg.EVR_TIME_HI then some (halfOf true s.timeUs)
  else if a = Reg.IRQ_PEND_LO then some (pendWord s 0 32)
  else if a = Reg.IRQ_PEND_HI then some (pendWord s 32 9)
  else if a = Reg.DBG_STAT then some (putField (s.reg a) 1 1 (s.fld Reg.OPT_SEL 12 1))
  else if Reg.IRQ_ROUTE 0 ≤ a ∧ a ≤ Reg.IRQ_ROUTE 0x28 then some (s.reg a &&& ~~~(s.reg Reg.WDT_ISO &&& 0xF#32))
  else if Reg.IRQ_THR 0 ≤ a ∧ a < Reg.IRQ_THR 5 then
    let h := (a - Reg.IRQ_THR 0) / 0x40
    if a = Reg.IRQ_CLAIM h then some (match claimPick s h with | some p => Word.ofNat (p + 1) | none => 0#32)
    else if a = Reg.IRQ_HSTAT h then some (hstatWord s h)
    else none
  else none

/-- The spiral one inward or outward of a lane's is read in this pass, or a sector of it is remembered at a position that DET works
on; a lane that DET does not use shows what its taps hold (R90, R106, R114). -/
def xtShown (s : State) (l : Nat) (outward : Bool) : Bool :=
  let q := (lanePlan s l).spiral + (if outward then 1 else -1)
  !(lanePlan s l).used || s.rd.plan.any (fun p => p.used && p.spiral == q) ||
    (match spiralNo q with
      | some n => s.bit Reg.DET_CFG 13 && s.rd.work.any (fun w => (knownSector s w.psa n w.pos).isSome)
      | none => false)

/-- DET_XT_IN and DET_XT_OUT read 0 towards a neighbour that is not read (R90). -/
def xtPeek (s : State) (a : Nat) : Option Word :=
  match (List.range 4).find? (fun l => a == Reg.DET_XT_IN l || a == Reg.DET_XT_OUT l) with
  | some l => some (if xtShown s l (a == Reg.DET_XT_OUT l) then s.reg a else 0#32)
  | none => none

/-- Registers of other blocks whose contents follow other state (R90, R155, R333, R458, R486). -/
def liveBlock (s : State) (a : Nat) : Option Word :=
  if Reg.SEC_IDPK 0 ≤ a ∧ a < Reg.SEC_IDPK 488 then some (Word.ofNat (leNat (((idPk s).drop (a - Reg.SEC_IDPK 0)).take 4)))
  else if a = Reg.PCIE_B2 then some (putField (putField (s.reg a) 0 2 (unlkState s)) 16 12 (unlkLeft s))
  else if a = Reg.HDL_RSP then some (s.wenc.rsp.headD 0#32)
  else if a = Reg.LENG_SHADOW then some (putField (s.reg a) 2 1 (swapPending s).toNat)
  else match (List.range 5).find? (fun w => a == Reg.WDT_STAT w) with
    | some w => some (putField (s.reg a) 0 16 (wdtCount s w))
    | none => xtPeek s a

/-- What a register page shows at an aligned address, with no side effect. -/
def regPeek (s : State) (a : Nat) : Word :=
  if !isPage a then 0#32
  else if absentPart s.variant a then regReset s.variant a
  else if a % 0x1000 = 8 then statNow s (pageOf a)
  else match livePlatform s a with
    | some w => w
    | none => (liveBlock s a).getD (s.reg a)

/-- The two-word values: low word and high word (R497). -/
def latchPairs : List (Nat × Nat) :=
  [(Reg.SYS_MTIME_LO, Reg.SYS_MTIME_HI), (Reg.TICK_CNT_LO, Reg.TICK_CNT_HI), (Reg.FMT_GA_LO, Reg.FMT_GA_HI),
   (Reg.HQ_SEQ_LO, Reg.HQ_SEQ_HI), (Reg.XLT_SEQRES_LO, Reg.XLT_SEQRES_HI), (Reg.EVR_TIME_LO, Reg.EVR_TIME_HI),
   (Reg.DMA_FAILADDR_LO, Reg.DMA_FAILADDR_HI), (Reg.IRQ_PEND_LO, Reg.IRQ_PEND_HI), (Reg.XLT_LK_LBA_LO, Reg.XLT_LK_LBA_HI),
   (Reg.MEMC_PPROT_LO, Reg.MEMC_PPROT_HI), (Reg.OPT_WDATA_LO, Reg.OPT_WDATA_HI)] ++
  (List.range 5).map (fun h => (Reg.SYS_MTIMECMP_LO h, Reg.SYS_MTIMECMP_HI h))

/-- The high word that a low word's read latches. -/
def highOf (a : Nat) : Option Nat := (latchPairs.find? (fun q => q.1 == a)).map (·.2)

/-- A latched high word of a master. -/
def latched (s : State) (m : Master) (a : Nat) : Option Word :=
  (s.latches.find? (fun q => q.1 == m.id && q.2.1 == a)).map (·.2.2)

/-- Forgets a master's latch of a high word. -/
def unlatch (s : State) (m : Master) (a : Nat) : State :=
  { s with latches := s.latches.filter (fun q => !(q.1 == m.id && q.2.1 == a)) }

/-- Reading by this master clears an RC register: the cores and DBG (R501). -/
def clearsRc (m : Master) : Bool := decide (m.id ≤ 4) || m == .dbg

/-- The register clears when it is read. -/
def isRc (a : Nat) : Bool :=
  a % 0x1000 == 0x18 || match descOf a with
    | some d => decide (d.acc = .rc)
    | none => false

/-- What a read does beside answering: RC registers clear, HDL_RSP gives up a response, IRQ_CLAIM claims, a low word latches
its high word, a latched high word is used up, SKEWPK begins again (R84, R155, R494, R497, R501). Reads of the host do nothing (R317). -/
def readEffect (s : State) (m : Master) (a : Nat) : State :=
  if m = .hostin ∨ absentPart s.variant a then s
  else if a = Reg.HDL_RSP then (hdlPop m s).2
  else if a = Reg.TICK_PH then { s with fresh := s.fresh + 1 }
  else if (List.range 4).any (fun l => a == Reg.DSK_LANE_SKEW l) then s.setFld a 16 11 0
  else if isRc a then (if clearsRc m then s.setReg a 0#32 else s)
  else match (List.range 5).find? (fun h => a == Reg.IRQ_CLAIM h) with
    | some h => (claim h s).2
    | none =>
      match highOf a with
      | some hi => let t := unlatch s m hi; { t with latches := (m.id, hi, regPeek s hi) :: t.latches }
      | none => unlatch s m a

/-- A master reads the word at an aligned address of a register page. -/
def readReg (s : State) (m : Master) (a : Nat) : Word × State :=
  ((if m = .hostin then none else latched s m a).getD (seenBy s m a (regPeek s a)), readEffect s m a)

/-- Addresses that exist: memory, mortar, the option shadow, register pages and the unused pages (R495). -/
def mapped (a : Nat) : Bool :=
  let lies := fun (lo hi : Nat) => decide (lo ≤ a) && decide (a ≤ hi)
  lies 0 0xFFFF || lies 0x01000000 0x0103FFFF || lies 0x08000000 0x087FFFFF || inSram a || lies 0x20000000 0x20002FFF ||
    lies 0x30000000 0x30000FFF || lies 0x40000000 0x4003FFFF

/-- A page of registers or an unused page: the latter read 0 and ignore writes (R495). -/
def inPages (a : Nat) : Bool := decide (0x40000000 ≤ a) && decide (a < 0x40040000)

/-- A master reads `n` bytes of one aligned word of the pages (R431, R432, R495, R497). -/
def pageRead (s : State) (m : Master) (a n : Nat) : State :=
  if !isPage a then { s with resp := ⟨0, false⟩ }
  else regReadBy s m (a / 4 * 4) (fun s =>
    let r := readReg s m (a / 4 * 4)
    (Word.ofNat (fieldOf r.1 (8 * (a % 4)) (8 * n)), r.2))

/-- RC_REGISTER_READ (R501). -/
def execRcRegisterRead (m : Master) (a : Nat) (s : State) : Host.Outcome State Fault Refusal := done s (pageRead s m (a / 4 * 4) 4)
/-- LATCHING_LOW_WORD_READ (R497). -/
def execLatchingLowWordRead (m : Master) (a : Nat) (s : State) : Host.Outcome State Fault Refusal := done s (pageRead s m (a / 4 * 4) 4)

/-- An access to an address that does not exist ends with an error response and SYS code 0x2102 (R495). -/
def unmapped (s : State) (m : Master) : State := { s.err pgSYS 0x2102 m.id with resp := ⟨0, true⟩ }
/-- UNMAPPED_ACCESS (R495). -/
def execUnmappedAccess (m : Master) (a : Nat) (s : State) : Host.Outcome State Fault Refusal :=
  done s (if mapped a then s else unmapped s m)

end Sys2Proof.Machine
end

