-- ==== Sys2Proof/Machine/Srst.lean ====
section
/-! DEFINITION. CTRL of a register page: enable, software reset and freeze (R80, R113, R135, R194, R220, R445, R467, R486, R499,
R502). -/
namespace Sys2Proof.Machine

/-- SRST has an effect on a page (R499). -/
def srstPage (p : Nat) : Bool := !([0x00, 0x01, 0x02, 0x1C, 0x1E, 0x20, 0x27] : List Nat).contains p
/-- FREEZE has an effect on a page (R499). -/
def freezePage (p : Nat) : Bool :=
  !([0x00, 0x01, 0x02, 0x03, 0x04, 0x05, 0x07, 0x09, 0x1C, 0x1F, 0x20, 0x21, 0x22, 0x27] : List Nat).contains p

/-- Registers that show what SRST does not touch: WINH_LATCH, which firmware alone clears (R148); GPIO's inputs; the boot's
measurements (R461); what flash and the recorder hold (R454, R467); the link, the mounted side and the contexts in SRAM
(R333, R343, R371, R405); the reset's cause and the isolation (R486). -/
def srstKeeps (p a : Nat) : Bool :=
  let rc := isRc a
  (p == 0x09 && a == Reg.WINH_LATCH) || (p == 0x25 && a == Reg.GPIO_IN) || (p == 0x21 && a != Reg.SEC_RES && decide (0x40 ≤ a % 0x1000)) ||
  (p == 0x22 && !rc && decide (0x40 ≤ a % 0x1000)) || (p == 0x1F && decide (0x40 ≤ a % 0x1000) && !rc) ||
  (p == 0x1A && !rc && decide (a % 0x1000 ≠ 0x0C) && decide (a % 0x1000 ≠ 0x14)) ||
  ((p == 0x17 || p == 0x18 || p == 0x19) && !rc && decide (0x40 ≤ a % 0x1000)) || (p == 0x23 && decide (0x40 ≤ a % 0x1000))

/-- A register of the page returns to its reset value (R499). -/
def srstDrops (p a : Nat) : Bool :=
  isPage a && pageOf a == p && !srstKeeps p a &&
  (let off := a % 0x1000
   if off < 0x40 then off == 8 || off == 0x0C || off == 0x14 || off == 0x18
   else match descOf a with
     | some d => decide (d.acc ≠ .rw) && decide (d.acc ≠ .rwo) && decide (d.acc ≠ .rwh)
     | none => false)

/-- The fields of RW and RWH registers that hardware alone sets return to their reset values. -/
def srstFields (p : Nat) (s : State) : State :=
  let l := (s.regs.map (·.1)).filter (fun a => isPage a && pageOf a == p && !srstKeeps p a && decide (0x40 ≤ a % 0x1000))
  l.foldl (fun s a => match descOf a with
    | some d =>
      if d.acc = .rw ∨ d.acc = .rwh then
        let m := BitVec.ofNat 32 d.rwMask
        s.setReg a ((s.reg a &&& m) ||| (regReset s.variant a &&& ~~~m))
      else s
    | none => s) s

/-- The registers of a page at its SRST. -/
def srstRegs (p : Nat) (s : State) : State := srstFields p (s.dropRegs (srstDrops p))

/-- SRST of a read lane (R80, R293): it begins anew, a FAULT is left at its next clean acquisition. -/
def srstLane (l : Nat) (s : State) : State :=
  let was := lstate s l
  let x := s.lane l
  let s := srstRegs (pgRFL l) s
  let s := s.setLane l { x.idle with retirePend := [], swapDue := none, sparePick := none, outRun := 0,
                                     faultCleared := decide (was = 6) || x.faultCleared, firstAcq := true }
  let md := s.fld (Reg.RFL_MODE l) 0 2
  laneActUpdate (s.setLstate l (if md = 1 ∨ md = 2 then 1 else 0))

/-- SRST of DSK, DET, LDPC and STRP: what each of them has in work is abandoned. -/
def srstRead (p : Nat) (s : State) : State :=
  let s := srstRegs p s
  let s :=
    if p = 0x0E then s.setRd { s.rd with ring := [], ringSeen := none, tiles := none }
    else if p = 0x0F then
      clearPool (s.setRd { s.rd with work := [], groups := [], hintRaw := [[], [], [], []], hintMean := [0, 0, 0, 0] })
    else if p = 0x10 then clearPool s
    else s.setRd { s.rd with groups := [] }
  laneActUpdate (readCounts s)

/-- SRST of WENC, WSG, DRAW and HDL. -/
def srstWrite (p : Nat) (s : State) : State :=
  if p = 0x12 then srstRegs p (wencAbandon s)
  else if p = 0x13 then
    let s := srstRegs p (dropGate s 2)
    s.setW { s.wenc with loadBuf := [], setMask := List.replicate 12 0 }
  else if p = 0x14 then
    let s := srstRegs p (drawAbandon s)
    s.setW { s.wenc with heldRecs := [] }
  else
    let s := srstRegs p s
    s.setW { s.wenc with fifo := [], wsgCmds := [], rsp := [], hdlSlot := 0, lastCmd := none, lastFromFifo := false }

/-- SRST of STP: moves and a park are abandoned, the axes stand where they are. -/
def srstStp (s : State) : State :=
  let s := (srstRegs 0x04 s).setSt { s.stp with groups := List.replicate 2 ⟨[], none⟩, loadBuf := [] }
  (List.range 3).foldl (fun s a =>
    let x := s.axis a
    let off := decide (axMode s a = 0)
    s.setAxis a { x with vel := 0, park := .none, heldTgt := none, limited := false, sel := if off then .off else x.sel,
                         rest := s.ticks }) s

/-- SRST of CAL: glides, a sweep and runs are abandoned. -/
def srstCal (s : State) : State :=
  let s := srstRegs 0x15 s
  s.setCal { State.reset.cal with frac := s.cal.frac }

/-- SRST of the pages of the host side. XLT's tables are in SRAM: its side is mounted again when the bases are written. -/
def srstHost (p : Nat) (s : State) : State :=
  if p = 0x17 then srstRegs p (xltWarm s)
  else if p = 0x18 then
    let s := srstRegs p s
    s.setXlt { s.xlt with job := none, reset := none, gc := false }
  else if p = 0x19 then
    let s := srstRegs p s
    syncStall (s.setHq { s.hq with grants := [], grantNext := 0, credits := [0, 0, 0] })
  else if p = 0x1B then
    let s := srstRegs p s
    syncDma (s.setPcie { s.pcie with reads := s.pcie.reads.filter (fun r => r.tag.isSome), held := [] })
  else srstRegs p s

/-- SRST of the watchdogs (R486): enabled ones restart stage 1, an isolated core's stays expired. -/
def srstWdt (s : State) : State :=
  let s := srstRegs pgWDT s
  (List.range 5).foldl (fun s w =>
    let s := s.setFld (Reg.WDT_STAT w) 24 8 0
    if isolated s w then wdtEnter s w 3 0 else if s.bit (Reg.WDT_CFG w) 0 then wdtStart s w else wdtEnter s w 0 0) s

/-- SRST of EVR (R467): what is not in flash is abandoned and a capture runs; the ring in use and a clear go on. -/
def srstEvr (s : State) : State :=
  let s := evrAbandon s
  let t := srstRegs 0x22 s
  let t := (t.setBit (Reg.STAT 0x22) 8 (inFallback s)).setBit (Reg.STAT 0x22) 9 (s.bit (Reg.STAT 0x22) 9)
  evrRights (captureStart t)

/-- CTRL.SRST of a page. -/
def srst (p : Nat) (s : State) : State :=
  if !srstPage p then s
  else if p = 0x07 then lengSrst s
  else if p = 0x1F then syncFlc (flcReset (srstRegs p s))
  else if p = 0x22 then srstEvr s
  else if p = 0x23 then srstWdt s
  else if 0x0A ≤ p ∧ p ≤ 0x0D then srstLane (p - 0x0A) s
  else if p ∈ [0x0E, 0x0F, 0x10, 0x11] then srstRead p s
  else if p ∈ [0x12, 0x13, 0x14, 0x28] then srstWrite p s
  else if p ∈ [0x17, 0x18, 0x19, 0x1A, 0x1B] then srstHost p s
  else if p = 0x04 then srstStp s
  else if p = 0x15 then srstCal s
  else
    let s := srstRegs p s
    if p = 0x03 then (s.setSpn State.reset.spn).setBit (Reg.STAT 0x02) 15 false
    else if p = 0x05 then s.setSv State.reset.sv
    else if p = 0x08 then s.setL { s.leng with trace := List.replicate 8 ⟨0, none, []⟩ }
    else if p = 0x16 then { s with fmt := State.reset.fmt }
    else if p = 0x1D then s.setMs { s.ms with mopRun := false, drain := false }
    else if p = 0x21 then deriveKey (s.setSec { State.reset.sec with gen := s.sec.gen, fwrev := s.sec.fwrev, ctr := s.sec.ctr })
    else if p = 0x24 then { s with harts := s.harts.map (fun (h : Hart) => { h with claimed := [] }) }
    else if p = 0x26 then s.setBoot { s.boot with hot := false }
    else s

/-! ## Writes of CTRL -/

/-- EN and the block bits of a page's CTRL. -/
def ctrlMask (p : Nat) : Word := if p = 0x1F then 0x101#32 else 1#32

/-- The page's chapter refuses this CTRL word whole: TICK's EN reads 1 (R218, R220), DET needs working slots (R113). -/
def ctrlRefused (s : State) (p : Nat) (v : Word) : Bool :=
  (p == 0x01 && fieldOf v 0 1 == 0) || (p == 0x0F && fieldOf v 0 1 == 1 && s.fld Reg.DET_WS_SLOTS 0 3 == 0)

/-- FREEZE after a write: DBG alone writes it, while the debug lock is open (R431, R499). -/
def freezeBit (s : State) (m : Master) (p : Nat) (v : Word) : Bool :=
  if freezePage p ∧ m = .dbg ∧ !s.bit Reg.OPT_SEL 12 then fieldOf v 2 1 == 1 else s.frozen p

/-- What CTRL holds after a write that its page does not refuse. -/
def ctrlNew (s : State) (m : Master) (p : Nat) (v : Word) : Word :=
  let en := (if s.locked p then s.reg (Reg.CTRL p) else v) &&& ctrlMask p
  if freezeBit s m p v then en ||| 4#32 else en

/-- What follows a new CTRL: a freeze drops the write gate (R149), a thaw lets waiting work go on, lanes follow DSK's EN. -/
def ctrlFollows (p : Nat) (old : State) (s : State) : State :=
  let s := if p = pgWDT ∧ s.frozen p ≠ old.frozen p then keepCounts old s else s
  let s := if s.frozen p && !old.frozen p then dropGate s 2 else s
  let s := if p = pgDSK then laneActUpdate s else s
  if old.frozen p && !s.frozen p then pump s else s

/-- A master writes CTRL of a page (R499, R502). -/
def ctrlWrite (m : Master) (p : Nat) (v : Word) (s : State) : State :=
  if !pageGrants s m p .write then aclRefuse s m (Reg.CTRL p) 2 .write
  else if absentPart s.variant (Reg.CTRL p) then s.err 0 0x2104 m.id
  else if ctrlRefused s p v then s.refuse p m
  else
    let bad := s.locked p && decide ((v ^^^ s.reg (Reg.CTRL p)) &&& ctrlMask p ≠ 0#32)
    let t := ctrlFollows p s (s.setReg (Reg.CTRL p) (ctrlNew s m p v))
    let t := if fieldOf v 1 1 = 1 then srst p t else t
    if bad then t.refuse p m else t

/-- CTRL_SRST (R499). -/
def execCtrlSrst (m : Master) (p : Nat) (v : Word) (s : State) : Host.Outcome State Fault Refusal := done s (ctrlWrite m p v s)
/-- CTRL_FREEZE (R499). -/
def execCtrlFreeze (m : Master) (p : Nat) (v : Word) (s : State) : Host.Outcome State Fault Refusal := done s (ctrlWrite m p v s)
/-- PAGE_LOCK (R502). -/
def execPageLock (m : Master) (p : Nat) (v : Word) (s : State) : Host.Outcome State Fault Refusal :=
  done s (regWrite s m (Reg.LOCK p) 4 v id)

end Sys2Proof.Machine
end

