-- ==== Sys2Proof/Machine/RegisterWrite.lean ====
section
/-! DEFINITION. A master's write of any register of the pages (R14, R18, R497, R502): every register's write, by its address,
with the effect that its own rule gives it. -/
namespace Sys2Proof.Machine

/-- The instance of an array of registers that an address names: `f k` for some k below `n`. -/
def idxOf (f : Nat → Nat) (n a : Nat) : Option Nat := (List.range n).find? (fun k => f k == a)

/-! ## Effects of registers that have no command of their own -/

/-- RFL_MODE was written (R60, R75): a lane put to READ or DRAW is armed, one put to another mode acquires no more. -/
def modeWritten (l : Nat) (s : State) : State :=
  let md := s.fld (Reg.RFL_MODE l) 0 2
  let st := lstate s l
  if st = 6 then s
  else if md = 1 ∨ md = 2 then (if st = 0 then s.setLstate l 1 else s)
  else (s.setLstate l 0).setLane l (s.lane l).idle

/-- FMT_CFG was written: another followed lane clears CONF and BAD (R505). -/
def followWritten (old : Word) (s : State) : State :=
  if fieldOf old 0 2 = s.fld Reg.FMT_CFG 0 2 then s else (s.setFld Reg.FMT_GASTAT 0 8 0).setFld Reg.FMT_GASTAT 8 8 0

/-- DBG_CFG was written: watchdogs pause or run on, the gate follows HALTGATE (R508). -/
def dbgCfgWritten (old s : State) : State := haltGate (keepCounts old s)

/-- HQ_SEQ was written before FETCHEN (R369, R395): XLT reserves ahead of it. -/
def seqWritten (s : State) : State := if mounted s then pump (seqReserve s) else s

/-! ## By page -/

/-- SYS, TICK and PWR. -/
def writeClock (m : Master) (a : Nat) (v : Word) (s : State) : State :=
  match idxOf Reg.SYS_MTIMECMP_HI 5 a with
  | some h => regWrite s m a 4 v (mtimecmpEff h)
  | none =>
    if a = Reg.TICK_SUP_ACK then regWrite s m a 4 v (supAck v)
    else if a = Reg.PWR_CLR then clrWrite m v s
    else if a = Reg.PWR_LG then regWrite s m a 4 v (lgEffect v)
    else if a = Reg.PWR_RAIL then regWrite s m a 4 v (fun t => t.setBit Reg.PWR_RAIL 12 false)
    else regWrite s m a 4 v id

/-- SPN and STP. -/
def writeMotor (m : Master) (a : Nat) (v : Word) (s : State) : State :=
  if a = Reg.SPN_MODE then spnModeWrite m v s
  else if a = Reg.STP_CMD then regWrite s m a 4 v (stpCmd v)
  else if a = Reg.STP_TLOAD_CTRL then regWrite s m a 4 v (tableLoadGo v)
  else match idxOf Reg.STP_Q_PUSH 2 a, idxOf Reg.STP_AX_POS 3 a, idxOf Reg.STP_AX_CFG 3 a, idxOf Reg.STP_AX_CUR 3 a with
    | some g, _, _, _ => regWrite s m a 4 v (stpPush g v)
    | _, some k, _, _ => regWrite s m a 4 v (fun t => axPosWritten k v (t.setReg a (s.reg a)))
    | _, _, some k, _ => regWrite s m a 4 v (axModeWritten k (axMode s k))
    | _, _, _, some k => regWrite s m a 4 v (axUnpark k)
    | _, _, _, _ => regWrite s m a 4 v id

/-- ACT and FMT. -/
def writeServo (m : Master) (a : Nat) (v : Word) (s : State) : State :=
  if a = Reg.ACT_CFG then regWrite s m a 4 v (actCfgEffect (s.reg a))
  else if a = Reg.ACT_SAFE then regWrite s m a 4 v (safeEffect v)
  else if a = Reg.ACT_JMP_CTRL then jmpCtrlWrite m v false s
  else if (idxOf Reg.ACT_BR_STAT 4 a).isSome then regWrite s m a 4 v brStatEffect
  else if a = Reg.FMT_CFG then regWrite s m a 4 v (followWritten (s.reg a))
  else if a = Reg.FMT_DI_CTRL then regWrite s m a 4 v (diCaptureGo m v)
  else regWrite s m a 4 v id

/-- LENG and TRC. -/
def writeLoop (m : Master) (a : Nat) (v : Word) (s : State) : State :=
  if a = Reg.LENG_CMD then lengCmdWrite m v s
  else if a = Reg.LENG_SHADOW then shadowWrite m v s
  else if a = Reg.LENG_UPD_CTRL then updWrite m v s
  else if a = Reg.TRC_GTRIG then regWrite s m a 4 v (trcSoft v)
  else match idxOf Reg.LENG_PROG_CFG 16 a, idxOf Reg.TRC_CH_CFG 8 a with
    | some p, _ => progCfgWrite m p v s
    | _, some c => trcCfgWrite m c v s
    | _, _ => regWrite s m a 4 v id

/-- RFL, DSK, DET, LDPC and STRP. -/
def writeRead (m : Master) (a : Nat) (v : Word) (s : State) : State :=
  if a = Reg.DSK_CFG then regWrite s m a 4 v laneActUpdate
  else if a ∈ [Reg.DSK_RING_SLOTS, Reg.DET_WS_SLOTS, Reg.STRP_RSA_SLOTS] then regWrite s m a 4 v readCounts
  else if a = Reg.DET_ARM_TAG then regWrite s m a 4 v (detArm v)
  else if a = Reg.STRP_RSA_REL then regWrite s m a 4 v (slotRelease v)
  else match idxOf Reg.RFL_MODE 4 a with
    | some l => regWrite s m a 4 v (modeWritten l)
    | none => regWrite s m a 4 v id

/-- WINH, WENC, WSG, DRAW and HDL. -/
def writeWrite (m : Master) (a : Nat) (v : Word) (s : State) : State :=
  if a = Reg.WINH_LATCH then
    regWrite s m a 4 v (fun t => winhClear v (s.reg Reg.WINH_SRC) (t.setReg a (s.reg a)))
  else if a = Reg.WINH_FORCE then regWrite s m a 4 v (fun s => if fieldOf v 0 1 = 1 then winhTrip s 65536 false else s)
  else if a = Reg.WENC_ARM_TAG then regWrite s m a 4 v (fun s => s.unlessFrozen pgWENC (armCommit v))
  else if a = Reg.WENC_PASSGO then regWrite s m a 4 v (fun s => s.unlessFrozen pgWENC passGo)
  else if a = Reg.WENC_ARM_CTRL then regWrite s m a 4 v (armCtrlEffect v false)
  else if a = Reg.WENC_STG_REL then regWrite s m a 4 v (releaseSlots v)
  else if a = Reg.WSG_LOAD_CTRL then regWrite s m a 4 v (fun s => s.unlessFrozen pgWSG (wsgLoadGo v))
  else if a = Reg.WSG_CFG then regWrite s m a 4 v wsgMediaWrite
  else if a = Reg.DRAW_VQ_CONS then regWrite s m a 4 v (vqDrain 2)
  else if a = Reg.HDL_CMD then regWrite s m a 4 v (fun s' => hdlPush v (s'.setReg Reg.HDL_CMD 0#32))
  else regWrite s m a 4 v id

/-- CAL. -/
def writeCal (m : Master) (a : Nat) (v : Word) (s : State) : State :=
  if a = Reg.CAL_TRIG then calTrigWrite m v s
  else if a = Reg.CAL_SWP_CTRL then swpCtrlWrite m v s
  else match idxOf Reg.CAL_MG_CFG 10 a, idxOf Reg.CAL_MG_TGT 10 a with
    | some k, _ => mgCfgWrite m k v s
    | _, some k => regWrite s m a 4 v (mgTgtEffect k)
    | _, _ => regWrite s m a 4 v id

/-- XLT, MEDM, HQ and DMA. -/
def writeHost (m : Master) (a : Nat) (v : Word) (s : State) : State :=
  if a = Reg.XLT_CKPT then regWriteIf s m a 4 v (!(fieldOf v 16 1 == 1 && s.xlt.ckpt.isSome)) (ckptWrite v)
  else if a = Reg.XLT_LK_CTRL then regWrite s m a 4 v (lookupGo v)
  else if a = Reg.MEDM_RST then regWriteIf s m a 4 v (fieldOf v 31 1 == 0 || rstAllowed s v) (rstGo v)
  else if a ∈ [Reg.XLT_TBL_BASE, Reg.XLT_IDX_BASE, Reg.MEDM_BT_BASE] then regWrite s m a 4 v remount
  else if a ∈ [Reg.XLT_CFG, Reg.XLT_MERGE, Reg.MEDM_GC, Reg.MEDM_WL, Reg.MEDM_RET] then regWrite s m a 4 v pump
  else if a = Reg.HQ_CTRL then regWrite s m a 4 v pump
  else if a = Reg.HQ_SEQ_LO ∨ a = Reg.HQ_SEQ_HI then regWrite s m a 4 v seqWritten
  else if a = Reg.DMA_CFG then regWrite s m a 4 v issueReads
  else regWrite s m a 4 v id

/-- MEMC, L2C and ACL. -/
def writeMemory (m : Master) (a : Nat) (v : Word) (s : State) : State :=
  if a = Reg.MEMC_PPROT_LO ∨ a = Reg.MEMC_PPROT_HI then regWrite s m a 4 v ppChanged
  else if a = Reg.L2C_MOP then regWrite s m a 4 v (mopGo m v)
  else if a = Reg.L2C_CTRL then regWrite s m a 4 v (l2CtrlEff (l2On s))
  else if pageOf a = 0x1E then regWrite s m a 4 v evrRights
  else regWrite s m a 4 v id

/-- FLC, OPT, SEC and EVR; an instruction that writes FLC_B_CMD is taken not to be fetched from that bank. -/
def writeTrust (m : Master) (a : Nat) (v : Word) (s : State) : State :=
  if a = Reg.OPT_CMD then optCmdWrite m v s
  else if a = Reg.OPT_AUTH then authWrite m v s
  else if a = Reg.SEC_CMD then secCmdWrite m v s
  else if a = Reg.EVR_WR then wrWrite m v s
  else if a = Reg.EVR_CFG ∨ a = Reg.EVR_PFR_BASE then regWrite s m a 4 v evrRights
  else match idxOf Reg.FLC_B_CMD 2 a with
    | some b => flcCmdWrite m b v false s
    | none => regWrite s m a 4 v id

/-- WDT, IRQ, GPIO, TSNS and DBG. -/
def writePlatform (m : Master) (a : Nat) (v : Word) (s : State) : State :=
  if a = Reg.WDT_REJOIN then regWriteIf s m a 4 v (rejoinOk s m v) (rejoinEff v)
  else if a = Reg.WDT_WRST then regWriteIf s m a 4 v (m == .sup) (wrstEff v)
  else if a = Reg.GPIO_SET then regWrite s m a 4 v (gpioSetEff v)
  else if a = Reg.GPIO_CLR then regWrite s m a 4 v (gpioClrEff v)
  else if a = Reg.DBG_CFG then regWrite s m a 4 v (dbgCfgWritten s)
  else match idxOf Reg.WDT_KICK 5 a, idxOf Reg.WDT_CFG 5 a, idxOf Reg.IRQ_CLAIM 5 a with
    | some w, _, _ => regWrite s m a 4 v (kickEff m w v)
    | _, some w, _ => regWrite s m a 4 v (wdtCfgEff w (s.bit a 0))
    | _, _, some h => regWrite s m a 4 v (completeEff h v)
    | _, _, _ => regWrite s m a 4 v id

/-- An own register of a page, by the page. -/
def writeOwn (m : Master) (a : Nat) (v : Word) (s : State) : State :=
  let p := pageOf a
  if p ≤ 2 then writeClock m a v s
  else if p = 3 ∨ p = 4 then writeMotor m a v s
  else if p = 5 ∨ p = 0x16 then writeServo m a v s
  else if p = 7 ∨ p = 8 then writeLoop m a v s
  else if 0x0A ≤ p ∧ p ≤ 0x11 then writeRead m a v s
  else if p = 9 ∨ (0x12 ≤ p ∧ p ≤ 0x14) ∨ p = 0x28 then writeWrite m a v s
  else if p = 0x15 then writeCal m a v s
  else if p = 0x17 ∨ p = 0x18 ∨ p = 0x19 ∨ p = 0x1B then writeHost m a v s
  else if 0x1C ≤ p ∧ p ≤ 0x1E then writeMemory m a v s
  else if 0x1F ≤ p ∧ p ≤ 0x22 then writeTrust m a v s
  else if 0x23 ≤ p then writePlatform m a v s
  else regWrite s m a 4 v id

/-- A master writes `size` bytes at an address of the pages. -/
def pageWrite (m : Master) (a size : Nat) (v : Word) (s : State) : State :=
  if !isPage a then s
  else if size ≠ 4 ∨ a % 4 ≠ 0 then regWrite s m a size v id
  else if a % 0x1000 = 4 then ctrlWrite m (pageOf a) v s
  else if (glidedOfTarget a).isSome then targetWrite m a v false s
  else writeOwn m a v s

/-- The CSR lncfg of a command core (R413), written by the hart itself. -/
def lncfgAddr (h : Nat) : Nat := 0x400000000 + h * 0x1000 + 0x7C0

/-- A write of a register: of the pages, or of a hart's lncfg by that hart. -/
def registerWrite (m : Master) (a size : Nat) (v : Word) (s : State) : State :=
  match (List.range 4).find? (fun h => lncfgAddr h == a && hartMaster h == m) with
  | some _ => s.setReg a (v &&& 7#32)
  | none =>
    if inPages a then pageWrite m a size v s
    else if mapped a then s
    else unmapped s m

/-- REGISTER_WRITE (R14, R497). -/
def execRegisterWrite (m : Master) (a : Nat) (size : Nat) (v : Word) (s : State) : Host.Outcome State Fault Refusal :=
  done s (registerWrite m a size v s)

end Sys2Proof.Machine
end

