-- ==== Sys2Proof/Machine/BarAccess.lean ====
section
/-! DEFINITION. The host's accesses to BAR0 and BAR2 (R15, R18, R315 to R318, R331, R335). -/
namespace Sys2Proof.Machine

/-- 1 to 8 bytes within one naturally aligned 8-byte block (R316). -/
def barShape (off n : Nat) : Bool := decide (1 ≤ n) && decide (off % 8 + n ≤ 8)

/-- Memory Space Enable (R316). -/
def memSpace (s : State) : Bool := s.bit (cfgReg 0x04) 1

/-- A dword with the bytes of a write that fall into it: `i` is the dword's byte offset, the old bytes stay elsewhere. -/
def mergeDword (old : Word) (i off : Nat) (bs : List Nat) : Word :=
  Word.ofNat (leNat ((List.range 4).map (fun k =>
    if off ≤ i + k ∧ i + k < off + bs.length then bs.getD (i + k - off) 0 else old.toNat / 256 ^ k % 256)))

/-- The dwords that an access touches. -/
def dwordsOf (off n : Nat) : List Nat := [off / 8 * 8, off / 8 * 8 + 4].filter (fun i => decide (i < off + n) && decide (off < i + 4))

/-! ## BAR0 (R315, R335) -/

/-- One dword of BAR0 is written; `v` has the dword's old bytes where the write has none, `w` zeros. Doorbells are the values
written. No dword of a queue base takes all ones, which BAR0 never shows (R15; DESIGN CHOICE, log 121: it keeps its value). -/
def bar0Dword (i n : Nat) (v w : Word) (s : State) : State :=
  if 0x1000 ≤ i ∧ i < 0x1208 then (if i % 8 = 0 then sqDoorbell ((i - 0x1000) / 8) w s else cqDoorbell ((i - 0x1000) / 8) w s)
  else if 0x2000 ≤ i ∧ i < 0x2410 then
    sendPendingMsix (s.setReg (bar0 i) (if i % 16 = 12 then v &&& 1#32 else v))
  else if i = 0x0C then s.setReg (bar0 0x0C) (s.reg (bar0 0x0C) ||| (w &&& 1#32))
  else if i = 0x10 then s.setReg (bar0 0x0C) (s.reg (bar0 0x0C) &&& ~~~w)
  else if i = 0x14 then ccWrite v s
  else if i = 0x24 then s.setReg (bar0 i) (v &&& 0x0FFF0FFF#32)
  else if i ∈ [0x28, 0x2C, 0x30, 0x34] then (if v = 0xFFFFFFFF#32 then s else s.setReg (bar0 i) v)
  else if i ∈ [0x00, 0x04, 0x08, 0x1C, 0x20] then recordDropped s i n w.toNat
  else s

/-- A write of BAR0. -/
def bar0Write (off : Nat) (bs : List Nat) (s : State) : State :=
  (dwordsOf off bs.length).foldl (fun s i =>
    bar0Dword i bs.length (mergeDword (s.reg (bar0 i)) i off bs) (mergeDword 0#32 i off bs) s) s

/-- A dword of BAR0 as it reads: doorbells 0, INTMC the mask. -/
def bar0Peek (s : State) (i : Nat) : Word := if i = 0x10 then s.reg (bar0 0x0C) else s.reg (bar0 i)

/-! ## BAR2 (R317, R318) -/

/-- The bit of a page in UNLK_SCOPE and UNLK_B2SUB. -/
def scopeBit (p : Nat) : Nat := if p ≤ 0x1E then p else p + 1

/-- A page may be written through BAR2: it is unlocked and the page lies in the scope. -/
def inScope (s : State) (p : Nat) : Bool :=
  unlkState s == 3 && s.pcie.unlkScope.testBit (scopeBit p)

/-- UNLK_STAT with the seconds left. -/
def unlkStat (s : State) : Word := putField (s.reg (mbx 0x24)) 16 12 (unlkLeft s)

/-- A dword of the mailbox as it reads. -/
def mailPeek (s : State) (i : Nat) : Word :=
  if i = 0x24 then unlkStat s else if 0x100 ≤ i then 0#32 else s.reg (mbx i)

/-- One dword of the mailbox is written. -/
def mailDword (i n : Nat) (v w : Word) (s : State) : State :=
  if i < 0x20 ∨ i = 0x24 then recordDropped s (0x3E000 + i) n w.toNat
  else if i = 0x20 then unlkCtrl w s
  else if i = 0x28 then s.setReg (mbx i) (v &&& 0xFFF#32)
  else if i = 0x30 ∨ i = 0x34 then s.setReg (mbx i) (v &&& 0x7FFFFFFF#32)
  else if i = 0x40 ∨ i = 0x44 then s.setReg (mbx i) (s.reg (mbx i) &&& ~~~w)
  else if (0x100 ≤ i ∧ i < 0x8A0) ∨ (0x900 ≤ i ∧ i < 0x15F0) then s.setReg (mbx i) v
  else s

/-- A write of the mailbox. -/
def mailWrite (off : Nat) (bs : List Nat) (s : State) : State :=
  (dwordsOf off bs.length).foldl (fun s i =>
    mailDword i bs.length (mergeDword (s.reg (mbx i)) i off bs) (mergeDword 0#32 i off bs) s) s

/-- A write of a mirrored page as HOSTIN: eight bytes are two words (R317, R497). -/
def pageBarWrite (a : Nat) (bs : List Nat) (s : State) : State :=
  if bs.length = 8 then
    pageWrite .hostin (a + 4) 4 (Word.ofNat (leNat (bs.drop 4))) (pageWrite .hostin a 4 (Word.ofNat (leNat (bs.take 4))) s)
  else pageWrite .hostin a bs.length (Word.ofNat (leNat bs)) s

/-- A write of BAR2. -/
def bar2Write (off : Nat) (bs : List Nat) (s : State) : State :=
  if 0x40000 ≤ off then s
  else if 0x3E000 ≤ off then mailWrite (off - 0x3E000) bs s
  else if inScope s (off / 0x1000) then pageBarWrite (0x40000000 + off) bs s
  else recordDropped s (0x40000000 + off) bs.length (leNat (bs.take 4))

/-- The bytes of two dwords that an access takes. -/
def takeBytes (off n : Nat) (w : Nat → Word) : Nat :=
  leNat (((bytesLE 4 (w (off / 8 * 8)).toNat ++ bytesLE 4 (w (off / 8 * 8 + 4)).toNat).drop (off % 8)).take n)

/-- Four bytes of all ones are not returned (R15, R317): the value, and whether it was substituted. -/
def substitute (n v : Nat) : Nat × Bool :=
  let half := fun (x : Nat) => if x = 0xFFFFFFFF then (0xFFFFFFFE, true) else (x, false)
  if n = 4 then half v
  else if n = 8 then
    let l := half (v % 2 ^ 32)
    let h := half (v / 2 ^ 32)
    (l.1 + h.1 * 2 ^ 32, l.2 || h.2)
  else (v, false)

/-- A read of BAR2 in a shape that is served. -/
def bar2Serve (off n : Nat) (s : State) : State :=
  let p := off / 0x1000
  if 0x40000 ≤ off then { s with resp := ⟨0, false⟩ }
  else if 0x3E000 ≤ off then { s with resp := ⟨takeBytes (off - 0x3E000) n (mailPeek s), false⟩ }
  else if 0x29 ≤ p then { s with resp := ⟨0, false⟩ }
  else if !pageGrants s .hostin p .read then { aclRefuse s .hostin (0x40000000 + off) 2 .read with resp := ⟨0, false⟩ }
  else
    let r := substitute n (takeBytes (0x40000000 + off) n (regPeek s))
    let s := { s with resp := ⟨r.1, false⟩ }
    if r.2 then s.setBit (mbx (0x40 + 4 * (scopeBit p / 32))) (scopeBit p % 32) true else s

/-! ## Commands -/

/-- An access that R316 does not serve: by `kind` of R331, with an error response. -/
def barRefused (kind : Nat) (s : State) : State := { protocolError kind s with resp := ⟨0, true⟩ }

/-- The link has gone: no request reaches the part, and the host's read gives all ones (R15, R327). -/
def linkGone (s : State) : Bool := s.fld Reg.PCIE_LINK 0 3 == 0

/-- A host read of a BAR (R15, R316, R317). -/
def barRead (bar off n : Nat) (s : State) : State :=
  if linkGone s then { s with resp := ⟨256 ^ n - 1, false⟩ }
  else
  let s := linkWake s
  if !memSpace s then barRefused 7 s
  else if !barShape off n then barRefused 8 s
  else if bar = 0 then { s with resp := ⟨takeBytes off n (bar0Peek s), false⟩ }
  else bar2Serve off n s

/-- A host write of a BAR (R316, R317). -/
def barWrite (bar off : Nat) (bytes : List Nat) (s : State) : State :=
  let s := linkWake s
  if !memSpace s then protocolError 7 s
  else if !barShape off bytes.length then protocolError 8 s
  else if bar = 0 then bar0Write off bytes s
  else bar2Write off bytes s

/-- BAR_MEMORY_WRITE (R316). -/
def execBarMemoryWrite (bar off : Nat) (bytes : List Nat) (s : State) : Host.Outcome State Fault Refusal := done s (barWrite bar off bytes s)
/-- BAR_MEMORY_READ_ABORT (R316): a read; one that is too long or crosses a block is answered with Completer Abort. -/
def execBarMemoryReadAbort (bar off n : Nat) (s : State) : Host.Outcome State Fault Refusal := done s (barRead bar off n s)
/-- BAR2_READ (R317). -/
def execBar2Read (off n : Nat) (s : State) : Host.Outcome State Fault Refusal := done s (barRead 2 off n s)
/-- BAR2_WRITE (R317). -/
def execBar2Write (off : Nat) (bytes : List Nat) (s : State) : Host.Outcome State Fault Refusal := done s (barWrite 2 off bytes s)

end Sys2Proof.Machine
end

