-- ==== Sys2Proof/Machine/CoreAccess.lean ====
section
/-! DEFINITION. A core's access to memory (R408 to R413, R419, R424, R430, R432, R452, R495). -/
namespace Sys2Proof.Machine

/-- A core's access faults: the response is an error; the cause and lnbsrc's kind (R408, R413). -/
def accFault (h cause kind a : Nat) (s : State) : State := { coreFault h cause kind a s with resp := ⟨0, true⟩ }

/-- The exception causes of an access fault: fetch 1, load 5, store and atomic 7. -/
def faultCause : CoreAccess → Nat
  | .fetch => 1 | .load => 5 | .lr => 5 | _ => 7

/-- A load-reserved, store-conditional or atomic operation. -/
def isAtomic : CoreAccess → Bool
  | .lr => true | .sc _ => true | .amo _ _ => true | _ => false

/-- The hart has the instruction (R408): the supervisor has neither the A extension nor 8-byte accesses. -/
def coreHas (h : Nat) (k : CoreAccess) (n : Nat) : Bool :=
  if isAtomic k then decide (h < 4) && (n == 4 || n == 8)
  else if k = .fetch then n == 2 || n == 4
  else n == 1 || n == 2 || n == 4 || (n == 8 && decide (h < 4))

/-- An access crosses a naturally aligned 8-byte block; fetches are made in parcels of two bytes (R410). -/
def crossesBlock (k : CoreAccess) (a n : Nat) : Bool := k != .fetch && decide (8 < a % 8 + n)

/-- The result of an atomic operation on `n` bytes. -/
def amoResult (op n old v : Nat) : Nat :=
  let w := 8 * n
  let v := v % 2 ^ w
  let lt := fun (x y : Nat) => decide (signedOf w x < signedOf w y)
  match op with
  | 0 => v
  | 1 => (old + v) % 2 ^ w
  | 2 => old ^^^ v
  | 3 => old &&& v
  | 4 => old ||| v
  | 5 => if lt old v then old else v
  | 6 => if lt old v then v else old
  | 7 => min old v
  | _ => max old v

/-! ## Cached ranges -/

/-- The line of an address in an L1 that is enabled. -/
def l1Find (s : State) (h : Nat) (fetch : Bool) (line : Nat) : Option CacheLine :=
  let x := s.hart h
  if fetch then (if l1iOn s h then x.l1i.find? (fun c => c.line == line) else none)
  else if l1dOn s h then x.l1d.find? (fun c => c.line == line) else none

/-- A line read through L2 joins the L1 where it is enabled; the boot ROM joins L1I only (R410). -/
def l1Fill (h : Nat) (fetch : Bool) (line : Nat) (bs : List Nat) (s : State) : State :=
  let k := Config.l1Victim s.fresh
  let c : CacheLine := ⟨line, lineData bs⟩
  if fetch ∧ l1iOn s h then { s.updHart h (fun (x : Hart) => { x with l1i := l1Add k c x.l1i }) with fresh := s.fresh + 1 }
  else if !fetch ∧ l1dOn s h ∧ !inRom (line * 64) then
    { s.updHart h (fun (x : Hart) => { x with l1d := l1Add k c x.l1d }) with fresh := s.fresh + 1 }
  else s

/-- Bytes within one line as a hart reads them: the bytes, whether their word is uncorrectable, the state after. -/
def cachedRead (s : State) (h : Nat) (fetch : Bool) (a n l2err : Nat) : List Nat × Bool × State :=
  let line := a / 64
  let part := fun (bs : List Nat) => (bs.drop (a % 64)).take n
  match l1Find s h fetch line with
  | some c => (part (lineBytes c.data), false, s)
  | none =>
    let r := l2Line s (hartMaster h) line (a % 64 / 8) l2err
    let bad := r.2.1.any (fun w => decide (8 * w < a % 64 + n) && decide (a % 64 < 8 * w + 8))
    (part r.1, bad, if r.2.1.isEmpty then l1Fill h fetch line r.1 r.2.2 else r.2.2)

/-- A store of bytes within one line: false where its word cannot be completed (R411, R419). -/
def cachedStore (s : State) (h a : Nat) (bs : List Nat) (l2err : Nat) : Bool × State :=
  let r := l2Store s (hartMaster h) a bs l2err
  if r.1 then (false, r.2) else (true, breakRes h (a / 64) (l1Store h a bs r.2))

/-- A fetch, parcel by parcel. -/
def fetchParcels (h l2err : Nat) : Nat → Nat → List Nat → State → State
  | 0, _, got, s => { s with resp := ⟨leNat got, false⟩ }
  | k + 1, a, got, s =>
    let r := cachedRead s h true a 2 l2err
    if r.2.1 then accFault h 1 1 a r.2.2 else fetchParcels h l2err k (a + 2) (got ++ r.1) r.2.2

/-- A load or a load-reserved. -/
def loadAt (h a n l2err : Nat) (reserve : Bool) (s : State) : State :=
  let r := cachedRead s h false a n l2err
  if r.2.1 then accFault h 5 1 a r.2.2
  else
    let s := { r.2.2 with resp := ⟨leNat r.1, false⟩ }
    if reserve then s.updHart h (fun (x : Hart) => { x with reservation := some (a / 64) }) else s

/-- A store of `n` bytes. -/
def storeAt (h a n v l2err : Nat) (s : State) : State :=
  let r := cachedStore s h a (bytesLE n v) l2err
  if r.1 then { r.2 with resp := ⟨0, false⟩ } else accFault h 7 1 a r.2

/-- The access table's refusal: a fetch faults, a read returns 0, a write is dropped (R432). -/
def coreRefused (h : Nat) (k : CoreAccess) (a target : Nat) (x : AccKind) (s : State) : State :=
  let s := aclRefuse s (hartMaster h) a target x
  if k = .fetch then accFault h 1 2 a s else { s with resp := ⟨0, false⟩ }

/-- SRAM (R410, R411). A store-conditional succeeds while the reservation of its line stands. -/
def sramAccess (h : Nat) (k : CoreAccess) (a n l2err : Nat) (s : State) : State :=
  let m := hartMaster h
  let may := sramGrants s m a
  match k with
  | .fetch => if may .exec then fetchParcels h l2err (n / 2) a [] s else coreRefused h k a 0 .exec s
  | .load => if may .read then loadAt h a n l2err false s else coreRefused h k a 0 .read s
  | .lr => if may .read then loadAt h a n l2err true s else coreRefused h k a 0 .read s
  | .store v => if may .write then storeAt h a n v l2err s else coreRefused h k a 0 .write s
  | .sc v =>
    if (s.hart h).reservation = some (a / 64) then
      let s := s.updHart h (fun (x : Hart) => { x with reservation := none })
      if may .write then storeAt h a n v l2err s else coreRefused h k a 0 .write s
    else { s.updHart h (fun (x : Hart) => { x with reservation := none }) with resp := ⟨1, false⟩ }
  | .amo op v =>
    if !may .read then coreRefused h k a 0 .read s
    else if !may .write then coreRefused h k a 0 .write s
    else
      let r := cachedRead s h false a n l2err
      if r.2.1 then accFault h 7 1 a r.2.2
      else
        let t := storeAt h a n (amoResult op n (leNat r.1) v) l2err r.2.2
        if t.resp.err then t else { t with resp := ⟨leNat r.1, false⟩ }

/-- Flash (R410, R443): loads and fetches; one that misses the caches waits while the bank is busy. -/
def flashAccess (h : Nat) (k : CoreAccess) (a n l2err : Nat) (s : State) : State :=
  let m := hartMaster h
  let x : AccKind := if k = .fetch then .exec else .read
  let b := bankOf (a - flashBase)
  if k ≠ .fetch ∧ k ≠ .load then accFault h 7 3 a s
  else if !flashGrants s m a x then coreRefused h k a 1 x s
  else if bankBusy s b ∧ !(s.bank b).failed ∧ (l1Find s h (k = .fetch) (a / 64)).isNone ∧ (!l2On s ∨ (l2Find s (a / 64)).isNone) then
    s.setFlash { s.flash with reads := s.flash.reads ++ [⟨m, a, n, []⟩] }
  else if k = .fetch then fetchParcels h l2err (n / 2) a [] s
  else loadAt h a n l2err false s

/-- The boot ROM (R410, R430): cores execute it; only DBG may read it, so that a load returns 0. -/
def romAccess (h : Nat) (k : CoreAccess) (a n l2err : Nat) (s : State) : State :=
  if k = .fetch then fetchParcels h l2err (n / 2) a [] s
  else if k = .load then { s with resp := ⟨0, false⟩ }
  else accFault h 7 3 a s

/-! ## Other ranges -/

/-- The supervisor's memory (R409). -/
def tcmAccess (h : Nat) (k : CoreAccess) (a n : Nat) (s : State) : State :=
  if h ≠ 4 then accFault h (faultCause k) 0 a s
  else match k with
    | .store v => { s.store a n v with resp := ⟨0, false⟩ }
    | _ => { s with resp := ⟨s.load a n, false⟩ }

/-- The option shadow as a core reads it: words 9 to 12 read 0 (R452). -/
def shadowLoad (s : State) (a n : Nat) : Nat :=
  leNat ((List.range n).map (fun i =>
    let w := (a + i - 0x30000000) / 8
    if 9 ≤ w ∧ w ≤ 12 then 0 else (s.shadow w).toNat / 256 ^ ((a + i) % 8) % 256))

/-- A load from the pages; one that reaches beyond an aligned word is made as a read of each word (R497). -/
def pageLoad (h a n : Nat) (s : State) : State :=
  let m := hartMaster h
  if a % 4 + n ≤ 4 then pageRead s m a n
  else
    let k := 4 - a % 4
    let t := pageRead s m a k
    let u := pageRead t m (a + k) (n - k)
    { u with resp := ⟨t.resp.data + 256 ^ k * u.resp.data, false⟩ }

/-- Mortar, option shadow and pages: strongly ordered, no execution, no atomic operation (R193, R410). -/
def orderedAccess (h : Nat) (k : CoreAccess) (a n : Nat) (s : State) : State :=
  let m := hartMaster h
  let mortar := decide (a < 0x30000000)
  match k with
  | .load =>
    if mortar then thirdRead m a n s
    else if inPages a then pageLoad h a n s
    else { s with resp := ⟨shadowLoad s a n, false⟩ }
  | .store v =>
    if mortar then { thirdWrite m a n (Word.ofNat v) s with resp := ⟨0, false⟩ }
    else if inPages a then { pageWrite m a n (Word.ofNat v) s with resp := ⟨0, false⟩ }
    else { s with resp := ⟨0, false⟩ }
  | k => accFault h (if k = .fetch then 1 else 7) 0 a s

/-- A core's access by range. A drain of L2 that runs ends before it (R429). -/
def coreAccess (h : Nat) (k : CoreAccess) (a n l2err : Nat) (s : State) : State :=
  if !coreHas h k n then coreTrap h 2 0 s
  else if crossesBlock k a n then coreTrap h (if k = .load ∨ k = .lr then 4 else 6) a s
  else if !mapped a then accFault h (faultCause k) 0 a (unmapped s (hartMaster h))
  else
    let s := if cacheable a then drainDone s else s
    if inRom a then romAccess h k a n l2err s
    else if inTcm a then tcmAccess h k a n s
    else if inFlash a then flashAccess h k a n l2err s
    else if inSram a then sramAccess h k a n l2err s
    else orderedAccess h k a n s

/-- CORE_MEMORY_ACCESS (R410): hart `h` accesses `n` bytes at `a`; `l2err` is what L2's check finds in the word (R426). -/
def execCoreMemoryAccess (h : Nat) (k : CoreAccess) (a n l2err : Nat) (s : State) : Host.Outcome State Fault Refusal :=
  done s (if h < 5 then coreAccess h k a n l2err s else s)

end Sys2Proof.Machine
end

