-- ==== Sys2Proof/Machine/Ladder.lean ====
section
/-! DEFINITION. Strip decoding and the retry ladder (R38, R74, R103, R107 to R112, R306). -/
namespace Sys2Proof.Machine

/-! ## Strip decoding (R38, R103) -/

/-- Corrects the erased symbols of a column and no other (R103). -/
def eraseColumn (era : List Nat) (w : List Nat) : Option (List Nat) :=
  match gfStrip.decode 8 era (w.zipIdx.map (fun q => if era.contains q.2 then 0 else q.1)) with
  | some w' => if (w.zipIdx).all (fun q => era.contains q.2 || w'.getD q.2 0 == q.1) then some w' else none
  | none => none

/-- The 64 user fields of a strip as its slot holds them. -/
def stripFields (s : State) (g : GroupRead) (psa : Nat) : List (List Nat) :=
  (List.range 64).map (fun i => s.bytes (stripSlotAddr s g psa i) 4096)

/-- Decodes every column; none where one fails. -/
def decodeColumns (f : List Nat → Option (List Nat)) (cols : List (List Nat)) : Option (List (List Nat)) :=
  cols.foldr (fun c acc => match acc, f c with
    | some l, some w => some (w :: l)
    | _, _ => none) (some [])

/-- The columns of 64 fields. -/
def columnsOf (fields : List (List Nat)) : List (List Nat) := (List.range 4096).map (fun b => fields.map (fun u => u.getD b 0))

/-- Puts rebuilt sectors in the strip slot, data sectors and on a patrol parity sectors, with their headers (R38, R103). -/
def storeRebuilt (g : GroupRead) (psa : Nat) (cols : List (List Nat)) : List (Nat × List Nat) → State → State
  | [], s => s
  | (i, hdr) :: t, s =>
    if i < 56 ∨ g.patrol then
      let s := memWrite s .cdma (stripSlotAddr s g psa i) (cols.map (fun c => c.getD i 0))
      storeRebuilt g psa cols t (mapGroup s psa (fun g => { g with
        rebuilt := g.rebuilt.filter (fun h => !(h.1 == psa % 8 && h.2.1 == i)) ++ [(psa % 8, i, hdr)] }))
    else storeRebuilt g psa cols t s

/-- The headers of lost sectors, rebuilt (R38). -/
def rebuiltHeaders (s : State) (psa : Nat) (l : List Nat) : List (Nat × List Nat) :=
  l.map (fun i => (i, (rebuildHeader s psa i).bytes))

/-- R103 on a strip whose sectors are all final: none where it fails, else the class its outcome calls for by itself (3 with
nothing left to check, 2 with a syndrome on a whole strip). -/
def decodeStrip (s : State) (g : GroupRead) (psa : Nat) (t : StripRead) : Option Nat × State :=
  let era := stripErasures t
  let f := era.length
  if f = 0 then
    if (s.bit Reg.STRP_CTRL 0 || g.patrol) &&
        (columnsOf (stripFields s g psa)).any (fun c => !(gfStrip.syndromes 8 c).all (· == 0)) then
      let s := ((s.addSat Reg.STRP_MIS 0 16 1).raise pgSTRP 1).err pgSTRP 0x0403 0
      (some 2, s.report pgSTRP 0x0403 15 [])
    else (some 0, s)
  else if 8 < f then (none, s)
  else
    let s := s.addSat Reg.STRP_CNT 0 16 1
    match decodeColumns (eraseColumn era) (columnsOf (stripFields s g psa)) with
    | none => (none, s)
    | some cols =>
      let s := storeRebuilt g psa cols (rebuiltHeaders s psa era) s
      let s := { s with fresh := s.fresh + 1 }
      if f = 8 then (some 3, mapStrip s psa (fun t => { t with noMargin := true })) else (some 0, s)

/-- Class of a strip delivered in rung 0 by its number of erasures (R108). -/
def stripClass (s : State) (f : Nat) : Nat :=
  if f < s.fld Reg.STRP_CTRL 8 4 then 0 else if f < s.fld Reg.STRP_CTRL 12 4 then 1 else 2

/-- Class of a strip delivered by a rung above 0 (R108). -/
def rungClass (r : Nat) : Nat := if r ≤ 2 then 1 else if r ≤ 4 then 2 else 3

/-! ## Stored samples (R74, R79, R108) -/

/-- The ring slots that store samples of a group. -/
def ringOf (s : State) (g : GroupRead) : List RingSlot := s.rd.ring.filter (fun r => r.group == g.psa / 8 % 128)

/-- The strip and index of the sector of a ring slot's lane; none where it reads outside the group. -/
def ringSector (r : RingSlot) (x : LaneSoft) : Option (Nat × Nat) := (spiralNo x.spiral).map (fun q => sectorAt q r.pos)

/-- A failed sector whose samples are stored. -/
def ringFailed (t : StripRead) (psa : Nat) (r : RingSlot) (x : LaneSoft) : Option Nat :=
  match ringSector r x with
  | some gi => if gi.1 = psa % 8 ∧ t.fins.getD gi.2 none ≠ some .good then some gi.2 else none
  | none => none

/-- Some failed sector of the strip has its samples stored. -/
def samplesStored (s : State) (psa : Nat) (t : StripRead) : Bool := match groupRead s psa with
  | some g => (ringOf s g).any (fun r => r.lanes.any (fun x => (ringFailed t psa r x).isSome))
  | none => false

/-- What recovery takes of a lane from the ring: used where it has frames there; its sector known where it is GOOD (R89). -/
def ringLane (s : State) (g : GroupRead) (r : RingSlot) (l : Nat) (x : LaneSoft) : LaneSoft :=
  { x with used := !(ringFrames r l).isEmpty, known := (spiralNo x.spiral).bind (fun q => knownSector s g.psa q r.pos) }

/-! ## Slip search (R74) -/

/-- Accepted frame a is tried before b: by distance, then by absolute offset, largest first, then by number. -/
def slipBefore (a b : FrameRec) : Bool :=
  decide (b.dist < a.dist) || (a.dist == b.dist && (decide (b.offset.natAbs < a.offset.natAbs) ||
    (a.offset.natAbs == b.offset.natAbs && decide (a.frame < b.frame))))

/-- A frame in its place among those ranked. -/
def slipInsert (a : FrameRec) : List FrameRec → List FrameRec
  | [] => [a]
  | b :: t => if slipBefore a b then a :: b :: t else b :: slipInsert a t

/-- The frames the search takes, four at most. -/
def slipCandidates (l : List FrameRec) : List FrameRec :=
  let acc := l.filter (fun f => f.accepted && (f.offset != 0 || f.dist != 0))
  let fly := (List.range 40).flatMap (fun k => l.filter (fun f => f.flyw && f.frame == k))
  (acc.foldr slipInsert [] ++ fly).take 4

/-- The moves the search tries, in their order. -/
def slipMoves (l : List FrameRec) : List (Nat × Int) :=
  (slipCandidates l).flatMap (fun f => [1, -1, 2, -2, 3, -3, 4, -4].map (fun o => (f.frame, o)))

/-- One decode at the foreground limits from a position's samples: what the sector check says, the bytes, the iterations
(R74, R93, R94). -/
def decodeTry (s : State) (q l : Nat) : Nat → Bool → DetInput → List (List (List Int)) → Nat → Option (SectorFinal × List Nat × Nat)
  | 0, _, _, _, _ => none
  | n + 1, first, d, msgs, used =>
    let b := detBoth s d first
    let llr := segments (loadLlrs s .fg d.psa q d.pos { d.lane l with coded := demapLane (b.2.getD l []) })
    let r := decodeIters (s.fld Reg.LDPC_SCHED 8 5) (min (iterPerRound s .fg) (iterLimit s .fg - used)) (postOf llr msgs, msgs) 0
    let bytes := bitsToBytes (hardBits r.1.1)
    let gi := sectorAt q d.pos
    match judgeSector bytes (d.psa / 8 * 8 + gi.1) gi.2 with
    | some f => some (f, bytes, used + r.2.1)
    | none =>
      if iterLimit s .fg ≤ used + r.2.1 then none
      else
        let prior := (chunks 960 40 (extrinsics r.1.1 llr).flatten).map priorFrame
        decodeTry s q l n false { b.1 with lanes := b.1.lanes.zipIdx.map (fun z => if z.2 = l then { z.1 with prior := prior } else z.1) }
          r.1.2 (used + r.2.1)

/-- The search over the moves of a lane of a ring slot: the first decode that stands; a misplaced sector is recorded
(R35, R74). -/
def slipTries (g : GroupRead) (r : RingSlot) (q l : Nat) : List (Nat × Int) → State → State
  | [], s => s
  | m :: t, s =>
    let lanes := r.lanes.zipIdx.map (fun z => ringDecisions r z.2 (if z.2 = l then some m else none) (ringLane s g r z.2 z.1))
    let d : DetInput := ⟨g.psa, r.pos, lanes, (List.range 4).map (fun k => ringWords s r k (if k = l then some m else none))⟩
    let gi := sectorAt q r.pos
    let p := g.psa / 8 * 8 + gi.1
    match decodeTry s q l (roundLimit s .fg) true d noMessages 0 with
    | some (.good, bytes, used) =>
      let s := finishSector (noteCombined s g.psa q r.pos) bytes p gi.2 used .good
      mapStrip (s.addSat (Reg.RFL_SYNC_CNT l) 16 8 1) p (fun t => { t with slip := true })
    | some (.misplaced, bytes, _) => slipTries g r q l t (reportMisplaced s bytes p gi.2)
    | _ => slipTries g r q l t s

/-- Rung 1: the search on each failed sector whose samples are stored and whose lane has it enabled (R74, R108). -/
def slipSearch (psa : Nat) (s : State) : State :=
  match groupRead s psa with
  | none => s
  | some g => (ringOf s g).foldl (fun s r => r.lanes.zipIdx.foldl (fun s z =>
      match (stripRead s psa).bind (fun t => ringFailed t psa r z.1), spiralNo z.1.spiral with
      | some _, some q => if s.bit (Reg.RFL_SYNC_CTRL z.2) 8 then slipTries g r q z.2 (slipMoves (ringFrames r z.2)) s else s
      | _, _ => s) s) s

/-! ## Recovery decode (R94, R108) -/

/-- Changes the lanes of a group's ring slots. -/
def mapRing (s : State) (g : GroupRead) (f : RingSlot → Nat → LaneSoft → LaneSoft) : State :=
  s.setRd { s.rd with ring := s.rd.ring.map (fun r =>
    if r.group = g.psa / 8 % 128 then { r with lanes := r.lanes.zipIdx.map (fun z => f r z.2 z.1) } else r) }

/-- Rung 2 begins: each failed sector of the strip whose samples are stored is detected and decoded anew, with what is known
of its neighbours (R89, R108). -/
def recoveryStart (psa : Nat) (s : State) : State :=
  match groupRead s psa, stripRead s psa with
  | some g, some t => mapRing s g (fun r l x =>
      let y := ringLane s g r l x
      if (ringFailed t psa r x).isSome then
        { freshSoft with spiral := y.spiral, used := y.used, known := y.known, kind := some .recovery }
      else y)
  | _, _ => s

/-- Lanes on which recovery works for a strip. -/
def recoveryOf (r : RingSlot) (psa : Nat) (x : LaneSoft) : Bool :=
  x.kind == some .recovery && (match ringSector r x with
    | some gi => gi.1 == psa % 8
    | none => false)

/-- Rung 2 has ended: its sectors are final, or no further decode starts and none runs (R110). -/
def recoveryEnded (s : State) (g : GroupRead) (psa : Nat) (stopped : Bool) : Bool :=
  (ringOf s g).all (fun r => r.lanes.all (fun x => !recoveryOf r psa x || x.fin ||
    (stopped && (match spiralNo x.spiral with
      | some q => (findCw s .recovery g.psa q r.pos).isNone
      | none => true))))

/-- Recovery leaves a strip's sectors. -/
def recoveryStop (psa : Nat) (s : State) : State :=
  match groupRead s psa with
  | some g => mapRing s g (fun r _ x => if recoveryOf r psa x then { x with kind := none } else x)
  | none => s

/-! ## Soft strip decode (R109) -/

/-- A failed sector as rung 3 takes it: its index, the bytes of its hard decisions, and the least posterior of each user byte;
one that no decoder has seen is an erasure throughout. -/
structure SoftSector where
  i : Nat
  bytes : List Nat
  least : List Nat
  user : List Nat

/-- What is kept of a failed sector. -/
def softSector (g : GroupRead) (psa i : Nat) : SoftSector :=
  match g.soft.find? (fun o => o.1 == psa % 8 && o.2.1 == i) with
  | some o =>
    let bytes := bitsToBytes (o.2.2.map (fun v => decide (v < 0)))
    ⟨i, bytes, (chunks 8 4096 (o.2.2.drop 192)).map (fun b => b.foldl (fun m v => min m v.natAbs) 127), decodedUser bytes psa i⟩
  | none => ⟨i, [], List.replicate 4096 0, []⟩

/-- Soft decode of a column: bytes of failed sectors with a posterior below RELTH are erasures; the column and its errors
(R109). -/
def softColumn (relth : Nat) (soft : List SoftSector) (b : Nat) (w : List Nat) : Option (List Nat × Nat) :=
  let era := (soft.filter (fun q => q.bytes.isEmpty || decide (q.least.getD b 0 < relth))).map (·.i)
  let word := w.zipIdx.map (fun q => match soft.find? (fun v => v.i == q.2) with
    | some v => if era.contains q.2 then 0 else v.user.getD b 0
    | none => q.1)
  if 8 < era.length then none
  else (gfStrip.decode 8 era word).map (fun r =>
    (r, ((List.range 64).filter (fun i => !era.contains i && r.getD i 0 != word.getD i 0)).length))

/-- The header a failed sector is checked with: that of its hard decisions where HCRC and place confirm it, else the rebuilt
one (R32, R38, R109; DEDUCED, log 119). -/
def softHeader (s : State) (psa : Nat) (q : SoftSector) : List Nat :=
  let h := SectorHeader.ofBytes (q.bytes.take 24)
  if crc16 (q.bytes.take 22) = beNat ((q.bytes.take 24).drop 22) ∧ q.bytes ≠ [] ∧ h.psa = psa ∧ h.sidx = q.i then q.bytes.take 24
  else (rebuildHeader s psa q.i).bytes

/-- Rung 3 on a strip: the columns, the most errors of one, and the headers, where each column decodes and each failed sector
then passes its sector check (R109). -/
def softStrip (s : State) (g : GroupRead) (psa : Nat) (era : List Nat) : Option (List (List Nat) × Nat × List (Nat × List Nat)) :=
  let soft := era.map (softSector g psa)
  let out := (columnsOf (stripFields s g psa)).zipIdx.map (fun q => softColumn (s.fld Reg.STRP_CTRL 16 7) soft q.2 q.1)
  if out.any (·.isNone) then none
  else
    let cols := out.map (fun o => (o.getD ([], 0)).1)
    let ok := soft.all (fun q => q.bytes != [] &&
      crc64 (softHeader s psa q ++ cols.map (fun w => w.getD q.i 0)) == beNat ((q.bytes.drop 4120).take 8))
    if ok then some (cols, out.foldl (fun m o => max m (o.getD ([], 0)).2) 0, soft.map (fun q => (q.i, softHeader s psa q))) else none

/-! ## The ladder (R108, R110) -/

/-- A rung is enabled and its needs are met (R108). -/
def rungReady (s : State) (psa : Nat) (t : StripRead) (r : Nat) : Bool :=
  s.bit Reg.DET_RETRY (23 + r) &&
  (if r = 1 ∨ r = 2 then samplesStored s psa t else if r = 3 then s.bit Reg.STRP_CTRL 1 else true)

/-- The first rung above `r` and below `top` that is ready. -/
def nextRung (s : State) (psa : Nat) (t : StripRead) (r top : Nat) : Option Nat :=
  (List.range top).find? (fun k => decide (r < k) && rungReady s psa t k)

/-- A strip begins a step: rung 2 sets its sectors up; a re-read opens every sector that is not GOOD (R108). -/
def beginStep (s : State) (psa rung sub : Nat) : State :=
  let reread := decide (4 ≤ rung) && sub == 0
  let s := mapStrip s psa (fun t => { t with
    rung := rung, sub := sub, stepEras := (stripErasures t).length
    fins := if reread then t.fins.map (fun f => if f = some .good then f else none) else t.fins })
  if (if rung < 4 then rung else sub) = 2 then recoveryStart psa s else s

/-- The strip goes on above a rung, or ends unrecovered (R108). -/
def climb (s : State) (psa r : Nat) : State :=
  match stripRead s psa with
  | none => s
  | some t => match nextRung s psa t r 6 with
    | some n => beginStep (mapStrip s psa (fun t => { t with rereads := 0 })) psa n 0
    | none => endStrip s psa false 3

/-- What a re-read does next: rungs 1 to 3 on what it brought, then another re-read, then the next rung (R108). -/
def nextStep (s : State) (psa : Nat) (t : StripRead) : State :=
  if t.rung < 4 then climb s psa t.rung
  else match nextRung s psa t t.sub 4 with
    | some k => beginStep s psa t.rung k
    | none =>
      let n := t.rereads + 1
      let s := mapStrip s psa (fun t => { t with rereads := n })
      if n < (if t.rung = 4 then 2 else 4) then beginStep s psa t.rung 0 else climb s psa t.rung

/-- Sectors of a group wait for a second pass over a lost lane's spiral (R107). -/
def laneWaits (g : GroupRead) : Bool := g.strips.any (fun t => !t.laneLostSectors.isEmpty)

/-- A strip fails in rung 0 (R103, R108): the clock of its ladder starts; one that is not to climb stays failed, and a patrol
records it (R112). A group that waits for a second pass keeps its strips from the ladder (R107). -/
def firstFailure (s : State) (psa : Nat) : State :=
  match groupRead s psa with
  | none => s
  | some g =>
    if laneWaits g then s
    else
      let s := mapStrip s psa (fun t => { t with failTick := some s.ticks, eras0 := (stripErasures t).length })
      if g.wanted.testBit (psa % 8) then climb s psa 0
      else if g.patrol then endStrip s psa false 3
      else releaseSlotsDone (mapStrip s psa (fun t => { t with ended := some false }))

/-- STRP decodes a strip whose 64 sectors are final (R103); lost-lane sectors wait for their second pass, a group that is
read again for its read (R64, R107). -/
def stripDecode (psa : Nat) (s : State) : State :=
  match groupRead s psa, stripRead s psa with
  | some g, some t =>
    if t.fins.any (·.isNone) ∨ !t.laneLostSectors.isEmpty ∨ t.ended.isSome ∨ t.rung ≠ 0 ∨ g.again then s
    else
      let q := decodeStrip s g psa t
      let f := (stripErasures t).length
      match q.1 with
      | some c => endStrip (mapStrip q.2 psa (fun t => { t with eras0 := f })) psa true (max c (stripClass s f))
      | none => firstFailure q.2 psa
  | _, _ => s

/-- STRIP_DECODE (R103). -/
def execStripDecode (psa : Nat) (s : State) : Host.Outcome State Fault Refusal := done s (s.unlessFrozen pgSTRP (stripDecode psa))

/-- The step a strip is at: its rung, or within a re-read 0 for the read itself and then rungs 1 to 3. -/
def ladderStep (t : StripRead) : Nat := if t.rung < 4 then t.rung else t.sub

/-- Nobody waits for a strip whose reader has withdrawn (R110). -/
def isWithdrawn (s : State) (psa : Nat) (t : StripRead) : Bool :=
  t.withdrawn && !(foreStrips s).contains psa && !(verifyStrips s).contains psa

/-- No further step may start for a strip (R110). -/
def ladderStops (s : State) (psa : Nat) (t : StripRead) : Bool := t.tmaxHit || isWithdrawn s psa t

/-- The step's work is done: a re-read has brought every sector, recovery has ended. -/
def stepEnds (s : State) (g : GroupRead) (psa : Nat) (t : StripRead) : Bool :=
  match ladderStep t with
  | 0 => t.fins.all (·.isSome) && t.laneLostSectors.isEmpty && !g.again
  | 2 => recoveryEnded s g psa (ladderStops s psa t)
  | _ => true

/-- What the step leaves: the slip search runs, recovery lets its sectors go. -/
def stepWork (psa k : Nat) (s : State) : State := if k = 1 then slipSearch psa s else if k = 2 then recoveryStop psa s else s

/-- The strip after a step's work: decoded anew where sectors turned GOOD, in rung 3 by soft decode; the class of its delivery,
none where it still fails (R103, R108, R109). -/
def stepDecode (s : State) (g : GroupRead) (psa k : Nat) (t : StripRead) : Option Nat × State :=
  let era := stripErasures t
  if k = 3 then match softStrip s g psa era with
    | some o =>
      let s := storeRebuilt g psa o.1 o.2.2 s
      (some (max 2 (rungClass t.rung)), mapStrip { s with fresh := s.fresh + 1 } psa (fun t => { t with errMax := max t.errMax o.2.1 }))
    | none => (none, s)
  else if era.length < t.stepEras then
    let q := decodeStrip s g psa t
    (q.1.map (fun c => max c (rungClass t.rung)), q.2)
  else (none, s)

/-- The state after the work of the step that a strip is at. -/
def stepDone (psa : Nat) (t0 : StripRead) (s : State) : State :=
  stepWork psa (ladderStep t0) (mapStrip s psa (fun t => { t with highest := max t.highest t0.rung }))

/-- The step that a strip is at ends (R108 to R110): its work takes effect, the strip is decoded again, and it is delivered,
goes on, or is unrecovered. -/
def rungEnd (psa : Nat) (s : State) : State :=
  match groupRead s psa, stripRead s psa with
  | some g, some t0 =>
    if t0.rung = 0 ∨ t0.ended.isSome ∨ !stepEnds s g psa t0 then s
    else
      let s := stepDone psa t0 s
      match stripRead s psa with
      | none => s
      | some t =>
        let q := stepDecode s g psa (ladderStep t0) t
        match q.1 with
        | some c => endStrip q.2 psa true c
        | none => if ladderStops q.2 psa t then endStrip q.2 psa false 3 else nextStep q.2 psa t
  | _, _ => s

/-- RETRY_LADDER_RUNG (R108). -/
def execRetryLadderRung (psa : Nat) (s : State) : Host.Outcome State Fault Refusal := done s (s.unlessFrozen pgDET (rungEnd psa))

/-- TMAX expires for a strip on the ladder: no further step starts (R110); a patrol read has no limit (R112). -/
def tmaxExpiry (psa : Nat) (s : State) : State :=
  match groupRead s psa, stripRead s psa with
  | some g, some t =>
    if t.rung ≠ 0 ∧ t.ended.isNone ∧ !g.patrol ∧ s.fld Reg.DET_RETRY 0 12 ≠ 0 then mapStrip s psa (fun t => { t with tmaxHit := true })
    else s
  | _, _ => s

/-- LADDER_TMAX_EXPIRY (R110). -/
def execLadderTmaxExpiry (psa : Nat) (s : State) : Host.Outcome State Fault Refusal := done s (s.unlessFrozen pgDET (tmaxExpiry psa))

end Sys2Proof.Machine
end

