-- ==== Sys2Proof/Machine/Dispatch.lean ====
section
/-! DEFINITION. The meaning of every command, by one direct call each. -/
namespace Sys2Proof.Machine

def exec (i : Instr) (s : State) : Host.Outcome State Fault Refusal :=
  match i with
  | .registerWrite m a size v => Sys2Proof.Machine.execRegisterWrite m a size v s
  | .rcRegisterRead m a => Sys2Proof.Machine.execRcRegisterRead m a s
  | .latchingLowWordRead m a => Sys2Proof.Machine.execLatchingLowWordRead m a s
  | .unmappedAccess m a => Sys2Proof.Machine.execUnmappedAccess m a s
  | .ctrlSrst m p v => Sys2Proof.Machine.execCtrlSrst m p v s
  | .ctrlFreeze m p v => Sys2Proof.Machine.execCtrlFreeze m p v s
  | .pageLock m p v => Sys2Proof.Machine.execPageLock m p v s
  | .vinRise => Sys2Proof.Machine.execVinRise s
  | .railsInRegulation => Sys2Proof.Machine.execRailsInRegulation s
  | .powerOnResetRelease macFail => Sys2Proof.Machine.execPowerOnResetRelease macFail s
  | .bootRomBoot => Sys2Proof.Machine.execBootRomBoot s
  | .railOutOfRegulation rail => Sys2Proof.Machine.execRailOutOfRegulation rail s
  | .railRestart => Sys2Proof.Machine.execRailRestart s
  | .uvloFall => Sys2Proof.Machine.execUvloFall s
  | .pinReset => Sys2Proof.Machine.execPinReset s
  | .systemPllLoss => Sys2Proof.Machine.execSystemPllLoss s
  | .channelPllLoss l => Sys2Proof.Machine.execChannelPllLoss l s
  | .warmReset cause => Sys2Proof.Machine.execWarmReset cause s
  | .wdtWrst m v => Sys2Proof.Machine.execWdtWrst m v s
  | .lockstepMismatch => Sys2Proof.Machine.execLockstepMismatch s
  | .wdtKick m w v => Sys2Proof.Machine.execWdtKick m w v s
  | .wdtStage1Expiry w => Sys2Proof.Machine.execWdtStage1Expiry w s
  | .wdtStage2Expiry w => Sys2Proof.Machine.execWdtStage2Expiry w s
  | .wdtRejoin m v => Sys2Proof.Machine.execWdtRejoin m v s
  | .wdtWcountClear => Sys2Proof.Machine.execWdtWcountClear s
  | .irqClaimRead m h => Sys2Proof.Machine.execIrqClaimRead m h s
  | .irqComplete m h v => Sys2Proof.Machine.execIrqComplete m h v s
  | .mtimecmpWrite m h v => Sys2Proof.Machine.execMtimecmpWrite m h v s
  | .mtimeCompareMatch h => Sys2Proof.Machine.execMtimeCompareMatch h s
  | .tickBoundary x => Sys2Proof.Machine.execTickBoundary x s
  | .tickSupAck m v => Sys2Proof.Machine.execTickSupAck m v s
  | .tickOverrun p => Sys2Proof.Machine.execTickOverrun p s
  | .lengStop word => Sys2Proof.Machine.execLengStop word s
  | .lengRestart m v => Sys2Proof.Machine.execLengRestart m v s
  | .lengRestartCheckDone => Sys2Proof.Machine.execLengRestartCheckDone s
  | .mortarThirdPortWrite m a size v => Sys2Proof.Machine.execMortarThirdPortWrite m a size v s
  | .mortarThirdPortRead m a size => Sys2Proof.Machine.execMortarThirdPortRead m a size s
  | .lengProgEnable m p v => Sys2Proof.Machine.execLengProgEnable m p v s
  | .lengProgCheckDone p => Sys2Proof.Machine.execLengProgCheckDone p s
  | .lengProgDisable m p v => Sys2Proof.Machine.execLengProgDisable m p v s
  | .lengUpdGo m v => Sys2Proof.Machine.execLengUpdGo m v s
  | .lengShadowReady m v => Sys2Proof.Machine.execLengShadowReady m v s
  | .lengShadowCheckDone => Sys2Proof.Machine.execLengShadowCheckDone s
  | .lengShadowSwapnow m v => Sys2Proof.Machine.execLengShadowSwapnow m v s
  | .lengShadowUnready m v => Sys2Proof.Machine.execLengShadowUnready m v s
  | .lengExtEnable m r v => Sys2Proof.Machine.execLengExtEnable m r v s
  | .trcChEnable m c v => Sys2Proof.Machine.execTrcChEnable m c v s
  | .trcGtrig m v => Sys2Proof.Machine.execTrcGtrig m v s
  | .trcChDone c => Sys2Proof.Machine.execTrcChDone c s
  | .linkZoneReached l g rate rx => Sys2Proof.Machine.execLinkZoneReached l g rate rx s
  | .acqMarkerWindowExpiry l rx skew => Sys2Proof.Machine.execAcqMarkerWindowExpiry l rx skew s
  | .frameSync l rx skew => Sys2Proof.Machine.execFrameSync l rx skew s
  | .laneRateOutOfRange l rate => Sys2Proof.Machine.execLaneRateOutOfRange l rate s
  | .adcSpareSwap l ofs gain skew => Sys2Proof.Machine.execAdcSpareSwap l ofs gain skew s
  | .tileRelease psa pos tile => Sys2Proof.Machine.execTileRelease psa pos tile s
  | .dskLateRelease psa pos tile => Sys2Proof.Machine.execDskLateRelease psa pos tile s
  | .detRound slot => Sys2Proof.Machine.execDetRound slot s
  | .ldpcCodewordLoad kind psa spiral pos => Sys2Proof.Machine.execLdpcCodewordLoad kind psa spiral pos s
  | .ldpcDecodeSet core => Sys2Proof.Machine.execLdpcDecodeSet core s
  | .ldpcCoreRetire core => Sys2Proof.Machine.execLdpcCoreRetire core s
  | .detArm m tag => Sys2Proof.Machine.execDetArm m tag s
  | .stripDecode psa => Sys2Proof.Machine.execStripDecode psa s
  | .retryLadderRung psa => Sys2Proof.Machine.execRetryLadderRung psa s
  | .ladderTmaxExpiry psa => Sys2Proof.Machine.execLadderTmaxExpiry psa s
  | .strpSlotRelease m v => Sys2Proof.Machine.execStrpSlotRelease m v s
  | .wencArm m tag => Sys2Proof.Machine.execWencArm m tag s
  | .wencParityDone => Sys2Proof.Machine.execWencParityDone s
  | .wencPassStart tfs => Sys2Proof.Machine.execWencPassStart tfs s
  | .wencPassEnd => Sys2Proof.Machine.execWencPassEnd s
  | .wencPassgo m v => Sys2Proof.Machine.execWencPassgo m v s
  | .wencPasswaitExpiry => Sys2Proof.Machine.execWencPasswaitExpiry s
  | .wencStartrevExpiry => Sys2Proof.Machine.execWencStartrevExpiry s
  | .wencAbort m v atLastBit => Sys2Proof.Machine.execWencAbort m v atLastBit s
  | .wencStgRelease m v => Sys2Proof.Machine.execWencStgRelease m v s
  | .wsgLoad m v => Sys2Proof.Machine.execWsgLoad m v s
  | .wsgLoadDone => Sys2Proof.Machine.execWsgLoadDone s
  | .drawVerdict => Sys2Proof.Machine.execDrawVerdict s
  | .drawVqConsWrite m v => Sys2Proof.Machine.execDrawVqConsWrite m v s
  | .winhTrip srcs late => Sys2Proof.Machine.execWinhTrip srcs late s
  | .winhForce m v late => Sys2Proof.Machine.execWinhForce m v late s
  | .winhLatchClear m v out => Sys2Proof.Machine.execWinhLatchClear m v out s
  | .hdlFrame status => Sys2Proof.Machine.execHdlFrame status s
  | .hdlCmdWrite m v => Sys2Proof.Machine.execHdlCmdWrite m v s
  | .hdlRspRead m => Sys2Proof.Machine.execHdlRspRead m s
  | .grooveCrossing x => Sys2Proof.Machine.execGrooveCrossing x s
  | .gaWord cells rate => Sys2Proof.Machine.execGaWord cells rate s
  | .gaPositionLoss => Sys2Proof.Machine.execGaPositionLoss s
  | .wobbleLockLoss => Sys2Proof.Machine.execWobbleLockLoss s
  | .fmtDiCapture m v => Sys2Proof.Machine.execFmtDiCapture m v s
  | .fmtDiCaptureDone => Sys2Proof.Machine.execFmtDiCaptureDone s
  | .actJmpGoJump m v => Sys2Proof.Machine.execActJmpGoJump m v s
  | .actJmpGoSweep m v => Sys2Proof.Machine.execActJmpGoSweep m v s
  | .actSweepHoldEnd => Sys2Proof.Machine.execActSweepHoldEnd s
  | .actKickEnd => Sys2Proof.Machine.execActKickEnd s
  | .actBrakeStart x => Sys2Proof.Machine.execActBrakeStart x s
  | .actBrakeEnd => Sys2Proof.Machine.execActBrakeEnd s
  | .actCapture x => Sys2Proof.Machine.execActCapture x s
  | .actSettleDone => Sys2Proof.Machine.execActSettleDone s
  | .actSweepFail => Sys2Proof.Machine.execActSweepFail s
  | .actJmpTimeout => Sys2Proof.Machine.execActJmpTimeout s
  | .actJmpAbort m v atCapture => Sys2Proof.Machine.execActJmpAbort m v atCapture s
  | .offTrack => Sys2Proof.Machine.execOffTrack s
  | .shockDetected digital x => Sys2Proof.Machine.execShockDetected digital x s
  | .shockEnd => Sys2Proof.Machine.execShockEnd s
  | .focusLoss => Sys2Proof.Machine.execFocusLoss s
  | .actSafeEnter m v => Sys2Proof.Machine.execActSafeEnter m v s
  | .actSafeExit m v => Sys2Proof.Machine.execActSafeExit m v s
  | .safeOverrunWindowClear => Sys2Proof.Machine.execSafeOverrunWindowClear s
  | .bridgeFault b bits => Sys2Proof.Machine.execBridgeFault b bits s
  | .actBridgeEnable m v => Sys2Proof.Machine.execActBridgeEnable m v s
  | .bridgeOffsetDone b ofs => Sys2Proof.Machine.execBridgeOffsetDone b ofs s
  | .spnModeOff m => Sys2Proof.Machine.execSpnModeOff m s
  | .spnModeRun m => Sys2Proof.Machine.execSpnModeRun m s
  | .spnModeBrake m => Sys2Proof.Machine.execSpnModeBrake m s
  | .spnModeZerov m => Sys2Proof.Machine.execSpnModeZerov m s
  | .spnMeasureEnd speed angle emf => Sys2Proof.Machine.execSpnMeasureEnd speed angle emf s
  | .spnAlignEnd => Sys2Proof.Machine.execSpnAlignEnd s
  | .spnLock => Sys2Proof.Machine.execSpnLock s
  | .spnSyncEnd => Sys2Proof.Machine.execSpnSyncEnd s
  | .spnRampTimeout => Sys2Proof.Machine.execSpnRampTimeout s
  | .spnZerovTimeout => Sys2Proof.Machine.execSpnZerovTimeout s
  | .spnLockLoss => Sys2Proof.Machine.execSpnLockLoss s
  | .spnBrakeToZerov => Sys2Proof.Machine.execSpnBrakeToZerov s
  | .spnStop => Sys2Proof.Machine.execSpnStop s
  | .spnNoloop => Sys2Proof.Machine.execSpnNoloop s
  | .spnVlimClear => Sys2Proof.Machine.execSpnVlimClear s
  | .spnOverCurrent => Sys2Proof.Machine.execSpnOverCurrent s
  | .spnOverTemp temp => Sys2Proof.Machine.execSpnOverTemp temp s
  | .spdcmdNosig => Sys2Proof.Machine.execSpdcmdNosig s
  | .stpPush m g v => Sys2Proof.Machine.execStpPush m g v s
  | .stpMoveEnd g => Sys2Proof.Machine.execStpMoveEnd g s
  | .stpStop m v => Sys2Proof.Machine.execStpStop m v s
  | .stpPark m v => Sys2Proof.Machine.execStpPark m v s
  | .stpParkDone => Sys2Proof.Machine.execStpParkDone s
  | .stpBridgeFault a bits => Sys2Proof.Machine.execStpBridgeFault a bits s
  | .stpTableLoad m v => Sys2Proof.Machine.execStpTableLoad m v s
  | .stpTableLoadDone => Sys2Proof.Machine.execStpTableLoadDone s
  | .stpHoldCurrent a => Sys2Proof.Machine.execStpHoldCurrent a s
  | .stpAxPosWrite m a v => Sys2Proof.Machine.execStpAxPosWrite m a v s
  | .stpAxModeWrite m a v => Sys2Proof.Machine.execStpAxModeWrite m a v s
  | .vinOv1 vin => Sys2Proof.Machine.execVinOv1 vin s
  | .chopperWindowEnd vin fall code => Sys2Proof.Machine.execChopperWindowEnd vin fall code s
  | .vinChopEnd => Sys2Proof.Machine.execVinChopEnd s
  | .vinOv2 => Sys2Proof.Machine.execVinOv2 s
  | .pwrClrChopflt m v => Sys2Proof.Machine.execPwrClrChopflt m v s
  | .pwrClrOvopen m v => Sys2Proof.Machine.execPwrClrOvopen m v s
  | .pwrClrLgidle m v => Sys2Proof.Machine.execPwrClrLgidle m v s
  | .v5outOvercurrent => Sys2Proof.Machine.execV5outOvercurrent s
  | .vinLoss late => Sys2Proof.Machine.execVinLoss late s
  | .pwrLgDone m v => Sys2Proof.Machine.execPwrLgDone m v s
  | .lgTimeout => Sys2Proof.Machine.execLgTimeout s
  | .holdupEnd => Sys2Proof.Machine.execHoldupEnd s
  | .vinRecovered => Sys2Proof.Machine.execVinRecovered s
  | .calMgArm m k v => Sys2Proof.Machine.execCalMgArm m k v s
  | .calMgTgtWrite m k v => Sys2Proof.Machine.execCalMgTgtWrite m k v s
  | .glideTargetWrite m a v lost => Sys2Proof.Machine.execGlideTargetWrite m a v lost s
  | .calTrigAdcstat m v => Sys2Proof.Machine.execCalTrigAdcstat m v s
  | .calAdcstatDone l meas => Sys2Proof.Machine.execCalAdcstatDone l meas s
  | .calAdcstatTimeout l => Sys2Proof.Machine.execCalAdcstatTimeout l s
  | .calTrigShofs m v => Sys2Proof.Machine.execCalTrigShofs m v s
  | .shuntOffsetDone ofs => Sys2Proof.Machine.execShuntOffsetDone ofs s
  | .shuntGainInjection leg code => Sys2Proof.Machine.execShuntGainInjection leg code s
  | .calTrigBrofs m v => Sys2Proof.Machine.execCalTrigBrofs m v s
  | .calTrigLink m v => Sys2Proof.Machine.execCalTrigLink m v s
  | .calLinkDone trims => Sys2Proof.Machine.execCalLinkDone trims s
  | .sadcRefconvWindowEnd diff swept slope => Sys2Proof.Machine.execSadcRefconvWindowEnd diff swept slope s
  | .calrefCheck mv => Sys2Proof.Machine.execCalrefCheck mv s
  | .calTempChange => Sys2Proof.Machine.execCalTempChange s
  | .calSwpGo m v => Sys2Proof.Machine.execCalSwpGo m v s
  | .calSwpMoveDone => Sys2Proof.Machine.execCalSwpMoveDone s
  | .calSwpPeriodEnd => Sys2Proof.Machine.execCalSwpPeriodEnd s
  | .calSwpAbort m v cause => Sys2Proof.Machine.execCalSwpAbort m v cause s
  | .pcieLinkUp speed width => Sys2Proof.Machine.execPcieLinkUp speed width s
  | .perstAssert => Sys2Proof.Machine.execPerstAssert s
  | .perstDeassert => Sys2Proof.Machine.execPerstDeassert s
  | .surpriseRemoval => Sys2Proof.Machine.execSurpriseRemoval s
  | .surprisePolicyTimeout => Sys2Proof.Machine.execSurprisePolicyTimeout s
  | .pcieConfigWrite off bytes => Sys2Proof.Machine.execPcieConfigWrite off bytes s
  | .pcieBmeClear v => Sys2Proof.Machine.execPcieBmeClear v s
  | .pcieBmeSet v => Sys2Proof.Machine.execPcieBmeSet v s
  | .initiateFlr v => Sys2Proof.Machine.execInitiateFlr v s
  | .flrDrainTimeout => Sys2Proof.Machine.execFlrDrainTimeout s
  | .flrDrainDone => Sys2Proof.Machine.execFlrDrainDone s
  | .pcieD3hotEntry v => Sys2Proof.Machine.execPcieD3hotEntry v s
  | .pcieD0Entry v => Sys2Proof.Machine.execPcieD0Entry v s
  | .pmeTurnOff => Sys2Proof.Machine.execPmeTurnOff s
  | .pcieL0sEntry => Sys2Proof.Machine.execPcieL0sEntry s
  | .pcieL1Request => Sys2Proof.Machine.execPcieL1Request s
  | .pcieL1Exit => Sys2Proof.Machine.execPcieL1Exit s
  | .ltrConditionChange => Sys2Proof.Machine.execLtrConditionChange s
  | .ltrIdleTimer => Sys2Proof.Machine.execLtrIdleTimer s
  | .barMemoryWrite bar off bytes => Sys2Proof.Machine.execBarMemoryWrite bar off bytes s
  | .barMemoryReadAbort bar off n => Sys2Proof.Machine.execBarMemoryReadAbort bar off n s
  | .bar2Read off n => Sys2Proof.Machine.execBar2Read off n s
  | .bar2Write off bytes => Sys2Proof.Machine.execBar2Write off bytes s
  | .unlkNewchal v => Sys2Proof.Machine.execUnlkNewchal v s
  | .unlkSubmit v => Sys2Proof.Machine.execUnlkSubmit v s
  | .unlkVerifyDone => Sys2Proof.Machine.execUnlkVerifyDone s
  | .unlkRelock v => Sys2Proof.Machine.execUnlkRelock v s
  | .unlkExpiry => Sys2Proof.Machine.execUnlkExpiry s
  | .sqTailDoorbell y v => Sys2Proof.Machine.execSqTailDoorbell y v s
  | .cqHeadDoorbell y v => Sys2Proof.Machine.execCqHeadDoorbell y v s
  | .dmaReadCompletion tag status poison bytes => Sys2Proof.Machine.execDmaReadCompletion tag status poison bytes s
  | .pcieCompletionTimeout tag => Sys2Proof.Machine.execPcieCompletionTimeout tag s
  | .tagQuarantineEnd tag => Sys2Proof.Machine.execTagQuarantineEnd tag s
  | .pcieProtocolError kind => Sys2Proof.Machine.execPcieProtocolError kind s
  | .ccEnable v => Sys2Proof.Machine.execCcEnable v s
  | .controllerReset v => Sys2Proof.Machine.execControllerReset v s
  | .ccShutdownNormal v => Sys2Proof.Machine.execCcShutdownNormal v s
  | .ccShutdownAbrupt v => Sys2Proof.Machine.execCcShutdownAbrupt v s
  | .sqFetch => Sys2Proof.Machine.execSqFetch s
  | .sqEntriesArrive grant => Sys2Proof.Machine.execSqEntriesArrive grant s
  | .cmdDeleteIoSq seq => Sys2Proof.Machine.execCmdDeleteIoSq seq s
  | .cmdCreateIoSq seq => Sys2Proof.Machine.execCmdCreateIoSq seq s
  | .cmdGetLogPage seq => Sys2Proof.Machine.execCmdGetLogPage seq s
  | .cmdDeleteIoCq seq => Sys2Proof.Machine.execCmdDeleteIoCq seq s
  | .cmdCreateIoCq seq => Sys2Proof.Machine.execCmdCreateIoCq seq s
  | .cmdIdentify seq => Sys2Proof.Machine.execCmdIdentify seq s
  | .cmdAbort seq => Sys2Proof.Machine.execCmdAbort seq s
  | .cmdSetFeatures seq => Sys2Proof.Machine.execCmdSetFeatures seq s
  | .cmdGetFeatures seq => Sys2Proof.Machine.execCmdGetFeatures seq s
  | .cmdAsyncEventRequest seq => Sys2Proof.Machine.execCmdAsyncEventRequest seq s
  | .cmdFirmwareImageDownload seq => Sys2Proof.Machine.execCmdFirmwareImageDownload seq s
  | .cmdFirmwareCommit seq => Sys2Proof.Machine.execCmdFirmwareCommit seq s
  | .cmdKeepAlive seq => Sys2Proof.Machine.execCmdKeepAlive seq s
  | .katoExpiry => Sys2Proof.Machine.execKatoExpiry s
  | .cmdDiscLoad seq x => Sys2Proof.Machine.execCmdDiscLoad seq x s
  | .cmdDiscSpin seq => Sys2Proof.Machine.execCmdDiscSpin seq s
  | .cmdDiscUnload seq => Sys2Proof.Machine.execCmdDiscUnload seq s
  | .cmdDiscPrepareFlip seq => Sys2Proof.Machine.execCmdDiscPrepareFlip seq s
  | .cmdAttestationReport seq => Sys2Proof.Machine.execCmdAttestationReport seq s
  | .cmdRecorderClear seq => Sys2Proof.Machine.execCmdRecorderClear seq s
  | .cmdMediaVerify seq => Sys2Proof.Machine.execCmdMediaVerify seq s
  | .cmdMediaVerifyStop seq => Sys2Proof.Machine.execCmdMediaVerifyStop seq s
  | .mediaVerifyDone => Sys2Proof.Machine.execMediaVerifyDone s
  | .cmdFlush seq => Sys2Proof.Machine.execCmdFlush seq s
  | .cmdWrite seq => Sys2Proof.Machine.execCmdWrite seq s
  | .cmdRead seq => Sys2Proof.Machine.execCmdRead seq s
  | .cmdCompare seq => Sys2Proof.Machine.execCmdCompare seq s
  | .cmdWriteZeroes seq => Sys2Proof.Machine.execCmdWriteZeroes seq s
  | .cmdDatasetManagement seq => Sys2Proof.Machine.execCmdDatasetManagement seq s
  | .journalUnitDurable => Sys2Proof.Machine.execJournalUnitDurable s
  | .powerStateSafePoint => Sys2Proof.Machine.execPowerStateSafePoint s
  | .apstTransition => Sys2Proof.Machine.execApstTransition s
  | .stagingFillTimeout k => Sys2Proof.Machine.execStagingFillTimeout k s
  | .xltCkptGo m v => Sys2Proof.Machine.execXltCkptGo m v s
  | .xltCkptInterval => Sys2Proof.Machine.execXltCkptInterval s
  | .xltLookup m v => Sys2Proof.Machine.execXltLookup m v s
  | .mergeWaitTimeout seq => Sys2Proof.Machine.execMergeWaitTimeout seq s
  | .snapshotUnpin seq => Sys2Proof.Machine.execSnapshotUnpin seq s
  | .medmRstGo m v => Sys2Proof.Machine.execMedmRstGo m v s
  | .brickResetSegmentDone good => Sys2Proof.Machine.execBrickResetSegmentDone good s
  | .coreMemoryAccess h k a n l2err => Sys2Proof.Machine.execCoreMemoryAccess h k a n l2err s
  | .cboClean h a => Sys2Proof.Machine.execCboClean h a s
  | .cboInval h a => Sys2Proof.Machine.execCboInval h a s
  | .cboFlush h a => Sys2Proof.Machine.execCboFlush h a s
  | .cboZero h a => Sys2Proof.Machine.execCboZero h a s
  | .fenceI h => Sys2Proof.Machine.execFenceI h s
  | .lnl1opWrite h v => Sys2Proof.Machine.execLnl1opWrite h v s
  | .scrubLine upsets => Sys2Proof.Machine.execScrubLine upsets s
  | .memcPageProtectStart m hi v => Sys2Proof.Machine.execMemcPageProtectStart m hi v s
  | .memcPageProtectDone => Sys2Proof.Machine.execMemcPageProtectDone s
  | .l2cMopClean m v => Sys2Proof.Machine.execL2cMopClean m v s
  | .l2cMopInvalidate m v => Sys2Proof.Machine.execL2cMopInvalidate m v s
  | .l2cMopCleanInvalidate m v => Sys2Proof.Machine.execL2cMopCleanInvalidate m v s
  | .l2cMopZero m v => Sys2Proof.Machine.execL2cMopZero m v s
  | .l2cMopDone => Sys2Proof.Machine.execL2cMopDone s
  | .l2cDrain m v => Sys2Proof.Machine.execL2cDrain m v s
  | .l2cDrainDone => Sys2Proof.Machine.execL2cDrainDone s
  | .flcProgram m b self => Sys2Proof.Machine.execFlcProgram m b self s
  | .flcErase m b self => Sys2Proof.Machine.execFlcErase m b self s
  | .flcSuspend m b => Sys2Proof.Machine.execFlcSuspend m b s
  | .flcResume m b => Sys2Proof.Machine.execFlcResume m b s
  | .flcProgramDone b good => Sys2Proof.Machine.execFlcProgramDone b good s
  | .flcEraseDone b good => Sys2Proof.Machine.execFlcEraseDone b good s
  | .flcSuspendDone b => Sys2Proof.Machine.execFlcSuspendDone b s
  | .flashRead m a n errs => Sys2Proof.Machine.execFlashRead m a n errs s
  | .flcResetScan => Sys2Proof.Machine.execFlcResetScan s
  | .flcScanDone => Sys2Proof.Machine.execFlcScanDone s
  | .optProgram m => Sys2Proof.Machine.execOptProgram m s
  | .optProgramDone => Sys2Proof.Machine.execOptProgramDone s
  | .optLockdbg m => Sys2Proof.Machine.execOptLockdbg m s
  | .optAuthSet m v => Sys2Proof.Machine.execOptAuthSet m v s
  | .optAuthExpiry => Sys2Proof.Machine.execOptAuthExpiry s
  | .secHash m => Sys2Proof.Machine.execSecHash m s
  | .secVerify m => Sys2Proof.Machine.execSecVerify m s
  | .secAttest m => Sys2Proof.Machine.execSecAttest m s
  | .secNewchal1 m => Sys2Proof.Machine.execSecNewchal1 m s
  | .secNewchal2 m => Sys2Proof.Machine.execSecNewchal2 m s
  | .secClear m => Sys2Proof.Machine.execSecClear m s
  | .secAuthopt m => Sys2Proof.Machine.execSecAuthopt m s
  | .secOpDone => Sys2Proof.Machine.execSecOpDone s
  | .secChallengeExpiry k => Sys2Proof.Machine.execSecChallengeExpiry k s
  | .evrReportIntake => Sys2Proof.Machine.execEvrReportIntake s
  | .evrWrGo m => Sys2Proof.Machine.execEvrWrGo m s
  | .evrCapture m => Sys2Proof.Machine.execEvrCapture m s
  | .evrCaptureDone => Sys2Proof.Machine.execEvrCaptureDone s
  | .evrRecordFlashed => Sys2Proof.Machine.execEvrRecordFlashed s
  | .evrClearDone => Sys2Proof.Machine.execEvrClearDone s
  | .gpioEdge n level => Sys2Proof.Machine.execGpioEdge n level s
  | .gpioSet m v => Sys2Proof.Machine.execGpioSet m v s
  | .gpioClr m v => Sys2Proof.Machine.execGpioClr m v s
  | .tsnsConversion t => Sys2Proof.Machine.execTsnsConversion t s
  | .debugAttach => Sys2Proof.Machine.execDebugAttach s
  | .debugDetach => Sys2Proof.Machine.execDebugDetach s
  | .debugHalt h => Sys2Proof.Machine.execDebugHalt h s
  | .debugResume h => Sys2Proof.Machine.execDebugResume h s
  | .crystalOutOfTolerance => Sys2Proof.Machine.execCrystalOutOfTolerance s
  | .sadcBootTrimDone trims => Sys2Proof.Machine.execSadcBootTrimDone trims s

end Sys2Proof.Machine
end

