-- ==== Sys2Proof/WellFormed.lean ====
section
/-! DEFINITION. Well-formed commands: the units an operand names exist on this hardware. -/
namespace Sys2Proof

/-- Operand check: three axes. -/
def wfAxis (a : Nat) : Bool := decide (a < 3)
/-- Operand check: the mortar window. -/
def wfMortarAddr (a : Nat) : Bool := decide (0x20000000 ≤ a) && decide (a < 0x20003000)
/-- Operand check: the flash banks. -/
def wfFlashAddr (a : Nat) : Bool := decide (0x8000000 ≤ a) && decide (a < 0x8800000)
/-- Operand check: 32-bit addresses, and the CSRs of a hart above them. -/
def wfAddress (a : Nat) : Bool := decide (a < 0x400005000)
/-- Operand check: four bridges. -/
def wfBridge (b : Nat) : Bool := decide (b < 4)
/-- Operand check: two flash banks. -/
def wfBank (b : Nat) : Bool := decide (b < 2)
/-- Operand check: BAR0 and BAR2. -/
def wfBarNo (n : Nat) : Bool := n == 0 || n == 2
/-- Operand check: eight trace channels. -/
def wfTraceChannel (c : Nat) : Bool := decide (c < 8)
/-- Operand check: the causes of a warm reset (R482). -/
def wfWarmCause (c : Nat) : Bool := decide (1 ≤ c) && decide (c ≤ 5)
/-- Operand check: the causes of a sweep that aborts (R304). -/
def wfSweepCause (c : Nat) : Bool := decide (1 ≤ c) && decide (c ≤ 7)
/-- Operand check: the decoder cores. -/
def wfLdpcCore (c : Nat) : Bool := decide (c < 6)
/-- Operand check: two groups of axes. -/
def wfStepGroup (g : Nat) : Bool := decide (g < 2)
/-- Operand check: the group counter (7 bits in the position word). -/
def wfGroupNo (g : Nat) : Bool := decide (g < 128)
/-- Operand check: five harts. -/
def wfHartNo (h : Nat) : Bool := decide (h < 5)
/-- Operand check: ten mortar glides. -/
def wfGlideChannel (k : Nat) : Bool := decide (k < 10)
/-- Operand check: the staging slots. -/
def wfStream (k : Nat) : Bool := decide (k < 4)
/-- Operand check: three challenges. -/
def wfChallengeSlot (k : Nat) : Bool := decide (k < 3)
/-- Operand check: four lanes. -/
def wfLane (l : Nat) : Bool := decide (l < 4)
/-- Operand check: three shunts. -/
def wfShuntLeg (k : Nat) : Bool := decide (k < 3)
/-- Operand check: sixteen pins. -/
def wfPin (n : Nat) : Bool := decide (n < 16)
/-- Operand check: the pages 0x00 to 0x28. -/
def wfPage (p : Nat) : Bool := decide (p < 0x29)
/-- Operand check: sixteen programs. -/
def wfProgram (p : Nat) : Bool := decide (p < 16)
/-- Operand check: 128 positions of a group. -/
def wfPosition (p : Nat) : Bool := decide (p < 128)
/-- Operand check: 225 tiles of a position (R76). -/
def wfTile (t : Nat) : Bool := decide (t < 225)
/-- Operand check: 25-bit strip addresses. -/
def wfStripAddr (p : Nat) : Bool := decide (p < 2 ^ 25)
/-- Operand check: two external routes. -/
def wfRoute (r : Nat) : Bool := decide (r < 2)
/-- Operand check: the rails. -/
def wfRailNo (r : Nat) : Bool := decide (r < 4)
/-- Operand check: 1, 2, 4 or 8 bytes. -/
def wfAccessSize (n : Nat) : Bool := n == 1 || n == 2 || n == 4 || n == 8
/-- Operand check: four spirals. -/
def wfSpiralNo (q : Nat) : Bool := decide (q < 4)
/-- Operand check: 10-bit tags. -/
def wfTagNo (t : Nat) : Bool := decide (t < 1024)
/-- Operand check: five watchdogs. -/
def wfWatchdog (w : Nat) : Bool := decide (w < 5)
/-- Operand check: queues 0 to 64. -/
def wfQueueNo (y : Nat) : Bool := decide (y ≤ 64)
/-- Operand check: 48-bit sequence numbers. -/
def wfSequence (n : Nat) : Bool := decide (n < 2 ^ 48)
/-- Operand check: the working slots from 0 on, the deskew ring's slots from 8 on (R79, R87). -/
def wfWorkSlot (k : Nat) : Bool := decide (k < 4) || decide (8 ≤ k ∧ k < 16)
/-- Operand check: the kinds of R331 as PCIE_PROTOCOL_ERROR numbers them. -/
def wfErrorKind (k : Nat) : Bool := decide (k < 10)
/-- Operand check: bytes. -/
def wfByteList (l : List Nat) : Bool := l.all (fun b => decide (b < 256))

/-- Every operand of a command names a unit that exists. -/
def Instr.wf : Instr → Bool
  | .registerWrite _ a size _ => wfAddress a && wfAccessSize size
  | .rcRegisterRead _ a => wfAddress a
  | .latchingLowWordRead _ a => wfAddress a
  | .unmappedAccess _ a => wfAddress a
  | .ctrlSrst _ p _ => wfPage p
  | .ctrlFreeze _ p _ => wfPage p
  | .pageLock _ p _ => wfPage p
  | .vinRise => true
  | .railsInRegulation => true
  | .powerOnResetRelease _ => true
  | .bootRomBoot => true
  | .railOutOfRegulation rail => wfRailNo rail
  | .railRestart => true
  | .uvloFall => true
  | .pinReset => true
  | .systemPllLoss => true
  | .channelPllLoss l => wfLane l
  | .warmReset cause => wfWarmCause cause
  | .wdtWrst _ _ => true
  | .lockstepMismatch => true
  | .wdtKick _ w _ => wfWatchdog w
  | .wdtStage1Expiry w => wfWatchdog w
  | .wdtStage2Expiry w => wfWatchdog w
  | .wdtRejoin _ _ => true
  | .wdtWcountClear => true
  | .irqClaimRead _ h => wfHartNo h
  | .irqComplete _ h _ => wfHartNo h
  | .mtimecmpWrite _ h _ => wfHartNo h
  | .mtimeCompareMatch h => wfHartNo h
  | .tickBoundary _ => true
  | .tickSupAck _ _ => true
  | .tickOverrun p => wfProgram p
  | .lengStop _ => true
  | .lengRestart _ _ => true
  | .lengRestartCheckDone => true
  | .mortarThirdPortWrite _ a size _ => wfMortarAddr a && wfAccessSize size
  | .mortarThirdPortRead _ a size => wfMortarAddr a && wfAccessSize size
  | .lengProgEnable _ p _ => wfProgram p
  | .lengProgCheckDone p => wfProgram p
  | .lengProgDisable _ p _ => wfProgram p
  | .lengUpdGo _ _ => true
  | .lengShadowReady _ _ => true
  | .lengShadowCheckDone => true
  | .lengShadowSwapnow _ _ => true
  | .lengShadowUnready _ _ => true
  | .lengExtEnable _ r _ => wfRoute r
  | .trcChEnable _ c _ => wfTraceChannel c
  | .trcGtrig _ _ => true
  | .trcChDone c => wfTraceChannel c
  | .linkZoneReached l g _ _ => wfLane l && wfGroupNo g
  | .acqMarkerWindowExpiry l _ _ => wfLane l
  | .frameSync l _ _ => wfLane l
  | .laneRateOutOfRange l _ => wfLane l
  | .adcSpareSwap l _ _ _ => wfLane l
  | .tileRelease psa pos tile => wfStripAddr psa && wfPosition pos && wfTile tile
  | .dskLateRelease psa pos tile => wfStripAddr psa && wfPosition pos && wfTile tile
  | .detRound slot => wfWorkSlot slot
  | .ldpcCodewordLoad _ psa spiral pos => wfStripAddr psa && wfSpiralNo spiral && wfPosition pos
  | .ldpcDecodeSet core => wfLdpcCore core
  | .ldpcCoreRetire core => wfLdpcCore core
  | .detArm _ _ => true
  | .stripDecode psa => wfStripAddr psa
  | .retryLadderRung psa => wfStripAddr psa
  | .ladderTmaxExpiry psa => wfStripAddr psa
  | .strpSlotRelease _ _ => true
  | .wencArm _ _ => true
  | .wencParityDone => true
  | .wencPassStart _ => true
  | .wencPassEnd => true
  | .wencPassgo _ _ => true
  | .wencPasswaitExpiry => true
  | .wencStartrevExpiry => true
  | .wencAbort _ _ _ => true
  | .wencStgRelease _ _ => true
  | .wsgLoad _ _ => true
  | .wsgLoadDone => true
  | .drawVerdict => true
  | .drawVqConsWrite _ _ => true
  | .winhTrip _ _ => true
  | .winhForce _ _ _ => true
  | .winhLatchClear _ _ _ => true
  | .hdlFrame _ => true
  | .hdlCmdWrite _ _ => true
  | .hdlRspRead _ => true
  | .grooveCrossing _ => true
  | .gaWord _ _ => true
  | .gaPositionLoss => true
  | .wobbleLockLoss => true
  | .fmtDiCapture _ _ => true
  | .fmtDiCaptureDone => true
  | .actJmpGoJump _ _ => true
  | .actJmpGoSweep _ _ => true
  | .actSweepHoldEnd => true
  | .actKickEnd => true
  | .actBrakeStart _ => true
  | .actBrakeEnd => true
  | .actCapture _ => true
  | .actSettleDone => true
  | .actSweepFail => true
  | .actJmpTimeout => true
  | .actJmpAbort _ _ _ => true
  | .offTrack => true
  | .shockDetected _ _ => true
  | .shockEnd => true
  | .focusLoss => true
  | .actSafeEnter _ _ => true
  | .actSafeExit _ _ => true
  | .safeOverrunWindowClear => true
  | .bridgeFault b _ => wfBridge b
  | .actBridgeEnable _ _ => true
  | .bridgeOffsetDone b _ => wfBridge b
  | .spnModeOff _ => true
  | .spnModeRun _ => true
  | .spnModeBrake _ => true
  | .spnModeZerov _ => true
  | .spnMeasureEnd _ _ _ => true
  | .spnAlignEnd => true
  | .spnLock => true
  | .spnSyncEnd => true
  | .spnRampTimeout => true
  | .spnZerovTimeout => true
  | .spnLockLoss => true
  | .spnBrakeToZerov => true
  | .spnStop => true
  | .spnNoloop => true
  | .spnVlimClear => true
  | .spnOverCurrent => true
  | .spnOverTemp _ => true
  | .spdcmdNosig => true
  | .stpPush _ g _ => wfStepGroup g
  | .stpMoveEnd g => wfStepGroup g
  | .stpStop _ _ => true
  | .stpPark _ _ => true
  | .stpParkDone => true
  | .stpBridgeFault a _ => wfAxis a
  | .stpTableLoad _ _ => true
  | .stpTableLoadDone => true
  | .stpHoldCurrent a => wfAxis a
  | .stpAxPosWrite _ a _ => wfAxis a
  | .stpAxModeWrite _ a _ => wfAxis a
  | .vinOv1 _ => true
  | .chopperWindowEnd _ _ _ => true
  | .vinChopEnd => true
  | .vinOv2 => true
  | .pwrClrChopflt _ _ => true
  | .pwrClrOvopen _ _ => true
  | .pwrClrLgidle _ _ => true
  | .v5outOvercurrent => true
  | .vinLoss _ => true
  | .pwrLgDone _ _ => true
  | .lgTimeout => true
  | .holdupEnd => true
  | .vinRecovered => true
  | .calMgArm _ k _ => wfGlideChannel k
  | .calMgTgtWrite _ k _ => wfGlideChannel k
  | .glideTargetWrite _ a _ _ => wfAddress a
  | .calTrigAdcstat _ _ => true
  | .calAdcstatDone l _ => wfLane l
  | .calAdcstatTimeout l => wfLane l
  | .calTrigShofs _ _ => true
  | .shuntOffsetDone _ => true
  | .shuntGainInjection leg _ => wfShuntLeg leg
  | .calTrigBrofs _ _ => true
  | .calTrigLink _ _ => true
  | .calLinkDone _ => true
  | .sadcRefconvWindowEnd _ _ _ => true
  | .calrefCheck _ => true
  | .calTempChange => true
  | .calSwpGo _ _ => true
  | .calSwpMoveDone => true
  | .calSwpPeriodEnd => true
  | .calSwpAbort _ _ cause => wfSweepCause cause
  | .pcieLinkUp _ _ => true
  | .perstAssert => true
  | .perstDeassert => true
  | .surpriseRemoval => true
  | .surprisePolicyTimeout => true
  | .pcieConfigWrite _ bytes => wfByteList bytes
  | .pcieBmeClear _ => true
  | .pcieBmeSet _ => true
  | .initiateFlr _ => true
  | .flrDrainTimeout => true
  | .flrDrainDone => true
  | .pcieD3hotEntry _ => true
  | .pcieD0Entry _ => true
  | .pmeTurnOff => true
  | .pcieL0sEntry => true
  | .pcieL1Request => true
  | .pcieL1Exit => true
  | .ltrConditionChange => true
  | .ltrIdleTimer => true
  | .barMemoryWrite bar _ bytes => wfBarNo bar && wfByteList bytes
  | .barMemoryReadAbort bar _ _ => wfBarNo bar
  | .bar2Read _ _ => true
  | .bar2Write _ bytes => wfByteList bytes
  | .unlkNewchal _ => true
  | .unlkSubmit _ => true
  | .unlkVerifyDone => true
  | .unlkRelock _ => true
  | .unlkExpiry => true
  | .sqTailDoorbell y _ => wfQueueNo y
  | .cqHeadDoorbell y _ => wfQueueNo y
  | .dmaReadCompletion tag _ _ bytes => wfTagNo tag && wfByteList bytes
  | .pcieCompletionTimeout tag => wfTagNo tag
  | .tagQuarantineEnd tag => wfTagNo tag
  | .pcieProtocolError kind => wfErrorKind kind
  | .ccEnable _ => true
  | .controllerReset _ => true
  | .ccShutdownNormal _ => true
  | .ccShutdownAbrupt _ => true
  | .sqFetch => true
  | .sqEntriesArrive _ => true
  | .cmdDeleteIoSq seq => wfSequence seq
  | .cmdCreateIoSq seq => wfSequence seq
  | .cmdGetLogPage seq => wfSequence seq
  | .cmdDeleteIoCq seq => wfSequence seq
  | .cmdCreateIoCq seq => wfSequence seq
  | .cmdIdentify seq => wfSequence seq
  | .cmdAbort seq => wfSequence seq
  | .cmdSetFeatures seq => wfSequence seq
  | .cmdGetFeatures seq => wfSequence seq
  | .cmdAsyncEventRequest seq => wfSequence seq
  | .cmdFirmwareImageDownload seq => wfSequence seq
  | .cmdFirmwareCommit seq => wfSequence seq
  | .cmdKeepAlive seq => wfSequence seq
  | .katoExpiry => true
  | .cmdDiscLoad seq _ => wfSequence seq
  | .cmdDiscSpin seq => wfSequence seq
  | .cmdDiscUnload seq => wfSequence seq
  | .cmdDiscPrepareFlip seq => wfSequence seq
  | .cmdAttestationReport seq => wfSequence seq
  | .cmdRecorderClear seq => wfSequence seq
  | .cmdMediaVerify seq => wfSequence seq
  | .cmdMediaVerifyStop seq => wfSequence seq
  | .mediaVerifyDone => true
  | .cmdFlush seq => wfSequence seq
  | .cmdWrite seq => wfSequence seq
  | .cmdRead seq => wfSequence seq
  | .cmdCompare seq => wfSequence seq
  | .cmdWriteZeroes seq => wfSequence seq
  | .cmdDatasetManagement seq => wfSequence seq
  | .journalUnitDurable => true
  | .powerStateSafePoint => true
  | .apstTransition => true
  | .stagingFillTimeout k => wfStream k
  | .xltCkptGo _ _ => true
  | .xltCkptInterval => true
  | .xltLookup _ _ => true
  | .mergeWaitTimeout seq => wfSequence seq
  | .snapshotUnpin seq => wfSequence seq
  | .medmRstGo _ _ => true
  | .brickResetSegmentDone _ => true
  | .coreMemoryAccess h _ a _ _ => wfHartNo h && wfAddress a
  | .cboClean h a => wfHartNo h && wfAddress a
  | .cboInval h a => wfHartNo h && wfAddress a
  | .cboFlush h a => wfHartNo h && wfAddress a
  | .cboZero h a => wfHartNo h && wfAddress a
  | .fenceI h => wfHartNo h
  | .lnl1opWrite h _ => wfHartNo h
  | .scrubLine _ => true
  | .memcPageProtectStart _ _ _ => true
  | .memcPageProtectDone => true
  | .l2cMopClean _ _ => true
  | .l2cMopInvalidate _ _ => true
  | .l2cMopCleanInvalidate _ _ => true
  | .l2cMopZero _ _ => true
  | .l2cMopDone => true
  | .l2cDrain _ _ => true
  | .l2cDrainDone => true
  | .flcProgram _ b _ => wfBank b
  | .flcErase _ b _ => wfBank b
  | .flcSuspend _ b => wfBank b
  | .flcResume _ b => wfBank b
  | .flcProgramDone b _ => wfBank b
  | .flcEraseDone b _ => wfBank b
  | .flcSuspendDone b => wfBank b
  | .flashRead _ a _ _ => wfFlashAddr a
  | .flcResetScan => true
  | .flcScanDone => true
  | .optProgram _ => true
  | .optProgramDone => true
  | .optLockdbg _ => true
  | .optAuthSet _ _ => true
  | .optAuthExpiry => true
  | .secHash _ => true
  | .secVerify _ => true
  | .secAttest _ => true
  | .secNewchal1 _ => true
  | .secNewchal2 _ => true
  | .secClear _ => true
  | .secAuthopt _ => true
  | .secOpDone => true
  | .secChallengeExpiry k => wfChallengeSlot k
  | .evrReportIntake => true
  | .evrWrGo _ => true
  | .evrCapture _ => true
  | .evrCaptureDone => true
  | .evrRecordFlashed => true
  | .evrClearDone => true
  | .gpioEdge n _ => wfPin n
  | .gpioSet _ _ => true
  | .gpioClr _ _ => true
  | .tsnsConversion _ => true
  | .debugAttach => true
  | .debugDetach => true
  | .debugHalt h => wfHartNo h
  | .debugResume h => wfHartNo h
  | .crystalOutOfTolerance => true
  | .sadcBootTrimDone _ => true

end Sys2Proof
end

