-- ==== Sys2Proof/Safety.lean ====
section
/-! DEFINITION. What a sound state is: every storage in its canonical form, and no register that the spec hard-wires
listed with a value of its own. -/
namespace Sys2Proof.Machine

/-- Every sparse storage of the state is in its canonical form and the register file lists no hard-wired register (page
IDs, R498; the parts the LN7720 lacks, R2). -/
def State.wf (s : State) : Bool :=
  SMap.wf (regReset s.variant) s.regs &&
  s.regs.all (fun e => !hardWired s.variant e.1) &&
  SMap.wf memByte s.mem &&
  SMap.wf mortWord s.leng.words &&
  SMap.wf flashErased s.flash.words &&
  SMap.wf optErased s.opt.words &&
  SMap.wf shadowOnes s.opt.shadow

/-- Command `c` run on `s` answers a next state, and `P` holds of it. -/
def Runs (c : Instr) (s : State) (P : State → Prop) : Prop := ∃ t, exec c s = .next t ∧ P t

/-- Master `m`'s 32-bit write of `v` to the register at `a` takes effect, the register's new contents being `new`: it is
granted, of a register that is there and may be written, in range and not locked out (R2, R14, R18, R431, R497, R502). -/
abbrev Takes (s : State) (m : Master) (a : Nat) (v new : Word) : Prop := judgeWrite s m a 4 v = .take new

/-- Interrupt bit `i` of page `p` is set in IRQ_RAW (R500). -/
abbrev State.irq (s : State) (p i : Nat) : Prop := s.bit (Reg.IRQ_RAW p) i = true

/-- After `s` page `p` has reported an error of this code: ERR_INFO shows it, or the earlier one it still holds (R501). -/
abbrev State.reports (s : State) (p code : Nat) (t : State) : Prop :=
  t.fld (Reg.ERR_INFO p) 0 16 = if s.fld (Reg.ERR_INFO p) 24 8 = 0 then code else s.fld (Reg.ERR_INFO p) 0 16

/-- Translation is not mounted, nothing waits for the journal, no shutdown goes on and the host queues hold no command: only
the commands that concern XLT, MEDM and the host queues change them. -/
abbrev State.quiet (s : State) : Prop := mounted s = false ∧ s.xlt.jr.units = [] ∧ s.hq.shut = 0 ∧ s.hq.ctx = []

/-- `c` is the only command the host queues hold; it has been accepted, its entry is in order, and nothing hinders it.
Translation is not mounted. -/
abbrev State.alone (s : State) (c : Ctx) : Prop :=
  mounted s = false ∧ s.xlt.jr.units = [] ∧ s.hq.shut = 0 ∧ s.hq.ctx = [c] ∧ c.phase = .accepted ∧ s.boot.warm = false ∧
  lgRuns s = false ∧ cfs s = false ∧ entryFault s c = none

/-- The state in which an accepted command runs, its PRPs known or asked for (R347). -/
abbrev State.taken (s : State) (c : Ctx) : State := startPrp (s.updCtx c.seq (fun d => { d with phase := .running })) c

/-- What tells which row takes a command up: its queue, its opcode, and the ACTION or SELECT where rows differ by it. -/
def cmdKey (c : Ctx) : Bool × Nat × Nat :=
  (c.admin, c.opc, if c.admin && c.opc == 0xC1 then c.f 10 0 4 else if c.admin && c.opc == 0xC4 then c.f 10 0 2 / 3 else 0)

/-- The rows that take up the command of acceptance number `q`; `x` is what a disc's load brings. -/
def cmdRows (q : Nat) (x : Option LoadIn) : List ((Bool × Nat × Nat) × Instr) :=
  [((true, 0x00, 0), .cmdDeleteIoSq q), ((true, 0x01, 0), .cmdCreateIoSq q), ((true, 0x02, 0), .cmdGetLogPage q),
   ((true, 0x04, 0), .cmdDeleteIoCq q), ((true, 0x05, 0), .cmdCreateIoCq q), ((true, 0x06, 0), .cmdIdentify q),
   ((true, 0x08, 0), .cmdAbort q), ((true, 0x09, 0), .cmdSetFeatures q), ((true, 0x0A, 0), .cmdGetFeatures q),
   ((true, 0x0C, 0), .cmdAsyncEventRequest q), ((true, 0x10, 0), .cmdFirmwareCommit q),
   ((true, 0x11, 0), .cmdFirmwareImageDownload q), ((true, 0x18, 0), .cmdKeepAlive q), ((true, 0xC1, 0), .cmdDiscLoad q x),
   ((true, 0xC1, 1), .cmdDiscSpin q), ((true, 0xC1, 2), .cmdDiscUnload q), ((true, 0xC1, 3), .cmdDiscPrepareFlip q),
   ((true, 0xC2, 0), .cmdAttestationReport q), ((true, 0xC3, 0), .cmdRecorderClear q), ((true, 0xC4, 0), .cmdMediaVerify q),
   ((true, 0xC4, 1), .cmdMediaVerifyStop q), ((false, 0x00, 0), .cmdFlush q), ((false, 0x01, 0), .cmdWrite q),
   ((false, 0x02, 0), .cmdRead q), ((false, 0x05, 0), .cmdCompare q), ((false, 0x08, 0), .cmdWriteZeroes q),
   ((false, 0x09, 0), .cmdDatasetManagement q)]

/-- A side is mounted and XLT is frozen by the debugger (R499), nothing waits for the journal and no shutdown goes on: what a
command does of itself stands alone, as nothing else of translation goes on meanwhile. -/
abbrev State.still (s : State) : Prop :=
  mounted s = true ∧ s.frozen pgXLT = true ∧ s.xlt.jr.units = [] ∧ s.hq.shut = 0 ∧ s.boot.warm = false

/-- `c` is the only command the host queues hold on a mounted side; it has been accepted, its entry is in order, and nothing
hinders it. -/
abbrev State.aloneMounted (s : State) (c : Ctx) : Prop :=
  s.still ∧ s.hq.ctx = [c] ∧ c.phase = .accepted ∧ lgRuns s = false ∧ cfs s = false ∧ entryFault s c = none

/-- A side is mounted and translation runs with nothing to do: no slot, job, reset, checkpoint, unit or read of its own, and
MEDM frozen. -/
abbrev State.resting (s : State) : Prop :=
  mounted s = true ∧ s.frozen pgXLT = false ∧ s.frozen pgMEDM = true ∧ s.boot.warm = false ∧ s.boot.phase ≠ .recovery ∧
  s.xlt.jr.units = [] ∧ s.xlt.jr.held.length < 48 ∧ s.xlt.slots = [] ∧ s.xlt.job = none ∧ s.xlt.reset = none ∧ s.xlt.ckpt = none ∧
  s.rd.groups = [] ∧ s.rd.toXlt = [] ∧ s.wenc.toXlt = [] ∧ s.hq.verify.st ≠ 1 ∧ s.hq.shut = 0 ∧ lgRuns s = false ∧ cfs s = false

/-- The command runs as `d` and its data pages are known. -/
abbrev State.readyAs (s : State) (c d : Ctx) : Prop := stillRuns (s.taken c) c.seq = some d ∧ prpReady d = true

/-- The status a function refuses with. -/
def errorOf {α : Type} : Except Nat α → Option Nat
  | .error e => some e
  | .ok _ => none

/-- Since `s` the command has been answered with a status and a result word: its completion is sent, or held in its context
(R342, R351). -/
def State.answered (t s : State) (c : Ctx) (st dw0 : Nat) : Bool :=
  match t.ctx c.seq with
  | some d => d.phase == .done && d.status == st && d.dw0 == dw0
  | none => (t.pcie.out.drop s.pcie.out.length).any (fun o => match o with
    | .cqe _ b => leNat (b.take 4) == dw0 % 2 ^ 32 && leNat ((b.drop 12).take 2) == c.cid % 2 ^ 16 && leNat (b.drop 14) / 2 == st
    | _ => false)

/-- SRAM holds no wrong word, no macro has failed, no mirror is enabled and no injection is armed (R415 to R421, R435). -/
abbrev State.soundMemory (s : State) : Prop :=
  s.ms.ueWords = [] ∧ s.ms.ceWords = [] ∧ s.reg Reg.MEMC_MACFAIL = 0#32 ∧ (∀ k ∈ List.range 4, s.bit (Reg.MEMC_MIR_CFG k) 0 = false) ∧
  s.bit Reg.MEMC_INJ 16 = false

/-- A core's access of `n` bytes at `a` within one aligned 8-byte block of SRAM, with L2 and the core's L1D off (R410, R413,
R429). -/
abbrev State.uncached (s : State) (h a n : Nat) : Prop :=
  h < 5 ∧ inSram a = true ∧ a % 8 + n ≤ 8 ∧ l2On s = false ∧ s.ms.drain = false ∧ l1dOn s h = false

/-- The bytes of data sent to the host since `s`, in order. -/
def State.dataSent (t s : State) : List Nat :=
  (t.pcie.out.drop s.pcie.out.length).flatMap (fun o => match o with | .data _ b _ => b | _ => [])

/-- Registers of the pages whose write does more than store (each by its own rule). -/
def actedOn : List Nat :=
  (List.range 5).flatMap (fun k => [Reg.SYS_MTIMECMP_HI k, Reg.WDT_KICK k, Reg.WDT_CFG k, Reg.IRQ_CLAIM k]) ++
  [Reg.TICK_SUP_ACK, Reg.PWR_CLR, Reg.PWR_LG, Reg.PWR_RAIL, Reg.SPN_MODE, Reg.STP_CMD, Reg.STP_TLOAD_CTRL, Reg.ACT_CFG, Reg.ACT_SAFE,
   Reg.ACT_JMP_CTRL, Reg.FMT_CFG, Reg.FMT_DI_CTRL, Reg.LENG_CMD, Reg.LENG_SHADOW, Reg.LENG_UPD_CTRL, Reg.TRC_GTRIG] ++
  (List.range 3).flatMap (fun k => [Reg.STP_Q_PUSH (k % 2), Reg.STP_AX_POS k, Reg.STP_AX_CFG k, Reg.STP_AX_CUR k]) ++
  (List.range 4).flatMap (fun k => [Reg.ACT_BR_STAT k, Reg.RFL_MODE k]) ++ (List.range 16).map Reg.LENG_PROG_CFG ++ (List.range 8).map Reg.TRC_CH_CFG ++
  [Reg.DSK_CFG, Reg.DSK_RING_SLOTS, Reg.DET_WS_SLOTS, Reg.STRP_RSA_SLOTS, Reg.DET_ARM_TAG, Reg.STRP_RSA_REL, Reg.WINH_LATCH, Reg.WINH_FORCE,
   Reg.WENC_ARM_TAG, Reg.WENC_PASSGO, Reg.WENC_ARM_CTRL, Reg.WENC_STG_REL, Reg.WSG_LOAD_CTRL, Reg.WSG_CFG, Reg.DRAW_VQ_CONS, Reg.HDL_CMD,
   Reg.CAL_TRIG, Reg.CAL_SWP_CTRL] ++ (List.range 10).flatMap (fun k => [Reg.CAL_MG_CFG k, Reg.CAL_MG_TGT k]) ++
  [Reg.XLT_CKPT, Reg.XLT_LK_CTRL, Reg.MEDM_RST, Reg.XLT_TBL_BASE, Reg.XLT_IDX_BASE, Reg.MEDM_BT_BASE, Reg.XLT_CFG, Reg.XLT_MERGE, Reg.MEDM_GC,
   Reg.MEDM_WL, Reg.MEDM_RET, Reg.HQ_CTRL, Reg.HQ_SEQ_LO, Reg.HQ_SEQ_HI, Reg.DMA_CFG, Reg.MEMC_PPROT_LO, Reg.MEMC_PPROT_HI, Reg.L2C_MOP,
   Reg.L2C_CTRL, Reg.OPT_CMD, Reg.OPT_AUTH, Reg.SEC_CMD, Reg.EVR_WR, Reg.EVR_CFG, Reg.EVR_PFR_BASE, Reg.WDT_REJOIN, Reg.WDT_WRST, Reg.GPIO_SET,
   Reg.GPIO_CLR, Reg.DBG_CFG, Reg.FLC_B_CMD 0, Reg.FLC_B_CMD 1]

/-- A register of a page whose write stores its new contents, and no more. -/
def storeOnly (a : Nat) : Bool :=
  isPage a && decide (0x40 ≤ a % 0x1000) && !actedOn.contains a && decide (pageOf a ≠ 0x1E) && (glidedOfTarget a).isNone

/-! ## Frames -/

/-- The parts of the state besides the register file. -/
inductive StatePart where
  | supStat | rwo | roRecs | latches | resp | memory | fresh | ticks | boot | harts | pwr | mortar | rd | wenc | spn | stp | fmt | sv
  | cal | pcie | hq | xlt | ms | flash | opt | evr | sec
  deriving DecidableEq, Repr

/-- A part is in `t` as in `s`; memory byte by byte. -/
def State.same (s t : State) : StatePart → Prop
  | .supStat => t.supStat = s.supStat
  | .rwo => t.rwoDone = s.rwoDone
  | .roRecs => t.roRecs = s.roRecs
  | .latches => t.latches = s.latches
  | .resp => t.resp = s.resp
  | .memory => ∀ a, t.byte a = s.byte a
  | .fresh => t.fresh = s.fresh
  | .ticks => t.ticks = s.ticks
  | .boot => t.boot = s.boot
  | .harts => t.harts = s.harts
  | .pwr => t.pwr = s.pwr
  | .mortar => t.leng = s.leng
  | .rd => t.rd = s.rd
  | .wenc => t.wenc = s.wenc
  | .spn => t.spn = s.spn
  | .stp => t.stp = s.stp
  | .fmt => t.fmt = s.fmt
  | .sv => t.sv = s.sv
  | .cal => t.cal = s.cal
  | .pcie => t.pcie = s.pcie
  | .hq => t.hq = s.hq
  | .xlt => t.xlt = s.xlt
  | .ms => t.ms = s.ms
  | .flash => t.flash = s.flash
  | .opt => t.opt = s.opt
  | .evr => t.evr = s.evr
  | .sec => t.sec = s.sec

/-! ## Registers a command may change -/

/-- The registers by which page `p` shows what has come about: STAT, IRQ_RAW, IRQ_STAT and ERR_INFO (R498 to R501). -/
def eventRegs (p : Nat) : List Nat := [Reg.STAT p, Reg.IRQ_RAW p, Reg.IRQ_STAT p, Reg.ERR_INFO p]

/-- The access tables' own registers that an access they refuse changes (R431). -/
def aclRegs : List Nat :=
  [Reg.ACL_LOGIDX, Reg.ACL_CNT] ++ (List.range 8).map Reg.ACL_LOG_ADDR ++ (List.range 8).map Reg.ACL_LOG_SRC ++ eventRegs 0x1E

/-- What a register write that is turned away changes besides its own page's ERR_INFO (R2, R431). -/
def refusalRegs : List Nat := Reg.ERR_INFO pgSYS :: aclRegs

/-- The memory controller's registers that an access may change (R415 to R421). -/
def memcRegs : List Nat :=
  [Reg.MEMC_CECNT, Reg.MEMC_UECNT, Reg.MEMC_ERRADDR, Reg.MEMC_ERRSRC, Reg.MEMC_INJ, Reg.MEMC_MACFAIL] ++ eventRegs pgMEMC

/-- Registers that follow the host queues, translation and media management as they go on (R335 to R407). -/
def hostRegs : List Nat :=
  [Reg.DET_WS_STAT, Reg.DMA_STAT, Reg.DMA_WRBYTES, Reg.DRAW_CNT, Reg.DRAW_OPC_RES, Reg.DRAW_VQ_PROD,
    Reg.DSK_RING_STAT, Reg.EVR_CFG, Reg.EVR_CLRCNT, Reg.EVR_FIRST, Reg.EVR_NCIRC, Reg.EVR_NPERM, Reg.EVR_PFR_STAT,
    Reg.EVR_POC, Reg.EVR_SEQ, Reg.EVR_WPOS, Reg.FLC_BOOT, Reg.FLC_ESEQ, Reg.HQ_ABT, Reg.HQ_AE, Reg.HQ_CMP, Reg.HQ_CTX,
    Reg.HQ_CTXPK, Reg.HQ_PS, Reg.HQ_STALL, Reg.LDPC_SLOTS, Reg.MEDM_JOB, Reg.MEDM_POOL, Reg.MEDM_WEAR, Reg.PCIE_LINK,
    Reg.PCIE_TAGS, Reg.SPN_FAULT, Reg.SPN_MODE, Reg.STRP_RSA_STAT, Reg.WENC_CNT, Reg.WENC_POS, Reg.WSG_CNT,
    Reg.XLT_CKPT, Reg.XLT_CNT, Reg.XLT_JRNL, Reg.XLT_JSN, Reg.XLT_LEAF, Reg.XLT_NCAP, Reg.XLT_NSZE, Reg.XLT_NUSE,
    aCSTS] ++ (List.range 2).map Reg.FLC_B_CMD ++ (List.range 2).map Reg.FLC_B_STAT ++ (List.range 2).map
    Reg.FLC_B_SUSP ++ (List.range 2).map Reg.STP_Q_STAT ++ (List.range 3).map Reg.STP_AX_ADDR ++ (List.range 3).map
    Reg.STP_AX_POS ++ (List.range 3).map Reg.STP_AX_VEL ++ (List.range 65).map Reg.HQ_CQPTR ++ (List.range 65).map
    Reg.HQ_QCFG ++ (List.range 65).map Reg.HQ_SQPTR ++ eventRegs pgDRAW ++ eventRegs pgEVR ++ eventRegs pgFLC ++
    eventRegs pgHQ ++ eventRegs pgMEDM ++ eventRegs pgSEC ++ eventRegs pgSPN ++ eventRegs pgSTP ++ eventRegs pgWENC ++
    eventRegs pgWSG ++ eventRegs pgXLT ++ memcRegs ++ refusalRegs

/-- The pages of BAR0 and of configuration space. -/
def hostPages : List Nat := [0x100000, 0x100001, 0x100002, 0x100003, 0x200000]

/-- The parts of the state that change as the host queues, translation and media management go on. -/
def hostParts : List StatePart := [.evr, .flash, .fresh, .harts, .hq, .latches, .memory, .ms, .pcie, .rd, .roRecs,
    .rwo, .sec, .spn, .stp, .wenc, .xlt]

/-- From any state in canonical form a well-formed command changes no register but those of `regs` and those of the 4 KB
pages `pages`, and no part of the state outside `parts`. -/
def Frame (c : Instr) (pages regs : List Nat) (parts : List StatePart) : Prop :=
  ∀ s t : State, s.wf = true → c.wf = true → exec c s = .next t →
    (∀ a, a / 4096 ∉ pages → a ∉ regs → t.reg a = s.reg a) ∧ ∀ p, p ∉ parts → s.same t p

end Sys2Proof.Machine
end

