-- ==== Sys2Proof/Certificates/Slice0/Obligations.lean ====
section
/-! DEFINITION. The statements for the provers. -/
open Sys2Proof Sys2Proof.Machine

-- names of bound variables follow the commands' operands; a clause need not use all of them
set_option linter.unusedVariables false

/-- A step takes the command at the front of the queue and runs it on the state with the rest of the queue; each row of
the table is one whole step (95_what_each_step_holds.md). -/
def Obligations.StepRunsTheFrontCommand : Prop :=
  ∀ (c : Instr) (s : State) (l : List Instr), step { s with pending := c :: l } = exec c { s with pending := l }

/-- On an empty queue nothing is commanded and the state stays (DESIGN CHOICE, log entry 1). -/
def Obligations.EmptyQueueIdles : Prop :=
  ∀ s : State, s.pending = [] → step s = .next s

/-- Every row of the table is a step of the part that comes about whole; none stops the model, and none changes which part
it is or the commands that wait. -/
def Obligations.EveryCommandRuns : Prop :=
  ∀ (c : Instr) (s : State), ∃ t, exec c s = .next t ∧ t.pending = s.pending ∧ t.variant = s.variant

/-- The invariant State.wf: register file, SRAM, mortar, flash and option area are kept in canonical form, and no register
that the spec hard-wires (page IDs, R498; parts the LN7720 lacks, R2) is listed. -/
def Obligations.StepKeepsCanonicalForm : Prop :=
  ∀ s t : State, s.wf = true → step s = .next t → t.wf = true

/-- The invariant of StepKeepsCanonicalForm holds right after reset. -/
def Obligations.ResetIsCanonical : Prop :=
  State.reset.wf = true ∧ State.reset.pending = []

/-- Whatever the front command does, the commands behind it stay in order and none is lost or added. -/
def Obligations.QueueIsFirstInFirstOut : Prop :=
  ∀ s t : State, step s = .next t → t.pending = s.pending.tail ∧ t.variant = s.variant

/-- The phases of start-up: off, rails starting, held in reset (R268, R269, R481, R504); V5OUT (R267). -/
def Obligations.SupplyEventsMoveStartUp : Prop :=
  (∀ (s : State), s.boot.phase = .off ∧ s.boot.restarts = 0 ∧ s.boot.failedRail = none →
    Runs (.vinRise) s fun t =>
      t.boot = { s.boot with phase := .railsStarting }) ∧
  (∀ (s : State), s.boot.phase = .railsStarting →
    Runs (.railsInRegulation) s fun t =>
      t.boot.phase = .held ∧ t.boot.restarts = 0 ∧ t.bit Reg.PWR_RAIL 16 = true ∧ t.fld Reg.PWR_RAIL 8 4 = 15) ∧
  (∀ (s : State) (r : Nat), s.boot.phase ≠ .off →
    Runs (.railOutOfRegulation r) s fun t =>
      t.boot.phase = .off ∧ t.boot.failedRail = some r ∧ t.bit Reg.PWR_RAIL 16 = false ∧ t.fld Reg.PWR_RAIL 8 4 = 0) ∧
  (∀ (s : State), s.boot.phase = .off ∧ s.boot.failedRail ≠ none ∧ s.boot.restarts < 3 →
    Runs (.railRestart) s fun t =>
      t.boot = { s.boot with phase := .railsStarting }) ∧
  (∀ (s : State), s.boot.phase = .off ∧ 3 ≤ s.boot.restarts →
    Runs (.railRestart) s fun t =>
      t.boot = s.boot) ∧
  (∀ (s : State), Runs (.uvloFall) s fun t =>
      t.boot.phase = .off ∧ t.boot.failedRail = none ∧ t.boot.restarts = 0 ∧ t.bit Reg.PWR_RAIL 16 = false ∧ t.fld Reg.PWR_RAIL 8 4 = 0) ∧
  (∀ (s : State), s.boot.phase ≠ .off ∧ s.boot.phase ≠ .railsStarting →
    Runs (.pinReset) s fun t =>
      t.boot.phase = .held ∧ t.boot.pin = true ∧ t.ticks = s.ticks ∧ t.mem = [] ∧ t.leng.words = []) ∧
  (∀ (s : State), s.boot.phase ≠ .off ∧ s.boot.phase ≠ .railsStarting →
    Runs (.systemPllLoss) s fun t =>
      t.boot.phase = .held ∧ t.boot.pin = false ∧ t.ticks = 0 ∧ t.mem = [] ∧ t.leng.words = []) ∧
  (∀ (s : State), s.bit Reg.PWR_RAIL 0 = true ∧ s.bit Reg.PWR_RAIL 12 = false →
    Runs (.v5outOvercurrent) s fun t =>
      t.bit Reg.PWR_RAIL 12 = true ∧ t.irq 0x02 7 ∧ s.reports 0x02 0x1106 t)

/-- From a held reset to a running part (R422, R477, R461), and the warm reset of R482 with its causes (R409, R492). -/
def Obligations.ResetsReleaseBootAndRestart : Prop :=
  (∀ (s : State) (k : Nat), s.boot.phase = .held →
    Runs (.powerOnResetRelease k) s fun t =>
      t.boot.phase = .released ∧ t.flash.scan = .due ∧ ∀ a, t.byte a = 0#8) ∧
  (∀ (s : State), s.flash.scan = .done ∧ s.boot.phase = .released ∧ s.boot.warm = false ∧ s.boot.heldCause5 = false →
    Runs (.bootRomBoot) s fun t =>
      t.boot.phase = .running ∨ t.boot.phase = .recovery) ∧
  (∀ (s : State) (c : Nat), (s.boot.phase = .running ∨ s.boot.phase = .recovery) ∧ s.boot.warm = false →
    Runs (.warmReset c) s fun t =>
      t.boot.warm = true ∧ t.flash.scan = .due ∧ t.ms.l2 = [] ∧ t.rd = State.reset.rd ∧ ∀ h ∈ t.harts, h.run = false) ∧
  (∀ (s : State), (s.boot.phase = .running ∨ s.boot.phase = .recovery) ∧ s.boot.warm = false →
    Runs (.lockstepMismatch) s fun t =>
      t.boot.warm = true ∧ t.flash.scan = .due ∧ t.ms.l2 = [] ∧ t.rd = State.reset.rd ∧ ∀ h ∈ t.harts, h.run = false) ∧
  (∀ (s : State) (v new : Word), (s.boot.phase = .running ∨ s.boot.phase = .recovery) ∧ s.boot.warm = false ∧ Takes s .sup Reg.WDT_WRST v new ∧ fieldOf v 0 1 = 1 →
    Runs (.wdtWrst .sup v) s fun t =>
      t.boot.warm = true ∧ t.flash.scan = .due ∧ t.ms.l2 = [] ∧ t.rd = State.reset.rd ∧ ∀ h ∈ t.harts, h.run = false) ∧
  (∀ (s : State), s.boot.warmAt + 60 * ticksPerSecond ≤ s.ticks →
    Runs (.wdtWcountClear) s fun t =>
      t.fld Reg.WDT_RST 16 8 = 0) ∧
  (∀ (s : State), s.ticks < s.boot.warmAt + 60 * ticksPerSecond →
    Runs (.wdtWcountClear) s fun t =>
      t.fld Reg.WDT_RST 16 8 = s.fld Reg.WDT_RST 16 8)

/-- Watchdogs (R486, R492, R493) and core isolation (R487). -/
def Obligations.WatchdogsCountKickAndIsolate : Prop :=
  (∀ (s : State) (m : Master) (new : Word), m.id < 5 ∧ Takes s m (Reg.WDT_KICK m.id) 0xA5C3#32 new ∧ (wdtStage s m.id = 1 ∨ wdtStage s m.id = 2) →
    Runs (.wdtKick m m.id 0xA5C3#32) s fun t =>
      wdtStage t m.id = 1 ∧ t.fld (Reg.WDT_STAT m.id) 0 16 = s.fld (Reg.WDT_TIME m.id) 0 16) ∧
  (∀ (s : State) (m : Master) (new : Word), m.id < 5 ∧ Takes s m (Reg.WDT_KICK m.id) 0xA5C3#32 new ∧ wdtStage s m.id ≠ 1 ∧ wdtStage s m.id ≠ 2 →
    Runs (.wdtKick m m.id 0xA5C3#32) s fun t =>
      t.reg (Reg.WDT_STAT m.id) = s.reg (Reg.WDT_STAT m.id)) ∧
  (∀ (s : State) (m : Master) (v new : Word), m.id < 5 ∧ Takes s m (Reg.WDT_KICK m.id) v new ∧ v ≠ 0xA5C3#32 →
    Runs (.wdtKick m m.id v) s fun t =>
      t.fld (Reg.WDT_STAT m.id) 24 8 = min (s.fld (Reg.WDT_STAT m.id) 24 8 + 1) 255 ∧ wdtStage t m.id = wdtStage s m.id ∧ s.reports 0x23 0x1F05 t) ∧
  (∀ (s : State) (m : Master) (w : Nat) (v new : Word), w < 5 ∧ m.id ≠ w ∧ Takes s m (Reg.WDT_KICK w) v new →
    Runs (.wdtKick m w v) s fun t =>
      t.reg (Reg.WDT_STAT w) = s.reg (Reg.WDT_STAT w)) ∧
  (∀ (s : State) (w : Nat), w < 5 ∧ s.frozen 0x23 = false ∧ wdtStage s w = 1 ∧ wdtPaused s w = false ∧ wdtCount s w = 0 →
    Runs (.wdtStage1Expiry w) s fun t =>
      wdtStage t w = 2 ∧ t.fld (Reg.WDT_STAT w) 0 16 = s.fld (Reg.WDT_TIME w) 16 16 ∧ t.irq 0x23 w ∧ s.reports 0x23 0x1F02 t) ∧
  (∀ (s : State) (w : Nat), s.wf = true ∧ w < 5 ∧ (s.frozen 0x23 = true ∨ wdtStage s w ≠ 1 ∨ wdtPaused s w = true ∨ wdtCount s w ≠ 0) →
    Runs (.wdtStage1Expiry w) s fun t =>
      t = s) ∧
  (∀ (s : State) (w : Nat), w < 4 ∧ s.harts.length = 5 ∧ s.frozen 0x23 = false ∧ wdtStage s w = 2 ∧ wdtPaused s w = false ∧ wdtCount s w = 0 →
    Runs (.wdtStage2Expiry w) s fun t =>
      wdtStage t w = 3 ∧ t.bit Reg.WDT_ISO w = true ∧ (t.hart w).run = false ∧ (t.hart w).reservation = none ∧ (t.hart w).claimed = [] ∧ (t.hart w).l1i = [] ∧ (t.hart w).l1d = [] ∧ t.irq 0x23 8 ∧ s.reports 0x23 0x1F03 t) ∧
  (∀ (s : State), s.frozen 0x23 = false ∧ wdtStage s 4 = 2 ∧ wdtPaused s 4 = false ∧ wdtCount s 4 = 0 ∧ s.boot.phase = .running ∧ s.boot.warm = false →
    Runs (.wdtStage2Expiry 4) s fun t =>
      t.boot.warm = true ∧ t.flash.scan = .due ∧ t.ms.l2 = [] ∧ t.rd = State.reset.rd ∧ ∀ h ∈ t.harts, h.run = false ∧ t.fld Reg.WDT_RST 4 3 = 1) ∧
  (∀ (s : State) (w : Nat), s.wf = true ∧ w < 5 ∧ (s.frozen 0x23 = true ∨ wdtStage s w ≠ 2 ∨ wdtPaused s w = true ∨ wdtCount s w ≠ 0) →
    Runs (.wdtStage2Expiry w) s fun t =>
      t = s) ∧
  (∀ (s : State) (v new : Word) (w : Nat), s.harts.length = 5 ∧ Takes s .sup Reg.WDT_REJOIN v new ∧ (∀ k ∈ rejoinCores v, isolated s k = true) ∧ w ∈ rejoinCores v →
    Runs (.wdtRejoin .sup v) s fun t =>
      t.bit Reg.WDT_ISO w = false ∧ (t.hart w).run = true ∧ (t.hart w).entry = (s.reg Reg.WDT_REJOINPC).toNat ∧ (s.bit (Reg.WDT_CFG w) 0 = true → wdtStage t w = 1 ∧ t.fld (Reg.WDT_STAT w) 0 16 = s.fld (Reg.WDT_TIME w) 0 16)) ∧
  (∀ (s : State) (m : Master) (v new : Word), Takes s m Reg.WDT_REJOIN v new ∧ (m ≠ .sup ∨ ∃ k ∈ rejoinCores v, isolated s k = false) →
    Runs (.wdtRejoin m v) s fun t =>
      t.reg Reg.WDT_ISO = s.reg Reg.WDT_ISO ∧ t.harts = s.harts ∧ s.reports 0x23 0x1F01 t)

/-- IRQ_CLAIM (R494) and the machine timer (R412, R504). Source numbers are page numbers plus 1. -/
def Obligations.InterruptsAreClaimedAndCompleted : Prop :=
  (∀ (s : State) (m : Master) (h p : Nat), pageGrants s m 0x24 .read = true ∧ h < s.harts.length ∧ h < 5 ∧ p < 0x29 ∧ sourceFree s h p = true ∧ routedTo s h p = true ∧ irqPrio s p ≠ 0 ∧ ∀ q ∈ List.range 0x29, sourceFree s h q = true → routedTo s h q = true → irqPrio s q < irqPrio s p ∨ irqPrio s q = irqPrio s p ∧ p ≤ q →
    Runs (.irqClaimRead m h) s fun t =>
      t.resp = ⟨p + 1, false⟩ ∧ (t.hart h).claimed = p :: (s.hart h).claimed) ∧
  (∀ (s : State) (m : Master) (h : Nat), pageGrants s m 0x24 .read = true ∧ h < 5 ∧ ∀ q ∈ List.range 0x29, sourceFree s h q = true → routedTo s h q = true → irqPrio s q = 0 →
    Runs (.irqClaimRead m h) s fun t =>
      t.resp = ⟨0, false⟩ ∧ t.harts = s.harts) ∧
  (∀ (s : State) (m : Master) (h p : Nat) (v new : Word), h < s.harts.length ∧ h < 5 ∧ Takes s m (Reg.IRQ_CLAIM h) v new ∧ fieldOf v 0 6 = p + 1 →
    Runs (.irqComplete m h v) s fun t =>
      (t.hart h).claimed = (s.hart h).claimed.filter (fun q => q != p)) ∧
  (∀ (s : State) (m : Master) (h : Nat) (v new : Word), h < s.harts.length ∧ h < 5 ∧ Takes s m (Reg.SYS_MTIMECMP_HI h) v new →
    Runs (.mtimecmpWrite m h v) s fun t =>
      (t.hart h).mtimecmp = (s.reg (Reg.SYS_MTIMECMP_LO h)).toNat + fieldOf new 0 31 * 2 ^ 32 ∧ ((t.hart h).timerIrq = true ↔ (t.hart h).mtimecmp ≤ s.mtime)) ∧
  (∀ (s : State) (h : Nat), h < s.harts.length ∧ (s.hart h).mtimecmp ≤ (s.ticks + 1) * 125 / 8 →
    Runs (.mtimeCompareMatch h) s fun t =>
      (t.hart h).timerIrq = true)

/-- Clocks (R504, R523), GPIO (R506) and TSNS (R507). Lane states: 5 OUT, 6 FAULT. -/
def Obligations.ClocksPinsAndSensorsReport : Prop :=
  (∀ (s : State), Runs (.crystalOutOfTolerance) s fun t =>
      t.bit Reg.SYS_CLK 0 = false ∧ s.reports 0x00 0x2105 t) ∧
  (∀ (s : State) (l : Nat), l < 4 ∧ l < s.rd.lanes.length ∧ (lstate s l = 2 ∨ lstate s l = 3 ∨ lstate s l = 4) →
    Runs (.channelPllLoss l) s fun t =>
      t.bit Reg.SYS_CLK (4 + l) = false ∧ t.irq 0x00 0 ∧ (t.lane l).locked = false ∧ (lstate t l = 5 ∨ lstate t l = 6) ∧ s.reports 0x00 0x2105 t) ∧
  (∀ (s : State) (l : Nat), l < 4 ∧ lstate s l ≠ 2 ∧ lstate s l ≠ 3 ∧ lstate s l ≠ 4 →
    Runs (.channelPllLoss l) s fun t =>
      t.bit Reg.SYS_CLK (4 + l) = false ∧ t.irq 0x00 0 ∧ t.rd = s.rd ∧ s.reports 0x00 0x2105 t) ∧
  (∀ (s : State) (n : Nat) (b : Bool), n < 16 ∧ s.frozen 0x25 = false ∧ s.bit Reg.GPIO_IN n ≠ b →
    Runs (.gpioEdge n b) s fun t =>
      t.bit Reg.GPIO_IN n = b ∧ (s.bit (Reg.GPIO_PCFG n) (if b then 0 else 1) = true → t.irq 0x25 n) ∧ (s.bit (Reg.GPIO_PCFG n) (if b then 0 else 1) = false → t.reg (Reg.IRQ_RAW 0x25) = s.reg (Reg.IRQ_RAW 0x25))) ∧
  (∀ (s : State) (m : Master) (v new : Word), Takes s m Reg.GPIO_SET v new →
    Runs (.gpioSet m v) s fun t =>
      t.reg Reg.GPIO_OUT = s.reg Reg.GPIO_OUT ||| (v &&& 0xFFFF#32)) ∧
  (∀ (s : State) (m : Master) (v new : Word), Takes s m Reg.GPIO_CLR v new →
    Runs (.gpioClr m v) s fun t =>
      t.reg Reg.GPIO_OUT = s.reg Reg.GPIO_OUT &&& ~~~v) ∧
  (∀ (s : State) (x : List Int) (k : Nat), s.frozen 0x26 = false ∧ x.length = 6 ∧ k < 6 →
    Runs (.tsnsConversion x) s fun t =>
      t.reg (Reg.TSNS_T k) = Word.ofNat (bitsOf 12 (x.getD k 0) + (if tempValid (x.getD k 0) then 32768 else 0)) ∧ (tempValid (x.getD k 0) = false → t.irq 0x26 3))

/-- The debug port (R508). -/
def Obligations.DebugPortIsRecordedAndHaltsHarts : Prop :=
  (∀ (s : State), s.bit Reg.DBG_STAT 0 = false →
    Runs (.debugAttach) s fun t =>
      t.bit Reg.DBG_STAT 0 = true ∧ t.fld Reg.DBG_CNT 0 16 = min (s.fld Reg.DBG_CNT 0 16 + 1) 65535 ∧ t.irq 0x27 0 ∧ t.evr.outbox.length = s.evr.outbox.length + 1) ∧
  (∀ (s : State), s.bit Reg.DBG_STAT 0 = true →
    Runs (.debugDetach) s fun t =>
      t.bit Reg.DBG_STAT 0 = false ∧ t.irq 0x27 1 ∧ t.evr.outbox.length = s.evr.outbox.length + 1) ∧
  (∀ (s : State) (h : Nat), h < 5 ∧ h < s.harts.length ∧ s.bit Reg.OPT_SEL 12 = false ∧ isolated s h = false →
    Runs (.debugHalt h) s fun t =>
      (t.hart h).halted = true ∧ t.bit Reg.DBG_STAT (8 + h) = true) ∧
  (∀ (s : State) (h : Nat), s.bit Reg.OPT_SEL 12 = true ∨ isolated s h = true →
    Runs (.debugHalt h) s fun t =>
      t.harts = s.harts ∧ t.reg Reg.DBG_STAT = s.reg Reg.DBG_STAT) ∧
  (∀ (s : State) (h : Nat), h < 5 ∧ h < s.harts.length ∧ s.bit Reg.OPT_SEL 12 = false →
    Runs (.debugResume h) s fun t =>
      (t.hart h).halted = false ∧ t.bit Reg.DBG_STAT (8 + h) = false) ∧
  (∀ (s : State) (h : Nat), s.bit Reg.OPT_SEL 12 = true →
    Runs (.debugResume h) s fun t =>
      t.harts = s.harts ∧ t.reg Reg.DBG_STAT = s.reg Reg.DBG_STAT)

/-- PWR's over-voltage ladder (R270 to R275). OVSTATE: 0 normal, 1 chopping, 2 ZVBRK, 3 OVOPEN. -/
def Obligations.OverVoltageLadder : Prop :=
  (∀ (s : State) (vin : Nat), 250 * s.fld Reg.PWR_OV 0 8 ≤ vin ∧ s.bit Reg.PWR_BRK 0 = true ∧ s.pwr.faulty = false ∧ s.pwr.brkg = false →
    Runs (.vinOv1 vin) s fun t =>
      t.pwr.brkg = true ∧ t.pwr.chopWin = some vin ∧ t.irq 0x02 0 ∧ ovState t = (if ovState s = 0 then 1 else ovState s) ∧ t.fld Reg.PWR_CNT 0 8 = min (s.fld Reg.PWR_CNT 0 8 + 1) 255) ∧
  (∀ (s : State) (vin : Nat), 250 * s.fld Reg.PWR_OV 0 8 ≤ vin ∧ s.bit Reg.PWR_BRK 0 = true ∧ s.pwr.faulty = false ∧ s.pwr.brkg = true →
    Runs (.vinOv1 vin) s fun t =>
      t.pwr = s.pwr ∧ ovState t = ovState s ∧ t.irq 0x02 0 ∧ t.fld Reg.PWR_CNT 0 8 = min (s.fld Reg.PWR_CNT 0 8 + 1) 255) ∧
  (∀ (s : State) (vin : Nat), 250 * s.fld Reg.PWR_OV 0 8 ≤ vin ∧ (s.bit Reg.PWR_BRK 0 = false ∨ s.pwr.faulty = true) →
    Runs (.vinOv1 vin) s fun t =>
      t.pwr.brkg = false ∧ t.irq 0x02 0 ∧ t.wenc.gate = false ∧ ovState t = (if ovState s = 3 then 3 else 2) ∧ t.fld Reg.PWR_CNT 0 8 = min (s.fld Reg.PWR_CNT 0 8 + 1) 255) ∧
  (∀ (s : State) (vin : Nat), s.wf = true ∧ vin < 250 * s.fld Reg.PWR_OV 0 8 →
    Runs (.vinOv1 vin) s fun t =>
      t = s) ∧
  (∀ (s : State) (vin fall : Nat) (code : Int) (v : Nat), s.pwr.chopWin = some v ∧ (v + 200 < vin ∨ (s.bit Reg.PWR_BRK 1 = false ∧ fall < 100) ∨ (s.bit Reg.PWR_BRK 1 = true ∧ code ≤ (s.fld Reg.PWR_BRK 16 12 : Int))) →
    Runs (.chopperWindowEnd vin fall code) s fun t =>
      t.pwr.faulty = true ∧ t.pwr.brkg = false ∧ t.pwr.chopWin = none ∧ t.irq 0x02 1 ∧ s.reports 0x02 0x1102 t) ∧
  (∀ (s : State) (vin fall : Nat) (code : Int) (v : Nat), s.pwr.chopWin = some v ∧ vin ≤ v + 200 ∧ ((s.bit Reg.PWR_BRK 1 = false ∧ 100 ≤ fall) ∨ (s.bit Reg.PWR_BRK 1 = true ∧ (s.fld Reg.PWR_BRK 16 12 : Int) < code)) →
    Runs (.chopperWindowEnd vin fall code) s fun t =>
      t.pwr = { s.pwr with chopWin := none }) ∧
  (∀ (s : State), vinLow s = true →
    Runs (.vinChopEnd) s fun t =>
      t.pwr.brkg = false ∧ t.pwr.chopWin = none ∧ ovState t = (if ovState s = 1 then 0 else ovState s)) ∧
  (∀ (s : State), Runs (.vinOv2) s fun t =>
      ovState t = 3 ∧ spnState t = 0 ∧ t.wenc.gate = false ∧ t.irq 0x02 2 ∧ s.reports 0x02 0x1103 t) ∧
  (∀ (s : State) (m : Master) (v new : Word), Takes s m Reg.PWR_CLR v new ∧ clrOk s v = true ∧ fieldOf v 0 1 = 1 →
    Runs (.pwrClrChopflt m v) s fun t =>
      t.pwr.faulty = false) ∧
  (∀ (s : State) (m : Master) (v new : Word), Takes s m Reg.PWR_CLR v new ∧ clrOk s v = true ∧ fieldOf v 0 2 ≠ 0 ∧ (ovState s = 2 ∨ ovState s = 3) →
    Runs (.pwrClrOvopen m v) s fun t =>
      ovState t = 0) ∧
  (∀ (s : State) (m : Master) (v new : Word), Takes s m Reg.PWR_CLR v new ∧ fieldOf v 0 2 ≠ 0 ∧ vinLow s = false →
    Runs (.pwrClrOvopen m v) s fun t =>
      t.pwr = s.pwr ∧ ovState t = ovState s ∧ s.reports 0x02 0x1101 t)

/-- LGSTATE: 0 idle, 1 CRITICAL, 2 PARK, 3 COAST, 4 RECOVERED (R276 to R282). -/
def Obligations.LastGaspSequence : Prop :=
  (∀ (s : State) (late : Bool), vinIsLost s = true ∧ s.bit Reg.PWR_HU 0 = true ∧ (lgState s = 0 ∨ lgState s = 4) →
    Runs (.vinLoss late) s fun t =>
      lgState t = 1 ∧ t.pwr.lossTick = some s.ticks ∧ t.bit Reg.HQ_CTRL 0 = false ∧ t.bit Reg.HDL_CFG 0 = false ∧ t.wenc.gate = false ∧ t.wenc.arms = [] ∧ t.irq 0x02 3 ∧ s.reports 0x02 0x1104 t) ∧
  (∀ (s : State) (m : Master) (v new : Word), Takes s m Reg.PWR_LG v new ∧ fieldOf v 8 1 = 1 ∧ lgState s = 1 ∧ s.pwr.recoverPend = false →
    Runs (.pwrLgDone m v) s fun t =>
      lgState t = 2 ∧ t.bit Reg.PWR_LG 8 = true ∧ t.irq 0x02 4) ∧
  (∀ (s : State) (m : Master) (v new : Word), Takes s m Reg.PWR_LG v new ∧ fieldOf v 8 1 = 1 ∧ lgState s = 1 ∧ s.pwr.recoverPend = true →
    Runs (.pwrLgDone m v) s fun t =>
      lgState t = 4 ∧ t.bit Reg.PWR_LG 8 = true ∧ t.irq 0x02 4 ∧ t.irq 0x02 6) ∧
  (∀ (s : State), lgState s = 1 ∧ s.pwr.lossTick.getD s.ticks + s.fld Reg.PWR_LG 0 8 * 1600 ≤ s.ticks →
    Runs (.lgTimeout) s fun t =>
      lgState t = (if s.pwr.recoverPend then 4 else 2) ∧ t.bit Reg.PWR_LG 8 = true ∧ t.irq 0x02 4 ∧ t.irq 0x02 5 ∧ s.reports 0x02 0x1105 t) ∧
  (∀ (s : State), lgState s = 2 ∧ ((s.pwr.parkCalled = true ∧ s.bit (Reg.STAT 4) 8 = false) ∨ belowRampSpd s = true) →
    Runs (.holdupEnd) s fun t =>
      lgState t = 3) ∧
  (∀ (s : State), 16000 ≤ s.pwr.above + 1 ∧ lgState s = 1 →
    Runs (.vinRecovered) s fun t =>
      t.pwr.recoverPend = true ∧ lgState t = 1) ∧
  (∀ (s : State), 16000 ≤ s.pwr.above + 1 ∧ (lgState s = 2 ∨ lgState s = 3) →
    Runs (.vinRecovered) s fun t =>
      lgState t = 4 ∧ t.irq 0x02 6) ∧
  (∀ (s : State) (m : Master) (v new : Word), Takes s m Reg.PWR_CLR v new ∧ clrOk s v = true ∧ fieldOf v 2 1 = 1 →
    Runs (.pwrClrLgidle m v) s fun t =>
      lgState t = 0 ∧ t.bit Reg.PWR_LG 8 = false) ∧
  (∀ (s : State) (m : Master) (v new : Word), Takes s m Reg.PWR_CLR v new ∧ fieldOf v 2 1 = 1 ∧ lgState s ≠ 4 →
    Runs (.pwrClrLgidle m v) s fun t =>
      lgState t = lgState s ∧ t.pwr = s.pwr ∧ s.reports 0x02 0x1101 t)

/-- The tick boundary (R190), TICK_SUP_ACK (R192), overruns (R209) and LENG's stop (R212). -/
def Obligations.TickAdvancesTimeAndSupervisorAcknowledges : Prop :=
  (∀ (s : State) (x : TickIn), Runs (.tickBoundary x) s fun t =>
      t.ticks = s.ticks + 1 ∧ t.leng.late = false ∧ t.fld Reg.PWR_VIN 0 13 = min 8191 (x.vin / 10)) ∧
  (∀ (s : State) (x : TickIn), (s.ticks + 1) % 2 ^ s.fld Reg.TICK_SUP 0 4 = s.fld Reg.TICK_SUP 16 10 →
    Runs (.tickBoundary x) s fun t =>
      t.leng.supOut = true ∧ t.irq 0x01 0) ∧
  (∀ (s : State) (x : TickIn), s.leng.late = false ∧ s.leng.overran = none →
    Runs (.tickBoundary x) s fun t =>
      t.bit Reg.LENG_UPD_CTRL 31 = false ∧ t.bit Reg.LENG_SHADOW 2 = false) ∧
  (∀ (s : State) (x : TickIn), s.leng.late = true ∨ s.leng.overran ≠ none →
    Runs (.tickBoundary x) s fun t =>
      t.reg Reg.LENG_UPD_CTRL = s.reg Reg.LENG_UPD_CTRL ∧ t.reg Reg.LENG_SHADOW = s.reg Reg.LENG_SHADOW ∧ (s.leng.overran ≠ none → t.fld Reg.LENG_OVR 0 16 = min (s.fld Reg.LENG_OVR 0 16 + 1) 65535 ∧ t.irq 0x07 0)) ∧
  (∀ (s : State) (m : Master) (v new : Word), Takes s m Reg.TICK_SUP_ACK v new →
    Runs (.tickSupAck m v) s fun t =>
      t.leng.supOut = (s.leng.supOut && fieldOf v 0 1 == 0)) ∧
  (∀ (s : State) (p : Nat), lengStopped s = false →
    Runs (.tickOverrun p) s fun t =>
      t.leng.late = true ∧ t.reg Reg.LENG_OVR_TICK = Word.ofNat s.ticks ∧ t.fld Reg.LENG_OVR 0 16 = min (s.fld Reg.LENG_OVR 0 16 + 1) 65535 ∧ t.irq 0x07 0) ∧
  (∀ (s : State) (w : Nat), lengStopped s = false →
    Runs (.lengStop w) s fun t =>
      lengStopped t = true ∧ t.irq 0x07 1 ∧ s.reports 0x07 0x0D04 t) ∧
  (∀ (s : State) (p : Nat), s.wf = true ∧ lengStopped s = true →
    Runs (.tickOverrun p) s fun t =>
      t = s) ∧
  (∀ (s : State) (w : Nat), s.wf = true ∧ lengStopped s = true →
    Runs (.lengStop w) s fun t =>
      t = s)

/-- LENG's programs (R202, R203, R212); what a check finds is what checkProg and installProg compute. -/
def Obligations.ProgramChecksAndRestart : Prop :=
  (∀ (s : State) (m : Master) (p : Nat) (v new : Word), p < 16 ∧ Takes s m (Reg.LENG_PROG_CFG p) v new ∧ progEn s p = false ∧ fieldOf new 0 1 = 1 →
    Runs (.lengProgEnable m p v) s fun t =>
      t.leng.check = some (.prog p) ∧ progEn t p = true ∧ t.bit (Reg.STAT 7) 0 = true) ∧
  (∀ (s : State) (p : Nat), p < 16 ∧ s.leng.check = some (.prog p) ∧ progEn s p = true ∧ (checkProg (setCheck s none) false p).1 = 0 ∧ (installProg (checkProg (setCheck s none) false p).2.2.2 (checkProg (setCheck s none) false p).2.2.1).1 = 0 →
    Runs (.lengProgCheckDone p) s fun t =>
      t.irq 0x07 3) ∧
  (∀ (s : State) (p : Nat), p < 16 ∧ s.leng.check = some (.prog p) ∧ progEn s p = true ∧ (checkProg (setCheck s none) false p).1 ≠ 0 →
    Runs (.lengProgCheckDone p) s fun t =>
      progEn t p = false ∧ t.irq 0x07 2 ∧ s.reports 0x07 0x0D03 t) ∧
  (∀ (s : State) (m : Master) (p : Nat) (v new : Word), p < 16 ∧ Takes s m (Reg.LENG_PROG_CFG p) v new ∧ progEn s p = true ∧ fieldOf new 0 1 = 0 →
    Runs (.lengProgDisable m p v) s fun t =>
      progEn t p = false ∧ t.leng.progs.all (fun g => g.prog != p || g.stopping) = true) ∧
  (∀ (s : State) (m : Master) (v new : Word), Takes s m Reg.LENG_CMD v new ∧ s.leng.check = none ∧ fieldOf v 0 1 = 1 →
    Runs (.lengRestart m v) s fun t =>
      t.leng.check = some .restart ∧ t.bit (Reg.STAT 7) 0 = true) ∧
  (∀ (s : State), s.leng.check = some .restart ∧ ((enabledProgs s).foldl restartOne (false, setCheck s none)).1 = false →
    Runs (.lengRestartCheckDone) s fun t =>
      lengStopped t = false) ∧
  (∀ (s : State), s.leng.check = some .restart ∧ lengStopped s = true ∧ ((enabledProgs s).foldl restartOne (false, setCheck s none)).1 = true →
    Runs (.lengRestartCheckDone) s fun t =>
      lengStopped t = true ∧ t.leng.check = none ∧ t.irq 0x07 2)

/-- Mortar's third port (R193): byte address 0x2000_0000 + 4 × word. -/
def Obligations.MortarThirdPortReadsAndWrites : Prop :=
  (∀ (s : State) (m : Master) (w : Nat) (v : Word), w < 0xC00 ∧ mortarGrants s m (0x20000000 + 4 * w) .write = true ∧ thirdOk s w = true →
    Runs (.mortarThirdPortWrite m (0x20000000 + 4 * w) 4 v) s fun t =>
      t.mort w = v ∧ ∀ b < 0xC00, b ≠ w → t.mort b = s.mort b) ∧
  (∀ (s : State) (m : Master) (a n : Nat) (v : Word), mortarGrants s m a .write = true ∧ (n ≠ 4 ∨ a % 4 ≠ 0 ∨ thirdOk s ((a - 0x20000000) / 4) = false) →
    Runs (.mortarThirdPortWrite m a n v) s fun t =>
      t.irq 0x07 6 ∧ s.reports 0x07 0x0D05 t ∧ ∀ b, t.mort b = s.mort b) ∧
  (∀ (s : State) (m : Master) (w : Nat), w < 0xC00 ∧ mortarGrants s m (0x20000000 + 4 * w) .read = true ∧ mortUe s w = false →
    Runs (.mortarThirdPortRead m (0x20000000 + 4 * w) 4) s fun t =>
      t.resp = ⟨(s.mort w).toNat, false⟩) ∧
  (∀ (s : State) (m : Master) (w : Nat), w < 0xC00 ∧ mortarGrants s m (0x20000000 + 4 * w) .read = true ∧ mortUe s w = true →
    Runs (.mortarThirdPortRead m (0x20000000 + 4 * w) 4) s fun t =>
      t.resp = ⟨thirdWord s w, false⟩ ∧ s.reports 0x07 0x0D07 t) ∧
  (∀ (s : State) (m : Master) (a n : Nat), mortarGrants s m a .read = false →
    Runs (.mortarThirdPortRead m a n) s fun t =>
      t.resp = ⟨0, false⟩ ∧ t.irq 0x1E 0) ∧
  (∀ (s : State) (m : Master) (a n : Nat) (v : Word), mortarGrants s m a .write = false →
    Runs (.mortarThirdPortWrite m a n v) s fun t =>
      t.leng = s.leng ∧ t.irq 0x1E 0)

/-- LENG_UPD_CTRL (R204), LENG_SHADOW (R206 to R208), LENG_EXT_CFG (R213). -/
def Obligations.BatchShadowAndRoutes : Prop :=
  (∀ (s : State) (m : Master) (v new : Word), Takes s m Reg.LENG_UPD_CTRL v new ∧ updOk s v = true ∧ fieldOf v 31 1 = 1 →
    Runs (.lengUpdGo m v) s fun t =>
      t.bit Reg.LENG_UPD_CTRL 31 = true ∧ t.leng.upd = (List.range (fieldOf v 0 5)).map (fun i => (s.fld (Reg.LENG_UPD_ADDR i) 0 12, s.reg (Reg.LENG_UPD_DATA i)))) ∧
  (∀ (s : State) (m : Master) (v new : Word), Takes s m Reg.LENG_UPD_CTRL v new ∧ updOk s v = false →
    Runs (.lengUpdGo m v) s fun t =>
      t.bit Reg.LENG_UPD_CTRL 31 = s.bit Reg.LENG_UPD_CTRL 31 ∧ t.leng.upd = s.leng.upd ∧ s.reports 0x07 0x0D01 t) ∧
  (∀ (s : State) (m : Master) (v new : Word), Takes s m Reg.LENG_SHADOW v new ∧ s.leng.check = none ∧ shadowReady s = false ∧ fieldOf v 0 1 = 1 ∧ fieldOf v 1 1 = 0 ∧ fieldOf v 2 1 = 0 →
    Runs (.lengShadowReady m v) s fun t =>
      t.leng.check = some .shadow ∧ shadowChk t = true) ∧
  (∀ (s : State), s.leng.check = some .shadow ∧ (shadowFinds s).1.1 = 0 →
    Runs (.lengShadowCheckDone) s fun t =>
      shadowReady t = true ∧ shadowChk t = false ∧ t.leng.check = none) ∧
  (∀ (s : State), s.leng.check = some .shadow ∧ shadowReady s = false ∧ (shadowFinds s).1.1 ≠ 0 →
    Runs (.lengShadowCheckDone) s fun t =>
      shadowReady t = false ∧ shadowChk t = false ∧ t.leng.check = none ∧ t.irq 0x07 2 ∧ s.reports 0x07 0x0D03 t ∧ t.fld Reg.LENG_LOADERR 0 4 = (shadowFinds s).1.1 % 16) ∧
  (∀ (s : State) (m : Master) (v new : Word), Takes s m Reg.LENG_SHADOW v new ∧ shadowOk s v = true ∧ fieldOf v 2 1 = 1 →
    Runs (.lengShadowSwapnow m v) s fun t =>
      t.bit Reg.LENG_SHADOW 2 = true ∧ t.bit (Reg.STAT 7) 9 = true) ∧
  (∀ (s : State) (m : Master) (v new : Word), Takes s m Reg.LENG_SHADOW v new ∧ shadowOk s v = true ∧ fieldOf v 1 1 = 1 →
    Runs (.lengShadowUnready m v) s fun t =>
      shadowReady t = false) ∧
  (∀ (s : State) (m : Master) (v new : Word), Takes s m Reg.LENG_SHADOW v new ∧ shadowOk s v = false →
    Runs (.lengShadowSwapnow m v) s fun t =>
      t.reg Reg.LENG_SHADOW = s.reg Reg.LENG_SHADOW ∧ t.leng.check = s.leng.check ∧ s.reports 0x07 0x0D01 t) ∧
  (∀ (s : State) (m : Master) (r : Nat) (v new : Word), r < 2 ∧ Takes s m (Reg.LENG_EXT_CFG r) v new →
    Runs (.lengExtEnable m r v) s fun t =>
      t.reg (Reg.LENG_EXT_CFG r) = new)

/-- The trace channels' heads and flags (R214 to R216): flag 0 ARMED, 1 TRIGGERED, 2 DONE. -/
def Obligations.TraceChannelsArmTriggerAndEnd : Prop :=
  (∀ (s : State) (m : Master) (c : Nat) (v new : Word), c < 8 ∧ Takes s m (Reg.TRC_CH_CFG c) v new ∧ trcOn s c = false ∧ fieldOf new 0 1 = 1 →
    Runs (.trcChEnable m c v) s fun t =>
      t.mort (trcHead c 0) = 0#32 ∧ t.mort (trcHead c 1) = 0#32 ∧ t.mort (trcHead c 2) = 0#32 ∧ t.mort (trcHead c 3) = 1#32 ∧ t.bit Reg.TRC_DONE c = false) ∧
  (∀ (s : State) (m : Master) (c : Nat) (v new : Word), c < 8 ∧ Takes s m Reg.TRC_GTRIG v new ∧ fieldOf v c 1 = 1 ∧ trcOn s c = true ∧ trcFlag s c 0 = true →
    Runs (.trcGtrig m v) s fun t =>
      trcFlag t c 1 = true) ∧
  (∀ (s : State) (c : Nat), c < 8 ∧ s.frozen 0x08 = false ∧ trcFlag s c 1 = true ∧ trcFlag s c 2 = false ∧ (s.trc c).post = 0 →
    Runs (.trcChDone c) s fun t =>
      trcFlag t c 2 = true ∧ t.bit Reg.TRC_DONE c = true ∧ t.irq 0x08 1) ∧
  (∀ (s : State) (c : Nat), s.wf = true ∧ (s.frozen 0x08 = true ∨ trcFlag s c 1 = false ∨ trcFlag s c 2 = true ∨ (s.trc c).post ≠ 0) →
    Runs (.trcChDone c) s fun t =>
      t = s)

/-- The states of a lane (R57 to R75): 0 OFF, 1 ARMED, 2 ACQ, 3 TRACK, 4 REACQ, 5 OUT, 6 FAULT. -/
def Obligations.LanesAcquireTrackAndLoseLock : Prop :=
  (∀ (s : State) (l g rate : Nat) (rx : List RawSample), lanePresent s l = true ∧ s.frozen (pgRFL l) = false ∧ l < s.rd.lanes.length ∧ laneMode s l ≠ 0 ∧ laneMode s l ≠ 3 ∧ lstate s l ≠ 6 ∧ (lstate s l ≠ 0 ∨ (runningArm s).isSome = true) ∧ lgRuns s = false ∧ (s.lane l).sparePick = none →
    Runs (.linkZoneReached l g rate rx) s fun t =>
      lstate t l = 2 ∧ t.fld (Reg.RFL_POS l) 16 7 = g % 128 ∧ t.fld (Reg.RFL_RATE l) 0 16 = rate % 65536 ∧ t.bit Reg.SYS_CLK (4 + l) = true ∧ (t.lane l).group = g % 128 ∧ (t.lane l).expect = (0, 0) ∧ (t.lane l).marker = (markerSearch s l ((rxBits (takeIn s l rx)).drop 1887)).isSome) ∧
  (∀ (s : State) (l g rate : Nat) (rx : List RawSample), lanePresent s l = true ∧ s.frozen (pgRFL l) = false ∧ l < s.rd.lanes.length ∧ (s.lane l).sparePick = none →
    Runs (.linkZoneReached l g rate rx) s fun t =>
      (t.lane l).pga = s.fld (Reg.RFL_AFE l) 0 6 ∧ (t.lane l).hpf = s.fld (Reg.RFL_AFE l) 8 2 ∧ t.rd.plan = nextPlan s) ∧
  (∀ (s : State) (l g rate k p : Nat) (rx : List RawSample), lanePresent s l = true ∧ s.frozen (pgRFL l) = false ∧ l < s.rd.lanes.length ∧ (s.lane l).sparePick = some k ∧ slotConverter s l (s.fld (Reg.RFL_SUB_STAT l k) 4 3) = some k ∧ spareOf s l = some p ∧ k ≠ p ∧ k ∉ (s.lane l).retirePend →
    Runs (.linkZoneReached l g rate rx) s fun t =>
      spareOf t l = some k ∧ t.reg (Reg.RFL_SUB_STAT l k) = 1#32 ∧ t.reg (Reg.RFL_SUB_STAT l p) = Word.ofNat (s.fld (Reg.RFL_SUB_STAT l k) 4 3 * 16) ∧ (t.lane l).sparePick = none ∧ (t.lane l).pga = s.fld (Reg.RFL_AFE l) 0 6 ∧ t.rd.plan = nextPlan s) ∧
  (∀ (s : State) (l g rate : Nat) (rx : List RawSample), lanePresent s l = true ∧ s.frozen (pgRFL l) = false ∧ l < s.rd.lanes.length ∧ laneMode s l = 3 ∧ lstate s l ≠ 6 ∧ lgRuns s = false ∧ (s.lane l).sparePick = none →
    Runs (.linkZoneReached l g rate rx) s fun t =>
      lstate t l = lstate s l ∧ (t.lane l).group = g % 128 ∧ (t.lane l).expect = (128, 0)) ∧
  (∀ (s : State) (l g rate : Nat) (rx : List RawSample), lanePresent s l = true ∧ s.frozen (pgRFL l) = false ∧ l < s.rd.lanes.length ∧ (laneMode s l = 0 ∨ lstate s l = 6 ∨ lgRuns s = true ∨ (lstate s l = 0 ∧ runningArm s = none ∧ laneMode s l ≠ 3)) ∧ (s.lane l).sparePick = none →
    Runs (.linkZoneReached l g rate rx) s fun t =>
      lstate t l = lstate s l ∧ (t.lane l).expect = (s.lane l).expect ∧ (t.lane l).group = (s.lane l).group) ∧
  (∀ (s : State) (l g rate : Nat) (rx : List RawSample), s.wf = true ∧ (lanePresent s l = false ∨ s.frozen (pgRFL l) = true) →
    Runs (.linkZoneReached l g rate rx) s fun t =>
      t = s) ∧
  (∀ (s : State) (l : Nat) (rx : List RawSample) (skew : Nat), lanePresent s l = true ∧ s.frozen (pgRFL l) = false ∧ l < s.rd.lanes.length ∧ lstate s l = 2 ∧ (s.lane l).marker = false ∧ (s.lane l).expect = (0, 0) ∧ syncSearch true 36 (s.fld (Reg.RFL_SYNC_CTRL l) 4 3) (laneWindow ({ s.lane l with buf := (s.lane l).buf ++ takeIn s l rx }) 36) = none →
    Runs (.acqMarkerWindowExpiry l rx skew) s fun t =>
      lstate t l = 4 ∧ (t.lane l).reacqLeft = 4 ∧ (t.lane l).expect = (0, 1) ∧ t.irq (pgRFL l) 0 ∧ t.irq (pgRFL l) 1 ∧ s.reports (pgRFL l) 0x0003 t) ∧
  (∀ (s : State) (l : Nat) (rx : List RawSample) (skew : Nat) (q : Int × Nat), lanePresent s l = true ∧ s.frozen (pgRFL l) = false ∧ l < s.rd.lanes.length ∧ lstate s l = 2 ∧ (s.lane l).marker = false ∧ (s.lane l).expect = (0, 0) ∧ (s.lane l).swapDue = none ∧ syncSearch true 36 (s.fld (Reg.RFL_SYNC_CTRL l) 4 3) (laneWindow ({ s.lane l with buf := (s.lane l).buf ++ takeIn s l rx }) 36) = some q →
    Runs (.acqMarkerWindowExpiry l rx skew) s fun t =>
      lstate t l = 3 ∧ (t.lane l).locked = true ∧ (t.lane l).expect = (0, 1) ∧ t.irq (pgRFL l) 0 ∧ s.reports (pgRFL l) 0x0003 t ∧ t.fld (Reg.DSK_LANE_SKEW l) 0 11 = min skew 2047) ∧
  (∀ (s : State) (l : Nat) (rx : List RawSample) (skew : Nat), s.wf = true ∧ (lanePresent s l = false ∨ s.frozen (pgRFL l) = true ∨ lstate s l ≠ 2 ∨ (s.lane l).marker = true ∨ (s.lane l).expect ≠ (0, 0)) →
    Runs (.acqMarkerWindowExpiry l rx skew) s fun t =>
      t = s) ∧
  (∀ (s : State) (l : Nat) (rx : List RawSample) (skew : Nat) (q : Int × Nat), lanePresent s l = true ∧ s.frozen (pgRFL l) = false ∧ l < s.rd.lanes.length ∧ laneMode s l ≠ 3 ∧ (s.lane l).expect.1 < 128 ∧ (lstate s l = 3 ∨ lstate s l = 2 ∧ ((s.lane l).marker = true ∨ (s.lane l).expect ≠ (0, 0)) ∧ (s.lane l).swapDue = none) ∧ syncSearch ((s.lane l).expect.2 == 0) 4 (s.fld (Reg.RFL_SYNC_CTRL l) 0 3) (laneWindow ({ s.lane l with buf := (s.lane l).buf ++ takeIn s l rx }) 4) = some q →
    Runs (.frameSync l rx skew) s fun t =>
      lstate t l = (if (nextFrame (s.lane l).expect).1 < 128 then 3 else 1) ∧ t.fld (Reg.RFL_SYNC_STAT l) 0 2 = 0 ∧ (t.lane l).locked = true ∧ (t.lane l).expect = nextFrame (s.lane l).expect) ∧
  (∀ (s : State) (l : Nat) (rx : List RawSample) (skew : Nat), lanePresent s l = true ∧ s.frozen (pgRFL l) = false ∧ l < s.rd.lanes.length ∧ laneMode s l ≠ 3 ∧ (s.lane l).expect.1 < 128 ∧ (lstate s l = 3 ∨ lstate s l = 2 ∧ ((s.lane l).marker = true ∨ (s.lane l).expect ≠ (0, 0)) ∧ (s.lane l).swapDue = none) ∧ s.fld (Reg.RFL_SYNC_STAT l) 0 2 < 2 ∧ syncSearch ((s.lane l).expect.2 == 0) 4 (s.fld (Reg.RFL_SYNC_CTRL l) 0 3) (laneWindow ({ s.lane l with buf := (s.lane l).buf ++ takeIn s l rx }) 4) = none →
    Runs (.frameSync l rx skew) s fun t =>
      lstate t l = (if (nextFrame (s.lane l).expect).1 < 128 then lstate s l else 1) ∧ t.fld (Reg.RFL_SYNC_STAT l) 0 2 = s.fld (Reg.RFL_SYNC_STAT l) 0 2 + 1 ∧ t.fld (Reg.RFL_SYNC_CNT l) 0 8 = min (s.fld (Reg.RFL_SYNC_CNT l) 0 8 + 1) 255 ∧ (t.lane l).expect = nextFrame (s.lane l).expect) ∧
  (∀ (s : State) (l : Nat) (rx : List RawSample) (skew : Nat), lanePresent s l = true ∧ s.frozen (pgRFL l) = false ∧ l < s.rd.lanes.length ∧ laneMode s l ≠ 3 ∧ (s.lane l).expect.1 < 128 ∧ (lstate s l = 3 ∨ lstate s l = 2 ∧ ((s.lane l).marker = true ∨ (s.lane l).expect ≠ (0, 0)) ∧ (s.lane l).swapDue = none) ∧ 2 ≤ s.fld (Reg.RFL_SYNC_STAT l) 0 2 ∧ syncSearch ((s.lane l).expect.2 == 0) 4 (s.fld (Reg.RFL_SYNC_CTRL l) 0 3) (laneWindow ({ s.lane l with buf := (s.lane l).buf ++ takeIn s l rx }) 4) = none →
    Runs (.frameSync l rx skew) s fun t =>
      lstate t l = (if (nextFrame (s.lane l).expect).1 < 128 then 4 else 1) ∧ (t.lane l).reacqLeft = 4 ∧ (t.lane l).expect = nextFrame (s.lane l).expect ∧ t.irq (pgRFL l) 1) ∧
  (∀ (s : State) (l : Nat) (rx : List RawSample) (skew : Nat) (q : Int × Nat), lanePresent s l = true ∧ s.frozen (pgRFL l) = false ∧ l < s.rd.lanes.length ∧ laneMode s l ≠ 3 ∧ (s.lane l).expect.1 < 128 ∧ lstate s l = 4 ∧ (s.lane l).swapDue = none ∧ syncSearch ((s.lane l).expect.2 == 0) 16 (s.fld (Reg.RFL_SYNC_CTRL l) 4 3) (laneWindow ({ s.lane l with buf := (s.lane l).buf ++ takeIn s l rx }) 16) = some q →
    Runs (.frameSync l rx skew) s fun t =>
      lstate t l = (if (nextFrame (s.lane l).expect).1 < 128 then 3 else 1) ∧ t.fld (Reg.RFL_SYNC_STAT l) 0 2 = 0 ∧ (t.lane l).locked = true ∧ (t.lane l).expect = nextFrame (s.lane l).expect) ∧
  (∀ (s : State) (l : Nat) (rx : List RawSample) (skew : Nat), lanePresent s l = true ∧ s.frozen (pgRFL l) = false ∧ l < s.rd.lanes.length ∧ laneMode s l ≠ 3 ∧ (s.lane l).expect.1 < 128 ∧ lstate s l = 4 ∧ 1 < (s.lane l).reacqLeft ∧ syncSearch ((s.lane l).expect.2 == 0) 16 (s.fld (Reg.RFL_SYNC_CTRL l) 4 3) (laneWindow ({ s.lane l with buf := (s.lane l).buf ++ takeIn s l rx }) 16) = none →
    Runs (.frameSync l rx skew) s fun t =>
      lstate t l = (if (nextFrame (s.lane l).expect).1 < 128 then 4 else 1) ∧ (t.lane l).reacqLeft = (s.lane l).reacqLeft - 1 ∧ (t.lane l).expect = nextFrame (s.lane l).expect) ∧
  (∀ (s : State) (l : Nat) (rx : List RawSample) (skew : Nat), lanePresent s l = true ∧ s.frozen (pgRFL l) = false ∧ l < s.rd.lanes.length ∧ laneMode s l ≠ 3 ∧ (s.lane l).expect.1 < 128 ∧ lstate s l = 4 ∧ (s.lane l).reacqLeft ≤ 1 ∧ syncSearch ((s.lane l).expect.2 == 0) 16 (s.fld (Reg.RFL_SYNC_CTRL l) 4 3) (laneWindow ({ s.lane l with buf := (s.lane l).buf ++ takeIn s l rx }) 16) = none →
    Runs (.frameSync l rx skew) s fun t =>
      (lstate t l = 5 ∨ lstate t l = 6) ∧ (t.lane l).locked = false ∧ t.irq (pgRFL l) 2) ∧
  (∀ (s : State) (l : Nat) (rx : List RawSample) (skew : Nat), lanePresent s l = true ∧ s.frozen (pgRFL l) = false ∧ l < s.rd.lanes.length ∧ laneMode s l ≠ 3 ∧ (s.lane l).expect.1 < 128 ∧ lstate s l = 5 →
    Runs (.frameSync l rx skew) s fun t =>
      lstate t l = 5 ∧ (t.lane l).expect = nextFrame (s.lane l).expect ∧ (t.lane l).locked = (s.lane l).locked) ∧
  (∀ (s : State) (l : Nat) (rx : List RawSample) (skew : Nat), lanePresent s l = true ∧ s.frozen (pgRFL l) = false ∧ l < s.rd.lanes.length ∧ (lstate s l = 6 ∨ laneMode s l ≠ 3 ∧ (128 ≤ (s.lane l).expect.1 ∨ lstate s l = 0 ∨ lstate s l = 1 ∨ (lstate s l = 2 ∧ (s.lane l).marker = false ∧ (s.lane l).expect = (0, 0)))) →
    Runs (.frameSync l rx skew) s fun t =>
      t.lane l = { s.lane l with buf := (s.lane l).buf ++ takeIn s l rx } ∧ lstate t l = lstate s l) ∧
  (∀ (s : State) (l : Nat) (rx : List RawSample) (skew : Nat) (k : Nat), lanePresent s l = true ∧ s.frozen (pgRFL l) = false ∧ l < s.rd.lanes.length ∧ laneMode s l = 3 ∧ lstate s l ≠ 6 ∧ laneRef s l = k ∧ k ≠ l ∧ l < 4 →
    Runs (.frameSync l rx skew) s fun t =>
      t.reg (Reg.RFL_POS l) = s.reg (Reg.RFL_POS k) ∧ t.reg (Reg.RFL_RATE l) = s.reg (Reg.RFL_RATE k) ∧ t.fld (Reg.RFL_TR_STAT l) 0 22 = s.fld (Reg.RFL_TR_STAT k) 0 22 ∧ lstate t l = lstate s l) ∧
  (∀ (s : State) (l : Nat) (rx : List RawSample) (skew : Nat), s.wf = true ∧ (lanePresent s l = false ∨ s.frozen (pgRFL l) = true) →
    Runs (.frameSync l rx skew) s fun t =>
      t = s) ∧
  (∀ (s : State) (l rate : Nat), lanePresent s l = true ∧ s.frozen (pgRFL l) = false ∧ l < s.rd.lanes.length ∧ (lstate s l = 2 ∨ lstate s l = 3 ∨ lstate s l = 4 ∨ lstate s l = 5) ∧ (s.lane l).expect.1 < 128 ∧ (s.fld (Reg.RFL_RATE l) 16 4 * rate < 3800 ∨ 16000 < s.fld (Reg.RFL_RATE l) 16 4 * rate) →
    Runs (.laneRateOutOfRange l rate) s fun t =>
      lstate t l = 1 ∧ t.fld (Reg.RFL_RATE l) 0 16 = rate % 65536 ∧ (t.lane l).locked = false ∧ (t.lane l).stopped = true ∧ (∀ g ∈ t.rd.groups, g.psa / 8 % 128 = (s.lane l).group → g.again = true) ∧ t.irq (pgRFL l) 4 ∧ s.reports (pgRFL l) 0x0004 t) ∧
  (∀ (s : State) (l rate : Nat), s.wf = true ∧ (lanePresent s l = false ∨ s.frozen (pgRFL l) = true ∨ lstate s l = 0 ∨ lstate s l = 1 ∨ lstate s l = 6 ∨ 128 ≤ (s.lane l).expect.1 ∨ (3800 ≤ s.fld (Reg.RFL_RATE l) 16 4 * rate ∧ s.fld (Reg.RFL_RATE l) 16 4 * rate ≤ 16000)) →
    Runs (.laneRateOutOfRange l rate) s fun t =>
      t = s) ∧
  (∀ (s : State) (l : Nat) (ofs gain skew : Int), lanePresent s l = true ∧ s.frozen (pgRFL l) = false ∧ l < s.rd.lanes.length ∧ s.bit (Reg.RFL_ADC_CTRL l) 0 = true ∧ (lstate s l = 2 ∨ lstate s l = 4) →
    Runs (.adcSpareSwap l ofs gain skew) s fun t =>
      (t.lane l).swapDue = some (ofs, gain, skew) ∧ (∀ k ∈ List.range 9, t.reg (Reg.RFL_SUB_STAT l k) = s.reg (Reg.RFL_SUB_STAT l k))) ∧
  (∀ (s : State) (l : Nat) (ofs gain skew : Int) (p k : Nat), lanePresent s l = true ∧ s.frozen (pgRFL l) = false ∧ l < s.rd.lanes.length ∧ s.bit (Reg.RFL_ADC_CTRL l) 0 = true ∧ lstate s l ≠ 2 ∧ lstate s l ≠ 4 ∧ spareBad s l (ofs, gain, skew) = false ∧ spareOf s l = some p ∧ slotConverter s l (s.lane l).nextSlot = some k ∧ k ≠ p ∧ k ∉ (s.lane l).retirePend →
    Runs (.adcSpareSwap l ofs gain skew) s fun t =>
      t.reg (Reg.RFL_SUB_STAT l p) = Word.ofNat ((s.lane l).nextSlot * 16) ∧ t.reg (Reg.RFL_SUB_STAT l k) = 1#32 ∧ spareOf t l = some k ∧ (t.lane l).nextSlot = ((s.lane l).nextSlot + 1) % 8) ∧
  (∀ (s : State) (l : Nat) (ofs gain skew : Int) (p k : Nat), lanePresent s l = true ∧ s.frozen (pgRFL l) = false ∧ l < s.rd.lanes.length ∧ s.bit (Reg.RFL_ADC_CTRL l) 0 = true ∧ lstate s l ≠ 2 ∧ lstate s l ≠ 4 ∧ spareBad s l (ofs, gain, skew) = false ∧ spareOf s l = some p ∧ slotConverter s l (s.lane l).nextSlot = some k ∧ k ≠ p ∧ (s.lane l).retirePend = [k] →
    Runs (.adcSpareSwap l ofs gain skew) s fun t =>
      t.reg (Reg.RFL_SUB_STAT l p) = Word.ofNat ((s.lane l).nextSlot * 16) ∧ t.reg (Reg.RFL_SUB_STAT l k) = 2#32 ∧ spareOf t l = none ∧ (t.lane l).retirePend = []) ∧
  (∀ (s : State) (l : Nat) (ofs gain skew : Int) (p : Nat), lanePresent s l = true ∧ s.frozen (pgRFL l) = false ∧ l < s.rd.lanes.length ∧ s.bit (Reg.RFL_ADC_CTRL l) 0 = true ∧ lstate s l ≠ 2 ∧ lstate s l ≠ 4 ∧ spareBad s l (ofs, gain, skew) = true ∧ spareOf s l = some p ∧ subRole s l p ≠ 2 ∧ (s.lane l).retirePend = [] →
    Runs (.adcSpareSwap l ofs gain skew) s fun t =>
      t.reg (Reg.RFL_SUB_STAT l p) = 2#32 ∧ spareOf t l = none ∧ t.irq (pgRFL l) 3 ∧ s.reports (pgRFL l) 0x0002 t) ∧
  (∀ (s : State) (l : Nat) (ofs gain skew : Int), s.wf = true ∧ (lanePresent s l = false ∨ s.frozen (pgRFL l) = true ∨ s.bit (Reg.RFL_ADC_CTRL l) 0 = false ∨ (lstate s l ≠ 2 ∧ lstate s l ≠ 4 ∧ spareOf s l = none)) →
    Runs (.adcSpareSwap l ofs gain skew) s fun t =>
      t = s)

/-- DSK, DET rounds and LDPC (R76 to R98); what a set computes is setRun, what the check says setJudged. -/
def Obligations.DetectionDecodesAndReleases : Prop :=
  (∀ (s : State) (psa pos tile : Nat), s.frozen pgDSK = false ∧ tileNext s (psa / 8 % 128) pos tile = true ∧ lanesMissing s (psa / 8 % 128) pos tile = [] →
    Runs (.tileRelease psa pos tile) s fun t =>
      t.fld Reg.DSK_TILES 0 24 = (s.fld Reg.DSK_TILES 0 24 + 1) % 16777216 ∧ t.rd.tiles = some (psa / 8 % 128, pos, tile + 1)) ∧
  (∀ (s : State) (psa pos tile : Nat) (w : WorkSlot), s.frozen pgDSK = false ∧ tileNext s (psa / 8 % 128) pos tile = true ∧ lanesMissing s (psa / 8 % 128) pos tile = [] ∧ s.frozen pgDET = false ∧ s.fld Reg.DET_WS_SLOTS 0 3 ≠ 0 ∧ s.rd.work = [w] ∧ w.psa / 8 = psa / 8 ∧ w.pos = pos ∧ tile + 1 < 225 →
    Runs (.tileRelease psa pos tile) s fun t =>
      t.rd.work.map (fun x => (x.slot, x.tiles)) = [(w.slot, tile + 1)]) ∧
  (∀ (s : State) (psa pos tile : Nat), s.wf = true ∧ (s.frozen pgDSK = true ∨ tileNext s (psa / 8 % 128) pos tile = false ∨ lanesMissing s (psa / 8 % 128) pos tile ≠ []) →
    Runs (.tileRelease psa pos tile) s fun t =>
      t = s) ∧
  (∀ (s : State) (psa pos tile l : Nat), s.frozen pgDSK = false ∧ tileNext s (psa / 8 % 128) pos tile = true ∧ (lanesMissing s (psa / 8 % 128) pos tile).any (fun j => lateDue s j (psa / 8 % 128) pos tile) = true ∧ lanePresent s l = true ∧ l ∈ lanesMissing s (psa / 8 % 128) pos tile →
    Runs (.dskLateRelease psa pos tile) s fun t =>
      t.fld (Reg.DSK_LANE_LATE l) 0 16 = min (s.fld (Reg.DSK_LANE_LATE l) 0 16 + 1) 65535 ∧ t.irq pgDSK 1 ∧ t.fld Reg.DSK_TILES 0 24 = (s.fld Reg.DSK_TILES 0 24 + 1) % 16777216 ∧ t.rd.tiles = some (psa / 8 % 128, pos, tile + 1)) ∧
  (∀ (s : State) (psa pos tile : Nat), s.wf = true ∧ (s.frozen pgDSK = true ∨ tileNext s (psa / 8 % 128) pos tile = false ∨ (lanesMissing s (psa / 8 % 128) pos tile).all (fun j => !lateDue s j (psa / 8 % 128) pos tile) = true) →
    Runs (.dskLateRelease psa pos tile) s fun t =>
      t = s) ∧
  (∀ (s : State) (slot : Nat) (w : WorkSlot), s.frozen pgDET = false ∧ slot < 8 ∧ s.rd.work.find? (fun x => x.slot == slot) = some w ∧ 225 ≤ w.tiles ∧ (∃ x ∈ w.lanes, x.open_ = true) ∧ (∀ x ∈ w.lanes, x.open_ = true → roundReady s w.psa w.pos x = true) →
    Runs (.detRound slot) s fun t =>
      ∀ x ∈ t.rd.work, x.slot = slot → x.lanes.map (·.rounds) = w.lanes.map (fun y => if y.open_ then y.rounds + 1 else y.rounds)) ∧
  (∀ (s : State) (slot : Nat) (r : RingSlot) (g : GroupRead), s.frozen pgDET = false ∧ 8 ≤ slot ∧ s.rd.ring.find? (fun x => x.slot == slot - 8) = some r ∧ s.rd.groups.find? (fun x => x.psa / 8 % 128 == r.group) = some g ∧ (∃ x ∈ r.lanes, x.open_ = true) ∧ (∀ x ∈ r.lanes, x.open_ = true → roundReady s g.psa r.pos x = true) →
    Runs (.detRound slot) s fun t =>
      ∀ x ∈ t.rd.ring, x.slot = slot - 8 → x.lanes.map (·.rounds) = r.lanes.map (fun y => if y.open_ then y.rounds + 1 else y.rounds)) ∧
  (∀ (s : State) (slot : Nat), s.wf = true ∧ (s.frozen pgDET = true ∨ (slot < 8 ∧ ∀ w ∈ s.rd.work, w.slot = slot → w.tiles < 225 ∨ ∀ x ∈ w.lanes, x.open_ = false) ∨ (8 ≤ slot ∧ ∀ r ∈ s.rd.ring, r.slot = slot - 8 → ∀ x ∈ r.lanes, x.open_ = false)) →
    Runs (.detRound slot) s fun t =>
      t = s) ∧
  (∀ (s : State) (kind psa spiral pos slot : Nat) (k : CwKind) (x : LaneSoft), s.frozen pgLDPC = false ∧ k = (if kind = 0 then .fg else if kind = 1 then .draw else .recovery) ∧ softOf s k psa spiral pos = some x ∧ x.due = true ∧ x.fin = false ∧ findCw s k psa spiral pos = none ∧ (k = .recovery → recoveryHeld s < s.fld Reg.LDPC_SCHED 0 6) ∧ freeCwSlot s = some slot →
    Runs (.ldpcCodewordLoad kind psa spiral pos) s fun t =>
      t.rd.cws.map (fun z => (z.slot, z.kind, z.psa, z.spiral, z.pos)) = s.rd.cws.map (fun z => (z.slot, z.kind, z.psa, z.spiral, z.pos)) ++ [(slot, k, psa / 8 * 8, spiral, pos)] ∧ t.rd.cws.getLast?.map (·.llr) = some (segments (loadLlrs s k psa spiral pos x))) ∧
  (∀ (s : State) (kind psa spiral pos slot : Nat) (k : CwKind) (x : LaneSoft) (c : Codeword), s.frozen pgLDPC = false ∧ k = (if kind = 0 then .fg else if kind = 1 then .draw else .recovery) ∧ softOf s k psa spiral pos = some x ∧ x.due = true ∧ x.fin = false ∧ findCw s k psa spiral pos = some c ∧ slot = c.slot →
    Runs (.ldpcCodewordLoad kind psa spiral pos) s fun t =>
      t.rd.cws.map (fun z => (z.slot, z.kind, z.psa, z.spiral, z.pos)) = s.rd.cws.map (fun z => (z.slot, z.kind, z.psa, z.spiral, z.pos)) ∧ ∀ y ∈ t.rd.cws, y.slot = slot → y.llr = segments (loadLlrs s k psa spiral pos x)) ∧
  (∀ (s : State) (kind psa spiral pos slot : Nat) (k : CwKind) (x : LaneSoft) (c : Codeword), s.frozen pgLDPC = false ∧ k = (if kind = 0 then .fg else if kind = 1 then .draw else .recovery) ∧ softOf s k psa spiral pos = some x ∧ x.due = true ∧ x.fin = false ∧ k ≠ .recovery ∧ findCw s k psa spiral pos = none ∧ freeCwSlot s = none ∧ lastRecovery s = some c ∧ slot = c.slot →
    Runs (.ldpcCodewordLoad kind psa spiral pos) s fun t =>
      t.rd.cws.map (fun z => (z.slot, z.kind, z.psa, z.spiral, z.pos)) = (s.rd.cws.filter (fun y => y.slot != slot)).map (fun z => (z.slot, z.kind, z.psa, z.spiral, z.pos)) ++ [(slot, k, psa / 8 * 8, spiral, pos)] ∧ t.rd.evicted = s.rd.evicted ++ [c.restart] ∧ t.irq pgLDPC 2) ∧
  (∀ (s : State) (kind psa spiral pos : Nat) (k : CwKind), s.wf = true ∧ k = (if kind = 0 then .fg else if kind = 1 then .draw else .recovery) ∧ (s.frozen pgLDPC = true ∨ softOf s k psa spiral pos = none ∨ (∃ x ∈ softOf s k psa spiral pos, x.due = false ∨ x.fin = true) ∨ (findCw s k psa spiral pos = none ∧ (k = .recovery ∧ s.fld Reg.LDPC_SCHED 0 6 ≤ recoveryHeld s ∨ freeCwSlot s = none ∧ (k = .recovery ∨ lastRecovery s = none)))) →
    Runs (.ldpcCodewordLoad kind psa spiral pos) s fun t =>
      t = s) ∧
  (∀ (s : State) (q : Nat) (c : Codeword) (f : SectorFinal), s.frozen pgLDPC = false ∧ s.rd.cws.find? (fun x => x.core == some q) = some c ∧ c.kind ≠ .draw ∧ setJudged s c = some f →
    Runs (.ldpcDecodeSet q) s fun t =>
      (∀ x ∈ t.rd.cws, x.slot = c.slot → x.kind = .recovery ∧ s.rd.ageNext ≤ x.age) ∧ ∀ x ∈ stripRead s (cwSector c).1, (cwSector c).2 < x.fins.length → (stripRead t (cwSector c).1).map (fun y => y.fins.getD (cwSector c).2 none) = some (if x.fins.getD (cwSector c).2 none = some .good then some .good else some f)) ∧
  (∀ (s : State) (q : Nat) (c : Codeword), s.frozen pgLDPC = false ∧ s.rd.cws.find? (fun x => x.core == some q) = some c ∧ c.kind ≠ .draw ∧ setJudged s c = none ∧ setSpent s c = true →
    Runs (.ldpcDecodeSet q) s fun t =>
      (∀ x ∈ t.rd.cws, x.slot = c.slot → x.kind = .recovery ∧ s.rd.ageNext ≤ x.age) ∧ ∀ x ∈ stripRead s (cwSector c).1, (cwSector c).2 < x.fins.length → (stripRead t (cwSector c).1).map (fun y => y.fins.getD (cwSector c).2 none) = some (if x.fins.getD (cwSector c).2 none = some .good then some .good else some .noconv)) ∧
  (∀ (s : State) (q : Nat) (c : Codeword), s.frozen pgLDPC = false ∧ s.rd.cws.find? (fun x => x.core == some q) = some c ∧ c.kind = .draw ∧ (setJudged s c ≠ none ∨ setSpent s c = true) →
    Runs (.ldpcDecodeSet q) s fun t =>
      (∀ x ∈ t.rd.cws, x.slot = c.slot → x.kind = .recovery ∧ s.rd.ageNext ≤ x.age) ∧ ∃ x ∈ t.wenc.graded, x.psa = (cwSector c).1 ∧ x.sidx = (cwSector c).2) ∧
  (∀ (s : State) (q : Nat) (c : Codeword), s.frozen pgLDPC = false ∧ s.rd.cws.find? (fun x => x.core == some q) = some c ∧ setJudged s c = none ∧ setSpent s c = false →
    Runs (.ldpcDecodeSet q) s fun t =>
      (∃ x ∈ t.rd.cws, x.slot = c.slot) ∧ ∀ x ∈ t.rd.cws, x.slot = c.slot → x.iters = c.iters + (setRun s c).2.1 ∧ x.msgs = (setRun s c).1.2) ∧
  (∀ (s : State) (q : Nat), s.wf = true ∧ (s.frozen pgLDPC = true ∨ ∀ c ∈ s.rd.cws, c.core ≠ some q) →
    Runs (.ldpcDecodeSet q) s fun t =>
      t = s) ∧
  (∀ (s : State) (core : Nat), s.frozen pgLDPC = false ∧ core < 6 ∧ s.fld (Reg.LDPC_CORE_STAT core) 0 2 ≠ 2 →
    Runs (.ldpcCoreRetire core) s fun t =>
      t.fld (Reg.LDPC_CORE_STAT core) 0 2 = 2 ∧ t.bit Reg.LDPC_SCHED (16 + core) = false ∧ t.irq pgLDPC 1 ∧ s.reports pgLDPC 0x0302 t ∧ ∀ c ∈ t.rd.cws, c.core ≠ some core) ∧
  (∀ (s : State) (core : Nat), s.wf = true ∧ (s.frozen pgLDPC = true ∨ 6 ≤ core ∨ s.fld (Reg.LDPC_CORE_STAT core) 0 2 = 2) →
    Runs (.ldpcCoreRetire core) s fun t =>
      t = s)

/-- Arms and strips (R102 to R112); what a step does is stepDone, what it decodes stepDecode. -/
def Obligations.StripsAreArmedDecodedAndRecovered : Prop :=
  (∀ (s : State) (m : Master) (v new : Word), Takes s m Reg.DET_ARM_TAG v new ∧ s.rd.groups.length < 2 ∧ 8 ≤ (freeStripSlots s).length →
    Runs (.detArm m v) s fun t =>
      t.rd.groups = s.rd.groups ++ [{ psa := s.fld Reg.DET_ARM_PSA 0 25, tag := v.toNat, wanted := s.fld Reg.DET_ARM_CTRL 0 8, patrol := s.bit Reg.DET_ARM_CTRL 8, laneLost := false, slots := (freeStripSlots s).take 8, released := [], strips := List.replicate 8 freshStrip, headers := [], rebuilt := [], again := false, saved := [], cur := [], soft := [] }]) ∧
  (∀ (s : State) (m : Master) (v new : Word), Takes s m Reg.DET_ARM_TAG v new ∧ 2 ≤ s.rd.groups.length →
    Runs (.detArm m v) s fun t =>
      t.rd.groups = s.rd.groups ∧ t.irq pgDET 6 ∧ s.reports pgSTRP 0x0404 t) ∧
  (∀ (s : State) (m : Master) (v new : Word), Takes s m Reg.DET_ARM_TAG v new ∧ s.rd.groups.length < 2 ∧ (freeStripSlots s).length < 8 →
    Runs (.detArm m v) s fun t =>
      t.rd.groups = s.rd.groups ∧ t.irq pgDET 6 ∧ t.irq pgSTRP 2 ∧ s.reports pgSTRP 0x0402 t) ∧
  (∀ (s : State) (m : Master) (v new : Word), Takes s m Reg.STRP_RSA_REL v new →
    Runs (.strpSlotRelease m v) s fun t =>
      (∀ k ∈ List.range 32, fieldOf v k 1 = 1 → k ∉ heldStripSlots t) ∧ ∀ g ∈ t.rd.groups, g.released.length < 8) ∧
  (∀ (s : State) (psa : Nat) (g : GroupRead) (x : StripRead) (c : Nat), s.frozen pgSTRP = false ∧ groupRead s psa = some g ∧ stripRead s psa = some x ∧ (∀ f ∈ x.fins, f ≠ none) ∧ x.laneLostSectors = [] ∧ x.ended = none ∧ x.rung = 0 ∧ g.again = false ∧ (decodeStrip s g psa x).1 = some c →
    Runs (.stripDecode psa) s fun t =>
      (stripRead t psa).map (fun y => (y.ended, y.cls, y.fins, y.eras0)) = some (some true, max c (stripClass s (stripErasures x).length), x.fins, (stripErasures x).length)) ∧
  (∀ (s : State) (psa : Nat) (g : GroupRead) (x : StripRead), s.frozen pgSTRP = false ∧ groupRead s psa = some g ∧ stripRead s psa = some x ∧ (∀ f ∈ x.fins, f ≠ none) ∧ x.laneLostSectors = [] ∧ x.ended = none ∧ x.rung = 0 ∧ g.again = false ∧ (decodeStrip s g psa x).1 = none ∧ laneWaits g = true →
    Runs (.stripDecode psa) s fun t =>
      (stripRead t psa).map (fun y => (y.ended, y.rung, y.fins)) = some (none, 0, x.fins)) ∧
  (∀ (s : State) (psa : Nat) (g : GroupRead) (x : StripRead) (n : Nat), s.frozen pgSTRP = false ∧ groupRead s psa = some g ∧ stripRead s psa = some x ∧ (∀ f ∈ x.fins, f ≠ none) ∧ x.laneLostSectors = [] ∧ x.ended = none ∧ x.rung = 0 ∧ g.again = false ∧ (decodeStrip s g psa x).1 = none ∧ laneWaits g = false ∧ g.wanted.testBit (psa % 8) = true ∧ nextRung s psa x 0 6 = some n →
    Runs (.stripDecode psa) s fun t =>
      (stripRead t psa).map (fun y => (y.ended, y.rung, y.failTick, y.eras0)) = some (none, n, some s.ticks, (stripErasures x).length)) ∧
  (∀ (s : State) (psa : Nat) (g : GroupRead) (x : StripRead), s.frozen pgSTRP = false ∧ groupRead s psa = some g ∧ stripRead s psa = some x ∧ (∀ f ∈ x.fins, f ≠ none) ∧ x.laneLostSectors = [] ∧ x.ended = none ∧ x.rung = 0 ∧ g.again = false ∧ (decodeStrip s g psa x).1 = none ∧ laneWaits g = false ∧ ((g.wanted.testBit (psa % 8) = true ∧ nextRung s psa x 0 6 = none) ∨ (g.wanted.testBit (psa % 8) = false ∧ g.patrol = true)) →
    Runs (.stripDecode psa) s fun t =>
      (stripRead t psa).map (fun z => (z.ended, z.cls)) = some (some false, 3) ∧ t.irq pgDET 5 ∧ t.irq pgSTRP 0) ∧
  (∀ (s : State) (psa : Nat) (g : GroupRead) (x : StripRead), s.frozen pgSTRP = false ∧ groupRead s psa = some g ∧ stripRead s psa = some x ∧ (∀ f ∈ x.fins, f ≠ none) ∧ x.laneLostSectors = [] ∧ x.ended = none ∧ x.rung = 0 ∧ g.again = false ∧ (decodeStrip s g psa x).1 = none ∧ laneWaits g = false ∧ g.wanted.testBit (psa % 8) = false ∧ g.patrol = false →
    Runs (.stripDecode psa) s fun t =>
      (stripRead t psa).map (fun z => z.ended) = some (some false)) ∧
  (∀ (s : State) (psa : Nat), s.wf = true ∧ (s.frozen pgSTRP = true ∨ stripRead s psa = none ∨ (∃ g ∈ groupRead s psa, g.again = true) ∨ ∃ x ∈ stripRead s psa, none ∈ x.fins ∨ x.laneLostSectors ≠ [] ∨ x.ended ≠ none ∨ x.rung ≠ 0) →
    Runs (.stripDecode psa) s fun t =>
      t = s) ∧
  (∀ (s : State) (psa : Nat) (g : GroupRead) (x y : StripRead) (c : Nat), s.frozen pgDET = false ∧ groupRead s psa = some g ∧ stripRead s psa = some x ∧ x.rung ≠ 0 ∧ x.ended = none ∧ stepEnds s g psa x = true ∧ stripRead (stepDone psa x s) psa = some y ∧ (stepDecode (stepDone psa x s) g psa (ladderStep x) y).1 = some c →
    Runs (.retryLadderRung psa) s fun t =>
      (stripRead t psa).map (fun z => (z.ended, z.cls, z.highest)) = some (some true, c, max x.highest x.rung)) ∧
  (∀ (s : State) (psa : Nat) (g : GroupRead) (x y : StripRead), s.frozen pgDET = false ∧ groupRead s psa = some g ∧ stripRead s psa = some x ∧ x.rung ≠ 0 ∧ x.ended = none ∧ stepEnds s g psa x = true ∧ stripRead (stepDone psa x s) psa = some y ∧ (stepDecode (stepDone psa x s) g psa (ladderStep x) y).1 = none ∧ ladderStops (stepDecode (stepDone psa x s) g psa (ladderStep x) y).2 psa y = true →
    Runs (.retryLadderRung psa) s fun t =>
      (stripRead t psa).map (fun z => (z.ended, z.cls)) = some (some false, 3) ∧ t.irq pgDET 5 ∧ t.irq pgSTRP 0) ∧
  (∀ (s : State) (psa : Nat) (g : GroupRead) (x y : StripRead) (n : Nat), s.frozen pgDET = false ∧ groupRead s psa = some g ∧ stripRead s psa = some x ∧ x.rung ≠ 0 ∧ x.ended = none ∧ stepEnds s g psa x = true ∧ stripRead (stepDone psa x s) psa = some y ∧ (stepDecode (stepDone psa x s) g psa (ladderStep x) y).1 = none ∧ ladderStops (stepDecode (stepDone psa x s) g psa (ladderStep x) y).2 psa y = false ∧ x.rung < 4 ∧ nextRung (stepDecode (stepDone psa x s) g psa (ladderStep x) y).2 psa y x.rung 6 = some n →
    Runs (.retryLadderRung psa) s fun t =>
      (stripRead t psa).map (fun z => (z.ended, z.rung, z.sub, z.rereads, z.highest)) = some (none, n, 0, 0, max x.highest x.rung)) ∧
  (∀ (s : State) (psa : Nat) (g : GroupRead) (x y : StripRead), s.frozen pgDET = false ∧ groupRead s psa = some g ∧ stripRead s psa = some x ∧ x.rung ≠ 0 ∧ x.ended = none ∧ stepEnds s g psa x = true ∧ stripRead (stepDone psa x s) psa = some y ∧ (stepDecode (stepDone psa x s) g psa (ladderStep x) y).1 = none ∧ ladderStops (stepDecode (stepDone psa x s) g psa (ladderStep x) y).2 psa y = false ∧ x.rung < 4 ∧ nextRung (stepDecode (stepDone psa x s) g psa (ladderStep x) y).2 psa y x.rung 6 = none →
    Runs (.retryLadderRung psa) s fun t =>
      (stripRead t psa).map (fun z => (z.ended, z.cls)) = some (some false, 3) ∧ t.irq pgDET 5 ∧ t.irq pgSTRP 0) ∧
  (∀ (s : State) (psa : Nat) (g : GroupRead) (x y : StripRead) (n : Nat), s.frozen pgDET = false ∧ groupRead s psa = some g ∧ stripRead s psa = some x ∧ x.rung ≠ 0 ∧ x.ended = none ∧ stepEnds s g psa x = true ∧ stripRead (stepDone psa x s) psa = some y ∧ (stepDecode (stepDone psa x s) g psa (ladderStep x) y).1 = none ∧ ladderStops (stepDecode (stepDone psa x s) g psa (ladderStep x) y).2 psa y = false ∧ 4 ≤ x.rung ∧ nextRung (stepDecode (stepDone psa x s) g psa (ladderStep x) y).2 psa y y.sub 4 = some n →
    Runs (.retryLadderRung psa) s fun t =>
      (stripRead t psa).map (fun z => (z.ended, z.rung, z.sub)) = some (none, y.rung, n)) ∧
  (∀ (s : State) (psa : Nat) (g : GroupRead) (x y : StripRead), s.frozen pgDET = false ∧ groupRead s psa = some g ∧ stripRead s psa = some x ∧ x.rung ≠ 0 ∧ x.ended = none ∧ stepEnds s g psa x = true ∧ stripRead (stepDone psa x s) psa = some y ∧ (stepDecode (stepDone psa x s) g psa (ladderStep x) y).1 = none ∧ ladderStops (stepDecode (stepDone psa x s) g psa (ladderStep x) y).2 psa y = false ∧ 4 ≤ x.rung ∧ y.rung = x.rung ∧ nextRung (stepDecode (stepDone psa x s) g psa (ladderStep x) y).2 psa y y.sub 4 = none ∧ y.rereads + 1 < (if x.rung = 4 then 2 else 4) →
    Runs (.retryLadderRung psa) s fun t =>
      (stripRead t psa).map (fun z => (z.ended, z.rung, z.sub, z.rereads)) = some (none, x.rung, 0, y.rereads + 1)) ∧
  (∀ (s : State) (psa : Nat), s.wf = true ∧ (s.frozen pgDET = true ∨ stripRead s psa = none ∨ ∃ x ∈ stripRead s psa, x.rung = 0 ∨ x.ended ≠ none ∨ ∀ g ∈ groupRead s psa, stepEnds s g psa x = false) →
    Runs (.retryLadderRung psa) s fun t =>
      t = s) ∧
  (∀ (s : State) (psa : Nat) (g : GroupRead) (x : StripRead), s.frozen pgDET = false ∧ groupRead s psa = some g ∧ stripRead s psa = some x ∧ x.rung ≠ 0 ∧ x.ended = none ∧ g.patrol = false ∧ s.fld Reg.DET_RETRY 0 12 ≠ 0 →
    Runs (.ladderTmaxExpiry psa) s fun t =>
      stripRead t psa = some { x with tmaxHit := true }) ∧
  (∀ (s : State) (psa : Nat), s.wf = true ∧ (s.frozen pgDET = true ∨ stripRead s psa = none ∨ s.fld Reg.DET_RETRY 0 12 = 0 ∨ (∃ g ∈ groupRead s psa, g.patrol = true) ∨ ∃ x ∈ stripRead s psa, x.rung = 0 ∨ x.ended ≠ none) →
    Runs (.ladderTmaxExpiry psa) s fun t =>
      t = s)

/-- WENC (R117 to R147). Verdicts: 3 VOID, 4 NOTSTARTED; causes 4 no PASSGO, 5 missed start, 6 abort. -/
def Obligations.WriteArmsRunTheirPasses : Prop :=
  (∀ (s : State) (m : Master) (v new : Word) (a : Arm), Takes s m Reg.WENC_ARM_TAG v new ∧ s.frozen pgWENC = false ∧ a = { psa := s.fld Reg.WENC_ARM_PSA 0 25, desc := (s.reg Reg.WENC_ARM_DESC).toNat, slot := s.fld Reg.WENC_ARM_CTRL 0 2, order := s.fld Reg.WENC_ARM_CTRL 2 2, chan := s.fld Reg.WENC_ARM_CTRL 4 2, test := s.bit Reg.WENC_ARM_CTRL 6, rpln := s.fld Reg.WENC_ARM_CTRL 8 2, rst := s.fld Reg.WENC_ARM_RST 0 16, tag := v.toNat, parity := false, passes := 0, off := 0, offs := [], running := false, go := false, t0 := 0, tfs := 0, step := 0, tbl := [] } ∧ armOk s a (memRead s .cdma a.desc 7168).1 = true →
    Runs (.wencArm m v) s fun t =>
      t.wenc.arms = s.wenc.arms ++ [a] ∧ a.slot ∈ t.wenc.held) ∧
  (∀ (s : State) (m : Master) (v new : Word) (a : Arm), Takes s m Reg.WENC_ARM_TAG v new ∧ s.frozen pgWENC = false ∧ a = { psa := s.fld Reg.WENC_ARM_PSA 0 25, desc := (s.reg Reg.WENC_ARM_DESC).toNat, slot := s.fld Reg.WENC_ARM_CTRL 0 2, order := s.fld Reg.WENC_ARM_CTRL 2 2, chan := s.fld Reg.WENC_ARM_CTRL 4 2, test := s.bit Reg.WENC_ARM_CTRL 6, rpln := s.fld Reg.WENC_ARM_CTRL 8 2, rst := s.fld Reg.WENC_ARM_RST 0 16, tag := v.toNat, parity := false, passes := 0, off := 0, offs := [], running := false, go := false, t0 := 0, tfs := 0, step := 0, tbl := [] } ∧ armOk s a (memRead s .cdma a.desc 7168).1 = false →
    Runs (.wencArm m v) s fun t =>
      t.wenc.arms = s.wenc.arms ∧ t.irq pgWENC 0 ∧ s.reports pgWENC 0x0502 t) ∧
  (∀ (s : State) (a : Arm), s.frozen pgWENC = false ∧ s.wenc.arms.find? (fun x => !x.parity) = some a →
    Runs (.wencParityDone) s fun t =>
      t.wenc.arms = s.wenc.arms.map (fun x => if x.slot == a.slot then { x with parity := true } else x)) ∧
  (∀ (s : State) (tfs : Nat) (a : Arm) (r : List Arm), s.frozen pgWENC = false ∧ s.wenc.arms = a :: r ∧ mayStart s a = true →
    Runs (.wencPassStart tfs) s fun t =>
      t.wenc.gate = true ∧ (runningArm t).map (fun x => (x.slot, x.psa, x.passes, x.offs, x.off, x.t0, x.tfs)) = some (a.slot, a.psa, a.passes, if a.passes = 0 then passOrder a s.wenc.lastPsa s.wenc.lastOff else a.offs, (if a.passes = 0 then passOrder a s.wenc.lastPsa s.wenc.lastOff else a.offs).headD 0, s.ticks, tfs) ∧ t.wenc.emit.map (·.chan) = armChans a) ∧
  (∀ (s : State) (tfs : Nat), s.wf = true ∧ (s.frozen pgWENC = true ∨ s.wenc.arms.head?.all (fun a => !mayStart s a) = true) →
    Runs (.wencPassStart tfs) s fun t =>
      t = s) ∧
  (∀ (s : State) (a : Arm) (r : List Arm), s.frozen pgWENC = false ∧ s.wenc.arms = a :: r ∧ a.running = true ∧ a.offs.length ≤ 1 →
    Runs (.wencPassEnd) s fun t =>
      t.wenc.arms = r ∧ t.wenc.gate = false ∧ t.wenc.verdictArms = s.wenc.verdictArms ++ [{ a with running := false, passes := a.passes + 1, offs := [] }] ∧ t.wenc.lastPsa = some a.psa ∧ t.wenc.lastOff = a.off ∧ t.irq pgWENC 1 ∧ t.irq pgWENC 2) ∧
  (∀ (s : State) (a : Arm) (r : List Arm), s.frozen pgWENC = false ∧ s.wenc.arms = a :: r ∧ a.running = true ∧ 1 < a.offs.length →
    Runs (.wencPassEnd) s fun t =>
      t.wenc.arms = { a with running := false, passes := a.passes + 1, offs := a.offs.drop 1 } :: r ∧ t.wenc.gate = false ∧ t.irq pgWENC 1) ∧
  (∀ (s : State), s.wf = true ∧ (s.frozen pgWENC = true ∨ runningArm s = none) →
    Runs (.wencPassEnd) s fun t =>
      t = s) ∧
  (∀ (s : State) (m : Master) (v new : Word), Takes s m Reg.WENC_PASSGO v new ∧ betweenPasses s = false →
    Runs (.wencPassgo m v) s fun t =>
      t.wenc = s.wenc) ∧
  (∀ (s : State) (m : Master) (v new : Word) (a : Arm) (r : List Arm), Takes s m Reg.WENC_PASSGO v new ∧ s.frozen pgWENC = false ∧ s.wenc.arms = a :: r ∧ 0 < a.passes ∧ a.running = false →
    Runs (.wencPassgo m v) s fun t =>
      t.wenc.arms = { a with go := true } :: r) ∧
  (∀ (s : State) (a : Arm) (r : List Arm), s.frozen pgWENC = false ∧ s.wenc.arms = a :: r ∧ 0 < a.passes ∧ a.running = false ∧ (a.go = false ∨ s.reg Reg.WINH_LATCH ≠ 0#32) →
    Runs (.wencPasswaitExpiry) s fun t =>
      t.wenc.arms = r ∧ t.wenc.toXlt.getLast?.map (fun x => (x.slot, x.psa, x.verdict, x.cause)) = some (a.slot, a.psa, 3, 4) ∧ t.irq pgWENC 3 ∧ s.reports pgWENC 0x0503 t) ∧
  (∀ (s : State), s.wf = true ∧ (s.frozen pgWENC = true ∨ betweenPasses s = false ∨ (s.wenc.arms.head?.all (·.go) = true ∧ s.reg Reg.WINH_LATCH = 0#32)) →
    Runs (.wencPasswaitExpiry) s fun t =>
      t = s) ∧
  (∀ (s : State) (a : Arm) (r : List Arm), s.frozen pgWENC = false ∧ s.wenc.arms = a :: r ∧ a.running = false ∧ a.passes = 0 →
    Runs (.wencStartrevExpiry) s fun t =>
      t.wenc.arms = r.filter (fun x => !laterSameBrick a x) ∧ (t.wenc.toXlt.drop s.wenc.toXlt.length).map (fun x => (x.slot, x.psa, x.verdict, x.cause)) = (a :: r.filter (laterSameBrick a)).map (fun x => (x.slot, x.psa, 4, 0)) ∧ t.irq pgWENC 4 ∧ s.reports pgWENC 0x0504 t) ∧
  (∀ (s : State) (a : Arm) (r : List Arm), s.frozen pgWENC = false ∧ s.wenc.arms = a :: r ∧ a.running = false ∧ 0 < a.passes →
    Runs (.wencStartrevExpiry) s fun t =>
      t.wenc.arms = r ∧ t.wenc.toXlt.getLast?.map (fun x => (x.slot, x.psa, x.verdict, x.cause)) = some (a.slot, a.psa, 3, 5) ∧ t.irq pgWENC 3) ∧
  (∀ (s : State), s.wf = true ∧ (s.frozen pgWENC = true ∨ s.wenc.arms.head?.all (·.running) = true) →
    Runs (.wencStartrevExpiry) s fun t =>
      t = s) ∧
  (∀ (s : State) (m : Master) (v new : Word) (b : Bool) (a : Arm) (r : List Arm), Takes s m Reg.WENC_ARM_CTRL v new ∧ s.frozen pgWENC = false ∧ fieldOf v 31 1 = 1 ∧ s.wenc.arms = a :: r ∧ a.running = false ∧ a.passes = 0 →
    Runs (.wencAbort m v b) s fun t =>
      t.wenc.arms = r.filter (fun x => !laterSameBrick a x) ∧ (t.wenc.toXlt.drop s.wenc.toXlt.length).map (fun x => (x.slot, x.psa, x.verdict, x.cause)) = (a :: r.filter (laterSameBrick a)).map (fun x => (x.slot, x.psa, 4, 0))) ∧
  (∀ (s : State) (m : Master) (v new : Word) (b : Bool) (a : Arm) (r : List Arm), Takes s m Reg.WENC_ARM_CTRL v new ∧ s.frozen pgWENC = false ∧ fieldOf v 31 1 = 1 ∧ s.wenc.arms = a :: r ∧ a.running = false ∧ 0 < a.passes →
    Runs (.wencAbort m v b) s fun t =>
      t.wenc.arms = r ∧ t.wenc.toXlt.getLast?.map (fun x => (x.slot, x.psa, x.verdict, x.cause)) = some (a.slot, a.psa, 3, 6)) ∧
  (∀ (s : State) (m : Master) (v new : Word) (a : Arm) (r : List Arm), Takes s m Reg.WENC_ARM_CTRL v new ∧ s.wenc.arms = a :: r ∧ a.running = true ∧ a.offs.length = 1 →
    Runs (.wencAbort m v true) s fun t =>
      t.wenc = s.wenc) ∧
  (∀ (s : State) (m : Master) (v new : Word) (b : Bool), Takes s m Reg.WENC_ARM_CTRL v new ∧ (fieldOf v 31 1 = 0 ∨ s.wenc.arms = []) →
    Runs (.wencAbort m v b) s fun t =>
      t.wenc = s.wenc) ∧
  (∀ (s : State) (m : Master) (v new : Word) (b : Bool) (a : Arm) (r : List Arm), Takes s m Reg.WENC_ARM_CTRL v new ∧ s.frozen pgWENC = false ∧ fieldOf v 31 1 = 1 ∧ s.wenc.arms = a :: r ∧ a.running = true ∧ s.wenc.gate = true ∧ (b = false ∨ a.offs.length ≠ 1) →
    Runs (.wencAbort m v b) s fun t =>
      t.wenc.arms = r ∧ t.wenc.gate = false ∧ t.wenc.toXlt.getLast?.map (fun x => (x.slot, x.psa, x.verdict, x.cause)) = some (a.slot, a.psa, 3, 6)) ∧
  (∀ (s : State) (m : Master) (v new : Word), Takes s m Reg.WENC_STG_REL v new →
    Runs (.wencStgRelease m v) s fun t =>
      t.wenc.held = s.wenc.held.filter (fun k => fieldOf v k 1 == 0 || s.wenc.arms.any (fun x => x.slot == k)))

/-- WSG loads (R128), DRAW verdicts (R137, R141, R143), WINH (R147, R148, R154). -/
def Obligations.StrategyLoadsVerdictsAndInhibitLatch : Prop :=
  (∀ (s : State) (m : Master) (v new : Word), Takes s m Reg.WSG_LOAD_CTRL v new ∧ s.frozen pgWSG = false ∧ fieldOf v 31 1 = 1 ∧ fieldOf new 31 1 = 0 ∧ (fieldOf new 16 6 = 0 ∨ 40 < fieldOf new 8 6 + fieldOf new 16 6 ∨ 11 < fieldOf new 0 4 ∨ s.wenc.arms.any (fun a => psaLayer a.psa == fieldOf new 0 4) = true) →
    Runs (.wsgLoad m v) s fun t =>
      t.bit Reg.WSG_LOAD_CTRL 31 = false ∧ t.irq pgWSG 1 ∧ s.reports pgWSG 0x0602 t) ∧
  (∀ (s : State) (m : Master) (v new : Word) (ws : List Word), Takes s m Reg.WSG_LOAD_CTRL v new ∧ s.frozen pgWSG = false ∧ fieldOf v 31 1 = 1 ∧ fieldOf new 31 1 = 0 ∧ fieldOf new 16 6 ≠ 0 ∧ fieldOf new 8 6 + fieldOf new 16 6 ≤ 40 ∧ fieldOf new 0 4 ≤ 11 ∧ s.wenc.arms.any (fun a => psaLayer a.psa == fieldOf new 0 4) = false ∧ (memRead s .cdma (s.reg Reg.WSG_LOAD_SRC).toNat (4 * fieldOf new 16 6)).2.1 = false ∧ ws = wordsLE (fieldOf new 16 6) (memRead s .cdma (s.reg Reg.WSG_LOAD_SRC).toNat (4 * fieldOf new 16 6)).1 ∧ (List.range (fieldOf new 16 6)).all (fun i => wsgFieldOk (fieldOf new 8 6 + i) (ws.getD i 0#32)) = true ∧ wsgOrderOk (fun k => if fieldOf new 8 6 ≤ k ∧ k < fieldOf new 8 6 + fieldOf new 16 6 then ws.getD (k - fieldOf new 8 6) 0#32 else wsgWord s (fieldOf new 0 4) k) (fun k => (s.wenc.setMask.getD (fieldOf new 0 4) 0).testBit k || (decide (fieldOf new 8 6 ≤ k) && decide (k < fieldOf new 8 6 + fieldOf new 16 6))) = true →
    Runs (.wsgLoad m v) s fun t =>
      t.bit Reg.WSG_LOAD_CTRL 31 = true ∧ t.wenc.loadBuf = ws ∧ t.wenc.loadAt = (fieldOf new 0 4, fieldOf new 8 6)) ∧
  (∀ (s : State) (m : Master) (v new : Word) (ws : List Word), Takes s m Reg.WSG_LOAD_CTRL v new ∧ s.frozen pgWSG = false ∧ fieldOf v 31 1 = 1 ∧ fieldOf new 31 1 = 0 ∧ fieldOf new 16 6 ≠ 0 ∧ fieldOf new 8 6 + fieldOf new 16 6 ≤ 40 ∧ fieldOf new 0 4 ≤ 11 ∧ s.wenc.arms.any (fun a => psaLayer a.psa == fieldOf new 0 4) = false ∧ ws = wordsLE (fieldOf new 16 6) (memRead s .cdma (s.reg Reg.WSG_LOAD_SRC).toNat (4 * fieldOf new 16 6)).1 ∧ ((memRead s .cdma (s.reg Reg.WSG_LOAD_SRC).toNat (4 * fieldOf new 16 6)).2.1 = true ∨ ¬((List.range (fieldOf new 16 6)).all (fun i => wsgFieldOk (fieldOf new 8 6 + i) (ws.getD i 0#32)) = true ∧ wsgOrderOk (fun k => if fieldOf new 8 6 ≤ k ∧ k < fieldOf new 8 6 + fieldOf new 16 6 then ws.getD (k - fieldOf new 8 6) 0#32 else wsgWord s (fieldOf new 0 4) k) (fun k => (s.wenc.setMask.getD (fieldOf new 0 4) 0).testBit k || (decide (fieldOf new 8 6 ≤ k) && decide (k < fieldOf new 8 6 + fieldOf new 16 6))) = true)) →
    Runs (.wsgLoad m v) s fun t =>
      t.bit Reg.WSG_LOAD_CTRL 31 = false ∧ t.wenc.loadBuf = s.wenc.loadBuf ∧ t.irq pgWSG 1) ∧
  (∀ (s : State) (m : Master) (v new : Word), Takes s m Reg.WSG_LOAD_CTRL v new ∧ (fieldOf v 31 1 = 0 ∨ fieldOf new 31 1 = 1) →
    Runs (.wsgLoad m v) s fun t =>
      t.wenc = s.wenc ∧ t.reg Reg.WSG_LOAD_CTRL = new) ∧
  (∀ (s : State), s.frozen pgWSG = false ∧ s.bit Reg.WSG_LOAD_CTRL 31 = true ∧ s.wenc.loadAt.1 < 12 ∧ s.wenc.setMask.length = 12 →
    Runs (.wsgLoadDone) s fun t =>
      (∀ k ∈ List.range s.wenc.loadBuf.length, wsgWord t s.wenc.loadAt.1 (s.wenc.loadAt.2 + k) = s.wenc.loadBuf.getD k 0#32) ∧ t.bit Reg.WSG_LOAD_CTRL 31 = false ∧ t.irq pgWSG 0 ∧ t.wenc.setMask.getD s.wenc.loadAt.1 0 = s.wenc.setMask.getD s.wenc.loadAt.1 0 ||| (2 ^ s.wenc.loadBuf.length - 1) * 2 ^ s.wenc.loadAt.2 ∧ (t.bit Reg.WSG_LAYERSTAT s.wenc.loadAt.1 = true ↔ t.wenc.setMask.getD s.wenc.loadAt.1 0 = 2 ^ 40 - 1)) ∧
  (∀ (s : State), s.wf = true ∧ (s.frozen pgWSG = true ∨ s.bit Reg.WSG_LOAD_CTRL 31 = false) →
    Runs (.wsgLoadDone) s fun t =>
      t = s) ∧
  (∀ (s : State) (a : Arm) (r : List Arm), s.quiet ∧ s.wenc.verdictArms = a :: r ∧ s.frozen pgDRAW = false ∧ 512 ≤ (gradedOf s a.psa).length →
    Runs (.drawVerdict) s fun t =>
      t.wenc.verdictArms = r ∧ s.wenc.toXlt.length < t.wenc.toXlt.length ∧ (t.wenc.toXlt.drop s.wenc.toXlt.length).head?.map (fun x => (x.slot, x.psa, x.verdict)) = some (a.slot, a.psa, if a.test then 5 else if (List.range 8).all (fun g => stripPasses s (gradedOf s a.psa) (a.psa + g)) then 1 else 2) ∧ t.irq pgDRAW 0) ∧
  (∀ (s : State) (a : Arm) (r : List Arm), s.wenc.verdictArms = a :: r ∧ s.frozen pgDRAW = false ∧ 512 ≤ (gradedOf s a.psa).length →
    Runs (.drawVerdict) s fun t =>
      t.irq pgDRAW 0) ∧
  (∀ (s : State), s.quiet ∧ s.wenc.verdictArms.head?.all (fun a => decide ((gradedOf s a.psa).length < 512)) = true →
    Runs (.drawVerdict) s fun t =>
      t.wenc = s.wenc) ∧
  (∀ (s : State) (m : Master) (v new : Word), Takes s m Reg.DRAW_VQ_CONS v new →
    Runs (.drawVqConsWrite m v) s fun t =>
      t.reg Reg.DRAW_VQ_CONS = new ∧ (s.wenc.heldRecs = [] → t.wenc = s.wenc)) ∧
  (∀ (s : State) (m : Master) (v new : Word), Takes s m Reg.DRAW_VQ_CONS v new ∧ s.wenc.heldRecs ≠ [] ∧ (s.fld Reg.DRAW_VQ_PROD 0 11 + 2 * vqSize s - fieldOf new 0 11 % (2 * vqSize s)) % (2 * vqSize s) < vqSize s →
    Runs (.drawVqConsWrite m v) s fun t =>
      t.wenc.heldRecs.length < s.wenc.heldRecs.length) ∧
  (∀ (s : State) (srcs : Nat) (late : Bool), srcs &&& winhEnabled s ≠ 0 ∧ (runningArm s = none ∨ late = true) →
    Runs (.winhTrip srcs late) s fun t =>
      t.reg Reg.WINH_LATCH = s.reg Reg.WINH_LATCH ||| Word.ofNat (srcs &&& winhEnabled s) ∧ t.reg Reg.WINH_SRC = s.reg Reg.WINH_SRC ||| Word.ofNat (srcs % 65536) ∧ t.wenc = s.wenc ∧ t.irq pgWINH 0 ∧ s.reports pgWINH 0x0802 t) ∧
  (∀ (s : State) (srcs : Nat) (a : Arm) (r : List Arm), srcs &&& winhEnabled s ≠ 0 ∧ s.wenc.arms = a :: r ∧ a.running = true →
    Runs (.winhTrip srcs false) s fun t =>
      t.reg Reg.WINH_LATCH = s.reg Reg.WINH_LATCH ||| Word.ofNat (srcs &&& winhEnabled s) ∧ t.reg Reg.WINH_SRC = s.reg Reg.WINH_SRC ||| Word.ofNat (srcs % 65536) ∧ t.wenc.arms = r ∧ t.wenc.gate = false ∧ t.irq pgWINH 0 ∧ t.wenc.toXlt.getLast?.map (fun x => (x.slot, x.psa, x.verdict, x.cause)) = some (a.slot, a.psa, 3, 1)) ∧
  (∀ (s : State) (srcs : Nat) (late : Bool), srcs &&& winhEnabled s = 0 →
    Runs (.winhTrip srcs late) s fun t =>
      t.reg Reg.WINH_LATCH = s.reg Reg.WINH_LATCH ∧ t.reg Reg.WINH_SRC = s.reg Reg.WINH_SRC ||| Word.ofNat (srcs % 65536) ∧ t.wenc = s.wenc) ∧
  (∀ (s : State) (m : Master) (v new : Word) (late : Bool), Takes s m Reg.WINH_FORCE v new ∧ fieldOf v 0 1 = 1 ∧ (runningArm s = none ∨ late = true) →
    Runs (.winhForce m v late) s fun t =>
      t.bit Reg.WINH_LATCH 16 = true ∧ t.wenc = s.wenc ∧ t.irq pgWINH 0 ∧ s.reports pgWINH 0x0802 t) ∧
  (∀ (s : State) (m : Master) (v new : Word) (a : Arm) (r : List Arm), Takes s m Reg.WINH_FORCE v new ∧ fieldOf v 0 1 = 1 ∧ s.wenc.arms = a :: r ∧ a.running = true →
    Runs (.winhForce m v false) s fun t =>
      t.bit Reg.WINH_LATCH 16 = true ∧ t.wenc.arms = r ∧ t.wenc.gate = false ∧ t.irq pgWINH 0 ∧ t.wenc.toXlt.getLast?.map (fun x => (x.slot, x.psa, x.verdict, x.cause)) = some (a.slot, a.psa, 3, 1)) ∧
  (∀ (s : State) (m : Master) (v new : Word) (late : Bool), Takes s m Reg.WINH_FORCE v new ∧ fieldOf v 0 1 = 0 →
    Runs (.winhForce m v late) s fun t =>
      t.reg Reg.WINH_LATCH = s.reg Reg.WINH_LATCH ∧ t.wenc = s.wenc) ∧
  (∀ (s : State) (m : Master) (v new : Word) (out : Nat) (o : Word), Takes s m Reg.WINH_LATCH v new ∧ o = (if lgRuns s then Word.ofNat (out % 65536) ||| 65536#32 else Word.ofNat (out % 65536)) →
    Runs (.winhLatchClear m v out) s fun t =>
      t.reg Reg.WINH_LATCH = s.reg Reg.WINH_LATCH &&& ~~~(v &&& ~~~(v &&& o &&& s.reg Reg.WINH_LATCH)) ∧ t.reg Reg.WINH_SRC = o &&& 0xFFFF#32 ∧ (v &&& o &&& s.reg Reg.WINH_LATCH ≠ 0#32 → t.irq pgWINH 1 ∧ s.reports pgWINH 0x0803 t))

/-- HDL (R133 to R135, R155). -/
def Obligations.HeadLinkFramesCommandsAndResponses : Prop :=
  (∀ (s : State) (status : Word), s.frozen pgHDL = false ∧ hdlFault s = false ∧ hdlGood (hdlStatusIn s status) = true →
    Runs (.hdlFrame status) s fun t =>
      t.fld Reg.HDL_FIFO 16 5 = 0 ∧ t.wenc.hdlSlot = (s.wenc.hdlSlot + 1) % 3 ∧ t.wenc.lastCmd = (hdlSend s).1) ∧
  (∀ (s : State) (status : Word), s.frozen pgHDL = false ∧ hdlFault s = false ∧ hdlGood (hdlStatusIn s status) = false ∧ s.fld Reg.HDL_FIFO 16 5 < 15 →
    Runs (.hdlFrame status) s fun t =>
      t.fld Reg.HDL_FIFO 16 5 = s.fld Reg.HDL_FIFO 16 5 + 1 ∧ hdlFault t = false ∧ t.fld Reg.HDL_CNT 0 16 = min (s.fld Reg.HDL_CNT 0 16 + 1) 65535 ∧ t.irq pgHDL 0 ∧ s.reports pgHDL 0x0902 t) ∧
  (∀ (s : State) (status : Word), s.frozen pgHDL = false ∧ hdlFault s = false ∧ hdlGood (hdlStatusIn s status) = false ∧ 15 ≤ s.fld Reg.HDL_FIFO 16 5 →
    Runs (.hdlFrame status) s fun t =>
      hdlFault t = true ∧ t.bit Reg.HDL_CFG 0 = false ∧ t.irq pgHDL 1 ∧ t.wenc.gate = false) ∧
  (∀ (s : State) (status c : Word), s.frozen pgHDL = false ∧ hdlFault s = false ∧ hdlGood (hdlStatusIn s status) = true ∧ s.wenc.lastFromFifo = true ∧ s.wenc.lastCmd = some c ∧ fieldOf c 31 1 = 1 ∧ s.wenc.rsp.length < 16 →
    Runs (.hdlFrame status) s fun t =>
      t.wenc.rsp = s.wenc.rsp ++ [Word.ofNat (2 ^ 31 + fieldOf c 24 7 * 2 ^ 24 + fieldOf (hdlStatusIn s status) 24 8 * 65536 + fieldOf (hdlStatusIn s status) 8 16)] ∧ t.irq pgHDL 2) ∧
  (∀ (s : State) (status c : Word), s.frozen pgHDL = false ∧ hdlFault s = false ∧ hdlGood (hdlStatusIn s status) = false ∧ s.fld Reg.HDL_FIFO 16 5 < 15 ∧ s.wenc.lastFromFifo = true ∧ s.wenc.lastCmd = some c →
    Runs (.hdlFrame status) s fun t =>
      t.wenc.wsgCmds = hdlCommandOf c :: (hdlSend s).2.2.wenc.wsgCmds ∧ t.fld Reg.HDL_CNT 16 16 = min (s.fld Reg.HDL_CNT 16 16 + 1) 65535) ∧
  (∀ (s : State) (status : Word), s.wf = true ∧ (s.frozen pgHDL = true ∨ hdlFault s = true) →
    Runs (.hdlFrame status) s fun t =>
      t = s) ∧
  (∀ (s : State) (m : Master) (v new : Word), Takes s m Reg.HDL_CMD v new ∧ s.wenc.fifo.length + s.wenc.wsgCmds.length < 16 →
    Runs (.hdlCmdWrite m v) s fun t =>
      t.wenc.fifo = s.wenc.fifo ++ [v &&& 0xFF00FFFF#32]) ∧
  (∀ (s : State) (m : Master) (v new : Word), Takes s m Reg.HDL_CMD v new ∧ 16 ≤ s.wenc.fifo.length + s.wenc.wsgCmds.length →
    Runs (.hdlCmdWrite m v) s fun t =>
      t.wenc.fifo = s.wenc.fifo ∧ t.irq pgHDL 3 ∧ s.reports pgHDL 0x0904 t) ∧
  (∀ (s : State) (m : Master) (x : Word) (r : List Word), pageGrants s m pgHDL .read = true ∧ s.wenc.rsp = x :: r →
    Runs (.hdlRspRead m) s fun t =>
      t.resp = ⟨x.toNat, false⟩ ∧ t.wenc.rsp = if m = .hostin then s.wenc.rsp else r) ∧
  (∀ (s : State) (m : Master), pageGrants s m pgHDL .read = true ∧ s.wenc.rsp = [] →
    Runs (.hdlRspRead m) s fun t =>
      t.resp = ⟨0, false⟩ ∧ t.wenc = s.wenc)

/-- SADC's groove counter (R160), FMT (R48 to R50, R505), loss of position (R182). -/
def Obligations.ServoReadsGrooves : Prop :=
  (∀ (s : State) (x : List ServoSample) (y : ServoSample) (u : State) (g : Int) (a : Nat), x.foldl sampleStep s = u ∧ sadcRuns u = true ∧ u.frozen pgSADC = false ∧ grooveSide u (teSample u y) = g ∧ g ≠ 0 ∧ u.sv.groove.side = -g ∧ grooveZero u.sv.groove (teSample u y) (sumSample u y) = some (a, true) →
    Runs (.grooveCrossing (x ++ [y])) s fun t =>
      t.fld Reg.SADC_GCNT 0 24 = bitsOf 24 (u.sfld Reg.SADC_GCNT 0 24 + g) ∧ t.bit Reg.SADC_GVEL 16 = decide (g = 1) ∧ t.sv.lastInt = min 65535 ((min (u.sv.age + 4) 262140 - a) / 4) ∧ t.fld Reg.SADC_GVEL 0 16 = gvel t) ∧
  (∀ (s : State) (x : List ServoSample) (y : ServoSample) (u : State) (g : Int) (a : Nat), x.foldl sampleStep s = u ∧ sadcRuns u = true ∧ u.frozen pgSADC = false ∧ grooveSide u (teSample u y) = g ∧ g ≠ 0 ∧ u.sv.groove.side = -g ∧ grooveZero u.sv.groove (teSample u y) (sumSample u y) = some (a, true) ∧ seqRuns u = true ∧ seqAxis u = 1 ∧ seqState u ≤ 3 ∧ decide (g = 1) = !u.bit Reg.ACT_JMP_CTRL 3 →
    Runs (.grooveCrossing (x ++ [y])) s fun t =>
      seqCounted t = min 15 (seqCounted u + 1)) ∧
  (∀ (s : State) (x : List ServoSample) (y : ServoSample) (u : State), x.foldl sampleStep s = u ∧ sadcRuns u = true ∧ u.frozen pgSADC = false ∧ (grooveSide u (teSample u y) = 0 ∨ u.sv.groove.side ≠ -grooveSide u (teSample u y) ∨ (grooveZero u.sv.groove (teSample u y) (sumSample u y)).map (·.2) ≠ some true) →
    Runs (.grooveCrossing (x ++ [y])) s fun t =>
      t.reg Reg.SADC_GCNT = u.reg Reg.SADC_GCNT ∧ t.sv.lastInt = u.sv.lastInt ∧ t.bit Reg.SADC_GVEL 16 = u.bit Reg.SADC_GVEL 16 ∧ t.sv.age = min (u.sv.age + 4) 262140) ∧
  (∀ (s : State) (x : List ServoSample), sadcRuns s = false ∨ x = [] →
    Runs (.grooveCrossing x) s fun t =>
      t.reg Reg.SADC_GCNT = s.reg Reg.SADC_GCNT ∧ t.reg Reg.ACT_JMP_STAT = s.reg Reg.ACT_JMP_STAT ∧ t.sv = s.sv) ∧
  (∀ (s : State) (cells : List (List Bool)) (rate : Nat), s.frozen pgFMT = false ∧ (gaSymbols cells).bind gaDecode = none →
    Runs (.gaWord cells rate) s fun t =>
      t.fld Reg.FMT_GASTAT 0 8 = 0 ∧ t.fld Reg.FMT_GASTAT 8 8 = min (s.fld Reg.FMT_GASTAT 8 8 + 1) 255 ∧ t.bit Reg.FMT_GASTAT 16 = true ∧ t.fld Reg.FMT_WOB 0 22 = rate % 4194304 ∧ t.fmt.pred = s.fmt.pred.map gaNext ∧ t.fmt.cand = none) ∧
  (∀ (s : State) (cells : List (List Bool)) (rate : Nat) (w : Nat), s.frozen pgFMT = false ∧ (gaSymbols cells).bind gaDecode = some w ∧ s.fmt.pred.map gaPlace = some (gaPlace w) →
    Runs (.gaWord cells rate) s fun t =>
      t.reg Reg.FMT_GA_LO = Word.ofNat w ∧ t.reg Reg.FMT_GA_HI = Word.ofNat (w / 2 ^ 32) ∧ t.fld Reg.FMT_GASTAT 0 8 = min 255 (s.fld Reg.FMT_GASTAT 0 8 + 1) ∧ t.fld Reg.FMT_GASTAT 8 8 = 0 ∧ t.fmt.pred = some (gaNext w) ∧ t.fmt.cand = none) ∧
  (∀ (s : State) (cells : List (List Bool)) (rate : Nat) (w : Nat), s.frozen pgFMT = false ∧ (gaSymbols cells).bind gaDecode = some w ∧ s.fmt.pred.map gaPlace ≠ some (gaPlace w) ∧ s.fmt.cand.map gaPlace = some (gaPlace w) →
    Runs (.gaWord cells rate) s fun t =>
      t.reg Reg.FMT_GA_LO = Word.ofNat w ∧ t.reg Reg.FMT_GA_HI = Word.ofNat (w / 2 ^ 32) ∧ t.fld Reg.FMT_GASTAT 0 8 = 1 ∧ t.fld Reg.FMT_GASTAT 8 8 = 0 ∧ t.fmt.pred = some (gaNext w) ∧ t.fmt.cand = none ∧ (s.fmt.pred ≠ none → t.irq pgFMT 1)) ∧
  (∀ (s : State) (cells : List (List Bool)) (rate : Nat) (w : Nat), s.frozen pgFMT = false ∧ (gaSymbols cells).bind gaDecode = some w ∧ s.fmt.pred.map gaPlace ≠ some (gaPlace w) ∧ s.fmt.cand.map gaPlace ≠ some (gaPlace w) →
    Runs (.gaWord cells rate) s fun t =>
      t.fmt.cand = some (gaNext w) ∧ t.fmt.pred = s.fmt.pred.map gaNext ∧ t.fld Reg.FMT_GASTAT 0 8 = 0 ∧ t.fld Reg.FMT_GASTAT 8 8 = 0 ∧ t.reg Reg.FMT_GA_LO = s.reg Reg.FMT_GA_LO ∧ t.reg Reg.FMT_GA_HI = s.reg Reg.FMT_GA_HI ∧ t.fmt.di = s.fmt.di) ∧
  (∀ (s : State) (cells : List (List Bool)) (rate : Nat) (w : Nat), s.frozen pgFMT = false ∧ (gaSymbols cells).bind gaDecode = some w ∧ (s.fmt.pred.map gaPlace = some (gaPlace w) ∨ s.fmt.cand.map gaPlace = some (gaPlace w)) →
    Runs (.gaWord cells rate) s fun t =>
      t.fmt.di = (if s.bit Reg.FMT_DI_CTRL 0 then s.fmt.di.set (gaAuxIndex w) (GaWord.ofBits w).aux else s.fmt.di) ∧ t.fmt.diMask = (if s.bit Reg.FMT_DI_CTRL 0 then s.fmt.diMask ||| 2 ^ gaAuxIndex w else s.fmt.diMask)) ∧
  (∀ (s : State) (cells : List (List Bool)) (rate : Nat), s.wf = true ∧ s.frozen pgFMT = true →
    Runs (.gaWord cells rate) s fun t =>
      t = s) ∧
  (∀ (s : State), 16 ≤ s.fld Reg.FMT_GASTAT 8 8 →
    Runs (.gaPositionLoss) s fun t =>
      t.wenc.gate = false ∧ t.irq pgACT 7) ∧
  (∀ (s : State), s.wf = true ∧ s.fld Reg.FMT_GASTAT 8 8 < 16 →
    Runs (.gaPositionLoss) s fun t =>
      t = s) ∧
  (∀ (s : State), s.frozen pgFMT = false →
    Runs (.wobbleLockLoss) s fun t =>
      t.bit Reg.FMT_GASTAT 16 = false ∧ t.irq pgFMT 2 ∧ s.reports pgFMT 0x2502 t) ∧
  (∀ (s : State), s.wf = true ∧ s.frozen pgFMT = true →
    Runs (.wobbleLockLoss) s fun t =>
      t = s) ∧
  (∀ (s : State) (m : Master) (v new : Word), Takes s m Reg.FMT_DI_CTRL v new ∧ fieldOf v 0 1 = 1 ∧ fieldOf new 0 1 = 0 ∧ s.reg Reg.FMT_DI_BASE ≠ 0#32 →
    Runs (.fmtDiCapture m v) s fun t =>
      t.bit Reg.FMT_DI_CTRL 0 = true ∧ t.reg Reg.FMT_DI_STAT = 0#32 ∧ t.fmt.diMask = 0 ∧ t.fmt.di = List.replicate 512 0) ∧
  (∀ (s : State) (m : Master) (v new : Word), Takes s m Reg.FMT_DI_CTRL v new ∧ fieldOf v 0 1 = 1 ∧ (fieldOf new 0 1 = 1 ∨ s.reg Reg.FMT_DI_BASE = 0#32) →
    Runs (.fmtDiCapture m v) s fun t =>
      t.fmt = s.fmt ∧ t.reg Reg.FMT_DI_STAT = s.reg Reg.FMT_DI_STAT ∧ s.reports pgFMT 0x2501 t) ∧
  (∀ (s : State) (m : Master) (v new : Word), Takes s m Reg.FMT_DI_CTRL v new ∧ fieldOf v 0 1 = 0 →
    Runs (.fmtDiCapture m v) s fun t =>
      t.fmt = s.fmt ∧ t.reg Reg.FMT_DI_STAT = s.reg Reg.FMT_DI_STAT ∧ t.reg Reg.FMT_DI_CTRL = new) ∧
  (∀ (s : State), s.frozen pgFMT = false ∧ s.bit Reg.FMT_DI_CTRL 0 = true ∧ s.fmt.diMask = 2 ^ 512 - 1 →
    Runs (.fmtDiCaptureDone) s fun t =>
      t.bit Reg.FMT_DI_CTRL 0 = false ∧ t.fld Reg.FMT_DI_STAT 0 2 = 1 + 2 * (diCrcOk s.fmt.di).toNat ∧ t.irq pgFMT 0 ∧ t.wenc.nbrick = (if diOk s.fmt.di (s.fld Reg.FMT_GA_HI 7 1) then (List.range 12).map (diNbrick s.fmt.di) else s.wenc.nbrick)) ∧
  (∀ (s : State), s.wf = true ∧ (s.frozen pgFMT = true ∨ s.bit Reg.FMT_DI_CTRL 0 = false ∨ s.fmt.diMask ≠ 2 ^ 512 - 1) →
    Runs (.fmtDiCaptureDone) s fun t =>
      t = s)

/-- ACT_JMP (R172 to R175, R532). States: 1 kick or hold, 2 coast or ramp, 3 brake, 4 captured, 5 done, 6 failed, 7
aborted. -/
def Obligations.JumpSequencerRunsItsStates : Prop :=
  (∀ (s : State) (m : Master) (v new : Word), Takes s m Reg.ACT_JMP_CTRL v new ∧ s.sv.ctl.length = 4 ∧ seqRuns s = false ∧ fieldOf v 0 1 = 1 ∧ goRefused (s.setReg Reg.ACT_JMP_CTRL new) = false ∧ fieldOf new 1 1 = 0 →
    Runs (.actJmpGoJump m v) s fun t =>
      seqRuns t = true ∧ seqState t = 1 ∧ seqCounted t = 0 ∧ bridgeCtl t (fieldOf new 2 1) = .seq ∧ t.sv.base = bridgeOut s (fieldOf new 2 1) ∧ bridgeOut t (fieldOf new 2 1) = (if bridgeLive s (fieldOf new 2 1) then sat16 (bridgeOut s (fieldOf new 2 1) + (if fieldOf new 3 1 = 1 then -1 else 1) * (s.fld Reg.ACT_JMP_KICK 0 16 : Int)) else 0)) ∧
  (∀ (s : State) (m : Master) (v new : Word), Takes s m Reg.ACT_JMP_CTRL v new ∧ s.sv.ctl.length = 4 ∧ seqRuns s = false ∧ fieldOf v 0 1 = 1 ∧ goRefused (s.setReg Reg.ACT_JMP_CTRL new) = true →
    Runs (.actJmpGoJump m v) s fun t =>
      t.reg Reg.ACT_JMP_STAT = s.reg Reg.ACT_JMP_STAT ∧ s.reports pgACT 0x0B05 t ∧ t.sv = s.sv) ∧
  (∀ (s : State) (m : Master) (v new : Word), Takes s m Reg.ACT_JMP_CTRL v new ∧ seqRuns s = true ∧ fieldOf v 31 1 = 0 →
    Runs (.actJmpGoJump m v) s fun t =>
      t.reg Reg.ACT_JMP_CTRL = s.reg Reg.ACT_JMP_CTRL ∧ t.reg Reg.ACT_JMP_STAT = s.reg Reg.ACT_JMP_STAT ∧ t.sv = s.sv ∧ (fieldOf v 0 1 = 1 → s.reports pgACT 0x0B05 t)) ∧
  (∀ (s : State) (m : Master) (v new : Word), Takes s m Reg.ACT_JMP_CTRL v new ∧ seqRuns s = false ∧ fieldOf v 0 1 = 0 →
    Runs (.actJmpGoJump m v) s fun t =>
      t.reg Reg.ACT_JMP_CTRL = new ∧ t.reg Reg.ACT_JMP_STAT = s.reg Reg.ACT_JMP_STAT ∧ t.sv = s.sv) ∧
  (∀ (s : State) (m : Master) (v new : Word), Takes s m Reg.ACT_JMP_CTRL v new ∧ s.sv.ctl.length = 4 ∧ seqRuns s = false ∧ fieldOf v 0 1 = 1 ∧ goRefused (s.setReg Reg.ACT_JMP_CTRL new) = false ∧ fieldOf new 1 1 = 1 →
    Runs (.actJmpGoSweep m v) s fun t =>
      seqRuns t = true ∧ seqState t = 1 ∧ seqCounted t = 0 ∧ bridgeCtl t 0 = .seq ∧ bridgeOut t 0 = (if bridgeLive s 0 then sat16 (s.sfld Reg.ACT_JMP_LIM 0 16) else 0) ∧ t.sv.ramp = s.sfld Reg.ACT_JMP_LIM 0 16 * 512) ∧
  (∀ (s : State) (m : Master) (v new : Word), Takes s m Reg.ACT_JMP_CTRL v new ∧ s.sv.ctl.length = 4 ∧ seqRuns s = false ∧ fieldOf v 0 1 = 1 ∧ goRefused (s.setReg Reg.ACT_JMP_CTRL new) = true →
    Runs (.actJmpGoSweep m v) s fun t =>
      t.reg Reg.ACT_JMP_STAT = s.reg Reg.ACT_JMP_STAT ∧ s.reports pgACT 0x0B05 t ∧ t.sv = s.sv) ∧
  (∀ (s : State), seqRuns s = true ∧ seqSweep s = true ∧ seqState s = 1 →
    Runs (.actSweepHoldEnd) s fun t =>
      seqState t = 2 ∧ seqRuns t = true ∧ t.sv = s.sv) ∧
  (∀ (s : State), s.wf = true ∧ (seqRuns s = false ∨ seqSweep s = false ∨ seqState s ≠ 1) →
    Runs (.actSweepHoldEnd) s fun t =>
      t = s) ∧
  (∀ (s : State), seqRuns s = true ∧ seqSweep s = false ∧ seqState s = 1 →
    Runs (.actKickEnd) s fun t =>
      seqState t = 2 ∧ seqRuns t = true ∧ bridgeOut t (seqAxis s) = (if bridgeLive s (seqAxis s) then sat16 (s.sv.base) else 0)) ∧
  (∀ (s : State), s.wf = true ∧ (seqRuns s = false ∨ seqSweep s = true ∨ seqState s ≠ 1) →
    Runs (.actKickEnd) s fun t =>
      t = s) ∧
  (∀ (s : State) (x : List ServoSample) (y : ServoSample) (u : State) (g : Int) (a : Nat), x.foldl sampleStep s = u ∧ sadcRuns u = true ∧ u.frozen pgSADC = false ∧ grooveSide u (teSample u y) = g ∧ g ≠ 0 ∧ u.sv.groove.side = -g ∧ grooveZero u.sv.groove (teSample u y) (sumSample u y) = some (a, false) ∧ seqRuns u = true ∧ seqSweep u = false ∧ seqAxis u = 1 ∧ (seqState u = 1 ∨ seqState u = 2) ∧ seqCount u ≤ seqCounted u + 1 →
    Runs (.actBrakeStart (x ++ [y])) s fun t =>
      seqState t = 3 ∧ t.sv.braking = true ∧ bridgeOut t 1 = (if bridgeLive u 1 then sat16 (u.sv.base - seqSign u * (u.fld Reg.ACT_JMP_BRAKE 0 16 : Int)) else 0)) ∧
  (∀ (s : State) (x : List ServoSample) (y : ServoSample) (u : State) (g : Int), x.foldl sampleStep s = u ∧ sadcRuns u = true ∧ seqRuns u = true ∧ seqSweep u = false ∧ seqAxis u = 0 ∧ (seqState u = 1 ∨ seqState u = 2) ∧ seqCount u ≤ seqCounted u + 1 ∧ sumCaptures u (sampleVal u y 1) = true ∧ beyond (sampleVal u y 9) (u.fld Reg.ACT_JMP_CAP 16 12) = true ∧ (if 0 < sampleVal u y 9 then 1 else -1) = g ∧ u.sv.excur ≠ g ∧ u.sv.lobe ≠ -g →
    Runs (.actBrakeStart (x ++ [y])) s fun t =>
      seqState t = 3 ∧ t.sv.braking = true ∧ t.sv.lobe = g ∧ bridgeOut t 0 = (if bridgeLive u 0 then sat16 (u.sv.base - seqSign u * (u.fld Reg.ACT_JMP_BRAKE 0 16 : Int)) else 0)) ∧
  (∀ (s : State) (x : List ServoSample) (y : ServoSample) (u : State), x.foldl sampleStep s = u ∧ sadcRuns u = true ∧ seqRuns u = true ∧ seqSweep u = false ∧ (seqState u = 1 ∨ seqState u = 2) ∧ seqCounted u + 1 < seqCount u →
    Runs (.actBrakeStart (x ++ [y])) s fun t =>
      seqState t = seqState u ∧ seqRuns t = true) ∧
  (∀ (s : State) (x : List ServoSample) (y : ServoSample) (u : State) (g : Int), x.foldl sampleStep s = u ∧ sadcRuns u = true ∧ countsCurves u = true ∧ sumCaptures u (sampleVal u y 1) = true ∧ beyond (sampleVal u y 9) (u.fld Reg.ACT_JMP_CAP 16 12) = true ∧ (if 0 < sampleVal u y 9 then 1 else -1) = g ∧ u.sv.excur ≠ g ∧ u.sv.lobe = -g →
    Runs (.actCapture (x ++ [y])) s fun t =>
      seqCounted t = min 15 (seqCounted u + 1) ∧ t.sv.lobe = 0 ∧ t.sv.excur = g ∧ seqState t = seqState u) ∧
  (∀ (s : State) (x : List ServoSample) (y : ServoSample) (u : State), x.foldl sampleStep s = u ∧ sadcRuns u = true ∧ countsCurves u = true ∧ sumCaptures u (sampleVal u y 1) = false →
    Runs (.actCapture (x ++ [y])) s fun t =>
      t.sv.lobe = 0 ∧ t.sv.excur = 0 ∧ seqCounted t = seqCounted u ∧ seqState t = seqState u) ∧
  (∀ (s : State) (x : List ServoSample) (y : ServoSample) (u : State) (w : State), x.foldl sampleStep s = u ∧ sadcRuns u = true ∧ curveSample (sampleVal u y 9) (sampleVal u y 1) (sampleTaken u y) = w ∧ seqState u = seqState w ∧ capturesAt w (if seqAxis w = 0 then sampleVal u y 9 else sampleVal u y (techCh w)) (sampleVal u y 1) = true →
    Runs (.actCapture (x ++ [y])) s fun t =>
      seqState t = 4 ∧ t.sv.returnDue = true ∧ seqRuns t = true ∧ t.leng.actSwap = (w.leng.actSwap || w.bit Reg.ACT_JMP_CTRL 4)) ∧
  (∀ (s : State) (x : List ServoSample) (y : ServoSample) (u : State) (w : State), x.foldl sampleStep s = u ∧ sadcRuns u = true ∧ curveSample (sampleVal u y 9) (sampleVal u y 1) (sampleTaken u y) = w ∧ seqState u = seqState w ∧ capturesAt w (if seqAxis w = 0 then sampleVal u y 9 else sampleVal u y (techCh w)) (sampleVal u y 1) = true ∧ seqSweep w = true ∧ routeOwns w (w.fld Reg.LENG_FHOLD 0 12) = false ∧ w.fld Reg.LENG_FHOLD 0 12 < 0x800 →
    Runs (.actCapture (x ++ [y])) s fun t =>
      t.mort (w.fld Reg.LENG_FHOLD 0 12) = Word.ofNat (bitsOf 32 (bridgeOut w 0 * 65536))) ∧
  (∀ (s : State) (x : List ServoSample) (y : ServoSample) (u : State) (w : State), x.foldl sampleStep s = u ∧ sadcRuns u = true ∧ curveSample (sampleVal u y 9) (sampleVal u y 1) (sampleTaken u y) = w ∧ (seqState u ≠ seqState w ∨ capturesAt w (if seqAxis w = 0 then sampleVal u y 9 else sampleVal u y (techCh w)) (sampleVal u y 1) = false) →
    Runs (.actCapture (x ++ [y])) s fun t =>
      seqState t = seqState w ∧ t.sv.returnDue = u.sv.returnDue ∧ t.leng.actSwap = u.leng.actSwap) ∧
  (∀ (s : State) (x : List ServoSample), sadcRuns s = false ∨ x = [] →
    Runs (.actBrakeStart x) s fun t =>
      t.reg Reg.ACT_JMP_STAT = s.reg Reg.ACT_JMP_STAT ∧ t.sv = s.sv ∧ t.leng = s.leng) ∧
  (∀ (s : State) (x : List ServoSample), sadcRuns s = false ∨ x = [] →
    Runs (.actCapture x) s fun t =>
      t.reg Reg.ACT_JMP_STAT = s.reg Reg.ACT_JMP_STAT ∧ t.sv = s.sv ∧ t.leng = s.leng) ∧
  (∀ (s : State), seqRuns s = true ∧ seqState s = 3 →
    Runs (.actBrakeEnd) s fun t =>
      bridgeOut t (seqAxis s) = (if bridgeLive s (seqAxis s) then sat16 (s.sv.base) else 0) ∧ seqState t = 3) ∧
  (∀ (s : State), s.wf = true ∧ (seqRuns s = false ∨ seqState s ≠ 3) →
    Runs (.actBrakeEnd) s fun t =>
      t = s) ∧
  (∀ (s : State), seqRuns s = true ∧ seqState s = 4 ∧ s.sv.returnDue = false ∧ s.fld Reg.ACT_SETTLE 0 12 ≤ s.sv.setRun →
    Runs (.actSettleDone) s fun t =>
      seqState t = 5 ∧ seqRuns t = false ∧ t.irq pgACT 0 ∧ (seqAxis s = 0 → s.reg (Reg.ACT_BR_STAT 0) = 0#32 → t.sv.focusLost = false)) ∧
  (∀ (s : State), s.wf = true ∧ (seqRuns s = false ∨ seqState s ≠ 4 ∨ s.sv.returnDue = true ∨ s.sv.setRun < s.fld Reg.ACT_SETTLE 0 12) →
    Runs (.actSettleDone) s fun t =>
      t = s) ∧
  (∀ (s : State), seqRuns s = true ∧ seqSweep s = true ∧ seqState s = 2 ∧ s.sfld Reg.ACT_JMP_LIM 16 16 * 512 ≤ s.sv.ramp →
    Runs (.actSweepFail) s fun t =>
      seqState t = 6 ∧ seqRuns t = false ∧ t.irq pgACT 1 ∧ s.reports pgACT 0x0B02 t ∧ t.sv.ctl = s.sv.ctl ∧ bridgeOut t 0 = (if bridgeLive s 0 then sat16 (s.sfld Reg.ACT_JMP_LIM 0 16) else 0)) ∧
  (∀ (s : State), s.wf = true ∧ (seqRuns s = false ∨ seqSweep s = false ∨ seqState s ≠ 2 ∨ s.sv.ramp < s.sfld Reg.ACT_JMP_LIM 16 16 * 512) →
    Runs (.actSweepFail) s fun t =>
      t = s) ∧
  (∀ (s : State), seqRuns s = true ∧ seqAxis s = 1 ∧ s.sv.ctl.length = 4 ∧ routeOwns s 0x80 = false →
    Runs (.actJmpTimeout) s fun t =>
      seqState t = 6 ∧ seqRuns t = false ∧ bridgeCtl t 1 = .leng ∧ t.leng.actSwap = false ∧ tmode t = 1 ∧ t.irq pgACT 1 ∧ s.reports pgACT 0x0B02 t) ∧
  (∀ (s : State), seqRuns s = true ∧ seqAxis s = 0 →
    Runs (.actJmpTimeout) s fun t =>
      seqState t = 6 ∧ seqRuns t = false ∧ t.bit Reg.ACT_SAFE 8 = true ∧ t.sv.ctl = (if s.bit Reg.ACT_SAFE 8 then s.sv.ctl else List.replicate 4 .safe) ∧ t.leng.actSwap = false ∧ t.irq pgACT 1 ∧ s.reports pgACT 0x0B02 t) ∧
  (∀ (s : State), s.wf = true ∧ seqRuns s = false →
    Runs (.actJmpTimeout) s fun t =>
      t = s) ∧
  (∀ (s : State) (m : Master) (v new : Word), Takes s m Reg.ACT_JMP_CTRL v new ∧ seqRuns s = true ∧ fieldOf v 31 1 = 1 ∧ seqAxis s = 1 ∧ s.sv.ctl.length = 4 ∧ routeOwns s 0x80 = false →
    Runs (.actJmpAbort m v false) s fun t =>
      seqState t = 7 ∧ seqRuns t = false ∧ bridgeCtl t 1 = .leng ∧ t.leng.actSwap = false ∧ tmode t = 1 ∧ t.irq pgACT 1) ∧
  (∀ (s : State) (m : Master) (v new : Word), Takes s m Reg.ACT_JMP_CTRL v new ∧ seqRuns s = true ∧ fieldOf v 31 1 = 1 ∧ seqAxis s = 0 →
    Runs (.actJmpAbort m v false) s fun t =>
      seqState t = 7 ∧ seqRuns t = false ∧ t.bit Reg.ACT_SAFE 8 = true ∧ t.sv.ctl = (if s.bit Reg.ACT_SAFE 8 then s.sv.ctl else List.replicate 4 .safe) ∧ t.leng.actSwap = false ∧ t.irq pgACT 1) ∧
  (∀ (s : State) (m : Master) (v new : Word) (c : Bool), Takes s m Reg.ACT_JMP_CTRL v new ∧ fieldOf v 0 1 = 0 ∧ (c = true ∨ seqRuns s = false ∨ fieldOf v 31 1 = 0) →
    Runs (.actJmpAbort m v c) s fun t =>
      t.reg Reg.ACT_JMP_STAT = s.reg Reg.ACT_JMP_STAT ∧ seqRuns t = seqRuns s ∧ t.sv = s.sv ∧ t.leng = s.leng)

/-- Monitors (R182), the safe state (R183 to R185), bridges (R170, R189, R300). -/
def Obligations.ServoMonitorsAndSafeState : Prop :=
  (∀ (s : State), s.bit Reg.ACT_MON_TRK 31 = true ∧ s.fld Reg.ACT_MON_TRK 16 8 ≤ s.sv.offRun →
    Runs (.offTrack) s fun t =>
      t.irq pgACT 3 ∧ t.sv = s.sv) ∧
  (∀ (s : State), s.wf = true ∧ (s.bit Reg.ACT_MON_TRK 31 = false ∨ s.sv.offRun < s.fld Reg.ACT_MON_TRK 16 8) →
    Runs (.offTrack) s fun t =>
      t = s) ∧
  (∀ (s : State) (x : List ServoSample) (y : ServoSample) (u : State) (d : Bool), x.foldl sampleStep s = u ∧ sadcRuns u = true ∧ u.bit Reg.ACT_MON_SHK 31 = true ∧ beyond (sampleVal u y 30) (u.fld Reg.ACT_MON_SHK 0 12) = true →
    Runs (.shockDetected d (x ++ [y])) s fun t =>
      t.sv.shockTick = some s.ticks ∧ t.irq pgACT 6) ∧
  (∀ (s : State) (x : List ServoSample), s.bit Reg.ACT_MON_SHK 31 = true ∧ s.bit Reg.WINH_SHKD 0 = true →
    Runs (.shockDetected true x) s fun t =>
      t.sv.shockTick = some s.ticks ∧ t.irq pgACT 6) ∧
  (∀ (s : State) (x : List ServoSample) (y : ServoSample) (u : State) (d : Bool), x.foldl sampleStep s = u ∧ (sadcRuns u = false ∨ u.bit Reg.ACT_MON_SHK 31 = false ∨ beyond (sampleVal u y 30) (u.fld Reg.ACT_MON_SHK 0 12) = false) ∧ (d = false ∨ s.bit Reg.ACT_MON_SHK 31 = false ∨ s.bit Reg.WINH_SHKD 0 = false) →
    Runs (.shockDetected d (x ++ [y])) s fun t =>
      t.sv.shockTick = u.sv.shockTick) ∧
  (∀ (s : State) (k : Nat), s.sv.shockTick = some k ∧ k + 4096 ≤ s.ticks →
    Runs (.shockEnd) s fun t =>
      t.sv.shockTick = none) ∧
  (∀ (s : State) (k : Nat), s.wf = true ∧ (s.sv.shockTick = none ∨ s.sv.shockTick = some k ∧ s.ticks < k + 4096) →
    Runs (.shockEnd) s fun t =>
      t = s) ∧
  (∀ (s : State), s.bit Reg.ACT_MON_FOC 31 = true ∧ s.fld Reg.ACT_MON_FOC 16 8 ≤ s.sv.lossRun →
    Runs (.focusLoss) s fun t =>
      t.bit Reg.ACT_SAFE 8 = true ∧ t.irq pgACT 2 ∧ (s.bit Reg.ACT_SAFE 8 = false → t.fld Reg.ACT_SAFE 12 4 = 5 ∧ t.wenc.gate = false ∧ t.sv.ctl = List.replicate 4 .safe) ∧ s.reports pgACT 0x0B03 t) ∧
  (∀ (s : State), s.wf = true ∧ (s.bit Reg.ACT_MON_FOC 31 = false ∨ s.sv.lossRun < s.fld Reg.ACT_MON_FOC 16 8) →
    Runs (.focusLoss) s fun t =>
      t = s) ∧
  (∀ (s : State) (m : Master) (v new : Word), Takes s m Reg.ACT_SAFE v new ∧ fieldOf v 0 1 = 1 ∧ fieldOf v 1 1 = 0 ∧ fieldOf new 8 1 = 0 →
    Runs (.actSafeEnter m v) s fun t =>
      t.bit Reg.ACT_SAFE 8 = true ∧ t.fld Reg.ACT_SAFE 12 4 = 2 ∧ t.wenc.gate = false ∧ t.irq pgACT 4 ∧ t.sv.ctl = List.replicate 4 .safe ∧ seqRuns t = false ∧ t.leng.actSwap = false ∧ t.sv.latched = holdValue s ∧ bridgeOut t 0 = (if bridgeLive s 0 then sat16 (holdValue s) else 0) ∧ bridgeOut t 1 = 0 ∧ s.reports pgACT 0x0B03 t) ∧
  (∀ (s : State) (m : Master) (v new : Word), Takes s m Reg.ACT_SAFE v new ∧ fieldOf v 0 1 = 1 ∧ fieldOf v 1 1 = 0 ∧ fieldOf new 8 1 = 1 →
    Runs (.actSafeEnter m v) s fun t =>
      t.reg Reg.ACT_SAFE = new ∧ t.sv = s.sv ∧ s.reports pgACT 0x0B03 t) ∧
  (∀ (s : State) (m : Master) (v new : Word), Takes s m Reg.ACT_SAFE v new ∧ fieldOf v 0 1 = 0 ∧ fieldOf v 1 1 = 0 →
    Runs (.actSafeEnter m v) s fun t =>
      t.reg Reg.ACT_SAFE = new ∧ t.sv = s.sv) ∧
  (∀ (s : State) (m : Master) (v new : Word), Takes s m Reg.ACT_SAFE v new ∧ fieldOf v 0 1 = 0 ∧ fieldOf v 1 1 = 1 ∧ fieldOf new 8 1 = 1 ∧ fieldOf new 16 6 = 0 →
    Runs (.actSafeExit m v) s fun t =>
      t.reg Reg.ACT_SAFE = 0#32 ∧ t.bit (Reg.STAT pgACT) 8 = false ∧ t.sv.ctl.drop 1 = [.leng, .leng, .leng] ∧ t.sv.ctl.head? = some (if (s.fld Reg.ACT_MON_FOC 0 12 : Int) * 16 < tickVal s 1 then .leng else .hold)) ∧
  (∀ (s : State) (m : Master) (v new : Word), Takes s m Reg.ACT_SAFE v new ∧ fieldOf v 0 1 = 0 ∧ fieldOf v 1 1 = 1 ∧ fieldOf new 8 1 = 1 ∧ fieldOf new 16 6 ≠ 0 →
    Runs (.actSafeExit m v) s fun t =>
      t.reg Reg.ACT_SAFE = new ∧ t.sv = s.sv ∧ s.reports pgACT 0x0B01 t) ∧
  (∀ (s : State) (m : Master) (v new : Word), Takes s m Reg.ACT_SAFE v new ∧ fieldOf v 0 1 = 0 ∧ (fieldOf v 1 1 = 0 ∨ fieldOf new 8 1 = 0) →
    Runs (.actSafeExit m v) s fun t =>
      t.reg Reg.ACT_SAFE = new ∧ t.sv = s.sv) ∧
  (∀ (s : State), Runs (.safeOverrunWindowClear) s fun t =>
      t.bit Reg.ACT_SAFE 16 = false ∧ t.fld Reg.ACT_SAFE 0 16 = s.fld Reg.ACT_SAFE 0 16 ∧ t.sv = s.sv) ∧
  (∀ (s : State) (b bits : Nat), b < 4 →
    Runs (.bridgeFault b bits) s fun t =>
      t.reg (Reg.ACT_BR_STAT b) = s.reg (Reg.ACT_BR_STAT b) ||| Word.ofNat (bits % 8) ∧ t.bit Reg.ACT_SAFE 8 = true ∧ t.irq pgACT 5 ∧ s.reports pgACT 0x0B04 t ∧ (b = 0 → t.sv.focusLost = true) ∧ (bits % 8 ≠ 0 → bridgeOut t b = 0) ∧ t.bit Reg.ACT_SAFE 19 = true) ∧
  (∀ (s : State) (m : Master) (v new : Word), Takes s m Reg.ACT_CFG v new →
    Runs (.actBridgeEnable m v) s fun t =>
      t.reg Reg.ACT_CFG = new ∧ ∀ b ∈ List.range 4, (fieldOf (s.reg Reg.ACT_CFG) b 1 = 0 → fieldOf new b 1 = 1 → b ∈ t.sv.meas ∧ bridgeOut t b = 0) ∧ (fieldOf new b 1 = 0 → bridgeOut t b = 0 ∧ b ∉ t.sv.meas))

/-- SPN (R231 to R244). States: 0 OFF, 1 MEASURE, 2 ALIGN, 3 RAMP, 4 SYNC, 5 RUN, 6 BRAKE, 7 ZEROV, 8 HOLDUP, 9 FAULT. -/
def Obligations.SpindleModesAndStates : Prop :=
  (∀ (s : State) (m : Master) (new : Word), Takes s m Reg.SPN_MODE 0#32 new ∧ spnState s < 8 →
    Runs (.spnModeOff m) s fun t =>
      spnState t = 0 ∧ t.reg Reg.SPN_MODE = new) ∧
  (∀ (s : State) (m : Master) (new : Word), Takes s m Reg.SPN_MODE 0#32 new ∧ spnState s = 9 ∧ faultGone s = true →
    Runs (.spnModeOff m) s fun t =>
      spnState t = 0 ∧ t.reg Reg.SPN_MODE = new ∧ t.fld Reg.SPN_FAULT 0 3 = 0) ∧
  (∀ (s : State) (m : Master) (new : Word), Takes s m Reg.SPN_MODE 0#32 new ∧ (spnState s = 8 ∨ spnState s = 9 ∧ faultGone s = false) →
    Runs (.spnModeOff m) s fun t =>
      spnState t = spnState s ∧ t.reg Reg.SPN_MODE = s.reg Reg.SPN_MODE ∧ s.reports pgSPN 0x0F01 t) ∧
  (∀ (s : State) (m : Master) (new : Word), Takes s m Reg.SPN_MODE 1#32 new ∧ ovState s ≠ 2 ∧ ovState s ≠ 3 ∧ spnState s < 8 →
    Runs (.spnModeRun m) s fun t =>
      t.reg Reg.SPN_MODE = new ∧ spnState t = if spnState s = 0 ∨ spnState s = 7 then 1 else if spnState s = 6 then 5 else spnState s) ∧
  (∀ (s : State) (m : Master) (new : Word), Takes s m Reg.SPN_MODE 1#32 new ∧ (ovState s = 2 ∨ ovState s = 3 ∨ spnState s = 8 ∨ spnState s = 9) →
    Runs (.spnModeRun m) s fun t =>
      spnState t = spnState s ∧ t.reg Reg.SPN_MODE = s.reg Reg.SPN_MODE ∧ s.reports pgSPN 0x0F01 t) ∧
  (∀ (s : State) (m : Master) (new : Word), Takes s m Reg.SPN_MODE 2#32 new ∧ ovState s ≠ 2 ∧ ovState s ≠ 3 ∧ spnState s < 8 →
    Runs (.spnModeBrake m) s fun t =>
      t.reg Reg.SPN_MODE = new ∧ spnState t = if 1 ≤ spnState s ∧ spnState s ≤ 3 then 7 else if spnState s = 4 ∨ spnState s = 5 then 6 else spnState s) ∧
  (∀ (s : State) (m : Master) (new : Word), Takes s m Reg.SPN_MODE 2#32 new ∧ (ovState s = 2 ∨ ovState s = 3 ∨ spnState s = 8 ∨ spnState s = 9) →
    Runs (.spnModeBrake m) s fun t =>
      spnState t = spnState s ∧ t.reg Reg.SPN_MODE = s.reg Reg.SPN_MODE ∧ s.reports pgSPN 0x0F01 t) ∧
  (∀ (s : State) (m : Master) (new : Word), Takes s m Reg.SPN_MODE 3#32 new ∧ spnState s < 8 →
    Runs (.spnModeZerov m) s fun t =>
      t.reg Reg.SPN_MODE = new ∧ spnState t = 7) ∧
  (∀ (s : State) (m : Master) (new : Word), Takes s m Reg.SPN_MODE 3#32 new ∧ (spnState s = 8 ∨ spnState s = 9) →
    Runs (.spnModeZerov m) s fun t =>
      spnState t = spnState s ∧ t.reg Reg.SPN_MODE = s.reg Reg.SPN_MODE ∧ s.reports pgSPN 0x0F01 t) ∧
  (∀ (s : State) (speed : Int) (angle emf : Nat), spnState s = 1 ∧ s.spn.since + 8000 ≤ s.ticks →
    Runs (.spnMeasureEnd speed angle emf) s fun t =>
      spnState t = (if emf < 20000 then 2 else if 0 < speed then (if (s.fld Reg.SPN_FLY 0 10 : Int) < speed then 4 else 2) else if (s.fld Reg.SPN_FLY 16 10 : Int) < -speed then 7 else 2) ∧ t.sfld Reg.SPN_FLYRES 0 16 = clampInt (-32768) 32767 speed ∧ t.spn.since = s.ticks ∧ (spnState t ≠ 7 → t.fld Reg.SPN_ANG_EPOCH 0 16 = (s.fld Reg.SPN_ANG_EPOCH 0 16 + 1) % 65536) ∧ (spnState t = 7 → t.spn.zvBack = true)) ∧
  (∀ (s : State) (speed : Int) (angle emf : Nat), s.wf = true ∧ (spnState s ≠ 1 ∨ s.ticks < s.spn.since + 8000) →
    Runs (.spnMeasureEnd speed angle emf) s fun t =>
      t = s) ∧
  (∀ (s : State), spnState s = 2 ∧ s.spn.since + s.fld Reg.SPN_ALIGN 16 8 * 1600 ≤ s.ticks →
    Runs (.spnAlignEnd) s fun t =>
      spnState t = 3 ∧ t.spn.since = s.ticks) ∧
  (∀ (s : State), s.wf = true ∧ (spnState s ≠ 2 ∨ s.ticks < s.spn.since + s.fld Reg.SPN_ALIGN 16 8 * 1600) →
    Runs (.spnAlignEnd) s fun t =>
      t = s) ∧
  (∀ (s : State), spnState s = 3 ∧ s.fld Reg.SPN_SYNC 0 8 ≤ s.spn.lockRun →
    Runs (.spnLock) s fun t =>
      spnState t = 4 ∧ t.fld Reg.SPN_ANG_EPOCH 0 16 = (s.fld Reg.SPN_ANG_EPOCH 0 16 + 1) % 65536 ∧ t.spn.syncIq = sigMA (s.fld Reg.SPN_OLR 0 12 : Int)) ∧
  (∀ (s : State), s.wf = true ∧ (spnState s ≠ 3 ∨ s.spn.lockRun < s.fld Reg.SPN_SYNC 0 8) →
    Runs (.spnLock) s fun t =>
      t = s) ∧
  (∀ (s : State) (k : Nat), spnState s = 4 ∧ s.spn.since + 1600 ≤ s.ticks ∧ s.fld Reg.SPN_OBS 16 12 = k ∧ k ≠ 0x69 ∧ k < 0x800 ∧ routeOwns s k = false →
    Runs (.spnSyncEnd) s fun t =>
      spnState t = 5 ∧ t.spn.keep = false ∧ t.irq pgSPN 0 ∧ t.mort k = wordOfInt s.spn.syncIq ∧ t.spn.setEff = (if s.spn.keep then s.spn.setEff else s.mortInt 0x69 * 3125)) ∧
  (∀ (s : State), s.wf = true ∧ (spnState s ≠ 4 ∨ s.ticks < s.spn.since + 1600) →
    Runs (.spnSyncEnd) s fun t =>
      t = s) ∧
  (∀ (s : State), spnState s = 3 ∧ s.spn.since + s.fld Reg.SPN_SYNC 16 12 * 1600 ≤ s.ticks →
    Runs (.spnRampTimeout) s fun t =>
      spnState t = 9 ∧ t.fld Reg.SPN_FAULT 0 3 = 3 ∧ t.irq pgSPN 6 ∧ s.reports pgSPN 0x0F04 t) ∧
  (∀ (s : State), s.wf = true ∧ (spnState s ≠ 3 ∨ s.ticks < s.spn.since + s.fld Reg.SPN_SYNC 16 12 * 1600) →
    Runs (.spnRampTimeout) s fun t =>
      t = s) ∧
  (∀ (s : State), spnState s = 7 ∧ s.spn.zvBack = true ∧ s.spn.since + s.fld Reg.SPN_ZV 16 12 * 160000 ≤ s.ticks →
    Runs (.spnZerovTimeout) s fun t =>
      spnState t = 9 ∧ t.fld Reg.SPN_FAULT 0 3 = 5 ∧ t.irq pgSPN 6 ∧ s.reports pgSPN 0x0F06 t) ∧
  (∀ (s : State), s.wf = true ∧ (spnState s ≠ 7 ∨ s.spn.zvBack = false ∨ s.ticks < s.spn.since + s.fld Reg.SPN_ZV 16 12 * 160000) →
    Runs (.spnZerovTimeout) s fun t =>
      t = s) ∧
  (∀ (s : State), (spnState s = 5 ∨ spnState s = 6) ∧ 64 ≤ s.spn.lostRun ∧ (s.spn.lossTick.all (fun k => decide (k + ticksPerSecond ≤ s.ticks))) = true →
    Runs (.spnLockLoss) s fun t =>
      spnState t = 1 ∧ t.spn.keep = true ∧ t.spn.lossTick = some s.ticks ∧ t.fld Reg.SPN_CNT 24 8 = min (s.fld Reg.SPN_CNT 24 8 + 1) 255 ∧ t.irq pgSPN 4) ∧
  (∀ (s : State) (k : Nat), (spnState s = 5 ∨ spnState s = 6) ∧ 64 ≤ s.spn.lostRun ∧ s.spn.lossTick = some k ∧ s.ticks < k + ticksPerSecond →
    Runs (.spnLockLoss) s fun t =>
      spnState t = 9 ∧ t.fld Reg.SPN_FAULT 0 3 = 4 ∧ t.irq pgSPN 6 ∧ s.reports pgSPN 0x0F05 t ∧ t.irq pgSPN 4) ∧
  (∀ (s : State), s.wf = true ∧ ((spnState s ≠ 5 ∧ spnState s ≠ 6) ∨ s.spn.lostRun < 64) →
    Runs (.spnLockLoss) s fun t =>
      t = s) ∧
  (∀ (s : State), spnState s = 6 ∧ s.mortInt 0x69 < sigRpm (s.fld Reg.SPN_OLR 12 10 * 10 : Nat) →
    Runs (.spnBrakeToZerov) s fun t =>
      spnState t = 7 ∧ t.spn.zvBack = false) ∧
  (∀ (s : State), s.wf = true ∧ (spnState s ≠ 6 ∨ sigRpm (s.fld Reg.SPN_OLR 12 10 * 10 : Nat) ≤ s.mortInt 0x69) →
    Runs (.spnBrakeToZerov) s fun t =>
      t = s) ∧
  (∀ (s : State), spnState s = 7 ∧ 2500 ≤ s.spn.lowRun →
    Runs (.spnStop) s fun t =>
      spnState t = (if s.spn.zvBack then 2 else 0) ∧ (s.spn.zvBack = false → t.irq pgSPN 1)) ∧
  (∀ (s : State), s.wf = true ∧ (spnState s ≠ 7 ∨ s.spn.lowRun < 2500) →
    Runs (.spnStop) s fun t =>
      t = s) ∧
  (∀ (s : State), 4 ≤ s.spn.age →
    Runs (.spnNoloop) s fun t =>
      t.irq pgSPN 8 ∧ s.reports pgSPN 0x0F07 t ∧ t.spn = s.spn) ∧
  (∀ (s : State), s.wf = true ∧ s.spn.age < 4 →
    Runs (.spnNoloop) s fun t =>
      t = s) ∧
  (∀ (s : State), 16 ≤ s.spn.calm →
    Runs (.spnVlimClear) s fun t =>
      t.spn.vlim = false ∧ t.bit (Reg.STAT pgSPN) 12 = s.spn.cap) ∧
  (∀ (s : State), s.wf = true ∧ s.spn.calm < 16 →
    Runs (.spnVlimClear) s fun t =>
      t = s) ∧
  (∀ (s : State), (s.spn.trips.filter (fun q => decide (s.ticks / 32 < q + 16))).length < 3 →
    Runs (.spnOverCurrent) s fun t =>
      spnState t = spnState s ∧ t.spn.offPeriod = some (s.ticks / 32) ∧ t.fld Reg.SPN_CNT 16 8 = min (s.fld Reg.SPN_CNT 16 8 + 1) 255 ∧ t.irq pgSPN 5) ∧
  (∀ (s : State), 3 ≤ (s.spn.trips.filter (fun q => decide (s.ticks / 32 < q + 16))).length →
    Runs (.spnOverCurrent) s fun t =>
      spnState t = 9 ∧ t.spn.offPeriod = some (s.ticks / 32) ∧ t.fld Reg.SPN_CNT 16 8 = min (s.fld Reg.SPN_CNT 16 8 + 1) 255 ∧ t.irq pgSPN 5 ∧ (spnState s ≠ 9 → t.fld Reg.SPN_FAULT 0 3 = 1 ∧ t.irq pgSPN 6 ∧ s.reports pgSPN 0x0F02 t)) ∧
  (∀ (s : State) (temp : Nat), spnState s ≠ 9 ∧ 135 < temp →
    Runs (.spnOverTemp temp) s fun t =>
      spnState t = 9 ∧ t.fld Reg.SPN_FAULT 0 3 = 2 ∧ t.irq pgSPN 6 ∧ s.reports pgSPN 0x0F03 t ∧ t.fld Reg.SPN_FAULT 8 8 = min 200 temp) ∧
  (∀ (s : State) (temp : Nat), spnState s = 9 ∨ temp ≤ 135 →
    Runs (.spnOverTemp temp) s fun t =>
      spnState t = spnState s ∧ t.fld Reg.SPN_FAULT 8 8 = min 200 temp ∧ t.fld Reg.SPN_FAULT 0 3 = s.fld Reg.SPN_FAULT 0 3) ∧
  (∀ (s : State), s.fld Reg.SPN_SPDCMD_CFG 0 2 = 3 →
    Runs (.spdcmdNosig) s fun t =>
      t.spn.spdIn = 0 ∧ t.bit Reg.SPN_SPDCMD_VAL 31 = true ∧ t.irq pgSPN 7) ∧
  (∀ (s : State), s.wf = true ∧ s.fld Reg.SPN_SPDCMD_CFG 0 2 ≠ 3 →
    Runs (.spdcmdNosig) s fun t =>
      t = s)

/-- STP (R249 to R262). -/
def Obligations.SteppersQueueStopParkAndLoad : Prop :=
  (∀ (s : State) (m : Master) (g : Nat) (v new : Word), g < 2 ∧ Takes s m (Reg.STP_Q_PUSH g) v new ∧ s.stp.groups.length = 2 ∧ fieldOf v 0 1 = 1 ∧ s.bit (Reg.STAT pgSTP) 8 = false ∧ pushCheck s g (moveOf s g) = 0 →
    Runs (.stpPush m g v) s fun t =>
      (t.grp g).queue = (s.grp g).queue ++ [moveOf s g] ∧ (t.grp g).run = (s.grp g).run ∧ t.fld (Reg.STP_Q_STAT g) 0 5 = (s.grp g).queue.length + 1) ∧
  (∀ (s : State) (m : Master) (g : Nat) (v new : Word), g < 2 ∧ Takes s m (Reg.STP_Q_PUSH g) v new ∧ fieldOf v 0 1 = 1 ∧ s.bit (Reg.STAT pgSTP) 8 = false ∧ pushCheck s g (moveOf s g) ≠ 0 →
    Runs (.stpPush m g v) s fun t =>
      t.stp = s.stp ∧ t.fld (Reg.STP_Q_STAT g) 24 4 = pushCheck s g (moveOf s g) ∧ t.irq pgSTP 5 ∧ s.reports pgSTP 0x1002 t) ∧
  (∀ (s : State) (m : Master) (g : Nat) (v new : Word), g < 2 ∧ Takes s m (Reg.STP_Q_PUSH g) v new ∧ (fieldOf v 0 1 = 0 ∨ s.bit (Reg.STAT pgSTP) 8 = true) →
    Runs (.stpPush m g v) s fun t =>
      t.stp = s.stp ∧ t.reg (Reg.STP_Q_STAT g) = s.reg (Reg.STP_Q_STAT g)) ∧
  (∀ (s : State) (g : Nat) (r : StepRun), g < 2 ∧ s.stp.groups.length = 2 ∧ (s.grp g).run = some r ∧ runEnded r = true ∧ r.stop = false ∧ (s.grp g).queue = [] →
    Runs (.stpMoveEnd g) s fun t =>
      t.grp g = ⟨[], none⟩ ∧ t.irq pgSTP 1 ∧ (r.move.irq = true → t.fld (Reg.STP_Q_STAT g) 16 8 = r.move.tag % 256 ∧ t.irq pgSTP 0)) ∧
  (∀ (s : State) (g : Nat) (r : StepRun) (x : StepMove) (q : List StepMove), g < 2 ∧ s.stp.groups.length = 2 ∧ (s.grp g).run = some r ∧ runEnded r = true ∧ r.stop = false ∧ (s.grp g).queue = x :: q →
    Runs (.stpMoveEnd g) s fun t =>
      (t.grp g).queue = q ∧ (t.grp g).run.map (fun y => (y.move, y.vin, y.ticks, y.stop)) = some (x, r.vout, 0, false) ∧ (r.move.irq = true → t.fld (Reg.STP_Q_STAT g) 16 8 = r.move.tag % 256 ∧ t.irq pgSTP 0)) ∧
  (∀ (s : State) (g : Nat), s.wf = true ∧ ((s.grp g).run.all (fun r => !runEnded r || r.stop)) = true →
    Runs (.stpMoveEnd g) s fun t =>
      t = s) ∧
  (∀ (s : State) (m : Master) (g : Nat) (v new : Word), g < 2 ∧ Takes s m Reg.STP_CMD v new ∧ fieldOf v g 1 = 1 →
    Runs (.stpStop m v) s fun t =>
      (t.grp g).queue = [] ∧ (t.grp g).run.all (·.stop) = true) ∧
  (∀ (s : State) (m : Master) (g : Nat) (v new : Word), g < 2 ∧ Takes s m Reg.STP_CMD v new ∧ fieldOf v g 1 = 0 ∧ fieldOf v 8 1 = 0 →
    Runs (.stpStop m v) s fun t =>
      t.grp g = s.grp g) ∧
  (∀ (s : State) (m : Master) (v new : Word), s.stp.groups.length = 2 ∧ s.stp.axes.length = 3 ∧ Takes s m Reg.STP_CMD v new ∧ fieldOf v 8 1 = 1 ∧ fieldOf v 0 2 = 0 ∧ s.bit (Reg.STAT pgSTP) 8 = false ∧ (List.range 3).any (fun a => s.bit Reg.STP_PARK a && s.reg (Reg.STP_AX_FLT a) == 0#32) = true →
    Runs (.stpPark m v) s fun t =>
      t.bit (Reg.STAT pgSTP) 8 = true ∧ ∀ a ∈ List.range 3, s.bit Reg.STP_PARK a = true → s.reg (Reg.STP_AX_FLT a) = 0#32 → (t.axis a).park = (if (s.axis a).vel = 0 then .go else .slow) ∧ (t.axis a).sel = .run ∧ (axMode s a = 1 → t.grp (axGrp s a) = ⟨[], none⟩)) ∧
  (∀ (s : State) (m : Master) (v new : Word), Takes s m Reg.STP_CMD v new ∧ fieldOf v 8 1 = 1 ∧ s.bit (Reg.STAT pgSTP) 8 = false ∧ (List.range 3).any (fun a => s.bit Reg.STP_PARK a && s.reg (Reg.STP_AX_FLT a) == 0#32) = false →
    Runs (.stpPark m v) s fun t =>
      t.bit (Reg.STAT pgSTP) 8 = false ∧ t.irq pgSTP 4) ∧
  (∀ (s : State) (m : Master) (v new : Word), Takes s m Reg.STP_CMD v new ∧ fieldOf v 0 2 = 0 ∧ (fieldOf v 8 1 = 0 ∨ s.bit (Reg.STAT pgSTP) 8 = true) →
    Runs (.stpPark m v) s fun t =>
      t.stp = s.stp ∧ t.bit (Reg.STAT pgSTP) 8 = s.bit (Reg.STAT pgSTP) 8) ∧
  (∀ (s : State), s.stp.axes.length = 3 ∧ s.bit (Reg.STAT pgSTP) 8 = true ∧ (List.range 3).all (fun a => !axParks s a || (s.axis a).park == .there) = true →
    Runs (.stpParkDone) s fun t =>
      t.bit (Reg.STAT pgSTP) 8 = false ∧ t.irq pgSTP 4 ∧ ∀ a ∈ List.range 3, axParks s a = true → axMode t a = 0 ∧ (t.axis a).park = .held ∧ (t.axis a).sel = .hold) ∧
  (∀ (s : State), s.wf = true ∧ (s.bit (Reg.STAT pgSTP) 8 = false ∨ (List.range 3).any (fun a => axParks s a && (s.axis a).park != .there) = true) →
    Runs (.stpParkDone) s fun t =>
      t = s) ∧
  (∀ (s : State) (a bits : Nat), a < 3 ∧ s.stp.axes.length = 3 ∧ s.stp.groups.length = 2 →
    Runs (.stpBridgeFault a bits) s fun t =>
      t.reg (Reg.STP_AX_FLT a) = s.reg (Reg.STP_AX_FLT a) ||| Word.ofNat (bits % 8) ∧ axMode t a = 0 ∧ (t.axis a).vel = 0 ∧ (t.axis a).sel = .off ∧ (t.axis a).park = .none ∧ (axMode s a = 1 → (t.grp (axGrp s a)).queue = [] ∧ (t.grp (axGrp s a)).run.all (·.stop) = true) ∧ t.irq pgSTP 3 ∧ s.reports pgSTP 0x1004 t) ∧
  (∀ (s : State) (m : Master) (v new : Word) (q : List Nat), Takes s m Reg.STP_TLOAD_CTRL v new ∧ fieldOf v 31 1 = 1 ∧ fieldOf new 31 1 = 0 ∧ (List.range 3).any (fun a => s.bit (Reg.STP_AX_CFG a) 6 && axMode s a != 0) = false ∧ (memRead s .cdma (s.reg Reg.STP_TLOAD_SRC).toNat 516).2.1 = false ∧ q = halfwords 257 (memRead s .cdma (s.reg Reg.STP_TLOAD_SRC).toNat 516).1 ∧ q.headD 1 = 0 ∧ nonDecreasing q = true ∧ q.all (fun x => decide (x ≤ 1023)) = true →
    Runs (.stpTableLoad m v) s fun t =>
      t.bit Reg.STP_TLOAD_CTRL 31 = true ∧ t.stp.loadBuf = q ∧ t.stp.table1 = s.stp.table1) ∧
  (∀ (s : State) (m : Master) (v new : Word) (q : List Nat), Takes s m Reg.STP_TLOAD_CTRL v new ∧ fieldOf v 31 1 = 1 ∧ fieldOf new 31 1 = 0 ∧ halfwords 257 (memRead s .cdma (s.reg Reg.STP_TLOAD_SRC).toNat 516).1 = q ∧ ((List.range 3).any (fun a => s.bit (Reg.STP_AX_CFG a) 6 && axMode s a != 0) = true ∨ (memRead s .cdma (s.reg Reg.STP_TLOAD_SRC).toNat 516).2.1 = true ∨ q.headD 1 ≠ 0 ∨ nonDecreasing q = false ∨ q.any (fun x => decide (1023 < x)) = true) →
    Runs (.stpTableLoad m v) s fun t =>
      t.bit Reg.STP_TLOAD_CTRL 31 = false ∧ t.stp = s.stp ∧ t.irq pgSTP 6 ∧ s.reports pgSTP 0x1005 t) ∧
  (∀ (s : State) (m : Master) (v new : Word), Takes s m Reg.STP_TLOAD_CTRL v new ∧ (fieldOf v 31 1 = 0 ∨ fieldOf new 31 1 = 1) →
    Runs (.stpTableLoad m v) s fun t =>
      t.stp = s.stp ∧ t.reg Reg.STP_TLOAD_CTRL = new) ∧
  (∀ (s : State), s.bit Reg.STP_TLOAD_CTRL 31 = true →
    Runs (.stpTableLoadDone) s fun t =>
      t.stp.table1 = s.stp.loadBuf ∧ t.bit Reg.STP_TLOAD_CTRL 31 = false) ∧
  (∀ (s : State), s.wf = true ∧ s.bit Reg.STP_TLOAD_CTRL 31 = false →
    Runs (.stpTableLoadDone) s fun t =>
      t = s) ∧
  (∀ (s : State) (a : Nat), a < 3 ∧ s.stp.axes.length = 3 ∧ (s.axis a).vel = 0 ∧ ((s.axis a).sel = .run ∨ (s.axis a).sel = .home) ∧ (s.axis a).rest + s.fld (Reg.STP_AX_HOLD a) 16 12 * 1600 ≤ s.ticks →
    Runs (.stpHoldCurrent a) s fun t =>
      t.axis a = { s.axis a with sel := .hold }) ∧
  (∀ (s : State) (a : Nat), s.wf = true ∧ ((s.axis a).vel ≠ 0 ∨ (s.axis a).sel = .off ∨ (s.axis a).sel = .hold ∨ s.ticks < (s.axis a).rest + s.fld (Reg.STP_AX_HOLD a) 16 12 * 1600) →
    Runs (.stpHoldCurrent a) s fun t =>
      t = s) ∧
  (∀ (s : State) (m : Master) (a : Nat) (v new : Word), a < 3 ∧ s.stp.axes.length = 3 ∧ Takes s m (Reg.STP_AX_POS a) v new →
    Runs (.stpAxPosWrite m a v) s fun t =>
      t.fld (Reg.STP_AX_POS a) 0 28 = fieldOf v 0 28 ∧ axP t a = signedOf 28 (fieldOf v 0 28) ∧ (axP t a + (t.axis a).phofs) % 1024 = (axP s a + (s.axis a).phofs) % 1024) ∧
  (∀ (s : State) (m : Master) (a : Nat) (v new : Word), a < 3 ∧ s.stp.axes.length = 3 ∧ Takes s m (Reg.STP_AX_CFG a) v new →
    Runs (.stpAxModeWrite m a v) s fun t =>
      axMode t a = fieldOf new 0 2 ∧ ((s.axis a).park = .held → (t.axis a).park = .none) ∧ (axMode s a ≠ fieldOf new 0 2 → (t.axis a).sel = if fieldOf new 0 2 = 0 then .off else .run))

/-- CAL's glides and targets (R287 to R300). -/
def Obligations.CalGlidesRegistersAndWords : Prop :=
  (∀ (s : State) (m : Master) (k : Nat) (v new : Word), k < 10 ∧ Takes s m (Reg.CAL_MG_CFG k) v new ∧ fieldOf v 0 1 = 1 ∧ mgArmOk s k v = true ∧ s.bit (Reg.CAL_MG_CFG k) 0 = false →
    Runs (.calMgArm m k v) s fun t =>
      t.reg (Reg.CAL_MG_CFG k) = new ∧ (fieldOf new 0 1 = 1 → t.reg (Reg.CAL_MG_STAT k) = 0#32)) ∧
  (∀ (s : State) (m : Master) (k : Nat) (v new : Word), k < 10 ∧ Takes s m (Reg.CAL_MG_CFG k) v new ∧ fieldOf v 0 1 = 1 ∧ mgArmOk s k v = false →
    Runs (.calMgArm m k v) s fun t =>
      t.reg (Reg.CAL_MG_CFG k) = s.reg (Reg.CAL_MG_CFG k) ∧ s.reports pgCAL 0x1201 t ∧ t.cal = s.cal) ∧
  (∀ (s : State) (m : Master) (k : Nat) (v new : Word), k < 10 ∧ k < s.cal.glides.length ∧ Takes s m (Reg.CAL_MG_CFG k) v new ∧ fieldOf v 0 1 = 0 ∧ fieldOf new 0 1 = 0 →
    Runs (.calMgArm m k v) s fun t =>
      t.reg (Reg.CAL_MG_CFG k) = new ∧ (if s.bit (Reg.CAL_MG_CFG k) 0 = true ∧ (mgOf s k).run = true then (mgOf t k).run = false ∧ t.reg (Reg.CAL_MG_STAT k) = 48#32 ∧ t.irq pgCAL 1 ∧ s.reports pgCAL 0x1203 t else t.cal = s.cal)) ∧
  (∀ (s : State) (m : Master) (k : Nat) (v new : Word), k < 10 ∧ k < s.cal.glides.length ∧ s.bit (Reg.CAL_MG_CFG k) 0 = true ∧ Takes s m (Reg.CAL_MG_TGT k) v new →
    Runs (.calMgTgtWrite m k v) s fun t =>
      (mgOf t k).run = true ∧ t.reg (Reg.CAL_MG_TGT k) = new ∧ t.reg (Reg.CAL_MG_STAT k) = 1#32) ∧
  (∀ (s : State) (m : Master) (k : Nat) (v new : Word), k < 10 ∧ s.bit (Reg.CAL_MG_CFG k) 0 = false ∧ Takes s m (Reg.CAL_MG_TGT k) v new →
    Runs (.calMgTgtWrite m k v) s fun t =>
      t.cal = s.cal ∧ t.reg (Reg.CAL_MG_TGT k) = new ∧ t.reg (Reg.CAL_MG_STAT k) = s.reg (Reg.CAL_MG_STAT k)) ∧
  (∀ (s : State) (m : Master) (a : Nat) (v new : Word) (g : Glided), glidedOfTarget a = some g ∧ Takes s m a v new →
    Runs (.glideTargetWrite m a v false) s fun t =>
      t.reg a = new ∧ (if glideAtOnce s g then t.fld g.act 0 12 = fieldOf new 0 12 ∧ glideFrac t g.act = 0 else t.reg g.act = s.reg g.act ∧ t.cal = s.cal)) ∧
  (∀ (s : State) (m : Master) (a : Nat) (v new : Word) (g : Glided), glidedOfTarget a = some g ∧ Takes s m a v new →
    Runs (.glideTargetWrite m a v true) s fun t =>
      t.reg a = s.reg a ∧ t.cal = s.cal ∧ t.fld Reg.CAL_CNT 0 16 = min (s.fld Reg.CAL_CNT 0 16 + 1) 65535) ∧
  (∀ (s : State) (m : Master) (a : Nat) (v : Word) (lost : Bool), s.wf = true ∧ glidedOfTarget a = none →
    Runs (.glideTargetWrite m a v lost) s fun t =>
      t = s) ∧
  (∀ (s : State) (ofs : List Int), s.frozen pgCAL = false ∧ spnState s = 0 ∧ s.spn.since + 48768 ≤ s.ticks →
    Runs (.shuntOffsetDone ofs) s fun t =>
      (∀ k ∈ List.range 3, t.fld (Reg.SPN_SH_OFS k + 4) 0 12 = bitsOf 12 (max (-2048) (min 2047 (shuntOffset s k (ofs.getD k 0))))) ∧ t.bit Reg.CAL_RUN 4 = false ∧ t.irq pgCAL 4) ∧
  (∀ (s : State) (ofs : List Int), s.wf = true ∧ (s.frozen pgCAL = true ∨ spnState s ≠ 0 ∨ s.ticks < s.spn.since + 48768) →
    Runs (.shuntOffsetDone ofs) s fun t =>
      t = s) ∧
  (∀ (s : State) (leg : Nat) (code : Int), s.frozen pgCAL = false ∧ spnDriven (spnState s) = true ∧ s.bit Reg.CAL_CFG 2 = true ∧ leg < 3 ∧ (s.cal.inj.getD leg (0, 0)).1 < 63 →
    Runs (.shuntGainInjection leg code) s fun t =>
      t.cal = { s.cal with inj := s.cal.inj.set leg ((s.cal.inj.getD leg (0, 0)).1 + 1, (s.cal.inj.getD leg (0, 0)).2 + sat12 code) } ∧ t.reg (Reg.SPN_SH_GAIN leg + 4) = s.reg (Reg.SPN_SH_GAIN leg + 4)) ∧
  (∀ (s : State) (leg : Nat) (code n : Int), s.frozen pgCAL = false ∧ spnDriven (spnState s) = true ∧ s.bit Reg.CAL_CFG 2 = true ∧ leg < 3 ∧ s.cal.inj.getD leg (0, 0) = (63, n) ∧ refFault s = false →
    Runs (.shuntGainInjection leg code) s fun t =>
      t.cal.inj = s.cal.inj.set leg (0, 0) ∧ t.fld (Reg.SPN_SH_GAIN leg + 4) 0 12 = bitsOf 12 (max (-2048) (min 2047 (shuntGainTarget (n + sat12 code))))) ∧
  (∀ (s : State) (leg : Nat) (code n : Int), s.frozen pgCAL = false ∧ spnDriven (spnState s) = true ∧ s.bit Reg.CAL_CFG 2 = true ∧ leg < 3 ∧ s.cal.inj.getD leg (0, 0) = (63, n) ∧ refFault s = true →
    Runs (.shuntGainInjection leg code) s fun t =>
      t.cal.inj = s.cal.inj.set leg (0, 0) ∧ t.reg (Reg.SPN_SH_GAIN leg + 4) = s.reg (Reg.SPN_SH_GAIN leg + 4)) ∧
  (∀ (s : State) (leg : Nat) (code : Int), s.wf = true ∧ (s.frozen pgCAL = true ∨ spnDriven (spnState s) = false ∨ s.bit Reg.CAL_CFG 2 = false ∨ 3 ≤ leg) →
    Runs (.shuntGainInjection leg code) s fun t =>
      t = s) ∧
  (∀ (s : State) (b : Nat) (ofs : Int), s.frozen pgCAL = false ∧ b < 4 ∧ s.sv.meas.contains b = true →
    Runs (.bridgeOffsetDone b ofs) s fun t =>
      t.fld (Reg.ACT_BR_OFS b) 0 12 = bitsOf 12 (max (-2048) (min 2047 (ofs))) ∧ t.fld (Reg.ACT_BR_OFS b + 4) 0 12 = bitsOf 12 (max (-2048) (min 2047 (ofs))) ∧ t.sv.meas = s.sv.meas.filter (· != b) ∧ (t.sv.meas = [] → t.bit Reg.CAL_RUN 5 = false ∧ t.irq pgCAL 4)) ∧
  (∀ (s : State) (b : Nat) (ofs : Int), s.wf = true ∧ (s.frozen pgCAL = true ∨ s.sv.meas.contains b = false) →
    Runs (.bridgeOffsetDone b ofs) s fun t =>
      t = s) ∧
  (∀ (s : State) (diff : Int) (swept : Nat) (slope : Int), s.frozen pgCAL = false ∧ s.bit Reg.CAL_CFG 1 = true ∧ refFault s = false ∧ s.cal.refCh < 32 →
    Runs (.sadcRefconvWindowEnd diff swept slope) s fun t =>
      t.fld (Reg.SADC_CH_OFS s.cal.refCh + 4) 0 12 = bitsOf 12 (max (-2048) (min 2047 (s.sfld (Reg.SADC_CH_OFS s.cal.refCh) 0 12 + roundQuot (8 * diff) 65536))) ∧ t.fld (Reg.SADC_CH_GAIN s.cal.refCh + 4) 0 12 = (if 512 ≤ swept then bitsOf 12 (max (-2048) (min 2047 (roundQuot ((8192 + s.sfld (Reg.SADC_CH_GAIN s.cal.refCh) 0 12) * slope) 65536 - 8192))) else s.fld (Reg.SADC_CH_GAIN s.cal.refCh + 4) 0 12) ∧ t.cal.refCh = (s.cal.refCh + 1) % 32) ∧
  (∀ (s : State) (diff : Int) (swept : Nat) (slope : Int), s.frozen pgCAL = false ∧ s.bit Reg.CAL_CFG 1 = true ∧ refFault s = true →
    Runs (.sadcRefconvWindowEnd diff swept slope) s fun t =>
      t.cal = { s.cal with refCh := (s.cal.refCh + 1) % 32 } ∧ ∀ k ∈ List.range 32, t.reg (Reg.SADC_CH_OFS k + 4) = s.reg (Reg.SADC_CH_OFS k + 4) ∧ t.reg (Reg.SADC_CH_GAIN k + 4) = s.reg (Reg.SADC_CH_GAIN k + 4)) ∧
  (∀ (s : State) (diff : Int) (swept : Nat) (slope : Int), s.wf = true ∧ (s.frozen pgCAL = true ∨ s.bit Reg.CAL_CFG 1 = false) →
    Runs (.sadcRefconvWindowEnd diff swept slope) s fun t =>
      t = s) ∧
  (∀ (s : State) (trims : List (Int × Int)), s.frozen pgCAL = false ∧ s.bit Reg.SADC_CFG 0 = false ∧ refFault s = false →
    Runs (.sadcBootTrimDone trims) s fun t =>
      ∀ k ∈ List.range 32, if k < trims.length then t.fld (Reg.SADC_CH_OFS k) 0 12 = bitsOf 12 (max (-2048) (min 2047 ((bootTrimOf (trims.getD k (0, 0))).1))) ∧ t.fld (Reg.SADC_CH_GAIN k) 0 12 = bitsOf 12 (max (-2048) (min 2047 ((bootTrimOf (trims.getD k (0, 0))).2))) else t.reg (Reg.SADC_CH_OFS k) = s.reg (Reg.SADC_CH_OFS k) ∧ t.reg (Reg.SADC_CH_GAIN k) = s.reg (Reg.SADC_CH_GAIN k)) ∧
  (∀ (s : State) (trims : List (Int × Int)), s.wf = true ∧ (s.frozen pgCAL = true ∨ s.bit Reg.SADC_CFG 0 = true ∨ refFault s = true) →
    Runs (.sadcBootTrimDone trims) s fun t =>
      t = s)

/-- CAL_RUN (R296, R301, R310), CALREF (R294), sweeps (R302 to R304). -/
def Obligations.CalRunsReferenceAndSweeps : Prop :=
  (∀ (s : State) (m : Master) (l : Nat) (v new : Word), l < 4 ∧ lanePresent s l = true ∧ Takes s m Reg.CAL_TRIG v new ∧ fieldOf v l 1 = 1 →
    Runs (.calTrigAdcstat m v) s fun t =>
      t.bit Reg.CAL_RUN l = true ∧ t.bit Reg.CAL_RUN (8 + l) = false) ∧
  (∀ (s : State) (m : Master) (l : Nat) (v new : Word), l < 4 ∧ Takes s m Reg.CAL_TRIG v new ∧ (fieldOf v l 1 = 0 ∨ lanePresent s l = false) →
    Runs (.calTrigAdcstat m v) s fun t =>
      t.bit Reg.CAL_RUN l = s.bit Reg.CAL_RUN l ∧ t.bit Reg.CAL_RUN (8 + l) = s.bit Reg.CAL_RUN (8 + l)) ∧
  (∀ (s : State) (m : Master) (v new : Word), Takes s m Reg.CAL_TRIG v new ∧ fieldOf v 4 1 = 1 →
    Runs (.calTrigShofs m v) s fun t =>
      t.bit Reg.CAL_RUN 4 = true) ∧
  (∀ (s : State) (m : Master) (v new : Word), Takes s m Reg.CAL_TRIG v new ∧ fieldOf v 4 1 = 0 →
    Runs (.calTrigShofs m v) s fun t =>
      t.bit Reg.CAL_RUN 4 = s.bit Reg.CAL_RUN 4) ∧
  (∀ (s : State) (m : Master) (v new : Word), Takes s m Reg.CAL_TRIG v new ∧ fieldOf v 5 1 = 1 →
    Runs (.calTrigBrofs m v) s fun t =>
      t.sv.meas = (List.range 4).filter (fun b => s.bit Reg.ACT_CFG b) ∧ t.bit Reg.CAL_RUN 5 = !t.sv.meas.isEmpty ∧ ∀ b ∈ t.sv.meas, bridgeOut t b = 0) ∧
  (∀ (s : State) (m : Master) (v new : Word), Takes s m Reg.CAL_TRIG v new ∧ fieldOf v 5 1 = 0 →
    Runs (.calTrigBrofs m v) s fun t =>
      t.sv = s.sv ∧ t.bit Reg.CAL_RUN 5 = s.bit Reg.CAL_RUN 5) ∧
  (∀ (s : State) (m : Master) (v new : Word), Takes s m Reg.CAL_TRIG v new ∧ fieldOf v 6 1 = 1 →
    Runs (.calTrigLink m v) s fun t =>
      t.bit Reg.CAL_RUN 6 = true) ∧
  (∀ (s : State) (m : Master) (v new : Word), Takes s m Reg.CAL_TRIG v new ∧ fieldOf v 6 1 = 0 →
    Runs (.calTrigLink m v) s fun t =>
      t.bit Reg.CAL_RUN 6 = s.bit Reg.CAL_RUN 6) ∧
  (∀ (s : State) (l : Nat) (meas : List (Int × Int × Int)), s.frozen pgCAL = false ∧ l < 4 ∧ runPending s l = true →
    Runs (.calAdcstatDone l meas) s fun t =>
      runPending t l = false ∧ t.irq pgCAL 4) ∧
  (∀ (s : State) (l : Nat) (meas : List (Int × Int × Int)) (i k : Nat), s.frozen pgCAL = false ∧ l < 4 ∧ runPending s l = true ∧ lanePresent s l = true ∧ i < min 8 meas.length ∧ slotConverter s l i = some k ∧ k < 9 ∧ (List.range (min 8 meas.length)).all (fun j => !beyondField (statTargets s l meas j).1 && !beyondField (statTargets s l meas j).2.1 && !beyondField (statTargets s l meas j).2.2) = true →
    Runs (.calAdcstatDone l meas) s fun t =>
      t.fld (Reg.RFL_SUB_OFS l k + 4) 0 12 = bitsOf 12 (statTargets s l meas i).1 ∧ t.fld (Reg.RFL_SUB_GAIN l k + 4) 0 12 = bitsOf 12 (statTargets s l meas i).2.1 ∧ t.fld (Reg.RFL_SUB_SKEW l k + 4) 0 12 = bitsOf 12 (statTargets s l meas i).2.2) ∧
  (∀ (s : State) (l : Nat) (meas : List (Int × Int × Int)) (i k : Nat), s.frozen pgCAL = false ∧ l < 4 ∧ runPending s l = true ∧ i < min 8 meas.length ∧ slotConverter s l i = some k ∧ k < 9 ∧ beyondField (statTargets s l meas i).2.2 = true ∧ (List.range i).all (fun j => !beyondField (statTargets s l meas j).1 && !beyondField (statTargets s l meas j).2.1 && !beyondField (statTargets s l meas j).2.2) = true →
    Runs (.calAdcstatDone l meas) s fun t =>
      t.irq (pgRFL l) 3 ∧ s.reports (pgRFL l) 0x0002 t) ∧
  (∀ (s : State) (l : Nat) (meas : List (Int × Int × Int)) (i k : Nat), s.frozen pgCAL = false ∧ l < 4 ∧ runPending s l = true ∧ l < s.rd.lanes.length ∧ s.bit (Reg.RFL_ADC_CTRL l) 0 = false ∧ worstSlot ((List.range meas.length).map (fun j => statTargets s l meas j)) = some i ∧ slotConverter s l i = some k →
    Runs (.calAdcstatDone l meas) s fun t =>
      (t.lane l).sparePick = some k) ∧
  (∀ (s : State) (l : Nat) (meas : List (Int × Int × Int)), s.wf = true ∧ (s.frozen pgCAL = true ∨ 4 ≤ l ∨ runPending s l = false) →
    Runs (.calAdcstatDone l meas) s fun t =>
      t = s) ∧
  (∀ (s : State) (l : Nat), s.frozen pgCAL = false ∧ l < 4 ∧ runPending s l = true →
    Runs (.calAdcstatTimeout l) s fun t =>
      runPending t l = false ∧ t.bit Reg.CAL_RUN (8 + l) = true ∧ t.irq pgCAL 4) ∧
  (∀ (s : State) (l : Nat), s.wf = true ∧ (s.frozen pgCAL = true ∨ 4 ≤ l ∨ runPending s l = false) →
    Runs (.calAdcstatTimeout l) s fun t =>
      t = s) ∧
  (∀ (s : State) (trims : List Int), s.frozen pgCAL = false ∧ runPending s 6 = true ∧ lwi s = true ∧ s.wenc.arms = [] →
    Runs (.calLinkDone trims) s fun t =>
      runPending t 6 = false ∧ t.irq pgCAL 4 ∧ ∀ k ∈ List.range 4, t.fld Reg.CAL_LINK (8 * k) 7 = bitsOf 7 (clampInt (-63) 63 (trims.getD k 0))) ∧
  (∀ (s : State) (trims : List Int), s.wf = true ∧ (s.frozen pgCAL = true ∨ runPending s 6 = false ∨ lwi s = false ∨ s.wenc.arms ≠ []) →
    Runs (.calLinkDone trims) s fun t =>
      t = s) ∧
  (∀ (s : State) (mv : Nat), s.frozen pgCAL = false ∧ s.bit Reg.CAL_CFG 16 = true ∧ (mv < 12250 ∨ 12750 < mv) →
    Runs (.calrefCheck mv) s fun t =>
      refFault t = true ∧ t.fld Reg.CAL_REF 0 16 = min mv 65535 ∧ t.cal.refGood = 0 ∧ t.irq pgCAL 3 ∧ s.reports pgCAL 0x1202 t ∧ (refFault s = false → ∀ l ∈ List.range 4, s.bit Reg.DSK_LANEACT l = true → runPending t l = true)) ∧
  (∀ (s : State) (mv : Nat), s.frozen pgCAL = false ∧ s.bit Reg.CAL_CFG 16 = true ∧ 12250 ≤ mv ∧ mv ≤ 12750 →
    Runs (.calrefCheck mv) s fun t =>
      t.fld Reg.CAL_REF 0 16 = mv ∧ refFault t = (refFault s && decide (s.cal.refGood < 9)) ∧ (refFault t = true → t.cal.refGood = s.cal.refGood + 1)) ∧
  (∀ (s : State) (mv : Nat), s.wf = true ∧ (s.frozen pgCAL = true ∨ s.bit Reg.CAL_CFG 16 = false) →
    Runs (.calrefCheck mv) s fun t =>
      t = s) ∧
  (∀ (s : State), s.frozen pgCAL = false →
    Runs (.calTempChange) s fun t =>
      t.irq pgCAL 5 ∧ (s.bit Reg.CAL_CFG 3 = true → runPending t 6 = true) ∧ (refFault s = true → ∀ l ∈ List.range 4, s.bit Reg.DSK_LANEACT l = true → runPending t l = true)) ∧
  (∀ (s : State), s.wf = true ∧ s.frozen pgCAL = true →
    Runs (.calTempChange) s fun t =>
      t = s) ∧
  (∀ (s : State) (m : Master) (v new : Word), Takes s m Reg.CAL_SWP_CTRL v new ∧ fieldOf v 0 1 = 1 ∧ fieldOf v 31 1 = 0 ∧ swpGoOk s = true →
    Runs (.calSwpGo m v) s fun t =>
      swpRuns t = true ∧ t.cal.phase = .moving ∧ t.cal.point = 0 ∧ t.cal.before = swpValue s ∧ t.reg Reg.CAL_SWP_RES = 0#32 ∧ (swpKind s ≠ 0 → swpValue t = swpStart s) ∧ ∀ k ∈ List.range 16, t.reg (Reg.CAL_SWP_MET k) = 0#32) ∧
  (∀ (s : State) (m : Master) (v new : Word), Takes s m Reg.CAL_SWP_CTRL v new ∧ fieldOf v 0 1 = 1 ∧ swpGoOk s = false →
    Runs (.calSwpGo m v) s fun t =>
      t.cal = s.cal ∧ t.reg Reg.CAL_SWP_CTRL = s.reg Reg.CAL_SWP_CTRL ∧ s.reports pgCAL 0x1201 t) ∧
  (∀ (s : State) (m : Master) (v new : Word), Takes s m Reg.CAL_SWP_CTRL v new ∧ fieldOf v 0 1 = 0 ∧ fieldOf v 31 1 = 0 →
    Runs (.calSwpGo m v) s fun t =>
      t.cal = s.cal ∧ t.reg Reg.CAL_SWP_CTRL = new) ∧
  (∀ (s : State), s.frozen pgCAL = false ∧ swpRuns s = true ∧ swpCauseHolds s 4 = false ∧ swpMoved s = true ∧ s.cal.phase = .moving →
    Runs (.calSwpMoveDone) s fun t =>
      t.cal = { s.cal with phase := .edge } ∧ swpRuns t = true) ∧
  (∀ (s : State), s.frozen pgCAL = false ∧ swpRuns s = true ∧ swpCauseHolds s 4 = false ∧ swpMoved s = true ∧ s.cal.phase = .returning →
    Runs (.calSwpMoveDone) s fun t =>
      t.cal = { s.cal with phase := .idle } ∧ swpRuns t = false ∧ t.irq pgCAL 2) ∧
  (∀ (s : State), s.frozen pgCAL = false ∧ swpRuns s = true ∧ swpCauseHolds s 4 = true →
    Runs (.calSwpMoveDone) s fun t =>
      t.cal.phase = .returning ∧ t.fld Reg.CAL_SWP_RES 20 3 = 4 ∧ s.reports pgCAL 0x1204 t) ∧
  (∀ (s : State), s.wf = true ∧ (s.frozen pgCAL = true ∨ swpRuns s = false ∨ swpCauseHolds s 4 = false ∧ (swpMoved s = false ∨ (s.cal.phase ≠ .moving ∧ s.cal.phase ≠ .returning))) →
    Runs (.calSwpMoveDone) s fun t =>
      t = s) ∧
  (∀ (s : State), s.frozen pgCAL = false ∧ swpRuns s = true ∧ ([1, 2, 3].all (fun c => !swpCauseHolds s c)) = true ∧ s.cal.phase = .edge →
    Runs (.calSwpPeriodEnd) s fun t =>
      t.cal = (if s.fld Reg.CAL_SWP_CFG 16 4 = 0 then { s.cal with phase := .dwell, left := s.fld Reg.CAL_SWP_CFG 20 4, sum := 0 } else { s.cal with phase := .settle, left := s.fld Reg.CAL_SWP_CFG 16 4, sum := 0 })) ∧
  (∀ (s : State), s.frozen pgCAL = false ∧ swpRuns s = true ∧ ([1, 2, 3].all (fun c => !swpCauseHolds s c)) = true ∧ s.cal.phase = .settle →
    Runs (.calSwpPeriodEnd) s fun t =>
      t.cal = (if 1 < s.cal.left then { s.cal with left := s.cal.left - 1 } else { s.cal with phase := .dwell, left := s.fld Reg.CAL_SWP_CFG 20 4, sum := 0 })) ∧
  (∀ (s : State), s.frozen pgCAL = false ∧ swpRuns s = true ∧ ([1, 2, 3].all (fun c => !swpCauseHolds s c)) = true ∧ s.cal.phase = .dwell ∧ 1 < s.cal.left ∧ s.cal.point < 16 →
    Runs (.calSwpPeriodEnd) s fun t =>
      (t.reg (Reg.CAL_SWP_MET s.cal.point)).toNat = min 4294967295 (s.cal.sum + (s.mort 0x23).toNat / 16) ∧ t.cal = { s.cal with left := s.cal.left - 1, sum := min 4294967295 (s.cal.sum + (s.mort 0x23).toNat / 16) }) ∧
  (∀ (s : State), s.frozen pgCAL = false ∧ swpRuns s = true ∧ ([1, 2, 3].all (fun c => !swpCauseHolds s c)) = true ∧ s.cal.phase = .dwell ∧ s.cal.left ≤ 1 ∧ s.cal.point + 1 < swpN s ∧ swpN s ≤ 16 →
    Runs (.calSwpPeriodEnd) s fun t =>
      (t.reg (Reg.CAL_SWP_MET s.cal.point)).toNat = min 4294967295 (s.cal.sum + (s.mort 0x23).toNat / 16) ∧ t.cal.phase = .moving ∧ t.cal.point = s.cal.point + 1 ∧ (swpKind s ≠ 0 → t.fld (Reg.STP_AX_TBASE 1) 0 28 = bitsOf 28 (swpStart s + ((s.cal.point + 1 : Nat) : Int) * swpStep s))) ∧
  (∀ (s : State), s.frozen pgCAL = false ∧ swpRuns s = true ∧ ([1, 2, 3].all (fun c => !swpCauseHolds s c)) = true ∧ s.cal.phase = .dwell ∧ s.cal.left ≤ 1 ∧ swpN s ≤ s.cal.point + 1 ∧ s.cal.point < 16 →
    Runs (.calSwpPeriodEnd) s fun t =>
      (t.reg (Reg.CAL_SWP_MET s.cal.point)).toNat = min 4294967295 (s.cal.sum + (s.mort 0x23).toNat / 16) ∧ t.cal.phase = .returning ∧ t.fld Reg.CAL_SWP_RES 0 4 = swpMin t ∧ t.bit Reg.CAL_SWP_RES 16 = !t.bit Reg.CAL_SWP_RES 17 ∧ t.bit Reg.CAL_SWP_RES 16 = decide (0 < swpMin t ∧ swpMin t + 1 < swpN s)) ∧
  (∀ (s : State) (c : Nat), s.frozen pgCAL = false ∧ swpRuns s = true ∧ [1, 2, 3].find? (swpCauseHolds s) = some c →
    Runs (.calSwpPeriodEnd) s fun t =>
      t.cal.phase = .returning ∧ t.fld Reg.CAL_SWP_RES 20 3 = c ∧ s.reports pgCAL 0x1204 t) ∧
  (∀ (s : State), s.wf = true ∧ (s.frozen pgCAL = true ∨ swpRuns s = false ∨ s.cal.phase = .idle ∨ s.cal.phase = .moving ∨ s.cal.phase = .returning) →
    Runs (.calSwpPeriodEnd) s fun t =>
      t = s) ∧
  (∀ (s : State) (m : Master) (v : Word) (cause : Nat), s.frozen pgCAL = false ∧ swpRuns s = true ∧ swpCauseHolds s cause = true ∧ cause ≠ 5 →
    Runs (.calSwpAbort m v cause) s fun t =>
      t.fld Reg.CAL_SWP_RES 20 3 = cause ∧ t.cal.phase = .returning ∧ swpRuns t = true ∧ s.reports pgCAL 0x1204 t) ∧
  (∀ (s : State) (m : Master) (v : Word) (cause : Nat), s.wf = true ∧ cause ≠ 5 ∧ (s.frozen pgCAL = true ∨ swpRuns s = false ∨ swpCauseHolds s cause = false) →
    Runs (.calSwpAbort m v cause) s fun t =>
      t = s) ∧
  (∀ (s : State) (m : Master) (v new : Word), Takes s m Reg.CAL_SWP_CTRL v new ∧ fieldOf v 31 1 = 1 ∧ fieldOf v 0 1 = 0 ∧ fieldOf new 0 1 = 1 ∧ s.cal.phase ≠ .returning →
    Runs (.calSwpAbort m v 5) s fun t =>
      t.fld Reg.CAL_SWP_RES 20 3 = 5 ∧ t.cal.phase = .returning ∧ s.reports pgCAL 0x1204 t ∧ (swpKind s ≠ 0 → t.fld (Reg.STP_AX_TBASE 1) 0 28 = bitsOf 28 s.cal.before)) ∧
  (∀ (s : State) (m : Master) (v new : Word), Takes s m Reg.CAL_SWP_CTRL v new ∧ fieldOf v 0 1 = 0 ∧ (fieldOf v 31 1 = 0 ∨ fieldOf new 0 1 = 0 ∨ s.cal.phase = .returning) →
    Runs (.calSwpAbort m v 5) s fun t =>
      t.cal = s.cal ∧ t.reg Reg.CAL_SWP_CTRL = new ∧ t.reg Reg.CAL_SWP_RES = s.reg Reg.CAL_SWP_RES)

/-- The endpoint (R311 to R331). PCIE_LINK: [2:0] rate, [5:4] width, [18:16] power state, 24 PERST#. -/
def Obligations.LinkResetsAndBusMastering : Prop :=
  (∀ (s : State) (speed width : Nat), s.quiet ∧ s.bit Reg.PCIE_LINK 24 = false →
    Runs (.pcieLinkUp speed width) s fun t =>
      t.fld Reg.PCIE_LINK 0 3 = speed % 8 ∧ t.fld Reg.PCIE_LINK 4 2 = width % 4 ∧ t.fld Reg.PCIE_LINK 16 3 = 0 ∧ t.bit (Reg.STAT pgPCIE) 8 = true ∧ t.irq pgPCIE 0 ∧ t.pcie.policy = none ∧ t.fld Reg.HQ_PS 0 3 = (s.pcie.policy.map (· % 8)).getD (s.fld Reg.HQ_PS 0 3)) ∧
  (∀ (s : State) (speed width : Nat), s.wf = true ∧ s.bit Reg.PCIE_LINK 24 = true →
    Runs (.pcieLinkUp speed width) s fun t =>
      t = s) ∧
  (∀ (s : State), s.quiet →
    Runs (.perstAssert) s fun t =>
      t.bit Reg.PCIE_LINK 24 = true ∧ t.fld Reg.PCIE_LINK 0 3 = 0 ∧ t.fld Reg.PCIE_LINK 16 3 = 5 ∧ t.pcie.reads = [] ∧ t.hq.sqs = [] ∧ busMaster t = false ∧ t.bit Reg.HQ_CTRL 0 = false ∧ t.fld Reg.PCIE_FLR 0 2 = 0 ∧ unlkState t = 0) ∧
  (∀ (s : State), s.boot.warm = false ∧ (s.boot.phase ≠ .running ∨ newerSlot s = false) →
    Runs (.perstDeassert) s fun t =>
      t.bit Reg.PCIE_LINK 24 = false ∧ t.hq = s.hq ∧ t.boot = s.boot) ∧
  (∀ (s : State), s.quiet ∧ s.fld Reg.PCIE_LINK 0 3 ≠ 0 ∧ s.bit Reg.PCIE_LINK 24 = false →
    Runs (.surpriseRemoval) s fun t =>
      t.fld Reg.PCIE_LINK 0 3 = 0 ∧ tagsOut t = [] ∧ (tagsOut s).all (fun k => t.pcie.quar.contains (k, false)) = true ∧ busMaster t = false ∧ unlkState t = 0 ∧ t.irq pgPCIE 2 ∧ s.reports pgPCIE 0x1305 t) ∧
  (∀ (s : State), s.wf = true ∧ (s.fld Reg.PCIE_LINK 0 3 = 0 ∨ s.bit Reg.PCIE_LINK 24 = true) →
    Runs (.surpriseRemoval) s fun t =>
      t = s) ∧
  (∀ (s : State), s.fld Reg.PCIE_LINK 0 3 = 0 ∧ s.fld Reg.PCIE_SURP 0 2 ≠ 0 ∧ s.pcie.policy = none →
    Runs (.surprisePolicyTimeout) s fun t =>
      t.pcie.policy = some (s.fld Reg.HQ_PS 0 3) ∧ t.fld Reg.HQ_PS 0 3 = max (s.fld Reg.HQ_PS 0 3) (if s.fld Reg.PCIE_SURP 0 2 = 1 then 2 else 4)) ∧
  (∀ (s : State), s.wf = true ∧ (s.fld Reg.PCIE_LINK 0 3 ≠ 0 ∨ s.fld Reg.PCIE_SURP 0 2 = 0 ∨ s.pcie.policy ≠ none) →
    Runs (.surprisePolicyTimeout) s fun t =>
      t = s) ∧
  (∀ (s : State) (off : Nat) (bytes : List Nat), s.quiet ∧ cfgRetry s = false ∧ off < 4096 ∧ cfgReadOnly (off / 4 * 4) (off % 4) bytes.length = false →
    Runs (.pcieConfigWrite off bytes) s fun t =>
      t.reg (cfgReg (off / 4 * 4)) = cfgNew s (off / 4 * 4) (off % 4) (bytes.take (4 - off % 4))) ∧
  (∀ (s : State) (off : Nat) (bytes : List Nat), cfgRetry s = false ∧ off < 4096 ∧ cfgReadOnly (off / 4 * 4) (off % 4) bytes.length = true →
    Runs (.pcieConfigWrite off bytes) s fun t =>
      t.reg (cfgReg (off / 4 * 4)) = s.reg (cfgReg (off / 4 * 4)) ∧ (secondPassed s.roRecs (cfgReg (off / 4 * 4)) s.ticks = false → t.evr = s.evr) ∧ (secondPassed s.roRecs (cfgReg (off / 4 * 4)) s.ticks = true → t.roRecs = setTick s.roRecs (cfgReg (off / 4 * 4)) s.ticks)) ∧
  (∀ (s : State) (off : Nat) (bytes : List Nat), s.wf = true ∧ (cfgRetry s = true ∨ 4096 ≤ off) →
    Runs (.pcieConfigWrite off bytes) s fun t =>
      t = s) ∧
  (∀ (s : State) (v : Word), cfgRetry s = false ∧ busMaster s = true ∧ fieldOf (cfgNew s 0x04 0 (bytesLE 2 v.toNat)) 2 1 = 0 →
    Runs (.pcieBmeClear v) s fun t =>
      busMaster t = false ∧ mayIssue t = false ∧ t.reg (cfgReg 0x04) = (cfgNew s 0x04 0 (bytesLE 2 v.toNat)) ∧ t.bit Reg.DMA_STAT 16 = true ∧ t.bit (Reg.STAT pgPCIE) 9 = false ∧ t.irq pgPCIE 4 ∧ t.irq pgDMA 0) ∧
  (∀ (s : State) (v : Word), cfgRetry s = false ∧ (busMaster s = false ∨ fieldOf (cfgNew s 0x04 0 (bytesLE 2 v.toNat)) 2 1 = 1) ∧ (busMaster s = true ∨ fieldOf (cfgNew s 0x04 0 (bytesLE 2 v.toNat)) 2 1 = 0) →
    Runs (.pcieBmeClear v) s fun t =>
      busMaster t = busMaster s ∧ t.reg (cfgReg 0x04) = (cfgNew s 0x04 0 (bytesLE 2 v.toNat)) ∧ t.pcie = s.pcie ∧ t.hq = s.hq) ∧
  (∀ (s : State) (v : Word), s.wf = true ∧ cfgRetry s = true →
    Runs (.pcieBmeClear v) s fun t =>
      t = s) ∧
  (∀ (s : State) (v : Word), s.quiet ∧ cfgRetry s = false ∧ s.fld Reg.PCIE_LINK 0 3 ≠ 0 ∧ busMaster s = false ∧ inD3 s = false ∧ s.boot.warm = false ∧ fieldOf (cfgNew s 0x04 0 (bytesLE 2 v.toNat)) 2 1 = 1 →
    Runs (.pcieBmeSet v) s fun t =>
      busMaster t = true ∧ mayIssue t = true ∧ t.bit Reg.DMA_STAT 16 = false ∧ t.bit (Reg.STAT pgPCIE) 9 = true ∧ t.irq pgPCIE 5 ∧ t.pcie.held = []) ∧
  (∀ (s : State) (v : Word), cfgRetry s = false ∧ (busMaster s = false ∨ fieldOf (cfgNew s 0x04 0 (bytesLE 2 v.toNat)) 2 1 = 1) ∧ (busMaster s = true ∨ fieldOf (cfgNew s 0x04 0 (bytesLE 2 v.toNat)) 2 1 = 0) →
    Runs (.pcieBmeSet v) s fun t =>
      busMaster t = busMaster s ∧ t.reg (cfgReg 0x04) = (cfgNew s 0x04 0 (bytesLE 2 v.toNat)) ∧ t.pcie = s.pcie ∧ t.hq = s.hq) ∧
  (∀ (s : State) (v : Word), s.wf = true ∧ cfgRetry s = true →
    Runs (.pcieBmeSet v) s fun t =>
      t = s) ∧
  (∀ (s : State) (v : Word), cfgRetry s = false ∧ fieldOf v 15 1 = 1 →
    Runs (.initiateFlr v) s fun t =>
      t.fld Reg.PCIE_FLR 0 2 = 1 ∧ t.bit Reg.DMA_STAT 17 = true ∧ t.bit Reg.HQ_CTRL 0 = false ∧ t.pcie.flrTick = s.ticks ∧ t.irq pgPCIE 3 ∧ t.fld Reg.PCIE_CNT1 8 8 = min (s.fld Reg.PCIE_CNT1 8 8 + 1) 255) ∧
  (∀ (s : State) (v : Word), cfgRetry s = false ∧ fieldOf v 15 1 = 0 →
    Runs (.initiateFlr v) s fun t =>
      t.fld Reg.PCIE_FLR 0 2 = 0 ∧ t.hq = s.hq ∧ t.reg (cfgReg 0x68) = (cfgNew s 0x68 0 (bytesLE 2 v.toNat))) ∧
  (∀ (s : State) (v : Word), s.wf = true ∧ cfgRetry s = true →
    Runs (.initiateFlr v) s fun t =>
      t = s) ∧
  (∀ (s : State), s.fld Reg.PCIE_FLR 0 2 = 1 ∧ tagsOut s ≠ [] →
    Runs (.flrDrainTimeout) s fun t =>
      t.bit Reg.PCIE_FLR 24 = true ∧ tagsOut t = [] ∧ (tagsOut s).all (fun k => t.pcie.quar.contains (k, true)) = true) ∧
  (∀ (s : State), s.wf = true ∧ (s.fld Reg.PCIE_FLR 0 2 ≠ 1 ∨ tagsOut s = []) →
    Runs (.flrDrainTimeout) s fun t =>
      t = s) ∧
  (∀ (s : State), s.quiet ∧ s.fld Reg.PCIE_FLR 0 2 = 1 ∧ tagsOut s = [] →
    Runs (.flrDrainDone) s fun t =>
      t.fld Reg.PCIE_FLR 0 2 = 0 ∧ t.fld Reg.PCIE_FLR 8 16 = min 65535 ((s.ticks - s.pcie.flrTick) * 5 / 8 / 100) ∧ t.bit Reg.DMA_STAT 17 = false ∧ t.hq.sqs = [] ∧ busMaster t = false ∧ unlkState t = 0) ∧
  (∀ (s : State), s.wf = true ∧ (s.fld Reg.PCIE_FLR 0 2 ≠ 1 ∨ tagsOut s ≠ []) →
    Runs (.flrDrainDone) s fun t =>
      t = s) ∧
  (∀ (s : State) (v : Word), cfgRetry s = false ∧ inD3 s = false ∧ fieldOf (cfgNew s 0x44 0 (bytesLE 2 v.toNat)) 0 2 = 3 →
    Runs (.pcieD3hotEntry v) s fun t =>
      inD3 t = true ∧ mayIssue t = false ∧ t.bit Reg.DMA_STAT 16 = true ∧ t.irq pgDMA 0) ∧
  (∀ (s : State) (v : Word), cfgRetry s = false ∧ inD3 s = decide (fieldOf (cfgNew s 0x44 0 (bytesLE 2 v.toNat)) 0 2 = 3) →
    Runs (.pcieD3hotEntry v) s fun t =>
      inD3 t = inD3 s ∧ t.pcie = s.pcie ∧ t.hq = s.hq) ∧
  (∀ (s : State) (v : Word), s.wf = true ∧ cfgRetry s = true →
    Runs (.pcieD3hotEntry v) s fun t =>
      t = s) ∧
  (∀ (s : State) (v : Word), s.quiet ∧ cfgRetry s = false ∧ s.fld Reg.PCIE_LINK 0 3 ≠ 0 ∧ inD3 s = true ∧ busMaster s = true ∧ s.boot.warm = false ∧ fieldOf (cfgNew s 0x44 0 (bytesLE 2 v.toNat)) 0 2 = 0 →
    Runs (.pcieD0Entry v) s fun t =>
      inD3 t = false ∧ mayIssue t = true ∧ t.bit Reg.DMA_STAT 16 = false ∧ t.pcie.held = []) ∧
  (∀ (s : State) (v : Word), cfgRetry s = false ∧ inD3 s = decide (fieldOf (cfgNew s 0x44 0 (bytesLE 2 v.toNat)) 0 2 = 3) →
    Runs (.pcieD0Entry v) s fun t =>
      inD3 t = inD3 s ∧ t.pcie = s.pcie ∧ t.hq = s.hq) ∧
  (∀ (s : State) (v : Word), s.wf = true ∧ cfgRetry s = true →
    Runs (.pcieD0Entry v) s fun t =>
      t = s) ∧
  (∀ (s : State), Runs (.pmeTurnOff) s fun t =>
      t.pcie.out = s.pcie.out ++ [.pmeToAck] ∧ t.fld Reg.PCIE_LINK 16 3 = 5 ∧ t.fld Reg.PCIE_LINK 0 3 = 0 ∧ t.bit (Reg.STAT pgPCIE) 8 = false) ∧
  (∀ (s : State), s.bit (cfgReg 0x70) 0 = true ∧ s.bit (Reg.STAT pgPCIE) 8 = true ∧ s.fld Reg.PCIE_LINK 16 3 = 0 →
    Runs (.pcieL0sEntry) s fun t =>
      t.fld Reg.PCIE_LINK 16 3 = 1) ∧
  (∀ (s : State), s.wf = true ∧ (s.bit (cfgReg 0x70) 0 = false ∨ s.bit (Reg.STAT pgPCIE) 8 = false ∨ s.fld Reg.PCIE_LINK 16 3 ≠ 0) →
    Runs (.pcieL0sEntry) s fun t =>
      t = s) ∧
  (∀ (s : State), s.bit (cfgReg 0x70) 1 = true ∧ s.bit (Reg.STAT pgPCIE) 8 = true ∧ s.fld Reg.PCIE_LINK 16 3 ≤ 1 ∧ l1Quiet s = true →
    Runs (.pcieL1Request) s fun t =>
      t.fld Reg.PCIE_LINK 16 3 = deepestLink s) ∧
  (∀ (s : State), s.wf = true ∧ (s.bit (cfgReg 0x70) 1 = false ∨ s.bit (Reg.STAT pgPCIE) 8 = false ∨ 1 < s.fld Reg.PCIE_LINK 16 3 ∨ l1Quiet s = false) →
    Runs (.pcieL1Request) s fun t =>
      t = s) ∧
  (∀ (s : State), 1 ≤ s.fld Reg.PCIE_LINK 16 3 ∧ s.fld Reg.PCIE_LINK 16 3 ≤ 4 →
    Runs (.pcieL1Exit) s fun t =>
      t.fld Reg.PCIE_LINK 16 3 = 0) ∧
  (∀ (s : State), s.wf = true ∧ (s.fld Reg.PCIE_LINK 16 3 = 0 ∨ 5 ≤ s.fld Reg.PCIE_LINK 16 3) →
    Runs (.pcieL1Exit) s fun t =>
      t = s) ∧
  (∀ (s : State) (u : State), u = (if cmdsOutstanding s then s.setPcie { s.pcie with ltrIdle := false } else s) →
    Runs (.ltrConditionChange) s fun t =>
      t.pcie.ltrIdle = u.pcie.ltrIdle ∧ t.pcie.out = s.pcie.out ++ (if s.bit (cfgReg 0x88) 10 then [.ltr (min (ltrNow u) (hostLatency s 0)) (min (ltrNow u) (hostLatency s 16))] else [])) ∧
  (∀ (s : State) (u : State), cmdsOutstanding s = false ∧ u = s.setPcie { s.pcie with ltrIdle := true } →
    Runs (.ltrIdleTimer) s fun t =>
      t.pcie.ltrIdle = true ∧ t.pcie.out = s.pcie.out ++ (if s.bit (cfgReg 0x88) 10 then [.ltr (min (ltrNow u) (hostLatency s 0)) (min (ltrNow u) (hostLatency s 16))] else [])) ∧
  (∀ (s : State), s.wf = true ∧ cmdsOutstanding s = true →
    Runs (.ltrIdleTimer) s fun t =>
      t = s)

/-- R316 to R324, R331, and the unlock of R318 (states 0 LOCKED, 1 CHALLENGED, 2 VERIFYING, 3 UNLOCKED). -/
def Obligations.HostReadsBarsAndUnlock : Prop :=
  (∀ (s : State) (tag : Nat) (bytes : List Nat) (r : HostReq), mayIssue s = true ∧ s.pcie.reads.find? (fun x => x.tag == some tag) = some r ∧ r.got.length + bytes.length < r.len →
    Runs (.dmaReadCompletion tag 0 false bytes) s fun t =>
      t.pcie.reads = s.pcie.reads.map (fun x => if x.tag = some tag then { x with got := r.got ++ bytes } else x)) ∧
  (∀ (s : State) (tag : Nat) (bytes : List Nat) (r : HostReq), s.quiet ∧ mayIssue s = true ∧ s.pcie.reads.find? (fun x => x.tag == some tag) = some r ∧ r.len ≤ r.got.length + bytes.length →
    Runs (.dmaReadCompletion tag 0 false bytes) s fun t =>
      t.fld Reg.DMA_RDBYTES 0 32 = (s.fld Reg.DMA_RDBYTES 0 32 + (s.pcie.rdRem + r.len) / 256) % 2 ^ 32 ∧ t.pcie.rdRem = (s.pcie.rdRem + r.len) % 256) ∧
  (∀ (s : State) (tag : Nat) (p : Bool) (bytes : List Nat), s.wf = true ∧ (s.pcie.reads.find? (fun x => x.tag == some tag)).isSome = true →
    Runs (.dmaReadCompletion tag 2 p bytes) s fun t =>
      t = s) ∧
  (∀ (s : State) (tag : Nat) (status : Nat) (p : Bool) (bytes : List Nat) (r : HostReq), s.quiet ∧ mayIssue s = true ∧ s.pcie.reads.find? (fun x => x.tag == some tag) = some r ∧ status ≠ 2 ∧ (p = true ∨ status ≠ 0) →
    Runs (.dmaReadCompletion tag status p bytes) s fun t =>
      t.pcie.quar.contains (tag, false) = true ∧ t.fld Reg.PCIE_CNT0 0 8 = min (s.fld Reg.PCIE_CNT0 0 8 + 1) 255 ∧ t.bit (cfgReg 0x104) 14 = true ∧ t.irq pgPCIE 6 ∧ s.reports pgPCIE 0x1302 t ∧ (2 ≤ r.tries → readWanted s r = true → t.irq pgDMA 1 ∧ t.reg Reg.DMA_FAILADDR_LO = Word.ofNat r.addr ∧ t.reg Reg.DMA_FAILADDR_HI = Word.ofNat (r.addr / 2 ^ 32)) ∧ (r.tries < 2 → readWanted s r = true → 0 < r.len → t.pcie.reads.any (fun x => x.addr == r.addr && x.tries == r.tries + 1) = true)) ∧
  (∀ (s : State) (k : Nat) (status : Nat) (p : Bool) (bytes : List Nat) (r : HostReq), mayIssue s = false ∧ s.pcie.reads.find? (fun x => x.tag == some k) = some r ∧ status ≠ 2 →
    Runs (.dmaReadCompletion k status p bytes) s fun t =>
      t.pcie.reads = (if s.fld Reg.PCIE_FLR 0 2 = 0 then s.pcie.reads.map (fun x => if x.tag = some k then { x with tag := none, got := [], marked := true } else x) else s.pcie.reads.filter (fun x => x.tag != some k)) ∧ t.pcie.quar = s.pcie.quar) ∧
  (∀ (s : State) (tag : Nat) (status : Nat) (p : Bool) (bytes : List Nat), s.pcie.reads.find? (fun x => x.tag == some tag) = none ∧ s.pcie.quar.contains (tag, true) = false →
    Runs (.dmaReadCompletion tag status p bytes) s fun t =>
      t.bit (cfgReg 0x104) 16 = true ∧ t.fld Reg.PCIE_CNT0 8 8 = min (s.fld Reg.PCIE_CNT0 8 8 + 1) 255 ∧ t.irq pgPCIE 7 ∧ s.reports pgPCIE 0x1303 t) ∧
  (∀ (s : State) (tag : Nat) (status : Nat) (p : Bool) (bytes : List Nat), s.pcie.reads.find? (fun x => x.tag == some tag) = none ∧ s.pcie.quar.contains (tag, true) = true →
    Runs (.dmaReadCompletion tag status p bytes) s fun t =>
      t.reg (cfgReg 0x104) = s.reg (cfgReg 0x104) ∧ t.fld Reg.PCIE_CNT0 8 8 = s.fld Reg.PCIE_CNT0 8 8 ∧ t.pcie = s.pcie) ∧
  (∀ (s : State) (tag : Nat) (r : HostReq), s.quiet ∧ mayIssue s = true ∧ s.pcie.reads.find? (fun x => x.tag == some tag) = some r →
    Runs (.pcieCompletionTimeout tag) s fun t =>
      t.pcie.quar.contains (tag, false) = true ∧ t.fld Reg.PCIE_CNT0 0 8 = min (s.fld Reg.PCIE_CNT0 0 8 + 1) 255 ∧ t.bit (cfgReg 0x104) 14 = true ∧ t.irq pgPCIE 6 ∧ s.reports pgPCIE 0x1302 t ∧ (2 ≤ r.tries → readWanted s r = true → t.irq pgDMA 1 ∧ t.reg Reg.DMA_FAILADDR_LO = Word.ofNat r.addr ∧ t.reg Reg.DMA_FAILADDR_HI = Word.ofNat (r.addr / 2 ^ 32)) ∧ (r.tries < 2 → readWanted s r = true → 0 < r.len → t.pcie.reads.any (fun x => x.addr == r.addr && x.tries == r.tries + 1) = true)) ∧
  (∀ (s : State) (k : Nat) (r : HostReq), mayIssue s = false ∧ s.pcie.reads.find? (fun x => x.tag == some k) = some r →
    Runs (.pcieCompletionTimeout k) s fun t =>
      t.pcie.reads = (if s.fld Reg.PCIE_FLR 0 2 = 0 then s.pcie.reads.map (fun x => if x.tag = some k then { x with tag := none, got := [], marked := true } else x) else s.pcie.reads.filter (fun x => x.tag != some k)) ∧ t.pcie.quar = s.pcie.quar) ∧
  (∀ (s : State) (tag : Nat), s.wf = true ∧ s.pcie.reads.find? (fun x => x.tag == some tag) = none →
    Runs (.pcieCompletionTimeout tag) s fun t =>
      t = s) ∧
  (∀ (s : State) (tag : Nat), Runs (.tagQuarantineEnd tag) s fun t =>
      t.pcie.quar = s.pcie.quar.filter (fun x => x.1 != tag)) ∧
  (∀ (s : State) (kind : Nat), kind < 10 ∧ s.pcie.quar.contains (0x400, true) = false →
    Runs (.pcieProtocolError kind) s fun t =>
      (if 1 ≤ kind ∧ kind ≤ 5 then t.bit (cfgReg 0x110) ([0, 7, 6, 12, 8, 0].getD kind 0) = true else t.bit (cfgReg 0x104) ([18, 0, 0, 0, 0, 0, 12, 20, 15, 16].getD kind 0) = true) ∧ t.irq pgPCIE 8) ∧
  (∀ (s : State) (kind : Nat), s.wf = true ∧ 10 ≤ kind →
    Runs (.pcieProtocolError kind) s fun t =>
      t = s) ∧
  (∀ (s : State) (bar off : Nat) (bytes : List Nat), memSpace s = false →
    Runs (.barMemoryWrite bar off bytes) s fun t =>
      t.bit (cfgReg 0x104) 20 = true ∧ t.irq pgPCIE 8) ∧
  (∀ (s : State) (bar off : Nat) (bytes : List Nat), memSpace s = true ∧ barShape off bytes.length = false →
    Runs (.barMemoryWrite bar off bytes) s fun t =>
      t.bit (cfgReg 0x104) 15 = true ∧ t.irq pgPCIE 8 ∧ t.hq = s.hq) ∧
  (∀ (s : State) (off : Nat) (bytes : List Nat), memSpace s = true ∧ off ∈ [0x28, 0x2C, 0x30, 0x34] ∧ bytes.length = 4 →
    Runs (.barMemoryWrite 0 off bytes) s fun t =>
      t.reg (bar0 off) = if leNat bytes % 2 ^ 32 = 0xFFFFFFFF then s.reg (bar0 off) else Word.ofNat (leNat bytes)) ∧
  (∀ (s : State) (off : Nat) (bytes : List Nat), memSpace s = true ∧ off ∈ [0x00, 0x04, 0x08, 0x1C, 0x20] ∧ bytes.length = 4 →
    Runs (.barMemoryWrite 0 off bytes) s fun t =>
      t.reg (bar0 off) = s.reg (bar0 off) ∧ (if secondPassed s.roRecs off s.ticks then t.roRecs = setTick s.roRecs off s.ticks else t.evr = s.evr)) ∧
  (∀ (s : State) (bytes : List Nat), memSpace s = true ∧ bytes.length = 4 →
    Runs (.barMemoryWrite 2 0x3E028 bytes) s fun t =>
      (t.reg (mbx 0x28)).toNat = leNat bytes % 4096) ∧
  (∀ (s : State) (bar off n : Nat), linkGone s = true →
    Runs (.barMemoryReadAbort bar off n) s fun t =>
      t.resp = ⟨256 ^ n - 1, false⟩) ∧
  (∀ (s : State) (bar off n : Nat), linkGone s = false ∧ memSpace s = false →
    Runs (.barMemoryReadAbort bar off n) s fun t =>
      t.resp = ⟨0, true⟩ ∧ t.bit (cfgReg 0x104) 20 = true ∧ t.irq pgPCIE 8) ∧
  (∀ (s : State) (bar off n : Nat), linkGone s = false ∧ memSpace s = true ∧ barShape off n = false →
    Runs (.barMemoryReadAbort bar off n) s fun t =>
      t.resp = ⟨0, true⟩ ∧ t.bit (cfgReg 0x104) 15 = true ∧ t.irq pgPCIE 8) ∧
  (∀ (s : State) (off n : Nat), linkGone s = false ∧ memSpace s = true ∧ barShape off n = true →
    Runs (.barMemoryReadAbort 0 off n) s fun t =>
      t.resp = ⟨takeBytes off n (bar0Peek s), false⟩) ∧
  (∀ (s : State) (off : Nat), linkGone s = false ∧ memSpace s = true ∧ off < 0x29000 ∧ off % 4 = 0 ∧ pageGrants s .hostin (off / 0x1000) .read = true →
    Runs (.bar2Read off 4) s fun t =>
      (let v := (regPeek s (0x40000000 + off)).toNat; if v = 0xFFFFFFFF then t.resp = ⟨0xFFFFFFFE, false⟩ ∧ t.bit (mbx (0x40 + 4 * (scopeBit (off / 0x1000) / 32))) (scopeBit (off / 0x1000) % 32) = true else t.resp = ⟨v, false⟩)) ∧
  (∀ (s : State) (off n : Nat), linkGone s = false ∧ memSpace s = true ∧ barShape off n = true ∧ off < 0x29000 ∧ pageGrants s .hostin (off / 0x1000) .read = false →
    Runs (.bar2Read off n) s fun t =>
      t.resp = ⟨0, false⟩) ∧
  (∀ (s : State) (off n : Nat), linkGone s = false ∧ memSpace s = true ∧ barShape off n = true ∧ 0x29000 ≤ off →
    Runs (.bar2Read off n) s fun t =>
      t.resp = ⟨if 0x3E000 ≤ off ∧ off < 0x40000 then takeBytes (off - 0x3E000) n (mailPeek s) else 0, false⟩) ∧
  (∀ (s : State) (off n : Nat), linkGone s = true →
    Runs (.bar2Read off n) s fun t =>
      t.resp = ⟨256 ^ n - 1, false⟩) ∧
  (∀ (s : State) (off n : Nat), linkGone s = false ∧ (memSpace s = false ∨ barShape off n = false) →
    Runs (.bar2Read off n) s fun t =>
      t.resp = ⟨0, true⟩ ∧ t.irq pgPCIE 8) ∧
  (∀ (s : State) (off : Nat) (bytes : List Nat), memSpace s = true ∧ barShape off bytes.length = true ∧ off < 0x3E000 ∧ inScope s (off / 0x1000) = false →
    Runs (.bar2Write off bytes) s fun t =>
      t.reg (0x40000000 + off) = s.reg (0x40000000 + off) ∧ (if secondPassed s.roRecs (0x40000000 + off) s.ticks then t.roRecs = setTick s.roRecs (0x40000000 + off) s.ticks else t.evr = s.evr)) ∧
  (∀ (s : State) (off : Nat) (bytes : List Nat), memSpace s = true ∧ off < 0x29000 ∧ off % 4 = 0 ∧ bytes.length = 4 ∧ inScope s (off / 0x1000) = true →
    Runs (.bar2Write off bytes) s fun t =>
      exec (.registerWrite .hostin (0x40000000 + off) 4 (Word.ofNat (leNat bytes))) (linkWake s) = .next t) ∧
  (∀ (s : State) (bytes : List Nat), memSpace s = true ∧ bytes.length = 4 →
    Runs (.bar2Write 0x3E028 bytes) s fun t =>
      (t.reg (mbx 0x28)).toNat = leNat bytes % 4096) ∧
  (∀ (s : State) (off : Nat) (bytes : List Nat), memSpace s = false ∨ barShape off bytes.length = false →
    Runs (.bar2Write off bytes) s fun t =>
      t.irq pgPCIE 8 ∧ t.hq = s.hq ∧ (memSpace s = false → t.bit (cfgReg 0x104) 20 = true) ∧ (memSpace s = true → t.bit (cfgReg 0x104) 15 = true)) ∧
  (∀ (s : State) (v : Word), fieldOf v 0 1 = 1 ∧ fieldOf v 1 1 = 0 ∧ fieldOf v 2 1 = 0 →
    Runs (.unlkNewchal v) s fun t =>
      unlkState t = 1 ∧ t.pcie.unlk = none) ∧
  (∀ (s : State) (v : Word), s.wf = true ∧ fieldOf v 0 1 = 0 ∧ fieldOf v 1 1 = 0 ∧ fieldOf v 2 1 = 0 →
    Runs (.unlkNewchal v) s fun t =>
      t = s) ∧
  (∀ (s : State) (v : Word), fieldOf v 0 1 = 0 ∧ fieldOf v 1 1 = 1 ∧ fieldOf v 2 1 = 0 ∧ unlkState s ≠ 2 →
    Runs (.unlkSubmit v) s fun t =>
      unlkState t = 2 ∧ t.pcie.unlk = some (unlockResult s) ∧ t.pcie.unlkScope = (s.reg (mbx 0x30)).toNat + (s.reg (mbx 0x34)).toNat * 2 ^ 32 ∧ t.pcie.unlkDur = s.fld (mbx 0x28) 0 12) ∧
  (∀ (s : State) (v : Word), s.wf = true ∧ fieldOf v 0 1 = 0 ∧ fieldOf v 1 1 = 1 ∧ fieldOf v 2 1 = 0 ∧ unlkState s = 2 →
    Runs (.unlkSubmit v) s fun t =>
      t = s) ∧
  (∀ (s : State) (n : Nat), s.pcie.unlk = some n →
    Runs (.unlkVerifyDone) s fun t =>
      unlkState t = (if n = 1 then 3 else 0) ∧ t.fld (mbx 0x24) 8 4 = n % 16 ∧ t.pcie.unlkEnd = (if n = 1 then s.ticks + s.pcie.unlkDur * ticksPerSecond else 0) ∧ t.pcie.unlk = none ∧ (n = 1 → t.irq pgPCIE 9)) ∧
  (∀ (s : State), s.wf = true ∧ s.pcie.unlk = none →
    Runs (.unlkVerifyDone) s fun t =>
      t = s) ∧
  (∀ (s : State) (v : Word), fieldOf v 0 1 = 0 ∧ fieldOf v 1 1 = 0 ∧ fieldOf v 2 1 = 1 ∧ unlkState s = 3 →
    Runs (.unlkRelock v) s fun t =>
      unlkState t = 0 ∧ t.pcie.unlkEnd = 0 ∧ t.pcie.unlk = none) ∧
  (∀ (s : State) (v : Word), s.wf = true ∧ fieldOf v 0 1 = 0 ∧ fieldOf v 1 1 = 0 ∧ fieldOf v 2 1 = 1 ∧ unlkState s ≠ 3 →
    Runs (.unlkRelock v) s fun t =>
      t = s) ∧
  (∀ (s : State), unlkState s = 3 ∧ s.pcie.unlkEnd ≤ s.ticks →
    Runs (.unlkExpiry) s fun t =>
      unlkState t = 0 ∧ t.pcie.unlk = none) ∧
  (∀ (s : State), s.wf = true ∧ (unlkState s ≠ 3 ∨ s.ticks < s.pcie.unlkEnd) →
    Runs (.unlkExpiry) s fun t =>
      t = s)

/-- R335 to R339, R369. -/
def Obligations.ControllerEnablesResetsAndShutsDown : Prop :=
  (∀ (s : State) (v : Word), s.bit aCC 0 = false ∧ fieldOf v 0 1 = 1 ∧ fieldOf v 14 2 = 0 ∧ enableOk (s.setReg aCC (v &&& 0x00FFFFF1#32)) = true →
    Runs (.ccEnable v) s fun t =>
      t.bit aCSTS 0 = true ∧ t.hq.sqs = [⟨0, adminBase s 0x28, s.fld (bar0 0x24) 0 12 + 1, 0, 0⟩] ∧ t.hq.cqs = [⟨0, adminBase s 0x30, s.fld (bar0 0x24) 16 12 + 1, 0, true, true⟩] ∧ t.reg (Reg.HQ_SQPTR 0) = 0#32 ∧ t.reg (Reg.HQ_CQPTR 0) = 0#32) ∧
  (∀ (s : State) (v : Word), s.bit aCC 0 = false ∧ fieldOf v 0 1 = 1 ∧ fieldOf v 14 2 = 0 ∧ enableOk (s.setReg aCC (v &&& 0x00FFFFF1#32)) = false →
    Runs (.ccEnable v) s fun t =>
      cfs t = true ∧ t.hq.sqs = s.hq.sqs ∧ t.bit aCSTS 0 = s.bit aCSTS 0) ∧
  (∀ (s : State) (v : Word), s.bit aCC 0 = true ∧ fieldOf v 0 1 = 1 ∧ fieldOf v 14 2 = 0 →
    Runs (.ccEnable v) s fun t =>
      t.hq = s.hq ∧ t.reg aCSTS = s.reg aCSTS ∧ t.reg aCC = v &&& 0x00FFFFF1#32) ∧
  (∀ (s : State) (v : Word), s.quiet ∧ s.bit aCC 0 = true ∧ fieldOf v 0 1 = 0 →
    Runs (.controllerReset v) s fun t =>
      t.reg aCSTS = 0#32 ∧ t.hq.sqs = [] ∧ t.hq.cqs = [] ∧ t.hq.ctx = [] ∧ t.reg (bar0 0x28) = s.reg (bar0 0x28) ∧ t.bit aCC 0 = false) ∧
  (∀ (s : State) (v : Word), s.bit aCC 0 = false ∧ fieldOf v 0 1 = 0 →
    Runs (.controllerReset v) s fun t =>
      t.hq = s.hq ∧ t.reg aCSTS = s.reg aCSTS ∧ t.reg aCC = v &&& 0x00FFFFF1#32) ∧
  (∀ (s : State) (v : Word), s.quiet ∧ s.bit aCC 0 = true ∧ fieldOf v 0 1 = 1 ∧ fieldOf v 14 2 = 1 →
    Runs (.ccShutdownNormal v) s fun t =>
      t.hq.shut ≠ 0 ∧ (t.fld aCSTS 2 2 = 1 ∨ t.fld aCSTS 2 2 = 2)) ∧
  (∀ (s : State) (v : Word), s.bit aCC 0 = true ∧ fieldOf v 0 1 = 1 ∧ fieldOf v 14 2 = 1 ∧ s.hq.shut ≠ 0 →
    Runs (.ccShutdownNormal v) s fun t =>
      t.hq = s.hq ∧ t.reg aCSTS = s.reg aCSTS ∧ t.reg aCC = v &&& 0x00FFFFF1#32) ∧
  (∀ (s : State) (v : Word), s.quiet ∧ s.bit aCC 0 = true ∧ fieldOf v 0 1 = 1 ∧ fieldOf v 14 2 = 2 →
    Runs (.ccShutdownAbrupt v) s fun t =>
      t.hq.shut = 4 ∧ t.fld aCSTS 2 2 = 2 ∧ t.hq.ctx = []) ∧
  (∀ (s : State) (v : Word), s.bit aCC 0 = true ∧ fieldOf v 0 1 = 1 ∧ fieldOf v 14 2 = 2 ∧ 3 ≤ s.hq.shut →
    Runs (.ccShutdownAbrupt v) s fun t =>
      t.hq = s.hq ∧ t.reg aCSTS = s.reg aCSTS ∧ t.reg aCC = v &&& 0x00FFFFF1#32) ∧
  (∀ (s : State) (y : Nat) (v : Word) (q : Sq), s.quiet ∧ y < 65 ∧ ready s = true ∧ s.sq y = some q ∧ fieldOf v 0 16 < q.size ∧ q.size ≤ 4096 →
    Runs (.sqTailDoorbell y v) s fun t =>
      t.fld (Reg.HQ_SQPTR y) 16 12 = fieldOf v 0 16) ∧
  (∀ (s : State) (y : Nat) (v : Word), s.quiet ∧ ready s = true ∧ (s.sq y).all (fun q => decide (q.size ≤ fieldOf v 0 16)) = true →
    Runs (.sqTailDoorbell y v) s fun t =>
      t.reg (Reg.HQ_SQPTR y) = s.reg (Reg.HQ_SQPTR y) ∧ t.fld Reg.HQ_VIOL 0 8 = min (s.fld Reg.HQ_VIOL 0 8 + 1) 255 ∧ t.irq pgHQ 1) ∧
  (∀ (s : State) (y : Nat) (v : Word), s.wf = true ∧ ready s = false →
    Runs (.sqTailDoorbell y v) s fun t =>
      t = s) ∧
  (∀ (s : State) (y : Nat) (v : Word) (q : Cq), s.quiet ∧ y < 65 ∧ ready s = true ∧ s.cq y = some q ∧ fieldOf v 0 16 < q.size ∧ q.size ≤ 4096 ∧ (fieldOf v 0 16 + q.size - s.fld (Reg.HQ_CQPTR y) 16 12) % q.size ≤ (s.fld (Reg.HQ_CQPTR y) 0 12 + q.size - s.fld (Reg.HQ_CQPTR y) 16 12) % q.size →
    Runs (.cqHeadDoorbell y v) s fun t =>
      t.fld (Reg.HQ_CQPTR y) 16 12 = fieldOf v 0 16) ∧
  (∀ (s : State) (y : Nat) (v : Word), s.quiet ∧ ready s = true ∧ (s.cq y).all (fun q => decide (q.size ≤ fieldOf v 0 16) || decide ((s.fld (Reg.HQ_CQPTR y) 0 12 + q.size - s.fld (Reg.HQ_CQPTR y) 16 12) % q.size < (fieldOf v 0 16 + q.size - s.fld (Reg.HQ_CQPTR y) 16 12) % q.size)) = true →
    Runs (.cqHeadDoorbell y v) s fun t =>
      t.hq.cqs = s.hq.cqs ∧ t.reg (Reg.HQ_CQPTR y) = s.reg (Reg.HQ_CQPTR y) ∧ t.fld Reg.HQ_VIOL 0 8 = min (s.fld Reg.HQ_VIOL 0 8 + 1) 255 ∧ t.irq pgHQ 1) ∧
  (∀ (s : State) (y : Nat) (v : Word), s.wf = true ∧ ready s = false →
    Runs (.cqHeadDoorbell y v) s fun t =>
      t = s)

/-- The admin commands of R336 to R358 on a controller that holds no other command but those the clause names; the last
two clauses speak of every command row (R14, R347). -/
def Obligations.AdminQueuesAndFeatures : Prop :=
  (∀ (s : State) (c : Ctx), s.alone c ∧ c.admin = true ∧ c.opc = 0x00 ∧ c.f 10 0 16 ≠ 0 ∧ c.f 10 0 16 ≤ 64 ∧ (s.sq (c.f 10 0 16)).isSome = true →
    Runs (.cmdDeleteIoSq c.seq) s fun t =>
      t.hq.sqs = s.hq.sqs.filter (fun q => q.id != c.f 10 0 16) ∧ t.reg (Reg.HQ_SQPTR (c.f 10 0 16)) = 0#32 ∧ t.answered s c stOk 0 = true) ∧
  (∀ (s : State) (c : Ctx), s.alone c ∧ c.admin = true ∧ c.opc = 0x00 ∧ (c.f 10 0 16 = 0 ∨ s.sq (c.f 10 0 16) = none) →
    Runs (.cmdDeleteIoSq c.seq) s fun t =>
      t.hq.sqs = s.hq.sqs ∧ t.answered s c 0x4101 0 = true) ∧
  (∀ (s : State) (c : Ctx), s.alone c ∧ c.admin = true ∧ c.opc = 0x05 ∧ s.fld aCC 16 4 = 6 ∧ s.fld aCC 20 4 = 4 ∧ c.f 10 0 16 ≠ 0 ∧ c.f 10 0 16 ≤ 64 ∧ s.cq (c.f 10 0 16) = none ∧ 1 ≤ c.f 10 16 16 ∧ c.f 10 16 16 ≤ 4095 ∧ c.f 11 0 1 = 1 ∧ c.f 11 16 16 ≤ 64 →
    Runs (.cmdCreateIoCq c.seq) s fun t =>
      t.hq.ioMade = true ∧ (t.cq (c.f 10 0 16)).map (fun q => (q.base, q.size, q.iv, q.ien, q.phase)) = some (c.quad 6, c.f 10 16 16 + 1, c.f 11 16 16, c.f 11 1 1 == 1, true) ∧ t.bit (Reg.HQ_QCFG (c.f 10 0 16)) 1 = true ∧ t.answered s c stOk 0 = true) ∧
  (∀ (s : State) (c : Ctx) (st : Nat), s.alone c ∧ c.admin = true ∧ c.opc = 0x05 ∧ st = (if s.fld aCC 16 4 ≠ 6 ∨ s.fld aCC 20 4 ≠ 4 then stField else if c.f 10 0 16 = 0 ∨ 64 < c.f 10 0 16 ∨ (s.cq (c.f 10 0 16)).isSome = true then 0x4101 else if c.f 10 16 16 < 1 ∨ 4095 < c.f 10 16 16 then 0x4102 else if c.f 11 0 1 = 0 then stField else if 64 < c.f 11 16 16 then 0x4108 else stOk) ∧ st ≠ stOk →
    Runs (.cmdCreateIoCq c.seq) s fun t =>
      t.answered s c st 0 = true ∧ t.hq.cqs.map (·.id) = s.hq.cqs.map (·.id) ∧ t.hq.ioMade = s.hq.ioMade) ∧
  (∀ (s : State) (c : Ctx), s.alone c ∧ c.admin = true ∧ c.opc = 0x01 ∧ s.fld aCC 16 4 = 6 ∧ s.fld aCC 20 4 = 4 ∧ c.f 10 0 16 ≠ 0 ∧ c.f 10 0 16 ≤ 64 ∧ s.sq (c.f 10 0 16) = none ∧ 1 ≤ c.f 10 16 16 ∧ c.f 10 16 16 ≤ 4095 ∧ c.f 11 0 1 = 1 ∧ c.f 11 16 16 ≠ 0 ∧ (s.cq (c.f 11 16 16)).isSome = true →
    Runs (.cmdCreateIoSq c.seq) s fun t =>
      t.hq.sqs = s.hq.sqs ++ [⟨c.f 10 0 16, c.quad 6, c.f 10 16 16 + 1, c.f 11 1 2, c.f 11 16 16⟩] ∧ t.reg (Reg.HQ_SQPTR (c.f 10 0 16)) = 0#32 ∧ t.bit (Reg.HQ_QCFG (c.f 10 0 16)) 0 = true ∧ t.answered s c stOk 0 = true) ∧
  (∀ (s : State) (c : Ctx) (st : Nat), s.alone c ∧ c.admin = true ∧ c.opc = 0x01 ∧ st = (if s.fld aCC 16 4 ≠ 6 ∨ s.fld aCC 20 4 ≠ 4 then stField else if c.f 10 0 16 = 0 ∨ 64 < c.f 10 0 16 ∨ (s.sq (c.f 10 0 16)).isSome = true then 0x4101 else if c.f 10 16 16 < 1 ∨ 4095 < c.f 10 16 16 then 0x4102 else if c.f 11 0 1 = 0 then stField else if c.f 11 16 16 = 0 ∨ (s.cq (c.f 11 16 16)).isNone = true then 0x4100 else stOk) ∧ st ≠ stOk →
    Runs (.cmdCreateIoSq c.seq) s fun t =>
      t.answered s c st 0 = true ∧ t.hq.sqs = s.hq.sqs ∧ t.hq.ioMade = s.hq.ioMade) ∧
  (∀ (s : State) (c : Ctx), s.alone c ∧ c.admin = true ∧ c.opc = 0x04 ∧ c.f 10 0 16 ≠ 0 ∧ (s.cq (c.f 10 0 16)).isSome = true ∧ s.hq.sqs.any (fun q => q.cqid == c.f 10 0 16) = false →
    Runs (.cmdDeleteIoCq c.seq) s fun t =>
      t.cq (c.f 10 0 16) = none ∧ t.answered s c stOk 0 = true) ∧
  (∀ (s : State) (c : Ctx), s.alone c ∧ c.admin = true ∧ c.opc = 0x04 ∧ (c.f 10 0 16 = 0 ∨ s.cq (c.f 10 0 16) = none) →
    Runs (.cmdDeleteIoCq c.seq) s fun t =>
      t.hq.cqs.map (·.id) = s.hq.cqs.map (·.id) ∧ t.answered s c 0x4101 0 = true) ∧
  (∀ (s : State) (c : Ctx), s.alone c ∧ c.admin = true ∧ c.opc = 0x04 ∧ s.hq.sqs.any (fun q => q.cqid == c.f 10 0 16) = true ∧ c.f 10 0 16 ≠ 0 ∧ (s.cq (c.f 10 0 16)).isSome = true →
    Runs (.cmdDeleteIoCq c.seq) s fun t =>
      (t.cq (c.f 10 0 16)).isSome = true ∧ t.answered s c 0x410C 0 = true) ∧
  (∀ (s : State) (c : Ctx), s.alone c ∧ c.admin = true ∧ c.opc = 0x08 →
    Runs (.cmdAbort c.seq) s fun t =>
      t.fld Reg.HQ_ABT 16 16 = min (s.fld Reg.HQ_ABT 16 16 + 1) 65535 ∧ t.answered s c stOk 1 = true) ∧
  (∀ (s : State) (c d : Ctx), mounted s = false ∧ s.xlt.jr.units = [] ∧ s.hq.shut = 0 ∧ s.hq.ctx = [d, c] ∧ c.phase = .accepted ∧ s.boot.warm = false ∧ lgRuns s = false ∧ cfs s = false ∧ entryFault s c = none ∧ c.admin = true ∧ c.opc = 0x08 ∧ d.admin = true ∧ d.opc = 0x0C ∧ d.phase = .running ∧ d.pins = [] ∧ d.snap = none ∧ d.prpNext = none ∧ d.seq ≠ c.seq ∧ d.cid ≠ c.cid ∧ d.sqid = c.f 10 0 16 ∧ d.cid = c.f 10 16 16 →
    Runs (.cmdAbort c.seq) s fun t =>
      t.fld Reg.HQ_ABT 0 16 = min (s.fld Reg.HQ_ABT 0 16 + 1) 65535 ∧ t.answered s c stOk 0 = true ∧ t.answered s d stAborted 0 = true) ∧
  (∀ (s : State) (c : Ctx) (l : List Ctx), mounted s = false ∧ s.xlt.jr.units = [] ∧ s.hq.shut = 0 ∧ s.boot.warm = false ∧ lgRuns s = false ∧ cfs s = false ∧ s.hq.ctx = l ++ [c] ∧ c.phase = .accepted ∧ entryFault s c = none ∧ c.admin = true ∧ c.opc = 0x08 ∧ l.length = 16 ∧ l.all (fun d => d.admin && d.opc == 0x08 && d.phase == .accepted && d.seq != c.seq) = true →
    Runs (.cmdAbort c.seq) s fun t =>
      t.answered s c 0x0103 0 = true ∧ t.reg Reg.HQ_ABT = s.reg Reg.HQ_ABT) ∧
  (∀ (s : State) (c : Ctx), s.alone c ∧ c.admin = true ∧ c.opc = 0x09 ∧ c.f 10 31 1 = 0 ∧ (c.f 10 0 8 = 1 ∨ c.f 10 0 8 = 4 ∨ c.f 10 0 8 = 8 ∨ c.f 10 0 8 = 9 ∨ c.f 10 0 8 = 11) →
    Runs (.cmdSetFeatures c.seq) s fun t =>
      feature t (featKey c) = c.dw 11 ∧ t.answered s c stOk 0 = true) ∧
  (∀ (s : State) (c : Ctx), s.alone c ∧ c.admin = true ∧ c.opc = 0x09 ∧ c.f 10 31 1 = 0 ∧ c.f 10 0 8 = 15 →
    Runs (.cmdSetFeatures c.seq) s fun t =>
      t.hq.katoAt = s.ticks ∧ feature t 15 = Word.ofNat (((c.dw 11).toNat + 99) / 100 * 100) ∧ t.answered s c stOk 0 = true) ∧
  (∀ (s : State) (c : Ctx), s.alone c ∧ c.admin = true ∧ c.opc = 0x09 ∧ c.f 10 31 1 = 0 ∧ c.f 10 0 8 = 7 ∧ s.hq.ioMade = false →
    Runs (.cmdSetFeatures c.seq) s fun t =>
      t.answered s c stOk 0x003F003F = true) ∧
  (∀ (s : State) (c : Ctx), s.alone c ∧ c.admin = true ∧ c.opc = 0x09 ∧ c.f 10 31 1 = 0 ∧ c.f 10 0 8 = 7 ∧ s.hq.ioMade = true →
    Runs (.cmdSetFeatures c.seq) s fun t =>
      t.answered s c stSequence 0 = true ∧ t.hq.feats = s.hq.feats) ∧
  (∀ (s : State) (c : Ctx), s.alone c ∧ c.admin = true ∧ c.opc = 0x09 ∧ c.f 10 31 1 = 0 ∧ c.f 10 0 8 = 2 ∧ c.f 11 0 5 ≤ 1 ∧ s.bit Reg.HQ_PS 8 = false →
    Runs (.cmdSetFeatures c.seq) s fun t =>
      t.fld Reg.HQ_PS 0 3 = c.f 11 0 5 ∧ t.hq.oper = c.f 11 0 5 ∧ t.irq pgHQ 3 ∧ t.answered s c stOk 0 = true) ∧
  (∀ (s : State) (c : Ctx), s.alone c ∧ c.admin = true ∧ c.opc = 0x09 ∧ c.f 10 31 1 = 0 ∧ c.f 10 0 8 = 2 ∧ 2 ≤ c.f 11 0 5 ∧ c.f 11 0 5 ≤ 4 ∧ s.bit Reg.HQ_PS 8 = false →
    Runs (.cmdSetFeatures c.seq) s fun t =>
      t.fld Reg.HQ_PS 0 3 = s.fld Reg.HQ_PS 0 3 ∧ (s.fld Reg.HQ_PS 0 3 ≠ c.f 11 0 5 → t.fld Reg.HQ_PS 4 3 = c.f 11 0 5 ∧ t.bit Reg.HQ_PS 8 = true ∧ t.fld Reg.HQ_PS 9 3 = 0) ∧ (s.fld Reg.HQ_PS 0 3 = c.f 11 0 5 → t.reg Reg.HQ_PS = s.reg Reg.HQ_PS) ∧ t.answered s c stOk 0 = true) ∧
  (∀ (s : State) (c : Ctx), s.alone c ∧ c.admin = true ∧ c.opc = 0x09 ∧ c.f 10 31 1 = 0 ∧ c.f 10 0 8 = 2 ∧ c.f 11 0 5 ≤ 4 ∧ s.bit Reg.HQ_PS 8 = true →
    Runs (.cmdSetFeatures c.seq) s fun t =>
      t.fld Reg.HQ_PS 4 3 = c.f 11 0 5 ∧ t.bit Reg.HQ_PS 8 = true ∧ t.fld Reg.HQ_PS 0 3 = s.fld Reg.HQ_PS 0 3 ∧ t.fld Reg.HQ_PS 9 3 = s.fld Reg.HQ_PS 9 3 ∧ t.answered s c stOk 0 = true) ∧
  (∀ (s : State) (c : Ctx), s.alone c ∧ c.admin = true ∧ c.opc = 0x09 ∧ c.f 10 31 1 = 0 ∧ (featKnown (c.f 10 0 8) = false ∨ c.f 10 0 8 = 2 ∧ 4 < c.f 11 0 5) →
    Runs (.cmdSetFeatures c.seq) s fun t =>
      t.answered s c stField 0 = true ∧ t.hq.feats = s.hq.feats ∧ t.reg Reg.HQ_PS = s.reg Reg.HQ_PS) ∧
  (∀ (s : State) (c : Ctx), s.alone c ∧ c.admin = true ∧ c.opc = 0x09 ∧ c.f 10 31 1 = 1 →
    Runs (.cmdSetFeatures c.seq) s fun t =>
      t.answered s c 0x410D 0 = true ∧ t.hq.feats = s.hq.feats) ∧
  (∀ (s : State) (c d : Ctx), s.alone c ∧ c.admin = true ∧ c.opc = 0x09 ∧ s.readyAs c d ∧ d.step = 0 ∧ c.f 10 31 1 = 0 ∧ c.f 10 0 8 = 12 →
    Runs (.cmdSetFeatures c.seq) s fun t =>
      (t.ctx c.seq).map (fun x => (x.phase, x.step)) = some (.running, 1) ∧ awaits t (.data c.seq) = true) ∧
  (∀ (s : State) (c : Ctx), mounted s = false ∧ s.xlt.jr.units = [] ∧ s.hq.shut = 0 ∧ s.boot.warm = false ∧ lgRuns s = false ∧ cfs s = false ∧ s.hq.ctx = [c] ∧ c.phase = .running ∧ prpReady c = true ∧ c.admin = true ∧ c.opc = 0x09 ∧ c.step = 1 ∧ awaits s (.data c.seq) = false ∧ c.f 10 31 1 = 0 ∧ c.f 10 0 8 = 12 →
    Runs (.cmdSetFeatures c.seq) s fun t =>
      t.hq.apst = bufBytes c.buf 256 ∧ feature t (featKey c) = c.dw 11 ∧ t.answered s c stOk 0 = true) ∧
  (∀ (s : State) (c : Ctx), s.alone c ∧ c.admin = true ∧ c.opc = 0x0A ∧ (c.f 10 0 8 = 1 ∨ c.f 10 0 8 = 4 ∨ c.f 10 0 8 = 7 ∨ c.f 10 0 8 = 8 ∨ c.f 10 0 8 = 9 ∨ c.f 10 0 8 = 11 ∨ c.f 10 0 8 = 15) →
    Runs (.cmdGetFeatures c.seq) s fun t =>
      t.answered s c stOk (feature s (featKey c)).toNat = true) ∧
  (∀ (s : State) (c d : Ctx), s.alone c ∧ c.admin = true ∧ c.opc = 0x0A ∧ s.readyAs c d ∧ mayIssue s = true ∧ c.f 10 0 8 = 12 →
    Runs (.cmdGetFeatures c.seq) s fun t =>
      t.dataSent s = (s.hq.apst ++ List.replicate 256 0).take 256 ∧ t.answered s c stOk (feature s (featKey c)).toNat = true) ∧
  (∀ (s : State) (c : Ctx), s.alone c ∧ c.admin = true ∧ c.opc = 0x0A ∧ c.f 10 0 8 = 2 →
    Runs (.cmdGetFeatures c.seq) s fun t =>
      t.answered s c stOk (s.fld Reg.HQ_PS 4 3) = true) ∧
  (∀ (s : State) (c : Ctx), s.alone c ∧ c.admin = true ∧ c.opc = 0x0A ∧ featKnown (c.f 10 0 8) = false →
    Runs (.cmdGetFeatures c.seq) s fun t =>
      t.answered s c stField 0 = true) ∧
  (∀ (s : State) (c : Ctx), s.alone c ∧ c.admin = true ∧ c.opc = 0x0C ∧ s.hq.waiting = [] →
    Runs (.cmdAsyncEventRequest c.seq) s fun t =>
      (t.ctx c.seq).map (·.phase) = some .running) ∧
  (∀ (s : State) (c : Ctx) (k : Nat) (r : List Nat), s.alone c ∧ c.admin = true ∧ c.opc = 0x0C ∧ s.hq.waiting = k :: r →
    Runs (.cmdAsyncEventRequest c.seq) s fun t =>
      t.answered s c stOk (aeResult (k / 256) (k % 256)) = true ∧ t.hq.waiting = r ∧ t.hq.masked = k :: s.hq.masked ∧ (List.range 9).all (fun j => t.bit Reg.HQ_AE j == r.any (fun i => i / 256 == j)) = true) ∧
  (∀ (s : State) (c : Ctx) (l : List Ctx), mounted s = false ∧ s.xlt.jr.units = [] ∧ s.hq.shut = 0 ∧ s.boot.warm = false ∧ lgRuns s = false ∧ cfs s = false ∧ s.hq.ctx = l ++ [c] ∧ c.phase = .accepted ∧ entryFault s c = none ∧ c.admin = true ∧ c.opc = 0x0C ∧ l.length = 8 ∧ l.all (fun d => d.admin && d.opc == 0x0C && d.phase == .running && d.prpNext.isNone && d.seq != c.seq) = true →
    Runs (.cmdAsyncEventRequest c.seq) s fun t =>
      t.answered s c 0x0105 0 = true ∧ t.hq.waiting = s.hq.waiting) ∧
  (∀ (s : State) (c : Ctx), s.alone c ∧ c.admin = true ∧ c.opc = 0x18 →
    Runs (.cmdKeepAlive c.seq) s fun t =>
      t.hq.katoAt = s.ticks ∧ t.answered s c stOk 0 = true) ∧
  (∀ (s : State) (c : Ctx) (x : Option LoadIn) (k : Instr) (st : Nat), mounted s = false ∧ s.xlt.jr.units = [] ∧ s.hq.shut = 0 ∧ s.boot.warm = false ∧ lgRuns s = false ∧ cfs s = false ∧ s.hq.ctx = [c] ∧ c.phase = .accepted ∧ entryFault s c = some st ∧ (cmdKey c, k) ∈ cmdRows c.seq x →
    Runs (k) s fun t =>
      t.answered s c st 0 = true) ∧
  (∀ (s : State) (q : Nat) (x : Option LoadIn) (k : Instr), s.wf = true ∧ (k ∈ (cmdRows q x).map Prod.snd ∧ (s.ctx q).all (fun c => (c.phase != .accepted && c.phase != .running) || heldUp s || !(cmdRows q x).contains (cmdKey c, k)) = true) →
    Runs (k) s fun t =>
      t = s)

/-- R355, R361 to R365, R449, R450 on a controller that holds no other command. A Get Log Page is stated with the state
its page leaves (`x`: a challenge drawn, a free value used). -/
def Obligations.AdminDataCommands : Prop :=
  (∀ (s : State) (c d : Ctx) (b : List Nat), s.alone c ∧ c.admin = true ∧ c.opc = 0x06 ∧ s.readyAs c d ∧ mayIssue s = true ∧ (identify (s.taken c) d).toOption = some b →
    Runs (.cmdIdentify c.seq) s fun t =>
      t.answered s c stOk 0 = true ∧ t.dataSent s = b) ∧
  (∀ (s : State) (c d : Ctx) (st : Nat), s.alone c ∧ c.admin = true ∧ c.opc = 0x06 ∧ s.readyAs c d ∧ errorOf (identify (s.taken c) d) = some st →
    Runs (.cmdIdentify c.seq) s fun t =>
      t.answered s c st 0 = true ∧ t.dataSent s = []) ∧
  (∀ (s : State) (c d : Ctx) (b : List Nat) (x : State), s.alone c ∧ c.admin = true ∧ c.opc = 0x02 ∧ s.readyAs c d ∧ mayIssue s = true ∧ (logPage (s.taken c) d).toOption = some (b, x) →
    Runs (.cmdGetLogPage c.seq) s fun t =>
      t.answered s c stOk 0 = true ∧ t.dataSent s = b ∧ t.hq.masked = (if c.f 10 15 1 = 0 then s.hq.masked.filter (fun k => !(pageRows (c.f 10 0 8)).contains (k / 256)) else s.hq.masked)) ∧
  (∀ (s : State) (c d : Ctx) (st : Nat), s.alone c ∧ c.admin = true ∧ c.opc = 0x02 ∧ s.readyAs c d ∧ errorOf (logPage (s.taken c) d) = some st →
    Runs (.cmdGetLogPage c.seq) s fun t =>
      t.answered s c st 0 = true ∧ t.dataSent s = [] ∧ t.hq.masked = s.hq.masked) ∧
  (∀ (s : State) (c d : Ctx), s.alone c ∧ c.admin = true ∧ c.opc = 0xC2 ∧ s.readyAs c d ∧ mayIssue s = true ∧ (c.dw 10).toNat = 1023 →
    Runs (.cmdAttestationReport c.seq) s fun t =>
      t.answered s c stOk 0 = true ∧ t.dataSent s = attestReport (s.taken c) ((List.range 4).flatMap (fun i => bytesLE 4 (c.dw (12 + i)).toNat))) ∧
  (∀ (s : State) (c d : Ctx), s.alone c ∧ c.admin = true ∧ c.opc = 0xC2 ∧ s.readyAs c d ∧ (c.dw 10).toNat ≠ 1023 →
    Runs (.cmdAttestationReport c.seq) s fun t =>
      t.answered s c stField 0 = true ∧ t.dataSent s = []) ∧
  (∀ (s : State) (c d : Ctx), s.alone c ∧ c.admin = true ∧ c.opc = 0x11 ∧ s.readyAs c d ∧ 4 * (c.dw 11).toNat % 4096 = 0 ∧ dataBytes c % 4096 = 0 ∧ 4 * (c.dw 11).toNat + dataBytes c ≤ 0x300000 ∧ d.step = 0 →
    Runs (.cmdFirmwareImageDownload c.seq) s fun t =>
      (t.ctx c.seq).map (fun x => (x.phase, x.step)) = some (.running, 1) ∧ awaits t (.data c.seq) = true) ∧
  (∀ (s : State) (c d : Ctx), s.alone c ∧ c.admin = true ∧ c.opc = 0x11 ∧ s.readyAs c d ∧ (4 * (c.dw 11).toNat % 4096 ≠ 0 ∨ dataBytes c % 4096 ≠ 0 ∨ 0x300000 < 4 * (c.dw 11).toNat + dataBytes c) →
    Runs (.cmdFirmwareImageDownload c.seq) s fun t =>
      t.answered s c stField 0 = true ∧ t.flash = s.flash) ∧
  (∀ (s : State) (c : Ctx), mounted s = false ∧ s.xlt.jr.units = [] ∧ s.hq.shut = 0 ∧ s.boot.warm = false ∧ lgRuns s = false ∧ cfs s = false ∧ s.hq.ctx = [c] ∧ c.phase = .running ∧ prpReady c = true ∧ c.admin = true ∧ c.opc = 0x11 ∧ c.step = 1 ∧ awaits s (.data c.seq) = false ∧ 4 * (c.dw 11).toNat % 4096 = 0 ∧ dataBytes c % 4096 = 0 ∧ 4 * (c.dw 11).toNat + dataBytes c ≤ 0x300000 →
    Runs (.cmdFirmwareImageDownload c.seq) s fun t =>
      t.hq.download = true ∧ (flcOutstanding t 0 (· == fwTag c.seq) = true → (t.ctx c.seq).map (fun x => (x.phase, x.step)) = some (.running, 2)) ∧ (flcOutstanding t 0 (· == fwTag c.seq) = false → t.answered s c stOk 0 = true)) ∧
  (∀ (s : State) (c : Ctx), mounted s = false ∧ s.xlt.jr.units = [] ∧ s.hq.shut = 0 ∧ s.boot.warm = false ∧ lgRuns s = false ∧ cfs s = false ∧ s.hq.ctx = [c] ∧ c.phase = .running ∧ prpReady c = true ∧ c.admin = true ∧ c.opc = 0x11 ∧ c.step = 2 ∧ flcOutstanding s 0 (· == fwTag c.seq) = false ∧ 4 * (c.dw 11).toNat % 4096 = 0 ∧ dataBytes c % 4096 = 0 ∧ 4 * (c.dw 11).toNat + dataBytes c ≤ 0x300000 →
    Runs (.cmdFirmwareImageDownload c.seq) s fun t =>
      t.answered s c stOk 0 = true) ∧
  (∀ (s : State) (c : Ctx), s.alone c ∧ c.admin = true ∧ c.opc = 0x10 ∧ c.step = 0 ∧ 3 ≤ c.f 10 3 3 →
    Runs (.cmdFirmwareCommit c.seq) s fun t =>
      t.answered s c stField 0 = true ∧ t.flash = s.flash) ∧
  (∀ (s : State) (c : Ctx) (k : Nat), s.alone c ∧ c.admin = true ∧ c.opc = 0x10 ∧ c.step = 0 ∧ c.f 10 3 3 ≤ 2 ∧ k = (if c.f 10 0 3 = 0 then 1 - runningSlot s else c.f 10 0 3 - 1) ∧ (2 < c.f 10 0 3 ∨ k = runningSlot s ∧ c.f 10 3 3 < 2 ∨ (s.bank k).failed = true) →
    Runs (.cmdFirmwareCommit c.seq) s fun t =>
      t.answered s c 0x4106 0 = true ∧ t.flash = s.flash) ∧
  (∀ (s : State) (c : Ctx) (k : Nat), s.alone c ∧ c.admin = true ∧ c.opc = 0x10 ∧ c.step = 0 ∧ k = (if c.f 10 0 3 = 0 then 1 - runningSlot s else c.f 10 0 3 - 1) ∧ c.f 10 0 3 ≤ 2 ∧ (k = runningSlot s → 2 ≤ c.f 10 3 3) ∧ (s.bank k).failed = false ∧ c.f 10 3 3 = 2 ∧ committed s k = false →
    Runs (.cmdFirmwareCommit c.seq) s fun t =>
      t.answered s c 0x4107 0 = true ∧ t.flash = s.flash) ∧
  (∀ (s : State) (c : Ctx) (k : Nat), s.alone c ∧ c.admin = true ∧ c.opc = 0x10 ∧ c.step = 0 ∧ k = (if c.f 10 0 3 = 0 then 1 - runningSlot s else c.f 10 0 3 - 1) ∧ c.f 10 0 3 ≤ 2 ∧ (k = runningSlot s → 2 ≤ c.f 10 3 3) ∧ (s.bank k).failed = false ∧ c.f 10 3 3 = 2 ∧ committed s k = true →
    Runs (.cmdFirmwareCommit c.seq) s fun t =>
      (flcOutstanding t 0 (· == fwTag c.seq) = true → (t.ctx c.seq).map (fun x => (x.phase, x.step)) = some (.running, 2)) ∧ (flcOutstanding t 0 (· == fwTag c.seq) = false → t.answered s c 0x010B 0 = true)) ∧
  (∀ (s : State) (c : Ctx) (k : Nat), s.alone c ∧ c.admin = true ∧ c.opc = 0x10 ∧ c.step = 0 ∧ k = (if c.f 10 0 3 = 0 then 1 - runningSlot s else c.f 10 0 3 - 1) ∧ c.f 10 0 3 ≤ 2 ∧ (k = runningSlot s → 2 ≤ c.f 10 3 3) ∧ (s.bank k).failed = false ∧ c.f 10 3 3 < 2 →
    Runs (.cmdFirmwareCommit c.seq) s fun t =>
      (imageStep s k ≠ 0 → t.answered s c 0x4107 0 = true ∧ t.flash = s.flash) ∧ (imageStep s k = 0 → t.hq.download = false ∧ (flcOutstanding t 0 (· == fwTag c.seq) = true → (t.ctx c.seq).map (fun x => (x.phase, x.step)) = some (.running, if c.f 10 3 3 = 0 then 1 else 2)) ∧ (flcOutstanding t 0 (· == fwTag c.seq) = false → t.answered s c (if c.f 10 3 3 = 0 then stOk else 0x010B) 0 = true))) ∧
  (∀ (s : State) (c : Ctx), mounted s = false ∧ s.xlt.jr.units = [] ∧ s.hq.shut = 0 ∧ s.boot.warm = false ∧ lgRuns s = false ∧ cfs s = false ∧ s.hq.ctx = [c] ∧ c.phase = .running ∧ prpReady c = true ∧ c.admin = true ∧ c.opc = 0x10 ∧ c.step ≠ 0 ∧ flcOutstanding s 0 (· == fwTag c.seq) = false →
    Runs (.cmdFirmwareCommit c.seq) s fun t =>
      t.answered s c (if c.step = 1 then stOk else 0x010B) 0 = true) ∧
  (∀ (s : State) (c d : Ctx), s.alone c ∧ c.admin = true ∧ c.opc = 0xC3 ∧ s.readyAs c d ∧ (c.dw 10).toNat ≠ 2047 →
    Runs (.cmdRecorderClear c.seq) s fun t =>
      t.answered s c stField 0 = true) ∧
  (∀ (s : State) (c d : Ctx), s.alone c ∧ c.admin = true ∧ c.opc = 0xC3 ∧ s.readyAs c d ∧ (c.dw 10).toNat = 2047 ∧ d.step = 0 →
    Runs (.cmdRecorderClear c.seq) s fun t =>
      (t.ctx c.seq).map (fun x => (x.phase, x.step)) = some (.running, 1) ∧ awaits t (.data c.seq) = true) ∧
  (∀ (s : State) (c : Ctx) (n : Nat), mounted s = false ∧ s.xlt.jr.units = [] ∧ s.hq.shut = 0 ∧ s.boot.warm = false ∧ lgRuns s = false ∧ cfs s = false ∧ s.hq.ctx = [c] ∧ c.phase = .running ∧ prpReady c = true ∧ c.admin = true ∧ c.opc = 0xC3 ∧ (c.dw 10).toNat = 2047 ∧ c.step = 1 ∧ awaits s (.data c.seq) = false ∧ n = clearStep s (bufBytes c.buf 8192) →
    Runs (.cmdRecorderClear c.seq) s fun t =>
      (n ≠ 0 → t.answered s c stToken (match n with | 1 => 1 | 2 => 3 | 3 => 4 | _ => 2) = true ∧ s.reports pgSEC 0x1D02 t) ∧ (n = 0 → clearWritten t = false → (t.ctx c.seq).map (fun x => (x.phase, x.step)) = some (.running, 2)) ∧ (n = 0 → clearWritten t = true → t.answered s c stOk 0 = true)) ∧
  (∀ (s : State) (c : Ctx), mounted s = false ∧ s.xlt.jr.units = [] ∧ s.hq.shut = 0 ∧ s.boot.warm = false ∧ lgRuns s = false ∧ cfs s = false ∧ s.hq.ctx = [c] ∧ c.phase = .running ∧ prpReady c = true ∧ c.admin = true ∧ c.opc = 0xC3 ∧ (c.dw 10).toNat = 2047 ∧ c.step = 2 ∧ clearWritten s = true →
    Runs (.cmdRecorderClear c.seq) s fun t =>
      t.answered s c stOk 0 = true) ∧
  (∀ (s : State) (c : Ctx), s.alone c ∧ c.admin = true ∧ c.opc = 0xC1 ∧ c.f 10 0 4 = 1 ∧ 1500 ≤ c.f 11 0 14 ∧ c.f 11 0 14 ≤ 10000 →
    Runs (.cmdDiscSpin c.seq) s fun t =>
      t.hq.spinCap = c.f 11 0 14 ∧ t.answered s c stOk 0 = true) ∧
  (∀ (s : State) (c : Ctx), s.alone c ∧ c.admin = true ∧ c.opc = 0xC1 ∧ c.f 10 0 4 = 1 ∧ c.f 11 0 14 ≠ 0 ∧ (c.f 11 0 14 < 1500 ∨ 10000 < c.f 11 0 14) →
    Runs (.cmdDiscSpin c.seq) s fun t =>
      t.answered s c stField 0 = true ∧ t.hq.spinCap = s.hq.spinCap) ∧
  (∀ (s : State) (c : Ctx) (new : Word), s.alone c ∧ c.admin = true ∧ c.opc = 0xC1 ∧ c.f 10 0 4 = 1 ∧ c.f 11 0 14 = 0 ∧ spnState s = 5 ∧ ovState s ≠ 2 ∧ ovState s ≠ 3 ∧ Takes s .sup Reg.SPN_MODE 2#32 new →
    Runs (.cmdDiscSpin c.seq) s fun t =>
      spnState t = 6 ∧ t.hq.spinCap = s.hq.spinCap ∧ t.hq.spinOff = true ∧ t.answered s c stOk 0 = true) ∧
  (∀ (s : State) (c : Ctx), s.alone c ∧ c.admin = true ∧ c.opc = 0xC1 ∧ c.f 10 0 4 = 2 →
    Runs (.cmdDiscUnload c.seq) s fun t =>
      t.answered s c stNotReady 0 = true) ∧
  (∀ (s : State) (c : Ctx), s.alone c ∧ c.admin = true ∧ c.opc = 0xC1 ∧ c.f 10 0 4 = 3 →
    Runs (.cmdDiscPrepareFlip c.seq) s fun t =>
      t.answered s c stNotReady 0 = true) ∧
  (∀ (s : State) (c : Ctx), s.alone c ∧ c.admin = true ∧ c.opc = 0xC4 ∧ c.f 10 0 2 ≠ 3 →
    Runs (.cmdMediaVerify c.seq) s fun t =>
      t.answered s c stNotReady 0 = true ∧ t.hq.verify = s.hq.verify) ∧
  (∀ (s : State) (c : Ctx) (st : Nat), s.aloneMounted c ∧ c.admin = true ∧ c.opc = 0xC4 ∧ c.f 10 0 2 ≠ 3 ∧ (s.hq.verify.st = 1 ∧ st = stVerifyRuns ∨ s.hq.verify.st ≠ 1 ∧ errorOf (verifyRange s c) = some st) →
    Runs (.cmdMediaVerify c.seq) s fun t =>
      t.answered s c st 0 = true ∧ t.hq.verify = s.hq.verify) ∧
  (∀ (s : State) (c : Ctx) (l : List Nat), s.aloneMounted c ∧ c.admin = true ∧ c.opc = 0xC4 ∧ c.f 10 0 2 ≠ 3 ∧ s.hq.verify.st ≠ 1 ∧ (verifyRange s c).toOption = some l →
    Runs (.cmdMediaVerify c.seq) s fun t =>
      t.hq.verify = ⟨s.hq.verify.id % 65535 + 1, 1, l, l.length, 0, 0⟩ ∧ t.answered s c stOk (s.hq.verify.id % 65535 + 1) = true) ∧
  (∀ (s : State) (c : Ctx), s.alone c ∧ c.admin = true ∧ c.opc = 0xC4 ∧ c.f 10 0 2 = 3 →
    Runs (.cmdMediaVerifyStop c.seq) s fun t =>
      t.hq.verify = (if s.hq.verify.st = 1 then { s.hq.verify with st := 3, todo := [] } else s.hq.verify) ∧ t.answered s c stOk s.hq.verify.id = true) ∧
  (∀ (s : State) (c : Ctx) (x : LoadIn), s.alone c ∧ c.admin = true ∧ c.opc = 0xC1 ∧ c.f 10 0 4 = 0 ∧ (x.result = 4 ∨ findDi x.words = .nothing) →
    Runs (.cmdDiscLoad c.seq (some x)) s fun t =>
      t.answered s c (if x.result = 4 then stNotReady else if x.result = 3 then stFocus else stDiscRefused) (if x.result = 4 then 4 else if x.result = 3 then 3 else 2) = true ∧ mounted t = false) ∧
  (∀ (s : State) (c : Ctx) (x : LoadIn) (b : List Nat), s.alone c ∧ c.admin = true ∧ c.opc = 0xC1 ∧ c.f 10 0 4 = 0 ∧ x.result ≠ 4 ∧ (findDi x.words = .refused b ∨ x.result = 3 ∧ findDi x.words = .accepted b) →
    Runs (.cmdDiscLoad c.seq (some x)) s fun t =>
      t.answered s c (if findDi x.words = .refused b then stDiscRefused else stFocus) (if findDi x.words = .refused b then (1 + diMtype b % 256 * 256 + diSide b % 2 * 65536) else (3 + diMtype b % 256 * 256 + diSide b % 2 * 65536)) = true ∧ mounted t = false) ∧
  (∀ (s : State) (c : Ctx), s.alone c ∧ c.admin = true ∧ c.opc = 0xC1 ∧ c.f 10 0 4 = 0 →
    Runs (.cmdDiscLoad c.seq none) s fun t =>
      (t.ctx c.seq).map (·.phase) = some .running ∧ mounted t = false) ∧
  (∀ (s : State) (c : Ctx) (x : Option LoadIn), s.aloneMounted c ∧ c.admin = true ∧ c.opc = 0xC1 ∧ c.f 10 0 4 = 0 →
    Runs (.cmdDiscLoad c.seq x) s fun t =>
      t.answered s c stDiscPresent 0 = true ∧ mounted t = true)

/-- R340, R341, R352 to R354, R357, R364; the keep-alive timer starts again when it has expired (log 62). -/
def Obligations.HostTimersAndPowerStates : Prop :=
  (∀ (s : State) (q : Sq) (l : List Nat), mayFetch s = true ∧ arbitrate s = (some q, l) ∧ q.id ≤ 64 ∧ 0 < q.size ∧ q.size ≤ 4096 ∧ fieldOf (feature s 1) 0 3 = 0 →
    Runs (.sqFetch) s fun t =>
      t.hq.last = q.id ∧ t.hq.grants = s.hq.grants ++ [⟨s.hq.grantNext, q.id, s.fld (Reg.HQ_SQPTR q.id) 0 12, min (min (sqWaiting s q) (ctxRoom s (q.id == 0))) 1, []⟩] ∧ t.fld (Reg.HQ_SQPTR q.id) 0 12 = (s.fld (Reg.HQ_SQPTR q.id) 0 12 + min (min (sqWaiting s q) (ctxRoom s (q.id == 0))) 1) % q.size) ∧
  (∀ (s : State), s.wf = true ∧ (mayFetch s = false ∨ (arbitrate s).1 = none) →
    Runs (.sqFetch) s fun t =>
      t = s) ∧
  (∀ (s : State) (g : Grant), s.quiet ∧ s.hq.grants = [g] ∧ g.n = 1 ∧ s.pcie.reads = [] ∧ cfs s = false ∧ (s.sq g.sqid).isSome = true ∧ s.bit Reg.HQ_PS 8 = false ∧ operational (s.fld Reg.HQ_PS 0 3) = true ∧ unknownEntry (freshCtx (seqNext s) g.sqid 0 ((List.range 16).map (fun k => Word.ofNat (leNat (((bufBytes g.got 64).drop (4 * k)).take 4))))) = none →
    Runs (.sqEntriesArrive g.id) s fun t =>
      (t.ctx (seqNext s)).map (fun c => (c.sqid, c.phase)) = some (g.sqid, .accepted) ∧ seqNext t = (seqNext s + 1) % 2 ^ 48 ∧ t.hq.grants = [] ∧ t.fld Reg.HQ_ACC 0 32 = (s.fld Reg.HQ_ACC 0 32 + 1) % 2 ^ 32) ∧
  (∀ (s : State) (k : Nat), s.wf = true ∧ (s.hq.grants.head?.all (fun g => g.id != k || awaits s (.sqe k) || cfs s) = true) →
    Runs (.sqEntriesArrive k) s fun t =>
      t = s) ∧
  (∀ (s : State), s.quiet ∧ feature s 15 ≠ 0#32 ∧ ready s = true ∧ s.hq.katoAt + 1600 * (feature s 15).toNat ≤ s.ticks ∧ s.hq.masked = [] ∧ s.hq.waiting = [] →
    Runs (.katoExpiry) s fun t =>
      t.irq pgHQ 4 ∧ t.hq.waiting = [256 * 7] ∧ t.bit Reg.HQ_AE 7 = true ∧ s.reports pgHQ 0x1505 t ∧ t.hq.katoAt = s.ticks) ∧
  (∀ (s : State), s.wf = true ∧ (feature s 15 = 0#32 ∨ ready s = false ∨ s.ticks < s.hq.katoAt + 1600 * (feature s 15).toNat) →
    Runs (.katoExpiry) s fun t =>
      t = s) ∧
  (∀ (s : State), s.hq.ctx = [] ∧ s.hq.masked = [] ∧ s.hq.waiting = [] ∧ s.hq.verify.st = 1 ∧ s.hq.verify.todo = [] →
    Runs (.mediaVerifyDone) s fun t =>
      t.hq.verify.st = 2 ∧ t.hq.verify.strips = s.hq.verify.strips ∧ t.hq.waiting = [256 * 6] ∧ t.bit Reg.HQ_AE 6 = true) ∧
  (∀ (s : State), s.wf = true ∧ s.hq.verify.st ≠ 1 →
    Runs (.mediaVerifyDone) s fun t =>
      t = s) ∧
  (∀ (s : State), s.bit Reg.HQ_PS 8 = true ∧ s.hq.wanted = false ∧ 2 ≤ s.fld Reg.HQ_PS 4 3 ∧ s.fld Reg.HQ_PS 9 3 + 1 < psSteps (s.fld Reg.HQ_PS 4 3) →
    Runs (.powerStateSafePoint) s fun t =>
      t.fld Reg.HQ_PS 9 3 = s.fld Reg.HQ_PS 9 3 + 1 ∧ t.bit Reg.HQ_PS 8 = true) ∧
  (∀ (s : State), s.bit Reg.HQ_PS 8 = true ∧ s.hq.wanted = false ∧ 2 ≤ s.fld Reg.HQ_PS 4 3 ∧ psSteps (s.fld Reg.HQ_PS 4 3) = s.fld Reg.HQ_PS 9 3 + 1 →
    Runs (.powerStateSafePoint) s fun t =>
      t.fld Reg.HQ_PS 0 3 = s.fld Reg.HQ_PS 4 3 ∧ t.bit Reg.HQ_PS 8 = false ∧ t.irq pgHQ 3) ∧
  (∀ (s : State), s.bit Reg.HQ_PS 8 = true ∧ s.hq.wanted = true ∧ s.hq.oper ≤ 1 →
    Runs (.powerStateSafePoint) s fun t =>
      t.fld Reg.HQ_PS 0 3 = s.hq.oper ∧ t.bit Reg.HQ_PS 8 = false ∧ t.hq.wanted = false ∧ t.irq pgHQ 3) ∧
  (∀ (s : State), s.wf = true ∧ s.bit Reg.HQ_PS 8 = false →
    Runs (.powerStateSafePoint) s fun t =>
      t = s) ∧
  (∀ (s : State) (p : Nat), fieldOf (feature s 12) 0 1 = 1 ∧ s.bit Reg.HQ_PS 8 = false ∧ idle s = true ∧ s.hq.idleAt + 1600 * (leNat ((s.hq.apst.drop (8 * s.fld Reg.HQ_PS 0 3)).take 8) / 256 % 2 ^ 24) ≤ s.ticks ∧ leNat ((s.hq.apst.drop (8 * s.fld Reg.HQ_PS 0 3)).take 8) / 256 % 2 ^ 24 ≠ 0 ∧ p = leNat ((s.hq.apst.drop (8 * s.fld Reg.HQ_PS 0 3)).take 8) / 8 % 32 ∧ p ≤ 4 ∧ p ≠ s.fld Reg.HQ_PS 0 3 →
    Runs (.apstTransition) s fun t =>
      t.fld Reg.HQ_PS 4 3 = p ∧ (if p ≤ 1 then t.fld Reg.HQ_PS 0 3 = p else t.bit Reg.HQ_PS 8 = true ∧ t.fld Reg.HQ_PS 0 3 = s.fld Reg.HQ_PS 0 3)) ∧
  (∀ (s : State), s.wf = true ∧ (fieldOf (feature s 12) 0 1 = 0 ∨ s.bit Reg.HQ_PS 8 = true ∨ leNat ((s.hq.apst.drop (8 * s.fld Reg.HQ_PS 0 3)).take 8) / 256 % 2 ^ 24 = 0 ∨ idle s = false ∨ s.ticks < s.hq.idleAt + 1600 * (leNat ((s.hq.apst.drop (8 * s.fld Reg.HQ_PS 0 3)).take 8) / 256 % 2 ^ 24) ∨ 4 < leNat ((s.hq.apst.drop (8 * s.fld Reg.HQ_PS 0 3)).take 8) / 8 % 32) →
    Runs (.apstTransition) s fun t =>
      t = s)

/-- R410 with the access tables of R432; the memory behind is that of R415 to R421 without errors. -/
def Obligations.CoresReachMemory : Prop :=
  (∀ (s : State) (h a n : Nat), s.uncached h a n ∧ s.soundMemory ∧ coreHas h .load n = true ∧ sramGrants s (hartMaster h) a .read = true →
    Runs (.coreMemoryAccess h .load a n 0) s fun t =>
      t.resp = ⟨s.load a n, false⟩ ∧ ∀ b, t.byte b = s.byte b) ∧
  (∀ (s : State) (h a n v : Nat), s.uncached h a n ∧ s.soundMemory ∧ coreHas h (.store v) n = true ∧ sramGrants s (hartMaster h) a .write = true →
    Runs (.coreMemoryAccess h (.store v) a n 0) s fun t =>
      t.load a n = v % 256 ^ n ∧ (∀ b, b < a ∨ a + n ≤ b → t.byte b = s.byte b) ∧ t.resp = ⟨0, false⟩) ∧
  (∀ (s : State) (h a n : Nat), s.uncached h a n ∧ h < s.harts.length ∧ s.soundMemory ∧ coreHas h .lr n = true ∧ sramGrants s (hartMaster h) a .read = true →
    Runs (.coreMemoryAccess h .lr a n 0) s fun t =>
      t.resp = ⟨s.load a n, false⟩ ∧ (t.hart h).reservation = some (a / 64) ∧ ∀ b, t.byte b = s.byte b) ∧
  (∀ (s : State) (h a n v : Nat), s.uncached h a n ∧ s.soundMemory ∧ (s.hart h).reservation = some (a / 64) ∧ coreHas h (.sc v) n = true ∧ sramGrants s (hartMaster h) a .write = true →
    Runs (.coreMemoryAccess h (.sc v) a n 0) s fun t =>
      t.load a n = v % 256 ^ n ∧ (∀ b, b < a ∨ a + n ≤ b → t.byte b = s.byte b) ∧ t.resp = ⟨0, false⟩ ∧ (t.hart h).reservation = none) ∧
  (∀ (s : State) (h a n v : Nat), s.uncached h a n ∧ (s.hart h).reservation ≠ some (a / 64) ∧ coreHas h (.sc v) n = true →
    Runs (.coreMemoryAccess h (.sc v) a n 0) s fun t =>
      t.resp = ⟨1, false⟩ ∧ (t.hart h).reservation = none ∧ ∀ b, t.byte b = s.byte b) ∧
  (∀ (s : State) (h a n op v : Nat), s.uncached h a n ∧ s.soundMemory ∧ coreHas h (.amo op v) n = true ∧ sramGrants s (hartMaster h) a .read = true ∧ sramGrants s (hartMaster h) a .write = true →
    Runs (.coreMemoryAccess h (.amo op v) a n 0) s fun t =>
      t.resp = ⟨s.load a n, false⟩ ∧ t.load a n = amoResult op n (s.load a n) v % 256 ^ n ∧ (∀ b, b < a ∨ a + n ≤ b → t.byte b = s.byte b)) ∧
  (∀ (s : State) (h a n : Nat) (l : L2Line), h < 5 ∧ inSram a = true ∧ a % 8 + n ≤ 8 ∧ l2On s = true ∧ s.ms.drain = false ∧ l1dOn s h = false ∧ coreHas h .load n = true ∧ sramGrants s (hartMaster h) a .read = true ∧ l2Find s (a / 64) = some l ∧ l.bad = [] →
    Runs (.coreMemoryAccess h .load a n 0) s fun t =>
      t.resp = ⟨leNat (((lineBytes l.data).drop (a % 64)).take n), false⟩ ∧ t.fld Reg.L2C_HIT 0 32 = (s.fld Reg.L2C_HIT 0 32 + 1) % 2 ^ 32) ∧
  (∀ (s : State) (h a n : Nat) (k : CoreAccess), h < 5 ∧ coreHas h k n = true ∧ k ≠ .fetch ∧ 8 < a % 8 + n →
    Runs (.coreMemoryAccess h k a n 0) s fun t =>
      (t.hart h).trap = (if h < s.harts.length then some (if k = .load ∨ k = .lr then 4 else 6, a) else none) ∧ ∀ b, t.byte b = s.byte b) ∧
  (∀ (s : State) (h a n : Nat) (k : CoreAccess), h < s.harts.length ∧ h < 5 ∧ coreHas h k n = false →
    Runs (.coreMemoryAccess h k a n 0) s fun t =>
      (t.hart h).trap = some (2, 0) ∧ ∀ b, t.byte b = s.byte b) ∧
  (∀ (s : State) (h a n : Nat) (k : CoreAccess), h < s.harts.length ∧ h < 5 ∧ coreHas h k n = true ∧ crossesBlock k a n = false ∧ mapped a = false →
    Runs (.coreMemoryAccess h k a n 0) s fun t =>
      (t.hart h).trap = some (faultCause k, a) ∧ t.resp = ⟨0, true⟩ ∧ s.reports 0 0x2102 t ∧ ∀ b, t.byte b = s.byte b) ∧
  (∀ (s : State) (h a n v : Nat), s.uncached h a n ∧ coreHas h (.store v) n = true ∧ sramGrants s (hartMaster h) a .write = false →
    Runs (.coreMemoryAccess h (.store v) a n 0) s fun t =>
      t.irq 0x1E 0 ∧ t.resp = ⟨0, false⟩ ∧ ∀ b, t.byte b = s.byte b) ∧
  (∀ (s : State) (h a n : Nat), h < 4 ∧ coreHas h .fetch n = true ∧ inSram a = true ∧ inSram (a + n - 1) = true ∧ l2On s = false ∧ s.ms.drain = false ∧ l1iOn s h = false ∧ s.soundMemory ∧ sramGrants s (hartMaster h) a .exec = true →
    Runs (.coreMemoryAccess h .fetch a n 0) s fun t =>
      t.resp = ⟨s.load a n, false⟩ ∧ ∀ b, t.byte b = s.byte b) ∧
  (∀ (s : State) (h a n : Nat), h < s.harts.length ∧ h < 5 ∧ coreHas h .fetch n = true ∧ inSram a = true ∧ s.ms.drain = false ∧ sramGrants s (hartMaster h) a .exec = false →
    Runs (.coreMemoryAccess h .fetch a n 0) s fun t =>
      (t.hart h).trap = some (1, a) ∧ t.resp = ⟨0, true⟩ ∧ t.irq 0x1E 0 ∧ s.reports 0x1E 0x1A02 t ∧ ∀ b, t.byte b = s.byte b) ∧
  (∀ (s : State) (h a n : Nat) (k : CoreAccess), h < s.harts.length ∧ h < 5 ∧ coreHas h k n = true ∧ crossesBlock k a n = false ∧ inSram a = true ∧ s.ms.drain = false ∧ (k = .load ∨ k = .lr) ∧ sramGrants s (hartMaster h) a .read = false →
    Runs (.coreMemoryAccess h k a n 0) s fun t =>
      t.resp = ⟨0, false⟩ ∧ (t.hart h).reservation = (s.hart h).reservation ∧ t.irq 0x1E 0 ∧ s.reports 0x1E 0x1A02 t ∧ ∀ b, t.byte b = s.byte b) ∧
  (∀ (s : State) (h a n v : Nat), h < s.harts.length ∧ h < 5 ∧ coreHas h (.sc v) n = true ∧ a % 8 + n ≤ 8 ∧ inSram a = true ∧ s.ms.drain = false ∧ (s.hart h).reservation = some (a / 64) ∧ sramGrants s (hartMaster h) a .write = false →
    Runs (.coreMemoryAccess h (.sc v) a n 0) s fun t =>
      t.resp = ⟨0, false⟩ ∧ (t.hart h).reservation = none ∧ t.irq 0x1E 0 ∧ s.reports 0x1E 0x1A02 t ∧ ∀ b, t.byte b = s.byte b) ∧
  (∀ (s : State) (h a n op v : Nat), h < s.harts.length ∧ h < 5 ∧ coreHas h (.amo op v) n = true ∧ a % 8 + n ≤ 8 ∧ inSram a = true ∧ s.ms.drain = false ∧ (sramGrants s (hartMaster h) a .read = false ∨ sramGrants s (hartMaster h) a .write = false) →
    Runs (.coreMemoryAccess h (.amo op v) a n 0) s fun t =>
      t.resp = ⟨0, false⟩ ∧ t.irq 0x1E 0 ∧ s.reports 0x1E 0x1A02 t ∧ ∀ b, t.byte b = s.byte b) ∧
  (∀ (s : State) (h a n : Nat) (k : CoreAccess), h < s.harts.length ∧ h < 5 ∧ s.uncached h a n ∧ coreHas h k n = true ∧ (k = .load ∨ k = .lr) ∧ sramGrants s (hartMaster h) a .read = true ∧ isUe s (a / 8 * 8) = true ∧ pageRepairs s (a / 8 * 8) = false ∧ (List.range 64).all (fun i => (mirrorOf s (a / 64 * 64 + i)).isNone) = true ∧ s.reg Reg.MEMC_MACFAIL = 0#32 →
    Runs (.coreMemoryAccess h k a n 0) s fun t =>
      (t.hart h).trap = some (5, a) ∧ t.resp = ⟨0, true⟩ ∧ (t.hart h).reservation = (s.hart h).reservation ∧ ∀ b, t.byte b = s.byte b) ∧
  (∀ (s : State) (h a n v : Nat) (l : L2Line), h < 5 ∧ inSram a = true ∧ a % 8 + n ≤ 8 ∧ l2On s = true ∧ s.ms.drain = false ∧ l1dOn s h = false ∧ coreHas h (.store v) n = true ∧ sramGrants s (hartMaster h) a .write = true ∧ l2Find s (a / 64) = some l ∧ l.bad = [] →
    Runs (.coreMemoryAccess h (.store v) a n 0) s fun t =>
      (l2Find t (a / 64)).map (fun x => (x.dirty, leNat (((lineBytes x.data).drop (a % 64)).take n))) = some (true, v % 256 ^ n) ∧ t.resp = ⟨0, false⟩ ∧ ∀ b, t.byte b = s.byte b) ∧
  (∀ (s : State) (h a n : Nat), h < 5 ∧ inSram a = true ∧ a % 8 + n ≤ 8 ∧ l2On s = true ∧ s.ms.drain = false ∧ l1dOn s h = false ∧ coreHas h .load n = true ∧ sramGrants s (hartMaster h) a .read = true ∧ l2Find s (a / 64) = none ∧ s.ms.l2 = [] ∧ s.soundMemory →
    Runs (.coreMemoryAccess h .load a n 0) s fun t =>
      t.resp = ⟨s.load a n, false⟩ ∧ (l2Find t (a / 64)).map (fun x => (x.dirty, x.bad, lineBytes x.data)) = some (false, [], (List.range 64).map (fun i => (s.byte (a / 64 * 64 + i)).toNat)) ∧ t.fld Reg.L2C_MISS 0 32 = (s.fld Reg.L2C_MISS 0 32 + 1) % 2 ^ 32 ∧ ∀ b, t.byte b = s.byte b) ∧
  (∀ (s : State) (h a n : Nat) (c : CacheLine), h < 4 ∧ inSram a = true ∧ a % 8 + n ≤ 8 ∧ s.ms.drain = false ∧ coreHas h .load n = true ∧ sramGrants s (hartMaster h) a .read = true ∧ l1Find s h false (a / 64) = some c →
    Runs (.coreMemoryAccess h .load a n 0) s fun t =>
      t.resp = ⟨leNat (((lineBytes c.data).drop (a % 64)).take n), false⟩ ∧ t.ms = s.ms) ∧
  (∀ (s : State) (h a n : Nat), h < s.harts.length ∧ h < 5 ∧ coreHas h .fetch n = true ∧ inRom a = true ∧ inRom (a + n - 1) = true ∧ s.ms.drain = false ∧ l2On s = false ∧ l1iOn s h = false →
    Runs (.coreMemoryAccess h .fetch a n 0) s fun t =>
      t.resp = ⟨leNat ((List.range (n / 2 * 2)).map (fun i => (Config.romByte (a + i)).toNat)), false⟩ ∧ ∀ b, t.byte b = s.byte b) ∧
  (∀ (s : State) (h a n : Nat), h < s.harts.length ∧ h < 5 ∧ coreHas h .load n = true ∧ a % 8 + n ≤ 8 ∧ inRom a = true ∧ s.ms.drain = false →
    Runs (.coreMemoryAccess h .load a n 0) s fun t =>
      t.resp = ⟨0, false⟩ ∧ t.harts = s.harts ∧ ∀ b, t.byte b = s.byte b) ∧
  (∀ (s : State) (h a n : Nat) (k : CoreAccess), h < s.harts.length ∧ h < 5 ∧ coreHas h k n = true ∧ crossesBlock k a n = false ∧ (inRom a = true ∨ inFlash a = true) ∧ s.ms.drain = false ∧ k ≠ .fetch ∧ k ≠ .load →
    Runs (.coreMemoryAccess h k a n 0) s fun t =>
      (t.hart h).trap = some ((if k = .lr then 7 else 7), a) ∧ t.resp = ⟨0, true⟩ ∧ t.reg (csr h 0x7C2) = Word.ofNat a ∧ t.reg (csr h 0x7C3) = 3#32 ∧ t.flash = s.flash ∧ ∀ b, t.byte b = s.byte b) ∧
  (∀ (s : State) (a n : Nat) (k : CoreAccess), 4 < s.harts.length ∧ coreHas 4 k n = true ∧ crossesBlock k a n = false ∧ inTcm a = true ∧ inTcm (a + n - 1) = true ∧ (k = .load ∨ k = .fetch) →
    Runs (.coreMemoryAccess 4 k a n 0) s fun t =>
      t.resp = ⟨s.load a n, false⟩ ∧ t.harts = s.harts ∧ ∀ b, t.byte b = s.byte b) ∧
  (∀ (s : State) (a n v : Nat), 4 < s.harts.length ∧ coreHas 4 (.store v) n = true ∧ a % 8 + n ≤ 8 ∧ inTcm a = true →
    Runs (.coreMemoryAccess 4 (.store v) a n 0) s fun t =>
      t.load a n = v % 256 ^ n ∧ t.resp = ⟨0, false⟩ ∧ (∀ b, b < a ∨ a + n ≤ b → t.byte b = s.byte b)) ∧
  (∀ (s : State) (h a n : Nat) (k : CoreAccess), h < s.harts.length ∧ h < 4 ∧ coreHas h k n = true ∧ crossesBlock k a n = false ∧ inTcm a = true →
    Runs (.coreMemoryAccess h k a n 0) s fun t =>
      (t.hart h).trap = some (faultCause k, a) ∧ t.resp = ⟨0, true⟩ ∧ t.reg (csr h 0x7C3) = 0#32 ∧ ∀ b, t.byte b = s.byte b) ∧
  (∀ (s : State) (h a n : Nat) (k : CoreAccess), h < s.harts.length ∧ h < 5 ∧ coreHas h k n = true ∧ crossesBlock k a n = false ∧ inFlash a = true ∧ s.ms.drain = false ∧ (k = .fetch ∨ k = .load) ∧ flashGrants s (hartMaster h) a (if k = .fetch then .exec else .read) = false →
    Runs (.coreMemoryAccess h k a n 0) s fun t =>
      t.resp = ⟨0, k == .fetch⟩ ∧ (k = .fetch → (t.hart h).trap = some (1, a)) ∧ t.flash = s.flash ∧ t.irq 0x1E 0 ∧ s.reports 0x1E 0x1A02 t ∧ ∀ b, t.byte b = s.byte b) ∧
  (∀ (s : State) (h a n : Nat) (k : CoreAccess), h < s.harts.length ∧ h < 5 ∧ coreHas h k n = true ∧ crossesBlock k a n = false ∧ inFlash a = true ∧ s.ms.drain = false ∧ (k = .fetch ∨ k = .load) ∧ flashGrants s (hartMaster h) a (if k = .fetch then .exec else .read) = true ∧ l1Find s h (k == .fetch) (a / 64) = none ∧ l2On s = false ∧ bankBusy s (bankOf (a - flashBase)) = true ∧ (s.bank (bankOf (a - flashBase))).failed = false →
    Runs (.coreMemoryAccess h k a n 0) s fun t =>
      t.flash.reads = s.flash.reads ++ [⟨hartMaster h, a, n, []⟩] ∧ t.resp = s.resp ∧ ∀ b, t.byte b = s.byte b) ∧
  (∀ (s : State) (h a n : Nat), h < s.harts.length ∧ h < 5 ∧ coreHas h .load n = true ∧ a % 8 + n ≤ 8 ∧ inFlash a = true ∧ s.ms.drain = false ∧ flashGrants s (hartMaster h) a .read = true ∧ l1dOn s h = false ∧ l2On s = false ∧ bankBusy s (bankOf (a - flashBase)) = false ∧ (s.bank (bankOf (a - flashBase))).failed = false ∧ (flashServe s (hartMaster h) (a / 64 * 64) 64 []).2.1 = false →
    Runs (.coreMemoryAccess h .load a n 0) s fun t =>
      t.resp = ⟨leNat ((((flashServe s (hartMaster h) (a / 64 * 64) 64 []).1).drop (a % 64)).take n), false⟩ ∧ ∀ b, t.byte b = s.byte b) ∧
  (∀ (s : State) (h a n : Nat), h < s.harts.length ∧ h < 5 ∧ coreHas h .load n = true ∧ a % 8 + n ≤ 8 ∧ 0x30000000 ≤ a ∧ inPages a = false ∧ mapped a = true →
    Runs (.coreMemoryAccess h .load a n 0) s fun t =>
      t.resp = ⟨shadowLoad s a n, false⟩ ∧ t.opt = s.opt ∧ ∀ b, t.byte b = s.byte b) ∧
  (∀ (s : State) (h a n v : Nat), h < s.harts.length ∧ h < 5 ∧ coreHas h (.store v) n = true ∧ a % 8 + n ≤ 8 ∧ 0x30000000 ≤ a ∧ inPages a = false ∧ mapped a = true →
    Runs (.coreMemoryAccess h (.store v) a n 0) s fun t =>
      t.resp = ⟨0, false⟩ ∧ t.opt = s.opt ∧ ∀ b, t.byte b = s.byte b) ∧
  (∀ (s : State) (h a n : Nat) (k : CoreAccess), h < s.harts.length ∧ h < 5 ∧ coreHas h k n = true ∧ crossesBlock k a n = false ∧ mapped a = true ∧ 0x20000000 ≤ a ∧ (k = .fetch ∨ isAtomic k = true) →
    Runs (.coreMemoryAccess h k a n 0) s fun t =>
      (t.hart h).trap = some ((if k = .fetch then 1 else 7), a) ∧ t.resp = ⟨0, true⟩ ∧ t.reg (csr h 0x7C3) = 0#32 ∧ t.leng = s.leng ∧ ∀ b, t.byte b = s.byte b) ∧
  (∀ (s : State) (h a n : Nat), h < s.harts.length ∧ h < 5 ∧ coreHas h .load n = true ∧ a % 4 + n ≤ 4 ∧ inPages a = true →
    Runs (.coreMemoryAccess h .load a n 0) s fun t =>
      t = (pageRead s (hartMaster h) a n).tidy) ∧
  (∀ (s : State) (h a v : Nat), h < s.harts.length ∧ h < 5 ∧ a % 4 = 0 ∧ inPages a = true →
    Runs (.coreMemoryAccess h (.store v) a 4 0) s fun t =>
      t = ({ pageWrite (hartMaster h) a 4 (Word.ofNat v) s with resp := ⟨0, false⟩ }).tidy) ∧
  (∀ (s : State) (h a n : Nat), h < s.harts.length ∧ h < 5 ∧ coreHas h .load n = true ∧ a % 8 + n ≤ 8 ∧ 0x20000000 ≤ a ∧ a < 0x30000000 ∧ mapped a = true →
    Runs (.coreMemoryAccess h .load a n 0) s fun t =>
      t = (thirdRead (hartMaster h) a n s).tidy) ∧
  (∀ (s : State) (h a n v : Nat), h < s.harts.length ∧ h < 5 ∧ coreHas h (.store v) n = true ∧ a % 8 + n ≤ 8 ∧ 0x20000000 ≤ a ∧ a < 0x30000000 ∧ mapped a = true →
    Runs (.coreMemoryAccess h (.store v) a n 0) s fun t =>
      t = ({ thirdWrite (hartMaster h) a n (Word.ofNat v) s with resp := ⟨0, false⟩ }).tidy)

/-- R411, R413, R417, R423, R427, R429. A line that is written back reaches SRAM where no error, mirror or injection is in
the way. -/
def Obligations.CachesAreMaintained : Prop :=
  (∀ (s : State) (h : Nat), Runs (.fenceI h) s fun t =>
      t.harts = s.harts.modify h (fun x => { x with l1i := [] }) ∧ ∀ b, t.byte b = s.byte b) ∧
  (∀ (s : State) (h : Nat) (v : Word), Runs (.lnl1opWrite h v) s fun t =>
      t.harts = s.harts.modify h (fun x => { x with l1i := if fieldOf v 0 1 = 1 then [] else x.l1i, l1d := if fieldOf v 1 1 = 1 then [] else x.l1d }) ∧ ∀ b, t.byte b = s.byte b) ∧
  (∀ (s : State) (h a : Nat) (l : L2Line), h < 4 ∧ l2Find s (a / 64) = some l ∧ l.dirty = true ∧ l.bad = [] ∧ s.soundMemory →
    Runs (.cboClean h a) s fun t =>
      (l2Find t (a / 64)).map (fun x => (x.dirty, x.data)) = some (false, l.data) ∧ ∀ i ∈ List.range 64, (t.byte (a / 64 * 64 + i)).toNat = (lineBytes l.data).getD i 0) ∧
  (∀ (s : State) (h a : Nat), h < 4 ∧ l2Find s (a / 64) = none →
    Runs (.cboClean h a) s fun t =>
      t.ms = s.ms ∧ ∀ b, t.byte b = s.byte b) ∧
  (∀ (s : State) (h a : Nat), h < 4 →
    Runs (.cboInval h a) s fun t =>
      l2Find t (a / 64) = none ∧ (t.hart h).l1d.all (fun c => c.line != a / 64) = true ∧ ∀ b, t.byte b = s.byte b) ∧
  (∀ (s : State) (h a : Nat) (l : L2Line), h < 4 ∧ l2Find s (a / 64) = some l ∧ l.dirty = true ∧ l.bad = [] ∧ s.soundMemory →
    Runs (.cboFlush h a) s fun t =>
      l2Find t (a / 64) = none ∧ ∀ i ∈ List.range 64, (t.byte (a / 64 * 64 + i)).toNat = (lineBytes l.data).getD i 0) ∧
  (∀ (s : State) (h a : Nat), h < 4 ∧ s.variant = .ln7740 ∧ inSram (a / 64 * 64) = true ∧ sramGrants s (hartMaster h) (a / 64 * 64) .write = true ∧ l2On s = true →
    Runs (.cboZero h a) s fun t =>
      (l2Find t (a / 64)).map (fun x => (x.data, x.dirty, x.bad)) = some (0#512, true, [])) ∧
  (∀ (s : State) (h a : Nat), h < 4 ∧ s.variant = .ln7740 ∧ inSram (a / 64 * 64) = true ∧ sramGrants s (hartMaster h) (a / 64 * 64) .write = true ∧ l2On s = false ∧ s.soundMemory →
    Runs (.cboZero h a) s fun t =>
      ∀ b, t.byte b = if a / 64 * 64 ≤ b ∧ b < a / 64 * 64 + 64 then 0#8 else s.byte b) ∧
  (∀ (s : State) (h a : Nat), h < s.harts.length ∧ (4 ≤ h ∨ s.variant = .ln7720) →
    Runs (.cboZero h a) s fun t =>
      (t.hart h).trap = some (2, 0) ∧ ∀ b, t.byte b = s.byte b) ∧
  (∀ (s : State) (h a : Nat), h < s.harts.length ∧ 4 ≤ h →
    Runs (.cboFlush h a) s fun t =>
      (t.hart h).trap = some (2, 0) ∧ ∀ b, t.byte b = s.byte b) ∧
  (∀ (s : State), s.ms.mopRun = true →
    Runs (.l2cMopDone) s fun t =>
      t.ms.mopRun = false ∧ t.bit Reg.L2C_MOP 31 = false ∧ t.bit (Reg.STAT pgL2C) 9 = false ∧ t.irq pgL2C 0) ∧
  (∀ (s : State) (m : Master) (v new : Word), Takes s m Reg.L2C_CTRL v new ∧ l2On s = true ∧ fieldOf new 0 1 = 0 ∧ s.ms.drain = false →
    Runs (.l2cDrain m v) s fun t =>
      t.ms.l2 = [] ∧ t.ms.drain = true ∧ t.bit Reg.L2C_CTRL 0 = true ∧ t.bit (Reg.STAT pgL2C) 8 = true) ∧
  (∀ (s : State), s.ms.drain = true →
    Runs (.l2cDrainDone) s fun t =>
      t.ms.drain = false ∧ t.bit Reg.L2C_CTRL 0 = false ∧ t.bit (Reg.STAT pgL2C) 8 = false ∧ t.irq pgL2C 1) ∧
  (∀ (s : State) (m : Master) (v new : Word) (r : Nat), Takes s m Reg.MEMC_PPROT_LO v new ∧ r < 32 ∧ fieldOf new r 1 = 1 ∧ s.ms.ppDone.contains r = false →
    Runs (.memcPageProtectStart m false v) s fun t =>
      t.ms.ppPending.contains r = true ∧ t.bit Reg.MEMC_PPSTAT 0 = true) ∧
  (∀ (s : State) (m : Master) (v new : Word) (r : Nat), Takes s m Reg.MEMC_PPROT_HI v new ∧ r < 8 ∧ fieldOf new r 1 = 0 →
    Runs (.memcPageProtectStart m true v) s fun t =>
      t.ms.ppPending.contains (32 + r) = false ∧ t.ms.ppDone.contains (32 + r) = false) ∧
  (∀ (s : State) (r : Nat) (l : List Nat), s.ms.ppPending = r :: l →
    Runs (.memcPageProtectDone) s fun t =>
      t.ms.ppPending = l ∧ t.ms.ppDone = s.ms.ppDone ++ [r] ∧ t.irq pgMEMC 3) ∧
  (∀ (s : State) (u : List (Nat × Nat)), s.bit Reg.MEMC_SCRUB 0 = true ∧ s.fld Reg.HQ_PS 0 3 ≠ 4 →
    Runs (.scrubLine u) s fun t =>
      t.reg Reg.MEMC_SCRUB_POS = (if (s.reg Reg.MEMC_SCRUB_POS).toNat / 64 * 64 + 64 < 0x12800000 then Word.ofNat ((s.reg Reg.MEMC_SCRUB_POS).toNat / 64 * 64 + 64) else 0x10000000#32)) ∧
  (∀ (s : State) (h a : Nat) (l : L2Line), h < 4 ∧ l2Find s (a / 64) = some l ∧ l.dirty = false →
    Runs (.cboClean h a) s fun t =>
      t.ms = s.ms ∧ ∀ b, t.byte b = s.byte b) ∧
  (∀ (s : State) (h a : Nat), h < s.harts.length ∧ 4 ≤ h →
    Runs (.cboClean h a) s fun t =>
      (t.hart h).trap = some (2, 0) ∧ t.ms = s.ms ∧ ∀ b, t.byte b = s.byte b) ∧
  (∀ (s : State) (h a : Nat), h < s.harts.length ∧ 4 ≤ h →
    Runs (.cboInval h a) s fun t =>
      (t.hart h).trap = some (2, 0) ∧ t.ms = s.ms ∧ ∀ b, t.byte b = s.byte b) ∧
  (∀ (s : State) (h a : Nat), h < 4 ∧ (l2Find s (a / 64)).all (fun l => !l.dirty) = true →
    Runs (.cboFlush h a) s fun t =>
      l2Find t (a / 64) = none ∧ (t.hart h).l1d.all (fun c => c.line != a / 64) = true ∧ ∀ b, t.byte b = s.byte b) ∧
  (∀ (s : State) (h a : Nat), h < 4 ∧ h < s.harts.length ∧ s.variant = .ln7740 ∧ inSram (a / 64 * 64) = false →
    Runs (.cboZero h a) s fun t =>
      (t.hart h).trap = some (7, a / 64 * 64) ∧ t.ms = s.ms ∧ t.reg (csr h 0x7C3) = (if inRom (a / 64 * 64) ∨ inFlash (a / 64 * 64) then 3#32 else 0#32) ∧ ∀ b, t.byte b = s.byte b) ∧
  (∀ (s : State) (h a : Nat), h < 4 ∧ s.variant = .ln7740 ∧ inSram (a / 64 * 64) = true ∧ sramGrants s (hartMaster h) (a / 64 * 64) .write = false →
    Runs (.cboZero h a) s fun t =>
      t.ms.l2 = s.ms.l2 ∧ t.harts = s.harts ∧ t.irq 0x1E 0 ∧ s.reports 0x1E 0x1A02 t ∧ ∀ b, t.byte b = s.byte b) ∧
  (∀ (s : State) (m : Master) (v new : Word), Takes s m Reg.L2C_MOP v new ∧ fieldOf v 31 1 = 1 ∧ fieldOf v 0 3 = 1 ∧ mopRefused s 1 (fieldOf v 4 1 == 1) = false →
    Runs (.l2cMopClean m v) s fun t =>
      t.ms.mopRun = true ∧ t.bit Reg.L2C_MOP 31 = true ∧ t.bit (Reg.STAT pgL2C) 9 = true ∧ t.ms.l2.all (fun l => !(l.dirty && (mopNamed s (fieldOf v 4 1 == 1)).contains l)) = true ∧ (mopNamed s (fieldOf v 4 1 == 1)).all (fun l => t.ms.l2.any (fun x => x.set == l.set && x.way == l.way)) = true) ∧
  (∀ (s : State) (m : Master) (v new : Word), Takes s m Reg.L2C_MOP v new ∧ fieldOf v 31 1 = 1 ∧ fieldOf v 0 3 = 1 ∧ mopRefused s 1 (fieldOf v 4 1 == 1) = false ∧ fieldOf v 4 1 = 1 →
    Runs (.l2cMopClean m v) s fun t =>
      t.ms.mopRun = true ∧ t.bit Reg.L2C_MOP 31 = true ∧ t.bit (Reg.STAT pgL2C) 9 = true ∧ (s.bit Reg.L2C_MSW 31 = true → t.ms.l2.all (fun l => !l.dirty) = true)) ∧
  (∀ (s : State) (m : Master) (v new : Word) (l : L2Line), Takes s m Reg.L2C_MOP v new ∧ fieldOf v 31 1 = 1 ∧ fieldOf v 0 3 = 1 ∧ mopRefused s 1 (fieldOf v 4 1 == 1) = false ∧ (mopNamed s (fieldOf v 4 1 == 1)) = [l] ∧ l.dirty = true ∧ l.bad = [] ∧ s.soundMemory →
    Runs (.l2cMopClean m v) s fun t =>
      t.fld Reg.L2C_MSTAT 0 16 = 1 ∧ t.fld Reg.L2C_MSTAT 16 16 = 0 ∧ ∀ i ∈ List.range 64, (t.byte (l.line * 64 + i)).toNat = (lineBytes l.data).getD i 0) ∧
  (∀ (s : State) (m : Master) (v new : Word), Takes s m Reg.L2C_MOP v new ∧ fieldOf v 31 1 = 1 ∧ fieldOf v 0 3 = 2 ∧ mopRefused s 2 (fieldOf v 4 1 == 1) = false →
    Runs (.l2cMopInvalidate m v) s fun t =>
      t.ms.mopRun = true ∧ t.bit Reg.L2C_MOP 31 = true ∧ t.bit (Reg.STAT pgL2C) 9 = true ∧ t.ms.l2 = s.ms.l2.filter (fun l => !((mopNamed s (fieldOf v 4 1 == 1)).any (fun x => x.line == l.line && !((fieldOf v 4 1 == 0 && fieldOf v 5 1 == 0) && wayLocked s x)))) ∧ ∀ b, t.byte b = s.byte b) ∧
  (∀ (s : State) (m : Master) (v new : Word), Takes s m Reg.L2C_MOP v new ∧ fieldOf v 31 1 = 1 ∧ fieldOf v 0 3 = 3 ∧ mopRefused s 3 (fieldOf v 4 1 == 1) = false →
    Runs (.l2cMopCleanInvalidate m v) s fun t =>
      t.ms.mopRun = true ∧ t.bit Reg.L2C_MOP 31 = true ∧ t.bit (Reg.STAT pgL2C) 9 = true ∧ t.ms.l2.all (fun l => ((fieldOf v 4 1 == 0 && fieldOf v 5 1 == 0) && wayLocked s l) || !((mopNamed s (fieldOf v 4 1 == 1)).any (fun x => x.line == l.line && !((fieldOf v 4 1 == 0 && fieldOf v 5 1 == 0) && wayLocked s x)))) = true) ∧
  (∀ (s : State) (m : Master) (v new : Word) (l : L2Line), Takes s m Reg.L2C_MOP v new ∧ fieldOf v 31 1 = 1 ∧ fieldOf v 0 3 = 3 ∧ mopRefused s 3 (fieldOf v 4 1 == 1) = false ∧ (mopNamed s (fieldOf v 4 1 == 1)) = [l] ∧ l.dirty = true ∧ l.bad = [] ∧ s.soundMemory →
    Runs (.l2cMopCleanInvalidate m v) s fun t =>
      t.fld Reg.L2C_MSTAT 0 16 = 1 ∧ t.fld Reg.L2C_MSTAT 16 16 = ((fieldOf v 4 1 == 0 && fieldOf v 5 1 == 0) && wayLocked s l).toNat ∧ ((l2Find t l.line).isSome = ((fieldOf v 4 1 == 0 && fieldOf v 5 1 == 0) && wayLocked s l)) ∧ ∀ i ∈ List.range 64, (t.byte (l.line * 64 + i)).toNat = (lineBytes l.data).getD i 0) ∧
  (∀ (s : State) (m : Master) (v new : Word), Takes s m Reg.L2C_MOP v new ∧ fieldOf v 31 1 = 1 ∧ fieldOf v 0 3 = 4 ∧ mopRefused s 4 (fieldOf v 4 1 == 1) = false ∧ s.variant = .ln7740 ∧ mopLast s = mopFirst s →
    Runs (.l2cMopZero m v) s fun t =>
      t.ms.mopRun = true ∧ t.bit Reg.L2C_MOP 31 = true ∧ t.bit (Reg.STAT pgL2C) 9 = true ∧ (l2Find t (mopFirst s)).map (fun x => (x.data, x.dirty, x.bad)) = some (0#512, true, [])) ∧
  (∀ (s : State) (m : Master) (v new : Word), Takes s m Reg.L2C_MOP v new ∧ fieldOf v 31 1 = 1 ∧ (mopRefused s (fieldOf v 0 3) (fieldOf v 4 1 == 1) = true ∨ fieldOf v 0 3 = 4 ∧ s.variant = .ln7720) →
    Runs (.l2cMopClean m v) s fun t =>
      t.ms = s.ms ∧ s.reports pgL2C 0x1902 t ∧ ∀ b, t.byte b = s.byte b) ∧
  (∀ (s : State) (m : Master) (v new : Word), Takes s m Reg.L2C_MOP v new ∧ fieldOf v 31 1 = 1 ∧ (mopRefused s (fieldOf v 0 3) (fieldOf v 4 1 == 1) = true ∨ fieldOf v 0 3 = 4 ∧ s.variant = .ln7720) →
    Runs (.l2cMopInvalidate m v) s fun t =>
      t.ms = s.ms ∧ s.reports pgL2C 0x1902 t ∧ ∀ b, t.byte b = s.byte b) ∧
  (∀ (s : State) (m : Master) (v new : Word), Takes s m Reg.L2C_MOP v new ∧ fieldOf v 31 1 = 1 ∧ (mopRefused s (fieldOf v 0 3) (fieldOf v 4 1 == 1) = true ∨ fieldOf v 0 3 = 4 ∧ s.variant = .ln7720) →
    Runs (.l2cMopCleanInvalidate m v) s fun t =>
      t.ms = s.ms ∧ s.reports pgL2C 0x1902 t ∧ ∀ b, t.byte b = s.byte b) ∧
  (∀ (s : State) (m : Master) (v new : Word), Takes s m Reg.L2C_MOP v new ∧ fieldOf v 31 1 = 1 ∧ (mopRefused s (fieldOf v 0 3) (fieldOf v 4 1 == 1) = true ∨ fieldOf v 0 3 = 4 ∧ s.variant = .ln7720) →
    Runs (.l2cMopZero m v) s fun t =>
      t.ms = s.ms ∧ s.reports pgL2C 0x1902 t ∧ ∀ b, t.byte b = s.byte b) ∧
  (∀ (s : State) (m : Master) (v new : Word), Takes s m Reg.L2C_MOP v new ∧ fieldOf v 31 1 = 0 →
    Runs (.l2cMopClean m v) s fun t =>
      t.ms = s.ms ∧ t.reg Reg.L2C_MSTAT = s.reg Reg.L2C_MSTAT ∧ ∀ b, t.byte b = s.byte b) ∧
  (∀ (s : State) (m : Master) (v new : Word), Takes s m Reg.L2C_MOP v new ∧ fieldOf v 31 1 = 0 →
    Runs (.l2cMopInvalidate m v) s fun t =>
      t.ms = s.ms ∧ t.reg Reg.L2C_MSTAT = s.reg Reg.L2C_MSTAT ∧ ∀ b, t.byte b = s.byte b) ∧
  (∀ (s : State) (m : Master) (v new : Word), Takes s m Reg.L2C_MOP v new ∧ fieldOf v 31 1 = 0 →
    Runs (.l2cMopCleanInvalidate m v) s fun t =>
      t.ms = s.ms ∧ t.reg Reg.L2C_MSTAT = s.reg Reg.L2C_MSTAT ∧ ∀ b, t.byte b = s.byte b) ∧
  (∀ (s : State) (m : Master) (v new : Word), Takes s m Reg.L2C_MOP v new ∧ fieldOf v 31 1 = 0 →
    Runs (.l2cMopZero m v) s fun t =>
      t.ms = s.ms ∧ t.reg Reg.L2C_MSTAT = s.reg Reg.L2C_MSTAT ∧ ∀ b, t.byte b = s.byte b) ∧
  (∀ (s : State), s.wf = true ∧ s.ms.mopRun = false →
    Runs (.l2cMopDone) s fun t =>
      t = s) ∧
  (∀ (s : State) (m : Master) (v new : Word), Takes s m Reg.L2C_CTRL v new ∧ s.ms.drain = false ∧ (l2On s = false ∨ fieldOf new 0 1 = 1) →
    Runs (.l2cDrain m v) s fun t =>
      t.ms = s.ms ∧ t.reg Reg.L2C_CTRL = new ∧ ∀ b, t.byte b = s.byte b) ∧
  (∀ (s : State) (m : Master) (v new : Word), Takes s m Reg.L2C_CTRL v new ∧ s.ms.drain = true →
    Runs (.l2cDrain m v) s fun t =>
      t.ms = s.ms ∧ t.bit Reg.L2C_CTRL 0 = true ∧ ∀ b, t.byte b = s.byte b) ∧
  (∀ (s : State) (m : Master) (v new : Word) (l : L2Line), Takes s m Reg.L2C_CTRL v new ∧ l2On s = true ∧ fieldOf new 0 1 = 0 ∧ s.ms.drain = false ∧ s.ms.l2 = [l] ∧ l.dirty = true ∧ l.bad = [] ∧ s.soundMemory →
    Runs (.l2cDrain m v) s fun t =>
      t.ms.l2 = [] ∧ ∀ i ∈ List.range 64, (t.byte (l.line * 64 + i)).toNat = (lineBytes l.data).getD i 0) ∧
  (∀ (s : State), s.wf = true ∧ s.ms.drain = false →
    Runs (.l2cDrainDone) s fun t =>
      t = s) ∧
  (∀ (s : State), s.wf = true ∧ s.ms.ppPending = [] →
    Runs (.memcPageProtectDone) s fun t =>
      t = s) ∧
  (∀ (s : State) (m : Master) (v new : Word) (hi : Bool), Takes s m (if hi then Reg.MEMC_PPROT_HI else Reg.MEMC_PPROT_LO) v new →
    Runs (.memcPageProtectStart m hi v) s fun t =>
      t.ms.ppPending = s.ms.ppPending.filter (ppNamed t).contains ++ (ppNamed t).filter (fun r => !(s.ms.ppPending.filter (ppNamed t).contains).contains r && !(s.ms.ppDone.filter (ppNamed t).contains).contains r) ∧ t.ms.ppDone = s.ms.ppDone.filter (ppNamed t).contains ∧ t.reg (if hi then Reg.MEMC_PPROT_HI else Reg.MEMC_PPROT_LO) = new) ∧
  (∀ (s : State) (u : List (Nat × Nat)), s.wf = true ∧ (s.bit Reg.MEMC_SCRUB 0 = false ∨ s.fld Reg.HQ_PS 0 3 = 4) →
    Runs (.scrubLine u) s fun t =>
      t = s) ∧
  (∀ (s : State) (u : List (Nat × Nat)) (p : Nat), s.bit Reg.MEMC_SCRUB 0 = true ∧ s.fld Reg.HQ_PS 0 3 ≠ 4 ∧ p = (s.reg Reg.MEMC_SCRUB_POS).toNat / 64 * 64 ∧ macroFailed s p = false ∧ inSram p = true →
    Runs (.scrubLine u) s fun t =>
      t.ms.ceWords.all (fun w => decide (w < p) || decide (p + 64 ≤ w) || w % 8 != 0) = true ∧ (t.fld Reg.MEMC_SCRUB_PASS 0 16 = if p + 64 < 0x12800000 then s.fld Reg.MEMC_SCRUB_PASS 0 16 else min (s.fld Reg.MEMC_SCRUB_PASS 0 16 + 1) 65535)) ∧
  (∀ (s : State) (u : List (Nat × Nat)) (p w : Nat), s.bit Reg.MEMC_SCRUB 0 = true ∧ s.fld Reg.HQ_PS 0 3 ≠ 4 ∧ p = (s.reg Reg.MEMC_SCRUB_POS).toNat / 64 * 64 ∧ inSram p = true ∧ s.soundMemory ∧ s.ms.ppDone = [] ∧ w < 8 ∧ u = [(w, 3)] →
    Runs (.scrubLine u) s fun t =>
      t.ms.ueWords.any (fun q => q.1 == p + 8 * w) = true ∧ t.irq pgMEMC 1 ∧ ∀ b, t.byte b = s.byte b)

/-- R440 to R446 for the register interface of a bank for which nothing else waits. -/
def Obligations.FlashProgramsAndErases : Prop :=
  (∀ (s : State) (m : Master) (b : Nat) (self : Bool) (new : Word), b < 2 ∧ b < s.flash.banks.length ∧ s.soundMemory ∧ Takes s m (Reg.FLC_B_CMD b) 0x80000001#32 new ∧ flashBase ≤ (s.reg (Reg.FLC_B_ADDR b)).toNat ∧ flcRange b false ((s.reg (Reg.FLC_B_ADDR b)).toNat - flashBase) (s.fld (Reg.FLC_B_CNT b) 0 6) = true ∧ sramRange (s.reg (Reg.FLC_B_SRC b)).toNat (8 * s.fld (Reg.FLC_B_CNT b) 0 6) = true ∧ sramGrants s .flc (s.reg (Reg.FLC_B_SRC b)).toNat .read = true ∧ sramGrants s .flc ((s.reg (Reg.FLC_B_SRC b)).toNat + 8 * s.fld (Reg.FLC_B_CNT b) 0 6 - 1) .read = true ∧ flcVerdict s m b false ((s.reg (Reg.FLC_B_ADDR b)).toNat - flashBase) ((List.range (s.fld (Reg.FLC_B_CNT b) 0 6)).map (fun i => BitVec.ofNat 64 (s.load ((s.reg (Reg.FLC_B_SRC b)).toNat + 8 * i) 8))) true true self = 0 →
    Runs (.flcProgram m b self) s fun t =>
      (t.bank b).op = some ⟨⟨0, false, (s.reg (Reg.FLC_B_ADDR b)).toNat - flashBase, ((List.range (s.fld (Reg.FLC_B_CNT b) 0 6)).map (fun i => BitVec.ofNat 64 (s.load ((s.reg (Reg.FLC_B_SRC b)).toNat + 8 * i) 8))), 0⟩, s.ticks, 0, s.ticks⟩ ∧ t.bit (Reg.FLC_B_CMD b) 31 = true) ∧
  (∀ (s : State) (m : Master) (b : Nat) (self : Bool) (new : Word) (v : Nat), b < 2 ∧ b < s.flash.banks.length ∧ Takes s m (Reg.FLC_B_CMD b) 0x80000001#32 new ∧ v = flcVerdict s m b false ((s.reg (Reg.FLC_B_ADDR b)).toNat - flashBase) ((List.range (s.fld (Reg.FLC_B_CNT b) 0 6)).map (fun i => BitVec.ofNat 64 (s.load ((s.reg (Reg.FLC_B_SRC b)).toNat + 8 * i) 8))) (decide (flashBase ≤ (s.reg (Reg.FLC_B_ADDR b)).toNat) && flcRange b false ((s.reg (Reg.FLC_B_ADDR b)).toNat - flashBase) (s.fld (Reg.FLC_B_CNT b) 0 6) && sramRange (s.reg (Reg.FLC_B_SRC b)).toNat (8 * s.fld (Reg.FLC_B_CNT b) 0 6)) (sramGrants s .flc (s.reg (Reg.FLC_B_SRC b)).toNat .read && sramGrants s .flc ((s.reg (Reg.FLC_B_SRC b)).toNat + 8 * s.fld (Reg.FLC_B_CNT b) 0 6 - 1) .read) self ∧ v ≠ 0 →
    Runs (.flcProgram m b self) s fun t =>
      t.bank b = s.bank b ∧ t.fld (Reg.FLC_B_STAT b) 8 4 = v ∧ t.irq pgFLC 2 ∧ s.reports pgFLC 0x1B02 t ∧ t.flash.words = s.flash.words ∧ (v = 5 → s.reports 0x1E 0x1A02 t)) ∧
  (∀ (s : State) (m : Master) (b : Nat) (self : Bool) (new : Word), b < 2 ∧ b < s.flash.banks.length ∧ Takes s m (Reg.FLC_B_CMD b) 0x80000002#32 new ∧ flashBase ≤ (s.reg (Reg.FLC_B_ADDR b)).toNat ∧ flcRange b true ((s.reg (Reg.FLC_B_ADDR b)).toNat - flashBase) 0 = true ∧ flcVerdict s m b true ((s.reg (Reg.FLC_B_ADDR b)).toNat - flashBase) [] true true self = 0 →
    Runs (.flcErase m b self) s fun t =>
      (t.bank b).op.map (fun o => (o.req, o.start)) = some (⟨0, true, (s.reg (Reg.FLC_B_ADDR b)).toNat - flashBase, [], 0⟩, s.ticks) ∧ (t.bank b).eseq = ((s.bank b).eseq + 1) % 2 ^ 32 ∧ t.bit (Reg.FLC_B_CMD b) 31 = true ∧ t.fld (Reg.FLC_B_STAT b) 0 2 = 2) ∧
  (∀ (s : State) (m : Master) (b : Nat) (self : Bool) (new : Word) (v : Nat), b < 2 ∧ b < s.flash.banks.length ∧ Takes s m (Reg.FLC_B_CMD b) 0x80000002#32 new ∧ v = flcVerdict s m b true ((s.reg (Reg.FLC_B_ADDR b)).toNat - flashBase) [] (decide (flashBase ≤ (s.reg (Reg.FLC_B_ADDR b)).toNat) && flcRange b true ((s.reg (Reg.FLC_B_ADDR b)).toNat - flashBase) 0) true self ∧ v ≠ 0 →
    Runs (.flcErase m b self) s fun t =>
      t.bank b = s.bank b ∧ t.fld (Reg.FLC_B_STAT b) 8 4 = v ∧ t.irq pgFLC 2 ∧ s.reports pgFLC 0x1B02 t ∧ t.flash.words = s.flash.words ∧ (v = 5 → s.reports 0x1E 0x1A02 t)) ∧
  (∀ (s : State) (m : Master) (b : Nat) (new : Word) (o : FlashOp), b < 2 ∧ b < s.flash.banks.length ∧ Takes s m (Reg.FLC_B_CMD b) 0x80000003#32 new ∧ (s.bank b).failed = false ∧ (s.bank b).op = some o ∧ o.req.erase = true →
    Runs (.flcSuspend m b) s fun t =>
      (t.bank b).suspReq = true ∧ (t.bank b).auto = false ∧ (t.bank b).op = some o) ∧
  (∀ (s : State) (m : Master) (b : Nat) (new : Word), b < 2 ∧ b < s.flash.banks.length ∧ Takes s m (Reg.FLC_B_CMD b) 0x80000003#32 new ∧ ((s.bank b).failed = true ∨ (s.bank b).op.all (fun o => !o.req.erase) = true) →
    Runs (.flcSuspend m b) s fun t =>
      t.bank b = s.bank b ∧ t.fld (Reg.FLC_B_STAT b) 8 4 = (if (s.bank b).failed then 13 else 8) ∧ t.irq pgFLC 2 ∧ s.reports pgFLC 0x1B02 t ∧ t.flash.words = s.flash.words) ∧
  (∀ (s : State) (m : Master) (b : Nat) (new : Word) (o : FlashOp), b < 2 ∧ b < s.flash.banks.length ∧ Takes s m (Reg.FLC_B_CMD b) 0x80000004#32 new ∧ (s.bank b).failed = false ∧ (s.bank b).op = none ∧ (s.bank b).susp = some o →
    Runs (.flcResume m b) s fun t =>
      (t.bank b).op = some { o with since := s.ticks } ∧ (t.bank b).susp = none ∧ t.fld (Reg.FLC_B_STAT b) 8 4 = 0) ∧
  (∀ (s : State) (m : Master) (b : Nat) (new : Word), b < 2 ∧ Takes s m (Reg.FLC_B_CMD b) 0x80000004#32 new ∧ ((s.bank b).failed = true ∨ (s.bank b).susp = none ∨ (s.bank b).op.isSome = true) →
    Runs (.flcResume m b) s fun t =>
      t.bank b = s.bank b ∧ t.fld (Reg.FLC_B_STAT b) 8 4 = (if (s.bank b).failed then 13 else 9) ∧ t.irq pgFLC 2 ∧ s.reports pgFLC 0x1B02 t ∧ t.flash.words = s.flash.words) ∧
  (∀ (s : State) (b : Nat) (o : FlashOp), b < 2 ∧ b < s.flash.banks.length ∧ (s.bank b).waiting = [] ∧ (s.bank b).auto = false ∧ s.flash.reads = [] ∧ (s.bank b).op = some o ∧ o.req.erase = false ∧ o.req.port = 0 →
    Runs (.flcProgramDone b true) s fun t =>
      (∀ i ∈ List.range o.req.words.length, t.fw (o.req.addr / 8 + i) = (match s.fw (o.req.addr / 8 + i) with | .erased => .once (o.req.words.getD i 0) | .once d => .twice (d &&& o.req.words.getD i 0) | y => y)) ∧ (∀ x, x < o.req.addr / 8 ∨ o.req.addr / 8 + o.req.words.length ≤ x → t.fw x = s.fw x) ∧ (t.bank b).op = none ∧ t.irq pgFLC b ∧ t.fld (Reg.FLC_B_STAT b) 8 4 = 0) ∧
  (∀ (s : State) (b : Nat) (o : FlashOp), b < 2 ∧ b < s.flash.banks.length ∧ (s.bank b).waiting = [] ∧ (s.bank b).auto = false ∧ s.flash.reads = [] ∧ (s.bank b).op = some o ∧ o.req.erase = false ∧ o.req.port = 0 →
    Runs (.flcProgramDone b false) s fun t =>
      (∀ x, x < o.req.addr / 8 ∨ o.req.addr / 8 + o.req.words.length ≤ x → t.fw x = s.fw x) ∧ (t.bank b).op = none ∧ t.irq pgFLC b ∧ t.fld (Reg.FLC_B_STAT b) 8 4 = 12 ∧ s.reports pgFLC 0x1B04 t) ∧
  (∀ (s : State) (b : Nat) (g : Bool), s.wf = true ∧ ((s.bank b).op.all (fun o => o.req.erase) = true) →
    Runs (.flcProgramDone b g) s fun t =>
      t = s) ∧
  (∀ (s : State) (b : Nat) (o : FlashOp), b < 2 ∧ b < s.flash.banks.length ∧ (s.bank b).waiting = [] ∧ (s.bank b).auto = false ∧ s.flash.reads = [] ∧ (s.bank b).op = some o ∧ o.req.erase = true ∧ o.req.port = 0 ∧ bankOf o.req.addr = b ∧ sectorIn o.req.addr < 0x3FE ∧ o.slot / 512 ≠ sectorAbs b (sectorIn o.req.addr) ∧ (s.bank b).active ≤ 1 ∧ (s.bank b).bad.length < 4 →
    Runs (.flcEraseDone b true) s fun t =>
      (∀ i ∈ List.range 512, t.fw (o.req.addr / 4096 * 512 + i) = .erased) ∧ (t.bank b).op = none ∧ t.irq pgFLC b ∧ t.fld (Reg.FLC_B_STAT b) 8 4 = 0) ∧
  (∀ (s : State) (b : Nat) (o : FlashOp), b < 2 ∧ b < s.flash.banks.length ∧ (s.bank b).waiting = [] ∧ (s.bank b).auto = false ∧ s.flash.reads = [] ∧ (s.bank b).op = some o ∧ o.req.erase = true ∧ o.req.port = 0 ∧ (s.bank b).bad.length < 3 →
    Runs (.flcEraseDone b false) s fun t =>
      (t.bank b).bad.contains (sectorIn o.req.addr) = true ∧ (t.bank b).op = none ∧ t.fld (Reg.FLC_B_STAT b) 8 4 = 12 ∧ s.reports pgFLC 0x1B04 t) ∧
  (∀ (s : State) (b : Nat) (o : FlashOp), b < 2 ∧ b < s.flash.banks.length ∧ (s.bank b).waiting = [] ∧ (s.bank b).auto = false ∧ s.flash.reads = [] ∧ (s.bank b).op = some o ∧ o.req.erase = true ∧ o.req.port = 0 ∧ (s.bank b).failed = false ∧ (s.bank b).bad.length = 3 ∧ (s.bank b).bad.contains (sectorIn o.req.addr) = false →
    Runs (.flcEraseDone b false) s fun t =>
      (t.bank b).bad.contains (sectorIn o.req.addr) = true ∧ (t.bank b).failed = true ∧ t.bit (Reg.STAT pgFLC) (8 + b) = true ∧ t.irq pgFLC 5 ∧ t.bit Reg.XLT_JRNL (8 + b) = false) ∧
  (∀ (s : State) (b : Nat) (g : Bool), s.wf = true ∧ ((s.bank b).op.all (fun o => !o.req.erase) = true) →
    Runs (.flcEraseDone b g) s fun t =>
      t = s) ∧
  (∀ (s : State) (b : Nat) (o : FlashOp), b < 2 ∧ b < s.flash.banks.length ∧ (s.bank b).waiting = [] ∧ (s.bank b).auto = false ∧ s.flash.reads = [] ∧ (s.bank b).op = some o ∧ o.req.erase = true ∧ (s.bank b).suspReq = true ∧ 8 * s.fld Reg.FLC_CFG 0 10 ≤ 5 * (s.ticks - o.since) →
    Runs (.flcSuspendDone b) s fun t =>
      (t.bank b).op = none ∧ (t.bank b).susp = some o ∧ (t.bank b).suspReq = false ∧ t.fld (Reg.FLC_B_STAT b) 8 4 = 0 ∧ t.bit (Reg.FLC_B_STAT b) 4 = true) ∧
  (∀ (s : State) (b : Nat), s.wf = true ∧ ((s.bank b).op.all (fun o => !(o.req.erase && (s.bank b).suspReq && decide (8 * s.fld Reg.FLC_CFG 0 10 ≤ 5 * (s.ticks - o.since)))) = true) →
    Runs (.flcSuspendDone b) s fun t =>
      t = s) ∧
  (∀ (s : State) (m : Master) (a n : Nat) (errs : List (Nat × Bool)), flashBase ≤ a ∧ flashGrants s m a .read = true ∧ bankBusy s (bankOf (a - flashBase)) = false ∧ (s.bank (bankOf (a - flashBase))).failed = false ∧ 1 ≤ n ∧ (List.range n).all (fun i => (flashLook s ((a + i - flashBase) / 8)).isSome) = true ∧ errs.all (fun e => !e.2) = true →
    Runs (.flashRead m a n errs) s fun t =>
      t.resp = ⟨leNat ((List.range n).map (fun i => ((flashLook s ((a + i - flashBase) / 8)).getD 0).toNat / 256 ^ ((a + i) % 8) % 256)), false⟩ ∧ (errs.any (fun e => e.1 == (a - flashBase) / 8) = true → t.irq pgFLC 3)) ∧
  (∀ (s : State) (m : Master) (a : Nat) (errs : List (Nat × Bool)), flashBase ≤ a ∧ a % 8 = 0 ∧ flashGrants s m a .read = true ∧ bankBusy s (bankOf (a - flashBase)) = false ∧ (s.bank (bankOf (a - flashBase))).failed = false ∧ ((errs.find? (fun e => e.1 == (a - flashBase) / 8)).map (·.2) = some true ∨ flashLook s ((a - flashBase) / 8) = none) →
    Runs (.flashRead m a 8 errs) s fun t =>
      t.resp.err = true ∧ t.irq pgFLC 4 ∧ t.reg Reg.FLC_ERRADDR = Word.ofNat a ∧ s.reports pgFLC 0x1B03 t ∧ t.fld Reg.FLC_ECC 16 16 = min (s.fld Reg.FLC_ECC 16 16 + 1) 65535) ∧
  (∀ (s : State) (m : Master) (a n : Nat) (errs : List (Nat × Bool)), flashGrants s m a .read = true ∧ (s.bank (bankOf (a - flashBase))).failed = true →
    Runs (.flashRead m a n errs) s fun t =>
      t.resp.err = true ∧ t.flash = s.flash) ∧
  (∀ (s : State) (m : Master) (a n : Nat) (errs : List (Nat × Bool)), flashGrants s m a .read = true ∧ bankBusy s (bankOf (a - flashBase)) = true ∧ (s.bank (bankOf (a - flashBase))).failed = false →
    Runs (.flashRead m a n errs) s fun t =>
      t.flash.reads = s.flash.reads ++ [⟨m, a, n, errs⟩]) ∧
  (∀ (s : State) (m : Master) (a n : Nat) (errs : List (Nat × Bool)), flashGrants s m a .read = false →
    Runs (.flashRead m a n errs) s fun t =>
      t.resp = ⟨0, false⟩ ∧ t.irq 0x1E 0) ∧
  (∀ (s : State), s.flash.scan = .due →
    Runs (.flcResetScan) s fun t =>
      t.flash.scan = .running ∧ ∀ x, t.fw x = s.fw x) ∧
  (∀ (s : State), s.wf = true ∧ s.flash.scan ≠ .due →
    Runs (.flcResetScan) s fun t =>
      t = s) ∧
  (∀ (s : State), s.wf = true ∧ s.flash.scan ≠ .running →
    Runs (.flcScanDone) s fun t =>
      t = s) ∧
  (∀ (s : State) (w sec : Nat), s.flash.scan = .running ∧ s.flash.reads = [] ∧ [0, 1].all (fun b => (s.bank b).waiting.isEmpty && !(s.bank b).auto) = true ∧ scanList s 0 = [(w, sec, true)] ∧ (scanList s 1).all (fun r => !r.2.2) = true ∧ sec < 0x3FE →
    Runs (.flcScanDone) s fun t =>
      t.flash.scan = .done ∧ t.fld Reg.FLC_SCAN 0 4 = 1 ∧ t.irq pgFLC 6 ∧ (∀ i ∈ List.range 512, t.fw (sectorAbs 0 sec * 512 + i) = .erased) ∧ (intentOf (t.fw w)).map (·.2.2) = some false) ∧
  (∀ (s : State), s.flash.scan = .running ∧ s.flash.reads = [] ∧ [0, 1].all (fun b => (s.bank b).waiting.isEmpty && !(s.bank b).auto) = true ∧ (scanList s 0 ++ scanList s 1).all (fun r => !r.2.2) = true →
    Runs (.flcScanDone) s fun t =>
      t.flash.scan = .done ∧ t.fld Reg.FLC_SCAN 0 4 = 0 ∧ t.bit (Reg.STAT pgFLC) 10 = false ∧ t.irq pgFLC 6 ∧ ∀ x, t.fw x = s.fw x)

/-- The option area (R451 to R456, R464). -/
def Obligations.OptionsAreProgrammedOnce : Prop :=
  (∀ (s : State) (new : Word), Takes s .sup Reg.OPT_CMD 1#32 new ∧ optVerdict s .sup (s.fld Reg.OPT_WADDR 0 9) (BitVec.ofNat 64 ((s.reg Reg.OPT_WDATA_LO).toNat + (s.reg Reg.OPT_WDATA_HI).toNat * 2 ^ 32)) = 0 →
    Runs (.optProgram .sup) s fun t =>
      t.opt.prog = some ((s.fld Reg.OPT_WADDR 0 9), (BitVec.ofNat 64 ((s.reg Reg.OPT_WDATA_LO).toNat + (s.reg Reg.OPT_WDATA_HI).toNat * 2 ^ 32))) ∧ t.bit Reg.OPT_CMD 0 = true) ∧
  (∀ (s : State) (m : Master) (new : Word), Takes s m Reg.OPT_CMD 1#32 new ∧ optVerdict s m (s.fld Reg.OPT_WADDR 0 9) (BitVec.ofNat 64 ((s.reg Reg.OPT_WDATA_LO).toNat + (s.reg Reg.OPT_WDATA_HI).toNat * 2 ^ 32)) ≠ 0 →
    Runs (.optProgram m) s fun t =>
      t.opt.prog = s.opt.prog ∧ t.fld Reg.OPT_RES 0 4 = optVerdict s m (s.fld Reg.OPT_WADDR 0 9) (BitVec.ofNat 64 ((s.reg Reg.OPT_WDATA_LO).toNat + (s.reg Reg.OPT_WDATA_HI).toNat * 2 ^ 32)) ∧ t.irq pgOPT 1 ∧ s.reports pgOPT 0x1C02 t) ∧
  (∀ (s : State) (w : Nat) (x : BitVec 64), s.opt.prog = some (w, x) →
    Runs (.optProgramDone) s fun t =>
      t.optWord w = ⟨(s.optWord w).v &&& x, (s.optWord w).n + 1⟩ ∧ t.opt.prog = none ∧ t.bit Reg.OPT_CMD 0 = false ∧ t.irq pgOPT 0 ∧ (64 ≤ w ∧ w % 64 = 63 → t.opt.auth = none) ∧ ∀ y ∈ List.range 512, y ≠ w → t.optWord y = s.optWord y) ∧
  (∀ (s : State) (new : Word), Takes s .sup Reg.OPT_CMD 0x100#32 new ∧ s.opt.prog = none ∧ (s.optWord 62).n < 2 →
    Runs (.optLockdbg .sup) s fun t =>
      t.opt.prog = some (62, 0#64)) ∧
  (∀ (s : State) (m : Master) (new : Word), Takes s m Reg.OPT_CMD 0x100#32 new ∧ (s.opt.prog.isSome = true ∨ m ≠ .sup ∨ 2 ≤ (s.optWord 62).n) →
    Runs (.optLockdbg m) s fun t =>
      t.opt.prog = s.opt.prog ∧ t.fld Reg.OPT_RES 0 4 = (if s.opt.prog.isSome then 1 else if m ≠ .sup then 7 else 4) ∧ t.irq pgOPT 1 ∧ s.reports pgOPT 0x1C02 t) ∧
  (∀ (s : State), s.wf = true ∧ s.opt.prog = none →
    Runs (.optProgramDone) s fun t =>
      t = s) ∧
  (∀ (s : State) (v new : Word), Takes s .sec Reg.OPT_AUTH v new ∧ fieldOf v 0 1 = 1 ∧ s.opt.auth.isSome = true →
    Runs (.optAuthSet .sec v) s fun t =>
      t.bit (Reg.STAT pgOPT) 9 = true ∧ t.reg Reg.OPT_AUTH = 1#32 ∧ t.opt.authAt = s.ticks) ∧
  (∀ (s : State) (v new : Word), Takes s .sec Reg.OPT_AUTH v new ∧ (fieldOf v 0 1 = 0 ∨ s.opt.auth = none) →
    Runs (.optAuthSet .sec v) s fun t =>
      t.opt = s.opt ∧ t.bit (Reg.STAT pgOPT) 9 = s.bit (Reg.STAT pgOPT) 9) ∧
  (∀ (s : State) (m : Master) (v new : Word), m ≠ .sec ∧ Takes s m Reg.OPT_AUTH v new →
    Runs (.optAuthSet m v) s fun t =>
      t.opt = s.opt ∧ t.reg Reg.OPT_AUTH = s.reg Reg.OPT_AUTH ∧ t.bit (Reg.STAT pgOPT) 9 = s.bit (Reg.STAT pgOPT) 9 ∧ s.reports pgOPT 0x1C01 t) ∧
  (∀ (s : State), s.bit (Reg.STAT pgOPT) 9 = true ∧ s.opt.authAt + 10 * ticksPerSecond ≤ s.ticks →
    Runs (.optAuthExpiry) s fun t =>
      t.opt.auth = none ∧ t.bit (Reg.STAT pgOPT) 9 = false ∧ t.reg Reg.OPT_AUTH = 0#32) ∧
  (∀ (s : State), s.wf = true ∧ (s.bit (Reg.STAT pgOPT) 9 = false ∨ s.ticks < s.opt.authAt + 10 * ticksPerSecond) →
    Runs (.optAuthExpiry) s fun t =>
      t = s)

/-- R457 to R464, R472, R475 with the operands readable. -/
def Obligations.SecurityOperationsRunAndDeliver : Prop :=
  (∀ (s : State) (m : Master) (new : Word), Takes s m Reg.SEC_CMD 0x80000001#32 new ∧ s.bit Reg.SEC_CMD 31 = false ∧ 1 ≤ s.fld Reg.SEC_LEN 0 16 ∧ s.soundMemory ∧ sramRange (s.reg Reg.SEC_BUF).toNat (s.fld Reg.SEC_LEN 0 16) = true ∧ (List.range ((s.fld Reg.SEC_LEN 0 16) / 4096 + 2)).all (fun i => decide ((s.fld Reg.SEC_LEN 0 16) + 4095 ≤ i * 4096) || sramGrants s .sec (min ((s.reg Reg.SEC_BUF).toNat + i * 4096) ((s.reg Reg.SEC_BUF).toNat + (s.fld Reg.SEC_LEN 0 16) - 1)) .read) = true →
    Runs (.secHash m) s fun t =>
      t.sec.run = some ⟨1, 0, 0, hash256 (s.bytes (s.reg Reg.SEC_BUF).toNat (s.fld Reg.SEC_LEN 0 16))⟩ ∧ t.bit Reg.SEC_CMD 31 = true) ∧
  (∀ (s : State) (m : Master) (new : Word), Takes s m Reg.SEC_CMD 0x80000002#32 new ∧ s.bit Reg.SEC_CMD 31 = false ∧ 1 ≤ s.fld Reg.SEC_LEN 0 16 ∧ s.fld Reg.SEC_LEN 0 16 ≤ 4096 ∧ s.soundMemory ∧ sramRange (s.reg Reg.SEC_BUF).toNat (5264 + s.fld Reg.SEC_LEN 0 16) = true ∧ (List.range ((5264 + s.fld Reg.SEC_LEN 0 16) / 4096 + 2)).all (fun i => decide ((5264 + s.fld Reg.SEC_LEN 0 16) + 4095 ≤ i * 4096) || sramGrants s .sec (min ((s.reg Reg.SEC_BUF).toNat + i * 4096) ((s.reg Reg.SEC_BUF).toNat + (5264 + s.fld Reg.SEC_LEN 0 16) - 1)) .read) = true →
    Runs (.secVerify m) s fun t =>
      t.sec.run = some ⟨2, if Config.mldsaVerify ((s.bytes (s.reg Reg.SEC_BUF).toNat (5264 + s.fld Reg.SEC_LEN 0 16)).take 1952) ((s.bytes (s.reg Reg.SEC_BUF).toNat (5264 + s.fld Reg.SEC_LEN 0 16)).drop 5264) (((s.bytes (s.reg Reg.SEC_BUF).toNat (5264 + s.fld Reg.SEC_LEN 0 16)).drop 1952).take 3309) then 0 else 3, 0, []⟩) ∧
  (∀ (s : State) (m : Master) (new : Word), Takes s m Reg.SEC_CMD 0x80000003#32 new ∧ s.bit Reg.SEC_CMD 31 = false ∧ idKey s = true ∧ sramRange (s.reg Reg.SEC_BUF).toNat 4096 = true →
    Runs (.secAttest m) s fun t =>
      t.sec.run = some ⟨3, 0, 0, measNow s ++ attestReport s (regBytes s (Reg.SEC_NONCE 0) 4)⟩ ∧ t.bit Reg.SEC_CMD 31 = true) ∧
  (∀ (s : State) (m : Master) (new : Word), Takes s m Reg.SEC_CMD 0x80000004#32 new ∧ s.bit Reg.SEC_CMD 31 = false ∧ s.sec.chal.length = 3 →
    Runs (.secNewchal1 m) s fun t =>
      t.sec.run = some ⟨4, 0, 0, challengeNow s⟩ ∧ t.sec.chal.getD 1 ⟨[], none⟩ = ⟨challengeNow s, some s.ticks⟩ ∧ t.sec.chal.getD 2 ⟨[], none⟩ = s.sec.chal.getD 2 ⟨[], none⟩ ∧ t.sec.ctr = (s.sec.ctr + 1) % 2 ^ 64) ∧
  (∀ (s : State) (m : Master) (new : Word), Takes s m Reg.SEC_CMD 0x80000007#32 new ∧ s.bit Reg.SEC_CMD 31 = false ∧ s.sec.chal.length = 3 →
    Runs (.secNewchal2 m) s fun t =>
      t.sec.run = some ⟨7, 0, 0, challengeNow s⟩ ∧ t.sec.chal.getD 2 ⟨[], none⟩ = ⟨challengeNow s, some s.ticks⟩ ∧ t.sec.chal.getD 1 ⟨[], none⟩ = s.sec.chal.getD 1 ⟨[], none⟩ ∧ t.sec.ctr = (s.sec.ctr + 1) % 2 ^ 64) ∧
  (∀ (s : State) (m : Master) (new : Word), Takes s m Reg.SEC_CMD 0x80000005#32 new ∧ s.bit Reg.SEC_CMD 31 = false ∧ s.soundMemory ∧ sramRange (s.reg Reg.SEC_BUF).toNat (5301) = true ∧ (List.range ((5301) / 4096 + 2)).all (fun i => decide ((5301) + 4095 ≤ i * 4096) || sramGrants s .sec (min ((s.reg Reg.SEC_BUF).toNat + i * 4096) ((s.reg Reg.SEC_BUF).toNat + (5301) - 1)) .read) = true →
    Runs (.secClear m) s fun t =>
      t.sec.run = some ⟨5, stepResult (clearStep s (s.bytes (s.reg Reg.SEC_BUF).toNat (5301))), (clearStep s (s.bytes (s.reg Reg.SEC_BUF).toNat (5301))), []⟩ ∧ t.reg Reg.EVR_CLRCNT = (if (clearStep s (s.bytes (s.reg Reg.SEC_BUF).toNat (5301))) = 0 then Word.ofNat ((s.reg Reg.EVR_CLRCNT).toNat + 1) else s.reg Reg.EVR_CLRCNT) ∧ ((clearStep s (s.bytes (s.reg Reg.SEC_BUF).toNat (5301))) ≠ 0 → (t.sec.chal.getD 1 ⟨[], none⟩).drawn = none ∧ s.reports pgSEC 0x1D02 t)) ∧
  (∀ (s : State) (m : Master) (new : Word), Takes s m Reg.SEC_CMD 0x80000006#32 new ∧ s.bit Reg.SEC_CMD 31 = false ∧ s.soundMemory ∧ sramRange (s.reg Reg.SEC_BUF).toNat (5301) = true ∧ (List.range ((5301) / 4096 + 2)).all (fun i => decide ((5301) + 4095 ≤ i * 4096) || sramGrants s .sec (min ((s.reg Reg.SEC_BUF).toNat + i * 4096) ((s.reg Reg.SEC_BUF).toNat + (5301) - 1)) .read) = true →
    Runs (.secAuthopt m) s fun t =>
      t.sec.run = some ⟨6, authResult s (s.bytes (s.reg Reg.SEC_BUF).toNat (5301)), 0, (s.bytes (s.reg Reg.SEC_BUF).toNat (5301)).take 36⟩ ∧ (t.sec.chal.getD 2 ⟨[], none⟩).drawn = none) ∧
  (∀ (s : State) (m : Master) (new : Word), Takes s m Reg.SEC_CMD 0x80000001#32 new ∧ s.bit Reg.SEC_CMD 31 = true →
    Runs (.secHash m) s fun t =>
      t.sec = s.sec ∧ t.fld Reg.SEC_RES 0 4 = 1 ∧ s.reports pgSEC 0x1D01 t) ∧
  (∀ (s : State) (m : Master) (new : Word), Takes s m Reg.SEC_CMD 0x80000002#32 new ∧ s.bit Reg.SEC_CMD 31 = true →
    Runs (.secVerify m) s fun t =>
      t.sec = s.sec ∧ t.fld Reg.SEC_RES 0 4 = 1 ∧ s.reports pgSEC 0x1D01 t) ∧
  (∀ (s : State) (m : Master) (new : Word), Takes s m Reg.SEC_CMD 0x80000003#32 new ∧ s.bit Reg.SEC_CMD 31 = true →
    Runs (.secAttest m) s fun t =>
      t.sec = s.sec ∧ t.fld Reg.SEC_RES 0 4 = 1 ∧ s.reports pgSEC 0x1D01 t) ∧
  (∀ (s : State) (m : Master) (new : Word), Takes s m Reg.SEC_CMD 0x80000004#32 new ∧ s.bit Reg.SEC_CMD 31 = true →
    Runs (.secNewchal1 m) s fun t =>
      t.sec = s.sec ∧ t.fld Reg.SEC_RES 0 4 = 1 ∧ s.reports pgSEC 0x1D01 t) ∧
  (∀ (s : State) (m : Master) (new : Word), Takes s m Reg.SEC_CMD 0x80000005#32 new ∧ s.bit Reg.SEC_CMD 31 = true →
    Runs (.secClear m) s fun t =>
      t.sec = s.sec ∧ t.fld Reg.SEC_RES 0 4 = 1 ∧ s.reports pgSEC 0x1D01 t) ∧
  (∀ (s : State) (m : Master) (new : Word), Takes s m Reg.SEC_CMD 0x80000006#32 new ∧ s.bit Reg.SEC_CMD 31 = true →
    Runs (.secAuthopt m) s fun t =>
      t.sec = s.sec ∧ t.fld Reg.SEC_RES 0 4 = 1 ∧ s.reports pgSEC 0x1D01 t) ∧
  (∀ (s : State) (m : Master) (new : Word), Takes s m Reg.SEC_CMD 0x80000007#32 new ∧ s.bit Reg.SEC_CMD 31 = true →
    Runs (.secNewchal2 m) s fun t =>
      t.sec = s.sec ∧ t.fld Reg.SEC_RES 0 4 = 1 ∧ s.reports pgSEC 0x1D01 t) ∧
  (∀ (s : State) (m : Master) (new : Word), Takes s m Reg.SEC_CMD 0x80000001#32 new ∧ s.bit Reg.SEC_CMD 31 = false ∧ secFields s 1 = false →
    Runs (.secHash m) s fun t =>
      t.sec.run = some ⟨1, 6, 0, []⟩ ∧ t.bit Reg.SEC_CMD 31 = true) ∧
  (∀ (s : State) (m : Master) (new : Word), Takes s m Reg.SEC_CMD 0x80000002#32 new ∧ s.bit Reg.SEC_CMD 31 = false ∧ secFields s 2 = false →
    Runs (.secVerify m) s fun t =>
      t.sec.run = some ⟨2, 6, 0, []⟩ ∧ t.bit Reg.SEC_CMD 31 = true) ∧
  (∀ (s : State) (m : Master) (new : Word), Takes s m Reg.SEC_CMD 0x80000003#32 new ∧ s.bit Reg.SEC_CMD 31 = false ∧ secFields s 3 = false →
    Runs (.secAttest m) s fun t =>
      t.sec.run = some ⟨3, 6, 0, []⟩ ∧ t.bit Reg.SEC_CMD 31 = true) ∧
  (∀ (s : State) (m : Master) (new : Word), Takes s m Reg.SEC_CMD 0x80000005#32 new ∧ s.bit Reg.SEC_CMD 31 = false ∧ secFields s 5 = false →
    Runs (.secClear m) s fun t =>
      t.sec.run = some ⟨5, 6, 0, []⟩ ∧ t.bit Reg.SEC_CMD 31 = true ∧ (t.sec.chal.getD 1 ⟨[], none⟩).drawn = none) ∧
  (∀ (s : State) (m : Master) (new : Word), Takes s m Reg.SEC_CMD 0x80000006#32 new ∧ s.bit Reg.SEC_CMD 31 = false ∧ secFields s 6 = false →
    Runs (.secAuthopt m) s fun t =>
      t.sec.run = some ⟨6, 6, 0, []⟩ ∧ t.bit Reg.SEC_CMD 31 = true ∧ (t.sec.chal.getD 2 ⟨[], none⟩).drawn = none) ∧
  (∀ (s : State) (m : Master) (new : Word), Takes s m Reg.SEC_CMD 0x80000001#32 new ∧ s.bit Reg.SEC_CMD 31 = false ∧ secFields s 1 = true ∧ (secRead s (s.reg Reg.SEC_BUF).toNat (secOperands s 1)).1 = none →
    Runs (.secHash m) s fun t =>
      t.sec.run = some ⟨1, 8, 0, []⟩ ∧ s.reports pgSEC 0x1D04 t) ∧
  (∀ (s : State) (m : Master) (new : Word), Takes s m Reg.SEC_CMD 0x80000002#32 new ∧ s.bit Reg.SEC_CMD 31 = false ∧ secFields s 2 = true ∧ (secRead s (s.reg Reg.SEC_BUF).toNat (secOperands s 2)).1 = none →
    Runs (.secVerify m) s fun t =>
      t.sec.run = some ⟨2, 8, 0, []⟩ ∧ s.reports pgSEC 0x1D04 t) ∧
  (∀ (s : State) (m : Master) (new : Word), Takes s m Reg.SEC_CMD 0x80000005#32 new ∧ s.bit Reg.SEC_CMD 31 = false ∧ secFields s 5 = true ∧ (secRead s (s.reg Reg.SEC_BUF).toNat (secOperands s 5)).1 = none →
    Runs (.secClear m) s fun t =>
      t.sec.run = some ⟨5, 8, 0, []⟩ ∧ s.reports pgSEC 0x1D04 t ∧ (t.sec.chal.getD 1 ⟨[], none⟩).drawn = none) ∧
  (∀ (s : State) (m : Master) (new : Word), Takes s m Reg.SEC_CMD 0x80000006#32 new ∧ s.bit Reg.SEC_CMD 31 = false ∧ secFields s 6 = true ∧ (secRead s (s.reg Reg.SEC_BUF).toNat (secOperands s 6)).1 = none →
    Runs (.secAuthopt m) s fun t =>
      t.sec.run = some ⟨6, 8, 0, []⟩ ∧ s.reports pgSEC 0x1D04 t ∧ (t.sec.chal.getD 2 ⟨[], none⟩).drawn = none) ∧
  (∀ (s : State) (o : SecOp), s.sec.run = some o ∧ o.op = 1 ∧ o.res = 0 →
    Runs (.secOpDone) s fun t =>
      t.sec.run = none ∧ (∀ i ∈ List.range 8, t.reg (Reg.SEC_OUT i) = Word.ofNat (leNat ((o.out.drop (4 * i)).take 4))) ∧ t.fld Reg.SEC_RES 0 4 = 0 ∧ t.bit Reg.SEC_CMD 31 = false ∧ t.irq pgSEC 0) ∧
  (∀ (s : State) (o : SecOp), s.sec.run = some o ∧ o.op = 4 ∧ o.res = 0 →
    Runs (.secOpDone) s fun t =>
      t.sec.run = none ∧ (∀ i ∈ List.range 8, t.reg (Reg.SEC_CHAL i) = Word.ofNat (leNat ((o.out.drop (4 * i)).take 4))) ∧ t.bit Reg.SEC_CMD 31 = false ∧ t.irq pgSEC 0) ∧
  (∀ (s : State) (o : SecOp), s.sec.run = some o ∧ o.op = 7 ∧ o.res = 0 →
    Runs (.secOpDone) s fun t =>
      t.sec.run = none ∧ (∀ i ∈ List.range 8, t.reg (Reg.SEC_CHAL2 i) = Word.ofNat (leNat ((o.out.drop (4 * i)).take 4))) ∧ t.fld Reg.SEC_RES 0 4 = 0 ∧ t.bit Reg.SEC_CMD 31 = false ∧ t.irq pgSEC 0) ∧
  (∀ (s : State) (o : SecOp), s.sec.run = some o ∧ (o.op = 2 ∨ o.op = 5 ∧ clearWritten s = true) ∧ o.res = 0 →
    Runs (.secOpDone) s fun t =>
      t.sec.run = none ∧ t.fld Reg.SEC_RES 0 4 = 0 ∧ t.bit Reg.SEC_CMD 31 = false ∧ t.irq pgSEC 0 ∧ (o.op = 5 → t.sec.waitSeq = none)) ∧
  (∀ (s : State), s.wf = true ∧ (s.sec.run.all (fun o => o.op == 5 && o.res == 0 && !clearWritten s) = true) →
    Runs (.secOpDone) s fun t =>
      t = s) ∧
  (∀ (s : State) (o : SecOp), s.sec.run = some o ∧ o.op = 3 ∧ o.res = 0 ∧ s.soundMemory ∧ o.out.length = 4128 ∧ sramRange (s.reg Reg.SEC_BUF).toNat 4096 = true ∧ sramGrants s .sec (s.reg Reg.SEC_BUF).toNat .write = true ∧ sramGrants s .sec ((s.reg Reg.SEC_BUF).toNat + 4095) .write = true →
    Runs (.secOpDone) s fun t =>
      t.sec.run = none ∧ (∀ i ∈ List.range 8, t.reg (Reg.SEC_MEAS i) = Word.ofNat (leNat ((o.out.drop (4 * i)).take 4))) ∧ (List.range 4096).all (fun i => (t.byte ((s.reg Reg.SEC_BUF).toNat + i)).toNat == o.out.getD (32 + i) 0 % 256) = true ∧ t.fld Reg.SEC_RES 0 4 = 0 ∧ t.irq pgSEC 0) ∧
  (∀ (s : State) (o : SecOp), s.sec.run = some o ∧ o.op = 3 ∧ o.res = 0 ∧ (sramGrants s .sec (s.reg Reg.SEC_BUF).toNat .write = false ∨ sramGrants s .sec ((s.reg Reg.SEC_BUF).toNat + 4095) .write = false) →
    Runs (.secOpDone) s fun t =>
      t.sec.run = none ∧ t.fld Reg.SEC_RES 0 4 = 8 ∧ s.reports pgSEC 0x1D04 t ∧ t.irq pgSEC 1 ∧ ∀ b, t.byte b = s.byte b) ∧
  (∀ (s : State) (o : SecOp) (new : Word), s.sec.run = some o ∧ o.op = 6 ∧ o.res = 0 ∧ Takes s .sec Reg.OPT_AUTH 1#32 new →
    Runs (.secOpDone) s fun t =>
      t.sec.run = none ∧ t.opt.auth = some (leNat (o.out.drop 32), BitVec.ofNat 256 (leNat (o.out.take 32))) ∧ t.bit (Reg.STAT pgOPT) 9 = true ∧ t.reg Reg.OPT_AUTH = 1#32) ∧
  (∀ (s : State) (o : SecOp), s.sec.run = some o ∧ o.res ≠ 0 ∧ o.res < 16 ∧ o.step < 16 →
    Runs (.secOpDone) s fun t =>
      t.sec.run = none ∧ t.fld Reg.SEC_RES 0 4 = o.res ∧ t.fld Reg.SEC_RES 8 4 = o.step ∧ t.bit Reg.SEC_CMD 31 = false ∧ t.irq pgSEC 1) ∧
  (∀ (s : State) (k n : Nat), (s.sec.chal.getD k ⟨[], none⟩).drawn = some n ∧ n + 60 * ticksPerSecond < s.ticks →
    Runs (.secChallengeExpiry k) s fun t =>
      (t.sec.chal.getD k ⟨[], none⟩).drawn = none ∧ (t.sec.chal.getD k ⟨[], none⟩).bytes = (s.sec.chal.getD k ⟨[], none⟩).bytes) ∧
  (∀ (s : State) (k : Nat), s.wf = true ∧ ((s.sec.chal.getD k ⟨[], none⟩).drawn.all (fun n => decide (s.ticks ≤ n + 60 * ticksPerSecond)) = true) →
    Runs (.secChallengeExpiry k) s fun t =>
      t = s)

/-- EVR (R465 to R476) while a record of its own is being programmed and the pre-failure ring is off. -/
def Obligations.RecordsReachTheEventRecorder : Prop :=
  (∀ (s : State) (r : Report) (l : List Report), s.evr.outbox = r :: l ∧ r.sev < 5 ∧ capturing s = false ∧ s.evr.stale = [] ∧ s.evr.clrBoot = none ∧ s.evr.lost = 0 ∧ s.evr.fw = none ∧ s.evr.issued.isSome = true ∧ s.bit Reg.EVR_CFG 9 = false ∧ intakeLen s < 64 →
    Runs (.evrReportIntake) s fun t =>
      t.evr.outbox = l ∧ t.evr.queue = s.evr.queue ++ (if s.fld Reg.EVR_CFG 0 3 ≤ r.sev then [(⟨(s.reg Reg.EVR_SEQ).toNat, r.sev, stamped s r.code r.master r.sev r.hw r.data, none, false⟩ : EvRec)] else []) ∧ t.fld Reg.EVR_SEQ 0 32 = (s.fld Reg.EVR_SEQ 0 32 + 1) % 2 ^ 32) ∧
  (∀ (s : State) (r : Report) (l : List Report), s.evr.outbox = r :: l ∧ s.evr.stale = [] ∧ s.evr.clrBoot = none ∧ 64 ≤ intakeLen s →
    Runs (.evrReportIntake) s fun t =>
      t.evr.outbox = l ∧ t.evr.queue = s.evr.queue ∧ t.evr.lost = s.evr.lost + 1 ∧ t.fld Reg.EVR_CNT 0 16 = min (s.fld Reg.EVR_CNT 0 16 + 1) 65535 ∧ t.irq pgEVR 1 ∧ s.reports pgEVR 0x1E02 t) ∧
  (∀ (s : State), s.wf = true ∧ s.evr.outbox = [] →
    Runs (.evrReportIntake) s fun t =>
      t = s) ∧
  (∀ (s : State) (m : Master) (new : Word), Takes s m Reg.EVR_WR 1#32 new ∧ s.evr.fw = none ∧ fwRights s = false →
    Runs (.evrWrGo m) s fun t =>
      t.evr.fw = some (m, none) ∧ t.bit Reg.EVR_WR 0 = true) ∧
  (∀ (s : State) (m : Master) (new : Word), Takes s m Reg.EVR_WR 1#32 new ∧ fwRights s = true ∧ fwRecordOk (s.bytes (s.reg Reg.EVR_WR_SRC).toNat 48) = true ∧ (s.bytes (s.reg Reg.EVR_WR_SRC).toNat 48).getD 2 0 < 5 ∧ s.soundMemory ∧ capturing s = false ∧ s.fld Reg.EVR_CFG 0 3 ≤ (s.bytes (s.reg Reg.EVR_WR_SRC).toNat 48).getD 2 0 ∧ s.evr.lost = 0 ∧ s.evr.fw = none ∧ s.evr.issued.isSome = true ∧ s.bit Reg.EVR_CFG 9 = false ∧ intakeLen s < 64 →
    Runs (.evrWrGo m) s fun t =>
      t.evr.fw = none ∧ t.bit Reg.EVR_WR 0 = false ∧ t.evr.queue = s.evr.queue ++ [⟨(s.reg Reg.EVR_SEQ).toNat, (s.bytes (s.reg Reg.EVR_WR_SRC).toNat 48).getD 2 0, stamped s (leNat ((s.bytes (s.reg Reg.EVR_WR_SRC).toNat 48).take 2)) m.id ((s.bytes (s.reg Reg.EVR_WR_SRC).toNat 48).getD 2 0) false ((s.bytes (s.reg Reg.EVR_WR_SRC).toNat 48).drop 4), none, false⟩]) ∧
  (∀ (s : State) (m : Master) (new : Word), Takes s m Reg.EVR_WR 1#32 new ∧ (s.evr.fw ≠ none ∨ fwRights s = true ∧ fwRecordOk (s.bytes (s.reg Reg.EVR_WR_SRC).toNat 48) = false) →
    Runs (.evrWrGo m) s fun t =>
      t.evr = s.evr ∧ s.reports pgEVR 0x1E01 t) ∧
  (∀ (s : State) (m : Master) (new : Word), Takes s m Reg.EVR_WR 0x100#32 new ∧ s.bit Reg.EVR_CFG 8 = true ∧ capturing s = false ∧ s.bit Reg.EVR_CFG 9 = false ∧ s.evr.issued.isSome = true →
    Runs (.evrCapture m) s fun t =>
      capturing t = true ∧ ∀ e ∈ s.evr.pfr, e.loc = 0 → t.evr.queue.any (fun q => q.seq == e.seq) = true) ∧
  (∀ (s : State) (m : Master) (new : Word), Takes s m Reg.EVR_WR 0x100#32 new ∧ (s.bit Reg.EVR_CFG 8 = false ∨ capturing s = true) →
    Runs (.evrCapture m) s fun t =>
      t.evr = s.evr ∧ capturing t = capturing s) ∧
  (∀ (s : State), capturing s = true ∧ s.evr.queue.any (·.capt) = false ∧ s.evr.outbox = [] →
    Runs (.evrCaptureDone) s fun t =>
      capturing t = false ∧ t.irq pgEVR 2) ∧
  (∀ (s : State), s.wf = true ∧ (capturing s = false ∨ s.evr.queue.any (·.capt) = true ∨ s.evr.outbox ≠ []) →
    Runs (.evrCaptureDone) s fun t =>
      t = s) ∧
  (∀ (s : State) (r : EvRec) (np : Nat), s.evr.issued = some (0, np) ∧ np < 1024 ∧ s.evr.queue = [r] ∧ r.sev < 5 ∧ flcOutstanding s 2 (fun k => decide (1 ≤ k) && decide (k ≤ 4)) = false ∧ (2, 1, true) ∈ s.flash.ended ∧ inFallback s = false ∧ s.evr.lost = 0 ∧ s.evr.fw = none ∧ s.bit Reg.EVR_CFG 9 = false →
    Runs (.evrRecordFlashed) s fun t =>
      t.evr.queue = [] ∧ t.evr.issued = none ∧ t.fld Reg.EVR_NPERM 0 11 = np + 1 ∧ (s.fld Reg.EVR_CFG 4 3 ≤ r.sev → t.irq pgEVR 0)) ∧
  (∀ (s : State) (r : EvRec) (k : Nat) (x : RingSec), s.evr.issued = some (1, k) ∧ s.evr.queue = [r] ∧ r.sev < 5 ∧ flcOutstanding s 2 (fun j => decide (1 ≤ j) && decide (j ≤ 4)) = false ∧ (2, 3, true) ∈ s.flash.ended ∧ s.evr.held = [x] ∧ x.sec = k ∧ s.evr.lost = 0 ∧ s.evr.fw = none ∧ s.bit Reg.EVR_CFG 9 = false →
    Runs (.evrRecordFlashed) s fun t =>
      t.evr.queue = [] ∧ t.evr.issued = none ∧ t.evr.held = [{ x with n := x.n + 1, first := if x.n = 0 then r.seq else x.first, last := r.seq }] ∧ (s.fld Reg.EVR_CFG 4 3 ≤ r.sev → t.irq pgEVR 0)) ∧
  (∀ (s : State) (r : EvRec) (p : Nat × Nat), s.evr.issued = some p ∧ s.evr.queue = [r] ∧ flcOutstanding s 2 (fun j => decide (1 ≤ j) && decide (j ≤ 4)) = false ∧ s.flash.ended.all (fun e => !(e.1 == 2 && decide (1 ≤ e.2.1) && decide (e.2.1 ≤ 3) && e.2.2)) = true ∧ s.bit Reg.EVR_CFG 9 = false →
    Runs (.evrRecordFlashed) s fun t =>
      t.evr.queue = [r] ∧ t.fld Reg.EVR_CNT 16 16 = min (s.fld Reg.EVR_CNT 16 16 + 1) 65535 ∧ (p.1 = 0 → p.2 < 2047 → inFallback s = false → t.fld Reg.EVR_NPERM 0 11 = p.2 + 1)) ∧
  (∀ (s : State), s.wf = true ∧ (s.evr.issued = none ∨ s.evr.queue = [] ∨ flcOutstanding s 2 (fun j => decide (1 ≤ j) && decide (j ≤ 4)) = true) →
    Runs (.evrRecordFlashed) s fun t =>
      t = s) ∧
  (∀ (s : State), s.bit (Reg.STAT pgEVR) 9 = true ∧ s.evr.stale = [] ∧ s.evr.clrBoot = none ∧ flcOutstanding s 2 (· == 7) = false →
    Runs (.evrClearDone) s fun t =>
      t.bit (Reg.STAT pgEVR) 9 = false ∧ t.irq pgEVR 3) ∧
  (∀ (s : State), s.wf = true ∧ (s.bit (Reg.STAT pgEVR) 9 = false ∨ s.evr.stale ≠ [] ∨ s.evr.clrBoot ≠ none ∨ flcOutstanding s 2 (· == 7) = true) →
    Runs (.evrClearDone) s fun t =>
      t = s)

/-- Register writes of every page (R14, R18, R431, R497, R502). Registers that are hard-wired are covered by the
invariant. -/
def Obligations.RegisterWritesFollowTheirRules : Prop :=
  (∀ (s : State) (m : Master) (a : Nat) (v new : Word), Takes s m a v new ∧ storeOnly a = true →
    Runs (.registerWrite m a 4 v) s fun t =>
      t.reg a = new ∧ (∀ x, hardWired s.variant x = false → x ≠ a → t.reg x = s.reg x) ∧ ∀ b, t.byte b = s.byte b) ∧
  (∀ (s : State) (m : Master) (p : Nat) (v : Word), p < 0x29 ∧ pageGrants s m p .write = true ∧ absentPart s.variant (Reg.IRQ_EN p) = false ∧ s.locked p = false →
    Runs (.registerWrite m (Reg.IRQ_EN p) 4 v) s fun t =>
      t.reg (Reg.IRQ_EN p) = v &&& Word.ofNat (irqMask p) ∧ t.reg (Reg.IRQ_STAT p) = s.reg (Reg.IRQ_STAT p) ||| (s.reg (Reg.IRQ_RAW p) &&& (v &&& Word.ofNat (irqMask p))) ∧ (∀ x, hardWired s.variant x = false → x ≠ Reg.IRQ_EN p → x ≠ Reg.IRQ_STAT p → t.reg x = s.reg x) ∧ ∀ b, t.byte b = s.byte b) ∧
  (∀ (s : State) (m : Master) (p : Nat) (v : Word), p < 0x29 ∧ pageGrants s m p .write = true ∧ absentPart s.variant (Reg.IRQ_RAW p) = false →
    Runs (.registerWrite m (Reg.IRQ_RAW p) 4 v) s fun t =>
      t.reg (Reg.IRQ_RAW p) = s.reg (Reg.IRQ_RAW p) &&& ~~~v ∧ (∀ x, hardWired s.variant x = false → x ≠ Reg.IRQ_RAW p → t.reg x = s.reg x) ∧ ∀ b, t.byte b = s.byte b) ∧
  (∀ (s : State) (m : Master) (p : Nat) (v : Word), p < 0x29 ∧ pageGrants s m p .write = true ∧ absentPart s.variant (Reg.IRQ_STAT p) = false →
    Runs (.registerWrite m (Reg.IRQ_STAT p) 4 v) s fun t =>
      t.reg (Reg.IRQ_STAT p) = (s.reg (Reg.IRQ_STAT p) &&& ~~~v) ||| (s.reg (Reg.IRQ_RAW p) &&& s.reg (Reg.IRQ_EN p)) ∧ (∀ x, hardWired s.variant x = false → x ≠ Reg.IRQ_STAT p → t.reg x = s.reg x) ∧ ∀ b, t.byte b = s.byte b) ∧
  (∀ (s : State) (m : Master) (a size : Nat) (v : Word), inPages a = true ∧ isPage a = true ∧ pageGrants s m (pageOf a) .write = false →
    Runs (.registerWrite m a size v) s fun t =>
      (∀ x, hardWired s.variant x = false → pageOf x ≠ 0x1E → t.reg x = s.reg x) ∧ t.irq 0x1E 0 ∧ ∀ b, t.byte b = s.byte b) ∧
  (∀ (s : State) (m : Master) (a size : Nat) (v : Word), inPages a = true ∧ isPage a = true ∧ pageGrants s m (pageOf a) .write = true ∧ (size ≠ 4 ∨ a % 4 ≠ 0) →
    Runs (.registerWrite m a size v) s fun t =>
      (∀ x, hardWired s.variant x = false → x ≠ Reg.ERR_INFO 0 → t.reg x = s.reg x) ∧ s.reports 0 0x2103 t ∧ ∀ b, t.byte b = s.byte b) ∧
  (∀ (s : State) (m : Master) (a : Nat) (v : Word), inPages a = true ∧ isPage a = true ∧ a % 0x1000 ≠ 4 ∧ judgeWrite s m a 4 v = .readOnly →
    Runs (.registerWrite m a 4 v) s fun t =>
      (∀ x, hardWired s.variant x = false → t.reg x = s.reg x) ∧ t.evr.outbox = s.evr.outbox ++ (if secondPassed s.roRecs a s.ticks then [⟨0x1E11, m.id, false, 1, bytesLE 4 a ++ bytesLE 4 v.toNat ++ bytesLE 4 4⟩] else []) ∧ ∀ b, t.byte b = s.byte b) ∧
  (∀ (s : State) (m : Master) (a : Nat) (v : Word), inPages a = true ∧ isPage a = true ∧ a % 0x1000 ≠ 4 ∧ a ≠ Reg.SEC_CMD ∧ judgeWrite s m a 4 v = .refused →
    Runs (.registerWrite m a 4 v) s fun t =>
      (∀ x, hardWired s.variant x = false → x ≠ Reg.ERR_INFO (pageOf a) → t.reg x = s.reg x) ∧ s.reports (pageOf a) (errBase (pageOf a) + 1) t ∧ ∀ b, t.byte b = s.byte b) ∧
  (∀ (s : State) (m : Master) (a : Nat) (v : Word) (d : RegDesc), inPages a = true ∧ isPage a = true ∧ pageGrants s m (pageOf a) .write = true ∧ a % 4 = 0 ∧ absentPart s.variant a = false ∧ 0x40 ≤ a % 0x1000 ∧ descOf a = some d ∧ d.acc = .rw ∧ s.locked (pageOf a) = true ∧ a ≠ Reg.SEC_CMD →
    Runs (.registerWrite m a 4 v) s fun t =>
      t.reg a = s.reg a ∧ s.reports (pageOf a) (errBase (pageOf a) + 1) t) ∧
  (∀ (s : State) (m : Master) (p : Nat) (v : Word), p < 0x29 ∧ pageGrants s m p .write = true ∧ absentPart s.variant (Reg.IRQ_EN p) = false ∧ s.locked p = true →
    Runs (.registerWrite m (Reg.IRQ_EN p) 4 v) s fun t =>
      t.reg (Reg.IRQ_EN p) = s.reg (Reg.IRQ_EN p) ∧ s.reports p (errBase p + 1) t) ∧
  (∀ (s : State) (m : Master) (a size : Nat) (v : Word), (inPages a = true ∧ isPage a = false ∨ inPages a = false ∧ mapped a = true ∧ (List.range 4).all (fun h => lncfgAddr h != a || hartMaster h != m) = true) →
    Runs (.registerWrite m a size v) s fun t =>
      (∀ x, hardWired s.variant x = false → t.reg x = s.reg x) ∧ t.evr = s.evr ∧ ∀ b, t.byte b = s.byte b) ∧
  (∀ (s : State) (m : Master) (a : Nat) (v : Word), isPage a = true ∧ a % 0x1000 ≠ 4 ∧ pageGrants s m (pageOf a) .write = true ∧ a % 4 = 0 ∧ absentPart s.variant a = true →
    Runs (.registerWrite m a 4 v) s fun t =>
      (∀ x, hardWired s.variant x = false → x ≠ Reg.ERR_INFO 0 → t.reg x = s.reg x) ∧ s.reports 0 0x2104 t) ∧
  (∀ (s : State) (h : Nat) (v : Word), h < 4 →
    Runs (.registerWrite (hartMaster h) (lncfgAddr h) 4 v) s fun t =>
      t.reg (lncfgAddr h) = v &&& 7#32)

/-- Reads of the pages (R495, R497, R501). -/
def Obligations.RegisterReadsClearAndLatch : Prop :=
  (∀ (s : State) (m : Master) (p : Nat), p < 0x29 ∧ clearsRc m = true ∧ pageGrants s m p .read = true ∧ absentPart s.variant (Reg.ERR_INFO p) = false ∧ latched s m (Reg.ERR_INFO p) = none →
    Runs (.rcRegisterRead m (Reg.ERR_INFO p)) s fun t =>
      t.resp = ⟨(s.reg (Reg.ERR_INFO p)).toNat, false⟩ ∧ t.reg (Reg.ERR_INFO p) = 0#32) ∧
  (∀ (s : State) (p : Nat), p < 0x29 ∧ pageGrants s .hostin p .read = true ∧ absentPart s.variant (Reg.ERR_INFO p) = false →
    Runs (.rcRegisterRead .hostin (Reg.ERR_INFO p)) s fun t =>
      t.resp = ⟨(s.reg (Reg.ERR_INFO p)).toNat, false⟩ ∧ t.reg (Reg.ERR_INFO p) = s.reg (Reg.ERR_INFO p)) ∧
  (∀ (s : State) (m : Master) (a hi : Nat), m ≠ .hostin ∧ isPage a = true ∧ a % 4 = 0 ∧ absentPart s.variant a = false ∧ pageGrants s m (pageOf a) .read = true ∧ highOf a = some hi ∧ latched s m a = none →
    Runs (.latchingLowWordRead m a) s fun t =>
      t.resp = ⟨(regPeek s a).toNat, false⟩ ∧ latched t m hi = some (regPeek s hi)) ∧
  (∀ (s : State) (m : Master) (a : Nat) (w : Word), m ≠ .hostin ∧ isPage a = true ∧ a % 4 = 0 ∧ absentPart s.variant a = false ∧ pageGrants s m (pageOf a) .read = true ∧ latched s m a = some w ∧ isRc a = false ∧ highOf a = none →
    Runs (.rcRegisterRead m a) s fun t =>
      t.resp = ⟨w.toNat, false⟩) ∧
  (∀ (s : State) (m : Master) (a : Nat), isPage a = true ∧ a % 4 = 0 ∧ pageGrants s m (pageOf a) .read = false →
    Runs (.latchingLowWordRead m a) s fun t =>
      t.resp = ⟨0, false⟩ ∧ t.irq 0x1E 0 ∧ t.latches = s.latches) ∧
  (∀ (s : State) (m : Master) (a : Nat), m ≠ .hostin ∧ isPage a = true ∧ a % 4 = 0 ∧ absentPart s.variant a = false ∧ pageGrants s m (pageOf a) .read = true ∧ isRc a = true ∧ a ≠ Reg.HDL_RSP ∧ a ≠ Reg.TICK_PH ∧ (List.range 4).all (fun l => a != Reg.DSK_LANE_SKEW l) = true →
    Runs (.rcRegisterRead m a) s fun t =>
      t.resp = ⟨((latched s m a).getD (seenBy s m a (regPeek s a))).toNat, false⟩ ∧ t.reg a = (if clearsRc m then 0#32 else s.reg a) ∧ ∀ b, t.byte b = s.byte b) ∧
  (∀ (s : State) (m : Master) (a : Nat), isPage a = true ∧ a % 4 = 0 ∧ absentPart s.variant a = false ∧ pageGrants s m (pageOf a) .read = true ∧ (m = .hostin ∨ clearsRc m = false ∧ a ≠ Reg.HDL_RSP ∧ (List.range 4).all (fun l => a != Reg.DSK_LANE_SKEW l) = true ∧ (List.range 5).all (fun h => a != Reg.IRQ_CLAIM h) = true) →
    Runs (.rcRegisterRead m a) s fun t =>
      ∀ x, hardWired s.variant x = false → t.reg x = s.reg x) ∧
  (∀ (s : State) (m : Master) (a : Nat) (w : Word), m ≠ .hostin ∧ isPage a = true ∧ a % 4 = 0 ∧ absentPart s.variant a = false ∧ pageGrants s m (pageOf a) .read = true ∧ latched s m a = some w ∧ isRc a = false ∧ highOf a = none ∧ a ≠ Reg.HDL_RSP ∧ a ≠ Reg.TICK_PH ∧ (List.range 4).all (fun l => a != Reg.DSK_LANE_SKEW l) = true ∧ (List.range 5).all (fun h => a != Reg.IRQ_CLAIM h) = true →
    Runs (.latchingLowWordRead m a) s fun t =>
      t.resp = ⟨w.toNat, false⟩ ∧ latched t m a = none) ∧
  (∀ (s : State) (m : Master) (l : Nat), m ≠ .hostin ∧ l < 4 ∧ pageGrants s m pgDSK .read = true ∧ absentPart s.variant (Reg.DSK_LANE_SKEW l) = false ∧ latched s m (Reg.DSK_LANE_SKEW l) = none →
    Runs (.rcRegisterRead m (Reg.DSK_LANE_SKEW l)) s fun t =>
      t.resp = ⟨(s.reg (Reg.DSK_LANE_SKEW l)).toNat, false⟩ ∧ t.fld (Reg.DSK_LANE_SKEW l) 16 11 = 0 ∧ t.fld (Reg.DSK_LANE_SKEW l) 0 16 = s.fld (Reg.DSK_LANE_SKEW l) 0 16) ∧
  (∀ (s : State) (m : Master) (a : Nat), inPages a = true ∧ isPage a = false →
    Runs (.rcRegisterRead m a) s fun t =>
      t.resp = ⟨0, false⟩ ∧ ∀ x, hardWired s.variant x = false → t.reg x = s.reg x) ∧
  (∀ (s : State) (m : Master) (a : Nat), isPage a = true ∧ a % 4 = 0 ∧ pageGrants s m (pageOf a) .read = true ∧ absentPart s.variant a = true ∧ latched s m a = none →
    Runs (.rcRegisterRead m a) s fun t =>
      t.resp = ⟨(if a % 0x1000 = 0 then Word.ofNat (0x4C000100 + pageOf a * 0x10000) else 0#32).toNat, false⟩ ∧ ∀ x, hardWired s.variant x = false → t.reg x = s.reg x) ∧
  (∀ (s : State) (m : Master) (a : Nat), mapped a = false →
    Runs (.unmappedAccess m a) s fun t =>
      t.resp = ⟨0, true⟩ ∧ s.reports 0 0x2102 t) ∧
  (∀ (s : State) (m : Master) (a : Nat), mapped a = true ∧ s.wf = true →
    Runs (.unmappedAccess m a) s fun t =>
      t = s)

/-- CTRL and LOCK of every page (R499, R502). -/
def Obligations.CtrlResetsAndFreezes : Prop :=
  (∀ (s : State) (m : Master) (p : Nat) (v : Word), isPage (Reg.CTRL p) = true ∧ p < 0x29 ∧ pageGrants s m p .write = true ∧ absentPart s.variant (Reg.CTRL p) = false ∧ ctrlRefused s p v = false ∧ s.locked p = false ∧ fieldOf v 1 1 = 1 ∧ (p = 3 ∨ p = 5 ∨ p = 8 ∨ p = 0x16 ∨ p = 0x25 ∨ p = 0x26) ∧ s.frozen p = false ∧ (m ≠ .dbg ∨ fieldOf v 2 1 = 0) →
    Runs (.ctrlSrst m p v) s fun t =>
      (List.range 1024).all (fun i => !srstDrops p (0x40000000 + p * 0x1000 + 4 * i) || t.reg (0x40000000 + p * 0x1000 + 4 * i) == regReset s.variant (0x40000000 + p * 0x1000 + 4 * i)) = true ∧ (List.range 1024).all (fun i => i < 16 || ((descOf (0x40000000 + p * 0x1000 + 4 * i)).map (fun d => d.acc != .rw || t.reg (0x40000000 + p * 0x1000 + 4 * i) &&& Word.ofNat d.rwMask == s.reg (0x40000000 + p * 0x1000 + 4 * i) &&& Word.ofNat d.rwMask)).getD true) = true ∧ t.reg (Reg.IRQ_RAW p) = 0#32 ∧ t.reg (Reg.IRQ_STAT p) = 0#32 ∧ t.reg (Reg.ERR_INFO p) = 0#32 ∧ t.bit (Reg.CTRL p) 0 = (fieldOf v 0 1 == 1) ∧ t.bit (Reg.CTRL p) 1 = false) ∧
  (∀ (s : State) (m : Master) (p : Nat) (v : Word), isPage (Reg.CTRL p) = true ∧ p < 0x29 ∧ pageGrants s m p .write = true ∧ absentPart s.variant (Reg.CTRL p) = false ∧ ctrlRefused s p v = false ∧ s.locked p = false ∧ fieldOf v 1 1 = 1 ∧ srstPage p = true ∧ s.frozen p = false ∧ (m ≠ .dbg ∨ fieldOf v 2 1 = 0) →
    Runs (.ctrlSrst m p v) s fun t =>
      t.reg (Reg.IRQ_EN p) = s.reg (Reg.IRQ_EN p) ∧ t.reg (Reg.LOCK p) = s.reg (Reg.LOCK p) ∧ t.bit (Reg.CTRL p) 0 = (fieldOf v 0 1 == 1) ∧ t.bit (Reg.CTRL p) 1 = false) ∧
  (∀ (s : State) (m : Master) (p : Nat) (v : Word), isPage (Reg.CTRL p) = true ∧ p < 0x29 ∧ pageGrants s m p .write = true ∧ absentPart s.variant (Reg.CTRL p) = false ∧ ctrlRefused s p v = false ∧ s.locked p = false ∧ fieldOf v 1 1 = 1 ∧ srstPage p = true ∧ s.frozen p = false ∧ (m ≠ .dbg ∨ fieldOf v 2 1 = 0) →
    Runs (.ctrlSrst m p v) s fun t =>
      (p = 0x03 → t.spn = State.reset.spn) ∧ (p = 0x04 → t.stp.groups = List.replicate 2 ⟨[], none⟩) ∧ (p = 0x05 → t.sv = State.reset.sv) ∧ (p = 0x08 → t.leng.trace = List.replicate 8 ⟨0, none, []⟩) ∧ (p = 0x0E → t.rd.ring = [] ∧ t.rd.tiles = none) ∧ (p = 0x0F → t.rd.work = [] ∧ t.rd.groups = [])) ∧
  (∀ (s : State) (m : Master) (p : Nat) (v : Word), isPage (Reg.CTRL p) = true ∧ p < 0x29 ∧ pageGrants s m p .write = true ∧ absentPart s.variant (Reg.CTRL p) = false ∧ ctrlRefused s p v = false ∧ s.locked p = false ∧ fieldOf v 1 1 = 1 ∧ srstPage p = true ∧ s.frozen p = false ∧ (m ≠ .dbg ∨ fieldOf v 2 1 = 0) →
    Runs (.ctrlSrst m p v) s fun t =>
      (p = 0x11 → t.rd.groups = []) ∧ (p = 0x12 → t.wenc.arms = []) ∧ (p = 0x13 → t.wenc.loadBuf = [] ∧ t.wenc.setMask = List.replicate 12 0) ∧ (p = 0x14 → t.wenc.heldRecs = []) ∧ (p = 0x15 → t.cal = { State.reset.cal with frac := s.cal.frac }) ∧ (p = 0x16 → t.fmt = State.reset.fmt)) ∧
  (∀ (s : State) (m : Master) (p : Nat) (v : Word), isPage (Reg.CTRL p) = true ∧ p < 0x29 ∧ pageGrants s m p .write = true ∧ absentPart s.variant (Reg.CTRL p) = false ∧ ctrlRefused s p v = false ∧ s.locked p = false ∧ fieldOf v 1 1 = 1 ∧ srstPage p = true ∧ s.frozen p = false ∧ (m ≠ .dbg ∨ fieldOf v 2 1 = 0) →
    Runs (.ctrlSrst m p v) s fun t =>
      (p = 0x18 → t.xlt.job = none ∧ t.xlt.reset = none) ∧ (p = 0x19 → t.hq.grants = []) ∧ (p = 0x1B → t.pcie.held = [] ∧ t.pcie.reads.all (fun r => r.tag.isSome) = true) ∧ (p = 0x1D → t.ms.mopRun = false ∧ t.ms.drain = false) ∧ (p = 0x1F → t.flash.scan = .due ∧ t.flash.reads = []) ∧ (p = 0x21 → t.sec.run = none)) ∧
  (∀ (s : State) (m : Master) (p : Nat) (v : Word), isPage (Reg.CTRL p) = true ∧ p < 0x29 ∧ pageGrants s m p .write = true ∧ absentPart s.variant (Reg.CTRL p) = false ∧ ctrlRefused s p v = false ∧ s.locked p = false ∧ fieldOf v 1 1 = 1 ∧ srstPage p = true ∧ s.frozen p = false ∧ (m ≠ .dbg ∨ fieldOf v 2 1 = 0) →
    Runs (.ctrlSrst m p v) s fun t =>
      (p = 0x24 → t.harts.all (fun h => h.claimed.isEmpty) = true) ∧ (p = 0x26 → t.boot.hot = false) ∧ (p = 0x28 → t.wenc.fifo = [] ∧ t.wenc.rsp = [])) ∧
  (∀ (s : State) (m : Master) (p : Nat) (v : Word), isPage (Reg.CTRL p) = true ∧ p < 0x29 ∧ pageGrants s m p .write = true ∧ absentPart s.variant (Reg.CTRL p) = false ∧ ctrlRefused s p v = false ∧ s.locked p = false ∧ fieldOf v 1 1 = 1 ∧ 0x0A ≤ p ∧ p ≤ 0x0D ∧ s.frozen p = false ∧ (m ≠ .dbg ∨ fieldOf v 2 1 = 0) →
    Runs (.ctrlSrst m p v) s fun t =>
      lstate t (p - 0x0A) = (if s.fld (Reg.RFL_MODE (p - 0x0A)) 0 2 = 1 ∨ s.fld (Reg.RFL_MODE (p - 0x0A)) 0 2 = 2 then 1 else 0) ∧ (t.lane (p - 0x0A)).outRun = 0 ∧ (t.lane (p - 0x0A)).firstAcq = true) ∧
  (∀ (s : State) (m : Master) (p : Nat) (v : Word), isPage (Reg.CTRL p) = true ∧ p < 0x29 ∧ pageGrants s m p .write = true ∧ absentPart s.variant (Reg.CTRL p) = false ∧ ctrlRefused s p v = false ∧ s.locked p = false ∧ fieldOf v 1 1 = 1 ∧ srstPage p = false →
    Runs (.ctrlSrst m p v) s fun t =>
      ∀ x, hardWired s.variant x = false → x ≠ Reg.CTRL p → pageOf x = p → t.reg x = s.reg x) ∧
  (∀ (s : State) (p : Nat) (v : Word), isPage (Reg.CTRL p) = true ∧ p < 0x29 ∧ pageGrants s .dbg p .write = true ∧ absentPart s.variant (Reg.CTRL p) = false ∧ ctrlRefused s p v = false ∧ s.locked p = false ∧ freezePage p = true ∧ s.bit Reg.OPT_SEL 12 = false ∧ fieldOf v 1 1 = 0 ∧ fieldOf v 2 1 = 1 →
    Runs (.ctrlFreeze .dbg p v) s fun t =>
      t.frozen p = true ∧ t.bit (Reg.CTRL p) 0 = (fieldOf v 0 1 == 1) ∧ (s.frozen p = false → t.wenc.gate = false)) ∧
  (∀ (s : State) (p : Nat) (v : Word), isPage (Reg.CTRL p) = true ∧ p < 0x29 ∧ pageGrants s .dbg p .write = true ∧ absentPart s.variant (Reg.CTRL p) = false ∧ ctrlRefused s p v = false ∧ s.locked p = false ∧ freezePage p = true ∧ s.bit Reg.OPT_SEL 12 = false ∧ fieldOf v 1 1 = 0 ∧ fieldOf v 2 1 = 0 →
    Runs (.ctrlFreeze .dbg p v) s fun t =>
      t.frozen p = false ∧ t.bit (Reg.CTRL p) 0 = (fieldOf v 0 1 == 1)) ∧
  (∀ (s : State) (m : Master) (p : Nat) (v : Word), isPage (Reg.CTRL p) = true ∧ p < 0x29 ∧ pageGrants s m p .write = true ∧ absentPart s.variant (Reg.CTRL p) = false ∧ ctrlRefused s p v = false ∧ fieldOf v 1 1 = 0 ∧ (m ≠ .dbg ∨ s.bit Reg.OPT_SEL 12 = true ∨ freezePage p = false) →
    Runs (.ctrlFreeze m p v) s fun t =>
      t.frozen p = s.frozen p ∧ (s.locked p = false → t.bit (Reg.CTRL p) 0 = (fieldOf v 0 1 == 1))) ∧
  (∀ (s : State) (m : Master) (p : Nat) (v : Word), isPage (Reg.CTRL p) = true ∧ p < 0x29 ∧ pageGrants s m p .write = true ∧ absentPart s.variant (Reg.CTRL p) = false ∧ ctrlRefused s p v = false ∧ s.locked p = true ∧ fieldOf v 1 1 = 0 ∧ (v ^^^ s.reg (Reg.CTRL p)) &&& ctrlMask p ≠ 0#32 →
    Runs (.ctrlFreeze m p v) s fun t =>
      t.bit (Reg.CTRL p) 0 = s.bit (Reg.CTRL p) 0 ∧ s.reports p (errBase p + 1) t) ∧
  (∀ (s : State) (m : Master) (p : Nat) (v : Word), p < 0x29 ∧ pageGrants s m p .write = true ∧ absentPart s.variant (Reg.CTRL p) = false ∧ ctrlRefused s p v = true →
    Runs (.ctrlSrst m p v) s fun t =>
      (∀ x, hardWired s.variant x = false → x ≠ Reg.ERR_INFO p → t.reg x = s.reg x) ∧ s.reports p (errBase p + 1) t) ∧
  (∀ (s : State) (m : Master) (p : Nat) (v : Word), p < 0x29 ∧ pageGrants s m p .write = false →
    Runs (.ctrlSrst m p v) s fun t =>
      (∀ x, hardWired s.variant x = false → pageOf x ≠ 0x1E → t.reg x = s.reg x) ∧ t.irq 0x1E 0 ∧ s.reports 0x1E 0x1A02 t) ∧
  (∀ (s : State) (m : Master) (p : Nat) (v : Word), p < 0x29 ∧ pageGrants s m p .write = true ∧ absentPart s.variant (Reg.CTRL p) = true →
    Runs (.ctrlSrst m p v) s fun t =>
      (∀ x, hardWired s.variant x = false → x ≠ Reg.ERR_INFO 0 → t.reg x = s.reg x) ∧ s.reports 0 0x2104 t) ∧
  (∀ (s : State) (m : Master) (p : Nat) (v : Word), p < 0x29 ∧ pageGrants s m p .write = true ∧ absentPart s.variant (Reg.CTRL p) = false ∧ ctrlRefused s p v = true →
    Runs (.ctrlFreeze m p v) s fun t =>
      (∀ x, hardWired s.variant x = false → x ≠ Reg.ERR_INFO p → t.reg x = s.reg x) ∧ s.reports p (errBase p + 1) t) ∧
  (∀ (s : State) (m : Master) (p : Nat) (v : Word), p < 0x29 ∧ pageGrants s m p .write = false →
    Runs (.ctrlFreeze m p v) s fun t =>
      (∀ x, hardWired s.variant x = false → pageOf x ≠ 0x1E → t.reg x = s.reg x) ∧ t.irq 0x1E 0 ∧ s.reports 0x1E 0x1A02 t) ∧
  (∀ (s : State) (m : Master) (p : Nat) (v : Word), p < 0x29 ∧ pageGrants s m p .write = true ∧ absentPart s.variant (Reg.CTRL p) = true →
    Runs (.ctrlFreeze m p v) s fun t =>
      (∀ x, hardWired s.variant x = false → x ≠ Reg.ERR_INFO 0 → t.reg x = s.reg x) ∧ s.reports 0 0x2104 t) ∧
  (∀ (s : State) (m : Master) (p : Nat) (v : Word), p < 0x29 ∧ pageGrants s m p .write = true ∧ absentPart s.variant (Reg.LOCK p) = false →
    Runs (.pageLock m p v) s fun t =>
      t.reg (Reg.LOCK p) = (if v = 0xA5#32 then 0xA5#32 else s.reg (Reg.LOCK p)) ∧ t.locked p = (s.locked p || v == 0xA5#32) ∧ ∀ x, hardWired s.variant x = false → x ≠ Reg.LOCK p → t.reg x = s.reg x) ∧
  (∀ (s : State) (m : Master) (p : Nat) (v : Word), p < 0x29 ∧ pageGrants s m p .write = false →
    Runs (.pageLock m p v) s fun t =>
      (∀ x, hardWired s.variant x = false → pageOf x ≠ 0x1E → t.reg x = s.reg x) ∧ t.irq 0x1E 0 ∧ s.reports 0x1E 0x1A02 t) ∧
  (∀ (s : State) (m : Master) (p : Nat) (v : Word), p < 0x29 ∧ pageGrants s m p .write = true ∧ absentPart s.variant (Reg.LOCK p) = true →
    Runs (.pageLock m p v) s fun t =>
      (∀ x, hardWired s.variant x = false → x ≠ Reg.ERR_INFO 0 → t.reg x = s.reg x) ∧ s.reports 0 0x2104 t)

/-- R16, over the states that the invariant State.wf admits; every step keeps it (StepKeepsCanonicalForm) and reset has it
(ResetIsCanonical). -/
def Obligations.PageIdsReadNeitherZeroNorOnes : Prop :=
  ∀ (s : State) (p : Nat), s.wf = true → p < 0x29 →
    regPeek s (0x40000000 + p * 0x1000) ≠ 0#32 ∧ regPeek s (0x40000000 + p * 0x1000) ≠ 0xFFFFFFFF#32

/-- R3. The write reaches the register (a write that the access table or the page's rules turn away requests nothing). -/
def Obligations.LineZeroIsRefusedOnTheLN7720 : Prop :=
  (∀ (s : State) (m : Master) (v new : Word), s.variant = .ln7720 ∧ Takes s m Reg.L2C_MOP v new ∧ fieldOf v 31 1 = 1 ∧ fieldOf v 0 3 = 4 →
    Runs (.l2cMopZero m v) s fun t =>
      t.ms = s.ms ∧ fieldOf (statNow t pgL2C) 2 1 = 1)

/-- R2. absentOn20 is the list of the absent parts' register instances (R1). -/
def Obligations.AbsentPartsReadZeroAndDropWrites : Prop :=
  (∀ (s : State) (a : Nat), s.variant = .ln7720 → absentOn20 a = true →
    regPeek s a = if a % 0x1000 = 0 then Word.ofNat (0x4C000100 + pageOf a * 0x10000) else 0#32) ∧
  (∀ (s : State) (m : Master) (a : Nat) (v : Word), s.variant = .ln7720 ∧ absentOn20 a = true ∧ a % 4 = 0 ∧
      pageGrants s m (pageOf a) .write = true →
    Runs (.registerWrite m a 4 v) s fun t =>
      (∀ x, hardWired s.variant x = false → x ≠ Reg.ERR_INFO 0 → t.reg x = s.reg x) ∧
      t.fld (Reg.ERR_INFO 0) 24 8 = min (s.fld (Reg.ERR_INFO 0) 24 8 + 1) 255 ∧
      (s.fld (Reg.ERR_INFO 0) 24 8 = 0 → t.fld (Reg.ERR_INFO 0) 16 8 = m.id)) ∧
  (∀ f : Nat → BitVec 64, fieldOf (optSel .ln7720 f) 6 2 = 0)

/-- R498 and R2 over every command and every state, also one that no run reaches. -/
def Obligations.HardWiredRegistersReadAsAtReset : Prop :=
  ∀ (c : Instr) (s : State), Runs c s fun t =>
    (∀ p, p < 0x29 → t.reg (0x40000000 + p * 0x1000) = Word.ofNat (0x4C000100 + p * 0x10000)) ∧
    (s.variant = .ln7720 → ∀ a, absentOn20 a = true → a % 0x1000 ≠ 0 → t.reg a = 0#32)

/-- The reset values that R422, R498, R504 and R335 state. Registers for which the spec gives none are the model's choice
(INVENTORY.md) and are not stated here. -/
def Obligations.ResetLeavesTheSpecsValues : Prop :=
  (∀ p ∈ List.range 0x29, State.reset.reg (0x40000000 + p * 0x1000) = Word.ofNat (0x4C000100 + p * 0x10000) ∧
      State.reset.reg (Reg.CTRL p) = (if p = 1 then 1#32 else 0#32) ∧
      State.reset.reg (Reg.IRQ_RAW p) = 0#32 ∧ State.reset.reg (Reg.IRQ_STAT p) = 0#32 ∧ State.reset.reg (Reg.IRQ_EN p) = 0#32 ∧
      State.reset.reg (Reg.ERR_INFO p) = 0#32 ∧ State.reset.reg (Reg.LOCK p) = 0#32) ∧
  (∀ a, State.reset.byte a = 0#8) ∧ State.reset.ticks = 0 ∧ State.reset.ms.l2 = [] ∧ State.reset.reg aCSTS = 0#32 ∧
  State.reset.reg (bar0 0) = 0x01030FFF#32 ∧ State.reset.pending = []

/-- R344, R346, R347, R356, R359, R378, R381, R384. In the first clauses XLT is frozen by the debugger, so that only HQ's
own part happens. A row whose command is not its own, or is not accepted, changes nothing (AdminQueuesAndFeatures). -/
def Obligations.IoCommandsAreTakenUp : Prop :=
  (∀ (s : State) (c : Ctx), s.aloneMounted c ∧ c.admin = false ∧ c.opc = 0x02 ∧ (dataBytes c ≤ 4096 - c.quad 6 % 4096 ∨ (dataBytes c ≤ 4096 - c.quad 6 % 4096 + 4096 ∧ c.quad 8 % 4096 = 0 ∧ c.quad 8 ≠ 0)) →
    Runs (.cmdRead c.seq) s fun t =>
      (t.ctx c.seq).map (fun x => (x.phase, x.pages)) = some (.running, if dataBytes c ≤ 4096 - c.quad 6 % 4096 then [c.quad 6] else [c.quad 6, c.quad 8])) ∧
  (∀ (s : State) (c : Ctx), s.aloneMounted c ∧ c.admin = false ∧ c.opc = 0x02 ∧ 4096 - c.quad 6 % 4096 + 4096 < dataBytes c ∧ c.quad 8 ≠ 0 →
    Runs (.cmdRead c.seq) s fun t =>
      (t.ctx c.seq).map (fun x => (x.phase, x.pages, x.prpNext)) = some (.running, [c.quad 6], some (c.quad 8)) ∧ awaits t (.prp c.seq) = true) ∧
  (∀ (s : State) (c : Ctx), s.aloneMounted c ∧ c.admin = false ∧ c.opc = 0x01 ∧ (dataBytes c ≤ 4096 - c.quad 6 % 4096 ∨ (dataBytes c ≤ 4096 - c.quad 6 % 4096 + 4096 ∧ c.quad 8 % 4096 = 0 ∧ c.quad 8 ≠ 0)) →
    Runs (.cmdWrite c.seq) s fun t =>
      (t.ctx c.seq).map (fun x => (x.phase, x.pages)) = some (.running, if dataBytes c ≤ 4096 - c.quad 6 % 4096 then [c.quad 6] else [c.quad 6, c.quad 8])) ∧
  (∀ (s : State) (c : Ctx), s.aloneMounted c ∧ c.admin = false ∧ c.opc = 0x01 ∧ 4096 - c.quad 6 % 4096 + 4096 < dataBytes c ∧ c.quad 8 ≠ 0 →
    Runs (.cmdWrite c.seq) s fun t =>
      (t.ctx c.seq).map (fun x => (x.phase, x.pages, x.prpNext)) = some (.running, [c.quad 6], some (c.quad 8)) ∧ awaits t (.prp c.seq) = true) ∧
  (∀ (s : State) (c : Ctx), s.aloneMounted c ∧ c.admin = false ∧ c.opc = 0x05 ∧ (dataBytes c ≤ 4096 - c.quad 6 % 4096 ∨ (dataBytes c ≤ 4096 - c.quad 6 % 4096 + 4096 ∧ c.quad 8 % 4096 = 0 ∧ c.quad 8 ≠ 0)) →
    Runs (.cmdCompare c.seq) s fun t =>
      (t.ctx c.seq).map (fun x => (x.phase, x.pages)) = some (.running, if dataBytes c ≤ 4096 - c.quad 6 % 4096 then [c.quad 6] else [c.quad 6, c.quad 8])) ∧
  (∀ (s : State) (c : Ctx), s.aloneMounted c ∧ c.admin = false ∧ c.opc = 0x05 ∧ 4096 - c.quad 6 % 4096 + 4096 < dataBytes c ∧ c.quad 8 ≠ 0 →
    Runs (.cmdCompare c.seq) s fun t =>
      (t.ctx c.seq).map (fun x => (x.phase, x.pages, x.prpNext)) = some (.running, [c.quad 6], some (c.quad 8)) ∧ awaits t (.prp c.seq) = true) ∧
  (∀ (s : State) (c : Ctx), s.aloneMounted c ∧ c.admin = false ∧ c.opc = 0x09 ∧ (dataBytes c ≤ 4096 - c.quad 6 % 4096 ∨ (dataBytes c ≤ 4096 - c.quad 6 % 4096 + 4096 ∧ c.quad 8 % 4096 = 0 ∧ c.quad 8 ≠ 0)) →
    Runs (.cmdDatasetManagement c.seq) s fun t =>
      (t.ctx c.seq).map (fun x => (x.phase, x.pages)) = some (.running, if dataBytes c ≤ 4096 - c.quad 6 % 4096 then [c.quad 6] else [c.quad 6, c.quad 8])) ∧
  (∀ (s : State) (c : Ctx), s.aloneMounted c ∧ c.admin = false ∧ c.opc = 0x08 →
    Runs (.cmdWriteZeroes c.seq) s fun t =>
      (t.ctx c.seq).map (·.phase) = some .running) ∧
  (∀ (s : State) (c : Ctx), s.aloneMounted c ∧ c.admin = false ∧ c.opc = 0x00 →
    Runs (.cmdFlush c.seq) s fun t =>
      (t.ctx c.seq).map (·.phase) = some .running) ∧
  (∀ (s : State) (c : Ctx) (k : Instr) (st : Nat), s.aloneMounted c ∧ c.admin = false ∧ (cmdKey c, k) ∈ cmdRows c.seq none ∧ 4096 - c.quad 6 % 4096 < dataBytes c ∧ (c.quad 8 = 0 ∧ st = stDataXfer ∨ dataBytes c ≤ 4096 - c.quad 6 % 4096 + 4096 ∧ c.quad 8 % 4096 ≠ 0 ∧ st = stPrpOffset) →
    Runs (k) s fun t =>
      t.answered s c st 0 = true) ∧
  (∀ (s : State) (c : Ctx) (k : Instr) (st : Nat), s.still ∧ s.hq.ctx = [c] ∧ c.phase = .accepted ∧ lgRuns s = false ∧ cfs s = false ∧ c.admin = false ∧ (cmdKey c, k) ∈ cmdRows c.seq none ∧ entryFault s c = some st →
    Runs (k) s fun t =>
      t.answered s c st 0 = true) ∧
  (∀ (s : State) (c : Ctx), s.still ∧ s.hq.ctx = [c] ∧ c.phase = .accepted ∧ lgRuns s = false ∧ cfs s = false ∧ s.boot.phase ≠ .recovery ∧ c.admin = false ∧ c.opc = 0x01 ∧ reservedSet c = false ∧ formBad c = false ∧ nsidOk c = true ∧ s.sv.focusLost = false ∧ writeProt s = true →
    Runs (.cmdWrite c.seq) s fun t =>
      t.answered s c stWriteProt 0 = true) ∧
  (∀ (s : State) (c : Ctx), s.still ∧ s.hq.ctx = [c] ∧ c.phase = .accepted ∧ lgRuns s = false ∧ cfs s = false ∧ s.boot.phase ≠ .recovery ∧ c.admin = false ∧ c.opc = 0x02 ∧ reservedSet c = false ∧ formBad c = false ∧ nsidOk c = true ∧ s.sv.focusLost = false ∧ c.nlb ≤ 256 ∧ (s.reg Reg.XLT_NSZE).toNat < c.slba + c.nlb →
    Runs (.cmdRead c.seq) s fun t =>
      t.answered s c stLbaRange 0 = true) ∧
  (∀ (s : State) (c : Ctx), mounted s = false ∧ s.xlt.jr.units = [] ∧ s.hq.shut = 0 ∧ s.boot.warm = false ∧ s.hq.ctx = [c] ∧ c.phase = .accepted ∧ lgRuns s = false ∧ cfs s = false ∧ c.admin = false ∧ c.opc = 0x00 ∧ reservedSet c = false ∧ formBad c = false ∧ nsidOk c = true →
    Runs (.cmdFlush c.seq) s fun t =>
      t.answered s c stNotReady 0 = true) ∧
  (∀ (s : State) (c : Ctx), s.resting ∧ s.hq.ctx = [c] ∧ c.phase = .accepted ∧ entryFault s c = none ∧ c.admin = false ∧ c.opc = 0x00 →
    Runs (.cmdFlush c.seq) s fun t =>
      t.answered s c stOk 0 = true) ∧
  (∀ (s : State) (c : Ctx), s.resting ∧ s.soundMemory ∧ s.hq.ctx = [c] ∧ c.phase = .accepted ∧ entryFault s c = none ∧ c.admin = false ∧ mayIssue s = true ∧ c.opc = 0x02 ∧ prpReady { c with pages := [c.quad 6] } = true ∧ (lookup s c.slba c.nlb).1.2 = none ∧ (piecesOf c.slba c.nlb (lookup s c.slba c.nlb).1.1).all (fun p => p.st == 0 || p.st == 2) = true →
    Runs (.cmdRead c.seq) s fun t =>
      t.answered s c stOk 0 = true ∧ t.dataSent s = List.replicate (4096 * c.nlb) 0) ∧
  (∀ (s : State) (c : Ctx), s.resting ∧ s.soundMemory ∧ s.hq.ctx = [c] ∧ c.phase = .accepted ∧ entryFault s c = none ∧ c.admin = false ∧ c.opc = 0x05 ∧ prpReady { c with pages := [c.quad 6] } = true ∧ (lookup s c.slba c.nlb).1.2 = none ∧ (piecesOf c.slba c.nlb (lookup s c.slba c.nlb).1.1).all (fun p => p.st == 0 || p.st == 2) = true →
    Runs (.cmdCompare c.seq) s fun t =>
      (t.ctx c.seq).map (fun x => (x.phase, x.snap.isSome)) = some (.running, true) ∧ awaits t (.data c.seq) = true) ∧
  (∀ (s : State) (c : Ctx) (k : Nat), s.resting ∧ s.soundMemory ∧ s.hq.ctx = [c] ∧ c.phase = .accepted ∧ entryFault s c = none ∧ c.admin = false ∧ writingEnded s = false ∧ c.opc = 0x01 ∧ prpReady { c with pages := [c.quad 6] } = true ∧ (lookup s c.slba c.nlb).1.2 = none ∧ canReserve s c.slba c.nlb = true ∧ k = streamOf s (heatOf s (lookup s c.slba c.nlb).1.1).1 ∧ capacityGone s k = false ∧ c.nlb ≤ roomFor s k →
    Runs (.cmdWrite c.seq) s fun t =>
      (t.ctx c.seq).map (·.phase) = some .running ∧ awaits t (.data c.seq) = true ∧ (t.xlt.slots.flatMap (·.items)).map (fun i => (i.lba, i.seq)) = (List.range c.nlb).map (fun i => (c.slba + i, some c.seq)) ∧ t.xlt.slots.all (fun x => x.kind == .stream k) = true) ∧
  (∀ (s : State) (c : Ctx), s.resting ∧ s.soundMemory ∧ s.hq.ctx = [c] ∧ c.phase = .accepted ∧ entryFault s c = none ∧ c.admin = false ∧ c.opc = 0x08 ∧ (lookup s c.slba c.nlb).1.2 = none ∧ canReserve s c.slba c.nlb = true →
    Runs (.cmdWriteZeroes c.seq) s fun t =>
      (t.ctx c.seq).map (·.phase) = some .latched ∧ t.xlt.jr.units.map (fun u => (u.what, u.recs)) = [(.host c.seq, ((unitRanges { c with heat := (heatOf s (lookup s c.slba c.nlb).1.1).1, gen := (heatOf s (lookup s c.slba c.nlb).1.1).2 }).zipIdx.map (fun r => rangeRecord c.seq 1 r.2 r.1)))] ∧ (unitRanges c).length = 1) ∧
  (∀ (s : State) (c : Ctx), s.resting ∧ s.soundMemory ∧ s.hq.ctx = [c] ∧ c.phase = .accepted ∧ entryFault s c = none ∧ c.admin = false ∧ c.opc = 0x09 ∧ prpReady { c with pages := [c.quad 6] } = true →
    Runs (.cmdDatasetManagement c.seq) s fun t =>
      (t.ctx c.seq).map (fun x => (x.phase, x.step)) = some (.running, 1) ∧ awaits t (.data c.seq) = true)

/-- R21, R53, R361, R364, R372, R402. -/
def Obligations.DiscsAreLoadedUnloadedAndVerified : Prop :=
  (∀ (s : State) (c : Ctx) (x : LoadIn) (di : List Nat), s.alone c ∧ s.frozen pgXLT = true ∧ c.admin = true ∧ c.opc = 0xC1 ∧ c.f 10 0 4 = 0 ∧ x.result ≠ 3 ∧ x.result ≠ 4 ∧ findDi x.words = .accepted di →
    Runs (.cmdDiscLoad c.seq (some x)) s fun t =>
      mounted t = true ∧ t.reg Reg.XLT_NSZE = Word.ofNat (nszeOf (diMtype di == 2) (dataBricks (diBricks di) (diSpares di))) ∧ t.wenc.nbrick = diBricks di ∧ t.answered s c stOk (diMtype di % 256 * 256 + diSide di % 2 * 65536) = true) ∧
  (∀ (s : State) (c : Ctx) (x : LoadIn), s.alone c ∧ s.frozen pgXLT = true ∧ c.admin = true ∧ c.opc = 0xC1 ∧ c.f 10 0 4 = 0 ∧ x.result = 4 →
    Runs (.cmdDiscLoad c.seq (some x)) s fun t =>
      mounted t = false ∧ (t.reg Reg.XLT_NSZE) = s.reg Reg.XLT_NSZE ∧ t.answered s c stNotReady 4 = true) ∧
  (∀ (s : State) (c : Ctx) (x : LoadIn), s.alone c ∧ s.frozen pgXLT = true ∧ c.admin = true ∧ c.opc = 0xC1 ∧ c.f 10 0 4 = 0 ∧ x.result ≠ 4 ∧ findDi x.words = .nothing →
    Runs (.cmdDiscLoad c.seq (some x)) s fun t =>
      mounted t = false ∧ (t.reg Reg.XLT_NSZE) = s.reg Reg.XLT_NSZE ∧ t.answered s c (if x.result = 3 then stFocus else stDiscRefused) (if x.result = 3 then 3 else 2) = true) ∧
  (∀ (s : State) (c : Ctx) (x : LoadIn) (di : List Nat), s.alone c ∧ s.frozen pgXLT = true ∧ c.admin = true ∧ c.opc = 0xC1 ∧ c.f 10 0 4 = 0 ∧ x.result ≠ 4 ∧ findDi x.words = .refused di ∧ s.hq.masked = [] ∧ s.hq.waiting = [] →
    Runs (.cmdDiscLoad c.seq (some x)) s fun t =>
      mounted t = false ∧ (t.reg Reg.XLT_NSZE) = s.reg Reg.XLT_NSZE ∧ t.answered s c stDiscRefused (1 + diMtype di % 256 * 256 + diSide di % 2 * 65536) = true ∧ t.evr.outbox.map (·.code) = s.evr.outbox.map (·.code) ++ [Config.discRefusedCode]) ∧
  (∀ (s : State) (c : Ctx) (x : LoadIn) (di : List Nat), s.alone c ∧ s.frozen pgXLT = true ∧ c.admin = true ∧ c.opc = 0xC1 ∧ c.f 10 0 4 = 0 ∧ x.result = 3 ∧ findDi x.words = .accepted di →
    Runs (.cmdDiscLoad c.seq (some x)) s fun t =>
      mounted t = false ∧ (t.reg Reg.XLT_NSZE) = s.reg Reg.XLT_NSZE ∧ t.answered s c stFocus (3 + diMtype di % 256 * 256 + diSide di % 2 * 65536) = true) ∧
  (∀ (s : State) (c : Ctx), s.alone c ∧ s.frozen pgXLT = true ∧ c.admin = true ∧ c.opc = 0xC1 ∧ c.f 10 0 4 = 0 →
    Runs (.cmdDiscLoad c.seq none) s fun t =>
      (t.ctx c.seq).map (·.phase) = some .running ∧ mounted t = false ∧ (t.reg Reg.XLT_NSZE) = s.reg Reg.XLT_NSZE) ∧
  (∀ (s : State) (c : Ctx) (x : Option LoadIn), s.aloneMounted c ∧ c.admin = true ∧ c.opc = 0xC1 ∧ c.f 10 0 4 = 0 →
    Runs (.cmdDiscLoad c.seq x) s fun t =>
      t.answered s c stDiscPresent 0 = true ∧ mounted t = true) ∧
  (∀ (s : State) (c : Ctx), s.resting ∧ s.hq.ctx = [c] ∧ c.admin = true ∧ c.opc = 0xC1 ∧ c.phase = .accepted ∧ entryFault s c = none ∧ c.f 10 0 4 = 2 ∧ c.step = 0 ∧ s.xlt.rw = true ∧ (s.brick 2).st = 9 ∧ (s.brick 3).st = 9 ∧ writingEnded s = false →
    Runs (.cmdDiscUnload c.seq) s fun t =>
      (t.ctx c.seq).map (fun x => (x.phase, x.step)) = some (.running, 1) ∧ (t.xlt.ckpt).map (fun k => (k.gen, k.clean)) = some (s.xlt.gen + 1, true) ∧ mounted t = true) ∧
  (∀ (s : State) (c : Ctx), s.resting ∧ s.hq.ctx = [c] ∧ c.admin = true ∧ c.opc = 0xC1 ∧ c.phase = .accepted ∧ entryFault s c = none ∧ c.f 10 0 4 = 3 ∧ c.step = 0 ∧ s.xlt.rw = true ∧ (s.brick 2).st = 9 ∧ (s.brick 3).st = 9 ∧ writingEnded s = false →
    Runs (.cmdDiscPrepareFlip c.seq) s fun t =>
      (t.ctx c.seq).map (fun x => (x.phase, x.step)) = some (.running, 1) ∧ (t.xlt.ckpt).map (fun k => (k.gen, k.clean)) = some (s.xlt.gen + 1, true) ∧ mounted t = true) ∧
  (∀ (s : State) (c : Ctx), s.resting ∧ s.hq.ctx = [c] ∧ c.admin = true ∧ c.opc = 0xC1 ∧ c.phase = .running ∧ c.f 10 0 4 = 2 ∧ c.step = 1 ∧ c.prpNext = none →
    Runs (.cmdDiscUnload c.seq) s fun t =>
      mounted t = false ∧ t.reg Reg.XLT_NSZE = 0#32 ∧ t.answered s c stOk 0 = true) ∧
  (∀ (s : State) (c : Ctx), s.resting ∧ s.hq.ctx = [c] ∧ c.admin = true ∧ c.opc = 0xC1 ∧ c.phase = .running ∧ c.f 10 0 4 = 3 ∧ c.step = 1 ∧ c.prpNext = none →
    Runs (.cmdDiscPrepareFlip c.seq) s fun t =>
      mounted t = false ∧ t.reg Reg.XLT_NSZE = 0#32 ∧ t.answered s c stOk 0 = true) ∧
  (∀ (s : State) (c : Ctx) (l : List Nat), s.aloneMounted c ∧ c.admin = true ∧ c.opc = 0xC4 ∧ c.f 10 0 2 ≠ 3 ∧ s.hq.verify.st ≠ 1 ∧ (verifyRange s c).toOption = some l →
    Runs (.cmdMediaVerify c.seq) s fun t =>
      t.hq.verify = ⟨s.hq.verify.id % 65535 + 1, 1, l, l.length, 0, 0⟩ ∧ t.answered s c stOk (s.hq.verify.id % 65535 + 1) = true) ∧
  (∀ (s : State) (c : Ctx) (st : Nat), s.aloneMounted c ∧ c.admin = true ∧ c.opc = 0xC4 ∧ c.f 10 0 2 ≠ 3 ∧ s.hq.verify.st ≠ 1 ∧ errorOf (verifyRange s c) = some st →
    Runs (.cmdMediaVerify c.seq) s fun t =>
      t.hq.verify = s.hq.verify ∧ t.answered s c st 0 = true) ∧
  (∀ (s : State) (c : Ctx), s.aloneMounted c ∧ c.admin = true ∧ c.opc = 0xC4 ∧ c.f 10 0 2 ≠ 3 ∧ s.hq.verify.st = 1 →
    Runs (.cmdMediaVerify c.seq) s fun t =>
      t.hq.verify = s.hq.verify ∧ t.answered s c stVerifyRuns 0 = true)

/-- R377 to R403 while XLT is frozen by the debugger, so that each row's own effect stands alone. -/
def Obligations.TranslationRunsItsBackgroundWork : Prop :=
  (∀ (s : State) (u : JUnit) (c : Ctx), mounted s = true ∧ s.frozen pgXLT = true ∧ s.hq.shut = 0 ∧ s.boot.warm = false ∧ s.xlt.jr.units = [u] ∧ unitDurable s = some u ∧ s.hq.ctx = [c] ∧ c.phase = .latched ∧ u.what = .host c.seq →
    Runs (.journalUnitDurable) s fun t =>
      t.xlt.jr.units = [] ∧ t.answered s c stOk 0 = true) ∧
  (∀ (s : State) (u : JUnit) (n : Nat), mounted s = true ∧ s.frozen pgXLT = true ∧ s.hq.shut = 0 ∧ s.boot.warm = false ∧ s.xlt.jr.units = [u] ∧ unitDurable s = some u ∧ s.hq.ctx = [] ∧ u.what = .seqres n ∧ n < 2 ^ 48 →
    Runs (.journalUnitDurable) s fun t =>
      t.xlt.jr.units = [] ∧ seqMark t = n) ∧
  (∀ (s : State) (u : JUnit), mounted s = true ∧ s.frozen pgXLT = true ∧ s.hq.shut = 0 ∧ s.boot.warm = false ∧ s.xlt.jr.units = [u] ∧ unitDurable s = some u ∧ s.hq.ctx = [] ∧ u.what = .copy →
    Runs (.journalUnitDurable) s fun t =>
      t.xlt.jr.units = [] ∧ t.xlt.slots = s.xlt.slots ∧ t.xlt.job = s.xlt.job) ∧
  (∀ (s : State) (u : JUnit) (k : Ckpt), mounted s = true ∧ s.frozen pgXLT = true ∧ s.hq.shut = 0 ∧ s.boot.warm = false ∧ s.xlt.jr.units = [u] ∧ unitDurable s = some u ∧ s.hq.ctx = [] ∧ u.what = .ckpt ∧ s.xlt.ckpt = some k →
    Runs (.journalUnitDurable) s fun t =>
      t.xlt.jr.units = [] ∧ t.xlt.ckpt = none ∧ t.xlt.gen = k.gen ∧ t.reg Reg.XLT_CKPT_GEN = Word.ofNat k.gen ∧ t.bit Reg.XLT_CKPT 16 = false ∧ t.fld Reg.XLT_CKPT 24 3 = 0 ∧ t.irq pgXLT 3) ∧
  (∀ (s : State) (u : JUnit) (n q : Nat), mounted s = true ∧ s.frozen pgXLT = true ∧ s.hq.shut = 0 ∧ s.boot.warm = false ∧ s.xlt.jr.units = [u] ∧ unitDurable s = some u ∧ s.soundMemory ∧ s.hq.ctx = [] ∧ u.what = .brick n q ∧ (q = 0 ∨ q = 4) ∧ n < 2 ^ 16 ∧ sramRange (brickAddr s n) 16 = true ∧ sramGrants s .xlt (brickAddr s n) .write = true →
    Runs (.journalUnitDurable) s fun t =>
      t.xlt.jr.units = [] ∧ (t.brick n).st = q ∧ (t.brick n).stream = 2) ∧
  (∀ (s : State), s.still ∧ s.hq.ctx = [] ∧ unitDurable s = none →
    Runs (.journalUnitDurable) s fun t =>
      t.xlt = { s.xlt with jr := t.xlt.jr } ∧ t.xlt.jr.units = [] ∧ t.mem = s.mem ∧ t.hq.ctx = []) ∧
  (∀ (s : State) (m : Master) (v new : Word), s.still ∧ s.hq.ctx = [] ∧ Takes s m Reg.XLT_CKPT v new ∧ fieldOf v 16 1 = 1 ∧ s.xlt.ckpt = none ∧ s.xlt.rw = true ∧ (s.brick 2).st = 9 ∧ (s.brick 3).st = 9 ∧ writingEnded s = false →
    Runs (.xltCkptGo m v) s fun t =>
      (t.xlt.ckpt).map (·.gen) = some (s.xlt.gen + 1) ∧ t.xlt.dirty = false ∧ t.xlt.ckptAt = s.ticks ∧ t.bit Reg.XLT_CKPT 16 = true ∧ t.fld Reg.XLT_CKPT 0 16 = fieldOf new 0 16) ∧
  (∀ (s : State) (m : Master) (v new : Word), Takes s m Reg.XLT_CKPT v new ∧ fieldOf v 16 1 = 0 →
    Runs (.xltCkptGo m v) s fun t =>
      t.xlt = s.xlt ∧ t.reg Reg.XLT_CKPT = new) ∧
  (∀ (s : State) (m : Master) (v new : Word) (k : Ckpt), Takes s m Reg.XLT_CKPT v new ∧ fieldOf v 16 1 = 1 ∧ s.xlt.ckpt = some k →
    Runs (.xltCkptGo m v) s fun t =>
      t.xlt = s.xlt ∧ t.reg Reg.XLT_CKPT = s.reg Reg.XLT_CKPT ∧ s.reports pgXLT 0x1601 t) ∧
  (∀ (s : State), s.still ∧ s.hq.ctx = [] ∧ s.xlt.dirty = true ∧ s.xlt.ckptAt + 1600000 * s.fld Reg.XLT_CKPT 0 16 ≤ s.ticks ∧ s.xlt.ckpt = none ∧ s.xlt.rw = true ∧ (s.brick 2).st = 9 ∧ (s.brick 3).st = 9 ∧ writingEnded s = false →
    Runs (.xltCkptInterval) s fun t =>
      (t.xlt.ckpt).map (·.gen) = some (s.xlt.gen + 1) ∧ t.xlt.dirty = false ∧ t.xlt.ckptAt = s.ticks ∧ t.bit Reg.XLT_CKPT 16 = true) ∧
  (∀ (s : State), s.wf = true ∧ ¬(s.xlt.dirty = true ∧ s.xlt.ckptAt + 1600000 * s.fld Reg.XLT_CKPT 0 16 ≤ s.ticks) →
    Runs (.xltCkptInterval) s fun t =>
      t = s) ∧
  (∀ (s : State) (m : Master) (v new : Word), Takes s m Reg.XLT_LK_CTRL v new ∧ fieldOf v 0 1 = 1 ∧ mounted s = false →
    Runs (.xltLookup m v) s fun t =>
      t.reg Reg.XLT_LK_CTRL = 0x300#32) ∧
  (∀ (s : State) (m : Master) (v new : Word), Takes s m Reg.XLT_LK_CTRL v new ∧ fieldOf v 0 1 = 0 →
    Runs (.xltLookup m v) s fun t =>
      t.reg Reg.XLT_LK_CTRL = new ∧ [0, 1, 2, 3].all (fun k => decide (t.reg (Reg.XLT_LK_CTX k) = s.reg (Reg.XLT_LK_CTX k))) = true) ∧
  (∀ (s : State) (m : Master) (v new : Word) (i : Nat) (l : List Nat) (es : List Ext) (e : Ext), Takes s m Reg.XLT_LK_CTRL v new ∧ fieldOf v 0 1 = 1 ∧ mounted s = true ∧ leavesOf (readIndex s).1 ((s.reg Reg.XLT_LK_LBA_LO).toNat + s.fld Reg.XLT_LK_LBA_HI 0 8 * 2 ^ 32) 1 = i :: l ∧ (readLeaf (readIndex s).2 ((((readIndex s).1[i]?).map (·.leaf)).getD 0)).1 = some es ∧ es.find? (fun x => decide (x.start ≤ ((s.reg Reg.XLT_LK_LBA_LO).toNat + s.fld Reg.XLT_LK_LBA_HI 0 8 * 2 ^ 32)) && decide (((s.reg Reg.XLT_LK_LBA_LO).toNat + s.fld Reg.XLT_LK_LBA_HI 0 8 * 2 ^ 32) < x.start + x.len)) = some e →
    Runs (.xltLookup m v) s fun t =>
      t.reg Reg.XLT_LK_CTRL = 0x100#32 ∧ [0, 1, 2, 3].all (fun k => decide (t.reg (Reg.XLT_LK_CTX k) = Word.ofNat (e.word / 2 ^ (32 * k) % 2 ^ 32))) = true) ∧
  (∀ (s : State) (m : Master) (v new : Word) (i : Nat) (l : List Nat) (es : List Ext), Takes s m Reg.XLT_LK_CTRL v new ∧ fieldOf v 0 1 = 1 ∧ mounted s = true ∧ leavesOf (readIndex s).1 ((s.reg Reg.XLT_LK_LBA_LO).toNat + s.fld Reg.XLT_LK_LBA_HI 0 8 * 2 ^ 32) 1 = i :: l ∧ (readLeaf (readIndex s).2 ((((readIndex s).1[i]?).map (·.leaf)).getD 0)).1 = some es ∧ es.find? (fun x => decide (x.start ≤ ((s.reg Reg.XLT_LK_LBA_LO).toNat + s.fld Reg.XLT_LK_LBA_HI 0 8 * 2 ^ 32)) && decide (((s.reg Reg.XLT_LK_LBA_LO).toNat + s.fld Reg.XLT_LK_LBA_HI 0 8 * 2 ^ 32) < x.start + x.len)) = none →
    Runs (.xltLookup m v) s fun t =>
      t.reg Reg.XLT_LK_CTRL = 0#32 ∧ [0, 1, 2, 3].all (fun k => decide (t.reg (Reg.XLT_LK_CTX k) = 0#32)) = true) ∧
  (∀ (s : State) (m : Master) (v new : Word) (i : Nat) (l : List Nat), Takes s m Reg.XLT_LK_CTRL v new ∧ fieldOf v 0 1 = 1 ∧ mounted s = true ∧ leavesOf (readIndex s).1 ((s.reg Reg.XLT_LK_LBA_LO).toNat + s.fld Reg.XLT_LK_LBA_HI 0 8 * 2 ^ 32) 1 = i :: l ∧ (readLeaf (readIndex s).2 ((((readIndex s).1[i]?).map (·.leaf)).getD 0)).1 = none →
    Runs (.xltLookup m v) s fun t =>
      t.reg Reg.XLT_LK_CTRL = 0x200#32) ∧
  (∀ (s : State) (m : Master) (v new : Word), Takes s m Reg.XLT_LK_CTRL v new ∧ fieldOf v 0 1 = 1 ∧ mounted s = true ∧ leavesOf (readIndex s).1 ((s.reg Reg.XLT_LK_LBA_LO).toNat + s.fld Reg.XLT_LK_LBA_HI 0 8 * 2 ^ 32) 1 = [] →
    Runs (.xltLookup m v) s fun t =>
      t.reg Reg.XLT_LK_CTRL = 0#32 ∧ [0, 1, 2, 3].all (fun k => decide (t.reg (Reg.XLT_LK_CTX k) = 0#32)) = true) ∧
  (∀ (s : State) (k : Nat) (x : XSlot), s.still ∧ s.hq.ctx = [] ∧ fillSlot s k = some x ∧ x.since + 1600 * s.fld Reg.XLT_CFG 8 8 ≤ s.ticks →
    Runs (.stagingFillTimeout k) s fun t =>
      t.xlt.slots = s.xlt.slots.map (fun y => if y.slot = x.slot then { y with phase := .waiting } else y)) ∧
  (∀ (s : State) (k : Nat), s.wf = true ∧ ((fillSlot s k).all (fun x => decide (s.ticks < x.since + 1600 * s.fld Reg.XLT_CFG 8 8)) = true) →
    Runs (.stagingFillTimeout k) s fun t =>
      t = s) ∧
  (∀ (s : State) (c : Ctx) (a n : Nat), s.still ∧ s.hq.ctx = [c] ∧ c.mergeWait = true ∧ c.mergeAt + 160000 * s.fld Reg.XLT_MERGE 16 8 ≤ s.ticks ∧ wantsPlace s c = true ∧ c.prpNext = none ∧ c.snap = none ∧ c.pins = [] ∧ (a, n) ∈ c.ranges ∧ canReserve s a n = false →
    Runs (.mergeWaitTimeout c.seq) s fun t =>
      t.answered s c stCapacity 0 = true ∧ t.irq pgXLT 5 ∧ s.reports pgXLT 0x1604 t) ∧
  (∀ (s : State) (c : Ctx), s.still ∧ s.hq.ctx = [c] ∧ c.mergeWait = true ∧ c.prpNext = none ∧ c.snap = none ∧ c.pins = [] ∧ c.admin = false ∧ (s.ticks < c.mergeAt + 160000 * s.fld Reg.XLT_MERGE 16 8 ∨ c.ranges.all (fun q => canReserve s q.1 q.2) = true) →
    Runs (.mergeWaitTimeout c.seq) s fun t =>
      t.xlt = { s.xlt with jr := t.xlt.jr } ∧ (c.phase = .running → (t.ctx c.seq).map (fun x => (x.phase, x.mergeWait)) = some (.running, true))) ∧
  (∀ (s : State) (q : Nat), s.wf = true ∧ s.ctx q = none →
    Runs (.mergeWaitTimeout q) s fun t =>
      t = s) ∧
  (∀ (s : State) (q n : Nat), s.still ∧ s.hq.ctx = [] ∧ s.soundMemory ∧ s.xlt.unpin = [(q, [n])] ∧ sramRange (brickAddr s n) 16 = true ∧ sramGrants s .xlt (brickAddr s n) .write = true →
    Runs (.snapshotUnpin q) s fun t =>
      t.xlt.unpin = [] ∧ (t.brick n).pins = (s.brick n).pins - 1 ∧ (t.brick n).st = (s.brick n).st) ∧
  (∀ (s : State) (q : Nat), s.wf = true ∧ s.xlt.unpin.all (fun u => u.1 != q) = true →
    Runs (.snapshotUnpin q) s fun t =>
      t = s) ∧
  (∀ (s : State) (m : Master) (v new : Word) (n : Nat), s.still ∧ s.hq.ctx = [] ∧ s.soundMemory ∧ Takes s m Reg.MEDM_RST v new ∧ fieldOf v 31 1 = 1 ∧ rstAllowed s v = true ∧ rstBrick s v = some n ∧ sramRange (brickAddr s n) 16 = true ∧ sramGrants s .xlt (brickAddr s n) .write = true →
    Runs (.medmRstGo m v) s fun t =>
      t.xlt.reset = some ⟨n, 0, true, false⟩ ∧ t.bit Reg.MEDM_RST 31 = true ∧ (t.brick n).st = (if (s.brick n).st = 4 then 5 else (s.brick n).st)) ∧
  (∀ (s : State) (m : Master) (v new : Word), Takes s m Reg.MEDM_RST v new ∧ fieldOf v 31 1 = 0 →
    Runs (.medmRstGo m v) s fun t =>
      t.xlt = s.xlt ∧ t.reg Reg.MEDM_RST = new) ∧
  (∀ (s : State) (m : Master) (v new : Word), Takes s m Reg.MEDM_RST v new ∧ fieldOf v 31 1 = 1 ∧ rstAllowed s v = false →
    Runs (.medmRstGo m v) s fun t =>
      t.xlt = s.xlt ∧ t.reg Reg.MEDM_RST = s.reg Reg.MEDM_RST ∧ s.reports pgMEDM 0x1701 t) ∧
  (∀ (s : State) (r : ResetJob), s.still ∧ s.hq.ctx = [] ∧ s.xlt.reset = some r ∧ r.running = true ∧ r.segs < 7 →
    Runs (.brickResetSegmentDone true) s fun t =>
      t.xlt.reset = some { r with segs := r.segs + 1, running := false }) ∧
  (∀ (s : State) (r : ResetJob), s.still ∧ s.hq.ctx = [] ∧ s.soundMemory ∧ s.xlt.reset = some r ∧ r.running = true ∧ r.segs = 7 ∧ sramRange (brickAddr s r.brick) 16 = true ∧ sramGrants s .xlt (brickAddr s r.brick) .write = true →
    Runs (.brickResetSegmentDone true) s fun t =>
      t.xlt.reset = none ∧ t.irq pgMEDM 1 ∧ (t.brick r.brick).front = 0 ∧ (t.brick r.brick).rst = ((s.brick r.brick).rst + 1) % 65536 ∧ (r.fw = true → t.bit Reg.MEDM_RST 31 = false) ∧ t.xlt.jr.units.map (·.what) = (if (s.brick r.brick).st = 5 then [.brick r.brick 0] else [])) ∧
  (∀ (s : State) (r : ResetJob), s.still ∧ s.hq.ctx = [] ∧ s.xlt.reset = some r ∧ r.running = true →
    Runs (.brickResetSegmentDone false) s fun t =>
      t.xlt.reset = none ∧ t.irq pgMEDM 2 ∧ s.reports pgMEDM 0x1702 t ∧ (r.fw = true → t.bit Reg.MEDM_RST 31 = false) ∧ t.xlt.jr.units.map (·.what) = [.brick r.brick 6]) ∧
  (∀ (s : State) (good : Bool), s.still ∧ s.hq.ctx = [] ∧ s.xlt.reset.all (fun r => !r.running) = true →
    Runs (.brickResetSegmentDone good) s fun t =>
      t.xlt = { s.xlt with jr := t.xlt.jr } ∧ t.mem = s.mem)

/-- What the spindle (SPN), stepper (STP) and supply (PWR) rows leave unchanged. Listed for a row: the pages of BAR0 and
configuration space it may change, its registers (an array with all its elements), and its parts of the state. -/
def Obligations.MotorAndPowerFrames : Prop :=
  (Frame (.spdcmdNosig) [] ([Reg.SPN_SPDCMD_VAL] ++ eventRegs pgSPN)
    [.spn]) ∧
  (Frame (.spnAlignEnd) [] (eventRegs pgSPN)
    [.spn]) ∧
  (Frame (.spnBrakeToZerov) [] (eventRegs pgSPN)
    [.spn]) ∧
  (Frame (.spnLockLoss) [] ([Reg.SPN_CNT, Reg.SPN_FAULT] ++ eventRegs pgSPN)
    [.evr, .spn]) ∧
  (Frame (.spnNoloop) [] (eventRegs pgSPN)
    []) ∧
  (Frame (.spnOverCurrent) [] ([Reg.SPN_CNT, Reg.SPN_FAULT] ++ eventRegs pgSPN)
    [.evr, .spn]) ∧
  (∀ (temp : Nat), Frame (.spnOverTemp temp) [] ([Reg.SPN_FAULT] ++ eventRegs pgSPN)
    [.evr, .spn]) ∧
  (Frame (.spnRampTimeout) [] ([Reg.SPN_FAULT] ++ eventRegs pgSPN)
    [.evr, .spn]) ∧
  (Frame (.spnVlimClear) [] (eventRegs pgSPN)
    [.spn]) ∧
  (Frame (.spnZerovTimeout) [] ([Reg.SPN_FAULT] ++ eventRegs pgSPN)
    [.evr, .spn]) ∧
  (Frame (.spnLock) [] ([Reg.SPN_ANG_EPOCH] ++ eventRegs pgSPN)
    [.spn]) ∧
  (∀ (speed : Int) (angle : Nat) (emf : Nat), Frame (.spnMeasureEnd speed angle emf) [] ([Reg.SPN_ANG_EPOCH, Reg.SPN_FLYRES] ++ eventRegs pgSPN)
    [.mortar, .spn]) ∧
  (Frame (.spnStop) [] ([Reg.SPN_ANG_EPOCH] ++ eventRegs pgSPN)
    [.spn]) ∧
  (Frame (.spnSyncEnd) [] (eventRegs pgSPN)
    [.mortar, .spn]) ∧
  (∀ (m : Master), Frame (.spnModeBrake m) [] ([Reg.SPN_FAULT, Reg.SPN_MODE] ++ eventRegs pgSPN ++ refusalRegs)
    [.evr, .latches, .ms, .roRecs, .rwo, .spn]) ∧
  (∀ (m : Master), Frame (.spnModeOff m) [] ([Reg.SPN_FAULT, Reg.SPN_MODE] ++ eventRegs pgSPN ++ refusalRegs)
    [.evr, .latches, .ms, .roRecs, .rwo, .spn]) ∧
  (∀ (m : Master), Frame (.spnModeRun m) [] ([Reg.SPN_FAULT, Reg.SPN_MODE] ++ eventRegs pgSPN ++ refusalRegs)
    [.evr, .latches, .ms, .roRecs, .rwo, .spn]) ∧
  (∀ (m : Master), Frame (.spnModeZerov m) [] ([Reg.SPN_FAULT, Reg.SPN_MODE] ++ eventRegs pgSPN ++ refusalRegs)
    [.evr, .latches, .ms, .roRecs, .rwo, .spn]) ∧
  (∀ (a : Nat) (bits : Nat), Frame (.stpBridgeFault a bits) [] ((List.range 2).map Reg.STP_Q_STAT ++ (List.range 3).map Reg.STP_AX_ADDR ++ (List.range 3).map Reg.STP_AX_CFG ++ (List.range 3).map Reg.STP_AX_FLT ++ (List.range 3).map Reg.STP_AX_POS ++ (List.range 3).map Reg.STP_AX_VEL ++ eventRegs pgSTP)
    [.stp]) ∧
  (∀ (a : Nat), Frame (.stpHoldCurrent a) [] ((List.range 3).map Reg.STP_AX_ADDR ++ (List.range 3).map Reg.STP_AX_POS ++ (List.range 3).map Reg.STP_AX_VEL)
    [.stp]) ∧
  (∀ (g : Nat), Frame (.stpMoveEnd g) [] ((List.range 2).map Reg.STP_Q_STAT ++ (List.range 3).map Reg.STP_AX_ADDR ++ (List.range 3).map Reg.STP_AX_POS ++ (List.range 3).map Reg.STP_AX_VEL ++ eventRegs pgSTP)
    [.stp]) ∧
  (Frame (.stpParkDone) [] ((List.range 3).map Reg.STP_AX_ADDR ++ (List.range 3).map Reg.STP_AX_CFG ++ (List.range 3).map Reg.STP_AX_POS ++ (List.range 3).map Reg.STP_AX_VEL ++ eventRegs pgSTP)
    [.stp]) ∧
  (Frame (.stpTableLoadDone) [] [Reg.STP_TLOAD_CTRL]
    [.stp]) ∧
  (∀ (m : Master) (a : Nat) (v : Word), Frame (.stpAxModeWrite m a v) [] ((List.range 3).map Reg.STP_AX_ADDR ++ (List.range 3).map Reg.STP_AX_CFG ++ (List.range 3).map Reg.STP_AX_POS ++ (List.range 3).map Reg.STP_AX_VEL ++ eventRegs pgSTP ++ refusalRegs)
    [.evr, .latches, .ms, .roRecs, .rwo, .stp]) ∧
  (∀ (m : Master) (a : Nat) (v : Word), Frame (.stpAxPosWrite m a v) [] ((List.range 3).map Reg.STP_AX_ADDR ++ (List.range 3).map Reg.STP_AX_POS ++ (List.range 3).map Reg.STP_AX_VEL ++ eventRegs pgSTP ++ refusalRegs)
    [.evr, .latches, .ms, .roRecs, .rwo, .stp]) ∧
  (∀ (m : Master) (v : Word), Frame (.stpPark m v) [] ([Reg.STP_CMD] ++ (List.range 2).map Reg.STP_Q_STAT ++ (List.range 3).map Reg.STP_AX_ADDR ++ (List.range 3).map Reg.STP_AX_POS ++ (List.range 3).map Reg.STP_AX_VEL ++ eventRegs pgSTP ++ refusalRegs)
    [.evr, .latches, .ms, .roRecs, .rwo, .stp]) ∧
  (∀ (m : Master) (g : Nat) (v : Word), Frame (.stpPush m g v) [] ((List.range 2).map Reg.STP_Q_PUSH ++ (List.range 2).map Reg.STP_Q_STAT ++ eventRegs pgSTP ++ refusalRegs)
    [.evr, .latches, .ms, .roRecs, .rwo, .stp]) ∧
  (∀ (m : Master) (v : Word), Frame (.stpStop m v) [] ([Reg.STP_CMD] ++ (List.range 2).map Reg.STP_Q_STAT ++ (List.range 3).map Reg.STP_AX_ADDR ++ (List.range 3).map Reg.STP_AX_POS ++ (List.range 3).map Reg.STP_AX_VEL ++ eventRegs pgSTP ++ refusalRegs)
    [.evr, .latches, .ms, .roRecs, .rwo, .stp]) ∧
  (Frame (.railsInRegulation) [] [Reg.PWR_RAIL]
    [.boot]) ∧
  (Frame (.v5outOvercurrent) [] ([Reg.PWR_RAIL] ++ eventRegs pgPWR)
    []) ∧
  (Frame (.vinChopEnd) [] (eventRegs pgPWR)
    [.evr, .pwr]) ∧
  (Frame (.holdupEnd) [] (eventRegs pgPWR ++ eventRegs pgSPN)
    [.pwr, .spn]) ∧
  (Frame (.lgTimeout) [] ([Reg.PWR_LG] ++ (List.range 2).map Reg.STP_Q_STAT ++ (List.range 3).map Reg.STP_AX_ADDR ++ (List.range 3).map Reg.STP_AX_POS ++ (List.range 3).map Reg.STP_AX_VEL ++ eventRegs pgPWR ++ eventRegs pgSPN ++ eventRegs pgSTP)
    [.pwr, .spn, .stp]) ∧
  (Frame (.vinRecovered) [] ([Reg.SPN_FAULT, Reg.SPN_MODE] ++ eventRegs pgPWR ++ eventRegs pgSPN)
    [.pwr, .spn]) ∧
  (∀ (m : Master) (v : Word), Frame (.pwrClrChopflt m v) [] ([Reg.PWR_CLR, Reg.PWR_LG] ++ eventRegs pgPWR ++ refusalRegs)
    [.evr, .latches, .ms, .pwr, .roRecs, .rwo]) ∧
  (∀ (m : Master) (v : Word), Frame (.pwrClrLgidle m v) [] ([Reg.PWR_CLR, Reg.PWR_LG] ++ eventRegs pgPWR ++ refusalRegs)
    [.evr, .latches, .ms, .pwr, .roRecs, .rwo]) ∧
  (∀ (m : Master) (v : Word), Frame (.pwrClrOvopen m v) [] ([Reg.PWR_CLR, Reg.PWR_LG] ++ eventRegs pgPWR ++ refusalRegs)
    [.evr, .latches, .ms, .pwr, .roRecs, .rwo]) ∧
  (∀ (m : Master) (v : Word), Frame (.pwrLgDone m v) [] ([Reg.PWR_LG] ++ (List.range 2).map Reg.STP_Q_STAT ++ (List.range 3).map Reg.STP_AX_ADDR ++ (List.range 3).map Reg.STP_AX_POS ++ (List.range 3).map Reg.STP_AX_VEL ++ eventRegs pgPWR ++ eventRegs pgSPN ++ eventRegs pgSTP ++ refusalRegs)
    [.evr, .latches, .ms, .pwr, .roRecs, .rwo, .spn, .stp]) ∧
  (Frame (.vinRise) [] []
    [.boot]) ∧
  (Frame (.railRestart) [] []
    [.boot]) ∧
  (∀ (vin : Nat) (fall : Nat) (code : Int), Frame (.chopperWindowEnd vin fall code) [] ([Reg.DRAW_CNT, Reg.DRAW_VQ_PROD, Reg.PWR_CNT, Reg.SPN_FAULT, Reg.WENC_CNT, Reg.WENC_POS, Reg.WSG_CNT] ++ aclRegs ++ eventRegs pgDRAW ++ eventRegs pgPWR ++ eventRegs pgSPN ++ eventRegs pgWENC ++ eventRegs pgWSG ++ memcRegs)
    [.evr, .memory, .ms, .pwr, .spn, .wenc]) ∧
  (∀ (late : Bool), Frame (.vinLoss late) [] ([Reg.DET_WS_STAT, Reg.DRAW_CNT, Reg.DRAW_VQ_PROD, Reg.DSK_RING_STAT, Reg.EVR_CFG, Reg.EVR_CLRCNT, Reg.EVR_FIRST, Reg.EVR_NCIRC, Reg.EVR_NPERM, Reg.EVR_PFR_STAT, Reg.EVR_POC, Reg.EVR_WPOS, Reg.FLC_ESEQ, Reg.HDL_CFG, Reg.HQ_CTRL, Reg.LDPC_SLOTS, Reg.PWR_CNT, Reg.PWR_LG, Reg.STRP_RSA_STAT, Reg.WENC_CNT, Reg.WENC_POS, Reg.WINH_CNT, Reg.WINH_LATCH, Reg.WSG_CNT] ++ (List.range 2).map Reg.FLC_B_CMD ++ (List.range 2).map Reg.FLC_B_STAT ++ (List.range 2).map Reg.FLC_B_SUSP ++ (List.range 2).map Reg.STP_Q_STAT ++ (List.range 3).map Reg.STP_AX_ADDR ++ (List.range 3).map Reg.STP_AX_POS ++ (List.range 3).map Reg.STP_AX_VEL ++ (List.range 4).flatMap (fun l => eventRegs (pgRFL l)) ++ (List.range 4).map Reg.ACT_BR_OUT ++ (List.range 4).map Reg.RFL_SYNC_STAT ++ (List.range 6).map Reg.LDPC_CORE_STAT ++ aclRegs ++ eventRegs pgDRAW ++ eventRegs pgEVR ++ eventRegs pgFLC ++ eventRegs pgPWR ++ eventRegs pgSTP ++ eventRegs pgTRC ++ eventRegs pgWENC ++ eventRegs pgWINH ++ eventRegs pgWSG ++ memcRegs)
    [.evr, .flash, .memory, .mortar, .ms, .pwr, .rd, .stp, .wenc]) ∧
  (∀ (vin : Nat), Frame (.vinOv1 vin) [] ([Reg.DRAW_CNT, Reg.DRAW_VQ_PROD, Reg.PWR_CNT, Reg.PWR_VIN, Reg.SPN_FAULT, Reg.WENC_CNT, Reg.WENC_POS, Reg.WSG_CNT] ++ aclRegs ++ eventRegs pgDRAW ++ eventRegs pgPWR ++ eventRegs pgSPN ++ eventRegs pgWENC ++ eventRegs pgWSG ++ memcRegs)
    [.evr, .memory, .ms, .pwr, .spn, .wenc]) ∧
  (Frame (.vinOv2) [] ([Reg.DRAW_CNT, Reg.DRAW_VQ_PROD, Reg.PWR_CNT, Reg.WENC_CNT, Reg.WENC_POS, Reg.WSG_CNT] ++ aclRegs ++ eventRegs pgDRAW ++ eventRegs pgPWR ++ eventRegs pgSPN ++ eventRegs pgWENC ++ eventRegs pgWSG ++ memcRegs)
    [.evr, .memory, .ms, .spn, .wenc]) ∧
  (∀ (m : Master) (v : Word), Frame (.stpTableLoad m v) [] ([Reg.STP_TLOAD_CTRL] ++ eventRegs pgSTP ++ memcRegs ++ refusalRegs)
    [.evr, .latches, .memory, .ms, .roRecs, .rwo, .stp])

/-- What the servo (ACT), loop engine (LENG), trace (TRC), tick, mortar and calibration (CAL, SADC) rows leave unchanged.
Listed for a row: the pages of BAR0 and configuration space it may change, its registers (an array with all its
elements), and its parts of the state. -/
def Obligations.ServoAndCalibrationFrames : Prop :=
  (Frame (.actBrakeEnd) [] ((List.range 4).map Reg.ACT_BR_OUT)
    []) ∧
  (∀ (x : List ServoSample), Frame (.actBrakeStart x) [] ([Reg.ACT_JMP_STAT, Reg.SADC_GCNT, Reg.SADC_GVEL, Reg.SADC_OVR] ++ (List.range 4).map Reg.ACT_BR_OUT ++ eventRegs pgACT ++ eventRegs pgSADC)
    [.mortar, .sv]) ∧
  (Frame (.actKickEnd) [] ([Reg.ACT_JMP_STAT] ++ (List.range 4).map Reg.ACT_BR_OUT)
    []) ∧
  (Frame (.actSettleDone) [0x100000, 0x100001, 0x100002, 0x100003, 0x200000] ([Reg.ACT_JMP_CTRL, Reg.ACT_JMP_STAT, Reg.HQ_AE, Reg.HQ_CMP, Reg.HQ_CTX, Reg.HQ_CTXPK, Reg.HQ_STALL, Reg.PCIE_LINK] ++ (List.range 65).map Reg.HQ_CQPTR ++ (List.range 65).map Reg.HQ_QCFG ++ (List.range 65).map Reg.HQ_SQPTR ++ eventRegs pgACT ++ eventRegs pgHQ)
    [.hq, .pcie, .sv]) ∧
  (Frame (.actSweepFail) [] ([Reg.ACT_JMP_CTRL, Reg.ACT_JMP_STAT] ++ (List.range 4).map Reg.ACT_BR_OUT ++ eventRegs pgACT)
    [.sv]) ∧
  (Frame (.actSweepHoldEnd) [] [Reg.ACT_JMP_STAT]
    []) ∧
  (Frame (.offTrack) [] (eventRegs pgACT)
    []) ∧
  (Frame (.safeOverrunWindowClear) [] [Reg.ACT_SAFE]
    []) ∧
  (∀ (x : List ServoSample), Frame (.grooveCrossing x) [] ([Reg.ACT_JMP_STAT, Reg.SADC_GCNT, Reg.SADC_GVEL, Reg.SADC_OVR] ++ (List.range 4).map Reg.ACT_BR_OUT ++ eventRegs pgACT ++ eventRegs pgSADC)
    [.mortar, .sv]) ∧
  (∀ (x : List ServoSample), Frame (.actCapture x) [] ([Reg.ACT_JMP_STAT, Reg.SADC_GCNT, Reg.SADC_GVEL, Reg.SADC_OVR] ++ (List.range 4).map Reg.ACT_BR_OUT ++ eventRegs pgACT ++ eventRegs pgSADC)
    [.mortar, .sv]) ∧
  (∀ (digital : Bool) (x : List ServoSample), Frame (.shockDetected digital x) [] ([Reg.ACT_JMP_STAT, Reg.SADC_GCNT, Reg.SADC_GVEL, Reg.SADC_OVR] ++ (List.range 4).map Reg.ACT_BR_OUT ++ eventRegs pgACT ++ eventRegs pgSADC)
    [.mortar, .sv]) ∧
  (Frame (.shockEnd) [] []
    [.sv]) ∧
  (∀ (m : Master) (v : Word), Frame (.actBridgeEnable m v) [] ([Reg.ACT_CFG] ++ (List.range 4).map Reg.ACT_BR_OUT ++ eventRegs pgACT ++ refusalRegs)
    [.evr, .latches, .ms, .roRecs, .rwo, .sv]) ∧
  (∀ (p : Nat), Frame (.lengProgCheckDone p) [] ([Reg.LENG_CYC, Reg.LENG_LOADERR, Reg.LENG_MERR] ++ (List.range 16).map Reg.LENG_PROG_CFG ++ (List.range 16).map Reg.LENG_PROG_CYC ++ eventRegs pgLENG)
    [.mortar]) ∧
  (Frame (.lengRestartCheckDone) [] ([Reg.ACT_SAFE, Reg.LENG_CYC, Reg.LENG_LOADERR, Reg.LENG_MERR] ++ (List.range 16).map Reg.LENG_PROG_CFG ++ (List.range 16).map Reg.LENG_PROG_CYC ++ eventRegs pgLENG)
    [.mortar]) ∧
  (Frame (.lengShadowCheckDone) [] ([Reg.LENG_LOADERR, Reg.LENG_MERR, Reg.LENG_SHADOW] ++ eventRegs pgLENG)
    [.mortar]) ∧
  (∀ (m : Master) (r : Nat) (v : Word), Frame (.lengExtEnable m r v) [] ((List.range 2).map Reg.LENG_EXT_CFG ++ eventRegs pgLENG ++ refusalRegs)
    [.evr, .latches, .ms, .roRecs, .rwo]) ∧
  (∀ (m : Master) (p : Nat) (v : Word), Frame (.lengProgDisable m p v) [] ((List.range 16).map Reg.LENG_PROG_CFG ++ eventRegs pgLENG ++ refusalRegs)
    [.evr, .latches, .mortar, .ms, .roRecs, .rwo]) ∧
  (∀ (m : Master) (p : Nat) (v : Word), Frame (.lengProgEnable m p v) [] ((List.range 16).map Reg.LENG_PROG_CFG ++ eventRegs pgLENG ++ refusalRegs)
    [.evr, .latches, .mortar, .ms, .roRecs, .rwo]) ∧
  (∀ (m : Master) (v : Word), Frame (.lengRestart m v) [] ([Reg.LENG_CMD] ++ eventRegs pgLENG ++ refusalRegs)
    [.evr, .latches, .mortar, .ms, .roRecs, .rwo]) ∧
  (∀ (m : Master) (v : Word), Frame (.lengShadowReady m v) [] ([Reg.LENG_SHADOW] ++ eventRegs pgLENG ++ refusalRegs)
    [.evr, .latches, .mortar, .ms, .roRecs, .rwo]) ∧
  (∀ (m : Master) (v : Word), Frame (.lengShadowSwapnow m v) [] ([Reg.LENG_SHADOW] ++ eventRegs pgLENG ++ refusalRegs)
    [.evr, .latches, .mortar, .ms, .roRecs, .rwo]) ∧
  (∀ (m : Master) (v : Word), Frame (.lengShadowUnready m v) [] ([Reg.LENG_SHADOW] ++ eventRegs pgLENG ++ refusalRegs)
    [.evr, .latches, .mortar, .ms, .roRecs, .rwo]) ∧
  (∀ (m : Master) (v : Word), Frame (.lengUpdGo m v) [] ([Reg.LENG_UPD_CTRL] ++ eventRegs pgLENG ++ refusalRegs)
    [.evr, .latches, .mortar, .ms, .roRecs, .rwo]) ∧
  (∀ (c : Nat), Frame (.trcChDone c) [] ([Reg.TRC_DONE] ++ eventRegs pgTRC)
    [.mortar]) ∧
  (∀ (m : Master) (c : Nat) (v : Word), Frame (.trcChEnable m c v) [] ([Reg.TRC_DONE] ++ (List.range 8).map Reg.TRC_CH_CFG ++ eventRegs pgTRC ++ refusalRegs)
    [.evr, .latches, .mortar, .ms, .roRecs, .rwo]) ∧
  (∀ (m : Master) (v : Word), Frame (.trcGtrig m v) [] ([Reg.TRC_GTRIG] ++ eventRegs pgTRC ++ refusalRegs)
    [.evr, .latches, .mortar, .ms, .roRecs, .rwo]) ∧
  (∀ (m : Master) (v : Word), Frame (.tickSupAck m v) [] ([Reg.TICK_SUP_ACK] ++ eventRegs 0x01 ++ refusalRegs)
    [.evr, .latches, .mortar, .ms, .roRecs, .rwo]) ∧
  (∀ (m : Master) (a : Nat) (size : Nat), Frame (.mortarThirdPortRead m a size) [] (aclRegs ++ eventRegs pgLENG)
    [.evr, .ms, .resp]) ∧
  (∀ (m : Master) (a : Nat) (size : Nat) (v : Word), Frame (.mortarThirdPortWrite m a size v) [] (aclRegs ++ eventRegs pgLENG)
    [.evr, .mortar, .ms]) ∧
  (∀ (l : Nat), Frame (.calAdcstatTimeout l) [] ([Reg.CAL_RUN] ++ eventRegs pgCAL)
    []) ∧
  (Frame (.calSwpMoveDone) [] ([Reg.CAL_SWP_CFG, Reg.CAL_SWP_CTRL, Reg.CAL_SWP_RES] ++ (List.range 10).map Reg.CAL_MG_STAT ++ (List.range 10).map Reg.CAL_MG_TGT ++ (List.range 3).map Reg.STP_AX_TBASE ++ eventRegs pgCAL)
    [.cal]) ∧
  (Frame (.calSwpPeriodEnd) [] ([Reg.CAL_SWP_CFG, Reg.CAL_SWP_RES] ++ (List.range 10).map Reg.CAL_MG_STAT ++ (List.range 10).map Reg.CAL_MG_TGT ++ (List.range 16).map Reg.CAL_SWP_MET ++ (List.range 3).map Reg.STP_AX_TBASE ++ eventRegs pgCAL)
    [.cal]) ∧
  (∀ (b : Nat) (ofs : Int), Frame (.bridgeOffsetDone b ofs) [] ([Reg.CAL_RUN] ++ (List.range 4).map Reg.ACT_BR_OFS ++ eventRegs pgCAL)
    [.cal, .sv]) ∧
  (∀ (ofs : List Int), Frame (.shuntOffsetDone ofs) [] ([Reg.CAL_RUN] ++ eventRegs pgCAL)
    [.cal]) ∧
  (∀ (leg : Nat) (code : Int), Frame (.shuntGainInjection leg code) [] ([Reg.CAL_CFG] ++ eventRegs pgCAL)
    [.cal]) ∧
  (∀ (trims : List (Int × Int)), Frame (.sadcBootTrimDone trims) [] ([Reg.SADC_CFG] ++ eventRegs pgCAL)
    [.cal]) ∧
  (∀ (diff : Int) (swept : Nat) (slope : Int), Frame (.sadcRefconvWindowEnd diff swept slope) [] ([Reg.CAL_CFG] ++ (List.range 32).map Reg.SADC_CH_GAIN ++ (List.range 32).map Reg.SADC_CH_OFS ++ eventRegs pgCAL)
    [.cal]) ∧
  (∀ (trims : List Int), Frame (.calLinkDone trims) [] ([Reg.CAL_LINK, Reg.CAL_RUN] ++ eventRegs pgCAL)
    []) ∧
  (Frame (.calTempChange) [] ([Reg.CAL_RUN] ++ eventRegs pgCAL)
    []) ∧
  (∀ (mv : Nat), Frame (.calrefCheck mv) [] ([Reg.CAL_REF, Reg.CAL_RUN] ++ eventRegs pgCAL)
    [.cal, .evr]) ∧
  (∀ (m : Master) (k : Nat) (v : Word), Frame (.calMgArm m k v) [] ((List.range 10).map Reg.CAL_MG_CFG ++ (List.range 10).map Reg.CAL_MG_STAT ++ eventRegs pgCAL ++ refusalRegs)
    [.cal, .evr, .latches, .ms, .roRecs, .rwo]) ∧
  (∀ (m : Master) (k : Nat) (v : Word), Frame (.calMgTgtWrite m k v) [] ((List.range 10).map Reg.CAL_MG_STAT ++ (List.range 10).map Reg.CAL_MG_TGT ++ eventRegs pgCAL ++ refusalRegs)
    [.cal, .evr, .latches, .ms, .roRecs, .rwo]) ∧
  (∀ (m : Master) (v : Word) (cause : Nat), Frame (.calSwpAbort m v cause) [] ([Reg.CAL_SWP_CFG, Reg.CAL_SWP_CTRL, Reg.CAL_SWP_RES] ++ (List.range 10).map Reg.CAL_MG_STAT ++ (List.range 10).map Reg.CAL_MG_TGT ++ (List.range 16).map Reg.CAL_SWP_MET ++ (List.range 3).map Reg.STP_AX_TBASE ++ eventRegs pgCAL ++ refusalRegs)
    [.cal, .evr, .latches, .ms, .roRecs, .rwo]) ∧
  (∀ (m : Master) (v : Word), Frame (.calSwpGo m v) [] ([Reg.CAL_SWP_CFG, Reg.CAL_SWP_CTRL, Reg.CAL_SWP_RES] ++ (List.range 10).map Reg.CAL_MG_STAT ++ (List.range 10).map Reg.CAL_MG_TGT ++ (List.range 16).map Reg.CAL_SWP_MET ++ (List.range 3).map Reg.STP_AX_TBASE ++ eventRegs pgCAL ++ refusalRegs)
    [.cal, .evr, .latches, .ms, .roRecs, .rwo]) ∧
  (∀ (m : Master) (v : Word), Frame (.calTrigAdcstat m v) [] ([Reg.CAL_RUN, Reg.CAL_TRIG] ++ (List.range 4).map Reg.ACT_BR_OUT ++ eventRegs pgCAL ++ refusalRegs)
    [.evr, .latches, .ms, .roRecs, .rwo, .sv]) ∧
  (∀ (m : Master) (v : Word), Frame (.calTrigBrofs m v) [] ([Reg.CAL_RUN, Reg.CAL_TRIG] ++ (List.range 4).map Reg.ACT_BR_OUT ++ eventRegs pgCAL ++ refusalRegs)
    [.evr, .latches, .ms, .roRecs, .rwo, .sv]) ∧
  (∀ (m : Master) (v : Word), Frame (.calTrigLink m v) [] ([Reg.CAL_RUN, Reg.CAL_TRIG] ++ (List.range 4).map Reg.ACT_BR_OUT ++ eventRegs pgCAL ++ refusalRegs)
    [.evr, .latches, .ms, .roRecs, .rwo, .sv]) ∧
  (∀ (m : Master) (v : Word), Frame (.calTrigShofs m v) [] ([Reg.CAL_RUN, Reg.CAL_TRIG] ++ (List.range 4).map Reg.ACT_BR_OUT ++ eventRegs pgCAL ++ refusalRegs)
    [.evr, .latches, .ms, .roRecs, .rwo, .sv]) ∧
  (∀ (m : Master) (a : Nat) (v : Word) (lost : Bool), Frame (.glideTargetWrite m a v lost) [] ([Reg.CAL_CNT] ++ (List.range 3).map Reg.SPN_SH_GAIN ++ (List.range 3).map Reg.SPN_SH_OFS ++ (List.range 32).map Reg.SADC_CH_GAIN ++ (List.range 32).map Reg.SADC_CH_OFS ++ (List.range 4).flatMap (fun l => (List.range 9).map (Reg.RFL_SUB_GAIN l)) ++ (List.range 4).flatMap (fun l => (List.range 9).map (Reg.RFL_SUB_OFS l)) ++ (List.range 4).flatMap (fun l => (List.range 9).map (Reg.RFL_SUB_SKEW l)) ++ (List.range 4).map Reg.ACT_BR_OFS ++ [a] ++ eventRegs (pageOf a) ++ refusalRegs)
    [.cal, .evr, .latches, .ms, .roRecs, .rwo]) ∧
  (∀ (m : Master) (v : Word) (atCapture : Bool), Frame (.actJmpAbort m v atCapture) [] ([Reg.ACT_JMP_CTRL, Reg.ACT_JMP_STAT, Reg.ACT_SAFE, Reg.DRAW_CNT, Reg.DRAW_VQ_PROD, Reg.WENC_CNT, Reg.WENC_POS, Reg.WSG_CNT] ++ (List.range 2).map Reg.STP_Q_STAT ++ (List.range 3).map Reg.STP_AX_ADDR ++ (List.range 3).map Reg.STP_AX_POS ++ (List.range 3).map Reg.STP_AX_VEL ++ (List.range 4).map Reg.ACT_BR_OUT ++ eventRegs pgACT ++ eventRegs pgDRAW ++ eventRegs pgSTP ++ eventRegs pgTRC ++ eventRegs pgWENC ++ eventRegs pgWSG ++ memcRegs ++ refusalRegs)
    [.evr, .latches, .memory, .mortar, .ms, .roRecs, .rwo, .stp, .sv, .wenc]) ∧
  (∀ (m : Master) (v : Word), Frame (.actJmpGoJump m v) [] ([Reg.ACT_JMP_CTRL, Reg.ACT_JMP_STAT, Reg.ACT_SAFE, Reg.DRAW_CNT, Reg.DRAW_VQ_PROD, Reg.WENC_CNT, Reg.WENC_POS, Reg.WSG_CNT] ++ (List.range 2).map Reg.STP_Q_STAT ++ (List.range 3).map Reg.STP_AX_ADDR ++ (List.range 3).map Reg.STP_AX_POS ++ (List.range 3).map Reg.STP_AX_VEL ++ (List.range 4).map Reg.ACT_BR_OUT ++ eventRegs pgACT ++ eventRegs pgDRAW ++ eventRegs pgSTP ++ eventRegs pgTRC ++ eventRegs pgWENC ++ eventRegs pgWSG ++ memcRegs ++ refusalRegs)
    [.evr, .latches, .memory, .mortar, .ms, .roRecs, .rwo, .stp, .sv, .wenc]) ∧
  (∀ (m : Master) (v : Word), Frame (.actJmpGoSweep m v) [] ([Reg.ACT_JMP_CTRL, Reg.ACT_JMP_STAT, Reg.ACT_SAFE, Reg.DRAW_CNT, Reg.DRAW_VQ_PROD, Reg.WENC_CNT, Reg.WENC_POS, Reg.WSG_CNT] ++ (List.range 2).map Reg.STP_Q_STAT ++ (List.range 3).map Reg.STP_AX_ADDR ++ (List.range 3).map Reg.STP_AX_POS ++ (List.range 3).map Reg.STP_AX_VEL ++ (List.range 4).map Reg.ACT_BR_OUT ++ eventRegs pgACT ++ eventRegs pgDRAW ++ eventRegs pgSTP ++ eventRegs pgTRC ++ eventRegs pgWENC ++ eventRegs pgWSG ++ memcRegs ++ refusalRegs)
    [.evr, .latches, .memory, .mortar, .ms, .roRecs, .rwo, .stp, .sv, .wenc]) ∧
  (Frame (.actJmpTimeout) [] ([Reg.ACT_JMP_CTRL, Reg.ACT_JMP_STAT, Reg.ACT_SAFE, Reg.DRAW_CNT, Reg.DRAW_VQ_PROD, Reg.WENC_CNT, Reg.WENC_POS, Reg.WSG_CNT] ++ (List.range 2).map Reg.STP_Q_STAT ++ (List.range 3).map Reg.STP_AX_ADDR ++ (List.range 3).map Reg.STP_AX_POS ++ (List.range 3).map Reg.STP_AX_VEL ++ (List.range 4).map Reg.ACT_BR_OUT ++ aclRegs ++ eventRegs pgACT ++ eventRegs pgDRAW ++ eventRegs pgSTP ++ eventRegs pgTRC ++ eventRegs pgWENC ++ eventRegs pgWSG ++ memcRegs)
    [.evr, .memory, .mortar, .ms, .stp, .sv, .wenc]) ∧
  (∀ (m : Master) (v : Word), Frame (.actSafeEnter m v) [] ([Reg.ACT_JMP_CTRL, Reg.ACT_JMP_STAT, Reg.ACT_SAFE, Reg.DRAW_CNT, Reg.DRAW_VQ_PROD, Reg.WENC_CNT, Reg.WENC_POS, Reg.WSG_CNT] ++ (List.range 2).map Reg.STP_Q_STAT ++ (List.range 3).map Reg.STP_AX_ADDR ++ (List.range 3).map Reg.STP_AX_POS ++ (List.range 3).map Reg.STP_AX_VEL ++ (List.range 4).map Reg.ACT_BR_OUT ++ eventRegs pgACT ++ eventRegs pgDRAW ++ eventRegs pgSTP ++ eventRegs pgTRC ++ eventRegs pgWENC ++ eventRegs pgWSG ++ memcRegs ++ refusalRegs)
    [.evr, .latches, .memory, .mortar, .ms, .roRecs, .rwo, .stp, .sv, .wenc]) ∧
  (∀ (m : Master) (v : Word), Frame (.actSafeExit m v) [] ([Reg.ACT_JMP_CTRL, Reg.ACT_JMP_STAT, Reg.ACT_SAFE, Reg.DRAW_CNT, Reg.DRAW_VQ_PROD, Reg.WENC_CNT, Reg.WENC_POS, Reg.WSG_CNT] ++ (List.range 2).map Reg.STP_Q_STAT ++ (List.range 3).map Reg.STP_AX_ADDR ++ (List.range 3).map Reg.STP_AX_POS ++ (List.range 3).map Reg.STP_AX_VEL ++ (List.range 4).map Reg.ACT_BR_OUT ++ eventRegs pgACT ++ eventRegs pgDRAW ++ eventRegs pgSTP ++ eventRegs pgTRC ++ eventRegs pgWENC ++ eventRegs pgWSG ++ memcRegs ++ refusalRegs)
    [.evr, .latches, .memory, .mortar, .ms, .roRecs, .rwo, .stp, .sv, .wenc]) ∧
  (∀ (b : Nat) (bits : Nat), Frame (.bridgeFault b bits) [0x100000, 0x100001, 0x100002, 0x100003, 0x200000] ([Reg.ACT_JMP_CTRL, Reg.ACT_JMP_STAT, Reg.ACT_SAFE, Reg.DRAW_CNT, Reg.DRAW_VQ_PROD, Reg.HQ_AE, Reg.HQ_CMP, Reg.HQ_CTX, Reg.HQ_CTXPK, Reg.HQ_STALL, Reg.PCIE_LINK, Reg.WENC_CNT, Reg.WENC_POS, Reg.WSG_CNT] ++ (List.range 2).map Reg.STP_Q_STAT ++ (List.range 3).map Reg.STP_AX_ADDR ++ (List.range 3).map Reg.STP_AX_POS ++ (List.range 3).map Reg.STP_AX_VEL ++ (List.range 4).map Reg.ACT_BR_OUT ++ (List.range 4).map Reg.ACT_BR_STAT ++ (List.range 65).map Reg.HQ_CQPTR ++ (List.range 65).map Reg.HQ_QCFG ++ (List.range 65).map Reg.HQ_SQPTR ++ aclRegs ++ eventRegs pgACT ++ eventRegs pgDRAW ++ eventRegs pgHQ ++ eventRegs pgSTP ++ eventRegs pgTRC ++ eventRegs pgWENC ++ eventRegs pgWSG ++ memcRegs)
    [.evr, .hq, .memory, .mortar, .ms, .pcie, .stp, .sv, .wenc]) ∧
  (Frame (.focusLoss) [] ([Reg.ACT_JMP_CTRL, Reg.ACT_JMP_STAT, Reg.ACT_SAFE, Reg.DRAW_CNT, Reg.DRAW_VQ_PROD, Reg.WENC_CNT, Reg.WENC_POS, Reg.WSG_CNT] ++ (List.range 2).map Reg.STP_Q_STAT ++ (List.range 3).map Reg.STP_AX_ADDR ++ (List.range 3).map Reg.STP_AX_POS ++ (List.range 3).map Reg.STP_AX_VEL ++ (List.range 4).map Reg.ACT_BR_OUT ++ aclRegs ++ eventRegs pgACT ++ eventRegs pgDRAW ++ eventRegs pgSTP ++ eventRegs pgTRC ++ eventRegs pgWENC ++ eventRegs pgWSG ++ memcRegs)
    [.evr, .memory, .mortar, .ms, .stp, .sv, .wenc]) ∧
  (Frame (.gaPositionLoss) [] ([Reg.DRAW_CNT, Reg.DRAW_VQ_PROD, Reg.WENC_CNT, Reg.WENC_POS, Reg.WSG_CNT] ++ aclRegs ++ eventRegs pgACT ++ eventRegs pgDRAW ++ eventRegs pgWENC ++ eventRegs pgWSG ++ memcRegs)
    [.evr, .memory, .ms, .wenc]) ∧
  (∀ (word : Nat), Frame (.lengStop word) [] ([Reg.ACT_JMP_CTRL, Reg.ACT_JMP_STAT, Reg.ACT_SAFE, Reg.DRAW_CNT, Reg.DRAW_VQ_PROD, Reg.WENC_CNT, Reg.WENC_POS, Reg.WSG_CNT] ++ (List.range 2).map Reg.STP_Q_STAT ++ (List.range 3).map Reg.STP_AX_ADDR ++ (List.range 3).map Reg.STP_AX_POS ++ (List.range 3).map Reg.STP_AX_VEL ++ (List.range 4).map Reg.ACT_BR_OUT ++ aclRegs ++ eventRegs pgACT ++ eventRegs pgDRAW ++ eventRegs pgLENG ++ eventRegs pgSTP ++ eventRegs pgTRC ++ eventRegs pgWENC ++ eventRegs pgWSG ++ memcRegs)
    [.evr, .memory, .mortar, .ms, .stp, .sv, .wenc]) ∧
  (∀ (p : Nat), Frame (.tickOverrun p) [] ([Reg.ACT_JMP_CTRL, Reg.ACT_JMP_STAT, Reg.ACT_SAFE, Reg.DRAW_CNT, Reg.DRAW_VQ_PROD, Reg.LENG_OVR, Reg.LENG_OVR_TICK, Reg.WENC_CNT, Reg.WENC_POS, Reg.WSG_CNT] ++ (List.range 2).map Reg.STP_Q_STAT ++ (List.range 3).map Reg.STP_AX_ADDR ++ (List.range 3).map Reg.STP_AX_POS ++ (List.range 3).map Reg.STP_AX_VEL ++ (List.range 4).map Reg.ACT_BR_OUT ++ aclRegs ++ eventRegs pgACT ++ eventRegs pgDRAW ++ eventRegs pgLENG ++ eventRegs pgSTP ++ eventRegs pgTRC ++ eventRegs pgWENC ++ eventRegs pgWSG ++ memcRegs)
    [.evr, .memory, .mortar, .ms, .stp, .sv, .wenc]) ∧
  (∀ (l : Nat) (meas : List (Int × Int × Int)), Frame (.calAdcstatDone l meas) [] ([Reg.CAL_ADCSTAT, Reg.CAL_RUN, Reg.DRAW_CNT, Reg.DRAW_VQ_PROD, Reg.DSK_LANEACT, Reg.WENC_CNT, Reg.WENC_POS] ++ (List.range 4).flatMap (fun l => (List.range 9).map (Reg.RFL_SUB_GAIN l)) ++ (List.range 4).flatMap (fun l => (List.range 9).map (Reg.RFL_SUB_OFS l)) ++ (List.range 4).flatMap (fun l => (List.range 9).map (Reg.RFL_SUB_STAT l)) ++ (List.range 4).flatMap (fun l => eventRegs (pgRFL l)) ++ (List.range 4).map Reg.RFL_ADC_CTRL ++ (List.range 4).map Reg.RFL_ADC_STAT ++ (List.range 4).map Reg.RFL_SYNC_STAT ++ aclRegs ++ eventRegs pgCAL ++ eventRegs pgDET ++ eventRegs pgDRAW ++ eventRegs pgDSK ++ eventRegs pgWENC ++ memcRegs)
    [.cal, .evr, .memory, .ms, .rd, .wenc])

/-- What the read path (RFL, DSK, DET, LDPC, STRP), write path (WENC, WSG, DRAW, HDL, WINH) and format (FMT) rows leave
unchanged. Listed for a row: the pages of BAR0 and configuration space it may change, its registers (an array with all
its elements), and its parts of the state. -/
def Obligations.ReadAndWritePathFrames : Prop :=
  (∀ (l : Nat) (rate : Nat), Frame (.laneRateOutOfRange l rate) [] ((List.range 4).flatMap (fun l => eventRegs (pgRFL l)) ++ (List.range 4).map Reg.RFL_RATE ++ (List.range 4).map Reg.RFL_SYNC_STAT)
    [.rd]) ∧
  (∀ (psa : Nat) (pos : Nat) (tile : Nat), Frame (.dskLateRelease psa pos tile) [] ([Reg.DET_CNT, Reg.DET_WS_STAT, Reg.DRAW_CNT, Reg.DSK_RING_STAT, Reg.DSK_TILES, Reg.LDPC_SLOTS, Reg.STRP_RSA_STAT] ++ (List.range 4).map Reg.DSK_LANE_LATE ++ (List.range 6).map Reg.LDPC_CORE_STAT ++ aclRegs ++ eventRegs pgDET ++ eventRegs pgDSK ++ memcRegs)
    [.evr, .memory, .ms, .rd, .wenc]) ∧
  (∀ (m : Master) (tag : Word), Frame (.detArm m tag) [] ([Reg.DET_ARM_TAG, Reg.DET_WS_STAT, Reg.DSK_RING_STAT, Reg.LDPC_SLOTS, Reg.STRP_RSA_STAT] ++ eventRegs pgDET ++ eventRegs pgSTRP ++ refusalRegs)
    [.evr, .latches, .ms, .rd, .roRecs, .rwo]) ∧
  (∀ (slot : Nat), Frame (.detRound slot) [] ([Reg.DET_CNT, Reg.DET_WS_STAT, Reg.DRAW_CNT, Reg.DSK_RING_STAT, Reg.LDPC_SLOTS, Reg.STRP_RSA_STAT] ++ (List.range 4).map Reg.DET_XT_IN ++ (List.range 4).map Reg.DET_XT_OUT ++ (List.range 4).map Reg.DET_XT_VAR ++ eventRegs pgDET)
    [.rd, .wenc]) ∧
  (∀ (psa : Nat), Frame (.ladderTmaxExpiry psa) [] []
    [.rd]) ∧
  (∀ (kind : Nat) (psa : Nat) (spiral : Nat) (pos : Nat), Frame (.ldpcCodewordLoad kind psa spiral pos) [] ([Reg.DET_WS_STAT, Reg.DSK_RING_STAT, Reg.LDPC_SLOTS, Reg.STRP_RSA_STAT] ++ (List.range 6).map Reg.LDPC_CORE_STAT ++ eventRegs pgLDPC)
    [.rd]) ∧
  (∀ (core : Nat), Frame (.ldpcCoreRetire core) [] ([Reg.DET_WS_STAT, Reg.DSK_RING_STAT, Reg.LDPC_SCHED, Reg.LDPC_SLOTS, Reg.STRP_RSA_STAT] ++ (List.range 6).map Reg.LDPC_CORE_ERR ++ (List.range 6).map Reg.LDPC_CORE_STAT ++ eventRegs pgLDPC)
    [.evr, .rd]) ∧
  (∀ (m : Master) (v : Word), Frame (.strpSlotRelease m v) [] ([Reg.DET_WS_STAT, Reg.DSK_RING_STAT, Reg.LDPC_SLOTS, Reg.STRP_RSA_REL, Reg.STRP_RSA_STAT] ++ eventRegs pgSTRP ++ refusalRegs)
    [.evr, .latches, .ms, .rd, .roRecs, .rwo]) ∧
  (∀ (tfs : Nat), Frame (.wencPassStart tfs) [] ([Reg.HDL_FIFO, Reg.WENC_POS, Reg.WSG_CNT] ++ eventRegs pgWSG)
    [.wenc]) ∧
  (Frame (.wencPassEnd) [] ([Reg.WENC_CNT, Reg.WENC_POS] ++ eventRegs pgWENC)
    [.wenc]) ∧
  (∀ (m : Master) (v : Word), Frame (.wencPassgo m v) [] ([Reg.WENC_PASSGO] ++ eventRegs pgWENC ++ refusalRegs)
    [.evr, .latches, .ms, .roRecs, .rwo, .wenc]) ∧
  (∀ (m : Master) (v : Word), Frame (.wencStgRelease m v) [] ([Reg.WENC_STG_REL] ++ eventRegs pgWENC ++ refusalRegs)
    [.evr, .latches, .ms, .roRecs, .rwo, .wenc]) ∧
  (Frame (.wsgLoadDone) [] ([Reg.WSG_LAYERSTAT, Reg.WSG_LOAD_CTRL] ++ eventRegs pgWSG)
    [.wenc]) ∧
  (∀ (m : Master) (v : Word), Frame (.fmtDiCapture m v) [] ([Reg.FMT_DI_CTRL, Reg.FMT_DI_STAT] ++ eventRegs pgFMT ++ refusalRegs)
    [.evr, .fmt, .latches, .ms, .roRecs, .rwo]) ∧
  (Frame (.fmtDiCaptureDone) [] ([Reg.FMT_DI_CTRL, Reg.FMT_DI_STAT] ++ eventRegs pgFMT)
    [.wenc]) ∧
  (Frame (.wobbleLockLoss) [] ([Reg.FMT_GASTAT] ++ eventRegs pgFMT)
    []) ∧
  (∀ (m : Master) (v : Word), Frame (.hdlCmdWrite m v) [] ([Reg.HDL_CMD, Reg.HDL_FIFO] ++ eventRegs pgHDL ++ refusalRegs)
    [.evr, .latches, .ms, .roRecs, .rwo, .wenc]) ∧
  (∀ (m : Master), Frame (.hdlRspRead m) [] ([Reg.HDL_FIFO] ++ aclRegs)
    [.evr, .ms, .resp, .wenc]) ∧
  (∀ (m : Master) (v : Word) (out : Nat), Frame (.winhLatchClear m v out) [] ([Reg.WINH_LATCH, Reg.WINH_SRC] ++ eventRegs pgWINH ++ refusalRegs)
    [.evr, .latches, .ms, .roRecs, .rwo]) ∧
  (∀ (l : Nat) (rx : List RawSample) (skew : Nat), Frame (.acqMarkerWindowExpiry l rx skew) [] ([Reg.CAL_RUN, Reg.DET_HINT, Reg.DET_WS_STAT, Reg.DRAW_CNT, Reg.DRAW_VQ_PROD, Reg.DSK_CFG, Reg.DSK_LANEACT, Reg.DSK_RING_STAT, Reg.LDPC_SLOTS, Reg.STRP_RSA_STAT, Reg.WENC_CNT, Reg.WENC_POS] ++ (List.range 4).flatMap (fun l => (List.range 7).map (Reg.RFL_EQ_TAP l)) ++ (List.range 4).flatMap (fun l => (List.range 9).map (Reg.RFL_SUB_STAT l)) ++ (List.range 4).flatMap (fun l => eventRegs (pgRFL l)) ++ (List.range 4).map Reg.DSK_LANE_SKEW ++ (List.range 4).map Reg.RFL_ADC_CTRL ++ (List.range 4).map Reg.RFL_ADC_STAT ++ (List.range 4).map Reg.RFL_AGC_STAT ++ (List.range 4).map Reg.RFL_SYNC_CNT ++ (List.range 4).map Reg.RFL_SYNC_CTRL ++ (List.range 4).map Reg.RFL_SYNC_STAT ++ (List.range 4).map Reg.RFL_TR_STAT ++ aclRegs ++ eventRegs pgCAL ++ eventRegs pgDET ++ eventRegs pgDRAW ++ eventRegs pgDSK ++ eventRegs pgWENC ++ memcRegs)
    [.cal, .evr, .memory, .ms, .rd, .wenc]) ∧
  (∀ (l : Nat) (ofs : Int) (gain : Int) (skew : Int), Frame (.adcSpareSwap l ofs gain skew) [] ([Reg.DRAW_CNT, Reg.DRAW_VQ_PROD, Reg.DSK_LANEACT, Reg.WENC_CNT, Reg.WENC_POS] ++ (List.range 4).flatMap (fun l => (List.range 9).map (Reg.RFL_SUB_STAT l)) ++ (List.range 4).flatMap (fun l => eventRegs (pgRFL l)) ++ (List.range 4).map Reg.RFL_ADC_CTRL ++ (List.range 4).map Reg.RFL_ADC_STAT ++ (List.range 4).map Reg.RFL_SYNC_STAT ++ aclRegs ++ eventRegs pgCAL ++ eventRegs pgDET ++ eventRegs pgDRAW ++ eventRegs pgDSK ++ eventRegs pgWENC ++ memcRegs)
    [.cal, .evr, .memory, .ms, .rd, .wenc]) ∧
  (∀ (m : Master) (v : Word), Frame (.drawVqConsWrite m v) [] ([Reg.DRAW_VQ_CONS, Reg.DRAW_VQ_PROD] ++ eventRegs pgDRAW ++ memcRegs ++ refusalRegs)
    [.evr, .latches, .memory, .ms, .roRecs, .rwo, .wenc]) ∧
  (∀ (l : Nat) (rx : List RawSample) (skew : Nat), Frame (.frameSync l rx skew) [] ([Reg.CAL_RUN, Reg.DET_HINT, Reg.DET_WS_STAT, Reg.DRAW_CNT, Reg.DRAW_VQ_PROD, Reg.DSK_CFG, Reg.DSK_LANEACT, Reg.DSK_RING_STAT, Reg.LDPC_SLOTS, Reg.STRP_RSA_STAT, Reg.WENC_CNT, Reg.WENC_POS] ++ (List.range 4).flatMap (fun l => (List.range 7).map (Reg.RFL_EQ_TAP l)) ++ (List.range 4).flatMap (fun l => (List.range 9).map (Reg.RFL_SUB_STAT l)) ++ (List.range 4).flatMap (fun l => eventRegs (pgRFL l)) ++ (List.range 4).map Reg.DSK_LANE_SKEW ++ (List.range 4).map Reg.RFL_ADC_CTRL ++ (List.range 4).map Reg.RFL_ADC_STAT ++ (List.range 4).map Reg.RFL_AGC_STAT ++ (List.range 4).map Reg.RFL_MODE ++ (List.range 4).map Reg.RFL_POS ++ (List.range 4).map Reg.RFL_RATE ++ (List.range 4).map Reg.RFL_SYNC_CNT ++ (List.range 4).map Reg.RFL_SYNC_CTRL ++ (List.range 4).map Reg.RFL_SYNC_STAT ++ (List.range 4).map Reg.RFL_TR_STAT ++ aclRegs ++ eventRegs pgCAL ++ eventRegs pgDET ++ eventRegs pgDRAW ++ eventRegs pgDSK ++ eventRegs pgWENC ++ memcRegs)
    [.cal, .evr, .memory, .ms, .rd, .wenc]) ∧
  (∀ (cells : List (List Bool)) (rate : Nat), Frame (.gaWord cells rate) [] ([Reg.FMT_DI_STAT, Reg.FMT_GASTAT, Reg.FMT_GA_HI, Reg.FMT_GA_LO, Reg.FMT_WOB] ++ aclRegs ++ eventRegs pgFMT ++ memcRegs)
    [.evr, .fmt, .memory, .ms]) ∧
  (∀ (status : Word), Frame (.hdlFrame status) [] ([Reg.DRAW_CNT, Reg.DRAW_VQ_PROD, Reg.HDL_CFG, Reg.HDL_CNT, Reg.HDL_FIFO, Reg.WENC_CNT, Reg.WENC_POS, Reg.WSG_CNT] ++ aclRegs ++ eventRegs pgDRAW ++ eventRegs pgHDL ++ eventRegs pgWENC ++ eventRegs pgWSG ++ memcRegs)
    [.evr, .memory, .ms, .wenc]) ∧
  (∀ (core : Nat), Frame (.ldpcDecodeSet core) [] ([Reg.DET_WS_STAT, Reg.DRAW_CNT, Reg.DSK_RING_STAT, Reg.LDPC_CNT_FAIL, Reg.LDPC_CNT_OK, Reg.LDPC_ITSUM, Reg.LDPC_SLOTS, Reg.STRP_RSA_STAT] ++ (List.range 6).map Reg.LDPC_CORE_STAT ++ aclRegs ++ eventRegs pgLDPC ++ memcRegs)
    [.evr, .memory, .ms, .rd, .wenc]) ∧
  (∀ (l : Nat) (g : Nat) (rate : Nat) (rx : List RawSample), Frame (.linkZoneReached l g rate rx) [] ([Reg.DRAW_CNT, Reg.DRAW_VQ_PROD, Reg.DSK_LANEACT, Reg.SYS_CLK, Reg.WENC_CNT, Reg.WENC_POS] ++ (List.range 4).flatMap (fun l => (List.range 7).map (Reg.RFL_EQ_TAP l)) ++ (List.range 4).flatMap (fun l => (List.range 9).map (Reg.RFL_SUB_STAT l)) ++ (List.range 4).flatMap (fun l => eventRegs (pgRFL l)) ++ (List.range 4).map Reg.RFL_ADC_STAT ++ (List.range 4).map Reg.RFL_AGC_STAT ++ (List.range 4).map Reg.RFL_POS ++ (List.range 4).map Reg.RFL_RATE ++ (List.range 4).map Reg.RFL_SYNC_STAT ++ (List.range 4).map Reg.RFL_TR_STAT ++ aclRegs ++ eventRegs pgDET ++ eventRegs pgDRAW ++ eventRegs pgDSK ++ eventRegs pgWENC ++ memcRegs)
    [.evr, .memory, .ms, .rd, .wenc]) ∧
  (∀ (psa : Nat), Frame (.retryLadderRung psa) [] ([Reg.DET_CNT, Reg.DET_RCQ_PROD, Reg.DET_WS_STAT, Reg.DSK_RING_STAT, Reg.LDPC_CNT_FAIL, Reg.LDPC_CNT_OK, Reg.LDPC_ITSUM, Reg.LDPC_SLOTS, Reg.STRP_CNT, Reg.STRP_MIS, Reg.STRP_RSA_STAT, Reg.XLT_CNT] ++ (List.range 4).map Reg.RFL_SYNC_CNT ++ aclRegs ++ eventRegs pgDET ++ eventRegs pgLDPC ++ eventRegs pgSTRP ++ eventRegs pgXLT ++ memcRegs)
    [.evr, .fresh, .memory, .ms, .rd]) ∧
  (∀ (psa : Nat), Frame (.stripDecode psa) [] ([Reg.DET_CNT, Reg.DET_RCQ_PROD, Reg.DET_WS_STAT, Reg.DSK_RING_STAT, Reg.LDPC_SLOTS, Reg.STRP_CNT, Reg.STRP_MIS, Reg.STRP_RSA_STAT, Reg.XLT_CNT] ++ aclRegs ++ eventRegs pgDET ++ eventRegs pgSTRP ++ eventRegs pgXLT ++ memcRegs)
    [.evr, .fresh, .memory, .ms, .rd]) ∧
  (∀ (psa : Nat) (pos : Nat) (tile : Nat), Frame (.tileRelease psa pos tile) [] ([Reg.DET_CNT, Reg.DET_WS_STAT, Reg.DRAW_CNT, Reg.DSK_RING_STAT, Reg.DSK_TILES, Reg.LDPC_SLOTS, Reg.STRP_RSA_STAT] ++ (List.range 6).map Reg.LDPC_CORE_STAT ++ aclRegs ++ eventRegs pgDET ++ memcRegs)
    [.evr, .memory, .ms, .rd, .wenc]) ∧
  (∀ (m : Master) (v : Word) (atLastBit : Bool), Frame (.wencAbort m v atLastBit) [] ([Reg.DRAW_CNT, Reg.DRAW_VQ_PROD, Reg.WENC_ARM_CTRL, Reg.WENC_CNT, Reg.WENC_POS, Reg.WSG_CNT] ++ eventRegs pgDRAW ++ eventRegs pgWENC ++ eventRegs pgWSG ++ memcRegs ++ refusalRegs)
    [.evr, .latches, .memory, .ms, .roRecs, .rwo, .wenc]) ∧
  (∀ (m : Master) (tag : Word), Frame (.wencArm m tag) [] ([Reg.DRAW_OPC_RES, Reg.WENC_ARM_TAG] ++ eventRegs pgWENC ++ memcRegs ++ refusalRegs)
    [.evr, .latches, .memory, .ms, .roRecs, .rwo, .wenc]) ∧
  (Frame (.wencParityDone) [] (aclRegs ++ memcRegs)
    [.evr, .memory, .ms, .wenc]) ∧
  (Frame (.wencPasswaitExpiry) [] ([Reg.DRAW_VQ_PROD, Reg.WENC_CNT, Reg.WENC_POS] ++ aclRegs ++ eventRegs pgDRAW ++ eventRegs pgWENC ++ memcRegs)
    [.evr, .memory, .ms, .wenc]) ∧
  (Frame (.wencStartrevExpiry) [] ([Reg.DRAW_VQ_PROD, Reg.WENC_CNT, Reg.WENC_POS] ++ aclRegs ++ eventRegs pgDRAW ++ eventRegs pgWENC ++ memcRegs)
    [.evr, .memory, .ms, .wenc]) ∧
  (∀ (m : Master) (v : Word) (late : Bool), Frame (.winhForce m v late) [] ([Reg.DRAW_CNT, Reg.DRAW_VQ_PROD, Reg.WENC_CNT, Reg.WENC_POS, Reg.WINH_CNT, Reg.WINH_FORCE, Reg.WINH_LATCH] ++ eventRegs pgDRAW ++ eventRegs pgTRC ++ eventRegs pgWENC ++ eventRegs pgWINH ++ memcRegs ++ refusalRegs)
    [.evr, .latches, .memory, .mortar, .ms, .roRecs, .rwo, .wenc]) ∧
  (∀ (srcs : Nat) (late : Bool), Frame (.winhTrip srcs late) [] ([Reg.DRAW_CNT, Reg.DRAW_VQ_PROD, Reg.WENC_CNT, Reg.WENC_POS, Reg.WINH_CNT, Reg.WINH_LATCH, Reg.WINH_SRC] ++ aclRegs ++ eventRegs pgDRAW ++ eventRegs pgTRC ++ eventRegs pgWENC ++ eventRegs pgWINH ++ memcRegs)
    [.evr, .memory, .mortar, .ms, .wenc]) ∧
  (∀ (m : Master) (v : Word), Frame (.wsgLoad m v) [] ([Reg.WSG_LOAD_CTRL] ++ eventRegs pgWSG ++ memcRegs ++ refusalRegs)
    [.evr, .latches, .memory, .ms, .roRecs, .rwo, .wenc])

/-- What the link (PCIE), command queue (HQ), translation (XLT, MEDM), debug, watchdog, pin, clock, interrupt and hart
rows leave unchanged. Listed for a row: the pages of BAR0 and configuration space it may change, its registers (an
array with all its elements), and its parts of the state. -/
def Obligations.HostAndPlatformFrames : Prop :=
  (Frame (.katoExpiry) [0x100000, 0x100001, 0x100002, 0x100003, 0x200000] ([Reg.HQ_AE, Reg.HQ_CMP, Reg.HQ_CTX, Reg.HQ_CTXPK, Reg.HQ_STALL, Reg.PCIE_LINK] ++ (List.range 65).map Reg.HQ_CQPTR ++ (List.range 65).map Reg.HQ_QCFG ++ (List.range 65).map Reg.HQ_SQPTR ++ eventRegs pgHQ)
    [.evr, .hq, .pcie]) ∧
  (Frame (.ltrConditionChange) [] [Reg.PCIE_LINK]
    [.pcie]) ∧
  (Frame (.ltrIdleTimer) [] [Reg.PCIE_LINK]
    [.pcie]) ∧
  (Frame (.mediaVerifyDone) [0x100000, 0x100001, 0x100002, 0x100003, 0x200000] ([Reg.HQ_AE, Reg.HQ_CMP, Reg.HQ_CTX, Reg.HQ_CTXPK, Reg.HQ_STALL, Reg.PCIE_LINK] ++ (List.range 65).map Reg.HQ_CQPTR ++ (List.range 65).map Reg.HQ_QCFG ++ (List.range 65).map Reg.HQ_SQPTR ++ eventRegs pgHQ)
    [.hq, .pcie]) ∧
  (Frame (.sqFetch) [] ([Reg.DMA_STAT, Reg.PCIE_LINK, Reg.PCIE_TAGS] ++ (List.range 65).map Reg.HQ_SQPTR)
    [.hq, .pcie]) ∧
  (Frame (.apstTransition) [] ([Reg.HQ_PS] ++ eventRegs pgHQ)
    [.harts, .hq]) ∧
  (Frame (.pcieL0sEntry) [] [Reg.PCIE_LINK]
    []) ∧
  (Frame (.pcieL1Exit) [] [Reg.PCIE_LINK]
    []) ∧
  (Frame (.pcieL1Request) [] [Reg.PCIE_LINK]
    []) ∧
  (Frame (.pmeTurnOff) [0x200000] ([Reg.PCIE_CNT1, Reg.PCIE_LINK] ++ eventRegs pgPCIE)
    [.pcie]) ∧
  (Frame (.flrDrainTimeout) [] [Reg.DMA_STAT, Reg.PCIE_FLR, Reg.PCIE_TAGS]
    [.pcie]) ∧
  (∀ (tag : Nat), Frame (.tagQuarantineEnd tag) [] [Reg.DMA_STAT, Reg.PCIE_LINK, Reg.PCIE_TAGS]
    [.pcie]) ∧
  (∀ (v : Word), Frame (.unlkNewchal v) [] [Reg.EVR_POC, Reg.PCIE_B2]
    [.pcie, .sec]) ∧
  (∀ (v : Word), Frame (.unlkSubmit v) [] [Reg.EVR_POC, Reg.PCIE_B2]
    [.pcie, .sec]) ∧
  (∀ (v : Word), Frame (.unlkRelock v) [] [Reg.EVR_POC, Reg.PCIE_B2]
    [.pcie, .sec]) ∧
  (Frame (.unlkExpiry) [] [Reg.PCIE_B2]
    [.pcie]) ∧
  (Frame (.unlkVerifyDone) [] ([Reg.PCIE_B2] ++ eventRegs pgPCIE)
    [.evr, .pcie]) ∧
  (∀ (kind : Nat), Frame (.pcieProtocolError kind) [0x200000] ([Reg.PCIE_CNT0] ++ eventRegs pgPCIE)
    [.evr, .fresh]) ∧
  (∀ (off : Nat) (n : Nat), Frame (.bar2Read off n) [0x200000] ([Reg.PCIE_CNT0, Reg.PCIE_LINK] ++ aclRegs ++ eventRegs pgPCIE)
    [.evr, .fresh, .ms, .resp]) ∧
  (∀ (bar : Nat) (off : Nat) (n : Nat), Frame (.barMemoryReadAbort bar off n) [0x200000] ([Reg.PCIE_CNT0, Reg.PCIE_LINK] ++ aclRegs ++ eventRegs pgPCIE)
    [.evr, .fresh, .ms, .resp]) ∧
  (Frame (.debugAttach) [] ([Reg.DBG_CNT, Reg.DBG_STAT] ++ eventRegs pgDBG)
    [.evr]) ∧
  (Frame (.debugDetach) [] ([Reg.DBG_STAT] ++ eventRegs pgDBG)
    [.evr]) ∧
  (∀ (h : Nat), Frame (.debugResume h) [] ([Reg.DBG_STAT] ++ (List.range 5).map Reg.WDT_STAT)
    [.boot, .harts]) ∧
  (∀ (w : Nat), Frame (.wdtStage1Expiry w) [] ((List.range 5).map Reg.WDT_STAT ++ eventRegs pgWDT)
    [.boot]) ∧
  (Frame (.wdtWcountClear) [] [Reg.WDT_RST]
    []) ∧
  (∀ (m : Master) (w : Nat) (v : Word), Frame (.wdtKick m w v) [] ((List.range 5).map Reg.WDT_KICK ++ (List.range 5).map Reg.WDT_STAT ++ eventRegs pgWDT ++ refusalRegs)
    [.boot, .evr, .latches, .ms, .roRecs, .rwo]) ∧
  (∀ (m : Master) (v : Word), Frame (.wdtRejoin m v) [] ([Reg.WDT_ISO, Reg.WDT_REJOIN] ++ (List.range 5).map Reg.WDT_STAT ++ eventRegs pgWDT ++ refusalRegs)
    [.boot, .evr, .harts, .latches, .ms, .roRecs, .rwo]) ∧
  (∀ (n : Nat) (level : Bool), Frame (.gpioEdge n level) [] ([Reg.GPIO_IN] ++ eventRegs pgGPIO)
    []) ∧
  (∀ (m : Master) (v : Word), Frame (.gpioSet m v) [] ([Reg.GPIO_OUT, Reg.GPIO_SET] ++ eventRegs pgGPIO ++ refusalRegs)
    [.evr, .latches, .ms, .roRecs, .rwo]) ∧
  (∀ (m : Master) (v : Word), Frame (.gpioClr m v) [] ([Reg.GPIO_CLR, Reg.GPIO_OUT] ++ eventRegs pgGPIO ++ refusalRegs)
    [.evr, .latches, .ms, .roRecs, .rwo]) ∧
  (∀ (t : List Int), Frame (.tsnsConversion t) [0x100000, 0x100001, 0x100002, 0x100003, 0x200000] ([Reg.HQ_AE, Reg.HQ_CMP, Reg.HQ_CTX, Reg.HQ_CTXPK, Reg.HQ_STALL, Reg.PCIE_LINK, Reg.TSNS_MAX, Reg.TSNS_PEAK] ++ (List.range 6).map Reg.TSNS_T ++ (List.range 65).map Reg.HQ_CQPTR ++ (List.range 65).map Reg.HQ_QCFG ++ (List.range 65).map Reg.HQ_SQPTR ++ eventRegs pgHQ ++ eventRegs pgTSNS)
    [.boot, .hq, .pcie]) ∧
  (Frame (.crystalOutOfTolerance) [] ([Reg.SYS_CLK] ++ eventRegs pgSYS)
    []) ∧
  (∀ (m : Master) (a : Nat), Frame (.unmappedAccess m a) [] (eventRegs pgSYS)
    [.resp]) ∧
  (∀ (h : Nat), Frame (.mtimeCompareMatch h) [] []
    [.harts]) ∧
  (∀ (m : Master) (h : Nat) (v : Word), Frame (.mtimecmpWrite m h v) [] ((List.range 5).map Reg.SYS_MTIMECMP_HI ++ eventRegs pgSYS ++ refusalRegs)
    [.evr, .harts, .latches, .ms, .roRecs, .rwo]) ∧
  (∀ (m : Master) (h : Nat), Frame (.irqClaimRead m h) [] (aclRegs)
    [.evr, .harts, .ms, .resp]) ∧
  (∀ (m : Master) (h : Nat) (v : Word), Frame (.irqComplete m h v) [] ((List.range 5).map Reg.IRQ_CLAIM ++ eventRegs pgIRQ ++ refusalRegs)
    [.evr, .harts, .latches, .ms, .roRecs, .rwo]) ∧
  (∀ (h : Nat) (v : Word), Frame (.lnl1opWrite h v) [] []
    [.harts]) ∧
  (∀ (h : Nat), Frame (.fenceI h) [] []
    [.harts]) ∧
  (∀ (h : Nat), Frame (.debugHalt h) [] ([Reg.DBG_STAT, Reg.DRAW_CNT, Reg.DRAW_VQ_PROD, Reg.WENC_CNT, Reg.WENC_POS, Reg.WSG_CNT] ++ (List.range 5).map Reg.WDT_STAT ++ aclRegs ++ eventRegs pgDRAW ++ eventRegs pgWENC ++ eventRegs pgWSG ++ memcRegs)
    [.boot, .evr, .harts, .memory, .ms, .wenc]) ∧
  (∀ (l : Nat), Frame (.channelPllLoss l) [] ([Reg.DRAW_CNT, Reg.DRAW_VQ_PROD, Reg.DSK_LANEACT, Reg.SYS_CLK, Reg.WENC_CNT, Reg.WENC_POS] ++ (List.range 4).flatMap (fun l => (List.range 9).map (Reg.RFL_SUB_STAT l)) ++ (List.range 4).flatMap (fun l => eventRegs (pgRFL l)) ++ (List.range 4).map Reg.RFL_ADC_CTRL ++ (List.range 4).map Reg.RFL_ADC_STAT ++ (List.range 4).map Reg.RFL_SYNC_STAT ++ aclRegs ++ eventRegs pgCAL ++ eventRegs pgDET ++ eventRegs pgDRAW ++ eventRegs pgDSK ++ eventRegs pgSYS ++ eventRegs pgWENC ++ memcRegs)
    [.cal, .evr, .memory, .ms, .rd, .wenc]) ∧
  (∀ (m : Master) (a : Nat), Frame (.latchingLowWordRead m a) [] ([Reg.DMA_FAILADDR_HI, Reg.DMA_FAILADDR_LO, Reg.EVR_TIME_HI, Reg.EVR_TIME_LO, Reg.FMT_GA_HI, Reg.FMT_GA_LO, Reg.HDL_FIFO, Reg.HDL_RSP, Reg.HQ_SEQ_HI, Reg.HQ_SEQ_LO, Reg.IRQ_PEND_HI, Reg.IRQ_PEND_LO, Reg.MEMC_PPROT_HI, Reg.MEMC_PPROT_LO, Reg.OPT_WDATA_HI, Reg.OPT_WDATA_LO, Reg.SYS_MTIME_HI, Reg.SYS_MTIME_LO, Reg.TICK_CNT_HI, Reg.TICK_CNT_LO, Reg.TICK_PH, Reg.XLT_LK_LBA_HI, Reg.XLT_LK_LBA_LO, Reg.XLT_SEQRES_HI, Reg.XLT_SEQRES_LO] ++ (List.range 4).map Reg.DSK_LANE_SKEW ++ (List.range 41).map Reg.IRQ_ROUTE ++ (List.range 5).map Reg.IRQ_CLAIM ++ (List.range 5).map Reg.SYS_MTIMECMP_HI ++ (List.range 5).map Reg.SYS_MTIMECMP_LO ++ aclRegs)
    [.evr, .fresh, .harts, .latches, .ms, .resp, .wenc]) ∧
  (∀ (m : Master) (a : Nat), Frame (.rcRegisterRead m a) [] ([Reg.DMA_FAILADDR_HI, Reg.DMA_FAILADDR_LO, Reg.EVR_TIME_HI, Reg.EVR_TIME_LO, Reg.FMT_GA_HI, Reg.FMT_GA_LO, Reg.HDL_FIFO, Reg.HDL_RSP, Reg.HQ_SEQ_HI, Reg.HQ_SEQ_LO, Reg.IRQ_PEND_HI, Reg.IRQ_PEND_LO, Reg.MEMC_PPROT_HI, Reg.MEMC_PPROT_LO, Reg.OPT_WDATA_HI, Reg.OPT_WDATA_LO, Reg.SYS_MTIME_HI, Reg.SYS_MTIME_LO, Reg.TICK_CNT_HI, Reg.TICK_CNT_LO, Reg.TICK_PH, Reg.XLT_LK_LBA_HI, Reg.XLT_LK_LBA_LO, Reg.XLT_SEQRES_HI, Reg.XLT_SEQRES_LO] ++ (List.range 4).map Reg.DSK_LANE_SKEW ++ (List.range 41).map Reg.IRQ_ROUTE ++ (List.range 5).map Reg.IRQ_CLAIM ++ (List.range 5).map Reg.SYS_MTIMECMP_HI ++ (List.range 5).map Reg.SYS_MTIMECMP_LO ++ [a] ++ aclRegs)
    [.evr, .fresh, .harts, .latches, .ms, .resp, .wenc]) ∧
  (∀ (m : Master) (p : Nat) (v : Word), Frame (.pageLock m p v) [] ([Reg.LOCK p, Reg.ERR_INFO p] ++ eventRegs pgSYS ++ refusalRegs)
    [.evr, .latches, .ms, .roRecs, .rwo]) ∧
  (Frame (.powerStateSafePoint) [0x200000] ([Reg.ACT_CFG, Reg.HQ_PS, Reg.L2C_CTRL, Reg.PCIE_LINK, Reg.SPN_FAULT, Reg.SPN_MODE] ++ eventRegs pgHQ ++ eventRegs pgL2C ++ eventRegs pgSPN ++ memcRegs ++ refusalRegs)
    [.evr, .harts, .hq, .latches, .memory, .ms, .roRecs, .rwo, .spn]) ∧
  (Frame (.surprisePolicyTimeout) [0x200000] ([Reg.ACT_CFG, Reg.HQ_PS, Reg.L2C_CTRL, Reg.PCIE_LINK, Reg.PCIE_SURP, Reg.SPN_FAULT, Reg.SPN_MODE] ++ eventRegs pgL2C ++ eventRegs pgSPN ++ memcRegs ++ refusalRegs)
    [.evr, .harts, .latches, .memory, .ms, .pcie, .roRecs, .rwo, .spn]) ∧
  (∀ (good : Bool), Frame (.brickResetSegmentDone good) hostPages (hostRegs ++ [Reg.MEDM_CNT, Reg.MEDM_RST])
    hostParts) ∧
  (∀ (seq : Nat), Frame (.cmdAbort seq) hostPages (hostRegs ++ [Reg.HQ_VIOL])
    hostParts) ∧
  (∀ (seq : Nat), Frame (.cmdAsyncEventRequest seq) hostPages (hostRegs ++ [Reg.HQ_VIOL])
    hostParts) ∧
  (∀ (seq : Nat), Frame (.cmdAttestationReport seq) hostPages (hostRegs ++ [Reg.HQ_VIOL])
    hostParts) ∧
  (∀ (seq : Nat), Frame (.cmdCompare seq) hostPages (hostRegs ++ [Reg.HQ_VIOL])
    hostParts) ∧
  (∀ (seq : Nat), Frame (.cmdCreateIoCq seq) hostPages (hostRegs ++ [Reg.HQ_VIOL])
    hostParts) ∧
  (∀ (seq : Nat), Frame (.cmdCreateIoSq seq) hostPages (hostRegs ++ [Reg.HQ_VIOL])
    hostParts) ∧
  (∀ (seq : Nat), Frame (.cmdDatasetManagement seq) hostPages (hostRegs ++ [Reg.HQ_VIOL])
    hostParts) ∧
  (∀ (seq : Nat), Frame (.cmdDeleteIoCq seq) hostPages (hostRegs ++ [Reg.HQ_VIOL])
    hostParts) ∧
  (∀ (seq : Nat), Frame (.cmdDeleteIoSq seq) hostPages (hostRegs ++ [Reg.HQ_VIOL])
    hostParts) ∧
  (∀ (seq : Nat) (x : Option LoadIn), Frame (.cmdDiscLoad seq x) hostPages (hostRegs ++ [Reg.HQ_VIOL, Reg.XLT_CKPT_GEN, Reg.XLT_SEQRES_HI, Reg.XLT_SEQRES_LO])
    (hostParts ++ [.pwr])) ∧
  (∀ (seq : Nat), Frame (.cmdDiscPrepareFlip seq) hostPages (hostRegs ++ [Reg.HQ_VIOL])
    hostParts) ∧
  (∀ (seq : Nat), Frame (.cmdDiscSpin seq) hostPages (hostRegs ++ [Reg.HQ_VIOL])
    hostParts) ∧
  (∀ (seq : Nat), Frame (.cmdDiscUnload seq) hostPages (hostRegs ++ [Reg.HQ_VIOL])
    hostParts) ∧
  (∀ (seq : Nat), Frame (.cmdFirmwareCommit seq) hostPages (hostRegs ++ [Reg.HQ_VIOL])
    hostParts) ∧
  (∀ (seq : Nat), Frame (.cmdFirmwareImageDownload seq) hostPages (hostRegs ++ [Reg.HQ_VIOL])
    hostParts) ∧
  (∀ (seq : Nat), Frame (.cmdFlush seq) hostPages (hostRegs ++ [Reg.HQ_VIOL])
    hostParts) ∧
  (∀ (seq : Nat), Frame (.cmdGetFeatures seq) hostPages (hostRegs ++ [Reg.HQ_VIOL])
    hostParts) ∧
  (∀ (seq : Nat), Frame (.cmdGetLogPage seq) hostPages (hostRegs ++ [Reg.HQ_VIOL])
    hostParts) ∧
  (∀ (seq : Nat), Frame (.cmdIdentify seq) hostPages (hostRegs ++ [Reg.HQ_VIOL])
    hostParts) ∧
  (∀ (seq : Nat), Frame (.cmdKeepAlive seq) hostPages (hostRegs ++ [Reg.HQ_VIOL])
    hostParts) ∧
  (∀ (seq : Nat), Frame (.cmdMediaVerify seq) hostPages (hostRegs ++ [Reg.HQ_VIOL])
    hostParts) ∧
  (∀ (seq : Nat), Frame (.cmdMediaVerifyStop seq) hostPages (hostRegs ++ [Reg.HQ_VIOL])
    hostParts) ∧
  (∀ (seq : Nat), Frame (.cmdRead seq) hostPages (hostRegs ++ [Reg.HQ_VIOL])
    hostParts) ∧
  (∀ (seq : Nat), Frame (.cmdRecorderClear seq) hostPages (hostRegs ++ [Reg.HQ_VIOL])
    hostParts) ∧
  (∀ (seq : Nat), Frame (.cmdSetFeatures seq) hostPages (hostRegs ++ [Reg.HQ_VIOL])
    hostParts) ∧
  (∀ (seq : Nat), Frame (.cmdWrite seq) hostPages (hostRegs ++ [Reg.HQ_VIOL])
    hostParts) ∧
  (∀ (seq : Nat), Frame (.cmdWriteZeroes seq) hostPages (hostRegs ++ [Reg.HQ_VIOL])
    hostParts) ∧
  (∀ (y : Nat) (v : Word), Frame (.cqHeadDoorbell y v) hostPages (hostRegs ++ [Reg.HQ_VIOL])
    hostParts) ∧
  (∀ (tag : Nat) (status : Nat) (poison : Bool) (bytes : List Nat), Frame (.dmaReadCompletion tag status poison bytes) hostPages (hostRegs ++ [Reg.DMA_FAILADDR_HI, Reg.DMA_FAILADDR_LO, Reg.DMA_RDBYTES, Reg.DMA_REISSUE, Reg.HQ_CTRL, Reg.PCIE_CNT0, Reg.PCIE_CNT1] ++ eventRegs pgDMA ++ eventRegs pgPCIE)
    hostParts) ∧
  (Frame (.drawVerdict) hostPages (hostRegs ++ (List.range 16).map Reg.DRAW_OPC_ERR)
    hostParts) ∧
  (∀ (v : Word), Frame (.initiateFlr v) hostPages (hostRegs ++ [Reg.DMA_REISSUE, Reg.HQ_CTRL, Reg.PCIE_CNT1, Reg.PCIE_CTO, Reg.PCIE_FLR] ++ eventRegs pgDMA ++ eventRegs pgPCIE)
    hostParts) ∧
  (Frame (.journalUnitDurable) hostPages (hostRegs ++ [Reg.MEDM_CNT, Reg.XLT_CKPT_GEN, Reg.XLT_SEQRES_HI, Reg.XLT_SEQRES_LO])
    hostParts) ∧
  (∀ (m : Master) (v : Word), Frame (.medmRstGo m v) hostPages (hostRegs ++ [Reg.MEDM_RST])
    hostParts) ∧
  (∀ (seq : Nat), Frame (.mergeWaitTimeout seq) hostPages (hostRegs ++ [Reg.XLT_MERGE])
    hostParts) ∧
  (∀ (v : Word), Frame (.pcieBmeClear v) hostPages (hostRegs ++ [Reg.DMA_REISSUE, Reg.HQ_CTRL, Reg.PCIE_CNT1, Reg.PCIE_CTO, Reg.PCIE_FLR] ++ eventRegs pgDMA ++ eventRegs pgPCIE)
    hostParts) ∧
  (∀ (v : Word), Frame (.pcieBmeSet v) hostPages (hostRegs ++ [Reg.DMA_REISSUE, Reg.HQ_CTRL, Reg.PCIE_CNT1, Reg.PCIE_CTO, Reg.PCIE_FLR] ++ eventRegs pgDMA ++ eventRegs pgPCIE)
    hostParts) ∧
  (∀ (tag : Nat), Frame (.pcieCompletionTimeout tag) hostPages (hostRegs ++ [Reg.DMA_FAILADDR_HI, Reg.DMA_FAILADDR_LO, Reg.DMA_REISSUE, Reg.HQ_CTRL, Reg.PCIE_CNT0, Reg.PCIE_CNT1] ++ eventRegs pgDMA ++ eventRegs pgPCIE)
    hostParts) ∧
  (∀ (off : Nat) (bytes : List Nat), Frame (.pcieConfigWrite off bytes) hostPages (hostRegs ++ [Reg.DMA_REISSUE, Reg.HQ_CTRL, Reg.PCIE_CNT1, Reg.PCIE_CTO, Reg.PCIE_FLR] ++ eventRegs pgDMA ++ eventRegs pgPCIE)
    hostParts) ∧
  (∀ (v : Word), Frame (.pcieD0Entry v) hostPages (hostRegs ++ [Reg.DMA_REISSUE, Reg.HQ_CTRL, Reg.PCIE_CNT1, Reg.PCIE_CTO, Reg.PCIE_FLR] ++ eventRegs pgDMA ++ eventRegs pgPCIE)
    hostParts) ∧
  (∀ (v : Word), Frame (.pcieD3hotEntry v) hostPages (hostRegs ++ [Reg.DMA_REISSUE, Reg.HQ_CTRL, Reg.PCIE_CNT1, Reg.PCIE_CTO, Reg.PCIE_FLR] ++ eventRegs pgDMA ++ eventRegs pgPCIE)
    hostParts) ∧
  (∀ (speed : Nat) (width : Nat), Frame (.pcieLinkUp speed width) hostPages (hostRegs ++ [Reg.DMA_REISSUE] ++ eventRegs pgDMA ++ eventRegs pgPCIE)
    hostParts) ∧
  (∀ (seq : Nat), Frame (.snapshotUnpin seq) hostPages hostRegs
    hostParts) ∧
  (∀ (grant : Nat), Frame (.sqEntriesArrive grant) hostPages (hostRegs ++ [Reg.HQ_ACC, Reg.HQ_SEQ_HI, Reg.HQ_SEQ_LO, Reg.HQ_VIOL])
    hostParts) ∧
  (∀ (y : Nat) (v : Word), Frame (.sqTailDoorbell y v) hostPages (hostRegs ++ [Reg.HQ_VIOL])
    hostParts) ∧
  (∀ (k : Nat), Frame (.stagingFillTimeout k) hostPages (hostRegs ++ [Reg.XLT_CFG])
    hostParts) ∧
  (∀ (x : TickIn), Frame (.tickBoundary x) hostPages (hostRegs ++ [Reg.ACT_JMP_CTRL, Reg.ACT_JMP_STAT, Reg.ACT_SAFE, Reg.CAL_GSTAT, Reg.DMA_CDMA, Reg.HDL_FIFO, Reg.LENG_CYC, Reg.LENG_CYCPK, Reg.LENG_MERR, Reg.LENG_OVR, Reg.LENG_OVR_TICK, Reg.LENG_SHADOW, Reg.LENG_UPD_CTRL, Reg.PWR_VIN, Reg.SADC_GCNT, Reg.SADC_GVEL, Reg.SADC_OVR, Reg.SPN_CNT, Reg.SPN_MEAS, Reg.SPN_SPDCMD_VAL, Reg.TICK_LATE, Reg.WINH_SRC] ++ (List.range 10).map Reg.CAL_MG_STAT ++ (List.range 16).map Reg.LENG_PROG_CYC ++ (List.range 3).map Reg.SPN_SH_GAIN ++ (List.range 3).map Reg.SPN_SH_OFS ++ (List.range 3).map Reg.SPN_SH_RAW ++ (List.range 3).map Reg.STP_AX_CFG ++ (List.range 3).map Reg.STP_AX_TBASE ++ (List.range 32).map Reg.SADC_CH_GAIN ++ (List.range 32).map Reg.SADC_CH_OFS ++ (List.range 32).map Reg.SADC_CH_VAL ++ (List.range 4).flatMap (fun l => (List.range 9).map (Reg.RFL_SUB_GAIN l)) ++ (List.range 4).flatMap (fun l => (List.range 9).map (Reg.RFL_SUB_OFS l)) ++ (List.range 4).flatMap (fun l => (List.range 9).map (Reg.RFL_SUB_SKEW l)) ++ (List.range 4).map Reg.ACT_BR_IMEAS ++ (List.range 4).map Reg.ACT_BR_OFS ++ (List.range 4).map Reg.ACT_BR_OUT ++ eventRegs 0x01 ++ eventRegs pgACT ++ eventRegs pgCAL ++ eventRegs pgLENG ++ eventRegs pgSADC ++ eventRegs pgTRC)
    (hostParts ++ [.cal, .mortar, .pwr, .supStat, .sv, .ticks])) ∧
  (∀ (m : Master) (v : Word), Frame (.xltCkptGo m v) hostPages hostRegs
    hostParts) ∧
  (Frame (.xltCkptInterval) hostPages hostRegs
    hostParts)

/-- What the cache, memory controller, flash, event recorder, option and security rows leave unchanged. Listed for a row:
the pages of BAR0 and configuration space it may change, its registers (an array with all its elements), and its parts
of the state. -/
def Obligations.MemoryAndTrustFrames : Prop :=
  (∀ (h : Nat) (a : Nat), Frame (.cboInval h a) [] []
    [.harts, .ms]) ∧
  (∀ (h : Nat) (a : Nat), Frame (.cboClean h a) [] (memcRegs)
    [.evr, .harts, .memory, .ms]) ∧
  (∀ (h : Nat) (a : Nat), Frame (.cboFlush h a) [] (memcRegs)
    [.evr, .harts, .memory, .ms]) ∧
  (∀ (h : Nat) (a : Nat), Frame (.cboZero h a) [] (aclRegs ++ memcRegs)
    [.evr, .harts, .memory, .ms]) ∧
  (∀ (m : Master) (v : Word), Frame (.l2cDrain m v) [] ([Reg.L2C_CTRL] ++ eventRegs pgL2C ++ memcRegs ++ refusalRegs)
    [.evr, .latches, .memory, .ms, .roRecs, .rwo]) ∧
  (Frame (.l2cDrainDone) [] ([Reg.L2C_CTRL] ++ eventRegs pgL2C)
    [.ms]) ∧
  (Frame (.l2cMopDone) [] ([Reg.L2C_MOP] ++ eventRegs pgL2C)
    [.ms]) ∧
  (∀ (m : Master) (v : Word), Frame (.l2cMopClean m v) [] ([Reg.L2C_MOP, Reg.L2C_MSTAT] ++ eventRegs pgL2C ++ memcRegs ++ refusalRegs)
    [.evr, .latches, .memory, .ms, .roRecs, .rwo]) ∧
  (∀ (m : Master) (v : Word), Frame (.l2cMopInvalidate m v) [] ([Reg.L2C_MOP, Reg.L2C_MSTAT] ++ eventRegs pgL2C ++ memcRegs ++ refusalRegs)
    [.evr, .latches, .memory, .ms, .roRecs, .rwo]) ∧
  (∀ (m : Master) (v : Word), Frame (.l2cMopCleanInvalidate m v) [] ([Reg.L2C_MOP, Reg.L2C_MSTAT] ++ eventRegs pgL2C ++ memcRegs ++ refusalRegs)
    [.evr, .latches, .memory, .ms, .roRecs, .rwo]) ∧
  (∀ (m : Master) (v : Word), Frame (.l2cMopZero m v) [] ([Reg.L2C_MOP, Reg.L2C_MSTAT] ++ eventRegs pgL2C ++ memcRegs ++ refusalRegs)
    [.evr, .latches, .memory, .ms, .roRecs, .rwo]) ∧
  (∀ (m : Master) (hi : Bool) (v : Word), Frame (.memcPageProtectStart m hi v) [] ([Reg.MEMC_PPROT_HI, Reg.MEMC_PPROT_LO, Reg.MEMC_PPSTAT] ++ refusalRegs)
    [.evr, .latches, .ms, .roRecs, .rwo]) ∧
  (Frame (.memcPageProtectDone) [] ([Reg.MEMC_PPSTAT] ++ eventRegs pgMEMC)
    [.memory, .ms]) ∧
  (∀ (upsets : List (Nat × Nat)), Frame (.scrubLine upsets) [] ([Reg.MEMC_SCRUB_PASS, Reg.MEMC_SCRUB_POS] ++ memcRegs)
    [.evr, .memory, .ms]) ∧
  (∀ (m : Master) (a : Nat) (n : Nat) (errs : List (Nat × Bool)), Frame (.flashRead m a n errs) [] ([Reg.FLC_ECC, Reg.FLC_ERRADDR, Reg.FLC_ESEQ, Reg.XLT_JRNL] ++ (List.range 2).map Reg.FLC_B_CMD ++ (List.range 2).map Reg.FLC_B_STAT ++ (List.range 2).map Reg.FLC_B_SUSP ++ aclRegs ++ eventRegs pgEVR ++ eventRegs pgFLC)
    [.evr, .flash, .ms, .resp]) ∧
  (∀ (m : Master) (b : Nat) (self : Bool), Frame (.flcProgram m b self) [] ([Reg.FLC_ESEQ] ++ (List.range 2).map Reg.FLC_B_ADDR ++ (List.range 2).map Reg.FLC_B_CMD ++ (List.range 2).map Reg.FLC_B_CNT ++ (List.range 2).map Reg.FLC_B_SRC ++ (List.range 2).map Reg.FLC_B_STAT ++ (List.range 2).map Reg.FLC_B_SUSP ++ (List.range 4).map Reg.MEMC_MIR_PRI ++ (List.range 4).map Reg.MEMC_MIR_SEC ++ eventRegs pgFLC ++ memcRegs ++ refusalRegs)
    [.evr, .flash, .latches, .memory, .ms, .roRecs, .rwo]) ∧
  (∀ (m : Master) (b : Nat) (self : Bool), Frame (.flcErase m b self) [] ([Reg.FLC_ESEQ] ++ (List.range 2).map Reg.FLC_B_ADDR ++ (List.range 2).map Reg.FLC_B_CMD ++ (List.range 2).map Reg.FLC_B_CNT ++ (List.range 2).map Reg.FLC_B_SRC ++ (List.range 2).map Reg.FLC_B_STAT ++ (List.range 2).map Reg.FLC_B_SUSP ++ (List.range 4).map Reg.MEMC_MIR_PRI ++ (List.range 4).map Reg.MEMC_MIR_SEC ++ eventRegs pgFLC ++ memcRegs ++ refusalRegs)
    [.evr, .flash, .latches, .memory, .ms, .roRecs, .rwo]) ∧
  (∀ (m : Master) (b : Nat), Frame (.flcSuspend m b) [] ([Reg.FLC_ESEQ] ++ (List.range 2).map Reg.FLC_B_ADDR ++ (List.range 2).map Reg.FLC_B_CMD ++ (List.range 2).map Reg.FLC_B_CNT ++ (List.range 2).map Reg.FLC_B_SRC ++ (List.range 2).map Reg.FLC_B_STAT ++ (List.range 2).map Reg.FLC_B_SUSP ++ (List.range 4).map Reg.MEMC_MIR_PRI ++ (List.range 4).map Reg.MEMC_MIR_SEC ++ eventRegs pgFLC ++ memcRegs ++ refusalRegs)
    [.evr, .flash, .latches, .memory, .ms, .roRecs, .rwo]) ∧
  (∀ (m : Master) (b : Nat), Frame (.flcResume m b) [] ([Reg.FLC_ESEQ] ++ (List.range 2).map Reg.FLC_B_ADDR ++ (List.range 2).map Reg.FLC_B_CMD ++ (List.range 2).map Reg.FLC_B_CNT ++ (List.range 2).map Reg.FLC_B_SRC ++ (List.range 2).map Reg.FLC_B_STAT ++ (List.range 2).map Reg.FLC_B_SUSP ++ (List.range 4).map Reg.MEMC_MIR_PRI ++ (List.range 4).map Reg.MEMC_MIR_SEC ++ eventRegs pgFLC ++ memcRegs ++ refusalRegs)
    [.evr, .flash, .latches, .memory, .ms, .roRecs, .rwo]) ∧
  (∀ (b : Nat) (good : Bool), Frame (.flcProgramDone b good) [] ([Reg.FLC_ECC, Reg.FLC_ERRADDR, Reg.FLC_ESEQ, Reg.XLT_JRNL] ++ (List.range 2).map Reg.FLC_B_CMD ++ (List.range 2).map Reg.FLC_B_LAST ++ (List.range 2).map Reg.FLC_B_STAT ++ (List.range 2).map Reg.FLC_B_SUSP ++ eventRegs pgEVR ++ eventRegs pgFLC)
    [.evr, .flash, .fresh, .resp]) ∧
  (∀ (b : Nat) (good : Bool), Frame (.flcEraseDone b good) [] ([Reg.FLC_ECC, Reg.FLC_ERRADDR, Reg.FLC_ESEQ, Reg.XLT_JRNL] ++ (List.range 2).map Reg.FLC_B_CMD ++ (List.range 2).map Reg.FLC_B_ERASES ++ (List.range 2).map Reg.FLC_B_LAST ++ (List.range 2).map Reg.FLC_B_STAT ++ (List.range 2).map Reg.FLC_B_SUSP ++ eventRegs pgEVR ++ eventRegs pgFLC)
    [.evr, .flash, .resp]) ∧
  (Frame (.flcScanDone) [] ([Reg.FLC_ECC, Reg.FLC_ERRADDR, Reg.FLC_ESEQ, Reg.FLC_SCAN, Reg.XLT_JRNL] ++ (List.range 2).map Reg.FLC_B_CMD ++ (List.range 2).map Reg.FLC_B_ERASES ++ (List.range 2).map Reg.FLC_B_STAT ++ (List.range 2).map Reg.FLC_B_SUSP ++ eventRegs pgEVR ++ eventRegs pgFLC)
    [.evr, .flash, .resp]) ∧
  (∀ (b : Nat), Frame (.flcSuspendDone b) [] ([Reg.FLC_CFG, Reg.FLC_ECC, Reg.FLC_ERRADDR, Reg.FLC_ESEQ, Reg.XLT_JRNL] ++ (List.range 2).map Reg.FLC_B_CMD ++ (List.range 2).map Reg.FLC_B_STAT ++ (List.range 2).map Reg.FLC_B_SUSP ++ eventRegs pgEVR ++ eventRegs pgFLC)
    [.evr, .flash, .resp]) ∧
  (Frame (.flcResetScan) [] [Reg.FLC_ESEQ]
    [.flash]) ∧
  (∀ (m : Master), Frame (.evrCapture m) [] ([Reg.EVR_CFG, Reg.EVR_CLRCNT, Reg.EVR_FIRST, Reg.EVR_NCIRC, Reg.EVR_NPERM, Reg.EVR_PFR_STAT, Reg.EVR_POC, Reg.EVR_SEQ, Reg.EVR_WPOS, Reg.EVR_WR, Reg.EVR_WR_SRC, Reg.FLC_ESEQ] ++ (List.range 2).map Reg.FLC_B_CMD ++ (List.range 2).map Reg.FLC_B_STAT ++ (List.range 2).map Reg.FLC_B_SUSP ++ eventRegs pgEVR ++ eventRegs pgFLC ++ memcRegs ++ refusalRegs)
    [.evr, .flash, .latches, .memory, .ms, .roRecs, .rwo]) ∧
  (∀ (m : Master), Frame (.evrWrGo m) [] ([Reg.EVR_CFG, Reg.EVR_CLRCNT, Reg.EVR_FIRST, Reg.EVR_NCIRC, Reg.EVR_NPERM, Reg.EVR_PFR_STAT, Reg.EVR_POC, Reg.EVR_SEQ, Reg.EVR_WPOS, Reg.EVR_WR, Reg.EVR_WR_SRC, Reg.FLC_ESEQ] ++ (List.range 2).map Reg.FLC_B_CMD ++ (List.range 2).map Reg.FLC_B_STAT ++ (List.range 2).map Reg.FLC_B_SUSP ++ eventRegs pgEVR ++ eventRegs pgFLC ++ memcRegs ++ refusalRegs)
    [.evr, .flash, .latches, .memory, .ms, .roRecs, .rwo]) ∧
  (Frame (.evrCaptureDone) [] (eventRegs pgEVR)
    []) ∧
  (Frame (.evrClearDone) [] (eventRegs pgEVR)
    [.flash]) ∧
  (Frame (.evrReportIntake) [] ([Reg.EVR_CFG, Reg.EVR_CLRCNT, Reg.EVR_CNT, Reg.EVR_FIRST, Reg.EVR_NCIRC, Reg.EVR_NPERM, Reg.EVR_PFR_STAT, Reg.EVR_POC, Reg.EVR_SEQ, Reg.EVR_WPOS, Reg.EVR_WR, Reg.FLC_ESEQ] ++ (List.range 2).map Reg.FLC_B_CMD ++ (List.range 2).map Reg.FLC_B_STAT ++ (List.range 2).map Reg.FLC_B_SUSP ++ eventRegs pgEVR ++ eventRegs pgFLC ++ memcRegs)
    [.evr, .flash, .memory, .ms]) ∧
  (Frame (.optAuthExpiry) [] ([Reg.OPT_AUTH] ++ eventRegs pgOPT)
    [.opt]) ∧
  (Frame (.optProgramDone) [] ([Reg.OPT_AUTH, Reg.OPT_CMD, Reg.OPT_RES] ++ eventRegs pgOPT)
    [.opt]) ∧
  (∀ (m : Master) (v : Word), Frame (.optAuthSet m v) [] ([Reg.OPT_AUTH] ++ eventRegs pgOPT ++ refusalRegs)
    [.evr, .latches, .ms, .opt, .roRecs, .rwo]) ∧
  (∀ (m : Master), Frame (.optLockdbg m) [] ([Reg.OPT_CMD, Reg.OPT_RES] ++ eventRegs pgOPT ++ refusalRegs)
    [.evr, .latches, .ms, .opt, .roRecs, .rwo]) ∧
  (∀ (m : Master), Frame (.optProgram m) [] ([Reg.OPT_CMD, Reg.OPT_RES] ++ eventRegs pgOPT ++ refusalRegs)
    [.evr, .latches, .ms, .opt, .roRecs, .rwo]) ∧
  (∀ (k : Nat), Frame (.secChallengeExpiry k) [] []
    [.sec]) ∧
  (Frame (.secOpDone) [] ([Reg.OPT_AUTH, Reg.SEC_BUF, Reg.SEC_CMD, Reg.SEC_RES] ++ (List.range 8).map Reg.SEC_CHAL ++ (List.range 8).map Reg.SEC_CHAL2 ++ (List.range 8).map Reg.SEC_MEAS ++ (List.range 8).map Reg.SEC_OUT ++ eventRegs pgOPT ++ eventRegs pgSEC ++ memcRegs ++ refusalRegs)
    [.evr, .latches, .memory, .ms, .opt, .roRecs, .rwo, .sec]) ∧
  (∀ (m : Master), Frame (.secHash m) [] ([Reg.EVR_CFG, Reg.EVR_CLRCNT, Reg.EVR_FIRST, Reg.EVR_NCIRC, Reg.EVR_NPERM, Reg.EVR_PFR_STAT, Reg.EVR_POC, Reg.EVR_SEQ, Reg.EVR_WPOS, Reg.FLC_BOOT, Reg.FLC_ESEQ, Reg.OPT_SEL, Reg.SEC_BUF, Reg.SEC_CMD, Reg.SEC_LEN, Reg.SEC_RES, Reg.SEC_ROMVER] ++ (List.range 16).map Reg.LENG_PROG_CFG ++ (List.range 16).map Reg.LENG_PROG_REG ++ (List.range 2).map Reg.FLC_B_CMD ++ (List.range 2).map Reg.FLC_B_STAT ++ (List.range 2).map Reg.FLC_B_SUSP ++ (List.range 4).map Reg.MEMC_MIR_PRI ++ (List.range 4).map Reg.MEMC_MIR_SEC ++ (List.range 4).map Reg.SEC_NONCE ++ (List.range 8).map Reg.SEC_IMGDIG ++ eventRegs pgEVR ++ eventRegs pgFLC ++ eventRegs pgSEC ++ memcRegs ++ refusalRegs)
    [.evr, .flash, .latches, .memory, .ms, .roRecs, .rwo, .sec]) ∧
  (∀ (m : Master), Frame (.secVerify m) [] ([Reg.EVR_CFG, Reg.EVR_CLRCNT, Reg.EVR_FIRST, Reg.EVR_NCIRC, Reg.EVR_NPERM, Reg.EVR_PFR_STAT, Reg.EVR_POC, Reg.EVR_SEQ, Reg.EVR_WPOS, Reg.FLC_BOOT, Reg.FLC_ESEQ, Reg.OPT_SEL, Reg.SEC_BUF, Reg.SEC_CMD, Reg.SEC_LEN, Reg.SEC_RES, Reg.SEC_ROMVER] ++ (List.range 16).map Reg.LENG_PROG_CFG ++ (List.range 16).map Reg.LENG_PROG_REG ++ (List.range 2).map Reg.FLC_B_CMD ++ (List.range 2).map Reg.FLC_B_STAT ++ (List.range 2).map Reg.FLC_B_SUSP ++ (List.range 4).map Reg.MEMC_MIR_PRI ++ (List.range 4).map Reg.MEMC_MIR_SEC ++ (List.range 4).map Reg.SEC_NONCE ++ (List.range 8).map Reg.SEC_IMGDIG ++ eventRegs pgEVR ++ eventRegs pgFLC ++ eventRegs pgSEC ++ memcRegs ++ refusalRegs)
    [.evr, .flash, .latches, .memory, .ms, .roRecs, .rwo, .sec]) ∧
  (∀ (m : Master), Frame (.secAttest m) [] ([Reg.EVR_CFG, Reg.EVR_CLRCNT, Reg.EVR_FIRST, Reg.EVR_NCIRC, Reg.EVR_NPERM, Reg.EVR_PFR_STAT, Reg.EVR_POC, Reg.EVR_SEQ, Reg.EVR_WPOS, Reg.FLC_BOOT, Reg.FLC_ESEQ, Reg.OPT_SEL, Reg.SEC_BUF, Reg.SEC_CMD, Reg.SEC_LEN, Reg.SEC_RES, Reg.SEC_ROMVER] ++ (List.range 16).map Reg.LENG_PROG_CFG ++ (List.range 16).map Reg.LENG_PROG_REG ++ (List.range 2).map Reg.FLC_B_CMD ++ (List.range 2).map Reg.FLC_B_STAT ++ (List.range 2).map Reg.FLC_B_SUSP ++ (List.range 4).map Reg.MEMC_MIR_PRI ++ (List.range 4).map Reg.MEMC_MIR_SEC ++ (List.range 4).map Reg.SEC_NONCE ++ (List.range 8).map Reg.SEC_IMGDIG ++ eventRegs pgEVR ++ eventRegs pgFLC ++ eventRegs pgSEC ++ memcRegs ++ refusalRegs)
    [.evr, .flash, .latches, .memory, .ms, .roRecs, .rwo, .sec]) ∧
  (∀ (m : Master), Frame (.secAuthopt m) [] ([Reg.EVR_CFG, Reg.EVR_CLRCNT, Reg.EVR_FIRST, Reg.EVR_NCIRC, Reg.EVR_NPERM, Reg.EVR_PFR_STAT, Reg.EVR_POC, Reg.EVR_SEQ, Reg.EVR_WPOS, Reg.FLC_BOOT, Reg.FLC_ESEQ, Reg.OPT_SEL, Reg.SEC_BUF, Reg.SEC_CMD, Reg.SEC_LEN, Reg.SEC_RES, Reg.SEC_ROMVER] ++ (List.range 16).map Reg.LENG_PROG_CFG ++ (List.range 16).map Reg.LENG_PROG_REG ++ (List.range 2).map Reg.FLC_B_CMD ++ (List.range 2).map Reg.FLC_B_STAT ++ (List.range 2).map Reg.FLC_B_SUSP ++ (List.range 4).map Reg.MEMC_MIR_PRI ++ (List.range 4).map Reg.MEMC_MIR_SEC ++ (List.range 4).map Reg.SEC_NONCE ++ (List.range 8).map Reg.SEC_IMGDIG ++ eventRegs pgEVR ++ eventRegs pgFLC ++ eventRegs pgSEC ++ memcRegs ++ refusalRegs)
    [.evr, .flash, .latches, .memory, .ms, .roRecs, .rwo, .sec]) ∧
  (∀ (m : Master), Frame (.secClear m) [] ([Reg.EVR_CFG, Reg.EVR_CLRCNT, Reg.EVR_FIRST, Reg.EVR_NCIRC, Reg.EVR_NPERM, Reg.EVR_PFR_STAT, Reg.EVR_POC, Reg.EVR_SEQ, Reg.EVR_WPOS, Reg.FLC_BOOT, Reg.FLC_ESEQ, Reg.OPT_SEL, Reg.SEC_BUF, Reg.SEC_CMD, Reg.SEC_LEN, Reg.SEC_RES, Reg.SEC_ROMVER] ++ (List.range 16).map Reg.LENG_PROG_CFG ++ (List.range 16).map Reg.LENG_PROG_REG ++ (List.range 2).map Reg.FLC_B_CMD ++ (List.range 2).map Reg.FLC_B_STAT ++ (List.range 2).map Reg.FLC_B_SUSP ++ (List.range 4).map Reg.MEMC_MIR_PRI ++ (List.range 4).map Reg.MEMC_MIR_SEC ++ (List.range 4).map Reg.SEC_NONCE ++ (List.range 8).map Reg.SEC_IMGDIG ++ eventRegs pgEVR ++ eventRegs pgFLC ++ eventRegs pgSEC ++ memcRegs ++ refusalRegs)
    [.evr, .flash, .latches, .memory, .ms, .roRecs, .rwo, .sec]) ∧
  (∀ (m : Master), Frame (.secNewchal1 m) [] ([Reg.EVR_CFG, Reg.EVR_CLRCNT, Reg.EVR_FIRST, Reg.EVR_NCIRC, Reg.EVR_NPERM, Reg.EVR_PFR_STAT, Reg.EVR_POC, Reg.EVR_SEQ, Reg.EVR_WPOS, Reg.FLC_BOOT, Reg.FLC_ESEQ, Reg.OPT_SEL, Reg.SEC_BUF, Reg.SEC_CMD, Reg.SEC_LEN, Reg.SEC_RES, Reg.SEC_ROMVER] ++ (List.range 16).map Reg.LENG_PROG_CFG ++ (List.range 16).map Reg.LENG_PROG_REG ++ (List.range 2).map Reg.FLC_B_CMD ++ (List.range 2).map Reg.FLC_B_STAT ++ (List.range 2).map Reg.FLC_B_SUSP ++ (List.range 4).map Reg.MEMC_MIR_PRI ++ (List.range 4).map Reg.MEMC_MIR_SEC ++ (List.range 4).map Reg.SEC_NONCE ++ (List.range 8).map Reg.SEC_IMGDIG ++ eventRegs pgEVR ++ eventRegs pgFLC ++ eventRegs pgSEC ++ memcRegs ++ refusalRegs)
    [.evr, .flash, .latches, .memory, .ms, .roRecs, .rwo, .sec]) ∧
  (∀ (m : Master), Frame (.secNewchal2 m) [] ([Reg.EVR_CFG, Reg.EVR_CLRCNT, Reg.EVR_FIRST, Reg.EVR_NCIRC, Reg.EVR_NPERM, Reg.EVR_PFR_STAT, Reg.EVR_POC, Reg.EVR_SEQ, Reg.EVR_WPOS, Reg.FLC_BOOT, Reg.FLC_ESEQ, Reg.OPT_SEL, Reg.SEC_BUF, Reg.SEC_CMD, Reg.SEC_LEN, Reg.SEC_RES, Reg.SEC_ROMVER] ++ (List.range 16).map Reg.LENG_PROG_CFG ++ (List.range 16).map Reg.LENG_PROG_REG ++ (List.range 2).map Reg.FLC_B_CMD ++ (List.range 2).map Reg.FLC_B_STAT ++ (List.range 2).map Reg.FLC_B_SUSP ++ (List.range 4).map Reg.MEMC_MIR_PRI ++ (List.range 4).map Reg.MEMC_MIR_SEC ++ (List.range 4).map Reg.SEC_NONCE ++ (List.range 8).map Reg.SEC_IMGDIG ++ eventRegs pgEVR ++ eventRegs pgFLC ++ eventRegs pgSEC ++ memcRegs ++ refusalRegs)
    [.evr, .flash, .latches, .memory, .ms, .roRecs, .rwo, .sec]) ∧
  (Frame (.evrRecordFlashed) [0x100000, 0x100001, 0x100002, 0x100003, 0x200000] ([Reg.EVR_CFG, Reg.EVR_CLRCNT, Reg.EVR_CNT, Reg.EVR_FIRST, Reg.EVR_NCIRC, Reg.EVR_NPERM, Reg.EVR_PFR_STAT, Reg.EVR_POC, Reg.EVR_SEQ, Reg.EVR_WPOS, Reg.EVR_WR, Reg.FLC_ESEQ, Reg.HQ_AE, Reg.HQ_CMP, Reg.HQ_CTX, Reg.HQ_CTXPK, Reg.HQ_STALL, Reg.PCIE_LINK] ++ (List.range 2).map Reg.FLC_B_CMD ++ (List.range 2).map Reg.FLC_B_STAT ++ (List.range 2).map Reg.FLC_B_SUSP ++ (List.range 65).map Reg.HQ_CQPTR ++ (List.range 65).map Reg.HQ_QCFG ++ (List.range 65).map Reg.HQ_SQPTR ++ eventRegs pgEVR ++ eventRegs pgFLC ++ eventRegs pgHQ ++ memcRegs)
    [.evr, .flash, .hq, .memory, .ms, .pcie]) ∧
  (∀ (m : Master) (v : Word), Frame (.xltLookup m v) [] ([Reg.XLT_CNT, Reg.XLT_LK_CTRL] ++ (List.range 4).map Reg.XLT_LK_CTX ++ eventRegs pgXLT ++ memcRegs ++ refusalRegs)
    [.evr, .latches, .memory, .ms, .roRecs, .rwo])
end

