-- ==== Sys2Proof/Laws/SMap.lean ====
section
/-! SUPPORT. What reading, writing and clearing sparse storage do, and that each keeps the canonical form. -/
namespace Sys2Proof.Machine

set_option linter.unusedSectionVars false

variable {β : Type} [DecidableEq β]

theorem SMap.get_erase (d : Nat → β) (m : List (Nat × β)) (a b : Nat) :
    SMap.get d (SMap.erase m a) b = if a = b then d b else SMap.get d m b := by
  induction m with
  | nil => simp [SMap.erase, SMap.get]
  | cons h t ih =>
    obtain ⟨k, v⟩ := h
    by_cases hk : k = a
    · subst hk
      by_cases hb : k = b
      · subst hb; simp [SMap.erase, ih]
      · simp [SMap.erase, SMap.get, ih, hb]
    · by_cases hb : k = b
      · subst hb; simp [SMap.erase, SMap.get, hk, Ne.symm hk]
      · simp [SMap.erase, SMap.get, hk, hb, ih]

theorem SMap.get_insert (d : Nat → β) (m : List (Nat × β)) (a b : Nat) (v : β)
    (h : ∀ p ∈ m, p.1 ≠ a) :
    SMap.get d (SMap.insert m a v) b = if a = b then v else SMap.get d m b := by
  induction m with
  | nil => simp [SMap.insert, SMap.get]
  | cons p t ih =>
    obtain ⟨k, w⟩ := p
    have hk : k ≠ a := h (k, w) (by simp)
    have ih := ih (fun q hq => h q (by simp [hq]))
    by_cases hlt : a < k
    · simp [SMap.insert, hlt, SMap.get]
    · by_cases hb : k = b
      · subst hb; simp [SMap.insert, hlt, SMap.get, Ne.symm hk]
      · simp [SMap.insert, hlt, SMap.get, hb, ih]

theorem SMap.mem_erase_ne (m : List (Nat × β)) (a : Nat) : ∀ p ∈ SMap.erase m a, p.1 ≠ a := by
  induction m with
  | nil => simp [SMap.erase]
  | cons h t ih =>
    obtain ⟨k, v⟩ := h
    by_cases hk : k = a
    · simpa [SMap.erase, hk] using ih
    · intro p hp
      simp only [SMap.erase, if_neg hk, List.mem_cons] at hp
      rcases hp with rfl | hp
      · exact hk
      · exact ih p hp

/-- A read after a write: the written key gives the written value, every other key what it gave before. -/
theorem SMap.get_set (d : Nat → β) (m : List (Nat × β)) (a b : Nat) (v : β) :
    SMap.get d (SMap.set d m a v) b = if a = b then v else SMap.get d m b := by
  unfold SMap.set
  split
  · next h => rw [SMap.get_erase]; split
              · next hab => subst hab; exact h.symm
              · rfl
  · rw [SMap.get_insert d _ a b v (SMap.mem_erase_ne m a), SMap.get_erase]
    split <;> simp_all

theorem SMap.get_drop (d : Nat → β) (p : Nat → Bool) (m : List (Nat × β)) (b : Nat) :
    SMap.get d (SMap.drop p m) b = if p b then d b else SMap.get d m b := by
  induction m with
  | nil => simp [SMap.drop, SMap.get]
  | cons h t ih =>
    obtain ⟨k, v⟩ := h
    by_cases hk : p k
    · by_cases hb : k = b
      · subst hb; simp [SMap.drop, hk, ih]
      · simp [SMap.drop, SMap.get, hk, ih, hb]
    · by_cases hb : k = b
      · subst hb; simp [SMap.drop, SMap.get, hk]
      · simp [SMap.drop, SMap.get, hk, ih, hb]

theorem SMap.wfFrom_mono (d : Nat → β) (m : List (Nat × β)) (lo lo' : Nat) (hle : lo' ≤ lo)
    (h : SMap.wfFrom d lo m = true) : SMap.wfFrom d lo' m = true := by
  cases m with
  | nil => rfl
  | cons p t =>
    simp only [SMap.wfFrom, Bool.and_eq_true, decide_eq_true_eq] at h ⊢
    exact ⟨⟨by omega, h.1.2⟩, h.2⟩

theorem SMap.wfFrom_erase (d : Nat → β) (m : List (Nat × β)) (a lo : Nat) (h : SMap.wfFrom d lo m = true) :
    SMap.wfFrom d lo (SMap.erase m a) = true := by
  induction m generalizing lo with
  | nil => rfl
  | cons p t ih =>
    obtain ⟨k, v⟩ := p
    simp only [SMap.wfFrom, Bool.and_eq_true, decide_eq_true_eq] at h
    by_cases hk : k = a
    · simp only [SMap.erase, if_pos hk]
      exact SMap.wfFrom_mono d _ (k + 1) lo (by omega) (ih (k + 1) h.2)
    · simp only [SMap.erase, if_neg hk, SMap.wfFrom, Bool.and_eq_true, decide_eq_true_eq]
      exact ⟨h.1, ih (k + 1) h.2⟩

theorem SMap.wfFrom_insert (d : Nat → β) (m : List (Nat × β)) (a lo : Nat) (v : β) (hv : v ≠ d a) (hlo : lo ≤ a)
    (hm : ∀ p ∈ m, p.1 ≠ a) (h : SMap.wfFrom d lo m = true) : SMap.wfFrom d lo (SMap.insert m a v) = true := by
  induction m generalizing lo with
  | nil => simp [SMap.insert, SMap.wfFrom, hv, hlo]
  | cons p t ih =>
    obtain ⟨k, w⟩ := p
    have hka : k ≠ a := hm (k, w) (by simp)
    simp only [SMap.wfFrom, Bool.and_eq_true, decide_eq_true_eq] at h
    by_cases hlt : a < k
    · simp only [SMap.insert, if_pos hlt, SMap.wfFrom, Bool.and_eq_true, decide_eq_true_eq]
      exact ⟨⟨hlo, by simp [hv]⟩, ⟨⟨by omega, h.1.2⟩, h.2⟩⟩
    · simp only [SMap.insert, if_neg hlt, SMap.wfFrom, Bool.and_eq_true, decide_eq_true_eq]
      exact ⟨h.1, ih (k + 1) (by omega) (fun q hq => hm q (by simp [hq])) h.2⟩

/-- A write keeps the canonical form. -/
theorem SMap.wf_set (d : Nat → β) (m : List (Nat × β)) (a : Nat) (v : β) (h : SMap.wf d m = true) :
    SMap.wf d (SMap.set d m a v) = true := by
  unfold SMap.set SMap.wf at *
  split
  · exact SMap.wfFrom_erase d m a 0 h
  · next hv =>
    exact SMap.wfFrom_insert d _ a 0 v hv (Nat.zero_le a) (SMap.mem_erase_ne m a) (SMap.wfFrom_erase d m a 0 h)

theorem SMap.wfFrom_drop (d : Nat → β) (p : Nat → Bool) (m : List (Nat × β)) (lo : Nat) (h : SMap.wfFrom d lo m = true) :
    SMap.wfFrom d lo (SMap.drop p m) = true := by
  induction m generalizing lo with
  | nil => rfl
  | cons q t ih =>
    obtain ⟨k, v⟩ := q
    simp only [SMap.wfFrom, Bool.and_eq_true, decide_eq_true_eq] at h
    by_cases hk : p k = true
    · simp only [SMap.drop, hk, if_true]
      exact SMap.wfFrom_mono d _ (k + 1) lo (by omega) (ih (k + 1) h.2)
    · simp only [SMap.drop, hk, Bool.false_eq_true, if_false, SMap.wfFrom, Bool.and_eq_true, decide_eq_true_eq]
      exact ⟨h.1, ih (k + 1) h.2⟩

/-- Clearing keys keeps the canonical form. -/
theorem SMap.wf_drop (d : Nat → β) (p : Nat → Bool) (m : List (Nat × β)) (h : SMap.wf d m = true) :
    SMap.wf d (SMap.drop p m) = true := SMap.wfFrom_drop d p m 0 h

/-- Bringing a list into canonical form does. -/
theorem SMap.wf_canon (d : Nat → β) (m : List (Nat × β)) : SMap.wf d (SMap.canon d m) = true := by
  induction m with
  | nil => rfl
  | cons p t ih => exact SMap.wf_set d _ p.1 p.2 ih

/-- The canonical form reads as the list did. -/
theorem SMap.get_canon (d : Nat → β) (m : List (Nat × β)) (a : Nat) :
    SMap.get d (SMap.canon d m) a = SMap.get d m a := by
  induction m with
  | nil => rfl
  | cons p t ih =>
    obtain ⟨k, v⟩ := p
    simp [SMap.canon, SMap.get, SMap.get_set, ih]

theorem SMap.wf_tidy (d : Nat → β) (m : List (Nat × β)) : SMap.wf d (SMap.tidy d m) = true := by
  unfold SMap.tidy
  split
  · next h => exact h
  · exact SMap.wf_canon d m

theorem SMap.get_tidy (d : Nat → β) (m : List (Nat × β)) (a : Nat) :
    SMap.get d (SMap.tidy d m) a = SMap.get d m a := by
  unfold SMap.tidy
  split
  · rfl
  · exact SMap.get_canon d m a

theorem SMap.tidy_of_wf (d : Nat → β) (m : List (Nat × β)) (h : SMap.wf d m = true) : SMap.tidy d m = m := by
  simp [SMap.tidy, h]

/-- Clearing keys that are not listed changes nothing. -/
theorem SMap.drop_eq_self (p : Nat → Bool) (m : List (Nat × β)) (h : ∀ q ∈ m, p q.1 = false) : SMap.drop p m = m := by
  induction m with
  | nil => rfl
  | cons q t ih =>
    obtain ⟨k, v⟩ := q
    simp [SMap.drop, h (k, v) (by simp), ih (fun r hr => h r (by simp [hr]))]

theorem SMap.mem_drop (p : Nat → Bool) (m : List (Nat × β)) : ∀ q ∈ SMap.drop p m, p q.1 = false := by
  induction m with
  | nil => simp [SMap.drop]
  | cons r t ih =>
    obtain ⟨k, v⟩ := r
    by_cases hk : p k = true
    · simpa [SMap.drop, hk] using ih
    · intro q hq
      simp only [SMap.drop, hk, Bool.false_eq_true, if_false, List.mem_cons] at hq
      rcases hq with rfl | hq
      · simpa using hk
      · exact ih q hq

theorem SMap.mem_set (d : Nat → β) (m : List (Nat × β)) (a : Nat) (v : β) :
    ∀ q ∈ SMap.set d m a v, q.1 = a ∨ q ∈ m := by
  have he : ∀ q ∈ SMap.erase m a, q ∈ m := by
    induction m with
    | nil => simp [SMap.erase]
    | cons r t ih =>
      obtain ⟨k, w⟩ := r
      intro q hq
      by_cases hk : k = a
      · simp only [SMap.erase, if_pos hk] at hq; simp [ih q hq]
      · simp only [SMap.erase, if_neg hk, List.mem_cons] at hq
        rcases hq with rfl | hq
        · simp
        · simp [ih q hq]
  have hi : ∀ n : List (Nat × β), ∀ q ∈ SMap.insert n a v, q.1 = a ∨ q ∈ n := by
    intro n
    induction n with
    | nil => simp [SMap.insert]
    | cons r t ih =>
      obtain ⟨k, w⟩ := r
      intro q hq
      by_cases hk : a < k
      · simp only [SMap.insert, if_pos hk, List.mem_cons] at hq
        rcases hq with rfl | rfl | hq <;> simp_all
      · simp only [SMap.insert, if_neg hk, List.mem_cons] at hq
        rcases hq with rfl | hq
        · simp
        · rcases ih q hq with h | h <;> simp [h]
  intro q hq
  unfold SMap.set at hq
  split at hq
  · exact .inr (he q hq)
  · rcases hi _ q hq with h | h
    · exact .inl h
    · exact .inr (he q h)

theorem SMap.mem_canon (d : Nat → β) (m : List (Nat × β)) (p : Nat → Bool) (h : ∀ q ∈ m, p q.1 = false) :
    ∀ q ∈ SMap.canon d m, p q.1 = false := by
  induction m with
  | nil => simp [SMap.canon]
  | cons r t ih =>
    intro q hq
    rcases SMap.mem_set d _ r.1 r.2 q hq with hq | hq
    · rw [hq]; exact h r (by simp)
    · exact ih (fun u hu => h u (by simp [hu])) q hq

end Sys2Proof.Machine
end

