-- ==== Sys2Proof/Laws/State.lean ====
section
/-! SUPPORT. What each field of the state is after each of the shared updates: one lemma per field per
update. The lemmas about the register file and the part are no simp lemmas, so that a record update over a state keeps
both from one state (State.reg_mk). -/
namespace Sys2Proof.Machine

variable (s : State)


/-! ### setReg -/
@[simp] theorem State.setReg_supStat (a : Nat) (w : Word) : (s.setReg a w).supStat = s.supStat := (rfl)
@[simp] theorem State.setReg_rwoDone (a : Nat) (w : Word) : (s.setReg a w).rwoDone = s.rwoDone := (rfl)
@[simp] theorem State.setReg_roRecs (a : Nat) (w : Word) : (s.setReg a w).roRecs = s.roRecs := (rfl)
@[simp] theorem State.setReg_latches (a : Nat) (w : Word) : (s.setReg a w).latches = s.latches := (rfl)
@[simp] theorem State.setReg_resp (a : Nat) (w : Word) : (s.setReg a w).resp = s.resp := (rfl)
@[simp] theorem State.setReg_mem (a : Nat) (w : Word) : (s.setReg a w).mem = s.mem := (rfl)
@[simp] theorem State.setReg_fresh (a : Nat) (w : Word) : (s.setReg a w).fresh = s.fresh := (rfl)
@[simp] theorem State.setReg_ticks (a : Nat) (w : Word) : (s.setReg a w).ticks = s.ticks := (rfl)
@[simp] theorem State.setReg_boot (a : Nat) (w : Word) : (s.setReg a w).boot = s.boot := (rfl)
@[simp] theorem State.setReg_harts (a : Nat) (w : Word) : (s.setReg a w).harts = s.harts := (rfl)
@[simp] theorem State.setReg_pwr (a : Nat) (w : Word) : (s.setReg a w).pwr = s.pwr := (rfl)
@[simp] theorem State.setReg_leng (a : Nat) (w : Word) : (s.setReg a w).leng = s.leng := (rfl)
@[simp] theorem State.setReg_rd (a : Nat) (w : Word) : (s.setReg a w).rd = s.rd := (rfl)
@[simp] theorem State.setReg_wenc (a : Nat) (w : Word) : (s.setReg a w).wenc = s.wenc := (rfl)
@[simp] theorem State.setReg_spn (a : Nat) (w : Word) : (s.setReg a w).spn = s.spn := (rfl)
@[simp] theorem State.setReg_stp (a : Nat) (w : Word) : (s.setReg a w).stp = s.stp := (rfl)
@[simp] theorem State.setReg_fmt (a : Nat) (w : Word) : (s.setReg a w).fmt = s.fmt := (rfl)
@[simp] theorem State.setReg_sv (a : Nat) (w : Word) : (s.setReg a w).sv = s.sv := (rfl)
@[simp] theorem State.setReg_cal (a : Nat) (w : Word) : (s.setReg a w).cal = s.cal := (rfl)
@[simp] theorem State.setReg_pcie (a : Nat) (w : Word) : (s.setReg a w).pcie = s.pcie := (rfl)
@[simp] theorem State.setReg_hq (a : Nat) (w : Word) : (s.setReg a w).hq = s.hq := (rfl)
@[simp] theorem State.setReg_xlt (a : Nat) (w : Word) : (s.setReg a w).xlt = s.xlt := (rfl)
@[simp] theorem State.setReg_ms (a : Nat) (w : Word) : (s.setReg a w).ms = s.ms := (rfl)
@[simp] theorem State.setReg_flash (a : Nat) (w : Word) : (s.setReg a w).flash = s.flash := (rfl)
@[simp] theorem State.setReg_opt (a : Nat) (w : Word) : (s.setReg a w).opt = s.opt := (rfl)
@[simp] theorem State.setReg_evr (a : Nat) (w : Word) : (s.setReg a w).evr = s.evr := (rfl)
@[simp] theorem State.setReg_sec (a : Nat) (w : Word) : (s.setReg a w).sec = s.sec := (rfl)
@[simp] theorem State.setReg_pending (a : Nat) (w : Word) : (s.setReg a w).pending = s.pending := (rfl)
theorem State.setReg_variant (a : Nat) (w : Word) : (s.setReg a w).variant = s.variant := (rfl)

/-! ### setFld -/
@[simp] theorem State.setFld_supStat (a lo w v : Nat) : (s.setFld a lo w v).supStat = s.supStat := (rfl)
@[simp] theorem State.setFld_rwoDone (a lo w v : Nat) : (s.setFld a lo w v).rwoDone = s.rwoDone := (rfl)
@[simp] theorem State.setFld_roRecs (a lo w v : Nat) : (s.setFld a lo w v).roRecs = s.roRecs := (rfl)
@[simp] theorem State.setFld_latches (a lo w v : Nat) : (s.setFld a lo w v).latches = s.latches := (rfl)
@[simp] theorem State.setFld_resp (a lo w v : Nat) : (s.setFld a lo w v).resp = s.resp := (rfl)
@[simp] theorem State.setFld_mem (a lo w v : Nat) : (s.setFld a lo w v).mem = s.mem := (rfl)
@[simp] theorem State.setFld_fresh (a lo w v : Nat) : (s.setFld a lo w v).fresh = s.fresh := (rfl)
@[simp] theorem State.setFld_ticks (a lo w v : Nat) : (s.setFld a lo w v).ticks = s.ticks := (rfl)
@[simp] theorem State.setFld_boot (a lo w v : Nat) : (s.setFld a lo w v).boot = s.boot := (rfl)
@[simp] theorem State.setFld_harts (a lo w v : Nat) : (s.setFld a lo w v).harts = s.harts := (rfl)
@[simp] theorem State.setFld_pwr (a lo w v : Nat) : (s.setFld a lo w v).pwr = s.pwr := (rfl)
@[simp] theorem State.setFld_leng (a lo w v : Nat) : (s.setFld a lo w v).leng = s.leng := (rfl)
@[simp] theorem State.setFld_rd (a lo w v : Nat) : (s.setFld a lo w v).rd = s.rd := (rfl)
@[simp] theorem State.setFld_wenc (a lo w v : Nat) : (s.setFld a lo w v).wenc = s.wenc := (rfl)
@[simp] theorem State.setFld_spn (a lo w v : Nat) : (s.setFld a lo w v).spn = s.spn := (rfl)
@[simp] theorem State.setFld_stp (a lo w v : Nat) : (s.setFld a lo w v).stp = s.stp := (rfl)
@[simp] theorem State.setFld_fmt (a lo w v : Nat) : (s.setFld a lo w v).fmt = s.fmt := (rfl)
@[simp] theorem State.setFld_sv (a lo w v : Nat) : (s.setFld a lo w v).sv = s.sv := (rfl)
@[simp] theorem State.setFld_cal (a lo w v : Nat) : (s.setFld a lo w v).cal = s.cal := (rfl)
@[simp] theorem State.setFld_pcie (a lo w v : Nat) : (s.setFld a lo w v).pcie = s.pcie := (rfl)
@[simp] theorem State.setFld_hq (a lo w v : Nat) : (s.setFld a lo w v).hq = s.hq := (rfl)
@[simp] theorem State.setFld_xlt (a lo w v : Nat) : (s.setFld a lo w v).xlt = s.xlt := (rfl)
@[simp] theorem State.setFld_ms (a lo w v : Nat) : (s.setFld a lo w v).ms = s.ms := (rfl)
@[simp] theorem State.setFld_flash (a lo w v : Nat) : (s.setFld a lo w v).flash = s.flash := (rfl)
@[simp] theorem State.setFld_opt (a lo w v : Nat) : (s.setFld a lo w v).opt = s.opt := (rfl)
@[simp] theorem State.setFld_evr (a lo w v : Nat) : (s.setFld a lo w v).evr = s.evr := (rfl)
@[simp] theorem State.setFld_sec (a lo w v : Nat) : (s.setFld a lo w v).sec = s.sec := (rfl)
@[simp] theorem State.setFld_pending (a lo w v : Nat) : (s.setFld a lo w v).pending = s.pending := (rfl)
theorem State.setFld_variant (a lo w v : Nat) : (s.setFld a lo w v).variant = s.variant := (rfl)

/-! ### setSfld -/
@[simp] theorem State.setSfld_supStat (a lo w : Nat) (v : Int) : (s.setSfld a lo w v).supStat = s.supStat := (rfl)
@[simp] theorem State.setSfld_rwoDone (a lo w : Nat) (v : Int) : (s.setSfld a lo w v).rwoDone = s.rwoDone := (rfl)
@[simp] theorem State.setSfld_roRecs (a lo w : Nat) (v : Int) : (s.setSfld a lo w v).roRecs = s.roRecs := (rfl)
@[simp] theorem State.setSfld_latches (a lo w : Nat) (v : Int) : (s.setSfld a lo w v).latches = s.latches := (rfl)
@[simp] theorem State.setSfld_resp (a lo w : Nat) (v : Int) : (s.setSfld a lo w v).resp = s.resp := (rfl)
@[simp] theorem State.setSfld_mem (a lo w : Nat) (v : Int) : (s.setSfld a lo w v).mem = s.mem := (rfl)
@[simp] theorem State.setSfld_fresh (a lo w : Nat) (v : Int) : (s.setSfld a lo w v).fresh = s.fresh := (rfl)
@[simp] theorem State.setSfld_ticks (a lo w : Nat) (v : Int) : (s.setSfld a lo w v).ticks = s.ticks := (rfl)
@[simp] theorem State.setSfld_boot (a lo w : Nat) (v : Int) : (s.setSfld a lo w v).boot = s.boot := (rfl)
@[simp] theorem State.setSfld_harts (a lo w : Nat) (v : Int) : (s.setSfld a lo w v).harts = s.harts := (rfl)
@[simp] theorem State.setSfld_pwr (a lo w : Nat) (v : Int) : (s.setSfld a lo w v).pwr = s.pwr := (rfl)
@[simp] theorem State.setSfld_leng (a lo w : Nat) (v : Int) : (s.setSfld a lo w v).leng = s.leng := (rfl)
@[simp] theorem State.setSfld_rd (a lo w : Nat) (v : Int) : (s.setSfld a lo w v).rd = s.rd := (rfl)
@[simp] theorem State.setSfld_wenc (a lo w : Nat) (v : Int) : (s.setSfld a lo w v).wenc = s.wenc := (rfl)
@[simp] theorem State.setSfld_spn (a lo w : Nat) (v : Int) : (s.setSfld a lo w v).spn = s.spn := (rfl)
@[simp] theorem State.setSfld_stp (a lo w : Nat) (v : Int) : (s.setSfld a lo w v).stp = s.stp := (rfl)
@[simp] theorem State.setSfld_fmt (a lo w : Nat) (v : Int) : (s.setSfld a lo w v).fmt = s.fmt := (rfl)
@[simp] theorem State.setSfld_sv (a lo w : Nat) (v : Int) : (s.setSfld a lo w v).sv = s.sv := (rfl)
@[simp] theorem State.setSfld_cal (a lo w : Nat) (v : Int) : (s.setSfld a lo w v).cal = s.cal := (rfl)
@[simp] theorem State.setSfld_pcie (a lo w : Nat) (v : Int) : (s.setSfld a lo w v).pcie = s.pcie := (rfl)
@[simp] theorem State.setSfld_hq (a lo w : Nat) (v : Int) : (s.setSfld a lo w v).hq = s.hq := (rfl)
@[simp] theorem State.setSfld_xlt (a lo w : Nat) (v : Int) : (s.setSfld a lo w v).xlt = s.xlt := (rfl)
@[simp] theorem State.setSfld_ms (a lo w : Nat) (v : Int) : (s.setSfld a lo w v).ms = s.ms := (rfl)
@[simp] theorem State.setSfld_flash (a lo w : Nat) (v : Int) : (s.setSfld a lo w v).flash = s.flash := (rfl)
@[simp] theorem State.setSfld_opt (a lo w : Nat) (v : Int) : (s.setSfld a lo w v).opt = s.opt := (rfl)
@[simp] theorem State.setSfld_evr (a lo w : Nat) (v : Int) : (s.setSfld a lo w v).evr = s.evr := (rfl)
@[simp] theorem State.setSfld_sec (a lo w : Nat) (v : Int) : (s.setSfld a lo w v).sec = s.sec := (rfl)
@[simp] theorem State.setSfld_pending (a lo w : Nat) (v : Int) : (s.setSfld a lo w v).pending = s.pending := (rfl)
theorem State.setSfld_variant (a lo w : Nat) (v : Int) : (s.setSfld a lo w v).variant = s.variant := (rfl)

/-! ### setBit -/
@[simp] theorem State.setBit_supStat (a i : Nat) (b : Bool) : (s.setBit a i b).supStat = s.supStat := (rfl)
@[simp] theorem State.setBit_rwoDone (a i : Nat) (b : Bool) : (s.setBit a i b).rwoDone = s.rwoDone := (rfl)
@[simp] theorem State.setBit_roRecs (a i : Nat) (b : Bool) : (s.setBit a i b).roRecs = s.roRecs := (rfl)
@[simp] theorem State.setBit_latches (a i : Nat) (b : Bool) : (s.setBit a i b).latches = s.latches := (rfl)
@[simp] theorem State.setBit_resp (a i : Nat) (b : Bool) : (s.setBit a i b).resp = s.resp := (rfl)
@[simp] theorem State.setBit_mem (a i : Nat) (b : Bool) : (s.setBit a i b).mem = s.mem := (rfl)
@[simp] theorem State.setBit_fresh (a i : Nat) (b : Bool) : (s.setBit a i b).fresh = s.fresh := (rfl)
@[simp] theorem State.setBit_ticks (a i : Nat) (b : Bool) : (s.setBit a i b).ticks = s.ticks := (rfl)
@[simp] theorem State.setBit_boot (a i : Nat) (b : Bool) : (s.setBit a i b).boot = s.boot := (rfl)
@[simp] theorem State.setBit_harts (a i : Nat) (b : Bool) : (s.setBit a i b).harts = s.harts := (rfl)
@[simp] theorem State.setBit_pwr (a i : Nat) (b : Bool) : (s.setBit a i b).pwr = s.pwr := (rfl)
@[simp] theorem State.setBit_leng (a i : Nat) (b : Bool) : (s.setBit a i b).leng = s.leng := (rfl)
@[simp] theorem State.setBit_rd (a i : Nat) (b : Bool) : (s.setBit a i b).rd = s.rd := (rfl)
@[simp] theorem State.setBit_wenc (a i : Nat) (b : Bool) : (s.setBit a i b).wenc = s.wenc := (rfl)
@[simp] theorem State.setBit_spn (a i : Nat) (b : Bool) : (s.setBit a i b).spn = s.spn := (rfl)
@[simp] theorem State.setBit_stp (a i : Nat) (b : Bool) : (s.setBit a i b).stp = s.stp := (rfl)
@[simp] theorem State.setBit_fmt (a i : Nat) (b : Bool) : (s.setBit a i b).fmt = s.fmt := (rfl)
@[simp] theorem State.setBit_sv (a i : Nat) (b : Bool) : (s.setBit a i b).sv = s.sv := (rfl)
@[simp] theorem State.setBit_cal (a i : Nat) (b : Bool) : (s.setBit a i b).cal = s.cal := (rfl)
@[simp] theorem State.setBit_pcie (a i : Nat) (b : Bool) : (s.setBit a i b).pcie = s.pcie := (rfl)
@[simp] theorem State.setBit_hq (a i : Nat) (b : Bool) : (s.setBit a i b).hq = s.hq := (rfl)
@[simp] theorem State.setBit_xlt (a i : Nat) (b : Bool) : (s.setBit a i b).xlt = s.xlt := (rfl)
@[simp] theorem State.setBit_ms (a i : Nat) (b : Bool) : (s.setBit a i b).ms = s.ms := (rfl)
@[simp] theorem State.setBit_flash (a i : Nat) (b : Bool) : (s.setBit a i b).flash = s.flash := (rfl)
@[simp] theorem State.setBit_opt (a i : Nat) (b : Bool) : (s.setBit a i b).opt = s.opt := (rfl)
@[simp] theorem State.setBit_evr (a i : Nat) (b : Bool) : (s.setBit a i b).evr = s.evr := (rfl)
@[simp] theorem State.setBit_sec (a i : Nat) (b : Bool) : (s.setBit a i b).sec = s.sec := (rfl)
@[simp] theorem State.setBit_pending (a i : Nat) (b : Bool) : (s.setBit a i b).pending = s.pending := (rfl)
theorem State.setBit_variant (a i : Nat) (b : Bool) : (s.setBit a i b).variant = s.variant := (rfl)

/-! ### addSat -/
@[simp] theorem State.addSat_supStat (a lo w n : Nat) : (s.addSat a lo w n).supStat = s.supStat := (rfl)
@[simp] theorem State.addSat_rwoDone (a lo w n : Nat) : (s.addSat a lo w n).rwoDone = s.rwoDone := (rfl)
@[simp] theorem State.addSat_roRecs (a lo w n : Nat) : (s.addSat a lo w n).roRecs = s.roRecs := (rfl)
@[simp] theorem State.addSat_latches (a lo w n : Nat) : (s.addSat a lo w n).latches = s.latches := (rfl)
@[simp] theorem State.addSat_resp (a lo w n : Nat) : (s.addSat a lo w n).resp = s.resp := (rfl)
@[simp] theorem State.addSat_mem (a lo w n : Nat) : (s.addSat a lo w n).mem = s.mem := (rfl)
@[simp] theorem State.addSat_fresh (a lo w n : Nat) : (s.addSat a lo w n).fresh = s.fresh := (rfl)
@[simp] theorem State.addSat_ticks (a lo w n : Nat) : (s.addSat a lo w n).ticks = s.ticks := (rfl)
@[simp] theorem State.addSat_boot (a lo w n : Nat) : (s.addSat a lo w n).boot = s.boot := (rfl)
@[simp] theorem State.addSat_harts (a lo w n : Nat) : (s.addSat a lo w n).harts = s.harts := (rfl)
@[simp] theorem State.addSat_pwr (a lo w n : Nat) : (s.addSat a lo w n).pwr = s.pwr := (rfl)
@[simp] theorem State.addSat_leng (a lo w n : Nat) : (s.addSat a lo w n).leng = s.leng := (rfl)
@[simp] theorem State.addSat_rd (a lo w n : Nat) : (s.addSat a lo w n).rd = s.rd := (rfl)
@[simp] theorem State.addSat_wenc (a lo w n : Nat) : (s.addSat a lo w n).wenc = s.wenc := (rfl)
@[simp] theorem State.addSat_spn (a lo w n : Nat) : (s.addSat a lo w n).spn = s.spn := (rfl)
@[simp] theorem State.addSat_stp (a lo w n : Nat) : (s.addSat a lo w n).stp = s.stp := (rfl)
@[simp] theorem State.addSat_fmt (a lo w n : Nat) : (s.addSat a lo w n).fmt = s.fmt := (rfl)
@[simp] theorem State.addSat_sv (a lo w n : Nat) : (s.addSat a lo w n).sv = s.sv := (rfl)
@[simp] theorem State.addSat_cal (a lo w n : Nat) : (s.addSat a lo w n).cal = s.cal := (rfl)
@[simp] theorem State.addSat_pcie (a lo w n : Nat) : (s.addSat a lo w n).pcie = s.pcie := (rfl)
@[simp] theorem State.addSat_hq (a lo w n : Nat) : (s.addSat a lo w n).hq = s.hq := (rfl)
@[simp] theorem State.addSat_xlt (a lo w n : Nat) : (s.addSat a lo w n).xlt = s.xlt := (rfl)
@[simp] theorem State.addSat_ms (a lo w n : Nat) : (s.addSat a lo w n).ms = s.ms := (rfl)
@[simp] theorem State.addSat_flash (a lo w n : Nat) : (s.addSat a lo w n).flash = s.flash := (rfl)
@[simp] theorem State.addSat_opt (a lo w n : Nat) : (s.addSat a lo w n).opt = s.opt := (rfl)
@[simp] theorem State.addSat_evr (a lo w n : Nat) : (s.addSat a lo w n).evr = s.evr := (rfl)
@[simp] theorem State.addSat_sec (a lo w n : Nat) : (s.addSat a lo w n).sec = s.sec := (rfl)
@[simp] theorem State.addSat_pending (a lo w n : Nat) : (s.addSat a lo w n).pending = s.pending := (rfl)
theorem State.addSat_variant (a lo w n : Nat) : (s.addSat a lo w n).variant = s.variant := (rfl)

/-! ### addMod -/
@[simp] theorem State.addMod_supStat (a lo w n : Nat) : (s.addMod a lo w n).supStat = s.supStat := (rfl)
@[simp] theorem State.addMod_rwoDone (a lo w n : Nat) : (s.addMod a lo w n).rwoDone = s.rwoDone := (rfl)
@[simp] theorem State.addMod_roRecs (a lo w n : Nat) : (s.addMod a lo w n).roRecs = s.roRecs := (rfl)
@[simp] theorem State.addMod_latches (a lo w n : Nat) : (s.addMod a lo w n).latches = s.latches := (rfl)
@[simp] theorem State.addMod_resp (a lo w n : Nat) : (s.addMod a lo w n).resp = s.resp := (rfl)
@[simp] theorem State.addMod_mem (a lo w n : Nat) : (s.addMod a lo w n).mem = s.mem := (rfl)
@[simp] theorem State.addMod_fresh (a lo w n : Nat) : (s.addMod a lo w n).fresh = s.fresh := (rfl)
@[simp] theorem State.addMod_ticks (a lo w n : Nat) : (s.addMod a lo w n).ticks = s.ticks := (rfl)
@[simp] theorem State.addMod_boot (a lo w n : Nat) : (s.addMod a lo w n).boot = s.boot := (rfl)
@[simp] theorem State.addMod_harts (a lo w n : Nat) : (s.addMod a lo w n).harts = s.harts := (rfl)
@[simp] theorem State.addMod_pwr (a lo w n : Nat) : (s.addMod a lo w n).pwr = s.pwr := (rfl)
@[simp] theorem State.addMod_leng (a lo w n : Nat) : (s.addMod a lo w n).leng = s.leng := (rfl)
@[simp] theorem State.addMod_rd (a lo w n : Nat) : (s.addMod a lo w n).rd = s.rd := (rfl)
@[simp] theorem State.addMod_wenc (a lo w n : Nat) : (s.addMod a lo w n).wenc = s.wenc := (rfl)
@[simp] theorem State.addMod_spn (a lo w n : Nat) : (s.addMod a lo w n).spn = s.spn := (rfl)
@[simp] theorem State.addMod_stp (a lo w n : Nat) : (s.addMod a lo w n).stp = s.stp := (rfl)
@[simp] theorem State.addMod_fmt (a lo w n : Nat) : (s.addMod a lo w n).fmt = s.fmt := (rfl)
@[simp] theorem State.addMod_sv (a lo w n : Nat) : (s.addMod a lo w n).sv = s.sv := (rfl)
@[simp] theorem State.addMod_cal (a lo w n : Nat) : (s.addMod a lo w n).cal = s.cal := (rfl)
@[simp] theorem State.addMod_pcie (a lo w n : Nat) : (s.addMod a lo w n).pcie = s.pcie := (rfl)
@[simp] theorem State.addMod_hq (a lo w n : Nat) : (s.addMod a lo w n).hq = s.hq := (rfl)
@[simp] theorem State.addMod_xlt (a lo w n : Nat) : (s.addMod a lo w n).xlt = s.xlt := (rfl)
@[simp] theorem State.addMod_ms (a lo w n : Nat) : (s.addMod a lo w n).ms = s.ms := (rfl)
@[simp] theorem State.addMod_flash (a lo w n : Nat) : (s.addMod a lo w n).flash = s.flash := (rfl)
@[simp] theorem State.addMod_opt (a lo w n : Nat) : (s.addMod a lo w n).opt = s.opt := (rfl)
@[simp] theorem State.addMod_evr (a lo w n : Nat) : (s.addMod a lo w n).evr = s.evr := (rfl)
@[simp] theorem State.addMod_sec (a lo w n : Nat) : (s.addMod a lo w n).sec = s.sec := (rfl)
@[simp] theorem State.addMod_pending (a lo w n : Nat) : (s.addMod a lo w n).pending = s.pending := (rfl)
theorem State.addMod_variant (a lo w n : Nat) : (s.addMod a lo w n).variant = s.variant := (rfl)

/-! ### dropRegs -/
@[simp] theorem State.dropRegs_supStat (p : Nat → Bool) : (s.dropRegs p).supStat = s.supStat := (rfl)
@[simp] theorem State.dropRegs_rwoDone (p : Nat → Bool) : (s.dropRegs p).rwoDone = s.rwoDone := (rfl)
@[simp] theorem State.dropRegs_roRecs (p : Nat → Bool) : (s.dropRegs p).roRecs = s.roRecs := (rfl)
@[simp] theorem State.dropRegs_latches (p : Nat → Bool) : (s.dropRegs p).latches = s.latches := (rfl)
@[simp] theorem State.dropRegs_resp (p : Nat → Bool) : (s.dropRegs p).resp = s.resp := (rfl)
@[simp] theorem State.dropRegs_mem (p : Nat → Bool) : (s.dropRegs p).mem = s.mem := (rfl)
@[simp] theorem State.dropRegs_fresh (p : Nat → Bool) : (s.dropRegs p).fresh = s.fresh := (rfl)
@[simp] theorem State.dropRegs_ticks (p : Nat → Bool) : (s.dropRegs p).ticks = s.ticks := (rfl)
@[simp] theorem State.dropRegs_boot (p : Nat → Bool) : (s.dropRegs p).boot = s.boot := (rfl)
@[simp] theorem State.dropRegs_harts (p : Nat → Bool) : (s.dropRegs p).harts = s.harts := (rfl)
@[simp] theorem State.dropRegs_pwr (p : Nat → Bool) : (s.dropRegs p).pwr = s.pwr := (rfl)
@[simp] theorem State.dropRegs_leng (p : Nat → Bool) : (s.dropRegs p).leng = s.leng := (rfl)
@[simp] theorem State.dropRegs_rd (p : Nat → Bool) : (s.dropRegs p).rd = s.rd := (rfl)
@[simp] theorem State.dropRegs_wenc (p : Nat → Bool) : (s.dropRegs p).wenc = s.wenc := (rfl)
@[simp] theorem State.dropRegs_spn (p : Nat → Bool) : (s.dropRegs p).spn = s.spn := (rfl)
@[simp] theorem State.dropRegs_stp (p : Nat → Bool) : (s.dropRegs p).stp = s.stp := (rfl)
@[simp] theorem State.dropRegs_fmt (p : Nat → Bool) : (s.dropRegs p).fmt = s.fmt := (rfl)
@[simp] theorem State.dropRegs_sv (p : Nat → Bool) : (s.dropRegs p).sv = s.sv := (rfl)
@[simp] theorem State.dropRegs_cal (p : Nat → Bool) : (s.dropRegs p).cal = s.cal := (rfl)
@[simp] theorem State.dropRegs_pcie (p : Nat → Bool) : (s.dropRegs p).pcie = s.pcie := (rfl)
@[simp] theorem State.dropRegs_hq (p : Nat → Bool) : (s.dropRegs p).hq = s.hq := (rfl)
@[simp] theorem State.dropRegs_xlt (p : Nat → Bool) : (s.dropRegs p).xlt = s.xlt := (rfl)
@[simp] theorem State.dropRegs_ms (p : Nat → Bool) : (s.dropRegs p).ms = s.ms := (rfl)
@[simp] theorem State.dropRegs_flash (p : Nat → Bool) : (s.dropRegs p).flash = s.flash := (rfl)
@[simp] theorem State.dropRegs_opt (p : Nat → Bool) : (s.dropRegs p).opt = s.opt := (rfl)
@[simp] theorem State.dropRegs_evr (p : Nat → Bool) : (s.dropRegs p).evr = s.evr := (rfl)
@[simp] theorem State.dropRegs_sec (p : Nat → Bool) : (s.dropRegs p).sec = s.sec := (rfl)
@[simp] theorem State.dropRegs_pending (p : Nat → Bool) : (s.dropRegs p).pending = s.pending := (rfl)
theorem State.dropRegs_variant (p : Nat → Bool) : (s.dropRegs p).variant = s.variant := (rfl)

/-! ### settleIrq -/
@[simp] theorem State.settleIrq_supStat (p : Nat) : (s.settleIrq p).supStat = s.supStat := (rfl)
@[simp] theorem State.settleIrq_rwoDone (p : Nat) : (s.settleIrq p).rwoDone = s.rwoDone := (rfl)
@[simp] theorem State.settleIrq_roRecs (p : Nat) : (s.settleIrq p).roRecs = s.roRecs := (rfl)
@[simp] theorem State.settleIrq_latches (p : Nat) : (s.settleIrq p).latches = s.latches := (rfl)
@[simp] theorem State.settleIrq_resp (p : Nat) : (s.settleIrq p).resp = s.resp := (rfl)
@[simp] theorem State.settleIrq_mem (p : Nat) : (s.settleIrq p).mem = s.mem := (rfl)
@[simp] theorem State.settleIrq_fresh (p : Nat) : (s.settleIrq p).fresh = s.fresh := (rfl)
@[simp] theorem State.settleIrq_ticks (p : Nat) : (s.settleIrq p).ticks = s.ticks := (rfl)
@[simp] theorem State.settleIrq_boot (p : Nat) : (s.settleIrq p).boot = s.boot := (rfl)
@[simp] theorem State.settleIrq_harts (p : Nat) : (s.settleIrq p).harts = s.harts := (rfl)
@[simp] theorem State.settleIrq_pwr (p : Nat) : (s.settleIrq p).pwr = s.pwr := (rfl)
@[simp] theorem State.settleIrq_leng (p : Nat) : (s.settleIrq p).leng = s.leng := (rfl)
@[simp] theorem State.settleIrq_rd (p : Nat) : (s.settleIrq p).rd = s.rd := (rfl)
@[simp] theorem State.settleIrq_wenc (p : Nat) : (s.settleIrq p).wenc = s.wenc := (rfl)
@[simp] theorem State.settleIrq_spn (p : Nat) : (s.settleIrq p).spn = s.spn := (rfl)
@[simp] theorem State.settleIrq_stp (p : Nat) : (s.settleIrq p).stp = s.stp := (rfl)
@[simp] theorem State.settleIrq_fmt (p : Nat) : (s.settleIrq p).fmt = s.fmt := (rfl)
@[simp] theorem State.settleIrq_sv (p : Nat) : (s.settleIrq p).sv = s.sv := (rfl)
@[simp] theorem State.settleIrq_cal (p : Nat) : (s.settleIrq p).cal = s.cal := (rfl)
@[simp] theorem State.settleIrq_pcie (p : Nat) : (s.settleIrq p).pcie = s.pcie := (rfl)
@[simp] theorem State.settleIrq_hq (p : Nat) : (s.settleIrq p).hq = s.hq := (rfl)
@[simp] theorem State.settleIrq_xlt (p : Nat) : (s.settleIrq p).xlt = s.xlt := (rfl)
@[simp] theorem State.settleIrq_ms (p : Nat) : (s.settleIrq p).ms = s.ms := (rfl)
@[simp] theorem State.settleIrq_flash (p : Nat) : (s.settleIrq p).flash = s.flash := (rfl)
@[simp] theorem State.settleIrq_opt (p : Nat) : (s.settleIrq p).opt = s.opt := (rfl)
@[simp] theorem State.settleIrq_evr (p : Nat) : (s.settleIrq p).evr = s.evr := (rfl)
@[simp] theorem State.settleIrq_sec (p : Nat) : (s.settleIrq p).sec = s.sec := (rfl)
@[simp] theorem State.settleIrq_pending (p : Nat) : (s.settleIrq p).pending = s.pending := (rfl)
theorem State.settleIrq_variant (p : Nat) : (s.settleIrq p).variant = s.variant := (rfl)

/-! ### raiseMask -/
@[simp] theorem State.raiseMask_supStat (p k : Nat) : (s.raiseMask p k).supStat = s.supStat := (rfl)
@[simp] theorem State.raiseMask_rwoDone (p k : Nat) : (s.raiseMask p k).rwoDone = s.rwoDone := (rfl)
@[simp] theorem State.raiseMask_roRecs (p k : Nat) : (s.raiseMask p k).roRecs = s.roRecs := (rfl)
@[simp] theorem State.raiseMask_latches (p k : Nat) : (s.raiseMask p k).latches = s.latches := (rfl)
@[simp] theorem State.raiseMask_resp (p k : Nat) : (s.raiseMask p k).resp = s.resp := (rfl)
@[simp] theorem State.raiseMask_mem (p k : Nat) : (s.raiseMask p k).mem = s.mem := (rfl)
@[simp] theorem State.raiseMask_fresh (p k : Nat) : (s.raiseMask p k).fresh = s.fresh := (rfl)
@[simp] theorem State.raiseMask_ticks (p k : Nat) : (s.raiseMask p k).ticks = s.ticks := (rfl)
@[simp] theorem State.raiseMask_boot (p k : Nat) : (s.raiseMask p k).boot = s.boot := (rfl)
@[simp] theorem State.raiseMask_harts (p k : Nat) : (s.raiseMask p k).harts = s.harts := (rfl)
@[simp] theorem State.raiseMask_pwr (p k : Nat) : (s.raiseMask p k).pwr = s.pwr := (rfl)
@[simp] theorem State.raiseMask_leng (p k : Nat) : (s.raiseMask p k).leng = s.leng := (rfl)
@[simp] theorem State.raiseMask_rd (p k : Nat) : (s.raiseMask p k).rd = s.rd := (rfl)
@[simp] theorem State.raiseMask_wenc (p k : Nat) : (s.raiseMask p k).wenc = s.wenc := (rfl)
@[simp] theorem State.raiseMask_spn (p k : Nat) : (s.raiseMask p k).spn = s.spn := (rfl)
@[simp] theorem State.raiseMask_stp (p k : Nat) : (s.raiseMask p k).stp = s.stp := (rfl)
@[simp] theorem State.raiseMask_fmt (p k : Nat) : (s.raiseMask p k).fmt = s.fmt := (rfl)
@[simp] theorem State.raiseMask_sv (p k : Nat) : (s.raiseMask p k).sv = s.sv := (rfl)
@[simp] theorem State.raiseMask_cal (p k : Nat) : (s.raiseMask p k).cal = s.cal := (rfl)
@[simp] theorem State.raiseMask_pcie (p k : Nat) : (s.raiseMask p k).pcie = s.pcie := (rfl)
@[simp] theorem State.raiseMask_hq (p k : Nat) : (s.raiseMask p k).hq = s.hq := (rfl)
@[simp] theorem State.raiseMask_xlt (p k : Nat) : (s.raiseMask p k).xlt = s.xlt := (rfl)
@[simp] theorem State.raiseMask_ms (p k : Nat) : (s.raiseMask p k).ms = s.ms := (rfl)
@[simp] theorem State.raiseMask_flash (p k : Nat) : (s.raiseMask p k).flash = s.flash := (rfl)
@[simp] theorem State.raiseMask_opt (p k : Nat) : (s.raiseMask p k).opt = s.opt := (rfl)
@[simp] theorem State.raiseMask_evr (p k : Nat) : (s.raiseMask p k).evr = s.evr := (rfl)
@[simp] theorem State.raiseMask_sec (p k : Nat) : (s.raiseMask p k).sec = s.sec := (rfl)
@[simp] theorem State.raiseMask_pending (p k : Nat) : (s.raiseMask p k).pending = s.pending := (rfl)
theorem State.raiseMask_variant (p k : Nat) : (s.raiseMask p k).variant = s.variant := (rfl)

/-! ### raise -/
@[simp] theorem State.raise_supStat (p b : Nat) : (s.raise p b).supStat = s.supStat := (rfl)
@[simp] theorem State.raise_rwoDone (p b : Nat) : (s.raise p b).rwoDone = s.rwoDone := (rfl)
@[simp] theorem State.raise_roRecs (p b : Nat) : (s.raise p b).roRecs = s.roRecs := (rfl)
@[simp] theorem State.raise_latches (p b : Nat) : (s.raise p b).latches = s.latches := (rfl)
@[simp] theorem State.raise_resp (p b : Nat) : (s.raise p b).resp = s.resp := (rfl)
@[simp] theorem State.raise_mem (p b : Nat) : (s.raise p b).mem = s.mem := (rfl)
@[simp] theorem State.raise_fresh (p b : Nat) : (s.raise p b).fresh = s.fresh := (rfl)
@[simp] theorem State.raise_ticks (p b : Nat) : (s.raise p b).ticks = s.ticks := (rfl)
@[simp] theorem State.raise_boot (p b : Nat) : (s.raise p b).boot = s.boot := (rfl)
@[simp] theorem State.raise_harts (p b : Nat) : (s.raise p b).harts = s.harts := (rfl)
@[simp] theorem State.raise_pwr (p b : Nat) : (s.raise p b).pwr = s.pwr := (rfl)
@[simp] theorem State.raise_leng (p b : Nat) : (s.raise p b).leng = s.leng := (rfl)
@[simp] theorem State.raise_rd (p b : Nat) : (s.raise p b).rd = s.rd := (rfl)
@[simp] theorem State.raise_wenc (p b : Nat) : (s.raise p b).wenc = s.wenc := (rfl)
@[simp] theorem State.raise_spn (p b : Nat) : (s.raise p b).spn = s.spn := (rfl)
@[simp] theorem State.raise_stp (p b : Nat) : (s.raise p b).stp = s.stp := (rfl)
@[simp] theorem State.raise_fmt (p b : Nat) : (s.raise p b).fmt = s.fmt := (rfl)
@[simp] theorem State.raise_sv (p b : Nat) : (s.raise p b).sv = s.sv := (rfl)
@[simp] theorem State.raise_cal (p b : Nat) : (s.raise p b).cal = s.cal := (rfl)
@[simp] theorem State.raise_pcie (p b : Nat) : (s.raise p b).pcie = s.pcie := (rfl)
@[simp] theorem State.raise_hq (p b : Nat) : (s.raise p b).hq = s.hq := (rfl)
@[simp] theorem State.raise_xlt (p b : Nat) : (s.raise p b).xlt = s.xlt := (rfl)
@[simp] theorem State.raise_ms (p b : Nat) : (s.raise p b).ms = s.ms := (rfl)
@[simp] theorem State.raise_flash (p b : Nat) : (s.raise p b).flash = s.flash := (rfl)
@[simp] theorem State.raise_opt (p b : Nat) : (s.raise p b).opt = s.opt := (rfl)
@[simp] theorem State.raise_evr (p b : Nat) : (s.raise p b).evr = s.evr := (rfl)
@[simp] theorem State.raise_sec (p b : Nat) : (s.raise p b).sec = s.sec := (rfl)
@[simp] theorem State.raise_pending (p b : Nat) : (s.raise p b).pending = s.pending := (rfl)
theorem State.raise_variant (p b : Nat) : (s.raise p b).variant = s.variant := (rfl)

/-! ### report -/
@[simp] theorem State.report_supStat (p c m : Nat) (q : List Nat) : (s.report p c m q).supStat = s.supStat := (rfl)
@[simp] theorem State.report_rwoDone (p c m : Nat) (q : List Nat) : (s.report p c m q).rwoDone = s.rwoDone := (rfl)
@[simp] theorem State.report_roRecs (p c m : Nat) (q : List Nat) : (s.report p c m q).roRecs = s.roRecs := (rfl)
@[simp] theorem State.report_latches (p c m : Nat) (q : List Nat) : (s.report p c m q).latches = s.latches := (rfl)
@[simp] theorem State.report_resp (p c m : Nat) (q : List Nat) : (s.report p c m q).resp = s.resp := (rfl)
@[simp] theorem State.report_mem (p c m : Nat) (q : List Nat) : (s.report p c m q).mem = s.mem := (rfl)
@[simp] theorem State.report_fresh (p c m : Nat) (q : List Nat) : (s.report p c m q).fresh = s.fresh := (rfl)
@[simp] theorem State.report_ticks (p c m : Nat) (q : List Nat) : (s.report p c m q).ticks = s.ticks := (rfl)
@[simp] theorem State.report_boot (p c m : Nat) (q : List Nat) : (s.report p c m q).boot = s.boot := (rfl)
@[simp] theorem State.report_harts (p c m : Nat) (q : List Nat) : (s.report p c m q).harts = s.harts := (rfl)
@[simp] theorem State.report_pwr (p c m : Nat) (q : List Nat) : (s.report p c m q).pwr = s.pwr := (rfl)
@[simp] theorem State.report_leng (p c m : Nat) (q : List Nat) : (s.report p c m q).leng = s.leng := (rfl)
@[simp] theorem State.report_rd (p c m : Nat) (q : List Nat) : (s.report p c m q).rd = s.rd := (rfl)
@[simp] theorem State.report_wenc (p c m : Nat) (q : List Nat) : (s.report p c m q).wenc = s.wenc := (rfl)
@[simp] theorem State.report_spn (p c m : Nat) (q : List Nat) : (s.report p c m q).spn = s.spn := (rfl)
@[simp] theorem State.report_stp (p c m : Nat) (q : List Nat) : (s.report p c m q).stp = s.stp := (rfl)
@[simp] theorem State.report_fmt (p c m : Nat) (q : List Nat) : (s.report p c m q).fmt = s.fmt := (rfl)
@[simp] theorem State.report_sv (p c m : Nat) (q : List Nat) : (s.report p c m q).sv = s.sv := (rfl)
@[simp] theorem State.report_cal (p c m : Nat) (q : List Nat) : (s.report p c m q).cal = s.cal := (rfl)
@[simp] theorem State.report_pcie (p c m : Nat) (q : List Nat) : (s.report p c m q).pcie = s.pcie := (rfl)
@[simp] theorem State.report_hq (p c m : Nat) (q : List Nat) : (s.report p c m q).hq = s.hq := (rfl)
@[simp] theorem State.report_xlt (p c m : Nat) (q : List Nat) : (s.report p c m q).xlt = s.xlt := (rfl)
@[simp] theorem State.report_ms (p c m : Nat) (q : List Nat) : (s.report p c m q).ms = s.ms := (rfl)
@[simp] theorem State.report_flash (p c m : Nat) (q : List Nat) : (s.report p c m q).flash = s.flash := (rfl)
@[simp] theorem State.report_opt (p c m : Nat) (q : List Nat) : (s.report p c m q).opt = s.opt := (rfl)
@[simp] theorem State.report_sec (p c m : Nat) (q : List Nat) : (s.report p c m q).sec = s.sec := (rfl)
@[simp] theorem State.report_pending (p c m : Nat) (q : List Nat) : (s.report p c m q).pending = s.pending := (rfl)
theorem State.report_variant (p c m : Nat) (q : List Nat) : (s.report p c m q).variant = s.variant := (rfl)
theorem State.report_regs (p c m : Nat) (q : List Nat) : (s.report p c m q).regs = s.regs := (rfl)

/-! ### setByte -/
@[simp] theorem State.setByte_supStat (a : Nat) (b : Byte) : (s.setByte a b).supStat = s.supStat := (rfl)
@[simp] theorem State.setByte_rwoDone (a : Nat) (b : Byte) : (s.setByte a b).rwoDone = s.rwoDone := (rfl)
@[simp] theorem State.setByte_roRecs (a : Nat) (b : Byte) : (s.setByte a b).roRecs = s.roRecs := (rfl)
@[simp] theorem State.setByte_latches (a : Nat) (b : Byte) : (s.setByte a b).latches = s.latches := (rfl)
@[simp] theorem State.setByte_resp (a : Nat) (b : Byte) : (s.setByte a b).resp = s.resp := (rfl)
@[simp] theorem State.setByte_fresh (a : Nat) (b : Byte) : (s.setByte a b).fresh = s.fresh := (rfl)
@[simp] theorem State.setByte_ticks (a : Nat) (b : Byte) : (s.setByte a b).ticks = s.ticks := (rfl)
@[simp] theorem State.setByte_boot (a : Nat) (b : Byte) : (s.setByte a b).boot = s.boot := (rfl)
@[simp] theorem State.setByte_harts (a : Nat) (b : Byte) : (s.setByte a b).harts = s.harts := (rfl)
@[simp] theorem State.setByte_pwr (a : Nat) (b : Byte) : (s.setByte a b).pwr = s.pwr := (rfl)
@[simp] theorem State.setByte_leng (a : Nat) (b : Byte) : (s.setByte a b).leng = s.leng := (rfl)
@[simp] theorem State.setByte_rd (a : Nat) (b : Byte) : (s.setByte a b).rd = s.rd := (rfl)
@[simp] theorem State.setByte_wenc (a : Nat) (b : Byte) : (s.setByte a b).wenc = s.wenc := (rfl)
@[simp] theorem State.setByte_spn (a : Nat) (b : Byte) : (s.setByte a b).spn = s.spn := (rfl)
@[simp] theorem State.setByte_stp (a : Nat) (b : Byte) : (s.setByte a b).stp = s.stp := (rfl)
@[simp] theorem State.setByte_fmt (a : Nat) (b : Byte) : (s.setByte a b).fmt = s.fmt := (rfl)
@[simp] theorem State.setByte_sv (a : Nat) (b : Byte) : (s.setByte a b).sv = s.sv := (rfl)
@[simp] theorem State.setByte_cal (a : Nat) (b : Byte) : (s.setByte a b).cal = s.cal := (rfl)
@[simp] theorem State.setByte_pcie (a : Nat) (b : Byte) : (s.setByte a b).pcie = s.pcie := (rfl)
@[simp] theorem State.setByte_hq (a : Nat) (b : Byte) : (s.setByte a b).hq = s.hq := (rfl)
@[simp] theorem State.setByte_xlt (a : Nat) (b : Byte) : (s.setByte a b).xlt = s.xlt := (rfl)
@[simp] theorem State.setByte_ms (a : Nat) (b : Byte) : (s.setByte a b).ms = s.ms := (rfl)
@[simp] theorem State.setByte_flash (a : Nat) (b : Byte) : (s.setByte a b).flash = s.flash := (rfl)
@[simp] theorem State.setByte_opt (a : Nat) (b : Byte) : (s.setByte a b).opt = s.opt := (rfl)
@[simp] theorem State.setByte_evr (a : Nat) (b : Byte) : (s.setByte a b).evr = s.evr := (rfl)
@[simp] theorem State.setByte_sec (a : Nat) (b : Byte) : (s.setByte a b).sec = s.sec := (rfl)
@[simp] theorem State.setByte_pending (a : Nat) (b : Byte) : (s.setByte a b).pending = s.pending := (rfl)
theorem State.setByte_variant (a : Nat) (b : Byte) : (s.setByte a b).variant = s.variant := (rfl)
theorem State.setByte_regs (a : Nat) (b : Byte) : (s.setByte a b).regs = s.regs := (rfl)

/-- An error report writes one register. -/
theorem State.err_eq (p c src : Nat) : ∃ a w, s.err p c src = s.setReg a w := by
  unfold State.err
  by_cases h : s.fld (Reg.ERR_INFO p) 24 8 = 0
  · exact ⟨_, _, if_pos h⟩
  · exact ⟨_, _, if_neg h⟩

/-! ### err -/
@[simp] theorem State.err_supStat (p c src : Nat) : (s.err p c src).supStat = s.supStat := by obtain ⟨a, w, h⟩ := s.err_eq p c src; rw [h]; rfl
@[simp] theorem State.err_rwoDone (p c src : Nat) : (s.err p c src).rwoDone = s.rwoDone := by obtain ⟨a, w, h⟩ := s.err_eq p c src; rw [h]; rfl
@[simp] theorem State.err_roRecs (p c src : Nat) : (s.err p c src).roRecs = s.roRecs := by obtain ⟨a, w, h⟩ := s.err_eq p c src; rw [h]; rfl
@[simp] theorem State.err_latches (p c src : Nat) : (s.err p c src).latches = s.latches := by obtain ⟨a, w, h⟩ := s.err_eq p c src; rw [h]; rfl
@[simp] theorem State.err_resp (p c src : Nat) : (s.err p c src).resp = s.resp := by obtain ⟨a, w, h⟩ := s.err_eq p c src; rw [h]; rfl
@[simp] theorem State.err_mem (p c src : Nat) : (s.err p c src).mem = s.mem := by obtain ⟨a, w, h⟩ := s.err_eq p c src; rw [h]; rfl
@[simp] theorem State.err_fresh (p c src : Nat) : (s.err p c src).fresh = s.fresh := by obtain ⟨a, w, h⟩ := s.err_eq p c src; rw [h]; rfl
@[simp] theorem State.err_ticks (p c src : Nat) : (s.err p c src).ticks = s.ticks := by obtain ⟨a, w, h⟩ := s.err_eq p c src; rw [h]; rfl
@[simp] theorem State.err_boot (p c src : Nat) : (s.err p c src).boot = s.boot := by obtain ⟨a, w, h⟩ := s.err_eq p c src; rw [h]; rfl
@[simp] theorem State.err_harts (p c src : Nat) : (s.err p c src).harts = s.harts := by obtain ⟨a, w, h⟩ := s.err_eq p c src; rw [h]; rfl
@[simp] theorem State.err_pwr (p c src : Nat) : (s.err p c src).pwr = s.pwr := by obtain ⟨a, w, h⟩ := s.err_eq p c src; rw [h]; rfl
@[simp] theorem State.err_leng (p c src : Nat) : (s.err p c src).leng = s.leng := by obtain ⟨a, w, h⟩ := s.err_eq p c src; rw [h]; rfl
@[simp] theorem State.err_rd (p c src : Nat) : (s.err p c src).rd = s.rd := by obtain ⟨a, w, h⟩ := s.err_eq p c src; rw [h]; rfl
@[simp] theorem State.err_wenc (p c src : Nat) : (s.err p c src).wenc = s.wenc := by obtain ⟨a, w, h⟩ := s.err_eq p c src; rw [h]; rfl
@[simp] theorem State.err_spn (p c src : Nat) : (s.err p c src).spn = s.spn := by obtain ⟨a, w, h⟩ := s.err_eq p c src; rw [h]; rfl
@[simp] theorem State.err_stp (p c src : Nat) : (s.err p c src).stp = s.stp := by obtain ⟨a, w, h⟩ := s.err_eq p c src; rw [h]; rfl
@[simp] theorem State.err_fmt (p c src : Nat) : (s.err p c src).fmt = s.fmt := by obtain ⟨a, w, h⟩ := s.err_eq p c src; rw [h]; rfl
@[simp] theorem State.err_sv (p c src : Nat) : (s.err p c src).sv = s.sv := by obtain ⟨a, w, h⟩ := s.err_eq p c src; rw [h]; rfl
@[simp] theorem State.err_cal (p c src : Nat) : (s.err p c src).cal = s.cal := by obtain ⟨a, w, h⟩ := s.err_eq p c src; rw [h]; rfl
@[simp] theorem State.err_pcie (p c src : Nat) : (s.err p c src).pcie = s.pcie := by obtain ⟨a, w, h⟩ := s.err_eq p c src; rw [h]; rfl
@[simp] theorem State.err_hq (p c src : Nat) : (s.err p c src).hq = s.hq := by obtain ⟨a, w, h⟩ := s.err_eq p c src; rw [h]; rfl
@[simp] theorem State.err_xlt (p c src : Nat) : (s.err p c src).xlt = s.xlt := by obtain ⟨a, w, h⟩ := s.err_eq p c src; rw [h]; rfl
@[simp] theorem State.err_ms (p c src : Nat) : (s.err p c src).ms = s.ms := by obtain ⟨a, w, h⟩ := s.err_eq p c src; rw [h]; rfl
@[simp] theorem State.err_flash (p c src : Nat) : (s.err p c src).flash = s.flash := by obtain ⟨a, w, h⟩ := s.err_eq p c src; rw [h]; rfl
@[simp] theorem State.err_opt (p c src : Nat) : (s.err p c src).opt = s.opt := by obtain ⟨a, w, h⟩ := s.err_eq p c src; rw [h]; rfl
@[simp] theorem State.err_evr (p c src : Nat) : (s.err p c src).evr = s.evr := by obtain ⟨a, w, h⟩ := s.err_eq p c src; rw [h]; rfl
@[simp] theorem State.err_sec (p c src : Nat) : (s.err p c src).sec = s.sec := by obtain ⟨a, w, h⟩ := s.err_eq p c src; rw [h]; rfl
@[simp] theorem State.err_pending (p c src : Nat) : (s.err p c src).pending = s.pending := by obtain ⟨a, w, h⟩ := s.err_eq p c src; rw [h]; rfl
theorem State.err_variant (p c src : Nat) : (s.err p c src).variant = s.variant := by obtain ⟨a, w, h⟩ := s.err_eq p c src; rw [h]; rfl

/-! ### refuse -/
@[simp] theorem State.refuse_supStat (p : Nat) (m : Master) : (s.refuse p m).supStat = s.supStat := State.err_supStat s p _ _
@[simp] theorem State.refuse_rwoDone (p : Nat) (m : Master) : (s.refuse p m).rwoDone = s.rwoDone := State.err_rwoDone s p _ _
@[simp] theorem State.refuse_roRecs (p : Nat) (m : Master) : (s.refuse p m).roRecs = s.roRecs := State.err_roRecs s p _ _
@[simp] theorem State.refuse_latches (p : Nat) (m : Master) : (s.refuse p m).latches = s.latches := State.err_latches s p _ _
@[simp] theorem State.refuse_resp (p : Nat) (m : Master) : (s.refuse p m).resp = s.resp := State.err_resp s p _ _
@[simp] theorem State.refuse_mem (p : Nat) (m : Master) : (s.refuse p m).mem = s.mem := State.err_mem s p _ _
@[simp] theorem State.refuse_fresh (p : Nat) (m : Master) : (s.refuse p m).fresh = s.fresh := State.err_fresh s p _ _
@[simp] theorem State.refuse_ticks (p : Nat) (m : Master) : (s.refuse p m).ticks = s.ticks := State.err_ticks s p _ _
@[simp] theorem State.refuse_boot (p : Nat) (m : Master) : (s.refuse p m).boot = s.boot := State.err_boot s p _ _
@[simp] theorem State.refuse_harts (p : Nat) (m : Master) : (s.refuse p m).harts = s.harts := State.err_harts s p _ _
@[simp] theorem State.refuse_pwr (p : Nat) (m : Master) : (s.refuse p m).pwr = s.pwr := State.err_pwr s p _ _
@[simp] theorem State.refuse_leng (p : Nat) (m : Master) : (s.refuse p m).leng = s.leng := State.err_leng s p _ _
@[simp] theorem State.refuse_rd (p : Nat) (m : Master) : (s.refuse p m).rd = s.rd := State.err_rd s p _ _
@[simp] theorem State.refuse_wenc (p : Nat) (m : Master) : (s.refuse p m).wenc = s.wenc := State.err_wenc s p _ _
@[simp] theorem State.refuse_spn (p : Nat) (m : Master) : (s.refuse p m).spn = s.spn := State.err_spn s p _ _
@[simp] theorem State.refuse_stp (p : Nat) (m : Master) : (s.refuse p m).stp = s.stp := State.err_stp s p _ _
@[simp] theorem State.refuse_fmt (p : Nat) (m : Master) : (s.refuse p m).fmt = s.fmt := State.err_fmt s p _ _
@[simp] theorem State.refuse_sv (p : Nat) (m : Master) : (s.refuse p m).sv = s.sv := State.err_sv s p _ _
@[simp] theorem State.refuse_cal (p : Nat) (m : Master) : (s.refuse p m).cal = s.cal := State.err_cal s p _ _
@[simp] theorem State.refuse_pcie (p : Nat) (m : Master) : (s.refuse p m).pcie = s.pcie := State.err_pcie s p _ _
@[simp] theorem State.refuse_hq (p : Nat) (m : Master) : (s.refuse p m).hq = s.hq := State.err_hq s p _ _
@[simp] theorem State.refuse_xlt (p : Nat) (m : Master) : (s.refuse p m).xlt = s.xlt := State.err_xlt s p _ _
@[simp] theorem State.refuse_ms (p : Nat) (m : Master) : (s.refuse p m).ms = s.ms := State.err_ms s p _ _
@[simp] theorem State.refuse_flash (p : Nat) (m : Master) : (s.refuse p m).flash = s.flash := State.err_flash s p _ _
@[simp] theorem State.refuse_opt (p : Nat) (m : Master) : (s.refuse p m).opt = s.opt := State.err_opt s p _ _
@[simp] theorem State.refuse_evr (p : Nat) (m : Master) : (s.refuse p m).evr = s.evr := State.err_evr s p _ _
@[simp] theorem State.refuse_sec (p : Nat) (m : Master) : (s.refuse p m).sec = s.sec := State.err_sec s p _ _
@[simp] theorem State.refuse_pending (p : Nat) (m : Master) : (s.refuse p m).pending = s.pending := State.err_pending s p _ _
theorem State.refuse_variant (p : Nat) (m : Master) : (s.refuse p m).variant = s.variant := State.err_variant s p _ _

/-! ### setBytes, store -/
theorem State.setBytes_regs (a : Nat) (l : List Nat) : (s.setBytes a l).regs = s.regs := by
  induction l generalizing s a with
  | nil => rfl
  | cons b t ih => exact (ih (s.setByte a _) (a + 1)).trans rfl
theorem State.store_regs (a n v : Nat) : (s.store a n v).regs = s.regs := State.setBytes_regs s a _
@[simp] theorem State.setBytes_supStat (a : Nat) (l : List Nat) : (s.setBytes a l).supStat = s.supStat := by
  induction l generalizing s a with
  | nil => rfl
  | cons b t ih => exact (ih (s.setByte a _) (a + 1)).trans rfl
@[simp] theorem State.store_supStat (a n v : Nat) : (s.store a n v).supStat = s.supStat := State.setBytes_supStat s a _
@[simp] theorem State.setBytes_rwoDone (a : Nat) (l : List Nat) : (s.setBytes a l).rwoDone = s.rwoDone := by
  induction l generalizing s a with
  | nil => rfl
  | cons b t ih => exact (ih (s.setByte a _) (a + 1)).trans rfl
@[simp] theorem State.store_rwoDone (a n v : Nat) : (s.store a n v).rwoDone = s.rwoDone := State.setBytes_rwoDone s a _
@[simp] theorem State.setBytes_roRecs (a : Nat) (l : List Nat) : (s.setBytes a l).roRecs = s.roRecs := by
  induction l generalizing s a with
  | nil => rfl
  | cons b t ih => exact (ih (s.setByte a _) (a + 1)).trans rfl
@[simp] theorem State.store_roRecs (a n v : Nat) : (s.store a n v).roRecs = s.roRecs := State.setBytes_roRecs s a _
@[simp] theorem State.setBytes_latches (a : Nat) (l : List Nat) : (s.setBytes a l).latches = s.latches := by
  induction l generalizing s a with
  | nil => rfl
  | cons b t ih => exact (ih (s.setByte a _) (a + 1)).trans rfl
@[simp] theorem State.store_latches (a n v : Nat) : (s.store a n v).latches = s.latches := State.setBytes_latches s a _
@[simp] theorem State.setBytes_resp (a : Nat) (l : List Nat) : (s.setBytes a l).resp = s.resp := by
  induction l generalizing s a with
  | nil => rfl
  | cons b t ih => exact (ih (s.setByte a _) (a + 1)).trans rfl
@[simp] theorem State.store_resp (a n v : Nat) : (s.store a n v).resp = s.resp := State.setBytes_resp s a _
@[simp] theorem State.setBytes_fresh (a : Nat) (l : List Nat) : (s.setBytes a l).fresh = s.fresh := by
  induction l generalizing s a with
  | nil => rfl
  | cons b t ih => exact (ih (s.setByte a _) (a + 1)).trans rfl
@[simp] theorem State.store_fresh (a n v : Nat) : (s.store a n v).fresh = s.fresh := State.setBytes_fresh s a _
@[simp] theorem State.setBytes_ticks (a : Nat) (l : List Nat) : (s.setBytes a l).ticks = s.ticks := by
  induction l generalizing s a with
  | nil => rfl
  | cons b t ih => exact (ih (s.setByte a _) (a + 1)).trans rfl
@[simp] theorem State.store_ticks (a n v : Nat) : (s.store a n v).ticks = s.ticks := State.setBytes_ticks s a _
@[simp] theorem State.setBytes_boot (a : Nat) (l : List Nat) : (s.setBytes a l).boot = s.boot := by
  induction l generalizing s a with
  | nil => rfl
  | cons b t ih => exact (ih (s.setByte a _) (a + 1)).trans rfl
@[simp] theorem State.store_boot (a n v : Nat) : (s.store a n v).boot = s.boot := State.setBytes_boot s a _
@[simp] theorem State.setBytes_harts (a : Nat) (l : List Nat) : (s.setBytes a l).harts = s.harts := by
  induction l generalizing s a with
  | nil => rfl
  | cons b t ih => exact (ih (s.setByte a _) (a + 1)).trans rfl
@[simp] theorem State.store_harts (a n v : Nat) : (s.store a n v).harts = s.harts := State.setBytes_harts s a _
@[simp] theorem State.setBytes_pwr (a : Nat) (l : List Nat) : (s.setBytes a l).pwr = s.pwr := by
  induction l generalizing s a with
  | nil => rfl
  | cons b t ih => exact (ih (s.setByte a _) (a + 1)).trans rfl
@[simp] theorem State.store_pwr (a n v : Nat) : (s.store a n v).pwr = s.pwr := State.setBytes_pwr s a _
@[simp] theorem State.setBytes_leng (a : Nat) (l : List Nat) : (s.setBytes a l).leng = s.leng := by
  induction l generalizing s a with
  | nil => rfl
  | cons b t ih => exact (ih (s.setByte a _) (a + 1)).trans rfl
@[simp] theorem State.store_leng (a n v : Nat) : (s.store a n v).leng = s.leng := State.setBytes_leng s a _
@[simp] theorem State.setBytes_rd (a : Nat) (l : List Nat) : (s.setBytes a l).rd = s.rd := by
  induction l generalizing s a with
  | nil => rfl
  | cons b t ih => exact (ih (s.setByte a _) (a + 1)).trans rfl
@[simp] theorem State.store_rd (a n v : Nat) : (s.store a n v).rd = s.rd := State.setBytes_rd s a _
@[simp] theorem State.setBytes_wenc (a : Nat) (l : List Nat) : (s.setBytes a l).wenc = s.wenc := by
  induction l generalizing s a with
  | nil => rfl
  | cons b t ih => exact (ih (s.setByte a _) (a + 1)).trans rfl
@[simp] theorem State.store_wenc (a n v : Nat) : (s.store a n v).wenc = s.wenc := State.setBytes_wenc s a _
@[simp] theorem State.setBytes_spn (a : Nat) (l : List Nat) : (s.setBytes a l).spn = s.spn := by
  induction l generalizing s a with
  | nil => rfl
  | cons b t ih => exact (ih (s.setByte a _) (a + 1)).trans rfl
@[simp] theorem State.store_spn (a n v : Nat) : (s.store a n v).spn = s.spn := State.setBytes_spn s a _
@[simp] theorem State.setBytes_stp (a : Nat) (l : List Nat) : (s.setBytes a l).stp = s.stp := by
  induction l generalizing s a with
  | nil => rfl
  | cons b t ih => exact (ih (s.setByte a _) (a + 1)).trans rfl
@[simp] theorem State.store_stp (a n v : Nat) : (s.store a n v).stp = s.stp := State.setBytes_stp s a _
@[simp] theorem State.setBytes_fmt (a : Nat) (l : List Nat) : (s.setBytes a l).fmt = s.fmt := by
  induction l generalizing s a with
  | nil => rfl
  | cons b t ih => exact (ih (s.setByte a _) (a + 1)).trans rfl
@[simp] theorem State.store_fmt (a n v : Nat) : (s.store a n v).fmt = s.fmt := State.setBytes_fmt s a _
@[simp] theorem State.setBytes_sv (a : Nat) (l : List Nat) : (s.setBytes a l).sv = s.sv := by
  induction l generalizing s a with
  | nil => rfl
  | cons b t ih => exact (ih (s.setByte a _) (a + 1)).trans rfl
@[simp] theorem State.store_sv (a n v : Nat) : (s.store a n v).sv = s.sv := State.setBytes_sv s a _
@[simp] theorem State.setBytes_cal (a : Nat) (l : List Nat) : (s.setBytes a l).cal = s.cal := by
  induction l generalizing s a with
  | nil => rfl
  | cons b t ih => exact (ih (s.setByte a _) (a + 1)).trans rfl
@[simp] theorem State.store_cal (a n v : Nat) : (s.store a n v).cal = s.cal := State.setBytes_cal s a _
@[simp] theorem State.setBytes_pcie (a : Nat) (l : List Nat) : (s.setBytes a l).pcie = s.pcie := by
  induction l generalizing s a with
  | nil => rfl
  | cons b t ih => exact (ih (s.setByte a _) (a + 1)).trans rfl
@[simp] theorem State.store_pcie (a n v : Nat) : (s.store a n v).pcie = s.pcie := State.setBytes_pcie s a _
@[simp] theorem State.setBytes_hq (a : Nat) (l : List Nat) : (s.setBytes a l).hq = s.hq := by
  induction l generalizing s a with
  | nil => rfl
  | cons b t ih => exact (ih (s.setByte a _) (a + 1)).trans rfl
@[simp] theorem State.store_hq (a n v : Nat) : (s.store a n v).hq = s.hq := State.setBytes_hq s a _
@[simp] theorem State.setBytes_xlt (a : Nat) (l : List Nat) : (s.setBytes a l).xlt = s.xlt := by
  induction l generalizing s a with
  | nil => rfl
  | cons b t ih => exact (ih (s.setByte a _) (a + 1)).trans rfl
@[simp] theorem State.store_xlt (a n v : Nat) : (s.store a n v).xlt = s.xlt := State.setBytes_xlt s a _
@[simp] theorem State.setBytes_ms (a : Nat) (l : List Nat) : (s.setBytes a l).ms = s.ms := by
  induction l generalizing s a with
  | nil => rfl
  | cons b t ih => exact (ih (s.setByte a _) (a + 1)).trans rfl
@[simp] theorem State.store_ms (a n v : Nat) : (s.store a n v).ms = s.ms := State.setBytes_ms s a _
@[simp] theorem State.setBytes_flash (a : Nat) (l : List Nat) : (s.setBytes a l).flash = s.flash := by
  induction l generalizing s a with
  | nil => rfl
  | cons b t ih => exact (ih (s.setByte a _) (a + 1)).trans rfl
@[simp] theorem State.store_flash (a n v : Nat) : (s.store a n v).flash = s.flash := State.setBytes_flash s a _
@[simp] theorem State.setBytes_opt (a : Nat) (l : List Nat) : (s.setBytes a l).opt = s.opt := by
  induction l generalizing s a with
  | nil => rfl
  | cons b t ih => exact (ih (s.setByte a _) (a + 1)).trans rfl
@[simp] theorem State.store_opt (a n v : Nat) : (s.store a n v).opt = s.opt := State.setBytes_opt s a _
@[simp] theorem State.setBytes_evr (a : Nat) (l : List Nat) : (s.setBytes a l).evr = s.evr := by
  induction l generalizing s a with
  | nil => rfl
  | cons b t ih => exact (ih (s.setByte a _) (a + 1)).trans rfl
@[simp] theorem State.store_evr (a n v : Nat) : (s.store a n v).evr = s.evr := State.setBytes_evr s a _
@[simp] theorem State.setBytes_sec (a : Nat) (l : List Nat) : (s.setBytes a l).sec = s.sec := by
  induction l generalizing s a with
  | nil => rfl
  | cons b t ih => exact (ih (s.setByte a _) (a + 1)).trans rfl
@[simp] theorem State.store_sec (a n v : Nat) : (s.store a n v).sec = s.sec := State.setBytes_sec s a _
@[simp] theorem State.setBytes_pending (a : Nat) (l : List Nat) : (s.setBytes a l).pending = s.pending := by
  induction l generalizing s a with
  | nil => rfl
  | cons b t ih => exact (ih (s.setByte a _) (a + 1)).trans rfl
@[simp] theorem State.store_pending (a n v : Nat) : (s.store a n v).pending = s.pending := State.setBytes_pending s a _
theorem State.setBytes_variant (a : Nat) (l : List Nat) : (s.setBytes a l).variant = s.variant := by
  induction l generalizing s a with
  | nil => rfl
  | cons b t ih => exact (ih (s.setByte a _) (a + 1)).trans rfl
theorem State.store_variant (a n v : Nat) : (s.store a n v).variant = s.variant := State.setBytes_variant s a _

end Sys2Proof.Machine
end

