-- ==== Sys2Proof/Laws/Regs.lean ====
section
/-! SUPPORT. What reading a register, a field or a bit gives after each of the shared updates. -/
namespace Sys2Proof.Machine

/-! ## Fields of words -/

theorem fieldOf_lt (x : Word) (lo w : Nat) : fieldOf x lo w < 2 ^ w := Nat.mod_lt _ (Nat.two_pow_pos w)

theorem putField_toNat (x : Word) (lo w v : Nat) (h : lo + w ≤ 32) :
    (putField x lo w v).toNat = x.toNat % 2 ^ lo + (v % 2 ^ w) * 2 ^ lo + x.toNat / 2 ^ (lo + w) * 2 ^ (lo + w) := by
  have hx : x.toNat < 2 ^ 32 := x.isLt
  have h1 : x.toNat % 2 ^ lo < 2 ^ lo := Nat.mod_lt _ (Nat.two_pow_pos lo)
  have h2 : v % 2 ^ w < 2 ^ w := Nat.mod_lt _ (Nat.two_pow_pos w)
  have h3 : x.toNat % 2 ^ lo + v % 2 ^ w * 2 ^ lo < 2 ^ (lo + w) := by
    rw [Nat.pow_add]
    calc x.toNat % 2 ^ lo + v % 2 ^ w * 2 ^ lo < 2 ^ lo + v % 2 ^ w * 2 ^ lo := by omega
      _ = (v % 2 ^ w + 1) * 2 ^ lo := by ring
      _ ≤ 2 ^ w * 2 ^ lo := Nat.mul_le_mul_right _ h2
      _ = 2 ^ lo * 2 ^ w := Nat.mul_comm _ _
  have h4 : 2 ^ 32 = 2 ^ (lo + w) * 2 ^ (32 - (lo + w)) := by rw [← Nat.pow_add]; congr 1; omega
  have h5 : x.toNat / 2 ^ (lo + w) < 2 ^ (32 - (lo + w)) := by
    rw [Nat.div_lt_iff_lt_mul (Nat.two_pow_pos _), Nat.mul_comm, ← h4]; exact hx
  have h6 : (x.toNat / 2 ^ (lo + w) + 1) * 2 ^ (lo + w) ≤ 2 ^ 32 := by
    rw [h4, Nat.mul_comm (2 ^ (lo + w))]; exact Nat.mul_le_mul_right _ h5
  unfold putField Word.ofNat
  rw [BitVec.toNat_ofNat, Nat.mod_eq_of_lt]
  rw [Nat.add_mul, Nat.one_mul] at h6
  omega

/-- A written field reads as what was written, cut to its width. -/
theorem fieldOf_putField (x : Word) (lo w v : Nat) (h : lo + w ≤ 32) :
    fieldOf (putField x lo w v) lo w = v % 2 ^ w := by
  unfold fieldOf
  rw [putField_toNat x lo w v h]
  have h1 : x.toNat % 2 ^ lo < 2 ^ lo := Nat.mod_lt _ (Nat.two_pow_pos lo)
  have : x.toNat % 2 ^ lo + v % 2 ^ w * 2 ^ lo + x.toNat / 2 ^ (lo + w) * 2 ^ (lo + w) =
      x.toNat % 2 ^ lo + 2 ^ lo * (v % 2 ^ w + x.toNat / 2 ^ (lo + w) * 2 ^ w) := by
    rw [Nat.pow_add]; ring
  rw [this, Nat.add_mul_div_left _ _ (Nat.two_pow_pos lo), Nat.div_eq_of_lt h1, Nat.zero_add,
    Nat.add_mul_mod_self_right, Nat.mod_mod]

/-- A write of a field leaves a field below it as it was. -/
theorem fieldOf_putField_below (x : Word) (lo w v lo' w' : Nat) (h : lo + w ≤ 32) (h' : lo' + w' ≤ lo) :
    fieldOf (putField x lo w v) lo' w' = fieldOf x lo' w' := by
  unfold fieldOf
  rw [putField_toNat x lo w v h]
  have e1 : 2 ^ lo = 2 ^ lo' * 2 ^ w' * 2 ^ (lo - (lo' + w')) := by rw [← Nat.pow_add, ← Nat.pow_add]; congr 1; omega
  have key : ∀ n : Nat, n / 2 ^ lo' % 2 ^ w' = n % 2 ^ lo / 2 ^ lo' % 2 ^ w' := by
    intro n
    rw [e1, Nat.mul_assoc, Nat.mod_mul_right_div_self, Nat.mod_mul_right_mod]
  rw [key, key x.toNat]
  congr 2
  rw [Nat.pow_add]
  have : x.toNat % 2 ^ lo + v % 2 ^ w * 2 ^ lo + x.toNat / (2 ^ lo * 2 ^ w) * (2 ^ lo * 2 ^ w) =
      x.toNat % 2 ^ lo + 2 ^ lo * (v % 2 ^ w + x.toNat / (2 ^ lo * 2 ^ w) * 2 ^ w) := by ring
  rw [this, Nat.add_mul_mod_self_left, Nat.mod_mod]

/-- A write of a field leaves a field above it as it was. -/
theorem fieldOf_putField_above (x : Word) (lo w v lo' w' : Nat) (h : lo + w ≤ 32) (h' : lo + w ≤ lo') :
    fieldOf (putField x lo w v) lo' w' = fieldOf x lo' w' := by
  unfold fieldOf
  rw [putField_toNat x lo w v h]
  have h1 : x.toNat % 2 ^ lo < 2 ^ lo := Nat.mod_lt _ (Nat.two_pow_pos lo)
  have h2 : v % 2 ^ w < 2 ^ w := Nat.mod_lt _ (Nat.two_pow_pos w)
  have h3 : x.toNat % 2 ^ lo + v % 2 ^ w * 2 ^ lo < 2 ^ (lo + w) := by
    rw [Nat.pow_add]
    calc x.toNat % 2 ^ lo + v % 2 ^ w * 2 ^ lo < 2 ^ lo + v % 2 ^ w * 2 ^ lo := by omega
      _ = (v % 2 ^ w + 1) * 2 ^ lo := by ring
      _ ≤ 2 ^ w * 2 ^ lo := Nat.mul_le_mul_right _ h2
      _ = 2 ^ lo * 2 ^ w := Nat.mul_comm _ _
  have e1 : 2 ^ lo' = 2 ^ (lo + w) * 2 ^ (lo' - (lo + w)) := by rw [← Nat.pow_add]; congr 1; omega
  congr 1
  rw [e1, ← Nat.div_div_eq_div_mul, ← Nat.div_div_eq_div_mul, Nat.mul_comm (x.toNat / 2 ^ (lo + w)),
    Nat.add_mul_div_left _ _ (Nat.two_pow_pos _), Nat.div_eq_of_lt h3, Nat.zero_add]

theorem fieldOf_or_bit (x y : Word) (i : Nat) :
    (fieldOf (x ||| y) i 1 == 1) = ((fieldOf x i 1 == 1) || (fieldOf y i 1 == 1)) := by
  have h : ∀ z : Word, (fieldOf z i 1 == 1) = z.toNat.testBit i := by
    intro z
    simp [fieldOf, Nat.testBit, Nat.shiftRight_eq_div_pow, Nat.one_and_eq_mod_two]
  simp [h]

/-! ## Registers -/

theorem State.regs_setReg (s : State) (a : Nat) (w : Word) :
    (s.setReg a w).regs = SMap.set (regReset s.variant) s.regs a w := rfl

/-- A record update that keeps the register file keeps every register. -/
@[simp ↓] theorem State.reg_mk (t : State) (a : Nat) (x1 x2 x3 x4 x5 x6 x7 x8 x9 x10 x11 x12 x13 x14 x15 x16 x17 x18
    x19 x20 x21 x22 x23 x24 x25 x26 x27 x28) :
    (State.mk t.variant t.regs x1 x2 x3 x4 x5 x6 x7 x8 x9 x10 x11 x12 x13 x14 x15 x16 x17 x18
      x19 x20 x21 x22 x23 x24 x25 x26 x27 x28).reg a = t.reg a := (rfl)

@[simp ↓] theorem State.fld_mk (t : State) (a lo w : Nat) (x1 x2 x3 x4 x5 x6 x7 x8 x9 x10 x11 x12 x13 x14 x15 x16 x17 x18
    x19 x20 x21 x22 x23 x24 x25 x26 x27 x28) :
    (State.mk t.variant t.regs x1 x2 x3 x4 x5 x6 x7 x8 x9 x10 x11 x12 x13 x14 x15 x16 x17 x18
      x19 x20 x21 x22 x23 x24 x25 x26 x27 x28).fld a lo w = t.fld a lo w := (rfl)

@[simp ↓] theorem State.sfld_mk (t : State) (a lo w : Nat) (x1 x2 x3 x4 x5 x6 x7 x8 x9 x10 x11 x12 x13 x14 x15 x16 x17 x18
    x19 x20 x21 x22 x23 x24 x25 x26 x27 x28) :
    (State.mk t.variant t.regs x1 x2 x3 x4 x5 x6 x7 x8 x9 x10 x11 x12 x13 x14 x15 x16 x17 x18
      x19 x20 x21 x22 x23 x24 x25 x26 x27 x28).sfld a lo w = t.sfld a lo w := (rfl)

@[simp ↓] theorem State.bit_mk (t : State) (a i : Nat) (x1 x2 x3 x4 x5 x6 x7 x8 x9 x10 x11 x12 x13 x14 x15 x16 x17 x18
    x19 x20 x21 x22 x23 x24 x25 x26 x27 x28) :
    (State.mk t.variant t.regs x1 x2 x3 x4 x5 x6 x7 x8 x9 x10 x11 x12 x13 x14 x15 x16 x17 x18
      x19 x20 x21 x22 x23 x24 x25 x26 x27 x28).bit a i = t.bit a i := (rfl)

theorem State.reg_setReg (s : State) (a b : Nat) (w : Word) : (s.setReg a w).reg b = if a = b then w else s.reg b :=
  SMap.get_set _ _ _ _ _

@[simp] theorem State.reg_setReg_same (s : State) (a : Nat) (w : Word) : (s.setReg a w).reg a = w := by
  simp [State.reg_setReg]

theorem State.reg_setReg_ne (s : State) (a b : Nat) (w : Word) (h : a ≠ b) : (s.setReg a w).reg b = s.reg b := by
  simp [State.reg_setReg, h]

theorem State.reg_setFld_same (s : State) (a lo w v : Nat) : (s.setFld a lo w v).reg a = putField (s.reg a) lo w v :=
  State.reg_setReg_same _ _ _

theorem State.reg_setFld_ne (s : State) (a b lo w v : Nat) (h : a ≠ b) : (s.setFld a lo w v).reg b = s.reg b :=
  State.reg_setReg_ne _ _ _ _ h

theorem State.reg_setSfld_ne (s : State) (a b lo w : Nat) (v : Int) (h : a ≠ b) : (s.setSfld a lo w v).reg b = s.reg b :=
  State.reg_setReg_ne _ _ _ _ h

theorem State.reg_setBit_ne (s : State) (a b i : Nat) (v : Bool) (h : a ≠ b) : (s.setBit a i v).reg b = s.reg b :=
  State.reg_setReg_ne _ _ _ _ h

theorem State.reg_addSat_ne (s : State) (a b lo w n : Nat) (h : a ≠ b) : (s.addSat a lo w n).reg b = s.reg b :=
  State.reg_setReg_ne _ _ _ _ h

theorem State.reg_addMod_ne (s : State) (a b lo w n : Nat) (h : a ≠ b) : (s.addMod a lo w n).reg b = s.reg b :=
  State.reg_setReg_ne _ _ _ _ h

@[simp] theorem State.reg_report (s : State) (p c m : Nat) (q : List Nat) (a : Nat) : (s.report p c m q).reg a = s.reg a := (rfl)
@[simp] theorem State.reg_setByte (s : State) (x : Nat) (b : Byte) (a : Nat) : (s.setByte x b).reg a = s.reg a := (rfl)
@[simp] theorem State.reg_setBytes (s : State) (x : Nat) (l : List Nat) (a : Nat) : (s.setBytes x l).reg a = s.reg a := by
  simp [State.reg, State.setBytes_regs, State.setBytes_variant]
@[simp] theorem State.reg_store (s : State) (x n v a : Nat) : (s.store x n v).reg a = s.reg a := State.reg_setBytes s x _ a

theorem State.reg_settleIrq_ne (s : State) (p b : Nat) (h : Reg.IRQ_STAT p ≠ b) : (s.settleIrq p).reg b = s.reg b :=
  State.reg_setReg_ne _ _ _ _ h

theorem State.reg_raiseMask_ne (s : State) (p k b : Nat) (h1 : Reg.IRQ_RAW p ≠ b) (h2 : Reg.IRQ_STAT p ≠ b) :
    (s.raiseMask p k).reg b = s.reg b := by
  unfold State.raiseMask
  rw [State.reg_settleIrq_ne _ _ _ h2, State.reg_setReg_ne _ _ _ _ h1]

theorem State.reg_raise_ne (s : State) (p i b : Nat) (h1 : Reg.IRQ_RAW p ≠ b) (h2 : Reg.IRQ_STAT p ≠ b) :
    (s.raise p i).reg b = s.reg b := State.reg_raiseMask_ne s p _ b h1 h2

theorem State.reg_err_ne (s : State) (p c src b : Nat) (h : Reg.ERR_INFO p ≠ b) : (s.err p c src).reg b = s.reg b := by
  unfold State.err
  by_cases hc : s.fld (Reg.ERR_INFO p) 24 8 = 0
  · rw [if_pos hc, State.reg_setReg_ne _ _ _ _ h]
  · rw [if_neg hc, State.reg_addSat_ne _ _ _ _ _ _ h]

theorem State.reg_refuse_ne (s : State) (p : Nat) (m : Master) (b : Nat) (h : Reg.ERR_INFO p ≠ b) :
    (s.refuse p m).reg b = s.reg b := State.reg_err_ne s p _ _ b h

/-- Registers that are put back read as after reset, the others as before. -/
theorem State.reg_dropRegs (s : State) (p : Nat → Bool) (a : Nat) :
    (s.dropRegs p).reg a = if p a then regReset s.variant a else s.reg a := SMap.get_drop _ _ _ _

/-! ## Fields and bits -/

theorem State.fld_setFld_same (s : State) (a lo w v : Nat) (h : lo + w ≤ 32) : (s.setFld a lo w v).fld a lo w = v % 2 ^ w := by
  unfold State.fld
  rw [State.reg_setFld_same, fieldOf_putField _ _ _ _ h]

theorem State.fld_setFld_ne (s : State) (a b lo w v lo' w' : Nat) (h : a ≠ b) :
    (s.setFld a lo w v).fld b lo' w' = s.fld b lo' w' := by
  unfold State.fld; rw [State.reg_setFld_ne _ _ _ _ _ _ h]

theorem State.fld_setFld_below (s : State) (a lo w v lo' w' : Nat) (h : lo + w ≤ 32) (h' : lo' + w' ≤ lo) :
    (s.setFld a lo w v).fld a lo' w' = s.fld a lo' w' := by
  unfold State.fld; rw [State.reg_setFld_same, fieldOf_putField_below _ _ _ _ _ _ h h']

theorem State.fld_setFld_above (s : State) (a lo w v lo' w' : Nat) (h : lo + w ≤ 32) (h' : lo + w ≤ lo') :
    (s.setFld a lo w v).fld a lo' w' = s.fld a lo' w' := by
  unfold State.fld; rw [State.reg_setFld_same, fieldOf_putField_above _ _ _ _ _ _ h h']

theorem State.bit_setBit_same (s : State) (a i : Nat) (b : Bool) (h : i < 32) : (s.setBit a i b).bit a i = b := by
  unfold State.bit State.setBit
  rw [State.fld_setFld_same _ _ _ _ _ (by omega)]
  cases b <;> rfl

theorem State.fld_setBit_below (s : State) (a i : Nat) (b : Bool) (lo w : Nat) (h : i < 32) (h' : lo + w ≤ i) :
    (s.setBit a i b).fld a lo w = s.fld a lo w := State.fld_setFld_below _ _ _ _ _ _ _ (by omega) h'

theorem State.fld_setBit_above (s : State) (a i : Nat) (b : Bool) (lo w : Nat) (h : i < lo) (h' : i < 32) :
    (s.setBit a i b).fld a lo w = s.fld a lo w := State.fld_setFld_above _ _ _ _ _ _ _ (by omega) h

theorem State.bit_setFld_below (s : State) (a lo w v i : Nat) (h : lo + w ≤ 32) (h' : i < lo) :
    (s.setFld a lo w v).bit a i = s.bit a i := by
  unfold State.bit; rw [State.fld_setFld_below _ _ _ _ _ _ _ h (by omega)]

theorem State.bit_setFld_above (s : State) (a lo w v i : Nat) (h : lo + w ≤ 32) (h' : lo + w ≤ i) :
    (s.setFld a lo w v).bit a i = s.bit a i := by
  unfold State.bit; rw [State.fld_setFld_above _ _ _ _ _ _ _ h h']

/-- A saturating counter after an addition. -/
theorem State.fld_addSat_same (s : State) (a lo w n : Nat) (h : lo + w ≤ 32) :
    (s.addSat a lo w n).fld a lo w = min (s.fld a lo w + n) (2 ^ w - 1) := by
  have hp : 0 < 2 ^ w := Nat.two_pow_pos w
  unfold State.addSat
  rw [State.fld_setFld_same _ _ _ _ _ h, Nat.mod_eq_of_lt (by omega)]

/-- The first error after a clear leaves its code, its source and a count of 1. -/
theorem State.reg_err_first (s : State) (p c src : Nat) (h : s.fld (Reg.ERR_INFO p) 24 8 = 0) :
    (s.err p c src).reg (Reg.ERR_INFO p) = Word.ofNat (c % 65536 + src % 256 * 65536 + 16777216) := by
  unfold State.err
  rw [if_pos h, State.reg_setReg_same]

/-- A later error leaves code and source and counts. -/
theorem State.err_later (s : State) (p c src : Nat) (h : s.fld (Reg.ERR_INFO p) 24 8 ≠ 0) :
    s.err p c src = s.addSat (Reg.ERR_INFO p) 24 8 1 := by
  unfold State.err
  rw [if_neg h]

/-- The code that ERR_INFO shows after an error: that of the first one since it was cleared. -/
theorem State.fld_err_code (s : State) (p c src : Nat) (hc : c < 65536) :
    (s.err p c src).fld (Reg.ERR_INFO p) 0 16 =
      if s.fld (Reg.ERR_INFO p) 24 8 = 0 then c else s.fld (Reg.ERR_INFO p) 0 16 := by
  by_cases h : s.fld (Reg.ERR_INFO p) 24 8 = 0
  · rw [if_pos h]
    unfold State.fld
    rw [State.reg_err_first s p c src h]
    unfold fieldOf Word.ofNat
    rw [BitVec.toNat_ofNat]
    have : src % 256 < 256 := Nat.mod_lt _ (by omega)
    rw [Nat.mod_eq_of_lt (by omega : c < 65536)]
    omega
  · rw [if_neg h, State.err_later s p c src h]
    exact State.fld_setFld_below _ _ _ _ _ _ _ (by omega) (by omega)

theorem State.bit_setBit_ne (s : State) (a c i j : Nat) (b : Bool) (h : a ≠ c) : (s.setBit a i b).bit c j = s.bit c j := by
  unfold State.bit State.setBit; rw [State.fld_setFld_ne _ _ _ _ _ _ _ _ h]

theorem State.bit_setBit_other (s : State) (a i j : Nat) (b : Bool) (hi : i < 32) (h : i ≠ j) :
    (s.setBit a i b).bit a j = s.bit a j := by
  unfold State.bit State.setBit
  rcases Nat.lt_or_gt_of_ne h with h | h
  · rw [State.fld_setFld_above _ _ _ _ _ _ _ (by omega) (by omega)]
  · rw [State.fld_setFld_below _ _ _ _ _ _ _ (by omega) (by omega)]

theorem State.fld_of_reg (s t : State) (a b lo w : Nat) (h : s.reg a = t.reg b) : s.fld a lo w = t.fld b lo w := by
  unfold State.fld; rw [h]

theorem State.bit_of_reg (s t : State) (a b i : Nat) (h : s.reg a = t.reg b) : s.bit a i = t.bit b i := by
  unfold State.bit; rw [State.fld_of_reg s t a b i 1 h]

/-- An event sets its bit of IRQ_RAW and no other. -/
theorem State.bit_raise (s : State) (p i j : Nat) (h : i < 32) :
    (s.raise p i).bit (Reg.IRQ_RAW p) j = (s.bit (Reg.IRQ_RAW p) j || decide (i = j)) := by
  have hne : Reg.IRQ_STAT p ≠ Reg.IRQ_RAW p := by simp only [Reg.IRQ_STAT, Reg.IRQ_RAW]; omega
  have hb : (fieldOf (Word.ofNat (2 ^ i)) j 1 == 1) = decide (i = j) := by
    unfold fieldOf Word.ofNat
    rw [BitVec.toNat_ofNat, Nat.mod_eq_of_lt (Nat.pow_lt_pow_right (by omega) h)]
    rcases Nat.lt_trichotomy i j with hij | hij | hij
    · rw [Nat.div_eq_of_lt (Nat.pow_lt_pow_right (by omega) hij)]; simp; omega
    · subst hij; simp
    · have : 2 ^ i = 2 ^ j * (2 * 2 ^ (i - j - 1)) := by rw [← Nat.pow_succ', ← Nat.pow_add]; congr 1; omega
      rw [this, Nat.mul_div_cancel_left _ (Nat.two_pow_pos j), Nat.pow_one, Nat.mul_mod_right]; simp; omega
  unfold State.raise State.raiseMask State.bit State.fld
  rw [State.reg_settleIrq_ne _ _ _ hne, State.reg_setReg_same, fieldOf_or_bit, hb]

theorem State.bit_raise_ne (s : State) (p i a j : Nat) (h1 : Reg.IRQ_RAW p ≠ a) (h2 : Reg.IRQ_STAT p ≠ a) :
    (s.raise p i).bit a j = s.bit a j := State.bit_of_reg _ _ _ _ _ (State.reg_raise_ne s p i a h1 h2)

/-! ## Choices -/

theorem State.reg_ite (c : Prop) [Decidable c] (s t : State) (a : Nat) :
    (if c then s else t).reg a = if c then s.reg a else t.reg a := by split <;> rfl
theorem State.fld_ite (c : Prop) [Decidable c] (s t : State) (a lo w : Nat) :
    (if c then s else t).fld a lo w = if c then s.fld a lo w else t.fld a lo w := by split <;> rfl
theorem State.bit_ite (c : Prop) [Decidable c] (s t : State) (a i : Nat) :
    (if c then s else t).bit a i = if c then s.bit a i else t.bit a i := by split <;> rfl
theorem State.byte_ite (c : Prop) [Decidable c] (s t : State) (a : Nat) :
    (if c then s else t).byte a = if c then s.byte a else t.byte a := by split <;> rfl

/-! ## Fields and bits of other registers -/

theorem State.fld_setReg_ne (s : State) (a : Nat) (x : Word) (b : Nat) (lo w : Nat) (h : a ≠ b) :
    (s.setReg a x).fld b lo w = s.fld b lo w := State.fld_of_reg _ _ _ _ lo w (State.reg_setReg_ne _ a b x h)
theorem State.fld_setSfld_ne (s : State) (a l n : Nat) (v : Int) (b : Nat) (lo w : Nat) (h : a ≠ b) :
    (s.setSfld a l n v).fld b lo w = s.fld b lo w := State.fld_of_reg _ _ _ _ lo w (State.reg_setSfld_ne _ a b l n v h)
theorem State.fld_setBit_ne (s : State) (a i : Nat) (v : Bool) (b : Nat) (lo w : Nat) (h : a ≠ b) :
    (s.setBit a i v).fld b lo w = s.fld b lo w := State.fld_of_reg _ _ _ _ lo w (State.reg_setBit_ne _ a b i v h)
theorem State.fld_addSat_ne (s : State) (a l n k : Nat) (b : Nat) (lo w : Nat) (h : a ≠ b) :
    (s.addSat a l n k).fld b lo w = s.fld b lo w := State.fld_of_reg _ _ _ _ lo w (State.reg_addSat_ne _ a b l n k h)
theorem State.fld_addMod_ne (s : State) (a l n k : Nat) (b : Nat) (lo w : Nat) (h : a ≠ b) :
    (s.addMod a l n k).fld b lo w = s.fld b lo w := State.fld_of_reg _ _ _ _ lo w (State.reg_addMod_ne _ a b l n k h)
theorem State.fld_settleIrq_ne (s : State) (p : Nat) (b : Nat) (lo w : Nat) (h : Reg.IRQ_STAT p ≠ b) :
    (s.settleIrq p).fld b lo w = s.fld b lo w := State.fld_of_reg _ _ _ _ lo w (State.reg_settleIrq_ne _ p b h)
theorem State.fld_raiseMask_ne (s : State) (p k : Nat) (b : Nat) (lo w : Nat) (h1 : Reg.IRQ_RAW p ≠ b) (h2 : Reg.IRQ_STAT p ≠ b) :
    (s.raiseMask p k).fld b lo w = s.fld b lo w := State.fld_of_reg _ _ _ _ lo w (State.reg_raiseMask_ne _ p k b h1 h2)
theorem State.fld_raise_ne (s : State) (p i : Nat) (b : Nat) (lo w : Nat) (h1 : Reg.IRQ_RAW p ≠ b) (h2 : Reg.IRQ_STAT p ≠ b) :
    (s.raise p i).fld b lo w = s.fld b lo w := State.fld_of_reg _ _ _ _ lo w (State.reg_raise_ne _ p i b h1 h2)
theorem State.fld_err_ne (s : State) (p c m : Nat) (b : Nat) (lo w : Nat) (h : Reg.ERR_INFO p ≠ b) :
    (s.err p c m).fld b lo w = s.fld b lo w := State.fld_of_reg _ _ _ _ lo w (State.reg_err_ne _ p c m b h)
theorem State.fld_refuse_ne (s : State) (p : Nat) (m : Master) (b : Nat) (lo w : Nat) (h : Reg.ERR_INFO p ≠ b) :
    (s.refuse p m).fld b lo w = s.fld b lo w := State.fld_of_reg _ _ _ _ lo w (State.reg_refuse_ne _ p m b h)
@[simp] theorem State.fld_report (s : State) (p c m : Nat) (q : List Nat) (b : Nat) (lo w : Nat) :
    (s.report p c m q).fld b lo w = s.fld b lo w := State.fld_of_reg _ _ _ _ lo w (State.reg_report _ p c m q b)
@[simp] theorem State.fld_setByte (s : State) (x : Nat) (v : Byte) (b : Nat) (lo w : Nat) :
    (s.setByte x v).fld b lo w = s.fld b lo w := State.fld_of_reg _ _ _ _ lo w (State.reg_setByte _ x v b)
@[simp] theorem State.fld_setBytes (s : State) (x : Nat) (l : List Nat) (b : Nat) (lo w : Nat) :
    (s.setBytes x l).fld b lo w = s.fld b lo w := State.fld_of_reg _ _ _ _ lo w (State.reg_setBytes _ x l b)
@[simp] theorem State.fld_store (s : State) (x n v : Nat) (b : Nat) (lo w : Nat) :
    (s.store x n v).fld b lo w = s.fld b lo w := State.fld_of_reg _ _ _ _ lo w (State.reg_store _ x n v b)
theorem State.sfld_setReg_ne (s : State) (a : Nat) (x : Word) (b : Nat) (lo w : Nat) (h : a ≠ b) :
    (s.setReg a x).sfld b lo w = s.sfld b lo w := congrArg (signedOf w) (State.fld_of_reg _ _ _ _ lo w (State.reg_setReg_ne _ a b x h))
theorem State.sfld_setFld_ne (s : State) (a l n v : Nat) (b : Nat) (lo w : Nat) (h : a ≠ b) :
    (s.setFld a l n v).sfld b lo w = s.sfld b lo w := congrArg (signedOf w) (State.fld_of_reg _ _ _ _ lo w (State.reg_setFld_ne _ a b l n v h))
theorem State.sfld_setSfld_ne (s : State) (a l n : Nat) (v : Int) (b : Nat) (lo w : Nat) (h : a ≠ b) :
    (s.setSfld a l n v).sfld b lo w = s.sfld b lo w := congrArg (signedOf w) (State.fld_of_reg _ _ _ _ lo w (State.reg_setSfld_ne _ a b l n v h))
theorem State.sfld_setBit_ne (s : State) (a i : Nat) (v : Bool) (b : Nat) (lo w : Nat) (h : a ≠ b) :
    (s.setBit a i v).sfld b lo w = s.sfld b lo w := congrArg (signedOf w) (State.fld_of_reg _ _ _ _ lo w (State.reg_setBit_ne _ a b i v h))
theorem State.sfld_addSat_ne (s : State) (a l n k : Nat) (b : Nat) (lo w : Nat) (h : a ≠ b) :
    (s.addSat a l n k).sfld b lo w = s.sfld b lo w := congrArg (signedOf w) (State.fld_of_reg _ _ _ _ lo w (State.reg_addSat_ne _ a b l n k h))
theorem State.sfld_addMod_ne (s : State) (a l n k : Nat) (b : Nat) (lo w : Nat) (h : a ≠ b) :
    (s.addMod a l n k).sfld b lo w = s.sfld b lo w := congrArg (signedOf w) (State.fld_of_reg _ _ _ _ lo w (State.reg_addMod_ne _ a b l n k h))
theorem State.sfld_settleIrq_ne (s : State) (p : Nat) (b : Nat) (lo w : Nat) (h : Reg.IRQ_STAT p ≠ b) :
    (s.settleIrq p).sfld b lo w = s.sfld b lo w := congrArg (signedOf w) (State.fld_of_reg _ _ _ _ lo w (State.reg_settleIrq_ne _ p b h))
theorem State.sfld_raiseMask_ne (s : State) (p k : Nat) (b : Nat) (lo w : Nat) (h1 : Reg.IRQ_RAW p ≠ b) (h2 : Reg.IRQ_STAT p ≠ b) :
    (s.raiseMask p k).sfld b lo w = s.sfld b lo w := congrArg (signedOf w) (State.fld_of_reg _ _ _ _ lo w (State.reg_raiseMask_ne _ p k b h1 h2))
theorem State.sfld_raise_ne (s : State) (p i : Nat) (b : Nat) (lo w : Nat) (h1 : Reg.IRQ_RAW p ≠ b) (h2 : Reg.IRQ_STAT p ≠ b) :
    (s.raise p i).sfld b lo w = s.sfld b lo w := congrArg (signedOf w) (State.fld_of_reg _ _ _ _ lo w (State.reg_raise_ne _ p i b h1 h2))
theorem State.sfld_err_ne (s : State) (p c m : Nat) (b : Nat) (lo w : Nat) (h : Reg.ERR_INFO p ≠ b) :
    (s.err p c m).sfld b lo w = s.sfld b lo w := congrArg (signedOf w) (State.fld_of_reg _ _ _ _ lo w (State.reg_err_ne _ p c m b h))
theorem State.sfld_refuse_ne (s : State) (p : Nat) (m : Master) (b : Nat) (lo w : Nat) (h : Reg.ERR_INFO p ≠ b) :
    (s.refuse p m).sfld b lo w = s.sfld b lo w := congrArg (signedOf w) (State.fld_of_reg _ _ _ _ lo w (State.reg_refuse_ne _ p m b h))
@[simp] theorem State.sfld_report (s : State) (p c m : Nat) (q : List Nat) (b : Nat) (lo w : Nat) :
    (s.report p c m q).sfld b lo w = s.sfld b lo w := congrArg (signedOf w) (State.fld_of_reg _ _ _ _ lo w (State.reg_report _ p c m q b))
@[simp] theorem State.sfld_setByte (s : State) (x : Nat) (v : Byte) (b : Nat) (lo w : Nat) :
    (s.setByte x v).sfld b lo w = s.sfld b lo w := congrArg (signedOf w) (State.fld_of_reg _ _ _ _ lo w (State.reg_setByte _ x v b))
@[simp] theorem State.sfld_setBytes (s : State) (x : Nat) (l : List Nat) (b : Nat) (lo w : Nat) :
    (s.setBytes x l).sfld b lo w = s.sfld b lo w := congrArg (signedOf w) (State.fld_of_reg _ _ _ _ lo w (State.reg_setBytes _ x l b))
@[simp] theorem State.sfld_store (s : State) (x n v : Nat) (b : Nat) (lo w : Nat) :
    (s.store x n v).sfld b lo w = s.sfld b lo w := congrArg (signedOf w) (State.fld_of_reg _ _ _ _ lo w (State.reg_store _ x n v b))
theorem State.bit_setReg_ne (s : State) (a : Nat) (x : Word) (b : Nat) (j : Nat) (h : a ≠ b) :
    (s.setReg a x).bit b j = s.bit b j := State.bit_of_reg _ _ _ _ j (State.reg_setReg_ne _ a b x h)
theorem State.bit_setFld_ne (s : State) (a l n v : Nat) (b : Nat) (j : Nat) (h : a ≠ b) :
    (s.setFld a l n v).bit b j = s.bit b j := State.bit_of_reg _ _ _ _ j (State.reg_setFld_ne _ a b l n v h)
theorem State.bit_setSfld_ne (s : State) (a l n : Nat) (v : Int) (b : Nat) (j : Nat) (h : a ≠ b) :
    (s.setSfld a l n v).bit b j = s.bit b j := State.bit_of_reg _ _ _ _ j (State.reg_setSfld_ne _ a b l n v h)
theorem State.bit_addSat_ne (s : State) (a l n k : Nat) (b : Nat) (j : Nat) (h : a ≠ b) :
    (s.addSat a l n k).bit b j = s.bit b j := State.bit_of_reg _ _ _ _ j (State.reg_addSat_ne _ a b l n k h)
theorem State.bit_addMod_ne (s : State) (a l n k : Nat) (b : Nat) (j : Nat) (h : a ≠ b) :
    (s.addMod a l n k).bit b j = s.bit b j := State.bit_of_reg _ _ _ _ j (State.reg_addMod_ne _ a b l n k h)
theorem State.bit_settleIrq_ne (s : State) (p : Nat) (b : Nat) (j : Nat) (h : Reg.IRQ_STAT p ≠ b) :
    (s.settleIrq p).bit b j = s.bit b j := State.bit_of_reg _ _ _ _ j (State.reg_settleIrq_ne _ p b h)
theorem State.bit_raiseMask_ne (s : State) (p k : Nat) (b : Nat) (j : Nat) (h1 : Reg.IRQ_RAW p ≠ b) (h2 : Reg.IRQ_STAT p ≠ b) :
    (s.raiseMask p k).bit b j = s.bit b j := State.bit_of_reg _ _ _ _ j (State.reg_raiseMask_ne _ p k b h1 h2)
theorem State.bit_err_ne (s : State) (p c m : Nat) (b : Nat) (j : Nat) (h : Reg.ERR_INFO p ≠ b) :
    (s.err p c m).bit b j = s.bit b j := State.bit_of_reg _ _ _ _ j (State.reg_err_ne _ p c m b h)
theorem State.bit_refuse_ne (s : State) (p : Nat) (m : Master) (b : Nat) (j : Nat) (h : Reg.ERR_INFO p ≠ b) :
    (s.refuse p m).bit b j = s.bit b j := State.bit_of_reg _ _ _ _ j (State.reg_refuse_ne _ p m b h)
@[simp] theorem State.bit_report (s : State) (p c m : Nat) (q : List Nat) (b : Nat) (j : Nat) :
    (s.report p c m q).bit b j = s.bit b j := State.bit_of_reg _ _ _ _ j (State.reg_report _ p c m q b)
@[simp] theorem State.bit_setByte (s : State) (x : Nat) (v : Byte) (b : Nat) (j : Nat) :
    (s.setByte x v).bit b j = s.bit b j := State.bit_of_reg _ _ _ _ j (State.reg_setByte _ x v b)
@[simp] theorem State.bit_setBytes (s : State) (x : Nat) (l : List Nat) (b : Nat) (j : Nat) :
    (s.setBytes x l).bit b j = s.bit b j := State.bit_of_reg _ _ _ _ j (State.reg_setBytes _ x l b)
@[simp] theorem State.bit_store (s : State) (x n v : Nat) (b : Nat) (j : Nat) :
    (s.store x n v).bit b j = s.bit b j := State.bit_of_reg _ _ _ _ j (State.reg_store _ x n v b)

/-! ## Bytes -/

theorem State.byte_setByte (s : State) (a b : Nat) (v : Byte) : (s.setByte a v).byte b = if a = b then v else s.byte b :=
  SMap.get_set _ _ _ _ _

/-- Bytes outside the range written read as before. -/
theorem State.byte_setBytes_out (s : State) (a : Nat) (l : List Nat) (b : Nat) (h : b < a ∨ a + l.length ≤ b) :
    (s.setBytes a l).byte b = s.byte b := by
  induction l generalizing s a with
  | nil => rfl
  | cons v t ih =>
    simp only [List.length_cons] at h
    show ((s.setByte a _).setBytes (a + 1) t).byte b = _
    rw [ih _ _ (by omega), State.byte_setByte, if_neg (by omega)]

end Sys2Proof.Machine
end

