-- ==== Sys2Proof/Laws/Done.lean ====
section
/-! SUPPORT. What a command leaves beyond its own effect: the queue, the part, every storage in canonical form. -/
namespace Sys2Proof.Machine

/-! ## Canonical form -/

theorem State.tidy_variant (s : State) : s.tidy.variant = s.variant := rfl
@[simp] theorem State.tidy_pending (s : State) : s.tidy.pending = s.pending := (rfl)
@[simp] theorem State.tidy_byte (s : State) (a : Nat) : s.tidy.byte a = s.byte a := SMap.get_tidy _ _ _

/-- A register that no rule hard-wires reads as before. -/
theorem State.tidy_reg (s : State) (a : Nat) (h : hardWired s.variant a = false) : s.tidy.reg a = s.reg a := by
  show SMap.get (regReset s.variant) (tidyRegs s.variant s.regs) a = _
  unfold tidyRegs
  rw [SMap.get_tidy, SMap.get_drop, if_neg (by simp [h])]
  rfl

/-- A hard-wired register reads as after reset. -/
theorem State.tidy_reg_hardWired (s : State) (a : Nat) (h : hardWired s.variant a = true) :
    s.tidy.reg a = regReset s.variant a := by
  show SMap.get (regReset s.variant) (tidyRegs s.variant s.regs) a = _
  unfold tidyRegs
  rw [SMap.get_tidy, SMap.get_drop, if_pos h]

theorem tidyRegs_unlisted (v : Variant) (m : List (Nat × Word)) : ∀ e ∈ tidyRegs v m, hardWired v e.1 = false := by
  have h := SMap.mem_drop (hardWired v) m
  unfold tidyRegs SMap.tidy
  split
  · exact h
  · exact SMap.mem_canon (regReset v) _ (hardWired v) h

/-- Bringing a state into canonical form does. -/
theorem State.tidy_wf (s : State) : s.tidy.wf = true := by
  have hr : SMap.wf (regReset s.variant) (tidyRegs s.variant s.regs) = true := SMap.wf_tidy _ _
  have hh : (tidyRegs s.variant s.regs).all (fun e => !hardWired s.variant e.1) = true := by
    rw [List.all_eq_true]
    intro e he
    simp [tidyRegs_unlisted _ _ e he]
  show (_ && _ && _ && _ && _ && _ && _) = true
  simp only [State.tidy, hr, hh, SMap.wf_tidy, Bool.and_self]

/-- A state in canonical form stays as it is. -/
theorem State.tidy_of_wf (s : State) (h : s.wf = true) : s.tidy = s := by
  unfold State.wf at h
  simp only [Bool.and_eq_true] at h
  obtain ⟨⟨⟨⟨⟨⟨h1, h2⟩, h3⟩, h4⟩, h5⟩, h6⟩, h7⟩ := h
  have h2 : ∀ q ∈ s.regs, hardWired s.variant q.1 = false := by
    intro q hq
    simpa using List.all_eq_true.mp h2 q hq
  unfold State.tidy tidyRegs
  rw [SMap.drop_eq_self _ _ h2, SMap.tidy_of_wf _ _ h1, SMap.tidy_of_wf _ _ h3, SMap.tidy_of_wf _ _ h4,
    SMap.tidy_of_wf _ _ h5, SMap.tidy_of_wf _ _ h6, SMap.tidy_of_wf _ _ h7]

/-- A write of an ordinary register keeps the canonical form. -/
theorem State.wf_setReg (s : State) (a : Nat) (w : Word) (ha : hardWired s.variant a = false) (h : s.wf = true) :
    (s.setReg a w).wf = true := by
  unfold State.wf at h ⊢
  simp only [Bool.and_eq_true] at h ⊢
  obtain ⟨⟨⟨⟨⟨⟨h1, h2⟩, h3⟩, h4⟩, h5⟩, h6⟩, h7⟩ := h
  refine ⟨⟨⟨⟨⟨⟨SMap.wf_set _ _ _ _ h1, ?_⟩, h3⟩, h4⟩, h5⟩, h6⟩, h7⟩
  rw [List.all_eq_true] at h2 ⊢
  intro q hq
  rcases SMap.mem_set _ _ _ _ q hq with hq | hq
  · rw [hq]
    show (!hardWired s.variant a) = true
    simp [ha]
  · exact h2 q hq

/-- A write of a byte keeps the canonical form. -/
theorem State.wf_setByte (s : State) (a : Nat) (b : Byte) (h : s.wf = true) : (s.setByte a b).wf = true := by
  unfold State.wf at h ⊢
  simp only [Bool.and_eq_true] at h ⊢
  obtain ⟨⟨⟨⟨⟨⟨h1, h2⟩, h3⟩, h4⟩, h5⟩, h6⟩, h7⟩ := h
  exact ⟨⟨⟨⟨⟨⟨h1, h2⟩, SMap.wf_set _ _ _ _ h3⟩, h4⟩, h5⟩, h6⟩, h7⟩

/-- Writing bytes keeps the canonical form. -/
theorem State.wf_setBytes (s : State) (a : Nat) (l : List Nat) (h : s.wf = true) : (s.setBytes a l).wf = true := by
  induction l generalizing s a with
  | nil => exact h
  | cons b t ih => exact ih _ _ (State.wf_setByte s a _ h)

/-! ## Commands -/

/-- What `done` answers with. -/
def State.settled (s t : State) : State := { t with variant := s.variant, pending := s.pending }.tidy

theorem done_eq (s t : State) : done s t = .next (s.settled t) := rfl

theorem State.settled_variant (s t : State) : (s.settled t).variant = s.variant := rfl
@[simp] theorem State.settled_pending (s t : State) : (s.settled t).pending = s.pending := (rfl)
@[simp] theorem State.settled_byte (s t : State) (a : Nat) : (s.settled t).byte a = t.byte a := SMap.get_tidy _ _ _

@[simp] theorem State.settled_rwoDone (s t : State) : (s.settled t).rwoDone = t.rwoDone := (rfl)
@[simp] theorem State.settled_roRecs (s t : State) : (s.settled t).roRecs = t.roRecs := (rfl)
@[simp] theorem State.settled_latches (s t : State) : (s.settled t).latches = t.latches := (rfl)
@[simp] theorem State.settled_resp (s t : State) : (s.settled t).resp = t.resp := (rfl)
@[simp] theorem State.settled_fresh (s t : State) : (s.settled t).fresh = t.fresh := (rfl)
@[simp] theorem State.settled_ticks (s t : State) : (s.settled t).ticks = t.ticks := (rfl)
@[simp] theorem State.settled_boot (s t : State) : (s.settled t).boot = t.boot := (rfl)
@[simp] theorem State.settled_harts (s t : State) : (s.settled t).harts = t.harts := (rfl)
@[simp] theorem State.settled_pwr (s t : State) : (s.settled t).pwr = t.pwr := (rfl)
@[simp] theorem State.settled_rd (s t : State) : (s.settled t).rd = t.rd := (rfl)
@[simp] theorem State.settled_wenc (s t : State) : (s.settled t).wenc = t.wenc := (rfl)
@[simp] theorem State.settled_spn (s t : State) : (s.settled t).spn = t.spn := (rfl)
@[simp] theorem State.settled_stp (s t : State) : (s.settled t).stp = t.stp := (rfl)
@[simp] theorem State.settled_fmt (s t : State) : (s.settled t).fmt = t.fmt := (rfl)
@[simp] theorem State.settled_sv (s t : State) : (s.settled t).sv = t.sv := (rfl)
@[simp] theorem State.settled_cal (s t : State) : (s.settled t).cal = t.cal := (rfl)
@[simp] theorem State.settled_pcie (s t : State) : (s.settled t).pcie = t.pcie := (rfl)
@[simp] theorem State.settled_hq (s t : State) : (s.settled t).hq = t.hq := (rfl)
@[simp] theorem State.settled_xlt (s t : State) : (s.settled t).xlt = t.xlt := (rfl)
@[simp] theorem State.settled_ms (s t : State) : (s.settled t).ms = t.ms := (rfl)
@[simp] theorem State.settled_evr (s t : State) : (s.settled t).evr = t.evr := (rfl)
@[simp] theorem State.settled_sec (s t : State) : (s.settled t).sec = t.sec := (rfl)
@[simp] theorem State.settled_leng (s t : State) :
    (s.settled t).leng = { t.leng with words := SMap.tidy mortWord t.leng.words } := (rfl)
@[simp] theorem State.settled_flash (s t : State) :
    (s.settled t).flash = { t.flash with words := SMap.tidy flashErased t.flash.words } := (rfl)
@[simp] theorem State.settled_opt (s t : State) :
    (s.settled t).opt = { t.opt with
      words := SMap.tidy optErased t.opt.words, shadow := SMap.tidy shadowOnes t.opt.shadow } := (rfl)

theorem State.settled_wf (s t : State) : (s.settled t).wf = true := State.tidy_wf _

/-- An ordinary register after a command is what the command's effect leaves in it. -/
theorem State.settled_reg (s t : State) (a : Nat) (hv : t.variant = s.variant) (h : hardWired s.variant a = false) :
    (s.settled t).reg a = t.reg a := by
  refine (State.tidy_reg { t with variant := s.variant, pending := s.pending } a h).trans ?_
  unfold State.reg
  rw [hv]

theorem State.settled_fld (s t : State) (a lo w : Nat) (hv : t.variant = s.variant) (h : hardWired s.variant a = false) :
    (s.settled t).fld a lo w = t.fld a lo w := State.fld_of_reg _ _ _ _ _ _ (State.settled_reg s t a hv h)

theorem State.settled_bit (s t : State) (a i : Nat) (hv : t.variant = s.variant) (h : hardWired s.variant a = false) :
    (s.settled t).bit a i = t.bit a i := State.bit_of_reg _ _ _ _ _ (State.settled_reg s t a hv h)

/-- A register whose reset value the two parts share reads after a command what the command's effect leaves in it. -/
theorem State.settled_reg_shared (s t : State) (a : Nat) (h : a % 0x1000 ≠ 0 ∧ absentOn20 a = false)
    (hr : regReset .ln7740 a = regReset .ln7720 a) : (s.settled t).reg a = t.reg a := by
  have hw : hardWired s.variant a = false := by simp [hardWired, absentPart, h.1, h.2]
  have hd : ∀ v w : Variant, regReset v a = regReset w a := by
    intro v w
    cases v <;> cases w <;> simp [hr]
  have hg : ∀ (m : List (Nat × Word)) (v w : Variant), SMap.get (regReset v) m a = SMap.get (regReset w) m a := by
    intro m v w
    induction m with
    | nil => exact hd v w
    | cons q l ih => obtain ⟨k, x⟩ := q; simp only [SMap.get, ih]
  exact (State.tidy_reg { t with variant := s.variant, pending := s.pending } a hw).trans (hg _ _ _)

/-- A register that both parts have, with one reset value, and that no rule hard-wires. -/
def plainReg (a : Nat) : Bool :=
  decide (a % 0x1000 ≠ 0) && !absentOn20 a && decide (regReset .ln7740 a = regReset .ln7720 a)

theorem State.settled_reg_plain (s t : State) (a : Nat) (h : plainReg a = true) : (s.settled t).reg a = t.reg a := by
  simp only [plainReg, Bool.and_eq_true, decide_eq_true_eq, Bool.not_eq_true'] at h
  exact State.settled_reg_shared s t a ⟨h.1.1, h.1.2⟩ h.2

theorem State.settled_fld_plain (s t : State) (a lo w : Nat) (h : plainReg a = true) :
    (s.settled t).fld a lo w = t.fld a lo w := State.fld_of_reg _ _ _ _ _ _ (State.settled_reg_plain s t a h)

theorem State.settled_bit_plain (s t : State) (a i : Nat) (h : plainReg a = true) :
    (s.settled t).bit a i = t.bit a i := State.bit_of_reg _ _ _ _ _ (State.settled_reg_plain s t a h)

/-- A register page's own register that the LN7720 has too is not hard-wired. -/
theorem hardWired_false (v : Variant) (a : Nat) (h : a % 0x1000 ≠ 0) (h2 : absentOn20 a = false) : hardWired v a = false := by
  simp [hardWired, absentPart, h, h2]

/-- Every command answers a next state with the queue and the part as they were and every storage in canonical form. -/
theorem exec_done (c : Instr) (s : State) : ∃ t, exec c s = .next (s.settled t) := by
  cases c <;> exact ⟨_, rfl⟩

/-- From a command's effect to what its next state satisfies. -/
theorem runs_of_done {c : Instr} {s : State} (x : State) {P : State → Prop} (h : exec c s = done s x)
    (hp : P (s.settled x)) : Runs c s P := ⟨_, h, hp⟩

/-- A step takes the front command and runs it. -/
theorem step_cons (s : State) (c : Instr) (l : List Instr) :
    step { s with pending := c :: l } = exec c { s with pending := l } := rfl

end Sys2Proof.Machine
end

