-- ==== Sys2Proof/Laws/Keep.lean ====
section
/-! SUPPORT. Frames by composition: what a part of the state that does not read the register file (or memory, or the
recorder) is after each shared update, for any such part. -/
namespace Sys2Proof.Machine

variable {β : Type}

/-- A view of the state that does not look at the register file. -/
def NoRegs (g : State → β) : Prop := ∀ (s : State) (r : List (Nat × Word)), g { s with regs := r } = g s

theorem keep_setReg {g : State → β} (hg : NoRegs g) {s : State} {x : β} (a : Nat) (w : Word) (h : g s = x) :
    g (s.setReg a w) = x := (hg s _).trans h
theorem keep_setFld {g : State → β} (hg : NoRegs g) {s : State} {x : β} (a lo w v : Nat) (h : g s = x) :
    g (s.setFld a lo w v) = x := (hg s _).trans h
theorem keep_setSfld {g : State → β} (hg : NoRegs g) {s : State} {x : β} (a lo w : Nat) (v : Int) (h : g s = x) :
    g (s.setSfld a lo w v) = x := (hg s _).trans h
theorem keep_setBit {g : State → β} (hg : NoRegs g) {s : State} {x : β} (a i : Nat) (b : Bool) (h : g s = x) :
    g (s.setBit a i b) = x := (hg s _).trans h
theorem keep_addSat {g : State → β} (hg : NoRegs g) {s : State} {x : β} (a lo w n : Nat) (h : g s = x) :
    g (s.addSat a lo w n) = x := (hg s _).trans h
theorem keep_addMod {g : State → β} (hg : NoRegs g) {s : State} {x : β} (a lo w n : Nat) (h : g s = x) :
    g (s.addMod a lo w n) = x := (hg s _).trans h
theorem keep_dropRegs {g : State → β} (hg : NoRegs g) {s : State} {x : β} (p : Nat → Bool) (h : g s = x) :
    g (s.dropRegs p) = x := (hg s _).trans h
theorem keep_settleIrq {g : State → β} (hg : NoRegs g) {s : State} {x : β} (p : Nat) (h : g s = x) :
    g (s.settleIrq p) = x := (hg s _).trans h
theorem keep_raiseMask {g : State → β} (hg : NoRegs g) {s : State} {x : β} (p k : Nat) (h : g s = x) :
    g (s.raiseMask p k) = x := keep_settleIrq hg p (keep_setReg hg _ _ h)
theorem keep_raise {g : State → β} (hg : NoRegs g) {s : State} {x : β} (p i : Nat) (h : g s = x) :
    g (s.raise p i) = x := keep_raiseMask hg p _ h
theorem keep_err {g : State → β} (hg : NoRegs g) {s : State} {x : β} (p c m : Nat) (h : g s = x) :
    g (s.err p c m) = x := by
  obtain ⟨a, w, he⟩ := s.err_eq p c m
  rw [he]
  exact keep_setReg hg a w h
theorem keep_refuse {g : State → β} (hg : NoRegs g) {s : State} {x : β} (p : Nat) (m : Master) (h : g s = x) :
    g (s.refuse p m) = x := keep_err hg p _ _ h

theorem keep_ite {g : State → β} {c : Prop} [Decidable c] {s t : State} {x : β} (hs : g s = x) (ht : g t = x) :
    g (if c then s else t) = x := by split <;> assumption

/-- A view that every step of a fold keeps is kept by the fold. -/
theorem keep_foldl {α : Type} {g : State → β} {f : State → α → State} (hf : ∀ s a, g (f s a) = g s) (l : List α) {s : State}
    {x : β} (h : g s = x) : g (l.foldl f s) = x := by
  induction l generalizing s with
  | nil => exact h
  | cons a t ih => exact ih ((hf s a).trans h)

end Sys2Proof.Machine
end

