-- ==== Sys2Proof/Tests/Slice0.lean ====
section
/-! SUPPORT. The model's own tests: the states that meet the hypotheses of the statements, the checks of WellFormed, and small
runs of single commands. -/
open Sys2Proof
namespace Sys2Proof.Machine

-- one kernel evaluation at a time keeps the memory of the build small
set_option Elab.async false

/-! ## States -/

/-- Start-up stands at a phase. -/
def wPhase (p : BootPhase) : State := { State.reset with boot := { State.reset.boot with phase := p } }
def wOff : State := wPhase .off
def wStarting : State := wPhase .railsStarting
def wHeld : State := wPhase .held
def wRun : State := wPhase .running
/-- Rail 1 failed and `n` restarts with it. -/
def wRailOff (n : Nat) : State := { State.reset with boot := { State.reset.boot with phase := .off, failedRail := some 1, restarts := n } }
/-- The flash scan of a reset is over. -/
def wScanned : State := { State.reset with flash := { State.reset.flash with scan := .done } }
/-- Watchdog `w` enabled in stage `n`. -/
def wDog (w n : Nat) : State := ((State.reset.setBit (Reg.WDT_CFG w) 0 true).setReg (Reg.WDT_TIME w) 0x00020001#32).setFld (Reg.WDT_STAT w) 16 2 n
/-- Page 3 has an interrupt pending, routed to hart 4 with priority 5. -/
def wIrq : State := (State.reset.setReg (Reg.IRQ_STAT 3) 1#32).setReg (Reg.IRQ_ROUTE 3) 0x510#32
/-- Lane `l` in state `n`. -/
def wLane (l n : Nat) : State := State.reset.setLstate l n
/-- No debug lock. -/
def wUnlocked : State := State.reset.setBit Reg.OPT_SEL 12 false
/-- Program 15 of one stage of type 0, enabled, its check under way. -/
def wProgGood : State :=
  let s := ((State.reset.setReg (Reg.LENG_PROG_CFG 15) 0x101#32).setReg (Reg.LENG_PROG_REG 15) 0x01FF0100#32)
  let s := (s.setMort 0x100 0xFFF#32).setMort 0x102 0x00110FFF#32
  s.setL { s.leng with check := some (.prog 15) }

/-- What a write that takes effect leaves in the register, 0 for any other. -/
def newOf (s : State) (m : Master) (a : Nat) (v : Word) : Word := match judgeWrite s m a 4 v with | .take n => n | _ => 0#32
/-- Every master may read and write page `p`. -/
def wAll (p : Nat) : State :=
  (State.reset.setReg (Reg.ACL_PAGE p) 0x7FFF7FFF#32)
/-- The first mortar window opens the whole of mortar to every master. -/
def wMortAll : State :=
  (((State.reset.setReg (Reg.ACL_MORT_BASE 0) 0x20000001#32).setReg (Reg.ACL_MORT_BASE 0 + 4) 0x20002000#32).setReg
    (Reg.ACL_MORT_BASE 0 + 8) 0x7FFF7FFF#32).setReg (Reg.ACL_MORT_BASE 0 + 12) 0x7FFF#32
/-- Trace channel `c` enabled, with the flags `f`. -/
def wTrc (c : Nat) (f : Word) : State := (State.reset.setReg (Reg.TRC_CH_CFG c) 1#32).setMort (trcHead c 3) f

/-! ## Witnesses -/
/-- Lane `l` in service in state `n`, with a lane state of its own. -/
def wRd (l n : Nat) (f : Lane → Lane) : State := let s := (State.reset.setReg Reg.DSK_LANEACT 15#32).setLstate l n; s.setLane l (f (s.lane l))
/-- Group of PSA 8 to 15, each strip as given; the state in which it is armed. -/
def wGroup1 (x : StripRead) : GroupRead :=
  { psa := 8, tag := 5, wanted := 255, patrol := false, laneLost := false, slots := [0, 1, 2, 3, 4, 5, 6, 7], released := [],
    strips := List.replicate 8 x, headers := [], rebuilt := [], again := false, saved := [], cur := [], soft := [] }
def wGroup (x : StripRead) : State := State.reset.setRd { State.reset.rd with groups := [wGroup1 x] }
/-- Samples whose decisions spell 39 bits of 0 and a sync field. -/
def wSyncRx (first : Bool) : List RawSample :=
  ((List.replicate 39 false ++ syncField first false).scanl xor false).map (fun a => ⟨0, a, 0, 2⟩)
/-- What DET holds of a lane on spiral 3 whose LLRs wait; of the four lanes of a position, all open and none used. -/
def wSoft1 (k : CwKind) : LaneSoft := { freshSoft with spiral := 3, kind := some k, due := true }
def wSoft (k : CwKind) : List LaneSoft := (List.range 4).map (fun l => { freshSoft with spiral := l, kind := some k })
/-- A codeword of slot `j`; one that core 5 decodes, its limits reached, all its LLRs 0 or none. -/
def wCw (j : Nat) (k : CwKind) : Codeword := ⟨j, k, 800 + 8 * j, 0, 3, 0, none, false, j, [], [], []⟩
def wCwOk (j : Nat) (k : CwKind) : Codeword :=
  { wCw j k with iters := 127, core := some 5, llr := List.replicate 200 (List.replicate 192 0) }
def wCwBad (j : Nat) (k : CwKind) : Codeword := { wCw j k with iters := 127, core := some 5 }
/-- A sector of kind `k` at position 5 of spiral 3 waits to be loaded, with `n` recovery codewords in the pool. -/
def wLoadable (k : CwKind) (n : Nat) : State :=
  State.reset.setRd { State.reset.rd with
    work := [⟨0, 8, 5, 225, [0, 0, 0, 0], [0, 0, 0, 0], [wSoft1 k]⟩], cws := (List.range n).map (fun j => wCw j .recovery) }
/-- Core 5 decodes a codeword. -/
def wCore (c : Codeword) : State := State.reset.setRd { State.reset.rd with cws := [c] }
/-- A strip of 64 GOOD sectors; one whose first sector failed on rung `r`. -/
def wGood : StripRead := { freshStrip with fins := List.replicate 64 (some .good) }
def wBad (r : Nat) : StripRead := { freshStrip with fins := List.replicate 9 (some .noconv) ++ List.replicate 55 (some .good), rung := r }
/-- One that a re-read has mended; one whose ladder TMAX has stopped. -/
def wMended (r : Nat) : StripRead := { wGood with rung := r, stepEras := 9 }
def wTmax (r : Nat) : StripRead := { wBad r with tmaxHit := true }
/-- Eight strip slots more than reset gives. -/
def wSlots : State := State.reset.setReg Reg.STRP_RSA_SLOTS 16#32
/-- An arm of group 8 of layer 0 in slot 0, both channels, parity ready. -/
def wArm : Arm :=
  { psa := 8, desc := 0x10000000, slot := 0, order := 1, chan := 3, test := false, rpln := 0, rst := 1, tag := 7, parity := true,
    passes := 0, off := 0, offs := [0, 1], running := false, go := false, t0 := 0, tfs := 0, step := 0, tbl := [] }
/-- The write path with these arms, channels in service, write sets loaded, bricks known. -/
def wArms (l : List Arm) : State :=
  let s := ((State.reset.setReg Reg.DSK_LANEACT 15#32).setFld Reg.WSG_CFG 1 2 3).setFld Reg.WSG_LAYERSTAT 0 12 0xFFF
  let s := (((s.setBit (Reg.WINH_ACMP_CFG 0) 0 true).setBit (Reg.WINH_ACMP_CFG 1) 0 true).setBit (Reg.WINH_ACMP_CFG 2) 0 true).setReg Reg.WENC_STG_SLOTS 2#32
  s.setW { s.wenc with arms := l, nbrick := List.replicate 12 100 }
/-- The wobble-derived position, confirmed, stands before group 1 of brick 0. -/
def wStart (l : List Arm) : State :=
  let s := (wArms l).setFld Reg.FMT_GASTAT 0 8 8
  { s with fmt := { s.fmt with pred := some ((⟨0, 0, 0, 1, 0, 0, 0⟩ : GaWord).bits) } }
/-- The same with a descriptor table of 448 GROUT entries and SRAM open. -/
def wArmReady : State :=
  let s := ((((wArms []).setReg (Reg.ACL_SRAM_BASE 0) 0x10000001#32).setReg (Reg.ACL_SRAM_BASE 0 + 4) 0x12800000#32).setReg
    (Reg.ACL_SRAM_BASE 0 + 8) 0x7FFF7FFF#32).setReg (Reg.ACL_SRAM_BASE 0 + 12) 0x7FFF#32
  let s := (((s.setReg Reg.WENC_ARM_PSA 8#32).setReg Reg.WENC_ARM_DESC 0x10000000#32).setReg Reg.WENC_ARM_CTRL 0x30#32).setReg Reg.WENC_ARM_RST 0#32
  { s with mem := (List.range 448).map (fun i => (0x10000000 + 16 * i + 5, 0x20#8)) }
/-- A loaded WSG command of `n` words from word 0 of layer 0. -/
def wLoad (n : Nat) : State :=
  ((((((wArms []).setReg (Reg.ACL_SRAM_BASE 0) 0x10000001#32).setReg (Reg.ACL_SRAM_BASE 0 + 4) 0x12800000#32).setReg
    (Reg.ACL_SRAM_BASE 0 + 8) 0x7FFF7FFF#32).setReg (Reg.ACL_SRAM_BASE 0 + 12) 0x7FFF#32).setReg Reg.WSG_LOAD_SRC 0x10000000#32).setReg
    Reg.WSG_LOAD_CTRL (Word.ofNat (n * 65536 + 38 * 256))
/-- 512 graded sectors of group 8. -/
def wGraded (a : Arm) : State :=
  let s := wArms []
  s.setW { s.wenc with verdictArms := [a], graded := List.replicate 512 ⟨9, 0, .verified, 3⟩ }
/-- The write gate is up; a strategy load under way with these words. -/
def wGate (s : State) : State := s.setW { s.wenc with gate := true }
def wBuf (s : State) (l : List Word) : State := s.setW { s.wenc with loadBuf := l, loadAt := (0, 38) }
/-- A conversion of TE, FE1, SUM1 and channel 30; these in turn. -/
def wS (te fe sum shk : Int) : ServoSample := ⟨[0, sum, 0, 0, 0, te, 0, 0, 0, fe] ++ List.replicate 20 0 ++ [shk, 0], [0, 0, 0, 0]⟩
/-- The jump sequencer in state `n` with this control word, the bridges enabled. -/
def wSeq (v : Word) (n : Nat) : State := ((State.reset.setReg Reg.ACT_CFG 15#32).setReg Reg.ACT_JMP_CTRL v).setSeq n
/-- The spindle in state `n`. -/
def wSpn (n : Nat) : State := State.reset.setFld (Reg.STAT pgSPN) 8 4 n
/-- The spindle in state `n` with a state of its own. -/
def wSpnF (n : Nat) (f : Spn → Spn) : State := (wSpn n).setSpn (f (wSpn n).spn)
/-- Group 1 with axis 0 in QUEUE mode, limits and a move described. -/
def wStp : State :=
  let s := (State.reset.setReg (Reg.STP_AX_CFG 0) 0x11#32).setReg (Reg.STP_AX_LMAX 0) 1000#32
  (((s.setReg (Reg.STP_Q_D0 1) 100#32).setReg (Reg.STP_Q_V 1) 1000#32).setReg (Reg.STP_Q_A 1) 10#32).setReg (Reg.STP_Q_CTRL 1) 0x508#32
/-- A move of group 1 that has run. -/
def wMoveRun : StepRun := ⟨moveOf wStp 1, [0, 0, 0], 100, 10, 0, 0, [], 1, 0, false⟩
/-- Group 1 running it with these moves queued. -/
def wRunning (q : List StepMove) : State := wStp.setGrp 1 ⟨q, some wMoveRun⟩
/-- A sweep of the tilt axis' base runs in a phase. -/
def wSwp (p : SweepPhase) : State :=
  let s := (((State.reset.setReg (Reg.STP_AX_CFG 1) 3#32).setReg Reg.CAL_SWP_CFG 0x00230301#32).setReg Reg.CAL_SWP_STEP 16#32).setReg Reg.CAL_SWP_CTRL (if p = .idle then 0#32 else 1#32)
  s.setCal { s.cal with phase := p, left := 2 }
/-- Word 0x300 glided by channel 9. -/
def wMg : State := State.reset.setReg (Reg.CAL_MG_CFG 9) 0x03000001#32
/-- The link is up and the host has enabled memory space and bus mastering. -/
def wLink : State :=
  let s := ((State.reset.setReg Reg.PCIE_LINK 0x24#32).setBit (Reg.STAT pgPCIE) 8 true).setFld (cfgReg 0x04) 1 2 3
  s.setBit (Reg.STAT pgPCIE) 9 true
/-- A read with tag 5 of 8 bytes for grant 1 is outstanding. -/
def wRead : State := wLink.setPcie { wLink.pcie with reads := [⟨0x1000, 8, .sqe 1, 0, some 5, [], 0, false⟩] }
/-- The function-level reset has begun. -/
def wFlr : State := wRead.setFld Reg.PCIE_FLR 0 2 1
/-- The unlock stands in a state, its verification has this result. -/
def wUnlk (n : Nat) (r : Option Nat) : State := (setUnlk wLink n).setPcie { wLink.pcie with unlk := r }
/-- The controller is enabled, with its admin queues. -/
def wReady : State :=
  let s := (((wLink.setReg aCC 0x00460001#32).setReg aCSTS 1#32).setReg (bar0 0x24) 0x000F000F#32).setReg (bar0 0x28) 0x1000#32
  let s := (s.setReg (bar0 0x30) 0x2000#32).setReg (Reg.HQ_QCFG 0) 3#32
  s.setHq { s.hq with sqs := [⟨0, 0x1000, 16, 0, 0⟩], cqs := [⟨0, 0x2000, 16, 0, true, true⟩] }
/-- An accepted entry with number 9 and command identifier 7 of queue `q`: opcode, namespace, PRP1, words 10 to 15. -/
def wCmd (q op ns : Nat) (l : List Word) : Ctx :=
  freshCtx 9 q q ([Word.ofNat (op + 7 * 65536), Word.ofNat ns, 0#32, 0#32, 0#32, 0#32, 0x8000#32, 0#32, 0#32, 0#32] ++ l ++ List.replicate (6 - l.length) 0#32)
/-- The controller holds these commands. -/
def wHold (l : List Ctx) : State := wReady.setHq { wReady.hq with ctx := l }
/-- The same context as it runs. -/
def wRunCtx (c : Ctx) (pages : List Nat) : Ctx := { c with phase := .running, pages := pages }

/-- Three entries wait in the admin submission queue. -/
def wFetch : State := let s := (wReady.setFld (Reg.HQ_SQPTR 0) 16 12 3).setBit Reg.HQ_CTRL 0 true; s.setHq { s.hq with feats := [(1, 0#32)] }
/-- The log of slot 1 holds a COMMIT. -/
def wCommitted (s : State) : State := { s with flash := { s.flash with words := [(0x7FC000 / 8, .once (recCommit 0 0))], scan := .done } }
/-- SRAM open to every master. -/
def wMem : State :=
  (((State.reset.setReg (Reg.ACL_SRAM_BASE 0) 0x10000001#32).setReg (Reg.ACL_SRAM_BASE 0 + 4) 0x12800000#32).setReg
    (Reg.ACL_SRAM_BASE 0 + 8) 0x7FFF7FFF#32).setReg (Reg.ACL_SRAM_BASE 0 + 12) 0x7FFF#32
/-- A dirty line of the first 64 bytes of SRAM in L2, which is on; L2C's range is that line. -/
def wLine : L2Line := ⟨l2Set .ln7740 0x10000000, 0, 0x10000000 / 64, true, [], 0x1122334455667788#512⟩
def wLines : State :=
  (((wMem.setReg Reg.L2C_CTRL 1#32).setReg Reg.L2C_MSTART 0x10000000#32).setReg Reg.L2C_MEND 0x1000003F#32).setMs
    { wMem.ms with l2 := [wLine] }
/-- The same with execution allowed. -/
def wMemX : State := wMem.setReg (Reg.ACL_SRAM_BASE 0 + 12) 0x7FFF7FFF#32
/-- Bank A free, open to the supervisor; a program of two words at 0x0800_2000 from SRAM is described. -/
def wFlc : State :=
  let s := (((wMem.setReg (Reg.ACL_FLASH_BASE 0) 0x08000001#32).setReg (Reg.ACL_FLASH_BASE 0 + 4) 0x08800000#32).setReg
    (Reg.ACL_FLASH_BASE 0 + 8) 0x7FFF7FFF#32).setReg (Reg.FLC_B_ADDR 0) 0x08002000#32
  let s := ((s.setReg (Reg.FLC_B_SRC 0) 0x10000000#32).setReg (Reg.FLC_B_CNT 0) 2#32).setReg (Reg.ACL_PAGE pgFLC) 0x7FFF7FFF#32
  { s with flash := { s.flash with scan := .done } }
/-- Update block 1 is authorised; its first word is to be programmed. -/
def wOpt : State :=
  let s := ((wAll pgOPT).setReg Reg.OPT_WADDR 64#32).setBit (Reg.STAT pgOPT) 9 true
  s.setOpt { s.opt with auth := some (1, 0#256) }
/-- SEC with operands of `LEN` 16 at the start of SRAM. -/
def wSec : State :=
  let s := ((wMem.setReg Reg.SEC_BUF 0x10000000#32).setReg Reg.SEC_LEN 16#32).setReg (Reg.ACL_PAGE pgSEC) 0x7FFF7FFF#32
  s
def wEvr (f : Evr → Evr) : State := (State.reset.setReg (Reg.ACL_PAGE pgEVR) 0x7FFF7FFF#32).setEvr (f State.reset.evr)
/-- A firmware record of code 0x8001 and severity 4 stands at the start of SRAM. -/
def wFwRec : State :=
  let s := (wMem.setReg (Reg.ACL_PAGE pgEVR) 0x7FFF7FFF#32).setReg Reg.EVR_WR_SRC 0x10000000#32
  (s.setBytes 0x10000000 [1, 0x80, 4, 0, 77]).setEvr { s.evr with issued := some (0, 0) }
/-- A side with a small layer 0 is mounted; its tables stand at the start of SRAM, which every master may reach. -/
def wMounted : State :=
  let s := (((wReady.setReg (Reg.ACL_SRAM_BASE 0) 0x10000001#32).setReg (Reg.ACL_SRAM_BASE 0 + 4) 0x12800000#32).setReg
    (Reg.ACL_SRAM_BASE 0 + 8) 0x7FFF7FFF#32).setReg (Reg.ACL_SRAM_BASE 0 + 12) 0x7FFF#32
  let s := (((s.setBit (Reg.STAT pgXLT) 8 true).setReg Reg.XLT_NSZE 1000#32).setReg Reg.XLT_TBL_BASE 0x10000000#32).setReg Reg.XLT_IDX_BASE 0x11000000#32
  let s := (s.setReg Reg.MEDM_BT_BASE 0x12100000#32).setW { s.wenc with nbrick := [3] }
  let s := s.setXlt { s.xlt with rw := true }
  s.setHq { s.hq with sqs := s.hq.sqs ++ [⟨1, 0x3000, 16, 0, 1⟩], cqs := s.hq.cqs ++ [⟨1, 0x4000, 16, 0, false, true⟩] }
/-- XLT frozen, these commands held. -/
def wStill (l : List Ctx) : State := let s := wMounted.setBit (Reg.CTRL pgXLT) 2 true; s.setHq { s.hq with ctx := l }
/-- XLT running with nothing to do, MEDM frozen. -/
def wResting (l : List Ctx) : State := let s := wMounted.setBit (Reg.CTRL pgMEDM) 2 true; s.setHq { s.hq with ctx := l }
/-- An I/O command of queue 1: opcode, words 10 to 15. -/
def wIo (op : Nat) (l : List Word) : Ctx := wCmd 1 op 1 l
/-- A disc information that passes R52: a VAD-RW side of twelve layers with 16 bricks, 8 of them spare. -/
def wDi : List Nat :=
  let be := fun (n v : Nat) => (List.range n).map (fun k => v / 256 ^ (n - 1 - k) % 256)
  let b := be 4 0x56524144 ++ [1, 2, 0, 12, 4, 2, 2, 0] ++ be 2 40000 ++ be 2 24000 ++ be 2 58000 ++ [0, 0] ++
    (List.replicate 12 [0, 16]).flatten ++ List.replicate 12 8 ++ be 2 1000 ++ List.replicate 450 7
  b ++ be 4 (crc32c b)
/-- Word `k` of a spiral of layer 0 that carries these bytes once. -/
def wGaWord (b : List Nat) (k : Nat) : Nat := (⟨0, 0, 0, k / 128, k % 128, 0, b.getD k 0⟩ : GaWord).bits
/-- The words of the spiral. -/
def wGaWords (b : List Nat) : List (Option Nat) := (List.range 512).map (fun k => some (wGaWord b k))
/-- What a word carries. -/
theorem wGaWord_ofBits (b : List Nat) (k : Nat) (hk : k < 512) (hb : b.getD k 0 < 256) :
    gaAuxIndex (wGaWord b k) = k ∧ (GaWord.ofBits (wGaWord b k)).aux = b.getD k 0 ∧ (GaWord.ofBits (wGaWord b k)).side = 0 := by
  simp only [gaAuxIndex, wGaWord, GaWord.bits, GaWord.ofBits]
  refine ⟨?_, ?_, ?_⟩ <;> omega
/-- The bytes are put together one after the other. -/
theorem wGaWords_put (n : Nat) (b : List Nat) (hn : n ≤ 512) (hl : b.length = n) (hb : ∀ v ∈ b, v < 256) (j : Nat) (hj : j ≤ n) :
    ((List.range j).map (wGaWord b)).foldl (fun (di : List (Option Nat)) (w : Nat) =>
      if (di.getD (gaAuxIndex w) none).isSome then di else di.set (gaAuxIndex w) (some (GaWord.ofBits w).aux))
      (List.replicate n none) = (b.take j).map some ++ List.replicate (n - j) none := by
  induction j with
  | zero => simp
  | succ j ih =>
    have hv : b.getD j 0 = b[j] := by simp [List.getD, show j < b.length by omega]
    obtain ⟨h1, h2, -⟩ := wGaWord_ofBits b j (by omega) (hv ▸ hb _ (List.getElem_mem _))
    rw [List.range_succ, List.map_append, List.foldl_append, ih (by omega)]
    simp only [List.map_cons, List.map_nil, List.foldl_cons, List.foldl_nil, h1, h2]
    have hlen : ((b.take j).map some).length = j := by simp; omega
    have hg : (((b.take j).map some ++ List.replicate (n - j) none).getD j none).isSome = false := by
      rw [List.getD, List.getElem?_append_right (by omega), hlen, Nat.sub_self]
      cases n - j <;> simp [List.replicate_succ]
    rw [if_neg (by rw [hg]; decide), List.set_append_right _ _ (by omega), hlen, Nat.sub_self,
      show n - j = (n - (j + 1)) + 1 by omega, List.replicate_succ, List.set_cons_zero, hv, List.take_succ_eq_append_getElem (by omega),
      List.map_append, List.append_assoc]
    rfl
/-- They are a copy of these bytes. -/
theorem wGaWords_copy (b : List Nat) (hl : b.length = 512) (hb : ∀ v ∈ b, v < 256) : diCopy (wGaWords b) = some (b, 0) := by
  have hv : b.getD 0 0 = b[0] := by simp [List.getD, show 0 < b.length by omega]
  have h0 := (wGaWord_ofBits b 0 (by omega) (hv ▸ hb _ (List.getElem_mem _))).2.2
  have e : (wGaWords b).filterMap id = (List.range 512).map (wGaWord b) := by
    rw [wGaWords, List.filterMap_map, ← List.filterMap_eq_map]; rfl
  have h := wGaWords_put 512 b (by omega) hl hb 512 (by omega)
  have hd : ((List.range 512).map (wGaWord b)).headD 0 = wGaWord b 0 := by
    rw [List.headD_eq_head?_getD, List.head?_map, List.head?_range]; rfl
  rw [List.take_of_length_le (Nat.le_of_eq hl), Nat.sub_self, List.replicate_zero, List.append_nil] at h
  unfold diCopy
  simp only [e, h, hd, h0]
  simp
/-- The copies that a spiral of them gives. -/
theorem wGaWords_copies (b : List Nat) (hl : b.length = 512) (hb : ∀ v ∈ b, v < 256) : diCopies (wGaWords b) = [(b, 0), (b, 0)] := by
  have h : (wGaWords b).length = 512 := by simp [wGaWords]
  have n : diCopy [] = none := by decide +kernel
  rw [diCopies, List.take_of_length_le (by omega), List.drop_of_length_le (by omega), List.take_nil,
    List.take_of_length_le (l := wGaWords b) (i := 1024) (by omega)]
  simp [wGaWords_copy b hl hb, n]
/-- What the search over them ends with. -/
theorem wFind (b : List Nat) (hl : b.length = 512) (hb : ∀ v ∈ b, v < 256) :
    findDi [(0, 0, wGaWords b)] = if diOk b 0 then .accepted b else .refused b := by
  have e : (List.range 12) = [0, 1, 2, 3, 4, 5, 6, 7, 8, 9, 10, 11] := by decide
  unfold findDi
  rw [e]
  cases h : diOk b 0 <;> simp [wGaWords_copies b hl hb, h]
/-- The words of a spiral of layer 0 that carry it once. -/
def wDiWords : List (Nat × Nat × List (Option Nat)) :=
  [(0, 0, wGaWords wDi)]
/-- XLT frozen, the two metadata bricks known, something committed. -/
def wCkpt : State :=
  let s := (((wStill []).setReg (Reg.ACL_PAGE pgXLT) 0x7FFF7FFF#32).setReg (Reg.ACL_PAGE pgMEDM) 0x7FFF7FFF#32).setW { wMounted.wenc with nbrick := [4] }
  let s := s.setXlt { s.xlt with dirty := true }
  (s.setByte 0x12100022 9#8).setByte 0x12100032 9#8
/-- XLT running, the two metadata bricks known. -/
def wBack (l : List Ctx) : State :=
  let s := (wResting l).setW { wMounted.wenc with nbrick := [4] }
  (s.setByte 0x12100022 9#8).setByte 0x12100032 9#8
/-- XLT running on a layer of forty bricks, all FREE, with staging slots. -/
def wRoom (l : List Ctx) : State := ((wResting l).setW { wMounted.wenc with nbrick := [40] }).setReg Reg.WENC_STG_SLOTS 4#32
/-- The same words with a wrong byte in the disc information. -/
def wDiBad : List (Nat × Nat × List (Option Nat)) :=
  [(0, 0, wGaWords (wDi.set 3 0))]
/-- An extent of 8 blocks from block 0 on, in the one leaf of the table. -/
def wExt : Ext := ⟨0, 8, 0x4000, 0, 1, 0, 1⟩
def wLookup : State :=
  let s := ((wMounted.setReg (Reg.ACL_PAGE pgXLT) 0x7FFF7FFF#32).setReg Reg.XLT_LEAF 1#32).setBytes 0x11000000 ((⟨0, 0, 1⟩ : IdxEnt).bytes)
  s.setBytes 0x10000000 (([wExt] ++ List.replicate 15 freeExt).flatMap (fun e => bytesLE 16 e.word))

/-! ## Parts of witnesses -/

/-- A list of entries that all hold `v`, read at a key. -/
theorem wGet_const {β : Type} (d : Nat → β) (v : β) (a : Nat) (l : List (Nat × β)) (h : ∀ p ∈ l, p.2 = v) :
    SMap.get d l a = if a ∈ l.map Prod.fst then v else d a := by
  induction l with
  | nil => rfl
  | cons p t ih =>
    obtain ⟨k, w⟩ := p
    have hw : w = v := h _ (List.mem_cons_self ..)
    have ih := ih (fun p hp => h p (List.mem_cons_of_mem _ hp))
    by_cases hk : k = a
    · simp [SMap.get, hk, hw]
    · have e : a ∈ List.map Prod.fst ((k, w) :: t) ↔ a ∈ List.map Prod.fst t := by
        simp only [List.map_cons, List.mem_cons, Ne.symm hk, false_or]
      rw [SMap.get, if_neg hk, ih]
      exact if_congr e.symm rfl rfl
/-- The bytes of the descriptor table in memory. -/
theorem wArmReady_byte (j : Nat) (h : j < 7168) :
    (wArmReady.byte (0x10000000 + j)).toNat = if j % 16 = 5 then 0x20 else 0 := by
  have e : wArmReady.mem = (List.range 448).map (fun i => (0x10000000 + 16 * i + 5, 0x20#8)) := rfl
  rw [State.byte, e, wGet_const _ 0x20#8 _ _ (by simp)]
  have : (0x10000000 + j ∈ ((List.range 448).map (fun i => (0x10000000 + 16 * i + 5, 0x20#8))).map Prod.fst) ↔ j % 16 = 5 := by
    simp only [List.map_map, List.mem_map, List.mem_range, Function.comp]
    exact ⟨fun ⟨i, h1, h2⟩ => by omega, fun h1 => ⟨j / 16, by omega, by omega⟩⟩
  by_cases h5 : j % 16 = 5
  · rw [if_pos (this.2 h5), if_pos h5]; rfl
  · rw [if_neg (fun x => h5 (this.1 x)), if_neg h5]; rfl
/-- Reading sound words changes nothing. -/
theorem wReadWords (m : Master) (l : List Nat) (s : State) (h1 : ∀ w, macroFailed s w = false) (h2 : s.ms.ueWords = [])
    (h3 : s.ms.ceWords = []) : readWords m l s = (false, s) := by
  induction l with
  | nil => rfl
  | cons w t ih => simp [readWords, readWord, h1, isUe, h2, h3, ih]
/-- No macro of it has failed. -/
theorem wArmReady_macro (a : Nat) : macroFailed wArmReady a = false := by
  have : wArmReady.reg Reg.MEMC_MACFAIL = 0#32 := by decide +kernel
  simp [macroFailed, State.bit, State.fld, fieldOf, this]
/-- 448 GROUT entries. -/
def wTbl : List Nat := (List.range 7168).map (fun j => if j % 16 = 5 then 0x20 else 0)
/-- A granted read of sound memory gives its bytes. -/
theorem wMemRead (s : State) (m : Master) (a n : Nat) (h : sramGrants s m a .read = true) (h1 : ∀ w, macroFailed s w = false)
    (h2 : s.ms.ueWords = []) (h3 : s.ms.ceWords = []) :
    (memRead s m a n).1 = (List.range n).map (fun i => (s.byte (a + i)).toNat) := by
  unfold memRead
  rw [h, wReadWords m _ _ h1 h2 h3]
  simp [returnedByte, h1, ueMask, h2]
/-- The table a master reads. -/
theorem wArmReady_table (m : Master) (h : sramGrants wArmReady m 0x10000000 .read = true) :
    (memRead wArmReady m 0x10000000 7168).1 = wTbl := by
  rw [wMemRead _ _ _ _ h wArmReady_macro (by decide +kernel) (by decide +kernel)]
  exact List.map_congr_left fun j hj => wArmReady_byte j (List.mem_range.1 hj)
/-- Every entry of the table passes. -/
theorem wTbl_entry (k : Nat) (h : k < 448) : entryOk false (descEntry wTbl (k / 56) (k % 56)) = true := by
  have e : (wTbl.drop ((56 * (k / 56) + k % 56) * 16)).take 16 = (List.range 16).map (fun j => if j = 5 then 0x20 else 0) := by
    rw [Nat.div_add_mod]
    apply List.ext_getElem
    · simp [wTbl]; omega
    · intro i h1 h2
      simp at h2
      simp [wTbl]
      have : (k * 16 + i) % 16 = i := by omega
      by_cases h5 : i = 5 <;> (simp [h5]; try omega)
  rw [descEntry, e]
  decide
/-- An arm whose other conditions hold is not refused. -/
theorem wArmReady_ok (a : Arm) (h : a.desc = 0x10000000) (ht : a.test = false) (hp : sramGrants wArmReady .cdma 0x10000000 .read = true)
    (hr : (a.psa % 8 == 0 && decide (psaLayer a.psa ≤ 11) && decide (psaBrick a.psa < wArmReady.wenc.nbrick.getD (psaLayer a.psa) 0) &&
  decide (a.slot < wArmReady.fld Reg.WENC_STG_SLOTS 0 3) && !wArmReady.wenc.arms.any (fun b => b.slot == a.slot) &&
  a.chan != 0 && (armChans a).all (chanInService wArmReady) && wArmReady.bit Reg.WSG_LAYERSTAT (psaLayer a.psa) &&
  wArmReady.bit (Reg.WINH_ACMP_CFG 2) 0 && (armChans a).all (fun c => wArmReady.bit (Reg.WINH_ACMP_CFG c) 0) &&
  decide (wArmReady.wenc.arms.length < 2) && !wArmReady.bit Reg.CAL_RUN 6) = true) :
    armOk wArmReady a (memRead wArmReady .cdma a.desc 7168).1 = true := by
  rw [h, wArmReady_table _ hp]
  have e : (List.range 448).all (fun i => entryOk false (descEntry wTbl (i / 56) (i % 56))) = true := by
    exact List.all_eq_true.2 fun k hk => wTbl_entry k (List.mem_range.1 hk)
  simp only [Bool.and_eq_true] at hr
  simp only [armOk, ht, e, hr, Bool.and_true, Bool.not_false, Bool.true_or]
/-- What Identify Controller shows depends on these parts of the state alone. -/
theorem identifyController_eq (s t : State) (h1 : t.fld Reg.PCIE_IDS 0 16 = s.fld Reg.PCIE_IDS 0 16) (h2 : t.shadow 1 = s.shadow 1)
    (h3 : t.variant = s.variant) (h4 : t.sec.fwrev = s.sec.fwrev) : identifyController t = identifyController s := by
  unfold identifyController
  rw [h1, h2, h3, h4]
/-- The Identify command of the witness answers the controller data structure. -/
theorem wIdentify : identify ((wHold [wCmd 0 6 0 [1#32]] : State).taken (wCmd 0 6 0 [1#32] : Ctx)) (wRunCtx (wCmd 0 6 0 [1#32]) [0x8000] : Ctx) = .ok (identifyController (wHold [wCmd 0 6 0 [1#32]]) : List Nat) := by
  have h : (wRunCtx (wCmd 0 6 0 [1#32]) [0x8000]).f 10 0 8 = 1 := by decide +kernel
  unfold identify
  rw [h, identifyController_eq (wHold [wCmd 0 6 0 [1#32]]) _ (by decide +kernel) (by decide +kernel) (by decide +kernel) (by decide +kernel)]
  rfl
/-- The bits of zero bytes. -/
theorem wZeroBits (n : Nat) : byteBits (List.replicate n 0) = List.replicate (8 * n) false := by
  induction n with
  | zero => rfl
  | succ n ih =>
    rw [List.replicate_succ, show 8 * (n + 1) = 8 + 8 * n by omega, ← List.replicate_append_replicate, ← ih]; rfl
/-- Pieces of a list of one value, with more room than they need. -/
theorem wChunks_more {α : Type} (x : α) (k f e : Nat) (h : 0 < k) : chunks k (f + e) (List.replicate (k * f) x) = List.replicate f (List.replicate k x) := by
  induction f with
  | zero => cases e <;> simp [chunks]
  | succ f ih =>
    have e2 : k * (f + 1) = k + k * f := by rw [Nat.mul_succ, Nat.add_comm]
    have n : (List.replicate (k * (f + 1)) x).isEmpty = false := by simp [e2]; omega
    rw [show f + 1 + e = f + e + 1 by omega, chunks, n, if_neg (by simp), e2]
    simp [List.take_replicate, List.drop_replicate, List.replicate_succ, ih]
/-- Pieces of a list of one value. -/
theorem wChunks {α : Type} (x : α) (k f : Nat) (h : 0 < k) : chunks k f (List.replicate (k * f) x) = List.replicate f (List.replicate k x) :=
  wChunks_more x k f 0 h
/-- The word of 4,800 zero bytes is a codeword. -/
theorem wZeroWord : ldpcOk (byteBits (List.replicate 4800 0)) = true := by
  rw [wZeroBits, ldpcOk, show 8 * 4800 = 192 * 200 by rfl, wChunks _ _ _ (by decide), List.map_replicate]
  decide +kernel
/-- A codeword is judged. -/
theorem wJudged (b : List Nat) (p i : Nat) (h : ldpcOk (byteBits b) = true) :
    judgeSector b p i = some ((judgeSector b p i).getD .noconv) := by
  unfold judgeSector
  rw [h]
  simp only []
  split_ifs <;> simp_all
/-- Without messages nothing is added to the LLRs. -/
theorem wPost_zero (n : Nat) : postOf (List.replicate n (List.replicate 192 0)) [] = List.replicate n (List.replicate 192 0) := by
  have e : ∀ (l : List Nat) (p : List (List Int)), l.foldl (fun p r => ((rowBlocks r).zip (([] : List (List (List Int))).getD r [])).foldl (fun p x =>
      p.set x.1.1 (List.zipWith (· + ·) (p.getD x.1.1 []) (rotSeg (192 - x.1.2) x.2))) p) p = p := by
    intro l p; simp
  rw [postOf, e, List.map_replicate, List.map_replicate, show satMag 127 0 = 0 by decide]
/-- Without messages an iteration changes nothing. -/
theorem wIterate (norm : Nat) (p : List (List Int)) : iterateOnce norm (p, []) = (p, []) := by
  have e : ∀ l : List Nat, l.foldl (fun (q : List (List Int) × List (List (List Int))) r => ((layerStep norm r q.1 (q.2.getD r [])).1, q.2.set r (layerStep norm r q.1 (q.2.getD r [])).2)) (p, []) = (p, []) := by
    intro l; induction l with
    | nil => rfl
    | cons r l ih =>
      have h : (layerStep norm r p []).1 = p := by simp [layerStep]
      simpa [h] using ih
  exact e _
/-- So do several. -/
theorem wIters (norm : Nat) (p : List (List Int)) (n : Nat) : ∀ u, (decodeIters norm n (p, []) u).1.1 = p := by
  induction n with
  | zero => intro u; rfl
  | succ n ih =>
    intro u
    rw [decodeIters, wIterate]
    dsimp only
    split
    · rfl
    · exact ih _
/-- Zero posteriors are zero bits. -/
theorem wHard (n m : Nat) : hardBits (List.replicate n (List.replicate m 0)) = List.replicate (n * m) false := by simp [hardBits]
/-- Zero LLRs decode to the zero word. -/
theorem wZeroRun (s : State) (c : Codeword) (h : c.msgs = []) (h2 : c.llr = List.replicate 200 (List.replicate 192 0)) :
    bitsToBytes (hardBits (setRun s c).1.1) = List.replicate 4800 0 := by
  rw [setRun, h, h2, wPost_zero, wIters, wHard, bitsToBytes, List.length_replicate]
  have e := wChunks_more false 8 4800 33600 (by decide)
  rw [show 200 * 192 = 8 * 4800 by rfl, show (8 * 4800 : Nat) = 4800 + 33600 by rfl] at *
  rw [e, List.map_replicate]
  rfl
/-- A codeword of zero LLRs is judged. -/
theorem wJudgedRun (s : State) (c : Codeword) (h : c.msgs = []) (h2 : c.llr = List.replicate 200 (List.replicate 192 0)) :
    setJudged s c = some ((setJudged s c).getD .noconv) := by
  unfold setJudged
  rw [wZeroRun s c h h2]
  exact wJudged _ _ _ wZeroWord
set_option maxRecDepth 100000 in
/-- The search accepts the disc information of the witnesses. -/
theorem wFind_wDi : findDi wDiWords = .accepted wDi := by
  have h : diOk wDi 0 = true := by decide +kernel
  rw [wDiWords, wFind wDi (by decide +kernel) (by decide +kernel), h]; rfl
set_option maxRecDepth 100000 in
/-- The search refuses the one with a byte changed. -/
theorem wFind_wDiBad : findDi wDiBad = .refused (wDi.set 3 0) := by
  have h : diOk (wDi.set 3 0) 0 = false := by decide +kernel
  rw [wDiBad, wFind (wDi.set 3 0) (by decide +kernel) (by decide +kernel), h]; rfl

/-- The hypotheses of Obligations.EmptyQueueIdles can be met, clause by clause. -/
theorem witness_EmptyQueueIdles :
    State.reset.pending = [] := by
  decide +kernel

/-- The hypotheses of Obligations.SupplyEventsMoveStartUp can be met, clause by clause. -/
theorem witness_SupplyEventsMoveStartUp :
    ((wOff : State).boot.phase = .off ∧ (wOff : State).boot.restarts = 0 ∧ (wOff : State).boot.failedRail = none) ∧
    ((wStarting : State).boot.phase = .railsStarting) ∧
    ((State.reset : State).boot.phase ≠ .off) ∧
    ((wRailOff 2 : State).boot.phase = .off ∧ (wRailOff 2 : State).boot.failedRail ≠ none ∧ (wRailOff 2 : State).boot.restarts < 3) ∧
    ((wRailOff 3 : State).boot.phase = .off ∧ 3 ≤ (wRailOff 3 : State).boot.restarts) ∧
    ((State.reset : State).boot.phase ≠ .off ∧ (State.reset : State).boot.phase ≠ .railsStarting) ∧
    ((State.reset : State).boot.phase ≠ .off ∧ (State.reset : State).boot.phase ≠ .railsStarting) ∧
    (((State.reset.setBit Reg.PWR_RAIL 0 true).setBit Reg.PWR_RAIL 12 false : State).bit Reg.PWR_RAIL 0 = true ∧ ((State.reset.setBit Reg.PWR_RAIL 0 true).setBit Reg.PWR_RAIL 12 false : State).bit Reg.PWR_RAIL 12 = false) := by
  refine ⟨?_, ?_, ?_, ?_, ?_, ?_, ?_, ?_⟩ <;> decide +kernel

/-- The hypotheses of Obligations.ResetsReleaseBootAndRestart can be met, clause by clause. -/
theorem witness_ResetsReleaseBootAndRestart :
    ((wHeld : State).boot.phase = .held) ∧
    ((wScanned : State).flash.scan = .done ∧ (wScanned : State).boot.phase = .released ∧ (wScanned : State).boot.warm = false ∧ (wScanned : State).boot.heldCause5 = false) ∧
    (((wRun : State).boot.phase = .running ∨ (wRun : State).boot.phase = .recovery) ∧ (wRun : State).boot.warm = false) ∧
    (((wRun : State).boot.phase = .running ∨ (wRun : State).boot.phase = .recovery) ∧ (wRun : State).boot.warm = false) ∧
    (((wRun : State).boot.phase = .running ∨ (wRun : State).boot.phase = .recovery) ∧ (wRun : State).boot.warm = false ∧ Takes (wRun : State) .sup Reg.WDT_WRST (1 : Word) (0 : Word) ∧ fieldOf (1 : Word) 0 1 = 1) ∧
    (({ State.reset.setFld Reg.WDT_RST 16 8 3 with ticks := 96000000 } : State).boot.warmAt + 60 * ticksPerSecond ≤ ({ State.reset.setFld Reg.WDT_RST 16 8 3 with ticks := 96000000 } : State).ticks) ∧
    (({ State.reset.setFld Reg.WDT_RST 16 8 3 with ticks := 95999999 } : State).ticks < ({ State.reset.setFld Reg.WDT_RST 16 8 3 with ticks := 95999999 } : State).boot.warmAt + 60 * ticksPerSecond) := by
  refine ⟨?_, ?_, ?_, ?_, ?_, ?_, ?_⟩ <;> decide +kernel

/-- The hypotheses of Obligations.WatchdogsCountKickAndIsolate can be met, clause by clause. -/
theorem witness_WatchdogsCountKickAndIsolate :
    ((.sup : Master).id < 5 ∧ Takes (wDog 4 1 : State) (.sup : Master) (Reg.WDT_KICK (.sup : Master).id) 0xA5C3#32 (0 : Word) ∧ (wdtStage (wDog 4 1 : State) (.sup : Master).id = 1 ∨ wdtStage (wDog 4 1 : State) (.sup : Master).id = 2)) ∧
    ((.sup : Master).id < 5 ∧ Takes (wDog 4 0 : State) (.sup : Master) (Reg.WDT_KICK (.sup : Master).id) 0xA5C3#32 (0 : Word) ∧ wdtStage (wDog 4 0 : State) (.sup : Master).id ≠ 1 ∧ wdtStage (wDog 4 0 : State) (.sup : Master).id ≠ 2) ∧
    ((.sup : Master).id < 5 ∧ Takes (wDog 4 1 : State) (.sup : Master) (Reg.WDT_KICK (.sup : Master).id) (0xFFFFFFFF : Word) (0 : Word) ∧ (0xFFFFFFFF : Word) ≠ 0xA5C3#32) ∧
    ((3 : Nat) < 5 ∧ (.sup : Master).id ≠ (3 : Nat) ∧ Takes (wDog 3 1 : State) (.sup : Master) (Reg.WDT_KICK (3 : Nat)) (0xA5C3 : Word) (0 : Word)) ∧
    ((4 : Nat) < 5 ∧ (wDog 4 1 : State).frozen 0x23 = false ∧ wdtStage (wDog 4 1 : State) (4 : Nat) = 1 ∧ wdtPaused (wDog 4 1 : State) (4 : Nat) = false ∧ wdtCount (wDog 4 1 : State) (4 : Nat) = 0) ∧
    (((wDog 4 1).setFld (Reg.WDT_STAT 4) 0 16 1 : State).wf = true ∧ (4 : Nat) < 5 ∧ (((wDog 4 1).setFld (Reg.WDT_STAT 4) 0 16 1 : State).frozen 0x23 = true ∨ wdtStage ((wDog 4 1).setFld (Reg.WDT_STAT 4) 0 16 1 : State) (4 : Nat) ≠ 1 ∨ wdtPaused ((wDog 4 1).setFld (Reg.WDT_STAT 4) 0 16 1 : State) (4 : Nat) = true ∨ wdtCount ((wDog 4 1).setFld (Reg.WDT_STAT 4) 0 16 1 : State) (4 : Nat) ≠ 0)) ∧
    ((3 : Nat) < 4 ∧ (wDog 3 2 : State).harts.length = 5 ∧ (wDog 3 2 : State).frozen 0x23 = false ∧ wdtStage (wDog 3 2 : State) (3 : Nat) = 2 ∧ wdtPaused (wDog 3 2 : State) (3 : Nat) = false ∧ wdtCount (wDog 3 2 : State) (3 : Nat) = 0) ∧
    (({ wDog 4 2 with boot := wRun.boot } : State).frozen 0x23 = false ∧ wdtStage ({ wDog 4 2 with boot := wRun.boot } : State) 4 = 2 ∧ wdtPaused ({ wDog 4 2 with boot := wRun.boot } : State) 4 = false ∧ wdtCount ({ wDog 4 2 with boot := wRun.boot } : State) 4 = 0 ∧ ({ wDog 4 2 with boot := wRun.boot } : State).boot.phase = .running ∧ ({ wDog 4 2 with boot := wRun.boot } : State).boot.warm = false) ∧
    (((wDog 4 2).setFld (Reg.WDT_STAT 4) 0 16 1 : State).wf = true ∧ (4 : Nat) < 5 ∧ (((wDog 4 2).setFld (Reg.WDT_STAT 4) 0 16 1 : State).frozen 0x23 = true ∨ wdtStage ((wDog 4 2).setFld (Reg.WDT_STAT 4) 0 16 1 : State) (4 : Nat) ≠ 2 ∨ wdtPaused ((wDog 4 2).setFld (Reg.WDT_STAT 4) 0 16 1 : State) (4 : Nat) = true ∨ wdtCount ((wDog 4 2).setFld (Reg.WDT_STAT 4) 0 16 1 : State) (4 : Nat) ≠ 0)) ∧
    (((((wDog 3 3).setFld Reg.WDT_ISO 0 4 9).setReg Reg.WDT_REJOINPC 0x10000100#32) : State).harts.length = 5 ∧ Takes ((((wDog 3 3).setFld Reg.WDT_ISO 0 4 9).setReg Reg.WDT_REJOINPC 0x10000100#32) : State) .sup Reg.WDT_REJOIN (9 : Word) (0 : Word) ∧ (∀ k ∈ rejoinCores (9 : Word), isolated ((((wDog 3 3).setFld Reg.WDT_ISO 0 4 9).setReg Reg.WDT_REJOINPC 0x10000100#32) : State) k = true) ∧ (3 : Nat) ∈ rejoinCores (9 : Word)) ∧
    (Takes (State.reset.setFld Reg.WDT_ISO 0 4 1 : State) (.sup : Master) Reg.WDT_REJOIN (9 : Word) (0 : Word) ∧ ((.sup : Master) ≠ .sup ∨ ∃ k ∈ rejoinCores (9 : Word), isolated (State.reset.setFld Reg.WDT_ISO 0 4 1 : State) k = false)) := by
  refine ⟨?_, ?_, ?_, ?_, ?_, ?_, ?_, ?_, ?_, ?_, ?_⟩ <;> decide +kernel

/-- The hypotheses of Obligations.InterruptsAreClaimedAndCompleted can be met, clause by clause. -/
theorem witness_InterruptsAreClaimedAndCompleted :
    (pageGrants (wIrq : State) (.sup : Master) 0x24 .read = true ∧ (4 : Nat) < (wIrq : State).harts.length ∧ (4 : Nat) < 5 ∧ (3 : Nat) < 0x29 ∧ sourceFree (wIrq : State) (4 : Nat) (3 : Nat) = true ∧ routedTo (wIrq : State) (4 : Nat) (3 : Nat) = true ∧ irqPrio (wIrq : State) (3 : Nat) ≠ 0 ∧ ∀ q ∈ List.range 0x29, sourceFree (wIrq : State) (4 : Nat) q = true → routedTo (wIrq : State) (4 : Nat) q = true → irqPrio (wIrq : State) q < irqPrio (wIrq : State) (3 : Nat) ∨ irqPrio (wIrq : State) q = irqPrio (wIrq : State) (3 : Nat) ∧ (3 : Nat) ≤ q) ∧
    (pageGrants (State.reset : State) (.sup : Master) 0x24 .read = true ∧ (4 : Nat) < 5 ∧ ∀ q ∈ List.range 0x29, sourceFree (State.reset : State) (4 : Nat) q = true → routedTo (State.reset : State) (4 : Nat) q = true → irqPrio (State.reset : State) q = 0) ∧
    ((4 : Nat) < (State.reset.updHart 4 (fun x => { x with claimed := [0, 7] }) : State).harts.length ∧ (4 : Nat) < 5 ∧ Takes (State.reset.updHart 4 (fun x => { x with claimed := [0, 7] }) : State) (.sup : Master) (Reg.IRQ_CLAIM (4 : Nat)) (1 : Word) (1 : Word) ∧ fieldOf (1 : Word) 0 6 = (0 : Nat) + 1) ∧
    ((4 : Nat) < (State.reset : State).harts.length ∧ (4 : Nat) < 5 ∧ Takes (State.reset : State) (.sup : Master) (Reg.SYS_MTIMECMP_HI (4 : Nat)) (5 : Word) (5 : Word)) ∧
    ((4 : Nat) < (State.reset.updHart 4 (fun x => { x with mtimecmp := 15 }) : State).harts.length ∧ ((State.reset.updHart 4 (fun x => { x with mtimecmp := 15 }) : State).hart (4 : Nat)).mtimecmp ≤ ((State.reset.updHart 4 (fun x => { x with mtimecmp := 15 }) : State).ticks + 1) * 125 / 8) := by
  refine ⟨?_, ?_, ?_, ?_, ?_⟩ <;> decide +kernel

/-- The hypotheses of Obligations.ClocksPinsAndSensorsReport can be met, clause by clause. -/
theorem witness_ClocksPinsAndSensorsReport :
    ((3 : Nat) < 4 ∧ (3 : Nat) < (wLane 3 3 : State).rd.lanes.length ∧ (lstate (wLane 3 3 : State) (3 : Nat) = 2 ∨ lstate (wLane 3 3 : State) (3 : Nat) = 3 ∨ lstate (wLane 3 3 : State) (3 : Nat) = 4)) ∧
    ((3 : Nat) < 4 ∧ lstate (wLane 3 1 : State) (3 : Nat) ≠ 2 ∧ lstate (wLane 3 1 : State) (3 : Nat) ≠ 3 ∧ lstate (wLane 3 1 : State) (3 : Nat) ≠ 4) ∧
    ((15 : Nat) < 16 ∧ (State.reset.setFld (Reg.GPIO_PCFG 15) 0 2 3 : State).frozen 0x25 = false ∧ (State.reset.setFld (Reg.GPIO_PCFG 15) 0 2 3 : State).bit Reg.GPIO_IN (15 : Nat) ≠ (true : Bool)) ∧
    (Takes (State.reset : State) (.sup : Master) Reg.GPIO_SET (0x8001 : Word) (0 : Word)) ∧
    (Takes (State.reset : State) (.sup : Master) Reg.GPIO_CLR (0x8001 : Word) (0 : Word)) ∧
    ((State.reset : State).frozen 0x26 = false ∧ ([-320, 0, 8, 100, 200, 1201] : List Int).length = 6 ∧ (5 : Nat) < 6) := by
  refine ⟨?_, ?_, ?_, ?_, ?_, ?_⟩ <;> decide +kernel

/-- The hypotheses of Obligations.DebugPortIsRecordedAndHaltsHarts can be met, clause by clause. -/
theorem witness_DebugPortIsRecordedAndHaltsHarts :
    ((State.reset : State).bit Reg.DBG_STAT 0 = false) ∧
    ((State.reset.setBit Reg.DBG_STAT 0 true : State).bit Reg.DBG_STAT 0 = true) ∧
    ((4 : Nat) < 5 ∧ (4 : Nat) < (wUnlocked : State).harts.length ∧ (wUnlocked : State).bit Reg.OPT_SEL 12 = false ∧ isolated (wUnlocked : State) (4 : Nat) = false) ∧
    ((State.reset.setBit Reg.OPT_SEL 12 true : State).bit Reg.OPT_SEL 12 = true ∨ isolated (State.reset.setBit Reg.OPT_SEL 12 true : State) (4 : Nat) = true) ∧
    ((0 : Nat) < 5 ∧ (0 : Nat) < (wUnlocked : State).harts.length ∧ (wUnlocked : State).bit Reg.OPT_SEL 12 = false) ∧
    ((State.reset.setBit Reg.OPT_SEL 12 true : State).bit Reg.OPT_SEL 12 = true) := by
  refine ⟨?_, ?_, ?_, ?_, ?_, ?_⟩ <;> decide +kernel

/-- The hypotheses of Obligations.OverVoltageLadder can be met, clause by clause. -/
theorem witness_OverVoltageLadder :
    (250 * ((State.reset.setReg Reg.PWR_OV 0x0002A098#32).setBit Reg.PWR_BRK 0 true : State).fld Reg.PWR_OV 0 8 ≤ (40000 : Nat) ∧ ((State.reset.setReg Reg.PWR_OV 0x0002A098#32).setBit Reg.PWR_BRK 0 true : State).bit Reg.PWR_BRK 0 = true ∧ ((State.reset.setReg Reg.PWR_OV 0x0002A098#32).setBit Reg.PWR_BRK 0 true : State).pwr.faulty = false ∧ ((State.reset.setReg Reg.PWR_OV 0x0002A098#32).setBit Reg.PWR_BRK 0 true : State).pwr.brkg = false) ∧
    (250 * ({ (State.reset.setReg Reg.PWR_OV 0x0002A098#32).setBit Reg.PWR_BRK 0 true with pwr := { State.reset.pwr with brkg := true } } : State).fld Reg.PWR_OV 0 8 ≤ (40000 : Nat) ∧ ({ (State.reset.setReg Reg.PWR_OV 0x0002A098#32).setBit Reg.PWR_BRK 0 true with pwr := { State.reset.pwr with brkg := true } } : State).bit Reg.PWR_BRK 0 = true ∧ ({ (State.reset.setReg Reg.PWR_OV 0x0002A098#32).setBit Reg.PWR_BRK 0 true with pwr := { State.reset.pwr with brkg := true } } : State).pwr.faulty = false ∧ ({ (State.reset.setReg Reg.PWR_OV 0x0002A098#32).setBit Reg.PWR_BRK 0 true with pwr := { State.reset.pwr with brkg := true } } : State).pwr.brkg = true) ∧
    (250 * (State.reset.setReg Reg.PWR_OV 0x0002A098#32 : State).fld Reg.PWR_OV 0 8 ≤ (40000 : Nat) ∧ ((State.reset.setReg Reg.PWR_OV 0x0002A098#32 : State).bit Reg.PWR_BRK 0 = false ∨ (State.reset.setReg Reg.PWR_OV 0x0002A098#32 : State).pwr.faulty = true)) ∧
    ((State.reset.setReg Reg.PWR_OV 0x0002A098#32 : State).wf = true ∧ (30000 : Nat) < 250 * (State.reset.setReg Reg.PWR_OV 0x0002A098#32 : State).fld Reg.PWR_OV 0 8) ∧
    (({ State.reset with pwr := { State.reset.pwr with chopWin := some 40000, brkg := true } } : State).pwr.chopWin = some (40000 : Nat) ∧ ((40000 : Nat) + 200 < (40201 : Nat) ∨ (({ State.reset with pwr := { State.reset.pwr with chopWin := some 40000, brkg := true } } : State).bit Reg.PWR_BRK 1 = false ∧ (100 : Nat) < 100) ∨ (({ State.reset with pwr := { State.reset.pwr with chopWin := some 40000, brkg := true } } : State).bit Reg.PWR_BRK 1 = true ∧ (0 : Int) ≤ (({ State.reset with pwr := { State.reset.pwr with chopWin := some 40000, brkg := true } } : State).fld Reg.PWR_BRK 16 12 : Int)))) ∧
    (({ State.reset with pwr := { State.reset.pwr with chopWin := some 40000, brkg := true } } : State).pwr.chopWin = some (40000 : Nat) ∧ (40200 : Nat) ≤ (40000 : Nat) + 200 ∧ ((({ State.reset with pwr := { State.reset.pwr with chopWin := some 40000, brkg := true } } : State).bit Reg.PWR_BRK 1 = false ∧ 100 ≤ (100 : Nat)) ∨ (({ State.reset with pwr := { State.reset.pwr with chopWin := some 40000, brkg := true } } : State).bit Reg.PWR_BRK 1 = true ∧ (({ State.reset with pwr := { State.reset.pwr with chopWin := some 40000, brkg := true } } : State).fld Reg.PWR_BRK 16 12 : Int) < (0 : Int)))) ∧
    (vinLow (State.reset.setFld (Reg.STAT 2) 8 3 1 : State) = true) ∧
    (Takes (State.reset : State) (.sup : Master) Reg.PWR_CLR (1 : Word) (0 : Word) ∧ clrOk (State.reset : State) (1 : Word) = true ∧ fieldOf (1 : Word) 0 1 = 1) ∧
    (Takes (State.reset.setFld (Reg.STAT 2) 8 3 3 : State) (.sup : Master) Reg.PWR_CLR (2 : Word) (0 : Word) ∧ clrOk (State.reset.setFld (Reg.STAT 2) 8 3 3 : State) (2 : Word) = true ∧ fieldOf (2 : Word) 0 2 ≠ 0 ∧ (ovState (State.reset.setFld (Reg.STAT 2) 8 3 3 : State) = 2 ∨ ovState (State.reset.setFld (Reg.STAT 2) 8 3 3 : State) = 3)) ∧
    (Takes (((State.reset.setReg Reg.PWR_OV 0x0002A098#32).setFld Reg.PWR_VIN 0 13 4000).setFld (Reg.STAT 2) 8 3 3 : State) (.sup : Master) Reg.PWR_CLR (2 : Word) (0 : Word) ∧ fieldOf (2 : Word) 0 2 ≠ 0 ∧ vinLow (((State.reset.setReg Reg.PWR_OV 0x0002A098#32).setFld Reg.PWR_VIN 0 13 4000).setFld (Reg.STAT 2) 8 3 3 : State) = false) := by
  refine ⟨?_, ?_, ?_, ?_, ?_, ?_, ?_, ?_, ?_, ?_⟩ <;> decide +kernel

/-- The hypotheses of Obligations.LastGaspSequence can be met, clause by clause. -/
theorem witness_LastGaspSequence :
    (vinIsLost ({ wGate (State.reset.setBit Reg.PWR_HU 0 true) with pwr := { State.reset.pwr with under := 1000000 } } : State) = true ∧ ({ wGate (State.reset.setBit Reg.PWR_HU 0 true) with pwr := { State.reset.pwr with under := 1000000 } } : State).bit Reg.PWR_HU 0 = true ∧ (lgState ({ wGate (State.reset.setBit Reg.PWR_HU 0 true) with pwr := { State.reset.pwr with under := 1000000 } } : State) = 0 ∨ lgState ({ wGate (State.reset.setBit Reg.PWR_HU 0 true) with pwr := { State.reset.pwr with under := 1000000 } } : State) = 4)) ∧
    (Takes (State.reset.setFld (Reg.STAT 2) 12 3 1 : State) (.sup : Master) Reg.PWR_LG (0x164 : Word) (0x64 : Word) ∧ fieldOf (0x164 : Word) 8 1 = 1 ∧ lgState (State.reset.setFld (Reg.STAT 2) 12 3 1 : State) = 1 ∧ (State.reset.setFld (Reg.STAT 2) 12 3 1 : State).pwr.recoverPend = false) ∧
    (Takes ({ State.reset.setFld (Reg.STAT 2) 12 3 1 with pwr := { State.reset.pwr with recoverPend := true } } : State) (.sup : Master) Reg.PWR_LG (0x164 : Word) (0x64 : Word) ∧ fieldOf (0x164 : Word) 8 1 = 1 ∧ lgState ({ State.reset.setFld (Reg.STAT 2) 12 3 1 with pwr := { State.reset.pwr with recoverPend := true } } : State) = 1 ∧ ({ State.reset.setFld (Reg.STAT 2) 12 3 1 with pwr := { State.reset.pwr with recoverPend := true } } : State).pwr.recoverPend = true) ∧
    (lgState ({ State.reset.setFld (Reg.STAT 2) 12 3 1 with ticks := 1000000, pwr := { State.reset.pwr with lossTick := some 0 } } : State) = 1 ∧ ({ State.reset.setFld (Reg.STAT 2) 12 3 1 with ticks := 1000000, pwr := { State.reset.pwr with lossTick := some 0 } } : State).pwr.lossTick.getD ({ State.reset.setFld (Reg.STAT 2) 12 3 1 with ticks := 1000000, pwr := { State.reset.pwr with lossTick := some 0 } } : State).ticks + ({ State.reset.setFld (Reg.STAT 2) 12 3 1 with ticks := 1000000, pwr := { State.reset.pwr with lossTick := some 0 } } : State).fld Reg.PWR_LG 0 8 * 1600 ≤ ({ State.reset.setFld (Reg.STAT 2) 12 3 1 with ticks := 1000000, pwr := { State.reset.pwr with lossTick := some 0 } } : State).ticks) ∧
    (lgState ({ State.reset.setFld (Reg.STAT 2) 12 3 2 with pwr := { State.reset.pwr with parkCalled := true } } : State) = 2 ∧ ((({ State.reset.setFld (Reg.STAT 2) 12 3 2 with pwr := { State.reset.pwr with parkCalled := true } } : State).pwr.parkCalled = true ∧ ({ State.reset.setFld (Reg.STAT 2) 12 3 2 with pwr := { State.reset.pwr with parkCalled := true } } : State).bit (Reg.STAT 4) 8 = false) ∨ belowRampSpd ({ State.reset.setFld (Reg.STAT 2) 12 3 2 with pwr := { State.reset.pwr with parkCalled := true } } : State) = true)) ∧
    (16000 ≤ ({ State.reset.setFld (Reg.STAT 2) 12 3 1 with pwr := { State.reset.pwr with above := 16000 } } : State).pwr.above + 1 ∧ lgState ({ State.reset.setFld (Reg.STAT 2) 12 3 1 with pwr := { State.reset.pwr with above := 16000 } } : State) = 1) ∧
    (16000 ≤ ({ State.reset.setFld (Reg.STAT 2) 12 3 3 with pwr := { State.reset.pwr with above := 16000 } } : State).pwr.above + 1 ∧ (lgState ({ State.reset.setFld (Reg.STAT 2) 12 3 3 with pwr := { State.reset.pwr with above := 16000 } } : State) = 2 ∨ lgState ({ State.reset.setFld (Reg.STAT 2) 12 3 3 with pwr := { State.reset.pwr with above := 16000 } } : State) = 3)) ∧
    (Takes (State.reset.setFld (Reg.STAT 2) 12 3 4 : State) (.sup : Master) Reg.PWR_CLR (4 : Word) (0 : Word) ∧ clrOk (State.reset.setFld (Reg.STAT 2) 12 3 4 : State) (4 : Word) = true ∧ fieldOf (4 : Word) 2 1 = 1) ∧
    (Takes (State.reset.setFld (Reg.STAT 2) 12 3 3 : State) (.sup : Master) Reg.PWR_CLR (4 : Word) (0 : Word) ∧ fieldOf (4 : Word) 2 1 = 1 ∧ lgState (State.reset.setFld (Reg.STAT 2) 12 3 3 : State) ≠ 4) := by
  refine ⟨?_, ?_, ?_, ?_, ?_, ?_, ?_, ?_, ?_⟩ <;> decide +kernel

/-- The hypotheses of Obligations.TickAdvancesTimeAndSupervisorAcknowledges can be met, clause by clause. -/
theorem witness_TickAdvancesTimeAndSupervisorAcknowledges :
    ((({ State.reset.setReg Reg.TICK_SUP 0x00050003#32 with ticks := 12 } : State).ticks + 1) % 2 ^ ({ State.reset.setReg Reg.TICK_SUP 0x00050003#32 with ticks := 12 } : State).fld Reg.TICK_SUP 0 4 = ({ State.reset.setReg Reg.TICK_SUP 0x00050003#32 with ticks := 12 } : State).fld Reg.TICK_SUP 16 10) ∧
    (((State.reset.setBit Reg.LENG_UPD_CTRL 31 true).setBit Reg.LENG_SHADOW 2 true : State).leng.late = false ∧ ((State.reset.setBit Reg.LENG_UPD_CTRL 31 true).setBit Reg.LENG_SHADOW 2 true : State).leng.overran = none) ∧
    (({ (State.reset.setBit Reg.LENG_UPD_CTRL 31 true).setBit Reg.LENG_SHADOW 2 true with leng := { State.reset.leng with overran := some 3 } } : State).leng.late = true ∨ ({ (State.reset.setBit Reg.LENG_UPD_CTRL 31 true).setBit Reg.LENG_SHADOW 2 true with leng := { State.reset.leng with overran := some 3 } } : State).leng.overran ≠ none) ∧
    (Takes ({ State.reset with leng := { State.reset.leng with supOut := true } } : State) (.sup : Master) Reg.TICK_SUP_ACK (1 : Word) (newOf ({ State.reset with leng := { State.reset.leng with supOut := true } } : State) (.sup : Master) Reg.TICK_SUP_ACK (1 : Word) : Word)) ∧
    (lengStopped (State.reset : State) = false) ∧
    (lengStopped (State.reset : State) = false) ∧
    ((State.reset.setBit (Reg.STAT 7) 8 true : State).wf = true ∧ lengStopped (State.reset.setBit (Reg.STAT 7) 8 true : State) = true) ∧
    ((State.reset.setBit (Reg.STAT 7) 8 true : State).wf = true ∧ lengStopped (State.reset.setBit (Reg.STAT 7) 8 true : State) = true) := by
  refine ⟨?_, ?_, ?_, ?_, ?_, ?_, ?_, ?_⟩ <;> decide +kernel

/-- The hypotheses of Obligations.ProgramChecksAndRestart can be met, clause by clause. -/
theorem witness_ProgramChecksAndRestart :
    ((15 : Nat) < 16 ∧ Takes (State.reset : State) (.sup : Master) (Reg.LENG_PROG_CFG (15 : Nat)) (0x101 : Word) (newOf (State.reset : State) (.sup : Master) (Reg.LENG_PROG_CFG (15 : Nat)) (0x101 : Word) : Word) ∧ progEn (State.reset : State) (15 : Nat) = false ∧ fieldOf (newOf (State.reset : State) (.sup : Master) (Reg.LENG_PROG_CFG (15 : Nat)) (0x101 : Word) : Word) 0 1 = 1) ∧
    ((15 : Nat) < 16 ∧ (wProgGood : State).leng.check = some (.prog (15 : Nat)) ∧ progEn (wProgGood : State) (15 : Nat) = true ∧ (checkProg (setCheck (wProgGood : State) none) false (15 : Nat)).1 = 0 ∧ (installProg (checkProg (setCheck (wProgGood : State) none) false (15 : Nat)).2.2.2 (checkProg (setCheck (wProgGood : State) none) false (15 : Nat)).2.2.1).1 = 0) ∧
    ((15 : Nat) < 16 ∧ ({ State.reset.setReg (Reg.LENG_PROG_CFG 15) 1#32 with leng := { State.reset.leng with check := some (.prog 15) } } : State).leng.check = some (.prog (15 : Nat)) ∧ progEn ({ State.reset.setReg (Reg.LENG_PROG_CFG 15) 1#32 with leng := { State.reset.leng with check := some (.prog 15) } } : State) (15 : Nat) = true ∧ (checkProg (setCheck ({ State.reset.setReg (Reg.LENG_PROG_CFG 15) 1#32 with leng := { State.reset.leng with check := some (.prog 15) } } : State) none) false (15 : Nat)).1 ≠ 0) ∧
    ((15 : Nat) < 16 ∧ Takes (wProgGood : State) (.sup : Master) (Reg.LENG_PROG_CFG (15 : Nat)) (0 : Word) (newOf (wProgGood : State) (.sup : Master) (Reg.LENG_PROG_CFG (15 : Nat)) (0 : Word) : Word) ∧ progEn (wProgGood : State) (15 : Nat) = true ∧ fieldOf (newOf (wProgGood : State) (.sup : Master) (Reg.LENG_PROG_CFG (15 : Nat)) (0 : Word) : Word) 0 1 = 0) ∧
    (Takes (State.reset : State) (.sup : Master) Reg.LENG_CMD (1 : Word) (newOf (State.reset : State) (.sup : Master) Reg.LENG_CMD (1 : Word) : Word) ∧ (State.reset : State).leng.check = none ∧ fieldOf (1 : Word) 0 1 = 1) ∧
    (({ State.reset.setBit (Reg.STAT 7) 8 true with leng := { State.reset.leng with check := some .restart } } : State).leng.check = some .restart ∧ ((enabledProgs ({ State.reset.setBit (Reg.STAT 7) 8 true with leng := { State.reset.leng with check := some .restart } } : State)).foldl restartOne (false, setCheck ({ State.reset.setBit (Reg.STAT 7) 8 true with leng := { State.reset.leng with check := some .restart } } : State) none)).1 = false) ∧
    (({ (State.reset.setReg (Reg.LENG_PROG_CFG 15) 1#32).setBit (Reg.STAT 7) 8 true with leng := { State.reset.leng with check := some .restart } } : State).leng.check = some .restart ∧ lengStopped ({ (State.reset.setReg (Reg.LENG_PROG_CFG 15) 1#32).setBit (Reg.STAT 7) 8 true with leng := { State.reset.leng with check := some .restart } } : State) = true ∧ ((enabledProgs ({ (State.reset.setReg (Reg.LENG_PROG_CFG 15) 1#32).setBit (Reg.STAT 7) 8 true with leng := { State.reset.leng with check := some .restart } } : State)).foldl restartOne (false, setCheck ({ (State.reset.setReg (Reg.LENG_PROG_CFG 15) 1#32).setBit (Reg.STAT 7) 8 true with leng := { State.reset.leng with check := some .restart } } : State) none)).1 = true) := by
  refine ⟨?_, ?_, ?_, ?_, ?_, ?_, ?_⟩ <;> decide +kernel

/-- The hypotheses of Obligations.MortarThirdPortReadsAndWrites can be met, clause by clause. -/
theorem witness_MortarThirdPortReadsAndWrites :
    ((0xBFF : Nat) < 0xC00 ∧ mortarGrants (wMortAll : State) (.cc0 : Master) (0x20000000 + 4 * (0xBFF : Nat)) .write = true ∧ thirdOk (wMortAll : State) (0xBFF : Nat) = true) ∧
    (mortarGrants (wMortAll : State) (.cc0 : Master) (0x20000000 : Nat) .write = true ∧ ((4 : Nat) ≠ 4 ∨ (0x20000000 : Nat) % 4 ≠ 0 ∨ thirdOk (wMortAll : State) (((0x20000000 : Nat) - 0x20000000) / 4) = false)) ∧
    ((0 : Nat) < 0xC00 ∧ mortarGrants (wMortAll : State) (.cc0 : Master) (0x20000000 + 4 * (0 : Nat)) .read = true ∧ mortUe (wMortAll : State) (0 : Nat) = false) ∧
    ((0x60 : Nat) < 0xC00 ∧ mortarGrants (wMortAll.setL { wMortAll.leng with faults := [(0x60, 3, false)] } : State) (.cc0 : Master) (0x20000000 + 4 * (0x60 : Nat)) .read = true ∧ mortUe (wMortAll.setL { wMortAll.leng with faults := [(0x60, 3, false)] } : State) (0x60 : Nat) = true) ∧
    (mortarGrants (State.reset : State) (.cc0 : Master) (0x20000000 : Nat) .read = false) ∧
    (mortarGrants (State.reset : State) (.cc0 : Master) (0x20000000 : Nat) .write = false) := by
  refine ⟨?_, ?_, ?_, ?_, ?_, ?_⟩ <;> decide +kernel

/-- The hypotheses of Obligations.BatchShadowAndRoutes can be met, clause by clause. -/
theorem witness_BatchShadowAndRoutes :
    (Takes (State.reset.setReg (Reg.LENG_UPD_ADDR 0) 0x60#32 : State) (.sup : Master) Reg.LENG_UPD_CTRL (0x80000001 : Word) (newOf (State.reset.setReg (Reg.LENG_UPD_ADDR 0) 0x60#32 : State) (.sup : Master) Reg.LENG_UPD_CTRL (0x80000001 : Word) : Word) ∧ updOk (State.reset.setReg (Reg.LENG_UPD_ADDR 0) 0x60#32 : State) (0x80000001 : Word) = true ∧ fieldOf (0x80000001 : Word) 31 1 = 1) ∧
    (Takes (State.reset : State) (.sup : Master) Reg.LENG_UPD_CTRL (0x80000000 : Word) (newOf (State.reset : State) (.sup : Master) Reg.LENG_UPD_CTRL (0x80000000 : Word) : Word) ∧ updOk (State.reset : State) (0x80000000 : Word) = false) ∧
    (Takes (State.reset : State) (.sup : Master) Reg.LENG_SHADOW (1 : Word) (newOf (State.reset : State) (.sup : Master) Reg.LENG_SHADOW (1 : Word) : Word) ∧ (State.reset : State).leng.check = none ∧ shadowReady (State.reset : State) = false ∧ fieldOf (1 : Word) 0 1 = 1 ∧ fieldOf (1 : Word) 1 1 = 0 ∧ fieldOf (1 : Word) 2 1 = 0) ∧
    (({ State.reset with leng := { State.reset.leng with check := some .shadow } } : State).leng.check = some .shadow ∧ (shadowFinds ({ State.reset with leng := { State.reset.leng with check := some .shadow } } : State)).1.1 = 0) ∧
    (({ (State.reset.setReg (Reg.LENG_PROG_CFG 15) 1#32).setReg (Reg.LENG_PROG_REG 15) 0x05FF0500#32 with leng := { State.reset.leng with check := some .shadow } } : State).leng.check = some .shadow ∧ shadowReady ({ (State.reset.setReg (Reg.LENG_PROG_CFG 15) 1#32).setReg (Reg.LENG_PROG_REG 15) 0x05FF0500#32 with leng := { State.reset.leng with check := some .shadow } } : State) = false ∧ (shadowFinds ({ (State.reset.setReg (Reg.LENG_PROG_CFG 15) 1#32).setReg (Reg.LENG_PROG_REG 15) 0x05FF0500#32 with leng := { State.reset.leng with check := some .shadow } } : State)).1.1 ≠ 0) ∧
    (Takes (State.reset.setBit Reg.LENG_SHADOW 0 true : State) (.sup : Master) Reg.LENG_SHADOW (4 : Word) (newOf (State.reset.setBit Reg.LENG_SHADOW 0 true : State) (.sup : Master) Reg.LENG_SHADOW (4 : Word) : Word) ∧ shadowOk (State.reset.setBit Reg.LENG_SHADOW 0 true : State) (4 : Word) = true ∧ fieldOf (4 : Word) 2 1 = 1) ∧
    (Takes (State.reset.setBit Reg.LENG_SHADOW 0 true : State) (.sup : Master) Reg.LENG_SHADOW (2 : Word) (newOf (State.reset.setBit Reg.LENG_SHADOW 0 true : State) (.sup : Master) Reg.LENG_SHADOW (2 : Word) : Word) ∧ shadowOk (State.reset.setBit Reg.LENG_SHADOW 0 true : State) (2 : Word) = true ∧ fieldOf (2 : Word) 1 1 = 1) ∧
    (Takes (State.reset : State) (.sup : Master) Reg.LENG_SHADOW (4 : Word) (newOf (State.reset : State) (.sup : Master) Reg.LENG_SHADOW (4 : Word) : Word) ∧ shadowOk (State.reset : State) (4 : Word) = false) ∧
    ((1 : Nat) < 2 ∧ Takes (State.reset.setBit Reg.SADC_CFG 31 true : State) (.sup : Master) (Reg.LENG_EXT_CFG (1 : Nat)) (0x00600001 : Word) (newOf (State.reset.setBit Reg.SADC_CFG 31 true : State) (.sup : Master) (Reg.LENG_EXT_CFG (1 : Nat)) (0x00600001 : Word) : Word)) := by
  refine ⟨?_, ?_, ?_, ?_, ?_, ?_, ?_, ?_, ?_⟩ <;> decide +kernel

/-- The hypotheses of Obligations.TraceChannelsArmTriggerAndEnd can be met, clause by clause. -/
theorem witness_TraceChannelsArmTriggerAndEnd :
    ((7 : Nat) < 8 ∧ Takes (State.reset.setReg (Reg.TRC_CH_BASE 7) 0x10000000#32 : State) (.sup : Master) (Reg.TRC_CH_CFG (7 : Nat)) (1 : Word) (newOf (State.reset.setReg (Reg.TRC_CH_BASE 7) 0x10000000#32 : State) (.sup : Master) (Reg.TRC_CH_CFG (7 : Nat)) (1 : Word) : Word) ∧ trcOn (State.reset.setReg (Reg.TRC_CH_BASE 7) 0x10000000#32 : State) (7 : Nat) = false ∧ fieldOf (newOf (State.reset.setReg (Reg.TRC_CH_BASE 7) 0x10000000#32 : State) (.sup : Master) (Reg.TRC_CH_CFG (7 : Nat)) (1 : Word) : Word) 0 1 = 1) ∧
    ((7 : Nat) < 8 ∧ Takes (wTrc 7 1#32 : State) (.sup : Master) Reg.TRC_GTRIG (0xFF : Word) (newOf (wTrc 7 1#32 : State) (.sup : Master) Reg.TRC_GTRIG (0xFF : Word) : Word) ∧ fieldOf (0xFF : Word) (7 : Nat) 1 = 1 ∧ trcOn (wTrc 7 1#32 : State) (7 : Nat) = true ∧ trcFlag (wTrc 7 1#32 : State) (7 : Nat) 0 = true) ∧
    ((7 : Nat) < 8 ∧ (wTrc 7 3#32 : State).frozen 0x08 = false ∧ trcFlag (wTrc 7 3#32 : State) (7 : Nat) 1 = true ∧ trcFlag (wTrc 7 3#32 : State) (7 : Nat) 2 = false ∧ ((wTrc 7 3#32 : State).trc (7 : Nat)).post = 0) ∧
    ((wTrc 7 1#32 : State).wf = true ∧ ((wTrc 7 1#32 : State).frozen 0x08 = true ∨ trcFlag (wTrc 7 1#32 : State) (7 : Nat) 1 = false ∨ trcFlag (wTrc 7 1#32 : State) (7 : Nat) 2 = true ∨ ((wTrc 7 1#32 : State).trc (7 : Nat)).post ≠ 0)) := by
  refine ⟨?_, ?_, ?_, ?_⟩ <;> decide +kernel

/-- The hypotheses of Obligations.LanesAcquireTrackAndLoseLock can be met, clause by clause. -/
theorem witness_LanesAcquireTrackAndLoseLock :
    (lanePresent ((wRd 3 1 id).setFld (Reg.RFL_MODE 3) 0 2 1 : State) (3 : Nat) = true ∧ ((wRd 3 1 id).setFld (Reg.RFL_MODE 3) 0 2 1 : State).frozen (pgRFL (3 : Nat)) = false ∧ (3 : Nat) < ((wRd 3 1 id).setFld (Reg.RFL_MODE 3) 0 2 1 : State).rd.lanes.length ∧ laneMode ((wRd 3 1 id).setFld (Reg.RFL_MODE 3) 0 2 1 : State) (3 : Nat) ≠ 0 ∧ laneMode ((wRd 3 1 id).setFld (Reg.RFL_MODE 3) 0 2 1 : State) (3 : Nat) ≠ 3 ∧ lstate ((wRd 3 1 id).setFld (Reg.RFL_MODE 3) 0 2 1 : State) (3 : Nat) ≠ 6 ∧ (lstate ((wRd 3 1 id).setFld (Reg.RFL_MODE 3) 0 2 1 : State) (3 : Nat) ≠ 0 ∨ (runningArm ((wRd 3 1 id).setFld (Reg.RFL_MODE 3) 0 2 1 : State)).isSome = true) ∧ lgRuns ((wRd 3 1 id).setFld (Reg.RFL_MODE 3) 0 2 1 : State) = false ∧ (((wRd 3 1 id).setFld (Reg.RFL_MODE 3) 0 2 1 : State).lane (3 : Nat)).sparePick = none) ∧
    (lanePresent ((wRd 3 6 id).setReg (Reg.RFL_AFE 3) 0x205#32 : State) (3 : Nat) = true ∧ ((wRd 3 6 id).setReg (Reg.RFL_AFE 3) 0x205#32 : State).frozen (pgRFL (3 : Nat)) = false ∧ (3 : Nat) < ((wRd 3 6 id).setReg (Reg.RFL_AFE 3) 0x205#32 : State).rd.lanes.length ∧ (((wRd 3 6 id).setReg (Reg.RFL_AFE 3) 0x205#32 : State).lane (3 : Nat)).sparePick = none) ∧
    (lanePresent (wRd 3 1 (fun x => { x with sparePick := some 5 }) : State) (3 : Nat) = true ∧ (wRd 3 1 (fun x => { x with sparePick := some 5 }) : State).frozen (pgRFL (3 : Nat)) = false ∧ (3 : Nat) < (wRd 3 1 (fun x => { x with sparePick := some 5 }) : State).rd.lanes.length ∧ ((wRd 3 1 (fun x => { x with sparePick := some 5 }) : State).lane (3 : Nat)).sparePick = some (5 : Nat) ∧ slotConverter (wRd 3 1 (fun x => { x with sparePick := some 5 }) : State) (3 : Nat) ((wRd 3 1 (fun x => { x with sparePick := some 5 }) : State).fld (Reg.RFL_SUB_STAT (3 : Nat) (5 : Nat)) 4 3) = some (5 : Nat) ∧ spareOf (wRd 3 1 (fun x => { x with sparePick := some 5 }) : State) (3 : Nat) = some (8 : Nat) ∧ (5 : Nat) ≠ (8 : Nat) ∧ (5 : Nat) ∉ ((wRd 3 1 (fun x => { x with sparePick := some 5 }) : State).lane (3 : Nat)).retirePend) ∧
    (lanePresent ((wRd 3 1 id).setFld (Reg.RFL_MODE 3) 0 2 3 : State) (3 : Nat) = true ∧ ((wRd 3 1 id).setFld (Reg.RFL_MODE 3) 0 2 3 : State).frozen (pgRFL (3 : Nat)) = false ∧ (3 : Nat) < ((wRd 3 1 id).setFld (Reg.RFL_MODE 3) 0 2 3 : State).rd.lanes.length ∧ laneMode ((wRd 3 1 id).setFld (Reg.RFL_MODE 3) 0 2 3 : State) (3 : Nat) = 3 ∧ lstate ((wRd 3 1 id).setFld (Reg.RFL_MODE 3) 0 2 3 : State) (3 : Nat) ≠ 6 ∧ lgRuns ((wRd 3 1 id).setFld (Reg.RFL_MODE 3) 0 2 3 : State) = false ∧ (((wRd 3 1 id).setFld (Reg.RFL_MODE 3) 0 2 3 : State).lane (3 : Nat)).sparePick = none) ∧
    (lanePresent (wRd 3 6 id : State) (3 : Nat) = true ∧ (wRd 3 6 id : State).frozen (pgRFL (3 : Nat)) = false ∧ (3 : Nat) < (wRd 3 6 id : State).rd.lanes.length ∧ (laneMode (wRd 3 6 id : State) (3 : Nat) = 0 ∨ lstate (wRd 3 6 id : State) (3 : Nat) = 6 ∨ lgRuns (wRd 3 6 id : State) = true ∨ (lstate (wRd 3 6 id : State) (3 : Nat) = 0 ∧ runningArm (wRd 3 6 id : State) = none ∧ laneMode (wRd 3 6 id : State) (3 : Nat) ≠ 3)) ∧ ((wRd 3 6 id : State).lane (3 : Nat)).sparePick = none) ∧
    ((State.reset.setBit (Reg.CTRL (pgRFL 3)) 2 true : State).wf = true ∧ (lanePresent (State.reset.setBit (Reg.CTRL (pgRFL 3)) 2 true : State) (3 : Nat) = false ∨ (State.reset.setBit (Reg.CTRL (pgRFL 3)) 2 true : State).frozen (pgRFL (3 : Nat)) = true)) ∧
    (lanePresent (wRd 3 2 (fun x => { x with expect := (0, 0) }) : State) (3 : Nat) = true ∧ (wRd 3 2 (fun x => { x with expect := (0, 0) }) : State).frozen (pgRFL (3 : Nat)) = false ∧ (3 : Nat) < (wRd 3 2 (fun x => { x with expect := (0, 0) }) : State).rd.lanes.length ∧ lstate (wRd 3 2 (fun x => { x with expect := (0, 0) }) : State) (3 : Nat) = 2 ∧ ((wRd 3 2 (fun x => { x with expect := (0, 0) }) : State).lane (3 : Nat)).marker = false ∧ ((wRd 3 2 (fun x => { x with expect := (0, 0) }) : State).lane (3 : Nat)).expect = (0, 0) ∧ syncSearch true 36 ((wRd 3 2 (fun x => { x with expect := (0, 0) }) : State).fld (Reg.RFL_SYNC_CTRL (3 : Nat)) 4 3) (laneWindow ({ (wRd 3 2 (fun x => { x with expect := (0, 0) }) : State).lane (3 : Nat) with buf := ((wRd 3 2 (fun x => { x with expect := (0, 0) }) : State).lane (3 : Nat)).buf ++ takeIn (wRd 3 2 (fun x => { x with expect := (0, 0) }) : State) (3 : Nat) (List.replicate 40 (⟨0, false, 0, 2⟩ : RawSample) : List RawSample) }) 36) = none) ∧
    (lanePresent (wRd 3 2 (fun x => { x with expect := (0, 0) }) : State) (3 : Nat) = true ∧ (wRd 3 2 (fun x => { x with expect := (0, 0) }) : State).frozen (pgRFL (3 : Nat)) = false ∧ (3 : Nat) < (wRd 3 2 (fun x => { x with expect := (0, 0) }) : State).rd.lanes.length ∧ lstate (wRd 3 2 (fun x => { x with expect := (0, 0) }) : State) (3 : Nat) = 2 ∧ ((wRd 3 2 (fun x => { x with expect := (0, 0) }) : State).lane (3 : Nat)).marker = false ∧ ((wRd 3 2 (fun x => { x with expect := (0, 0) }) : State).lane (3 : Nat)).expect = (0, 0) ∧ ((wRd 3 2 (fun x => { x with expect := (0, 0) }) : State).lane (3 : Nat)).swapDue = none ∧ syncSearch true 36 ((wRd 3 2 (fun x => { x with expect := (0, 0) }) : State).fld (Reg.RFL_SYNC_CTRL (3 : Nat)) 4 3) (laneWindow ({ (wRd 3 2 (fun x => { x with expect := (0, 0) }) : State).lane (3 : Nat) with buf := ((wRd 3 2 (fun x => { x with expect := (0, 0) }) : State).lane (3 : Nat)).buf ++ takeIn (wRd 3 2 (fun x => { x with expect := (0, 0) }) : State) (3 : Nat) (wSyncRx true : List RawSample) }) 36) = some (((0, 0) : Int × Nat) : Int × Nat)) ∧
    ((State.reset : State).wf = true ∧ (lanePresent (State.reset : State) (3 : Nat) = false ∨ (State.reset : State).frozen (pgRFL (3 : Nat)) = true ∨ lstate (State.reset : State) (3 : Nat) ≠ 2 ∨ ((State.reset : State).lane (3 : Nat)).marker = true ∨ ((State.reset : State).lane (3 : Nat)).expect ≠ (0, 0))) ∧
    (lanePresent (wRd 3 3 (fun x => { x with expect := (126, 0) }) : State) (3 : Nat) = true ∧ (wRd 3 3 (fun x => { x with expect := (126, 0) }) : State).frozen (pgRFL (3 : Nat)) = false ∧ (3 : Nat) < (wRd 3 3 (fun x => { x with expect := (126, 0) }) : State).rd.lanes.length ∧ laneMode (wRd 3 3 (fun x => { x with expect := (126, 0) }) : State) (3 : Nat) ≠ 3 ∧ ((wRd 3 3 (fun x => { x with expect := (126, 0) }) : State).lane (3 : Nat)).expect.1 < 128 ∧ (lstate (wRd 3 3 (fun x => { x with expect := (126, 0) }) : State) (3 : Nat) = 3 ∨ lstate (wRd 3 3 (fun x => { x with expect := (126, 0) }) : State) (3 : Nat) = 2 ∧ (((wRd 3 3 (fun x => { x with expect := (126, 0) }) : State).lane (3 : Nat)).marker = true ∨ ((wRd 3 3 (fun x => { x with expect := (126, 0) }) : State).lane (3 : Nat)).expect ≠ (0, 0)) ∧ ((wRd 3 3 (fun x => { x with expect := (126, 0) }) : State).lane (3 : Nat)).swapDue = none) ∧ syncSearch (((wRd 3 3 (fun x => { x with expect := (126, 0) }) : State).lane (3 : Nat)).expect.2 == 0) 4 ((wRd 3 3 (fun x => { x with expect := (126, 0) }) : State).fld (Reg.RFL_SYNC_CTRL (3 : Nat)) 0 3) (laneWindow ({ (wRd 3 3 (fun x => { x with expect := (126, 0) }) : State).lane (3 : Nat) with buf := ((wRd 3 3 (fun x => { x with expect := (126, 0) }) : State).lane (3 : Nat)).buf ++ takeIn (wRd 3 3 (fun x => { x with expect := (126, 0) }) : State) (3 : Nat) (wSyncRx true : List RawSample) }) 4) = some (((0, 0) : Int × Nat) : Int × Nat)) ∧
    (lanePresent (wRd 3 3 (fun x => { x with expect := (126, 39) }) : State) (3 : Nat) = true ∧ (wRd 3 3 (fun x => { x with expect := (126, 39) }) : State).frozen (pgRFL (3 : Nat)) = false ∧ (3 : Nat) < (wRd 3 3 (fun x => { x with expect := (126, 39) }) : State).rd.lanes.length ∧ laneMode (wRd 3 3 (fun x => { x with expect := (126, 39) }) : State) (3 : Nat) ≠ 3 ∧ ((wRd 3 3 (fun x => { x with expect := (126, 39) }) : State).lane (3 : Nat)).expect.1 < 128 ∧ (lstate (wRd 3 3 (fun x => { x with expect := (126, 39) }) : State) (3 : Nat) = 3 ∨ lstate (wRd 3 3 (fun x => { x with expect := (126, 39) }) : State) (3 : Nat) = 2 ∧ (((wRd 3 3 (fun x => { x with expect := (126, 39) }) : State).lane (3 : Nat)).marker = true ∨ ((wRd 3 3 (fun x => { x with expect := (126, 39) }) : State).lane (3 : Nat)).expect ≠ (0, 0)) ∧ ((wRd 3 3 (fun x => { x with expect := (126, 39) }) : State).lane (3 : Nat)).swapDue = none) ∧ (wRd 3 3 (fun x => { x with expect := (126, 39) }) : State).fld (Reg.RFL_SYNC_STAT (3 : Nat)) 0 2 < 2 ∧ syncSearch (((wRd 3 3 (fun x => { x with expect := (126, 39) }) : State).lane (3 : Nat)).expect.2 == 0) 4 ((wRd 3 3 (fun x => { x with expect := (126, 39) }) : State).fld (Reg.RFL_SYNC_CTRL (3 : Nat)) 0 3) (laneWindow ({ (wRd 3 3 (fun x => { x with expect := (126, 39) }) : State).lane (3 : Nat) with buf := ((wRd 3 3 (fun x => { x with expect := (126, 39) }) : State).lane (3 : Nat)).buf ++ takeIn (wRd 3 3 (fun x => { x with expect := (126, 39) }) : State) (3 : Nat) (List.replicate 40 (⟨0, false, 0, 2⟩ : RawSample) : List RawSample) }) 4) = none) ∧
    (lanePresent ((wRd 3 3 (fun x => { x with expect := (126, 39) })).setFld (Reg.RFL_SYNC_STAT 3) 0 2 2 : State) (3 : Nat) = true ∧ ((wRd 3 3 (fun x => { x with expect := (126, 39) })).setFld (Reg.RFL_SYNC_STAT 3) 0 2 2 : State).frozen (pgRFL (3 : Nat)) = false ∧ (3 : Nat) < ((wRd 3 3 (fun x => { x with expect := (126, 39) })).setFld (Reg.RFL_SYNC_STAT 3) 0 2 2 : State).rd.lanes.length ∧ laneMode ((wRd 3 3 (fun x => { x with expect := (126, 39) })).setFld (Reg.RFL_SYNC_STAT 3) 0 2 2 : State) (3 : Nat) ≠ 3 ∧ (((wRd 3 3 (fun x => { x with expect := (126, 39) })).setFld (Reg.RFL_SYNC_STAT 3) 0 2 2 : State).lane (3 : Nat)).expect.1 < 128 ∧ (lstate ((wRd 3 3 (fun x => { x with expect := (126, 39) })).setFld (Reg.RFL_SYNC_STAT 3) 0 2 2 : State) (3 : Nat) = 3 ∨ lstate ((wRd 3 3 (fun x => { x with expect := (126, 39) })).setFld (Reg.RFL_SYNC_STAT 3) 0 2 2 : State) (3 : Nat) = 2 ∧ ((((wRd 3 3 (fun x => { x with expect := (126, 39) })).setFld (Reg.RFL_SYNC_STAT 3) 0 2 2 : State).lane (3 : Nat)).marker = true ∨ (((wRd 3 3 (fun x => { x with expect := (126, 39) })).setFld (Reg.RFL_SYNC_STAT 3) 0 2 2 : State).lane (3 : Nat)).expect ≠ (0, 0)) ∧ (((wRd 3 3 (fun x => { x with expect := (126, 39) })).setFld (Reg.RFL_SYNC_STAT 3) 0 2 2 : State).lane (3 : Nat)).swapDue = none) ∧ 2 ≤ ((wRd 3 3 (fun x => { x with expect := (126, 39) })).setFld (Reg.RFL_SYNC_STAT 3) 0 2 2 : State).fld (Reg.RFL_SYNC_STAT (3 : Nat)) 0 2 ∧ syncSearch ((((wRd 3 3 (fun x => { x with expect := (126, 39) })).setFld (Reg.RFL_SYNC_STAT 3) 0 2 2 : State).lane (3 : Nat)).expect.2 == 0) 4 (((wRd 3 3 (fun x => { x with expect := (126, 39) })).setFld (Reg.RFL_SYNC_STAT 3) 0 2 2 : State).fld (Reg.RFL_SYNC_CTRL (3 : Nat)) 0 3) (laneWindow ({ ((wRd 3 3 (fun x => { x with expect := (126, 39) })).setFld (Reg.RFL_SYNC_STAT 3) 0 2 2 : State).lane (3 : Nat) with buf := (((wRd 3 3 (fun x => { x with expect := (126, 39) })).setFld (Reg.RFL_SYNC_STAT 3) 0 2 2 : State).lane (3 : Nat)).buf ++ takeIn ((wRd 3 3 (fun x => { x with expect := (126, 39) })).setFld (Reg.RFL_SYNC_STAT 3) 0 2 2 : State) (3 : Nat) (List.replicate 40 (⟨0, false, 0, 2⟩ : RawSample) : List RawSample) }) 4) = none) ∧
    (lanePresent (wRd 3 4 (fun x => { x with expect := (126, 0), reacqLeft := 1 }) : State) (3 : Nat) = true ∧ (wRd 3 4 (fun x => { x with expect := (126, 0), reacqLeft := 1 }) : State).frozen (pgRFL (3 : Nat)) = false ∧ (3 : Nat) < (wRd 3 4 (fun x => { x with expect := (126, 0), reacqLeft := 1 }) : State).rd.lanes.length ∧ laneMode (wRd 3 4 (fun x => { x with expect := (126, 0), reacqLeft := 1 }) : State) (3 : Nat) ≠ 3 ∧ ((wRd 3 4 (fun x => { x with expect := (126, 0), reacqLeft := 1 }) : State).lane (3 : Nat)).expect.1 < 128 ∧ lstate (wRd 3 4 (fun x => { x with expect := (126, 0), reacqLeft := 1 }) : State) (3 : Nat) = 4 ∧ ((wRd 3 4 (fun x => { x with expect := (126, 0), reacqLeft := 1 }) : State).lane (3 : Nat)).swapDue = none ∧ syncSearch (((wRd 3 4 (fun x => { x with expect := (126, 0), reacqLeft := 1 }) : State).lane (3 : Nat)).expect.2 == 0) 16 ((wRd 3 4 (fun x => { x with expect := (126, 0), reacqLeft := 1 }) : State).fld (Reg.RFL_SYNC_CTRL (3 : Nat)) 4 3) (laneWindow ({ (wRd 3 4 (fun x => { x with expect := (126, 0), reacqLeft := 1 }) : State).lane (3 : Nat) with buf := ((wRd 3 4 (fun x => { x with expect := (126, 0), reacqLeft := 1 }) : State).lane (3 : Nat)).buf ++ takeIn (wRd 3 4 (fun x => { x with expect := (126, 0), reacqLeft := 1 }) : State) (3 : Nat) (wSyncRx true : List RawSample) }) 16) = some (((0, 0) : Int × Nat) : Int × Nat)) ∧
    (lanePresent (wRd 3 4 (fun x => { x with expect := (126, 39), reacqLeft := 2 }) : State) (3 : Nat) = true ∧ (wRd 3 4 (fun x => { x with expect := (126, 39), reacqLeft := 2 }) : State).frozen (pgRFL (3 : Nat)) = false ∧ (3 : Nat) < (wRd 3 4 (fun x => { x with expect := (126, 39), reacqLeft := 2 }) : State).rd.lanes.length ∧ laneMode (wRd 3 4 (fun x => { x with expect := (126, 39), reacqLeft := 2 }) : State) (3 : Nat) ≠ 3 ∧ ((wRd 3 4 (fun x => { x with expect := (126, 39), reacqLeft := 2 }) : State).lane (3 : Nat)).expect.1 < 128 ∧ lstate (wRd 3 4 (fun x => { x with expect := (126, 39), reacqLeft := 2 }) : State) (3 : Nat) = 4 ∧ 1 < ((wRd 3 4 (fun x => { x with expect := (126, 39), reacqLeft := 2 }) : State).lane (3 : Nat)).reacqLeft ∧ syncSearch (((wRd 3 4 (fun x => { x with expect := (126, 39), reacqLeft := 2 }) : State).lane (3 : Nat)).expect.2 == 0) 16 ((wRd 3 4 (fun x => { x with expect := (126, 39), reacqLeft := 2 }) : State).fld (Reg.RFL_SYNC_CTRL (3 : Nat)) 4 3) (laneWindow ({ (wRd 3 4 (fun x => { x with expect := (126, 39), reacqLeft := 2 }) : State).lane (3 : Nat) with buf := ((wRd 3 4 (fun x => { x with expect := (126, 39), reacqLeft := 2 }) : State).lane (3 : Nat)).buf ++ takeIn (wRd 3 4 (fun x => { x with expect := (126, 39), reacqLeft := 2 }) : State) (3 : Nat) (List.replicate 40 (⟨0, false, 0, 2⟩ : RawSample) : List RawSample) }) 16) = none) ∧
    (lanePresent (wRd 3 4 (fun x => { x with expect := (126, 39), reacqLeft := 1, outRun := 7 }) : State) (3 : Nat) = true ∧ (wRd 3 4 (fun x => { x with expect := (126, 39), reacqLeft := 1, outRun := 7 }) : State).frozen (pgRFL (3 : Nat)) = false ∧ (3 : Nat) < (wRd 3 4 (fun x => { x with expect := (126, 39), reacqLeft := 1, outRun := 7 }) : State).rd.lanes.length ∧ laneMode (wRd 3 4 (fun x => { x with expect := (126, 39), reacqLeft := 1, outRun := 7 }) : State) (3 : Nat) ≠ 3 ∧ ((wRd 3 4 (fun x => { x with expect := (126, 39), reacqLeft := 1, outRun := 7 }) : State).lane (3 : Nat)).expect.1 < 128 ∧ lstate (wRd 3 4 (fun x => { x with expect := (126, 39), reacqLeft := 1, outRun := 7 }) : State) (3 : Nat) = 4 ∧ ((wRd 3 4 (fun x => { x with expect := (126, 39), reacqLeft := 1, outRun := 7 }) : State).lane (3 : Nat)).reacqLeft ≤ 1 ∧ syncSearch (((wRd 3 4 (fun x => { x with expect := (126, 39), reacqLeft := 1, outRun := 7 }) : State).lane (3 : Nat)).expect.2 == 0) 16 ((wRd 3 4 (fun x => { x with expect := (126, 39), reacqLeft := 1, outRun := 7 }) : State).fld (Reg.RFL_SYNC_CTRL (3 : Nat)) 4 3) (laneWindow ({ (wRd 3 4 (fun x => { x with expect := (126, 39), reacqLeft := 1, outRun := 7 }) : State).lane (3 : Nat) with buf := ((wRd 3 4 (fun x => { x with expect := (126, 39), reacqLeft := 1, outRun := 7 }) : State).lane (3 : Nat)).buf ++ takeIn (wRd 3 4 (fun x => { x with expect := (126, 39), reacqLeft := 1, outRun := 7 }) : State) (3 : Nat) (List.replicate 40 (⟨0, false, 0, 2⟩ : RawSample) : List RawSample) }) 16) = none) ∧
    (lanePresent (wRd 3 5 (fun x => { x with expect := (126, 39) }) : State) (3 : Nat) = true ∧ (wRd 3 5 (fun x => { x with expect := (126, 39) }) : State).frozen (pgRFL (3 : Nat)) = false ∧ (3 : Nat) < (wRd 3 5 (fun x => { x with expect := (126, 39) }) : State).rd.lanes.length ∧ laneMode (wRd 3 5 (fun x => { x with expect := (126, 39) }) : State) (3 : Nat) ≠ 3 ∧ ((wRd 3 5 (fun x => { x with expect := (126, 39) }) : State).lane (3 : Nat)).expect.1 < 128 ∧ lstate (wRd 3 5 (fun x => { x with expect := (126, 39) }) : State) (3 : Nat) = 5) ∧
    (lanePresent (wRd 3 1 id : State) (3 : Nat) = true ∧ (wRd 3 1 id : State).frozen (pgRFL (3 : Nat)) = false ∧ (3 : Nat) < (wRd 3 1 id : State).rd.lanes.length ∧ (lstate (wRd 3 1 id : State) (3 : Nat) = 6 ∨ laneMode (wRd 3 1 id : State) (3 : Nat) ≠ 3 ∧ (128 ≤ ((wRd 3 1 id : State).lane (3 : Nat)).expect.1 ∨ lstate (wRd 3 1 id : State) (3 : Nat) = 0 ∨ lstate (wRd 3 1 id : State) (3 : Nat) = 1 ∨ (lstate (wRd 3 1 id : State) (3 : Nat) = 2 ∧ ((wRd 3 1 id : State).lane (3 : Nat)).marker = false ∧ ((wRd 3 1 id : State).lane (3 : Nat)).expect = (0, 0))))) ∧
    (lanePresent (((((wRd 3 1 id).setFld (Reg.RFL_MODE 3) 0 2 3).setFld (Reg.RFL_MODE 3) 4 2 1).setReg (Reg.RFL_POS 1) 0x50302#32).setReg (Reg.RFL_TR_STAT 1) 0x120003#32 : State) (3 : Nat) = true ∧ (((((wRd 3 1 id).setFld (Reg.RFL_MODE 3) 0 2 3).setFld (Reg.RFL_MODE 3) 4 2 1).setReg (Reg.RFL_POS 1) 0x50302#32).setReg (Reg.RFL_TR_STAT 1) 0x120003#32 : State).frozen (pgRFL (3 : Nat)) = false ∧ (3 : Nat) < (((((wRd 3 1 id).setFld (Reg.RFL_MODE 3) 0 2 3).setFld (Reg.RFL_MODE 3) 4 2 1).setReg (Reg.RFL_POS 1) 0x50302#32).setReg (Reg.RFL_TR_STAT 1) 0x120003#32 : State).rd.lanes.length ∧ laneMode (((((wRd 3 1 id).setFld (Reg.RFL_MODE 3) 0 2 3).setFld (Reg.RFL_MODE 3) 4 2 1).setReg (Reg.RFL_POS 1) 0x50302#32).setReg (Reg.RFL_TR_STAT 1) 0x120003#32 : State) (3 : Nat) = 3 ∧ lstate (((((wRd 3 1 id).setFld (Reg.RFL_MODE 3) 0 2 3).setFld (Reg.RFL_MODE 3) 4 2 1).setReg (Reg.RFL_POS 1) 0x50302#32).setReg (Reg.RFL_TR_STAT 1) 0x120003#32 : State) (3 : Nat) ≠ 6 ∧ laneRef (((((wRd 3 1 id).setFld (Reg.RFL_MODE 3) 0 2 3).setFld (Reg.RFL_MODE 3) 4 2 1).setReg (Reg.RFL_POS 1) 0x50302#32).setReg (Reg.RFL_TR_STAT 1) 0x120003#32 : State) (3 : Nat) = (1 : Nat) ∧ (1 : Nat) ≠ (3 : Nat) ∧ (3 : Nat) < 4) ∧
    ((State.reset.setBit (Reg.CTRL (pgRFL 3)) 2 true : State).wf = true ∧ (lanePresent (State.reset.setBit (Reg.CTRL (pgRFL 3)) 2 true : State) (3 : Nat) = false ∨ (State.reset.setBit (Reg.CTRL (pgRFL 3)) 2 true : State).frozen (pgRFL (3 : Nat)) = true)) ∧
    (lanePresent ((wRd 3 4 (fun x => { x with expect := (5, 0), group := 1 })).setRd { (wRd 3 4 (fun x => { x with expect := (5, 0), group := 1 })).rd with groups := (wGroup freshStrip).rd.groups } : State) (3 : Nat) = true ∧ ((wRd 3 4 (fun x => { x with expect := (5, 0), group := 1 })).setRd { (wRd 3 4 (fun x => { x with expect := (5, 0), group := 1 })).rd with groups := (wGroup freshStrip).rd.groups } : State).frozen (pgRFL (3 : Nat)) = false ∧ (3 : Nat) < ((wRd 3 4 (fun x => { x with expect := (5, 0), group := 1 })).setRd { (wRd 3 4 (fun x => { x with expect := (5, 0), group := 1 })).rd with groups := (wGroup freshStrip).rd.groups } : State).rd.lanes.length ∧ (lstate ((wRd 3 4 (fun x => { x with expect := (5, 0), group := 1 })).setRd { (wRd 3 4 (fun x => { x with expect := (5, 0), group := 1 })).rd with groups := (wGroup freshStrip).rd.groups } : State) (3 : Nat) = 2 ∨ lstate ((wRd 3 4 (fun x => { x with expect := (5, 0), group := 1 })).setRd { (wRd 3 4 (fun x => { x with expect := (5, 0), group := 1 })).rd with groups := (wGroup freshStrip).rd.groups } : State) (3 : Nat) = 3 ∨ lstate ((wRd 3 4 (fun x => { x with expect := (5, 0), group := 1 })).setRd { (wRd 3 4 (fun x => { x with expect := (5, 0), group := 1 })).rd with groups := (wGroup freshStrip).rd.groups } : State) (3 : Nat) = 4 ∨ lstate ((wRd 3 4 (fun x => { x with expect := (5, 0), group := 1 })).setRd { (wRd 3 4 (fun x => { x with expect := (5, 0), group := 1 })).rd with groups := (wGroup freshStrip).rd.groups } : State) (3 : Nat) = 5) ∧ (((wRd 3 4 (fun x => { x with expect := (5, 0), group := 1 })).setRd { (wRd 3 4 (fun x => { x with expect := (5, 0), group := 1 })).rd with groups := (wGroup freshStrip).rd.groups } : State).lane (3 : Nat)).expect.1 < 128 ∧ (((wRd 3 4 (fun x => { x with expect := (5, 0), group := 1 })).setRd { (wRd 3 4 (fun x => { x with expect := (5, 0), group := 1 })).rd with groups := (wGroup freshStrip).rd.groups } : State).fld (Reg.RFL_RATE (3 : Nat)) 16 4 * (20000 : Nat) < 3800 ∨ 16000 < ((wRd 3 4 (fun x => { x with expect := (5, 0), group := 1 })).setRd { (wRd 3 4 (fun x => { x with expect := (5, 0), group := 1 })).rd with groups := (wGroup freshStrip).rd.groups } : State).fld (Reg.RFL_RATE (3 : Nat)) 16 4 * (20000 : Nat))) ∧
    ((State.reset : State).wf = true ∧ (lanePresent (State.reset : State) (3 : Nat) = false ∨ (State.reset : State).frozen (pgRFL (3 : Nat)) = true ∨ lstate (State.reset : State) (3 : Nat) = 0 ∨ lstate (State.reset : State) (3 : Nat) = 1 ∨ lstate (State.reset : State) (3 : Nat) = 6 ∨ 128 ≤ ((State.reset : State).lane (3 : Nat)).expect.1 ∨ (3800 ≤ (State.reset : State).fld (Reg.RFL_RATE (3 : Nat)) 16 4 * (20000 : Nat) ∧ (State.reset : State).fld (Reg.RFL_RATE (3 : Nat)) 16 4 * (20000 : Nat) ≤ 16000))) ∧
    (lanePresent ((wRd 3 4 id).setBit (Reg.RFL_ADC_CTRL 3) 0 true : State) (3 : Nat) = true ∧ ((wRd 3 4 id).setBit (Reg.RFL_ADC_CTRL 3) 0 true : State).frozen (pgRFL (3 : Nat)) = false ∧ (3 : Nat) < ((wRd 3 4 id).setBit (Reg.RFL_ADC_CTRL 3) 0 true : State).rd.lanes.length ∧ ((wRd 3 4 id).setBit (Reg.RFL_ADC_CTRL 3) 0 true : State).bit (Reg.RFL_ADC_CTRL (3 : Nat)) 0 = true ∧ (lstate ((wRd 3 4 id).setBit (Reg.RFL_ADC_CTRL 3) 0 true : State) (3 : Nat) = 2 ∨ lstate ((wRd 3 4 id).setBit (Reg.RFL_ADC_CTRL 3) 0 true : State) (3 : Nat) = 4)) ∧
    (lanePresent (((wRd 3 3 id).setBit (Reg.RFL_ADC_CTRL 3) 0 true).setBit (Reg.RFL_ADC_CTRL 3) 16 false : State) (3 : Nat) = true ∧ (((wRd 3 3 id).setBit (Reg.RFL_ADC_CTRL 3) 0 true).setBit (Reg.RFL_ADC_CTRL 3) 16 false : State).frozen (pgRFL (3 : Nat)) = false ∧ (3 : Nat) < (((wRd 3 3 id).setBit (Reg.RFL_ADC_CTRL 3) 0 true).setBit (Reg.RFL_ADC_CTRL 3) 16 false : State).rd.lanes.length ∧ (((wRd 3 3 id).setBit (Reg.RFL_ADC_CTRL 3) 0 true).setBit (Reg.RFL_ADC_CTRL 3) 16 false : State).bit (Reg.RFL_ADC_CTRL (3 : Nat)) 0 = true ∧ lstate (((wRd 3 3 id).setBit (Reg.RFL_ADC_CTRL 3) 0 true).setBit (Reg.RFL_ADC_CTRL 3) 16 false : State) (3 : Nat) ≠ 2 ∧ lstate (((wRd 3 3 id).setBit (Reg.RFL_ADC_CTRL 3) 0 true).setBit (Reg.RFL_ADC_CTRL 3) 16 false : State) (3 : Nat) ≠ 4 ∧ spareBad (((wRd 3 3 id).setBit (Reg.RFL_ADC_CTRL 3) 0 true).setBit (Reg.RFL_ADC_CTRL 3) 16 false : State) (3 : Nat) ((-5 : Int), (3 : Int), (4000 : Int)) = false ∧ spareOf (((wRd 3 3 id).setBit (Reg.RFL_ADC_CTRL 3) 0 true).setBit (Reg.RFL_ADC_CTRL 3) 16 false : State) (3 : Nat) = some (8 : Nat) ∧ slotConverter (((wRd 3 3 id).setBit (Reg.RFL_ADC_CTRL 3) 0 true).setBit (Reg.RFL_ADC_CTRL 3) 16 false : State) (3 : Nat) ((((wRd 3 3 id).setBit (Reg.RFL_ADC_CTRL 3) 0 true).setBit (Reg.RFL_ADC_CTRL 3) 16 false : State).lane (3 : Nat)).nextSlot = some (0 : Nat) ∧ (0 : Nat) ≠ (8 : Nat) ∧ (0 : Nat) ∉ ((((wRd 3 3 id).setBit (Reg.RFL_ADC_CTRL 3) 0 true).setBit (Reg.RFL_ADC_CTRL 3) 16 false : State).lane (3 : Nat)).retirePend) ∧
    (lanePresent (((wRd 3 3 (fun x => { x with retirePend := [0] })).setBit (Reg.RFL_ADC_CTRL 3) 0 true).setBit (Reg.RFL_ADC_CTRL 3) 16 false : State) (3 : Nat) = true ∧ (((wRd 3 3 (fun x => { x with retirePend := [0] })).setBit (Reg.RFL_ADC_CTRL 3) 0 true).setBit (Reg.RFL_ADC_CTRL 3) 16 false : State).frozen (pgRFL (3 : Nat)) = false ∧ (3 : Nat) < (((wRd 3 3 (fun x => { x with retirePend := [0] })).setBit (Reg.RFL_ADC_CTRL 3) 0 true).setBit (Reg.RFL_ADC_CTRL 3) 16 false : State).rd.lanes.length ∧ (((wRd 3 3 (fun x => { x with retirePend := [0] })).setBit (Reg.RFL_ADC_CTRL 3) 0 true).setBit (Reg.RFL_ADC_CTRL 3) 16 false : State).bit (Reg.RFL_ADC_CTRL (3 : Nat)) 0 = true ∧ lstate (((wRd 3 3 (fun x => { x with retirePend := [0] })).setBit (Reg.RFL_ADC_CTRL 3) 0 true).setBit (Reg.RFL_ADC_CTRL 3) 16 false : State) (3 : Nat) ≠ 2 ∧ lstate (((wRd 3 3 (fun x => { x with retirePend := [0] })).setBit (Reg.RFL_ADC_CTRL 3) 0 true).setBit (Reg.RFL_ADC_CTRL 3) 16 false : State) (3 : Nat) ≠ 4 ∧ spareBad (((wRd 3 3 (fun x => { x with retirePend := [0] })).setBit (Reg.RFL_ADC_CTRL 3) 0 true).setBit (Reg.RFL_ADC_CTRL 3) 16 false : State) (3 : Nat) ((-5 : Int), (3 : Int), (4000 : Int)) = false ∧ spareOf (((wRd 3 3 (fun x => { x with retirePend := [0] })).setBit (Reg.RFL_ADC_CTRL 3) 0 true).setBit (Reg.RFL_ADC_CTRL 3) 16 false : State) (3 : Nat) = some (8 : Nat) ∧ slotConverter (((wRd 3 3 (fun x => { x with retirePend := [0] })).setBit (Reg.RFL_ADC_CTRL 3) 0 true).setBit (Reg.RFL_ADC_CTRL 3) 16 false : State) (3 : Nat) ((((wRd 3 3 (fun x => { x with retirePend := [0] })).setBit (Reg.RFL_ADC_CTRL 3) 0 true).setBit (Reg.RFL_ADC_CTRL 3) 16 false : State).lane (3 : Nat)).nextSlot = some (0 : Nat) ∧ (0 : Nat) ≠ (8 : Nat) ∧ ((((wRd 3 3 (fun x => { x with retirePend := [0] })).setBit (Reg.RFL_ADC_CTRL 3) 0 true).setBit (Reg.RFL_ADC_CTRL 3) 16 false : State).lane (3 : Nat)).retirePend = [(0 : Nat)]) ∧
    (lanePresent (((wRd 3 3 id).setBit (Reg.RFL_ADC_CTRL 3) 0 true).setBit (Reg.RFL_ADC_CTRL 3) 16 true : State) (3 : Nat) = true ∧ (((wRd 3 3 id).setBit (Reg.RFL_ADC_CTRL 3) 0 true).setBit (Reg.RFL_ADC_CTRL 3) 16 true : State).frozen (pgRFL (3 : Nat)) = false ∧ (3 : Nat) < (((wRd 3 3 id).setBit (Reg.RFL_ADC_CTRL 3) 0 true).setBit (Reg.RFL_ADC_CTRL 3) 16 true : State).rd.lanes.length ∧ (((wRd 3 3 id).setBit (Reg.RFL_ADC_CTRL 3) 0 true).setBit (Reg.RFL_ADC_CTRL 3) 16 true : State).bit (Reg.RFL_ADC_CTRL (3 : Nat)) 0 = true ∧ lstate (((wRd 3 3 id).setBit (Reg.RFL_ADC_CTRL 3) 0 true).setBit (Reg.RFL_ADC_CTRL 3) 16 true : State) (3 : Nat) ≠ 2 ∧ lstate (((wRd 3 3 id).setBit (Reg.RFL_ADC_CTRL 3) 0 true).setBit (Reg.RFL_ADC_CTRL 3) 16 true : State) (3 : Nat) ≠ 4 ∧ spareBad (((wRd 3 3 id).setBit (Reg.RFL_ADC_CTRL 3) 0 true).setBit (Reg.RFL_ADC_CTRL 3) 16 true : State) (3 : Nat) ((-5 : Int), (3 : Int), (4000 : Int)) = true ∧ spareOf (((wRd 3 3 id).setBit (Reg.RFL_ADC_CTRL 3) 0 true).setBit (Reg.RFL_ADC_CTRL 3) 16 true : State) (3 : Nat) = some (8 : Nat) ∧ subRole (((wRd 3 3 id).setBit (Reg.RFL_ADC_CTRL 3) 0 true).setBit (Reg.RFL_ADC_CTRL 3) 16 true : State) (3 : Nat) (8 : Nat) ≠ 2 ∧ ((((wRd 3 3 id).setBit (Reg.RFL_ADC_CTRL 3) 0 true).setBit (Reg.RFL_ADC_CTRL 3) 16 true : State).lane (3 : Nat)).retirePend = []) ∧
    ((State.reset.setBit (Reg.RFL_ADC_CTRL 3) 0 false : State).wf = true ∧ (lanePresent (State.reset.setBit (Reg.RFL_ADC_CTRL 3) 0 false : State) (3 : Nat) = false ∨ (State.reset.setBit (Reg.RFL_ADC_CTRL 3) 0 false : State).frozen (pgRFL (3 : Nat)) = true ∨ (State.reset.setBit (Reg.RFL_ADC_CTRL 3) 0 false : State).bit (Reg.RFL_ADC_CTRL (3 : Nat)) 0 = false ∨ (lstate (State.reset.setBit (Reg.RFL_ADC_CTRL 3) 0 false : State) (3 : Nat) ≠ 2 ∧ lstate (State.reset.setBit (Reg.RFL_ADC_CTRL 3) 0 false : State) (3 : Nat) ≠ 4 ∧ spareOf (State.reset.setBit (Reg.RFL_ADC_CTRL 3) 0 false : State) (3 : Nat) = none))) := by
  refine ⟨?_, ?_, ?_, ?_, ?_, ?_, ?_, ?_, ?_, ?_, ?_, ?_, ?_, ?_, ?_, ?_, ?_, ?_, ?_, ?_, ?_, ?_, ?_, ?_, ?_, ?_⟩ <;> decide +kernel

/-- The hypotheses of Obligations.DetectionDecodesAndReleases can be met, clause by clause. -/
theorem witness_DetectionDecodesAndReleases :
    ((State.reset : State).frozen pgDSK = false ∧ tileNext (State.reset : State) ((9 : Nat) / 8 % 128) (127 : Nat) (0 : Nat) = true ∧ lanesMissing (State.reset : State) ((9 : Nat) / 8 % 128) (127 : Nat) (0 : Nat) = []) ∧
    (((State.reset.setRd { State.reset.rd with tiles := some (1, 5, 3), work := [⟨0, 8, 5, 3, [0, 0, 0, 0], [0, 0, 0, 0], []⟩] }).setReg Reg.DET_WS_SLOTS 2#32 : State).frozen pgDSK = false ∧ tileNext ((State.reset.setRd { State.reset.rd with tiles := some (1, 5, 3), work := [⟨0, 8, 5, 3, [0, 0, 0, 0], [0, 0, 0, 0], []⟩] }).setReg Reg.DET_WS_SLOTS 2#32 : State) ((9 : Nat) / 8 % 128) (5 : Nat) (3 : Nat) = true ∧ lanesMissing ((State.reset.setRd { State.reset.rd with tiles := some (1, 5, 3), work := [⟨0, 8, 5, 3, [0, 0, 0, 0], [0, 0, 0, 0], []⟩] }).setReg Reg.DET_WS_SLOTS 2#32 : State) ((9 : Nat) / 8 % 128) (5 : Nat) (3 : Nat) = [] ∧ ((State.reset.setRd { State.reset.rd with tiles := some (1, 5, 3), work := [⟨0, 8, 5, 3, [0, 0, 0, 0], [0, 0, 0, 0], []⟩] }).setReg Reg.DET_WS_SLOTS 2#32 : State).frozen pgDET = false ∧ ((State.reset.setRd { State.reset.rd with tiles := some (1, 5, 3), work := [⟨0, 8, 5, 3, [0, 0, 0, 0], [0, 0, 0, 0], []⟩] }).setReg Reg.DET_WS_SLOTS 2#32 : State).fld Reg.DET_WS_SLOTS 0 3 ≠ 0 ∧ ((State.reset.setRd { State.reset.rd with tiles := some (1, 5, 3), work := [⟨0, 8, 5, 3, [0, 0, 0, 0], [0, 0, 0, 0], []⟩] }).setReg Reg.DET_WS_SLOTS 2#32 : State).rd.work = [(⟨0, 8, 5, 3, [0, 0, 0, 0], [0, 0, 0, 0], []⟩ : WorkSlot)] ∧ (⟨0, 8, 5, 3, [0, 0, 0, 0], [0, 0, 0, 0], []⟩ : WorkSlot).psa / 8 = (9 : Nat) / 8 ∧ (⟨0, 8, 5, 3, [0, 0, 0, 0], [0, 0, 0, 0], []⟩ : WorkSlot).pos = (5 : Nat) ∧ (3 : Nat) + 1 < 225) ∧
    ((State.reset : State).wf = true ∧ ((State.reset : State).frozen pgDSK = true ∨ tileNext (State.reset : State) ((9 : Nat) / 8 % 128) (127 : Nat) (1 : Nat) = false ∨ lanesMissing (State.reset : State) ((9 : Nat) / 8 % 128) (127 : Nat) (1 : Nat) ≠ [])) ∧
    ((wRd 1 3 (fun x => { x with pay := [⟨1, 0, 0, [], [], false⟩, ⟨1, 1, 0, [], [], false⟩] }) : State).frozen pgDSK = false ∧ tileNext (wRd 1 3 (fun x => { x with pay := [⟨1, 0, 0, [], [], false⟩, ⟨1, 1, 0, [], [], false⟩] }) : State) ((9 : Nat) / 8 % 128) (0 : Nat) (0 : Nat) = true ∧ (lanesMissing (wRd 1 3 (fun x => { x with pay := [⟨1, 0, 0, [], [], false⟩, ⟨1, 1, 0, [], [], false⟩] }) : State) ((9 : Nat) / 8 % 128) (0 : Nat) (0 : Nat)).any (fun j => lateDue (wRd 1 3 (fun x => { x with pay := [⟨1, 0, 0, [], [], false⟩, ⟨1, 1, 0, [], [], false⟩] }) : State) j ((9 : Nat) / 8 % 128) (0 : Nat) (0 : Nat)) = true ∧ lanePresent (wRd 1 3 (fun x => { x with pay := [⟨1, 0, 0, [], [], false⟩, ⟨1, 1, 0, [], [], false⟩] }) : State) (3 : Nat) = true ∧ (3 : Nat) ∈ lanesMissing (wRd 1 3 (fun x => { x with pay := [⟨1, 0, 0, [], [], false⟩, ⟨1, 1, 0, [], [], false⟩] }) : State) ((9 : Nat) / 8 % 128) (0 : Nat) (0 : Nat)) ∧
    ((State.reset : State).wf = true ∧ ((State.reset : State).frozen pgDSK = true ∨ tileNext (State.reset : State) ((9 : Nat) / 8 % 128) (127 : Nat) (0 : Nat) = false ∨ (lanesMissing (State.reset : State) ((9 : Nat) / 8 % 128) (127 : Nat) (0 : Nat)).all (fun j => !lateDue (State.reset : State) j ((9 : Nat) / 8 % 128) (127 : Nat) (0 : Nat)) = true)) ∧
    (((wRd 3 3 id).setRd { (wRd 3 3 id).rd with work := [⟨0, 8, 5, 225, [0, 0, 0, 0], [0, 0, 0, 0], wSoft .fg⟩] } : State).frozen pgDET = false ∧ (0 : Nat) < 8 ∧ ((wRd 3 3 id).setRd { (wRd 3 3 id).rd with work := [⟨0, 8, 5, 225, [0, 0, 0, 0], [0, 0, 0, 0], wSoft .fg⟩] } : State).rd.work.find? (fun x => x.slot == (0 : Nat)) = some (⟨0, 8, 5, 225, [0, 0, 0, 0], [0, 0, 0, 0], wSoft .fg⟩ : WorkSlot) ∧ 225 ≤ (⟨0, 8, 5, 225, [0, 0, 0, 0], [0, 0, 0, 0], wSoft .fg⟩ : WorkSlot).tiles ∧ (∃ x ∈ (⟨0, 8, 5, 225, [0, 0, 0, 0], [0, 0, 0, 0], wSoft .fg⟩ : WorkSlot).lanes, x.open_ = true) ∧ (∀ x ∈ (⟨0, 8, 5, 225, [0, 0, 0, 0], [0, 0, 0, 0], wSoft .fg⟩ : WorkSlot).lanes, x.open_ = true → roundReady ((wRd 3 3 id).setRd { (wRd 3 3 id).rd with work := [⟨0, 8, 5, 225, [0, 0, 0, 0], [0, 0, 0, 0], wSoft .fg⟩] } : State) (⟨0, 8, 5, 225, [0, 0, 0, 0], [0, 0, 0, 0], wSoft .fg⟩ : WorkSlot).psa (⟨0, 8, 5, 225, [0, 0, 0, 0], [0, 0, 0, 0], wSoft .fg⟩ : WorkSlot).pos x = true)) ∧
    (((wGroup freshStrip).setRd { (wGroup freshStrip).rd with ring := [⟨5, 1, 3, [], wSoft .recovery, true⟩] } : State).frozen pgDET = false ∧ 8 ≤ (13 : Nat) ∧ ((wGroup freshStrip).setRd { (wGroup freshStrip).rd with ring := [⟨5, 1, 3, [], wSoft .recovery, true⟩] } : State).rd.ring.find? (fun x => x.slot == (13 : Nat) - 8) = some (⟨5, 1, 3, [], wSoft .recovery, true⟩ : RingSlot) ∧ ((wGroup freshStrip).setRd { (wGroup freshStrip).rd with ring := [⟨5, 1, 3, [], wSoft .recovery, true⟩] } : State).rd.groups.find? (fun x => x.psa / 8 % 128 == (⟨5, 1, 3, [], wSoft .recovery, true⟩ : RingSlot).group) = some (wGroup1 freshStrip : GroupRead) ∧ (∃ x ∈ (⟨5, 1, 3, [], wSoft .recovery, true⟩ : RingSlot).lanes, x.open_ = true) ∧ (∀ x ∈ (⟨5, 1, 3, [], wSoft .recovery, true⟩ : RingSlot).lanes, x.open_ = true → roundReady ((wGroup freshStrip).setRd { (wGroup freshStrip).rd with ring := [⟨5, 1, 3, [], wSoft .recovery, true⟩] } : State) (wGroup1 freshStrip : GroupRead).psa (⟨5, 1, 3, [], wSoft .recovery, true⟩ : RingSlot).pos x = true)) ∧
    ((State.reset : State).wf = true ∧ ((State.reset : State).frozen pgDET = true ∨ ((0 : Nat) < 8 ∧ ∀ w ∈ (State.reset : State).rd.work, w.slot = (0 : Nat) → w.tiles < 225 ∨ ∀ x ∈ w.lanes, x.open_ = false) ∨ (8 ≤ (0 : Nat) ∧ ∀ r ∈ (State.reset : State).rd.ring, r.slot = (0 : Nat) - 8 → ∀ x ∈ r.lanes, x.open_ = false))) ∧
    ((wLoadable .fg 63 : State).frozen pgLDPC = false ∧ (.fg : CwKind) = (if (0 : Nat) = 0 then .fg else if (0 : Nat) = 1 then .draw else .recovery) ∧ softOf (wLoadable .fg 63 : State) (.fg : CwKind) (8 : Nat) (3 : Nat) (5 : Nat) = some (wSoft1 .fg : LaneSoft) ∧ (wSoft1 .fg : LaneSoft).due = true ∧ (wSoft1 .fg : LaneSoft).fin = false ∧ findCw (wLoadable .fg 63 : State) (.fg : CwKind) (8 : Nat) (3 : Nat) (5 : Nat) = none ∧ ((.fg : CwKind) = .recovery → recoveryHeld (wLoadable .fg 63 : State) < (wLoadable .fg 63 : State).fld Reg.LDPC_SCHED 0 6) ∧ freeCwSlot (wLoadable .fg 63 : State) = some (63 : Nat)) ∧
    (((wLoadable .fg 0).setRd { (wLoadable .fg 0).rd with cws := [{ wCw 9 .fg with psa := 8, spiral := 3, pos := 5 }] } : State).frozen pgLDPC = false ∧ (.fg : CwKind) = (if (0 : Nat) = 0 then .fg else if (0 : Nat) = 1 then .draw else .recovery) ∧ softOf ((wLoadable .fg 0).setRd { (wLoadable .fg 0).rd with cws := [{ wCw 9 .fg with psa := 8, spiral := 3, pos := 5 }] } : State) (.fg : CwKind) (8 : Nat) (3 : Nat) (5 : Nat) = some (wSoft1 .fg : LaneSoft) ∧ (wSoft1 .fg : LaneSoft).due = true ∧ (wSoft1 .fg : LaneSoft).fin = false ∧ findCw ((wLoadable .fg 0).setRd { (wLoadable .fg 0).rd with cws := [{ wCw 9 .fg with psa := 8, spiral := 3, pos := 5 }] } : State) (.fg : CwKind) (8 : Nat) (3 : Nat) (5 : Nat) = some ({ wCw 9 .fg with psa := 8, spiral := 3, pos := 5 } : Codeword) ∧ (9 : Nat) = ({ wCw 9 .fg with psa := 8, spiral := 3, pos := 5 } : Codeword).slot) ∧
    ((wLoadable .fg 64 : State).frozen pgLDPC = false ∧ (.fg : CwKind) = (if (0 : Nat) = 0 then .fg else if (0 : Nat) = 1 then .draw else .recovery) ∧ softOf (wLoadable .fg 64 : State) (.fg : CwKind) (8 : Nat) (3 : Nat) (5 : Nat) = some (wSoft1 .fg : LaneSoft) ∧ (wSoft1 .fg : LaneSoft).due = true ∧ (wSoft1 .fg : LaneSoft).fin = false ∧ (.fg : CwKind) ≠ .recovery ∧ findCw (wLoadable .fg 64 : State) (.fg : CwKind) (8 : Nat) (3 : Nat) (5 : Nat) = none ∧ freeCwSlot (wLoadable .fg 64 : State) = none ∧ lastRecovery (wLoadable .fg 64 : State) = some (wCw 63 .recovery : Codeword) ∧ (63 : Nat) = (wCw 63 .recovery : Codeword).slot) ∧
    ((State.reset : State).wf = true ∧ (.fg : CwKind) = (if (0 : Nat) = 0 then .fg else if (0 : Nat) = 1 then .draw else .recovery) ∧ ((State.reset : State).frozen pgLDPC = true ∨ softOf (State.reset : State) (.fg : CwKind) (8 : Nat) (3 : Nat) (127 : Nat) = none ∨ (∃ x ∈ softOf (State.reset : State) (.fg : CwKind) (8 : Nat) (3 : Nat) (127 : Nat), x.due = false ∨ x.fin = true) ∨ (findCw (State.reset : State) (.fg : CwKind) (8 : Nat) (3 : Nat) (127 : Nat) = none ∧ ((.fg : CwKind) = .recovery ∧ (State.reset : State).fld Reg.LDPC_SCHED 0 6 ≤ recoveryHeld (State.reset : State) ∨ freeCwSlot (State.reset : State) = none ∧ ((.fg : CwKind) = .recovery ∨ lastRecovery (State.reset : State) = none))))) ∧
    ((wCore (wCwOk 1 .fg) : State).frozen pgLDPC = false ∧ (wCore (wCwOk 1 .fg) : State).rd.cws.find? (fun x => x.core == some (5 : Nat)) = some (wCwOk 1 .fg : Codeword) ∧ (wCwOk 1 .fg : Codeword).kind ≠ .draw ∧ setJudged (wCore (wCwOk 1 .fg) : State) (wCwOk 1 .fg : Codeword) = some ((setJudged (wCore (wCwOk 1 .fg)) (wCwOk 1 .fg)).getD .noconv : SectorFinal)) ∧
    ((wCore (wCwBad 1 .fg) : State).frozen pgLDPC = false ∧ (wCore (wCwBad 1 .fg) : State).rd.cws.find? (fun x => x.core == some (5 : Nat)) = some (wCwBad 1 .fg : Codeword) ∧ (wCwBad 1 .fg : Codeword).kind ≠ .draw ∧ setJudged (wCore (wCwBad 1 .fg) : State) (wCwBad 1 .fg : Codeword) = none ∧ setSpent (wCore (wCwBad 1 .fg) : State) (wCwBad 1 .fg : Codeword) = true) ∧
    ((wCore (wCwBad 1 .draw) : State).frozen pgLDPC = false ∧ (wCore (wCwBad 1 .draw) : State).rd.cws.find? (fun x => x.core == some (5 : Nat)) = some (wCwBad 1 .draw : Codeword) ∧ (wCwBad 1 .draw : Codeword).kind = .draw ∧ (setJudged (wCore (wCwBad 1 .draw) : State) (wCwBad 1 .draw : Codeword) ≠ none ∨ setSpent (wCore (wCwBad 1 .draw) : State) (wCwBad 1 .draw : Codeword) = true)) ∧
    ((wCore { wCw 1 .fg with core := some 5 } : State).frozen pgLDPC = false ∧ (wCore { wCw 1 .fg with core := some 5 } : State).rd.cws.find? (fun x => x.core == some (5 : Nat)) = some ({ wCw 1 .fg with core := some 5 } : Codeword) ∧ setJudged (wCore { wCw 1 .fg with core := some 5 } : State) ({ wCw 1 .fg with core := some 5 } : Codeword) = none ∧ setSpent (wCore { wCw 1 .fg with core := some 5 } : State) ({ wCw 1 .fg with core := some 5 } : Codeword) = false) ∧
    ((State.reset : State).wf = true ∧ ((State.reset : State).frozen pgLDPC = true ∨ ∀ c ∈ (State.reset : State).rd.cws, c.core ≠ some (5 : Nat))) ∧
    ((State.reset : State).frozen pgLDPC = false ∧ (5 : Nat) < 6 ∧ (State.reset : State).fld (Reg.LDPC_CORE_STAT (5 : Nat)) 0 2 ≠ 2) ∧
    ((State.reset.setReg (Reg.LDPC_CORE_STAT 5) 2#32 : State).wf = true ∧ ((State.reset.setReg (Reg.LDPC_CORE_STAT 5) 2#32 : State).frozen pgLDPC = true ∨ 6 ≤ (5 : Nat) ∨ (State.reset.setReg (Reg.LDPC_CORE_STAT 5) 2#32 : State).fld (Reg.LDPC_CORE_STAT (5 : Nat)) 0 2 = 2)) := by
  refine ⟨?_, ?_, ?_, ?_, ?_, ?_, ?_, ?_, ?_, ?_, ?_, ?_, ⟨by decide +kernel, rfl, by decide +kernel, wJudgedRun _ _ rfl rfl⟩, ?_, ?_, ?_, ?_, ?_, ?_⟩ <;> decide +kernel

/-- The hypotheses of Obligations.StripsAreArmedDecodedAndRecovered can be met, clause by clause. -/
theorem witness_StripsAreArmedDecodedAndRecovered :
    (Takes (wSlots : State) (.sup : Master) Reg.DET_ARM_TAG (0xFFFFFFFF : Word) (newOf (wSlots : State) (.sup : Master) Reg.DET_ARM_TAG (0xFFFFFFFF : Word) : Word) ∧ (wSlots : State).rd.groups.length < 2 ∧ 8 ≤ (freeStripSlots (wSlots : State)).length) ∧
    (Takes (wSlots.setRd { wSlots.rd with groups := (wGroup freshStrip).rd.groups ++ (wGroup freshStrip).rd.groups } : State) (.sup : Master) Reg.DET_ARM_TAG (1 : Word) (newOf (wSlots.setRd { wSlots.rd with groups := (wGroup freshStrip).rd.groups ++ (wGroup freshStrip).rd.groups } : State) (.sup : Master) Reg.DET_ARM_TAG (1 : Word) : Word) ∧ 2 ≤ (wSlots.setRd { wSlots.rd with groups := (wGroup freshStrip).rd.groups ++ (wGroup freshStrip).rd.groups } : State).rd.groups.length) ∧
    (Takes (State.reset.setReg Reg.STRP_RSA_SLOTS 7#32 : State) (.sup : Master) Reg.DET_ARM_TAG (1 : Word) (newOf (State.reset.setReg Reg.STRP_RSA_SLOTS 7#32 : State) (.sup : Master) Reg.DET_ARM_TAG (1 : Word) : Word) ∧ (State.reset.setReg Reg.STRP_RSA_SLOTS 7#32 : State).rd.groups.length < 2 ∧ (freeStripSlots (State.reset.setReg Reg.STRP_RSA_SLOTS 7#32 : State)).length < 8) ∧
    (Takes ((wGroup freshStrip) : State) (.sup : Master) Reg.STRP_RSA_REL (255 : Word) (newOf ((wGroup freshStrip) : State) (.sup : Master) Reg.STRP_RSA_REL (255 : Word) : Word)) ∧
    ((wGroup wGood : State).frozen pgSTRP = false ∧ groupRead (wGroup wGood : State) (15 : Nat) = some (wGroup1 wGood : GroupRead) ∧ stripRead (wGroup wGood : State) (15 : Nat) = some (wGood : StripRead) ∧ (∀ f ∈ (wGood : StripRead).fins, f ≠ none) ∧ (wGood : StripRead).laneLostSectors = [] ∧ (wGood : StripRead).ended = none ∧ (wGood : StripRead).rung = 0 ∧ (wGroup1 wGood : GroupRead).again = false ∧ (decodeStrip (wGroup wGood : State) (wGroup1 wGood : GroupRead) (15 : Nat) (wGood : StripRead)).1 = some (0 : Nat)) ∧
    (((wGroup (wBad 0)).setRd { (wGroup (wBad 0)).rd with groups := [{ wGroup1 (wBad 0) with strips := List.replicate 7 { wBad 0 with laneLostSectors := [5] } ++ [wBad 0] }] } : State).frozen pgSTRP = false ∧ groupRead ((wGroup (wBad 0)).setRd { (wGroup (wBad 0)).rd with groups := [{ wGroup1 (wBad 0) with strips := List.replicate 7 { wBad 0 with laneLostSectors := [5] } ++ [wBad 0] }] } : State) (15 : Nat) = some ({ wGroup1 (wBad 0) with strips := List.replicate 7 { wBad 0 with laneLostSectors := [5] } ++ [wBad 0] } : GroupRead) ∧ stripRead ((wGroup (wBad 0)).setRd { (wGroup (wBad 0)).rd with groups := [{ wGroup1 (wBad 0) with strips := List.replicate 7 { wBad 0 with laneLostSectors := [5] } ++ [wBad 0] }] } : State) (15 : Nat) = some (wBad 0 : StripRead) ∧ (∀ f ∈ (wBad 0 : StripRead).fins, f ≠ none) ∧ (wBad 0 : StripRead).laneLostSectors = [] ∧ (wBad 0 : StripRead).ended = none ∧ (wBad 0 : StripRead).rung = 0 ∧ ({ wGroup1 (wBad 0) with strips := List.replicate 7 { wBad 0 with laneLostSectors := [5] } ++ [wBad 0] } : GroupRead).again = false ∧ (decodeStrip ((wGroup (wBad 0)).setRd { (wGroup (wBad 0)).rd with groups := [{ wGroup1 (wBad 0) with strips := List.replicate 7 { wBad 0 with laneLostSectors := [5] } ++ [wBad 0] }] } : State) ({ wGroup1 (wBad 0) with strips := List.replicate 7 { wBad 0 with laneLostSectors := [5] } ++ [wBad 0] } : GroupRead) (15 : Nat) (wBad 0 : StripRead)).1 = none ∧ laneWaits ({ wGroup1 (wBad 0) with strips := List.replicate 7 { wBad 0 with laneLostSectors := [5] } ++ [wBad 0] } : GroupRead) = true) ∧
    ((wGroup (wBad 0) : State).frozen pgSTRP = false ∧ groupRead (wGroup (wBad 0) : State) (15 : Nat) = some (wGroup1 (wBad 0) : GroupRead) ∧ stripRead (wGroup (wBad 0) : State) (15 : Nat) = some (wBad 0 : StripRead) ∧ (∀ f ∈ (wBad 0 : StripRead).fins, f ≠ none) ∧ (wBad 0 : StripRead).laneLostSectors = [] ∧ (wBad 0 : StripRead).ended = none ∧ (wBad 0 : StripRead).rung = 0 ∧ (wGroup1 (wBad 0) : GroupRead).again = false ∧ (decodeStrip (wGroup (wBad 0) : State) (wGroup1 (wBad 0) : GroupRead) (15 : Nat) (wBad 0 : StripRead)).1 = none ∧ laneWaits (wGroup1 (wBad 0) : GroupRead) = false ∧ (wGroup1 (wBad 0) : GroupRead).wanted.testBit ((15 : Nat) % 8) = true ∧ nextRung (wGroup (wBad 0) : State) (15 : Nat) (wBad 0 : StripRead) 0 6 = some ((nextRung (wGroup (wBad 0)) 15 (wBad 0) 0 6).getD 9 : Nat)) ∧
    (((wGroup (wBad 0)).setReg Reg.DET_RETRY 0#32 : State).frozen pgSTRP = false ∧ groupRead ((wGroup (wBad 0)).setReg Reg.DET_RETRY 0#32 : State) (15 : Nat) = some (wGroup1 (wBad 0) : GroupRead) ∧ stripRead ((wGroup (wBad 0)).setReg Reg.DET_RETRY 0#32 : State) (15 : Nat) = some (wBad 0 : StripRead) ∧ (∀ f ∈ (wBad 0 : StripRead).fins, f ≠ none) ∧ (wBad 0 : StripRead).laneLostSectors = [] ∧ (wBad 0 : StripRead).ended = none ∧ (wBad 0 : StripRead).rung = 0 ∧ (wGroup1 (wBad 0) : GroupRead).again = false ∧ (decodeStrip ((wGroup (wBad 0)).setReg Reg.DET_RETRY 0#32 : State) (wGroup1 (wBad 0) : GroupRead) (15 : Nat) (wBad 0 : StripRead)).1 = none ∧ laneWaits (wGroup1 (wBad 0) : GroupRead) = false ∧ (((wGroup1 (wBad 0) : GroupRead).wanted.testBit ((15 : Nat) % 8) = true ∧ nextRung ((wGroup (wBad 0)).setReg Reg.DET_RETRY 0#32 : State) (15 : Nat) (wBad 0 : StripRead) 0 6 = none) ∨ ((wGroup1 (wBad 0) : GroupRead).wanted.testBit ((15 : Nat) % 8) = false ∧ (wGroup1 (wBad 0) : GroupRead).patrol = true))) ∧
    (((wGroup (wBad 0)).setRd { (wGroup (wBad 0)).rd with groups := [{ wGroup1 (wBad 0) with wanted := 0 }] } : State).frozen pgSTRP = false ∧ groupRead ((wGroup (wBad 0)).setRd { (wGroup (wBad 0)).rd with groups := [{ wGroup1 (wBad 0) with wanted := 0 }] } : State) (15 : Nat) = some ({ wGroup1 (wBad 0) with wanted := 0 } : GroupRead) ∧ stripRead ((wGroup (wBad 0)).setRd { (wGroup (wBad 0)).rd with groups := [{ wGroup1 (wBad 0) with wanted := 0 }] } : State) (15 : Nat) = some (wBad 0 : StripRead) ∧ (∀ f ∈ (wBad 0 : StripRead).fins, f ≠ none) ∧ (wBad 0 : StripRead).laneLostSectors = [] ∧ (wBad 0 : StripRead).ended = none ∧ (wBad 0 : StripRead).rung = 0 ∧ ({ wGroup1 (wBad 0) with wanted := 0 } : GroupRead).again = false ∧ (decodeStrip ((wGroup (wBad 0)).setRd { (wGroup (wBad 0)).rd with groups := [{ wGroup1 (wBad 0) with wanted := 0 }] } : State) ({ wGroup1 (wBad 0) with wanted := 0 } : GroupRead) (15 : Nat) (wBad 0 : StripRead)).1 = none ∧ laneWaits ({ wGroup1 (wBad 0) with wanted := 0 } : GroupRead) = false ∧ ({ wGroup1 (wBad 0) with wanted := 0 } : GroupRead).wanted.testBit ((15 : Nat) % 8) = false ∧ ({ wGroup1 (wBad 0) with wanted := 0 } : GroupRead).patrol = false) ∧
    ((wGroup freshStrip : State).wf = true ∧ ((wGroup freshStrip : State).frozen pgSTRP = true ∨ stripRead (wGroup freshStrip : State) (15 : Nat) = none ∨ (∃ g ∈ groupRead (wGroup freshStrip : State) (15 : Nat), g.again = true) ∨ ∃ x ∈ stripRead (wGroup freshStrip : State) (15 : Nat), none ∈ x.fins ∨ x.laneLostSectors ≠ [] ∨ x.ended ≠ none ∨ x.rung ≠ 0)) ∧
    ((wGroup (wMended 5) : State).frozen pgDET = false ∧ groupRead (wGroup (wMended 5) : State) (15 : Nat) = some (wGroup1 (wMended 5) : GroupRead) ∧ stripRead (wGroup (wMended 5) : State) (15 : Nat) = some (wMended 5 : StripRead) ∧ (wMended 5 : StripRead).rung ≠ 0 ∧ (wMended 5 : StripRead).ended = none ∧ stepEnds (wGroup (wMended 5) : State) (wGroup1 (wMended 5) : GroupRead) (15 : Nat) (wMended 5 : StripRead) = true ∧ stripRead (stepDone (15 : Nat) (wMended 5 : StripRead) (wGroup (wMended 5) : State)) (15 : Nat) = some ((stripRead (stepDone 15 (wMended 5) (wGroup (wMended 5))) 15).getD freshStrip : StripRead) ∧ (stepDecode (stepDone (15 : Nat) (wMended 5 : StripRead) (wGroup (wMended 5) : State)) (wGroup1 (wMended 5) : GroupRead) (15 : Nat) (ladderStep (wMended 5 : StripRead)) ((stripRead (stepDone 15 (wMended 5) (wGroup (wMended 5))) 15).getD freshStrip : StripRead)).1 = some (3 : Nat)) ∧
    ((wGroup (wTmax 3) : State).frozen pgDET = false ∧ groupRead (wGroup (wTmax 3) : State) (15 : Nat) = some (wGroup1 (wTmax 3) : GroupRead) ∧ stripRead (wGroup (wTmax 3) : State) (15 : Nat) = some (wTmax 3 : StripRead) ∧ (wTmax 3 : StripRead).rung ≠ 0 ∧ (wTmax 3 : StripRead).ended = none ∧ stepEnds (wGroup (wTmax 3) : State) (wGroup1 (wTmax 3) : GroupRead) (15 : Nat) (wTmax 3 : StripRead) = true ∧ stripRead (stepDone (15 : Nat) (wTmax 3 : StripRead) (wGroup (wTmax 3) : State)) (15 : Nat) = some ((stripRead (stepDone 15 (wTmax 3) (wGroup (wTmax 3))) 15).getD freshStrip : StripRead) ∧ (stepDecode (stepDone (15 : Nat) (wTmax 3 : StripRead) (wGroup (wTmax 3) : State)) (wGroup1 (wTmax 3) : GroupRead) (15 : Nat) (ladderStep (wTmax 3 : StripRead)) ((stripRead (stepDone 15 (wTmax 3) (wGroup (wTmax 3))) 15).getD freshStrip : StripRead)).1 = none ∧ ladderStops (stepDecode (stepDone (15 : Nat) (wTmax 3 : StripRead) (wGroup (wTmax 3) : State)) (wGroup1 (wTmax 3) : GroupRead) (15 : Nat) (ladderStep (wTmax 3 : StripRead)) ((stripRead (stepDone 15 (wTmax 3) (wGroup (wTmax 3))) 15).getD freshStrip : StripRead)).2 (15 : Nat) ((stripRead (stepDone 15 (wTmax 3) (wGroup (wTmax 3))) 15).getD freshStrip : StripRead) = true) ∧
    ((wGroup (wBad 3) : State).frozen pgDET = false ∧ groupRead (wGroup (wBad 3) : State) (15 : Nat) = some (wGroup1 (wBad 3) : GroupRead) ∧ stripRead (wGroup (wBad 3) : State) (15 : Nat) = some (wBad 3 : StripRead) ∧ (wBad 3 : StripRead).rung ≠ 0 ∧ (wBad 3 : StripRead).ended = none ∧ stepEnds (wGroup (wBad 3) : State) (wGroup1 (wBad 3) : GroupRead) (15 : Nat) (wBad 3 : StripRead) = true ∧ stripRead (stepDone (15 : Nat) (wBad 3 : StripRead) (wGroup (wBad 3) : State)) (15 : Nat) = some ((stripRead (stepDone 15 (wBad 3) (wGroup (wBad 3))) 15).getD freshStrip : StripRead) ∧ (stepDecode (stepDone (15 : Nat) (wBad 3 : StripRead) (wGroup (wBad 3) : State)) (wGroup1 (wBad 3) : GroupRead) (15 : Nat) (ladderStep (wBad 3 : StripRead)) ((stripRead (stepDone 15 (wBad 3) (wGroup (wBad 3))) 15).getD freshStrip : StripRead)).1 = none ∧ ladderStops (stepDecode (stepDone (15 : Nat) (wBad 3 : StripRead) (wGroup (wBad 3) : State)) (wGroup1 (wBad 3) : GroupRead) (15 : Nat) (ladderStep (wBad 3 : StripRead)) ((stripRead (stepDone 15 (wBad 3) (wGroup (wBad 3))) 15).getD freshStrip : StripRead)).2 (15 : Nat) ((stripRead (stepDone 15 (wBad 3) (wGroup (wBad 3))) 15).getD freshStrip : StripRead) = false ∧ (wBad 3 : StripRead).rung < 4 ∧ nextRung (stepDecode (stepDone (15 : Nat) (wBad 3 : StripRead) (wGroup (wBad 3) : State)) (wGroup1 (wBad 3) : GroupRead) (15 : Nat) (ladderStep (wBad 3 : StripRead)) ((stripRead (stepDone 15 (wBad 3) (wGroup (wBad 3))) 15).getD freshStrip : StripRead)).2 (15 : Nat) ((stripRead (stepDone 15 (wBad 3) (wGroup (wBad 3))) 15).getD freshStrip : StripRead) (wBad 3 : StripRead).rung 6 = some (4 : Nat)) ∧
    (((wGroup (wBad 2)).setReg Reg.DET_RETRY 0#32 : State).frozen pgDET = false ∧ groupRead ((wGroup (wBad 2)).setReg Reg.DET_RETRY 0#32 : State) (15 : Nat) = some (wGroup1 (wBad 2) : GroupRead) ∧ stripRead ((wGroup (wBad 2)).setReg Reg.DET_RETRY 0#32 : State) (15 : Nat) = some (wBad 2 : StripRead) ∧ (wBad 2 : StripRead).rung ≠ 0 ∧ (wBad 2 : StripRead).ended = none ∧ stepEnds ((wGroup (wBad 2)).setReg Reg.DET_RETRY 0#32 : State) (wGroup1 (wBad 2) : GroupRead) (15 : Nat) (wBad 2 : StripRead) = true ∧ stripRead (stepDone (15 : Nat) (wBad 2 : StripRead) ((wGroup (wBad 2)).setReg Reg.DET_RETRY 0#32 : State)) (15 : Nat) = some ((stripRead (stepDone 15 (wBad 2) ((wGroup (wBad 2)).setReg Reg.DET_RETRY 0#32)) 15).getD freshStrip : StripRead) ∧ (stepDecode (stepDone (15 : Nat) (wBad 2 : StripRead) ((wGroup (wBad 2)).setReg Reg.DET_RETRY 0#32 : State)) (wGroup1 (wBad 2) : GroupRead) (15 : Nat) (ladderStep (wBad 2 : StripRead)) ((stripRead (stepDone 15 (wBad 2) ((wGroup (wBad 2)).setReg Reg.DET_RETRY 0#32)) 15).getD freshStrip : StripRead)).1 = none ∧ ladderStops (stepDecode (stepDone (15 : Nat) (wBad 2 : StripRead) ((wGroup (wBad 2)).setReg Reg.DET_RETRY 0#32 : State)) (wGroup1 (wBad 2) : GroupRead) (15 : Nat) (ladderStep (wBad 2 : StripRead)) ((stripRead (stepDone 15 (wBad 2) ((wGroup (wBad 2)).setReg Reg.DET_RETRY 0#32)) 15).getD freshStrip : StripRead)).2 (15 : Nat) ((stripRead (stepDone 15 (wBad 2) ((wGroup (wBad 2)).setReg Reg.DET_RETRY 0#32)) 15).getD freshStrip : StripRead) = false ∧ (wBad 2 : StripRead).rung < 4 ∧ nextRung (stepDecode (stepDone (15 : Nat) (wBad 2 : StripRead) ((wGroup (wBad 2)).setReg Reg.DET_RETRY 0#32 : State)) (wGroup1 (wBad 2) : GroupRead) (15 : Nat) (ladderStep (wBad 2 : StripRead)) ((stripRead (stepDone 15 (wBad 2) ((wGroup (wBad 2)).setReg Reg.DET_RETRY 0#32)) 15).getD freshStrip : StripRead)).2 (15 : Nat) ((stripRead (stepDone 15 (wBad 2) ((wGroup (wBad 2)).setReg Reg.DET_RETRY 0#32)) 15).getD freshStrip : StripRead) (wBad 2 : StripRead).rung 6 = none) ∧
    (((wGroup (wBad 4)).setBit Reg.STRP_CTRL 1 true : State).frozen pgDET = false ∧ groupRead ((wGroup (wBad 4)).setBit Reg.STRP_CTRL 1 true : State) (15 : Nat) = some (wGroup1 (wBad 4) : GroupRead) ∧ stripRead ((wGroup (wBad 4)).setBit Reg.STRP_CTRL 1 true : State) (15 : Nat) = some (wBad 4 : StripRead) ∧ (wBad 4 : StripRead).rung ≠ 0 ∧ (wBad 4 : StripRead).ended = none ∧ stepEnds ((wGroup (wBad 4)).setBit Reg.STRP_CTRL 1 true : State) (wGroup1 (wBad 4) : GroupRead) (15 : Nat) (wBad 4 : StripRead) = true ∧ stripRead (stepDone (15 : Nat) (wBad 4 : StripRead) ((wGroup (wBad 4)).setBit Reg.STRP_CTRL 1 true : State)) (15 : Nat) = some ((stripRead (stepDone 15 (wBad 4) ((wGroup (wBad 4)).setBit Reg.STRP_CTRL 1 true)) 15).getD freshStrip : StripRead) ∧ (stepDecode (stepDone (15 : Nat) (wBad 4 : StripRead) ((wGroup (wBad 4)).setBit Reg.STRP_CTRL 1 true : State)) (wGroup1 (wBad 4) : GroupRead) (15 : Nat) (ladderStep (wBad 4 : StripRead)) ((stripRead (stepDone 15 (wBad 4) ((wGroup (wBad 4)).setBit Reg.STRP_CTRL 1 true)) 15).getD freshStrip : StripRead)).1 = none ∧ ladderStops (stepDecode (stepDone (15 : Nat) (wBad 4 : StripRead) ((wGroup (wBad 4)).setBit Reg.STRP_CTRL 1 true : State)) (wGroup1 (wBad 4) : GroupRead) (15 : Nat) (ladderStep (wBad 4 : StripRead)) ((stripRead (stepDone 15 (wBad 4) ((wGroup (wBad 4)).setBit Reg.STRP_CTRL 1 true)) 15).getD freshStrip : StripRead)).2 (15 : Nat) ((stripRead (stepDone 15 (wBad 4) ((wGroup (wBad 4)).setBit Reg.STRP_CTRL 1 true)) 15).getD freshStrip : StripRead) = false ∧ 4 ≤ (wBad 4 : StripRead).rung ∧ nextRung (stepDecode (stepDone (15 : Nat) (wBad 4 : StripRead) ((wGroup (wBad 4)).setBit Reg.STRP_CTRL 1 true : State)) (wGroup1 (wBad 4) : GroupRead) (15 : Nat) (ladderStep (wBad 4 : StripRead)) ((stripRead (stepDone 15 (wBad 4) ((wGroup (wBad 4)).setBit Reg.STRP_CTRL 1 true)) 15).getD freshStrip : StripRead)).2 (15 : Nat) ((stripRead (stepDone 15 (wBad 4) ((wGroup (wBad 4)).setBit Reg.STRP_CTRL 1 true)) 15).getD freshStrip : StripRead) ((stripRead (stepDone 15 (wBad 4) ((wGroup (wBad 4)).setBit Reg.STRP_CTRL 1 true)) 15).getD freshStrip : StripRead).sub 4 = some (3 : Nat)) ∧
    (((wGroup (wBad 4)).setBit Reg.STRP_CTRL 1 false : State).frozen pgDET = false ∧ groupRead ((wGroup (wBad 4)).setBit Reg.STRP_CTRL 1 false : State) (15 : Nat) = some (wGroup1 (wBad 4) : GroupRead) ∧ stripRead ((wGroup (wBad 4)).setBit Reg.STRP_CTRL 1 false : State) (15 : Nat) = some (wBad 4 : StripRead) ∧ (wBad 4 : StripRead).rung ≠ 0 ∧ (wBad 4 : StripRead).ended = none ∧ stepEnds ((wGroup (wBad 4)).setBit Reg.STRP_CTRL 1 false : State) (wGroup1 (wBad 4) : GroupRead) (15 : Nat) (wBad 4 : StripRead) = true ∧ stripRead (stepDone (15 : Nat) (wBad 4 : StripRead) ((wGroup (wBad 4)).setBit Reg.STRP_CTRL 1 false : State)) (15 : Nat) = some ((stripRead (stepDone 15 (wBad 4) ((wGroup (wBad 4)).setBit Reg.STRP_CTRL 1 false)) 15).getD freshStrip : StripRead) ∧ (stepDecode (stepDone (15 : Nat) (wBad 4 : StripRead) ((wGroup (wBad 4)).setBit Reg.STRP_CTRL 1 false : State)) (wGroup1 (wBad 4) : GroupRead) (15 : Nat) (ladderStep (wBad 4 : StripRead)) ((stripRead (stepDone 15 (wBad 4) ((wGroup (wBad 4)).setBit Reg.STRP_CTRL 1 false)) 15).getD freshStrip : StripRead)).1 = none ∧ ladderStops (stepDecode (stepDone (15 : Nat) (wBad 4 : StripRead) ((wGroup (wBad 4)).setBit Reg.STRP_CTRL 1 false : State)) (wGroup1 (wBad 4) : GroupRead) (15 : Nat) (ladderStep (wBad 4 : StripRead)) ((stripRead (stepDone 15 (wBad 4) ((wGroup (wBad 4)).setBit Reg.STRP_CTRL 1 false)) 15).getD freshStrip : StripRead)).2 (15 : Nat) ((stripRead (stepDone 15 (wBad 4) ((wGroup (wBad 4)).setBit Reg.STRP_CTRL 1 false)) 15).getD freshStrip : StripRead) = false ∧ 4 ≤ (wBad 4 : StripRead).rung ∧ ((stripRead (stepDone 15 (wBad 4) ((wGroup (wBad 4)).setBit Reg.STRP_CTRL 1 false)) 15).getD freshStrip : StripRead).rung = (wBad 4 : StripRead).rung ∧ nextRung (stepDecode (stepDone (15 : Nat) (wBad 4 : StripRead) ((wGroup (wBad 4)).setBit Reg.STRP_CTRL 1 false : State)) (wGroup1 (wBad 4) : GroupRead) (15 : Nat) (ladderStep (wBad 4 : StripRead)) ((stripRead (stepDone 15 (wBad 4) ((wGroup (wBad 4)).setBit Reg.STRP_CTRL 1 false)) 15).getD freshStrip : StripRead)).2 (15 : Nat) ((stripRead (stepDone 15 (wBad 4) ((wGroup (wBad 4)).setBit Reg.STRP_CTRL 1 false)) 15).getD freshStrip : StripRead) ((stripRead (stepDone 15 (wBad 4) ((wGroup (wBad 4)).setBit Reg.STRP_CTRL 1 false)) 15).getD freshStrip : StripRead).sub 4 = none ∧ ((stripRead (stepDone 15 (wBad 4) ((wGroup (wBad 4)).setBit Reg.STRP_CTRL 1 false)) 15).getD freshStrip : StripRead).rereads + 1 < (if (wBad 4 : StripRead).rung = 4 then 2 else 4)) ∧
    ((wGroup freshStrip : State).wf = true ∧ ((wGroup freshStrip : State).frozen pgDET = true ∨ stripRead (wGroup freshStrip : State) (15 : Nat) = none ∨ ∃ x ∈ stripRead (wGroup freshStrip : State) (15 : Nat), x.rung = 0 ∨ x.ended ≠ none ∨ ∀ g ∈ groupRead (wGroup freshStrip : State) (15 : Nat), stepEnds (wGroup freshStrip : State) g (15 : Nat) x = false)) ∧
    (((wGroup (wBad 2)).setFld Reg.DET_RETRY 0 12 5 : State).frozen pgDET = false ∧ groupRead ((wGroup (wBad 2)).setFld Reg.DET_RETRY 0 12 5 : State) (15 : Nat) = some (wGroup1 (wBad 2) : GroupRead) ∧ stripRead ((wGroup (wBad 2)).setFld Reg.DET_RETRY 0 12 5 : State) (15 : Nat) = some (wBad 2 : StripRead) ∧ (wBad 2 : StripRead).rung ≠ 0 ∧ (wBad 2 : StripRead).ended = none ∧ (wGroup1 (wBad 2) : GroupRead).patrol = false ∧ ((wGroup (wBad 2)).setFld Reg.DET_RETRY 0 12 5 : State).fld Reg.DET_RETRY 0 12 ≠ 0) ∧
    ((wGroup freshStrip : State).wf = true ∧ ((wGroup freshStrip : State).frozen pgDET = true ∨ stripRead (wGroup freshStrip : State) (15 : Nat) = none ∨ (wGroup freshStrip : State).fld Reg.DET_RETRY 0 12 = 0 ∨ (∃ g ∈ groupRead (wGroup freshStrip : State) (15 : Nat), g.patrol = true) ∨ ∃ x ∈ stripRead (wGroup freshStrip : State) (15 : Nat), x.rung = 0 ∨ x.ended ≠ none)) := by
  refine ⟨?_, ?_, ?_, ?_, ?_, ?_, ?_, ?_, ?_, ?_, ?_, ?_, ?_, ?_, ?_, ?_, ?_, ?_, ?_⟩ <;> decide +kernel

/-- The hypotheses of Obligations.WriteArmsRunTheirPasses can be met, clause by clause. -/
theorem witness_WriteArmsRunTheirPasses :
    (Takes (wArmReady : State) (.sup : Master) Reg.WENC_ARM_TAG (9 : Word) (newOf (wArmReady : State) (.sup : Master) Reg.WENC_ARM_TAG (9 : Word) : Word) ∧ (wArmReady : State).frozen pgWENC = false ∧ ({ psa := 8, desc := 0x10000000, slot := 0, order := 0, chan := 3, test := false, rpln := 0, rst := 0, tag := 9, parity := false, passes := 0, off := 0, offs := [], running := false, go := false, t0 := 0, tfs := 0, step := 0, tbl := [] } : Arm) = { psa := (wArmReady : State).fld Reg.WENC_ARM_PSA 0 25, desc := ((wArmReady : State).reg Reg.WENC_ARM_DESC).toNat, slot := (wArmReady : State).fld Reg.WENC_ARM_CTRL 0 2, order := (wArmReady : State).fld Reg.WENC_ARM_CTRL 2 2, chan := (wArmReady : State).fld Reg.WENC_ARM_CTRL 4 2, test := (wArmReady : State).bit Reg.WENC_ARM_CTRL 6, rpln := (wArmReady : State).fld Reg.WENC_ARM_CTRL 8 2, rst := (wArmReady : State).fld Reg.WENC_ARM_RST 0 16, tag := (9 : Word).toNat, parity := false, passes := 0, off := 0, offs := [], running := false, go := false, t0 := 0, tfs := 0, step := 0, tbl := [] } ∧ armOk (wArmReady : State) ({ psa := 8, desc := 0x10000000, slot := 0, order := 0, chan := 3, test := false, rpln := 0, rst := 0, tag := 9, parity := false, passes := 0, off := 0, offs := [], running := false, go := false, t0 := 0, tfs := 0, step := 0, tbl := [] } : Arm) (memRead (wArmReady : State) .cdma ({ psa := 8, desc := 0x10000000, slot := 0, order := 0, chan := 3, test := false, rpln := 0, rst := 0, tag := 9, parity := false, passes := 0, off := 0, offs := [], running := false, go := false, t0 := 0, tfs := 0, step := 0, tbl := [] } : Arm).desc 7168).1 = true) ∧
    (Takes ({ wArmReady.setFld Reg.WENC_ARM_PSA 0 25 9 with mem := [] } : State) (.sup : Master) Reg.WENC_ARM_TAG (9 : Word) (newOf ({ wArmReady.setFld Reg.WENC_ARM_PSA 0 25 9 with mem := [] } : State) (.sup : Master) Reg.WENC_ARM_TAG (9 : Word) : Word) ∧ ({ wArmReady.setFld Reg.WENC_ARM_PSA 0 25 9 with mem := [] } : State).frozen pgWENC = false ∧ ({ psa := 9, desc := 0x10000000, slot := 0, order := 0, chan := 3, test := false, rpln := 0, rst := 0, tag := 9, parity := false, passes := 0, off := 0, offs := [], running := false, go := false, t0 := 0, tfs := 0, step := 0, tbl := [] } : Arm) = { psa := ({ wArmReady.setFld Reg.WENC_ARM_PSA 0 25 9 with mem := [] } : State).fld Reg.WENC_ARM_PSA 0 25, desc := (({ wArmReady.setFld Reg.WENC_ARM_PSA 0 25 9 with mem := [] } : State).reg Reg.WENC_ARM_DESC).toNat, slot := ({ wArmReady.setFld Reg.WENC_ARM_PSA 0 25 9 with mem := [] } : State).fld Reg.WENC_ARM_CTRL 0 2, order := ({ wArmReady.setFld Reg.WENC_ARM_PSA 0 25 9 with mem := [] } : State).fld Reg.WENC_ARM_CTRL 2 2, chan := ({ wArmReady.setFld Reg.WENC_ARM_PSA 0 25 9 with mem := [] } : State).fld Reg.WENC_ARM_CTRL 4 2, test := ({ wArmReady.setFld Reg.WENC_ARM_PSA 0 25 9 with mem := [] } : State).bit Reg.WENC_ARM_CTRL 6, rpln := ({ wArmReady.setFld Reg.WENC_ARM_PSA 0 25 9 with mem := [] } : State).fld Reg.WENC_ARM_CTRL 8 2, rst := ({ wArmReady.setFld Reg.WENC_ARM_PSA 0 25 9 with mem := [] } : State).fld Reg.WENC_ARM_RST 0 16, tag := (9 : Word).toNat, parity := false, passes := 0, off := 0, offs := [], running := false, go := false, t0 := 0, tfs := 0, step := 0, tbl := [] } ∧ armOk ({ wArmReady.setFld Reg.WENC_ARM_PSA 0 25 9 with mem := [] } : State) ({ psa := 9, desc := 0x10000000, slot := 0, order := 0, chan := 3, test := false, rpln := 0, rst := 0, tag := 9, parity := false, passes := 0, off := 0, offs := [], running := false, go := false, t0 := 0, tfs := 0, step := 0, tbl := [] } : Arm) (memRead ({ wArmReady.setFld Reg.WENC_ARM_PSA 0 25 9 with mem := [] } : State) .cdma ({ psa := 9, desc := 0x10000000, slot := 0, order := 0, chan := 3, test := false, rpln := 0, rst := 0, tag := 9, parity := false, passes := 0, off := 0, offs := [], running := false, go := false, t0 := 0, tfs := 0, step := 0, tbl := [] } : Arm).desc 7168).1 = false) ∧
    ((wArms [{ wArm with parity := false }] : State).frozen pgWENC = false ∧ (wArms [{ wArm with parity := false }] : State).wenc.arms.find? (fun x => !x.parity) = some ({ wArm with parity := false } : Arm)) ∧
    ((wStart [wArm] : State).frozen pgWENC = false ∧ (wStart [wArm] : State).wenc.arms = (wArm : Arm) :: ([] : List Arm) ∧ mayStart (wStart [wArm] : State) (wArm : Arm) = true) ∧
    ((wArms [wArm] : State).wf = true ∧ ((wArms [wArm] : State).frozen pgWENC = true ∨ (wArms [wArm] : State).wenc.arms.head?.all (fun a => !mayStart (wArms [wArm] : State) a) = true)) ∧
    ((wArms [{ wArm with running := true, offs := [1] }] : State).frozen pgWENC = false ∧ (wArms [{ wArm with running := true, offs := [1] }] : State).wenc.arms = ({ wArm with running := true, offs := [1] } : Arm) :: ([] : List Arm) ∧ ({ wArm with running := true, offs := [1] } : Arm).running = true ∧ ({ wArm with running := true, offs := [1] } : Arm).offs.length ≤ 1) ∧
    ((wArms [{ wArm with running := true }] : State).frozen pgWENC = false ∧ (wArms [{ wArm with running := true }] : State).wenc.arms = ({ wArm with running := true } : Arm) :: ([] : List Arm) ∧ ({ wArm with running := true } : Arm).running = true ∧ 1 < ({ wArm with running := true } : Arm).offs.length) ∧
    ((wArms [wArm] : State).wf = true ∧ ((wArms [wArm] : State).frozen pgWENC = true ∨ runningArm (wArms [wArm] : State) = none)) ∧
    (Takes (wArms [wArm] : State) (.sup : Master) Reg.WENC_PASSGO (1 : Word) (newOf (wArms [wArm] : State) (.sup : Master) Reg.WENC_PASSGO (1 : Word) : Word) ∧ betweenPasses (wArms [wArm] : State) = false) ∧
    (Takes (wArms [{ wArm with passes := 1 }] : State) (.sup : Master) Reg.WENC_PASSGO (1 : Word) (newOf (wArms [{ wArm with passes := 1 }] : State) (.sup : Master) Reg.WENC_PASSGO (1 : Word) : Word) ∧ (wArms [{ wArm with passes := 1 }] : State).frozen pgWENC = false ∧ (wArms [{ wArm with passes := 1 }] : State).wenc.arms = ({ wArm with passes := 1 } : Arm) :: ([] : List Arm) ∧ 0 < ({ wArm with passes := 1 } : Arm).passes ∧ ({ wArm with passes := 1 } : Arm).running = false) ∧
    (((wArms [{ wArm with passes := 1, go := true }]).setReg Reg.WINH_LATCH 1#32 : State).frozen pgWENC = false ∧ ((wArms [{ wArm with passes := 1, go := true }]).setReg Reg.WINH_LATCH 1#32 : State).wenc.arms = ({ wArm with passes := 1, go := true } : Arm) :: ([] : List Arm) ∧ 0 < ({ wArm with passes := 1, go := true } : Arm).passes ∧ ({ wArm with passes := 1, go := true } : Arm).running = false ∧ (({ wArm with passes := 1, go := true } : Arm).go = false ∨ ((wArms [{ wArm with passes := 1, go := true }]).setReg Reg.WINH_LATCH 1#32 : State).reg Reg.WINH_LATCH ≠ 0#32)) ∧
    ((wArms [{ wArm with passes := 1, go := true }] : State).wf = true ∧ ((wArms [{ wArm with passes := 1, go := true }] : State).frozen pgWENC = true ∨ betweenPasses (wArms [{ wArm with passes := 1, go := true }] : State) = false ∨ ((wArms [{ wArm with passes := 1, go := true }] : State).wenc.arms.head?.all (·.go) = true ∧ (wArms [{ wArm with passes := 1, go := true }] : State).reg Reg.WINH_LATCH = 0#32))) ∧
    ((wArms [wArm, { wArm with psa := 16, slot := 1 }] : State).frozen pgWENC = false ∧ (wArms [wArm, { wArm with psa := 16, slot := 1 }] : State).wenc.arms = (wArm : Arm) :: ([{ wArm with psa := 16, slot := 1 }] : List Arm) ∧ (wArm : Arm).running = false ∧ (wArm : Arm).passes = 0) ∧
    ((wArms [{ wArm with passes := 1 }] : State).frozen pgWENC = false ∧ (wArms [{ wArm with passes := 1 }] : State).wenc.arms = ({ wArm with passes := 1 } : Arm) :: ([] : List Arm) ∧ ({ wArm with passes := 1 } : Arm).running = false ∧ 0 < ({ wArm with passes := 1 } : Arm).passes) ∧
    ((wArms [{ wArm with running := true }] : State).wf = true ∧ ((wArms [{ wArm with running := true }] : State).frozen pgWENC = true ∨ (wArms [{ wArm with running := true }] : State).wenc.arms.head?.all (·.running) = true)) ∧
    (Takes (wArms [wArm] : State) (.sup : Master) Reg.WENC_ARM_CTRL (0x80000010 : Word) (newOf (wArms [wArm] : State) (.sup : Master) Reg.WENC_ARM_CTRL (0x80000010 : Word) : Word) ∧ (wArms [wArm] : State).frozen pgWENC = false ∧ fieldOf (0x80000010 : Word) 31 1 = 1 ∧ (wArms [wArm] : State).wenc.arms = (wArm : Arm) :: ([] : List Arm) ∧ (wArm : Arm).running = false ∧ (wArm : Arm).passes = 0) ∧
    (Takes (wArms [{ wArm with passes := 1 }] : State) (.sup : Master) Reg.WENC_ARM_CTRL (0x80000010 : Word) (newOf (wArms [{ wArm with passes := 1 }] : State) (.sup : Master) Reg.WENC_ARM_CTRL (0x80000010 : Word) : Word) ∧ (wArms [{ wArm with passes := 1 }] : State).frozen pgWENC = false ∧ fieldOf (0x80000010 : Word) 31 1 = 1 ∧ (wArms [{ wArm with passes := 1 }] : State).wenc.arms = ({ wArm with passes := 1 } : Arm) :: ([] : List Arm) ∧ ({ wArm with passes := 1 } : Arm).running = false ∧ 0 < ({ wArm with passes := 1 } : Arm).passes) ∧
    (Takes (wGate (wArms [{ wArm with running := true, offs := [1] }]) : State) (.sup : Master) Reg.WENC_ARM_CTRL (0x80000010 : Word) (newOf (wGate (wArms [{ wArm with running := true, offs := [1] }]) : State) (.sup : Master) Reg.WENC_ARM_CTRL (0x80000010 : Word) : Word) ∧ (wGate (wArms [{ wArm with running := true, offs := [1] }]) : State).wenc.arms = ({ wArm with running := true, offs := [1] } : Arm) :: ([] : List Arm) ∧ ({ wArm with running := true, offs := [1] } : Arm).running = true ∧ ({ wArm with running := true, offs := [1] } : Arm).offs.length = 1) ∧
    (Takes (wArms [wArm] : State) (.sup : Master) Reg.WENC_ARM_CTRL (0x10 : Word) (newOf (wArms [wArm] : State) (.sup : Master) Reg.WENC_ARM_CTRL (0x10 : Word) : Word) ∧ (fieldOf (0x10 : Word) 31 1 = 0 ∨ (wArms [wArm] : State).wenc.arms = [])) ∧
    (Takes (wGate (wArms [{ wArm with running := true }]) : State) (.sup : Master) Reg.WENC_ARM_CTRL (0x80000010 : Word) (newOf (wGate (wArms [{ wArm with running := true }]) : State) (.sup : Master) Reg.WENC_ARM_CTRL (0x80000010 : Word) : Word) ∧ (wGate (wArms [{ wArm with running := true }]) : State).frozen pgWENC = false ∧ fieldOf (0x80000010 : Word) 31 1 = 1 ∧ (wGate (wArms [{ wArm with running := true }]) : State).wenc.arms = ({ wArm with running := true } : Arm) :: ([] : List Arm) ∧ ({ wArm with running := true } : Arm).running = true ∧ (wGate (wArms [{ wArm with running := true }]) : State).wenc.gate = true ∧ ((true : Bool) = false ∨ ({ wArm with running := true } : Arm).offs.length ≠ 1)) ∧
    (Takes (wArms [wArm] : State) (.sup : Master) Reg.WENC_STG_REL (3 : Word) (newOf (wArms [wArm] : State) (.sup : Master) Reg.WENC_STG_REL (3 : Word) : Word)) := by
  refine ⟨⟨by decide +kernel, by decide +kernel, by decide +kernel, wArmReady_ok _ rfl rfl (by decide +kernel) (by decide +kernel)⟩, ?_, ?_, ?_, ?_, ?_, ?_, ?_, ?_, ?_, ?_, ?_, ?_, ?_, ?_, ?_, ?_, ?_, ?_, ?_, ?_⟩ <;> decide +kernel

/-- The hypotheses of Obligations.StrategyLoadsVerdictsAndInhibitLatch can be met, clause by clause. -/
theorem witness_StrategyLoadsVerdictsAndInhibitLatch :
    (Takes (State.reset : State) (.sup : Master) Reg.WSG_LOAD_CTRL (0x80000000 : Word) (newOf (State.reset : State) (.sup : Master) Reg.WSG_LOAD_CTRL (0x80000000 : Word) : Word) ∧ (State.reset : State).frozen pgWSG = false ∧ fieldOf (0x80000000 : Word) 31 1 = 1 ∧ fieldOf (newOf (State.reset : State) (.sup : Master) Reg.WSG_LOAD_CTRL (0x80000000 : Word) : Word) 31 1 = 0 ∧ (fieldOf (newOf (State.reset : State) (.sup : Master) Reg.WSG_LOAD_CTRL (0x80000000 : Word) : Word) 16 6 = 0 ∨ 40 < fieldOf (newOf (State.reset : State) (.sup : Master) Reg.WSG_LOAD_CTRL (0x80000000 : Word) : Word) 8 6 + fieldOf (newOf (State.reset : State) (.sup : Master) Reg.WSG_LOAD_CTRL (0x80000000 : Word) : Word) 16 6 ∨ 11 < fieldOf (newOf (State.reset : State) (.sup : Master) Reg.WSG_LOAD_CTRL (0x80000000 : Word) : Word) 0 4 ∨ (State.reset : State).wenc.arms.any (fun a => psaLayer a.psa == fieldOf (newOf (State.reset : State) (.sup : Master) Reg.WSG_LOAD_CTRL (0x80000000 : Word) : Word) 0 4) = true)) ∧
    (Takes (wLoad 0 : State) (.sup : Master) Reg.WSG_LOAD_CTRL (0x80022600 : Word) (newOf (wLoad 0 : State) (.sup : Master) Reg.WSG_LOAD_CTRL (0x80022600 : Word) : Word) ∧ (wLoad 0 : State).frozen pgWSG = false ∧ fieldOf (0x80022600 : Word) 31 1 = 1 ∧ fieldOf (newOf (wLoad 0 : State) (.sup : Master) Reg.WSG_LOAD_CTRL (0x80022600 : Word) : Word) 31 1 = 0 ∧ fieldOf (newOf (wLoad 0 : State) (.sup : Master) Reg.WSG_LOAD_CTRL (0x80022600 : Word) : Word) 16 6 ≠ 0 ∧ fieldOf (newOf (wLoad 0 : State) (.sup : Master) Reg.WSG_LOAD_CTRL (0x80022600 : Word) : Word) 8 6 + fieldOf (newOf (wLoad 0 : State) (.sup : Master) Reg.WSG_LOAD_CTRL (0x80022600 : Word) : Word) 16 6 ≤ 40 ∧ fieldOf (newOf (wLoad 0 : State) (.sup : Master) Reg.WSG_LOAD_CTRL (0x80022600 : Word) : Word) 0 4 ≤ 11 ∧ (wLoad 0 : State).wenc.arms.any (fun a => psaLayer a.psa == fieldOf (newOf (wLoad 0 : State) (.sup : Master) Reg.WSG_LOAD_CTRL (0x80022600 : Word) : Word) 0 4) = false ∧ (memRead (wLoad 0 : State) .cdma ((wLoad 0 : State).reg Reg.WSG_LOAD_SRC).toNat (4 * fieldOf (newOf (wLoad 0 : State) (.sup : Master) Reg.WSG_LOAD_CTRL (0x80022600 : Word) : Word) 16 6)).2.1 = false ∧ ([0#32, 0#32] : List Word) = wordsLE (fieldOf (newOf (wLoad 0 : State) (.sup : Master) Reg.WSG_LOAD_CTRL (0x80022600 : Word) : Word) 16 6) (memRead (wLoad 0 : State) .cdma ((wLoad 0 : State).reg Reg.WSG_LOAD_SRC).toNat (4 * fieldOf (newOf (wLoad 0 : State) (.sup : Master) Reg.WSG_LOAD_CTRL (0x80022600 : Word) : Word) 16 6)).1 ∧ (List.range (fieldOf (newOf (wLoad 0 : State) (.sup : Master) Reg.WSG_LOAD_CTRL (0x80022600 : Word) : Word) 16 6)).all (fun i => wsgFieldOk (fieldOf (newOf (wLoad 0 : State) (.sup : Master) Reg.WSG_LOAD_CTRL (0x80022600 : Word) : Word) 8 6 + i) (([0#32, 0#32] : List Word).getD i 0#32)) = true ∧ wsgOrderOk (fun k => if fieldOf (newOf (wLoad 0 : State) (.sup : Master) Reg.WSG_LOAD_CTRL (0x80022600 : Word) : Word) 8 6 ≤ k ∧ k < fieldOf (newOf (wLoad 0 : State) (.sup : Master) Reg.WSG_LOAD_CTRL (0x80022600 : Word) : Word) 8 6 + fieldOf (newOf (wLoad 0 : State) (.sup : Master) Reg.WSG_LOAD_CTRL (0x80022600 : Word) : Word) 16 6 then ([0#32, 0#32] : List Word).getD (k - fieldOf (newOf (wLoad 0 : State) (.sup : Master) Reg.WSG_LOAD_CTRL (0x80022600 : Word) : Word) 8 6) 0#32 else wsgWord (wLoad 0 : State) (fieldOf (newOf (wLoad 0 : State) (.sup : Master) Reg.WSG_LOAD_CTRL (0x80022600 : Word) : Word) 0 4) k) (fun k => ((wLoad 0 : State).wenc.setMask.getD (fieldOf (newOf (wLoad 0 : State) (.sup : Master) Reg.WSG_LOAD_CTRL (0x80022600 : Word) : Word) 0 4) 0).testBit k || (decide (fieldOf (newOf (wLoad 0 : State) (.sup : Master) Reg.WSG_LOAD_CTRL (0x80022600 : Word) : Word) 8 6 ≤ k) && decide (k < fieldOf (newOf (wLoad 0 : State) (.sup : Master) Reg.WSG_LOAD_CTRL (0x80022600 : Word) : Word) 8 6 + fieldOf (newOf (wLoad 0 : State) (.sup : Master) Reg.WSG_LOAD_CTRL (0x80022600 : Word) : Word) 16 6))) = true) ∧
    (Takes (wLoad 0 : State) (.sup : Master) Reg.WSG_LOAD_CTRL (0x80022500 : Word) (newOf (wLoad 0 : State) (.sup : Master) Reg.WSG_LOAD_CTRL (0x80022500 : Word) : Word) ∧ (wLoad 0 : State).frozen pgWSG = false ∧ fieldOf (0x80022500 : Word) 31 1 = 1 ∧ fieldOf (newOf (wLoad 0 : State) (.sup : Master) Reg.WSG_LOAD_CTRL (0x80022500 : Word) : Word) 31 1 = 0 ∧ fieldOf (newOf (wLoad 0 : State) (.sup : Master) Reg.WSG_LOAD_CTRL (0x80022500 : Word) : Word) 16 6 ≠ 0 ∧ fieldOf (newOf (wLoad 0 : State) (.sup : Master) Reg.WSG_LOAD_CTRL (0x80022500 : Word) : Word) 8 6 + fieldOf (newOf (wLoad 0 : State) (.sup : Master) Reg.WSG_LOAD_CTRL (0x80022500 : Word) : Word) 16 6 ≤ 40 ∧ fieldOf (newOf (wLoad 0 : State) (.sup : Master) Reg.WSG_LOAD_CTRL (0x80022500 : Word) : Word) 0 4 ≤ 11 ∧ (wLoad 0 : State).wenc.arms.any (fun a => psaLayer a.psa == fieldOf (newOf (wLoad 0 : State) (.sup : Master) Reg.WSG_LOAD_CTRL (0x80022500 : Word) : Word) 0 4) = false ∧ ([0#32, 0#32] : List Word) = wordsLE (fieldOf (newOf (wLoad 0 : State) (.sup : Master) Reg.WSG_LOAD_CTRL (0x80022500 : Word) : Word) 16 6) (memRead (wLoad 0 : State) .cdma ((wLoad 0 : State).reg Reg.WSG_LOAD_SRC).toNat (4 * fieldOf (newOf (wLoad 0 : State) (.sup : Master) Reg.WSG_LOAD_CTRL (0x80022500 : Word) : Word) 16 6)).1 ∧ ((memRead (wLoad 0 : State) .cdma ((wLoad 0 : State).reg Reg.WSG_LOAD_SRC).toNat (4 * fieldOf (newOf (wLoad 0 : State) (.sup : Master) Reg.WSG_LOAD_CTRL (0x80022500 : Word) : Word) 16 6)).2.1 = true ∨ ¬((List.range (fieldOf (newOf (wLoad 0 : State) (.sup : Master) Reg.WSG_LOAD_CTRL (0x80022500 : Word) : Word) 16 6)).all (fun i => wsgFieldOk (fieldOf (newOf (wLoad 0 : State) (.sup : Master) Reg.WSG_LOAD_CTRL (0x80022500 : Word) : Word) 8 6 + i) (([0#32, 0#32] : List Word).getD i 0#32)) = true ∧ wsgOrderOk (fun k => if fieldOf (newOf (wLoad 0 : State) (.sup : Master) Reg.WSG_LOAD_CTRL (0x80022500 : Word) : Word) 8 6 ≤ k ∧ k < fieldOf (newOf (wLoad 0 : State) (.sup : Master) Reg.WSG_LOAD_CTRL (0x80022500 : Word) : Word) 8 6 + fieldOf (newOf (wLoad 0 : State) (.sup : Master) Reg.WSG_LOAD_CTRL (0x80022500 : Word) : Word) 16 6 then ([0#32, 0#32] : List Word).getD (k - fieldOf (newOf (wLoad 0 : State) (.sup : Master) Reg.WSG_LOAD_CTRL (0x80022500 : Word) : Word) 8 6) 0#32 else wsgWord (wLoad 0 : State) (fieldOf (newOf (wLoad 0 : State) (.sup : Master) Reg.WSG_LOAD_CTRL (0x80022500 : Word) : Word) 0 4) k) (fun k => ((wLoad 0 : State).wenc.setMask.getD (fieldOf (newOf (wLoad 0 : State) (.sup : Master) Reg.WSG_LOAD_CTRL (0x80022500 : Word) : Word) 0 4) 0).testBit k || (decide (fieldOf (newOf (wLoad 0 : State) (.sup : Master) Reg.WSG_LOAD_CTRL (0x80022500 : Word) : Word) 8 6 ≤ k) && decide (k < fieldOf (newOf (wLoad 0 : State) (.sup : Master) Reg.WSG_LOAD_CTRL (0x80022500 : Word) : Word) 8 6 + fieldOf (newOf (wLoad 0 : State) (.sup : Master) Reg.WSG_LOAD_CTRL (0x80022500 : Word) : Word) 16 6))) = true))) ∧
    (Takes (State.reset : State) (.sup : Master) Reg.WSG_LOAD_CTRL (0x22500 : Word) (newOf (State.reset : State) (.sup : Master) Reg.WSG_LOAD_CTRL (0x22500 : Word) : Word) ∧ (fieldOf (0x22500 : Word) 31 1 = 0 ∨ fieldOf (newOf (State.reset : State) (.sup : Master) Reg.WSG_LOAD_CTRL (0x22500 : Word) : Word) 31 1 = 1)) ∧
    ((wBuf ((wLoad 2).setBit Reg.WSG_LOAD_CTRL 31 true) [5#32, 6#32] : State).frozen pgWSG = false ∧ (wBuf ((wLoad 2).setBit Reg.WSG_LOAD_CTRL 31 true) [5#32, 6#32] : State).bit Reg.WSG_LOAD_CTRL 31 = true ∧ (wBuf ((wLoad 2).setBit Reg.WSG_LOAD_CTRL 31 true) [5#32, 6#32] : State).wenc.loadAt.1 < 12 ∧ (wBuf ((wLoad 2).setBit Reg.WSG_LOAD_CTRL 31 true) [5#32, 6#32] : State).wenc.setMask.length = 12) ∧
    ((State.reset : State).wf = true ∧ ((State.reset : State).frozen pgWSG = true ∨ (State.reset : State).bit Reg.WSG_LOAD_CTRL 31 = false)) ∧
    ((wGraded wArm : State).quiet ∧ (wGraded wArm : State).wenc.verdictArms = (wArm : Arm) :: ([] : List Arm) ∧ (wGraded wArm : State).frozen pgDRAW = false ∧ 512 ≤ (gradedOf (wGraded wArm : State) (wArm : Arm).psa).length) ∧
    ((wGraded wArm : State).wenc.verdictArms = (wArm : Arm) :: ([] : List Arm) ∧ (wGraded wArm : State).frozen pgDRAW = false ∧ 512 ≤ (gradedOf (wGraded wArm : State) (wArm : Arm).psa).length) ∧
    ((wArms [] : State).quiet ∧ (wArms [] : State).wenc.verdictArms.head?.all (fun a => decide ((gradedOf (wArms [] : State) a.psa).length < 512)) = true) ∧
    (Takes (State.reset : State) (.sup : Master) Reg.DRAW_VQ_CONS (3 : Word) (newOf (State.reset : State) (.sup : Master) Reg.DRAW_VQ_CONS (3 : Word) : Word)) ∧
    (Takes (State.reset.setW { State.reset.wenc with heldRecs := [List.replicate 32 1] } : State) (.sup : Master) Reg.DRAW_VQ_CONS (0 : Word) (newOf (State.reset.setW { State.reset.wenc with heldRecs := [List.replicate 32 1] } : State) (.sup : Master) Reg.DRAW_VQ_CONS (0 : Word) : Word) ∧ (State.reset.setW { State.reset.wenc with heldRecs := [List.replicate 32 1] } : State).wenc.heldRecs ≠ [] ∧ ((State.reset.setW { State.reset.wenc with heldRecs := [List.replicate 32 1] } : State).fld Reg.DRAW_VQ_PROD 0 11 + 2 * vqSize (State.reset.setW { State.reset.wenc with heldRecs := [List.replicate 32 1] } : State) - fieldOf (newOf (State.reset.setW { State.reset.wenc with heldRecs := [List.replicate 32 1] } : State) (.sup : Master) Reg.DRAW_VQ_CONS (0 : Word) : Word) 0 11 % (2 * vqSize (State.reset.setW { State.reset.wenc with heldRecs := [List.replicate 32 1] } : State))) % (2 * vqSize (State.reset.setW { State.reset.wenc with heldRecs := [List.replicate 32 1] } : State)) < vqSize (State.reset.setW { State.reset.wenc with heldRecs := [List.replicate 32 1] } : State)) ∧
    ((4 : Nat) &&& winhEnabled (wArms [{ wArm with running := true }] : State) ≠ 0 ∧ (runningArm (wArms [{ wArm with running := true }] : State) = none ∨ (true : Bool) = true)) ∧
    ((4 : Nat) &&& winhEnabled (wArms [{ wArm with running := true }] : State) ≠ 0 ∧ (wArms [{ wArm with running := true }] : State).wenc.arms = ({ wArm with running := true } : Arm) :: ([] : List Arm) ∧ ({ wArm with running := true } : Arm).running = true) ∧
    ((64 : Nat) &&& winhEnabled (wArms [] : State) = 0) ∧
    (Takes (wArms [{ wArm with running := true }] : State) (.sup : Master) Reg.WINH_FORCE (1 : Word) (newOf (wArms [{ wArm with running := true }] : State) (.sup : Master) Reg.WINH_FORCE (1 : Word) : Word) ∧ fieldOf (1 : Word) 0 1 = 1 ∧ (runningArm (wArms [{ wArm with running := true }] : State) = none ∨ (true : Bool) = true)) ∧
    (Takes (wArms [{ wArm with running := true }] : State) (.sup : Master) Reg.WINH_FORCE (1 : Word) (newOf (wArms [{ wArm with running := true }] : State) (.sup : Master) Reg.WINH_FORCE (1 : Word) : Word) ∧ fieldOf (1 : Word) 0 1 = 1 ∧ (wArms [{ wArm with running := true }] : State).wenc.arms = ({ wArm with running := true } : Arm) :: ([] : List Arm) ∧ ({ wArm with running := true } : Arm).running = true) ∧
    (Takes (wArms [] : State) (.sup : Master) Reg.WINH_FORCE (2 : Word) (newOf (wArms [] : State) (.sup : Master) Reg.WINH_FORCE (2 : Word) : Word) ∧ fieldOf (2 : Word) 0 1 = 0) ∧
    (Takes ((wArms []).setReg Reg.WINH_LATCH 7#32 : State) (.sup : Master) Reg.WINH_LATCH (3 : Word) (newOf ((wArms []).setReg Reg.WINH_LATCH 7#32 : State) (.sup : Master) Reg.WINH_LATCH (3 : Word) : Word) ∧ (6#32 : Word) = (if lgRuns ((wArms []).setReg Reg.WINH_LATCH 7#32 : State) then Word.ofNat ((6 : Nat) % 65536) ||| 65536#32 else Word.ofNat ((6 : Nat) % 65536))) := by
  refine ⟨?_, ?_, ?_, ?_, ?_, ?_, ?_, ?_, ?_, ?_, ?_, ?_, ?_, ?_, ?_, ?_, ?_, ?_⟩ <;> decide +kernel

/-- The hypotheses of Obligations.HeadLinkFramesCommandsAndResponses can be met, clause by clause. -/
theorem witness_HeadLinkFramesCommandsAndResponses :
    ((State.reset.setFld Reg.HDL_FIFO 16 5 7 : State).frozen pgHDL = false ∧ hdlFault (State.reset.setFld Reg.HDL_FIFO 16 5 7 : State) = false ∧ hdlGood (hdlStatusIn (State.reset.setFld Reg.HDL_FIFO 16 5 7 : State) (0 : Word)) = true) ∧
    ((State.reset.setFld Reg.HDL_FIFO 16 5 14 : State).frozen pgHDL = false ∧ hdlFault (State.reset.setFld Reg.HDL_FIFO 16 5 14 : State) = false ∧ hdlGood (hdlStatusIn (State.reset.setFld Reg.HDL_FIFO 16 5 14 : State) (1 : Word)) = false ∧ (State.reset.setFld Reg.HDL_FIFO 16 5 14 : State).fld Reg.HDL_FIFO 16 5 < 15) ∧
    ((State.reset.setFld Reg.HDL_FIFO 16 5 15 : State).frozen pgHDL = false ∧ hdlFault (State.reset.setFld Reg.HDL_FIFO 16 5 15 : State) = false ∧ hdlGood (hdlStatusIn (State.reset.setFld Reg.HDL_FIFO 16 5 15 : State) (1 : Word)) = false ∧ 15 ≤ (State.reset.setFld Reg.HDL_FIFO 16 5 15 : State).fld Reg.HDL_FIFO 16 5) ∧
    ((State.reset.setW { State.reset.wenc with lastFromFifo := true, lastCmd := some 0x81000000#32 } : State).frozen pgHDL = false ∧ hdlFault (State.reset.setW { State.reset.wenc with lastFromFifo := true, lastCmd := some 0x81000000#32 } : State) = false ∧ hdlGood (hdlStatusIn (State.reset.setW { State.reset.wenc with lastFromFifo := true, lastCmd := some 0x81000000#32 } : State) (0 : Word)) = true ∧ (State.reset.setW { State.reset.wenc with lastFromFifo := true, lastCmd := some 0x81000000#32 } : State).wenc.lastFromFifo = true ∧ (State.reset.setW { State.reset.wenc with lastFromFifo := true, lastCmd := some 0x81000000#32 } : State).wenc.lastCmd = some (0x81000000 : Word) ∧ fieldOf (0x81000000 : Word) 31 1 = 1 ∧ (State.reset.setW { State.reset.wenc with lastFromFifo := true, lastCmd := some 0x81000000#32 } : State).wenc.rsp.length < 16) ∧
    ((State.reset.setW { State.reset.wenc with lastFromFifo := true, lastCmd := some 0x81000000#32 } : State).frozen pgHDL = false ∧ hdlFault (State.reset.setW { State.reset.wenc with lastFromFifo := true, lastCmd := some 0x81000000#32 } : State) = false ∧ hdlGood (hdlStatusIn (State.reset.setW { State.reset.wenc with lastFromFifo := true, lastCmd := some 0x81000000#32 } : State) (1 : Word)) = false ∧ (State.reset.setW { State.reset.wenc with lastFromFifo := true, lastCmd := some 0x81000000#32 } : State).fld Reg.HDL_FIFO 16 5 < 15 ∧ (State.reset.setW { State.reset.wenc with lastFromFifo := true, lastCmd := some 0x81000000#32 } : State).wenc.lastFromFifo = true ∧ (State.reset.setW { State.reset.wenc with lastFromFifo := true, lastCmd := some 0x81000000#32 } : State).wenc.lastCmd = some (0x81000000 : Word)) ∧
    ((State.reset.setBit Reg.HDL_FIFO 24 true : State).wf = true ∧ ((State.reset.setBit Reg.HDL_FIFO 24 true : State).frozen pgHDL = true ∨ hdlFault (State.reset.setBit Reg.HDL_FIFO 24 true : State) = true)) ∧
    (Takes (State.reset : State) (.sup : Master) Reg.HDL_CMD (0x81001234 : Word) (newOf (State.reset : State) (.sup : Master) Reg.HDL_CMD (0x81001234 : Word) : Word) ∧ (State.reset : State).wenc.fifo.length + (State.reset : State).wenc.wsgCmds.length < 16) ∧
    (Takes (State.reset.setW { State.reset.wenc with fifo := List.replicate 16 0#32 } : State) (.sup : Master) Reg.HDL_CMD (0x81001234 : Word) (newOf (State.reset.setW { State.reset.wenc with fifo := List.replicate 16 0#32 } : State) (.sup : Master) Reg.HDL_CMD (0x81001234 : Word) : Word) ∧ 16 ≤ (State.reset.setW { State.reset.wenc with fifo := List.replicate 16 0#32 } : State).wenc.fifo.length + (State.reset.setW { State.reset.wenc with fifo := List.replicate 16 0#32 } : State).wenc.wsgCmds.length) ∧
    (pageGrants (State.reset.setW { State.reset.wenc with rsp := [5#32, 6#32] } : State) (.sup : Master) pgHDL .read = true ∧ (State.reset.setW { State.reset.wenc with rsp := [5#32, 6#32] } : State).wenc.rsp = (5#32 : Word) :: ([6#32] : List Word)) ∧
    (pageGrants (State.reset : State) (.sup : Master) pgHDL .read = true ∧ (State.reset : State).wenc.rsp = []) := by
  refine ⟨?_, ?_, ?_, ?_, ?_, ?_, ?_, ?_, ?_, ?_⟩ <;> decide +kernel

/-- The hypotheses of Obligations.ServoReadsGrooves can be met, clause by clause. -/
theorem witness_ServoReadsGrooves :
    (([wS (-300) 0 100 0] : List ServoSample).foldl sampleStep (State.reset : State) = ((([wS (-300) 0 100 0]).foldl sampleStep (State.reset)) : State) ∧ sadcRuns ((([wS (-300) 0 100 0]).foldl sampleStep (State.reset)) : State) = true ∧ ((([wS (-300) 0 100 0]).foldl sampleStep (State.reset)) : State).frozen pgSADC = false ∧ grooveSide ((([wS (-300) 0 100 0]).foldl sampleStep (State.reset)) : State) (teSample ((([wS (-300) 0 100 0]).foldl sampleStep (State.reset)) : State) (wS 300 0 100 0 : ServoSample)) = ((1 : Int) : Int) ∧ ((1 : Int) : Int) ≠ 0 ∧ ((([wS (-300) 0 100 0]).foldl sampleStep (State.reset)) : State).sv.groove.side = -((1 : Int) : Int) ∧ grooveZero ((([wS (-300) 0 100 0]).foldl sampleStep (State.reset)) : State).sv.groove (teSample ((([wS (-300) 0 100 0]).foldl sampleStep (State.reset)) : State) (wS 300 0 100 0 : ServoSample)) (sumSample ((([wS (-300) 0 100 0]).foldl sampleStep (State.reset)) : State) (wS 300 0 100 0 : ServoSample)) = some ((0 : Nat), true)) ∧
    (([wS 300 0 100 0, wS (-1) 0 100 0] : List ServoSample).foldl sampleStep (wSeq 0x30D#32 2 : State) = ((([wS 300 0 100 0, wS (-1) 0 100 0]).foldl sampleStep (wSeq 0x30D#32 2)) : State) ∧ sadcRuns ((([wS 300 0 100 0, wS (-1) 0 100 0]).foldl sampleStep (wSeq 0x30D#32 2)) : State) = true ∧ ((([wS 300 0 100 0, wS (-1) 0 100 0]).foldl sampleStep (wSeq 0x30D#32 2)) : State).frozen pgSADC = false ∧ grooveSide ((([wS 300 0 100 0, wS (-1) 0 100 0]).foldl sampleStep (wSeq 0x30D#32 2)) : State) (teSample ((([wS 300 0 100 0, wS (-1) 0 100 0]).foldl sampleStep (wSeq 0x30D#32 2)) : State) (wS (-300) 0 100 0 : ServoSample)) = ((-1 : Int) : Int) ∧ ((-1 : Int) : Int) ≠ 0 ∧ ((([wS 300 0 100 0, wS (-1) 0 100 0]).foldl sampleStep (wSeq 0x30D#32 2)) : State).sv.groove.side = -((-1 : Int) : Int) ∧ grooveZero ((([wS 300 0 100 0, wS (-1) 0 100 0]).foldl sampleStep (wSeq 0x30D#32 2)) : State).sv.groove (teSample ((([wS 300 0 100 0, wS (-1) 0 100 0]).foldl sampleStep (wSeq 0x30D#32 2)) : State) (wS (-300) 0 100 0 : ServoSample)) (sumSample ((([wS 300 0 100 0, wS (-1) 0 100 0]).foldl sampleStep (wSeq 0x30D#32 2)) : State) (wS (-300) 0 100 0 : ServoSample)) = some ((4 : Nat), true) ∧ seqRuns ((([wS 300 0 100 0, wS (-1) 0 100 0]).foldl sampleStep (wSeq 0x30D#32 2)) : State) = true ∧ seqAxis ((([wS 300 0 100 0, wS (-1) 0 100 0]).foldl sampleStep (wSeq 0x30D#32 2)) : State) = 1 ∧ seqState ((([wS 300 0 100 0, wS (-1) 0 100 0]).foldl sampleStep (wSeq 0x30D#32 2)) : State) ≤ 3 ∧ decide (((-1 : Int) : Int) = 1) = !((([wS 300 0 100 0, wS (-1) 0 100 0]).foldl sampleStep (wSeq 0x30D#32 2)) : State).bit Reg.ACT_JMP_CTRL 3) ∧
    (([wS (-300) 0 100 0] : List ServoSample).foldl sampleStep (State.reset : State) = ((([wS (-300) 0 100 0]).foldl sampleStep (State.reset)) : State) ∧ sadcRuns ((([wS (-300) 0 100 0]).foldl sampleStep (State.reset)) : State) = true ∧ ((([wS (-300) 0 100 0]).foldl sampleStep (State.reset)) : State).frozen pgSADC = false ∧ (grooveSide ((([wS (-300) 0 100 0]).foldl sampleStep (State.reset)) : State) (teSample ((([wS (-300) 0 100 0]).foldl sampleStep (State.reset)) : State) (wS 300 0 0 0 : ServoSample)) = 0 ∨ ((([wS (-300) 0 100 0]).foldl sampleStep (State.reset)) : State).sv.groove.side ≠ -grooveSide ((([wS (-300) 0 100 0]).foldl sampleStep (State.reset)) : State) (teSample ((([wS (-300) 0 100 0]).foldl sampleStep (State.reset)) : State) (wS 300 0 0 0 : ServoSample)) ∨ (grooveZero ((([wS (-300) 0 100 0]).foldl sampleStep (State.reset)) : State).sv.groove (teSample ((([wS (-300) 0 100 0]).foldl sampleStep (State.reset)) : State) (wS 300 0 0 0 : ServoSample)) (sumSample ((([wS (-300) 0 100 0]).foldl sampleStep (State.reset)) : State) (wS 300 0 0 0 : ServoSample))).map (·.2) ≠ some true)) ∧
    (sadcRuns (State.reset.setBit Reg.SADC_CFG 0 false : State) = false ∨ ([wS (-300) 0 100 0, wS 300 0 100 0] : List ServoSample) = []) ∧
    ((State.reset : State).frozen pgFMT = false ∧ (gaSymbols (List.replicate 92 (List.replicate 4 false) : List (List Bool))).bind gaDecode = none) ∧
    ((State.reset.setFmt { State.reset.fmt with pred := gaDecode (List.replicate 14 0) } : State).frozen pgFMT = false ∧ (gaSymbols (gaCells (List.replicate 14 0) : List (List Bool))).bind gaDecode = some ((gaDecode (List.replicate 14 0)).getD 0 : Nat) ∧ (State.reset.setFmt { State.reset.fmt with pred := gaDecode (List.replicate 14 0) } : State).fmt.pred.map gaPlace = some (gaPlace ((gaDecode (List.replicate 14 0)).getD 0 : Nat))) ∧
    ((State.reset.setFmt { State.reset.fmt with cand := gaDecode (List.replicate 14 0), pred := some 5120 } : State).frozen pgFMT = false ∧ (gaSymbols (gaCells (List.replicate 14 0) : List (List Bool))).bind gaDecode = some ((gaDecode (List.replicate 14 0)).getD 0 : Nat) ∧ (State.reset.setFmt { State.reset.fmt with cand := gaDecode (List.replicate 14 0), pred := some 5120 } : State).fmt.pred.map gaPlace ≠ some (gaPlace ((gaDecode (List.replicate 14 0)).getD 0 : Nat)) ∧ (State.reset.setFmt { State.reset.fmt with cand := gaDecode (List.replicate 14 0), pred := some 5120 } : State).fmt.cand.map gaPlace = some (gaPlace ((gaDecode (List.replicate 14 0)).getD 0 : Nat))) ∧
    ((State.reset : State).frozen pgFMT = false ∧ (gaSymbols (gaCells (List.replicate 14 0) : List (List Bool))).bind gaDecode = some ((gaDecode (List.replicate 14 0)).getD 0 : Nat) ∧ (State.reset : State).fmt.pred.map gaPlace ≠ some (gaPlace ((gaDecode (List.replicate 14 0)).getD 0 : Nat)) ∧ (State.reset : State).fmt.cand.map gaPlace ≠ some (gaPlace ((gaDecode (List.replicate 14 0)).getD 0 : Nat))) ∧
    (((State.reset.setFmt { State.reset.fmt with pred := gaDecode (List.replicate 14 0) }).setBit Reg.FMT_DI_CTRL 0 true : State).frozen pgFMT = false ∧ (gaSymbols (gaCells (List.replicate 14 0) : List (List Bool))).bind gaDecode = some ((gaDecode (List.replicate 14 0)).getD 0 : Nat) ∧ (((State.reset.setFmt { State.reset.fmt with pred := gaDecode (List.replicate 14 0) }).setBit Reg.FMT_DI_CTRL 0 true : State).fmt.pred.map gaPlace = some (gaPlace ((gaDecode (List.replicate 14 0)).getD 0 : Nat)) ∨ ((State.reset.setFmt { State.reset.fmt with pred := gaDecode (List.replicate 14 0) }).setBit Reg.FMT_DI_CTRL 0 true : State).fmt.cand.map gaPlace = some (gaPlace ((gaDecode (List.replicate 14 0)).getD 0 : Nat)))) ∧
    ((State.reset.setBit (Reg.CTRL pgFMT) 2 true : State).wf = true ∧ (State.reset.setBit (Reg.CTRL pgFMT) 2 true : State).frozen pgFMT = true) ∧
    (16 ≤ (wGate (State.reset.setFld Reg.FMT_GASTAT 8 8 16) : State).fld Reg.FMT_GASTAT 8 8) ∧
    ((wGate (State.reset.setFld Reg.FMT_GASTAT 8 8 15) : State).wf = true ∧ (wGate (State.reset.setFld Reg.FMT_GASTAT 8 8 15) : State).fld Reg.FMT_GASTAT 8 8 < 16) ∧
    ((State.reset : State).frozen pgFMT = false) ∧
    ((State.reset.setBit (Reg.CTRL pgFMT) 2 true : State).wf = true ∧ (State.reset.setBit (Reg.CTRL pgFMT) 2 true : State).frozen pgFMT = true) ∧
    (Takes (State.reset.setReg Reg.FMT_DI_BASE 0x10000000#32 : State) (.sup : Master) Reg.FMT_DI_CTRL (1 : Word) (newOf (State.reset.setReg Reg.FMT_DI_BASE 0x10000000#32 : State) (.sup : Master) Reg.FMT_DI_CTRL (1 : Word) : Word) ∧ fieldOf (1 : Word) 0 1 = 1 ∧ fieldOf (newOf (State.reset.setReg Reg.FMT_DI_BASE 0x10000000#32 : State) (.sup : Master) Reg.FMT_DI_CTRL (1 : Word) : Word) 0 1 = 0 ∧ (State.reset.setReg Reg.FMT_DI_BASE 0x10000000#32 : State).reg Reg.FMT_DI_BASE ≠ 0#32) ∧
    (Takes (State.reset : State) (.sup : Master) Reg.FMT_DI_CTRL (1 : Word) (newOf (State.reset : State) (.sup : Master) Reg.FMT_DI_CTRL (1 : Word) : Word) ∧ fieldOf (1 : Word) 0 1 = 1 ∧ (fieldOf (newOf (State.reset : State) (.sup : Master) Reg.FMT_DI_CTRL (1 : Word) : Word) 0 1 = 1 ∨ (State.reset : State).reg Reg.FMT_DI_BASE = 0#32)) ∧
    (Takes (State.reset : State) (.sup : Master) Reg.FMT_DI_CTRL (0 : Word) (newOf (State.reset : State) (.sup : Master) Reg.FMT_DI_CTRL (0 : Word) : Word) ∧ fieldOf (0 : Word) 0 1 = 0) ∧
    (((State.reset.setBit Reg.FMT_DI_CTRL 0 true).setFmt { State.reset.fmt with diMask := 2 ^ 512 - 1 } : State).frozen pgFMT = false ∧ ((State.reset.setBit Reg.FMT_DI_CTRL 0 true).setFmt { State.reset.fmt with diMask := 2 ^ 512 - 1 } : State).bit Reg.FMT_DI_CTRL 0 = true ∧ ((State.reset.setBit Reg.FMT_DI_CTRL 0 true).setFmt { State.reset.fmt with diMask := 2 ^ 512 - 1 } : State).fmt.diMask = 2 ^ 512 - 1) ∧
    (((State.reset.setBit Reg.FMT_DI_CTRL 0 true).setFmt { State.reset.fmt with diMask := 2 ^ 511 - 1 } : State).wf = true ∧ (((State.reset.setBit Reg.FMT_DI_CTRL 0 true).setFmt { State.reset.fmt with diMask := 2 ^ 511 - 1 } : State).frozen pgFMT = true ∨ ((State.reset.setBit Reg.FMT_DI_CTRL 0 true).setFmt { State.reset.fmt with diMask := 2 ^ 511 - 1 } : State).bit Reg.FMT_DI_CTRL 0 = false ∨ ((State.reset.setBit Reg.FMT_DI_CTRL 0 true).setFmt { State.reset.fmt with diMask := 2 ^ 511 - 1 } : State).fmt.diMask ≠ 2 ^ 512 - 1)) := by
  refine ⟨?_, ?_, ?_, ?_, ?_, ?_, ?_, ?_, ?_, ?_, ?_, ?_, ?_, ?_, ?_, ?_, ?_, ?_, ?_⟩ <;> decide +kernel

/-- The hypotheses of Obligations.JumpSequencerRunsItsStates can be met, clause by clause. -/
theorem witness_JumpSequencerRunsItsStates :
    (Takes (State.reset.setReg Reg.ACT_CFG 15#32 : State) (.sup : Master) Reg.ACT_JMP_CTRL (0xF0D : Word) (newOf (State.reset.setReg Reg.ACT_CFG 15#32 : State) (.sup : Master) Reg.ACT_JMP_CTRL (0xF0D : Word) : Word) ∧ (State.reset.setReg Reg.ACT_CFG 15#32 : State).sv.ctl.length = 4 ∧ seqRuns (State.reset.setReg Reg.ACT_CFG 15#32 : State) = false ∧ fieldOf (0xF0D : Word) 0 1 = 1 ∧ goRefused ((State.reset.setReg Reg.ACT_CFG 15#32 : State).setReg Reg.ACT_JMP_CTRL (newOf (State.reset.setReg Reg.ACT_CFG 15#32 : State) (.sup : Master) Reg.ACT_JMP_CTRL (0xF0D : Word) : Word)) = false ∧ fieldOf (newOf (State.reset.setReg Reg.ACT_CFG 15#32 : State) (.sup : Master) Reg.ACT_JMP_CTRL (0xF0D : Word) : Word) 1 1 = 0) ∧
    (Takes (State.reset : State) (.sup : Master) Reg.ACT_JMP_CTRL (0x105 : Word) (newOf (State.reset : State) (.sup : Master) Reg.ACT_JMP_CTRL (0x105 : Word) : Word) ∧ (State.reset : State).sv.ctl.length = 4 ∧ seqRuns (State.reset : State) = false ∧ fieldOf (0x105 : Word) 0 1 = 1 ∧ goRefused ((State.reset : State).setReg Reg.ACT_JMP_CTRL (newOf (State.reset : State) (.sup : Master) Reg.ACT_JMP_CTRL (0x105 : Word) : Word)) = true) ∧
    (Takes (wSeq 0x105#32 2 : State) (.sup : Master) Reg.ACT_JMP_CTRL (0x203 : Word) (newOf (wSeq 0x105#32 2 : State) (.sup : Master) Reg.ACT_JMP_CTRL (0x203 : Word) : Word) ∧ seqRuns (wSeq 0x105#32 2 : State) = true ∧ fieldOf (0x203 : Word) 31 1 = 0) ∧
    (Takes (State.reset : State) (.sup : Master) Reg.ACT_JMP_CTRL (0xF0C : Word) (newOf (State.reset : State) (.sup : Master) Reg.ACT_JMP_CTRL (0xF0C : Word) : Word) ∧ seqRuns (State.reset : State) = false ∧ fieldOf (0xF0C : Word) 0 1 = 0) ∧
    (Takes ((State.reset.setReg Reg.ACT_CFG 15#32).setReg Reg.ACT_JMP_LIM 0x1000F000#32 : State) (.sup : Master) Reg.ACT_JMP_CTRL (0x103 : Word) (newOf ((State.reset.setReg Reg.ACT_CFG 15#32).setReg Reg.ACT_JMP_LIM 0x1000F000#32 : State) (.sup : Master) Reg.ACT_JMP_CTRL (0x103 : Word) : Word) ∧ ((State.reset.setReg Reg.ACT_CFG 15#32).setReg Reg.ACT_JMP_LIM 0x1000F000#32 : State).sv.ctl.length = 4 ∧ seqRuns ((State.reset.setReg Reg.ACT_CFG 15#32).setReg Reg.ACT_JMP_LIM 0x1000F000#32 : State) = false ∧ fieldOf (0x103 : Word) 0 1 = 1 ∧ goRefused (((State.reset.setReg Reg.ACT_CFG 15#32).setReg Reg.ACT_JMP_LIM 0x1000F000#32 : State).setReg Reg.ACT_JMP_CTRL (newOf ((State.reset.setReg Reg.ACT_CFG 15#32).setReg Reg.ACT_JMP_LIM 0x1000F000#32 : State) (.sup : Master) Reg.ACT_JMP_CTRL (0x103 : Word) : Word)) = false ∧ fieldOf (newOf ((State.reset.setReg Reg.ACT_CFG 15#32).setReg Reg.ACT_JMP_LIM 0x1000F000#32 : State) (.sup : Master) Reg.ACT_JMP_CTRL (0x103 : Word) : Word) 1 1 = 1) ∧
    (Takes (State.reset.setReg Reg.ACT_CFG 15#32 : State) (.sup : Master) Reg.ACT_JMP_CTRL (0x107 : Word) (newOf (State.reset.setReg Reg.ACT_CFG 15#32 : State) (.sup : Master) Reg.ACT_JMP_CTRL (0x107 : Word) : Word) ∧ (State.reset.setReg Reg.ACT_CFG 15#32 : State).sv.ctl.length = 4 ∧ seqRuns (State.reset.setReg Reg.ACT_CFG 15#32 : State) = false ∧ fieldOf (0x107 : Word) 0 1 = 1 ∧ goRefused ((State.reset.setReg Reg.ACT_CFG 15#32 : State).setReg Reg.ACT_JMP_CTRL (newOf (State.reset.setReg Reg.ACT_CFG 15#32 : State) (.sup : Master) Reg.ACT_JMP_CTRL (0x107 : Word) : Word)) = true) ∧
    (seqRuns (wSeq 3#32 1 : State) = true ∧ seqSweep (wSeq 3#32 1 : State) = true ∧ seqState (wSeq 3#32 1 : State) = 1) ∧
    ((wSeq 1#32 1 : State).wf = true ∧ (seqRuns (wSeq 1#32 1 : State) = false ∨ seqSweep (wSeq 1#32 1 : State) = false ∨ seqState (wSeq 1#32 1 : State) ≠ 1)) ∧
    (seqRuns (wSeq 1#32 1 : State) = true ∧ seqSweep (wSeq 1#32 1 : State) = false ∧ seqState (wSeq 1#32 1 : State) = 1) ∧
    ((wSeq 1#32 2 : State).wf = true ∧ (seqRuns (wSeq 1#32 2 : State) = false ∨ seqSweep (wSeq 1#32 2 : State) = true ∨ seqState (wSeq 1#32 2 : State) ≠ 1)) ∧
    (([wS 300 0 0 0] : List ServoSample).foldl sampleStep (wSeq 0x105#32 1 : State) = ((([wS 300 0 0 0]).foldl sampleStep (wSeq 0x105#32 1)) : State) ∧ sadcRuns ((([wS 300 0 0 0]).foldl sampleStep (wSeq 0x105#32 1)) : State) = true ∧ ((([wS 300 0 0 0]).foldl sampleStep (wSeq 0x105#32 1)) : State).frozen pgSADC = false ∧ grooveSide ((([wS 300 0 0 0]).foldl sampleStep (wSeq 0x105#32 1)) : State) (teSample ((([wS 300 0 0 0]).foldl sampleStep (wSeq 0x105#32 1)) : State) (wS (-300) 0 0 0 : ServoSample)) = ((-1 : Int) : Int) ∧ ((-1 : Int) : Int) ≠ 0 ∧ ((([wS 300 0 0 0]).foldl sampleStep (wSeq 0x105#32 1)) : State).sv.groove.side = -((-1 : Int) : Int) ∧ grooveZero ((([wS 300 0 0 0]).foldl sampleStep (wSeq 0x105#32 1)) : State).sv.groove (teSample ((([wS 300 0 0 0]).foldl sampleStep (wSeq 0x105#32 1)) : State) (wS (-300) 0 0 0 : ServoSample)) (sumSample ((([wS 300 0 0 0]).foldl sampleStep (wSeq 0x105#32 1)) : State) (wS (-300) 0 0 0 : ServoSample)) = some ((0 : Nat), false) ∧ seqRuns ((([wS 300 0 0 0]).foldl sampleStep (wSeq 0x105#32 1)) : State) = true ∧ seqSweep ((([wS 300 0 0 0]).foldl sampleStep (wSeq 0x105#32 1)) : State) = false ∧ seqAxis ((([wS 300 0 0 0]).foldl sampleStep (wSeq 0x105#32 1)) : State) = 1 ∧ (seqState ((([wS 300 0 0 0]).foldl sampleStep (wSeq 0x105#32 1)) : State) = 1 ∨ seqState ((([wS 300 0 0 0]).foldl sampleStep (wSeq 0x105#32 1)) : State) = 2) ∧ seqCount ((([wS 300 0 0 0]).foldl sampleStep (wSeq 0x105#32 1)) : State) ≤ seqCounted ((([wS 300 0 0 0]).foldl sampleStep (wSeq 0x105#32 1)) : State) + 1) ∧
    (([wS 0 0 600 0] : List ServoSample).foldl sampleStep (wSeq 0x101#32 2 : State) = ((([wS 0 0 600 0]).foldl sampleStep (wSeq 0x101#32 2)) : State) ∧ sadcRuns ((([wS 0 0 600 0]).foldl sampleStep (wSeq 0x101#32 2)) : State) = true ∧ seqRuns ((([wS 0 0 600 0]).foldl sampleStep (wSeq 0x101#32 2)) : State) = true ∧ seqSweep ((([wS 0 0 600 0]).foldl sampleStep (wSeq 0x101#32 2)) : State) = false ∧ seqAxis ((([wS 0 0 600 0]).foldl sampleStep (wSeq 0x101#32 2)) : State) = 0 ∧ (seqState ((([wS 0 0 600 0]).foldl sampleStep (wSeq 0x101#32 2)) : State) = 1 ∨ seqState ((([wS 0 0 600 0]).foldl sampleStep (wSeq 0x101#32 2)) : State) = 2) ∧ seqCount ((([wS 0 0 600 0]).foldl sampleStep (wSeq 0x101#32 2)) : State) ≤ seqCounted ((([wS 0 0 600 0]).foldl sampleStep (wSeq 0x101#32 2)) : State) + 1 ∧ sumCaptures ((([wS 0 0 600 0]).foldl sampleStep (wSeq 0x101#32 2)) : State) (sampleVal ((([wS 0 0 600 0]).foldl sampleStep (wSeq 0x101#32 2)) : State) (wS 0 (-200) 600 0 : ServoSample) 1) = true ∧ beyond (sampleVal ((([wS 0 0 600 0]).foldl sampleStep (wSeq 0x101#32 2)) : State) (wS 0 (-200) 600 0 : ServoSample) 9) (((([wS 0 0 600 0]).foldl sampleStep (wSeq 0x101#32 2)) : State).fld Reg.ACT_JMP_CAP 16 12) = true ∧ (if 0 < sampleVal ((([wS 0 0 600 0]).foldl sampleStep (wSeq 0x101#32 2)) : State) (wS 0 (-200) 600 0 : ServoSample) 9 then 1 else -1) = ((-1 : Int) : Int) ∧ ((([wS 0 0 600 0]).foldl sampleStep (wSeq 0x101#32 2)) : State).sv.excur ≠ ((-1 : Int) : Int) ∧ ((([wS 0 0 600 0]).foldl sampleStep (wSeq 0x101#32 2)) : State).sv.lobe ≠ -((-1 : Int) : Int)) ∧
    (([wS 300 0 0 0] : List ServoSample).foldl sampleStep (wSeq 0x205#32 2 : State) = ((([wS 300 0 0 0]).foldl sampleStep (wSeq 0x205#32 2)) : State) ∧ sadcRuns ((([wS 300 0 0 0]).foldl sampleStep (wSeq 0x205#32 2)) : State) = true ∧ seqRuns ((([wS 300 0 0 0]).foldl sampleStep (wSeq 0x205#32 2)) : State) = true ∧ seqSweep ((([wS 300 0 0 0]).foldl sampleStep (wSeq 0x205#32 2)) : State) = false ∧ (seqState ((([wS 300 0 0 0]).foldl sampleStep (wSeq 0x205#32 2)) : State) = 1 ∨ seqState ((([wS 300 0 0 0]).foldl sampleStep (wSeq 0x205#32 2)) : State) = 2) ∧ seqCounted ((([wS 300 0 0 0]).foldl sampleStep (wSeq 0x205#32 2)) : State) + 1 < seqCount ((([wS 300 0 0 0]).foldl sampleStep (wSeq 0x205#32 2)) : State)) ∧
    (([wS 0 (-200) 600 0, wS 0 0 600 0] : List ServoSample).foldl sampleStep (wSeq 0x201#32 2 : State) = ((([wS 0 (-200) 600 0, wS 0 0 600 0]).foldl sampleStep (wSeq 0x201#32 2)) : State) ∧ sadcRuns ((([wS 0 (-200) 600 0, wS 0 0 600 0]).foldl sampleStep (wSeq 0x201#32 2)) : State) = true ∧ countsCurves ((([wS 0 (-200) 600 0, wS 0 0 600 0]).foldl sampleStep (wSeq 0x201#32 2)) : State) = true ∧ sumCaptures ((([wS 0 (-200) 600 0, wS 0 0 600 0]).foldl sampleStep (wSeq 0x201#32 2)) : State) (sampleVal ((([wS 0 (-200) 600 0, wS 0 0 600 0]).foldl sampleStep (wSeq 0x201#32 2)) : State) (wS 0 200 600 0 : ServoSample) 1) = true ∧ beyond (sampleVal ((([wS 0 (-200) 600 0, wS 0 0 600 0]).foldl sampleStep (wSeq 0x201#32 2)) : State) (wS 0 200 600 0 : ServoSample) 9) (((([wS 0 (-200) 600 0, wS 0 0 600 0]).foldl sampleStep (wSeq 0x201#32 2)) : State).fld Reg.ACT_JMP_CAP 16 12) = true ∧ (if 0 < sampleVal ((([wS 0 (-200) 600 0, wS 0 0 600 0]).foldl sampleStep (wSeq 0x201#32 2)) : State) (wS 0 200 600 0 : ServoSample) 9 then 1 else -1) = ((1 : Int) : Int) ∧ ((([wS 0 (-200) 600 0, wS 0 0 600 0]).foldl sampleStep (wSeq 0x201#32 2)) : State).sv.excur ≠ ((1 : Int) : Int) ∧ ((([wS 0 (-200) 600 0, wS 0 0 600 0]).foldl sampleStep (wSeq 0x201#32 2)) : State).sv.lobe = -((1 : Int) : Int)) ∧
    (([wS 0 (-200) 600 0] : List ServoSample).foldl sampleStep (wSeq 0x201#32 2 : State) = ((([wS 0 (-200) 600 0]).foldl sampleStep (wSeq 0x201#32 2)) : State) ∧ sadcRuns ((([wS 0 (-200) 600 0]).foldl sampleStep (wSeq 0x201#32 2)) : State) = true ∧ countsCurves ((([wS 0 (-200) 600 0]).foldl sampleStep (wSeq 0x201#32 2)) : State) = true ∧ sumCaptures ((([wS 0 (-200) 600 0]).foldl sampleStep (wSeq 0x201#32 2)) : State) (sampleVal ((([wS 0 (-200) 600 0]).foldl sampleStep (wSeq 0x201#32 2)) : State) (wS 0 0 512 0 : ServoSample) 1) = false) ∧
    (([wS 0 (-200) 600 0] : List ServoSample).foldl sampleStep (wSeq 0x101#32 3 : State) = ((([wS 0 (-200) 600 0]).foldl sampleStep (wSeq 0x101#32 3)) : State) ∧ sadcRuns ((([wS 0 (-200) 600 0]).foldl sampleStep (wSeq 0x101#32 3)) : State) = true ∧ curveSample (sampleVal ((([wS 0 (-200) 600 0]).foldl sampleStep (wSeq 0x101#32 3)) : State) (wS 0 128 600 0 : ServoSample) 9) (sampleVal ((([wS 0 (-200) 600 0]).foldl sampleStep (wSeq 0x101#32 3)) : State) (wS 0 128 600 0 : ServoSample) 1) (sampleTaken ((([wS 0 (-200) 600 0]).foldl sampleStep (wSeq 0x101#32 3)) : State) (wS 0 128 600 0 : ServoSample)) = ((curveSample (sampleVal (([wS 0 (-200) 600 0]).foldl sampleStep (wSeq 0x101#32 3)) (wS 0 128 600 0) 9) (sampleVal (([wS 0 (-200) 600 0]).foldl sampleStep (wSeq 0x101#32 3)) (wS 0 128 600 0) 1) (sampleTaken (([wS 0 (-200) 600 0]).foldl sampleStep (wSeq 0x101#32 3)) (wS 0 128 600 0))) : State) ∧ seqState ((([wS 0 (-200) 600 0]).foldl sampleStep (wSeq 0x101#32 3)) : State) = seqState ((curveSample (sampleVal (([wS 0 (-200) 600 0]).foldl sampleStep (wSeq 0x101#32 3)) (wS 0 128 600 0) 9) (sampleVal (([wS 0 (-200) 600 0]).foldl sampleStep (wSeq 0x101#32 3)) (wS 0 128 600 0) 1) (sampleTaken (([wS 0 (-200) 600 0]).foldl sampleStep (wSeq 0x101#32 3)) (wS 0 128 600 0))) : State) ∧ capturesAt ((curveSample (sampleVal (([wS 0 (-200) 600 0]).foldl sampleStep (wSeq 0x101#32 3)) (wS 0 128 600 0) 9) (sampleVal (([wS 0 (-200) 600 0]).foldl sampleStep (wSeq 0x101#32 3)) (wS 0 128 600 0) 1) (sampleTaken (([wS 0 (-200) 600 0]).foldl sampleStep (wSeq 0x101#32 3)) (wS 0 128 600 0))) : State) (if seqAxis ((curveSample (sampleVal (([wS 0 (-200) 600 0]).foldl sampleStep (wSeq 0x101#32 3)) (wS 0 128 600 0) 9) (sampleVal (([wS 0 (-200) 600 0]).foldl sampleStep (wSeq 0x101#32 3)) (wS 0 128 600 0) 1) (sampleTaken (([wS 0 (-200) 600 0]).foldl sampleStep (wSeq 0x101#32 3)) (wS 0 128 600 0))) : State) = 0 then sampleVal ((([wS 0 (-200) 600 0]).foldl sampleStep (wSeq 0x101#32 3)) : State) (wS 0 128 600 0 : ServoSample) 9 else sampleVal ((([wS 0 (-200) 600 0]).foldl sampleStep (wSeq 0x101#32 3)) : State) (wS 0 128 600 0 : ServoSample) (techCh ((curveSample (sampleVal (([wS 0 (-200) 600 0]).foldl sampleStep (wSeq 0x101#32 3)) (wS 0 128 600 0) 9) (sampleVal (([wS 0 (-200) 600 0]).foldl sampleStep (wSeq 0x101#32 3)) (wS 0 128 600 0) 1) (sampleTaken (([wS 0 (-200) 600 0]).foldl sampleStep (wSeq 0x101#32 3)) (wS 0 128 600 0))) : State))) (sampleVal ((([wS 0 (-200) 600 0]).foldl sampleStep (wSeq 0x101#32 3)) : State) (wS 0 128 600 0 : ServoSample) 1) = true) ∧
    (([wS 0 (-200) 600 0] : List ServoSample).foldl sampleStep ((wSeq 0x103#32 2).setReg (Reg.ACT_BR_OUT 0) 0x1234#32 : State) = ((([wS 0 (-200) 600 0]).foldl sampleStep ((wSeq 0x103#32 2).setReg (Reg.ACT_BR_OUT 0) 0x1234#32)) : State) ∧ sadcRuns ((([wS 0 (-200) 600 0]).foldl sampleStep ((wSeq 0x103#32 2).setReg (Reg.ACT_BR_OUT 0) 0x1234#32)) : State) = true ∧ curveSample (sampleVal ((([wS 0 (-200) 600 0]).foldl sampleStep ((wSeq 0x103#32 2).setReg (Reg.ACT_BR_OUT 0) 0x1234#32)) : State) (wS 0 128 600 0 : ServoSample) 9) (sampleVal ((([wS 0 (-200) 600 0]).foldl sampleStep ((wSeq 0x103#32 2).setReg (Reg.ACT_BR_OUT 0) 0x1234#32)) : State) (wS 0 128 600 0 : ServoSample) 1) (sampleTaken ((([wS 0 (-200) 600 0]).foldl sampleStep ((wSeq 0x103#32 2).setReg (Reg.ACT_BR_OUT 0) 0x1234#32)) : State) (wS 0 128 600 0 : ServoSample)) = ((curveSample (sampleVal (([wS 0 (-200) 600 0]).foldl sampleStep ((wSeq 0x103#32 2).setReg (Reg.ACT_BR_OUT 0) 0x1234#32)) (wS 0 128 600 0) 9) (sampleVal (([wS 0 (-200) 600 0]).foldl sampleStep ((wSeq 0x103#32 2).setReg (Reg.ACT_BR_OUT 0) 0x1234#32)) (wS 0 128 600 0) 1) (sampleTaken (([wS 0 (-200) 600 0]).foldl sampleStep ((wSeq 0x103#32 2).setReg (Reg.ACT_BR_OUT 0) 0x1234#32)) (wS 0 128 600 0))) : State) ∧ seqState ((([wS 0 (-200) 600 0]).foldl sampleStep ((wSeq 0x103#32 2).setReg (Reg.ACT_BR_OUT 0) 0x1234#32)) : State) = seqState ((curveSample (sampleVal (([wS 0 (-200) 600 0]).foldl sampleStep ((wSeq 0x103#32 2).setReg (Reg.ACT_BR_OUT 0) 0x1234#32)) (wS 0 128 600 0) 9) (sampleVal (([wS 0 (-200) 600 0]).foldl sampleStep ((wSeq 0x103#32 2).setReg (Reg.ACT_BR_OUT 0) 0x1234#32)) (wS 0 128 600 0) 1) (sampleTaken (([wS 0 (-200) 600 0]).foldl sampleStep ((wSeq 0x103#32 2).setReg (Reg.ACT_BR_OUT 0) 0x1234#32)) (wS 0 128 600 0))) : State) ∧ capturesAt ((curveSample (sampleVal (([wS 0 (-200) 600 0]).foldl sampleStep ((wSeq 0x103#32 2).setReg (Reg.ACT_BR_OUT 0) 0x1234#32)) (wS 0 128 600 0) 9) (sampleVal (([wS 0 (-200) 600 0]).foldl sampleStep ((wSeq 0x103#32 2).setReg (Reg.ACT_BR_OUT 0) 0x1234#32)) (wS 0 128 600 0) 1) (sampleTaken (([wS 0 (-200) 600 0]).foldl sampleStep ((wSeq 0x103#32 2).setReg (Reg.ACT_BR_OUT 0) 0x1234#32)) (wS 0 128 600 0))) : State) (if seqAxis ((curveSample (sampleVal (([wS 0 (-200) 600 0]).foldl sampleStep ((wSeq 0x103#32 2).setReg (Reg.ACT_BR_OUT 0) 0x1234#32)) (wS 0 128 600 0) 9) (sampleVal (([wS 0 (-200) 600 0]).foldl sampleStep ((wSeq 0x103#32 2).setReg (Reg.ACT_BR_OUT 0) 0x1234#32)) (wS 0 128 600 0) 1) (sampleTaken (([wS 0 (-200) 600 0]).foldl sampleStep ((wSeq 0x103#32 2).setReg (Reg.ACT_BR_OUT 0) 0x1234#32)) (wS 0 128 600 0))) : State) = 0 then sampleVal ((([wS 0 (-200) 600 0]).foldl sampleStep ((wSeq 0x103#32 2).setReg (Reg.ACT_BR_OUT 0) 0x1234#32)) : State) (wS 0 128 600 0 : ServoSample) 9 else sampleVal ((([wS 0 (-200) 600 0]).foldl sampleStep ((wSeq 0x103#32 2).setReg (Reg.ACT_BR_OUT 0) 0x1234#32)) : State) (wS 0 128 600 0 : ServoSample) (techCh ((curveSample (sampleVal (([wS 0 (-200) 600 0]).foldl sampleStep ((wSeq 0x103#32 2).setReg (Reg.ACT_BR_OUT 0) 0x1234#32)) (wS 0 128 600 0) 9) (sampleVal (([wS 0 (-200) 600 0]).foldl sampleStep ((wSeq 0x103#32 2).setReg (Reg.ACT_BR_OUT 0) 0x1234#32)) (wS 0 128 600 0) 1) (sampleTaken (([wS 0 (-200) 600 0]).foldl sampleStep ((wSeq 0x103#32 2).setReg (Reg.ACT_BR_OUT 0) 0x1234#32)) (wS 0 128 600 0))) : State))) (sampleVal ((([wS 0 (-200) 600 0]).foldl sampleStep ((wSeq 0x103#32 2).setReg (Reg.ACT_BR_OUT 0) 0x1234#32)) : State) (wS 0 128 600 0 : ServoSample) 1) = true ∧ seqSweep ((curveSample (sampleVal (([wS 0 (-200) 600 0]).foldl sampleStep ((wSeq 0x103#32 2).setReg (Reg.ACT_BR_OUT 0) 0x1234#32)) (wS 0 128 600 0) 9) (sampleVal (([wS 0 (-200) 600 0]).foldl sampleStep ((wSeq 0x103#32 2).setReg (Reg.ACT_BR_OUT 0) 0x1234#32)) (wS 0 128 600 0) 1) (sampleTaken (([wS 0 (-200) 600 0]).foldl sampleStep ((wSeq 0x103#32 2).setReg (Reg.ACT_BR_OUT 0) 0x1234#32)) (wS 0 128 600 0))) : State) = true ∧ routeOwns ((curveSample (sampleVal (([wS 0 (-200) 600 0]).foldl sampleStep ((wSeq 0x103#32 2).setReg (Reg.ACT_BR_OUT 0) 0x1234#32)) (wS 0 128 600 0) 9) (sampleVal (([wS 0 (-200) 600 0]).foldl sampleStep ((wSeq 0x103#32 2).setReg (Reg.ACT_BR_OUT 0) 0x1234#32)) (wS 0 128 600 0) 1) (sampleTaken (([wS 0 (-200) 600 0]).foldl sampleStep ((wSeq 0x103#32 2).setReg (Reg.ACT_BR_OUT 0) 0x1234#32)) (wS 0 128 600 0))) : State) (((curveSample (sampleVal (([wS 0 (-200) 600 0]).foldl sampleStep ((wSeq 0x103#32 2).setReg (Reg.ACT_BR_OUT 0) 0x1234#32)) (wS 0 128 600 0) 9) (sampleVal (([wS 0 (-200) 600 0]).foldl sampleStep ((wSeq 0x103#32 2).setReg (Reg.ACT_BR_OUT 0) 0x1234#32)) (wS 0 128 600 0) 1) (sampleTaken (([wS 0 (-200) 600 0]).foldl sampleStep ((wSeq 0x103#32 2).setReg (Reg.ACT_BR_OUT 0) 0x1234#32)) (wS 0 128 600 0))) : State).fld Reg.LENG_FHOLD 0 12) = false ∧ ((curveSample (sampleVal (([wS 0 (-200) 600 0]).foldl sampleStep ((wSeq 0x103#32 2).setReg (Reg.ACT_BR_OUT 0) 0x1234#32)) (wS 0 128 600 0) 9) (sampleVal (([wS 0 (-200) 600 0]).foldl sampleStep ((wSeq 0x103#32 2).setReg (Reg.ACT_BR_OUT 0) 0x1234#32)) (wS 0 128 600 0) 1) (sampleTaken (([wS 0 (-200) 600 0]).foldl sampleStep ((wSeq 0x103#32 2).setReg (Reg.ACT_BR_OUT 0) 0x1234#32)) (wS 0 128 600 0))) : State).fld Reg.LENG_FHOLD 0 12 < 0x800) ∧
    (([wS 0 (-200) 600 0] : List ServoSample).foldl sampleStep (wSeq 0x101#32 3 : State) = ((([wS 0 (-200) 600 0]).foldl sampleStep (wSeq 0x101#32 3)) : State) ∧ sadcRuns ((([wS 0 (-200) 600 0]).foldl sampleStep (wSeq 0x101#32 3)) : State) = true ∧ curveSample (sampleVal ((([wS 0 (-200) 600 0]).foldl sampleStep (wSeq 0x101#32 3)) : State) (wS 0 129 600 0 : ServoSample) 9) (sampleVal ((([wS 0 (-200) 600 0]).foldl sampleStep (wSeq 0x101#32 3)) : State) (wS 0 129 600 0 : ServoSample) 1) (sampleTaken ((([wS 0 (-200) 600 0]).foldl sampleStep (wSeq 0x101#32 3)) : State) (wS 0 129 600 0 : ServoSample)) = ((curveSample (sampleVal (([wS 0 (-200) 600 0]).foldl sampleStep (wSeq 0x101#32 3)) (wS 0 129 600 0) 9) (sampleVal (([wS 0 (-200) 600 0]).foldl sampleStep (wSeq 0x101#32 3)) (wS 0 129 600 0) 1) (sampleTaken (([wS 0 (-200) 600 0]).foldl sampleStep (wSeq 0x101#32 3)) (wS 0 129 600 0))) : State) ∧ (seqState ((([wS 0 (-200) 600 0]).foldl sampleStep (wSeq 0x101#32 3)) : State) ≠ seqState ((curveSample (sampleVal (([wS 0 (-200) 600 0]).foldl sampleStep (wSeq 0x101#32 3)) (wS 0 129 600 0) 9) (sampleVal (([wS 0 (-200) 600 0]).foldl sampleStep (wSeq 0x101#32 3)) (wS 0 129 600 0) 1) (sampleTaken (([wS 0 (-200) 600 0]).foldl sampleStep (wSeq 0x101#32 3)) (wS 0 129 600 0))) : State) ∨ capturesAt ((curveSample (sampleVal (([wS 0 (-200) 600 0]).foldl sampleStep (wSeq 0x101#32 3)) (wS 0 129 600 0) 9) (sampleVal (([wS 0 (-200) 600 0]).foldl sampleStep (wSeq 0x101#32 3)) (wS 0 129 600 0) 1) (sampleTaken (([wS 0 (-200) 600 0]).foldl sampleStep (wSeq 0x101#32 3)) (wS 0 129 600 0))) : State) (if seqAxis ((curveSample (sampleVal (([wS 0 (-200) 600 0]).foldl sampleStep (wSeq 0x101#32 3)) (wS 0 129 600 0) 9) (sampleVal (([wS 0 (-200) 600 0]).foldl sampleStep (wSeq 0x101#32 3)) (wS 0 129 600 0) 1) (sampleTaken (([wS 0 (-200) 600 0]).foldl sampleStep (wSeq 0x101#32 3)) (wS 0 129 600 0))) : State) = 0 then sampleVal ((([wS 0 (-200) 600 0]).foldl sampleStep (wSeq 0x101#32 3)) : State) (wS 0 129 600 0 : ServoSample) 9 else sampleVal ((([wS 0 (-200) 600 0]).foldl sampleStep (wSeq 0x101#32 3)) : State) (wS 0 129 600 0 : ServoSample) (techCh ((curveSample (sampleVal (([wS 0 (-200) 600 0]).foldl sampleStep (wSeq 0x101#32 3)) (wS 0 129 600 0) 9) (sampleVal (([wS 0 (-200) 600 0]).foldl sampleStep (wSeq 0x101#32 3)) (wS 0 129 600 0) 1) (sampleTaken (([wS 0 (-200) 600 0]).foldl sampleStep (wSeq 0x101#32 3)) (wS 0 129 600 0))) : State))) (sampleVal ((([wS 0 (-200) 600 0]).foldl sampleStep (wSeq 0x101#32 3)) : State) (wS 0 129 600 0 : ServoSample) 1) = false)) ∧
    (sadcRuns (wSeq 0x105#32 1 : State) = false ∨ ([] : List ServoSample) = []) ∧
    (sadcRuns (wSeq 0x105#32 3 : State) = false ∨ ([] : List ServoSample) = []) ∧
    (seqRuns (wSeq 5#32 3 : State) = true ∧ seqState (wSeq 5#32 3 : State) = 3) ∧
    ((wSeq 5#32 4 : State).wf = true ∧ (seqRuns (wSeq 5#32 4 : State) = false ∨ seqState (wSeq 5#32 4 : State) ≠ 3)) ∧
    (seqRuns ((wSeq 1#32 4).setSv { State.reset.sv with setRun := 256, focusLost := true } : State) = true ∧ seqState ((wSeq 1#32 4).setSv { State.reset.sv with setRun := 256, focusLost := true } : State) = 4 ∧ ((wSeq 1#32 4).setSv { State.reset.sv with setRun := 256, focusLost := true } : State).sv.returnDue = false ∧ ((wSeq 1#32 4).setSv { State.reset.sv with setRun := 256, focusLost := true } : State).fld Reg.ACT_SETTLE 0 12 ≤ ((wSeq 1#32 4).setSv { State.reset.sv with setRun := 256, focusLost := true } : State).sv.setRun) ∧
    (((wSeq 1#32 4).setSv { State.reset.sv with setRun := 255 } : State).wf = true ∧ (seqRuns ((wSeq 1#32 4).setSv { State.reset.sv with setRun := 255 } : State) = false ∨ seqState ((wSeq 1#32 4).setSv { State.reset.sv with setRun := 255 } : State) ≠ 4 ∨ ((wSeq 1#32 4).setSv { State.reset.sv with setRun := 255 } : State).sv.returnDue = true ∨ ((wSeq 1#32 4).setSv { State.reset.sv with setRun := 255 } : State).sv.setRun < ((wSeq 1#32 4).setSv { State.reset.sv with setRun := 255 } : State).fld Reg.ACT_SETTLE 0 12)) ∧
    (seqRuns ((wSeq 3#32 2).setSv { State.reset.sv with ramp := 13107 * 512 } : State) = true ∧ seqSweep ((wSeq 3#32 2).setSv { State.reset.sv with ramp := 13107 * 512 } : State) = true ∧ seqState ((wSeq 3#32 2).setSv { State.reset.sv with ramp := 13107 * 512 } : State) = 2 ∧ ((wSeq 3#32 2).setSv { State.reset.sv with ramp := 13107 * 512 } : State).sfld Reg.ACT_JMP_LIM 16 16 * 512 ≤ ((wSeq 3#32 2).setSv { State.reset.sv with ramp := 13107 * 512 } : State).sv.ramp) ∧
    (((wSeq 3#32 2).setSv { State.reset.sv with ramp := 13107 * 512 - 1 } : State).wf = true ∧ (seqRuns ((wSeq 3#32 2).setSv { State.reset.sv with ramp := 13107 * 512 - 1 } : State) = false ∨ seqSweep ((wSeq 3#32 2).setSv { State.reset.sv with ramp := 13107 * 512 - 1 } : State) = false ∨ seqState ((wSeq 3#32 2).setSv { State.reset.sv with ramp := 13107 * 512 - 1 } : State) ≠ 2 ∨ ((wSeq 3#32 2).setSv { State.reset.sv with ramp := 13107 * 512 - 1 } : State).sv.ramp < ((wSeq 3#32 2).setSv { State.reset.sv with ramp := 13107 * 512 - 1 } : State).sfld Reg.ACT_JMP_LIM 16 16 * 512)) ∧
    (seqRuns (wSeq 5#32 3 : State) = true ∧ seqAxis (wSeq 5#32 3 : State) = 1 ∧ (wSeq 5#32 3 : State).sv.ctl.length = 4 ∧ routeOwns (wSeq 5#32 3 : State) 0x80 = false) ∧
    (seqRuns (wSeq 1#32 3 : State) = true ∧ seqAxis (wSeq 1#32 3 : State) = 0) ∧
    ((wSeq 0x104#32 5 : State).wf = true ∧ seqRuns (wSeq 0x104#32 5 : State) = false) ∧
    (Takes (wSeq 5#32 3 : State) (.sup : Master) Reg.ACT_JMP_CTRL (0x80000000 : Word) (newOf (wSeq 5#32 3 : State) (.sup : Master) Reg.ACT_JMP_CTRL (0x80000000 : Word) : Word) ∧ seqRuns (wSeq 5#32 3 : State) = true ∧ fieldOf (0x80000000 : Word) 31 1 = 1 ∧ seqAxis (wSeq 5#32 3 : State) = 1 ∧ (wSeq 5#32 3 : State).sv.ctl.length = 4 ∧ routeOwns (wSeq 5#32 3 : State) 0x80 = false) ∧
    (Takes (wSeq 1#32 3 : State) (.sup : Master) Reg.ACT_JMP_CTRL (0x80000001 : Word) (newOf (wSeq 1#32 3 : State) (.sup : Master) Reg.ACT_JMP_CTRL (0x80000001 : Word) : Word) ∧ seqRuns (wSeq 1#32 3 : State) = true ∧ fieldOf (0x80000001 : Word) 31 1 = 1 ∧ seqAxis (wSeq 1#32 3 : State) = 0) ∧
    (Takes (wSeq 5#32 3 : State) (.sup : Master) Reg.ACT_JMP_CTRL (0x80000000 : Word) (newOf (wSeq 5#32 3 : State) (.sup : Master) Reg.ACT_JMP_CTRL (0x80000000 : Word) : Word) ∧ fieldOf (0x80000000 : Word) 0 1 = 0 ∧ ((true : Bool) = true ∨ seqRuns (wSeq 5#32 3 : State) = false ∨ fieldOf (0x80000000 : Word) 31 1 = 0)) := by
  refine ⟨?_, ?_, ?_, ?_, ?_, ?_, ?_, ?_, ?_, ?_, ?_, ?_, ?_, ?_, ?_, ?_, ?_, ?_, ?_, ?_, ?_, ?_, ?_, ?_, ?_, ?_, ?_, ?_, ?_, ?_, ?_, ?_⟩ <;> decide +kernel

/-- The hypotheses of Obligations.ServoMonitorsAndSafeState can be met, clause by clause. -/
theorem witness_ServoMonitorsAndSafeState :
    (((State.reset.setBit Reg.ACT_MON_TRK 31 true).setSv { State.reset.sv with offRun := 8 } : State).bit Reg.ACT_MON_TRK 31 = true ∧ ((State.reset.setBit Reg.ACT_MON_TRK 31 true).setSv { State.reset.sv with offRun := 8 } : State).fld Reg.ACT_MON_TRK 16 8 ≤ ((State.reset.setBit Reg.ACT_MON_TRK 31 true).setSv { State.reset.sv with offRun := 8 } : State).sv.offRun) ∧
    (((State.reset.setBit Reg.ACT_MON_TRK 31 true).setSv { State.reset.sv with offRun := 7 } : State).wf = true ∧ (((State.reset.setBit Reg.ACT_MON_TRK 31 true).setSv { State.reset.sv with offRun := 7 } : State).bit Reg.ACT_MON_TRK 31 = false ∨ ((State.reset.setBit Reg.ACT_MON_TRK 31 true).setSv { State.reset.sv with offRun := 7 } : State).sv.offRun < ((State.reset.setBit Reg.ACT_MON_TRK 31 true).setSv { State.reset.sv with offRun := 7 } : State).fld Reg.ACT_MON_TRK 16 8)) ∧
    (([] : List ServoSample).foldl sampleStep (State.reset.setBit Reg.ACT_MON_SHK 31 true : State) = ((([]).foldl sampleStep (State.reset.setBit Reg.ACT_MON_SHK 31 true)) : State) ∧ sadcRuns ((([]).foldl sampleStep (State.reset.setBit Reg.ACT_MON_SHK 31 true)) : State) = true ∧ ((([]).foldl sampleStep (State.reset.setBit Reg.ACT_MON_SHK 31 true)) : State).bit Reg.ACT_MON_SHK 31 = true ∧ beyond (sampleVal ((([]).foldl sampleStep (State.reset.setBit Reg.ACT_MON_SHK 31 true)) : State) (wS 0 0 0 1025 : ServoSample) 30) (((([]).foldl sampleStep (State.reset.setBit Reg.ACT_MON_SHK 31 true)) : State).fld Reg.ACT_MON_SHK 0 12) = true) ∧
    (((State.reset.setBit Reg.ACT_MON_SHK 31 true).setBit Reg.WINH_SHKD 0 true : State).bit Reg.ACT_MON_SHK 31 = true ∧ ((State.reset.setBit Reg.ACT_MON_SHK 31 true).setBit Reg.WINH_SHKD 0 true : State).bit Reg.WINH_SHKD 0 = true) ∧
    (([] : List ServoSample).foldl sampleStep (State.reset.setBit Reg.ACT_MON_SHK 31 true : State) = ((([]).foldl sampleStep (State.reset.setBit Reg.ACT_MON_SHK 31 true)) : State) ∧ (sadcRuns ((([]).foldl sampleStep (State.reset.setBit Reg.ACT_MON_SHK 31 true)) : State) = false ∨ ((([]).foldl sampleStep (State.reset.setBit Reg.ACT_MON_SHK 31 true)) : State).bit Reg.ACT_MON_SHK 31 = false ∨ beyond (sampleVal ((([]).foldl sampleStep (State.reset.setBit Reg.ACT_MON_SHK 31 true)) : State) (wS 0 0 0 1024 : ServoSample) 30) (((([]).foldl sampleStep (State.reset.setBit Reg.ACT_MON_SHK 31 true)) : State).fld Reg.ACT_MON_SHK 0 12) = false) ∧ ((true : Bool) = false ∨ (State.reset.setBit Reg.ACT_MON_SHK 31 true : State).bit Reg.ACT_MON_SHK 31 = false ∨ (State.reset.setBit Reg.ACT_MON_SHK 31 true : State).bit Reg.WINH_SHKD 0 = false)) ∧
    (({ State.reset.setSv { State.reset.sv with shockTick := some 7 } with ticks := 4103 } : State).sv.shockTick = some (7 : Nat) ∧ (7 : Nat) + 4096 ≤ ({ State.reset.setSv { State.reset.sv with shockTick := some 7 } with ticks := 4103 } : State).ticks) ∧
    (({ State.reset.setSv { State.reset.sv with shockTick := some 7 } with ticks := 4102 } : State).wf = true ∧ (({ State.reset.setSv { State.reset.sv with shockTick := some 7 } with ticks := 4102 } : State).sv.shockTick = none ∨ ({ State.reset.setSv { State.reset.sv with shockTick := some 7 } with ticks := 4102 } : State).sv.shockTick = some (7 : Nat) ∧ ({ State.reset.setSv { State.reset.sv with shockTick := some 7 } with ticks := 4102 } : State).ticks < (7 : Nat) + 4096)) ∧
    ((wGate ((State.reset.setBit Reg.ACT_MON_FOC 31 true).setSv { State.reset.sv with lossRun := 32 }) : State).bit Reg.ACT_MON_FOC 31 = true ∧ (wGate ((State.reset.setBit Reg.ACT_MON_FOC 31 true).setSv { State.reset.sv with lossRun := 32 }) : State).fld Reg.ACT_MON_FOC 16 8 ≤ (wGate ((State.reset.setBit Reg.ACT_MON_FOC 31 true).setSv { State.reset.sv with lossRun := 32 }) : State).sv.lossRun) ∧
    (((State.reset.setBit Reg.ACT_MON_FOC 31 true).setSv { State.reset.sv with lossRun := 31 } : State).wf = true ∧ (((State.reset.setBit Reg.ACT_MON_FOC 31 true).setSv { State.reset.sv with lossRun := 31 } : State).bit Reg.ACT_MON_FOC 31 = false ∨ ((State.reset.setBit Reg.ACT_MON_FOC 31 true).setSv { State.reset.sv with lossRun := 31 } : State).sv.lossRun < ((State.reset.setBit Reg.ACT_MON_FOC 31 true).setSv { State.reset.sv with lossRun := 31 } : State).fld Reg.ACT_MON_FOC 16 8)) ∧
    (Takes (wGate (wSeq 0x105#32 2) : State) (.sup : Master) Reg.ACT_SAFE (1 : Word) (newOf (wGate (wSeq 0x105#32 2) : State) (.sup : Master) Reg.ACT_SAFE (1 : Word) : Word) ∧ fieldOf (1 : Word) 0 1 = 1 ∧ fieldOf (1 : Word) 1 1 = 0 ∧ fieldOf (newOf (wGate (wSeq 0x105#32 2) : State) (.sup : Master) Reg.ACT_SAFE (1 : Word) : Word) 8 1 = 0) ∧
    (Takes ((State.reset.setBit Reg.ACT_SAFE 8 true).setFld Reg.ACT_SAFE 12 4 4 : State) (.sup : Master) Reg.ACT_SAFE (1 : Word) (newOf ((State.reset.setBit Reg.ACT_SAFE 8 true).setFld Reg.ACT_SAFE 12 4 4 : State) (.sup : Master) Reg.ACT_SAFE (1 : Word) : Word) ∧ fieldOf (1 : Word) 0 1 = 1 ∧ fieldOf (1 : Word) 1 1 = 0 ∧ fieldOf (newOf ((State.reset.setBit Reg.ACT_SAFE 8 true).setFld Reg.ACT_SAFE 12 4 4 : State) (.sup : Master) Reg.ACT_SAFE (1 : Word) : Word) 8 1 = 1) ∧
    (Takes (State.reset : State) (.sup : Master) Reg.ACT_SAFE (0 : Word) (newOf (State.reset : State) (.sup : Master) Reg.ACT_SAFE (0 : Word) : Word) ∧ fieldOf (0 : Word) 0 1 = 0 ∧ fieldOf (0 : Word) 1 1 = 0) ∧
    (Takes ((State.reset.setBit Reg.ACT_SAFE 8 true).setFld Reg.ACT_SAFE 12 4 2 : State) (.sup : Master) Reg.ACT_SAFE (2 : Word) (newOf ((State.reset.setBit Reg.ACT_SAFE 8 true).setFld Reg.ACT_SAFE 12 4 2 : State) (.sup : Master) Reg.ACT_SAFE (2 : Word) : Word) ∧ fieldOf (2 : Word) 0 1 = 0 ∧ fieldOf (2 : Word) 1 1 = 1 ∧ fieldOf (newOf ((State.reset.setBit Reg.ACT_SAFE 8 true).setFld Reg.ACT_SAFE 12 4 2 : State) (.sup : Master) Reg.ACT_SAFE (2 : Word) : Word) 8 1 = 1 ∧ fieldOf (newOf ((State.reset.setBit Reg.ACT_SAFE 8 true).setFld Reg.ACT_SAFE 12 4 2 : State) (.sup : Master) Reg.ACT_SAFE (2 : Word) : Word) 16 6 = 0) ∧
    (Takes ((State.reset.setBit Reg.ACT_SAFE 8 true).setFld Reg.ACT_SAFE 16 6 32 : State) (.sup : Master) Reg.ACT_SAFE (2 : Word) (newOf ((State.reset.setBit Reg.ACT_SAFE 8 true).setFld Reg.ACT_SAFE 16 6 32 : State) (.sup : Master) Reg.ACT_SAFE (2 : Word) : Word) ∧ fieldOf (2 : Word) 0 1 = 0 ∧ fieldOf (2 : Word) 1 1 = 1 ∧ fieldOf (newOf ((State.reset.setBit Reg.ACT_SAFE 8 true).setFld Reg.ACT_SAFE 16 6 32 : State) (.sup : Master) Reg.ACT_SAFE (2 : Word) : Word) 8 1 = 1 ∧ fieldOf (newOf ((State.reset.setBit Reg.ACT_SAFE 8 true).setFld Reg.ACT_SAFE 16 6 32 : State) (.sup : Master) Reg.ACT_SAFE (2 : Word) : Word) 16 6 ≠ 0) ∧
    (Takes (State.reset : State) (.sup : Master) Reg.ACT_SAFE (2 : Word) (newOf (State.reset : State) (.sup : Master) Reg.ACT_SAFE (2 : Word) : Word) ∧ fieldOf (2 : Word) 0 1 = 0 ∧ (fieldOf (2 : Word) 1 1 = 0 ∨ fieldOf (newOf (State.reset : State) (.sup : Master) Reg.ACT_SAFE (2 : Word) : Word) 8 1 = 0)) ∧
    ((3 : Nat) < 4) ∧
    (Takes (State.reset.setReg Reg.ACT_CFG 3#32 : State) (.sup : Master) Reg.ACT_CFG (9 : Word) (newOf (State.reset.setReg Reg.ACT_CFG 3#32 : State) (.sup : Master) Reg.ACT_CFG (9 : Word) : Word)) := by
  refine ⟨?_, ?_, ?_, ?_, ?_, ?_, ?_, ?_, ?_, ?_, ?_, ?_, ?_, ?_, ?_, ?_, ?_⟩ <;> decide +kernel

/-- The hypotheses of Obligations.SpindleModesAndStates can be met, clause by clause. -/
theorem witness_SpindleModesAndStates :
    (Takes (wSpn 5 : State) (.sup : Master) Reg.SPN_MODE 0#32 (newOf (wSpn 5 : State) (.sup : Master) Reg.SPN_MODE 0#32 : Word) ∧ spnState (wSpn 5 : State) < 8) ∧
    (Takes ((wSpn 9).setReg Reg.SPN_FAULT 0x7702#32 : State) (.sup : Master) Reg.SPN_MODE 0#32 (newOf ((wSpn 9).setReg Reg.SPN_FAULT 0x7702#32 : State) (.sup : Master) Reg.SPN_MODE 0#32 : Word) ∧ spnState ((wSpn 9).setReg Reg.SPN_FAULT 0x7702#32 : State) = 9 ∧ faultGone ((wSpn 9).setReg Reg.SPN_FAULT 0x7702#32 : State) = true) ∧
    (Takes ((wSpn 9).setReg Reg.SPN_FAULT 0x7802#32 : State) (.sup : Master) Reg.SPN_MODE 0#32 (newOf ((wSpn 9).setReg Reg.SPN_FAULT 0x7802#32 : State) (.sup : Master) Reg.SPN_MODE 0#32 : Word) ∧ (spnState ((wSpn 9).setReg Reg.SPN_FAULT 0x7802#32 : State) = 8 ∨ spnState ((wSpn 9).setReg Reg.SPN_FAULT 0x7802#32 : State) = 9 ∧ faultGone ((wSpn 9).setReg Reg.SPN_FAULT 0x7802#32 : State) = false)) ∧
    (Takes (wSpn 6 : State) (.sup : Master) Reg.SPN_MODE 1#32 (newOf (wSpn 6 : State) (.sup : Master) Reg.SPN_MODE 1#32 : Word) ∧ ovState (wSpn 6 : State) ≠ 2 ∧ ovState (wSpn 6 : State) ≠ 3 ∧ spnState (wSpn 6 : State) < 8) ∧
    (Takes (wSpn 9 : State) (.sup : Master) Reg.SPN_MODE 1#32 (newOf (wSpn 9 : State) (.sup : Master) Reg.SPN_MODE 1#32 : Word) ∧ (ovState (wSpn 9 : State) = 2 ∨ ovState (wSpn 9 : State) = 3 ∨ spnState (wSpn 9 : State) = 8 ∨ spnState (wSpn 9 : State) = 9)) ∧
    (Takes (wSpn 5 : State) (.sup : Master) Reg.SPN_MODE 2#32 (newOf (wSpn 5 : State) (.sup : Master) Reg.SPN_MODE 2#32 : Word) ∧ ovState (wSpn 5 : State) ≠ 2 ∧ ovState (wSpn 5 : State) ≠ 3 ∧ spnState (wSpn 5 : State) < 8) ∧
    (Takes (wSpn 8 : State) (.sup : Master) Reg.SPN_MODE 2#32 (newOf (wSpn 8 : State) (.sup : Master) Reg.SPN_MODE 2#32 : Word) ∧ (ovState (wSpn 8 : State) = 2 ∨ ovState (wSpn 8 : State) = 3 ∨ spnState (wSpn 8 : State) = 8 ∨ spnState (wSpn 8 : State) = 9)) ∧
    (Takes (wSpn 5 : State) (.sup : Master) Reg.SPN_MODE 3#32 (newOf (wSpn 5 : State) (.sup : Master) Reg.SPN_MODE 3#32 : Word) ∧ spnState (wSpn 5 : State) < 8) ∧
    (Takes (wSpn 9 : State) (.sup : Master) Reg.SPN_MODE 3#32 (newOf (wSpn 9 : State) (.sup : Master) Reg.SPN_MODE 3#32 : Word) ∧ (spnState (wSpn 9 : State) = 8 ∨ spnState (wSpn 9 : State) = 9)) ∧
    (spnState ({ wSpnF 1 (fun x => { x with since := 0 }) with ticks := 8000 } : State) = 1 ∧ ({ wSpnF 1 (fun x => { x with since := 0 }) with ticks := 8000 } : State).spn.since + 8000 ≤ ({ wSpnF 1 (fun x => { x with since := 0 }) with ticks := 8000 } : State).ticks) ∧
    (({ wSpnF 1 (fun x => { x with since := 0 }) with ticks := 7999 } : State).wf = true ∧ (spnState ({ wSpnF 1 (fun x => { x with since := 0 }) with ticks := 7999 } : State) ≠ 1 ∨ ({ wSpnF 1 (fun x => { x with since := 0 }) with ticks := 7999 } : State).ticks < ({ wSpnF 1 (fun x => { x with since := 0 }) with ticks := 7999 } : State).spn.since + 8000)) ∧
    (spnState ({ wSpn 2 with ticks := 255 * 1600 } : State) = 2 ∧ ({ wSpn 2 with ticks := 255 * 1600 } : State).spn.since + ({ wSpn 2 with ticks := 255 * 1600 } : State).fld Reg.SPN_ALIGN 16 8 * 1600 ≤ ({ wSpn 2 with ticks := 255 * 1600 } : State).ticks) ∧
    ((wSpn 2 : State).wf = true ∧ (spnState (wSpn 2 : State) ≠ 2 ∨ (wSpn 2 : State).ticks < (wSpn 2 : State).spn.since + (wSpn 2 : State).fld Reg.SPN_ALIGN 16 8 * 1600)) ∧
    (spnState ((wSpnF 3 (fun x => { x with lockRun := 255 })).setFld Reg.SPN_ANG_EPOCH 0 16 65535 : State) = 3 ∧ ((wSpnF 3 (fun x => { x with lockRun := 255 })).setFld Reg.SPN_ANG_EPOCH 0 16 65535 : State).fld Reg.SPN_SYNC 0 8 ≤ ((wSpnF 3 (fun x => { x with lockRun := 255 })).setFld Reg.SPN_ANG_EPOCH 0 16 65535 : State).spn.lockRun) ∧
    ((wSpn 3 : State).wf = true ∧ (spnState (wSpn 3 : State) ≠ 3 ∨ (wSpn 3 : State).spn.lockRun < (wSpn 3 : State).fld Reg.SPN_SYNC 0 8)) ∧
    (spnState (({ wSpnF 4 (fun x => { x with since := 0 }) with ticks := 1600 }).setMort 0x69 5#32 : State) = 4 ∧ (({ wSpnF 4 (fun x => { x with since := 0 }) with ticks := 1600 }).setMort 0x69 5#32 : State).spn.since + 1600 ≤ (({ wSpnF 4 (fun x => { x with since := 0 }) with ticks := 1600 }).setMort 0x69 5#32 : State).ticks ∧ (({ wSpnF 4 (fun x => { x with since := 0 }) with ticks := 1600 }).setMort 0x69 5#32 : State).fld Reg.SPN_OBS 16 12 = (State.reset.fld Reg.SPN_OBS 16 12 : Nat) ∧ (State.reset.fld Reg.SPN_OBS 16 12 : Nat) ≠ 0x69 ∧ (State.reset.fld Reg.SPN_OBS 16 12 : Nat) < 0x800 ∧ routeOwns (({ wSpnF 4 (fun x => { x with since := 0 }) with ticks := 1600 }).setMort 0x69 5#32 : State) (State.reset.fld Reg.SPN_OBS 16 12 : Nat) = false) ∧
    (({ wSpnF 4 (fun x => { x with since := 0 }) with ticks := 1599 } : State).wf = true ∧ (spnState ({ wSpnF 4 (fun x => { x with since := 0 }) with ticks := 1599 } : State) ≠ 4 ∨ ({ wSpnF 4 (fun x => { x with since := 0 }) with ticks := 1599 } : State).ticks < ({ wSpnF 4 (fun x => { x with since := 0 }) with ticks := 1599 } : State).spn.since + 1600)) ∧
    (spnState ({ wSpn 3 with ticks := 4095 * 1600 } : State) = 3 ∧ ({ wSpn 3 with ticks := 4095 * 1600 } : State).spn.since + ({ wSpn 3 with ticks := 4095 * 1600 } : State).fld Reg.SPN_SYNC 16 12 * 1600 ≤ ({ wSpn 3 with ticks := 4095 * 1600 } : State).ticks) ∧
    ((wSpn 3 : State).wf = true ∧ (spnState (wSpn 3 : State) ≠ 3 ∨ (wSpn 3 : State).ticks < (wSpn 3 : State).spn.since + (wSpn 3 : State).fld Reg.SPN_SYNC 16 12 * 1600)) ∧
    (spnState ({ wSpnF 7 (fun x => { x with zvBack := true }) with ticks := 655200000 } : State) = 7 ∧ ({ wSpnF 7 (fun x => { x with zvBack := true }) with ticks := 655200000 } : State).spn.zvBack = true ∧ ({ wSpnF 7 (fun x => { x with zvBack := true }) with ticks := 655200000 } : State).spn.since + ({ wSpnF 7 (fun x => { x with zvBack := true }) with ticks := 655200000 } : State).fld Reg.SPN_ZV 16 12 * 160000 ≤ ({ wSpnF 7 (fun x => { x with zvBack := true }) with ticks := 655200000 } : State).ticks) ∧
    (({ wSpnF 7 (fun x => { x with zvBack := true }) with ticks := 0 } : State).wf = true ∧ (spnState ({ wSpnF 7 (fun x => { x with zvBack := true }) with ticks := 0 } : State) ≠ 7 ∨ ({ wSpnF 7 (fun x => { x with zvBack := true }) with ticks := 0 } : State).spn.zvBack = false ∨ ({ wSpnF 7 (fun x => { x with zvBack := true }) with ticks := 0 } : State).ticks < ({ wSpnF 7 (fun x => { x with zvBack := true }) with ticks := 0 } : State).spn.since + ({ wSpnF 7 (fun x => { x with zvBack := true }) with ticks := 0 } : State).fld Reg.SPN_ZV 16 12 * 160000)) ∧
    ((spnState ({ wSpnF 5 (fun x => { x with lostRun := 64, lossTick := some 3 }) with ticks := 1600003 } : State) = 5 ∨ spnState ({ wSpnF 5 (fun x => { x with lostRun := 64, lossTick := some 3 }) with ticks := 1600003 } : State) = 6) ∧ 64 ≤ ({ wSpnF 5 (fun x => { x with lostRun := 64, lossTick := some 3 }) with ticks := 1600003 } : State).spn.lostRun ∧ (({ wSpnF 5 (fun x => { x with lostRun := 64, lossTick := some 3 }) with ticks := 1600003 } : State).spn.lossTick.all (fun k => decide (k + ticksPerSecond ≤ ({ wSpnF 5 (fun x => { x with lostRun := 64, lossTick := some 3 }) with ticks := 1600003 } : State).ticks))) = true) ∧
    ((spnState ({ wSpnF 6 (fun x => { x with lostRun := 64, lossTick := some 3 }) with ticks := 1600002 } : State) = 5 ∨ spnState ({ wSpnF 6 (fun x => { x with lostRun := 64, lossTick := some 3 }) with ticks := 1600002 } : State) = 6) ∧ 64 ≤ ({ wSpnF 6 (fun x => { x with lostRun := 64, lossTick := some 3 }) with ticks := 1600002 } : State).spn.lostRun ∧ ({ wSpnF 6 (fun x => { x with lostRun := 64, lossTick := some 3 }) with ticks := 1600002 } : State).spn.lossTick = some (3 : Nat) ∧ ({ wSpnF 6 (fun x => { x with lostRun := 64, lossTick := some 3 }) with ticks := 1600002 } : State).ticks < (3 : Nat) + ticksPerSecond) ∧
    (({ wSpnF 5 (fun x => { x with lostRun := 63 }) with ticks := 0 } : State).wf = true ∧ ((spnState ({ wSpnF 5 (fun x => { x with lostRun := 63 }) with ticks := 0 } : State) ≠ 5 ∧ spnState ({ wSpnF 5 (fun x => { x with lostRun := 63 }) with ticks := 0 } : State) ≠ 6) ∨ ({ wSpnF 5 (fun x => { x with lostRun := 63 }) with ticks := 0 } : State).spn.lostRun < 64)) ∧
    (spnState (wSpn 6 : State) = 6 ∧ (wSpn 6 : State).mortInt 0x69 < sigRpm ((wSpn 6 : State).fld Reg.SPN_OLR 12 10 * 10 : Nat)) ∧
    (((wSpn 6).setMort 0x69 0x7FFFFFFF#32 : State).wf = true ∧ (spnState ((wSpn 6).setMort 0x69 0x7FFFFFFF#32 : State) ≠ 6 ∨ sigRpm (((wSpn 6).setMort 0x69 0x7FFFFFFF#32 : State).fld Reg.SPN_OLR 12 10 * 10 : Nat) ≤ ((wSpn 6).setMort 0x69 0x7FFFFFFF#32 : State).mortInt 0x69)) ∧
    (spnState ({ wSpnF 7 (fun x => { x with lowRun := 2500 }) with ticks := 0 } : State) = 7 ∧ 2500 ≤ ({ wSpnF 7 (fun x => { x with lowRun := 2500 }) with ticks := 0 } : State).spn.lowRun) ∧
    (({ wSpnF 7 (fun x => { x with lowRun := 2499 }) with ticks := 0 } : State).wf = true ∧ (spnState ({ wSpnF 7 (fun x => { x with lowRun := 2499 }) with ticks := 0 } : State) ≠ 7 ∨ ({ wSpnF 7 (fun x => { x with lowRun := 2499 }) with ticks := 0 } : State).spn.lowRun < 2500)) ∧
    (4 ≤ ({ wSpnF 5 (fun x => { x with age := 4 }) with ticks := 0 } : State).spn.age) ∧
    (({ wSpnF 5 (fun x => { x with age := 3 }) with ticks := 0 } : State).wf = true ∧ ({ wSpnF 5 (fun x => { x with age := 3 }) with ticks := 0 } : State).spn.age < 4) ∧
    (16 ≤ ({ wSpnF 5 (fun x => { x with calm := 16, vlim := true }) with ticks := 0 } : State).spn.calm) ∧
    (({ wSpnF 5 (fun x => { x with calm := 15, vlim := true }) with ticks := 0 } : State).wf = true ∧ ({ wSpnF 5 (fun x => { x with calm := 15, vlim := true }) with ticks := 0 } : State).spn.calm < 16) ∧
    ((({ wSpnF 5 (fun x => { x with trips := [0, 4, 5] }) with ticks := 512 } : State).spn.trips.filter (fun q => decide (({ wSpnF 5 (fun x => { x with trips := [0, 4, 5] }) with ticks := 512 } : State).ticks / 32 < q + 16))).length < 3) ∧
    (3 ≤ (({ wSpnF 5 (fun x => { x with trips := [0, 4, 5] }) with ticks := 511 } : State).spn.trips.filter (fun q => decide (({ wSpnF 5 (fun x => { x with trips := [0, 4, 5] }) with ticks := 511 } : State).ticks / 32 < q + 16))).length) ∧
    (spnState (wSpn 5 : State) ≠ 9 ∧ 135 < (136 : Nat)) ∧
    (spnState (wSpn 5 : State) = 9 ∨ (135 : Nat) ≤ 135) ∧
    ((State.reset.setFld Reg.SPN_SPDCMD_CFG 0 2 3 : State).fld Reg.SPN_SPDCMD_CFG 0 2 = 3) ∧
    ((State.reset.setFld Reg.SPN_SPDCMD_CFG 0 2 2 : State).wf = true ∧ (State.reset.setFld Reg.SPN_SPDCMD_CFG 0 2 2 : State).fld Reg.SPN_SPDCMD_CFG 0 2 ≠ 3) := by
  refine ⟨?_, ?_, ?_, ?_, ?_, ?_, ?_, ?_, ?_, ?_, ?_, ?_, ?_, ?_, ?_, ?_, ?_, ?_, ?_, ?_, ?_, ?_, ?_, ?_, ?_, ?_, ?_, ?_, ?_, ?_, ?_, ?_, ?_, ?_, ?_, ?_, ?_, ?_⟩ <;> decide +kernel

/-- The hypotheses of Obligations.SteppersQueueStopParkAndLoad can be met, clause by clause. -/
theorem witness_SteppersQueueStopParkAndLoad :
    ((1 : Nat) < 2 ∧ Takes (wStp : State) (.sup : Master) (Reg.STP_Q_PUSH (1 : Nat)) (1 : Word) (newOf (wStp : State) (.sup : Master) (Reg.STP_Q_PUSH (1 : Nat)) (1 : Word) : Word) ∧ (wStp : State).stp.groups.length = 2 ∧ fieldOf (1 : Word) 0 1 = 1 ∧ (wStp : State).bit (Reg.STAT pgSTP) 8 = false ∧ pushCheck (wStp : State) (1 : Nat) (moveOf (wStp : State) (1 : Nat)) = 0) ∧
    ((1 : Nat) < 2 ∧ Takes (State.reset : State) (.sup : Master) (Reg.STP_Q_PUSH (1 : Nat)) (1 : Word) (newOf (State.reset : State) (.sup : Master) (Reg.STP_Q_PUSH (1 : Nat)) (1 : Word) : Word) ∧ fieldOf (1 : Word) 0 1 = 1 ∧ (State.reset : State).bit (Reg.STAT pgSTP) 8 = false ∧ pushCheck (State.reset : State) (1 : Nat) (moveOf (State.reset : State) (1 : Nat)) ≠ 0) ∧
    ((1 : Nat) < 2 ∧ Takes (wStp : State) (.sup : Master) (Reg.STP_Q_PUSH (1 : Nat)) (0 : Word) (newOf (wStp : State) (.sup : Master) (Reg.STP_Q_PUSH (1 : Nat)) (0 : Word) : Word) ∧ (fieldOf (0 : Word) 0 1 = 0 ∨ (wStp : State).bit (Reg.STAT pgSTP) 8 = true)) ∧
    ((1 : Nat) < 2 ∧ (wRunning [] : State).stp.groups.length = 2 ∧ ((wRunning [] : State).grp (1 : Nat)).run = some (wMoveRun : StepRun) ∧ runEnded (wMoveRun : StepRun) = true ∧ (wMoveRun : StepRun).stop = false ∧ ((wRunning [] : State).grp (1 : Nat)).queue = []) ∧
    ((1 : Nat) < 2 ∧ (wRunning [moveOf wStp 1] : State).stp.groups.length = 2 ∧ ((wRunning [moveOf wStp 1] : State).grp (1 : Nat)).run = some (wMoveRun : StepRun) ∧ runEnded (wMoveRun : StepRun) = true ∧ (wMoveRun : StepRun).stop = false ∧ ((wRunning [moveOf wStp 1] : State).grp (1 : Nat)).queue = (moveOf wStp 1 : StepMove) :: ([] : List StepMove)) ∧
    ((wStp.setGrp 1 ⟨[moveOf wStp 1], some { wMoveRun with stop := true }⟩ : State).wf = true ∧ (((wStp.setGrp 1 ⟨[moveOf wStp 1], some { wMoveRun with stop := true }⟩ : State).grp (1 : Nat)).run.all (fun r => !runEnded r || r.stop)) = true) ∧
    ((1 : Nat) < 2 ∧ Takes (wRunning [moveOf wStp 1] : State) (.sup : Master) Reg.STP_CMD (2 : Word) (newOf (wRunning [moveOf wStp 1] : State) (.sup : Master) Reg.STP_CMD (2 : Word) : Word) ∧ fieldOf (2 : Word) (1 : Nat) 1 = 1) ∧
    ((1 : Nat) < 2 ∧ Takes (wRunning [moveOf wStp 1] : State) (.sup : Master) Reg.STP_CMD (1 : Word) (newOf (wRunning [moveOf wStp 1] : State) (.sup : Master) Reg.STP_CMD (1 : Word) : Word) ∧ fieldOf (1 : Word) (1 : Nat) 1 = 0 ∧ fieldOf (1 : Word) 8 1 = 0) ∧
    (((wRunning [moveOf wStp 1]).setFld Reg.STP_PARK 0 3 5 : State).stp.groups.length = 2 ∧ ((wRunning [moveOf wStp 1]).setFld Reg.STP_PARK 0 3 5 : State).stp.axes.length = 3 ∧ Takes ((wRunning [moveOf wStp 1]).setFld Reg.STP_PARK 0 3 5 : State) (.sup : Master) Reg.STP_CMD (0x100 : Word) (newOf ((wRunning [moveOf wStp 1]).setFld Reg.STP_PARK 0 3 5 : State) (.sup : Master) Reg.STP_CMD (0x100 : Word) : Word) ∧ fieldOf (0x100 : Word) 8 1 = 1 ∧ fieldOf (0x100 : Word) 0 2 = 0 ∧ ((wRunning [moveOf wStp 1]).setFld Reg.STP_PARK 0 3 5 : State).bit (Reg.STAT pgSTP) 8 = false ∧ (List.range 3).any (fun a => ((wRunning [moveOf wStp 1]).setFld Reg.STP_PARK 0 3 5 : State).bit Reg.STP_PARK a && ((wRunning [moveOf wStp 1]).setFld Reg.STP_PARK 0 3 5 : State).reg (Reg.STP_AX_FLT a) == 0#32) = true) ∧
    (Takes (wStp.setFld Reg.STP_PARK 0 3 0 : State) (.sup : Master) Reg.STP_CMD (0x100 : Word) (newOf (wStp.setFld Reg.STP_PARK 0 3 0 : State) (.sup : Master) Reg.STP_CMD (0x100 : Word) : Word) ∧ fieldOf (0x100 : Word) 8 1 = 1 ∧ (wStp.setFld Reg.STP_PARK 0 3 0 : State).bit (Reg.STAT pgSTP) 8 = false ∧ (List.range 3).any (fun a => (wStp.setFld Reg.STP_PARK 0 3 0 : State).bit Reg.STP_PARK a && (wStp.setFld Reg.STP_PARK 0 3 0 : State).reg (Reg.STP_AX_FLT a) == 0#32) = false) ∧
    (Takes ((wStp.setFld Reg.STP_PARK 0 3 7).setBit (Reg.STAT pgSTP) 8 true : State) (.sup : Master) Reg.STP_CMD (0x100 : Word) (newOf ((wStp.setFld Reg.STP_PARK 0 3 7).setBit (Reg.STAT pgSTP) 8 true : State) (.sup : Master) Reg.STP_CMD (0x100 : Word) : Word) ∧ fieldOf (0x100 : Word) 0 2 = 0 ∧ (fieldOf (0x100 : Word) 8 1 = 0 ∨ ((wStp.setFld Reg.STP_PARK 0 3 7).setBit (Reg.STAT pgSTP) 8 true : State).bit (Reg.STAT pgSTP) 8 = true)) ∧
    (((wStp.setAxis 0 { wStp.axis 0 with park := .there }).setBit (Reg.STAT pgSTP) 8 true : State).stp.axes.length = 3 ∧ ((wStp.setAxis 0 { wStp.axis 0 with park := .there }).setBit (Reg.STAT pgSTP) 8 true : State).bit (Reg.STAT pgSTP) 8 = true ∧ (List.range 3).all (fun a => !axParks ((wStp.setAxis 0 { wStp.axis 0 with park := .there }).setBit (Reg.STAT pgSTP) 8 true : State) a || (((wStp.setAxis 0 { wStp.axis 0 with park := .there }).setBit (Reg.STAT pgSTP) 8 true : State).axis a).park == .there) = true) ∧
    (((wStp.setAxis 0 { wStp.axis 0 with park := .go }).setBit (Reg.STAT pgSTP) 8 true : State).wf = true ∧ (((wStp.setAxis 0 { wStp.axis 0 with park := .go }).setBit (Reg.STAT pgSTP) 8 true : State).bit (Reg.STAT pgSTP) 8 = false ∨ (List.range 3).any (fun a => axParks ((wStp.setAxis 0 { wStp.axis 0 with park := .go }).setBit (Reg.STAT pgSTP) 8 true : State) a && (((wStp.setAxis 0 { wStp.axis 0 with park := .go }).setBit (Reg.STAT pgSTP) 8 true : State).axis a).park != .there) = true)) ∧
    ((0 : Nat) < 3 ∧ (wRunning [moveOf wStp 1] : State).stp.axes.length = 3 ∧ (wRunning [moveOf wStp 1] : State).stp.groups.length = 2) ∧
    (Takes (State.reset.setReg Reg.STP_TLOAD_SRC 0x10000000#32 : State) (.sup : Master) Reg.STP_TLOAD_CTRL (0x80000000 : Word) (newOf (State.reset.setReg Reg.STP_TLOAD_SRC 0x10000000#32 : State) (.sup : Master) Reg.STP_TLOAD_CTRL (0x80000000 : Word) : Word) ∧ fieldOf (0x80000000 : Word) 31 1 = 1 ∧ fieldOf (newOf (State.reset.setReg Reg.STP_TLOAD_SRC 0x10000000#32 : State) (.sup : Master) Reg.STP_TLOAD_CTRL (0x80000000 : Word) : Word) 31 1 = 0 ∧ (List.range 3).any (fun a => (State.reset.setReg Reg.STP_TLOAD_SRC 0x10000000#32 : State).bit (Reg.STP_AX_CFG a) 6 && axMode (State.reset.setReg Reg.STP_TLOAD_SRC 0x10000000#32 : State) a != 0) = false ∧ (memRead (State.reset.setReg Reg.STP_TLOAD_SRC 0x10000000#32 : State) .cdma ((State.reset.setReg Reg.STP_TLOAD_SRC 0x10000000#32 : State).reg Reg.STP_TLOAD_SRC).toNat 516).2.1 = false ∧ (List.replicate 257 0 : List Nat) = halfwords 257 (memRead (State.reset.setReg Reg.STP_TLOAD_SRC 0x10000000#32 : State) .cdma ((State.reset.setReg Reg.STP_TLOAD_SRC 0x10000000#32 : State).reg Reg.STP_TLOAD_SRC).toNat 516).1 ∧ (List.replicate 257 0 : List Nat).headD 1 = 0 ∧ nonDecreasing (List.replicate 257 0 : List Nat) = true ∧ (List.replicate 257 0 : List Nat).all (fun x => decide (x ≤ 1023)) = true) ∧
    (Takes ((State.reset.setReg Reg.STP_TLOAD_SRC 0x10000000#32).setReg (Reg.STP_AX_CFG 2) 0x41#32 : State) (.sup : Master) Reg.STP_TLOAD_CTRL (0x80000000 : Word) (newOf ((State.reset.setReg Reg.STP_TLOAD_SRC 0x10000000#32).setReg (Reg.STP_AX_CFG 2) 0x41#32 : State) (.sup : Master) Reg.STP_TLOAD_CTRL (0x80000000 : Word) : Word) ∧ fieldOf (0x80000000 : Word) 31 1 = 1 ∧ fieldOf (newOf ((State.reset.setReg Reg.STP_TLOAD_SRC 0x10000000#32).setReg (Reg.STP_AX_CFG 2) 0x41#32 : State) (.sup : Master) Reg.STP_TLOAD_CTRL (0x80000000 : Word) : Word) 31 1 = 0 ∧ halfwords 257 (memRead ((State.reset.setReg Reg.STP_TLOAD_SRC 0x10000000#32).setReg (Reg.STP_AX_CFG 2) 0x41#32 : State) .cdma (((State.reset.setReg Reg.STP_TLOAD_SRC 0x10000000#32).setReg (Reg.STP_AX_CFG 2) 0x41#32 : State).reg Reg.STP_TLOAD_SRC).toNat 516).1 = (List.replicate 257 0 : List Nat) ∧ ((List.range 3).any (fun a => ((State.reset.setReg Reg.STP_TLOAD_SRC 0x10000000#32).setReg (Reg.STP_AX_CFG 2) 0x41#32 : State).bit (Reg.STP_AX_CFG a) 6 && axMode ((State.reset.setReg Reg.STP_TLOAD_SRC 0x10000000#32).setReg (Reg.STP_AX_CFG 2) 0x41#32 : State) a != 0) = true ∨ (memRead ((State.reset.setReg Reg.STP_TLOAD_SRC 0x10000000#32).setReg (Reg.STP_AX_CFG 2) 0x41#32 : State) .cdma (((State.reset.setReg Reg.STP_TLOAD_SRC 0x10000000#32).setReg (Reg.STP_AX_CFG 2) 0x41#32 : State).reg Reg.STP_TLOAD_SRC).toNat 516).2.1 = true ∨ (List.replicate 257 0 : List Nat).headD 1 ≠ 0 ∨ nonDecreasing (List.replicate 257 0 : List Nat) = false ∨ (List.replicate 257 0 : List Nat).any (fun x => decide (1023 < x)) = true)) ∧
    (Takes (State.reset : State) (.sup : Master) Reg.STP_TLOAD_CTRL (0 : Word) (newOf (State.reset : State) (.sup : Master) Reg.STP_TLOAD_CTRL (0 : Word) : Word) ∧ (fieldOf (0 : Word) 31 1 = 0 ∨ fieldOf (newOf (State.reset : State) (.sup : Master) Reg.STP_TLOAD_CTRL (0 : Word) : Word) 31 1 = 1)) ∧
    ((State.reset.setBit Reg.STP_TLOAD_CTRL 31 true : State).bit Reg.STP_TLOAD_CTRL 31 = true) ∧
    ((State.reset : State).wf = true ∧ (State.reset : State).bit Reg.STP_TLOAD_CTRL 31 = false) ∧
    ((0 : Nat) < 3 ∧ ({ wStp.setAxis 0 { wStp.axis 0 with sel := .home } with ticks := 4095 * 1600 } : State).stp.axes.length = 3 ∧ (({ wStp.setAxis 0 { wStp.axis 0 with sel := .home } with ticks := 4095 * 1600 } : State).axis (0 : Nat)).vel = 0 ∧ ((({ wStp.setAxis 0 { wStp.axis 0 with sel := .home } with ticks := 4095 * 1600 } : State).axis (0 : Nat)).sel = .run ∨ (({ wStp.setAxis 0 { wStp.axis 0 with sel := .home } with ticks := 4095 * 1600 } : State).axis (0 : Nat)).sel = .home) ∧ (({ wStp.setAxis 0 { wStp.axis 0 with sel := .home } with ticks := 4095 * 1600 } : State).axis (0 : Nat)).rest + ({ wStp.setAxis 0 { wStp.axis 0 with sel := .home } with ticks := 4095 * 1600 } : State).fld (Reg.STP_AX_HOLD (0 : Nat)) 16 12 * 1600 ≤ ({ wStp.setAxis 0 { wStp.axis 0 with sel := .home } with ticks := 4095 * 1600 } : State).ticks) ∧
    ((wStp.setAxis 0 { wStp.axis 0 with sel := .home, rest := 1 } : State).wf = true ∧ (((wStp.setAxis 0 { wStp.axis 0 with sel := .home, rest := 1 } : State).axis (0 : Nat)).vel ≠ 0 ∨ ((wStp.setAxis 0 { wStp.axis 0 with sel := .home, rest := 1 } : State).axis (0 : Nat)).sel = .off ∨ ((wStp.setAxis 0 { wStp.axis 0 with sel := .home, rest := 1 } : State).axis (0 : Nat)).sel = .hold ∨ (wStp.setAxis 0 { wStp.axis 0 with sel := .home, rest := 1 } : State).ticks < ((wStp.setAxis 0 { wStp.axis 0 with sel := .home, rest := 1 } : State).axis (0 : Nat)).rest + (wStp.setAxis 0 { wStp.axis 0 with sel := .home, rest := 1 } : State).fld (Reg.STP_AX_HOLD (0 : Nat)) 16 12 * 1600)) ∧
    ((2 : Nat) < 3 ∧ (wStp : State).stp.axes.length = 3 ∧ Takes (wStp : State) (.sup : Master) (Reg.STP_AX_POS (2 : Nat)) (0x0FFFFFFE : Word) (newOf (wStp : State) (.sup : Master) (Reg.STP_AX_POS (2 : Nat)) (0x0FFFFFFE : Word) : Word)) ∧
    ((2 : Nat) < 3 ∧ (wStp : State).stp.axes.length = 3 ∧ Takes (wStp : State) (.sup : Master) (Reg.STP_AX_CFG (2 : Nat)) (1 : Word) (newOf (wStp : State) (.sup : Master) (Reg.STP_AX_CFG (2 : Nat)) (1 : Word) : Word)) := by
  refine ⟨?_, ?_, ?_, ?_, ?_, ?_, ?_, ?_, ?_, ?_, ?_, ?_, ?_, ?_, ?_, ?_, ?_, ?_, ?_, ?_, ?_, ?_, ?_⟩ <;> decide +kernel

/-- The hypotheses of Obligations.CalGlidesRegistersAndWords can be met, clause by clause. -/
theorem witness_CalGlidesRegistersAndWords :
    ((9 : Nat) < 10 ∧ Takes (State.reset : State) (.sup : Master) (Reg.CAL_MG_CFG (9 : Nat)) (0x03000001 : Word) (newOf (State.reset : State) (.sup : Master) (Reg.CAL_MG_CFG (9 : Nat)) (0x03000001 : Word) : Word) ∧ fieldOf (0x03000001 : Word) 0 1 = 1 ∧ mgArmOk (State.reset : State) (9 : Nat) (0x03000001 : Word) = true ∧ (State.reset : State).bit (Reg.CAL_MG_CFG (9 : Nat)) 0 = false) ∧
    ((9 : Nat) < 10 ∧ Takes (State.reset : State) (.sup : Master) (Reg.CAL_MG_CFG (9 : Nat)) (0x00010001 : Word) (newOf (State.reset : State) (.sup : Master) (Reg.CAL_MG_CFG (9 : Nat)) (0x00010001 : Word) : Word) ∧ fieldOf (0x00010001 : Word) 0 1 = 1 ∧ mgArmOk (State.reset : State) (9 : Nat) (0x00010001 : Word) = false) ∧
    ((9 : Nat) < 10 ∧ (9 : Nat) < (wMg.setMg 9 ⟨true, false, 0#32⟩ : State).cal.glides.length ∧ Takes (wMg.setMg 9 ⟨true, false, 0#32⟩ : State) (.sup : Master) (Reg.CAL_MG_CFG (9 : Nat)) (0x03000000 : Word) (newOf (wMg.setMg 9 ⟨true, false, 0#32⟩ : State) (.sup : Master) (Reg.CAL_MG_CFG (9 : Nat)) (0x03000000 : Word) : Word) ∧ fieldOf (0x03000000 : Word) 0 1 = 0 ∧ fieldOf (newOf (wMg.setMg 9 ⟨true, false, 0#32⟩ : State) (.sup : Master) (Reg.CAL_MG_CFG (9 : Nat)) (0x03000000 : Word) : Word) 0 1 = 0) ∧
    ((9 : Nat) < 10 ∧ (9 : Nat) < (wMg : State).cal.glides.length ∧ (wMg : State).bit (Reg.CAL_MG_CFG (9 : Nat)) 0 = true ∧ Takes (wMg : State) (.sup : Master) (Reg.CAL_MG_TGT (9 : Nat)) (77 : Word) (newOf (wMg : State) (.sup : Master) (Reg.CAL_MG_TGT (9 : Nat)) (77 : Word) : Word)) ∧
    ((9 : Nat) < 10 ∧ (State.reset : State).bit (Reg.CAL_MG_CFG (9 : Nat)) 0 = false ∧ Takes (State.reset : State) (.sup : Master) (Reg.CAL_MG_TGT (9 : Nat)) (77 : Word) (newOf (State.reset : State) (.sup : Master) (Reg.CAL_MG_TGT (9 : Nat)) (77 : Word) : Word)) ∧
    (glidedOfTarget ((Reg.SADC_CH_OFS 31 + 4) : Nat) = some (⟨3, Reg.SADC_CH_OFS 31, 31, 0⟩ : Glided) ∧ Takes (State.reset : State) (.sup : Master) ((Reg.SADC_CH_OFS 31 + 4) : Nat) (0x123 : Word) (newOf (State.reset : State) (.sup : Master) ((Reg.SADC_CH_OFS 31 + 4) : Nat) (0x123 : Word) : Word)) ∧
    (glidedOfTarget ((Reg.SPN_SH_GAIN 2 + 4) : Nat) = some (⟨7, Reg.SPN_SH_GAIN 2, 2, 0⟩ : Glided) ∧ Takes (State.reset : State) (.sup : Master) ((Reg.SPN_SH_GAIN 2 + 4) : Nat) (0x123 : Word) (newOf (State.reset : State) (.sup : Master) ((Reg.SPN_SH_GAIN 2 + 4) : Nat) (0x123 : Word) : Word)) ∧
    ((State.reset : State).wf = true ∧ glidedOfTarget (Reg.SADC_CH_OFS 31 : Nat) = none) ∧
    ((({ wSpn 0 with ticks := 48768 }).setBit Reg.CAL_RUN 4 true : State).frozen pgCAL = false ∧ spnState (({ wSpn 0 with ticks := 48768 }).setBit Reg.CAL_RUN 4 true : State) = 0 ∧ (({ wSpn 0 with ticks := 48768 }).setBit Reg.CAL_RUN 4 true : State).spn.since + 48768 ≤ (({ wSpn 0 with ticks := 48768 }).setBit Reg.CAL_RUN 4 true : State).ticks) ∧
    (({ wSpn 0 with ticks := 48767 } : State).wf = true ∧ (({ wSpn 0 with ticks := 48767 } : State).frozen pgCAL = true ∨ spnState ({ wSpn 0 with ticks := 48767 } : State) ≠ 0 ∨ ({ wSpn 0 with ticks := 48767 } : State).ticks < ({ wSpn 0 with ticks := 48767 } : State).spn.since + 48768)) ∧
    ((((wSpn 5).setBit Reg.CAL_CFG 2 true).setCal { State.reset.cal with inj := [(0, 0), (0, 0), (62, 100000)] } : State).frozen pgCAL = false ∧ spnDriven (spnState (((wSpn 5).setBit Reg.CAL_CFG 2 true).setCal { State.reset.cal with inj := [(0, 0), (0, 0), (62, 100000)] } : State)) = true ∧ (((wSpn 5).setBit Reg.CAL_CFG 2 true).setCal { State.reset.cal with inj := [(0, 0), (0, 0), (62, 100000)] } : State).bit Reg.CAL_CFG 2 = true ∧ (2 : Nat) < 3 ∧ ((((wSpn 5).setBit Reg.CAL_CFG 2 true).setCal { State.reset.cal with inj := [(0, 0), (0, 0), (62, 100000)] } : State).cal.inj.getD (2 : Nat) (0, 0)).1 < 63) ∧
    ((((wSpn 5).setBit Reg.CAL_CFG 2 true).setCal { State.reset.cal with inj := [(0, 0), (0, 0), (63, 100000)] } : State).frozen pgCAL = false ∧ spnDriven (spnState (((wSpn 5).setBit Reg.CAL_CFG 2 true).setCal { State.reset.cal with inj := [(0, 0), (0, 0), (63, 100000)] } : State)) = true ∧ (((wSpn 5).setBit Reg.CAL_CFG 2 true).setCal { State.reset.cal with inj := [(0, 0), (0, 0), (63, 100000)] } : State).bit Reg.CAL_CFG 2 = true ∧ (2 : Nat) < 3 ∧ (((wSpn 5).setBit Reg.CAL_CFG 2 true).setCal { State.reset.cal with inj := [(0, 0), (0, 0), (63, 100000)] } : State).cal.inj.getD (2 : Nat) (0, 0) = (63, (100000 : Int)) ∧ refFault (((wSpn 5).setBit Reg.CAL_CFG 2 true).setCal { State.reset.cal with inj := [(0, 0), (0, 0), (63, 100000)] } : State) = false) ∧
    (((((wSpn 5).setBit Reg.CAL_CFG 2 true).setBit (Reg.STAT pgCAL) 8 true).setCal { State.reset.cal with inj := [(0, 0), (0, 0), (63, 100000)] } : State).frozen pgCAL = false ∧ spnDriven (spnState ((((wSpn 5).setBit Reg.CAL_CFG 2 true).setBit (Reg.STAT pgCAL) 8 true).setCal { State.reset.cal with inj := [(0, 0), (0, 0), (63, 100000)] } : State)) = true ∧ ((((wSpn 5).setBit Reg.CAL_CFG 2 true).setBit (Reg.STAT pgCAL) 8 true).setCal { State.reset.cal with inj := [(0, 0), (0, 0), (63, 100000)] } : State).bit Reg.CAL_CFG 2 = true ∧ (2 : Nat) < 3 ∧ ((((wSpn 5).setBit Reg.CAL_CFG 2 true).setBit (Reg.STAT pgCAL) 8 true).setCal { State.reset.cal with inj := [(0, 0), (0, 0), (63, 100000)] } : State).cal.inj.getD (2 : Nat) (0, 0) = (63, (100000 : Int)) ∧ refFault ((((wSpn 5).setBit Reg.CAL_CFG 2 true).setBit (Reg.STAT pgCAL) 8 true).setCal { State.reset.cal with inj := [(0, 0), (0, 0), (63, 100000)] } : State) = true) ∧
    (((wSpn 5).setBit Reg.CAL_CFG 2 true : State).wf = true ∧ (((wSpn 5).setBit Reg.CAL_CFG 2 true : State).frozen pgCAL = true ∨ spnDriven (spnState ((wSpn 5).setBit Reg.CAL_CFG 2 true : State)) = false ∨ ((wSpn 5).setBit Reg.CAL_CFG 2 true : State).bit Reg.CAL_CFG 2 = false ∨ 3 ≤ (3 : Nat))) ∧
    ((State.reset.setSv { State.reset.sv with meas := [3] } : State).frozen pgCAL = false ∧ (3 : Nat) < 4 ∧ (State.reset.setSv { State.reset.sv with meas := [3] } : State).sv.meas.contains (3 : Nat) = true) ∧
    ((State.reset.setSv { State.reset.sv with meas := [3] } : State).wf = true ∧ ((State.reset.setSv { State.reset.sv with meas := [3] } : State).frozen pgCAL = true ∨ (State.reset.setSv { State.reset.sv with meas := [3] } : State).sv.meas.contains (2 : Nat) = false)) ∧
    (((State.reset.setBit Reg.CAL_CFG 1 true).setCal { State.reset.cal with refCh := 31 } : State).frozen pgCAL = false ∧ ((State.reset.setBit Reg.CAL_CFG 1 true).setCal { State.reset.cal with refCh := 31 } : State).bit Reg.CAL_CFG 1 = true ∧ refFault ((State.reset.setBit Reg.CAL_CFG 1 true).setCal { State.reset.cal with refCh := 31 } : State) = false ∧ ((State.reset.setBit Reg.CAL_CFG 1 true).setCal { State.reset.cal with refCh := 31 } : State).cal.refCh < 32) ∧
    (((State.reset.setReg Reg.CAL_CFG 0x10002#32).setBit (Reg.STAT pgCAL) 8 true : State).frozen pgCAL = false ∧ ((State.reset.setReg Reg.CAL_CFG 0x10002#32).setBit (Reg.STAT pgCAL) 8 true : State).bit Reg.CAL_CFG 1 = true ∧ refFault ((State.reset.setReg Reg.CAL_CFG 0x10002#32).setBit (Reg.STAT pgCAL) 8 true : State) = true) ∧
    ((State.reset.setBit Reg.CAL_CFG 1 false : State).wf = true ∧ ((State.reset.setBit Reg.CAL_CFG 1 false : State).frozen pgCAL = true ∨ (State.reset.setBit Reg.CAL_CFG 1 false : State).bit Reg.CAL_CFG 1 = false)) ∧
    ((State.reset.setBit Reg.SADC_CFG 0 false : State).frozen pgCAL = false ∧ (State.reset.setBit Reg.SADC_CFG 0 false : State).bit Reg.SADC_CFG 0 = false ∧ refFault (State.reset.setBit Reg.SADC_CFG 0 false : State) = false) ∧
    ((State.reset : State).wf = true ∧ ((State.reset : State).frozen pgCAL = true ∨ (State.reset : State).bit Reg.SADC_CFG 0 = true ∨ refFault (State.reset : State) = true)) := by
  refine ⟨?_, ?_, ?_, ?_, ?_, ?_, ?_, ?_, ?_, ?_, ?_, ?_, ?_, ?_, ?_, ?_, ?_, ?_, ?_, ?_, ?_⟩ <;> decide +kernel

/-- The hypotheses of Obligations.CalRunsReferenceAndSweeps can be met, clause by clause. -/
theorem witness_CalRunsReferenceAndSweeps :
    ((3 : Nat) < 4 ∧ lanePresent (State.reset.setBit Reg.CAL_RUN 11 true : State) (3 : Nat) = true ∧ Takes (State.reset.setBit Reg.CAL_RUN 11 true : State) (.sup : Master) Reg.CAL_TRIG (8 : Word) (newOf (State.reset.setBit Reg.CAL_RUN 11 true : State) (.sup : Master) Reg.CAL_TRIG (8 : Word) : Word) ∧ fieldOf (8 : Word) (3 : Nat) 1 = 1) ∧
    ((3 : Nat) < 4 ∧ Takes (State.reset : State) (.sup : Master) Reg.CAL_TRIG (7 : Word) (newOf (State.reset : State) (.sup : Master) Reg.CAL_TRIG (7 : Word) : Word) ∧ (fieldOf (7 : Word) (3 : Nat) 1 = 0 ∨ lanePresent (State.reset : State) (3 : Nat) = false)) ∧
    (Takes (State.reset : State) (.sup : Master) Reg.CAL_TRIG (16 : Word) (newOf (State.reset : State) (.sup : Master) Reg.CAL_TRIG (16 : Word) : Word) ∧ fieldOf (16 : Word) 4 1 = 1) ∧
    (Takes (State.reset : State) (.sup : Master) Reg.CAL_TRIG (0 : Word) (newOf (State.reset : State) (.sup : Master) Reg.CAL_TRIG (0 : Word) : Word) ∧ fieldOf (0 : Word) 4 1 = 0) ∧
    (Takes (State.reset.setReg Reg.ACT_CFG 9#32 : State) (.sup : Master) Reg.CAL_TRIG (32 : Word) (newOf (State.reset.setReg Reg.ACT_CFG 9#32 : State) (.sup : Master) Reg.CAL_TRIG (32 : Word) : Word) ∧ fieldOf (32 : Word) 5 1 = 1) ∧
    (Takes (State.reset.setReg Reg.ACT_CFG 9#32 : State) (.sup : Master) Reg.CAL_TRIG (0 : Word) (newOf (State.reset.setReg Reg.ACT_CFG 9#32 : State) (.sup : Master) Reg.CAL_TRIG (0 : Word) : Word) ∧ fieldOf (0 : Word) 5 1 = 0) ∧
    (Takes (State.reset : State) (.sup : Master) Reg.CAL_TRIG (64 : Word) (newOf (State.reset : State) (.sup : Master) Reg.CAL_TRIG (64 : Word) : Word) ∧ fieldOf (64 : Word) 6 1 = 1) ∧
    (Takes (State.reset : State) (.sup : Master) Reg.CAL_TRIG (0 : Word) (newOf (State.reset : State) (.sup : Master) Reg.CAL_TRIG (0 : Word) : Word) ∧ fieldOf (0 : Word) 6 1 = 0) ∧
    ((State.reset.setBit Reg.CAL_RUN 3 true : State).frozen pgCAL = false ∧ (3 : Nat) < 4 ∧ runPending (State.reset.setBit Reg.CAL_RUN 3 true : State) (3 : Nat) = true) ∧
    ((State.reset.setBit Reg.CAL_RUN 3 true : State).frozen pgCAL = false ∧ (3 : Nat) < 4 ∧ runPending (State.reset.setBit Reg.CAL_RUN 3 true : State) (3 : Nat) = true ∧ lanePresent (State.reset.setBit Reg.CAL_RUN 3 true : State) (3 : Nat) = true ∧ (7 : Nat) < min 8 ((List.range 8).map (fun k => ((k : Int) * 1000, (100000 : Int), (7 : Int) - k)) : List (Int × Int × Int)).length ∧ slotConverter (State.reset.setBit Reg.CAL_RUN 3 true : State) (3 : Nat) (7 : Nat) = some (7 : Nat) ∧ (7 : Nat) < 9 ∧ (List.range (min 8 ((List.range 8).map (fun k => ((k : Int) * 1000, (100000 : Int), (7 : Int) - k)) : List (Int × Int × Int)).length)).all (fun j => !beyondField (statTargets (State.reset.setBit Reg.CAL_RUN 3 true : State) (3 : Nat) ((List.range 8).map (fun k => ((k : Int) * 1000, (100000 : Int), (7 : Int) - k)) : List (Int × Int × Int)) j).1 && !beyondField (statTargets (State.reset.setBit Reg.CAL_RUN 3 true : State) (3 : Nat) ((List.range 8).map (fun k => ((k : Int) * 1000, (100000 : Int), (7 : Int) - k)) : List (Int × Int × Int)) j).2.1 && !beyondField (statTargets (State.reset.setBit Reg.CAL_RUN 3 true : State) (3 : Nat) ((List.range 8).map (fun k => ((k : Int) * 1000, (100000 : Int), (7 : Int) - k)) : List (Int × Int × Int)) j).2.2) = true) ∧
    ((State.reset.setBit Reg.CAL_RUN 3 true : State).frozen pgCAL = false ∧ (3 : Nat) < 4 ∧ runPending (State.reset.setBit Reg.CAL_RUN 3 true : State) (3 : Nat) = true ∧ (1 : Nat) < min 8 ([(0, 5, 0), (0, 5, 2048)] : List (Int × Int × Int)).length ∧ slotConverter (State.reset.setBit Reg.CAL_RUN 3 true : State) (3 : Nat) (1 : Nat) = some (1 : Nat) ∧ (1 : Nat) < 9 ∧ beyondField (statTargets (State.reset.setBit Reg.CAL_RUN 3 true : State) (3 : Nat) ([(0, 5, 0), (0, 5, 2048)] : List (Int × Int × Int)) (1 : Nat)).2.2 = true ∧ (List.range (1 : Nat)).all (fun j => !beyondField (statTargets (State.reset.setBit Reg.CAL_RUN 3 true : State) (3 : Nat) ([(0, 5, 0), (0, 5, 2048)] : List (Int × Int × Int)) j).1 && !beyondField (statTargets (State.reset.setBit Reg.CAL_RUN 3 true : State) (3 : Nat) ([(0, 5, 0), (0, 5, 2048)] : List (Int × Int × Int)) j).2.1 && !beyondField (statTargets (State.reset.setBit Reg.CAL_RUN 3 true : State) (3 : Nat) ([(0, 5, 0), (0, 5, 2048)] : List (Int × Int × Int)) j).2.2) = true) ∧
    (((State.reset.setBit Reg.CAL_RUN 3 true).setBit (Reg.RFL_ADC_CTRL 3) 0 false : State).frozen pgCAL = false ∧ (3 : Nat) < 4 ∧ runPending ((State.reset.setBit Reg.CAL_RUN 3 true).setBit (Reg.RFL_ADC_CTRL 3) 0 false : State) (3 : Nat) = true ∧ (3 : Nat) < ((State.reset.setBit Reg.CAL_RUN 3 true).setBit (Reg.RFL_ADC_CTRL 3) 0 false : State).rd.lanes.length ∧ ((State.reset.setBit Reg.CAL_RUN 3 true).setBit (Reg.RFL_ADC_CTRL 3) 0 false : State).bit (Reg.RFL_ADC_CTRL (3 : Nat)) 0 = false ∧ worstSlot ((List.range ((List.range 8).map (fun k => ((k : Int) * 1000, (100000 : Int), (7 : Int) - k)) : List (Int × Int × Int)).length).map (fun j => statTargets ((State.reset.setBit Reg.CAL_RUN 3 true).setBit (Reg.RFL_ADC_CTRL 3) 0 false : State) (3 : Nat) ((List.range 8).map (fun k => ((k : Int) * 1000, (100000 : Int), (7 : Int) - k)) : List (Int × Int × Int)) j)) = some (0 : Nat) ∧ slotConverter ((State.reset.setBit Reg.CAL_RUN 3 true).setBit (Reg.RFL_ADC_CTRL 3) 0 false : State) (3 : Nat) (0 : Nat) = some (0 : Nat)) ∧
    ((State.reset : State).wf = true ∧ ((State.reset : State).frozen pgCAL = true ∨ 4 ≤ (3 : Nat) ∨ runPending (State.reset : State) (3 : Nat) = false)) ∧
    ((State.reset.setBit Reg.CAL_RUN 3 true : State).frozen pgCAL = false ∧ (3 : Nat) < 4 ∧ runPending (State.reset.setBit Reg.CAL_RUN 3 true : State) (3 : Nat) = true) ∧
    ((State.reset : State).wf = true ∧ ((State.reset : State).frozen pgCAL = true ∨ 4 ≤ (3 : Nat) ∨ runPending (State.reset : State) (3 : Nat) = false)) ∧
    ((State.reset.setBit Reg.CAL_RUN 6 true : State).frozen pgCAL = false ∧ runPending (State.reset.setBit Reg.CAL_RUN 6 true : State) 6 = true ∧ lwi (State.reset.setBit Reg.CAL_RUN 6 true : State) = true ∧ (State.reset.setBit Reg.CAL_RUN 6 true : State).wenc.arms = []) ∧
    (((wArms [wArm]).setBit Reg.CAL_RUN 6 true : State).wf = true ∧ (((wArms [wArm]).setBit Reg.CAL_RUN 6 true : State).frozen pgCAL = true ∨ runPending ((wArms [wArm]).setBit Reg.CAL_RUN 6 true : State) 6 = false ∨ lwi ((wArms [wArm]).setBit Reg.CAL_RUN 6 true : State) = false ∨ ((wArms [wArm]).setBit Reg.CAL_RUN 6 true : State).wenc.arms ≠ [])) ∧
    (((State.reset.setBit Reg.CAL_CFG 16 true).setReg Reg.DSK_LANEACT 5#32 : State).frozen pgCAL = false ∧ ((State.reset.setBit Reg.CAL_CFG 16 true).setReg Reg.DSK_LANEACT 5#32 : State).bit Reg.CAL_CFG 16 = true ∧ ((12249 : Nat) < 12250 ∨ 12750 < (12249 : Nat))) ∧
    (((State.reset.setBit Reg.CAL_CFG 16 true).setBit (Reg.STAT pgCAL) 8 true : State).frozen pgCAL = false ∧ ((State.reset.setBit Reg.CAL_CFG 16 true).setBit (Reg.STAT pgCAL) 8 true : State).bit Reg.CAL_CFG 16 = true ∧ 12250 ≤ (12750 : Nat) ∧ (12750 : Nat) ≤ 12750) ∧
    ((State.reset.setBit (Reg.CTRL pgCAL) 2 true : State).wf = true ∧ ((State.reset.setBit (Reg.CTRL pgCAL) 2 true : State).frozen pgCAL = true ∨ (State.reset.setBit (Reg.CTRL pgCAL) 2 true : State).bit Reg.CAL_CFG 16 = false)) ∧
    ((((State.reset.setBit Reg.CAL_CFG 3 true).setBit (Reg.STAT pgCAL) 8 true).setReg Reg.DSK_LANEACT 5#32 : State).frozen pgCAL = false) ∧
    ((State.reset.setBit (Reg.CTRL pgCAL) 2 true : State).wf = true ∧ (State.reset.setBit (Reg.CTRL pgCAL) 2 true : State).frozen pgCAL = true) ∧
    (Takes (wSwp .idle : State) (.sup : Master) Reg.CAL_SWP_CTRL (1 : Word) (newOf (wSwp .idle : State) (.sup : Master) Reg.CAL_SWP_CTRL (1 : Word) : Word) ∧ fieldOf (1 : Word) 0 1 = 1 ∧ fieldOf (1 : Word) 31 1 = 0 ∧ swpGoOk (wSwp .idle : State) = true) ∧
    (Takes (wSwp .dwell : State) (.sup : Master) Reg.CAL_SWP_CTRL (1 : Word) (newOf (wSwp .dwell : State) (.sup : Master) Reg.CAL_SWP_CTRL (1 : Word) : Word) ∧ fieldOf (1 : Word) 0 1 = 1 ∧ swpGoOk (wSwp .dwell : State) = false) ∧
    (Takes (State.reset : State) (.sup : Master) Reg.CAL_SWP_CTRL (2 : Word) (newOf (State.reset : State) (.sup : Master) Reg.CAL_SWP_CTRL (2 : Word) : Word) ∧ fieldOf (2 : Word) 0 1 = 0 ∧ fieldOf (2 : Word) 31 1 = 0) ∧
    ((wSwp .moving : State).frozen pgCAL = false ∧ swpRuns (wSwp .moving : State) = true ∧ swpCauseHolds (wSwp .moving : State) 4 = false ∧ swpMoved (wSwp .moving : State) = true ∧ (wSwp .moving : State).cal.phase = .moving) ∧
    ((wSwp .returning : State).frozen pgCAL = false ∧ swpRuns (wSwp .returning : State) = true ∧ swpCauseHolds (wSwp .returning : State) 4 = false ∧ swpMoved (wSwp .returning : State) = true ∧ (wSwp .returning : State).cal.phase = .returning) ∧
    (((((wMg.setReg Reg.CAL_SWP_CFG 0x00230390#32).setReg Reg.CAL_SWP_CTRL 1#32).setReg (Reg.CAL_MG_STAT 9) 16#32).setCal { State.reset.cal with phase := .moving } : State).frozen pgCAL = false ∧ swpRuns ((((wMg.setReg Reg.CAL_SWP_CFG 0x00230390#32).setReg Reg.CAL_SWP_CTRL 1#32).setReg (Reg.CAL_MG_STAT 9) 16#32).setCal { State.reset.cal with phase := .moving } : State) = true ∧ swpCauseHolds ((((wMg.setReg Reg.CAL_SWP_CFG 0x00230390#32).setReg Reg.CAL_SWP_CTRL 1#32).setReg (Reg.CAL_MG_STAT 9) 16#32).setCal { State.reset.cal with phase := .moving } : State) 4 = true) ∧
    ((wSwp .dwell : State).wf = true ∧ ((wSwp .dwell : State).frozen pgCAL = true ∨ swpRuns (wSwp .dwell : State) = false ∨ swpCauseHolds (wSwp .dwell : State) 4 = false ∧ (swpMoved (wSwp .dwell : State) = false ∨ ((wSwp .dwell : State).cal.phase ≠ .moving ∧ (wSwp .dwell : State).cal.phase ≠ .returning)))) ∧
    ((wSwp .edge : State).frozen pgCAL = false ∧ swpRuns (wSwp .edge : State) = true ∧ ([1, 2, 3].all (fun c => !swpCauseHolds (wSwp .edge : State) c)) = true ∧ (wSwp .edge : State).cal.phase = .edge) ∧
    (((wSwp .settle).setCal { (wSwp .settle).cal with left := 1 } : State).frozen pgCAL = false ∧ swpRuns ((wSwp .settle).setCal { (wSwp .settle).cal with left := 1 } : State) = true ∧ ([1, 2, 3].all (fun c => !swpCauseHolds ((wSwp .settle).setCal { (wSwp .settle).cal with left := 1 } : State) c)) = true ∧ ((wSwp .settle).setCal { (wSwp .settle).cal with left := 1 } : State).cal.phase = .settle) ∧
    (((wSwp .dwell).setMort 0x23 0xFFFFFFFF#32 : State).frozen pgCAL = false ∧ swpRuns ((wSwp .dwell).setMort 0x23 0xFFFFFFFF#32 : State) = true ∧ ([1, 2, 3].all (fun c => !swpCauseHolds ((wSwp .dwell).setMort 0x23 0xFFFFFFFF#32 : State) c)) = true ∧ ((wSwp .dwell).setMort 0x23 0xFFFFFFFF#32 : State).cal.phase = .dwell ∧ 1 < ((wSwp .dwell).setMort 0x23 0xFFFFFFFF#32 : State).cal.left ∧ ((wSwp .dwell).setMort 0x23 0xFFFFFFFF#32 : State).cal.point < 16) ∧
    (((wSwp .dwell).setCal { (wSwp .dwell).cal with left := 1, sum := 7 } : State).frozen pgCAL = false ∧ swpRuns ((wSwp .dwell).setCal { (wSwp .dwell).cal with left := 1, sum := 7 } : State) = true ∧ ([1, 2, 3].all (fun c => !swpCauseHolds ((wSwp .dwell).setCal { (wSwp .dwell).cal with left := 1, sum := 7 } : State) c)) = true ∧ ((wSwp .dwell).setCal { (wSwp .dwell).cal with left := 1, sum := 7 } : State).cal.phase = .dwell ∧ ((wSwp .dwell).setCal { (wSwp .dwell).cal with left := 1, sum := 7 } : State).cal.left ≤ 1 ∧ ((wSwp .dwell).setCal { (wSwp .dwell).cal with left := 1, sum := 7 } : State).cal.point + 1 < swpN ((wSwp .dwell).setCal { (wSwp .dwell).cal with left := 1, sum := 7 } : State) ∧ swpN ((wSwp .dwell).setCal { (wSwp .dwell).cal with left := 1, sum := 7 } : State) ≤ 16) ∧
    (((((wSwp .dwell).setReg (Reg.CAL_SWP_MET 0) 90#32).setReg (Reg.CAL_SWP_MET 1) 7#32).setCal { (wSwp .dwell).cal with left := 1, sum := 70, point := 2 } : State).frozen pgCAL = false ∧ swpRuns ((((wSwp .dwell).setReg (Reg.CAL_SWP_MET 0) 90#32).setReg (Reg.CAL_SWP_MET 1) 7#32).setCal { (wSwp .dwell).cal with left := 1, sum := 70, point := 2 } : State) = true ∧ ([1, 2, 3].all (fun c => !swpCauseHolds ((((wSwp .dwell).setReg (Reg.CAL_SWP_MET 0) 90#32).setReg (Reg.CAL_SWP_MET 1) 7#32).setCal { (wSwp .dwell).cal with left := 1, sum := 70, point := 2 } : State) c)) = true ∧ ((((wSwp .dwell).setReg (Reg.CAL_SWP_MET 0) 90#32).setReg (Reg.CAL_SWP_MET 1) 7#32).setCal { (wSwp .dwell).cal with left := 1, sum := 70, point := 2 } : State).cal.phase = .dwell ∧ ((((wSwp .dwell).setReg (Reg.CAL_SWP_MET 0) 90#32).setReg (Reg.CAL_SWP_MET 1) 7#32).setCal { (wSwp .dwell).cal with left := 1, sum := 70, point := 2 } : State).cal.left ≤ 1 ∧ swpN ((((wSwp .dwell).setReg (Reg.CAL_SWP_MET 0) 90#32).setReg (Reg.CAL_SWP_MET 1) 7#32).setCal { (wSwp .dwell).cal with left := 1, sum := 70, point := 2 } : State) ≤ ((((wSwp .dwell).setReg (Reg.CAL_SWP_MET 0) 90#32).setReg (Reg.CAL_SWP_MET 1) 7#32).setCal { (wSwp .dwell).cal with left := 1, sum := 70, point := 2 } : State).cal.point + 1 ∧ ((((wSwp .dwell).setReg (Reg.CAL_SWP_MET 0) 90#32).setReg (Reg.CAL_SWP_MET 1) 7#32).setCal { (wSwp .dwell).cal with left := 1, sum := 70, point := 2 } : State).cal.point < 16) ∧
    (((wSwp .dwell).setBit Reg.ACT_SAFE 8 true : State).frozen pgCAL = false ∧ swpRuns ((wSwp .dwell).setBit Reg.ACT_SAFE 8 true : State) = true ∧ [1, 2, 3].find? (swpCauseHolds ((wSwp .dwell).setBit Reg.ACT_SAFE 8 true : State)) = some (2 : Nat)) ∧
    ((wSwp .moving : State).wf = true ∧ ((wSwp .moving : State).frozen pgCAL = true ∨ swpRuns (wSwp .moving : State) = false ∨ (wSwp .moving : State).cal.phase = .idle ∨ (wSwp .moving : State).cal.phase = .moving ∨ (wSwp .moving : State).cal.phase = .returning)) ∧
    (((wSwp .dwell).setBit Reg.ACT_SAFE 8 true : State).frozen pgCAL = false ∧ swpRuns ((wSwp .dwell).setBit Reg.ACT_SAFE 8 true : State) = true ∧ swpCauseHolds ((wSwp .dwell).setBit Reg.ACT_SAFE 8 true : State) (2 : Nat) = true ∧ (2 : Nat) ≠ 5) ∧
    ((wSwp .dwell : State).wf = true ∧ (6 : Nat) ≠ 5 ∧ ((wSwp .dwell : State).frozen pgCAL = true ∨ swpRuns (wSwp .dwell : State) = false ∨ swpCauseHolds (wSwp .dwell : State) (6 : Nat) = false)) ∧
    (Takes (wSwp .dwell : State) (.sup : Master) Reg.CAL_SWP_CTRL (0x80000000 : Word) (newOf (wSwp .dwell : State) (.sup : Master) Reg.CAL_SWP_CTRL (0x80000000 : Word) : Word) ∧ fieldOf (0x80000000 : Word) 31 1 = 1 ∧ fieldOf (0x80000000 : Word) 0 1 = 0 ∧ fieldOf (newOf (wSwp .dwell : State) (.sup : Master) Reg.CAL_SWP_CTRL (0x80000000 : Word) : Word) 0 1 = 1 ∧ (wSwp .dwell : State).cal.phase ≠ .returning) ∧
    (Takes (wSwp .returning : State) (.sup : Master) Reg.CAL_SWP_CTRL (0x80000000 : Word) (newOf (wSwp .returning : State) (.sup : Master) Reg.CAL_SWP_CTRL (0x80000000 : Word) : Word) ∧ fieldOf (0x80000000 : Word) 0 1 = 0 ∧ (fieldOf (0x80000000 : Word) 31 1 = 0 ∨ fieldOf (newOf (wSwp .returning : State) (.sup : Master) Reg.CAL_SWP_CTRL (0x80000000 : Word) : Word) 0 1 = 0 ∨ (wSwp .returning : State).cal.phase = .returning)) := by
  refine ⟨?_, ?_, ?_, ?_, ?_, ?_, ?_, ?_, ?_, ?_, ?_, ?_, ?_, ?_, ?_, ?_, ?_, ?_, ?_, ?_, ?_, ?_, ?_, ?_, ?_, ?_, ?_, ?_, ?_, ?_, ?_, ?_, ?_, ?_, ?_, ?_, ?_, ?_, ?_, ?_⟩ <;> decide +kernel

/-- The hypotheses of Obligations.LinkResetsAndBusMastering can be met, clause by clause. -/
theorem witness_LinkResetsAndBusMastering :
    (((State.reset.setBit Reg.PCIE_LINK 24 false).setPcie { State.reset.pcie with policy := some 1 } : State).quiet ∧ ((State.reset.setBit Reg.PCIE_LINK 24 false).setPcie { State.reset.pcie with policy := some 1 } : State).bit Reg.PCIE_LINK 24 = false) ∧
    ((State.reset.setBit Reg.PCIE_LINK 24 true : State).wf = true ∧ (State.reset.setBit Reg.PCIE_LINK 24 true : State).bit Reg.PCIE_LINK 24 = true) ∧
    ((wFlr : State).quiet) ∧
    ((State.reset.setBit Reg.PCIE_LINK 24 true : State).boot.warm = false ∧ ((State.reset.setBit Reg.PCIE_LINK 24 true : State).boot.phase ≠ .running ∨ newerSlot (State.reset.setBit Reg.PCIE_LINK 24 true : State) = false)) ∧
    ((wRead : State).quiet ∧ (wRead : State).fld Reg.PCIE_LINK 0 3 ≠ 0 ∧ (wRead : State).bit Reg.PCIE_LINK 24 = false) ∧
    ((State.reset : State).wf = true ∧ ((State.reset : State).fld Reg.PCIE_LINK 0 3 = 0 ∨ (State.reset : State).bit Reg.PCIE_LINK 24 = true)) ∧
    ((State.reset.setFld Reg.PCIE_SURP 0 2 1 : State).fld Reg.PCIE_LINK 0 3 = 0 ∧ (State.reset.setFld Reg.PCIE_SURP 0 2 1 : State).fld Reg.PCIE_SURP 0 2 ≠ 0 ∧ (State.reset.setFld Reg.PCIE_SURP 0 2 1 : State).pcie.policy = none) ∧
    ((wLink.setFld Reg.PCIE_SURP 0 2 1 : State).wf = true ∧ ((wLink.setFld Reg.PCIE_SURP 0 2 1 : State).fld Reg.PCIE_LINK 0 3 ≠ 0 ∨ (wLink.setFld Reg.PCIE_SURP 0 2 1 : State).fld Reg.PCIE_SURP 0 2 = 0 ∨ (wLink.setFld Reg.PCIE_SURP 0 2 1 : State).pcie.policy ≠ none)) ∧
    ((wLink : State).quiet ∧ cfgRetry (wLink : State) = false ∧ (0x3C : Nat) < 4096 ∧ cfgReadOnly ((0x3C : Nat) / 4 * 4) ((0x3C : Nat) % 4) ([7] : List Nat).length = false) ∧
    (cfgRetry (wLink : State) = false ∧ (0x02 : Nat) < 4096 ∧ cfgReadOnly ((0x02 : Nat) / 4 * 4) ((0x02 : Nat) % 4) ([7, 8] : List Nat).length = true) ∧
    ((wFlr : State).wf = true ∧ (cfgRetry (wFlr : State) = true ∨ 4096 ≤ (4 : Nat))) ∧
    (cfgRetry (wLink : State) = false ∧ busMaster (wLink : State) = true ∧ fieldOf (cfgNew (wLink : State) 0x04 0 (bytesLE 2 (2 : Word).toNat)) 2 1 = 0) ∧
    (cfgRetry (wLink : State) = false ∧ (busMaster (wLink : State) = false ∨ fieldOf (cfgNew (wLink : State) 0x04 0 (bytesLE 2 (6 : Word).toNat)) 2 1 = 1) ∧ (busMaster (wLink : State) = true ∨ fieldOf (cfgNew (wLink : State) 0x04 0 (bytesLE 2 (6 : Word).toNat)) 2 1 = 0)) ∧
    ((wFlr : State).wf = true ∧ cfgRetry (wFlr : State) = true) ∧
    (((wLink.setFld (cfgReg 4) 1 2 0).setPcie { wLink.pcie with held := [.data 0x1000 [1, 2] false] } : State).quiet ∧ cfgRetry ((wLink.setFld (cfgReg 4) 1 2 0).setPcie { wLink.pcie with held := [.data 0x1000 [1, 2] false] } : State) = false ∧ ((wLink.setFld (cfgReg 4) 1 2 0).setPcie { wLink.pcie with held := [.data 0x1000 [1, 2] false] } : State).fld Reg.PCIE_LINK 0 3 ≠ 0 ∧ busMaster ((wLink.setFld (cfgReg 4) 1 2 0).setPcie { wLink.pcie with held := [.data 0x1000 [1, 2] false] } : State) = false ∧ inD3 ((wLink.setFld (cfgReg 4) 1 2 0).setPcie { wLink.pcie with held := [.data 0x1000 [1, 2] false] } : State) = false ∧ ((wLink.setFld (cfgReg 4) 1 2 0).setPcie { wLink.pcie with held := [.data 0x1000 [1, 2] false] } : State).boot.warm = false ∧ fieldOf (cfgNew ((wLink.setFld (cfgReg 4) 1 2 0).setPcie { wLink.pcie with held := [.data 0x1000 [1, 2] false] } : State) 0x04 0 (bytesLE 2 (6 : Word).toNat)) 2 1 = 1) ∧
    (cfgRetry (wLink.setFld (cfgReg 4) 1 2 0 : State) = false ∧ (busMaster (wLink.setFld (cfgReg 4) 1 2 0 : State) = false ∨ fieldOf (cfgNew (wLink.setFld (cfgReg 4) 1 2 0 : State) 0x04 0 (bytesLE 2 (2 : Word).toNat)) 2 1 = 1) ∧ (busMaster (wLink.setFld (cfgReg 4) 1 2 0 : State) = true ∨ fieldOf (cfgNew (wLink.setFld (cfgReg 4) 1 2 0 : State) 0x04 0 (bytesLE 2 (2 : Word).toNat)) 2 1 = 0)) ∧
    ((wFlr : State).wf = true ∧ cfgRetry (wFlr : State) = true) ∧
    (cfgRetry (wLink : State) = false ∧ fieldOf (0x8000 : Word) 15 1 = 1) ∧
    (cfgRetry (wLink : State) = false ∧ fieldOf (0x2810 : Word) 15 1 = 0) ∧
    ((wFlr : State).wf = true ∧ cfgRetry (wFlr : State) = true) ∧
    ((wFlr : State).fld Reg.PCIE_FLR 0 2 = 1 ∧ tagsOut (wFlr : State) ≠ []) ∧
    ((wRead : State).wf = true ∧ ((wRead : State).fld Reg.PCIE_FLR 0 2 ≠ 1 ∨ tagsOut (wRead : State) = [])) ∧
    (({ wLink.setFld Reg.PCIE_FLR 0 2 1 with ticks := 70000 } : State).quiet ∧ ({ wLink.setFld Reg.PCIE_FLR 0 2 1 with ticks := 70000 } : State).fld Reg.PCIE_FLR 0 2 = 1 ∧ tagsOut ({ wLink.setFld Reg.PCIE_FLR 0 2 1 with ticks := 70000 } : State) = []) ∧
    ((wFlr : State).wf = true ∧ ((wFlr : State).fld Reg.PCIE_FLR 0 2 ≠ 1 ∨ tagsOut (wFlr : State) ≠ [])) ∧
    (cfgRetry (wLink : State) = false ∧ inD3 (wLink : State) = false ∧ fieldOf (cfgNew (wLink : State) 0x44 0 (bytesLE 2 (3 : Word).toNat)) 0 2 = 3) ∧
    (cfgRetry (wLink : State) = false ∧ inD3 (wLink : State) = decide (fieldOf (cfgNew (wLink : State) 0x44 0 (bytesLE 2 (1 : Word).toNat)) 0 2 = 3)) ∧
    ((wFlr : State).wf = true ∧ cfgRetry (wFlr : State) = true) ∧
    ((wLink.setFld (cfgReg 0x44) 0 2 3 : State).quiet ∧ cfgRetry (wLink.setFld (cfgReg 0x44) 0 2 3 : State) = false ∧ (wLink.setFld (cfgReg 0x44) 0 2 3 : State).fld Reg.PCIE_LINK 0 3 ≠ 0 ∧ inD3 (wLink.setFld (cfgReg 0x44) 0 2 3 : State) = true ∧ busMaster (wLink.setFld (cfgReg 0x44) 0 2 3 : State) = true ∧ (wLink.setFld (cfgReg 0x44) 0 2 3 : State).boot.warm = false ∧ fieldOf (cfgNew (wLink.setFld (cfgReg 0x44) 0 2 3 : State) 0x44 0 (bytesLE 2 (0 : Word).toNat)) 0 2 = 0) ∧
    (cfgRetry (wLink.setFld (cfgReg 0x44) 0 2 3 : State) = false ∧ inD3 (wLink.setFld (cfgReg 0x44) 0 2 3 : State) = decide (fieldOf (cfgNew (wLink.setFld (cfgReg 0x44) 0 2 3 : State) 0x44 0 (bytesLE 2 (2 : Word).toNat)) 0 2 = 3)) ∧
    ((wFlr : State).wf = true ∧ cfgRetry (wFlr : State) = true) ∧
    ((wLink.setFld (cfgReg 0x70) 0 2 1 : State).bit (cfgReg 0x70) 0 = true ∧ (wLink.setFld (cfgReg 0x70) 0 2 1 : State).bit (Reg.STAT pgPCIE) 8 = true ∧ (wLink.setFld (cfgReg 0x70) 0 2 1 : State).fld Reg.PCIE_LINK 16 3 = 0) ∧
    ((wLink : State).wf = true ∧ ((wLink : State).bit (cfgReg 0x70) 0 = false ∨ (wLink : State).bit (Reg.STAT pgPCIE) 8 = false ∨ (wLink : State).fld Reg.PCIE_LINK 16 3 ≠ 0)) ∧
    ((wLink.setFld (cfgReg 0x70) 0 2 2 : State).bit (cfgReg 0x70) 1 = true ∧ (wLink.setFld (cfgReg 0x70) 0 2 2 : State).bit (Reg.STAT pgPCIE) 8 = true ∧ (wLink.setFld (cfgReg 0x70) 0 2 2 : State).fld Reg.PCIE_LINK 16 3 ≤ 1 ∧ l1Quiet (wLink.setFld (cfgReg 0x70) 0 2 2 : State) = true) ∧
    ((wRead.setFld (cfgReg 0x70) 0 2 2 : State).wf = true ∧ ((wRead.setFld (cfgReg 0x70) 0 2 2 : State).bit (cfgReg 0x70) 1 = false ∨ (wRead.setFld (cfgReg 0x70) 0 2 2 : State).bit (Reg.STAT pgPCIE) 8 = false ∨ 1 < (wRead.setFld (cfgReg 0x70) 0 2 2 : State).fld Reg.PCIE_LINK 16 3 ∨ l1Quiet (wRead.setFld (cfgReg 0x70) 0 2 2 : State) = false)) ∧
    (1 ≤ (wLink.setFld Reg.PCIE_LINK 16 3 4 : State).fld Reg.PCIE_LINK 16 3 ∧ (wLink.setFld Reg.PCIE_LINK 16 3 4 : State).fld Reg.PCIE_LINK 16 3 ≤ 4) ∧
    ((wLink : State).wf = true ∧ ((wLink : State).fld Reg.PCIE_LINK 16 3 = 0 ∨ 5 ≤ (wLink : State).fld Reg.PCIE_LINK 16 3)) ∧
    ((wLink.setBit (cfgReg 0x88) 10 true : State) = (if cmdsOutstanding (wLink.setBit (cfgReg 0x88) 10 true : State) then (wLink.setBit (cfgReg 0x88) 10 true : State).setPcie { (wLink.setBit (cfgReg 0x88) 10 true : State).pcie with ltrIdle := false } else (wLink.setBit (cfgReg 0x88) 10 true : State))) ∧
    (cmdsOutstanding (wLink.setBit (cfgReg 0x88) 10 true : State) = false ∧ ((wLink.setBit (cfgReg 0x88) 10 true).setPcie { wLink.pcie with ltrIdle := true } : State) = (wLink.setBit (cfgReg 0x88) 10 true : State).setPcie { (wLink.setBit (cfgReg 0x88) 10 true : State).pcie with ltrIdle := true }) ∧
    ((wHold [wCmd 0 6 0 []] : State).wf = true ∧ cmdsOutstanding (wHold [wCmd 0 6 0 []] : State) = true) := by
  refine ⟨?_, ?_, ?_, ?_, ?_, ?_, ?_, ?_, ?_, ?_, ?_, ?_, ?_, ?_, ?_, ?_, ?_, ?_, ?_, ?_, ?_, ?_, ?_, ?_, ?_, ?_, ?_, ?_, ?_, ?_, ?_, ?_, ?_, ?_, ?_, ?_, ?_, ?_, ?_⟩ <;> decide +kernel

/-- The hypotheses of Obligations.HostReadsBarsAndUnlock can be met, clause by clause. -/
theorem witness_HostReadsBarsAndUnlock :
    (mayIssue (wRead : State) = true ∧ (wRead : State).pcie.reads.find? (fun x => x.tag == some (5 : Nat)) = some (⟨0x1000, 8, .sqe 1, 0, some 5, [], 0, false⟩ : HostReq) ∧ (⟨0x1000, 8, .sqe 1, 0, some 5, [], 0, false⟩ : HostReq).got.length + ([1, 2, 3, 4, 5, 6, 7] : List Nat).length < (⟨0x1000, 8, .sqe 1, 0, some 5, [], 0, false⟩ : HostReq).len) ∧
    ((wRead.setPcie { wRead.pcie with rdRem := 250 } : State).quiet ∧ mayIssue (wRead.setPcie { wRead.pcie with rdRem := 250 } : State) = true ∧ (wRead.setPcie { wRead.pcie with rdRem := 250 } : State).pcie.reads.find? (fun x => x.tag == some (5 : Nat)) = some (⟨0x1000, 8, .sqe 1, 0, some 5, [], 0, false⟩ : HostReq) ∧ (⟨0x1000, 8, .sqe 1, 0, some 5, [], 0, false⟩ : HostReq).len ≤ (⟨0x1000, 8, .sqe 1, 0, some 5, [], 0, false⟩ : HostReq).got.length + ([1, 2, 3, 4, 5, 6, 7, 8] : List Nat).length) ∧
    ((wRead : State).wf = true ∧ ((wRead : State).pcie.reads.find? (fun x => x.tag == some (5 : Nat))).isSome = true) ∧
    ((wRead : State).quiet ∧ mayIssue (wRead : State) = true ∧ (wRead : State).pcie.reads.find? (fun x => x.tag == some (5 : Nat)) = some (⟨0x1000, 8, .sqe 1, 0, some 5, [], 0, false⟩ : HostReq) ∧ (4 : Nat) ≠ 2 ∧ ((false : Bool) = true ∨ (4 : Nat) ≠ 0)) ∧
    (mayIssue (wFlr : State) = false ∧ (wFlr : State).pcie.reads.find? (fun x => x.tag == some (5 : Nat)) = some (⟨0x1000, 8, .sqe 1, 0, some 5, [], 0, false⟩ : HostReq) ∧ (0 : Nat) ≠ 2) ∧
    ((wRead : State).pcie.reads.find? (fun x => x.tag == some (6 : Nat)) = none ∧ (wRead : State).pcie.quar.contains ((6 : Nat), true) = false) ∧
    ((wRead.setPcie { wRead.pcie with quar := [(6, true)] } : State).pcie.reads.find? (fun x => x.tag == some (6 : Nat)) = none ∧ (wRead.setPcie { wRead.pcie with quar := [(6, true)] } : State).pcie.quar.contains ((6 : Nat), true) = true) ∧
    ((wRead : State).quiet ∧ mayIssue (wRead : State) = true ∧ (wRead : State).pcie.reads.find? (fun x => x.tag == some (5 : Nat)) = some (⟨0x1000, 8, .sqe 1, 0, some 5, [], 0, false⟩ : HostReq)) ∧
    (mayIssue (wRead.setBit (cfgReg 4) 2 false : State) = false ∧ (wRead.setBit (cfgReg 4) 2 false : State).pcie.reads.find? (fun x => x.tag == some (5 : Nat)) = some (⟨0x1000, 8, .sqe 1, 0, some 5, [], 0, false⟩ : HostReq)) ∧
    ((wRead : State).wf = true ∧ (wRead : State).pcie.reads.find? (fun x => x.tag == some (6 : Nat)) = none) ∧
    ((9 : Nat) < 10 ∧ (wLink : State).pcie.quar.contains (0x400, true) = false) ∧
    ((wLink : State).wf = true ∧ 10 ≤ (10 : Nat)) ∧
    (memSpace (State.reset : State) = false) ∧
    (memSpace (wLink : State) = true ∧ barShape (0x15 : Nat) ([1, 0, 0, 0] : List Nat).length = false) ∧
    (memSpace (wLink : State) = true ∧ (0x34 : Nat) ∈ [0x28, 0x2C, 0x30, 0x34] ∧ ([1, 2, 3, 255] : List Nat).length = 4) ∧
    (memSpace (wLink : State) = true ∧ (0x08 : Nat) ∈ [0x00, 0x04, 0x08, 0x1C, 0x20] ∧ ([1, 2, 3, 255] : List Nat).length = 4) ∧
    (memSpace (wLink : State) = true ∧ ([255, 255, 1, 0] : List Nat).length = 4) ∧
    (linkGone (State.reset : State) = true) ∧
    (linkGone ((wLink.setFld (cfgReg 4) 1 2 2) : State) = false ∧ memSpace ((wLink.setFld (cfgReg 4) 1 2 2) : State) = false) ∧
    (linkGone (wLink : State) = false ∧ memSpace (wLink : State) = true ∧ barShape (5 : Nat) (4 : Nat) = false) ∧
    (linkGone (wLink : State) = false ∧ memSpace (wLink : State) = true ∧ barShape (8 : Nat) (4 : Nat) = true) ∧
    (linkGone ((wLink.setReg (Reg.ACL_PAGE 0x25) 0x7FFF7FFF#32) : State) = false ∧ memSpace ((wLink.setReg (Reg.ACL_PAGE 0x25) 0x7FFF7FFF#32) : State) = true ∧ (0x25000 : Nat) < 0x29000 ∧ (0x25000 : Nat) % 4 = 0 ∧ pageGrants ((wLink.setReg (Reg.ACL_PAGE 0x25) 0x7FFF7FFF#32) : State) .hostin ((0x25000 : Nat) / 0x1000) .read = true) ∧
    (linkGone ((wLink.setReg (Reg.ACL_PAGE 0x25) 0#32) : State) = false ∧ memSpace ((wLink.setReg (Reg.ACL_PAGE 0x25) 0#32) : State) = true ∧ barShape (0x25000 : Nat) (4 : Nat) = true ∧ (0x25000 : Nat) < 0x29000 ∧ pageGrants ((wLink.setReg (Reg.ACL_PAGE 0x25) 0#32) : State) .hostin ((0x25000 : Nat) / 0x1000) .read = false) ∧
    (linkGone (wUnlk 1 none : State) = false ∧ memSpace (wUnlk 1 none : State) = true ∧ barShape (0x3E024 : Nat) (4 : Nat) = true ∧ 0x29000 ≤ (0x3E024 : Nat)) ∧
    (linkGone (State.reset : State) = true) ∧
    (linkGone (wLink : State) = false ∧ (memSpace (wLink : State) = false ∨ barShape (0 : Nat) (9 : Nat) = false)) ∧
    (memSpace (wLink : State) = true ∧ barShape (0x25044 : Nat) ([1, 2, 3, 4] : List Nat).length = true ∧ (0x25044 : Nat) < 0x3E000 ∧ inScope (wLink : State) ((0x25044 : Nat) / 0x1000) = false) ∧
    (memSpace ((wUnlk 3 none).setPcie { (wUnlk 3 none).pcie with unlkScope := 2 ^ 0x26 } : State) = true ∧ (0x25044 : Nat) < 0x29000 ∧ (0x25044 : Nat) % 4 = 0 ∧ ([1, 2, 3, 4] : List Nat).length = 4 ∧ inScope ((wUnlk 3 none).setPcie { (wUnlk 3 none).pcie with unlkScope := 2 ^ 0x26 } : State) ((0x25044 : Nat) / 0x1000) = true) ∧
    (memSpace (wLink : State) = true ∧ ([255, 255, 1, 0] : List Nat).length = 4) ∧
    (memSpace (wLink : State) = false ∨ barShape (0x3E028 : Nat) ([] : List Nat).length = false) ∧
    (fieldOf (1 : Word) 0 1 = 1 ∧ fieldOf (1 : Word) 1 1 = 0 ∧ fieldOf (1 : Word) 2 1 = 0) ∧
    ((wLink : State).wf = true ∧ fieldOf (8 : Word) 0 1 = 0 ∧ fieldOf (8 : Word) 1 1 = 0 ∧ fieldOf (8 : Word) 2 1 = 0) ∧
    (fieldOf (2 : Word) 0 1 = 0 ∧ fieldOf (2 : Word) 1 1 = 1 ∧ fieldOf (2 : Word) 2 1 = 0 ∧ unlkState (wUnlk 1 none : State) ≠ 2) ∧
    ((wUnlk 2 (some 1) : State).wf = true ∧ fieldOf (2 : Word) 0 1 = 0 ∧ fieldOf (2 : Word) 1 1 = 1 ∧ fieldOf (2 : Word) 2 1 = 0 ∧ unlkState (wUnlk 2 (some 1) : State) = 2) ∧
    ((wUnlk 2 (some 1) : State).pcie.unlk = some (1 : Nat)) ∧
    ((wUnlk 2 none : State).wf = true ∧ (wUnlk 2 none : State).pcie.unlk = none) ∧
    (fieldOf (4 : Word) 0 1 = 0 ∧ fieldOf (4 : Word) 1 1 = 0 ∧ fieldOf (4 : Word) 2 1 = 1 ∧ unlkState (wUnlk 3 none : State) = 3) ∧
    ((wUnlk 1 none : State).wf = true ∧ fieldOf (4 : Word) 0 1 = 0 ∧ fieldOf (4 : Word) 1 1 = 0 ∧ fieldOf (4 : Word) 2 1 = 1 ∧ unlkState (wUnlk 1 none : State) ≠ 3) ∧
    (unlkState (wUnlk 3 none : State) = 3 ∧ (wUnlk 3 none : State).pcie.unlkEnd ≤ (wUnlk 3 none : State).ticks) ∧
    (((wUnlk 3 none).setPcie { (wUnlk 3 none).pcie with unlkEnd := 1 } : State).wf = true ∧ (unlkState ((wUnlk 3 none).setPcie { (wUnlk 3 none).pcie with unlkEnd := 1 } : State) ≠ 3 ∨ ((wUnlk 3 none).setPcie { (wUnlk 3 none).pcie with unlkEnd := 1 } : State).ticks < ((wUnlk 3 none).setPcie { (wUnlk 3 none).pcie with unlkEnd := 1 } : State).pcie.unlkEnd)) := by
  refine ⟨?_, ?_, ?_, ?_, ?_, ?_, ?_, ?_, ?_, ?_, ?_, ?_, ?_, ?_, ?_, ?_, ?_, ?_, ?_, ?_, ?_, ?_, ?_, ?_, ?_, ?_, ?_, ?_, ?_, ?_, ?_, ?_, ?_, ?_, ?_, ?_, ?_, ?_, ?_, ?_⟩ <;> decide +kernel

/-- The hypotheses of Obligations.ControllerEnablesResetsAndShutsDown can be met, clause by clause. -/
theorem witness_ControllerEnablesResetsAndShutsDown :
    ((wReady.setReg aCC 0#32 : State).bit aCC 0 = false ∧ fieldOf (0x00460001 : Word) 0 1 = 1 ∧ fieldOf (0x00460001 : Word) 14 2 = 0 ∧ enableOk ((wReady.setReg aCC 0#32 : State).setReg aCC ((0x00460001 : Word) &&& 0x00FFFFF1#32)) = true) ∧
    ((wLink : State).bit aCC 0 = false ∧ fieldOf (0x00460001 : Word) 0 1 = 1 ∧ fieldOf (0x00460001 : Word) 14 2 = 0 ∧ enableOk ((wLink : State).setReg aCC ((0x00460001 : Word) &&& 0x00FFFFF1#32)) = false) ∧
    ((wReady : State).bit aCC 0 = true ∧ fieldOf (0x00460001 : Word) 0 1 = 1 ∧ fieldOf (0x00460001 : Word) 14 2 = 0) ∧
    ((wReady : State).quiet ∧ (wReady : State).bit aCC 0 = true ∧ fieldOf (0x00460000 : Word) 0 1 = 0) ∧
    ((wLink : State).bit aCC 0 = false ∧ fieldOf (0x00460000 : Word) 0 1 = 0) ∧
    ((wReady : State).quiet ∧ (wReady : State).bit aCC 0 = true ∧ fieldOf (0x00464001 : Word) 0 1 = 1 ∧ fieldOf (0x00464001 : Word) 14 2 = 1) ∧
    ((wReady.setHq { wReady.hq with shut := 1 } : State).bit aCC 0 = true ∧ fieldOf (0x00464001 : Word) 0 1 = 1 ∧ fieldOf (0x00464001 : Word) 14 2 = 1 ∧ (wReady.setHq { wReady.hq with shut := 1 } : State).hq.shut ≠ 0) ∧
    ((wReady : State).quiet ∧ (wReady : State).bit aCC 0 = true ∧ fieldOf (0x00468001 : Word) 0 1 = 1 ∧ fieldOf (0x00468001 : Word) 14 2 = 2) ∧
    ((wReady.setHq { wReady.hq with shut := 3 } : State).bit aCC 0 = true ∧ fieldOf (0x00468001 : Word) 0 1 = 1 ∧ fieldOf (0x00468001 : Word) 14 2 = 2 ∧ 3 ≤ (wReady.setHq { wReady.hq with shut := 3 } : State).hq.shut) ∧
    ((wReady : State).quiet ∧ (0 : Nat) < 65 ∧ ready (wReady : State) = true ∧ (wReady : State).sq (0 : Nat) = some (⟨0, 0x1000, 16, 0, 0⟩ : Sq) ∧ fieldOf (15 : Word) 0 16 < (⟨0, 0x1000, 16, 0, 0⟩ : Sq).size ∧ (⟨0, 0x1000, 16, 0, 0⟩ : Sq).size ≤ 4096) ∧
    ((wReady : State).quiet ∧ ready (wReady : State) = true ∧ ((wReady : State).sq (0 : Nat)).all (fun q => decide (q.size ≤ fieldOf (16 : Word) 0 16)) = true) ∧
    ((wLink : State).wf = true ∧ ready (wLink : State) = false) ∧
    ((wReady.setFld (Reg.HQ_CQPTR 0) 0 12 3 : State).quiet ∧ (0 : Nat) < 65 ∧ ready (wReady.setFld (Reg.HQ_CQPTR 0) 0 12 3 : State) = true ∧ (wReady.setFld (Reg.HQ_CQPTR 0) 0 12 3 : State).cq (0 : Nat) = some (⟨0, 0x2000, 16, 0, true, true⟩ : Cq) ∧ fieldOf (3 : Word) 0 16 < (⟨0, 0x2000, 16, 0, true, true⟩ : Cq).size ∧ (⟨0, 0x2000, 16, 0, true, true⟩ : Cq).size ≤ 4096 ∧ (fieldOf (3 : Word) 0 16 + (⟨0, 0x2000, 16, 0, true, true⟩ : Cq).size - (wReady.setFld (Reg.HQ_CQPTR 0) 0 12 3 : State).fld (Reg.HQ_CQPTR (0 : Nat)) 16 12) % (⟨0, 0x2000, 16, 0, true, true⟩ : Cq).size ≤ ((wReady.setFld (Reg.HQ_CQPTR 0) 0 12 3 : State).fld (Reg.HQ_CQPTR (0 : Nat)) 0 12 + (⟨0, 0x2000, 16, 0, true, true⟩ : Cq).size - (wReady.setFld (Reg.HQ_CQPTR 0) 0 12 3 : State).fld (Reg.HQ_CQPTR (0 : Nat)) 16 12) % (⟨0, 0x2000, 16, 0, true, true⟩ : Cq).size) ∧
    ((wReady.setFld (Reg.HQ_CQPTR 0) 0 12 3 : State).quiet ∧ ready (wReady.setFld (Reg.HQ_CQPTR 0) 0 12 3 : State) = true ∧ ((wReady.setFld (Reg.HQ_CQPTR 0) 0 12 3 : State).cq (0 : Nat)).all (fun q => decide (q.size ≤ fieldOf (4 : Word) 0 16) || decide (((wReady.setFld (Reg.HQ_CQPTR 0) 0 12 3 : State).fld (Reg.HQ_CQPTR (0 : Nat)) 0 12 + q.size - (wReady.setFld (Reg.HQ_CQPTR 0) 0 12 3 : State).fld (Reg.HQ_CQPTR (0 : Nat)) 16 12) % q.size < (fieldOf (4 : Word) 0 16 + q.size - (wReady.setFld (Reg.HQ_CQPTR 0) 0 12 3 : State).fld (Reg.HQ_CQPTR (0 : Nat)) 16 12) % q.size)) = true) ∧
    ((wLink : State).wf = true ∧ ready (wLink : State) = false) := by
  refine ⟨?_, ?_, ?_, ?_, ?_, ?_, ?_, ?_, ?_, ?_, ?_, ?_, ?_, ?_, ?_⟩ <;> decide +kernel

/-- The hypotheses of Obligations.AdminQueuesAndFeatures can be met, clause by clause. -/
theorem witness_AdminQueuesAndFeatures :
    (((wHold [wCmd 0 0 0 [3#32]]).setHq { (wHold [wCmd 0 0 0 [3#32]]).hq with sqs := wReady.hq.sqs ++ [⟨3, 0x9000, 4, 0, 0⟩] } : State).alone (wCmd 0 0 0 [3#32] : Ctx) ∧ (wCmd 0 0 0 [3#32] : Ctx).admin = true ∧ (wCmd 0 0 0 [3#32] : Ctx).opc = 0x00 ∧ (wCmd 0 0 0 [3#32] : Ctx).f 10 0 16 ≠ 0 ∧ (wCmd 0 0 0 [3#32] : Ctx).f 10 0 16 ≤ 64 ∧ (((wHold [wCmd 0 0 0 [3#32]]).setHq { (wHold [wCmd 0 0 0 [3#32]]).hq with sqs := wReady.hq.sqs ++ [⟨3, 0x9000, 4, 0, 0⟩] } : State).sq ((wCmd 0 0 0 [3#32] : Ctx).f 10 0 16)).isSome = true) ∧
    ((wHold [wCmd 0 0 0 [0#32]] : State).alone (wCmd 0 0 0 [0#32] : Ctx) ∧ (wCmd 0 0 0 [0#32] : Ctx).admin = true ∧ (wCmd 0 0 0 [0#32] : Ctx).opc = 0x00 ∧ ((wCmd 0 0 0 [0#32] : Ctx).f 10 0 16 = 0 ∨ (wHold [wCmd 0 0 0 [0#32]] : State).sq ((wCmd 0 0 0 [0#32] : Ctx).f 10 0 16) = none)) ∧
    ((wHold [wCmd 0 5 0 [0x000F0003#32, 0x00050003#32]] : State).alone (wCmd 0 5 0 [0x000F0003#32, 0x00050003#32] : Ctx) ∧ (wCmd 0 5 0 [0x000F0003#32, 0x00050003#32] : Ctx).admin = true ∧ (wCmd 0 5 0 [0x000F0003#32, 0x00050003#32] : Ctx).opc = 0x05 ∧ (wHold [wCmd 0 5 0 [0x000F0003#32, 0x00050003#32]] : State).fld aCC 16 4 = 6 ∧ (wHold [wCmd 0 5 0 [0x000F0003#32, 0x00050003#32]] : State).fld aCC 20 4 = 4 ∧ (wCmd 0 5 0 [0x000F0003#32, 0x00050003#32] : Ctx).f 10 0 16 ≠ 0 ∧ (wCmd 0 5 0 [0x000F0003#32, 0x00050003#32] : Ctx).f 10 0 16 ≤ 64 ∧ (wHold [wCmd 0 5 0 [0x000F0003#32, 0x00050003#32]] : State).cq ((wCmd 0 5 0 [0x000F0003#32, 0x00050003#32] : Ctx).f 10 0 16) = none ∧ 1 ≤ (wCmd 0 5 0 [0x000F0003#32, 0x00050003#32] : Ctx).f 10 16 16 ∧ (wCmd 0 5 0 [0x000F0003#32, 0x00050003#32] : Ctx).f 10 16 16 ≤ 4095 ∧ (wCmd 0 5 0 [0x000F0003#32, 0x00050003#32] : Ctx).f 11 0 1 = 1 ∧ (wCmd 0 5 0 [0x000F0003#32, 0x00050003#32] : Ctx).f 11 16 16 ≤ 64) ∧
    ((wHold [wCmd 0 5 0 [0x000F0003#32, 0x00410003#32]] : State).alone (wCmd 0 5 0 [0x000F0003#32, 0x00410003#32] : Ctx) ∧ (wCmd 0 5 0 [0x000F0003#32, 0x00410003#32] : Ctx).admin = true ∧ (wCmd 0 5 0 [0x000F0003#32, 0x00410003#32] : Ctx).opc = 0x05 ∧ (0x4108 : Nat) = (if (wHold [wCmd 0 5 0 [0x000F0003#32, 0x00410003#32]] : State).fld aCC 16 4 ≠ 6 ∨ (wHold [wCmd 0 5 0 [0x000F0003#32, 0x00410003#32]] : State).fld aCC 20 4 ≠ 4 then stField else if (wCmd 0 5 0 [0x000F0003#32, 0x00410003#32] : Ctx).f 10 0 16 = 0 ∨ 64 < (wCmd 0 5 0 [0x000F0003#32, 0x00410003#32] : Ctx).f 10 0 16 ∨ ((wHold [wCmd 0 5 0 [0x000F0003#32, 0x00410003#32]] : State).cq ((wCmd 0 5 0 [0x000F0003#32, 0x00410003#32] : Ctx).f 10 0 16)).isSome = true then 0x4101 else if (wCmd 0 5 0 [0x000F0003#32, 0x00410003#32] : Ctx).f 10 16 16 < 1 ∨ 4095 < (wCmd 0 5 0 [0x000F0003#32, 0x00410003#32] : Ctx).f 10 16 16 then 0x4102 else if (wCmd 0 5 0 [0x000F0003#32, 0x00410003#32] : Ctx).f 11 0 1 = 0 then stField else if 64 < (wCmd 0 5 0 [0x000F0003#32, 0x00410003#32] : Ctx).f 11 16 16 then 0x4108 else stOk) ∧ (0x4108 : Nat) ≠ stOk) ∧
    (((wHold [wCmd 0 1 0 [0x000F0003#32, 0x00030005#32]]).setHq { (wHold [wCmd 0 1 0 [0x000F0003#32, 0x00030005#32]]).hq with cqs := wReady.hq.cqs ++ [⟨3, 0x9000, 4, 0, true, true⟩] } : State).alone (wCmd 0 1 0 [0x000F0003#32, 0x00030005#32] : Ctx) ∧ (wCmd 0 1 0 [0x000F0003#32, 0x00030005#32] : Ctx).admin = true ∧ (wCmd 0 1 0 [0x000F0003#32, 0x00030005#32] : Ctx).opc = 0x01 ∧ ((wHold [wCmd 0 1 0 [0x000F0003#32, 0x00030005#32]]).setHq { (wHold [wCmd 0 1 0 [0x000F0003#32, 0x00030005#32]]).hq with cqs := wReady.hq.cqs ++ [⟨3, 0x9000, 4, 0, true, true⟩] } : State).fld aCC 16 4 = 6 ∧ ((wHold [wCmd 0 1 0 [0x000F0003#32, 0x00030005#32]]).setHq { (wHold [wCmd 0 1 0 [0x000F0003#32, 0x00030005#32]]).hq with cqs := wReady.hq.cqs ++ [⟨3, 0x9000, 4, 0, true, true⟩] } : State).fld aCC 20 4 = 4 ∧ (wCmd 0 1 0 [0x000F0003#32, 0x00030005#32] : Ctx).f 10 0 16 ≠ 0 ∧ (wCmd 0 1 0 [0x000F0003#32, 0x00030005#32] : Ctx).f 10 0 16 ≤ 64 ∧ ((wHold [wCmd 0 1 0 [0x000F0003#32, 0x00030005#32]]).setHq { (wHold [wCmd 0 1 0 [0x000F0003#32, 0x00030005#32]]).hq with cqs := wReady.hq.cqs ++ [⟨3, 0x9000, 4, 0, true, true⟩] } : State).sq ((wCmd 0 1 0 [0x000F0003#32, 0x00030005#32] : Ctx).f 10 0 16) = none ∧ 1 ≤ (wCmd 0 1 0 [0x000F0003#32, 0x00030005#32] : Ctx).f 10 16 16 ∧ (wCmd 0 1 0 [0x000F0003#32, 0x00030005#32] : Ctx).f 10 16 16 ≤ 4095 ∧ (wCmd 0 1 0 [0x000F0003#32, 0x00030005#32] : Ctx).f 11 0 1 = 1 ∧ (wCmd 0 1 0 [0x000F0003#32, 0x00030005#32] : Ctx).f 11 16 16 ≠ 0 ∧ (((wHold [wCmd 0 1 0 [0x000F0003#32, 0x00030005#32]]).setHq { (wHold [wCmd 0 1 0 [0x000F0003#32, 0x00030005#32]]).hq with cqs := wReady.hq.cqs ++ [⟨3, 0x9000, 4, 0, true, true⟩] } : State).cq ((wCmd 0 1 0 [0x000F0003#32, 0x00030005#32] : Ctx).f 11 16 16)).isSome = true) ∧
    ((wHold [wCmd 0 1 0 [0x000F0003#32, 0x00030001#32]] : State).alone (wCmd 0 1 0 [0x000F0003#32, 0x00030001#32] : Ctx) ∧ (wCmd 0 1 0 [0x000F0003#32, 0x00030001#32] : Ctx).admin = true ∧ (wCmd 0 1 0 [0x000F0003#32, 0x00030001#32] : Ctx).opc = 0x01 ∧ (0x4100 : Nat) = (if (wHold [wCmd 0 1 0 [0x000F0003#32, 0x00030001#32]] : State).fld aCC 16 4 ≠ 6 ∨ (wHold [wCmd 0 1 0 [0x000F0003#32, 0x00030001#32]] : State).fld aCC 20 4 ≠ 4 then stField else if (wCmd 0 1 0 [0x000F0003#32, 0x00030001#32] : Ctx).f 10 0 16 = 0 ∨ 64 < (wCmd 0 1 0 [0x000F0003#32, 0x00030001#32] : Ctx).f 10 0 16 ∨ ((wHold [wCmd 0 1 0 [0x000F0003#32, 0x00030001#32]] : State).sq ((wCmd 0 1 0 [0x000F0003#32, 0x00030001#32] : Ctx).f 10 0 16)).isSome = true then 0x4101 else if (wCmd 0 1 0 [0x000F0003#32, 0x00030001#32] : Ctx).f 10 16 16 < 1 ∨ 4095 < (wCmd 0 1 0 [0x000F0003#32, 0x00030001#32] : Ctx).f 10 16 16 then 0x4102 else if (wCmd 0 1 0 [0x000F0003#32, 0x00030001#32] : Ctx).f 11 0 1 = 0 then stField else if (wCmd 0 1 0 [0x000F0003#32, 0x00030001#32] : Ctx).f 11 16 16 = 0 ∨ ((wHold [wCmd 0 1 0 [0x000F0003#32, 0x00030001#32]] : State).cq ((wCmd 0 1 0 [0x000F0003#32, 0x00030001#32] : Ctx).f 11 16 16)).isNone = true then 0x4100 else stOk) ∧ (0x4100 : Nat) ≠ stOk) ∧
    (((wHold [wCmd 0 4 0 [3#32]]).setHq { (wHold [wCmd 0 4 0 [3#32]]).hq with cqs := wReady.hq.cqs ++ [⟨3, 0x9000, 4, 0, true, true⟩] } : State).alone (wCmd 0 4 0 [3#32] : Ctx) ∧ (wCmd 0 4 0 [3#32] : Ctx).admin = true ∧ (wCmd 0 4 0 [3#32] : Ctx).opc = 0x04 ∧ (wCmd 0 4 0 [3#32] : Ctx).f 10 0 16 ≠ 0 ∧ (((wHold [wCmd 0 4 0 [3#32]]).setHq { (wHold [wCmd 0 4 0 [3#32]]).hq with cqs := wReady.hq.cqs ++ [⟨3, 0x9000, 4, 0, true, true⟩] } : State).cq ((wCmd 0 4 0 [3#32] : Ctx).f 10 0 16)).isSome = true ∧ ((wHold [wCmd 0 4 0 [3#32]]).setHq { (wHold [wCmd 0 4 0 [3#32]]).hq with cqs := wReady.hq.cqs ++ [⟨3, 0x9000, 4, 0, true, true⟩] } : State).hq.sqs.any (fun q => q.cqid == (wCmd 0 4 0 [3#32] : Ctx).f 10 0 16) = false) ∧
    ((wHold [wCmd 0 4 0 [0#32]] : State).alone (wCmd 0 4 0 [0#32] : Ctx) ∧ (wCmd 0 4 0 [0#32] : Ctx).admin = true ∧ (wCmd 0 4 0 [0#32] : Ctx).opc = 0x04 ∧ ((wCmd 0 4 0 [0#32] : Ctx).f 10 0 16 = 0 ∨ (wHold [wCmd 0 4 0 [0#32]] : State).cq ((wCmd 0 4 0 [0#32] : Ctx).f 10 0 16) = none)) ∧
    (((wHold [wCmd 0 4 0 [3#32]]).setHq { (wHold [wCmd 0 4 0 [3#32]]).hq with cqs := wReady.hq.cqs ++ [⟨3, 0x9000, 4, 0, true, true⟩], sqs := wReady.hq.sqs ++ [⟨1, 0xA000, 4, 0, 3⟩] } : State).alone (wCmd 0 4 0 [3#32] : Ctx) ∧ (wCmd 0 4 0 [3#32] : Ctx).admin = true ∧ (wCmd 0 4 0 [3#32] : Ctx).opc = 0x04 ∧ ((wHold [wCmd 0 4 0 [3#32]]).setHq { (wHold [wCmd 0 4 0 [3#32]]).hq with cqs := wReady.hq.cqs ++ [⟨3, 0x9000, 4, 0, true, true⟩], sqs := wReady.hq.sqs ++ [⟨1, 0xA000, 4, 0, 3⟩] } : State).hq.sqs.any (fun q => q.cqid == (wCmd 0 4 0 [3#32] : Ctx).f 10 0 16) = true ∧ (wCmd 0 4 0 [3#32] : Ctx).f 10 0 16 ≠ 0 ∧ (((wHold [wCmd 0 4 0 [3#32]]).setHq { (wHold [wCmd 0 4 0 [3#32]]).hq with cqs := wReady.hq.cqs ++ [⟨3, 0x9000, 4, 0, true, true⟩], sqs := wReady.hq.sqs ++ [⟨1, 0xA000, 4, 0, 3⟩] } : State).cq ((wCmd 0 4 0 [3#32] : Ctx).f 10 0 16)).isSome = true) ∧
    ((wHold [wCmd 0 8 0 [0x00050000#32]] : State).alone (wCmd 0 8 0 [0x00050000#32] : Ctx) ∧ (wCmd 0 8 0 [0x00050000#32] : Ctx).admin = true ∧ (wCmd 0 8 0 [0x00050000#32] : Ctx).opc = 0x08) ∧
    (mounted (wHold [{ freshCtx 5 0 0 [0x0004000C#32] with phase := .running }, wCmd 0 8 0 [0x00040000#32]] : State) = false ∧ (wHold [{ freshCtx 5 0 0 [0x0004000C#32] with phase := .running }, wCmd 0 8 0 [0x00040000#32]] : State).xlt.jr.units = [] ∧ (wHold [{ freshCtx 5 0 0 [0x0004000C#32] with phase := .running }, wCmd 0 8 0 [0x00040000#32]] : State).hq.shut = 0 ∧ (wHold [{ freshCtx 5 0 0 [0x0004000C#32] with phase := .running }, wCmd 0 8 0 [0x00040000#32]] : State).hq.ctx = [({ freshCtx 5 0 0 [0x0004000C#32] with phase := .running } : Ctx), (wCmd 0 8 0 [0x00040000#32] : Ctx)] ∧ (wCmd 0 8 0 [0x00040000#32] : Ctx).phase = .accepted ∧ (wHold [{ freshCtx 5 0 0 [0x0004000C#32] with phase := .running }, wCmd 0 8 0 [0x00040000#32]] : State).boot.warm = false ∧ lgRuns (wHold [{ freshCtx 5 0 0 [0x0004000C#32] with phase := .running }, wCmd 0 8 0 [0x00040000#32]] : State) = false ∧ cfs (wHold [{ freshCtx 5 0 0 [0x0004000C#32] with phase := .running }, wCmd 0 8 0 [0x00040000#32]] : State) = false ∧ entryFault (wHold [{ freshCtx 5 0 0 [0x0004000C#32] with phase := .running }, wCmd 0 8 0 [0x00040000#32]] : State) (wCmd 0 8 0 [0x00040000#32] : Ctx) = none ∧ (wCmd 0 8 0 [0x00040000#32] : Ctx).admin = true ∧ (wCmd 0 8 0 [0x00040000#32] : Ctx).opc = 0x08 ∧ ({ freshCtx 5 0 0 [0x0004000C#32] with phase := .running } : Ctx).admin = true ∧ ({ freshCtx 5 0 0 [0x0004000C#32] with phase := .running } : Ctx).opc = 0x0C ∧ ({ freshCtx 5 0 0 [0x0004000C#32] with phase := .running } : Ctx).phase = .running ∧ ({ freshCtx 5 0 0 [0x0004000C#32] with phase := .running } : Ctx).pins = [] ∧ ({ freshCtx 5 0 0 [0x0004000C#32] with phase := .running } : Ctx).snap = none ∧ ({ freshCtx 5 0 0 [0x0004000C#32] with phase := .running } : Ctx).prpNext = none ∧ ({ freshCtx 5 0 0 [0x0004000C#32] with phase := .running } : Ctx).seq ≠ (wCmd 0 8 0 [0x00040000#32] : Ctx).seq ∧ ({ freshCtx 5 0 0 [0x0004000C#32] with phase := .running } : Ctx).cid ≠ (wCmd 0 8 0 [0x00040000#32] : Ctx).cid ∧ ({ freshCtx 5 0 0 [0x0004000C#32] with phase := .running } : Ctx).sqid = (wCmd 0 8 0 [0x00040000#32] : Ctx).f 10 0 16 ∧ ({ freshCtx 5 0 0 [0x0004000C#32] with phase := .running } : Ctx).cid = (wCmd 0 8 0 [0x00040000#32] : Ctx).f 10 16 16) ∧
    (mounted (wHold (List.replicate 16 { wCmd 0 8 0 [] with seq := 3 } ++ [wCmd 0 8 0 []]) : State) = false ∧ (wHold (List.replicate 16 { wCmd 0 8 0 [] with seq := 3 } ++ [wCmd 0 8 0 []]) : State).xlt.jr.units = [] ∧ (wHold (List.replicate 16 { wCmd 0 8 0 [] with seq := 3 } ++ [wCmd 0 8 0 []]) : State).hq.shut = 0 ∧ (wHold (List.replicate 16 { wCmd 0 8 0 [] with seq := 3 } ++ [wCmd 0 8 0 []]) : State).boot.warm = false ∧ lgRuns (wHold (List.replicate 16 { wCmd 0 8 0 [] with seq := 3 } ++ [wCmd 0 8 0 []]) : State) = false ∧ cfs (wHold (List.replicate 16 { wCmd 0 8 0 [] with seq := 3 } ++ [wCmd 0 8 0 []]) : State) = false ∧ (wHold (List.replicate 16 { wCmd 0 8 0 [] with seq := 3 } ++ [wCmd 0 8 0 []]) : State).hq.ctx = (List.replicate 16 { wCmd 0 8 0 [] with seq := 3 } : List Ctx) ++ [(wCmd 0 8 0 [] : Ctx)] ∧ (wCmd 0 8 0 [] : Ctx).phase = .accepted ∧ entryFault (wHold (List.replicate 16 { wCmd 0 8 0 [] with seq := 3 } ++ [wCmd 0 8 0 []]) : State) (wCmd 0 8 0 [] : Ctx) = none ∧ (wCmd 0 8 0 [] : Ctx).admin = true ∧ (wCmd 0 8 0 [] : Ctx).opc = 0x08 ∧ (List.replicate 16 { wCmd 0 8 0 [] with seq := 3 } : List Ctx).length = 16 ∧ (List.replicate 16 { wCmd 0 8 0 [] with seq := 3 } : List Ctx).all (fun d => d.admin && d.opc == 0x08 && d.phase == .accepted && d.seq != (wCmd 0 8 0 [] : Ctx).seq) = true) ∧
    ((wHold [wCmd 0 9 0 [4#32, 0x00110150#32]] : State).alone (wCmd 0 9 0 [4#32, 0x00110150#32] : Ctx) ∧ (wCmd 0 9 0 [4#32, 0x00110150#32] : Ctx).admin = true ∧ (wCmd 0 9 0 [4#32, 0x00110150#32] : Ctx).opc = 0x09 ∧ (wCmd 0 9 0 [4#32, 0x00110150#32] : Ctx).f 10 31 1 = 0 ∧ ((wCmd 0 9 0 [4#32, 0x00110150#32] : Ctx).f 10 0 8 = 1 ∨ (wCmd 0 9 0 [4#32, 0x00110150#32] : Ctx).f 10 0 8 = 4 ∨ (wCmd 0 9 0 [4#32, 0x00110150#32] : Ctx).f 10 0 8 = 8 ∨ (wCmd 0 9 0 [4#32, 0x00110150#32] : Ctx).f 10 0 8 = 9 ∨ (wCmd 0 9 0 [4#32, 0x00110150#32] : Ctx).f 10 0 8 = 11)) ∧
    ((wHold [wCmd 0 9 0 [15#32, 101#32]] : State).alone (wCmd 0 9 0 [15#32, 101#32] : Ctx) ∧ (wCmd 0 9 0 [15#32, 101#32] : Ctx).admin = true ∧ (wCmd 0 9 0 [15#32, 101#32] : Ctx).opc = 0x09 ∧ (wCmd 0 9 0 [15#32, 101#32] : Ctx).f 10 31 1 = 0 ∧ (wCmd 0 9 0 [15#32, 101#32] : Ctx).f 10 0 8 = 15) ∧
    ((wHold [wCmd 0 9 0 [7#32, 0x00010001#32]] : State).alone (wCmd 0 9 0 [7#32, 0x00010001#32] : Ctx) ∧ (wCmd 0 9 0 [7#32, 0x00010001#32] : Ctx).admin = true ∧ (wCmd 0 9 0 [7#32, 0x00010001#32] : Ctx).opc = 0x09 ∧ (wCmd 0 9 0 [7#32, 0x00010001#32] : Ctx).f 10 31 1 = 0 ∧ (wCmd 0 9 0 [7#32, 0x00010001#32] : Ctx).f 10 0 8 = 7 ∧ (wHold [wCmd 0 9 0 [7#32, 0x00010001#32]] : State).hq.ioMade = false) ∧
    (((wHold [wCmd 0 9 0 [7#32, 0x00010001#32]]).setHq { (wHold [wCmd 0 9 0 [7#32, 0x00010001#32]]).hq with ioMade := true } : State).alone (wCmd 0 9 0 [7#32, 0x00010001#32] : Ctx) ∧ (wCmd 0 9 0 [7#32, 0x00010001#32] : Ctx).admin = true ∧ (wCmd 0 9 0 [7#32, 0x00010001#32] : Ctx).opc = 0x09 ∧ (wCmd 0 9 0 [7#32, 0x00010001#32] : Ctx).f 10 31 1 = 0 ∧ (wCmd 0 9 0 [7#32, 0x00010001#32] : Ctx).f 10 0 8 = 7 ∧ ((wHold [wCmd 0 9 0 [7#32, 0x00010001#32]]).setHq { (wHold [wCmd 0 9 0 [7#32, 0x00010001#32]]).hq with ioMade := true } : State).hq.ioMade = true) ∧
    ((wHold [wCmd 0 9 0 [2#32, 1#32]] : State).alone (wCmd 0 9 0 [2#32, 1#32] : Ctx) ∧ (wCmd 0 9 0 [2#32, 1#32] : Ctx).admin = true ∧ (wCmd 0 9 0 [2#32, 1#32] : Ctx).opc = 0x09 ∧ (wCmd 0 9 0 [2#32, 1#32] : Ctx).f 10 31 1 = 0 ∧ (wCmd 0 9 0 [2#32, 1#32] : Ctx).f 10 0 8 = 2 ∧ (wCmd 0 9 0 [2#32, 1#32] : Ctx).f 11 0 5 ≤ 1 ∧ (wHold [wCmd 0 9 0 [2#32, 1#32]] : State).bit Reg.HQ_PS 8 = false) ∧
    ((wHold [wCmd 0 9 0 [2#32, 4#32]] : State).alone (wCmd 0 9 0 [2#32, 4#32] : Ctx) ∧ (wCmd 0 9 0 [2#32, 4#32] : Ctx).admin = true ∧ (wCmd 0 9 0 [2#32, 4#32] : Ctx).opc = 0x09 ∧ (wCmd 0 9 0 [2#32, 4#32] : Ctx).f 10 31 1 = 0 ∧ (wCmd 0 9 0 [2#32, 4#32] : Ctx).f 10 0 8 = 2 ∧ 2 ≤ (wCmd 0 9 0 [2#32, 4#32] : Ctx).f 11 0 5 ∧ (wCmd 0 9 0 [2#32, 4#32] : Ctx).f 11 0 5 ≤ 4 ∧ (wHold [wCmd 0 9 0 [2#32, 4#32]] : State).bit Reg.HQ_PS 8 = false) ∧
    (((wHold [wCmd 0 9 0 [2#32, 1#32]]).setBit Reg.HQ_PS 8 true : State).alone (wCmd 0 9 0 [2#32, 1#32] : Ctx) ∧ (wCmd 0 9 0 [2#32, 1#32] : Ctx).admin = true ∧ (wCmd 0 9 0 [2#32, 1#32] : Ctx).opc = 0x09 ∧ (wCmd 0 9 0 [2#32, 1#32] : Ctx).f 10 31 1 = 0 ∧ (wCmd 0 9 0 [2#32, 1#32] : Ctx).f 10 0 8 = 2 ∧ (wCmd 0 9 0 [2#32, 1#32] : Ctx).f 11 0 5 ≤ 4 ∧ ((wHold [wCmd 0 9 0 [2#32, 1#32]]).setBit Reg.HQ_PS 8 true : State).bit Reg.HQ_PS 8 = true) ∧
    ((wHold [wCmd 0 9 0 [2#32, 5#32]] : State).alone (wCmd 0 9 0 [2#32, 5#32] : Ctx) ∧ (wCmd 0 9 0 [2#32, 5#32] : Ctx).admin = true ∧ (wCmd 0 9 0 [2#32, 5#32] : Ctx).opc = 0x09 ∧ (wCmd 0 9 0 [2#32, 5#32] : Ctx).f 10 31 1 = 0 ∧ (featKnown ((wCmd 0 9 0 [2#32, 5#32] : Ctx).f 10 0 8) = false ∨ (wCmd 0 9 0 [2#32, 5#32] : Ctx).f 10 0 8 = 2 ∧ 4 < (wCmd 0 9 0 [2#32, 5#32] : Ctx).f 11 0 5)) ∧
    ((wHold [wCmd 0 9 0 [0x80000004#32]] : State).alone (wCmd 0 9 0 [0x80000004#32] : Ctx) ∧ (wCmd 0 9 0 [0x80000004#32] : Ctx).admin = true ∧ (wCmd 0 9 0 [0x80000004#32] : Ctx).opc = 0x09 ∧ (wCmd 0 9 0 [0x80000004#32] : Ctx).f 10 31 1 = 1) ∧
    ((wHold [wCmd 0 9 0 [12#32, 1#32]] : State).alone (wCmd 0 9 0 [12#32, 1#32] : Ctx) ∧ (wCmd 0 9 0 [12#32, 1#32] : Ctx).admin = true ∧ (wCmd 0 9 0 [12#32, 1#32] : Ctx).opc = 0x09 ∧ (wHold [wCmd 0 9 0 [12#32, 1#32]] : State).readyAs (wCmd 0 9 0 [12#32, 1#32] : Ctx) (wRunCtx (wCmd 0 9 0 [12#32, 1#32]) [0x8000] : Ctx) ∧ (wRunCtx (wCmd 0 9 0 [12#32, 1#32]) [0x8000] : Ctx).step = 0 ∧ (wCmd 0 9 0 [12#32, 1#32] : Ctx).f 10 31 1 = 0 ∧ (wCmd 0 9 0 [12#32, 1#32] : Ctx).f 10 0 8 = 12) ∧
    (mounted (wHold [{ wRunCtx (wCmd 0 9 0 [12#32, 1#32]) [0x8000] with step := 1, buf := [(0, List.replicate 256 8)] }] : State) = false ∧ (wHold [{ wRunCtx (wCmd 0 9 0 [12#32, 1#32]) [0x8000] with step := 1, buf := [(0, List.replicate 256 8)] }] : State).xlt.jr.units = [] ∧ (wHold [{ wRunCtx (wCmd 0 9 0 [12#32, 1#32]) [0x8000] with step := 1, buf := [(0, List.replicate 256 8)] }] : State).hq.shut = 0 ∧ (wHold [{ wRunCtx (wCmd 0 9 0 [12#32, 1#32]) [0x8000] with step := 1, buf := [(0, List.replicate 256 8)] }] : State).boot.warm = false ∧ lgRuns (wHold [{ wRunCtx (wCmd 0 9 0 [12#32, 1#32]) [0x8000] with step := 1, buf := [(0, List.replicate 256 8)] }] : State) = false ∧ cfs (wHold [{ wRunCtx (wCmd 0 9 0 [12#32, 1#32]) [0x8000] with step := 1, buf := [(0, List.replicate 256 8)] }] : State) = false ∧ (wHold [{ wRunCtx (wCmd 0 9 0 [12#32, 1#32]) [0x8000] with step := 1, buf := [(0, List.replicate 256 8)] }] : State).hq.ctx = [({ wRunCtx (wCmd 0 9 0 [12#32, 1#32]) [0x8000] with step := 1, buf := [(0, List.replicate 256 8)] } : Ctx)] ∧ ({ wRunCtx (wCmd 0 9 0 [12#32, 1#32]) [0x8000] with step := 1, buf := [(0, List.replicate 256 8)] } : Ctx).phase = .running ∧ prpReady ({ wRunCtx (wCmd 0 9 0 [12#32, 1#32]) [0x8000] with step := 1, buf := [(0, List.replicate 256 8)] } : Ctx) = true ∧ ({ wRunCtx (wCmd 0 9 0 [12#32, 1#32]) [0x8000] with step := 1, buf := [(0, List.replicate 256 8)] } : Ctx).admin = true ∧ ({ wRunCtx (wCmd 0 9 0 [12#32, 1#32]) [0x8000] with step := 1, buf := [(0, List.replicate 256 8)] } : Ctx).opc = 0x09 ∧ ({ wRunCtx (wCmd 0 9 0 [12#32, 1#32]) [0x8000] with step := 1, buf := [(0, List.replicate 256 8)] } : Ctx).step = 1 ∧ awaits (wHold [{ wRunCtx (wCmd 0 9 0 [12#32, 1#32]) [0x8000] with step := 1, buf := [(0, List.replicate 256 8)] }] : State) (.data ({ wRunCtx (wCmd 0 9 0 [12#32, 1#32]) [0x8000] with step := 1, buf := [(0, List.replicate 256 8)] } : Ctx).seq) = false ∧ ({ wRunCtx (wCmd 0 9 0 [12#32, 1#32]) [0x8000] with step := 1, buf := [(0, List.replicate 256 8)] } : Ctx).f 10 31 1 = 0 ∧ ({ wRunCtx (wCmd 0 9 0 [12#32, 1#32]) [0x8000] with step := 1, buf := [(0, List.replicate 256 8)] } : Ctx).f 10 0 8 = 12) ∧
    ((wHold [wCmd 0 0x0A 0 [7#32]] : State).alone (wCmd 0 0x0A 0 [7#32] : Ctx) ∧ (wCmd 0 0x0A 0 [7#32] : Ctx).admin = true ∧ (wCmd 0 0x0A 0 [7#32] : Ctx).opc = 0x0A ∧ ((wCmd 0 0x0A 0 [7#32] : Ctx).f 10 0 8 = 1 ∨ (wCmd 0 0x0A 0 [7#32] : Ctx).f 10 0 8 = 4 ∨ (wCmd 0 0x0A 0 [7#32] : Ctx).f 10 0 8 = 7 ∨ (wCmd 0 0x0A 0 [7#32] : Ctx).f 10 0 8 = 8 ∨ (wCmd 0 0x0A 0 [7#32] : Ctx).f 10 0 8 = 9 ∨ (wCmd 0 0x0A 0 [7#32] : Ctx).f 10 0 8 = 11 ∨ (wCmd 0 0x0A 0 [7#32] : Ctx).f 10 0 8 = 15)) ∧
    ((wHold [wCmd 0 0x0A 0 [12#32]] : State).alone (wCmd 0 0x0A 0 [12#32] : Ctx) ∧ (wCmd 0 0x0A 0 [12#32] : Ctx).admin = true ∧ (wCmd 0 0x0A 0 [12#32] : Ctx).opc = 0x0A ∧ (wHold [wCmd 0 0x0A 0 [12#32]] : State).readyAs (wCmd 0 0x0A 0 [12#32] : Ctx) (wRunCtx (wCmd 0 0x0A 0 [12#32]) [0x8000] : Ctx) ∧ mayIssue (wHold [wCmd 0 0x0A 0 [12#32]] : State) = true ∧ (wCmd 0 0x0A 0 [12#32] : Ctx).f 10 0 8 = 12) ∧
    ((wHold [wCmd 0 0x0A 0 [2#32]] : State).alone (wCmd 0 0x0A 0 [2#32] : Ctx) ∧ (wCmd 0 0x0A 0 [2#32] : Ctx).admin = true ∧ (wCmd 0 0x0A 0 [2#32] : Ctx).opc = 0x0A ∧ (wCmd 0 0x0A 0 [2#32] : Ctx).f 10 0 8 = 2) ∧
    ((wHold [wCmd 0 0x0A 0 [3#32]] : State).alone (wCmd 0 0x0A 0 [3#32] : Ctx) ∧ (wCmd 0 0x0A 0 [3#32] : Ctx).admin = true ∧ (wCmd 0 0x0A 0 [3#32] : Ctx).opc = 0x0A ∧ featKnown ((wCmd 0 0x0A 0 [3#32] : Ctx).f 10 0 8) = false) ∧
    ((wHold [wCmd 0 0x0C 0 []] : State).alone (wCmd 0 0x0C 0 [] : Ctx) ∧ (wCmd 0 0x0C 0 [] : Ctx).admin = true ∧ (wCmd 0 0x0C 0 [] : Ctx).opc = 0x0C ∧ (wHold [wCmd 0 0x0C 0 []] : State).hq.waiting = []) ∧
    ((setWaiting (wHold [wCmd 0 0x0C 0 []]) [1024] : State).alone (wCmd 0 0x0C 0 [] : Ctx) ∧ (wCmd 0 0x0C 0 [] : Ctx).admin = true ∧ (wCmd 0 0x0C 0 [] : Ctx).opc = 0x0C ∧ (setWaiting (wHold [wCmd 0 0x0C 0 []]) [1024] : State).hq.waiting = (1024 : Nat) :: ([] : List Nat)) ∧
    (mounted (wHold (List.replicate 8 { wRunCtx (wCmd 0 0x0C 0 []) [] with seq := 3 } ++ [wCmd 0 0x0C 0 []]) : State) = false ∧ (wHold (List.replicate 8 { wRunCtx (wCmd 0 0x0C 0 []) [] with seq := 3 } ++ [wCmd 0 0x0C 0 []]) : State).xlt.jr.units = [] ∧ (wHold (List.replicate 8 { wRunCtx (wCmd 0 0x0C 0 []) [] with seq := 3 } ++ [wCmd 0 0x0C 0 []]) : State).hq.shut = 0 ∧ (wHold (List.replicate 8 { wRunCtx (wCmd 0 0x0C 0 []) [] with seq := 3 } ++ [wCmd 0 0x0C 0 []]) : State).boot.warm = false ∧ lgRuns (wHold (List.replicate 8 { wRunCtx (wCmd 0 0x0C 0 []) [] with seq := 3 } ++ [wCmd 0 0x0C 0 []]) : State) = false ∧ cfs (wHold (List.replicate 8 { wRunCtx (wCmd 0 0x0C 0 []) [] with seq := 3 } ++ [wCmd 0 0x0C 0 []]) : State) = false ∧ (wHold (List.replicate 8 { wRunCtx (wCmd 0 0x0C 0 []) [] with seq := 3 } ++ [wCmd 0 0x0C 0 []]) : State).hq.ctx = (List.replicate 8 { wRunCtx (wCmd 0 0x0C 0 []) [] with seq := 3 } : List Ctx) ++ [(wCmd 0 0x0C 0 [] : Ctx)] ∧ (wCmd 0 0x0C 0 [] : Ctx).phase = .accepted ∧ entryFault (wHold (List.replicate 8 { wRunCtx (wCmd 0 0x0C 0 []) [] with seq := 3 } ++ [wCmd 0 0x0C 0 []]) : State) (wCmd 0 0x0C 0 [] : Ctx) = none ∧ (wCmd 0 0x0C 0 [] : Ctx).admin = true ∧ (wCmd 0 0x0C 0 [] : Ctx).opc = 0x0C ∧ (List.replicate 8 { wRunCtx (wCmd 0 0x0C 0 []) [] with seq := 3 } : List Ctx).length = 8 ∧ (List.replicate 8 { wRunCtx (wCmd 0 0x0C 0 []) [] with seq := 3 } : List Ctx).all (fun d => d.admin && d.opc == 0x0C && d.phase == .running && d.prpNext.isNone && d.seq != (wCmd 0 0x0C 0 [] : Ctx).seq) = true) ∧
    ((wHold [wCmd 0 0x18 0 []] : State).alone (wCmd 0 0x18 0 [] : Ctx) ∧ (wCmd 0 0x18 0 [] : Ctx).admin = true ∧ (wCmd 0 0x18 0 [] : Ctx).opc = 0x18) ∧
    (mounted (wHold [wCmd 0 8 0 [0#32, 1#32]] : State) = false ∧ (wHold [wCmd 0 8 0 [0#32, 1#32]] : State).xlt.jr.units = [] ∧ (wHold [wCmd 0 8 0 [0#32, 1#32]] : State).hq.shut = 0 ∧ (wHold [wCmd 0 8 0 [0#32, 1#32]] : State).boot.warm = false ∧ lgRuns (wHold [wCmd 0 8 0 [0#32, 1#32]] : State) = false ∧ cfs (wHold [wCmd 0 8 0 [0#32, 1#32]] : State) = false ∧ (wHold [wCmd 0 8 0 [0#32, 1#32]] : State).hq.ctx = [(wCmd 0 8 0 [0#32, 1#32] : Ctx)] ∧ (wCmd 0 8 0 [0#32, 1#32] : Ctx).phase = .accepted ∧ entryFault (wHold [wCmd 0 8 0 [0#32, 1#32]] : State) (wCmd 0 8 0 [0#32, 1#32] : Ctx) = some (stField : Nat) ∧ (cmdKey (wCmd 0 8 0 [0#32, 1#32] : Ctx), (.cmdAbort 9 : Instr)) ∈ cmdRows (wCmd 0 8 0 [0#32, 1#32] : Ctx).seq (none : Option LoadIn)) ∧
    ((wHold [wCmd 0 8 5 []] : State).wf = true ∧ ((.cmdFlush 9 : Instr) ∈ (cmdRows (9 : Nat) (none : Option LoadIn)).map Prod.snd ∧ ((wHold [wCmd 0 8 5 []] : State).ctx (9 : Nat)).all (fun c => (c.phase != .accepted && c.phase != .running) || heldUp (wHold [wCmd 0 8 5 []] : State) || !(cmdRows (9 : Nat) (none : Option LoadIn)).contains (cmdKey c, (.cmdFlush 9 : Instr))) = true)) := by
  refine ⟨?_, ?_, ?_, ?_, ?_, ?_, ?_, ?_, ?_, ?_, ?_, ?_, ?_, ?_, ?_, ?_, ?_, ?_, ?_, ?_, ?_, ?_, ?_, ?_, ?_, ?_, ?_, ?_, ?_, ?_, ?_, ?_, ?_⟩ <;> decide +kernel

/-- The hypotheses of Obligations.AdminDataCommands can be met, clause by clause. -/
theorem witness_AdminDataCommands :
    ((wHold [wCmd 0 6 0 [1#32]] : State).alone (wCmd 0 6 0 [1#32] : Ctx) ∧ (wCmd 0 6 0 [1#32] : Ctx).admin = true ∧ (wCmd 0 6 0 [1#32] : Ctx).opc = 0x06 ∧ (wHold [wCmd 0 6 0 [1#32]] : State).readyAs (wCmd 0 6 0 [1#32] : Ctx) (wRunCtx (wCmd 0 6 0 [1#32]) [0x8000] : Ctx) ∧ mayIssue (wHold [wCmd 0 6 0 [1#32]] : State) = true ∧ (identify ((wHold [wCmd 0 6 0 [1#32]] : State).taken (wCmd 0 6 0 [1#32] : Ctx)) (wRunCtx (wCmd 0 6 0 [1#32]) [0x8000] : Ctx)).toOption = some (identifyController (wHold [wCmd 0 6 0 [1#32]]) : List Nat)) ∧
    ((wHold [wCmd 0 6 0 [9#32]] : State).alone (wCmd 0 6 0 [9#32] : Ctx) ∧ (wCmd 0 6 0 [9#32] : Ctx).admin = true ∧ (wCmd 0 6 0 [9#32] : Ctx).opc = 0x06 ∧ (wHold [wCmd 0 6 0 [9#32]] : State).readyAs (wCmd 0 6 0 [9#32] : Ctx) (wRunCtx (wCmd 0 6 0 [9#32]) [0x8000] : Ctx) ∧ errorOf (identify ((wHold [wCmd 0 6 0 [9#32]] : State).taken (wCmd 0 6 0 [9#32] : Ctx)) (wRunCtx (wCmd 0 6 0 [9#32]) [0x8000] : Ctx)) = some (stField : Nat)) ∧
    ((wHold [wCmd 0 2 0 [0x001F0005#32]] : State).alone (wCmd 0 2 0 [0x001F0005#32] : Ctx) ∧ (wCmd 0 2 0 [0x001F0005#32] : Ctx).admin = true ∧ (wCmd 0 2 0 [0x001F0005#32] : Ctx).opc = 0x02 ∧ (wHold [wCmd 0 2 0 [0x001F0005#32]] : State).readyAs (wCmd 0 2 0 [0x001F0005#32] : Ctx) (wRunCtx (wCmd 0 2 0 [0x001F0005#32]) [0x8000] : Ctx) ∧ mayIssue (wHold [wCmd 0 2 0 [0x001F0005#32]] : State) = true ∧ (logPage ((wHold [wCmd 0 2 0 [0x001F0005#32]] : State).taken (wCmd 0 2 0 [0x001F0005#32] : Ctx)) (wRunCtx (wCmd 0 2 0 [0x001F0005#32]) [0x8000] : Ctx)).toOption = some ((supportedPage.take 128 : List Nat), ((wHold [wCmd 0 2 0 [0x001F0005#32]]).taken (wCmd 0 2 0 [0x001F0005#32]) : State))) ∧
    ((wHold [wCmd 0 2 0 [0x001F0009#32]] : State).alone (wCmd 0 2 0 [0x001F0009#32] : Ctx) ∧ (wCmd 0 2 0 [0x001F0009#32] : Ctx).admin = true ∧ (wCmd 0 2 0 [0x001F0009#32] : Ctx).opc = 0x02 ∧ (wHold [wCmd 0 2 0 [0x001F0009#32]] : State).readyAs (wCmd 0 2 0 [0x001F0009#32] : Ctx) (wRunCtx (wCmd 0 2 0 [0x001F0009#32]) [0x8000] : Ctx) ∧ errorOf (logPage ((wHold [wCmd 0 2 0 [0x001F0009#32]] : State).taken (wCmd 0 2 0 [0x001F0009#32] : Ctx)) (wRunCtx (wCmd 0 2 0 [0x001F0009#32]) [0x8000] : Ctx)) = some (0x4109 : Nat)) ∧
    ((wHold [wCmd 0 0xC2 0 [1023#32]] : State).alone (wCmd 0 0xC2 0 [1023#32] : Ctx) ∧ (wCmd 0 0xC2 0 [1023#32] : Ctx).admin = true ∧ (wCmd 0 0xC2 0 [1023#32] : Ctx).opc = 0xC2 ∧ (wHold [wCmd 0 0xC2 0 [1023#32]] : State).readyAs (wCmd 0 0xC2 0 [1023#32] : Ctx) (wRunCtx (wCmd 0 0xC2 0 [1023#32]) [0x8000] : Ctx) ∧ mayIssue (wHold [wCmd 0 0xC2 0 [1023#32]] : State) = true ∧ ((wCmd 0 0xC2 0 [1023#32] : Ctx).dw 10).toNat = 1023) ∧
    ((wHold [wCmd 0 0xC2 0 [1024#32]] : State).alone (wCmd 0 0xC2 0 [1024#32] : Ctx) ∧ (wCmd 0 0xC2 0 [1024#32] : Ctx).admin = true ∧ (wCmd 0 0xC2 0 [1024#32] : Ctx).opc = 0xC2 ∧ (wHold [wCmd 0 0xC2 0 [1024#32]] : State).readyAs (wCmd 0 0xC2 0 [1024#32] : Ctx) (wRunCtx (wCmd 0 0xC2 0 [1024#32]) [0x8000] : Ctx) ∧ ((wCmd 0 0xC2 0 [1024#32] : Ctx).dw 10).toNat ≠ 1023) ∧
    ((wHold [wCmd 0 0x11 0 [1023#32, 0#32]] : State).alone (wCmd 0 0x11 0 [1023#32, 0#32] : Ctx) ∧ (wCmd 0 0x11 0 [1023#32, 0#32] : Ctx).admin = true ∧ (wCmd 0 0x11 0 [1023#32, 0#32] : Ctx).opc = 0x11 ∧ (wHold [wCmd 0 0x11 0 [1023#32, 0#32]] : State).readyAs (wCmd 0 0x11 0 [1023#32, 0#32] : Ctx) (wRunCtx (wCmd 0 0x11 0 [1023#32, 0#32]) [0x8000] : Ctx) ∧ 4 * ((wCmd 0 0x11 0 [1023#32, 0#32] : Ctx).dw 11).toNat % 4096 = 0 ∧ dataBytes (wCmd 0 0x11 0 [1023#32, 0#32] : Ctx) % 4096 = 0 ∧ 4 * ((wCmd 0 0x11 0 [1023#32, 0#32] : Ctx).dw 11).toNat + dataBytes (wCmd 0 0x11 0 [1023#32, 0#32] : Ctx) ≤ 0x300000 ∧ (wRunCtx (wCmd 0 0x11 0 [1023#32, 0#32]) [0x8000] : Ctx).step = 0) ∧
    ((wHold [wCmd 0 0x11 0 [1023#32, 0xC0000#32]] : State).alone (wCmd 0 0x11 0 [1023#32, 0xC0000#32] : Ctx) ∧ (wCmd 0 0x11 0 [1023#32, 0xC0000#32] : Ctx).admin = true ∧ (wCmd 0 0x11 0 [1023#32, 0xC0000#32] : Ctx).opc = 0x11 ∧ (wHold [wCmd 0 0x11 0 [1023#32, 0xC0000#32]] : State).readyAs (wCmd 0 0x11 0 [1023#32, 0xC0000#32] : Ctx) (wRunCtx (wCmd 0 0x11 0 [1023#32, 0xC0000#32]) [0x8000] : Ctx) ∧ (4 * ((wCmd 0 0x11 0 [1023#32, 0xC0000#32] : Ctx).dw 11).toNat % 4096 ≠ 0 ∨ dataBytes (wCmd 0 0x11 0 [1023#32, 0xC0000#32] : Ctx) % 4096 ≠ 0 ∨ 0x300000 < 4 * ((wCmd 0 0x11 0 [1023#32, 0xC0000#32] : Ctx).dw 11).toNat + dataBytes (wCmd 0 0x11 0 [1023#32, 0xC0000#32] : Ctx))) ∧
    (mounted (wHold [{ wRunCtx (wCmd 0 0x11 0 [1023#32, 0#32]) [0x8000] with step := 1, buf := [(0, [8, 8, 8, 8])] }] : State) = false ∧ (wHold [{ wRunCtx (wCmd 0 0x11 0 [1023#32, 0#32]) [0x8000] with step := 1, buf := [(0, [8, 8, 8, 8])] }] : State).xlt.jr.units = [] ∧ (wHold [{ wRunCtx (wCmd 0 0x11 0 [1023#32, 0#32]) [0x8000] with step := 1, buf := [(0, [8, 8, 8, 8])] }] : State).hq.shut = 0 ∧ (wHold [{ wRunCtx (wCmd 0 0x11 0 [1023#32, 0#32]) [0x8000] with step := 1, buf := [(0, [8, 8, 8, 8])] }] : State).boot.warm = false ∧ lgRuns (wHold [{ wRunCtx (wCmd 0 0x11 0 [1023#32, 0#32]) [0x8000] with step := 1, buf := [(0, [8, 8, 8, 8])] }] : State) = false ∧ cfs (wHold [{ wRunCtx (wCmd 0 0x11 0 [1023#32, 0#32]) [0x8000] with step := 1, buf := [(0, [8, 8, 8, 8])] }] : State) = false ∧ (wHold [{ wRunCtx (wCmd 0 0x11 0 [1023#32, 0#32]) [0x8000] with step := 1, buf := [(0, [8, 8, 8, 8])] }] : State).hq.ctx = [({ wRunCtx (wCmd 0 0x11 0 [1023#32, 0#32]) [0x8000] with step := 1, buf := [(0, [8, 8, 8, 8])] } : Ctx)] ∧ ({ wRunCtx (wCmd 0 0x11 0 [1023#32, 0#32]) [0x8000] with step := 1, buf := [(0, [8, 8, 8, 8])] } : Ctx).phase = .running ∧ prpReady ({ wRunCtx (wCmd 0 0x11 0 [1023#32, 0#32]) [0x8000] with step := 1, buf := [(0, [8, 8, 8, 8])] } : Ctx) = true ∧ ({ wRunCtx (wCmd 0 0x11 0 [1023#32, 0#32]) [0x8000] with step := 1, buf := [(0, [8, 8, 8, 8])] } : Ctx).admin = true ∧ ({ wRunCtx (wCmd 0 0x11 0 [1023#32, 0#32]) [0x8000] with step := 1, buf := [(0, [8, 8, 8, 8])] } : Ctx).opc = 0x11 ∧ ({ wRunCtx (wCmd 0 0x11 0 [1023#32, 0#32]) [0x8000] with step := 1, buf := [(0, [8, 8, 8, 8])] } : Ctx).step = 1 ∧ awaits (wHold [{ wRunCtx (wCmd 0 0x11 0 [1023#32, 0#32]) [0x8000] with step := 1, buf := [(0, [8, 8, 8, 8])] }] : State) (.data ({ wRunCtx (wCmd 0 0x11 0 [1023#32, 0#32]) [0x8000] with step := 1, buf := [(0, [8, 8, 8, 8])] } : Ctx).seq) = false ∧ 4 * (({ wRunCtx (wCmd 0 0x11 0 [1023#32, 0#32]) [0x8000] with step := 1, buf := [(0, [8, 8, 8, 8])] } : Ctx).dw 11).toNat % 4096 = 0 ∧ dataBytes ({ wRunCtx (wCmd 0 0x11 0 [1023#32, 0#32]) [0x8000] with step := 1, buf := [(0, [8, 8, 8, 8])] } : Ctx) % 4096 = 0 ∧ 4 * (({ wRunCtx (wCmd 0 0x11 0 [1023#32, 0#32]) [0x8000] with step := 1, buf := [(0, [8, 8, 8, 8])] } : Ctx).dw 11).toNat + dataBytes ({ wRunCtx (wCmd 0 0x11 0 [1023#32, 0#32]) [0x8000] with step := 1, buf := [(0, [8, 8, 8, 8])] } : Ctx) ≤ 0x300000) ∧
    (mounted (wHold [{ wRunCtx (wCmd 0 0x11 0 [1023#32, 0#32]) [0x8000] with step := 2, buf := [] }] : State) = false ∧ (wHold [{ wRunCtx (wCmd 0 0x11 0 [1023#32, 0#32]) [0x8000] with step := 2, buf := [] }] : State).xlt.jr.units = [] ∧ (wHold [{ wRunCtx (wCmd 0 0x11 0 [1023#32, 0#32]) [0x8000] with step := 2, buf := [] }] : State).hq.shut = 0 ∧ (wHold [{ wRunCtx (wCmd 0 0x11 0 [1023#32, 0#32]) [0x8000] with step := 2, buf := [] }] : State).boot.warm = false ∧ lgRuns (wHold [{ wRunCtx (wCmd 0 0x11 0 [1023#32, 0#32]) [0x8000] with step := 2, buf := [] }] : State) = false ∧ cfs (wHold [{ wRunCtx (wCmd 0 0x11 0 [1023#32, 0#32]) [0x8000] with step := 2, buf := [] }] : State) = false ∧ (wHold [{ wRunCtx (wCmd 0 0x11 0 [1023#32, 0#32]) [0x8000] with step := 2, buf := [] }] : State).hq.ctx = [({ wRunCtx (wCmd 0 0x11 0 [1023#32, 0#32]) [0x8000] with step := 2, buf := [] } : Ctx)] ∧ ({ wRunCtx (wCmd 0 0x11 0 [1023#32, 0#32]) [0x8000] with step := 2, buf := [] } : Ctx).phase = .running ∧ prpReady ({ wRunCtx (wCmd 0 0x11 0 [1023#32, 0#32]) [0x8000] with step := 2, buf := [] } : Ctx) = true ∧ ({ wRunCtx (wCmd 0 0x11 0 [1023#32, 0#32]) [0x8000] with step := 2, buf := [] } : Ctx).admin = true ∧ ({ wRunCtx (wCmd 0 0x11 0 [1023#32, 0#32]) [0x8000] with step := 2, buf := [] } : Ctx).opc = 0x11 ∧ ({ wRunCtx (wCmd 0 0x11 0 [1023#32, 0#32]) [0x8000] with step := 2, buf := [] } : Ctx).step = 2 ∧ flcOutstanding (wHold [{ wRunCtx (wCmd 0 0x11 0 [1023#32, 0#32]) [0x8000] with step := 2, buf := [] }] : State) 0 (· == fwTag ({ wRunCtx (wCmd 0 0x11 0 [1023#32, 0#32]) [0x8000] with step := 2, buf := [] } : Ctx).seq) = false ∧ 4 * (({ wRunCtx (wCmd 0 0x11 0 [1023#32, 0#32]) [0x8000] with step := 2, buf := [] } : Ctx).dw 11).toNat % 4096 = 0 ∧ dataBytes ({ wRunCtx (wCmd 0 0x11 0 [1023#32, 0#32]) [0x8000] with step := 2, buf := [] } : Ctx) % 4096 = 0 ∧ 4 * (({ wRunCtx (wCmd 0 0x11 0 [1023#32, 0#32]) [0x8000] with step := 2, buf := [] } : Ctx).dw 11).toNat + dataBytes ({ wRunCtx (wCmd 0 0x11 0 [1023#32, 0#32]) [0x8000] with step := 2, buf := [] } : Ctx) ≤ 0x300000) ∧
    ((wHold [wCmd 0 0x10 0 [0x1A#32]] : State).alone (wCmd 0 0x10 0 [0x1A#32] : Ctx) ∧ (wCmd 0 0x10 0 [0x1A#32] : Ctx).admin = true ∧ (wCmd 0 0x10 0 [0x1A#32] : Ctx).opc = 0x10 ∧ (wCmd 0 0x10 0 [0x1A#32] : Ctx).step = 0 ∧ 3 ≤ (wCmd 0 0x10 0 [0x1A#32] : Ctx).f 10 3 3) ∧
    ((wHold [wCmd 0 0x10 0 [0x0B#32]] : State).alone (wCmd 0 0x10 0 [0x0B#32] : Ctx) ∧ (wCmd 0 0x10 0 [0x0B#32] : Ctx).admin = true ∧ (wCmd 0 0x10 0 [0x0B#32] : Ctx).opc = 0x10 ∧ (wCmd 0 0x10 0 [0x0B#32] : Ctx).step = 0 ∧ (wCmd 0 0x10 0 [0x0B#32] : Ctx).f 10 3 3 ≤ 2 ∧ (2 : Nat) = (if (wCmd 0 0x10 0 [0x0B#32] : Ctx).f 10 0 3 = 0 then 1 - runningSlot (wHold [wCmd 0 0x10 0 [0x0B#32]] : State) else (wCmd 0 0x10 0 [0x0B#32] : Ctx).f 10 0 3 - 1) ∧ (2 < (wCmd 0 0x10 0 [0x0B#32] : Ctx).f 10 0 3 ∨ (2 : Nat) = runningSlot (wHold [wCmd 0 0x10 0 [0x0B#32]] : State) ∧ (wCmd 0 0x10 0 [0x0B#32] : Ctx).f 10 3 3 < 2 ∨ ((wHold [wCmd 0 0x10 0 [0x0B#32]] : State).bank (2 : Nat)).failed = true)) ∧
    ((wHold [wCmd 0 0x10 0 [0x12#32]] : State).alone (wCmd 0 0x10 0 [0x12#32] : Ctx) ∧ (wCmd 0 0x10 0 [0x12#32] : Ctx).admin = true ∧ (wCmd 0 0x10 0 [0x12#32] : Ctx).opc = 0x10 ∧ (wCmd 0 0x10 0 [0x12#32] : Ctx).step = 0 ∧ (1 : Nat) = (if (wCmd 0 0x10 0 [0x12#32] : Ctx).f 10 0 3 = 0 then 1 - runningSlot (wHold [wCmd 0 0x10 0 [0x12#32]] : State) else (wCmd 0 0x10 0 [0x12#32] : Ctx).f 10 0 3 - 1) ∧ (wCmd 0 0x10 0 [0x12#32] : Ctx).f 10 0 3 ≤ 2 ∧ ((1 : Nat) = runningSlot (wHold [wCmd 0 0x10 0 [0x12#32]] : State) → 2 ≤ (wCmd 0 0x10 0 [0x12#32] : Ctx).f 10 3 3) ∧ ((wHold [wCmd 0 0x10 0 [0x12#32]] : State).bank (1 : Nat)).failed = false ∧ (wCmd 0 0x10 0 [0x12#32] : Ctx).f 10 3 3 = 2 ∧ committed (wHold [wCmd 0 0x10 0 [0x12#32]] : State) (1 : Nat) = false) ∧
    ((wCommitted (wHold [wCmd 0 0x10 0 [0x12#32]]) : State).alone (wCmd 0 0x10 0 [0x12#32] : Ctx) ∧ (wCmd 0 0x10 0 [0x12#32] : Ctx).admin = true ∧ (wCmd 0 0x10 0 [0x12#32] : Ctx).opc = 0x10 ∧ (wCmd 0 0x10 0 [0x12#32] : Ctx).step = 0 ∧ (1 : Nat) = (if (wCmd 0 0x10 0 [0x12#32] : Ctx).f 10 0 3 = 0 then 1 - runningSlot (wCommitted (wHold [wCmd 0 0x10 0 [0x12#32]]) : State) else (wCmd 0 0x10 0 [0x12#32] : Ctx).f 10 0 3 - 1) ∧ (wCmd 0 0x10 0 [0x12#32] : Ctx).f 10 0 3 ≤ 2 ∧ ((1 : Nat) = runningSlot (wCommitted (wHold [wCmd 0 0x10 0 [0x12#32]]) : State) → 2 ≤ (wCmd 0 0x10 0 [0x12#32] : Ctx).f 10 3 3) ∧ ((wCommitted (wHold [wCmd 0 0x10 0 [0x12#32]]) : State).bank (1 : Nat)).failed = false ∧ (wCmd 0 0x10 0 [0x12#32] : Ctx).f 10 3 3 = 2 ∧ committed (wCommitted (wHold [wCmd 0 0x10 0 [0x12#32]]) : State) (1 : Nat) = true) ∧
    ((wHold [wCmd 0 0x10 0 [0x0A#32]] : State).alone (wCmd 0 0x10 0 [0x0A#32] : Ctx) ∧ (wCmd 0 0x10 0 [0x0A#32] : Ctx).admin = true ∧ (wCmd 0 0x10 0 [0x0A#32] : Ctx).opc = 0x10 ∧ (wCmd 0 0x10 0 [0x0A#32] : Ctx).step = 0 ∧ (1 : Nat) = (if (wCmd 0 0x10 0 [0x0A#32] : Ctx).f 10 0 3 = 0 then 1 - runningSlot (wHold [wCmd 0 0x10 0 [0x0A#32]] : State) else (wCmd 0 0x10 0 [0x0A#32] : Ctx).f 10 0 3 - 1) ∧ (wCmd 0 0x10 0 [0x0A#32] : Ctx).f 10 0 3 ≤ 2 ∧ ((1 : Nat) = runningSlot (wHold [wCmd 0 0x10 0 [0x0A#32]] : State) → 2 ≤ (wCmd 0 0x10 0 [0x0A#32] : Ctx).f 10 3 3) ∧ ((wHold [wCmd 0 0x10 0 [0x0A#32]] : State).bank (1 : Nat)).failed = false ∧ (wCmd 0 0x10 0 [0x0A#32] : Ctx).f 10 3 3 < 2) ∧
    (mounted (wHold [{ wRunCtx (wCmd 0 0x10 0 [0x12#32]) [0x8000] with step := 2, buf := [] }] : State) = false ∧ (wHold [{ wRunCtx (wCmd 0 0x10 0 [0x12#32]) [0x8000] with step := 2, buf := [] }] : State).xlt.jr.units = [] ∧ (wHold [{ wRunCtx (wCmd 0 0x10 0 [0x12#32]) [0x8000] with step := 2, buf := [] }] : State).hq.shut = 0 ∧ (wHold [{ wRunCtx (wCmd 0 0x10 0 [0x12#32]) [0x8000] with step := 2, buf := [] }] : State).boot.warm = false ∧ lgRuns (wHold [{ wRunCtx (wCmd 0 0x10 0 [0x12#32]) [0x8000] with step := 2, buf := [] }] : State) = false ∧ cfs (wHold [{ wRunCtx (wCmd 0 0x10 0 [0x12#32]) [0x8000] with step := 2, buf := [] }] : State) = false ∧ (wHold [{ wRunCtx (wCmd 0 0x10 0 [0x12#32]) [0x8000] with step := 2, buf := [] }] : State).hq.ctx = [({ wRunCtx (wCmd 0 0x10 0 [0x12#32]) [0x8000] with step := 2, buf := [] } : Ctx)] ∧ ({ wRunCtx (wCmd 0 0x10 0 [0x12#32]) [0x8000] with step := 2, buf := [] } : Ctx).phase = .running ∧ prpReady ({ wRunCtx (wCmd 0 0x10 0 [0x12#32]) [0x8000] with step := 2, buf := [] } : Ctx) = true ∧ ({ wRunCtx (wCmd 0 0x10 0 [0x12#32]) [0x8000] with step := 2, buf := [] } : Ctx).admin = true ∧ ({ wRunCtx (wCmd 0 0x10 0 [0x12#32]) [0x8000] with step := 2, buf := [] } : Ctx).opc = 0x10 ∧ ({ wRunCtx (wCmd 0 0x10 0 [0x12#32]) [0x8000] with step := 2, buf := [] } : Ctx).step ≠ 0 ∧ flcOutstanding (wHold [{ wRunCtx (wCmd 0 0x10 0 [0x12#32]) [0x8000] with step := 2, buf := [] }] : State) 0 (· == fwTag ({ wRunCtx (wCmd 0 0x10 0 [0x12#32]) [0x8000] with step := 2, buf := [] } : Ctx).seq) = false) ∧
    ((wHold [{ wCmd 0 0xC3 0 [2046#32] with dws := (wCmd 0 0xC3 0 [2046#32]).dws.set 8 0xA000#32 }] : State).alone ({ wCmd 0 0xC3 0 [2046#32] with dws := (wCmd 0 0xC3 0 [2046#32]).dws.set 8 0xA000#32 } : Ctx) ∧ ({ wCmd 0 0xC3 0 [2046#32] with dws := (wCmd 0 0xC3 0 [2046#32]).dws.set 8 0xA000#32 } : Ctx).admin = true ∧ ({ wCmd 0 0xC3 0 [2046#32] with dws := (wCmd 0 0xC3 0 [2046#32]).dws.set 8 0xA000#32 } : Ctx).opc = 0xC3 ∧ (wHold [{ wCmd 0 0xC3 0 [2046#32] with dws := (wCmd 0 0xC3 0 [2046#32]).dws.set 8 0xA000#32 }] : State).readyAs ({ wCmd 0 0xC3 0 [2046#32] with dws := (wCmd 0 0xC3 0 [2046#32]).dws.set 8 0xA000#32 } : Ctx) (wRunCtx { wCmd 0 0xC3 0 [2046#32] with dws := (wCmd 0 0xC3 0 [2046#32]).dws.set 8 0xA000#32 } [0x8000, 0xA000] : Ctx) ∧ (({ wCmd 0 0xC3 0 [2046#32] with dws := (wCmd 0 0xC3 0 [2046#32]).dws.set 8 0xA000#32 } : Ctx).dw 10).toNat ≠ 2047) ∧
    ((wHold [{ wCmd 0 0xC3 0 [2047#32] with dws := (wCmd 0 0xC3 0 [2047#32]).dws.set 8 0xA000#32 }] : State).alone ({ wCmd 0 0xC3 0 [2047#32] with dws := (wCmd 0 0xC3 0 [2047#32]).dws.set 8 0xA000#32 } : Ctx) ∧ ({ wCmd 0 0xC3 0 [2047#32] with dws := (wCmd 0 0xC3 0 [2047#32]).dws.set 8 0xA000#32 } : Ctx).admin = true ∧ ({ wCmd 0 0xC3 0 [2047#32] with dws := (wCmd 0 0xC3 0 [2047#32]).dws.set 8 0xA000#32 } : Ctx).opc = 0xC3 ∧ (wHold [{ wCmd 0 0xC3 0 [2047#32] with dws := (wCmd 0 0xC3 0 [2047#32]).dws.set 8 0xA000#32 }] : State).readyAs ({ wCmd 0 0xC3 0 [2047#32] with dws := (wCmd 0 0xC3 0 [2047#32]).dws.set 8 0xA000#32 } : Ctx) (wRunCtx { wCmd 0 0xC3 0 [2047#32] with dws := (wCmd 0 0xC3 0 [2047#32]).dws.set 8 0xA000#32 } [0x8000, 0xA000] : Ctx) ∧ (({ wCmd 0 0xC3 0 [2047#32] with dws := (wCmd 0 0xC3 0 [2047#32]).dws.set 8 0xA000#32 } : Ctx).dw 10).toNat = 2047 ∧ (wRunCtx { wCmd 0 0xC3 0 [2047#32] with dws := (wCmd 0 0xC3 0 [2047#32]).dws.set 8 0xA000#32 } [0x8000, 0xA000] : Ctx).step = 0) ∧
    (mounted (wHold [{ wRunCtx (wCmd 0 0xC3 0 [2047#32]) [0x8000, 0xA000] with step := 1, buf := [] }] : State) = false ∧ (wHold [{ wRunCtx (wCmd 0 0xC3 0 [2047#32]) [0x8000, 0xA000] with step := 1, buf := [] }] : State).xlt.jr.units = [] ∧ (wHold [{ wRunCtx (wCmd 0 0xC3 0 [2047#32]) [0x8000, 0xA000] with step := 1, buf := [] }] : State).hq.shut = 0 ∧ (wHold [{ wRunCtx (wCmd 0 0xC3 0 [2047#32]) [0x8000, 0xA000] with step := 1, buf := [] }] : State).boot.warm = false ∧ lgRuns (wHold [{ wRunCtx (wCmd 0 0xC3 0 [2047#32]) [0x8000, 0xA000] with step := 1, buf := [] }] : State) = false ∧ cfs (wHold [{ wRunCtx (wCmd 0 0xC3 0 [2047#32]) [0x8000, 0xA000] with step := 1, buf := [] }] : State) = false ∧ (wHold [{ wRunCtx (wCmd 0 0xC3 0 [2047#32]) [0x8000, 0xA000] with step := 1, buf := [] }] : State).hq.ctx = [({ wRunCtx (wCmd 0 0xC3 0 [2047#32]) [0x8000, 0xA000] with step := 1, buf := [] } : Ctx)] ∧ ({ wRunCtx (wCmd 0 0xC3 0 [2047#32]) [0x8000, 0xA000] with step := 1, buf := [] } : Ctx).phase = .running ∧ prpReady ({ wRunCtx (wCmd 0 0xC3 0 [2047#32]) [0x8000, 0xA000] with step := 1, buf := [] } : Ctx) = true ∧ ({ wRunCtx (wCmd 0 0xC3 0 [2047#32]) [0x8000, 0xA000] with step := 1, buf := [] } : Ctx).admin = true ∧ ({ wRunCtx (wCmd 0 0xC3 0 [2047#32]) [0x8000, 0xA000] with step := 1, buf := [] } : Ctx).opc = 0xC3 ∧ (({ wRunCtx (wCmd 0 0xC3 0 [2047#32]) [0x8000, 0xA000] with step := 1, buf := [] } : Ctx).dw 10).toNat = 2047 ∧ ({ wRunCtx (wCmd 0 0xC3 0 [2047#32]) [0x8000, 0xA000] with step := 1, buf := [] } : Ctx).step = 1 ∧ awaits (wHold [{ wRunCtx (wCmd 0 0xC3 0 [2047#32]) [0x8000, 0xA000] with step := 1, buf := [] }] : State) (.data ({ wRunCtx (wCmd 0 0xC3 0 [2047#32]) [0x8000, 0xA000] with step := 1, buf := [] } : Ctx).seq) = false ∧ (clearStep (wHold [{ wRunCtx (wCmd 0 0xC3 0 [2047#32]) [0x8000, 0xA000] with step := 1, buf := [] }] : State) (bufBytes ({ wRunCtx (wCmd 0 0xC3 0 [2047#32]) [0x8000, 0xA000] with step := 1, buf := [] } : Ctx).buf 8192) : Nat) = clearStep (wHold [{ wRunCtx (wCmd 0 0xC3 0 [2047#32]) [0x8000, 0xA000] with step := 1, buf := [] }] : State) (bufBytes ({ wRunCtx (wCmd 0 0xC3 0 [2047#32]) [0x8000, 0xA000] with step := 1, buf := [] } : Ctx).buf 8192)) ∧
    (mounted (wHold [{ wRunCtx (wCmd 0 0xC3 0 [2047#32]) [0x8000, 0xA000] with step := 2, buf := [] }] : State) = false ∧ (wHold [{ wRunCtx (wCmd 0 0xC3 0 [2047#32]) [0x8000, 0xA000] with step := 2, buf := [] }] : State).xlt.jr.units = [] ∧ (wHold [{ wRunCtx (wCmd 0 0xC3 0 [2047#32]) [0x8000, 0xA000] with step := 2, buf := [] }] : State).hq.shut = 0 ∧ (wHold [{ wRunCtx (wCmd 0 0xC3 0 [2047#32]) [0x8000, 0xA000] with step := 2, buf := [] }] : State).boot.warm = false ∧ lgRuns (wHold [{ wRunCtx (wCmd 0 0xC3 0 [2047#32]) [0x8000, 0xA000] with step := 2, buf := [] }] : State) = false ∧ cfs (wHold [{ wRunCtx (wCmd 0 0xC3 0 [2047#32]) [0x8000, 0xA000] with step := 2, buf := [] }] : State) = false ∧ (wHold [{ wRunCtx (wCmd 0 0xC3 0 [2047#32]) [0x8000, 0xA000] with step := 2, buf := [] }] : State).hq.ctx = [({ wRunCtx (wCmd 0 0xC3 0 [2047#32]) [0x8000, 0xA000] with step := 2, buf := [] } : Ctx)] ∧ ({ wRunCtx (wCmd 0 0xC3 0 [2047#32]) [0x8000, 0xA000] with step := 2, buf := [] } : Ctx).phase = .running ∧ prpReady ({ wRunCtx (wCmd 0 0xC3 0 [2047#32]) [0x8000, 0xA000] with step := 2, buf := [] } : Ctx) = true ∧ ({ wRunCtx (wCmd 0 0xC3 0 [2047#32]) [0x8000, 0xA000] with step := 2, buf := [] } : Ctx).admin = true ∧ ({ wRunCtx (wCmd 0 0xC3 0 [2047#32]) [0x8000, 0xA000] with step := 2, buf := [] } : Ctx).opc = 0xC3 ∧ (({ wRunCtx (wCmd 0 0xC3 0 [2047#32]) [0x8000, 0xA000] with step := 2, buf := [] } : Ctx).dw 10).toNat = 2047 ∧ ({ wRunCtx (wCmd 0 0xC3 0 [2047#32]) [0x8000, 0xA000] with step := 2, buf := [] } : Ctx).step = 2 ∧ clearWritten (wHold [{ wRunCtx (wCmd 0 0xC3 0 [2047#32]) [0x8000, 0xA000] with step := 2, buf := [] }] : State) = true) ∧
    ((wHold [wCmd 0 0xC1 0 [1#32, 10000#32]] : State).alone (wCmd 0 0xC1 0 [1#32, 10000#32] : Ctx) ∧ (wCmd 0 0xC1 0 [1#32, 10000#32] : Ctx).admin = true ∧ (wCmd 0 0xC1 0 [1#32, 10000#32] : Ctx).opc = 0xC1 ∧ (wCmd 0 0xC1 0 [1#32, 10000#32] : Ctx).f 10 0 4 = 1 ∧ 1500 ≤ (wCmd 0 0xC1 0 [1#32, 10000#32] : Ctx).f 11 0 14 ∧ (wCmd 0 0xC1 0 [1#32, 10000#32] : Ctx).f 11 0 14 ≤ 10000) ∧
    ((wHold [wCmd 0 0xC1 0 [1#32, 1499#32]] : State).alone (wCmd 0 0xC1 0 [1#32, 1499#32] : Ctx) ∧ (wCmd 0 0xC1 0 [1#32, 1499#32] : Ctx).admin = true ∧ (wCmd 0 0xC1 0 [1#32, 1499#32] : Ctx).opc = 0xC1 ∧ (wCmd 0 0xC1 0 [1#32, 1499#32] : Ctx).f 10 0 4 = 1 ∧ (wCmd 0 0xC1 0 [1#32, 1499#32] : Ctx).f 11 0 14 ≠ 0 ∧ ((wCmd 0 0xC1 0 [1#32, 1499#32] : Ctx).f 11 0 14 < 1500 ∨ 10000 < (wCmd 0 0xC1 0 [1#32, 1499#32] : Ctx).f 11 0 14)) ∧
    (((wHold [wCmd 0 0xC1 0 [1#32]]).setFld (Reg.STAT pgSPN) 8 4 5 : State).alone (wCmd 0 0xC1 0 [1#32] : Ctx) ∧ (wCmd 0 0xC1 0 [1#32] : Ctx).admin = true ∧ (wCmd 0 0xC1 0 [1#32] : Ctx).opc = 0xC1 ∧ (wCmd 0 0xC1 0 [1#32] : Ctx).f 10 0 4 = 1 ∧ (wCmd 0 0xC1 0 [1#32] : Ctx).f 11 0 14 = 0 ∧ spnState ((wHold [wCmd 0 0xC1 0 [1#32]]).setFld (Reg.STAT pgSPN) 8 4 5 : State) = 5 ∧ ovState ((wHold [wCmd 0 0xC1 0 [1#32]]).setFld (Reg.STAT pgSPN) 8 4 5 : State) ≠ 2 ∧ ovState ((wHold [wCmd 0 0xC1 0 [1#32]]).setFld (Reg.STAT pgSPN) 8 4 5 : State) ≠ 3 ∧ Takes ((wHold [wCmd 0 0xC1 0 [1#32]]).setFld (Reg.STAT pgSPN) 8 4 5 : State) .sup Reg.SPN_MODE 2#32 (newOf ((wHold [wCmd 0 0xC1 0 [1#32]]).setFld (Reg.STAT pgSPN) 8 4 5 : State) .sup Reg.SPN_MODE 2#32 : Word)) ∧
    ((wHold [wCmd 0 0xC1 0 [2#32]] : State).alone (wCmd 0 0xC1 0 [2#32] : Ctx) ∧ (wCmd 0 0xC1 0 [2#32] : Ctx).admin = true ∧ (wCmd 0 0xC1 0 [2#32] : Ctx).opc = 0xC1 ∧ (wCmd 0 0xC1 0 [2#32] : Ctx).f 10 0 4 = 2) ∧
    ((wHold [wCmd 0 0xC1 0 [3#32]] : State).alone (wCmd 0 0xC1 0 [3#32] : Ctx) ∧ (wCmd 0 0xC1 0 [3#32] : Ctx).admin = true ∧ (wCmd 0 0xC1 0 [3#32] : Ctx).opc = 0xC1 ∧ (wCmd 0 0xC1 0 [3#32] : Ctx).f 10 0 4 = 3) ∧
    ((wHold [wCmd 0 0xC4 0 [2#32]] : State).alone (wCmd 0 0xC4 0 [2#32] : Ctx) ∧ (wCmd 0 0xC4 0 [2#32] : Ctx).admin = true ∧ (wCmd 0 0xC4 0 [2#32] : Ctx).opc = 0xC4 ∧ (wCmd 0 0xC4 0 [2#32] : Ctx).f 10 0 2 ≠ 3) ∧
    ((wStill [wCmd 0 0xC4 1 [1#32, 3#32]] : State).aloneMounted (wCmd 0 0xC4 1 [1#32, 3#32] : Ctx) ∧ (wCmd 0 0xC4 1 [1#32, 3#32] : Ctx).admin = true ∧ (wCmd 0 0xC4 1 [1#32, 3#32] : Ctx).opc = 0xC4 ∧ (wCmd 0 0xC4 1 [1#32, 3#32] : Ctx).f 10 0 2 ≠ 3 ∧ ((wStill [wCmd 0 0xC4 1 [1#32, 3#32]] : State).hq.verify.st = 1 ∧ (stField : Nat) = stVerifyRuns ∨ (wStill [wCmd 0 0xC4 1 [1#32, 3#32]] : State).hq.verify.st ≠ 1 ∧ errorOf (verifyRange (wStill [wCmd 0 0xC4 1 [1#32, 3#32]] : State) (wCmd 0 0xC4 1 [1#32, 3#32] : Ctx)) = some (stField : Nat))) ∧
    ((wStill [wCmd 0 0xC4 1 [0#32, 0#32, 0#32, 7#32]] : State).aloneMounted (wCmd 0 0xC4 1 [0#32, 0#32, 0#32, 7#32] : Ctx) ∧ (wCmd 0 0xC4 1 [0#32, 0#32, 0#32, 7#32] : Ctx).admin = true ∧ (wCmd 0 0xC4 1 [0#32, 0#32, 0#32, 7#32] : Ctx).opc = 0xC4 ∧ (wCmd 0 0xC4 1 [0#32, 0#32, 0#32, 7#32] : Ctx).f 10 0 2 ≠ 3 ∧ (wStill [wCmd 0 0xC4 1 [0#32, 0#32, 0#32, 7#32]] : State).hq.verify.st ≠ 1 ∧ (verifyRange (wStill [wCmd 0 0xC4 1 [0#32, 0#32, 0#32, 7#32]] : State) (wCmd 0 0xC4 1 [0#32, 0#32, 0#32, 7#32] : Ctx)).toOption = some ([] : List Nat)) ∧
    ((wHold [wCmd 0 0xC4 0 [3#32]] : State).alone (wCmd 0 0xC4 0 [3#32] : Ctx) ∧ (wCmd 0 0xC4 0 [3#32] : Ctx).admin = true ∧ (wCmd 0 0xC4 0 [3#32] : Ctx).opc = 0xC4 ∧ (wCmd 0 0xC4 0 [3#32] : Ctx).f 10 0 2 = 3) ∧
    ((wHold [wCmd 0 0xC1 0 [0#32]] : State).alone (wCmd 0 0xC1 0 [0#32] : Ctx) ∧ (wCmd 0 0xC1 0 [0#32] : Ctx).admin = true ∧ (wCmd 0 0xC1 0 [0#32] : Ctx).opc = 0xC1 ∧ (wCmd 0 0xC1 0 [0#32] : Ctx).f 10 0 4 = 0 ∧ ((⟨3, [], [], []⟩ : LoadIn).result = 4 ∨ findDi (⟨3, [], [], []⟩ : LoadIn).words = .nothing)) ∧
    ((wHold [wCmd 0 0xC1 0 [0#32]] : State).alone (wCmd 0 0xC1 0 [0#32] : Ctx) ∧ (wCmd 0 0xC1 0 [0#32] : Ctx).admin = true ∧ (wCmd 0 0xC1 0 [0#32] : Ctx).opc = 0xC1 ∧ (wCmd 0 0xC1 0 [0#32] : Ctx).f 10 0 4 = 0 ∧ (⟨3, wDiWords, [], []⟩ : LoadIn).result ≠ 4 ∧ (findDi (⟨3, wDiWords, [], []⟩ : LoadIn).words = .refused (wDi : List Nat) ∨ (⟨3, wDiWords, [], []⟩ : LoadIn).result = 3 ∧ findDi (⟨3, wDiWords, [], []⟩ : LoadIn).words = .accepted (wDi : List Nat))) ∧
    ((wHold [wCmd 0 0xC1 0 [0#32]] : State).alone (wCmd 0 0xC1 0 [0#32] : Ctx) ∧ (wCmd 0 0xC1 0 [0#32] : Ctx).admin = true ∧ (wCmd 0 0xC1 0 [0#32] : Ctx).opc = 0xC1 ∧ (wCmd 0 0xC1 0 [0#32] : Ctx).f 10 0 4 = 0) ∧
    ((wStill [wCmd 0 0xC1 0 [0#32]] : State).aloneMounted (wCmd 0 0xC1 0 [0#32] : Ctx) ∧ (wCmd 0 0xC1 0 [0#32] : Ctx).admin = true ∧ (wCmd 0 0xC1 0 [0#32] : Ctx).opc = 0xC1 ∧ (wCmd 0 0xC1 0 [0#32] : Ctx).f 10 0 4 = 0) := by
  refine ⟨⟨by decide +kernel, by decide +kernel, by decide +kernel, by decide +kernel, by decide +kernel, congrArg Except.toOption wIdentify⟩, ?_, ?_, ?_, ?_, ?_, ?_, ?_, ?_, ?_, ?_, ?_, ?_, ?_, ?_, ?_, ?_, ?_, ⟨by decide +kernel, by decide +kernel, by decide +kernel, by decide +kernel, by decide +kernel, by decide +kernel, by decide +kernel, by decide +kernel, by decide +kernel, by decide +kernel, by decide +kernel, by decide +kernel, by decide +kernel, by decide +kernel, rfl⟩, ?_, ?_, ?_, ?_, ?_, ?_, ?_, ?_, ?_, ?_, ?_, ⟨by decide +kernel, by decide +kernel, by decide +kernel, by decide +kernel, by decide +kernel, Or.inr ⟨by decide +kernel, wFind_wDi⟩⟩, ?_, ?_⟩ <;> decide +kernel

/-- The hypotheses of Obligations.HostTimersAndPowerStates can be met, clause by clause. -/
theorem witness_HostTimersAndPowerStates :
    (mayFetch (wFetch : State) = true ∧ arbitrate (wFetch : State) = (some (⟨0, 0x1000, 16, 0, 0⟩ : Sq), ([0, 0, 0] : List Nat)) ∧ (⟨0, 0x1000, 16, 0, 0⟩ : Sq).id ≤ 64 ∧ 0 < (⟨0, 0x1000, 16, 0, 0⟩ : Sq).size ∧ (⟨0, 0x1000, 16, 0, 0⟩ : Sq).size ≤ 4096 ∧ fieldOf (feature (wFetch : State) 1) 0 3 = 0) ∧
    ((wFetch.setBit Reg.HQ_CTRL 0 false : State).wf = true ∧ (mayFetch (wFetch.setBit Reg.HQ_CTRL 0 false : State) = false ∨ (arbitrate (wFetch.setBit Reg.HQ_CTRL 0 false : State)).1 = none)) ∧
    ((wReady.setHq { wReady.hq with grants := [⟨3, 0, 0, 1, [(0, List.replicate 64 0)]⟩] } : State).quiet ∧ (wReady.setHq { wReady.hq with grants := [⟨3, 0, 0, 1, [(0, List.replicate 64 0)]⟩] } : State).hq.grants = [(⟨3, 0, 0, 1, [(0, List.replicate 64 0)]⟩ : Grant)] ∧ (⟨3, 0, 0, 1, [(0, List.replicate 64 0)]⟩ : Grant).n = 1 ∧ (wReady.setHq { wReady.hq with grants := [⟨3, 0, 0, 1, [(0, List.replicate 64 0)]⟩] } : State).pcie.reads = [] ∧ cfs (wReady.setHq { wReady.hq with grants := [⟨3, 0, 0, 1, [(0, List.replicate 64 0)]⟩] } : State) = false ∧ ((wReady.setHq { wReady.hq with grants := [⟨3, 0, 0, 1, [(0, List.replicate 64 0)]⟩] } : State).sq (⟨3, 0, 0, 1, [(0, List.replicate 64 0)]⟩ : Grant).sqid).isSome = true ∧ (wReady.setHq { wReady.hq with grants := [⟨3, 0, 0, 1, [(0, List.replicate 64 0)]⟩] } : State).bit Reg.HQ_PS 8 = false ∧ operational ((wReady.setHq { wReady.hq with grants := [⟨3, 0, 0, 1, [(0, List.replicate 64 0)]⟩] } : State).fld Reg.HQ_PS 0 3) = true ∧ unknownEntry (freshCtx (seqNext (wReady.setHq { wReady.hq with grants := [⟨3, 0, 0, 1, [(0, List.replicate 64 0)]⟩] } : State)) (⟨3, 0, 0, 1, [(0, List.replicate 64 0)]⟩ : Grant).sqid 0 ((List.range 16).map (fun k => Word.ofNat (leNat (((bufBytes (⟨3, 0, 0, 1, [(0, List.replicate 64 0)]⟩ : Grant).got 64).drop (4 * k)).take 4))))) = none) ∧
    ((wReady.setHq { wReady.hq with grants := [⟨3, 0, 0, 1, []⟩] } : State).wf = true ∧ ((wReady.setHq { wReady.hq with grants := [⟨3, 0, 0, 1, []⟩] } : State).hq.grants.head?.all (fun g => g.id != (4 : Nat) || awaits (wReady.setHq { wReady.hq with grants := [⟨3, 0, 0, 1, []⟩] } : State) (.sqe (4 : Nat)) || cfs (wReady.setHq { wReady.hq with grants := [⟨3, 0, 0, 1, []⟩] } : State)) = true)) ∧
    (({ (wReady.setHq { wReady.hq with feats := [(15, 100#32)] }) with ticks := 160000 } : State).quiet ∧ feature ({ (wReady.setHq { wReady.hq with feats := [(15, 100#32)] }) with ticks := 160000 } : State) 15 ≠ 0#32 ∧ ready ({ (wReady.setHq { wReady.hq with feats := [(15, 100#32)] }) with ticks := 160000 } : State) = true ∧ ({ (wReady.setHq { wReady.hq with feats := [(15, 100#32)] }) with ticks := 160000 } : State).hq.katoAt + 1600 * (feature ({ (wReady.setHq { wReady.hq with feats := [(15, 100#32)] }) with ticks := 160000 } : State) 15).toNat ≤ ({ (wReady.setHq { wReady.hq with feats := [(15, 100#32)] }) with ticks := 160000 } : State).ticks ∧ ({ (wReady.setHq { wReady.hq with feats := [(15, 100#32)] }) with ticks := 160000 } : State).hq.masked = [] ∧ ({ (wReady.setHq { wReady.hq with feats := [(15, 100#32)] }) with ticks := 160000 } : State).hq.waiting = []) ∧
    (({ (wReady.setHq { wReady.hq with feats := [(15, 100#32)] }) with ticks := 159999 } : State).wf = true ∧ (feature ({ (wReady.setHq { wReady.hq with feats := [(15, 100#32)] }) with ticks := 159999 } : State) 15 = 0#32 ∨ ready ({ (wReady.setHq { wReady.hq with feats := [(15, 100#32)] }) with ticks := 159999 } : State) = false ∨ ({ (wReady.setHq { wReady.hq with feats := [(15, 100#32)] }) with ticks := 159999 } : State).ticks < ({ (wReady.setHq { wReady.hq with feats := [(15, 100#32)] }) with ticks := 159999 } : State).hq.katoAt + 1600 * (feature ({ (wReady.setHq { wReady.hq with feats := [(15, 100#32)] }) with ticks := 159999 } : State) 15).toNat)) ∧
    ((wReady.setHq { wReady.hq with verify := ⟨1, 1, [], 5, 5, 0⟩ } : State).hq.ctx = [] ∧ (wReady.setHq { wReady.hq with verify := ⟨1, 1, [], 5, 5, 0⟩ } : State).hq.masked = [] ∧ (wReady.setHq { wReady.hq with verify := ⟨1, 1, [], 5, 5, 0⟩ } : State).hq.waiting = [] ∧ (wReady.setHq { wReady.hq with verify := ⟨1, 1, [], 5, 5, 0⟩ } : State).hq.verify.st = 1 ∧ (wReady.setHq { wReady.hq with verify := ⟨1, 1, [], 5, 5, 0⟩ } : State).hq.verify.todo = []) ∧
    ((wReady.setHq { wReady.hq with verify := ⟨1, 2, [], 5, 5, 0⟩ } : State).wf = true ∧ (wReady.setHq { wReady.hq with verify := ⟨1, 2, [], 5, 5, 0⟩ } : State).hq.verify.st ≠ 1) ∧
    (((wReady.setBit Reg.HQ_PS 8 true).setFld Reg.HQ_PS 4 3 4 : State).bit Reg.HQ_PS 8 = true ∧ ((wReady.setBit Reg.HQ_PS 8 true).setFld Reg.HQ_PS 4 3 4 : State).hq.wanted = false ∧ 2 ≤ ((wReady.setBit Reg.HQ_PS 8 true).setFld Reg.HQ_PS 4 3 4 : State).fld Reg.HQ_PS 4 3 ∧ ((wReady.setBit Reg.HQ_PS 8 true).setFld Reg.HQ_PS 4 3 4 : State).fld Reg.HQ_PS 9 3 + 1 < psSteps (((wReady.setBit Reg.HQ_PS 8 true).setFld Reg.HQ_PS 4 3 4 : State).fld Reg.HQ_PS 4 3)) ∧
    ((((wReady.setBit Reg.HQ_PS 8 true).setFld Reg.HQ_PS 4 3 4).setFld Reg.HQ_PS 9 3 4 : State).bit Reg.HQ_PS 8 = true ∧ (((wReady.setBit Reg.HQ_PS 8 true).setFld Reg.HQ_PS 4 3 4).setFld Reg.HQ_PS 9 3 4 : State).hq.wanted = false ∧ 2 ≤ (((wReady.setBit Reg.HQ_PS 8 true).setFld Reg.HQ_PS 4 3 4).setFld Reg.HQ_PS 9 3 4 : State).fld Reg.HQ_PS 4 3 ∧ psSteps ((((wReady.setBit Reg.HQ_PS 8 true).setFld Reg.HQ_PS 4 3 4).setFld Reg.HQ_PS 9 3 4 : State).fld Reg.HQ_PS 4 3) = (((wReady.setBit Reg.HQ_PS 8 true).setFld Reg.HQ_PS 4 3 4).setFld Reg.HQ_PS 9 3 4 : State).fld Reg.HQ_PS 9 3 + 1) ∧
    ((((wReady.setBit Reg.HQ_PS 8 true).setFld Reg.HQ_PS 4 3 4).setHq { wReady.hq with wanted := true } : State).bit Reg.HQ_PS 8 = true ∧ (((wReady.setBit Reg.HQ_PS 8 true).setFld Reg.HQ_PS 4 3 4).setHq { wReady.hq with wanted := true } : State).hq.wanted = true ∧ (((wReady.setBit Reg.HQ_PS 8 true).setFld Reg.HQ_PS 4 3 4).setHq { wReady.hq with wanted := true } : State).hq.oper ≤ 1) ∧
    ((wReady : State).wf = true ∧ (wReady : State).bit Reg.HQ_PS 8 = false) ∧
    (fieldOf (feature ({ (wReady.setHq { wReady.hq with feats := [(12, 1#32)], apst := [0x18, 1, 0, 0, 0, 0, 0, 0] }) with ticks := 1600 } : State) 12) 0 1 = 1 ∧ ({ (wReady.setHq { wReady.hq with feats := [(12, 1#32)], apst := [0x18, 1, 0, 0, 0, 0, 0, 0] }) with ticks := 1600 } : State).bit Reg.HQ_PS 8 = false ∧ idle ({ (wReady.setHq { wReady.hq with feats := [(12, 1#32)], apst := [0x18, 1, 0, 0, 0, 0, 0, 0] }) with ticks := 1600 } : State) = true ∧ ({ (wReady.setHq { wReady.hq with feats := [(12, 1#32)], apst := [0x18, 1, 0, 0, 0, 0, 0, 0] }) with ticks := 1600 } : State).hq.idleAt + 1600 * (leNat ((({ (wReady.setHq { wReady.hq with feats := [(12, 1#32)], apst := [0x18, 1, 0, 0, 0, 0, 0, 0] }) with ticks := 1600 } : State).hq.apst.drop (8 * ({ (wReady.setHq { wReady.hq with feats := [(12, 1#32)], apst := [0x18, 1, 0, 0, 0, 0, 0, 0] }) with ticks := 1600 } : State).fld Reg.HQ_PS 0 3)).take 8) / 256 % 2 ^ 24) ≤ ({ (wReady.setHq { wReady.hq with feats := [(12, 1#32)], apst := [0x18, 1, 0, 0, 0, 0, 0, 0] }) with ticks := 1600 } : State).ticks ∧ leNat ((({ (wReady.setHq { wReady.hq with feats := [(12, 1#32)], apst := [0x18, 1, 0, 0, 0, 0, 0, 0] }) with ticks := 1600 } : State).hq.apst.drop (8 * ({ (wReady.setHq { wReady.hq with feats := [(12, 1#32)], apst := [0x18, 1, 0, 0, 0, 0, 0, 0] }) with ticks := 1600 } : State).fld Reg.HQ_PS 0 3)).take 8) / 256 % 2 ^ 24 ≠ 0 ∧ (3 : Nat) = leNat ((({ (wReady.setHq { wReady.hq with feats := [(12, 1#32)], apst := [0x18, 1, 0, 0, 0, 0, 0, 0] }) with ticks := 1600 } : State).hq.apst.drop (8 * ({ (wReady.setHq { wReady.hq with feats := [(12, 1#32)], apst := [0x18, 1, 0, 0, 0, 0, 0, 0] }) with ticks := 1600 } : State).fld Reg.HQ_PS 0 3)).take 8) / 8 % 32 ∧ (3 : Nat) ≤ 4 ∧ (3 : Nat) ≠ ({ (wReady.setHq { wReady.hq with feats := [(12, 1#32)], apst := [0x18, 1, 0, 0, 0, 0, 0, 0] }) with ticks := 1600 } : State).fld Reg.HQ_PS 0 3) ∧
    (({ (wReady.setHq { wReady.hq with feats := [(12, 1#32)], apst := [0x18, 1, 0, 0, 0, 0, 0, 0] }) with ticks := 1599 } : State).wf = true ∧ (fieldOf (feature ({ (wReady.setHq { wReady.hq with feats := [(12, 1#32)], apst := [0x18, 1, 0, 0, 0, 0, 0, 0] }) with ticks := 1599 } : State) 12) 0 1 = 0 ∨ ({ (wReady.setHq { wReady.hq with feats := [(12, 1#32)], apst := [0x18, 1, 0, 0, 0, 0, 0, 0] }) with ticks := 1599 } : State).bit Reg.HQ_PS 8 = true ∨ leNat ((({ (wReady.setHq { wReady.hq with feats := [(12, 1#32)], apst := [0x18, 1, 0, 0, 0, 0, 0, 0] }) with ticks := 1599 } : State).hq.apst.drop (8 * ({ (wReady.setHq { wReady.hq with feats := [(12, 1#32)], apst := [0x18, 1, 0, 0, 0, 0, 0, 0] }) with ticks := 1599 } : State).fld Reg.HQ_PS 0 3)).take 8) / 256 % 2 ^ 24 = 0 ∨ idle ({ (wReady.setHq { wReady.hq with feats := [(12, 1#32)], apst := [0x18, 1, 0, 0, 0, 0, 0, 0] }) with ticks := 1599 } : State) = false ∨ ({ (wReady.setHq { wReady.hq with feats := [(12, 1#32)], apst := [0x18, 1, 0, 0, 0, 0, 0, 0] }) with ticks := 1599 } : State).ticks < ({ (wReady.setHq { wReady.hq with feats := [(12, 1#32)], apst := [0x18, 1, 0, 0, 0, 0, 0, 0] }) with ticks := 1599 } : State).hq.idleAt + 1600 * (leNat ((({ (wReady.setHq { wReady.hq with feats := [(12, 1#32)], apst := [0x18, 1, 0, 0, 0, 0, 0, 0] }) with ticks := 1599 } : State).hq.apst.drop (8 * ({ (wReady.setHq { wReady.hq with feats := [(12, 1#32)], apst := [0x18, 1, 0, 0, 0, 0, 0, 0] }) with ticks := 1599 } : State).fld Reg.HQ_PS 0 3)).take 8) / 256 % 2 ^ 24) ∨ 4 < leNat ((({ (wReady.setHq { wReady.hq with feats := [(12, 1#32)], apst := [0x18, 1, 0, 0, 0, 0, 0, 0] }) with ticks := 1599 } : State).hq.apst.drop (8 * ({ (wReady.setHq { wReady.hq with feats := [(12, 1#32)], apst := [0x18, 1, 0, 0, 0, 0, 0, 0] }) with ticks := 1599 } : State).fld Reg.HQ_PS 0 3)).take 8) / 8 % 32)) := by
  refine ⟨?_, ?_, ?_, ?_, ?_, ?_, ?_, ?_, ?_, ?_, ?_, ?_, ?_, ?_⟩ <;> decide +kernel

/-- The hypotheses of Obligations.CoresReachMemory can be met, clause by clause. -/
theorem witness_CoresReachMemory :
    ((wMem : State).uncached (4 : Nat) (0x127FFFFC : Nat) (4 : Nat) ∧ (wMem : State).soundMemory ∧ coreHas (4 : Nat) .load (4 : Nat) = true ∧ sramGrants (wMem : State) (hartMaster (4 : Nat)) (0x127FFFFC : Nat) .read = true) ∧
    ((wMem : State).uncached (0 : Nat) (0x10000005 : Nat) (2 : Nat) ∧ (wMem : State).soundMemory ∧ coreHas (0 : Nat) (.store (0x12345 : Nat)) (2 : Nat) = true ∧ sramGrants (wMem : State) (hartMaster (0 : Nat)) (0x10000005 : Nat) .write = true) ∧
    ((wMem : State).uncached (3 : Nat) (0x10000008 : Nat) (8 : Nat) ∧ (3 : Nat) < (wMem : State).harts.length ∧ (wMem : State).soundMemory ∧ coreHas (3 : Nat) .lr (8 : Nat) = true ∧ sramGrants (wMem : State) (hartMaster (3 : Nat)) (0x10000008 : Nat) .read = true) ∧
    ((wMem.updHart 3 (fun x => { x with reservation := some (0x10000008 / 64) }) : State).uncached (3 : Nat) (0x10000008 : Nat) (8 : Nat) ∧ (wMem.updHart 3 (fun x => { x with reservation := some (0x10000008 / 64) }) : State).soundMemory ∧ ((wMem.updHart 3 (fun x => { x with reservation := some (0x10000008 / 64) }) : State).hart (3 : Nat)).reservation = some ((0x10000008 : Nat) / 64) ∧ coreHas (3 : Nat) (.sc (7 : Nat)) (8 : Nat) = true ∧ sramGrants (wMem.updHart 3 (fun x => { x with reservation := some (0x10000008 / 64) }) : State) (hartMaster (3 : Nat)) (0x10000008 : Nat) .write = true) ∧
    ((wMem : State).uncached (3 : Nat) (0x10000008 : Nat) (8 : Nat) ∧ ((wMem : State).hart (3 : Nat)).reservation ≠ some ((0x10000008 : Nat) / 64) ∧ coreHas (3 : Nat) (.sc (7 : Nat)) (8 : Nat) = true) ∧
    ((wMem : State).uncached (2 : Nat) (0x1000000C : Nat) (4 : Nat) ∧ (wMem : State).soundMemory ∧ coreHas (2 : Nat) (.amo (1 : Nat) (0xFFFFFFFF : Nat)) (4 : Nat) = true ∧ sramGrants (wMem : State) (hartMaster (2 : Nat)) (0x1000000C : Nat) .read = true ∧ sramGrants (wMem : State) (hartMaster (2 : Nat)) (0x1000000C : Nat) .write = true) ∧
    ((1 : Nat) < 5 ∧ inSram (0x10000000 : Nat) = true ∧ (0x10000000 : Nat) % 8 + (8 : Nat) ≤ 8 ∧ l2On (wLines : State) = true ∧ (wLines : State).ms.drain = false ∧ l1dOn (wLines : State) (1 : Nat) = false ∧ coreHas (1 : Nat) .load (8 : Nat) = true ∧ sramGrants (wLines : State) (hartMaster (1 : Nat)) (0x10000000 : Nat) .read = true ∧ l2Find (wLines : State) ((0x10000000 : Nat) / 64) = some (wLine : L2Line) ∧ (wLine : L2Line).bad = []) ∧
    ((2 : Nat) < 5 ∧ coreHas (2 : Nat) (.load : CoreAccess) (4 : Nat) = true ∧ (.load : CoreAccess) ≠ .fetch ∧ 8 < (0x10000006 : Nat) % 8 + (4 : Nat)) ∧
    ((4 : Nat) < (wMem : State).harts.length ∧ (4 : Nat) < 5 ∧ coreHas (4 : Nat) (.lr : CoreAccess) (8 : Nat) = false) ∧
    ((4 : Nat) < (wMem : State).harts.length ∧ (4 : Nat) < 5 ∧ coreHas (4 : Nat) (.load : CoreAccess) (4 : Nat) = true ∧ crossesBlock (.load : CoreAccess) (0x50000000 : Nat) (4 : Nat) = false ∧ mapped (0x50000000 : Nat) = false) ∧
    ((State.reset.setReg (Reg.ACL_SRAM_BASE 0) 0#32 : State).uncached (0 : Nat) (0x10000005 : Nat) (2 : Nat) ∧ coreHas (0 : Nat) (.store (0x12345 : Nat)) (2 : Nat) = true ∧ sramGrants (State.reset.setReg (Reg.ACL_SRAM_BASE 0) 0#32 : State) (hartMaster (0 : Nat)) (0x10000005 : Nat) .write = false) ∧
    ((3 : Nat) < 4 ∧ coreHas (3 : Nat) .fetch (4 : Nat) = true ∧ inSram (0x1000003E : Nat) = true ∧ inSram ((0x1000003E : Nat) + (4 : Nat) - 1) = true ∧ l2On (wMemX : State) = false ∧ (wMemX : State).ms.drain = false ∧ l1iOn (wMemX : State) (3 : Nat) = false ∧ (wMemX : State).soundMemory ∧ sramGrants (wMemX : State) (hartMaster (3 : Nat)) (0x1000003E : Nat) .exec = true) ∧
    ((3 : Nat) < (State.reset.setReg (Reg.ACL_SRAM_BASE 0) 0#32 : State).harts.length ∧ (3 : Nat) < 5 ∧ coreHas (3 : Nat) .fetch (4 : Nat) = true ∧ inSram (0x1000003E : Nat) = true ∧ (State.reset.setReg (Reg.ACL_SRAM_BASE 0) 0#32 : State).ms.drain = false ∧ sramGrants (State.reset.setReg (Reg.ACL_SRAM_BASE 0) 0#32 : State) (hartMaster (3 : Nat)) (0x1000003E : Nat) .exec = false) ∧
    ((0 : Nat) < (State.reset.setReg (Reg.ACL_SRAM_BASE 0) 0#32 : State).harts.length ∧ (0 : Nat) < 5 ∧ coreHas (0 : Nat) (.lr : CoreAccess) (8 : Nat) = true ∧ crossesBlock (.lr : CoreAccess) (0x10000008 : Nat) (8 : Nat) = false ∧ inSram (0x10000008 : Nat) = true ∧ (State.reset.setReg (Reg.ACL_SRAM_BASE 0) 0#32 : State).ms.drain = false ∧ ((.lr : CoreAccess) = .load ∨ (.lr : CoreAccess) = .lr) ∧ sramGrants (State.reset.setReg (Reg.ACL_SRAM_BASE 0) 0#32 : State) (hartMaster (0 : Nat)) (0x10000008 : Nat) .read = false) ∧
    ((3 : Nat) < ((State.reset.setReg (Reg.ACL_SRAM_BASE 0) 0#32).updHart 3 (fun x => { x with reservation := some (0x10000008 / 64) }) : State).harts.length ∧ (3 : Nat) < 5 ∧ coreHas (3 : Nat) (.sc (7 : Nat)) (8 : Nat) = true ∧ (0x10000008 : Nat) % 8 + (8 : Nat) ≤ 8 ∧ inSram (0x10000008 : Nat) = true ∧ ((State.reset.setReg (Reg.ACL_SRAM_BASE 0) 0#32).updHart 3 (fun x => { x with reservation := some (0x10000008 / 64) }) : State).ms.drain = false ∧ (((State.reset.setReg (Reg.ACL_SRAM_BASE 0) 0#32).updHart 3 (fun x => { x with reservation := some (0x10000008 / 64) }) : State).hart (3 : Nat)).reservation = some ((0x10000008 : Nat) / 64) ∧ sramGrants ((State.reset.setReg (Reg.ACL_SRAM_BASE 0) 0#32).updHart 3 (fun x => { x with reservation := some (0x10000008 / 64) }) : State) (hartMaster (3 : Nat)) (0x10000008 : Nat) .write = false) ∧
    ((3 : Nat) < (State.reset.setReg (Reg.ACL_SRAM_BASE 0) 0#32 : State).harts.length ∧ (3 : Nat) < 5 ∧ coreHas (3 : Nat) (.amo (0 : Nat) (7 : Nat)) (8 : Nat) = true ∧ (0x10000008 : Nat) % 8 + (8 : Nat) ≤ 8 ∧ inSram (0x10000008 : Nat) = true ∧ (State.reset.setReg (Reg.ACL_SRAM_BASE 0) 0#32 : State).ms.drain = false ∧ (sramGrants (State.reset.setReg (Reg.ACL_SRAM_BASE 0) 0#32 : State) (hartMaster (3 : Nat)) (0x10000008 : Nat) .read = false ∨ sramGrants (State.reset.setReg (Reg.ACL_SRAM_BASE 0) 0#32 : State) (hartMaster (3 : Nat)) (0x10000008 : Nat) .write = false)) ∧
    ((0 : Nat) < (wMem.setMs { wMem.ms with ueWords := [(0x10000008, 3)] } : State).harts.length ∧ (0 : Nat) < 5 ∧ (wMem.setMs { wMem.ms with ueWords := [(0x10000008, 3)] } : State).uncached (0 : Nat) (0x1000000C : Nat) (4 : Nat) ∧ coreHas (0 : Nat) (.lr : CoreAccess) (4 : Nat) = true ∧ ((.lr : CoreAccess) = .load ∨ (.lr : CoreAccess) = .lr) ∧ sramGrants (wMem.setMs { wMem.ms with ueWords := [(0x10000008, 3)] } : State) (hartMaster (0 : Nat)) (0x1000000C : Nat) .read = true ∧ isUe (wMem.setMs { wMem.ms with ueWords := [(0x10000008, 3)] } : State) ((0x1000000C : Nat) / 8 * 8) = true ∧ pageRepairs (wMem.setMs { wMem.ms with ueWords := [(0x10000008, 3)] } : State) ((0x1000000C : Nat) / 8 * 8) = false ∧ (List.range 64).all (fun i => (mirrorOf (wMem.setMs { wMem.ms with ueWords := [(0x10000008, 3)] } : State) ((0x1000000C : Nat) / 64 * 64 + i)).isNone) = true ∧ (wMem.setMs { wMem.ms with ueWords := [(0x10000008, 3)] } : State).reg Reg.MEMC_MACFAIL = 0#32) ∧
    ((1 : Nat) < 5 ∧ inSram (0x10000004 : Nat) = true ∧ (0x10000004 : Nat) % 8 + (4 : Nat) ≤ 8 ∧ l2On (wLines : State) = true ∧ (wLines : State).ms.drain = false ∧ l1dOn (wLines : State) (1 : Nat) = false ∧ coreHas (1 : Nat) (.store (0x55 : Nat)) (4 : Nat) = true ∧ sramGrants (wLines : State) (hartMaster (1 : Nat)) (0x10000004 : Nat) .write = true ∧ l2Find (wLines : State) ((0x10000004 : Nat) / 64) = some (wLine : L2Line) ∧ (wLine : L2Line).bad = []) ∧
    ((1 : Nat) < 5 ∧ inSram (0x10000044 : Nat) = true ∧ (0x10000044 : Nat) % 8 + (4 : Nat) ≤ 8 ∧ l2On (wLines.setMs { wMem.ms with l2 := [] } : State) = true ∧ (wLines.setMs { wMem.ms with l2 := [] } : State).ms.drain = false ∧ l1dOn (wLines.setMs { wMem.ms with l2 := [] } : State) (1 : Nat) = false ∧ coreHas (1 : Nat) .load (4 : Nat) = true ∧ sramGrants (wLines.setMs { wMem.ms with l2 := [] } : State) (hartMaster (1 : Nat)) (0x10000044 : Nat) .read = true ∧ l2Find (wLines.setMs { wMem.ms with l2 := [] } : State) ((0x10000044 : Nat) / 64) = none ∧ (wLines.setMs { wMem.ms with l2 := [] } : State).ms.l2 = [] ∧ (wLines.setMs { wMem.ms with l2 := [] } : State).soundMemory) ∧
    ((1 : Nat) < 4 ∧ inSram (0x10000000 : Nat) = true ∧ (0x10000000 : Nat) % 8 + (8 : Nat) ≤ 8 ∧ ((wLines.setBit (csr 1 0x7C0) 1 true).updHart 1 (fun x => { x with l1d := [⟨0x400000, 0x99#512⟩] }) : State).ms.drain = false ∧ coreHas (1 : Nat) .load (8 : Nat) = true ∧ sramGrants ((wLines.setBit (csr 1 0x7C0) 1 true).updHart 1 (fun x => { x with l1d := [⟨0x400000, 0x99#512⟩] }) : State) (hartMaster (1 : Nat)) (0x10000000 : Nat) .read = true ∧ l1Find ((wLines.setBit (csr 1 0x7C0) 1 true).updHart 1 (fun x => { x with l1d := [⟨0x400000, 0x99#512⟩] }) : State) (1 : Nat) false ((0x10000000 : Nat) / 64) = some (⟨0x400000, 0x99#512⟩ : CacheLine)) ∧
    ((4 : Nat) < (State.reset : State).harts.length ∧ (4 : Nat) < 5 ∧ coreHas (4 : Nat) .fetch (2 : Nat) = true ∧ inRom (0 : Nat) = true ∧ inRom ((0 : Nat) + (2 : Nat) - 1) = true ∧ (State.reset : State).ms.drain = false ∧ l2On (State.reset : State) = false ∧ l1iOn (State.reset : State) (4 : Nat) = false) ∧
    ((0 : Nat) < (State.reset : State).harts.length ∧ (0 : Nat) < 5 ∧ coreHas (0 : Nat) .load (8 : Nat) = true ∧ (0xFFF8 : Nat) % 8 + (8 : Nat) ≤ 8 ∧ inRom (0xFFF8 : Nat) = true ∧ (State.reset : State).ms.drain = false) ∧
    ((0 : Nat) < (State.reset : State).harts.length ∧ (0 : Nat) < 5 ∧ coreHas (0 : Nat) (.store 1 : CoreAccess) (4 : Nat) = true ∧ crossesBlock (.store 1 : CoreAccess) (0x08000000 : Nat) (4 : Nat) = false ∧ (inRom (0x08000000 : Nat) = true ∨ inFlash (0x08000000 : Nat) = true) ∧ (State.reset : State).ms.drain = false ∧ (.store 1 : CoreAccess) ≠ .fetch ∧ (.store 1 : CoreAccess) ≠ .load) ∧
    (4 < (State.reset : State).harts.length ∧ coreHas 4 (.fetch : CoreAccess) (4 : Nat) = true ∧ crossesBlock (.fetch : CoreAccess) (0x0103FFFC : Nat) (4 : Nat) = false ∧ inTcm (0x0103FFFC : Nat) = true ∧ inTcm ((0x0103FFFC : Nat) + (4 : Nat) - 1) = true ∧ ((.fetch : CoreAccess) = .load ∨ (.fetch : CoreAccess) = .fetch)) ∧
    (4 < (State.reset : State).harts.length ∧ coreHas 4 (.store (0x12345 : Nat)) (2 : Nat) = true ∧ (0x0103FFFE : Nat) % 8 + (2 : Nat) ≤ 8 ∧ inTcm (0x0103FFFE : Nat) = true) ∧
    ((0 : Nat) < (State.reset : State).harts.length ∧ (0 : Nat) < 4 ∧ coreHas (0 : Nat) (.load : CoreAccess) (8 : Nat) = true ∧ crossesBlock (.load : CoreAccess) (0x01000000 : Nat) (8 : Nat) = false ∧ inTcm (0x01000000 : Nat) = true) ∧
    ((0 : Nat) < (State.reset.setReg (Reg.ACL_FLASH_BASE 0) 0#32 : State).harts.length ∧ (0 : Nat) < 5 ∧ coreHas (0 : Nat) (.load : CoreAccess) (4 : Nat) = true ∧ crossesBlock (.load : CoreAccess) (0x08000000 : Nat) (4 : Nat) = false ∧ inFlash (0x08000000 : Nat) = true ∧ (State.reset.setReg (Reg.ACL_FLASH_BASE 0) 0#32 : State).ms.drain = false ∧ ((.load : CoreAccess) = .fetch ∨ (.load : CoreAccess) = .load) ∧ flashGrants (State.reset.setReg (Reg.ACL_FLASH_BASE 0) 0#32 : State) (hartMaster (0 : Nat)) (0x08000000 : Nat) (if (.load : CoreAccess) = .fetch then .exec else .read) = false) ∧
    ((0 : Nat) < (wFlc.setFlash { wFlc.flash with scan := .running } : State).harts.length ∧ (0 : Nat) < 5 ∧ coreHas (0 : Nat) (.load : CoreAccess) (4 : Nat) = true ∧ crossesBlock (.load : CoreAccess) (0x08000000 : Nat) (4 : Nat) = false ∧ inFlash (0x08000000 : Nat) = true ∧ (wFlc.setFlash { wFlc.flash with scan := .running } : State).ms.drain = false ∧ ((.load : CoreAccess) = .fetch ∨ (.load : CoreAccess) = .load) ∧ flashGrants (wFlc.setFlash { wFlc.flash with scan := .running } : State) (hartMaster (0 : Nat)) (0x08000000 : Nat) (if (.load : CoreAccess) = .fetch then .exec else .read) = true ∧ l1Find (wFlc.setFlash { wFlc.flash with scan := .running } : State) (0 : Nat) ((.load : CoreAccess) == .fetch) ((0x08000000 : Nat) / 64) = none ∧ l2On (wFlc.setFlash { wFlc.flash with scan := .running } : State) = false ∧ bankBusy (wFlc.setFlash { wFlc.flash with scan := .running } : State) (bankOf ((0x08000000 : Nat) - flashBase)) = true ∧ ((wFlc.setFlash { wFlc.flash with scan := .running } : State).bank (bankOf ((0x08000000 : Nat) - flashBase))).failed = false) ∧
    ((0 : Nat) < (wFlc.setFlash { wFlc.flash with words := [(1, .once 0x1122334455667788#64)] } : State).harts.length ∧ (0 : Nat) < 5 ∧ coreHas (0 : Nat) .load (4 : Nat) = true ∧ (0x0800000A : Nat) % 8 + (4 : Nat) ≤ 8 ∧ inFlash (0x0800000A : Nat) = true ∧ (wFlc.setFlash { wFlc.flash with words := [(1, .once 0x1122334455667788#64)] } : State).ms.drain = false ∧ flashGrants (wFlc.setFlash { wFlc.flash with words := [(1, .once 0x1122334455667788#64)] } : State) (hartMaster (0 : Nat)) (0x0800000A : Nat) .read = true ∧ l1dOn (wFlc.setFlash { wFlc.flash with words := [(1, .once 0x1122334455667788#64)] } : State) (0 : Nat) = false ∧ l2On (wFlc.setFlash { wFlc.flash with words := [(1, .once 0x1122334455667788#64)] } : State) = false ∧ bankBusy (wFlc.setFlash { wFlc.flash with words := [(1, .once 0x1122334455667788#64)] } : State) (bankOf ((0x0800000A : Nat) - flashBase)) = false ∧ ((wFlc.setFlash { wFlc.flash with words := [(1, .once 0x1122334455667788#64)] } : State).bank (bankOf ((0x0800000A : Nat) - flashBase))).failed = false ∧ (flashServe (wFlc.setFlash { wFlc.flash with words := [(1, .once 0x1122334455667788#64)] } : State) (hartMaster (0 : Nat)) ((0x0800000A : Nat) / 64 * 64) 64 []).2.1 = false) ∧
    ((0 : Nat) < (State.reset : State).harts.length ∧ (0 : Nat) < 5 ∧ coreHas (0 : Nat) .load (8 : Nat) = true ∧ (0x30000048 : Nat) % 8 + (8 : Nat) ≤ 8 ∧ 0x30000000 ≤ (0x30000048 : Nat) ∧ inPages (0x30000048 : Nat) = false ∧ mapped (0x30000048 : Nat) = true) ∧
    ((0 : Nat) < (State.reset : State).harts.length ∧ (0 : Nat) < 5 ∧ coreHas (0 : Nat) (.store (5 : Nat)) (8 : Nat) = true ∧ (0x30000048 : Nat) % 8 + (8 : Nat) ≤ 8 ∧ 0x30000000 ≤ (0x30000048 : Nat) ∧ inPages (0x30000048 : Nat) = false ∧ mapped (0x30000048 : Nat) = true) ∧
    ((0 : Nat) < (State.reset : State).harts.length ∧ (0 : Nat) < 5 ∧ coreHas (0 : Nat) (.amo 1 1 : CoreAccess) (4 : Nat) = true ∧ crossesBlock (.amo 1 1 : CoreAccess) (0x40000000 : Nat) (4 : Nat) = false ∧ mapped (0x40000000 : Nat) = true ∧ 0x20000000 ≤ (0x40000000 : Nat) ∧ ((.amo 1 1 : CoreAccess) = .fetch ∨ isAtomic (.amo 1 1 : CoreAccess) = true)) ∧
    ((4 : Nat) < (State.reset : State).harts.length ∧ (4 : Nat) < 5 ∧ coreHas (4 : Nat) .load (4 : Nat) = true ∧ (0x40000000 : Nat) % 4 + (4 : Nat) ≤ 4 ∧ inPages (0x40000000 : Nat) = true) ∧
    ((4 : Nat) < (State.reset : State).harts.length ∧ (4 : Nat) < 5 ∧ (0x40000004 : Nat) % 4 = 0 ∧ inPages (0x40000004 : Nat) = true) ∧
    ((4 : Nat) < (State.reset : State).harts.length ∧ (4 : Nat) < 5 ∧ coreHas (4 : Nat) .load (4 : Nat) = true ∧ (0x20000000 : Nat) % 8 + (4 : Nat) ≤ 8 ∧ 0x20000000 ≤ (0x20000000 : Nat) ∧ (0x20000000 : Nat) < 0x30000000 ∧ mapped (0x20000000 : Nat) = true) ∧
    ((4 : Nat) < (State.reset : State).harts.length ∧ (4 : Nat) < 5 ∧ coreHas (4 : Nat) (.store (4 : Nat)) (4 : Nat) = true ∧ (0x20000000 : Nat) % 8 + (4 : Nat) ≤ 8 ∧ 0x20000000 ≤ (0x20000000 : Nat) ∧ (0x20000000 : Nat) < 0x30000000 ∧ mapped (0x20000000 : Nat) = true) := by
  refine ⟨?_, ?_, ?_, ?_, ?_, ?_, ?_, ?_, ?_, ?_, ?_, ?_, ?_, ?_, ?_, ?_, ?_, ?_, ?_, ?_, ?_, ?_, ?_, ?_, ?_, ?_, ?_, ?_, ?_, ?_, ?_, ?_, ?_, ?_, ?_, ?_⟩ <;> decide +kernel

/-- The hypotheses of Obligations.CachesAreMaintained can be met, clause by clause. -/
theorem witness_CachesAreMaintained :
    ((0 : Nat) < 4 ∧ l2Find (wLines : State) ((0x10000010 : Nat) / 64) = some (wLine : L2Line) ∧ (wLine : L2Line).dirty = true ∧ (wLine : L2Line).bad = [] ∧ (wLines : State).soundMemory) ∧
    ((0 : Nat) < 4 ∧ l2Find (wLines : State) ((0x10000040 : Nat) / 64) = none) ∧
    ((0 : Nat) < 4) ∧
    ((0 : Nat) < 4 ∧ l2Find (wLines : State) ((0x10000010 : Nat) / 64) = some (wLine : L2Line) ∧ (wLine : L2Line).dirty = true ∧ (wLine : L2Line).bad = [] ∧ (wLines : State).soundMemory) ∧
    ((0 : Nat) < 4 ∧ (wLines : State).variant = .ln7740 ∧ inSram ((0x10000050 : Nat) / 64 * 64) = true ∧ sramGrants (wLines : State) (hartMaster (0 : Nat)) ((0x10000050 : Nat) / 64 * 64) .write = true ∧ l2On (wLines : State) = true) ∧
    ((0 : Nat) < 4 ∧ (wMem : State).variant = .ln7740 ∧ inSram ((0x10000050 : Nat) / 64 * 64) = true ∧ sramGrants (wMem : State) (hartMaster (0 : Nat)) ((0x10000050 : Nat) / 64 * 64) .write = true ∧ l2On (wMem : State) = false ∧ (wMem : State).soundMemory) ∧
    ((4 : Nat) < (wMem : State).harts.length ∧ (4 ≤ (4 : Nat) ∨ (wMem : State).variant = .ln7720)) ∧
    ((4 : Nat) < (wMem : State).harts.length ∧ 4 ≤ (4 : Nat)) ∧
    ((wMem.setMs { wMem.ms with mopRun := true } : State).ms.mopRun = true) ∧
    (Takes (wLines : State) (.sup : Master) Reg.L2C_CTRL (0 : Word) (newOf (wLines : State) (.sup : Master) Reg.L2C_CTRL (0 : Word) : Word) ∧ l2On (wLines : State) = true ∧ fieldOf (newOf (wLines : State) (.sup : Master) Reg.L2C_CTRL (0 : Word) : Word) 0 1 = 0 ∧ (wLines : State).ms.drain = false) ∧
    ((wMem.setMs { wMem.ms with drain := true } : State).ms.drain = true) ∧
    (Takes (wMem : State) (.sup : Master) Reg.MEMC_PPROT_LO (0x80000000 : Word) (newOf (wMem : State) (.sup : Master) Reg.MEMC_PPROT_LO (0x80000000 : Word) : Word) ∧ (31 : Nat) < 32 ∧ fieldOf (newOf (wMem : State) (.sup : Master) Reg.MEMC_PPROT_LO (0x80000000 : Word) : Word) (31 : Nat) 1 = 1 ∧ (wMem : State).ms.ppDone.contains (31 : Nat) = false) ∧
    (Takes (wMem.setMs { wMem.ms with ppDone := [39] } : State) (.sup : Master) Reg.MEMC_PPROT_HI (0 : Word) (newOf (wMem.setMs { wMem.ms with ppDone := [39] } : State) (.sup : Master) Reg.MEMC_PPROT_HI (0 : Word) : Word) ∧ (7 : Nat) < 8 ∧ fieldOf (newOf (wMem.setMs { wMem.ms with ppDone := [39] } : State) (.sup : Master) Reg.MEMC_PPROT_HI (0 : Word) : Word) (7 : Nat) 1 = 0) ∧
    ((wMem.setMs { wMem.ms with ppPending := [0, 39] } : State).ms.ppPending = (0 : Nat) :: ([39] : List Nat)) ∧
    (((wMem.setBit Reg.MEMC_SCRUB 0 true).setReg Reg.MEMC_SCRUB_POS 0x127FFFC0#32 : State).bit Reg.MEMC_SCRUB 0 = true ∧ ((wMem.setBit Reg.MEMC_SCRUB 0 true).setReg Reg.MEMC_SCRUB_POS 0x127FFFC0#32 : State).fld Reg.HQ_PS 0 3 ≠ 4) ∧
    ((0 : Nat) < 4 ∧ l2Find (wLines.setMs { wMem.ms with l2 := [{ wLine with dirty := false }] } : State) ((0x10000010 : Nat) / 64) = some ({ wLine with dirty := false } : L2Line) ∧ ({ wLine with dirty := false } : L2Line).dirty = false) ∧
    ((4 : Nat) < (wLines : State).harts.length ∧ 4 ≤ (4 : Nat)) ∧
    ((4 : Nat) < (wLines : State).harts.length ∧ 4 ≤ (4 : Nat)) ∧
    ((0 : Nat) < 4 ∧ (l2Find (wLines : State) ((0x10000040 : Nat) / 64)).all (fun l => !l.dirty) = true) ∧
    ((0 : Nat) < 4 ∧ (0 : Nat) < (wMem : State).harts.length ∧ (wMem : State).variant = .ln7740 ∧ inSram ((0x08000000 : Nat) / 64 * 64) = false) ∧
    ((0 : Nat) < 4 ∧ (State.reset.setReg (Reg.ACL_SRAM_BASE 0) 0#32 : State).variant = .ln7740 ∧ inSram ((0x10000000 : Nat) / 64 * 64) = true ∧ sramGrants (State.reset.setReg (Reg.ACL_SRAM_BASE 0) 0#32 : State) (hartMaster (0 : Nat)) ((0x10000000 : Nat) / 64 * 64) .write = false) ∧
    (Takes (wLines : State) (.sup : Master) Reg.L2C_MOP (0x80000001 : Word) (newOf (wLines : State) (.sup : Master) Reg.L2C_MOP (0x80000001 : Word) : Word) ∧ fieldOf (0x80000001 : Word) 31 1 = 1 ∧ fieldOf (0x80000001 : Word) 0 3 = 1 ∧ mopRefused (wLines : State) 1 (fieldOf (0x80000001 : Word) 4 1 == 1) = false) ∧
    (Takes (wLines.setBit Reg.L2C_MSW 31 true : State) (.sup : Master) Reg.L2C_MOP (0x80000011 : Word) (newOf (wLines.setBit Reg.L2C_MSW 31 true : State) (.sup : Master) Reg.L2C_MOP (0x80000011 : Word) : Word) ∧ fieldOf (0x80000011 : Word) 31 1 = 1 ∧ fieldOf (0x80000011 : Word) 0 3 = 1 ∧ mopRefused (wLines.setBit Reg.L2C_MSW 31 true : State) 1 (fieldOf (0x80000011 : Word) 4 1 == 1) = false ∧ fieldOf (0x80000011 : Word) 4 1 = 1) ∧
    (Takes (wLines : State) (.sup : Master) Reg.L2C_MOP (0x80000001 : Word) (newOf (wLines : State) (.sup : Master) Reg.L2C_MOP (0x80000001 : Word) : Word) ∧ fieldOf (0x80000001 : Word) 31 1 = 1 ∧ fieldOf (0x80000001 : Word) 0 3 = 1 ∧ mopRefused (wLines : State) 1 (fieldOf (0x80000001 : Word) 4 1 == 1) = false ∧ (mopNamed (wLines : State) (fieldOf (0x80000001 : Word) 4 1 == 1)) = [(wLine : L2Line)] ∧ (wLine : L2Line).dirty = true ∧ (wLine : L2Line).bad = [] ∧ (wLines : State).soundMemory) ∧
    (Takes (wLines : State) (.sup : Master) Reg.L2C_MOP (0x80000002 : Word) (newOf (wLines : State) (.sup : Master) Reg.L2C_MOP (0x80000002 : Word) : Word) ∧ fieldOf (0x80000002 : Word) 31 1 = 1 ∧ fieldOf (0x80000002 : Word) 0 3 = 2 ∧ mopRefused (wLines : State) 2 (fieldOf (0x80000002 : Word) 4 1 == 1) = false) ∧
    (Takes (wLines : State) (.sup : Master) Reg.L2C_MOP (0x80000003 : Word) (newOf (wLines : State) (.sup : Master) Reg.L2C_MOP (0x80000003 : Word) : Word) ∧ fieldOf (0x80000003 : Word) 31 1 = 1 ∧ fieldOf (0x80000003 : Word) 0 3 = 3 ∧ mopRefused (wLines : State) 3 (fieldOf (0x80000003 : Word) 4 1 == 1) = false) ∧
    (Takes (wLines.setReg Reg.L2C_LOCK 1#32 : State) (.sup : Master) Reg.L2C_MOP (0x80000003 : Word) (newOf (wLines.setReg Reg.L2C_LOCK 1#32 : State) (.sup : Master) Reg.L2C_MOP (0x80000003 : Word) : Word) ∧ fieldOf (0x80000003 : Word) 31 1 = 1 ∧ fieldOf (0x80000003 : Word) 0 3 = 3 ∧ mopRefused (wLines.setReg Reg.L2C_LOCK 1#32 : State) 3 (fieldOf (0x80000003 : Word) 4 1 == 1) = false ∧ (mopNamed (wLines.setReg Reg.L2C_LOCK 1#32 : State) (fieldOf (0x80000003 : Word) 4 1 == 1)) = [(wLine : L2Line)] ∧ (wLine : L2Line).dirty = true ∧ (wLine : L2Line).bad = [] ∧ (wLines.setReg Reg.L2C_LOCK 1#32 : State).soundMemory) ∧
    (Takes (wLines : State) (.sup : Master) Reg.L2C_MOP (0x80000004 : Word) (newOf (wLines : State) (.sup : Master) Reg.L2C_MOP (0x80000004 : Word) : Word) ∧ fieldOf (0x80000004 : Word) 31 1 = 1 ∧ fieldOf (0x80000004 : Word) 0 3 = 4 ∧ mopRefused (wLines : State) 4 (fieldOf (0x80000004 : Word) 4 1 == 1) = false ∧ (wLines : State).variant = .ln7740 ∧ mopLast (wLines : State) = mopFirst (wLines : State)) ∧
    (Takes ({ wLines with variant := .ln7720 } : State) (.sup : Master) Reg.L2C_MOP (0x80000004 : Word) (newOf ({ wLines with variant := .ln7720 } : State) (.sup : Master) Reg.L2C_MOP (0x80000004 : Word) : Word) ∧ fieldOf (0x80000004 : Word) 31 1 = 1 ∧ (mopRefused ({ wLines with variant := .ln7720 } : State) (fieldOf (0x80000004 : Word) 0 3) (fieldOf (0x80000004 : Word) 4 1 == 1) = true ∨ fieldOf (0x80000004 : Word) 0 3 = 4 ∧ ({ wLines with variant := .ln7720 } : State).variant = .ln7720)) ∧
    (Takes ({ wLines with variant := .ln7720 } : State) (.sup : Master) Reg.L2C_MOP (0x80000004 : Word) (newOf ({ wLines with variant := .ln7720 } : State) (.sup : Master) Reg.L2C_MOP (0x80000004 : Word) : Word) ∧ fieldOf (0x80000004 : Word) 31 1 = 1 ∧ (mopRefused ({ wLines with variant := .ln7720 } : State) (fieldOf (0x80000004 : Word) 0 3) (fieldOf (0x80000004 : Word) 4 1 == 1) = true ∨ fieldOf (0x80000004 : Word) 0 3 = 4 ∧ ({ wLines with variant := .ln7720 } : State).variant = .ln7720)) ∧
    (Takes ({ wLines with variant := .ln7720 } : State) (.sup : Master) Reg.L2C_MOP (0x80000004 : Word) (newOf ({ wLines with variant := .ln7720 } : State) (.sup : Master) Reg.L2C_MOP (0x80000004 : Word) : Word) ∧ fieldOf (0x80000004 : Word) 31 1 = 1 ∧ (mopRefused ({ wLines with variant := .ln7720 } : State) (fieldOf (0x80000004 : Word) 0 3) (fieldOf (0x80000004 : Word) 4 1 == 1) = true ∨ fieldOf (0x80000004 : Word) 0 3 = 4 ∧ ({ wLines with variant := .ln7720 } : State).variant = .ln7720)) ∧
    (Takes ({ wLines with variant := .ln7720 } : State) (.sup : Master) Reg.L2C_MOP (0x80000004 : Word) (newOf ({ wLines with variant := .ln7720 } : State) (.sup : Master) Reg.L2C_MOP (0x80000004 : Word) : Word) ∧ fieldOf (0x80000004 : Word) 31 1 = 1 ∧ (mopRefused ({ wLines with variant := .ln7720 } : State) (fieldOf (0x80000004 : Word) 0 3) (fieldOf (0x80000004 : Word) 4 1 == 1) = true ∨ fieldOf (0x80000004 : Word) 0 3 = 4 ∧ ({ wLines with variant := .ln7720 } : State).variant = .ln7720)) ∧
    (Takes (wLines : State) (.sup : Master) Reg.L2C_MOP (0x00000021 : Word) (newOf (wLines : State) (.sup : Master) Reg.L2C_MOP (0x00000021 : Word) : Word) ∧ fieldOf (0x00000021 : Word) 31 1 = 0) ∧
    (Takes (wLines : State) (.sup : Master) Reg.L2C_MOP (0x00000021 : Word) (newOf (wLines : State) (.sup : Master) Reg.L2C_MOP (0x00000021 : Word) : Word) ∧ fieldOf (0x00000021 : Word) 31 1 = 0) ∧
    (Takes (wLines : State) (.sup : Master) Reg.L2C_MOP (0x00000021 : Word) (newOf (wLines : State) (.sup : Master) Reg.L2C_MOP (0x00000021 : Word) : Word) ∧ fieldOf (0x00000021 : Word) 31 1 = 0) ∧
    (Takes (wLines : State) (.sup : Master) Reg.L2C_MOP (0x00000021 : Word) (newOf (wLines : State) (.sup : Master) Reg.L2C_MOP (0x00000021 : Word) : Word) ∧ fieldOf (0x00000021 : Word) 31 1 = 0) ∧
    ((wMem : State).wf = true ∧ (wMem : State).ms.mopRun = false) ∧
    (Takes (wMem : State) (.sup : Master) Reg.L2C_CTRL (1 : Word) (newOf (wMem : State) (.sup : Master) Reg.L2C_CTRL (1 : Word) : Word) ∧ (wMem : State).ms.drain = false ∧ (l2On (wMem : State) = false ∨ fieldOf (newOf (wMem : State) (.sup : Master) Reg.L2C_CTRL (1 : Word) : Word) 0 1 = 1)) ∧
    (Takes ((wMem.setMs { wMem.ms with drain := true }).setReg Reg.L2C_CTRL 1#32 : State) (.sup : Master) Reg.L2C_CTRL (0 : Word) (newOf ((wMem.setMs { wMem.ms with drain := true }).setReg Reg.L2C_CTRL 1#32 : State) (.sup : Master) Reg.L2C_CTRL (0 : Word) : Word) ∧ ((wMem.setMs { wMem.ms with drain := true }).setReg Reg.L2C_CTRL 1#32 : State).ms.drain = true) ∧
    (Takes (wLines : State) (.sup : Master) Reg.L2C_CTRL (0 : Word) (newOf (wLines : State) (.sup : Master) Reg.L2C_CTRL (0 : Word) : Word) ∧ l2On (wLines : State) = true ∧ fieldOf (newOf (wLines : State) (.sup : Master) Reg.L2C_CTRL (0 : Word) : Word) 0 1 = 0 ∧ (wLines : State).ms.drain = false ∧ (wLines : State).ms.l2 = [(wLine : L2Line)] ∧ (wLine : L2Line).dirty = true ∧ (wLine : L2Line).bad = [] ∧ (wLines : State).soundMemory) ∧
    ((wMem : State).wf = true ∧ (wMem : State).ms.drain = false) ∧
    ((wMem : State).wf = true ∧ (wMem : State).ms.ppPending = []) ∧
    (Takes (wMem : State) (.sup : Master) (if (false : Bool) then Reg.MEMC_PPROT_HI else Reg.MEMC_PPROT_LO) (0x80000000 : Word) (newOf (wMem : State) (.sup : Master) (if (false : Bool) then Reg.MEMC_PPROT_HI else Reg.MEMC_PPROT_LO) (0x80000000 : Word) : Word)) ∧
    ((wMem.setBit Reg.MEMC_SCRUB 0 false : State).wf = true ∧ ((wMem.setBit Reg.MEMC_SCRUB 0 false : State).bit Reg.MEMC_SCRUB 0 = false ∨ (wMem.setBit Reg.MEMC_SCRUB 0 false : State).fld Reg.HQ_PS 0 3 = 4)) ∧
    ((((wMem.setBit Reg.MEMC_SCRUB 0 true).setReg Reg.MEMC_SCRUB_POS 0x127FFFC0#32).setMs { wMem.ms with ceWords := [0x127FFFC8] } : State).bit Reg.MEMC_SCRUB 0 = true ∧ (((wMem.setBit Reg.MEMC_SCRUB 0 true).setReg Reg.MEMC_SCRUB_POS 0x127FFFC0#32).setMs { wMem.ms with ceWords := [0x127FFFC8] } : State).fld Reg.HQ_PS 0 3 ≠ 4 ∧ (0x127FFFC0 : Nat) = ((((wMem.setBit Reg.MEMC_SCRUB 0 true).setReg Reg.MEMC_SCRUB_POS 0x127FFFC0#32).setMs { wMem.ms with ceWords := [0x127FFFC8] } : State).reg Reg.MEMC_SCRUB_POS).toNat / 64 * 64 ∧ macroFailed (((wMem.setBit Reg.MEMC_SCRUB 0 true).setReg Reg.MEMC_SCRUB_POS 0x127FFFC0#32).setMs { wMem.ms with ceWords := [0x127FFFC8] } : State) (0x127FFFC0 : Nat) = false ∧ inSram (0x127FFFC0 : Nat) = true) ∧
    (((wMem.setBit Reg.MEMC_SCRUB 0 true).setReg Reg.MEMC_SCRUB_POS 0x10000000#32 : State).bit Reg.MEMC_SCRUB 0 = true ∧ ((wMem.setBit Reg.MEMC_SCRUB 0 true).setReg Reg.MEMC_SCRUB_POS 0x10000000#32 : State).fld Reg.HQ_PS 0 3 ≠ 4 ∧ (0x10000000 : Nat) = (((wMem.setBit Reg.MEMC_SCRUB 0 true).setReg Reg.MEMC_SCRUB_POS 0x10000000#32 : State).reg Reg.MEMC_SCRUB_POS).toNat / 64 * 64 ∧ inSram (0x10000000 : Nat) = true ∧ ((wMem.setBit Reg.MEMC_SCRUB 0 true).setReg Reg.MEMC_SCRUB_POS 0x10000000#32 : State).soundMemory ∧ ((wMem.setBit Reg.MEMC_SCRUB 0 true).setReg Reg.MEMC_SCRUB_POS 0x10000000#32 : State).ms.ppDone = [] ∧ (7 : Nat) < 8 ∧ ([(7, 3)] : List (Nat × Nat)) = [((7 : Nat), 3)]) := by
  refine ⟨?_, ?_, ?_, ?_, ?_, ?_, ?_, ?_, ?_, ?_, ?_, ?_, ?_, ?_, ?_, ?_, ?_, ?_, ?_, ?_, ?_, ?_, ?_, ?_, ?_, ?_, ?_, ?_, ?_, ?_, ?_, ?_, ?_, ?_, ?_, ?_, ?_, ?_, ?_, ?_, ?_, ?_, ?_, ?_, ?_, ?_⟩ <;> decide +kernel

/-- The hypotheses of Obligations.FlashProgramsAndErases can be met, clause by clause. -/
theorem witness_FlashProgramsAndErases :
    ((0 : Nat) < 2 ∧ (0 : Nat) < (wFlc : State).flash.banks.length ∧ (wFlc : State).soundMemory ∧ Takes (wFlc : State) (.sup : Master) (Reg.FLC_B_CMD (0 : Nat)) 0x80000001#32 (newOf (wFlc : State) (.sup : Master) (Reg.FLC_B_CMD (0 : Nat)) 0x80000001#32 : Word) ∧ flashBase ≤ ((wFlc : State).reg (Reg.FLC_B_ADDR (0 : Nat))).toNat ∧ flcRange (0 : Nat) false (((wFlc : State).reg (Reg.FLC_B_ADDR (0 : Nat))).toNat - flashBase) ((wFlc : State).fld (Reg.FLC_B_CNT (0 : Nat)) 0 6) = true ∧ sramRange ((wFlc : State).reg (Reg.FLC_B_SRC (0 : Nat))).toNat (8 * (wFlc : State).fld (Reg.FLC_B_CNT (0 : Nat)) 0 6) = true ∧ sramGrants (wFlc : State) .flc ((wFlc : State).reg (Reg.FLC_B_SRC (0 : Nat))).toNat .read = true ∧ sramGrants (wFlc : State) .flc (((wFlc : State).reg (Reg.FLC_B_SRC (0 : Nat))).toNat + 8 * (wFlc : State).fld (Reg.FLC_B_CNT (0 : Nat)) 0 6 - 1) .read = true ∧ flcVerdict (wFlc : State) (.sup : Master) (0 : Nat) false (((wFlc : State).reg (Reg.FLC_B_ADDR (0 : Nat))).toNat - flashBase) ((List.range ((wFlc : State).fld (Reg.FLC_B_CNT (0 : Nat)) 0 6)).map (fun i => BitVec.ofNat 64 ((wFlc : State).load (((wFlc : State).reg (Reg.FLC_B_SRC (0 : Nat))).toNat + 8 * i) 8))) true true (false : Bool) = 0) ∧
    ((0 : Nat) < 2 ∧ (0 : Nat) < (wFlc.setReg (Reg.FLC_B_CNT 0) 33#32 : State).flash.banks.length ∧ Takes (wFlc.setReg (Reg.FLC_B_CNT 0) 33#32 : State) (.sup : Master) (Reg.FLC_B_CMD (0 : Nat)) 0x80000001#32 (newOf (wFlc.setReg (Reg.FLC_B_CNT 0) 33#32 : State) (.sup : Master) (Reg.FLC_B_CMD (0 : Nat)) 0x80000001#32 : Word) ∧ (6 : Nat) = flcVerdict (wFlc.setReg (Reg.FLC_B_CNT 0) 33#32 : State) (.sup : Master) (0 : Nat) false (((wFlc.setReg (Reg.FLC_B_CNT 0) 33#32 : State).reg (Reg.FLC_B_ADDR (0 : Nat))).toNat - flashBase) ((List.range ((wFlc.setReg (Reg.FLC_B_CNT 0) 33#32 : State).fld (Reg.FLC_B_CNT (0 : Nat)) 0 6)).map (fun i => BitVec.ofNat 64 ((wFlc.setReg (Reg.FLC_B_CNT 0) 33#32 : State).load (((wFlc.setReg (Reg.FLC_B_CNT 0) 33#32 : State).reg (Reg.FLC_B_SRC (0 : Nat))).toNat + 8 * i) 8))) (decide (flashBase ≤ ((wFlc.setReg (Reg.FLC_B_CNT 0) 33#32 : State).reg (Reg.FLC_B_ADDR (0 : Nat))).toNat) && flcRange (0 : Nat) false (((wFlc.setReg (Reg.FLC_B_CNT 0) 33#32 : State).reg (Reg.FLC_B_ADDR (0 : Nat))).toNat - flashBase) ((wFlc.setReg (Reg.FLC_B_CNT 0) 33#32 : State).fld (Reg.FLC_B_CNT (0 : Nat)) 0 6) && sramRange ((wFlc.setReg (Reg.FLC_B_CNT 0) 33#32 : State).reg (Reg.FLC_B_SRC (0 : Nat))).toNat (8 * (wFlc.setReg (Reg.FLC_B_CNT 0) 33#32 : State).fld (Reg.FLC_B_CNT (0 : Nat)) 0 6)) (sramGrants (wFlc.setReg (Reg.FLC_B_CNT 0) 33#32 : State) .flc ((wFlc.setReg (Reg.FLC_B_CNT 0) 33#32 : State).reg (Reg.FLC_B_SRC (0 : Nat))).toNat .read && sramGrants (wFlc.setReg (Reg.FLC_B_CNT 0) 33#32 : State) .flc (((wFlc.setReg (Reg.FLC_B_CNT 0) 33#32 : State).reg (Reg.FLC_B_SRC (0 : Nat))).toNat + 8 * (wFlc.setReg (Reg.FLC_B_CNT 0) 33#32 : State).fld (Reg.FLC_B_CNT (0 : Nat)) 0 6 - 1) .read) (false : Bool) ∧ (6 : Nat) ≠ 0) ∧
    ((0 : Nat) < 2 ∧ (0 : Nat) < (wFlc : State).flash.banks.length ∧ Takes (wFlc : State) (.sup : Master) (Reg.FLC_B_CMD (0 : Nat)) 0x80000002#32 (newOf (wFlc : State) (.sup : Master) (Reg.FLC_B_CMD (0 : Nat)) 0x80000002#32 : Word) ∧ flashBase ≤ ((wFlc : State).reg (Reg.FLC_B_ADDR (0 : Nat))).toNat ∧ flcRange (0 : Nat) true (((wFlc : State).reg (Reg.FLC_B_ADDR (0 : Nat))).toNat - flashBase) 0 = true ∧ flcVerdict (wFlc : State) (.sup : Master) (0 : Nat) true (((wFlc : State).reg (Reg.FLC_B_ADDR (0 : Nat))).toNat - flashBase) [] true true (false : Bool) = 0) ∧
    ((1 : Nat) < 2 ∧ (1 : Nat) < (wFlc : State).flash.banks.length ∧ Takes (wFlc : State) (.sup : Master) (Reg.FLC_B_CMD (1 : Nat)) 0x80000002#32 (newOf (wFlc : State) (.sup : Master) (Reg.FLC_B_CMD (1 : Nat)) 0x80000002#32 : Word) ∧ (6 : Nat) = flcVerdict (wFlc : State) (.sup : Master) (1 : Nat) true (((wFlc : State).reg (Reg.FLC_B_ADDR (1 : Nat))).toNat - flashBase) [] (decide (flashBase ≤ ((wFlc : State).reg (Reg.FLC_B_ADDR (1 : Nat))).toNat) && flcRange (1 : Nat) true (((wFlc : State).reg (Reg.FLC_B_ADDR (1 : Nat))).toNat - flashBase) 0) true (false : Bool) ∧ (6 : Nat) ≠ 0) ∧
    ((0 : Nat) < 2 ∧ (0 : Nat) < ({ wFlc with flash := { (wFlc).flash with banks := (wFlc).flash.banks.set 0 { (wFlc).bank 0 with op := some ⟨⟨0, true, 0x2000, [], 0⟩, 0, 1, 0⟩ } } } : State).flash.banks.length ∧ Takes ({ wFlc with flash := { (wFlc).flash with banks := (wFlc).flash.banks.set 0 { (wFlc).bank 0 with op := some ⟨⟨0, true, 0x2000, [], 0⟩, 0, 1, 0⟩ } } } : State) (.sup : Master) (Reg.FLC_B_CMD (0 : Nat)) 0x80000003#32 (newOf ({ wFlc with flash := { (wFlc).flash with banks := (wFlc).flash.banks.set 0 { (wFlc).bank 0 with op := some ⟨⟨0, true, 0x2000, [], 0⟩, 0, 1, 0⟩ } } } : State) (.sup : Master) (Reg.FLC_B_CMD (0 : Nat)) 0x80000003#32 : Word) ∧ (({ wFlc with flash := { (wFlc).flash with banks := (wFlc).flash.banks.set 0 { (wFlc).bank 0 with op := some ⟨⟨0, true, 0x2000, [], 0⟩, 0, 1, 0⟩ } } } : State).bank (0 : Nat)).failed = false ∧ (({ wFlc with flash := { (wFlc).flash with banks := (wFlc).flash.banks.set 0 { (wFlc).bank 0 with op := some ⟨⟨0, true, 0x2000, [], 0⟩, 0, 1, 0⟩ } } } : State).bank (0 : Nat)).op = some (⟨⟨0, true, 0x2000, [], 0⟩, 0, 1, 0⟩ : FlashOp) ∧ (⟨⟨0, true, 0x2000, [], 0⟩, 0, 1, 0⟩ : FlashOp).req.erase = true) ∧
    ((0 : Nat) < 2 ∧ (0 : Nat) < (wFlc : State).flash.banks.length ∧ Takes (wFlc : State) (.sup : Master) (Reg.FLC_B_CMD (0 : Nat)) 0x80000003#32 (newOf (wFlc : State) (.sup : Master) (Reg.FLC_B_CMD (0 : Nat)) 0x80000003#32 : Word) ∧ (((wFlc : State).bank (0 : Nat)).failed = true ∨ ((wFlc : State).bank (0 : Nat)).op.all (fun o => !o.req.erase) = true)) ∧
    ((0 : Nat) < 2 ∧ (0 : Nat) < ({ wFlc with flash := { (wFlc).flash with banks := (wFlc).flash.banks.set 0 { (wFlc).bank 0 with susp := some ⟨⟨0, true, 0x2000, [], 0⟩, 0, 1, 0⟩ } } } : State).flash.banks.length ∧ Takes ({ wFlc with flash := { (wFlc).flash with banks := (wFlc).flash.banks.set 0 { (wFlc).bank 0 with susp := some ⟨⟨0, true, 0x2000, [], 0⟩, 0, 1, 0⟩ } } } : State) (.sup : Master) (Reg.FLC_B_CMD (0 : Nat)) 0x80000004#32 (newOf ({ wFlc with flash := { (wFlc).flash with banks := (wFlc).flash.banks.set 0 { (wFlc).bank 0 with susp := some ⟨⟨0, true, 0x2000, [], 0⟩, 0, 1, 0⟩ } } } : State) (.sup : Master) (Reg.FLC_B_CMD (0 : Nat)) 0x80000004#32 : Word) ∧ (({ wFlc with flash := { (wFlc).flash with banks := (wFlc).flash.banks.set 0 { (wFlc).bank 0 with susp := some ⟨⟨0, true, 0x2000, [], 0⟩, 0, 1, 0⟩ } } } : State).bank (0 : Nat)).failed = false ∧ (({ wFlc with flash := { (wFlc).flash with banks := (wFlc).flash.banks.set 0 { (wFlc).bank 0 with susp := some ⟨⟨0, true, 0x2000, [], 0⟩, 0, 1, 0⟩ } } } : State).bank (0 : Nat)).op = none ∧ (({ wFlc with flash := { (wFlc).flash with banks := (wFlc).flash.banks.set 0 { (wFlc).bank 0 with susp := some ⟨⟨0, true, 0x2000, [], 0⟩, 0, 1, 0⟩ } } } : State).bank (0 : Nat)).susp = some (⟨⟨0, true, 0x2000, [], 0⟩, 0, 1, 0⟩ : FlashOp)) ∧
    ((0 : Nat) < 2 ∧ Takes (wFlc : State) (.sup : Master) (Reg.FLC_B_CMD (0 : Nat)) 0x80000004#32 (newOf (wFlc : State) (.sup : Master) (Reg.FLC_B_CMD (0 : Nat)) 0x80000004#32 : Word) ∧ (((wFlc : State).bank (0 : Nat)).failed = true ∨ ((wFlc : State).bank (0 : Nat)).susp = none ∨ ((wFlc : State).bank (0 : Nat)).op.isSome = true)) ∧
    ((0 : Nat) < 2 ∧ (0 : Nat) < ({ { wScanned with flash := { (wScanned).flash with words := [(0x401, .once 2#64)] } } with flash := { ({ wScanned with flash := { (wScanned).flash with words := [(0x401, .once 2#64)] } }).flash with banks := ({ wScanned with flash := { (wScanned).flash with words := [(0x401, .once 2#64)] } }).flash.banks.set 0 { ({ wScanned with flash := { (wScanned).flash with words := [(0x401, .once 2#64)] } }).bank 0 with op := some ⟨⟨0, false, 0x2000, [5#64, 6#64], 0⟩, 0, 0, 0⟩ } } } : State).flash.banks.length ∧ (({ { wScanned with flash := { (wScanned).flash with words := [(0x401, .once 2#64)] } } with flash := { ({ wScanned with flash := { (wScanned).flash with words := [(0x401, .once 2#64)] } }).flash with banks := ({ wScanned with flash := { (wScanned).flash with words := [(0x401, .once 2#64)] } }).flash.banks.set 0 { ({ wScanned with flash := { (wScanned).flash with words := [(0x401, .once 2#64)] } }).bank 0 with op := some ⟨⟨0, false, 0x2000, [5#64, 6#64], 0⟩, 0, 0, 0⟩ } } } : State).bank (0 : Nat)).waiting = [] ∧ (({ { wScanned with flash := { (wScanned).flash with words := [(0x401, .once 2#64)] } } with flash := { ({ wScanned with flash := { (wScanned).flash with words := [(0x401, .once 2#64)] } }).flash with banks := ({ wScanned with flash := { (wScanned).flash with words := [(0x401, .once 2#64)] } }).flash.banks.set 0 { ({ wScanned with flash := { (wScanned).flash with words := [(0x401, .once 2#64)] } }).bank 0 with op := some ⟨⟨0, false, 0x2000, [5#64, 6#64], 0⟩, 0, 0, 0⟩ } } } : State).bank (0 : Nat)).auto = false ∧ ({ { wScanned with flash := { (wScanned).flash with words := [(0x401, .once 2#64)] } } with flash := { ({ wScanned with flash := { (wScanned).flash with words := [(0x401, .once 2#64)] } }).flash with banks := ({ wScanned with flash := { (wScanned).flash with words := [(0x401, .once 2#64)] } }).flash.banks.set 0 { ({ wScanned with flash := { (wScanned).flash with words := [(0x401, .once 2#64)] } }).bank 0 with op := some ⟨⟨0, false, 0x2000, [5#64, 6#64], 0⟩, 0, 0, 0⟩ } } } : State).flash.reads = [] ∧ (({ { wScanned with flash := { (wScanned).flash with words := [(0x401, .once 2#64)] } } with flash := { ({ wScanned with flash := { (wScanned).flash with words := [(0x401, .once 2#64)] } }).flash with banks := ({ wScanned with flash := { (wScanned).flash with words := [(0x401, .once 2#64)] } }).flash.banks.set 0 { ({ wScanned with flash := { (wScanned).flash with words := [(0x401, .once 2#64)] } }).bank 0 with op := some ⟨⟨0, false, 0x2000, [5#64, 6#64], 0⟩, 0, 0, 0⟩ } } } : State).bank (0 : Nat)).op = some (⟨⟨0, false, 0x2000, [5#64, 6#64], 0⟩, 0, 0, 0⟩ : FlashOp) ∧ (⟨⟨0, false, 0x2000, [5#64, 6#64], 0⟩, 0, 0, 0⟩ : FlashOp).req.erase = false ∧ (⟨⟨0, false, 0x2000, [5#64, 6#64], 0⟩, 0, 0, 0⟩ : FlashOp).req.port = 0) ∧
    ((0 : Nat) < 2 ∧ (0 : Nat) < ({ { wScanned with flash := { (wScanned).flash with words := [(0x401, .once 2#64)] } } with flash := { ({ wScanned with flash := { (wScanned).flash with words := [(0x401, .once 2#64)] } }).flash with banks := ({ wScanned with flash := { (wScanned).flash with words := [(0x401, .once 2#64)] } }).flash.banks.set 0 { ({ wScanned with flash := { (wScanned).flash with words := [(0x401, .once 2#64)] } }).bank 0 with op := some ⟨⟨0, false, 0x2000, [5#64, 6#64], 0⟩, 0, 0, 0⟩ } } } : State).flash.banks.length ∧ (({ { wScanned with flash := { (wScanned).flash with words := [(0x401, .once 2#64)] } } with flash := { ({ wScanned with flash := { (wScanned).flash with words := [(0x401, .once 2#64)] } }).flash with banks := ({ wScanned with flash := { (wScanned).flash with words := [(0x401, .once 2#64)] } }).flash.banks.set 0 { ({ wScanned with flash := { (wScanned).flash with words := [(0x401, .once 2#64)] } }).bank 0 with op := some ⟨⟨0, false, 0x2000, [5#64, 6#64], 0⟩, 0, 0, 0⟩ } } } : State).bank (0 : Nat)).waiting = [] ∧ (({ { wScanned with flash := { (wScanned).flash with words := [(0x401, .once 2#64)] } } with flash := { ({ wScanned with flash := { (wScanned).flash with words := [(0x401, .once 2#64)] } }).flash with banks := ({ wScanned with flash := { (wScanned).flash with words := [(0x401, .once 2#64)] } }).flash.banks.set 0 { ({ wScanned with flash := { (wScanned).flash with words := [(0x401, .once 2#64)] } }).bank 0 with op := some ⟨⟨0, false, 0x2000, [5#64, 6#64], 0⟩, 0, 0, 0⟩ } } } : State).bank (0 : Nat)).auto = false ∧ ({ { wScanned with flash := { (wScanned).flash with words := [(0x401, .once 2#64)] } } with flash := { ({ wScanned with flash := { (wScanned).flash with words := [(0x401, .once 2#64)] } }).flash with banks := ({ wScanned with flash := { (wScanned).flash with words := [(0x401, .once 2#64)] } }).flash.banks.set 0 { ({ wScanned with flash := { (wScanned).flash with words := [(0x401, .once 2#64)] } }).bank 0 with op := some ⟨⟨0, false, 0x2000, [5#64, 6#64], 0⟩, 0, 0, 0⟩ } } } : State).flash.reads = [] ∧ (({ { wScanned with flash := { (wScanned).flash with words := [(0x401, .once 2#64)] } } with flash := { ({ wScanned with flash := { (wScanned).flash with words := [(0x401, .once 2#64)] } }).flash with banks := ({ wScanned with flash := { (wScanned).flash with words := [(0x401, .once 2#64)] } }).flash.banks.set 0 { ({ wScanned with flash := { (wScanned).flash with words := [(0x401, .once 2#64)] } }).bank 0 with op := some ⟨⟨0, false, 0x2000, [5#64, 6#64], 0⟩, 0, 0, 0⟩ } } } : State).bank (0 : Nat)).op = some (⟨⟨0, false, 0x2000, [5#64, 6#64], 0⟩, 0, 0, 0⟩ : FlashOp) ∧ (⟨⟨0, false, 0x2000, [5#64, 6#64], 0⟩, 0, 0, 0⟩ : FlashOp).req.erase = false ∧ (⟨⟨0, false, 0x2000, [5#64, 6#64], 0⟩, 0, 0, 0⟩ : FlashOp).req.port = 0) ∧
    ((wFlc : State).wf = true ∧ (((wFlc : State).bank (0 : Nat)).op.all (fun o => o.req.erase) = true)) ∧
    ((0 : Nat) < 2 ∧ (0 : Nat) < ({ { wScanned with flash := { (wScanned).flash with words := [(0x401, .once 2#64)] } } with flash := { ({ wScanned with flash := { (wScanned).flash with words := [(0x401, .once 2#64)] } }).flash with banks := ({ wScanned with flash := { (wScanned).flash with words := [(0x401, .once 2#64)] } }).flash.banks.set 0 { ({ wScanned with flash := { (wScanned).flash with words := [(0x401, .once 2#64)] } }).bank 0 with op := some ⟨⟨0, true, 0x2000, [], 0⟩, 0, 0x1FF001, 0⟩ } } } : State).flash.banks.length ∧ (({ { wScanned with flash := { (wScanned).flash with words := [(0x401, .once 2#64)] } } with flash := { ({ wScanned with flash := { (wScanned).flash with words := [(0x401, .once 2#64)] } }).flash with banks := ({ wScanned with flash := { (wScanned).flash with words := [(0x401, .once 2#64)] } }).flash.banks.set 0 { ({ wScanned with flash := { (wScanned).flash with words := [(0x401, .once 2#64)] } }).bank 0 with op := some ⟨⟨0, true, 0x2000, [], 0⟩, 0, 0x1FF001, 0⟩ } } } : State).bank (0 : Nat)).waiting = [] ∧ (({ { wScanned with flash := { (wScanned).flash with words := [(0x401, .once 2#64)] } } with flash := { ({ wScanned with flash := { (wScanned).flash with words := [(0x401, .once 2#64)] } }).flash with banks := ({ wScanned with flash := { (wScanned).flash with words := [(0x401, .once 2#64)] } }).flash.banks.set 0 { ({ wScanned with flash := { (wScanned).flash with words := [(0x401, .once 2#64)] } }).bank 0 with op := some ⟨⟨0, true, 0x2000, [], 0⟩, 0, 0x1FF001, 0⟩ } } } : State).bank (0 : Nat)).auto = false ∧ ({ { wScanned with flash := { (wScanned).flash with words := [(0x401, .once 2#64)] } } with flash := { ({ wScanned with flash := { (wScanned).flash with words := [(0x401, .once 2#64)] } }).flash with banks := ({ wScanned with flash := { (wScanned).flash with words := [(0x401, .once 2#64)] } }).flash.banks.set 0 { ({ wScanned with flash := { (wScanned).flash with words := [(0x401, .once 2#64)] } }).bank 0 with op := some ⟨⟨0, true, 0x2000, [], 0⟩, 0, 0x1FF001, 0⟩ } } } : State).flash.reads = [] ∧ (({ { wScanned with flash := { (wScanned).flash with words := [(0x401, .once 2#64)] } } with flash := { ({ wScanned with flash := { (wScanned).flash with words := [(0x401, .once 2#64)] } }).flash with banks := ({ wScanned with flash := { (wScanned).flash with words := [(0x401, .once 2#64)] } }).flash.banks.set 0 { ({ wScanned with flash := { (wScanned).flash with words := [(0x401, .once 2#64)] } }).bank 0 with op := some ⟨⟨0, true, 0x2000, [], 0⟩, 0, 0x1FF001, 0⟩ } } } : State).bank (0 : Nat)).op = some (⟨⟨0, true, 0x2000, [], 0⟩, 0, 0x1FF001, 0⟩ : FlashOp) ∧ (⟨⟨0, true, 0x2000, [], 0⟩, 0, 0x1FF001, 0⟩ : FlashOp).req.erase = true ∧ (⟨⟨0, true, 0x2000, [], 0⟩, 0, 0x1FF001, 0⟩ : FlashOp).req.port = 0 ∧ bankOf (⟨⟨0, true, 0x2000, [], 0⟩, 0, 0x1FF001, 0⟩ : FlashOp).req.addr = (0 : Nat) ∧ sectorIn (⟨⟨0, true, 0x2000, [], 0⟩, 0, 0x1FF001, 0⟩ : FlashOp).req.addr < 0x3FE ∧ (⟨⟨0, true, 0x2000, [], 0⟩, 0, 0x1FF001, 0⟩ : FlashOp).slot / 512 ≠ sectorAbs (0 : Nat) (sectorIn (⟨⟨0, true, 0x2000, [], 0⟩, 0, 0x1FF001, 0⟩ : FlashOp).req.addr) ∧ (({ { wScanned with flash := { (wScanned).flash with words := [(0x401, .once 2#64)] } } with flash := { ({ wScanned with flash := { (wScanned).flash with words := [(0x401, .once 2#64)] } }).flash with banks := ({ wScanned with flash := { (wScanned).flash with words := [(0x401, .once 2#64)] } }).flash.banks.set 0 { ({ wScanned with flash := { (wScanned).flash with words := [(0x401, .once 2#64)] } }).bank 0 with op := some ⟨⟨0, true, 0x2000, [], 0⟩, 0, 0x1FF001, 0⟩ } } } : State).bank (0 : Nat)).active ≤ 1 ∧ (({ { wScanned with flash := { (wScanned).flash with words := [(0x401, .once 2#64)] } } with flash := { ({ wScanned with flash := { (wScanned).flash with words := [(0x401, .once 2#64)] } }).flash with banks := ({ wScanned with flash := { (wScanned).flash with words := [(0x401, .once 2#64)] } }).flash.banks.set 0 { ({ wScanned with flash := { (wScanned).flash with words := [(0x401, .once 2#64)] } }).bank 0 with op := some ⟨⟨0, true, 0x2000, [], 0⟩, 0, 0x1FF001, 0⟩ } } } : State).bank (0 : Nat)).bad.length < 4) ∧
    ((0 : Nat) < 2 ∧ (0 : Nat) < ({ wScanned with flash := { (wScanned).flash with banks := (wScanned).flash.banks.set 0 { (wScanned).bank 0 with op := some ⟨⟨0, true, 0x2000, [], 0⟩, 0, 0x1FF001, 0⟩ } } } : State).flash.banks.length ∧ (({ wScanned with flash := { (wScanned).flash with banks := (wScanned).flash.banks.set 0 { (wScanned).bank 0 with op := some ⟨⟨0, true, 0x2000, [], 0⟩, 0, 0x1FF001, 0⟩ } } } : State).bank (0 : Nat)).waiting = [] ∧ (({ wScanned with flash := { (wScanned).flash with banks := (wScanned).flash.banks.set 0 { (wScanned).bank 0 with op := some ⟨⟨0, true, 0x2000, [], 0⟩, 0, 0x1FF001, 0⟩ } } } : State).bank (0 : Nat)).auto = false ∧ ({ wScanned with flash := { (wScanned).flash with banks := (wScanned).flash.banks.set 0 { (wScanned).bank 0 with op := some ⟨⟨0, true, 0x2000, [], 0⟩, 0, 0x1FF001, 0⟩ } } } : State).flash.reads = [] ∧ (({ wScanned with flash := { (wScanned).flash with banks := (wScanned).flash.banks.set 0 { (wScanned).bank 0 with op := some ⟨⟨0, true, 0x2000, [], 0⟩, 0, 0x1FF001, 0⟩ } } } : State).bank (0 : Nat)).op = some (⟨⟨0, true, 0x2000, [], 0⟩, 0, 0x1FF001, 0⟩ : FlashOp) ∧ (⟨⟨0, true, 0x2000, [], 0⟩, 0, 0x1FF001, 0⟩ : FlashOp).req.erase = true ∧ (⟨⟨0, true, 0x2000, [], 0⟩, 0, 0x1FF001, 0⟩ : FlashOp).req.port = 0 ∧ (({ wScanned with flash := { (wScanned).flash with banks := (wScanned).flash.banks.set 0 { (wScanned).bank 0 with op := some ⟨⟨0, true, 0x2000, [], 0⟩, 0, 0x1FF001, 0⟩ } } } : State).bank (0 : Nat)).bad.length < 3) ∧
    ((0 : Nat) < 2 ∧ (0 : Nat) < ({ wScanned with flash := { (wScanned).flash with banks := (wScanned).flash.banks.set 0 { (wScanned).bank 0 with bad := [3, 4, 5], op := some ⟨⟨0, true, 0x2000, [], 0⟩, 0, 0x1FF001, 0⟩ } } } : State).flash.banks.length ∧ (({ wScanned with flash := { (wScanned).flash with banks := (wScanned).flash.banks.set 0 { (wScanned).bank 0 with bad := [3, 4, 5], op := some ⟨⟨0, true, 0x2000, [], 0⟩, 0, 0x1FF001, 0⟩ } } } : State).bank (0 : Nat)).waiting = [] ∧ (({ wScanned with flash := { (wScanned).flash with banks := (wScanned).flash.banks.set 0 { (wScanned).bank 0 with bad := [3, 4, 5], op := some ⟨⟨0, true, 0x2000, [], 0⟩, 0, 0x1FF001, 0⟩ } } } : State).bank (0 : Nat)).auto = false ∧ ({ wScanned with flash := { (wScanned).flash with banks := (wScanned).flash.banks.set 0 { (wScanned).bank 0 with bad := [3, 4, 5], op := some ⟨⟨0, true, 0x2000, [], 0⟩, 0, 0x1FF001, 0⟩ } } } : State).flash.reads = [] ∧ (({ wScanned with flash := { (wScanned).flash with banks := (wScanned).flash.banks.set 0 { (wScanned).bank 0 with bad := [3, 4, 5], op := some ⟨⟨0, true, 0x2000, [], 0⟩, 0, 0x1FF001, 0⟩ } } } : State).bank (0 : Nat)).op = some (⟨⟨0, true, 0x2000, [], 0⟩, 0, 0x1FF001, 0⟩ : FlashOp) ∧ (⟨⟨0, true, 0x2000, [], 0⟩, 0, 0x1FF001, 0⟩ : FlashOp).req.erase = true ∧ (⟨⟨0, true, 0x2000, [], 0⟩, 0, 0x1FF001, 0⟩ : FlashOp).req.port = 0 ∧ (({ wScanned with flash := { (wScanned).flash with banks := (wScanned).flash.banks.set 0 { (wScanned).bank 0 with bad := [3, 4, 5], op := some ⟨⟨0, true, 0x2000, [], 0⟩, 0, 0x1FF001, 0⟩ } } } : State).bank (0 : Nat)).failed = false ∧ (({ wScanned with flash := { (wScanned).flash with banks := (wScanned).flash.banks.set 0 { (wScanned).bank 0 with bad := [3, 4, 5], op := some ⟨⟨0, true, 0x2000, [], 0⟩, 0, 0x1FF001, 0⟩ } } } : State).bank (0 : Nat)).bad.length = 3 ∧ (({ wScanned with flash := { (wScanned).flash with banks := (wScanned).flash.banks.set 0 { (wScanned).bank 0 with bad := [3, 4, 5], op := some ⟨⟨0, true, 0x2000, [], 0⟩, 0, 0x1FF001, 0⟩ } } } : State).bank (0 : Nat)).bad.contains (sectorIn (⟨⟨0, true, 0x2000, [], 0⟩, 0, 0x1FF001, 0⟩ : FlashOp).req.addr) = false) ∧
    ((wFlc : State).wf = true ∧ (((wFlc : State).bank (0 : Nat)).op.all (fun o => !o.req.erase) = true)) ∧
    ((0 : Nat) < 2 ∧ (0 : Nat) < ({ { wScanned with flash := { (wScanned).flash with banks := (wScanned).flash.banks.set 0 { (wScanned).bank 0 with suspReq := true, op := some ⟨⟨0, true, 0x2000, [], 0⟩, 0, 0x1FF001, 0⟩ } } } with ticks := 100000 } : State).flash.banks.length ∧ (({ { wScanned with flash := { (wScanned).flash with banks := (wScanned).flash.banks.set 0 { (wScanned).bank 0 with suspReq := true, op := some ⟨⟨0, true, 0x2000, [], 0⟩, 0, 0x1FF001, 0⟩ } } } with ticks := 100000 } : State).bank (0 : Nat)).waiting = [] ∧ (({ { wScanned with flash := { (wScanned).flash with banks := (wScanned).flash.banks.set 0 { (wScanned).bank 0 with suspReq := true, op := some ⟨⟨0, true, 0x2000, [], 0⟩, 0, 0x1FF001, 0⟩ } } } with ticks := 100000 } : State).bank (0 : Nat)).auto = false ∧ ({ { wScanned with flash := { (wScanned).flash with banks := (wScanned).flash.banks.set 0 { (wScanned).bank 0 with suspReq := true, op := some ⟨⟨0, true, 0x2000, [], 0⟩, 0, 0x1FF001, 0⟩ } } } with ticks := 100000 } : State).flash.reads = [] ∧ (({ { wScanned with flash := { (wScanned).flash with banks := (wScanned).flash.banks.set 0 { (wScanned).bank 0 with suspReq := true, op := some ⟨⟨0, true, 0x2000, [], 0⟩, 0, 0x1FF001, 0⟩ } } } with ticks := 100000 } : State).bank (0 : Nat)).op = some (⟨⟨0, true, 0x2000, [], 0⟩, 0, 0x1FF001, 0⟩ : FlashOp) ∧ (⟨⟨0, true, 0x2000, [], 0⟩, 0, 0x1FF001, 0⟩ : FlashOp).req.erase = true ∧ (({ { wScanned with flash := { (wScanned).flash with banks := (wScanned).flash.banks.set 0 { (wScanned).bank 0 with suspReq := true, op := some ⟨⟨0, true, 0x2000, [], 0⟩, 0, 0x1FF001, 0⟩ } } } with ticks := 100000 } : State).bank (0 : Nat)).suspReq = true ∧ 8 * ({ { wScanned with flash := { (wScanned).flash with banks := (wScanned).flash.banks.set 0 { (wScanned).bank 0 with suspReq := true, op := some ⟨⟨0, true, 0x2000, [], 0⟩, 0, 0x1FF001, 0⟩ } } } with ticks := 100000 } : State).fld Reg.FLC_CFG 0 10 ≤ 5 * (({ { wScanned with flash := { (wScanned).flash with banks := (wScanned).flash.banks.set 0 { (wScanned).bank 0 with suspReq := true, op := some ⟨⟨0, true, 0x2000, [], 0⟩, 0, 0x1FF001, 0⟩ } } } with ticks := 100000 } : State).ticks - (⟨⟨0, true, 0x2000, [], 0⟩, 0, 0x1FF001, 0⟩ : FlashOp).since)) ∧
    (({ wScanned with flash := { (wScanned).flash with banks := (wScanned).flash.banks.set 0 { (wScanned).bank 0 with suspReq := true, op := some ⟨⟨0, true, 0x2000, [], 0⟩, 0, 0x1FF001, 0⟩ } } } : State).wf = true ∧ ((({ wScanned with flash := { (wScanned).flash with banks := (wScanned).flash.banks.set 0 { (wScanned).bank 0 with suspReq := true, op := some ⟨⟨0, true, 0x2000, [], 0⟩, 0, 0x1FF001, 0⟩ } } } : State).bank (0 : Nat)).op.all (fun o => !(o.req.erase && (({ wScanned with flash := { (wScanned).flash with banks := (wScanned).flash.banks.set 0 { (wScanned).bank 0 with suspReq := true, op := some ⟨⟨0, true, 0x2000, [], 0⟩, 0, 0x1FF001, 0⟩ } } } : State).bank (0 : Nat)).suspReq && decide (8 * ({ wScanned with flash := { (wScanned).flash with banks := (wScanned).flash.banks.set 0 { (wScanned).bank 0 with suspReq := true, op := some ⟨⟨0, true, 0x2000, [], 0⟩, 0, 0x1FF001, 0⟩ } } } : State).fld Reg.FLC_CFG 0 10 ≤ 5 * (({ wScanned with flash := { (wScanned).flash with banks := (wScanned).flash.banks.set 0 { (wScanned).bank 0 with suspReq := true, op := some ⟨⟨0, true, 0x2000, [], 0⟩, 0, 0x1FF001, 0⟩ } } } : State).ticks - o.since)))) = true)) ∧
    (flashBase ≤ (0x08002005 : Nat) ∧ flashGrants ({ wFlc with flash := { (wFlc).flash with words := [(0x401, .once 2#64)] } } : State) (.sup : Master) (0x08002005 : Nat) .read = true ∧ bankBusy ({ wFlc with flash := { (wFlc).flash with words := [(0x401, .once 2#64)] } } : State) (bankOf ((0x08002005 : Nat) - flashBase)) = false ∧ (({ wFlc with flash := { (wFlc).flash with words := [(0x401, .once 2#64)] } } : State).bank (bankOf ((0x08002005 : Nat) - flashBase))).failed = false ∧ 1 ≤ (8 : Nat) ∧ (List.range (8 : Nat)).all (fun i => (flashLook ({ wFlc with flash := { (wFlc).flash with words := [(0x401, .once 2#64)] } } : State) (((0x08002005 : Nat) + i - flashBase) / 8)).isSome) = true ∧ ([(0x400, false)] : List (Nat × Bool)).all (fun e => !e.2) = true) ∧
    (flashBase ≤ (0x08002008 : Nat) ∧ (0x08002008 : Nat) % 8 = 0 ∧ flashGrants ({ wFlc with flash := { (wFlc).flash with words := [(0x401, .once 2#64)] } } : State) (.sup : Master) (0x08002008 : Nat) .read = true ∧ bankBusy ({ wFlc with flash := { (wFlc).flash with words := [(0x401, .once 2#64)] } } : State) (bankOf ((0x08002008 : Nat) - flashBase)) = false ∧ (({ wFlc with flash := { (wFlc).flash with words := [(0x401, .once 2#64)] } } : State).bank (bankOf ((0x08002008 : Nat) - flashBase))).failed = false ∧ ((([(0x401, true)] : List (Nat × Bool)).find? (fun e => e.1 == ((0x08002008 : Nat) - flashBase) / 8)).map (·.2) = some true ∨ flashLook ({ wFlc with flash := { (wFlc).flash with words := [(0x401, .once 2#64)] } } : State) (((0x08002008 : Nat) - flashBase) / 8) = none)) ∧
    (flashGrants ({ wFlc with flash := { (wFlc).flash with banks := (wFlc).flash.banks.set 0 { (wFlc).bank 0 with failed := true } } } : State) (.sup : Master) (0x08002008 : Nat) .read = true ∧ (({ wFlc with flash := { (wFlc).flash with banks := (wFlc).flash.banks.set 0 { (wFlc).bank 0 with failed := true } } } : State).bank (bankOf ((0x08002008 : Nat) - flashBase))).failed = true) ∧
    (flashGrants ({ wFlc with flash := { (wFlc).flash with banks := (wFlc).flash.banks.set 0 { (wFlc).bank 0 with op := some ⟨⟨0, true, 0x2000, [], 0⟩, 0, 1, 0⟩ } } } : State) (.sup : Master) (0x08002008 : Nat) .read = true ∧ bankBusy ({ wFlc with flash := { (wFlc).flash with banks := (wFlc).flash.banks.set 0 { (wFlc).bank 0 with op := some ⟨⟨0, true, 0x2000, [], 0⟩, 0, 1, 0⟩ } } } : State) (bankOf ((0x08002008 : Nat) - flashBase)) = true ∧ (({ wFlc with flash := { (wFlc).flash with banks := (wFlc).flash.banks.set 0 { (wFlc).bank 0 with op := some ⟨⟨0, true, 0x2000, [], 0⟩, 0, 1, 0⟩ } } } : State).bank (bankOf ((0x08002008 : Nat) - flashBase))).failed = false) ∧
    (flashGrants (State.reset.setReg (Reg.ACL_FLASH_BASE 0) 0#32 : State) (.dbg : Master) (0x08002008 : Nat) .read = false) ∧
    ((State.reset : State).flash.scan = .due) ∧
    ((wFlc : State).wf = true ∧ (wFlc : State).flash.scan ≠ .due) ∧
    ((wFlc : State).wf = true ∧ (wFlc : State).flash.scan ≠ .running) ∧
    (({ wScanned with flash := { (wScanned).flash with scan := .running, words := [(0x401, .once 2#64), (0x1FF000 / 8 * 0 + sectorAbs 0 0x3FE * 512, .once (intentWord 2 7 true true))] } } : State).flash.scan = .running ∧ ({ wScanned with flash := { (wScanned).flash with scan := .running, words := [(0x401, .once 2#64), (0x1FF000 / 8 * 0 + sectorAbs 0 0x3FE * 512, .once (intentWord 2 7 true true))] } } : State).flash.reads = [] ∧ [0, 1].all (fun b => (({ wScanned with flash := { (wScanned).flash with scan := .running, words := [(0x401, .once 2#64), (0x1FF000 / 8 * 0 + sectorAbs 0 0x3FE * 512, .once (intentWord 2 7 true true))] } } : State).bank b).waiting.isEmpty && !(({ wScanned with flash := { (wScanned).flash with scan := .running, words := [(0x401, .once 2#64), (0x1FF000 / 8 * 0 + sectorAbs 0 0x3FE * 512, .once (intentWord 2 7 true true))] } } : State).bank b).auto) = true ∧ scanList ({ wScanned with flash := { (wScanned).flash with scan := .running, words := [(0x401, .once 2#64), (0x1FF000 / 8 * 0 + sectorAbs 0 0x3FE * 512, .once (intentWord 2 7 true true))] } } : State) 0 = [((sectorAbs 0 0x3FE * 512 : Nat), (2 : Nat), true)] ∧ (scanList ({ wScanned with flash := { (wScanned).flash with scan := .running, words := [(0x401, .once 2#64), (0x1FF000 / 8 * 0 + sectorAbs 0 0x3FE * 512, .once (intentWord 2 7 true true))] } } : State) 1).all (fun r => !r.2.2) = true ∧ (2 : Nat) < 0x3FE) ∧
    (({ wScanned with flash := { (wScanned).flash with scan := .running } } : State).flash.scan = .running ∧ ({ wScanned with flash := { (wScanned).flash with scan := .running } } : State).flash.reads = [] ∧ [0, 1].all (fun b => (({ wScanned with flash := { (wScanned).flash with scan := .running } } : State).bank b).waiting.isEmpty && !(({ wScanned with flash := { (wScanned).flash with scan := .running } } : State).bank b).auto) = true ∧ (scanList ({ wScanned with flash := { (wScanned).flash with scan := .running } } : State) 0 ++ scanList ({ wScanned with flash := { (wScanned).flash with scan := .running } } : State) 1).all (fun r => !r.2.2) = true) := by
  refine ⟨?_, ?_, ?_, ?_, ?_, ?_, ?_, ?_, ?_, ?_, ?_, ?_, ?_, ?_, ?_, ?_, ?_, ?_, ?_, ?_, ?_, ?_, ?_, ?_, ?_, ?_, ?_⟩ <;> decide +kernel

/-- The hypotheses of Obligations.OptionsAreProgrammedOnce can be met, clause by clause. -/
theorem witness_OptionsAreProgrammedOnce :
    (Takes (wOpt : State) .sup Reg.OPT_CMD 1#32 (newOf (wOpt : State) .sup Reg.OPT_CMD 1#32 : Word) ∧ optVerdict (wOpt : State) .sup ((wOpt : State).fld Reg.OPT_WADDR 0 9) (BitVec.ofNat 64 (((wOpt : State).reg Reg.OPT_WDATA_LO).toNat + ((wOpt : State).reg Reg.OPT_WDATA_HI).toNat * 2 ^ 32)) = 0) ∧
    (Takes (wAll pgOPT : State) (.cc0 : Master) Reg.OPT_CMD 1#32 (newOf (wAll pgOPT : State) (.cc0 : Master) Reg.OPT_CMD 1#32 : Word) ∧ optVerdict (wAll pgOPT : State) (.cc0 : Master) ((wAll pgOPT : State).fld Reg.OPT_WADDR 0 9) (BitVec.ofNat 64 (((wAll pgOPT : State).reg Reg.OPT_WDATA_LO).toNat + ((wAll pgOPT : State).reg Reg.OPT_WDATA_HI).toNat * 2 ^ 32)) ≠ 0) ∧
    ((wOpt.setOpt { wOpt.opt with prog := some (127, 5#64) } : State).opt.prog = some ((127 : Nat), (5#64 : BitVec 64))) ∧
    (Takes (wOpt : State) .sup Reg.OPT_CMD 0x100#32 (newOf (wOpt : State) .sup Reg.OPT_CMD 0x100#32 : Word) ∧ (wOpt : State).opt.prog = none ∧ ((wOpt : State).optWord 62).n < 2) ∧
    (Takes (wOpt : State) (.cc0 : Master) Reg.OPT_CMD 0x100#32 (newOf (wOpt : State) (.cc0 : Master) Reg.OPT_CMD 0x100#32 : Word) ∧ ((wOpt : State).opt.prog.isSome = true ∨ (.cc0 : Master) ≠ .sup ∨ 2 ≤ ((wOpt : State).optWord 62).n)) ∧
    ((wOpt : State).wf = true ∧ (wOpt : State).opt.prog = none) ∧
    (Takes (wOpt : State) .sec Reg.OPT_AUTH (1 : Word) (newOf (wOpt : State) .sec Reg.OPT_AUTH (1 : Word) : Word) ∧ fieldOf (1 : Word) 0 1 = 1 ∧ (wOpt : State).opt.auth.isSome = true) ∧
    (Takes (wOpt : State) .sec Reg.OPT_AUTH (0 : Word) (newOf (wOpt : State) .sec Reg.OPT_AUTH (0 : Word) : Word) ∧ (fieldOf (0 : Word) 0 1 = 0 ∨ (wOpt : State).opt.auth = none)) ∧
    ((.sup : Master) ≠ .sec ∧ Takes (wAll pgOPT : State) (.sup : Master) Reg.OPT_AUTH (1 : Word) (newOf (wAll pgOPT : State) (.sup : Master) Reg.OPT_AUTH (1 : Word) : Word)) ∧
    (({ wOpt with ticks := 16000000 } : State).bit (Reg.STAT pgOPT) 9 = true ∧ ({ wOpt with ticks := 16000000 } : State).opt.authAt + 10 * ticksPerSecond ≤ ({ wOpt with ticks := 16000000 } : State).ticks) ∧
    (({ wOpt with ticks := 15999999 } : State).wf = true ∧ (({ wOpt with ticks := 15999999 } : State).bit (Reg.STAT pgOPT) 9 = false ∨ ({ wOpt with ticks := 15999999 } : State).ticks < ({ wOpt with ticks := 15999999 } : State).opt.authAt + 10 * ticksPerSecond)) := by
  refine ⟨?_, ?_, ?_, ?_, ?_, ?_, ?_, ?_, ?_, ?_, ?_⟩ <;> decide +kernel

/-- The hypotheses of Obligations.SecurityOperationsRunAndDeliver can be met, clause by clause. -/
theorem witness_SecurityOperationsRunAndDeliver :
    (Takes (wSec : State) (.sup : Master) Reg.SEC_CMD 0x80000001#32 (newOf (wSec : State) (.sup : Master) Reg.SEC_CMD 0x80000001#32 : Word) ∧ (wSec : State).bit Reg.SEC_CMD 31 = false ∧ 1 ≤ (wSec : State).fld Reg.SEC_LEN 0 16 ∧ (wSec : State).soundMemory ∧ sramRange ((wSec : State).reg Reg.SEC_BUF).toNat ((wSec : State).fld Reg.SEC_LEN 0 16) = true ∧ (List.range (((wSec : State).fld Reg.SEC_LEN 0 16) / 4096 + 2)).all (fun i => decide (((wSec : State).fld Reg.SEC_LEN 0 16) + 4095 ≤ i * 4096) || sramGrants (wSec : State) .sec (min (((wSec : State).reg Reg.SEC_BUF).toNat + i * 4096) (((wSec : State).reg Reg.SEC_BUF).toNat + ((wSec : State).fld Reg.SEC_LEN 0 16) - 1)) .read) = true) ∧
    (Takes (wSec : State) (.sup : Master) Reg.SEC_CMD 0x80000002#32 (newOf (wSec : State) (.sup : Master) Reg.SEC_CMD 0x80000002#32 : Word) ∧ (wSec : State).bit Reg.SEC_CMD 31 = false ∧ 1 ≤ (wSec : State).fld Reg.SEC_LEN 0 16 ∧ (wSec : State).fld Reg.SEC_LEN 0 16 ≤ 4096 ∧ (wSec : State).soundMemory ∧ sramRange ((wSec : State).reg Reg.SEC_BUF).toNat (5264 + (wSec : State).fld Reg.SEC_LEN 0 16) = true ∧ (List.range ((5264 + (wSec : State).fld Reg.SEC_LEN 0 16) / 4096 + 2)).all (fun i => decide ((5264 + (wSec : State).fld Reg.SEC_LEN 0 16) + 4095 ≤ i * 4096) || sramGrants (wSec : State) .sec (min (((wSec : State).reg Reg.SEC_BUF).toNat + i * 4096) (((wSec : State).reg Reg.SEC_BUF).toNat + (5264 + (wSec : State).fld Reg.SEC_LEN 0 16) - 1)) .read) = true) ∧
    (Takes (wSec : State) (.sup : Master) Reg.SEC_CMD 0x80000003#32 (newOf (wSec : State) (.sup : Master) Reg.SEC_CMD 0x80000003#32 : Word) ∧ (wSec : State).bit Reg.SEC_CMD 31 = false ∧ idKey (wSec : State) = true ∧ sramRange ((wSec : State).reg Reg.SEC_BUF).toNat 4096 = true) ∧
    (Takes (wSec : State) (.sup : Master) Reg.SEC_CMD 0x80000004#32 (newOf (wSec : State) (.sup : Master) Reg.SEC_CMD 0x80000004#32 : Word) ∧ (wSec : State).bit Reg.SEC_CMD 31 = false ∧ (wSec : State).sec.chal.length = 3) ∧
    (Takes (wSec : State) (.sup : Master) Reg.SEC_CMD 0x80000007#32 (newOf (wSec : State) (.sup : Master) Reg.SEC_CMD 0x80000007#32 : Word) ∧ (wSec : State).bit Reg.SEC_CMD 31 = false ∧ (wSec : State).sec.chal.length = 3) ∧
    (Takes (wSec : State) (.sup : Master) Reg.SEC_CMD 0x80000005#32 (newOf (wSec : State) (.sup : Master) Reg.SEC_CMD 0x80000005#32 : Word) ∧ (wSec : State).bit Reg.SEC_CMD 31 = false ∧ (wSec : State).soundMemory ∧ sramRange ((wSec : State).reg Reg.SEC_BUF).toNat (5301) = true ∧ (List.range ((5301) / 4096 + 2)).all (fun i => decide ((5301) + 4095 ≤ i * 4096) || sramGrants (wSec : State) .sec (min (((wSec : State).reg Reg.SEC_BUF).toNat + i * 4096) (((wSec : State).reg Reg.SEC_BUF).toNat + (5301) - 1)) .read) = true) ∧
    (Takes (wSec : State) (.sup : Master) Reg.SEC_CMD 0x80000006#32 (newOf (wSec : State) (.sup : Master) Reg.SEC_CMD 0x80000006#32 : Word) ∧ (wSec : State).bit Reg.SEC_CMD 31 = false ∧ (wSec : State).soundMemory ∧ sramRange ((wSec : State).reg Reg.SEC_BUF).toNat (5301) = true ∧ (List.range ((5301) / 4096 + 2)).all (fun i => decide ((5301) + 4095 ≤ i * 4096) || sramGrants (wSec : State) .sec (min (((wSec : State).reg Reg.SEC_BUF).toNat + i * 4096) (((wSec : State).reg Reg.SEC_BUF).toNat + (5301) - 1)) .read) = true) ∧
    (Takes (wSec.setBit Reg.SEC_CMD 31 true : State) (.sup : Master) Reg.SEC_CMD 0x80000001#32 (newOf (wSec.setBit Reg.SEC_CMD 31 true : State) (.sup : Master) Reg.SEC_CMD 0x80000001#32 : Word) ∧ (wSec.setBit Reg.SEC_CMD 31 true : State).bit Reg.SEC_CMD 31 = true) ∧
    (Takes (wSec.setBit Reg.SEC_CMD 31 true : State) (.sup : Master) Reg.SEC_CMD 0x80000002#32 (newOf (wSec.setBit Reg.SEC_CMD 31 true : State) (.sup : Master) Reg.SEC_CMD 0x80000002#32 : Word) ∧ (wSec.setBit Reg.SEC_CMD 31 true : State).bit Reg.SEC_CMD 31 = true) ∧
    (Takes (wSec.setBit Reg.SEC_CMD 31 true : State) (.sup : Master) Reg.SEC_CMD 0x80000003#32 (newOf (wSec.setBit Reg.SEC_CMD 31 true : State) (.sup : Master) Reg.SEC_CMD 0x80000003#32 : Word) ∧ (wSec.setBit Reg.SEC_CMD 31 true : State).bit Reg.SEC_CMD 31 = true) ∧
    (Takes (wSec.setBit Reg.SEC_CMD 31 true : State) (.sup : Master) Reg.SEC_CMD 0x80000004#32 (newOf (wSec.setBit Reg.SEC_CMD 31 true : State) (.sup : Master) Reg.SEC_CMD 0x80000004#32 : Word) ∧ (wSec.setBit Reg.SEC_CMD 31 true : State).bit Reg.SEC_CMD 31 = true) ∧
    (Takes (wSec.setBit Reg.SEC_CMD 31 true : State) (.sup : Master) Reg.SEC_CMD 0x80000005#32 (newOf (wSec.setBit Reg.SEC_CMD 31 true : State) (.sup : Master) Reg.SEC_CMD 0x80000005#32 : Word) ∧ (wSec.setBit Reg.SEC_CMD 31 true : State).bit Reg.SEC_CMD 31 = true) ∧
    (Takes (wSec.setBit Reg.SEC_CMD 31 true : State) (.sup : Master) Reg.SEC_CMD 0x80000006#32 (newOf (wSec.setBit Reg.SEC_CMD 31 true : State) (.sup : Master) Reg.SEC_CMD 0x80000006#32 : Word) ∧ (wSec.setBit Reg.SEC_CMD 31 true : State).bit Reg.SEC_CMD 31 = true) ∧
    (Takes (wSec.setBit Reg.SEC_CMD 31 true : State) (.sup : Master) Reg.SEC_CMD 0x80000007#32 (newOf (wSec.setBit Reg.SEC_CMD 31 true : State) (.sup : Master) Reg.SEC_CMD 0x80000007#32 : Word) ∧ (wSec.setBit Reg.SEC_CMD 31 true : State).bit Reg.SEC_CMD 31 = true) ∧
    (Takes (wSec.setReg Reg.SEC_BUF 0#32 : State) (.sup : Master) Reg.SEC_CMD 0x80000001#32 (newOf (wSec.setReg Reg.SEC_BUF 0#32 : State) (.sup : Master) Reg.SEC_CMD 0x80000001#32 : Word) ∧ (wSec.setReg Reg.SEC_BUF 0#32 : State).bit Reg.SEC_CMD 31 = false ∧ secFields (wSec.setReg Reg.SEC_BUF 0#32 : State) 1 = false) ∧
    (Takes (wSec.setReg Reg.SEC_BUF 0#32 : State) (.sup : Master) Reg.SEC_CMD 0x80000002#32 (newOf (wSec.setReg Reg.SEC_BUF 0#32 : State) (.sup : Master) Reg.SEC_CMD 0x80000002#32 : Word) ∧ (wSec.setReg Reg.SEC_BUF 0#32 : State).bit Reg.SEC_CMD 31 = false ∧ secFields (wSec.setReg Reg.SEC_BUF 0#32 : State) 2 = false) ∧
    (Takes (wSec.setReg Reg.SEC_BUF 0#32 : State) (.sup : Master) Reg.SEC_CMD 0x80000003#32 (newOf (wSec.setReg Reg.SEC_BUF 0#32 : State) (.sup : Master) Reg.SEC_CMD 0x80000003#32 : Word) ∧ (wSec.setReg Reg.SEC_BUF 0#32 : State).bit Reg.SEC_CMD 31 = false ∧ secFields (wSec.setReg Reg.SEC_BUF 0#32 : State) 3 = false) ∧
    (Takes (wSec.setReg Reg.SEC_BUF 0#32 : State) (.sup : Master) Reg.SEC_CMD 0x80000005#32 (newOf (wSec.setReg Reg.SEC_BUF 0#32 : State) (.sup : Master) Reg.SEC_CMD 0x80000005#32 : Word) ∧ (wSec.setReg Reg.SEC_BUF 0#32 : State).bit Reg.SEC_CMD 31 = false ∧ secFields (wSec.setReg Reg.SEC_BUF 0#32 : State) 5 = false) ∧
    (Takes (wSec.setReg Reg.SEC_BUF 0#32 : State) (.sup : Master) Reg.SEC_CMD 0x80000006#32 (newOf (wSec.setReg Reg.SEC_BUF 0#32 : State) (.sup : Master) Reg.SEC_CMD 0x80000006#32 : Word) ∧ (wSec.setReg Reg.SEC_BUF 0#32 : State).bit Reg.SEC_CMD 31 = false ∧ secFields (wSec.setReg Reg.SEC_BUF 0#32 : State) 6 = false) ∧
    (Takes ((wSec.setReg (Reg.ACL_SRAM_BASE 0) 0#32) : State) (.sup : Master) Reg.SEC_CMD 0x80000001#32 (newOf ((wSec.setReg (Reg.ACL_SRAM_BASE 0) 0#32) : State) (.sup : Master) Reg.SEC_CMD 0x80000001#32 : Word) ∧ ((wSec.setReg (Reg.ACL_SRAM_BASE 0) 0#32) : State).bit Reg.SEC_CMD 31 = false ∧ secFields ((wSec.setReg (Reg.ACL_SRAM_BASE 0) 0#32) : State) 1 = true ∧ (secRead ((wSec.setReg (Reg.ACL_SRAM_BASE 0) 0#32) : State) (((wSec.setReg (Reg.ACL_SRAM_BASE 0) 0#32) : State).reg Reg.SEC_BUF).toNat (secOperands ((wSec.setReg (Reg.ACL_SRAM_BASE 0) 0#32) : State) 1)).1 = none) ∧
    (Takes ((wSec.setReg (Reg.ACL_SRAM_BASE 0) 0#32) : State) (.sup : Master) Reg.SEC_CMD 0x80000002#32 (newOf ((wSec.setReg (Reg.ACL_SRAM_BASE 0) 0#32) : State) (.sup : Master) Reg.SEC_CMD 0x80000002#32 : Word) ∧ ((wSec.setReg (Reg.ACL_SRAM_BASE 0) 0#32) : State).bit Reg.SEC_CMD 31 = false ∧ secFields ((wSec.setReg (Reg.ACL_SRAM_BASE 0) 0#32) : State) 2 = true ∧ (secRead ((wSec.setReg (Reg.ACL_SRAM_BASE 0) 0#32) : State) (((wSec.setReg (Reg.ACL_SRAM_BASE 0) 0#32) : State).reg Reg.SEC_BUF).toNat (secOperands ((wSec.setReg (Reg.ACL_SRAM_BASE 0) 0#32) : State) 2)).1 = none) ∧
    (Takes ((wSec.setReg (Reg.ACL_SRAM_BASE 0) 0#32) : State) (.sup : Master) Reg.SEC_CMD 0x80000005#32 (newOf ((wSec.setReg (Reg.ACL_SRAM_BASE 0) 0#32) : State) (.sup : Master) Reg.SEC_CMD 0x80000005#32 : Word) ∧ ((wSec.setReg (Reg.ACL_SRAM_BASE 0) 0#32) : State).bit Reg.SEC_CMD 31 = false ∧ secFields ((wSec.setReg (Reg.ACL_SRAM_BASE 0) 0#32) : State) 5 = true ∧ (secRead ((wSec.setReg (Reg.ACL_SRAM_BASE 0) 0#32) : State) (((wSec.setReg (Reg.ACL_SRAM_BASE 0) 0#32) : State).reg Reg.SEC_BUF).toNat (secOperands ((wSec.setReg (Reg.ACL_SRAM_BASE 0) 0#32) : State) 5)).1 = none) ∧
    (Takes ((wSec.setReg (Reg.ACL_SRAM_BASE 0) 0#32) : State) (.sup : Master) Reg.SEC_CMD 0x80000006#32 (newOf ((wSec.setReg (Reg.ACL_SRAM_BASE 0) 0#32) : State) (.sup : Master) Reg.SEC_CMD 0x80000006#32 : Word) ∧ ((wSec.setReg (Reg.ACL_SRAM_BASE 0) 0#32) : State).bit Reg.SEC_CMD 31 = false ∧ secFields ((wSec.setReg (Reg.ACL_SRAM_BASE 0) 0#32) : State) 6 = true ∧ (secRead ((wSec.setReg (Reg.ACL_SRAM_BASE 0) 0#32) : State) (((wSec.setReg (Reg.ACL_SRAM_BASE 0) 0#32) : State).reg Reg.SEC_BUF).toNat (secOperands ((wSec.setReg (Reg.ACL_SRAM_BASE 0) 0#32) : State) 6)).1 = none) ∧
    ((wSec.setSec { wSec.sec with run := some ⟨1, 0, 0, List.range 32⟩ } : State).sec.run = some (⟨1, 0, 0, List.range 32⟩ : SecOp) ∧ (⟨1, 0, 0, List.range 32⟩ : SecOp).op = 1 ∧ (⟨1, 0, 0, List.range 32⟩ : SecOp).res = 0) ∧
    ((wSec.setSec { wSec.sec with run := some ⟨4, 0, 0, List.range 32⟩ } : State).sec.run = some (⟨4, 0, 0, List.range 32⟩ : SecOp) ∧ (⟨4, 0, 0, List.range 32⟩ : SecOp).op = 4 ∧ (⟨4, 0, 0, List.range 32⟩ : SecOp).res = 0) ∧
    ((wSec.setSec { wSec.sec with run := some ⟨7, 0, 0, List.range 32⟩ } : State).sec.run = some (⟨7, 0, 0, List.range 32⟩ : SecOp) ∧ (⟨7, 0, 0, List.range 32⟩ : SecOp).op = 7 ∧ (⟨7, 0, 0, List.range 32⟩ : SecOp).res = 0) ∧
    ((wSec.setSec { wSec.sec with run := some ⟨5, 0, 0, []⟩ } : State).sec.run = some (⟨5, 0, 0, []⟩ : SecOp) ∧ ((⟨5, 0, 0, []⟩ : SecOp).op = 2 ∨ (⟨5, 0, 0, []⟩ : SecOp).op = 5 ∧ clearWritten (wSec.setSec { wSec.sec with run := some ⟨5, 0, 0, []⟩ } : State) = true) ∧ (⟨5, 0, 0, []⟩ : SecOp).res = 0) ∧
    ((wSec : State).wf = true ∧ ((wSec : State).sec.run.all (fun o => o.op == 5 && o.res == 0 && !clearWritten (wSec : State)) = true)) ∧
    ((wSec.setSec { wSec.sec with run := some ⟨3, 0, 0, List.replicate 4128 7⟩ } : State).sec.run = some (⟨3, 0, 0, List.replicate 4128 7⟩ : SecOp) ∧ (⟨3, 0, 0, List.replicate 4128 7⟩ : SecOp).op = 3 ∧ (⟨3, 0, 0, List.replicate 4128 7⟩ : SecOp).res = 0 ∧ (wSec.setSec { wSec.sec with run := some ⟨3, 0, 0, List.replicate 4128 7⟩ } : State).soundMemory ∧ (⟨3, 0, 0, List.replicate 4128 7⟩ : SecOp).out.length = 4128 ∧ sramRange ((wSec.setSec { wSec.sec with run := some ⟨3, 0, 0, List.replicate 4128 7⟩ } : State).reg Reg.SEC_BUF).toNat 4096 = true ∧ sramGrants (wSec.setSec { wSec.sec with run := some ⟨3, 0, 0, List.replicate 4128 7⟩ } : State) .sec ((wSec.setSec { wSec.sec with run := some ⟨3, 0, 0, List.replicate 4128 7⟩ } : State).reg Reg.SEC_BUF).toNat .write = true ∧ sramGrants (wSec.setSec { wSec.sec with run := some ⟨3, 0, 0, List.replicate 4128 7⟩ } : State) .sec (((wSec.setSec { wSec.sec with run := some ⟨3, 0, 0, List.replicate 4128 7⟩ } : State).reg Reg.SEC_BUF).toNat + 4095) .write = true) ∧
    (((wSec.setReg (Reg.ACL_SRAM_BASE 0) 0#32).setSec { wSec.sec with run := some ⟨3, 0, 0, []⟩ } : State).sec.run = some (⟨3, 0, 0, []⟩ : SecOp) ∧ (⟨3, 0, 0, []⟩ : SecOp).op = 3 ∧ (⟨3, 0, 0, []⟩ : SecOp).res = 0 ∧ (sramGrants ((wSec.setReg (Reg.ACL_SRAM_BASE 0) 0#32).setSec { wSec.sec with run := some ⟨3, 0, 0, []⟩ } : State) .sec (((wSec.setReg (Reg.ACL_SRAM_BASE 0) 0#32).setSec { wSec.sec with run := some ⟨3, 0, 0, []⟩ } : State).reg Reg.SEC_BUF).toNat .write = false ∨ sramGrants ((wSec.setReg (Reg.ACL_SRAM_BASE 0) 0#32).setSec { wSec.sec with run := some ⟨3, 0, 0, []⟩ } : State) .sec ((((wSec.setReg (Reg.ACL_SRAM_BASE 0) 0#32).setSec { wSec.sec with run := some ⟨3, 0, 0, []⟩ } : State).reg Reg.SEC_BUF).toNat + 4095) .write = false)) ∧
    (((wSec.setReg (Reg.ACL_PAGE pgOPT) 0x7FFF7FFF#32).setSec { wSec.sec with run := some ⟨6, 0, 0, List.range 36⟩ } : State).sec.run = some (⟨6, 0, 0, List.range 36⟩ : SecOp) ∧ (⟨6, 0, 0, List.range 36⟩ : SecOp).op = 6 ∧ (⟨6, 0, 0, List.range 36⟩ : SecOp).res = 0 ∧ Takes ((wSec.setReg (Reg.ACL_PAGE pgOPT) 0x7FFF7FFF#32).setSec { wSec.sec with run := some ⟨6, 0, 0, List.range 36⟩ } : State) .sec Reg.OPT_AUTH 1#32 (newOf ((wSec.setReg (Reg.ACL_PAGE pgOPT) 0x7FFF7FFF#32).setSec { wSec.sec with run := some ⟨6, 0, 0, List.range 36⟩ } : State) .sec Reg.OPT_AUTH 1#32 : Word)) ∧
    ((wSec.setSec { wSec.sec with run := some ⟨5, 3, 4, []⟩ } : State).sec.run = some (⟨5, 3, 4, []⟩ : SecOp) ∧ (⟨5, 3, 4, []⟩ : SecOp).res ≠ 0 ∧ (⟨5, 3, 4, []⟩ : SecOp).res < 16 ∧ (⟨5, 3, 4, []⟩ : SecOp).step < 16) ∧
    ((({ (wSec.setSec { wSec.sec with chal := [⟨[], none⟩, ⟨[1], some 5⟩, ⟨[], none⟩] }) with ticks := 96000006 } : State).sec.chal.getD (1 : Nat) ⟨[], none⟩).drawn = some (5 : Nat) ∧ (5 : Nat) + 60 * ticksPerSecond < ({ (wSec.setSec { wSec.sec with chal := [⟨[], none⟩, ⟨[1], some 5⟩, ⟨[], none⟩] }) with ticks := 96000006 } : State).ticks) ∧
    (({ (wSec.setSec { wSec.sec with chal := [⟨[], none⟩, ⟨[1], some 5⟩, ⟨[], none⟩] }) with ticks := 96000005 } : State).wf = true ∧ ((({ (wSec.setSec { wSec.sec with chal := [⟨[], none⟩, ⟨[1], some 5⟩, ⟨[], none⟩] }) with ticks := 96000005 } : State).sec.chal.getD (1 : Nat) ⟨[], none⟩).drawn.all (fun n => decide (({ (wSec.setSec { wSec.sec with chal := [⟨[], none⟩, ⟨[1], some 5⟩, ⟨[], none⟩] }) with ticks := 96000005 } : State).ticks ≤ n + 60 * ticksPerSecond)) = true)) := by
  refine ⟨?_, ?_, ?_, ?_, ?_, ?_, ?_, ?_, ?_, ?_, ?_, ?_, ?_, ?_, ?_, ?_, ?_, ?_, ?_, ?_, ?_, ?_, ?_, ?_, ?_, ?_, ?_, ?_, ⟨rfl, rfl, rfl, by decide +kernel, List.length_replicate, by decide +kernel, by decide +kernel, by decide +kernel⟩, ?_, ?_, ?_, ?_, ?_⟩ <;> decide +kernel

/-- The hypotheses of Obligations.RecordsReachTheEventRecorder can be met, clause by clause. -/
theorem witness_RecordsReachTheEventRecorder :
    ((wEvr (fun e => { e with outbox := [⟨0x1B02, 4, true, 3, [1, 2]⟩], issued := some (0, 0) }) : State).evr.outbox = (⟨0x1B02, 4, true, 3, [1, 2]⟩ : Report) :: ([] : List Report) ∧ (⟨0x1B02, 4, true, 3, [1, 2]⟩ : Report).sev < 5 ∧ capturing (wEvr (fun e => { e with outbox := [⟨0x1B02, 4, true, 3, [1, 2]⟩], issued := some (0, 0) }) : State) = false ∧ (wEvr (fun e => { e with outbox := [⟨0x1B02, 4, true, 3, [1, 2]⟩], issued := some (0, 0) }) : State).evr.stale = [] ∧ (wEvr (fun e => { e with outbox := [⟨0x1B02, 4, true, 3, [1, 2]⟩], issued := some (0, 0) }) : State).evr.clrBoot = none ∧ (wEvr (fun e => { e with outbox := [⟨0x1B02, 4, true, 3, [1, 2]⟩], issued := some (0, 0) }) : State).evr.lost = 0 ∧ (wEvr (fun e => { e with outbox := [⟨0x1B02, 4, true, 3, [1, 2]⟩], issued := some (0, 0) }) : State).evr.fw = none ∧ (wEvr (fun e => { e with outbox := [⟨0x1B02, 4, true, 3, [1, 2]⟩], issued := some (0, 0) }) : State).evr.issued.isSome = true ∧ (wEvr (fun e => { e with outbox := [⟨0x1B02, 4, true, 3, [1, 2]⟩], issued := some (0, 0) }) : State).bit Reg.EVR_CFG 9 = false ∧ intakeLen (wEvr (fun e => { e with outbox := [⟨0x1B02, 4, true, 3, [1, 2]⟩], issued := some (0, 0) }) : State) < 64) ∧
    ((wEvr (fun e => { e with outbox := [⟨0x1B02, 4, true, 3, [1, 2]⟩], queue := List.replicate 64 ⟨1, 3, [], none, false⟩ }) : State).evr.outbox = (⟨0x1B02, 4, true, 3, [1, 2]⟩ : Report) :: ([] : List Report) ∧ (wEvr (fun e => { e with outbox := [⟨0x1B02, 4, true, 3, [1, 2]⟩], queue := List.replicate 64 ⟨1, 3, [], none, false⟩ }) : State).evr.stale = [] ∧ (wEvr (fun e => { e with outbox := [⟨0x1B02, 4, true, 3, [1, 2]⟩], queue := List.replicate 64 ⟨1, 3, [], none, false⟩ }) : State).evr.clrBoot = none ∧ 64 ≤ intakeLen (wEvr (fun e => { e with outbox := [⟨0x1B02, 4, true, 3, [1, 2]⟩], queue := List.replicate 64 ⟨1, 3, [], none, false⟩ }) : State)) ∧
    ((State.reset.setEvr { State.reset.evr with outbox := [] } : State).wf = true ∧ (State.reset.setEvr { State.reset.evr with outbox := [] } : State).evr.outbox = []) ∧
    (Takes (State.reset.setReg (Reg.ACL_SRAM_BASE 0) 0#32 : State) (.sup : Master) Reg.EVR_WR 1#32 (newOf (State.reset.setReg (Reg.ACL_SRAM_BASE 0) 0#32 : State) (.sup : Master) Reg.EVR_WR 1#32 : Word) ∧ (State.reset.setReg (Reg.ACL_SRAM_BASE 0) 0#32 : State).evr.fw = none ∧ fwRights (State.reset.setReg (Reg.ACL_SRAM_BASE 0) 0#32 : State) = false) ∧
    (Takes (wFwRec : State) (.sup : Master) Reg.EVR_WR 1#32 (newOf (wFwRec : State) (.sup : Master) Reg.EVR_WR 1#32 : Word) ∧ fwRights (wFwRec : State) = true ∧ fwRecordOk ((wFwRec : State).bytes ((wFwRec : State).reg Reg.EVR_WR_SRC).toNat 48) = true ∧ ((wFwRec : State).bytes ((wFwRec : State).reg Reg.EVR_WR_SRC).toNat 48).getD 2 0 < 5 ∧ (wFwRec : State).soundMemory ∧ capturing (wFwRec : State) = false ∧ (wFwRec : State).fld Reg.EVR_CFG 0 3 ≤ ((wFwRec : State).bytes ((wFwRec : State).reg Reg.EVR_WR_SRC).toNat 48).getD 2 0 ∧ (wFwRec : State).evr.lost = 0 ∧ (wFwRec : State).evr.fw = none ∧ (wFwRec : State).evr.issued.isSome = true ∧ (wFwRec : State).bit Reg.EVR_CFG 9 = false ∧ intakeLen (wFwRec : State) < 64) ∧
    (Takes (wMem.setReg Reg.EVR_WR_SRC 0x10000000#32 : State) (.sup : Master) Reg.EVR_WR 1#32 (newOf (wMem.setReg Reg.EVR_WR_SRC 0x10000000#32 : State) (.sup : Master) Reg.EVR_WR 1#32 : Word) ∧ ((wMem.setReg Reg.EVR_WR_SRC 0x10000000#32 : State).evr.fw ≠ none ∨ fwRights (wMem.setReg Reg.EVR_WR_SRC 0x10000000#32 : State) = true ∧ fwRecordOk ((wMem.setReg Reg.EVR_WR_SRC 0x10000000#32 : State).bytes ((wMem.setReg Reg.EVR_WR_SRC 0x10000000#32 : State).reg Reg.EVR_WR_SRC).toNat 48) = false)) ∧
    (Takes ((wEvr (fun e => { e with issued := some (0, 0), pfr := [⟨3, 9, 1, 0⟩, ⟨4, 7, 1, 0⟩] })).setBit Reg.EVR_CFG 8 true : State) (.sup : Master) Reg.EVR_WR 0x100#32 (newOf ((wEvr (fun e => { e with issued := some (0, 0), pfr := [⟨3, 9, 1, 0⟩, ⟨4, 7, 1, 0⟩] })).setBit Reg.EVR_CFG 8 true : State) (.sup : Master) Reg.EVR_WR 0x100#32 : Word) ∧ ((wEvr (fun e => { e with issued := some (0, 0), pfr := [⟨3, 9, 1, 0⟩, ⟨4, 7, 1, 0⟩] })).setBit Reg.EVR_CFG 8 true : State).bit Reg.EVR_CFG 8 = true ∧ capturing ((wEvr (fun e => { e with issued := some (0, 0), pfr := [⟨3, 9, 1, 0⟩, ⟨4, 7, 1, 0⟩] })).setBit Reg.EVR_CFG 8 true : State) = false ∧ ((wEvr (fun e => { e with issued := some (0, 0), pfr := [⟨3, 9, 1, 0⟩, ⟨4, 7, 1, 0⟩] })).setBit Reg.EVR_CFG 8 true : State).bit Reg.EVR_CFG 9 = false ∧ ((wEvr (fun e => { e with issued := some (0, 0), pfr := [⟨3, 9, 1, 0⟩, ⟨4, 7, 1, 0⟩] })).setBit Reg.EVR_CFG 8 true : State).evr.issued.isSome = true) ∧
    (Takes ((wEvr id).setBit Reg.EVR_CFG 8 false : State) (.sup : Master) Reg.EVR_WR 0x100#32 (newOf ((wEvr id).setBit Reg.EVR_CFG 8 false : State) (.sup : Master) Reg.EVR_WR 0x100#32 : Word) ∧ (((wEvr id).setBit Reg.EVR_CFG 8 false : State).bit Reg.EVR_CFG 8 = false ∨ capturing ((wEvr id).setBit Reg.EVR_CFG 8 false : State) = true)) ∧
    (capturing (State.reset.setBit (Reg.STAT pgEVR) 10 true : State) = true ∧ (State.reset.setBit (Reg.STAT pgEVR) 10 true : State).evr.queue.any (·.capt) = false ∧ (State.reset.setBit (Reg.STAT pgEVR) 10 true : State).evr.outbox = []) ∧
    ((State.reset : State).wf = true ∧ (capturing (State.reset : State) = false ∨ (State.reset : State).evr.queue.any (·.capt) = true ∨ (State.reset : State).evr.outbox ≠ [])) ∧
    (({ (wEvr (fun e => { e with issued := some (0, 5), queue := [⟨9, 3, [1], none, false⟩] })) with flash := { State.reset.flash with ended := [(2, 1, true)] } } : State).evr.issued = some (0, (5 : Nat)) ∧ (5 : Nat) < 1024 ∧ ({ (wEvr (fun e => { e with issued := some (0, 5), queue := [⟨9, 3, [1], none, false⟩] })) with flash := { State.reset.flash with ended := [(2, 1, true)] } } : State).evr.queue = [(⟨9, 3, [1], none, false⟩ : EvRec)] ∧ (⟨9, 3, [1], none, false⟩ : EvRec).sev < 5 ∧ flcOutstanding ({ (wEvr (fun e => { e with issued := some (0, 5), queue := [⟨9, 3, [1], none, false⟩] })) with flash := { State.reset.flash with ended := [(2, 1, true)] } } : State) 2 (fun k => decide (1 ≤ k) && decide (k ≤ 4)) = false ∧ (2, 1, true) ∈ ({ (wEvr (fun e => { e with issued := some (0, 5), queue := [⟨9, 3, [1], none, false⟩] })) with flash := { State.reset.flash with ended := [(2, 1, true)] } } : State).flash.ended ∧ inFallback ({ (wEvr (fun e => { e with issued := some (0, 5), queue := [⟨9, 3, [1], none, false⟩] })) with flash := { State.reset.flash with ended := [(2, 1, true)] } } : State) = false ∧ ({ (wEvr (fun e => { e with issued := some (0, 5), queue := [⟨9, 3, [1], none, false⟩] })) with flash := { State.reset.flash with ended := [(2, 1, true)] } } : State).evr.lost = 0 ∧ ({ (wEvr (fun e => { e with issued := some (0, 5), queue := [⟨9, 3, [1], none, false⟩] })) with flash := { State.reset.flash with ended := [(2, 1, true)] } } : State).evr.fw = none ∧ ({ (wEvr (fun e => { e with issued := some (0, 5), queue := [⟨9, 3, [1], none, false⟩] })) with flash := { State.reset.flash with ended := [(2, 1, true)] } } : State).bit Reg.EVR_CFG 9 = false) ∧
    (({ (wEvr (fun e => { e with issued := some (1, 4), queue := [⟨9, 3, [1], none, false⟩], held := [⟨4, 2, 7, 8⟩] })) with flash := { State.reset.flash with ended := [(2, 3, true)] } } : State).evr.issued = some (1, (4 : Nat)) ∧ ({ (wEvr (fun e => { e with issued := some (1, 4), queue := [⟨9, 3, [1], none, false⟩], held := [⟨4, 2, 7, 8⟩] })) with flash := { State.reset.flash with ended := [(2, 3, true)] } } : State).evr.queue = [(⟨9, 3, [1], none, false⟩ : EvRec)] ∧ (⟨9, 3, [1], none, false⟩ : EvRec).sev < 5 ∧ flcOutstanding ({ (wEvr (fun e => { e with issued := some (1, 4), queue := [⟨9, 3, [1], none, false⟩], held := [⟨4, 2, 7, 8⟩] })) with flash := { State.reset.flash with ended := [(2, 3, true)] } } : State) 2 (fun j => decide (1 ≤ j) && decide (j ≤ 4)) = false ∧ (2, 3, true) ∈ ({ (wEvr (fun e => { e with issued := some (1, 4), queue := [⟨9, 3, [1], none, false⟩], held := [⟨4, 2, 7, 8⟩] })) with flash := { State.reset.flash with ended := [(2, 3, true)] } } : State).flash.ended ∧ ({ (wEvr (fun e => { e with issued := some (1, 4), queue := [⟨9, 3, [1], none, false⟩], held := [⟨4, 2, 7, 8⟩] })) with flash := { State.reset.flash with ended := [(2, 3, true)] } } : State).evr.held = [(⟨4, 2, 7, 8⟩ : RingSec)] ∧ (⟨4, 2, 7, 8⟩ : RingSec).sec = (4 : Nat) ∧ ({ (wEvr (fun e => { e with issued := some (1, 4), queue := [⟨9, 3, [1], none, false⟩], held := [⟨4, 2, 7, 8⟩] })) with flash := { State.reset.flash with ended := [(2, 3, true)] } } : State).evr.lost = 0 ∧ ({ (wEvr (fun e => { e with issued := some (1, 4), queue := [⟨9, 3, [1], none, false⟩], held := [⟨4, 2, 7, 8⟩] })) with flash := { State.reset.flash with ended := [(2, 3, true)] } } : State).evr.fw = none ∧ ({ (wEvr (fun e => { e with issued := some (1, 4), queue := [⟨9, 3, [1], none, false⟩], held := [⟨4, 2, 7, 8⟩] })) with flash := { State.reset.flash with ended := [(2, 3, true)] } } : State).bit Reg.EVR_CFG 9 = false) ∧
    (((wEvr (fun e => { e with issued := some (0, 5), queue := [⟨9, 3, [1], none, false⟩] })) : State).evr.issued = some ((0, 5) : Nat × Nat) ∧ ((wEvr (fun e => { e with issued := some (0, 5), queue := [⟨9, 3, [1], none, false⟩] })) : State).evr.queue = [(⟨9, 3, [1], none, false⟩ : EvRec)] ∧ flcOutstanding ((wEvr (fun e => { e with issued := some (0, 5), queue := [⟨9, 3, [1], none, false⟩] })) : State) 2 (fun j => decide (1 ≤ j) && decide (j ≤ 4)) = false ∧ ((wEvr (fun e => { e with issued := some (0, 5), queue := [⟨9, 3, [1], none, false⟩] })) : State).flash.ended.all (fun e => !(e.1 == 2 && decide (1 ≤ e.2.1) && decide (e.2.1 ≤ 3) && e.2.2)) = true ∧ ((wEvr (fun e => { e with issued := some (0, 5), queue := [⟨9, 3, [1], none, false⟩] })) : State).bit Reg.EVR_CFG 9 = false) ∧
    ((wEvr id : State).wf = true ∧ ((wEvr id : State).evr.issued = none ∨ (wEvr id : State).evr.queue = [] ∨ flcOutstanding (wEvr id : State) 2 (fun j => decide (1 ≤ j) && decide (j ≤ 4)) = true)) ∧
    ((State.reset.setBit (Reg.STAT pgEVR) 9 true : State).bit (Reg.STAT pgEVR) 9 = true ∧ (State.reset.setBit (Reg.STAT pgEVR) 9 true : State).evr.stale = [] ∧ (State.reset.setBit (Reg.STAT pgEVR) 9 true : State).evr.clrBoot = none ∧ flcOutstanding (State.reset.setBit (Reg.STAT pgEVR) 9 true : State) 2 (· == 7) = false) ∧
    ((State.reset : State).wf = true ∧ ((State.reset : State).bit (Reg.STAT pgEVR) 9 = false ∨ (State.reset : State).evr.stale ≠ [] ∨ (State.reset : State).evr.clrBoot ≠ none ∨ flcOutstanding (State.reset : State) 2 (· == 7) = true)) := by
  refine ⟨?_, ?_, ?_, ?_, ?_, ?_, ?_, ?_, ?_, ?_, ?_, ?_, ?_, ?_, ?_, ?_⟩ <;> decide +kernel

/-- The hypotheses of Obligations.RegisterWritesFollowTheirRules can be met, clause by clause. -/
theorem witness_RegisterWritesFollowTheirRules :
    (Takes (wAll 0x1C : State) (.sup : Master) (Reg.MEMC_CFG : Nat) (0x0301 : Word) (newOf (wAll 0x1C : State) (.sup : Master) (Reg.MEMC_CFG : Nat) (0x0301 : Word) : Word) ∧ storeOnly (Reg.MEMC_CFG : Nat) = true) ∧
    ((0x26 : Nat) < 0x29 ∧ pageGrants ((wAll 0x26).raise 0x26 1 : State) (.sup : Master) (0x26 : Nat) .write = true ∧ absentPart ((wAll 0x26).raise 0x26 1 : State).variant (Reg.IRQ_EN (0x26 : Nat)) = false ∧ ((wAll 0x26).raise 0x26 1 : State).locked (0x26 : Nat) = false) ∧
    ((0x26 : Nat) < 0x29 ∧ pageGrants ((wAll 0x26).raise 0x26 1 : State) (.sup : Master) (0x26 : Nat) .write = true ∧ absentPart ((wAll 0x26).raise 0x26 1 : State).variant (Reg.IRQ_RAW (0x26 : Nat)) = false) ∧
    ((0x26 : Nat) < 0x29 ∧ pageGrants ((wAll 0x26).setReg (Reg.IRQ_STAT 0x26) 2#32 : State) (.sup : Master) (0x26 : Nat) .write = true ∧ absentPart ((wAll 0x26).setReg (Reg.IRQ_STAT 0x26) 2#32 : State).variant (Reg.IRQ_STAT (0x26 : Nat)) = false) ∧
    (inPages (Reg.SPN_MODE : Nat) = true ∧ isPage (Reg.SPN_MODE : Nat) = true ∧ pageGrants (State.reset : State) (.scrb : Master) (pageOf (Reg.SPN_MODE : Nat)) .write = false) ∧
    (inPages (Reg.SPN_MODE : Nat) = true ∧ isPage (Reg.SPN_MODE : Nat) = true ∧ pageGrants (State.reset : State) (.sup : Master) (pageOf (Reg.SPN_MODE : Nat)) .write = true ∧ ((2 : Nat) ≠ 4 ∨ (Reg.SPN_MODE : Nat) % 4 ≠ 0)) ∧
    (inPages (Reg.STAT pgMEMC : Nat) = true ∧ isPage (Reg.STAT pgMEMC : Nat) = true ∧ (Reg.STAT pgMEMC : Nat) % 0x1000 ≠ 4 ∧ judgeWrite (State.reset : State) (.sup : Master) (Reg.STAT pgMEMC : Nat) 4 (1 : Word) = .readOnly) ∧
    (inPages (Reg.TICK_SUP : Nat) = true ∧ isPage (Reg.TICK_SUP : Nat) = true ∧ (Reg.TICK_SUP : Nat) % 0x1000 ≠ 4 ∧ (Reg.TICK_SUP : Nat) ≠ Reg.SEC_CMD ∧ judgeWrite (State.reset : State) (.sup : Master) (Reg.TICK_SUP : Nat) 4 (15 : Word) = .refused) ∧
    (inPages (Reg.TICK_SUP : Nat) = true ∧ isPage (Reg.TICK_SUP : Nat) = true ∧ pageGrants (State.reset.setReg (Reg.LOCK 1) 0xA5#32 : State) (.sup : Master) (pageOf (Reg.TICK_SUP : Nat)) .write = true ∧ (Reg.TICK_SUP : Nat) % 4 = 0 ∧ absentPart (State.reset.setReg (Reg.LOCK 1) 0xA5#32 : State).variant (Reg.TICK_SUP : Nat) = false ∧ 0x40 ≤ (Reg.TICK_SUP : Nat) % 0x1000 ∧ descOf (Reg.TICK_SUP : Nat) = some (⟨0x048, 1, 4, .rw, 0x4, 0x4, 0x3FF000F, 0x0, 0x0, [⟨0, 4, false, 0, 10⟩]⟩ : RegDesc) ∧ (⟨0x048, 1, 4, .rw, 0x4, 0x4, 0x3FF000F, 0x0, 0x0, [⟨0, 4, false, 0, 10⟩]⟩ : RegDesc).acc = .rw ∧ (State.reset.setReg (Reg.LOCK 1) 0xA5#32 : State).locked (pageOf (Reg.TICK_SUP : Nat)) = true ∧ (Reg.TICK_SUP : Nat) ≠ Reg.SEC_CMD) ∧
    ((0x26 : Nat) < 0x29 ∧ pageGrants ((wAll 0x26).setReg (Reg.LOCK 0x26) 0xA5#32 : State) (.sup : Master) (0x26 : Nat) .write = true ∧ absentPart ((wAll 0x26).setReg (Reg.LOCK 0x26) 0xA5#32 : State).variant (Reg.IRQ_EN (0x26 : Nat)) = false ∧ ((wAll 0x26).setReg (Reg.LOCK 0x26) 0xA5#32 : State).locked (0x26 : Nat) = true) ∧
    ((inPages (0x4003FFFC : Nat) = true ∧ isPage (0x4003FFFC : Nat) = false ∨ inPages (0x4003FFFC : Nat) = false ∧ mapped (0x4003FFFC : Nat) = true ∧ (List.range 4).all (fun h => lncfgAddr h != (0x4003FFFC : Nat) || hartMaster h != (.sup : Master)) = true)) ∧
    (isPage (0x4000C040 : Nat) = true ∧ (0x4000C040 : Nat) % 0x1000 ≠ 4 ∧ pageGrants ({ wAll 0x0C with variant := .ln7720 } : State) (.sup : Master) (pageOf (0x4000C040 : Nat)) .write = true ∧ (0x4000C040 : Nat) % 4 = 0 ∧ absentPart ({ wAll 0x0C with variant := .ln7720 } : State).variant (0x4000C040 : Nat) = true) ∧
    ((3 : Nat) < 4) := by
  refine ⟨?_, ?_, ?_, ?_, ?_, ?_, ?_, ?_, ?_, ?_, ?_, ?_, ?_⟩ <;> decide +kernel

/-- The hypotheses of Obligations.RegisterReadsClearAndLatch can be met, clause by clause. -/
theorem witness_RegisterReadsClearAndLatch :
    ((0x1E : Nat) < 0x29 ∧ clearsRc (.sup : Master) = true ∧ pageGrants (State.reset.err 0x1E 0x1A02 5 : State) (.sup : Master) (0x1E : Nat) .read = true ∧ absentPart (State.reset.err 0x1E 0x1A02 5 : State).variant (Reg.ERR_INFO (0x1E : Nat)) = false ∧ latched (State.reset.err 0x1E 0x1A02 5 : State) (.sup : Master) (Reg.ERR_INFO (0x1E : Nat)) = none) ∧
    ((0x1B : Nat) < 0x29 ∧ pageGrants ((wAll 0x1B).err 0x1B 0x1402 5 : State) .hostin (0x1B : Nat) .read = true ∧ absentPart ((wAll 0x1B).err 0x1B 0x1402 5 : State).variant (Reg.ERR_INFO (0x1B : Nat)) = false) ∧
    ((.sup : Master) ≠ .hostin ∧ isPage (Reg.TICK_CNT_LO : Nat) = true ∧ (Reg.TICK_CNT_LO : Nat) % 4 = 0 ∧ absentPart ({ State.reset with ticks := 0x300000000 } : State).variant (Reg.TICK_CNT_LO : Nat) = false ∧ pageGrants ({ State.reset with ticks := 0x300000000 } : State) (.sup : Master) (pageOf (Reg.TICK_CNT_LO : Nat)) .read = true ∧ highOf (Reg.TICK_CNT_LO : Nat) = some (Reg.TICK_CNT_HI : Nat) ∧ latched ({ State.reset with ticks := 0x300000000 } : State) (.sup : Master) (Reg.TICK_CNT_LO : Nat) = none) ∧
    ((.sup : Master) ≠ .hostin ∧ isPage (Reg.TICK_CNT_HI : Nat) = true ∧ (Reg.TICK_CNT_HI : Nat) % 4 = 0 ∧ absentPart ({ State.reset with latches := [(4, Reg.TICK_CNT_HI, 7#32)] } : State).variant (Reg.TICK_CNT_HI : Nat) = false ∧ pageGrants ({ State.reset with latches := [(4, Reg.TICK_CNT_HI, 7#32)] } : State) (.sup : Master) (pageOf (Reg.TICK_CNT_HI : Nat)) .read = true ∧ latched ({ State.reset with latches := [(4, Reg.TICK_CNT_HI, 7#32)] } : State) (.sup : Master) (Reg.TICK_CNT_HI : Nat) = some (7#32 : Word) ∧ isRc (Reg.TICK_CNT_HI : Nat) = false ∧ highOf (Reg.TICK_CNT_HI : Nat) = none) ∧
    (isPage (Reg.TICK_CNT_LO : Nat) = true ∧ (Reg.TICK_CNT_LO : Nat) % 4 = 0 ∧ pageGrants (State.reset.setReg (Reg.ACL_PAGE 1) 0#32 : State) (.scrb : Master) (pageOf (Reg.TICK_CNT_LO : Nat)) .read = false) ∧
    ((.sup : Master) ≠ .hostin ∧ isPage (Reg.DSK_LANE_LATE 0 : Nat) = true ∧ (Reg.DSK_LANE_LATE 0 : Nat) % 4 = 0 ∧ absentPart (wAll 0x0E : State).variant (Reg.DSK_LANE_LATE 0 : Nat) = false ∧ pageGrants (wAll 0x0E : State) (.sup : Master) (pageOf (Reg.DSK_LANE_LATE 0 : Nat)) .read = true ∧ isRc (Reg.DSK_LANE_LATE 0 : Nat) = true ∧ (Reg.DSK_LANE_LATE 0 : Nat) ≠ Reg.HDL_RSP ∧ (Reg.DSK_LANE_LATE 0 : Nat) ≠ Reg.TICK_PH ∧ (List.range 4).all (fun l => (Reg.DSK_LANE_LATE 0 : Nat) != Reg.DSK_LANE_SKEW l) = true) ∧
    (isPage (Reg.DSK_LANE_LATE 0 : Nat) = true ∧ (Reg.DSK_LANE_LATE 0 : Nat) % 4 = 0 ∧ absentPart (wAll 0x0E : State).variant (Reg.DSK_LANE_LATE 0 : Nat) = false ∧ pageGrants (wAll 0x0E : State) (.hostin : Master) (pageOf (Reg.DSK_LANE_LATE 0 : Nat)) .read = true ∧ ((.hostin : Master) = .hostin ∨ clearsRc (.hostin : Master) = false ∧ (Reg.DSK_LANE_LATE 0 : Nat) ≠ Reg.HDL_RSP ∧ (List.range 4).all (fun l => (Reg.DSK_LANE_LATE 0 : Nat) != Reg.DSK_LANE_SKEW l) = true ∧ (List.range 5).all (fun h => (Reg.DSK_LANE_LATE 0 : Nat) != Reg.IRQ_CLAIM h) = true)) ∧
    ((.sup : Master) ≠ .hostin ∧ isPage (Reg.TICK_CNT_HI : Nat) = true ∧ (Reg.TICK_CNT_HI : Nat) % 4 = 0 ∧ absentPart ({ State.reset with latches := [(4, Reg.TICK_CNT_HI, 7#32)] } : State).variant (Reg.TICK_CNT_HI : Nat) = false ∧ pageGrants ({ State.reset with latches := [(4, Reg.TICK_CNT_HI, 7#32)] } : State) (.sup : Master) (pageOf (Reg.TICK_CNT_HI : Nat)) .read = true ∧ latched ({ State.reset with latches := [(4, Reg.TICK_CNT_HI, 7#32)] } : State) (.sup : Master) (Reg.TICK_CNT_HI : Nat) = some (7#32 : Word) ∧ isRc (Reg.TICK_CNT_HI : Nat) = false ∧ highOf (Reg.TICK_CNT_HI : Nat) = none ∧ (Reg.TICK_CNT_HI : Nat) ≠ Reg.HDL_RSP ∧ (Reg.TICK_CNT_HI : Nat) ≠ Reg.TICK_PH ∧ (List.range 4).all (fun l => (Reg.TICK_CNT_HI : Nat) != Reg.DSK_LANE_SKEW l) = true ∧ (List.range 5).all (fun h => (Reg.TICK_CNT_HI : Nat) != Reg.IRQ_CLAIM h) = true) ∧
    ((.sup : Master) ≠ .hostin ∧ (1 : Nat) < 4 ∧ pageGrants ((wAll pgDSK).setReg (Reg.DSK_LANE_SKEW 1) 0x00070005#32 : State) (.sup : Master) pgDSK .read = true ∧ absentPart ((wAll pgDSK).setReg (Reg.DSK_LANE_SKEW 1) 0x00070005#32 : State).variant (Reg.DSK_LANE_SKEW (1 : Nat)) = false ∧ latched ((wAll pgDSK).setReg (Reg.DSK_LANE_SKEW 1) 0x00070005#32 : State) (.sup : Master) (Reg.DSK_LANE_SKEW (1 : Nat)) = none) ∧
    (inPages (0x4003FFFC : Nat) = true ∧ isPage (0x4003FFFC : Nat) = false) ∧
    (isPage (0x4000C018 : Nat) = true ∧ (0x4000C018 : Nat) % 4 = 0 ∧ pageGrants ({ wAll 0x0C with variant := .ln7720 } : State) (.sup : Master) (pageOf (0x4000C018 : Nat)) .read = true ∧ absentPart ({ wAll 0x0C with variant := .ln7720 } : State).variant (0x4000C018 : Nat) = true ∧ latched ({ wAll 0x0C with variant := .ln7720 } : State) (.sup : Master) (0x4000C018 : Nat) = none) ∧
    (mapped (0x50000000 : Nat) = false) ∧
    (mapped (0x4003FFFC : Nat) = true ∧ (State.reset : State).wf = true) := by
  refine ⟨?_, ?_, ?_, ?_, ?_, ?_, ?_, ?_, ?_, ?_, ?_, ?_, ?_⟩ <;> decide +kernel

/-- The hypotheses of Obligations.CtrlResetsAndFreezes can be met, clause by clause. -/
theorem witness_CtrlResetsAndFreezes :
    (isPage (Reg.CTRL (0x26 : Nat)) = true ∧ (0x26 : Nat) < 0x29 ∧ pageGrants ((((wAll 0x26).raise 0x26 0).setReg (Reg.IRQ_EN 0x26) 3#32).err 0x26 0x2302 4 : State) (.sup : Master) (0x26 : Nat) .write = true ∧ absentPart ((((wAll 0x26).raise 0x26 0).setReg (Reg.IRQ_EN 0x26) 3#32).err 0x26 0x2302 4 : State).variant (Reg.CTRL (0x26 : Nat)) = false ∧ ctrlRefused ((((wAll 0x26).raise 0x26 0).setReg (Reg.IRQ_EN 0x26) 3#32).err 0x26 0x2302 4 : State) (0x26 : Nat) (3 : Word) = false ∧ ((((wAll 0x26).raise 0x26 0).setReg (Reg.IRQ_EN 0x26) 3#32).err 0x26 0x2302 4 : State).locked (0x26 : Nat) = false ∧ fieldOf (3 : Word) 1 1 = 1 ∧ ((0x26 : Nat) = 3 ∨ (0x26 : Nat) = 5 ∨ (0x26 : Nat) = 8 ∨ (0x26 : Nat) = 0x16 ∨ (0x26 : Nat) = 0x25 ∨ (0x26 : Nat) = 0x26) ∧ ((((wAll 0x26).raise 0x26 0).setReg (Reg.IRQ_EN 0x26) 3#32).err 0x26 0x2302 4 : State).frozen (0x26 : Nat) = false ∧ ((.sup : Master) ≠ .dbg ∨ fieldOf (3 : Word) 2 1 = 0)) ∧
    (isPage (Reg.CTRL (0x0F : Nat)) = true ∧ (0x0F : Nat) < 0x29 ∧ pageGrants (((wAll 0x0F).setReg Reg.DET_WS_SLOTS 2#32).setReg (Reg.IRQ_EN 0x0F) 3#32 : State) (.sup : Master) (0x0F : Nat) .write = true ∧ absentPart (((wAll 0x0F).setReg Reg.DET_WS_SLOTS 2#32).setReg (Reg.IRQ_EN 0x0F) 3#32 : State).variant (Reg.CTRL (0x0F : Nat)) = false ∧ ctrlRefused (((wAll 0x0F).setReg Reg.DET_WS_SLOTS 2#32).setReg (Reg.IRQ_EN 0x0F) 3#32 : State) (0x0F : Nat) (3 : Word) = false ∧ (((wAll 0x0F).setReg Reg.DET_WS_SLOTS 2#32).setReg (Reg.IRQ_EN 0x0F) 3#32 : State).locked (0x0F : Nat) = false ∧ fieldOf (3 : Word) 1 1 = 1 ∧ srstPage (0x0F : Nat) = true ∧ (((wAll 0x0F).setReg Reg.DET_WS_SLOTS 2#32).setReg (Reg.IRQ_EN 0x0F) 3#32 : State).frozen (0x0F : Nat) = false ∧ ((.sup : Master) ≠ .dbg ∨ fieldOf (3 : Word) 2 1 = 0)) ∧
    (isPage (Reg.CTRL (0x05 : Nat)) = true ∧ (0x05 : Nat) < 0x29 ∧ pageGrants (wAll 0x05 : State) (.sup : Master) (0x05 : Nat) .write = true ∧ absentPart (wAll 0x05 : State).variant (Reg.CTRL (0x05 : Nat)) = false ∧ ctrlRefused (wAll 0x05 : State) (0x05 : Nat) (3 : Word) = false ∧ (wAll 0x05 : State).locked (0x05 : Nat) = false ∧ fieldOf (3 : Word) 1 1 = 1 ∧ srstPage (0x05 : Nat) = true ∧ (wAll 0x05 : State).frozen (0x05 : Nat) = false ∧ ((.sup : Master) ≠ .dbg ∨ fieldOf (3 : Word) 2 1 = 0)) ∧
    (isPage (Reg.CTRL (0x12 : Nat)) = true ∧ (0x12 : Nat) < 0x29 ∧ pageGrants ((wAll 0x12).setW (wArms [wArm]).wenc : State) (.sup : Master) (0x12 : Nat) .write = true ∧ absentPart ((wAll 0x12).setW (wArms [wArm]).wenc : State).variant (Reg.CTRL (0x12 : Nat)) = false ∧ ctrlRefused ((wAll 0x12).setW (wArms [wArm]).wenc : State) (0x12 : Nat) (3 : Word) = false ∧ ((wAll 0x12).setW (wArms [wArm]).wenc : State).locked (0x12 : Nat) = false ∧ fieldOf (3 : Word) 1 1 = 1 ∧ srstPage (0x12 : Nat) = true ∧ ((wAll 0x12).setW (wArms [wArm]).wenc : State).frozen (0x12 : Nat) = false ∧ ((.sup : Master) ≠ .dbg ∨ fieldOf (3 : Word) 2 1 = 0)) ∧
    (isPage (Reg.CTRL (0x19 : Nat)) = true ∧ (0x19 : Nat) < 0x29 ∧ pageGrants (wAll 0x19 : State) (.sup : Master) (0x19 : Nat) .write = true ∧ absentPart (wAll 0x19 : State).variant (Reg.CTRL (0x19 : Nat)) = false ∧ ctrlRefused (wAll 0x19 : State) (0x19 : Nat) (3 : Word) = false ∧ (wAll 0x19 : State).locked (0x19 : Nat) = false ∧ fieldOf (3 : Word) 1 1 = 1 ∧ srstPage (0x19 : Nat) = true ∧ (wAll 0x19 : State).frozen (0x19 : Nat) = false ∧ ((.sup : Master) ≠ .dbg ∨ fieldOf (3 : Word) 2 1 = 0)) ∧
    (isPage (Reg.CTRL (0x28 : Nat)) = true ∧ (0x28 : Nat) < 0x29 ∧ pageGrants (wAll 0x28 : State) (.sup : Master) (0x28 : Nat) .write = true ∧ absentPart (wAll 0x28 : State).variant (Reg.CTRL (0x28 : Nat)) = false ∧ ctrlRefused (wAll 0x28 : State) (0x28 : Nat) (3 : Word) = false ∧ (wAll 0x28 : State).locked (0x28 : Nat) = false ∧ fieldOf (3 : Word) 1 1 = 1 ∧ srstPage (0x28 : Nat) = true ∧ (wAll 0x28 : State).frozen (0x28 : Nat) = false ∧ ((.sup : Master) ≠ .dbg ∨ fieldOf (3 : Word) 2 1 = 0)) ∧
    (isPage (Reg.CTRL (0x0B : Nat)) = true ∧ (0x0B : Nat) < 0x29 ∧ pageGrants ((wAll 0x0B).setLstate 1 6 : State) (.sup : Master) (0x0B : Nat) .write = true ∧ absentPart ((wAll 0x0B).setLstate 1 6 : State).variant (Reg.CTRL (0x0B : Nat)) = false ∧ ctrlRefused ((wAll 0x0B).setLstate 1 6 : State) (0x0B : Nat) (3 : Word) = false ∧ ((wAll 0x0B).setLstate 1 6 : State).locked (0x0B : Nat) = false ∧ fieldOf (3 : Word) 1 1 = 1 ∧ 0x0A ≤ (0x0B : Nat) ∧ (0x0B : Nat) ≤ 0x0D ∧ ((wAll 0x0B).setLstate 1 6 : State).frozen (0x0B : Nat) = false ∧ ((.sup : Master) ≠ .dbg ∨ fieldOf (3 : Word) 2 1 = 0)) ∧
    (isPage (Reg.CTRL (0x1C : Nat)) = true ∧ (0x1C : Nat) < 0x29 ∧ pageGrants (wAll 0x1C : State) (.sup : Master) (0x1C : Nat) .write = true ∧ absentPart (wAll 0x1C : State).variant (Reg.CTRL (0x1C : Nat)) = false ∧ ctrlRefused (wAll 0x1C : State) (0x1C : Nat) (3 : Word) = false ∧ (wAll 0x1C : State).locked (0x1C : Nat) = false ∧ fieldOf (3 : Word) 1 1 = 1 ∧ srstPage (0x1C : Nat) = false) ∧
    (isPage (Reg.CTRL (0x26 : Nat)) = true ∧ (0x26 : Nat) < 0x29 ∧ pageGrants ((wAll 0x26).setBit Reg.DBG_CFG 2 true : State) .dbg (0x26 : Nat) .write = true ∧ absentPart ((wAll 0x26).setBit Reg.DBG_CFG 2 true : State).variant (Reg.CTRL (0x26 : Nat)) = false ∧ ctrlRefused ((wAll 0x26).setBit Reg.DBG_CFG 2 true : State) (0x26 : Nat) (5 : Word) = false ∧ ((wAll 0x26).setBit Reg.DBG_CFG 2 true : State).locked (0x26 : Nat) = false ∧ freezePage (0x26 : Nat) = true ∧ ((wAll 0x26).setBit Reg.DBG_CFG 2 true : State).bit Reg.OPT_SEL 12 = false ∧ fieldOf (5 : Word) 1 1 = 0 ∧ fieldOf (5 : Word) 2 1 = 1) ∧
    (isPage (Reg.CTRL (0x26 : Nat)) = true ∧ (0x26 : Nat) < 0x29 ∧ pageGrants (((wAll 0x26).setBit Reg.DBG_CFG 2 true).setBit (Reg.CTRL 0x26) 2 true : State) .dbg (0x26 : Nat) .write = true ∧ absentPart (((wAll 0x26).setBit Reg.DBG_CFG 2 true).setBit (Reg.CTRL 0x26) 2 true : State).variant (Reg.CTRL (0x26 : Nat)) = false ∧ ctrlRefused (((wAll 0x26).setBit Reg.DBG_CFG 2 true).setBit (Reg.CTRL 0x26) 2 true : State) (0x26 : Nat) (1 : Word) = false ∧ (((wAll 0x26).setBit Reg.DBG_CFG 2 true).setBit (Reg.CTRL 0x26) 2 true : State).locked (0x26 : Nat) = false ∧ freezePage (0x26 : Nat) = true ∧ (((wAll 0x26).setBit Reg.DBG_CFG 2 true).setBit (Reg.CTRL 0x26) 2 true : State).bit Reg.OPT_SEL 12 = false ∧ fieldOf (1 : Word) 1 1 = 0 ∧ fieldOf (1 : Word) 2 1 = 0) ∧
    (isPage (Reg.CTRL (0x26 : Nat)) = true ∧ (0x26 : Nat) < 0x29 ∧ pageGrants (wAll 0x26 : State) (.sup : Master) (0x26 : Nat) .write = true ∧ absentPart (wAll 0x26 : State).variant (Reg.CTRL (0x26 : Nat)) = false ∧ ctrlRefused (wAll 0x26 : State) (0x26 : Nat) (5 : Word) = false ∧ fieldOf (5 : Word) 1 1 = 0 ∧ ((.sup : Master) ≠ .dbg ∨ (wAll 0x26 : State).bit Reg.OPT_SEL 12 = true ∨ freezePage (0x26 : Nat) = false)) ∧
    (isPage (Reg.CTRL (0x26 : Nat)) = true ∧ (0x26 : Nat) < 0x29 ∧ pageGrants ((wAll 0x26).setReg (Reg.LOCK 0x26) 0xA5#32 : State) (.sup : Master) (0x26 : Nat) .write = true ∧ absentPart ((wAll 0x26).setReg (Reg.LOCK 0x26) 0xA5#32 : State).variant (Reg.CTRL (0x26 : Nat)) = false ∧ ctrlRefused ((wAll 0x26).setReg (Reg.LOCK 0x26) 0xA5#32 : State) (0x26 : Nat) (1 : Word) = false ∧ ((wAll 0x26).setReg (Reg.LOCK 0x26) 0xA5#32 : State).locked (0x26 : Nat) = true ∧ fieldOf (1 : Word) 1 1 = 0 ∧ ((1 : Word) ^^^ ((wAll 0x26).setReg (Reg.LOCK 0x26) 0xA5#32 : State).reg (Reg.CTRL (0x26 : Nat))) &&& ctrlMask (0x26 : Nat) ≠ 0#32) ∧
    ((1 : Nat) < 0x29 ∧ pageGrants (wAll 1 : State) (.sup : Master) (1 : Nat) .write = true ∧ absentPart (wAll 1 : State).variant (Reg.CTRL (1 : Nat)) = false ∧ ctrlRefused (wAll 1 : State) (1 : Nat) (2 : Word) = true) ∧
    ((0x26 : Nat) < 0x29 ∧ pageGrants (State.reset : State) (.scrb : Master) (0x26 : Nat) .write = false) ∧
    ((0x0C : Nat) < 0x29 ∧ pageGrants ({ wAll 0x0C with variant := .ln7720 } : State) (.sup : Master) (0x0C : Nat) .write = true ∧ absentPart ({ wAll 0x0C with variant := .ln7720 } : State).variant (Reg.CTRL (0x0C : Nat)) = true) ∧
    ((1 : Nat) < 0x29 ∧ pageGrants (wAll 1 : State) (.sup : Master) (1 : Nat) .write = true ∧ absentPart (wAll 1 : State).variant (Reg.CTRL (1 : Nat)) = false ∧ ctrlRefused (wAll 1 : State) (1 : Nat) (2 : Word) = true) ∧
    ((0x26 : Nat) < 0x29 ∧ pageGrants (State.reset : State) (.scrb : Master) (0x26 : Nat) .write = false) ∧
    ((0x0C : Nat) < 0x29 ∧ pageGrants ({ wAll 0x0C with variant := .ln7720 } : State) (.sup : Master) (0x0C : Nat) .write = true ∧ absentPart ({ wAll 0x0C with variant := .ln7720 } : State).variant (Reg.CTRL (0x0C : Nat)) = true) ∧
    ((0x26 : Nat) < 0x29 ∧ pageGrants (wAll 0x26 : State) (.sup : Master) (0x26 : Nat) .write = true ∧ absentPart (wAll 0x26 : State).variant (Reg.LOCK (0x26 : Nat)) = false) ∧
    ((0x26 : Nat) < 0x29 ∧ pageGrants (State.reset : State) (.scrb : Master) (0x26 : Nat) .write = false) ∧
    ((0x0C : Nat) < 0x29 ∧ pageGrants ({ wAll 0x0C with variant := .ln7720 } : State) (.sup : Master) (0x0C : Nat) .write = true ∧ absentPart ({ wAll 0x0C with variant := .ln7720 } : State).variant (Reg.LOCK (0x0C : Nat)) = true) := by
  refine ⟨?_, ?_, ?_, ?_, ?_, ?_, ?_, ?_, ?_, ?_, ?_, ?_, ?_, ?_, ?_, ?_, ?_, ?_, ?_, ?_, ?_⟩ <;> decide +kernel

/-- The hypotheses of Obligations.PageIdsReadNeitherZeroNorOnes can be met, clause by clause. -/
theorem witness_PageIdsReadNeitherZeroNorOnes :
    State.reset.wf = true ∧ 0x28 < 0x29 := by
  decide +kernel

/-- The hypotheses of Obligations.LineZeroIsRefusedOnTheLN7720 can be met, clause by clause. -/
theorem witness_LineZeroIsRefusedOnTheLN7720 :
    (({ wAll pgL2C with variant := .ln7720 } : State).variant = .ln7720 ∧ Takes ({ wAll pgL2C with variant := .ln7720 } : State) (.sup : Master) Reg.L2C_MOP (0x80000004 : Word) (newOf ({ wAll pgL2C with variant := .ln7720 } : State) (.sup : Master) Reg.L2C_MOP (0x80000004 : Word) : Word) ∧ fieldOf (0x80000004 : Word) 31 1 = 1 ∧ fieldOf (0x80000004 : Word) 0 3 = 4) := by
  decide +kernel

/-- The hypotheses of Obligations.AbsentPartsReadZeroAndDropWrites can be met, clause by clause. -/
theorem witness_AbsentPartsReadZeroAndDropWrites :
    ({ State.reset with variant := .ln7720 } : State).variant = .ln7720 ∧ absentOn20 0x4000C000 = true ∧ absentOn20 0x4000F1BC = true ∧
    (({ wAll 0x0C with variant := .ln7720 } : State).variant = .ln7720 ∧ absentOn20 0x4000C040 = true ∧ 0x4000C040 % 4 = 0 ∧ pageGrants { wAll 0x0C with variant := .ln7720 } .sup (pageOf 0x4000C040) .write = true) := by
  refine ⟨?_, ?_⟩ <;> decide +kernel

/-- The hypotheses of Obligations.IoCommandsAreTakenUp can be met, clause by clause. -/
theorem witness_IoCommandsAreTakenUp :
    ((wStill [wIo 2 [0#32, 0#32, 0#32]] : State).aloneMounted (wIo 2 [0#32, 0#32, 0#32] : Ctx) ∧ (wIo 2 [0#32, 0#32, 0#32] : Ctx).admin = false ∧ (wIo 2 [0#32, 0#32, 0#32] : Ctx).opc = 0x02 ∧ (dataBytes (wIo 2 [0#32, 0#32, 0#32] : Ctx) ≤ 4096 - (wIo 2 [0#32, 0#32, 0#32] : Ctx).quad 6 % 4096 ∨ (dataBytes (wIo 2 [0#32, 0#32, 0#32] : Ctx) ≤ 4096 - (wIo 2 [0#32, 0#32, 0#32] : Ctx).quad 6 % 4096 + 4096 ∧ (wIo 2 [0#32, 0#32, 0#32] : Ctx).quad 8 % 4096 = 0 ∧ (wIo 2 [0#32, 0#32, 0#32] : Ctx).quad 8 ≠ 0))) ∧
    ((wStill [{ wIo 2 [0#32, 0#32, 2#32] with dws := (wIo 2 [0#32, 0#32, 2#32]).dws.set 8 0xA000#32 }] : State).aloneMounted ({ wIo 2 [0#32, 0#32, 2#32] with dws := (wIo 2 [0#32, 0#32, 2#32]).dws.set 8 0xA000#32 } : Ctx) ∧ ({ wIo 2 [0#32, 0#32, 2#32] with dws := (wIo 2 [0#32, 0#32, 2#32]).dws.set 8 0xA000#32 } : Ctx).admin = false ∧ ({ wIo 2 [0#32, 0#32, 2#32] with dws := (wIo 2 [0#32, 0#32, 2#32]).dws.set 8 0xA000#32 } : Ctx).opc = 0x02 ∧ 4096 - ({ wIo 2 [0#32, 0#32, 2#32] with dws := (wIo 2 [0#32, 0#32, 2#32]).dws.set 8 0xA000#32 } : Ctx).quad 6 % 4096 + 4096 < dataBytes ({ wIo 2 [0#32, 0#32, 2#32] with dws := (wIo 2 [0#32, 0#32, 2#32]).dws.set 8 0xA000#32 } : Ctx) ∧ ({ wIo 2 [0#32, 0#32, 2#32] with dws := (wIo 2 [0#32, 0#32, 2#32]).dws.set 8 0xA000#32 } : Ctx).quad 8 ≠ 0) ∧
    ((wStill [wIo 1 [0#32, 0#32, 0#32]] : State).aloneMounted (wIo 1 [0#32, 0#32, 0#32] : Ctx) ∧ (wIo 1 [0#32, 0#32, 0#32] : Ctx).admin = false ∧ (wIo 1 [0#32, 0#32, 0#32] : Ctx).opc = 0x01 ∧ (dataBytes (wIo 1 [0#32, 0#32, 0#32] : Ctx) ≤ 4096 - (wIo 1 [0#32, 0#32, 0#32] : Ctx).quad 6 % 4096 ∨ (dataBytes (wIo 1 [0#32, 0#32, 0#32] : Ctx) ≤ 4096 - (wIo 1 [0#32, 0#32, 0#32] : Ctx).quad 6 % 4096 + 4096 ∧ (wIo 1 [0#32, 0#32, 0#32] : Ctx).quad 8 % 4096 = 0 ∧ (wIo 1 [0#32, 0#32, 0#32] : Ctx).quad 8 ≠ 0))) ∧
    ((wStill [{ wIo 1 [0#32, 0#32, 0xFF#32] with dws := (wIo 1 [0#32, 0#32, 0xFF#32]).dws.set 8 0xA000#32 }] : State).aloneMounted ({ wIo 1 [0#32, 0#32, 0xFF#32] with dws := (wIo 1 [0#32, 0#32, 0xFF#32]).dws.set 8 0xA000#32 } : Ctx) ∧ ({ wIo 1 [0#32, 0#32, 0xFF#32] with dws := (wIo 1 [0#32, 0#32, 0xFF#32]).dws.set 8 0xA000#32 } : Ctx).admin = false ∧ ({ wIo 1 [0#32, 0#32, 0xFF#32] with dws := (wIo 1 [0#32, 0#32, 0xFF#32]).dws.set 8 0xA000#32 } : Ctx).opc = 0x01 ∧ 4096 - ({ wIo 1 [0#32, 0#32, 0xFF#32] with dws := (wIo 1 [0#32, 0#32, 0xFF#32]).dws.set 8 0xA000#32 } : Ctx).quad 6 % 4096 + 4096 < dataBytes ({ wIo 1 [0#32, 0#32, 0xFF#32] with dws := (wIo 1 [0#32, 0#32, 0xFF#32]).dws.set 8 0xA000#32 } : Ctx) ∧ ({ wIo 1 [0#32, 0#32, 0xFF#32] with dws := (wIo 1 [0#32, 0#32, 0xFF#32]).dws.set 8 0xA000#32 } : Ctx).quad 8 ≠ 0) ∧
    ((wStill [wIo 5 [0#32, 0#32, 0#32]] : State).aloneMounted (wIo 5 [0#32, 0#32, 0#32] : Ctx) ∧ (wIo 5 [0#32, 0#32, 0#32] : Ctx).admin = false ∧ (wIo 5 [0#32, 0#32, 0#32] : Ctx).opc = 0x05 ∧ (dataBytes (wIo 5 [0#32, 0#32, 0#32] : Ctx) ≤ 4096 - (wIo 5 [0#32, 0#32, 0#32] : Ctx).quad 6 % 4096 ∨ (dataBytes (wIo 5 [0#32, 0#32, 0#32] : Ctx) ≤ 4096 - (wIo 5 [0#32, 0#32, 0#32] : Ctx).quad 6 % 4096 + 4096 ∧ (wIo 5 [0#32, 0#32, 0#32] : Ctx).quad 8 % 4096 = 0 ∧ (wIo 5 [0#32, 0#32, 0#32] : Ctx).quad 8 ≠ 0))) ∧
    ((wStill [{ wIo 5 [0#32, 0#32, 2#32] with dws := (wIo 5 [0#32, 0#32, 2#32]).dws.set 8 0xA000#32 }] : State).aloneMounted ({ wIo 5 [0#32, 0#32, 2#32] with dws := (wIo 5 [0#32, 0#32, 2#32]).dws.set 8 0xA000#32 } : Ctx) ∧ ({ wIo 5 [0#32, 0#32, 2#32] with dws := (wIo 5 [0#32, 0#32, 2#32]).dws.set 8 0xA000#32 } : Ctx).admin = false ∧ ({ wIo 5 [0#32, 0#32, 2#32] with dws := (wIo 5 [0#32, 0#32, 2#32]).dws.set 8 0xA000#32 } : Ctx).opc = 0x05 ∧ 4096 - ({ wIo 5 [0#32, 0#32, 2#32] with dws := (wIo 5 [0#32, 0#32, 2#32]).dws.set 8 0xA000#32 } : Ctx).quad 6 % 4096 + 4096 < dataBytes ({ wIo 5 [0#32, 0#32, 2#32] with dws := (wIo 5 [0#32, 0#32, 2#32]).dws.set 8 0xA000#32 } : Ctx) ∧ ({ wIo 5 [0#32, 0#32, 2#32] with dws := (wIo 5 [0#32, 0#32, 2#32]).dws.set 8 0xA000#32 } : Ctx).quad 8 ≠ 0) ∧
    ((wStill [wIo 9 [255#32, 4#32]] : State).aloneMounted (wIo 9 [255#32, 4#32] : Ctx) ∧ (wIo 9 [255#32, 4#32] : Ctx).admin = false ∧ (wIo 9 [255#32, 4#32] : Ctx).opc = 0x09 ∧ (dataBytes (wIo 9 [255#32, 4#32] : Ctx) ≤ 4096 - (wIo 9 [255#32, 4#32] : Ctx).quad 6 % 4096 ∨ (dataBytes (wIo 9 [255#32, 4#32] : Ctx) ≤ 4096 - (wIo 9 [255#32, 4#32] : Ctx).quad 6 % 4096 + 4096 ∧ (wIo 9 [255#32, 4#32] : Ctx).quad 8 % 4096 = 0 ∧ (wIo 9 [255#32, 4#32] : Ctx).quad 8 ≠ 0))) ∧
    ((wStill [wIo 8 [0#32, 0#32, 0xFF#32]] : State).aloneMounted (wIo 8 [0#32, 0#32, 0xFF#32] : Ctx) ∧ (wIo 8 [0#32, 0#32, 0xFF#32] : Ctx).admin = false ∧ (wIo 8 [0#32, 0#32, 0xFF#32] : Ctx).opc = 0x08) ∧
    ((wStill [wIo 0 []] : State).aloneMounted (wIo 0 [] : Ctx) ∧ (wIo 0 [] : Ctx).admin = false ∧ (wIo 0 [] : Ctx).opc = 0x00) ∧
    ((wStill [{ wIo 5 [0#32, 0#32, 1#32] with dws := (wIo 5 [0#32, 0#32, 1#32]).dws.set 8 0xA008#32 }] : State).aloneMounted ({ wIo 5 [0#32, 0#32, 1#32] with dws := (wIo 5 [0#32, 0#32, 1#32]).dws.set 8 0xA008#32 } : Ctx) ∧ ({ wIo 5 [0#32, 0#32, 1#32] with dws := (wIo 5 [0#32, 0#32, 1#32]).dws.set 8 0xA008#32 } : Ctx).admin = false ∧ (cmdKey ({ wIo 5 [0#32, 0#32, 1#32] with dws := (wIo 5 [0#32, 0#32, 1#32]).dws.set 8 0xA008#32 } : Ctx), (.cmdCompare 9 : Instr)) ∈ cmdRows ({ wIo 5 [0#32, 0#32, 1#32] with dws := (wIo 5 [0#32, 0#32, 1#32]).dws.set 8 0xA008#32 } : Ctx).seq none ∧ 4096 - ({ wIo 5 [0#32, 0#32, 1#32] with dws := (wIo 5 [0#32, 0#32, 1#32]).dws.set 8 0xA008#32 } : Ctx).quad 6 % 4096 < dataBytes ({ wIo 5 [0#32, 0#32, 1#32] with dws := (wIo 5 [0#32, 0#32, 1#32]).dws.set 8 0xA008#32 } : Ctx) ∧ (({ wIo 5 [0#32, 0#32, 1#32] with dws := (wIo 5 [0#32, 0#32, 1#32]).dws.set 8 0xA008#32 } : Ctx).quad 8 = 0 ∧ (stPrpOffset : Nat) = stDataXfer ∨ dataBytes ({ wIo 5 [0#32, 0#32, 1#32] with dws := (wIo 5 [0#32, 0#32, 1#32]).dws.set 8 0xA008#32 } : Ctx) ≤ 4096 - ({ wIo 5 [0#32, 0#32, 1#32] with dws := (wIo 5 [0#32, 0#32, 1#32]).dws.set 8 0xA008#32 } : Ctx).quad 6 % 4096 + 4096 ∧ ({ wIo 5 [0#32, 0#32, 1#32] with dws := (wIo 5 [0#32, 0#32, 1#32]).dws.set 8 0xA008#32 } : Ctx).quad 8 % 4096 ≠ 0 ∧ (stPrpOffset : Nat) = stPrpOffset)) ∧
    ((wStill [wIo 2 [1000#32, 0#32, 0#32]] : State).still ∧ (wStill [wIo 2 [1000#32, 0#32, 0#32]] : State).hq.ctx = [(wIo 2 [1000#32, 0#32, 0#32] : Ctx)] ∧ (wIo 2 [1000#32, 0#32, 0#32] : Ctx).phase = .accepted ∧ lgRuns (wStill [wIo 2 [1000#32, 0#32, 0#32]] : State) = false ∧ cfs (wStill [wIo 2 [1000#32, 0#32, 0#32]] : State) = false ∧ (wIo 2 [1000#32, 0#32, 0#32] : Ctx).admin = false ∧ (cmdKey (wIo 2 [1000#32, 0#32, 0#32] : Ctx), (.cmdRead 9 : Instr)) ∈ cmdRows (wIo 2 [1000#32, 0#32, 0#32] : Ctx).seq none ∧ entryFault (wStill [wIo 2 [1000#32, 0#32, 0#32]] : State) (wIo 2 [1000#32, 0#32, 0#32] : Ctx) = some (stLbaRange : Nat)) ∧
    (((wStill [wIo 1 [0#32, 0#32, 0#32]]).setBit (Reg.STAT pgMEDM) 8 true : State).still ∧ ((wStill [wIo 1 [0#32, 0#32, 0#32]]).setBit (Reg.STAT pgMEDM) 8 true : State).hq.ctx = [(wIo 1 [0#32, 0#32, 0#32] : Ctx)] ∧ (wIo 1 [0#32, 0#32, 0#32] : Ctx).phase = .accepted ∧ lgRuns ((wStill [wIo 1 [0#32, 0#32, 0#32]]).setBit (Reg.STAT pgMEDM) 8 true : State) = false ∧ cfs ((wStill [wIo 1 [0#32, 0#32, 0#32]]).setBit (Reg.STAT pgMEDM) 8 true : State) = false ∧ ((wStill [wIo 1 [0#32, 0#32, 0#32]]).setBit (Reg.STAT pgMEDM) 8 true : State).boot.phase ≠ .recovery ∧ (wIo 1 [0#32, 0#32, 0#32] : Ctx).admin = false ∧ (wIo 1 [0#32, 0#32, 0#32] : Ctx).opc = 0x01 ∧ reservedSet (wIo 1 [0#32, 0#32, 0#32] : Ctx) = false ∧ formBad (wIo 1 [0#32, 0#32, 0#32] : Ctx) = false ∧ nsidOk (wIo 1 [0#32, 0#32, 0#32] : Ctx) = true ∧ ((wStill [wIo 1 [0#32, 0#32, 0#32]]).setBit (Reg.STAT pgMEDM) 8 true : State).sv.focusLost = false ∧ writeProt ((wStill [wIo 1 [0#32, 0#32, 0#32]]).setBit (Reg.STAT pgMEDM) 8 true : State) = true) ∧
    ((wStill [wIo 2 [1000#32, 0#32, 0#32]] : State).still ∧ (wStill [wIo 2 [1000#32, 0#32, 0#32]] : State).hq.ctx = [(wIo 2 [1000#32, 0#32, 0#32] : Ctx)] ∧ (wIo 2 [1000#32, 0#32, 0#32] : Ctx).phase = .accepted ∧ lgRuns (wStill [wIo 2 [1000#32, 0#32, 0#32]] : State) = false ∧ cfs (wStill [wIo 2 [1000#32, 0#32, 0#32]] : State) = false ∧ (wStill [wIo 2 [1000#32, 0#32, 0#32]] : State).boot.phase ≠ .recovery ∧ (wIo 2 [1000#32, 0#32, 0#32] : Ctx).admin = false ∧ (wIo 2 [1000#32, 0#32, 0#32] : Ctx).opc = 0x02 ∧ reservedSet (wIo 2 [1000#32, 0#32, 0#32] : Ctx) = false ∧ formBad (wIo 2 [1000#32, 0#32, 0#32] : Ctx) = false ∧ nsidOk (wIo 2 [1000#32, 0#32, 0#32] : Ctx) = true ∧ (wStill [wIo 2 [1000#32, 0#32, 0#32]] : State).sv.focusLost = false ∧ (wIo 2 [1000#32, 0#32, 0#32] : Ctx).nlb ≤ 256 ∧ ((wStill [wIo 2 [1000#32, 0#32, 0#32]] : State).reg Reg.XLT_NSZE).toNat < (wIo 2 [1000#32, 0#32, 0#32] : Ctx).slba + (wIo 2 [1000#32, 0#32, 0#32] : Ctx).nlb) ∧
    (mounted ((wStill [wIo 0 []]).setBit (Reg.STAT pgXLT) 8 false : State) = false ∧ ((wStill [wIo 0 []]).setBit (Reg.STAT pgXLT) 8 false : State).xlt.jr.units = [] ∧ ((wStill [wIo 0 []]).setBit (Reg.STAT pgXLT) 8 false : State).hq.shut = 0 ∧ ((wStill [wIo 0 []]).setBit (Reg.STAT pgXLT) 8 false : State).boot.warm = false ∧ ((wStill [wIo 0 []]).setBit (Reg.STAT pgXLT) 8 false : State).hq.ctx = [(wIo 0 [] : Ctx)] ∧ (wIo 0 [] : Ctx).phase = .accepted ∧ lgRuns ((wStill [wIo 0 []]).setBit (Reg.STAT pgXLT) 8 false : State) = false ∧ cfs ((wStill [wIo 0 []]).setBit (Reg.STAT pgXLT) 8 false : State) = false ∧ (wIo 0 [] : Ctx).admin = false ∧ (wIo 0 [] : Ctx).opc = 0x00 ∧ reservedSet (wIo 0 [] : Ctx) = false ∧ formBad (wIo 0 [] : Ctx) = false ∧ nsidOk (wIo 0 [] : Ctx) = true) ∧
    ((wResting [wIo 0 []] : State).resting ∧ (wResting [wIo 0 []] : State).hq.ctx = [(wIo 0 [] : Ctx)] ∧ (wIo 0 [] : Ctx).phase = .accepted ∧ entryFault (wResting [wIo 0 []] : State) (wIo 0 [] : Ctx) = none ∧ (wIo 0 [] : Ctx).admin = false ∧ (wIo 0 [] : Ctx).opc = 0x00) ∧
    ((wResting [wIo 2 [5#32, 0#32, 0#32]] : State).resting ∧ (wResting [wIo 2 [5#32, 0#32, 0#32]] : State).soundMemory ∧ (wResting [wIo 2 [5#32, 0#32, 0#32]] : State).hq.ctx = [(wIo 2 [5#32, 0#32, 0#32] : Ctx)] ∧ (wIo 2 [5#32, 0#32, 0#32] : Ctx).phase = .accepted ∧ entryFault (wResting [wIo 2 [5#32, 0#32, 0#32]] : State) (wIo 2 [5#32, 0#32, 0#32] : Ctx) = none ∧ (wIo 2 [5#32, 0#32, 0#32] : Ctx).admin = false ∧ mayIssue (wResting [wIo 2 [5#32, 0#32, 0#32]] : State) = true ∧ (wIo 2 [5#32, 0#32, 0#32] : Ctx).opc = 0x02 ∧ prpReady { (wIo 2 [5#32, 0#32, 0#32] : Ctx) with pages := [(wIo 2 [5#32, 0#32, 0#32] : Ctx).quad 6] } = true ∧ (lookup (wResting [wIo 2 [5#32, 0#32, 0#32]] : State) (wIo 2 [5#32, 0#32, 0#32] : Ctx).slba (wIo 2 [5#32, 0#32, 0#32] : Ctx).nlb).1.2 = none ∧ (piecesOf (wIo 2 [5#32, 0#32, 0#32] : Ctx).slba (wIo 2 [5#32, 0#32, 0#32] : Ctx).nlb (lookup (wResting [wIo 2 [5#32, 0#32, 0#32]] : State) (wIo 2 [5#32, 0#32, 0#32] : Ctx).slba (wIo 2 [5#32, 0#32, 0#32] : Ctx).nlb).1.1).all (fun p => p.st == 0 || p.st == 2) = true) ∧
    ((wResting [wIo 5 [5#32, 0#32, 0#32]] : State).resting ∧ (wResting [wIo 5 [5#32, 0#32, 0#32]] : State).soundMemory ∧ (wResting [wIo 5 [5#32, 0#32, 0#32]] : State).hq.ctx = [(wIo 5 [5#32, 0#32, 0#32] : Ctx)] ∧ (wIo 5 [5#32, 0#32, 0#32] : Ctx).phase = .accepted ∧ entryFault (wResting [wIo 5 [5#32, 0#32, 0#32]] : State) (wIo 5 [5#32, 0#32, 0#32] : Ctx) = none ∧ (wIo 5 [5#32, 0#32, 0#32] : Ctx).admin = false ∧ (wIo 5 [5#32, 0#32, 0#32] : Ctx).opc = 0x05 ∧ prpReady { (wIo 5 [5#32, 0#32, 0#32] : Ctx) with pages := [(wIo 5 [5#32, 0#32, 0#32] : Ctx).quad 6] } = true ∧ (lookup (wResting [wIo 5 [5#32, 0#32, 0#32]] : State) (wIo 5 [5#32, 0#32, 0#32] : Ctx).slba (wIo 5 [5#32, 0#32, 0#32] : Ctx).nlb).1.2 = none ∧ (piecesOf (wIo 5 [5#32, 0#32, 0#32] : Ctx).slba (wIo 5 [5#32, 0#32, 0#32] : Ctx).nlb (lookup (wResting [wIo 5 [5#32, 0#32, 0#32]] : State) (wIo 5 [5#32, 0#32, 0#32] : Ctx).slba (wIo 5 [5#32, 0#32, 0#32] : Ctx).nlb).1.1).all (fun p => p.st == 0 || p.st == 2) = true) ∧
    ((wRoom [wIo 1 [5#32, 0#32, 0#32]] : State).resting ∧ (wRoom [wIo 1 [5#32, 0#32, 0#32]] : State).soundMemory ∧ (wRoom [wIo 1 [5#32, 0#32, 0#32]] : State).hq.ctx = [(wIo 1 [5#32, 0#32, 0#32] : Ctx)] ∧ (wIo 1 [5#32, 0#32, 0#32] : Ctx).phase = .accepted ∧ entryFault (wRoom [wIo 1 [5#32, 0#32, 0#32]] : State) (wIo 1 [5#32, 0#32, 0#32] : Ctx) = none ∧ (wIo 1 [5#32, 0#32, 0#32] : Ctx).admin = false ∧ writingEnded (wRoom [wIo 1 [5#32, 0#32, 0#32]] : State) = false ∧ (wIo 1 [5#32, 0#32, 0#32] : Ctx).opc = 0x01 ∧ prpReady { (wIo 1 [5#32, 0#32, 0#32] : Ctx) with pages := [(wIo 1 [5#32, 0#32, 0#32] : Ctx).quad 6] } = true ∧ (lookup (wRoom [wIo 1 [5#32, 0#32, 0#32]] : State) (wIo 1 [5#32, 0#32, 0#32] : Ctx).slba (wIo 1 [5#32, 0#32, 0#32] : Ctx).nlb).1.2 = none ∧ canReserve (wRoom [wIo 1 [5#32, 0#32, 0#32]] : State) (wIo 1 [5#32, 0#32, 0#32] : Ctx).slba (wIo 1 [5#32, 0#32, 0#32] : Ctx).nlb = true ∧ (1 : Nat) = streamOf (wRoom [wIo 1 [5#32, 0#32, 0#32]] : State) (heatOf (wRoom [wIo 1 [5#32, 0#32, 0#32]] : State) (lookup (wRoom [wIo 1 [5#32, 0#32, 0#32]] : State) (wIo 1 [5#32, 0#32, 0#32] : Ctx).slba (wIo 1 [5#32, 0#32, 0#32] : Ctx).nlb).1.1).1 ∧ capacityGone (wRoom [wIo 1 [5#32, 0#32, 0#32]] : State) (1 : Nat) = false ∧ (wIo 1 [5#32, 0#32, 0#32] : Ctx).nlb ≤ roomFor (wRoom [wIo 1 [5#32, 0#32, 0#32]] : State) (1 : Nat)) ∧
    ((wResting [wIo 8 [5#32, 0#32, 7#32]] : State).resting ∧ (wResting [wIo 8 [5#32, 0#32, 7#32]] : State).soundMemory ∧ (wResting [wIo 8 [5#32, 0#32, 7#32]] : State).hq.ctx = [(wIo 8 [5#32, 0#32, 7#32] : Ctx)] ∧ (wIo 8 [5#32, 0#32, 7#32] : Ctx).phase = .accepted ∧ entryFault (wResting [wIo 8 [5#32, 0#32, 7#32]] : State) (wIo 8 [5#32, 0#32, 7#32] : Ctx) = none ∧ (wIo 8 [5#32, 0#32, 7#32] : Ctx).admin = false ∧ (wIo 8 [5#32, 0#32, 7#32] : Ctx).opc = 0x08 ∧ (lookup (wResting [wIo 8 [5#32, 0#32, 7#32]] : State) (wIo 8 [5#32, 0#32, 7#32] : Ctx).slba (wIo 8 [5#32, 0#32, 7#32] : Ctx).nlb).1.2 = none ∧ canReserve (wResting [wIo 8 [5#32, 0#32, 7#32]] : State) (wIo 8 [5#32, 0#32, 7#32] : Ctx).slba (wIo 8 [5#32, 0#32, 7#32] : Ctx).nlb = true) ∧
    ((wResting [wIo 9 [255#32, 4#32]] : State).resting ∧ (wResting [wIo 9 [255#32, 4#32]] : State).soundMemory ∧ (wResting [wIo 9 [255#32, 4#32]] : State).hq.ctx = [(wIo 9 [255#32, 4#32] : Ctx)] ∧ (wIo 9 [255#32, 4#32] : Ctx).phase = .accepted ∧ entryFault (wResting [wIo 9 [255#32, 4#32]] : State) (wIo 9 [255#32, 4#32] : Ctx) = none ∧ (wIo 9 [255#32, 4#32] : Ctx).admin = false ∧ (wIo 9 [255#32, 4#32] : Ctx).opc = 0x09 ∧ prpReady { (wIo 9 [255#32, 4#32] : Ctx) with pages := [(wIo 9 [255#32, 4#32] : Ctx).quad 6] } = true) := by
  refine ⟨?_, ?_, ?_, ?_, ?_, ?_, ?_, ?_, ?_, ?_, ?_, ?_, ?_, ?_, ?_, ?_, ?_, ?_, ?_, ?_⟩ <;> decide +kernel

/-- The hypotheses of Obligations.DiscsAreLoadedUnloadedAndVerified can be met, clause by clause. -/
theorem witness_DiscsAreLoadedUnloadedAndVerified :
    ((((wHold [wCmd 0 0xC1 0 [0#32]]).setBit (Reg.CTRL pgXLT) 2 true) : State).alone (wCmd 0 0xC1 0 [0#32] : Ctx) ∧ (((wHold [wCmd 0 0xC1 0 [0#32]]).setBit (Reg.CTRL pgXLT) 2 true) : State).frozen pgXLT = true ∧ (wCmd 0 0xC1 0 [0#32] : Ctx).admin = true ∧ (wCmd 0 0xC1 0 [0#32] : Ctx).opc = 0xC1 ∧ (wCmd 0 0xC1 0 [0#32] : Ctx).f 10 0 4 = 0 ∧ (⟨0, wDiWords, [], []⟩ : LoadIn).result ≠ 3 ∧ (⟨0, wDiWords, [], []⟩ : LoadIn).result ≠ 4 ∧ findDi (⟨0, wDiWords, [], []⟩ : LoadIn).words = .accepted (wDi : List Nat)) ∧
    ((((wHold [wCmd 0 0xC1 0 [0#32]]).setBit (Reg.CTRL pgXLT) 2 true) : State).alone (wCmd 0 0xC1 0 [0#32] : Ctx) ∧ (((wHold [wCmd 0 0xC1 0 [0#32]]).setBit (Reg.CTRL pgXLT) 2 true) : State).frozen pgXLT = true ∧ (wCmd 0 0xC1 0 [0#32] : Ctx).admin = true ∧ (wCmd 0 0xC1 0 [0#32] : Ctx).opc = 0xC1 ∧ (wCmd 0 0xC1 0 [0#32] : Ctx).f 10 0 4 = 0 ∧ (⟨4, wDiWords, [], []⟩ : LoadIn).result = 4) ∧
    ((((wHold [wCmd 0 0xC1 0 [0#32]]).setBit (Reg.CTRL pgXLT) 2 true) : State).alone (wCmd 0 0xC1 0 [0#32] : Ctx) ∧ (((wHold [wCmd 0 0xC1 0 [0#32]]).setBit (Reg.CTRL pgXLT) 2 true) : State).frozen pgXLT = true ∧ (wCmd 0 0xC1 0 [0#32] : Ctx).admin = true ∧ (wCmd 0 0xC1 0 [0#32] : Ctx).opc = 0xC1 ∧ (wCmd 0 0xC1 0 [0#32] : Ctx).f 10 0 4 = 0 ∧ (⟨0, [], [], []⟩ : LoadIn).result ≠ 4 ∧ findDi (⟨0, [], [], []⟩ : LoadIn).words = .nothing) ∧
    ((((wHold [wCmd 0 0xC1 0 [0#32]]).setBit (Reg.CTRL pgXLT) 2 true) : State).alone (wCmd 0 0xC1 0 [0#32] : Ctx) ∧ (((wHold [wCmd 0 0xC1 0 [0#32]]).setBit (Reg.CTRL pgXLT) 2 true) : State).frozen pgXLT = true ∧ (wCmd 0 0xC1 0 [0#32] : Ctx).admin = true ∧ (wCmd 0 0xC1 0 [0#32] : Ctx).opc = 0xC1 ∧ (wCmd 0 0xC1 0 [0#32] : Ctx).f 10 0 4 = 0 ∧ (⟨0, wDiBad, [], []⟩ : LoadIn).result ≠ 4 ∧ findDi (⟨0, wDiBad, [], []⟩ : LoadIn).words = .refused (wDi.set 3 0 : List Nat) ∧ (((wHold [wCmd 0 0xC1 0 [0#32]]).setBit (Reg.CTRL pgXLT) 2 true) : State).hq.masked = [] ∧ (((wHold [wCmd 0 0xC1 0 [0#32]]).setBit (Reg.CTRL pgXLT) 2 true) : State).hq.waiting = []) ∧
    ((((wHold [wCmd 0 0xC1 0 [0#32]]).setBit (Reg.CTRL pgXLT) 2 true) : State).alone (wCmd 0 0xC1 0 [0#32] : Ctx) ∧ (((wHold [wCmd 0 0xC1 0 [0#32]]).setBit (Reg.CTRL pgXLT) 2 true) : State).frozen pgXLT = true ∧ (wCmd 0 0xC1 0 [0#32] : Ctx).admin = true ∧ (wCmd 0 0xC1 0 [0#32] : Ctx).opc = 0xC1 ∧ (wCmd 0 0xC1 0 [0#32] : Ctx).f 10 0 4 = 0 ∧ (⟨3, wDiWords, [], []⟩ : LoadIn).result = 3 ∧ findDi (⟨3, wDiWords, [], []⟩ : LoadIn).words = .accepted (wDi : List Nat)) ∧
    ((((wHold [wCmd 0 0xC1 0 [0#32]]).setBit (Reg.CTRL pgXLT) 2 true) : State).alone (wCmd 0 0xC1 0 [0#32] : Ctx) ∧ (((wHold [wCmd 0 0xC1 0 [0#32]]).setBit (Reg.CTRL pgXLT) 2 true) : State).frozen pgXLT = true ∧ (wCmd 0 0xC1 0 [0#32] : Ctx).admin = true ∧ (wCmd 0 0xC1 0 [0#32] : Ctx).opc = 0xC1 ∧ (wCmd 0 0xC1 0 [0#32] : Ctx).f 10 0 4 = 0) ∧
    ((wStill [wCmd 0 0xC1 0 [0#32]] : State).aloneMounted (wCmd 0 0xC1 0 [0#32] : Ctx) ∧ (wCmd 0 0xC1 0 [0#32] : Ctx).admin = true ∧ (wCmd 0 0xC1 0 [0#32] : Ctx).opc = 0xC1 ∧ (wCmd 0 0xC1 0 [0#32] : Ctx).f 10 0 4 = 0) ∧
    ((wBack [wCmd 0 0xC1 0 [2#32]] : State).resting ∧ (wBack [wCmd 0 0xC1 0 [2#32]] : State).hq.ctx = [(wCmd 0 0xC1 0 [2#32] : Ctx)] ∧ (wCmd 0 0xC1 0 [2#32] : Ctx).admin = true ∧ (wCmd 0 0xC1 0 [2#32] : Ctx).opc = 0xC1 ∧ (wCmd 0 0xC1 0 [2#32] : Ctx).phase = .accepted ∧ entryFault (wBack [wCmd 0 0xC1 0 [2#32]] : State) (wCmd 0 0xC1 0 [2#32] : Ctx) = none ∧ (wCmd 0 0xC1 0 [2#32] : Ctx).f 10 0 4 = 2 ∧ (wCmd 0 0xC1 0 [2#32] : Ctx).step = 0 ∧ (wBack [wCmd 0 0xC1 0 [2#32]] : State).xlt.rw = true ∧ ((wBack [wCmd 0 0xC1 0 [2#32]] : State).brick 2).st = 9 ∧ ((wBack [wCmd 0 0xC1 0 [2#32]] : State).brick 3).st = 9 ∧ writingEnded (wBack [wCmd 0 0xC1 0 [2#32]] : State) = false) ∧
    ((wBack [wCmd 0 0xC1 0 [3#32]] : State).resting ∧ (wBack [wCmd 0 0xC1 0 [3#32]] : State).hq.ctx = [(wCmd 0 0xC1 0 [3#32] : Ctx)] ∧ (wCmd 0 0xC1 0 [3#32] : Ctx).admin = true ∧ (wCmd 0 0xC1 0 [3#32] : Ctx).opc = 0xC1 ∧ (wCmd 0 0xC1 0 [3#32] : Ctx).phase = .accepted ∧ entryFault (wBack [wCmd 0 0xC1 0 [3#32]] : State) (wCmd 0 0xC1 0 [3#32] : Ctx) = none ∧ (wCmd 0 0xC1 0 [3#32] : Ctx).f 10 0 4 = 3 ∧ (wCmd 0 0xC1 0 [3#32] : Ctx).step = 0 ∧ (wBack [wCmd 0 0xC1 0 [3#32]] : State).xlt.rw = true ∧ ((wBack [wCmd 0 0xC1 0 [3#32]] : State).brick 2).st = 9 ∧ ((wBack [wCmd 0 0xC1 0 [3#32]] : State).brick 3).st = 9 ∧ writingEnded (wBack [wCmd 0 0xC1 0 [3#32]] : State) = false) ∧
    ((wResting [{ wCmd 0 0xC1 0 [2#32] with phase := .running, step := 1 }] : State).resting ∧ (wResting [{ wCmd 0 0xC1 0 [2#32] with phase := .running, step := 1 }] : State).hq.ctx = [({ wCmd 0 0xC1 0 [2#32] with phase := .running, step := 1 } : Ctx)] ∧ ({ wCmd 0 0xC1 0 [2#32] with phase := .running, step := 1 } : Ctx).admin = true ∧ ({ wCmd 0 0xC1 0 [2#32] with phase := .running, step := 1 } : Ctx).opc = 0xC1 ∧ ({ wCmd 0 0xC1 0 [2#32] with phase := .running, step := 1 } : Ctx).phase = .running ∧ ({ wCmd 0 0xC1 0 [2#32] with phase := .running, step := 1 } : Ctx).f 10 0 4 = 2 ∧ ({ wCmd 0 0xC1 0 [2#32] with phase := .running, step := 1 } : Ctx).step = 1 ∧ ({ wCmd 0 0xC1 0 [2#32] with phase := .running, step := 1 } : Ctx).prpNext = none) ∧
    ((wResting [{ wCmd 0 0xC1 0 [3#32] with phase := .running, step := 1 }] : State).resting ∧ (wResting [{ wCmd 0 0xC1 0 [3#32] with phase := .running, step := 1 }] : State).hq.ctx = [({ wCmd 0 0xC1 0 [3#32] with phase := .running, step := 1 } : Ctx)] ∧ ({ wCmd 0 0xC1 0 [3#32] with phase := .running, step := 1 } : Ctx).admin = true ∧ ({ wCmd 0 0xC1 0 [3#32] with phase := .running, step := 1 } : Ctx).opc = 0xC1 ∧ ({ wCmd 0 0xC1 0 [3#32] with phase := .running, step := 1 } : Ctx).phase = .running ∧ ({ wCmd 0 0xC1 0 [3#32] with phase := .running, step := 1 } : Ctx).f 10 0 4 = 3 ∧ ({ wCmd 0 0xC1 0 [3#32] with phase := .running, step := 1 } : Ctx).step = 1 ∧ ({ wCmd 0 0xC1 0 [3#32] with phase := .running, step := 1 } : Ctx).prpNext = none) ∧
    ((wStill [wCmd 0 0xC4 0 [2#32]] : State).aloneMounted (wCmd 0 0xC4 0 [2#32] : Ctx) ∧ (wCmd 0 0xC4 0 [2#32] : Ctx).admin = true ∧ (wCmd 0 0xC4 0 [2#32] : Ctx).opc = 0xC4 ∧ (wCmd 0 0xC4 0 [2#32] : Ctx).f 10 0 2 ≠ 3 ∧ (wStill [wCmd 0 0xC4 0 [2#32]] : State).hq.verify.st ≠ 1 ∧ (verifyRange (wStill [wCmd 0 0xC4 0 [2#32]] : State) (wCmd 0 0xC4 0 [2#32] : Ctx)).toOption = some ([] : List Nat)) ∧
    ((wStill [wCmd 0 0xC4 1 [1#32, 3#32]] : State).aloneMounted (wCmd 0 0xC4 1 [1#32, 3#32] : Ctx) ∧ (wCmd 0 0xC4 1 [1#32, 3#32] : Ctx).admin = true ∧ (wCmd 0 0xC4 1 [1#32, 3#32] : Ctx).opc = 0xC4 ∧ (wCmd 0 0xC4 1 [1#32, 3#32] : Ctx).f 10 0 2 ≠ 3 ∧ (wStill [wCmd 0 0xC4 1 [1#32, 3#32]] : State).hq.verify.st ≠ 1 ∧ errorOf (verifyRange (wStill [wCmd 0 0xC4 1 [1#32, 3#32]] : State) (wCmd 0 0xC4 1 [1#32, 3#32] : Ctx)) = some (stField : Nat)) ∧
    (((wStill [wCmd 0 0xC4 0 [2#32]]).setHq { (wStill [wCmd 0 0xC4 0 [2#32]]).hq with verify := ⟨1, 1, [], 0, 0, 0⟩ } : State).aloneMounted (wCmd 0 0xC4 0 [2#32] : Ctx) ∧ (wCmd 0 0xC4 0 [2#32] : Ctx).admin = true ∧ (wCmd 0 0xC4 0 [2#32] : Ctx).opc = 0xC4 ∧ (wCmd 0 0xC4 0 [2#32] : Ctx).f 10 0 2 ≠ 3 ∧ ((wStill [wCmd 0 0xC4 0 [2#32]]).setHq { (wStill [wCmd 0 0xC4 0 [2#32]]).hq with verify := ⟨1, 1, [], 0, 0, 0⟩ } : State).hq.verify.st = 1) := by
  refine ⟨⟨by decide +kernel, by decide +kernel, by decide +kernel, by decide +kernel, by decide +kernel, by decide +kernel, by decide +kernel, wFind_wDi⟩, ?_, ?_, ⟨by decide +kernel, by decide +kernel, by decide +kernel, by decide +kernel, by decide +kernel, by decide +kernel, wFind_wDiBad, by decide +kernel, by decide +kernel⟩, ⟨by decide +kernel, by decide +kernel, by decide +kernel, by decide +kernel, by decide +kernel, by decide +kernel, wFind_wDi⟩, ?_, ?_, ?_, ?_, ?_, ?_, ?_, ?_, ?_⟩ <;> decide +kernel

/-- The hypotheses of Obligations.TranslationRunsItsBackgroundWork can be met, clause by clause. -/
theorem witness_TranslationRunsItsBackgroundWork :
    (mounted ((wStill [{ wIo 8 [0#32] with phase := .latched }]).setJr { wMounted.xlt.jr with units := [⟨0, .host 9, [], true⟩] } : State) = true ∧ ((wStill [{ wIo 8 [0#32] with phase := .latched }]).setJr { wMounted.xlt.jr with units := [⟨0, .host 9, [], true⟩] } : State).frozen pgXLT = true ∧ ((wStill [{ wIo 8 [0#32] with phase := .latched }]).setJr { wMounted.xlt.jr with units := [⟨0, .host 9, [], true⟩] } : State).hq.shut = 0 ∧ ((wStill [{ wIo 8 [0#32] with phase := .latched }]).setJr { wMounted.xlt.jr with units := [⟨0, .host 9, [], true⟩] } : State).boot.warm = false ∧ ((wStill [{ wIo 8 [0#32] with phase := .latched }]).setJr { wMounted.xlt.jr with units := [⟨0, .host 9, [], true⟩] } : State).xlt.jr.units = [(⟨0, .host 9, [], true⟩ : JUnit)] ∧ unitDurable ((wStill [{ wIo 8 [0#32] with phase := .latched }]).setJr { wMounted.xlt.jr with units := [⟨0, .host 9, [], true⟩] } : State) = some (⟨0, .host 9, [], true⟩ : JUnit) ∧ ((wStill [{ wIo 8 [0#32] with phase := .latched }]).setJr { wMounted.xlt.jr with units := [⟨0, .host 9, [], true⟩] } : State).hq.ctx = [({ wIo 8 [0#32] with phase := .latched } : Ctx)] ∧ ({ wIo 8 [0#32] with phase := .latched } : Ctx).phase = .latched ∧ (⟨0, .host 9, [], true⟩ : JUnit).what = .host ({ wIo 8 [0#32] with phase := .latched } : Ctx).seq) ∧
    (mounted ((wStill []).setJr { wMounted.xlt.jr with units := [⟨0, .seqres 0x200100000, [], true⟩] } : State) = true ∧ ((wStill []).setJr { wMounted.xlt.jr with units := [⟨0, .seqres 0x200100000, [], true⟩] } : State).frozen pgXLT = true ∧ ((wStill []).setJr { wMounted.xlt.jr with units := [⟨0, .seqres 0x200100000, [], true⟩] } : State).hq.shut = 0 ∧ ((wStill []).setJr { wMounted.xlt.jr with units := [⟨0, .seqres 0x200100000, [], true⟩] } : State).boot.warm = false ∧ ((wStill []).setJr { wMounted.xlt.jr with units := [⟨0, .seqres 0x200100000, [], true⟩] } : State).xlt.jr.units = [(⟨0, .seqres 0x200100000, [], true⟩ : JUnit)] ∧ unitDurable ((wStill []).setJr { wMounted.xlt.jr with units := [⟨0, .seqres 0x200100000, [], true⟩] } : State) = some (⟨0, .seqres 0x200100000, [], true⟩ : JUnit) ∧ ((wStill []).setJr { wMounted.xlt.jr with units := [⟨0, .seqres 0x200100000, [], true⟩] } : State).hq.ctx = [] ∧ (⟨0, .seqres 0x200100000, [], true⟩ : JUnit).what = .seqres (0x200100000 : Nat) ∧ (0x200100000 : Nat) < 2 ^ 48) ∧
    (mounted ((wStill []).setJr { wMounted.xlt.jr with units := [⟨0, .copy, [], true⟩] } : State) = true ∧ ((wStill []).setJr { wMounted.xlt.jr with units := [⟨0, .copy, [], true⟩] } : State).frozen pgXLT = true ∧ ((wStill []).setJr { wMounted.xlt.jr with units := [⟨0, .copy, [], true⟩] } : State).hq.shut = 0 ∧ ((wStill []).setJr { wMounted.xlt.jr with units := [⟨0, .copy, [], true⟩] } : State).boot.warm = false ∧ ((wStill []).setJr { wMounted.xlt.jr with units := [⟨0, .copy, [], true⟩] } : State).xlt.jr.units = [(⟨0, .copy, [], true⟩ : JUnit)] ∧ unitDurable ((wStill []).setJr { wMounted.xlt.jr with units := [⟨0, .copy, [], true⟩] } : State) = some (⟨0, .copy, [], true⟩ : JUnit) ∧ ((wStill []).setJr { wMounted.xlt.jr with units := [⟨0, .copy, [], true⟩] } : State).hq.ctx = [] ∧ (⟨0, .copy, [], true⟩ : JUnit).what = .copy) ∧
    (mounted ((wStill []).setXlt { wMounted.xlt with ckpt := some ⟨7, 2, true, [], 0, 0, 0, false, false, 0⟩, jr := { wMounted.xlt.jr with units := [⟨0, .ckpt, [], true⟩] } } : State) = true ∧ ((wStill []).setXlt { wMounted.xlt with ckpt := some ⟨7, 2, true, [], 0, 0, 0, false, false, 0⟩, jr := { wMounted.xlt.jr with units := [⟨0, .ckpt, [], true⟩] } } : State).frozen pgXLT = true ∧ ((wStill []).setXlt { wMounted.xlt with ckpt := some ⟨7, 2, true, [], 0, 0, 0, false, false, 0⟩, jr := { wMounted.xlt.jr with units := [⟨0, .ckpt, [], true⟩] } } : State).hq.shut = 0 ∧ ((wStill []).setXlt { wMounted.xlt with ckpt := some ⟨7, 2, true, [], 0, 0, 0, false, false, 0⟩, jr := { wMounted.xlt.jr with units := [⟨0, .ckpt, [], true⟩] } } : State).boot.warm = false ∧ ((wStill []).setXlt { wMounted.xlt with ckpt := some ⟨7, 2, true, [], 0, 0, 0, false, false, 0⟩, jr := { wMounted.xlt.jr with units := [⟨0, .ckpt, [], true⟩] } } : State).xlt.jr.units = [(⟨0, .ckpt, [], true⟩ : JUnit)] ∧ unitDurable ((wStill []).setXlt { wMounted.xlt with ckpt := some ⟨7, 2, true, [], 0, 0, 0, false, false, 0⟩, jr := { wMounted.xlt.jr with units := [⟨0, .ckpt, [], true⟩] } } : State) = some (⟨0, .ckpt, [], true⟩ : JUnit) ∧ ((wStill []).setXlt { wMounted.xlt with ckpt := some ⟨7, 2, true, [], 0, 0, 0, false, false, 0⟩, jr := { wMounted.xlt.jr with units := [⟨0, .ckpt, [], true⟩] } } : State).hq.ctx = [] ∧ (⟨0, .ckpt, [], true⟩ : JUnit).what = .ckpt ∧ ((wStill []).setXlt { wMounted.xlt with ckpt := some ⟨7, 2, true, [], 0, 0, 0, false, false, 0⟩, jr := { wMounted.xlt.jr with units := [⟨0, .ckpt, [], true⟩] } } : State).xlt.ckpt = some (⟨7, 2, true, [], 0, 0, 0, false, false, 0⟩ : Ckpt)) ∧
    (mounted ((wStill []).setJr { wMounted.xlt.jr with units := [⟨0, .brick 2 4, [], true⟩] } : State) = true ∧ ((wStill []).setJr { wMounted.xlt.jr with units := [⟨0, .brick 2 4, [], true⟩] } : State).frozen pgXLT = true ∧ ((wStill []).setJr { wMounted.xlt.jr with units := [⟨0, .brick 2 4, [], true⟩] } : State).hq.shut = 0 ∧ ((wStill []).setJr { wMounted.xlt.jr with units := [⟨0, .brick 2 4, [], true⟩] } : State).boot.warm = false ∧ ((wStill []).setJr { wMounted.xlt.jr with units := [⟨0, .brick 2 4, [], true⟩] } : State).xlt.jr.units = [(⟨0, .brick 2 4, [], true⟩ : JUnit)] ∧ unitDurable ((wStill []).setJr { wMounted.xlt.jr with units := [⟨0, .brick 2 4, [], true⟩] } : State) = some (⟨0, .brick 2 4, [], true⟩ : JUnit) ∧ ((wStill []).setJr { wMounted.xlt.jr with units := [⟨0, .brick 2 4, [], true⟩] } : State).soundMemory ∧ ((wStill []).setJr { wMounted.xlt.jr with units := [⟨0, .brick 2 4, [], true⟩] } : State).hq.ctx = [] ∧ (⟨0, .brick 2 4, [], true⟩ : JUnit).what = .brick (2 : Nat) (4 : Nat) ∧ ((4 : Nat) = 0 ∨ (4 : Nat) = 4) ∧ (2 : Nat) < 2 ^ 16 ∧ sramRange (brickAddr ((wStill []).setJr { wMounted.xlt.jr with units := [⟨0, .brick 2 4, [], true⟩] } : State) (2 : Nat)) 16 = true ∧ sramGrants ((wStill []).setJr { wMounted.xlt.jr with units := [⟨0, .brick 2 4, [], true⟩] } : State) .xlt (brickAddr ((wStill []).setJr { wMounted.xlt.jr with units := [⟨0, .brick 2 4, [], true⟩] } : State) (2 : Nat)) .write = true) ∧
    ((wStill [] : State).still ∧ (wStill [] : State).hq.ctx = [] ∧ unitDurable (wStill [] : State) = none) ∧
    ((wCkpt : State).still ∧ (wCkpt : State).hq.ctx = [] ∧ Takes (wCkpt : State) (.sup : Master) Reg.XLT_CKPT (0x1003C : Word) (newOf (wCkpt : State) (.sup : Master) Reg.XLT_CKPT (0x1003C : Word) : Word) ∧ fieldOf (0x1003C : Word) 16 1 = 1 ∧ (wCkpt : State).xlt.ckpt = none ∧ (wCkpt : State).xlt.rw = true ∧ ((wCkpt : State).brick 2).st = 9 ∧ ((wCkpt : State).brick 3).st = 9 ∧ writingEnded (wCkpt : State) = false) ∧
    (Takes (wCkpt : State) (.sup : Master) Reg.XLT_CKPT (0x3C : Word) (newOf (wCkpt : State) (.sup : Master) Reg.XLT_CKPT (0x3C : Word) : Word) ∧ fieldOf (0x3C : Word) 16 1 = 0) ∧
    (Takes (wCkpt.setXlt { wCkpt.xlt with ckpt := some ⟨1, 2, true, [], 0, 0, 0, false, false, 0⟩ } : State) (.sup : Master) Reg.XLT_CKPT (0x1003C : Word) (newOf (wCkpt.setXlt { wCkpt.xlt with ckpt := some ⟨1, 2, true, [], 0, 0, 0, false, false, 0⟩ } : State) (.sup : Master) Reg.XLT_CKPT (0x1003C : Word) : Word) ∧ fieldOf (0x1003C : Word) 16 1 = 1 ∧ (wCkpt.setXlt { wCkpt.xlt with ckpt := some ⟨1, 2, true, [], 0, 0, 0, false, false, 0⟩ } : State).xlt.ckpt = some (⟨1, 2, true, [], 0, 0, 0, false, false, 0⟩ : Ckpt)) ∧
    (({ wCkpt with ticks := 1600000 * wCkpt.fld Reg.XLT_CKPT 0 16 } : State).still ∧ ({ wCkpt with ticks := 1600000 * wCkpt.fld Reg.XLT_CKPT 0 16 } : State).hq.ctx = [] ∧ ({ wCkpt with ticks := 1600000 * wCkpt.fld Reg.XLT_CKPT 0 16 } : State).xlt.dirty = true ∧ ({ wCkpt with ticks := 1600000 * wCkpt.fld Reg.XLT_CKPT 0 16 } : State).xlt.ckptAt + 1600000 * ({ wCkpt with ticks := 1600000 * wCkpt.fld Reg.XLT_CKPT 0 16 } : State).fld Reg.XLT_CKPT 0 16 ≤ ({ wCkpt with ticks := 1600000 * wCkpt.fld Reg.XLT_CKPT 0 16 } : State).ticks ∧ ({ wCkpt with ticks := 1600000 * wCkpt.fld Reg.XLT_CKPT 0 16 } : State).xlt.ckpt = none ∧ ({ wCkpt with ticks := 1600000 * wCkpt.fld Reg.XLT_CKPT 0 16 } : State).xlt.rw = true ∧ (({ wCkpt with ticks := 1600000 * wCkpt.fld Reg.XLT_CKPT 0 16 } : State).brick 2).st = 9 ∧ (({ wCkpt with ticks := 1600000 * wCkpt.fld Reg.XLT_CKPT 0 16 } : State).brick 3).st = 9 ∧ writingEnded ({ wCkpt with ticks := 1600000 * wCkpt.fld Reg.XLT_CKPT 0 16 } : State) = false) ∧
    (({ wCkpt with ticks := 1600000 * wCkpt.fld Reg.XLT_CKPT 0 16 - 1 } : State).wf = true ∧ ¬(({ wCkpt with ticks := 1600000 * wCkpt.fld Reg.XLT_CKPT 0 16 - 1 } : State).xlt.dirty = true ∧ ({ wCkpt with ticks := 1600000 * wCkpt.fld Reg.XLT_CKPT 0 16 - 1 } : State).xlt.ckptAt + 1600000 * ({ wCkpt with ticks := 1600000 * wCkpt.fld Reg.XLT_CKPT 0 16 - 1 } : State).fld Reg.XLT_CKPT 0 16 ≤ ({ wCkpt with ticks := 1600000 * wCkpt.fld Reg.XLT_CKPT 0 16 - 1 } : State).ticks)) ∧
    (Takes (wAll pgXLT : State) (.sup : Master) Reg.XLT_LK_CTRL (1 : Word) (newOf (wAll pgXLT : State) (.sup : Master) Reg.XLT_LK_CTRL (1 : Word) : Word) ∧ fieldOf (1 : Word) 0 1 = 1 ∧ mounted (wAll pgXLT : State) = false) ∧
    (Takes (wLookup : State) (.sup : Master) Reg.XLT_LK_CTRL (0 : Word) (newOf (wLookup : State) (.sup : Master) Reg.XLT_LK_CTRL (0 : Word) : Word) ∧ fieldOf (0 : Word) 0 1 = 0) ∧
    (Takes (wLookup : State) (.sup : Master) Reg.XLT_LK_CTRL (1 : Word) (newOf (wLookup : State) (.sup : Master) Reg.XLT_LK_CTRL (1 : Word) : Word) ∧ fieldOf (1 : Word) 0 1 = 1 ∧ mounted (wLookup : State) = true ∧ leavesOf (readIndex (wLookup : State)).1 (((wLookup : State).reg Reg.XLT_LK_LBA_LO).toNat + (wLookup : State).fld Reg.XLT_LK_LBA_HI 0 8 * 2 ^ 32) 1 = (0 : Nat) :: ([] : List Nat) ∧ (readLeaf (readIndex (wLookup : State)).2 ((((readIndex (wLookup : State)).1[(0 : Nat)]?).map (·.leaf)).getD 0)).1 = some ([wExt] : List Ext) ∧ ([wExt] : List Ext).find? (fun x => decide (x.start ≤ (((wLookup : State).reg Reg.XLT_LK_LBA_LO).toNat + (wLookup : State).fld Reg.XLT_LK_LBA_HI 0 8 * 2 ^ 32)) && decide ((((wLookup : State).reg Reg.XLT_LK_LBA_LO).toNat + (wLookup : State).fld Reg.XLT_LK_LBA_HI 0 8 * 2 ^ 32) < x.start + x.len)) = some (wExt : Ext)) ∧
    (Takes (wLookup.setReg Reg.XLT_LK_LBA_LO 8#32 : State) (.sup : Master) Reg.XLT_LK_CTRL (1 : Word) (newOf (wLookup.setReg Reg.XLT_LK_LBA_LO 8#32 : State) (.sup : Master) Reg.XLT_LK_CTRL (1 : Word) : Word) ∧ fieldOf (1 : Word) 0 1 = 1 ∧ mounted (wLookup.setReg Reg.XLT_LK_LBA_LO 8#32 : State) = true ∧ leavesOf (readIndex (wLookup.setReg Reg.XLT_LK_LBA_LO 8#32 : State)).1 (((wLookup.setReg Reg.XLT_LK_LBA_LO 8#32 : State).reg Reg.XLT_LK_LBA_LO).toNat + (wLookup.setReg Reg.XLT_LK_LBA_LO 8#32 : State).fld Reg.XLT_LK_LBA_HI 0 8 * 2 ^ 32) 1 = (0 : Nat) :: ([] : List Nat) ∧ (readLeaf (readIndex (wLookup.setReg Reg.XLT_LK_LBA_LO 8#32 : State)).2 ((((readIndex (wLookup.setReg Reg.XLT_LK_LBA_LO 8#32 : State)).1[(0 : Nat)]?).map (·.leaf)).getD 0)).1 = some ([wExt] : List Ext) ∧ ([wExt] : List Ext).find? (fun x => decide (x.start ≤ (((wLookup.setReg Reg.XLT_LK_LBA_LO 8#32 : State).reg Reg.XLT_LK_LBA_LO).toNat + (wLookup.setReg Reg.XLT_LK_LBA_LO 8#32 : State).fld Reg.XLT_LK_LBA_HI 0 8 * 2 ^ 32)) && decide ((((wLookup.setReg Reg.XLT_LK_LBA_LO 8#32 : State).reg Reg.XLT_LK_LBA_LO).toNat + (wLookup.setReg Reg.XLT_LK_LBA_LO 8#32 : State).fld Reg.XLT_LK_LBA_HI 0 8 * 2 ^ 32) < x.start + x.len)) = none) ∧
    (Takes (wLookup.setBytes 0x10000000 [1, 2, 3, 4, 5] : State) (.sup : Master) Reg.XLT_LK_CTRL (1 : Word) (newOf (wLookup.setBytes 0x10000000 [1, 2, 3, 4, 5] : State) (.sup : Master) Reg.XLT_LK_CTRL (1 : Word) : Word) ∧ fieldOf (1 : Word) 0 1 = 1 ∧ mounted (wLookup.setBytes 0x10000000 [1, 2, 3, 4, 5] : State) = true ∧ leavesOf (readIndex (wLookup.setBytes 0x10000000 [1, 2, 3, 4, 5] : State)).1 (((wLookup.setBytes 0x10000000 [1, 2, 3, 4, 5] : State).reg Reg.XLT_LK_LBA_LO).toNat + (wLookup.setBytes 0x10000000 [1, 2, 3, 4, 5] : State).fld Reg.XLT_LK_LBA_HI 0 8 * 2 ^ 32) 1 = (0 : Nat) :: ([] : List Nat) ∧ (readLeaf (readIndex (wLookup.setBytes 0x10000000 [1, 2, 3, 4, 5] : State)).2 ((((readIndex (wLookup.setBytes 0x10000000 [1, 2, 3, 4, 5] : State)).1[(0 : Nat)]?).map (·.leaf)).getD 0)).1 = none) ∧
    (Takes (wMounted.setReg (Reg.ACL_PAGE pgXLT) 0x7FFF7FFF#32 : State) (.sup : Master) Reg.XLT_LK_CTRL (1 : Word) (newOf (wMounted.setReg (Reg.ACL_PAGE pgXLT) 0x7FFF7FFF#32 : State) (.sup : Master) Reg.XLT_LK_CTRL (1 : Word) : Word) ∧ fieldOf (1 : Word) 0 1 = 1 ∧ mounted (wMounted.setReg (Reg.ACL_PAGE pgXLT) 0x7FFF7FFF#32 : State) = true ∧ leavesOf (readIndex (wMounted.setReg (Reg.ACL_PAGE pgXLT) 0x7FFF7FFF#32 : State)).1 (((wMounted.setReg (Reg.ACL_PAGE pgXLT) 0x7FFF7FFF#32 : State).reg Reg.XLT_LK_LBA_LO).toNat + (wMounted.setReg (Reg.ACL_PAGE pgXLT) 0x7FFF7FFF#32 : State).fld Reg.XLT_LK_LBA_HI 0 8 * 2 ^ 32) 1 = []) ∧
    (({ ((wStill []).setXlt { wMounted.xlt with slots := [freshSlot 5 1 (.stream 0), freshSlot 9 2 (.stream 1)] }) with ticks := 5 + 1600 * wMounted.fld Reg.XLT_CFG 8 8 } : State).still ∧ ({ ((wStill []).setXlt { wMounted.xlt with slots := [freshSlot 5 1 (.stream 0), freshSlot 9 2 (.stream 1)] }) with ticks := 5 + 1600 * wMounted.fld Reg.XLT_CFG 8 8 } : State).hq.ctx = [] ∧ fillSlot ({ ((wStill []).setXlt { wMounted.xlt with slots := [freshSlot 5 1 (.stream 0), freshSlot 9 2 (.stream 1)] }) with ticks := 5 + 1600 * wMounted.fld Reg.XLT_CFG 8 8 } : State) (0 : Nat) = some (freshSlot 5 1 (.stream 0) : XSlot) ∧ (freshSlot 5 1 (.stream 0) : XSlot).since + 1600 * ({ ((wStill []).setXlt { wMounted.xlt with slots := [freshSlot 5 1 (.stream 0), freshSlot 9 2 (.stream 1)] }) with ticks := 5 + 1600 * wMounted.fld Reg.XLT_CFG 8 8 } : State).fld Reg.XLT_CFG 8 8 ≤ ({ ((wStill []).setXlt { wMounted.xlt with slots := [freshSlot 5 1 (.stream 0), freshSlot 9 2 (.stream 1)] }) with ticks := 5 + 1600 * wMounted.fld Reg.XLT_CFG 8 8 } : State).ticks) ∧
    (({ ((wStill []).setXlt { wMounted.xlt with slots := [freshSlot 5 1 (.stream 0), freshSlot 9 2 (.stream 1)] }) with ticks := 4 + 1600 * wMounted.fld Reg.XLT_CFG 8 8 } : State).wf = true ∧ ((fillSlot ({ ((wStill []).setXlt { wMounted.xlt with slots := [freshSlot 5 1 (.stream 0), freshSlot 9 2 (.stream 1)] }) with ticks := 4 + 1600 * wMounted.fld Reg.XLT_CFG 8 8 } : State) (0 : Nat)).all (fun x => decide (({ ((wStill []).setXlt { wMounted.xlt with slots := [freshSlot 5 1 (.stream 0), freshSlot 9 2 (.stream 1)] }) with ticks := 4 + 1600 * wMounted.fld Reg.XLT_CFG 8 8 } : State).ticks < x.since + 1600 * ({ ((wStill []).setXlt { wMounted.xlt with slots := [freshSlot 5 1 (.stream 0), freshSlot 9 2 (.stream 1)] }) with ticks := 4 + 1600 * wMounted.fld Reg.XLT_CFG 8 8 } : State).fld Reg.XLT_CFG 8 8)) = true)) ∧
    (({ (wStill [{ wIo 8 [0#32, 0#32, 0#32] with phase := .running, mergeWait := true, mergeAt := 0 }]).setReg Reg.XLT_LEAF 65536#32 with ticks := 160000 * wMounted.fld Reg.XLT_MERGE 16 8 } : State).still ∧ ({ (wStill [{ wIo 8 [0#32, 0#32, 0#32] with phase := .running, mergeWait := true, mergeAt := 0 }]).setReg Reg.XLT_LEAF 65536#32 with ticks := 160000 * wMounted.fld Reg.XLT_MERGE 16 8 } : State).hq.ctx = [({ wIo 8 [0#32, 0#32, 0#32] with phase := .running, mergeWait := true, mergeAt := 0 } : Ctx)] ∧ ({ wIo 8 [0#32, 0#32, 0#32] with phase := .running, mergeWait := true, mergeAt := 0 } : Ctx).mergeWait = true ∧ ({ wIo 8 [0#32, 0#32, 0#32] with phase := .running, mergeWait := true, mergeAt := 0 } : Ctx).mergeAt + 160000 * ({ (wStill [{ wIo 8 [0#32, 0#32, 0#32] with phase := .running, mergeWait := true, mergeAt := 0 }]).setReg Reg.XLT_LEAF 65536#32 with ticks := 160000 * wMounted.fld Reg.XLT_MERGE 16 8 } : State).fld Reg.XLT_MERGE 16 8 ≤ ({ (wStill [{ wIo 8 [0#32, 0#32, 0#32] with phase := .running, mergeWait := true, mergeAt := 0 }]).setReg Reg.XLT_LEAF 65536#32 with ticks := 160000 * wMounted.fld Reg.XLT_MERGE 16 8 } : State).ticks ∧ wantsPlace ({ (wStill [{ wIo 8 [0#32, 0#32, 0#32] with phase := .running, mergeWait := true, mergeAt := 0 }]).setReg Reg.XLT_LEAF 65536#32 with ticks := 160000 * wMounted.fld Reg.XLT_MERGE 16 8 } : State) ({ wIo 8 [0#32, 0#32, 0#32] with phase := .running, mergeWait := true, mergeAt := 0 } : Ctx) = true ∧ ({ wIo 8 [0#32, 0#32, 0#32] with phase := .running, mergeWait := true, mergeAt := 0 } : Ctx).prpNext = none ∧ ({ wIo 8 [0#32, 0#32, 0#32] with phase := .running, mergeWait := true, mergeAt := 0 } : Ctx).snap = none ∧ ({ wIo 8 [0#32, 0#32, 0#32] with phase := .running, mergeWait := true, mergeAt := 0 } : Ctx).pins = [] ∧ ((0 : Nat), (1 : Nat)) ∈ ({ wIo 8 [0#32, 0#32, 0#32] with phase := .running, mergeWait := true, mergeAt := 0 } : Ctx).ranges ∧ canReserve ({ (wStill [{ wIo 8 [0#32, 0#32, 0#32] with phase := .running, mergeWait := true, mergeAt := 0 }]).setReg Reg.XLT_LEAF 65536#32 with ticks := 160000 * wMounted.fld Reg.XLT_MERGE 16 8 } : State) (0 : Nat) (1 : Nat) = false) ∧
    (({ (wStill [{ wIo 8 [0#32, 0#32, 0#32] with phase := .running, mergeWait := true, mergeAt := 0 }]).setReg Reg.XLT_LEAF 65536#32 with ticks := 160000 * wMounted.fld Reg.XLT_MERGE 16 8 - 1 } : State).still ∧ ({ (wStill [{ wIo 8 [0#32, 0#32, 0#32] with phase := .running, mergeWait := true, mergeAt := 0 }]).setReg Reg.XLT_LEAF 65536#32 with ticks := 160000 * wMounted.fld Reg.XLT_MERGE 16 8 - 1 } : State).hq.ctx = [({ wIo 8 [0#32, 0#32, 0#32] with phase := .running, mergeWait := true, mergeAt := 0 } : Ctx)] ∧ ({ wIo 8 [0#32, 0#32, 0#32] with phase := .running, mergeWait := true, mergeAt := 0 } : Ctx).mergeWait = true ∧ ({ wIo 8 [0#32, 0#32, 0#32] with phase := .running, mergeWait := true, mergeAt := 0 } : Ctx).prpNext = none ∧ ({ wIo 8 [0#32, 0#32, 0#32] with phase := .running, mergeWait := true, mergeAt := 0 } : Ctx).snap = none ∧ ({ wIo 8 [0#32, 0#32, 0#32] with phase := .running, mergeWait := true, mergeAt := 0 } : Ctx).pins = [] ∧ ({ wIo 8 [0#32, 0#32, 0#32] with phase := .running, mergeWait := true, mergeAt := 0 } : Ctx).admin = false ∧ (({ (wStill [{ wIo 8 [0#32, 0#32, 0#32] with phase := .running, mergeWait := true, mergeAt := 0 }]).setReg Reg.XLT_LEAF 65536#32 with ticks := 160000 * wMounted.fld Reg.XLT_MERGE 16 8 - 1 } : State).ticks < ({ wIo 8 [0#32, 0#32, 0#32] with phase := .running, mergeWait := true, mergeAt := 0 } : Ctx).mergeAt + 160000 * ({ (wStill [{ wIo 8 [0#32, 0#32, 0#32] with phase := .running, mergeWait := true, mergeAt := 0 }]).setReg Reg.XLT_LEAF 65536#32 with ticks := 160000 * wMounted.fld Reg.XLT_MERGE 16 8 - 1 } : State).fld Reg.XLT_MERGE 16 8 ∨ ({ wIo 8 [0#32, 0#32, 0#32] with phase := .running, mergeWait := true, mergeAt := 0 } : Ctx).ranges.all (fun q => canReserve ({ (wStill [{ wIo 8 [0#32, 0#32, 0#32] with phase := .running, mergeWait := true, mergeAt := 0 }]).setReg Reg.XLT_LEAF 65536#32 with ticks := 160000 * wMounted.fld Reg.XLT_MERGE 16 8 - 1 } : State) q.1 q.2) = true)) ∧
    (((wStill [{ wIo 8 [0#32, 0#32, 0#32] with phase := .running, mergeWait := true, mergeAt := 0 }]) : State).wf = true ∧ ((wStill [{ wIo 8 [0#32, 0#32, 0#32] with phase := .running, mergeWait := true, mergeAt := 0 }]) : State).ctx (8 : Nat) = none) ∧
    (((((wStill []).setXlt { wMounted.xlt with unpin := [(9, [2])] }).setBytes 0x1210002F [7]) : State).still ∧ ((((wStill []).setXlt { wMounted.xlt with unpin := [(9, [2])] }).setBytes 0x1210002F [7]) : State).hq.ctx = [] ∧ ((((wStill []).setXlt { wMounted.xlt with unpin := [(9, [2])] }).setBytes 0x1210002F [7]) : State).soundMemory ∧ ((((wStill []).setXlt { wMounted.xlt with unpin := [(9, [2])] }).setBytes 0x1210002F [7]) : State).xlt.unpin = [((9 : Nat), [(2 : Nat)])] ∧ sramRange (brickAddr ((((wStill []).setXlt { wMounted.xlt with unpin := [(9, [2])] }).setBytes 0x1210002F [7]) : State) (2 : Nat)) 16 = true ∧ sramGrants ((((wStill []).setXlt { wMounted.xlt with unpin := [(9, [2])] }).setBytes 0x1210002F [7]) : State) .xlt (brickAddr ((((wStill []).setXlt { wMounted.xlt with unpin := [(9, [2])] }).setBytes 0x1210002F [7]) : State) (2 : Nat)) .write = true) ∧
    (((wStill []).setXlt { wMounted.xlt with unpin := [(9, [2])] } : State).wf = true ∧ ((wStill []).setXlt { wMounted.xlt with unpin := [(9, [2])] } : State).xlt.unpin.all (fun u => u.1 != (8 : Nat)) = true) ∧
    ((wCkpt : State).still ∧ (wCkpt : State).hq.ctx = [] ∧ (wCkpt : State).soundMemory ∧ Takes (wCkpt : State) (.sup : Master) Reg.MEDM_RST (0x80000020 : Word) (newOf (wCkpt : State) (.sup : Master) Reg.MEDM_RST (0x80000020 : Word) : Word) ∧ fieldOf (0x80000020 : Word) 31 1 = 1 ∧ rstAllowed (wCkpt : State) (0x80000020 : Word) = true ∧ rstBrick (wCkpt : State) (0x80000020 : Word) = some (2 : Nat) ∧ sramRange (brickAddr (wCkpt : State) (2 : Nat)) 16 = true ∧ sramGrants (wCkpt : State) .xlt (brickAddr (wCkpt : State) (2 : Nat)) .write = true) ∧
    (Takes (wCkpt : State) (.sup : Master) Reg.MEDM_RST (0x20 : Word) (newOf (wCkpt : State) (.sup : Master) Reg.MEDM_RST (0x20 : Word) : Word) ∧ fieldOf (0x20 : Word) 31 1 = 0) ∧
    (Takes (wCkpt : State) (.sup : Master) Reg.MEDM_RST (0x80000010 : Word) (newOf (wCkpt : State) (.sup : Master) Reg.MEDM_RST (0x80000010 : Word) : Word) ∧ fieldOf (0x80000010 : Word) 31 1 = 1 ∧ rstAllowed (wCkpt : State) (0x80000010 : Word) = false) ∧
    (((wStill []).setXlt { wMounted.xlt with reset := some ⟨2, 6, false, true⟩ } : State).still ∧ ((wStill []).setXlt { wMounted.xlt with reset := some ⟨2, 6, false, true⟩ } : State).hq.ctx = [] ∧ ((wStill []).setXlt { wMounted.xlt with reset := some ⟨2, 6, false, true⟩ } : State).xlt.reset = some (⟨2, 6, false, true⟩ : ResetJob) ∧ (⟨2, 6, false, true⟩ : ResetJob).running = true ∧ (⟨2, 6, false, true⟩ : ResetJob).segs < 7) ∧
    ((((wStill []).setXlt { wMounted.xlt with reset := some ⟨2, 7, true, true⟩ }).setByte 0x12100022 5#8 : State).still ∧ (((wStill []).setXlt { wMounted.xlt with reset := some ⟨2, 7, true, true⟩ }).setByte 0x12100022 5#8 : State).hq.ctx = [] ∧ (((wStill []).setXlt { wMounted.xlt with reset := some ⟨2, 7, true, true⟩ }).setByte 0x12100022 5#8 : State).soundMemory ∧ (((wStill []).setXlt { wMounted.xlt with reset := some ⟨2, 7, true, true⟩ }).setByte 0x12100022 5#8 : State).xlt.reset = some (⟨2, 7, true, true⟩ : ResetJob) ∧ (⟨2, 7, true, true⟩ : ResetJob).running = true ∧ (⟨2, 7, true, true⟩ : ResetJob).segs = 7 ∧ sramRange (brickAddr (((wStill []).setXlt { wMounted.xlt with reset := some ⟨2, 7, true, true⟩ }).setByte 0x12100022 5#8 : State) (⟨2, 7, true, true⟩ : ResetJob).brick) 16 = true ∧ sramGrants (((wStill []).setXlt { wMounted.xlt with reset := some ⟨2, 7, true, true⟩ }).setByte 0x12100022 5#8 : State) .xlt (brickAddr (((wStill []).setXlt { wMounted.xlt with reset := some ⟨2, 7, true, true⟩ }).setByte 0x12100022 5#8 : State) (⟨2, 7, true, true⟩ : ResetJob).brick) .write = true) ∧
    (((wStill []).setXlt { wMounted.xlt with reset := some ⟨2, 6, true, true⟩ } : State).still ∧ ((wStill []).setXlt { wMounted.xlt with reset := some ⟨2, 6, true, true⟩ } : State).hq.ctx = [] ∧ ((wStill []).setXlt { wMounted.xlt with reset := some ⟨2, 6, true, true⟩ } : State).xlt.reset = some (⟨2, 6, true, true⟩ : ResetJob) ∧ (⟨2, 6, true, true⟩ : ResetJob).running = true) ∧
    (((wStill []).setXlt { wMounted.xlt with reset := some ⟨2, 6, true, false⟩ } : State).still ∧ ((wStill []).setXlt { wMounted.xlt with reset := some ⟨2, 6, true, false⟩ } : State).hq.ctx = [] ∧ ((wStill []).setXlt { wMounted.xlt with reset := some ⟨2, 6, true, false⟩ } : State).xlt.reset.all (fun r => !r.running) = true) := by
  refine ⟨?_, ?_, ?_, ?_, ?_, ?_, ?_, ?_, ?_, ?_, ?_, ?_, ?_, ?_, ?_, ?_, ?_, ?_, ?_, ?_, ?_, ?_, ?_, ?_, ?_, ?_, ?_, ?_, ?_, ?_, ?_⟩ <;> decide +kernel

/-- The hypotheses of Obligations.MotorAndPowerFrames can be met, clause by clause. -/
theorem witness_MotorAndPowerFrames :
    State.reset.wf = true ∧
    ([.spdcmdNosig, .spnAlignEnd, .spnBrakeToZerov, .spnLockLoss, .spnNoloop, .spnOverCurrent, .spnOverTemp 0, .spnRampTimeout, .spnVlimClear, .spnZerovTimeout, .spnLock, .spnMeasureEnd 0 0 0, .spnStop, .spnSyncEnd, .spnModeBrake .sup, .spnModeOff .sup, .spnModeRun .sup, .spnModeZerov .sup, .stpBridgeFault 0 0, .stpHoldCurrent 0, .stpMoveEnd 0, .stpParkDone, .stpTableLoadDone, .stpAxModeWrite .sup 0 0#32, .stpAxPosWrite .sup 0 0#32, .stpPark .sup 0#32, .stpPush .sup 0 0#32, .stpStop .sup 0#32, .railsInRegulation, .v5outOvercurrent, .vinChopEnd, .holdupEnd, .lgTimeout, .vinRecovered, .pwrClrChopflt .sup 0#32, .pwrClrLgidle .sup 0#32, .pwrClrOvopen .sup 0#32, .pwrLgDone .sup 0#32, .vinRise, .railRestart, .chopperWindowEnd 0 0 0, .vinLoss false, .vinOv1 0, .vinOv2, .stpTableLoad .sup 0#32] : List Instr).all Instr.wf = true ∧
    ∀ c ∈ ([.spdcmdNosig, .spnAlignEnd, .spnBrakeToZerov, .spnLockLoss, .spnNoloop, .spnOverCurrent, .spnOverTemp 0, .spnRampTimeout, .spnVlimClear, .spnZerovTimeout, .spnLock, .spnMeasureEnd 0 0 0, .spnStop, .spnSyncEnd, .spnModeBrake .sup, .spnModeOff .sup, .spnModeRun .sup, .spnModeZerov .sup, .stpBridgeFault 0 0, .stpHoldCurrent 0, .stpMoveEnd 0, .stpParkDone, .stpTableLoadDone, .stpAxModeWrite .sup 0 0#32, .stpAxPosWrite .sup 0 0#32, .stpPark .sup 0#32, .stpPush .sup 0 0#32, .stpStop .sup 0#32, .railsInRegulation, .v5outOvercurrent, .vinChopEnd, .holdupEnd, .lgTimeout, .vinRecovered, .pwrClrChopflt .sup 0#32, .pwrClrLgidle .sup 0#32, .pwrClrOvopen .sup 0#32, .pwrLgDone .sup 0#32, .vinRise, .railRestart, .chopperWindowEnd 0 0 0, .vinLoss false, .vinOv1 0, .vinOv2, .stpTableLoad .sup 0#32] : List Instr), ∃ t, exec c State.reset = .next t := by
  refine ⟨?_, ?_, fun c _ => let ⟨_, h⟩ := exec_done c State.reset; ⟨_, h⟩⟩ <;> decide +kernel

/-- The hypotheses of Obligations.ServoAndCalibrationFrames can be met, clause by clause. -/
theorem witness_ServoAndCalibrationFrames :
    State.reset.wf = true ∧
    ([.actBrakeEnd, .actBrakeStart [], .actKickEnd, .actSettleDone, .actSweepFail, .actSweepHoldEnd, .offTrack, .safeOverrunWindowClear, .grooveCrossing [], .actCapture [], .shockDetected false [], .shockEnd, .actBridgeEnable .sup 0#32, .lengProgCheckDone 0, .lengRestartCheckDone, .lengShadowCheckDone, .lengExtEnable .sup 0 0#32, .lengProgDisable .sup 0 0#32, .lengProgEnable .sup 0 0#32, .lengRestart .sup 0#32, .lengShadowReady .sup 0#32, .lengShadowSwapnow .sup 0#32, .lengShadowUnready .sup 0#32, .lengUpdGo .sup 0#32, .trcChDone 0, .trcChEnable .sup 0 0#32, .trcGtrig .sup 0#32, .tickSupAck .sup 0#32, .mortarThirdPortRead .sup 0x20000000 4, .mortarThirdPortWrite .sup 0x20000000 4 0#32, .calAdcstatTimeout 0, .calSwpMoveDone, .calSwpPeriodEnd, .bridgeOffsetDone 0 0, .shuntOffsetDone [], .shuntGainInjection 0 0, .sadcBootTrimDone [], .sadcRefconvWindowEnd 0 0 0, .calLinkDone [], .calTempChange, .calrefCheck 0, .calMgArm .sup 0 0#32, .calMgTgtWrite .sup 0 0#32, .calSwpAbort .sup 0#32 1, .calSwpGo .sup 0#32, .calTrigAdcstat .sup 0#32, .calTrigBrofs .sup 0#32, .calTrigLink .sup 0#32, .calTrigShofs .sup 0#32, .glideTargetWrite .sup 0 0#32 false, .actJmpAbort .sup 0#32 false, .actJmpGoJump .sup 0#32, .actJmpGoSweep .sup 0#32, .actJmpTimeout, .actSafeEnter .sup 0#32, .actSafeExit .sup 0#32, .bridgeFault 0 0, .focusLoss, .gaPositionLoss, .lengStop 0, .tickOverrun 0, .calAdcstatDone 0 []] : List Instr).all Instr.wf = true ∧
    ∀ c ∈ ([.actBrakeEnd, .actBrakeStart [], .actKickEnd, .actSettleDone, .actSweepFail, .actSweepHoldEnd, .offTrack, .safeOverrunWindowClear, .grooveCrossing [], .actCapture [], .shockDetected false [], .shockEnd, .actBridgeEnable .sup 0#32, .lengProgCheckDone 0, .lengRestartCheckDone, .lengShadowCheckDone, .lengExtEnable .sup 0 0#32, .lengProgDisable .sup 0 0#32, .lengProgEnable .sup 0 0#32, .lengRestart .sup 0#32, .lengShadowReady .sup 0#32, .lengShadowSwapnow .sup 0#32, .lengShadowUnready .sup 0#32, .lengUpdGo .sup 0#32, .trcChDone 0, .trcChEnable .sup 0 0#32, .trcGtrig .sup 0#32, .tickSupAck .sup 0#32, .mortarThirdPortRead .sup 0x20000000 4, .mortarThirdPortWrite .sup 0x20000000 4 0#32, .calAdcstatTimeout 0, .calSwpMoveDone, .calSwpPeriodEnd, .bridgeOffsetDone 0 0, .shuntOffsetDone [], .shuntGainInjection 0 0, .sadcBootTrimDone [], .sadcRefconvWindowEnd 0 0 0, .calLinkDone [], .calTempChange, .calrefCheck 0, .calMgArm .sup 0 0#32, .calMgTgtWrite .sup 0 0#32, .calSwpAbort .sup 0#32 1, .calSwpGo .sup 0#32, .calTrigAdcstat .sup 0#32, .calTrigBrofs .sup 0#32, .calTrigLink .sup 0#32, .calTrigShofs .sup 0#32, .glideTargetWrite .sup 0 0#32 false, .actJmpAbort .sup 0#32 false, .actJmpGoJump .sup 0#32, .actJmpGoSweep .sup 0#32, .actJmpTimeout, .actSafeEnter .sup 0#32, .actSafeExit .sup 0#32, .bridgeFault 0 0, .focusLoss, .gaPositionLoss, .lengStop 0, .tickOverrun 0, .calAdcstatDone 0 []] : List Instr), ∃ t, exec c State.reset = .next t := by
  refine ⟨?_, ?_, fun c _ => let ⟨_, h⟩ := exec_done c State.reset; ⟨_, h⟩⟩ <;> decide +kernel

/-- The hypotheses of Obligations.ReadAndWritePathFrames can be met, clause by clause. -/
theorem witness_ReadAndWritePathFrames :
    State.reset.wf = true ∧
    ([.laneRateOutOfRange 0 0, .dskLateRelease 0 0 0, .detArm .sup 0#32, .detRound 0, .ladderTmaxExpiry 0, .ldpcCodewordLoad 0 0 0 0, .ldpcCoreRetire 0, .strpSlotRelease .sup 0#32, .wencPassStart 0, .wencPassEnd, .wencPassgo .sup 0#32, .wencStgRelease .sup 0#32, .wsgLoadDone, .fmtDiCapture .sup 0#32, .fmtDiCaptureDone, .wobbleLockLoss, .hdlCmdWrite .sup 0#32, .hdlRspRead .sup, .winhLatchClear .sup 0#32 0, .acqMarkerWindowExpiry 0 [] 0, .adcSpareSwap 0 0 0 0, .drawVqConsWrite .sup 0#32, .frameSync 0 [] 0, .gaWord [] 0, .hdlFrame 0#32, .ldpcDecodeSet 0, .linkZoneReached 0 0 0 [], .retryLadderRung 0, .stripDecode 0, .tileRelease 0 0 0, .wencAbort .sup 0#32 false, .wencArm .sup 0#32, .wencParityDone, .wencPasswaitExpiry, .wencStartrevExpiry, .winhForce .sup 0#32 false, .winhTrip 0 false, .wsgLoad .sup 0#32] : List Instr).all Instr.wf = true ∧
    ∀ c ∈ ([.laneRateOutOfRange 0 0, .dskLateRelease 0 0 0, .detArm .sup 0#32, .detRound 0, .ladderTmaxExpiry 0, .ldpcCodewordLoad 0 0 0 0, .ldpcCoreRetire 0, .strpSlotRelease .sup 0#32, .wencPassStart 0, .wencPassEnd, .wencPassgo .sup 0#32, .wencStgRelease .sup 0#32, .wsgLoadDone, .fmtDiCapture .sup 0#32, .fmtDiCaptureDone, .wobbleLockLoss, .hdlCmdWrite .sup 0#32, .hdlRspRead .sup, .winhLatchClear .sup 0#32 0, .acqMarkerWindowExpiry 0 [] 0, .adcSpareSwap 0 0 0 0, .drawVqConsWrite .sup 0#32, .frameSync 0 [] 0, .gaWord [] 0, .hdlFrame 0#32, .ldpcDecodeSet 0, .linkZoneReached 0 0 0 [], .retryLadderRung 0, .stripDecode 0, .tileRelease 0 0 0, .wencAbort .sup 0#32 false, .wencArm .sup 0#32, .wencParityDone, .wencPasswaitExpiry, .wencStartrevExpiry, .winhForce .sup 0#32 false, .winhTrip 0 false, .wsgLoad .sup 0#32] : List Instr), ∃ t, exec c State.reset = .next t := by
  refine ⟨?_, ?_, fun c _ => let ⟨_, h⟩ := exec_done c State.reset; ⟨_, h⟩⟩ <;> decide +kernel

/-- The hypotheses of Obligations.HostAndPlatformFrames can be met, clause by clause. -/
theorem witness_HostAndPlatformFrames :
    State.reset.wf = true ∧
    ([.katoExpiry, .ltrConditionChange, .ltrIdleTimer, .mediaVerifyDone, .sqFetch, .apstTransition, .pcieL0sEntry, .pcieL1Exit, .pcieL1Request, .pmeTurnOff, .flrDrainTimeout, .tagQuarantineEnd 0, .unlkNewchal 0#32, .unlkSubmit 0#32, .unlkRelock 0#32, .unlkExpiry, .unlkVerifyDone, .pcieProtocolError 0, .bar2Read 0 0, .barMemoryReadAbort 0 0 0, .debugAttach, .debugDetach, .debugResume 0, .wdtStage1Expiry 0, .wdtWcountClear, .wdtKick .sup 0 0#32, .wdtRejoin .sup 0#32, .gpioEdge 0 false, .gpioSet .sup 0#32, .gpioClr .sup 0#32, .tsnsConversion [], .crystalOutOfTolerance, .unmappedAccess .sup 0, .mtimeCompareMatch 0, .mtimecmpWrite .sup 0 0#32, .irqClaimRead .sup 0, .irqComplete .sup 0 0#32, .lnl1opWrite 0 0#32, .fenceI 0, .debugHalt 0, .channelPllLoss 0, .latchingLowWordRead .sup 0, .rcRegisterRead .sup 0, .pageLock .sup 0 0#32, .powerStateSafePoint, .surprisePolicyTimeout, .brickResetSegmentDone false, .cmdAbort 0, .cmdAsyncEventRequest 0, .cmdAttestationReport 0, .cmdCompare 0, .cmdCreateIoCq 0, .cmdCreateIoSq 0, .cmdDatasetManagement 0, .cmdDeleteIoCq 0, .cmdDeleteIoSq 0, .cmdDiscLoad 0 none, .cmdDiscPrepareFlip 0, .cmdDiscSpin 0, .cmdDiscUnload 0, .cmdFirmwareCommit 0, .cmdFirmwareImageDownload 0, .cmdFlush 0, .cmdGetFeatures 0, .cmdGetLogPage 0, .cmdIdentify 0, .cmdKeepAlive 0, .cmdMediaVerify 0, .cmdMediaVerifyStop 0, .cmdRead 0, .cmdRecorderClear 0, .cmdSetFeatures 0, .cmdWrite 0, .cmdWriteZeroes 0, .cqHeadDoorbell 0 0#32, .dmaReadCompletion 0 0 false [], .drawVerdict, .initiateFlr 0#32, .journalUnitDurable, .medmRstGo .sup 0#32, .mergeWaitTimeout 0, .pcieBmeClear 0#32, .pcieBmeSet 0#32, .pcieCompletionTimeout 0, .pcieConfigWrite 0 [], .pcieD0Entry 0#32, .pcieD3hotEntry 0#32, .pcieLinkUp 0 0, .snapshotUnpin 0, .sqEntriesArrive 0, .sqTailDoorbell 0 0#32, .stagingFillTimeout 0, .tickBoundary ⟨[], 0, [0, 0, 0], 12000, 30, (0, 0), [], [], [], 0⟩, .xltCkptGo .sup 0#32, .xltCkptInterval] : List Instr).all Instr.wf = true ∧
    ∀ c ∈ ([.katoExpiry, .ltrConditionChange, .ltrIdleTimer, .mediaVerifyDone, .sqFetch, .apstTransition, .pcieL0sEntry, .pcieL1Exit, .pcieL1Request, .pmeTurnOff, .flrDrainTimeout, .tagQuarantineEnd 0, .unlkNewchal 0#32, .unlkSubmit 0#32, .unlkRelock 0#32, .unlkExpiry, .unlkVerifyDone, .pcieProtocolError 0, .bar2Read 0 0, .barMemoryReadAbort 0 0 0, .debugAttach, .debugDetach, .debugResume 0, .wdtStage1Expiry 0, .wdtWcountClear, .wdtKick .sup 0 0#32, .wdtRejoin .sup 0#32, .gpioEdge 0 false, .gpioSet .sup 0#32, .gpioClr .sup 0#32, .tsnsConversion [], .crystalOutOfTolerance, .unmappedAccess .sup 0, .mtimeCompareMatch 0, .mtimecmpWrite .sup 0 0#32, .irqClaimRead .sup 0, .irqComplete .sup 0 0#32, .lnl1opWrite 0 0#32, .fenceI 0, .debugHalt 0, .channelPllLoss 0, .latchingLowWordRead .sup 0, .rcRegisterRead .sup 0, .pageLock .sup 0 0#32, .powerStateSafePoint, .surprisePolicyTimeout, .brickResetSegmentDone false, .cmdAbort 0, .cmdAsyncEventRequest 0, .cmdAttestationReport 0, .cmdCompare 0, .cmdCreateIoCq 0, .cmdCreateIoSq 0, .cmdDatasetManagement 0, .cmdDeleteIoCq 0, .cmdDeleteIoSq 0, .cmdDiscLoad 0 none, .cmdDiscPrepareFlip 0, .cmdDiscSpin 0, .cmdDiscUnload 0, .cmdFirmwareCommit 0, .cmdFirmwareImageDownload 0, .cmdFlush 0, .cmdGetFeatures 0, .cmdGetLogPage 0, .cmdIdentify 0, .cmdKeepAlive 0, .cmdMediaVerify 0, .cmdMediaVerifyStop 0, .cmdRead 0, .cmdRecorderClear 0, .cmdSetFeatures 0, .cmdWrite 0, .cmdWriteZeroes 0, .cqHeadDoorbell 0 0#32, .dmaReadCompletion 0 0 false [], .drawVerdict, .initiateFlr 0#32, .journalUnitDurable, .medmRstGo .sup 0#32, .mergeWaitTimeout 0, .pcieBmeClear 0#32, .pcieBmeSet 0#32, .pcieCompletionTimeout 0, .pcieConfigWrite 0 [], .pcieD0Entry 0#32, .pcieD3hotEntry 0#32, .pcieLinkUp 0 0, .snapshotUnpin 0, .sqEntriesArrive 0, .sqTailDoorbell 0 0#32, .stagingFillTimeout 0, .tickBoundary ⟨[], 0, [0, 0, 0], 12000, 30, (0, 0), [], [], [], 0⟩, .xltCkptGo .sup 0#32, .xltCkptInterval] : List Instr), ∃ t, exec c State.reset = .next t := by
  refine ⟨?_, ?_, fun c _ => let ⟨_, h⟩ := exec_done c State.reset; ⟨_, h⟩⟩ <;> decide +kernel

/-- The hypotheses of Obligations.MemoryAndTrustFrames can be met, clause by clause. -/
theorem witness_MemoryAndTrustFrames :
    State.reset.wf = true ∧
    ([.cboInval 0 0, .cboClean 0 0, .cboFlush 0 0, .cboZero 0 0, .l2cDrain .sup 0#32, .l2cDrainDone, .l2cMopDone, .l2cMopClean .sup 0#32, .l2cMopInvalidate .sup 0#32, .l2cMopCleanInvalidate .sup 0#32, .l2cMopZero .sup 0#32, .memcPageProtectStart .sup false 0#32, .memcPageProtectDone, .scrubLine [], .flashRead .sup 0x08000000 4 [], .flcProgram .sup 0 false, .flcErase .sup 0 false, .flcSuspend .sup 0, .flcResume .sup 0, .flcProgramDone 0 false, .flcEraseDone 0 false, .flcScanDone, .flcSuspendDone 0, .flcResetScan, .evrCapture .sup, .evrWrGo .sup, .evrCaptureDone, .evrClearDone, .evrReportIntake, .optAuthExpiry, .optProgramDone, .optAuthSet .sup 0#32, .optLockdbg .sup, .optProgram .sup, .secChallengeExpiry 0, .secOpDone, .secHash .sup, .secVerify .sup, .secAttest .sup, .secAuthopt .sup, .secClear .sup, .secNewchal1 .sup, .secNewchal2 .sup, .evrRecordFlashed, .xltLookup .sup 0#32] : List Instr).all Instr.wf = true ∧
    ∀ c ∈ ([.cboInval 0 0, .cboClean 0 0, .cboFlush 0 0, .cboZero 0 0, .l2cDrain .sup 0#32, .l2cDrainDone, .l2cMopDone, .l2cMopClean .sup 0#32, .l2cMopInvalidate .sup 0#32, .l2cMopCleanInvalidate .sup 0#32, .l2cMopZero .sup 0#32, .memcPageProtectStart .sup false 0#32, .memcPageProtectDone, .scrubLine [], .flashRead .sup 0x08000000 4 [], .flcProgram .sup 0 false, .flcErase .sup 0 false, .flcSuspend .sup 0, .flcResume .sup 0, .flcProgramDone 0 false, .flcEraseDone 0 false, .flcScanDone, .flcSuspendDone 0, .flcResetScan, .evrCapture .sup, .evrWrGo .sup, .evrCaptureDone, .evrClearDone, .evrReportIntake, .optAuthExpiry, .optProgramDone, .optAuthSet .sup 0#32, .optLockdbg .sup, .optProgram .sup, .secChallengeExpiry 0, .secOpDone, .secHash .sup, .secVerify .sup, .secAttest .sup, .secAuthopt .sup, .secClear .sup, .secNewchal1 .sup, .secNewchal2 .sup, .evrRecordFlashed, .xltLookup .sup 0#32] : List Instr), ∃ t, exec c State.reset = .next t := by
  refine ⟨?_, ?_, fun c _ => let ⟨_, h⟩ := exec_done c State.reset; ⟨_, h⟩⟩ <;> decide +kernel

/-- The hypotheses of Obligations.StepKeepsCanonicalForm can be met. -/
theorem witness_StepKeepsCanonicalForm :
    State.reset.wf = true ∧ ∃ t, step { State.reset with pending := [.uvloFall, .vinRise] } = .next t :=
  ⟨by decide +kernel, _, rfl⟩

/-- The hypothesis of Obligations.QueueIsFirstInFirstOut can be met. -/
theorem witness_QueueIsFirstInFirstOut :
    ∃ t, step { State.reset with pending := [.uvloFall, .vinRise] } = .next t := ⟨_, rfl⟩

/-! ## Checks of WellFormed

Each check refuses a term that is ill-formed in that operand alone, and takes it at the last value that is there. -/

theorem test_wf_lane : (Instr.channelPllLoss 4).wf = false ∧ (Instr.channelPllLoss 3).wf = true := by decide
theorem test_wf_page : (Instr.ctrlSrst .sup 0x29 2#32).wf = false ∧ (Instr.ctrlSrst .sup 0x28 2#32).wf = true := by decide
theorem test_wf_address : (Instr.registerWrite .sup 0x400005000 4 0#32).wf = false ∧ (Instr.registerWrite .sup 0x400004FFC 4 0#32).wf = true := by decide
theorem test_wf_accessSize : (Instr.registerWrite .sup 0x40003040 3 0#32).wf = false ∧ (Instr.registerWrite .sup 0x40003040 4 0#32).wf = true := by decide
theorem test_wf_railNo : (Instr.railOutOfRegulation 4).wf = false ∧ (Instr.railOutOfRegulation 3).wf = true := by decide
theorem test_wf_warmCause : (Instr.warmReset 6).wf = false ∧ (Instr.warmReset 0).wf = false ∧ (Instr.warmReset 5).wf = true := by decide
theorem test_wf_watchdog : (Instr.wdtKick .sup 5 0#32).wf = false ∧ (Instr.wdtKick .sup 4 0#32).wf = true := by decide
theorem test_wf_hartNo : (Instr.irqClaimRead .sup 5).wf = false ∧ (Instr.irqClaimRead .sup 4).wf = true := by decide
theorem test_wf_program : (Instr.tickOverrun 16).wf = false ∧ (Instr.tickOverrun 15).wf = true := by decide
theorem test_wf_mortarAddr : (Instr.mortarThirdPortWrite .sup 0x20003000 4 0#32).wf = false ∧ (Instr.mortarThirdPortWrite .sup 0x1FFFFFFC 4 0#32).wf = false ∧
    (Instr.mortarThirdPortWrite .sup 0x20002FFC 4 0#32).wf = true := by decide
theorem test_wf_route : (Instr.lengExtEnable .sup 2 0#32).wf = false ∧ (Instr.lengExtEnable .sup 1 0#32).wf = true := by decide
theorem test_wf_traceChannel : (Instr.trcChEnable .sup 8 0#32).wf = false ∧ (Instr.trcChEnable .sup 7 0#32).wf = true := by decide
theorem test_wf_groupNo : (Instr.linkZoneReached 0 128 50000 []).wf = false ∧ (Instr.linkZoneReached 0 127 50000 []).wf = true := by decide
theorem test_wf_stripAddr : (Instr.tileRelease 0x2000000 0 0).wf = false ∧ (Instr.tileRelease 0x1FFFFFF 0 0).wf = true := by decide
theorem test_wf_position : (Instr.tileRelease 8 128 0).wf = false ∧ (Instr.tileRelease 8 127 0).wf = true := by decide
theorem test_wf_tile : (Instr.tileRelease 8 0 225).wf = false ∧ (Instr.tileRelease 8 0 224).wf = true := by decide
theorem test_wf_workSlot : (Instr.detRound 4).wf = false ∧ (Instr.detRound 16).wf = false ∧ (Instr.detRound 3).wf = true ∧ (Instr.detRound 15).wf = true := by
  decide
theorem test_wf_spiralNo : (Instr.ldpcCodewordLoad 0 8 4 0).wf = false ∧ (Instr.ldpcCodewordLoad 0 8 3 0).wf = true := by decide
theorem test_wf_ldpcCore : (Instr.ldpcDecodeSet 6).wf = false ∧ (Instr.ldpcDecodeSet 5).wf = true := by decide
theorem test_wf_byteList : (Instr.dmaReadCompletion 0 0 false [256]).wf = false ∧ (Instr.dmaReadCompletion 0 0 false [255]).wf = true := by decide
theorem test_wf_bridge : (Instr.bridgeFault 4 1).wf = false ∧ (Instr.bridgeFault 3 1).wf = true := by decide
theorem test_wf_stepGroup : (Instr.stpPush .sup 2 0#32).wf = false ∧ (Instr.stpPush .sup 1 0#32).wf = true := by decide
theorem test_wf_axis : (Instr.stpBridgeFault 3 1).wf = false ∧ (Instr.stpBridgeFault 2 1).wf = true := by decide
theorem test_wf_glideChannel : (Instr.calMgArm .sup 10 0#32).wf = false ∧ (Instr.calMgArm .sup 9 0#32).wf = true := by decide
theorem test_wf_shuntLeg : (Instr.shuntGainInjection 3 0).wf = false ∧ (Instr.shuntGainInjection 2 0).wf = true := by decide
theorem test_wf_sweepCause : (Instr.calSwpAbort .sup 0#32 8).wf = false ∧ (Instr.calSwpAbort .sup 0#32 7).wf = true := by decide
theorem test_wf_barNo : (Instr.barMemoryWrite 1 0 []).wf = false ∧ (Instr.barMemoryWrite 2 0 []).wf = true := by decide
theorem test_wf_queueNo : (Instr.sqTailDoorbell 65 0#32).wf = false ∧ (Instr.sqTailDoorbell 64 0#32).wf = true := by decide
theorem test_wf_tagNo : (Instr.tagQuarantineEnd 1024).wf = false ∧ (Instr.tagQuarantineEnd 1023).wf = true := by decide
theorem test_wf_errorKind : (Instr.pcieProtocolError 10).wf = false ∧ (Instr.pcieProtocolError 9).wf = true := by decide
theorem test_wf_sequence : (Instr.cmdDeleteIoSq (2 ^ 48)).wf = false ∧ (Instr.cmdDeleteIoSq (2 ^ 48 - 1)).wf = true := by decide
theorem test_wf_stream : (Instr.stagingFillTimeout 4).wf = false ∧ (Instr.stagingFillTimeout 3).wf = true := by decide
theorem test_wf_bank : (Instr.flcProgram .sup 2 false).wf = false ∧ (Instr.flcProgram .sup 1 false).wf = true := by decide
theorem test_wf_flashAddr : (Instr.flashRead .sup 0x08800000 8 []).wf = false ∧ (Instr.flashRead .sup 0x087FFFF8 8 []).wf = true := by decide
theorem test_wf_challengeSlot : (Instr.secChallengeExpiry 3).wf = false ∧ (Instr.secChallengeExpiry 2).wf = true := by decide
theorem test_wf_pin : (Instr.gpioEdge 16 true).wf = false ∧ (Instr.gpioEdge 15 true).wf = true := by decide

/-! ## Values the spec gives -/

/-- R32: the check value for "123456789". -/
theorem test_crc16 : crc16 [0x31, 0x32, 0x33, 0x34, 0x35, 0x36, 0x37, 0x38, 0x39] = 0x29B1 := by decide +kernel
/-- R33: the check value for "123456789". -/
theorem test_crc64 : crc64 [0x31, 0x32, 0x33, 0x34, 0x35, 0x36, 0x37, 0x38, 0x39] = 0x62EC59E3F1A4F00A := by decide +kernel
/-- R34: the first 16 output bits from the seed 0x4000. -/
theorem test_scrambler : bitsToBytes (scrambleBits 16 (scrambleSeed 0 0)) = [0x80, 0x01] := by decide +kernel
/-- R36: rows and shifts of columns 0 and 10. -/
theorem test_ldpc_columns :
    (List.range 4).map (fun t => ldpcRow t 0) = [0, 7, 14, 21] ∧ [0, 7, 14, 21].map (fun r => ldpcShift r 0) = [25, 127, 37, 139] ∧
    (List.range 4).map (fun t => ldpcRow t 10) = [3, 11, 19, 27] ∧ [3, 11, 19, 27].map (fun r => ldpcShift r 10) = [183, 7, 23, 39] := by
  decide +kernel
/-- The worked example of R39: sector 42 of group strip 5 lies at position 81 of spiral 2. -/
theorem test_place : placeOf 5 42 = (2, 81) ∧ sectorAt 2 81 = (5, 42) := by decide +kernel
/-- The worked example of R429's index: staging slots 0 to 3 on the LN7740. -/
theorem test_l2_index :
    (List.range 4).map (fun k => l2Set .ln7740 (0x11000000 + k * 0x200000)) = [0x104, 0x124, 0x144, 0x164] := by decide +kernel

/-! ## Single steps -/

/-- The supply rises: the rails start. -/
theorem test_step_vinRise : (match step { wOff with pending := [.vinRise] } with
    | .next t => t.boot.phase == .railsStarting && t.pending == [] | _ => false) = true := by decide +kernel
/-- A register that the table lets SUP write takes the written value (R18, R433). -/
theorem test_step_registerWrite : (match step { State.reset with pending := [.registerWrite .sup 0x40002010 4 1#32] } with
    | .next t => t.reg 0x40002010 == 1#32 && t.reg 0x40002014 == 0#32 | _ => false) = true := by decide +kernel
/-- A refused write is logged in ACL and does nothing else (R432). -/
theorem test_step_refused : (match step { State.reset with pending := [.registerWrite .hostin 0x40002010 4 1#32] } with
    | .next t => t.reg 0x40002010 == 0#32 && t.irq 0x1E 0 && t.fld Reg.ACL_CNT 0 16 == 1 | _ => false) = true := by decide +kernel
/-- A GPIO pin's set bit goes to the output (R506). -/
theorem test_step_gpioSet : (match step { wAll 0x25 with pending := [.gpioSet .sup 0x8001#32, .gpioClr .sup 1#32] } with
    | .next t => (match step t with | .next u => t.fld Reg.GPIO_OUT 0 16 == 0x8001 && u.fld Reg.GPIO_OUT 0 16 == 0x8000 | _ => false)
    | _ => false) = true := by decide +kernel
/-- A page ID can not be written (R498). -/
theorem test_step_id : (match step { State.reset with pending := [.registerWrite .dbg 0x40003000 4 5#32] } with
    | .next t => t.reg 0x40003000 == State.reset.reg 0x40003000 | _ => false) = true := by decide +kernel

end Sys2Proof.Machine
end

section
/-! The canonical form, hard-wired registers and absent parts (O4, O5, O48, O49, O50, O51). -/
namespace Sys2Proof.Machine

theorem exec_wf {c : Instr} {s t : State} (h : exec c s = .next t) : t.wf = true := by
  obtain ⟨u, hu⟩ := exec_done c s
  rw [hu] at h
  injection h with h
  exact h ▸ State.settled_wf s u

/-- Settles O4: an empty queue leaves the state, and every command brings its result into canonical form. -/
theorem stepKeepsCanonicalForm : Obligations.StepKeepsCanonicalForm := by
  intro s t hs h
  unfold step at h
  cases hp : s.pending with
  | nil =>
    simp only [hp] at h
    injection h with h
    exact h ▸ hs
  | cons c l =>
    simp only [hp] at h
    exact exec_wf h

/-- Settles O5, by evaluation of the reset state. -/
theorem resetIsCanonical : Obligations.ResetIsCanonical := by
  unfold Obligations.ResetIsCanonical
  decide +kernel

/-! ## Hard-wired registers (R2, R16, R498) -/

theorem State.settled_reg_hardWired (s t : State) (a : Nat) (h : hardWired s.variant a = true) :
    (s.settled t).reg a = regReset s.variant a := State.tidy_reg_hardWired _ a h

theorem isPage_id {p : Nat} (hp : p < 0x29) : isPage (0x40000000 + p * 0x1000) = true := by
  simp [isPage]; omega

theorem pageOf_id (p : Nat) : pageOf (0x40000000 + p * 0x1000) = p := by unfold pageOf; omega

theorem hardWired_id (v : Variant) {p : Nat} (hp : p < 0x29) : hardWired v (0x40000000 + p * 0x1000) = true := by
  simp [hardWired, isPage_id hp]

theorem regReset_id (v : Variant) {p : Nat} (hp : p < 0x29) :
    regReset v (0x40000000 + p * 0x1000) = Word.ofNat (0x4C000100 + p * 0x10000) := by
  have h0 : (0x40000000 + p * 0x1000) % 0x1000 = 0 := by omega
  simp only [regReset, isPage_id hp, h0, pageOf_id, if_true]

theorem isPage_of_absentOn20 {a : Nat} (h : absentOn20 a = true) : isPage a = true := by
  simp only [absentOn20, Bool.and_eq_true] at h
  exact h.1

theorem absentPart_ln7720 {a : Nat} (h : absentOn20 a = true) : absentPart .ln7720 a = true := by
  simp [absentPart, h]

theorem regReset_absent {a : Nat} (h : absentOn20 a = true) :
    regReset .ln7720 a = if a % 0x1000 = 0 then Word.ofNat (0x4C000100 + pageOf a * 0x10000) else 0#32 := by
  have h1 := isPage_of_absentOn20 h
  have h2 := absentPart_ln7720 h
  unfold regReset
  rw [if_pos h1]
  by_cases h0 : a % 0x1000 = 0
  · rw [if_pos h0, if_pos h0]
  · rw [if_neg h0, if_neg h0, if_pos h2]

theorem hardWired_absent {a : Nat} (h : absentOn20 a = true) : hardWired .ln7720 a = true := by
  unfold hardWired
  rw [isPage_of_absentOn20 h, absentPart_ln7720 h, Bool.or_true, Bool.and_true]

/-- Settles O51: every command ends with the hard-wired registers put back. -/
theorem hardWiredRegistersReadAsAtReset : Obligations.HardWiredRegistersReadAsAtReset := by
  intro c s
  obtain ⟨u, hu⟩ := exec_done c s
  refine ⟨_, hu, fun p hp => ?_, fun hv a ha h0 => ?_⟩
  · rw [State.settled_reg_hardWired s u _ (hardWired_id _ hp), regReset_id _ hp]
  · rw [State.settled_reg_hardWired s u a (hv ▸ hardWired_absent ha), hv, regReset_absent ha, if_neg h0]

/-- The ID that `regReset` gives a page is neither 0 nor all ones (R16). -/
theorem pageId_ne {p : Nat} (hp : p < 0x29) :
    Word.ofNat (0x4C000100 + p * 0x10000) ≠ 0#32 ∧ Word.ofNat (0x4C000100 + p * 0x10000) ≠ 0xFFFFFFFF#32 := by
  have h : (Word.ofNat (0x4C000100 + p * 0x10000)).toNat = 0x4C000100 + p * 0x10000 := by
    unfold Word.ofNat; rw [BitVec.toNat_ofNat]; omega
  constructor <;> intro e <;> rw [e] at h <;> simp at h <;> omega

theorem State.wf_reg_hardWired {s : State} (h : s.wf = true) {a : Nat} (ha : hardWired s.variant a = true) :
    s.reg a = regReset s.variant a := by
  have := State.tidy_reg_hardWired s a ha
  rwa [State.tidy_of_wf s h] at this

/-- No register that follows other state stands at the start of a page. -/
theorem livePlatform_id (s : State) {a : Nat} (h : a % 0x1000 = 0) : livePlatform s a = none := by
  unfold livePlatform
  iterate 10 rw [if_neg (by rintro rfl; revert h; decide)]
  rw [if_neg (by simp only [Reg.IRQ_ROUTE]; omega), if_neg (by simp only [Reg.IRQ_THR]; omega)]

theorem xtPeek_id (s : State) {a : Nat} (h : a % 0x1000 = 0) : xtPeek s a = none := by
  have hf : (List.range 4).find? (fun l => a == Reg.DET_XT_IN l || a == Reg.DET_XT_OUT l) = none := by
    rw [List.find?_eq_none]
    intro l hl
    simp only [List.mem_range] at hl
    simp [Reg.DET_XT_IN, Reg.DET_XT_OUT]
    omega
  simp only [xtPeek, hf]

theorem liveBlock_id (s : State) {a : Nat} (h : a % 0x1000 = 0) : liveBlock s a = none := by
  have hf : (List.range 5).find? (fun w => a == Reg.WDT_STAT w) = none := by
    rw [List.find?_eq_none]
    intro w hw
    simp only [List.mem_range] at hw
    simp [Reg.WDT_STAT]
    omega
  unfold liveBlock
  rw [if_neg (by simp only [Reg.SEC_IDPK]; omega)]
  iterate 3 rw [if_neg (by rintro rfl; revert h; decide)]
  simp only [hf, xtPeek_id s h]

/-- A page's ID register shows what it holds after reset. -/
theorem regPeek_id {s : State} (hs : s.wf = true) {p : Nat} (hp : p < 0x29) :
    regPeek s (0x40000000 + p * 0x1000) = Word.ofNat (0x4C000100 + p * 0x10000) := by
  have h0 : (0x40000000 + p * 0x1000) % 0x1000 = 0 := by omega
  rw [← regReset_id s.variant hp, regPeek, isPage_id hp, livePlatform_id s h0, liveBlock_id s h0, h0,
    ← State.wf_reg_hardWired hs (hardWired_id _ hp)]
  simp

/-- Settles O48. -/
theorem pageIdsReadNeitherZeroNorOnes : Obligations.PageIdsReadNeitherZeroNorOnes := by
  intro s p hs hp
  rw [regPeek_id hs hp]
  exact pageId_ne hp

/-! ## Error counts -/

/-- ERR_INFO's count after an error: one more, up to 255 (R501). -/
theorem State.fld_err_count (s : State) (p c src : Nat) :
    (s.err p c src).fld (Reg.ERR_INFO p) 24 8 = min (s.fld (Reg.ERR_INFO p) 24 8 + 1) 255 := by
  by_cases h : s.fld (Reg.ERR_INFO p) 24 8 = 0
  · have hc : c % 65536 < 65536 := Nat.mod_lt _ (by omega)
    have hs : src % 256 < 256 := Nat.mod_lt _ (by omega)
    unfold State.fld at h ⊢
    rw [State.reg_err_first s p c src h, h]
    unfold fieldOf Word.ofNat
    rw [BitVec.toNat_ofNat]
    omega
  · rw [State.err_later s p c src h, State.fld_addSat_same _ _ _ _ _ (by omega)]
    rfl

/-- The source that ERR_INFO shows after the first error since it was cleared (R501). -/
theorem State.fld_err_source (s : State) (p c src : Nat) (h : s.fld (Reg.ERR_INFO p) 24 8 = 0) :
    (s.err p c src).fld (Reg.ERR_INFO p) 16 8 = src % 256 := by
  have hc : c % 65536 < 65536 := Nat.mod_lt _ (by omega)
  have hs : src % 256 < 256 := Nat.mod_lt _ (by omega)
  unfold State.fld
  rw [State.reg_err_first s p c src h]
  unfold fieldOf Word.ofNat
  rw [BitVec.toNat_ofNat]
  omega

/-- STAT.ERR reads 1 once an error is counted (R501). -/
theorem statNow_err {s : State} {p : Nat} (hp : p ≠ pgLENG) (h : s.fld (Reg.ERR_INFO p) 24 8 ≠ 0) :
    fieldOf (statNow s p) 2 1 = 1 := by
  unfold statNow
  rw [if_neg h, if_neg hp, fieldOf_putField _ _ _ _ (by omega)]
  rfl

/-! ## Writes of registers -/

theorem regWrite_take {s : State} {m : Master} {a size : Nat} {v new : Word} {eff : State → State}
    (h : judgeWrite s m a size v = .take new) : regWrite s m a size v eff = eff (s.putReg a new) := by
  simp only [regWrite, h]

/-- A register's write reaches the register file, the latches and the list of spent RWO registers. -/
theorem State.putReg_eq (s : State) (a : Nat) (new : Word) :
    ∃ r l w, s.putReg a new = { s with regs := r, latches := l, rwoDone := w } := by
  unfold State.putReg
  cases descOf a with
  | none => by_cases h : a % 0x1000 = 0x10 ∨ a % 0x1000 = 0x14 <;> simp only [h, if_true, if_false] <;> exact ⟨_, _, _, rfl⟩
  | some d =>
    by_cases hd : d.acc = .rwo <;> by_cases h : a % 0x1000 = 0x10 ∨ a % 0x1000 = 0x14 <;>
      simp only [hd, h, if_true, if_false] <;> exact ⟨_, _, _, rfl⟩

@[simp] theorem State.putReg_ms (s : State) (a : Nat) (new : Word) : (s.putReg a new).ms = s.ms := by
  obtain ⟨r, l, w, h⟩ := s.putReg_eq a new
  rw [h]

theorem State.putReg_variant (s : State) (a : Nat) (new : Word) : (s.putReg a new).variant = s.variant := by
  obtain ⟨r, l, w, h⟩ := s.putReg_eq a new
  rw [h]

/-- L2C_MOP refuses line zero on the LN7720 (R3). -/
theorem mopGo_zero_ln7720 (m : Master) {v : Word} {s : State} (hs : s.variant = .ln7720) (hgo : fieldOf v 31 1 = 1)
    (hop : fieldOf v 0 3 = 4) : mopGo m v s = s.err pgL2C 0x1902 m.id := by
  unfold mopGo
  rw [if_neg (by omega)]
  exact if_pos (.inr ⟨hop, hs⟩)

/-- Settles O49: the operation is refused with 0x1902, which ERR_INFO counts. -/
theorem lineZeroIsRefusedOnTheLN7720 : Obligations.LineZeroIsRefusedOnTheLN7720 := by
  rintro s m v new ⟨hv, htake, hgo, hop⟩
  have hw : regWrite s m Reg.L2C_MOP 4 v (mopGo m v) = (s.putReg Reg.L2C_MOP new).err pgL2C 0x1902 m.id := by
    rw [regWrite_take htake, mopGo_zero_ln7720 m ((State.putReg_variant ..).trans hv) hgo hop]
  refine runs_of_done _ (congrArg (done s) hw) ⟨?_, statNow_err (by decide) ?_⟩
  · rw [State.settled_ms, State.err_ms, State.putReg_ms]
  · rw [State.settled_fld_plain _ _ _ _ _ (by decide), State.fld_err_count]
    omega

/-! ## Absent parts of the LN7720 -/

theorem regPeek_absent {s : State} {a : Nat} (hs : s.variant = .ln7720) (h : absentOn20 a = true) :
    regPeek s a = regReset .ln7720 a := by
  unfold regPeek
  rw [hs, isPage_of_absentOn20 h, absentPart_ln7720 h]
  rfl

/-- A granted, aligned write to an absent part. -/
theorem judgeWrite_absent {s : State} {m : Master} {a : Nat} (v : Word) (hs : s.variant = .ln7720) (ha : absentOn20 a = true)
    (h4 : a % 4 = 0) (hg : pageGrants s m (pageOf a) .write = true) : judgeWrite s m a 4 v = .absent := by
  unfold judgeWrite
  rw [hg, hs, absentPart_ln7720 ha, if_neg (by decide), if_neg (by omega), if_pos rfl]

theorem regWrite_absent {s : State} {m : Master} {a : Nat} {v : Word} (h : judgeWrite s m a 4 v = .absent)
    (eff : State → State) : regWrite s m a 4 v eff = s.err 0 0x2104 m.id := by
  simp only [regWrite, h, writeDropped]

theorem ctrlWrite_absent {s : State} {m : Master} {p : Nat} (v : Word) (hs : s.variant = .ln7720)
    (ha : absentOn20 (Reg.CTRL p) = true) (hg : pageGrants s m p .write = true) :
    ctrlWrite m p v s = s.err 0 0x2104 m.id := by
  unfold ctrlWrite
  rw [hg, hs, absentPart_ln7720 ha, if_neg (by decide), if_pos rfl]

theorem targetWrite_absent {s : State} {m : Master} {a : Nat} {v : Word} (h : judgeWrite s m a 4 v = .absent)
    (hg : (glidedOfTarget a).isSome = true) : targetWrite m a v false s = s.err 0 0x2104 m.id := by
  obtain ⟨g, hg⟩ := Option.isSome_iff_exists.mp hg
  simp only [targetWrite, hg, Bool.false_eq_true, if_false]
  exact regWrite_absent h _

/-- The pages that hold absent parts. -/
theorem pageOf_absentOn20 {a : Nat} (h : absentOn20 a = true) : 0x0C ≤ pageOf a ∧ pageOf a ≤ 0x0F := by
  simp only [absentOn20, Bool.and_eq_true, Bool.or_eq_true, beq_iff_eq] at h
  omega

theorem writeRead_absent {s : State} {m : Master} {a : Nat} {v : Word} (h : judgeWrite s m a 4 v = .absent) :
    writeRead m a v s = s.err 0 0x2104 m.id := by
  unfold writeRead
  simp only [regWrite_absent h]
  cases idxOf Reg.RFL_MODE 4 a <;> simp only [ite_self]

/-- A write to an absent part changes nothing but the SYS page's ERR_INFO. -/
theorem registerWrite_absent {s : State} {m : Master} {a : Nat} (v : Word) (hs : s.variant = .ln7720)
    (ha : absentOn20 a = true) (h4 : a % 4 = 0) (hg : pageGrants s m (pageOf a) .write = true) :
    registerWrite m a 4 v s = s.err 0 0x2104 m.id := by
  have hj := judgeWrite_absent v hs ha h4 hg
  have hpage := isPage_of_absentOn20 ha
  have hp := pageOf_absentOn20 ha
  have hrange : 0x40000000 ≤ a ∧ a < 0x40029000 := by simpa [isPage] using hpage
  have hnone : (List.range 4).find? (fun h => lncfgAddr h == a && hartMaster h == m) = none := by
    rw [List.find?_eq_none]
    intro h _
    simp [lncfgAddr]
    omega
  have hin : inPages a = true := by simp [inPages]; omega
  simp only [registerWrite, hnone, hin, if_true, pageWrite, hpage]
  rw [if_neg (by simp), if_neg (by omega)]
  by_cases hc : a % 0x1000 = 4
  · have hctrl : Reg.CTRL (pageOf a) = a := by unfold Reg.CTRL pageOf; omega
    rw [if_pos hc, ctrlWrite_absent v hs (hctrl.symm ▸ ha) hg]
  · rw [if_neg hc]
    by_cases ht : (glidedOfTarget a).isSome = true
    · rw [if_pos ht, targetWrite_absent hj ht]
    · rw [if_neg ht]
      unfold writeOwn
      rw [if_neg (by omega), if_neg (by omega), if_neg (by omega), if_neg (by omega), if_pos (by omega),
        writeRead_absent hj]

theorem Master.id_lt (m : Master) : m.id < 256 := by cases m <;> decide

/-- OPT_SEL with no more than two lane enables. -/
theorem fieldOf_twoLanes (sel lanes k : Nat) (hsel : sel < 4) (hl : lanes < 4) :
    fieldOf (Word.ofNat (sel + lanes * 16 + k * 256)) 6 2 = 0 := by
  unfold fieldOf Word.ofNat
  rw [BitVec.toNat_ofNat]
  omega

/-- The lane enables of lanes 2 and 3 are off in OPT_SEL (R2). -/
theorem optSel_lanes (f : Nat → BitVec 64) : fieldOf (optSel .ln7720 f) 6 2 = 0 := by
  have hsel : (if (forceWord f 1).toNat % 4 = 0 then 3 else (forceWord f 1).toNat % 4) < 4 := by split <;> omega
  have hl : ((f 4).toNat % 16 &&& (forceWord f 1).toNat / 16 % 16) &&& 3 < 4 := Nat.lt_succ_of_le Nat.and_le_right
  simp only [optSel, if_true]
  convert fieldOf_twoLanes _ _ (((f 4).toNat / 16 % 4 &&& (forceWord f 1).toNat / 256 % 4 &&& 1) +
    (f 62 != BitVec.allOnes 64).toNat * 16 + (ownerThere f).toNat * 32 + blockInForce f * 256) hsel hl using 3
  ring

/-- Settles O50. -/
theorem absentPartsReadZeroAndDropWrites : Obligations.AbsentPartsReadZeroAndDropWrites := by
  refine ⟨fun s a hs ha => ?_, ?_, optSel_lanes⟩
  · rw [regPeek_absent hs ha, regReset_absent ha]
  · rintro s m a v ⟨hs, ha, h4, hg⟩
    refine runs_of_done _ (congrArg (done s) (registerWrite_absent v hs ha h4 hg)) ⟨fun x hx hne => ?_, ?_, fun h0 => ?_⟩
    · rw [State.settled_reg _ _ _ (State.err_variant ..) hx, State.reg_err_ne _ _ _ _ _ hne.symm]
    · rw [State.settled_fld_plain _ _ _ _ _ (by decide), State.fld_err_count]
    · rw [State.settled_fld_plain _ _ _ _ _ (by decide), State.fld_err_source _ _ _ _ h0,
        Nat.mod_eq_of_lt (Master.id_lt m)]

end Sys2Proof.Machine
end

section
/-! Refutations by a state that a clause of the statement does not foresee (O40, O45). -/
namespace Sys2Proof.Machine

/-- What holds of the state that a command answers. -/
theorem Runs.next {c : Instr} {s x : State} {P : State → Prop} (h : Runs c s P) (hx : exec c s = done s x) :
    P (s.settled x) := by
  obtain ⟨t, ht, hp⟩ := h
  rw [hx, done_eq] at ht
  injection ht with ht
  exact ht ▸ hp

/-! ## The scrubber with write-back off (R415, R423) -/

/-- A correctable word stands at the scrubber's position while MEMC_CFG does not write corrections back. -/
def noWriteBack : State :=
  let s := State.reset.setBit Reg.MEMC_CFG 0 false
  { s with ms := { s.ms with ceWords := [0x10000000] } }

theorem noWriteBack_scrubs : noWriteBack.bit Reg.MEMC_SCRUB 0 = true ∧ noWriteBack.fld Reg.HQ_PS 0 3 ≠ 4 ∧
    0x10000000 = (noWriteBack.reg Reg.MEMC_SCRUB_POS).toNat / 64 * 64 ∧ macroFailed noWriteBack 0x10000000 = false ∧
    inSram 0x10000000 = true := by decide +kernel

/-- The line is scrubbed and the word still holds its error. -/
theorem scrubLine_noWriteBack : (scrubLine [] noWriteBack).ms.ceWords = [0x10000000] := by decide +kernel

/-- Refutes O40: with MEMC_CFG.WB clear the scrubber counts a corrected word and leaves it in SRAM as it was. -/
theorem not_cachesAreMaintained : ¬ Obligations.CachesAreMaintained := by
  unfold Obligations.CachesAreMaintained
  rintro ⟨-, -, -, -, -, -, -, -, -, -, -, -, -, -, -, -, -, -, -, -, -, -, -, -, -, -, -, -, -, -, -, -, -, -, -, -, -, -,
    -, -, -, -, -, -, -, -, hscrub, -⟩
  have hclean := ((hscrub noWriteBack [] 0x10000000 noWriteBack_scrubs).next rfl).1
  rw [State.settled_ms, scrubLine_noWriteBack] at hclean
  exact absurd hclean (by decide)

/-! ## A write of ACL's IRQ_EN on which EVR looks at its rights again (R467) -/

/-- EVR waits to fetch a firmware record; SRAM window 0 grants it the read, and the record's code, 0, is below 0x8000. -/
def fwRecordWaits : State :=
  let s := State.reset.setReg Reg.EVR_WR_SRC 0x10000000#32
  let s := s.setReg (Reg.ACL_SRAM_BASE 0) 0x10000001#32
  let s := s.setReg (Reg.ACL_SRAM_BASE 0 + 4) 0x10000000#32
  let s := s.setReg (Reg.ACL_SRAM_BASE 0 + 8) 0x2000#32
  s.setEvr { s.evr with fw := some (.sup, none) }

theorem fwRecordWaits_writable : 0x1E < 0x29 ∧ pageGrants fwRecordWaits .sup 0x1E .write = true ∧
    absentPart fwRecordWaits.variant (Reg.IRQ_EN 0x1E) = false ∧ fwRecordWaits.locked 0x1E = false := by decide +kernel

/-- The record is refused on EVR's page. -/
theorem registerWrite_fwRecordWaits :
    (registerWrite .sup (Reg.IRQ_EN 0x1E) 4 0#32 fwRecordWaits).reg (Reg.ERR_INFO pgEVR) ≠
      fwRecordWaits.reg (Reg.ERR_INFO pgEVR) := by decide +kernel

/-- Refutes O45: a write of IRQ_EN of page 0x1E lets EVR fetch a firmware record that it refuses, in ERR_INFO of page
0x22. -/
theorem not_registerWritesFollowTheirRules : ¬ Obligations.RegisterWritesFollowTheirRules := by
  unfold Obligations.RegisterWritesFollowTheirRules
  rintro ⟨-, henable, -⟩
  obtain ⟨-, -, hkeep, -⟩ := (henable fwRecordWaits .sup 0x1E 0#32 fwRecordWaits_writable).next rfl
  have hreg := hkeep (Reg.ERR_INFO pgEVR) (by decide) (by decide) (by decide)
  rw [State.settled_reg_plain _ _ _ (by decide)] at hreg
  exact registerWrite_fwRecordWaits hreg

end Sys2Proof.Machine
end

section
/-! A host's read of PCIE_LINK wakes the link before the register answers (O34). -/
namespace Sys2Proof.Machine

theorem takeBytes_word {off : Nat} (h : off % 8 = 0) (f : Nat → Word) : takeBytes off 4 f = (f off).toNat := by
  have hlt := (f off).isLt
  have h8 : off / 8 * 8 = off := by omega
  have hb : ∀ n : Nat, bytesLE 4 n = [n % 256, n / 256 % 256, n / 65536 % 256, n / 16777216 % 256] := by
    intro n
    simp [bytesLE, Nat.div_div_eq_div_mul]
  unfold takeBytes
  rw [h, h8, hb, hb]
  simp [leNat]
  omega

theorem regPeek_pcieLink (s : State) : regPeek s Reg.PCIE_LINK = s.reg Reg.PCIE_LINK := by
  have ha : absentPart s.variant Reg.PCIE_LINK = false := by cases s.variant <;> decide
  unfold regPeek
  rw [ha]
  rfl

/-- The read of a register in BAR2 that the access table grants. -/
theorem bar2Serve_resp {s : State} {off : Nat} (hoff : off < 0x29000)
    (hg : pageGrants s .hostin (off / 0x1000) .read = true) :
    (bar2Serve off 4 s).resp = ⟨(substitute 4 (takeBytes (0x40000000 + off) 4 (regPeek s))).1, false⟩ := by
  unfold bar2Serve
  rw [if_neg (by omega), if_neg (by omega), if_neg (by omega), hg, if_neg (by decide)]
  dsimp only
  split <;> rfl

theorem substitute_word {n : Nat} (h : n ≠ 0xFFFFFFFF) : substitute 4 n = (n, false) := by
  simp [substitute, h]

/-- A link that saves power shows L0 once it is awake (R328). -/
theorem linkWake_l0 (s : State) (h : 1 ≤ s.fld Reg.PCIE_LINK 16 3 ∧ s.fld Reg.PCIE_LINK 16 3 ≤ 4) :
    (linkWake s).fld Reg.PCIE_LINK 16 3 = 0 := by
  unfold linkWake setLpm
  rw [if_pos h, State.fld_setFld_above _ _ _ _ _ _ _ (by omega) (by omega), State.fld_setFld_same _ _ _ _ _ (by omega)]
  rfl

theorem linkWake_reg_ne (s : State) {a : Nat} (h : Reg.PCIE_LINK ≠ a) : (linkWake s).reg a = s.reg a := by
  unfold linkWake setLpm
  dsimp only
  split
  · rw [State.reg_setFld_ne _ _ _ _ _ _ h, State.reg_setFld_ne _ _ _ _ _ _ h]
  · rfl

theorem pageGrants_hostin_of_reg {s t : State} {p : Nat} (h : t.reg (Reg.ACL_PAGE p) = s.reg (Reg.ACL_PAGE p)) :
    pageGrants t .hostin p .read = pageGrants s .hostin p .read :=
  congrArg _ (State.bit_of_reg t s _ _ _ h)

/-- A host read of BAR2 of a shape that is served. -/
theorem barRead_served {s : State} {off n : Nat} (hl : linkGone s = false) (hm : memSpace (linkWake s) = true)
    (hs : barShape off n = true) : barRead 2 off n s = bar2Serve off n (linkWake s) := by
  simp [barRead, hl, hm, hs]

/-- The link is up at 16 GT/s and in L0s, and the host has enabled memory space. -/
def linkInL0s : State :=
  ((State.reset.setFld Reg.PCIE_LINK 0 3 4).setFld Reg.PCIE_LINK 16 3 1).setBit (cfgReg 0x04) 1 true

/-- PCIE_LINK's offset in BAR2. -/
abbrev linkOffset : Nat := 0x1A040

theorem linkInL0s_reads : linkGone linkInL0s = false ∧ memSpace linkInL0s = true ∧ linkOffset < 0x29000 ∧
    linkOffset % 4 = 0 ∧ pageGrants linkInL0s .hostin (linkOffset / 0x1000) .read = true := by decide +kernel

theorem linkInL0s_link : linkInL0s.reg Reg.PCIE_LINK = 0x00010004#32 := by decide +kernel

theorem linkInL0s_awake : (linkWake linkInL0s).fld Reg.PCIE_LINK 16 3 = 0 :=
  linkWake_l0 _ (by unfold State.fld; rw [linkInL0s_link]; decide)

/-- What the host gets is PCIE_LINK as it stands once the link is awake. -/
theorem barRead_linkInL0s : ∃ n, n ≠ 0x00010004 ∧ (barRead 2 linkOffset 4 linkInL0s).resp = ⟨n, false⟩ := by
  obtain ⟨hup, hmem, hoff, -, hg⟩ := linkInL0s_reads
  have hword : takeBytes (0x40000000 + linkOffset) 4 (regPeek (linkWake linkInL0s)) =
      ((linkWake linkInL0s).reg Reg.PCIE_LINK).toNat := by
    rw [takeBytes_word (by decide)]
    exact congrArg BitVec.toNat (regPeek_pcieLink _)
  have hbits : ∀ n : Nat, n / 2 ^ 16 % 2 ^ 3 = 0 → n ≠ 0x00010004 ∧ n ≠ 0xFFFFFFFF := by omega
  obtain ⟨hold, hones⟩ := hbits _ linkInL0s_awake
  have hspace : memSpace (linkWake linkInL0s) = true :=
    (State.bit_of_reg _ linkInL0s _ _ _ (linkWake_reg_ne _ (by decide))).trans hmem
  have hgrant : pageGrants (linkWake linkInL0s) .hostin (linkOffset / 0x1000) .read = true :=
    (pageGrants_hostin_of_reg (linkWake_reg_ne _ (by simp only [Reg.PCIE_LINK, Reg.ACL_PAGE]; omega))).trans hg
  refine ⟨((linkWake linkInL0s).reg Reg.PCIE_LINK).toNat, hold, ?_⟩
  have hshape : barShape linkOffset 4 = true := by decide
  rw [barRead_served hup hspace hshape, bar2Serve_resp hoff hgrant, hword, substitute_word hones]

/-- Refutes O34: a host read finds the link in L0s, and PCIE_LINK answers L0, no longer what it held before the read. -/
theorem not_hostReadsBarsAndUnlock : ¬ Obligations.HostReadsBarsAndUnlock := by
  unfold Obligations.HostReadsBarsAndUnlock
  rintro ⟨-, -, -, -, -, -, -, -, -, -, -, -, -, -, -, -, -, -, -, -, -, -, hread, -⟩
  have hresp := (hread linkInL0s linkOffset linkInL0s_reads).next rfl
  have hpeek : regPeek linkInL0s (0x40000000 + linkOffset) = 0x00010004#32 :=
    (regPeek_pcieLink linkInL0s).trans linkInL0s_link
  obtain ⟨n, hn, hb⟩ := barRead_linkInL0s
  rw [hpeek] at hresp
  simp [hb] at hresp
  exact hn hresp
end Sys2Proof.Machine
end

section
/-! Refutations about the host queues (O35, O36). -/
namespace Sys2Proof.Machine

/-! ## A doorbell whose number is beyond the queues (R369) -/

/-- The controller takes doorbells, and the register file lists a word of its own for the ID of page 0x1A, which the step
keeps from reading as anything but the ID. -/
def listedId : State := (State.reset.setBit aCSTS 0 true).setReg 0x4001A000 0#32

/-- The doorbell whose HQ_SQPTR would stand at the ID of page 0x1A. -/
abbrev farDoorbell : Nat := 0x3C0

theorem listedId_ready : listedId.quiet ∧ ready listedId = true ∧
    (listedId.sq farDoorbell).all (fun q => decide (q.size ≤ fieldOf (0#32 : Word) 0 16)) = true := by decide +kernel

/-- Refutes O35: the clause of a refused tail doorbell bounds neither the doorbell's number nor the state, and the step puts
back a hard-wired register that the number reaches. -/
theorem not_controllerEnablesResetsAndShutsDown : ¬ Obligations.ControllerEnablesResetsAndShutsDown := by
  unfold Obligations.ControllerEnablesResetsAndShutsDown
  rintro ⟨-, -, -, -, -, -, -, -, -, -, hbad, -⟩
  obtain ⟨hkept, -⟩ := (hbad listedId farDoorbell 0#32 listedId_ready).next rfl
  have hid : hardWired listedId.variant (Reg.HQ_SQPTR farDoorbell) = true := by decide +kernel
  rw [State.settled_reg_hardWired _ _ _ hid] at hkept
  exact absurd hkept (by decide +kernel)

/-! ## Delete I/O Submission Queue answers with the result word its context holds (R342, R350) -/

/-- An accepted Delete I/O Submission Queue of queue 3 whose context holds the result word 1. -/
def deleteWithResult : Ctx :=
  { freshCtx 9 0 0 ([0x00070000#32] ++ List.replicate 9 0#32 ++ [3#32]) with dw0 := 1 }

/-- The controller holds that command and queue 3. -/
def holdsDelete : State :=
  State.reset.setHq { State.reset.hq with sqs := [⟨3, 0x9000, 4, 0, 0⟩], ctx := [deleteWithResult] }

theorem holdsDelete_alone : holdsDelete.alone deleteWithResult ∧ deleteWithResult.admin = true ∧ deleteWithResult.opc = 0x00 ∧
    deleteWithResult.f 10 0 16 ≠ 0 ∧ deleteWithResult.f 10 0 16 ≤ 64 ∧
    (holdsDelete.sq (deleteWithResult.f 10 0 16)).isSome = true := by decide +kernel

/-- The completion keeps the result word 1. -/
theorem holdsDelete_answer :
    (takeUpWith (isAdmin 0x00) deleteSq 9 holdsDelete).answered holdsDelete deleteWithResult stOk 0 = false := by
  decide +kernel

theorem State.answered_settled (s t u : State) (c : Ctx) (st dw0 : Nat) :
    (s.settled t).answered u c st dw0 = t.answered u c st dw0 := rfl

/-- Refutes O36: the clause of Delete I/O Submission Queue leaves the context's result word open, and the deletion ends
with the word as it is. -/
theorem not_adminQueuesAndFeatures : ¬ Obligations.AdminQueuesAndFeatures := by
  unfold Obligations.AdminQueuesAndFeatures
  rintro ⟨hdelete, -⟩
  obtain ⟨-, -, hanswer⟩ := (hdelete holdsDelete deleteWithResult holdsDelete_alone).next rfl
  exact absurd (hanswer.symm.trans ((State.answered_settled ..).trans holdsDelete_answer)) (by decide)

end Sys2Proof.Machine
end

section
/-! What the shared operations of the host side leave alone: the rules that the proof about link, resets and bus mastering
(O33) uses. -/
namespace Sys2Proof.Machine

/-! ## Parts after a part is replaced -/

theorem State.setHq_hq (s : State) (q : HostQueues) : (s.setHq q).hq = q := (rfl)
theorem State.setHq_pcie (s : State) (q : HostQueues) : (s.setHq q).pcie = s.pcie := (rfl)
theorem State.setPcie_hq (s : State) (p : Pcie) : (s.setPcie p).hq = s.hq := (rfl)
theorem State.setPcie_pcie (s : State) (p : Pcie) : (s.setPcie p).pcie = p := (rfl)
theorem State.setPcie_fld (s : State) (p : Pcie) (a lo w : Nat) : (s.setPcie p).fld a lo w = s.fld a lo w := (rfl)
theorem State.setPcie_bit (s : State) (p : Pcie) (a i : Nat) : (s.setPcie p).bit a i = s.bit a i := (rfl)

/-! ## Changes of registers alone -/

/-- `t` is `s` but for registers at addresses of `P`. -/
def RegsOnly (P : Nat → Prop) (s t : State) : Prop := (∃ r, t = { s with regs := r }) ∧ ∀ a, ¬P a → t.reg a = s.reg a

namespace RegsOnly

variable {P Q : Nat → Prop} {s t u : State}

theorem refl (P : Nat → Prop) (s : State) : RegsOnly P s s := ⟨⟨s.regs, rfl⟩, fun _ _ => rfl⟩

theorem trans (h : RegsOnly P s t) (h' : RegsOnly P t u) : RegsOnly P s u := by
  obtain ⟨⟨r, rfl⟩, ha⟩ := h
  obtain ⟨⟨r', rfl⟩, hb⟩ := h'
  exact ⟨⟨r', rfl⟩, fun a hn => (hb a hn).trans (ha a hn)⟩

theorem mono (h : RegsOnly P s t) (hpq : ∀ a, P a → Q a) : RegsOnly Q s t :=
  ⟨h.1, fun a ha => h.2 a (fun hp => ha (hpq a hp))⟩

theorem setReg (h : RegsOnly P s t) {a : Nat} (ha : P a) (w : Word) : RegsOnly P s (t.setReg a w) :=
  h.trans ⟨⟨_, rfl⟩, fun b hb => State.reg_setReg_ne t a b w (by rintro rfl; exact hb ha)⟩

theorem setFld (h : RegsOnly P s t) {a : Nat} (ha : P a) (lo w v : Nat) : RegsOnly P s (t.setFld a lo w v) := h.setReg ha _
theorem setBit (h : RegsOnly P s t) {a : Nat} (ha : P a) (i : Nat) (b : Bool) : RegsOnly P s (t.setBit a i b) := h.setReg ha _
theorem addSat (h : RegsOnly P s t) {a : Nat} (ha : P a) (lo w n : Nat) : RegsOnly P s (t.addSat a lo w n) := h.setReg ha _

theorem raise (h : RegsOnly P s t) {p : Nat} (h1 : P (Reg.IRQ_RAW p)) (h2 : P (Reg.IRQ_STAT p)) (i : Nat) :
    RegsOnly P s (t.raise p i) :=
  (h.setReg h1 _).setReg h2 _

theorem err (h : RegsOnly P s t) {p : Nat} (hp : P (Reg.ERR_INFO p)) (c m : Nat) : RegsOnly P s (t.err p c m) := by
  obtain ⟨a, w, he⟩ := t.err_eq p c m
  exact h.trans ⟨⟨_, he⟩, fun b hb => State.reg_err_ne t p c m b (fun he => hb (he ▸ hp))⟩

theorem ite {c : Prop} [Decidable c] (h : RegsOnly P s t) (h' : RegsOnly P s u) : RegsOnly P s (if c then t else u) := by
  split <;> assumption

theorem reg (h : RegsOnly P s t) {a : Nat} (ha : ¬P a) : t.reg a = s.reg a := h.2 a ha
theorem fld (h : RegsOnly P s t) {a : Nat} (ha : ¬P a) (lo w : Nat) : t.fld a lo w = s.fld a lo w :=
  State.fld_of_reg _ _ _ _ _ _ (h.reg ha)
theorem bit (h : RegsOnly P s t) {a : Nat} (ha : ¬P a) (i : Nat) : t.bit a i = s.bit a i :=
  State.bit_of_reg _ _ _ _ _ (h.reg ha)

theorem variant (h : RegsOnly P s t) : t.variant = s.variant := by obtain ⟨⟨r, rfl⟩, -⟩ := h; rfl
theorem boot (h : RegsOnly P s t) : t.boot = s.boot := by obtain ⟨⟨r, rfl⟩, -⟩ := h; rfl
theorem pcie (h : RegsOnly P s t) : t.pcie = s.pcie := by obtain ⟨⟨r, rfl⟩, -⟩ := h; rfl
theorem hq (h : RegsOnly P s t) : t.hq = s.hq := by obtain ⟨⟨r, rfl⟩, -⟩ := h; rfl
theorem xlt (h : RegsOnly P s t) : t.xlt = s.xlt := by obtain ⟨⟨r, rfl⟩, -⟩ := h; rfl
theorem flash (h : RegsOnly P s t) : t.flash = s.flash := by obtain ⟨⟨r, rfl⟩, -⟩ := h; rfl

/-- A controller that is quiet stays so. -/
theorem quiet (h : RegsOnly P s t) (hp : ¬P (Reg.STAT pgXLT)) (hq : s.quiet) : t.quiet := by
  obtain ⟨hm, hu, hs, hc⟩ := hq
  exact ⟨(h.bit hp 8).trans hm, h.xlt ▸ hu, h.hq ▸ hs, h.hq ▸ hc⟩

end RegsOnly

/-! ## What goes on where nothing waits (pump) -/

/-- The registers that follow the journal and the host queues. -/
abbrev quietRegs (a : Nat) : Prop := a ∈ [Reg.XLT_JRNL, Reg.XLT_JSN, Reg.HQ_CTX, Reg.HQ_STALL]

theorem syncStall_regsOnly (s : State) : RegsOnly (· ∈ [Reg.HQ_STALL]) s (syncStall s) :=
  ((((RegsOnly.refl (· ∈ [Reg.HQ_STALL]) s).setBit (by decide) 1 _).setBit (by decide) 2 _).setBit (by decide) 3 _).setBit (by decide) 4 _

theorem syncJrnl_regsOnly (s : State) : RegsOnly quietRegs s (syncJrnl s) :=
  ((((RegsOnly.refl quietRegs s).setBit (by decide) 8 _).setBit (by decide) 9 _).setFld (by decide) 0 7 _).setReg (by decide) _

/-- A journal with no unit has nothing to program. -/
theorem jrPump_noUnits {s : State} (h : s.xlt.jr.units = []) : jrPump s = syncJrnl s := by
  have hr : jrRetry s = s := by simp [jrRetry, h]
  have hg : jrGive (s.xlt.jr.units.length + 1) s = s := by simp [jrGive, h]
  simp only [jrPump, hr, hg]

/-- With no command there is no completion to post. -/
theorem postReady_noCtx {s : State} (h : s.hq.ctx = []) : postReady s = s.setFld Reg.HQ_CTX 16 14 0 := by
  simp [postReady, postAll, postDone, h]

theorem runShutdown_noShut {s : State} (h : s.hq.shut = 0) : runShutdown s = s := by simp [runShutdown, h]

/-- A round of the host side on a quiet controller. -/
theorem pumpOnce_quiet {s : State} (h : s.quiet) : RegsOnly quietRegs s (pumpOnce s) := by
  have hq := h
  obtain ⟨hm, hu, hs, hc⟩ := h
  have hx : xltRuns s = false := by simp [xltRuns, hm]
  have hj : RegsOnly quietRegs s (jrPump s) := by
    rw [jrPump_noUnits hu]
    exact syncJrnl_regsOnly s
  have hw : RegsOnly quietRegs s (if s.boot.warm ∨ s.boot.phase = .recovery then s else jrPump s) :=
    .ite (.refl _ s) hj
  have hp : pumpOnce s = syncStall (postReady (runShutdown (if s.boot.warm ∨ s.boot.phase = .recovery then s else jrPump s))) := by
    simp [pumpOnce, hc, hx]
  generalize (if s.boot.warm ∨ s.boot.phase = .recovery then s else jrPump s) = t at hw hp
  obtain ⟨-, -, hs', hc'⟩ := hw.quiet (by decide) hq
  rw [hp, runShutdown_noShut hs', postReady_noCtx hc']
  exact (hw.setFld (by decide) 16 14 0).trans ((syncStall_regsOnly _).mono (by simp))

/-- What waits on a quiet controller changes no register but those of `quietRegs`, and nothing else. -/
theorem pump_quiet {s : State} (h : s.quiet) : RegsOnly quietRegs s (pump s) := by
  have h1 := pumpOnce_quiet h
  have hn : ¬quietRegs (Reg.STAT pgXLT) := by decide
  have h2 := h1.trans (pumpOnce_quiet (h1.quiet hn h))
  exact h2.trans (pumpOnce_quiet (h2.quiet hn h))

/-! ## The link -/

theorem setLpm_regsOnly (s : State) (l c : Nat) : RegsOnly (· ∈ [Reg.PCIE_LINK]) s (setLpm s l c) :=
  ((RegsOnly.refl (· ∈ [Reg.PCIE_LINK]) s).setFld (by decide) 16 3 _).setFld (by decide) 8 6 _

theorem linkWake_regsOnly (s : State) : RegsOnly (· ∈ [Reg.PCIE_LINK]) s (linkWake s) := .ite (setLpm_regsOnly s 0 1) (.refl _ s)

/-- What is in force of the link but its power state: rate, width, and PERST# stay as the link's power state changes. -/
theorem fld_setLpm_low (s : State) (l c lo w : Nat) (h : lo + w ≤ 8) :
    (setLpm s l c).fld Reg.PCIE_LINK lo w = s.fld Reg.PCIE_LINK lo w := by
  unfold setLpm
  rw [State.fld_setFld_below _ _ _ _ _ _ _ (by omega) h, State.fld_setFld_below _ _ _ _ _ _ _ (by omega) (by omega)]

theorem bit_setLpm_high (s : State) (l c i : Nat) (h : 19 ≤ i) :
    (setLpm s l c).bit Reg.PCIE_LINK i = s.bit Reg.PCIE_LINK i := by
  unfold setLpm
  rw [State.bit_setFld_above _ _ _ _ _ _ (by omega) (by omega), State.bit_setFld_above _ _ _ _ _ _ (by omega) (by omega)]

theorem fld_setLpm_state (s : State) (l c : Nat) : (setLpm s l c).fld Reg.PCIE_LINK 16 3 = l % 8 := by
  unfold setLpm
  rw [State.fld_setFld_above _ _ _ _ _ _ _ (by omega) (by omega), State.fld_setFld_same _ _ _ _ _ (by omega)]
  rfl

theorem fld_linkWake_low (s : State) (lo w : Nat) (h : lo + w ≤ 8) :
    (linkWake s).fld Reg.PCIE_LINK lo w = s.fld Reg.PCIE_LINK lo w := by
  unfold linkWake
  dsimp only
  split
  · exact fld_setLpm_low s 0 1 lo w h
  · rfl

theorem bit_linkWake_high (s : State) (i : Nat) (h : 19 ≤ i) :
    (linkWake s).bit Reg.PCIE_LINK i = s.bit Reg.PCIE_LINK i := by
  unfold linkWake
  dsimp only
  split
  · exact bit_setLpm_high s 0 1 i h
  · rfl

/-! ## Traffic: what goes out to the host -/

/-- From `s` to `t` requests and messages may have gone out or given up: the link may have left its power-saving state, the
reads, what is held and what was sent may differ, and registers at addresses of `P`. -/
structure Traffic (P : Nat → Prop) (s t : State) : Prop where
  parts : ∃ r rs o h, t = { s with regs := r, pcie := { s.pcie with reads := rs, out := o, held := h } }
  reg : ∀ a, ¬P a → a ≠ Reg.PCIE_LINK → t.reg a = s.reg a
  low : ∀ lo w, lo + w ≤ 8 → t.fld Reg.PCIE_LINK lo w = s.fld Reg.PCIE_LINK lo w
  high : ∀ i, 19 ≤ i → t.bit Reg.PCIE_LINK i = s.bit Reg.PCIE_LINK i
  awake : s.fld Reg.PCIE_LINK 16 3 = 0 → t.fld Reg.PCIE_LINK 16 3 = 0

namespace Traffic

variable {P Q : Nat → Prop} {s t u : State}

theorem of_regsOnly (h : RegsOnly P s t) (hp : ¬P Reg.PCIE_LINK) : Traffic P s t where
  parts := by
    obtain ⟨⟨r, hr⟩, -⟩ := h
    exact ⟨r, s.pcie.reads, s.pcie.out, s.pcie.held, hr⟩
  reg a ha _ := h.reg ha
  low lo w _ := h.fld hp lo w
  high i _ := h.bit hp i
  awake h0 := (h.fld hp 16 3).trans h0

theorem refl (P : Nat → Prop) (s : State) : Traffic P s s where
  parts := ⟨_, _, _, _, rfl⟩
  reg _ _ _ := rfl
  low _ _ _ := rfl
  high _ _ := rfl
  awake h0 := h0

theorem trans (h : Traffic P s t) (h' : Traffic P t u) : Traffic P s u where
  parts := by
    obtain ⟨r, rs, o, l, hr⟩ := h.parts
    obtain ⟨r', rs', o', l', hr'⟩ := h'.parts
    exact ⟨r', rs', o', l', by rw [hr', hr]⟩
  reg a ha hl := (h'.reg a ha hl).trans (h.reg a ha hl)
  low lo w hw := (h'.low lo w hw).trans (h.low lo w hw)
  high i hi := (h'.high i hi).trans (h.high i hi)
  awake h0 := h'.awake (h.awake h0)

theorem mono (h : Traffic P s t) (hpq : ∀ a, P a → Q a) : Traffic Q s t :=
  { h with reg := fun a ha => h.reg a (fun hp => ha (hpq a hp)) }

theorem linkWake (P : Nat → Prop) (s : State) : Traffic P s (linkWake s) where
  parts := by
    obtain ⟨⟨r, hr⟩, -⟩ := linkWake_regsOnly s
    exact ⟨r, s.pcie.reads, s.pcie.out, s.pcie.held, hr⟩
  reg a _ hl := (linkWake_regsOnly s).reg (by simpa using hl)
  low lo w hw := fld_linkWake_low s lo w hw
  high i hi := bit_linkWake_high s i hi
  awake h0 := by
    unfold Machine.linkWake
    dsimp only
    rw [if_neg (by omega), h0]

/-- The lists of requests and messages change. -/
theorem setLists (P : Nat → Prop) (s : State) (rs : List HostReq) (o h : List Out) :
    Traffic P s (s.setPcie { s.pcie with reads := rs, out := o, held := h }) where
  parts := ⟨_, rs, o, h, rfl⟩
  reg _ _ _ := rfl
  low _ _ _ := rfl
  high _ _ := rfl
  awake h0 := h0

theorem foldl {α : Type} {f : State → α → State} {l : List α} (hf : ∀ s, ∀ a ∈ l, Traffic P s (f s a)) (s : State) :
    Traffic P s (l.foldl f s) := by
  induction l generalizing s with
  | nil => exact refl P s
  | cons a l ih => exact (hf s a (by simp)).trans (ih (fun s b hb => hf s b (by simp [hb])) _)

theorem fld (h : Traffic P s t) {a : Nat} (ha : ¬P a) (hl : a ≠ Reg.PCIE_LINK) (lo w : Nat) : t.fld a lo w = s.fld a lo w :=
  State.fld_of_reg _ _ _ _ _ _ (h.reg a ha hl)
theorem bit (h : Traffic P s t) {a : Nat} (ha : ¬P a) (hl : a ≠ Reg.PCIE_LINK) (i : Nat) : t.bit a i = s.bit a i :=
  State.bit_of_reg _ _ _ _ _ (h.reg a ha hl)

theorem variant (h : Traffic P s t) : t.variant = s.variant := by obtain ⟨r, rs, o, l, hr⟩ := h.parts; rw [hr]
theorem boot (h : Traffic P s t) : t.boot = s.boot := by obtain ⟨r, rs, o, l, hr⟩ := h.parts; rw [hr]
theorem hq (h : Traffic P s t) : t.hq = s.hq := by obtain ⟨r, rs, o, l, hr⟩ := h.parts; rw [hr]
theorem xlt (h : Traffic P s t) : t.xlt = s.xlt := by obtain ⟨r, rs, o, l, hr⟩ := h.parts; rw [hr]
theorem policy (h : Traffic P s t) : t.pcie.policy = s.pcie.policy := by obtain ⟨r, rs, o, l, hr⟩ := h.parts; rw [hr]

theorem quiet (h : Traffic P s t) (hp : ¬P (Reg.STAT pgXLT)) (hq : s.quiet) : t.quiet := by
  obtain ⟨hm, hu, hs, hc⟩ := hq
  exact ⟨(h.bit hp (by decide) 8).trans hm, h.xlt ▸ hu, h.hq ▸ hs, h.hq ▸ hc⟩

/-- Traffic leaves as it is whether Linnath may issue. -/
theorem mayIssue (h : Traffic P s t) (hc : ¬P (cfgReg 0x04)) (hd : ¬P (cfgReg 0x44)) (hf : ¬P Reg.PCIE_FLR) :
    mayIssue t = mayIssue s := by
  simp only [Machine.mayIssue, busMaster, inD3, h.low 0 3 (by omega), h.high 24 (by omega), h.boot, h.bit hc (by decide),
    h.fld hd (by decide), h.fld hf (by decide)]

end Traffic

/-- The counts of requests outstanding. -/
abbrev dmaCounts (a : Nat) : Prop := a ∈ [Reg.PCIE_TAGS, Reg.DMA_STAT]

theorem syncDma_regsOnly (s : State) : RegsOnly dmaCounts s (syncDma s) :=
  (((RegsOnly.refl dmaCounts s).setFld (by decide) 0 10 _).setFld (by decide) 16 10 _).setFld (by decide) 0 10 _

theorem issueAll_traffic (P : Nat → Prop) (n : Nat) (s : State) : Traffic P s (issueAll n s) := by
  induction n generalizing s with
  | zero => exact .refl P s
  | succ n ih =>
    simp only [issueAll]
    split
    · exact .refl P s
    · split
      · exact ((Traffic.setLists P s _ s.pcie.out s.pcie.held).trans (.linkWake P _)).trans (ih _)
      · exact .refl P s

theorem issueReads_traffic (s : State) : Traffic dmaCounts s (issueReads s) :=
  (issueAll_traffic dmaCounts _ s).trans (.of_regsOnly (syncDma_regsOnly _) (by decide))

theorem emitOut_traffic (P : Nat → Prop) (s : State) (o : Out) : Traffic P s (emitOut s o) :=
  (Traffic.linkWake P s).trans (.setLists P _ (linkWake s).pcie.reads _ (linkWake s).pcie.held)

/-- The pending bits of the MSI-X table (R324, R335). -/
def msixPending (a : Nat) : Prop := ∃ k, k < 3 ∧ a = bar0 (0x3000 + 4 * k)

theorem sendMsix_traffic (s : State) {v : Nat} (hv : v < 65) : Traffic msixPending s (sendMsix s v) := by
  have ha : msixPending (bar0 (0x3000 + 4 * (v / 32))) := ⟨v / 32, by omega, rfl⟩
  have hl : ¬msixPending Reg.PCIE_LINK := by rintro ⟨k, hk, h⟩; simp only [bar0, Reg.PCIE_LINK] at h; omega
  have hb : ∀ b, Traffic msixPending s (s.setBit (bar0 (0x3000 + 4 * (v / 32))) (v % 32) b) :=
    fun b => .of_regsOnly ((RegsOnly.refl msixPending s).setBit ha _ b) hl
  unfold sendMsix
  dsimp only
  split
  · exact .refl _ s
  · split
    · exact (hb false).trans (emitOut_traffic _ _ _)
    · exact hb true

theorem sendPendingMsix_traffic (s : State) : Traffic msixPending s (sendPendingMsix s) := by
  refine Traffic.foldl (fun s v hv => ?_) s
  split
  · exact sendMsix_traffic s (List.mem_range.mp hv)
  · exact .refl _ s

/-! ## What is held while nothing may be issued (R324) -/

theorem emitOut_held (s : State) (o : Out) : (emitOut s o).pcie.held = s.pcie.held :=
  (congrArg Pcie.held (linkWake_regsOnly s).pcie :)

theorem sendMsix_held (s : State) (v : Nat) : (sendMsix s v).pcie.held = s.pcie.held := by
  unfold sendMsix
  dsimp only
  split
  · rfl
  · split
    · exact emitOut_held _ _
    · rfl

theorem sendPendingMsix_held (s : State) : (sendPendingMsix s).pcie.held = s.pcie.held := by
  refine keep_foldl (g := fun s => s.pcie.held) (fun s v => ?_) _ rfl
  split
  · exact sendMsix_held s v
  · rfl

/-- The registers that change as what was held goes out. -/
def releaseRegs (a : Nat) : Prop :=
  a ∈ [Reg.PCIE_TAGS, Reg.DMA_STAT, Reg.STAT pgDMA, Reg.DMA_REISSUE] ∨ msixPending a ∨ quietRegs a

theorem not_releaseRegs {a : Nat} (h1 : a ∉ [Reg.PCIE_TAGS, Reg.DMA_STAT, Reg.STAT pgDMA, Reg.DMA_REISSUE])
    (h2 : a < bar0 0 ∨ bar0 0x3010 ≤ a) (h3 : ¬quietRegs a) : ¬releaseRegs a := by
  rintro (h | ⟨k, hk, rfl⟩ | h)
  · exact h1 h
  · simp only [bar0] at h2; omega
  · exact h3 h

theorem issueReads_heldBit (s : State) : (issueReads s).bit Reg.DMA_STAT 16 = s.bit Reg.DMA_STAT 16 := by
  unfold issueReads syncDma
  dsimp only
  rw [State.bit_setFld_above _ _ _ _ _ _ (by omega) (by omega), State.bit_setFld_ne _ _ _ _ _ _ _ (by decide),
    State.bit_setFld_ne _ _ _ _ _ _ _ (by decide)]
  exact (issueAll_traffic (fun _ => False) _ s).bit (by simp) (by decide) 16

/-- Nothing is held any longer, and the reads to issue again are counted. -/
def released (s : State) : State :=
  ((s.setBit Reg.DMA_STAT 16 false).setBit (Reg.STAT pgDMA) 8 false).addSat Reg.DMA_REISSUE 0 16
    (s.pcie.reads.filter (fun r => r.marked && r.tag.isNone)).length

/-- What was held goes out. -/
def sendHeld (s : State) : State := s.pcie.held.foldl emitOut (s.setPcie { s.pcie with held := [] })

/-- Linnath issues again: reads, then what was held, then interrupts. -/
def resumed (s : State) : State := sendPendingMsix (sendHeld (issueReads (released s)))

theorem releaseHost_eq (s : State) : releaseHost s = if mayIssue s then pump (resumed s) else s := by
  unfold releaseHost resumed sendHeld released
  cases mayIssue s <;> simp only [Bool.not_false, Bool.not_true, Bool.false_eq_true, if_true, if_false]

theorem sendHeld_traffic (P : Nat → Prop) (s : State) : Traffic P s (sendHeld s) :=
  (Traffic.setLists P s s.pcie.reads s.pcie.out []).trans (.foldl (fun _ _ _ => emitOut_traffic _ _ _) _)

theorem sendHeld_held (s : State) : (sendHeld s).pcie.held = [] :=
  keep_foldl (g := fun s => s.pcie.held) emitOut_held _ rfl

theorem resumed_traffic (s : State) : Traffic releaseRegs s (resumed s) := by
  have h : RegsOnly releaseRegs s (released s) :=
    (((RegsOnly.refl releaseRegs s).setBit (.inl (by decide)) 16 _).setBit (.inl (by decide)) 8 _).addSat (.inl (by decide)) 0 16 _
  have hread : Traffic releaseRegs (released s) (issueReads (released s)) :=
    (issueReads_traffic _).mono (fun a ha => .inl (by simp only [List.mem_cons] at ha ⊢; tauto))
  have hmsix : Traffic releaseRegs (sendHeld (issueReads (released s))) (resumed s) :=
    (sendPendingMsix_traffic _).mono (fun a ha => .inr (.inl ha))
  exact (((Traffic.of_regsOnly h (not_releaseRegs (by decide) (by decide) (by decide))).trans hread).trans
    (sendHeld_traffic _ _)).trans hmsix

theorem resumed_held (s : State) : (resumed s).pcie.held = [] := (sendPendingMsix_held _).trans (sendHeld_held _)

theorem resumed_heldBit (s : State) : (resumed s).bit Reg.DMA_STAT 16 = false := by
  have hm : ¬msixPending Reg.DMA_STAT := by rintro ⟨k, hk, h⟩; simp only [bar0, Reg.DMA_STAT] at h; omega
  calc (resumed s).bit Reg.DMA_STAT 16
      = (sendHeld (issueReads (released s))).bit Reg.DMA_STAT 16 := (sendPendingMsix_traffic _).bit hm (by decide) 16
    _ = (issueReads (released s)).bit Reg.DMA_STAT 16 := (sendHeld_traffic msixPending _).bit hm (by decide) 16
    _ = (released s).bit Reg.DMA_STAT 16 := issueReads_heldBit _
    _ = false := by
      unfold released
      rw [State.bit_addSat_ne _ _ _ _ _ _ _ (by decide), State.bit_setBit_ne _ _ _ _ _ _ (by decide),
        State.bit_setBit_same _ _ _ _ (by omega)]

/-- Linnath begins to issue again on a quiet controller: nothing is held any longer (R324). -/
theorem releaseHost_traffic {s : State} (h : s.quiet) : Traffic releaseRegs s (releaseHost s) := by
  rw [releaseHost_eq]
  split
  · have hq := (resumed_traffic s).quiet (not_releaseRegs (by decide) (by decide) (by decide)) h
    exact (resumed_traffic s).trans
      (.of_regsOnly ((pump_quiet hq).mono (fun a ha => .inr (.inr ha))) (not_releaseRegs (by decide) (by decide) (by decide)))
  · exact .refl _ s

theorem releaseHost_done {s : State} (h : s.quiet) (hm : mayIssue s = true) :
    (releaseHost s).pcie.held = [] ∧ (releaseHost s).bit Reg.DMA_STAT 16 = false := by
  have hq := pump_quiet ((resumed_traffic s).quiet (not_releaseRegs (by decide) (by decide) (by decide)) h)
  rw [releaseHost_eq, if_pos hm, hq.pcie, hq.bit (by decide)]
  exact ⟨resumed_held s, resumed_heldBit s⟩

/-! ## What a loss of the link or the function ends (R9, R325 to R327) -/

/-- `t` is `s` but for the host queues, the link's own state and registers at addresses of `P`. -/
structure HostOnly (P : Nat → Prop) (s t : State) : Prop where
  parts : ∃ r q p, t = { s with regs := r, hq := q, pcie := p }
  reg : ∀ a, ¬P a → t.reg a = s.reg a

namespace HostOnly

variable {P Q : Nat → Prop} {s t u : State}

theorem of_regsOnly (h : RegsOnly P s t) : HostOnly P s t where
  parts := by obtain ⟨⟨r, hr⟩, -⟩ := h; exact ⟨r, s.hq, s.pcie, hr⟩
  reg _ ha := h.reg ha

theorem setHq (P : Nat → Prop) (s : State) (q : HostQueues) : HostOnly P s (s.setHq q) := ⟨⟨_, q, _, rfl⟩, fun _ _ => rfl⟩
theorem setPcie (P : Nat → Prop) (s : State) (p : Pcie) : HostOnly P s (s.setPcie p) := ⟨⟨_, _, p, rfl⟩, fun _ _ => rfl⟩

theorem trans (h : HostOnly P s t) (h' : HostOnly P t u) : HostOnly P s u where
  parts := by
    obtain ⟨r, q, p, hr⟩ := h.parts
    obtain ⟨r', q', p', hr'⟩ := h'.parts
    exact ⟨r', q', p', by rw [hr', hr]⟩
  reg a ha := (h'.reg a ha).trans (h.reg a ha)

theorem mono (h : HostOnly P s t) (hpq : ∀ a, P a → Q a) : HostOnly Q s t := ⟨h.parts, fun a ha => h.reg a (fun hp => ha (hpq a hp))⟩

theorem fld (h : HostOnly P s t) {a : Nat} (ha : ¬P a) (lo w : Nat) : t.fld a lo w = s.fld a lo w :=
  State.fld_of_reg _ _ _ _ _ _ (h.reg a ha)
theorem bit (h : HostOnly P s t) {a : Nat} (ha : ¬P a) (i : Nat) : t.bit a i = s.bit a i :=
  State.bit_of_reg _ _ _ _ _ (h.reg a ha)
theorem variant (h : HostOnly P s t) : t.variant = s.variant := by obtain ⟨r, q, p, hr⟩ := h.parts; rw [hr]
theorem xlt (h : HostOnly P s t) : t.xlt = s.xlt := by obtain ⟨r, q, p, hr⟩ := h.parts; rw [hr]

/-- A controller that holds no command and does not shut down is quiet where it was. -/
theorem quiet (h : HostOnly P s t) (hp : ¬P (Reg.STAT pgXLT)) (hc : t.hq.ctx = []) (hs : t.hq.shut = 0) (hq : s.quiet) :
    t.quiet := ⟨(h.bit hp 8).trans hq.1, h.xlt ▸ hq.2.1, hs, hc⟩

end HostOnly

/-- The counts of the contexts and of the requests outstanding. -/
abbrev contextRegs (a : Nat) : Prop := a ∈ [Reg.HQ_CTX, Reg.HQ_CTXPK, Reg.HQ_STALL, Reg.PCIE_TAGS, Reg.DMA_STAT]

theorem syncCtx_regsOnly (s : State) : RegsOnly contextRegs s (syncCtx s) := by
  have h : RegsOnly contextRegs s (s.setFld Reg.HQ_CTX 0 14 s.hq.ctx.length) := (RegsOnly.refl _ s).setFld (by decide) 0 14 _
  exact (RegsOnly.ite (h.setFld (by decide) 0 14 _) h).setBit (by decide) 0 _

/-- Commands that are abandoned where there are none. -/
theorem abandonAll_noCtx {s : State} (h : s.hq.ctx = []) :
    abandonAll s = syncCtx ((s.setHq { s.hq with ctx := [], grants := [], credits := [0, 0, 0] }).setFld Reg.HQ_CTX 16 14 0) := by
  have hd : dropCtx s (fun _ => false) = s.setHq { s.hq with ctx := [] } := by simp [dropCtx, idle, h]
  simp only [abandonAll, h, List.foldl_nil, hd]
  rfl

theorem abandonHost_noCtx {s : State} (h : s.hq.ctx = []) : HostOnly contextRegs s (abandonHost s) ∧
    (abandonHost s).hq.ctx = [] ∧ (abandonHost s).hq.shut = s.hq.shut ∧
    (abandonHost s).pcie = { s.pcie with reads := s.pcie.reads.filter (fun r => r.tag.isSome), held := [] } := by
  have hctx := syncCtx_regsOnly ((s.setHq { s.hq with ctx := [], grants := [], credits := [0, 0, 0] }).setFld Reg.HQ_CTX 16 14 0)
  have hset : RegsOnly contextRegs (s.setHq { s.hq with ctx := [], grants := [], credits := [0, 0, 0] })
      ((s.setHq { s.hq with ctx := [], grants := [], credits := [0, 0, 0] }).setFld Reg.HQ_CTX 16 14 0) :=
    (RegsOnly.refl _ _).setFld (by decide) 16 14 0
  have hall := hset.trans hctx
  rw [← abandonAll_noCtx h] at hall
  have hdma := syncDma_regsOnly ((abandonAll s).setPcie { (abandonAll s).pcie with
    reads := (abandonAll s).pcie.reads.filter (fun r => r.tag.isSome), held := [] })
  have hdma : RegsOnly contextRegs _ (abandonHost s) := hdma.mono (fun a ha => by simp only [List.mem_cons] at ha ⊢; tauto)
  refine ⟨(((HostOnly.setHq _ s _).trans (.of_regsOnly hall)).trans (.setPcie _ _ _)).trans (.of_regsOnly hdma), ?_, ?_, ?_⟩
  · rw [hdma.hq, State.setPcie_hq, hall.hq, State.setHq_hq]
  · rw [hdma.hq, State.setPcie_hq, hall.hq, State.setHq_hq]
  · rw [hdma.pcie, State.setPcie_pcie, hall.pcie, State.setHq_pcie]

/-- The registers of the queues. -/
def queueRegs (a : Nat) : Prop := a = Reg.HQ_AE ∨ (Reg.HQ_SQPTR 0 ≤ a ∧ a ≤ Reg.HQ_QCFG 64)

theorem dropRegs_regsOnly (s : State) (p : Nat → Bool) : RegsOnly (fun a => p a = true) s (s.dropRegs p) :=
  ⟨⟨_, rfl⟩, fun a ha => by rw [State.reg_dropRegs, if_neg ha]⟩

theorem clearQueues_hostOnly (s : State) : HostOnly queueRegs s (clearQueues s) := by
  refine ((HostOnly.setHq _ s _).trans (.of_regsOnly ((dropRegs_regsOnly _ _).mono fun a ha => ?_))).trans
    (.of_regsOnly ((RegsOnly.refl queueRegs _).setReg (.inl rfl) _))
  simp only [Bool.or_eq_true, Bool.and_eq_true, decide_eq_true_eq, Reg.HQ_SQPTR, Reg.HQ_CQPTR, Reg.HQ_QCFG] at ha
  exact .inr (by simp only [Reg.HQ_SQPTR, Reg.HQ_QCFG]; omega)

/-- The registers of a function reset (R325). -/
def functionRegs (a : Nat) : Prop :=
  queueRegs a ∨ 0x100000000 ≤ a ∨
    a ∈ [Reg.STAT pgPCIE, Reg.PCIE_CTO, Reg.DMA_STAT, Reg.STAT pgDMA, Reg.PCIE_B2, Reg.HQ_STALL]

theorem not_functionRegs {a : Nat} (h1 : a ≠ Reg.HQ_AE) (h2 : a < Reg.HQ_SQPTR 0 ∨ Reg.HQ_QCFG 64 < a) (h3 : a < 0x100000000)
    (h4 : a ∉ [Reg.STAT pgPCIE, Reg.PCIE_CTO, Reg.DMA_STAT, Reg.STAT pgDMA, Reg.PCIE_B2, Reg.HQ_STALL]) : ¬functionRegs a := by
  rintro ((h | h) | h | h)
  · exact h1 h
  · omega
  · omega
  · exact h4 h

/-- The registers that a function reset puts back. -/
def functionDrops (a : Nat) : Bool :=
  (decide (0x100000000 ≤ a) && decide (a < 0x200000000)) ||
    (decide (0x200000000 ≤ a) && decide (a < 0x300000000) && !cfgKept a)

/-- A function reset, from the queues on, before the unlock ends. -/
def functionCleared (s : State) : State :=
  let s := (((clearQueues s).dropRegs functionDrops).setBit (Reg.STAT pgPCIE) 9 false).setReg Reg.PCIE_CTO 50000#32
  (s.setBit Reg.DMA_STAT 16 false).setBit (Reg.STAT pgDMA) 8 false

theorem functionReset_eq (s : State) : functionReset s = syncStall (unlkEnds (functionCleared s)) := rfl

theorem functionCleared_regsOnly (s : State) : RegsOnly functionRegs (clearQueues s) (functionCleared s) := by
  have h : RegsOnly functionRegs (clearQueues s) ((clearQueues s).dropRegs functionDrops) := by
    refine (dropRegs_regsOnly _ _).mono (fun a ha => ?_)
    simp only [functionDrops, Bool.or_eq_true, Bool.and_eq_true, decide_eq_true_eq] at ha
    exact .inr (.inl (by omega))
  exact (((h.setBit (.inr (.inr (by decide))) 9 _).setReg (.inr (.inr (by decide))) _).setBit (.inr (.inr (by decide))) 16 _).setBit
    (.inr (.inr (by decide))) 8 _

theorem setUnlk_regsOnly (s : State) (n : Nat) : RegsOnly functionRegs s (setUnlk s n) :=
  ((RegsOnly.refl functionRegs s).setFld (.inr (.inl (by decide))) 0 2 n).setFld (.inr (.inr (by decide))) 0 2 n

theorem functionReset_hostOnly (s : State) : HostOnly functionRegs s (functionReset s) := by
  rw [functionReset_eq]
  exact (((((clearQueues_hostOnly s).mono (fun a ha => .inl ha)).trans (.of_regsOnly (functionCleared_regsOnly s))).trans
    (.of_regsOnly (setUnlk_regsOnly _ 0))).trans (.setPcie _ _ _)).trans
    (.of_regsOnly ((syncStall_regsOnly _).mono (fun a ha => .inr (.inr (by simp only [List.mem_cons] at ha ⊢; tauto)))))

theorem functionReset_hq (s : State) :
    (functionReset s).hq.sqs = [] ∧ (functionReset s).hq.shut = 0 ∧ (functionReset s).hq.ctx = s.hq.ctx := ⟨rfl, rfl, rfl⟩

theorem functionReset_pcie (s : State) : (functionReset s).pcie = { s.pcie with unlk := none, unlkEnd := 0 } := rfl

/-- The unlock has ended (R318). -/
theorem functionReset_unlkState (s : State) : unlkState (functionReset s) = 0 := by
  have h : (setUnlk (functionCleared s) 0).fld (mbx 0x24) 0 2 = 0 := by
    unfold setUnlk
    rw [State.fld_setFld_ne _ _ _ _ _ _ _ _ (by decide), State.fld_setFld_same _ _ _ _ _ (by omega)]
    rfl
  rw [functionReset_eq]
  unfold unlkState
  rw [(syncStall_regsOnly _).fld (by decide), unlkEnds, State.setPcie_fld, h]

/-- Bus Master Enable is clear again (R325). -/
theorem functionReset_busMaster (s : State) : busMaster (functionReset s) = false := by
  have h : (functionCleared s).reg (cfgReg 0x04) = regReset s.variant (cfgReg 0x04) := by
    unfold functionCleared
    dsimp only
    rw [State.reg_setBit_ne _ _ _ _ _ (by decide), State.reg_setBit_ne _ _ _ _ _ (by decide), State.reg_setReg_ne _ _ _ _ (by decide),
      State.reg_setBit_ne _ _ _ _ _ (by decide), State.reg_dropRegs, if_pos (by decide), (clearQueues_hostOnly s).variant]
  have hu : (setUnlk (functionCleared s) 0).reg (cfgReg 0x04) = (functionCleared s).reg (cfgReg 0x04) := by
    unfold setUnlk
    rw [State.reg_setFld_ne _ _ _ _ _ _ (by decide), State.reg_setFld_ne _ _ _ _ _ _ (by decide)]
  have hb : ∀ v, (fieldOf (regReset v (cfgReg 0x04)) 2 1 == 1) = false := by intro v; cases v <;> decide
  rw [functionReset_eq]
  unfold busMaster
  rw [(syncStall_regsOnly _).bit (by decide), unlkEnds, State.setPcie_bit]
  unfold State.bit State.fld
  rw [hu, h, hb]

end Sys2Proof.Machine
end

section
/-! What accesses of SRAM and of registers leave alone (R415 to R421, R430 to R435, R497). -/
namespace Sys2Proof.Machine

/-! ## Accesses of SRAM -/

/-- `t` is `s` but for SRAM, what MEMC and L2 keep, the reports to EVR, and registers at addresses of `P`. -/
structure MemOnly (P : Nat → Prop) (s t : State) : Prop where
  parts : ∃ r m x e, t = { s with regs := r, mem := m, ms := x, evr := e }
  reg : ∀ a, ¬P a → t.reg a = s.reg a

namespace MemOnly

variable {P Q : Nat → Prop} {s t u : State}

theorem refl (P : Nat → Prop) (s : State) : MemOnly P s s := ⟨⟨_, _, _, _, rfl⟩, fun _ _ => rfl⟩

theorem trans (h : MemOnly P s t) (h' : MemOnly P t u) : MemOnly P s u where
  parts := by
    obtain ⟨r, m, x, e, hr⟩ := h.parts
    obtain ⟨r', m', x', e', hr'⟩ := h'.parts
    exact ⟨r', m', x', e', by rw [hr', hr]⟩
  reg a ha := (h'.reg a ha).trans (h.reg a ha)

theorem mono (h : MemOnly P s t) (hpq : ∀ a, P a → Q a) : MemOnly Q s t := ⟨h.parts, fun a ha => h.reg a (fun hp => ha (hpq a hp))⟩

theorem ite {c : Prop} [Decidable c] (h : MemOnly P s t) (h' : MemOnly P s u) : MemOnly P s (if c then t else u) := by
  split <;> assumption

theorem setReg (h : MemOnly P s t) {a : Nat} (ha : P a) (w : Word) : MemOnly P s (t.setReg a w) :=
  h.trans ⟨⟨_, _, _, _, rfl⟩, fun b hb => State.reg_setReg_ne t a b w (by rintro rfl; exact hb ha)⟩
theorem setFld (h : MemOnly P s t) {a : Nat} (ha : P a) (lo w v : Nat) : MemOnly P s (t.setFld a lo w v) := h.setReg ha _
theorem setBit (h : MemOnly P s t) {a : Nat} (ha : P a) (i : Nat) (b : Bool) : MemOnly P s (t.setBit a i b) := h.setReg ha _
theorem addSat (h : MemOnly P s t) {a : Nat} (ha : P a) (lo w n : Nat) : MemOnly P s (t.addSat a lo w n) := h.setReg ha _

theorem err (h : MemOnly P s t) {p : Nat} (hp : P (Reg.ERR_INFO p)) (c m : Nat) : MemOnly P s (t.err p c m) := by
  refine h.trans ⟨?_, fun b hb => State.reg_err_ne t p c m b (fun he => hb (he ▸ hp))⟩
  obtain ⟨a, w, he⟩ := t.err_eq p c m
  exact ⟨_, _, _, _, he⟩

theorem raise (h : MemOnly P s t) {p : Nat} (h1 : P (Reg.IRQ_RAW p)) (h2 : P (Reg.IRQ_STAT p)) (i : Nat) :
    MemOnly P s (t.raise p i) :=
  (h.setReg h1 _).setReg h2 _

theorem report (h : MemOnly P s t) (p c m : Nat) (q : List Nat) : MemOnly P s (t.report p c m q) :=
  h.trans ⟨⟨_, _, _, _, rfl⟩, fun a _ => State.reg_report t p c m q a⟩

theorem setMs (h : MemOnly P s t) (x : MemSys) : MemOnly P s { t with ms := x } := h.trans ⟨⟨_, _, _, _, rfl⟩, fun _ _ => rfl⟩

theorem setBytes (h : MemOnly P s t) (a : Nat) (l : List Nat) : MemOnly P s (t.setBytes a l) := by
  refine h.trans ⟨?_, fun b _ => State.reg_setBytes t a l b⟩
  induction l generalizing t a with
  | nil => exact ⟨_, _, _, _, rfl⟩
  | cons b l ih =>
    obtain ⟨r, m, x, e, hr⟩ := ih (h.trans ⟨⟨_, _, _, _, rfl⟩, fun c _ => State.reg_setByte t a _ c⟩) (a + 1)
    exact ⟨r, m, x, e, hr⟩

end MemOnly

/-- The pages of MEMC and of the access tables. -/
abbrev memRegs (a : Nat) : Prop := (0x4001C000 ≤ a ∧ a < 0x4001D000) ∨ (0x4001E000 ≤ a ∧ a < 0x4001F000)

theorem aclRefuse_memOnly (s : State) (m : Master) (a target : Nat) (x : AccKind) : MemOnly memRegs s (aclRefuse s m a target x) := by
  have hi : s.fld Reg.ACL_LOGIDX 0 3 < 8 := fieldOf_lt _ _ _
  have h := ((MemOnly.refl memRegs s).err (p := 0x1E) (.inr (by decide)) 0x1A02 m.id).raise (p := 0x1E) (.inr (by decide)) (.inr (by decide)) 0
  have h := (h.setReg (a := Reg.ACL_LOG_ADDR (s.fld Reg.ACL_LOGIDX 0 3)) (.inr (by simp only [Reg.ACL_LOG_ADDR]; omega)) (Word.ofNat a)).setReg
    (a := Reg.ACL_LOG_SRC (s.fld Reg.ACL_LOGIDX 0 3)) (.inr (by simp only [Reg.ACL_LOG_SRC]; omega)) (Word.ofNat (m.id + target * 16 + x.code * 64))
  have h := (h.setFld (a := Reg.ACL_LOGIDX) (.inr (by decide)) 0 3 (s.fld Reg.ACL_LOGIDX 0 3 + 1)).addSat (a := Reg.ACL_CNT) (.inr (by decide)) 0 16 1
  exact .ite ((h.report 0x1E 0x1A02 m.id []).setMs _) h

theorem failMacro_memOnly (s : State) (k : Nat) : MemOnly memRegs s (failMacro s k) :=
  ((((MemOnly.refl memRegs s).setBit (.inl (by decide)) k true).raise (.inl (by decide)) (.inl (by decide)) 2).err
    (.inl (by decide)) 0x1803 k).report 0x1C 0x1803 k []

theorem noteUe_memOnly (s : State) (m : Master) (w : Nat) : MemOnly memRegs s (noteUe s m w) := by
  have h := (((MemOnly.refl memRegs s).setReg (a := Reg.MEMC_ERRADDR) (.inl (by decide)) (Word.ofNat w)).setReg
    (a := Reg.MEMC_ERRSRC) (.inl (by decide)) (Word.ofNat m.id)).addSat (a := Reg.MEMC_UECNT) (.inl (by decide)) 0 16 1
  have h := ((h.raise (p := 0x1C) (.inl (by decide)) (.inl (by decide)) 1).err (p := 0x1C) (.inl (by decide)) 0x1802 m.id).report 0x1C 0x1802 m.id []
  exact .ite ((h.setMs _).trans (failMacro_memOnly _ _)) (h.setMs _)

theorem correctWord_memOnly (s : State) (w : Nat) : MemOnly memRegs s (correctWord s w) := by
  have h := ((MemOnly.refl memRegs s).addSat (a := Reg.MEMC_CECNT) (.inl (by decide)) 0 16 1).raise (p := 0x1C) (.inl (by decide)) (.inl (by decide)) 0
  exact .ite (h.setMs _) h

theorem pageRepair_memOnly (s : State) (p : Nat → Bool) :
    MemOnly memRegs s (dropUe ((s.addSat Reg.MEMC_CECNT 16 16 1).raise 0x1C 0) p) :=
  (((MemOnly.refl memRegs s).addSat (.inl (by decide)) 16 16 1).raise (.inl (by decide)) (.inl (by decide)) 0).setMs _

theorem readWord_memOnly (s : State) (m : Master) (w : Nat) : MemOnly memRegs s (readWord s m w).2 := by
  unfold readWord
  split
  · split
    · split
      · exact noteUe_memOnly s m _
      · exact .refl _ s
    · exact .refl _ s
  · split
    · split
      · split
        · exact ((MemOnly.refl memRegs s).setBytes _ _).setMs _
        · split
          · exact pageRepair_memOnly s (fun x => x / 4096 == w / 4096)
          · exact noteUe_memOnly s m w
      · split
        · exact pageRepair_memOnly s (fun x => x / 4096 == w / 4096)
        · exact noteUe_memOnly s m w
    · split
      · exact correctWord_memOnly s w
      · exact .refl _ s

theorem readWords_memOnly (m : Master) (l : List Nat) (s : State) : MemOnly memRegs s (readWords m l s).2 := by
  induction l generalizing s with
  | nil => exact .refl _ s
  | cons w l ih =>
    rw [readWords]
    exact (readWord_memOnly s m w).trans (ih _)

theorem memRead_memOnly (s : State) (m : Master) (a n : Nat) : MemOnly memRegs s (memRead s m a n).2.2 := by
  by_cases h : (!sramGrants s m a .read) = true
  · rw [memRead, if_pos h]
    exact aclRefuse_memOnly s m a 0 .read
  · rw [memRead, if_neg h]
    exact readWords_memOnly m _ s

theorem injectAt_memOnly (s : State) (w : Nat) : MemOnly memRegs s (injectAt s w) := by
  have h := (MemOnly.refl memRegs s).setBit (a := Reg.MEMC_INJ) (.inl (by decide)) 16 false
  unfold injectAt
  split
  · dsimp only
    split
    · exact h
    · exact h.setMs _
    · exact h.setMs _
  · exact .refl _ s

theorem writeWordCopy_memOnly (s : State) (m : Master) (a : Nat) (bs : List Nat) : MemOnly memRegs s (writeWordCopy s m a bs) := by
  unfold writeWordCopy
  dsimp only
  split
  · exact .refl _ s
  · split
    · exact ((((MemOnly.refl memRegs s).setBytes a bs).setMs _).setMs _).trans (injectAt_memOnly _ _)
    · split
      · exact readWord_memOnly s m _
      · exact (((readWord_memOnly s m _).setBytes a bs).setMs _).trans (injectAt_memOnly _ _)

theorem writeWord_memOnly (s : State) (m : Master) (a : Nat) (bs : List Nat) : MemOnly memRegs s (writeWord s m a bs) := by
  unfold writeWord
  split
  · exact (MemOnly.refl memRegs s).err (.inl (by decide)) 0x1804 m.id
  · split
    · exact (writeWordCopy_memOnly s m a bs).trans (writeWordCopy_memOnly _ m _ bs)
    · exact writeWordCopy_memOnly s m a bs

theorem writeWords_memOnly (m : Master) (n a : Nat) (bs : List Nat) (s : State) : MemOnly memRegs s (writeWords m n a bs s) := by
  induction n generalizing a bs s with
  | zero => exact .refl _ s
  | succ n ih => exact .ite (.refl _ s) ((writeWord_memOnly s m a _).trans (ih _ _ _))

theorem memWrite_memOnly (s : State) (m : Master) (a : Nat) (bs : List Nat) : MemOnly memRegs s (memWrite s m a bs) :=
  .ite (aclRefuse_memOnly s m a 0 .write) (writeWords_memOnly m _ a bs s)

/-! ## Lines of L2 -/

theorem writeBackWords_memOnly (l : L2Line) (is : List Nat) (s : State) : MemOnly memRegs s (writeBackWords l is s) := by
  induction is generalizing s with
  | nil => exact .refl _ s
  | cons i is ih =>
    exact ((writeWord_memOnly s .sup _ _).trans (.ite ((MemOnly.refl _ _).setMs _) (.refl _ _))).trans (ih _)

theorem l2Clean_memOnly (s : State) (l : L2Line) : MemOnly memRegs s (l2Clean s l) :=
  .ite ((writeBackWords_memOnly l _ s).setMs _) (.refl _ s)

theorem l2Flush_memOnly (s : State) : MemOnly memRegs s (l2Flush s) := by
  have h : ∀ (ls : List L2Line) (u : State), MemOnly memRegs u (ls.foldl l2Clean u) := by
    intro ls
    induction ls with
    | nil => exact fun u => .refl _ u
    | cons l ls ih => exact fun u => (l2Clean_memOnly u l).trans (ih _)
  exact (h _ s).setMs _

end Sys2Proof.Machine
end

section
/-! The events of the link (R324 to R330): what each leaves in force. -/
namespace Sys2Proof.Machine

/-! ## What a command's next state shows of the link -/

theorem State.settled_self {s : State} (h : s.wf = true) : s.settled s = s := State.tidy_of_wf s h

/-- A command without effect answers the state it ran on. -/
theorem runs_unchanged {c : Instr} {s x : State} (hw : s.wf = true) (h : exec c s = done s x) (hx : x = s) :
    Runs c s fun t => t = s := runs_of_done x h (by rw [hx, State.settled_self hw])

@[simp] theorem busMaster_settled (s t : State) : busMaster (s.settled t) = busMaster t := State.settled_bit_plain s t _ 2 (by decide)
@[simp] theorem inD3_settled (s t : State) : inD3 (s.settled t) = inD3 t :=
  congrArg (· == 3) (State.settled_fld_plain s t _ 0 2 (by decide))
@[simp] theorem unlkState_settled (s t : State) : unlkState (s.settled t) = unlkState t := State.settled_fld_plain s t _ 0 2 (by decide)
@[simp] theorem tagsOut_settled (s t : State) : tagsOut (s.settled t) = tagsOut t := rfl
@[simp] theorem mayIssue_settled (s t : State) : mayIssue (s.settled t) = mayIssue t := by
  simp (disch := decide) only [mayIssue, busMaster_settled, inD3_settled, State.settled_fld_plain, State.settled_bit_plain,
    State.settled_boot]

/-- A register of the configuration space after a command is what the command's effect leaves in it. -/
theorem cfgReg_settled (s t : State) (w : Nat) (hv : t.variant = s.variant) :
    (s.settled t).reg (cfgReg w) = t.reg (cfgReg w) := by
  refine State.settled_reg s t _ hv ?_
  have h : isPage (cfgReg w) = false := by simp only [isPage, cfgReg]; simp; omega
  simp [hardWired, h]

/-! ## The link's power states (R328, R330) -/

/-- The registers of the link. -/
abbrev linkRegs (a : Nat) : Prop :=
  a ∈ [Reg.IRQ_RAW pgPCIE, Reg.IRQ_STAT pgPCIE, Reg.PCIE_CNT1, Reg.PCIE_LINK, cfgReg 0x70, Reg.STAT pgPCIE]

theorem linkDown_regsOnly (s : State) (code : Nat) : RegsOnly linkRegs s (linkDown s code) := by
  have h : RegsOnly linkRegs s (if s.fld Reg.PCIE_LINK 0 3 = 0 then s else (s.raise pgPCIE 1).addSat Reg.PCIE_CNT1 24 8 1) :=
    .ite (.refl _ s) (((RegsOnly.refl linkRegs s).raise (by decide) (by decide) 1).addSat (by decide) 24 8 1)
  have h := (h.setFld (a := Reg.PCIE_LINK) (by decide) 0 3 0).setFld (a := Reg.PCIE_LINK) (by decide) 4 2 0
  have h := (h.setFld (a := cfgReg 0x70) (by decide) 16 4 0).setFld (a := cfgReg 0x70) (by decide) 20 6 0
  exact (h.trans ((setLpm_regsOnly _ 5 code).mono (by simp +contextual))).setBit (by decide) 8 false

/-- The link is down, in L3. -/
theorem linkDown_values (s : State) (code : Nat) : (linkDown s code).fld Reg.PCIE_LINK 0 3 = 0 ∧
    (linkDown s code).fld Reg.PCIE_LINK 16 3 = 5 ∧ (linkDown s code).bit (Reg.STAT pgPCIE) 8 = false := by
  unfold linkDown
  dsimp only
  refine ⟨?_, ?_, State.bit_setBit_same _ _ _ _ (by omega)⟩
  · rw [State.fld_setBit_ne _ _ _ _ _ _ _ (by decide), fld_setLpm_low _ _ _ _ _ (by omega), State.fld_setFld_ne _ _ _ _ _ _ _ _ (by decide),
      State.fld_setFld_ne _ _ _ _ _ _ _ _ (by decide), State.fld_setFld_below _ _ _ _ _ _ _ (by omega) (by omega),
      State.fld_setFld_same _ _ _ _ _ (by omega), Nat.zero_mod]
  · rw [State.fld_setBit_ne _ _ _ _ _ _ _ (by decide), fld_setLpm_state]

theorem emitOut_out (s : State) (o : Out) : (emitOut s o).pcie.out = s.pcie.out ++ [o] :=
  congrArg (fun p : Pcie => p.out ++ [o]) (linkWake_regsOnly s).pcie

theorem pmeTurnOff_values (s : State) : (pmeTurnOff s).pcie.out = s.pcie.out ++ [.pmeToAck] ∧
    (pmeTurnOff s).fld Reg.PCIE_LINK 16 3 = 5 ∧ (pmeTurnOff s).fld Reg.PCIE_LINK 0 3 = 0 ∧
    (pmeTurnOff s).bit (Reg.STAT pgPCIE) 8 = false := by
  obtain ⟨hrate, hstate, hup⟩ := linkDown_values (emitOut s .pmeToAck) 4
  refine ⟨?_, hstate, hrate, hup⟩
  rw [pmeTurnOff, (linkDown_regsOnly _ 4).pcie, emitOut_out]

theorem deepestLink_lt (s : State) : deepestLink s < 8 := by
  unfold deepestLink
  dsimp only
  repeat' split
  all_goals omega

theorem linkWake_state {s : State} (h : 1 ≤ s.fld Reg.PCIE_LINK 16 3 ∧ s.fld Reg.PCIE_LINK 16 3 ≤ 4) :
    (linkWake s).fld Reg.PCIE_LINK 16 3 = 0 := by
  unfold linkWake
  dsimp only
  rw [if_pos h, fld_setLpm_state]

theorem logUsed_setReg (s : State) (a : Nat) (w : Word) (k i : Nat) : logUsed (s.setReg a w) k i = logUsed s k i := rfl
theorem logSectorRecs_setReg (s : State) (a : Nat) (w : Word) (k i : Nat) : logSectorRecs (s.setReg a w) k i = logSectorRecs s k i := rfl
theorem slotLog_setReg (s : State) (a : Nat) (w : Word) (k : Nat) : slotLog (s.setReg a w) k = slotLog s k := by
  rw [slotLog, logUsed_setReg, logSectorRecs_setReg, logSectorRecs_setReg, slotLog]
theorem newerSlot_setReg (s : State) (a : Nat) (w : Word) : newerSlot (s.setReg a w) = newerSlot s := by
  have hc : ∀ k, committed (s.setReg a w) k = committed s k := fun k => by rw [committed, slotLog_setReg, committed]
  have hg : ∀ k, slotGen (s.setReg a w) k = slotGen s k := fun k => by rw [slotGen, slotLog_setReg, slotGen]
  have hs : (s.setReg a w).sec.gen = s.sec.gen := rfl
  simp only [newerSlot, hc, hg, hs]

/-- PERST# ends without a warm reset: only its bit clears. -/
theorem perstDeassert_cold {s : State} (hw : s.boot.warm = false) (hn : s.boot.phase ≠ .running ∨ newerSlot s = false) :
    perstDeassert s = if !s.bit Reg.PCIE_LINK 24 then s else s.setBit Reg.PCIE_LINK 24 false := by
  have hns : newerSlot (s.setBit Reg.PCIE_LINK 24 false) = newerSlot s := newerSlot_setReg _ _ _
  have hb : (s.setBit Reg.PCIE_LINK 24 false).boot = s.boot := State.setBit_boot ..
  have hnot : ¬(s.boot.phase = .running ∧ newerSlot s = true) := fun h =>
    hn.elim (fun hp => hp h.1) (fun hg => Bool.false_ne_true (hg.symm.trans h.2))
  unfold perstDeassert
  extract_lets t
  rw [show t.boot = s.boot from hb, show newerSlot t = newerSlot s from hns, hw, if_neg Bool.false_ne_true, if_neg hnot]

/-! ## Latency messages (R329) -/

theorem emitOut_ltrIdle (s : State) (o : Out) : (emitOut s o).pcie.ltrIdle = s.pcie.ltrIdle :=
  (congrArg Pcie.ltrIdle (linkWake_regsOnly s).pcie :)

theorem sendLtr_ltrIdle (s : State) : (sendLtr s).pcie.ltrIdle = s.pcie.ltrIdle := by
  unfold sendLtr
  split
  · exact emitOut_ltrIdle s _
  · rfl

theorem sendLtr_out (s : State) : (sendLtr s).pcie.out = s.pcie.out ++
    (if s.bit (cfgReg 0x88) 10 then [.ltr (min (ltrNow s) (hostLatency s 0)) (min (ltrNow s) (hostLatency s 16))] else []) := by
  unfold sendLtr
  split
  · exact emitOut_out s _
  · exact (List.append_nil _).symm

/-! ## Holding and releasing (R324, R330) -/

abbrev holdRegs (a : Nat) : Prop :=
  a ∈ [Reg.DMA_STAT, Reg.STAT pgDMA, Reg.IRQ_RAW pgDMA, Reg.IRQ_STAT pgDMA, Reg.HQ_STALL]

theorem holdHost_regsOnly (s : State) : RegsOnly holdRegs s (holdHost s) :=
  ((((RegsOnly.refl holdRegs s).setBit (by decide) 16 true).setBit (by decide) 8 true).raise (by decide) (by decide) 0).trans
    ((syncStall_regsOnly _).mono (by simp +contextual))

theorem holdHost_values (s : State) : (holdHost s).bit Reg.DMA_STAT 16 = true ∧ (holdHost s).irq pgDMA 0 := by
  unfold holdHost State.irq
  rw [(syncStall_regsOnly _).bit (by decide), (syncStall_regsOnly _).bit (by decide), State.bit_raise_ne _ _ _ _ _ (by decide) (by decide),
    State.bit_setBit_ne _ _ _ _ _ _ (by decide), State.bit_setBit_same _ _ _ _ (by omega)]
  exact ⟨rfl, by rw [State.bit_raise _ _ _ _ (by omega)]; simp⟩

end Sys2Proof.Machine
end

section
/-! Writes of the configuration space and resets of the function (R312 to R314, R324 to R326, R330): what each leaves in force. -/
namespace Sys2Proof.Machine

/-! ## A configuration write by its word -/

theorem cfgWrite_refused {s : State} {off : Nat} (bs : List Nat) (h : cfgRetry s = true ∨ 4096 ≤ off) : cfgWrite off bs s = s := by
  rw [cfgWrite, if_pos h]

theorem cfgWrite_readOnly {s : State} {off : Nat} {bs : List Nat} (hr : cfgRetry s = false) (ho : off < 4096)
    (h : cfgReadOnly (off / 4 * 4) (off % 4) bs.length = true) :
    cfgWrite off bs s = recordDropped s (cfgReg (off / 4 * 4)) bs.length (leNat (bs.take 4)) := by
  rw [cfgWrite, if_neg (by simp [hr]; omega)]
  exact if_pos h

/-- What follows from the new contents of a word of the configuration space: the rules of each word (R324 to R326, R330),
and a function-level reset where the host asks for one. -/
def cfgEffect (s : State) (w : Nat) (flr : Prop) [Decidable flr] (new : Word) : State :=
  if w = 0x04 then
    if fieldOf (s.reg (cfgReg w)) 2 1 = 1 ∧ fieldOf new 2 1 = 0 then bmeCleared (s.setReg (cfgReg w) new)
    else if fieldOf (s.reg (cfgReg w)) 2 1 = 0 ∧ fieldOf new 2 1 = 1 then bmeSet (s.setReg (cfgReg w) new)
    else s.setReg (cfgReg w) new
  else if w = 0x44 then
    if fieldOf (s.reg (cfgReg w)) 0 2 ≠ 3 ∧ fieldOf new 0 2 = 3 then holdHost (s.setReg (cfgReg w) new)
    else if fieldOf (s.reg (cfgReg w)) 0 2 = 3 ∧ fieldOf new 0 2 ≠ 3 then releaseHost (s.setReg (cfgReg w) new)
    else s.setReg (cfgReg w) new
  else if w = 0x50 then pump (sendPendingMsix (s.setReg (cfgReg w) new))
  else if w = 0x68 then
    if flr then flrStart (s.setReg (cfgReg w) new) else issueReads (s.setReg (cfgReg w) new)
  else if w = 0x88 then issueReads ((s.setReg (cfgReg w) new).setReg Reg.PCIE_CTO (Word.ofNat (ctoUs (fieldOf new 0 4))))
  else s.setReg (cfgReg w) new

theorem cfgWrite_taken {s : State} {off : Nat} {bs : List Nat} (hr : cfgRetry s = false) (ho : off < 4096)
    (h : cfgReadOnly (off / 4 * 4) (off % 4) bs.length = false) :
    cfgWrite off bs s = cfgEffect s (off / 4 * 4) (fieldOf (mergeBytes 0#32 (off % 4) bs) 15 1 = 1)
      (cfgNew s (off / 4 * 4) (off % 4) (bs.take (4 - off % 4))) := by
  rw [cfgWrite, if_neg (by simp [hr]; omega)]
  exact if_neg (by simp [h])

theorem bytesLE_two (n : Nat) : bytesLE 2 n = [n % 256, n / 256 % 256] := rfl

/-- A write of the lower half of a word. -/
theorem cfgWrite_half {s : State} (hr : cfgRetry s = false) {w : Nat} (hw : w % 4 = 0 ∧ w < 4096) (h : cfgReadOnly w 0 2 = false) (n : Nat) :
    cfgWrite w (bytesLE 2 n) s = cfgEffect s w (fieldOf (mergeBytes 0#32 0 (bytesLE 2 n)) 15 1 = 1) (cfgNew s w 0 (bytesLE 2 n)) := by
  have hq : w / 4 * 4 = w := by omega
  have hl : (bytesLE 2 n).length = 2 := by rw [bytesLE_two]; rfl
  have ht : (bytesLE 2 n).take (4 - 0) = bytesLE 2 n := by rw [bytesLE_two]; rfl
  rw [cfgWrite_taken hr hw.2 (by rw [hq, hw.1, hl]; exact h)]
  simp only [hq, hw.1, ht]

/-! ## Bus Master Enable (R324) -/

theorem busMaster_iff (s : State) : busMaster s = true ↔ fieldOf (s.reg (cfgReg 0x04)) 2 1 = 1 := beq_iff_eq

theorem not_busMaster_iff (s : State) : busMaster s = false ↔ fieldOf (s.reg (cfgReg 0x04)) 2 1 = 0 := by
  have hlt : fieldOf (s.reg (cfgReg 0x04)) 2 1 < 2 := fieldOf_lt _ _ _
  rw [Bool.eq_false_iff, Ne, busMaster_iff]
  omega

theorem cfgWrite_command {s : State} (hr : cfgRetry s = false) (v : Word) {new : Word} (hn : cfgNew s 0x04 0 (bytesLE 2 v.toNat) = new) :
    cfgWrite 0x04 (bytesLE 2 v.toNat) s =
      if busMaster s = true ∧ fieldOf new 2 1 = 0 then bmeCleared (s.setReg (cfgReg 0x04) new)
      else if busMaster s = false ∧ fieldOf new 2 1 = 1 then bmeSet (s.setReg (cfgReg 0x04) new)
      else s.setReg (cfgReg 0x04) new := by
  rw [cfgWrite_half hr (by decide) (by decide), hn, cfgEffect, if_pos rfl]
  simp only [busMaster_iff, not_busMaster_iff]

/-- A write that leaves Bus Master Enable as it is only stores the word. -/
theorem cfgWrite_command_kept {s : State} (hr : cfgRetry s = false) (v : Word) {new : Word}
    (hn : cfgNew s 0x04 0 (bytesLE 2 v.toNat) = new) (hc : busMaster s = false ∨ fieldOf new 2 1 = 1)
    (hs : busMaster s = true ∨ fieldOf new 2 1 = 0) :
    cfgWrite 0x04 (bytesLE 2 v.toNat) s = s.setReg (cfgReg 0x04) new ∧ busMaster (s.setReg (cfgReg 0x04) new) = busMaster s := by
  have hb : busMaster (s.setReg (cfgReg 0x04) new) = true ↔ fieldOf new 2 1 = 1 := by rw [busMaster_iff, State.reg_setReg_same]
  rw [cfgWrite_command hr v hn, if_neg (by rintro ⟨h1, h2⟩; simp [h1, h2] at hc), if_neg (by rintro ⟨h1, h2⟩; simp [h1, h2] at hs)]
  refine ⟨rfl, ?_⟩
  cases hm : busMaster s
  · have h0 : fieldOf new 2 1 = 0 := hs.resolve_left (by simp [hm])
    rw [Bool.eq_false_iff, Ne, hb, h0]
    decide
  · exact hb.mpr (hc.resolve_left (by simp [hm]))

theorem mayIssue_of_not_busMaster {s : State} (h : busMaster s = false) : mayIssue s = false := by simp [mayIssue, h]
theorem mayIssue_of_inD3 {s : State} (h : inD3 s = true) : mayIssue s = false := by simp [mayIssue, h]

theorem not_cfgRetry_iff (s : State) : cfgRetry s = false ↔ s.bit Reg.PCIE_LINK 24 = false ∧ s.fld Reg.PCIE_FLR 0 2 = 0 := by
  simp [cfgRetry]

/-- Linnath may issue: the link is up, the function is a bus master in D0, and nothing resets. -/
theorem mayIssue_of {s : State} (hl : s.fld Reg.PCIE_LINK 0 3 ≠ 0) (hb : busMaster s = true) (hd : inD3 s = false)
    (hr : cfgRetry s = false) (hw : s.boot.warm = false) : mayIssue s = true := by
  obtain ⟨hp, hf⟩ := (not_cfgRetry_iff s).mp hr
  simp [mayIssue, hl, hb, hd, hp, hf, hw]

/-- Changes of other registers than the link's and FLR's leave the function answering. -/
theorem RegsOnly.cfgRetry {P : Nat → Prop} {s t : State} (h : RegsOnly P s t) (hl : ¬P Reg.PCIE_LINK) (hf : ¬P Reg.PCIE_FLR) :
    cfgRetry t = cfgRetry s := by simp only [Machine.cfgRetry, h.bit hl, h.fld hf]

theorem bmeCleared_values (s : State) : (bmeCleared s).reg (cfgReg 0x04) = s.reg (cfgReg 0x04) ∧ (bmeCleared s).bit Reg.DMA_STAT 16 = true ∧
    (bmeCleared s).bit (Reg.STAT pgPCIE) 9 = false ∧ (bmeCleared s).irq pgPCIE 4 ∧ (bmeCleared s).irq pgDMA 0 := by
  have hk := holdHost_regsOnly ((s.setBit (Reg.STAT pgPCIE) 9 false).raise pgPCIE 4)
  obtain ⟨hd, hi⟩ := holdHost_values ((s.setBit (Reg.STAT pgPCIE) 9 false).raise pgPCIE 4)
  refine ⟨?_, hd, ?_, ?_, hi⟩
  · rw [bmeCleared, hk.reg (by decide), State.reg_raise_ne _ _ _ _ (by decide) (by decide), State.reg_setBit_ne _ _ _ _ _ (by decide)]
  · rw [bmeCleared, hk.bit (by decide), State.bit_raise_ne _ _ _ _ _ (by decide) (by decide), State.bit_setBit_same _ _ _ _ (by omega)]
  · rw [bmeCleared, State.irq, hk.bit (by decide), State.bit_raise _ _ _ _ (by omega)]
    simp

/-- The registers Linnath writes before it releases what it held. -/
abbrev enableRegs (a : Nat) : Prop := a ∈ [Reg.STAT pgPCIE, Reg.IRQ_RAW pgPCIE, Reg.IRQ_STAT pgPCIE]

theorem enabled_regsOnly (s : State) : RegsOnly enableRegs s ((s.setBit (Reg.STAT pgPCIE) 9 true).raise pgPCIE 5) :=
  ((RegsOnly.refl enableRegs s).setBit (by decide) 9 true).raise (by decide) (by decide) 5

theorem bmeSet_values {s : State} (hq : s.quiet) (hm : mayIssue s = true) : busMaster (bmeSet s) = true ∧ mayIssue (bmeSet s) = true ∧
    (bmeSet s).bit Reg.DMA_STAT 16 = false ∧ (bmeSet s).bit (Reg.STAT pgPCIE) 9 = true ∧ (bmeSet s).irq pgPCIE 5 ∧
    (bmeSet s).pcie.held = [] := by
  have he := enabled_regsOnly s
  have hq' := he.quiet (by decide) hq
  have hm' : mayIssue ((s.setBit (Reg.STAT pgPCIE) 9 true).raise pgPCIE 5) = true :=
    ((Traffic.of_regsOnly he (by decide)).mayIssue (by decide) (by decide) (by decide)).trans hm
  have ht := releaseHost_traffic hq'
  obtain ⟨hheld, hstat⟩ := releaseHost_done hq' hm'
  have hnot : ∀ {a : Nat}, a ∉ [Reg.PCIE_TAGS, Reg.DMA_STAT, Reg.STAT pgDMA, Reg.DMA_REISSUE] → (a < bar0 0 ∨ bar0 0x3010 ≤ a) →
      ¬quietRegs a → ¬releaseRegs a := not_releaseRegs
  have hmay : mayIssue (bmeSet s) = true :=
    (ht.mayIssue (hnot (by decide) (by decide) (by decide)) (hnot (by decide) (by decide) (by decide))
      (hnot (by decide) (by decide) (by decide))).trans hm'
  refine ⟨?_, hmay, hstat, ?_, ?_, hheld⟩
  · by_contra hb
    rw [mayIssue_of_not_busMaster (by simpa using hb)] at hmay
    exact Bool.false_ne_true hmay
  · rw [bmeSet, ht.bit (hnot (by decide) (by decide) (by decide)) (by decide), State.bit_raise_ne _ _ _ _ _ (by decide) (by decide),
      State.bit_setBit_same _ _ _ _ (by omega)]
  · rw [bmeSet, State.irq, ht.bit (hnot (by decide) (by decide) (by decide)) (by decide), State.bit_raise _ _ _ _ (by omega)]
    simp

/-! ## Power states (R330) -/

theorem inD3_iff (s : State) : inD3 s = true ↔ fieldOf (s.reg (cfgReg 0x44)) 0 2 = 3 := beq_iff_eq

theorem cfgWrite_power {s : State} (hr : cfgRetry s = false) (v : Word) {new : Word} (hn : cfgNew s 0x44 0 (bytesLE 2 v.toNat) = new) :
    cfgWrite 0x44 (bytesLE 2 v.toNat) s =
      if inD3 s = false ∧ fieldOf new 0 2 = 3 then holdHost (s.setReg (cfgReg 0x44) new)
      else if inD3 s = true ∧ fieldOf new 0 2 ≠ 3 then releaseHost (s.setReg (cfgReg 0x44) new)
      else s.setReg (cfgReg 0x44) new := by
  rw [cfgWrite_half hr (by decide) (by decide), hn, cfgEffect, if_neg (by decide), if_pos rfl]
  simp only [inD3_iff, Bool.eq_false_iff, Ne]

theorem inD3_stored (s : State) (new : Word) : inD3 (s.setReg (cfgReg 0x44) new) = decide (fieldOf new 0 2 = 3) := by
  rw [Bool.eq_iff_iff, inD3_iff, State.reg_setReg_same, decide_eq_true_iff]

/-- A write that leaves the power state as it is only stores the word. -/
theorem cfgWrite_power_kept {s : State} (hr : cfgRetry s = false) (v : Word) {new : Word}
    (hn : cfgNew s 0x44 0 (bytesLE 2 v.toNat) = new) (hd : inD3 s = decide (fieldOf new 0 2 = 3)) :
    cfgWrite 0x44 (bytesLE 2 v.toNat) s = s.setReg (cfgReg 0x44) new := by
  rw [cfgWrite_power hr v hn, hd, if_neg (by simp), if_neg (by simp)]

/-! ## Function-level reset (R325) -/

/-- The bit that asks for a reset, in a write of Device Control. -/
theorem fieldOf_mergeBytes_half (v : Word) : fieldOf (mergeBytes 0#32 0 (bytesLE 2 v.toNat)) 15 1 = fieldOf v 15 1 := by
  have h : mergeBytes 0#32 0 (bytesLE 2 v.toNat) = Word.ofNat (v.toNat % 256 + 256 * (v.toNat / 256 % 256)) := by
    rw [bytesLE_two, mergeBytes]
    congr 1
    simp [List.range, List.range.loop, leNat]
  rw [h]
  unfold fieldOf Word.ofNat
  rw [BitVec.toNat_ofNat]
  omega

theorem cfgWrite_deviceControl {s : State} (hr : cfgRetry s = false) (v : Word) {new : Word} (hn : cfgNew s 0x68 0 (bytesLE 2 v.toNat) = new) :
    cfgWrite 0x68 (bytesLE 2 v.toNat) s =
      if fieldOf v 15 1 = 1 then flrStart (s.setReg (cfgReg 0x68) new) else issueReads (s.setReg (cfgReg 0x68) new) := by
  rw [cfgWrite_half hr (by decide) (by decide), hn, cfgEffect, if_neg (by decide), if_neg (by decide), if_neg (by decide), if_pos rfl]
  simp only [fieldOf_mergeBytes_half]

/-- The registers of a reset's start. -/
abbrev flrRegs (a : Nat) : Prop :=
  a ∈ [Reg.PCIE_FLR, Reg.HQ_CTRL, Reg.DMA_STAT, Reg.STAT pgDMA, Reg.IRQ_RAW pgPCIE, Reg.IRQ_STAT pgPCIE, Reg.PCIE_CNT1, Reg.HQ_STALL]

/-- The state of a reset that starts, before it is counted and its tick is noted. -/
def flrMarked (s : State) : State :=
  let s := ((s.setFld Reg.PCIE_FLR 0 2 1).setBit Reg.PCIE_FLR 24 false).setBit Reg.HQ_CTRL 0 false
  ((s.setBit Reg.DMA_STAT 17 true).setBit (Reg.STAT pgDMA) 9 true).raise pgPCIE 3

/-- The state of a reset that starts, with its tick. -/
def flrTimed (s : State) : State :=
  ((flrMarked s).addSat Reg.PCIE_CNT1 8 8 1).setPcie { (flrMarked s).pcie with flrTick := (flrMarked s).ticks }

theorem flrMarked_regsOnly (s : State) : RegsOnly flrRegs s (flrMarked s) := by
  have h := (((RegsOnly.refl flrRegs s).setFld (a := Reg.PCIE_FLR) (by decide) 0 2 1).setBit (a := Reg.PCIE_FLR) (by decide) 24 false).setBit
    (a := Reg.HQ_CTRL) (by decide) 0 false
  exact ((h.setBit (a := Reg.DMA_STAT) (by decide) 17 true).setBit (a := Reg.STAT pgDMA) (by decide) 9 true).raise
    (p := pgPCIE) (by decide) (by decide) 3

theorem flrStart_eq {s : State} (h : s.fld Reg.PCIE_FLR 0 2 = 0) : flrStart s = syncStall (flrTimed s) := by
  rw [flrStart, if_neg (by simp [h]), flrTimed, flrMarked]

theorem flrTimed_hostOnly (s : State) : HostOnly flrRegs s (flrTimed s) :=
  (HostOnly.of_regsOnly ((flrMarked_regsOnly s).addSat (by decide) 8 8 1)).trans (.setPcie _ _ _)

theorem flrStart_hostOnly (s : State) : HostOnly flrRegs s (flrStart s) := by
  by_cases h : s.fld Reg.PCIE_FLR 0 2 = 0
  · rw [flrStart_eq h]
    exact (flrTimed_hostOnly s).trans (.of_regsOnly ((syncStall_regsOnly _).mono (by simp +contextual)))
  · rw [flrStart, if_pos h]
    exact .of_regsOnly (.refl _ s)

theorem flrStart_values {s : State} (h : s.fld Reg.PCIE_FLR 0 2 = 0) : (flrStart s).fld Reg.PCIE_FLR 0 2 = 1 ∧
    (flrStart s).bit Reg.DMA_STAT 17 = true ∧ (flrStart s).bit Reg.HQ_CTRL 0 = false ∧ (flrStart s).pcie.flrTick = s.ticks ∧
    (flrStart s).irq pgPCIE 3 ∧ (flrStart s).fld Reg.PCIE_CNT1 8 8 = min (s.fld Reg.PCIE_CNT1 8 8 + 1) 255 := by
  have hs := syncStall_regsOnly (flrTimed s)
  rw [flrStart_eq h, hs.fld (by decide), hs.fld (by decide), hs.bit (by decide), hs.bit (by decide), hs.pcie, State.irq, hs.bit (by decide)]
  unfold flrTimed
  simp only [State.setPcie_fld, State.setPcie_bit, State.setPcie_pcie]
  refine ⟨?_, ?_, ?_, ?_, ?_, ?_⟩
  · unfold flrMarked
    simp (disch := decide) only [State.fld_addSat_ne, State.fld_raise_ne, State.fld_setBit_ne]
    rw [State.fld_setBit_below _ _ _ _ _ _ (by omega) (by omega), State.fld_setFld_same _ _ _ _ _ (by omega)]
    decide
  · unfold flrMarked
    simp (disch := decide) only [State.bit_addSat_ne, State.bit_raise_ne, State.bit_setBit_ne, State.bit_setBit_same]
  · unfold flrMarked
    simp (disch := decide) only [State.bit_addSat_ne, State.bit_raise_ne, State.bit_setBit_ne, State.bit_setBit_same]
  · obtain ⟨⟨r, hr⟩, -⟩ := flrMarked_regsOnly s
    rw [hr]
  · unfold flrMarked
    simp (disch := decide) only [State.bit_addSat_ne, State.bit_raise]
    simp
  · unfold flrMarked
    rw [State.fld_addSat_same _ _ _ _ _ (by omega)]
    simp (disch := decide) only [State.fld_raise_ne, State.fld_setBit_ne, State.fld_setFld_ne, Nat.reducePow, Nat.reduceSub]

/-! ## What a configuration write leaves in its word -/

theorem Traffic.hostOnly {P Q : Nat → Prop} {s t : State} (h : Traffic P s t) (hp : ∀ a, P a → Q a) (hl : Q Reg.PCIE_LINK) :
    HostOnly Q s t where
  parts := by obtain ⟨r, rs, o, l, hr⟩ := h.parts; exact ⟨r, _, _, hr⟩
  reg a ha := h.reg a (fun h => ha (hp a h)) (fun he => ha (he ▸ hl))

/-- Every register outside the configuration space. -/
abbrev besideConfig (a : Nat) : Prop := a < cfgReg 0

theorem besideConfig_of_mem {l : List Nat} (h : l.all (fun a => decide (a < cfgReg 0)) = true) (a : Nat) (ha : a ∈ l) : besideConfig a := by
  simpa using List.all_eq_true.mp h a ha

theorem besideConfig_of_releaseRegs (a : Nat) (h : releaseRegs a) : besideConfig a := by
  rcases h with h | ⟨k, hk, rfl⟩ | h
  · exact besideConfig_of_mem (by decide) a h
  · simp only [besideConfig, bar0, cfgReg]; omega
  · exact besideConfig_of_mem (by decide) a h

theorem releaseHost_besideConfig {s : State} (h : s.quiet) : HostOnly besideConfig s (releaseHost s) :=
  (releaseHost_traffic h).hostOnly besideConfig_of_releaseRegs (by decide)

theorem issueReads_besideConfig (s : State) : HostOnly besideConfig s (issueReads s) :=
  (issueReads_traffic s).hostOnly (besideConfig_of_mem (by decide)) (by decide)

/-- A configuration write changes no other word of the configuration space than its own. -/
theorem cfgEffect_besideConfig {s : State} (hq : s.quiet) (w : Nat) (flr : Prop) [Decidable flr] (new : Word) :
    HostOnly besideConfig (s.setReg (cfgReg w) new) (cfgEffect s w flr new) := by
  have hs : (s.setReg (cfgReg w) new).quiet :=
    ((RegsOnly.refl (· = cfgReg w) s).setReg rfl new).quiet (by simp only [cfgReg, Reg.STAT, pgXLT]; omega) hq
  have hrefl : HostOnly besideConfig (s.setReg (cfgReg w) new) (s.setReg (cfgReg w) new) := .of_regsOnly (.refl _ _)
  unfold cfgEffect
  split
  · have hclear : HostOnly besideConfig (s.setReg (cfgReg w) new) (bmeCleared (s.setReg (cfgReg w) new)) :=
      .of_regsOnly ((((RegsOnly.refl besideConfig _).setBit (by decide) 9 false).raise (by decide) (by decide) 4).trans
        ((holdHost_regsOnly _).mono (besideConfig_of_mem (by decide))))
    have hset : HostOnly besideConfig (s.setReg (cfgReg w) new) (bmeSet (s.setReg (cfgReg w) new)) :=
      (HostOnly.of_regsOnly ((enabled_regsOnly _).mono (besideConfig_of_mem (by decide)))).trans
        (releaseHost_besideConfig ((enabled_regsOnly _).quiet (by decide) hs))
    split
    · exact hclear
    · split
      · exact hset
      · exact hrefl
  · split
    · split
      · exact .of_regsOnly ((holdHost_regsOnly _).mono (besideConfig_of_mem (by decide)))
      · split
        · exact releaseHost_besideConfig hs
        · exact hrefl
    · split
      · have hm : ¬msixPending (Reg.STAT pgXLT) := by rintro ⟨k, hk, h⟩; simp only [bar0, Reg.STAT, pgXLT] at h; omega
        have ht := sendPendingMsix_traffic (s.setReg (cfgReg w) new)
        exact (ht.hostOnly (fun a h => besideConfig_of_releaseRegs a (.inr (.inl h))) (by decide)).trans
          (.of_regsOnly ((pump_quiet (ht.quiet hm hs)).mono (besideConfig_of_mem (by decide))))
      · split
        · split
          · exact (flrStart_hostOnly _).mono (besideConfig_of_mem (by decide))
          · exact issueReads_besideConfig _
        · split
          · exact (HostOnly.of_regsOnly ((RegsOnly.refl besideConfig _).setReg (by decide) _)).trans (issueReads_besideConfig _)
          · exact hrefl

/-- A configuration write that is taken leaves its new contents in its word. -/
theorem cfgWrite_word {s : State} {off : Nat} {bs : List Nat} (hq : s.quiet) (hr : cfgRetry s = false) (ho : off < 4096)
    (h : cfgReadOnly (off / 4 * 4) (off % 4) bs.length = false) :
    (cfgWrite off bs s).variant = s.variant ∧
    (cfgWrite off bs s).reg (cfgReg (off / 4 * 4)) = cfgNew s (off / 4 * 4) (off % 4) (bs.take (4 - off % 4)) := by
  rw [cfgWrite_taken hr ho h]
  have he := cfgEffect_besideConfig hq (off / 4 * 4) (fieldOf (mergeBytes 0#32 (off % 4) bs) 15 1 = 1)
    (cfgNew s (off / 4 * 4) (off % 4) (bs.take (4 - off % 4)))
  exact ⟨he.variant, (he.reg _ (by simp only [besideConfig, cfgReg]; omega)).trans (State.reg_setReg_same _ _ _)⟩

/-- A write of read-only bytes changes nothing but EVR's list of records. -/
theorem recordDropped_values (s : State) (a n v : Nat) : (recordDropped s a n v).variant = s.variant ∧
    (∀ b, (recordDropped s a n v).reg b = s.reg b) ∧
    (secondPassed s.roRecs a s.ticks = false → (recordDropped s a n v).evr = s.evr) ∧
    (secondPassed s.roRecs a s.ticks = true → (recordDropped s a n v).roRecs = setTick s.roRecs a s.ticks) := by
  unfold recordDropped
  cases h : secondPassed s.roRecs a s.ticks
  · exact ⟨rfl, fun _ => rfl, fun _ => rfl, fun h => absurd h Bool.false_ne_true⟩
  · exact ⟨rfl, fun _ => rfl, fun h => absurd h.symm Bool.false_ne_true, fun _ => rfl⟩

end Sys2Proof.Machine
end

section
/-! Resets of the function and the link coming up (R325 to R327): what each leaves in force. -/
namespace Sys2Proof.Machine

/-! ## Tags in use (R323, R325) -/

theorem quarantineAll_hostOnly (s : State) (flr : Bool) : HostOnly dmaCounts s (quarantineAll s flr) :=
  (HostOnly.setPcie _ s _).trans (.of_regsOnly (syncDma_regsOnly _))

theorem quarantineAll_pcie (s : State) (flr : Bool) : (quarantineAll s flr).pcie =
    { s.pcie with reads := s.pcie.reads.filter (fun r => r.tag.isNone), quar := s.pcie.quar ++ (tagsOut s).map (fun t => (t, flr)) } :=
  (syncDma_regsOnly _).pcie

theorem quarantineAll_hq (s : State) (flr : Bool) : (quarantineAll s flr).hq = s.hq := (syncDma_regsOnly _).hq

/-- Every tag in use is in quarantine. -/
theorem tagsOut_quarantined (s : State) (flr : Bool) (q : List (Nat × Bool)) :
    (tagsOut s).all (fun k => (q ++ (tagsOut s).map (fun t => (t, flr))).contains (k, flr)) = true := by
  simp +contextual

theorem tagsOut_untagged (l : List HostReq) : (l.filter (fun r => r.tag.isNone)).filterMap (·.tag) = [] := by
  simp only [List.filterMap_eq_nil_iff, List.mem_filter, Option.isNone_iff_eq_none]
  exact fun r h => h.2

theorem flrTimeout_values {s : State} (hf : s.fld Reg.PCIE_FLR 0 2 = 1) (ht : tagsOut s ≠ []) :
    (flrTimeout s).bit Reg.PCIE_FLR 24 = true ∧ tagsOut (flrTimeout s) = [] ∧
    (tagsOut s).all (fun k => (flrTimeout s).pcie.quar.contains (k, true)) = true := by
  have he : flrTimeout s = (quarantineAll s true).setBit Reg.PCIE_FLR 24 true := by
    rw [flrTimeout, if_neg (by simp [hf]), if_neg (by simpa using ht)]
  rw [he, tagsOut, State.setBit_pcie, quarantineAll_pcie]
  exact ⟨State.bit_setBit_same _ _ _ _ (by omega), tagsOut_untagged _, tagsOut_quarantined s true _⟩

/-! ## The end of the function's state -/

/-- The registers of a function that ends. -/
def endRegs (a : Nat) : Prop := contextRegs a ∨ functionRegs a

theorem not_endRegs {a : Nat} (h1 : ¬contextRegs a) (h2 : a ≠ Reg.HQ_AE) (h3 : a < Reg.HQ_SQPTR 0 ∨ Reg.HQ_QCFG 64 < a)
    (h4 : a < 0x100000000) (h5 : a ∉ [Reg.STAT pgPCIE, Reg.PCIE_CTO, Reg.DMA_STAT, Reg.STAT pgDMA, Reg.PCIE_B2, Reg.HQ_STALL]) :
    ¬endRegs a := fun h => h.elim h1 (not_functionRegs h2 h3 h4 h5)

/-- Commands, reads and the function's registers are dropped. -/
def functionEnds (s : State) : State := functionReset (abandonHost s)

theorem functionEnds_hostOnly {s : State} (hq : s.quiet) : HostOnly endRegs s (functionEnds s) :=
  ((abandonHost_noCtx hq.2.2.2).1.mono fun _ => .inl).trans ((functionReset_hostOnly _).mono fun _ => .inr)

theorem functionEnds_quiet {s : State} (hq : s.quiet) : (functionEnds s).quiet := by
  obtain ⟨-, hctx, -, -⟩ := abandonHost_noCtx hq.2.2.2
  obtain ⟨-, hshut, hsame⟩ := functionReset_hq (abandonHost s)
  exact (functionEnds_hostOnly hq).quiet (not_endRegs (by decide) (by decide) (by decide) (by decide) (by decide)) (hsame.trans hctx) hshut hq

theorem functionEnds_pcie {s : State} (hq : s.quiet) : (functionEnds s).pcie =
    { s.pcie with reads := s.pcie.reads.filter (fun r => r.tag.isSome), held := [], unlk := none, unlkEnd := 0 } := by
  obtain ⟨-, -, -, hp⟩ := abandonHost_noCtx hq.2.2.2
  rw [functionEnds, functionReset_pcie, hp]

/-- No reset of the function is left under way. -/
def flrCleared (s : State) : State := ((s.setFld Reg.PCIE_FLR 0 2 0).setBit Reg.DMA_STAT 17 false).setBit (Reg.STAT pgDMA) 9 false

abbrev flrEndRegs (a : Nat) : Prop := a ∈ [Reg.PCIE_FLR, Reg.DMA_STAT, Reg.STAT pgDMA]

theorem flrCleared_regsOnly (s : State) : RegsOnly flrEndRegs s (flrCleared s) :=
  (((RegsOnly.refl flrEndRegs s).setFld (by decide) 0 2 0).setBit (by decide) 17 false).setBit (by decide) 9 false

theorem flrCleared_state (s : State) : (flrCleared s).fld Reg.PCIE_FLR 0 2 = 0 := by
  rw [flrCleared, State.fld_setBit_ne _ _ _ _ _ _ _ (by decide), State.fld_setBit_ne _ _ _ _ _ _ _ (by decide),
    State.fld_setFld_same _ _ _ _ _ (by omega), Nat.zero_mod]

theorem State.quiet_report {s : State} (h : s.quiet) (p c m : Nat) (q : List Nat) : (s.report p c m q).quiet := by
  obtain ⟨hm, hu, hs, hc⟩ := h
  refine ⟨?_, hu, hs, hc⟩
  rw [mounted, State.bit_report]
  exact hm

theorem syncDma_hostOnly (s : State) : HostOnly dmaCounts s (syncDma s) := .of_regsOnly (syncDma_regsOnly s)

/-! ## The end of a function-level reset (R325) -/

/-- The state at the end of a function-level reset that took `w`. -/
def flrEnded (w : Nat) (s : State) : State :=
  ((((functionEnds s).setFld Reg.PCIE_FLR 0 2 0).setFld Reg.PCIE_FLR 8 16 w).setBit Reg.DMA_STAT 17 false).setBit (Reg.STAT pgDMA) 9 false

theorem flrEnded_regsOnly (w : Nat) (s : State) : RegsOnly flrEndRegs (functionEnds s) (flrEnded w s) :=
  ((((RegsOnly.refl flrEndRegs _).setFld (by decide) 0 2 0).setFld (by decide) 8 16 w).setBit (by decide) 17 false).setBit (by decide) 9 false

theorem flrFinish_eq {s : State} (hf : s.fld Reg.PCIE_FLR 0 2 = 1) (ht : tagsOut s = []) :
    flrFinish s = pump ((flrEnded (min 65535 ((s.ticks - s.pcie.flrTick) * 5 / 8 / 100)) s).report pgPCIE (Config.linkRecordCode 0) 15
      [min 65535 ((s.ticks - s.pcie.flrTick) * 5 / 8 / 100)]) := by
  rw [flrFinish, if_neg (by simp [hf, ht]), flrEnded, functionEnds]

theorem flrEnded_values {w : Nat} (hw : w < 65536) (s : State) : (flrEnded w s).fld Reg.PCIE_FLR 0 2 = 0 ∧
    (flrEnded w s).fld Reg.PCIE_FLR 8 16 = w ∧ (flrEnded w s).bit Reg.DMA_STAT 17 = false := by
  unfold flrEnded
  refine ⟨?_, ?_, ?_⟩
  · rw [State.fld_setBit_ne _ _ _ _ _ _ _ (by decide), State.fld_setBit_ne _ _ _ _ _ _ _ (by decide),
      State.fld_setFld_below _ _ _ _ _ _ _ (by omega) (by omega), State.fld_setFld_same _ _ _ _ _ (by omega), Nat.zero_mod]
  · rw [State.fld_setBit_ne _ _ _ _ _ _ _ (by decide), State.fld_setBit_ne _ _ _ _ _ _ _ (by decide),
      State.fld_setFld_same _ _ _ _ _ (by omega), Nat.mod_eq_of_lt (by omega)]
  · rw [State.bit_setBit_ne _ _ _ _ _ _ (by decide), State.bit_setBit_same _ _ _ _ (by omega)]

theorem busMaster_of_reg {s t : State} (h : t.reg (cfgReg 0x04) = s.reg (cfgReg 0x04)) : busMaster t = busMaster s :=
  State.bit_of_reg _ _ _ _ _ h
theorem unlkState_of_reg {s t : State} (h : t.reg (mbx 0x24) = s.reg (mbx 0x24)) : unlkState t = unlkState s :=
  State.fld_of_reg _ _ _ _ _ _ h

theorem flrFinish_values {s : State} (hq : s.quiet) (hf : s.fld Reg.PCIE_FLR 0 2 = 1) (ht : tagsOut s = []) :
    (flrFinish s).fld Reg.PCIE_FLR 0 2 = 0 ∧
    (flrFinish s).fld Reg.PCIE_FLR 8 16 = min 65535 ((s.ticks - s.pcie.flrTick) * 5 / 8 / 100) ∧
    (flrFinish s).bit Reg.DMA_STAT 17 = false ∧ (flrFinish s).hq.sqs = [] ∧ busMaster (flrFinish s) = false ∧
    unlkState (flrFinish s) = 0 := by
  rw [flrFinish_eq hf ht]
  generalize hw : min 65535 ((s.ticks - s.pcie.flrTick) * 5 / 8 / 100) = w
  have he := flrEnded_regsOnly w s
  obtain ⟨hstate, htime, hdma⟩ := flrEnded_values (w := w) (by omega) s
  have hp := pump_quiet (State.quiet_report (he.quiet (by decide) (functionEnds_quiet hq)) pgPCIE (Config.linkRecordCode 0) 15 [w])
  refine ⟨?_, ?_, ?_, ?_, ?_, ?_⟩
  · rw [hp.fld (by decide), State.fld_report, hstate]
  · rw [hp.fld (by decide), State.fld_report, htime]
  · rw [hp.bit (by decide), State.bit_report, hdma]
  · rw [hp.hq, State.report_hq, he.hq, functionEnds, (functionReset_hq _).1]
  · rw [busMaster_of_reg (hp.reg (by decide)), busMaster_of_reg (State.reg_report ..), busMaster_of_reg (he.reg (by decide)),
      functionEnds, functionReset_busMaster]
  · rw [unlkState_of_reg (hp.reg (by decide)), unlkState_of_reg (State.reg_report ..), unlkState_of_reg (he.reg (by decide)),
      functionEnds, functionReset_unlkState]

/-! ## PERST# (R326) -/

/-- The link is down under PERST# and the controller is disabled. -/
def perstHeld (s : State) : State := ((linkDown s 0).setBit Reg.PCIE_LINK 24 true).setBit Reg.HQ_CTRL 0 false

abbrev perstRegs (a : Nat) : Prop := linkRegs a ∨ a = Reg.HQ_CTRL

theorem perstHeld_regsOnly (s : State) : RegsOnly perstRegs s (perstHeld s) :=
  ((((linkDown_regsOnly s 0).mono fun _ => .inl).setBit (by decide) 24 true).setBit (by decide) 0 false)

theorem perstHeld_values (s : State) : (perstHeld s).bit Reg.PCIE_LINK 24 = true ∧ (perstHeld s).fld Reg.PCIE_LINK 0 3 = 0 ∧
    (perstHeld s).fld Reg.PCIE_LINK 16 3 = 5 ∧ (perstHeld s).bit Reg.HQ_CTRL 0 = false := by
  obtain ⟨hrate, hstate, -⟩ := linkDown_values s 0
  unfold perstHeld
  refine ⟨?_, ?_, ?_, State.bit_setBit_same _ _ _ _ (by omega)⟩
  · rw [State.bit_setBit_ne _ _ _ _ _ _ (by decide), State.bit_setBit_same _ _ _ _ (by omega)]
  · rw [State.fld_setBit_ne _ _ _ _ _ _ _ (by decide), State.fld_setBit_below _ _ _ _ _ _ (by omega) (by omega), hrate]
  · rw [State.fld_setBit_ne _ _ _ _ _ _ _ (by decide), State.fld_setBit_below _ _ _ _ _ _ (by omega) (by omega), hstate]

/-- The function ended under PERST#, with no read and no policy left. -/
def perstEnded (s : State) : State :=
  let t := functionEnds (perstHeld s)
  flrCleared (syncDma (t.setPcie { t.pcie with reads := [], policy := none }))

theorem perstAssert_eq (s : State) : perstAssert s = pump (perstEnded s) := by
  rw [perstAssert, perstEnded, perstHeld, functionEnds, flrCleared]

abbrev perstEndRegs (a : Nat) : Prop := dmaCounts a ∨ flrEndRegs a

theorem perstEnded_hostOnly (s : State) : HostOnly perstEndRegs (functionEnds (perstHeld s)) (perstEnded s) :=
  ((HostOnly.setPcie _ _ _).trans ((syncDma_hostOnly _).mono fun _ => .inl)).trans
    (.of_regsOnly ((flrCleared_regsOnly _).mono fun _ => .inr))

theorem perstEnded_parts (s : State) : (perstEnded s).hq = (functionEnds (perstHeld s)).hq ∧ (perstEnded s).pcie.reads = [] := by
  unfold perstEnded
  dsimp only
  rw [(flrCleared_regsOnly _).hq, (flrCleared_regsOnly _).pcie, (syncDma_regsOnly _).hq, (syncDma_regsOnly _).pcie,
    State.setPcie_hq, State.setPcie_pcie]
  exact ⟨rfl, rfl⟩

theorem perstAssert_values {s : State} (hq : s.quiet) : (perstAssert s).bit Reg.PCIE_LINK 24 = true ∧
    (perstAssert s).fld Reg.PCIE_LINK 0 3 = 0 ∧ (perstAssert s).fld Reg.PCIE_LINK 16 3 = 5 ∧ (perstAssert s).pcie.reads = [] ∧
    (perstAssert s).hq.sqs = [] ∧ busMaster (perstAssert s) = false ∧ (perstAssert s).bit Reg.HQ_CTRL 0 = false ∧
    (perstAssert s).fld Reg.PCIE_FLR 0 2 = 0 ∧ unlkState (perstAssert s) = 0 := by
  have hx : (perstHeld s).quiet := (perstHeld_regsOnly s).quiet (by decide) hq
  obtain ⟨hbit, hrate, hstate, hen⟩ := perstHeld_values s
  have hf := functionEnds_hostOnly hx
  have he := perstEnded_hostOnly s
  obtain ⟨hhq, hreads⟩ := perstEnded_parts s
  have hu := functionEnds_quiet hx
  have hp := pump_quiet (he.quiet (by decide) (by rw [hhq]; exact hu.2.2.2) (by rw [hhq]; exact hu.2.2.1) hu)
  have hl : ¬endRegs Reg.PCIE_LINK := not_endRegs (by decide) (by decide) (by decide) (by decide) (by decide)
  have hc : ¬endRegs Reg.HQ_CTRL := not_endRegs (by decide) (by decide) (by decide) (by decide) (by decide)
  rw [perstAssert_eq]
  refine ⟨?_, ?_, ?_, ?_, ?_, ?_, ?_, ?_, ?_⟩
  · rw [hp.bit (by decide), he.bit (by decide), hf.bit hl, hbit]
  · rw [hp.fld (by decide), he.fld (by decide), hf.fld hl, hrate]
  · rw [hp.fld (by decide), he.fld (by decide), hf.fld hl, hstate]
  · rw [hp.pcie, hreads]
  · rw [hp.hq, hhq, functionEnds, (functionReset_hq _).1]
  · rw [busMaster_of_reg (hp.reg (by decide)), busMaster_of_reg (he.reg _ (by decide)), functionEnds, functionReset_busMaster]
  · rw [hp.bit (by decide), he.bit (by decide), hf.bit hc, hen]
  · rw [hp.fld (by decide), perstEnded, flrCleared_state]
  · rw [unlkState_of_reg (hp.reg (by decide)), unlkState_of_reg (he.reg _ (by decide)), functionEnds, functionReset_unlkState]

/-! ## A removal (R327) -/

/-- The link is gone, and the tags in use are in quarantine. -/
def removed (s : State) : State := linkDown ((quarantineAll s false).addSat Reg.PCIE_CNT0 0 8 (tagsOut s).length) 0

abbrev removedRegs (a : Nat) : Prop := dmaCounts a ∨ a = Reg.PCIE_CNT0 ∨ linkRegs a

theorem removed_hostOnly (s : State) : HostOnly removedRegs s (removed s) :=
  ((quarantineAll_hostOnly s false).mono fun _ => .inl).trans
    (.of_regsOnly (((RegsOnly.refl removedRegs _).addSat (.inr (.inl rfl)) 0 8 _).trans
      ((linkDown_regsOnly _ 0).mono fun _ h => .inr (.inr h))))

theorem removed_pcie (s : State) : (removed s).pcie = (quarantineAll s false).pcie :=
  (linkDown_regsOnly _ 0).pcie.trans (State.addSat_pcie ..)

theorem removed_hq (s : State) : (removed s).hq = s.hq :=
  ((linkDown_regsOnly _ 0).hq.trans (State.addSat_hq ..)).trans (quarantineAll_hq s false)

/-- What the interrupt and the error of a removal leave. -/
def removalNoted (s : State) : State := ((s.raise pgPCIE 2).addSat Reg.PCIE_CNT1 0 8 1).err pgPCIE 0x1305 15

abbrev removalRegs (a : Nat) : Prop := a ∈ [Reg.IRQ_RAW pgPCIE, Reg.IRQ_STAT pgPCIE, Reg.PCIE_CNT1, Reg.ERR_INFO pgPCIE]

theorem removalNoted_regsOnly (s : State) : RegsOnly removalRegs s (removalNoted s) :=
  (((RegsOnly.refl removalRegs s).raise (by decide) (by decide) 2).addSat (by decide) 0 8 1).err (by decide) 0x1305 15

theorem surprise_eq {s : State} (hl : s.fld Reg.PCIE_LINK 0 3 ≠ 0) (hp : s.bit Reg.PCIE_LINK 24 = false) :
    surprise s = pump ((removalNoted (flrCleared (functionEnds (removed s)))).report pgPCIE 0x1305 15 []) := by
  rw [surprise, if_neg (by simp [hl, hp]), removalNoted, flrCleared, functionEnds, removed]

theorem removed_rate (s : State) : (removed s).fld Reg.PCIE_LINK 0 3 = 0 := (linkDown_values _ 0).1

theorem removalNoted_values (s : State) : (removalNoted s).irq pgPCIE 2 ∧ s.reports pgPCIE 0x1305 (removalNoted s) := by
  unfold removalNoted
  constructor
  · rw [State.irq, State.bit_err_ne _ _ _ _ _ _ (by decide), State.bit_addSat_ne _ _ _ _ _ _ _ (by decide), State.bit_raise _ _ _ _ (by omega)]
    simp
  · rw [State.reports, State.fld_err_code _ _ _ _ (by decide)]
    simp (disch := decide) only [State.fld_addSat_ne, State.fld_raise_ne]

theorem surprise_values {s : State} (hq : s.quiet) (hl : s.fld Reg.PCIE_LINK 0 3 ≠ 0) (hp : s.bit Reg.PCIE_LINK 24 = false) :
    (surprise s).fld Reg.PCIE_LINK 0 3 = 0 ∧ tagsOut (surprise s) = [] ∧
    (tagsOut s).all (fun k => (surprise s).pcie.quar.contains (k, false)) = true ∧ busMaster (surprise s) = false ∧
    unlkState (surprise s) = 0 ∧ (surprise s).irq pgPCIE 2 ∧ s.reports pgPCIE 0x1305 (surprise s) := by
  have hr := removed_hostOnly s
  have hrq : (removed s).quiet := hr.quiet (by decide) (removed_hq s ▸ hq.2.2.2) (removed_hq s ▸ hq.2.2.1) hq
  have hf := functionEnds_hostOnly hrq
  have hc := flrCleared_regsOnly (functionEnds (removed s))
  have hn := removalNoted_regsOnly (flrCleared (functionEnds (removed s)))
  obtain ⟨hirq, herr⟩ := removalNoted_values (flrCleared (functionEnds (removed s)))
  have hpump := pump_quiet (State.quiet_report (hn.quiet (by decide) (hc.quiet (by decide) (functionEnds_quiet hrq))) pgPCIE 0x1305 15 [])
  have hpcie := hpump.pcie
  rw [State.report_pcie, hn.pcie, hc.pcie, functionEnds_pcie hrq, removed_pcie, quarantineAll_pcie] at hpcie
  have hnot : ∀ a, a ∈ [Reg.PCIE_LINK, Reg.ERR_INFO pgPCIE] → ¬endRegs a := by
    intro a ha
    simp only [List.mem_cons, List.not_mem_nil, or_false] at ha
    rcases ha with rfl | rfl <;> exact not_endRegs (by decide) (by decide) (by decide) (by decide) (by decide)
  rw [surprise_eq hl hp]
  refine ⟨?_, ?_, ?_, ?_, ?_, ?_, ?_⟩
  · rw [hpump.fld (by decide), State.fld_report, hn.fld (by decide), hc.fld (by decide), hf.fld (hnot _ (by simp)), removed_rate]
  · rw [tagsOut, hpcie]
    simp
  · rw [hpcie]
    exact tagsOut_quarantined s false _
  · rw [busMaster_of_reg (hpump.reg (by decide)), busMaster_of_reg (State.reg_report ..), busMaster_of_reg (hn.reg (by decide)),
      busMaster_of_reg (hc.reg (by decide)), functionEnds, functionReset_busMaster]
  · rw [unlkState_of_reg (hpump.reg (by decide)), unlkState_of_reg (State.reg_report ..), unlkState_of_reg (hn.reg (by decide)),
      unlkState_of_reg (hc.reg (by decide)), functionEnds, functionReset_unlkState]
  · rw [State.irq, hpump.bit (by decide), State.bit_report, hirq]
  · rw [State.reports, hpump.fld (by decide), State.fld_report, herr]
    simp only [hc.fld (a := Reg.ERR_INFO pgPCIE) (by decide), hf.fld (hnot (Reg.ERR_INFO pgPCIE) (by simp)),
      hr.fld (a := Reg.ERR_INFO pgPCIE) (by decide)]

end Sys2Proof.Machine
end

section
/-! The power policy of a removal, and the link coming up (R327). -/
namespace Sys2Proof.Machine

/-! ## A write of the spindle's mode -/

/-- `t` has the host side of `s`, and its registers but for those at addresses of `P`. -/
structure LeavesHost (P : Nat → Prop) (s t : State) : Prop where
  pcie : t.pcie = s.pcie
  hq : t.hq = s.hq
  xlt : t.xlt = s.xlt
  reg : ∀ a, ¬P a → t.reg a = s.reg a

namespace LeavesHost

variable {P Q : Nat → Prop} {s t u : State}

theorem refl (P : Nat → Prop) (s : State) : LeavesHost P s s := ⟨rfl, rfl, rfl, fun _ _ => rfl⟩

theorem trans (h : LeavesHost P s t) (h' : LeavesHost P t u) : LeavesHost P s u :=
  ⟨h'.pcie.trans h.pcie, h'.hq.trans h.hq, h'.xlt.trans h.xlt, fun a ha => (h'.reg a ha).trans (h.reg a ha)⟩

theorem mono (h : LeavesHost P s t) (hpq : ∀ a, P a → Q a) : LeavesHost Q s t := { h with reg := fun a ha => h.reg a (fun hp => ha (hpq a hp)) }

theorem of_regsOnly (h : RegsOnly P s t) : LeavesHost P s t := ⟨h.pcie, h.hq, h.xlt, fun _ ha => h.reg ha⟩

theorem of_memOnly (h : MemOnly P s t) : LeavesHost P s t := by
  obtain ⟨r, m, x, e, hr⟩ := h.parts
  exact ⟨by rw [hr], by rw [hr], by rw [hr], h.reg⟩

theorem fld (h : LeavesHost P s t) {a : Nat} (ha : ¬P a) (lo w : Nat) : t.fld a lo w = s.fld a lo w :=
  State.fld_of_reg _ _ _ _ _ _ (h.reg a ha)
theorem bit (h : LeavesHost P s t) {a : Nat} (ha : ¬P a) (i : Nat) : t.bit a i = s.bit a i :=
  State.bit_of_reg _ _ _ _ _ (h.reg a ha)

theorem quiet (h : LeavesHost P s t) (hp : ¬P (Reg.STAT pgXLT)) (hq : s.quiet) : t.quiet :=
  ⟨(h.bit hp 8).trans hq.1, h.xlt ▸ hq.2.1, h.hq ▸ hq.2.2.1, h.hq ▸ hq.2.2.2⟩

end LeavesHost

/-- The registers a write of the spindle's mode may change: SPN's, the watch over it, and those that report a write. -/
abbrev modeRegs (a : Nat) : Prop :=
  (0x40003000 ≤ a ∧ a < 0x40004000) ∨ memRegs a ∨ a ∈ [Reg.STAT 2, Reg.ERR_INFO 0]

theorem State.reg_putReg_ne (s : State) {a : Nat} (b : Nat) (new : Word) (h : a ≠ b) (hi : ¬(a % 0x1000 = 0x10 ∨ a % 0x1000 = 0x14)) :
    (s.putReg a new).reg b = s.reg b := by
  unfold State.putReg
  simp only [if_neg hi]
  have hs : (s.setReg a new).reg b = s.reg b := State.reg_setReg_ne _ _ _ _ h
  split
  · split <;> exact hs
  · exact hs

theorem putReg_leavesHost (s : State) (new : Word) : LeavesHost modeRegs s (s.putReg Reg.SPN_MODE new) := by
  obtain ⟨r, l, w, h⟩ := s.putReg_eq Reg.SPN_MODE new
  refine ⟨by rw [h], by rw [h], by rw [h], fun a ha => s.reg_putReg_ne a new ?_ (by decide)⟩
  rintro rfl
  exact ha (.inl (by decide))

theorem modeEnter_leavesHost (act : Nat) (s : State) : LeavesHost modeRegs s (modeEnter act s) := by
  have henter : ∀ (u : State) (st : Nat), LeavesHost modeRegs u (spnEnter u st) := fun u st =>
    (LeavesHost.of_regsOnly (((RegsOnly.refl modeRegs u).setFld (a := Reg.STAT pgSPN) (.inl (by decide)) 8 4 st).setBit
      (a := Reg.STAT 2) (.inr (.inr (by decide))) 15 _)).trans ⟨rfl, rfl, rfl, fun _ _ => rfl⟩
  have hspn : ∀ x : Spn, LeavesHost modeRegs s (s.setSpn x) := fun x => ⟨rfl, rfl, rfl, fun _ _ => rfl⟩
  unfold modeEnter
  dsimp only
  split
  · exact .refl _ s
  · split
    · exact ((hspn _).trans (.of_regsOnly ((RegsOnly.refl modeRegs _).setFld (.inl (by decide)) 0 3 0))).trans (henter _ _)
    · exact (hspn _).trans (henter _ _)

theorem writeDropped_leavesHost (s : State) (m : Master) (v : Word) (w : WriteVerdict) :
    LeavesHost modeRegs s (writeDropped s m Reg.SPN_MODE v w) := by
  have herr : ∀ p c, modeRegs (Reg.ERR_INFO p) → LeavesHost modeRegs s (s.err p c m.id) := fun p c hp =>
    .of_regsOnly ((RegsOnly.refl modeRegs s).err hp c m.id)
  cases w with
  | denied => exact .of_memOnly ((aclRefuse_memOnly s m Reg.SPN_MODE 2 .write).mono fun _ h => .inr (.inl h))
  | badSize => exact herr 0 _ (.inr (.inr (by decide)))
  | absent => exact herr 0 _ (.inr (.inr (by decide)))
  | readOnly =>
    unfold writeDropped recordReadOnly
    dsimp only
    split
    · exact ⟨rfl, rfl, rfl, fun _ _ => rfl⟩
    · exact .refl _ s
  | refused => exact herr _ _ (.inl (by decide))
  | ignored => exact .refl _ s
  | take new => exact .refl _ s

theorem spnModeWrite_leavesHost (m : Master) (v : Word) (s : State) : LeavesHost modeRegs s (spnModeWrite m v s) := by
  unfold spnModeWrite
  split
  · unfold regWrite
    split
    · exact (putReg_leavesHost s _).trans (modeEnter_leavesHost _ _)
    · exact writeDropped_leavesHost s m v _
  · unfold regWriteIf
    split
    · rw [if_neg (by decide)]
      exact .of_regsOnly ((RegsOnly.refl modeRegs s).err (.inl (by decide)) _ m.id)
    · exact writeDropped_leavesHost s m v _

/-! ## The end of a removal's policy -/

/-- What the end of a removal's policy may change. -/
abbrev policyRegs (a : Nat) : Prop := modeRegs a ∨ a = Reg.HQ_PS

/-- The cores run again unless they were off before the removal too. -/
def coresBack (p : Nat) (s : State) : State := if s.fld Reg.HQ_PS 0 3 = 4 ∧ p ≠ 4 then coresOn s else s

/-- The power state of before the removal is in force. -/
def stateBack (p : Nat) (s : State) : State := ((coresBack p s).setFld Reg.HQ_PS 0 3 p).setFld Reg.HQ_PS 4 3 p

theorem leavePolicy_none {s : State} (h : s.pcie.policy = none) : leavePolicy s = s := by
  unfold leavePolicy
  rw [h]

theorem leavePolicy_some {s : State} {p : Nat} (h : s.pcie.policy = some p) :
    leavePolicy s =
      if operational p ∧ spnState (stateBack p (s.setPcie { s.pcie with policy := none })) = 6 then
        spnModeWrite .sup 1#32 (stateBack p (s.setPcie { s.pcie with policy := none }))
      else stateBack p (s.setPcie { s.pcie with policy := none }) := by
  unfold leavePolicy
  rw [h]
  rfl

theorem stateBack_leavesHost (p : Nat) (s : State) : LeavesHost policyRegs s (stateBack p s) := by
  have hon : LeavesHost policyRegs s (coresBack p s) := by
    unfold coresBack
    split
    · exact ⟨rfl, rfl, rfl, fun _ _ => rfl⟩
    · exact .refl _ s
  exact hon.trans (.of_regsOnly (((RegsOnly.refl policyRegs _).setFld (.inr rfl) 0 3 p).setFld (.inr rfl) 4 3 p))

theorem stateBack_state (p : Nat) (s : State) : (stateBack p s).fld Reg.HQ_PS 0 3 = p % 8 := by
  unfold stateBack
  rw [State.fld_setFld_below _ _ _ _ _ _ _ (by omega) (by omega), State.fld_setFld_same _ _ _ _ _ (by omega)]
  rfl

theorem leavePolicy_leavesHost (s : State) : LeavesHost policyRegs (s.setPcie { s.pcie with policy := none }) (leavePolicy s) := by
  cases h : s.pcie.policy with
  | none =>
    rw [leavePolicy_none h]
    exact ⟨by rw [State.setPcie_pcie, ← h], rfl, rfl, fun _ _ => rfl⟩
  | some p =>
    rw [leavePolicy_some h]
    split
    · exact (stateBack_leavesHost p _).trans ((spnModeWrite_leavesHost _ _ _).mono fun _ ha => .inl ha)
    · exact stateBack_leavesHost p _

/-- The power state that was in force before the removal is in force again. -/
theorem leavePolicy_state (s : State) :
    (leavePolicy s).fld Reg.HQ_PS 0 3 = (s.pcie.policy.map (· % 8)).getD (s.fld Reg.HQ_PS 0 3) := by
  cases h : s.pcie.policy with
  | none =>
    rw [leavePolicy_none h]
    rfl
  | some p =>
    rw [leavePolicy_some h]
    split
    · exact ((spnModeWrite_leavesHost _ _ _).fld (by decide) 0 3).trans (stateBack_state p _)
    · exact stateBack_state p _

theorem State.quiet_setPcie {s : State} (h : s.quiet) (p : Pcie) : (s.setPcie p).quiet := by
  obtain ⟨hm, hu, hs, hc⟩ := h
  exact ⟨(State.setPcie_bit ..).trans hm, hu, hs, hc⟩

/-! ## The link comes up -/

/-- The link is in L0 with its rate and width, and says so. -/
def linkRaised (speed width : Nat) (s : State) : State :=
  let s := (s.setFld Reg.PCIE_LINK 0 3 speed).setFld Reg.PCIE_LINK 4 2 width
  let s := (s.setFld (cfgReg 0x70) 16 4 speed).setFld (cfgReg 0x70) 20 6 width
  ((setLpm s 0 1).setBit (Reg.STAT pgPCIE) 8 true).raise pgPCIE 0

theorem linkRaised_regsOnly (speed width : Nat) (s : State) : RegsOnly linkRegs s (linkRaised speed width s) := by
  have h := ((RegsOnly.refl linkRegs s).setFld (a := Reg.PCIE_LINK) (by decide) 0 3 speed).setFld (a := Reg.PCIE_LINK) (by decide) 4 2 width
  have h := (h.setFld (a := cfgReg 0x70) (by decide) 16 4 speed).setFld (a := cfgReg 0x70) (by decide) 20 6 width
  exact ((h.trans ((setLpm_regsOnly _ 0 1).mono (by simp +contextual))).setBit (by decide) 8 true).raise (by decide) (by decide) 0

theorem linkRaised_values (speed width : Nat) (s : State) : (linkRaised speed width s).fld Reg.PCIE_LINK 0 3 = speed % 8 ∧
    (linkRaised speed width s).fld Reg.PCIE_LINK 4 2 = width % 4 ∧ (linkRaised speed width s).fld Reg.PCIE_LINK 16 3 = 0 ∧
    (linkRaised speed width s).bit (Reg.STAT pgPCIE) 8 = true ∧ (linkRaised speed width s).irq pgPCIE 0 := by
  unfold linkRaised
  dsimp only
  refine ⟨?_, ?_, ?_, ?_, ?_⟩
  · simp (disch := decide) only [State.fld_raise_ne, State.fld_setBit_ne]
    rw [fld_setLpm_low _ _ _ _ _ (by omega)]
    simp (disch := decide) only [State.fld_setFld_ne]
    rw [State.fld_setFld_below _ _ _ _ _ _ _ (by omega) (by omega), State.fld_setFld_same _ _ _ _ _ (by omega)]
    rfl
  · simp (disch := decide) only [State.fld_raise_ne, State.fld_setBit_ne]
    rw [fld_setLpm_low _ _ _ _ _ (by omega)]
    simp (disch := decide) only [State.fld_setFld_ne]
    rw [State.fld_setFld_same _ _ _ _ _ (by omega)]
    rfl
  · simp (disch := decide) only [State.fld_raise_ne, State.fld_setBit_ne, fld_setLpm_state]
  · rw [State.bit_raise_ne _ _ _ _ _ (by decide) (by decide), State.bit_setBit_same _ _ _ _ (by omega)]
  · rw [State.irq, State.bit_raise _ _ _ _ (by omega)]
    simp

theorem linkUp_eq (speed width : Nat) {s : State} (h : s.bit Reg.PCIE_LINK 24 = false) :
    linkUp speed width s = releaseHost (pump (leavePolicy (linkRaised speed width s))) := by
  rw [linkUp, if_neg (by simp [h]), linkRaised]

theorem linkUp_values (speed width : Nat) {s : State} (hq : s.quiet) (h : s.bit Reg.PCIE_LINK 24 = false) :
    (linkUp speed width s).fld Reg.PCIE_LINK 0 3 = speed % 8 ∧ (linkUp speed width s).fld Reg.PCIE_LINK 4 2 = width % 4 ∧
    (linkUp speed width s).fld Reg.PCIE_LINK 16 3 = 0 ∧ (linkUp speed width s).bit (Reg.STAT pgPCIE) 8 = true ∧
    (linkUp speed width s).irq pgPCIE 0 ∧ (linkUp speed width s).pcie.policy = none ∧
    (linkUp speed width s).fld Reg.HQ_PS 0 3 = (s.pcie.policy.map (· % 8)).getD (s.fld Reg.HQ_PS 0 3) := by
  have hr := linkRaised_regsOnly speed width s
  obtain ⟨hrate, hwidth, hstate, hup, hirq⟩ := linkRaised_values speed width s
  have hl := leavePolicy_leavesHost (linkRaised speed width s)
  have hlq := hl.quiet (by decide) (State.quiet_setPcie (hr.quiet (by decide) hq) _)
  have hp := pump_quiet hlq
  have ht := releaseHost_traffic (hp.quiet (by decide) hlq)
  have hfld : ∀ {a : Nat}, ¬quietRegs a → ¬policyRegs a → ∀ lo w, (pump (leavePolicy (linkRaised speed width s))).fld a lo w =
      (linkRaised speed width s).fld a lo w := fun ha hb lo w => (hp.fld ha lo w).trans ((hl.fld hb lo w).trans (State.setPcie_fld ..))
  have hbit : ∀ {a : Nat}, ¬quietRegs a → ¬policyRegs a → ∀ i, (pump (leavePolicy (linkRaised speed width s))).bit a i =
      (linkRaised speed width s).bit a i := fun ha hb i => (hp.bit ha i).trans ((hl.bit hb i).trans (State.setPcie_bit ..))
  rw [linkUp_eq speed width h]
  refine ⟨?_, ?_, ?_, ?_, ?_, ?_, ?_⟩
  · rw [ht.low 0 3 (by omega), hfld (by decide) (by decide), hrate]
  · rw [ht.low 4 2 (by omega), hfld (by decide) (by decide), hwidth]
  · exact ht.awake ((hfld (by decide) (by decide) 16 3).trans hstate)
  · rw [ht.bit (not_releaseRegs (by decide) (by decide) (by decide)) (by decide), hbit (by decide) (by decide), hup]
  · exact (ht.bit (not_releaseRegs (by decide) (by decide) (by decide)) (by decide) 0).trans ((hbit (by decide) (by decide) 0).trans hirq)
  · rw [ht.policy, hp.pcie, hl.pcie, State.setPcie_pcie]
  · have hsame : (linkRaised speed width s).fld Reg.HQ_PS 0 3 = s.fld Reg.HQ_PS 0 3 := hr.fld (by decide) 0 3
    have hback := leavePolicy_state (linkRaised speed width s)
    simp only [hr.pcie, hsame] at hback
    exact (ht.fld (not_releaseRegs (by decide) (by decide) (by decide)) (by decide) 0 3).trans ((hp.fld (by decide) 0 3).trans hback)

/-! ## A removal's policy -/

theorem l2CtrlEff_pcie (was : Bool) (s : State) : (l2CtrlEff was s).pcie = s.pcie := by
  unfold l2CtrlEff
  dsimp only
  split
  · obtain ⟨r, m, x, e, hr⟩ := (l2Flush_memOnly ((s.setBit Reg.L2C_CTRL 0 true).setBit (Reg.STAT pgL2C) 8 true)).parts
    rw [State.setMs, hr, State.setBit_pcie, State.setBit_pcie]
  · split
    · exact State.setBit_pcie ..
    · rfl

theorem drainDone_pcie (s : State) : (drainDone s).pcie = s.pcie := by
  unfold drainDone
  split
  · rfl
  · rw [State.raise_pcie, State.setBit_pcie, State.setBit_pcie, State.setMs]

/-- A step of the entry into a power state keeps the link's own state. -/
theorem psDoStep_pcie (s : State) (n : Nat) : (psDoStep s n).pcie = s.pcie := by
  unfold psDoStep
  split
  · exact (spnModeWrite_leavesHost _ _ s).pcie
  · rfl
  · exact State.setFld_pcie ..
  · split
    · rfl
    · exact (setLpm_regsOnly s _ _).pcie
  · dsimp only
    split
    · rw [drainDone_pcie, l2CtrlEff_pcie, State.setBit_pcie]
    · rfl

/-- The power state a removal's policy asks for. -/
def policyTarget (p : Nat) : Nat := if p = 1 then 2 else 4

/-- The steps into it. -/
def policySteps (p : Nat) : List Nat := if p = 1 then [1, 2, 3] else [1, 2, 3, 4, 5]

theorem applyPolicy_eq {s : State} (hl : s.fld Reg.PCIE_LINK 0 3 = 0) (hp : s.fld Reg.PCIE_SURP 0 2 ≠ 0) (hn : s.pcie.policy = none) :
    applyPolicy s =
      if policyTarget (s.fld Reg.PCIE_SURP 0 2) ≤ s.fld Reg.HQ_PS 0 3 then s.setPcie { s.pcie with policy := some (s.fld Reg.HQ_PS 0 3) }
      else ((((policySteps (s.fld Reg.PCIE_SURP 0 2)).foldl psDoStep (s.setPcie { s.pcie with policy := some (s.fld Reg.HQ_PS 0 3) })).setFld
        Reg.HQ_PS 0 3 (policyTarget (s.fld Reg.PCIE_SURP 0 2))).setFld Reg.HQ_PS 4 3 (policyTarget (s.fld Reg.PCIE_SURP 0 2))).setBit
          Reg.HQ_PS 8 false := by
  rw [applyPolicy, if_neg (by simp [hl, hp, hn]), policyTarget, policySteps]

theorem applyPolicy_values {s : State} (hl : s.fld Reg.PCIE_LINK 0 3 = 0) (hp : s.fld Reg.PCIE_SURP 0 2 ≠ 0) (hn : s.pcie.policy = none) :
    (applyPolicy s).pcie.policy = some (s.fld Reg.HQ_PS 0 3) ∧
    (applyPolicy s).fld Reg.HQ_PS 0 3 = max (s.fld Reg.HQ_PS 0 3) (policyTarget (s.fld Reg.PCIE_SURP 0 2)) := by
  have ht : policyTarget (s.fld Reg.PCIE_SURP 0 2) % 2 ^ 3 = policyTarget (s.fld Reg.PCIE_SURP 0 2) := by
    unfold policyTarget
    split <;> rfl
  rw [applyPolicy_eq hl hp hn]
  split
  · next h => exact ⟨by rw [State.setPcie_pcie], by rw [State.setPcie_fld, Nat.max_eq_left h]⟩
  · next h =>
    refine ⟨?_, ?_⟩
    · rw [State.setBit_pcie, State.setFld_pcie, State.setFld_pcie, keep_foldl (g := State.pcie) psDoStep_pcie _ rfl, State.setPcie_pcie]
    · rw [State.fld_setBit_below _ _ _ _ _ _ (by omega) (by omega), State.fld_setFld_below _ _ _ _ _ _ _ (by omega) (by omega),
        State.fld_setFld_same _ _ _ _ _ (by omega), ht, Nat.max_eq_right (by omega)]

end Sys2Proof.Machine
end

section
/-! Link, bus mastering, resets, power states and latency: the statement itself. -/
namespace Sys2Proof.Machine

theorem inD3_of_reg {s t : State} (h : t.reg (cfgReg 0x44) = s.reg (cfgReg 0x44)) : inD3 t = inD3 s :=
  congrArg (· == 3) (State.fld_of_reg _ _ _ _ _ _ h)

/-! ## Words stored before their rules act -/

theorem cfgStored_regsOnly (s : State) (w : Nat) (new : Word) : RegsOnly (· = cfgReg w) s (s.setReg (cfgReg w) new) :=
  (RegsOnly.refl (· = cfgReg w) s).setReg rfl new

theorem cfgStored_quiet {s : State} (h : s.quiet) (w : Nat) (new : Word) : (s.setReg (cfgReg w) new).quiet :=
  (cfgStored_regsOnly s w new).quiet (by simp only [cfgReg, Reg.STAT, pgXLT]; omega) h

theorem cfgStored_cfgRetry (s : State) (w : Nat) (new : Word) : cfgRetry (s.setReg (cfgReg w) new) = cfgRetry s :=
  (cfgStored_regsOnly s w new).cfgRetry (by simp only [cfgReg, Reg.PCIE_LINK]; omega) (by simp only [cfgReg, Reg.PCIE_FLR]; omega)

/-- Linnath may issue with Bus Master Enable set. -/
theorem mayIssue_command {s : State} {new : Word} (hr : cfgRetry s = false) (hl : s.fld Reg.PCIE_LINK 0 3 ≠ 0) (hd : inD3 s = false)
    (hw : s.boot.warm = false) (hn : fieldOf new 2 1 = 1) : mayIssue (s.setReg (cfgReg 0x04) new) = true := by
  have hk := cfgStored_regsOnly s 0x04 new
  exact mayIssue_of (by rw [hk.fld (a := Reg.PCIE_LINK) (by decide)]; exact hl)
    ((busMaster_iff _).mpr (by rw [State.reg_setReg_same]; exact hn)) ((inD3_of_reg (hk.reg (by decide))).trans hd)
    ((cfgStored_cfgRetry s _ _).trans hr) (by rw [hk.boot]; exact hw)

/-- Linnath may issue in D0. -/
theorem mayIssue_power {s : State} {new : Word} (hr : cfgRetry s = false) (hl : s.fld Reg.PCIE_LINK 0 3 ≠ 0) (hb : busMaster s = true)
    (hw : s.boot.warm = false) (hn : fieldOf new 0 2 = 0) : mayIssue (s.setReg (cfgReg 0x44) new) = true := by
  have hk := cfgStored_regsOnly s 0x44 new
  exact mayIssue_of (by rw [hk.fld (a := Reg.PCIE_LINK) (by decide)]; exact hl) ((busMaster_of_reg (hk.reg (by decide))).trans hb)
    ((inD3_stored s new).trans (decide_eq_false (by omega))) ((cfgStored_cfgRetry s _ _).trans hr) (by rw [hk.boot]; exact hw)

/-- What Linnath held has gone out. -/
theorem released_values {s : State} (hq : s.quiet) (hm : mayIssue s = true) : inD3 (releaseHost s) = false ∧
    mayIssue (releaseHost s) = true ∧ (releaseHost s).bit Reg.DMA_STAT 16 = false ∧ (releaseHost s).pcie.held = [] := by
  obtain ⟨hheld, hstat⟩ := releaseHost_done hq hm
  have hmay : mayIssue (releaseHost s) = true :=
    ((releaseHost_traffic hq).mayIssue (not_releaseRegs (by decide) (by decide) (by decide))
      (not_releaseRegs (by decide) (by decide) (by decide)) (not_releaseRegs (by decide) (by decide) (by decide))).trans hm
  refine ⟨?_, hmay, hstat, hheld⟩
  by_contra hd
  rw [mayIssue_of_inD3 (by simpa using hd)] at hmay
  exact Bool.false_ne_true hmay

theorem flrStart_stored {s : State} (hr : cfgRetry s = false) (new : Word) :
    (flrStart (s.setReg (cfgReg 0x68) new)).fld Reg.PCIE_FLR 0 2 = 1 ∧ (flrStart (s.setReg (cfgReg 0x68) new)).bit Reg.DMA_STAT 17 = true ∧
    (flrStart (s.setReg (cfgReg 0x68) new)).bit Reg.HQ_CTRL 0 = false ∧ (flrStart (s.setReg (cfgReg 0x68) new)).pcie.flrTick = s.ticks ∧
    (flrStart (s.setReg (cfgReg 0x68) new)).irq pgPCIE 3 ∧
    (flrStart (s.setReg (cfgReg 0x68) new)).fld Reg.PCIE_CNT1 8 8 = min (s.fld Reg.PCIE_CNT1 8 8 + 1) 255 := by
  have hk := cfgStored_regsOnly s 0x68 new
  have hc : (s.setReg (cfgReg 0x68) new).fld Reg.PCIE_CNT1 8 8 = s.fld Reg.PCIE_CNT1 8 8 := hk.fld (by decide) 8 8
  have hv := flrStart_values ((hk.fld (by decide) 0 2).trans ((not_cfgRetry_iff s).mp hr).2)
  rwa [State.setReg_ticks, hc] at hv

theorem issueReads_stored {s : State} (hr : cfgRetry s = false) (new : Word) :
    (issueReads (s.setReg (cfgReg 0x68) new)).fld Reg.PCIE_FLR 0 2 = 0 ∧ (issueReads (s.setReg (cfgReg 0x68) new)).hq = s.hq ∧
    (issueReads (s.setReg (cfgReg 0x68) new)).reg (cfgReg 0x68) = new := by
  have ht := issueReads_traffic (s.setReg (cfgReg 0x68) new)
  have hk := cfgStored_regsOnly s 0x68 new
  exact ⟨(ht.fld (by decide) (by decide) 0 2).trans ((hk.fld (by decide) 0 2).trans ((not_cfgRetry_iff s).mp hr).2),
    ht.hq.trans (State.setReg_hq ..), (ht.reg _ (by decide) (by decide)).trans (State.reg_setReg_same ..)⟩

/-- Whether commands are outstanding changes neither what goes out before nor the host's latencies. -/
theorem ltrCondition_out {s u : State} (h : u = if cmdsOutstanding s then s.setPcie { s.pcie with ltrIdle := false } else s) :
    u.pcie.out ++ (if u.bit (cfgReg 0x88) 10 then [Out.ltr (min (ltrNow u) (hostLatency u 0)) (min (ltrNow u) (hostLatency u 16))] else []) =
    s.pcie.out ++ (if s.bit (cfgReg 0x88) 10 then [Out.ltr (min (ltrNow u) (hostLatency s 0)) (min (ltrNow u) (hostLatency s 16))] else []) := by
  have hb : u.bit (cfgReg 0x88) 10 = s.bit (cfgReg 0x88) 10 := by rw [h]; split <;> rfl
  have hl : ∀ lo, hostLatency u lo = hostLatency s lo := fun lo => by rw [h]; split <;> rfl
  have ho : u.pcie.out = s.pcie.out := by rw [h]; split <;> rfl
  rw [hb, hl, hl, ho]

/-- Settles O33: each event by what it leaves in force; where its condition does not hold its effect is the state itself. -/
theorem linkResetsAndBusMastering : Obligations.LinkResetsAndBusMastering := by
  unfold Obligations.LinkResetsAndBusMastering
  refine ⟨fun s speed width h => ?_, fun s speed width h => ?_, fun s h => ?_, fun s h => ?_, fun s h => ?_, fun s h => ?_,
    fun s h => ?_, fun s h => ?_, fun s off bytes h => ?_, fun s off bytes h => ?_, fun s off bytes h => ?_, fun s v h => ?_,
    fun s v h => ?_, fun s v h => ?_, fun s v h => ?_, fun s v h => ?_, fun s v h => ?_, fun s v h => ?_, fun s v h => ?_,
    fun s v h => ?_, fun s h => ?_, fun s h => ?_, fun s h => ?_, fun s h => ?_, fun s v h => ?_, fun s v h => ?_, fun s v h => ?_,
    fun s v h => ?_, fun s v h => ?_, fun s v h => ?_, fun s => ?_, fun s h => ?_, fun s h => ?_, fun s h => ?_, fun s h => ?_,
    fun s h => ?_, fun s h => ?_, fun s u h => ?_, fun s u h => ?_, fun s h => ?_⟩
  · obtain ⟨hq, hp⟩ := h
    refine runs_of_done _ rfl ?_
    simp (disch := decide) only [State.irq, State.settled_fld_plain, State.settled_bit_plain, State.settled_pcie]
    exact linkUp_values speed width hq hp
  · exact runs_unchanged h.1 rfl (if_pos h.2)
  · refine runs_of_done _ rfl ?_
    simp (disch := decide) only [State.settled_fld_plain, State.settled_bit_plain, State.settled_pcie, State.settled_hq,
      busMaster_settled, unlkState_settled]
    exact perstAssert_values h
  · obtain ⟨hw, hn⟩ := h
    refine runs_of_done _ rfl ?_
    simp (disch := decide) only [State.settled_bit_plain, State.settled_hq, State.settled_boot]
    rw [perstDeassert_cold hw hn]
    split
    · next hb => exact ⟨by simpa using hb, rfl, rfl⟩
    · exact ⟨State.bit_setBit_same _ _ _ _ (by omega), State.setBit_hq .., State.setBit_boot ..⟩
  · obtain ⟨hq, hl, hp⟩ := h
    refine runs_of_done _ rfl ?_
    simp (disch := decide) only [State.irq, State.reports, State.settled_fld_plain, State.settled_bit_plain,
      State.settled_pcie, busMaster_settled, unlkState_settled, tagsOut_settled]
    exact surprise_values hq hl hp
  · exact runs_unchanged h.1 rfl (if_pos h.2)
  · obtain ⟨hl, hp, hn⟩ := h
    refine runs_of_done _ rfl ?_
    simp (disch := decide) only [State.settled_fld_plain, State.settled_pcie]
    exact applyPolicy_values hl hp hn
  · exact runs_unchanged h.1 rfl (if_pos (by simpa [Option.isSome_iff_ne_none] using h.2))
  · obtain ⟨hq, hr, ho, hw⟩ := h
    obtain ⟨hv, hword⟩ := cfgWrite_word hq hr ho hw
    exact runs_of_done _ rfl ((cfgReg_settled s _ _ hv).trans hword)
  · obtain ⟨hr, ho, hw⟩ := h
    obtain ⟨hv, hreg, hevr, hrec⟩ := recordDropped_values s (cfgReg (off / 4 * 4)) bytes.length (leNat (bytes.take 4))
    refine runs_of_done (recordDropped s (cfgReg (off / 4 * 4)) bytes.length (leNat (bytes.take 4))) ?_ ?_
    · exact congrArg (done s) (cfgWrite_readOnly hr ho hw)
    · exact ⟨(cfgReg_settled s _ _ hv).trans (hreg _), hevr, hrec⟩
  · exact runs_unchanged h.1 rfl (cfgWrite_refused bytes h.2)
  · obtain ⟨hr, hb, hn⟩ := h
    refine runs_of_done _ rfl ?_
    simp (disch := decide) only [State.irq, State.settled_bit_plain, State.settled_reg_plain, busMaster_settled,
      mayIssue_settled]
    rw [cfgWrite_command hr v rfl, if_pos ⟨hb, hn⟩]
    obtain ⟨hreg, hdma, hstat, hi1, hi2⟩ := bmeCleared_values (s.setReg (cfgReg 0x04) (cfgNew s 0x04 0 (bytesLE 2 v.toNat)))
    rw [State.reg_setReg_same] at hreg
    have hoff := (not_busMaster_iff _).mpr (hreg ▸ hn)
    exact ⟨hoff, mayIssue_of_not_busMaster hoff, hreg, hdma, hstat, hi1, hi2⟩
  · obtain ⟨hr, hc, hs⟩ := h
    refine runs_of_done _ rfl ?_
    simp (disch := decide) only [State.settled_reg_plain, State.settled_pcie, State.settled_hq, busMaster_settled]
    obtain ⟨he, hb⟩ := cfgWrite_command_kept hr v rfl hc hs
    rw [he]
    exact ⟨hb, State.reg_setReg_same .., State.setReg_pcie .., State.setReg_hq ..⟩
  · exact runs_unchanged h.1 rfl (cfgWrite_refused _ (.inl h.2))
  · obtain ⟨hq, hr, hl, hb, hd, hw, hn⟩ := h
    refine runs_of_done _ rfl ?_
    simp (disch := decide) only [State.irq, State.settled_bit_plain, State.settled_pcie, busMaster_settled, mayIssue_settled]
    rw [cfgWrite_command hr v rfl, if_neg (by simp [hb]), if_pos ⟨hb, hn⟩]
    exact bmeSet_values (cfgStored_quiet hq 0x04 _) (mayIssue_command hr hl hd hw hn)
  · obtain ⟨hr, hc, hs⟩ := h
    refine runs_of_done _ rfl ?_
    simp (disch := decide) only [State.settled_reg_plain, State.settled_pcie, State.settled_hq, busMaster_settled]
    obtain ⟨he, hb⟩ := cfgWrite_command_kept hr v rfl hc hs
    rw [he]
    exact ⟨hb, State.reg_setReg_same .., State.setReg_pcie .., State.setReg_hq ..⟩
  · exact runs_unchanged h.1 rfl (cfgWrite_refused _ (.inl h.2))
  · obtain ⟨hr, hf⟩ := h
    refine runs_of_done _ rfl ?_
    simp (disch := decide) only [State.irq, State.settled_fld_plain, State.settled_bit_plain, State.settled_pcie]
    rw [cfgWrite_deviceControl hr v rfl, if_pos hf]
    exact flrStart_stored hr _
  · obtain ⟨hr, hf⟩ := h
    refine runs_of_done _ rfl ?_
    simp (disch := decide) only [State.settled_fld_plain, State.settled_reg_plain, State.settled_hq]
    rw [cfgWrite_deviceControl hr v rfl, if_neg (by omega)]
    exact issueReads_stored hr _
  · exact runs_unchanged h.1 rfl (cfgWrite_refused _ (.inl h.2))
  · obtain ⟨hf, ht⟩ := h
    refine runs_of_done _ rfl ?_
    simp (disch := decide) only [State.settled_bit_plain, State.settled_pcie, tagsOut_settled]
    exact flrTimeout_values hf ht
  · refine runs_unchanged h.1 rfl ?_
    by_cases hf : s.fld Reg.PCIE_FLR 0 2 = 1
    · rw [flrTimeout, if_neg (by simp [hf]), if_pos (by simpa [hf] using h.2)]
    · exact if_pos hf
  · obtain ⟨hq, hf, ht⟩ := h
    refine runs_of_done _ rfl ?_
    simp (disch := decide) only [State.settled_fld_plain, State.settled_bit_plain, State.settled_hq, busMaster_settled,
      unlkState_settled]
    exact flrFinish_values hq hf ht
  · exact runs_unchanged h.1 rfl (if_pos (by simpa using h.2))
  · obtain ⟨hr, hd, hn⟩ := h
    refine runs_of_done _ rfl ?_
    simp (disch := decide) only [State.irq, State.settled_bit_plain, mayIssue_settled, inD3_settled]
    rw [cfgWrite_power hr v rfl, if_pos ⟨hd, hn⟩]
    obtain ⟨hdma, hi⟩ := holdHost_values (s.setReg (cfgReg 0x44) (cfgNew s 0x44 0 (bytesLE 2 v.toNat)))
    have hin : inD3 (holdHost (s.setReg (cfgReg 0x44) (cfgNew s 0x44 0 (bytesLE 2 v.toNat)))) = true :=
      (inD3_of_reg ((holdHost_regsOnly _).reg (by decide))).trans ((inD3_stored s _).trans (decide_eq_true hn))
    exact ⟨hin, mayIssue_of_inD3 hin, hdma, hi⟩
  · obtain ⟨hr, hd⟩ := h
    refine runs_of_done _ rfl ?_
    simp (disch := decide) only [State.settled_pcie, State.settled_hq, inD3_settled]
    rw [cfgWrite_power_kept hr v rfl hd]
    exact ⟨(inD3_stored s _).trans hd.symm, State.setReg_pcie .., State.setReg_hq ..⟩
  · exact runs_unchanged h.1 rfl (cfgWrite_refused _ (.inl h.2))
  · obtain ⟨hq, hr, hl, hd, hb, hw, hn⟩ := h
    refine runs_of_done _ rfl ?_
    simp (disch := decide) only [State.settled_bit_plain, State.settled_pcie, mayIssue_settled, inD3_settled]
    rw [cfgWrite_power hr v rfl, if_neg (by simp [hd]), if_pos ⟨hd, by omega⟩]
    exact released_values (cfgStored_quiet hq 0x44 _) (mayIssue_power hr hl hb hw hn)
  · obtain ⟨hr, hd⟩ := h
    refine runs_of_done _ rfl ?_
    simp (disch := decide) only [State.settled_pcie, State.settled_hq, inD3_settled]
    rw [cfgWrite_power_kept hr v rfl hd]
    exact ⟨(inD3_stored s _).trans hd.symm, State.setReg_pcie .., State.setReg_hq ..⟩
  · exact runs_unchanged h.1 rfl (cfgWrite_refused _ (.inl h.2))
  · refine runs_of_done _ rfl ?_
    simp (disch := decide) only [State.settled_fld_plain, State.settled_bit_plain, State.settled_pcie]
    exact pmeTurnOff_values s
  · refine runs_of_done _ rfl ?_
    simp (disch := decide) only [State.settled_fld_plain]
    rw [l0sEntry, if_pos (by simpa using h), fld_setLpm_state]
  · refine runs_unchanged h.1 rfl (if_neg ?_)
    rintro ⟨ha, hu, hs⟩
    simp [ha, hu, hs] at h
  · obtain ⟨ha, hu, hs, hl⟩ := h
    refine runs_of_done _ rfl ?_
    simp (disch := decide) only [State.settled_fld_plain]
    rw [l1Request, if_pos ⟨ha, hu, hs, hl⟩, fld_setLpm_state, Nat.mod_eq_of_lt (deepestLink_lt s)]
  · refine runs_unchanged h.1 rfl (if_neg ?_)
    rintro ⟨ha, hu, hs, hl⟩
    simp [ha, hu, hl] at h
    omega
  · refine runs_of_done _ rfl ?_
    simp (disch := decide) only [State.settled_fld_plain]
    exact linkWake_state h
  · exact runs_unchanged h.1 rfl (if_neg (by omega))
  · refine runs_of_done _ rfl ?_
    simp (disch := decide) only [State.settled_pcie]
    rw [ltrChange, ← h, sendLtr_ltrIdle, sendLtr_out]
    exact ⟨rfl, ltrCondition_out h⟩
  · obtain ⟨hc, hu⟩ := h
    refine runs_of_done _ rfl ?_
    simp (disch := decide) only [State.settled_pcie]
    rw [ltrTimer, if_neg (by simp [hc]), ← hu, sendLtr_ltrIdle, sendLtr_out, hu]
    exact ⟨rfl, rfl⟩
  · exact runs_unchanged h.1 rfl (if_pos h.2)

end Sys2Proof.Machine
end

section
/-! What a tick boundary and the pass of the host side leave of time and of the loop engine: the view that the proof about
ticks (O15) uses, and one rule per operation. -/
namespace Sys2Proof.Machine

/-- The registers of ticks, of VIN, and of the loop engine's boundaries. -/
def tickRegs : List Nat :=
  [Reg.TICK_SUP, Reg.PWR_VIN, Reg.IRQ_RAW 0x01, Reg.IRQ_RAW pgLENG, Reg.STAT pgLENG, Reg.ERR_INFO pgLENG, Reg.LENG_UPD_CTRL,
    Reg.LENG_SHADOW, Reg.LENG_OVR, Reg.LENG_OVR_TICK]

/-- A register that says nothing of ticks. -/
def offTick (a : Nat) : Bool := !tickRegs.contains a

/-- Time, the supervisor's tick, what is late, and the registers of ticks. -/
@[irreducible] def tickView (s : State) : (Nat × Bool × Bool × Option Nat) × List Word :=
  ((s.ticks, s.leng.supOut, s.leng.late, s.leng.overran), tickRegs.map s.reg)

theorem tickView_congr {s t : State} (h1 : t.ticks = s.ticks) (h2 : t.leng.supOut = s.leng.supOut) (h3 : t.leng.late = s.leng.late)
    (h4 : t.leng.overran = s.leng.overran) (h5 : ∀ a ∈ tickRegs, t.reg a = s.reg a) : tickView t = tickView s := by
  unfold tickView
  rw [h1, h2, h3, h4, List.map_congr_left h5]

theorem tickView_iff (s t : State) : tickView t = tickView s ↔ t.ticks = s.ticks ∧ t.leng.supOut = s.leng.supOut ∧
    t.leng.late = s.leng.late ∧ t.leng.overran = s.leng.overran ∧ ∀ a ∈ tickRegs, t.reg a = s.reg a := by
  unfold tickView
  simp only [Prod.mk.injEq, List.map_inj_left, and_assoc]

theorem mem_of_offTick {a : Nat} (h : offTick a = true) : ∀ b ∈ tickRegs, a ≠ b := by
  rintro b hb rfl
  simp [offTick, hb] at h

@[simp] theorem tickView_setReg {a : Nat} (h : offTick a = true) (s : State) (w : Word) : tickView (s.setReg a w) = tickView s :=
  tickView_congr rfl rfl rfl rfl fun b hb => State.reg_setReg_ne s a b w (mem_of_offTick h b hb)
@[simp] theorem tickView_setFld {a : Nat} (h : offTick a = true) (s : State) (lo w v : Nat) : tickView (s.setFld a lo w v) = tickView s :=
  tickView_setReg h s _
@[simp] theorem tickView_setSfld {a : Nat} (h : offTick a = true) (s : State) (lo w : Nat) (v : Int) :
    tickView (s.setSfld a lo w v) = tickView s := tickView_setReg h s _
@[simp] theorem tickView_setBit {a : Nat} (h : offTick a = true) (s : State) (i : Nat) (b : Bool) : tickView (s.setBit a i b) = tickView s :=
  tickView_setReg h s _
@[simp] theorem tickView_addSat {a : Nat} (h : offTick a = true) (s : State) (lo w n : Nat) : tickView (s.addSat a lo w n) = tickView s :=
  tickView_setReg h s _
@[simp] theorem tickView_addMod {a : Nat} (h : offTick a = true) (s : State) (lo w n : Nat) : tickView (s.addMod a lo w n) = tickView s :=
  tickView_setReg h s _
@[simp] theorem tickView_settleIrq {p : Nat} (h : offTick (Reg.IRQ_STAT p) = true) (s : State) : tickView (s.settleIrq p) = tickView s :=
  tickView_setReg h s _
@[simp] theorem tickView_raiseMask {p : Nat} (h : offTick (Reg.IRQ_RAW p) = true) (h' : offTick (Reg.IRQ_STAT p) = true) (s : State) (k : Nat) :
    tickView (s.raiseMask p k) = tickView s := (tickView_settleIrq h' _).trans (tickView_setReg h s _)
@[simp] theorem tickView_raise {p : Nat} (h : offTick (Reg.IRQ_RAW p) = true) (h' : offTick (Reg.IRQ_STAT p) = true) (s : State) (i : Nat) :
    tickView (s.raise p i) = tickView s := tickView_raiseMask h h' s _
@[simp] theorem tickView_err {p : Nat} (h : offTick (Reg.ERR_INFO p) = true) (s : State) (c m : Nat) : tickView (s.err p c m) = tickView s := by
  unfold State.err
  dsimp only
  split
  · exact tickView_setReg h s _
  · exact tickView_addSat h s _ _ _
@[simp] theorem tickView_refuse {p : Nat} (h : offTick (Reg.ERR_INFO p) = true) (s : State) (m : Master) : tickView (s.refuse p m) = tickView s :=
  tickView_err h s _ _

@[simp] theorem tickView_ite {c : Prop} [Decidable c] (s t : State) : tickView (if c then s else t) = if c then tickView s else tickView t :=
  apply_ite tickView c s t

@[simp] theorem tickView_foldl {α : Type} {f : State → α → State} (hf : ∀ s a, tickView (f s a) = tickView s) (l : List α) (s : State) :
    tickView (l.foldl f s) = tickView s := keep_foldl hf l rfl

theorem tickView_foldl_mem {α : Type} {f : State → α → State} {l : List α} (hf : ∀ s, ∀ a ∈ l, tickView (f s a) = tickView s) (s : State) :
    tickView (l.foldl f s) = tickView s := by
  induction l generalizing s with
  | nil => rfl
  | cons a l ih => exact (ih (fun s b hb => hf s b (List.mem_cons_of_mem a hb)) _).trans (hf s a List.mem_cons_self)

/-- The same of a fold that carries something besides the state. -/
theorem tickView_foldl_snd {α β : Type} {f : β × State → α → β × State} (hf : ∀ x a, tickView (f x a).2 = tickView x.2) (l : List α)
    (x : β × State) : tickView (l.foldl f x).2 = tickView x.2 := by
  induction l generalizing x with
  | nil => rfl
  | cons a l ih => exact (ih _).trans (hf x a)

theorem tickView_of_memOnly {s t : State} (h : MemOnly memRegs s t) : tickView t = tickView s := by
  have hn : ∀ a ∈ tickRegs, ¬memRegs a := by decide
  obtain ⟨r, m, x, e, hr⟩ := h.parts
  exact tickView_congr (by rw [hr]) (by rw [hr]) (by rw [hr]) (by rw [hr]) fun a ha => h.reg a (hn a ha)

/-! ## Addresses -/

theorem offTick_iff (a : Nat) : offTick a = true ↔ ∀ b ∈ tickRegs, a ≠ b := by
  constructor
  · exact mem_of_offTick
  · intro h
    simp only [offTick, Bool.not_eq_true', List.contains_eq_mem, decide_eq_false_iff_not]
    exact fun hm => h a hm rfl

theorem offTick_of_le {a : Nat} (h : 0x40007100 ≤ a) : offTick a = true := by
  rw [offTick_iff]
  have hlt : ∀ b ∈ tickRegs, b < 0x40007100 := by decide
  exact fun b hb he => absurd (hlt b hb) (by omega)

@[simp] theorem offTick_FLC_B_CMD (k : Nat) : offTick (Reg.FLC_B_CMD k) = true := offTick_of_le (by simp only [Reg.FLC_B_CMD]; omega)
@[simp] theorem offTick_FLC_B_STAT (k : Nat) : offTick (Reg.FLC_B_STAT k) = true := offTick_of_le (by simp only [Reg.FLC_B_STAT]; omega)
@[simp] theorem offTick_FLC_B_SUSP (k : Nat) : offTick (Reg.FLC_B_SUSP k) = true := offTick_of_le (by simp only [Reg.FLC_B_SUSP]; omega)
@[simp] theorem offTick_HQ_SQPTR (k : Nat) : offTick (Reg.HQ_SQPTR k) = true := offTick_of_le (by simp only [Reg.HQ_SQPTR]; omega)
@[simp] theorem offTick_HQ_CQPTR (k : Nat) : offTick (Reg.HQ_CQPTR k) = true := offTick_of_le (by simp only [Reg.HQ_CQPTR]; omega)
@[simp] theorem offTick_HQ_QCFG (k : Nat) : offTick (Reg.HQ_QCFG k) = true := offTick_of_le (by simp only [Reg.HQ_QCFG]; omega)
@[simp] theorem offTick_CAL_MG_CFG (k : Nat) : offTick (Reg.CAL_MG_CFG k) = true := offTick_of_le (by simp only [Reg.CAL_MG_CFG]; omega)
@[simp] theorem offTick_CAL_MG_TGT (k : Nat) : offTick (Reg.CAL_MG_TGT k) = true := offTick_of_le (by simp only [Reg.CAL_MG_TGT]; omega)
@[simp] theorem offTick_CAL_MG_STAT (k : Nat) : offTick (Reg.CAL_MG_STAT k) = true := offTick_of_le (by simp only [Reg.CAL_MG_STAT]; omega)
@[simp] theorem offTick_LENG_PROG_CYC (k : Nat) : offTick (Reg.LENG_PROG_CYC k) = true := offTick_of_le (by simp only [Reg.LENG_PROG_CYC]; omega)
@[simp] theorem offTick_TRC_CH_BASE (k : Nat) : offTick (Reg.TRC_CH_BASE k) = true := offTick_of_le (by simp only [Reg.TRC_CH_BASE]; omega)
@[simp] theorem offTick_bar0 (k : Nat) : offTick (bar0 k) = true := offTick_of_le (by simp only [bar0]; omega)
@[simp] theorem offTick_cfgReg (k : Nat) : offTick (cfgReg k) = true := offTick_of_le (by simp only [cfgReg]; omega)

/-- What decides it for the registers of an axis or a queue below the loop engine's page. -/
theorem offTick_of_mod {a : Nat} (h : 0x40004080 ≤ a ∧ (a % 64 = 0x20 ∨ a % 64 = 4 ∨ a % 64 = 0x34 ∨ a % 64 = 0)) : offTick a = true := by
  rw [offTick_iff]
  have hb : ∀ b ∈ tickRegs, b < 0x40004080 ∨ (b % 64 ≠ 0x20 ∧ b % 64 ≠ 4 ∧ b % 64 ≠ 0x34 ∧ b % 64 ≠ 0) := by decide
  intro b hm he
  have := hb b hm
  omega

@[simp] theorem offTick_STP_Q_STAT (k : Nat) : offTick (Reg.STP_Q_STAT k) = true := offTick_of_mod (by simp only [Reg.STP_Q_STAT]; omega)
@[simp] theorem offTick_STP_AX_POS (k : Nat) : offTick (Reg.STP_AX_POS k) = true := offTick_of_mod (by simp only [Reg.STP_AX_POS]; omega)
@[simp] theorem offTick_STP_AX_ADDR (k : Nat) : offTick (Reg.STP_AX_ADDR k) = true := offTick_of_mod (by simp only [Reg.STP_AX_ADDR]; omega)
@[simp] theorem offTick_STP_AX_CFG (k : Nat) : offTick (Reg.STP_AX_CFG k) = true := offTick_of_mod (by simp only [Reg.STP_AX_CFG]; omega)

/-- A family of registers with one every 64 bytes below the loop engine's page. -/
theorem offTick_of_lt {a : Nat} (h : 0x40002100 ≤ a ∧ a < 0x40007000) : offTick a = true := by
  rw [offTick_iff]
  have hb : ∀ b ∈ tickRegs, b < 0x40002100 ∨ 0x40007000 ≤ b := by decide
  intro b hm he
  have := hb b hm
  omega

@[simp] theorem offTick_STP_AX_VEL {k : Nat} (h : k < 3) : offTick (Reg.STP_AX_VEL k) = true :=
  offTick_of_lt (by simp only [Reg.STP_AX_VEL]; omega)
@[simp] theorem offTick_ACT_BR_OUT {k : Nat} (h : k < 4) : offTick (Reg.ACT_BR_OUT k) = true :=
  offTick_of_lt (by simp only [Reg.ACT_BR_OUT]; omega)
@[simp] theorem offTick_ACT_BR_IMEAS {k : Nat} (h : k < 4) : offTick (Reg.ACT_BR_IMEAS k) = true :=
  offTick_of_lt (by simp only [Reg.ACT_BR_IMEAS]; omega)
@[simp] theorem offTick_SADC_CH_VAL {k : Nat} (h : k < 32) : offTick (Reg.SADC_CH_VAL k) = true :=
  offTick_of_lt (by simp only [Reg.SADC_CH_VAL]; omega)
@[simp] theorem offTick_SPN_SH_RAW {k : Nat} (h : k < 3) : offTick (Reg.SPN_SH_RAW k) = true :=
  offTick_of_lt (by simp only [Reg.SPN_SH_RAW]; omega)

@[simp] theorem tickView_setL (s : State) {l : Leng} (h1 : l.supOut = s.leng.supOut) (h2 : l.late = s.leng.late) (h3 : l.overran = s.leng.overran) :
    tickView (s.setL l) = tickView s := tickView_congr rfl h1 h2 h3 fun _ _ => rfl

/-! ## Parts that say nothing of ticks -/

@[simp] theorem tickView_with_supStat (s : State) (x : List (Nat × Word)) : tickView { s with supStat := x } = tickView s :=
  tickView_congr (rfl) (rfl) (rfl) (rfl) fun _ _ => rfl
@[simp] theorem tickView_with_rwoDone (s : State) (x : List Nat) : tickView { s with rwoDone := x } = tickView s :=
  tickView_congr (rfl) (rfl) (rfl) (rfl) fun _ _ => rfl
@[simp] theorem tickView_with_roRecs (s : State) (x : List (Nat × Nat)) : tickView { s with roRecs := x } = tickView s :=
  tickView_congr (rfl) (rfl) (rfl) (rfl) fun _ _ => rfl
@[simp] theorem tickView_with_latches (s : State) (x : List (Nat × Nat × Word)) : tickView { s with latches := x } = tickView s :=
  tickView_congr (rfl) (rfl) (rfl) (rfl) fun _ _ => rfl
@[simp] theorem tickView_with_resp (s : State) (x : Resp) : tickView { s with resp := x } = tickView s :=
  tickView_congr (rfl) (rfl) (rfl) (rfl) fun _ _ => rfl
@[simp] theorem tickView_with_mem (s : State) (x : List Host.Cell) : tickView { s with mem := x } = tickView s :=
  tickView_congr (rfl) (rfl) (rfl) (rfl) fun _ _ => rfl
@[simp] theorem tickView_with_fresh (s : State) (x : Nat) : tickView { s with fresh := x } = tickView s :=
  tickView_congr (rfl) (rfl) (rfl) (rfl) fun _ _ => rfl
@[simp] theorem tickView_with_boot (s : State) (x : Boot) : tickView { s with boot := x } = tickView s :=
  tickView_congr (rfl) (rfl) (rfl) (rfl) fun _ _ => rfl
@[simp] theorem tickView_with_harts (s : State) (x : List Hart) : tickView { s with harts := x } = tickView s :=
  tickView_congr (rfl) (rfl) (rfl) (rfl) fun _ _ => rfl
@[simp] theorem tickView_with_pwr (s : State) (x : Pwr) : tickView { s with pwr := x } = tickView s :=
  tickView_congr (rfl) (rfl) (rfl) (rfl) fun _ _ => rfl
@[simp] theorem tickView_with_rd (s : State) (x : ReadPath) : tickView { s with rd := x } = tickView s :=
  tickView_congr (rfl) (rfl) (rfl) (rfl) fun _ _ => rfl
@[simp] theorem tickView_with_wenc (s : State) (x : WritePath) : tickView { s with wenc := x } = tickView s :=
  tickView_congr (rfl) (rfl) (rfl) (rfl) fun _ _ => rfl
@[simp] theorem tickView_with_spn (s : State) (x : Spn) : tickView { s with spn := x } = tickView s :=
  tickView_congr (rfl) (rfl) (rfl) (rfl) fun _ _ => rfl
@[simp] theorem tickView_with_stp (s : State) (x : Steppers) : tickView { s with stp := x } = tickView s :=
  tickView_congr (rfl) (rfl) (rfl) (rfl) fun _ _ => rfl
@[simp] theorem tickView_with_fmt (s : State) (x : Fmt) : tickView { s with fmt := x } = tickView s :=
  tickView_congr (rfl) (rfl) (rfl) (rfl) fun _ _ => rfl
@[simp] theorem tickView_with_sv (s : State) (x : Servo) : tickView { s with sv := x } = tickView s :=
  tickView_congr (rfl) (rfl) (rfl) (rfl) fun _ _ => rfl
@[simp] theorem tickView_with_cal (s : State) (x : Cal) : tickView { s with cal := x } = tickView s :=
  tickView_congr (rfl) (rfl) (rfl) (rfl) fun _ _ => rfl
@[simp] theorem tickView_with_pcie (s : State) (x : Pcie) : tickView { s with pcie := x } = tickView s :=
  tickView_congr (rfl) (rfl) (rfl) (rfl) fun _ _ => rfl
@[simp] theorem tickView_with_hq (s : State) (x : HostQueues) : tickView { s with hq := x } = tickView s :=
  tickView_congr (rfl) (rfl) (rfl) (rfl) fun _ _ => rfl
@[simp] theorem tickView_with_xlt (s : State) (x : Xlt) : tickView { s with xlt := x } = tickView s :=
  tickView_congr (rfl) (rfl) (rfl) (rfl) fun _ _ => rfl
@[simp] theorem tickView_with_ms (s : State) (x : MemSys) : tickView { s with ms := x } = tickView s :=
  tickView_congr (rfl) (rfl) (rfl) (rfl) fun _ _ => rfl
@[simp] theorem tickView_with_flash (s : State) (x : Flash) : tickView { s with flash := x } = tickView s :=
  tickView_congr (rfl) (rfl) (rfl) (rfl) fun _ _ => rfl
@[simp] theorem tickView_with_opt (s : State) (x : Opt) : tickView { s with opt := x } = tickView s :=
  tickView_congr (rfl) (rfl) (rfl) (rfl) fun _ _ => rfl
@[simp] theorem tickView_with_evr (s : State) (x : Evr) : tickView { s with evr := x } = tickView s :=
  tickView_congr (rfl) (rfl) (rfl) (rfl) fun _ _ => rfl
@[simp] theorem tickView_with_sec (s : State) (x : Sec) : tickView { s with sec := x } = tickView s :=
  tickView_congr (rfl) (rfl) (rfl) (rfl) fun _ _ => rfl
@[simp] theorem tickView_with_pending (s : State) (x : List Instr) : tickView { s with pending := x } = tickView s :=
  tickView_congr (rfl) (rfl) (rfl) (rfl) fun _ _ => rfl

end Sys2Proof.Machine
end

section
/-! What the pass of the host side leaves of time and of the loop engine: one rule per function that `pump` calls (O15). Each proof
unfolds its function once and closes by the rules of the functions it calls. -/
namespace Sys2Proof.Machine

@[simp] theorem tickView_report (s : State) (p code master : Nat) (qty : List Nat) : tickView (State.report s p code master qty) = tickView s := by
  unfold State.report
  simp +decide

@[simp] theorem tickView_setByte (s : State) (a : Nat) (b : Byte) : tickView (State.setByte s a b) = tickView s := by
  unfold State.setByte
  simp +decide

@[simp] theorem tickView_setBytes (l : List Nat) (s : State) (a : Nat) : tickView (s.setBytes a l) = tickView s := by
  induction l generalizing s a with
  | nil => rfl
  | cons b l ih => rw [State.setBytes, ih, tickView_setByte]

@[simp] theorem tickView_aclRefuse (s : State) (m : Master) (a target : Nat) (x : AccKind) : tickView (aclRefuse s m a target x) = tickView s :=
  tickView_of_memOnly (aclRefuse_memOnly s m a target x)

@[simp] theorem tickView_dropUe (s : State) (p : Nat → Bool) : tickView (dropUe s p) = tickView s := by
  unfold dropUe
  simp +decide

@[simp] theorem tickView_failMacro (s : State) (k : Nat) : tickView (failMacro s k) = tickView s := by
  unfold failMacro
  simp +decide

@[simp] theorem tickView_noteUe (s : State) (m : Master) (w : Nat) : tickView (noteUe s m w) = tickView s :=
  tickView_of_memOnly (noteUe_memOnly s m w)

@[simp] theorem tickView_correctWord (s : State) (w : Nat) : tickView (correctWord s w) = tickView s :=
  tickView_of_memOnly (correctWord_memOnly s w)

@[simp] theorem tickView_copyWord (s : State) (src dst : Nat) : tickView (copyWord s src dst) = tickView s := by
  unfold copyWord
  simp +decide

@[simp] theorem tickView_readWord (s : State) (m : Master) (w : Nat) : tickView (readWord s m w).2 = tickView s :=
  tickView_of_memOnly (readWord_memOnly s m w)

@[simp] theorem tickView_readWords (m : Master) (l : List Nat) (s : State) : tickView (readWords m l s).2 = tickView s :=
  tickView_of_memOnly (readWords_memOnly m l s)

@[simp] theorem tickView_memRead (s : State) (m : Master) (a n : Nat) : tickView (memRead s m a n).2.2 = tickView s :=
  tickView_of_memOnly (memRead_memOnly s m a n)

@[simp] theorem tickView_injectAt (s : State) (w : Nat) : tickView (injectAt s w) = tickView s :=
  tickView_of_memOnly (injectAt_memOnly s w)

@[simp] theorem tickView_writeWordCopy (s : State) (m : Master) (a : Nat) (bs : List Nat) : tickView (writeWordCopy s m a bs) = tickView s :=
  tickView_of_memOnly (writeWordCopy_memOnly s m a bs)

@[simp] theorem tickView_writeWord (s : State) (m : Master) (a : Nat) (bs : List Nat) : tickView (writeWord s m a bs) = tickView s :=
  tickView_of_memOnly (writeWord_memOnly s m a bs)

@[simp] theorem tickView_writeWords (m : Master) (n a : Nat) (bs : List Nat) (s : State) : tickView (writeWords m n a bs s) = tickView s :=
  tickView_of_memOnly (writeWords_memOnly m n a bs s)

@[simp] theorem tickView_memWrite (s : State) (m : Master) (a : Nat) (bs : List Nat) : tickView (memWrite s m a bs) = tickView s :=
  tickView_of_memOnly (memWrite_memOnly s m a bs)

@[simp] theorem tickView_setSt (s : State) (x : Steppers) : tickView (State.setSt s x) = tickView s := by
  unfold State.setSt
  simp +decide

@[simp] theorem tickView_setGrp (s : State) (g : Nat) (x : StepGroup) : tickView (State.setGrp s g x) = tickView s := by
  unfold State.setGrp
  simp +decide

@[simp] theorem tickView_setAxis {a : Nat} (ha : a < 3) (s : State) (x : StepAxis) : tickView (s.setAxis a x) = tickView s := by
  unfold State.setAxis
  simp [ha]

@[simp] theorem tickView_moveAxis {a : Nat} (ha : a < 3) (s : State) (v : Int) (pos : Int) : tickView (moveAxis s a v pos) = tickView s := by
  unfold moveAxis
  simp +decide [ha]

@[simp] theorem tickView_setSel {a : Nat} (ha : a < 3) (s : State) (c : CoilSel) : tickView (setSel s a c) = tickView s := by
  unfold setSel
  simp +decide [ha]

@[simp] theorem tickView_groupRegs (s : State) (g : Nat) : tickView (groupRegs s g) = tickView s := by
  unfold groupRegs
  simp +decide

@[simp] theorem tickView_placeGroup (s : State) (g : Nat) (r : StepRun) (p v : Rat) : tickView (placeGroup s g r p v) = tickView s := by
  refine tickView_foldl_mem (fun s a ha => ?_) s
  have ha := List.mem_range.mp ha
  dsimp only
  split
  · rfl
  · rw [tickView_setSel ha, tickView_moveAxis ha]

@[simp] theorem tickView_startMove (s : State) (g : Nat) (vin lead : Rat) : tickView (startMove s g vin lead) = tickView s := by
  unfold startMove
  simp +decide
  split <;> simp +decide

@[simp] theorem tickView_groupRest (s : State) (g : Nat) : tickView (groupRest s g) = tickView s := by
  unfold groupRest
  simp +decide

@[simp] theorem tickView_moveEnd (g : Nat) (s : State) : tickView (moveEnd g s) = tickView s := by
  unfold moveEnd
  split <;> simp +decide

@[simp] theorem tickView_groupStop (s : State) (g : Nat) : tickView (groupStop s g) = tickView s := by
  unfold groupStop
  simp +decide
  split <;> simp +decide

@[simp] theorem tickView_parkAxis {a : Nat} (ha : a < 3) (s : State) : tickView (parkAxis s a) = tickView s := by
  unfold parkAxis
  simp +decide [ha]

@[simp] theorem tickView_parkStart (s : State) : tickView (parkStart s) = tickView s := by
  unfold parkStart
  dsimp only
  split
  · rfl
  · split
    · simp +decide
    · rw [tickView_setBit (by decide)]
      exact tickView_foldl_mem (fun s a ha => tickView_parkAxis (List.mem_range.mp (List.mem_filter.mp ha).1) s) s

@[simp] theorem tickView_setW (s : State) (w : WritePath) : tickView (State.setW s w) = tickView s := by
  unfold State.setW
  simp +decide

@[simp] theorem tickView_putArm (s : State) (a : Arm) : tickView (putArm s a) = tickView s := by
  unfold putArm
  simp +decide

@[simp] theorem tickView_vqStore (s : State) (rec : List Nat) : tickView (vqStore s rec) = tickView s := by
  unfold vqStore
  simp +decide

@[simp] theorem tickView_vqPut (s : State) (rec : List Nat) : tickView (vqPut s rec) = tickView s := by
  unfold vqPut
  simp +decide

@[simp] theorem tickView_giveVerdict (s : State) (a : Arm) (verdict cause : Nat) : tickView (giveVerdict s a verdict cause) = tickView s := by
  unfold giveVerdict
  simp +decide

@[simp] theorem tickView_drawGrade (s : State) (psa sidx : Nat) (good equal : Bool) (iters raw : Nat) : tickView (drawGrade s psa sidx good equal iters raw) = tickView s := by
  unfold drawGrade
  simp +decide
  split <;> simp +decide

@[simp] theorem tickView_failShare (s : State) (a : Arm) (from_ c : Nat) : tickView (failShare s a from_ c) = tickView s := by
  unfold failShare
  simp +decide

@[simp] theorem tickView_failRest (s : State) : tickView (failRest s) = tickView s := by
  unfold failRest
  split <;> simp +decide

@[simp] theorem tickView_posIdle (s : State) : tickView (posIdle s) = tickView s := by
  unfold posIdle
  simp +decide

@[simp] theorem tickView_voidFront (s : State) (cause : Nat) : tickView (voidFront s cause) = tickView s := by
  unfold voidFront
  split <;> simp +decide

@[simp] theorem tickView_notStarted (s : State) (a : Arm) : tickView (notStarted s a) = tickView s := by
  unfold notStarted
  simp +decide

@[simp] theorem tickView_dropGate (s : State) (cause : Nat) : tickView (dropGate s cause) = tickView s := by
  unfold dropGate
  simp +decide

@[simp] theorem tickView_recordReadOnly (s : State) (m : Master) (a : Nat) (v : Word) : tickView (recordReadOnly s m a v) = tickView s := by
  unfold recordReadOnly
  split
  · exact tickView_congr rfl rfl rfl rfl fun _ _ => rfl
  · rfl

@[simp] theorem tickView_writeDropped {a : Nat} (h : offTick (Reg.ERR_INFO (pageOf a)) = true) (s : State) (m : Master) (v : Word) (w : WriteVerdict) :
    tickView (writeDropped s m a v w) = tickView s := by
  cases w <;> simp +decide [writeDropped, h]

@[simp] theorem tickView_putReg {a : Nat} (h : offTick a = true) (hi : ¬(a % 0x1000 = 0x10 ∨ a % 0x1000 = 0x14)) (s : State) (new : Word) :
    tickView (s.putReg a new) = tickView s := by
  obtain ⟨r, l, w, he⟩ := s.putReg_eq a new
  exact tickView_congr (by rw [he]) (by rw [he]) (by rw [he]) (by rw [he]) fun b hb => s.reg_putReg_ne b new (mem_of_offTick h b hb) hi

@[simp] theorem tickView_regWrite {a : Nat} {eff : State → State} (heff : ∀ u, tickView (eff u) = tickView u) (h : offTick a = true)
    (hi : ¬(a % 0x1000 = 0x10 ∨ a % 0x1000 = 0x14)) (he : offTick (Reg.ERR_INFO (pageOf a)) = true) (s : State) (m : Master) (size : Nat)
    (v : Word) : tickView (regWrite s m a size v eff) = tickView s := by
  unfold regWrite
  split
  · rw [heff, tickView_putReg h hi]
  · exact tickView_writeDropped he s m v _

@[simp] theorem tickView_regWriteIf {a : Nat} {eff : State → State} (heff : ∀ u, tickView (eff u) = tickView u) (h : offTick a = true)
    (hi : ¬(a % 0x1000 = 0x10 ∨ a % 0x1000 = 0x14)) (he : offTick (Reg.ERR_INFO (pageOf a)) = true) (s : State) (m : Master) (size : Nat)
    (v : Word) (ok : Bool) : tickView (regWriteIf s m a size v ok eff) = tickView s := by
  unfold regWriteIf
  split
  · split
    · rw [heff, tickView_putReg h hi]
    · exact tickView_refuse he s m
  · exact tickView_writeDropped he s m v _

@[simp] theorem tickView_setFlash (s : State) (x : Flash) : tickView (State.setFlash s x) = tickView s := by
  unfold State.setFlash
  simp +decide

@[simp] theorem tickView_setFw (s : State) (w : Nat) (x : FlashWord) : tickView (State.setFw s w x) = tickView s := by
  unfold State.setFw
  simp +decide

@[simp] theorem tickView_setBank (s : State) (b : Nat) (x : FlashBank) : tickView (State.setBank s b x) = tickView s := by
  unfold State.setBank
  simp +decide

@[simp] theorem tickView_openIntentFor (s : State) (b sec : Nat) : tickView (openIntentFor s b sec).2 = tickView s := by
  unfold openIntentFor
  simp +decide

@[simp] theorem tickView_setResult (s : State) (b n : Nat) : tickView (setResult s b n) = tickView s := by
  unfold setResult
  simp +decide

@[simp] theorem tickView_syncBank (s : State) (b : Nat) : tickView (syncBank s b) = tickView s := by
  unfold syncBank
  simp +decide

@[simp] theorem tickView_flcRefuse (s : State) (m : Master) (b res : Nat) : tickView (flcRefuse s m b res) = tickView s := by
  unfold flcRefuse
  simp +decide

@[simp] theorem tickView_flcStart (s : State) (b : Nat) (r : FlashReq) : tickView (flcStart s b r) = tickView s := by
  unfold flcStart
  simp +decide

@[simp] theorem tickView_eraseRuns (s : State) (b : Nat) : tickView (eraseRuns s b) = tickView s := by
  unfold eraseRuns
  simp +decide

@[simp] theorem tickView_autoResume (s : State) (b : Nat) : tickView (autoResume s b) = tickView s := by
  unfold autoResume
  simp +decide

@[simp] theorem tickView_autoSuspend (s : State) (b : Nat) : tickView (autoSuspend s b) = tickView s := by
  unfold autoSuspend
  simp +decide
  split <;> simp +decide

@[simp] theorem tickView_pumpBank (b n : Nat) (s : State) : tickView (pumpBank b n s) = tickView s := by
  induction n generalizing s with
  | zero => rfl
  | succ n ih =>
    rw [pumpBank]
    dsimp only
    split
    · rfl
    · split
      · rfl
      · split <;> simp [ih]

@[simp] theorem tickView_flcPump (s : State) (b : Nat) : tickView (flcPump s b) = tickView s := by
  unfold flcPump
  simp +decide

@[simp] theorem tickView_flcRequest (s : State) (r : FlashReq) : tickView (flcRequest s r) = tickView s := by
  unfold flcRequest
  simp +decide

@[simp] theorem tickView_setRd (s : State) (x : ReadPath) : tickView (State.setRd s x) = tickView s := by
  unfold State.setRd
  simp +decide

@[simp] theorem tickView_readCounts (s : State) : tickView (readCounts s) = tickView s := by
  unfold readCounts
  simp +decide

@[simp] theorem tickView_mapGroup (s : State) (psa : Nat) (f : GroupRead → GroupRead) : tickView (mapGroup s psa f) = tickView s := by
  unfold mapGroup
  simp +decide

@[simp] theorem tickView_mapStrip (s : State) (psa : Nat) (f : StripRead → StripRead) : tickView (mapStrip s psa f) = tickView s := by
  unfold mapStrip
  simp +decide

@[simp] theorem tickView_dropWork (s : State) (gone : WorkSlot → Bool) : tickView (dropWork s gone) = tickView s := by
  unfold dropWork
  simp +decide

@[simp] theorem tickView_releaseSlotsDone (s : State) : tickView (releaseSlotsDone s) = tickView s := by
  unfold releaseSlotsDone
  simp +decide

@[simp] theorem tickView_readArm (s : State) (psa tag wanted : Nat) (patrol : Bool) : tickView (readArm s psa tag wanted patrol) = tickView s := by
  unfold readArm
  simp +decide

@[simp] theorem tickView_releaseStrips (s : State) (free : Nat → Bool) : tickView (releaseStrips s free) = tickView s := by
  unfold releaseStrips
  simp +decide

@[simp] theorem tickView_setPcie (s : State) (x : Pcie) : tickView (State.setPcie s x) = tickView s := by
  unfold State.setPcie
  simp +decide

@[simp] theorem tickView_setHq (s : State) (x : HostQueues) : tickView (State.setHq s x) = tickView s := by
  unfold State.setHq
  simp +decide

@[simp] theorem tickView_setLpm (s : State) (lpm code : Nat) : tickView (setLpm s lpm code) = tickView s := by
  unfold setLpm
  simp +decide

@[simp] theorem tickView_linkWake (s : State) : tickView (linkWake s) = tickView s := by
  unfold linkWake
  simp +decide

@[simp] theorem tickView_syncDma (s : State) : tickView (syncDma s) = tickView s := by
  unfold syncDma
  simp +decide

@[simp] theorem tickView_issueAll (n : Nat) (s : State) : tickView (issueAll n s) = tickView s := by
  induction n generalizing s with
  | zero => rfl
  | succ n ih =>
    rw [issueAll]
    dsimp only
    split
    · rfl
    · split
      · rw [ih, tickView_linkWake, tickView_setPcie]
      · rfl

@[simp] theorem tickView_issueReads (s : State) : tickView (issueReads s) = tickView s := by
  unfold issueReads
  simp +decide

@[simp] theorem tickView_hostRead (s : State) (what : ReadFor) (addr off n : Nat) : tickView (hostRead s what addr off n) = tickView s := by
  unfold hostRead
  simp +decide

@[simp] theorem tickView_emitOut (s : State) (o : Out) : tickView (emitOut s o) = tickView s := by
  unfold emitOut
  simp +decide

@[simp] theorem tickView_sendData (s : State) (addr : Nat) (bs : List Nat) : tickView (sendData s addr bs) = tickView s := by
  unfold sendData
  simp +decide

@[simp] theorem tickView_sendPages (s : State) (pages : List Nat) (off : Nat) (bs : List Nat) : tickView (sendPages s pages off bs) = tickView s := by
  unfold sendPages
  simp +decide

@[simp] theorem tickView_fetchPages (s : State) (what : ReadFor) (pages : List Nat) (off n : Nat) : tickView (fetchPages s what pages off n) = tickView s := by
  unfold fetchPages
  simp +decide

@[simp] theorem tickView_sendMsix (s : State) (v : Nat) : tickView (sendMsix s v) = tickView s := by
  unfold sendMsix
  simp

@[simp] theorem tickView_updCtx (s : State) (seq : Nat) (f : Ctx → Ctx) : tickView (State.updCtx s seq f) = tickView s := by
  unfold State.updCtx
  simp +decide

@[simp] theorem tickView_dropCtx (s : State) (keep : Ctx → Bool) : tickView (dropCtx s keep) = tickView s := by
  unfold dropCtx
  simp +decide

@[simp] theorem tickView_syncCtx (s : State) : tickView (syncCtx s) = tickView s := by
  unfold syncCtx
  simp +decide

@[simp] theorem tickView_logError (s : State) (c : Ctx) (status lba : Nat) : tickView (logError s c status lba) = tickView s := by
  unfold logError
  simp +decide

@[simp] theorem tickView_postOne (s : State) (c : Ctx) (q : Cq) : tickView (postOne s c q) = tickView s := by
  unfold postOne
  simp +decide

@[simp] theorem tickView_postDone (l : List Ctx) (s : State) : tickView (postDone l s) = tickView s := by
  induction l generalizing s with
  | nil => rfl
  | cons c l ih =>
    rw [postDone]
    split
    · exact ih s
    · split
      · split
        · rw [ih, tickView_postOne]
        · exact ih s
      · exact ih s

@[simp] theorem tickView_postAll (n : Nat) (s : State) : tickView (postAll n s) = tickView s := by
  induction n generalizing s with
  | zero => rfl
  | succ n ih =>
    rw [postAll]
    dsimp only
    split
    · simp [ih]
    · simp +decide

@[simp] theorem tickView_postReady (s : State) : tickView (postReady s) = tickView s := by
  unfold postReady
  simp +decide

@[simp] theorem tickView_finish (s : State) (seq status dw0 lba : Nat) : tickView (finish s seq status dw0 lba) = tickView s := by
  unfold finish
  split <;> simp +decide

@[simp] theorem tickView_pmeNote (s : State) (row : Nat) : tickView (pmeNote s row) = tickView s := by
  unfold pmeNote
  simp +decide

@[simp] theorem tickView_reportEvent (s : State) (c : Ctx) (key : Nat) : tickView (reportEvent s c key) = tickView s := by
  unfold reportEvent
  simp +decide

@[simp] theorem tickView_setWaiting (s : State) (l : List Nat) : tickView (setWaiting s l) = tickView s := by
  unfold setWaiting
  simp +decide

@[simp] theorem tickView_asyncEvent (s : State) (row info : Nat) : tickView (asyncEvent s row info) = tickView s := by
  unfold asyncEvent
  simp +decide
  split <;> simp +decide

@[simp] theorem tickView_dropSnapshot (s : State) (c : Ctx) : tickView (dropSnapshot s c) = tickView s := by
  unfold dropSnapshot
  simp +decide

@[simp] theorem tickView_withdrawRead (s : State) (c : Ctx) : tickView (withdrawRead s c) = tickView s := by
  unfold withdrawRead
  simp +decide

@[simp] theorem tickView_orphan (s : State) (seq : Nat) : tickView (orphan s seq) = tickView s := by
  unfold orphan
  simp +decide

@[simp] theorem tickView_dropReads (s : State) (seq : Nat) : tickView (dropReads s seq) = tickView s := by
  unfold dropReads
  simp +decide

@[simp] theorem tickView_endCmd (s : State) (seq status dw0 lba : Nat) : tickView (endCmd s seq status dw0 lba) = tickView s := by
  unfold endCmd
  split <;> simp +decide

@[simp] theorem tickView_failCmd (s : State) (seq status dw0 lba : Nat) : tickView (failCmd s seq status dw0 lba) = tickView s := by
  unfold failCmd
  split <;> simp +decide

@[simp] theorem tickView_setEvr (s : State) (x : Evr) : tickView (State.setEvr s x) = tickView s := by
  unfold State.setEvr
  simp +decide

@[simp] theorem tickView_syncRing (s : State) : tickView (syncRing s) = tickView s := by
  unfold syncRing
  simp +decide

@[simp] theorem tickView_syncPfr (s : State) : tickView (syncPfr s) = tickView s := by
  unfold syncPfr
  simp +decide

@[simp] theorem tickView_ringPut (s : State) (r : EvRec) : tickView (ringPut s r) = tickView s := by
  unfold ringPut
  simp +decide

@[simp] theorem tickView_ringCatchUp (l : List EvRec) (s : State) : tickView (ringCatchUp l s) = tickView s := by
  induction l generalizing s with
  | nil => rfl
  | cons r l ih => rw [ringCatchUp, ih, tickView_ringPut]

@[simp] theorem tickView_toRing (s : State) (r : EvRec) : tickView (toRing s r) = tickView s := by
  unfold toRing
  simp +decide

@[simp] theorem tickView_evrProgram (s : State) (off : Nat) (bs : List Nat) (tag : Nat) : tickView (evrProgram s off bs tag) = tickView s := by
  unfold evrProgram
  simp +decide

@[simp] theorem tickView_evrErase (s : State) (off tag : Nat) : tickView (evrErase s off tag) = tickView s := by
  unfold evrErase
  simp +decide

@[simp] theorem tickView_openRing (s : State) (sec : Nat) : tickView (openRing s sec) = tickView s := by
  unfold openRing
  simp +decide

@[simp] theorem tickView_evrIssue (s : State) : tickView (evrIssue s) = tickView s := by
  unfold evrIssue
  split <;> simp +decide

@[simp] theorem tickView_evrPump (s : State) : tickView (evrPump s) = tickView s := by
  unfold evrPump
  simp +decide

@[simp] theorem tickView_captureStart (s : State) : tickView (captureStart s) = tickView s := by
  unfold captureStart
  simp +decide

@[simp] theorem tickView_takeRecord (s : State) (code master sev : Nat) (hw : Bool) (payload : List Nat) : tickView (takeRecord s code master sev hw payload) = tickView s := by
  unfold takeRecord
  simp +decide

@[simp] theorem tickView_clearFinish (s : State) (old new : Nat) (owner : List Nat) (atBoot : Bool) : tickView (clearFinish s old new owner atBoot) = tickView s := by
  unfold clearFinish
  simp +decide

@[simp] theorem tickView_clearRun (s : State) (owner : List Nat) : tickView (clearRun s owner) = tickView s := by
  unfold clearRun
  simp +decide

@[simp] theorem tickView_setXlt (s : State) (x : Xlt) : tickView (State.setXlt s x) = tickView s := by
  unfold State.setXlt
  simp +decide

@[simp] theorem tickView_readIndex (s : State) : tickView (readIndex s).2 = tickView s := by
  unfold readIndex
  simp +decide
  split <;> simp +decide

@[simp] theorem tickView_writeIndex (s : State) (l : List IdxEnt) : tickView (writeIndex s l) = tickView s := by
  unfold writeIndex
  simp +decide

@[simp] theorem tickView_readLeaf (s : State) (leaf : Nat) : tickView (readLeaf s leaf).2 = tickView s := by
  unfold readLeaf
  simp +decide

@[simp] theorem tickView_writeLeaf (s : State) (leaf : Nat) (l : List Ext) : tickView (writeLeaf s leaf l) = tickView s := by
  unfold writeLeaf
  simp +decide

@[simp] theorem tickView_reportCorrupt (s : State) (leaf : Nat) : tickView (reportCorrupt s leaf) = tickView s := by
  unfold reportCorrupt
  simp +decide

@[simp] theorem tickView_lookupIn (l : List IdxEnt) (a n : Nat) (is : List Nat) (s : State) :
    tickView (lookupIn l a n is s).2 = tickView s := by
  induction is generalizing s with
  | nil => rfl
  | cons i is ih =>
    rw [lookupIn]
    dsimp only
    split
    · rw [tickView_reportCorrupt, tickView_readLeaf]
    · rw [ih, tickView_readLeaf]

@[simp] theorem tickView_lookup (s : State) (a n : Nat) : tickView (lookup s a n).2 = tickView s := by
  unfold lookup
  simp +decide

@[simp] theorem tickView_setBrick (s : State) (n : Nat) (b : Brick) : tickView (State.setBrick s n b) = tickView s := by
  unfold State.setBrick
  simp +decide

@[simp] theorem tickView_updBrick (s : State) (n : Nat) (f : Brick → Brick) : tickView (State.updBrick s n f) = tickView s := by
  unfold State.updBrick
  simp +decide

@[simp] theorem tickView_syncPool (s : State) : tickView (syncPool s) = tickView s := by
  unfold syncPool
  simp +decide
  split <;> simp +decide

@[simp] theorem tickView_addValid (s : State) (l : List Ext) (enter : Bool) : tickView (addValid s l enter) = tickView s := by
  unfold addValid
  simp +decide

@[simp] theorem tickView_storeLeaf (s : State) (l : List IdxEnt) (i : Nat) (es : List Ext) : tickView (storeLeaf s l i es).2 = tickView s := by
  unfold storeLeaf
  dsimp only
  repeat' split
  all_goals simp +decide

@[simp] theorem tickView_mergeLeaves (s : State) (l : List IdxEnt) (i : Nat) : tickView (mergeLeaves s l i).2 = tickView s := by
  unfold mergeLeaves
  dsimp only
  repeat' split
  all_goals simp +decide

@[simp] theorem tickView_setIn (a n : Nat) (new : Option Ext) (is : List Nat) (l : List IdxEnt) (s : State) :
    tickView (setIn a n new is l s).2 = tickView s := by
  induction is generalizing l s with
  | nil => rfl
  | cons i is ih =>
    rw [setIn]
    dsimp only
    split
    · rw [ih, tickView_readLeaf]
    · rw [ih]
      split <;> split <;> simp +decide

@[simp] theorem tickView_checkLeaves (s : State) : tickView (checkLeaves s) = tickView s := by
  unfold checkLeaves
  simp +decide

@[simp] theorem tickView_setRange (s : State) (a n : Nat) (new : Option Ext) : tickView (setRange s a n new) = tickView s := by
  unfold setRange
  simp +decide

@[simp] theorem tickView_setAll (l : List Ext) (s : State) : tickView (setAll l s) = tickView s := by
  unfold setAll
  simp +decide

@[simp] theorem tickView_setCond (s : State) (e : Ext) (srcPsa srcSsec : Nat) : tickView (setCond s e srcPsa srcSsec) = tickView s := by
  unfold setCond
  simp +decide

@[simp] theorem tickView_setJr (s : State) (x : Journal) : tickView (State.setJr s x) = tickView s := by
  unfold State.setJr
  simp +decide

@[simp] theorem tickView_jrProgram (s : State) (sec rec_ tag : Nat) (b : List Nat) : tickView (jrProgram s sec rec_ tag b) = tickView s := by
  unfold jrProgram
  simp +decide

@[simp] theorem tickView_jrErase (s : State) (sec : Nat) : tickView (jrErase s sec) = tickView s := by
  unfold jrErase
  simp +decide

@[simp] theorem tickView_jrForeign (s : State) (sec : Nat) : tickView (jrForeign s sec) = tickView s := by
  unfold jrForeign
  split <;> simp +decide

@[simp] theorem tickView_syncJrnl (s : State) : tickView (syncJrnl s) = tickView s := by
  unfold syncJrnl
  simp +decide

@[simp] theorem tickView_jrOpen (s : State) (tag : Nat) : tickView (jrOpen s tag) = tickView s := by
  unfold jrOpen
  simp +decide

@[simp] theorem tickView_jrRecords (tag : Nat) (l : List (List Nat)) (s : State) : tickView (jrRecords tag l s) = tickView s := by
  induction l generalizing s with
  | nil => rfl
  | cons b l ih =>
    rw [jrRecords]
    dsimp only
    split <;> split <;> simp [ih]

@[simp] theorem tickView_jrGive (n : Nat) (s : State) : tickView (jrGive n s) = tickView s := by
  induction n generalizing s with
  | zero => rfl
  | succ n ih =>
    rw [jrGive]
    split
    · rfl
    · simp +decide [ih]

@[simp] theorem tickView_jrRetry (s : State) : tickView (jrRetry s) = tickView s := by
  unfold jrRetry
  simp +decide

@[simp] theorem tickView_jrPump (s : State) : tickView (jrPump s) = tickView s := by
  unfold jrPump
  simp +decide

@[simp] theorem tickView_commitUnit (s : State) (what : UnitFor) (recs : List (List Nat)) : tickView (commitUnit s what recs) = tickView s := by
  unfold commitUnit
  simp +decide

@[simp] theorem tickView_commitBrick (s : State) (n st : Nat) : tickView (commitBrick s n st) = tickView s := by
  unfold commitBrick
  simp +decide

@[simp] theorem tickView_xltFault (s : State) (irq code : Nat) (cnt : Option Nat) : tickView (xltFault s irq code cnt) = tickView s := by
  unfold xltFault
  split <;> simp +decide

@[simp] theorem tickView_updSlot (s : State) (k : Nat) (f : XSlot → XSlot) : tickView (updSlot s k f) = tickView s := by
  unfold updSlot
  simp +decide

@[simp] theorem tickView_openSlot (s : State) (kind : SlotKind) : tickView (openSlot s kind) = tickView s := by
  unfold openSlot
  split <;> simp +decide

@[simp] theorem tickView_placeItem (k : Nat) (s : State) (it : XItem) : tickView (placeItem k s it) = tickView s := by
  unfold placeItem
  simp +decide
  split <;> simp +decide

@[simp] theorem tickView_markStaged (s : State) (seq slba : Nat) : tickView (markStaged s seq slba) = tickView s := by
  unfold markStaged
  simp +decide

@[simp] theorem tickView_openBrick (s : State) (k n : Nat) : tickView (openBrick s k n) = tickView s := by
  unfold openBrick
  simp +decide

@[simp] theorem tickView_brickFull (s : State) (n : Nat) : tickView (brickFull s n) = tickView s := by
  unfold brickFull
  simp +decide

@[simp] theorem tickView_checkRetire (s : State) (n : Nat) : tickView (checkRetire s n) = tickView s := by
  unfold checkRetire
  simp +decide

@[simp] theorem tickView_nextBrick (s : State) (x : XSlot) (k : Nat) : tickView (nextBrick s x k).2 = tickView s := by
  unfold nextBrick
  dsimp only
  repeat' split
  all_goals simp +decide

@[simp] theorem tickView_slotBrick (s : State) (x : XSlot) : tickView (slotBrick s x).2 = tickView s := by
  unfold slotBrick
  simp +decide
  split <;> simp +decide

@[simp] theorem tickView_armSlot (s : State) (x : XSlot) : tickView (armSlot s x) = tickView s := by
  unfold armSlot
  simp +decide
  split <;> simp +decide

@[simp] theorem tickView_armFrom (l : List XSlot) (stuck : List SlotKind) (s : State) : tickView (armFrom l stuck s) = tickView s := by
  induction l generalizing stuck s with
  | nil => rfl
  | cons x l ih =>
    rw [armFrom]
    dsimp only
    split
    · exact ih stuck s
    · split
      · rfl
      · split <;> split <;> simp [ih]

@[simp] theorem tickView_armWaiting (s : State) : tickView (armWaiting s) = tickView s := by
  unfold armWaiting
  simp +decide

@[simp] theorem tickView_dropSlot (s : State) (k : Nat) : tickView (dropSlot s k) = tickView s := by
  unfold dropSlot
  simp +decide

@[simp] theorem tickView_commitCopies (s : State) (psa : Nat) (l : List XItem) : tickView (commitCopies s psa l) = tickView s := by
  unfold commitCopies
  simp +decide

@[simp] theorem tickView_slotAccepted (s : State) (x : XSlot) (psa : Nat) : tickView (slotAccepted s x psa) = tickView s := by
  unfold slotAccepted
  dsimp only
  rw [tickView_dropSlot]
  split <;> simp <;> exact tickView_foldl (fun s i => by split <;> simp) _ s

@[simp] theorem tickView_slotGivenUp (s : State) (x : XSlot) : tickView (slotGivenUp s x) = tickView s := by
  unfold slotGivenUp
  dsimp only
  rw [tickView_dropSlot]
  exact (tickView_foldl (fun s i => by split <;> simp) _ _).trans (tickView_xltFault s _ _ _)

@[simp] theorem tickView_ckptMoves (s : State) : tickView (ckptMoves s) = tickView s := by
  unfold ckptMoves
  simp +decide

@[simp] theorem tickView_slotRejected (s : State) (x : XSlot) (v : VerdictIn) : tickView (slotRejected s x v) = tickView s := by
  unfold slotRejected
  dsimp only
  repeat' split
  all_goals simp +decide

@[simp] theorem tickView_slotNotStarted (s : State) (x : XSlot) : tickView (slotNotStarted s x) = tickView s := by
  unfold slotNotStarted
  split <;> simp +decide

@[simp] theorem tickView_testUsed (s : State) (psa : Nat) : tickView (testUsed s psa) = tickView s := by
  unfold testUsed
  simp +decide

@[simp] theorem tickView_takeVerdict (s : State) (v : VerdictIn) : tickView (takeVerdict s v) = tickView s := by
  unfold takeVerdict
  simp +decide
  split <;> simp +decide

@[simp] theorem tickView_takeVerdicts (s : State) : tickView (takeVerdicts s) = tickView s := by
  unfold takeVerdicts
  simp +decide

@[simp] theorem tickView_commitHost (s : State) (c : Ctx) : tickView (commitHost s c) = tickView s := by
  unfold commitHost
  simp +decide

@[simp] theorem tickView_commitOne (s : State) (seq : Nat) : tickView (commitOne s seq) = tickView s := by
  unfold commitOne
  split <;> simp +decide

@[simp] theorem tickView_commitLatched (s : State) : tickView (commitLatched s) = tickView s := by
  unfold commitLatched
  simp +decide

@[simp] theorem tickView_latchWrites (s : State) : tickView (latchWrites s) = tickView s := by
  unfold latchWrites
  simp +decide

@[simp] theorem tickView_capacityFail (s : State) (seq lba : Nat) : tickView (capacityFail s seq lba) = tickView s := by
  unfold capacityFail
  simp +decide

@[simp] theorem tickView_placeOne (s : State) (c : Ctx) : tickView (placeOne s c).1 = tickView s := by
  unfold placeOne
  dsimp only
  split
  · dsimp only
    split
    · rfl
    · rw [tickView_updCtx]
      refine tickView_foldl_snd (fun x q => ?_) _ _
      exact tickView_lookup x.2 q.1 q.2
  · split
    · simp
    · split
      · split
        · simp
        · split <;> simp
      · simp

@[simp] theorem tickView_placeAll (l : List Nat) (s : State) : tickView (placeAll l s) = tickView s := by
  induction l generalizing s with
  | nil => rfl
  | cons q l ih =>
    rw [placeAll]
    split
    · exact ih s
    · dsimp only
      split
      · split
        · rw [ih, tickView_placeOne]
        · exact tickView_placeOne s _
      · split
        · rfl
        · exact ih s

@[simp] theorem tickView_placeCommands (s : State) : tickView (placeCommands s) = tickView s := by
  unfold placeCommands
  simp +decide

@[simp] theorem tickView_closeSlot (s : State) (k : Nat) : tickView (closeSlot s k) = tickView s := by
  unfold closeSlot
  split <;> simp +decide

@[simp] theorem tickView_armReads (tag : Nat) (patrol : Bool) (l : List Nat) (s : State) : tickView (armReads tag patrol l s) = tickView s := by
  induction l generalizing s with
  | nil => rfl
  | cons p l ih =>
    rw [armReads]
    split
    · exact ih s
    · rw [ih, tickView_readArm]

@[simp] theorem tickView_dropServed (s : State) : tickView (dropServed s) = tickView s := by
  unfold dropServed
  simp +decide

@[simp] theorem tickView_readAnew (s : State) (psa i : Nat) : tickView (readAnew s psa i) = tickView s := by
  unfold readAnew
  split <;> simp +decide

@[simp] theorem tickView_markExts (s : State) (l : List Ext) (st : Nat) : tickView (markExts s l st) = tickView s := by
  unfold markExts
  simp +decide

@[simp] theorem tickView_markLost (s : State) (psa : Nat) : tickView (markLost s psa) = tickView s := by
  unfold markLost
  split <;> simp +decide

@[simp] theorem tickView_refreshStrip (s : State) (psa : Nat) (first : Bool) : tickView (refreshStrip s psa first) = tickView s := by
  unfold refreshStrip
  simp +decide

@[simp] theorem tickView_takeRecovery (s : State) (rcd : List Nat) : tickView (takeRecovery s rcd) = tickView s := by
  unfold takeRecovery
  simp +decide

@[simp] theorem tickView_takeRecoveries (s : State) : tickView (takeRecoveries s) = tickView s := by
  unfold takeRecoveries
  simp +decide

@[simp] theorem tickView_syncJob (s : State) : tickView (syncJob s) = tickView s := by
  unfold syncJob
  split <;> simp +decide

@[simp] theorem tickView_startJob (s : State) (kind n : Nat) (todo : List (Nat × Nat × Nat)) : tickView (startJob s kind n todo) = tickView s := by
  unfold startJob
  simp +decide

@[simp] theorem tickView_collect (s : State) (kind n : Nat) : tickView (collect s kind n) = tickView s := by
  unfold collect
  simp +decide

@[simp] theorem tickView_gcJudge (s : State) : tickView (gcJudge s) = tickView s := by
  unfold gcJudge
  simp +decide

@[simp] theorem tickView_nextJob (s : State) : tickView (nextJob s) = tickView s := by
  unfold nextJob
  dsimp only
  repeat' split
  all_goals simp +decide

@[simp] theorem tickView_stageCopy (s : State) (b : Nat × Nat × Nat) (bytes : List Nat) : tickView (stageCopy s b bytes) = tickView s := by
  unfold stageCopy
  simp +decide
  split <;> simp +decide

@[simp] theorem tickView_jobBlock (s : State) (b : Nat × Nat × Nat) : tickView (jobBlock s b) = tickView s := by
  unfold jobBlock
  dsimp only
  repeat' split
  all_goals simp +decide

@[simp] theorem tickView_endJob (s : State) : tickView (endJob s) = tickView s := by
  unfold endJob
  split <;> simp +decide

@[simp] theorem tickView_runJob (s : State) : tickView (runJob s) = tickView s := by
  unfold runJob
  simp +decide

@[simp] theorem tickView_protectNs (s : State) : tickView (protectNs s) = tickView s := by
  unfold protectNs
  simp +decide

@[simp] theorem tickView_retireBrick (s : State) (n : Nat) : tickView (retireBrick s n) = tickView s := by
  unfold retireBrick
  simp +decide

@[simp] theorem tickView_retireEmpty (s : State) : tickView (retireEmpty s) = tickView s := by
  unfold retireEmpty
  simp +decide

@[simp] theorem tickView_beginReset (s : State) (n : Nat) (fw : Bool) : tickView (beginReset s n fw) = tickView s := by
  unfold beginReset
  simp +decide

@[simp] theorem tickView_runResets (s : State) : tickView (runResets s) = tickView s := by
  unfold runResets
  dsimp only
  repeat' split
  all_goals simp +decide

@[simp] theorem tickView_startCkptAt (s : State) (clean : Bool) (tries : Nat) : tickView (startCkptAt s clean tries) = tickView s := by
  unfold startCkptAt
  simp +decide
  split <;> simp +decide

@[simp] theorem tickView_startCkpt (s : State) (clean : Bool) : tickView (startCkpt s clean) = tickView s := by
  unfold startCkpt
  simp +decide

@[simp] theorem tickView_ckptGivenUp (s : State) : tickView (ckptGivenUp s) = tickView s := by
  unfold ckptGivenUp
  simp +decide

@[simp] theorem tickView_ckptMoved (s : State) (c : Ckpt) : tickView (ckptMoved s c) = tickView s := by
  unfold ckptMoved
  simp +decide

@[simp] theorem tickView_stageSectors (slot : Nat) (l : List (List Nat × Nat)) (s : State) : tickView (stageSectors slot l s) = tickView s := by
  induction l generalizing s with
  | nil => rfl
  | cons q l ih => rw [stageSectors, ih, tickView_memWrite]

@[simp] theorem tickView_giveSlot (s : State) (n stype : Nat) (secs : List (List Nat)) : tickView (giveSlot s n stype secs) = tickView s := by
  unfold giveSlot
  split
  · rfl
  · rw [tickView_updSlot, tickView_stageSectors, tickView_openSlot]

@[simp] theorem tickView_runCkpt (s : State) : tickView (runCkpt s) = tickView s := by
  unfold runCkpt
  split <;> simp +decide

@[simp] theorem tickView_ckptDue (s : State) : tickView (ckptDue s) = tickView s := by
  unfold ckptDue
  simp +decide

@[simp] theorem tickView_endWriting (s : State) : tickView (endWriting s) = tickView s := by
  unfold endWriting
  simp +decide

@[simp] theorem tickView_abortLost (s : State) : tickView (abortLost s) = tickView s := by
  unfold abortLost
  split <;> simp +decide

@[simp] theorem tickView_unplace (s : State) (seq : Nat) : tickView (unplace s seq) = tickView s := by
  unfold unplace
  simp +decide

@[simp] theorem tickView_restage (s : State) : tickView (restage s) = tickView s := by
  unfold restage
  simp +decide
  split <;> simp +decide

@[simp] theorem tickView_syncCap (s : State) : tickView (syncCap s) = tickView s := by
  unfold syncCap
  simp +decide

@[simp] theorem tickView_unmount (s : State) : tickView (unmount s) = tickView s := by
  unfold unmount
  simp +decide

@[simp] theorem tickView_setSpn (s : State) (x : Spn) : tickView (State.setSpn s x) = tickView s := by
  unfold State.setSpn
  simp +decide

@[simp] theorem tickView_spnEnter (s : State) (st : Nat) : tickView (spnEnter s st) = tickView s := by
  unfold spnEnter
  simp +decide

@[simp] theorem tickView_modeEnter (act : Nat) (s : State) : tickView (modeEnter act s) = tickView s := by
  unfold modeEnter
  simp +decide

@[simp] theorem tickView_spnModeWrite (m : Master) (v : Word) (s : State) : tickView (spnModeWrite m v s) = tickView s := by
  unfold spnModeWrite
  split <;> simp +decide

@[simp] theorem tickView_stpCmd (v : Word) (s : State) : tickView (stpCmd v s) = tickView s := by
  unfold stpCmd
  simp +decide

@[simp] theorem tickView_fetchList (s : State) (seq addr need : Nat) : tickView (fetchList s seq addr need) = tickView s := by
  unfold fetchList
  simp +decide

@[simp] theorem tickView_listArrived (s : State) (c : Ctx) (addr : Nat) : tickView (listArrived s c addr) = tickView s := by
  unfold listArrived
  dsimp only
  repeat' split
  all_goals simp +decide

@[simp] theorem tickView_runPrp (s : State) (seq : Nat) : tickView (runPrp s seq) = tickView s := by
  unfold runPrp
  simp +decide
  repeat' split
  all_goals simp +decide

@[simp] theorem tickView_endRead (s : State) (seq st lba : Nat) : tickView (endRead s seq st lba) = tickView s := by
  unfold endRead
  simp +decide

@[simp] theorem tickView_takeSnapshot (s : State) (c : Ctx) : tickView (takeSnapshot s c) = tickView s := by
  unfold takeSnapshot
  dsimp only
  repeat' split
  all_goals simp +decide

@[simp] theorem tickView_giveBlock (s : State) (c : Ctx) (lba : Nat) (bytes : List Nat) : tickView (giveBlock s c lba bytes) = tickView s := by
  unfold giveBlock
  simp +decide

@[simp] theorem tickView_serveBlock (seq : Nat) (s : State) (b : Nat × Nat × Nat) : tickView (serveBlock seq s b) = tickView s := by
  unfold serveBlock
  split
  · rfl
  · split
    · rfl
    · exact tickView_readAnew s _ _
    · exact tickView_endRead s _ _ _
    · exact tickView_giveBlock s _ _ _

@[simp] theorem tickView_runReader (s : State) (seq : Nat) : tickView (runReader s seq) = tickView s := by
  unfold runReader
  split
  · rfl
  · next c _ =>
    split
    · rfl
    · have hsnap : tickView (if c.snap.isNone = true then takeSnapshot s c else s) = tickView s := by simp
      generalize (if c.snap.isNone = true then takeSnapshot s c else s) = u at hsnap
      dsimp only
      split
      · exact hsnap
      · next d _ =>
        split
        · exact hsnap
        · have hzero : tickView ((zeroBlocks d).foldl (fun s b => match stillRuns s seq with
              | some c => giveBlock s c b (List.replicate 4096 0)
              | none => s) u) = tickView u := by
            refine tickView_foldl (fun s b => ?_) _ u
            split
            · exact tickView_giveBlock s _ _ _
            · rfl
          generalize ((zeroBlocks d).foldl _ u) = v at hzero
          have hserve : tickView (match stillRuns v seq with
              | some c => (dueBlocks c).foldl (serveBlock seq) v
              | none => v) = tickView v := by
            split
            · exact tickView_foldl (tickView_serveBlock seq) _ v
            · rfl
          split
          · split
            · exact (tickView_endRead _ _ _ _).trans (hserve.trans (hzero.trans hsnap))
            · exact hserve.trans (hzero.trans hsnap)
          · exact hserve.trans (hzero.trans hsnap)

@[simp] theorem tickView_closeFor (s : State) (seq : Nat) : tickView (closeFor s seq) = tickView s := by
  unfold closeFor
  simp +decide
  repeat' split
  all_goals simp +decide

@[simp] theorem tickView_runFlush (s : State) (seq : Nat) : tickView (runFlush s seq) = tickView s := by
  unfold runFlush
  split <;> simp +decide

@[simp] theorem tickView_runDsm (s : State) (seq : Nat) : tickView (runDsm s seq) = tickView s := by
  unfold runDsm
  split <;> simp +decide

@[simp] theorem tickView_stopDrive (s : State) : tickView (stopDrive s) = tickView s := by
  unfold stopDrive
  simp +decide

@[simp] theorem tickView_runUnload (s : State) (seq : Nat) : tickView (runUnload s seq) = tickView s := by
  unfold runUnload
  split <;> simp +decide

@[simp] theorem tickView_runShutdown (s : State) : tickView (runShutdown s) = tickView s := by
  unfold runShutdown
  simp +decide

@[simp] theorem tickView_setSec (s : State) (x : Sec) : tickView (State.setSec s x) = tickView s := by
  unfold State.setSec
  simp +decide

@[simp] theorem tickView_voidChallenge (s : State) (k : Nat) : tickView (voidChallenge s k) = tickView s := by
  unfold voidChallenge
  simp +decide

@[simp] theorem tickView_drawChallenge (s : State) (k : Nat) : tickView (drawChallenge s k).2 = tickView s := by
  unfold drawChallenge
  simp +decide

@[simp] theorem tickView_runClear (s : State) (b : List Nat) : tickView (runClear s b).2 = tickView s := by
  unfold runClear
  dsimp only
  split
  · rw [tickView_setSec, tickView_clearRun, tickView_voidChallenge]
  · rw [tickView_report, tickView_err (by decide), tickView_voidChallenge]

@[simp] theorem tickView_fwProgram (s : State) (off tag : Nat) (ws : List (BitVec 64)) : tickView (fwProgram s off tag ws) = tickView s := by
  unfold fwProgram
  simp +decide

@[simp] theorem tickView_fwErase (s : State) (off tag : Nat) : tickView (fwErase s off tag) = tickView s := by
  unfold fwErase
  simp +decide

@[simp] theorem tickView_fwWords (tag : Nat) (l : List (BitVec 64)) (k : Nat) (s : State) : tickView (fwWords tag l k s) = tickView s := by
  induction l generalizing k s with
  | nil => rfl
  | cons w l ih => rw [fwWords, ih, tickView_fwProgram]

@[simp] theorem tickView_logAppend (s : State) (slot tag : Nat) (rs : List (BitVec 64)) : tickView (logAppend s slot tag rs) = tickView s := by
  unfold logAppend
  extract_lets u0 u1 a used other full n l copies t
  split
  · exact tickView_fwWords ..
  · rw [tickView_fwErase, tickView_fwWords]
    unfold t
    split
    · exact tickView_fwErase ..
    · rfl

theorem tickView_logPage {s : State} {c : Ctx} {r : List Nat × State} (h : logPage s c = .ok r) : tickView r.2 = tickView s := by
  unfold logPage at h
  dsimp only at h
  repeat' split at h
  all_goals
    cases h
  all_goals
    simp

@[simp] theorem tickView_createCq (s : State) (c : Ctx) : tickView (createCq s c) = tickView s := by
  unfold createCq
  simp +decide

@[simp] theorem tickView_createSq (s : State) (c : Ctx) : tickView (createSq s c) = tickView s := by
  unfold createSq
  simp +decide

@[simp] theorem tickView_deleteCq (s : State) (c : Ctx) : tickView (deleteCq s c) = tickView s := by
  unfold deleteCq
  simp +decide

@[simp] theorem tickView_abortCmd (s : State) (c : Ctx) : tickView (abortCmd s c) = tickView s := by
  unfold abortCmd
  simp +decide
  split <;> simp +decide

@[simp] theorem tickView_coresOn (s : State) : tickView (coresOn s) = tickView s := by
  unfold coresOn
  simp +decide

@[simp] theorem tickView_psRequest (s : State) (t : Nat) : tickView (psRequest s t) = tickView s := by
  unfold psRequest
  simp +decide

@[simp] theorem tickView_katoRestart (s : State) : tickView (katoRestart s) = tickView s := by
  unfold katoRestart
  simp +decide

@[simp] theorem tickView_setFeature (s : State) (c : Ctx) (data : List Nat) : tickView (setFeature s c data) = tickView s := by
  unfold setFeature
  simp +decide

@[simp] theorem tickView_getFeature (s : State) (c : Ctx) : tickView (getFeature s c) = tickView s := by
  unfold getFeature
  dsimp only
  split
  · exact tickView_finish ..
  · rw [tickView_finish]
    split
    · exact tickView_sendPages ..
    · rfl

@[simp] theorem tickView_fwDownload (s : State) (c : Ctx) : tickView (fwDownload s c) = tickView s := by
  unfold fwDownload
  dsimp only
  split
  · exact tickView_finish ..
  · split
    · rw [tickView_fetchPages, tickView_updCtx]
    · split
      · split
        · rfl
        · refine (tickView_foldl (fun s i => ?_) _ _).trans ?_
          · rw [tickView_fwWords, tickView_fwErase]
          · split
            · exact tickView_updCtx ..
            · rw [tickView_logAppend, tickView_setHq, tickView_updCtx]
      · split
        · rfl
        · exact tickView_finish ..

@[simp] theorem tickView_fwCommit (s : State) (c : Ctx) : tickView (fwCommit s c) = tickView s := by
  unfold fwCommit
  simp +decide

@[simp] theorem tickView_attestCmd (s : State) (c : Ctx) : tickView (attestCmd s c) = tickView s := by
  unfold attestCmd
  simp +decide

@[simp] theorem tickView_clearCmd (s : State) (c : Ctx) : tickView (clearCmd s c) = tickView s := by
  unfold clearCmd
  simp +decide

@[simp] theorem tickView_verifyCmd (s : State) (c : Ctx) : tickView (verifyCmd s c) = tickView s := by
  unfold verifyCmd
  simp +decide
  split <;> simp +decide

@[simp] theorem tickView_spinCmd (s : State) (c : Ctx) : tickView (spinCmd s c) = tickView s := by
  unfold spinCmd
  simp +decide

@[simp] theorem tickView_runAdmin (s : State) (seq : Nat) : tickView (runAdmin s seq) = tickView s := by
  unfold runAdmin
  split
  · rfl
  · next c _ =>
    split
    · rfl
    · split
      · rfl
      · split
        · rfl
        · split
          · exact tickView_createSq s c
          · split
            · exact tickView_finish ..
            · next r hr =>
              rw [tickView_finish]
              split
              · rw [tickView_setHq, tickView_sendPages, tickView_logPage hr]
              · rw [tickView_sendPages, tickView_logPage hr]
          · exact tickView_deleteCq s c
          · exact tickView_createCq s c
          · split
            · exact tickView_finish ..
            · rw [tickView_finish, tickView_sendPages]
          · exact tickView_abortCmd s c
          · simp
          · exact tickView_getFeature s c
          · exact tickView_fwCommit s c
          · exact tickView_fwDownload s c
          · rw [tickView_finish, tickView_katoRestart]
          · exact tickView_spinCmd s c
          · exact tickView_attestCmd s c
          · exact tickView_clearCmd s c
          · exact tickView_verifyCmd s c
          · rfl

@[simp] theorem tickView_syncStall (s : State) : tickView (syncStall s) = tickView s := by
  unfold syncStall
  simp +decide

@[simp] theorem tickView_runVerify (s : State) : tickView (runVerify s) = tickView s := by
  unfold runVerify
  simp +decide

@[simp] theorem tickView_pumpOnce (s : State) : tickView (pumpOnce s) = tickView s := by
  unfold pumpOnce
  simp +decide

@[simp] theorem tickView_pump (s : State) : tickView (pump s) = tickView s := by
  unfold pump
  simp +decide

@[simp] theorem tickView_unpin (seq : Nat) (s : State) : tickView (unpin seq s) = tickView s := by
  unfold unpin
  split <;> simp +decide

end Sys2Proof.Machine
end

section
/-! What the blocks' work at a tick boundary leaves of time and of the loop engine: one rule per function (O15). Each proof
unfolds its function once and closes by the rules of the functions it calls. -/
namespace Sys2Proof.Machine

@[simp] theorem tickView_setMort (s : State) (a : Nat) (v : Word) : tickView (s.setMort a v) = tickView s :=
  tickView_setL s rfl rfl rfl

@[simp] theorem tickView_putMort (s : State) (a : Nat) (v : Word) : tickView (State.putMort s a v) = tickView s := by
  unfold State.putMort
  simp +decide

@[simp] theorem tickView_setTrc (s : State) (c : Nat) (t : TraceCh) : tickView (s.setTrc c t) = tickView s :=
  tickView_setL s rfl rfl rfl

@[simp] theorem tickView_trcTrigger1 (s : State) (c : Nat) (got : Bool) : tickView (trcTrigger1 s c got) = tickView s := by
  unfold trcTrigger1
  simp +decide

@[simp] theorem tickView_trcTrigger (got : List Nat) (s : State) (c : Nat) : tickView (trcTrigger got s c) = tickView s := by
  unfold trcTrigger
  simp +decide

@[simp] theorem tickView_trcEvent (s : State) (src : Nat) : tickView (trcEvent s src) = tickView s := by
  unfold trcEvent
  simp +decide

@[simp] theorem tickView_copyOut (s : State) (a : Nat) (w : Word) : tickView (copyOut s a w) = tickView s := by
  unfold copyOut
  simp +decide
  split <;> simp +decide

@[simp] theorem tickView_storeWord (s : State) (a : Nat) (v : Int) : tickView (storeWord s a v) = tickView s := by
  unfold storeWord
  simp +decide

@[simp] theorem tickView_storeStates (l : List Int) (s : State) (a : Nat) : tickView (storeStates s a l) = tickView s := by
  induction l generalizing s a with
  | nil => rfl
  | cons v l ih => rw [storeStates, ih, tickView_storeWord]

@[simp] theorem tickView_limitIf {a : Nat} (ha : a < 3) (s : State) (b : Bool) : tickView (limitIf s a b) = tickView s := by
  unfold limitIf
  simp +decide [ha]

@[simp] theorem tickView_runCurrent {a : Nat} (ha : a < 3) (s : State) : tickView (runCurrent s a) = tickView s := by
  unfold runCurrent
  simp +decide [ha]

@[simp] theorem tickView_placeRun (s : State) (g : Nat) (r : StepRun) : tickView (placeRun s g r) = tickView s := by
  unfold placeRun
  simp +decide

@[simp] theorem tickView_groupTick (halted : Bool) (s : State) (g : Nat) : tickView (groupTick halted s g) = tickView s := by
  unfold groupTick
  simp +decide
  split <;> simp +decide

@[simp] theorem tickView_seekTick {a : Nat} (ha : a < 3) (s : State) (tgt : Int) (vlim : Nat) : tickView (seekTick s a tgt vlim) = tickView s := by
  unfold seekTick
  simp +decide [ha]

@[simp] theorem tickView_haltTick {a : Nat} (ha : a < 3) (s : State) : tickView (haltTick s a) = tickView s := by
  unfold haltTick
  simp +decide [ha]

@[simp] theorem tickView_lastGaspTick {a : Nat} (ha : a < 3) (s : State) : tickView (lastGaspTick s a) = tickView s := by
  unfold lastGaspTick
  simp +decide [ha]

@[simp] theorem tickView_followTick {a : Nat} (ha : a < 3) (s : State) (word : Word) : tickView (followTick s a word) = tickView s := by
  unfold followTick
  simp +decide [ha]

@[simp] theorem tickView_targetTick {a : Nat} (ha : a < 3) (s : State) (raw : Int) : tickView (targetTick s a raw) = tickView s := by
  unfold targetTick
  simp +decide [ha]

@[simp] theorem tickView_parkTick {a : Nat} (ha : a < 3) (s : State) : tickView (parkTick s a) = tickView s := by
  unfold parkTick
  simp +decide
  split <;> simp +decide [ha]

@[simp] theorem tickView_axisTick {a : Nat} (ha : a < 3) (s : State) (safe : Bool) (out : List Word) : tickView (axisTick s safe out a) = tickView s := by
  unfold axisTick
  simp +decide [ha]
  repeat' split
  all_goals simp +decide [ha]

@[simp] theorem tickView_holdTick {a : Nat} (ha : a < 3) (s : State) : tickView (holdTick s a) = tickView s := by
  unfold holdTick
  simp +decide [ha]

@[simp] theorem tickView_parkDone (s : State) : tickView (parkDone s) = tickView s := by
  unfold parkDone
  split
  · rw [tickView_raise (by decide) (by decide), tickView_setBit (by decide)]
    refine tickView_foldl_mem (fun s a ha => ?_) s
    split
    · rw [tickView_setAxis (List.mem_range.mp ha), tickView_setFld (by simp)]
    · rfl
  · rfl

@[simp] theorem tickView_stpTick (s : State) : tickView (stpTick s) = tickView s := by
  unfold stpTick
  refine (tickView_foldl_mem (fun s a ha => ?_) _).trans ?_
  · rw [tickView_holdTick (List.mem_range.mp ha), tickView_axisTick (List.mem_range.mp ha)]
  · rw [tickView_foldl (tickView_groupTick _), tickView_parkDone]

@[simp] theorem tickView_stpSafeEnter (s : State) : tickView (stpSafeEnter s) = tickView s := by
  unfold stpSafeEnter
  simp +decide

@[simp] theorem tickView_wsgSend (s : State) (l : List Word) : tickView (wsgSend s l) = tickView s := by
  unfold wsgSend
  simp +decide

@[simp] theorem tickView_passLevels (s : State) (a : Arm) (k : Nat) : tickView (passLevels s a k) = tickView s := by
  unfold passLevels
  simp +decide

@[simp] theorem tickView_passTick (s : State) : tickView (passTick s) = tickView s := by
  unfold passTick
  split <;> simp +decide

@[simp] theorem tickView_setSv (s : State) (x : Servo) : tickView (State.setSv s x) = tickView s := by
  unfold State.setSv
  simp +decide

@[simp] theorem tickView_setCtl (s : State) (b : Nat) (c : BridgeCtl) : tickView (State.setCtl s b c) = tickView s := by
  unfold State.setCtl
  simp +decide

@[simp] theorem tickView_drive {b : Nat} (h : b < 4) (s : State) (x : Int) : tickView (drive s b x) = tickView s :=
  tickView_setReg (offTick_ACT_BR_OUT h) s _

@[simp] theorem tickView_setSeq (s : State) (st : Nat) : tickView (State.setSeq s st) = tickView s := by
  unfold State.setSeq
  simp +decide

@[simp] theorem tickView_seqEnd (s : State) (st : Nat) : tickView (seqEnd s st) = tickView s := by
  unfold seqEnd
  simp +decide

@[simp] theorem tickView_enterSafe (s : State) (cause : Nat) : tickView (enterSafe s cause) = tickView s := by
  unfold enterSafe
  simp +decide

@[simp] theorem tickView_sweepTick (s : State) : tickView (sweepTick s) = tickView s := by
  unfold sweepTick
  simp

@[simp] theorem tickView_redrive {b : Nat} (h : b < 4) (s : State) : tickView (redrive s b) = tickView s := by
  unfold redrive
  simp [h]

@[simp] theorem tickView_bridgesTick (s : State) : tickView (bridgesTick s) = tickView s := by
  unfold bridgesTick
  refine (tickView_foldl_mem (fun s b hb => tickView_redrive (List.mem_range.mp hb) s) _).trans ?_
  simp

@[simp] theorem tickView_bridgeLate (s : State) : tickView (bridgeLate s) = tickView s := by
  unfold bridgeLate
  simp +decide

@[simp] theorem tickView_sadcChannel {k : Nat} (h : k < 32) (s : State) (m : Bool) : tickView (sadcChannel s m k) = tickView s := by
  unfold sadcChannel
  simp [h]

@[simp] theorem tickView_sadcTick (s : State) (m : Bool) : tickView (sadcTick s m) = tickView s := by
  unfold sadcTick
  split
  · exact tickView_foldl_mem (fun s k hk => tickView_sadcChannel (List.mem_range.mp hk) s m) s
  · rfl

@[simp] theorem tickView_gvelTick (s : State) : tickView (gvelTick s) = tickView s := by
  unfold gvelTick
  simp +decide

@[simp] theorem tickView_monTick (s : State) : tickView (monTick s) = tickView s := by
  unfold monTick
  simp +decide

@[simp] theorem tickView_brakeStart (s : State) : tickView (brakeStart s) = tickView s := by
  have hb : ∀ u : State, seqAxis u < 4 := fun u => Nat.lt_trans (fieldOf_lt _ _ _) (by decide)
  unfold brakeStart
  simp [hb]

@[simp] theorem tickView_seqCapture (s : State) : tickView (seqCapture s) = tickView s := by
  unfold seqCapture
  simp +decide

@[simp] theorem tickView_seqTally (s : State) : tickView (seqTally s) = tickView s := by
  unfold seqTally
  simp +decide

@[simp] theorem tickView_grooveCounted (outward : Bool) (zeroAge : Nat) (s : State) : tickView (grooveCounted outward zeroAge s) = tickView s := by
  unfold grooveCounted
  simp +decide

@[simp] theorem tickView_landCrossed (s : State) : tickView (landCrossed s) = tickView s := by
  unfold landCrossed
  simp +decide

@[simp] theorem tickView_grooveTaken (te sum : Int) (s : State) : tickView (grooveTaken te sum s) = tickView s := by
  unfold grooveTaken
  simp +decide

@[simp] theorem tickView_grooveSample (te sum : Int) (s : State) : tickView (grooveSample te sum s) = tickView s := by
  unfold grooveSample
  simp +decide
  split <;> simp +decide

@[simp] theorem tickView_lobeBegins (g : Int) (s : State) : tickView (lobeBegins g s) = tickView s := by
  unfold lobeBegins
  simp +decide

@[simp] theorem tickView_curveSample (fe sum : Int) (s : State) : tickView (curveSample fe sum s) = tickView s := by
  unfold curveSample
  simp +decide

@[simp] theorem tickView_shockHits (s : State) : tickView (shockHits s) = tickView s := by
  unfold shockHits
  simp +decide

@[simp] theorem tickView_actSample (was : State) (v : Nat → Int) (s : State) : tickView (actSample was v s) = tickView s := by
  unfold actSample
  extract_lets t u
  have hu : tickView u = tickView s := by
    have hcap : ∀ (c : Prop) [Decidable c], tickView (if c then seqCapture t else t) = tickView s := by
      intro c _
      split
      · exact (tickView_seqCapture t).trans (tickView_curveSample ..)
      · exact tickView_curveSample ..
    exact hcap _
  split
  · rw [tickView_shockHits, hu]
  · exact hu

@[simp] theorem tickView_overrange (l : List Int) (s : State) : tickView (overrange l s) = tickView s := by
  unfold overrange
  simp +decide

@[simp] theorem tickView_sampleHeld (s : State) (x : ServoSample) : tickView (sampleHeld s x) = tickView s := by
  unfold sampleHeld
  simp +decide

@[simp] theorem tickView_sampleTaken (s : State) (x : ServoSample) : tickView (sampleTaken s x) = tickView s := by
  unfold sampleTaken
  simp +decide

@[simp] theorem tickView_sampleStep (s : State) (x : ServoSample) : tickView (sampleStep s x) = tickView s := by
  unfold sampleStep
  split
  · rfl
  · rw [tickView_actSample, tickView_sampleTaken]

@[simp] theorem tickView_feed (x : List ServoSample) (s : State) : tickView (feed x s) = tickView s := by
  unfold feed
  simp +decide

@[simp] theorem tickView_setWorst (s : State) : tickView (setWorst s) = tickView s := by
  unfold setWorst
  simp +decide

@[simp] theorem tickView_setProgs (s : State) (l : List Prog) : tickView (setProgs s l) = tickView s := by
  unfold setProgs
  simp +decide

@[simp] theorem tickView_trcDrain (s : State) (c : Nat) : tickView (trcDrain s c) = tickView s := by
  unfold trcDrain
  simp +decide

@[simp] theorem tickView_trcCapture (q : List Nat × List Nat × State) (c : Nat) : tickView (trcCapture q c).2.2 = tickView q.2.2 := by
  unfold trcCapture
  dsimp only
  split
  · rfl
  · split
    · rw [tickView_err (by decide), tickView_raise (by decide) (by decide), tickView_setMort]
    · rw [tickView_setTrc, tickView_setMort]

@[simp] theorem tickView_trcTick (s : State) (stalls : List Nat) : tickView (trcTick s stalls) = tickView s := by
  have hcap : ∀ (l : List Nat) (q : List Nat × List Nat × State), tickView (l.foldl trcCapture q).2.2 = tickView q.2.2 := by
    intro l
    induction l with
    | nil => exact fun q => rfl
    | cons c l ih => exact fun q => (ih _).trans (tickView_trcCapture q c)
  unfold trcTick
  split
  · rfl
  · rw [tickView_foldl tickView_trcDrain, tickView_foldl (tickView_trcTrigger _), hcap, tickView_foldl tickView_trcDrain]

@[simp] theorem tickView_passStatus (s : State) : tickView (passStatus s) = tickView s := by
  unfold passStatus
  simp +decide

@[simp] theorem tickView_setCal (s : State) (x : Cal) : tickView (State.setCal s x) = tickView s := by
  unfold State.setCal
  simp +decide

@[simp] theorem tickView_setActive {act : Nat} (h : offTick act = true) (s : State) (v : Int) : tickView (setActive s act v) = tickView s := by
  unfold setActive
  rw [tickView_setCal, tickView_setReg h]

theorem tickView_glideStep {g : Glided} (h : offTick g.act = true) (s : State) : tickView (glideStep s g) = tickView s := by
  unfold glideStep
  simp [h]

@[simp] theorem tickView_glidesTick (s : State) : tickView (glidesTick s) = tickView s := by
  have hl : ∀ g ∈ glidedList, offTick g.act = true := List.all_eq_true.mp (by decide +kernel)
  unfold glidesTick
  split
  · rfl
  · rw [tickView_setReg (by decide)]
    exact tickView_foldl_mem (fun s g hg => tickView_glideStep (hl g hg) s) s

@[simp] theorem tickView_setMg (s : State) (k : Nat) (x : MortarGlide) : tickView (State.setMg s k x) = tickView s := by
  unfold State.setMg
  simp +decide

@[simp] theorem tickView_mgEndEarly (s : State) (k cause : Nat) : tickView (mgEndEarly s k cause) = tickView s := by
  unfold mgEndEarly
  simp +decide

@[simp] theorem tickView_mgCheck (s : State) (k : Nat) : tickView (mgCheck s k) = tickView s := by
  unfold mgCheck
  simp +decide

@[simp] theorem tickView_mgStep (s : State) (k : Nat) : tickView (mgStep s k) = tickView s := by
  unfold mgStep
  simp +decide

@[simp] theorem tickView_mgSwap (s : State) : tickView (mgSwap s) = tickView s := by
  unfold mgSwap
  simp +decide

@[simp] theorem tickView_retryFocus (s : State) (goal : Int) : tickView (retryFocus s goal) = tickView s := by
  unfold retryFocus
  simp +decide

@[simp] theorem tickView_retryCollimator (s : State) (goal : Int) : tickView (retryCollimator s goal) = tickView s := by
  unfold retryCollimator
  split
  · rfl
  · exact (tickView_with_rd _ _).trans (tickView_setFld (by decide) s _ _ _)

@[simp] theorem tickView_retryGlide (s : State) : tickView (retryGlide s) = tickView s := by
  unfold retryGlide
  simp +decide

@[simp] theorem tickView_sampleShunts (s : State) (codes : List Int) : tickView (sampleShunts s codes) = tickView s := by
  have hfold : ∀ (u : State) (lo : Nat) (f : Nat → Nat),
      tickView ((List.range 3).foldl (fun s k => s.setFld (Reg.SPN_SH_RAW k) lo 12 (f k)) u) = tickView u := fun u lo f =>
    tickView_foldl_mem (fun s k hk => tickView_setFld (offTick_SPN_SH_RAW (List.mem_range.mp hk)) s _ _ _) u
  unfold sampleShunts
  dsimp only
  split
  · rw [tickView_setSpn, hfold, hfold]
  · split
    · rw [tickView_setSpn, hfold]
    · rw [tickView_setSpn, tickView_addSat (by decide), hfold]

@[simp] theorem tickView_setVlim (s : State) : tickView (setVlim s) = tickView s := by
  unfold setVlim
  simp +decide

@[simp] theorem tickView_formVector (s : State) : tickView (formVector s) = tickView s := by
  unfold formVector
  simp +decide

@[simp] theorem tickView_lockJudge (s : State) : tickView (lockJudge s) = tickView s := by
  unfold lockJudge
  simp +decide

@[simp] theorem tickView_takeDemand (s : State) : tickView (takeDemand s) = tickView s := by
  unfold takeDemand
  simp +decide

@[simp] theorem tickView_zerovValley (s : State) : tickView (zerovValley s) = tickView s := by
  unfold zerovValley
  simp +decide

@[simp] theorem tickView_valley (s : State) (codes : List Int) : tickView (valley s codes) = tickView s := by
  unfold valley
  simp +decide

@[simp] theorem tickView_setEffTick (s : State) : tickView (setEffTick s) = tickView s := by
  unfold setEffTick
  simp +decide

@[simp] theorem tickView_currentMean (s : State) : tickView (currentMean s) = tickView s := by
  unfold currentMean
  simp +decide

@[simp] theorem tickView_ilimTick (s : State) : tickView (ilimTick s) = tickView s := by
  unfold ilimTick
  simp +decide

@[simp] theorem tickView_angTick (s : State) : tickView (angTick s) = tickView s := by
  unfold angTick
  simp +decide

@[simp] theorem tickView_spdTick (s : State) (num den : Nat) : tickView (spdTick s num den) = tickView s := by
  unfold spdTick
  simp +decide

@[simp] theorem tickView_spnWords (s : State) : tickView (spnWords s) = tickView s := by
  unfold spnWords
  simp +decide

@[simp] theorem tickView_vbusTick (s : State) (toMortar : Bool) (mv : Nat) : tickView (vbusTick s toMortar mv) = tickView s := by
  unfold vbusTick
  simp +decide

@[simp] theorem tickView_hintLane (s : State) (l : Nat) : tickView (hintLane s l) = tickView s := by
  unfold hintLane
  simp +decide

@[simp] theorem tickView_hintTick (s : State) : tickView (hintTick s) = tickView s := by
  unfold hintTick
  simp +decide

@[simp] theorem tickView_upsetMort (s : State) (u : Nat × Nat × Bool) : tickView (upsetMort s u) = tickView s := by
  unfold upsetMort
  simp +decide

@[simp] theorem tickView_rfqTick (s : State) : tickView (rfqTick s) = tickView s := by
  unfold rfqTick
  simp +decide

@[simp] theorem tickView_blockTicks (s : State) : tickView (blockTicks s) = tickView s := by
  unfold blockTicks
  simp +decide

@[simp] theorem tickView_valleyTick (s : State) (i : TickIn) : tickView (valleyTick s i) = tickView s := by
  unfold valleyTick
  simp +decide

@[simp] theorem tickView_holdupTick (s : State) : tickView (holdupTick s) = tickView s := by
  unfold holdupTick
  simp +decide

end Sys2Proof.Machine
end

section
/-! The loop engine over a boundary: what a computation, an exchange step, a stop and an overrun leave of ticks (O15). -/
namespace Sys2Proof.Machine

/-- The registers of ticks and of VIN, and those of the loop engine's batch, swap and overruns. -/
abbrev lengRegs : List Nat :=
  [Reg.TICK_SUP, Reg.PWR_VIN, Reg.IRQ_RAW 0x01, Reg.LENG_UPD_CTRL, Reg.LENG_SHADOW, Reg.LENG_OVR, Reg.LENG_OVR_TICK]

/-- `t` has the time, the supervisor's tick, the overrun interrupt and the registers `l` of `s`, and no boundary that is late
where `s` has none. -/
structure LengKeeps (l : List Nat) (s t : State) : Prop where
  ticks : t.ticks = s.ticks
  supOut : t.leng.supOut = s.leng.supOut
  late : s.leng.late = false → t.leng.late = false
  irq : t.bit (Reg.IRQ_RAW pgLENG) 0 = s.bit (Reg.IRQ_RAW pgLENG) 0
  reg : ∀ a ∈ l, t.reg a = s.reg a

namespace LengKeeps

variable {l k : List Nat} {s t u : State}

theorem refl (l : List Nat) (s : State) : LengKeeps l s s := ⟨rfl, rfl, id, rfl, fun _ _ => rfl⟩

theorem trans (h : LengKeeps l s t) (h' : LengKeeps l t u) : LengKeeps l s u :=
  ⟨h'.ticks.trans h.ticks, h'.supOut.trans h.supOut, fun hs => h'.late (h.late hs), h'.irq.trans h.irq,
    fun a ha => (h'.reg a ha).trans (h.reg a ha)⟩

theorem mono (h : LengKeeps l s t) (hk : ∀ a ∈ k, a ∈ l) : LengKeeps k s t := { h with reg := fun a ha => h.reg a (hk a ha) }

theorem of_tickView (h : tickView t = tickView s) : LengKeeps lengRegs s t := by
  obtain ⟨hticks, hsup, hlate, -, hreg⟩ := (tickView_iff s t).mp h
  have hl : ∀ a ∈ lengRegs, a ∈ tickRegs := by decide
  exact ⟨hticks, hsup, fun hs => hlate.trans hs, State.bit_of_reg _ _ _ _ _ (hreg _ (by decide)), fun a ha => hreg a (hl a ha)⟩

theorem ite {c : Prop} [Decidable c] (h : LengKeeps l s t) (h' : LengKeeps l s u) : LengKeeps l s (if c then t else u) := by
  split <;> assumption

/-- A write of another register. -/
theorem setReg (h : LengKeeps l s t) {a : Nat} (hi : a ≠ Reg.IRQ_RAW pgLENG) (ha : a ∉ l) (w : Word) : LengKeeps l s (t.setReg a w) :=
  h.trans ⟨rfl, rfl, id, State.bit_setReg_ne t a w _ 0 hi, fun b hb => State.reg_setReg_ne t a b w (by rintro rfl; exact ha hb)⟩

theorem setFld (h : LengKeeps l s t) {a : Nat} (hi : a ≠ Reg.IRQ_RAW pgLENG) (ha : a ∉ l) (lo w v : Nat) : LengKeeps l s (t.setFld a lo w v) :=
  h.setReg hi ha _
theorem setBit (h : LengKeeps l s t) {a : Nat} (hi : a ≠ Reg.IRQ_RAW pgLENG) (ha : a ∉ l) (i : Nat) (b : Bool) : LengKeeps l s (t.setBit a i b) :=
  h.setReg hi ha _
theorem addSat (h : LengKeeps l s t) {a : Nat} (hi : a ≠ Reg.IRQ_RAW pgLENG) (ha : a ∉ l) (lo w n : Nat) : LengKeeps l s (t.addSat a lo w n) :=
  h.setReg hi ha _

/-- Another interrupt of the loop engine. -/
theorem raise (h : LengKeeps l s t) {i : Nat} (hi : i ≠ 0) (hlt : i < 32) (hr : Reg.IRQ_RAW pgLENG ∉ l) (hs : Reg.IRQ_STAT pgLENG ∉ l) :
    LengKeeps l s (t.raise pgLENG i) := by
  refine h.trans ⟨rfl, rfl, id, ?_, fun b hb => State.reg_raise_ne t pgLENG i b (by rintro rfl; exact hr hb) (by rintro rfl; exact hs hb)⟩
  rw [State.bit_raise _ _ _ _ hlt, decide_eq_false hi, Bool.or_false]

theorem err (h : LengKeeps l s t) {p : Nat} (hi : Reg.ERR_INFO p ≠ Reg.IRQ_RAW pgLENG) (ha : Reg.ERR_INFO p ∉ l) (c m : Nat) :
    LengKeeps l s (t.err p c m) := by
  obtain ⟨a, w, he⟩ := t.err_eq p c m
  exact h.trans ⟨by rw [he]; rfl, by rw [he]; rfl, by rw [he]; exact id, State.bit_err_ne t p c m _ 0 hi,
    fun b hb => State.reg_err_ne t p c m b (by rintro rfl; exact ha hb)⟩

theorem report (h : LengKeeps l s t) (p c m : Nat) (q : List Nat) : LengKeeps l s (t.report p c m q) :=
  h.trans ⟨rfl, rfl, id, State.bit_report .., fun _ _ => State.reg_report ..⟩

theorem setL (h : LengKeeps l s t) {x : Leng} (h1 : x.supOut = t.leng.supOut) (h2 : t.leng.late = false → x.late = false) :
    LengKeeps l s (t.setL x) := h.trans ⟨rfl, h1, h2, rfl, fun _ _ => rfl⟩

theorem bit (h : LengKeeps l s t) {a : Nat} (ha : a ∈ l) (i : Nat) : t.bit a i = s.bit a i := State.bit_of_reg _ _ _ _ _ (h.reg a ha)
theorem fld (h : LengKeeps l s t) {a : Nat} (ha : a ∈ l) (lo w : Nat) : t.fld a lo w = s.fld a lo w := State.fld_of_reg _ _ _ _ _ _ (h.reg a ha)

end LengKeeps

/-! ## Reading and computing (R194, R198, R199, R228) -/

theorem LRun.rd_keeps (r : LRun) (a : Nat) : LengKeeps lengRegs r.s (r.rd a).2.s := by
  unfold LRun.rd
  split
  · exact .refl _ _
  · split
    · exact .refl _ _
    · split
      · exact (((LengKeeps.refl lengRegs r.s).addSat (by decide) (by decide) 0 16 1).setFld (by decide) (by decide) 16 12 a).raise
          (by decide) (by decide) (by decide) (by decide)
      · exact .refl _ _

theorem LRun.rds_keeps (l : List Nat) (r : LRun) : LengKeeps lengRegs r.s (r.rds l).2.s := by
  induction l generalizing r with
  | nil =>
    rw [LRun.rds]
    exact .refl _ _
  | cons a l ih =>
    rw [LRun.rds]
    exact (r.rd_keeps a).trans (ih _)

theorem LRun.input_keeps (r : LRun) (prev : Int) (a : Nat) : LengKeeps lengRegs r.s (r.input prev a).2.s := by
  unfold LRun.input
  split
  · exact .refl _ _
  · split
    · exact .refl _ _
    · exact r.rd_keeps a

theorem LRun.sincos_keeps (r : LRun) (tab ang : Nat) : LengKeeps lengRegs r.s (r.sincos tab ang).2.2.s := r.rds_keeps _

theorem LRun.desc_keeps (r : LRun) (a : Nat) : LengKeeps lengRegs r.s (r.desc a).2.s := r.rds_keeps _

theorem observerRun_keeps (r : LRun) (d : StageDesc) (c st va0 : List Int) (free : Int) :
    LengKeeps lengRegs r.s (observerRun r d c st va0 free).2.s := by
  unfold observerRun
  extract_lets p z fl flags fang st1 ia ib va vb ra rb ea eb iah ibh mag th0 sc err dth th angle su
  have h1 : LengKeeps lengRegs r.s fl.2.s := r.rds_keeps _
  have h2 : LengKeeps lengRegs fl.2.s sc.2.2.s := fl.2.sincos_keeps _ _
  have h3 : LengKeeps lengRegs sc.2.2.s su.2.2.s := sc.2.2.sincos_keeps _ _
  exact (h1.trans h2).trans h3

theorem finishStage_keeps (r : LRun) (d : StageDesc) (act : Nat) (ff y : Int) (new : List Int) :
    LengKeeps lengRegs r.s (finishStage r d act ff y new).2.s := by
  refine .of_tickView ?_
  unfold finishStage
  dsimp only
  rw [tickView_storeWord]
  split
  · rfl
  · exact tickView_storeStates ..

theorem runStage_keeps (r : LRun) (cond : Nat) (prev : Int) (d : StageDesc) : LengKeeps lengRegs r.s (runStage r cond prev d).2.s := by
  unfold runStage
  extract_lets act q c z a a1 b b1 free o seen work drawn outs new stored done src b' x ang f y
  have hc : LengKeeps lengRegs r.s c.2.s := q.rds_keeps _
  have hz : LengKeeps lengRegs r.s z.2.s := hc.trans (c.2.rds_keeps _)
  have ha : LengKeeps lengRegs r.s a.2.s := hz.trans (z.2.input_keeps _ _)
  split
  · exact q.input_keeps _ _
  · split
    · have ha1 : LengKeeps lengRegs r.s a1.2.s := ha.trans (a.2.input_keeps _ _)
      have hb : LengKeeps lengRegs r.s b.2.s := ha1.trans (a1.2.input_keeps _ _)
      have hb1 : LengKeeps lengRegs r.s b1.2.s := hb.trans (b.2.input_keeps _ _)
      have ho : LengKeeps lengRegs r.s o.2.s := hb1.trans (observerRun_keeps _ _ _ _ _ _)
      split
      · exact ho
      · have hdrawn : tickView drawn = tickView o.2.s := tickView_with_fresh _ _
        have hstored : tickView stored = tickView drawn := by
          unfold stored
          split
          · rfl
          · exact tickView_storeStates ..
        exact ho.trans (.of_tickView ((tickView_storeStates ..).trans (hstored.trans hdrawn)))
    · have hb : LengKeeps lengRegs r.s b'.2.s := ha.trans (by
        unfold b'
        split
        · exact a.2.input_keeps _ _
        · exact .refl _ _)
      have hx : LengKeeps lengRegs r.s x.2.s := hb.trans (by
        unfold x
        split
        · exact b'.2.input_keeps _ _
        · exact .refl _ _)
      have hf : LengKeeps lengRegs r.s f.2.s := hx.trans (by
        unfold f
        split
        · exact .refl _ _
        · split
          · exact x.2.input_keeps _ _
          · exact (x.2.rd_keeps _).trans (ang.2.rd_keeps _))
      split
      · exact hf
      · exact hf.trans (finishStage_keeps _ _ _ _ _ _)

theorem runStages_keeps (cond lim n a : Nat) (prev : Int) (r : LRun) : LengKeeps lengRegs r.s (runStages cond lim n a prev r).2.s := by
  induction n generalizing a prev r with
  | zero =>
    rw [runStages]
    exact .refl _ _
  | succ n ih =>
    have hd := r.desc_keeps a
    have hq := hd.trans (runStage_keeps (r.desc a).2 cond prev (r.desc a).1)
    rw [runStages]
    split
    · exact .refl _ _
    · dsimp only
      split
      · exact hd
      · split
        · exact hq
        · split
          · exact .refl _ _
          · exact hq.trans (ih _ _ _)

theorem runProgs_keeps (cond lim : Nat) (l : List Prog) (r : LRun) : LengKeeps lengRegs r.s (runProgs cond lim l r).1.s := by
  induction l generalizing r with
  | nil =>
    rw [runProgs]
    exact .refl _ _
  | cons g l ih =>
    have hq := runStages_keeps cond lim g.nstage g.base 0 { r with clk := r.clk + 2 }
    rw [runProgs]
    split
    · exact hq
    · split
      · exact hq.trans (ih _)
      · exact hq

theorem resumeProgs_keeps (lim : Nat) (x : LengRest) (s : State) : LengKeeps lengRegs s (resumeProgs lim x s).1.s := by
  have hq := runStages_keeps x.cond lim x.left x.addr x.prev ⟨s, x.clk + 4, none⟩
  unfold resumeProgs
  extract_lets q
  split
  · exact hq
  · split
    · exact hq.trans (runProgs_keeps _ _ _ _)
    · exact hq

/-! ## Stops and the end of a computation (R209, R212) -/

/-- What a stop writes before the servo's safe state. -/
def stopMarked (s : State) (word : Option Nat) : State :=
  let s := ((s.setBit (Reg.STAT pgLENG) 8 true).raise pgLENG 1).err pgLENG 0x0D04 0
  s.report pgLENG 0x0D04 5 (match word with
    | some a => [a]
    | none => [])

/-- The loop engine stopped, its outputs not yet in the servo's safe state. -/
def stopHeld (s : State) (word : Option Nat) : State :=
  (stopMarked s word).setL { (stopMarked s word).leng with overran := none, rest := none, late := false }

theorem lengStop_running {s : State} (h : lengStopped s = false) (word : Option Nat) :
    lengStop s word = enterSafe (stopHeld s word) 6 := by
  unfold lengStop
  rw [if_neg (by simp [h])]
  rfl

theorem lengStop_stopped {s : State} (h : lengStopped s = true) (word : Option Nat) : lengStop s word = s := by
  unfold lengStop
  rw [if_pos h]

theorem stopMarked_keeps (s : State) (word : Option Nat) : LengKeeps lengRegs s (stopMarked s word) := by
  have h : LengKeeps lengRegs s ((s.setBit (Reg.STAT pgLENG) 8 true).raise pgLENG 1) :=
    ((LengKeeps.refl lengRegs s).setBit (by decide) (by decide) 8 true).raise (by decide) (by decide) (by decide) (by decide)
  exact (h.err (by decide) (by decide) 0x0D04 0).report _ _ _ _

theorem lengStop_keeps (s : State) (word : Option Nat) : LengKeeps lengRegs s (lengStop s word) := by
  cases h : lengStopped s
  · have hheld : LengKeeps lengRegs s (stopHeld s word) := (stopMarked_keeps s word).setL rfl fun _ => rfl
    rw [lengStop_running h]
    exact hheld.trans (.of_tickView (tickView_enterSafe ..))
  · rw [lengStop_stopped h]
    exact .refl _ s

theorem endRun_keeps (q : LRun × Option LengRest) : LengKeeps lengRegs q.1.s (endRun q) := by
  unfold endRun
  split
  · exact lengStop_keeps _ _
  · exact (LengKeeps.refl _ _).setL rfl id
  · extract_lets src t u
    have ht : LengKeeps lengRegs q.1.s t := (LengKeeps.refl _ _).setL rfl id
    exact (ht.setFld (by decide) (by decide) 0 9 _).setFld (by decide) (by decide) 0 10 _

theorem compute_keeps (s : State) : LengKeeps lengRegs s (compute s) := by
  unfold compute
  extract_lets t due
  have ht : LengKeeps lengRegs s t := .ite (.of_tickView (tickView_setProgs ..)) (.refl _ s)
  split
  · exact ht
  · split
    · exact ht.setFld (by decide) (by decide) 0 9 0
    · exact ht.trans ((runProgs_keeps _ _ _ ⟨t, _, _⟩).trans (endRun_keeps _))

theorem computeLate_keeps (s : State) : LengKeeps lengRegs s (computeLate s) := by
  unfold computeLate
  split
  · exact ((resumeProgs_keeps _ _ s).trans (endRun_keeps _)).setL rfl id
  · exact .refl _ s

theorem stopUnended_keeps (s : State) : LengKeeps lengRegs s (stopUnended s) := by
  have hheld : LengKeeps lengRegs s (s.setL { s.leng with outNew := s.leng.out, vdqNew := false }) := (LengKeeps.refl _ s).setL rfl id
  unfold stopUnended
  split
  · exact hheld.trans (lengStop_keeps _ _)
  · exact .refl _ s

/-! ## The steps of an exchange (R190, R195, R204, R207, R213) -/

theorem exchangeRead_keeps (s : State) (a : Nat) : LengKeeps lengRegs s (exchangeRead s a).2 := by
  have hr : LengKeeps lengRegs s ((⟨s, 0, none⟩ : LRun).rd a).2.s := (⟨s, 0, none⟩ : LRun).rd_keeps a
  unfold exchangeRead
  generalize (⟨s, 0, none⟩ : LRun).rd a = r at hr ⊢
  dsimp only
  split
  · exact hr.trans (lengStop_keeps r.2.s (some _))
  · exact hr.setL rfl id

theorem condTick_keeps (s : State) : LengKeeps lengRegs s (condTick s) := by
  have hq := exchangeRead_keeps s 0x80
  unfold condTick
  dsimp only
  split
  · exact hq.trans (.of_tickView (tickView_setMort ..))
  · exact hq

theorem routeTick_keeps (s : State) (r : Nat) : LengKeeps lengRegs s (routeTick s r) := by
  have hx := exchangeRead_keeps s (if s.bit (Reg.LENG_EXT_CFG r) 1 then 0x24 else 0x1F)
  unfold routeTick
  split
  · exact .refl _ s
  · generalize exchangeRead s (if s.bit (Reg.LENG_EXT_CFG r) 1 then 0x24 else 0x1F) = x at hx ⊢
    have hold : ∀ (c : Prop) [Decidable c] (a : Nat), LengKeeps lengRegs s (if c then ((some 0 : Option Int), x.2) else exchangeRead x.2 a).2 := by
      intro c _ a
      by_cases hc : c
      · rw [if_pos hc]
        exact hx
      · rw [if_neg hc]
        exact hx.trans (exchangeRead_keeps x.2 a)
    dsimp only
    split
    · exact (hold _ _).trans (.of_tickView (tickView_setMort ..))
    · exact hold _ _

end Sys2Proof.Machine
end

section
/-! The tick boundary's parts and what it leaves of time, of the supervisor's tick and of the loop engine (O15). -/
namespace Sys2Proof.Machine

/-! ## Swap, batch and the exchange (R190, R204, R207) -/

/-- The registers of `lengRegs` that an exchange never writes. -/
abbrev exchangeRegs : List Nat := [Reg.TICK_SUP, Reg.PWR_VIN, Reg.IRQ_RAW 0x01, Reg.LENG_OVR, Reg.LENG_OVR_TICK]

theorem LengKeeps.view {s t u : State} (h : LengKeeps lengRegs s t) (hv : tickView u = tickView t) : LengKeeps lengRegs s u :=
  h.trans (.of_tickView hv)

/-- The swap's bank and its count (R207). -/
def swapCounted (s : State) : State :=
  let s := s.setL { s.leng with actSwap := false }
  s.setReg Reg.LENG_SHADOW (Word.ofNat ((s.fld Reg.LENG_SHADOW 8 8 + 1) % 256 * 256 + (if bankY s then 0 else 65536)))

theorem swapCounted_keeps (s : State) : LengKeeps (Reg.LENG_UPD_CTRL :: exchangeRegs) s (swapCounted s) :=
  ((LengKeeps.refl (Reg.LENG_UPD_CTRL :: exchangeRegs) s).setL (x := { s.leng with actSwap := false }) rfl id).setReg
    (a := Reg.LENG_SHADOW) (by decide) (by decide) _

/-- SWAPNOW reads 0 after the swap. -/
theorem swapCounted_bit (s : State) : (swapCounted s).bit Reg.LENG_SHADOW 2 = false := by
  have hn : ∀ (n : Nat) (b : Bool), fieldOf (Word.ofNat (n % 256 * 256 + (if b then 0 else 65536))) 2 1 = 0 := by
    intro n b
    unfold fieldOf Word.ofNat
    rw [BitVec.toNat_ofNat]
    cases b <;> simp <;> omega
  unfold swapCounted State.bit State.fld
  dsimp only
  rw [State.reg_setReg_same, hn]
  rfl

theorem lengSwap_keeps (s : State) : LengKeeps lengRegs (swapCounted s) (lengSwap s) := by
  unfold lengSwap
  extract_lets _ s1 n y s2 s3 s4 re l
  have h3 : LengKeeps lengRegs (swapCounted s) s3 :=
    ((LengKeeps.refl lengRegs (swapCounted s)).setBit (a := Reg.STAT pgLENG) (by decide) (by decide) 9 false).raise (i := 4) (by decide) (by decide) (by decide) (by decide)
  refine h3.view ?_
  rw [tickView_setProgs, tickView_foldl (fun s g => tickView_setReg (offTick_LENG_PROG_CYC _) s _), tickView_trcEvent]

/-- Step 2 of the exchange: the swap where one is pending. -/
theorem swapStep_values (s : State) :
    LengKeeps (Reg.LENG_UPD_CTRL :: exchangeRegs) s (if swapPending s then mgSwap (lengSwap s) else s) ∧
      (if swapPending s then mgSwap (lengSwap s) else s).bit Reg.LENG_SHADOW 2 = false := by
  split
  · have h : LengKeeps lengRegs (swapCounted s) (mgSwap (lengSwap s)) := (lengSwap_keeps s).view (tickView_mgSwap _)
    exact ⟨(swapCounted_keeps s).trans (h.mono (by decide)), (h.bit (by decide) 2).trans (swapCounted_bit s)⟩
  · next hp =>
    have hp : swapPending s = false := by simpa using hp
    exact ⟨.refl _ s, (Bool.or_eq_false_iff.mp hp).2⟩

theorem batchTick_values (s : State) :
    LengKeeps (Reg.LENG_SHADOW :: exchangeRegs) s (batchTick s) ∧ (batchTick s).bit Reg.LENG_UPD_CTRL 31 = false := by
  unfold batchTick
  split
  · have hput : LengKeeps lengRegs s (s.leng.upd.foldl (fun s q => s.putMort q.1 q.2) s) :=
      .of_tickView (tickView_foldl (fun s (q : Nat × Word) => tickView_putMort s q.1 q.2) _ s)
    generalize s.leng.upd.foldl (fun s q => s.putMort q.1 q.2) s = u at hput ⊢
    have hput : LengKeeps (Reg.LENG_SHADOW :: exchangeRegs) s u := hput.mono (by decide)
    exact ⟨(hput.setL (x := { u.leng with upd := [] }) rfl id).setBit (by decide) (by decide) 31 false, State.bit_setBit_same _ _ _ _ (by decide)⟩
  · next hu => exact ⟨.refl _ s, by simpa using hu⟩

theorem hardwareWords_keeps (s : State) (i : TickIn) : LengKeeps lengRegs s (hardwareWords s i) := by
  unfold hardwareWords
  extract_lets s1 s2 _ s3 s4 _
  have h2 : tickView s2 = tickView s := by
    unfold s2 s1
    rw [tickView_rfqTick, tickView_setMort, tickView_setMort]
  have h3 : tickView s3 = tickView s := by
    unfold s3
    split
    · exact ((tickView_with_fresh _ _).trans (tickView_setMort ..)).trans h2
    · exact (tickView_setMort ..).trans h2
  have h4 : LengKeeps lengRegs s s4 := .of_tickView (by
    unfold s4
    rw [tickView_spnWords, tickView_spdTick, tickView_vbusTick, h3])
  clear_value s4
  exact (h4.setL (x := { s4.leng with vdqNew := false, stall := 0 }) rfl id).trans (condTick_keeps _)

/-- An exchange takes a pending batch and a pending SWAPNOW. -/
theorem fullBoundary_values (s : State) (i : TickIn) : LengKeeps exchangeRegs s (fullBoundary s i) ∧
    (fullBoundary s i).bit Reg.LENG_UPD_CTRL 31 = false ∧ (fullBoundary s i).bit Reg.LENG_SHADOW 2 = false := by
  unfold fullBoundary
  extract_lets _ out trc sw br adc dem hw cal bat fin
  have htrc : LengKeeps lengRegs s trc := 
    ((LengKeeps.refl lengRegs s).setL (x := { s.leng with out := s.leng.outNew }) rfl id).view (tickView_trcTick ..)
  obtain ⟨hsw, hnow⟩ := swapStep_values trc
  have hdem : tickView dem = tickView sw := by
    have hadc : tickView adc = tickView sw := by unfold adc br; rw [tickView_sadcTick, tickView_bridgesTick]
    unfold dem
    split
    · exact (tickView_takeDemand _).trans hadc
    · exact hadc
  have hhw : LengKeeps lengRegs sw hw := (LengKeeps.of_tickView
    (((tickView_holdupTick _).trans (tickView_valleyTick dem i)).trans hdem)).trans (hardwareWords_keeps _ i)
  have hcal : LengKeeps lengRegs sw cal := hhw.view (by
    unfold cal
    split
    · rfl
    · exact tickView_foldl tickView_mgCheck _ _)
  have hroute : LengKeeps lengRegs sw (routeTick (routeTick cal 0) 1) :=
    (hcal.trans (routeTick_keeps cal 0)).trans (routeTick_keeps _ 1)
  obtain ⟨hbat, hupd⟩ := batchTick_values (routeTick (routeTick cal 0) 1)
  have hfin : LengKeeps lengRegs bat fin := .of_tickView (by
    unfold fin
    split
    · rfl
    · rw [tickView_retryGlide, tickView_foldl tickView_mgStep])
  have hend : LengKeeps lengRegs bat (compute (blockTicks fin)) := (hfin.view (tickView_blockTicks fin)).trans (compute_keeps _)
  refine ⟨?_, (hend.bit (by decide) 31).trans hupd, ?_⟩
  · exact (((htrc.mono (by decide)).trans (hsw.mono (by decide))).trans (hroute.mono (by decide))).trans
      ((hbat.mono (by decide)).trans (hend.mono (by decide)))
  · exact (hend.bit (by decide) 2).trans ((hbat.bit (by decide) 2).trans ((hroute.bit (by decide) 2).trans hnow))

theorem LengKeeps.lateCleared {l : List Nat} {s t : State} (h : LengKeeps l s t) :
    LengKeeps l s (t.setL { t.leng with late := false }) := h.setL rfl fun _ => rfl

/-- After an overrun the batch and the swap wait (R209). -/
theorem lateBoundary_keeps (s : State) (i : TickIn) : LengKeeps lengRegs s (lateBoundary s i) := by
  have hbus : tickView (vbusTick (valleyTick (sadcTick (bridgeLate (trcTick s i.stalls)) false) i) false i.vin) = tickView s := by
    rw [tickView_vbusTick, tickView_valleyTick, tickView_sadcTick, tickView_bridgeLate, tickView_trcTick]
  exact ((LengKeeps.of_tickView ((tickView_blockTicks _).trans hbus)).trans (computeLate_keeps _)).lateCleared

theorem lateBoundary_late (s : State) (i : TickIn) : (lateBoundary s i).leng.late = false := by
  unfold lateBoundary
  rfl

/-! ## Overruns (R209, R210) -/

/-- An overrun counted, with its tick and its interrupt. -/
def overrunCounted (s : State) (k : Nat) : State :=
  ((s.addSat Reg.LENG_OVR 0 16 1).setReg Reg.LENG_OVR_TICK (Word.ofNat k)).raise pgLENG 0

/-- What an overrun leaves of the loop engine. -/
structure Overran (s : State) (k : Nat) (t : State) : Prop where
  ticks : t.ticks = s.ticks
  late : t.leng.late = true
  irq : t.irq pgLENG 0
  count : t.fld Reg.LENG_OVR 0 16 = min (s.fld Reg.LENG_OVR 0 16 + 1) 65535
  tick : t.reg Reg.LENG_OVR_TICK = Word.ofNat k
  reg : ∀ a ∈ [Reg.TICK_SUP, Reg.PWR_VIN, Reg.LENG_UPD_CTRL, Reg.LENG_SHADOW], t.reg a = s.reg a

/-- The rest of an overrun's handling says nothing of these. -/
theorem Overran.view {s t u : State} {k : Nat} (h : Overran s k t) (hv : tickView u = tickView t) : Overran s k u := by
  obtain ⟨hticks, -, hlate, -, hreg⟩ := (tickView_iff t u).mp hv
  have hsub : ∀ a ∈ [Reg.TICK_SUP, Reg.PWR_VIN, Reg.LENG_UPD_CTRL, Reg.LENG_SHADOW], a ∈ tickRegs := by decide
  exact ⟨hticks.trans h.ticks, hlate.trans h.late, (State.bit_of_reg _ _ _ _ _ (hreg _ (by decide))).trans h.irq,
    (State.fld_of_reg _ _ _ _ _ _ (hreg _ (by decide))).trans h.count, (hreg _ (by decide)).trans h.tick,
    fun a ha => (hreg a (hsub a ha)).trans (h.reg a ha)⟩

/-- A state that keeps what an overrun counted, its boundary a late one. -/
theorem overran_of_counted {s t : State} {k : Nat} (h : LengKeeps lengRegs (overrunCounted s k) t) {x : Leng} (hx : x.late = true) :
    Overran s k (t.setL x) where
  ticks := h.ticks
  late := hx
  irq := h.irq.trans (by
    unfold overrunCounted
    rw [State.bit_raise _ _ _ _ (by decide), decide_eq_true rfl, Bool.or_true])
  count := (h.fld (by decide) 0 16).trans (by
    unfold overrunCounted
    rw [State.fld_raise_ne _ _ _ _ _ _ (by decide) (by decide), State.fld_setReg_ne _ _ _ _ _ _ (by decide),
      State.fld_addSat_same _ _ _ _ _ (by decide)]
    rfl)
  tick := (h.reg _ (by decide)).trans (by
    unfold overrunCounted
    rw [State.reg_raise_ne _ _ _ _ (by decide) (by decide), State.reg_setReg_same])
  reg := by
    have hne : ∀ a ∈ [Reg.TICK_SUP, Reg.PWR_VIN, Reg.LENG_UPD_CTRL, Reg.LENG_SHADOW], a ∈ lengRegs ∧ Reg.IRQ_RAW pgLENG ≠ a ∧
        Reg.IRQ_STAT pgLENG ≠ a ∧ Reg.LENG_OVR_TICK ≠ a ∧ Reg.LENG_OVR ≠ a := by decide
    intro a ha
    obtain ⟨hl, hraw, hstat, htick, hovr⟩ := hne a ha
    refine (h.reg a hl).trans ?_
    unfold overrunCounted
    rw [State.reg_raise_ne _ _ _ _ hraw hstat, State.reg_setReg_ne _ _ _ _ htick, State.reg_addSat_ne _ _ _ _ _ _ hovr]

theorem overrun_overran (s : State) (k p : Nat) : Overran s k (overrun s k p) := by
  unfold overrun
  extract_lets s1 s2 win n _ _ _ s3 s4 third _ s5
  have h2 : LengKeeps lengRegs (overrunCounted s k) s2 := (LengKeeps.refl _ _).err (by decide) (by decide) _ _
  have h3 : LengKeeps lengRegs (overrunCounted s k) s3 := by
    unfold s3
    split
    · exact h2.setL rfl id
    · exact (h2.report _ _ _ _).setL rfl id
  have h5 : Overran s k s5 := overran_of_counted (h3.view (tickView_trcEvent ..)) rfl
  clear_value s5 third
  split
  · split
    · exact h5.view (tickView_enterSafe ..)
    · exact h5
  · exact h5

/-! ## The supervisor's tick and what PWR measures (R192, R286) -/

/-- The registers the supervisor's tick writes. -/
abbrev supTickRegs : List Nat := [Reg.TICK_LATE, Reg.IRQ_RAW 0x01, Reg.IRQ_STAT 0x01, Reg.ERR_INFO 0x01]

/-- What the supervisor's tick leaves as it was. -/
structure SupKeeps (s t : State) : Prop where
  ticks : t.ticks = s.ticks
  late : t.leng.late = s.leng.late
  reg : ∀ a ∉ supTickRegs, t.reg a = s.reg a

theorem SupKeeps.raise {s t : State} (h : SupKeeps s t) (i : Nat) : SupKeeps s (t.raise 0x01 i) :=
  ⟨h.ticks, h.late, fun a ha => (State.reg_raise_ne _ _ _ _ (by rintro rfl; exact ha (by decide))
    (by rintro rfl; exact ha (by decide))).trans (h.reg a ha)⟩

/-- A supervisor's tick that finds the last one outstanding counts it late. -/
theorem supTickLate_keeps (s : State) : SupKeeps s (((s.addSat Reg.TICK_LATE 0 16 1).raise 0x01 1).err 0x01 0x0C02 0) := by
  have hadd : SupKeeps s (s.addSat Reg.TICK_LATE 0 16 1) :=
    ⟨rfl, rfl, fun a ha => State.reg_addSat_ne _ _ _ _ _ _ (by rintro rfl; exact ha (by decide))⟩
  have h := hadd.raise 1
  exact ⟨(State.err_ticks ..).trans h.ticks, (congrArg (·.late) (State.err_leng ..)).trans h.late,
    fun a ha => (State.reg_err_ne _ _ _ _ _ (by rintro rfl; exact ha (by decide))).trans (h.reg a ha)⟩

theorem supTick_keeps (s : State) : SupKeeps s (supTick s) := by
  unfold supTick
  split
  · extract_lets t
    have ht : SupKeeps s t := by
      unfold t
      split
      · exact supTickLate_keeps s
      · exact ⟨rfl, rfl, fun _ _ => rfl⟩
    have hout : SupKeeps s (t.setL { t.leng with supOut := true }) := ⟨ht.ticks, ht.late, ht.reg⟩
    exact hout.raise 0
  · exact ⟨rfl, rfl, fun _ _ => rfl⟩

/-- Where the count meets TICK_SUP the supervisor's tick is outstanding, with its interrupt. -/
theorem supTick_due {s : State} (h : s.ticks % 2 ^ s.fld Reg.TICK_SUP 0 4 = s.fld Reg.TICK_SUP 16 10) :
    (supTick s).leng.supOut = true ∧ (supTick s).irq 0x01 0 := by
  unfold supTick
  rw [if_pos h]
  exact ⟨rfl, by rw [State.irq, State.bit_raise _ _ _ _ (by decide), decide_eq_true rfl, Bool.or_true]⟩

/-- VIN is shown in 10 mV; the other measurements say nothing of ticks. -/
theorem supplyTick_view (s : State) (i : TickIn) :
    tickView (supplyTick s i) = tickView (s.setFld Reg.PWR_VIN 0 13 (min 8191 (i.vin / 10))) := by
  unfold supplyTick
  extract_lets s1 loss _ s2 s3 s4
  have h3 : tickView s3 = tickView s2 :=
    tickView_foldl_mem (fun s b hb => tickView_setReg (offTick_ACT_BR_IMEAS (List.mem_range.mp hb)) s _) s2
  have h4 : tickView s4 = tickView s3 := by
    unfold s4
    split
    · rfl
    · exact tickView_addSat (by decide) ..
  rw [tickView_setFld (by decide), tickView_setReg (by decide), h4, h3]
  exact tickView_with_pwr _ _

/-! ## The boundary (R190) -/

/-- Up to the exchange: samples, the count, upsets of mortar words and what PWR measures. -/
def boundaryStart (i : TickIn) (s : State) : State :=
  supplyTick (i.upsets.foldl upsetMort { feed i.sadc s with ticks := (feed i.sadc s).ticks + 1 }) i

/-- An overrun that was noted counts; a computation that has not ended stops LENG. -/
def boundaryOverrun (s : State) : State :=
  match s.leng.overran with
  | some p => overrun s (s.ticks - 1) p
  | none => stopUnended s

/-- The boundary itself: a late one, or one with its exchange. -/
def boundaryRun (i : TickIn) (s : State) : State := if s.leng.late then lateBoundary s i else fullBoundary s i

/-- The boundary before the supervisor's tick. -/
def boundaryRan (i : TickIn) (s : State) : State := boundaryRun i (boundaryOverrun (boundaryStart i s))

theorem tickBoundary_eq (i : TickIn) (s : State) : tickBoundary i s = passStatus (supTick (boundaryRan i s)) := by
  unfold tickBoundary boundaryRan boundaryOverrun boundaryRun boundaryStart
  rfl

theorem settled_plain_tickRegs : ∀ a ∈ tickRegs, plainReg a = true := by decide

theorem tickView_settled (s t : State) : tickView (s.settled t) = tickView t :=
  tickView_congr rfl rfl rfl rfl fun a ha => State.settled_reg_plain s t a (settled_plain_tickRegs a ha)

/-- A boundary's next state shows of ticks what the supervisor's tick leaves. -/
theorem runs_tickBoundary {i : TickIn} {s : State} {P : State → Prop}
    (h : ∀ t, tickView t = tickView (supTick (boundaryRan i s)) → P t) : Runs (.tickBoundary i) s P :=
  runs_of_done _ rfl (h _ ((tickView_settled _ _).trans ((tickView_pump _).trans (by rw [tickBoundary_eq, tickView_passStatus]))))

/-- What a boundary has done before its exchange. -/
structure Started (i : TickIn) (s t : State) : Prop where
  ticks : t.ticks = s.ticks + 1
  late : t.leng.late = s.leng.late
  overran : t.leng.overran = s.leng.overran
  vin : t.fld Reg.PWR_VIN 0 13 = min 8191 (i.vin / 10)
  reg : ∀ a ∈ tickRegs, a ≠ Reg.PWR_VIN → t.reg a = s.reg a

theorem boundaryStart_started (i : TickIn) (s : State) : Started i s (boundaryStart i s) := by
  unfold boundaryStart
  obtain ⟨fticks, -, flate, fover, freg⟩ := (tickView_iff _ _).mp (tickView_feed i.sadc s)
  have hup := tickView_foldl tickView_upsetMort i.upsets { feed i.sadc s with ticks := (feed i.sadc s).ticks + 1 }
  obtain ⟨uticks, -, ulate, uover, ureg⟩ := (tickView_iff _ _).mp hup
  generalize i.upsets.foldl upsetMort { feed i.sadc s with ticks := (feed i.sadc s).ticks + 1 } = u at *
  obtain ⟨vticks, -, vlate, vover, vreg⟩ := (tickView_iff _ _).mp (supplyTick_view u i)
  refine ⟨vticks.trans (uticks.trans (congrArg (· + 1) fticks)), vlate.trans (ulate.trans flate), vover.trans (uover.trans fover),
    ?_, fun a ha hne => ?_⟩
  · refine (State.fld_of_reg _ _ _ _ _ _ (vreg _ (by decide))).trans ?_
    rw [State.fld_setFld_same _ _ _ _ _ (by decide)]
    omega
  · exact (vreg a ha).trans ((State.reg_setFld_ne _ _ _ _ _ _ hne.symm).trans ((ureg a ha).trans (freg a ha)))

theorem boundaryRun_keeps (i : TickIn) (s : State) : LengKeeps exchangeRegs s (boundaryRun i s) := by
  unfold boundaryRun
  split
  · exact (lateBoundary_keeps s i).mono (by decide)
  · exact (fullBoundary_values s i).1

theorem boundaryRun_late (i : TickIn) (s : State) : (boundaryRun i s).leng.late = false := by
  unfold boundaryRun
  split
  · exact lateBoundary_late s i
  · next h => exact (fullBoundary_values s i).1.late (by simpa using h)

theorem boundaryOverrun_none {s : State} (h : s.leng.overran = none) : LengKeeps lengRegs s (boundaryOverrun s) := by
  unfold boundaryOverrun
  rw [h]
  exact stopUnended_keeps s

theorem boundaryOverrun_some {s : State} {p : Nat} (h : s.leng.overran = some p) : Overran s (s.ticks - 1) (boundaryOverrun s) := by
  unfold boundaryOverrun
  rw [h]
  exact overrun_overran s _ p

/-- A boundary advances the count, shows VIN and leaves no late boundary, with TICK_SUP as it was. -/
theorem boundaryRan_values (i : TickIn) (s : State) : (boundaryRan i s).ticks = s.ticks + 1 ∧ (boundaryRan i s).leng.late = false ∧
    (boundaryRan i s).fld Reg.PWR_VIN 0 13 = min 8191 (i.vin / 10) ∧ (boundaryRan i s).reg Reg.TICK_SUP = s.reg Reg.TICK_SUP := by
  have hs := boundaryStart_started i s
  have ho : (boundaryOverrun (boundaryStart i s)).ticks = (boundaryStart i s).ticks ∧
      ∀ a ∈ [Reg.TICK_SUP, Reg.PWR_VIN], (boundaryOverrun (boundaryStart i s)).reg a = (boundaryStart i s).reg a := by
    cases h : (boundaryStart i s).leng.overran with
    | none =>
      have hk := (boundaryOverrun_none h).mono (k := [Reg.TICK_SUP, Reg.PWR_VIN]) (by decide)
      exact ⟨hk.ticks, hk.reg⟩
    | some p =>
      have hk := boundaryOverrun_some h
      exact ⟨hk.ticks, fun a ha => hk.reg a (List.mem_append_left [Reg.LENG_UPD_CTRL, Reg.LENG_SHADOW] ha)⟩
  have hr := boundaryRun_keeps i (boundaryOverrun (boundaryStart i s))
  refine ⟨hr.ticks.trans (ho.1.trans hs.ticks), boundaryRun_late i _, ?_, ?_⟩
  · exact (hr.fld (by decide) 0 13).trans ((State.fld_of_reg _ _ _ _ _ _ (ho.2 _ (by decide))).trans hs.vin)
  · exact (hr.reg _ (by decide)).trans ((ho.2 _ (by decide)).trans (hs.reg _ (by decide) (by decide)))

/-- Where the computation before has ended the boundary is one with its exchange. -/
theorem boundaryRan_full {i : TickIn} {s : State} (hl : s.leng.late = false) (ho : s.leng.overran = none) :
    (boundaryRan i s).bit Reg.LENG_UPD_CTRL 31 = false ∧ (boundaryRan i s).bit Reg.LENG_SHADOW 2 = false := by
  have hs := boundaryStart_started i s
  have hlate := (boundaryOverrun_none (hs.overran.trans ho)).late (hs.late.trans hl)
  unfold boundaryRan boundaryRun
  rw [if_neg (by rw [hlate]; decide)]
  exact (fullBoundary_values _ i).2

/-- A late boundary with no overrun noted goes on with the computation as it stands. -/
theorem boundaryOverrun_self {s : State} (hl : s.leng.late = true) (ho : s.leng.overran = none) : boundaryOverrun s = s := by
  unfold boundaryOverrun
  rw [ho]
  exact if_neg (by simp [hl])

theorem boundaryRun_of_late {i : TickIn} {s : State} (h : s.leng.late = true) : LengKeeps lengRegs s (boundaryRun i s) := by
  unfold boundaryRun
  rw [if_pos h]
  exact lateBoundary_keeps s i

/-- After an overrun the batch and the swap wait, and one that was noted counts. -/
theorem boundaryRan_late {i : TickIn} {s : State} (h : s.leng.late = true ∨ s.leng.overran ≠ none) :
    (boundaryRan i s).reg Reg.LENG_UPD_CTRL = s.reg Reg.LENG_UPD_CTRL ∧ (boundaryRan i s).reg Reg.LENG_SHADOW = s.reg Reg.LENG_SHADOW ∧
      (s.leng.overran ≠ none → (boundaryRan i s).fld Reg.LENG_OVR 0 16 = min (s.fld Reg.LENG_OVR 0 16 + 1) 65535 ∧
        (boundaryRan i s).irq pgLENG 0) := by
  have hs := boundaryStart_started i s
  unfold boundaryRan
  cases ho : s.leng.overran with
  | none =>
    have hl := hs.late.trans (h.resolve_right (by simp [ho]))
    rw [boundaryOverrun_self hl (hs.overran.trans ho)]
    have hr := boundaryRun_of_late (i := i) hl
    exact ⟨(hr.reg _ (by decide)).trans (hs.reg _ (by decide) (by decide)), (hr.reg _ (by decide)).trans (hs.reg _ (by decide) (by decide)),
      fun hne => absurd rfl hne⟩
  | some p =>
    have hp := boundaryOverrun_some (hs.overran.trans ho)
    have hr := boundaryRun_of_late (i := i) hp.late
    refine ⟨?_, ?_, fun _ => ⟨?_, hr.irq.trans hp.irq⟩⟩
    · exact (hr.reg _ (by decide)).trans ((hp.reg _ (by decide)).trans (hs.reg _ (by decide) (by decide)))
    · exact (hr.reg _ (by decide)).trans ((hp.reg _ (by decide)).trans (hs.reg _ (by decide) (by decide)))
    · rw [hr.fld (by decide), hp.count, State.fld_of_reg _ _ _ _ _ _ (hs.reg Reg.LENG_OVR (by decide) (by decide))]

end Sys2Proof.Machine
end

section
/-! O15: ticks, overruns and stops of the loop engine. -/
namespace Sys2Proof.Machine

/-- What a boundary's next state keeps of the registers that the supervisor's tick does not write. -/
theorem reg_of_supTick {s t : State} (h : tickView t = tickView (supTick s)) {a : Nat} (ha : a ∈ tickRegs) (hn : a ∉ supTickRegs) :
    t.reg a = s.reg a := (((tickView_iff _ _).mp h).2.2.2.2 a ha).trans ((supTick_keeps s).reg a hn)

theorem fld_of_supTick {s t : State} (h : tickView t = tickView (supTick s)) {a : Nat} (ha : a ∈ tickRegs) (hn : a ∉ supTickRegs)
    (lo w : Nat) : t.fld a lo w = s.fld a lo w := State.fld_of_reg _ _ _ _ _ _ (reg_of_supTick h ha hn)

theorem bit_of_supTick {s t : State} (h : tickView t = tickView (supTick s)) {a : Nat} (ha : a ∈ tickRegs) (hn : a ∉ supTickRegs)
    (i : Nat) : t.bit a i = s.bit a i := State.bit_of_reg _ _ _ _ _ (reg_of_supTick h ha hn)

@[simp] theorem State.putReg_leng (s : State) (a : Nat) (new : Word) : (s.putReg a new).leng = s.leng := by
  obtain ⟨r, l, w, h⟩ := s.putReg_eq a new
  rw [h]

/-- A 1 acknowledges the supervisor's tick, a 0 does not (R192). -/
theorem supAck_supOut (v : Word) (s : State) : (supAck v s).leng.supOut = (s.leng.supOut && fieldOf v 0 1 == 0) := by
  have hv : fieldOf v 0 1 < 2 := Nat.mod_lt _ (by decide)
  unfold supAck
  split
  · next h =>
    rw [h]
    exact (Bool.and_false _).symm
  · next h =>
    have h0 : fieldOf v 0 1 = 0 := by omega
    simp [h0]

/-- A stop of a LENG that runs shows in STAT, in its interrupt and in ERR_INFO (R212). -/
theorem stopHeld_values (s : State) (word : Option Nat) : (stopHeld s word).bit (Reg.STAT pgLENG) 8 = true ∧
    (stopHeld s word).irq pgLENG 1 ∧ s.reports pgLENG 0x0D04 (stopHeld s word) := by
  have hreg : ∀ a, (stopHeld s word).reg a = (((s.setBit (Reg.STAT pgLENG) 8 true).raise pgLENG 1).err pgLENG 0x0D04 0).reg a := by
    intro a
    rfl
  refine ⟨(State.bit_of_reg _ _ _ _ _ (hreg _)).trans ?_, (State.bit_of_reg _ _ _ _ _ (hreg _)).trans ?_,
    (State.fld_of_reg _ _ _ _ _ _ (hreg _)).trans ?_⟩
  · rw [State.bit_err_ne _ _ _ _ _ _ (by decide), State.bit_raise_ne _ _ _ _ _ (by decide) (by decide),
      State.bit_setBit_same _ _ _ _ (by decide)]
  · rw [State.bit_err_ne _ _ _ _ _ _ (by decide), State.bit_raise _ _ _ _ (by decide), decide_eq_true rfl, Bool.or_true]
  · rw [State.fld_err_code _ _ _ _ (by decide), State.fld_raise_ne _ _ _ _ _ _ (by decide) (by decide),
      State.fld_raise_ne _ _ _ _ _ _ (by decide) (by decide), State.fld_setBit_ne _ _ _ _ _ _ _ (by decide),
      State.fld_setBit_ne _ _ _ _ _ _ _ (by decide)]

/-- Settles O15: a boundary is followed through its parts, of which only the swap, the batch, an overrun and the supervisor's tick
write what the statement names. -/
theorem tickAdvancesTimeAndSupervisorAcknowledges : Obligations.TickAdvancesTimeAndSupervisorAcknowledges := by
  unfold Obligations.TickAdvancesTimeAndSupervisorAcknowledges
  refine ⟨fun s x => ?_, fun s x h => ?_, fun s x h => ?_, fun s x h => ?_, fun s m v new h => ?_, fun s p h => ?_, fun s w h => ?_,
    fun s p h => ?_, fun s w h => ?_⟩
  · obtain ⟨hticks, hlate, hvin, -⟩ := boundaryRan_values x s
    refine runs_tickBoundary fun t ht => ?_
    obtain ⟨tticks, -, tlate, -, -⟩ := (tickView_iff _ _).mp ht
    have hsup := supTick_keeps (boundaryRan x s)
    exact ⟨tticks.trans (hsup.ticks.trans hticks), tlate.trans (hsup.late.trans hlate),
      (fld_of_supTick ht (by decide) (by decide) 0 13).trans hvin⟩
  · obtain ⟨hticks, -, -, hreg⟩ := boundaryRan_values x s
    refine runs_tickBoundary fun t ht => ?_
    obtain ⟨-, tout, -, -, treg⟩ := (tickView_iff _ _).mp ht
    obtain ⟨hout, hirq⟩ := supTick_due (s := boundaryRan x s) (by
      rw [hticks, State.fld_of_reg _ _ _ _ 0 4 hreg, State.fld_of_reg _ _ _ _ 16 10 hreg, h])
    exact ⟨tout.trans hout, (State.bit_of_reg _ _ _ _ _ (treg _ (by decide))).trans hirq⟩
  · obtain ⟨hupd, hnow⟩ := boundaryRan_full (i := x) h.1 h.2
    exact runs_tickBoundary fun t ht => ⟨(bit_of_supTick ht (by decide) (by decide) 31).trans hupd,
      (bit_of_supTick ht (by decide) (by decide) 2).trans hnow⟩
  · obtain ⟨hupd, hshadow, hcount⟩ := boundaryRan_late (i := x) h
    exact runs_tickBoundary fun t ht => ⟨(reg_of_supTick ht (by decide) (by decide)).trans hupd,
      (reg_of_supTick ht (by decide) (by decide)).trans hshadow, fun ho =>
        ⟨(fld_of_supTick ht (by decide) (by decide) 0 16).trans (hcount ho).1, (bit_of_supTick ht (by decide) (by decide) 0).trans (hcount ho).2⟩⟩
  · refine runs_of_done _ (congrArg (done s) (regWrite_take h)) ?_
    exact (supAck_supOut v _).trans (by rw [State.putReg_leng])
  · refine runs_of_done (overrun s s.ticks p) (congrArg (done s) (if_neg (by rw [h]; decide))) ?_
    have ho := overrun_overran s s.ticks p
    exact ⟨ho.late, (State.settled_reg_plain _ _ _ (by decide)).trans ho.tick,
      (State.settled_fld_plain _ _ _ _ _ (by decide)).trans ho.count, (State.settled_bit_plain _ _ _ _ (by decide)).trans ho.irq⟩
  · refine runs_of_done (enterSafe (stopHeld s (some w)) 6) (congrArg (done s) (lengStop_running h (some w))) ?_
    obtain ⟨hstop, hirq, herr⟩ := stopHeld_values s (some w)
    have hview : tickView (s.settled (enterSafe (stopHeld s (some w)) 6)) = tickView (stopHeld s (some w)) := by
      rw [tickView_settled, tickView_enterSafe]
    have hreg := ((tickView_iff _ _).mp hview).2.2.2.2
    exact ⟨(State.bit_of_reg _ _ _ _ _ (hreg _ (by decide))).trans hstop, (State.bit_of_reg _ _ _ _ _ (hreg _ (by decide))).trans hirq,
      (State.fld_of_reg _ _ _ _ _ _ (hreg _ (by decide))).trans herr⟩
  · exact runs_unchanged h.1 rfl (if_pos h.2)
  · exact runs_unchanged h.1 rfl (lengStop_stopped h.2 _)

end Sys2Proof.Machine
end

section
/-! What one conversion of SADC does to the groove counter (R160), and what ACT's part of it leaves alone (R172, R173, R182). -/
namespace Sys2Proof.Machine

@[simp] theorem State.setSv_reg (s : State) (x : Servo) (a : Nat) : (s.setSv x).reg a = s.reg a := (rfl)
@[simp] theorem State.setSv_fld (s : State) (x : Servo) (a lo w : Nat) : (s.setSv x).fld a lo w = s.fld a lo w := (rfl)

/-! ## ACT's part of a conversion -/

/-- The page of ACT. -/
abbrev actRegs (a : Nat) : Prop := 0x40005000 ≤ a ∧ a < 0x40006000

/-- `t` has the registers of `s` but for those at addresses of `P`, and the groove counter's interval and age. -/
structure GrooveKept (P : Nat → Prop) (s t : State) : Prop where
  reg : ∀ a, ¬P a → t.reg a = s.reg a
  lastInt : t.sv.lastInt = s.sv.lastInt
  age : t.sv.age = s.sv.age

namespace GrooveKept

variable {P : Nat → Prop} {s t u : State}

theorem refl (P : Nat → Prop) (s : State) : GrooveKept P s s := ⟨fun _ _ => rfl, rfl, rfl⟩

theorem trans (h : GrooveKept P s t) (h' : GrooveKept P t u) : GrooveKept P s u :=
  ⟨fun a ha => (h'.reg a ha).trans (h.reg a ha), h'.lastInt.trans h.lastInt, h'.age.trans h.age⟩

theorem ite {c : Prop} [Decidable c] (h : GrooveKept P s t) (h' : GrooveKept P s u) : GrooveKept P s (if c then t else u) := by
  split <;> assumption

theorem setReg (h : GrooveKept P s t) {a : Nat} (ha : P a) (w : Word) : GrooveKept P s (t.setReg a w) :=
  h.trans ⟨fun b hb => State.reg_setReg_ne t a b w (by rintro rfl; exact hb ha), rfl, rfl⟩

theorem setFld (h : GrooveKept P s t) {a : Nat} (ha : P a) (lo w v : Nat) : GrooveKept P s (t.setFld a lo w v) := h.setReg ha _
theorem setBit (h : GrooveKept P s t) {a : Nat} (ha : P a) (i : Nat) (b : Bool) : GrooveKept P s (t.setBit a i b) := h.setReg ha _

theorem raise (h : GrooveKept P s t) {p : Nat} (h1 : P (Reg.IRQ_RAW p)) (h2 : P (Reg.IRQ_STAT p)) (i : Nat) :
    GrooveKept P s (t.raise p i) := (h.setReg h1 _).setReg h2 _

theorem err (h : GrooveKept P s t) {p : Nat} (hp : P (Reg.ERR_INFO p)) (c m : Nat) : GrooveKept P s (t.err p c m) :=
  h.trans ⟨fun b hb => State.reg_err_ne t p c m b (fun he => hb (he ▸ hp)), congrArg Servo.lastInt (t.err_sv p c m),
    congrArg Servo.age (t.err_sv p c m)⟩

theorem setSv (h : GrooveKept P s t) {x : Servo} (h1 : x.lastInt = t.sv.lastInt := by rfl) (h2 : x.age = t.sv.age := by rfl) :
    GrooveKept P s (t.setSv x) := h.trans ⟨fun _ _ => rfl, h1, h2⟩

theorem setL (h : GrooveKept P s t) (x : Leng) : GrooveKept P s (t.setL x) := h.trans ⟨fun _ _ => rfl, rfl, rfl⟩

theorem putMort (h : GrooveKept P s t) (a : Nat) (w : Word) : GrooveKept P s (t.putMort a w) := .ite h (h.setL _)

theorem fld (h : GrooveKept P s t) {a : Nat} (ha : ¬P a) (lo w : Nat) : t.fld a lo w = s.fld a lo w :=
  State.fld_of_reg _ _ _ _ _ _ (h.reg a ha)
theorem bit (h : GrooveKept P s t) {a : Nat} (ha : ¬P a) (i : Nat) : t.bit a i = s.bit a i :=
  State.bit_of_reg _ _ _ _ _ (h.reg a ha)

end GrooveKept

theorem drive_kept {s t : State} (h : GrooveKept actRegs s t) {b : Nat} (hb : b < 2) (x : Int) : GrooveKept actRegs s (drive t b x) :=
  h.setReg (by simp only [actRegs, Reg.ACT_BR_OUT]; omega) _

theorem brakeStart_kept (s : State) : GrooveKept actRegs s (brakeStart s) :=
  .ite (drive_kept ((((GrooveKept.refl actRegs s).setFld (by decide) 0 3 3).setSv)) (fieldOf_lt _ _ _) _) (.refl _ s)

theorem seqTally_kept (s : State) : GrooveKept actRegs s (seqTally s) := (GrooveKept.refl actRegs s).setFld (by decide) 4 4 _

theorem landCrossed_kept (s : State) : GrooveKept actRegs s (landCrossed s) := .ite (brakeStart_kept s) (.refl _ s)

theorem lobeBegins_kept (g : Int) (s : State) : GrooveKept actRegs s (lobeBegins g s) :=
  .ite (((GrooveKept.refl actRegs s).setSv).trans (seqTally_kept _))
    (.ite (((GrooveKept.refl actRegs s).setSv).trans (brakeStart_kept _)) ((GrooveKept.refl actRegs s).setSv))

theorem curveSample_kept (fe sum : Int) (s : State) : GrooveKept actRegs s (curveSample fe sum s) :=
  .ite (.refl _ s) (.ite ((GrooveKept.refl actRegs s).setSv)
    (.ite (lobeBegins_kept _ s) ((GrooveKept.refl actRegs s).setSv)))

/-- A capture changes the mortar, the sequencer's state, ACT's own state and what swap is asked for. -/
theorem seqCapture_cases (s : State) : seqCapture s = s ∨ ∃ m l,
    seqCapture s = (((s.setL m).setSeq 4).setSv { s.sv with returnDue := true, setRun := 0 }).setL l := by
  have hput : ∀ a w, ∃ m, s.putMort a w = s.setL m := fun a w => by
    unfold State.putMort
    split
    · exact ⟨s.leng, rfl⟩
    · exact ⟨_, rfl⟩
  obtain ⟨m, hm⟩ := hput (s.fld Reg.LENG_FHOLD 0 12) (Word.ofNat (bitsOf 32 (bridgeOut s 0 * 65536)))
  have hpre : ∃ m, (if seqSweep s = true then s.putMort (s.fld Reg.LENG_FHOLD 0 12) (Word.ofNat (bitsOf 32 (bridgeOut s 0 * 65536))) else s) =
      s.setL m := by
    split
    · exact ⟨m, hm⟩
    · exact ⟨s.leng, rfl⟩
  obtain ⟨m', hm'⟩ := hpre
  unfold seqCapture
  split
  · rw [hm']
    dsimp only
    split
    · exact .inr ⟨m', _, rfl⟩
    · exact .inr ⟨m', m', rfl⟩
  · exact .inl rfl

theorem seqCapture_kept (s : State) : GrooveKept actRegs s (seqCapture s) := by
  obtain h | ⟨m, l, h⟩ := seqCapture_cases s <;> rw [h]
  · exact .refl _ s
  · exact ((((GrooveKept.refl actRegs s).setL m).setFld (by decide) 0 3 4).setSv).setL l

theorem shockHits_kept (s : State) : GrooveKept actRegs s (shockHits s) :=
  ((GrooveKept.refl actRegs s).setSv).raise (by decide) (by decide) 6

/-- ACT on a sample: the S-curves, then a capture, then a shock. -/
theorem actSample_cases (was : State) (v : Nat → Int) (s : State) : ∃ t,
    (t = curveSample (v 9) (v 1) s ∨ t = seqCapture (curveSample (v 9) (v 1) s)) ∧ (actSample was v s = t ∨ actSample was v s = shockHits t) := by
  generalize hw : actSample was v s = w
  unfold actSample at hw
  extract_lets u t at hw
  exact ⟨t, (ite_eq_or_eq _ _ _).symm, hw ▸ (ite_eq_or_eq _ _ _).symm⟩

theorem actSample_kept (was : State) (v : Nat → Int) (s : State) : GrooveKept actRegs s (actSample was v s) := by
  obtain ⟨t, ht, hact⟩ := actSample_cases was v s
  have hcapture : GrooveKept actRegs s t := by
    obtain rfl | rfl := ht
    · exact curveSample_kept _ _ s
    · exact (curveSample_kept _ _ s).trans (seqCapture_kept _)
  obtain h | h := hact <;> rw [h]
  · exact hcapture
  · exact hcapture.trans (shockHits_kept t)

/-! ## A sequence on the tracking axis (R172) -/

theorem seqCounted_seqCapture (s : State) : seqCounted (seqCapture s) = seqCounted s := by
  obtain h | ⟨m, l, h⟩ := seqCapture_cases s <;> rw [h]
  exact State.fld_setFld_above (s.setL m) Reg.ACT_JMP_STAT 0 3 4 4 4 (by decide) (by decide)

/-- A focus sequence alone counts S-curves. -/
theorem curveSample_tracking {s : State} (h : seqAxis s = 1) (fe sum : Int) : curveSample fe sum s = s := by
  unfold curveSample
  rw [if_pos (by simp [countsCurves, h])]

theorem seqCounted_actSample {s : State} (h : seqAxis s = 1) (was : State) (v : Nat → Int) :
    seqCounted (actSample was v s) = seqCounted s := by
  obtain ⟨t, ht, hact⟩ := actSample_cases was v s
  have hcapture : seqCounted t = seqCounted s := by
    rw [curveSample_tracking h] at ht
    obtain rfl | rfl := ht
    · rfl
    · exact seqCounted_seqCapture s
  obtain h | h := hact <;> rw [h]
  · exact hcapture
  · exact (State.fld_raise_ne _ pgACT 6 Reg.ACT_JMP_STAT 4 4 (by decide) (by decide)).trans hcapture

/-! ## SADC's part of a conversion (R159) -/

/-- The registers of an overrange. -/
abbrev overrangeRegs (a : Nat) : Prop := a ∈ [Reg.SADC_OVR, Reg.IRQ_RAW pgSADC, Reg.IRQ_STAT pgSADC, Reg.ERR_INFO pgSADC]

theorem overrange_regsOnly (l : List Int) (s : State) : RegsOnly overrangeRegs s (overrange l s) := by
  unfold overrange
  induction (List.range 32).filter (fun k => l.getD k 0 == -2048 || l.getD k 0 == 2047) generalizing s with
  | nil => exact .refl _ s
  | cons k ks ih =>
    exact ((((RegsOnly.refl overrangeRegs s).setBit (by decide) k true).raise (by decide) (by decide) 0).err (by decide) 0x0A02 k).trans (ih _)

theorem sampleHeld_regsOnly (s : State) (x : ServoSample) : ∃ h r, RegsOnly overrangeRegs
    (s.setSv { s.sv with hist := h, raw := r, taken := s.sv.taken + 1 }) (sampleHeld s x) :=
  ⟨_, _, overrange_regsOnly _ _⟩

theorem reg_sampleHeld (s : State) (x : ServoSample) {a : Nat} (ha : ¬overrangeRegs a) : (sampleHeld s x).reg a = s.reg a := by
  obtain ⟨h, r, hr⟩ := sampleHeld_regsOnly s x
  exact hr.reg ha

theorem sampleHeld_sv (s : State) (x : ServoSample) : (sampleHeld s x).sv.groove = s.sv.groove ∧ (sampleHeld s x).sv.age = s.sv.age ∧
    (sampleHeld s x).sv.lastInt = s.sv.lastInt := by
  obtain ⟨h, r, ⟨q, hq⟩, -⟩ := sampleHeld_regsOnly s x
  rw [hq]
  exact ⟨rfl, rfl, rfl⟩

/-! ## The groove counter (R160) -/

theorem grooveSide_of_reg {s t : State} (h : t.reg Reg.SADC_GCNT_CFG = s.reg Reg.SADC_GCNT_CFG) (te : Int) : grooveSide t te = grooveSide s te := by
  unfold grooveSide
  rw [State.fld_of_reg _ _ _ _ 16 12 h]

theorem grooveSide_cases (s : State) (te : Int) : grooveSide s te = 1 ∨ grooveSide s te = -1 ∨ grooveSide s te = 0 := by
  unfold grooveSide
  dsimp only
  split
  · exact .inl rfl
  · split
    · exact .inr (.inl rfl)
    · exact .inr (.inr rfl)

/-- A crossing whose zero sample passed the sum test is counted. -/
theorem grooveSample_counted {s : State} {te sum : Int} {a : Nat} (h0 : grooveSide s te ≠ 0) (hs : s.sv.groove.side = -grooveSide s te)
    (hz : grooveZero s.sv.groove te sum = some (a, true)) :
    grooveSample te sum s = grooveCounted (grooveSide s te == 1) a (grooveTaken te sum s) := by
  unfold grooveSample
  rw [if_pos ⟨h0, hs⟩, hz]

/-- A sample that completes no crossing, or one that failed the sum test. -/
theorem grooveSample_uncounted {s : State} {te sum : Int} (h : grooveSide s te = 0 ∨ s.sv.groove.side ≠ -grooveSide s te ∨
    (grooveZero s.sv.groove te sum).map (·.2) ≠ some true) :
    grooveSample te sum s = grooveTaken te sum s ∨ grooveSample te sum s = landCrossed (grooveTaken te sum s) := by
  unfold grooveSample
  dsimp only
  split
  · next hc =>
    have hz := h.resolve_left hc.1 |>.resolve_left (not_not_intro hc.2)
    match hg : grooveZero s.sv.groove te sum with
    | some (a, true) => exact absurd (by rw [hg]; rfl) hz
    | some (_, false) => exact .inr rfl
    | none => exact .inl rfl
  · exact .inl rfl

/-- A counted crossing as the counter notes it, before a sequence counts it too. -/
def grooveNoted (outward : Bool) (a : Nat) (s : State) : State :=
  ((s.setSfld Reg.SADC_GCNT 0 24 (s.sfld Reg.SADC_GCNT 0 24 + if outward then 1 else -1)).setSv
    { s.sv with lastInt := min 65535 ((s.sv.age - a) / 4), age := a }).setBit Reg.SADC_GVEL 16 outward

theorem grooveCounted_eq (outward : Bool) (a : Nat) (s : State) : grooveCounted outward a s =
    if seqRuns (grooveNoted outward a s) ∧ seqAxis (grooveNoted outward a s) = 1 ∧ seqState (grooveNoted outward a s) ≤ 3 ∧
      outward = !(grooveNoted outward a s).bit Reg.ACT_JMP_CTRL 3 then seqTally (grooveNoted outward a s) else grooveNoted outward a s := rfl

theorem reg_grooveNoted (outward : Bool) (a : Nat) (s : State) {b : Nat} (h1 : Reg.SADC_GCNT ≠ b) (h2 : Reg.SADC_GVEL ≠ b) :
    (grooveNoted outward a s).reg b = s.reg b := by
  rw [grooveNoted, State.reg_setBit_ne _ _ _ _ _ h2, State.setSv_reg, State.reg_setSfld_ne _ _ _ _ _ _ h1]

theorem fld_grooveNoted (outward : Bool) (a : Nat) (s : State) :
    (grooveNoted outward a s).fld Reg.SADC_GCNT 0 24 = bitsOf 24 (s.sfld Reg.SADC_GCNT 0 24 + if outward then 1 else -1) := by
  have hbits : ∀ i : Int, bitsOf 24 i % 2 ^ 24 = bitsOf 24 i := fun i => by unfold bitsOf; omega
  rw [grooveNoted, State.fld_setBit_ne _ _ _ _ _ _ _ (by decide), State.setSv_fld, State.setSfld, State.fld_setFld_same _ _ _ _ _ (by decide), hbits]

theorem grooveCounted_kept (outward : Bool) (a : Nat) (s : State) : GrooveKept actRegs (grooveNoted outward a s) (grooveCounted outward a s) := by
  rw [grooveCounted_eq]
  exact .ite (seqTally_kept _) (.refl _ _)

/-- A tracking sequence counts a crossing that moves its way (R172). -/
theorem seqCounted_grooveCounted {outward : Bool} {s : State} (hr : seqRuns s = true) (ha : seqAxis s = 1) (hst : seqState s ≤ 3)
    (hd : outward = !s.bit Reg.ACT_JMP_CTRL 3) (a : Nat) :
    seqCounted (grooveCounted outward a s) = min 15 (seqCounted s + 1) ∧ seqAxis (grooveCounted outward a s) = 1 := by
  have hctrl := reg_grooveNoted outward a s (b := Reg.ACT_JMP_CTRL) (by decide) (by decide)
  have hstat := reg_grooveNoted outward a s (b := Reg.ACT_JMP_STAT) (by decide) (by decide)
  have hmin : min 15 (seqCounted s + 1) % 2 ^ 4 = min 15 (seqCounted s + 1) := by omega
  have hcount : seqCounted (grooveNoted outward a s) = seqCounted s := State.fld_of_reg _ _ _ _ 4 4 hstat
  have haxis : seqAxis (grooveNoted outward a s) = 1 := (State.fld_of_reg _ _ _ _ 2 1 hctrl).trans ha
  rw [grooveCounted_eq, if_pos ⟨(State.bit_of_reg _ _ _ _ 0 hctrl).trans hr, haxis, (State.fld_of_reg _ _ _ _ 0 3 hstat).trans_le hst,
    hd.trans (congrArg (!·) (State.bit_of_reg _ _ _ _ 3 hctrl).symm)⟩]
  refine ⟨?_, (State.fld_setFld_ne _ _ _ _ _ _ _ _ (by decide)).trans haxis⟩
  unfold seqTally
  rw [hcount]
  exact (State.fld_setFld_same _ _ _ _ _ (by decide)).trans hmin

/-! ## Samples in turn -/

/-- The last sample of a row, where SADC converts and no debugger holds its page. -/
theorem sampleStep_last {s u : State} {x : List ServoSample} {y : ServoSample} (hu : x.foldl sampleStep s = u) (hr : sadcRuns u = true)
    (hf : u.frozen pgSADC = false) : (x ++ [y]).foldl sampleStep s =
      actSample u (sampleVal u y) (grooveSample (teSample u y) (sumSample u y) (sampleHeld u y)) := by
  rw [List.foldl_append, hu]
  show sampleStep u y = _
  unfold sampleStep sampleTaken
  rw [if_neg (by simp [hr]), if_neg (by simp [hf])]

/-- No conversion without SADC's RUN. -/
theorem foldl_sampleStep_stopped {s : State} {x : List ServoSample} (h : sadcRuns s = false ∨ x = []) : x.foldl sampleStep s = s := by
  obtain h | rfl := h
  · have hstep : ∀ y, sampleStep s y = s := fun y => if_pos (by simp [h])
    induction x with
    | nil => rfl
    | cons y x ih => rw [List.foldl_cons, hstep, ih]
  · rfl

/-- SADC_GVEL follows the samples. -/
theorem feed_of_foldl {s w : State} {x : List ServoSample} (hw : x.foldl sampleStep s = w) (hf : w.frozen pgSADC = false) :
    feed x s = w.setFld Reg.SADC_GVEL 0 16 (gvel w) := by
  unfold feed
  rw [hw]
  exact if_neg (by simp [hf])

theorem fld_gvel (w : State) : (w.setFld Reg.SADC_GVEL 0 16 (gvel w)).fld Reg.SADC_GVEL 0 16 = gvel w := by
  rw [State.fld_setFld_same _ _ _ _ _ (by decide)]
  unfold gvel
  omega

end Sys2Proof.Machine
end

section
/-! GROOVE_CROSSING by what its last sample is (R160, R172). -/
namespace Sys2Proof.Machine

/-- A conversion is held, and the groove counter holds its samples of TECH and SUMCH. -/
def grooveHeld (u : State) (y : ServoSample) : State := grooveTaken (teSample u y) (sumSample u y) (sampleHeld u y)

theorem reg_grooveHeld (u : State) (y : ServoSample) {a : Nat} (ha : ¬overrangeRegs a) : (grooveHeld u y).reg a = u.reg a := by
  rw [grooveHeld, grooveTaken, State.setSv_reg, reg_sampleHeld u y ha]

theorem grooveHeld_sv (u : State) (y : ServoSample) : (grooveHeld u y).sv.age = min (u.sv.age + 4) 262140 ∧
    (grooveHeld u y).sv.lastInt = u.sv.lastInt := by
  obtain ⟨-, hage, hlast⟩ := sampleHeld_sv u y
  exact ⟨congrArg (fun n => min (n + 4) 262140) hage, hlast⟩

/-- The counter's view of a sample does not turn on what the overrange writes. -/
theorem grooveSide_sampleHeld (u : State) (y : ServoSample) (te : Int) : grooveSide (sampleHeld u y) te = grooveSide u te :=
  grooveSide_of_reg (reg_sampleHeld u y (by decide)) te

section
variable {s u : State} {x : List ServoSample} {y : ServoSample} (hu : x.foldl sampleStep s = u) (hr : sadcRuns u = true)
  (hf : u.frozen pgSADC = false)
include hu hr hf

/-- The last sample completes a crossing that counts. -/
theorem feed_counted {g : Int} {a : Nat} (hg : grooveSide u (teSample u y) = g) (h0 : g ≠ 0) (hs : u.sv.groove.side = -g)
    (hz : grooveZero u.sv.groove (teSample u y) (sumSample u y) = some (a, true)) :
    ∃ w, feed (x ++ [y]) s = w.setFld Reg.SADC_GVEL 0 16 (gvel w) ∧
      w = actSample u (sampleVal u y) (grooveCounted (g == 1) a (grooveHeld u y)) := by
  obtain ⟨hgroove, -, -⟩ := sampleHeld_sv u y
  have hside := (grooveSide_sampleHeld u y (teSample u y)).trans hg
  have hlast := sampleStep_last hu hr hf (y := y)
  rw [grooveSample_counted (by rw [hside]; exact h0) (by rw [hside, hgroove]; exact hs) (by rw [hgroove]; exact hz), hside] at hlast
  refine ⟨_, feed_of_foldl hlast ?_, rfl⟩
  refine ((actSample_kept _ _ _).bit (by decide) 2).trans (((grooveCounted_kept _ _ _).bit (by decide) 2).trans ?_)
  exact (State.bit_of_reg _ _ _ _ _ ((reg_grooveNoted _ _ _ (by decide) (by decide)).trans (reg_grooveHeld u y (by decide)))).trans hf

/-- The last sample completes none, or one that failed the sum test. -/
theorem feed_uncounted (h : grooveSide u (teSample u y) = 0 ∨ u.sv.groove.side ≠ -grooveSide u (teSample u y) ∨
    (grooveZero u.sv.groove (teSample u y) (sumSample u y)).map (·.2) ≠ some true) :
    ∃ w, feed (x ++ [y]) s = w.setFld Reg.SADC_GVEL 0 16 (gvel w) ∧ GrooveKept actRegs (grooveHeld u y) w := by
  obtain ⟨hgroove, -, -⟩ := sampleHeld_sv u y
  have hlast := sampleStep_last hu hr hf (y := y)
  have hkept : GrooveKept actRegs (grooveHeld u y) (grooveSample (teSample u y) (sumSample u y) (sampleHeld u y)) := by
    obtain hk | hk := grooveSample_uncounted (s := sampleHeld u y) (te := teSample u y) (sum := sumSample u y)
      (by rw [grooveSide_sampleHeld, hgroove]; exact h)
    · rw [hk]
      exact .refl _ _
    · rw [hk]
      exact landCrossed_kept _
  have hw := hkept.trans (actSample_kept u (sampleVal u y) _)
  exact ⟨_, feed_of_foldl hlast ((hw.bit (by decide) 2).trans ((State.bit_of_reg _ _ _ _ _ (reg_grooveHeld u y (by decide))).trans hf)), hw⟩

theorem grooveCrossing_counts {g : Int} {a : Nat} (hg : grooveSide u (teSample u y) = g) (h0 : g ≠ 0) (hs : u.sv.groove.side = -g)
    (hz : grooveZero u.sv.groove (teSample u y) (sumSample u y) = some (a, true)) :
    Runs (.grooveCrossing (x ++ [y])) s fun t => t.fld Reg.SADC_GCNT 0 24 = bitsOf 24 (u.sfld Reg.SADC_GCNT 0 24 + g) ∧
      t.bit Reg.SADC_GVEL 16 = decide (g = 1) ∧ t.sv.lastInt = min 65535 ((min (u.sv.age + 4) 262140 - a) / 4) ∧
      t.fld Reg.SADC_GVEL 0 16 = gvel t := by
  obtain ⟨w, hfeed, hw⟩ := feed_counted hu hr hf hg h0 hs hz
  have hkept : GrooveKept actRegs (grooveNoted (g == 1) a (grooveHeld u y)) w := hw ▸ (grooveCounted_kept _ _ _).trans (actSample_kept _ _ _)
  have hone : (if (g == 1) = true then 1 else -1) = g := by
    obtain h | h | h := grooveSide_cases u (teSample u y) <;> rw [hg] at h
    · rw [h]; rfl
    · rw [h]; rfl
    · exact absurd h h0
  have hcnt : (grooveHeld u y).sfld Reg.SADC_GCNT 0 24 = u.sfld Reg.SADC_GCNT 0 24 :=
    congrArg (signedOf 24) (State.fld_of_reg _ _ _ _ _ _ (reg_grooveHeld u y (by decide)))
  refine runs_of_done (w.setFld Reg.SADC_GVEL 0 16 (gvel w)) (congrArg (done s) hfeed) ⟨?_, ?_, ?_, ?_⟩
  · rw [State.settled_fld_plain _ _ _ _ _ (by decide), State.fld_setFld_ne _ _ _ _ _ _ _ _ (by decide), hkept.fld (by decide),
      fld_grooveNoted, hcnt, hone]
  · rw [State.settled_bit_plain _ _ _ _ (by decide), State.bit_setFld_above _ _ _ _ _ _ (by decide) (by decide), hkept.bit (by decide),
      grooveNoted, State.bit_setBit_same _ _ _ _ (by decide)]
    rfl
  · rw [State.settled_sv, State.setFld_sv, hkept.lastInt]
    exact congrArg (fun n => min 65535 ((n - a) / 4)) (grooveHeld_sv u y).1
  · rw [State.settled_fld_plain _ _ _ _ _ (by decide), fld_gvel]
    rfl

theorem grooveCrossing_sequence {g : Int} {a : Nat} (hg : grooveSide u (teSample u y) = g) (h0 : g ≠ 0) (hs : u.sv.groove.side = -g)
    (hz : grooveZero u.sv.groove (teSample u y) (sumSample u y) = some (a, true)) (hseq : seqRuns u = true) (hax : seqAxis u = 1)
    (hst : seqState u ≤ 3) (hd : decide (g = 1) = !u.bit Reg.ACT_JMP_CTRL 3) :
    Runs (.grooveCrossing (x ++ [y])) s fun t => seqCounted t = min 15 (seqCounted u + 1) := by
  obtain ⟨w, hfeed, hw⟩ := feed_counted hu hr hf hg h0 hs hz
  have hctrl := reg_grooveHeld u y (a := Reg.ACT_JMP_CTRL) (by decide)
  have hstat := reg_grooveHeld u y (a := Reg.ACT_JMP_STAT) (by decide)
  have hcount : seqCounted (grooveHeld u y) = seqCounted u := State.fld_of_reg _ _ _ _ 4 4 hstat
  obtain ⟨hnew, haxis⟩ := seqCounted_grooveCounted (outward := g == 1) ((State.bit_of_reg _ _ _ _ 0 hctrl).trans hseq)
    ((State.fld_of_reg _ _ _ _ 2 1 hctrl).trans hax) ((State.fld_of_reg _ _ _ _ 0 3 hstat).trans_le hst)
    (hd.trans (congrArg (!·) (State.bit_of_reg _ _ _ _ 3 hctrl).symm)) a
  refine runs_of_done (w.setFld Reg.SADC_GVEL 0 16 (gvel w)) (congrArg (done s) hfeed) ?_
  refine (State.settled_fld_plain _ _ _ 4 4 (by decide)).trans ((State.fld_setFld_ne _ _ _ _ _ _ _ _ (by decide)).trans ?_)
  rw [← hcount, ← hnew, hw]
  exact seqCounted_actSample haxis _ _

theorem grooveCrossing_uncounted (h : grooveSide u (teSample u y) = 0 ∨ u.sv.groove.side ≠ -grooveSide u (teSample u y) ∨
    (grooveZero u.sv.groove (teSample u y) (sumSample u y)).map (·.2) ≠ some true) :
    Runs (.grooveCrossing (x ++ [y])) s fun t => t.reg Reg.SADC_GCNT = u.reg Reg.SADC_GCNT ∧ t.sv.lastInt = u.sv.lastInt ∧
      t.bit Reg.SADC_GVEL 16 = u.bit Reg.SADC_GVEL 16 ∧ t.sv.age = min (u.sv.age + 4) 262140 := by
  obtain ⟨w, hfeed, hkept⟩ := feed_uncounted hu hr hf h
  obtain ⟨hage, hlast⟩ := grooveHeld_sv u y
  refine runs_of_done (w.setFld Reg.SADC_GVEL 0 16 (gvel w)) (congrArg (done s) hfeed) ⟨?_, ?_, ?_, ?_⟩
  · rw [State.settled_reg_plain _ _ _ (by decide), State.reg_setFld_ne _ _ _ _ _ _ (by decide), hkept.reg _ (by decide),
      reg_grooveHeld u y (by decide)]
  · exact hkept.lastInt.trans hlast
  · rw [State.settled_bit_plain _ _ _ _ (by decide), State.bit_setFld_above _ _ _ _ _ _ (by decide) (by decide), hkept.bit (by decide)]
    exact State.bit_of_reg _ _ _ _ _ (reg_grooveHeld u y (by decide))
  · exact hkept.age.trans hage

end

/-- Without a conversion SADC_GVEL alone follows. -/
theorem grooveCrossing_idle {s : State} {x : List ServoSample} (h : sadcRuns s = false ∨ x = []) : Runs (.grooveCrossing x) s fun t =>
    t.reg Reg.SADC_GCNT = s.reg Reg.SADC_GCNT ∧ t.reg Reg.ACT_JMP_STAT = s.reg Reg.ACT_JMP_STAT ∧ t.sv = s.sv := by
  have hfeed : RegsOnly (· = Reg.SADC_GVEL) s (feed x s) := by
    unfold feed
    rw [foldl_sampleStep_stopped h]
    exact .ite (.refl _ s) ((RegsOnly.refl (· = Reg.SADC_GVEL) s).setFld rfl 0 16 _)
  refine runs_of_done (feed x s) rfl ⟨?_, ?_, ?_⟩
  · rw [State.settled_reg_plain _ _ _ (by decide), hfeed.reg (by decide)]
  · rw [State.settled_reg_plain _ _ _ (by decide), hfeed.reg (by decide)]
  · obtain ⟨⟨r, hr⟩, -⟩ := hfeed
    rw [State.settled_sv, hr]

end Sys2Proof.Machine
end

section
/-! FMT's groove addresses (R48 to R50, R505) and the write gate that a loss of position drops (R131, R182). -/
namespace Sys2Proof.Machine

@[simp] theorem State.setFmt_reg (s : State) (x : Fmt) (a : Nat) : (s.setFmt x).reg a = s.reg a := (rfl)
@[simp] theorem State.setFmt_fld (s : State) (x : Fmt) (a lo w : Nat) : (s.setFmt x).fld a lo w = s.fld a lo w := (rfl)
@[simp] theorem State.setFmt_bit (s : State) (x : Fmt) (a i : Nat) : (s.setFmt x).bit a i = s.bit a i := (rfl)
@[simp] theorem State.setFmt_fmt (s : State) (x : Fmt) : (s.setFmt x).fmt = x := (rfl)

/-! ## The disc information byte of an accepted word (R505) -/

theorem MemOnly.fmt {P : Nat → Prop} {s t : State} (h : MemOnly P s t) : t.fmt = s.fmt := by
  obtain ⟨r, m, x, e, ht⟩ := h.parts
  rw [ht]

theorem MemOnly.wenc {P : Nat → Prop} {s t : State} (h : MemOnly P s t) : t.wenc = s.wenc := by
  obtain ⟨r, m, x, e, ht⟩ := h.parts
  rw [ht]

theorem reg_takeAux (s : State) (w : Nat) {a : Nat} (hm : ¬memRegs a) (ha : Reg.FMT_DI_STAT ≠ a) : (takeAux s w).reg a = s.reg a := by
  unfold takeAux
  split
  · dsimp only
    rw [State.reg_setFld_ne _ _ _ _ _ _ ha, State.setFmt_reg]
    exact (memWrite_memOnly s .cdma _ _).reg a hm
  · rfl

theorem takeAux_fmt (s : State) (w : Nat) : (takeAux s w).fmt = { s.fmt with
    di := if s.bit Reg.FMT_DI_CTRL 0 then s.fmt.di.set (gaAuxIndex w) (GaWord.ofBits w).aux else s.fmt.di
    diMask := if s.bit Reg.FMT_DI_CTRL 0 then s.fmt.diMask ||| 2 ^ gaAuxIndex w else s.fmt.diMask } := by
  unfold takeAux
  split
  · dsimp only
    rw [State.setFld_fmt, State.setFmt_fmt, (memWrite_memOnly s .cdma _ _).fmt]
  · rfl

/-! ## An accepted word (R50) -/

/-- A word is the count from now on. -/
def gaCounted (s : State) (w conf : Nat) : State :=
  ((((s.setReg Reg.FMT_GA_LO (Word.ofNat w)).setReg Reg.FMT_GA_HI (Word.ofNat (w / 2 ^ 32))).setFld Reg.FMT_GASTAT 0 8 (min 255 conf)).setFld
    Reg.FMT_GASTAT 8 8 0).setFmt { s.fmt with pred := some (gaNext w), cand := none }

theorem gaAccept_eq (s : State) (w conf : Nat) : gaAccept s w conf = takeAux (gaCounted s w conf) w := rfl

theorem reg_gaCounted (s : State) (w conf : Nat) {a : Nat} (h1 : Reg.FMT_GA_LO ≠ a) (h2 : Reg.FMT_GA_HI ≠ a) (h3 : Reg.FMT_GASTAT ≠ a) :
    (gaCounted s w conf).reg a = s.reg a := by
  rw [gaCounted, State.setFmt_reg, State.reg_setFld_ne _ _ _ _ _ _ h3, State.reg_setFld_ne _ _ _ _ _ _ h3, State.reg_setReg_ne _ _ _ _ h2,
    State.reg_setReg_ne _ _ _ _ h1]

theorem gaAccept_regs (s : State) (w conf : Nat) : (gaAccept s w conf).reg Reg.FMT_GA_LO = Word.ofNat w ∧
    (gaAccept s w conf).reg Reg.FMT_GA_HI = Word.ofNat (w / 2 ^ 32) ∧ (gaAccept s w conf).fld Reg.FMT_GASTAT 0 8 = min 255 conf ∧
    (gaAccept s w conf).fld Reg.FMT_GASTAT 8 8 = 0 ∧
    (gaAccept s w conf).reg (Reg.IRQ_RAW pgFMT) = s.reg (Reg.IRQ_RAW pgFMT) := by
  have hconf : min 255 conf % 2 ^ 8 = min 255 conf := by omega
  rw [gaAccept_eq]
  refine ⟨?_, ?_, ?_, ?_, ?_⟩
  · rw [reg_takeAux _ w (by decide) (by decide), gaCounted, State.setFmt_reg, State.reg_setFld_ne _ _ _ _ _ _ (by decide),
      State.reg_setFld_ne _ _ _ _ _ _ (by decide), State.reg_setReg_ne _ _ _ _ (by decide), State.reg_setReg_same]
  · rw [reg_takeAux _ w (by decide) (by decide), gaCounted, State.setFmt_reg, State.reg_setFld_ne _ _ _ _ _ _ (by decide),
      State.reg_setFld_ne _ _ _ _ _ _ (by decide), State.reg_setReg_same]
  · rw [State.fld_of_reg _ _ _ _ 0 8 (reg_takeAux _ w (by decide) (by decide)), gaCounted, State.setFmt_fld,
      State.fld_setFld_below _ _ _ _ _ _ _ (by decide) (by decide), State.fld_setFld_same _ _ _ _ _ (by decide), hconf]
  · rw [State.fld_of_reg _ _ _ _ 8 8 (reg_takeAux _ w (by decide) (by decide)), gaCounted, State.setFmt_fld,
      State.fld_setFld_same _ _ _ _ _ (by decide)]
    rfl
  · rw [reg_takeAux _ w (by decide) (by decide), reg_gaCounted _ _ _ (by decide) (by decide) (by decide)]

theorem gaAccept_fmt (s : State) (w conf : Nat) : (gaAccept s w conf).fmt = { s.fmt with
    pred := some (gaNext w)
    cand := none
    di := if s.bit Reg.FMT_DI_CTRL 0 then s.fmt.di.set (gaAuxIndex w) (GaWord.ofBits w).aux else s.fmt.di
    diMask := if s.bit Reg.FMT_DI_CTRL 0 then s.fmt.diMask ||| 2 ^ gaAuxIndex w else s.fmt.diMask } := by
  rw [gaAccept_eq, takeAux_fmt, State.bit_of_reg _ s _ _ 0 (reg_gaCounted s w conf (by decide) (by decide) (by decide))]
  rfl

/-! ## A word by what it agrees with (R50) -/

/-- The wobble of 92 cells is shown. -/
def wobbleShown (rate : Nat) (s : State) : State := (s.setFld Reg.FMT_WOB 0 22 rate).setBit Reg.FMT_GASTAT 16 true

/-- An undecodable word. -/
def gaMissed (s : State) : State :=
  let s := (s.setFld Reg.FMT_GASTAT 0 8 0).addSat Reg.FMT_GASTAT 8 8 1
  s.setFmt { s.fmt with pred := s.fmt.pred.map gaNext, cand := none }

/-- A word that agrees with nothing expected is a candidate. -/
def gaCandidate (w : Nat) (s : State) : State :=
  let s := (s.setFld Reg.FMT_GASTAT 0 8 0).setFld Reg.FMT_GASTAT 8 8 0
  s.setFmt { s.fmt with pred := s.fmt.pred.map gaNext, cand := some (gaNext w) }

theorem gaWord_undecodable {cells : List (List Bool)} (h : (gaSymbols cells).bind gaDecode = none) (rate : Nat) (s : State) :
    gaWord cells rate s = gaMissed (wobbleShown rate s) := by
  unfold gaWord
  rw [h]
  rfl

theorem gaWord_decoded {cells : List (List Bool)} {w : Nat} (h : (gaSymbols cells).bind gaDecode = some w) (rate : Nat) (s : State) :
    gaWord cells rate s =
      if s.fmt.pred.map gaPlace = some (gaPlace w) then
        gaAccept (wobbleShown rate s) w ((wobbleShown rate s).fld Reg.FMT_GASTAT 0 8 + 1)
      else if s.fmt.cand.map gaPlace = some (gaPlace w) then
        gaAccept (if s.fmt.pred.isSome then (wobbleShown rate s).raise pgFMT 1 else wobbleShown rate s) w 1
      else gaCandidate w (wobbleShown rate s) := by
  unfold gaWord
  rw [h]
  cases hp : s.fmt.pred <;> cases hc : s.fmt.cand <;>
    simp only [gaCandidate, wobbleShown, State.setBit_fmt, State.setFld_fmt, hp, hc, beq_iff_eq, Option.map_some, Option.map_none,
      Option.some.injEq, reduceCtorEq, Bool.false_eq_true, if_false]

theorem fld_wobbleShown (rate : Nat) (s : State) : (wobbleShown rate s).fld Reg.FMT_GASTAT 0 8 = s.fld Reg.FMT_GASTAT 0 8 ∧
    (wobbleShown rate s).fld Reg.FMT_GASTAT 8 8 = s.fld Reg.FMT_GASTAT 8 8 := by
  constructor <;> rw [wobbleShown, State.fld_setBit_below _ _ _ _ _ _ (by decide) (by decide),
    State.fld_setFld_ne _ _ _ _ _ _ _ _ (by decide)]

theorem reg_wobbleShown (rate : Nat) (s : State) {a : Nat} (h1 : Reg.FMT_WOB ≠ a) (h2 : Reg.FMT_GASTAT ≠ a) :
    (wobbleShown rate s).reg a = s.reg a := by
  rw [wobbleShown, State.reg_setBit_ne _ _ _ _ _ h2, State.reg_setFld_ne _ _ _ _ _ _ h1]

/-! ## The write gate -/

theorem drawGrade_gate (s : State) (psa sidx : Nat) (good equal : Bool) (iters raw : Nat) :
    (drawGrade s psa sidx good equal iters raw).wenc.gate = s.wenc.gate := by
  unfold drawGrade State.setW
  dsimp only
  split <;> rw [State.addSat_wenc]

theorem failShare_gate (s : State) (a : Arm) (n c : Nat) : (failShare s a n c).wenc.gate = s.wenc.gate := by
  unfold failShare
  refine keep_foldl (g := fun s => s.wenc.gate) (fun s p => ?_) _ rfl
  dsimp only
  split
  · exact drawGrade_gate ..
  · rfl

theorem failShares_gate (a : Arm) (n : State → Nat) (l : List Nat) (s : State) :
    (l.foldl (fun s c => failShare s a (n s) c) s).wenc.gate = s.wenc.gate := by
  induction l generalizing s with
  | nil => rfl
  | cons c l ih => rw [List.foldl_cons, ih, failShare_gate]

theorem failRest_gate (s : State) : (failRest s).wenc.gate = s.wenc.gate := by
  cases h : runningArm s with
  | none => simp only [failRest, h]
  | some a => simp only [failRest, h, failShares_gate a (fun s => passPos s a)]

theorem vqPut_gate (s : State) (rec : List Nat) : (vqPut s rec).wenc.gate = s.wenc.gate := by
  unfold vqPut vqStore
  dsimp only
  split
  · rw [State.setFld_wenc, (memWrite_memOnly s .cdma _ rec).wenc]
  · rw [State.raise_wenc]
    rfl

theorem giveVerdict_gate (s : State) (a : Arm) (verdict cause : Nat) : (giveVerdict s a verdict cause).wenc.gate = s.wenc.gate := by
  unfold giveVerdict State.setW
  dsimp only
  rw [State.raise_wenc, vqPut_gate]

theorem voidFront_gate (s : State) (cause : Nat) : (voidFront s cause).wenc.gate = s.wenc.gate := by
  unfold voidFront posIdle State.setW
  dsimp only
  split
  · rfl
  · rw [giveVerdict_gate, State.err_wenc, State.raise_wenc, State.addSat_wenc, State.setReg_wenc]

/-- The gate is low after it has dropped, whether or not a pass ran. -/
theorem dropGate_gate (s : State) (cause : Nat) : (dropGate s cause).wenc.gate = false := by
  unfold dropGate
  split
  · dsimp only
    split
    · rw [voidFront_gate, failRest_gate, State.raise_wenc, State.addSat_wenc]
      rfl
    · rw [State.raise_wenc, State.addSat_wenc]
      rfl
  · next h => exact Bool.eq_false_iff.mpr h

end Sys2Proof.Machine
end

section
/-! What the groove address words, the loss of position and the disc information's capture do (O26). -/
namespace Sys2Proof.Machine

theorem State.unlessFrozen_running {s : State} {p : Nat} (h : s.frozen p = false) (f : State → State) : s.unlessFrozen p f = f s :=
  if_neg (by rw [h]; decide)

theorem State.unlessFrozen_frozen {s : State} {p : Nat} (h : s.frozen p = true) (f : State → State) : s.unlessFrozen p f = s := if_pos h

/-! ## Words of 92 cells (R48 to R50, R505) -/

theorem gaMissed_regs (s : State) : (gaMissed s).fld Reg.FMT_GASTAT 0 8 = 0 ∧
    (gaMissed s).fld Reg.FMT_GASTAT 8 8 = min (s.fld Reg.FMT_GASTAT 8 8 + 1) 255 ∧
    (gaMissed s).bit Reg.FMT_GASTAT 16 = s.bit Reg.FMT_GASTAT 16 ∧ (gaMissed s).reg Reg.FMT_WOB = s.reg Reg.FMT_WOB := by
  refine ⟨?_, ?_, ?_, ?_⟩
  · rw [gaMissed, State.setFmt_fld, State.addSat, State.fld_setFld_below _ _ _ _ _ _ _ (by decide) (by decide),
      State.fld_setFld_same _ _ _ _ _ (by decide), Nat.zero_mod]
  · rw [gaMissed, State.setFmt_fld, State.fld_addSat_same _ _ _ _ _ (by decide), State.fld_setFld_above _ _ _ _ _ _ _ (by decide) (by decide)]
    rfl
  · rw [gaMissed, State.setFmt_bit, State.addSat, State.bit_setFld_above _ _ _ _ _ _ (by decide) (by decide),
      State.bit_setFld_above _ _ _ _ _ _ (by decide) (by decide)]
  · rw [gaMissed, State.setFmt_reg, State.reg_addSat_ne _ _ _ _ _ _ (by decide), State.reg_setFld_ne _ _ _ _ _ _ (by decide)]

theorem gaCandidate_regs (w : Nat) (s : State) : (gaCandidate w s).fld Reg.FMT_GASTAT 0 8 = 0 ∧ (gaCandidate w s).fld Reg.FMT_GASTAT 8 8 = 0 ∧
    ∀ a, Reg.FMT_GASTAT ≠ a → (gaCandidate w s).reg a = s.reg a := by
  refine ⟨?_, ?_, fun a h => ?_⟩
  · rw [gaCandidate, State.setFmt_fld, State.fld_setFld_below _ _ _ _ _ _ _ (by decide) (by decide),
      State.fld_setFld_same _ _ _ _ _ (by decide), Nat.zero_mod]
  · rw [gaCandidate, State.setFmt_fld, State.fld_setFld_same _ _ _ _ _ (by decide), Nat.zero_mod]
  · rw [gaCandidate, State.setFmt_reg, State.reg_setFld_ne _ _ _ _ _ _ h, State.reg_setFld_ne _ _ _ _ _ _ h]

theorem gaMissed_fmt (s : State) : (gaMissed s).fmt = { s.fmt with pred := s.fmt.pred.map gaNext, cand := none } := by
  rw [gaMissed, State.setFmt_fmt, State.addSat_fmt, State.setFld_fmt]

theorem gaCandidate_fmt (w : Nat) (s : State) :
    (gaCandidate w s).fmt = { s.fmt with pred := s.fmt.pred.map gaNext, cand := some (gaNext w) } := by
  rw [gaCandidate, State.setFmt_fmt, State.setFld_fmt, State.setFld_fmt]

theorem wobbleShown_fmt (rate : Nat) (s : State) : (wobbleShown rate s).fmt = s.fmt := by
  rw [wobbleShown, State.setBit_fmt, State.setFld_fmt]

theorem wobbleShown_lock (rate : Nat) (s : State) : (wobbleShown rate s).bit Reg.FMT_GASTAT 16 = true ∧
    (wobbleShown rate s).fld Reg.FMT_WOB 0 22 = rate % 4194304 :=
  ⟨State.bit_setBit_same _ _ _ _ (by decide), (State.fld_setBit_ne _ _ _ _ _ _ _ (by decide)).trans (State.fld_setFld_same _ _ _ _ _ (by decide))⟩

theorem gaWord_predicted {s : State} {cells : List (List Bool)} {w : Nat} (hw : (gaSymbols cells).bind gaDecode = some w)
    (hp : s.fmt.pred.map gaPlace = some (gaPlace w)) (rate : Nat) : gaWord cells rate s = gaAccept (wobbleShown rate s) w (s.fld Reg.FMT_GASTAT 0 8 + 1) := by
  rw [gaWord_decoded hw, if_pos hp, (fld_wobbleShown rate s).1]

/-- The candidate replaces the prediction, with its interrupt where there was one. -/
theorem gaWord_confirmed {s : State} {cells : List (List Bool)} {w : Nat} (hw : (gaSymbols cells).bind gaDecode = some w)
    (hp : s.fmt.pred.map gaPlace ≠ some (gaPlace w)) (hc : s.fmt.cand.map gaPlace = some (gaPlace w)) (rate : Nat) :
    gaWord cells rate s =
      gaAccept (if s.fmt.pred.isSome then (wobbleShown rate s).raise pgFMT 1 else wobbleShown rate s) w 1 := by
  rw [gaWord_decoded hw, if_neg hp, if_pos hc]

section
variable {s : State} {cells : List (List Bool)} (hf : s.frozen pgFMT = false)
include hf

/-- What a word of a block that runs leaves is read off the word itself. -/
theorem runs_gaWord (rate : Nat) {P : State → Prop} (h : P (s.settled (gaWord cells rate s))) : Runs (.gaWord cells rate) s P :=
  runs_of_done _ (congrArg (done s) (State.unlessFrozen_running hf _)) h

theorem gaWord_counts_undecodable (h : (gaSymbols cells).bind gaDecode = none) (rate : Nat) :
    Runs (.gaWord cells rate) s fun t => t.fld Reg.FMT_GASTAT 0 8 = 0 ∧
      t.fld Reg.FMT_GASTAT 8 8 = min (s.fld Reg.FMT_GASTAT 8 8 + 1) 255 ∧ t.bit Reg.FMT_GASTAT 16 = true ∧
      t.fld Reg.FMT_WOB 0 22 = rate % 4194304 ∧ t.fmt.pred = s.fmt.pred.map gaNext ∧ t.fmt.cand = none := by
  obtain ⟨hconf, hbad, hlock, hwob⟩ := gaMissed_regs (wobbleShown rate s)
  obtain ⟨hshown, hrate⟩ := wobbleShown_lock rate s
  refine runs_gaWord hf rate ?_
  rw [gaWord_undecodable h, State.settled_fld_plain _ _ _ _ _ (by decide), State.settled_fld_plain _ _ _ _ _ (by decide),
    State.settled_fld_plain _ _ _ _ _ (by decide), State.settled_bit_plain _ _ _ _ (by decide), State.settled_fmt, gaMissed_fmt, wobbleShown_fmt]
  exact ⟨hconf, by rw [hbad, (fld_wobbleShown rate s).2], hlock.trans hshown, (State.fld_of_reg _ _ _ _ _ _ hwob).trans hrate, rfl, rfl⟩

variable {w : Nat} (hw : (gaSymbols cells).bind gaDecode = some w)
include hw

theorem gaWord_accepts_predicted (hp : s.fmt.pred.map gaPlace = some (gaPlace w)) (rate : Nat) :
    Runs (.gaWord cells rate) s fun t => t.reg Reg.FMT_GA_LO = Word.ofNat w ∧ t.reg Reg.FMT_GA_HI = Word.ofNat (w / 2 ^ 32) ∧
      t.fld Reg.FMT_GASTAT 0 8 = min 255 (s.fld Reg.FMT_GASTAT 0 8 + 1) ∧ t.fld Reg.FMT_GASTAT 8 8 = 0 ∧
      t.fmt.pred = some (gaNext w) ∧ t.fmt.cand = none := by
  obtain ⟨hlo, hhi, hconf, hbad, -⟩ := gaAccept_regs (wobbleShown rate s) w (s.fld Reg.FMT_GASTAT 0 8 + 1)
  refine runs_gaWord hf rate ?_
  rw [gaWord_predicted hw hp, State.settled_reg_plain _ _ _ (by decide), State.settled_reg_plain _ _ _ (by decide),
    State.settled_fld_plain _ _ _ _ _ (by decide), State.settled_fld_plain _ _ _ _ _ (by decide), State.settled_fmt, gaAccept_fmt]
  exact ⟨hlo, hhi, hconf, hbad, rfl, rfl⟩

theorem gaWord_accepts_candidate (hp : s.fmt.pred.map gaPlace ≠ some (gaPlace w)) (hc : s.fmt.cand.map gaPlace = some (gaPlace w))
    (rate : Nat) :
    Runs (.gaWord cells rate) s fun t => t.reg Reg.FMT_GA_LO = Word.ofNat w ∧ t.reg Reg.FMT_GA_HI = Word.ofNat (w / 2 ^ 32) ∧
      t.fld Reg.FMT_GASTAT 0 8 = 1 ∧ t.fld Reg.FMT_GASTAT 8 8 = 0 ∧ t.fmt.pred = some (gaNext w) ∧ t.fmt.cand = none ∧
      (s.fmt.pred ≠ none → t.irq pgFMT 1) := by
  obtain ⟨hlo, hhi, hconf, hbad, hraw⟩ :=
    gaAccept_regs (if s.fmt.pred.isSome then (wobbleShown rate s).raise pgFMT 1 else wobbleShown rate s) w 1
  refine runs_gaWord hf rate ?_
  rw [gaWord_confirmed hw hp hc, State.settled_reg_plain _ _ _ (by decide), State.settled_reg_plain _ _ _ (by decide),
    State.settled_fld_plain _ _ _ _ _ (by decide), State.settled_fld_plain _ _ _ _ _ (by decide), State.settled_fmt, gaAccept_fmt]
  refine ⟨hlo, hhi, hconf, hbad, rfl, rfl, fun hs => ?_⟩
  rw [State.irq, State.settled_bit_plain _ _ _ _ (by decide), State.bit_of_reg _ _ _ _ _ hraw, if_pos (Option.isSome_iff_ne_none.mpr hs),
    State.bit_raise _ _ _ _ (by decide), decide_eq_true rfl, Bool.or_true]

theorem gaWord_becomes_candidate (hp : s.fmt.pred.map gaPlace ≠ some (gaPlace w)) (hc : s.fmt.cand.map gaPlace ≠ some (gaPlace w))
    (rate : Nat) :
    Runs (.gaWord cells rate) s fun t => t.fmt.cand = some (gaNext w) ∧ t.fmt.pred = s.fmt.pred.map gaNext ∧
      t.fld Reg.FMT_GASTAT 0 8 = 0 ∧ t.fld Reg.FMT_GASTAT 8 8 = 0 ∧ t.reg Reg.FMT_GA_LO = s.reg Reg.FMT_GA_LO ∧
      t.reg Reg.FMT_GA_HI = s.reg Reg.FMT_GA_HI ∧ t.fmt.di = s.fmt.di := by
  obtain ⟨hconf, hbad, hreg⟩ := gaCandidate_regs w (wobbleShown rate s)
  refine runs_gaWord hf rate ?_
  rw [gaWord_decoded hw, if_neg hp, if_neg hc, State.settled_reg_plain _ _ _ (by decide), State.settled_reg_plain _ _ _ (by decide),
    State.settled_fld_plain _ _ _ _ _ (by decide), State.settled_fld_plain _ _ _ _ _ (by decide), State.settled_fmt, gaCandidate_fmt, wobbleShown_fmt]
  exact ⟨rfl, rfl, hconf, hbad, (hreg _ (by decide)).trans (reg_wobbleShown rate s (by decide) (by decide)),
    (hreg _ (by decide)).trans (reg_wobbleShown rate s (by decide) (by decide)), rfl⟩

theorem gaWord_captures (h : s.fmt.pred.map gaPlace = some (gaPlace w) ∨ s.fmt.cand.map gaPlace = some (gaPlace w)) (rate : Nat) :
    Runs (.gaWord cells rate) s fun t =>
      t.fmt.di = (if s.bit Reg.FMT_DI_CTRL 0 then s.fmt.di.set (gaAuxIndex w) (GaWord.ofBits w).aux else s.fmt.di) ∧
      t.fmt.diMask = (if s.bit Reg.FMT_DI_CTRL 0 then s.fmt.diMask ||| 2 ^ gaAuxIndex w else s.fmt.diMask) := by
  have hshown : (wobbleShown rate s).bit Reg.FMT_DI_CTRL 0 = s.bit Reg.FMT_DI_CTRL 0 :=
    State.bit_of_reg _ _ _ _ _ (reg_wobbleShown rate s (by decide) (by decide))
  have haccepted : ∃ u conf, gaWord cells rate s = gaAccept u w conf ∧ u.fmt = s.fmt ∧ u.bit Reg.FMT_DI_CTRL 0 = s.bit Reg.FMT_DI_CTRL 0 := by
    by_cases hp : s.fmt.pred.map gaPlace = some (gaPlace w)
    · exact ⟨_, _, gaWord_predicted hw hp rate, wobbleShown_fmt rate s, hshown⟩
    · refine ⟨_, _, gaWord_confirmed hw hp (h.resolve_left hp) rate, ?_, ?_⟩
      · split
        · rw [State.raise_fmt, wobbleShown_fmt]
        · exact wobbleShown_fmt rate s
      · rw [State.bit_ite, State.bit_raise_ne _ _ _ _ _ (by decide) (by decide), ite_self, hshown]
  obtain ⟨u, conf, hu, hfmt, hgo⟩ := haccepted
  refine runs_gaWord hf rate ?_
  rw [hu, State.settled_fmt, gaAccept_fmt, hfmt, hgo]
  exact ⟨rfl, rfl⟩

end

/-! ## Loss of position and of the wobble (R182, R505) -/

theorem gaPositionLoss_drops {s : State} (h : 16 ≤ s.fld Reg.FMT_GASTAT 8 8) :
    Runs .gaPositionLoss s fun t => t.wenc.gate = false ∧ t.irq pgACT 7 := by
  refine runs_of_done _ (congrArg (done s) (if_pos h)) ⟨?_, ?_⟩
  · rw [State.settled_wenc, State.raise_wenc, dropGate_gate]
  · rw [State.irq, State.settled_bit_plain _ _ _ _ (by decide), State.bit_raise _ _ _ _ (by decide), decide_eq_true rfl, Bool.or_true]

theorem wobbleLockLoss_reports {s : State} (h : s.frozen pgFMT = false) :
    Runs .wobbleLockLoss s fun t => t.bit Reg.FMT_GASTAT 16 = false ∧ t.irq pgFMT 2 ∧ s.reports pgFMT 0x2502 t := by
  have herr : ∀ lo w, ((s.setBit Reg.FMT_GASTAT 16 false).raise pgFMT 2).fld (Reg.ERR_INFO pgFMT) lo w = s.fld (Reg.ERR_INFO pgFMT) lo w :=
    fun lo w => State.fld_of_reg _ _ _ _ _ _ ((State.reg_raise_ne _ _ _ _ (by decide) (by decide)).trans (State.reg_setBit_ne _ _ _ _ _ (by decide)))
  refine runs_of_done _ (congrArg (done s) (State.unlessFrozen_running h _)) ⟨?_, ?_, ?_⟩
  · rw [State.settled_bit_plain _ _ _ _ (by decide), State.bit_err_ne _ _ _ _ _ _ (by decide), State.bit_raise_ne _ _ _ _ _ (by decide) (by decide),
      State.bit_setBit_same _ _ _ _ (by decide)]
  · rw [State.irq, State.settled_bit_plain _ _ _ _ (by decide), State.bit_err_ne _ _ _ _ _ _ (by decide), State.bit_raise _ _ _ _ (by decide),
      decide_eq_true rfl, Bool.or_true]
  · rw [State.reports, State.settled_fld_plain _ _ _ _ _ (by decide), State.fld_err_code _ _ _ _ (by decide), herr, herr]

/-! ## The capture of the disc information (R505, R119) -/

theorem State.reg_putReg_same (s : State) {a : Nat} (new : Word) (hi : ¬(a % 0x1000 = 0x10 ∨ a % 0x1000 = 0x14)) :
    (s.putReg a new).reg a = new := by
  unfold State.putReg
  simp only [if_neg hi]
  have hs : (s.setReg a new).reg a = new := State.reg_setReg_same _ _ _
  split
  · split <;> exact hs
  · exact hs

@[simp] theorem State.putReg_fmt (s : State) (a : Nat) (new : Word) : (s.putReg a new).fmt = s.fmt := by
  obtain ⟨r, l, w, h⟩ := s.putReg_eq a new
  rw [h]

section
variable {s : State} {m : Master} {v new : Word} (h : Takes s m Reg.FMT_DI_CTRL v new)
include h

/-- A write of FMT_DI_CTRL that is taken acts on the state with the new contents. -/
theorem runs_fmtDiCapture {P : State → Prop} (hp : P (s.settled (diCaptureGo m v (s.putReg Reg.FMT_DI_CTRL new)))) :
    Runs (.fmtDiCapture m v) s P :=
  runs_of_done _ (congrArg (done s) (regWrite_take h)) hp

theorem fmtDiCapture_starts (hgo : fieldOf v 0 1 = 1) (hnew : fieldOf new 0 1 = 0) (hbase : s.reg Reg.FMT_DI_BASE ≠ 0#32) :
    Runs (.fmtDiCapture m v) s fun t => t.bit Reg.FMT_DI_CTRL 0 = true ∧ t.reg Reg.FMT_DI_STAT = 0#32 ∧ t.fmt.diMask = 0 ∧
      t.fmt.di = List.replicate 512 0 := by
  have hidle : ¬((s.putReg Reg.FMT_DI_CTRL new).bit Reg.FMT_DI_CTRL 0 ∨ (s.putReg Reg.FMT_DI_CTRL new).reg Reg.FMT_DI_BASE = 0#32) := by
    rw [State.bit, State.fld, State.reg_putReg_same _ _ (by decide), hnew, State.reg_putReg_ne _ _ _ (by decide) (by decide)]
    exact fun hor => hor.elim (by decide) hbase
  refine runs_fmtDiCapture h ?_
  rw [diCaptureGo, if_neg (by omega), if_neg hidle, State.settled_bit_plain _ _ _ _ (by decide), State.settled_reg_plain _ _ _ (by decide),
    State.settled_fmt, State.setFmt_bit, State.setFmt_reg, State.setFmt_fmt, State.reg_setReg_same,
    State.bit_of_reg _ _ _ _ _ (State.reg_setReg_ne _ _ _ _ (by decide)), State.bit_setBit_same _ _ _ _ (by decide)]
  exact ⟨rfl, rfl, rfl, rfl⟩

theorem fmtDiCapture_refused (hgo : fieldOf v 0 1 = 1) (hbad : fieldOf new 0 1 = 1 ∨ s.reg Reg.FMT_DI_BASE = 0#32) :
    Runs (.fmtDiCapture m v) s fun t => t.fmt = s.fmt ∧ t.reg Reg.FMT_DI_STAT = s.reg Reg.FMT_DI_STAT ∧ s.reports pgFMT 0x2501 t := by
  have hrefused : (s.putReg Reg.FMT_DI_CTRL new).bit Reg.FMT_DI_CTRL 0 ∨ (s.putReg Reg.FMT_DI_CTRL new).reg Reg.FMT_DI_BASE = 0#32 := by
    rw [State.bit, State.fld, State.reg_putReg_same _ _ (by decide), State.reg_putReg_ne _ _ _ (by decide) (by decide), beq_iff_eq]
    exact hbad
  have herr : ∀ lo w, (s.putReg Reg.FMT_DI_CTRL new).fld (Reg.ERR_INFO pgFMT) lo w = s.fld (Reg.ERR_INFO pgFMT) lo w :=
    fun lo w => State.fld_of_reg _ _ _ _ _ _ (State.reg_putReg_ne _ _ _ (by decide) (by decide))
  refine runs_fmtDiCapture h ?_
  rw [diCaptureGo, if_neg (by omega), if_pos hrefused, State.refuse, State.settled_fmt, State.err_fmt, State.putReg_fmt, State.reports,
    State.settled_reg_plain _ _ _ (by decide), State.reg_err_ne _ _ _ _ _ (by decide), State.reg_putReg_ne _ _ _ (by decide) (by decide),
    State.settled_fld_plain _ _ _ _ _ (by decide), State.fld_err_code _ _ _ _ (by decide), herr, herr]
  exact ⟨rfl, rfl, rfl⟩

theorem fmtDiCapture_without_go (hgo : fieldOf v 0 1 = 0) :
    Runs (.fmtDiCapture m v) s fun t => t.fmt = s.fmt ∧ t.reg Reg.FMT_DI_STAT = s.reg Reg.FMT_DI_STAT ∧ t.reg Reg.FMT_DI_CTRL = new := by
  refine runs_fmtDiCapture h ?_
  rw [diCaptureGo, if_pos hgo, State.settled_fmt, State.putReg_fmt, State.settled_reg_plain _ _ _ (by decide),
    State.settled_reg_plain _ _ _ (by decide), State.reg_putReg_ne _ _ _ (by decide) (by decide), State.reg_putReg_same _ _ (by decide)]
  exact ⟨rfl, rfl, rfl⟩

end

/-- The capture ends with its check. -/
def diEnded (s : State) : State :=
  ((s.setBit Reg.FMT_DI_CTRL 0 false).setFld Reg.FMT_DI_STAT 0 2 (1 + 2 * (diCrcOk s.fmt.di).toNat)).raise pgFMT 0

theorem diCaptureDone_ends {s : State} (hgo : s.bit Reg.FMT_DI_CTRL 0 = true) (hall : s.fmt.diMask = 2 ^ 512 - 1) :
    diCaptureDone s = if diOk s.fmt.di (s.fld Reg.FMT_GA_HI 7 1) then
      (diEnded s).setW { s.wenc with nbrick := (List.range 12).map (diNbrick s.fmt.di) } else diEnded s := by
  have hside : (diEnded s).reg Reg.FMT_GA_HI = s.reg Reg.FMT_GA_HI := by
    rw [diEnded, State.reg_raise_ne _ _ _ _ (by decide) (by decide), State.reg_setFld_ne _ _ _ _ _ _ (by decide),
      State.reg_setBit_ne _ _ _ _ _ (by decide)]
  rw [diCaptureDone, if_pos ⟨hgo, hall⟩]
  dsimp only
  rw [← diEnded, hside]
  rfl

theorem diEnded_regs (s : State) : (diEnded s).bit Reg.FMT_DI_CTRL 0 = false ∧
    (diEnded s).fld Reg.FMT_DI_STAT 0 2 = 1 + 2 * (diCrcOk s.fmt.di).toNat ∧ (diEnded s).bit (Reg.IRQ_RAW pgFMT) 0 = true := by
  have hcheck : (1 + 2 * (diCrcOk s.fmt.di).toNat) % 2 ^ 2 = 1 + 2 * (diCrcOk s.fmt.di).toNat := by
    cases diCrcOk s.fmt.di <;> rfl
  refine ⟨?_, ?_, ?_⟩
  · rw [diEnded, State.bit_raise_ne _ _ _ _ _ (by decide) (by decide), State.bit_of_reg _ _ _ _ _ (State.reg_setFld_ne _ _ _ _ _ _ (by decide)),
      State.bit_setBit_same _ _ _ _ (by decide)]
  · rw [diEnded, State.fld_of_reg _ _ _ _ _ _ (State.reg_raise_ne _ _ _ _ (by decide) (by decide)), State.fld_setFld_same _ _ _ _ _ (by decide),
      hcheck]
  · rw [diEnded, State.bit_raise _ _ _ _ (by decide), decide_eq_true rfl, Bool.or_true]

theorem fmtDiCaptureDone_ends {s : State} (hf : s.frozen pgFMT = false) (hgo : s.bit Reg.FMT_DI_CTRL 0 = true)
    (hall : s.fmt.diMask = 2 ^ 512 - 1) :
    Runs .fmtDiCaptureDone s fun t => t.bit Reg.FMT_DI_CTRL 0 = false ∧
      t.fld Reg.FMT_DI_STAT 0 2 = 1 + 2 * (diCrcOk s.fmt.di).toNat ∧ t.irq pgFMT 0 ∧
      t.wenc.nbrick = (if diOk s.fmt.di (s.fld Reg.FMT_GA_HI 7 1) then (List.range 12).map (diNbrick s.fmt.di) else s.wenc.nbrick) := by
  obtain ⟨hend, hcheck, hirq⟩ := diEnded_regs s
  refine runs_of_done _ (congrArg (done s) (State.unlessFrozen_running hf _)) ?_
  rw [diCaptureDone_ends hgo hall, State.irq, State.settled_bit_plain _ _ _ _ (by decide), State.settled_bit_plain _ _ _ _ (by decide),
    State.settled_fld_plain _ _ _ _ _ (by decide), State.settled_wenc]
  split
  · exact ⟨hend, hcheck, hirq, rfl⟩
  · exact ⟨hend, hcheck, hirq, rfl⟩

theorem diCaptureDone_waits {s : State} (h : s.bit Reg.FMT_DI_CTRL 0 = false ∨ s.fmt.diMask ≠ 2 ^ 512 - 1) : diCaptureDone s = s :=
  if_neg fun ⟨hgo, hall⟩ => h.elim (fun hn => absurd hgo (by rw [hn]; decide)) (fun hn => hn hall)

/-- Settles O26: the groove counter by the last sample of a crossing, a word of 92 cells by what it agrees with, the losses and
the disc information's capture by their conditions. -/
theorem servoReadsGrooves : Obligations.ServoReadsGrooves := by
  unfold Obligations.ServoReadsGrooves
  refine ⟨?_, ?_, ?_, ?_, ?_, ?_, ?_, ?_, ?_, ?_, ?_, ?_, ?_, ?_, ?_, ?_, ?_, ?_, ?_⟩
  · rintro s x y u g a ⟨hu, hr, hf, hg, h0, hs, hz⟩
    exact grooveCrossing_counts hu hr hf hg h0 hs hz
  · rintro s x y u g a ⟨hu, hr, hf, hg, h0, hs, hz, hseq, haxis, hstate, hway⟩
    exact grooveCrossing_sequence hu hr hf hg h0 hs hz hseq haxis hstate hway
  · rintro s x y u ⟨hu, hr, hf, h⟩
    exact grooveCrossing_uncounted hu hr hf h
  · exact fun s x h => grooveCrossing_idle h
  · exact fun s cells rate ⟨hf, h⟩ => gaWord_counts_undecodable hf h rate
  · exact fun s cells rate w ⟨hf, hw, hp⟩ => gaWord_accepts_predicted hf hw hp rate
  · exact fun s cells rate w ⟨hf, hw, hp, hc⟩ => gaWord_accepts_candidate hf hw hp hc rate
  · exact fun s cells rate w ⟨hf, hw, hp, hc⟩ => gaWord_becomes_candidate hf hw hp hc rate
  · exact fun s cells rate w ⟨hf, hw, h⟩ => gaWord_captures hf hw h rate
  · exact fun s cells rate ⟨hw, hf⟩ => runs_unchanged hw rfl (State.unlessFrozen_frozen hf _)
  · exact fun s h => gaPositionLoss_drops h
  · exact fun s ⟨hw, h⟩ => runs_unchanged hw rfl (if_neg (Nat.not_le.mpr h))
  · exact fun s h => wobbleLockLoss_reports h
  · exact fun s ⟨hw, hf⟩ => runs_unchanged hw rfl (State.unlessFrozen_frozen hf _)
  · exact fun s m v new ⟨h, hgo, hnew, hbase⟩ => fmtDiCapture_starts h hgo hnew hbase
  · exact fun s m v new ⟨h, hgo, hbad⟩ => fmtDiCapture_refused h hgo hbad
  · exact fun s m v new ⟨h, hgo⟩ => fmtDiCapture_without_go h hgo
  · exact fun s ⟨hf, hgo, hall⟩ => fmtDiCaptureDone_ends hf hgo hall
  · rintro s ⟨hw, h⟩
    refine runs_unchanged hw rfl ?_
    by_cases hf : s.frozen pgFMT = true
    · exact State.unlessFrozen_frozen hf _
    · rw [State.unlessFrozen_running (Bool.eq_false_iff.mpr hf), diCaptureDone_waits (h.resolve_left hf)]

end Sys2Proof.Machine
end

section
/-! Refutations about commands with data, disc control and verify (O37, O54). -/
namespace Sys2Proof.Machine

/-! ## An accepted command whose list of PRPs is still asked for (R347)

Neither statement says that an accepted command's context is fresh. Where it names a page of a PRP list that a read on its
way brings, the command waits for the page once it is taken up, and is not answered. -/

/-- An accepted admin command of the opcode and DW10 that waits for a page of a PRP list. -/
def listAwaited (op dw10 : Nat) : Ctx :=
  { freshCtx 9 0 0 ([Word.ofNat (0x00070000 + op)] ++ List.replicate 9 0#32 ++ [Word.ofNat dw10]) with prpNext := some 0x9000 }

/-- The read of that page is on its way. -/
def withListRead (s : State) : State := s.setPcie { s.pcie with reads := [⟨0x9000, 8, .prp 9, 0, none, [], 0, false⟩] }

/-! ## Firmware Commit of an action that is none -/

/-- Firmware Commit of action 3. -/
def badCommit : Ctx := listAwaited 0x10 24

/-- The controller holds that command alone. -/
def holdsCommit : State := withListRead (State.reset.setHq { State.reset.hq with ctx := [badCommit] })

theorem holdsCommit_alone : holdsCommit.alone badCommit ∧ badCommit.admin = true ∧ badCommit.opc = 0x10 ∧ badCommit.step = 0 ∧
    3 ≤ badCommit.f 10 3 3 := by decide +kernel

/-- The command waits for its list and is not answered. -/
theorem holdsCommit_waits : (takeUp (isAdmin 0x10) 9 holdsCommit).answered holdsCommit badCommit stField 0 = false := by
  decide +kernel

/-- Refutes O37: the clause of a Firmware Commit of no action says nothing of the pages of the command's context, and a
command that waits for a page of its PRP list is not answered. -/
theorem not_adminDataCommands : ¬ Obligations.AdminDataCommands := by
  unfold Obligations.AdminDataCommands
  rintro ⟨-, -, -, -, -, -, -, -, -, -, hcommit, -⟩
  obtain ⟨hanswer, -⟩ := (hcommit holdsCommit badCommit holdsCommit_alone).next rfl
  exact absurd (hanswer.symm.trans ((State.answered_settled ..).trans holdsCommit_waits)) (by decide)

/-! ## Media Verify while one runs -/

/-- Media Verify of the whole side. -/
def secondVerify : Ctx := listAwaited 0xC4 0

/-- The controller holds that command alone on a mounted side, and a verify runs. -/
def holdsVerify : State :=
  withListRead (((State.reset.setBit (Reg.STAT pgXLT) 8 true).setBit (Reg.CTRL pgXLT) 2 true).setHq
    { State.reset.hq with ctx := [secondVerify], verify := { State.reset.hq.verify with st := 1 } })

theorem holdsVerify_alone : holdsVerify.aloneMounted secondVerify ∧ secondVerify.admin = true ∧ secondVerify.opc = 0xC4 ∧
    secondVerify.f 10 0 2 ≠ 3 ∧ holdsVerify.hq.verify.st = 1 := by decide +kernel

/-- The command waits for its list and is not answered. -/
theorem holdsVerify_waits : (takeUp (fun c => isAdmin 0xC4 c && c.f 10 0 2 != 3) 9 holdsVerify).answered holdsVerify secondVerify
    stVerifyRuns 0 = false := by
  decide +kernel

/-- Refutes O54: the clause of a verify that runs says nothing of the pages of the command's context, and a command that
waits for a page of its PRP list is not answered. -/
theorem not_discsAreLoadedUnloadedAndVerified : ¬ Obligations.DiscsAreLoadedUnloadedAndVerified := by
  unfold Obligations.DiscsAreLoadedUnloadedAndVerified
  rintro ⟨-, -, -, -, -, -, -, -, -, -, -, -, -, hruns⟩
  obtain ⟨-, hanswer⟩ := (hruns holdsVerify secondVerify holdsVerify_alone).next rfl
  exact absurd (hanswer.symm.trans ((State.answered_settled ..).trans holdsVerify_waits)) (by decide)

end Sys2Proof.Machine
end

section
/-! A codeword that comes back from the list of the evicted (O21). -/
namespace Sys2Proof.Machine

/-- A foreground codeword that core 0 decodes in slot 0, its iterations spent and its word no codeword. -/
def spentForeground : Codeword := ⟨0, .fg, 8, 0, 3, 127, some 0, false, 0, [], [], []⟩

/-- Core 0 decodes that codeword, and another foreground one stands among the evicted. -/
def foregroundEvicted : State :=
  State.reset.setRd { State.reset.rd with cws := [spentForeground], evicted := [{ spentForeground with core := none }] }

theorem foregroundEvicted_spent : foregroundEvicted.frozen pgLDPC = false ∧
    foregroundEvicted.rd.cws.find? (fun x => x.core == some 0) = some spentForeground ∧ spentForeground.kind ≠ .draw ∧
    setJudged foregroundEvicted spentForeground = none ∧ setSpent foregroundEvicted spentForeground = true := by
  decide +kernel

/-- The evicted codeword takes the slot that the set has freed (R95). -/
theorem foregroundEvicted_refills : ∃ x ∈ (decodeSet 0 foregroundEvicted).rd.cws, x.slot = 0 ∧ x.kind = .fg := by
  decide +kernel

/-- Refutes O21: the clauses of a set that ends say that what then stands in its slot is a recovery codeword, and nothing
says that those among the evicted are; a foreground one is taken back as it is. -/
theorem not_detectionDecodesAndReleases : ¬ Obligations.DetectionDecodesAndReleases := by
  unfold Obligations.DetectionDecodesAndReleases
  rintro ⟨-, -, -, -, -, -, -, -, -, -, -, -, -, hspent, -⟩
  obtain ⟨hslot, -⟩ := (hspent foregroundEvicted 0 spentForeground foregroundEvicted_spent).next
    (congrArg (done foregroundEvicted) (State.unlessFrozen_running foregroundEvicted_spent.1 (decodeSet 0)))
  obtain ⟨x, hx, hin, hkind⟩ := foregroundEvicted_refills
  rw [State.settled_rd] at hslot
  exact absurd ((hslot x hx hin).1.symm.trans hkind) (by decide)

end Sys2Proof.Machine
end

section
/-! Registers kept, the read path's own state, and what releases and records leave of an armed group: the rules that the
proofs about strips (O22) and lanes (O20) use. -/
namespace Sys2Proof.Machine

/-! ## Registers kept -/

/-- `t` is of the part `s` is of, and has its registers but for those at addresses of `P`. -/
structure RegsKept (P : Nat → Prop) (s t : State) : Prop where
  variant : t.variant = s.variant
  reg : ∀ a, ¬P a → t.reg a = s.reg a

namespace RegsKept

variable {P Q : Nat → Prop} {s t u : State}

theorem refl (P : Nat → Prop) (s : State) : RegsKept P s s := ⟨rfl, fun _ _ => rfl⟩

theorem trans (h : RegsKept P s t) (h' : RegsKept P t u) : RegsKept P s u :=
  ⟨h'.variant.trans h.variant, fun a ha => (h'.reg a ha).trans (h.reg a ha)⟩

theorem mono (h : RegsKept P s t) (hpq : ∀ a, P a → Q a) : RegsKept Q s t :=
  ⟨h.variant, fun a ha => h.reg a (fun hp => ha (hpq a hp))⟩

theorem of_memOnly (h : MemOnly P s t) : RegsKept P s t := by
  obtain ⟨⟨r, m, x, e, hr⟩, hreg⟩ := h
  exact ⟨by rw [hr], hreg⟩

theorem ite {c : Prop} [Decidable c] (h : RegsKept P s t) (h' : RegsKept P s u) : RegsKept P s (if c then t else u) := by
  split <;> assumption

theorem foldl {α : Type} {f : State → α → State} {l : List α} (hf : ∀ s, ∀ a ∈ l, RegsKept P s (f s a)) (s : State) :
    RegsKept P s (l.foldl f s) := by
  induction l generalizing s with
  | nil => exact .refl P s
  | cons a l ih =>
    exact (hf s a (List.mem_cons_self ..)).trans (ih (fun s b hb => hf s b (List.mem_cons_of_mem _ hb)) _)

theorem setReg (h : RegsKept P s t) {a : Nat} (ha : P a) (w : Word) : RegsKept P s (t.setReg a w) :=
  h.trans ⟨rfl, fun b hb => State.reg_setReg_ne t a b w (by rintro rfl; exact hb ha)⟩
theorem setFld (h : RegsKept P s t) {a : Nat} (ha : P a) (lo w v : Nat) : RegsKept P s (t.setFld a lo w v) := h.setReg ha _
theorem setBit (h : RegsKept P s t) {a : Nat} (ha : P a) (i : Nat) (b : Bool) : RegsKept P s (t.setBit a i b) := h.setReg ha _
theorem addSat (h : RegsKept P s t) {a : Nat} (ha : P a) (lo w n : Nat) : RegsKept P s (t.addSat a lo w n) := h.setReg ha _
theorem addMod (h : RegsKept P s t) {a : Nat} (ha : P a) (lo w n : Nat) : RegsKept P s (t.addMod a lo w n) := h.setReg ha _

theorem raise (h : RegsKept P s t) {p : Nat} (h1 : P (Reg.IRQ_RAW p)) (h2 : P (Reg.IRQ_STAT p)) (i : Nat) :
    RegsKept P s (t.raise p i) := (h.setReg h1 _).setReg h2 _

theorem err (h : RegsKept P s t) {p : Nat} (hp : P (Reg.ERR_INFO p)) (c m : Nat) : RegsKept P s (t.err p c m) :=
  h.trans ⟨t.err_variant p c m, fun b hb => State.reg_err_ne t p c m b (fun he => hb (he ▸ hp))⟩

theorem report (h : RegsKept P s t) (p c m : Nat) (q : List Nat) : RegsKept P s (t.report p c m q) :=
  h.trans ⟨rfl, fun a _ => State.reg_report t p c m q a⟩

theorem setRd (h : RegsKept P s t) (x : ReadPath) : RegsKept P s (t.setRd x) := h.trans ⟨rfl, fun _ _ => rfl⟩
theorem setLane (h : RegsKept P s t) (l : Nat) (x : Lane) : RegsKept P s (t.setLane l x) := h.setRd _
theorem setW (h : RegsKept P s t) (x : WritePath) : RegsKept P s (t.setW x) := h.trans ⟨rfl, fun _ _ => rfl⟩

theorem fld (h : RegsKept P s t) {a : Nat} (ha : ¬P a) (lo w : Nat) : t.fld a lo w = s.fld a lo w :=
  State.fld_of_reg _ _ _ _ _ _ (h.reg a ha)
theorem bit (h : RegsKept P s t) {a : Nat} (ha : ¬P a) (i : Nat) : t.bit a i = s.bit a i :=
  State.bit_of_reg _ _ _ _ _ (h.reg a ha)

end RegsKept

/-! ## The read path's own state -/

@[simp] theorem State.setRd_rd (s : State) (x : ReadPath) : (s.setRd x).rd = x := (rfl)
@[simp] theorem State.setRd_fld (s : State) (x : ReadPath) (a lo w : Nat) : (s.setRd x).fld a lo w = s.fld a lo w := (rfl)
@[simp] theorem State.setRd_bit (s : State) (x : ReadPath) (a i : Nat) : (s.setRd x).bit a i = s.bit a i := (rfl)
@[simp] theorem State.setW_rd (s : State) (x : WritePath) : (s.setW x).rd = s.rd := (rfl)
@[simp] theorem State.putReg_rd (s : State) (a : Nat) (new : Word) : (s.putReg a new).rd = s.rd := by
  obtain ⟨r, l, w, h⟩ := s.putReg_eq a new
  rw [h]

theorem MemOnly.rd {P : Nat → Prop} {s t : State} (h : MemOnly P s t) : t.rd = s.rd := by
  obtain ⟨r, m, x, e, hr⟩ := h.parts
  rw [hr]

@[simp] theorem memWrite_rd (s : State) (m : Master) (a : Nat) (bs : List Nat) : (memWrite s m a bs).rd = s.rd :=
  (memWrite_memOnly s m a bs).rd

/-! ## Slots and counts -/

/-- The registers that show held and free slots and the codewords (R84, R87, R95, R102). -/
abbrev countRegs (a : Nat) : Prop := a ∈ [Reg.DSK_RING_STAT, Reg.DET_WS_STAT, Reg.STRP_RSA_STAT, Reg.LDPC_SLOTS]

theorem readCounts_kept (s : State) : RegsKept countRegs s (readCounts s) :=
  (((((RegsKept.refl countRegs s).setReg (by decide) _).setReg (by decide) _).setReg (by decide) _).setFld (by decide) _ _ _).setFld
    (by decide) _ _ _

@[simp] theorem readCounts_rd (s : State) : (readCounts s).rd = s.rd := by
  simp only [readCounts, State.setFld_rd, State.setReg_rd]

theorem releaseSlotsDone_kept (s : State) : RegsKept countRegs s (releaseSlotsDone s) :=
  (((RegsKept.refl countRegs s).setRd _).setRd _).trans (readCounts_kept _)

@[simp] theorem releaseSlotsDone_groups (s : State) : (releaseSlotsDone s).rd.groups = s.rd.groups := by
  simp only [releaseSlotsDone, readCounts_rd, State.setRd_rd, dropWork]

end Sys2Proof.Machine
end

section
/-! The strips of an armed group: what a change of one shows, and what decoding, delivery and the ladder's steps leave of
the others (R102 to R112). -/
namespace Sys2Proof.Machine

/-! ## Groups and strips -/

theorem groupRead_of_groups {s t : State} (h : t.rd.groups = s.rd.groups) (psa : Nat) : groupRead t psa = groupRead s psa := by
  rw [groupRead, h, groupRead]

theorem stripRead_of_groups {s t : State} (h : t.rd.groups = s.rd.groups) (psa : Nat) : stripRead t psa = stripRead s psa := by
  rw [stripRead, groupRead_of_groups h, stripRead]

/-- Changes of groups that leave each its PSA: the group of a PSA is the changed one. -/
theorem find?_map_group (l : List GroupRead) (q : Nat) {f : GroupRead → GroupRead} (hf : ∀ g, (f g).psa = g.psa) :
    (l.map f).find? (fun g => g.psa / 8 == q) = (l.find? (fun g => g.psa / 8 == q)).map f := by
  rw [List.find?_map]
  congr 1
  exact congrArg (fun p => l.find? p) (funext fun g => by simp only [Function.comp, hf])

theorem groupRead_mapGroup (s : State) (p q : Nat) {f : GroupRead → GroupRead} (hf : ∀ g, (f g).psa = g.psa) :
    groupRead (mapGroup s p f) q = (groupRead s q).map (fun g => if g.psa / 8 = p / 8 then f g else g) :=
  find?_map_group _ _ fun g => by split <;> simp only [hf]

theorem groupRead_psa {s : State} {psa : Nat} {g : GroupRead} (h : groupRead s psa = some g) : g.psa / 8 = psa / 8 := by
  simpa using List.find?_some h

/-- A group with one strip changed. -/
def GroupRead.onStrip (i : Nat) (f : StripRead → StripRead) (g : GroupRead) : GroupRead :=
  { g with strips := g.strips.zipIdx.map (fun q => if q.2 = i then f q.1 else q.1) }

theorem GroupRead.onStrip_psa (i : Nat) (f : StripRead → StripRead) (g : GroupRead) : (g.onStrip i f).psa = g.psa := rfl

theorem mapStrip_eq (s : State) (psa : Nat) (f : StripRead → StripRead) :
    mapStrip s psa f = mapGroup s psa (GroupRead.onStrip (psa % 8) f) := rfl

theorem groupRead_mapStrip (s : State) (psa : Nat) (f : StripRead → StripRead) :
    groupRead (mapStrip s psa f) psa = (groupRead s psa).map (GroupRead.onStrip (psa % 8) f) := by
  rw [mapStrip_eq, groupRead_mapGroup s psa psa (GroupRead.onStrip_psa _ f)]
  cases h : groupRead s psa with
  | none => rfl
  | some g => simp only [Option.map_some, groupRead_psa h, if_true]

theorem GroupRead.onStrip_getElem? (g : GroupRead) (i j : Nat) (f : StripRead → StripRead) :
    (g.onStrip i f).strips[j]? = g.strips[j]?.map (fun x => if j = i then f x else x) := by
  rw [GroupRead.onStrip, List.getElem?_map, List.getElem?_zipIdx, Option.map_map]
  simp only [Function.comp_def, Nat.zero_add]

/-- The strip that was changed. -/
theorem stripRead_mapStrip (s : State) (psa : Nat) (f : StripRead → StripRead) :
    stripRead (mapStrip s psa f) psa = (stripRead s psa).map f := by
  rw [stripRead, groupRead_mapStrip, stripRead]
  cases groupRead s psa with
  | none => rfl
  | some g =>
    simp only [Option.map_some, Option.bind_some, GroupRead.onStrip_getElem?, if_true]

/-- A view of every strip is in `t` as in `s`. -/
def StripsKeep {β : Type} (v : StripRead → β) (s t : State) : Prop := ∀ q, (stripRead t q).map v = (stripRead s q).map v

namespace StripsKeep

variable {β : Type} {v : StripRead → β} {s t u : State}

theorem refl (v : StripRead → β) (s : State) : StripsKeep v s s := fun _ => rfl

theorem trans (h : StripsKeep v s t) (h' : StripsKeep v t u) : StripsKeep v s u := fun q => (h' q).trans (h q)

theorem of_groups (h : t.rd.groups = s.rd.groups) : StripsKeep v s t := fun q => by rw [stripRead_of_groups h]

theorem ite {c : Prop} [Decidable c] (h : StripsKeep v s t) (h' : StripsKeep v s u) : StripsKeep v s (if c then t else u) := by
  split <;> assumption

theorem foldl {α : Type} {f : State → α → State} (hf : ∀ s a, StripsKeep v s (f s a)) (l : List α) (s : State) :
    StripsKeep v s (l.foldl f s) := by
  induction l generalizing s with
  | nil => exact .refl v s
  | cons a l ih => exact (hf s a).trans (ih _)

/-- A change of a group that leaves its PSA and its strips. -/
theorem mapGroup (s : State) (p : Nat) {f : GroupRead → GroupRead} (hp : ∀ g, (f g).psa = g.psa) (hs : ∀ g, (f g).strips = g.strips) :
    StripsKeep v s (mapGroup s p f) := by
  intro q
  rw [stripRead, groupRead_mapGroup s p q hp, stripRead]
  cases groupRead s q with
  | none => rfl
  | some g =>
    simp only [Option.map_some, Option.bind_some]
    split
    · rw [hs]
    · rfl

/-- A change of a strip that the view does not show. -/
theorem mapStrip (s : State) (p : Nat) {f : StripRead → StripRead} (hf : ∀ x, v (f x) = v x) : StripsKeep v s (mapStrip s p f) := by
  intro q
  rw [stripRead, mapStrip_eq, groupRead_mapGroup s p q (GroupRead.onStrip_psa _ f), stripRead]
  cases groupRead s q with
  | none => rfl
  | some g =>
    simp only [Option.map_some, Option.bind_some]
    split
    · rw [GroupRead.onStrip_getElem?, Option.map_map]
      congr 1
      funext x
      simp only [Function.comp]
      split
      · exact hf x
      · rfl
    · rfl

/-- What the view shows of one strip. -/
theorem of_some (h : StripsKeep v s t) {psa : Nat} {x : StripRead} (hx : stripRead s psa = some x) :
    ∃ y, stripRead t psa = some y ∧ v y = v x := by
  have hv := h psa
  rw [hx] at hv
  exact Option.map_eq_some_iff.mp hv

end StripsKeep

/-! ## A strip ends (R108 to R112) -/

theorem putRecovery_groups (s : State) (rec : List Nat) : (putRecovery s rec).rd.groups = s.rd.groups := by
  unfold putRecovery
  split
  · simp only [State.raise_rd, State.setFld_rd, State.setRd_rd, memWrite_rd]
  · simp only [State.err_rd, State.raise_rd, State.addSat_rd]

theorem endStrip_groups (s : State) (psa : Nat) (ok : Bool) (cls : Nat) :
    (endStrip s psa ok cls).rd.groups = (mapStrip s psa (fun t => { t with ended := some ok, cls := cls })).rd.groups := by
  unfold endStrip
  dsimp only
  split
  · rw [releaseSlotsDone_groups]
    split <;> simp only [State.report_rd, State.addSat_rd, State.raise_rd, State.err_rd, apply_ite State.rd, apply_ite ReadPath.groups,
      putRecovery_groups, ite_self]
  · rfl

/-- The strip that has ended. -/
theorem stripRead_endStrip (s : State) (psa : Nat) (ok : Bool) (cls : Nat) :
    stripRead (endStrip s psa ok cls) psa = (stripRead s psa).map (fun t => { t with ended := some ok, cls := cls }) :=
  (stripRead_of_groups (endStrip_groups s psa ok cls) psa).trans (stripRead_mapStrip s psa _)

theorem groupRead_of_stripRead {s : State} {psa : Nat} {x : StripRead} (h : stripRead s psa = some x) : ∃ g, groupRead s psa = some g := by
  unfold stripRead at h
  exact Option.isSome_iff_exists.mp (by cases hg : groupRead s psa <;> simp_all)

/-- The interrupts of a strip that is unrecovered. -/
theorem endStrip_unrecovered {s : State} {psa : Nat} {x : StripRead} (h : stripRead s psa = some x) (cls : Nat) :
    (endStrip s psa false cls).irq pgDET 5 ∧ (endStrip s psa false cls).irq pgSTRP 0 := by
  obtain ⟨y, hy⟩ : ∃ y, stripRead (mapStrip s psa (fun t => { t with ended := some false, cls := cls })) psa = some y := by
    rw [stripRead_mapStrip, h]
    exact ⟨_, rfl⟩
  obtain ⟨g, hg⟩ := groupRead_of_stripRead hy
  unfold endStrip
  simp only [hg, hy, Bool.not_false, Bool.true_or, if_true, Bool.false_eq_true, if_false]
  constructor
  · rw [State.irq, (releaseSlotsDone_kept _).bit (by decide), State.bit_report, State.bit_addSat_ne _ _ _ _ _ _ _ (by decide),
      State.bit_raise_ne _ _ _ _ _ (by decide) (by decide), State.bit_err_ne _ _ _ _ _ _ (by decide), State.bit_raise _ _ _ _ (by decide)]
    exact Bool.or_true _
  · rw [State.irq, (releaseSlotsDone_kept _).bit (by decide), State.bit_report, State.bit_addSat_ne _ _ _ _ _ _ _ (by decide),
      State.bit_raise _ _ _ _ (by decide)]
    exact Bool.or_true _

/-! ## Strip decoding (R38, R103) -/

theorem storeRebuilt_keeps {β : Type} (v : StripRead → β) (g : GroupRead) (psa : Nat) (cols : List (List Nat)) (l : List (Nat × List Nat))
    (s : State) : StripsKeep v s (storeRebuilt g psa cols l s) := by
  induction l generalizing s with
  | nil => exact .refl v s
  | cons q l ih =>
    rw [storeRebuilt]
    dsimp only
    split
    · refine StripsKeep.trans ?_ (ih _)
      exact (StripsKeep.of_groups (by rw [memWrite_rd])).trans (.mapGroup _ _ (fun _ => rfl) (fun _ => rfl))
    · exact ih _

/-- The columns of a strip with erasures, corrected, the decode counted (R103). -/
def correctedColumns (s : State) (g : GroupRead) (psa : Nat) (t : StripRead) : Option (List (List Nat)) :=
  decodeColumns (eraseColumn (stripErasures t)) (columnsOf (stripFields (s.addSat Reg.STRP_CNT 0 16 1) g psa))

/-- The corrected sectors are in the strip slot. -/
def stripRebuilt (s : State) (g : GroupRead) (psa : Nat) (t : StripRead) (cols : List (List Nat)) : State :=
  let s := s.addSat Reg.STRP_CNT 0 16 1
  let s := storeRebuilt g psa cols (rebuiltHeaders s psa (stripErasures t)) s
  { s with fresh := s.fresh + 1 }

section
variable {s : State} {g : GroupRead} {psa : Nat} {t : StripRead}

/-- A strip without erasures is delivered, its syndromes seen to. -/
theorem decodeStrip_whole (h : (stripErasures t).length = 0) : decodeStrip s g psa t = (some 0, s) ∨
    decodeStrip s g psa t = (some 2, (((s.addSat Reg.STRP_MIS 0 16 1).raise pgSTRP 1).err pgSTRP 0x0403 0).report pgSTRP 0x0403 15 []) := by
  rw [decodeStrip, if_pos h]
  split
  · exact .inr rfl
  · exact .inl rfl

theorem decodeStrip_beyond (h : 8 < (stripErasures t).length) : decodeStrip s g psa t = (none, s) :=
  (if_neg (by omega)).trans (if_pos h)

variable (h0 : (stripErasures t).length ≠ 0) (h8 : ¬8 < (stripErasures t).length)
include h0 h8

theorem decodeStrip_undecodable (hc : correctedColumns s g psa t = none) :
    decodeStrip s g psa t = (none, s.addSat Reg.STRP_CNT 0 16 1) := by
  rw [correctedColumns] at hc
  simp only [decodeStrip, if_neg h0, if_neg h8, hc]

theorem decodeStrip_rebuilt {cols : List (List Nat)} (hc : correctedColumns s g psa t = some cols) :
    decodeStrip s g psa t = if (stripErasures t).length = 8 then
      (some 3, mapStrip (stripRebuilt s g psa t cols) psa (fun t => { t with noMargin := true }))
      else (some 0, stripRebuilt s g psa t cols) := by
  rw [correctedColumns] at hc
  simp only [decodeStrip, if_neg h0, if_neg h8, hc, stripRebuilt]

end

/-- A strip that does not decode leaves the state, but for the count of decodes. -/
theorem decodeStrip_fails {s : State} {g : GroupRead} {psa : Nat} {t : StripRead} (h : (decodeStrip s g psa t).1 = none) :
    (decodeStrip s g psa t).2 = s ∨ (decodeStrip s g psa t).2 = s.addSat Reg.STRP_CNT 0 16 1 := by
  by_cases h0 : (stripErasures t).length = 0
  · rcases decodeStrip_whole (s := s) (g := g) (psa := psa) h0 with he | he <;> rw [he] at h <;> exact absurd h (by simp)
  · by_cases h8 : 8 < (stripErasures t).length
    · exact .inl (by rw [decodeStrip_beyond h8])
    · cases hc : correctedColumns s g psa t with
      | none => exact .inr (by rw [decodeStrip_undecodable h0 h8 hc])
      | some cols =>
        rw [decodeStrip_rebuilt h0 h8 hc] at h
        split at h <;> exact absurd h (by simp)

/-- Decoding shows in a strip by its margin alone. -/
theorem decodeStrip_keeps {β : Type} {v : StripRead → β} (hv : ∀ x, v { x with noMargin := true } = v x) (s : State) (g : GroupRead)
    (psa : Nat) (t : StripRead) : StripsKeep v s (decodeStrip s g psa t).2 := by
  by_cases h0 : (stripErasures t).length = 0
  · rcases decodeStrip_whole (s := s) (g := g) (psa := psa) h0 with he | he <;> rw [he]
    · exact .refl v s
    · exact .of_groups (by simp only [State.report_rd, State.err_rd, State.raise_rd, State.addSat_rd])
  · by_cases h8 : 8 < (stripErasures t).length
    · rw [decodeStrip_beyond h8]
      exact .refl v s
    · cases hc : correctedColumns s g psa t with
      | none =>
        rw [decodeStrip_undecodable h0 h8 hc]
        exact .of_groups (by rw [State.addSat_rd])
      | some cols =>
        have hrebuilt : StripsKeep v s (stripRebuilt s g psa t cols) :=
          ((StripsKeep.of_groups (by rw [State.addSat_rd])).trans (storeRebuilt_keeps v g psa cols _ _)).trans (.of_groups rfl)
        rw [decodeStrip_rebuilt h0 h8 hc]
        split
        · exact hrebuilt.trans (.mapStrip _ _ hv)
        · exact hrebuilt

end Sys2Proof.Machine
end

section
/-! The retry ladder's steps (R74, R108 to R110). -/
namespace Sys2Proof.Machine

/-! ## What a step's work leaves of a strip -/

/-- Where a strip stands on the ladder. -/
def StripRead.course (x : StripRead) : Nat × Nat × Nat × Nat × Option Bool := (x.rung, x.sub, x.rereads, x.highest, x.ended)

theorem StripRead.course_eq_iff (x y : StripRead) : y.course = x.course ↔
    y.rung = x.rung ∧ y.sub = x.sub ∧ y.rereads = x.rereads ∧ y.highest = x.highest ∧ y.ended = x.ended := by
  simp only [StripRead.course, Prod.mk.injEq]

theorem setFinal_keeps (s : State) (psa i : Nat) (f : SectorFinal) : StripsKeep StripRead.course s (setFinal s psa i f) :=
  .mapStrip s psa fun x => by split <;> rfl

/-- The counts of a sector that is GOOD. -/
def sectorCounted (s : State) (psa i iters : Nat) : State :=
  ((setFinal s psa i .good).addMod Reg.LDPC_CNT_OK 0 32 1).addSat Reg.LDPC_ITSUM 0 24 iters

/-- A GOOD sector's header is kept, and the iterations it took. -/
def sectorNoted (s : State) (bytes : List Nat) (psa i iters : Nat) : State :=
  mapStrip (mapGroup s psa (fun g => { g with
    headers := g.headers.filter (fun h => !(h.1 == psa % 8 && h.2.1 == i)) ++ [(psa % 8, i, bytes.take 24)] }))
    psa (fun t => { t with itMax := max t.itMax iters })

theorem finishSector_stored {s : State} {psa i iters : Nat} {g : GroupRead} (hg : groupRead (sectorCounted s psa i iters) psa = some g)
    (bytes : List Nat) : finishSector s bytes psa i iters .good = sectorNoted (memWrite (sectorCounted s psa i iters) .cdma
      (stripSlotAddr (sectorCounted s psa i iters) g psa i) (decodedUser bytes psa i)) bytes psa i iters := by
  rw [sectorCounted] at hg
  simp only [finishSector, hg, sectorCounted, sectorNoted]

theorem finishSector_without_group {s : State} {psa i iters : Nat} (hg : groupRead (sectorCounted s psa i iters) psa = none)
    (bytes : List Nat) : finishSector s bytes psa i iters .good = sectorNoted (sectorCounted s psa i iters) bytes psa i iters := by
  rw [sectorCounted] at hg
  simp only [finishSector, hg, sectorCounted, sectorNoted]

theorem sectorCounted_groups (s : State) (psa i iters : Nat) :
    (sectorCounted s psa i iters).rd.groups = (setFinal s psa i .good).rd.groups := by
  rw [sectorCounted, State.addSat_rd, State.addMod_rd]

theorem sectorNoted_keeps (s : State) (bytes : List Nat) (psa i iters : Nat) :
    StripsKeep StripRead.course s (sectorNoted s bytes psa i iters) := by
  rw [sectorNoted]
  refine .trans (.mapGroup s psa ?_ ?_) (.mapStrip _ psa ?_) <;> exact fun _ => rfl

theorem finishSector_good_keeps (s : State) (bytes : List Nat) (psa i iters : Nat) :
    StripsKeep StripRead.course (setFinal s psa i .good) (finishSector s bytes psa i iters .good) := by
  have hcounted : StripsKeep StripRead.course (setFinal s psa i .good) (sectorCounted s psa i iters) :=
    .of_groups (sectorCounted_groups s psa i iters)
  cases hg : groupRead (sectorCounted s psa i iters) psa with
  | none =>
    rw [finishSector_without_group hg]
    exact hcounted.trans (sectorNoted_keeps _ bytes psa i iters)
  | some g =>
    rw [finishSector_stored hg]
    exact (hcounted.trans (.of_groups (by rw [memWrite_rd]))).trans (sectorNoted_keeps _ bytes psa i iters)

theorem finishSector_keeps (s : State) (bytes : List Nat) (psa i iters : Nat) (f : SectorFinal) :
    StripsKeep StripRead.course s (finishSector s bytes psa i iters f) := by
  refine (setFinal_keeps s psa i f).trans ?_
  cases f with
  | good => exact finishSector_good_keeps s bytes psa i iters
  | falseconv =>
    simp only [finishSector]
    exact .of_groups (by rw [State.err_rd, State.raise_rd, State.addSat_rd])
  | noconv =>
    simp only [finishSector]
    exact .of_groups (by rw [State.addSat_rd])
  | misplaced =>
    simp only [finishSector]
    exact .of_groups (by rw [reportMisplaced, State.report_rd])
  | _ =>
    simp only [finishSector]
    exact .refl _ _

theorem noteCombined_keeps (s : State) (psa spiral pos : Nat) : StripsKeep StripRead.course s (noteCombined s psa spiral pos) := by
  unfold noteCombined
  dsimp only
  split
  · exact .mapStrip s _ fun _ => rfl
  · exact .refl _ s

theorem slipTries_keeps (g : GroupRead) (r : RingSlot) (q l : Nat) (m : List (Nat × Int)) (s : State) :
    StripsKeep StripRead.course s (slipTries g r q l m s) := by
  induction m generalizing s with
  | nil => exact .refl _ s
  | cons a m ih =>
    rw [slipTries]
    dsimp only
    split
    · exact (((noteCombined_keeps s _ _ _).trans (finishSector_keeps _ _ _ _ _ _)).trans (.of_groups (by rw [State.addSat_rd]))).trans
        (.mapStrip _ _ fun _ => rfl)
    · exact (StripsKeep.of_groups (by simp only [reportMisplaced, State.report_rd])).trans (ih _)
    · exact ih s

theorem slipSearch_keeps (psa : Nat) (s : State) : StripsKeep StripRead.course s (slipSearch psa s) := by
  unfold slipSearch
  split
  · exact .refl _ s
  · refine .foldl (fun s r => .foldl (fun s z => ?_) _ s) _ s
    split
    · exact .ite (slipTries_keeps _ _ _ _ _ s) (.refl _ s)
    · exact .refl _ s

theorem recoveryStop_groups (psa : Nat) (s : State) : (recoveryStop psa s).rd.groups = s.rd.groups := by
  unfold recoveryStop
  split <;> rfl

theorem recoveryStart_groups (psa : Nat) (s : State) : (recoveryStart psa s).rd.groups = s.rd.groups := by
  unfold recoveryStart
  split <;> rfl

theorem stepWork_keeps (psa k : Nat) (s : State) : StripsKeep StripRead.course s (stepWork psa k s) :=
  .ite (slipSearch_keeps psa s) (.ite (.of_groups (recoveryStop_groups psa s)) (.refl _ s))

/-- The strip after a step's work stands where it stood, the step's rung noted. -/
theorem stepDone_course {s : State} {psa : Nat} {x y : StripRead} (hx : stripRead s psa = some x)
    (hy : stripRead (stepDone psa x s) psa = some y) :
    y.rung = x.rung ∧ y.sub = x.sub ∧ y.rereads = x.rereads ∧ y.highest = max x.highest x.rung ∧ y.ended = x.ended := by
  have hkept := stepWork_keeps psa (ladderStep x) (mapStrip s psa (fun t => { t with highest := max t.highest x.rung })) psa
  rw [stepDone] at hy
  rw [hy, stripRead_mapStrip, hx] at hkept
  exact (StripRead.course_eq_iff _ _).mp (Option.some.inj hkept)

/-! ## The decode after a step -/

/-- A strip that still fails leaves the state, but for the count of decodes. -/
theorem stepDecode_fails {s : State} {g : GroupRead} {psa k : Nat} {t : StripRead} (h : (stepDecode s g psa k t).1 = none) :
    (stepDecode s g psa k t).2 = s ∨ (stepDecode s g psa k t).2 = s.addSat Reg.STRP_CNT 0 16 1 := by
  by_cases hk : k = 3
  · cases hs : softStrip s g psa (stripErasures t) with
    | none => exact .inl (by simp only [stepDecode, if_pos hk, hs])
    | some o => simp only [stepDecode, if_pos hk, hs, reduceCtorEq] at h
  · by_cases he : (stripErasures t).length < t.stepEras
    · simp only [stepDecode, if_neg hk, if_pos he, Option.map_eq_none_iff] at h ⊢
      exact decodeStrip_fails h
    · exact .inl (by simp only [stepDecode, if_neg hk, if_neg he])

theorem stepDecode_fails_groups {s : State} {g : GroupRead} {psa k : Nat} {t : StripRead} (h : (stepDecode s g psa k t).1 = none) :
    (stepDecode s g psa k t).2.rd.groups = s.rd.groups := by
  rcases stepDecode_fails h with he | he <;> rw [he]
  rw [State.addSat_rd]

/-- A decode shows in where a strip stands in nothing. -/
theorem stepDecode_keeps (s : State) (g : GroupRead) (psa k : Nat) (t : StripRead) :
    StripsKeep StripRead.course s (stepDecode s g psa k t).2 := by
  by_cases hk : k = 3
  · cases hs : softStrip s g psa (stripErasures t) with
    | none =>
      simp only [stepDecode, if_pos hk, hs]
      exact .refl _ s
    | some o =>
      simp only [stepDecode, if_pos hk, hs]
      exact ((storeRebuilt_keeps _ g psa o.1 o.2.2 s).trans (.of_groups rfl)).trans (.mapStrip _ _ fun _ => rfl)
  · by_cases he : (stripErasures t).length < t.stepEras
    · simp only [stepDecode, if_neg hk, if_pos he]
      exact decodeStrip_keeps (fun _ => rfl) s g psa t
    · simp only [stepDecode, if_neg hk, if_neg he]
      exact .refl _ s

/-! ## Going on -/

/-- The strip as a step begins. -/
def StripRead.begun (rung sub : Nat) (t : StripRead) : StripRead :=
  { t with
    rung := rung, sub := sub, stepEras := (stripErasures t).length
    fins := if decide (4 ≤ rung) && sub == 0 then t.fins.map (fun f => if f = some .good then f else none) else t.fins }

theorem stripRead_beginStep (s : State) (psa rung sub : Nat) :
    stripRead (beginStep s psa rung sub) psa = (stripRead s psa).map (StripRead.begun rung sub) := by
  have hbegun : beginStep s psa rung sub = if (if rung < 4 then rung else sub) = 2 then
      recoveryStart psa (mapStrip s psa (StripRead.begun rung sub)) else mapStrip s psa (StripRead.begun rung sub) := rfl
  rw [← stripRead_mapStrip, hbegun]
  by_cases h : (if rung < 4 then rung else sub) = 2
  · rw [if_pos h, stripRead_of_groups (recoveryStart_groups psa _)]
  · rw [if_neg h]

theorem climb_next {s : State} {psa r n : Nat} {t : StripRead} (ht : stripRead s psa = some t) (hn : nextRung s psa t r 6 = some n) :
    climb s psa r = beginStep (mapStrip s psa (fun t => { t with rereads := 0 })) psa n 0 := by
  simp only [climb, ht, hn]

theorem climb_ends {s : State} {psa r : Nat} {t : StripRead} (ht : stripRead s psa = some t) (hn : nextRung s psa t r 6 = none) :
    climb s psa r = endStrip s psa false 3 := by
  simp only [climb, ht, hn]

/-- Which rung is ready follows from the settings, the samples stored and the sectors that are GOOD. -/
theorem nextRung_congr {s t : State} {psa : Nat} {x y : StripRead} (hretry : t.reg Reg.DET_RETRY = s.reg Reg.DET_RETRY)
    (hctrl : t.reg Reg.STRP_CTRL = s.reg Reg.STRP_CTRL) (hring : t.rd.ring = s.rd.ring)
    (hgroup : (groupRead t psa).map (·.psa) = (groupRead s psa).map (·.psa)) (hfins : y.fins = x.fins) (r top : Nat) :
    nextRung t psa y r top = nextRung s psa x r top := by
  have hfailed : ∀ q z, ringFailed y psa q z = ringFailed x psa q z := fun q z => by rw [ringFailed, hfins, ringFailed]
  have hstored : samplesStored t psa y = samplesStored s psa x := by
    unfold samplesStored
    cases hs : groupRead s psa with
    | none =>
      rw [hs] at hgroup
      rw [Option.map_eq_none_iff.mp hgroup]
    | some g =>
      rw [hs] at hgroup
      obtain ⟨g', hg', hpsa⟩ := Option.map_eq_some_iff.mp hgroup
      simp only [hg', ringOf, hring, hpsa, hfailed]
  have hready : ∀ k, rungReady t psa y k = rungReady s psa x k := fun k => by
    rw [rungReady, State.bit_of_reg _ _ _ _ _ hretry, State.bit_of_reg _ _ _ _ _ hctrl, hstored, rungReady]
  simp only [nextRung, hready]

end Sys2Proof.Machine
end

section
/-! Read arms, the release of strip slots, strip decoding, the ladder and TMAX (O22). -/
namespace Sys2Proof.Machine

variable {s u : State} {m : Master} {psa : Nat} {g : GroupRead} {x y : StripRead}

/-! ## What the next state shows -/

theorem stripRead_settled (s t : State) (psa : Nat) : stripRead (s.settled t) psa = stripRead t psa :=
  stripRead_of_groups (by rw [State.settled_rd]) psa

theorem reports_settled (s : State) {u : State} {p : Nat} (c src : Nat) (hc : c < 65536) (hp : plainReg (Reg.ERR_INFO p) = true)
    (hreg : u.reg (Reg.ERR_INFO p) = s.reg (Reg.ERR_INFO p)) : s.reports p c (s.settled (u.err p c src)) := by
  rw [State.reports, State.settled_fld_plain _ _ _ _ _ hp, State.fld_err_code _ _ _ _ hc, State.fld_of_reg _ _ _ _ _ _ hreg,
    State.fld_of_reg _ _ _ _ _ _ hreg]

/-! ## Arms and the release of strip slots (R102) -/

theorem freeStripSlots_congr (hrd : u.rd = s.rd) (hreg : u.reg Reg.STRP_RSA_SLOTS = s.reg Reg.STRP_RSA_SLOTS) :
    freeStripSlots u = freeStripSlots s := by
  rw [freeStripSlots, State.fld_of_reg _ _ _ _ _ _ hreg, heldStripSlots, hrd, freeStripSlots, heldStripSlots]

section
variable {v new : Word} (h : Takes s m Reg.DET_ARM_TAG v new)
include h

/-- The registers an arm reads are as before the write that commits it. -/
theorem detArm_runs {P : State → Prop} (hp : P (s.settled (detArm v (s.putReg Reg.DET_ARM_TAG new)))) : Runs (.detArm m v) s P :=
  runs_of_done _ (congrArg (done s) (regWrite_take h)) hp

theorem detArm_third (hfull : 2 ≤ s.rd.groups.length) :
    Runs (.detArm m v) s fun t => t.rd.groups = s.rd.groups ∧ t.irq pgDET 6 ∧ s.reports pgSTRP 0x0404 t := by
  have hrefused : detArm v (s.putReg Reg.DET_ARM_TAG new) = ((s.putReg Reg.DET_ARM_TAG new).raise pgDET 6).err pgSTRP 0x0404 0 :=
    if_pos (by rwa [State.putReg_rd])
  refine detArm_runs h ?_
  rw [hrefused]
  refine ⟨?_, ?_, reports_settled s _ _ (by decide) (by decide) ?_⟩
  · rw [State.settled_rd, State.err_rd, State.raise_rd, State.putReg_rd]
  · rw [State.irq, State.settled_bit_plain _ _ _ _ (by decide), State.bit_err_ne _ _ _ _ _ _ (by decide), State.bit_raise _ _ _ _ (by decide),
      decide_eq_true rfl, Bool.or_true]
  · rw [State.reg_raise_ne _ _ _ _ (by decide) (by decide), State.reg_putReg_ne _ _ _ (by decide) (by decide)]

variable (hroom : s.rd.groups.length < 2)
include hroom

theorem detArm_without_slots (hfew : (freeStripSlots s).length < 8) :
    Runs (.detArm m v) s fun t => t.rd.groups = s.rd.groups ∧ t.irq pgDET 6 ∧ t.irq pgSTRP 2 ∧ s.reports pgSTRP 0x0402 t := by
  have hfree := freeStripSlots_congr (s.putReg_rd Reg.DET_ARM_TAG new) (State.reg_putReg_ne s _ new (by decide) (by decide))
  have hrefused : detArm v (s.putReg Reg.DET_ARM_TAG new) =
      (((s.putReg Reg.DET_ARM_TAG new).raise pgDET 6).raise pgSTRP 2).err pgSTRP 0x0402 0 :=
    (if_neg (by rw [State.putReg_rd]; omega)).trans (if_pos (by rwa [hfree]))
  refine detArm_runs h ?_
  rw [hrefused]
  refine ⟨?_, ?_, ?_, reports_settled s _ _ (by decide) (by decide) ?_⟩
  · rw [State.settled_rd, State.err_rd, State.raise_rd, State.raise_rd, State.putReg_rd]
  · rw [State.irq, State.settled_bit_plain _ _ _ _ (by decide), State.bit_err_ne _ _ _ _ _ _ (by decide),
      State.bit_raise_ne _ _ _ _ _ (by decide) (by decide), State.bit_raise _ _ _ _ (by decide), decide_eq_true rfl, Bool.or_true]
  · rw [State.irq, State.settled_bit_plain _ _ _ _ (by decide), State.bit_err_ne _ _ _ _ _ _ (by decide), State.bit_raise _ _ _ _ (by decide),
      decide_eq_true rfl, Bool.or_true]
  · rw [State.reg_raise_ne _ _ _ _ (by decide) (by decide), State.reg_raise_ne _ _ _ _ (by decide) (by decide),
      State.reg_putReg_ne _ _ _ (by decide) (by decide)]

theorem detArm_reserves (hslots : 8 ≤ (freeStripSlots s).length) :
    Runs (.detArm m v) s fun t => t.rd.groups = s.rd.groups ++ [{ psa := s.fld Reg.DET_ARM_PSA 0 25, tag := v.toNat, wanted := s.fld Reg.DET_ARM_CTRL 0 8, patrol := s.bit Reg.DET_ARM_CTRL 8, laneLost := false, slots := (freeStripSlots s).take 8, released := [], strips := List.replicate 8 freshStrip, headers := [], rebuilt := [], again := false, saved := [], cur := [], soft := [] }] := by
  have hfree := freeStripSlots_congr (s.putReg_rd Reg.DET_ARM_TAG new) (State.reg_putReg_ne s _ new (by decide) (by decide))
  have hpsa : (s.putReg Reg.DET_ARM_TAG new).fld Reg.DET_ARM_PSA 0 25 = s.fld Reg.DET_ARM_PSA 0 25 :=
    State.fld_of_reg _ _ _ _ _ _ (State.reg_putReg_ne s _ new (by decide) (by decide))
  have hctrl : (s.putReg Reg.DET_ARM_TAG new).reg Reg.DET_ARM_CTRL = s.reg Reg.DET_ARM_CTRL :=
    State.reg_putReg_ne s _ new (by decide) (by decide)
  have harm : detArm v (s.putReg Reg.DET_ARM_TAG new) = readArm (s.putReg Reg.DET_ARM_TAG new) (s.fld Reg.DET_ARM_PSA 0 25) v.toNat
      (s.fld Reg.DET_ARM_CTRL 0 8) (s.bit Reg.DET_ARM_CTRL 8) := by
    rw [detArm, if_neg (by rw [State.putReg_rd]; omega), if_neg (by rw [hfree]; omega), hpsa, State.fld_of_reg _ _ _ _ _ _ hctrl,
      State.bit_of_reg _ _ _ _ _ hctrl]
  refine detArm_runs h ?_
  rw [harm, State.settled_rd, readArm, readCounts_rd, State.setRd_rd, State.putReg_rd, hfree]

end

/-- A slot that a release names is held no more, and a group that still counts has one left. -/
theorem slotRelease_frees (v : Word) (s : State) : (∀ k, fieldOf v k 1 = 1 → k ∉ heldStripSlots (slotRelease v s)) ∧
    ∀ g ∈ (slotRelease v s).rd.groups, g.released.length < 8 := by
  have hgroups : (slotRelease v s).rd.groups = (s.rd.groups.map (fun g => { g with
      released := g.released ++ g.slots.filter (fun k => fieldOf v k 1 == 1 && !g.released.contains k) })).filter
        (fun g => decide (g.released.length < 8)) := rfl
  refine ⟨fun k hk hheld => ?_, fun g hg => ?_⟩
  · rw [heldStripSlots, hgroups] at hheld
    obtain ⟨g', hg', hslot⟩ := List.mem_flatMap.mp hheld
    obtain ⟨g, -, rfl⟩ := List.mem_map.mp (List.mem_of_mem_filter hg')
    obtain ⟨hin, hout⟩ := List.mem_filter.mp hslot
    simp only [hin, hk, List.mem_append, List.mem_filter, List.contains_eq_mem, beq_self_eq_true, Bool.true_and,
      Bool.not_eq_true', decide_eq_false_iff_not, true_and, not_or, not_not] at hout
    exact hout.1 hout.2
  · rw [hgroups] at hg
    exact of_decide_eq_true (List.mem_filter.mp hg).2

theorem strpSlotRelease_frees {v new : Word} (h : Takes s m Reg.STRP_RSA_REL v new) : Runs (.strpSlotRelease m v) s fun t =>
    (∀ k ∈ List.range 32, fieldOf v k 1 = 1 → k ∉ heldStripSlots t) ∧ ∀ g ∈ t.rd.groups, g.released.length < 8 := by
  obtain ⟨hfree, hcount⟩ := slotRelease_frees v (s.putReg Reg.STRP_RSA_REL new)
  refine runs_of_done _ (congrArg (done s) (regWrite_take h)) ⟨fun k _ hk => ?_, ?_⟩
  · rw [heldStripSlots, State.settled_rd]
    exact hfree k hk
  · rw [State.settled_rd]
    exact hcount

/-! ## Strip decoding (R103, R107, R108) -/

/-- A strip that STRP decodes: its sectors are final, none waits for a second pass, and no ladder holds it. -/
structure DecodesNow (s : State) (psa : Nat) (g : GroupRead) (x : StripRead) : Prop where
  group : groupRead s psa = some g
  strip : stripRead s psa = some x
  final : ∀ f ∈ x.fins, f ≠ none
  noneLost : x.laneLostSectors = []
  open_ : x.ended = none
  rung : x.rung = 0
  once : g.again = false

/-- The strip after it failed: its clock has started (R108). -/
def stripFailed (s : State) (psa : Nat) : State :=
  mapStrip s psa (fun t => { t with failTick := some s.ticks, eras0 := (stripErasures t).length })

theorem stripRead_stripFailed (hx : stripRead s psa = some x) :
    stripRead (stripFailed s psa) psa = some { x with failTick := some s.ticks, eras0 := (stripErasures x).length } := by
  rw [stripFailed, stripRead_mapStrip, hx, Option.map_some]

section
variable (hg : groupRead s psa = some g)
include hg

theorem firstFailure_waits (hw : laneWaits g = true) : firstFailure s psa = s := by simp only [firstFailure, hg, hw, if_true]

variable (hw : laneWaits g = false)
include hw

theorem firstFailure_wanted (hwanted : g.wanted.testBit (psa % 8) = true) : firstFailure s psa = climb (stripFailed s psa) psa 0 := by
  simp only [firstFailure, hg, hw, hwanted, if_true, Bool.false_eq_true, if_false, stripFailed]

variable (hunwanted : g.wanted.testBit (psa % 8) = false)
include hunwanted

theorem firstFailure_patrol (hp : g.patrol = true) : firstFailure s psa = endStrip (stripFailed s psa) psa false 3 := by
  simp only [firstFailure, hg, hw, hunwanted, hp, if_true, Bool.false_eq_true, if_false, stripFailed]

theorem firstFailure_unwanted (hp : g.patrol = false) :
    firstFailure s psa = releaseSlotsDone (mapStrip (stripFailed s psa) psa (fun t => { t with ended := some false })) := by
  simp only [firstFailure, hg, hw, hunwanted, hp, Bool.false_eq_true, if_false, stripFailed]

end

section
variable (hc : (decodeStrip s g psa x).1 = none)
include hc

theorem decodeStrip_fails_rd : (decodeStrip s g psa x).2.rd = s.rd := by
  rcases decodeStrip_fails hc with he | he <;> rw [he]
  rw [State.addSat_rd]

theorem decodeStrip_fails_ticks : (decodeStrip s g psa x).2.ticks = s.ticks := by
  rcases decodeStrip_fails hc with he | he <;> rw [he]
  rw [State.addSat_ticks]

theorem decodeStrip_fails_reg {a : Nat} (ha : Reg.STRP_CNT ≠ a) : (decodeStrip s g psa x).2.reg a = s.reg a := by
  rcases decodeStrip_fails hc with he | he <;> rw [he]
  exact State.reg_setReg_ne _ _ _ _ ha

end

theorem stripFailed_reg (s : State) (psa a : Nat) : (stripFailed s psa).reg a = s.reg a := rfl
theorem stripFailed_ring (s : State) (psa : Nat) : (stripFailed s psa).rd.ring = s.rd.ring := rfl

theorem groupRead_stripFailed (s : State) (psa : Nat) : (groupRead (stripFailed s psa) psa).map (·.psa) = (groupRead s psa).map (·.psa) := by
  rw [stripFailed, groupRead_mapStrip, Option.map_map]
  rfl

namespace DecodesNow

variable (h : DecodesNow s psa g x)
include h

theorem not_held : ¬(x.fins.any (·.isNone) ∨ !x.laneLostSectors.isEmpty ∨ x.ended.isSome ∨ x.rung ≠ 0 ∨ g.again) := by
  have hfinal : x.fins.any (·.isNone) = false := List.any_eq_false.mpr fun f hf hn => h.final f hf (Option.isNone_iff_eq_none.mp hn)
  simp [hfinal, h.noneLost, h.open_, h.rung, h.once]

theorem delivers {c : Nat} (hc : (decodeStrip s g psa x).1 = some c) : stripDecode psa s =
    endStrip (mapStrip (decodeStrip s g psa x).2 psa (fun t => { t with eras0 := (stripErasures x).length })) psa true
      (max c (stripClass s (stripErasures x).length)) := by
  simp only [stripDecode, h.group, h.strip, if_neg h.not_held, hc]

variable (hc : (decodeStrip s g psa x).1 = none)
include hc

theorem fails : stripDecode psa s = firstFailure (decodeStrip s g psa x).2 psa := by
  simp only [stripDecode, h.group, h.strip, if_neg h.not_held, hc]

theorem failed_group : groupRead (decodeStrip s g psa x).2 psa = some g :=
  (groupRead_of_groups (by rw [decodeStrip_fails_rd hc]) psa).trans h.group

theorem failed_strip : stripRead (decodeStrip s g psa x).2 psa = some x :=
  (stripRead_of_groups (by rw [decodeStrip_fails_rd hc]) psa).trans h.strip

/-- The strip whose clock has started climbs as the failed one would. -/
theorem failed_nextRung : nextRung (stripFailed (decodeStrip s g psa x).2 psa) psa
    { x with failTick := some s.ticks, eras0 := (stripErasures x).length } 0 6 = nextRung s psa x 0 6 := by
  have hretry := decodeStrip_fails_reg hc (a := Reg.DET_RETRY) (by decide)
  have hctrl := decodeStrip_fails_reg hc (a := Reg.STRP_CTRL) (by decide)
  have hring := congrArg ReadPath.ring (decodeStrip_fails_rd hc)
  have hgroup := groupRead_stripFailed (decodeStrip s g psa x).2 psa
  rw [h.failed_group hc] at hgroup
  rw [← stripFailed_reg (decodeStrip s g psa x).2 psa] at hretry hctrl
  rw [← stripFailed_ring (decodeStrip s g psa x).2 psa] at hring
  exact nextRung_congr hretry hctrl hring (by rw [hgroup, h.group]) rfl 0 6

theorem failed_climbs {n : Nat} (hn : nextRung s psa x 0 6 = some n) :
    (stripRead (climb (stripFailed (decodeStrip s g psa x).2 psa) psa 0) psa).map (fun y => (y.ended, y.rung, y.failTick, y.eras0)) =
      some (none, n, some s.ticks, (stripErasures x).length) := by
  have hstrip := stripRead_stripFailed (h.failed_strip hc)
  rw [decodeStrip_fails_ticks hc] at hstrip
  rw [climb_next hstrip ((h.failed_nextRung hc).trans hn), stripRead_beginStep, stripRead_mapStrip, hstrip]
  simp only [Option.map_some, StripRead.begun, h.open_]

theorem failed_ends (hn : nextRung s psa x 0 6 = none) :
    climb (stripFailed (decodeStrip s g psa x).2 psa) psa 0 = endStrip (stripFailed (decodeStrip s g psa x).2 psa) psa false 3 := by
  have hstrip := stripRead_stripFailed (h.failed_strip hc)
  rw [decodeStrip_fails_ticks hc] at hstrip
  exact climb_ends hstrip ((h.failed_nextRung hc).trans hn)

end DecodesNow

/-- A strip that ends unrecovered shows it, with both interrupts. -/
theorem runs_unrecovered {c : Instr} (hx : stripRead u psa = some x) (h : exec c s = done s (endStrip u psa false 3)) :
    Runs c s fun t => (stripRead t psa).map (fun z => (z.ended, z.cls)) = some (some false, 3) ∧ t.irq pgDET 5 ∧ t.irq pgSTRP 0 := by
  obtain ⟨hdet, hstrp⟩ := endStrip_unrecovered hx 3
  refine runs_of_done _ h ⟨?_, ?_, ?_⟩
  · rw [stripRead_settled, stripRead_endStrip, hx]
    rfl
  · rw [State.irq, State.settled_bit_plain _ _ _ _ (by decide)]
    exact hdet
  · rw [State.irq, State.settled_bit_plain _ _ _ _ (by decide)]
    exact hstrp

theorem stripDecode_runs (hf : s.frozen pgSTRP = false) (he : stripDecode psa s = u) : exec (.stripDecode psa) s = done s u :=
  congrArg (done s) ((State.unlessFrozen_running hf _).trans he)

section
variable (hf : s.frozen pgSTRP = false) (h : DecodesNow s psa g x)
include hf h

theorem stripDecode_delivers {c : Nat} (hc : (decodeStrip s g psa x).1 = some c) : Runs (.stripDecode psa) s fun t =>
    (stripRead t psa).map (fun y => (y.ended, y.cls, y.fins, y.eras0)) =
      some (some true, max c (stripClass s (stripErasures x).length), x.fins, (stripErasures x).length) := by
  obtain ⟨y, hy, hfins⟩ := (decodeStrip_keeps (v := StripRead.fins) (fun _ => rfl) s g psa x).of_some h.strip
  refine runs_of_done _ (stripDecode_runs hf (h.delivers hc)) ?_
  rw [stripRead_settled, stripRead_endStrip, stripRead_mapStrip, hy]
  simp only [Option.map_some, hfins]

variable (hc : (decodeStrip s g psa x).1 = none)
include hc

theorem stripDecode_waits (hw : laneWaits g = true) : Runs (.stripDecode psa) s fun t =>
    (stripRead t psa).map (fun y => (y.ended, y.rung, y.fins)) = some (none, 0, x.fins) := by
  refine runs_of_done _ (stripDecode_runs hf ((h.fails hc).trans (firstFailure_waits (h.failed_group hc) hw))) ?_
  rw [stripRead_settled, h.failed_strip hc, Option.map_some, h.open_, h.rung]

variable (hw : laneWaits g = false)
include hw

theorem stripDecode_climbs (hwanted : g.wanted.testBit (psa % 8) = true) {n : Nat} (hn : nextRung s psa x 0 6 = some n) :
    Runs (.stripDecode psa) s fun t => (stripRead t psa).map (fun y => (y.ended, y.rung, y.failTick, y.eras0)) =
      some (none, n, some s.ticks, (stripErasures x).length) := by
  refine runs_of_done _ (stripDecode_runs hf ((h.fails hc).trans (firstFailure_wanted (h.failed_group hc) hw hwanted))) ?_
  rw [stripRead_settled, h.failed_climbs hc hn]

theorem stripDecode_unrecovered (hend : (g.wanted.testBit (psa % 8) = true ∧ nextRung s psa x 0 6 = none) ∨
      (g.wanted.testBit (psa % 8) = false ∧ g.patrol = true)) : Runs (.stripDecode psa) s fun t =>
    (stripRead t psa).map (fun z => (z.ended, z.cls)) = some (some false, 3) ∧ t.irq pgDET 5 ∧ t.irq pgSTRP 0 := by
  refine runs_unrecovered (stripRead_stripFailed (h.failed_strip hc)) (stripDecode_runs hf ((h.fails hc).trans ?_))
  rcases hend with ⟨hwanted, hn⟩ | ⟨hunwanted, hp⟩
  · exact (firstFailure_wanted (h.failed_group hc) hw hwanted).trans (h.failed_ends hc hn)
  · exact firstFailure_patrol (h.failed_group hc) hw hunwanted hp

theorem stripDecode_ends (hunwanted : g.wanted.testBit (psa % 8) = false) (hp : g.patrol = false) :
    Runs (.stripDecode psa) s fun t => (stripRead t psa).map (fun z => z.ended) = some (some false) := by
  refine runs_of_done _ (stripDecode_runs hf ((h.fails hc).trans (firstFailure_unwanted (h.failed_group hc) hw hunwanted hp))) ?_
  rw [stripRead_settled, stripRead_of_groups (releaseSlotsDone_groups _), stripRead_mapStrip, stripRead_stripFailed (h.failed_strip hc)]
  rfl

end

theorem stripDecode_idle (h : stripRead s psa = none ∨ (∃ g ∈ groupRead s psa, g.again = true) ∨
      ∃ x ∈ stripRead s psa, none ∈ x.fins ∨ x.laneLostSectors ≠ [] ∨ x.ended ≠ none ∨ x.rung ≠ 0) : stripDecode psa s = s := by
  unfold stripDecode
  split
  case h_1 g t hg ht =>
    rw [if_pos]
    rcases h with h | ⟨g', hg', h⟩ | ⟨t', ht', h⟩
    · exact absurd (ht.symm.trans h) (by simp)
    · obtain rfl : g = g' := Option.some.inj (hg.symm.trans hg')
      simp only [h, or_true]
    · obtain rfl : t = t' := Option.some.inj (ht.symm.trans ht')
      rcases h with h | h | h | h
      · exact .inl (List.any_eq_true.mpr ⟨none, h, rfl⟩)
      · exact .inr (.inl (by simpa using h))
      · exact .inr (.inr (.inl (Option.isSome_iff_ne_none.mpr h)))
      · exact .inr (.inr (.inr (.inl h)))
  case h_2 => rfl

/-! ## The retry ladder (R108 to R110, R112) -/

/-- A strip on the ladder whose step ends, and the strip after the step's work. -/
structure StepEnds (s : State) (psa : Nat) (g : GroupRead) (x y : StripRead) : Prop where
  group : groupRead s psa = some g
  strip : stripRead s psa = some x
  climbing : x.rung ≠ 0
  open_ : x.ended = none
  ends : stepEnds s g psa x = true
  worked : stripRead (stepDone psa x s) psa = some y

/-- What the strip's decode after the step answers. -/
def stepOutcome (s : State) (psa : Nat) (g : GroupRead) (x y : StripRead) : Option Nat × State :=
  stepDecode (stepDone psa x s) g psa (ladderStep x) y

namespace StepEnds

variable (h : StepEnds s psa g x y)
include h

theorem not_held : ¬(x.rung = 0 ∨ x.ended.isSome ∨ !stepEnds s g psa x) := by
  simp [h.climbing, h.open_, h.ends]

theorem delivers {c : Nat} (hc : (stepOutcome s psa g x y).1 = some c) :
    rungEnd psa s = endStrip (stepOutcome s psa g x y).2 psa true c := by
  rw [stepOutcome] at hc
  simp only [rungEnd, h.group, h.strip, if_neg h.not_held, h.worked, hc, stepOutcome]

theorem stops (hc : (stepOutcome s psa g x y).1 = none) (hstop : ladderStops (stepOutcome s psa g x y).2 psa y = true) :
    rungEnd psa s = endStrip (stepOutcome s psa g x y).2 psa false 3 := by
  rw [stepOutcome] at hc hstop
  simp only [rungEnd, h.group, h.strip, if_neg h.not_held, h.worked, hc, hstop, if_true, stepOutcome]

theorem goes_on (hc : (stepOutcome s psa g x y).1 = none) (hstop : ladderStops (stepOutcome s psa g x y).2 psa y = false) :
    rungEnd psa s = nextStep (stepOutcome s psa g x y).2 psa y := by
  rw [stepOutcome] at hc hstop
  simp only [rungEnd, h.group, h.strip, if_neg h.not_held, h.worked, hc, hstop, Bool.false_eq_true, if_false, stepOutcome]

theorem failed_strip (hc : (stepOutcome s psa g x y).1 = none) : stripRead (stepOutcome s psa g x y).2 psa = some y :=
  (stripRead_of_groups (stepDecode_fails_groups hc) psa).trans h.worked

theorem worked_open : y.ended = none := (stepDone_course h.strip h.worked).2.2.2.2.trans h.open_

end StepEnds

theorem nextStep_climbs (hr : y.rung < 4) : nextStep s psa y = climb s psa y.rung := if_pos hr

theorem nextStep_substep (hr : 4 ≤ y.rung) {n : Nat} (hn : nextRung s psa y y.sub 4 = some n) : nextStep s psa y = beginStep s psa y.rung n := by
  simp only [nextStep, if_neg (Nat.not_lt.mpr hr), hn]

theorem nextStep_rereads (hr : 4 ≤ y.rung) (hn : nextRung s psa y y.sub 4 = none) (hleft : y.rereads + 1 < (if y.rung = 4 then 2 else 4)) :
    nextStep s psa y = beginStep (mapStrip s psa (fun t => { t with rereads := y.rereads + 1 })) psa y.rung 0 := by
  simp only [nextStep, if_neg (Nat.not_lt.mpr hr), hn, if_pos hleft]

theorem retryLadderRung_runs (hf : s.frozen pgDET = false) (he : rungEnd psa s = u) : exec (.retryLadderRung psa) s = done s u :=
  congrArg (done s) ((State.unlessFrozen_running hf _).trans he)

section
variable (hf : s.frozen pgDET = false) (h : StepEnds s psa g x y)
include hf h

theorem retryLadderRung_delivers {c : Nat} (hc : (stepOutcome s psa g x y).1 = some c) : Runs (.retryLadderRung psa) s fun t =>
    (stripRead t psa).map (fun z => (z.ended, z.cls, z.highest)) = some (some true, c, max x.highest x.rung) := by
  obtain ⟨z, hz, hcourse⟩ := (stepDecode_keeps (stepDone psa x s) g psa (ladderStep x) y).of_some h.worked
  obtain ⟨-, -, -, hhighest, -⟩ := (StripRead.course_eq_iff _ _).mp hcourse
  obtain ⟨-, -, -, hnoted, -⟩ := stepDone_course h.strip h.worked
  refine runs_of_done _ (retryLadderRung_runs hf (h.delivers hc)) ?_
  rw [stripRead_settled, stripRead_endStrip, stepOutcome, hz]
  simp only [Option.map_some, hhighest, hnoted]

variable (hc : (stepOutcome s psa g x y).1 = none)
include hc

theorem retryLadderRung_stops (hstop : ladderStops (stepOutcome s psa g x y).2 psa y = true) : Runs (.retryLadderRung psa) s fun t =>
    (stripRead t psa).map (fun z => (z.ended, z.cls)) = some (some false, 3) ∧ t.irq pgDET 5 ∧ t.irq pgSTRP 0 :=
  runs_unrecovered (h.failed_strip hc) (retryLadderRung_runs hf (h.stops hc hstop))

variable (hgo : ladderStops (stepOutcome s psa g x y).2 psa y = false)
include hgo

theorem retryLadderRung_climbs (hr : x.rung < 4) {n : Nat} (hn : nextRung (stepOutcome s psa g x y).2 psa y x.rung 6 = some n) :
    Runs (.retryLadderRung psa) s fun t =>
      (stripRead t psa).map (fun z => (z.ended, z.rung, z.sub, z.rereads, z.highest)) = some (none, n, 0, 0, max x.highest x.rung) := by
  obtain ⟨hrung, -, -, hnoted, -⟩ := stepDone_course h.strip h.worked
  have hnext := (h.goes_on hc hgo).trans (nextStep_climbs (hrung ▸ hr))
  rw [hrung, climb_next (h.failed_strip hc) hn] at hnext
  refine runs_of_done _ (retryLadderRung_runs hf hnext) ?_
  rw [stripRead_settled, stripRead_beginStep, stripRead_mapStrip, h.failed_strip hc]
  simp only [Option.map_some, StripRead.begun, hnoted, h.worked_open]

theorem retryLadderRung_exhausted (hr : x.rung < 4) (hn : nextRung (stepOutcome s psa g x y).2 psa y x.rung 6 = none) :
    Runs (.retryLadderRung psa) s fun t =>
      (stripRead t psa).map (fun z => (z.ended, z.cls)) = some (some false, 3) ∧ t.irq pgDET 5 ∧ t.irq pgSTRP 0 := by
  obtain ⟨hrung, -, -, -, -⟩ := stepDone_course h.strip h.worked
  have hnext := (h.goes_on hc hgo).trans (nextStep_climbs (hrung ▸ hr))
  rw [hrung, climb_ends (h.failed_strip hc) hn] at hnext
  exact runs_unrecovered (h.failed_strip hc) (retryLadderRung_runs hf hnext)

variable (hr : 4 ≤ x.rung)
include hr

theorem retryLadderRung_substep {n : Nat} (hn : nextRung (stepOutcome s psa g x y).2 psa y y.sub 4 = some n) :
    Runs (.retryLadderRung psa) s fun t => (stripRead t psa).map (fun z => (z.ended, z.rung, z.sub)) = some (none, y.rung, n) := by
  obtain ⟨hrung, -, -, -, -⟩ := stepDone_course h.strip h.worked
  refine runs_of_done _ (retryLadderRung_runs hf ((h.goes_on hc hgo).trans (nextStep_substep (hrung ▸ hr) hn))) ?_
  rw [stripRead_settled, stripRead_beginStep, h.failed_strip hc]
  simp only [Option.map_some, StripRead.begun, h.worked_open]

theorem retryLadderRung_rereads (hn : nextRung (stepOutcome s psa g x y).2 psa y y.sub 4 = none)
    (hleft : y.rereads + 1 < (if x.rung = 4 then 2 else 4)) : Runs (.retryLadderRung psa) s fun t =>
      (stripRead t psa).map (fun z => (z.ended, z.rung, z.sub, z.rereads)) = some (none, x.rung, 0, y.rereads + 1) := by
  obtain ⟨hrung, -, -, -, -⟩ := stepDone_course h.strip h.worked
  have hnext := (h.goes_on hc hgo).trans (nextStep_rereads (hrung ▸ hr) hn (hrung ▸ hleft))
  refine runs_of_done _ (retryLadderRung_runs hf hnext) ?_
  rw [stripRead_settled, stripRead_beginStep, stripRead_mapStrip, h.failed_strip hc]
  simp only [Option.map_some, StripRead.begun, h.worked_open, hrung]

end

theorem rungEnd_idle (h : stripRead s psa = none ∨
      ∃ x ∈ stripRead s psa, x.rung = 0 ∨ x.ended ≠ none ∨ ∀ g ∈ groupRead s psa, stepEnds s g psa x = false) : rungEnd psa s = s := by
  unfold rungEnd
  split
  case h_1 g t hg ht =>
    rw [if_pos]
    rcases h with h | ⟨t', ht', h⟩
    · exact absurd (ht.symm.trans h) (by simp)
    · obtain rfl : t = t' := Option.some.inj (ht.symm.trans ht')
      rcases h with h | h | h
      · exact .inl h
      · exact .inr (.inl (Option.isSome_iff_ne_none.mpr h))
      · exact .inr (.inr (by rw [h g hg]; rfl))
  case h_2 => rfl

theorem ladderTmaxExpiry_stops (hf : s.frozen pgDET = false) (hg : groupRead s psa = some g) (hx : stripRead s psa = some x) (hr : x.rung ≠ 0)
    (ho : x.ended = none) (hp : g.patrol = false) (ht : s.fld Reg.DET_RETRY 0 12 ≠ 0) :
    Runs (.ladderTmaxExpiry psa) s fun t => stripRead t psa = some { x with tmaxHit := true } := by
  have hclimbs : x.rung ≠ 0 ∧ x.ended.isNone ∧ !g.patrol ∧ s.fld Reg.DET_RETRY 0 12 ≠ 0 := by simp [hr, ho, hp, ht]
  have hmarked : tmaxExpiry psa s = mapStrip s psa (fun t => { t with tmaxHit := true }) := by
    simp only [tmaxExpiry, hg, hx, if_pos hclimbs]
  refine runs_of_done _ (congrArg (done s) ((State.unlessFrozen_running hf _).trans hmarked)) ?_
  rw [stripRead_settled, stripRead_mapStrip, hx, Option.map_some]

theorem tmaxExpiry_idle (h : stripRead s psa = none ∨ s.fld Reg.DET_RETRY 0 12 = 0 ∨ (∃ g ∈ groupRead s psa, g.patrol = true) ∨
      ∃ x ∈ stripRead s psa, x.rung = 0 ∨ x.ended ≠ none) : tmaxExpiry psa s = s := by
  unfold tmaxExpiry
  split
  case h_1 g t hg ht =>
    rw [if_neg]
    rintro ⟨hr, ho, hp, hlimit⟩
    rcases h with h | h | ⟨g', hg', h⟩ | ⟨t', ht', h⟩
    · exact absurd (ht.symm.trans h) (by simp)
    · exact hlimit h
    · obtain rfl : g = g' := Option.some.inj (hg.symm.trans hg')
      rw [h] at hp
      exact absurd hp (by decide)
    · obtain rfl : t = t' := Option.some.inj (ht.symm.trans ht')
      exact h.elim hr fun h => h (Option.isNone_iff_eq_none.mp ho)
  case h_2 => rfl

/-- A command of a page does nothing while the page is frozen, or where its effect does nothing. -/
theorem unlessFrozen_idle {p : Nat} {f : State → State} {Q : Prop} (hq : Q → f s = s) (h : s.frozen p = true ∨ Q) : s.unlessFrozen p f = s := by
  by_cases hf : s.frozen p = true
  · exact State.unlessFrozen_frozen hf f
  · exact (State.unlessFrozen_running (Bool.eq_false_iff.mpr hf) f).trans (hq (h.resolve_left hf))

end Sys2Proof.Machine

namespace Sys2Proof.Machine

/-- Settles O22: arms and releases by the slots they leave, a strip's decode by the way it fails, and a step of the ladder by
what its decode answers and the rung that is ready next. -/
theorem stripsAreArmedDecodedAndRecovered : Obligations.StripsAreArmedDecodedAndRecovered := by
  unfold Obligations.StripsAreArmedDecodedAndRecovered
  refine ⟨?_, ?_, ?_, ?_, ?_, ?_, ?_, ?_, ?_, ?_, ?_, ?_, ?_, ?_, ?_, ?_, ?_, ?_, ?_⟩
  · exact fun s m v new ⟨h, hroom, hslots⟩ => detArm_reserves h hroom hslots
  · exact fun s m v new ⟨h, hfull⟩ => detArm_third h hfull
  · exact fun s m v new ⟨h, hroom, hfew⟩ => detArm_without_slots h hroom hfew
  · exact fun s m v new h => strpSlotRelease_frees h
  · exact fun s psa g x c ⟨hf, hg, hx, hfin, hl, ho, hr, ha, hc⟩ => stripDecode_delivers hf ⟨hg, hx, hfin, hl, ho, hr, ha⟩ hc
  · exact fun s psa g x ⟨hf, hg, hx, hfin, hl, ho, hr, ha, hc, hw⟩ => stripDecode_waits hf ⟨hg, hx, hfin, hl, ho, hr, ha⟩ hc hw
  · exact fun s psa g x n ⟨hf, hg, hx, hfin, hl, ho, hr, ha, hc, hw, hwanted, hn⟩ =>
      stripDecode_climbs hf ⟨hg, hx, hfin, hl, ho, hr, ha⟩ hc hw hwanted hn
  · exact fun s psa g x ⟨hf, hg, hx, hfin, hl, ho, hr, ha, hc, hw, hend⟩ =>
      stripDecode_unrecovered hf ⟨hg, hx, hfin, hl, ho, hr, ha⟩ hc hw hend
  · exact fun s psa g x ⟨hf, hg, hx, hfin, hl, ho, hr, ha, hc, hw, hunwanted, hp⟩ =>
      stripDecode_ends hf ⟨hg, hx, hfin, hl, ho, hr, ha⟩ hc hw hunwanted hp
  · exact fun s psa ⟨hwf, h⟩ => runs_unchanged hwf rfl (unlessFrozen_idle stripDecode_idle h)
  · exact fun s psa g x y c ⟨hf, hg, hx, hr, ho, he, hy, hc⟩ => retryLadderRung_delivers hf ⟨hg, hx, hr, ho, he, hy⟩ hc
  · exact fun s psa g x y ⟨hf, hg, hx, hr, ho, he, hy, hc, hstop⟩ => retryLadderRung_stops hf ⟨hg, hx, hr, ho, he, hy⟩ hc hstop
  · exact fun s psa g x y n ⟨hf, hg, hx, hr, ho, he, hy, hc, hgo, hlow, hn⟩ =>
      retryLadderRung_climbs hf ⟨hg, hx, hr, ho, he, hy⟩ hc hgo hlow hn
  · exact fun s psa g x y ⟨hf, hg, hx, hr, ho, he, hy, hc, hgo, hlow, hn⟩ =>
      retryLadderRung_exhausted hf ⟨hg, hx, hr, ho, he, hy⟩ hc hgo hlow hn
  · exact fun s psa g x y n ⟨hf, hg, hx, hr, ho, he, hy, hc, hgo, hhigh, hn⟩ =>
      retryLadderRung_substep hf ⟨hg, hx, hr, ho, he, hy⟩ hc hgo hhigh hn
  · exact fun s psa g x y ⟨hf, hg, hx, hr, ho, he, hy, hc, hgo, hhigh, _, hn, hleft⟩ =>
      retryLadderRung_rereads hf ⟨hg, hx, hr, ho, he, hy⟩ hc hgo hhigh hn hleft
  · exact fun s psa ⟨hwf, h⟩ => runs_unchanged hwf rfl (unlessFrozen_idle rungEnd_idle h)
  · exact fun s psa g x ⟨hf, hg, hx, hr, ho, hp, ht⟩ => ladderTmaxExpiry_stops hf hg hx hr ho hp ht
  · exact fun s psa ⟨hwf, h⟩ => runs_unchanged hwf rfl (unlessFrozen_idle tmaxExpiry_idle h)

end Sys2Proof.Machine
end

section
/-! A lane's registers and own state, its loops, and what the passing of a frame leaves of them (O20). -/
namespace Sys2Proof.Machine

/-! ## A lane's registers -/

/-- Registers at some offsets of a lane's page, and all of the pages that follow the lanes'. -/
abbrev laneOut (offs : List Nat) (l a : Nat) : Prop := 0x4000E000 ≤ a ∨ a ∈ offs.map (fun o => 0x4000A000 + 0x1000 * l + o)

/-- Interrupts and the error word of a page (R500, R501). -/
abbrev logOffs : List Nat := [0x0C, 0x14, 0x18]
/-- Gain, timing and taps (R57, R65, R69). -/
abbrev gainOffs : List Nat := [0x4C, 0x64] ++ (List.range 15).map (fun k => 0x80 + 4 * k)
/-- What the loops may change, their frequency limit included. -/
abbrev loopOffs : List Nat := logOffs ++ gainOffs

theorem laneOut_mono {L M : List Nat} (h : ∀ o ∈ L, o ∈ M) {l a : Nat} (ha : laneOut L l a) : laneOut M l a :=
  ha.imp_right fun hm => by
    obtain ⟨o, ho, rfl⟩ := List.mem_map.mp hm
    exact List.mem_map.mpr ⟨o, h o ho, rfl⟩

theorem RegsKept.widen {L M : List Nat} {l : Nat} {s t : State} (h : RegsKept (laneOut L l) s t) (hs : ∀ o ∈ L, o ∈ M := by decide) :
    RegsKept (laneOut M l) s t := h.mono fun _ ha => laneOut_mono hs ha

/-- A register of the lane that is not among those. -/
theorem RegsKept.laneReg {L : List Nat} {l : Nat} {s t : State} (h : RegsKept (laneOut L l) s t) (hl : l < 4) (r : Nat → Nat)
    (hr : ∀ l < 4, ¬laneOut L l (r l) := by decide) : t.reg (r l) = s.reg (r l) := h.reg _ (hr l hl)

theorem RegsKept.lstate {L : List Nat} {l : Nat} {s t : State} (h : RegsKept (laneOut L l) s t) (hl : l < 4)
    (hr : ∀ l < 4, ¬laneOut L l (Reg.STAT (pgRFL l)) := by decide) : lstate t l = lstate s l :=
  State.fld_of_reg _ _ _ _ _ _ (h.laneReg hl (fun l => Reg.STAT (pgRFL l)) hr)

theorem lanePresent_lt {s : State} {l : Nat} (h : lanePresent s l = true) : l < 4 := by
  have hlt := of_decide_eq_true h
  split at hlt <;> omega

/-- A register of a lane that the part has shows after a command what the command's effect leaves in it. -/
theorem settled_laneReg {s t : State} {l : Nat} (h : lanePresent s l = true) (hv : t.variant = s.variant) (r : Nat → Nat)
    (hr : ∀ l < 4, hardWired .ln7740 (r l) = false ∧ (l < 2 → hardWired .ln7720 (r l) = false) := by decide) :
    (s.settled t).reg (r l) = t.reg (r l) := by
  refine State.settled_reg s t (r l) hv ?_
  have hlt := of_decide_eq_true h
  cases hvar : s.variant with
  | ln7720 => exact (hr l (lanePresent_lt h)).2 (by simpa [hvar] using hlt)
  | ln7740 => exact (hr l (lanePresent_lt h)).1

/-! ## Interrupts and errors that stand -/

/-- Interrupts of a page stay, and so does the error that its ERR_INFO holds (R500, R501). -/
structure Logs (p : Nat) (s t : State) : Prop where
  irq_stands : ∀ i, s.irq p i → t.irq p i
  err_stands : s.fld (Reg.ERR_INFO p) 24 8 ≠ 0 → t.fld (Reg.ERR_INFO p) 24 8 ≠ 0 ∧ t.fld (Reg.ERR_INFO p) 0 16 = s.fld (Reg.ERR_INFO p) 0 16

namespace Logs

variable {p : Nat} {s t u : State}

theorem of_regs (hirq : t.reg (Reg.IRQ_RAW p) = s.reg (Reg.IRQ_RAW p)) (herr : t.reg (Reg.ERR_INFO p) = s.reg (Reg.ERR_INFO p)) :
    Logs p s t :=
  ⟨fun i hi => (State.bit_of_reg _ _ _ _ i hirq).trans hi, fun h => by
    rw [State.fld_of_reg _ _ _ _ _ _ herr, State.fld_of_reg _ _ _ _ _ _ herr]
    exact ⟨h, rfl⟩⟩

theorem refl (p : Nat) (s : State) : Logs p s s := of_regs rfl rfl

theorem trans (h : Logs p s t) (h' : Logs p t u) : Logs p s u :=
  ⟨fun i hi => h'.irq_stands i (h.irq_stands i hi), fun hs => ⟨(h'.err_stands (h.err_stands hs).1).1, (h'.err_stands (h.err_stands hs).1).2.trans (h.err_stands hs).2⟩⟩

theorem ite {c : Prop} [Decidable c] (h : Logs p s t) (h' : Logs p s u) : Logs p s (if c then t else u) := by
  split <;> assumption

theorem foldl {α : Type} {f : State → α → State} (hf : ∀ s a, Logs p s (f s a)) (l : List α) (s : State) : Logs p s (l.foldl f s) := by
  induction l generalizing s with
  | nil => exact .refl p s
  | cons a l ih => exact (hf s a).trans (ih _)

theorem raise (h : Logs p s t) (i : Nat) (hi : i < 32) : Logs p s (t.raise p i) := by
  refine h.trans ⟨fun j hj => ?_, fun he => ?_⟩
  · rw [State.irq, State.bit_raise _ _ _ _ hi, hj, Bool.true_or]
  · have hne : Reg.IRQ_RAW p ≠ Reg.ERR_INFO p ∧ Reg.IRQ_STAT p ≠ Reg.ERR_INFO p := by simp only [Reg.IRQ_RAW, Reg.IRQ_STAT, Reg.ERR_INFO]; omega
    rw [State.fld_raise_ne _ _ _ _ _ _ hne.1 hne.2, State.fld_raise_ne _ _ _ _ _ _ hne.1 hne.2]
    exact ⟨he, rfl⟩

theorem err (h : Logs p s t) (c m : Nat) (hc : c < 65536) : Logs p s (t.err p c m) := by
  refine h.trans ⟨fun j hj => ?_, fun he => ?_⟩
  · have hne : Reg.ERR_INFO p ≠ Reg.IRQ_RAW p := by simp only [Reg.IRQ_RAW, Reg.ERR_INFO]; omega
    rw [State.irq, State.bit_err_ne _ _ _ _ _ _ hne]
    exact hj
  · rw [State.fld_err_count, State.fld_err_code _ _ _ _ hc, if_neg he]
    exact ⟨by omega, rfl⟩

theorem of_kept {L : List Nat} {l : Nat} (h : RegsKept (laneOut L l) s t) (hl : l < 4)
    (hr : ∀ l < 4, ¬laneOut L l (Reg.IRQ_RAW (pgRFL l)) ∧ ¬laneOut L l (Reg.ERR_INFO (pgRFL l)) := by decide) : Logs (pgRFL l) s t :=
  .of_regs (h.reg _ (hr l hl).1) (h.reg _ (hr l hl).2)

end Logs

/-- What has been reported shows, whatever follows. -/
theorem Logs.reports_err {p : Nat} {s u t : State} {c m : Nat} (h : Logs p (u.err p c m) t) (hc : c < 65536)
    (hu : u.reg (Reg.ERR_INFO p) = s.reg (Reg.ERR_INFO p)) : s.reports p c t := by
  have hcount : (u.err p c m).fld (Reg.ERR_INFO p) 24 8 ≠ 0 := by
    rw [State.fld_err_count]
    omega
  rw [State.reports, (h.err_stands hcount).2, State.fld_err_code _ _ _ _ hc, State.fld_of_reg _ _ _ _ _ _ hu, State.fld_of_reg _ _ _ _ _ _ hu]

theorem irq_raise (s : State) (p i : Nat) (hi : i < 32) : (s.raise p i).irq p i := by
  rw [State.irq, State.bit_raise _ _ _ _ hi, decide_eq_true rfl, Bool.or_true]

/-! ## A lane's own state -/

/-- A view of every lane is in `t` as in `s`. -/
def LanesKeep {β : Type} (v : Lane → β) (s t : State) : Prop := t.rd.lanes.map v = s.rd.lanes.map v

theorem lane_setLane {s : State} {l : Nat} (h : l < s.rd.lanes.length) (x : Lane) : (s.setLane l x).lane l = x := by
  simp only [State.lane, State.setLane, State.setRd_rd, List.getD_eq_getElem?_getD, List.getElem?_set_self h, Option.getD_some]

namespace LanesKeep

variable {β : Type} {v : Lane → β} {s t u : State}

theorem refl (v : Lane → β) (s : State) : LanesKeep v s s := rfl
theorem of_lanes (h : t.rd.lanes = s.rd.lanes) : LanesKeep v s t := congrArg (List.map v) h
theorem trans (h : LanesKeep v s t) (h' : LanesKeep v t u) : LanesKeep v s u := Eq.trans h' h

theorem ite {c : Prop} [Decidable c] (h : LanesKeep v s t) (h' : LanesKeep v s u) : LanesKeep v s (if c then t else u) := by
  split <;> assumption

theorem foldl {α : Type} {f : State → α → State} (hf : ∀ s a, LanesKeep v s (f s a)) (l : List α) (s : State) :
    LanesKeep v s (l.foldl f s) := by
  induction l generalizing s with
  | nil => exact .refl v s
  | cons a l ih => exact (hf s a).trans (ih _)

theorem lane (h : LanesKeep v s t) (l : Nat) : v (t.lane l) = v (s.lane l) := by
  have hmap : ∀ u : State, v (u.lane l) = (u.rd.lanes.map v).getD l (v noLane) := fun u => by
    rw [State.lane, List.getD_map]
  rw [hmap, hmap, h]

theorem length (h : LanesKeep v s t) : t.rd.lanes.length = s.rd.lanes.length := by
  have hlen := congrArg List.length h
  rwa [List.length_map, List.length_map] at hlen

theorem setLane (s : State) (l : Nat) {x : Lane} (hx : v x = v (s.lane l)) : LanesKeep v s (s.setLane l x) := by
  rw [LanesKeep, State.setLane, State.setRd_rd, List.map_set, hx]
  refine List.ext_getElem? fun i => ?_
  by_cases hi : l = i
  · subst hi
    rw [List.getElem?_set_self', List.getElem?_map, State.lane, List.getD_eq_getElem?_getD]
    cases s.rd.lanes[l]? <;> rfl
  · rw [List.getElem?_set_ne hi]

end LanesKeep

/-! ## The loops (R57, R65, R66, R69) -/

/-- Registers show the loops' state. -/
def loopNumbers (s : State) (l : Nat) (q : Loop) : State :=
  let s := s.setFld (Reg.RFL_AGC_STAT l) 0 12 (q.gain / 32768).toNat
  let s := (List.range 15).foldl (fun s k => s.setFld (Reg.RFL_EQ_TAP l k) 0 16 (bitsOf 16 (q.taps.getD k 0 / 2147483648))) s
  let s := s.setFld (Reg.RFL_TR_STAT l) 0 16 (bitsOf 16 (q.freq / 262144))
  s.setFld (Reg.RFL_TR_STAT l) 16 6 (q.phase / 1024 % 64)

/-- Registers and lane show the loops' state. -/
def loopShown (s : State) (l : Nat) (q : Loop) : State :=
  let s := loopNumbers s l q
  s.setLane l { s.lane l with
    xs := q.xs, dec := q.dec, gainFrac := (q.gain % 32768).toNat, tapFrac := q.taps.map (fun t => (t % 2147483648).toNat),
    phase := q.phase, freq := q.freq, fast := q.fast }

theorem putLoop_eq (s : State) (l : Nat) (q : Loop) : putLoop s l q = if q.fsat then
    (((loopShown s l q).setBit (Reg.RFL_TR_STAT l) 24 true).raise (pgRFL l) 5).err (pgRFL l) 0x0005 l else loopShown s l q := rfl

/-- The registers that show loop k of a lane. -/
theorem gainOffs_out {l : Nat} (hl : l < 4) : laneOut gainOffs l (Reg.RFL_AGC_STAT l) ∧ laneOut gainOffs l (Reg.RFL_TR_STAT l) ∧
    ∀ k < 15, laneOut gainOffs l (Reg.RFL_EQ_TAP l k) :=
  (by decide : ∀ l < 4, laneOut gainOffs l (Reg.RFL_AGC_STAT l) ∧ laneOut gainOffs l (Reg.RFL_TR_STAT l) ∧
    ∀ k < 15, laneOut gainOffs l (Reg.RFL_EQ_TAP l k)) l hl

theorem logOffs_out {l : Nat} (hl : l < 4) : laneOut loopOffs l (Reg.IRQ_RAW (pgRFL l)) ∧ laneOut loopOffs l (Reg.IRQ_STAT (pgRFL l)) ∧
    laneOut loopOffs l (Reg.ERR_INFO (pgRFL l)) ∧ laneOut loopOffs l (Reg.RFL_TR_STAT l) :=
  (by decide : ∀ l < 4, laneOut loopOffs l (Reg.IRQ_RAW (pgRFL l)) ∧ laneOut loopOffs l (Reg.IRQ_STAT (pgRFL l)) ∧
    laneOut loopOffs l (Reg.ERR_INFO (pgRFL l)) ∧ laneOut loopOffs l (Reg.RFL_TR_STAT l)) l hl

section
variable {l : Nat} (hl : l < 4)
include hl

theorem loopShown_kept (s : State) (q : Loop) : RegsKept (laneOut gainOffs l) s (loopShown s l q) := by
  obtain ⟨hagc, htr, htap⟩ := gainOffs_out hl
  exact (((((RegsKept.refl _ s).setFld hagc _ _ _).trans
    (.foldl (fun s k hk => (RegsKept.refl _ s).setFld (htap k (List.mem_range.mp hk)) _ _ _) _)).setFld htr _ _ _).setFld htr _ _ _).setLane l _

theorem putLoop_kept (s : State) (q : Loop) : RegsKept (laneOut loopOffs l) s (putLoop s l q) := by
  obtain ⟨hraw, hstat, herr, htr⟩ := logOffs_out hl
  have h := (loopShown_kept hl s q).widen (M := loopOffs)
  rw [putLoop_eq]
  exact .ite (((h.setBit htr _ _).raise hraw hstat _).err herr _ _) h

theorem putLoop_logs (s : State) (q : Loop) : Logs (pgRFL l) s (putLoop s l q) := by
  obtain ⟨-, htr, -⟩ := gainOffs_out hl
  have h := loopShown_kept hl s q
  rw [putLoop_eq]
  exact .ite (((Logs.of_kept (h.setBit htr _ _) hl).raise 5 (by decide)).err 0x0005 l (by decide)) (.of_kept h hl)

end

theorem loopNumbers_rd (s : State) (l : Nat) (q : Loop) : (loopNumbers s l q).rd = s.rd := by
  rw [loopNumbers, State.setFld_rd, State.setFld_rd]
  exact keep_foldl (g := State.rd) (fun s k => State.setFld_rd s ..) _ (State.setFld_rd s ..)

theorem loopShown_lanes {β : Type} {v : Lane → β}
    (hv : ∀ x xs dec gf tf ph fr fa, v { x with xs := xs, dec := dec, gainFrac := gf, tapFrac := tf, phase := ph, freq := fr, fast := fa } = v x)
    (s : State) (l : Nat) (q : Loop) : LanesKeep v s (loopShown s l q) := by
  refine .trans (.of_lanes ?_) (.setLane (loopNumbers s l q) l (hv ..))
  rw [loopNumbers_rd]

theorem putLoop_lanes {β : Type} {v : Lane → β}
    (hv : ∀ x xs dec gf tf ph fr fa, v { x with xs := xs, dec := dec, gainFrac := gf, tapFrac := tf, phase := ph, freq := fr, fast := fa } = v x)
    (s : State) (l : Nat) (q : Loop) : LanesKeep v s (putLoop s l q) := by
  rw [putLoop_eq]
  exact .ite ((loopShown_lanes hv s l q).trans (.of_lanes (by rw [State.err_rd, State.raise_rd, State.setBit_rd]))) (loopShown_lanes hv s l q)

/-! ## A frame passes (R65 to R71, R76 to R79) -/

/-- A lane but for what each frame changes. -/
def Lane.core (x : Lane) : Lane :=
  { x with frames := [], expect := (0, 0), buf := [], xs := [], dec := [], last8 := [], prev := none, gainFrac := 0, tapFrac := [],
           phase := 0, freq := 0, fast := 0, pay := [] }

theorem ringWrite_memOnly (s : State) (l g pos f n : Nat) (w : List Nat) : MemOnly memRegs s (ringWrite s l g pos f n w) := by
  unfold ringWrite
  split
  · exact .ite (.refl _ s) (memWrite_memOnly ..)
  · exact .refl _ s

theorem ringFrame_memOnly (s : State) (l g pos f : Nat) (full : List Nat) : MemOnly memRegs s (ringFrame s l g pos f full) := by
  unfold ringFrame
  dsimp only
  split
  · exact (ringWrite_memOnly ..).trans (ringWrite_memOnly ..)
  · exact ringWrite_memOnly ..

/-- The lane's loops have run over the frame's samples. -/
def frameLooped (s : State) (l : Nat) (o : Int) (flyw era : Bool) : Loop × List Int :=
  let st := lstate s l
  runLoop s l (if st == 2 || st == 3 || st == 4 then
      ⟨2, 2, s.bit (Reg.RFL_EQ_CTRL l) 0 && !s.bit (Reg.RFL_EQ_CTRL l) 16 && st == 3 && !flyw && !era⟩ else ⟨0, 0, false⟩)
    (((s.lane l).buf.drop 40).take (1472 + o).toNat) (loopOf s l)

/-- The loops' outcome is in registers, lane and quality sums. -/
def frameShown (s : State) (l : Nat) (o : Int) (flyw era : Bool) : State :=
  let r := frameLooped s l o flyw era
  let u := putLoop s l r.1
  if lstate s l = 3 ∧ !flyw ∧ !era then u.setRd { u.rd with rfq := (u.rd.rfq.1 + r.1.err.1, u.rd.rfq.2 + r.1.err.2) } else u

/-- The words of a frame from 8 before its predicted sync on. -/
def frameWords (s : State) (l : Nat) (o : Int) (flyw era : Bool) : List Nat :=
  List.replicate (8 - (s.lane l).last8.length) 0x8000 ++ (s.lane l).last8 ++
    laneWords era flyw (((s.lane l).buf.drop 40).take (1472 + o).toNat) (frameLooped s l o flyw era).2

/-- The lane after the frame. -/
def frameLane (s u : State) (l g pos f : Nat) (acc : Bool) (o : Int) (d : Nat) (flyw era : Bool) : Lane :=
  let x := s.lane l
  let y := u.lane l
  let full := frameWords s l o flyw era
  let dec := ((x.buf.drop 32).take 1488).map (·.a)
  let at0 := (40 + o).toNat
  { y with
    frames := (if f = 0 then [] else y.frames) ++ [⟨f, acc, o, d, flyw, era, dec⟩]
    buf := y.buf.drop (1472 + o).toNat, last8 := full.drop (full.length - 8), prev := some (g, pos, f, o), expect := nextFrame x.expect
    pay := if laneActive u l then y.pay ++ [⟨g, pos, f, (full.drop at0).take 1440, (dec.drop at0).take 1440, dec.getD (at0 - 1) false⟩]
      else y.pay }

/-- The ring slot of a position holds the lane's frames. -/
def frameRing (l g pos : Nat) (frames : List FrameRec) (ring : List RingSlot) : List RingSlot :=
  ring.map (fun r => if r.group = g ∧ r.pos = pos then { r with frames := r.frames.filter (fun q => q.1 != l) ++ [(l, frames)] } else r)

theorem passFrame_eq (s : State) (l g pos f : Nat) (acc : Bool) (o : Int) (d : Nat) (flyw era : Bool) :
    passFrame s l g pos f acc o d flyw era =
      let u := ringFrame (frameShown s l o flyw era) l g pos f (frameWords s l o flyw era)
      let y := frameLane s u l g pos f acc o d flyw era
      (u.setLane l y).setRd { (u.setLane l y).rd with ring := frameRing l g pos y.frames (u.setLane l y).rd.ring } := rfl

end Sys2Proof.Machine
end

section
/-! What a frame, a lane's FAULT and its converters leave (O20). -/
namespace Sys2Proof.Machine

/-! ## A frame passes -/

theorem memOnly_laneOut {s t : State} (h : MemOnly memRegs s t) (L : List Nat) (l : Nat) : RegsKept (laneOut L l) s t :=
  (RegsKept.of_memOnly h).mono fun _ ha => .inl (by omega)

theorem frameShown_kept {l : Nat} (hl : l < 4) (s : State) (o : Int) (flyw era : Bool) :
    RegsKept (laneOut loopOffs l) s (frameShown s l o flyw era) :=
  .ite ((putLoop_kept hl s _).setRd _) (putLoop_kept hl s _)

theorem frameShown_logs {l : Nat} (hl : l < 4) (s : State) (o : Int) (flyw era : Bool) : Logs (pgRFL l) s (frameShown s l o flyw era) :=
  .ite ((putLoop_logs hl s _).trans (.of_regs rfl rfl)) (putLoop_logs hl s _)

theorem frameShown_lanes (s : State) (l : Nat) (o : Int) (flyw era : Bool) : LanesKeep Lane.core s (frameShown s l o flyw era) := by
  have h : LanesKeep Lane.core s (putLoop s l (frameLooped s l o flyw era).1) := putLoop_lanes (fun _ _ _ _ _ _ _ _ => rfl) s l _
  exact .ite (h.trans (.of_lanes rfl)) h

theorem frameLane_core (s u : State) (l g pos f : Nat) (acc : Bool) (o : Int) (d : Nat) (flyw era : Bool) :
    (frameLane s u l g pos f acc o d flyw era).core = (u.lane l).core := rfl

theorem frameLane_expect (s u : State) (l g pos f : Nat) (acc : Bool) (o : Int) (d : Nat) (flyw era : Bool) :
    (frameLane s u l g pos f acc o d flyw era).expect = nextFrame (s.lane l).expect := rfl

section
variable (s : State) (l g pos f : Nat) (acc : Bool) (o : Int) (d : Nat) (flyw era : Bool)

theorem passFrame_kept (hl : l < 4) : RegsKept (laneOut loopOffs l) s (passFrame s l g pos f acc o d flyw era) := by
  rw [passFrame_eq]
  exact (((frameShown_kept hl s o flyw era).trans (memOnly_laneOut (ringFrame_memOnly ..) _ _)).setLane l _).setRd _

theorem passFrame_logs (hl : l < 4) : Logs (pgRFL l) s (passFrame s l g pos f acc o d flyw era) := by
  rw [passFrame_eq]
  exact (frameShown_logs hl s o flyw era).trans
    (.of_kept (L := []) (((memOnly_laneOut (ringFrame_memOnly ..) _ _).setLane l _).setRd _) hl)

theorem passFrame_lanes : LanesKeep Lane.core s (passFrame s l g pos f acc o d flyw era) := by
  rw [passFrame_eq]
  exact (((frameShown_lanes s l o flyw era).trans (.of_lanes (by rw [(ringFrame_memOnly ..).rd]))).trans
    (.setLane _ l (frameLane_core ..))).trans (.of_lanes rfl)

theorem passFrame_expect (hs : l < s.rd.lanes.length) :
    ((passFrame s l g pos f acc o d flyw era).lane l).expect = nextFrame (s.lane l).expect := by
  rw [passFrame_eq, ← frameLane_expect s (ringFrame (frameShown s l o flyw era) l g pos f (frameWords s l o flyw era)) l g pos f acc o d flyw era]
  refine congrArg Lane.expect (lane_setLane ?_ _)
  rwa [(ringFrame_memOnly ..).rd, (frameShown_lanes s l o flyw era).length]

end

/-! ## Lanes in service, and the write path's share of a lost lane (R84, R107, R142) -/

theorem RegsKept.beyond {s t : State} (h : RegsKept (0x4000E000 ≤ ·) s t) (L : List Nat) (l : Nat) : RegsKept (laneOut L l) s t :=
  h.mono fun _ ha => .inl ha

theorem laneLeft_kept (s : State) (l : Nat) : RegsKept (0x4000E000 ≤ ·) s (laneLeft s l) :=
  .ite (.refl _ s) (((RegsKept.refl _ s).setRd _).raise (by decide) (by decide) _)

theorem laneLeft_lanes (s : State) (l : Nat) : (laneLeft s l).rd.lanes = s.rd.lanes := by
  unfold laneLeft
  dsimp only
  split
  · rfl
  · rw [State.raise_rd, State.setRd_rd]

theorem laneActUpdate_kept (s : State) : RegsKept (0x4000E000 ≤ ·) s (laneActUpdate s) :=
  ((RegsKept.refl _ s).setReg (by decide) _).trans (.foldl (fun s l _ => laneLeft_kept s l) _)

theorem laneActUpdate_lanes (s : State) : (laneActUpdate s).rd.lanes = s.rd.lanes :=
  keep_foldl (g := fun s => s.rd.lanes) laneLeft_lanes _ rfl

theorem vqPut_kept (s : State) (rec : List Nat) : RegsKept (0x4000E000 ≤ ·) s (vqPut s rec) :=
  .ite (((RegsKept.of_memOnly (memWrite_memOnly ..)).mono fun _ ha => by omega).setFld (by decide) _ _ _)
    (((RegsKept.refl _ s).setW _).raise (by decide) (by decide) _)

theorem vqPut_rd (s : State) (rec : List Nat) : (vqPut s rec).rd = s.rd := by
  unfold vqPut vqStore
  dsimp only
  split
  · rw [State.setFld_rd, memWrite_rd]
  · rw [State.raise_rd, State.setW_rd]

theorem giveVerdict_kept (s : State) (a : Arm) (verdict cause : Nat) : RegsKept (0x4000E000 ≤ ·) s (giveVerdict s a verdict cause) :=
  (((vqPut_kept s _).raise (by decide) (by decide) _).setW _).setW _

theorem giveVerdict_rd (s : State) (a : Arm) (verdict cause : Nat) : (giveVerdict s a verdict cause).rd = s.rd := by
  unfold giveVerdict
  dsimp only
  rw [State.setW_rd, State.setW_rd, State.raise_rd, vqPut_rd]

theorem voidFront_kept (s : State) (cause : Nat) : RegsKept (0x4000E000 ≤ ·) s (voidFront s cause) := by
  unfold voidFront posIdle
  dsimp only
  split
  · exact .refl _ s
  · exact ((((((RegsKept.refl _ s).setW _).setReg (by decide) _).addSat (by decide) _ _ _).raise (by decide) (by decide) _).err
      (by decide) _ _).trans (giveVerdict_kept ..)

theorem voidFront_rd (s : State) (cause : Nat) : (voidFront s cause).rd = s.rd := by
  unfold voidFront posIdle
  dsimp only
  split
  · rfl
  · rw [giveVerdict_rd, State.err_rd, State.raise_rd, State.addSat_rd, State.setReg_rd, State.setW_rd]

theorem drawGrade_kept (s : State) (psa sidx : Nat) (good equal : Bool) (iters raw : Nat) :
    RegsKept (0x4000E000 ≤ ·) s (drawGrade s psa sidx good equal iters raw) := by
  unfold drawGrade
  dsimp only
  split <;> exact ((RegsKept.refl _ s).setW _).addSat (by decide) _ _ _

theorem drawGrade_rd (s : State) (psa sidx : Nat) (good equal : Bool) (iters raw : Nat) :
    (drawGrade s psa sidx good equal iters raw).rd = s.rd := by
  unfold drawGrade
  dsimp only
  split <;> rw [State.addSat_rd, State.setW_rd]

theorem failShare_kept (s : State) (a : Arm) (n c : Nat) : RegsKept (0x4000E000 ≤ ·) s (failShare s a n c) :=
  .foldl (fun s _ _ => .ite (drawGrade_kept ..) (.refl _ s)) s

theorem failShare_rd (s : State) (a : Arm) (n c : Nat) : (failShare s a n c).rd = s.rd := by
  refine keep_foldl (g := State.rd) (fun s p => ?_) _ rfl
  dsimp only
  split
  · exact drawGrade_rd ..
  · rfl

theorem writeChannelLost_kept (s : State) (l : Nat) : RegsKept (0x4000E000 ≤ ·) s (writeChannelLost s l) := by
  unfold writeChannelLost
  split
  · exact .ite ((((RegsKept.refl _ s).setW _).trans (failShare_kept ..)).trans (voidFront_kept ..)) (.refl _ s)
  · exact .refl _ s

theorem writeChannelLost_rd (s : State) (l : Nat) : (writeChannelLost s l).rd = s.rd := by
  unfold writeChannelLost
  split
  · split
    · rw [voidFront_rd, failShare_rd, State.setW_rd]
    · rfl
  · rfl

/-! ## FAULT (R80) -/

/-- What a lane's FAULT shows in the lane's page. -/
abbrev faultOffs : List Nat := [0x08, 0x6C] ++ logOffs

/-- A lane's state and the two registers that show it. -/
theorem stateOffs_out {l : Nat} (hl : l < 4) : laneOut [0x08, 0x6C] l (Reg.STAT (pgRFL l)) ∧ laneOut [0x08, 0x6C] l (Reg.RFL_SYNC_STAT l) :=
  (by decide : ∀ l < 4, laneOut [0x08, 0x6C] l (Reg.STAT (pgRFL l)) ∧ laneOut [0x08, 0x6C] l (Reg.RFL_SYNC_STAT l)) l hl

theorem setLstate_kept {l : Nat} (hl : l < 4) (s : State) (n : Nat) : RegsKept (laneOut [0x08, 0x6C] l) s (s.setLstate l n) :=
  ((RegsKept.refl _ s).setFld (stateOffs_out hl).1 _ _ _).setFld (stateOffs_out hl).2 _ _ _

theorem setLstate_rd (s : State) (l n : Nat) : (s.setLstate l n).rd = s.rd := by rw [State.setLstate, State.setFld_rd, State.setFld_rd]

theorem lstate_setLstate (s : State) (l : Nat) {n : Nat} (hn : n < 8) : lstate (s.setLstate l n) l = n := by
  have hne : Reg.RFL_SYNC_STAT l ≠ Reg.STAT (pgRFL l) := by simp only [Reg.RFL_SYNC_STAT, Reg.STAT, pgRFL]; omega
  rw [lstate, State.setLstate, State.fld_setFld_ne _ _ _ _ _ _ _ _ hne, State.fld_setFld_same _ _ _ _ _ (by decide)]
  exact Nat.mod_eq_of_lt hn

theorem syncRun_setLstate (s : State) (l n : Nat) : (s.setLstate l n).fld (Reg.RFL_SYNC_STAT l) 0 2 = s.fld (Reg.RFL_SYNC_STAT l) 0 2 := by
  have hne : Reg.STAT (pgRFL l) ≠ Reg.RFL_SYNC_STAT l := by simp only [Reg.RFL_SYNC_STAT, Reg.STAT, pgRFL]; omega
  rw [State.setLstate, State.fld_setFld_below _ _ _ _ _ _ _ (by decide) (by decide), State.fld_setFld_ne _ _ _ _ _ _ _ _ hne]

/-- The state after a lane that is not in FAULT has entered it, before its end of the write path is seen to. -/
def faultShown (s : State) (l : Nat) : State :=
  let s := ((s.setLstate l 6).raise (pgRFL l) 6).err (pgRFL l) 0x0006 l
  let s := (laneActUpdate (s.report (pgRFL l) 0x0006 15 [])).raise pgDSK 3
  s.setLane l { s.lane l with faultCleared := false, outRun := 0, locked := false, stopped := false }

theorem laneFault_eq (s : State) (l : Nat) : laneFault s l = if lstate s l = 6 then s else writeChannelLost (faultShown s l) l := rfl

section
variable {l : Nat} (hl : l < 4)
include hl

theorem faultShown_kept (s : State) : RegsKept (laneOut faultOffs l) s (faultShown s l) := by
  obtain ⟨hraw, hstat, herr⟩ := (by decide : ∀ l < 4, laneOut faultOffs l (Reg.IRQ_RAW (pgRFL l)) ∧
    laneOut faultOffs l (Reg.IRQ_STAT (pgRFL l)) ∧ laneOut faultOffs l (Reg.ERR_INFO (pgRFL l))) l hl
  exact (((((((setLstate_kept hl s 6).widen).raise hraw hstat _).err herr _ _).report _ _ _ _).trans
    ((laneActUpdate_kept _).beyond _ _)).raise (.inl (by decide)) (.inl (by decide)) _).setLane l _

theorem laneFault_kept (s : State) : RegsKept (laneOut faultOffs l) s (laneFault s l) := by
  rw [laneFault_eq]
  exact .ite (.refl _ s) ((faultShown_kept hl s).trans ((writeChannelLost_kept _ l).beyond _ _))

theorem faultShown_logs (s : State) : Logs (pgRFL l) s (faultShown s l) :=
  ((((Logs.of_kept (setLstate_kept hl s 6) hl).raise 6 (by decide)).err 0x0006 l (by decide))).trans
    (.of_kept (L := []) ((((((RegsKept.refl _ _).report _ _ _ _).trans ((laneActUpdate_kept _).beyond _ _)).raise
      (.inl (by decide)) (.inl (by decide)) _)).setLane l _) hl)

theorem laneFault_logs (s : State) : Logs (pgRFL l) s (laneFault s l) := by
  rw [laneFault_eq]
  exact .ite (.refl _ s) ((faultShown_logs hl s).trans (.of_kept (L := []) ((writeChannelLost_kept _ l).beyond _ _) hl))

theorem lstate_laneFault (s : State) : lstate (laneFault s l) l = 6 := by
  rw [laneFault_eq]
  split
  · assumption
  · have hrest : RegsKept (laneOut logOffs l) (s.setLstate l 6) (writeChannelLost (faultShown s l) l) := by
      obtain ⟨hraw, hstat, herr⟩ := (by decide : ∀ l < 4, laneOut logOffs l (Reg.IRQ_RAW (pgRFL l)) ∧
        laneOut logOffs l (Reg.IRQ_STAT (pgRFL l)) ∧ laneOut logOffs l (Reg.ERR_INFO (pgRFL l))) l hl
      exact (((((((RegsKept.refl _ _).raise hraw hstat _).err herr _ _).report _ _ _ _).trans
        ((laneActUpdate_kept _).beyond _ _)).raise (.inl (by decide)) (.inl (by decide)) _).setLane l _).trans ((writeChannelLost_kept _ l).beyond _ _)
    exact (hrest.lstate hl).trans (lstate_setLstate s l (by decide))

end

theorem faultShown_lanes {β : Type} {v : Lane → β} (hv : ∀ x, v { x with faultCleared := false, outRun := 0, locked := false, stopped := false } = v x)
    (s : State) (l : Nat) : LanesKeep v s (faultShown s l) := by
  refine .trans (.of_lanes ?_) (.setLane _ l (hv _))
  rw [State.raise_rd, laneActUpdate_lanes, State.report_rd, State.err_rd, State.raise_rd, setLstate_rd]

theorem laneFault_lanes {β : Type} {v : Lane → β} (hv : ∀ x, v { x with faultCleared := false, outRun := 0, locked := false, stopped := false } = v x)
    (s : State) (l : Nat) : LanesKeep v s (laneFault s l) := by
  rw [laneFault_eq]
  exact .ite (.refl v s) ((faultShown_lanes hv s l).trans (.of_lanes (by rw [writeChannelLost_rd])))

end Sys2Proof.Machine
end

section
/-! A lane's converters: the exchange of the spare, retirement, and what a turn may do to the lane (R58 to R61). -/
namespace Sys2Proof.Machine

/-! ## What a turn may do to the lane -/

/-- Registers from a lane's converters on, and the register that names its spare. -/
abbrev subOut (l a : Nat) : Prop := 0x4000A0C0 + 0x1000 * l ≤ a ∨ a = Reg.RFL_ADC_STAT l

/-- A lane stays in its state or enters FAULT, is not locked anew, and keeps its interrupts and its error. -/
structure Declines (l : Nat) (s t : State) : Prop where
  variant : t.variant = s.variant
  state : lstate t l = lstate s l ∨ lstate t l = 6
  unlocked : (s.lane l).locked = false → (t.lane l).locked = false
  logs : Logs (pgRFL l) s t

namespace Declines

variable {l : Nat} {s t u : State}

theorem refl (l : Nat) (s : State) : Declines l s s := ⟨rfl, .inl rfl, id, .refl _ s⟩

theorem trans (h : Declines l s t) (h' : Declines l t u) : Declines l s u :=
  ⟨h'.variant.trans h.variant, h'.state.elim (fun he => he ▸ h.state) .inr, h'.unlocked ∘ h.unlocked, h.logs.trans h'.logs⟩

theorem ite {c : Prop} [Decidable c] (h : Declines l s t) (h' : Declines l s u) : Declines l s (if c then t else u) := by
  split <;> assumption

theorem foldl {α : Type} {f : State → α → State} (hf : ∀ s a, Declines l s (f s a)) (as : List α) (s : State) :
    Declines l s (as.foldl f s) := by
  induction as generalizing s with
  | nil => exact .refl l s
  | cons a as ih => exact (hf s a).trans (ih _)

/-- A change of registers of the converters and of what the lane holds of them. -/
theorem of_kept (h : RegsKept (subOut l) s t) (hl : l < 4) (hlanes : LanesKeep Lane.locked s t) : Declines l s t := by
  have hreg := (by decide : ∀ l < 4, ¬subOut l (Reg.STAT (pgRFL l)) ∧ ¬subOut l (Reg.IRQ_RAW (pgRFL l)) ∧
    ¬subOut l (Reg.ERR_INFO (pgRFL l))) l hl
  obtain ⟨hstat, hraw, herr⟩ := hreg
  exact ⟨h.variant, .inl (State.fld_of_reg _ _ _ _ _ _ (h.reg _ hstat)), fun hs => (hlanes.lane l).trans hs, .of_regs (h.reg _ hraw) (h.reg _ herr)⟩

end Declines

/-- A lane that is not locked, one that does not exist included. -/
theorem unlocked_setLane {s : State} {l : Nat} {x : Lane} (hx : x.locked = false) : ((s.setLane l x).lane l).locked = false := by
  by_cases h : l < s.rd.lanes.length
  · rw [lane_setLane h, hx]
  · rw [State.lane, State.setLane, State.setRd_rd, List.getD_eq_default _ _ (by rw [List.length_set]; omega)]
    rfl

theorem laneFault_declines {l : Nat} (hl : l < 4) (s : State) : Declines l s (laneFault s l) := by
  refine ⟨(laneFault_kept hl s).variant, .inr (lstate_laneFault hl s), fun hs => ?_, laneFault_logs hl s⟩
  rw [laneFault_eq]
  split
  · exact hs
  · rw [State.lane, writeChannelLost_rd]
    exact unlocked_setLane rfl

/-! ## Retirement -/

/-- A converter is shown as retired. -/
def retireShown (l : Nat) (s : State) (k : Nat) : State :=
  let s := if spareOf s l = some k then s.setFld (Reg.RFL_ADC_STAT l) 0 4 15 else s
  (s.setReg (Reg.RFL_SUB_STAT l k) 2#32).setBit (Reg.RFL_ADC_STAT l) (4 + k) true

theorem retireNow_eq (l : Nat) (s : State) (k : Nat) : retireNow l s k =
    if 2 ≤ popcount39 ((retireShown l s k).fld (Reg.RFL_ADC_STAT l) 4 9) then laneFault (retireShown l s k) l else retireShown l s k := rfl

theorem subStat_out (l k : Nat) : subOut l (Reg.RFL_SUB_STAT l k) := .inl (by simp only [Reg.RFL_SUB_STAT]; omega)

theorem retireShown_kept (l : Nat) (s : State) (k : Nat) : RegsKept (subOut l) s (retireShown l s k) :=
  ((RegsKept.ite ((RegsKept.refl _ s).setFld (.inr rfl) _ _ _) (.refl _ s)).setReg (subStat_out l k) _).setBit (.inr rfl) _ _

theorem retireShown_rd (l : Nat) (s : State) (k : Nat) : (retireShown l s k).rd = s.rd := by
  unfold retireShown
  dsimp only
  split <;> simp only [State.setBit_rd, State.setReg_rd, State.setFld_rd]

section
variable {l : Nat} (hl : l < 4)
include hl

theorem retireNow_declines (s : State) (k : Nat) : Declines l s (retireNow l s k) := by
  have h := Declines.of_kept (retireShown_kept l s k) hl (.of_lanes (by rw [retireShown_rd]))
  rw [retireNow_eq]
  exact .ite (h.trans (laneFault_declines hl _)) h

theorem retirePending_declines (s : State) : Declines l s (retirePending s l) := by
  unfold retirePending
  refine .ite (.refl l s) (.trans ?_ (.foldl (retireNow_declines hl) _ _))
  exact .of_kept ((RegsKept.refl _ s).setLane l _) hl (.setLane s l rfl)

theorem retireConverter_declines (s : State) (k : Nat) : Declines l s (retireConverter s l k) := by
  have hshown : Declines l s (((s.raise (pgRFL l) 3).err (pgRFL l) 0x0002 k).report (pgRFL l) 0x0002 15 []) := by
    have hkept := (((RegsKept.refl (laneOut logOffs l) s).raise (p := pgRFL l) ((by decide : ∀ l < 4, laneOut logOffs l (Reg.IRQ_RAW (pgRFL l))) l hl)
      ((by decide : ∀ l < 4, laneOut logOffs l (Reg.IRQ_STAT (pgRFL l))) l hl) 3).err
      ((by decide : ∀ l < 4, laneOut logOffs l (Reg.ERR_INFO (pgRFL l))) l hl) 0x0002 k).report (pgRFL l) 0x0002 15 []
    refine ⟨hkept.variant, .inl (hkept.lstate hl), fun h => ?_, ((((Logs.refl _ s).raise 3 (by decide)).err 0x0002 k (by decide))).trans (.of_regs rfl rfl)⟩
    rw [State.lane, State.report_rd, State.err_rd, State.raise_rd]
    exact h
  unfold retireConverter
  dsimp only
  refine .ite (.refl l s) (hshown.trans (.ite ((retireNow_declines hl _ k).trans (retirePending_declines hl _)) ?_))
  exact .of_kept ((RegsKept.refl _ _).setLane l _) hl (.setLane _ l rfl)

end

/-! ## Targets (R293 to R296) -/

/-- The registers that hold the targets of a converter and follow them. -/
abbrev subTargetRegs (l k a : Nat) : Prop := 0x4000A0C4 + 0x1000 * l + 64 * k ≤ a ∧ a ≤ 0x4000A0D8 + 0x1000 * l + 64 * k

theorem calTarget_kept {P : Nat → Prop} (s : State) (g : Glided) (v : Int) (ha : P g.act) (ht : P (g.act + 4)) :
    RegsKept P s (calTarget s g v) := by
  unfold calTarget targetWritten setActive
  exact .ite ((((RegsKept.refl _ s).setReg ht _).setReg ha _).trans ⟨rfl, fun _ _ => rfl⟩) ((RegsKept.refl _ s).setReg ht _)

theorem calTarget_rd (s : State) (g : Glided) (v : Int) : (calTarget s g v).rd = s.rd := by
  unfold calTarget targetWritten
  split
  · rfl
  · rw [State.setReg_rd]

theorem subGlided_out (l k c : Nat) : subTargetRegs l k (subGlided l k c).act ∧ subTargetRegs l k ((subGlided l k c).act + 4) := by
  simp only [subGlided, Reg.RFL_SUB_OFS, Reg.RFL_SUB_GAIN, Reg.RFL_SUB_SKEW, subTargetRegs]
  split
  · omega
  · split <;> omega

theorem writeSubTargets_kept (s : State) (l k : Nat) (traced : Bool) (ofs gain skew : Int) :
    RegsKept (subTargetRegs l k) s (writeSubTargets s l k traced ofs gain skew) := by
  have h : ∀ (s : State) (c : Nat) (v : Int), RegsKept (subTargetRegs l k) s (calTarget s (subGlided l k c) v) :=
    fun s c v => calTarget_kept s _ v (subGlided_out l k c).1 (subGlided_out l k c).2
  exact .trans (.ite ((h s 0 ofs).trans (h _ 1 gain)) (.refl _ s)) (h _ 2 skew)

theorem writeSubTargets_rd (s : State) (l k : Nat) (traced : Bool) (ofs gain skew : Int) :
    (writeSubTargets s l k traced ofs gain skew).rd = s.rd := by
  unfold writeSubTargets
  dsimp only
  split <;> simp only [calTarget_rd]

/-! ## The exchange (R58) -/

/-- The spare has taken a slot over, and the converter there is the spare. -/
def swapped (s : State) (l slot p k : Nat) : State :=
  let s := s.setReg (Reg.RFL_SUB_STAT l p) (Word.ofNat (slot * 16))
  let s := (s.setReg (Reg.RFL_SUB_STAT l k) 1#32).setFld (Reg.RFL_ADC_STAT l) 0 4 k
  s.addMod (Reg.RFL_ADC_STAT l) 16 8 1

theorem swapped_rd (s : State) (l slot p k : Nat) : (swapped s l slot p k).rd = s.rd := by
  simp only [swapped, State.addMod_rd, State.setFld_rd, State.setReg_rd]

theorem swapped_kept (s : State) (l slot p k : Nat) : RegsKept (subOut l) s (swapped s l slot p k) :=
  ((((RegsKept.refl _ s).setReg (subStat_out l p) _).setReg (subStat_out l k) _).setFld (.inr rfl) _ _ _).addMod (.inr rfl) _ _ _

section
variable {s : State} {l slot p k : Nat} (hsp : spareOf s l = some p) (hk : slotConverter s l slot = some k)
include hsp hk

theorem swapInto_swaps (hpend : k ∉ (s.lane l).retirePend) : swapInto s l slot = swapped s l slot p k := by
  have hlane : (swapped s l slot p k).lane l = s.lane l := by rw [State.lane, swapped_rd, State.lane]
  have hnot : ¬((swapped s l slot p k).lane l).retirePend.contains k = true := by
    rw [hlane, List.contains_iff_mem]
    exact hpend
  rw [swapped] at hnot
  simp only [swapInto, hsp, hk, if_neg hnot, swapped]

theorem swapInto_retires (hpend : k ∈ (s.lane l).retirePend) : swapInto s l slot =
    retirePending (retireNow l ((swapped s l slot p k).setLane l { s.lane l with retirePend := (s.lane l).retirePend.filter (· != k) }) k) l := by
  have hlane : (swapped s l slot p k).lane l = s.lane l := by rw [State.lane, swapped_rd, State.lane]
  have hyes : ((swapped s l slot p k).lane l).retirePend.contains k = true := by
    rw [hlane, List.contains_iff_mem]
    exact hpend
  rw [← hlane]
  rw [swapped] at hyes ⊢
  simp only [swapInto, hsp, hk, if_pos hyes]

end

theorem swapInto_without {s : State} {l slot : Nat} (h : spareOf s l = none ∨ slotConverter s l slot = none) : swapInto s l slot = s := by
  unfold swapInto
  split
  case h_1 hsp hk => rcases h with h | h <;> simp_all
  case h_2 => rfl

section
variable {l : Nat} (hl : l < 4)
include hl

theorem swapInto_declines (s : State) (slot : Nat) : Declines l s (swapInto s l slot) := by
  cases hsp : spareOf s l with
  | none => rw [swapInto_without (.inl hsp)]; exact .refl l s
  | some p =>
    cases hk : slotConverter s l slot with
    | none => rw [swapInto_without (.inr hk)]; exact .refl l s
    | some k =>
      by_cases hpend : k ∈ (s.lane l).retirePend
      · rw [swapInto_retires hsp hk hpend]
        refine .trans (.trans (.of_kept ((swapped_kept s l slot p k).setLane l _) hl ?_) (retireNow_declines hl _ k)) (retirePending_declines hl _)
        refine .trans (.of_lanes (by rw [swapped_rd])) (.setLane (swapped s l slot p k) l ?_)
        rw [State.lane, State.lane, swapped_rd]
      · rw [swapInto_swaps hsp hk hpend]
        exact .of_kept (swapped_kept s l slot p k) hl (.of_lanes (by rw [swapped_rd]))

/-- The state in which the spare's turn has given it its targets. -/
theorem targets_declines (s : State) (k : Nat) (traced : Bool) (m : Int × Int × Int) :
    Declines l s (writeSubTargets s l k traced m.1 m.2.1 m.2.2) :=
  .of_kept ((writeSubTargets_kept ..).mono fun _ ha => .inl (by omega)) hl (.of_lanes (by rw [writeSubTargets_rd]))

theorem rotateSpare_declines (s : State) (m : Int × Int × Int) : Declines l s (rotateSpare s l m) := by
  unfold rotateSpare
  split
  · exact .refl l s
  · split
    · exact retireConverter_declines hl s _
    · refine .trans (.trans ?_ (swapInto_declines hl _ _)) (.of_kept ((RegsKept.refl _ _).setLane l _) hl (.setLane _ l rfl))
      split
      · exact targets_declines hl s _ _ (spareTargets s l m)
      · exact .refl l s

theorem runDueSwap_declines (s : State) : Declines l s (runDueSwap s l) := by
  unfold runDueSwap
  split
  · refine .trans ?_ (rotateSpare_declines hl _ _)
    exact .of_kept ((RegsKept.refl _ s).setLane l _) hl (.setLane s l rfl)
  · exact .refl l s

end

end Sys2Proof.Machine
end

section
/-! One predicted sync of a lane, and what the lane's next state shows (R68 to R73). -/
namespace Sys2Proof.Machine

/-! ## What the next state shows of a lane -/

theorem lane_settled (s t : State) (l : Nat) : (s.settled t).lane l = t.lane l := by rw [State.lane, State.settled_rd, State.lane]

section
variable {s t : State} {l : Nat} (hp : lanePresent s l = true) (hv : t.variant = s.variant)
include hp hv

theorem lstate_settled : lstate (s.settled t) l = lstate t l :=
  State.fld_of_reg _ _ _ _ _ _ (settled_laneReg hp hv (fun l => Reg.STAT (pgRFL l)))

theorem irq_settled {i : Nat} (h : t.irq (pgRFL l) i) : (s.settled t).irq (pgRFL l) i :=
  (State.bit_of_reg _ _ _ _ _ (settled_laneReg hp hv (fun l => Reg.IRQ_RAW (pgRFL l)))).trans h

theorem laneReports_settled {c : Nat} (h : s.reports (pgRFL l) c t) : s.reports (pgRFL l) c (s.settled t) :=
  (State.fld_of_reg _ _ _ _ _ _ (settled_laneReg hp hv (fun l => Reg.ERR_INFO (pgRFL l)))).trans h

end

/-! ## Ring and skew (R77, R79, R84) -/

theorem ringStore_kept (s : State) (g pos : Nat) : RegsKept (0x4000E000 ≤ ·) s (ringStore s g pos) := by
  unfold ringStore
  dsimp only
  refine .ite (.refl _ s) (.ite ((RegsKept.refl _ s).setRd _) ?_)
  split
  · exact (((RegsKept.refl _ s).setRd _).setRd _).trans ((readCounts_kept _).mono fun a ha => by revert ha; revert a; decide)
  · exact (((RegsKept.refl _ s).setRd _).raise (by decide) (by decide) _).err (by decide) _ _

theorem ringStore_lanes (s : State) (g pos : Nat) : (ringStore s g pos).rd.lanes = s.rd.lanes := by
  unfold ringStore
  dsimp only
  split
  · rfl
  · split
    · rfl
    · split <;> simp only [readCounts_rd, State.setRd_rd, State.err_rd, State.raise_rd]

theorem laneSkew_beyond (l : Nat) : 0x4000E000 ≤ Reg.DSK_LANE_SKEW l := by simp only [Reg.DSK_LANE_SKEW]; omega

/-- The lane's skew and the largest so far. -/
def skewShown (s : State) (l skew : Nat) : State :=
  (s.setFld (Reg.DSK_LANE_SKEW l) 0 11 (min skew 2047)).setFld (Reg.DSK_LANE_SKEW l) 16 11
    (max (s.fld (Reg.DSK_LANE_SKEW l) 16 11) (min skew 2047))

theorem noteSkew_cases (s : State) (l skew : Nat) :
    noteSkew s l skew = ((skewShown s l skew).raise pgDSK 0).err pgDSK 0x0102 l ∨ noteSkew s l skew = skewShown s l skew := by
  by_cases h : (skewShown s l skew).fld Reg.DSK_CFG 16 11 < skew
  · exact .inl (if_pos h)
  · exact .inr (if_neg h)

theorem skewShown_kept (s : State) (l skew : Nat) : RegsKept (0x4000E000 ≤ ·) s (skewShown s l skew) :=
  ((RegsKept.refl _ s).setFld (laneSkew_beyond l) _ _ _).setFld (laneSkew_beyond l) _ _ _

theorem noteSkew_kept (s : State) (l skew : Nat) : RegsKept (0x4000E000 ≤ ·) s (noteSkew s l skew) := by
  rcases noteSkew_cases s l skew with h | h <;> rw [h]
  · exact ((skewShown_kept s l skew).raise (by decide) (by decide) _).err (by decide) _ _
  · exact skewShown_kept s l skew

theorem noteSkew_rd (s : State) (l skew : Nat) : (noteSkew s l skew).rd = s.rd := by
  rcases noteSkew_cases s l skew with h | h <;> rw [h]
  · rw [State.err_rd, State.raise_rd, skewShown, State.setFld_rd, State.setFld_rd]
  · rw [skewShown, State.setFld_rd, State.setFld_rd]

theorem noteSkew_shows (s : State) (l skew : Nat) : (noteSkew s l skew).fld (Reg.DSK_LANE_SKEW l) 0 11 = min skew 2047 := by
  have hshown : (skewShown s l skew).fld (Reg.DSK_LANE_SKEW l) 0 11 = min skew 2047 := by
    rw [skewShown, State.fld_setFld_below _ _ _ _ _ _ _ (by decide) (by decide), State.fld_setFld_same _ _ _ _ _ (by decide)]
    exact Nat.mod_eq_of_lt (by omega)
  have herr : Reg.ERR_INFO pgDSK ≠ Reg.DSK_LANE_SKEW l := by simp only [Reg.ERR_INFO, Reg.DSK_LANE_SKEW, pgDSK]; omega
  have hraw : Reg.IRQ_RAW pgDSK ≠ Reg.DSK_LANE_SKEW l := by simp only [Reg.IRQ_RAW, Reg.DSK_LANE_SKEW, pgDSK]; omega
  have hstat : Reg.IRQ_STAT pgDSK ≠ Reg.DSK_LANE_SKEW l := by simp only [Reg.IRQ_STAT, Reg.DSK_LANE_SKEW, pgDSK]; omega
  rcases noteSkew_cases s l skew with h | h <;> rw [h]
  · rw [State.fld_of_reg _ _ _ _ _ _ (State.reg_err_ne _ _ _ _ _ herr), State.fld_raise_ne _ _ _ _ _ _ hraw hstat, hshown]
  · exact hshown

/-! ## A sync is accepted (R70 to R72) -/

/-- The accepted sync shows in registers and lane. -/
def syncShown (s : State) (l : Nat) (o : Int) (d : Nat) : State :=
  let x := s.lane l
  let clean := lstate s l == 2 && x.marker && x.expect == (0, 0)
  ((s.setReg (Reg.RFL_SYNC_STAT l) (Word.ofNat (bitsOf 7 o * 16 + d % 32 * 4096))).setLane l
    { x with locked := true, marker := false, fast := 0, faultCleared := x.faultCleared && !clean }).setLstate l 3

/-- The lane is back in service, and its statistics run has started. -/
def syncTaken (s : State) (l : Nat) (o : Int) (d : Nat) : State :=
  let x := s.lane l
  let clean := lstate s l == 2 && x.marker && x.expect == (0, 0)
  let s := syncShown s l o d
  let s := if x.faultCleared && clean then laneActUpdate s else s
  if x.firstAcq then (s.setLane l { s.lane l with firstAcq := false }).setBit Reg.CAL_RUN l true else s

theorem acceptSync_eq (s : State) (l : Nat) (o : Int) (d : Nat) : acceptSync s l o d =
    if lstate s l = 2 ∨ lstate s l = 4 then runDueSwap (syncTaken s l o d) l else syncTaken s l o d := rfl

theorem syncTaken_after (s : State) (l : Nat) (o : Int) (d : Nat) : RegsKept (laneOut [] l) (syncShown s l o d) (syncTaken s l o d) := by
  have h : RegsKept (laneOut [] l) (syncShown s l o d) (if (s.lane l).faultCleared &&
      (lstate s l == 2 && (s.lane l).marker && (s.lane l).expect == (0, 0)) then laneActUpdate (syncShown s l o d) else syncShown s l o d) :=
    .ite ((laneActUpdate_kept _).beyond _ _) (.refl _ _)
  exact .ite ((h.setLane l _).setBit (.inl (by decide)) _ _) h

theorem syncTaken_lanes {β : Type} {v : Lane → β} (hv : ∀ x, v { x with firstAcq := false } = v x) (s : State) (l : Nat) (o : Int) (d : Nat) :
    LanesKeep v (syncShown s l o d) (syncTaken s l o d) := by
  have h : LanesKeep v (syncShown s l o d) (if (s.lane l).faultCleared &&
      (lstate s l == 2 && (s.lane l).marker && (s.lane l).expect == (0, 0)) then laneActUpdate (syncShown s l o d) else syncShown s l o d) :=
    .ite (.of_lanes (laneActUpdate_lanes _)) (.refl _ _)
  exact .ite ((h.trans (.setLane _ l (hv _))).trans (.of_lanes (by rw [State.setBit_rd]))) h

theorem syncShown_lane {s : State} {l : Nat} (hs : l < s.rd.lanes.length) (o : Int) (d : Nat) :
    (syncShown s l o d).lane l = { s.lane l with locked := true, marker := false, fast := 0, faultCleared := (s.lane l).faultCleared &&
      !(lstate s l == 2 && (s.lane l).marker && (s.lane l).expect == (0, 0)) } := by
  rw [syncShown, State.lane, setLstate_rd]
  exact lane_setLane (by rwa [State.setReg_rd]) _

theorem runDueSwap_idle {s : State} {l : Nat} (h : (s.lane l).swapDue = none) : runDueSwap s l = s := by simp only [runDueSwap, h]

section
variable {s : State} {l : Nat} (hs : l < s.rd.lanes.length)
include hs

/-- No swap waits, or the lane tracked: no converter turns with the sync. -/
theorem acceptSync_taken (h : lstate s l = 3 ∨ (s.lane l).swapDue = none) (o : Int) (d : Nat) : acceptSync s l o d = syncTaken s l o d := by
  rw [acceptSync_eq]
  split
  · next hwas =>
    have hnone := h.resolve_left (by omega)
    refine runDueSwap_idle (((syncTaken_lanes (v := Lane.swapDue) (fun _ => rfl) s l o d).lane l).trans ?_)
    rw [syncShown_lane hs]
    exact hnone
  · rfl

end

theorem syncRun_syncShown (s : State) (l : Nat) (o : Int) (d : Nat) : (syncShown s l o d).fld (Reg.RFL_SYNC_STAT l) 0 2 = 0 := by
  rw [syncShown, syncRun_setLstate, State.setLane, State.setRd_fld, State.fld, State.reg_setReg_same, fieldOf, Word.ofNat, BitVec.toNat_ofNat]
  omega

/-- A lane has locked on a sync, and its frame has passed. -/
structure Locks (l : Nat) (s t : State) : Prop where
  variant : t.variant = s.variant
  state : lstate t l = 3
  run : t.fld (Reg.RFL_SYNC_STAT l) 0 2 = 0
  locked : (t.lane l).locked = true
  expect : (t.lane l).expect = nextFrame (s.lane l).expect
  logs : Logs (pgRFL l) s t

section
variable {s : State} {l : Nat} (hl : l < 4)
include hl

theorem syncShown_kept (o : Int) (d : Nat) : RegsKept (laneOut [0x08, 0x6C] l) s (syncShown s l o d) :=
  ((((RegsKept.refl _ s).setReg (stateOffs_out hl).2 _)).setLane l _).trans (setLstate_kept hl _ 3)

theorem found_locks (hs : l < s.rd.lanes.length) (h : lstate s l = 3 ∨ (s.lane l).swapDue = none) (g pos f : Nat) (o : Int) (d : Nat) :
    Locks l s (passFrame (acceptSync s l o d) l g pos f true o d false false) := by
  rw [acceptSync_taken hs h]
  have hshown := syncShown_kept (s := s) hl o d
  have hafter := syncTaken_after s l o d
  have hpass := passFrame_kept (syncTaken s l o d) l g pos f true o d false false hl
  have hlanes := syncTaken_lanes (v := fun x => (x.locked, x.expect)) (fun _ => rfl) s l o d
  have hlane := hlanes.lane l
  rw [syncShown_lane hs] at hlane
  obtain ⟨hlocked, hexpect⟩ := Prod.mk.inj hlane
  have hlen : l < (syncTaken s l o d).rd.lanes.length := by
    rw [hlanes.length, syncShown, setLstate_rd, (LanesKeep.setLane (v := fun _ => ()) _ l rfl).length]
    rwa [State.setReg_rd]
  have hcore := (passFrame_lanes (syncTaken s l o d) l g pos f true o d false false).lane l
  constructor
  case variant => rw [hpass.variant, hafter.variant, hshown.variant]
  case state =>
    rw [hpass.lstate hl, hafter.lstate hl]
    exact lstate_setLstate _ l (by decide)
  case run =>
    rw [State.fld_of_reg _ _ _ _ _ _ (hpass.laneReg hl Reg.RFL_SYNC_STAT), State.fld_of_reg _ _ _ _ _ _ (hafter.laneReg hl Reg.RFL_SYNC_STAT)]
    exact syncRun_syncShown s l o d
  case locked => exact (congrArg Lane.locked hcore).trans hlocked
  case expect => rw [passFrame_expect _ _ _ _ _ _ _ _ _ _ hlen, hexpect]
  case logs => exact ((Logs.of_kept hshown hl).trans (.of_kept hafter hl)).trans (passFrame_logs _ _ _ _ _ _ _ _ _ _ hl)

end

end Sys2Proof.Machine
end

section
/-! The frames of a lane that acquires, tracks, re-acquires or is out of lock (R68 to R75). -/
namespace Sys2Proof.Machine

/-! ## Re-acquisition and loss of lock (R72, R73, R80) -/

/-- A lane that re-acquires shows its state and has four searches left. -/
def reacqShown (s : State) (l : Nat) : State := ((s.setLstate l 4).raise (pgRFL l) 1).addSat (Reg.RFL_SYNC_CNT l) 8 8 1

theorem goReacq_eq (s : State) (l : Nat) :
    goReacq s l = (reacqShown s l).setLane l { (reacqShown s l).lane l with reacqLeft := 4, marker := false, fast := 512 } := rfl

theorem reacqShown_rd (s : State) (l : Nat) : (reacqShown s l).rd = s.rd := by
  rw [reacqShown, State.addSat_rd, State.raise_rd, setLstate_rd]

theorem goReacq_lanes {β : Type} {v : Lane → β} (hv : ∀ x n b f, v { x with reacqLeft := n, marker := b, fast := f } = v x) (s : State) (l : Nat) :
    LanesKeep v s (goReacq s l) := by
  rw [goReacq_eq]
  exact .trans (.of_lanes (by rw [reacqShown_rd])) (.setLane _ l (hv ..))

theorem reacqLeft_goReacq {s : State} {l : Nat} (hs : l < s.rd.lanes.length) : ((goReacq s l).lane l).reacqLeft = 4 := by
  rw [goReacq_eq]
  exact congrArg Lane.reacqLeft (lane_setLane (by rwa [reacqShown_rd]) _)

section
variable {l : Nat} (hl : l < 4)
include hl

theorem syncCount_out : laneOut [0x70] l (Reg.RFL_SYNC_CNT l) := (by decide : ∀ l < 4, laneOut [0x70] l (Reg.RFL_SYNC_CNT l)) l hl

theorem reacqShown_kept (s : State) : RegsKept (laneOut [0x70] l) ((s.setLstate l 4).raise (pgRFL l) 1) (reacqShown s l) := by
  rw [reacqShown]
  exact (RegsKept.refl _ _).addSat (syncCount_out hl) _ _ _

theorem goReacq_kept (s : State) : RegsKept (laneOut [0x70] l) ((s.setLstate l 4).raise (pgRFL l) 1) (goReacq s l) := by
  rw [goReacq_eq]
  exact (reacqShown_kept hl s).setLane l _

theorem goReacq_variant (s : State) : (goReacq s l).variant = s.variant  :=
  (goReacq_kept hl s).variant.trans ((State.raise_variant _ _ _).trans (setLstate_kept hl s 4).variant)

theorem goReacq_logs (s : State) : Logs (pgRFL l) s (goReacq s l) :=
  ((Logs.of_kept (setLstate_kept hl s 4) hl).raise 1 (by decide)).trans (.of_kept (goReacq_kept hl s) hl)

theorem goReacq_irq (s : State) : (goReacq s l).irq (pgRFL l) 1 :=
  (Logs.of_kept (goReacq_kept hl s) hl).irq_stands 1 (irq_raise _ _ _ (by decide))

theorem lstate_goReacq (s : State) : lstate (goReacq s l) l = 4 := by
  have hne : Reg.IRQ_RAW (pgRFL l) ≠ Reg.STAT (pgRFL l) ∧ Reg.IRQ_STAT (pgRFL l) ≠ Reg.STAT (pgRFL l) := by
    simp only [Reg.IRQ_RAW, Reg.IRQ_STAT, Reg.STAT]; omega
  rw [(goReacq_kept hl s).lstate hl, lstate, State.fld_raise_ne _ _ _ _ _ _ hne.1 hne.2]
  exact lstate_setLstate s l (by decide)

end

/-- A lane out of lock, before a swap that waits is made. -/
def outShown (s : State) (l run : Nat) : State :=
  let s := (s.setLstate l 5).raise (pgRFL l) 2
  s.setLane l { s.lane l with outRun := run, locked := false }

/-- Groups in a row that the lane has been out of lock in while another lane locked. -/
def outRuns (s : State) (l : Nat) : Nat :=
  let s := (s.setLstate l 5).raise (pgRFL l) 2
  if otherLocked s l then (s.lane l).outRun + 1 else 0

theorem goOut_eq (s : State) (l : Nat) : goOut s l = if 8 ≤ outRuns s l then laneFault (runDueSwap (outShown s l (outRuns s l)) l) l
    else runDueSwap (outShown s l (outRuns s l)) l := rfl

theorem outShown_irq (s : State) (l run : Nat) : (outShown s l run).irq (pgRFL l) 2 := by
  rw [outShown, State.irq, State.setLane, State.setRd_bit]
  exact irq_raise _ _ _ (by decide)

section
variable {l : Nat} (hl : l < 4)
include hl

theorem outShown_kept (s : State) (run : Nat) : RegsKept (laneOut logOffs l) (s.setLstate l 5) (outShown s l run) := by
  obtain ⟨hraw, hstat⟩ := (by decide : ∀ l < 4, laneOut logOffs l (Reg.IRQ_RAW (pgRFL l)) ∧ laneOut logOffs l (Reg.IRQ_STAT (pgRFL l))) l hl
  rw [outShown]
  exact ((RegsKept.refl _ _).raise hraw hstat 2).setLane l _

/-- A lane that goes out of lock is not locked, and shows it or is in FAULT. -/
theorem goOut_shows (s : State) : (lstate (goOut s l) l = 5 ∨ lstate (goOut s l) l = 6) ∧ ((goOut s l).lane l).locked = false ∧
    (goOut s l).irq (pgRFL l) 2 ∧ (goOut s l).variant = s.variant := by
  have hout : Declines l (outShown s l (outRuns s l)) (goOut s l) := by
    rw [goOut_eq]
    exact .ite ((runDueSwap_declines hl _).trans (laneFault_declines hl _)) (runDueSwap_declines hl _)
  have hstate : lstate (outShown s l (outRuns s l)) l = 5 := ((outShown_kept hl s _).lstate hl).trans (lstate_setLstate s l (by decide))
  exact ⟨hstate ▸ hout.state, hout.unlocked (unlocked_setLane rfl), hout.logs.irq_stands 2 (outShown_irq s l _),
    hout.variant.trans ((outShown_kept hl s _).variant.trans (setLstate_kept hl s 5).variant)⟩

end

end Sys2Proof.Machine
end

section
/-! A lane's frame from the samples that came in to the end of its group (R68 to R75). -/
namespace Sys2Proof.Machine

/-! ## The parts of a frame -/

/-- The lane with the samples that came in. -/
def bufferedLane (s : State) (l : Nat) (rx : List RawSample) : Lane := { s.lane l with buf := (s.lane l).buf ++ takeIn s l rx }

/-- The samples are in, the lane's position is shown, and DSK has made room for a new one. -/
def frameStart (s : State) (l : Nat) (rx : List RawSample) : State :=
  let s := s.setLane l (bufferedLane s l rx)
  let x := s.lane l
  let s := s.setReg (Reg.RFL_POS l) (Word.ofNat (x.expect.2 + x.expect.1 * 256 + x.group * 65536))
  if x.expect.2 = 0 then ringStore s x.group x.expect.1 else s

/-- After the sync: the skew of a group's first one, and the end of a group. -/
def frameEnd (l skew : Nat) (e : Nat × Nat) (s : State) : State :=
  groupPassed (if e = (0, 0) ∧ lstate s l = 3 then noteSkew s l skew else s) l

/-- A sync is predicted for a lane in one of these states. -/
def syncDue (s : State) (l : Nat) : Prop :=
  (s.lane l).expect.1 < 128 ∧ ((lstate s l = 2 ∧ ((s.lane l).marker = true ∨ (s.lane l).expect ≠ (0, 0))) ∨ lstate s l = 3 ∨
    lstate s l = 4 ∨ lstate s l = 5)

/-- A lane of the part that runs and whose state the read path holds. -/
structure LaneRuns (s : State) (l : Nat) : Prop where
  present : lanePresent s l = true
  running : s.frozen (pgRFL l) = false
  held : l < s.rd.lanes.length

namespace LaneRuns

variable {s t : State} {l skew : Nat} {rx : List RawSample} (h : LaneRuns s l)
include h

theorem lt : l < 4 := lanePresent_lt h.present

theorem frameSync_runs (ht : frameSync l rx skew s = t) : exec (.frameSync l rx skew) s = done s t :=
  congrArg (done s) ((if_pos h.present).trans ((State.unlessFrozen_running h.running _).trans ht))

theorem lane_buffered : (s.setLane l (bufferedLane s l rx)).lane l = bufferedLane s l rx := lane_setLane h.held _

end LaneRuns

theorem lstate_setLane (s : State) (l : Nat) (x : Lane) : lstate (s.setLane l x) l = lstate s l := rfl
theorem laneMode_setLane (s : State) (l : Nat) (x : Lane) : laneMode (s.setLane l x) l = laneMode s l := rfl

theorem frameSync_idle {s : State} {l skew : Nat} {rx : List RawSample} (hs : l < s.rd.lanes.length)
    (h : lstate s l = 6 ∨ laneMode s l ≠ 3 ∧ ¬syncDue s l) : frameSync l rx skew s = s.setLane l (bufferedLane s l rx) := by
  have hlane : (s.setLane l (bufferedLane s l rx)).lane l = bufferedLane s l rx := lane_setLane hs _
  rw [bufferedLane] at hlane ⊢
  rw [frameSync]
  by_cases h6 : lstate s l = 6
  · exact if_pos h6
  · obtain ⟨hmode, hdue⟩ := h.resolve_left h6
    rw [syncDue] at hdue
    simp only [lstate_setLane, laneMode_setLane, if_neg h6, if_neg hmode, trackedFrame, hlane, if_neg hdue]

theorem frameSync_due {s : State} {l skew : Nat} {rx : List RawSample} (hs : l < s.rd.lanes.length) (hmode : laneMode s l ≠ 3)
    (hdue : syncDue s l) : frameSync l rx skew s = frameEnd l skew (s.lane l).expect (syncStep l (frameStart s l rx)) := by
  have hlane : (s.setLane l (bufferedLane s l rx)).lane l = bufferedLane s l rx := lane_setLane hs _
  have h6 : lstate s l ≠ 6 := by
    obtain ⟨-, hst⟩ := hdue
    omega
  rw [syncDue] at hdue
  rw [bufferedLane] at hlane
  simp only [frameSync, lstate_setLane, laneMode_setLane, if_neg h6, if_neg hmode, trackedFrame, hlane, if_pos hdue, frameEnd, frameStart,
    bufferedLane]

/-! ## The start of a frame -/

theorem position_out {l : Nat} (hl : l < 4) : laneOut [0x74] l (Reg.RFL_POS l) := (by decide : ∀ l < 4, laneOut [0x74] l (Reg.RFL_POS l)) l hl

theorem frameStart_kept {l : Nat} (hl : l < 4) (s : State) (rx : List RawSample) : RegsKept (laneOut [0x74] l) s (frameStart s l rx) := by
  have h := ((RegsKept.refl (laneOut [0x74] l) s).setLane l (bufferedLane s l rx)).setReg (position_out hl)
    (Word.ofNat (((s.setLane l (bufferedLane s l rx)).lane l).expect.2 + ((s.setLane l (bufferedLane s l rx)).lane l).expect.1 * 256 +
      ((s.setLane l (bufferedLane s l rx)).lane l).group * 65536))
  exact .ite (h.trans ((ringStore_kept _ _ _).beyond _ _)) h

theorem frameStart_lanes (s : State) (l : Nat) (rx : List RawSample) :
    (frameStart s l rx).rd.lanes = (s.setLane l (bufferedLane s l rx)).rd.lanes := by
  unfold frameStart
  dsimp only
  split
  · rw [ringStore_lanes, State.setReg_rd]
  · rw [State.setReg_rd]

/-- What the search for a sync and the passing of its frame start from. -/
structure FrameStarts (s : State) (l : Nat) (rx : List RawSample) (u : State) : Prop where
  kept : RegsKept (laneOut [0x74] l) s u
  lane : u.lane l = bufferedLane s l rx
  held : l < u.rd.lanes.length

theorem frameStart_started {s : State} {l : Nat} (h : LaneRuns s l) (rx : List RawSample) : FrameStarts s l rx (frameStart s l rx) where
  kept := frameStart_kept h.lt s rx
  lane := by rw [State.lane, frameStart_lanes, ← State.lane, h.lane_buffered]
  held := by
    rw [frameStart_lanes, (LanesKeep.setLane (v := fun _ => ()) s l rfl).length]
    exact h.held

/-! ## The end of a frame -/

theorem groupPassed_kept {l : Nat} (hl : l < 4) (s : State) : RegsKept (laneOut [0x08, 0x6C] l) s (groupPassed s l) :=
  .ite (setLstate_kept hl s 1) (.refl _ s)

theorem groupPassed_rd (s : State) (l : Nat) : (groupPassed s l).rd = s.rd := by
  unfold groupPassed
  split
  · exact setLstate_rd s l 1
  · rfl

theorem syncRun_groupPassed (s : State) (l : Nat) : (groupPassed s l).fld (Reg.RFL_SYNC_STAT l) 0 2 = s.fld (Reg.RFL_SYNC_STAT l) 0 2 := by
  unfold groupPassed
  split
  · exact syncRun_setLstate s l 1
  · rfl

theorem lstate_groupPassed (s : State) (l : Nat) : lstate (groupPassed s l) l =
    if 128 ≤ (s.lane l).expect.1 ∧ (lstate s l = 2 ∨ lstate s l = 3 ∨ lstate s l = 4) then 1 else lstate s l := by
  unfold groupPassed
  split
  · exact lstate_setLstate s l (by decide)
  · rfl

/-- What the end of a frame leaves: all but the lane's state, which the end of a group changes. -/
structure Ended (l : Nat) (s t : State) : Prop where
  variant : t.variant = s.variant
  lanes : t.rd.lanes = s.rd.lanes
  run : t.fld (Reg.RFL_SYNC_STAT l) 0 2 = s.fld (Reg.RFL_SYNC_STAT l) 0 2
  misses : t.reg (Reg.RFL_SYNC_CNT l) = s.reg (Reg.RFL_SYNC_CNT l)
  logs : Logs (pgRFL l) s t
  state : lstate t l = if 128 ≤ (s.lane l).expect.1 ∧ (lstate s l = 2 ∨ lstate s l = 3 ∨ lstate s l = 4) then 1 else lstate s l

theorem frameEnd_ended {l : Nat} (hl : l < 4) (skew : Nat) (e : Nat × Nat) (s : State) : Ended l s (frameEnd l skew e s) := by
  obtain ⟨u, hu, hkept, hrd⟩ : ∃ u, frameEnd l skew e s = groupPassed u l ∧ RegsKept (laneOut [] l) s u ∧ u.rd = s.rd := by
    by_cases h : e = (0, 0) ∧ lstate s l = 3
    · exact ⟨_, congrArg (groupPassed · l) (if_pos h), (noteSkew_kept s l skew).beyond _ _, noteSkew_rd s l skew⟩
    · exact ⟨_, congrArg (groupPassed · l) (if_neg h), .refl _ s, rfl⟩
  have hpassed := groupPassed_kept hl u
  rw [hu]
  constructor
  case variant => exact hpassed.variant.trans hkept.variant
  case lanes => rw [groupPassed_rd, hrd]
  case run => exact (syncRun_groupPassed u l).trans (State.fld_of_reg _ _ _ _ _ _ (hkept.laneReg hl Reg.RFL_SYNC_STAT))
  case misses => exact (hpassed.laneReg hl Reg.RFL_SYNC_CNT).trans (hkept.laneReg hl Reg.RFL_SYNC_CNT)
  case logs => exact (Logs.of_kept hkept hl).trans (.of_kept hpassed hl)
  case state => rw [lstate_groupPassed, State.lane, hrd, ← State.lane, hkept.lstate hl]

namespace Ended

variable {l : Nat} {s t : State} (h : Ended l s t)
include h

theorem lane : t.lane l = s.lane l := by rw [State.lane, h.lanes, State.lane]

theorem state_live (hst : lstate s l = 2 ∨ lstate s l = 3 ∨ lstate s l = 4) :
    lstate t l = if (s.lane l).expect.1 < 128 then lstate s l else 1 := by
  rw [h.state]
  by_cases hlast : (s.lane l).expect.1 < 128
  · rw [if_neg (fun hend => absurd hend.1 (Nat.not_le.mpr hlast)), if_pos hlast]
  · rw [if_pos ⟨Nat.not_lt.mp hlast, hst⟩, if_neg hlast]

theorem state_out (hst : lstate s l = 5 ∨ lstate s l = 6) : lstate t l = lstate s l := by
  rw [h.state]
  exact if_neg (by omega)

end Ended

/-! ## One predicted sync -/

section
variable {s : State} {l : Nat}

theorem syncStep_found_late {q : Int × Nat} (hst : lstate s l = 4) (hq : syncSearch ((s.lane l).expect.2 == 0) 16
      (s.fld (Reg.RFL_SYNC_CTRL l) 4 3) (laneWindow (s.lane l) 16) = some q) : syncStep l s =
    passFrame (acceptSync s l q.1 q.2) l (s.lane l).group (s.lane l).expect.1 (s.lane l).expect.2 true q.1 q.2 false false := by
  simp only [syncStep, if_pos hst, hq]

/-- A search in vain uses one of the four up. -/
def searchFailed (s : State) (l : Nat) : State :=
  passFrame (s.setLane l { s.lane l with reacqLeft := (s.lane l).reacqLeft - 1 }) l (s.lane l).group (s.lane l).expect.1 (s.lane l).expect.2
    false 0 0 false true

theorem syncStep_lost_late (hst : lstate s l = 4) (hq : syncSearch ((s.lane l).expect.2 == 0) 16
      (s.fld (Reg.RFL_SYNC_CTRL l) 4 3) (laneWindow (s.lane l) 16) = none) :
    syncStep l s = if (s.lane l).reacqLeft ≤ 1 then goOut (searchFailed s l) l else searchFailed s l := by
  simp only [syncStep, if_pos hst, hq, searchFailed]

theorem syncStep_out (hst : lstate s l = 5) :
    syncStep l s = passFrame s l (s.lane l).group (s.lane l).expect.1 (s.lane l).expect.2 false 0 0 false true := by
  have h4 : ¬lstate s l = 4 := by omega
  simp only [syncStep, if_neg h4, if_pos hst]

variable (hst : lstate s l = 2 ∨ lstate s l = 3)
include hst

theorem syncStep_found {q : Int × Nat} (hq : syncSearch ((s.lane l).expect.2 == 0) 4 (s.fld (Reg.RFL_SYNC_CTRL l) 0 3)
      (laneWindow (s.lane l) 4) = some q) : syncStep l s =
    passFrame (acceptSync s l q.1 q.2) l (s.lane l).group (s.lane l).expect.1 (s.lane l).expect.2 true q.1 q.2 false false := by
  have h4 : ¬lstate s l = 4 := by omega
  have h5 : ¬lstate s l = 5 := by omega
  simp only [syncStep, if_neg h4, if_neg h5, hq]

theorem syncStep_missed (hq : syncSearch ((s.lane l).expect.2 == 0) 4 (s.fld (Reg.RFL_SYNC_CTRL l) 0 3)
      (laneWindow (s.lane l) 4) = none) : syncStep l s =
    missSync (passFrame s l (s.lane l).group (s.lane l).expect.1 (s.lane l).expect.2 false 0 0 true false) l := by
  have h4 : ¬lstate s l = 4 := by omega
  have h5 : ¬lstate s l = 5 := by omega
  simp only [syncStep, if_neg h4, if_neg h5, hq]

end

end Sys2Proof.Machine
end

section
/-! What each outcome of a frame leaves (O20). -/
namespace Sys2Proof.Machine

/-! ## Locked -/

/-- A lane that tracks, or acquires and is past its preamble, has a sync due. -/
theorem syncDue_of_live {s : State} {l : Nat} (hpos : (s.lane l).expect.1 < 128)
    (hst : lstate s l = 3 ∨ lstate s l = 2 ∧ ((s.lane l).marker = true ∨ (s.lane l).expect ≠ (0, 0)) ∧ (s.lane l).swapDue = none) :
    syncDue s l := by
  refine ⟨hpos, ?_⟩
  rcases hst with h3 | ⟨h2, hsearch, -⟩
  · exact .inr (.inl h3)
  · exact .inl ⟨h2, hsearch⟩

section
variable {s u t : State} {l skew : Nat} {rx : List RawSample}

namespace FrameStarts

variable (hu : FrameStarts s l rx u) (hl : l < 4)
include hu

theorem expect : (u.lane l).expect = (s.lane l).expect := by rw [hu.lane, bufferedLane]
theorem swapDue : (u.lane l).swapDue = (s.lane l).swapDue := by rw [hu.lane, bufferedLane]
theorem reacqLeft : (u.lane l).reacqLeft = (s.lane l).reacqLeft := by rw [hu.lane, bufferedLane]
theorem locked : (u.lane l).locked = (s.lane l).locked := by rw [hu.lane, bufferedLane]

include hl

theorem state : lstate u l = lstate s l := hu.kept.lstate hl

/-- The search runs over the samples that came in, by the settings as they were. -/
theorem search (w lo : Nat) : syncSearch ((u.lane l).expect.2 == 0) w (u.fld (Reg.RFL_SYNC_CTRL l) lo 3) (laneWindow (u.lane l) w) =
    syncSearch ((s.lane l).expect.2 == 0) w (s.fld (Reg.RFL_SYNC_CTRL l) lo 3)
      (laneWindow ({ s.lane l with buf := (s.lane l).buf ++ takeIn s l rx }) w) := by
  rw [hu.expect, State.fld_of_reg _ _ _ _ _ _ (hu.kept.laneReg hl Reg.RFL_SYNC_CTRL), hu.lane, bufferedLane]

end FrameStarts

theorem frameSync_locks (h : LaneRuns s l) {v : State} (hv : v.variant = s.variant) (hexpect : (v.lane l).expect = (s.lane l).expect)
    (hlock : Locks l v u) (hend : Ended l u t) (hrun : exec (.frameSync l rx skew) s = done s t) : Runs (.frameSync l rx skew) s fun t =>
      lstate t l = (if (nextFrame (s.lane l).expect).1 < 128 then 3 else 1) ∧ t.fld (Reg.RFL_SYNC_STAT l) 0 2 = 0 ∧ (t.lane l).locked = true ∧
        (t.lane l).expect = nextFrame (s.lane l).expect := by
  have hvar : t.variant = s.variant := hend.variant.trans (hlock.variant.trans hv)
  have hstate := hend.state_live (.inr (.inl hlock.state))
  rw [hlock.expect, hexpect, hlock.state] at hstate
  refine runs_of_done _ hrun ⟨?_, ?_, ?_, ?_⟩
  · rw [lstate_settled h.present hvar, hstate]
  · rw [State.fld_of_reg _ _ _ _ _ _ (settled_laneReg h.present hvar Reg.RFL_SYNC_STAT), hend.run, hlock.run]
  · rw [lane_settled, hend.lane, hlock.locked]
  · rw [lane_settled, hend.lane, hlock.expect, hexpect]

end

section
variable {s : State} {l : Nat} (h : LaneRuns s l) (hmode : laneMode s l ≠ 3) (skew : Nat) (rx : List RawSample)
include h hmode

theorem frameSync_due_runs {u : State} (hdue : syncDue s l) (hu : syncStep l (frameStart s l rx) = u) :
    exec (.frameSync l rx skew) s = done s (frameEnd l skew (s.lane l).expect u) :=
  h.frameSync_runs ((frameSync_due h.held hmode hdue).trans (by rw [hu]))

variable (hpos : (s.lane l).expect.1 < 128)
include hpos

/-- A sync of a lane that tracks or acquires is found in time. -/
theorem frameSync_found {q : Int × Nat}
    (hst : lstate s l = 3 ∨ lstate s l = 2 ∧ ((s.lane l).marker = true ∨ (s.lane l).expect ≠ (0, 0)) ∧ (s.lane l).swapDue = none)
    (hq : syncSearch ((s.lane l).expect.2 == 0) 4 (s.fld (Reg.RFL_SYNC_CTRL l) 0 3)
      (laneWindow ({ s.lane l with buf := (s.lane l).buf ++ takeIn s l rx }) 4) = some q) : Runs (.frameSync l rx skew) s fun t =>
      lstate t l = (if (nextFrame (s.lane l).expect).1 < 128 then 3 else 1) ∧ t.fld (Reg.RFL_SYNC_STAT l) 0 2 = 0 ∧ (t.lane l).locked = true ∧
        (t.lane l).expect = nextFrame (s.lane l).expect := by
  have hu := frameStart_started h rx
  have hdue := syncDue_of_live hpos hst
  have hstep := syncStep_found (by rw [hu.state h.lt]; omega) ((hu.search h.lt 4 0).trans hq)
  have hlock := found_locks h.lt hu.held (by rw [hu.state h.lt, hu.swapDue]; exact hst.imp_right fun ⟨_, _, hn⟩ => hn) ((frameStart s l rx).lane l).group
    ((frameStart s l rx).lane l).expect.1 ((frameStart s l rx).lane l).expect.2 q.1 q.2
  exact frameSync_locks h hu.kept.variant hu.expect hlock (frameEnd_ended h.lt skew (s.lane l).expect _)
    (frameSync_due_runs h hmode skew rx hdue hstep)

/-- A sync of a lane that re-acquires is found. -/
theorem frameSync_found_late {q : Int × Nat} (hst : lstate s l = 4) (hswap : (s.lane l).swapDue = none)
    (hq : syncSearch ((s.lane l).expect.2 == 0) 16 (s.fld (Reg.RFL_SYNC_CTRL l) 4 3)
      (laneWindow ({ s.lane l with buf := (s.lane l).buf ++ takeIn s l rx }) 16) = some q) : Runs (.frameSync l rx skew) s fun t =>
      lstate t l = (if (nextFrame (s.lane l).expect).1 < 128 then 3 else 1) ∧ t.fld (Reg.RFL_SYNC_STAT l) 0 2 = 0 ∧ (t.lane l).locked = true ∧
        (t.lane l).expect = nextFrame (s.lane l).expect := by
  have hu := frameStart_started h rx
  have hdue : syncDue s l := ⟨hpos, .inr (.inr (.inl hst))⟩
  have hstep := syncStep_found_late ((hu.state h.lt).trans hst) ((hu.search h.lt 16 4).trans hq)
  have hlock := found_locks h.lt hu.held (.inr (hu.swapDue.trans hswap)) ((frameStart s l rx).lane l).group
    ((frameStart s l rx).lane l).expect.1 ((frameStart s l rx).lane l).expect.2 q.1 q.2
  exact frameSync_locks h hu.kept.variant hu.expect hlock (frameEnd_ended h.lt skew (s.lane l).expect _)
    (frameSync_due_runs h hmode skew rx hdue hstep)

end

/-! ## Missed -/

/-- A miss counts. -/
def missShown (s : State) (l : Nat) : State :=
  (s.setFld (Reg.RFL_SYNC_STAT l) 0 2 (min (s.fld (Reg.RFL_SYNC_STAT l) 0 2 + 1) 3)).addSat (Reg.RFL_SYNC_CNT l) 0 8 1

theorem missSync_eq (s : State) (l : Nat) :
    missSync s l = if 3 ≤ s.fld (Reg.RFL_SYNC_STAT l) 0 2 + 1 then goReacq (missShown s l) l else missShown s l := rfl

theorem missShown_rd (s : State) (l : Nat) : (missShown s l).rd = s.rd := by rw [missShown, State.addSat_rd, State.setFld_rd]

theorem missShown_kept {l : Nat} (hl : l < 4) (s : State) : RegsKept (laneOut [0x6C, 0x70] l) s (missShown s l) := by
  obtain ⟨hrun, hcount⟩ := (by decide : ∀ l < 4, laneOut [0x6C, 0x70] l (Reg.RFL_SYNC_STAT l) ∧ laneOut [0x6C, 0x70] l (Reg.RFL_SYNC_CNT l)) l hl
  rw [missShown]
  exact ((RegsKept.refl _ s).setFld hrun _ _ _).addSat hcount _ _ _

theorem missShown_counts (s : State) (l : Nat) :
    (missShown s l).fld (Reg.RFL_SYNC_STAT l) 0 2 = min (s.fld (Reg.RFL_SYNC_STAT l) 0 2 + 1) 3 ∧
      (missShown s l).fld (Reg.RFL_SYNC_CNT l) 0 8 = min (s.fld (Reg.RFL_SYNC_CNT l) 0 8 + 1) 255 := by
  have hne : Reg.RFL_SYNC_STAT l ≠ Reg.RFL_SYNC_CNT l := by simp only [Reg.RFL_SYNC_STAT, Reg.RFL_SYNC_CNT]; omega
  constructor
  · rw [missShown, State.fld_addSat_ne _ _ _ _ _ _ _ _ hne.symm, State.fld_setFld_same _ _ _ _ _ (by decide)]
    exact Nat.mod_eq_of_lt (by omega)
  · rw [missShown, State.fld_addSat_same _ _ _ _ _ (by decide), State.fld_setFld_ne _ _ _ _ _ _ _ _ hne]
    rfl

/-- A frame that goes by without a sync, its lane's state and counts as they were. -/
structure FrameGone (l : Nat) (s t : State) : Prop where
  kept : RegsKept (laneOut loopOffs l) s t
  logs : Logs (pgRFL l) s t
  core : (t.lane l).core = (s.lane l).core
  expect : (t.lane l).expect = nextFrame (s.lane l).expect
  held : l < t.rd.lanes.length

theorem passFrame_gone {l : Nat} (hl : l < 4) {s : State} (hs : l < s.rd.lanes.length) (g pos f : Nat) (acc : Bool) (o : Int) (d : Nat)
    (flyw era : Bool) : FrameGone l s (passFrame s l g pos f acc o d flyw era) where
  kept := passFrame_kept s l g pos f acc o d flyw era hl
  logs := passFrame_logs s l g pos f acc o d flyw era hl
  core := (passFrame_lanes s l g pos f acc o d flyw era).lane l
  expect := passFrame_expect s l g pos f acc o d flyw era hs
  held := by
    rw [(passFrame_lanes s l g pos f acc o d flyw era).length]
    exact hs

section
variable {s : State} {l : Nat} (h : LaneRuns s l) (hmode : laneMode s l ≠ 3) (skew : Nat) (rx : List RawSample)
variable (hpos : (s.lane l).expect.1 < 128)
include h hmode hpos

section
variable (hst : lstate s l = 3 ∨ lstate s l = 2 ∧ ((s.lane l).marker = true ∨ (s.lane l).expect ≠ (0, 0)) ∧ (s.lane l).swapDue = none)
variable (hq : syncSearch ((s.lane l).expect.2 == 0) 4 (s.fld (Reg.RFL_SYNC_CTRL l) 0 3)
      (laneWindow ({ s.lane l with buf := (s.lane l).buf ++ takeIn s l rx }) 4) = none)
include hst hq

/-- The frame whose sync is missed has gone by, and the miss is seen to. -/
theorem frameSync_misses : ∃ u, FrameGone l (frameStart s l rx) u ∧
    exec (.frameSync l rx skew) s = done s (frameEnd l skew (s.lane l).expect (missSync u l)) := by
  have hu := frameStart_started h rx
  have hstep := syncStep_missed (by rw [hu.state h.lt]; omega) ((hu.search h.lt 4 0).trans hq)
  exact ⟨_, passFrame_gone h.lt hu.held _ _ _ _ _ _ _ _, frameSync_due_runs h hmode skew rx (syncDue_of_live hpos hst) hstep⟩

theorem frameSync_first_misses (hrun : s.fld (Reg.RFL_SYNC_STAT l) 0 2 < 2) : Runs (.frameSync l rx skew) s fun t =>
      lstate t l = (if (nextFrame (s.lane l).expect).1 < 128 then lstate s l else 1) ∧
        t.fld (Reg.RFL_SYNC_STAT l) 0 2 = s.fld (Reg.RFL_SYNC_STAT l) 0 2 + 1 ∧
        t.fld (Reg.RFL_SYNC_CNT l) 0 8 = min (s.fld (Reg.RFL_SYNC_CNT l) 0 8 + 1) 255 ∧ (t.lane l).expect = nextFrame (s.lane l).expect := by
  obtain ⟨u, hgone, hexec⟩ := frameSync_misses h hmode skew rx hpos hst hq
  have hu := frameStart_started h rx
  have hrunU : u.fld (Reg.RFL_SYNC_STAT l) 0 2 = s.fld (Reg.RFL_SYNC_STAT l) 0 2 := State.fld_of_reg _ _ _ _ _ _
    ((hgone.kept.laneReg h.lt Reg.RFL_SYNC_STAT).trans (hu.kept.laneReg h.lt Reg.RFL_SYNC_STAT))
  have hcountU : u.fld (Reg.RFL_SYNC_CNT l) 0 8 = s.fld (Reg.RFL_SYNC_CNT l) 0 8 := State.fld_of_reg _ _ _ _ _ _
    ((hgone.kept.laneReg h.lt Reg.RFL_SYNC_CNT).trans (hu.kept.laneReg h.lt Reg.RFL_SYNC_CNT))
  rw [missSync_eq, if_neg (by omega)] at hexec
  have hend := frameEnd_ended h.lt skew (s.lane l).expect (missShown u l)
  have hmiss := missShown_kept h.lt u
  obtain ⟨hshownRun, hshownCount⟩ := missShown_counts u l
  have hvar := hend.variant.trans (hmiss.variant.trans (hgone.kept.variant.trans hu.kept.variant))
  have hexpect : ((missShown u l).lane l).expect = nextFrame (s.lane l).expect := by
    rw [State.lane, missShown_rd, ← State.lane, hgone.expect, hu.expect]
  have hstate : lstate (missShown u l) l = lstate s l := by
    rw [hmiss.lstate h.lt, hgone.kept.lstate h.lt, hu.state h.lt]
  refine runs_of_done _ hexec ⟨?_, ?_, ?_, ?_⟩
  · rw [lstate_settled h.present hvar, hend.state_live (by omega), hstate, hexpect]
  · rw [State.fld_of_reg _ _ _ _ _ _ (settled_laneReg h.present hvar Reg.RFL_SYNC_STAT), hend.run, hshownRun, hrunU]
    omega
  · rw [State.fld_of_reg _ _ _ _ _ _ (settled_laneReg h.present hvar Reg.RFL_SYNC_CNT), State.fld_of_reg _ _ _ _ _ _ hend.misses,
      hshownCount, hcountU]
  · rw [lane_settled, hend.lane, hexpect]

theorem frameSync_third_misses (hrun : 2 ≤ s.fld (Reg.RFL_SYNC_STAT l) 0 2) : Runs (.frameSync l rx skew) s fun t =>
      lstate t l = (if (nextFrame (s.lane l).expect).1 < 128 then 4 else 1) ∧ (t.lane l).reacqLeft = 4 ∧
        (t.lane l).expect = nextFrame (s.lane l).expect ∧ t.irq (pgRFL l) 1 := by
  obtain ⟨u, hgone, hexec⟩ := frameSync_misses h hmode skew rx hpos hst hq
  have hu := frameStart_started h rx
  have hrunU : u.fld (Reg.RFL_SYNC_STAT l) 0 2 = s.fld (Reg.RFL_SYNC_STAT l) 0 2 := State.fld_of_reg _ _ _ _ _ _
    ((hgone.kept.laneReg h.lt Reg.RFL_SYNC_STAT).trans (hu.kept.laneReg h.lt Reg.RFL_SYNC_STAT))
  rw [missSync_eq, if_pos (by omega)] at hexec
  have hend := frameEnd_ended h.lt skew (s.lane l).expect (goReacq (missShown u l) l)
  have hvar := hend.variant.trans ((goReacq_variant h.lt _).trans ((missShown_kept h.lt u).variant.trans
    (hgone.kept.variant.trans hu.kept.variant)))
  have hexpect : ((goReacq (missShown u l) l).lane l).expect = nextFrame (s.lane l).expect := by
    rw [(goReacq_lanes (v := Lane.expect) (fun _ _ _ _ => rfl) (missShown u l) l).lane l, State.lane, missShown_rd, ← State.lane,
      hgone.expect, hu.expect]
  refine runs_of_done _ hexec ⟨?_, ?_, ?_, ?_⟩
  · rw [lstate_settled h.present hvar, hend.state_live (.inr (.inr (lstate_goReacq h.lt _))), lstate_goReacq h.lt, hexpect]
  · rw [lane_settled, hend.lane]
    exact reacqLeft_goReacq (by rw [missShown_rd]; exact hgone.held)
  · rw [lane_settled, hend.lane, hexpect]
  · exact irq_settled h.present hvar (hend.logs.irq_stands 1 (goReacq_irq h.lt _))

end

/-! ## Searched for in vain -/

section
variable (hst : lstate s l = 4)
variable (hq : syncSearch ((s.lane l).expect.2 == 0) 16 (s.fld (Reg.RFL_SYNC_CTRL l) 4 3)
      (laneWindow ({ s.lane l with buf := (s.lane l).buf ++ takeIn s l rx }) 16) = none)
include hst hq

theorem frameSync_searches_on (hleft : 1 < (s.lane l).reacqLeft) : Runs (.frameSync l rx skew) s fun t =>
      lstate t l = (if (nextFrame (s.lane l).expect).1 < 128 then 4 else 1) ∧ (t.lane l).reacqLeft = (s.lane l).reacqLeft - 1 ∧
        (t.lane l).expect = nextFrame (s.lane l).expect := by
  have hu := frameStart_started h rx
  have hstep := syncStep_lost_late ((hu.state h.lt).trans hst) ((hu.search h.lt 16 4).trans hq)
  rw [hu.reacqLeft, if_neg (Nat.not_le.mpr hleft)] at hstep
  have hheld : l < ((frameStart s l rx).setLane l { (frameStart s l rx).lane l with
      reacqLeft := ((frameStart s l rx).lane l).reacqLeft - 1 }).rd.lanes.length := by
    rw [(LanesKeep.setLane (v := fun _ => ()) (frameStart s l rx) l rfl).length]
    exact hu.held
  have hgone : FrameGone l _ (searchFailed (frameStart s l rx) l) := passFrame_gone h.lt hheld _ _ _ _ _ _ _ _
  have hlane := lane_setLane hu.held { (frameStart s l rx).lane l with reacqLeft := ((frameStart s l rx).lane l).reacqLeft - 1 }
  have hend := frameEnd_ended h.lt skew (s.lane l).expect (searchFailed (frameStart s l rx) l)
  have hvar : _ = s.variant := hend.variant.trans (hgone.kept.variant.trans hu.kept.variant)
  have hexpect := hgone.expect
  rw [hlane] at hexpect
  have hstate : lstate (searchFailed (frameStart s l rx) l) l = 4 := (hgone.kept.lstate h.lt).trans ((hu.state h.lt).trans hst)
  refine runs_of_done _ (frameSync_due_runs h hmode skew rx ⟨hpos, .inr (.inr (.inl hst))⟩ hstep) ⟨?_, ?_, ?_⟩
  · rw [lstate_settled h.present hvar, hend.state_live (.inr (.inr hstate)), hstate, hexpect]
    exact congrArg (fun e : Nat × Nat => if (nextFrame e).1 < 128 then 4 else 1) hu.expect
  · rw [lane_settled, hend.lane]
    refine (congrArg Lane.reacqLeft (hgone.core.trans (congrArg Lane.core hlane))).trans ?_
    exact congrArg (· - 1) hu.reacqLeft
  · rw [lane_settled, hend.lane, hexpect]
    exact congrArg nextFrame hu.expect

theorem frameSync_gives_up (hleft : (s.lane l).reacqLeft ≤ 1) : Runs (.frameSync l rx skew) s fun t =>
      (lstate t l = 5 ∨ lstate t l = 6) ∧ (t.lane l).locked = false ∧ t.irq (pgRFL l) 2 := by
  have hu := frameStart_started h rx
  have hstep := syncStep_lost_late ((hu.state h.lt).trans hst) ((hu.search h.lt 16 4).trans hq)
  rw [hu.reacqLeft, if_pos hleft] at hstep
  obtain ⟨hstate, hlocked, hirq, hvarOut⟩ := goOut_shows h.lt (searchFailed (frameStart s l rx) l)
  have hend := frameEnd_ended h.lt skew (s.lane l).expect (goOut (searchFailed (frameStart s l rx) l) l)
  have hfailed : (searchFailed (frameStart s l rx) l).variant = (frameStart s l rx).variant := (passFrame_kept _ l _ _ _ _ _ _ _ _ h.lt).variant
  have hvar := hend.variant.trans (hvarOut.trans (hfailed.trans hu.kept.variant))
  refine runs_of_done _ (frameSync_due_runs h hmode skew rx ⟨hpos, .inr (.inr (.inl hst))⟩ hstep) ⟨?_, ?_, ?_⟩
  · rw [lstate_settled h.present hvar, hend.state_out hstate]
    exact hstate
  · rw [lane_settled, hend.lane, hlocked]
  · exact irq_settled h.present hvar (hend.logs.irq_stands 2 hirq)

end

theorem frameSync_out (hst : lstate s l = 5) : Runs (.frameSync l rx skew) s fun t =>
      lstate t l = 5 ∧ (t.lane l).expect = nextFrame (s.lane l).expect ∧ (t.lane l).locked = (s.lane l).locked := by
  have hu := frameStart_started h rx
  obtain ⟨u, hgone, hexec⟩ : ∃ u, FrameGone l (frameStart s l rx) u ∧
      exec (.frameSync l rx skew) s = done s (frameEnd l skew (s.lane l).expect u) :=
    ⟨_, passFrame_gone h.lt hu.held _ _ _ _ _ _ _ _, frameSync_due_runs h hmode skew rx ⟨hpos, .inr (.inr (.inr hst))⟩
      (syncStep_out ((hu.state h.lt).trans hst))⟩
  have hend := frameEnd_ended h.lt skew (s.lane l).expect u
  have hvar := hend.variant.trans (hgone.kept.variant.trans hu.kept.variant)
  have hstate : lstate u l = 5 := (hgone.kept.lstate h.lt).trans ((hu.state h.lt).trans hst)
  refine runs_of_done _ hexec ⟨?_, ?_, ?_⟩
  · rw [lstate_settled h.present hvar, hend.state_out (.inl hstate), hstate]
  · rw [lane_settled, hend.lane, hgone.expect, hu.expect]
  · rw [lane_settled, hend.lane]
    exact (congrArg Lane.locked hgone.core).trans hu.locked

end

/-! ## Neither searched nor passed -/

section
variable {s : State} {l : Nat} (h : LaneRuns s l) (skew : Nat) (rx : List RawSample)
include h

theorem frameSync_only_buffers (hidle : lstate s l = 6 ∨ laneMode s l ≠ 3 ∧ (128 ≤ (s.lane l).expect.1 ∨ lstate s l = 0 ∨ lstate s l = 1 ∨
      (lstate s l = 2 ∧ (s.lane l).marker = false ∧ (s.lane l).expect = (0, 0)))) : Runs (.frameSync l rx skew) s fun t =>
      t.lane l = { s.lane l with buf := (s.lane l).buf ++ takeIn s l rx } ∧ lstate t l = lstate s l := by
  have hnot : lstate s l = 6 ∨ laneMode s l ≠ 3 ∧ ¬syncDue s l := by
    refine hidle.imp_right fun ⟨hmode, hcase⟩ => ⟨hmode, fun ⟨hpos, hstate⟩ => ?_⟩
    rcases hcase with hc | hc | hc | ⟨hc, hmarker, hexpect⟩
    · omega
    · omega
    · omega
    · rcases hstate with ⟨-, hm | he⟩ | hs
      · exact absurd (hm.symm.trans hmarker) (by decide)
      · exact he hexpect
      · omega
  refine runs_of_done _ (h.frameSync_runs (frameSync_idle h.held hnot)) ⟨?_, ?_⟩
  · rw [lane_settled, h.lane_buffered, bufferedLane]
  · exact lstate_settled h.present rfl

/-- Position and rate of the reference lane. -/
def refShown (s : State) (l k : Nat) : State :=
  (s.setReg (Reg.RFL_POS l) (s.reg (Reg.RFL_POS k))).setReg (Reg.RFL_RATE l) (s.reg (Reg.RFL_RATE k))

omit h in
theorem refShown_shows (s : State) (l k : Nat) : (refShown s l k).reg (Reg.RFL_POS l) = s.reg (Reg.RFL_POS k) ∧
    (refShown s l k).reg (Reg.RFL_RATE l) = s.reg (Reg.RFL_RATE k) := by
  have hne : Reg.RFL_RATE l ≠ Reg.RFL_POS l := by simp only [Reg.RFL_POS, Reg.RFL_RATE]; omega
  constructor
  · rw [refShown, State.reg_setReg_ne _ _ _ _ hne, State.reg_setReg_same]
  · rw [refShown, State.reg_setReg_same]

omit h in
theorem refShown_kept (hl : l < 4) (s : State) (k : Nat) : RegsKept (laneOut [0x74, 0x78] l) s (refShown s l k) := by
  obtain ⟨hpos, hrate⟩ := (by decide : ∀ l < 4, laneOut [0x74, 0x78] l (Reg.RFL_POS l) ∧ laneOut [0x74, 0x78] l (Reg.RFL_RATE l)) l hl
  rw [refShown]
  exact ((RegsKept.refl _ s).setReg hpos _).setReg hrate _

omit h in
theorem crosstalkFrame_gone {v : State} (hl : l < 4) (hv : l < v.rd.lanes.length) : ∃ u, FrameGone l (refShown v l (laneRef v l)) u ∧
    crosstalkFrame l v = u.setFld (Reg.RFL_TR_STAT l) 0 22 (v.fld (Reg.RFL_TR_STAT (laneRef v l)) 0 22) := by
  refine ⟨_, passFrame_gone hl ?_ _ _ _ _ _ _ _ _, rfl⟩
  rw [refShown, State.setReg_rd, State.setReg_rd]
  exact hv

/-- A frame of an XTALK lane goes by with position, rate and phase of its reference lane. -/
theorem frameSync_crosstalk {k : Nat} (hmode : laneMode s l = 3) (h6 : lstate s l ≠ 6) (hk : laneRef s l = k) :
    Runs (.frameSync l rx skew) s fun t =>
      t.reg (Reg.RFL_POS l) = s.reg (Reg.RFL_POS k) ∧ t.reg (Reg.RFL_RATE l) = s.reg (Reg.RFL_RATE k) ∧
        t.fld (Reg.RFL_TR_STAT l) 0 22 = s.fld (Reg.RFL_TR_STAT k) 0 22 ∧ lstate t l = lstate s l := by
  have hheld : l < (s.setLane l (bufferedLane s l rx)).rd.lanes.length := by
    rw [(LanesKeep.setLane (v := fun _ => ()) s l rfl).length]
    exact h.held
  have hsync : frameSync l rx skew s = crosstalkFrame l (s.setLane l (bufferedLane s l rx)) :=
    (if_neg h6).trans (if_pos hmode)
  obtain ⟨u, hgone, hframe⟩ := crosstalkFrame_gone h.lt hheld
  have href : laneRef (s.setLane l (bufferedLane s l rx)) l = k := hk
  rw [href] at hgone hframe
  have hshown := refShown_kept h.lt (s.setLane l (bufferedLane s l rx)) k
  obtain ⟨hpos, hrate⟩ := refShown_shows (s.setLane l (bufferedLane s l rx)) l k
  obtain ⟨htrPos, htrRate, htrState⟩ : Reg.RFL_TR_STAT l ≠ Reg.RFL_POS l ∧ Reg.RFL_TR_STAT l ≠ Reg.RFL_RATE l ∧
      Reg.RFL_TR_STAT l ≠ Reg.STAT (pgRFL l) := by
    simp only [Reg.RFL_POS, Reg.RFL_RATE, Reg.RFL_TR_STAT, Reg.STAT, pgRFL]
    omega
  have hvar : (u.setFld (Reg.RFL_TR_STAT l) 0 22 ((s.setLane l (bufferedLane s l rx)).fld (Reg.RFL_TR_STAT k) 0 22)).variant = s.variant :=
    (State.setFld_variant ..).trans (hgone.kept.variant.trans hshown.variant)
  refine runs_of_done _ (h.frameSync_runs (hsync.trans hframe)) ⟨?_, ?_, ?_, ?_⟩
  · rw [settled_laneReg h.present hvar Reg.RFL_POS, State.reg_setFld_ne _ _ _ _ _ _ htrPos, hgone.kept.laneReg h.lt Reg.RFL_POS, hpos]
    rfl
  · rw [settled_laneReg h.present hvar Reg.RFL_RATE, State.reg_setFld_ne _ _ _ _ _ _ htrRate, hgone.kept.laneReg h.lt Reg.RFL_RATE, hrate]
    rfl
  · rw [State.fld_of_reg _ _ _ _ _ _ (settled_laneReg h.present hvar Reg.RFL_TR_STAT), State.fld_setFld_same _ _ _ _ _ (by decide)]
    exact Nat.mod_eq_of_lt (fieldOf_lt _ _ _)
  · rw [lstate_settled h.present hvar, lstate, State.fld_setFld_ne _ _ _ _ _ _ _ _ htrState]
    exact (hgone.kept.lstate h.lt).trans (hshown.lstate h.lt)

end

end Sys2Proof.Machine
end

section
/-! The marker window, the channel rate, and commands that do not concern a lane (R64, R68). -/
namespace Sys2Proof.Machine

/-- A lane that is absent or frozen, or that an event does not concern, is left as it is. -/
theorem laneCommand_idle {s : State} {l : Nat} {f : State → State} {Q : Prop} (hq : Q → f s = s)
    (h : lanePresent s l = false ∨ s.frozen (pgRFL l) = true ∨ Q) : (if lanePresent s l then s.unlessFrozen (pgRFL l) f else s) = s := by
  by_cases hp : lanePresent s l = true
  · rw [if_pos hp]
    exact unlessFrozen_idle hq (h.resolve_left (by rw [hp]; decide))
  · exact if_neg hp

theorem laneCommand_absent {s : State} {l : Nat} {f : State → State} (h : lanePresent s l = false ∨ s.frozen (pgRFL l) = true) :
    (if lanePresent s l then s.unlessFrozen (pgRFL l) f else s) = s :=
  laneCommand_idle (Q := False) False.elim (h.imp_right .inl)

theorem laneCommand_runs {s t : State} {l : Nat} {f : State → State} (h : LaneRuns s l) (ht : f s = t) :
    (if lanePresent s l then s.unlessFrozen (pgRFL l) f else s) = t :=
  (if_pos h.present).trans ((State.unlessFrozen_running h.running _).trans ht)

/-! ## The marker window ends (R68) -/

/-- No marker was found: the samples are in, the error is reported. -/
def markerMissed (s : State) (l : Nat) (rx : List RawSample) : State :=
  ((s.setLane l (bufferedLane s l rx)).raise (pgRFL l) 0).err (pgRFL l) 0x0003 l

/-- DSK has made room for the group's first position. -/
def markerStart (s : State) (l : Nat) (rx : List RawSample) : State := ringStore (markerMissed s l rx) (s.lane l).group 0

theorem markerMissed_lanes (s : State) (l : Nat) (rx : List RawSample) :
    (markerMissed s l rx).rd.lanes = (s.setLane l (bufferedLane s l rx)).rd.lanes := by
  rw [markerMissed, State.err_rd, State.raise_rd]

section
variable {s : State} {l skew : Nat} {rx : List RawSample}

theorem markerExpiry_found {q : Int × Nat} (hc : lstate s l = 2 ∧ !(s.lane l).marker ∧ (s.lane l).expect = (0, 0))
    (hq : syncSearch true 36 ((markerStart s l rx).fld (Reg.RFL_SYNC_CTRL l) 4 3) (laneWindow (bufferedLane s l rx) 36) = some q) :
    markerExpiry l rx skew s =
      noteSkew (passFrame (acceptSync (markerStart s l rx) l q.1 q.2) l (s.lane l).group 0 0 true q.1 q.2 false false) l skew := by
  rw [markerStart, markerMissed, bufferedLane] at hq
  simp only [markerExpiry, if_pos hc, hq, markerStart, markerMissed, bufferedLane]

theorem markerExpiry_lost (hc : lstate s l = 2 ∧ !(s.lane l).marker ∧ (s.lane l).expect = (0, 0))
    (hq : syncSearch true 36 ((markerStart s l rx).fld (Reg.RFL_SYNC_CTRL l) 4 3) (laneWindow (bufferedLane s l rx) 36) = none) :
    markerExpiry l rx skew s = goReacq (passFrame (markerStart s l rx) l (s.lane l).group 0 0 false 0 0 false true) l := by
  rw [markerStart, markerMissed, bufferedLane] at hq
  simp only [markerExpiry, if_pos hc, hq, markerStart, markerMissed, bufferedLane]

theorem markerExpiry_idle (h : lstate s l ≠ 2 ∨ (s.lane l).marker = true ∨ (s.lane l).expect ≠ (0, 0)) : markerExpiry l rx skew s = s := by
  refine if_neg fun ⟨hst, hm, he⟩ => ?_
  rcases h with h | h | h
  · exact h hst
  · rw [h] at hm
    exact absurd hm (by decide)
  · exact h he

variable (h : LaneRuns s l)
include h

theorem markerMissed_kept : RegsKept (laneOut logOffs l) s (markerMissed s l rx) := by
  obtain ⟨hraw, hstat, herr⟩ := (by decide : ∀ l < 4, laneOut logOffs l (Reg.IRQ_RAW (pgRFL l)) ∧
    laneOut logOffs l (Reg.IRQ_STAT (pgRFL l)) ∧ laneOut logOffs l (Reg.ERR_INFO (pgRFL l))) l h.lt
  rw [markerMissed]
  exact (((RegsKept.refl _ s).setLane l _).raise hraw hstat _).err herr _ _

theorem markerStart_kept : RegsKept (laneOut logOffs l) s (markerStart s l rx) :=
  (markerMissed_kept h).trans ((ringStore_kept _ _ _).beyond _ _)

theorem markerStart_lane : (markerStart s l rx).lane l = bufferedLane s l rx := by
  rw [State.lane, markerStart, ringStore_lanes, markerMissed_lanes, ← State.lane, h.lane_buffered]

theorem markerStart_held : l < (markerStart s l rx).rd.lanes.length := by
  rw [markerStart, ringStore_lanes, markerMissed_lanes, (LanesKeep.setLane (v := fun _ => ()) s l rfl).length]
  exact h.held

/-- Interrupt and error of the marker stand whatever follows. -/
theorem markerMissed_stands {t : State} (ht : Logs (pgRFL l) (markerStart s l rx) t) :
    t.irq (pgRFL l) 0 ∧ s.reports (pgRFL l) 0x0003 t := by
  have hlogs : Logs (pgRFL l) (markerMissed s l rx) t :=
    (Logs.of_kept (L := []) ((ringStore_kept _ _ _).beyond _ _) h.lt).trans ht
  rw [markerMissed] at hlogs
  have hirq : (((s.setLane l (bufferedLane s l rx)).raise (pgRFL l) 0).err (pgRFL l) 0x0003 l).irq (pgRFL l) 0 :=
    ((Logs.refl (pgRFL l) ((s.setLane l (bufferedLane s l rx)).raise (pgRFL l) 0)).err 0x0003 l (by decide)).irq_stands 0
      (irq_raise _ _ _ (by decide))
  have hne : Reg.IRQ_RAW (pgRFL l) ≠ Reg.ERR_INFO (pgRFL l) ∧ Reg.IRQ_STAT (pgRFL l) ≠ Reg.ERR_INFO (pgRFL l) := by
    simp only [Reg.IRQ_RAW, Reg.IRQ_STAT, Reg.ERR_INFO]; omega
  exact ⟨hlogs.irq_stands 0 hirq, hlogs.reports_err (by decide) (State.reg_raise_ne _ _ _ _ hne.1 hne.2)⟩

theorem markerStart_search (hq : Option (Int × Nat)) (hs : syncSearch true 36 (s.fld (Reg.RFL_SYNC_CTRL l) 4 3)
      (laneWindow ({ s.lane l with buf := (s.lane l).buf ++ takeIn s l rx }) 36) = hq) :
    syncSearch true 36 ((markerStart s l rx).fld (Reg.RFL_SYNC_CTRL l) 4 3) (laneWindow (bufferedLane s l rx) 36) = hq := by
  rw [State.fld_of_reg _ _ _ _ _ _ ((markerStart_kept h).laneReg h.lt Reg.RFL_SYNC_CTRL), bufferedLane, hs]

variable (hst : lstate s l = 2) (hm : (s.lane l).marker = false) (he : (s.lane l).expect = (0, 0))
include hst hm he

omit h in
theorem marker_due : lstate s l = 2 ∧ !(s.lane l).marker ∧ (s.lane l).expect = (0, 0) := ⟨hst, by rw [hm]; rfl, he⟩

theorem acqMarkerWindowExpiry_lost (hq : syncSearch true 36 (s.fld (Reg.RFL_SYNC_CTRL l) 4 3)
      (laneWindow ({ s.lane l with buf := (s.lane l).buf ++ takeIn s l rx }) 36) = none) :
    Runs (.acqMarkerWindowExpiry l rx skew) s fun t => lstate t l = 4 ∧ (t.lane l).reacqLeft = 4 ∧ (t.lane l).expect = (0, 1) ∧
      t.irq (pgRFL l) 0 ∧ t.irq (pgRFL l) 1 ∧ s.reports (pgRFL l) 0x0003 t := by
  have hgone := passFrame_gone h.lt (markerStart_held h (rx := rx)) (s.lane l).group 0 0 false 0 0 false true
  have hexpiry := markerExpiry_lost (skew := skew) (marker_due hst hm he) (markerStart_search h none hq)
  obtain ⟨u, hu⟩ : ∃ u, u = passFrame (markerStart s l rx) l (s.lane l).group 0 0 false 0 0 false true := ⟨_, rfl⟩
  rw [← hu] at hgone hexpiry
  have hvar := (goReacq_variant h.lt u).trans (hgone.kept.variant.trans (markerStart_kept h).variant)
  obtain ⟨hirq, hreports⟩ := markerMissed_stands h (hgone.logs.trans (goReacq_logs h.lt u))
  have hexpect : ((goReacq u l).lane l).expect = (0, 1) := by
    rw [(goReacq_lanes (v := Lane.expect) (fun _ _ _ _ => rfl) u l).lane l, hgone.expect, markerStart_lane h, bufferedLane, he]
    rfl
  refine runs_of_done _ (congrArg (done s) (laneCommand_runs h hexpiry)) ⟨?_, ?_, ?_, ?_, ?_, ?_⟩
  · rw [lstate_settled h.present hvar, lstate_goReacq h.lt]
  · rw [lane_settled, reacqLeft_goReacq hgone.held]
  · rw [lane_settled, hexpect]
  · exact irq_settled h.present hvar hirq
  · exact irq_settled h.present hvar (goReacq_irq h.lt u)
  · exact laneReports_settled h.present hvar hreports

theorem acqMarkerWindowExpiry_found {q : Int × Nat} (hswap : (s.lane l).swapDue = none)
    (hq : syncSearch true 36 (s.fld (Reg.RFL_SYNC_CTRL l) 4 3)
      (laneWindow ({ s.lane l with buf := (s.lane l).buf ++ takeIn s l rx }) 36) = some q) :
    Runs (.acqMarkerWindowExpiry l rx skew) s fun t => lstate t l = 3 ∧ (t.lane l).locked = true ∧ (t.lane l).expect = (0, 1) ∧
      t.irq (pgRFL l) 0 ∧ s.reports (pgRFL l) 0x0003 t ∧ t.fld (Reg.DSK_LANE_SKEW l) 0 11 = min skew 2047 := by
  have hlock := found_locks h.lt (markerStart_held h (rx := rx)) (.inr (by rw [markerStart_lane h]; exact hswap)) (s.lane l).group 0 0 q.1 q.2
  have hexpiry := markerExpiry_found (skew := skew) (marker_due hst hm he) (markerStart_search h (some q) hq)
  obtain ⟨u, hu⟩ : ∃ u, u = passFrame (acceptSync (markerStart s l rx) l q.1 q.2) l (s.lane l).group 0 0 true q.1 q.2 false false := ⟨_, rfl⟩
  rw [← hu] at hlock hexpiry
  have hskew : RegsKept (laneOut [] l) u (noteSkew u l skew) := (noteSkew_kept u l skew).beyond _ _
  have hvar := hskew.variant.trans (hlock.variant.trans (markerStart_kept h).variant)
  obtain ⟨hirq, hreports⟩ := markerMissed_stands h (hlock.logs.trans (.of_kept hskew h.lt))
  have hlane : (noteSkew u l skew).lane l = u.lane l := by rw [State.lane, noteSkew_rd, State.lane]
  refine runs_of_done _ (congrArg (done s) (laneCommand_runs h hexpiry)) ⟨?_, ?_, ?_, ?_, ?_, ?_⟩
  · rw [lstate_settled h.present hvar, hskew.lstate h.lt, hlock.state]
  · rw [lane_settled, hlane, hlock.locked]
  · rw [lane_settled, hlane, hlock.expect, markerStart_lane h, bufferedLane, he]
    rfl
  · exact irq_settled h.present hvar hirq
  · exact laneReports_settled h.present hvar hreports
  · rw [State.fld_of_reg _ _ _ _ _ _ (settled_laneReg h.present hvar Reg.DSK_LANE_SKEW), noteSkew_shows]

end

/-! ## The rate leaves the lane's range (R64) -/

/-- The rate and its error are shown. -/
def rateShown (s : State) (l rate : Nat) : State :=
  ((s.setFld (Reg.RFL_RATE l) 0 16 rate).raise (pgRFL l) 4).err (pgRFL l) 0x0004 l

/-- A lane that has stopped; what it has delivered of its group stays. -/
def Lane.halted (x : Lane) : Lane := { x.idle with pay := x.pay, stopped := true }

/-- The lane has stopped, and its group is to be read again. -/
def rateStopped (s : State) (l rate : Nat) : State :=
  let x := s.lane l
  let s := (rateShown s l rate).setLane l x.halted
  s.setRd { s.rd with groups := s.rd.groups.map (fun g => if g.psa / 8 % 128 = x.group then { g with again := true } else g) }

theorem rateOut_stops {s : State} {l rate : Nat} (hc : (lstate s l = 2 ∨ lstate s l = 3 ∨ lstate s l = 4 ∨ lstate s l = 5) ∧
      (s.lane l).expect.1 < 128 ∧ (s.fld (Reg.RFL_RATE l) 16 4 * rate < 3800 ∨ 16000 < s.fld (Reg.RFL_RATE l) 16 4 * rate)) :
    rateOut l rate s = (rateStopped s l rate).setLstate l 1 := if_pos hc

theorem rateOut_idle {s : State} {l rate : Nat} (h : lstate s l = 0 ∨ lstate s l = 1 ∨ lstate s l = 6 ∨ 128 ≤ (s.lane l).expect.1 ∨
      (3800 ≤ s.fld (Reg.RFL_RATE l) 16 4 * rate ∧ s.fld (Reg.RFL_RATE l) 16 4 * rate ≤ 16000)) : rateOut l rate s = s := by
  refine if_neg fun ⟨hst, hpos, hrange⟩ => ?_
  omega

theorem rateShown_rd (s : State) (l rate : Nat) : (rateShown s l rate).rd = s.rd := by
  rw [rateShown, State.err_rd, State.raise_rd, State.setFld_rd]

theorem rateStopped_lanes (s : State) (l rate : Nat) :
    (rateStopped s l rate).rd.lanes = ((rateShown s l rate).setLane l (s.lane l).halted).rd.lanes := by
  rw [rateStopped, State.setRd_rd]

theorem rateStopped_lane {s : State} {l : Nat} (hs : l < s.rd.lanes.length) (rate : Nat) :
    (rateStopped s l rate).lane l = (s.lane l).halted := by
  rw [State.lane, rateStopped_lanes, ← State.lane]
  exact lane_setLane (by rw [rateShown_rd]; exact hs) _

theorem rateStopped_groups (s : State) (l rate : Nat) : (rateStopped s l rate).rd.groups =
    s.rd.groups.map (fun g => if g.psa / 8 % 128 = (s.lane l).group then { g with again := true } else g) := by
  rw [rateStopped, State.setRd_rd, State.setLane, State.setRd_rd, rateShown_rd]

theorem laneRateOutOfRange_stops {s : State} {l rate : Nat} (h : LaneRuns s l)
    (hst : lstate s l = 2 ∨ lstate s l = 3 ∨ lstate s l = 4 ∨ lstate s l = 5) (hpos : (s.lane l).expect.1 < 128)
    (hrange : s.fld (Reg.RFL_RATE l) 16 4 * rate < 3800 ∨ 16000 < s.fld (Reg.RFL_RATE l) 16 4 * rate) :
    Runs (.laneRateOutOfRange l rate) s fun t => lstate t l = 1 ∧ t.fld (Reg.RFL_RATE l) 0 16 = rate % 65536 ∧ (t.lane l).locked = false ∧
      (t.lane l).stopped = true ∧ (∀ g ∈ t.rd.groups, g.psa / 8 % 128 = (s.lane l).group → g.again = true) ∧ t.irq (pgRFL l) 4 ∧
      s.reports (pgRFL l) 0x0004 t := by
  have hstop : RegsKept (laneOut [0x08, 0x6C] l) (rateShown s l rate) ((rateStopped s l rate).setLstate l 1) :=
    .trans (((RegsKept.refl _ _).setLane l _).setRd _) (setLstate_kept h.lt (rateStopped s l rate) 1)
  have hvar : ((rateStopped s l rate).setLstate l 1).variant = s.variant := by
    rw [hstop.variant, rateShown, State.err_variant, State.raise_variant, State.setFld_variant]
  have hlane : ((rateStopped s l rate).setLstate l 1).lane l = (s.lane l).halted := by
    rw [State.lane, setLstate_rd, ← State.lane, rateStopped_lane h.held]
  obtain ⟨hraw, hstat, herr⟩ : Reg.IRQ_RAW (pgRFL l) ≠ Reg.RFL_RATE l ∧ Reg.IRQ_STAT (pgRFL l) ≠ Reg.RFL_RATE l ∧
      Reg.ERR_INFO (pgRFL l) ≠ Reg.RFL_RATE l := by
    simp only [Reg.IRQ_RAW, Reg.IRQ_STAT, Reg.ERR_INFO, Reg.RFL_RATE, pgRFL]
    omega
  obtain ⟨hrawErr, hstatErr⟩ : Reg.IRQ_RAW (pgRFL l) ≠ Reg.ERR_INFO (pgRFL l) ∧ Reg.IRQ_STAT (pgRFL l) ≠ Reg.ERR_INFO (pgRFL l) := by
    simp only [Reg.IRQ_RAW, Reg.IRQ_STAT, Reg.ERR_INFO]
    omega
  have hrate : (rateShown s l rate).fld (Reg.RFL_RATE l) 0 16 = rate % 65536 := by
    rw [rateShown, State.fld_of_reg _ _ _ _ _ _ (State.reg_err_ne _ _ _ _ _ herr), State.fld_raise_ne _ _ _ _ _ _ hraw hstat,
      State.fld_setFld_same _ _ _ _ _ (by decide)]
    rfl
  have hlogs := Logs.of_kept hstop h.lt
  have hirq : (rateShown s l rate).irq (pgRFL l) 4 :=
    ((Logs.refl (pgRFL l) ((s.setFld (Reg.RFL_RATE l) 0 16 rate).raise (pgRFL l) 4)).err 0x0004 l (by decide)).irq_stands 4
      (irq_raise _ _ _ (by decide))
  refine runs_of_done _ (congrArg (done s) (laneCommand_runs h (rateOut_stops ⟨hst, hpos, hrange⟩))) ⟨?_, ?_, ?_, ?_, ?_, ?_, ?_⟩
  · rw [lstate_settled h.present hvar, lstate_setLstate _ _ (by decide)]
  · rw [State.fld_of_reg _ _ _ _ _ _ (settled_laneReg h.present hvar Reg.RFL_RATE),
      State.fld_of_reg _ _ _ _ _ _ (hstop.laneReg h.lt Reg.RFL_RATE), hrate]
  · rw [lane_settled, hlane]
    rfl
  · rw [lane_settled, hlane]
    rfl
  · rw [State.settled_rd, setLstate_rd, rateStopped_groups]
    intro g hg hgroup
    obtain ⟨r, -, rfl⟩ := List.mem_map.mp hg
    by_cases hr : r.psa / 8 % 128 = (s.lane l).group
    · rw [if_pos hr]
    · rw [if_neg hr] at hgroup
      exact absurd hgroup hr
  · exact irq_settled h.present hvar (hlogs.irq_stands 4 hirq)
  · refine laneReports_settled h.present hvar (Logs.reports_err (u := (s.setFld (Reg.RFL_RATE l) 0 16 rate).raise (pgRFL l) 4) hlogs (by decide) ?_)
    rw [State.reg_raise_ne _ _ _ _ hrawErr hstatErr, State.reg_setFld_ne _ _ _ _ _ _ herr.symm]

end Sys2Proof.Machine
end

section
/-! The rotation of a lane's converters (R58, R59, R61). -/
namespace Sys2Proof.Machine

/-! ## What the converters' registers show -/

theorem subStat_ne_adcStat (l k : Nat) : Reg.RFL_SUB_STAT l k ≠ Reg.RFL_ADC_STAT l := by
  simp only [Reg.RFL_SUB_STAT, Reg.RFL_ADC_STAT]; omega

theorem subStat_ne {l j k : Nat} (h : j ≠ k) : Reg.RFL_SUB_STAT l j ≠ Reg.RFL_SUB_STAT l k := by
  simp only [Reg.RFL_SUB_STAT]; omega

theorem spareOf_lt {s : State} {l k : Nat} (h : spareOf s l = some k) : k < 9 ∧ s.fld (Reg.RFL_ADC_STAT l) 0 4 = k := by
  by_cases hlt : s.fld (Reg.RFL_ADC_STAT l) 0 4 < 9
  · obtain rfl : s.fld (Reg.RFL_ADC_STAT l) 0 4 = k := Option.some.inj ((if_pos hlt).symm.trans h)
    exact ⟨hlt, rfl⟩
  · exact absurd ((if_neg hlt).symm.trans h) (by simp)

theorem spareOf_some {s : State} {l k : Nat} (hk : k < 9) (h : s.fld (Reg.RFL_ADC_STAT l) 0 4 = k) : spareOf s l = some k :=
  (if_pos (by rwa [h])).trans (by rw [h])

theorem spareOf_none {s : State} {l : Nat} (h : 9 ≤ s.fld (Reg.RFL_ADC_STAT l) 0 4) : spareOf s l = none := if_neg (Nat.not_lt.mpr h)

theorem spareOf_congr {s t : State} {l : Nat} (h : t.reg (Reg.RFL_ADC_STAT l) = s.reg (Reg.RFL_ADC_STAT l)) : spareOf t l = spareOf s l := by
  rw [spareOf, State.fld_of_reg _ _ _ _ _ _ h, spareOf]

theorem slotConverter_congr {s t : State} {l : Nat} (h : ∀ k, t.reg (Reg.RFL_SUB_STAT l k) = s.reg (Reg.RFL_SUB_STAT l k)) (slot : Nat) :
    slotConverter t l slot = slotConverter s l slot := by
  have hfld : ∀ k lo w, t.fld (Reg.RFL_SUB_STAT l k) lo w = s.fld (Reg.RFL_SUB_STAT l k) lo w := fun k lo w => State.fld_of_reg _ _ _ _ _ _ (h k)
  simp only [slotConverter, subRole, hfld]

theorem slotConverter_active {s : State} {l slot k : Nat} (h : slotConverter s l slot = some k) :
    k < 9 ∧ subRole s l k = 0 ∧ s.fld (Reg.RFL_SUB_STAT l k) 4 3 = slot := by
  have hfound := List.find?_some h
  rw [Bool.and_eq_true, beq_iff_eq, beq_iff_eq] at hfound
  exact ⟨List.mem_range.mp (List.mem_of_find?_eq_some h), hfound⟩

section
variable {s t : State} {l : Nat} (h : LaneRuns s l) (hv : t.variant = s.variant)
include h hv

theorem subStat_settled {k : Nat} (hk : k < 9) : (s.settled t).reg (Reg.RFL_SUB_STAT l k) = t.reg (Reg.RFL_SUB_STAT l k) :=
  settled_laneReg h.present hv (fun l => Reg.RFL_SUB_STAT l k) fun l hl =>
    (by decide : ∀ l < 4, ∀ k < 9, hardWired .ln7740 (Reg.RFL_SUB_STAT l k) = false ∧
      (l < 2 → hardWired .ln7720 (Reg.RFL_SUB_STAT l k) = false)) l hl k hk

theorem spareOf_settled : spareOf (s.settled t) l = spareOf t l := spareOf_congr (settled_laneReg h.present hv Reg.RFL_ADC_STAT)

end

theorem setLane_reg (s : State) (l : Nat) (x : Lane) (a : Nat) : (s.setLane l x).reg a = s.reg a := rfl
theorem setLane_variant (s : State) (l : Nat) (x : Lane) : (s.setLane l x).variant = s.variant := rfl
theorem spareOf_setLane (s : State) (l k : Nat) (x : Lane) : spareOf (s.setLane l x) k = spareOf s k := spareOf_congr rfl

/-! ## The exchange and a retirement -/

theorem swapped_shows (s : State) (l slot : Nat) {p k : Nat} (hk : k < 9) (hne : k ≠ p) :
    (swapped s l slot p k).reg (Reg.RFL_SUB_STAT l p) = Word.ofNat (slot * 16) ∧
      (swapped s l slot p k).reg (Reg.RFL_SUB_STAT l k) = 1#32 ∧ spareOf (swapped s l slot p k) l = some k := by
  refine ⟨?_, ?_, spareOf_some hk ?_⟩
  · rw [swapped, State.reg_addMod_ne _ _ _ _ _ _ (subStat_ne_adcStat l p).symm, State.reg_setFld_ne _ _ _ _ _ _ (subStat_ne_adcStat l p).symm,
      State.reg_setReg_ne _ _ _ _ (subStat_ne hne), State.reg_setReg_same]
  · rw [swapped, State.reg_addMod_ne _ _ _ _ _ _ (subStat_ne_adcStat l k).symm, State.reg_setFld_ne _ _ _ _ _ _ (subStat_ne_adcStat l k).symm,
      State.reg_setReg_same]
  · rw [swapped, State.addMod, State.fld_setFld_below _ _ _ _ _ _ _ (by decide) (by decide), State.fld_setFld_same _ _ _ _ _ (by decide)]
    exact Nat.mod_eq_of_lt (by omega)

/-- The spare is retired: the lane has none, and every other converter is as it was. -/
theorem retireShown_spare {s : State} {l k : Nat} (hsp : spareOf s l = some k) : (retireShown l s k).reg (Reg.RFL_SUB_STAT l k) = 2#32 ∧
    spareOf (retireShown l s k) l = none ∧ ∀ j, j ≠ k → (retireShown l s k).reg (Reg.RFL_SUB_STAT l j) = s.reg (Reg.RFL_SUB_STAT l j) := by
  rw [retireShown, if_pos hsp]
  have hnone : (((s.setFld (Reg.RFL_ADC_STAT l) 0 4 15).setReg (Reg.RFL_SUB_STAT l k) 2#32).setBit (Reg.RFL_ADC_STAT l) (4 + k) true).fld
      (Reg.RFL_ADC_STAT l) 0 4 = 15 := by
    obtain ⟨hk, -⟩ := spareOf_lt hsp
    rw [State.fld_setBit_below _ _ _ _ _ _ (by omega) (by omega), State.fld_setReg_ne _ _ _ _ _ _ (subStat_ne_adcStat l k),
      State.fld_setFld_same _ _ _ _ _ (by decide)]
    rfl
  refine ⟨?_, spareOf_none (by omega), fun j hj => ?_⟩
  · rw [State.reg_setBit_ne _ _ _ _ _ (subStat_ne_adcStat l k).symm, State.reg_setReg_same]
  · rw [State.reg_setBit_ne _ _ _ _ _ (subStat_ne_adcStat l j).symm, State.reg_setReg_ne _ _ _ _ (subStat_ne hj.symm),
      State.reg_setFld_ne _ _ _ _ _ _ (subStat_ne_adcStat l j).symm]

theorem retirePending_without {s : State} {l : Nat} (hsp : spareOf s l = none) (hpend : (s.lane l).retirePend = []) :
    retirePending s l = s.setLane l { s.lane l with retirePend := [] } := by
  simp only [retirePending, hsp, hpend, Option.isSome_none, Bool.false_eq_true, if_false, List.foldl_nil]

/-- A lane whose spare has been retired, with no other converter to retire. -/
structure SpareRetired (l k : Nat) (s t : State) : Prop where
  variant : t.variant = s.variant
  retired : t.reg (Reg.RFL_SUB_STAT l k) = 2#32
  others : ∀ j < 9, j ≠ k → t.reg (Reg.RFL_SUB_STAT l j) = s.reg (Reg.RFL_SUB_STAT l j)
  spare : spareOf t l = none
  pending : (t.lane l).retirePend = []
  held : l < t.rd.lanes.length
  logs : Logs (pgRFL l) s t

theorem retirePending_retires {s : State} {l k : Nat} (hl : l < 4) (hs : l < s.rd.lanes.length) (hsp : spareOf s l = some k)
    (hpend : (s.lane l).retirePend = []) : SpareRetired l k s (retirePending (retireNow l s k) l) := by
  obtain ⟨hk, -⟩ := spareOf_lt hsp
  obtain ⟨hretired, hnone, hothers⟩ := retireShown_spare hsp
  have hshown : LanesKeep Lane.retirePend s (retireShown l s k) := .of_lanes (by rw [retireShown_rd])
  have hlanes : LanesKeep Lane.retirePend s (retireNow l s k) := by
    rw [retireNow_eq]
    exact .ite (hshown.trans (laneFault_lanes (fun _ => rfl) _ l)) hshown
  have hfault : RegsKept (laneOut faultOffs l) (retireShown l s k) (retireNow l s k) := by
    rw [retireNow_eq]
    exact .ite (laneFault_kept hl _) (.refl _ _)
  have hsub : ∀ j < 9, (retireNow l s k).reg (Reg.RFL_SUB_STAT l j) = (retireShown l s k).reg (Reg.RFL_SUB_STAT l j) := fun j hj =>
    hfault.laneReg hl (fun l => Reg.RFL_SUB_STAT l j) fun l hl =>
      (by decide : ∀ l < 4, ∀ j < 9, ¬laneOut faultOffs l (Reg.RFL_SUB_STAT l j)) l hl j hj
  have hspare : spareOf (retireNow l s k) l = none := (spareOf_congr (hfault.laneReg hl Reg.RFL_ADC_STAT)).trans hnone
  have hpending : ((retireNow l s k).lane l).retirePend = [] := (hlanes.lane l).trans hpend
  have hheld : l < (retireNow l s k).rd.lanes.length := by rwa [hlanes.length]
  rw [retirePending_without hspare hpending]
  constructor
  case variant => exact (retireNow_declines hl s k).variant
  case retired => exact (hsub k hk).trans hretired
  case others => exact fun j hj hne => (hsub j hj).trans (hothers j hne)
  case spare => exact hspare
  case pending => rw [lane_setLane hheld]
  case held => rwa [(LanesKeep.setLane (v := fun _ => ()) (retireNow l s k) l rfl).length]
  case logs => exact (retireNow_declines hl s k).logs.trans (.of_regs rfl rfl)

/-! ## The rotation period expires -/

section
variable {s : State} {l : Nat} (h : LaneRuns s l) (hon : s.bit (Reg.RFL_ADC_CTRL l) 0 = true) (ofs gain skew : Int)
include h hon

theorem adcSpareSwap_waits (hst : lstate s l = 2 ∨ lstate s l = 4) : Runs (.adcSpareSwap l ofs gain skew) s fun t =>
      (t.lane l).swapDue = some (ofs, gain, skew) ∧ (∀ k ∈ List.range 9, t.reg (Reg.RFL_SUB_STAT l k) = s.reg (Reg.RFL_SUB_STAT l k)) := by
  have hswap : spareSwap l ofs gain skew s = s.setLane l { s.lane l with swapDue := some (ofs, gain, skew) } := by
    rw [spareSwap, hon, if_neg (by decide), if_pos hst]
  refine runs_of_done _ (congrArg (done s) (laneCommand_runs h hswap)) ⟨?_, fun k hk => ?_⟩
  · rw [lane_settled, lane_setLane h.held]
  · exact (subStat_settled h (setLane_variant s l _) (List.mem_range.mp hk)).trans (setLane_reg s l _ _)

variable (hst : lstate s l ≠ 2 ∧ lstate s l ≠ 4)
include hst

theorem adcSpareSwap_rotates {t : State} (ht : rotateSpare s l (ofs, gain, skew) = t) : exec (.adcSpareSwap l ofs gain skew) s = done s t := by
  refine congrArg (done s) (laneCommand_runs h ?_)
  rw [spareSwap, hon, if_neg (by decide), if_neg (by omega), ht]

end

/-- The spare's turn has given it its targets, where it is calibrated in its turn. -/
theorem rotateSpare_swaps {s : State} {l p : Nat} {m : Int × Int × Int} (hsp : spareOf s l = some p) (hgood : spareBad s l m = false) :
    ∃ u, RegsKept (subTargetRegs l p) s u ∧ u.rd = s.rd ∧ rotateSpare s l m = (swapInto u l (s.lane l).nextSlot).setLane l
      { (swapInto u l (s.lane l).nextSlot).lane l with nextSlot := ((s.lane l).nextSlot + 1) % 8 } := by
  by_cases hcal : s.bit (Reg.RFL_ADC_CTRL l) 16 = true
  · have hrd := writeSubTargets_rd s l p (!s.bit (Reg.STAT pgCAL) 8) (spareTargets s l m).1 (spareTargets s l m).2.1 (spareTargets s l m).2.2
    refine ⟨_, writeSubTargets_kept s l p (!s.bit (Reg.STAT pgCAL) 8) (spareTargets s l m).1 (spareTargets s l m).2.1 (spareTargets s l m).2.2,
      hrd, ?_⟩
    simp only [rotateSpare, hsp, hgood, hcal, Bool.false_eq_true, if_false, if_true, State.lane, hrd]
  · refine ⟨s, .refl _ s, rfl, ?_⟩
    simp only [rotateSpare, hsp, hgood, hcal, Bool.false_eq_true, if_false]

section
variable {s : State} {l p k : Nat} (h : LaneRuns s l) (hon : s.bit (Reg.RFL_ADC_CTRL l) 0 = true) (ofs gain skew : Int)
variable (hst : lstate s l ≠ 2 ∧ lstate s l ≠ 4) (hsp : spareOf s l = some p)
include h hon hst hsp

section
variable (hgood : spareBad s l (ofs, gain, skew) = false) (hk : slotConverter s l (s.lane l).nextSlot = some k) (hne : k ≠ p)
include hgood hk

/-- The slot is taken over as the lane stands once the spare has its targets. -/
theorem adcSpareSwap_takes_over : ∃ u y, RegsKept (subTargetRegs l p) s u ∧ u.rd = s.rd ∧ spareOf u l = some p ∧
    slotConverter u l (s.lane l).nextSlot = some k ∧ y.nextSlot = ((s.lane l).nextSlot + 1) % 8 ∧
    y.retirePend = ((swapInto u l (s.lane l).nextSlot).lane l).retirePend ∧
    exec (.adcSpareSwap l ofs gain skew) s = done s ((swapInto u l (s.lane l).nextSlot).setLane l y) := by
  obtain ⟨u, hkept, hrd, hrotate⟩ := rotateSpare_swaps hsp hgood
  have hadc : u.reg (Reg.RFL_ADC_STAT l) = s.reg (Reg.RFL_ADC_STAT l) := hkept.reg _ fun hin => by
    simp only [subTargetRegs, Reg.RFL_ADC_STAT] at hin
    omega
  have hsub : ∀ j, u.reg (Reg.RFL_SUB_STAT l j) = s.reg (Reg.RFL_SUB_STAT l j) := fun j => hkept.reg _ fun hin => by
    simp only [subTargetRegs, Reg.RFL_SUB_STAT] at hin
    omega
  refine ⟨u, _, hkept, hrd, (spareOf_congr hadc).trans hsp, (slotConverter_congr hsub _).trans hk, ?_, ?_,
    adcSpareSwap_rotates h hon ofs gain skew hst hrotate⟩ <;> rfl

include hne

theorem adcSpareSwap_exchanges (hpend : k ∉ (s.lane l).retirePend) : Runs (.adcSpareSwap l ofs gain skew) s fun t =>
      t.reg (Reg.RFL_SUB_STAT l p) = Word.ofNat ((s.lane l).nextSlot * 16) ∧ t.reg (Reg.RFL_SUB_STAT l k) = 1#32 ∧ spareOf t l = some k ∧
        (t.lane l).nextSlot = ((s.lane l).nextSlot + 1) % 8 := by
  obtain ⟨u, y, hkept, hrd, hspU, hkU, hnext, -, hexec⟩ := adcSpareSwap_takes_over h hon ofs gain skew hst hsp hgood hk
  obtain ⟨hk9, -⟩ := slotConverter_active hk
  obtain ⟨hp9, -⟩ := spareOf_lt hsp
  have hlane : u.lane l = s.lane l := by rw [State.lane, hrd, State.lane]
  rw [swapInto_swaps hspU hkU (by rwa [hlane])] at hexec
  obtain ⟨htaken, hfreed, hspare⟩ := swapped_shows u l (s.lane l).nextSlot hk9 hne
  have hvar := (setLane_variant _ l y).trans ((swapped_kept u l (s.lane l).nextSlot p k).variant.trans hkept.variant)
  refine runs_of_done _ hexec ⟨?_, ?_, ?_, ?_⟩
  · rw [subStat_settled h hvar hp9, setLane_reg, htaken]
  · rw [subStat_settled h hvar hk9, setLane_reg, hfreed]
  · rw [spareOf_settled h hvar, spareOf_setLane, hspare]
  · rw [lane_settled, lane_setLane (by rw [swapped_rd, hrd]; exact h.held), hnext]

theorem adcSpareSwap_retires (hpend : (s.lane l).retirePend = [k]) : Runs (.adcSpareSwap l ofs gain skew) s fun t =>
      t.reg (Reg.RFL_SUB_STAT l p) = Word.ofNat ((s.lane l).nextSlot * 16) ∧ t.reg (Reg.RFL_SUB_STAT l k) = 2#32 ∧ spareOf t l = none ∧
        (t.lane l).retirePend = [] := by
  obtain ⟨u, y, hkept, hrd, hspU, hkU, -, hpendY, hexec⟩ := adcSpareSwap_takes_over h hon ofs gain skew hst hsp hgood hk
  obtain ⟨hk9, -⟩ := slotConverter_active hk
  obtain ⟨hp9, -⟩ := spareOf_lt hsp
  have hlane : u.lane l = s.lane l := by rw [State.lane, hrd, State.lane]
  have hrest : (u.lane l).retirePend.filter (· != k) = [] := by simp [hlane, hpend]
  rw [swapInto_retires hspU hkU (by rw [hlane, hpend]; exact List.mem_singleton_self k), hrest] at hexec hpendY
  obtain ⟨htaken, -, hspare⟩ := swapped_shows u l (s.lane l).nextSlot hk9 hne
  have hswapped := swapped_kept u l (s.lane l).nextSlot p k
  have hheld : l < (swapped u l (s.lane l).nextSlot p k).rd.lanes.length := by rw [swapped_rd, hrd]; exact h.held
  generalize swapped u l (s.lane l).nextSlot p k = w at hexec hpendY htaken hspare hswapped hheld
  have hret := retirePending_retires (s := w.setLane l { u.lane l with retirePend := [] }) h.lt
    (by rwa [(LanesKeep.setLane (v := fun _ => ()) w l rfl).length]) ((spareOf_setLane w l l _).trans hspare) (by rw [lane_setLane hheld])
  have hvar := (setLane_variant _ l y).trans (hret.variant.trans ((setLane_variant w l _).trans (hswapped.variant.trans hkept.variant)))
  refine runs_of_done _ hexec ⟨?_, ?_, ?_, ?_⟩
  · rw [subStat_settled h hvar hp9, setLane_reg, hret.others p hp9 hne.symm, setLane_reg, htaken]
  · rw [subStat_settled h hvar hk9, setLane_reg, hret.retired]
  · rw [spareOf_settled h hvar, spareOf_setLane, hret.spare]
  · rw [lane_settled, lane_setLane hret.held, hpendY, hret.pending]

end

theorem adcSpareSwap_bad (hbad : spareBad s l (ofs, gain, skew) = true) (hrole : subRole s l p ≠ 2) (hpend : (s.lane l).retirePend = []) :
    Runs (.adcSpareSwap l ofs gain skew) s fun t =>
      t.reg (Reg.RFL_SUB_STAT l p) = 2#32 ∧ spareOf t l = none ∧ t.irq (pgRFL l) 3 ∧ s.reports (pgRFL l) 0x0002 t := by
  obtain ⟨hp9, -⟩ := spareOf_lt hsp
  obtain ⟨u, hu⟩ : ∃ u, u = ((s.raise (pgRFL l) 3).err (pgRFL l) 0x0002 p).report (pgRFL l) 0x0002 15 [] := ⟨_, rfl⟩
  have hrd : u.rd = s.rd := by rw [hu, State.report_rd, State.err_rd, State.raise_rd]
  have hne : Reg.IRQ_RAW (pgRFL l) ≠ Reg.RFL_ADC_STAT l ∧ Reg.IRQ_STAT (pgRFL l) ≠ Reg.RFL_ADC_STAT l ∧
      Reg.ERR_INFO (pgRFL l) ≠ Reg.RFL_ADC_STAT l ∧ Reg.IRQ_RAW (pgRFL l) ≠ Reg.ERR_INFO (pgRFL l) ∧
      Reg.IRQ_STAT (pgRFL l) ≠ Reg.ERR_INFO (pgRFL l) := by
    simp only [Reg.IRQ_RAW, Reg.IRQ_STAT, Reg.ERR_INFO, Reg.RFL_ADC_STAT, pgRFL]
    omega
  obtain ⟨hraw, hstat, herr, hrawErr, hstatErr⟩ := hne
  have hspU : spareOf u l = some p := by
    rw [← hsp]
    refine spareOf_congr ?_
    rw [hu, State.reg_report, State.reg_err_ne _ _ _ _ _ herr, State.reg_raise_ne _ _ _ _ hraw hstat]
  have hret := retirePending_retires h.lt (by rw [hrd]; exact h.held) hspU (by rw [State.lane, hrd]; exact hpend)
  have hrotate : rotateSpare s l (ofs, gain, skew) = retirePending (retireNow l u p) l := by
    rw [hu] at hspU ⊢
    simp only [rotateSpare, hsp, hbad, if_true, retireConverter, if_neg hrole, hspU, true_or]
  have hvar : _ = s.variant := hret.variant.trans (by rw [hu, State.report_variant, State.err_variant, State.raise_variant])
  have hreported : Logs (pgRFL l) ((s.raise (pgRFL l) 3).err (pgRFL l) 0x0002 p) u := by
    rw [hu]
    exact .of_regs (State.reg_report ..) (State.reg_report ..)
  have hlogs := hreported.trans hret.logs
  refine runs_of_done _ (adcSpareSwap_rotates h hon ofs gain skew hst hrotate) ⟨?_, ?_, ?_, ?_⟩
  · exact (subStat_settled h hvar hp9).trans hret.retired
  · exact (spareOf_settled h hvar).trans hret.spare
  · exact irq_settled h.present hvar (hlogs.irq_stands 3
      (((Logs.refl (pgRFL l) (s.raise (pgRFL l) 3)).err 0x0002 p (by decide)).irq_stands 3 (irq_raise _ _ _ (by decide))))
  · exact laneReports_settled h.present hvar (hlogs.reports_err (by decide) (State.reg_raise_ne _ _ _ _ hrawErr hstatErr))

end

theorem spareSwap_idle {s : State} {l : Nat} {ofs gain skew : Int} (h : s.bit (Reg.RFL_ADC_CTRL l) 0 = false ∨
      (lstate s l ≠ 2 ∧ lstate s l ≠ 4 ∧ spareOf s l = none)) : spareSwap l ofs gain skew s = s := by
  rcases h with h | ⟨h2, h4, hnone⟩
  · rw [spareSwap, h]
    exact if_pos rfl
  · rw [spareSwap]
    split
    · rfl
    · rw [if_neg (by omega)]
      simp only [rotateSpare, hnone]

end Sys2Proof.Machine
end

section
/-! A lane at bit 0 of a link zone (R57, R63, R67, R75, R104, R121, R297). -/
namespace Sys2Proof.Machine

/-! ## What is put in force -/

/-- The lane with the PGA and high-pass code in force. -/
def enteredLane (s : State) (l : Nat) : Lane :=
  { s.lane l with pga := s.fld (Reg.RFL_AFE l) 0 6, hpf := s.fld (Reg.RFL_AFE l) 8 2, sparePick := none, stopped := false }

/-- Codes and plan are in force, and a group whose reading was broken off begins anew. -/
def zoneEntered (s : State) (l g : Nat) : State :=
  let s := s.setLane l (enteredLane s l)
  readAgain (s.setRd { s.rd with plan := nextPlan s }) (g % 128)

/-- The lane acquires, takes the group without acquiring, or stays as it is. -/
def zoneTaken (l g rate : Nat) (rx : List RawSample) (pay : List PayFrame) (s : State) : State :=
  if laneMode s l = 0 ∨ lstate s l = 6 ∨ lgRuns s ∨ (lstate s l = 0 ∧ (runningArm s).isNone ∧ laneMode s l ≠ 3) then s
  else if laneMode s l = 3 then s.setLane l { (s.lane l).idle with group := g % 128, pay := pay }
  else beginAcq l g rate rx s

/-- The spare that a statistics run picked is exchanged, where the converter is still active. -/
def zonePicked (s : State) (l g : Nat) : State := match (s.lane l).sparePick with
  | some k => if subRole (zoneEntered s l g) l k = 0 then
      swapInto (zoneEntered s l g) l ((zoneEntered s l g).fld (Reg.RFL_SUB_STAT l k) 4 3) else zoneEntered s l g
  | none => zoneEntered s l g

theorem linkZone_eq (l g rate : Nat) (rx : List RawSample) (s : State) :
    linkZone l g rate rx s = zoneTaken l g rate rx (s.lane l).pay (zonePicked s l g) := rfl

theorem zonePicked_none {s : State} {l : Nat} (g : Nat) (h : (s.lane l).sparePick = none) : zonePicked s l g = zoneEntered s l g := by
  simp only [zonePicked, h]

theorem zonePicked_some {s : State} {l k : Nat} (g : Nat) (h : (s.lane l).sparePick = some k) (hactive : subRole (zoneEntered s l g) l k = 0) :
    zonePicked s l g = swapInto (zoneEntered s l g) l ((zoneEntered s l g).fld (Reg.RFL_SUB_STAT l k) 4 3) := by
  simp only [zonePicked, h, if_pos hactive]

theorem zoneEntered_kept (s : State) (l g : Nat) : RegsKept (fun _ => False) s (zoneEntered s l g) :=
  (((RegsKept.refl _ s).setLane l _).setRd _).setRd _

theorem zoneEntered_reg (s : State) (l g a : Nat) : (zoneEntered s l g).reg a = s.reg a := (zoneEntered_kept s l g).reg a id
theorem zoneEntered_wenc (s : State) (l g : Nat) : (zoneEntered s l g).wenc = s.wenc := rfl

theorem zoneEntered_lanes (s : State) (l g : Nat) : (zoneEntered s l g).rd.lanes = (s.setLane l (enteredLane s l)).rd.lanes := rfl

theorem zoneEntered_plan (s : State) (l g : Nat) : (zoneEntered s l g).rd.plan = nextPlan s := rfl

theorem zoneEntered_lane {s : State} {l : Nat} (hs : l < s.rd.lanes.length) (g : Nat) : (zoneEntered s l g).lane l = enteredLane s l := by
  rw [State.lane, zoneEntered_lanes, ← State.lane, lane_setLane hs]

theorem zoneEntered_held {s : State} {l : Nat} (hs : l < s.rd.lanes.length) (g : Nat) : l < (zoneEntered s l g).rd.lanes.length := by
  rwa [zoneEntered_lanes, (LanesKeep.setLane (v := fun _ => ()) s l rfl).length]

section
variable {s t : State} (hreg : ∀ a, t.reg a = s.reg a) (hwenc : t.wenc = s.wenc)
include hreg

theorem lstate_of_regs (l : Nat) : lstate t l = lstate s l := State.fld_of_reg _ _ _ _ _ _ (hreg _)
theorem lgRuns_of_regs : lgRuns t = lgRuns s := by rw [lgRuns, State.fld_of_reg _ _ _ _ _ _ (hreg (Reg.STAT 0x02)), lgRuns]

include hwenc

omit hreg in
theorem runningArm_of_wenc : runningArm t = runningArm s := by rw [runningArm, hwenc, runningArm]

theorem laneMode_of_regs (l : Nat) : laneMode t l = laneMode s l := by
  rw [laneMode, runningArm_of_wenc hwenc, State.fld_of_reg _ _ _ _ _ _ (hreg (Reg.RFL_MODE l)), laneMode]

end

/-! ## Acquisition begins (R67) -/

/-- Registers as an acquisition starts: the lane's clock runs, rate and position are shown, the loops' flags are clear. -/
def acqRegs (s : State) (l g rate : Nat) : State :=
  let s := s.setBit Reg.SYS_CLK (4 + l) true
  let s := s.setReg (Reg.RFL_RATE l) (Word.ofNat (rate % 65536 + chooseOsr s l rate * 65536))
  let s := s.setReg (Reg.RFL_TR_STAT l) (putField (putField (s.reg (Reg.RFL_TR_STAT l)) 0 16 0) 24 1 0)
  let s := s.setReg (Reg.RFL_POS l) (Word.ofNat (g % 128 * 65536))
  s.setFld (Reg.RFL_SYNC_STAT l) 0 2 0

/-- Where the marker lies. -/
def acqMarker (s : State) (l : Nat) (rx : List RawSample) : Option Int := markerSearch s l ((rxBits (takeIn s l rx)).drop 1887)

/-- Samples up to the preamble's end. -/
def acqLength (s : State) (l : Nat) (rx : List RawSample) : Nat := (1984 + (acqMarker s l rx).getD 0).toNat

/-- The lane as its acquisition of group g starts; `u` has the registers of then. -/
def acqLane (s u : State) (l g : Nat) (rx : List RawSample) : Lane :=
  { (s.lane l).idle with
    group := g % 128, expect := (0, 0), marker := (acqMarker u l rx).isSome, buf := (takeIn u l rx).drop (acqLength u l rx - 40),
    pay := (s.lane l).pay, outRun := if lstate s l = 5 then (s.lane l).outRun else 0 }

/-- The lane acquires. -/
def acqBegun (s : State) (l g rate : Nat) (rx : List RawSample) : State :=
  let u := acqRegs s l g rate
  (u.setLane l (acqLane s u l g rx)).setLstate l 2

theorem beginAcq_eq (s : State) (l g rate : Nat) (rx : List RawSample) : beginAcq l g rate rx s =
    runPreamble l (acqLength (acqRegs s l g rate) l rx) (takeIn (acqRegs s l g rate) l rx) (acqBegun s l g rate rx) := rfl

/-- The loops have run over the preamble; the lane keeps its last words. -/
theorem runPreamble_eq (l n : Nat) (b : List LaneSample) (s : State) : ∃ q k w, runPreamble l n b s =
    ((putLoop s l q).setFld (Reg.RFL_AGC_STAT l) 16 8 k).setLane l
      { ((putLoop s l q).setFld (Reg.RFL_AGC_STAT l) 16 8 k).lane l with last8 := w } := ⟨_, _, _, rfl⟩

/-! ## What an acquisition leaves -/

/-- What the loops do not touch of a lane that enters a group. -/
def Lane.zone (x : Lane) : Nat × Nat × Option Nat × Nat × (Nat × Nat) × Bool := (x.pga, x.hpf, x.sparePick, x.group, x.expect, x.marker)

/-- What an acquisition may change of the lane's page. -/
abbrev acqOffs : List Nat := [0x08, 0x6C, 0x74, 0x78] ++ loopOffs

theorem setLane_plan (s : State) (l : Nat) (x : Lane) : (s.setLane l x).rd.plan = s.rd.plan := rfl

theorem putLoop_plan (s : State) (l : Nat) (q : Loop) : (putLoop s l q).rd.plan = s.rd.plan := by
  have h : (loopShown s l q).rd.plan = s.rd.plan := by rw [loopShown, setLane_plan, loopNumbers_rd]
  rw [putLoop_eq]
  split
  · rw [State.err_rd, State.raise_rd, State.setBit_rd, h]
  · exact h

theorem runPreamble_plan (l n : Nat) (b : List LaneSample) (s : State) : (runPreamble l n b s).rd.plan = s.rd.plan := by
  obtain ⟨q, k, w, h⟩ := runPreamble_eq l n b s
  rw [h, setLane_plan, State.setFld_rd, putLoop_plan]

theorem runPreamble_lanes (l n : Nat) (b : List LaneSample) (s : State) : LanesKeep Lane.zone s (runPreamble l n b s) := by
  obtain ⟨q, k, w, h⟩ := runPreamble_eq l n b s
  rw [h]
  exact ((putLoop_lanes (fun _ _ _ _ _ _ _ _ => rfl) s l q).trans (.of_lanes (by rw [State.setFld_rd]))).trans (.setLane _ l rfl)

theorem rxBits_takeIn (s t : State) (l : Nat) (rx : List RawSample) : rxBits (takeIn s l rx) = rxBits (takeIn t l rx) := by
  have h : ∀ u, rxBits (takeIn u l rx) = (rx.zip (rx.drop 1)).map (fun q => q.1.a != q.2.a) := fun u => by
    rw [rxBits, takeIn, ← List.map_drop, List.zip_map, List.map_map]
    rfl
  rw [h, h]

theorem acqMarker_congr {s t : State} {l : Nat} (h : t.reg (Reg.RFL_SYNC_CTRL l) = s.reg (Reg.RFL_SYNC_CTRL l)) (rx : List RawSample) :
    acqMarker t l rx = markerSearch s l ((rxBits (takeIn s l rx)).drop 1887) := by
  rw [acqMarker, markerSearch, State.fld_of_reg _ _ _ _ _ _ h, rxBits_takeIn t s, markerSearch]

theorem acqRegs_rd (s : State) (l g rate : Nat) : (acqRegs s l g rate).rd = s.rd := by
  simp only [acqRegs, State.setFld_rd, State.setReg_rd, State.setBit_rd]

/-- Rate and position as shown. -/
theorem acqRegs_shows (s : State) (l g rate : Nat) : (acqRegs s l g rate).fld (Reg.RFL_POS l) 16 7 = g % 128 ∧
    (acqRegs s l g rate).fld (Reg.RFL_RATE l) 0 16 = rate % 65536 := by
  obtain ⟨hposSync, hrateSync, hratePos, hrateTr⟩ : Reg.RFL_SYNC_STAT l ≠ Reg.RFL_POS l ∧ Reg.RFL_SYNC_STAT l ≠ Reg.RFL_RATE l ∧
      Reg.RFL_POS l ≠ Reg.RFL_RATE l ∧ Reg.RFL_TR_STAT l ≠ Reg.RFL_RATE l := by
    simp only [Reg.RFL_SYNC_STAT, Reg.RFL_POS, Reg.RFL_RATE, Reg.RFL_TR_STAT]
    omega
  constructor
  · rw [acqRegs, State.fld_setFld_ne _ _ _ _ _ _ _ _ hposSync, State.fld, State.reg_setReg_same, fieldOf, Word.ofNat, BitVec.toNat_ofNat]
    omega
  · rw [acqRegs, State.fld_setFld_ne _ _ _ _ _ _ _ _ hrateSync, State.fld_setReg_ne _ _ _ _ _ _ hratePos,
      State.fld_setReg_ne _ _ _ _ _ _ hrateTr, State.fld, State.reg_setReg_same, fieldOf, Word.ofNat, BitVec.toNat_ofNat]
    omega

theorem acqBegun_plan (s : State) (l g rate : Nat) (rx : List RawSample) : (acqBegun s l g rate rx).rd.plan = s.rd.plan := by
  rw [acqBegun, setLstate_rd, setLane_plan, acqRegs_rd]

theorem acqBegun_lane {s : State} {l : Nat} (hs : l < s.rd.lanes.length) (g rate : Nat) (rx : List RawSample) :
    (acqBegun s l g rate rx).lane l = acqLane s (acqRegs s l g rate) l g rx := by
  rw [acqBegun, State.lane, setLstate_rd, ← State.lane]
  exact lane_setLane (by rwa [acqRegs_rd]) _

section
variable {l : Nat} (hl : l < 4)
include hl

theorem runPreamble_kept (n : Nat) (b : List LaneSample) (s : State) : RegsKept (laneOut loopOffs l) s (runPreamble l n b s) := by
  obtain ⟨q, k, w, h⟩ := runPreamble_eq l n b s
  rw [h]
  exact ((putLoop_kept hl s q).setFld (laneOut_mono (by decide) (gainOffs_out hl).1) _ _ _).setLane l _

theorem acqRegs_kept (s : State) (g rate : Nat) :
    RegsKept (laneOut acqOffs l) (s.setBit Reg.SYS_CLK (4 + l) true) (acqRegs s l g rate) := by
  obtain ⟨hrate, htr, hpos, hsync⟩ := (by decide : ∀ l < 4, laneOut acqOffs l (Reg.RFL_RATE l) ∧ laneOut acqOffs l (Reg.RFL_TR_STAT l) ∧
    laneOut acqOffs l (Reg.RFL_POS l) ∧ laneOut acqOffs l (Reg.RFL_SYNC_STAT l)) l hl
  rw [acqRegs]
  exact ((((RegsKept.refl _ _).setReg hrate _).setReg htr _).setReg hpos _).setFld hsync _ _ _

theorem acqBegun_kept (s : State) (g rate : Nat) (rx : List RawSample) :
    RegsKept (laneOut [0x08, 0x6C] l) (acqRegs s l g rate) (acqBegun s l g rate rx) := by
  rw [acqBegun]
  exact ((RegsKept.refl _ _).setLane l _).trans (setLstate_kept hl _ 2)

/-- Once the lane's registers show the acquisition, the search and the loops change what else is shown. -/
theorem beginAcq_after (s : State) (g rate : Nat) (rx : List RawSample) :
    RegsKept (laneOut ([0x08, 0x6C] ++ loopOffs) l) (acqRegs s l g rate) (beginAcq l g rate rx s) := by
  rw [beginAcq_eq]
  exact ((acqBegun_kept hl s g rate rx).widen).trans ((runPreamble_kept hl _ _ _).widen)

theorem beginAcq_kept (s : State) (g rate : Nat) (rx : List RawSample) :
    RegsKept (laneOut acqOffs l) (s.setBit Reg.SYS_CLK (4 + l) true) (beginAcq l g rate rx s) :=
  (acqRegs_kept hl s g rate).trans ((beginAcq_after hl s g rate rx).widen)

theorem lstate_beginAcq (s : State) (g rate : Nat) (rx : List RawSample) : lstate (beginAcq l g rate rx s) l = 2 := by
  rw [beginAcq_eq, (runPreamble_kept hl _ _ _).lstate hl, acqBegun]
  exact lstate_setLstate _ l (by decide)

end

theorem beginAcq_plan (s : State) (l g rate : Nat) (rx : List RawSample) : (beginAcq l g rate rx s).rd.plan = s.rd.plan := by
  rw [beginAcq_eq, runPreamble_plan, acqBegun_plan]

theorem beginAcq_lane {s : State} {l : Nat} (hs : l < s.rd.lanes.length) (g rate : Nat) (rx : List RawSample) :
    ((beginAcq l g rate rx s).lane l).zone = (acqLane s (acqRegs s l g rate) l g rx).zone := by
  rw [beginAcq_eq, (runPreamble_lanes _ _ _ _).lane l, acqBegun_lane hs]

/-! ## The three ways into a group -/

section
variable {w : State} {l : Nat} (g rate : Nat) (rx : List RawSample) (pay : List PayFrame)

theorem zoneTaken_stays (h : laneMode w l = 0 ∨ lstate w l = 6 ∨ lgRuns w = true ∨ (lstate w l = 0 ∧ runningArm w = none ∧ laneMode w l ≠ 3)) :
    zoneTaken l g rate rx pay w = w :=
  if_pos (h.imp_right (.imp_right (.imp_right fun ⟨h0, hn, h3⟩ => ⟨h0, by rw [hn]; rfl, h3⟩)))

theorem zoneTaken_crosstalk (h3 : laneMode w l = 3) (h6 : lstate w l ≠ 6) (hlg : lgRuns w = false) :
    zoneTaken l g rate rx pay w = w.setLane l { (w.lane l).idle with group := g % 128, pay := pay } := by
  refine (if_neg ?_).trans (if_pos h3)
  rintro (h | h | h | ⟨-, -, h⟩)
  · omega
  · exact h6 h
  · exact absurd (h.symm.trans hlg) (by decide)
  · exact h h3

theorem zoneTaken_acquires (h0 : laneMode w l ≠ 0) (h3 : laneMode w l ≠ 3) (h6 : lstate w l ≠ 6) (hlg : lgRuns w = false)
    (hon : lstate w l ≠ 0 ∨ (runningArm w).isSome = true) : zoneTaken l g rate rx pay w = beginAcq l g rate rx w := by
  refine (if_neg ?_).trans (if_neg h3)
  rintro (h | h | h | ⟨h, hn, -⟩)
  · exact h0 h
  · exact h6 h
  · exact absurd (h.symm.trans hlg) (by decide)
  · rcases hon with ho | ho
    · exact ho h
    · rw [Option.isNone_iff_eq_none.mp hn] at ho
      exact absurd ho (by decide)

/-- What every way into a group leaves as it was put in force. -/
structure ZoneKept (l : Nat) (w t : State) : Prop where
  kept : RegsKept (fun a => laneOut acqOffs l a ∨ a = Reg.SYS_CLK) w t
  pga : (t.lane l).pga = (w.lane l).pga
  hpf : (t.lane l).hpf = (w.lane l).hpf
  pick : (t.lane l).sparePick = (w.lane l).sparePick
  plan : t.rd.plan = w.rd.plan

theorem zoneTaken_kept (hl : l < 4) (hw : l < w.rd.lanes.length) : ZoneKept l w (zoneTaken l g rate rx pay w) := by
  unfold zoneTaken
  split
  · exact ⟨.refl _ w, rfl, rfl, rfl, rfl⟩
  · split
    · have hlane := lane_setLane hw { (w.lane l).idle with group := g % 128, pay := pay }
      exact ⟨(RegsKept.refl _ w).setLane l _, (congrArg Lane.pga hlane).trans rfl, (congrArg Lane.hpf hlane).trans rfl,
        (congrArg Lane.sparePick hlane).trans rfl, setLane_plan ..⟩
    · have hlane := beginAcq_lane hw g rate rx
      obtain ⟨hpga, hhpf, hpick, -⟩ : _ ∧ _ ∧ _ ∧ _ := by simpa only [Lane.zone, Prod.mk.injEq] using hlane
      exact ⟨.trans ((RegsKept.refl _ w).setBit (.inr rfl) _ _) ((beginAcq_kept hl w g rate rx).mono fun _ ha => .inl ha), hpga, hhpf, hpick,
        beginAcq_plan ..⟩

end

/-! ## A lane at bit 0 of a link zone -/

theorem linkZone_runs {s t : State} {l : Nat} (h : LaneRuns s l) {g rate : Nat} {rx : List RawSample} (ht : linkZone l g rate rx s = t) :
    exec (.linkZoneReached l g rate rx) s = done s t := congrArg (done s) (laneCommand_runs h ht)

section
variable {s : State} {l : Nat} (h : LaneRuns s l) (g rate : Nat) (rx : List RawSample)
include h

section
variable (hpick : (s.lane l).sparePick = none)
include hpick

omit h in
theorem linkZone_unpicked : linkZone l g rate rx s = zoneTaken l g rate rx (s.lane l).pay (zoneEntered s l g) := by
  rw [linkZone_eq, zonePicked_none g hpick]

theorem linkZone_acquires (h0 : laneMode s l ≠ 0) (h3 : laneMode s l ≠ 3) (h6 : lstate s l ≠ 6)
    (hon : lstate s l ≠ 0 ∨ (runningArm s).isSome = true) (hlg : lgRuns s = false) : Runs (.linkZoneReached l g rate rx) s fun t =>
      lstate t l = 2 ∧ t.fld (Reg.RFL_POS l) 16 7 = g % 128 ∧ t.fld (Reg.RFL_RATE l) 0 16 = rate % 65536 ∧ t.bit Reg.SYS_CLK (4 + l) = true ∧
        (t.lane l).group = g % 128 ∧ (t.lane l).expect = (0, 0) ∧
        (t.lane l).marker = (markerSearch s l ((rxBits (takeIn s l rx)).drop 1887)).isSome := by
  have hreg := zoneEntered_reg s l g
  have hwenc := zoneEntered_wenc s l g
  have hheld := zoneEntered_held h.held g
  have hvarW := (zoneEntered_kept s l g).variant
  have hzone : linkZone l g rate rx s = beginAcq l g rate rx (zoneEntered s l g) := by
    rw [linkZone_unpicked g rate rx hpick]
    refine zoneTaken_acquires g rate rx _ ?_ ?_ ?_ ?_ ?_
    · rwa [laneMode_of_regs hreg hwenc]
    · rwa [laneMode_of_regs hreg hwenc]
    · rwa [lstate_of_regs hreg]
    · rwa [lgRuns_of_regs hreg]
    · rwa [lstate_of_regs hreg, runningArm_of_wenc hwenc]
  generalize zoneEntered s l g = w at hreg hheld hvarW hzone
  have hafter := beginAcq_after h.lt w g rate rx
  have hall := beginAcq_kept h.lt w g rate rx
  obtain ⟨hposShown, hrateShown⟩ := acqRegs_shows w l g rate
  have hvar : (beginAcq l g rate rx w).variant = s.variant := hall.variant.trans ((State.setBit_variant ..).trans hvarW)
  have hctrl : (acqRegs w l g rate).reg (Reg.RFL_SYNC_CTRL l) = s.reg (Reg.RFL_SYNC_CTRL l) := by
    have hclk : Reg.SYS_CLK ≠ Reg.RFL_SYNC_CTRL l := by simp only [Reg.SYS_CLK, Reg.RFL_SYNC_CTRL]; omega
    rw [(acqRegs_kept h.lt w g rate).laneReg h.lt Reg.RFL_SYNC_CTRL, State.reg_setBit_ne _ _ _ _ _ hclk, hreg]
  have hlane := beginAcq_lane hheld g rate rx
  obtain ⟨-, -, -, hgroup, hexpect, hmarker⟩ : _ ∧ _ ∧ _ ∧ _ ∧ _ ∧ _ := by simpa only [Lane.zone, Prod.mk.injEq] using hlane
  refine runs_of_done _ (linkZone_runs h hzone) ⟨?_, ?_, ?_, ?_, ?_, ?_, ?_⟩
  · rw [lstate_settled h.present hvar, lstate_beginAcq h.lt]
  · rw [State.fld_of_reg _ _ _ _ _ _ (settled_laneReg h.present hvar Reg.RFL_POS),
      State.fld_of_reg _ _ _ _ _ _ (hafter.laneReg h.lt Reg.RFL_POS), hposShown]
  · rw [State.fld_of_reg _ _ _ _ _ _ (settled_laneReg h.present hvar Reg.RFL_RATE),
      State.fld_of_reg _ _ _ _ _ _ (hafter.laneReg h.lt Reg.RFL_RATE), hrateShown]
  · have hlt := h.lt
    rw [State.bit_of_reg _ _ _ _ _ (settled_laneReg h.present hvar (fun _ => Reg.SYS_CLK)),
      State.bit_of_reg _ _ _ _ _ (hall.laneReg h.lt (fun _ => Reg.SYS_CLK)), State.bit_setBit_same _ _ _ _ (by omega)]
  · rw [lane_settled, hgroup, acqLane]
  · rw [lane_settled, hexpect, acqLane]
  · rw [lane_settled, hmarker, acqLane, acqMarker_congr hctrl]

theorem linkZone_puts_in_force : Runs (.linkZoneReached l g rate rx) s fun t =>
      (t.lane l).pga = s.fld (Reg.RFL_AFE l) 0 6 ∧ (t.lane l).hpf = s.fld (Reg.RFL_AFE l) 8 2 ∧ t.rd.plan = nextPlan s := by
  have hkept := zoneTaken_kept g rate rx (s.lane l).pay h.lt (zoneEntered_held h.held g)
  refine runs_of_done _ (linkZone_runs h (linkZone_unpicked g rate rx hpick)) ⟨?_, ?_, ?_⟩
  · rw [lane_settled, hkept.pga, zoneEntered_lane h.held, enteredLane]
  · rw [lane_settled, hkept.hpf, zoneEntered_lane h.held, enteredLane]
  · rw [State.settled_rd, hkept.plan, zoneEntered_plan]

theorem linkZone_crosstalk (h3 : laneMode s l = 3) (h6 : lstate s l ≠ 6) (hlg : lgRuns s = false) :
    Runs (.linkZoneReached l g rate rx) s fun t =>
      lstate t l = lstate s l ∧ (t.lane l).group = g % 128 ∧ (t.lane l).expect = (128, 0) := by
  have hreg := zoneEntered_reg s l g
  have hheld := zoneEntered_held h.held g
  have hzone := (linkZone_unpicked g rate rx hpick).trans (zoneTaken_crosstalk g rate rx (s.lane l).pay
    ((laneMode_of_regs hreg (zoneEntered_wenc s l g) l).trans h3) (by rwa [lstate_of_regs hreg]) ((lgRuns_of_regs hreg).trans hlg))
  have hvar := (setLane_variant (zoneEntered s l g) l { ((zoneEntered s l g).lane l).idle with group := g % 128, pay := (s.lane l).pay }).trans
    (zoneEntered_kept s l g).variant
  refine runs_of_done _ (linkZone_runs h hzone) ⟨?_, ?_, ?_⟩
  · rw [lstate_settled h.present hvar, lstate_setLane, lstate_of_regs hreg]
  · rw [lane_settled, lane_setLane hheld]
  · rw [lane_settled, lane_setLane hheld]
    rfl

theorem linkZone_stays (hstay : laneMode s l = 0 ∨ lstate s l = 6 ∨ lgRuns s = true ∨
      (lstate s l = 0 ∧ runningArm s = none ∧ laneMode s l ≠ 3)) : Runs (.linkZoneReached l g rate rx) s fun t =>
      lstate t l = lstate s l ∧ (t.lane l).expect = (s.lane l).expect ∧ (t.lane l).group = (s.lane l).group := by
  have hreg := zoneEntered_reg s l g
  have hwenc := zoneEntered_wenc s l g
  have hzone := (linkZone_unpicked g rate rx hpick).trans (zoneTaken_stays g rate rx (s.lane l).pay
    (by rwa [laneMode_of_regs hreg hwenc, lstate_of_regs hreg, lgRuns_of_regs hreg, runningArm_of_wenc hwenc]))
  refine runs_of_done _ (linkZone_runs h hzone) ⟨?_, ?_, ?_⟩
  · rw [lstate_settled h.present (zoneEntered_kept s l g).variant, lstate_of_regs hreg]
  · rw [lane_settled, zoneEntered_lane h.held, enteredLane]
  · rw [lane_settled, zoneEntered_lane h.held, enteredLane]

end

theorem linkZone_exchanges {k p : Nat} (hpick : (s.lane l).sparePick = some k)
    (hk : slotConverter s l (s.fld (Reg.RFL_SUB_STAT l k) 4 3) = some k) (hsp : spareOf s l = some p) (hne : k ≠ p)
    (hpend : k ∉ (s.lane l).retirePend) : Runs (.linkZoneReached l g rate rx) s fun t =>
      spareOf t l = some k ∧ t.reg (Reg.RFL_SUB_STAT l k) = 1#32 ∧
        t.reg (Reg.RFL_SUB_STAT l p) = Word.ofNat (s.fld (Reg.RFL_SUB_STAT l k) 4 3 * 16) ∧ (t.lane l).sparePick = none ∧
        (t.lane l).pga = s.fld (Reg.RFL_AFE l) 0 6 ∧ t.rd.plan = nextPlan s := by
  obtain ⟨hk9, hactive, -⟩ := slotConverter_active hk
  obtain ⟨hp9, -⟩ := spareOf_lt hsp
  have hreg := zoneEntered_reg s l g
  have hlane := zoneEntered_lane h.held g
  have hrole : subRole (zoneEntered s l g) l k = 0 := (State.fld_of_reg _ _ _ _ _ _ (hreg _)).trans hactive
  have hslot : (zoneEntered s l g).fld (Reg.RFL_SUB_STAT l k) 4 3 = s.fld (Reg.RFL_SUB_STAT l k) 4 3 := State.fld_of_reg _ _ _ _ _ _ (hreg _)
  have hpicked : zonePicked s l g = swapped (zoneEntered s l g) l (s.fld (Reg.RFL_SUB_STAT l k) 4 3) p k := by
    rw [zonePicked_some g hpick hrole, hslot]
    exact swapInto_swaps ((spareOf_congr (hreg _)).trans hsp) ((slotConverter_congr (fun _ => hreg _) _).trans hk)
      (by rw [hlane]; exact hpend)
  obtain ⟨htaken, hfreed, hspare⟩ := swapped_shows (zoneEntered s l g) l (s.fld (Reg.RFL_SUB_STAT l k) 4 3) hk9 hne
  have hvarW := (swapped_kept (zoneEntered s l g) l (s.fld (Reg.RFL_SUB_STAT l k) 4 3) p k).variant.trans (zoneEntered_kept s l g).variant
  have hrd := swapped_rd (zoneEntered s l g) l (s.fld (Reg.RFL_SUB_STAT l k) 4 3) p k
  have hplan := zoneEntered_plan s l g
  have hheld := zoneEntered_held h.held g
  have hzone := linkZone_eq l g rate rx s
  rw [hpicked] at hzone
  generalize swapped (zoneEntered s l g) l (s.fld (Reg.RFL_SUB_STAT l k) 4 3) p k = w at hzone htaken hfreed hspare hvarW hrd
  generalize zoneEntered s l g = v at hrd hlane hplan hheld
  have hkept := zoneTaken_kept (w := w) g rate rx (s.lane l).pay h.lt (by rw [hrd]; exact hheld)
  have hvar := hkept.kept.variant.trans hvarW
  have hlaneW : w.lane l = enteredLane s l := by rw [State.lane, hrd, ← State.lane, hlane]
  have hout : ∀ l < 4, (∀ k < 9, ¬(laneOut acqOffs l (Reg.RFL_SUB_STAT l k) ∨ Reg.RFL_SUB_STAT l k = Reg.SYS_CLK)) ∧
      ¬(laneOut acqOffs l (Reg.RFL_ADC_STAT l) ∨ Reg.RFL_ADC_STAT l = Reg.SYS_CLK) := by decide
  obtain ⟨hsubOut, hadcOut⟩ := hout l h.lt
  refine runs_of_done _ (linkZone_runs h hzone) ⟨?_, ?_, ?_, ?_, ?_, ?_⟩
  · rw [spareOf_settled h hvar, spareOf_congr (hkept.kept.reg _ hadcOut), hspare]
  · rw [subStat_settled h hvar hk9, hkept.kept.reg _ (hsubOut k hk9), hfreed]
  · rw [subStat_settled h hvar hp9, hkept.kept.reg _ (hsubOut p hp9), htaken]
  · rw [lane_settled, hkept.pick, hlaneW, enteredLane]
  · rw [lane_settled, hkept.pga, hlaneW, enteredLane]
  · rw [State.settled_rd, hkept.plan, hrd, hplan]

end

end Sys2Proof.Machine
end

section
/-! The commands of the read lanes (O20). -/
namespace Sys2Proof.Machine

/-- Settles O20: a link zone by what it puts in force and the way the lane takes the group, a predicted sync by the lane's state and
what its search answers, the rotation by the converter that the spare relieves. -/
theorem lanesAcquireTrackAndLoseLock : Obligations.LanesAcquireTrackAndLoseLock := by
  unfold Obligations.LanesAcquireTrackAndLoseLock
  refine ⟨?_, ?_, ?_, ?_, ?_, ?_, ?_, ?_, ?_, ?_, ?_, ?_, ?_, ?_, ?_, ?_, ?_, ?_, ?_, ?_, ?_, ?_, ?_, ?_, ?_, ?_⟩
  · exact fun s l g rate rx ⟨hp, hf, hl, h0, h3, h6, hon, hlg, hpick⟩ =>
      linkZone_acquires ⟨hp, hf, hl⟩ g rate rx hpick h0 h3 h6 hon hlg
  · exact fun s l g rate rx ⟨hp, hf, hl, hpick⟩ => linkZone_puts_in_force ⟨hp, hf, hl⟩ g rate rx hpick
  · exact fun s l g rate k p rx ⟨hp, hf, hl, hpick, hk, hsp, hne, hpend⟩ =>
      linkZone_exchanges ⟨hp, hf, hl⟩ g rate rx hpick hk hsp hne hpend
  · exact fun s l g rate rx ⟨hp, hf, hl, h3, h6, hlg, hpick⟩ => linkZone_crosstalk ⟨hp, hf, hl⟩ g rate rx hpick h3 h6 hlg
  · exact fun s l g rate rx ⟨hp, hf, hl, hstay, hpick⟩ => linkZone_stays ⟨hp, hf, hl⟩ g rate rx hpick hstay
  · exact fun s l g rate rx ⟨hwf, h⟩ => runs_unchanged hwf rfl (laneCommand_absent h)
  · exact fun s l rx skew ⟨hp, hf, hl, hst, hm, he, hq⟩ => acqMarkerWindowExpiry_lost ⟨hp, hf, hl⟩ hst hm he hq
  · exact fun s l rx skew q ⟨hp, hf, hl, hst, hm, he, hswap, hq⟩ => acqMarkerWindowExpiry_found ⟨hp, hf, hl⟩ hst hm he hswap hq
  · exact fun s l rx skew ⟨hwf, h⟩ => runs_unchanged hwf rfl (laneCommand_idle markerExpiry_idle h)
  · exact fun s l rx skew q ⟨hp, hf, hl, hmode, hpos, hst, hq⟩ => frameSync_found ⟨hp, hf, hl⟩ hmode skew rx hpos hst hq
  · exact fun s l rx skew ⟨hp, hf, hl, hmode, hpos, hst, hrun, hq⟩ => frameSync_first_misses ⟨hp, hf, hl⟩ hmode skew rx hpos hst hq hrun
  · exact fun s l rx skew ⟨hp, hf, hl, hmode, hpos, hst, hrun, hq⟩ => frameSync_third_misses ⟨hp, hf, hl⟩ hmode skew rx hpos hst hq hrun
  · exact fun s l rx skew q ⟨hp, hf, hl, hmode, hpos, hst, hswap, hq⟩ =>
      frameSync_found_late ⟨hp, hf, hl⟩ hmode skew rx hpos hst hswap hq
  · exact fun s l rx skew ⟨hp, hf, hl, hmode, hpos, hst, hleft, hq⟩ => frameSync_searches_on ⟨hp, hf, hl⟩ hmode skew rx hpos hst hq hleft
  · exact fun s l rx skew ⟨hp, hf, hl, hmode, hpos, hst, hleft, hq⟩ => frameSync_gives_up ⟨hp, hf, hl⟩ hmode skew rx hpos hst hq hleft
  · exact fun s l rx skew ⟨hp, hf, hl, hmode, hpos, hst⟩ => frameSync_out ⟨hp, hf, hl⟩ hmode skew rx hpos hst
  · exact fun s l rx skew ⟨hp, hf, hl, hidle⟩ => frameSync_only_buffers ⟨hp, hf, hl⟩ skew rx hidle
  · exact fun s l rx skew k ⟨hp, hf, hl, hmode, h6, hk, _⟩ => frameSync_crosstalk ⟨hp, hf, hl⟩ skew rx hmode h6 hk
  · exact fun s l rx skew ⟨hwf, h⟩ => runs_unchanged hwf rfl (laneCommand_absent h)
  · exact fun s l rate ⟨hp, hf, hl, hst, hpos, hrange⟩ => laneRateOutOfRange_stops ⟨hp, hf, hl⟩ hst hpos hrange
  · exact fun s l rate ⟨hwf, h⟩ => runs_unchanged hwf rfl (laneCommand_idle rateOut_idle h)
  · exact fun s l ofs gain skew ⟨hp, hf, hl, hon, hst⟩ => adcSpareSwap_waits ⟨hp, hf, hl⟩ hon ofs gain skew hst
  · exact fun s l ofs gain skew p k ⟨hp, hf, hl, hon, h2, h4, hgood, hsp, hk, hne, hpend⟩ =>
      adcSpareSwap_exchanges ⟨hp, hf, hl⟩ hon ofs gain skew ⟨h2, h4⟩ hsp hgood hk hne hpend
  · exact fun s l ofs gain skew p k ⟨hp, hf, hl, hon, h2, h4, hgood, hsp, hk, hne, hpend⟩ =>
      adcSpareSwap_retires ⟨hp, hf, hl⟩ hon ofs gain skew ⟨h2, h4⟩ hsp hgood hk hne hpend
  · exact fun s l ofs gain skew p ⟨hp, hf, hl, hon, h2, h4, hbad, hsp, hrole, hpend⟩ =>
      adcSpareSwap_bad ⟨hp, hf, hl⟩ hon ofs gain skew ⟨h2, h4⟩ hsp hbad hrole hpend
  · exact fun s l ofs gain skew ⟨hwf, h⟩ => runs_unchanged hwf rfl (laneCommand_idle spareSwap_idle h)

end Sys2Proof.Machine
end

section
/-! The write path's own state and registers: what its shared operations leave (R131, R136 to R141, R147). -/
namespace Sys2Proof.Machine

/-! ## The write path's own state -/

@[simp] theorem State.setW_wenc (s : State) (x : WritePath) : (s.setW x).wenc = x := (rfl)
@[simp] theorem State.setW_reg (s : State) (x : WritePath) (a : Nat) : (s.setW x).reg a = s.reg a := (rfl)
@[simp] theorem State.setW_fld (s : State) (x : WritePath) (a lo w : Nat) : (s.setW x).fld a lo w = s.fld a lo w := (rfl)
@[simp] theorem State.setW_bit (s : State) (x : WritePath) (a i : Nat) : (s.setW x).bit a i = s.bit a i := (rfl)
@[simp] theorem State.putReg_wenc (s : State) (a : Nat) (new : Word) : (s.putReg a new).wenc = s.wenc := by
  obtain ⟨r, l, w, h⟩ := s.putReg_eq a new
  rw [h]

/-- A written register, of those that bear on no interrupt, and no other. -/
theorem RegsKept.putReg {P : Nat → Prop} {s t : State} (h : RegsKept P s t) {a : Nat} (ha : P a)
    (hi : ¬(a % 0x1000 = 0x10 ∨ a % 0x1000 = 0x14)) (new : Word) : RegsKept P s (t.putReg a new) :=
  h.trans ⟨t.putReg_variant a new, fun b hb => t.reg_putReg_ne b new (by rintro rfl; exact hb ha) hi⟩

/-- A command's write of a register that bears on no interrupt changes no other register. -/
theorem putReg_kept (s : State) {a : Nat} (new : Word) (hi : ¬(a % 0x1000 = 0x10 ∨ a % 0x1000 = 0x14) := by decide) :
    RegsKept (· = a) s (s.putReg a new) := (RegsKept.refl (· = a) s).putReg rfl hi new

/-! ## What the next state shows -/

theorem irq_of_settled {s t : State} {p i : Nat} (h : t.irq p i) (hp : plainReg (Reg.IRQ_RAW p) = true := by decide) :
    (s.settled t).irq p i := (State.settled_bit_plain s t _ i hp).trans h

theorem reports_of_settled {s t : State} {p c : Nat} (h : s.reports p c t) (hp : plainReg (Reg.ERR_INFO p) = true := by decide) :
    s.reports p c (s.settled t) := (State.settled_fld_plain s t _ 0 16 hp).trans h

theorem reports_of_reg {s u t : State} {p c : Nat} (h : u.reports p c t) (hreg : u.reg (Reg.ERR_INFO p) = s.reg (Reg.ERR_INFO p)) :
    s.reports p c t := by
  rw [State.reports, ← State.fld_of_reg _ _ _ _ _ _ hreg, ← State.fld_of_reg _ _ _ _ _ _ hreg]
  exact h

theorem Logs.of_regsKept {P : Nat → Prop} {p : Nat} {s t : State} (h : RegsKept P s t) (hirq : ¬P (Reg.IRQ_RAW p))
    (herr : ¬P (Reg.ERR_INFO p)) : Logs p s t := .of_regs (h.reg _ hirq) (h.reg _ herr)

/-! ## The registers a verdict changes -/

/-- The page of DRAW, and those an access of SRAM reaches. -/
abbrev drawRegs (a : Nat) : Prop := (0x40014000 ≤ a ∧ a < 0x40015000) ∨ memRegs a
/-- The pages of WENC, WSG and DRAW, and those an access of SRAM reaches. -/
abbrev passRegs (a : Nat) : Prop := (0x40012000 ≤ a ∧ a < 0x40015000) ∨ memRegs a

theorem passRegs_of_drawRegs (a : Nat) (h : drawRegs a) : passRegs a := h.imp_left fun hd => ⟨by omega, hd.2⟩

theorem vqStore_draw (s : State) (rec : List Nat) : RegsKept drawRegs s (vqStore s rec) :=
  ((RegsKept.of_memOnly (memWrite_memOnly ..)).mono fun _ => .inr).setFld (by decide) _ _ _

theorem vqPut_draw (s : State) (rec : List Nat) : RegsKept drawRegs s (vqPut s rec) :=
  .ite (vqStore_draw s rec) (((RegsKept.refl _ s).setW _).raise (by decide) (by decide) _)

theorem giveVerdict_draw (s : State) (a : Arm) (verdict cause : Nat) : RegsKept drawRegs s (giveVerdict s a verdict cause) :=
  (((vqPut_draw s _).raise (by decide) (by decide) _).setW _).setW _

theorem drawGrade_draw (s : State) (psa sidx : Nat) (good equal : Bool) (iters raw : Nat) :
    RegsKept drawRegs s (drawGrade s psa sidx good equal iters raw) := by
  unfold drawGrade
  dsimp only
  split <;> exact ((RegsKept.refl _ s).setW _).addSat (by decide) _ _ _

theorem failShare_draw (s : State) (a : Arm) (n c : Nat) : RegsKept drawRegs s (failShare s a n c) :=
  .foldl (fun s _ _ => .ite (drawGrade_draw ..) (.refl _ s)) s

theorem failRest_draw (s : State) : RegsKept drawRegs s (failRest s) := by
  unfold failRest
  split
  · exact .foldl (fun s c _ => failShare_draw s ..) s
  · exact .refl _ s

theorem voidFront_pass (s : State) (cause : Nat) : RegsKept passRegs s (voidFront s cause) := by
  unfold voidFront posIdle
  dsimp only
  split
  · exact .refl _ s
  · exact ((((((RegsKept.refl _ s).setW _).setReg (by decide) _).addSat (by decide) _ _ _).raise (by decide) (by decide) _).err
      (by decide) _ _).trans ((giveVerdict_draw ..).mono passRegs_of_drawRegs)

theorem dropGate_pass (s : State) (cause : Nat) : RegsKept passRegs s (dropGate s cause) := by
  have hlow := (((RegsKept.refl passRegs s).setW { s.wenc with gate := false }).addSat (a := Reg.WSG_CNT) (by decide) 16 16 1).raise
    (p := pgWSG) (by decide) (by decide) 3
  exact .ite (.ite ((hlow.trans ((failRest_draw _).mono passRegs_of_drawRegs)).trans (voidFront_pass ..)) hlow) (.refl _ s)

/-! ## The verdicts given, and what else a verdict leaves -/

/-- `t` has the write path's own state of `s` but for DRAW's grades. -/
def GradesOnly (s t : State) : Prop := ∃ g, t.wenc = { s.wenc with graded := g }

theorem GradesOnly.refl (s : State) : GradesOnly s s := ⟨_, rfl⟩

theorem GradesOnly.trans {s t u : State} (h : GradesOnly s t) (h' : GradesOnly t u) : GradesOnly s u := by
  obtain ⟨g, hg⟩ := h
  obtain ⟨g', hg'⟩ := h'
  exact ⟨g', by rw [hg', hg]⟩

theorem GradesOnly.foldl {α : Type} {f : State → α → State} (hf : ∀ s a, GradesOnly s (f s a)) (l : List α) (s : State) :
    GradesOnly s (l.foldl f s) := by
  induction l generalizing s with
  | nil => exact .refl s
  | cons a l ih => exact (hf s a).trans (ih _)

theorem drawGrade_grades (s : State) (psa sidx : Nat) (good equal : Bool) (iters raw : Nat) :
    GradesOnly s (drawGrade s psa sidx good equal iters raw) := by
  unfold drawGrade
  dsimp only
  split <;> exact ⟨_, State.addSat_wenc ..⟩

theorem failShare_grades (s : State) (a : Arm) (n c : Nat) : GradesOnly s (failShare s a n c) := by
  refine .foldl (fun s p => ?_) _ s
  dsimp only
  split
  · exact drawGrade_grades ..
  · exact .refl s

theorem failRest_grades (s : State) : GradesOnly s (failRest s) := by
  unfold failRest
  split
  · exact .foldl (fun s c => failShare_grades s ..) _ s
  · exact .refl s

theorem vqStore_wenc (s : State) (rec : List Nat) : (vqStore s rec).wenc = s.wenc := by
  rw [vqStore, State.setFld_wenc, (memWrite_memOnly ..).wenc]

theorem vqPut_wenc (s : State) (rec : List Nat) : ∃ h, (vqPut s rec).wenc = { s.wenc with heldRecs := h } := by
  unfold vqPut
  split
  · exact ⟨_, vqStore_wenc s rec⟩
  · exact ⟨_, State.raise_wenc ..⟩

/-- A verdict goes to XLT; besides it only DRAW's records and grades change. -/
theorem giveVerdict_wenc (s : State) (a : Arm) (verdict cause : Nat) : ∃ h g w, (giveVerdict s a verdict cause).wenc =
    { s.wenc with heldRecs := h, graded := g, toXlt := s.wenc.toXlt ++ [⟨a.slot, a.psa, verdict, cause, w, !a.tbl.isEmpty⟩] } := by
  obtain ⟨h, hput⟩ := vqPut_wenc s (verdictRecord s a verdict cause)
  unfold giveVerdict
  simp only [State.setW_wenc, State.raise_wenc, hput]
  exact ⟨_, _, _, rfl⟩

theorem giveVerdict_irq (s : State) (a : Arm) (verdict cause : Nat) : (giveVerdict s a verdict cause).irq pgDRAW 0 :=
  irq_raise (vqPut s (verdictRecord s a verdict cause)) pgDRAW 0 (by decide)

theorem giveVerdict_logs (s : State) (a : Arm) (verdict cause : Nat) : Logs pgWENC s (giveVerdict s a verdict cause) :=
  .of_regsKept (giveVerdict_draw ..) (by decide) (by decide)

/-! ## The front arm ends VOID (R45, R140) -/

/-- The front arm has given way to a verdict of WENC and no other. -/
structure FrontEnds (s t : State) (a : Arm) (r : List Arm) (verdict cause : Nat) : Prop where
  arms : t.wenc.arms = r
  gate : t.wenc.gate = s.wenc.gate
  last : t.wenc.toXlt.getLast?.map (fun x => (x.slot, x.psa, x.verdict, x.cause)) = some (a.slot, a.psa, verdict, cause)

section
variable {s : State} {a : Arm} {r : List Arm} (harms : s.wenc.arms = a :: r)
include harms

/-- The front arm has left, before its verdict is given. -/
theorem voidFront_eq (cause : Nat) : ∃ u : State, voidFront s cause = giveVerdict ((u.raise pgWENC 3).err pgWENC 0x0503 cause) a 3 cause ∧
    u.wenc = { s.wenc with arms := r, lastPsa := some a.psa, lastOff := a.off, emit := [] } ∧
    u.reg (Reg.ERR_INFO pgWENC) = s.reg (Reg.ERR_INFO pgWENC) := by
  refine ⟨(posIdle (s.setW { s.wenc with arms := r, lastPsa := some a.psa, lastOff := a.off, emit := [] })).addSat Reg.WENC_CNT 16 8 1, ?_, ?_, ?_⟩
  · simp only [voidFront, harms]
  · rw [State.addSat_wenc, posIdle, State.setReg_wenc, State.setW_wenc]
  · rw [State.reg_addSat_ne _ _ _ _ _ _ (by decide), posIdle, State.reg_setReg_ne _ _ _ _ (by decide), State.setW_reg]

theorem voidFront_ends (cause : Nat) : FrontEnds s (voidFront s cause) a r 3 cause := by
  obtain ⟨u, hvoid, hu, -⟩ := voidFront_eq harms cause
  obtain ⟨h, g, w, hgive⟩ := giveVerdict_wenc ((u.raise pgWENC 3).err pgWENC 0x0503 cause) a 3 cause
  rw [← hvoid, State.err_wenc, State.raise_wenc, hu] at hgive
  exact ⟨by rw [hgive], by rw [hgive], by rw [hgive, List.getLast?_concat]; rfl⟩

theorem voidFront_irq (cause : Nat) : (voidFront s cause).irq pgWENC 3 := by
  obtain ⟨u, hvoid, -, -⟩ := voidFront_eq harms cause
  rw [hvoid]
  exact ((Logs.refl _ _).err _ _ (by decide) |>.trans (giveVerdict_logs ..)).irq_stands 3 (irq_raise u pgWENC 3 (by decide))

theorem voidFront_reports (cause : Nat) : s.reports pgWENC 0x0503 (voidFront s cause) := by
  obtain ⟨u, hvoid, -, hreg⟩ := voidFront_eq harms cause
  rw [hvoid]
  exact (giveVerdict_logs ..).reports_err (by decide) ((State.reg_raise_ne _ _ _ _ (by decide) (by decide)).trans hreg)

/-- A trip or a loss that cuts a pass off grades the rest of it first. -/
theorem failRest_voidFront_ends (cause : Nat) : FrontEnds s (voidFront (failRest s) cause) a r 3 cause := by
  obtain ⟨g, hg⟩ := failRest_grades s
  obtain ⟨h1, h2, h3⟩ := voidFront_ends (s := failRest s) (by rw [hg]; exact harms) cause
  exact ⟨h1, h2.trans (by rw [hg]), h3⟩

/-- The gate drops in a running pass (R131, R149). -/
theorem dropGate_ends (cause : Nat) (hgate : s.wenc.gate = true) (hrun : a.running = true) :
    (dropGate s cause).wenc.arms = r ∧ (dropGate s cause).wenc.gate = false ∧
    (dropGate s cause).wenc.toXlt.getLast?.map (fun x => (x.slot, x.psa, x.verdict, x.cause)) = some (a.slot, a.psa, 3, cause) := by
  have hlow : ∀ u : State, u.wenc.arms = a :: r → (runningArm u).isSome = true := fun u hu => by
    simp only [runningArm, hu, hrun, if_true, Option.isSome_some]
  have hu : (((s.setW { s.wenc with gate := false }).addSat Reg.WSG_CNT 16 16 1).raise pgWSG 3).wenc = { s.wenc with gate := false } := by
    rw [State.raise_wenc, State.addSat_wenc, State.setW_wenc]
  have hfront := (congrArg WritePath.arms hu).trans harms
  obtain ⟨h1, -, h3⟩ := failRest_voidFront_ends hfront cause
  refine ⟨?_, dropGate_gate s cause, ?_⟩ <;> rw [dropGate, if_pos hgate, if_pos (hlow _ hfront)]
  · exact h1
  · exact h3

end

end Sys2Proof.Machine
end

section
/-! The head control link (R133 to R135, R155): frames, their answers, commands and responses (O25). -/
namespace Sys2Proof.Machine

/-! ## Words of the link -/

/-- The FIFO's form of a frame keeps the frame's read flag and register address. -/
theorem fieldOf_hdlCommandOf (c : Word) : fieldOf (hdlCommandOf c) 31 1 = fieldOf c 31 1 ∧ fieldOf (hdlCommandOf c) 24 7 = fieldOf c 24 7 := by
  have hc := c.isLt
  have htop : (hdlCommandOf c).toNat / 2 ^ 24 = c.toNat / 2 ^ 24 := by
    unfold hdlCommandOf Word.ofNat fieldOf
    rw [BitVec.toNat_ofNat]
    omega
  have hflag : ∀ x : Word, fieldOf x 31 1 = x.toNat / 2 ^ 24 / 2 ^ 7 % 2 ^ 1 := fun x => by rw [Nat.div_div_eq_div_mul]; rfl
  exact ⟨by rw [hflag, hflag, htop], congrArg (· % 2 ^ 7) htop⟩

/-! ## What a frame does -/

/-- A slot takes at most a command out of the queues. -/
theorem hdlSend_eq (s : State) : ∃ w f, (hdlSend s).2.2 = s.setW { s.wenc with wsgCmds := w, fifo := f } := by
  have htake : ∃ w f, (hdlTake s).2 = s.setW { s.wenc with wsgCmds := w, fifo := f } := by
    unfold hdlTake
    split
    · exact ⟨_, _, rfl⟩
    · exact ⟨_, _, rfl⟩
    · exact ⟨_, _, rfl⟩
  unfold hdlSend
  dsimp only
  split
  · exact ⟨_, _, rfl⟩
  · exact htake

/-- The status of the frame before, as it meets the state in which the slot's command has gone out. -/
def hdlAnswered (s : State) (status : Word) : State :=
  hdlStatus (hdlSend s).2.2 (s.wenc.lastCmd.map hdlCommandOf) s.wenc.lastFromFifo status

theorem hdlFrameStep_eq {s : State} (h : hdlFault s = false) (status : Word) : hdlFrameStep status s =
    hdlLevels ((hdlAnswered s status).setW { (hdlAnswered s status).wenc with
      lastCmd := (hdlSend s).1, lastFromFifo := (hdlSend s).2.1, hdlSlot := ((hdlAnswered s status).wenc.hdlSlot + 1) % 3 }) := by
  unfold hdlFrameStep
  rw [if_neg (by rw [h]; decide)]
  rfl

theorem hdlLevels_wenc (s : State) : (hdlLevels s).wenc = s.wenc := by rw [hdlLevels, State.setFld_wenc, State.setFld_wenc]

theorem hdlLevels_kept (s : State) : RegsKept (· = Reg.HDL_FIFO) s (hdlLevels s) :=
  ((RegsKept.refl (· = Reg.HDL_FIFO) s).setFld rfl _ _ _).setFld rfl _ _ _

/-- The levels stand below the run of bad frames and below FAULT. -/
theorem fld_hdlLevels_above (s : State) (lo w : Nat) (h : 13 ≤ lo) : (hdlLevels s).fld Reg.HDL_FIFO lo w = s.fld Reg.HDL_FIFO lo w := by
  rw [hdlLevels, State.fld_setFld_above _ _ _ _ _ _ _ (by decide) (by omega), State.fld_setFld_above _ _ _ _ _ _ _ (by decide) (by omega)]

/-- From the state that the answer of the frame before leaves to the state after the frame: its command is noted, the slot
moves on, and HDL_FIFO shows the levels. -/
structure FrameEnds (s u t : State) : Prop where
  slot : t.wenc.hdlSlot = (u.wenc.hdlSlot + 1) % 3
  cmd : t.wenc.lastCmd = (hdlSend s).1
  rsp : t.wenc.rsp = u.wenc.rsp
  wsg : t.wenc.wsgCmds = u.wenc.wsgCmds
  gate : t.wenc.gate = u.wenc.gate
  run : t.fld Reg.HDL_FIFO 16 5 = u.fld Reg.HDL_FIFO 16 5
  fault : hdlFault t = hdlFault u
  reg : ∀ a, plainReg a = true → a ≠ Reg.HDL_FIFO → t.reg a = u.reg a

/-- A frame of a link in service. -/
theorem hdlFrame_runs {s : State} {status : Word} (hf : s.frozen pgHDL = false) (hok : hdlFault s = false) :
    Runs (.hdlFrame status) s fun t => FrameEnds s (hdlAnswered s (hdlStatusIn s status)) t := by
  refine runs_of_done _ (congrArg (done s) ((State.unlessFrozen_running hf _).trans (hdlFrameStep_eq hok _))) ?_
  generalize hdlAnswered s (hdlStatusIn s status) = u
  constructor
  case slot | cmd | rsp | wsg | gate => rw [State.settled_wenc, hdlLevels_wenc, State.setW_wenc]
  case run => rw [State.settled_fld_plain _ _ _ _ _ (by decide), fld_hdlLevels_above _ _ _ (by decide), State.setW_fld]
  case fault =>
    rw [hdlFault, State.settled_bit_plain _ _ _ _ (by decide), State.bit, fld_hdlLevels_above _ _ _ (by decide), State.setW_fld]
    rfl
  case reg =>
    intro a ha hne
    rw [State.settled_reg_plain _ _ _ ha, (hdlLevels_kept _).reg a hne, State.setW_reg]

theorem FrameEnds.irq {s u t : State} (h : FrameEnds s u t) {i : Nat} (hi : u.irq pgHDL i) : t.irq pgHDL i :=
  (State.bit_of_reg _ _ _ _ i (h.reg _ (by decide) (by decide))).trans hi

theorem FrameEnds.reports {s u t : State} (h : FrameEnds s u t) {c : Nat} (hc : s.reports pgHDL c u) : s.reports pgHDL c t :=
  (State.fld_of_reg _ _ _ _ _ _ (h.reg _ (by decide) (by decide))).trans hc

/-! ## A status with a good CRC -/

/-- A good status clears the run of bad ones. -/
theorem fld_hdlStatus_good (s : State) (last : Option Word) (ff : Bool) {status : Word} (h : hdlGood status = true) :
    (hdlStatus s last ff status).fld Reg.HDL_FIFO 16 5 = 0 := by
  have hclear : (s.setFld Reg.HDL_FIFO 16 5 0).fld Reg.HDL_FIFO 16 5 = 0 := State.fld_setFld_same _ _ _ _ _ (by decide)
  simp only [hdlStatus, h, if_true]
  split
  · split
    · split
      · rw [State.fld_raise_ne _ _ _ _ _ _ (by decide) (by decide), State.setW_fld, hclear]
      · exact hclear
    · exact hclear
  · exact hclear

/-- It moves no slot. -/
theorem hdlStatus_good_slot (s : State) (last : Option Word) (ff : Bool) {status : Word} (h : hdlGood status = true) :
    (hdlStatus s last ff status).wenc.hdlSlot = s.wenc.hdlSlot := by
  simp only [hdlStatus, h, if_true]
  split
  · split
    · split
      · rw [State.raise_wenc, State.setW_wenc, State.setFld_wenc]
      · rw [State.setFld_wenc]
    · rw [State.setFld_wenc]
  · rw [State.setFld_wenc]

/-- The response that a good status makes to a read. -/
def hdlResponse (c status : Word) : Word := Word.ofNat (2 ^ 31 + fieldOf c 24 7 * 2 ^ 24 + fieldOf status 24 8 * 65536 + fieldOf status 8 16)

theorem hdlStatus_response {s : State} {c status : Word} (h : hdlGood status = true) (hread : fieldOf c 31 1 = 1)
    (hroom : s.wenc.rsp.length < 16) : hdlStatus s (some c) true status =
      ((s.setFld Reg.HDL_FIFO 16 5 0).setW { s.wenc with rsp := s.wenc.rsp ++ [hdlResponse c status] }).raise pgHDL 2 := by
  unfold hdlStatus
  rw [if_pos h]
  dsimp only
  rw [if_pos ⟨rfl, hread⟩, State.setFld_wenc, if_pos hroom]
  rfl

/-! ## A bad status -/

/-- A bad status as it is counted and reported. -/
def hdlBad (s : State) : State :=
  (((s.addSat Reg.HDL_CNT 0 16 1).raise pgHDL 0).err pgHDL 0x0902 15).setFld Reg.HDL_FIFO 16 5 (min (s.fld Reg.HDL_FIFO 16 5 + 1) 16)

/-- A command from the FIFO that a bad status answers goes ahead of the others again. -/
def hdlRepeat (last : Option Word) (ff : Bool) (s : State) : State :=
  match last with
  | some c => if ff then (s.setW { s.wenc with wsgCmds := c :: s.wenc.wsgCmds }).addSat Reg.HDL_CNT 16 16 1 else s
  | none => s

theorem hdlStatus_bad (s : State) (last : Option Word) (ff : Bool) {status : Word} (h : hdlGood status = false) :
    hdlStatus s last ff status = if 16 ≤ s.fld Reg.HDL_FIFO 16 5 + 1 then hdlFail (hdlRepeat last ff (hdlBad s)) else hdlRepeat last ff (hdlBad s) := by
  have hn : (((s.addSat Reg.HDL_CNT 0 16 1).raise pgHDL 0).err pgHDL 0x0902 15).fld Reg.HDL_FIFO 16 5 = s.fld Reg.HDL_FIFO 16 5 := by
    rw [State.fld_err_ne _ _ _ _ _ _ _ (by decide), State.fld_raise_ne _ _ _ _ _ _ (by decide) (by decide),
      State.fld_addSat_ne _ _ _ _ _ _ _ _ (by decide)]
  unfold hdlStatus hdlBad hdlRepeat
  rw [if_neg (by rw [h]; decide)]
  dsimp only
  rw [hn] <;> rfl

theorem hdlBad_wenc (s : State) : (hdlBad s).wenc = s.wenc := by
  rw [hdlBad, State.setFld_wenc, State.err_wenc, State.raise_wenc, State.addSat_wenc]

theorem hdlRepeat_kept (last : Option Word) (ff : Bool) (s : State) : RegsKept (· = Reg.HDL_CNT) s (hdlRepeat last ff s) := by
  unfold hdlRepeat
  split
  · exact .ite (((RegsKept.refl (· = Reg.HDL_CNT) s).setW _).addSat rfl _ _ _) (.refl _ s)
  · exact .refl _ s

theorem hdlRepeat_wenc (last : Option Word) (ff : Bool) (s : State) : ∃ w, (hdlRepeat last ff s).wenc = { s.wenc with wsgCmds := w } := by
  unfold hdlRepeat
  split
  · split
    · exact ⟨_, State.addSat_wenc ..⟩
    · exact ⟨_, rfl⟩
  · exact ⟨_, rfl⟩

/-- Repeats are counted above the bad frames. -/
theorem fld_hdlRepeat_count (last : Option Word) (ff : Bool) (s : State) :
    (hdlRepeat last ff s).fld Reg.HDL_CNT 0 16 = s.fld Reg.HDL_CNT 0 16 := by
  unfold hdlRepeat
  split
  · split
    · rw [State.addSat, State.fld_setFld_below _ _ _ _ _ _ _ (by decide) (by decide), State.setW_fld]
    · rfl
  · rfl

/-- What a bad status leaves on the link, whatever it answers. -/
theorem hdlBad_shows (s : State) (last : Option Word) (ff : Bool) :
    (hdlRepeat last ff (hdlBad s)).fld Reg.HDL_FIFO 16 5 = min (s.fld Reg.HDL_FIFO 16 5 + 1) 16 ∧
    hdlFault (hdlRepeat last ff (hdlBad s)) = hdlFault s ∧
    (hdlRepeat last ff (hdlBad s)).fld Reg.HDL_CNT 0 16 = min (s.fld Reg.HDL_CNT 0 16 + 1) 65535 ∧
    (hdlRepeat last ff (hdlBad s)).irq pgHDL 0 ∧ s.reports pgHDL 0x0902 (hdlRepeat last ff (hdlBad s)) := by
  have hfifo := (hdlRepeat_kept last ff (hdlBad s)).reg Reg.HDL_FIFO (by decide)
  have hmod : min (s.fld Reg.HDL_FIFO 16 5 + 1) 16 % 2 ^ 5 = min (s.fld Reg.HDL_FIFO 16 5 + 1) 16 := by omega
  refine ⟨?_, ?_, ?_, ?_, ?_⟩
  · rw [State.fld_of_reg _ _ _ _ _ _ hfifo, hdlBad, State.fld_setFld_same _ _ _ _ _ (by decide), hmod]
  · rw [hdlFault, State.bit_of_reg _ _ _ _ _ hfifo, hdlBad, State.bit_setFld_above _ _ _ _ _ _ (by decide) (by decide),
      State.bit_err_ne _ _ _ _ _ _ (by decide), State.bit_raise_ne _ _ _ _ _ (by decide) (by decide)]
    exact State.bit_of_reg _ _ _ _ _ (State.reg_addSat_ne _ _ _ _ _ _ (by decide))
  · rw [fld_hdlRepeat_count, hdlBad, State.fld_setFld_ne _ _ _ _ _ _ _ _ (by decide), State.fld_err_ne _ _ _ _ _ _ _ (by decide),
      State.fld_raise_ne _ _ _ _ _ _ (by decide) (by decide), State.fld_addSat_same _ _ _ _ _ (by decide)]
    rfl
  · rw [State.irq, (hdlRepeat_kept ..).bit (by decide), hdlBad, State.bit_of_reg _ _ _ _ _ (State.reg_setFld_ne _ _ _ _ _ _ (by decide)),
      State.bit_err_ne _ _ _ _ _ _ (by decide)]
    exact irq_raise _ _ _ (by decide)
  · have hkept : RegsKept (· ∈ [Reg.HDL_FIFO, Reg.HDL_CNT]) (((s.addSat Reg.HDL_CNT 0 16 1).raise pgHDL 0).err pgHDL 0x0902 15)
        (hdlRepeat last ff (hdlBad s)) :=
      ((RegsKept.refl _ _).setFld (by decide) _ _ _).trans ((hdlRepeat_kept last ff (hdlBad s)).mono (by simp))
    have hreg : ((s.addSat Reg.HDL_CNT 0 16 1).raise pgHDL 0).reg (Reg.ERR_INFO pgHDL) = s.reg (Reg.ERR_INFO pgHDL) :=
      (State.reg_raise_ne _ _ _ _ (by decide) (by decide)).trans (State.reg_addSat_ne _ _ _ _ _ _ (by decide))
    exact (Logs.of_regsKept hkept (by decide) (by decide)).reports_err (by decide) hreg

/-- The link faults: it is off and the gate is low (R135, R149). -/
theorem hdlFail_shows (s : State) : hdlFault (hdlFail s) = true ∧ (hdlFail s).bit Reg.HDL_CFG 0 = false ∧ (hdlFail s).irq pgHDL 1 ∧
    (hdlFail s).wenc.gate = false := by
  have hdrop := dropGate_pass (s.setBit Reg.HDL_CFG 0 false) 3
  refine ⟨?_, ?_, ?_, ?_⟩
  · rw [hdlFault, hdlFail, State.bit_err_ne _ _ _ _ _ _ (by decide), State.bit_raise_ne _ _ _ _ _ (by decide) (by decide),
      State.bit_setBit_same _ _ _ _ (by decide)]
  · rw [hdlFail, State.bit_err_ne _ _ _ _ _ _ (by decide), State.bit_raise_ne _ _ _ _ _ (by decide) (by decide),
      State.bit_setBit_ne _ _ _ _ _ _ (by decide), hdrop.bit (by decide), State.bit_setBit_same _ _ _ _ (by decide)]
  · rw [State.irq, hdlFail, State.bit_err_ne _ _ _ _ _ _ (by decide)]
    exact irq_raise _ _ _ (by decide)
  · rw [hdlFail, State.err_wenc, State.raise_wenc, State.setBit_wenc, dropGate_gate]

/-! ## Frames by the status that comes in -/

/-- A bad status of a link that is not yet to fault. -/
theorem hdlAnswered_bad {s : State} {status : Word} (hbad : hdlGood (hdlStatusIn s status) = false) (hrun : s.fld Reg.HDL_FIFO 16 5 < 15) : hdlAnswered s (hdlStatusIn s status) =
    hdlRepeat (s.wenc.lastCmd.map hdlCommandOf) s.wenc.lastFromFifo (hdlBad (hdlSend s).2.2) := by
  obtain ⟨w, f, hsend⟩ := hdlSend_eq s
  rw [hdlAnswered, hdlStatus_bad _ _ _ hbad, if_neg]
  rw [hsend, State.setW_fld]
  omega

section
variable {s : State} {status : Word} (hf : s.frozen pgHDL = false) (hok : hdlFault s = false)
include hf hok

theorem hdlFrame_good (hgood : hdlGood (hdlStatusIn s status) = true) : Runs (.hdlFrame status) s fun t =>
    t.fld Reg.HDL_FIFO 16 5 = 0 ∧ t.wenc.hdlSlot = (s.wenc.hdlSlot + 1) % 3 ∧ t.wenc.lastCmd = (hdlSend s).1 := by
  obtain ⟨t, hrun, hend⟩ := hdlFrame_runs (status := status) hf hok
  obtain ⟨w, f, hsend⟩ := hdlSend_eq s
  refine ⟨t, hrun, hend.run.trans (fld_hdlStatus_good _ _ _ hgood), ?_, hend.cmd⟩
  rw [hend.slot, hdlAnswered, hdlStatus_good_slot _ _ _ hgood, hsend, State.setW_wenc]

theorem hdlFrame_response {c : Word} (hgood : hdlGood (hdlStatusIn s status) = true) (hff : s.wenc.lastFromFifo = true)
    (hc : s.wenc.lastCmd = some c) (hread : fieldOf c 31 1 = 1) (hroom : s.wenc.rsp.length < 16) : Runs (.hdlFrame status) s fun t =>
    t.wenc.rsp = s.wenc.rsp ++ [Word.ofNat (2 ^ 31 + fieldOf c 24 7 * 2 ^ 24 + fieldOf (hdlStatusIn s status) 24 8 * 65536 + fieldOf (hdlStatusIn s status) 8 16)] ∧
    t.irq pgHDL 2 := by
  obtain ⟨t, hrun, hend⟩ := hdlFrame_runs (status := status) hf hok
  obtain ⟨w, f, hsend⟩ := hdlSend_eq s
  obtain ⟨hflag, haddr⟩ := fieldOf_hdlCommandOf c
  rw [hdlAnswered, hc, hff, hsend, Option.map_some,
    hdlStatus_response (s := s.setW { s.wenc with wsgCmds := w, fifo := f }) hgood (hflag.trans hread) hroom] at hend
  refine ⟨t, hrun, ?_, hend.irq (irq_raise _ _ _ (by decide))⟩
  rw [hend.rsp, State.raise_wenc, State.setW_wenc, State.setW_wenc, hdlResponse, haddr]

section
variable (hbad : hdlGood (hdlStatusIn s status) = false)
include hbad

theorem hdlFrame_bad (hrun : s.fld Reg.HDL_FIFO 16 5 < 15) : Runs (.hdlFrame status) s fun t =>
    t.fld Reg.HDL_FIFO 16 5 = s.fld Reg.HDL_FIFO 16 5 + 1 ∧ hdlFault t = false ∧
    t.fld Reg.HDL_CNT 0 16 = min (s.fld Reg.HDL_CNT 0 16 + 1) 65535 ∧ t.irq pgHDL 0 ∧ s.reports pgHDL 0x0902 t := by
  obtain ⟨t, hruns, hend⟩ := hdlFrame_runs (status := status) hf hok
  obtain ⟨w, f, hsend⟩ := hdlSend_eq s
  rw [hdlAnswered_bad hbad hrun, hsend] at hend
  obtain ⟨hfifo, hfault, hcnt, hirq, hrep⟩ := hdlBad_shows (s.setW { s.wenc with wsgCmds := w, fifo := f })
    (s.wenc.lastCmd.map hdlCommandOf) s.wenc.lastFromFifo
  refine ⟨t, hruns, ?_, ?_, ?_, hend.irq hirq, hend.reports hrep⟩
  · rw [hend.run, hfifo, State.setW_fld]
    omega
  · rw [hend.fault, hfault]
    exact hok
  · rw [State.fld_of_reg _ _ _ _ _ _ (hend.reg _ (by decide) (by decide)), hcnt, State.setW_fld]

theorem hdlFrame_repeats {c : Word} (hrun : s.fld Reg.HDL_FIFO 16 5 < 15) (hff : s.wenc.lastFromFifo = true)
    (hc : s.wenc.lastCmd = some c) : Runs (.hdlFrame status) s fun t =>
    t.wenc.wsgCmds = hdlCommandOf c :: (hdlSend s).2.2.wenc.wsgCmds ∧ t.fld Reg.HDL_CNT 16 16 = min (s.fld Reg.HDL_CNT 16 16 + 1) 65535 := by
  obtain ⟨t, hruns, hend⟩ := hdlFrame_runs (status := status) hf hok
  obtain ⟨w, f, hsend⟩ := hdlSend_eq s
  have hrep : ∀ u : State, hdlRepeat (some (hdlCommandOf c)) true u =
      (u.setW { u.wenc with wsgCmds := hdlCommandOf c :: u.wenc.wsgCmds }).addSat Reg.HDL_CNT 16 16 1 := fun _ => rfl
  rw [hdlAnswered_bad hbad hrun, hc, hff, Option.map_some, hrep] at hend
  refine ⟨t, hruns, ?_, ?_⟩
  · rw [hend.wsg, State.addSat_wenc, State.setW_wenc, hdlBad_wenc]
  · rw [State.fld_of_reg _ _ _ _ _ _ (hend.reg _ (by decide) (by decide)), State.fld_addSat_same _ _ _ _ _ (by decide), State.setW_fld, hdlBad,
      State.fld_setFld_ne _ _ _ _ _ _ _ _ (by decide), State.fld_err_ne _ _ _ _ _ _ _ (by decide),
      State.fld_raise_ne _ _ _ _ _ _ (by decide) (by decide), State.addSat, State.fld_setFld_above _ _ _ _ _ _ _ (by decide) (by decide),
      hsend, State.setW_fld]
    rfl

theorem hdlFrame_faults (hrun : 15 ≤ s.fld Reg.HDL_FIFO 16 5) : Runs (.hdlFrame status) s fun t =>
    hdlFault t = true ∧ t.bit Reg.HDL_CFG 0 = false ∧ t.irq pgHDL 1 ∧ t.wenc.gate = false := by
  obtain ⟨t, hruns, hend⟩ := hdlFrame_runs (status := status) hf hok
  obtain ⟨w, f, hsend⟩ := hdlSend_eq s
  have hfail : 16 ≤ (hdlSend s).2.2.fld Reg.HDL_FIFO 16 5 + 1 := by
    rw [hsend, State.setW_fld]
    omega
  rw [hdlAnswered, hdlStatus_bad _ _ _ hbad, if_pos hfail] at hend
  obtain ⟨hfault, hoff, hirq, hgate⟩ := hdlFail_shows (hdlRepeat (s.wenc.lastCmd.map hdlCommandOf) s.wenc.lastFromFifo (hdlBad (hdlSend s).2.2))
  exact ⟨t, hruns, hend.fault.trans hfault, (State.bit_of_reg _ _ _ _ _ (hend.reg _ (by decide) (by decide))).trans hoff, hend.irq hirq,
    hend.gate.trans hgate⟩

end
end

/-- A link in FAULT, and a frozen page. -/
theorem hdlFrameStep_fault {s : State} (status : Word) (h : hdlFault s = true) : hdlFrameStep status s = s := if_pos h

/-! ## Commands and responses of firmware (R155) -/

section
variable {s : State} {m : Master} {v new : Word} (h : Takes s m Reg.HDL_CMD v new)
include h

theorem hdlCmdWrite_runs {P : State → Prop} (hp : P (s.settled (hdlPush v ((s.putReg Reg.HDL_CMD new).setReg Reg.HDL_CMD 0#32)))) :
    Runs (.hdlCmdWrite m v) s P := runs_of_done _ (congrArg (done s) (regWrite_take h)) hp

theorem hdlCmdWrite_joins (hroom : s.wenc.fifo.length + s.wenc.wsgCmds.length < 16) : Runs (.hdlCmdWrite m v) s fun t =>
    t.wenc.fifo = s.wenc.fifo ++ [v &&& 0xFF00FFFF#32] := by
  refine hdlCmdWrite_runs h ?_
  rw [hdlPush, State.setReg_wenc, State.putReg_wenc, if_pos hroom, State.settled_wenc, hdlLevels_wenc, State.setW_wenc]

theorem hdlCmdWrite_overflows (hfull : 16 ≤ s.wenc.fifo.length + s.wenc.wsgCmds.length) : Runs (.hdlCmdWrite m v) s fun t =>
    t.wenc.fifo = s.wenc.fifo ∧ t.irq pgHDL 3 ∧ s.reports pgHDL 0x0904 t := by
  refine hdlCmdWrite_runs h ?_
  rw [hdlPush, State.setReg_wenc, State.putReg_wenc, if_neg (by omega)]
  refine ⟨?_, irq_of_settled ?_, reports_settled s _ _ (by decide) (by decide) ?_⟩
  · rw [State.settled_wenc, State.err_wenc, State.raise_wenc, State.setReg_wenc, State.putReg_wenc]
  · rw [State.irq, State.bit_err_ne _ _ _ _ _ _ (by decide)]
    exact irq_raise _ _ _ (by decide)
  · rw [State.reg_raise_ne _ _ _ _ (by decide) (by decide), State.reg_setReg_ne _ _ _ _ (by decide), (putReg_kept s new).reg _ (by decide)]

end

section
variable {s : State} {m : Master} (hgrant : pageGrants s m pgHDL .read = true)
include hgrant

theorem hdlRspRead_runs {P : State → Prop} (hp : P (s.settled { (hdlPop m s).2 with resp := ⟨(hdlPop m s).1.toNat, false⟩ })) :
    Runs (.hdlRspRead m) s P :=
  runs_of_done _ (congrArg (done s) (if_neg (by rw [show pageOf Reg.HDL_RSP = pgHDL from rfl, hgrant]; decide))) hp

theorem hdlRspRead_answers {x : Word} {r : List Word} (hrsp : s.wenc.rsp = x :: r) : Runs (.hdlRspRead m) s fun t =>
    t.resp = ⟨x.toNat, false⟩ ∧ t.wenc.rsp = if m = .hostin then s.wenc.rsp else r := by
  have hpop : hdlPop m s = (x, if m = .hostin then s else hdlLevels (s.setW { s.wenc with rsp := r })) := by rw [hdlPop, hrsp]
  refine hdlRspRead_runs hgrant ?_
  rw [hpop]
  refine ⟨rfl, ?_⟩
  rw [State.settled_wenc]
  by_cases hm : m = .hostin
  · simp only [hm, if_true]
  · simp only [if_neg hm, hdlLevels_wenc, State.setW_wenc]

theorem hdlRspRead_empty (hrsp : s.wenc.rsp = []) : Runs (.hdlRspRead m) s fun t => t.resp = ⟨0, false⟩ ∧ t.wenc = s.wenc := by
  have hpop : hdlPop m s = (0#32, s) := by rw [hdlPop, hrsp]
  refine hdlRspRead_runs hgrant ?_
  rw [hpop]
  exact ⟨rfl, rfl⟩

end

/-- Settles O25: a frame by the status it takes in, a command by the room in the FIFO, a read by the responses that stand. -/
theorem headLinkFramesCommandsAndResponses : Obligations.HeadLinkFramesCommandsAndResponses := by
  unfold Obligations.HeadLinkFramesCommandsAndResponses
  refine ⟨?_, ?_, ?_, ?_, ?_, ?_, ?_, ?_, ?_, ?_⟩
  · exact fun s status ⟨hf, hok, hgood⟩ => hdlFrame_good hf hok hgood
  · exact fun s status ⟨hf, hok, hbad, hrun⟩ => hdlFrame_bad hf hok hbad hrun
  · exact fun s status ⟨hf, hok, hbad, hrun⟩ => hdlFrame_faults hf hok hbad hrun
  · exact fun s status c ⟨hf, hok, hgood, hff, hc, hread, hroom⟩ => hdlFrame_response hf hok hgood hff hc hread hroom
  · exact fun s status c ⟨hf, hok, hbad, hrun, hff, hc⟩ => hdlFrame_repeats hf hok hbad hrun hff hc
  · exact fun s status ⟨hwf, h⟩ => runs_unchanged hwf rfl (unlessFrozen_idle (hdlFrameStep_fault _) h)
  · exact fun s m v new ⟨h, hroom⟩ => hdlCmdWrite_joins h hroom
  · exact fun s m v new ⟨h, hfull⟩ => hdlCmdWrite_overflows h hfull
  · exact fun s m x r ⟨hgrant, hrsp⟩ => hdlRspRead_answers hgrant hrsp
  · exact fun s m ⟨hgrant, hrsp⟩ => hdlRspRead_empty hgrant hrsp

end Sys2Proof.Machine
end

section
/-! What a block's read of SRAM depends on (R415 to R421, R430): states that such a read does not tell apart. -/
namespace Sys2Proof.Machine

/-- An uncorrectable word is counted against the part of SRAM it lies in. -/
def ueTallied (w : Nat) (s : State) : State := { s with ms := { s.ms with
  macUe := (macroOf w, s.ticks) :: s.ms.macUe.filter (fun p => decide (s.ticks < p.2 + ticksPerSecond)) } }

/-- A word that MEMC could not repair is noted as it is read, then its part of SRAM judged (R419, R421). -/
theorem noteUe_eq (s : State) (m : Master) (w : Nat) : noteUe s m w =
    let t := ueTallied w ((((((s.setReg Reg.MEMC_ERRADDR (Word.ofNat w)).setReg Reg.MEMC_ERRSRC (Word.ofNat m.id)).addSat Reg.MEMC_UECNT 0 16 1).raise
      0x1C 1).err 0x1C 0x1802 m.id).report 0x1C 0x1802 m.id [])
    if t.fld Reg.MEMC_CFG 8 4 ≤ (t.ms.macUe.filter (fun p => p.1 == macroOf w)).length ∧ !macroFailed t w then failMacro t (macroOf w) else t := rfl

theorem readWords_cons (m : Master) (w : Nat) (l : List Nat) (s : State) : readWords m (w :: l) s =
    ((readWord s m w).1 || (readWords m l (readWord s m w).2).1, (readWords m l (readWord s m w).2).2) := rfl

/-- The same SRAM, the same state of MEMC, and the same registers of MEMC and of the access tables. -/
structure SramSame (s u : State) : Prop where
  mem : u.mem = s.mem
  ms : u.ms = s.ms
  ticks : u.ticks = s.ticks
  reg : ∀ a, memRegs a → u.reg a = s.reg a

namespace SramSame

variable {s u : State}

theorem putReg (s : State) {a : Nat} (new : Word) (ha : ¬memRegs a) (hi : ¬(a % 0x1000 = 0x10 ∨ a % 0x1000 = 0x14) := by decide) :
    SramSame s (s.putReg a new) := by
  have hreg : ∀ b, memRegs b → (s.putReg a new).reg b = s.reg b := fun b hb => s.reg_putReg_ne b new (by rintro rfl; exact ha hb) hi
  obtain ⟨r, l, w, h⟩ := s.putReg_eq a new
  exact ⟨by rw [h], by rw [h], by rw [h], hreg⟩

theorem fld (h : SramSame s u) {a : Nat} (ha : memRegs a) (lo w : Nat) : u.fld a lo w = s.fld a lo w := State.fld_of_reg _ _ _ _ _ _ (h.reg a ha)
theorem bit (h : SramSame s u) {a : Nat} (ha : memRegs a) (i : Nat) : u.bit a i = s.bit a i := State.bit_of_reg _ _ _ _ _ (h.reg a ha)
theorem byte (h : SramSame s u) (a : Nat) : u.byte a = s.byte a := congrArg (fun m => SMap.get memByte m a) h.mem

theorem bytes (h : SramSame s u) (a n : Nat) : u.bytes a n = s.bytes a n := by
  induction n generalizing a with
  | zero => rfl
  | succ n ih => rw [State.bytes, State.bytes, h.byte, ih]

/-! ## Changes of both alike -/

theorem setReg (h : SramSame s u) (a : Nat) (w : Word) : SramSame (s.setReg a w) (u.setReg a w) :=
  ⟨h.mem, h.ms, h.ticks, fun b hb => by rw [State.reg_setReg, State.reg_setReg, h.reg b hb]⟩

theorem setFld (h : SramSame s u) {a : Nat} (ha : memRegs a) (lo w v : Nat) : SramSame (s.setFld a lo w v) (u.setFld a lo w v) := by
  rw [State.setFld, State.setFld, h.reg a ha]
  exact h.setReg a _

theorem addSat (h : SramSame s u) {a : Nat} (ha : memRegs a) (lo w n : Nat) : SramSame (s.addSat a lo w n) (u.addSat a lo w n) := by
  rw [State.addSat, State.addSat, h.fld ha]
  exact h.setFld ha _ _ _

theorem raise (h : SramSame s u) (i : Nat) : SramSame (s.raise 0x1C i) (u.raise 0x1C i) := by
  have hraw : SramSame (s.setReg (Reg.IRQ_RAW 0x1C) (s.reg (Reg.IRQ_RAW 0x1C) ||| Word.ofNat (2 ^ i)))
      (u.setReg (Reg.IRQ_RAW 0x1C) (u.reg (Reg.IRQ_RAW 0x1C) ||| Word.ofNat (2 ^ i))) := by
    rw [h.reg _ (.inl (by decide))]
    exact h.setReg _ _
  unfold State.raise State.raiseMask State.settleIrq
  rw [hraw.reg (Reg.IRQ_RAW 0x1C) (.inl (by decide)), hraw.reg (Reg.IRQ_STAT 0x1C) (.inl (by decide)), hraw.reg (Reg.IRQ_EN 0x1C) (.inl (by decide))]
  exact hraw.setReg _ _

theorem err (h : SramSame s u) (c m : Nat) : SramSame (s.err 0x1C c m) (u.err 0x1C c m) := by
  unfold State.err
  dsimp only
  rw [h.fld (.inl (by decide))]
  split
  · exact h.setReg _ _
  · exact h.addSat (.inl (by decide)) _ _ _

theorem report (h : SramSame s u) (c m : Nat) : SramSame (s.report 0x1C c m []) (u.report 0x1C c m []) := ⟨h.mem, h.ms, h.ticks, h.reg⟩

theorem setMs (h : SramSame s u) (x : MemSys) : SramSame { s with ms := x } { u with ms := x } := ⟨h.mem, rfl, h.ticks, h.reg⟩

theorem ite {c : Prop} [Decidable c] {s' u' : State} (h : SramSame s u) (h' : SramSame s' u') :
    SramSame (if c then s else s') (if c then u else u') := by
  split <;> assumption

theorem setBytes (h : SramSame s u) (a : Nat) (l : List Nat) : SramSame (s.setBytes a l) (u.setBytes a l) := by
  induction l generalizing s u a with
  | nil => exact h
  | cons b l ih =>
    have hbyte : SramSame (s.setByte a (BitVec.ofNat 8 b)) (u.setByte a (BitVec.ofNat 8 b)) :=
      ⟨congrArg (fun m => SMap.set memByte m a (BitVec.ofNat 8 b)) h.mem, h.ms, h.ticks, h.reg⟩
    exact ih hbyte (a + 1)

theorem copyWord (h : SramSame s u) (src dst : Nat) : SramSame (copyWord s src dst) (copyWord u src dst) := by
  unfold Machine.copyWord
  rw [h.bytes]
  exact h.setBytes dst _

/-! ## A word as MEMC reads it -/

theorem dropUe (h : SramSame s u) (p : Nat → Bool) : SramSame (dropUe s p) (dropUe u p) := by
  unfold Machine.dropUe
  rw [h.ms]
  exact h.setMs _

theorem macroFailed (h : SramSame s u) (a : Nat) : macroFailed u a = macroFailed s a := h.bit (.inl (by decide)) _

theorem mirrorHolds (h : SramSame s u) {k base : Nat} (hk : k < 4) (hb : memRegs base) (a : Nat) :
    mirrorHolds u k base a = mirrorHolds s k base a := by
  unfold Machine.mirrorHolds
  rw [h.reg base hb, h.bit (a := Reg.MEMC_MIR_CFG k) (.inl (by simp only [Reg.MEMC_MIR_CFG]; omega)),
    h.fld (a := Reg.MEMC_MIR_SIZE k) (.inl (by simp only [Reg.MEMC_MIR_SIZE]; omega))]

theorem mirrorOf (h : SramSame s u) (a : Nat) : mirrorOf u a = mirrorOf s a := by
  unfold Machine.mirrorOf
  rw [← List.head?_filterMap, ← List.head?_filterMap]
  refine congrArg List.head? (List.filterMap_congr fun k hk => ?_)
  have hk := List.mem_range.mp hk
  have hpri : memRegs (Reg.MEMC_MIR_PRI k) := .inl (by simp only [Reg.MEMC_MIR_PRI]; omega)
  rw [h.mirrorHolds hk hpri, h.reg _ hpri, h.reg (Reg.MEMC_MIR_SEC k) (.inl (by simp only [Reg.MEMC_MIR_SEC]; omega))]

theorem isUe (h : SramSame s u) (w : Nat) : isUe u w = isUe s w := by rw [Machine.isUe, h.ms, Machine.isUe]
theorem pageRepairs (h : SramSame s u) (w : Nat) : pageRepairs u w = pageRepairs s w := by rw [Machine.pageRepairs, h.ms, Machine.pageRepairs]

theorem failMacro (h : SramSame s u) (k : Nat) : SramSame (failMacro s k) (failMacro u k) :=
  (((h.setFld (a := Reg.MEMC_MACFAIL) (.inl (by decide)) k 1 _).raise 2).err _ _).report _ _

theorem ueTallied (h : SramSame s u) (w : Nat) : SramSame (ueTallied w s) (ueTallied w u) := by
  have hms : (Machine.ueTallied w u).ms = (Machine.ueTallied w s).ms := by
    simp only [Machine.ueTallied, h.ms, h.ticks]
  exact ⟨h.mem, hms, h.ticks, h.reg⟩

theorem noteUe (h : SramSame s u) (m : Master) (w : Nat) : SramSame (noteUe s m w) (noteUe u m w) := by
  have hnoted := ((((((h.setReg Reg.MEMC_ERRADDR (Word.ofNat w)).setReg Reg.MEMC_ERRSRC (Word.ofNat m.id)).addSat (a := Reg.MEMC_UECNT)
    (.inl (by decide)) 0 16 1).raise 1).err 0x1802 m.id).report 0x1802 m.id).ueTallied w
  rw [noteUe_eq, noteUe_eq]
  dsimp only
  rw [hnoted.fld (a := Reg.MEMC_CFG) (.inl (by decide)), hnoted.ms, hnoted.macroFailed]
  exact .ite (hnoted.failMacro _) hnoted

theorem correctWord (h : SramSame s u) (w : Nat) : SramSame (correctWord s w) (correctWord u w) := by
  have hcount := (h.addSat (a := Reg.MEMC_CECNT) (.inl (by decide)) 0 16 1).raise 0
  unfold Machine.correctWord
  dsimp only
  rw [hcount.bit (a := Reg.MEMC_CFG) (.inl (by decide)), hcount.ms]
  exact .ite (hcount.setMs _) hcount

/-- The page code repairs a page in both alike. -/
theorem repaired (h : SramSame s u) (p : Nat → Bool) : SramSame (Machine.dropUe ((s.addSat Reg.MEMC_CECNT 16 16 1).raise 0x1C 0) p)
    (Machine.dropUe ((u.addSat Reg.MEMC_CECNT 16 16 1).raise 0x1C 0) p) :=
  ((h.addSat (a := Reg.MEMC_CECNT) (.inl (by decide)) 16 16 1).raise 0).dropUe p

theorem readWord (h : SramSame s u) (m : Master) (w : Nat) :
    (readWord u m w).1 = (readWord s m w).1 ∧ SramSame (readWord s m w).2 (readWord u m w).2 := by
  unfold Machine.readWord
  simp only [h.macroFailed, h.mirrorOf, h.isUe, h.pageRepairs, h.ms]
  split
  · split
    · split
      · exact ⟨rfl, h.noteUe m _⟩
      · exact ⟨rfl, h⟩
    · exact ⟨rfl, h⟩
  · split
    · split
      · split
        · exact ⟨rfl, (h.copyWord _ _).dropUe (· == w)⟩
        · split
          · exact ⟨rfl, h.repaired (fun x => x / 4096 == w / 4096)⟩
          · exact ⟨rfl, h.noteUe m w⟩
      · split
        · exact ⟨rfl, h.repaired (fun x => x / 4096 == w / 4096)⟩
        · exact ⟨rfl, h.noteUe m w⟩
    · split
      · exact ⟨rfl, h.correctWord w⟩
      · exact ⟨rfl, h⟩

theorem readWords (h : SramSame s u) (m : Master) (l : List Nat) :
    (readWords m l u).1 = (readWords m l s).1 ∧ SramSame (readWords m l s).2 (readWords m l u).2 := by
  induction l generalizing s u with
  | nil => exact ⟨rfl, h⟩
  | cons w l ih =>
    obtain ⟨hword, hnext⟩ := h.readWord m w
    obtain ⟨hwords, hlast⟩ := ih hnext
    rw [readWords_cons, readWords_cons]
    exact ⟨congrArg₂ or hword hwords, hlast⟩

theorem returnedByte (h : SramSame s u) (b : Nat) : returnedByte u b = returnedByte s b := by
  have hmask : ueMask u (b / 8 * 8) = ueMask s (b / 8 * 8) := by rw [ueMask, h.ms, ueMask]
  unfold Machine.returnedByte
  rw [h.macroFailed, h.mirrorOf, h.byte, hmask]
  split
  · split
    · rw [h.byte]
    · rfl
  · rfl

/-- The access tables grant both alike; the debugger's rights turn on other registers too. -/
theorem sramGrants (h : SramSame s u) {m : Master} (hm : m ≠ .dbg) (a : Nat) (x : AccKind) : sramGrants u m a x = sramGrants s m a x := by
  have hdbg : ∀ v : State, dbgMasked v m = false := fun v => by simp [dbgMasked, hm]
  unfold Machine.sramGrants windowsGrant
  rw [hdbg, hdbg]
  refine congrArg (!false && ·) ?_
  rw [Bool.eq_iff_iff, List.any_eq_true, List.any_eq_true]
  refine exists_congr fun k => and_congr_right fun hk => ?_
  have hk := List.mem_range.mp hk
  have hbase : memRegs (Reg.ACL_SRAM_BASE 0 + 0x40 * k) := .inr (by simp only [Reg.ACL_SRAM_BASE]; omega)
  have hreg : ∀ o < 16, memRegs (Reg.ACL_SRAM_BASE 0 + 0x40 * k + o) := fun o ho => .inr (by simp only [Reg.ACL_SRAM_BASE]; omega)
  unfold windowGrants
  simp only [h.bit hbase, h.fld hbase, h.fld (hreg 4 (by decide)), h.bit (hreg 8 (by decide)), h.bit (hreg 12 (by decide))]

/-- A read of SRAM answers both the same bytes, and an error to both or neither. -/
theorem memRead (h : SramSame s u) {m : Master} (hm : m ≠ .dbg) (a n : Nat) :
    (memRead u m a n).1 = (memRead s m a n).1 ∧ (memRead u m a n).2.1 = (memRead s m a n).2.1 := by
  obtain ⟨herr, hafter⟩ := h.readWords m (wordsOf a n)
  unfold Machine.memRead
  rw [h.sramGrants hm]
  split
  · exact ⟨rfl, rfl⟩
  · exact ⟨List.map_congr_left fun i _ => hafter.returnedByte _, herr⟩

end SramSame

end Sys2Proof.Machine
end

section
/-! Write arms and their passes: what WENC's commands leave (R117 to R125, R141, R147). -/
namespace Sys2Proof.Machine

/-! ## Commands of a page -/

/-- A register write that its page's freeze would hold back, of a page that runs. -/
theorem regWrite_unlessFrozen {s : State} {m : Master} {a p : Nat} {v new : Word} {f : State → State} (h : Takes s m a v new)
    (hp : s.frozen p = false) (hne : Reg.CTRL p ≠ a) (hi : ¬(a % 0x1000 = 0x10 ∨ a % 0x1000 = 0x14)) :
    regWrite s m a 4 v (fun s => s.unlessFrozen p f) = f (s.putReg a new) := by
  rw [regWrite_take h]
  exact State.unlessFrozen_running (((putReg_kept s new hi).bit hne 2).trans hp) f

/-- What holds of the state before and of the effect holds of a page's command, frozen or not. -/
theorem unlessFrozen_wenc {f : State → State} {s : State} (p : Nat) (h : (f s).wenc = s.wenc) : (s.unlessFrozen p f).wenc = s.wenc := by
  unfold State.unlessFrozen
  split
  · rfl
  · exact h

/-! ## Arms (R119, R120) -/

/-- The arm that WENC's registers describe. -/
def armDescribed (tag : Word) (s : State) : Arm :=
  { psa := s.fld Reg.WENC_ARM_PSA 0 25, desc := (s.reg Reg.WENC_ARM_DESC).toNat, slot := s.fld Reg.WENC_ARM_CTRL 0 2,
    order := s.fld Reg.WENC_ARM_CTRL 2 2, chan := s.fld Reg.WENC_ARM_CTRL 4 2, test := s.bit Reg.WENC_ARM_CTRL 6,
    rpln := s.fld Reg.WENC_ARM_CTRL 8 2, rst := s.fld Reg.WENC_ARM_RST 0 16, tag := tag.toNat, parity := false, passes := 0, off := 0,
    offs := [], running := false, go := false, t0 := 0, tfs := 0, step := 0, tbl := [] }

theorem armCommit_eq (tag : Word) (s : State) : armCommit tag s =
    if armOk (memRead s .cdma (armDescribed tag s).desc 7168).2.2 (armDescribed tag s) (memRead s .cdma (armDescribed tag s).desc 7168).1 then
      putArm (memRead s .cdma (armDescribed tag s).desc 7168).2.2 (armDescribed tag s)
    else ((memRead s .cdma (armDescribed tag s).desc 7168).2.2.raise pgWENC 0).err pgWENC 0x0502 0 := rfl

/-- The registers that a commit may change before it is judged: the tag, and those an access of SRAM reaches. -/
abbrev commitRegs (a : Nat) : Prop := a = Reg.WENC_ARM_TAG ∨ memRegs a

theorem armDescribed_congr {s u : State} (h : RegsKept commitRegs s u) (tag : Word) : armDescribed tag u = armDescribed tag s := by
  unfold armDescribed
  simp only [h.fld (a := Reg.WENC_ARM_PSA) (by decide), h.reg Reg.WENC_ARM_DESC (by decide), h.fld (a := Reg.WENC_ARM_CTRL) (by decide),
    h.bit (a := Reg.WENC_ARM_CTRL) (by decide), h.fld (a := Reg.WENC_ARM_RST) (by decide)]

/-- An arm has no channel but 0 and 1. -/
theorem all_armChans_congr (a : Arm) {p q : Nat → Bool} (h0 : p 0 = q 0) (h1 : p 1 = q 1) : (armChans a).all p = (armChans a).all q := by
  unfold armChans
  split <;> split <;> simp only [List.all_append, List.all_cons, List.all_nil, h0, h1]

theorem chanInService_congr {P : Nat → Prop} {s u : State} (h : RegsKept P s u) (hcfg : ¬P Reg.WSG_CFG) (hact : ¬P Reg.DSK_LANEACT) (c : Nat) :
    chanInService u c = chanInService s c := by rw [chanInService, h.bit hcfg, h.bit hact, chanInService]

theorem armOk_congr {s u : State} (h : RegsKept commitRegs s u) (hw : u.wenc = s.wenc) (a : Arm) (tbl : List Nat) :
    armOk u a tbl = armOk s a tbl := by
  have hserved := chanInService_congr h (by decide) (by decide)
  unfold armOk
  rw [hw, h.fld (a := Reg.WENC_STG_SLOTS) (by decide), h.bit (a := Reg.WSG_LAYERSTAT) (by decide),
    h.bit (a := Reg.WINH_ACMP_CFG 2) (by decide), h.bit (a := Reg.CAL_RUN) (by decide), all_armChans_congr a (hserved 0) (hserved 1),
    all_armChans_congr a (p := fun c => u.bit (Reg.WINH_ACMP_CFG c) 0)
      (q := fun c => s.bit (Reg.WINH_ACMP_CFG c) 0) (h.bit (by decide) 0) (h.bit (by decide) 0)]

theorem putArm_wenc (s : State) (a : Arm) :
    (putArm s a).wenc = { s.wenc with arms := s.wenc.arms ++ [a], held := a.slot :: s.wenc.held.filter (· != a.slot) } := by
  unfold putArm
  dsimp only
  split
  · rw [State.setBit_wenc, State.setW_wenc]
  · rfl

section
variable {s : State} {m : Master} {v new : Word} (h : Takes s m Reg.WENC_ARM_TAG v new) (hf : s.frozen pgWENC = false)
include h hf

/-- A commit is judged on the state in which WENC has read the descriptor table. -/
theorem wencArm_runs {P : State → Prop} (hp : ∀ u, RegsKept commitRegs s u → u.wenc = s.wenc →
    P (s.settled (if armOk s (armDescribed v s) (memRead s .cdma (armDescribed v s).desc 7168).1 then putArm u (armDescribed v s)
      else (u.raise pgWENC 0).err pgWENC 0x0502 0))) : Runs (.wencArm m v) s P := by
  have hput := putReg_kept s (a := Reg.WENC_ARM_TAG) new
  have hread := memRead_memOnly (s.putReg Reg.WENC_ARM_TAG new) .cdma (armDescribed v s).desc 7168
  have hkept : RegsKept commitRegs s (memRead (s.putReg Reg.WENC_ARM_TAG new) .cdma (armDescribed v s).desc 7168).2.2 :=
    (hput.mono fun _ => .inl).trans ((RegsKept.of_memOnly hread).mono fun _ => .inr)
  have hwenc := hread.wenc.trans (s.putReg_wenc Reg.WENC_ARM_TAG new)
  have hsame : SramSame s (s.putReg Reg.WENC_ARM_TAG new) := SramSame.putReg s new (by decide)
  refine runs_of_done _ (congrArg (done s) (regWrite_unlessFrozen h hf (by decide) (by decide))) ?_
  rw [armCommit_eq, armDescribed_congr (hput.mono fun _ => .inl), armOk_congr hkept hwenc, (hsame.memRead (by decide) _ _).1]
  exact hp _ hkept hwenc

theorem wencArm_joins (hok : armOk s (armDescribed v s) (memRead s .cdma (armDescribed v s).desc 7168).1 = true) :
    Runs (.wencArm m v) s fun t => t.wenc.arms = s.wenc.arms ++ [armDescribed v s] ∧ (armDescribed v s).slot ∈ t.wenc.held := by
  refine wencArm_runs h hf fun u _ hu => ?_
  rw [if_pos hok, State.settled_wenc, putArm_wenc, hu]
  exact ⟨rfl, List.mem_cons_self⟩

theorem wencArm_refused (hbad : armOk s (armDescribed v s) (memRead s .cdma (armDescribed v s).desc 7168).1 = false) :
    Runs (.wencArm m v) s fun t => t.wenc.arms = s.wenc.arms ∧ t.irq pgWENC 0 ∧ s.reports pgWENC 0x0502 t := by
  refine wencArm_runs h hf fun u hkept hu => ?_
  rw [if_neg (by rw [hbad]; decide)]
  refine ⟨?_, irq_of_settled ?_, reports_settled s _ _ (by decide) (by decide) ?_⟩
  · rw [State.settled_wenc, State.err_wenc, State.raise_wenc, hu]
  · exact ((Logs.refl _ _).err _ _ (by decide)).irq_stands 0 (irq_raise u pgWENC 0 (by decide))
  · rw [State.reg_raise_ne _ _ _ _ (by decide) (by decide), hkept.reg _ (by decide)]

end

/-! ## Strip parity (R120) -/

theorem writeParity_memOnly (a : Arm) (tbl l : List Nat) (s : State) : MemOnly memRegs s (writeParity a tbl l s) := by
  have hrow : ∀ (cols : List (List Nat)) (g : Nat) (js : List Nat) (u : State), MemOnly memRegs u (js.foldl (fun s j =>
      memWrite s .cdma (stagingAddr s a.slot g (56 + j)) (cols.map (fun c => c.getD j 0))) u) := by
    intro cols g js
    induction js with
    | nil => exact fun u => .refl _ u
    | cons j js ih => exact fun u => (memWrite_memOnly u .cdma _ _).trans (ih _)
  induction l generalizing s with
  | nil => exact .refl _ s
  | cons g l ih => exact (hrow _ g _ s).trans (ih _)

theorem wencParityDone_notes {s : State} {a : Arm} (hf : s.frozen pgWENC = false) (h : s.wenc.arms.find? (fun x => !x.parity) = some a) :
    Runs .wencParityDone s fun t => t.wenc.arms = s.wenc.arms.map (fun x => if x.slot == a.slot then { x with parity := true } else x) := by
  refine runs_of_done _ (congrArg (done s) (State.unlessFrozen_running hf _)) ?_
  simp only [h, State.settled_wenc, State.setW_wenc, (writeParity_memOnly a (armTable s a) (List.range 8) s).wenc]

/-! ## A pass starts (R121 to R123) -/

theorem passLevels_wenc (s : State) (a : Arm) (k : Nat) : ∃ c, (passLevels s a k).wenc = { s.wenc with wsgCmds := c } :=
  ⟨_, State.setFld_wenc ..⟩

/-- The front arm as its next pass starts. -/
def armStarted (s : State) (tfs : Nat) (a : Arm) : Arm :=
  let offs := if a.passes = 0 then passOrder a s.wenc.lastPsa s.wenc.lastOff else a.offs
  { a with offs := offs, off := offs.headD 0, running := true, go := false, t0 := s.ticks, tfs := tfs, step := 0 }

/-- Clamped levels of a pass are counted and reported (R122). -/
def clampsNoted (n : Nat) (s : State) : State :=
  let t := if n = 0 then s else (s.addSat Reg.WSG_CNT 0 16 n).raise pgWSG 2
  if n = 0 then t else t.err pgWSG 0x0603 0

theorem clampsNoted_wenc (n : Nat) (s : State) : (clampsNoted n s).wenc = s.wenc := by
  by_cases hn : n = 0
  · simp [clampsNoted, hn]
  · simp [clampsNoted, hn, State.err_wenc, State.raise_wenc, State.addSat_wenc]

section
variable {s : State} {a : Arm} {r : List Arm} (harms : s.wenc.arms = a :: r) (h : mayStart s a = true) (tfs : Nat)
include harms h

theorem startPass_eq : ∃ (w : List WrittenSector) (p : Word) (n : Nat), startPass tfs s = passLevels (clampsNoted n ((s.setW { s.wenc with
    arms := armStarted s tfs a :: r, emit := (armChans a).map (shareOut s (armStarted s tfs a) (armStarted s tfs a).off), gate := true,
    written := w }).setReg Reg.WENC_POS p)) (armStarted s tfs a) 0 := by
  refine ⟨?written, ?pos, ?clamps, ?run⟩
  case run =>
    simp only [startPass, harms, h, Bool.not_true, Bool.false_eq_true, if_false]
    rfl

theorem startPass_wenc : ∃ c w, (startPass tfs s).wenc = { s.wenc with
    arms := armStarted s tfs a :: r, emit := (armChans a).map (shareOut s (armStarted s tfs a) (armStarted s tfs a).off), gate := true,
    written := w, wsgCmds := c } := by
  obtain ⟨w, p, n, hpass⟩ := startPass_eq harms h tfs
  obtain ⟨c, hc⟩ := passLevels_wenc (clampsNoted n ((s.setW { s.wenc with
    arms := armStarted s tfs a :: r, emit := (armChans a).map (shareOut s (armStarted s tfs a) (armStarted s tfs a).off), gate := true,
    written := w }).setReg Reg.WENC_POS p)) (armStarted s tfs a) 0
  rw [clampsNoted_wenc, State.setReg_wenc, State.setW_wenc] at hc
  exact ⟨c, w, by rw [hpass, hc]⟩

end

theorem wencPassStart_starts {s : State} {a : Arm} {r : List Arm} (hf : s.frozen pgWENC = false) (harms : s.wenc.arms = a :: r)
    (h : mayStart s a = true) (tfs : Nat) : Runs (.wencPassStart tfs) s fun t => t.wenc.gate = true ∧
      (runningArm t).map (fun x => (x.slot, x.psa, x.passes, x.offs, x.off, x.t0, x.tfs)) = some (a.slot, a.psa, a.passes,
        if a.passes = 0 then passOrder a s.wenc.lastPsa s.wenc.lastOff else a.offs,
        (if a.passes = 0 then passOrder a s.wenc.lastPsa s.wenc.lastOff else a.offs).headD 0, s.ticks, tfs) ∧
      t.wenc.emit.map (·.chan) = armChans a := by
  obtain ⟨c, w, hw⟩ := startPass_wenc harms h tfs
  refine runs_of_done _ (congrArg (done s) (State.unlessFrozen_running hf _)) ?_
  simp only [runningArm, State.settled_wenc, hw]
  refine ⟨trivial, rfl, ?_⟩
  rw [List.map_map]
  exact List.map_id _

/-- The front arm may not start, or there is none. -/
theorem startPass_idle {s : State} (tfs : Nat) (h : s.wenc.arms.head?.all (fun a => !mayStart s a) = true) : startPass tfs s = s := by
  unfold startPass
  split
  · rfl
  · next a r harms => exact if_pos (by simpa [harms] using h)

/-! ## A pass ends (R125) -/

section
variable {s : State} {a : Arm} {r : List Arm} (hf : s.frozen pgWENC = false) (harms : s.wenc.arms = a :: r) (hrun : a.running = true)
include hf harms hrun

/-- The pass is over: the gate is low, and the pass counts. -/
theorem wencPassEnd_runs {P : State → Prop}
    (hp : ∀ (u : State) (b : Arm), u.wenc = { s.wenc with gate := false, emit := [] } → u.irq pgWENC 1 →
      b = { a with running := false, passes := a.passes + 1, offs := a.offs.drop 1 } →
      P (s.settled (if b.offs.isEmpty then ((u.setW { u.wenc with
        arms := r, verdictArms := u.wenc.verdictArms ++ [b], lastPsa := some b.psa, lastOff := b.off }).addSat Reg.WENC_CNT 0 16 1).raise pgWENC 2
        else u.setW { u.wenc with arms := b :: r }))) : Runs .wencPassEnd s P := by
  refine runs_of_done _ (congrArg (done s) (State.unlessFrozen_running hf _)) ?_
  simp only [endPass, harms, hrun, Bool.not_true, Bool.false_eq_true, if_false]
  exact hp ((posIdle (s.setW { s.wenc with gate := false, emit := [] })).raise pgWENC 1) _ (by
    rw [State.raise_wenc, posIdle, State.setReg_wenc, State.setW_wenc]) (irq_raise _ _ _ (by decide)) rfl

theorem wencPassEnd_last (hlast : a.offs.length ≤ 1) : Runs .wencPassEnd s fun t =>
    t.wenc.arms = r ∧ t.wenc.gate = false ∧
    t.wenc.verdictArms = s.wenc.verdictArms ++ [{ a with running := false, passes := a.passes + 1, offs := [] }] ∧
    t.wenc.lastPsa = some a.psa ∧ t.wenc.lastOff = a.off ∧ t.irq pgWENC 1 ∧ t.irq pgWENC 2 := by
  have hnone : a.offs.drop 1 = [] := List.drop_eq_nil_of_le hlast
  refine wencPassEnd_runs hf harms hrun fun u b hu hirq hb => ?_
  rw [hnone] at hb
  have hempty : b.offs.isEmpty = true := by rw [hb, List.isEmpty_nil]
  rw [if_pos hempty]
  have hlogs : Logs pgWENC u ((u.setW { u.wenc with arms := r, verdictArms := u.wenc.verdictArms ++ [b], lastPsa := some b.psa, lastOff := b.off }).addSat
      Reg.WENC_CNT 0 16 1) := .of_regsKept (((RegsKept.refl (· = Reg.WENC_CNT) u).setW _).addSat rfl _ _ _) (by decide) (by decide)
  simp only [State.settled_wenc, State.raise_wenc, State.addSat_wenc, State.setW_wenc, hu, hb, true_and]
  rw [hb] at hlogs
  exact ⟨irq_of_settled ((hlogs.raise 2 (by decide)).irq_stands 1 hirq), irq_of_settled (irq_raise _ _ _ (by decide))⟩

theorem wencPassEnd_more (hmore : 1 < a.offs.length) : Runs .wencPassEnd s fun t =>
    t.wenc.arms = { a with running := false, passes := a.passes + 1, offs := a.offs.drop 1 } :: r ∧ t.wenc.gate = false ∧ t.irq pgWENC 1 := by
  have hsome : (a.offs.drop 1).isEmpty = false := by
    rw [List.isEmpty_eq_false_iff, ← List.length_pos_iff, List.length_drop]
    omega
  refine wencPassEnd_runs hf harms hrun fun u b hu hirq hb => ?_
  have hleft : ¬b.offs.isEmpty = true := by rw [hb, hsome]; decide
  rw [if_neg hleft, hb]
  simp only [State.settled_wenc, State.setW_wenc, hu, true_and]
  exact irq_of_settled hirq

end

theorem endPass_idle {s : State} (h : runningArm s = none) : endPass s = s := by
  unfold runningArm at h
  unfold endPass
  split
  · rfl
  · next a r harms =>
    rw [harms] at h
    exact if_pos (by simpa using h)

/-! ## PASSGO and its wait (R125, R147) -/

theorem passGo_idle {s : State} (h : betweenPasses s = false) : passGo s = s := by
  unfold betweenPasses at h
  unfold passGo
  split
  · next a r harms =>
    rw [harms] at h
    exact if_neg (by simpa using h)
  · rfl

theorem betweenPasses_front {s : State} {a : Arm} {r : List Arm} (harms : s.wenc.arms = a :: r) (hp : 0 < a.passes) (hrun : a.running = false) :
    betweenPasses s = true := by simp [betweenPasses, harms, hp, hrun]

theorem wencPassgo_idle {s : State} {m : Master} {v new : Word} (h : Takes s m Reg.WENC_PASSGO v new) (hb : betweenPasses s = false) :
    Runs (.wencPassgo m v) s fun t => t.wenc = s.wenc := by
  have hput : betweenPasses (s.putReg Reg.WENC_PASSGO new) = false := by rwa [betweenPasses, State.putReg_wenc]
  refine runs_of_done _ (congrArg (done s) (regWrite_take h)) ?_
  rw [State.settled_wenc, unlessFrozen_wenc pgWENC (by rw [passGo_idle hput]), State.putReg_wenc]

theorem wencPassgo_lets {s : State} {m : Master} {v new : Word} {a : Arm} {r : List Arm} (h : Takes s m Reg.WENC_PASSGO v new)
    (hf : s.frozen pgWENC = false) (harms : s.wenc.arms = a :: r) (hp : 0 < a.passes) (hrun : a.running = false) :
    Runs (.wencPassgo m v) s fun t => t.wenc.arms = { a with go := true } :: r := by
  refine runs_of_done _ (congrArg (done s) (regWrite_unlessFrozen h hf (by decide) (by decide))) ?_
  rw [State.settled_wenc, passGo, State.putReg_wenc, harms]
  dsimp only
  rw [if_pos ⟨hp, by simp [hrun]⟩, State.setW_wenc]

theorem wencPasswaitExpiry_voids {s : State} {a : Arm} {r : List Arm} (hf : s.frozen pgWENC = false) (harms : s.wenc.arms = a :: r)
    (hp : 0 < a.passes) (hrun : a.running = false) (hgo : a.go = false ∨ s.reg Reg.WINH_LATCH ≠ 0#32) :
    Runs .wencPasswaitExpiry s fun t => t.wenc.arms = r ∧
      t.wenc.toXlt.getLast?.map (fun x => (x.slot, x.psa, x.verdict, x.cause)) = some (a.slot, a.psa, 3, 4) ∧ t.irq pgWENC 3 ∧
      s.reports pgWENC 0x0503 t := by
  have hends := voidFront_ends harms 4
  have hvoid : passWaitExpiry s = voidFront s 4 := by
    rw [passWaitExpiry, harms]
    exact if_pos ⟨betweenPasses_front harms hp hrun, hgo.imp_left fun h => by simp [h]⟩
  refine runs_of_done _ (congrArg (done s) ((State.unlessFrozen_running hf _).trans hvoid)) ?_
  exact ⟨hends.arms, hends.last, irq_of_settled (voidFront_irq harms 4), reports_of_settled (voidFront_reports harms 4)⟩

theorem passWaitExpiry_idle {s : State} (h : betweenPasses s = false ∨ (s.wenc.arms.head?.all (·.go) = true ∧ s.reg Reg.WINH_LATCH = 0#32)) :
    passWaitExpiry s = s := by
  unfold passWaitExpiry
  split
  · next a r harms =>
    refine if_neg fun ⟨hb, hgo⟩ => ?_
    obtain h | ⟨hall, hlatch⟩ := h
    · exact absurd (hb.symm.trans h) (by decide)
    · rw [harms] at hall
      exact hgo.elim (fun h => by simp_all) (· hlatch)
  · rfl

/-! ## Arms none of whose passes has started (R123, R124) -/

/-- WENC's arms stand, and XLT has been given one verdict for each of `l`, in order. -/
structure VerdictsGiven (s t : State) (l : List Arm) (verdict cause : Nat) : Prop where
  arms : t.wenc.arms = s.wenc.arms
  given : ∃ xs, t.wenc.toXlt = s.wenc.toXlt ++ xs ∧
    xs.map (fun x => (x.slot, x.psa, x.verdict, x.cause)) = l.map (fun x => (x.slot, x.psa, verdict, cause))

theorem VerdictsGiven.trans {s t u : State} {l k : List Arm} {verdict cause : Nat} (h : VerdictsGiven s t l verdict cause)
    (h' : VerdictsGiven t u k verdict cause) : VerdictsGiven s u (l ++ k) verdict cause := by
  obtain ⟨xs, hxs, hl⟩ := h.given
  obtain ⟨ys, hys, hk⟩ := h'.given
  exact ⟨h'.arms.trans h.arms, xs ++ ys, by rw [hys, hxs, List.append_assoc], by rw [List.map_append, List.map_append, hl, hk]⟩

/-- What the list of verdicts has gained. -/
theorem VerdictsGiven.gained {s t : State} {l : List Arm} {verdict cause : Nat} (h : VerdictsGiven s t l verdict cause) :
    (t.wenc.toXlt.drop s.wenc.toXlt.length).map (fun x => (x.slot, x.psa, x.verdict, x.cause)) = l.map (fun x => (x.slot, x.psa, verdict, cause)) := by
  obtain ⟨xs, hxs, hl⟩ := h.given
  rw [hxs, List.drop_left, hl]

theorem notStarted_given (s : State) (a : Arm) : VerdictsGiven s (notStarted s a) [a] 4 0 := by
  obtain ⟨h, g, w, hgive⟩ := giveVerdict_wenc (((s.addSat Reg.WENC_CNT 24 8 1).raise pgWENC 4).err pgWENC 0x0504 0) a 4 0
  rw [State.err_wenc, State.raise_wenc, State.addSat_wenc] at hgive
  have harms := congrArg WritePath.arms hgive
  have hxlt := congrArg WritePath.toXlt hgive
  exact ⟨harms, _, hxlt, rfl⟩

theorem notStarted_irq (s : State) (a : Arm) : (notStarted s a).irq pgWENC 4 :=
  ((Logs.refl _ _).err _ _ (by decide) |>.trans (giveVerdict_logs ..)).irq_stands 4 (irq_raise _ pgWENC 4 (by decide))

theorem notStarted_reports (s : State) (a : Arm) : s.reports pgWENC 0x0504 (notStarted s a) :=
  (giveVerdict_logs ..).reports_err (by decide)
    ((State.reg_raise_ne _ _ _ _ (by decide) (by decide)).trans (State.reg_addSat_ne _ _ _ _ _ _ (by decide)))

theorem notStarted_logs (s : State) (a : Arm) : Logs pgWENC s (notStarted s a) :=
  (((Logs.of_regsKept ((RegsKept.refl (· = Reg.WENC_CNT) s).addSat rfl 24 8 1) (by decide) (by decide)).raise 4 (by decide)).err _ _
    (by decide)).trans (giveVerdict_logs ..)

theorem notStarteds_given (l : List Arm) (s : State) : VerdictsGiven s (l.foldl notStarted s) l 4 0 := by
  induction l generalizing s with
  | nil => exact ⟨rfl, [], (List.append_nil _).symm, rfl⟩
  | cons a l ih => exact (notStarted_given s a).trans (ih _)

/-- An error of WENC stands once an arm has ended NOTSTARTED. -/
theorem notStarted_count (s : State) (a : Arm) : (notStarted s a).fld (Reg.ERR_INFO pgWENC) 24 8 ≠ 0 := by
  refine ((giveVerdict_logs (((s.addSat Reg.WENC_CNT 24 8 1).raise pgWENC 4).err pgWENC 0x0504 0) a 4 0).err_stands ?_).1
  rw [State.fld_err_count]
  omega

/-- The error that stands after one report of a page's own stays for what follows. -/
theorem Logs.reports {p c : Nat} {s t u : State} (h : Logs p t u) (hc : s.reports p c t) (hcount : t.fld (Reg.ERR_INFO p) 24 8 ≠ 0) :
    s.reports p c u := (h.err_stands hcount).2.trans hc

section
variable {s : State} {a : Arm} {r : List Arm} (harms : s.wenc.arms = a :: r)
include harms

/-- The front arm ends NOTSTARTED with every held arm for a later group of its brick. -/
theorem notStartedFront_ends : (notStartedFront s).wenc.arms = r.filter (fun x => !laterSameBrick a x) ∧
    ((notStartedFront s).wenc.toXlt.drop s.wenc.toXlt.length).map (fun x => (x.slot, x.psa, x.verdict, x.cause)) =
      (a :: r.filter (laterSameBrick a)).map (fun x => (x.slot, x.psa, 4, 0)) ∧
    (notStartedFront s).irq pgWENC 4 ∧ s.reports pgWENC 0x0504 (notStartedFront s) := by
  have hu : (posIdle (s.setW { s.wenc with arms := r.filter (fun b => !laterSameBrick a b) })).wenc =
      { s.wenc with arms := r.filter (fun b => !laterSameBrick a b) } := by rw [posIdle, State.setReg_wenc, State.setW_wenc]
  have hreg : (posIdle (s.setW { s.wenc with arms := r.filter (fun b => !laterSameBrick a b) })).reg (Reg.ERR_INFO pgWENC) =
      s.reg (Reg.ERR_INFO pgWENC) := by rw [posIdle, State.reg_setReg_ne _ _ _ _ (by decide), State.setW_reg]
  simp only [notStartedFront, harms]
  generalize posIdle (s.setW { s.wenc with arms := r.filter (fun b => !laterSameBrick a b) }) = u at hu hreg
  have hgiven := (notStarted_given u a).trans (notStarteds_given (r.filter (laterSameBrick a)) (notStarted u a))
  have hlogs := Logs.foldl (p := pgWENC) notStarted_logs (r.filter (laterSameBrick a)) (notStarted u a)
  have hgained := hgiven.gained
  rw [hu] at hgained
  refine ⟨hgiven.arms.trans (by rw [hu]), hgained, hlogs.irq_stands 4 (notStarted_irq u a), ?_⟩
  exact hlogs.reports (reports_of_reg (notStarted_reports u a) hreg) (notStarted_count u a)

end

/-! ## A missed start and an abort (R123, R124, R131) -/

theorem wencStartrevExpiry_front {P : State → Prop} {s : State} {a : Arm} {r : List Arm} (hf : s.frozen pgWENC = false)
    (harms : s.wenc.arms = a :: r) (hrun : a.running = false)
    (h : P (s.settled (if a.passes = 0 then notStartedFront s else voidFront s 5))) : Runs .wencStartrevExpiry s P := by
  refine runs_of_done _ (congrArg (done s) (State.unlessFrozen_running hf _)) ?_
  rw [startRevExpiry, harms]
  dsimp only
  rwa [hrun, if_neg (by decide)]

theorem wencStartrevExpiry_notStarted {s : State} {a : Arm} {r : List Arm} (hf : s.frozen pgWENC = false) (harms : s.wenc.arms = a :: r)
    (hrun : a.running = false) (hp : a.passes = 0) : Runs .wencStartrevExpiry s fun t => t.wenc.arms = r.filter (fun x => !laterSameBrick a x) ∧
      (t.wenc.toXlt.drop s.wenc.toXlt.length).map (fun x => (x.slot, x.psa, x.verdict, x.cause)) =
        (a :: r.filter (laterSameBrick a)).map (fun x => (x.slot, x.psa, 4, 0)) ∧ t.irq pgWENC 4 ∧ s.reports pgWENC 0x0504 t := by
  obtain ⟨hleft, hgiven, hirq, hrep⟩ := notStartedFront_ends harms
  refine wencStartrevExpiry_front hf harms hrun ?_
  rw [if_pos hp]
  exact ⟨hleft, hgiven, irq_of_settled hirq, reports_of_settled hrep⟩

theorem wencStartrevExpiry_voids {s : State} {a : Arm} {r : List Arm} (hf : s.frozen pgWENC = false) (harms : s.wenc.arms = a :: r)
    (hrun : a.running = false) (hp : 0 < a.passes) : Runs .wencStartrevExpiry s fun t => t.wenc.arms = r ∧
      t.wenc.toXlt.getLast?.map (fun x => (x.slot, x.psa, x.verdict, x.cause)) = some (a.slot, a.psa, 3, 5) ∧ t.irq pgWENC 3 := by
  have hends := voidFront_ends harms 5
  refine wencStartrevExpiry_front hf harms hrun ?_
  rw [if_neg (Nat.pos_iff_ne_zero.mp hp)]
  exact ⟨hends.arms, hends.last, irq_of_settled (voidFront_irq harms 5)⟩

theorem startRevExpiry_idle {s : State} (h : s.wenc.arms.head?.all (·.running) = true) : startRevExpiry s = s := by
  unfold startRevExpiry
  split
  · next a r harms => exact if_pos (by simpa [harms] using h)
  · rfl

section
variable {s : State} {m : Master} {v new : Word} {b : Bool} (h : Takes s m Reg.WENC_ARM_CTRL v new)
include h

/-- An abort is judged on the arms that stand. -/
theorem wencAbort_runs {P : State → Prop} (hf : s.frozen pgWENC = false) (hv : fieldOf v 31 1 = 1)
    (hp : ∀ u, u.wenc = s.wenc → P (s.settled (abortArm b u))) : Runs (.wencAbort m v b) s P := by
  have hrun := ((putReg_kept s (a := Reg.WENC_ARM_CTRL) new).bit (a := Reg.CTRL pgWENC) (by decide) 2).trans hf
  refine runs_of_done _ (congrArg (done s) ((regWrite_take h).trans ((if_pos hv).trans (State.unlessFrozen_running hrun _)))) ?_
  exact hp _ (s.putReg_wenc _ new)

/-- An abort that finds nothing to end leaves the write path. -/
theorem wencAbort_idle (hidle : ∀ u, u.wenc = s.wenc → fieldOf v 31 1 = 1 → abortArm b u = u) :
    Runs (.wencAbort m v b) s fun t => t.wenc = s.wenc := by
  have hput := s.putReg_wenc Reg.WENC_ARM_CTRL new
  refine runs_of_done _ (congrArg (done s) (regWrite_take h)) ?_
  rw [State.settled_wenc, armCtrlEffect]
  split
  next hv => rw [unlessFrozen_wenc pgWENC (by rw [hidle _ hput hv]), hput]
  next => exact hput

end

section
variable {s u : State} {b : Bool} {a : Arm} {r : List Arm} (hu : u.wenc = s.wenc) (harms : s.wenc.arms = a :: r)
include hu harms

theorem abortArm_notStarted (hrun : a.running = false) (hp : a.passes = 0) :
    (abortArm b u).wenc.arms = r.filter (fun x => !laterSameBrick a x) ∧
    ((abortArm b u).wenc.toXlt.drop s.wenc.toXlt.length).map (fun x => (x.slot, x.psa, x.verdict, x.cause)) =
      (a :: r.filter (laterSameBrick a)).map (fun x => (x.slot, x.psa, 4, 0)) := by
  have hfront : u.wenc.arms = a :: r := hu ▸ harms
  obtain ⟨hleft, hgiven, -, -⟩ := notStartedFront_ends hfront
  rw [← hu, abortArm, hfront]
  dsimp only
  rw [hrun, if_neg (by decide), if_pos hp]
  exact ⟨hleft, hgiven⟩

theorem abortArm_voids (hrun : a.running = false) (hp : 0 < a.passes) : FrontEnds u (abortArm b u) a r 3 6 := by
  have hfront : u.wenc.arms = a :: r := hu ▸ harms
  rw [abortArm, hfront]
  dsimp only
  rw [hrun, if_neg (by decide), if_neg (Nat.pos_iff_ne_zero.mp hp)]
  exact voidFront_ends hfront 6

theorem abortArm_lastBit (hrun : a.running = true) (hone : a.offs.length = 1) : abortArm true u = u := by
  rw [abortArm, hu, harms]
  dsimp only
  rw [if_pos hrun, if_pos ⟨rfl, hone⟩]

theorem abortArm_cuts (hrun : a.running = true) (hgate : s.wenc.gate = true) (hcut : b = false ∨ a.offs.length ≠ 1) :
    (abortArm b u).wenc.arms = r ∧ (abortArm b u).wenc.gate = false ∧
    (abortArm b u).wenc.toXlt.getLast?.map (fun x => (x.slot, x.psa, x.verdict, x.cause)) = some (a.slot, a.psa, 3, 6) := by
  have hfront : u.wenc.arms = a :: r := hu ▸ harms
  have hnot : ¬(b = true ∧ a.offs.length = 1) := fun ⟨hb, hone⟩ => hcut.elim (fun h => by rw [h] at hb; cases hb) (· hone)
  rw [abortArm, hfront]
  dsimp only
  rw [if_pos hrun, if_neg hnot]
  exact dropGate_ends hfront 6 (hu ▸ hgate) hrun

end

theorem abortArm_none {s : State} (b : Bool) (h : s.wenc.arms = []) : abortArm b s = s := by rw [abortArm, h]

/-! ## Staging slots (R117) -/

theorem wencStgRelease_releases {s : State} {m : Master} {v new : Word} (h : Takes s m Reg.WENC_STG_REL v new) :
    Runs (.wencStgRelease m v) s fun t =>
      t.wenc.held = s.wenc.held.filter (fun k => fieldOf v k 1 == 0 || s.wenc.arms.any (fun x => x.slot == k)) := by
  refine runs_of_done _ (congrArg (done s) (regWrite_take h)) ?_
  rw [State.settled_wenc, releaseSlots, State.setW_wenc, State.putReg_wenc]

/-! ## The obligation -/

/-- Settles O23: each command runs its function on the state after its register's write, and the lemmas above say what that leaves. -/
theorem writeArmsRunTheirPasses : Obligations.WriteArmsRunTheirPasses := by
  unfold Obligations.WriteArmsRunTheirPasses
  refine ⟨?_, ?_, ?_, ?_, ?_, ?_, ?_, ?_, ?_, ?_, ?_, ?_, ?_, ?_, ?_, ?_, ?_, ?_, ?_, ?_, ?_⟩
  · rintro s m v new a ⟨h, hf, rfl, hok⟩
    exact wencArm_joins h hf hok
  · rintro s m v new a ⟨h, hf, rfl, hbad⟩
    exact wencArm_refused h hf hbad
  · rintro s a ⟨hf, hfind⟩
    exact wencParityDone_notes hf hfind
  · rintro s tfs a r ⟨hf, harms, h⟩
    exact wencPassStart_starts hf harms h tfs
  · rintro s tfs ⟨hwf, h⟩
    exact runs_unchanged hwf rfl (unlessFrozen_idle (startPass_idle tfs) h)
  · rintro s a r ⟨hf, harms, hrun, hlast⟩
    exact wencPassEnd_last hf harms hrun hlast
  · rintro s a r ⟨hf, harms, hrun, hmore⟩
    exact wencPassEnd_more hf harms hrun hmore
  · rintro s ⟨hwf, h⟩
    exact runs_unchanged hwf rfl (unlessFrozen_idle endPass_idle h)
  · rintro s m v new ⟨h, hb⟩
    exact wencPassgo_idle h hb
  · rintro s m v new a r ⟨h, hf, harms, hp, hrun⟩
    exact wencPassgo_lets h hf harms hp hrun
  · rintro s a r ⟨hf, harms, hp, hrun, hgo⟩
    exact wencPasswaitExpiry_voids hf harms hp hrun hgo
  · rintro s ⟨hwf, h⟩
    exact runs_unchanged hwf rfl (unlessFrozen_idle passWaitExpiry_idle h)
  · rintro s a r ⟨hf, harms, hrun, hp⟩
    exact wencStartrevExpiry_notStarted hf harms hrun hp
  · rintro s a r ⟨hf, harms, hrun, hp⟩
    exact wencStartrevExpiry_voids hf harms hrun hp
  · rintro s ⟨hwf, h⟩
    exact runs_unchanged hwf rfl (unlessFrozen_idle startRevExpiry_idle h)
  · rintro s m v new b a r ⟨h, hf, hv, harms, hrun, hp⟩
    exact wencAbort_runs h hf hv fun u hu => abortArm_notStarted hu harms hrun hp
  · rintro s m v new b a r ⟨h, hf, hv, harms, hrun, hp⟩
    exact wencAbort_runs h hf hv fun u hu => ⟨(abortArm_voids hu harms hrun hp).arms, (abortArm_voids hu harms hrun hp).last⟩
  · rintro s m v new a r ⟨h, harms, hrun, hone⟩
    exact wencAbort_idle h fun u hu _ => abortArm_lastBit hu harms hrun hone
  · rintro s m v new b ⟨h, hnone⟩
    refine wencAbort_idle h fun u hu hv => abortArm_none b ?_
    obtain hzero | hempty := hnone
    · exact absurd (hzero.symm.trans hv) (by decide)
    · exact hu ▸ hempty
  · rintro s m v new b a r ⟨h, hf, hv, harms, hrun, hgate, hcut⟩
    exact wencAbort_runs h hf hv fun u hu => abortArm_cuts hu harms hrun hgate hcut
  · intro s m v new h
    exact wencStgRelease_releases h

end Sys2Proof.Machine
end

section
/-! DRAW's events as the pass of the host side leaves them (R141, O24): the view that the proof about verdicts uses, one rule per
operation, and one per function that `pump` calls. Each proof unfolds its function once and closes by the rules of the functions it
calls. Only staging slots that lost their data end arms there, and that raises events (`abortLost_events`). -/
namespace Sys2Proof.Machine

/-- A register other than that of DRAW's events. -/
def offDraw (a : Nat) : Bool := a != Reg.IRQ_RAW pgDRAW

/-- DRAW's events. -/
@[irreducible] def drawEvents (s : State) : Word := s.reg (Reg.IRQ_RAW pgDRAW)

theorem drawEvents_congr {s t : State} (h : t.reg (Reg.IRQ_RAW pgDRAW) = s.reg (Reg.IRQ_RAW pgDRAW)) : drawEvents t = drawEvents s := by
  unfold drawEvents
  exact h

theorem ne_of_offDraw {a : Nat} (h : offDraw a = true) : a ≠ Reg.IRQ_RAW pgDRAW := by simpa [offDraw] using h

theorem offDraw_of_ne {a : Nat} (h : a ≠ 0x4001400C) : offDraw a = true := bne_iff_ne.mpr h

@[simp] theorem drawEvents_setReg {a : Nat} (h : offDraw a = true) (s : State) (w : Word) : drawEvents (s.setReg a w) = drawEvents s :=
  drawEvents_congr (State.reg_setReg_ne s a _ w (ne_of_offDraw h))
@[simp] theorem drawEvents_setFld {a : Nat} (h : offDraw a = true) (s : State) (lo w v : Nat) : drawEvents (s.setFld a lo w v) = drawEvents s :=
  drawEvents_setReg h s _
@[simp] theorem drawEvents_setBit {a : Nat} (h : offDraw a = true) (s : State) (i : Nat) (b : Bool) : drawEvents (s.setBit a i b) = drawEvents s :=
  drawEvents_setReg h s _
@[simp] theorem drawEvents_addSat {a : Nat} (h : offDraw a = true) (s : State) (lo w n : Nat) : drawEvents (s.addSat a lo w n) = drawEvents s :=
  drawEvents_setReg h s _
@[simp] theorem drawEvents_addMod {a : Nat} (h : offDraw a = true) (s : State) (lo w n : Nat) : drawEvents (s.addMod a lo w n) = drawEvents s :=
  drawEvents_setReg h s _
@[simp] theorem drawEvents_settleIrq {p : Nat} (h : offDraw (Reg.IRQ_STAT p) = true) (s : State) : drawEvents (s.settleIrq p) = drawEvents s :=
  drawEvents_setReg h s _
@[simp] theorem drawEvents_raiseMask {p : Nat} (h : offDraw (Reg.IRQ_RAW p) = true) (h' : offDraw (Reg.IRQ_STAT p) = true) (s : State) (k : Nat) :
    drawEvents (s.raiseMask p k) = drawEvents s := (drawEvents_settleIrq h' _).trans (drawEvents_setReg h s _)
@[simp] theorem drawEvents_raise {p : Nat} (h : offDraw (Reg.IRQ_RAW p) = true) (h' : offDraw (Reg.IRQ_STAT p) = true) (s : State) (i : Nat) :
    drawEvents (s.raise p i) = drawEvents s := drawEvents_raiseMask h h' s _
@[simp] theorem drawEvents_err {p : Nat} (h : offDraw (Reg.ERR_INFO p) = true) (s : State) (c m : Nat) : drawEvents (s.err p c m) = drawEvents s := by
  unfold State.err
  dsimp only
  split
  · exact drawEvents_setReg h s _
  · exact drawEvents_addSat h s _ _ _
@[simp] theorem drawEvents_refuse {p : Nat} (h : offDraw (Reg.ERR_INFO p) = true) (s : State) (m : Master) : drawEvents (s.refuse p m) = drawEvents s :=
  drawEvents_err h s _ _

@[simp] theorem drawEvents_ite {c : Prop} [Decidable c] (s t : State) : drawEvents (if c then s else t) = if c then drawEvents s else drawEvents t :=
  apply_ite drawEvents c s t

@[simp] theorem drawEvents_foldl {α : Type} {f : State → α → State} (hf : ∀ s a, drawEvents (f s a) = drawEvents s) (l : List α) (s : State) :
    drawEvents (l.foldl f s) = drawEvents s := keep_foldl hf l rfl

theorem drawEvents_foldl_mem {α : Type} {f : State → α → State} {l : List α} (hf : ∀ s, ∀ a ∈ l, drawEvents (f s a) = drawEvents s) (s : State) :
    drawEvents (l.foldl f s) = drawEvents s := by
  induction l generalizing s with
  | nil => rfl
  | cons a l ih => exact (ih (fun s b hb => hf s b (List.mem_cons_of_mem a hb)) _).trans (hf s a List.mem_cons_self)

/-- The same of a fold that carries something besides the state. -/
theorem drawEvents_foldl_snd {α β : Type} {f : β × State → α → β × State} (hf : ∀ x a, drawEvents (f x a).2 = drawEvents x.2) (l : List α)
    (x : β × State) : drawEvents (l.foldl f x).2 = drawEvents x.2 := by
  induction l generalizing x with
  | nil => rfl
  | cons a l ih => exact (ih _).trans (hf x a)

theorem drawEvents_of_memOnly {s t : State} (h : MemOnly memRegs s t) : drawEvents t = drawEvents s :=
  drawEvents_congr (h.reg _ (by decide))

/-! ## Addresses -/

@[simp] theorem offDraw_FLC_B_CMD (k : Nat) : offDraw (Reg.FLC_B_CMD k) = true := offDraw_of_ne (by simp only [Reg.FLC_B_CMD]; omega)
@[simp] theorem offDraw_FLC_B_STAT (k : Nat) : offDraw (Reg.FLC_B_STAT k) = true := offDraw_of_ne (by simp only [Reg.FLC_B_STAT]; omega)
@[simp] theorem offDraw_FLC_B_SUSP (k : Nat) : offDraw (Reg.FLC_B_SUSP k) = true := offDraw_of_ne (by simp only [Reg.FLC_B_SUSP]; omega)
@[simp] theorem offDraw_HQ_SQPTR (k : Nat) : offDraw (Reg.HQ_SQPTR k) = true := offDraw_of_ne (by simp only [Reg.HQ_SQPTR]; omega)
@[simp] theorem offDraw_HQ_CQPTR (k : Nat) : offDraw (Reg.HQ_CQPTR k) = true := offDraw_of_ne (by simp only [Reg.HQ_CQPTR]; omega)
@[simp] theorem offDraw_HQ_QCFG (k : Nat) : offDraw (Reg.HQ_QCFG k) = true := offDraw_of_ne (by simp only [Reg.HQ_QCFG]; omega)
@[simp] theorem offDraw_bar0 (k : Nat) : offDraw (bar0 k) = true := offDraw_of_ne (by simp only [bar0]; omega)
@[simp] theorem offDraw_cfgReg (k : Nat) : offDraw (cfgReg k) = true := offDraw_of_ne (by simp only [cfgReg]; omega)
@[simp] theorem offDraw_STP_Q_STAT (k : Nat) : offDraw (Reg.STP_Q_STAT k) = true := offDraw_of_ne (by simp only [Reg.STP_Q_STAT]; omega)
@[simp] theorem offDraw_STP_AX_POS (k : Nat) : offDraw (Reg.STP_AX_POS k) = true := offDraw_of_ne (by simp only [Reg.STP_AX_POS]; omega)
@[simp] theorem offDraw_STP_AX_ADDR (k : Nat) : offDraw (Reg.STP_AX_ADDR k) = true := offDraw_of_ne (by simp only [Reg.STP_AX_ADDR]; omega)
@[simp] theorem offDraw_STP_AX_VEL {k : Nat} (h : k < 3) : offDraw (Reg.STP_AX_VEL k) = true := offDraw_of_ne (by simp only [Reg.STP_AX_VEL]; omega)

/-! ## Parts of the state besides the registers -/

@[simp] theorem drawEvents_with_fresh (s : State) (x : Nat) : drawEvents { s with fresh := x } = drawEvents s := drawEvents_congr (rfl)
@[simp] theorem drawEvents_with_harts (s : State) (x : List Hart) : drawEvents { s with harts := x } = drawEvents s := drawEvents_congr (rfl)
@[simp] theorem drawEvents_with_rd (s : State) (x : ReadPath) : drawEvents { s with rd := x } = drawEvents s := drawEvents_congr (rfl)
@[simp] theorem drawEvents_with_wenc (s : State) (x : WritePath) : drawEvents { s with wenc := x } = drawEvents s := drawEvents_congr (rfl)
@[simp] theorem drawEvents_with_spn (s : State) (x : Spn) : drawEvents { s with spn := x } = drawEvents s := drawEvents_congr (rfl)
@[simp] theorem drawEvents_with_stp (s : State) (x : Steppers) : drawEvents { s with stp := x } = drawEvents s := drawEvents_congr (rfl)
@[simp] theorem drawEvents_with_pcie (s : State) (x : Pcie) : drawEvents { s with pcie := x } = drawEvents s := drawEvents_congr (rfl)
@[simp] theorem drawEvents_with_hq (s : State) (x : HostQueues) : drawEvents { s with hq := x } = drawEvents s := drawEvents_congr (rfl)
@[simp] theorem drawEvents_with_xlt (s : State) (x : Xlt) : drawEvents { s with xlt := x } = drawEvents s := drawEvents_congr (rfl)
@[simp] theorem drawEvents_with_flash (s : State) (x : Flash) : drawEvents { s with flash := x } = drawEvents s := drawEvents_congr (rfl)
@[simp] theorem drawEvents_with_evr (s : State) (x : Evr) : drawEvents { s with evr := x } = drawEvents s := drawEvents_congr (rfl)
@[simp] theorem drawEvents_with_sec (s : State) (x : Sec) : drawEvents { s with sec := x } = drawEvents s := drawEvents_congr (rfl)

/-! ## The pass of the host side -/

@[simp] theorem drawEvents_report (s : State) (p code master : Nat) (qty : List Nat) : drawEvents (State.report s p code master qty) = drawEvents s := by
  unfold State.report
  simp +decide

@[simp] theorem drawEvents_aclRefuse (s : State) (m : Master) (a target : Nat) (x : AccKind) : drawEvents (aclRefuse s m a target x) = drawEvents s :=
  drawEvents_of_memOnly (aclRefuse_memOnly s m a target x)

@[simp] theorem drawEvents_readWords (m : Master) (l : List Nat) (s : State) : drawEvents (readWords m l s).2 = drawEvents s :=
  drawEvents_of_memOnly (readWords_memOnly m l s)

@[simp] theorem drawEvents_memRead (s : State) (m : Master) (a n : Nat) : drawEvents (memRead s m a n).2.2 = drawEvents s :=
  drawEvents_of_memOnly (memRead_memOnly s m a n)

@[simp] theorem drawEvents_writeWords (m : Master) (n a : Nat) (bs : List Nat) (s : State) : drawEvents (writeWords m n a bs s) = drawEvents s :=
  drawEvents_of_memOnly (writeWords_memOnly m n a bs s)

@[simp] theorem drawEvents_memWrite (s : State) (m : Master) (a : Nat) (bs : List Nat) : drawEvents (memWrite s m a bs) = drawEvents s :=
  drawEvents_of_memOnly (memWrite_memOnly s m a bs)

@[simp] theorem drawEvents_setSt (s : State) (x : Steppers) : drawEvents (State.setSt s x) = drawEvents s := by
  unfold State.setSt
  simp +decide

@[simp] theorem drawEvents_setGrp (s : State) (g : Nat) (x : StepGroup) : drawEvents (State.setGrp s g x) = drawEvents s := by
  unfold State.setGrp
  simp +decide

@[simp] theorem drawEvents_setAxis {a : Nat} (ha : a < 3) (s : State) (x : StepAxis) : drawEvents (s.setAxis a x) = drawEvents s := by
  unfold State.setAxis
  simp [ha]

@[simp] theorem drawEvents_moveAxis {a : Nat} (ha : a < 3) (s : State) (v : Int) (pos : Int) : drawEvents (moveAxis s a v pos) = drawEvents s := by
  unfold moveAxis
  simp +decide [ha]

@[simp] theorem drawEvents_setSel {a : Nat} (ha : a < 3) (s : State) (c : CoilSel) : drawEvents (setSel s a c) = drawEvents s := by
  unfold setSel
  simp +decide [ha]

@[simp] theorem drawEvents_groupRegs (s : State) (g : Nat) : drawEvents (groupRegs s g) = drawEvents s := by
  unfold groupRegs
  simp +decide

@[simp] theorem drawEvents_placeGroup (s : State) (g : Nat) (r : StepRun) (p v : Rat) : drawEvents (placeGroup s g r p v) = drawEvents s := by
  refine drawEvents_foldl_mem (fun s a ha => ?_) s
  have ha := List.mem_range.mp ha
  dsimp only
  split
  · rfl
  · rw [drawEvents_setSel ha, drawEvents_moveAxis ha]

@[simp] theorem drawEvents_startMove (s : State) (g : Nat) (vin lead : Rat) : drawEvents (startMove s g vin lead) = drawEvents s := by
  unfold startMove
  simp +decide
  split <;> simp +decide

@[simp] theorem drawEvents_groupRest (s : State) (g : Nat) : drawEvents (groupRest s g) = drawEvents s := by
  unfold groupRest
  simp +decide

@[simp] theorem drawEvents_moveEnd (g : Nat) (s : State) : drawEvents (moveEnd g s) = drawEvents s := by
  unfold moveEnd
  split <;> simp +decide

@[simp] theorem drawEvents_groupStop (s : State) (g : Nat) : drawEvents (groupStop s g) = drawEvents s := by
  unfold groupStop
  simp +decide
  split <;> simp +decide

@[simp] theorem drawEvents_parkAxis {a : Nat} (ha : a < 3) (s : State) : drawEvents (parkAxis s a) = drawEvents s := by
  unfold parkAxis
  simp +decide [ha]

@[simp] theorem drawEvents_parkStart (s : State) : drawEvents (parkStart s) = drawEvents s := by
  unfold parkStart
  dsimp only
  split
  · rfl
  · split
    · simp +decide
    · rw [drawEvents_setBit (by decide)]
      exact drawEvents_foldl_mem (fun s a ha => drawEvents_parkAxis (List.mem_range.mp (List.mem_filter.mp ha).1) s) s

@[simp] theorem drawEvents_setW (s : State) (w : WritePath) : drawEvents (State.setW s w) = drawEvents s := by
  unfold State.setW
  simp +decide

@[simp] theorem drawEvents_putArm (s : State) (a : Arm) : drawEvents (putArm s a) = drawEvents s := by
  unfold putArm
  simp +decide

@[simp] theorem drawEvents_vqStore (s : State) (rec : List Nat) : drawEvents (vqStore s rec) = drawEvents s := by
  unfold vqStore
  simp +decide

@[simp] theorem drawEvents_drawGrade (s : State) (psa sidx : Nat) (good equal : Bool) (iters raw : Nat) : drawEvents (drawGrade s psa sidx good equal iters raw) = drawEvents s := by
  unfold drawGrade
  simp +decide
  split <;> simp +decide

@[simp] theorem drawEvents_failShare (s : State) (a : Arm) (from_ c : Nat) : drawEvents (failShare s a from_ c) = drawEvents s := by
  unfold failShare
  simp +decide

@[simp] theorem drawEvents_failRest (s : State) : drawEvents (failRest s) = drawEvents s := by
  unfold failRest
  split <;> simp +decide

@[simp] theorem drawEvents_posIdle (s : State) : drawEvents (posIdle s) = drawEvents s := by
  unfold posIdle
  simp +decide

@[simp] theorem drawEvents_recordReadOnly (s : State) (m : Master) (a : Nat) (v : Word) : drawEvents (recordReadOnly s m a v) = drawEvents s := by
  unfold recordReadOnly
  split
  · exact drawEvents_congr rfl
  · rfl

@[simp] theorem drawEvents_writeDropped {a : Nat} (h : offDraw (Reg.ERR_INFO (pageOf a)) = true) (s : State) (m : Master) (v : Word) (w : WriteVerdict) :
    drawEvents (writeDropped s m a v w) = drawEvents s := by
  cases w <;> simp +decide [writeDropped, h]

@[simp] theorem drawEvents_putReg {a : Nat} (h : offDraw a = true) (hi : ¬(a % 0x1000 = 0x10 ∨ a % 0x1000 = 0x14)) (s : State) (new : Word) :
    drawEvents (s.putReg a new) = drawEvents s := by
  obtain ⟨r, l, w, he⟩ := s.putReg_eq a new
  exact drawEvents_congr (s.reg_putReg_ne _ new (ne_of_offDraw h) hi)

@[simp] theorem drawEvents_regWrite {a : Nat} {eff : State → State} (heff : ∀ u, drawEvents (eff u) = drawEvents u) (h : offDraw a = true)
    (hi : ¬(a % 0x1000 = 0x10 ∨ a % 0x1000 = 0x14)) (he : offDraw (Reg.ERR_INFO (pageOf a)) = true) (s : State) (m : Master) (size : Nat)
    (v : Word) : drawEvents (regWrite s m a size v eff) = drawEvents s := by
  unfold regWrite
  split
  · rw [heff, drawEvents_putReg h hi]
  · exact drawEvents_writeDropped he s m v _

@[simp] theorem drawEvents_regWriteIf {a : Nat} {eff : State → State} (heff : ∀ u, drawEvents (eff u) = drawEvents u) (h : offDraw a = true)
    (hi : ¬(a % 0x1000 = 0x10 ∨ a % 0x1000 = 0x14)) (he : offDraw (Reg.ERR_INFO (pageOf a)) = true) (s : State) (m : Master) (size : Nat)
    (v : Word) (ok : Bool) : drawEvents (regWriteIf s m a size v ok eff) = drawEvents s := by
  unfold regWriteIf
  split
  · split
    · rw [heff, drawEvents_putReg h hi]
    · exact drawEvents_refuse he s m
  · exact drawEvents_writeDropped he s m v _

@[simp] theorem drawEvents_setFlash (s : State) (x : Flash) : drawEvents (State.setFlash s x) = drawEvents s := by
  unfold State.setFlash
  simp +decide

@[simp] theorem drawEvents_setFw (s : State) (w : Nat) (x : FlashWord) : drawEvents (State.setFw s w x) = drawEvents s := by
  unfold State.setFw
  simp +decide

@[simp] theorem drawEvents_setBank (s : State) (b : Nat) (x : FlashBank) : drawEvents (State.setBank s b x) = drawEvents s := by
  unfold State.setBank
  simp +decide

@[simp] theorem drawEvents_openIntentFor (s : State) (b sec : Nat) : drawEvents (openIntentFor s b sec).2 = drawEvents s := by
  unfold openIntentFor
  simp +decide

@[simp] theorem drawEvents_setResult (s : State) (b n : Nat) : drawEvents (setResult s b n) = drawEvents s := by
  unfold setResult
  simp +decide

@[simp] theorem drawEvents_syncBank (s : State) (b : Nat) : drawEvents (syncBank s b) = drawEvents s := by
  unfold syncBank
  simp +decide

@[simp] theorem drawEvents_flcRefuse (s : State) (m : Master) (b res : Nat) : drawEvents (flcRefuse s m b res) = drawEvents s := by
  unfold flcRefuse
  simp +decide

@[simp] theorem drawEvents_flcStart (s : State) (b : Nat) (r : FlashReq) : drawEvents (flcStart s b r) = drawEvents s := by
  unfold flcStart
  simp +decide

@[simp] theorem drawEvents_eraseRuns (s : State) (b : Nat) : drawEvents (eraseRuns s b) = drawEvents s := by
  unfold eraseRuns
  simp +decide

@[simp] theorem drawEvents_autoResume (s : State) (b : Nat) : drawEvents (autoResume s b) = drawEvents s := by
  unfold autoResume
  simp +decide

@[simp] theorem drawEvents_autoSuspend (s : State) (b : Nat) : drawEvents (autoSuspend s b) = drawEvents s := by
  unfold autoSuspend
  simp +decide
  split <;> simp +decide

@[simp] theorem drawEvents_pumpBank (b n : Nat) (s : State) : drawEvents (pumpBank b n s) = drawEvents s := by
  induction n generalizing s with
  | zero => rfl
  | succ n ih =>
    rw [pumpBank]
    dsimp only
    split
    · rfl
    · split
      · rfl
      · split <;> simp [ih]

@[simp] theorem drawEvents_flcPump (s : State) (b : Nat) : drawEvents (flcPump s b) = drawEvents s := by
  unfold flcPump
  simp +decide

@[simp] theorem drawEvents_flcRequest (s : State) (r : FlashReq) : drawEvents (flcRequest s r) = drawEvents s := by
  unfold flcRequest
  simp +decide

@[simp] theorem drawEvents_setRd (s : State) (x : ReadPath) : drawEvents (State.setRd s x) = drawEvents s := by
  unfold State.setRd
  simp +decide

@[simp] theorem drawEvents_readCounts (s : State) : drawEvents (readCounts s) = drawEvents s := by
  unfold readCounts
  simp +decide

@[simp] theorem drawEvents_mapGroup (s : State) (psa : Nat) (f : GroupRead → GroupRead) : drawEvents (mapGroup s psa f) = drawEvents s := by
  unfold mapGroup
  simp +decide

@[simp] theorem drawEvents_mapStrip (s : State) (psa : Nat) (f : StripRead → StripRead) : drawEvents (mapStrip s psa f) = drawEvents s := by
  unfold mapStrip
  simp +decide

@[simp] theorem drawEvents_dropWork (s : State) (gone : WorkSlot → Bool) : drawEvents (dropWork s gone) = drawEvents s := by
  unfold dropWork
  simp +decide

@[simp] theorem drawEvents_releaseSlotsDone (s : State) : drawEvents (releaseSlotsDone s) = drawEvents s := by
  unfold releaseSlotsDone
  simp +decide

@[simp] theorem drawEvents_readArm (s : State) (psa tag wanted : Nat) (patrol : Bool) : drawEvents (readArm s psa tag wanted patrol) = drawEvents s := by
  unfold readArm
  simp +decide

@[simp] theorem drawEvents_releaseStrips (s : State) (free : Nat → Bool) : drawEvents (releaseStrips s free) = drawEvents s := by
  unfold releaseStrips
  simp +decide

@[simp] theorem drawEvents_setPcie (s : State) (x : Pcie) : drawEvents (State.setPcie s x) = drawEvents s := by
  unfold State.setPcie
  simp +decide

@[simp] theorem drawEvents_setHq (s : State) (x : HostQueues) : drawEvents (State.setHq s x) = drawEvents s := by
  unfold State.setHq
  simp +decide

@[simp] theorem drawEvents_setLpm (s : State) (lpm code : Nat) : drawEvents (setLpm s lpm code) = drawEvents s := by
  unfold setLpm
  simp +decide

@[simp] theorem drawEvents_linkWake (s : State) : drawEvents (linkWake s) = drawEvents s := by
  unfold linkWake
  simp +decide

@[simp] theorem drawEvents_syncDma (s : State) : drawEvents (syncDma s) = drawEvents s := by
  unfold syncDma
  simp +decide

@[simp] theorem drawEvents_issueAll (n : Nat) (s : State) : drawEvents (issueAll n s) = drawEvents s := by
  induction n generalizing s with
  | zero => rfl
  | succ n ih =>
    rw [issueAll]
    dsimp only
    split
    · rfl
    · split
      · rw [ih, drawEvents_linkWake, drawEvents_setPcie]
      · rfl

@[simp] theorem drawEvents_issueReads (s : State) : drawEvents (issueReads s) = drawEvents s := by
  unfold issueReads
  simp +decide

@[simp] theorem drawEvents_hostRead (s : State) (what : ReadFor) (addr off n : Nat) : drawEvents (hostRead s what addr off n) = drawEvents s := by
  unfold hostRead
  simp +decide

@[simp] theorem drawEvents_emitOut (s : State) (o : Out) : drawEvents (emitOut s o) = drawEvents s := by
  unfold emitOut
  simp +decide

@[simp] theorem drawEvents_sendData (s : State) (addr : Nat) (bs : List Nat) : drawEvents (sendData s addr bs) = drawEvents s := by
  unfold sendData
  simp +decide

@[simp] theorem drawEvents_sendPages (s : State) (pages : List Nat) (off : Nat) (bs : List Nat) : drawEvents (sendPages s pages off bs) = drawEvents s := by
  unfold sendPages
  simp +decide

@[simp] theorem drawEvents_fetchPages (s : State) (what : ReadFor) (pages : List Nat) (off n : Nat) : drawEvents (fetchPages s what pages off n) = drawEvents s := by
  unfold fetchPages
  simp +decide

@[simp] theorem drawEvents_sendMsix (s : State) (v : Nat) : drawEvents (sendMsix s v) = drawEvents s := by
  unfold sendMsix
  simp

@[simp] theorem drawEvents_updCtx (s : State) (seq : Nat) (f : Ctx → Ctx) : drawEvents (State.updCtx s seq f) = drawEvents s := by
  unfold State.updCtx
  simp +decide

@[simp] theorem drawEvents_dropCtx (s : State) (keep : Ctx → Bool) : drawEvents (dropCtx s keep) = drawEvents s := by
  unfold dropCtx
  simp +decide

@[simp] theorem drawEvents_syncCtx (s : State) : drawEvents (syncCtx s) = drawEvents s := by
  unfold syncCtx
  simp +decide

@[simp] theorem drawEvents_logError (s : State) (c : Ctx) (status lba : Nat) : drawEvents (logError s c status lba) = drawEvents s := by
  unfold logError
  simp +decide

@[simp] theorem drawEvents_postOne (s : State) (c : Ctx) (q : Cq) : drawEvents (postOne s c q) = drawEvents s := by
  unfold postOne
  simp +decide

@[simp] theorem drawEvents_postDone (l : List Ctx) (s : State) : drawEvents (postDone l s) = drawEvents s := by
  induction l generalizing s with
  | nil => rfl
  | cons c l ih =>
    rw [postDone]
    split
    · exact ih s
    · split
      · split
        · rw [ih, drawEvents_postOne]
        · exact ih s
      · exact ih s

@[simp] theorem drawEvents_postAll (n : Nat) (s : State) : drawEvents (postAll n s) = drawEvents s := by
  induction n generalizing s with
  | zero => rfl
  | succ n ih =>
    rw [postAll]
    dsimp only
    split
    · simp [ih]
    · simp +decide

@[simp] theorem drawEvents_postReady (s : State) : drawEvents (postReady s) = drawEvents s := by
  unfold postReady
  simp +decide

@[simp] theorem drawEvents_finish (s : State) (seq status dw0 lba : Nat) : drawEvents (finish s seq status dw0 lba) = drawEvents s := by
  unfold finish
  split <;> simp +decide

@[simp] theorem drawEvents_pmeNote (s : State) (row : Nat) : drawEvents (pmeNote s row) = drawEvents s := by
  unfold pmeNote
  simp +decide

@[simp] theorem drawEvents_reportEvent (s : State) (c : Ctx) (key : Nat) : drawEvents (reportEvent s c key) = drawEvents s := by
  unfold reportEvent
  simp +decide

@[simp] theorem drawEvents_setWaiting (s : State) (l : List Nat) : drawEvents (setWaiting s l) = drawEvents s := by
  unfold setWaiting
  simp +decide

@[simp] theorem drawEvents_asyncEvent (s : State) (row info : Nat) : drawEvents (asyncEvent s row info) = drawEvents s := by
  unfold asyncEvent
  simp +decide
  split <;> simp +decide

@[simp] theorem drawEvents_dropSnapshot (s : State) (c : Ctx) : drawEvents (dropSnapshot s c) = drawEvents s := by
  unfold dropSnapshot
  simp +decide

@[simp] theorem drawEvents_withdrawRead (s : State) (c : Ctx) : drawEvents (withdrawRead s c) = drawEvents s := by
  unfold withdrawRead
  simp +decide

@[simp] theorem drawEvents_orphan (s : State) (seq : Nat) : drawEvents (orphan s seq) = drawEvents s := by
  unfold orphan
  simp +decide

@[simp] theorem drawEvents_dropReads (s : State) (seq : Nat) : drawEvents (dropReads s seq) = drawEvents s := by
  unfold dropReads
  simp +decide

@[simp] theorem drawEvents_endCmd (s : State) (seq status dw0 lba : Nat) : drawEvents (endCmd s seq status dw0 lba) = drawEvents s := by
  unfold endCmd
  split <;> simp +decide

@[simp] theorem drawEvents_failCmd (s : State) (seq status dw0 lba : Nat) : drawEvents (failCmd s seq status dw0 lba) = drawEvents s := by
  unfold failCmd
  split <;> simp +decide

@[simp] theorem drawEvents_setEvr (s : State) (x : Evr) : drawEvents (State.setEvr s x) = drawEvents s := by
  unfold State.setEvr
  simp +decide

@[simp] theorem drawEvents_syncRing (s : State) : drawEvents (syncRing s) = drawEvents s := by
  unfold syncRing
  simp +decide

@[simp] theorem drawEvents_syncPfr (s : State) : drawEvents (syncPfr s) = drawEvents s := by
  unfold syncPfr
  simp +decide

@[simp] theorem drawEvents_ringPut (s : State) (r : EvRec) : drawEvents (ringPut s r) = drawEvents s := by
  unfold ringPut
  simp +decide

@[simp] theorem drawEvents_ringCatchUp (l : List EvRec) (s : State) : drawEvents (ringCatchUp l s) = drawEvents s := by
  induction l generalizing s with
  | nil => rfl
  | cons r l ih => rw [ringCatchUp, ih, drawEvents_ringPut]

@[simp] theorem drawEvents_toRing (s : State) (r : EvRec) : drawEvents (toRing s r) = drawEvents s := by
  unfold toRing
  simp +decide

@[simp] theorem drawEvents_evrProgram (s : State) (off : Nat) (bs : List Nat) (tag : Nat) : drawEvents (evrProgram s off bs tag) = drawEvents s := by
  unfold evrProgram
  simp +decide

@[simp] theorem drawEvents_evrErase (s : State) (off tag : Nat) : drawEvents (evrErase s off tag) = drawEvents s := by
  unfold evrErase
  simp +decide

@[simp] theorem drawEvents_openRing (s : State) (sec : Nat) : drawEvents (openRing s sec) = drawEvents s := by
  unfold openRing
  simp +decide

@[simp] theorem drawEvents_evrIssue (s : State) : drawEvents (evrIssue s) = drawEvents s := by
  unfold evrIssue
  split <;> simp +decide

@[simp] theorem drawEvents_evrPump (s : State) : drawEvents (evrPump s) = drawEvents s := by
  unfold evrPump
  simp +decide

@[simp] theorem drawEvents_captureStart (s : State) : drawEvents (captureStart s) = drawEvents s := by
  unfold captureStart
  simp +decide

@[simp] theorem drawEvents_takeRecord (s : State) (code master sev : Nat) (hw : Bool) (payload : List Nat) : drawEvents (takeRecord s code master sev hw payload) = drawEvents s := by
  unfold takeRecord
  simp +decide

@[simp] theorem drawEvents_clearFinish (s : State) (old new : Nat) (owner : List Nat) (atBoot : Bool) : drawEvents (clearFinish s old new owner atBoot) = drawEvents s := by
  unfold clearFinish
  simp +decide

@[simp] theorem drawEvents_clearRun (s : State) (owner : List Nat) : drawEvents (clearRun s owner) = drawEvents s := by
  unfold clearRun
  simp +decide

@[simp] theorem drawEvents_setXlt (s : State) (x : Xlt) : drawEvents (State.setXlt s x) = drawEvents s := by
  unfold State.setXlt
  simp +decide

@[simp] theorem drawEvents_readIndex (s : State) : drawEvents (readIndex s).2 = drawEvents s := by
  unfold readIndex
  simp +decide
  split <;> simp +decide

@[simp] theorem drawEvents_writeIndex (s : State) (l : List IdxEnt) : drawEvents (writeIndex s l) = drawEvents s := by
  unfold writeIndex
  simp +decide

@[simp] theorem drawEvents_readLeaf (s : State) (leaf : Nat) : drawEvents (readLeaf s leaf).2 = drawEvents s := by
  unfold readLeaf
  simp +decide

@[simp] theorem drawEvents_writeLeaf (s : State) (leaf : Nat) (l : List Ext) : drawEvents (writeLeaf s leaf l) = drawEvents s := by
  unfold writeLeaf
  simp +decide

@[simp] theorem drawEvents_reportCorrupt (s : State) (leaf : Nat) : drawEvents (reportCorrupt s leaf) = drawEvents s := by
  unfold reportCorrupt
  simp +decide

@[simp] theorem drawEvents_lookupIn (l : List IdxEnt) (a n : Nat) (is : List Nat) (s : State) :
    drawEvents (lookupIn l a n is s).2 = drawEvents s := by
  induction is generalizing s with
  | nil => rfl
  | cons i is ih =>
    rw [lookupIn]
    dsimp only
    split
    · rw [drawEvents_reportCorrupt, drawEvents_readLeaf]
    · rw [ih, drawEvents_readLeaf]

@[simp] theorem drawEvents_lookup (s : State) (a n : Nat) : drawEvents (lookup s a n).2 = drawEvents s := by
  unfold lookup
  simp +decide

@[simp] theorem drawEvents_setBrick (s : State) (n : Nat) (b : Brick) : drawEvents (State.setBrick s n b) = drawEvents s := by
  unfold State.setBrick
  simp +decide

@[simp] theorem drawEvents_updBrick (s : State) (n : Nat) (f : Brick → Brick) : drawEvents (State.updBrick s n f) = drawEvents s := by
  unfold State.updBrick
  simp +decide

@[simp] theorem drawEvents_syncPool (s : State) : drawEvents (syncPool s) = drawEvents s := by
  unfold syncPool
  simp +decide
  split <;> simp +decide

@[simp] theorem drawEvents_addValid (s : State) (l : List Ext) (enter : Bool) : drawEvents (addValid s l enter) = drawEvents s := by
  unfold addValid
  simp +decide

@[simp] theorem drawEvents_storeLeaf (s : State) (l : List IdxEnt) (i : Nat) (es : List Ext) : drawEvents (storeLeaf s l i es).2 = drawEvents s := by
  unfold storeLeaf
  dsimp only
  repeat' split
  all_goals simp +decide

@[simp] theorem drawEvents_mergeLeaves (s : State) (l : List IdxEnt) (i : Nat) : drawEvents (mergeLeaves s l i).2 = drawEvents s := by
  unfold mergeLeaves
  dsimp only
  repeat' split
  all_goals simp +decide

@[simp] theorem drawEvents_setIn (a n : Nat) (new : Option Ext) (is : List Nat) (l : List IdxEnt) (s : State) :
    drawEvents (setIn a n new is l s).2 = drawEvents s := by
  induction is generalizing l s with
  | nil => rfl
  | cons i is ih =>
    rw [setIn]
    dsimp only
    split
    · rw [ih, drawEvents_readLeaf]
    · rw [ih]
      split <;> split <;> simp +decide

@[simp] theorem drawEvents_checkLeaves (s : State) : drawEvents (checkLeaves s) = drawEvents s := by
  unfold checkLeaves
  simp +decide

@[simp] theorem drawEvents_setRange (s : State) (a n : Nat) (new : Option Ext) : drawEvents (setRange s a n new) = drawEvents s := by
  unfold setRange
  simp +decide

@[simp] theorem drawEvents_setAll (l : List Ext) (s : State) : drawEvents (setAll l s) = drawEvents s := by
  unfold setAll
  simp +decide

@[simp] theorem drawEvents_setCond (s : State) (e : Ext) (srcPsa srcSsec : Nat) : drawEvents (setCond s e srcPsa srcSsec) = drawEvents s := by
  unfold setCond
  simp +decide

@[simp] theorem drawEvents_setJr (s : State) (x : Journal) : drawEvents (State.setJr s x) = drawEvents s := by
  unfold State.setJr
  simp +decide

@[simp] theorem drawEvents_jrProgram (s : State) (sec rec_ tag : Nat) (b : List Nat) : drawEvents (jrProgram s sec rec_ tag b) = drawEvents s := by
  unfold jrProgram
  simp +decide

@[simp] theorem drawEvents_jrErase (s : State) (sec : Nat) : drawEvents (jrErase s sec) = drawEvents s := by
  unfold jrErase
  simp +decide

@[simp] theorem drawEvents_jrForeign (s : State) (sec : Nat) : drawEvents (jrForeign s sec) = drawEvents s := by
  unfold jrForeign
  split <;> simp +decide

@[simp] theorem drawEvents_syncJrnl (s : State) : drawEvents (syncJrnl s) = drawEvents s := by
  unfold syncJrnl
  simp +decide

@[simp] theorem drawEvents_jrOpen (s : State) (tag : Nat) : drawEvents (jrOpen s tag) = drawEvents s := by
  unfold jrOpen
  simp +decide

@[simp] theorem drawEvents_jrRecords (tag : Nat) (l : List (List Nat)) (s : State) : drawEvents (jrRecords tag l s) = drawEvents s := by
  induction l generalizing s with
  | nil => rfl
  | cons b l ih =>
    rw [jrRecords]
    dsimp only
    split <;> split <;> simp [ih]

@[simp] theorem drawEvents_jrGive (n : Nat) (s : State) : drawEvents (jrGive n s) = drawEvents s := by
  induction n generalizing s with
  | zero => rfl
  | succ n ih =>
    rw [jrGive]
    split
    · rfl
    · simp +decide [ih]

@[simp] theorem drawEvents_jrRetry (s : State) : drawEvents (jrRetry s) = drawEvents s := by
  unfold jrRetry
  simp +decide

@[simp] theorem drawEvents_jrPump (s : State) : drawEvents (jrPump s) = drawEvents s := by
  unfold jrPump
  simp +decide

@[simp] theorem drawEvents_commitUnit (s : State) (what : UnitFor) (recs : List (List Nat)) : drawEvents (commitUnit s what recs) = drawEvents s := by
  unfold commitUnit
  simp +decide

@[simp] theorem drawEvents_commitBrick (s : State) (n st : Nat) : drawEvents (commitBrick s n st) = drawEvents s := by
  unfold commitBrick
  simp +decide

@[simp] theorem drawEvents_xltFault (s : State) (irq code : Nat) (cnt : Option Nat) : drawEvents (xltFault s irq code cnt) = drawEvents s := by
  unfold xltFault
  split <;> simp +decide

@[simp] theorem drawEvents_updSlot (s : State) (k : Nat) (f : XSlot → XSlot) : drawEvents (updSlot s k f) = drawEvents s := by
  unfold updSlot
  simp +decide

@[simp] theorem drawEvents_openSlot (s : State) (kind : SlotKind) : drawEvents (openSlot s kind) = drawEvents s := by
  unfold openSlot
  split <;> simp +decide

@[simp] theorem drawEvents_placeItem (k : Nat) (s : State) (it : XItem) : drawEvents (placeItem k s it) = drawEvents s := by
  unfold placeItem
  simp +decide
  split <;> simp +decide

@[simp] theorem drawEvents_markStaged (s : State) (seq slba : Nat) : drawEvents (markStaged s seq slba) = drawEvents s := by
  unfold markStaged
  simp +decide

@[simp] theorem drawEvents_openBrick (s : State) (k n : Nat) : drawEvents (openBrick s k n) = drawEvents s := by
  unfold openBrick
  simp +decide

@[simp] theorem drawEvents_brickFull (s : State) (n : Nat) : drawEvents (brickFull s n) = drawEvents s := by
  unfold brickFull
  simp +decide

@[simp] theorem drawEvents_checkRetire (s : State) (n : Nat) : drawEvents (checkRetire s n) = drawEvents s := by
  unfold checkRetire
  simp +decide

@[simp] theorem drawEvents_nextBrick (s : State) (x : XSlot) (k : Nat) : drawEvents (nextBrick s x k).2 = drawEvents s := by
  unfold nextBrick
  dsimp only
  repeat' split
  all_goals simp +decide

@[simp] theorem drawEvents_slotBrick (s : State) (x : XSlot) : drawEvents (slotBrick s x).2 = drawEvents s := by
  unfold slotBrick
  simp +decide
  split <;> simp +decide

@[simp] theorem drawEvents_armSlot (s : State) (x : XSlot) : drawEvents (armSlot s x) = drawEvents s := by
  unfold armSlot
  simp +decide
  split <;> simp +decide

@[simp] theorem drawEvents_armFrom (l : List XSlot) (stuck : List SlotKind) (s : State) : drawEvents (armFrom l stuck s) = drawEvents s := by
  induction l generalizing stuck s with
  | nil => rfl
  | cons x l ih =>
    rw [armFrom]
    dsimp only
    split
    · exact ih stuck s
    · split
      · rfl
      · split <;> split <;> simp [ih]

@[simp] theorem drawEvents_armWaiting (s : State) : drawEvents (armWaiting s) = drawEvents s := by
  unfold armWaiting
  simp +decide

@[simp] theorem drawEvents_dropSlot (s : State) (k : Nat) : drawEvents (dropSlot s k) = drawEvents s := by
  unfold dropSlot
  simp +decide

@[simp] theorem drawEvents_commitCopies (s : State) (psa : Nat) (l : List XItem) : drawEvents (commitCopies s psa l) = drawEvents s := by
  unfold commitCopies
  simp +decide

@[simp] theorem drawEvents_slotAccepted (s : State) (x : XSlot) (psa : Nat) : drawEvents (slotAccepted s x psa) = drawEvents s := by
  unfold slotAccepted
  dsimp only
  rw [drawEvents_dropSlot]
  split <;> simp <;> exact drawEvents_foldl (fun s i => by split <;> simp) _ s

@[simp] theorem drawEvents_slotGivenUp (s : State) (x : XSlot) : drawEvents (slotGivenUp s x) = drawEvents s := by
  unfold slotGivenUp
  dsimp only
  rw [drawEvents_dropSlot]
  exact (drawEvents_foldl (fun s i => by split <;> simp) _ _).trans (drawEvents_xltFault s _ _ _)

@[simp] theorem drawEvents_ckptMoves (s : State) : drawEvents (ckptMoves s) = drawEvents s := by
  unfold ckptMoves
  simp +decide

@[simp] theorem drawEvents_slotRejected (s : State) (x : XSlot) (v : VerdictIn) : drawEvents (slotRejected s x v) = drawEvents s := by
  unfold slotRejected
  dsimp only
  repeat' split
  all_goals simp +decide

@[simp] theorem drawEvents_slotNotStarted (s : State) (x : XSlot) : drawEvents (slotNotStarted s x) = drawEvents s := by
  unfold slotNotStarted
  split <;> simp +decide

@[simp] theorem drawEvents_testUsed (s : State) (psa : Nat) : drawEvents (testUsed s psa) = drawEvents s := by
  unfold testUsed
  simp +decide

@[simp] theorem drawEvents_takeVerdict (s : State) (v : VerdictIn) : drawEvents (takeVerdict s v) = drawEvents s := by
  unfold takeVerdict
  simp +decide
  split <;> simp +decide

@[simp] theorem drawEvents_takeVerdicts (s : State) : drawEvents (takeVerdicts s) = drawEvents s := by
  unfold takeVerdicts
  simp +decide

@[simp] theorem drawEvents_commitHost (s : State) (c : Ctx) : drawEvents (commitHost s c) = drawEvents s := by
  unfold commitHost
  simp +decide

@[simp] theorem drawEvents_commitOne (s : State) (seq : Nat) : drawEvents (commitOne s seq) = drawEvents s := by
  unfold commitOne
  split <;> simp +decide

@[simp] theorem drawEvents_commitLatched (s : State) : drawEvents (commitLatched s) = drawEvents s := by
  unfold commitLatched
  simp +decide

@[simp] theorem drawEvents_latchWrites (s : State) : drawEvents (latchWrites s) = drawEvents s := by
  unfold latchWrites
  simp +decide

@[simp] theorem drawEvents_capacityFail (s : State) (seq lba : Nat) : drawEvents (capacityFail s seq lba) = drawEvents s := by
  unfold capacityFail
  simp +decide

@[simp] theorem drawEvents_placeOne (s : State) (c : Ctx) : drawEvents (placeOne s c).1 = drawEvents s := by
  unfold placeOne
  dsimp only
  split
  · dsimp only
    split
    · rfl
    · rw [drawEvents_updCtx]
      refine drawEvents_foldl_snd (fun x q => ?_) _ _
      exact drawEvents_lookup x.2 q.1 q.2
  · split
    · simp
    · split
      · split
        · simp
        · split <;> simp
      · simp

@[simp] theorem drawEvents_placeAll (l : List Nat) (s : State) : drawEvents (placeAll l s) = drawEvents s := by
  induction l generalizing s with
  | nil => rfl
  | cons q l ih =>
    rw [placeAll]
    split
    · exact ih s
    · dsimp only
      split
      · split
        · rw [ih, drawEvents_placeOne]
        · exact drawEvents_placeOne s _
      · split
        · rfl
        · exact ih s

@[simp] theorem drawEvents_placeCommands (s : State) : drawEvents (placeCommands s) = drawEvents s := by
  unfold placeCommands
  simp +decide

@[simp] theorem drawEvents_closeSlot (s : State) (k : Nat) : drawEvents (closeSlot s k) = drawEvents s := by
  unfold closeSlot
  split <;> simp +decide

@[simp] theorem drawEvents_armReads (tag : Nat) (patrol : Bool) (l : List Nat) (s : State) : drawEvents (armReads tag patrol l s) = drawEvents s := by
  induction l generalizing s with
  | nil => rfl
  | cons p l ih =>
    rw [armReads]
    split
    · exact ih s
    · rw [ih, drawEvents_readArm]

@[simp] theorem drawEvents_dropServed (s : State) : drawEvents (dropServed s) = drawEvents s := by
  unfold dropServed
  simp +decide

@[simp] theorem drawEvents_readAnew (s : State) (psa i : Nat) : drawEvents (readAnew s psa i) = drawEvents s := by
  unfold readAnew
  split <;> simp +decide

@[simp] theorem drawEvents_markExts (s : State) (l : List Ext) (st : Nat) : drawEvents (markExts s l st) = drawEvents s := by
  unfold markExts
  simp +decide

@[simp] theorem drawEvents_markLost (s : State) (psa : Nat) : drawEvents (markLost s psa) = drawEvents s := by
  unfold markLost
  split <;> simp +decide

@[simp] theorem drawEvents_refreshStrip (s : State) (psa : Nat) (first : Bool) : drawEvents (refreshStrip s psa first) = drawEvents s := by
  unfold refreshStrip
  simp +decide

@[simp] theorem drawEvents_takeRecovery (s : State) (rcd : List Nat) : drawEvents (takeRecovery s rcd) = drawEvents s := by
  unfold takeRecovery
  simp +decide

@[simp] theorem drawEvents_takeRecoveries (s : State) : drawEvents (takeRecoveries s) = drawEvents s := by
  unfold takeRecoveries
  simp +decide

@[simp] theorem drawEvents_syncJob (s : State) : drawEvents (syncJob s) = drawEvents s := by
  unfold syncJob
  split <;> simp +decide

@[simp] theorem drawEvents_startJob (s : State) (kind n : Nat) (todo : List (Nat × Nat × Nat)) : drawEvents (startJob s kind n todo) = drawEvents s := by
  unfold startJob
  simp +decide

@[simp] theorem drawEvents_collect (s : State) (kind n : Nat) : drawEvents (collect s kind n) = drawEvents s := by
  unfold collect
  simp +decide

@[simp] theorem drawEvents_gcJudge (s : State) : drawEvents (gcJudge s) = drawEvents s := by
  unfold gcJudge
  simp +decide

@[simp] theorem drawEvents_nextJob (s : State) : drawEvents (nextJob s) = drawEvents s := by
  unfold nextJob
  dsimp only
  repeat' split
  all_goals simp +decide

@[simp] theorem drawEvents_stageCopy (s : State) (b : Nat × Nat × Nat) (bytes : List Nat) : drawEvents (stageCopy s b bytes) = drawEvents s := by
  unfold stageCopy
  simp +decide
  split <;> simp +decide

@[simp] theorem drawEvents_jobBlock (s : State) (b : Nat × Nat × Nat) : drawEvents (jobBlock s b) = drawEvents s := by
  unfold jobBlock
  dsimp only
  repeat' split
  all_goals simp +decide

@[simp] theorem drawEvents_endJob (s : State) : drawEvents (endJob s) = drawEvents s := by
  unfold endJob
  split <;> simp +decide

@[simp] theorem drawEvents_runJob (s : State) : drawEvents (runJob s) = drawEvents s := by
  unfold runJob
  simp +decide

@[simp] theorem drawEvents_protectNs (s : State) : drawEvents (protectNs s) = drawEvents s := by
  unfold protectNs
  simp +decide

@[simp] theorem drawEvents_retireBrick (s : State) (n : Nat) : drawEvents (retireBrick s n) = drawEvents s := by
  unfold retireBrick
  simp +decide

@[simp] theorem drawEvents_retireEmpty (s : State) : drawEvents (retireEmpty s) = drawEvents s := by
  unfold retireEmpty
  simp +decide

@[simp] theorem drawEvents_beginReset (s : State) (n : Nat) (fw : Bool) : drawEvents (beginReset s n fw) = drawEvents s := by
  unfold beginReset
  simp +decide

@[simp] theorem drawEvents_runResets (s : State) : drawEvents (runResets s) = drawEvents s := by
  unfold runResets
  dsimp only
  repeat' split
  all_goals simp +decide

@[simp] theorem drawEvents_startCkptAt (s : State) (clean : Bool) (tries : Nat) : drawEvents (startCkptAt s clean tries) = drawEvents s := by
  unfold startCkptAt
  simp +decide
  split <;> simp +decide

@[simp] theorem drawEvents_startCkpt (s : State) (clean : Bool) : drawEvents (startCkpt s clean) = drawEvents s := by
  unfold startCkpt
  simp +decide

@[simp] theorem drawEvents_ckptGivenUp (s : State) : drawEvents (ckptGivenUp s) = drawEvents s := by
  unfold ckptGivenUp
  simp +decide

@[simp] theorem drawEvents_ckptMoved (s : State) (c : Ckpt) : drawEvents (ckptMoved s c) = drawEvents s := by
  unfold ckptMoved
  simp +decide

@[simp] theorem drawEvents_stageSectors (slot : Nat) (l : List (List Nat × Nat)) (s : State) : drawEvents (stageSectors slot l s) = drawEvents s := by
  induction l generalizing s with
  | nil => rfl
  | cons q l ih => rw [stageSectors, ih, drawEvents_memWrite]

@[simp] theorem drawEvents_giveSlot (s : State) (n stype : Nat) (secs : List (List Nat)) : drawEvents (giveSlot s n stype secs) = drawEvents s := by
  unfold giveSlot
  split
  · rfl
  · rw [drawEvents_updSlot, drawEvents_stageSectors, drawEvents_openSlot]

@[simp] theorem drawEvents_runCkpt (s : State) : drawEvents (runCkpt s) = drawEvents s := by
  unfold runCkpt
  split <;> simp +decide

@[simp] theorem drawEvents_ckptDue (s : State) : drawEvents (ckptDue s) = drawEvents s := by
  unfold ckptDue
  simp +decide

@[simp] theorem drawEvents_endWriting (s : State) : drawEvents (endWriting s) = drawEvents s := by
  unfold endWriting
  simp +decide

@[simp] theorem drawEvents_unplace (s : State) (seq : Nat) : drawEvents (unplace s seq) = drawEvents s := by
  unfold unplace
  simp +decide

@[simp] theorem drawEvents_syncCap (s : State) : drawEvents (syncCap s) = drawEvents s := by
  unfold syncCap
  simp +decide

@[simp] theorem drawEvents_unmount (s : State) : drawEvents (unmount s) = drawEvents s := by
  unfold unmount
  simp +decide

@[simp] theorem drawEvents_setSpn (s : State) (x : Spn) : drawEvents (State.setSpn s x) = drawEvents s := by
  unfold State.setSpn
  simp +decide

@[simp] theorem drawEvents_spnEnter (s : State) (st : Nat) : drawEvents (spnEnter s st) = drawEvents s := by
  unfold spnEnter
  simp +decide

@[simp] theorem drawEvents_modeEnter (act : Nat) (s : State) : drawEvents (modeEnter act s) = drawEvents s := by
  unfold modeEnter
  simp +decide

@[simp] theorem drawEvents_spnModeWrite (m : Master) (v : Word) (s : State) : drawEvents (spnModeWrite m v s) = drawEvents s := by
  unfold spnModeWrite
  split <;> simp +decide

@[simp] theorem drawEvents_stpCmd (v : Word) (s : State) : drawEvents (stpCmd v s) = drawEvents s := by
  unfold stpCmd
  simp +decide

@[simp] theorem drawEvents_fetchList (s : State) (seq addr need : Nat) : drawEvents (fetchList s seq addr need) = drawEvents s := by
  unfold fetchList
  simp +decide

@[simp] theorem drawEvents_listArrived (s : State) (c : Ctx) (addr : Nat) : drawEvents (listArrived s c addr) = drawEvents s := by
  unfold listArrived
  dsimp only
  repeat' split
  all_goals simp +decide

@[simp] theorem drawEvents_runPrp (s : State) (seq : Nat) : drawEvents (runPrp s seq) = drawEvents s := by
  unfold runPrp
  simp +decide
  repeat' split
  all_goals simp +decide

@[simp] theorem drawEvents_endRead (s : State) (seq st lba : Nat) : drawEvents (endRead s seq st lba) = drawEvents s := by
  unfold endRead
  simp +decide

@[simp] theorem drawEvents_takeSnapshot (s : State) (c : Ctx) : drawEvents (takeSnapshot s c) = drawEvents s := by
  unfold takeSnapshot
  dsimp only
  repeat' split
  all_goals simp +decide

@[simp] theorem drawEvents_giveBlock (s : State) (c : Ctx) (lba : Nat) (bytes : List Nat) : drawEvents (giveBlock s c lba bytes) = drawEvents s := by
  unfold giveBlock
  simp +decide

@[simp] theorem drawEvents_serveBlock (seq : Nat) (s : State) (b : Nat × Nat × Nat) : drawEvents (serveBlock seq s b) = drawEvents s := by
  unfold serveBlock
  split
  · rfl
  · split
    · rfl
    · exact drawEvents_readAnew s _ _
    · exact drawEvents_endRead s _ _ _
    · exact drawEvents_giveBlock s _ _ _

@[simp] theorem drawEvents_runReader (s : State) (seq : Nat) : drawEvents (runReader s seq) = drawEvents s := by
  unfold runReader
  split
  · rfl
  · next c _ =>
    split
    · rfl
    · have hsnap : drawEvents (if c.snap.isNone = true then takeSnapshot s c else s) = drawEvents s := by simp
      generalize (if c.snap.isNone = true then takeSnapshot s c else s) = u at hsnap
      dsimp only
      split
      · exact hsnap
      · next d _ =>
        split
        · exact hsnap
        · have hzero : drawEvents ((zeroBlocks d).foldl (fun s b => match stillRuns s seq with
              | some c => giveBlock s c b (List.replicate 4096 0)
              | none => s) u) = drawEvents u := by
            refine drawEvents_foldl (fun s b => ?_) _ u
            split
            · exact drawEvents_giveBlock s _ _ _
            · rfl
          generalize ((zeroBlocks d).foldl _ u) = v at hzero
          have hserve : drawEvents (match stillRuns v seq with
              | some c => (dueBlocks c).foldl (serveBlock seq) v
              | none => v) = drawEvents v := by
            split
            · exact drawEvents_foldl (drawEvents_serveBlock seq) _ v
            · rfl
          split
          · split
            · exact (drawEvents_endRead _ _ _ _).trans (hserve.trans (hzero.trans hsnap))
            · exact hserve.trans (hzero.trans hsnap)
          · exact hserve.trans (hzero.trans hsnap)

@[simp] theorem drawEvents_closeFor (s : State) (seq : Nat) : drawEvents (closeFor s seq) = drawEvents s := by
  unfold closeFor
  simp +decide
  repeat' split
  all_goals simp +decide

@[simp] theorem drawEvents_runFlush (s : State) (seq : Nat) : drawEvents (runFlush s seq) = drawEvents s := by
  unfold runFlush
  split <;> simp +decide

@[simp] theorem drawEvents_runDsm (s : State) (seq : Nat) : drawEvents (runDsm s seq) = drawEvents s := by
  unfold runDsm
  split <;> simp +decide

@[simp] theorem drawEvents_stopDrive (s : State) : drawEvents (stopDrive s) = drawEvents s := by
  unfold stopDrive
  simp +decide

@[simp] theorem drawEvents_runUnload (s : State) (seq : Nat) : drawEvents (runUnload s seq) = drawEvents s := by
  unfold runUnload
  split <;> simp +decide

@[simp] theorem drawEvents_runShutdown (s : State) : drawEvents (runShutdown s) = drawEvents s := by
  unfold runShutdown
  simp +decide

@[simp] theorem drawEvents_setSec (s : State) (x : Sec) : drawEvents (State.setSec s x) = drawEvents s := by
  unfold State.setSec
  simp +decide

@[simp] theorem drawEvents_voidChallenge (s : State) (k : Nat) : drawEvents (voidChallenge s k) = drawEvents s := by
  unfold voidChallenge
  simp +decide

@[simp] theorem drawEvents_drawChallenge (s : State) (k : Nat) : drawEvents (drawChallenge s k).2 = drawEvents s := by
  unfold drawChallenge
  simp +decide

@[simp] theorem drawEvents_runClear (s : State) (b : List Nat) : drawEvents (runClear s b).2 = drawEvents s := by
  unfold runClear
  dsimp only
  split
  · rw [drawEvents_setSec, drawEvents_clearRun, drawEvents_voidChallenge]
  · rw [drawEvents_report, drawEvents_err (by decide), drawEvents_voidChallenge]

@[simp] theorem drawEvents_fwProgram (s : State) (off tag : Nat) (ws : List (BitVec 64)) : drawEvents (fwProgram s off tag ws) = drawEvents s := by
  unfold fwProgram
  simp +decide

@[simp] theorem drawEvents_fwErase (s : State) (off tag : Nat) : drawEvents (fwErase s off tag) = drawEvents s := by
  unfold fwErase
  simp +decide

@[simp] theorem drawEvents_fwWords (tag : Nat) (l : List (BitVec 64)) (k : Nat) (s : State) : drawEvents (fwWords tag l k s) = drawEvents s := by
  induction l generalizing k s with
  | nil => rfl
  | cons w l ih => rw [fwWords, ih, drawEvents_fwProgram]

@[simp] theorem drawEvents_logAppend (s : State) (slot tag : Nat) (rs : List (BitVec 64)) : drawEvents (logAppend s slot tag rs) = drawEvents s := by
  unfold logAppend
  extract_lets u0 u1 a used other full n l copies t
  split
  · exact drawEvents_fwWords ..
  · rw [drawEvents_fwErase, drawEvents_fwWords]
    unfold t
    split
    · exact drawEvents_fwErase ..
    · rfl

theorem drawEvents_logPage {s : State} {c : Ctx} {r : List Nat × State} (h : logPage s c = .ok r) : drawEvents r.2 = drawEvents s := by
  unfold logPage at h
  dsimp only at h
  repeat' split at h
  all_goals
    cases h
  all_goals
    simp

@[simp] theorem drawEvents_createCq (s : State) (c : Ctx) : drawEvents (createCq s c) = drawEvents s := by
  unfold createCq
  simp +decide

@[simp] theorem drawEvents_createSq (s : State) (c : Ctx) : drawEvents (createSq s c) = drawEvents s := by
  unfold createSq
  simp +decide

@[simp] theorem drawEvents_deleteCq (s : State) (c : Ctx) : drawEvents (deleteCq s c) = drawEvents s := by
  unfold deleteCq
  simp +decide

@[simp] theorem drawEvents_abortCmd (s : State) (c : Ctx) : drawEvents (abortCmd s c) = drawEvents s := by
  unfold abortCmd
  simp +decide
  split <;> simp +decide

@[simp] theorem drawEvents_coresOn (s : State) : drawEvents (coresOn s) = drawEvents s := by
  unfold coresOn
  simp +decide

@[simp] theorem drawEvents_psRequest (s : State) (t : Nat) : drawEvents (psRequest s t) = drawEvents s := by
  unfold psRequest
  simp +decide

@[simp] theorem drawEvents_katoRestart (s : State) : drawEvents (katoRestart s) = drawEvents s := by
  unfold katoRestart
  simp +decide

@[simp] theorem drawEvents_setFeature (s : State) (c : Ctx) (data : List Nat) : drawEvents (setFeature s c data) = drawEvents s := by
  unfold setFeature
  simp +decide

@[simp] theorem drawEvents_getFeature (s : State) (c : Ctx) : drawEvents (getFeature s c) = drawEvents s := by
  unfold getFeature
  dsimp only
  split
  · exact drawEvents_finish ..
  · rw [drawEvents_finish]
    split
    · exact drawEvents_sendPages ..
    · rfl

@[simp] theorem drawEvents_fwDownload (s : State) (c : Ctx) : drawEvents (fwDownload s c) = drawEvents s := by
  unfold fwDownload
  dsimp only
  split
  · exact drawEvents_finish ..
  · split
    · rw [drawEvents_fetchPages, drawEvents_updCtx]
    · split
      · split
        · rfl
        · refine (drawEvents_foldl (fun s i => ?_) _ _).trans ?_
          · rw [drawEvents_fwWords, drawEvents_fwErase]
          · split
            · exact drawEvents_updCtx ..
            · rw [drawEvents_logAppend, drawEvents_setHq, drawEvents_updCtx]
      · split
        · rfl
        · exact drawEvents_finish ..

@[simp] theorem drawEvents_fwCommit (s : State) (c : Ctx) : drawEvents (fwCommit s c) = drawEvents s := by
  unfold fwCommit
  simp +decide

@[simp] theorem drawEvents_attestCmd (s : State) (c : Ctx) : drawEvents (attestCmd s c) = drawEvents s := by
  unfold attestCmd
  simp +decide

@[simp] theorem drawEvents_clearCmd (s : State) (c : Ctx) : drawEvents (clearCmd s c) = drawEvents s := by
  unfold clearCmd
  simp +decide

@[simp] theorem drawEvents_verifyCmd (s : State) (c : Ctx) : drawEvents (verifyCmd s c) = drawEvents s := by
  unfold verifyCmd
  simp +decide
  split <;> simp +decide

@[simp] theorem drawEvents_spinCmd (s : State) (c : Ctx) : drawEvents (spinCmd s c) = drawEvents s := by
  unfold spinCmd
  simp +decide

@[simp] theorem drawEvents_runAdmin (s : State) (seq : Nat) : drawEvents (runAdmin s seq) = drawEvents s := by
  unfold runAdmin
  split
  · rfl
  · next c _ =>
    split
    · rfl
    · split
      · rfl
      · split
        · rfl
        · split
          · exact drawEvents_createSq s c
          · split
            · exact drawEvents_finish ..
            · next r hr =>
              rw [drawEvents_finish]
              split
              · rw [drawEvents_setHq, drawEvents_sendPages, drawEvents_logPage hr]
              · rw [drawEvents_sendPages, drawEvents_logPage hr]
          · exact drawEvents_deleteCq s c
          · exact drawEvents_createCq s c
          · split
            · exact drawEvents_finish ..
            · rw [drawEvents_finish, drawEvents_sendPages]
          · exact drawEvents_abortCmd s c
          · simp
          · exact drawEvents_getFeature s c
          · exact drawEvents_fwCommit s c
          · exact drawEvents_fwDownload s c
          · rw [drawEvents_finish, drawEvents_katoRestart]
          · exact drawEvents_spinCmd s c
          · exact drawEvents_attestCmd s c
          · exact drawEvents_clearCmd s c
          · exact drawEvents_verifyCmd s c
          · rfl

@[simp] theorem drawEvents_syncStall (s : State) : drawEvents (syncStall s) = drawEvents s := by
  unfold syncStall
  simp +decide

@[simp] theorem drawEvents_runVerify (s : State) : drawEvents (runVerify s) = drawEvents s := by
  unfold runVerify
  simp +decide

end Sys2Proof.Machine
end

section
/-! DRAW's events stand over the pass of the host side (R141). -/
namespace Sys2Proof.Machine

/-- Each of DRAW's events of `s` stands in `t`. -/
structure EventsStand (s t : State) : Prop where
  stands : ∀ i, fieldOf (drawEvents s) i 1 = 1 → fieldOf (drawEvents t) i 1 = 1

theorem irq_iff_drawEvents (s : State) (i : Nat) : s.irq pgDRAW i ↔ fieldOf (drawEvents s) i 1 = 1 := by
  unfold drawEvents
  exact beq_iff_eq

namespace EventsStand

variable {s t u : State}

theorem irq (h : EventsStand s t) {i : Nat} (hi : s.irq pgDRAW i) : t.irq pgDRAW i :=
  (irq_iff_drawEvents t i).mpr (h.stands i ((irq_iff_drawEvents s i).mp hi))

theorem of_eq (h : drawEvents t = drawEvents s) : EventsStand s t := ⟨fun i hi => by rwa [h]⟩

theorem of_logs (h : Logs pgDRAW s t) : EventsStand s t :=
  ⟨fun i hi => (irq_iff_drawEvents t i).mp (h.irq_stands i ((irq_iff_drawEvents s i).mpr hi))⟩

theorem refl (s : State) : EventsStand s s := ⟨fun _ h => h⟩

theorem trans (h : EventsStand s t) (h' : EventsStand t u) : EventsStand s u :=
  ⟨fun i hi => h'.stands i (h.stands i hi)⟩

theorem raise (h : EventsStand s t) {i : Nat} (hi : i < 32 := by decide) : EventsStand s (t.raise pgDRAW i) :=
  h.trans (of_logs ((Logs.refl _ t).raise i hi))

theorem ite {c : Prop} [Decidable c] (h : EventsStand s t) (h' : EventsStand s u) : EventsStand s (if c then t else u) := by
  split <;> assumption

theorem foldl {α : Type} {f : State → α → State} (hf : ∀ s a, EventsStand s (f s a)) (l : List α) (s : State) :
    EventsStand s (l.foldl f s) := by
  induction l generalizing s with
  | nil => exact .refl s
  | cons a l ih => exact (hf s a).trans (ih _)

end EventsStand

theorem vqPut_events (s : State) (rec : List Nat) : EventsStand s (vqPut s rec) :=
  .ite (.of_eq (drawEvents_vqStore s rec)) (.raise (.of_eq (drawEvents_setW s _)))

theorem giveVerdict_events (s : State) (a : Arm) (verdict cause : Nat) : EventsStand s (giveVerdict s a verdict cause) :=
  ((vqPut_events s _).raise).trans (.of_eq ((drawEvents_setW _ _).trans (drawEvents_setW _ _)))

theorem notStarted_events (s : State) (a : Arm) : EventsStand s (notStarted s a) :=
  .trans (.of_eq (by simp +decide)) (giveVerdict_events (((s.addSat Reg.WENC_CNT 24 8 1).raise pgWENC 4).err pgWENC 0x0504 0) a 4 0)

theorem voidFront_events (s : State) (cause : Nat) : EventsStand s (voidFront s cause) := by
  unfold voidFront
  dsimp only
  split
  · exact .refl s
  · exact .trans (.of_eq (by simp +decide)) (giveVerdict_events ..)

theorem dropGate_events (s : State) (cause : Nat) : EventsStand s (dropGate s cause) := by
  have hlow : EventsStand s (((s.setW { s.wenc with gate := false }).addSat Reg.WSG_CNT 16 16 1).raise pgWSG 3) := .of_eq (by simp +decide)
  exact .ite (.ite ((hlow.trans (.of_eq (drawEvents_failRest _))).trans (voidFront_events ..)) hlow) (.refl s)

theorem abortLost_events (s : State) : EventsStand s (abortLost s) := by
  unfold abortLost
  refine .trans ?_ (.trans (.of_eq (drawEvents_setW _ _)) (.foldl notStarted_events _ _))
  split
  · exact .ite (dropGate_events s 6) (.ite (voidFront_events s 6) (.refl s))
  · exact .refl s

/-- Of what staging slots that lost their data bring about, only the arms that end raise an event of DRAW. -/
theorem restage_events (s : State) : EventsStand s (restage s) := by
  have hlost := abortLost_events s
  unfold restage
  refine .ite (.refl s) (hlost.trans (.of_eq ?_))
  simp +decide
  split <;> simp +decide

/-- The commands with the host and the administrative ones have gone on. -/
def commandsRun (s : State) : State := (s.hq.ctx.map (·.seq)).foldl runAdmin ((s.hq.ctx.map (·.seq)).foldl runPrp s)

theorem drawEvents_pumpOnce (s : State) : drawEvents (pumpOnce s) = if xltRuns (commandsRun s) then
    drawEvents (restage (endWriting (takeRecoveries (takeVerdicts (commandsRun s))))) else drawEvents s := by
  unfold pumpOnce commandsRun
  simp +decide

theorem pumpOnce_events (s : State) : EventsStand s (pumpOnce s) := by
  have hstage := restage_events (endWriting (takeRecoveries (takeVerdicts (commandsRun s))))
  have hbefore : drawEvents (endWriting (takeRecoveries (takeVerdicts (commandsRun s)))) = drawEvents s := by
    unfold commandsRun
    simp
  refine ⟨fun i hi => ?_⟩
  rw [drawEvents_pumpOnce]
  split
  · exact hstage.stands i (by rwa [hbefore])
  · exact hi

theorem pump_events (s : State) : EventsStand s (pump s) :=
  ((pumpOnce_events s).trans (pumpOnce_events _)).trans (pumpOnce_events _)

end Sys2Proof.Machine
end

section
/-! Strategy loads, verdicts and the write inhibit: what WSG, DRAW and WINH leave (R128, R137, R141, R143, R147, R148, R154, R281). -/
namespace Sys2Proof.Machine

/-! ## Strategy loads (R128) -/

/-- A load that the set cannot take: no word, words past the end, no such layer, or a layer an arm uses. -/
abbrev loadMisfits (s : State) (new : Word) : Prop := fieldOf new 16 6 = 0 ∨ 40 < fieldOf new 8 6 + fieldOf new 16 6 ∨ 11 < fieldOf new 0 4 ∨
  s.wenc.arms.any (fun a => psaLayer a.psa == fieldOf new 0 4) = true

/-- The words of a load as its layer's set would hold them. -/
def loadWord (s : State) (new : Word) (ws : List Word) (k : Nat) : Word :=
  if fieldOf new 8 6 ≤ k ∧ k < fieldOf new 8 6 + fieldOf new 16 6 then ws.getD (k - fieldOf new 8 6) 0#32 else wsgWord s (fieldOf new 0 4) k

/-- A load's words lie in their ranges, and no loaded pair is out of order. -/
abbrev loadLegal (s : State) (new : Word) (ws : List Word) : Prop :=
  (List.range (fieldOf new 16 6)).all (fun i => wsgFieldOk (fieldOf new 8 6 + i) (ws.getD i 0#32)) = true ∧
  wsgOrderOk (loadWord s new ws) (fun k => (s.wenc.setMask.getD (fieldOf new 0 4) 0).testBit k ||
    (decide (fieldOf new 8 6 ≤ k) && decide (k < fieldOf new 8 6 + fieldOf new 16 6))) = true

/-- WSG's read of a load's words. -/
abbrev loadRead (s : State) (new : Word) : List Nat × Bool × State := memRead s .cdma (s.reg Reg.WSG_LOAD_SRC).toNat (4 * fieldOf new 16 6)

def loadRefused (s : State) : State := (s.raise pgWSG 1).err pgWSG 0x0602 0

def loadTaken (s : State) (new : Word) (ws : List Word) : State :=
  (s.setW { s.wenc with loadBuf := ws, loadAt := (fieldOf new 0 4, fieldOf new 8 6) }).setBit Reg.WSG_LOAD_CTRL 31 true

theorem wsgLoadGo_idle {s : State} {v new : Word} (hnew : s.reg Reg.WSG_LOAD_CTRL = new) (h : fieldOf v 31 1 = 0 ∨ fieldOf new 31 1 = 1) :
    wsgLoadGo v s = s := by
  subst hnew
  exact if_pos (h.imp_right beq_iff_eq.mpr)

section
variable {s : State} {v new : Word} (hnew : s.reg Reg.WSG_LOAD_CTRL = new) (hv : fieldOf v 31 1 = 1) (hidle : fieldOf new 31 1 = 0)
include hnew hv hidle

theorem wsgLoadGo_judges : ¬(fieldOf v 31 1 = 0 ∨ s.bit Reg.WSG_LOAD_CTRL 31 = true) := by
  subst hnew
  rintro (h | h)
  · omega
  · exact absurd (beq_iff_eq.mp h) (by rw [State.fld, hidle]; decide)

theorem wsgLoadGo_misfit (h : loadMisfits s new) : wsgLoadGo v s = loadRefused s := by
  have hj := wsgLoadGo_judges hnew hv hidle
  subst hnew
  rw [wsgLoadGo, if_neg hj]
  exact if_pos h

theorem wsgLoadGo_fit (h : ¬loadMisfits s new) : wsgLoadGo v s =
    if (loadRead s new).2.1 then loadRefused (loadRead s new).2.2
    else if loadLegal (loadRead s new).2.2 new (wordsLE (fieldOf new 16 6) (loadRead s new).1) then
      loadTaken (loadRead s new).2.2 new (wordsLE (fieldOf new 16 6) (loadRead s new).1)
    else loadRefused (loadRead s new).2.2 := by
  have hj := wsgLoadGo_judges hnew hv hidle
  subst hnew
  rw [wsgLoadGo, if_neg hj]
  refine (if_neg h).trans ?_
  simp only [loadLegal, ← Bool.and_eq_true]
  rfl

end

theorem not_loadMisfits {s : State} {new : Word} (hcount : fieldOf new 16 6 ≠ 0) (hend : fieldOf new 8 6 + fieldOf new 16 6 ≤ 40)
    (hlayer : fieldOf new 0 4 ≤ 11) (harms : s.wenc.arms.any (fun a => psaLayer a.psa == fieldOf new 0 4) = false) : ¬loadMisfits s new := by
  rintro (h | h | h | h)
  · exact hcount h
  · omega
  · omega
  · exact absurd (h.symm.trans harms) (by decide)

/-- The registers that a load may change before it is judged. -/
abbrev loadRegs (a : Nat) : Prop := a = Reg.WSG_LOAD_CTRL ∨ memRegs a

theorem wsgWord_congr {s u : State} (h : RegsKept loadRegs s u) (layer k : Nat) : wsgWord u layer k = wsgWord s layer k :=
  h.reg _ (by simp only [loadRegs, memRegs, Reg.WSG_LOAD_CTRL]; omega)

theorem loadLegal_congr {s u : State} (h : RegsKept loadRegs s u) (hw : u.wenc = s.wenc) (new : Word) (ws : List Word) :
    loadLegal u new ws ↔ loadLegal s new ws := by
  have hwords : loadWord u new ws = loadWord s new ws := funext fun k => by rw [loadWord, loadWord, wsgWord_congr h]
  rw [loadLegal, hwords, hw]

section
variable {s : State} {m : Master} {v new : Word} (h : Takes s m Reg.WSG_LOAD_CTRL v new)
include h

/-- GO written while a load runs, or written as 0. -/
theorem wsgLoad_idle (hidle : fieldOf v 31 1 = 0 ∨ fieldOf new 31 1 = 1) :
    Runs (.wsgLoad m v) s fun t => t.wenc = s.wenc ∧ t.reg Reg.WSG_LOAD_CTRL = new := by
  have hreg := s.reg_putReg_same (a := Reg.WSG_LOAD_CTRL) new (by decide)
  have hput : (s.putReg Reg.WSG_LOAD_CTRL new).unlessFrozen pgWSG (wsgLoadGo v) = s.putReg Reg.WSG_LOAD_CTRL new :=
    unlessFrozen_idle (fun _ => wsgLoadGo_idle hreg hidle) (.inr True.intro)
  refine runs_of_done _ (congrArg (done s) ((regWrite_take h).trans hput)) ?_
  rw [State.settled_wenc, State.putReg_wenc, State.settled_reg_plain _ _ _ (by decide), hreg]
  exact ⟨rfl, rfl⟩

variable (hf : s.frozen pgWSG = false) (hv : fieldOf v 31 1 = 1) (hidle : fieldOf new 31 1 = 0)
include hf hv hidle

theorem wsgLoad_misfit (hbad : loadMisfits s new) {P : State → Prop}
    (hp : ∀ u, RegsKept loadRegs s u → u.reg Reg.WSG_LOAD_CTRL = new → u.wenc = s.wenc → P (s.settled (loadRefused u))) :
    Runs (.wsgLoad m v) s P := by
  have hreg := s.reg_putReg_same (a := Reg.WSG_LOAD_CTRL) new (by decide)
  have hwenc := s.putReg_wenc Reg.WSG_LOAD_CTRL new
  have hgo := wsgLoadGo_misfit hreg hv hidle (by rwa [loadMisfits, hwenc])
  refine runs_of_done _ (congrArg (done s) ((regWrite_unlessFrozen h hf (by decide) (by decide)).trans hgo)) ?_
  exact hp _ ((putReg_kept s new).mono fun _ => .inl) hreg hwenc

/-- A load that fits is judged by what its read of SRAM returned. -/
theorem wsgLoad_fit (hfit : ¬loadMisfits s new) {P : State → Prop}
    (hp : ∀ u, RegsKept loadRegs s u → u.reg Reg.WSG_LOAD_CTRL = new → u.wenc = s.wenc → P (s.settled
      (if (loadRead s new).2.1 then loadRefused u else if loadLegal s new (wordsLE (fieldOf new 16 6) (loadRead s new).1) then
        loadTaken u new (wordsLE (fieldOf new 16 6) (loadRead s new).1) else loadRefused u))) : Runs (.wsgLoad m v) s P := by
  have hput := putReg_kept s (a := Reg.WSG_LOAD_CTRL) new
  have hreg := s.reg_putReg_same (a := Reg.WSG_LOAD_CTRL) new (by decide)
  have hwenc := s.putReg_wenc Reg.WSG_LOAD_CTRL new
  have hgo := wsgLoadGo_fit hreg hv hidle (by rwa [loadMisfits, hwenc])
  have hsame : SramSame s (s.putReg Reg.WSG_LOAD_CTRL new) := SramSame.putReg s new (by decide)
  obtain ⟨hbytes, herr⟩ := hsame.memRead (m := .cdma) (by decide) (s.reg Reg.WSG_LOAD_SRC).toNat (4 * fieldOf new 16 6)
  have hread := memRead_memOnly (s.putReg Reg.WSG_LOAD_CTRL new) .cdma (s.reg Reg.WSG_LOAD_SRC).toNat (4 * fieldOf new 16 6)
  have hkept : RegsKept loadRegs s _ := (hput.mono fun _ => .inl).trans ((RegsKept.of_memOnly hread).mono fun _ => .inr)
  have hlast := hread.wenc.trans hwenc
  rw [loadRead, hput.reg Reg.WSG_LOAD_SRC (by decide), hbytes, herr] at hgo
  refine runs_of_done _ (congrArg (done s) ((regWrite_unlessFrozen h hf (by decide) (by decide)).trans hgo)) ?_
  simp only [loadLegal_congr hkept hlast]
  exact hp _ hkept ((hread.reg _ (by decide)).trans hreg) hlast

end

/-- A refused load leaves GO clear and reports. -/
theorem loadRefused_reports {s u : State} {new : Word} (hidle : fieldOf new 31 1 = 0) (h : RegsKept loadRegs s u)
    (hreg : u.reg Reg.WSG_LOAD_CTRL = new) : (s.settled (loadRefused u)).bit Reg.WSG_LOAD_CTRL 31 = false ∧
      (s.settled (loadRefused u)).irq pgWSG 1 ∧ s.reports pgWSG 0x0602 (s.settled (loadRefused u)) := by
  have hctrl : (loadRefused u).reg Reg.WSG_LOAD_CTRL = new := by
    rw [loadRefused, State.reg_err_ne _ _ _ _ _ (by decide), State.reg_raise_ne _ _ _ _ (by decide) (by decide), hreg]
  refine ⟨?_, irq_of_settled ?_, reports_settled s _ _ (by decide) (by decide) ?_⟩
  · rw [State.settled_bit_plain _ _ _ _ (by decide), State.bit, State.fld, hctrl, hidle]
    rfl
  · exact ((Logs.refl _ _).err _ _ (by decide)).irq_stands 1 (irq_raise u pgWSG 1 (by decide))
  · rw [State.reg_raise_ne _ _ _ _ (by decide) (by decide), h.reg _ (by decide)]

theorem loadRefused_wenc (s : State) : (loadRefused s).wenc = s.wenc := by rw [loadRefused, State.err_wenc, State.raise_wenc]

theorem loadTaken_wenc (s : State) (new : Word) (ws : List Word) :
    (loadTaken s new ws).wenc = { s.wenc with loadBuf := ws, loadAt := (fieldOf new 0 4, fieldOf new 8 6) } := by
  rw [loadTaken, State.setBit_wenc, State.setW_wenc]

section
variable {s : State} {m : Master} {v new : Word} (h : Takes s m Reg.WSG_LOAD_CTRL v new) (hf : s.frozen pgWSG = false)
  (hv : fieldOf v 31 1 = 1) (hidle : fieldOf new 31 1 = 0) (hfit : ¬loadMisfits s new)
include h hf hv hidle hfit

theorem wsgLoad_takes (herr : (loadRead s new).2.1 = false) (hlegal : loadLegal s new (wordsLE (fieldOf new 16 6) (loadRead s new).1)) :
    Runs (.wsgLoad m v) s fun t => t.bit Reg.WSG_LOAD_CTRL 31 = true ∧
      t.wenc.loadBuf = wordsLE (fieldOf new 16 6) (loadRead s new).1 ∧ t.wenc.loadAt = (fieldOf new 0 4, fieldOf new 8 6) := by
  refine wsgLoad_fit h hf hv hidle hfit fun u _ _ hu => ?_
  rw [if_neg (by rw [herr]; decide), if_pos hlegal, State.settled_wenc, loadTaken_wenc, hu]
  refine ⟨?_, rfl, rfl⟩
  rw [State.settled_bit_plain _ _ _ _ (by decide), loadTaken, State.bit_setBit_same _ _ _ _ (by decide)]

theorem wsgLoad_refuses (hbad : (loadRead s new).2.1 = true ∨ ¬loadLegal s new (wordsLE (fieldOf new 16 6) (loadRead s new).1)) :
    Runs (.wsgLoad m v) s fun t => t.bit Reg.WSG_LOAD_CTRL 31 = false ∧ t.wenc.loadBuf = s.wenc.loadBuf ∧ t.irq pgWSG 1 := by
  refine wsgLoad_fit h hf hv hidle hfit fun u hkept hreg hu => ?_
  obtain ⟨hgo, hirq, -⟩ := loadRefused_reports hidle hkept hreg
  have hleft : (s.settled (loadRefused u)).wenc.loadBuf = s.wenc.loadBuf := by rw [State.settled_wenc, loadRefused_wenc, hu]
  obtain herr | hillegal := hbad
  · rw [if_pos herr]
    exact ⟨hgo, hleft, hirq⟩
  · rw [if_neg hillegal, ite_self]
    exact ⟨hgo, hleft, hirq⟩

end

/-! ## A load's end (R128) -/

theorem putSet_kept (layer : Nat) (l : List Word) (k : Nat) (s : State) : RegsKept (0x500000000 ≤ ·) s (putSet layer l k s) := by
  induction l generalizing k s with
  | nil => exact .refl _ s
  | cons w l ih => exact ((RegsKept.refl _ s).setReg (by omega) w).trans (ih _ _)

theorem putSet_wenc (layer : Nat) (l : List Word) (k : Nat) (s : State) : (putSet layer l k s).wenc = s.wenc := by
  induction l generalizing k s with
  | nil => rfl
  | cons w l ih => rw [putSet, ih, State.setReg_wenc]

theorem wsgWord_putSet_before (layer : Nat) (l : List Word) {i k : Nat} (h : i < k) (s : State) :
    wsgWord (putSet layer l k s) layer i = wsgWord s layer i := by
  induction l generalizing k s with
  | nil => rfl
  | cons w l ih => rw [putSet, ih (by omega), wsgWord, State.reg_setReg_ne _ _ _ _ (by omega), wsgWord]

theorem wsgWord_putSet (layer : Nat) (l : List Word) (k : Nat) (s : State) {i : Nat} (h : i < l.length) :
    wsgWord (putSet layer l k s) layer (k + i) = l.getD i 0#32 := by
  induction l generalizing i k s with
  | nil => cases h
  | cons w l ih =>
    rw [putSet]
    cases i with
    | zero =>
      show wsgWord _ layer k = _
      rw [wsgWord_putSet_before _ _ (Nat.lt_succ_self k), wsgWord, State.reg_setReg_same,
        List.getD_cons_zero]
    | succ i =>
      rw [List.getD_cons_succ, ← ih (k + 1) _ (Nat.lt_of_succ_lt_succ h)]
      congr 1
      omega

/-- What a layer's set holds once the load that runs has ended. -/
def maskAfterLoad (s : State) : Nat := s.wenc.setMask.getD s.wenc.loadAt.1 0 ||| (2 ^ s.wenc.loadBuf.length - 1) * 2 ^ s.wenc.loadAt.2

/-- The words of a load stand in their set, and the layer is marked. -/
def setLoaded (s : State) : State :=
  ((putSet s.wenc.loadAt.1 s.wenc.loadBuf s.wenc.loadAt.2 s).setW { s.wenc with
    setMask := s.wenc.setMask.set s.wenc.loadAt.1 (maskAfterLoad s), loadBuf := [] }).setBit Reg.WSG_LAYERSTAT s.wenc.loadAt.1
      (maskAfterLoad s == 2 ^ 40 - 1)

theorem loadDone_eq {s : State} (h : s.bit Reg.WSG_LOAD_CTRL 31 = true) :
    loadDone s = ((setLoaded s).setBit Reg.WSG_LOAD_CTRL 31 false).raise pgWSG 0 := by
  have hwenc := putSet_wenc s.wenc.loadAt.1 s.wenc.loadBuf s.wenc.loadAt.2 s
  rw [loadDone, if_pos h]
  dsimp only
  rw [hwenc]
  rfl

theorem loadDone_idle {s : State} (h : s.bit Reg.WSG_LOAD_CTRL 31 = false) : loadDone s = s := if_neg (by rw [h]; decide)

theorem wsgLoadDone_sets {s : State} (hf : s.frozen pgWSG = false) (hrun : s.bit Reg.WSG_LOAD_CTRL 31 = true)
    (hlayer : s.wenc.loadAt.1 < 12) (hlen : s.wenc.setMask.length = 12) : Runs .wsgLoadDone s fun t =>
      (∀ k ∈ List.range s.wenc.loadBuf.length, wsgWord t s.wenc.loadAt.1 (s.wenc.loadAt.2 + k) = s.wenc.loadBuf.getD k 0#32) ∧
      t.bit Reg.WSG_LOAD_CTRL 31 = false ∧ t.irq pgWSG 0 ∧ t.wenc.setMask.getD s.wenc.loadAt.1 0 = maskAfterLoad s ∧
      (t.bit Reg.WSG_LAYERSTAT s.wenc.loadAt.1 = true ↔ t.wenc.setMask.getD s.wenc.loadAt.1 0 = 2 ^ 40 - 1) := by
  have hset := putSet_kept s.wenc.loadAt.1 s.wenc.loadBuf s.wenc.loadAt.2 s
  have hmark : RegsKept (fun a => 0x40013000 ≤ a ∧ a < 0x40014000) (putSet s.wenc.loadAt.1 s.wenc.loadBuf s.wenc.loadAt.2 s)
      (((setLoaded s).setBit Reg.WSG_LOAD_CTRL 31 false).raise pgWSG 0) :=
    ((((RegsKept.refl _ _).setW _).setBit (by decide) _ _).setBit (by decide) _ _).raise (by decide) (by decide) _
  have hwenc : (((setLoaded s).setBit Reg.WSG_LOAD_CTRL 31 false).raise pgWSG 0).wenc = { s.wenc with
      setMask := s.wenc.setMask.set s.wenc.loadAt.1 (maskAfterLoad s), loadBuf := [] } := by
    rw [State.raise_wenc, State.setBit_wenc, setLoaded, State.setBit_wenc, State.setW_wenc]
  have hmask : (s.wenc.setMask.set s.wenc.loadAt.1 (maskAfterLoad s)).getD s.wenc.loadAt.1 0 = maskAfterLoad s := by
    rw [List.getD_eq_getElem?_getD, List.getElem?_set_self (by omega), Option.getD_some]
  have hbit : (((setLoaded s).setBit Reg.WSG_LOAD_CTRL 31 false).raise pgWSG 0).bit Reg.WSG_LAYERSTAT s.wenc.loadAt.1 =
      (maskAfterLoad s == 2 ^ 40 - 1) := by
    rw [State.bit_raise_ne _ _ _ _ _ (by decide) (by decide), State.bit_setBit_ne _ _ _ _ _ _ (by decide), setLoaded,
      State.bit_setBit_same _ _ _ _ (by omega)]
  refine runs_of_done _ (congrArg (done s) ((State.unlessFrozen_running hf _).trans (loadDone_eq hrun))) ⟨fun k hk => ?_, ?_, ?_, ?_, ?_⟩
  · have haddr : hardWired s.variant (0x500000000 + s.wenc.loadAt.1 * 0x100 + 4 * (s.wenc.loadAt.2 + k)) = false := by
      have hpage : isPage (0x500000000 + s.wenc.loadAt.1 * 0x100 + 4 * (s.wenc.loadAt.2 + k)) = false := by
        rw [isPage, decide_eq_false (p := _ < 0x40029000) (by omega), Bool.and_false]
      rw [hardWired, hpage, Bool.false_and]
    rw [wsgWord, State.settled_reg _ _ _ (hmark.variant.trans hset.variant) haddr, hmark.reg _ (by omega)]
    exact wsgWord_putSet _ _ _ _ (List.mem_range.mp hk)
  · rw [State.settled_bit_plain _ _ _ _ (by decide), State.bit_raise_ne _ _ _ _ _ (by decide) (by decide),
      State.bit_setBit_same _ _ _ _ (by decide)]
  · exact irq_of_settled (irq_raise _ _ _ (by decide))
  · rw [State.settled_wenc, hwenc]
    exact hmask
  · rw [State.settled_bit_plain _ _ _ _ (by decide), State.settled_wenc, hwenc, hbit]
    dsimp only
    rw [hmask, beq_iff_eq]

/-! ## Verdicts of DRAW (R137, R143) -/

/-- Every register but the status of XLT, by which the host side is quiet. -/
abbrev notXltStatus (a : Nat) : Prop := a ≠ Reg.STAT pgXLT

theorem LeavesHost.setW {P : Nat → Prop} {s t : State} (h : LeavesHost P s t) (x : WritePath) : LeavesHost P s (t.setW x) :=
  h.trans ⟨rfl, rfl, rfl, fun _ _ => rfl⟩

theorem vqPut_leavesHost (s : State) (rec : List Nat) : LeavesHost notXltStatus s (vqPut s rec) := by
  have hstore : LeavesHost notXltStatus s (vqStore s rec) :=
    ((LeavesHost.of_memOnly (memWrite_memOnly ..)).mono fun a ha he => absurd ha (by rw [he]; decide)).trans
      (.of_regsOnly ((RegsOnly.refl _ _).setFld (by decide) _ _ _))
  have hheld : LeavesHost notXltStatus s ((s.setW { s.wenc with heldRecs := s.wenc.heldRecs ++ [rec] }).raise pgDRAW 2) :=
    ((LeavesHost.refl _ s).setW _).trans (.of_regsOnly ((RegsOnly.refl _ _).raise (by decide) (by decide) _))
  unfold vqPut
  split
  · exact hstore
  · exact hheld

theorem giveVerdict_leavesHost (s : State) (a : Arm) (verdict cause : Nat) : LeavesHost notXltStatus s (giveVerdict s a verdict cause) :=
  (((vqPut_leavesHost s _).trans (.of_regsOnly ((RegsOnly.refl _ _).raise (by decide) (by decide) _))).setW _).setW _

theorem RegsOnly.foldl {P : Nat → Prop} {α : Type} {f : State → α → State} {l : List α} (hf : ∀ s, ∀ a ∈ l, RegsOnly P s (f s a)) (s : State) :
    RegsOnly P s (l.foldl f s) := by
  induction l generalizing s with
  | nil => exact .refl P s
  | cons a l ih => exact (hf s a List.mem_cons_self).trans (ih (fun s b hb => hf s b (List.mem_cons_of_mem a hb)) _)

theorem opcResult_regsOnly (s : State) (a : Arm) : RegsOnly notXltStatus s (opcResult s a) := by
  have hne : ∀ k ∈ List.range 16, notXltStatus (Reg.DRAW_OPC_ERR k) := by decide
  exact ((RegsOnly.foldl (fun s k hk => (RegsOnly.refl _ s).setReg (hne k hk) _) s).setReg (by decide) _).raise (by decide) (by decide) _

theorem opcResult_wenc (s : State) (a : Arm) : (opcResult s a).wenc = s.wenc := by
  obtain ⟨⟨r, hr⟩, -⟩ := opcResult_regsOnly s a
  rw [hr]

/-- The verdict DRAW gives of a group whose sectors are graded. -/
def verdictOf (s : State) (a : Arm) : Nat :=
  if a.test then 5 else if (List.range 8).all (fun g => stripPasses s (gradedOf s a.psa) (a.psa + g)) then 1 else 2

theorem drawVerdict_eq {s : State} {a : Arm} {r : List Arm} (harms : s.wenc.verdictArms = a :: r)
    (hfull : 512 ≤ (gradedOf s a.psa).length) : ∃ u : State, drawVerdict s = giveVerdict u a (verdictOf s a) 0 ∧
      u.wenc = { s.wenc with verdictArms := r } ∧ LeavesHost notXltStatus s u := by
  have hset : LeavesHost notXltStatus s (s.setW { s.wenc with verdictArms := r }) := (LeavesHost.refl _ s).setW _
  have hverdict : drawVerdict s =
      if a.test then giveVerdict (if keepsResult s a then s.setW { s.wenc with verdictArms := r }
        else opcResult (s.setW { s.wenc with verdictArms := r }) a) a 5 0
      else if (List.range 8).all (fun g => stripPasses s (gradedOf s a.psa) (a.psa + g)) then
        giveVerdict (s.setW { s.wenc with verdictArms := r }) a 1 0
      else giveVerdict (((s.setW { s.wenc with verdictArms := r }).raise pgDRAW 1).err pgDRAW 0x0702 0) a 2 0 := by
    rw [drawVerdict, harms]
    exact if_neg (by omega)
  rw [hverdict, verdictOf]
  split
  · refine ⟨_, rfl, ?_, ?_⟩ <;> split
    · rw [State.setW_wenc]
    · rw [opcResult_wenc, State.setW_wenc]
    · exact hset
    · exact hset.trans (.of_regsOnly (opcResult_regsOnly _ a))
  · split
    · exact ⟨_, rfl, State.setW_wenc _ _, hset⟩
    · refine ⟨_, rfl, ?_, hset.trans (.of_regsOnly (((RegsOnly.refl _ _).raise (by decide) (by decide) _).err (by decide) _ _))⟩
      rw [State.err_wenc, State.raise_wenc, State.setW_wenc]

theorem drawVerdict_irq {s : State} {a : Arm} {r : List Arm} (harms : s.wenc.verdictArms = a :: r)
    (hfull : 512 ≤ (gradedOf s a.psa).length) : (drawVerdict s).irq pgDRAW 0 := by
  obtain ⟨u, hverdict, -, -⟩ := drawVerdict_eq harms hfull
  rw [hverdict]
  exact giveVerdict_irq u a _ 0

theorem drawVerdict_quiet {s : State} {a : Arm} {r : List Arm} (harms : s.wenc.verdictArms = a :: r)
    (hfull : 512 ≤ (gradedOf s a.psa).length) (hq : s.quiet) : (drawVerdict s).quiet := by
  obtain ⟨u, hverdict, -, hhost⟩ := drawVerdict_eq harms hfull
  rw [hverdict]
  exact (hhost.trans (giveVerdict_leavesHost ..)).quiet (fun hn => hn rfl) hq

theorem drawVerdict_idle {s : State} (h : s.wenc.verdictArms.head?.all (fun a => decide ((gradedOf s a.psa).length < 512)) = true) :
    drawVerdict s = s := by
  unfold drawVerdict
  split
  · rfl
  · next a r harms => exact if_pos (by simpa [harms] using h)

theorem RegsOnly.wenc {P : Nat → Prop} {s t : State} (h : RegsOnly P s t) : t.wenc = s.wenc := by
  obtain ⟨⟨r, hr⟩, -⟩ := h
  rw [hr]

section
variable {s : State} {a : Arm} {r : List Arm} (harms : s.wenc.verdictArms = a :: r) (hf : s.frozen pgDRAW = false)
  (hfull : 512 ≤ (gradedOf s a.psa).length)
include harms hf hfull

/-- A verdict given raises VERDICT, and what goes on then leaves it raised. -/
theorem drawVerdict_raises : Runs .drawVerdict s fun t => t.irq pgDRAW 0 := by
  exact runs_of_done _ (congrArg (done s) (State.unlessFrozen_running hf _))
    (irq_of_settled ((pump_events _).irq (drawVerdict_irq harms hfull)))

/-- On a quiet host side nothing else of the write path changes. -/
theorem drawVerdict_gives (hq : s.quiet) : Runs .drawVerdict s fun t => t.wenc.verdictArms = r ∧ s.wenc.toXlt.length < t.wenc.toXlt.length ∧
    (t.wenc.toXlt.drop s.wenc.toXlt.length).head?.map (fun x => (x.slot, x.psa, x.verdict)) = some (a.slot, a.psa, verdictOf s a) ∧
    t.irq pgDRAW 0 := by
  obtain ⟨u, hverdict, hu, -⟩ := drawVerdict_eq harms hfull
  obtain ⟨h, g, w, hgive⟩ := giveVerdict_wenc u a (verdictOf s a) 0
  have hwenc := (pump_quiet (drawVerdict_quiet harms hfull hq)).wenc.trans ((congrArg State.wenc hverdict).trans hgive)
  rw [hu] at hwenc
  refine runs_of_done _ (congrArg (done s) (State.unlessFrozen_running hf _))
    ⟨?_, ?_, ?_, irq_of_settled ((pump_events _).irq (drawVerdict_irq harms hfull))⟩ <;> rw [State.settled_wenc, hwenc]
  · rw [List.length_append, List.length_singleton]
    exact Nat.lt_succ_self _
  · rw [List.drop_left]
    rfl

end

theorem drawVerdict_waits {s : State} (hq : s.quiet)
    (h : s.wenc.verdictArms.head?.all (fun a => decide ((gradedOf s a.psa).length < 512)) = true) :
    Runs .drawVerdict s fun t => t.wenc = s.wenc := by
  refine runs_of_done _ rfl ?_
  rw [State.settled_wenc]
  exact unlessFrozen_wenc pgDRAW (by rw [drawVerdict_idle h, (pump_quiet hq).wenc])

/-! ## The ring of verdict records (R141) -/

/-- The registers that storing a record changes. -/
abbrev ringRegs (a : Nat) : Prop := a = Reg.DRAW_VQ_PROD ∨ memRegs a

theorem vqStore_ring (s : State) (rec : List Nat) : RegsKept ringRegs s (vqStore s rec) :=
  ((RegsKept.of_memOnly (memWrite_memOnly ..)).mono fun _ => .inr).setFld (.inl rfl) _ _ _

theorem vqDrain_kept (n : Nat) (s : State) : RegsKept ringRegs s (vqDrain n s) := by
  induction n generalizing s with
  | zero => exact .refl _ s
  | succ n ih =>
    rw [vqDrain]
    split
    · exact .refl _ s
    · exact .ite ((((RegsKept.refl _ s).setW _).trans (vqStore_ring _ _)).trans (ih _)) (.refl _ s)

theorem vqDrain_none (n : Nat) {s : State} (h : s.wenc.heldRecs = []) : vqDrain n s = s := by
  cases n with
  | zero => rfl
  | succ n => rw [vqDrain, h]

/-- With room in the ring the oldest record held is stored. -/
theorem vqDrain_room (n : Nat) {s : State} {rec : List Nat} {rest : List (List Nat)} (h : s.wenc.heldRecs = rec :: rest)
    (hroom : vqLevel s < vqSize s) : vqDrain (n + 1) s = vqDrain n (vqStore (s.setW { s.wenc with heldRecs := rest }) rec) := by
  rw [vqDrain, h]
  exact if_pos hroom

theorem vqDrain_length_le (n : Nat) (s : State) : (vqDrain n s).wenc.heldRecs.length ≤ s.wenc.heldRecs.length := by
  induction n generalizing s with
  | zero => exact Nat.le_refl _
  | succ n ih =>
    cases h : s.wenc.heldRecs with
    | nil => rw [vqDrain_none _ h, h]
    | cons rec rest =>
      by_cases hroom : vqLevel s < vqSize s
      · have hle := ih (vqStore (s.setW { s.wenc with heldRecs := rest }) rec)
        rw [vqStore_wenc, State.setW_wenc] at hle
        rw [vqDrain_room n h hroom, List.length_cons]
        exact Nat.le_succ_of_le hle
      · rw [vqDrain, h]
        dsimp only
        rw [if_neg hroom, h]

section
variable {s : State} {m : Master} {v new : Word} (h : Takes s m Reg.DRAW_VQ_CONS v new)
include h

theorem drawVqConsWrite_takes : Runs (.drawVqConsWrite m v) s fun t =>
    t.reg Reg.DRAW_VQ_CONS = new ∧ (s.wenc.heldRecs = [] → t.wenc = s.wenc) := by
  have hreg := s.reg_putReg_same (a := Reg.DRAW_VQ_CONS) new (by decide)
  refine runs_of_done _ (congrArg (done s) (regWrite_take h)) ⟨?_, fun hnone => ?_⟩
  · rw [State.settled_reg_plain _ _ _ (by decide), (vqDrain_kept 2 _).reg _ (by decide), hreg]
  · rw [State.settled_wenc, vqDrain_none 2 (by rwa [State.putReg_wenc]), State.putReg_wenc]

theorem drawVqConsWrite_follows (hheld : s.wenc.heldRecs ≠ []) (hroom : (s.fld Reg.DRAW_VQ_PROD 0 11 + 2 * vqSize s -
    fieldOf new 0 11 % (2 * vqSize s)) % (2 * vqSize s) < vqSize s) :
    Runs (.drawVqConsWrite m v) s fun t => t.wenc.heldRecs.length < s.wenc.heldRecs.length := by
  have hput := putReg_kept s (a := Reg.DRAW_VQ_CONS) new
  have hreg := s.reg_putReg_same (a := Reg.DRAW_VQ_CONS) new (by decide)
  have hsize : vqSize (s.putReg Reg.DRAW_VQ_CONS new) = vqSize s := by rw [vqSize, hput.fld (by decide), vqSize]
  have hlevel : vqLevel (s.putReg Reg.DRAW_VQ_CONS new) < vqSize (s.putReg Reg.DRAW_VQ_CONS new) := by
    have hcons : (s.putReg Reg.DRAW_VQ_CONS new).fld Reg.DRAW_VQ_CONS 0 11 = fieldOf new 0 11 := congrArg (fieldOf · 0 11) hreg
    rwa [vqLevel, hsize, hput.fld (by decide), hcons]
  obtain ⟨rec, rest, hrecs⟩ := List.exists_cons_of_ne_nil hheld
  have hle := vqDrain_length_le 1 (vqStore ((s.putReg Reg.DRAW_VQ_CONS new).setW
    { (s.putReg Reg.DRAW_VQ_CONS new).wenc with heldRecs := rest }) rec)
  rw [vqStore_wenc, State.setW_wenc] at hle
  refine runs_of_done _ (congrArg (done s) (regWrite_take h)) ?_
  rw [State.settled_wenc, vqDrain_room 1 (by rw [State.putReg_wenc, hrecs]) hlevel, hrecs, List.length_cons]
  exact Nat.lt_succ_of_le hle

end

/-! ## Trips of the write inhibit (R144, R147, R154) -/

/-- The page of TRC. -/
abbrev trcRegs (a : Nat) : Prop := 0x40008000 ≤ a ∧ a < 0x40009000

theorem RegsKept.setL {P : Nat → Prop} {s t : State} (h : RegsKept P s t) (x : Leng) : RegsKept P s (t.setL x) := h.trans ⟨rfl, fun _ _ => rfl⟩

theorem trcTrigger1_kept (s : State) (c : Nat) (got : Bool) : RegsKept trcRegs s (trcTrigger1 s c got) :=
  .ite (((((((RegsKept.refl _ s).setL _).setL _).setL _).raise (by decide) (by decide) _)).setL _) (.refl _ s)

theorem trcTrigger1_wenc (s : State) (c : Nat) (got : Bool) : (trcTrigger1 s c got).wenc = s.wenc := by
  have hmort : ∀ (u : State) (b : Nat) (w : Word), (u.setMort b w).wenc = u.wenc := fun _ _ _ => (rfl)
  have htrc : ∀ (u : State) (x : TraceCh), (u.setTrc c x).wenc = u.wenc := fun _ _ => (rfl)
  unfold trcTrigger1
  dsimp only
  split
  · rw [htrc, State.raise_wenc, hmort, hmort, hmort]
  · rfl

theorem trcTrigger_kept (got : List Nat) (s : State) (c : Nat) : RegsKept trcRegs s (trcTrigger got s c) :=
  .ite ((trcTrigger1_kept s c _).trans (.foldl (fun s k _ => trcTrigger1_kept s k _) _)) (trcTrigger1_kept s c _)

theorem trcTrigger_wenc (got : List Nat) (s : State) (c : Nat) : (trcTrigger got s c).wenc = s.wenc := by
  unfold trcTrigger
  dsimp only
  split
  · exact keep_foldl (g := State.wenc) (fun s k => trcTrigger1_wenc s k _) _ (trcTrigger1_wenc s c _)
  · exact trcTrigger1_wenc s c _

theorem trcEvent_kept (s : State) (src : Nat) : RegsKept trcRegs s (trcEvent s src) := .foldl (fun s c _ => trcTrigger_kept [] s c) s

theorem trcEvent_wenc (s : State) (src : Nat) : (trcEvent s src).wenc = s.wenc :=
  keep_foldl (g := State.wenc) (fun s c => trcTrigger_wenc [] s c) _ rfl

/-- A trip as WINH latches and reports it, before it reaches a running pass. -/
def tripNoted (s : State) (srcs : Nat) : State :=
  trcEvent (((((s.setReg Reg.WINH_LATCH (s.reg Reg.WINH_LATCH ||| Word.ofNat srcs)).addSat Reg.WINH_CNT 0 16 1).err pgWINH 0x0802
    (lowBit srcs)).raise pgWINH 0).report pgWINH 0x0802 15 []) 2

theorem tripNoted_wenc (s : State) (srcs : Nat) : (tripNoted s srcs).wenc = s.wenc := by
  rw [tripNoted, trcEvent_wenc, State.report_wenc, State.raise_wenc, State.err_wenc, State.addSat_wenc, State.setReg_wenc]

/-- What a trip makes of a running pass, unless its last bit is out. -/
def tripReaches (s : State) (late : Bool) : State :=
  if late then s else match runningArm s with
    | some _ => voidFront (failRest (s.setW { s.wenc with gate := false })) 1
    | none => s

theorem winhTrip_eq (s : State) (srcs : Nat) (late : Bool) :
    winhTrip s srcs late = if srcs = 0 then s else tripReaches (tripNoted s srcs) late := rfl

theorem winhTrip_none (s : State) (late : Bool) : winhTrip s 0 late = s := if_pos rfl

/-- No pass runs, or its last bit is out: the trip reaches no arm. -/
theorem winhTrip_noted {s : State} {srcs : Nat} {late : Bool} (h : srcs ≠ 0) (hl : runningArm s = none ∨ late = true) :
    winhTrip s srcs late = tripNoted s srcs := by
  have hrun : runningArm (tripNoted s srcs) = runningArm s := by rw [runningArm, tripNoted_wenc, runningArm]
  rw [winhTrip_eq, if_neg h, tripReaches, hrun]
  obtain hnone | hlate := hl
  · rw [hnone]
    exact ite_self _
  · exact if_pos hlate

theorem winhTrip_cuts {s : State} {srcs : Nat} {a : Arm} {r : List Arm} (h : srcs ≠ 0) (harms : s.wenc.arms = a :: r) (hrun : a.running = true) :
    winhTrip s srcs false = voidFront (failRest ((tripNoted s srcs).setW { s.wenc with gate := false })) 1 := by
  have hsome : runningArm (tripNoted s srcs) = some a := by
    rw [runningArm, tripNoted_wenc, harms]
    exact if_pos hrun
  rw [winhTrip_eq, if_neg h, tripReaches, if_neg (by decide), hsome, tripNoted_wenc]

/-- The registers a trip changes besides the latch. -/
abbrev tripRegs (a : Nat) : Prop := trcRegs a ∨ a ∈ [Reg.WINH_CNT, Reg.ERR_INFO pgWINH, Reg.IRQ_RAW pgWINH, Reg.IRQ_STAT pgWINH]

theorem tripNoted_kept (s : State) (srcs : Nat) :
    RegsKept tripRegs (s.setReg Reg.WINH_LATCH (s.reg Reg.WINH_LATCH ||| Word.ofNat srcs)) (tripNoted s srcs) :=
  (((((RegsKept.refl _ _).addSat (by decide) _ _ _).err (by decide) _ _).raise (by decide) (by decide) _).report _ _ _ _).trans
    ((trcEvent_kept _ _).mono fun _ => .inl)

/-- What follows a trip's report keeps WINH's events and its error. -/
theorem tripNoted_logs (s : State) (srcs : Nat) : Logs pgWINH (((s.setReg Reg.WINH_LATCH (s.reg Reg.WINH_LATCH ||| Word.ofNat srcs)).addSat
    Reg.WINH_CNT 0 16 1).err pgWINH 0x0802 (lowBit srcs)) (tripNoted s srcs) :=
  (((Logs.refl _ _).raise 0 (by decide)).trans (.of_regs (State.reg_report ..) (State.reg_report ..))).trans
    (.of_regsKept (trcEvent_kept _ _) (by decide) (by decide))

theorem tripNoted_reports (s : State) (srcs : Nat) : s.reports pgWINH 0x0802 (tripNoted s srcs) :=
  (tripNoted_logs s srcs).reports_err (by decide)
    ((State.reg_addSat_ne _ _ _ _ _ _ (by decide)).trans (State.reg_setReg_ne _ _ _ _ (by decide)))

/-- A trip shows: its sources are latched, and its event is raised. -/
structure TripShown (s : State) (srcs : Nat) (t : State) : Prop where
  latch : t.reg Reg.WINH_LATCH = s.reg Reg.WINH_LATCH ||| Word.ofNat srcs
  src : t.reg Reg.WINH_SRC = s.reg Reg.WINH_SRC
  irq : t.irq pgWINH 0

theorem tripNoted_shown (s : State) (srcs : Nat) : TripShown s srcs (tripNoted s srcs) where
  latch := ((tripNoted_kept s srcs).reg _ (by decide)).trans (State.reg_setReg_same ..)
  src := ((tripNoted_kept s srcs).reg _ (by decide)).trans (State.reg_setReg_ne _ _ _ _ (by decide))
  irq := (Logs.of_regsKept (trcEvent_kept _ _) (by decide) (by decide)).irq_stands 0
    ((State.bit_of_reg _ _ _ _ _ (State.reg_report ..)).trans (irq_raise _ pgWINH 0 (by decide)))

theorem TripShown.settled {s t : State} {srcs : Nat} (h : TripShown s srcs t) (u : State) : TripShown s srcs (u.settled t) :=
  ⟨(State.settled_reg_plain _ _ _ (by decide)).trans h.latch, (State.settled_reg_plain _ _ _ (by decide)).trans h.src, irq_of_settled h.irq⟩

/-- A trip that cuts a pass off: it shows, the gate is low, and the front arm is VOID with cause 1. -/
theorem winhTrip_voids {s : State} {srcs : Nat} {a : Arm} {r : List Arm} (h : srcs ≠ 0) (harms : s.wenc.arms = a :: r) (hrun : a.running = true) :
    TripShown s srcs (winhTrip s srcs false) ∧ (winhTrip s srcs false).wenc.arms = r ∧ (winhTrip s srcs false).wenc.gate = false ∧
    (winhTrip s srcs false).wenc.toXlt.getLast?.map (fun x => (x.slot, x.psa, x.verdict, x.cause)) = some (a.slot, a.psa, 3, 1) := by
  have hshown := tripNoted_shown s srcs
  have hpass : RegsKept passRegs (tripNoted s srcs) (winhTrip s srcs false) := by
    rw [winhTrip_cuts h harms hrun]
    exact (((RegsKept.refl _ _).setW _).trans ((failRest_draw _).mono passRegs_of_drawRegs)).trans (voidFront_pass _ 1)
  have hends := failRest_voidFront_ends (s := (tripNoted s srcs).setW { s.wenc with gate := false }) (a := a) (r := r) harms 1
  rw [← winhTrip_cuts h harms hrun] at hends
  exact ⟨⟨(hpass.reg _ (by decide)).trans hshown.latch, (hpass.reg _ (by decide)).trans hshown.src,
    (hpass.bit (by decide) 0).trans hshown.irq⟩, hends.arms, hends.gate, hends.last⟩

/-! ### WINH_TRIP -/

/-- The sources of a trip as WINH_SRC shows them. -/
def srcShown (s : State) (srcs : Nat) : State := s.setReg Reg.WINH_SRC (s.reg Reg.WINH_SRC ||| Word.ofNat (srcs % 65536))

theorem exec_winhTrip (s : State) (srcs : Nat) (late : Bool) :
    exec (.winhTrip srcs late) s = done s (winhTrip (srcShown s srcs) (srcs &&& winhEnabled s) late) := rfl

theorem srcShown_latch (s : State) (srcs : Nat) : (srcShown s srcs).reg Reg.WINH_LATCH = s.reg Reg.WINH_LATCH :=
  State.reg_setReg_ne _ _ _ _ (by decide)
theorem srcShown_src (s : State) (srcs : Nat) : (srcShown s srcs).reg Reg.WINH_SRC = s.reg Reg.WINH_SRC ||| Word.ofNat (srcs % 65536) :=
  State.reg_setReg_same ..
theorem srcShown_wenc (s : State) (srcs : Nat) : (srcShown s srcs).wenc = s.wenc := State.setReg_wenc ..

theorem winhTrip_latches {s : State} {srcs : Nat} {late : Bool} (h : srcs &&& winhEnabled s ≠ 0) (hl : runningArm s = none ∨ late = true) :
    Runs (.winhTrip srcs late) s fun t => t.reg Reg.WINH_LATCH = s.reg Reg.WINH_LATCH ||| Word.ofNat (srcs &&& winhEnabled s) ∧
      t.reg Reg.WINH_SRC = s.reg Reg.WINH_SRC ||| Word.ofNat (srcs % 65536) ∧ t.wenc = s.wenc ∧ t.irq pgWINH 0 ∧ s.reports pgWINH 0x0802 t := by
  have hl' : runningArm (srcShown s srcs) = none ∨ late = true := by rwa [runningArm, srcShown_wenc, ← runningArm]
  have hshown := (tripNoted_shown (srcShown s srcs) (srcs &&& winhEnabled s)).settled s
  refine runs_of_done _ ((exec_winhTrip s srcs late).trans (congrArg (done s) (winhTrip_noted h hl'))) ⟨?_, ?_, ?_, hshown.irq, reports_of_settled ?_⟩
  · rw [hshown.latch, srcShown_latch]
  · rw [hshown.src, srcShown_src]
  · rw [State.settled_wenc, tripNoted_wenc, srcShown_wenc]
  · exact reports_of_reg (tripNoted_reports _ _) (State.reg_setReg_ne _ _ _ _ (by decide))

theorem winhTrip_cutsPass {s : State} {srcs : Nat} {a : Arm} {r : List Arm} (h : srcs &&& winhEnabled s ≠ 0) (harms : s.wenc.arms = a :: r)
    (hrun : a.running = true) : Runs (.winhTrip srcs false) s fun t =>
      t.reg Reg.WINH_LATCH = s.reg Reg.WINH_LATCH ||| Word.ofNat (srcs &&& winhEnabled s) ∧
      t.reg Reg.WINH_SRC = s.reg Reg.WINH_SRC ||| Word.ofNat (srcs % 65536) ∧ t.wenc.arms = r ∧ t.wenc.gate = false ∧ t.irq pgWINH 0 ∧
      t.wenc.toXlt.getLast?.map (fun x => (x.slot, x.psa, x.verdict, x.cause)) = some (a.slot, a.psa, 3, 1) := by
  obtain ⟨hshown, hleft, hgate, hlast⟩ := winhTrip_voids (s := srcShown s srcs) h harms hrun
  have hshown := hshown.settled s
  refine runs_of_done _ (exec_winhTrip s srcs false) ⟨?_, ?_, hleft, hgate, hshown.irq, hlast⟩
  · rw [hshown.latch, srcShown_latch]
  · rw [hshown.src, srcShown_src]

theorem winhTrip_disabled {s : State} {srcs : Nat} (late : Bool) (h : srcs &&& winhEnabled s = 0) : Runs (.winhTrip srcs late) s fun t =>
    t.reg Reg.WINH_LATCH = s.reg Reg.WINH_LATCH ∧ t.reg Reg.WINH_SRC = s.reg Reg.WINH_SRC ||| Word.ofNat (srcs % 65536) ∧ t.wenc = s.wenc := by
  have hnone : winhTrip (srcShown s srcs) (srcs &&& winhEnabled s) late = srcShown s srcs := by rw [h, winhTrip_none]
  refine runs_of_done _ ((exec_winhTrip s srcs late).trans (congrArg (done s) hnone)) ⟨?_, ?_, ?_⟩
  · rw [State.settled_reg_plain _ _ _ (by decide), srcShown_latch]
  · rw [State.settled_reg_plain _ _ _ (by decide), srcShown_src]
  · rw [State.settled_wenc, srcShown_wenc]

/-! ### WINH_FORCE -/

section
variable {s : State} {m : Master} {v new : Word} (h : Takes s m Reg.WINH_FORCE v new)
include h

theorem winhForce_runs {late : Bool} {P : State → Prop} (hv : fieldOf v 0 1 = 1)
    (hp : P (s.settled (winhTrip (s.putReg Reg.WINH_FORCE new) 65536 late))) : Runs (.winhForce m v late) s P :=
  runs_of_done _ (congrArg (done s) ((regWrite_take h).trans (if_pos hv))) hp

theorem winhForce_none (late : Bool) (hv : fieldOf v 0 1 = 0) :
    Runs (.winhForce m v late) s fun t => t.reg Reg.WINH_LATCH = s.reg Reg.WINH_LATCH ∧ t.wenc = s.wenc := by
  have hnot : ¬fieldOf v 0 1 = 1 := by omega
  refine runs_of_done _ (congrArg (done s) ((regWrite_take h).trans (if_neg hnot))) ⟨?_, ?_⟩
  · rw [State.settled_reg_plain _ _ _ (by decide), (putReg_kept s new).reg _ (by decide)]
  · rw [State.settled_wenc, State.putReg_wenc]

end

/-- A trip by software latches bit 16. -/
theorem TripShown.forced {s t : State} (h : TripShown s 65536 t) : t.bit Reg.WINH_LATCH 16 = true := by
  rw [State.bit, State.fld, h.latch, fieldOf_or_bit, show (fieldOf (Word.ofNat 65536) 16 1 == 1) = true by decide, Bool.or_true]

theorem winhForce_latches {s : State} {m : Master} {v new : Word} {late : Bool} (h : Takes s m Reg.WINH_FORCE v new) (hv : fieldOf v 0 1 = 1)
    (hl : runningArm s = none ∨ late = true) : Runs (.winhForce m v late) s fun t =>
      t.bit Reg.WINH_LATCH 16 = true ∧ t.wenc = s.wenc ∧ t.irq pgWINH 0 ∧ s.reports pgWINH 0x0802 t := by
  have hl' : runningArm (s.putReg Reg.WINH_FORCE new) = none ∨ late = true := by rwa [runningArm, State.putReg_wenc, ← runningArm]
  have hshown := (tripNoted_shown (s.putReg Reg.WINH_FORCE new) 65536).settled s
  refine winhForce_runs h hv ?_
  rw [winhTrip_noted (by decide) hl']
  refine ⟨hshown.forced, ?_, hshown.irq, reports_of_settled ?_⟩
  · rw [State.settled_wenc, tripNoted_wenc, State.putReg_wenc]
  · exact reports_of_reg (tripNoted_reports _ _) ((putReg_kept s new).reg _ (by decide))

theorem winhForce_cutsPass {s : State} {m : Master} {v new : Word} {a : Arm} {r : List Arm} (h : Takes s m Reg.WINH_FORCE v new)
    (hv : fieldOf v 0 1 = 1) (harms : s.wenc.arms = a :: r) (hrun : a.running = true) : Runs (.winhForce m v false) s fun t =>
      t.bit Reg.WINH_LATCH 16 = true ∧ t.wenc.arms = r ∧ t.wenc.gate = false ∧ t.irq pgWINH 0 ∧
      t.wenc.toXlt.getLast?.map (fun x => (x.slot, x.psa, x.verdict, x.cause)) = some (a.slot, a.psa, 3, 1) := by
  have harms' : (s.putReg Reg.WINH_FORCE new).wenc.arms = a :: r := by rw [State.putReg_wenc, harms]
  obtain ⟨hshown, hleft, hgate, hlast⟩ := winhTrip_voids (srcs := 65536) (by decide) harms' hrun
  have hshown := hshown.settled s
  exact winhForce_runs h hv ⟨hshown.forced, hleft, hgate, hshown.irq, hlast⟩

/-! ## Clearing the latch (R148, R281) -/

/-- Sources out of their windows as a clear sees them: source 16 is out while the last gasp runs. -/
def outSeen (s : State) (out : Word) : Word := if lgRuns s then out ||| 65536#32 else out

/-- The latch after a clear, before the refusal is noted. -/
def latchCleared (v o : Word) (s : State) : State :=
  (s.setReg Reg.WINH_SRC (o &&& 0xFFFF#32)).setReg Reg.WINH_LATCH (s.reg Reg.WINH_LATCH &&& ~~~(v &&& ~~~(v &&& o &&& s.reg Reg.WINH_LATCH)))

theorem winhClear_eq (v out : Word) (s : State) : winhClear v out s =
    if v &&& outSeen s out &&& s.reg Reg.WINH_LATCH = 0#32 then latchCleared v (outSeen s out) s
    else ((latchCleared v (outSeen s out) s).raise pgWINH 1).err pgWINH 0x0803 0 := by
  have hlatch : ∀ w, (s.setReg Reg.WINH_SRC w).reg Reg.WINH_LATCH = s.reg Reg.WINH_LATCH := fun w => State.reg_setReg_ne _ _ _ _ (by decide)
  unfold winhClear latchCleared outSeen
  dsimp only
  rw [hlatch]

theorem latchCleared_kept (v o : Word) (s : State) : RegsKept (fun a => a = Reg.WINH_SRC ∨ a = Reg.WINH_LATCH) s (latchCleared v o s) :=
  ((RegsKept.refl _ s).setReg (.inl rfl) _).setReg (.inr rfl) _

theorem winhClear_src {s u : State} {v out : Word} (hrun : lgRuns u = lgRuns s) : (winhClear v out u).reg Reg.WINH_SRC = outSeen s out &&& 0xFFFF#32 := by
  have hafter : (latchCleared v (outSeen u out) u).reg Reg.WINH_SRC = outSeen s out &&& 0xFFFF#32 := by
    rw [latchCleared, State.reg_setReg_ne _ _ _ _ (by decide), State.reg_setReg_same, outSeen, hrun, outSeen]
  rw [winhClear_eq]
  split
  · exact hafter
  · rw [State.reg_err_ne _ _ _ _ _ (by decide), State.reg_raise_ne _ _ _ _ (by decide) (by decide), hafter]

section
variable {s u : State} {v out : Word} (hlatch : u.reg Reg.WINH_LATCH = s.reg Reg.WINH_LATCH) (hrun : lgRuns u = lgRuns s)
include hlatch hrun

theorem winhClear_latch : (winhClear v out u).reg Reg.WINH_LATCH =
    s.reg Reg.WINH_LATCH &&& ~~~(v &&& ~~~(v &&& outSeen s out &&& s.reg Reg.WINH_LATCH)) := by
  have hafter : (latchCleared v (outSeen u out) u).reg Reg.WINH_LATCH =
      s.reg Reg.WINH_LATCH &&& ~~~(v &&& ~~~(v &&& outSeen s out &&& s.reg Reg.WINH_LATCH)) := by
    rw [latchCleared, State.reg_setReg_same, hlatch, outSeen, hrun, outSeen]
  rw [winhClear_eq]
  split
  · exact hafter
  · rw [State.reg_err_ne _ _ _ _ _ (by decide), State.reg_raise_ne _ _ _ _ (by decide) (by decide), hafter]

theorem winhClear_refuses (h : v &&& outSeen s out &&& s.reg Reg.WINH_LATCH ≠ 0#32) :
    winhClear v out u = ((latchCleared v (outSeen u out) u).raise pgWINH 1).err pgWINH 0x0803 0 := by
  rw [winhClear_eq, if_neg]
  rwa [hlatch, outSeen, hrun, ← outSeen]

end

theorem winhLatchClear_clears {s : State} {m : Master} {v new : Word} (out : Nat) (h : Takes s m Reg.WINH_LATCH v new) :
    Runs (.winhLatchClear m v out) s fun t =>
      t.reg Reg.WINH_LATCH = s.reg Reg.WINH_LATCH &&& ~~~(v &&& ~~~(v &&& outSeen s (Word.ofNat (out % 65536)) &&& s.reg Reg.WINH_LATCH)) ∧
      t.reg Reg.WINH_SRC = outSeen s (Word.ofNat (out % 65536)) &&& 0xFFFF#32 ∧
      (v &&& outSeen s (Word.ofNat (out % 65536)) &&& s.reg Reg.WINH_LATCH ≠ 0#32 → t.irq pgWINH 1 ∧ s.reports pgWINH 0x0803 t) := by
  have hkept : RegsKept (· = Reg.WINH_LATCH) s ((s.putReg Reg.WINH_LATCH new).setReg Reg.WINH_LATCH (s.reg Reg.WINH_LATCH)) :=
    (putReg_kept s new).setReg rfl _
  have hlatch : ((s.putReg Reg.WINH_LATCH new).setReg Reg.WINH_LATCH (s.reg Reg.WINH_LATCH)).reg Reg.WINH_LATCH = s.reg Reg.WINH_LATCH :=
    State.reg_setReg_same ..
  have hrun : lgRuns ((s.putReg Reg.WINH_LATCH new).setReg Reg.WINH_LATCH (s.reg Reg.WINH_LATCH)) = lgRuns s := by
    rw [lgRuns, hkept.fld (by decide), lgRuns]
  refine runs_of_done _ (congrArg (done s) (regWrite_take h)) ⟨?_, ?_, fun hne => ?_⟩
  · rw [State.settled_reg_plain _ _ _ (by decide), winhClear_latch hlatch hrun]
  · rw [State.settled_reg_plain _ _ _ (by decide), winhClear_src hrun]
  · rw [winhClear_refuses hlatch hrun hne]
    refine ⟨irq_of_settled ?_, reports_settled s _ _ (by decide) (by decide) ?_⟩
    · exact ((Logs.refl _ _).err _ _ (by decide)).irq_stands 1 (irq_raise _ pgWINH 1 (by decide))
    · rw [State.reg_raise_ne _ _ _ _ (by decide) (by decide), (latchCleared_kept ..).reg _ (by decide), hkept.reg _ (by decide)]

/-! ## The obligation -/

/-- Settles O24: each command runs its function on the state after its register's write, and the lemmas above say what that leaves; an
event of DRAW stands over what goes on after a verdict (`pump_events`). -/
theorem strategyLoadsVerdictsAndInhibitLatch : Obligations.StrategyLoadsVerdictsAndInhibitLatch := by
  unfold Obligations.StrategyLoadsVerdictsAndInhibitLatch
  refine ⟨?_, ?_, ?_, ?_, ?_, ?_, ?_, ?_, ?_, ?_, ?_, ?_, ?_, ?_, ?_, ?_, ?_, ?_⟩
  · rintro s m v new ⟨h, hf, hv, hidle, hbad⟩
    exact wsgLoad_misfit h hf hv hidle hbad fun u hkept hreg _ => loadRefused_reports hidle hkept hreg
  · rintro s m v new ws ⟨h, hf, hv, hidle, hcount, hend, hlayer, harms, herr, rfl, hlegal⟩
    exact wsgLoad_takes h hf hv hidle (not_loadMisfits hcount hend hlayer harms) herr hlegal
  · rintro s m v new ws ⟨h, hf, hv, hidle, hcount, hend, hlayer, harms, rfl, hbad⟩
    exact wsgLoad_refuses h hf hv hidle (not_loadMisfits hcount hend hlayer harms) hbad
  · rintro s m v new ⟨h, hidle⟩
    exact wsgLoad_idle h hidle
  · rintro s ⟨hf, hrun, hlayer, hlen⟩
    exact wsgLoadDone_sets hf hrun hlayer hlen
  · rintro s ⟨hwf, h⟩
    exact runs_unchanged hwf rfl (unlessFrozen_idle loadDone_idle h)
  · rintro s a r ⟨hq, harms, hf, hfull⟩
    exact drawVerdict_gives harms hf hfull hq
  · rintro s a r ⟨harms, hf, hfull⟩
    exact drawVerdict_raises harms hf hfull
  · rintro s ⟨hq, h⟩
    exact drawVerdict_waits hq h
  · intro s m v new h
    exact drawVqConsWrite_takes h
  · rintro s m v new ⟨h, hheld, hroom⟩
    exact drawVqConsWrite_follows h hheld hroom
  · rintro s srcs late ⟨h, hl⟩
    exact winhTrip_latches h hl
  · rintro s srcs a r ⟨h, harms, hrun⟩
    exact winhTrip_cutsPass h harms hrun
  · intro s srcs late h
    exact winhTrip_disabled late h
  · rintro s m v new late ⟨h, hv, hl⟩
    exact winhForce_latches h hv hl
  · rintro s m v new a r ⟨h, hv, harms, hrun⟩
    exact winhForce_cutsPass h hv harms hrun
  · rintro s m v new late ⟨h, hv⟩
    exact winhForce_none h late hv
  · rintro s m v new out o ⟨h, rfl⟩
    exact winhLatchClear_clears out h

end Sys2Proof.Machine
end
